-- ==== Sys2Proof/Word.lean ====
section
/-! DEFINITION. The words of the SG-3264: bytes, 32-bit registers, byte strings, and the index types of its
repeated parts. -/

namespace Sys2Proof

/-- One byte of a packet, a register image or a memory. -/
abbrev Byte := BitVec 8

/-- A register of the block map (R8). -/
abbrev Word := BitVec 32

/-- A byte string: keys, nonces, digests, payloads (R131). -/
abbrev Bytes := List (BitVec 8)

/-- The four host ports in owner order (Table 5-1): 0 HPA, 1 HPB, 2 SFP, 3 MNT; the owner ID is one more. -/
abbrev Port := Fin 4

/-- Owner ID of the partner on a port (Table 5-1). -/
def Port.id (p : Port) : Nat := p.val + 1

/-- A time in device time: 96 bits of 2^-16 ns (R132) are kept as one natural number of 2^-16 ns. -/
abbrev Time96 := Nat

/-- Change entry `i` of a bank. -/
def bankUpd {α : Type} {n : Nat} (v : Vector α n) (i : Fin n) (f : α → α) : Vector α n :=
  v.set i.val (f (v.get i)) i.isLt

/-- Put `x` into entry `i` of a bank. -/
def bankSet {α : Type} {n : Nat} (v : Vector α n) (i : Fin n) (x : α) : Vector α n :=
  v.set i.val x i.isLt

/-- All the entries of a bank with their numbers. -/
def bankList {α : Type} {n : Nat} (v : Vector α n) : List (Fin n × α) :=
  (List.finRange n).map fun i => (i, v.get i)

end Sys2Proof
end

