-- ==== Sys2Proof/Syntax/Packet.lean ====
section
/-! DEFINITION. The header of a Psiesk packet (Table 6-1) and how it came: operands of the host commands' rows. -/

namespace Sys2Proof

/-- Under which key the tag of a command verifies (R112): K_C of the owner's session, the zero key, or neither. -/
inductive TagKey where
  | sessionKey | zeroKey | neither
  deriving DecidableEq, Repr

/-- What the port adds to a command: where its reply goes (R92, R123). -/
inductive Carriage where
  /-- HPA: index of the SQ entry, RSP_CAP and RSP_ADDR. -/
  | ring (sqIndex : Nat) (rspCap : Nat) (rspAddr : Nat)
  /-- HPB: source address and UDP port of the command. -/
  | udp (srcIp : Word) (srcPort : BitVec 16)
  /-- SFP. -/
  | sfp
  /-- MNT. -/
  | mnt
  deriving DecidableEq, Repr

/-- What the MAC reads of a frame received on HPB: destination address and the VID of its 802.1Q tag, none: untagged
(R92, R93). -/
structure EthRx where
  dst  : Bytes
  vlan : Option (BitVec 12)
  deriving DecidableEq, Repr

/-- A frame with an IPv4 datagram: source and destination address. -/
structure IpRx where
  eth : EthRx
  src : Word
  dst : Word
  deriving DecidableEq, Repr

/-- A frame with an ARP request: the sender's MAC address as the request gives it. -/
structure ArpRx where
  eth : EthRx
  mac : Bytes
  deriving DecidableEq, Repr

/-- What a scrub pass reads: a vat line, a core-store line, or a stack that scrubs itself and reports (R160). -/
inductive ScrubAt where
  | vat | core | stack
  deriving DecidableEq, Repr

/-- Where an uncorrectable error or a tag mismatch is met (R173, R196, R343): the core store of a core of the attempt, the
core-store weights of an axis's network, a bound region, broke in HBM or in the vat. -/
inductive ErrAt where
  | coreStore (core : Fin 32)
  | weights (axis : Fin 8) (kind : Fin 3)
  | region
  | broke (vat : Bool)
  deriving DecidableEq, Repr

/-- Where a hash table was rebuilt: the attempt's tag, the core, the index of the operator's node (R187). -/
structure RebuildAt where
  tag  : Fin 64
  core : Fin 32
  node : Nat
  deriving DecidableEq, Repr

/-- An edge at a timer's capture input: the level it leads to, the D02 cycles that level had been stable at the recognition, and
the D02 cycle of the tick in which that fell (R293). -/
structure CapEdge where
  timer  : Fin 16
  rising : Bool
  stable : Nat
  cycle  : Fin 4
  deriving DecidableEq, Repr

/-- What a unit's checker has received from the first bit it seeds or aligns itself from (R445). -/
structure LockRx where
  unit : Fin 16
  bits : List Bool
  deriving DecidableEq, Repr

/-- A misused token: one that is not the attempt's own, or its own that a signal would take past 0x00FF_FFFF (R214). -/
inductive Misused where
  | foreign (token : BitVec 16)
  | overflow (token : BitVec 16)
  deriving DecidableEq, Repr

/-- A command packet's header, the key its tag verifies under, and its carriage (Table 6-1). -/
structure Hdr where
  port    : Port
  version : Byte
  owner   : BitVec 4
  enc     : Bool
  dup     : Bool
  event   : Bool
  bit7    : Bool
  tag     : BitVec 16
  cls     : Byte
  seq     : Word
  idx     : Word
  key     : TagKey
  via     : Carriage
  deriving DecidableEq, Repr

/-- The payload of OPEN_SESSION (Table 7-2). -/
structure OpenP where
  keyId : Word
  qH    : Bytes   -- 97 bytes
  nH    : Bytes   -- 32 bytes
  sig   : Bytes   -- 96 bytes
  deriving DecidableEq, Repr

/-- The payload of LEASE_TAKE and LEASE_RENEW (Table 7-3). -/
structure LeaseP where
  duration : Word
  tags     : Byte
  coresMin : Byte
  deriving DecidableEq, Repr

/-- The payload of REG_WRITE (Table 7-5). -/
structure RegWriteP where
  addr   : Word
  count  : Word
  values : List Word
  deriving DecidableEq, Repr

/-- One binding of JOB_SUBMIT (Table 7-6). -/
structure BindP where
  slot   : BitVec 16
  kind   : Byte
  target : Word        -- REGION, or the port for KIND 2
  offset : BitVec 64
  deriving DecidableEq, Repr

/-- The payload of JOB_SUBMIT (Table 7-6). -/
structure SubmitP where
  graph       : Word
  retry       : Byte
  autoRelease : Bool
  waitToken   : BitVec 16
  signalToken : BitVec 16
  binds       : List BindP
  deriving DecidableEq, Repr

/-- The payload of FW_STAGE (Table 7-11). -/
structure StageP where
  image  : Byte
  close  : Bool
  total  : Word
  offset : Word
  data   : Bytes
  deriving DecidableEq, Repr

end Sys2Proof

namespace Sys2Proof

/-- The payload of SENSOR_CONFIG (Table 13-3). -/
structure SnsCfgP where
  lanes : Byte
  clkMode : Byte
  dt : Byte
  unit : Byte
  vcDepth : Byte
  conf : Byte
  bufs : Byte
  byteOrder : Byte
  laneRate : BitVec 16
  width : BitVec 16
  height : BitVec 16
  timeoutMs : BitVec 16
  deriving DecidableEq, Repr

/-- The payload of SENSOR_ARM. -/
structure SnsArmP where
  token : BitVec 16
  syncMask : BitVec 6
  trigSrc : Byte
  windowUs : BitVec 16
  count : BitVec 16
  deriving DecidableEq, Repr

end Sys2Proof

namespace Sys2Proof

/-- The payload of TIME_REF_SELECT (Table 14-4). -/
structure TimeRefP where
  primary : Byte
  backup : Byte
  delay : Byte
  domain : Byte
  transport : Byte
  ppsiEdge : Byte
  save : Bool
  setSec : Bool
  stepLimit : Word
  slewMax : BitVec 16
  seconds : BitVec 48
  deriving DecidableEq, Repr

/-- The payload of PULSE_CONFIG. -/
structure PulseP where
  pulse : Byte
  en : Bool
  pol : Bool
  gate : Bool
  trim : BitVec 16
  startFrac : BitVec 16
  startNs : Word
  startSec : BitVec 48
  period : BitVec 64
  width : BitVec 64
  deriving DecidableEq, Repr

/-- The payload of AXIS_CONFIG (Table 16-7). -/
structure AxisCfgP where
  pwmHz : Word
  dt : Byte
  reverse : Bool
  lostAction : Byte
  iFs : BitVec 16
  vFs : BitVec 16
  iMax : BitVec 16
  alignI : BitVec 16
  alignMs : BitVec 16
  hfiHz : BitVec 16
  hfiAmp : BitVec 16
  couchLo : Word
  couchHi : Word
  spdMax : Word
  agreeDeg : BitVec 16
  agreeN : Byte
  accel : Word
  decel : Word
  residMax : Word
  satHoldUs : BitVec 16
  rampMs : BitVec 16
  curKp : BitVec 16
  curKi : BitVec 16
  spdKp : BitVec 16
  spdKi : BitVec 16
  deriving DecidableEq, Repr

/-- The payload of AXIS_COMMAND (Table 16-8). -/
structure AxisCmdP where
  mode : Byte
  setpoint : Word
  iLimit : BitVec 16
  spdLimit : Word
  deriving DecidableEq, Repr

/-- The payload of OBSERVER_LOAD (Table 17-3). -/
structure ObsLoadP where
  unload : Byte
  kind : Byte
  nin : Byte
  nout : Byte
  nhid : Byte
  act : Byte
  h : Vector Byte 3
  region : Word
  offset : BitVec 64
  length : Word
  inmap : Vector Byte 16
  lo : Vector Word 4
  hi : Vector Word 4
  slew : Vector Word 4
  deriving DecidableEq, Repr

/-- What an axis converts at a valley (Table 16-1) and what its injection estimator reports: inputs of the
AXIS_VALLEY_SAMPLE row. -/
structure ValleySample where
  iu : BitVec 16
  iv : BitVec 16
  iw : BitVec 16
  vu : BitVec 14
  vv : BitVec 14
  vw : BitVec 14
  vdc : BitVec 14
  thetaHfi : BitVec 16     -- 0.01°
  speedHfi : Word          -- 0.1 Hz, signed
  response : Word          -- injection response, FP32 (Table 17-2, code 12)
  deriving DecidableEq, Repr

end Sys2Proof

namespace Sys2Proof

/-- A time of day as a payload carries it (R132). -/
structure Time12 where
  frac : BitVec 16
  ns   : Word
  sec  : BitVec 48
  deriving DecidableEq, Repr

/-- The payload of LIGHT_GROUP_CONFIG (Table 18-1). -/
structure LightCfgP where
  colour   : Byte
  ctrlSrc  : Byte
  failsafe : Byte
  lts      : Byte
  mask     : BitVec 48
  deriving DecidableEq, Repr

/-- One entry of LIGHT_SET (Table 18-3). -/
structure LightEntryP where
  sink : Byte
  code : BitVec 16
  duty : BitVec 16
  deriving DecidableEq, Repr

/-- The payload of LIGHT_SET; NSINK is the number of entries. -/
structure LightSetP where
  time    : Time12
  entries : List LightEntryP
  deriving DecidableEq, Repr

/-- The payload of STROBE_ARM (Table 18-4). -/
structure StrobeP where
  op     : Byte
  tp     : Byte
  offset : Word
  length : Word
  count  : Word
  deriving DecidableEq, Repr

/-- The payload of MATRIX_FRAME (Table 18-8). -/
structure MatrixP where
  mask  : BitVec 16
  tPre  : Byte
  codes : Bytes      -- 384 codes
  deriving DecidableEq, Repr

/-- The payload of GEAR_CONFIG (Table 19-2). -/
structure GearP where
  op      : Byte
  bus     : Byte
  slot    : Byte
  curve   : Byte
  short   : Byte
  sysFail : Byte
  powerOn : Byte
  groups  : BitVec 16
  deriving DecidableEq, Repr

/-- The payload of RADIO_CONFIG (Table 20-6). -/
structure RadioP where
  mask     : BitVec 16
  startCh  : Byte
  txDbm    : Byte
  interfN  : Byte
  edDbm    : Byte
  evmAbort : BitVec 16
  netId    : BitVec 16
  silentMs : BitVec 16
  en       : Bool
  deriving DecidableEq, Repr

/-- The payload of TAG_ADMIT. -/
structure AdmitP where
  long     : BitVec 64
  gslot    : Byte
  rejoin   : Bool
  timeoutS : BitVec 16
  counterMin : Word
  key      : Bytes     -- 16 bytes
  deriving DecidableEq, Repr

/-- The payload of TAG_SEND: LEN is the number of data bytes. -/
structure SendP where
  ref  : BitVec 16
  data : Bytes
  deriving DecidableEq, Repr

/-- The payload of LINK_TEST_START (Table 22-3). -/
structure LinkStartP where
  pattern : Byte
  loop    : Byte
  eye     : Bool
  inject  : Bool
  lanes   : Byte
  user    : BitVec 64
  bits    : BitVec 48
  deriving DecidableEq, Repr

end Sys2Proof

namespace Sys2Proof

/-- Whom a forward frame addresses (IEC 62386-102 addressing, R376). -/
inductive BusAddr where
  | short (a : Fin 64)
  | group (g : Fin 16)
  | broadcast
  | unaddressed        -- broadcast to gear without a short address
  deriving DecidableEq, Repr

/-- A radio frame received by the coordinator: the MPDU, whether its CRC passed, its EVM in 0.1 % (R395). -/
structure RadioRx where
  mpdu  : Bytes
  crcOk : Bool
  evm   : Nat
  deriving DecidableEq, Repr

/-- A beacon received by the tag (Table 20-4). -/
structure BeaconRx where
  slotAck : Byte
  next    : BitVec 4
  count   : BitVec 4
  k       : Nat
  pending : Word
  netId   : BitVec 16
  chanMask : BitVec 16
  deriving DecidableEq, Repr

/-- A DATA frame from the coordinator whose MIC the tag has verified: its SEQ and FC, and the ID of the command it
carries (R428, R436). -/
structure TagCmdRx where
  seq : Byte
  fc  : Word
  id  : Byte
  deriving DecidableEq, Repr

/-- Margins of one lane of an eye scan (R449). -/
structure EyeP where
  left   : Nat
  right  : Nat
  top    : Nat
  bottom : Nat
  deriving DecidableEq, Repr

/-- What carries a PTP message to the device (Table 14-1). -/
inductive PtpNet where
  | udp4 (eth : EthRx)
  | udp6 (eth : EthRx)
  | ethernet (eth : EthRx)
  deriving DecidableEq, Repr

def PtpNet.eth : PtpNet → EthRx
  | .udp4 e | .udp6 e | .ethernet e => e

/-- How a PTP message arrives: its carriage, and what makes it one the device ignores and counts (Table 14-1, R288). -/
structure PtpRx where
  net        : PtpNet
  unicast    : Bool      -- sent by or for unicast negotiation
  foreignTlv : Bool      -- carries a TLV that is none of the default profile
  malformed  : Bool
  deriving DecidableEq, Repr

/-- Announce: what the best master clock algorithm compares (R272). -/
structure PtpAnnounce where
  rx        : PtpRx
  domain    : Nat
  clockId   : Nat
  port      : Nat
  priority1 : Nat
  clockClass : Nat
  accuracy  : Nat
  variance  : Nat
  priority2 : Nat
  gmId      : Nat
  steps     : Nat
  deriving DecidableEq, Repr

/-- A general message that a master sends of itself: an Announce, or one the device ignores whatever it says. -/
inductive PtpGeneral where
  | announce (m : PtpAnnounce)
  | management (rx : PtpRx)
  | signaling (rx : PtpRx)
  deriving DecidableEq, Repr

def PtpGeneral.rx : PtpGeneral → PtpRx
  | .announce m => m.rx
  | .management r | .signaling r => r

/-- Sync: sender, sequence, whether a Follow_Up comes, origin time and correction in 2^-16 ns. Its receive time is the
device time of the tick plus `sub` times 0.1 ns (R273). -/
structure PtpSync where
  rx        : PtpRx
  domain    : Nat
  clockId   : Nat
  port      : Nat
  seq       : Nat
  twoStep   : Bool
  origin    : Int
  correction : Int
  logInterval : Int
  sub       : Nat
  deriving DecidableEq, Repr

/-- Follow_Up. -/
structure PtpFollow where
  rx        : PtpRx
  domain    : Nat
  clockId   : Nat
  port      : Nat
  seq       : Nat
  origin    : Int
  correction : Int
  deriving DecidableEq, Repr

/-- Delay_Resp: the receive time at the master and the correction, 2^-16 ns; `toUs`: it answers the device's own request. -/
structure PtpDelayResp where
  rx        : PtpRx
  domain    : Nat
  clockId   : Nat
  port      : Nat
  seq       : Nat
  toUs      : Bool
  receive   : Int
  correction : Int
  logInterval : Int
  deriving DecidableEq, Repr

/-- Pdelay_Req of the peer. -/
structure PtpPdelayReq where
  rx        : PtpRx
  domain    : Nat
  clockId   : Nat
  port      : Nat
  seq       : Nat
  rxSub     : Nat
  txSub     : Nat
  deriving DecidableEq, Repr

/-- Pdelay_Resp, or its Follow_Up: t2 or t3 of the peer and the correction, 2^-16 ns; `toUs`: it answers the device's own request. -/
structure PtpPdelayResp where
  rx        : PtpRx
  domain    : Nat
  followUp  : Bool
  toUs      : Bool
  seq       : Nat
  time      : Int
  correction : Int
  twoStep   : Bool
  sub       : Nat
  deriving DecidableEq, Repr

end Sys2Proof
end

