-- ==== Sys2Proof/Syntax/Command.lean ====
section
/-! DEFINITION. The Psiesk commands with their payloads (Table 7-1): what a command row of `Instr` and a packet decoded
from a port both come to. -/

namespace Sys2Proof

/-- One Psiesk command. A payload whose bytes shown as zero are not zero does not stand here: the port's decoder
answers it (R130). -/
inductive Cmd where
  | hello
  | openSession (p : OpenP)
  | closeSession
  | getWatermark (nonce : Bytes)
  | getCerts (offset length : Word)
  | leaseTake (p : LeaseP)
  | leaseRenew (p : LeaseP)
  | leaseRelease
  | leaseQuery
  | regRead (addr count : Word)
  | regWrite (p : RegWriteP)
  | regModify (addr mask value : Word)
  | memAlloc (size : BitVec 64) (place : Byte)
  | memFree (region : Word)
  | memWrite (region : Word) (offset : BitVec 64) (data : Bytes)
  | memRead (region length : Word) (offset : BitVec 64)
  | memFill (region pattern : Word) (offset length : BitVec 64)
  | graphLoad (region : Word) (offset : BitVec 64) (length : Word)
  | graphUnload (graph : Word)
  | jobSubmit (p : SubmitP)
  | jobCancel (tag : Byte)
  | jobStatus (tag : Byte) (release : Bool)
  | resultFetch (tag : Byte) (release : Bool) (first count : Word)
  | tokenAlloc (initial : Word)
  | tokenSignal (token : BitVec 16) (amount : Word)
  | tokenWait (token : BitVec 16) (amount timeout : Word)
  | tokenFree (token : BitVec 16)
  | sensorConfig (p : SnsCfgP)
  | sensorArm (p : SnsArmP)
  | sensorDisarm (mode : Byte)
  | timeGet
  | timeRefSelect (p : TimeRefP)
  | pulseConfig (p : PulseP)
  | axisConfig (p : AxisCfgP)
  | axisEnable (en : Byte) (realign : Bool)
  | axisCommand (p : AxisCmdP)
  | axisStop (cat : Byte)
  | observerLoad (p : ObsLoadP)
  | axisStatus
  | lightGroupConfig (p : LightCfgP)
  | lightSet (p : LightSetP)
  | strobeArm (p : StrobeP)
  | matrixFrame (p : MatrixP)
  | gearConfig (p : GearP)
  | radioConfig (p : RadioP)
  | tagAdmit (p : AdmitP)
  | tagExpel
  | tagSend (p : SendP)
  | tagEventsFetch (maxWords : BitVec 16)
  | linkTestStart (p : LinkStartP)
  | linkTestResult
  | safeStop (mask cat : Byte)
  | safeRelease (mask : Byte)
  | safeStatus
  | fwStage (p : StageP)
  | fwCommit (slot : Byte) (token : Bool)
  | resetDevice (delay : Word)
  | eventSubscribe (mask : Word) (enc : Bool)
  | ping (data : Bytes)
  deriving DecidableEq, Repr

/-- Opcodes of Table 7-1. -/
def Cmd.opcode : Cmd → Nat
  | .hello => 0x01 | .openSession _ => 0x02 | .closeSession => 0x03 | .getWatermark _ => 0x04 | .getCerts _ _ => 0x05
  | .leaseTake _ => 0x08 | .leaseRenew _ => 0x09 | .leaseRelease => 0x0A | .leaseQuery => 0x0B
  | .regRead _ _ => 0x10 | .regWrite _ => 0x11 | .regModify _ _ _ => 0x12
  | .memAlloc _ _ => 0x18 | .memFree _ => 0x19 | .memWrite _ _ _ => 0x1A | .memRead _ _ _ => 0x1B
  | .memFill _ _ _ _ => 0x1C
  | .graphLoad _ _ _ => 0x20 | .graphUnload _ => 0x21 | .jobSubmit _ => 0x22 | .jobCancel _ => 0x23
  | .jobStatus _ _ => 0x24 | .resultFetch _ _ _ _ => 0x25
  | .tokenAlloc _ => 0x28 | .tokenSignal _ _ => 0x29 | .tokenWait _ _ _ => 0x2A | .tokenFree _ => 0x2B
  | .sensorConfig _ => 0x30 | .sensorArm _ => 0x31 | .sensorDisarm _ => 0x32
  | .timeGet => 0x38 | .timeRefSelect _ => 0x39 | .pulseConfig _ => 0x3A
  | .axisConfig _ => 0x40 | .axisEnable _ _ => 0x41 | .axisCommand _ => 0x42 | .axisStop _ => 0x43
  | .observerLoad _ => 0x44 | .axisStatus => 0x45
  | .lightGroupConfig _ => 0x48 | .lightSet _ => 0x49 | .strobeArm _ => 0x4A | .matrixFrame _ => 0x4B
  | .gearConfig _ => 0x4C
  | .radioConfig _ => 0x50 | .tagAdmit _ => 0x51 | .tagExpel => 0x52 | .tagSend _ => 0x53 | .tagEventsFetch _ => 0x54
  | .linkTestStart _ => 0x60 | .linkTestResult => 0x61
  | .safeStop _ _ => 0x70 | .safeRelease _ => 0x71 | .safeStatus => 0x72
  | .fwStage _ => 0x78 | .fwCommit _ _ => 0x79 | .resetDevice _ => 0x7A
  | .eventSubscribe _ _ => 0x7E | .ping _ => 0x7F

end Sys2Proof
end

