-- ==== Sys2Proof/Syntax.lean ====
section
/-! DEFINITION. The commands and events that drive the SG-3264: one constructor per row of the opcode table. A Psiesk
command's row carries the packet header and the payload fields; a register's row carries the header and the value
written; an event's row carries what the device measures or receives. -/

namespace Sys2Proof

/-- One row of the opcode table. -/
inductive Instr where
  /-- HELLO (R114). Command that returns device identity and issues a fresh 32-byte challenge N_D for OPEN_SESSION. -/
  | hello (h : Hdr)
  /-- OPEN_SESSION (R114). Command that checks the challenge and owner signature, agrees session keys K_C and K_D by ECDH and HKDF, and ends any previous session. -/
  | openSession (h : Hdr) (p : OpenP)
  /-- CLOSE_SESSION (R120). Command that is replied to last among the owner's commands, releases every lease of the owner and ends its session. -/
  | closeSession (h : Hdr)
  /-- GET_WATERMARK (R75). Command that returns the 648-byte signed watermark report, taken in one arbitration tick, with the requester's nonce. -/
  | getWatermark (h : Hdr) (nonce : Bytes)
  /-- GET_CERTS (R76). Command that returns a range of the DER certificate chain of the device identity key. -/
  | getCerts (h : Hdr) (offset length : Word)
  /-- LEASE_TAKE (R101). Command that takes a free resource, renews one the sender holds, or returns E_CONTENDED; JOB_POOL takes are judged under the share limits. -/
  | leaseTake (h : Hdr) (p : LeaseP)
  /-- LEASE_RENEW (R101). Command by which the holder moves a lease's expiry to the renewal tick plus the duration requested. -/
  | leaseRenew (h : Hdr) (p : LeaseP)
  /-- LEASE_RELEASE (R101). Command by which the holder frees a resource, which then takes its loss action. -/
  | leaseRelease (h : Hdr)
  /-- LEASE_QUERY (R136). Command that returns the holder, remaining time and share amounts of a resource's lease. -/
  | leaseQuery (h : Hdr)
  /-- REG_READ (R139). Command that reads up to 256 consecutive registers of one block in one tick, applying RLATCH side effects in address order. -/
  | regRead (h : Hdr) (addr count : Word)
  /-- REG_WRITE (R139). Command that range-checks and then writes up to 64 consecutive registers of one block in one tick; it is the step for every register without a row of its own. -/
  | regWrite (h : Hdr) (p : RegWriteP)
  /-- REG_MODIFY (R11). Command that reads a register with all read side effects and writes the masked bits as a single access. -/
  | regModify (h : Hdr) (addr mask value : Word)
  /-- MEM_ALLOC (R154). Command that grants an HBM or vat region rounded to whole granules, subject to quota and free granules. -/
  | memAlloc (h : Hdr) (size : BitVec 64) (place : Byte)
  /-- MEM_FREE (R157). Command that frees a region of the sender that no unfinished job binds. -/
  | memFree (h : Hdr) (region : Word)
  /-- MEM_WRITE (R166). Command that writes data into a region, reading and tag-checking any partly covered line first. -/
  | memWrite (h : Hdr) (region : Word) (offset : BitVec 64) (data : Bytes)
  /-- MEM_READ (R165). Command that reads region data, returning E_INTEGRITY when a line fails its tag. -/
  | memRead (h : Hdr) (region length : Word) (offset : BitVec 64)
  /-- MEM_FILL (R166). Command that fills a range of a region with a repeated 4-byte pattern. -/
  | memFill (h : Hdr) (region pattern : Word) (offset length : BitVec 64)
  /-- GRAPH_LOAD (R201). Command that checks a graph description, computes its broke requirement and returns a graph handle or E_GRAPH. -/
  | graphLoad (h : Hdr) (region : Word) (offset : BitVec 64) (length : Word)
  /-- GRAPH_UNLOAD (R142). Command that removes a loaded graph that no unfinished job uses. -/
  | graphUnload (h : Hdr) (graph : Word)
  /-- JOB_SUBMIT (R142). Command that binds a graph's slots and creates a job under a free tag of the sender's JOB_POOL share, replying ACCEPTED. -/
  | jobSubmit (h : Hdr) (p : SubmitP)
  /-- JOB_CANCEL (R206). Command that ends an unfinished job as CANCELLED, abandoning any running attempt and withdrawing any token wait. -/
  | jobCancel (h : Hdr) (tag : Byte)
  /-- JOB_STATUS (R143). Command that returns a job's state, attempts, flags and fault record, optionally freeing an ended job's tag. -/
  | jobStatus (h : Hdr) (tag : Byte) (release : Bool)
  /-- RESULT_FETCH (R249). Command that returns ranked grasp records of an ended job from its bound output range. -/
  | resultFetch (h : Hdr) (tag : Byte) (release : Bool) (first count : Word)
  /-- TOKEN_ALLOC (R144). Command that allocates an owner token with an initial count. -/
  | tokenAlloc (h : Hdr) (initial : Word)
  /-- TOKEN_SIGNAL (R145). Command that adds to a token's count and serves queued waiters in arrival order. -/
  | tokenSignal (h : Hdr) (token : BitVec 16) (amount : Word)
  /-- TOKEN_WAIT (R145). Command that queues to take an amount from a token, staying outstanding until served or timed out. -/
  | tokenWait (h : Hdr) (token : BitVec 16) (amount timeout : Word)
  /-- TOKEN_FREE (R145). Command that frees an unused token, cancelling every queued TOKEN_WAIT. -/
  | tokenFree (h : Hdr) (token : BitVec 16)
  /-- SENSOR_CONFIG (R262). Command that sets a sensor port's lanes, rate, format and geometry and reserves its frame buffers. -/
  | sensorConfig (h : Hdr) (p : SnsCfgP)
  /-- SENSOR_ARM (R262). Command that arms a configured port with its token, sync group, trigger source and frame count. -/
  | sensorArm (h : Hdr) (p : SnsArmP)
  /-- SENSOR_DISARM (R264). Command that disarms a port at once or after the frame in progress. -/
  | sensorDisarm (h : Hdr) (mode : Byte)
  /-- TIME_GET (R284). Command that returns device time, its uncertainty, the timebase state and the reference in use. -/
  | timeGet (h : Hdr)
  /-- TIME_REF_SELECT (R285). Command that selects the primary and backup time references and their settings, optionally saving them to the configuration store. -/
  | timeRefSelect (h : Hdr) (p : TimeRefP)
  /-- PULSE_CONFIG (R283). Command that sets a time pulse's start, period, width, polarity, gate and trim. -/
  | pulseConfig (h : Hdr) (p : PulseP)
  /-- AXIS_CONFIG (R318). Command that configures an axis's PWM, dead time, scaling, couch window, limits and gains, and programs its timer. -/
  | axisConfig (h : Hdr) (p : AxisCfgP)
  /-- AXIS_ENABLE (R318). Command that enables an axis, which then zeros its current sense and aligns, or disables it. -/
  | axisEnable (h : Hdr) (en : Byte) (realign : Bool)
  /-- AXIS_COMMAND (R318). Command that sets an enabled axis's mode, set point and limits from the next valley. -/
  | axisCommand (h : Hdr) (p : AxisCmdP)
  /-- AXIS_STOP (R312). Command that starts a ramp stop, freewheel or active short under the stop precedence rules. -/
  | axisStop (h : Hdr) (cat : Byte)
  /-- OBSERVER_LOAD (R330). Command that loads or unloads an axis's POSITION, TEMPERATURE or LOAD network and its calender bounds. -/
  | observerLoad (h : Hdr) (p : ObsLoadP)
  /-- AXIS_STATUS (R319). Command that returns the axis state, angle, speed, currents, voltages and estimates of the last valley sample. -/
  | axisStatus (h : Hdr)
  /-- LIGHT_GROUP_CONFIG (R348). Command that sets an illumination group's sinks, colour, control source, fail-safe and sensor from the next TIM08 valley. -/
  | lightGroupConfig (h : Hdr) (p : LightCfgP)
  /-- LIGHT_SET (R354). Command that queues new current codes and duties for sinks of a group to apply at a boundary. -/
  | lightSet (h : Hdr) (p : LightSetP)
  /-- STROBE_ARM (R355). Command that arms or disarms a STROBE group's windows on a time pulse. -/
  | strobeArm (h : Hdr) (p : StrobeP)
  /-- MATRIX_FRAME (R363). Command that makes a new matrix frame pending for the next start of line 0. -/
  | matrixFrame (h : Hdr) (p : MatrixP)
  /-- GEAR_CONFIG (R374). Command that maps or unmaps a logical control gear slot to an illumination group and stores it. -/
  | gearConfig (h : Hdr) (p : GearP)
  /-- RADIO_CONFIG (R415). Command that configures the radio coordinator's channels, power, interference settings and enable. -/
  | radioConfig (h : Hdr) (p : RadioP)
  /-- TAG_ADMIT (R414). Command that makes a tag slot PENDING with the tag's long address, key and guaranteed slot, replying ACCEPTED. -/
  | tagAdmit (h : Hdr) (p : AdmitP)
  /-- TAG_EXPEL (R408). Command that frees a tag slot and sends one EXPEL frame to an admitted tag. -/
  | tagExpel (h : Hdr)
  /-- TAG_SEND (R412). Command that queues one secured DATA frame to the slot's admitted tag. -/
  | tagSend (h : Hdr) (p : SendP)
  /-- TAG_EVENTS_FETCH (R413). Command that returns whole queued tag entries of a slot. -/
  | tagEventsFetch (h : Hdr) (maxWords : BitVec 16)
  /-- LINK_TEST_START (R446). Command that takes a link out of service and starts its pattern test, replying ACCEPTED. -/
  | linkTestStart (h : Hdr) (p : LinkStartP)
  /-- LINK_TEST_RESULT (R448). Command that returns a link test unit's state, counts and eye margins. -/
  | linkTestResult (h : Hdr)
  /-- SAFE_STOP (R314). Command from the safety controller that stops the axes of its mask and latches their safe hold. -/
  | safeStop (h : Hdr) (mask cat : Byte)
  /-- SAFE_RELEASE (R314). Command from the safety controller that lifts the safe hold of the axes of its mask when no stop is latched. -/
  | safeRelease (h : Hdr) (mask : Byte)
  /-- SAFE_STATUS (R315). Command that returns hold, stop and SFP_STOP_N status and counters. -/
  | safeStatus (h : Hdr)
  /-- FW_STAGE (R147). Command that writes a chunk of an image or lifecycle token into the idle slot, opening a stage if none is open. -/
  | fwStage (h : Hdr) (p : StageP)
  /-- FW_COMMIT (R70). Command that verifies a slot and writes a new commit record, or arms a staged lifecycle token. -/
  | fwCommit (h : Hdr) (slot : Byte) (token : Bool)
  /-- RESET_DEVICE (R148). Command that replies OK and schedules a stop of every axis and a device reset after DELAY. -/
  | resetDevice (h : Hdr) (delay : Word)
  /-- EVENT_SUBSCRIBE (R121). Command that sets the owner's event mask and encryption for its session. -/
  | eventSubscribe (h : Hdr) (mask : Word) (enc : Bool)
  /-- PING (R135). Command that echoes up to 64 bytes. -/
  | ping (h : Hdr) (data : Bytes)
  /-- GET_CERTIFICATE (R77). SPDM request answered with the certificate chain of slot 0. -/
  | getCertificate (slot : Byte) (offset length : BitVec 16)
  /-- CHALLENGE (R77). SPDM request answered with a response signed by the device identity key. -/
  | challenge (slot : Byte) (nonce : Bytes)
  /-- GET_MEASUREMENTS (R77). SPDM request answered with WM0 to WM7 as measurement blocks 1 to 8. -/
  | getMeasurements (signed : Bool) (operation slot : Byte) (nonce : Bytes)
  /-- SPDM_UNSUPPORTED_REQUEST (R77). Any other SPDM request code answered with ERROR UnsupportedRequest. -/
  | spdmUnsupportedRequest (code : Byte)
  /-- SQ_TAIL_WRITE (R124). Host write of the submission-ring tail that lets the device fetch new SQ entries. -/
  | sqTailWrite (value : Word)
  /-- CQ_HEAD_WRITE (R124). Host write of the completion-ring head that frees room for completions and lets fetching resume. -/
  | cqHeadWrite (value : Word)
  /-- EQ_HEAD_WRITE (R124). Host write of the event-ring head that frees room for queued events. -/
  | eqHeadWrite (value : Word)
  /-- HPA_CTRL_WRITE (R125). Host write of HPA_CTRL.EN that starts ring use or stops fetching and discards ring positions. -/
  | hpaCtrlWrite (offset value : Word)
  /-- HPA_SQ_FETCH (R124). Device fetch of one SQ entry and its command packet when CQ space exists, checking it and writing one CQ entry. -/
  | hpaSqFetch (entry packet : Bytes)
  /-- HPB_DATAGRAM_RX (R92). Reception of one UDP datagram on port 47600 carrying one Psiesk packet. -/
  | hpbDatagramRx (rx : IpRx) (srcPort : BitVec 16) (fragmented : Bool) (frameBytes : Nat) (datagram : Bytes)
  /-- SFP_FRAME_RX (R94). Reception of one 32-byte SFP frame, checked by CRC, while the device sends its own frame in the same clock cycles. -/
  | sfpFrameRx (frame : Bytes)
  /-- MNT_FRAME_RX (R97). Reception of one COBS frame with CRC-32 on the MNT UART carrying one Psiesk packet. -/
  | mntFrameRx (frame : Bytes)
  /-- EVENT_DELIVER (R121). Sending of a queued event packet to a subscribed owner once its port or event ring has room. -/
  | eventDeliver (port : Port)
  /-- ARP_REQUEST (R93). Reception of an ARP request for HPB_IP, answered with the device MAC address. -/
  | arpRequest (rx : ArpRx) (senderIp targetIp : Word)
  /-- ICMP_ECHO (R92). Reception of an ICMP echo request on HPB, answered with an echo reply. -/
  | icmpEcho (rx : IpRx) (fragmented : Bool) (message : Bytes)
  /-- LEASE_EXPIRY (R102). Expiry of a lease at the end of its tick, running the loss action and sending EV_LEASE_EXPIRED. -/
  | leaseExpiry (cls : Byte) (index : Word)
  /-- HBM_TRAINING_FAIL (R85). A stack or the felt link failing training twice, entering HW_FAULT and sending EV_LINK_ERR. -/
  | hbmTrainingFail (source : Fin 3)
  /-- TEMP_CONVERSION (R32). Completion of a junction temperature conversion, compared against TJ_WARN, TJ_LIMIT and TJ_CRIT. -/
  | tempConversion (sensor : Fin 12) (reading : BitVec 16)
  /-- TEMP_CONVERSION_TIMEOUT (R41). A conversion not completing within 4 ms, failing that sensor. -/
  | tempConversionTimeout (sensor : Fin 12)
  /-- AVS_TRANSACTION_DONE (R30). Completion or failure of one AVSBus transaction, setting NORESP after three consecutive failures. -/
  | avsTransactionDone (kind : Fin 4) (ok : Bool) (value : Nat) (alert : Bool)
  /-- AVS_RETRY (R30). Retry of AVSBus every 10 ms after it has failed. -/
  | avsRetry (ok : Bool) (value : Nat) (alert : Bool)
  /-- MONITOR_WINDOW_END (R47). End of a 50 µs throughput-monitor window, deciding at most one VCORE write and updating the rate-low state. -/
  | monitorWindowEnd (rates : Vector Nat 32) (pkgDw : Nat)
  /-- HS_WDT_EXPIRY (R44). Handshake watchdog of a core reaching HS_WDT, putting the core in FAULT and abandoning its attempt. -/
  | hsWdtExpiry (core : Fin 32)
  /-- LATE_ARRIVAL (R43). Late-arrival detection in a bundled-data stage, a core fault that abandons the attempt. -/
  | lateArrival (core : Fin 32)
  /-- CLOCK_MONITOR_COUNT (R58). End of a D00 cycle's TCXO edge count, compared against the crystal or RC window. -/
  | clockMonitorCount (edges : Nat)
  /-- PLL_LOCK_LOSS (R58). Loss of PLL lock lasting 10 µs, a clock failure. -/
  | pllLockLoss (field : Bool)
  /-- DBG_HALT_WRITE (R53). Write of DBG_HALT by MNT that halts or releases the named cores. -/
  | dbgHaltWrite (h : Hdr) (value : Word)
  /-- CORE_HALTED (R54). A core named in DBG_HALT completing its handshakes and halting within 1 µs, shown in DBG_HALTED. -/
  | coreHalted (core : Fin 32)
  /-- FAULT_CNT_CLR (R56). Write strobe that sets FAULT_CNT to 0. -/
  | faultCntClr (h : Hdr) (value : Word)
  /-- TJ_PEAK_CLR (R39). Write strobe that sets TJ_PEAK to 0. -/
  | tjPeakClr (h : Hdr) (value : Word)
  /-- ENROL (R170). ENROL_CTRL write with OP 1 and GO that starts enrolling a key read from the writer's region. -/
  | enrol (h : Hdr) (value : Word)
  /-- REVOKE (R170). ENROL_CTRL write with OP 2 and GO that starts revoking the key of a slot. -/
  | revoke (h : Hdr) (value : Word)
  /-- ENROL_COMPLETE (R170). Completion of the sealed enrolment-area write and read-back, extending WM7, changing the key set and recording RESULT. -/
  | enrolComplete (written : Bool)
  /-- ECC_CNT_CLR (R171). Write strobe that clears the ECC and integrity counters. -/
  | eccCntClr (h : Hdr) (value : Word)
  /-- ENTROPY_TEST_FAIL (R162). Failure of a continuous entropy test, setting ENT_FAIL and stopping reseeds. -/
  | entropyTestFail (startup : Bool)
  /-- SCRUB_PASS (R160). Patrol scrub reading and correcting a vat or core-store line on its period. -/
  | scrubPass (place : ScrubAt) (corrected : Bool) (line : Nat)
  /-- MEM_UNCORRECTABLE (R173). An uncorrectable error or tag mismatch met by an attempt, abandoning it with class 1 or 3, or resetting the device in the SELF pool. -/
  | memUncorrectable (self : Bool) (met : ErrAt) (tag : Fin 64) (mismatch : Bool) (region : Word) (line : Word)
  /-- TOKEN_MISUSE (R214). A core signalling or waiting on a token not its attempt's own, abandoning the attempt with class 4. -/
  | tokenMisuse (core : Fin 32) (token : Misused)
  /-- HASH_REBUILD (R187). Stash overflow that rebuilds both hash tables under new seeds, a fourth rebuild being a core fault. -/
  | hashRebuild (at_ : RebuildAt)
  /-- ATTEMPT_STOPPED (R206). Every core of an abandoned attempt stopped and its broke key set destroyed, moving RESTARTING to READY with EV_JOB_RESTART. -/
  | attemptStopped (tag : Fin 64)
  /-- ATTEMPT_COMPLETE (R206). Completion of an attempt's last node, ending the job DONE, signalling its token and raising EV_JOB_DONE. -/
  | attemptComplete (tag : Fin 64)
  /-- SENSOR_WINDOW_EXPIRY (R205). SENSOR_WINDOW_US passing with at least SENSOR_MIN ports delivered, releasing the job with SENSOR_SHORT. -/
  | sensorWindowExpiry (tag : Fin 64)
  /-- CORE_SELF_TEST_DONE (R192). Completion of a faulted core's self-test, returning it to IDLE or retiring it. -/
  | coreSelfTestDone (core : Fin 32) (pass : Bool)
  /-- CORE_IDLE_OFF (R189). IDLE_OFF_MS of idleness passing, moving a core from IDLE to OFF. -/
  | coreIdleOff (core : Fin 32)
  /-- NUM_CNT_CLR (R194). Write strobe that clears NUM_CNT and HASH_CNT. -/
  | numCntClr (h : Hdr) (value : Word)
  /-- JOB_CNT_CLR (R215). Write strobe that clears ABANDON_CNT, END_CNT and TOKEN_OVF. -/
  | jobCntClr (h : Hdr) (value : Word)
  /-- CAM_COMMIT (R218). Write of CAM_COMMIT.GO that checks a port's shadow camera model and copies it to the active registers. -/
  | camCommit (h : Hdr) (port : Fin 6) (value : Word)
  /-- HB_CNT_CLR (R234). Write strobe that clears HB_CNT. -/
  | hbCntClr (h : Hdr) (value : Word)
  /-- SENSOR_FS (R257). Frame-start packet on VC_DEPTH that timestamps a frame and starts filling a buffer, or is dropped for trigger or buffer. -/
  | sensorFs (port : Fin 6) (conf : Bool) (fnum : BitVec 16) (corrected : Bool)
  /-- SENSOR_LONG_PACKET (R257). Reception of one long packet of a frame, checked for ECC, CRC and word count. -/
  | sensorLongPacket (port : Fin 6) (vc dt : Byte) (ecc : Fin 4) (crcOk : Bool) (payload : Bytes)
  /-- SENSOR_FE (R257). Frame-end packet that completes or discards a frame, delivers it to jobs and counts toward COUNT. -/
  | sensorFe (port : Fin 6) (conf : Bool) (fnum : BitVec 16) (corrected : Bool)
  /-- SENSOR_FRAME_TIMEOUT (R257). TIMEOUT_MS passing without every FE, discarding the frame as truncated. -/
  | sensorFrameTimeout (port : Fin 6)
  /-- SENSOR_CLK_LOST (R267). Continuous clock lane silent for 10 µs, discarding the frame in progress. -/
  | sensorClkLost (port : Fin 6)
  /-- SENSOR_TRIGGER_EDGE (R260). Leading edge of a port's trigger source opening its acceptance window. -/
  | sensorTriggerEdge (port : Fin 6)
  /-- SNS_ERR_CLR (R265). Write strobe that clears a sensor port's counters. -/
  | snsErrClr (h : Hdr) (port : Fin 6) (value : Word)
  /-- LAST_FS0_READ (R265). Read of LAST_FS0 that latches LAST_FS1 and LAST_FS2. -/
  | lastFs0Read (h : Hdr) (port : Fin 6)
  /-- PTP_ANNOUNCE_RX (R272). Reception of an Announce message run through the best master clock algorithm. -/
  | ptpAnnounceRx (m : PtpGeneral)
  /-- PTP_SYNC_RX (R277). Reception of a Sync (with its Follow_Up where two-step) that yields an offset for the servo, slew or step. -/
  | ptpSyncRx (m : PtpSync)
  /-- PTP_FOLLOW_UP_RX (R272). Reception of a Follow_Up completing a two-step Sync. -/
  | ptpFollowUpRx (m : PtpFollow)
  /-- PTP_DELAY_REQ_TX (R272). Sending of a Delay_Req at the master's logMinDelayReqInterval. -/
  | ptpDelayReqTx (sub : Fin 100)
  /-- PTP_DELAY_RESP_RX (R272). Reception of a Delay_Resp that updates the mean path delay. -/
  | ptpDelayRespRx (m : PtpDelayResp)
  /-- PTP_PDELAY_REQ_TX (R272). Sending of a Pdelay_Req once per second under peer delay. -/
  | ptpPdelayReqTx (sub : Fin 100)
  /-- PTP_PDELAY_REQ_RX (R272). Reception of a Pdelay_Req answered two-step with Pdelay_Resp and Pdelay_Resp_Follow_Up. -/
  | ptpPdelayReqRx (m : PtpPdelayReq)
  /-- PTP_PDELAY_RESP_RX (R272). Reception of a Pdelay_Resp and its follow-up that updates the peer delay. -/
  | ptpPdelayRespRx (m : PtpPdelayResp)
  /-- PPSI_EDGE (R274). Selected PPSI edge that is timestamped, accepted or rejected, and yields an offset. -/
  | ppsiEdge (rising : Bool) (sub : Fin 100)
  /-- TP_LEADING_EDGE (R282). Scheduled leading edge of a time pulse at the ball, or its suppression under GATE. -/
  | tpLeadingEdge (pulse : Fin 4)
  /-- TP_TRAILING_EDGE (R282). End of a time pulse's active phase after WIDTH. -/
  | tpTrailingEdge (pulse : Fin 4)
  /-- MS_TICK (R280). Millisecond tick of device time that times the radio beacons. -/
  | msTick (edDbm : Int) (locked : Bool)
  /-- TB_NOW0_READ (R286). Read of TB_NOW0 that latches TB_NOW1 and TB_NOW2. -/
  | tbNow0Read (h : Hdr)
  /-- TB_CNT_CLR (R286). Write strobe that clears the timebase and pulse counters. -/
  | tbCntClr (h : Hdr) (value : Word)
  /-- CONFIG_STORE_WRITE_DONE (R285). Completion, failure or 1 s retry of a queued configuration-store write and read-back. -/
  | configStoreWriteDone (ok : Bool)
  /-- TIMER_VALLEY (R291). A timer count reaching 0, copying all preloads to the active registers and delivering the valley event. -/
  | timerValley (timer : Fin 16)
  /-- TIMER_PEAK (R290). A timer count reaching TOP, delivering the peak event. -/
  | timerPeak (timer : Fin 16)
  /-- TIMER_CAPTURE (R293). Recognition of a selected capture edge, holding count and DIR and setting VALID or OVR. -/
  | timerCapture (edge : CapEdge)
  /-- TIM_RST (R295). Write strobe that restarts a timer from a valley and clears its capture state. -/
  | timRst (h : Hdr) (timer : Fin 16) (value : Word)
  /-- TIM_GT_FUNC_WRITE (R297). Write of a general timer ball function, judged as a whole, taking the ball level as the capture starting level. -/
  | timGtFuncWrite (h : Hdr) (timer : Fin 16) (slot : Fin 2) (value : Word)
  /-- TIM_CNT_LO_READ (R294). Read of TIM_CNT_LO that latches the upper count and DIR. -/
  | timCntLoRead (h : Hdr) (timer : Fin 16)
  /-- TIM_CAP_LO_READ (R294). Read of TIM_CAP_LO that clears VALID and latches the upper captured count and DIR. -/
  | timCapLoRead (h : Hdr) (timer : Fin 16)
  /-- AXIS_FLT (R304). AXn_FLT_N low for 100 ns, driving the axis gates low within 200 ns and entering FAULT. -/
  | axisFlt (axis : Fin 8)
  /-- AXIS_VALLEY_SAMPLE (R306). Converted valley sample of an axis that runs the current loop, commutation, limit checks and the loss-of-synchronism test. -/
  | axisValleySample (axis : Fin 8) (v : ValleySample)
  /-- AXIS_ZERO_DONE (R307). End of the 1 ms current-sense zeroing after enable, leading to ALIGN. -/
  | axisZeroDone (axis : Fin 8) (samples : Vector (Vector (BitVec 16) 256) 3)
  /-- ALIGN_DONE (R309). ALIGN_MS passing, taking θ as 0 and entering RUN_HFI. -/
  | alignDone (axis : Fin 8)
  /-- MOTOR_STILL (R317). Currents and line voltages below 2 % for 20 ms, letting STOPPING or LOST leave. -/
  | motorStill (axis : Fin 8)
  /-- RAMP_TIMEOUT (R311). RAMP_TIMEOUT_MS passing in a ramp stop, changing to freewheel with cause 17. -/
  | rampTimeout (axis : Fin 8)
  /-- AX_CNT_CLR (R320). Write strobe that clears an axis's counters. -/
  | axCntClr (h : Hdr) (axis : Fin 8) (value : Word)
  /-- SAFE_CNT_CLR (R321). Write strobe that clears SAFE_CNT and STOP_RESP. -/
  | safeCntClr (h : Hdr) (value : Word)
  /-- CALENDER_OUTPUT (R335). Arrival of a network evaluation's outputs at the calender, which clamps and slew-limits them. -/
  | calenderOutput (axis : Fin 8) (kind : Fin 3)
  /-- OBSERVER_DEADLINE_MISS (R333). An observer output not leaving the calender within 1,600 ns, repeating previous outputs and counting toward MISS_N. -/
  | observerDeadlineMiss (axis : Fin 8) (kind : Fin 3)
  /-- WEIGHT_RESTORE_DONE (R343). Completion of restoring a network's core-store weights from its SELF copy. -/
  | weightRestoreDone (axis : Fin 8) (kind : Fin 3)
  /-- OBS_CNT_CLR (R341). Write strobe that clears the observer counters. -/
  | obsCntClr (h : Hdr) (axis : Fin 8) (value : Word)
  /-- ILLUM_VALLEY (R357). TIM08 period boundary ending a scan, setting the VSTR set point, recomputing compensation and judging lamp failures. -/
  | illumValley (vstrMv : Nat)
  /-- LIGHT_SET_APPLY (R354). Application of a queued LIGHT_SET at its valley or strobe window opening. -/
  | lightSetApply (group : Fin 8)
  /-- LTS_CONVERSION (R350). 10 ms conversion of a lamp-board sensor to temperature, flagging open or shorted sensors. -/
  | ltsConversion (sensor : Fin 4) (mv : Nat)
  /-- VSTR_OVERVOLTAGE (R368). VSTR_FB at the 48 V level, turning off the gate and discharging, or entering FAULT at the third in 1 s. -/
  | vstrOvervoltage (mv : Nat)
  /-- STROBE_WINDOW_OPEN (R355). Opening of a strobe window OFFSET_NS after an emitted pulse edge. -/
  | strobeWindowOpen (group : Fin 8)
  /-- STROBE_WINDOW_CLOSE (R355). Closing of a strobe window after LENGTH_NS, disarming after COUNT windows. -/
  | strobeWindowClose (group : Fin 8)
  /-- IG_FAULT_CLEAR (R360). Write of 1 to LATCHED or SINK_FAIL that relights a latched group or its failed sinks from the next valley. -/
  | igFaultClear (h : Hdr) (group : Fin 8) (value : Word)
  /-- MX_FAULT_CLEAR (R365). Write of 1 to MX_STATUS.FAULT that lets the matrix scan again. -/
  | mxFaultClear (h : Hdr) (value : Word)
  /-- DIM_CFG_WRITE (R352). Write of DIM_C, checked against every stored duty, taking effect at the next valley. -/
  | dimCfgWrite (h : Hdr) (value : Word)
  /-- STAGE_CTRL_CLR (R366). Write strobe that moves the switching stage from FAULT to IDLE. -/
  | stageCtrlClr (h : Hdr) (value : Word)
  /-- ILL_CNT_CLR (R366). Write strobe that clears the illumination counters. -/
  | illCntClr (h : Hdr) (value : Word)
  /-- LBUS_FORWARD_FRAME (R372). Reception of a 16-bit forward frame on a lighting bus, counting framing errors and pairing send-twice commands. -/
  | lbusForwardFrame (bus : Fin 2) (frame : Option (BitVec 16))
  /-- LBUS_BACKWARD_FRAME (R376). Sending, 7 ms after a query, of the agreed answer or a collision. -/
  | lbusBackwardFrame (bus : Fin 2)
  /-- LBUS_POWER_LOSS (R386). LBUSn_P low for 550 ms, setting each gear to its system-failure level with EV_GEAR. -/
  | lbusPowerLoss (bus : Fin 2)
  /-- LBUS_POWER_RESTORE (R386). LBUSn_P high for 100 ms, restoring the bus and sending EV_GEAR. -/
  | lbusPowerRestore (bus : Fin 2)
  /-- LBUS_CNT_CLR (R388). Write strobe that clears a bus's counters. -/
  | lbusCntClr (h : Hdr) (bus : Fin 2) (value : Word)
  /-- RX_EVM_ABORT (R396). A pilot block EVM above EVM_ABORT, aborting the frame without acknowledgement. -/
  | rxEvmAbort (evm : Nat)
  /-- JOIN (R406). JOIN frame received by the coordinator that, when valid for a slot, queues an ADMIT. -/
  | join (rx : RadioRx)
  /-- DATA (R411). DATA frame received and verified, queued as a kind 2 entry. -/
  | data (rx : RadioRx)
  /-- SLOT_EVENT (R410). Slot event received in a guaranteed slot, accepted or marked duplicate, raising EV_TAG_EVENT. -/
  | slotEvent (slot : Fin 8) (rx : RadioRx)
  /-- ACK (R401). Acknowledgement received for a queued coordinator or tag frame. -/
  | ack (coordinator : Bool) (seq : Byte)
  /-- ACK_TX (R400). Hardware acknowledgement sent 24 µs after a received contention frame addressed to the receiver. -/
  | ackTx (coordinator : Bool) (rx : RadioRx)
  /-- ADMIT_TIMEOUT (R406). TIMEOUT_S passing without a valid JOIN, freeing the slot with EV_TAG_ADMIT result 1. -/
  | admitTimeout (slot : Fin 32)
  /-- TAG_SILENCE_DROP (R407). SILENT_MS without a good frame from an admitted tag, dropping it with EV_TAG_ADMIT result 3. -/
  | tagSilenceDrop (slot : Fin 32)
  /-- RAD_CNT_CLR (R416). Write strobe that clears the radio counters. -/
  | radCntClr (h : Hdr) (value : Word)
  /-- LTU_LOCK (R445). A link test checker locking after 64 matching bits, starting the count. -/
  | ltuLock (rx : LockRx)
  /-- LTU_LOCK_LOSS (R445). Loss of lock at 256 errors in 1,024 bits, or no lock within 10 ms or 1 s, ending the test with result 2. -/
  | ltuLockLoss (unit : Fin 16) (bits : Nat) (errors : Vector Nat 4)
  /-- LTU_BITS_REACHED (R447). BITS counted, ending the test or starting its eye scan. -/
  | ltuBitsReached (unit : Fin 16) (errors : Vector Nat 4)
  /-- EYE_SCAN_DONE (R449). Completion of the eye scan, ending the test with result 0. -/
  | eyeScanDone (unit : Fin 16) (eyes : Vector EyeP 4)
  /-- LINK_TEST_TIME_LIMIT (R447). 3,600 s passing since a test started, ending it with result 0. -/
  | linkTestTimeLimit (unit : Fin 16) (bits : Nat) (errors : Vector Nat 4)
  /-- LT_BITS_LO_READ (R453). Read of LT_BITS_LO that latches LT_BITS_HI, LT_ERR_LO and LT_ERR_HI. -/
  | ltBitsLoRead (h : Hdr) (unit : Fin 16)
  /-- AXT_CTRL_GO (R451). Write that starts an axis self-test of gates, sense channels and interlock. -/
  | axtCtrlGo (h : Hdr) (axis : Fin 8) (value : Word)
  /-- AXIS_SELF_TEST_DONE (R451). Completion of an axis self-test within 2 ms, recording AXT_RESULT. -/
  | axisSelfTestDone (axis : Fin 8) (chFail gateFail : Nat) (interlock : Bool)
  /-- SKT_CTRL_GO (R452). Write that starts a sink self-test of a group. -/
  | sktCtrlGo (h : Hdr) (group : Fin 8) (value : Word)
  /-- SINK_SELF_TEST_DONE (R452). Completion of a sink self-test, recording open and short masks and returning the stage to IDLE. -/
  | sinkSelfTestDone (group : Fin 8) (currentUa ballMv : Vector Nat 48)
  /-- TOKEN_WAIT_TIMEOUT (R145). TIMEOUT of a queued TOKEN_WAIT passing, which replies E_TIMEOUT and takes nothing. -/
  | tokenWaitTimeout (port : Port) (token : BitVec 16)
  /-- TIMER_COMPARE_MATCH (R292). A timer count crossing CMPk, changing the level of a PWM channel and the gate or GT output it drives. -/
  | timerCompareMatch (timer : Fin 16) (channel : Fin 4)
  /-- SINK_ON_INTERVAL (R353). Start or end of a sink's on-interval within a spread-dimming slot, turning the sink on or off and measuring its current and headroom. -/
  | sinkOnInterval (sink : Fin 48) (slot : Fin 256) (start : Bool) (currentUa ballMv : Nat)
  /-- AXIS_FLT_RELEASE (R323). AXn_FLT_N returning high, clearing AX_STATE.FLT so that AXIS_ENABLE with EN 0 can leave FAULT. -/
  | axisFltRelease (axis : Fin 8)
  /-- SENSOR_CLK_RETURN (R265). A continuous clock lane of a sensor port toggling again, setting CLK_PRESENT. -/
  | sensorClkReturn (port : Fin 6)
  /-- DAPC (R379). Direct arc power command that fades each addressed gear to a new level. -/
  | dapc (bus : Fin 2) (dst : BusAddr) (level : Byte)
  /-- UP (R379). Bus command that raises the level at the fade rate for 200 ms. -/
  | up (bus : Fin 2) (dst : BusAddr)
  /-- DOWN (R379). Bus command that lowers the level at the fade rate for 200 ms. -/
  | down (bus : Fin 2) (dst : BusAddr)
  /-- FADE_TIME (R379). Bus command that sets the fade time X of the addressed gear. -/
  | fadeTime (bus : Fin 2) (dst : BusAddr) (x : Byte)
  /-- FADE_RATE (R379). Bus command that sets the fade rate Y of the addressed gear. -/
  | fadeRate (bus : Fin 2) (dst : BusAddr) (y : Byte)
  /-- SET_EXTENDED_FADE_TIME (R379). Bus command that is ignored by the gear. -/
  | setExtendedFadeTime (bus : Fin 2) (dst : BusAddr)
  /-- QUERY_ACTUAL_LEVEL (R379). Bus query answered with the actual level rounded toward the fade target. -/
  | queryActualLevel (bus : Fin 2) (dst : BusAddr)
  /-- QUERY_STATUS (R382). Bus query answered with the gear status bits. -/
  | queryStatus (bus : Fin 2) (dst : BusAddr)
  /-- INITIALISE (R377). Bus command that starts random-address initialisation for 15 minutes. -/
  | initialise (bus : Fin 2) (which : Byte)
  /-- RANDOMISE (R377). Bus command that gives each gear in initialisation a 24-bit random address from the DRBG. -/
  | randomise (bus : Fin 2)
  /-- COMPARE (R377). Bus query answered YES when a gear in initialisation has a random address at or below the search address. -/
  | compare (bus : Fin 2)
  /-- TERMINATE (R377). Bus command that ends initialisation. -/
  | terminate (bus : Fin 2)
  /-- IDENTIFY_DEVICE (R377). Bus command that makes a BUS group alternate on and off every 500 ms for 10 s. -/
  | identifyDevice (bus : Fin 2) (dst : BusAddr)
  /-- IDENTIFY_END (R377). End of the 10 s identification. -/
  | identifyEnd (gear : Fin 16)
  /-- INITIALISE_TIMEOUT (R377). Initialisation ending 15 minutes after INITIALISE. -/
  | initialiseTimeout (gear : Fin 16)
  /-- READ_MEMORY_LOCATION (R381). Bus query answered from read-only memory bank 0. -/
  | readMemoryLocation (bus : Fin 2) (dst : BusAddr)
  /-- ENABLE_DEVICE_TYPE_6 (R380). Bus command that enables the next part 207 command. -/
  | enableDeviceType6 (bus : Fin 2)
  /-- SELECT_DIMMING_CURVE (R380). Part 207 command that selects the logarithmic or linear curve from the next valley. -/
  | selectDimmingCurve (bus : Fin 2) (dst : BusAddr) (curve : Byte)
  /-- QUERY_DIMMING_CURVE (R380). Part 207 query answered with the curve in use. -/
  | queryDimmingCurve (bus : Fin 2) (dst : BusAddr)
  /-- QUERY_GEAR_TYPE (R380). Part 207 query answered with 0x00. -/
  | queryGearType (bus : Fin 2) (dst : BusAddr)
  /-- QUERY_POSSIBLE_OPERATING_MODES (R380). Part 207 query answered with 0x01. -/
  | queryPossibleOperatingModes (bus : Fin 2) (dst : BusAddr)
  /-- QUERY_FEATURES (R380). Part 207 query answered with 0x00. -/
  | queryFeatures (bus : Fin 2) (dst : BusAddr)
  /-- QUERY_FAILURE_STATUS (R380). Part 207 query answered with the group's short, open and thermal failure bits. -/
  | queryFailureStatus (bus : Fin 2) (dst : BusAddr)
  /-- QUERY_FAST_FADE_TIME (R380). Part 207 query answered with 0. -/
  | queryFastFadeTime (bus : Fin 2) (dst : BusAddr)
  /-- QUERY_MIN_FAST_FADE_TIME (R380). Part 207 query answered with 0. -/
  | queryMinFastFadeTime (bus : Fin 2) (dst : BusAddr)
  /-- TAG_VSTO_THRESHOLD (R425). VSTO crossing a power-state threshold of the tag, moving it between DEAD, COLD, BOOT, SLEEP, ACTIVE and BROWNOUT. -/
  | tagVstoThreshold (mv : Nat)
  /-- TAG_BOOT_DONE (R427). End of the tag's boot, resuming FC from its record plus 256 and entering ACTIVE, SLEEP or BROWNOUT. -/
  | tagBootDone (bankOk : Bool)
  /-- MPPT_SAMPLE (R424). Timed 2 ms open-circuit sample of each harvest source, setting its operating point to k × Voc. -/
  | mpptSample (vibMv tegDmv : Nat)
  /-- TAXEL_SCAN (R429). Once-per-superframe taxel scan that updates codes and baselines and decides contact, release, slip and reports. -/
  | taxelScan (caps : Vector Nat 16)
  /-- TAG_BEACON_RX (R435). Reception of a beacon by the tag, reading SLOT_ACK, PENDING and the channel-switch countdown. -/
  | tagBeaconRx (b : BeaconRx)
  /-- TAG_CONTENTION_TX (R432). Tag sending a JOIN or DATA frame after backoff and clear-channel sensing. -/
  | tagContentionTx (clear : Bool)
  /-- ADMIT (R433). ADMIT frame received by a tag awaiting admission, taking its short address and slot when the MIC verifies. -/
  | admitFrame (mpdu : Bytes)
  /-- EXPEL (R433). EXPEL frame received and verified by a tag, which then sends nothing until its next boot. -/
  | expel (mpdu : Bytes)
  /-- FC_RECORD_WRITE_DONE (R427). Completion or failure of the tag's frame-counter record write, releasing the waiting frame. -/
  | fcRecordWriteDone (ok : Bool)
  /-- READ (R436). Tag command that returns up to 28 tag registers. -/
  | read (c : TagCmdRx) (addr : BitVec 16) (count : Byte)
  /-- WRITE (R436). Tag command that checks and then writes up to 28 tag registers in one step. -/
  | write (c : TagCmdRx) (addr : BitVec 16) (values : List Word)
  /-- FW_WRITE (R437). Tag command that writes image bytes into the idle firmware bank. -/
  | fwWrite (c : TagCmdRx) (offset : Word) (image : Bytes)
  /-- TAG_FW_COMMIT (R437). Tag command that starts verifying the written image for commitment. -/
  | tagFwCommit (c : TagCmdRx) (length : Word)
  /-- RESTART (R436). Tag command that replies OK and enters BOOT once the reply is acknowledged. -/
  | restart (c : TagCmdRx)
  /-- TCNT_CLR (R438). Tag write strobe that clears every tag counter except COLD_STARTS. -/
  | tcntClr (c : TagCmdRx) (value : Word)
  /-- GET_VERSION (R77). SPDM request on the HPA DOE mailbox answered with version 1.2. -/
  | getVersion
  /-- GET_CAPABILITIES (R77). SPDM request answered with CERT_CAP, CHAL_CAP and signed MEAS_CAP. -/
  | getCapabilities
  /-- NEGOTIATE_ALGORITHMS (R77). SPDM request answered with ECDSA P-384 and SHA-384. -/
  | negotiateAlgorithms
  /-- GET_DIGESTS (R77). SPDM request answered with the digest of certificate slot 0. -/
  | getDigests
  /-- NET_CFG_APPLY (R106). Taking effect of a written HPB or SFP network setting at an instant within 1 ms of the write. -/
  | netCfgApply
  /-- PCIE_PERST_N (R91). Assertion of PCIE_PERST_N that resets only HPA and ends owner 1's session. -/
  | pciePerstN
  /-- ETH_LINK_DOWN (R91). Loss of the Ethernet link that clears PORT_UP for owner 2 and discards its replies and events until it returns. -/
  | ethLinkDown
  /-- HPA_RING_ERROR (R125). A failed PCIe ring access that sets RING_ERR and clears EN. -/
  | hpaRingError
  /-- SFP_LINK_LOSS (R96). Expiry of SFP_CFG.LOSS_MS without a valid frame on an armed link, setting LOSS and optionally stopping every axis. -/
  | sfpLinkLoss
  /-- SFP_STOP_N_FALL (R313). A low level of 100 ns on SFP_STOP_N that stops every axis within 2 µs and latches every safe hold. -/
  | sfpStopNFall
  /-- SFP_STOP_N_RISE (R314). Rise of SFP_STOP_N that raises EV_SAFE while the holds stand. -/
  | sfpStopNRise
  /-- STAGE_TIMEOUT (R147). Closing of an open firmware stage after 60 s without an FW_STAGE from its owner. -/
  | stageTimeout
  /-- RESET_DEVICE_DELAY_END (R148). End of RESET_DEVICE's delay, stopping every axis and resetting the device 100 µs later. -/
  | resetDeviceDelayEnd
  /-- VFD_UP (R25). VFD reaching 90 %, after which the field die drives every gate low and holds sinks, matrix and VSTR_GATE off. -/
  | vfdUp
  /-- POWER_LOSS (R27). PWRGD low for 200 ns, driving gates low, turning off every drive and holding the device in reset. -/
  | powerLoss
  /-- RESET_N_ASSERT (R42). RESET_N going low, placing every ball in its reset state. -/
  | resetNAssert
  /-- RESET_N_RELEASE (R61). Release of RESET_N that increments BOOT_COUNT, records RESET_CAUSE and starts the boot ROM. -/
  | resetNRelease
  /-- PLL_LOCK (R60). Lock of PLL_C and PLL_F after reset, starting device time, the timers and the boot ROM's flash reads. -/
  | pllLock
  /-- PLL_LOCK_TIMEOUT (R60). Failure of the PLLs or TCXO to be ready within 10 ms of reset release, latching CLK_FAIL. -/
  | pllLockTimeout
  /-- BOOT1_VERIFIED (R72). Completion of BOOT1's verification, extending WM0 and starting BOOT1, or falling back to the other slot. -/
  | boot1Verified
  /-- IMAGES_VERIFIED (R80). Completion of verification of the remaining images and the compatibility check, extending WM1 to WM7 and setting MISMATCH_MAP. -/
  | imagesVerified
  /-- BOOT_THERMAL_WAIT_END (R35). Every valid junction sensor reading below 105 °C, allowing the compute cores to start. -/
  | bootThermalWaitEnd
  /-- EARLY_REACHED (R61). Mboit answering HELLO and entering EARLY, RESTRICTED, HW_FAULT or RETIRED, erasing the running slot's marks and loading saved settings. -/
  | earlyReached
  /-- HBM_TRAINED (R61). Completion of HBM training and memory key set-up, entering FULL from EARLY. -/
  | hbmTrained
  /-- CC_WATCHDOG_EXPIRY (R85). Mboit failing to service the control cluster watchdog for 1 s, stopping every axis and resetting with cause 4. -/
  | ccWatchdogExpiry
  /-- CEILING_STEP (R33). Timed step of the VCORE ceiling, down 10 mV per ms while LIMIT is set or up 10 mV per 10 ms after it clears. -/
  | ceilingStep
  /-- VCORE_SHUTDOWN_STEP (R34). One 10 mV lowering of the VCORE request toward 0.72 V, at most once per 20 µs after thermal shutdown. -/
  | vcoreShutdownStep
  /-- XT32_FAIL (R59). Stop of the 32.768 kHz crystal, switching D00 to the internal RC and sending EV_LINK_ERR. -/
  | xt32Fail
  /-- ENTROPY_RECOVER (R162). The entropy source passing its tests for 1 s, clearing ENT_FAIL, reseeding and clearing KEYS_OUT. -/
  | entropyRecover
  /-- DRBG_RESEED (R162). Reseed of the DRBG after 65,536 requests or 1 s. -/
  | drbgReseed
  /-- JOB_DISPATCH (R208). Mboit dispatching the head READY job onto free cores once it fits, creating its broke key set. -/
  | jobDispatch
  /-- PTP_SYNC_LOSS (R275). REF_LOSS.PTP_MS passing without a Sync from the selected master, making PTP invalid. -/
  | ptpSyncLoss
  /-- PPSI_LOSS (R275). 1,500 ms without an accepted PPSI edge, making PPSI invalid. -/
  | ppsiLoss
  /-- TIME_STEP (R280). Step of device time at the next whole second, raising EV_TIME_STEP and resetting the pulse and millisecond schedules. -/
  | timeStep
  /-- PRIMARY_REVERT (R281). The primary reference valid for REVERT_S seconds, becoming the reference in use again. -/
  | primaryRevert
  /-- VSTR_DISCHARGED (R361). VSTR falling below 5.0 V after a harness open, releasing VSTR_DIS. -/
  | vstrDischarged
  /-- STAGE_RESUME (R361). 10 ms after discharge, the stage resuming regulation for the groups still lit. -/
  | stageResume
  /-- MATRIX_LINE (R362). Start of a matrix line time with pre-charge, line drive and column sinks, applying a pending frame at line 0. -/
  | matrixLine
  /-- MATRIX_OVERCURRENT (R368). Line drive current above 1.2 A for 1 µs, blanking the matrix and setting FAULT. -/
  | matrixOvercurrent
  /-- COORD_EXCHANGE (R399). The coordinator's one exchange of a queued ADMIT, DATA or EXPEL frame at the start of the contention period. -/
  | coordExchange
  /-- COORD_ACK_TIMEOUT (R401). No acknowledgement of a coordinator attempt, counted and retried up to four attempts or reported. -/
  | coordAckTimeout
  /-- SAVE_REPLY_TIMEOUT (R285). 100 ms passing without a read-back of a SAVE or GEAR_CONFIG store write, replying E_TIMEOUT while the setting stays in force. -/
  | saveReplyTimeout
  /-- VSTR_OVP_RELEASE (R368). VSTR falling below 44.0 V after an overvoltage, releasing VSTR_DIS and putting the stage in RISING. -/
  | vstrOvpRelease
  /-- ETH_LINK_UP (R106). The Ethernet link coming up, setting PORT_UP for owner 2 so that its replies and events are sent again. -/
  | ethLinkUp
  /-- PCIE_LINK_UP (R106). The PCIe link training up after PERST_N release or a link test, setting PORT_UP for owner 1. -/
  | pcieLinkUp
  /-- PCIE_LINK_DOWN (R106). The PCIe link going down without PERST_N, clearing PORT_UP for owner 1 and closing any open firmware stage of it. -/
  | pcieLinkDown
  /-- TAG_NRST_RELEASE (R425). Release of the tag's NRST, entering BOOT when VSTO is at least 1.9 V. -/
  | tagNrstRelease
  /-- TAG_BEACON_SEARCH (R435). Eight missed beacons starting a channel search. -/
  | tagBeaconSearch
  /-- TAG_SLOT_EVENT_TX (R431). Tag sending one chosen event in its guaranteed slot. -/
  | tagSlotEventTx
  /-- JOIN_BACKOFF_END (R433). End of the random wait after four unacknowledged JOIN attempts. -/
  | joinBackoffEnd
  /-- ADMIT_WAIT_TIMEOUT (R433). 64 superframes after an acknowledged JOIN without an accepted ADMIT, sending JOIN again. -/
  | admitWaitTimeout
  /-- HEARD_TIMEOUT (R434). HEARD_MS without an acknowledged frame, making an admitted tag send a keepalive. -/
  | heardTimeout
  /-- TAG_FW_VERIFY_DONE (R437). Completion of tag image verification, replying OK and booting the new bank or replying failure. -/
  | tagFwVerifyDone
  /-- TAG_ACK_TIMEOUT (R432). No acknowledgement arriving 24 µs after a tag's contention frame, failing the attempt and counting toward BE, NO_ACK or the JOIN wait. -/
  | tagAckTimeout
  /-- TAG_SEARCH_DWELL_END (R435). 1.2 ms of listening on one channel passing without a beacon, moving the tag's search to the next channel. -/
  | tagSearchDwellEnd
  /-- TAG_NRST_ASSERT (R442). The tag's NRST going low, holding the tag at COLD current and failing any record write in progress as a brownout. -/
  | tagNrstAssert
  deriving DecidableEq, Repr

end Sys2Proof
end

