-- ==== Sys2Proof/WellFormed.lean ====
section
/-! DEFINITION. Which commands are well formed: every byte string of a fixed size has that size, and the count fields
agree with what follows them (R130). -/

namespace Sys2Proof

/-- Every fixed-size field has its size and every counted field its count (R130). -/
def Cmd.wf : Cmd → Bool
  | .openSession p => p.qH.length == 97 && p.nH.length == 32 && p.sig.length == 96
  | .getWatermark n => n.length == 32
  | .regWrite p => p.values.length == p.count.toNat
  | .memWrite _ _ d => d.length % 4 == 0
  | .jobSubmit p => decide (p.binds.length < 65536)
  | .lightSet p => decide (p.entries.length < 256)
  | .matrixFrame p => p.codes.length == 384
  | .tagAdmit p => p.key.length == 16
  | .tagSend p => decide (p.data.length < 256)
  | .fwStage p => p.data.length % 4 == 0
  | .ping d => d.length % 4 == 0
  | _ => true

/-- The carriage is that of the port (R122). -/
def Hdr.viaOk (h : Hdr) : Bool :=
  match h.via with
  | .ring _ _ _ => h.port == 0
  | .udp _ _ => h.port == 1
  | .sfp => h.port == 2
  | .mnt => h.port == 3

/-- The command of a Psiesk row. -/
def Instr.cmd? : Instr → Option (Hdr × Cmd)
  | .hello h => some (h, .hello)
  | .openSession h x0 => some (h, .openSession x0)
  | .closeSession h => some (h, .closeSession)
  | .getWatermark h x0 => some (h, .getWatermark x0)
  | .getCerts h x0 x1 => some (h, .getCerts x0 x1)
  | .leaseTake h x0 => some (h, .leaseTake x0)
  | .leaseRenew h x0 => some (h, .leaseRenew x0)
  | .leaseRelease h => some (h, .leaseRelease)
  | .leaseQuery h => some (h, .leaseQuery)
  | .regRead h x0 x1 => some (h, .regRead x0 x1)
  | .regWrite h x0 => some (h, .regWrite x0)
  | .regModify h x0 x1 x2 => some (h, .regModify x0 x1 x2)
  | .memAlloc h x0 x1 => some (h, .memAlloc x0 x1)
  | .memFree h x0 => some (h, .memFree x0)
  | .memWrite h x0 x1 x2 => some (h, .memWrite x0 x1 x2)
  | .memRead h x0 x1 x2 => some (h, .memRead x0 x1 x2)
  | .memFill h x0 x1 x2 x3 => some (h, .memFill x0 x1 x2 x3)
  | .graphLoad h x0 x1 x2 => some (h, .graphLoad x0 x1 x2)
  | .graphUnload h x0 => some (h, .graphUnload x0)
  | .jobSubmit h x0 => some (h, .jobSubmit x0)
  | .jobCancel h x0 => some (h, .jobCancel x0)
  | .jobStatus h x0 x1 => some (h, .jobStatus x0 x1)
  | .resultFetch h x0 x1 x2 x3 => some (h, .resultFetch x0 x1 x2 x3)
  | .tokenAlloc h x0 => some (h, .tokenAlloc x0)
  | .tokenSignal h x0 x1 => some (h, .tokenSignal x0 x1)
  | .tokenWait h x0 x1 x2 => some (h, .tokenWait x0 x1 x2)
  | .tokenFree h x0 => some (h, .tokenFree x0)
  | .sensorConfig h x0 => some (h, .sensorConfig x0)
  | .sensorArm h x0 => some (h, .sensorArm x0)
  | .sensorDisarm h x0 => some (h, .sensorDisarm x0)
  | .timeGet h => some (h, .timeGet)
  | .timeRefSelect h x0 => some (h, .timeRefSelect x0)
  | .pulseConfig h x0 => some (h, .pulseConfig x0)
  | .axisConfig h x0 => some (h, .axisConfig x0)
  | .axisEnable h x0 x1 => some (h, .axisEnable x0 x1)
  | .axisCommand h x0 => some (h, .axisCommand x0)
  | .axisStop h x0 => some (h, .axisStop x0)
  | .observerLoad h x0 => some (h, .observerLoad x0)
  | .axisStatus h => some (h, .axisStatus)
  | .lightGroupConfig h x0 => some (h, .lightGroupConfig x0)
  | .lightSet h x0 => some (h, .lightSet x0)
  | .strobeArm h x0 => some (h, .strobeArm x0)
  | .matrixFrame h x0 => some (h, .matrixFrame x0)
  | .gearConfig h x0 => some (h, .gearConfig x0)
  | .radioConfig h x0 => some (h, .radioConfig x0)
  | .tagAdmit h x0 => some (h, .tagAdmit x0)
  | .tagExpel h => some (h, .tagExpel)
  | .tagSend h x0 => some (h, .tagSend x0)
  | .tagEventsFetch h x0 => some (h, .tagEventsFetch x0)
  | .linkTestStart h x0 => some (h, .linkTestStart x0)
  | .linkTestResult h => some (h, .linkTestResult)
  | .safeStop h x0 x1 => some (h, .safeStop x0 x1)
  | .safeRelease h x0 => some (h, .safeRelease x0)
  | .safeStatus h => some (h, .safeStatus)
  | .fwStage h x0 => some (h, .fwStage x0)
  | .fwCommit h x0 x1 => some (h, .fwCommit x0 x1)
  | .resetDevice h x0 => some (h, .resetDevice x0)
  | .eventSubscribe h x0 x1 => some (h, .eventSubscribe x0 x1)
  | .ping h x0 => some (h, .ping x0)
  | _ => none

/-- A row of the opcode table is well formed: its Psiesk payload and carriage are, and a row that carries bytes of a fixed size
carries that many. -/
def Instr.wf (i : Instr) : Bool :=
  match i.cmd? with
  | some (h, c) => h.viaOk && c.wf
  | none =>
    match i with
    | .hpaSqFetch entry _ => entry.length == 32
    | .sfpFrameRx frame => frame.length == 32
    | .arpRequest rx _ _ => rx.eth.dst.length == 6 && rx.mac.length == 6
    | .hpbDatagramRx rx _ _ _ _ | .icmpEcho rx _ _ => rx.eth.dst.length == 6
    | .challenge _ n => n.length == 32
    | .getMeasurements _ _ _ n => n.length == 32
    | _ => true

end Sys2Proof
end

