-- ==== Sys2Proof/Machine/BootState.lean ====
section
/-! DEFINITION. State of reset, boot, the image slots, OTP, the watermark and the configuration store's own registers
(04_start_measurement_versions.md). -/

namespace Sys2Proof.Machine

/-- DEV_STATE (Table 4-8). -/
inductive DevState where
  | boot | early | full | restricted | recovery | hwFault | shutdown | retired
  deriving DecidableEq, Repr

def DevState.code : DevState → Nat
  | .boot => 0 | .early => 1 | .full => 2 | .restricted => 3
  | .recovery => 4 | .hwFault => 5 | .shutdown => 6 | .retired => 7

/-- How far the start has come (Table 4-1). `held`: in reset. `stopped`: no further boot step (R60). -/
inductive BootStep where
  | held | pllWait | readBoot1 | readImages | thermalWait | waitEarly | training | done | stopped
  deriving DecidableEq, Repr

/-- One entry of a compatibility manifest: subject byte and value (Version pairing). -/
structure ManifestEntry where
  subject : Byte
  value   : Word
  deriving DecidableEq, Repr

/-- What the device reads in an image's header, manifest and signature. The manual gives no byte layout for these,
so the reading of the staged bytes is a free function of `Config`. -/
structure ImageInfo where
  index    : Nat
  version  : Word
  svn      : BitVec 16
  digest   : Bytes          -- SHA-384 of header, manifest and body
  keyDigest : Bytes         -- SHA-384 of the key named in the header
  sigOk    : Bool           -- the ECDSA signature verifies under that key
  manifest : List ManifestEntry
  deriving DecidableEq, Repr

/-- What the device reads in a lifecycle token (R78). -/
structure TokenInfo where
  target    : Nat           -- lifecycle code asked for
  uniqueId  : Bytes
  bootCount : Nat
  sigOk     : Bool
  deriving DecidableEq, Repr

/-- A commit record (Boot flash layout, R67). -/
structure CommitRec where
  seq   : Word
  slot  : Fin 2
  crcOk : Bool
  deriving DecidableEq, Repr

/-- The lifecycle codes of Table 4-7. -/
inductive Lifecycle where
  | blank | production | service | retired
  deriving DecidableEq, Repr

def Lifecycle.code : Lifecycle → Nat
  | .blank => 1 | .production => 2 | .service => 3 | .retired => 4

/-- One-time-programmable and other non-volatile words of the die. -/
structure Otp where
  lifecycle  : Lifecycle
  svcEntries : Nat
  uniqueId   : Bytes            -- 16 bytes
  configWord : Word
  svnMin     : Vector (BitVec 16) 6
  keyDigests : List Bytes       -- up to four firmware key digests
  revoked    : Nat              -- revocation bits of those keys
  mac        : Bytes            -- 6 bytes (R93)
  clockId    : Bytes            -- 8 bytes (R93)
  bootCount  : Nat
  deriving DecidableEq, Repr

/-- The boot flash outside the configuration store: two slots, commit records, marks, the staged token. -/
structure Flash where
  answers : Bool                         -- the flash answers SFDP (Table 4-11)
  images  : Vector (Vector Bytes 6) 2    -- bytes of image k of a slot
  torn    : Vector (Vector Bool 6) 2     -- an image whose writing is not complete
  partial_ : Vector Bool 2               -- a reset cut a stage of the slot short: all six images must be staged again (R84)
  token   : Vector Bytes 2               -- last 4 KiB sector of each slot (R147)
  tokenArmed : Option (Fin 2)            -- slot whose staged token a commit armed for the next reset
  cmt     : Vector (Option CommitRec) 2  -- none: erased
  marks   : Vector Nat 2                 -- start-attempt marks (R68), at most 256
  testArea : Option (Nat × BitVec 64)    -- pattern and USER word last written to the xSPI test area (R443), none: never
  deriving DecidableEq, Repr

/-- An open stage (R69, R147). -/
structure Stage where
  port  : Fin 4
  serial : Option Nat     -- session it was opened in, none outside a session
  lastAt : Nat            -- tick of the last FW_STAGE of its owner
  deriving DecidableEq, Repr

/-- Boot and watermark state, cleared by every reset. -/
structure Boot where
  resetN    : Bool        -- level of RESET_N
  pwrgd     : Bool        -- level of PWRGD
  vfdUp     : Bool        -- VFD at 90 %: the gates are driven (R25)
  cause     : Nat         -- RESET_CAUSE of the running start
  nextCause : Nat         -- cause the next start records
  xspiResetN : Bool       -- level of XSPI_RESET_N (Table 2-10)
  step      : BootStep
  dev       : DevState
  target    : DevState    -- state the compatibility check leads to (R79 to R81)
  otpRead   : Bool        -- UNIQUE_ID and LIFECYCLE are loaded from OTP
  recordsRead : Bool      -- the boot ROM has read the commit records
  releasedAt : Nat        -- tick of RESET_N release
  slot      : Fin 2
  recorded  : Fin 2
  fallback  : Bool
  tokenStale : Bool
  hbm0Fail  : Bool
  hbm1Fail  : Bool
  feltFail  : Bool
  rejected  : Nat
  running   : Vector (Option ImageInfo) 6
  mismatch  : Nat
  wm        : Vector Bytes 8
  staged    : Nat               -- STAGED bits
  stage     : Option Stage
  written   : Vector Nat 6      -- bytes of each image written in the open stage
  totals    : Vector Nat 6      -- TOTAL given for each image
  tokenWritten : Nat
  tokenStaged  : Bool
  mboit     : Bool              -- Mboit runs
  resetDue  : Option (Nat × Nat) -- tick of a pending RESET_DEVICE or watchdog reset and its cause
  stopDone  : Bool              -- the stop that precedes that reset has been taken
  deriving DecidableEq, Repr

def Boot.reset : Boot :=
  { resetN := false, pwrgd := false, vfdUp := false, cause := 0, nextCause := 0, xspiResetN := false,
    step := .held, dev := .boot, target := .early, otpRead := false, recordsRead := false, releasedAt := 0, slot := 0, recorded := 0, fallback := false, tokenStale := false,
    hbm0Fail := false, hbm1Fail := false, feltFail := false, rejected := 0, running := Vector.replicate 6 none,
    mismatch := 0, wm := Vector.replicate 8 (List.replicate 48 0), staged := 0,
    stage := none, written := Vector.replicate 6 0, totals := Vector.replicate 6 0, tokenWritten := 0,
    tokenStaged := false, mboit := false, resetDue := none, stopDone := false }

end Sys2Proof.Machine
end

