-- ==== Sys2Proof/Machine/Bytes.lean ====
section
/-! DEFINITION. Byte order, bit fields, signed fields and saturating counters: the helpers every layout of the
manual is written with (R6, R7). -/

namespace Sys2Proof.Machine

/-- `n` bytes of `w`, least significant first (R7). -/
def le : Nat → Nat → Bytes
  | 0, _ => []
  | n + 1, w => BitVec.ofNat 8 w :: le n (w / 256)

/-- The number a little-endian byte string spells (R7). -/
def ofLe : Bytes → Nat
  | [] => 0
  | b :: bs => b.toNat + 256 * ofLe bs

/-- The number a big-endian byte string spells. -/
def ofBe (bs : Bytes) : Nat := ofLe bs.reverse

/-- `n` zero bytes. -/
def zeros (n : Nat) : Bytes := List.replicate n 0

/-- The little-endian number of `n` bytes at offset `o` of a payload. -/
def at_ (bs : Bytes) (o n : Nat) : Nat := ofLe ((bs.drop o).take n)

/-- Bytes `o` to `o + n - 1` of a payload. -/
def slice (bs : Bytes) (o n : Nat) : Bytes := (bs.drop o).take n

/-- Pad a byte string with zeros to `n` bytes, or cut it. -/
def fit (n : Nat) (bs : Bytes) : Bytes := (bs ++ zeros (n - bs.length)).take n

/-- Bits [hi:lo] of a number. -/
def bits (hi lo w : Nat) : Nat := w / 2 ^ lo % 2 ^ (hi + 1 - lo)

/-- Bit `i` of a number. -/
def bit (i w : Nat) : Bool := w.testBit i

/-- A Boolean as a bit at place `i`. -/
def bitAt (i : Nat) (b : Bool) : Nat := if b then 2 ^ i else 0

/-- A register from a number. -/
def word (n : Nat) : Word := BitVec.ofNat 32 n

/-- The signed number an `n`-bit field spells (two's complement). -/
def signed (n w : Nat) : Int := if w % 2 ^ n < 2 ^ (n - 1) then (w % 2 ^ n : Nat) else (w % 2 ^ n : Nat) - (2 ^ n : Nat)

/-- The `n`-bit two's complement field of an integer. -/
def unsigned (n : Nat) (x : Int) : Nat := (x % (2 ^ n : Nat)).toNat

/-- Count one more, stopping at `cap` (a saturating counter). -/
def satInc (cap n : Nat) : Nat := if n < cap then n + 1 else cap

/-- Count `k` more, stopping at `cap`. -/
def satAdd (cap n k : Nat) : Nat := min cap (n + k)

/-- A mask of up to `n` bits from a predicate on bit numbers. -/
def maskOf (n : Nat) (p : Nat → Bool) : Nat := (List.range n).foldl (fun m i => m + bitAt i (p i)) 0

/-- Clamp an integer between two bounds. -/
def clampI (lo hi x : Int) : Int := max lo (min hi x)

/-- Round a rational num/den (den > 0) to the nearest integer, ties to even. -/
def rne (num : Int) (den : Nat) : Int :=
  let q := num / (den : Int)
  let r := num - q * den
  if 2 * r < den then q else if 2 * r > den then q + 1 else if q % 2 = 0 then q else q + 1

/-- Take the first list entry a predicate accepts, with its place. -/
def findIx {α : Type} (p : α → Bool) : List α → Option Nat
  | [] => none
  | a :: as => if p a then some 0 else (findIx p as).map (· + 1)

end Sys2Proof.Machine
end

