-- ==== Sys2Proof/Config.lean ====
section
/-! DEFINITION. What the manual leaves open or takes from outside itself: free values, factory contents and the
cryptographic functions. Every one is an opaque constant, so no proof can know a value of it. -/

namespace Sys2Proof.Config

/-- A value the manual leaves open, one per use of the counter `State.free`. DESIGN CHOICE: notes/assumptions/2. -/
opaque freeNat : Nat → Nat

/-- Bytes the manual leaves open. -/
opaque freeBytes : Nat → Bytes

/-- The external PHY answers over MDIO, one value per use of `State.free` (R455): outside the device. -/
opaque phyAnswers : Nat → Bool

/-- The 112 bytes of key set `n` (R161, R162): two XTS keys, tag key, mask key, as the DRBG put them out. -/
opaque keyBytes : Nat → Bytes

/-- AES-256-XTS of one data unit under a key pair and a tweak (R158). -/
opaque aesXts (key1 key2 tweak data : Bytes) : Bytes

/-- AES-256-CMAC (R158). -/
opaque cmac256 (key message : Bytes) : Bytes

/-- One block of AES-128 (R159). -/
opaque aes128 (key block : Bytes) : Bytes

/-- The SECDED check bits of a 64-bit word (R159): the manual does not give the code. -/
opaque secded (word : Bytes) : Byte

/-- What stands in a line the device has not written since power-up (key set 0), or that an attempt's broke has written under
its key set. -/
opaque leftover (key line : Nat) : Bytes

/-- Draw `n` from the DRBG (R162): the manual fixes the generator, not its output. -/
opaque drbg : Nat → Nat

/-- AES-256-GCM (R113): ciphertext and tag of key, IV, additional data, plaintext. -/
opaque gcmSeal (key iv aad plain : Bytes) : Bytes × Bytes

/-- AES-256-GCM: the plaintext when the tag verifies. -/
opaque gcmOpen (key iv aad cipher tag : Bytes) : Option Bytes

/-- AES-128-CCM* (R403): ciphertext and MIC of key, nonce, level, additional data, plaintext. -/
opaque ccmSeal (key nonce : Bytes) (level : Nat) (aad plain : Bytes) : Bytes

/-- AES-128-CCM*: the plaintext when the MIC verifies. -/
opaque ccmOpen (key nonce : Bytes) (level : Nat) (aad body : Bytes) : Option Bytes

/-- SHA-384. -/
opaque sha384 : Bytes → Bytes

/-- ECDSA P-384 under a public key over a digest. -/
opaque ecdsaVerify (key digest sig : Bytes) : Bool

/-- ECDSA P-384 by the device identity key over a digest; `n` numbers the signatures. -/
opaque deviceSign (n : Nat) (digest : Bytes) : Bytes

/-- Ephemeral P-384 public key of draw `n`. -/
opaque ephemeral : Nat → Bytes

/-- x-coordinate of the ECDH product of the ephemeral key of draw `n` and a peer's key. -/
opaque ecdh (n : Nat) (peer : Bytes) : Bytes

/-- HKDF with SHA-384 and L = 32. -/
opaque hkdf (ikm salt info : Bytes) : Bytes

/-- The DER certificate chain of the device identity key (R76). -/
opaque certChain : Bytes

/-- Factory identity of the die: UNIQUE_ID, MAC address, clockIdentity (OTP), the firmware key digests. -/
opaque uniqueId : Bytes
opaque macAddr : Bytes
opaque clockId : Bytes
opaque fwKeyDigests : List Bytes
opaque configWord : Word

/-- Image `k` of slot `s` as the boot flash holds it at first power-up. -/
opaque factoryImage (s k : Nat) : Bytes

/-- What the device reads in an image: the manual gives no byte layout of header, manifest and signature. -/
opaque parseImage : Bytes → Option Machine.ImageInfo

/-- What the device reads in a lifecycle token. -/
opaque parseToken : Bytes → Option Machine.TokenInfo

/-- The enrolment area at first power-up (Table 8-3). -/
opaque factoryEnrolment : Bytes

/-- AES-256-CMAC under the sealing key of this die (R168). -/
opaque sealTag : Bytes → Bytes

/-- SHA-384 of the root certificate, and the CTExponent and the buffer sizes that CAPABILITIES carries (R77). -/
opaque rootHash : Bytes
opaque spdmTiming : Byte
opaque spdmSizes : Bytes

/-- The placement of free granules: which free granule is taken at draw `n` (R155). -/
opaque place : Nat → Nat

/-- Whether an attempt that used a granule as broke wrote a line of it (R163). -/
opaque brokeWrote (key line : Nat) : Bool

/-- Factory identity of the LT-2 tag. -/
opaque tagLong : Nat
opaque tagKey : Bytes

/-- Time from SFP_STOP_N low to the gates low, in ns (R313): at most 2,000 by `min`. -/
opaque stopResponse : Nat → Nat

/-- The best-of-two Voc bound and other analogue readings are operands; this is the random wait of R433. -/
opaque tagRandom : Nat → Nat

/-- Signals 10 and 11 of Table 17-2 for an axis that is not commutating, FP32. -/
opaque sectorSignal : Nat → Nat

/-- A number in place of a NaN operand, for which the manual states no result. -/
opaque nanNumber : Nat → Int

end Sys2Proof.Config
end

