-- ==== Sys2Proof/Machine/AxisState.lean ====
section
/-! DEFINITION. State of the motor axes, their observers and the safety block (16_motor_axes.md,
17_neural_observers.md). -/

namespace Sys2Proof.Machine

/-- Axis states (Table 16-3). -/
inductive AxSt where
  | disabled | align | runHfi | couch | runObs | stopping | stoppedSafe | lost | fault
  deriving DecidableEq, Repr

def AxSt.code : AxSt → Nat
  | .disabled => 0 | .align => 1 | .runHfi => 2 | .couch => 3 | .runObs => 4
  | .stopping => 5 | .stoppedSafe => 6 | .lost => 7 | .fault => 8

/-- An axis counts as enabled in these states (R310). -/
def AxSt.enabled : AxSt → Bool
  | .align | .runHfi | .couch | .runObs | .stopping | .lost => true
  | _ => false

/-- Where a stop comes from (R312). -/
inductive StopKind where
  | command | lease | safe | hardware
  deriving DecidableEq, Repr

/-- Stop categories (Table 16-5). -/
inductive StopCat where
  | ramp | freewheel | short
  deriving DecidableEq, Repr

def StopCat.code : StopCat → Nat
  | .ramp => 0 | .freewheel => 1 | .short => 2

/-- A stop in progress. -/
structure StopRec where
  cat  : StopCat
  kind : StopKind
  at_  : Nat
  deriving DecidableEq, Repr

/-- The parameters of AXIS_CONFIG (Table 16-7). -/
structure AxCfg where
  pwmHz    : Nat
  dt       : Nat
  reverse  : Bool
  lostAction : Nat
  iFs      : Nat
  vFs      : Nat
  iMax     : Nat
  alignI   : Nat
  alignMs  : Nat
  hfiHz    : Nat      -- 10 Hz
  hfiAmp   : Nat
  couchLo  : Nat
  couchHi  : Nat
  spdMax   : Nat
  agreeDeg : Nat
  agreeN   : Nat
  accel    : Nat
  decel    : Nat
  residMax : Nat
  satHoldUs : Nat
  rampMs   : Nat
  curKp    : Int      -- 1/4,096
  curKi    : Int      -- 1/65,536
  spdKp    : Int
  spdKi    : Int
  deriving DecidableEq, Repr

/-- A motion command (AXIS_COMMAND). -/
structure AxCmd where
  mode     : Nat
  setpoint : Int
  iLimit   : Nat
  spdLimit : Nat
  deriving DecidableEq, Repr

/-- A phase of the motor. -/
inductive Phase where
  | u | v | w
  deriving DecidableEq, Repr

def Phase.ix : Phase → Nat
  | .u => 0 | .v => 1 | .w => 2

/-- The drive pattern behind the six outputs. -/
inductive Pattern where
  | off
  | drive (hi lo : Phase)   -- high side under PWM, low side held on
  | short                   -- three low sides on
  deriving DecidableEq, Repr

/-- The six gate outputs: level of each, and the tick at which a turn-on waiting for its dead time acts. Index 2p is the
high side of phase p, 2p + 1 its low side. -/
structure Gates where
  pattern : Pattern
  level   : Vector Bool 6
  due     : Vector (Option Nat) 6
  lowAt   : Vector Nat 6       -- tick at which the output last went low
  since   : Nat                -- tick at which the pattern was taken
  deriving DecidableEq, Repr

def Gates.reset : Gates :=
  { pattern := .off, level := Vector.replicate 6 false, due := Vector.replicate 6 none, lowAt := Vector.replicate 6 0, since := 0 }

/-- The last valley sample (R306, R319), scaled. -/
structure AxSample where
  iMa     : Vector Int 3      -- phase currents, mA
  vMv     : Vector Nat 3      -- phase voltages, mV
  vdcMv   : Nat
  iCode   : Vector Int 3      -- corrected current codes
  vCode   : Vector Int 3
  vdcCode : Int
  thetaHfi : Nat              -- 0.01°
  time    : Time96
  deriving DecidableEq, Repr

def AxSample.reset : AxSample :=
  { iMa := Vector.replicate 3 0, vMv := Vector.replicate 3 0, vdcMv := 0, iCode := Vector.replicate 3 0,
    vCode := Vector.replicate 3 0, vdcCode := 0, thetaHfi := 0, time := 0 }

/-- A loaded observer network (R325 to R330, R335). -/
structure ObsNet where
  nin   : Nat
  nout  : Nat
  act   : Nat
  hid   : List Nat
  inmap : List Nat
  blob  : Bytes                -- the SELF copy of the weights
  coreOk : Bool                -- the core-store copy is sound
  lo    : Vector Word 4
  hi    : Vector Word 4
  slew  : Vector Word 4
  fresh : Bool                 -- no sample yet since the load or the enable: the calender starts afresh at the next
  out   : Vector Word 4        -- calender outputs at the last sample, FP32
  bound : Vector Nat 4         -- consecutive samples at a bound
  missRun : Nat
  port  : Fin 4                -- owner that loaded it
  deriving DecidableEq, Repr

/-- A network evaluation whose outputs have not left the calender. -/
structure Eval where
  kind  : Fin 3
  outs  : Vector Word 4
  sat   : Nat                  -- values of the evaluation that saturated (R183)
  fresh : Bool                 -- its sample is the network's first since the load or the enable
  valleyAt : Nat
  deriving DecidableEq, Repr

/-- What AXIS_STATUS shows of a valley sample (Table 16-9). -/
structure AxStatus where
  st       : AxSt
  stop     : Nat              -- category of the stop in progress or last taken, 0xFF none
  flags    : Nat
  sector   : Nat              -- 0xFF while not commutating
  theta    : Nat
  speed    : Int
  sample   : AxSample
  thetaObs : Nat
  temp     : Nat
  load     : Nat
  residual : Nat
  setpoint : Int
  mode     : Nat
  duty     : Nat
  comm     : Nat
  held     : Nat              -- µs at bounds of the calender
  deriving DecidableEq, Repr

def AxStatus.reset : AxStatus :=
  { st := .disabled, stop := 0xFF, flags := 0, sector := 0xFF, theta := 0, speed := 0, sample := .reset, thetaObs := 0,
    temp := 0x80000000, load := 0x80000000, residual := 0, setpoint := 0, mode := 0, duty := 0, comm := 0, held := 0 }

/-- A hand-over that waits for the other networks of its sample (Table 17-6): θ, speed and the sector of the next valley. -/
structure Handover where
  theta  : Nat
  speed  : Int
  sector : Fin 6
  deriving DecidableEq, Repr

/-- One axis. -/
structure Axis where
  st       : AxSt
  cause    : Nat
  cfg      : Option AxCfg
  hold     : Bool
  stop     : Option StopRec
  lastStop : Option StopCat    -- stop last taken since enable
  lossRunning : Bool           -- a lease loss action is still running (R103)
  realign  : Bool
  zeroFrom : Option Nat        -- tick at which the zeroing of an enable began (R307)
  zero     : Vector Int 3      -- AX_OFFSETc
  trim     : Vector Int 7
  itrip    : Nat
  vdcMin   : Nat
  vdcMax   : Nat
  vdcLowFrom : Option Nat      -- tick since which the DC link is below MIN
  alignFrom : Nat
  cmd      : AxCmd             -- command in force
  cmdNext  : Option AxCmd      -- acts at the next valley
  spdCmd   : Int               -- speed command, 0.1 Hz / 1,000
  curInt   : Int               -- current loop integral, duty in 2^-32
  spdInt   : Int               -- speed loop integral, 10 mA in 2^-32
  gates    : Gates
  sector   : Option (Fin 6)
  sectorNext : Option (Fin 6)  -- acts at the next valley
  stepped  : Bool              -- the sector changed at the last valley
  obsSrc   : Bool              -- θ in use comes from the POSITION observer
  injAcc   : Nat               -- phase of the injection, in PWM_HZ of half a period
  satSeen  : Bool              -- the present sample is counted in SAT
  theta    : Nat               -- θ in use, 0.01°
  speed    : Int               -- 0.1 Hz
  thetaObs : Nat
  injSign  : Bool
  seed     : Option Nat        -- θ_OBS that seeds the injection estimator (R340)
  clamped  : Bool
  agree    : Nat
  lastD    : Int
  residual : Nat
  flt      : Bool              -- AXn_FLT_N low
  overcur  : Bool              -- the present samples lie beyond AX_ITRIP
  stillFrom : Option Nat
  sample   : AxSample
  commSince : Nat              -- commutations since enable
  cntComm  : Nat
  cntLost  : Nat
  cntFault : Nat
  cntOver  : Nat
  cntRefused : Nat
  nets     : Vector (Option ObsNet) 3
  netsNew  : Vector (Option ObsNet) 3   -- loaded, in use from the next valley sample (R330)
  handover : Option Handover
  enteredAt : Nat              -- tick of the last change of state
  status   : AxStatus          -- as of the last valley sample
  statusPrev : AxStatus        -- as of the one before it
  statusAt : Nat               -- tick of the last valley sample
  missN    : Nat
  latLast  : Nat
  latMax   : Nat
  cntMiss  : Nat
  cntRestore : Nat
  cntSat   : Nat
  cntObsFault : Nat
  evals    : List Eval
  firstSample : Bool           -- no valley sample yet since enable
  deriving DecidableEq, Repr

def Axis.reset : Axis :=
  { st := .disabled, cause := 0, cfg := none, hold := false, stop := none, lastStop := none, lossRunning := false,
    realign := false, zeroFrom := none, zero := Vector.replicate 3 0, trim := Vector.replicate 7 0,
    itrip := 95, vdcMin := 0, vdcMax := 0xFFFF, vdcLowFrom := none, alignFrom := 0, cmd := ⟨0, 0, 1, 1⟩,
    cmdNext := none, spdCmd := 0, curInt := 0, spdInt := 0, gates := .reset, sector := none, sectorNext := none, stepped := false, obsSrc := false,
    injAcc := 0, satSeen := false, theta := 0, speed := 0,
    thetaObs := 0, injSign := false, seed := none, clamped := false, agree := 0, lastD := 0,
    residual := 0, flt := false, overcur := false, stillFrom := none, sample := .reset, commSince := 0, cntComm := 0,
    cntLost := 0, cntFault := 0, cntOver := 0, cntRefused := 0, nets := Vector.replicate 3 none,
    netsNew := Vector.replicate 3 none, handover := none, enteredAt := 0, status := .reset, statusPrev := .reset, statusAt := 0, missN := 4,
    latLast := 0, latMax := 0, cntMiss := 0, cntRestore := 0, cntSat := 0, cntObsFault := 0, evals := [],
    firstSample := false }

/-- The SAFETY block (Table 16-11). -/
structure Safety where
  stopCat  : Vector Nat 8
  thermal  : Bool        -- thermal stop latched (R34)
  clock    : Bool        -- clock stop latched (R58)
  sfpLoss  : Bool        -- SFP link loss since the last SAFE_RELEASE
  falls    : Nat
  safeStops : Nat
  stopResp : Nat
  deriving DecidableEq, Repr

def Safety.reset : Safety :=
  { stopCat := Vector.replicate 8 1, thermal := false, clock := false, sfpLoss := false, falls := 0, safeStops := 0,
    stopResp := 0 }

end Sys2Proof.Machine
end

