-- ==== Sys2Proof/Machine/IllumState.lean ====
section
/-! DEFINITION. State of the sinks, groups, string supply and matrix (18_illumination.md). Voltages are in mV, currents
in µA, window times in ns of device time. -/

namespace Sys2Proof.Machine

/-- One current sink: what LIGHT_SET stored, what is applied, and what its measurements say (R347, R349, R356). -/
structure Sink where
  group   : Option (Fin 8)
  code    : Nat            -- stored
  duty    : Nat            -- stored
  apCode  : Nat            -- applied
  apDuty  : Nat            -- applied
  on      : Bool           -- sinking now
  run     : Bool           -- in an on-interval whose measurement is still to come
  h       : Nat            -- headroom of the last scan it was measured in
  inReg   : Bool           -- in regulation at its last measurement
  prevReg : Bool           -- the same at the measurement before it, with the VSTR of that time
  prevVstr : Nat
  measuredOnce : Bool
  shortRun : Nat           -- consecutive measured scans that meet the short criterion
  fail    : Nat            -- 0 none, 1 open, 2 short
  scanH   : Option Nat     -- least ball voltage in this scan, none while not measured
  scanMax : Nat            -- greatest current in this scan
  scanReg : Bool           -- every current of this scan within 1 %
  blendFrom : Nat          -- applied duty at v0 (R384)
  deriving DecidableEq, Repr

def Sink.reset : Sink :=
  { group := none, code := 0, duty := 0, apCode := 0, apDuty := 0, on := false, run := false, h := 0, inReg := false,
    prevReg := false, prevVstr := 0, measuredOnce := false, shortRun := 0, fail := 0, scanH := none, scanMax := 0,
    scanReg := true, blendFrom := 0 }

/-- The fields of LIGHT_GROUP_CONFIG (Table 18-1). -/
structure LightCfg where
  colour   : Nat
  ctrlSrc  : Nat           -- 0 HOST, 1 BUS, 2 STROBE
  failsafe : Nat
  lts      : Option (Fin 4)
  mask     : Nat
  deriving DecidableEq, Repr

def LightCfg.reset : LightCfg := ⟨0, 0, 0, none, 0⟩

/-- A queued LIGHT_SET (R354). -/
structure QueuedSet where
  at_     : Nat                        -- TIME96, 0 for the next boundary
  entries : List (Fin 48 × Nat × Nat)  -- sink, CODE, DUTY
  deriving DecidableEq, Repr

/-- An armed strobe (R355). -/
structure Strobe where
  tp     : Fin 4
  offset : Nat
  length : Nat
  left   : Option Nat      -- windows left, none: continuous
  deriving DecidableEq, Repr

/-- One illumination group. -/
structure Group where
  cfg     : LightCfg
  cfgNext : Option LightCfg      -- acts at the next TIM08 valley
  queue   : List QueuedSet
  strobe  : Option Strobe
  opens   : List Nat             -- device times (ns) at which windows are due to open
  closeAt : Option Nat           -- device time (ns) at which the open window closes
  openTick : Nat                 -- tick at which the last window opened
  latched : Bool
  sinkFail : Bool
  cause   : Nat
  faultSink : Nat
  windows : Nat
  f       : Nat                  -- bus factor F
  blendAt : Option Nat           -- tick v0 of a switch to BUS
  sensorSeen : Bool              -- EV_LIGHT_FAULT of kind 3 sent for the present fault of its sensor
  deriving DecidableEq, Repr

def Group.reset : Group :=
  { cfg := .reset, cfgNext := none, queue := [], strobe := none, opens := [], closeAt := none, openTick := 0, latched := false,
    sinkFail := false, cause := 0, faultSink := 255, windows := 0, f := 0, blendAt := none, sensorSeen := false }

/-- States of the switching stage (Table 18-11). -/
inductive StageSt where
  | idle | rising | regulating | discharging | fault
  deriving DecidableEq, Repr

def StageSt.code : StageSt → Nat
  | .idle => 0 | .rising => 1 | .regulating => 2 | .discharging => 3 | .fault => 4

/-- The string supply (R357, R361, R368). -/
structure VStage where
  st       : StageSt
  vstr     : Nat             -- measured VSTR
  set      : Nat
  dis      : Bool            -- VSTR_DIS active
  ovp      : Bool            -- discharging after an overvoltage
  resumeAt : Option Nat      -- tick at which the stage resumes after a harness open
  ovpAt    : List Nat        -- ticks of the overvoltages of the last second
  nearMaxFrom : Option Nat   -- tick since which VSTR has been within 0.5 V of VMAX
  deriving DecidableEq, Repr

def VStage.reset : VStage :=
  { st := .idle, vstr := 0, set := 0, dis := true, ovp := false, resumeAt := none, ovpAt := [], nearMaxFrom := none }

/-- A lamp-board sensor (R350). -/
structure Lts where
  v0    : Nat
  slope : Int
  temp  : Int       -- 1/16 °C
  fault : Bool
  mv    : Nat
  deriving DecidableEq, Repr

def Lts.reset : Lts := ⟨500, 10000, 0, false, 0⟩

/-- A matrix frame (Table 18-8). -/
structure MxFrame where
  mask  : Nat
  tPre  : Nat
  codes : List Byte    -- 384 codes, line by line
  deriving DecidableEq, Repr

/-- The matrix. -/
structure Matrix where
  lineT    : Nat              -- as written
  lineTUse : Nat              -- in force
  pending  : Option MxFrame
  frame    : MxFrame          -- in force
  scanned  : Bool             -- a frame has taken effect
  line     : Fin 16
  frames   : Nat
  fault    : Bool
  lineAt   : Option Nat       -- tick at which the line now scanned began
  deriving DecidableEq, Repr

def Matrix.reset : Matrix :=
  { lineT := 2500, lineTUse := 2500, pending := none, frame := ⟨0, 0, []⟩, scanned := false, line := 0, frames := 0,
    fault := false, lineAt := none }

/-- The ILLUMINATION block. -/
structure Illum where
  sinks   : Vector Sink 48
  groups  : Vector Group 8
  stage   : VStage
  lts     : Vector Lts 4
  comp    : Vector (Vector Nat 9) 6
  dimC    : Nat              -- as written
  dimUse  : Nat              -- in force
  vminDv  : Nat
  vmaxDv  : Nat
  hrTgt   : Nat
  shortMv : Nat
  cntOpen : Nat
  cntShort : Nat
  cntHarness : Nat
  cntOvp  : Nat
  valleyTick : Nat          -- tick of the last TIM08 valley
  matrix  : Matrix
  deriving DecidableEq, Repr

def Illum.reset : Illum :=
  { sinks := Vector.replicate 48 .reset, groups := Vector.replicate 8 .reset, stage := .reset,
    lts := Vector.replicate 4 .reset, comp := Vector.replicate 6 (Vector.replicate 9 32768), dimC := 2, dimUse := 2,
    vminDv := 60, vmaxDv := 460, hrTgt := 400, shortMv := 6000, cntOpen := 0, cntShort := 0, cntHarness := 0,
    cntOvp := 0, valleyTick := 0, matrix := .reset }

end Sys2Proof.Machine
end

