-- ==== Sys2Proof/Machine/OwnersState.lean ====
section
/-! DEFINITION. State of the owners, their sessions and ports, the leases, and the HPA rings
(05_owners_ports_leases.md, 06_command_transport.md). -/

namespace Sys2Proof.Machine

/-- A packet the device made, before sealing: its header fields, payload and the key it is sealed under. -/
structure Packet where
  opcode : Nat          -- byte 1 as sent (bit 7 set for a reply, 0xC0 for an event)
  tag    : Nat          -- bytes 2 to 3
  owner  : Nat          -- byte 4 bits [3:0]
  enc    : Bool
  dup    : Bool
  event  : Bool
  cls    : Nat
  seq    : Nat
  last   : Nat          -- bytes 12 to 15: status, or the index of an event
  payload : Bytes
  key    : Option Bytes -- K_D; none: the zero key
  deriving DecidableEq, Repr

/-- A reply the device owes: the command's header, the session it belongs to (none: sessionless). -/
structure Ticket where
  hdr    : Hdr
  opcode : Nat
  serial : Option Nat
  deriving DecidableEq, Repr

/-- An event in an owner's queue (R121, R151). -/
structure EventMsg where
  code : Nat
  cls  : Nat
  idx  : Nat
  seq  : Nat
  body : Bytes          -- the whole payload, TIME96 included
  deriving DecidableEq, Repr

/-- An accepted sequence number and its reply, none while it is not sent, with the tick it was sent in (R116, R128). -/
structure Cached where
  seq    : Nat
  reply  : Option Packet
  sentAt : Nat
  deriving DecidableEq, Repr

/-- An open session (R113 to R116, R121). -/
structure Session where
  serial : Nat
  keyC   : Bytes
  keyD   : Bytes
  high   : Nat                           -- H of R116
  cache  : List Cached                   -- the 64 highest accepted numbers
  mask   : Nat                           -- EVENT_SUBSCRIBE mask
  encEv  : Bool
  evSeq  : Nat                           -- number the next event takes
  outstanding : Nat                      -- accepted commands not yet answered (R119)
  fresh   : List EventMsg                -- events that arose in tick freshAt, subscribed to or not (Table 7-15)
  freshAt : Nat
  freshSeq : Nat                         -- evSeq before the first of them
  freshLost : Nat                        -- how many of them a full queue cost
  closing : Option Ticket                -- a CLOSE_SESSION waiting for the others' replies (R120)
  ending  : Bool                         -- 0xFFFF_FFFF accepted: ends when the replies are out (R115)
  deriving DecidableEq, Repr

/-- One host owner. -/
structure OwnerState where
  session   : Option Session
  challenge : Option (Bytes × Nat)       -- N_D and the tick it was issued in (R114)
  events    : List EventMsg              -- oldest first, at most 256
  evtDest   : Option (Word × BitVec 16)  -- HPB: where events go (R92)
  sys       : Bool                       -- OWNER_RIGHTSn.SYS
  quotaMib  : Nat
  quotaTok  : Nat
  cntAuth   : Nat
  cntReplay : Nat
  cntLost   : Nat
  cntDup    : Nat
  deriving DecidableEq, Repr

def OwnerState.reset (sys : Bool) (quotas : Bool) : OwnerState :=
  { session := none, challenge := none, events := [], evtDest := none, sys := sys,
    quotaMib := if quotas then 30720 else 0, quotaTok := if quotas then 16384 else 0,
    cntAuth := 0, cntReplay := 0, cntLost := 0, cntDup := 0 }

/-- A lease (R101). Holder 0: free. -/
structure Lease where
  owner  : Nat
  expiry : Nat     -- tick of expiry
  lapsed : Vector Bool 4  -- by port: the owner's last lease of the resource ended by expiry (R101: E_LEASE_EXPIRED)
  deriving DecidableEq, Repr

def Lease.free : Lease := ⟨0, 0, Vector.replicate 4 false⟩

/-- Every lease and the JOB_POOL shares (Table 5-5, Table 5-8). -/
structure Leases where
  axis   : Vector Lease 8
  illum  : Vector Lease 8
  matrix : Lease
  sensor : Vector Lease 6
  tagSlot : Vector Lease 32
  timer  : Vector Lease 6         -- TIM10 to TIM15
  pool   : Vector Lease 4         -- by port; entry 2 (SFP) stays free
  link   : Vector Lease 10
  tags   : Vector Nat 4           -- TAGS of each share
  cores  : Vector Nat 4           -- CORES_MIN of each share
  lossAction : Vector Nat 8       -- LOSS_ACTION_AXn
  deriving DecidableEq, Repr

def Leases.reset : Leases :=
  { axis := Vector.replicate 8 .free, illum := Vector.replicate 8 .free, matrix := .free,
    sensor := Vector.replicate 6 .free, tagSlot := Vector.replicate 32 .free, timer := Vector.replicate 6 .free,
    pool := Vector.replicate 4 .free, link := Vector.replicate 10 .free, tags := Vector.replicate 4 0,
    cores := Vector.replicate 4 0, lossAction := Vector.replicate 8 0 }

/-- One MSI-X table entry: message address, data, vector control. -/
structure MsixEntry where
  addrLo : Word
  addrHi : Word
  data   : Word
  ctrl   : Word
  deriving DecidableEq, Repr

/-- HPA: link, rings and BAR0 (Table 6-7). Ring positions count entries since EN, so a position modulo the ring size
is its index and the pass it is on gives PHASE. -/
structure Hpa where
  linkUp  : Bool
  perstN  : Bool
  en      : Bool
  ringErr : Bool
  epoch   : Nat            -- times EN was cleared: a reply of an earlier use of the rings is discarded. The model's own
  sqBase  : BitVec 64
  cqBase  : BitVec 64
  eqBase  : BitVec 64
  sqLog   : Nat
  cqLog   : Nat
  eqLog   : Nat
  sqTail  : Nat
  cqHead  : Nat
  eqHead  : Nat
  sqPos   : Nat            -- SQ entries fetched since EN
  cqPos   : Nat            -- CQ entries written since EN
  eqPos   : Nat            -- EQ entries written since EN
  cqOwed  : Nat            -- fetched entries whose CQ entry is still owed
  vecCq   : Nat
  vecEv   : Vector Nat 19
  perTag  : Vector Bool 2  -- for event codes 1 and 2
  msix    : Vector MsixEntry 64
  pba     : Vector Bool 64
  deriving DecidableEq, Repr

def Hpa.reset : Hpa :=
  { linkUp := false, perstN := true, en := false, ringErr := false, epoch := 0, sqBase := 0, cqBase := 0,
    eqBase := 0, sqLog := 4, cqLog := 4, eqLog := 4, sqTail := 0, cqHead := 0, eqHead := 0, sqPos := 0, cqPos := 0,
    eqPos := 0, cqOwed := 0, vecCq := 0, vecEv := Vector.replicate 19 1, perTag := Vector.replicate 2 false,
    msix := Vector.replicate 64 ⟨0, 0, 0, 0⟩, pba := Vector.replicate 64 false }

/-- The network settings a write of which takes effect within 1 ms (R106). -/
structure NetCfg where
  hpbIp    : Word
  mode     : Bool
  jumbo    : Bool
  vlanEn   : Bool
  vid      : Nat
  pcp      : Nat
  phyAddr  : Nat
  pfx      : Nat      -- PREFIX
  gw       : Word
  lossMs   : Nat
  lossStop : Bool
  deriving DecidableEq, Repr

def NetCfg.reset : NetCfg :=
  { hpbIp := 0, mode := false, jumbo := false, vlanEn := false, vid := 0, pcp := 0, phyAddr := 0, pfx := 24, gw := 0,
    lossMs := 10, lossStop := true }

/-- A packet in reassembly on SFP (R95). -/
structure SfpAssembly where
  frag  : Nat
  last  : Nat
  prev  : Bytes      -- the 32 bytes of the last fragment taken
  data  : Bytes
  deriving DecidableEq, Repr

/-- HPB, SFP and MNT. -/
structure Net where
  written  : NetCfg          -- what the registers read
  inForce  : NetCfg          -- what frames are judged under
  writtenAt : Option Nat     -- tick of the last write not yet in force
  ethUp    : Bool
  sfpArmed : Bool
  sfpLoss  : Bool            -- SFP_STATUS.LOSS, RW1C
  sfpLost  : Bool            -- link lost now
  sfpLossAt : Option Nat     -- tick of the last loss
  sfpSeqErr : Nat
  sfpCrcErr : Nat
  sfpValidAt : Nat           -- tick of the last valid frame
  sfpAsm   : Option SfpAssembly
  sfpOut   : List Bytes      -- frames waiting for the controller's clock
  stopN    : Bool            -- level of SFP_STOP_N
  mntUp    : Bool
  mntErr   : Nat
  contended : Nat
  notHolder : Nat
  deriving DecidableEq, Repr

def Net.reset : Net :=
  { written := .reset, inForce := .reset, writtenAt := none, ethUp := false, sfpArmed := false, sfpLoss := false,
    sfpLost := false, sfpLossAt := none, sfpSeqErr := 0, sfpCrcErr := 0, sfpValidAt := 0, sfpAsm := none, sfpOut := [], stopN := true,
    mntUp := false, mntErr := 0, contended := 0, notHolder := 0 }

end Sys2Proof.Machine
end

