-- ==== Sys2Proof/Machine/JobsState.lean ====
section
/-! DEFINITION. State of the cores, graphs, jobs, tokens and the headbox (09_compute_core_numerics.md,
10_jobs_tokens_restart.md, 11_point_pipeline.md). -/

namespace Sys2Proof.Machine

/-- Core states (Table 9-5). -/
inductive CoreSt where
  | off | idle | job | pinned | fault
  deriving DecidableEq, Repr

def CoreSt.code : CoreSt → Nat
  | .off => 0 | .idle => 1 | .job => 2 | .pinned => 3 | .fault => 4

/-- One compute core (R189 to R192). -/
structure Core1 where
  st      : CoreSt
  retired : Bool
  barred  : Bool              -- serves no axis until reset (R345)
  job     : Option (Fin 64)   -- tag of the attempt on it
  faults  : Nat
  idleAt  : Nat               -- tick since which it is IDLE
  faultAt : Option Nat        -- tick in which it last entered FAULT
  deriving DecidableEq, Repr

/-- The cores and their registers (Table 9-7). -/
structure Cores where
  core      : Vector Core1 32
  idleOffMs : Nat
  faultMax  : Nat
  cntSat    : Nat
  cntNonfin : Nat
  cntRehash : Nat
  deriving DecidableEq, Repr

def Cores.reset : Cores :=
  { core := Vector.replicate 32 ⟨.off, false, false, none, 0, 0, none⟩, idleOffMs := 0, faultMax := 4, cntSat := 0,
    cntNonfin := 0, cntRehash := 0 }

/-- A tensor of a graph description (Table 10-1). -/
structure Tensor where
  format : Nat
  rank   : Nat
  place  : Nat
  dims   : List Nat     -- four entries
  size   : Nat
  deriving DecidableEq, Repr

/-- A binding slot. -/
structure Slot where
  tensor : Nat
  kind   : Nat
  deriving DecidableEq, Repr

/-- An operator node: the inputs and outputs in use and its parameter bytes. -/
structure Node where
  op     : Nat
  ins    : List Nat
  outs   : List Nat
  params : Bytes
  deriving DecidableEq, Repr

/-- A loaded graph (R198 to R201). -/
structure Graph where
  handle    : Nat
  port      : Fin 4
  coresLow  : Nat
  coresHigh : Nat
  sensorMin : Nat
  windowUs  : Nat
  slots     : List Slot
  tensors   : List Tensor
  nodes     : List Node
  brokeHbm  : Nat      -- MiB
  brokeVat  : Nat      -- granules
  records   : Nat      -- result records per job
  copyMib   : Nat      -- MiB of the SELF pool the device's copy takes
  deriving DecidableEq, Repr

/-- Job states (Table 7-7). -/
inductive JobSt where
  | waiting | ready | running | restarting | done | failed | cancelled
  deriving DecidableEq, Repr

def JobSt.code : JobSt → Nat
  | .waiting => 1 | .ready => 2 | .running => 3 | .restarting => 4
  | .done => 5 | .failed => 6 | .cancelled => 7

def JobSt.ended : JobSt → Bool
  | .done | .failed | .cancelled => true
  | _ => false

/-- A binding of a job (Table 7-6). -/
structure Binding where
  slot   : Nat
  kind   : Nat
  target : Nat       -- region handle, or port number for KIND 2
  offset : Nat
  deriving DecidableEq, Repr

/-- A camera model: the registers 0x000 to 0x088 of a HEADBOX instance by word index (Table 11-6). -/
abbrev CamModel := Vector Word 35

/-- A frame delivered to a job: the port, its buffer, its frame-start time. -/
structure Delivery where
  port   : Fin 6
  buffer : Fin 4
  fsTime : Time96
  fsTick : Nat
  deriving DecidableEq, Repr

/-- A job under its tag (R202 to R212). -/
structure Job where
  port      : Fin 4
  graph     : Graph
  st        : JobSt
  attempt   : Nat
  retry     : Nat
  autoRelease : Bool
  waitToken : Option Nat
  tokenTaken : Bool
  signalToken : Option Nat
  binds     : List Binding
  waitFrom  : Time96              -- device time from which frames are taken (R204)
  delivered : List Delivery
  cams      : List (Fin 6 × CamModel)   -- snapshot of R219
  readyPos  : Option Nat          -- place in the order of first becoming READY
  cores     : List (Fin 32)       -- cores of the attempt, also while they stop
  brokeKey  : Option Nat          -- serial of the attempt's broke key set
  brokeHbm  : List Nat
  brokeVat  : List Nat
  hashSeed  : Nat                 -- DRBG draw that seeded the attempt's hash tables (R188)
  rebuilds  : Nat                 -- table rebuilds in the operator `rebuildNode`
  rebuildNode : Option Nat        -- node of the last rebuild of the attempt
  selfTokens : List (Nat × Nat)   -- SELF tokens of the attempt with their counts, at most 16 (R214)
  disarmed  : List (Fin 6)        -- ports disarmed while the job waited on them (R205)
  lastClass : Nat
  lastCore  : Nat
  lastRegion : Nat
  lastDetail : Nat
  flags     : Nat
  final     : Nat                 -- FINAL, 0xFFFF until the job ends
  results   : Nat
  start     : Time96
  end_      : Time96
  deriving DecidableEq, Repr

/-- The attempt of a job whose tag was freed while its cores still stop (R206, R211). -/
structure Stopping where
  tag      : Fin 64
  port     : Fin 4
  cores    : List (Fin 32)
  brokeHbm : List Nat
  brokeVat : List Nat
  selfTokens : List (Nat × Nat)
  deriving DecidableEq, Repr

/-- Who waits on a token (R145, R213). -/
inductive Waiter where
  | host (t : Ticket) (amount : Nat) (deadline : Nat)
  | job (tag : Fin 64)
  deriving DecidableEq, Repr

/-- A token. -/
structure Token where
  id      : Nat
  port    : Fin 4
  count   : Nat
  waiters : List Waiter
  deriving DecidableEq, Repr

/-- Jobs, graphs and tokens, with the registers of Table 10-4. -/
structure Jobs where
  graphs    : List Graph
  tags      : Vector (Option Job) 64
  stopping  : List Stopping          -- attempts without a tag, oldest first
  log       : Vector Nat 64          -- ATTEMPT_LOGt
  readyNext : Nat
  tokens    : List Token
  retryMax  : Nat
  abandons  : Nat
  cntFailed : Nat
  cntCancel : Nat
  tokenOvf  : Nat
  graphSel  : Vector Nat 4
  tokSel    : Vector Nat 4
  deriving DecidableEq, Repr

def Jobs.reset : Jobs :=
  { graphs := [], tags := Vector.replicate 64 none, stopping := [], log := Vector.replicate 64 0, readyNext := 0, tokens := [],
    retryMax := 2, abandons := 0, cntFailed := 0, cntCancel := 0, tokenOvf := 0,
    graphSel := Vector.replicate 4 0, tokSel := Vector.replicate 4 0 }

/-- One HEADBOX instance (Table 11-6). -/
structure CamState where
  shadow  : CamModel
  active  : CamModel
  valid   : Bool
  result  : Nat
  commits : Nat
  deriving DecidableEq, Repr

/-- Reset values of the camera registers: the identity rotation and DEPTH_MAX_UM. -/
def CamModel.reset : CamModel :=
  Vector.ofFn fun i : Fin 35 =>
    if i.val = 16 ∨ i.val = 20 ∨ i.val = 24 then 0x3F800000#32 else if i.val = 33 then 0x00400000#32 else 0#32

/-- The HEADBOX block. -/
structure Headbox where
  cam     : Vector CamState 6
  radDrop : Nat
  ingest  : Vector Nat 64     -- INGESTt
  sparse  : Vector Nat 64     -- SPARSEt
  deriving DecidableEq, Repr

def Headbox.reset : Headbox :=
  { cam := Vector.replicate 6 ⟨.reset, .reset, false, 0, 0⟩, radDrop := 0, ingest := Vector.replicate 64 0,
    sparse := Vector.replicate 64 0xFFFF }

end Sys2Proof.Machine
end

