-- ==== Sys2Proof/Machine/LbusState.lean ====
section
/-! DEFINITION. State of the lighting bus node (19_lighting_bus.md). A level is kept in 2^-32 of a level, so that the
fractional level of a running fade has a place. -/

namespace Sys2Proof.Machine

/-- The mapping and the persistent variables of a gear (R375). -/
structure GearVars where
  group     : Fin 8
  linear    : Bool
  short     : Option Nat
  random    : Nat
  busGroups : Nat
  scenes    : Vector Nat 16
  minLevel  : Nat
  maxLevel  : Nat
  powerOn   : Nat
  sysFail   : Nat
  fadeTime  : Nat
  fadeRate  : Nat
  lastActive : Nat
  deriving DecidableEq, Repr

/-- A running fade (R379). -/
structure Fade where
  start  : Nat     -- tick
  dur    : Nat     -- ticks
  from_  : Int     -- 2^-32 level
  to_    : Int     -- 2^-32 level
  deriving DecidableEq, Repr

/-- A mapped gear. -/
structure Gear where
  vars      : GearVars
  level     : Int            -- 2^-32 level, outside a fade
  target    : Nat
  fade      : Option Fade
  init      : Option Nat     -- tick of the INITIALISE in force
  withdrawn : Bool
  identifyAt : Option Nat    -- tick of IDENTIFY DEVICE
  limitError : Bool
  powerCycle : Bool
  leadAt    : Nat            -- order of the last command that changed its target, 0 none
  lampFail  : Bool           -- lamp-failure bit as last reported by EV_GEAR
  savedAt   : Nat            -- tick of the last write of the last active level
  lastDirty : Bool           -- the last active level differs from the stored one
  lossDue   : Bool           -- its bus lost power; acts at the next valley
  curveNext : Option Bool    -- SELECT DIMMING CURVE, acts from the next valley
  deriving DecidableEq, Repr

/-- What a bus owes as a backward frame: one value, or a collision (R376). -/
inductive BusAnswer where
  | value (v : Byte)
  | collision
  deriving DecidableEq, Repr

/-- One bus port. -/
structure Bus where
  power    : Bool
  answers  : Bool                       -- the bus answers frames (R391)
  frames   : Nat
  frameErr : Nat
  powerLoss : Nat
  collided : Nat
  search   : Nat                        -- search address, 24 bits
  dtr0     : Nat
  dtr1     : Nat
  dtr2     : Nat
  dt6      : Bool                       -- the frame before was ENABLE DEVICE TYPE 6
  last     : Option (BitVec 16 × Nat)   -- frame before and its tick, for send-twice
  answer   : Option (BusAnswer × Nat)   -- backward frame owed and its tick
  deriving DecidableEq, Repr

def Bus.reset : Bus :=
  { power := false, answers := false, frames := 0, frameErr := 0, powerLoss := 0, collided := 0, search := 0xFFFFFF,
    dtr0 := 0, dtr1 := 0, dtr2 := 0, dt6 := false, last := none, answer := none }

/-- The LIGHTING BUS block: gear 8b + s. -/
structure Lbus where
  bus     : Vector Bus 2
  gear    : Vector (Option Gear) 16
  order   : Nat                         -- commands that changed a target so far
  deriving DecidableEq, Repr

def Lbus.reset : Lbus :=
  { bus := Vector.replicate 2 .reset, gear := Vector.replicate 16 none, order := 0 }

end Sys2Proof.Machine
end

