-- ==== Sys2Proof/Machine/LtuState.lean ====
section
/-! DEFINITION. State of the link test units and self-tests (22_link_test.md). -/

namespace Sys2Proof.Machine

/-- Unit states (Table 22-4). -/
inductive LtuSt where
  | idle | locking | counting | eye | ended
  deriving DecidableEq, Repr

def LtuSt.code : LtuSt → Nat
  | .idle => 0 | .locking => 1 | .counting => 2 | .eye => 3 | .ended => 4

def LtuSt.runs : LtuSt → Bool
  | .locking | .counting | .eye => true
  | _ => false

/-- Margins of one lane (R449): LEFT and RIGHT in 1/64 UI, TOP and BOTTOM in mV. -/
structure Eye where
  left   : Nat
  right  : Nat
  top    : Nat
  bottom : Nat
  deriving DecidableEq, Repr

def Eye.none : Eye := ⟨0, 0, 0, 0⟩

/-- What the generator of a unit sends (Table 22-2). -/
structure PatGen where
  pattern : Nat
  user    : BitVec 64
  inject  : Bool
  deriving DecidableEq, Repr

/-- One link test unit: LINK resources 0 to 9, then SENSOR resources 0 to 5 (R453). -/
structure Ltu where
  st      : LtuSt
  locked  : Bool
  result  : Nat
  pattern : Nat
  loop    : Nat
  eye     : Bool
  inject  : Bool
  lanes   : Nat
  user    : BitVec 64
  goal    : Nat
  bits    : Nat
  errors  : Nat
  laneErr : Vector Nat 4
  eyes    : Vector Eye 4
  startAt : Nat            -- tick
  endAt   : Nat            -- tick, when ended
  owner   : Fin 4
  serial  : Option Nat     -- session it was started in (R121)
  latBitsHi : Nat
  latErrLo : Nat
  latErrHi : Nat
  deriving DecidableEq, Repr

def Ltu.reset : Ltu :=
  { st := .idle, locked := false, result := 255, pattern := 0, loop := 0, eye := false, inject := false, lanes := 0,
    user := 0, goal := 0, bits := 0, errors := 0, laneErr := Vector.replicate 4 0, eyes := Vector.replicate 4 .none,
    startAt := 0, endAt := 0, owner := 0, serial := none, latBitsHi := 0, latErrLo := 0, latErrHi := 0 }

/-- Self-test of one axis (Table 22-6). -/
structure AxTest where
  running  : Bool
  done     : Bool
  chFail   : Nat
  gateFail : Nat
  interlock : Bool
  startAt  : Nat
  deriving DecidableEq, Repr

/-- Self-test of one group's sinks (Table 22-6). -/
structure SkTest where
  running : Bool
  done    : Bool
  opens   : Nat
  shorts  : Nat
  startAt : Nat
  deriving DecidableEq, Repr

/-- The LINK TEST block. -/
structure LinkTest where
  units : Vector Ltu 16
  axis  : Vector AxTest 8
  sink  : Vector SkTest 8
  deriving DecidableEq, Repr

def LinkTest.reset : LinkTest :=
  { units := Vector.replicate 16 .reset, axis := Vector.replicate 8 ⟨false, false, 0, 0, false, 0⟩,
    sink := Vector.replicate 8 ⟨false, false, 0, 0, 0⟩ }

end Sys2Proof.Machine
end

