-- ==== Sys2Proof/Machine/MemState.lean ====
section
/-! DEFINITION. State of the stores, regions, keys and enrolments (08_memory_and_keys.md). A byte of a store is kept as
the plaintext of the domain that last wrote its line; which key that was stands in the line's entry. -/

namespace Sys2Proof.Machine

/-- Memory contents: (byte address, byte) pairs, addresses strictly rising, no zero entry. -/
abbrev Mem := List Host.Cell

/-- The two stores an owner can allocate from (Table 8-1). -/
inductive Store where
  | hbm | vat
  deriving DecidableEq, Repr

/-- What the device knows of a line it has written: the key it was written under, the write's place in the order of
writes, and whether a fault has spoiled it since (1 uncorrectable, 2 tag mismatch). -/
structure LineInfo where
  line : Nat        -- physical byte address / 64
  key  : Nat        -- serial of the key set
  at_  : Nat        -- order of the write
  bad  : Nat
  deriving DecidableEq, Repr

/-- A granule that served a job attempt as broke: any of its lines may hold what the attempt wrote (R163). -/
structure BrokeUse where
  granule : Nat
  key     : Nat
  at_     : Nat
  deriving DecidableEq, Repr

/-- One store: its bytes, its written lines (rising), the granules broke has used. -/
structure StoreState where
  cells : Mem
  lines : List LineInfo
  broke : List BrokeUse
  deriving DecidableEq, Repr

def StoreState.reset : StoreState := ⟨[], [], []⟩

/-- A region (R154 to R157). -/
structure Region where
  handle   : Nat
  port     : Fin 4
  place    : Store
  size     : Nat            -- granted bytes
  granules : List Nat       -- its granules, in the order of its bytes
  deriving DecidableEq, Repr

/-- Enrolment operation in progress (R170). -/
structure EnrolOp where
  port   : Fin 4    -- writer
  owner  : Nat
  slot   : Nat
  op     : Nat
  startAt : Nat
  early  : Nat      -- RESULT the read of the key earned, 0 when it was read
  key    : Bytes
  deriving DecidableEq, Repr

/-- Memory, keys and enrolment. -/
structure MemState where
  hbm        : StoreState
  vat        : StoreState
  regions    : List Region       -- rising handles
  nextHandle : Nat               -- counter of R156
  selfMib    : Nat               -- MiB of the SELF pool in use
  order      : Nat               -- counter of line writes and broke uses
  domKeys    : Vector Nat 4      -- serial of each owner's domain key set, by port
  selfKey    : Nat
  keysUp     : Bool              -- domain key sets exist
  nextKey    : Nat               -- serial the next key set takes; survives reset
  cntVatCe   : Nat
  cntVatUe   : Nat
  cntCoreCe  : Nat
  cntCoreUe  : Nat
  cntHbmCe   : Nat
  cntHbmUe   : Nat
  cntInteg   : Nat
  fltCause   : Nat
  fltOwner   : Nat
  fltJob     : Nat
  fltRegion  : Nat
  fltLine    : Nat
  scrubS     : Nat
  deriving DecidableEq, Repr

def MemState.reset : MemState :=
  { hbm := .reset, vat := .reset, regions := [], nextHandle := 1, selfMib := 0, order := 0,
    domKeys := Vector.replicate 4 0, selfKey := 0, keysUp := false, nextKey := 1, cntVatCe := 0, cntVatUe := 0,
    cntCoreCe := 0, cntCoreUe := 0, cntHbmCe := 0, cntHbmUe := 0, cntInteg := 0, fltCause := 0, fltOwner := 0,
    fltJob := 255, fltRegion := 0, fltLine := 0, scrubS := 60 }

/-- An enrolment area of the configuration store (Table 8-3): its 4,096 bytes, or a partly written area. -/
structure EnrArea where
  bytes : Bytes
  torn  : Bool
  deriving DecidableEq, Repr

/-- Keys: entropy source, DRBG, enrolled owner keys, ENROL registers. -/
structure KeyState where
  entOk     : Bool
  startFail : Bool         -- the start-up test failed (R162)
  entFail   : Bool
  entSeen   : Bool
  keysOut   : Bool
  reseeds   : Nat
  requests  : Nat          -- DRBG requests since the last seed
  seededAt  : Nat          -- tick of the last seed
  table     : Vector Nat 74 -- the key table: number of the DRBG draw that last filled each slot (R161)
  sealKey   : Bool         -- the sealing key is derived
  areas     : Vector EnrArea 2
  areaInUse : Fin 2
  sealed_   : Bool         -- OTP flag SEALED
  storeBad  : Bool
  enrolled  : Vector (Vector (Option Bytes) 4) 4   -- keys by port and slot
  enrRegion : Nat
  enrOffset : Nat
  enrOwner  : Nat
  enrSlot   : Nat
  enrOp     : Nat
  busy      : Option EnrolOp
  result    : Nat
  lastOwner : Nat
  lastSlot  : Nat
  deriving DecidableEq, Repr

end Sys2Proof.Machine
end

