-- ==== Sys2Proof/Machine/PowerState.lean ====
section
/-! DEFINITION. State of the supplies, junction sensors, core-voltage request, throughput monitor and clock
monitor (02_package_power_thermal.md, 03_self_timed_fabric.md). -/

namespace Sys2Proof.Machine

/-- One junction sensor (Table 2-5, R39, R41). -/
structure JSensor where
  temp   : BitVec 16   -- TS_TEMPn.TEMP, two's complement 1/16 °C
  valid  : Bool
  failed : Bool        -- stays until device reset (R41)
  deriving DecidableEq, Repr

/-- Thermal state (R31 to R37, R41, Table 2-8). -/
structure Thermal where
  sensors    : Vector JSensor 12
  peak       : Option (BitVec 16 × Fin 12)  -- highest valid reading since reset or clear, none before one
  tjWarn     : Nat    -- °C
  tjHyst     : Nat    -- °C
  warn       : Bool
  limit      : Bool
  limitHeld  : Bool   -- LIMIT latched by two failed compute sensors (R41)
  crit       : Bool
  sensorFail : Bool
  ceilMv     : Nat    -- thermal ceiling of the VCORE request (R33)
  ceilDue    : Nat    -- tick from which the ceiling may take its next step
  deriving DecidableEq, Repr

def Thermal.reset : Thermal :=
  { sensors := Vector.replicate 12 ⟨0, false, false⟩, peak := none, tjWarn := 100, tjHyst := 5, warn := false,
    limit := false, limitHeld := false, crit := false, sensorFail := false, ceilMv := 850, ceilDue := 0 }

/-- AVSBus master (R23, R28 to R30, Table 2-8) and the power estimate. -/
structure Avs where
  reqMv     : Nat
  readMv    : Nat
  iout10    : Nat      -- 10 mA
  noresp    : Bool
  alert     : Bool
  fails     : Nat      -- consecutive failed transactions, saturating at 255
  failed    : Bool     -- R30 in force: three failures and no successful Voltage read since
  ramping   : Bool     -- shutdown ramp to 0.72 V in progress (R34)
  lastWrite : Option Nat   -- tick of the last Voltage write
  retryAt   : Nat          -- tick of the next retry after a failure
  pkgDw     : Nat      -- PWR_EST.PKG_DW, 0.1 W
  deriving DecidableEq, Repr

def Avs.reset : Avs :=
  { reqMv := 800, readMv := 0, iout10 := 0, noresp := false, alert := false, fails := 0, failed := false,
    ramping := false, lastWrite := none, retryAt := 0, pkgDw := 0 }

/-- What keeps D00 running (R59). -/
inductive D00Source where
  | crystal | rc
  deriving DecidableEq, Repr

/-- Throughput monitor, clock monitor and debug halt (R43 to R60, Table 3-5). -/
structure Fabric where
  monEn      : Bool
  rateTgt    : Nat
  pwrCap     : Nat
  vminIdle   : Nat
  rateTgtOn  : Nat          -- RATE_TGT, PWR_CAP and VMIN_IDLE in force since the last kept window (R56)
  pwrCapOn   : Nat
  vminOn     : Nat
  rateLowMs  : Nat
  hsWdt      : Nat
  minMhz     : Nat
  slowCore   : Nat
  low        : Bool
  cause      : Nat
  blockCause : Nat          -- limit that blocked the last raise
  blockedFrom : Option Nat  -- tick since which every kept window missed the target with its raise blocked
  metFrom    : Option Nat   -- tick since which every kept window met the target
  winStart   : Nat          -- tick at which the present window began
  coreRate   : Vector Nat 32
  rateNow    : Option Nat   -- step rate read at the last read-back voltage (R50)
  capHold    : Bool         -- R48: dispatch held until the estimate falls to the cap less 2 W
  pllC       : Bool
  pllF       : Bool
  d02Run     : Bool         -- D02 runs (R301)
  tcxoOk     : Bool
  d00        : D00Source
  xt32Ok     : Bool
  xt32Fail   : Bool
  clkFail    : Bool
  badCounts  : Nat          -- consecutive clock-monitor counts outside the window
  cntHsWdt   : Nat
  cntLate    : Nat
  dbgHalt    : Vector Bool 32
  halted     : Vector Bool 32
  deriving DecidableEq, Repr

def Fabric.reset : Fabric :=
  { monEn := true, rateTgt := 680, pwrCap := 920, vminIdle := 660, rateTgtOn := 680,
    pwrCapOn := 920, vminOn := 660, rateLowMs := 10, hsWdt := 100, minMhz := 0,
    slowCore := 0, low := false, cause := 0, blockCause := 0, blockedFrom := none, metFrom := none, winStart := 0,
    coreRate := Vector.replicate 32 0, rateNow := none, capHold := false, pllC := false, pllF := false,
    d02Run := false, tcxoOk := false, d00 := .crystal, xt32Ok := false, xt32Fail := false, clkFail := false, badCounts := 0,
    cntHsWdt := 0, cntLate := 0, dbgHalt := Vector.replicate 32 false, halted := Vector.replicate 32 false }

end Sys2Proof.Machine
end

