-- ==== Sys2Proof/Machine/RadioState.lean ====
section
/-! DEFINITION. State of the radio coordinator (20_radio_link.md). -/

namespace Sys2Proof.Machine

/-- Tag slot states (R406). -/
inductive SlotSt where
  | free | pending | admitted | dropped
  deriving DecidableEq, Repr

def SlotSt.code : SlotSt → Nat
  | .free => 0 | .pending => 1 | .admitted => 2 | .dropped => 3

/-- The settings of RADIO_CONFIG (Table 20-6). -/
structure RadCfg where
  mask    : Nat
  startCh : Nat
  txDbm   : Int
  interfN : Nat
  edDbm   : Int
  evmAbort : Nat
  netId   : Nat
  silentMs : Nat
  en      : Bool
  deriving DecidableEq, Repr

def RadCfg.reset : RadCfg := ⟨0, 0, 0, 0, 0, 0, 0, 0, false⟩

/-- A frame queued for a tag: a DATA frame of TAG_SEND (R412), or an ADMIT. A retry carries the bytes of the first
attempt. -/
structure SendQ where
  payload  : Bytes
  ref      : Nat
  mpdu     : Option Bytes
  seq      : Nat
  attempts : Nat
  lastAt   : Nat          -- time of the last attempt, ns of device time
  deriving DecidableEq, Repr

/-- What the coordinator has on air or waits to hear acknowledged (R401). -/
inductive Exch where
  | admission | data | expel
  deriving DecidableEq, Repr

/-- One tag slot (R406, R411). -/
structure RSlot where
  st       : SlotSt
  rejoin   : Bool
  gslot    : Option (Fin 8)
  long     : Nat              -- 64-bit long address
  key      : Bytes
  counterMin : Nat
  timeoutAt : Option Nat      -- tick at which TIMEOUT_S has passed
  lqi      : Nat
  seq      : Option Nat       -- last slot SEQ accepted since admission
  lastFc   : Nat              -- last FC accepted
  txSeq    : Nat              -- SEQ of the next coordinator frame
  admitTx  : Option SendQ     -- a queued ADMIT
  expelTx  : Option (Nat × Bytes)   -- a queued EXPEL: long address and key
  sends    : List SendQ       -- at most four
  entries  : List Bytes       -- queue of Table 20-5, oldest first
  events   : Nat
  discarded : Nat
  heardAt  : Nat              -- tick of the last frame with a good CRC
  joinFailAt : Option Nat     -- tick of the last EV_TAG_ADMIT of result 2
  deriving DecidableEq, Repr

def RSlot.reset : RSlot :=
  { st := .free, rejoin := false, gslot := none, long := 0, key := [], counterMin := 0, timeoutAt := none, lqi := 0,
    seq := none, lastFc := 0, txSeq := 0, admitTx := none, expelTx := none, sends := [], entries := [], events := 0,
    discarded := 0, heardAt := 0, joinFailAt := none }

/-- The coordinator. -/
structure Radio where
  cfg      : RadCfg           -- as RADIO_CONFIG wrote it
  use      : RadCfg           -- in force in this superframe
  running  : Bool             -- a beacon has been sent since EN
  startMs  : Nat              -- millisecond of device time of the first beacon
  ch       : Nat
  bsn      : Nat
  next     : Option (Nat × Nat)   -- channel switch under way: next channel, countdown carried last
  interfRun : Nat
  runEvm   : Nat              -- highest frame EVM among the aborts of the run
  aborted  : Bool             -- a frame of this superframe was aborted
  slotAck  : Nat              -- bits for the next beacon
  lastServed : Nat            -- short address served last, 0 none
  served   : Bool             -- this superframe's exchange has been made
  onAir    : Option (Fin 32 × Exch)
  pendingMask : Nat           -- PENDING of the last beacon
  kAir     : Nat              -- K of the last beacon
  fcSeen   : List (Nat × Nat) -- last FC accepted from each long address since reset
  fc       : Nat              -- COORD_FC
  rxOk     : Nat
  crcErr   : Nat
  evmAborts : Nat
  micFail  : Nat
  replay   : Nat
  switches : Nat
  noAck    : Nat
  txDrop   : Nat
  slots    : Vector RSlot 32
  deriving DecidableEq, Repr

def Radio.reset : Radio :=
  { cfg := .reset, use := .reset, running := false, startMs := 0, ch := 0, bsn := 0, next := none, interfRun := 0,
    runEvm := 0, aborted := false, slotAck := 0, lastServed := 0, served := false, onAir := none,
    pendingMask := 0, kAir := 0, fcSeen := [], fc := 0, rxOk := 0, crcErr := 0, evmAborts := 0, micFail := 0, replay := 0,
    switches := 0, noAck := 0, txDrop := 0, slots := Vector.replicate 32 .reset }

end Sys2Proof.Machine
end

