-- ==== Sys2Proof/Machine/SensorState.lean ====
section
/-! DEFINITION. State of the depth sensor ports (13_sensor_ports.md). -/

namespace Sys2Proof.Machine

/-- Port states (Table 13-2). -/
inductive SnsSt where
  | unconfigured | configured | armed | receiving | test
  deriving DecidableEq, Repr

def SnsSt.code : SnsSt → Nat
  | .unconfigured => 0 | .configured => 1 | .armed => 2 | .receiving => 3 | .test => 4

/-- The fields of SENSOR_CONFIG (Table 13-3). -/
structure SnsCfg where
  lanes    : Nat
  clkMode  : Nat
  dt       : Nat
  unit     : Nat
  vcDepth  : Nat
  conf     : Bool
  bufs     : Nat
  byteOrder : Nat
  rate     : Nat
  width    : Nat
  height   : Nat
  timeoutMs : Nat
  deriving DecidableEq, Repr

/-- The fields of SENSOR_ARM. -/
structure SnsArm where
  token    : Option Nat
  syncMask : Nat
  trigSrc  : Nat
  windowUs : Nat
  count    : Nat
  deriving DecidableEq, Repr

/-- Condition of a frame buffer (R259). -/
inductive BufSt where
  | free | filling | held
  deriving DecidableEq, Repr

/-- A frame buffer: its planes line by line, the jobs that hold it. -/
structure FrameBuf where
  st     : BufSt
  depth  : List Bytes        -- lines of the depth plane
  conf   : List Bytes        -- lines of the confidence plane
  fsTime : Nat
  fnum   : Nat
  jobs   : List (Fin 64)
  deriving DecidableEq, Repr

def FrameBuf.empty : FrameBuf := ⟨.free, [], [], 0, 0, []⟩

/-- The frame now arriving (R257). -/
structure Incoming where
  buffer  : Fin 4
  fsTime  : Nat
  fsTick  : Nat
  fnum    : Nat
  lines   : List Bytes       -- of the depth plane, oldest first
  conf    : List Bytes
  confFs  : Option Nat       -- frame number of the confidence FS
  depthFe : Bool
  confFe  : Bool
  lost    : Bool             -- a packet was lost to a start-of-transmission sync error
  bad     : Nat              -- 0 sound; otherwise why it is to be discarded (the counter of Table 13-4)
  deriving DecidableEq, Repr

/-- One sensor port. -/
structure SnsPort where
  st       : SnsSt
  cfg      : SnsCfg
  arm      : SnsArm
  bufs     : Vector FrameBuf 4
  incoming : Option Incoming
  disarmPending : Bool
  left     : Nat             -- complete frames before COUNT is reached
  done     : Bool            -- done bit of R263
  armPort  : Fin 4           -- owner that armed it (its token's owner)
  endedAt  : Option Nat      -- tick in which the last frame of the present arming ended it (R266)
  seen     : Vector (Option (Nat × Bool)) 12   -- last edge of each trigger source: its tick, a frame has been accepted for it
  preEdge  : Option Nat      -- tick of a trigger edge at the port while it is not armed (R260)
  clk      : Bool
  polD     : Nat
  polCk    : Bool
  complete : Nat
  corr     : Nat
  uncorr   : Nat
  crc      : Nat
  lineLen  : Nat
  trunc    : Nat
  planeMiss : Nat
  noBuf    : Nat
  untrig   : Nat
  sot      : Nat
  clkLost  : Nat
  tokSat   : Nat
  unknownDt : Nat
  lastFs   : Nat
  latch    : Nat             -- TIME96 as the last read of LAST_FS0 latched it
  lastFnum : Nat
  deriving DecidableEq, Repr

def SnsPort.reset : SnsPort :=
  { st := .unconfigured, cfg := ⟨0, 0, 0, 0, 0, false, 0, 0, 0, 0, 0, 0⟩, arm := ⟨none, 0, 0, 0, 0⟩,
    bufs := Vector.replicate 4 .empty, incoming := none, disarmPending := false, left := 0, done := false,
    armPort := 0, endedAt := none, seen := Vector.replicate 12 none, preEdge := none, clk := false, polD := 0, polCk := false, complete := 0,
    corr := 0, uncorr := 0, crc := 0, lineLen := 0, trunc := 0, planeMiss := 0, noBuf := 0, untrig := 0, sot := 0,
    clkLost := 0, tokSat := 0, unknownDt := 0, lastFs := 0, latch := 0, lastFnum := 0 }

end Sys2Proof.Machine
end

