-- ==== Sys2Proof/Machine/TimeState.lean ====
section
/-! DEFINITION. State of the timebase, PTP, PPSI, the time pulses (14_timebase_pulses.md) and the timers
(15_timers.md). Device time is a natural number of 2^-40 ns; f and s are integers of 2^-40 ns per D01 cycle (R269). -/

namespace Sys2Proof.Machine

/-- Timebase states (Table 14-3). -/
inductive TbSt where
  | free | locking | locked | holdover | recovering
  deriving DecidableEq, Repr

def TbSt.code : TbSt → Nat
  | .free => 0 | .locking => 1 | .locked => 2 | .holdover => 3 | .recovering => 4

/-- References (R271). -/
inductive Ref where
  | none | ptp | ppsi
  deriving DecidableEq, Repr

def Ref.code : Ref → Nat
  | .none => 0 | .ptp => 1 | .ppsi => 2

/-- The settings TIME_REF_SELECT carries and SAVE stores (R284, R285). -/
structure TbSettings where
  primary   : Ref
  backup    : Ref
  delay     : Nat
  domain    : Nat
  transport : Nat
  ppsiEdge  : Nat
  stepLimitUs : Nat
  slewMax   : Nat
  tcS       : Nat
  lockNs    : Nat
  lockN     : Nat
  revertS   : Nat
  ptpMs     : Nat
  freqPpb   : Nat
  driftPpbh : Nat
  phyRx     : Nat
  phyTx     : Nat
  asym      : Int      -- 0.1 ns
  deriving DecidableEq, Repr

def TbSettings.reset : TbSettings :=
  { primary := .none, backup := .none, delay := 0, domain := 0, transport := 0, ppsiEdge := 0, stepLimitUs := 1000,
    slewMax := 100, tcS := 16, lockNs := 100, lockN := 16, revertS := 10, ptpMs := 1000, freqPpb := 5,
    driftPpbh := 10, phyRx := 0, phyTx := 0, asym := 0 }

/-- A PTP master known from its Announce messages: what the best master clock algorithm compares. -/
structure Master where
  clockId  : Nat      -- 64-bit clockIdentity
  port     : Nat
  gmPriority1 : Nat
  gmClass  : Nat
  gmAccuracy : Nat
  gmVariance : Nat
  gmPriority2 : Nat
  gmId     : Nat
  steps    : Nat      -- stepsRemoved
  heardAt  : Nat      -- tick of the last Announce
  logSync  : Int
  deriving DecidableEq, Repr

/-- A Sync whose Follow_Up has not come: its sequence number, receive time and correction, in 2^-40 ns. -/
structure OpenSync where
  seq  : Nat
  rx   : Int
  corr : Int
  at_  : Nat       -- tick in which it was received
  deriving DecidableEq, Repr

/-- An own Delay_Req or Pdelay_Req waiting for its answer. -/
structure OpenReq where
  seq  : Nat
  tx   : Int
  deriving DecidableEq, Repr

/-- PTP port state. -/
structure Ptp where
  masters   : List Master
  selected  : Option (Nat × Nat)   -- clockIdentity and portNumber of the selected master
  logSync   : Int
  syncs     : Nat          -- Syncs taken from it with their delay measurement, while qualifying
  lastSync  : Option Nat   -- tick of its last Sync
  valid     : Bool
  openSync  : Option OpenSync
  lastRx    : Option (Int × Int)   -- receive time and origin time of the last complete Sync
  openDelay : Option OpenReq
  openPdelay : Option OpenReq
  pdelayRx  : Option (Nat × Int × Int)  -- Pdelay_Resp awaiting its Follow_Up: sequence, t2, t4
  delay     : Option Int   -- mean path delay, 2^-40 ns
  logDelay  : Int          -- the master's logMinDelayReqInterval
  reqAt     : Option Nat   -- tick of the last Delay_Req
  preqAt    : Option Nat   -- tick of the last Pdelay_Req
  reqSeq    : Nat
  pdelaySeq : Nat
  cntSync   : Nat
  cntDelay  : Nat
  cntMissing : Nat
  cntDiscard : Nat
  deriving DecidableEq, Repr

/-- PPSI state (R274, R275). -/
structure Ppsi where
  lastAt   : Option Nat    -- last accepted edge, in 0.1 ns of D01 time
  run      : Nat           -- consecutive accepted edges
  valid    : Bool
  first    : Bool          -- the next selected edge is a first edge
  setSec   : Option Nat    -- seconds the next accepted edge carries
  cntEdges : Nat
  cntReject : Nat
  deriving DecidableEq, Repr

/-- Schedule settings of a pulse. -/
structure PulseCfg where
  en     : Bool
  pol    : Bool
  gate   : Bool
  trim   : Int     -- 10 ps
  start  : Nat     -- ns of device time
  period : Nat     -- ns
  width  : Nat     -- ns
  deriving DecidableEq, Repr

/-- One time pulse (R282, R283). -/
structure Pulse where
  cfg     : PulseCfg
  next    : Option PulseCfg    -- settings waiting for the end of the active phase
  active  : Bool
  activeEnd  : Nat             -- ns of device time at which the active phase ends
  endTick : Option Nat         -- after a step: tick at which the active phase of that time ends (R280)
  fromNs  : Nat                -- no edge scheduled before this device time
  fromTick : Nat               -- no edge before this tick
  level   : Bool
  edges   : Nat
  suppr   : Nat
  deriving DecidableEq, Repr

def Pulse.reset : Pulse :=
  { cfg := ⟨false, false, false, 0, 0, 0, 0⟩, next := none, active := false, activeEnd := 0, endTick := none,
    fromNs := 0, fromTick := 0, level := false, edges := 0, suppr := 0 }

/-- The timebase. -/
structure Timebase where
  running  : Bool
  fine     : Nat          -- device time, 2^-40 ns
  f        : Int
  s        : Int
  i        : Int          -- servo integral
  st       : TbSt
  refUse   : Ref
  set      : TbSettings
  pendingStep : Bool
  needFirst : Bool        -- the next offset is the first offset of R279
  offsets  : List Int     -- measured in the present state, newest first, at most LOCK_N; 2^-40 ns
  lastOffset : Option Int -- latest offset measured, none before one
  remain   : Int          -- remaining offset of a slew or the latest offset
  lastAt   : Option Nat   -- tick of the last offset taken
  inLock   : Nat          -- consecutive offsets within LOCK_NS
  beyond   : Nat          -- consecutive offsets beyond STEP_LIMIT in LOCKED
  uEntry   : Nat          -- U at entry into HOLDOVER or RECOVERING
  enteredAt : Nat         -- tick of entry into the present state
  fHist    : List (Nat × Int)   -- ticks spent in LOCKED at an f, newest first, over 64 s at most
  fSince   : Nat          -- tick since which the present f has been in force in LOCKED
  hoFreq   : Int
  everLocked : Bool
  primaryFrom : Option Nat -- tick since which the PRIMARY has been valid
  ptp      : Ptp
  ppsi     : Ppsi
  pulses   : Vector Pulse 4
  msNext   : Nat          -- next whole millisecond of device time that ticks
  msOwed   : Bool         -- the millisecond tick of a step's tick has not fired yet (R280)
  secNext  : Nat          -- whole second at which a pending step is made
  stepEvent : Option (Nat × Nat)   -- a step made in this tick and not yet reported: the times before and after
  latch    : Nat          -- TIME96 latched by TB_NOW0
  steps    : Nat
  holdovers : Nat
  deriving DecidableEq, Repr

def Timebase.reset : Timebase :=
  { running := false, fine := 0, f := 0, s := 0, i := 0, st := .free, refUse := .none, set := .reset,
    pendingStep := false, needFirst := false, offsets := [], lastOffset := none, remain := 0, lastAt := none,
    inLock := 0, beyond := 0, uEntry := 0xFFFFFFFF, enteredAt := 0, fHist := [], fSince := 0, hoFreq := 0,
    everLocked := false, primaryFrom := none,
    ptp := { masters := [], selected := none, logSync := 0, syncs := 0, lastSync := none, valid := false,
             openSync := none, lastRx := none, openDelay := none, openPdelay := none, pdelayRx := none, delay := none,
             logDelay := 0, reqAt := none, preqAt := none, reqSeq := 0, pdelaySeq := 0, cntSync := 0, cntDelay := 0, cntMissing := 0, cntDiscard := 0 },
    ppsi := { lastAt := none, run := 0, valid := false, first := true, setSec := none, cntEdges := 0, cntReject := 0 },
    pulses := Vector.replicate 4 .reset, msNext := 0, msOwed := false, secNext := 0, stepEvent := none, latch := 0, steps := 0, holdovers := 0 }

/-- PRE, TOP and the four compares of a timer: the preloads or the active set (R291). -/
structure TimSet where
  pre : Nat
  top : Nat
  cmp : Vector Nat 4
  deriving DecidableEq, Repr

def TimSet.reset : TimSet := ⟨0, 65535, Vector.replicate 4 0⟩

/-- One timer. Its count and DIR follow from the D02 cycles since its last valley. -/
structure Timer where
  run      : Bool           -- D02 runs
  valleyAt : Nat            -- D02 cycle of the last valley
  active   : TimSet
  preload  : TimSet
  mode     : Vector Nat 4
  pol      : Vector Bool 4
  capEdge  : Nat
  capFilt  : Nat
  capValid : Bool
  capOvr   : Bool
  captures : Nat
  capCount : Nat
  capDir   : Bool
  cntLatch : Nat            -- TIM_CNT_HI as latched
  capLatch : Nat            -- TIM_CAP_HI as latched
  capAt    : Option Nat     -- tick of the last capture
  rstAt    : Option Nat     -- tick of the last strobe of TIM_RST
  capLevel : Option Bool    -- level of the capture input last recognised, none: not known
  gtFunc   : Vector Nat 2
  ball     : Vector (Option Bool) 2   -- level driven at the ball of each slot, none: high impedance
  deriving DecidableEq, Repr

def Timer.reset : Timer :=
  { run := false, valleyAt := 0, active := .reset, preload := .reset, mode := Vector.replicate 4 0,
    pol := Vector.replicate 4 false, capEdge := 0, capFilt := 0, capValid := false, capOvr := false, captures := 0,
    capCount := 0, capDir := false, cntLatch := 0, capLatch := 0, capAt := none, rstAt := none, capLevel := none, gtFunc := Vector.replicate 2 0,
    ball := Vector.replicate 2 none }

end Sys2Proof.Machine
end

