-- ==== Sys2Proof/Machine/StoreState.lean ====
section
/-! DEFINITION. The configuration store: what it holds and the writes that wait (R285, R375, R404). -/

namespace Sys2Proof.Machine

/-- What one configuration-store write puts in. -/
inductive StoreItem where
  | timebase (t : TbSettings)
  | gear (n : Fin 16) (v : Option GearVars)
  | coordFc (v : Nat)
  | enrolment            -- the enrolment write that `KeyState.busy` describes (R170)
  deriving DecidableEq, Repr

/-- A queued write, oldest first, and the reply that waits for its read-back. -/
structure StoreWrite where
  item    : StoreItem
  ticket  : Option Ticket
  since   : Nat              -- tick of the command
  retryAt : Option Nat       -- tick of the next try after a failure
  deriving DecidableEq, Repr

/-- The configuration store outside the enrolment areas. -/
structure ConfigStore where
  timebase : Option TbSettings
  gear     : Vector (Option GearVars) 16
  coordFc  : Nat
  net      : Option NetCfg     -- network settings put there before the first start (R106); no command writes them
  queue    : List StoreWrite
  deriving DecidableEq, Repr

def ConfigStore.reset : ConfigStore :=
  { timebase := none, gear := Vector.replicate 16 none, coordFc := 0, net := none, queue := [] }

end Sys2Proof.Machine
end

