-- ==== Sys2Proof/Machine/TagState.lean ====
section
/-! DEFINITION. State of one LT-2 fingertip tag (21_fingertip_tag.md). Voltages of the store are in mV, capacitances in
fF. -/

namespace Sys2Proof.Machine

/-- Tag power states (Table 21-2). -/
inductive TagSt where
  | dead | cold | boot | sleep | active | brownout
  deriving DecidableEq, Repr

def TagSt.code : TagSt → Nat
  | .dead => 0 | .cold => 1 | .boot => 2 | .sleep => 3 | .active => 4 | .brownout => 5

/-- A cell of the frame-counter record (R427). -/
structure FcCell where
  fc    : Nat
  floor : Nat
  cold  : Nat
  crcOk : Bool
  deriving DecidableEq, Repr

/-- A record write in progress: the cell it goes to and what it carries. -/
structure FcWrite where
  cell    : Fin 2
  rec_    : FcCell
  startAt : Nat
  second  : Bool        -- the other cell has already failed its read-back
  deriving DecidableEq, Repr

/-- One taxel (R429). -/
structure Taxel where
  code   : Nat
  base   : Nat          -- baseline, fF
  baseSet : Bool
  failed : Bool
  deriving DecidableEq, Repr

/-- A slot event of the tag: KIND, peak code, mask; the attempts made and the SEQ once sent. -/
structure TagEvent where
  kind     : Nat
  peak     : Nat
  mask     : Nat
  seq      : Option Nat
  attempts : Nat
  deriving DecidableEq, Repr

/-- Where the tag stands with the network (R426, R433, R435). -/
inductive TagNet where
  | none                       -- not in ACTIVE, or RAM just cleared
  | search                     -- channel search
  | joining                    -- a JOIN is being attempted
  | backoff (upto : Nat)      -- tick at which the random wait ends
  | awaitAdmit (upto : Nat)   -- tick at which the 64 superframes for an ADMIT end
  | admitted
  | expelled
  deriving DecidableEq, Repr

/-- A frame for the contention period: JOIN, or a DATA frame of a payload. -/
structure TagFrame where
  join     : Bool
  payload  : Bytes
  mpdu     : Option Bytes      -- bytes of the first attempt, repeated unchanged (R427)
  seq      : Nat
  attempts : Nat
  onAir    : Bool              -- sent, acknowledgement awaited
  restart  : Bool              -- enter BOOT once acknowledged
  deriving DecidableEq, Repr

/-- A firmware bank of the tag: the bytes written, and what makes it run. -/
structure TagBank where
  bytes     : Bytes
  committed : Bool
  version   : Nat
  svn       : Nat
  deriving DecidableEq, Repr

/-- The RW registers of Table 21-5. -/
structure TagCfg where
  vSleep  : Nat
  vWake   : Nat
  period  : Nat
  kVib    : Nat
  kTeg    : Nat
  vibEn   : Bool
  tegEn   : Bool
  heardMs : Nat
  txDbm   : Nat
  contactTh : Nat
  releaseTh : Nat
  slipTh  : Nat
  slipN   : Nat
  reportSf : Nat
  deriving DecidableEq, Repr

def TagCfg.reset : TagCfg := ⟨240, 280, 8, 32, 32, true, true, 500, 0, 200, 100, 400, 2, 10⟩

/-- What a BOOT clears: RAM. -/
structure TagRam where
  cfg      : TagCfg
  ovp      : Bool
  fwFallback : Bool
  sampledAt : Option Nat      -- tick of the last MPPT sample
  vocVib   : Nat              -- mV
  vocTeg   : Nat              -- 0.1 mV
  net      : TagNet
  short    : Nat
  gslot    : Option (Fin 8)
  channel  : Nat
  chanMask : Nat
  netId    : Option Nat       -- NETID of its network, none before a beacon
  seq      : Nat              -- last slot SEQ sent
  nextSeq  : Nat              -- SEQ of the next new slot event
  frameSeq : Nat              -- SEQ of the next contention frame
  fcFail   : Bool
  fc       : Nat
  fcSaved  : Nat
  floor    : Nat
  write    : Option FcWrite
  taxels   : Vector Taxel 16
  prev     : List Nat         -- codes of the scan before, empty before the first
  scans    : Nat              -- scans since the last baseline move
  hiRun    : Nat              -- consecutive scans at or above CONTACT_TH
  loRun    : Nat
  slipRun  : Nat
  slipArmed : Bool            -- D has fallen below SLIP_TH since the last slip
  contact  : Bool
  mask     : Nat
  peak     : Nat
  reportIn : Nat              -- superframes since the last report
  slip     : Option TagEvent
  queue    : List TagEvent    -- contact and release, at most 8
  report   : Option TagEvent
  sent     : Option TagEvent  -- sent in the last slot, acknowledgement awaited
  sentAt   : Nat              -- tick of that slot
  retry    : List TagEvent    -- unacknowledged, to be repeated
  frames   : List TagFrame
  be       : Nat
  kHeld    : Nat              -- K of the last beacon
  heardAt  : Nat              -- tick of the last acknowledged frame
  searchCh : Nat
  dwellFrom : Nat             -- tick at which listening on this channel began
  countdown : Option (Nat × Nat)
  verifyAt : Option Nat       -- tick at which FW_COMMIT verification started
  verifyId : Nat
  evSent   : Nat
  evDrop   : Nat
  noAck    : Nat
  brownouts : Nat
  beaconMiss : Nat
  deriving DecidableEq, Repr

def TagRam.reset : TagRam :=
  { cfg := .reset, ovp := false, fwFallback := false, sampledAt := none, vocVib := 0, vocTeg := 0,
    net := .none, short := 0, gslot := none, channel := 0, chanMask := 0xFFFF, netId := none, seq := 0, nextSeq := 0,
    frameSeq := 0, fcFail := false, fc := 0, fcSaved := 0, floor := 0, write := none,
    taxels := Vector.replicate 16 ⟨0, 0, false, false⟩, prev := [], scans := 0, hiRun := 0, loRun := 0, slipRun := 0,
    slipArmed := true, contact := false, mask := 0, peak := 0, reportIn := 0, slip := none, queue := [],
    report := none, sent := none, sentAt := 0, retry := [], frames := [], be := 3, kHeld := 0, heardAt := 0,
    searchCh := 0, dwellFrom := 0, countdown := none, verifyAt := none, verifyId := 0,
    evSent := 0, evDrop := 0, noAck := 0, brownouts := 0, beaconMiss := 0 }

/-- One LT-2 tag. -/
structure Tag where
  st     : TagSt
  vsto   : Nat               -- mV
  nrst   : Bool              -- level of NRST
  ram    : TagRam
  cells  : Vector (Option FcCell) 2   -- none: blank from the factory
  cold   : Nat               -- cold-start count in force
  banks  : Vector TagBank 2
  running : Fin 2
  written : Nat              -- bytes written into the idle bank
  svnMin : Nat               -- OTP minimum
  long   : Nat
  key    : Bytes
  deriving DecidableEq, Repr

end Sys2Proof.Machine
end

