-- ==== Sys2Proof/Machine/State.lean ====
section
/-! DEFINITION. The state of the SG-3264 and one LT-2 tag, as plain data, and the state after reset. -/

namespace Sys2Proof.Machine

/-- The IPv4 header of a frame sent: source, destination, protocol, and the UDP ports where there are some. -/
structure IpHead where
  src   : Word
  dst   : Word
  proto : Nat
  ports : Option (Nat × Nat)
  deriving DecidableEq, Repr

/-- An Ethernet frame the device sends (R92, R93). `dst` none: how the device finds the MAC address of an IP address is not
stated (notes/assumptions/35). -/
structure EthFrame where
  dst   : Option Bytes
  src   : Bytes
  tag   : Bytes          -- 802.1Q tag, empty: none
  etype : Nat
  ip    : Option IpHead
  body  : Bytes
  deriving DecidableEq, Repr

/-- What carries a Psiesk packet of the device on its port. -/
inductive Leg where
  /-- HPA: written to host memory. -/
  | dma
  /-- HPB: one UDP datagram in a frame. -/
  | frame (f : EthFrame)
  /-- SFP: fragments that wait in `Net.sfpOut` for the controller's clock. -/
  | spi
  /-- MNT: a COBS frame with its CRC-32 and the zero byte that ends it (R97). -/
  | line (bytes : Bytes)
  deriving DecidableEq, Repr

/-- What the device sent or drove, in order: the model's own record of its outputs. -/
inductive Out where
  /-- A reply to a command, and the carriage it goes by. -/
  | reply (port : Port) (via : Carriage) (p : Packet) (leg : Leg)
  /-- An event packet to an owner. -/
  | event (port : Port) (p : Packet) (leg : Leg)
  /-- A CQ or EQ entry written at an index of its ring. -/
  | completion (index : Nat) (entry : Bytes)
  | eventEntry (index : Nat) (entry : Bytes)
  /-- An MSI-X vector signalled. -/
  | interrupt (vector : Nat)
  /-- An Ethernet frame other than Psiesk's: ARP reply, ICMP echo reply, PTP message. -/
  | ethernet (f : EthFrame)
  /-- A bit of a Clause 45 register set or cleared in the external PHY over ETH_MDC and ETH_MDIO (R92, R93, Table 22-2). -/
  | mdio (phy device register bit : Nat) (value : Bool)
  /-- An SPDM response on the DOE mailbox. -/
  | doe (bytes : Bytes)
  /-- A frame on SFP_DO. -/
  | sfpFrame (bytes : Bytes)
  /-- A Voltage write on AVSBus. -/
  | avs (mv : Nat)
  /-- A radio frame of the coordinator or the tag on a channel. -/
  | radio (coordinator : Bool) (channel : Nat) (mpdu : Bytes)
  /-- What a link test unit sends on lanes of its link from now on, none: nothing any more (R444). -/
  | pattern (unit lanes : Nat) (g : Option PatGen)
  /-- A backward frame on a lighting bus; none: a collision. -/
  | backward (bus : Fin 2) (value : Option Byte)
  deriving DecidableEq, Repr

/-- A command that has arrived by a port and passed checks 1 to 8, waiting for the end of its arbitration tick (R104). -/
structure Arrival where
  hdr    : Hdr
  serial : Option Nat      -- session it was accepted in, none: sessionless
  cmd    : Cmd
  bad    : Option Nat      -- status its payload earns at step 12
  extra  : Bool            -- the owner had 64 outstanding commands when it arrived (R119, R128)
  deriving DecidableEq, Repr

/-- An FW_COMMIT whose record is being written (R70, R71). -/
structure CommitOp where
  ticket : Ticket
  slot   : Fin 2
  seq    : Word
  cell   : Fin 2
  map    : Nat             -- predicted MISMATCH_MAP
  deriving DecidableEq, Repr

/-- The machine. -/
structure State where
  /-- D01 cycles of 10 ns since power-up. -/
  now     : Nat
  /-- D02 cycles since PLL_F runs. -/
  d02     : Nat
  /-- Counter of free values taken. The model's own. -/
  free    : Nat
  /-- Counter of DRBG draws. -/
  draws   : Nat
  /-- Serial of the next session. The model's own. -/
  serial  : Nat
  /-- Commands waiting, first in first out. The model's own (the block's queue). -/
  pending : List Instr
  /-- Rows of this tick that give way to others of it, to act when the queue is empty. The model's own. -/
  deferred : List Instr
  /-- Record of the outputs, oldest last. The model's own. -/
  out     : List Out
  arrivals : List Arrival
  commit  : Option CommitOp
  thermal : Thermal
  avs     : Avs
  fabric  : Fabric
  boot    : Boot
  otp     : Otp
  flash   : Flash
  owners  : Vector OwnerState 4
  leases  : Leases
  hpa     : Hpa
  net     : Net
  mem     : MemState
  keys    : KeyState
  cores   : Cores
  jobs    : Jobs
  headbox : Headbox
  sensors : Vector SnsPort 6
  tb      : Timebase
  timers  : Vector Timer 16
  axes    : Vector Axis 8
  safety  : Safety
  illum   : Illum
  lbus    : Lbus
  radio   : Radio
  tag     : Tag
  test    : LinkTest
  store   : ConfigStore
  deriving DecidableEq, Repr

/-- The reasons a step can stop with a fault: none. Every behaviour the manual names has an effect or an answer. -/
inductive Fault where
  deriving DecidableEq, Repr

/-- The reasons a step can refuse. -/
inductive Refusal where
  /-- Raised by `exec` for a command that has no meaning in the model yet. Safe: the run stops. -/
  | notModelled (mnemonic : String)
  deriving DecidableEq, Repr

/-- The one-time-programmable words as the device leaves Dunueril: PRODUCTION, no service entry, every SVN minimum 0
(DESIGN CHOICE, notes/assumptions/3). -/
def Otp.reset : Otp :=
  { lifecycle := .production, svcEntries := 0, uniqueId := Config.uniqueId, configWord := Config.configWord,
    svnMin := Vector.replicate 6 0, keyDigests := Config.fwKeyDigests, revoked := 0, mac := Config.macAddr,
    clockId := Config.clockId, bootCount := 0 }

/-- The boot flash at first power-up: an image set in each slot, slot A committed (DESIGN CHOICE, notes/assumptions/3). -/
def Flash.reset : Flash :=
  { answers := true,
    images := Vector.ofFn fun s : Fin 2 => Vector.ofFn fun k : Fin 6 => Config.factoryImage s.val k.val,
    torn := Vector.replicate 2 (Vector.replicate 6 false),
    partial_ := Vector.replicate 2 false, token := Vector.replicate 2 [], tokenArmed := none,
    cmt := Vector.ofFn fun i : Fin 2 => if i = 0 then some ⟨1, 0, true⟩ else none,
    marks := Vector.replicate 2 0, testArea := none }

/-- Entropy, DRBG and enrolment at power-up. -/
def KeyState.reset : KeyState :=
  { entOk := false, startFail := false, entFail := false, entSeen := false, keysOut := false, reseeds := 0, requests := 0, seededAt := 0,
    table := Vector.replicate 74 0, sealKey := false,
    areas := Vector.ofFn fun i : Fin 2 => if i = 0 then ⟨Config.factoryEnrolment, false⟩ else ⟨[], false⟩,
    areaInUse := 0, sealed_ := false, storeBad := false,
    enrolled := Vector.replicate 4 (Vector.replicate 4 none), enrRegion := 0, enrOffset := 0, enrOwner := 0,
    enrSlot := 0, enrOp := 0, busy := none, result := 0, lastOwner := 0, lastSlot := 0 }

/-- The tag as delivered, its store empty. -/
def Tag.reset : Tag :=
  { st := .dead, vsto := 0, nrst := true, ram := .reset, cells := Vector.replicate 2 none, cold := 0,
    banks := Vector.ofFn fun i : Fin 2 => if i = 0 then ⟨[], true, 0, 0⟩ else ⟨[], false, 0, 0⟩, running := 0,
    written := 0, svnMin := 0, long := Config.tagLong, key := Config.tagKey }

/-- The owners after reset: SYS for owner 1 and owner 4, quotas for all but owner 3 (Table 5-8). -/
def ownersReset : Vector OwnerState 4 :=
  Vector.ofFn fun p : Fin 4 => OwnerState.reset (p = 0 ∨ p = 3) (p ≠ 2)

/-- The machine at power-up, held in device reset: RESET_N and PWRGD low (R42, R61). -/
def State.reset : State :=
  { now := 0, d02 := 0, free := 0, draws := 0, serial := 1, pending := [], deferred := [], out := [], arrivals := [], commit := none,
    thermal := .reset, avs := .reset, fabric := .reset, boot := .reset, otp := .reset, flash := .reset,
    owners := ownersReset, leases := .reset, hpa := .reset, net := .reset, mem := .reset, keys := .reset,
    cores := .reset, jobs := .reset, headbox := .reset, sensors := Vector.replicate 6 .reset, tb := .reset,
    timers := Vector.replicate 16 .reset, axes := Vector.replicate 8 .reset, safety := .reset, illum := .reset,
    lbus := .reset, radio := .reset, tag := .reset, test := .reset, store := .reset }

end Sys2Proof.Machine
end

