-- ==== Sys2Proof/Machine/Ops.lean ====
section
/-! DEFINITION. Shared operations: times, ports, packets, replies, events, free values, the configuration store's queue.
Status codes are those of Table 7-13. -/

namespace Sys2Proof.Machine

/-! ## Status codes (Table 7-13) -/

def stOk : Nat := 0x0000
def stAccepted : Nat := 0x0001
def eVersion : Nat := 0x0101
def eOpcode : Nat := 0x0102
def eLength : Nat := 0x0103
def eParam : Nat := 0x0104
def eAuth : Nat := 0x0105
def eReplay : Nat := 0x0106
def eNoSession : Nat := 0x0107
def ePort : Nat := 0x0108
def eNotHolder : Nat := 0x0201
def eContended : Nat := 0x0202
def eLeaseExpired : Nat := 0x0203
def eSafeHeld : Nat := 0x0204
def eBusControl : Nat := 0x0205
def eNoMemory : Nat := 0x0301
def eRegion : Nat := 0x0302
def eIntegrity : Nat := 0x0303
def eTagsFull : Nat := 0x0401
def eQuota : Nat := 0x0402
def eJobFailed : Nat := 0x0403
def eCancelled : Nat := 0x0404
def eGraph : Nat := 0x0405
def eRestricted : Nat := 0x0501
def eBusy : Nat := 0x0502
def eState : Nat := 0x0503
def eHwFault : Nat := 0x0601
def eTimeout : Nat := 0x0602
def eTagAbsent : Nat := 0x0701
def eRadioBusy : Nat := 0x0702

/-! ## Ticks and device time -/

/-- Ticks of D01 in a microsecond, a millisecond and a second. -/
def usTicks : Nat := 100
def msTicks : Nat := 100000
def secTicks : Nat := 100000000

/-- Device time in nanoseconds, the fraction dropped. -/
def State.devNs (s : State) : Nat := s.tb.fine / 2 ^ 40

/-- Device time in 2^-16 ns (R132). -/
def State.devTime (s : State) : Time96 := s.tb.fine / 2 ^ 24

/-- The twelve bytes of a TIME96 (R132). -/
def time96Bytes (t : Time96) : Bytes :=
  le 2 (t % 65536) ++ le 4 (t / 65536 % 1000000000) ++ le 6 (t / 65536 / 1000000000)

/-- A time field as a count of 2^-16 ns. -/
def time12Ticks (t : Time12) : Time96 := (t.sec.toNat * 1000000000 + t.ns.toNat) * 65536 + t.frac.toNat

/-! ## Free values and draws -/

/-- A value the manual leaves open. -/
def State.freeNat (s : State) : Nat := Config.freeNat s.free
def State.tookFree (s : State) : State := { s with free := s.free + 1 }

/-- One request to the DRBG (R162): the draw's number, and the state after it. -/
def State.drew (s : State) : State :=
  { s with draws := s.draws + 1,
           keys := { s.keys with requests := s.keys.requests + 1,
                                 keysOut := s.keys.keysOut || (s.keys.entFail && decide (65535 ≤ s.keys.requests)) } }

/-- Slots of the key table: the domain sets of SELF and of the owners by ID, the session keys by port, the attempts' broke sets
by tag, the sealing key. -/
def slotDomain (id : Fin 5) : Fin 74 := ⟨id.val, by omega⟩
def slotSession (p : Port) : Fin 74 := ⟨5 + p.val, by omega⟩
def slotBroke (t : Fin 64) : Fin 74 := ⟨9 + t.val, by omega⟩
def slotSeal : Fin 74 := 73

/-- Fill a slot of the key table with fresh DRBG output: a new key, or the destruction of the one that stood there (R161,
R162). -/
def State.fillSlot (s : State) (i : Fin 74) : State :=
  let s1 := s.drew
  { s1 with keys := { s1.keys with table := bankSet s1.keys.table i s.draws } }

/-! ## Owners and ports -/

def State.owner (s : State) (p : Port) : OwnerState := s.owners.get p
def State.updOwner (s : State) (p : Port) (f : OwnerState → OwnerState) : State :=
  { s with owners := bankUpd s.owners p f }

/-- Change an owner's session, if it has one. -/
def State.updSession (s : State) (p : Port) (f : Session → Session) : State :=
  s.updOwner p fun o => { o with session := o.session.map f }

/-- The link test unit of a class and index runs (R450). -/
def State.underTest (s : State) (unit : Fin 16) : Bool := (s.test.units.get unit).st.runs

/-- The link test unit that takes a port out of service: HPA, HPB and SFP have one, MNT none. -/
def portUnit (p : Port) : Option (Fin 16) :=
  if p = 0 then some 0 else if p = 1 then some 1 else if p = 2 then some 5 else none

/-- The port carries no packet (R450). -/
def State.portTested (s : State) (p : Port) : Bool :=
  match portUnit p with
  | some u => s.underTest u
  | none => false

/-- OWNER_STATUSn.PORT_UP (Table 5-8). -/
def State.portUp (s : State) (p : Port) : Bool :=
  if p = 0 then s.hpa.linkUp else if p = 1 then s.net.ethUp
  else if p = 2 then s.net.sfpArmed && !s.net.sfpLost else s.net.mntUp

/-- The clock of a port runs: D20 of MNT comes from PLL_C, the others' clocks from outside (Table 3-3). -/
def State.portClocked (s : State) (p : Port) : Bool := p != 3 || s.fabric.pllC

/-- Replies and events for the port are discarded (R58, R91, R107, R447). -/
def State.portDead (s : State) (p : Port) : Bool :=
  (p = 0 && !s.hpa.linkUp) || (p = 1 && !s.net.ethUp) || ((p = 0 || p = 1) && s.portTested p) || !s.portClocked p

/-! ## Packets -/

/-- The header of a packet the device made (Table 6-1). -/
def Packet.header (p : Packet) : Bytes :=
  [2, BitVec.ofNat 8 p.opcode] ++ le 2 p.tag
    ++ [BitVec.ofNat 8 (p.owner + bitAt 4 p.enc + bitAt 5 p.dup + bitAt 6 p.event), BitVec.ofNat 8 p.cls]
    ++ le 2 (p.payload.length / 4) ++ le 4 p.seq ++ le 4 p.last

/-- The IV of R113: owner, kind, sequence number. -/
def gcmIv (owner kind seq : Nat) : Bytes :=
  [BitVec.ofNat 8 owner, BitVec.ofNat 8 kind, 0, 0] ++ le 4 seq ++ zeros 4

/-- The bytes of a packet on its port: header, payload or ciphertext, GCM tag (R109, R113). -/
def Packet.wire (p : Packet) : Bytes :=
  let key := p.key.getD (zeros 32)
  let iv := gcmIv p.owner (if p.event then 3 else 2) p.seq
  let plainHeader := { p with dup := false }.header
  let sealed_ := if p.enc then Config.gcmSeal key iv plainHeader p.payload
    else (p.payload, (Config.gcmSeal key iv (plainHeader ++ p.payload) []).2)
  p.header ++ sealed_.1 ++ fit 16 sealed_.2

/-- CRC with a polynomial of `w` bits, most significant bit first (R94). -/
def crcStep (w poly crc : Nat) (b : Bool) : Nat :=
  let top := xor (crc.testBit (w - 1)) b
  let sh := crc * 2 % 2 ^ w
  if top then Nat.xor sh poly else sh

/-- The CRC-16 of an SFP frame (Table 5-4): each byte most significant bit first. -/
def crc16 (bs : Bytes) : Nat :=
  bs.foldl (fun c b => (List.range 8).foldl (fun c i => crcStep 16 0x1021 c (b.toNat.testBit (7 - i))) c) 0xFFFF

/-- One bit of the reflected CRC-32. -/
def crc32Step (crc : Nat) (b : Bool) : Nat :=
  if xor (crc.testBit 0) b then Nat.xor (crc / 2) 0xEDB88320 else crc / 2

/-- The CRC-32 of IEEE 802.3 (R97, Table 20-1). -/
def crc32 (bs : Bytes) : Nat :=
  Nat.xor (bs.foldl (fun c b => (List.range 8).foldl (fun c i => crc32Step c (b.toNat.testBit i)) c) 0xFFFFFFFF)
    0xFFFFFFFF

/-- Cut a byte string into pieces of `n` bytes, at most `fuel` of them. -/
def pieces (n : Nat) : Nat → Bytes → List Bytes
  | 0, _ => []
  | fuel + 1, bs => if bs.length ≤ n then [bs] else bs.take n :: pieces n fuel (bs.drop n)

/-- One SFP frame of type, fragment, last and data (Table 5-4). -/
def sfpFrame (ftype frag last : Nat) (data : Bytes) : Bytes :=
  let body := [BitVec.ofNat 8 ftype, BitVec.ofNat 8 frag, BitVec.ofNat 8 last] ++ fit 27 data
  body ++ (le 2 (crc16 body)).reverse

/-- A packet as SFP frames (R94). -/
def sfpFrames (bs : Bytes) : List Bytes :=
  let ps := pieces 27 256 bs
  ps.zipIdx.map fun x => sfpFrame 1 x.2 (ps.length - 1) x.1

/-- COBS encoding: runs of at most 254 nonzero bytes, each after its length plus 1. `run` is the run so far. -/
def cobsEncode : Bytes → Bytes → Bytes
  | run, [] => BitVec.ofNat 8 (run.length + 1) :: run
  | run, b :: rest =>
    if b = 0 then BitVec.ofNat 8 (run.length + 1) :: run ++ cobsEncode [] rest
    else if run.length = 253 then
      255 :: run ++ b :: (match rest with
        | [] => []
        | _ => cobsEncode [] rest)
    else cobsEncode (run ++ [b]) rest

/-- A packet as an MNT frame: CRC-32, COBS, the zero byte (R97). -/
def mntFrame (bs : Bytes) : Bytes := cobsEncode [] (bs ++ le 4 (crc32 bs)) ++ [0]

/-- The VLAN tag of a frame, when one is set. -/
def NetCfg.tag (c : NetCfg) : Bytes :=
  if c.vlanEn then [0x81, 0x00] ++ (le 2 (c.pcp * 8192 + c.vid)).reverse else []

/-- An Ethernet frame from the device's own address, tagged as HPB_CFG says (R92, R93). -/
def State.ethFrame (s : State) (dst : Option Bytes) (etype : Nat) (ip : Option IpHead) (body : Bytes) : EthFrame :=
  { dst := dst, src := fit 6 s.otp.mac, tag := s.net.inForce.tag, etype := etype, ip := ip, body := body }

/-- The MAC takes a frame for the device's own address, the broadcast address or a PTP multicast address of Table 14-1 (for
UDP, the Ethernet address of 224.0.1.129 and of 224.0.0.107), tagged as HPB_CFG says: with the VID where VLAN_EN is set,
untagged where it is not (R92, R93, Table 5-3: DEDUCED, notes/assumptions/35). -/
def State.frameTaken (s : State) (f : EthRx) : Bool :=
  (f.dst == fit 6 s.otp.mac || f.dst == List.replicate 6 0xFF
      || f.dst == [0x01, 0x1B, 0x19, 0x00, 0x00, 0x00] || f.dst == [0x01, 0x80, 0xC2, 0x00, 0x00, 0x0E]
      || f.dst == [0x01, 0x00, 0x5E, 0x00, 0x01, 0x81] || f.dst == [0x01, 0x00, 0x5E, 0x00, 0x00, 0x6B])
    && (match f.vlan with
        | none => !s.net.inForce.vlanEn
        | some v => s.net.inForce.vlanEn && v.toNat == s.net.inForce.vid)

/-- A Psiesk packet on its way to an address and port of HPB, from port 47600 (R92). -/
def State.psieskFrame (s : State) (ip : Word) (port : BitVec 16) (p : Packet) : EthFrame :=
  s.ethFrame none 0x0800 (some ⟨s.net.inForce.hpbIp, ip, 17, some (47600, port.toNat)⟩) p.wire

/-- What carries a packet by a carriage. -/
def State.leg (s : State) (via : Carriage) (p : Packet) : Leg :=
  match via with
  | .ring _ _ _ => .dma
  | .udp ip port => .frame (s.psieskFrame ip port p)
  | .sfp => .spi
  | .mnt => .line (mntFrame p.wire)

/-! ## HPA rings (R123, R124) -/

def Hpa.cqSize (h : Hpa) : Nat := 2 ^ h.cqLog
def Hpa.sqSize (h : Hpa) : Nat := 2 ^ h.sqLog
def Hpa.eqSize (h : Hpa) : Nat := 2 ^ h.eqLog

/-- Entries the host has not yet read from a ring: write position less head, modulo the size. -/
def ringUsed (pos head size : Nat) : Nat := (pos % size + size - head % size) % size

/-- The CQ has room for one more completion beyond those owed (R124). One slot stays empty, so full differs from
empty. -/
def Hpa.cqRoom (h : Hpa) : Bool := decide (ringUsed h.cqPos h.cqHead h.cqSize + h.cqOwed + 1 < h.cqSize)

/-- The EQ has room for one event. -/
def Hpa.eqRoom (h : Hpa) : Bool := decide (ringUsed h.eqPos h.eqHead h.eqSize + 1 < h.eqSize)

/-- PHASE of the pass a position is on: 1 on the first. -/
def ringPhase (pos size : Nat) : Nat := (pos / size + 1) % 2

/-- Signal an MSI-X vector: pending while its mask bit is set. -/
def State.signal (s : State) (v : Fin 64) : State :=
  if (s.hpa.msix.get v).ctrl.getLsbD 0 then { s with hpa := { s.hpa with pba := bankSet s.hpa.pba v true } }
  else { s with out := s.out ++ [Out.interrupt v.val] }

/-- Write one CQ entry (Table 6-6), and signal VEC_CQ. -/
def State.complete (s : State) (sqIndex rspLen rspAddr : Nat) (dropped : Bool) : State :=
  if s.hpa.en then
    let e := le 2 sqIndex ++ le 2 (ringPhase s.hpa.cqPos s.hpa.cqSize + bitAt 1 dropped) ++ le 4 rspLen ++ le 8 rspAddr
    let s1 := { s with
      out := s.out ++ [Out.completion (s.hpa.cqPos % s.hpa.cqSize) e],
      hpa := { s.hpa with cqPos := s.hpa.cqPos + 1, cqOwed := s.hpa.cqOwed - 1 } }
    s1.signal (Fin.ofNat 64 s1.hpa.vecCq)
  else s

/-! ## Replies (R111, R116, R118) -/

/-- The reply packet to a command. -/
def replyPacket (h : Hdr) (op status : Nat) (payload : Bytes) (key : Option Bytes) (enc : Bool) : Packet :=
  { opcode := op % 128 + 128, tag := h.tag.toNat, owner := h.owner.toNat, enc := enc, dup := false, event := false,
    cls := h.cls.toNat, seq := h.seq.toNat, last := status, payload := payload, key := key }

/-- A destination outside the subnet, with no gateway: what is sent there is discarded (Table 5-8). -/
def NetCfg.unreachable (c : NetCfg) (ip : Word) : Bool :=
  c.gw == 0 && ip.toNat / 2 ^ (32 - c.pfx) != c.hpbIp.toNat / 2 ^ (32 - c.pfx)

/-- An SQ index as the model keeps it: with the epoch of the rings it was fetched from. -/
def Hpa.slot (h : Hpa) (ix : Nat) : Nat := ix % 4096 + 4096 * h.epoch

/-- The CQ entry of a command is no longer owed: its reply is discarded with the port down. -/
def State.forgo (s : State) (via : Carriage) : State :=
  match via with
  | .ring ix _ _ =>
    if ix / 4096 = s.hpa.epoch then { s with hpa := { s.hpa with cqOwed := s.hpa.cqOwed - 1 } } else s
  | _ => s

/-- Put a reply packet on its port: on HPA with its CQ entry; discarded while the port is down or its rings are no longer
those the command came by (R125). -/
def State.transmit (s : State) (port : Port) (via : Carriage) (p : Packet) : State :=
  let put : State := { s with out := s.out ++ [Out.reply port via p (s.leg via p)] }
  if s.portDead port then s.forgo via
  else
    match via with
    | .ring ix _ addr =>
      if s.hpa.en ∧ ix / 4096 = s.hpa.epoch then put.complete (ix % 4096) (32 + p.payload.length) addr false
      else s
    | .udp ip _ => if s.net.inForce.unreachable ip then s else put
    | .sfp => { put with net := { s.net with sfpOut := s.net.sfpOut ++ sfpFrames p.wire } }
    | .mnt => put

/-- A packet is dropped without a reply: on HPA its CQ entry says so (R124). -/
def State.dropPacket (s : State) (h : Hdr) : State :=
  match h.via with
  | .ring ix _ addr =>
    if s.portDead h.port then s.forgo h.via
    else if ix / 4096 ≠ s.hpa.epoch then s else s.complete (ix % 4096) 0 addr true
  | _ => s

/-- Make room in the cache for a sequence number, keeping the 64 highest (R116). -/
def cachePut (seq : Nat) (c : List Cached) : List Cached := (⟨seq, none, 0⟩ :: c.filter fun e => e.seq ≠ seq).take 64

/-- Count the statuses that Tables 5-8 and 6-9 count. -/
def State.countStatus (s : State) (port : Port) (status : Nat) : State :=
  if status = eAuth then s.updOwner port fun o => { o with cntAuth := satInc 65535 o.cntAuth }
  else if status = eReplay then s.updOwner port fun o => { o with cntReplay := satInc 65535 o.cntReplay }
  else if status = eContended then { s with net := { s.net with contended := satInc 65535 s.net.contended } }
  else if status = eNotHolder then { s with net := { s.net with notHolder := satInc 65535 s.net.notHolder } }
  else s

/-- A reply under the zero key, not cached (R116). -/
def State.plainReply (s : State) (h : Hdr) (op status : Nat) (payload : Bytes) : State :=
  (s.countStatus h.port status).transmit h.port h.via (replyPacket h op status payload none h.enc)

/-- The one final reply of an accepted command (R118): in its session under K_D and cached, sessionless under the zero
key; discarded when its session has ended (R115), where on HPA the CQ entry says that no reply was written (R124: DEDUCED,
notes/assumptions/5). The reply to OPEN_SESSION always goes under the zero key and is never in the cache (R114, R112). -/
def State.reply (s : State) (t : Ticket) (status : Nat) (payload : Bytes) : State :=
  match t.serial with
  | none => s.plainReply t.hdr t.opcode status payload
  | some n =>
    if t.opcode = 0x02 then
      (s.updSession t.hdr.port fun ses =>
        if ses.serial = n then
          { ses with outstanding := ses.outstanding - 1, cache := ses.cache.filter fun e => e.seq != t.hdr.seq.toNat }
        else ses).plainReply t.hdr t.opcode status payload
    else
    match (s.owner t.hdr.port).session with
    | none => s.dropPacket t.hdr
    | some ses =>
      if ses.serial = n then
        let p := replyPacket t.hdr t.opcode status payload (some ses.keyD) t.hdr.enc
        let s1 := s.updSession t.hdr.port fun ses =>
          { ses with cache := ses.cache.map fun e => if e.seq = t.hdr.seq.toNat then ⟨e.seq, some p, s.now⟩ else e,
                     outstanding := ses.outstanding - 1 }
        (s1.countStatus t.hdr.port status).transmit t.hdr.port t.hdr.via p
      else s.dropPacket t.hdr

/-! ## Events (R121, R151) -/

/-- The payload of an event: the time it arose, then its own bytes, padded to words. -/
def State.eventBody (s : State) (body : Bytes) : Bytes := time96Bytes s.devTime ++ body

/-- A session with what it remembers of the present tick's events. -/
def Session.today (ses : Session) (now : Nat) : Session :=
  if ses.freshAt = now then ses
  else { ses with fresh := [], freshAt := now, freshSeq := ses.evSeq, freshLost := 0 }

/-- An event arises for an owner: judged against its mask, numbered, and queued where there is room (R121). `dead`: its
port discards events. The tick's events are remembered, since an EVENT_SUBSCRIBE of the tick acts first (Table 7-15). -/
def OwnerState.takeEvent (now : Nat) (dead : Bool) (o : OwnerState) (e : EventMsg) : OwnerState :=
  match o.session with
  | none => o
  | some ses0 =>
    let old := ses0.today now
    let ses := { old with fresh := old.fresh ++ [e] }
    if ses.mask.testBit e.code then
      let o1 := { o with session := some { ses with evSeq := ses.evSeq + 1 } }
      if dead then o1
      else if o.events.length < 256 then { o1 with events := o.events ++ [{ e with seq := ses.evSeq }] }
      else if o.cntLost < 65535 then
        { o with cntLost := o.cntLost + 1,
                 session := some { ses with evSeq := ses.evSeq + 1, freshLost := ses.freshLost + 1 } }
      else o1
    else { o with session := some ses }

/-- A new mask judges the events of its tick again (Table 7-15). -/
def OwnerState.subscribe (now : Nat) (dead : Bool) (mask : Nat) (enc : Bool) (o : OwnerState) : OwnerState :=
  match o.session with
  | none => o
  | some ses0 =>
    let ses := ses0.today now
    ses.fresh.foldl (OwnerState.takeEvent now dead)
      { o with session := some { ses with mask := mask, encEv := enc, evSeq := ses.freshSeq, fresh := [], freshLost := 0 },
               events := o.events.filter fun e => decide (e.seq < ses.freshSeq),
               cntLost := o.cntLost - ses.freshLost }

/-- Raise an event for one owner: queued while it has a session and has subscribed to the code (R121). -/
def State.raise (s : State) (code cls idx : Nat) (body : Bytes) (p : Port) : State :=
  s.updOwner p fun o => o.takeEvent s.now (s.portDead p) ⟨code, cls, idx, 0, s.eventBody body⟩

/-- Raise an event for every owner. -/
def State.raiseAll (s : State) (code cls idx : Nat) (body : Bytes) : State :=
  (List.finRange 4).foldl (fun s p => s.raise code cls idx body p) s

/-- Raise an event for the owner whose ID is given, 0 and 3 included as none or SFP. -/
def State.raiseTo (s : State) (code cls idx : Nat) (body : Bytes) (owner : Nat) : State :=
  if h : 0 < owner ∧ owner ≤ 4 then s.raise code cls idx body ⟨owner - 1, by omega⟩ else s

/-! ## The configuration store's queue (R285) -/

/-- Queue a write behind those that wait. -/
def State.storePush (s : State) (item : StoreItem) (ticket : Option Ticket) : State :=
  { s with store := { s.store with queue := s.store.queue ++ [⟨item, ticket, s.now, none⟩] } }

/-! ## Holders -/

/-- The lease of a class and index, where Table 5-5 has one. -/
def Leases.get (l : Leases) (cls idx : Nat) : Option Lease :=
  match cls with
  | 1 => if h : idx < 8 then some (l.axis.get ⟨idx, h⟩) else none
  | 2 => if h : idx < 8 then some (l.illum.get ⟨idx, h⟩) else none
  | 3 => if idx = 0 then some l.matrix else none
  | 4 => if h : idx < 6 then some (l.sensor.get ⟨idx, h⟩) else none
  | 5 => if h : idx < 32 then some (l.tagSlot.get ⟨idx, h⟩) else none
  | 6 => if h : 10 ≤ idx ∧ idx < 16 then some (l.timer.get ⟨idx - 10, by omega⟩) else none
  | 7 => if h : idx = 1 ∨ idx = 2 ∨ idx = 4 then some (l.pool.get ⟨idx - 1, by omega⟩) else none
  | 8 => if h : idx < 10 then some (l.link.get ⟨idx, h⟩) else none
  | _ => none

/-- Put a lease in place. -/
def Leases.put (l : Leases) (cls idx : Nat) (x : Lease) : Leases :=
  match cls with
  | 1 => if h : idx < 8 then { l with axis := bankSet l.axis ⟨idx, h⟩ x } else l
  | 2 => if h : idx < 8 then { l with illum := bankSet l.illum ⟨idx, h⟩ x } else l
  | 3 => if idx = 0 then { l with matrix := x } else l
  | 4 => if h : idx < 6 then { l with sensor := bankSet l.sensor ⟨idx, h⟩ x } else l
  | 5 => if h : idx < 32 then { l with tagSlot := bankSet l.tagSlot ⟨idx, h⟩ x } else l
  | 6 => if h : 10 ≤ idx ∧ idx < 16 then { l with timer := bankSet l.timer ⟨idx - 10, by omega⟩ x } else l
  | 7 => if h : idx = 1 ∨ idx = 2 ∨ idx = 4 then { l with pool := bankSet l.pool ⟨idx - 1, by omega⟩ x } else l
  | 8 => if h : idx < 10 then { l with link := bankSet l.link ⟨idx, h⟩ x } else l
  | _ => l

/-- The holder of a resource, 0 when free or unknown. -/
def State.holder (s : State) (cls idx : Nat) : Nat :=
  match s.leases.get cls idx with
  | some l => l.owner
  | none => 0

/-- A port's owner holds a resource. -/
def State.holds (s : State) (p : Port) (cls idx : Nat) : Bool := s.holder cls idx == p.id

/-! ## Parts of the state -/

def State.updAxis (s : State) (n : Fin 8) (f : Axis → Axis) : State := { s with axes := bankUpd s.axes n f }
def State.updSensor (s : State) (n : Fin 6) (f : SnsPort → SnsPort) : State := { s with sensors := bankUpd s.sensors n f }
def State.updTimer (s : State) (n : Fin 16) (f : Timer → Timer) : State := { s with timers := bankUpd s.timers n f }
def State.updIllum (s : State) (f : Illum → Illum) : State := { s with illum := f s.illum }
def State.updLbus (s : State) (f : Lbus → Lbus) : State := { s with lbus := f s.lbus }
def State.updRadio (s : State) (f : Radio → Radio) : State := { s with radio := f s.radio }
def State.updTest (s : State) (f : LinkTest → LinkTest) : State := { s with test := f s.test }
def State.updTag (s : State) (f : Tag → Tag) : State := { s with tag := f s.tag }
def State.updTb (s : State) (f : Timebase → Timebase) : State := { s with tb := f s.tb }
def State.updJobs (s : State) (f : Jobs → Jobs) : State := { s with jobs := f s.jobs }
def State.updMem (s : State) (f : MemState → MemState) : State := { s with mem := f s.mem }
def State.updKeys (s : State) (f : KeyState → KeyState) : State := { s with keys := f s.keys }
def State.updHpa (s : State) (f : Hpa → Hpa) : State := { s with hpa := f s.hpa }
def State.updNet (s : State) (f : Net → Net) : State := { s with net := f s.net }
def State.updBoot (s : State) (f : Boot → Boot) : State := { s with boot := f s.boot }

/-! ## The stage of firmware images -/

/-- A stage closes without a reset: complete images keep their STAGED bit, the counts of the others return to 0 (R147). -/
def State.closeStage (s : State) : State :=
  s.updBoot fun b =>
    { b with stage := none,
             written := Vector.ofFn fun k : Fin 6 => if b.staged.testBit k.val then b.written.get k else 0,
             tokenWritten := if b.tokenStaged then b.tokenWritten else 0 }

/-- The stage of an owner closes. -/
def State.closeStageOf (s : State) (p : Port) : State :=
  match s.boot.stage with
  | some x => if x.port = p then s.closeStage else s
  | none => s

/-- Fold a change over every index of a bank. -/
def forAll {n : Nat} {σ : Type} (s : σ) (f : σ → Fin n → σ) : σ := (List.finRange n).foldl f s

end Sys2Proof.Machine
end

