-- ==== Sys2Proof/Machine/Cores.lean ====
section
/-! DEFINITION. Core reservation and pinning (09_compute_core_numerics.md, R189 to R191). -/

namespace Sys2Proof.Machine

def State.updCores (s : State) (f : Cores → Cores) : State := { s with cores := f s.cores }
def State.updCore (s : State) (c : Fin 32) (f : Core1 → Core1) : State :=
  s.updCores fun x => { x with core := bankUpd x.core c f }
def State.core1 (s : State) (c : Fin 32) : Core1 := s.cores.core.get c

/-- The core that serves an axis (R190). -/
def coreOf (n : Fin 8) : Fin 32 := ⟨28 + n.val / 2, by omega⟩

/-- The axes a core serves, none below CC28. -/
def axesOf (c : Fin 32) : List (Fin 8) := (List.finRange 8).filter fun n => coreOf n == c

/-- A core is reserved while an AXIS lease of either of its axes is held (R190). -/
def State.reserved (s : State) (c : Fin 32) : Bool := (axesOf c).any fun n => s.holder 1 n.val != 0

/-- An axis is enabled, or in the zeroing of an enable (R307, R310). -/
def Axis.live (a : Axis) : Bool := a.st.enabled || a.zeroFrom.isSome

/-- The network of a kind that is loaded, in use already or from the next valley sample on. -/
def Axis.loaded (a : Axis) (k : Fin 3) : Option ObsNet := (a.netsNew.get k).or (a.nets.get k)

/-- A network is loaded. -/
def Axis.netted (a : Axis) : Bool := (List.finRange 3).any fun k => (a.loaded k).isSome

/-- The axis needs its core. -/
def Axis.needsCore (a : Axis) : Bool := a.live && a.netted

/-- An axis's core is PINNED. -/
def State.pinned (s : State) (n : Fin 8) : Bool := (s.core1 (coreOf n)).st == .pinned

/-- Pin the cores whose axes need them, and free those no axis needs (Table 9-5). A halted core keeps its state (R189) until it
is released: DEDUCED, notes/assumptions/9. -/
def State.repin (s : State) : State :=
  forAll s fun s (c : Fin 32) =>
    let want := (axesOf c).any fun n => (s.axes.get n).needsCore
    let x := s.core1 c
    if s.fabric.dbgHalt.get c then s
    else if want ∧ s.boot.dev = .full ∧ (x.st = .idle ∨ x.st = .off) ∧ ¬ x.retired ∧ ¬ x.barred then s.updCore c fun x => { x with st := .pinned }
    else if ¬ want ∧ x.st = .pinned then s.updCore c fun x => { x with st := .idle, idleAt := s.now }
    else s

/-- Status of pinning an axis's core again (R190, R345). -/
def State.pinStatus (s : State) (n : Fin 8) : Nat :=
  let x := s.core1 (coreOf n)
  if x.st = .job then eBusy
  else if x.st = .fault ∨ x.retired ∨ x.barred then eState
  else stOk

/-- The VCORE request, or the read-back voltage after an AVSBus failure (R30, R334); the request while none was read. -/
def State.vcoreMv (s : State) : Nat :=
  if s.avs.failed ∧ s.avs.readMv ≠ 0 then s.avs.readMv else s.avs.reqMv

end Sys2Proof.Machine
end

