-- ==== Sys2Proof/Machine/Order.lean ====
section
/-! DEFINITION. The order of rows of one tick where the manual's tables of coinciding events give one: a row that must act
after another of its tick gives way to it, and acts when the queue is empty (notes/assumptions/1). -/

namespace Sys2Proof.Machine

/-- The header of a row that reads or writes one register. -/
def regRowHdr : Instr → Option Hdr
  | .dbgHaltWrite h _ | .faultCntClr h _ | .tjPeakClr h _ | .enrol h _ | .revoke h _ | .eccCntClr h _
  | .numCntClr h _ | .jobCntClr h _ | .camCommit h _ _ | .hbCntClr h _ | .snsErrClr h _ _ | .lastFs0Read h _
  | .tbNow0Read h | .tbCntClr h _ | .timRst h _ _ | .timGtFuncWrite h _ _ _ | .timCntLoRead h _
  | .timCapLoRead h _ | .axCntClr h _ _ | .safeCntClr h _ | .obsCntClr h _ _ | .igFaultClear h _ _
  | .mxFaultClear h _ | .dimCfgWrite h _ | .stageCtrlClr h _ | .illCntClr h _ | .lbusCntClr h _ _
  | .radCntClr h _ | .ltBitsLoRead h _ | .axtCtrlGo h _ _ | .sktCtrlGo h _ _ => some h
  | _ => none

/-- The row brings a command of an owner: a Psiesk row, a register's row, or bytes of a port. -/
def bringsCommand (c : Instr) : Bool :=
  c.cmd?.isSome || (regRowHdr c).isSome ||
    match c with
    | .hpaSqFetch _ _ | .hpbDatagramRx _ _ _ _ _ | .sfpFrameRx _ | .mntFrameRx _ => true
    | _ => false

/-- A row of this tick that has yet to act meets a condition. -/
def State.behind (s : State) (f : Instr → Bool) : Bool := s.pending.any f || s.deferred.any f

/-- Commands of this tick have yet to act. -/
def State.commandsWait (s : State) : Bool := !s.arrivals.isEmpty || s.behind bringsCommand

/-- The lease of a resource may end in this tick: what ends it has yet to act. -/
def State.leaseMayEnd (s : State) (cls idx : Nat) : Bool :=
  (s.arrivals.any fun a => decide (a.cmd = .leaseRelease) && decide (a.hdr.cls.toNat = cls) && decide (a.hdr.idx.toNat = idx)) ||
    s.behind fun c =>
      match c with
      | .leaseExpiry k i => decide (k.toNat = cls) && decide (i.toNat = idx)
      | .leaseRelease h => decide (h.cls.toNat = cls) && decide (h.idx.toNat = idx)
      | _ => false

/-- An enrolment that completes in this tick has yet to act. -/
def State.enrolComes (s : State) : Bool :=
  s.behind fun c =>
    match c with
    | .enrolComplete _ => true
    | _ => false

/-- A read-back of the configuration store in this tick has yet to act. -/
def State.readBackComes (s : State) : Bool :=
  s.behind fun c =>
    match c with
    | .configStoreWriteDone _ => true
    | _ => false

/-- The row gives way: it acts when the queue is empty. -/
def State.putOff (s : State) (c : Instr) : State := { s with deferred := s.deferred ++ [c] }

end Sys2Proof.Machine
end

