-- ==== Sys2Proof/Machine/Lbus.lean ====
section
/-! DEFINITION. The lighting bus node: gear, levels and fades, addressing and answers (19_lighting_bus.md). What the
manual takes from IEC 62386-102 and 207 without restating it is PRESUMED from those parts (notes/assumptions/10). -/

namespace Sys2Proof.Machine

/-! ## Levels and curves (R378, R379) -/

/-- One level in the unit levels are kept in. -/
def lvlOne : Int := 4294967296

/-- 2^(-2^-i) in 2^-64, i = 1 to 16. -/
def expTabA : List Nat :=
  [13043817825332782212, 15511800964685064948, 16915738899553466670, 17664662643191237676, 18051468387014017850,
   18248035989933441396, 18347121020861646923, 18396865112328554661, 18421787711448657617, 18434261669329232139,
   18440501815349552981, 18443622680442407997, 18445183311048607332, 18445963675871538003, 18446353870663572145,
   18446548971154807802]

/-- The same, i = 17 to 32. -/
def expTabB : List Nat :=
  [18446646522174239825, 18446695297877410579, 18446719685777359790, 18446731879739425374, 18446737976723480912,
   18446741025216264368, 18446742549462845018, 18446743311586182573, 18446743692647863158, 18446743883178706403,
   18446743978444128763, 18446744026076840128, 18446744049893195856, 18446744061801373732, 18446744067755462673,
   18446744070732507144]

/-- 2^-x in 2^-64, for x in 2^-32. -/
def exp2Neg (x : Nat) : Nat :=
  let frac := x % 4294967296
  let p := (expTabA ++ expTabB).zipIdx.foldl
    (fun acc c => if frac.testBit (31 - c.2) then acc * c.1 / 2 ^ 64 else acc) (2 ^ 64)
  p / 2 ^ (x / 4294967296)

/-- F of the logarithmic curve: 65,535 × 10^(3 × (L − 254) ÷ 253). -/
def curveLog (l : Int) : Nat :=
  let x := ((254 * lvlOne - l).toNat * 726625581790348368) / 2 ^ 64
  (rne (65535 * exp2Neg x) (2 ^ 64)).toNat

/-- F of the linear curve: 65,535 × L ÷ 254. -/
def curveLin (l : Int) : Nat := (rne (65535 * l) (254 * 4294967296)).toNat

/-- Duration of a fade of fade time X, in ticks: 0.5 s × √(2^X), 0 for X = 0. -/
def fadeTicks (x : Nat) : Nat := if x = 0 then 0 else Nat.sqrt (2 ^ x * 50000000 ^ 2)

/-- How far UP and DOWN move in 200 ms at fade rate Y: 506 ÷ √(2^Y) steps per second. -/
def rateStep (y : Nat) : Int := (Nat.sqrt ((506 * 4294967296) ^ 2 / 2 ^ y) / 5 : Nat)

/-- The fractional level at a tick. -/
def Gear.levelAt (g : Gear) (now : Nat) : Int :=
  match g.fade with
  | none => g.level
  | some f =>
    if now ≥ f.start + f.dur then (if g.target = 0 then 0 else f.to_)
    else f.from_ + (f.to_ - f.from_) * ((now - f.start : Nat) : Int) / (f.dur : Int)

/-- A fade is in progress. -/
def Gear.fading (g : Gear) (now : Nat) : Bool :=
  match g.fade with
  | none => false
  | some f => decide (now < f.start + f.dur)

/-- QUERY ACTUAL LEVEL: the nearest integer, ties toward the fade's end. -/
def Gear.actual (g : Gear) (now : Nat) : Nat :=
  let l := g.levelAt now
  let up := (2 * l + lvlOne) / (2 * lvlOne)
  let down := -((lvlOne - 2 * l) / (2 * lvlOne))
  if (g.target : Int) * lvlOne ≥ l then up.toNat else down.toNat

/-- End a fade that is over. -/
def Gear.settle (g : Gear) (now : Nat) : Gear :=
  if g.fading now then g else { g with level := g.levelAt now, fade := none }

/-- The gear's bus factor (R378). -/
def Gear.factor (g : Gear) (now : Nat) : Nat :=
  let l := g.levelAt now
  if l ≤ 0 then 0 else if g.vars.linear then curveLin l else curveLog l

/-- Variables of a gear at the reset values of part 102, for a group, curve and short address. -/
def GearVars.fresh (group : Fin 8) (linear : Bool) (short : Option Nat) : GearVars :=
  { group := group, linear := linear, short := short, random := 0xFFFFFF, busGroups := 0,
    scenes := Vector.replicate 16 255, minLevel := 1, maxLevel := 254, powerOn := 254, sysFail := 254, fadeTime := 0,
    fadeRate := 7, lastActive := 254 }

/-- A gear as GEAR_CONFIG leaves it. -/
def Gear.ofVars (v : GearVars) (level : Nat) : Gear :=
  { vars := v, level := level * lvlOne, target := level, fade := none, init := none, withdrawn := false,
    identifyAt := none, limitError := false, powerCycle := false, leadAt := 0, lampFail := false, savedAt := 0,
    lastDirty := false, lossDue := false, curveNext := none }

/-! ## Gear and groups -/

def busOf (n : Fin 16) : Fin 2 := ⟨n.val / 8, by omega⟩
def slotOf (n : Fin 16) : Nat := n.val % 8

/-- The gear mapped to a group, lower bus first. -/
def Lbus.gearOf (l : Lbus) (g : Fin 8) : List (Fin 16 × Gear) :=
  (bankList l.gear).filterMap fun x =>
    match x.2 with
    | some e => if e.vars.group = g then some (x.1, e) else none
    | none => none

/-- The leading gear of a group (R385): the one whose target changed last, or the LBUS0 gear. -/
def Lbus.leading (l : Lbus) (g : Fin 8) : Option (Fin 16 × Gear) :=
  (l.gearOf g).foldl
    (fun best x => match best with
      | none => some x
      | some b => if x.2.leadAt > b.2.leadAt then some x else some b) none

/-- IDENTIFY DEVICE runs on a gear of the group: the tick of the last one (R377). -/
def State.identifying (s : State) (g : Fin 8) : Option Nat :=
  (s.lbus.gearOf g).foldl (fun best x =>
    match x.2.identifyAt with
    | some t => if s.now < t + 10 * secTicks ∧ best.getD 0 ≤ t then some t else best
    | none => best) none

/-- The group's bus factor F: its leading gear's, 0 with none; IDENTIFY DEVICE on a gear of it alternates it every 500 ms for 10 s
under BUS (R377). -/
def State.busFactor (s : State) (g : Fin 8) : Nat :=
  match s.lbus.leading g with
  | none => 0
  | some (_, e) =>
    match s.identifying g with
    | some t0 =>
      if (s.illum.groups.get g).cfg.ctrlSrc = 1 then (if (s.now - t0) / (500 * msTicks) % 2 = 0 then 65535 else 0)
      else e.factor s.now
    | none => e.factor s.now

/-- The bus answers frames (R391, R386, R389, R450). -/
def State.busLive (s : State) (b : Fin 2) : Bool :=
  (s.lbus.bus.get b).answers && !s.underTest (if b = 0 then 6 else 7) && !s.underTest 4

/-- Whom a forward frame reaches on a bus (R376). -/
def Gear.addressed (g : Gear) : BusAddr → Bool
  | .short a => g.vars.short == some a.val
  | .group k => g.vars.busGroups.testBit k.val
  | .broadcast => true
  | .unaddressed => g.vars.short.isNone

/-- The mapped gear of a bus that an address reaches, in slot order. -/
def State.gearAt (s : State) (b : Fin 2) (dst : BusAddr) : List (Fin 16) :=
  (bankList s.lbus.gear).filterMap fun x =>
    match x.2 with
    | some g => if busOf x.1 = b ∧ g.addressed dst then some x.1 else none
    | none => none

def State.updGear (s : State) (n : Fin 16) (f : Gear → Gear) : State :=
  s.updLbus fun l => { l with gear := bankUpd l.gear n (·.map f) }

def State.updBus (s : State) (b : Fin 2) (f : Bus → Bus) : State :=
  s.updLbus fun l => { l with bus := bankUpd l.bus b f }

/-- EV_GEAR (Table 7-14). -/
def State.gearEvent (s : State) (n : Fin 16) (kind level : Nat) : State :=
  match s.lbus.gear.get n with
  | none => s
  | some g =>
    s.raiseAll 0x13 2 g.vars.group.val
      ([BitVec.ofNat 8 (busOf n).val, BitVec.ofNat 8 (g.vars.short.getD 255), BitVec.ofNat 8 g.vars.group.val,
        BitVec.ofNat 8 kind] ++ le 4 level)

/-- Persist a gear after a change (R375): at once, but the last active level alone at most once per 60 s. -/
def State.gearPersist (s : State) (n : Fin 16) (old : GearVars) : State :=
  match s.lbus.gear.get n with
  | none => s
  | some g =>
    if g.vars = old then s
    else if { g.vars with lastActive := old.lastActive } = old then s.updGear n fun g => { g with lastDirty := true }
    else s.storePush (.gear n (some g.vars)) none

/-- Apply a change to a gear and persist what changed. -/
def State.gearChange (s : State) (n : Fin 16) (f : Gear → Gear) : State :=
  match s.lbus.gear.get n with
  | none => s
  | some g => (s.updGear n f).gearPersist n g.vars

/-- Write the last active levels that wait, each at most once per 60 s. -/
def State.gearFlush (s : State) : State :=
  forAll s fun s n =>
    match s.lbus.gear.get n with
    | some g =>
      if g.lastDirty ∧ s.now ≥ g.savedAt + 60 * secTicks then
        (s.updGear n fun g => { g with lastDirty := false, savedAt := s.now }).storePush (.gear n (some g.vars)) none
      else s
    | none => s

/-! ## Levels set by commands -/

/-- A command may have changed a gear's target: then the gear leads its group and EV_GEAR of kind 1 goes out (R383, R385). -/
def State.noteTarget (s : State) (n : Fin 16) (old : Nat) : State :=
  match s.lbus.gear.get n with
  | none => s
  | some g =>
    if g.target = old then s
    else
      let s1 := s.updLbus fun l => { l with order := l.order + 1 }
      (s1.updGear n fun g => { g with leadAt := s1.lbus.order }).gearEvent n 1 g.target

/-- Give a gear a target level over a time: clamped to its limits, off is level 0; the event goes out when the target
changes (R379, R383, R385). -/
def State.gearTarget (s : State) (n : Fin 16) (level dur : Nat) : State :=
  match s.lbus.gear.get n with
  | none => s
  | some g =>
    let lim := if level = 0 then 0 else max g.vars.minLevel (min g.vars.maxLevel level)
    let present := g.levelAt s.now
    let start : Int := if present ≤ 0 then g.vars.minLevel * lvlOne else present
    let stop : Int := if lim = 0 then g.vars.minLevel * lvlOne else lim * lvlOne
    let fade : Option Fade := if dur = 0 ∨ (present ≤ 0 ∧ lim = 0) then none else some ⟨s.now, dur, start, stop⟩
    let s1 := s.gearChange n fun g =>
      { g with target := lim, fade := fade, level := if fade.isSome then g.level else lim * lvlOne,
               limitError := level ≠ 0 && lim ≠ level, powerCycle := false,
               vars := { g.vars with lastActive := if lim = 0 then g.vars.lastActive else lim } }
    s1.noteTarget n g.target

/-- UP and DOWN: 200 ms at the fade rate, within the limits, never from or to off. -/
def State.gearRamp (s : State) (n : Fin 16) (up : Bool) : State :=
  match s.lbus.gear.get n with
  | none => s
  | some g =>
    let present := g.levelAt s.now
    if present ≤ 0 then s
    else
      let want := if up then present + rateStep g.vars.fadeRate else present - rateStep g.vars.fadeRate
      let stop := clampI (g.vars.minLevel * lvlOne) (g.vars.maxLevel * lvlOne) want
      let target := ((2 * stop + lvlOne) / (2 * lvlOne)).toNat
      let s1 := s.gearChange n fun g =>
        { g with target := target, fade := some ⟨s.now, 200 * msTicks, present, stop⟩, powerCycle := false,
                 vars := { g.vars with lastActive := target } }
      s1.noteTarget n g.target

/-- Over every gear an address reaches. -/
def State.eachGear (s : State) (b : Fin 2) (dst : BusAddr) (f : State → Fin 16 → State) : State :=
  (s.gearAt b dst).foldl f s

/-- Direct arc power: 255 stops a fade, every other level fades over the fade time. -/
def State.opDapc (s : State) (b : Fin 2) (dst : BusAddr) (level : Nat) : State :=
  s.eachGear b dst fun s n =>
    match s.lbus.gear.get n with
    | none => s
    | some g =>
      if level = 255 then
        let l := g.actual s.now
        (s.updGear n fun g => { g with level := (l : Int) * lvlOne, target := l, fade := none }).noteTarget n g.target
      else s.gearTarget n level (fadeTicks g.vars.fadeTime)

/-! ## Status and answers (R382, Table 19-4, Table 19-5) -/

/-- The light of a group is on: not latched, the stage not in FAULT, and some sink of it has a code and a duty. -/
def State.groupLit (s : State) (g : Fin 8) : Bool :=
  let gr := s.illum.groups.get g
  !gr.latched && s.illum.stage.st != .fault && (bankList s.illum.sinks).any fun x =>
    x.2.group == some g && x.2.fail == 0 && x.2.apCode != 0 && x.2.apDuty != 0

/-- Lamp failure of a gear: its group latched off, or thermal shutdown (Table 19-6); in SHUTDOWN every gear reports it (R390). -/
def State.lampFails (s : State) (g : Gear) : Bool :=
  (s.illum.groups.get g.vars.group).latched || s.thermal.crit || s.boot.dev == .shutdown

/-- Every variable of a gear stands at its reset value. -/
def GearVars.isReset (v : GearVars) : Bool :=
  { v with lastActive := 254 } = GearVars.fresh v.group v.linear v.short

/-- QUERY STATUS (Table 19-6; the other bits as part 102 gives them). -/
def State.gearStatus (s : State) (n : Fin 16) : Nat :=
  match s.lbus.gear.get n with
  | none => 0
  | some g =>
    bitAt 0 (s.illum.stage.st == .fault) + bitAt 1 (s.lampFails g)
      + bitAt 2 ((s.illum.groups.get g.vars.group).f != 0 && s.groupLit g.vars.group) + bitAt 3 g.limitError
      + bitAt 4 (g.fading s.now) + bitAt 5 g.vars.isReset + bitAt 6 g.vars.short.isNone + bitAt 7 g.powerCycle

/-- QUERY FAILURE STATUS (Table 19-4). -/
def State.gearFailure (s : State) (n : Fin 16) : Nat :=
  match s.lbus.gear.get n with
  | none => 0
  | some g =>
    let c := (s.illum.groups.get g.vars.group).cause
    bitAt 0 (c == 2) + bitAt 1 (c == 1 || c == 3) + bitAt 5 s.thermal.crit

/-- Memory bank 0 (Table 19-5). -/
def State.memoryBank0 (s : State) (n : Fin 16) (loc : Nat) : Option Nat :=
  let version := ((s.boot.running.get 2).map (·.version.toNat)).getD 0
  if loc > 0x1A then none
  else if loc = 0 then some 0x1A
  else if loc = 1 then some 0xFF
  else if loc = 2 then some 0x00
  else if loc ≤ 8 then some 0xFF
  else if loc = 0x09 then some (version / 2 ^ 24 % 256)
  else if loc = 0x0A then some (version / 2 ^ 16 % 256)
  else if loc ≤ 0x12 then some ((s.otp.uniqueId.getD (loc - 0x0B) 0).toNat)
  else if loc = 0x13 then some 0xC1
  else if loc = 0x14 then some 0xF2
  else if loc ≤ 0x16 then some 0x08
  else if loc = 0x17 then some 0xFF
  else if loc = 0x18 then some 0x00
  else if loc = 0x19 then some (((bankList s.lbus.gear).filter fun x => busOf x.1 = busOf n && x.2.isSome).length)
  else some (slotOf n)

/-- Owe a backward frame (R376): one value when every answer is the same, a collision when they differ, nothing when
there is none. It starts 7.0 ms after the forward frame. -/
def State.answer (s : State) (b : Fin 2) (vals : List Nat) : State :=
  match vals with
  | [] => s
  | v :: vs =>
    let a : BusAnswer := if vs.all (· == v) then .value (BitVec.ofNat 8 v) else .collision
    s.updBus b fun x => { x with answer := some (a, s.now + 7 * msTicks) }

/-- A query: the answers of the gear an address reaches. -/
def State.opQuery (s : State) (b : Fin 2) (dst : BusAddr) (f : State → Fin 16 → Gear → Option Nat) : State :=
  s.answer b ((s.gearAt b dst).filterMap fun n => (s.lbus.gear.get n).bind (f s n))

/-- A YES or no answer. -/
def yes (b : Bool) : Option Nat := if b then some 255 else none

/-- Change the variables of every gear an address reaches. -/
def State.opVars (s : State) (b : Fin 2) (dst : BusAddr) (f : Gear → GearVars) : State :=
  s.eachGear b dst fun s n => s.gearChange n fun g => { g with vars := f g }

/-- A target outside new limits moves to the limit (part 102, PRESUMED: notes/assumptions/10). -/
def State.limitLevels (s : State) (b : Fin 2) (dst : BusAddr) : State :=
  s.eachGear b dst fun s n =>
    match s.lbus.gear.get n with
    | some g =>
      if g.target ≠ 0 ∧ (g.target < g.vars.minLevel ∨ g.vars.maxLevel < g.target) then s.gearTarget n g.target 0 else s
    | none => s

/-- INITIALISE (R377): 0 every gear, 255 those without a short address, 2a + 1 the one of address a. -/
def State.opInitialise (s : State) (b : Fin 2) (which : Nat) : State :=
  (s.gearAt b .broadcast).foldl
    (fun s n => s.updGear n fun g =>
      if which = 0 ∨ (which = 255 ∧ g.vars.short.isNone) ∨ (which % 2 = 1 ∧ which ≠ 255 ∧ g.vars.short = some (which / 2))
      then { g with init := some s.now, withdrawn := false } else g) s

/-- RANDOMISE: a 24-bit random address from the DRBG for each gear in initialisation. -/
def State.opRandomise (s : State) (b : Fin 2) : State :=
  (s.gearAt b .broadcast).foldl
    (fun s n =>
      match s.lbus.gear.get n with
      | some g =>
        if g.init.isSome then
          let r := Config.drbg s.draws % 2 ^ 24
          s.drew.gearChange n fun g => { g with vars := { g.vars with random := r } }
        else s
      | none => s) s

/-- COMPARE. -/
def State.opCompare (s : State) (b : Fin 2) : State :=
  let search := (s.lbus.bus.get b).search
  s.answer b ((s.gearAt b .broadcast).filterMap fun n => (s.lbus.gear.get n).bind fun g =>
    yes (g.init.isSome && !g.withdrawn && decide (g.vars.random ≤ search)))

/-- TERMINATE. -/
def State.opTerminate (s : State) (b : Fin 2) : State :=
  (s.gearAt b .broadcast).foldl (fun s n => s.updGear n fun g => { g with init := none, withdrawn := false }) s

/-- IDENTIFY DEVICE. -/
def State.opIdentify (s : State) (b : Fin 2) (dst : BusAddr) : State :=
  s.eachGear b dst fun s n => s.updGear n fun g => { g with identifyAt := some s.now }

/-- SELECT DIMMING CURVE, from the next valley; other values than 0 and 1 are ignored (Table 19-4). -/
def State.opCurve (s : State) (b : Fin 2) (dst : BusAddr) (curve : Nat) : State :=
  if curve ≤ 1 then s.eachGear b dst fun s n => s.updGear n fun g => { g with curveNext := some (curve == 1) } else s

/-- READ MEMORY LOCATION (R381): bank 0 only; DTR0 moves on. -/
def State.opReadMemory (s : State) (b : Fin 2) (dst : BusAddr) : State :=
  let x := s.lbus.bus.get b
  let s1 := if x.dtr1 = 0 then s.opQuery b dst fun s n _ => s.memoryBank0 n x.dtr0 else s
  s1.updBus b fun x => { x with dtr0 := min 255 (x.dtr0 + 1) }

/-! ## The commands of part 102 and part 207 by opcode -/

/-- An addressed part 102 command or query that is not a part 207 one. -/
def State.cmd102 (s : State) (b : Fin 2) (dst : BusAddr) (op : Nat) : State :=
  let x := s.lbus.bus.get b
  let d0 := x.dtr0
  let each := s.eachGear b dst
  let q := s.opQuery b dst
  let lim (g : Gear) (v : Nat) : Nat := max g.vars.minLevel (min g.vars.maxLevel v)
  if op = 0x00 then each fun s n => s.gearTarget n 0 0
  else if op = 0x01 then each fun s n => s.gearRamp n true
  else if op = 0x02 then each fun s n => s.gearRamp n false
  else if op = 0x03 then each fun s n => match s.lbus.gear.get n with
    | some g => if g.actual s.now = 0 then s else s.gearTarget n (lim g (g.actual s.now + 1)) 0
    | none => s
  else if op = 0x04 then each fun s n => match s.lbus.gear.get n with
    | some g => if g.actual s.now = 0 then s else s.gearTarget n (lim g (g.actual s.now - 1)) 0
    | none => s
  else if op = 0x05 then each fun s n => match s.lbus.gear.get n with
    | some g => s.gearTarget n g.vars.maxLevel 0
    | none => s
  else if op = 0x06 then each fun s n => match s.lbus.gear.get n with
    | some g => s.gearTarget n g.vars.minLevel 0
    | none => s
  else if op = 0x07 then each fun s n => match s.lbus.gear.get n with
    | some g => if g.actual s.now ≤ g.vars.minLevel then s.gearTarget n 0 0 else s.gearTarget n (g.actual s.now - 1) 0
    | none => s
  else if op = 0x08 then each fun s n => match s.lbus.gear.get n with
    | some g => if g.actual s.now = 0 then s.gearTarget n g.vars.minLevel 0
                else s.gearTarget n (lim g (g.actual s.now + 1)) 0
    | none => s
  else if op = 0x0A then each fun s n => match s.lbus.gear.get n with
    | some g => s.gearTarget n g.vars.lastActive (fadeTicks g.vars.fadeTime)
    | none => s
  else if 0x10 ≤ op ∧ op ≤ 0x1F then each fun s n => match s.lbus.gear.get n with
    | some g =>
      let l := g.vars.scenes.getD (op - 0x10) 255
      if l = 255 then s else s.gearTarget n l (fadeTicks g.vars.fadeTime)
    | none => s
  else if op = 0x20 then each fun s n => match s.lbus.gear.get n with
    | some g => (s.gearChange n fun g =>
        { Gear.ofVars (GearVars.fresh g.vars.group g.vars.linear g.vars.short) 254 with
          leadAt := g.leadAt, lampFail := g.lampFail, savedAt := g.savedAt, lastDirty := g.lastDirty }).noteTarget n g.target
    | none => s
  else if op = 0x21 then
    match (s.gearAt b dst).getLast?.bind fun n => s.lbus.gear.get n with
    | some g => s.updBus b fun x => { x with dtr0 := g.actual s.now }
    | none => s
  else if op = 0x25 then s.opIdentify b dst
  else if op = 0x2A then (s.opVars b dst fun g =>
    { g.vars with maxLevel := if d0 = 255 then 254 else max g.vars.minLevel (min 254 d0) }).limitLevels b dst
  else if op = 0x2B then (s.opVars b dst fun g =>
    { g.vars with minLevel := if d0 = 255 then g.vars.maxLevel else max 1 (min g.vars.maxLevel d0) }).limitLevels b dst
  else if op = 0x2C then s.opVars b dst fun g => { g.vars with sysFail := d0 }
  else if op = 0x2D then s.opVars b dst fun g => { g.vars with powerOn := d0 }
  else if op = 0x2E then s.opVars b dst fun g => { g.vars with fadeTime := min 15 d0 }
  else if op = 0x2F then s.opVars b dst fun g => { g.vars with fadeRate := max 1 (min 15 d0) }
  else if 0x40 ≤ op ∧ op ≤ 0x4F then s.opVars b dst fun g =>
    { g.vars with scenes := g.vars.scenes.setIfInBounds (op - 0x40) d0 }
  else if 0x50 ≤ op ∧ op ≤ 0x5F then s.opVars b dst fun g =>
    { g.vars with scenes := g.vars.scenes.setIfInBounds (op - 0x50) 255 }
  else if 0x60 ≤ op ∧ op ≤ 0x6F then s.opVars b dst fun g =>
    { g.vars with busGroups := Nat.lor g.vars.busGroups (2 ^ (op - 0x60)) }
  else if 0x70 ≤ op ∧ op ≤ 0x7F then s.opVars b dst fun g =>
    { g.vars with busGroups := if g.vars.busGroups.testBit (op - 0x70) then g.vars.busGroups - 2 ^ (op - 0x70)
                               else g.vars.busGroups }
  else if op = 0x80 then s.opVars b dst fun g =>
    { g.vars with short := if d0 = 255 then none else if d0 % 2 = 1 ∧ d0 < 128 then some (d0 / 2) else g.vars.short }
  else if op = 0x90 then q fun s n _ => some (s.gearStatus n)
  else if op = 0x91 then q fun _ _ _ => some 255
  else if op = 0x92 then q fun s n _ => yes ((s.gearStatus n).testBit 1)
  else if op = 0x93 then q fun s n _ => yes ((s.gearStatus n).testBit 2)
  else if op = 0x94 then q fun _ _ g => yes g.limitError
  else if op = 0x95 then q fun _ _ g => yes g.vars.isReset
  else if op = 0x96 then q fun _ _ g => yes g.vars.short.isNone
  else if op = 0x97 then q fun _ _ _ => some 0x08
  else if op = 0x98 then q fun _ _ _ => some d0
  else if op = 0x99 then q fun _ _ _ => some 6
  else if op = 0x9A then q fun _ _ _ => some 1
  else if op = 0x9B then q fun _ _ g => yes g.powerCycle
  else if op = 0x9C then q fun _ _ _ => some x.dtr1
  else if op = 0x9D then q fun _ _ _ => some x.dtr2
  else if op = 0x9E then q fun _ _ _ => some 0
  else if op = 0x9F then q fun _ _ _ => some 6
  else if op = 0xA0 then q fun s _ g => some (g.actual s.now)
  else if op = 0xA1 then q fun _ _ g => some g.vars.maxLevel
  else if op = 0xA2 then q fun _ _ g => some g.vars.minLevel
  else if op = 0xA3 then q fun _ _ g => some g.vars.powerOn
  else if op = 0xA4 then q fun _ _ g => some g.vars.sysFail
  else if op = 0xA5 then q fun _ _ g => some (g.vars.fadeTime * 16 + g.vars.fadeRate)
  else if op = 0xA7 then q fun _ _ _ => some 254
  else if op = 0xA8 then q fun _ _ _ => some 0
  else if op = 0xAA then q fun s n _ => yes ((s.gearStatus n).testBit 0)
  else if 0xB0 ≤ op ∧ op ≤ 0xBF then q fun _ _ g => some (g.vars.scenes.getD (op - 0xB0) 255)
  else if op = 0xC0 then q fun _ _ g => some (g.vars.busGroups % 256)
  else if op = 0xC1 then q fun _ _ g => some (g.vars.busGroups / 256)
  else if op = 0xC2 then q fun _ _ g => some (g.vars.random / 65536)
  else if op = 0xC3 then q fun _ _ g => some (g.vars.random / 256 % 256)
  else if op = 0xC4 then q fun _ _ g => some (g.vars.random % 256)
  else if op = 0xC5 then s.opReadMemory b dst
  else s

/-- A part 207 command or query (Table 19-4), after ENABLE DEVICE TYPE 6. -/
def State.cmd207 (s : State) (b : Fin 2) (dst : BusAddr) (op : Nat) : State :=
  let q := s.opQuery b dst
  if op = 0xE3 then s.opCurve b dst (s.lbus.bus.get b).dtr0
  else if op = 0xED then q fun _ _ _ => some 0
  else if op = 0xEE then q fun _ _ g => some (if g.vars.linear then 1 else 0)
  else if op = 0xEF then q fun _ _ _ => some 1
  else if op = 0xF0 then q fun _ _ _ => some 0
  else if op = 0xF1 then q fun s n _ => some (s.gearFailure n)
  else if op = 0xFD then q fun _ _ _ => some 0
  else if op = 0xFE then q fun _ _ _ => some 0
  else s

/-- A special command: its first byte and its data. -/
def State.cmdSpecial (s : State) (b : Fin 2) (a d : Nat) : State :=
  let inInit (g : Gear) : Bool := g.init.isSome
  let search := (s.lbus.bus.get b).search
  let all := s.gearAt b .broadcast
  let selected (g : Gear) : Bool := inInit g && g.vars.random == search
  if a = 0xA1 then s.opTerminate b
  else if a = 0xA3 then s.updBus b fun x => { x with dtr0 := d }
  else if a = 0xA5 then s.opInitialise b d
  else if a = 0xA7 then s.opRandomise b
  else if a = 0xA9 then s.opCompare b
  else if a = 0xAB then all.foldl (fun s n => s.updGear n fun g => if selected g then { g with withdrawn := true } else g) s
  else if a = 0xB1 then s.updBus b fun x => { x with search := x.search % 65536 + d * 65536 }
  else if a = 0xB3 then s.updBus b fun x => { x with search := x.search / 65536 * 65536 + d * 256 + x.search % 256 }
  else if a = 0xB5 then s.updBus b fun x => { x with search := x.search / 256 * 256 + d }
  else if a = 0xB7 then
    all.foldl (fun s n => s.gearChange n fun g =>
      if selected g then
        { g with vars := { g.vars with short := if d = 255 then none
                                                else if d % 2 = 1 ∧ d < 128 then some (d / 2) else g.vars.short } }
      else g) s
  else if a = 0xB9 then
    s.answer b (all.filterMap fun n => (s.lbus.gear.get n).bind fun g =>
      yes (inInit g && d % 2 == 1 && g.vars.short == some (d / 2)))
  else if a = 0xBB then
    s.answer b (all.filterMap fun n => (s.lbus.gear.get n).bind fun g =>
      if selected g then some ((g.vars.short.map fun k => 2 * k + 1).getD 255) else none)
  else if a = 0xC1 then s.updBus b fun x => { x with dt6 := d == 6 }
  else if a = 0xC3 then s.updBus b fun x => { x with dtr1 := d }
  else if a = 0xC5 then s.updBus b fun x => { x with dtr2 := d }
  else s

/-- The address a frame's first byte spells, none for a special command or a reserved address. -/
def frameAddr (a : Nat) : Option BusAddr :=
  if a < 128 then some (.short (Fin.ofNat 64 (a / 2)))
  else if a < 160 then some (.group (Fin.ofNat 16 (a / 2 % 16)))
  else if a / 2 = 127 then some .broadcast
  else if a / 2 = 126 then some .unaddressed
  else none

/-- A frame that part 102 requires twice: configuration commands, INITIALISE, RANDOMISE, SELECT DIMMING CURVE. -/
def sendTwice (a d : Nat) (dt6 : Bool) : Bool :=
  match frameAddr a with
  | some _ => a % 2 = 1 && ((decide (0x20 ≤ d) && decide (d ≤ 0x81)) || (dt6 && decide (0xE0 ≤ d) && decide (d ≤ 0xEB)))
  | none => a = 0xA5 || a = 0xA7

/-- A complete forward frame, send-twice settled. -/
def State.busFrame (s : State) (b : Fin 2) (a d : Nat) : State :=
  let dt6 := (s.lbus.bus.get b).dt6
  match frameAddr a with
  | some dst =>
    let s1 := if a % 2 = 0 then s.opDapc b dst d
      else if 0xE0 ≤ d then (if d = 0xFF then (if dt6 then s.opQuery b dst fun _ _ _ => some 1 else s)
                             else if dt6 then s.cmd207 b dst d else s)
      else s.cmd102 b dst d
    s1.updBus b fun x => { x with dt6 := false }
  | none => (s.updBus b fun x => { x with dt6 := false }).cmdSpecial b a d

/-! ## Rows -/

/-- The bus of a row that brings a forward frame or a command of a master. -/
def busRow : Instr → Option (Fin 2)
  | .lbusForwardFrame b _ | .dapc b _ _ | .up b _ | .down b _ | .fadeTime b _ _ | .fadeRate b _ _ | .setExtendedFadeTime b _
  | .queryActualLevel b _ | .queryStatus b _ | .initialise b _ | .randomise b | .compare b | .terminate b
  | .identifyDevice b _ | .readMemoryLocation b _ | .enableDeviceType6 b | .selectDimmingCurve b _ _
  | .queryDimmingCurve b _ | .queryGearType b _ | .queryPossibleOperatingModes b _ | .queryFeatures b _
  | .queryFailureStatus b _ | .queryFastFadeTime b _ | .queryMinFastFadeTime b _ => some b
  | _ => none

/-- A master's row gives way to the owners' commands of its tick (a LIGHT_GROUP_CONFIG or GEAR_CONFIG acts first, Table 19-9), and
on LBUS0 to the rows of LBUS1 (R385). -/
def State.busWaits (s : State) (b : Fin 2) : Bool :=
  s.commandsWait || (decide (b = 0) && s.behind fun c => busRow c == some 1)

/-- LBUS_FORWARD_FRAME (R372): a framing error is counted and ignored; a frame required twice acts on its second copy
within 100 ms with no frame between. -/
def execLbusForwardFrame (bus : Fin 2) (frame : Option (BitVec 16)) (s : State) : Host.Outcome State Fault Refusal :=
  .next <|
    if s.busWaits bus then s.putOff (.lbusForwardFrame bus frame)
    else if s.busLive bus then
      match frame with
      | none => s.updBus bus fun x => { x with frameErr := satInc 65535 x.frameErr, last := none }
      | some f =>
        let x := s.lbus.bus.get bus
        let a := f.toNat / 256
        let d := f.toNat % 256
        let s1 := s.updBus bus fun x => { x with frames := satInc 65535 x.frames }
        if sendTwice a d x.dt6 then
          match x.last with
          | some (g, t) =>
            if g = f ∧ s.now ≤ t + 100 * msTicks then (s1.updBus bus fun x => { x with last := none }).busFrame bus a d
            else s1.updBus bus fun x => { x with last := some (f, s.now) }
          | none => s1.updBus bus fun x => { x with last := some (f, s.now) }
        else (s1.updBus bus fun x => { x with last := some (f, s.now) }).busFrame bus a d
    else s

/-- LBUS_BACKWARD_FRAME (R376): the answer owed goes out from 7.0 ms − 0.5 ms after its forward frame. -/
def execLbusBackwardFrame (bus : Fin 2) (s : State) : Host.Outcome State Fault Refusal :=
  .next <|
    match (s.lbus.bus.get bus).answer with
    | some (a, due) =>
      if due ≤ s.now + 50000 ∧ s.busLive bus then
        let s1 := s.updBus bus fun x => { x with answer := none }
        match a with
        | .value v => { s1 with out := s1.out ++ [Out.backward bus (some v)] }
        | .collision =>
          { s1.updBus bus (fun x => { x with collided := satInc 65535 x.collided }) with
            out := s1.out ++ [Out.backward bus none] }
      else s
    | none => s

/-- A row that is one command of a master, with its frame, or its two frames where part 102 requires it twice: it is counted, ends
a send-twice and the effect of ENABLE DEVICE TYPE 6, and acts while the bus answers (notes/assumptions/10). -/
def State.busCommand (s : State) (b : Fin 2) (row : Instr) (frames : Nat) (f : State → State) : State :=
  if s.busWaits b then s.putOff row
  else if s.busLive b then
    (f (s.updBus b fun x => { x with frames := satAdd 65535 x.frames frames, last := none })).updBus b fun x => { x with dt6 := false }
  else s

/-- A part 207 command: only after ENABLE DEVICE TYPE 6 (R380). -/
def State.busCommand207 (s : State) (b : Fin 2) (row : Instr) (frames : Nat) (f : State → State) : State :=
  s.busCommand b row frames fun s => if (s.lbus.bus.get b).dt6 then f s else s

def execDapc (bus : Fin 2) (dst : BusAddr) (level : Byte) (s : State) : Host.Outcome State Fault Refusal :=
  .next (s.busCommand bus (.dapc bus dst level) 1 fun s => s.opDapc bus dst level.toNat)

def execUp (bus : Fin 2) (dst : BusAddr) (s : State) : Host.Outcome State Fault Refusal :=
  .next (s.busCommand bus (.up bus dst) 1 fun s => s.cmd102 bus dst 0x01)

def execDown (bus : Fin 2) (dst : BusAddr) (s : State) : Host.Outcome State Fault Refusal :=
  .next (s.busCommand bus (.down bus dst) 1 fun s => s.cmd102 bus dst 0x02)

/-- FADE_TIME: X of the command; above 15 it is 15 (part 102). -/
def execFadeTime (bus : Fin 2) (dst : BusAddr) (x : Byte) (s : State) : Host.Outcome State Fault Refusal :=
  .next (s.busCommand bus (.fadeTime bus dst x) 2 fun s => s.opVars bus dst fun g => { g.vars with fadeTime := min 15 x.toNat })

/-- FADE_RATE: Y of the command, kept within 1 to 15 (part 102). -/
def execFadeRate (bus : Fin 2) (dst : BusAddr) (y : Byte) (s : State) : Host.Outcome State Fault Refusal :=
  .next (s.busCommand bus (.fadeRate bus dst y) 2 fun s => s.opVars bus dst fun g => { g.vars with fadeRate := max 1 (min 15 y.toNat) })

/-- SET_EXTENDED_FADE_TIME is ignored (R379). -/
def execSetExtendedFadeTime (bus : Fin 2) (dst : BusAddr) (s : State) : Host.Outcome State Fault Refusal :=
  .next (s.busCommand bus (.setExtendedFadeTime bus dst) 2 fun s => s)

def execQueryActualLevel (bus : Fin 2) (dst : BusAddr) (s : State) : Host.Outcome State Fault Refusal :=
  .next (s.busCommand bus (.queryActualLevel bus dst) 1 fun s => s.cmd102 bus dst 0xA0)

def execQueryStatus (bus : Fin 2) (dst : BusAddr) (s : State) : Host.Outcome State Fault Refusal :=
  .next (s.busCommand bus (.queryStatus bus dst) 1 fun s => s.cmd102 bus dst 0x90)

def execInitialise (bus : Fin 2) (which : Byte) (s : State) : Host.Outcome State Fault Refusal :=
  .next (s.busCommand bus (.initialise bus which) 2 fun s => s.opInitialise bus which.toNat)

def execRandomise (bus : Fin 2) (s : State) : Host.Outcome State Fault Refusal :=
  .next (s.busCommand bus (.randomise bus) 2 fun s => s.opRandomise bus)

def execCompare (bus : Fin 2) (s : State) : Host.Outcome State Fault Refusal :=
  .next (s.busCommand bus (.compare bus) 1 fun s => s.opCompare bus)

def execTerminate (bus : Fin 2) (s : State) : Host.Outcome State Fault Refusal :=
  .next (s.busCommand bus (.terminate bus) 1 fun s => s.opTerminate bus)

def execIdentifyDevice (bus : Fin 2) (dst : BusAddr) (s : State) : Host.Outcome State Fault Refusal :=
  .next (s.busCommand bus (.identifyDevice bus dst) 2 fun s => s.opIdentify bus dst)

/-- IDENTIFY_END (R377): 10 s after IDENTIFY DEVICE. -/
def execIdentifyEnd (gear : Fin 16) (s : State) : Host.Outcome State Fault Refusal :=
  .next <| s.updGear gear fun g =>
    match g.identifyAt with
    | some t => if s.now ≥ t + 10 * secTicks then { g with identifyAt := none } else g
    | none => g

/-- INITIALISE_TIMEOUT (R377): 15 min after INITIALISE. -/
def execInitialiseTimeout (gear : Fin 16) (s : State) : Host.Outcome State Fault Refusal :=
  .next <| s.updGear gear fun g =>
    match g.init with
    | some t => if s.now ≥ t + 900 * secTicks then { g with init := none, withdrawn := false } else g
    | none => g

def execReadMemoryLocation (bus : Fin 2) (dst : BusAddr) (s : State) : Host.Outcome State Fault Refusal :=
  .next (s.busCommand bus (.readMemoryLocation bus dst) 1 fun s => s.opReadMemory bus dst)

def execEnableDeviceType6 (bus : Fin 2) (s : State) : Host.Outcome State Fault Refusal :=
  .next <|
    if s.busWaits bus then s.putOff (.enableDeviceType6 bus)
    else if s.busLive bus then
      s.updBus bus fun x => { x with dt6 := true, frames := satInc 65535 x.frames, last := none }
    else s

def execSelectDimmingCurve (bus : Fin 2) (dst : BusAddr) (curve : Byte) (s : State) :
    Host.Outcome State Fault Refusal :=
  .next (s.busCommand207 bus (.selectDimmingCurve bus dst curve) 2 fun s => s.opCurve bus dst curve.toNat)

def execQueryDimmingCurve (bus : Fin 2) (dst : BusAddr) (s : State) : Host.Outcome State Fault Refusal :=
  .next (s.busCommand207 bus (.queryDimmingCurve bus dst) 1 fun s => s.cmd207 bus dst 0xEE)

def execQueryGearType (bus : Fin 2) (dst : BusAddr) (s : State) : Host.Outcome State Fault Refusal :=
  .next (s.busCommand207 bus (.queryGearType bus dst) 1 fun s => s.cmd207 bus dst 0xED)

def execQueryPossibleOperatingModes (bus : Fin 2) (dst : BusAddr) (s : State) : Host.Outcome State Fault Refusal :=
  .next (s.busCommand207 bus (.queryPossibleOperatingModes bus dst) 1 fun s => s.cmd207 bus dst 0xEF)

def execQueryFeatures (bus : Fin 2) (dst : BusAddr) (s : State) : Host.Outcome State Fault Refusal :=
  .next (s.busCommand207 bus (.queryFeatures bus dst) 1 fun s => s.cmd207 bus dst 0xF0)

def execQueryFailureStatus (bus : Fin 2) (dst : BusAddr) (s : State) : Host.Outcome State Fault Refusal :=
  .next (s.busCommand207 bus (.queryFailureStatus bus dst) 1 fun s => s.cmd207 bus dst 0xF1)

def execQueryFastFadeTime (bus : Fin 2) (dst : BusAddr) (s : State) : Host.Outcome State Fault Refusal :=
  .next (s.busCommand207 bus (.queryFastFadeTime bus dst) 1 fun s => s.cmd207 bus dst 0xFD)

def execQueryMinFastFadeTime (bus : Fin 2) (dst : BusAddr) (s : State) : Host.Outcome State Fault Refusal :=
  .next (s.busCommand207 bus (.queryMinFastFadeTime bus dst) 1 fun s => s.cmd207 bus dst 0xFE)

/-- A power row of LBUS1 gives way to one of LBUS0 (R386). -/
def State.powerWaits (s : State) (b : Fin 2) : Bool :=
  decide (b = 1) && s.behind fun c => c == .lbusPowerLoss 0 || c == .lbusPowerRestore 0

/-- LBUS_POWER_LOSS (R386): 550 ms low, of a bus that had power. Initialisation ends (R389); each gear acts at the next valley. -/
def execLbusPowerLoss (bus : Fin 2) (s : State) : Host.Outcome State Fault Refusal :=
  .next <|
    if s.powerWaits bus then s.putOff (.lbusPowerLoss bus)
    else if s.underTest (if bus = 0 then 6 else 7) ∨ ¬ ((s.lbus.bus.get bus).power ∨ (s.lbus.bus.get bus).answers) then s
    else
      let s1 := s.updBus bus fun x =>
        { x with power := false, answers := false, powerLoss := satInc 65535 x.powerLoss, answer := none, last := none,
                 dt6 := false }
      (s1.gearAt bus .broadcast).foldl
        (fun s n => s.updGear n fun g => { g with init := none, withdrawn := false, lossDue := true }) s1

/-- LBUS_POWER_RESTORE (R386): 100 ms high. -/
def execLbusPowerRestore (bus : Fin 2) (s : State) : Host.Outcome State Fault Refusal :=
  .next <|
    if s.powerWaits bus then s.putOff (.lbusPowerRestore bus)
    else if s.underTest (if bus = 0 then 6 else 7) then s
    else
      let was := (s.lbus.bus.get bus).power
      let s1 := s.updBus bus fun x =>
        { x with power := true, answers := x.answers || s.boot.dev == .full || s.boot.dev == .shutdown }
      if was then s1
      else (s1.gearAt bus .broadcast).foldl
        (fun s n => match s.lbus.gear.get n with
          | some g => s.gearEvent n 5 (g.actual s.now)
          | none => s) s1

/-! ## At each TIM08 valley -/

/-- What each gear does at a valley: a bus power loss acts (R386), a selected curve comes in force, a fade that is over
ends. LBUS0 acts first. -/
def State.gearValley (s : State) : State :=
  forAll s fun s n =>
    match s.lbus.gear.get n with
    | none => s
    | some g =>
      let s1 := match g.curveNext with
        | some c => s.gearChange n fun g => { g with curveNext := none, vars := { g.vars with linear := c } }
        | none => s
      let s2 := s1.updGear n fun g => g.settle s.now
      if g.lossDue then
        let s3 := s2.updGear n fun g =>
          let l := if g.vars.sysFail = 255 then g.actual s.now else g.vars.sysFail
          { g with lossDue := false, fade := none, level := (l : Int) * lvlOne, target := l }
        match s3.lbus.gear.get n with
        | some g => s3.gearEvent n 4 (g.actual s.now)
        | none => s3
      else s2

/-- Recompute every gear's lamp-failure bit and send EV_GEAR of kind 2 or 3 at each change (R382). -/
def State.lampRefresh (s : State) : State :=
  forAll s fun s n =>
    match s.lbus.gear.get n with
    | none => s
    | some g =>
      let f := s.lampFails g
      if f = g.lampFail then s
      else (s.updGear n fun g => { g with lampFail := f }).gearEvent n (if f then 2 else 3) (g.actual s.now)

/-- Every mapped gear as the configuration store holds it, at FULL (R391). -/
def State.gearStart (s : State) : State :=
  let s1 := forAll s fun s n =>
    s.updLbus fun l =>
      { l with gear := bankSet l.gear n ((s.store.gear.get n).map fun v =>
          { Gear.ofVars v (if v.powerOn = 255 then v.lastActive else v.powerOn) with powerCycle := true,
                                                                                      savedAt := s.now }) }
  forAll s1 fun s b => s.updBus b fun x => { x with answers := true }

/-! ## GEAR_CONFIG (R374) -/

/-- A slot and bus as a gear number. -/
def gearNum (bus slot : Nat) : Fin 16 := Fin.ofNat 16 (8 * bus + slot)

/-- GEAR_CONFIG: `none` leaves its reply to the configuration store's write. -/
def doGearConfig (t : Ticket) (g : Fin 8) (p : GearP) (s : State) : State :=
  let op := p.op.toNat
  let bus := p.bus.toNat
  let slot := p.slot.toNat
  let n := gearNum bus slot
  let rest0 := p.curve = 0 ∧ p.short = 0 ∧ p.sysFail = 0 ∧ p.powerOn = 0 ∧ p.groups = 0
  if op > 1 ∨ bus > 1 ∨ slot > 7 ∨ (op = 1 ∧ ¬ rest0)
      ∨ (op = 0 ∧ (p.curve.toNat > 1 ∨ (p.short.toNat > 63 ∧ p.short.toNat ≠ 255))) then s.reply t eParam []
  else if op = 0 then
    let other : Bool := match s.lbus.gear.get n with
      | some e => decide (e.vars.group ≠ g)
      | none => false
    let second := (s.lbus.gearOf g).any fun x => decide ((busOf x.1).val = bus ∧ x.1 ≠ n)
    if other ∨ second then s.reply t eBusy []
    else
      let v := { GearVars.fresh g (p.curve = 1) (if p.short.toNat = 255 then none else some p.short.toNat) with
        sysFail := p.sysFail.toNat, powerOn := p.powerOn.toNat, busGroups := p.groups.toNat }
      let s1 := s.updLbus fun l => { l with gear := bankSet l.gear n (some { Gear.ofVars v 254 with savedAt := s.now }) }
      s1.storePush (.gear n (some v)) (some t)
  else
    match s.lbus.gear.get n with
    | some e =>
      if e.vars.group = g then
        (s.updLbus fun l => { l with gear := bankSet l.gear n none }).storePush (.gear n none) (some t)
      else s.reply t eParam []
    | none => s.reply t eParam []

end Sys2Proof.Machine
end

