-- ==== Sys2Proof/Machine/Timers.lean ====
section
/-! DEFINITION. The sixteen timers: counting, preloads, compare channels, capture, general timer balls
(15_timers.md). -/

namespace Sys2Proof.Machine

/-! ## Counting (R290) -/

/-- TOP in use: a TOP of 0 is taken as 1. -/
def Timer.top (t : Timer) : Nat := max 1 t.active.top

/-- D02 cycles of one tick. -/
def Timer.tickLen (t : Timer) : Nat := 2 ^ t.active.pre

/-- D02 cycle at which the present period ends. -/
def Timer.nextValley (t : Timer) : Nat := t.valleyAt + 2 * t.top * t.tickLen

/-- Ticks since the last valley. -/
def Timer.phase (t : Timer) (d02 : Nat) : Nat := (d02 - t.valleyAt) / t.tickLen % (2 * t.top)

/-- The count and DIR. -/
def Timer.count (t : Timer) (d02 : Nat) : Nat × Bool :=
  let p := t.phase d02
  if p < t.top then (p, true) else (2 * t.top - p, false)

/-! ## Compare channels (R292) -/

/-- A channel is active. -/
def Timer.active? (t : Timer) (d02 : Nat) (k : Fin 4) : Bool :=
  match t.mode.get k with
  | 1 =>
    let c := t.count d02
    if c.2 then decide (c.1 < t.active.cmp.get k) else decide (c.1 ≤ t.active.cmp.get k)
  | 2 => true
  | _ => false

/-- The level of a channel: active high with POL 0, active low with POL 1. -/
def Timer.level (t : Timer) (d02 : Nat) (k : Fin 4) : Bool := xor (t.active? d02 k) (t.pol.get k)

/-- The level a ball's function drives, none at high impedance (R297). -/
def Timer.ballLevel (t : Timer) (d02 func : Nat) : Option Bool :=
  if 1 ≤ func ∧ func ≤ 4 then some (t.level d02 (Fin.ofNat 4 (func - 1))) else none

/-- Bring the driven balls to the present levels. -/
def Timer.refresh (t : Timer) (d02 : Nat) : Timer :=
  { t with ball := Vector.ofFn fun a : Fin 2 => if t.run then t.ballLevel d02 (t.gtFunc.get a) else none }

/-! ## Valleys (R291, R295) -/

/-- A valley at a D02 cycle: the preloads become the active set. -/
def Timer.valley (t : Timer) (atCycle d02 : Nat) : Timer :=
  { t with valleyAt := atCycle, active := t.preload }.refresh d02

/-- TIM_RST: a valley now; VALID, OVR and both latches are cleared (R295). A capture of its tick comes after the strobe: it holds
count 0 with DIR 1, and VALID stays as it made it (Table 15-4). -/
def Timer.restart (t : Timer) (now d02 : Nat) : Timer :=
  let caught := t.capAt == some now
  { t.valley d02 d02 with
    rstAt := some now, capValid := t.capValid && caught, capOvr := false, cntLatch := 0, capLatch := 0,
    capCount := if caught then 0 else t.capCount, capDir := t.capDir || caught }

/-- The edge is one that the timer captures: selected by EDGE and stable for FILT cycles. With both edges selected, a level that
comes back to the one last recognised is none (R293, Table 15-4). -/
def Timer.recognises (t : Timer) (e : CapEdge) : Bool :=
  decide (t.capFilt ≤ e.stable) &&
    (if e.rising then t.capEdge == 1 || t.capEdge == 3 else t.capEdge == 2 || t.capEdge == 3) &&
    !(t.capEdge == 3 && t.capLevel == some e.rising)

/-- A capture at a D02 cycle; in the tick of a strobe of TIM_RST it holds count 0 with DIR 1 (Table 15-4). -/
def Timer.capture (t : Timer) (now d02 : Nat) (rising : Bool) : Timer :=
  let c := if t.rstAt = some now then (0, true) else t.count d02
  { t with capOvr := t.capOvr || t.capValid, capValid := true, captures := satInc 65535 t.captures,
           capCount := c.1, capDir := c.2, capAt := some now, capLevel := some rising }

/-- The present tick is that of a valley (Table 15-4). -/
def Timer.inValleyTick (t : Timer) (d02 : Nat) : Bool := t.run && decide (d02 < t.valleyAt + 4)

/-- Write the preloads; in the tick of a valley the valley copies the new values (Table 15-4). -/
def Timer.writePreload (t : Timer) (d02 : Nat) (f : TimSet → TimSet) : Timer :=
  let t1 := { t with preload := f t.preload }
  if t.inValleyTick d02 then { t1 with active := t1.preload }.refresh d02 else t1

/-- D02 runs from the lock of PLL_F: every timer starts, TIM00 to TIM07 with capture on a falling edge (R302). -/
def State.timersStart (s : State) : State :=
  forAll s fun s n =>
    s.updTimer n fun t =>
      { t with run := true, valleyAt := s.d02, capEdge := if n.val < 8 then 2 else t.capEdge,
               capFilt := if n.val < 8 then 0 else t.capFilt }

/-- D02 stops: every timer stops and every GT ball goes to high impedance (R301). -/
def State.timersStop (s : State) : State :=
  forAll s fun s n => s.updTimer n fun t => { t with run := false, ball := Vector.replicate 2 none }

/-- The period of the timer is over. -/
def Timer.due (t : Timer) (d02 : Nat) : Bool := t.run && decide (t.nextValley ≤ d02)

/-- TIMER_VALLEY: due once the period is over; TIM09 and every other timer alike (R291). -/
def State.timerValley (s : State) (n : Fin 16) : State :=
  let t := s.timers.get n
  if t.due s.d02 then s.updTimer n fun t => t.valley t.nextValley s.d02 else s

/-- TIMER_PEAK: the count stands at TOP and DIR becomes 0; no register changes, the balls keep the channel levels. -/
def execTimerPeak (timer : Fin 16) (s : State) : Host.Outcome State Fault Refusal :=
  .next (s.updTimer timer fun t => t.refresh s.d02)

/-- TIMnn has a capture input: TIM08 none, a general timer the ball at FUNC 5 (Table 15-1). -/
def Timer.captures? (t : Timer) (n : Fin 16) : Bool := if n.val < 10 then n != 8 else t.gtFunc.toList.any (· == 5)

/-- TIMER_CAPTURE (R293). -/
def execTimerCapture (edge : CapEdge) (s : State) : Host.Outcome State Fault Refusal :=
  .next <|
    let t := s.timers.get edge.timer
    if t.run ∧ t.captures? edge.timer ∧ t.recognises edge then
      s.updTimer edge.timer fun t => t.capture s.now (s.d02 + edge.cycle.val) edge.rising
    else s

/-- A capture of a timer in this tick has yet to act. -/
def State.captureComes (s : State) (n : Nat) : Bool :=
  s.behind fun c =>
    match c with
    | .timerCapture e => e.timer.val == n
    | _ => false

/-- A read of the words from `addr` gives way to a capture of its tick in a TIM_CAP_LO it takes (Table 15-4), unless other
commands of the tick wait, which it may not fall behind. -/
def State.readWaits (s : State) (addr count : Nat) : Bool :=
  !s.commandsWait && (List.range 16).any fun n =>
    decide (addr ≤ 0x00090088 + 0x1000 * n) && decide (0x00090088 + 0x1000 * n < addr + 4 * count) && s.captureComes n

/-! ## General timer balls (R297, R298) -/

/-- The slot has a ball (Table 15-2). -/
def gtSlot (n : Nat) (a : Nat) : Bool := decide (10 ≤ n) && (a == 0 || decide (n < 12))

/-- At most one ball of the timer is its capture input. -/
def Timer.gtOk (t : Timer) : Bool := !(t.gtFunc.toList.all (· == 5))

/-- End of a TIMER lease (R298). -/
def State.timerLoss (s : State) (n : Fin 16) : State :=
  s.updTimer n fun t => { t with gtFunc := Vector.replicate 2 0, ball := Vector.replicate 2 none }

/-! ## Trigger edges of sensor ports (R260) -/

/-- Trigger source `src`, 1 to 4 TP0 to TP3, 5 to 12 GT0 to GT7, has an edge at a port, armed on it or not; one edge in a tick
counts once. -/
def SnsPort.edgeOf (x : SnsPort) (src now : Nat) : SnsPort :=
  if src = 0 then x
  else
    { x with seen := bankUpd x.seen (Fin.ofNat 12 (src - 1)) fun e =>
        if e.map (·.1) = some now then e else some (now, false) }

/-- A leading edge of a port's trigger source opens its window. Before an arming names the source, it is kept for the source of
the next one. -/
def State.trigEdge (s : State) (k : Fin 6) : State :=
  s.updSensor k fun x =>
    if x.st = .armed ∨ x.st = .receiving then x.edgeOf x.arm.trigSrc s.now else { x with preEdge := some s.now }

/-- An edge of a trigger source at every port. -/
def State.trigSource (s : State) (src : Nat) : State := forAll s fun s k => s.updSensor k fun x => x.edgeOf src s.now

/-- The level the device drives at GTk, none at high impedance (Table 15-2). -/
def State.gtLevel (s : State) (k : Nat) : Option Bool :=
  if k < 4 then (s.timers.get (Fin.ofNat 16 (10 + k / 2))).ball.get (Fin.ofNat 2 k)
  else (s.timers.get (Fin.ofNat 16 (8 + k))).ball.get 0

/-- The rising edges at the GT balls between two states trigger the ports armed on them. -/
def State.gtEdges (before after : State) : State :=
  (List.range 8).foldl (fun s k =>
    if after.gtLevel k = some true ∧ before.gtLevel k ≠ some true then s.trigSource (5 + k) else s) after

/-! ## Registers (R299) -/

def Timer.set48 (x v : Nat) (hi : Bool) : Nat :=
  if hi then x % 2 ^ 32 + v % 65536 * 2 ^ 32 else x / 2 ^ 32 * 2 ^ 32 + v

/-- One half of a 48-bit value. -/
def half48 (x : Nat) (hi : Bool) : Nat := if hi then x / 2 ^ 32 else x % 2 ^ 32

/-- Read a word of a timer instance. -/
def Timer.read (t : Timer) (d02 o : Nat) : Nat :=
  if o = 0x000 then (t.count d02).1 % 2 ^ 32
  else if o = 0x004 then t.cntLatch
  else if o = 0x010 then t.preload.pre
  else if o = 0x014 ∨ o = 0x018 then half48 t.preload.top (o == 0x018)
  else if 0x020 ≤ o ∧ o < 0x040 then half48 (t.preload.cmp.getD ((o - 0x020) / 8) 0) (o % 8 == 4)
  else if o = 0x040 then t.active.pre
  else if o = 0x044 ∨ o = 0x048 then half48 t.active.top (o == 0x048)
  else if 0x050 ≤ o ∧ o < 0x070 then half48 (t.active.cmp.getD ((o - 0x050) / 8) 0) (o % 8 == 4)
  else if o = 0x070 then
    (List.finRange 4).foldl (fun a k => a + (t.mode.get k + bitAt 2 (t.pol.get k)) * 16 ^ k.val) 0
  else if o = 0x074 then (List.finRange 4).foldl (fun a k => a + bitAt k.val (t.run && t.level d02 k)) 0
  else if o = 0x080 then t.capEdge + t.capFilt * 256
  else if o = 0x084 then bitAt 0 t.capValid + bitAt 1 t.capOvr + t.captures * 65536
  else if o = 0x088 then t.capCount % 2 ^ 32
  else if o = 0x08C then t.capLatch
  else if o = 0x090 ∨ o = 0x094 then t.gtFunc.getD ((o - 0x090) / 4) 0
  else 0

/-- Side effects of reading a word (R294). -/
def Timer.afterRead (t : Timer) (d02 o : Nat) : Timer :=
  if o = 0x000 then
    let c := t.count d02
    { t with cntLatch := c.1 / 2 ^ 32 + bitAt 16 c.2 }
  else if o = 0x088 then
    { t with capValid := false, capLatch := t.capCount / 2 ^ 32 + bitAt 16 t.capDir }
  else t

/-- A value a word accepts: MODE 3 and FUNC 6 and 7 do not exist (R292, R297). -/
def timerCheck (n o v : Nat) : Bool :=
  if n < 10 then true
  else if o = 0x070 then (List.range 4).all fun k => bits (4 * k + 1) (4 * k) v != 3
  else if o = 0x090 ∨ o = 0x094 then !gtSlot n ((o - 0x090) / 4) || decide (v % 8 ≤ 5)
  else true

/-- Write a word of a timer instance; in instances 0 to 9 the fields RW and WO are read-only to a command (R296). -/
def Timer.write (t : Timer) (n now d02 o v : Nat) : Timer :=
  if o = 0x084 then { t with capOvr := t.capOvr && !v.testBit 1 }
  else if n < 10 then t
  else if o = 0x008 then (if v.testBit 0 then t.restart now d02 else t)
  else if o = 0x010 then t.writePreload d02 fun x => { x with pre := v % 16 }
  else if o = 0x014 ∨ o = 0x018 then
    t.writePreload d02 fun x => { x with top := Timer.set48 x.top v (o == 0x018) }
  else if 0x020 ≤ o ∧ o < 0x040 then
    let k : Fin 4 := Fin.ofNat 4 ((o - 0x020) / 8)
    t.writePreload d02 fun x => { x with cmp := bankUpd x.cmp k fun c => Timer.set48 c v (o % 8 == 4) }
  else if o = 0x070 then
    { t with mode := Vector.ofFn fun k : Fin 4 => bits (4 * k.val + 1) (4 * k.val) v,
             pol := Vector.ofFn fun k : Fin 4 => v.testBit (4 * k.val + 2) }.refresh d02
  else if o = 0x080 then { t with capEdge := v % 4, capFilt := bits 15 8 v }
  else if o = 0x090 ∨ o = 0x094 then
    let a : Fin 2 := Fin.ofNat 2 ((o - 0x090) / 4)
    if gtSlot n a.val then
      { t with gtFunc := bankSet t.gtFunc a (v % 8), capLevel := if v % 8 = 5 then none else t.capLevel }.refresh d02
    else t
  else t

/-- A word of the TIMERS block. -/
def timersRead (s : State) (off : Nat) : Nat :=
  if h : off < 0x10000 then (s.timers.get ⟨off / 0x1000, by omega⟩).read s.d02 (off % 0x1000) else 0

def timersLatch (s : State) (off : Nat) : State :=
  if h : off < 0x10000 then s.updTimer ⟨off / 0x1000, by omega⟩ fun t => t.afterRead s.d02 (off % 0x1000) else s

def timersCheck (off v : Nat) : Bool := timerCheck (off / 0x1000) (off % 0x1000) v

def timersWrite (s : State) (off v : Nat) : State :=
  if h : off < 0x10000 then
    s.gtEdges (s.updTimer ⟨off / 0x1000, by omega⟩ fun t => t.write (off / 0x1000) s.now s.d02 (off % 0x1000) v)
  else s

/-- No timer has two capture balls: what a whole write of the block must leave (R297). -/
def timersOk (s : State) : Bool := (bankList s.timers).all fun x => x.2.gtOk

end Sys2Proof.Machine
end

