-- ==== Sys2Proof/Machine/Illum.lean ====
section
/-! DEFINITION. Sinks, groups, spread dimming, strobes, the string supply and the matrix (18_illumination.md). -/

namespace Sys2Proof.Machine

def State.group (s : State) (g : Fin 8) : Group := s.illum.groups.get g
def State.updGroup (s : State) (g : Fin 8) (f : Group → Group) : State :=
  s.updIllum fun i => { i with groups := bankUpd i.groups g f }
def State.updSink (s : State) (n : Fin 48) (f : Sink → Sink) : State :=
  s.updIllum fun i => { i with sinks := bankUpd i.sinks n f }
def State.updStage (s : State) (f : VStage → VStage) : State := s.updIllum fun i => { i with stage := f i.stage }
def State.updMatrix (s : State) (f : Matrix → Matrix) : State := s.updIllum fun i => { i with matrix := f i.matrix }

/-- Every sink of a group goes off at once. -/
def State.dark (s : State) (gi : Fin 8) : State :=
  forAll s fun s n => s.updSink n fun x => if x.group = some gi then { x with on := false, run := false } else x

/-! ## Spread dimming (R352, R353) -/

/-- n_min = ceil(80 ÷ DIM_C). -/
def nMin (c : Nat) : Nat := (80 + c - 1) / c

/-- The 8 bits of a slot index reversed. -/
def rev8 (j : Nat) : Nat := (List.range 8).foldl (fun a i => a + bitAt (7 - i) (j.testBit i)) 0

/-- The least m with floor(d ÷ (256 >> m)) ≥ n_min, at most 8. -/
def dimM (d c : Nat) : Nat := ((List.range 9).find? fun m => decide (nMin c ≤ d / (256 / 2 ^ m))).getD 8

/-- Units a duty is on in slot `j` of the period (R353). -/
def onUnits (d c j : Nat) : Nat :=
  if d = 0 then 0
  else
    let k := 256 / 2 ^ dimM d c
    let q := d / k
    let r := d - q * k
    let i := rev8 j
    if i < k then q + (if i < r then 1 else 0) else 0

/-! ## Temperature compensation (R350, R351) -/

/-- applied_code of R351 for a colour's factors, a temperature in 1/16 °C and a stored code. -/
def compensate (k : Vector Nat 9) (t16 : Int) (code : Nat) : Nat :=
  let t := clampI (-640) 1920 t16
  let i := min 7 ((t + 640) / 320).toNat
  let k0 : Int := k.getD i 0
  let k1 : Int := k.getD (i + 1) 0
  let knum := k0 * 320 + (k1 - k0) * (t - (320 * (i : Int) - 640))
  min 4095 (rne ((code : Int) * knum) (320 * 32768)).toNat

/-- A quotient of integers rounded to nearest, ties to even. -/
def rneInt (num den : Int) : Int := if den < 0 then rne (-num) den.natAbs else rne num den.natAbs

/-- The temperature of a lamp-board reading, in 1/16 °C, within the register (R350). -/
def ltsTemp (v0 : Nat) (slope : Int) (mv : Nat) : Int :=
  clampI (-32768) 32767 (rneInt (((mv : Int) - v0) * 16000) slope)

/-! ## What a group drives (R349, R384) -/

/-- round(DUTY × F ÷ 65,535), the bus value b of R384. -/
def busValue (duty f : Nat) : Nat := (rne ((duty : Int) * f) 65535).toNat

/-- A non-zero duty below the shortest on-time becomes that (Table 18-2). -/
def atLeastNMin (d c : Nat) : Nat := if d = 0 then 0 else max d (nMin c)

/-- Applied duty under BUS (Table 18-2). -/
def busDuty (duty f c : Nat) : Nat := atLeastNMin (busValue duty f) c

/-- Applied code of a sink. -/
def State.applyCode (s : State) (g : Group) (x : Sink) : Nat :=
  match g.cfg.lts with
  | none => x.code
  | some l => compensate (s.illum.comp.getD g.cfg.colour (Vector.replicate 9 32768)) (s.illum.lts.get l).temp x.code

/-- Applied duty of a sink (Table 18-2, R384). -/
def State.applyDuty (s : State) (gi : Fin 8) (g : Group) (x : Sink) : Nat :=
  if g.cfg.ctrlSrc = 1 then
    let b := busValue x.duty g.f
    match g.blendAt with
    | none => atLeastNMin b s.illum.dimUse
    | some v0 =>
      let dur := match s.lbus.leading gi with
        | some e => fadeTicks e.2.vars.fadeTime
        | none => 0
      if s.now - v0 ≥ dur then atLeastNMin b s.illum.dimUse
      else
        atLeastNMin (rne ((x.blendFrom : Int) * dur + ((b : Int) - x.blendFrom) * (s.now - v0 : Nat)) dur).toNat s.illum.dimUse
  else x.duty

/-- Recompute the applied values of a group's sinks. -/
def State.applyGroup (s : State) (gi : Fin 8) : State :=
  forAll s fun s n =>
    let x := s.illum.sinks.get n
    if x.group = some gi then
      let g := s.group gi
      s.updSink n fun x => { x with apCode := s.applyCode g x, apDuty := s.applyDuty gi g x }
    else s

/-- A sink is active (R356): in a group not latched off, not failed, with a code and a duty; a STROBE group armed. -/
def State.sinkActive (s : State) (x : Sink) : Bool :=
  match x.group with
  | none => false
  | some gi =>
    let g := s.group gi
    !g.latched && x.fail == 0 && x.apCode != 0 && x.apDuty != 0 && (g.cfg.ctrlSrc != 2 || g.strobe.isSome)

/-- IG_CFG.DRIVE: 0 dark or latched, 1 host values, 2 bus, 3 strobe. Every group is dark while the stage is in FAULT (R368). -/
def State.drive (s : State) (gi : Fin 8) : Nat :=
  if s.illum.stage.st = .fault then 0
  else if (bankList s.illum.sinks).any fun x => x.2.group == some gi && s.sinkActive x.2 then (s.group gi).cfg.ctrlSrc + 1
  else 0

/-- The fail-safe in force (Table 18-1). -/
def LightCfg.safe (c : LightCfg) : Bool := c.failsafe == 1 || (c.failsafe == 2 && decide (4 ≤ c.colour))

/-! ## Events -/

/-- EV_LIGHT_FAULT (Table 7-14). -/
def State.lightFault (s : State) (gi : Fin 8) (sink kind latch : Nat) (mv : Int) : State :=
  s.raiseAll 0x06 2 gi.val
    ([BitVec.ofNat 8 gi.val, BitVec.ofNat 8 sink, BitVec.ofNat 8 kind, BitVec.ofNat 8 latch] ++ le 4 (unsigned 32 mv))

/-! ## The end of a scan (R357, R359 to R361) -/

/-- Current of a code in µA × 4,095. -/
def codeUa (code : Nat) : Nat := code * 80000

/-- Take a scan's measurements of every sink into place: h and regulation, with what the measurement before said. -/
def State.takeScan (s : State) : State :=
  forAll s fun s n =>
    s.updSink n fun x =>
      match x.scanH with
      | none => x
      | some h => { x with h := h, inReg := x.scanReg }

/-- A measured sink reads open (Table 18-6). -/
def State.readsOpen (s : State) (x : Sink) : Bool :=
  match x.scanH with
  | none => false
  | some h =>
    decide (x.scanMax * 10 * 4095 < codeUa x.apCode) && decide (h < 100) &&
      ((x.measuredOnce && x.prevReg && decide (x.prevVstr ≤ s.illum.stage.vstr)) ||
        (match s.illum.stage.nearMaxFrom with
         | some t => decide (t + msTicks ≤ s.now)
         | none => false))

/-- Keep what this scan measured as the measurement before the next one, and clear the scan. -/
def State.closeScan (s : State) : State :=
  forAll s fun s n =>
    s.updSink n fun x =>
      match x.scanH with
      | none => { x with scanMax := 0, scanReg := true }
      | some _ => { x with measuredOnce := true, prevReg := x.inReg, prevVstr := s.illum.stage.vstr, scanH := none,
                           scanMax := 0, scanReg := true }

/-- Set point and state of the stage at the end of a scan (R357). -/
def State.stageScan (s : State) : State :=
  let st := s.illum.stage
  match st.st with
  | .discharging | .fault => s
  | _ =>
    let act := (bankList s.illum.sinks).filter fun x => s.sinkActive x.2
    match act with
    | [] => s.updStage fun x => { x with st := .idle }
    | a :: as =>
      let hMin := as.foldl (fun m x => min m x.2.h) a.2.h
      let old := if st.st = .idle then st.vstr else st.set
      let target : Int := (st.vstr : Int) + ((s.illum.hrTgt : Int) - hMin)
      let step := min ((old : Int) + 500) (max ((old : Int) - 100) target)
      let set := min ((s.illum.vmaxDv * 100 : Nat) : Int) (max ((s.illum.vminDv * 100 : Nat) : Int) step)
      let rising := st.st = .idle ∨ set > (old : Int) ∨ (st.vstr : Int) + 300 < set
      s.updStage fun x => { x with set := set.toNat, st := if rising then .rising else .regulating }

/-- Count toward the short criterion (Table 18-6), with the stage as this scan leaves it. -/
def State.shortScan (s : State) : State :=
  forAll s fun s n =>
    s.updSink n fun x =>
      match x.scanH with
      | none => x
      | some h =>
        if h > s.illum.shortMv ∧ x.inReg ∧ s.illum.stage.st = .regulating then { x with shortRun := x.shortRun + 1 }
        else { x with shortRun := 0 }

/-- A lamp failure (R360): kind 1 open, 2 short. -/
def State.lampFailure (s : State) (n : Fin 48) (kind : Nat) : State :=
  let x := s.illum.sinks.get n
  match x.group with
  | none => s
  | some gi =>
    let safe := (s.group gi).cfg.safe
    let s1 := s.updGroup gi fun g =>
      { g with latched := g.latched || safe, cause := if safe then kind else g.cause,
               sinkFail := g.sinkFail || !safe, faultSink := if g.faultSink = 255 then n.val else g.faultSink }
    let s2 := if safe then s1.dark gi else s1.updSink n fun x => { x with fail := kind, on := false, run := false }
    let s3 := s2.updIllum fun i =>
      if kind = 1 then { i with cntOpen := satInc 65535 i.cntOpen } else { i with cntShort := satInc 65535 i.cntShort }
    s3.lightFault gi n.val kind (if safe then 1 else 0) x.h

/-- The harness of a sink. -/
def harnessOf (n : Fin 48) : Nat := n.val / 12

/-- HARNESS_OPEN (R361). -/
def State.harnessOpen (s : State) (h : Nat) (opens : List (Fin 48)) : State :=
  let groups := (List.finRange 8).filter fun gi =>
    (bankList s.illum.sinks).any fun x => harnessOf x.1 == h && x.2.group == some gi
  let s1 := groups.foldl (fun s gi => (s.updGroup gi fun g => { g with latched := true, cause := 3 }).dark gi) s
  let s2 := s1.updIllum fun i => { i with cntHarness := satInc 65535 i.cntHarness }
  let s3 := s2.updStage fun x => { x with st := .discharging, dis := true, ovp := false, resumeAt := none }
  s3.raiseAll 0x07 0 0
    ([BitVec.ofNat 8 h, 0, 0, 0] ++ le 8 (maskOf 48 fun i => opens.any fun n => n.val == i)
      ++ le 4 s.illum.stage.vstr ++ le 4 (maskOf 8 fun i => groups.any fun g => g.val == i))

/-- Judge every measured active sink (R359 to R361): first each harness, then the failures outside an open harness. -/
def State.judge (s : State) : State :=
  let act := (bankList s.illum.sinks).filter fun x => s.sinkActive x.2 && x.2.scanH.isSome
  let rising := s.illum.stage.st = .rising
  let openH := (List.range 4).filter fun h =>
    let m := act.filter fun x => harnessOf x.1 == h
    decide (2 ≤ m.length) && m.all (fun x => s.readsOpen x.2) && decide rising
  let opens := (act.filter fun x => s.readsOpen x.2).map (·.1)
  let shorts := (act.filter fun x => decide (8 ≤ x.2.shortRun)).map (·.1)
  let outside (n : Fin 48) : Bool := !openH.any fun h => h == harnessOf n
  let s1 := (opens.filter outside).foldl (fun s n => s.lampFailure n 1) s
  let s2 := (shorts.filter fun n => outside n && !opens.any fun m => m == n).foldl (fun s n => s.lampFailure n 2) s1
  openH.foldl (fun s h => s.harnessOpen h (opens.filter fun n => harnessOf n == h)) s2

/-- A LIGHT_GROUP_CONFIG acts (R348, R384). -/
def State.groupCfgActs (s : State) (gi : Fin 8) (c : LightCfg) : State :=
  let old := (s.group gi).cfg
  let toBus := c.ctrlSrc = 1 ∧ old.ctrlSrc ≠ 1
  let s1 := forAll s fun s n =>
    s.updSink n fun x =>
      let isIn := c.mask.testBit n.val
      if isIn ∧ x.group = some gi then { x with blendFrom := if toBus then x.apDuty else x.blendFrom }
      else if isIn then { Sink.reset with group := some gi }
      else if x.group = some gi then Sink.reset
      else x
  let s2 := if old.ctrlSrc = 2 ∧ c.ctrlSrc ≠ 2 then s1.dark gi else s1
  s2.updGroup gi fun g =>
    { g with cfg := c, cfgNext := none,
             strobe := if c.ctrlSrc = 2 then g.strobe else none,
             opens := if c.ctrlSrc = 2 then g.opens else [],
             closeAt := if c.ctrlSrc = old.ctrlSrc then g.closeAt else none,
             blendAt := if toBus then some s.now else if c.ctrlSrc = 1 then g.blendAt else none,
             sensorSeen := if c.lts = old.lts then g.sensorSeen else false }

/-- Everything that acts at a TIM08 valley: the scan that ends is judged, configurations and DIM_C come in force, bus
factors and applied values are recomputed (R348 to R361, R378). -/
def State.illumValley (s : State) (vstr : Nat) : State :=
  let s0 := s.updStage fun x =>
    { x with vstr := vstr,
             nearMaxFrom := if vstr + 500 ≥ s.illum.vmaxDv * 100 then some (x.nearMaxFrom.getD s.now) else none }
  let s1 := s0.takeScan.stageScan.shortScan.judge.closeScan
  let s2 := s1.updIllum fun i => { i with dimUse := i.dimC, valleyTick := s.now }
  let s3 := forAll s2.gearValley.gearFlush fun s gi =>
    match (s.group gi).cfgNext with
    | some c => s.groupCfgActs gi c
    | none => s
  let s4 := forAll s3 fun s gi => (s.updGroup gi fun g => { g with f := s.busFactor gi }).applyGroup gi
  s4.lampRefresh

/-- The valley event of TIM08 with the VSTR measured; nothing is driven outside FULL (R65, R34), but in SHUTDOWN the gear go on
(R390). -/
def State.dimValley (s : State) (vstr : Nat) : State :=
  if s.boot.dev = .full then s.illumValley vstr
  else if s.boot.dev = .shutdown then s.gearValley.gearFlush.updIllum fun i => { i with valleyTick := s.now }
  else s

/-- TIM08 has a valley in this tick that the sinks have not been served. -/
def State.dimValleyDue (s : State) : Bool :=
  (s.timers.get 8).due s.d02 || ((s.timers.get 8).inValleyTick s.d02 && s.illum.valleyTick != s.now)

/-- A switch to BUS waits for the valley, and masters' rows of the tick, which act before it (Table 19-9). -/
def State.switchWaits (s : State) : Bool :=
  (s.behind fun c => (busRow c).isSome) && (bankList s.illum.groups).any fun x =>
    match x.2.cfgNext with
    | some c => c.ctrlSrc == 1 && x.2.cfg.ctrlSrc != 1
    | none => false

/-- ILLUM_VALLEY: the valley of TIM08 (R352, R356) with the VSTR measured. -/
def execIllumValley (vstrMv : Nat) (s : State) : Host.Outcome State Fault Refusal :=
  .next (if s.switchWaits then s.putOff (.illumValley vstrMv)
    else if s.dimValleyDue then (s.timerValley 8).dimValley vstrMv else s)

/-! ## LIGHT_SET (R354) -/

/-- Write the queued sets of a group that are due, in their order. -/
def State.applySets (s : State) (gi : Fin 8) : State :=
  let due (q : QueuedSet) : Bool := q.at_ == 0 || decide (q.at_ ≤ s.devTime)
  let g := s.group gi
  let s1 := (g.queue.filter due).foldl
    (fun s q => q.entries.foldl
      (fun s e => s.updSink e.1 fun x => if x.group = some gi then { x with code := e.2.1, duty := e.2.2 } else x) s) s
  (s1.updGroup gi fun g => { g with queue := g.queue.filter fun q => !due q }).applyGroup gi

/-- The valley of TIM08 has yet to act in this tick. -/
def State.valleyComes (s : State) : Bool :=
  s.behind fun c =>
    match c with
    | .illumValley _ => true
    | .timerValley n => n == 8
    | _ => false

/-- LIGHT_SET_APPLY: at the group's boundary of this tick, the TIM08 valley or, for a STROBE group, a window opening; a
sink self-test holds it back (R454). It gives way to the valley, and to the end of the group's lease, which discards the set
(Table 18-12). -/
def execLightSetApply (group : Fin 8) (s : State) : Host.Outcome State Fault Refusal :=
  .next <|
    let g := s.group group
    let boundary := if g.cfg.ctrlSrc = 2 then decide (g.openTick = s.now) else decide (s.illum.valleyTick = s.now)
    if s.leaseMayEnd 2 group.val ∨ s.valleyComes then s.putOff (.lightSetApply group)
    else if s.boot.dev = .full ∧ boundary ∧ ¬ (s.test.sink.get group).running then s.applySets group else s

/-- LIGHT_SET: refused as R354 gives, else queued. -/
def doLightSet (t : Ticket) (gi : Fin 8) (p : LightSetP) (s : State) : State :=
  let g := s.group gi
  let at_ := time12Ticks p.time
  let n := p.entries.length
  let bad (e : LightEntryP) : Bool :=
    !(if h : e.sink.toNat < 48 then (s.illum.sinks.get ⟨e.sink.toNat, h⟩).group == some gi else false)
      || decide (e.code.toNat > 4095) || (e.duty != 0 && decide (e.duty.toNat < nMin s.illum.dimC))
  let twice := (p.entries.map (·.sink)).dedup.length ≠ n
  if g.cfg.ctrlSrc = 1 then s.reply t eBusControl []
  else if n = 0 ∨ n > 48 ∨ twice ∨ p.entries.any bad ∨ p.time.frac ≠ 0 ∨ p.time.ns.toNat ≥ 1000000000
      ∨ at_ > s.devTime + 1000 * 1000000000 * 65536 then s.reply t eParam []
  else if g.queue.length ≥ 4 then s.reply t eBusy []
  else
    let q : QueuedSet := ⟨at_, p.entries.map fun e => (Fin.ofNat 48 e.sink.toNat, e.code.toNat, e.duty.toNat)⟩
    (s.updGroup gi fun g => { g with queue := g.queue ++ [q] }).reply t stOk []

/-- LIGHT_GROUP_CONFIG (R348). -/
def doLightGroupConfig (t : Ticket) (gi : Fin 8) (p : LightCfgP) (s : State) : State :=
  let c : LightCfg :=
    { colour := p.colour.toNat, ctrlSrc := p.ctrlSrc.toNat, failsafe := p.failsafe.toNat,
      lts := if h : p.lts.toNat < 4 then some ⟨p.lts.toNat, h⟩ else none, mask := p.mask.toNat }
  let taken := (List.finRange 8).any fun k =>
    k != gi && (let o := s.group k
                (Nat.land o.cfg.mask c.mask != 0) ||
                  (match o.cfgNext with
                   | some x => Nat.land x.mask c.mask != 0
                   | none => false))
  if c.colour > 5 ∨ c.ctrlSrc > 2 ∨ c.failsafe > 2 ∨ (c.lts.isNone ∧ p.lts.toNat ≠ 255) then s.reply t eParam []
  else if taken then s.reply t eBusy []
  else (s.updGroup gi fun g => { g with cfgNext := some c }).reply t stOk []

/-! ## Strobes (R355) -/

/-- STROBE_ARM. A window that is open when the group is armed anew stays open to its end: DESIGN CHOICE, notes/assumptions/23. -/
def doStrobeArm (t : Ticket) (gi : Fin 8) (p : StrobeP) (s : State) : State :=
  let g := s.group gi
  if g.cfg.ctrlSrc = 1 then s.reply t eBusControl []
  else if g.cfg.ctrlSrc = 0 then s.reply t eState []
  else if h : p.tp.toNat < 4 then
    if p.op.toNat > 1 ∨ p.offset.toNat % 10 ≠ 0 ∨ p.offset.toNat > 999999990 ∨ p.length.toNat % 10 ≠ 0
        ∨ p.length.toNat < 1000 ∨ p.length.toNat > 100000000 then s.reply t eParam []
    else
      let st : Strobe := ⟨⟨p.tp.toNat, h⟩, p.offset.toNat, p.length.toNat,
        if p.count = 0 then none else some p.count.toNat⟩
      if p.op = 1 then (s.updGroup gi fun g => { g with strobe := some st, opens := [] }).reply t stOk []
      else ((s.updGroup gi fun g => { g with strobe := none, opens := [], closeAt := none }).dark gi).reply t stOk []
  else s.reply t eParam []

/-- A leading edge that TPp emits at a scheduled device time opens a window of every group armed on it. -/
def State.strobeEdge (s : State) (p : Fin 4) (edgeNs : Nat) : State :=
  forAll s fun s gi =>
    s.updGroup gi fun g =>
      match g.strobe with
      | some st =>
        let room : Bool := match st.left with
          | none => true
          | some n => decide (g.opens.length < n)
        if st.tp = p ∧ room then { g with opens := g.opens ++ [edgeNs + st.offset] } else g
      | none => g

/-- STROBE_WINDOW_OPEN: due from 20 ns before its device time. -/
def execStrobeWindowOpen (group : Fin 8) (s : State) : Host.Outcome State Fault Refusal :=
  .next <|
    let g := s.group group
    match g.strobe, g.opens with
    | some st, o :: rest =>
      if o ≤ s.devNs + 20 ∧ s.boot.dev = .full then
        s.updGroup group fun g =>
          { g with opens := rest, openTick := s.now, closeAt := some (max (g.closeAt.getD 0) (o + st.length)),
                   windows := satInc 0xFFFFFFFF g.windows,
                   strobe := some { st with left := st.left.map (· - 1) } }
      else s
    | _, _ => s

/-- Across a step of device time an open window still closes LENGTH_NS after its opening. -/
def State.strobesStep (s : State) (old new : Nat) : State :=
  forAll s fun s gi => s.updGroup gi fun g => { g with closeAt := g.closeAt.map fun c => new + (c - old) }

/-- STROBE_WINDOW_CLOSE: the group is dark again; after COUNT windows it disarms itself. The sinks' measurements of the window
follow with their own rows. -/
def execStrobeWindowClose (group : Fin 8) (s : State) : Host.Outcome State Fault Refusal :=
  .next <|
    match (s.group group).closeAt with
    | some c =>
      if c ≤ s.devNs + 20 then
        let s1 := forAll s fun s n => s.updSink n fun x => if x.group = some group then { x with on := false } else x
        s1.updGroup group fun g =>
          { g with closeAt := none,
                   strobe := match g.strobe with
                     | some st => if st.left = some 0 then none else some st
                     | none => none }
      else s
    | none => s

/-! ## Sinks and sensors -/

/-- SINK_ON_INTERVAL (R353, R356): at its start the sink turns on; at its end it turns off, and its current and ball
voltage join the scan. A STROBE sink is on through its window. -/
def execSinkOnInterval (sink : Fin 48) (slot : Fin 256) (start : Bool) (currentUa ballMv : Nat) (s : State) :
    Host.Outcome State Fault Refusal :=
  .next <|
    let x := s.illum.sinks.get sink
    let timed : Bool := match x.group with
      | none => false
      | some gi =>
        let g := s.group gi
        if g.cfg.ctrlSrc = 2 then g.closeAt.isSome else decide (0 < onUnits x.apDuty s.illum.dimUse slot.val)
    if start then
      if s.boot.dev = .full ∧ s.sinkActive x ∧ timed then s.updSink sink fun x => { x with on := true, run := true } else s
    else if x.run then
      let want := codeUa x.apCode
      let got := currentUa * 4095
      let near := decide ((if got ≥ want then got - want else want - got) * 100 ≤ want)
      s.updSink sink fun x =>
        { x with on := false, run := false, scanH := some (min (x.scanH.getD ballMv) ballMv), scanMax := max x.scanMax currentUa,
                 scanReg := x.scanReg && near }
    else s

/-- LTS_CONVERSION (R350). -/
def execLtsConversion (sensor : Fin 4) (mv : Nat) (s : State) : Host.Outcome State Fault Refusal :=
  .next <|
    let l := s.illum.lts.get sensor
    let fault := decide (mv < 50) || decide (mv > 2950)
    let s1 := s.updIllum fun i =>
      { i with lts := bankSet i.lts sensor
                 { l with mv := mv % 4096, fault := fault,
                          temp := if fault then 125 * 16 else ltsTemp l.v0 l.slope mv } }
    forAll s1 fun s gi =>
      if (s.group gi).cfg.lts = some sensor then
        if fault ∧ ¬ (s.group gi).sensorSeen then
          (s.updGroup gi fun g => { g with sensorSeen := true }).lightFault gi 255 3 0 mv
        else if fault then s
        else s.updGroup gi fun g => { g with sensorSeen := false }
      else s

/-! ## The string supply -/

/-- VSTR_DISCHARGED (R361): below 5.0 V VSTR_DIS is released; the stage resumes 10 ms later. -/
def execVstrDischarged (s : State) : Host.Outcome State Fault Refusal :=
  .next <|
    let st := s.illum.stage
    if st.st = .discharging ∧ st.dis ∧ ¬ st.ovp then
      s.updStage fun x => { x with dis := false, resumeAt := some (s.now + 10 * msTicks) }
    else s

/-- STAGE_RESUME (R361). -/
def execStageResume (s : State) : Host.Outcome State Fault Refusal :=
  .next <|
    match s.illum.stage.resumeAt with
    | some t =>
      if t ≤ s.now ∧ s.illum.stage.st = .discharging then
        s.updStage fun x => { x with st := .rising, set := x.vstr, resumeAt := none }
      else s
    | none => s

/-- VSTR_OVERVOLTAGE (Table 18-13): the third within 1 s is a fault. -/
def execVstrOvervoltage (mv : Nat) (s : State) : Host.Outcome State Fault Refusal :=
  .next <|
    let st := s.illum.stage
    if mv < 48000 ∨ st.st = .fault ∨ s.boot.dev ≠ .full then s
    else
      let recent := (st.ovpAt.filter fun t => s.now ≤ t + secTicks) ++ [s.now]
      let third := decide (3 ≤ recent.length)
      let act := (List.finRange 8).filter fun gi =>
        (bankList s.illum.sinks).any fun x => x.2.group == some gi && s.sinkActive x.2
      let s1 := s.updIllum fun i => { i with cntOvp := satInc 65535 i.cntOvp }
      let s2 := s1.updStage fun x =>
        { x with vstr := mv, dis := true, ovp := true, ovpAt := recent, resumeAt := none,
                 st := if third then .fault else .discharging }
      (act.foldl (fun s gi => s.lightFault gi 255 4 0 mv) s2).lampRefresh

/-- VSTR_OVP_RELEASE (Table 18-13): below 44.0 V the discharge ends and the stage is RISING; FAULT stays. -/
def execVstrOvpRelease (s : State) : Host.Outcome State Fault Refusal :=
  .next <|
    let st := s.illum.stage
    if st.ovp then
      s.updStage fun x => { x with dis := false, ovp := false, st := if x.st = .discharging then .rising else x.st }
    else s

/-! ## The matrix (R362, R363) -/

/-- What a line time does at `t` ticks after its start (Table 18-7). -/
inductive LinePhase where
  | off | precharge | enabled | sinking
  deriving DecidableEq, Repr

/-- Phase of the line being scanned at a tick: t_pre counts 50 ns. -/
def Matrix.phase (m : Matrix) (t : Nat) : LinePhase :=
  let pre := 10 + 5 * m.frame.tPre
  if t < 10 then .off
  else if t < pre then .precharge
  else if t < pre + 10 then .enabled
  else if t < m.lineTUse * 10 - 10 then .sinking
  else .off

/-- Column code of the line being scanned, 0 where nothing is driven. -/
def Matrix.column (m : Matrix) (t c : Nat) : Nat :=
  if m.fault ∨ ¬ m.frame.mask.testBit m.line.val ∨ m.phase t ≠ .sinking then 0
  else (m.frame.codes.getD (24 * m.line.val + c) 0).toNat

/-- MATRIX_LINE: the next line time begins once the present one is over; at line 0 a frame ends and the pending frame
and LINE_T take effect. -/
def execMatrixLine (s : State) : Host.Outcome State Fault Refusal :=
  .next <|
    let m := s.illum.matrix
    let ended : Bool := match m.lineAt with
      | some t => decide (t + m.lineTUse * 10 ≤ s.now)
      | none => true
    if s.boot.dev = .full ∧ ended then
      s.updMatrix fun m =>
        let next : Fin 16 := if m.lineAt.isNone then 0 else m.line + 1
        if next = 0 then
          { m with line := 0, lineAt := some s.now, lineTUse := m.lineT,
                   frames := if m.lineAt.isSome ∧ m.frame.mask ≠ 0 ∧ ¬ m.fault then satInc 65535 m.frames else m.frames,
                   frame := m.pending.getD m.frame, scanned := m.scanned || m.pending.isSome, pending := none }
        else { m with line := next, lineAt := some s.now }
    else s

/-- MATRIX_OVERCURRENT (Table 18-13). -/
def execMatrixOvercurrent (s : State) : Host.Outcome State Fault Refusal :=
  .next (s.updMatrix fun m => { m with fault := true })

/-- MATRIX_FRAME (R363). -/
def doMatrixFrame (t : Ticket) (p : MatrixP) (s : State) : State :=
  if p.tPre.toNat < 1 ∨ p.tPre.toNat > 64 then s.reply t eParam []
  else (s.updMatrix fun m => { m with pending := some ⟨p.mask.toNat, p.tPre.toNat, p.codes⟩ }).reply t stOk []

/-! ## Loss actions (Table 5-5, R349) -/

/-- The loss action of an ILLUM lease and its code: 4 with a mapped gear, else 3. -/
def State.illumLoss (s : State) (gi : Fin 8) : State × Nat :=
  let s1 := s.updGroup gi fun g => { g with queue := [], strobe := none, opens := [], closeAt := none }
  let s2 := if (s.group gi).cfg.ctrlSrc = 2 then s1.dark gi else s1
  if (s.lbus.gearOf gi).isEmpty then
    (forAll s2 fun s n => s.updSink n fun x => if x.group = some gi then { x with duty := 0 } else x, 3)
  else (s2.updGroup gi fun g => { g with cfgNext := some { g.cfgNext.getD g.cfg with ctrlSrc := 1 } }, 4)

/-- The loss action of the MATRIX lease: blank at the end of the frame being scanned. -/
def State.matrixLoss (s : State) : State :=
  s.updMatrix fun m => { m with pending := some ⟨0, m.frame.tPre, []⟩ }

/-- Every sink and matrix drive off at once, the stage stopped and discharging (Table 18-12: a hardware stop or power
loss); nothing latches. -/
def State.lightsOff (s : State) : State :=
  let s1 := forAll s fun s n => s.updSink n fun x => { x with on := false, run := false }
  (s1.updStage fun x => { x with st := .idle, dis := true, ovp := false }).updMatrix fun m =>
    { m with frame := ⟨0, m.frame.tPre, []⟩, pending := none }

/-! ## Registers (R364 to R366) -/

/-- A word of the ILLUMINATION block. -/
def illumRead (s : State) (off : Nat) : Nat :=
  if h : off < 0x8000 then
    let gi : Fin 8 := ⟨off / 0x1000, by omega⟩
    let g := s.group gi
    match off % 0x1000 with
    | 0x000 =>
      g.cfg.colour + g.cfg.ctrlSrc * 16 + bitAt 6 g.cfg.safe + bitAt 7 g.strobe.isSome
        + (match g.cfg.lts with
           | some l => l.val * 256 + 1024
           | none => 0) + s.drive gi * 4096 + g.queue.length * 65536
    | 0x004 => g.cfg.mask % 2 ^ 32
    | 0x008 => g.cfg.mask / 2 ^ 32
    | 0x00C => bitAt 0 g.latched + bitAt 1 g.sinkFail + g.cause * 4 + g.faultSink * 256
    | 0x010 =>
      match g.cfg.lts with
      | some l => unsigned 16 (s.illum.lts.get l).temp + bitAt 16 (s.illum.lts.get l).fault
      | none => 0
    | 0x014 => g.f
    | 0x018 => g.windows
    | _ => 0
  else if off < 0x9000 then
    let m := s.illum.matrix
    match off with
    | 0x8000 => m.lineT
    | 0x8004 =>
      bitAt 0 (m.scanned && m.frame.mask != 0) + bitAt 1 m.fault + bitAt 2 m.pending.isSome + m.line.val * 256
        + m.frames * 65536
    | 0x8008 => if m.scanned then m.frame.mask + m.frame.tPre * 65536 else 0
    | _ => 0
  else
    let i := s.illum
    if off = 0xF000 then i.dimC
    else if off = 0xF004 then i.vminDv + i.vmaxDv * 65536
    else if off = 0xF008 then i.hrTgt + i.shortMv * 65536
    else if off = 0xF010 then i.stage.st.code + i.stage.vstr % 65536 * 65536
    else if off = 0xF014 then i.stage.set
    else if h : 0xF100 ≤ off ∧ off < 0xF1C0 then
      let x := i.sinks.get ⟨(off - 0xF100) / 4, by omega⟩
      x.apCode + (match x.group with
        | some g => 4096 + g.val * 8192
        | none => 0) + min 255 (x.h / 20) * 65536 + bitAt 24 x.inReg + x.fail * 2 ^ 25
    else if h : 0xF200 ≤ off ∧ off < 0xF2C0 then (i.sinks.get ⟨(off - 0xF200) / 4, by omega⟩).apDuty
    else if h : 0xF300 ≤ off ∧ off < 0xF320 then
      let l := i.lts.get ⟨(off - 0xF300) / 8, by omega⟩
      if off % 8 = 0 then l.v0 + unsigned 16 l.slope * 65536 else unsigned 16 l.temp + bitAt 16 l.fault + l.mv * 2 ^ 17
    else if h : 0xF400 ≤ off ∧ off < 0xF580 then
      let c := i.comp.get ⟨(off - 0xF400) / 0x40, by omega⟩
      c.getD (off % 0x40 / 4) 0
    else if off = 0xF600 then i.cntOpen + i.cntShort * 65536
    else if off = 0xF604 then i.cntHarness + i.cntOvp * 65536
    else 0

/-- No stored or queued duty of any sink lies below n_min at a DIM_C (R352). -/
def State.dimFits (s : State) (c : Nat) : Bool :=
  let ok (d : Nat) : Bool := d == 0 || decide (nMin c ≤ d)
  ((bankList s.illum.sinks).all fun x => ok x.2.duty) &&
    (bankList s.illum.groups).all fun g => g.2.queue.all fun q => q.entries.all fun e => ok e.2.2

/-- A value a word of the block accepts (R352, R364 to R366). -/
def illumCheck (s : State) (off v : Nat) : Bool :=
  if off = 0xF000 then decide (1 ≤ v % 64) && s.dimFits (v % 64)
  else if off = 0xF004 then
    decide (60 ≤ bits 8 0 v) && decide (bits 8 0 v ≤ 460) && decide (bits 8 0 v ≤ bits 24 16 v)
      && decide (bits 24 16 v ≤ 460)
  else if off = 0xF008 then
    decide (350 ≤ bits 10 0 v) && decide (bits 10 0 v ≤ 2000) && decide (1000 ≤ bits 29 16 v)
      && decide (bits 29 16 v ≤ 10000)
  else if off = 0x8000 then decide (157 ≤ bits 13 0 v) && decide (bits 13 0 v ≤ 10000)
  else if 0xF300 ≤ off ∧ off < 0xF320 ∧ off % 8 = 0 then decide (bits 15 0 v ≤ 3000) && bits 31 16 v != 0
  else true

/-- Clear a group's latch or its failed sinks (R360): what was dark stays at applied code 0 until the next valley. -/
def State.igFaultClear (s : State) (gi : Fin 8) (v : Nat) : State :=
  let latch := (s.group gi).latched && v.testBit 0
  let s1 := forAll s fun s n =>
    s.updSink n fun x =>
      if x.group = some gi then
        let x1 := if latch then { x with apCode := 0, apDuty := 0 } else x
        if v.testBit 1 ∧ x1.fail ≠ 0 then { x1 with fail := 0, shortRun := 0, apCode := 0, apDuty := 0 } else x1
      else x
  let s2 := s1.updGroup gi fun g =>
    let g1 := if v.testBit 1 then { g with sinkFail := false } else g
    let g2 := if v.testBit 0 then { g1 with latched := false, cause := 0 } else g1
    { g2 with faultSink := if g2.latched || g2.sinkFail then g2.faultSink else 255 }
  s2.lampRefresh

/-- Write a word of the block whose value has been checked. -/
def illumWrite (s : State) (off v : Nat) : State :=
  if h : off < 0x8000 then
    if off % 0x1000 = 0x00C then s.igFaultClear ⟨off / 0x1000, by omega⟩ v else s
  else if off = 0x8000 then s.updMatrix fun m => { m with lineT := bits 13 0 v }
  else if off = 0x8004 then s.updMatrix fun m => { m with fault := m.fault && !v.testBit 1 }
  else if off = 0xF000 then
    (s.updIllum fun i =>
      { i with dimC := v % 64, dimUse := if i.valleyTick = s.now ∧ 0 < s.now then v % 64 else i.dimUse }).updTimer 8 fun t =>
      t.writePreload s.d02 fun x => { x with pre := 0, top := 32768 * (v % 64) }
  else if off = 0xF004 then s.updIllum fun i => { i with vminDv := bits 8 0 v, vmaxDv := bits 24 16 v }
  else if off = 0xF008 then s.updIllum fun i => { i with hrTgt := bits 10 0 v, shortMv := bits 29 16 v }
  else if off = 0xF018 then
    if v.testBit 0 then
      (s.updStage fun x => if x.st = .fault then { x with st := .idle, ovpAt := [] } else x).lampRefresh
    else s
  else if h : 0xF300 ≤ off ∧ off < 0xF320 then
    if off % 8 = 0 then
      s.updIllum fun i => { i with lts := bankUpd i.lts ⟨(off - 0xF300) / 8, by omega⟩ fun l =>
        { l with v0 := bits 15 0 v, slope := signed 16 (bits 31 16 v) } }
    else s
  else if h : 0xF400 ≤ off ∧ off < 0xF580 then
    s.updIllum fun i =>
      { i with comp := bankUpd i.comp ⟨(off - 0xF400) / 0x40, by omega⟩
                 fun c => c.setIfInBounds (off % 0x40 / 4) (bits 15 0 v) }
  else if off = 0xF608 then
    if v.testBit 0 then s.updIllum fun i => { i with cntOpen := 0, cntShort := 0, cntHarness := 0, cntOvp := 0 } else s
  else s

/-! ## LIGHTING BUS registers (R387, R388) -/

/-- A word of the LIGHTING BUS block. -/
def lbusRead (s : State) (off : Nat) : Nat :=
  if h : off < 0x10000 then
    let n : Fin 16 := ⟨off / 0x1000, by omega⟩
    let o := off % 0x1000
    if o ≥ 0x800 then
      if n.val % 8 = 0 then
        let b := busOf n
        let x := s.lbus.bus.get b
        match o with
        | 0x800 =>
          bitAt 0 x.power + bitAt 1 (s.underTest (if b = 0 then 6 else 7))
            + ((bankList s.lbus.gear).filter fun g => busOf g.1 = b && g.2.isSome).length * 16
        | 0x804 => x.frames + x.frameErr * 65536
        | 0x808 => x.powerLoss + x.collided * 65536
        | _ => 0
      else 0
    else
      match s.lbus.gear.get n with
      | some g =>
        let lead := match s.lbus.leading g.vars.group with
          | some e => e.1 == n
          | none => false
        if o = 0x000 then
          1 + g.vars.group.val * 2 + bitAt 4 g.vars.linear + bitAt 5 g.init.isSome + bitAt 6 lead
            + g.vars.short.getD 255 * 256 + g.vars.busGroups * 65536
        else if o = 0x004 then
          g.actual s.now + g.target * 256 + g.vars.lastActive * 65536 + bitAt 24 (g.fading s.now)
        else if o = 0x008 then
          g.vars.minLevel + g.vars.maxLevel * 256 + g.vars.powerOn * 65536 + g.vars.sysFail * 2 ^ 24
        else if o = 0x00C then g.vars.fadeTime + g.vars.fadeRate * 16
        else if o = 0x010 then s.gearStatus n + s.gearFailure n * 256
        else if o = 0x014 then g.vars.random
        else if 0x020 ≤ o ∧ o < 0x060 then g.vars.scenes.getD ((o - 0x020) / 4) 0
        else 0
      | none =>
        if o = 0x000 then 0xFF00
        else if o = 0x008 then 0xFEFEFE01
        else if o = 0x00C then 0x70
        else if o = 0x014 then 0xFFFFFF
        else if 0x020 ≤ o ∧ o < 0x060 then 0xFF
        else 0
  else 0

/-- Write a word of the LIGHTING BUS block: only the two counter clears act. -/
def lbusWrite (s : State) (off v : Nat) : State :=
  let clr (b : Fin 2) : State :=
    if v.testBit 0 then s.updBus b fun x => { x with frames := 0, frameErr := 0, powerLoss := 0, collided := 0 } else s
  if off = 0x80C then clr 0 else if off = 0x880C then clr 1 else s

end Sys2Proof.Machine
end

