-- ==== Sys2Proof/Machine/Numerics.lean ====
section
/-! DEFINITION. Numbers of the compute cores: exact dyadic values, binary16 and binary32 with one rounding, CB12
blocks, the single rounding of a reduction, tanh, and the angles the axes use (09_compute_core_numerics.md). -/

namespace Sys2Proof.Machine

/-- An exact value m × 2^e. -/
structure Dy where
  m : Int
  e : Int
  deriving DecidableEq, Repr

/-- A decoded element: a NaN, an infinity or an exact value. -/
inductive Num where
  | nan
  | inf (neg : Bool)
  | fin (x : Dy)
  deriving DecidableEq, Repr

def Dy.zero : Dy := ⟨0, 0⟩
def Dy.ofInt (i : Int) : Dy := ⟨i, 0⟩

/-- The mantissa at a lower exponent. -/
def Dy.scaleTo (x : Dy) (e : Int) : Int := x.m * 2 ^ (x.e - e).toNat

def Dy.add (x y : Dy) : Dy := let e := min x.e y.e; ⟨x.scaleTo e + y.scaleTo e, e⟩
def Dy.neg (x : Dy) : Dy := ⟨-x.m, x.e⟩
def Dy.sub (x y : Dy) : Dy := x.add y.neg
def Dy.mul (x y : Dy) : Dy := ⟨x.m * y.m, x.e + y.e⟩
def Dy.lt (x y : Dy) : Bool := let e := min x.e y.e; decide (x.scaleTo e < y.scaleTo e)
def Dy.le (x y : Dy) : Bool := !y.lt x
def Dy.max (x y : Dy) : Dy := if x.lt y then y else x
def Dy.min (x y : Dy) : Dy := if y.lt x then y else x

/-- x ÷ 2^q rounded to the nearest integer, ties to even. -/
def Dy.quantize (x : Dy) (q : Int) : Int :=
  if q ≤ x.e then x.scaleTo q else rne x.m (2 ^ (q - x.e).toNat)

/-! ## Binary formats -/

/-- A binary format: precision, exponent of the least subnormal, encoding of infinity. -/
structure FFmt where
  p    : Nat
  qmin : Int
  infB : Nat
  deriving DecidableEq, Repr

def f32 : FFmt := ⟨24, -149, 0x7F800000⟩
def f16 : FFmt := ⟨11, -24, 0x7C00⟩

/-- Bit of the sign. -/
def FFmt.signB (f : FFmt) : Nat := (f.infB / 2 ^ (f.p - 1) + 1) * 2 ^ (f.p - 1)

/-- Decode an encoding. -/
def FFmt.decode (f : FFmt) (w : Nat) : Num :=
  let neg := decide (f.signB ≤ w % (2 * f.signB))
  let a := w % f.signB
  if a = f.infB then .inf neg
  else if f.infB < a then .nan
  else
    let eb := a / 2 ^ (f.p - 1)
    let m := a % 2 ^ (f.p - 1)
    let x : Dy := if eb = 0 then ⟨m, f.qmin⟩ else ⟨m + 2 ^ (f.p - 1), f.qmin + eb - 1⟩
    .fin (if neg then x.neg else x)

/-- floor(log2(n ÷ d)) of positive n and d. -/
def ratLog (n d : Nat) : Int :=
  let a : Int := (n.log2 : Int) - d.log2
  if n * 2 ^ (-a).toNat < d * 2 ^ a.toNat then a - 1 else a

/-- Encoding of n ÷ d × 2^e rounded to nearest, ties to even; at or above `infB` on overflow. -/
def FFmt.magnitude (f : FFmt) (n d : Nat) (e : Int) : Nat :=
  if n = 0 then 0
  else
    let q := max (ratLog n d + e - ((f.p : Int) - 1)) f.qmin
    let k := e - q
    let m := (rne (n * 2 ^ k.toNat : Nat) (d * 2 ^ (-k).toNat)).toNat
    (q - f.qmin).toNat * 2 ^ (f.p - 1) + m

/-- IEEE rounding of a signed quotient: infinity on overflow. -/
def FFmt.round (f : FFmt) (neg : Bool) (n d : Nat) (e : Int) : Nat :=
  min f.infB (f.magnitude n d e) + (if neg then f.signB else 0)

/-- IEEE rounding of an exact value; an exact zero is +0. -/
def FFmt.ofDy (f : FFmt) (x : Dy) : Nat := f.round (decide (x.m < 0)) x.m.natAbs 1 x.e

/-- Every NaN produced (R184). -/
def qNaN : Nat := 0x7FC00000

/-! ## Binary32 operations (R184, R221) -/

def fNeg (a : Nat) : Nat := if a < 0x80000000 then a + 0x80000000 else a - 0x80000000
def fSign (a : Nat) : Bool := decide (0x80000000 ≤ a)
def fInf (neg : Bool) : Nat := if neg then 0xFF800000 else 0x7F800000
def fZero (neg : Bool) : Nat := if neg then 0x80000000 else 0

def fFinite (a : Nat) : Bool := decide (a % 0x80000000 < 0x7F800000)

def fAdd (a b : Nat) : Nat :=
  match f32.decode a, f32.decode b with
  | .nan, _ => qNaN
  | _, .nan => qNaN
  | .inf x, .inf y => if x = y then fInf x else qNaN
  | .inf x, _ => fInf x
  | _, .inf y => fInf y
  | .fin x, .fin y =>
    let z := x.add y
    if z.m = 0 then fZero (fSign a && fSign b) else f32.ofDy z

def fSub (a b : Nat) : Nat := fAdd a (fNeg b)

def fMul (a b : Nat) : Nat :=
  let neg := xor (fSign a) (fSign b)
  match f32.decode a, f32.decode b with
  | .nan, _ => qNaN
  | _, .nan => qNaN
  | .inf _, .inf _ => fInf neg
  | .inf _, .fin y => if y.m = 0 then qNaN else fInf neg
  | .fin x, .inf _ => if x.m = 0 then qNaN else fInf neg
  | .fin x, .fin y => f32.round neg (x.m * y.m).natAbs 1 (x.e + y.e)

def fDiv (a b : Nat) : Nat :=
  let neg := xor (fSign a) (fSign b)
  match f32.decode a, f32.decode b with
  | .nan, _ => qNaN
  | _, .nan => qNaN
  | .inf _, .inf _ => qNaN
  | .inf _, .fin _ => fInf neg
  | .fin _, .inf _ => fZero neg
  | .fin x, .fin y =>
    if y.m = 0 then (if x.m = 0 then qNaN else fInf neg)
    else f32.round neg x.m.natAbs y.m.natAbs (x.e - y.e)

/-- Square root, correctly rounded: an integer root of at least 30 bits with a sticky bit. -/
def fSqrt (a : Nat) : Nat :=
  match f32.decode a with
  | .nan => qNaN
  | .inf neg => if neg then qNaN else fInf false
  | .fin x =>
    if x.m = 0 then a
    else if x.m < 0 then qNaN
    else
      let x1 : Dy := if x.e % 2 = 0 then ⟨x.m * 2 ^ 64, x.e - 64⟩ else ⟨x.m * 2 ^ 65, x.e - 65⟩
      let r := x1.m.natAbs.sqrt
      let sticky := if r * r = x1.m.natAbs then 0 else 1
      f32.round false (2 * r + sticky) 1 (x1.e / 2 - 1)

/-- One fused multiply-add of finite operands, c + (x − y) × d exact and rounded once. -/
def fFmaDiff (x y d c : Dy) : Nat := f32.ofDy (c.add ((x.sub y).mul d))

/-- a < b; a NaN compares false. -/
def fLt (a b : Nat) : Bool :=
  match f32.decode a, f32.decode b with
  | .nan, _ => false
  | _, .nan => false
  | .inf x, .inf y => x && !y
  | .inf x, .fin _ => x
  | .fin _, .inf y => !y
  | .fin x, .fin y => x.lt y

def fLe (a b : Nat) : Bool :=
  match f32.decode a, f32.decode b with
  | .nan, _ => false
  | _, .nan => false
  | _, _ => !fLt b a

/-- An integer as FP32. -/
def fOfInt (i : Int) : Nat := f32.ofDy (.ofInt i)

/-- A quotient of integers as FP32, rounded once. -/
def fOfRat (n : Int) (d : Nat) : Nat := f32.round (decide (n < 0)) n.natAbs (max 1 d) 0

/-- rne of an FP32 value: the nearest integer, none for a NaN or an infinity. -/
def fRne (a : Nat) : Option Int :=
  match f32.decode a with
  | .fin x => some (x.quantize 0)
  | _ => none

/-- The exact value of a finite FP32, 0 otherwise. -/
def fDy (a : Nat) : Dy :=
  match f32.decode a with
  | .fin x => x
  | _ => .zero

/-! ## Nonlinearities (R185, R243) -/

/-- y_k: tanh(−4 + 0.5 k) rounded to FP32. -/
def tanhNode : List Nat :=
  [0xBF7FD40C, 0xBF7F8896, 0xBF7EBBE9, 0xBF7C92C1, 0xBF76CA83, 0xBF67B7CC, 0xBF42F7D6, 0xBEEC9A9F, 0,
   0x3EEC9A9F, 0x3F42F7D6, 0x3F67B7CC, 0x3F76CA83, 0x3F7C92C1, 0x3F7EBBE9, 0x3F7F8896, 0x3F7FD40C]

/-- tanh of a finite value, piecewise linear (R185). The slope is formed from the rounded nodes: DEDUCED from the
odd symmetry the rule claims, notes/assumptions/11. -/
def tanhPwl (x : Dy) : Nat :=
  if x.lt ⟨-4, 0⟩ then tanhNode.getD 0 0
  else if (Dy.ofInt 4).le x then tanhNode.getD 16 0
  else
    let k := ((x.add (.ofInt 4)).scaleTo (min x.e (-1)) / (2 ^ (-1 - min x.e (-1)).toNat : Nat)).toNat
    let y0 := fDy (tanhNode.getD k 0)
    let y1 := fDy (tanhNode.getD (k + 1) 0)
    let d := fDy (f32.ofDy ((Dy.ofInt 2).mul (y1.sub y0)))
    fFmaDiff x ⟨(k : Int) - 8, -1⟩ d y0

/-- tanh of an FP32 encoding: the ends for the infinities, the NaN for a NaN. -/
def fTanh (a : Nat) : Nat :=
  match f32.decode a with
  | .nan => qNaN
  | .inf neg => tanhNode.getD (if neg then 0 else 16) 0
  | .fin x => tanhPwl x

/-- 0.5 + 0.5 × tanh_pwl(0.5 × x), each operation rounded (R243). -/
def fSigmoid (a : Nat) : Nat := fAdd 0x3F000000 (fMul 0x3F000000 (fTanh (fMul 0x3F000000 a)))

/-- max(x, 0), with +0 for a negative input (R185). -/
def fRelu (a : Nat) : Nat :=
  match f32.decode a with
  | .nan => qNaN
  | _ => if fSign a then 0 else a

/-! ## CB12 blocks (R177 to R179) -/

/-- Element value of a mantissa under an exponent. -/
def cbValue (m : Int) (e : Nat) : Dy := ⟨m, (e : Int) - 26⟩

/-- The mantissa of a value under an exponent. -/
def cbMant (x : Dy) (e : Nat) : Int := x.quantize ((e : Int) - 26)

/-- The least exponent under which every value fits, none when no exponent does. -/
def cbExponent (xs : List Dy) : Option Nat :=
  (List.range 32).find? fun e => xs.all fun x => decide ((cbMant x e).natAbs ≤ 2047)

/-- A block of values: its exponent, its mantissas, how many saturated (Table 9-4). -/
def cbBlock (xs : List Dy) : Nat × List Int × Nat :=
  match cbExponent xs with
  | some e => (e, xs.map fun x => cbMant x e, 0)
  | none =>
    let ms := xs.map fun x => cbMant x 31
    (31, ms.map (clampI (-2047) 2047), (ms.filter fun m => decide (2047 < m.natAbs)).length)

/-- FP16 on entry to the MAC array: a NaN is 0, an infinity ±65,504, each counted (R179). -/
def macEntry (x : Num) : Dy × Nat :=
  match x with
  | .nan => (.zero, 1)
  | .inf neg => (.ofInt (if neg then -65504 else 65504), 1)
  | .fin x => (x, 0)

/-- Cut a list into pieces of `n`. -/
def chunks {α : Type} (n : Nat) : Nat → List α → List (List α)
  | 0, _ => []
  | fuel + 1, xs => if xs.length ≤ n then [xs] else xs.take n :: chunks n fuel (xs.drop n)

/-- Pieces of `n`, the last one shorter, none of an empty list. -/
def chunked {α : Type} (n : Nat) (xs : List α) : List (List α) := if xs.isEmpty then [] else chunks n xs.length xs

/-- A run of FP16 elements as the MAC array takes them, in blocks of 32 of the tensor, and the non-finite ones. -/
def macFp16 (xs : List Num) : List Dy × Nat :=
  let ys := xs.map macEntry
  ((chunked 32 (ys.map (·.1))).flatMap fun b =>
    let c := cbBlock b
    c.2.1.map fun m => cbValue m c.1, (ys.map (·.2)).sum)

/-- The 24-bit words of a block (Table 9-3). -/
def cbBlockBytes (ms : List Int) : Bytes :=
  (List.range 16).flatMap fun j => le 3 (unsigned 12 (ms.getD (2 * j) 0) + unsigned 12 (ms.getD (2 * j + 1) 0) * 4096)

/-- A group of 64 blocks (R178). -/
def cbGroupBytes (bs : List (Nat × List Int)) : Bytes :=
  (List.range 64).map (fun b => BitVec.ofNat 8 ((bs[b]?.map (·.1)).getD 0)) ++
    (List.range 64).flatMap fun b => cbBlockBytes ((bs[b]?.map (·.2)).getD [])

/-- Element `i` of a CB12 tensor (R178). -/
def cbElem (bs : Bytes) (i : Nat) : Dy :=
  let g := i / 2048 * 3136
  let b := i % 2048 / 32
  let k := i % 32
  let e := at_ bs (g + b) 1 % 32
  let w := at_ bs (g + 64 + 48 * b + 3 * (k / 2)) 3
  cbValue (signed 12 (if k % 2 = 0 then w else w / 4096)) e

/-! ## Tensor elements (Table 12-2, R176) -/

/-- Bytes of one element of a dense format other than CB12. -/
def elemBytes (fmt : Nat) : Nat := if fmt = 1 then 1 else if fmt = 2 ∨ fmt = 4 then 2 else 4

/-- Element `i` of a dense tensor. -/
def elemAt (fmt : Nat) (bs : Bytes) (i : Nat) : Num :=
  match fmt with
  | 1 => .fin (.ofInt (signed 8 (at_ bs i 1)))
  | 2 => .fin (.ofInt (signed 16 (at_ bs (2 * i) 2)))
  | 3 => .fin (.ofInt (signed 32 (at_ bs (4 * i) 4)))
  | 4 => f16.decode (at_ bs (2 * i) 2)
  | 5 => f32.decode (at_ bs (4 * i) 4)
  | _ => .fin (cbElem bs i)

/-! Exact arithmetic of decoded elements, with the infinities of IEEE 754 (R243). -/

def Num.neg : Num → Num
  | .nan => .nan
  | .inf n => .inf (!n)
  | .fin x => .fin x.neg

def Num.add : Num → Num → Num
  | .nan, _ | _, .nan => .nan
  | .inf x, .inf y => if x = y then .inf x else .nan
  | .inf x, .fin _ => .inf x
  | .fin _, .inf y => .inf y
  | .fin x, .fin y => .fin (x.add y)

def Num.mul : Num → Num → Num
  | .nan, _ | _, .nan => .nan
  | .inf x, .inf y => .inf (xor x y)
  | .inf x, .fin y | .fin y, .inf x => if y.m = 0 then .nan else .inf (xor x (decide (y.m < 0)))
  | .fin x, .fin y => .fin (x.mul y)

/-- Below; a NaN compares false. -/
def Num.lt : Num → Num → Bool
  | .nan, _ | _, .nan => false
  | .inf x, .inf y => x && !y
  | .inf x, .fin _ => x
  | .fin _, .inf y => !y
  | .fin x, .fin y => x.lt y

def Num.max (x y : Num) : Num := if x = .nan ∨ y = .nan then .nan else if x.lt y then y else x
def Num.min (x y : Num) : Num := if x = .nan ∨ y = .nan then .nan else if y.lt x then y else x

/-- The FP32 encoding of a value that FP32 holds exactly. -/
def Num.toF32 : Num → Nat
  | .nan => qNaN
  | .inf n => fInf n
  | .fin x => f32.ofDy x

/-- The value that rounds into an output: an infinity exceeds every format and saturates; a NaN has no stated output, a free
number stands for it (notes/assumptions/31). -/
def Num.orFree (key : Nat) (x : Num) : Dy :=
  match x with
  | .nan => ⟨Config.nanNumber key, 0⟩
  | .inf neg => ⟨if neg then -1 else 1, 200⟩
  | .fin x => x

/-- Round one value into INT8, INT16, INT32, FP16 or FP32: its bytes, and 1 when it saturated (Table 9-4). Saturation is
judged on the rounded value: DEDUCED, notes/assumptions/12. -/
def roundElem (fmt : Nat) (x : Dy) : Bytes × Nat :=
  let int (n : Nat) (big : Int) : Bytes × Nat :=
    let v := x.quantize 0
    (le n (unsigned (8 * n) (clampI (-big) big v)), if big < v.natAbs then 1 else 0)
  let flt (n : Nat) (f : FFmt) : Bytes × Nat :=
    let a := f.magnitude x.m.natAbs 1 x.e
    let b := min (f.infB - 1) a
    (le n (b + if x.m < 0 ∧ 0 < b then f.signB else 0), if f.infB ≤ a then 1 else 0)
  match fmt with
  | 1 => int 1 127
  | 2 => int 2 32767
  | 3 => int 4 2147483647
  | 4 => flt 2 f16
  | _ => flt 4 f32

/-- A dense tensor from its exact values: its bytes without padding, and how many outputs saturated. -/
def roundTensor (fmt : Nat) (xs : List Dy) : Bytes × Nat :=
  if fmt = 6 then
    let blocks := (chunked 32 xs).map fun b => cbBlock (b ++ List.replicate (32 - b.length) .zero)
    ((chunked 64 blocks).flatMap fun g => cbGroupBytes (g.map fun b => (b.1, b.2.1)), (blocks.map fun b => b.2.2).sum)
  else
    let rs := xs.map (roundElem fmt)
    (rs.flatMap (·.1), (rs.map (·.2)).sum)

/-- The scale m_s × 2^e_s (R182). -/
def scaleOf (m e : Int) : Dy := ⟨m, e⟩

/-! ## Angles: fixed point of 160 fraction bits -/

/-- π × 2^160. -/
def piFix : Int := 4591442807048218921384805199743311128454155024418

/-- x × y of two fixed-point numbers. -/
def fixMul (x y : Int) : Int := x * y / 2 ^ 160

/-- Terms of the series of cos (from 1) or sin (from x) of a fixed-point angle. -/
def trigSeries (x2 : Int) : Nat → Nat → Int → Int
  | 0, _, _ => 0
  | fuel + 1, k, term => term + trigSeries x2 fuel (k + 2) (-(fixMul term x2) / ((k + 1) * (k + 2) : Nat))

/-- cos and sin of a fixed-point angle of at most π/2 in magnitude. -/
def fixCos (x : Int) : Int := trigSeries (fixMul x x) 32 0 (2 ^ 160)
def fixSin (x : Int) : Int := trigSeries (fixMul x x) 32 1 x

/-- cos of an angle of 0 to 90° in 0.005°, times 2^160. -/
def cosHalf (a : Nat) : Int := fixCos (piFix * a / 36000)

/-- Θ of R247: ceil(cos(a × 0.005°) × 2^28). -/
def nmsTheta (a : Nat) : Int :=
  if a = 0 then 2 ^ 28 else if a = 12000 then 2 ^ 27 else if a = 18000 then 0
  else -((-(cosHalf a)) / 2 ^ 132)

/-- cos of an angle in 0.01° (any integer) times 2^160. -/
def cosCdeg (c : Int) : Int :=
  let r := c % 36000
  if r = 9000 ∨ r = 27000 then 0
  else if r ≤ 9000 then fixCos (piFix * r / 18000)
  else if r ≤ 27000 then -(fixCos (piFix * (18000 - r).natAbs / 18000))
  else fixCos (piFix * (36000 - r) / 18000)

def sinCdeg (c : Int) : Int := cosCdeg (c - 9000)

/-- A fixed-point number as FP32, rounded once. -/
def fOfFix (x : Int) : Nat := f32.ofDy ⟨x, -160⟩

/-- Of a pair with y ≥ 0, x > 0: the greatest multiple of 2^-40 degree that does not exceed the angle. -/
def atanQuad (y x : Int) : Nat → Nat → Nat → Nat
  | 0, lo, _ => lo
  | fuel + 1, lo, hi =>
    if hi ≤ lo then lo
    else
      let mid := (lo + hi + 1) / 2
      let h := piFix * mid / (180 * 2 ^ 40)
      if fixMul x (fixSin h) ≤ fixMul y (fixCos h) then atanQuad y x fuel mid hi else atanQuad y x fuel lo (mid - 1)

/-- atan2 of two exact values in degrees, −180 to 180, in 2^-41 degree, odd where it lies between two multiples of 2^-40. -/
def atan2Fix (y x : Dy) : Int :=
  let e := min y.e x.e
  let yi := y.scaleTo e * 2 ^ 160
  let xi := x.scaleTo e * 2 ^ 160
  let q : Int :=
    if xi = 0 then (if yi = 0 then 0 else 90 * 2 ^ 41) else 2 * (atanQuad yi.natAbs xi.natAbs 48 0 (90 * 2 ^ 40) : Nat) + 1
  let a : Int := if 0 ≤ xi then q else 180 * 2 ^ 41 - q
  if 0 ≤ yi then a else -a

/-- atan2 of two values in FP32, in degrees, rounded to 0.01°, 0 to 35,999 (R336, notes/assumptions/31). -/
def atan2Cdeg (y x : Dy) : Nat :=
  (((fDy (f32.ofDy ⟨atan2Fix y x, -41⟩)).mul (.ofInt 100)).quantize 0 % 36000).toNat

end Sys2Proof.Machine
end

