-- ==== Sys2Proof/Machine/ObserverNet.lean ====
section
/-! DEFINITION. Evaluation of an observer network and its calender (17_neural_observers.md). -/

namespace Sys2Proof.Machine

/-! ## Networks (R325 to R327) -/

/-- Layers as pairs of inputs and outputs. -/
def ObsNet.layers (n : ObsNet) : List (Nat × Nat) := (n.nin :: n.hid).zip (n.hid ++ [n.nout])

/-- Bytes of a layer in the blob (R329). -/
def layerBytes (l : Nat × Nat) : Nat := (l.1 * l.2 + 2047) / 2048 * 3136 + 3136

/-- LENGTH of a network's blob. -/
def ObsNet.blobLen (n : ObsNet) : Nat := (n.layers.map layerBytes).sum

/-- Round values into CB12, 32 to a block, and count the saturated ones (R183). -/
def cbRound (xs : List Dy) : List Dy × Nat :=
  let bs := (chunked 32 xs).map cbBlock
  (bs.flatMap fun c => c.2.1.map fun m => cbValue m c.1, (bs.map fun c => c.2.2).sum)

/-- Round values into FP32, and count the saturated ones (R183). -/
def fRound (xs : List Dy) : List Nat × Nat :=
  let rs := xs.map (roundElem 5)
  (rs.map fun r => ofLe r.1, (rs.map (·.2)).sum)

/-- The sums of one layer: bias + Σ weight × input, exact. -/
def layerSums (blob : Bytes) (ni no : Nat) (xs : List Dy) : List Dy :=
  let biasAt := blob.drop ((ni * no + 2047) / 2048 * 3136)
  (List.range no).map fun o =>
    xs.zipIdx.foldl (fun a x => a.add ((cbElem blob (x.2 * no + o)).mul x.1)) (cbElem biasAt o)

/-- A hidden layer: one rounding to CB12 with ReLU, or through FP32 and tanh. -/
def hiddenOut (act : Nat) (ys : List Dy) : List Dy × Nat :=
  if act = 0 then cbRound (ys.map fun y => if y.m < 0 then .zero else y)
  else
    let f := fRound ys
    let c := cbRound (f.1.map fun y => fDy (tanhPwl (fDy y)))
    (c.1, f.2 + c.2)

/-- Run the layers; the last one rounds to FP32. With the outputs, how many values saturated. -/
def runLayers (act : Nat) : List (Nat × Nat) → Bytes → List Dy → List Nat × Nat
  | [], _, xs => fRound xs
  | [l], blob, xs => fRound (layerSums blob l.1 l.2 xs)
  | l :: rest, blob, xs =>
    let h := hiddenOut act (layerSums blob l.1 l.2 xs)
    let r := runLayers act rest (blob.drop (layerBytes l)) h.1
    (r.1, h.2 + r.2)

/-- An input saturated to ±65,504 (R327). -/
def clampInput (w : Nat) : Dy :=
  match f32.decode w with
  | .nan => .zero
  | .inf neg => .ofInt (if neg then -65504 else 65504)
  | .fin x => (Dy.max (.ofInt (-65504)) x).min (.ofInt 65504)

/-- The outputs of a network for its inputs as FP32, and how many of its values saturated. -/
def ObsNet.eval (n : ObsNet) (inputs : List Nat) : Vector Word 4 × Nat :=
  let r := runLayers n.act n.layers n.blob (cbRound (inputs.map clampInput)).1
  (Vector.ofFn fun j : Fin 4 => word (r.1.getD j.val 0), r.2)

/-! ## Inputs (Table 17-2) -/

/-- Floating phase of a sector, forward; the roles of V and W are exchanged by REVERSE. -/
def swapVW (rev : Bool) (p : Phase) : Phase :=
  if rev then (match p with | .u => .u | .v => .w | .w => .v) else p

/-- High and low phase of a sector (Table 16-2), swapped when the command is negative. -/
def sectorPair (rev neg : Bool) (k : Fin 6) : Phase × Phase :=
  let base : Phase × Phase := match k with
    | 0 => (.v, .w) | 1 => (.v, .u) | 2 => (.w, .u) | 3 => (.w, .v) | 4 => (.u, .v) | 5 => (.u, .w)
  let r := (swapVW rev base.1, swapVW rev base.2)
  if neg then (r.2, r.1) else r

/-- The phase that is neither of a pair. -/
def floating (p : Phase × Phase) : Phase :=
  if p.1 ≠ .u ∧ p.2 ≠ .u then .u else if p.1 ≠ .v ∧ p.2 ≠ .v then .v else .w

/-- The command is negative (R308). -/
def Axis.negative (a : Axis) : Bool := if a.cmd.mode = 0 then decide (a.cmd.setpoint < 0) else decide (a.spdCmd < 0)

/-- Injection runs (R309). -/
def Axis.injects (a : Axis) : Bool :=
  a.st == .runHfi || a.st == .couch || (a.st == .stopping && a.sector.isSome && !a.obsSrc)

/-- The signal of an input code at a sample. `fresh`: previous values count as 0. -/
def Axis.signal (a : Axis) (x : AxSample) (c : AxCfg) (top duty : Nat) (ts09 : Int) (response : Word) (n : ObsNet)
    (code : Nat) : Nat :=
  let fresh := a.firstSample || n.fresh
  let pair := a.sector.map (sectorPair c.reverse a.negative)
  match code with
  | 1 => fOfRat (x.iCode.getD 0 0) 32767
  | 2 => fOfRat (x.iCode.getD 1 0) 32767
  | 3 => fOfRat (x.iCode.getD 2 0) 32767
  | 4 => fOfRat (x.vCode.getD 0 0) 16383
  | 5 => fOfRat (x.vCode.getD 1 0) 16383
  | 6 => fOfRat (x.vCode.getD 2 0) 16383
  | 7 => fOfRat x.vdcCode 16383
  | 8 =>
    (match pair with
     | some p => fOfRat (2 * x.vCode.getD (floating p).ix 0 - x.vdcCode) 32766
     | none => 0)
  | 9 => fOfRat (if a.negative then -(duty : Int) else duty) top
  | 10 =>
    (match a.sector with
     | some k => fOfFix (sinCdeg (6000 * (k.val : Int) + 3000))
     | none => Config.sectorSignal 0)
  | 11 =>
    (match a.sector with
     | some k => fOfFix (cosCdeg (6000 * (k.val : Int) + 3000))
     | none => Config.sectorSignal 1)
  | 12 => if a.injects then response.toNat else 0
  | 13 => if fresh then 0 else fOfFix (sinCdeg a.theta)
  | 14 => if fresh then fOfInt 1 else fOfFix (cosCdeg a.theta)
  | 15 => if fresh then 0 else fOfRat a.speed c.spdMax
  | 16 => if fresh then 0 else (n.out.getD 0 0).toNat
  | 17 => if fresh then 0 else (n.out.getD 1 0).toNat
  | 18 => if fresh then 0 else (n.out.getD 2 0).toNat
  | 19 => if fresh then 0 else (n.out.getD 3 0).toNat
  | 20 => fOfRat ts09 1600
  | 21 => fOfInt 1
  | _ => 0

/-! ## The calender (R335) -/

def fMin (a b : Nat) : Nat := if fLt b a then b else a
def fMax (a b : Nat) : Nat := if fLt a b then b else a

/-- One output: the calendered value, and whether it is at a bound: r lies outside LO to HI, or the slew limit changed y. -/
def calender (r p lo hi slew : Nat) (fresh : Bool) : Nat × Bool :=
  let c := fMin (fMax r lo) hi
  let out := fLt r lo || fLt hi r
  if fresh then (c, out)
  else
    let d := fSub c p
    let lim := fMin (fMax d (fNeg slew)) slew
    (fAdd p lim, out || fAdd p lim != fAdd p d)

/-- All the outputs of a network pass the calender. -/
def ObsNet.calendered (n : ObsNet) (raw : Vector Word 4) (fresh : Bool) : ObsNet :=
  let r (j : Fin 4) : Nat × Bool :=
    if j.val < n.nout then
      calender (raw.get j).toNat (n.out.get j).toNat (n.lo.get j).toNat (n.hi.get j).toNat (n.slew.get j).toNat fresh
    else (0, false)
  { n with out := Vector.ofFn fun j => word (r j).1, missRun := 0,
           bound := Vector.ofFn fun j => if (r j).2 then n.bound.get j + 1 else 0 }

/-- Any output of the network is at a bound in the last sample. -/
def ObsNet.bounded (n : ObsNet) : Bool := n.bound.toList.any fun b => b != 0

end Sys2Proof.Machine
end

