-- ==== Sys2Proof/Machine/Axes.lean ====
section
/-! DEFINITION. Motor axes: gates, samples, current loop, states, stops, the safe hold, the couch window
(16_motor_axes.md, 17_neural_observers.md). -/

namespace Sys2Proof.Machine

def State.axis (s : State) (n : Fin 8) : Axis := s.axes.get n
def axTimer (n : Fin 8) : Fin 16 := ⟨n.val, by omega⟩

/-! ## Gates (R303) -/

/-- The output an index drives is to be high under a pattern. Index 2p: high side of phase p; 2p + 1: its low side. -/
def gateWant (pat : Pattern) (pwm : Bool) (i : Fin 6) : Bool :=
  match pat with
  | .off => false
  | .drive hi lo => (i.val == 2 * hi.ix && pwm && hi != lo) || (i.val == 2 * lo.ix + 1 && hi != lo)
  | .short => i.val % 2 == 1

/-- The other output of the leg. -/
def gatePartner (i : Fin 6) : Fin 6 := ⟨if i.val % 2 = 0 then i.val + 1 else i.val - 1, by have := i.isLt; split <;> omega⟩

/-- Tick of the last fall of an output under a pattern. -/
def Gates.fell (g : Gates) (pat : Pattern) (pwm : Bool) (now : Nat) (i : Fin 6) : Nat :=
  if g.level.get i ∧ ¬ gateWant pat pwm i then now else g.lowAt.get i

/-- Tick at which a pattern being driven was taken. -/
def Gates.taken (g : Gates) (pat : Pattern) (now : Nat) : Nat := if g.pattern = pat then g.since else now

/-- Tick from which an output may be high: its partner has been low for the dead time; the low sides of an active short turn on
together, the dead time after the stop has turned the high sides off (Table 16-5). -/
def Gates.freeAt (g : Gates) (pat : Pattern) (pwm : Bool) (dt now : Nat) (i : Fin 6) : Nat :=
  (if pat = .short then max (g.taken pat now) (g.fell pat pwm now (gatePartner i)) else g.fell pat pwm now (gatePartner i)) + dt

/-- An output may be high. -/
def Gates.free (g : Gates) (pat : Pattern) (pwm : Bool) (dt now : Nat) (i : Fin 6) : Bool :=
  let j := gatePartner i
  !(g.level.get j && gateWant pat pwm j) && decide (g.freeAt pat pwm dt now i ≤ now)

/-- Take a pattern: turn-offs act at once, turn-ons after the dead time. -/
def Gates.apply (g : Gates) (pat : Pattern) (pwm : Bool) (dt now : Nat) : Gates :=
  { pattern := pat,
    level := Vector.ofFn fun i => gateWant pat pwm i && (g.level.get i || g.free pat pwm dt now i),
    due := Vector.ofFn fun i =>
      if gateWant pat pwm i ∧ ¬ (g.level.get i || g.free pat pwm dt now i) then
        some (g.freeAt pat pwm dt now i)
      else none,
    lowAt := Vector.ofFn fun i => g.fell pat pwm now i,
    since := g.taken pat now }

/-- Dead time in ticks of 10 ns. -/
def Axis.deadTime (a : Axis) : Nat := match a.cfg with
  | some c => c.dt
  | none => 0

/-- Put a drive pattern on an axis. -/
def State.drivePattern (s : State) (n : Fin 8) (pat : Pattern) : State :=
  let pwm := (s.timers.get (axTimer n)).active? s.d02 0
  s.updAxis n fun a => { a with gates := a.gates.apply pat pwm a.deadTime s.now }

/-- Turn-ons whose dead time is over act; the high side follows channel 0. -/
def State.gatesTick (s : State) : State :=
  forAll s fun s n =>
    if (s.axis n).gates.due.toList.any fun d => d.any fun t => decide (t ≤ s.now) then
      s.drivePattern n (s.axis n).gates.pattern
    else s

/-! ## Changes of state (R310) -/

/-- Report a change of state. -/
def State.axisEvent (s : State) (n : Fin 8) (old new : AxSt) (cause : Nat) : State :=
  s.raiseAll 3 1 n.val (le 1 n.val ++ le 1 old.code ++ le 1 new.code ++ le 1 cause)

/-- Enter a state with a cause. -/
def State.enterAx (s : State) (n : Fin 8) (st : AxSt) (cause : Nat) : State :=
  let old := (s.axis n).st
  let s1 := s.updAxis n fun a =>
    { a with st := st, cause := cause, lossRunning := a.lossRunning && st == .stopping, handover := none, enteredAt := s.now }
  s1.repin.axisEvent n old st cause

/-- No commutation. -/
def State.uncommutate (s : State) (n : Fin 8) : State :=
  s.updAxis n fun a => { a with sector := none, sectorNext := none, stepped := false }

/-- An axis fault (R323). -/
def State.axisFault (s : State) (n : Fin 8) (cause : Nat) : State :=
  if (s.axis n).st = .fault then s
  else
    let s1 := (s.uncommutate n).updAxis n fun a =>
      { a with stop := none, zeroFrom := none, evals := [], cntFault := satInc 65535 a.cntFault }
    (s1.drivePattern n .off).enterAx n .fault cause

/-- An observer fault (R334, Table 17-6). -/
def State.observerFault (s : State) (n : Fin 8) : State :=
  let s1 := s.updAxis n fun a => { a with cntObsFault := satInc 65535 a.cntObsFault }
  match (s.axis n).st with
  | .align | .runHfi | .couch | .runObs => s1.axisFault n 15
  | _ => s1

/-! ## Stops (R311, R312) -/

/-- A stop is taken over the one in progress. Any stop replaces a ramp stop, but a lease loss in the tick of a safe stop
leaves its category standing (Table 16-12). Safe and hardware stops replace command and lease stops; among themselves a
freewheel or an active short gives way only to the other of the two, of the other kind. DEDUCED, notes/assumptions/13. -/
def stopTakes (now : Nat) (cat : StopCat) (kind : StopKind) (old : StopRec) : Bool :=
  let strong (k : StopKind) : Bool := k == .safe || k == .hardware
  if old.cat = .ramp then !(kind == .lease && old.kind == .safe && old.at_ == now)
  else strong kind && (!strong old.kind || (kind != old.kind && cat != old.cat && cat != .ramp))

/-- Drive the gates as a stop says. A ramp stop keeps its position mode and brings the speed command to 0. -/
def State.beginStop (s : State) (n : Fin 8) (cat : StopCat) (kind : StopKind) : State :=
  let s1 := s.updAxis n fun a => { a with stop := some ⟨cat, kind, s.now⟩, lastStop := some cat, cmdNext := none }
  match cat with
  | .ramp =>
    s1.updAxis n fun a =>
      { a with spdCmd := if a.cmd.mode = 1 then a.spdCmd else a.speed * 1000, cmd := { a.cmd with mode := 1, setpoint := 0 } }
  | .freewheel => (s1.uncommutate n).drivePattern n .off
  | .short => (s1.uncommutate n).drivePattern n .short

/-- A stop reaches an axis: the state after it, and whether it was taken. A stop other than AXIS_STOP during the zeroing of
an enable ends the enable (DEDUCED, notes/assumptions/13). -/
def State.axisStop (s : State) (n : Fin 8) (cat : StopCat) (kind : StopKind) (cause : Nat) : State × Bool :=
  let a := s.axis n
  match a.st with
  | .disabled | .stoppedSafe =>
    if a.zeroFrom.isSome then ((s.updAxis n fun a => { a with zeroFrom := none }).repin, true) else (s, true)
  | .fault => (s, false)
  | .stopping =>
    (match a.stop with
     | some old => if stopTakes s.now cat kind old then (s.beginStop n cat kind, true) else (s, false)
     | none => (s.beginStop n cat kind, true))
  | .align | .runHfi | .couch | .runObs | .lost =>
    let s1 := s.updAxis n fun a => { a with obsSrc := a.st == .runObs }
    ((s1.beginStop n cat kind).enterAx n .stopping cause, true)

/-- A category from its code. -/
def stopCat (c : Nat) : StopCat := if c = 0 then .ramp else if c = 1 then .freewheel else .short

/-- The configured stop of an axis (Table 16-11). -/
def State.cfgStop (s : State) (n : Fin 8) : StopCat := stopCat (s.safety.stopCat.get n)

/-- A hardware stop: every axis takes its configured stop, a ramp as freewheel, and is held (R312, Table 5-7). -/
def State.hardwareStop (s : State) : State :=
  forAll s fun s n =>
    let c := s.cfgStop n
    ((s.updAxis n fun a => { a with hold := true }).axisStop n (if c = .ramp then .freewheel else c) .hardware 10).1

/-- EV_SAFE. -/
def State.safeEvent (s : State) (cause mask : Nat) : State :=
  let held := (bankList s.axes).any fun x => x.2.hold
  s.raiseAll 16 0 0 (le 1 cause ++ le 1 (bitAt 0 held) ++ zeros 2 ++ le 4 mask)

/-- A safe stop of the axes of a mask with a category code, 3 for the configured one (R314). It has no effect on an axis that is
DISABLED, be it in the zeroing of an enable (R315). -/
def State.safeStopMask (s : State) (mask cat : Nat) : State :=
  forAll s fun s (n : Fin 8) =>
    let a := s.axis n
    if mask.testBit n.val ∧ a.st ≠ .disabled then
      let c := if cat = 3 then s.cfgStop n else stopCat cat
      ((s.updAxis n fun a => { a with hold := true }).axisStop n c .safe 9).1
    else s

/-- SFP_STOP_N_FALL (R313): the stops act by their own path, within 2 µs. -/
def execSfpStopNFall (s : State) : Host.Outcome State Fault Refusal :=
  .next <|
    if s.net.stopN then
      let s1 := s.updNet fun x => { x with stopN := false }
      if s.boot.step = .held then s1
      else
        let on (x : State) : Nat := ((bankList x.axes).map fun y => (y.2.gates.level.toList.filter id).length).sum
        let s2 := forAll s1 fun s n =>
          ((s.updAxis n fun a => { a with hold := true }).axisStop n (s.cfgStop n) .safe 9).1
        let off := (bankList s1.axes).any fun x =>
          (List.finRange 6).any fun i => x.2.gates.level.get i && !(s2.axis x.1).gates.level.get i
        let s3 : State := { s2 with safety := { s2.safety with
          falls := satInc 65535 s2.safety.falls,
          stopResp := if off then min 2000 (Config.stopResponse (s.now + on s1)) else s2.safety.stopResp } }
        s3.safeEvent 1 0xFF
    else s

/-- SFP_STOP_N_RISE (R314): the holds stand. -/
def execSfpStopNRise (s : State) : Host.Outcome State Fault Refusal :=
  .next <|
    if s.net.stopN then s
    else
      let s1 := s.updNet fun x => { x with stopN := true }
      if s.boot.step = .held then s1 else s1.safeEvent 2 0xFF

/-! ## Sensing (R306, R307) -/

/-- A channel's code with its trim (AX_GAIN_TRIMc). -/
def trimmed (raw trim : Int) : Int := rne (raw * (2 ^ 19 + trim)) (2 ^ 19)

/-- Scale a sample. -/
def Axis.convert (a : Axis) (v : ValleySample) (t : Time96) : AxSample :=
  let iFs : Int := match a.cfg with
    | some c => c.iFs
    | none => 0
  let vFs : Int := match a.cfg with
    | some c => c.vFs
    | none => 0
  let raws : Vector Int 3 := #v[v.iu.toInt, v.iv.toInt, v.iw.toInt]
  let volts : Vector Int 3 := #v[(v.vu.toNat : Int), (v.vv.toNat : Int), (v.vw.toNat : Int)]
  let ic := Vector.ofFn fun p : Fin 3 => trimmed (raws.get p - a.zero.get p) (a.trim.get ⟨p.val, by omega⟩)
  let vc := Vector.ofFn fun p : Fin 3 => trimmed (volts.get p) (a.trim.get ⟨p.val + 3, by omega⟩)
  let dc := trimmed v.vdc.toNat (a.trim.get 6)
  { iCode := ic, vCode := vc, vdcCode := dc,
    iMa := ic.map fun c => rne (c * iFs * 10) 32767,
    vMv := vc.map fun c => (rne (c * vFs * 10) 16383).toNat,
    vdcMv := (rne (dc * vFs * 10) 16383).toNat,
    thetaHfi := v.thetaHfi.toNat % 36000, time := t }

/-- Every current and every line voltage of a sample is below 2 % (R317). -/
def AxSample.quiet (x : AxSample) : Bool :=
  x.iCode.toList.all (fun c => decide (c.natAbs * 50 < 32767)) &&
    (List.finRange 3).all fun p => (List.finRange 3).all fun q =>
      decide ((x.vCode.get p - x.vCode.get q).natAbs * 50 < 16383)

/-- A phase current lies beyond AX_ITRIP (R323). -/
def AxSample.over (x : AxSample) (pct : Nat) : Bool :=
  x.iCode.toList.any fun c => decide (pct * 32767 < c.natAbs * 100)

/-- The motor has been still for 20 ms. -/
def Axis.still (a : Axis) (now : Nat) : Bool :=
  match a.stillFrom with
  | some t => decide (t + 20 * msTicks ≤ now)
  | none => false

/-- The gates short the motor: AX_ITRIP does not trip. -/
def Axis.shorting (a : Axis) : Bool := a.gates.pattern == .short

/-- The DC link is above MAX, or has been below MIN for 100 µs. -/
def Axis.vdcOut (a : Axis) (now : Nat) : Bool :=
  (a.vdcMax != 0xFFFF && decide (a.vdcMax * 10 < a.sample.vdcMv)) ||
    (match a.vdcLowFrom with
     | some t => decide (t + 100 * usTicks ≤ now)
     | none => false)

/-! ## The position in use (R308, R336) -/

/-- Angle after one period at a speed of 0.1 Hz, in 0.01°. -/
def advance (theta : Nat) (speed : Int) (pwmHz : Nat) : Nat :=
  (((theta : Int) + rne (speed * 3600) (max 1 pwmHz)) % 36000).toNat

/-- The sector of θ + speed × 360° ÷ PWM_HZ, from θ in 0.01° and the speed in 0.1 Hz, exactly (R336). -/
def nextSector (theta : Nat) (speed : Dy) (pwmHz : Nat) : Fin 6 :=
  let x := (Dy.ofInt (theta * pwmHz : Nat)).add (speed.mul (.ofInt 3600))
  Fin.ofNat 6 ((x.m * 2 ^ x.e.toNat) / (6000 * max 1 pwmHz * 2 ^ (-x.e).toNat : Nat) % 6).toNat

/-- Difference of two angles, wrapped into −180.00° to +179.99°. -/
def angleDiff (a b : Nat) : Int := ((a : Int) - b + 18000) % 36000 - 18000

/-- The configuration in force; before any, no loop runs. -/
def Axis.c (a : Axis) : AxCfg := a.cfg.getD
  { pwmHz := 8000, dt := 0, reverse := false, lostAction := 1, iFs := 1, vFs := 100, iMax := 1, alignI := 1, alignMs := 1,
    hfiHz := 250, hfiAmp := 1, couchLo := 1, couchHi := 2, spdMax := 2, agreeDeg := 1, agreeN := 1, accel := 1, decel := 1,
    residMax := 1, satHoldUs := 10, rampMs := 1, curKp := 0, curKi := 0, spdKp := 0, spdKi := 0 }

/-- CLAMPED as shown: after a refusal, and on a configured axis without a POSITION network (R309, R339). -/
def Axis.isClamped (a : Axis) : Bool := a.clamped || (a.cfg.isSome && (a.loaded 0).isNone)

/-- floor(0.95 × SPD_COUCH_LO). -/
def AxCfg.clampSpd (c : AxCfg) : Nat := c.couchLo * 95 / 100

/-- The axis commutates in these states. -/
def Axis.commutates (a : Axis) : Bool :=
  a.st == .runHfi || a.st == .couch || a.st == .runObs || (a.st == .stopping && a.sector.isSome)

/-- Take an angle and a speed as those in use, with the next valley's sector (R336). -/
def Axis.take (a : Axis) (h : Handover) : Axis :=
  { a with theta := h.theta, speed := h.speed, sectorNext := if a.commutates then some h.sector else none }

/-! ## The loops (R305, notes/assumptions/14) -/

/-- Speed command one period later, in 0.1 Hz ÷ 1,000: at ACCEL toward its set point (R318), at DECEL in a ramp stop (Table 16-5)
and down to the clamp (R339's worked example). -/
def Axis.ramped (a : Axis) : Int :=
  let c := a.c
  let lim : Int := if a.isClamped then c.clampSpd else c.spdMax
  let target := if a.st = .stopping then 0 else clampI (-lim) lim a.cmd.setpoint * 1000
  let slow := a.st = .stopping ∨ lim * 1000 < a.spdCmd.natAbs
  let step : Int := (if slow then c.decel else c.accel) * 1000000 / c.pwmHz
  if a.spdCmd < target then min target (a.spdCmd + step) else max target (a.spdCmd - step)

/-- Current reference in 2^-32 of 10 mA, and the speed integral. -/
def Axis.current (a : Axis) : Int × Int :=
  let c := a.c
  let sgn : Int := if a.negative then -1 else 1
  let lim : Int := (a.cmd.iLimit : Int) * 2 ^ 32
  if a.st = .align then ((c.alignI : Int) * 2 ^ 32, a.spdInt)
  else if a.cmd.mode = 0 then
    let spd := min a.cmd.spdLimit (if a.isClamped then c.clampSpd else c.spdMax)
    (if (spd : Int) ≤ sgn * a.speed then 0 else min lim ((a.cmd.setpoint.natAbs : Int) * 2 ^ 32), a.spdInt)
  else
    let e := sgn * (a.spdCmd - a.speed * 1000)
    let den := 1000 * c.spdMax
    let i := clampI 0 lim (a.spdInt + rne (c.spdKi * e * c.iFs * 2 ^ 32) (65536 * den))
    (clampI 0 lim (i + rne (c.spdKp * e * c.iFs * 2 ^ 32) (4096 * den)), i)

/-- The pair being driven. -/
def Axis.pair (a : Axis) : Option (Phase × Phase) :=
  match a.gates.pattern with
  | .drive hi lo => some (hi, lo)
  | _ => none

/-- One period of the loops: the axis and its next CMP0. -/
def Axis.loop (a : Axis) (top : Nat) : Axis × Nat :=
  let c := a.c
  match a.pair with
  | none => (a, 0)
  | some (hi, _) =>
    let a1 := { a with spdCmd := if a.cmd.mode = 1 ∧ a.commutates then a.ramped else a.spdCmd }
    let r := a1.current
    let e := rne (r.1 * 32767) c.iFs - a.sample.iCode.getD hi.ix 0 * 2 ^ 32
    let one : Int := 2 ^ 32
    let i := clampI 0 one (a.curInt + rne (c.curKi * e) (65536 * 32767))
    let d := clampI 0 one (i + rne (c.curKp * e) (4096 * 32767))
    let inj : Int := if a1.injects then (if a.injSign then -(c.hfiAmp * 2 ^ 20 : Int) else (c.hfiAmp * 2 ^ 20 : Int)) else 0
    let cmp := (rne (clampI 0 one (d + inj) * top) (2 ^ 32)).toNat
    ({ a1 with spdInt := r.2, curInt := i }, cmp)

/-- Run the loop after a sample and write the CMP0 preload. -/
def State.runLoop (s : State) (n : Fin 8) : State :=
  if (s.axis n).pair.isSome then
    let t := s.timers.get (axTimer n)
    let r := (s.axis n).loop t.preload.top
    (s.updAxis n fun _ => r.1).updTimer (axTimer n) fun t =>
      { t with preload := { t.preload with cmp := bankSet t.preload.cmp 0 r.2 } }
  else s

/-! ## The couch window and loss of synchronism (R316, R338 to R340) -/

/-- Enter RUN_HFI; from the observer, seed the injection estimator. -/
def State.toHfi (s : State) (n : Fin 8) (cause : Nat) : State :=
  (s.updAxis n fun a => { a with seed := if a.st = .runObs then some a.thetaObs else a.seed, obsSrc := false }).enterAx
    n .runHfi cause

/-- A refused hand-over (R339): CLAMPED, EV_HANDOVER and the count. The axis enters RUN_HFI; where the refusal comes of a loss of
synchronism in the sample that would commit, it stays in COUCH (Table 16-12), its AGREE_CNT at 0: DESIGN CHOICE,
notes/assumptions/27. -/
def State.refuse (s : State) (n : Fin 8) (stay : Bool) : State :=
  let s1 := s.updAxis n fun a =>
    { a with clamped := true, cntRefused := satInc 65535 a.cntRefused, agree := if stay then 0 else a.agree }
  let a := s1.axis n
  (if stay then s1 else s1.toHfi n 5).raiseAll 5 1 n.val
    (le 1 n.val ++ zeros 3 ++ le 4 (unsigned 32 a.lastD) ++ le 4 (unsigned 32 a.speed))

/-- The hand-over commits (R338). -/
def State.commitCouch (s : State) (n : Fin 8) (h : Handover) : State :=
  (s.updAxis n fun a => { a with obsSrc := true }.take h).enterAx n .runObs 4

/-- A network whose evaluation of the present sample is outstanding reaches MISS_N if it misses. -/
def State.faultMayCome (s : State) (n : Fin 8) : Bool :=
  decide (720 ≤ s.vcoreMv) && (s.axis n).evals.any fun e =>
    match (s.axis n).nets.get e.kind with
    | some net => decide ((s.axis n).missN ≤ net.missRun + 1)
    | none => false

/-- A hand-over that waited for the other networks of its sample commits once none of them can reach MISS_N in it: there the
observer fault wins (Table 17-6). -/
def State.settleHandover (s : State) (n : Fin 8) : State :=
  match (s.axis n).handover with
  | some h => if s.faultMayCome n then s else s.commitCouch n h
  | none => s

/-- Loss of synchronism in RUN_OBS (R316). -/
def State.loseSync (s : State) (n : Fin 8) (crit : Nat) (value : Int) : State :=
  let act := (s.axis n).c.lostAction
  let s1 := (s.uncommutate n).updAxis n fun a => { a with cntLost := satInc 65535 a.cntLost }
  let s2 := (s1.drivePattern n (if act = 2 then .short else .off)).enterAx n .lost 6
  s2.raiseAll 4 1 n.val (le 1 n.val ++ le 1 crit ++ le 1 act ++ zeros 1 ++ le 4 (unsigned 32 value))

/-- Microseconds a count of samples lasts (R335). -/
def boundUs (c : AxCfg) (k : Nat) : Nat := k * 1000000 / max 1 c.pwmHz

/-- The first criterion of R316 that holds, with the value that crossed. -/
def lossCriterion (c : AxCfg) (net : ObsNet) (moved : Int) (first : Bool) (speed : Int) (fast : Bool) (resid : Nat) :
    Option (Nat × Int) :=
  let held := (net.bound.toList.foldl max 0)
  if ¬ first ∧ c.spdMax * 4500 < moved.natAbs * c.pwmHz then some (1, moved)
  else if fast then some (2, speed)
  else if c.residMax < resid then some (3, resid)
  else if c.satHoldUs * c.pwmHz < held * 1000000 then some (4, boundUs c held)
  else none

/-- What follows a POSITION output, new or repeated (R316, R336 to R340). -/
def State.position (s : State) (n : Fin 8) (missed first : Bool) : State :=
  let a := s.axis n
  match a.nets.get 0 with
  | none => s
  | some net =>
    let c := a.c
    let o (j : Nat) : Dy := fDy (net.out.getD j 0).toNat
    let exact := (o 2).mul (.ofInt c.spdMax)
    let speed := exact.quantize 0
    let weak := (((o 0).mul (o 0)).add ((o 1).mul (o 1))).lt ⟨1, -20⟩
    let theta := if missed then advance a.thetaObs speed c.pwmHz else if weak then a.thetaObs else atan2Cdeg (o 0) (o 1)
    let resid := min 0x7FFFFFFF (((o 3).mul (.ofInt 65536)).quantize 0).natAbs
    let fast := Dy.lt ⟨5, -2⟩ (o 2) || (o 2).lt ⟨-5, -2⟩
    let crit := lossCriterion c net (angleDiff theta a.thetaObs) first speed fast resid
    let s1 := s.updAxis n fun a => { a with thetaObs := theta, residual := resid }
    let use : Handover := ⟨theta, speed, nextSector theta exact c.pwmHz⟩
    match a.st with
    | .runObs =>
      (match crit with
       | some (k, v) => s1.loseSync n k v
       | none =>
         let s2 := s1.updAxis n fun a => a.take use
         if speed.natAbs < c.couchLo then s2.toHfi n 3 else s2)
    | .couch =>
      let d := angleDiff theta a.theta
      let s2 := s1.updAxis n fun a =>
        if a.stepped then
          { a with lastD := d, stepped := false, agree := if d.natAbs ≤ c.agreeDeg then a.agree + 1 else 0 }
        else a
      let agreed := decide (c.agreeN ≤ (s2.axis n).agree)
      if crit.isSome then s2.refuse n agreed
      else if agreed then (s2.updAxis n fun a => { a with handover := some use }).settleHandover n
      else if c.couchHi ≤ a.speed.natAbs then s2.refuse n false
      else s2
    | .stopping => if a.obsSrc then s1.updAxis n fun a => a.take use else s1
    | _ => s1

/-! ## Observer evaluations (R331 to R335) -/

/-- Count a sample with an output at a bound, once. -/
def Axis.countSat (a : Axis) (bounded : Bool) : Axis :=
  if bounded ∧ ¬ a.satSeen then { a with satSeen := true, cntSat := satInc 65535 a.cntSat } else a

/-- Outputs 0 and 1 of POSITION count as at a bound when the vector is too short (R336). -/
def ObsNet.weakBounds (net : ObsNet) (old : Vector Nat 4) : ObsNet :=
  let o (j : Nat) : Dy := fDy (net.out.getD j 0).toNat
  if (((o 0).mul (o 0)).add ((o 1).mul (o 1))).lt ⟨1, -20⟩ then
    { net with bound := Vector.ofFn fun j : Fin 4 => if j.val < 2 then old.get j + 1 else net.bound.get j }
  else net

/-- The outputs of an evaluation pass the calender; its saturated values are counted (R183, R327). -/
def State.calenderOut (s : State) (n : Fin 8) (e : Eval) : State :=
  let a := s.axis n
  match a.nets.get e.kind with
  | none => s
  | some net =>
    let m := net.calendered e.outs e.fresh
    let net1 := if e.kind = 0 then m.weakBounds net.bound else m
    let ns := (s.now - e.valleyAt) * 10
    let s1 := (s.updCores fun c => { c with cntSat := satAdd 65535 c.cntSat e.sat }).updAxis n fun a =>
      { a with nets := bankSet a.nets e.kind (some net1), evals := a.evals.filter (fun x => x.kind != e.kind),
               latLast := min 65535 ns, latMax := max a.latMax (min 65535 ns) }.countSat net1.bounded
    (if e.kind = 0 then s1.position n false e.fresh else s1).settleHandover n

/-- A missed evaluation of a network (R333, R334), of its first sample or not. Where the state stands through an observer fault
(Table 17-6), the angle is still advanced. -/
def State.missEval (s : State) (n : Fin 8) (k : Fin 3) (first : Bool) : State :=
  match (s.axis n).nets.get k with
  | none => s.updAxis n fun a => { a with evals := a.evals.filter fun x => x.kind != k }
  | some net =>
    let counts := decide (720 ≤ s.vcoreMv)
    let run := if counts then net.missRun + 1 else net.missRun
    let fails := counts && decide ((s.axis n).missN ≤ run)
    let s1 := s.updAxis n fun a =>
      { a with nets := bankSet a.nets k (some { net with missRun := if fails then 0 else run }),
               evals := a.evals.filter (fun x => x.kind != k), cntMiss := satInc 65535 a.cntMiss }
    let s2 := if fails then s1.observerFault n else s1
    (if k = 0 ∧ (s2.axis n).st ≠ .fault then s2.position n true first else s2).settleHandover n

/-- The evaluation a core has in hand: in order of arrival of the samples, the lower axis first (R331). -/
def State.evalFirst (s : State) (c : Fin 32) : Option (Fin 8 × Eval) :=
  (axesOf c).foldl (fun b n =>
    match b, (s.axis n).evals.head? with
    | some x, some e => if e.valleyAt < x.2.valleyAt then some (n, e) else b
    | none, some e => some (n, e)
    | _, none => b) none

/-! ## What AXIS_STATUS shows (R319) -/

/-- An FP32 estimate times a factor, or 0x8000_0000 without a network (Table 16-9). -/
def Axis.estimate (a : Axis) (k : Fin 3) (factor : Nat) : Nat :=
  match a.nets.get k with
  | some net => unsigned 32 (sat ((fDy (net.out.get 0).toNat).mul (.ofInt factor)))
  | none => 0x80000000
where sat (x : Dy) : Int := clampI (-(2 ^ 31)) (2 ^ 31 - 1) (x.quantize 0)

/-- The present values of the fields of AXIS_STATUS. -/
def State.statusOf (s : State) (n : Fin 8) : AxStatus :=
  let a := s.axis n
  let t := s.timers.get (axTimer n)
  { st := a.st,
    stop := match a.stop, a.lastStop with
      | some r, _ => r.cat.code
      | none, some c => c.code
      | none, none => 0xFF,
    flags := bitAt 0 a.st.enabled + bitAt 1 a.hold + bitAt 2 a.flt + bitAt 3 a.isClamped + bitAt 4 a.realign
      + bitAt 5 (s.pinned n),
    sector := match a.sector with
      | some k => k.val
      | none => 0xFF,
    theta := a.theta, speed := a.speed, sample := a.sample, thetaObs := a.thetaObs, temp := a.estimate 1 16,
    load := a.estimate 2 (a.c.iFs * 10), residual := a.residual, setpoint := a.cmd.setpoint, mode := a.cmd.mode,
    duty := min 65535 (rne (t.active.cmp.get 0 * 65536 : Nat) t.top).toNat, comm := a.commSince,
    held := match a.nets.get 0 with
      | some net => boundUs a.c (net.bound.toList.foldl max 0)
      | none => 0 }

/-- A valley sample is the last one from now on. -/
def State.noteStatus (s : State) (n : Fin 8) : State :=
  s.updAxis n fun a => { a with statusPrev := a.status, status := s.statusOf n, statusAt := s.now }

/-- A value follows a change, else it stands. -/
def followed {α : Type} [DecidableEq α] (x before after : α) : α := if before = after then x else after

/-- What an observer's outputs change joins the sample they belong to. -/
def AxStatus.follow (x before after : AxStatus) : AxStatus :=
  { x with st := followed x.st before.st after.st, flags := followed x.flags before.flags after.flags,
           sector := followed x.sector before.sector after.sector, theta := followed x.theta before.theta after.theta,
           speed := followed x.speed before.speed after.speed, thetaObs := after.thetaObs, temp := after.temp,
           load := after.load, residual := after.residual, held := after.held }

/-- The state after a sample's observer outputs, with the status of the sample following `before`. -/
def State.noteOutputs (after before : State) (n : Fin 8) : State :=
  after.updAxis n fun a => { a with status := a.status.follow (before.statusOf n) (after.statusOf n) }

/-- CALENDER_OUTPUT: of the evaluation its core has in hand, within 1,600 ns of the valley; a halted core gives none (R54). -/
def execCalenderOutput (axis : Fin 8) (kind : Fin 3) (s : State) : Host.Outcome State Fault Refusal :=
  .next <|
    match s.evalFirst (coreOf axis) with
    | some (n, e) =>
      if n = axis ∧ e.kind = kind ∧ s.now ≤ e.valleyAt + 160 ∧ ¬ s.fabric.dbgHalt.get (coreOf axis) then
        (s.calenderOut axis e).noteOutputs s axis
      else s
    | none => s

/-- OBSERVER_DEADLINE_MISS: due 1,600 ns after the valley. -/
def execObserverDeadlineMiss (axis : Fin 8) (kind : Fin 3) (s : State) : Host.Outcome State Fault Refusal :=
  .next <|
    match (s.axis axis).evals.find? fun e => e.kind == kind with
    | some e => if e.valleyAt + 160 ≤ s.now then (s.missEval axis kind e.fresh).noteOutputs s axis else s
    | none => s

/-- Change the networks of a kind, that in use and that to come. -/
def Axis.updNet (a : Axis) (k : Fin 3) (f : ObsNet → ObsNet) : Axis :=
  { a with nets := bankUpd a.nets k (Option.map f), netsNew := bankUpd a.netsNew k (Option.map f) }

/-- WEIGHT_RESTORE_DONE (R343): the core-store copy is sound again. -/
def execWeightRestoreDone (axis : Fin 8) (kind : Fin 3) (s : State) : Host.Outcome State Fault Refusal :=
  .next <|
    match (s.axis axis).loaded kind with
    | some net =>
      if net.coreOk ∨ s.underTest 2 ∨ s.underTest 3 then s
      else s.updAxis axis fun a =>
        { a.updNet kind fun y => { y with coreOk := true } with cntRestore := satInc 65535 a.cntRestore }
    | none => s

/-- Networks in the order a core evaluates them: POSITION, LOAD, TEMPERATURE (R331). -/
def evalOrder : List (Fin 3) := [0, 2, 1]

/-- Junction temperature TS09, 1/16 °C. -/
def State.ts09 (s : State) : Int := (s.thermal.sensors.get 9).temp.toInt

/-- Start the evaluations of a sample (R331); a network whose core-store copy is unsound misses (R343). -/
def State.startEvals (s : State) (n : Fin 8) (v : ValleySample) : State :=
  let a := s.axis n
  let t := s.timers.get (axTimer n)
  let at_ := s.now - (s.d02 - t.valleyAt) / 4
  if a.st.enabled ∧ s.pinned n then
    let es := evalOrder.filterMap fun k =>
      match a.nets.get k with
      | some net =>
        if net.coreOk then
          let r := net.eval (net.inmap.map (a.signal a.sample a.c t.top (min (t.active.cmp.get 0) t.top) s.ts09 v.response net))
          some ⟨k, r.1, r.2, net.fresh, at_⟩
        else none
      | none => none
    let bad := evalOrder.filterMap fun k =>
      match a.nets.get k with
      | some net => if net.coreOk then none else some (k, net.fresh)
      | none => none
    let s1 := s.updAxis n fun a =>
      { a with evals := es, satSeen := false, firstSample := false,
               nets := a.nets.map fun x => x.map fun y => { y with fresh := false } }
    bad.foldl (fun s k => s.missEval n k.1 k.2) s1
  else s.updAxis n fun a => { a with evals := [], satSeen := false }

/-! ## Rows of the axes -/

/-- Evaluations of an earlier sample that never left the calender have missed. -/
def State.settleEvals (s : State) (n : Fin 8) : State :=
  ((s.axis n).evals.foldl (fun s e => s.missEval n e.kind e.fresh) s).noteOutputs s n

/-- The networks loaded since the last valley sample come into use (R330); AGREE_CNT restarts with a POSITION network. -/
def Axis.takeNets (a : Axis) : Axis :=
  { a with nets := Vector.ofFn fun k => a.loaded k, netsNew := Vector.replicate 3 none,
           agree := if (a.netsNew.get 0).isSome then 0 else a.agree }

/-- What a sample of HFI decides (R309, R310, R338). -/
def State.hfiStep (s : State) (n : Fin 8) (speedHfi : Int) : State :=
  let a := s.axis n
  let c := a.c
  let s1 := if a.obsSrc then s else s.updAxis n fun a =>
    a.take ⟨a.sample.thetaHfi, speedHfi, nextSector a.sample.thetaHfi (.ofInt speedHfi) a.c.pwmHz⟩
  match a.st with
  | .runHfi =>
    let s2 := s1.updAxis n fun a => { a with seed := none }
    if c.couchLo ≤ speedHfi.natAbs ∧ ¬ a.isClamped ∧ 720 ≤ s.vcoreMv then
      (s2.updAxis n fun a => { a with agree := 0, stepped := false }).enterAx n .couch 3
    else s2
  | .couch => if speedHfi.natAbs < c.couchLo then s1.toHfi n 3 else s1
  | .stopping => if a.sector.isSome then s1 else s
  | _ => s

/-- AXIS_VALLEY_SAMPLE (R306). Each sample beyond AX_ITRIP is counted, also those of an active short (Table 16-12). -/
def execAxisValleySample (axis : Fin 8) (v : ValleySample) (s : State) : Host.Outcome State Fault Refusal :=
  .next <| if ¬ (s.timers.get (axTimer axis)).run then s else
    let s0 := (s.settleEvals axis).updAxis axis Axis.takeNets
    let a := s0.axis axis
    let x := a.convert v s.devTime
    let high := x.over a.itrip
    let low := a.vdcMin != 0 && decide (x.vdcMv < a.vdcMin * 10)
    let s1 := s0.updAxis axis fun a =>
      { a with sample := x, overcur := high,
               stillFrom := if x.quiet then some (a.stillFrom.getD s.now) else none,
               vdcLowFrom := if low then some (a.vdcLowFrom.getD s.now) else none,
               cntOver := if high ∧ a.st ≠ .fault then satInc 65535 a.cntOver else a.cntOver }
    (if high ∧ ¬ a.shorting then s1.axisFault axis 13
      else if a.st.enabled ∧ (s1.axis axis).vdcOut s.now then s1.axisFault axis 14
      else ((s1.startEvals axis v).hfiStep axis v.speedHfi.toInt).runLoop axis).noteStatus axis

/-- The mean of 256 samples of a current channel, to the nearest code (R307). -/
def zeroOf (xs : Vector (BitVec 16) 256) : Int := rne ((xs.toList.map BitVec.toInt).sum) 256

/-- AXIS_ZERO_DONE (R307): 1 ms after the enable, with the 256 samples of each current channel. -/
def execAxisZeroDone (axis : Fin 8) (samples : Vector (Vector (BitVec 16) 256) 3) (s : State) : Host.Outcome State Fault Refusal :=
  .next <|
    match (s.axis axis).zeroFrom with
    | some t =>
      if t + msTicks ≤ s.now then
        let s1 := s.updAxis axis fun a =>
          { a with zeroFrom := none, zero := samples.map zeroOf }
        if (s.axis axis).still s.now then
          let rev := (s.axis axis).c.reverse
          let s2 := s1.updAxis axis fun a => { a with alignFrom := s.now }
          (s2.drivePattern axis (.drive .u (swapVW rev .v))).enterAx axis .align 1
        else s1.enterAx axis .stoppedSafe 16
      else s
    | none => s

/-- ALIGN_DONE (R309): θ is 0. -/
def execAlignDone (axis : Fin 8) (s : State) : Host.Outcome State Fault Refusal :=
  .next <|
    let a := s.axis axis
    if a.st = .align ∧ a.alignFrom + a.c.alignMs * msTicks ≤ s.now then
      (s.updAxis axis fun a => { a with obsSrc := false, theta := 0, sectorNext := some 0, sector := none }).enterAx
        axis .runHfi 2
    else s

/-- A safe stop of this tick may have yet to act. -/
def State.safeStopComes (s : State) : Bool := s.commandsWait || s.behind fun c => c == .sfpStopNFall || c == .sfpLinkLoss

/-- MOTOR_STILL (R317). Where it would align again it gives way to a safe stop of its tick (Table 16-12). -/
def execMotorStill (axis : Fin 8) (s : State) : Host.Outcome State Fault Refusal :=
  .next <|
    let a := s.axis axis
    if a.still s.now ∧ a.st = .lost ∧ a.realign ∧ s.safeStopComes then s.putOff (.motorStill axis)
    else if a.still s.now then
      match a.st with
      | .stopping =>
        let short := a.gates.pattern == .short
        let s1 := (s.uncommutate axis).updAxis axis fun a => { a with stop := none, evals := [] }
        (if short then s1 else s1.drivePattern axis .off).enterAx axis .stoppedSafe 7
      | .lost =>
        if a.realign then
          let s1 := s.updAxis axis fun a => { a with alignFrom := s.now, curInt := 0, spdInt := 0, spdCmd := 0 }
          (s1.drivePattern axis (.drive .u (swapVW a.c.reverse .v))).enterAx axis .align 7
        else
          let short := a.gates.pattern == .short
          (if short then s else s.drivePattern axis .off).enterAx axis .stoppedSafe 7
      | _ => s
    else s

/-- RAMP_TIMEOUT (R311). -/
def execRampTimeout (axis : Fin 8) (s : State) : Host.Outcome State Fault Refusal :=
  .next <|
    let a := s.axis axis
    match a.stop with
    | some r =>
      if a.st = .stopping ∧ r.cat = .ramp ∧ r.at_ + a.c.rampMs * msTicks ≤ s.now then
        let s1 := (s.uncommutate axis).updAxis axis fun a =>
          { a with stop := some ⟨.freewheel, r.kind, s.now⟩, lastStop := some .freewheel }
        (s1.drivePattern axis .off).enterAx axis .stopping 17
      else s
    | none => s

/-- AXIS_FLT (R304): also the capture input of the axis timer, by a row of its own. -/
def execAxisFlt (axis : Fin 8) (s : State) : Host.Outcome State Fault Refusal :=
  .next <|
    let s1 := s.updAxis axis fun a => { a with flt := true }
    if s.boot.step = .held then s1 else s1.axisFault axis 12

/-- AXIS_FLT_RELEASE (R323). -/
def execAxisFltRelease (axis : Fin 8) (s : State) : Host.Outcome State Fault Refusal :=
  .next (s.updAxis axis fun a => { a with flt := false })

/-! ## Timer rows that reach the axes (R305, R308) -/

/-- The pattern a commutating axis drives. -/
def Axis.pattern (a : Axis) : Pattern :=
  match a.sector with
  | some k => let p := sectorPair a.c.reverse a.negative k; .drive p.1 p.2
  | none => a.gates.pattern

/-- A valley of an axis timer: a stored command, the new sector and the injection's sign act. -/
def State.axisValley (s : State) (n : Fin 8) : State :=
  let a := s.axis n
  let run := a.st == .runHfi || a.st == .couch || a.st == .runObs
  let s1 := s.updAxis n fun a =>
    let a1 := if run then { a with cmd := a.cmdNext.getD a.cmd, cmdNext := none } else a
    let step := a1.commutates || (a1.st == .runHfi)
    let a2 := if step ∧ a1.sectorNext.isSome then
        let moved := a1.sector.isSome && a1.sector != a1.sectorNext
        { a1 with sector := a1.sectorNext, stepped := moved,
                  commSince := if moved then a1.commSince + 1 else a1.commSince,
                  cntComm := if moved then satInc 0xFFFFFFFF a1.cntComm else a1.cntComm }
      else { a1 with stepped := false }
    let acc := a2.injAcc + 20 * a2.c.hfiHz
    if a2.injects then
      (if a2.c.pwmHz ≤ acc then { a2 with injAcc := acc - a2.c.pwmHz, injSign := !a2.injSign } else { a2 with injAcc := acc })
    else a2
  s1.drivePattern n (if (s1.axis n).commutates then (s1.axis n).pattern else (s1.axis n).gates.pattern)

/-- An ILLUM_VALLEY of this tick has yet to act. -/
def State.dimRowComes (s : State) : Bool :=
  s.behind fun c =>
    match c with
    | .illumValley _ => true
    | _ => false

/-- TIMER_VALLEY (R291, R292): due once the period is over. The valley of TIM08 ends a scan, with VSTR as last measured unless
an ILLUM_VALLEY of the tick brings it. -/
def execTimerValley (timer : Fin 16) (s : State) : Host.Outcome State Fault Refusal :=
  .next <|
    if timer = 8 ∧ s.switchWaits then s.putOff (.timerValley timer)
    else if (s.timers.get timer).due s.d02 then
      let s1 := s.gtEdges (s.timerValley timer)
      if h : timer.val < 8 then s1.axisValley ⟨timer.val, h⟩
      else if timer = 8 ∧ ¬ s.dimRowComes then s1.dimValley s1.illum.stage.vstr
      else s1
    else s

/-- TIMER_COMPARE_MATCH (R292): the level of a channel, and the gate or the ball it drives. -/
def execTimerCompareMatch (timer : Fin 16) (channel : Fin 4) (s : State) : Host.Outcome State Fault Refusal :=
  .next <|
    let s1 := s.gtEdges (s.updTimer timer fun t => t.refresh s.d02)
    if h : timer.val < 8 then
      (if channel = 0 then s1.drivePattern ⟨timer.val, h⟩ (s.axis ⟨timer.val, h⟩).gates.pattern else s1)
    else s1

/-! ## Commands (R314, R315, R318, R319) -/

/-- The parameters of AXIS_CONFIG. -/
def axCfgOf (p : AxisCfgP) : AxCfg :=
  { pwmHz := p.pwmHz.toNat, dt := p.dt.toNat, reverse := p.reverse, lostAction := p.lostAction.toNat,
    iFs := p.iFs.toNat, vFs := p.vFs.toNat, iMax := p.iMax.toNat, alignI := p.alignI.toNat, alignMs := p.alignMs.toNat,
    hfiHz := p.hfiHz.toNat, hfiAmp := p.hfiAmp.toNat, couchLo := p.couchLo.toNat, couchHi := p.couchHi.toNat,
    spdMax := p.spdMax.toNat, agreeDeg := p.agreeDeg.toNat, agreeN := p.agreeN.toNat, accel := p.accel.toNat,
    decel := p.decel.toNat, residMax := p.residMax.toNat, satHoldUs := p.satHoldUs.toNat, rampMs := p.rampMs.toNat,
    curKp := p.curKp.toInt, curKi := p.curKi.toInt, spdKp := p.spdKp.toInt, spdKi := p.spdKi.toInt }

def between (lo x hi : Nat) : Bool := decide (lo ≤ x) && decide (x ≤ hi)

/-- Ranges of Table 16-7. -/
def AxCfg.ok (c : AxCfg) : Bool :=
  between 8000 c.pwmHz 100000 && decide (20 * c.hfiHz ≤ c.pwmHz) && between 1 c.lostAction 2 && decide (1 ≤ c.iFs)
    && between 100 c.vFs 10000 && between 1 c.iMax c.iFs && between 1 c.alignI c.iMax && between 1 c.alignMs 5000
    && between 250 c.hfiHz 2000 && between 1 c.hfiAmp 1024 && decide (1 ≤ c.couchLo) && decide (c.couchLo < c.couchHi)
    && decide (c.couchHi ≤ c.spdMax) && between 1 c.spdMax 50000 && between 1 c.agreeDeg 3000 && decide (1 ≤ c.agreeN)
    && between 1 c.accel 1000000 && between 1 c.decel 1000000 && between 1 c.residMax 0x7FFFFFFF && decide (10 ≤ c.satHoldUs)
    && between 1 c.rampMs 60000

/-- TOP of a PWM frequency (R305). -/
def pwmTop (hz : Nat) : Nat := (rne 200000000 (max 1 hz)).toNat

/-- The axis of a command. -/
def axisOf (h : Hdr) : Fin 8 := Fin.ofNat 8 h.idx.toNat

/-- AXIS_CONFIG. -/
def doAxisConfig (t : Ticket) (p : AxisCfgP) (s : State) : State :=
  let n := axisOf t.hdr
  let a := s.axis n
  if ¬ (axCfgOf p).ok then s.reply t eParam []
  else if a.st = .disabled ∨ a.st = .stoppedSafe then
    let s1 := s.updAxis n fun a => { a with cfg := some (axCfgOf p), clamped := false }
    (s1.updTimer (axTimer n) fun t =>
      { t with mode := bankSet t.mode 0 1, pol := bankSet t.pol 0 false }.writePreload s.d02 fun x =>
        { x with pre := 0, top := pwmTop p.pwmHz.toNat }).reply t stOk []
  else s.reply t eState []

/-- The condition of an axis's fault is gone (R323). -/
def Axis.faultGone (a : Axis) (now : Nat) : Bool :=
  !a.flt && (a.cause != 13 || !a.overcur) && (a.cause != 14 || !a.vdcOut now)

/-- AXIS_ENABLE. -/
def doAxisEnable (t : Ticket) (en : Byte) (realign : Bool) (s : State) : State :=
  let n := axisOf t.hdr
  let a := s.axis n
  if 1 < en.toNat then s.reply t eParam []
  else if (s.test.axis.get n).running then s.reply t eBusy []
  else if en = 1 then
    if a.hold then s.reply t eSafeHeld []
    else if ¬ (a.st = .disabled ∨ a.st = .stoppedSafe) ∨ a.cfg.isNone then s.reply t eState []
    else if a.netted ∧ s.pinStatus n ≠ stOk then s.reply t (s.pinStatus n) []
    else
      let s1 := s.updAxis n fun a =>
        { a with zeroFrom := some s.now, realign := realign, lastStop := none, clamped := false, commSince := 0,
                 cmd := ⟨0, 0, 1, 1⟩, cmdNext := none, spdCmd := 0, curInt := 0, spdInt := 0, injAcc := 0, injSign := false,
                 firstSample := true, agree := 0, obsSrc := false, seed := none,
                 nets := a.nets.map fun x => x.map fun y =>
                   { y with fresh := true, missRun := 0, bound := Vector.replicate 4 0 } }
      (s1.drivePattern n .off).repin.reply t stOk []
  else
    match a.st with
    | .disabled => s.reply t stOk []
    | .stoppedSafe =>
      (((s.updAxis n fun a => { a with zeroFrom := none }).drivePattern n .off).enterAx n .disabled 1).reply t stOk []
    | .fault =>
      if a.faultGone s.now then (s.enterAx n .disabled 1).reply t stOk [] else s.reply t eState []
    | _ => s.reply t eState []

/-- The fields of an AXIS_COMMAND lie in the ranges of Table 16-8; before an AXIS_CONFIG no limit of the axis is known. -/
def axisCommandFits (p : AxisCmdP) (cfg : Option AxCfg) : Bool :=
  decide (p.mode.toNat ≤ 1) && decide (1 ≤ p.iLimit.toNat) && decide (1 ≤ p.spdLimit.toNat) &&
    match cfg with
    | none => true
    | some c =>
      decide (p.setpoint.toInt.natAbs ≤ (if p.mode = 0 then c.iMax else c.spdMax)) && decide (p.iLimit.toNat ≤ c.iMax)
        && decide (p.spdLimit.toNat ≤ c.spdMax)

/-- AXIS_COMMAND: the ranges (step 12 of Table 6-3), then the safe hold (Table 5-7), then the state. -/
def doAxisCommand (t : Ticket) (p : AxisCmdP) (s : State) : State :=
  let n := axisOf t.hdr
  let a := s.axis n
  if ¬ axisCommandFits p a.cfg then s.reply t eParam []
  else if a.hold then s.reply t eSafeHeld []
  else if ¬ a.st.enabled ∨ a.st = .stopping ∨ a.st = .lost then s.reply t eState []
  else
    (s.updAxis n fun a =>
      { a with cmdNext := some ⟨p.mode.toNat, p.setpoint.toInt, p.iLimit.toNat, p.spdLimit.toNat⟩ }).reply t stOk []

/-- AXIS_STOP: an axis in DISABLED or STOPPED_SAFE is left as it is, its zeroing too (R318). -/
def doAxisStop (t : Ticket) (cat : Byte) (s : State) : State :=
  let n := axisOf t.hdr
  if 2 < cat.toNat then s.reply t eParam []
  else if (s.axis n).st = .disabled ∨ (s.axis n).st = .stoppedSafe then s.reply t stOk []
  else
    let r := s.axisStop n (stopCat cat.toNat) .command 8
    if r.2 then r.1.reply t stOk [] else s.reply t eState []

/-- The AXIS_STATUS reply (Table 16-9). -/
def AxStatus.bytes (x : AxStatus) : Bytes :=
  le 1 x.st.code ++ le 1 x.stop ++ le 1 x.flags ++ le 1 x.sector ++ le 4 x.theta ++ le 4 (unsigned 32 x.speed)
    ++ x.sample.iMa.toList.flatMap (fun i => le 4 (unsigned 32 i)) ++ le 4 x.sample.vdcMv
    ++ x.sample.vMv.toList.flatMap (le 4) ++ le 4 x.sample.thetaHfi ++ le 4 x.thetaObs
    ++ le 4 (unsigned 32 (angleDiff x.thetaObs x.sample.thetaHfi)) ++ le 4 x.temp ++ le 4 x.load ++ le 4 x.residual
    ++ le 4 (unsigned 32 x.setpoint) ++ le 1 x.mode ++ zeros 1 ++ le 2 x.duty ++ le 4 x.comm ++ le 4 x.held
    ++ time96Bytes x.sample.time ++ zeros 36

/-- What AXIS_STATUS shows: the last valley sample before this tick (R319). -/
def State.axisStatus (s : State) (n : Fin 8) : AxStatus :=
  if (s.axis n).statusAt = s.now then (s.axis n).statusPrev else (s.axis n).status

/-- AXIS_STATUS. -/
def doAxisStatus (t : Ticket) (s : State) : State := s.reply t stOk (s.axisStatus (axisOf t.hdr)).bytes

/-- SAFE_STOP (R314, R315). -/
def doSafeStop (t : Ticket) (mask cat : Byte) (s : State) : State :=
  if 3 < cat.toNat then s.reply t eParam []
  else
    let s1 := s.safeStopMask mask.toNat cat.toNat
    let s2 : State := { s1 with safety := { s1.safety with safeStops := satInc 65535 s1.safety.safeStops } }
    (s2.safeEvent 3 mask.toNat).reply t stOk []

/-- SAFE_RELEASE (Table 5-7): not while SFP_STOP_N is low or a thermal or clock stop is latched, nor in the tick of an SFP
link loss (Table 5-9). -/
def doSafeRelease (t : Ticket) (mask : Byte) (s : State) : State :=
  if ¬ s.net.stopN ∨ s.safety.thermal ∨ s.safety.clock ∨ s.net.sfpLossAt = some s.now then s.reply t eSafeHeld []
  else
    let s1 := forAll s fun s (n : Fin 8) =>
      if mask.toNat.testBit n.val then s.updAxis n fun a => { a with hold := false } else s
    let s2 : State := { s1 with safety := { s1.safety with sfpLoss := false } }
    (s2.safeEvent 4 mask.toNat).reply t stOk []

/-- SAFE_STATUS fields: HOLD, STOPPED and the flags (Table 16-6). -/
def State.holdMask (s : State) : Nat := maskOf 8 fun i => (s.axis (Fin.ofNat 8 i)).hold
def State.stoppedMask (s : State) : Nat := maskOf 8 fun i => (s.axis (Fin.ofNat 8 i)).st == .stoppedSafe
def State.safeFlags (s : State) : Nat :=
  bitAt 0 s.net.stopN + bitAt 1 s.safety.thermal + bitAt 2 s.safety.clock + bitAt 3 s.safety.sfpLoss

/-- SAFE_STATUS. -/
def doSafeStatus (t : Ticket) (s : State) : State :=
  s.reply t stOk (le 1 s.holdMask ++ le 1 s.stoppedMask ++ le 1 s.safeFlags ++ zeros 1 ++ le 2 s.safety.falls
    ++ le 2 s.safety.safeStops ++ le 2 s.safety.stopResp ++ zeros 6)

/-! ## Core faults on a PINNED core (R343, R345) -/

/-- A fault on a PINNED core: the evaluation it has in hand misses; at FAULT_MAX its axes take an observer fault. -/
def State.pinnedCoreFault (s : State) (c : Fin 32) : State :=
  let s1 := s.updCore c fun x => { x with faults := satInc 255 x.faults }
  let s2 : State := match s1.evalFirst c with
    | some (n, e) => (s1.missEval n e.kind e.fresh).noteOutputs s1 n
    | none => s1
  if s.cores.faultMax ≤ (s2.core1 c).faults ∧ ¬ (s2.core1 c).barred then
    let s3 := s2.updCore c fun x => { x with barred := true }
    (axesOf c).foldl (fun s n => if (s.axis n).st.enabled then s.observerFault n else s) s3
  else s2

/-- The core store of an axis's PINNED core holds sound weights of a network. -/
def State.weightsOn (s : State) (n : Fin 8) (k : Fin 3) : Bool :=
  (s.core1 (coreOf n)).st == .pinned &&
    match (s.axis n).loaded k with
    | some y => y.coreOk
    | none => false

/-- An uncorrectable error in the core-store weights of a network (R343). -/
def State.weightError (s : State) (n : Fin 8) (k : Fin 3) : State :=
  s.updAxis n fun a => a.updNet k fun y => { y with coreOk := false }

/-! ## Lease end (Table 5-5) -/

/-- The loss action of an AXIS lease and its code. -/
def State.axisLoss (s : State) (n : Fin 8) : State × Nat :=
  let c := s.leases.lossAction.get n
  let s1 := (s.axisStop n (stopCat c) .lease 11).1
  (s1.updAxis n fun a => { a with lossRunning := a.st == .stopping }, c)

/-! ## Registers (R320, R321, R341) -/

/-- A word of the AXES block. -/
def axesRead (s : State) (off : Nat) : Nat :=
  if h : off < 0x8000 then
    let a := s.axis ⟨off / 0x1000, by omega⟩
    let o := off % 0x1000
    if o = 0 then
      a.st.code + bitAt 4 a.st.enabled + bitAt 5 a.hold + bitAt 6 a.flt + bitAt 7 a.isClamped + a.cause * 256
    else if 0x010 ≤ o ∧ o < 0x02C then unsigned 16 (a.trim.getD ((o - 0x010) / 4) 0)
    else if 0x030 ≤ o ∧ o < 0x03C then unsigned 16 (a.zero.getD ((o - 0x030) / 4) 0)
    else if o = 0x040 then a.itrip
    else if o = 0x044 then a.vdcMin + a.vdcMax * 65536
    else if o = 0x050 then a.cntComm
    else if o = 0x054 then a.cntLost + a.cntFault * 65536
    else if o = 0x058 then a.cntOver + a.cntRefused * 65536
    else 0
  else 0

/-- Status of a write of a word of the AXES block. -/
def axesCheck (s : State) (off v : Nat) : Nat :=
  if h : off < 0x8000 then
    let a := s.axis ⟨off / 0x1000, by omega⟩
    let o := off % 0x1000
    let set := (0x010 ≤ o ∧ o < 0x02C) ∨ o = 0x040 ∨ o = 0x044
    if o = 0x040 ∧ ¬ between 50 (v % 128) 100 then eParam
    else if set ∧ ¬ (a.st = .disabled ∨ a.st = .stoppedSafe) then eState
    else stOk
  else stOk

/-- Write a word of the AXES block. -/
def axesWrite (s : State) (off v : Nat) : State :=
  if h : off < 0x8000 then
    let n : Fin 8 := ⟨off / 0x1000, by omega⟩
    let o := off % 0x1000
    if 0x010 ≤ o ∧ o < 0x02C then
      s.updAxis n fun a => { a with trim := bankSet a.trim (Fin.ofNat 7 ((o - 0x010) / 4)) (signed 16 v) }
    else if o = 0x040 then s.updAxis n fun a => { a with itrip := v % 128 }
    else if o = 0x044 then s.updAxis n fun a => { a with vdcMin := v % 65536, vdcMax := bits 31 16 v }
    else if o = 0x05C ∧ v.testBit 0 then
      s.updAxis n fun a => { a with cntComm := 0, cntLost := 0, cntFault := 0, cntOver := 0, cntRefused := 0 }
    else s
  else s

/-- A word of the SAFETY block. -/
def safetyRead (s : State) (off : Nat) : Nat :=
  if off < 0x020 then s.safety.stopCat.getD (off / 4) 0
  else if off = 0x020 then s.holdMask + s.stoppedMask * 256 + s.safeFlags * 65536
  else if off = 0x024 then s.safety.falls + s.safety.safeStops * 65536
  else if off = 0x028 then s.safety.stopResp
  else 0

def safetyCheck (off v : Nat) : Bool := !(decide (off < 0x020) && v % 4 == 3)

def safetyWrite (s : State) (off v : Nat) : State :=
  if off < 0x020 then
    { s with safety := { s.safety with stopCat := bankSet s.safety.stopCat (Fin.ofNat 8 (off / 4)) (v % 4) } }
  else if off = 0x02C ∧ v.testBit 0 then { s with safety := { s.safety with falls := 0, safeStops := 0, stopResp := 0 } }
  else s

/-- A word of the OBSERVERS block. -/
def obsRead (s : State) (off : Nat) : Nat :=
  if h : off < 0x8000 then
    let n : Fin 8 := ⟨off / 0x1000, by omega⟩
    let a := s.axis n
    let o := off % 0x1000
    if o = 0 then
      maskOf 3 (fun k => (a.loaded (Fin.ofNat 3 k)).isSome) + bitAt 3 (a.st.enabled && s.pinned n) + a.agree % 256 * 256
    else if o = 0x004 then a.missN
    else if o = 0x008 then unsigned 32 a.lastD
    else if 0x010 ≤ o ∧ o < 0x01C then
      (match a.loaded (Fin.ofNat 3 ((o - 0x010) / 4)) with
       | some x => x.nin + x.nout * 32 + x.hid.length * 256 + x.act * 1024
       | none => 0)
    else if o = 0x020 then a.latLast + a.latMax * 65536
    else if o = 0x024 then a.cntMiss + a.cntRestore * 65536
    else if o = 0x028 then a.cntSat + a.cntObsFault * 65536
    else if 0x100 ≤ o ∧ o < 0x130 then
      (match a.nets.getD ((o - 0x100) / 0x10) none with
       | some x => (x.out.getD (o % 0x10 / 4) 0).toNat
       | none => 0)
    else 0
  else 0

def obsCheck (off v : Nat) : Bool := !(off % 0x1000 == 0x004 && v % 16 == 0)

def obsWrite (s : State) (off v : Nat) : State :=
  if h : off < 0x8000 then
    let n : Fin 8 := ⟨off / 0x1000, by omega⟩
    let o := off % 0x1000
    if o = 0x004 then s.updAxis n fun a => { a with missN := v % 16 }
    else if o = 0x02C ∧ v.testBit 0 then
      s.updAxis n fun a => { a with cntMiss := 0, cntRestore := 0, cntSat := 0, cntObsFault := 0, latMax := 0 }
    else s
  else s

end Sys2Proof.Machine
end

