-- ==== Sys2Proof/Machine/Memory.lean ====
section
/-! DEFINITION. Stores, regions, protection by domain, and the memory commands (08_memory_and_keys.md). -/

namespace Sys2Proof.Machine

/-! ## The canonical byte store -/

/-- Form of a byte store: addresses strictly rising, no zero byte listed. -/
def Mem.wf : Mem → Bool
  | [] => true
  | [c] => c.2 != 0
  | c :: d :: rest => c.2 != 0 && decide (c.1 < d.1) && Mem.wf (d :: rest)

/-- The byte at an address; an unlisted one is zero. -/
def Mem.get : Mem → Nat → Byte
  | [], _ => 0
  | c :: rest, a => if c.1 = a then c.2 else Mem.get rest a

/-- Put a byte at an address, keeping the form: a zero is not listed. -/
def Mem.put : Mem → Nat → Byte → Mem
  | [], a, b => if b = 0 then [] else [(a, b)]
  | c :: rest, a, b =>
    if a < c.1 then (if b = 0 then c :: rest else (a, b) :: c :: rest)
    else if a = c.1 then (if b = 0 then rest else (a, b) :: rest)
    else c :: Mem.put rest a b

/-- Put bytes at rising addresses. -/
def Mem.putAll : Mem → Nat → Bytes → Mem
  | m, _, [] => m
  | m, a, b :: bs => Mem.putAll (m.put a b) (a + 1) bs

/-- `n` bytes from an address. -/
def Mem.slice (m : Mem) (a n : Nat) : Bytes := (List.range n).map fun i => m.get (a + i)

/-! ## Stores and granules (Table 8-1, R154) -/

def Store.granule : Store → Nat
  | .hbm => 2 ^ 20
  | .vat => 2 ^ 16

/-- Granules that owners and broke share. -/
def Store.total : Store → Nat
  | .hbm => 29696
  | .vat => 768

def MemState.store (m : MemState) : Store → StoreState
  | .hbm => m.hbm
  | .vat => m.vat

def MemState.updStore (m : MemState) (p : Store) (f : StoreState → StoreState) : MemState :=
  match p with
  | .hbm => { m with hbm := f m.hbm }
  | .vat => { m with vat := f m.vat }

/-- Granules of a store that regions hold. -/
def State.regionGranules (s : State) (p : Store) : List Nat :=
  (s.mem.regions.filter fun r => r.place == p).flatMap (·.granules)

/-- Granules of a store that attempts hold as broke. -/
def State.brokeGranules (s : State) (p : Store) : List Nat :=
  ((bankList s.jobs.tags).flatMap fun x =>
    match x.2 with
    | some j => if j.brokeKey.isSome then (if p = .hbm then j.brokeHbm else j.brokeVat) else []
    | none => []) ++ s.jobs.stopping.flatMap fun a => if p = .hbm then a.brokeHbm else a.brokeVat

/-- Granules in use. -/
def State.usedGranules (s : State) (p : Store) : List Nat := s.regionGranules p ++ s.brokeGranules p

/-- Free granules, by count. -/
def State.freeCount (s : State) (p : Store) : Nat := p.total - (s.usedGranules p).length

/-- Free granules. -/
def State.freeGranules (s : State) (p : Store) : List Nat :=
  let used := s.usedGranules p
  (List.range p.total).filter fun g => !used.contains g

/-- Take `n` entries of a list in an order the manual leaves open (R154). -/
def pickSome : Nat → Nat → List Nat → List Nat
  | 0, _, _ => []
  | _ + 1, _, [] => []
  | n + 1, k, x :: xs =>
    let i := Config.place k % (xs.length + 1)
    let g := (x :: xs).getD i x
    g :: pickSome n (k + 1) ((x :: xs).erase g)

/-! ## Lines (R158, R159, R163, R165) -/

/-- What is known of a line. -/
def StoreState.info (x : StoreState) (line : Nat) : Option LineInfo := x.lines.find? fun i => i.line == line

/-- Note a line as written. -/
def StoreState.noteLine (x : StoreState) (i : LineInfo) : StoreState :=
  { x with lines := (x.lines.filter fun y => decide (y.line < i.line)) ++ i :: x.lines.filter fun y => decide (i.line < y.line) }

/-- An attempt that used the line's granule as broke since the write wrote the line too (R163). -/
def StoreState.brokeSince (x : StoreState) (p : Store) (i : LineInfo) : Bool :=
  x.broke.any fun u =>
    u.granule == i.line * 64 / p.granule && decide (i.at_ < u.at_) && Config.brokeWrote u.key i.line

/-- The line still holds what the domain with this key wrote. -/
def StoreState.mine (x : StoreState) (p : Store) (key line : Nat) : Bool :=
  match x.info line with
  | some i => i.key == key && !x.brokeSince p i
  | none => false

/-- Cause of a failing read of a line by a domain, 0 when it can be read: 1 HBM uncorrectable, 2 tag mismatch, 3 vat
uncorrectable (Table 8-4). -/
def MemState.lineCause (m : MemState) (p : Store) (key line : Nat) : Nat :=
  let x := m.store p
  let bad := match x.info line with
    | some i => i.bad
    | none => 0
  match p with
  | .hbm => if bad = 1 then 1 else if bad = 2 then 2 else if x.mine p key line then 0 else 2
  | .vat => if bad = 1 then 3 else 0

/-! What a store holds of a line (R158, R159). The model keeps the plaintext with the key set it was written under; the
ciphertext, the tag and the masked data follow from the two. That two key sets never give one tag is taken for granted:
DEDUCED, notes/assumptions/36. -/

/-- A key set of Table 8-2. -/
structure KeySet where
  xts1    : Bytes
  xts2    : Bytes
  tagKey  : Bytes
  maskKey : Bytes
  deriving DecidableEq, Repr

/-- Key set `n`. -/
def keySet (n : Nat) : KeySet :=
  let b := fit 112 (Config.keyBytes n)
  ⟨slice b 0 32, slice b 32 32, slice b 64 32, slice b 96 16⟩

/-- The ciphertext of an HBM line: AES-256-XTS with the line address as tweak. -/
def hbmCipher (key line : Nat) (plain : Bytes) : Bytes :=
  fit 64 (Config.aesXts (keySet key).xts1 (keySet key).xts2 (le 16 line) plain)

/-- The 64-bit tag of an HBM line, over line address, domain number and ciphertext. -/
def hbmTag (key domain line : Nat) (cipher : Bytes) : Bytes :=
  fit 8 (Config.cmac256 (keySet key).tagKey (le 8 line ++ le 1 domain ++ cipher))

/-- The keystream of a vat or core-store line: four AES-128 blocks. -/
def keystream (key line : Nat) : Bytes :=
  (List.range 4).flatMap fun i => fit 16 (Config.aes128 (keySet key).maskKey (le 8 line ++ zeros 7 ++ le 1 i))

/-- Masking, and unmasking. -/
def masked (key line : Nat) (bs : Bytes) : Bytes := List.zipWith (· ^^^ ·) bs (keystream key line)

/-- The SECDED check bits over the masked words of a line. -/
def checkBits (held : Bytes) : Bytes := (List.range 8).map fun i => Config.secded (slice held (8 * i) 8)

/-- The key set under which an attempt's broke wrote a line since what is known of it. -/
def StoreState.brokeKey (x : StoreState) (p : Store) (line : Nat) : Option Nat :=
  let since (u : BrokeUse) : Bool := match x.info line with
    | some i => decide (i.at_ < u.at_)
    | none => true
  ((x.broke.filter fun u => u.granule == line * 64 / p.granule && since u && Config.brokeWrote u.key line).getLast?).map (·.key)

/-- The masked bytes a vat line holds. -/
def MemState.vatHeld (m : MemState) (line : Nat) : Bytes :=
  match m.vat.brokeKey .vat line, m.vat.info line with
  | some k, _ => fit 64 (Config.leftover k line)
  | none, some i => masked i.key line (m.vat.cells.slice (line * 64) 64)
  | none, none => fit 64 (Config.leftover 0 line)

/-- Number of the domain a key set serves: 0 SELF, the owner's ID otherwise. -/
def MemState.domain (m : MemState) (key : Nat) : Nat :=
  (((List.finRange 4).find? fun p => m.domKeys.get p == key && key != 0).map Port.id).getD 0

/-- What the stacks hold of an HBM line that a domain has written: ciphertext, tag bits [31:0] in the carve-out, tag bits
[63:32] in the metadata bits. -/
def MemState.hbmHeld (m : MemState) (line : Nat) : Option (Bytes × Bytes × Bytes) :=
  match m.hbm.brokeKey .hbm line, m.hbm.info line with
  | none, some i =>
    let c := hbmCipher i.key line (m.hbm.cells.slice (line * 64) 64)
    let t := hbmTag i.key (m.domain i.key) line c
    some (c, t.take 4, t.drop 4)
  | _, _ => none

/-- The 64 bytes of a line as a domain reads them: its own plaintext; a vat line that is not its own unmasks, under the
reader's key, whatever it holds (R165). An HBM line that is not its own is never read so: its tag fails. -/
def MemState.lineBytes (m : MemState) (p : Store) (key line : Nat) : Bytes :=
  if (m.store p).mine p key line then (m.store p).cells.slice (line * 64) 64 else masked key line (m.vatHeld line)

/-- Write a whole line under a key. -/
def MemState.putLine (m : MemState) (p : Store) (key line : Nat) (bs : Bytes) : MemState :=
  { m.updStore p fun x => { x with cells := x.cells.putAll (line * 64) (fit 64 bs) }.noteLine ⟨line, key, m.order, 0⟩
    with order := m.order + 1 }

/-! ## Regions (R154 to R157, R140) -/

/-- BOOT_COUNT[7:0] as the top byte of handles (R140). -/
def State.handle (s : State) (n : Nat) : Nat := s.otp.bootCount % 256 * 2 ^ 24 + n

/-- The region a handle names, when it is the sender's. -/
def State.region (s : State) (p : Port) (h : Nat) : Option Region :=
  s.mem.regions.find? fun r => r.handle == h && r.port == p

/-- Physical line of a line index of a region. -/
def Region.line (r : Region) (i : Nat) : Nat :=
  let per := r.place.granule / 64
  r.granules.getD (i / per) 0 * per + i % per

/-- A range lies in a region. -/
def Region.covers (r : Region) (off len : Nat) : Bool := decide (off + len ≤ r.size)

/-- Line indices a range touches, rising. -/
def linesOf (off len : Nat) : List Nat :=
  if len = 0 then [] else (List.range ((off + len - 1) / 64 - off / 64 + 1)).map fun i => off / 64 + i

/-- The first line of a list that fails for a domain, and its cause. -/
def State.firstBad (s : State) (r : Region) (key : Nat) (lines : List Nat) : Option (Nat × Nat) :=
  lines.findSome? fun i =>
    let c := s.mem.lineCause r.place key (r.line i)
    if c = 0 then none else some (i, c)

/-- Record a failing line (R173). -/
def State.noteFault (s : State) (cause owner job region line : Nat) : State :=
  s.updMem fun m =>
    { m with fltCause := cause, fltOwner := owner, fltJob := job, fltRegion := region, fltLine := line,
             cntHbmUe := if cause = 1 then satInc 65535 m.cntHbmUe else m.cntHbmUe,
             cntInteg := if cause = 2 then satInc 65535 m.cntInteg else m.cntInteg,
             cntVatUe := if cause = 3 then satInc 65535 m.cntVatUe else m.cntVatUe,
             cntCoreUe := if cause = 4 then satInc 65535 m.cntCoreUe else m.cntCoreUe }

/-- Bytes of a range as a domain reads them, every line sound. -/
def State.rangeBytes (s : State) (r : Region) (key off len : Nat) : Bytes :=
  slice ((linesOf off len).flatMap fun i => s.mem.lineBytes r.place key (r.line i)) (off % 64) len

/-- Key of an owner's domain. -/
def State.domKey (s : State) (p : Port) : Nat := s.mem.domKeys.get p

/-- Read a range for an owner: a status, the state with a failing line noted, the bytes. -/
def State.readRange (s : State) (p : Port) (h off len : Nat) : Nat × State × Bytes :=
  match s.region p h with
  | none => (eRegion, s, [])
  | some r =>
    if ¬ r.covers off len then (eRegion, s, [])
    else
      match s.firstBad r (s.domKey p) (linesOf off len) with
      | some (i, c) => (eIntegrity, s.noteFault c p.id 0xFF h i, [])
      | none => (stOk, s, s.rangeBytes r (s.domKey p) off len)

/-- Write bytes over a range under a key, line by line; partly covered lines keep the rest as read. -/
def State.writeRange (s : State) (r : Region) (key off : Nat) (bs : Bytes) : State :=
  (linesOf off bs.length).foldl (fun s i =>
    let old := s.mem.lineBytes r.place key (r.line i)
    let lo := max off (i * 64)
    let hi := min (off + bs.length) (i * 64 + 64)
    let new := old.take (lo - i * 64) ++ slice bs (lo - off) (hi - lo) ++ old.drop (hi - i * 64)
    s.updMem fun m => m.putLine r.place key (r.line i) new) s

/-- Lines that a range covers only in part. -/
def partialLines (off len : Nat) : List Nat :=
  (linesOf off len).filter fun i => decide (i * 64 < off) || decide (off + len < i * 64 + 64)

/-- A job not yet ended binds a region. -/
def State.boundBy (s : State) (h : Nat) (out : Bool) : Bool :=
  (bankList s.jobs.tags).any fun x =>
    match x.2 with
    | some j => !j.st.ended && j.binds.any fun b => b.kind != 2 && b.target == h && (!out || b.kind == 1)
    | none => false

/-! ## Commands (R140, R141, R154 to R157, R165, R166) -/

/-- Granted bytes of an owner's regions (R155). -/
def State.granted (s : State) (p : Port) : Nat := ((s.mem.regions.filter fun r => r.port == p).map (·.size)).sum

/-- MEM_ALLOC. -/
def doMemAlloc (t : Ticket) (size : BitVec 64) (place : Byte) (s : State) : State :=
  let p := t.hdr.port
  if size = 0 ∨ 1 < place.toNat then s.reply t eParam []
  else
    let st : Store := if place = 0 then .hbm else .vat
    let n := (size.toNat + st.granule - 1) / st.granule
    if (s.owner p).quotaMib * 2 ^ 20 < s.granted p + n * st.granule then s.reply t eQuota []
    else if 4096 ≤ s.mem.regions.length ∨ 2 ^ 24 ≤ s.mem.nextHandle ∨ s.freeCount st < n then s.reply t eNoMemory []
    else
      let h := s.handle s.mem.nextHandle
      let gs := pickSome n s.mem.order (s.freeGranules st)
      (s.updMem fun m =>
        { m with regions := m.regions ++ [⟨h, p, st, n * st.granule, gs⟩], nextHandle := m.nextHandle + 1,
                 order := m.order + n }).reply t stOk (le 4 h ++ zeros 4 ++ le 8 (n * st.granule))

/-- MEM_FREE. -/
def doMemFree (t : Ticket) (region : Word) (s : State) : State :=
  match s.region t.hdr.port region.toNat with
  | none => s.reply t eRegion []
  | some r =>
    if s.boundBy r.handle false then s.reply t eBusy []
    else (s.updMem fun m => { m with regions := m.regions.filter fun x => x.handle != r.handle }).reply t stOk []

/-- Write bytes for a command: the region unbound, partly covered lines read first (R166). -/
def State.storeCmd (s : State) (t : Ticket) (h off : Nat) (bs : Bytes) : State :=
  let p := t.hdr.port
  match s.region p h with
  | none => s.reply t eRegion []
  | some r =>
    if ¬ r.covers off bs.length then s.reply t eRegion []
    else if s.boundBy h false then s.reply t eBusy []
    else
      match s.firstBad r (s.domKey p) (partialLines off bs.length) with
      | some (i, c) => (s.noteFault c p.id 0xFF h i).reply t eIntegrity []
      | none => (s.writeRange r (s.domKey p) off bs).reply t stOk []

/-- MEM_WRITE. -/
def doMemWrite (t : Ticket) (region : Word) (offset : BitVec 64) (data : Bytes) (s : State) : State :=
  if offset.toNat % 4 ≠ 0 then s.reply t eParam [] else s.storeCmd t region.toNat offset.toNat data

/-- MEM_READ. -/
def doMemRead (t : Ticket) (region length : Word) (offset : BitVec 64) (s : State) : State :=
  let n := length.toNat
  if offset.toNat % 4 ≠ 0 ∨ n % 4 ≠ 0 ∨ n = 0 then s.reply t eParam []
  else
    match s.region t.hdr.port region.toNat with
    | none => s.reply t eRegion []
    | some r =>
      if ¬ r.covers offset.toNat n then s.reply t eRegion []
      else if s.boundBy r.handle true then s.reply t eBusy []
      else
        let x := s.readRange t.hdr.port region.toNat offset.toNat n
        x.2.1.reply t x.1 x.2.2

/-- MEM_FILL. -/
def doMemFill (t : Ticket) (region pattern : Word) (offset length : BitVec 64) (s : State) : State :=
  if offset.toNat % 4 ≠ 0 ∨ length.toNat % 4 ≠ 0 then s.reply t eParam []
  else
    match s.region t.hdr.port region.toNat with
    | none => s.reply t eRegion []
    | some r =>
      if ¬ r.covers offset.toNat length.toNat then s.reply t eRegion []
      else
        s.storeCmd t region.toNat offset.toNat ((List.replicate (length.toNat / 4) (le 4 pattern.toNat)).flatMap id)

/-! ## Scrubbing and faults of lines (R160, R173) -/

/-- SCRUB_PASS: a line read, and a single-bit error corrected and counted; no data changes. The stacks scrub themselves and
report what they corrected (R160, Table 8-4). -/
def execScrubPass (place : ScrubAt) (corrected : Bool) (line : Nat) (s : State) : Host.Outcome State Fault Refusal :=
  .next <|
    if corrected ∧ line < 2 ^ 29 then
      s.updMem fun m =>
        match place with
        | .vat => { m with cntVatCe := satInc 65535 m.cntVatCe }
        | .core => { m with cntCoreCe := satInc 65535 m.cntCoreCe }
        | .stack => { m with cntHbmCe := satInc 65535 m.cntHbmCe }
    else s

/-- Spoil a line of a region: 1 uncorrectable, 2 tag mismatch. It stays so until rewritten in whole. -/
def State.spoilLine (s : State) (r : Region) (i kind : Nat) : State :=
  s.updMem fun m => m.updStore r.place fun x =>
    match x.info (r.line i) with
    | some l => x.noteLine { l with bad := kind }
    | none => x.noteLine ⟨r.line i, 0, 0, kind⟩

/-! ## Registers (R171) -/

/-- Regions of an owner. -/
def State.regionsOf (s : State) (p : Port) : List Region := s.mem.regions.filter fun r => r.port == p

/-- Granules an owner holds of a store. -/
def State.heldGranules (s : State) (p : Port) (st : Store) : Nat :=
  (((s.regionsOf p).filter fun r => r.place == st).map (·.granules.length)).sum

/-- Broke key sets in existence. -/
def State.brokeLive (s : State) : Nat :=
  ((bankList s.jobs.tags).filter fun x =>
    match x.2 with
    | some j => j.brokeKey.isSome
    | none => false).length + s.jobs.stopping.length

/-- The owner of a register bank laid out at +4n for n = 1, 2, 4. -/
def bankOwner (base off : Nat) : Option Port :=
  if off = base + 4 then some 0 else if off = base + 8 then some 1 else if off = base + 16 then some 3 else none

/-- A word of the memory half of the block. At 0x0030 stands BROKE_STATUS, not REGIONS4: DEDUCED,
notes/assumptions/15. -/
def memRead (s : State) (off : Nat) : Nat :=
  let m := s.mem
  if off = 0x0000 then s.freeCount .hbm
  else if off = 0x0004 then s.freeCount .vat
  else if off = 0x0030 then s.brokeLive + (s.brokeGranules .hbm).length * 65536
  else if off = 0x0040 then m.cntVatCe + m.cntVatUe * 65536
  else if off = 0x0044 then m.cntCoreCe + m.cntCoreUe * 65536
  else if off = 0x0048 then m.cntHbmCe + m.cntHbmUe * 65536
  else if off = 0x004C then m.cntInteg
  else if off = 0x0060 then m.fltCause + m.fltOwner * 16 + m.fltJob * 256
  else if off = 0x0064 then m.fltRegion
  else if off = 0x0068 then m.fltLine
  else if off = 0x0070 then m.scrubS
  else
    match bankOwner 0x0010 off, bankOwner 0x0020 off with
    | some p, _ => s.heldGranules p .hbm + s.heldGranules p .vat * 65536
    | none, some p => (s.regionsOf p).length
    | none, none => 0

def memCheck (off v : Nat) : Bool := !(off == 0x0070 && decide (v % 256 < 10))

def memWriteReg (s : State) (off v : Nat) : State :=
  if off = 0x0050 ∧ v.testBit 0 then
    s.updMem fun m =>
      { m with cntVatCe := 0, cntVatUe := 0, cntCoreCe := 0, cntCoreUe := 0, cntHbmCe := 0, cntHbmUe := 0, cntInteg := 0 }
  else if off = 0x0070 then s.updMem fun m => { m with scrubS := v % 256 }
  else s

end Sys2Proof.Machine
end

