-- ==== Sys2Proof/Machine/Observers.lean ====
section
/-! DEFINITION. OBSERVER_LOAD (17_neural_observers.md, R328 to R330). -/

namespace Sys2Proof.Machine

/-- Layer widths in use. -/
def ObsLoadP.hid (p : ObsLoadP) : List Nat := (p.h.toList.take p.nhid.toNat).map (·.toNat)

/-- Fields of a load within Table 17-3. -/
def obsLoadOk (p : ObsLoadP) : Bool :=
  let j (k : Fin 4) : Bool :=
    let lo := (p.lo.get k).toNat
    let hi := (p.hi.get k).toNat
    let sl := (p.slew.get k).toNat
    if k.val < p.nout.toNat then fFinite lo && fFinite hi && fFinite sl && fLe lo hi && fLt 0 sl
    else lo == 0 && hi == 0 && sl == 0
  between 0 p.kind.toNat 2 && between 1 p.nin.toNat 16
    && (if p.kind = 0 then p.nout == 4 else between 1 p.nout.toNat 4)
    && between 0 p.nhid.toNat 3 && between 0 p.act.toNat 1
    && (List.finRange 3).all (fun i =>
        if i.val < p.nhid.toNat then between 1 (p.h.get i).toNat 64 else p.h.get i == 0)
    && p.offset.toNat % 64 == 0
    && (List.finRange 16).all (fun i =>
        if i.val < p.nin.toNat then between 1 (p.inmap.get i).toNat 21 else p.inmap.get i == 0)
    && (List.finRange 4).all j

/-- An unload carries zeros after KIND. -/
def obsUnloadOk (p : ObsLoadP) : Bool :=
  between 0 p.kind.toNat 2 && p.nin == 0 && p.nout == 0 && p.nhid == 0 && p.act == 0 && p.h.toList.all (· == 0)
    && p.region == 0 && p.offset == 0 && p.length == 0 && p.inmap.toList.all (· == 0)
    && p.lo.toList.all (· == 0) && p.hi.toList.all (· == 0) && p.slew.toList.all (· == 0)

/-- The network a load describes. -/
def obsNetOf (p : ObsLoadP) (blob : Bytes) (port : Port) : ObsNet :=
  { nin := p.nin.toNat, nout := p.nout.toNat, act := p.act.toNat, hid := ObsLoadP.hid p,
    inmap := (p.inmap.toList.take p.nin.toNat).map (·.toNat), blob := blob, coreOk := true, lo := p.lo, hi := p.hi,
    slew := p.slew, fresh := true, out := Vector.replicate 4 0, bound := Vector.replicate 4 0, missRun := 0, port := port }

/-- A POSITION network may not be loaded in these states (R330). -/
def AxSt.positionLocked : AxSt → Bool
  | .couch | .runObs | .stopping | .lost => true
  | _ => false

/-- The network of a kind is unloaded, in any state. Without a POSITION network an axis runs only in RUN_HFI (R346), so one in
COUCH or RUN_OBS enters it with cause 5, and a ramp stop goes on with injection: DESIGN CHOICE, notes/assumptions/27. -/
def State.unloadNet (s : State) (n : Fin 8) (k : Fin 3) : State :=
  let s1 := s.updAxis n fun a =>
    { a with nets := bankSet a.nets k none, netsNew := bankSet a.netsNew k none, evals := a.evals.filter fun e => e.kind != k }
  (if k = 0 then
    match (s.axis n).st with
    | .couch | .runObs => s1.toHfi n 5
    | .stopping => s1.updAxis n fun a => { a with obsSrc := false }
    | _ => s1
   else s1).repin

/-- OBSERVER_LOAD. A POSITION load in the tick in which the axis enters COUCH is judged against RUN_HFI (Table 17-6). -/
def doObserverLoad (t : Ticket) (p : ObsLoadP) (s : State) : State :=
  let n := axisOf t.hdr
  let a := s.axis n
  let k : Fin 3 := Fin.ofNat 3 p.kind.toNat
  let locked := p.kind == 0 && a.st.positionLocked && !(a.st == .couch && a.enteredAt == s.now)
  if 1 < p.unload.toNat then s.reply t eParam []
  else if p.unload = 1 then
    if ¬ obsUnloadOk p then s.reply t eParam []
    else (s.unloadNet n k).reply t stOk []
  else if ¬ obsLoadOk p ∨ p.length.toNat ≠ (obsNetOf p [] 0).blobLen then s.reply t eParam []
  else
    let r := s.readRange t.hdr.port p.region.toNat p.offset.toNat p.length.toNat
    let pin := if a.live ∧ ¬ s.pinned n then s.pinStatus n else stOk
    if r.1 ≠ stOk then r.2.1.reply t r.1 []
    else if 1024 ≤ s.mem.selfMib then s.reply t eNoMemory []
    else if pin ≠ stOk then s.reply t pin []
    else if locked then s.reply t eState []
    else
      (r.2.1.updAxis n fun a =>
        { a with netsNew := bankSet a.netsNew k (some (obsNetOf p r.2.2 t.hdr.port)),
                 clamped := a.clamped && p.kind != 0 }).repin.reply t stOk []

end Sys2Proof.Machine
end

