-- ==== Sys2Proof/Machine/Payload.lean ====
section
/-! DEFINITION. Psiesk payloads: the length each opcode requires, the bits that must be 0, the fields, and the largest
reply (R130, Tables 7-1 to 7-12 and the layouts they name). -/

namespace Sys2Proof.Machine

/-! ## Lengths -/

/-- Payload bytes of an opcode of fixed length. -/
def fixedLen (op : Nat) : Option Nat :=
  match op with
  | 0x01 | 0x03 | 0x0A | 0x0B | 0x38 | 0x45 | 0x52 | 0x61 | 0x72 => some 0
  | 0x19 | 0x21 | 0x23 | 0x24 | 0x28 | 0x2B | 0x32 | 0x41 | 0x43 | 0x54 | 0x70 | 0x71 | 0x79 | 0x7A => some 4
  | 0x05 | 0x08 | 0x09 | 0x10 | 0x29 | 0x7E => some 8
  | 0x12 | 0x25 | 0x2A | 0x48 | 0x4C => some 12
  | 0x18 | 0x1B | 0x31 | 0x42 | 0x4A | 0x50 => some 16
  | 0x20 => some 20
  | 0x1C | 0x30 | 0x39 | 0x60 => some 24
  | 0x04 | 0x3A | 0x51 => some 32
  | 0x40 => some 64
  | 0x44 => some 92
  | 0x02 => some 232
  | 0x4B => some 388
  | _ => none

/-- Opcodes of Table 7-1. -/
def opcodeAssigned (op : Nat) : Bool :=
  (fixedLen op).isSome || op == 0x11 || op == 0x1A || op == 0x22 || op == 0x49 || op == 0x53 || op == 0x78 || op == 0x7F

/-- The payload length an opcode and its count fields require (R130). -/
def neededLen (op : Nat) (p : Bytes) : Nat :=
  match fixedLen op with
  | some n => n
  | none =>
    match op with
    | 0x11 => 8 + 4 * at_ p 4 4
    | 0x1A => max 16 p.length
    | 0x22 => 16 + 16 * at_ p 6 2
    | 0x49 => 16 + 8 * at_ p 12 1
    | 0x53 => 4 + (at_ p 0 1 + 3) / 4 * 4
    | 0x78 => max 12 p.length
    | _ => p.length

/-- Payload bytes of a command. -/
def payloadSize (c : Cmd) : Nat :=
  match c with
  | .regWrite p => 8 + 4 * p.values.length
  | .memWrite _ _ d => 16 + d.length
  | .jobSubmit p => 16 + 16 * p.binds.length
  | .lightSet p => 16 + 8 * p.entries.length
  | .tagSend p => 4 + (p.data.length + 3) / 4 * 4
  | .fwStage p => 12 + p.data.length
  | .ping d => d.length
  | c => (fixedLen c.opcode).getD 0

/-- Largest reply in bytes, header and tag included, for the parameters a command carries (Table 7-1). -/
def largestReply (c : Cmd) : Nat :=
  match c with
  | .hello => 84 | .openSession _ => 228 | .getWatermark _ => 680 | .getCerts _ n => 40 + n.toNat
  | .leaseTake _ | .leaseRenew _ | .leaseRelease | .leaseQuery => 44
  | .regRead _ n => 32 + 4 * n.toNat
  | .regModify _ _ _ => 40
  | .memAlloc _ _ => 48 | .memRead _ n _ => 32 + n.toNat
  | .graphLoad _ _ _ => 48 | .jobSubmit _ => 40 | .jobStatus _ _ => 80
  | .resultFetch _ _ _ n => 40 + 64 * n.toNat
  | .tokenAlloc _ | .tokenSignal _ _ | .tokenWait _ _ _ => 36
  | .timeGet => 52 | .axisStatus => 160
  | .tagEventsFetch n => 40 + 4 * n.toNat
  | .linkTestResult => 96 | .safeStatus => 48
  | .fwStage _ | .fwCommit _ _ => 40
  | .eventSubscribe _ _ => 36 | .ping _ => 96
  | _ => 32

/-! ## Bits that must be 0 -/

/-- Byte ranges that must be 0: first byte and count. -/
def zeroBytes (op : Nat) (p : Bytes) : List (Nat × Nat) :=
  match op with
  | 0x02 => [(101, 3)]
  | 0x08 | 0x09 => [(6, 2)]
  | 0x18 => [(9, 7)]
  | 0x1A | 0x20 => [(4, 4)]
  | 0x22 => (12, 4) :: (List.range (at_ p 6 2)).map fun b => (19 + 16 * b, 1)
  | 0x23 | 0x32 | 0x43 | 0x71 => [(1, 3)]
  | 0x24 | 0x25 | 0x29 | 0x2A | 0x2B | 0x41 | 0x4A | 0x54 | 0x70 | 0x78 | 0x79 => [(2, 2)]
  | 0x30 => [(10, 2), (18, 6)]
  | 0x31 => [(6, 2), (10, 6)]
  | 0x39 => [(7, 1), (14, 2), (22, 2)]
  | 0x40 => [(7, 1), (22, 2), (39, 1)]
  | 0x42 => [(1, 3), (10, 2)]
  | 0x44 => [(6, 2), (11, 1)]
  | 0x48 => [(10, 2)]
  | 0x49 => (13, 3) :: (List.range (at_ p 12 1)).flatMap fun e => [(17 + 8 * e, 1), (22 + 8 * e, 2)]
  | 0x4B => [(3, 1)]
  | 0x4C => [(7, 1), (10, 2)]
  | 0x50 => [(13, 3)]
  | 0x53 => [(1, 1), (4 + at_ p 0 1, (4 - at_ p 0 1 % 4) % 4)]
  | 0x60 => [(4, 4), (22, 2)]
  | 0x7E => [(5, 3)]
  | _ => []

/-- Flag bytes: the byte and the number of its low bits that its layout names; FW_STAGE names bit 1 alone. -/
def flagByte (op : Nat) : Option (Nat × Nat) :=
  match op with
  | 0x22 | 0x40 => some (5, 1)
  | 0x24 | 0x25 | 0x41 | 0x79 => some (1, 1)
  | 0x31 => some (2, 0x3F)
  | 0x39 => some (6, 3)
  | 0x3A => some (1, 7)
  | 0x50 => some (12, 1)
  | 0x51 => some (9, 1)
  | 0x60 => some (2, 3)
  | 0x78 => some (1, 2)
  | 0x7E => some (4, 1)
  | _ => none

/-- Every bit shown as zero is 0 (R130). -/
def zerosOk (op : Nat) (p : Bytes) : Bool :=
  ((zeroBytes op p).all fun z => (slice p z.1 z.2).all (· == 0)) &&
    match flagByte op with
    | some (i, mask) => Nat.land (at_ p i 1) (255 - mask) == 0
    | none => true

/-- The status a payload earns by its length and its zeros, if any. -/
def payloadFault (op : Nat) (p : Bytes) : Option Nat :=
  if p.length ≠ neededLen op p then some 0x0103 else if zerosOk op p then none else some 0x0104

/-! ## Fields -/

/-- The words of a byte string. -/
def wordsOf (bs : Bytes) : List Word := (List.range (bs.length / 4)).map fun i => BitVec.ofNat 32 (at_ bs (4 * i) 4)

def time12At (p : Bytes) (o : Nat) : Time12 :=
  ⟨BitVec.ofNat 16 (at_ p o 2), BitVec.ofNat 32 (at_ p (o + 2) 4), BitVec.ofNat 48 (at_ p (o + 6) 6)⟩

def bindAt (p : Bytes) (b : Nat) : BindP :=
  let o := 16 + 16 * b
  ⟨BitVec.ofNat 16 (at_ p o 2), BitVec.ofNat 8 (at_ p (o + 2) 1), BitVec.ofNat 32 (at_ p (o + 4) 4),
    BitVec.ofNat 64 (at_ p (o + 8) 8)⟩

def lightEntryAt (p : Bytes) (e : Nat) : LightEntryP :=
  let o := 16 + 8 * e
  ⟨BitVec.ofNat 8 (at_ p o 1), BitVec.ofNat 16 (at_ p (o + 2) 2), BitVec.ofNat 16 (at_ p (o + 4) 2)⟩

def axisCfgAt (p : Bytes) : AxisCfgP :=
  let b8 (o : Nat) : Byte := BitVec.ofNat 8 (at_ p o 1)
  let b16 (o : Nat) : BitVec 16 := BitVec.ofNat 16 (at_ p o 2)
  let b32 (o : Nat) : Word := BitVec.ofNat 32 (at_ p o 4)
  { pwmHz := b32 0, dt := b8 4, reverse := bit 0 (at_ p 5 1), lostAction := b8 6, iFs := b16 8, vFs := b16 10,
    iMax := b16 12, alignI := b16 14, alignMs := b16 16, hfiHz := b16 18, hfiAmp := b16 20, couchLo := b32 24,
    couchHi := b32 28, spdMax := b32 32, agreeDeg := b16 36, agreeN := b8 38, accel := b32 40, decel := b32 44,
    residMax := b32 48, satHoldUs := b16 52, rampMs := b16 54, curKp := b16 56, curKi := b16 58, spdKp := b16 60,
    spdKi := b16 62 }

def obsLoadAt (p : Bytes) : ObsLoadP :=
  let b8 (o : Nat) : Byte := BitVec.ofNat 8 (at_ p o 1)
  let b32 (o : Nat) : Word := BitVec.ofNat 32 (at_ p o 4)
  { unload := b8 0, kind := b8 1, nin := b8 2, nout := b8 3, nhid := b8 4, act := b8 5,
    h := Vector.ofFn fun i : Fin 3 => b8 (8 + i.val), region := b32 12, offset := BitVec.ofNat 64 (at_ p 16 8),
    length := b32 24, inmap := Vector.ofFn fun i : Fin 16 => b8 (28 + i.val),
    lo := Vector.ofFn fun j : Fin 4 => b32 (44 + 12 * j.val), hi := Vector.ofFn fun j : Fin 4 => b32 (48 + 12 * j.val),
    slew := Vector.ofFn fun j : Fin 4 => b32 (52 + 12 * j.val) }

def subsystemAt (op : Nat) (p : Bytes) : Option Cmd :=
  let b8 (o : Nat) : Byte := BitVec.ofNat 8 (at_ p o 1)
  let b16 (o : Nat) : BitVec 16 := BitVec.ofNat 16 (at_ p o 2)
  let b32 (o : Nat) : Word := BitVec.ofNat 32 (at_ p o 4)
  let b64 (o : Nat) : BitVec 64 := BitVec.ofNat 64 (at_ p o 8)
  let b48 (o : Nat) : BitVec 48 := BitVec.ofNat 48 (at_ p o 6)
  let flag (o i : Nat) : Bool := bit i (at_ p o 1)
  match op with
  | 0x30 => some (.sensorConfig ⟨b8 0, b8 1, b8 2, b8 3, b8 4, b8 5, b8 6, b8 7, b16 8, b16 12, b16 14, b16 16⟩)
  | 0x31 => some (.sensorArm ⟨b16 0, BitVec.ofNat 6 (at_ p 2 1), b8 3, b16 4, b16 8⟩)
  | 0x32 => some (.sensorDisarm (b8 0))
  | 0x38 => some .timeGet
  | 0x39 => some (.timeRefSelect ⟨b8 0, b8 1, b8 2, b8 3, b8 4, b8 5, flag 6 0, flag 6 1, b32 8, b16 12, b48 16⟩)
  | 0x3A => some (.pulseConfig ⟨b8 0, flag 1 0, flag 1 1, flag 1 2, b16 2, b16 4, b32 6, b48 10, b64 16, b64 24⟩)
  | 0x40 => some (.axisConfig (axisCfgAt p))
  | 0x41 => some (.axisEnable (b8 0) (flag 1 0))
  | 0x42 => some (.axisCommand ⟨b8 0, b32 4, b16 8, b32 12⟩)
  | 0x43 => some (.axisStop (b8 0))
  | 0x44 => some (.observerLoad (obsLoadAt p))
  | 0x45 => some .axisStatus
  | 0x48 => some (.lightGroupConfig ⟨b8 0, b8 1, b8 2, b8 3, b48 4⟩)
  | 0x49 => some (.lightSet ⟨time12At p 0, (List.range (at_ p 12 1)).map (lightEntryAt p)⟩)
  | 0x4A => some (.strobeArm ⟨b8 0, b8 1, b32 4, b32 8, b32 12⟩)
  | 0x4B => some (.matrixFrame ⟨b16 0, b8 2, fit 384 (p.drop 4)⟩)
  | 0x4C => some (.gearConfig ⟨b8 0, b8 1, b8 2, b8 3, b8 4, b8 5, b8 6, b16 8⟩)
  | 0x50 => some (.radioConfig ⟨b16 0, b8 2, b8 3, b8 4, b8 5, b16 6, b16 8, b16 10, flag 12 0⟩)
  | 0x51 => some (.tagAdmit ⟨b64 0, b8 8, flag 9 0, b16 10, b32 12, fit 16 (slice p 16 16)⟩)
  | 0x52 => some .tagExpel
  | 0x53 => some (.tagSend ⟨b16 2, slice p 4 (at_ p 0 1)⟩)
  | 0x54 => some (.tagEventsFetch (b16 0))
  | 0x60 => some (.linkTestStart ⟨b8 0, b8 1, flag 2 0, flag 2 1, b8 3, b64 8, b48 16⟩)
  | 0x61 => some .linkTestResult
  | 0x70 => some (.safeStop (b8 0) (b8 1))
  | 0x71 => some (.safeRelease (b8 0))
  | 0x72 => some .safeStatus
  | 0x78 => some (.fwStage ⟨b8 0, flag 1 1, b32 4, b32 8, p.drop 12⟩)
  | 0x79 => some (.fwCommit (b8 0) (flag 1 0))
  | 0x7A => some (.resetDevice (b32 0))
  | 0x7E => some (.eventSubscribe (b32 0) (flag 4 0))
  | 0x7F => some (.ping p)
  | _ => none

/-- The command an opcode and payload spell; none for an opcode that is not assigned (R134). -/
def decodeCmd (op : Nat) (p : Bytes) : Option Cmd :=
  let b8 (o : Nat) : Byte := BitVec.ofNat 8 (at_ p o 1)
  let b16 (o : Nat) : BitVec 16 := BitVec.ofNat 16 (at_ p o 2)
  let b32 (o : Nat) : Word := BitVec.ofNat 32 (at_ p o 4)
  let b64 (o : Nat) : BitVec 64 := BitVec.ofNat 64 (at_ p o 8)
  let flag (o i : Nat) : Bool := bit i (at_ p o 1)
  match op with
  | 0x01 => some .hello
  | 0x02 => some (.openSession ⟨b32 0, fit 97 (slice p 4 97), fit 32 (slice p 104 32), fit 96 (slice p 136 96)⟩)
  | 0x03 => some .closeSession
  | 0x04 => some (.getWatermark (fit 32 p))
  | 0x05 => some (.getCerts (b32 0) (b32 4))
  | 0x08 => some (.leaseTake ⟨b32 0, b8 4, b8 5⟩)
  | 0x09 => some (.leaseRenew ⟨b32 0, b8 4, b8 5⟩)
  | 0x0A => some .leaseRelease
  | 0x0B => some .leaseQuery
  | 0x10 => some (.regRead (b32 0) (b32 4))
  | 0x11 => some (.regWrite ⟨b32 0, b32 4, wordsOf (p.drop 8)⟩)
  | 0x12 => some (.regModify (b32 0) (b32 4) (b32 8))
  | 0x18 => some (.memAlloc (b64 0) (b8 8))
  | 0x19 => some (.memFree (b32 0))
  | 0x1A => some (.memWrite (b32 0) (b64 8) (p.drop 16))
  | 0x1B => some (.memRead (b32 0) (b32 4) (b64 8))
  | 0x1C => some (.memFill (b32 0) (b32 4) (b64 8) (b64 16))
  | 0x20 => some (.graphLoad (b32 0) (b64 8) (b32 16))
  | 0x21 => some (.graphUnload (b32 0))
  | 0x22 => some (.jobSubmit ⟨b32 0, b8 4, flag 5 0, b16 8, b16 10, (List.range (at_ p 6 2)).map (bindAt p)⟩)
  | 0x23 => some (.jobCancel (b8 0))
  | 0x24 => some (.jobStatus (b8 0) (flag 1 0))
  | 0x25 => some (.resultFetch (b8 0) (flag 1 0) (b32 4) (b32 8))
  | 0x28 => some (.tokenAlloc (b32 0))
  | 0x29 => some (.tokenSignal (b16 0) (b32 4))
  | 0x2A => some (.tokenWait (b16 0) (b32 4) (b32 8))
  | 0x2B => some (.tokenFree (b16 0))
  | _ => subsystemAt op p

end Sys2Proof.Machine
end

