-- ==== Sys2Proof/Machine/Pattern.lean ====
section
/-! DEFINITION. Pattern generator and checker of a link test unit (22_link_test.md, R444, R445). -/

namespace Sys2Proof.Machine

/-- The exponents n and m of a PRBS x^n + x^m + 1 (Table 22-2). -/
def prbsTaps : Nat → Option (Nat × Nat)
  | 0 => some (7, 6)
  | 1 => some (15, 14)
  | 2 => some (23, 18)
  | 3 => some (31, 28)
  | _ => none

/-- The next `len` bits of a PRBS after the n bits of a register, the newest at bit 0: each is the exclusive or of those n and m
places before it. -/
def prbsFrom (n m : Nat) : Nat → Nat → List Bool
  | 0, _ => []
  | len + 1, w =>
    let b := xor (w.testBit (n - 1)) (w.testBit (m - 1))
    b :: prbsFrom n m len ((2 * w + bitAt 0 b) % 2 ^ n)

/-- Bit `i` of a word pattern (Table 22-2), bit 0 of each word first. -/
def wordBit (pattern : Nat) (user : BitVec 64) (i : Nat) : Bool :=
  if pattern = 4 then i % 64 == i / 64 % 64 else if pattern = 5 then i % 2 == 0 else user.getLsbD (i % 64)

/-- The first `len` bits of a pattern. A PRBS starts with the n ones of its register: DEDUCED, notes/assumptions/37. -/
def PatGen.pure (g : PatGen) (len : Nat) : List Bool :=
  match prbsTaps g.pattern with
  | some (n, m) => (List.replicate n true ++ prbsFrom n m (len - n) (2 ^ n - 1)).take len
  | none => (List.range len).map (wordBit g.pattern g.user)

/-- The bit of each 2^20 that INJECT inverts is not given: free. -/
def injected (i : Nat) : Bool := i % 2 ^ 20 == Config.freeNat (i / 2 ^ 20) % 2 ^ 20

/-- The first `len` bits the generator sends. -/
def PatGen.sent (g : PatGen) (len : Nat) : List Bool :=
  (g.pure len).zipIdx.map fun b => xor b.1 (g.inject && injected b.2)

/-- A run of bits as bytes, the first bit lowest. -/
def packBits (bits : List Bool) : Bytes :=
  (List.range (bits.length / 8)).map fun k =>
    BitVec.ofNat 8 ((List.range 8).foldl (fun a i => a + bitAt i (bits.getD (8 * k + i) false)) 0)

/-- The checker locks on the bits it receives: for a PRBS the first n seed it, the next 64 must match; for the other patterns the
first 64 must match the pattern from some place of its period. -/
def PatGen.locks (g : PatGen) (bits : List Bool) : Bool :=
  match prbsTaps g.pattern with
  | some (n, m) =>
    decide (n + 64 ≤ bits.length) &&
      (bits.drop n).take 64 == prbsFrom n m 64 ((bits.take n).foldl (fun w b => 2 * w + bitAt 0 b) 0)
  | none =>
    decide (64 ≤ bits.length) &&
      (List.range (if g.pattern = 4 then 4096 else 64)).any fun k =>
        bits.take 64 == (List.range 64).map fun i => wordBit g.pattern g.user (k + i)

end Sys2Proof.Machine
end

