-- ==== Sys2Proof/Machine/Link.lean ====
section
/-! DEFINITION. The link test units and the axis and sink self-tests (22_link_test.md). -/

namespace Sys2Proof.Machine

def State.unit (s : State) (u : Fin 16) : Ltu := s.test.units.get u
def State.updUnit (s : State) (u : Fin 16) (f : Ltu → Ltu) : State :=
  s.updTest fun t => { t with units := bankUpd t.units u f }

/-- The unit of a resource class and index (Table 22-1). -/
def unitOf (cls idx : Nat) : Option (Fin 16) :=
  if h : cls = 8 ∧ idx < 10 then some ⟨idx, by omega⟩
  else if h : cls = 4 ∧ idx < 6 then some ⟨idx + 10, by omega⟩
  else none

/-- Class and index of a unit. -/
def unitRes (u : Fin 16) : Nat × Nat := if u.val < 10 then (8, u.val) else (4, u.val - 10)

/-- The sensor port of a unit. -/
def unitSensor (u : Fin 16) : Option (Fin 6) := if h : 10 ≤ u.val then some ⟨u.val - 10, by omega⟩ else none

/-- Loopbacks of Table 22-1: 0 EXTERNAL, 1 NEAR, 2 FAR. -/
def loopAllowed (u : Fin 16) (loop : Nat) : Bool :=
  if u.val ≤ 1 then loop == 1 || loop == 2
  else if u.val = 5 then loop == 0 || loop == 2
  else if u.val = 6 ∨ u.val = 7 then loop == 1 || loop == 2
  else if u.val = 8 then loop == 1
  else if u.val < 10 then loop == 2
  else loop == 0

/-- Lanes of Table 22-1: a mask of HPA's four lanes or of the configured sensor lanes; 1 for a single-lane link. -/
def State.lanesAllowed (s : State) (u : Fin 16) (lanes : Nat) : Bool :=
  match unitSensor u with
  | some p => lanes != 0 && decide (lanes < 2 ^ (s.sensors.get p).cfg.lanes)
  | none => if u = 0 then lanes != 0 && decide (lanes < 16) else lanes == 1

/-- Bits counted so far. While a unit counts, the manual gives no moment at which the count reaches a value before
BITS: a free value up to BITS. -/
def State.liveBits (s : State) (u : Fin 16) : Nat :=
  let x := s.unit u
  if x.st = .counting then s.freeNat % (x.goal + 1) else x.bits

/-- Errors counted so far, free while the unit counts. -/
def State.liveErrors (s : State) (u : Fin 16) : Nat :=
  let x := s.unit u
  if x.st = .counting then Config.freeNat (s.free + 1) % (s.liveBits u + 1) else x.errors

/-- Errors of a lane, free while the unit counts. -/
def State.liveLane (s : State) (u : Fin 16) (n : Nat) : Nat :=
  let x := s.unit u
  if x.st = .counting then Config.freeNat (s.free + 2 + n) % 2 ^ 32 else x.laneErr.getD n 0

/-- ELAPSED in ms. -/
def State.unitElapsed (s : State) (u : Fin 16) : Nat :=
  let x := s.unit u
  if x.st = .idle then 0 else if x.st = .ended then (x.endAt - x.startAt) / msTicks else (s.now - x.startAt) / msTicks

/-- The generator of a unit as its test was started. -/
def Ltu.gen (x : Ltu) : PatGen := ⟨x.pattern, x.user, x.inject⟩

/-- The pattern leaves the device: a FAR or EXTERNAL loop of a link that it sends on (R443). -/
def Ltu.leaves (x : Ltu) (u : Fin 16) : Bool := x.loop != 1 && decide (u.val < 10)

/-- The PCS loopback of the external PHY, Clause 45 register 3.0 bit 14 (R443). -/
def State.pcsLoop (s : State) (on : Bool) : State :=
  { s with out := s.out ++ [Out.mdio s.net.inForce.phyAddr 3 0 14 on] }

/-- The generator's output starts or ends; on xSPI the pattern stands in the test area once, and HPB's PHY is looped for FAR
(R443). -/
def State.unitSends (s : State) (u : Fin 16) (on : Bool) : State :=
  let x := s.unit u
  let s1 : State := if x.leaves u then
      { s with out := s.out ++ [Out.pattern u.val x.lanes (if on then some x.gen else none)] }
    else s
  if u = 1 ∧ x.loop = 2 then s1.pcsLoop on
  else if u = 9 ∧ on then { s1 with flash := { s1.flash with testArea := some (x.pattern, x.user) } }
  else s1

/-- The 64 KiB of the xSPI test area, from 0x001F_0000 (R443); before any test the manual leaves them open. -/
def State.testArea (s : State) : Bytes :=
  match s.flash.testArea with
  | some (p, w) => packBits (PatGen.pure ⟨p, w, false⟩ (8 * 65536))
  | none => fit 65536 (Config.freeBytes 0)

/-- What the end of a test gives back: a sensor port is CONFIGURED again, HPA and HPB retrain, and the stage of a
port that is down closes (R447, R147). -/
def State.unitBack (s0 : State) (u : Fin 16) : State :=
  let s := s0.unitSends u false
  match unitSensor u with
  | some p => s.updSensor p fun x => { x with st := if x.st = .test then .configured else x.st }
  | none =>
    if u = 0 then (s.updHpa fun h => { h with linkUp := false }).closeStageOf 0
    else if u = 1 then (s.updNet fun n => { n with ethUp := false }).closeStageOf 1
    else s

/-- A test ends with a result; the event goes to the session that started it (R121, R447). -/
def State.unitEnd (s : State) (u : Fin 16) (result : Nat) (event : Bool) : State :=
  let x := s.unit u
  if x.st.runs then
    let s1 := s.updUnit u fun x => { x with st := .ended, locked := false, result := result, endAt := s.now }
    let s2 := s1.unitBack u
    let r := unitRes u
    let same : Bool := match x.serial, (s.owner x.owner).session with
      | some n, some ses => ses.serial == n
      | _, _ => false
    if event ∧ same then
      s2.raise 0x09 r.1 r.2 ([BitVec.ofNat 8 result, 0, 0, 0] ++ le 8 x.bits ++ le 8 x.errors) x.owner
    else s2
  else s

/-- Put a test's counts in place: bits and the errors of each lane. -/
def Ltu.counted (x : Ltu) (bits : Nat) (errors : Vector Nat 4) : Ltu :=
  { x with bits := min bits (2 ^ 48 - 1), errors := min (errors.toList.foldl (· + ·) 0) (2 ^ 48 - 1),
           laneErr := errors.map fun e => min e 0xFFFFFFFF }

/-- Loss of the unit's lease, or a link test stopped in counting: the counts stand as they are (R454). -/
def State.unitStop (s : State) (u : Fin 16) (event : Bool) : State :=
  let x := s.unit u
  let s1 := if x.st = .counting then
      s.updUnit u fun x => { x with bits := s.liveBits u, errors := s.liveErrors u }
    else s
  (if x.st = .counting then { s1 with free := s.free + 6 } else s1).unitEnd u 1 event

/-! ## Rows -/

/-- Time within which a checker must lock: 10 ms, or 1 s on SFP and the lighting buses. -/
def lockTicks (u : Fin 16) : Nat := if u.val = 5 ∨ u.val = 6 ∨ u.val = 7 then secTicks else 10 * msTicks

/-- LTU_LOCK: 64 consecutive bits after seeding or alignment match, in time (R445). -/
def execLtuLock (rx : LockRx) (s : State) : Host.Outcome State Fault Refusal :=
  .next <|
    let x := s.unit rx.unit
    if x.st = .locking ∧ s.now ≤ x.startAt + lockTicks rx.unit ∧ x.gen.locks rx.bits then
      s.updUnit rx.unit fun x => { x with st := .counting, locked := true }
    else s

/-- The lease of a unit may end in this tick. -/
def State.unitLeaseEnds (s : State) (u : Fin 16) : Bool := s.leaseMayEnd (unitRes u).1 (unitRes u).2

/-- The bits of a unit are reached in this tick by a row that has yet to act. -/
def State.bitsComing (s : State) (u : Fin 16) : Bool :=
  s.behind fun c =>
    match c with
    | .ltuBitsReached v _ => v == u
    | _ => false

/-- LTU_LOCK_LOSS (R445, R447): a checker that has not locked in time has counted nothing, nor has a test whose area of the
flash could not be programmed (R455); in counting, 256 bits or more must be in error. Loss in the tick BITS are reached counts as
complete, and the end of the lease comes first (R454). -/
def execLtuLockLoss (unit : Fin 16) (bits : Nat) (errors : Vector Nat 4) (s : State) :
    Host.Outcome State Fault Refusal :=
  .next <|
    let x := s.unit unit
    if x.st = .locking then
      if unit = 9 ∨ x.startAt + lockTicks unit ≤ s.now then s.unitEnd unit 2 true else s
    else if x.st = .counting then
      if s.bitsComing unit ∨ s.unitLeaseEnds unit then s.putOff (.ltuLockLoss unit bits errors)
      else if errors.toList.sum < 256 then s
      else
      let s1 := s.updUnit unit fun x => x.counted (min bits x.goal) errors
      if bits ≥ x.goal then
        if x.eye then s1.updUnit unit fun x => { x with st := .eye } else s1.unitEnd unit 0 true
      else s1.unitEnd unit 2 true
    else s

/-- LTU_BITS_REACHED (R447). It gives way to the end of the lease (R454). -/
def execLtuBitsReached (unit : Fin 16) (errors : Vector Nat 4) (s : State) : Host.Outcome State Fault Refusal :=
  .next <|
    let x := s.unit unit
    if x.st = .counting ∧ s.unitLeaseEnds unit then s.putOff (.ltuBitsReached unit errors)
    else if x.st = .counting then
      let s1 := s.updUnit unit fun x => x.counted x.goal errors
      if x.eye then s1.updUnit unit fun x => { x with st := .eye } else s1.unitEnd unit 0 true
    else s

/-- EYE_SCAN_DONE (R449). -/
def execEyeScanDone (unit : Fin 16) (eyes : Vector EyeP 4) (s : State) : Host.Outcome State Fault Refusal :=
  .next <|
    let x := s.unit unit
    if x.st = .eye then
      (s.updUnit unit fun x =>
        { x with eyes := Vector.ofFn fun n : Fin 4 =>
            if x.lanes.testBit n.val then
              let e := eyes.get n
              ⟨min 32 e.left, min 32 e.right, min 1020 e.top, min 1020 e.bottom⟩
            else Eye.none }).unitEnd unit 0 true
    else s

/-- LINK_TEST_TIME_LIMIT (R447). -/
def execLinkTestTimeLimit (unit : Fin 16) (bits : Nat) (errors : Vector Nat 4) (s : State) :
    Host.Outcome State Fault Refusal :=
  .next <|
    let x := s.unit unit
    if x.st.runs ∧ x.startAt + 3600 * secTicks ≤ s.now then
      (if x.st = .counting then s.updUnit unit fun x => x.counted (min bits x.goal) errors else s).unitEnd unit 0 true
    else s

/-- AXIS_SELF_TEST_DONE (R451). -/
def execAxisSelfTestDone (axis : Fin 8) (chFail gateFail : Nat) (interlock : Bool) (s : State) :
    Host.Outcome State Fault Refusal :=
  .next <|
    if (s.test.axis.get axis).running then
      s.updTest fun t =>
        { t with axis := bankUpd t.axis axis fun x =>
            { x with running := false, done := true, chFail := chFail % 128, gateFail := gateFail % 64,
                     interlock := interlock } }
    else s

/-- SINK_SELF_TEST_DONE (R452): the current and ball voltage of each sink of the group decide. -/
def execSinkSelfTestDone (group : Fin 8) (currentUa ballMv : Vector Nat 48) (s : State) :
    Host.Outcome State Fault Refusal :=
  .next <|
    if (s.test.sink.get group).running then
      let mem (i : Nat) : Bool := match s.illum.sinks[i]? with
        | some x => x.group == some group
        | none => false
      let opens := maskOf 48 fun i => mem i && decide (currentUa.getD i 0 < 500)
      let shorts := maskOf 48 fun i => mem i && decide (ballMv.getD i 0 > s.illum.shortMv)
      (s.updTest fun t =>
        { t with sink := bankUpd t.sink group fun x =>
            { x with running := false, done := true, opens := opens, shorts := shorts } }).updStage fun x =>
          if x.st = .fault ∨ x.st = .discharging then x
          else { x with st := .idle, vstr := max x.vstr (s.illum.vminDv * 100) }
    else s

/-! ## Commands -/

/-- The felt link's precondition (Table 22-5). -/
def State.feltIdle (s : State) : Bool :=
  ((bankList s.axes).all fun a => a.2.st == .disabled || a.2.st == .stoppedSafe || a.2.st == .fault)
    && (s.illum.stage.st == .idle || s.illum.stage.st == .fault) && s.illum.matrix.frame.mask == 0
    && !s.radio.cfg.en && !s.underTest 6 && !s.underTest 7

/-- LINK_TEST_START (R446, R450). FAR on HPB sets the PHY's loopback over MDIO: whether the PHY answers comes from outside
(R455). -/
def doLinkTestStart (t : Ticket) (u : Fin 16) (p : LinkStartP) (s : State) : State :=
  let x := s.unit u
  let port := t.hdr.port
  let carries := portUnit port == some u
  let unready : Bool := match unitSensor u with
    | some k => (s.sensors.get k).st != .configured
    | none => false
  let jobs := (bankList s.jobs.tags).any fun j =>
    match j.2 with
    | some j => j.st == .running || j.st == .restarting
    | none => false
  if p.pattern.toNat > 6 ∨ ¬ loopAllowed u p.loop.toNat ∨ (p.eye ∧ ¬ (u.val ≤ 1 ∧ p.loop = 2))
      ∨ ¬ s.lanesAllowed u p.lanes.toNat ∨ (p.pattern ≠ 6 ∧ p.user ≠ 0) ∨ p.bits = 0 then
    -- a sensor port that is not configured has no lanes: its precondition answers
    (match unitSensor u with
     | some k =>
       if (s.sensors.get k).st ≠ .configured ∧ p.pattern.toNat ≤ 6 ∧ p.loop = 0 ∧ ¬ p.eye ∧ p.bits ≠ 0
           ∧ ¬ (p.pattern ≠ 6 ∧ p.user ≠ 0) then s.reply t (if x.st.runs then eBusy else eState) []
       else s.reply t eParam []
     | none => s.reply t eParam [])
  else if carries ∨ x.st.runs then s.reply t eBusy []
  else if (u.val = 2 ∨ u.val = 3) ∧ jobs then s.reply t eBusy []
  else if u.val = 4 ∧ ¬ s.feltIdle then s.reply t eState []
  else if (u.val = 6 ∨ u.val = 7) ∧ s.underTest 4 then s.reply t eState []
  else if unready then s.reply t eState []
  else if u = 1 ∧ p.loop = 2 ∧ ¬ Config.phyAnswers s.free then { s with free := s.free + 1 }.reply t eHwFault []
  else
    let s0 : State := if u = 1 ∧ p.loop = 2 then { s with free := s.free + 1 } else s
    let s1 := s0.updUnit u fun x =>
      { Ltu.reset with st := .locking, pattern := p.pattern.toNat, loop := p.loop.toNat, eye := p.eye, inject := p.inject,
                       lanes := p.lanes.toNat, user := p.user, goal := p.bits.toNat, startAt := s.now, owner := port,
                       serial := t.serial, latBitsHi := x.latBitsHi, latErrLo := x.latErrLo, latErrHi := x.latErrHi }
    let s2 := match unitSensor u with
      | some k => s1.updSensor k fun x => { x with st := .test }
      | none => s1
    (s2.unitSends u true).reply t stAccepted []

/-- The 64 bytes of LINK_TEST_RESULT (Table 22-4). -/
def State.unitResult (s : State) (u : Fin 16) : Bytes :=
  let x := s.unit u
  [BitVec.ofNat 8 x.st.code, BitVec.ofNat 8 x.result, BitVec.ofNat 8 x.pattern,
    BitVec.ofNat 8 (x.loop + bitAt 2 x.eye + bitAt 3 x.inject), BitVec.ofNat 8 x.lanes, 0, 0, 0]
  ++ le 8 (s.liveBits u) ++ le 8 (s.liveErrors u) ++ le 4 (s.unitElapsed u) ++ zeros 4
  ++ (x.eyes.toList.map fun e =>
      [BitVec.ofNat 8 e.left, BitVec.ofNat 8 e.right] ++ le 2 e.top ++ le 2 e.bottom ++ zeros 2).flatten

/-- LINK_TEST_RESULT (R448). -/
def doLinkTestResult (t : Ticket) (u : Fin 16) (s : State) : State :=
  let s1 := s.reply t stOk (s.unitResult u)
  { s1 with free := s1.free + 6 }

/-! ## Registers (R453, Table 22-6) -/

/-- A word of the LINK TEST block. -/
def linkRead (s : State) (off : Nat) : Nat :=
  if h : off < 0x10000 then
    let u : Fin 16 := ⟨off / 0x1000, by omega⟩
    let o := off % 0x1000
    let x := s.unit u
    if o = 0x000 then
      x.st.code + bitAt 3 x.locked + x.pattern * 16 + x.loop * 256 + bitAt 10 x.eye + bitAt 11 x.inject
        + x.lanes * 4096 + x.result * 65536
    else if o = 0x004 then s.liveBits u % 2 ^ 32
    else if o = 0x008 then x.latBitsHi
    else if o = 0x00C then x.latErrLo
    else if o = 0x010 then x.latErrHi
    else if o = 0x014 then s.unitElapsed u
    else if 0x020 ≤ o ∧ o < 0x030 then s.liveLane u ((o - 0x020) / 4)
    else if 0x040 ≤ o ∧ o < 0x050 then
      let e := x.eyes.getD ((o - 0x040) / 4) Eye.none
      e.left % 64 + e.right % 64 * 256 + e.top / 4 * 65536 + e.bottom / 4 * 2 ^ 24
    else if hn : u.val < 8 then
      let n : Fin 8 := ⟨u.val, hn⟩
      let a := s.test.axis.get n
      let k := s.test.sink.get n
      if o = 0x804 then
        a.chFail + a.gateFail * 256 + bitAt 14 a.interlock + bitAt 16 a.done + bitAt 17 a.running
      else if o = 0x904 then bitAt 0 k.done + bitAt 1 k.running
      else if o = 0x908 then k.opens % 2 ^ 32
      else if o = 0x90C then k.opens / 2 ^ 32
      else if o = 0x910 then k.shorts % 2 ^ 32
      else if o = 0x914 then k.shorts / 2 ^ 32
      else 0
    else 0
  else 0

/-- What reading LT_BITS_LO latches. -/
def linkLatch (s : State) (off : Nat) : State :=
  if h : off < 0x10000 then
    let u : Fin 16 := ⟨off / 0x1000, by omega⟩
    if off % 0x1000 = 0x004 then
      let e := s.liveErrors u
      s.updUnit u fun x =>
        { x with latBitsHi := s.liveBits u / 2 ^ 32, latErrLo := e % 2 ^ 32, latErrHi := e / 2 ^ 32 }
    else s
  else s

/-- Status a write of the block earns: a self-test needs its object at rest (R451, R452). -/
def linkCheck (s : State) (off v : Nat) : Nat :=
  if h : off < 0x8000 then
    let n : Fin 8 := ⟨off / 0x1000, by omega⟩
    let o := off % 0x1000
    if o = 0x800 ∧ v.testBit 0 then
      if (s.axes.get n).st = .disabled ∧ (s.axes.get n).zeroFrom.isNone then stOk else eState
    else if o = 0x900 ∧ v.testBit 0 then
      if s.drive n = 0 ∧ s.illum.stage.st ≠ .fault then stOk else eState
    else stOk
  else stOk

/-- Write a word of the block. -/
def linkWrite (s : State) (off v : Nat) : State :=
  if h : off < 0x8000 then
    let n : Fin 8 := ⟨off / 0x1000, by omega⟩
    let o := off % 0x1000
    if o = 0x800 ∧ v.testBit 0 then
      s.updTest fun t =>
        { t with axis := bankUpd t.axis n fun x => { x with running := true, startAt := s.now } }
    else if o = 0x900 ∧ v.testBit 0 then
      (s.updTest fun t =>
        { t with sink := bankUpd t.sink n fun x => { x with running := true, startAt := s.now, opens := 0, shorts := 0 } }).updStage
        fun x => if x.vstr < s.illum.vminDv * 100 then { x with set := s.illum.vminDv * 100 } else x
    else s
  else s

end Sys2Proof.Machine
end

