-- ==== Sys2Proof/Machine/Operators.lean ====
section
/-! DEFINITION. The operator library: headbox ingest, sparse convolution, height collapse, dense layers, element-wise
operators and grasp ranking (11_point_pipeline.md, 12_operators_and_grasps.md). -/

namespace Sys2Proof.Machine

/-- What one node leaves: the bytes of its outputs and what it counts and flags. -/
structure OpRes where
  outs    : List Bytes
  sat     : Nat := 0
  nonfin  : Nat := 0
  flags   : Nat := 0
  results : Nat := 0
  radDrop : Nat := 0
  sites   : Nat := 0
  capHit  : Bool := false
  capped  : Bool := false
  deriving DecidableEq, Repr

/-- Job flags (Table 7-9). -/
def fDilateCapped : Nat := 1
def fSensorShort : Nat := 2
def fResultCapped : Nat := 4
def fSheetClipped : Nat := 8

/-- A tensor with its bytes. -/
structure TData where
  t  : Tensor
  bs : Bytes
  deriving DecidableEq, Repr

def Tensor.dim (t : Tensor) (i : Nat) : Nat := t.dims.getD i 1

/-- Elements of a dense tensor: unused dimensions count 1 (R239). -/
def Tensor.elems (t : Tensor) : Nat := (List.range t.rank).foldl (fun a i => a * t.dim i) 1

/-- The dense values of a tensor. -/
def TData.values (d : TData) : List Num := (List.range d.t.elems).map (elemAt d.t.format d.bs)

/-- The values as the MAC array takes them, with the count of non-finite FP16 inputs (R179). -/
def TData.macValues (d : TData) : List Dy × Nat :=
  if d.t.format = 4 then macFp16 d.values else (d.values.map (Num.orFree 0), 0)

/-- The FP16 elements that are NaN or infinite, each counted once (R253). -/
def TData.nonfinite (d : TData) : Nat :=
  if d.t.format = 4 then (d.values.filter fun x => match x with
    | .fin _ => false
    | _ => true).length else 0

/-- A rational n ÷ d as a dyadic value that every rounding of the formats treats alike: 200 fraction bits, the last one
sticky. -/
def dyOfRat (n : Int) (d : Nat) : Dy :=
  let a := n.natAbs * 2 ^ 199
  let q : Int := ((2 * (a / d) + if a % d = 0 then 0 else 1 : Nat) : Int)
  ⟨if n < 0 then -q else q, -200⟩

/-- Round values into a tensor, padded with zeros to its SIZE. -/
def Tensor.store (t : Tensor) (xs : List Dy) : Bytes × Nat :=
  let r := roundTensor t.format xs
  (fit t.size r.1, r.2)

/-- The same of values that may be infinite or NaN. -/
def Tensor.storeNums (t : Tensor) (xs : List Num) : Bytes × Nat := t.store (xs.zipIdx.map fun x => x.1.orFree x.2)

/-! ## HEADBOX_INGEST (R218 to R226) -/

/-- A frame delivered to the job. -/
structure IngestFrame where
  port  : Nat
  w     : Nat
  h     : Nat
  depth : List Nat           -- raw values, line by line
  conf  : Option (List Nat)
  unit  : Nat                -- 0: 1/16 mm, 1: 1/32 mm
  cam   : CamModel
  deriving DecidableEq, Repr

def CamModel.r (m : CamModel) (i : Nat) : Nat := (m.getD i 0).toNat

/-- One iteration of the inverse Brown model, none when rad ≤ 0 or a value is not finite (R220, R221). -/
def brownStep (m : CamModel) (xd yd x y : Nat) : Option (Nat × Nat) :=
  let two := 0x40000000
  let r2 := fAdd (fMul x x) (fMul y y)
  let in1 := fAdd (m.r 5) (fMul r2 (m.r 6))
  let in2 := fAdd (m.r 4) (fMul r2 in1)
  let rad := fAdd 0x3F800000 (fMul r2 in2)
  let dx := fAdd (fMul (fMul (fMul two (m.r 7)) x) y) (fMul (m.r 8) (fAdd r2 (fMul (fMul two x) x)))
  let dy := fAdd (fMul (m.r 7) (fAdd r2 (fMul (fMul two y) y))) (fMul (fMul (fMul two (m.r 8)) x) y)
  let x1 := fDiv (fSub xd dx) rad
  let y1 := fDiv (fSub yd dy) rad
  if fLt 0 rad ∧ [r2, in1, in2, rad, dx, dy, x1, y1].all fFinite then some (x1, y1) else none

def brown (m : CamModel) (xd yd : Nat) : Nat → Nat → Nat → Option (Nat × Nat)
  | 0, x, y => some (x, y)
  | n + 1, x, y =>
    match brownStep m xd yd x y with
    | some (x1, y1) => brown m xd yd n x1 y1
    | none => none

/-- What the headbox makes of a pixel: nothing, a counted drop, or a cell point. -/
inductive Pixel where
  | dropped
  | radDrop
  | point (x y z : Int)
  deriving DecidableEq, Repr

/-- Unprojection of one pixel (R220, R221). -/
def unproject (f : IngestFrame) (u v raw conf : Nat) : Pixel :=
  let m := f.cam
  let fine := raw * (if f.unit = 0 then 500 else 250)
  if raw = 0 ∨ raw = 0xFFFF then .dropped
  else if f.conf.isSome ∧ conf < m.r 34 % 65536 then .dropped
  else if fine < 8 * m.r 32 ∨ 8 * m.r 33 < fine then .dropped
  else
    let xd := fDiv (fSub (fOfInt u) (m.r 2)) (m.r 0)
    let yd := fDiv (fSub (fOfInt v) (m.r 3)) (m.r 1)
    match brown m xd yd 5 xd yd with
    | none => .radDrop
    | some (x, y) =>
      let z := fMul (fOfInt raw) (if f.unit = 0 then 0x3D800000 else 0x3D000000)
      let c0 := fMul x z
      let c1 := fMul y z
      let row (i : Nat) : Nat :=
        fMul (fAdd (fAdd (fMul (m.r (16 + 3 * i)) c0) (fMul (m.r (17 + 3 * i)) c1)) (fMul (m.r (18 + 3 * i)) z)) 0x45FA0000
      if ¬ [xd, yd, z, c0, c1].all fFinite then .radDrop
      else
        match fRne (row 0), fRne (row 1), fRne (row 2) with
        | some a, some b, some c =>
          let q (w : Int) (i : Nat) : Int := w + 8 * signed 32 (m.r (28 + i))
          let ok (x : Int) : Bool := decide (-(2 ^ 31 : Int) ≤ x) && decide (x < 2 ^ 31)
          if ok (q a 0) ∧ ok (q b 1) ∧ ok (q c 2) then .point (q a 0) (q b 1) (q c 2) else .dropped
        | _, _, _ => .radDrop

/-- The grid of an ingest or a site list: origin in µm, PITCH_K and the deckles as LO and HI. -/
structure Grid where
  g       : List Int
  pitchK  : Nat
  deckles : List (List Nat × List Nat)
  deriving DecidableEq, Repr

/-- Pitch in fine units. -/
def Grid.pitch (x : Grid) : Nat := 1000 * 2 ^ x.pitchK

/-- The grid that HEADBOX_INGEST parameters describe (Table 11-2). -/
def Grid.ofParams (p : Bytes) : Grid :=
  { g := (List.range 3).map fun i => signed 32 (at_ p (4 * i) 4), pitchK := at_ p 12 1,
    deckles := (List.range (at_ p 13 1)).map fun j =>
      ((List.range 3).map fun i => at_ p (32 + 32 * j + 4 * i) 4, (List.range 3).map fun i => at_ p (44 + 32 * j + 4 * i) 4) }

/-- A voxel lies in at least one deckle. -/
def Grid.inside (x : Grid) (v : List Int) : Bool :=
  x.deckles.any fun d =>
    (List.range 3).all fun i => decide ((d.1.getD i 0 : Int) ≤ v.getD i 0) && decide (v.getD i 0 ≤ (d.2.getD i 0 : Int))

/-- The key of a voxel (R186). -/
def voxelKey (v : List Int) : Nat :=
  (v.getD 0 0).toNat + (v.getD 1 0).toNat * 2 ^ 21 + (v.getD 2 0).toNat * 2 ^ 42

/-- The voxel of a key. -/
def voxelOf (k : Nat) : List Int := [(k % 2 ^ 21 : Nat), (k / 2 ^ 21 % 2 ^ 21 : Nat), (k / 2 ^ 42 : Nat)]

/-- A kept point: its key, its offset from the voxel centre, its source. -/
structure Kept where
  key  : Nat
  e2   : Nat
  port : Nat
  pix  : Nat
  e    : List Int
  conf : Option Nat
  deriving DecidableEq, Repr

/-- The order that chooses the survivor of a voxel (R224). -/
def Kept.before (a b : Kept) : Bool :=
  decide (a.key < b.key) || (a.key == b.key &&
    (decide (a.e2 < b.e2) || (a.e2 == b.e2 &&
      (decide (a.port < b.port) || (a.port == b.port && decide (a.pix ≤ b.pix))))))

/-- The first entry of each key of a list in order. -/
def firstPerKey : List Kept → List Kept
  | [] => []
  | [a] => [a]
  | a :: b :: rest => if a.key = b.key then firstPerKey (a :: rest) else a :: firstPerKey (b :: rest)

/-- Clip and quantise a cell point (R222). -/
def Grid.keep (x : Grid) (port pix : Nat) (conf : Option Nat) (q : List Int) : Option Kept :=
  let pt : Int := x.pitch
  let v := (List.range 3).map fun i => (q.getD i 0 - 8 * x.g.getD i 0) / pt
  if x.inside v then
    let e := (List.range 3).map fun i => q.getD i 0 - (8 * x.g.getD i 0 + v.getD i 0 * pt + pt / 2)
    some ⟨voxelKey v, (e.map fun y => (y * y).natAbs).sum, port, pix, e, conf⟩
  else none

/-- Points of one frame, and its counted drops. -/
def ingestFrame (x : Grid) (f : IngestFrame) : List Kept × Nat :=
  let px := (List.range (f.w * f.h)).map fun i =>
    let conf := f.conf.map fun c => c.getD i 0
    (i, conf, unproject f (i % f.w) (i / f.w) (f.depth.getD i 0) (conf.getD 0))
  (px.filterMap fun p =>
    match p.2.2 with
    | .point a b c => x.keep f.port p.1 p.2.1 [a, b, c]
    | _ => none, (px.filter fun p => p.2.2 == .radDrop).length)

/-- SITE_CAP as a field gives it. -/
def siteCap (n : Nat) : Nat := if n = 0 then 4194304 else n

/-- A SITE_LIST (Table 11-3). -/
def siteBytes (x : Grid) (cap : Nat) (size : Nat) (keys : List Nat) : Bytes :=
  let head := le 4 keys.length ++ le 4 cap ++ le 1 x.pitchK ++ le 1 x.deckles.length ++ zeros 2
    ++ x.g.flatMap (fun g => le 4 (unsigned 32 g))
    ++ x.deckles.flatMap fun d => d.1.flatMap (le 4) ++ d.2.flatMap (le 4)
  fit size (fit 128 head ++ keys.flatMap (le 8))

/-- The grid in a site list's header. -/
def Grid.ofSites (bs : Bytes) : Grid :=
  { g := (List.range 3).map fun i => signed 32 (at_ bs (12 + 4 * i) 4), pitchK := at_ bs 8 1,
    deckles := (List.range (at_ bs 9 1)).map fun j =>
      ((List.range 3).map fun i => at_ bs (24 + 24 * j + 4 * i) 4, (List.range 3).map fun i => at_ bs (36 + 24 * j + 4 * i) 4) }

/-- The keys of a site list. -/
def siteKeys (bs : Bytes) : List Nat := (List.range (at_ bs 0 4)).map fun s => at_ bs (128 + 8 * s) 8

/-- Features of sites, zero up to the capacity (R227). -/
def featStore (t : Tensor) (rows : List (List Dy)) : Bytes × Nat :=
  let c := t.dim 1
  let xs := rows.flatMap id
  t.store (xs ++ List.replicate (t.dim 0 * c - xs.length) .zero)

/-- HEADBOX_INGEST. -/
def opIngest (p : Bytes) (frames : List IngestFrame) (o0 o1 : Tensor) : OpRes :=
  let x := Grid.ofParams p
  let cap := siteCap (at_ p 16 4)
  let per := frames.map (ingestFrame x)
  let all := firstPerKey ((per.flatMap (·.1)).mergeSort Kept.before)
  let kept := all.take cap
  let rows := kept.map fun k =>
    [Dy.ofInt 1] ++ k.e.map (fun e => dyOfRat e x.pitch) ++
      [match k.conf with
       | some c => dyOfRat c 65535
       | none => Dy.ofInt 1]
  let f := featStore o1 rows
  { outs := [siteBytes x cap o0.size (kept.map (·.key)), f.1], sat := f.2, radDrop := (per.map (·.2)).sum,
    sites := kept.length, capHit := decide (cap < all.length) }

/-! ## Weighted operators (R228, R229, R240, R241) -/

/-- Weight, bias and scale of a node's blob. -/
structure Blob where
  bs  : Bytes
  fmt : Nat
  w   : Nat
  b   : Nat
  s   : Nat
  deriving DecidableEq, Repr

def Blob.ofParams (bs p : Bytes) : Blob := ⟨bs, at_ p 5 1, at_ p 12 4, at_ p 16 4, at_ p 20 4⟩

def Blob.weight (x : Blob) (i : Nat) : Dy := (elemAt x.fmt (x.bs.drop x.w) i).orFree i

def Blob.bias (x : Blob) (o : Nat) : Dy :=
  if x.b = 0xFFFFFFFF then .zero else (elemAt (if x.fmt = 6 then 6 else 3) (x.bs.drop x.b) o).orFree o

def Blob.scale (x : Blob) (o : Nat) : Dy :=
  if x.s = 0xFFFFFFFF then .ofInt 1
  else ⟨signed 12 (at_ x.bs (x.s + 4 * o) 2), clampI (-64) 63 (signed 8 (at_ x.bs (x.s + 4 * o + 2) 1))⟩

/-- act of R228: 1 is ReLU on the exact value. -/
def actExact (a : Nat) (x : Dy) : Dy := if a = 1 ∧ x.m < 0 then .zero else x

/-- One output: act(scale × (bias + sum of products)). -/
def Blob.output (x : Blob) (act o : Nat) (terms : List (Nat × Dy)) : Dy :=
  actExact act ((x.scale o).mul (terms.foldl (fun a t => a.add ((x.weight t.1).mul t.2)) (x.bias o)))

/-- CONV2D. -/
def opConv2d (p : Bytes) (a : TData) (blob : Bytes) (o0 : Tensor) : OpRes :=
  let x := Blob.ofParams blob p
  let ci := at_ p 0 2
  let co := at_ p 2 2
  let ks := at_ p 6 1
  let st := at_ p 7 1
  let pd := (ks - 1) / 2
  let h := a.t.dim 0
  let w := a.t.dim 1
  let vals := a.macValues
  let arr := vals.1.toArray
  let tap (r c : Nat) : List (Nat × Dy) :=
    (List.range ks).flatMap fun ky => (List.range ks).flatMap fun kx =>
      let y := r * st + ky
      let xx := c * st + kx
      if pd ≤ y ∧ y < h + pd ∧ pd ≤ xx ∧ xx < w + pd then
        (List.range ci).map fun i => ((ky * ks + kx) * ci + i, arr.getD (((y - pd) * w + (xx - pd)) * ci + i) .zero)
      else []
  let outs := (List.range ((h + st - 1) / st)).flatMap fun r =>
    (List.range ((w + st - 1) / st)).flatMap fun c =>
      let t := tap r c
      (List.range co).map fun o => x.output (at_ p 4 1) o (t.map fun y => (y.1 * co + o, y.2))
  let f := o0.store outs
  { outs := [f.1], sat := f.2, nonfin := vals.2 }

/-- The 27 offsets in the order of the kernel index (R228). -/
def offsets27 : List (List Int) :=
  [-1, 0, 1].flatMap fun dz => [-1, 0, 1].flatMap fun dy => [-1, 0, 1].map fun dx => [dx, dy, dz]

/-- The neighbour of a voxel, none outside the index range (R186). -/
def neighbour (v d : List Int) : Option (List Int) :=
  let n := (List.range 3).map fun i => v.getD i 0 + d.getD i 0
  if n.all fun y => decide (0 ≤ y) && decide (y ≤ 2097151) then some n else none

/-- Sorted keys without repeats. -/
def dedupSorted : List Nat → List Nat
  | [] => []
  | [a] => [a]
  | a :: b :: rest => if a = b then dedupSorted (b :: rest) else a :: dedupSorted (b :: rest)

/-- The dilated site set (R229). -/
def dilate (x : Grid) (keys : List Nat) : List Nat :=
  let near := keys.flatMap fun k => offsets27.filterMap fun d =>
    match neighbour (voxelOf k) d with
    | some n => if x.inside n then some (voxelKey n) else none
    | none => none
  dedupSorted ((keys ++ near).mergeSort fun a b => decide (a ≤ b))

/-- SPCONV3. -/
def opSpconv (p : Bytes) (sites : Bytes) (feat : TData) (blob : Bytes) (o0 o1 : Tensor) : OpRes :=
  let x := Grid.ofSites sites
  let keys := siteKeys sites
  let cap := siteCap (at_ p 8 4)
  let ci := at_ p 0 2
  let co := at_ p 2 2
  let wide := if at_ p 6 1 = 1 then keys else dilate x keys
  let capped := decide (cap < wide.length)
  let outKeys := if capped then keys else wide
  let bl := Blob.ofParams blob p
  let vals := feat.macValues
  let arr := vals.1.toArray
  let rows := outKeys.map fun k =>
    let taps := offsets27.zipIdx.flatMap fun d =>
      match neighbour (voxelOf k) d.1 with
      | some n =>
        (match findIx (· == voxelKey n) keys with
         | some s => (List.range ci).map fun i => (d.2 * ci + i, arr.getD (s * ci + i) .zero)
         | none => [])
      | none => []
    (List.range co).map fun o => bl.output (at_ p 4 1) o (taps.map fun y => (y.1 * co + o, y.2))
  let f := featStore o1 rows
  { outs := [siteBytes x cap o0.size outKeys, f.1], sat := f.2, nonfin := vals.2,
    flags := if capped then fDilateCapped else 0, capped := capped }

/-- BEV_SCATTER (R231). -/
def opScatter (p : Bytes) (sites : Bytes) (feat : TData) (o0 : Tensor) : OpRes :=
  let keys := siteKeys sites
  let x0 := at_ p 0 4
  let y0 := at_ p 4 4
  let b := 2 ^ at_ p 8 1
  let w := at_ p 12 2
  let h := at_ p 14 2
  let c := at_ p 16 2
  let arr := feat.values.toArray
  let band := keys.zipIdx.filter fun k =>
    decide (at_ p 20 4 ≤ k.1 / 2 ^ 42) && decide (k.1 / 2 ^ 42 ≤ at_ p 24 4)
  let cell (k : Nat) : Option Nat :=
    let ix := k % 2 ^ 21
    let iy := k / 2 ^ 21 % 2 ^ 21
    if ix < x0 ∨ iy < y0 then none
    else
      let col := (ix - x0) / b
      let row := (iy - y0) / b
      if w ≤ col ∨ h ≤ row then none else some (row * w + col)
  let placed := band.filterMap fun k => (cell k.1).map fun q => (q, k.2)
  let value (q ch : Nat) : Num :=
    let vs := (placed.filter fun y => y.1 == q).map fun y => arr.getD (y.2 * c + ch) (.fin .zero)
    match vs with
    | [] => .fin .zero
    | v :: rest => rest.foldl (fun a y => if at_ p 9 1 = 0 then a.max y else a.add y) v
  let f := o0.storeNums ((List.range (h * w)).flatMap fun q => (List.range c).map fun ch => value q ch)
  { outs := [f.1], sat := f.2, nonfin := feat.nonfinite, flags := if placed.length < band.length then fSheetClipped else 0 }

/-! ## Element-wise operators (R243) -/

/-- Scale field of Table 12-5. -/
def eltScale (p : Bytes) : Num := .fin ⟨signed 16 (at_ p 2 2), signed 8 (at_ p 4 1)⟩

/-- op(a, b) of ELTWISE. -/
def eltOp (func : Nat) (a b : Num) : Num :=
  match func with
  | 0 => a.add b
  | 1 => a.add b.neg
  | 2 => a.mul b
  | 3 => a.max b
  | _ => a.min b

/-- The function of ACTIVATE in FP32. -/
def actFn (func : Nat) : Nat → Nat :=
  match func with
  | 0 => fRelu
  | 1 => fTanh
  | _ => fSigmoid

/-- Results scaled and rounded once into the output; the non-finite FP16 inputs are counted. -/
def eltResult (p : Bytes) (o0 : Tensor) (xs : List Num) (nonfin : Nat) : OpRes :=
  let r := o0.storeNums (xs.map fun x => x.mul (eltScale p))
  { outs := [r.1], sat := r.2, nonfin := nonfin }

/-- ELTWISE: exact, scaled, rounded once. -/
def opEltwise (p : Bytes) (a b : TData) (o0 : Tensor) : OpRes :=
  eltResult p o0 ((a.values.zip b.values).map fun x => eltOp (at_ p 0 1) x.1 x.2) (a.nonfinite + b.nonfinite)

/-- ACTIVATE: the function in FP32, then scaled and rounded. -/
def opActivate (p : Bytes) (a : TData) (o0 : Tensor) : OpRes :=
  eltResult p o0 (a.values.map fun x => f32.decode (actFn (at_ p 0 1) x.toF32)) a.nonfinite

/-- CONVERT: scaled and rounded once. -/
def opConvert (p : Bytes) (a : TData) (o0 : Tensor) : OpRes := eltResult p o0 a.values a.nonfinite

/-! ## GRASP_RANK (R244 to R248) -/

/-- A candidate. -/
structure Cand where
  score : Nat              -- FP32
  cell  : Nat
  pos   : List Int
  q     : List Int         -- W, X, Y, Z
  jaw   : Nat
  appr  : Nat
  flags : Nat
  deriving DecidableEq, Repr

/-- Saturate to int32. -/
def sat32 (x : Int) : Int := clampI (-(2 ^ 31)) (2 ^ 31 - 1) x

/-- rne of an FP32 value: an infinity lies beyond every clamp, a NaN gives a number the manual does not state
(notes/assumptions/31). -/
def fRneBig (key a : Nat) : Int :=
  match f32.decode a with
  | .fin x => x.quantize 0
  | .inf neg => if neg then -(2 ^ 200) else 2 ^ 200
  | .nan => Config.nanNumber key

/-- Make a quaternion canonical. -/
def canonQ (q : List Int) : List Int :=
  let lead := (q.find? fun x => x != 0).getD 0
  if q.getD 0 0 < 0 ∨ (q.getD 0 0 = 0 ∧ lead < 0) then q.map fun x => -x else q

/-- The candidate of a head cell (R246); `ch` holds its ten channels as FP32. -/
def decodeCell (p : Bytes) (w h row col : Nat) (ch : List Nat) : Option Cand :=
  let c (i : Nat) : Nat := ch.getD i 0
  let rnd (k a : Nat) : Int := fRneBig (10 * (row * w + col) + k) a
  let score := if at_ p 14 1 = 1 then fSigmoid (c 0) else c 0
  let sq (i : Nat) : Nat := fMul (c i) (c i)
  let n2 := fAdd (fAdd (fAdd (sq 4) (sq 5)) (sq 6)) (sq 7)
  if fLt score (at_ p 20 4) then none
  else if fLt n2 0x35800000 then none
  else
    let n := fSqrt n2
    let q := canonQ ((List.range 4).map fun i => clampI (-16384) 16384 (rnd (4 + i) (fMul (fDiv (c (4 + i)) n) 0x46800000)))
    let cu := fOfInt (at_ p 8 4)
    let k := 0x447A0000
    let plane (i d : Nat) : Int := rnd d (fAdd (fMul (fAdd (fOfInt i) 0x3F000000) cu) (fMul (c d) k))
    let x := sat32 (signed 32 (at_ p 0 4) + plane col 1)
    let y := sat32 (signed 32 (at_ p 4 4) + plane row 2)
    let z := sat32 (signed 32 (at_ p 44 4) + rnd 3 (fMul (c 3) k))
    let jaw0 := rnd 8 (fMul (c 8) k)
    let jaw := clampI (at_ p 32 4) (at_ p 36 4) jaw0
    let ap0 := rnd 9 (fMul (c 9) k)
    let ap := clampI 0 (at_ p 40 4) ap0
    let edge := decide (row = 0) || decide (row + 1 = h) || decide (col = 0) || decide (col + 1 = w)
    some ⟨score, row * w + col, [x, y, z], q, jaw.toNat, ap.toNat,
      bitAt 3 (jaw != jaw0) + bitAt 4 (ap != ap0) + bitAt 5 edge⟩

/-- What a score counts as in the order: a NaN, whose place the manual does not state, as a free number. -/
def Cand.worth (c : Cand) : Dy := (f32.decode c.score).orFree (10 * c.cell)

/-- Descending score, then the lower cell (R247). -/
def Cand.before (a b : Cand) : Bool := b.worth.lt a.worth || (!a.worth.lt b.worth && decide (a.cell ≤ b.cell))

/-- An accepted candidate suppresses another (R247). -/
def Cand.suppresses (dist : Nat) (theta : Int) (a b : Cand) : Bool :=
  let d2 := ((a.pos.zip b.pos).map fun x => (x.1 - x.2) * (x.1 - x.2)).sum
  let dot := ((a.q.zip b.q).map fun x => x.1 * x.2).sum
  decide (d2 ≤ (dist : Int) * dist) && decide (theta ≤ (dot.natAbs : Int))

/-- The walk of step 3: the accepted candidates, and whether one that none suppresses was left when it stopped. -/
def suppress (dist : Nat) (theta : Int) (top : Nat) : List Cand → List Cand → List Cand × Bool
  | acc, [] => (acc, false)
  | acc, c :: rest =>
    if dist ≠ 0 ∧ acc.any (fun a => a.suppresses dist theta c) then suppress dist theta top acc rest
    else if acc.length < top then suppress dist theta top (acc ++ [c]) rest
    else (acc, true)

/-- A record (Table 12-6). -/
def Cand.record (c : Cand) (rank frameNs job mask jobFlags : Nat) : Bytes :=
  c.pos.flatMap (fun x => le 4 (unsigned 32 x)) ++ c.q.flatMap (fun x => le 2 (unsigned 16 x)) ++ le 4 c.jaw ++ le 4 c.appr
    ++ le 4 c.score ++ le 8 frameNs ++ le 1 job ++ le 1 mask ++ le 2 (jobFlags % 4 + bitAt 2 (jobFlags.testBit 3) + c.flags) ++ le 4 rank ++ le 4 c.cell
    ++ zeros 12

/-- Element `i` taken exactly into FP32 (R245): an FP32 element as it stands. -/
def TData.channel (d : TData) (i : Nat) : Nat :=
  if d.t.format = 5 then at_ d.bs (4 * i) 4 else (elemAt d.t.format d.bs i).toF32

/-- GRASP_RANK. -/
def opRank (p : Bytes) (a : TData) (o0 : Tensor) (frameNs job mask jobFlags : Nat) : OpRes :=
  let h := a.t.dim 0
  let w := a.t.dim 1
  let arr := ((List.range a.t.elems).map a.channel).toArray
  let cands := (List.range (h * w)).filterMap fun i =>
    decodeCell p w h (i / w) (i % w) ((List.range 10).map fun k => arr.getD (10 * i + k) 0)
  let tile := 2 ^ at_ p 12 1
  let tw := (w + tile - 1) / tile
  let th := (h + tile - 1) / tile
  let kept := (List.range (tw * th)).flatMap fun t =>
    ((cands.filter fun c => c.cell / w / tile * tw + c.cell % w / tile == t).mergeSort Cand.before).take (at_ p 13 1)
  let r := suppress (at_ p 24 4) (nmsTheta (at_ p 28 2)) (at_ p 16 4) [] (kept.mergeSort Cand.before)
  { outs := [fit o0.size (r.1.zipIdx.flatMap fun c => c.1.record c.2 frameNs job mask jobFlags)],
    nonfin := a.nonfinite, results := r.1.length, flags := if r.2 then fResultCapped else 0 }

end Sys2Proof.Machine
end

