-- ==== Sys2Proof/Machine/Graphs.lean ====
section
/-! DEFINITION. Graph descriptions: their layout, their checks and their broke requirement (R198 to R201, R238 to R245,
R223, R230). -/

namespace Sys2Proof.Machine

/-! ## Layout (Table 10-1) -/

structure GraphHead where
  nnode  : Nat
  ntens  : Nat
  nslot  : Nat
  nparam : Nat
  deriving DecidableEq, Repr

def GraphHead.of (d : Bytes) : GraphHead := ⟨at_ d 8 4, at_ d 12 4, at_ d 16 4, at_ d 28 4⟩

def GraphHead.length (h : GraphHead) : Nat := 64 + 16 * h.nslot + 32 * h.ntens + 48 * h.nnode + h.nparam

def slotBytes (d : Bytes) (i : Nat) : Bytes := slice d (64 + 16 * i) 16
def GraphHead.tensorBytes (h : GraphHead) (d : Bytes) (i : Nat) : Bytes := slice d (64 + 16 * h.nslot + 32 * i) 32
def GraphHead.nodeBytes (h : GraphHead) (d : Bytes) (i : Nat) : Bytes :=
  slice d (64 + 16 * h.nslot + 32 * h.ntens + 48 * i) 48
def GraphHead.params (h : GraphHead) (d : Bytes) : Bytes := d.drop (64 + 16 * h.nslot + 32 * h.ntens + 48 * h.nnode)

def parseTensor (b : Bytes) : Tensor :=
  ⟨at_ b 0 2, at_ b 2 1, at_ b 3 1, (List.range 4).map fun i => at_ b (4 + 4 * i) 4, at_ b 20 8⟩

def parseNode (params b : Bytes) : Node :=
  ⟨at_ b 0 2, (List.range (at_ b 2 1)).map (fun i => at_ b (12 + 2 * i) 2),
    (List.range (at_ b 3 1)).map (fun i => at_ b (28 + 2 * i) 2), slice params (at_ b 4 4) (at_ b 8 4)⟩

/-- Bytes a range are all zero. -/
def allZero (b : Bytes) (o n : Nat) : Bool := (slice b o n).all (· == 0)

/-! ## Tensors (Table 12-2) -/

def roundUp (n k : Nat) : Nat := (n + k - 1) / k * k

def Tensor.dense (t : Tensor) : Bool := decide (1 ≤ t.format) && decide (t.format ≤ 6)

def Tensor.unusedOnes (t : Tensor) : Bool := (List.range 4).all fun i => decide (i < t.rank) || t.dim i == 1

/-- RANK, DIMs and SIZE agree with the format. -/
def Tensor.shapeOk (t : Tensor) : Bool :=
  decide (t.place ≤ 2) && t.unusedOnes &&
  (if t.dense then
    decide (1 ≤ t.rank) && decide (t.rank ≤ 4) && (List.range t.rank).all (fun i => decide (1 ≤ t.dim i)) &&
      t.size == (if t.format = 6 then (t.elems + 2047) / 2048 * 3136 else roundUp (t.elems * elemBytes t.format) 64)
  else if t.format = 7 then
    t.rank == 1 && decide (64 ≤ t.dim 0) && decide (t.dim 0 ≤ 2 ^ 30) && t.size == roundUp (t.dim 0) 64
  else if t.format = 0x10 then
    t.rank == 3 && decide (1 ≤ t.dim 0) && decide (1 ≤ t.dim 1) && (t.dim 2 == 1 || t.dim 2 == 2) && t.size == 0
  else if t.format = 0x11 then t.rank == 1 && decide (1 ≤ t.dim 0) && t.size == roundUp (128 + 8 * t.dim 0) 64
  else if t.format = 0x12 then t.rank == 1 && decide (1 ≤ t.dim 0) && decide (t.dim 0 ≤ 4096) && t.size == 64 * t.dim 0
  else false)

def sameDims (a b : Tensor) : Bool := a.rank == b.rank && (List.range 4).all fun i => a.dim i == b.dim i

/-! ## Operators: 0, or the reason of Table 10-2 -/

/-- The first reason of a list of failed tests. -/
def firstReason : List (Bool × Nat) → Nat
  | [] => 0
  | (ok, r) :: rest => if ok then firstReason rest else r

/-- A range of a weight blob: inside DIM0 and aligned, or absent. -/
def blobRange (blob : Tensor) (off len al : Nat) (optional : Bool) : Bool :=
  (optional && off == 0xFFFFFFFF) || (off % al == 0 && decide (off + len ≤ blob.dim 0))

/-- Bytes of `n` elements in a weight format (R240). -/
def weightBytes (fmt n : Nat) : Nat := if fmt = 6 then (n + 2047) / 2048 * 3136 else n * elemBytes fmt

/-- Weights, biases and scales of a weighted node with `n` weights lie in its blob. -/
def blobOk (p : Bytes) (blob : Tensor) (n : Nat) : Bool :=
  let f := at_ p 5 1
  let co := at_ p 2 2
  blobRange blob (at_ p 12 4) (weightBytes f n) 64 false
    && blobRange blob (at_ p 16 4) (if f = 6 then weightBytes 6 co else 4 * co) 64 true
    && blobRange blob (at_ p 20 4) (4 * co) 4 true

/-- Input and weight formats form a pair of Table 9-2. -/
def pairOk (wfmt infmt : Nat) : Bool :=
  (wfmt == 6 && (infmt == 6 || infmt == 4)) || ((wfmt == 1 || wfmt == 2) && (infmt == 1 || infmt == 2))

def floatFmt (f : Nat) : Bool := f == 4 || f == 5 || f == 6

/-- HEADBOX_INGEST (R223). -/
def checkIngest (p : Bytes) (ins outs : List Tensor) (idx : List Nat) : Nat :=
  let nd := at_ p 13 1
  let cap := siteCap (at_ p 16 4)
  let o0 := outs.getD 0 default_
  let o1 := outs.getD 1 default_
  firstReason
    [(decide (ins.length ≤ 6) && outs.length == 2 && ins.all (fun t => t.format == 0x10) && o0.format == 0x11 && o1.dense, 7),
     (between 1 nd 4 && p.length == 32 + 32 * nd && decide (at_ p 12 1 ≤ 7) && decide (at_ p 16 4 ≤ 4194304), 6),
     ((List.range nd).all (fun j => (List.range 3).all fun i =>
        decide (at_ p (32 + 32 * j + 4 * i) 4 ≤ at_ p (44 + 32 * j + 4 * i) 4)
          && decide (at_ p (44 + 32 * j + 4 * i) 4 ≤ 2097151)), 6),
     (idx.Nodup, 6),
     (allZero p 14 2 && allZero p 20 12 && (List.range nd).all (fun j => allZero p (56 + 32 * j) 8), 15),
     (o0.dim 0 == cap && o1.rank == 2 && o1.dim 0 == cap && o1.dim 1 == 5, 11)]
where
  default_ : Tensor := ⟨0, 0, 0, [], 0⟩
  between (lo x hi : Nat) : Bool := decide (lo ≤ x) && decide (x ≤ hi)

/-- A tensor in place of one that is not named. -/
def noTensor : Tensor := ⟨0, 0, 0, [], 0⟩

/-- SPCONV3 (R229, R230, R241): Table 11-5 lets the output be CB12, FP16 or FP32, R241 not FP32 under CB12 weights. -/
def checkSpconv (p : Bytes) (ins outs : List Tensor) : Nat :=
  let i0 := ins.getD 0 noTensor
  let i1 := ins.getD 1 noTensor
  let i2 := ins.getD 2 noTensor
  let o0 := outs.getD 0 noTensor
  let o1 := outs.getD 1 noTensor
  let ci := at_ p 0 2
  let co := at_ p 2 2
  let w := at_ p 5 1
  let cap := siteCap (at_ p 8 4)
  firstReason
    [(ins.length == 3 && outs.length == 2 && i0.format == 0x11 && i1.dense && i2.format == 7 && o0.format == 0x11 && o1.dense, 7),
     (p.length == 32 && decide (1 ≤ ci) && decide (ci ≤ 256) && decide (1 ≤ co) && decide (co ≤ 256), 6),
     (decide (at_ p 4 1 ≤ 1) && decide (at_ p 6 1 ≤ 1) && (w == 6 || w == 1 || w == 2) && decide (at_ p 8 4 ≤ 4194304), 6),
     (allZero p 7 1 && allZero p 24 8, 15),
     (pairOk w i1.format && floatFmt o1.format && (w != 6 || o1.format != 5), 7),
     (ci == i1.dim 1 && co == o1.dim 1 && decide (i0.dim 0 ≤ cap), 6),
     (blobOk p i2 (27 * ci * co), 6),
     (i1.rank == 2 && i1.dim 0 == i0.dim 0 && o0.dim 0 == cap && o1.rank == 2 && o1.dim 0 == cap, 11),
     (decide (27 * ci ≤ 1048576), 8)]

/-- BEV_SCATTER (R230, R242). -/
def checkScatter (p : Bytes) (ins outs : List Tensor) : Nat :=
  let i0 := ins.getD 0 noTensor
  let i1 := ins.getD 1 noTensor
  let o0 := outs.getD 0 noTensor
  let w := at_ p 12 2
  let h := at_ p 14 2
  let c := at_ p 16 2
  let z0 := at_ p 20 4
  let z1 := at_ p 24 4
  firstReason
    [(ins.length == 2 && outs.length == 1 && i0.format == 0x11 && i1.dense && floatFmt o0.format, 7),
     (p.length == 32 && decide (at_ p 0 4 ≤ 2097151) && decide (at_ p 4 4 ≤ 2097151) && decide (at_ p 8 1 ≤ 3)
        && decide (at_ p 9 1 ≤ 1), 6),
     (decide (1 ≤ w) && decide (w ≤ 2048) && decide (1 ≤ h) && decide (h ≤ 2048) && decide (1 ≤ c) && decide (c ≤ 256)
        && c == i1.dim 1 && decide (z0 ≤ z1) && decide (z1 ≤ 2097151), 6),
     (allZero p 10 2 && allZero p 18 2 && allZero p 28 4, 15),
     (i1.rank == 2 && i1.dim 0 == i0.dim 0 && o0.rank == 3 && o0.dim 0 == h && o0.dim 1 == w && o0.dim 2 == c, 11),
     (at_ p 9 1 == 0 || decide ((z1 - z0 + 1) * 4 ^ at_ p 8 1 ≤ 1048576), 8)]

/-- CONV2D (R241). -/
def checkConv (p : Bytes) (ins outs : List Tensor) : Nat :=
  let i0 := ins.getD 0 noTensor
  let i1 := ins.getD 1 noTensor
  let o0 := outs.getD 0 noTensor
  let ci := at_ p 0 2
  let co := at_ p 2 2
  let w := at_ p 5 1
  let ks := at_ p 6 1
  let st := at_ p 7 1
  firstReason
    [(ins.length == 2 && outs.length == 1 && i0.dense && i1.format == 7 && o0.dense, 7),
     (p.length == 32 && decide (1 ≤ ci) && decide (ci ≤ 256) && decide (1 ≤ co) && decide (co ≤ 256), 6),
     (decide (at_ p 4 1 ≤ 1) && (w == 6 || w == 1 || w == 2) && (ks == 1 || ks == 3 || ks == 5) && (st == 1 || st == 2), 6),
     (allZero p 8 4 && allZero p 24 8, 15),
     (pairOk w i0.format, 7),
     (ci == i0.dim 2 && co == o0.dim 2, 6),
     (blobOk p i1 (ks * ks * ci * co), 6),
     (i0.rank == 3 && o0.rank == 3 && o0.dim 0 == (i0.dim 0 + st - 1) / max 1 st
        && o0.dim 1 == (i0.dim 1 + st - 1) / max 1 st, 11),
     (decide (ks * ks * ci ≤ 1048576), 8)]

/-- The element-wise operators (R243): number of inputs, highest FUNC, formats of the inputs. -/
def checkElt (p : Bytes) (ins outs : List Tensor) (nin maxFunc : Nat) (fmtOk : Nat → Bool) : Nat :=
  let o0 := outs.getD 0 noTensor
  let ms := signed 16 (at_ p 2 2)
  let es := signed 8 (at_ p 4 1)
  firstReason
    [(ins.length == nin && outs.length == 1 && ins.all (fun t => t.dense && fmtOk t.format) && o0.dense, 7),
     (p.length == 8 && decide (at_ p 0 1 ≤ maxFunc) && decide (-2048 ≤ ms) && decide (ms ≤ 2047) && decide (-64 ≤ es)
        && decide (es ≤ 63), 6),
     (allZero p 1 1 && allZero p 5 3, 15),
     (ins.all (sameDims o0), 11)]

/-- Tiles of a head map. -/
def rankTiles (p : Bytes) (t : Tensor) : Nat :=
  let k := 2 ^ at_ p 12 1
  ((t.dim 0 + k - 1) / k) * ((t.dim 1 + k - 1) / k)

/-- GRASP_RANK (R245). -/
def checkRank (p : Bytes) (ins outs : List Tensor) : Nat :=
  let i0 := ins.getD 0 noTensor
  let o0 := outs.getD 0 noTensor
  firstReason
    [(ins.length == 1 && outs.length == 1 && floatFmt i0.format && o0.format == 0x12, 7),
     (p.length == 48 && decide (1 ≤ at_ p 8 4) && decide (at_ p 8 4 ≤ 1048576) && decide (3 ≤ at_ p 12 1)
        && decide (at_ p 12 1 ≤ 6) && decide (1 ≤ at_ p 13 1) && decide (at_ p 13 1 ≤ 64) && decide (at_ p 14 1 ≤ 1), 6),
     (decide (1 ≤ at_ p 16 4) && decide (at_ p 16 4 ≤ 4096) && fFinite (at_ p 20 4) && decide (at_ p 24 4 ≤ 1000000)
        && decide (at_ p 28 2 ≤ 18000), 6),
     (decide (at_ p 32 4 ≤ at_ p 36 4) && decide (at_ p 36 4 ≤ 1000000) && decide (at_ p 40 4 ≤ 1000000), 6),
     (decide (rankTiles p i0 * at_ p 13 1 ≤ 65536), 6),
     (allZero p 15 1 && allZero p 30 2, 15),
     (i0.rank == 3 && i0.dim 2 == 10 && o0.dim 0 == at_ p 16 4, 11)]

/-- A node's operator, formats, parameters, shapes and reduction. -/
def checkOp (n : Node) (ins outs : List Tensor) : Nat :=
  match n.op with
  | 0x0001 => checkIngest n.params ins outs n.ins
  | 0x0002 => checkSpconv n.params ins outs
  | 0x0003 => checkScatter n.params ins outs
  | 0x0010 => checkConv n.params ins outs
  | 0x0011 => checkElt n.params ins outs 2 4 fun _ => true
  | 0x0012 => checkElt n.params ins outs 1 2 floatFmt
  | 0x0013 => checkElt n.params ins outs 1 0 fun _ => true
  | 0x0020 => checkRank n.params ins outs
  | _ => 5

/-- Workspace bytes of a node (Table 12-1). -/
def workspace (n : Node) (ins : List Tensor) : Nat :=
  let p := n.params
  match n.op with
  | 0x0001 => 64 * siteCap (at_ p 16 4) + 16 * 2 ^ 20
  | 0x0002 => 144 * siteCap (at_ p 8 4)
  | 0x0003 => 4 * at_ p 12 2 * at_ p 14 2
  | 0x0020 => 128 * rankTiles p (ins.getD 0 noTensor) * at_ p 13 1
  | _ => 0

/-! ## The whole description (R198 to R201) -/

/-- The store a tensor is counted in (R200). -/
def Tensor.store_ (t : Tensor) : Store :=
  if t.place = 1 then .vat else if t.place = 2 then .hbm else if t.size ≤ 4 * 2 ^ 20 then .vat else .hbm

/-- Where a check failed and why. -/
abbrev GraphErr := Nat × Nat

def wholeGraph : Nat := 0xFFFFFFFF

/-- Header checks. -/
def checkHead (d : Bytes) (len oplib : Nat) : Nat :=
  let h := GraphHead.of d
  firstReason
    [(decide (64 ≤ len), 2),
     (d.take 4 == [0x53, 0x47, 0x47, 0x52] && at_ d 4 2 == 1, 1),
     (decide (at_ d 6 2 ≤ oplib), 3),
     (decide (1 ≤ h.nnode) && decide (h.nnode ≤ 4096) && decide (1 ≤ h.ntens) && decide (h.ntens ≤ 8192)
        && decide (1 ≤ h.nslot) && decide (h.nslot ≤ 32) && h.nparam % 4 == 0, 4),
     (decide (1 ≤ at_ d 20 1) && decide (at_ d 20 1 ≤ at_ d 21 1) && decide (at_ d 21 1 ≤ 32) && decide (at_ d 22 1 ≤ 6)
        && decide (at_ d 24 4 ≤ 100000), 14),
     (allZero d 23 1 && allZero d 32 32, 15), (h.length == len, 2)]

/-- Slot checks. -/
def checkSlots (d : Bytes) (h : GraphHead) (ts : List Tensor) : Nat :=
  ((List.range h.nslot).map fun i =>
    let b := slotBytes d i
    let t := ts.getD (at_ b 0 2) noTensor
    firstReason
      [(allZero b 3 13, 15), (decide (at_ b 0 2 < h.ntens), 9), (decide (at_ b 2 1 ≤ 2), 11),
       ((at_ b 2 1 == 2) == (t.format == 0x10), 11)]).foldl (fun a r => if a = 0 then r else a) 0

/-- A tensor's own fields: 0, or the reason. -/
def checkTensor (d : Bytes) (h : GraphHead) (ts : List Tensor) (x : Nat) : Nat :=
  firstReason [(allZero (h.tensorBytes d x) 28 4, 15), ((ts.getD x noTensor).shapeOk, 11)]

/-- The first reason among tensors, in their order. -/
def checkTensors (d : Bytes) (h : GraphHead) (ts : List Tensor) (l : List Nat) : Nat :=
  (l.map (checkTensor d h ts)).foldl (fun a r => if a = 0 then r else a) 0

/-- Numbers of inputs and outputs of an operator (Table 12-1). -/
def arityOk (op nin nout : Nat) : Bool :=
  match op with
  | 0x0001 => decide (1 ≤ nin) && decide (nin ≤ 6) && nout == 2
  | 0x0002 => nin == 3 && nout == 2
  | 0x0003 | 0x0010 | 0x0011 => nin == 2 && nout == 1
  | _ => nin == 1 && nout == 1

/-- Tensors that input and sensor slots bind, in slot order. -/
def boundIns (slots : List Slot) : List Nat := (slots.filter fun x => x.kind != 1).map (·.tensor)

/-- Checks of the nodes in order; `written` holds the tensors earlier nodes have written. -/
def checkNodes (d : Bytes) (h : GraphHead) (ts : List Tensor) (bound : List Nat) : List Nat → List Nat → Option GraphErr
  | [], _ => none
  | i :: rest, written =>
    let b := h.nodeBytes d i
    let n := parseNode (h.params d) b
    let tens (l : List Nat) : List Tensor := l.map fun x => ts.getD x noTensor
    let spare := (List.range 8).all (fun k => decide (k < at_ b 2 1) || at_ b (12 + 2 * k) 2 == 0xFFFF)
      && (List.range 4).all fun k => decide (k < at_ b 3 1) || at_ b (28 + 2 * k) 2 == 0xFFFF
    let r := firstReason
      [([0x0001, 0x0002, 0x0003, 0x0010, 0x0011, 0x0012, 0x0013, 0x0020].contains n.op, 5),
       (allZero b 36 12, 15),
       (arityOk n.op (at_ b 2 1) (at_ b 3 1), 7),
       ((n.ins ++ n.outs).all (fun x => decide (x < h.ntens)) && spare, 9),
       (checkTensors d h ts (n.ins ++ n.outs) == 0, checkTensors d h ts (n.ins ++ n.outs)),
       (n.ins.all (fun x => bound.contains x || written.contains x), 9),
       (n.outs.all (fun x => !(bound.contains x || written.contains x)) && decide n.outs.Nodup, 10),
       (decide (at_ b 4 4 + at_ b 8 4 ≤ h.nparam), 6),
       (checkOp n (tens n.ins) (tens n.outs) == 0, checkOp n (tens n.ins) (tens n.outs)),
       ((n.ins ++ n.outs).all (fun x => (ts.getD x noTensor).format != 0x10 || (n.op == 1 && bound.contains x)), 11)]
    if r ≠ 0 then some (i, r) else checkNodes d h ts bound rest (written ++ n.outs)

/-- The graph a description stands for. -/
def graphOf (d : Bytes) (handle : Nat) (port : Port) : Graph :=
  let h := GraphHead.of d
  let ts := (List.range h.ntens).map fun i => parseTensor (h.tensorBytes d i)
  let ns := (List.range h.nnode).map fun i => parseNode (h.params d) (h.nodeBytes d i)
  let sl := (List.range h.nslot).map fun i => (⟨at_ (slotBytes d i) 0 2, at_ (slotBytes d i) 2 1⟩ : Slot)
  let free := (List.range h.ntens).filter fun i => !(sl.any fun x => x.tensor == i)
  let need (p : Store) : Nat :=
    ((free.map fun i => ts.getD i noTensor).filter fun t => t.store_ == p).foldl (fun a t => a + t.size) 0
      + (ns.filter fun n => (ts.getD (n.outs.getD 0 0) noTensor).store_ == p).foldl
          (fun a n => a + workspace n (n.ins.map fun x => ts.getD x noTensor)) 0
  let recs := (sl.filter fun x => x.kind == 1 && (ts.getD x.tensor noTensor).format == 0x12).map fun x =>
    (ts.getD x.tensor noTensor).dim 0
  { handle := handle, port := port, coresLow := at_ d 20 1, coresHigh := at_ d 21 1, sensorMin := at_ d 22 1,
    windowUs := at_ d 24 4, slots := sl, tensors := ts, nodes := ns, brokeHbm := (need .hbm + 2 ^ 20 - 1) / 2 ^ 20,
    brokeVat := (need .vat + 65535) / 65536, records := recs.headD 0, copyMib := (d.length + 2 ^ 20 - 1) / 2 ^ 20 }

/-- Checks over the whole graph: every tensor written or bound once, output slots written, one record output, broke. -/
def checkWhole (g : Graph) : Nat :=
  let wr := g.nodes.flatMap (·.outs)
  let bi := boundIns g.slots
  let outs := (g.slots.filter fun x => x.kind == 1).map (·.tensor)
  firstReason
    [((List.range g.tensors.length).all (fun i => wr.contains i || bi.contains i), 10),
     (decide bi.Nodup && outs.all wr.contains, 10),
     (decide ((outs.filter fun i => (g.tensors.getD i noTensor).format == 0x12).length ≤ 1), 13),
     (decide (g.brokeHbm ≤ 29696) && decide (g.brokeVat ≤ 768), 12)]

/-- Check a description: none when sound. -/
def checkGraph (d : Bytes) (oplib : Nat) : Option GraphErr :=
  let r := checkHead d d.length oplib
  if r ≠ 0 then some (wholeGraph, r)
  else
    let h := GraphHead.of d
    let g := graphOf d 0 0
    let r1 := checkSlots d h g.tensors
    if r1 ≠ 0 then some (wholeGraph, r1)
    else
      match checkNodes d h g.tensors (boundIns g.slots) (List.range h.nnode) [] with
      | some e => some e
      | none =>
        let r2 := firstReason [(checkTensors d h g.tensors (List.range h.ntens) == 0, checkTensors d h g.tensors (List.range h.ntens)),
          (checkWhole g == 0, checkWhole g)]
        if r2 ≠ 0 then some (wholeGraph, r2) else none

/-! ## Running a graph -/

/-- What the attempt gives its operators from outside the tensors. -/
structure RunEnv where
  frames : List (Nat × Option IngestFrame)   -- by tensor: the frame bound to it
  frameNs : Nat
  tag    : Nat
  mask   : Nat
  short  : Bool

/-- What an attempt leaves. -/
structure RunRes where
  data    : List (Nat × Bytes)
  flags   : Nat
  sat     : Nat
  nonfin  : Nat
  radDrop : Nat
  sites   : Nat
  capHit  : Bool
  firstCapped : Nat
  cappedLayers : Nat
  results : Nat

/-- The record tensor that the graph gives out, if any (R199, R249). -/
def Graph.recordOut (g : Graph) : List Nat :=
  (g.slots.filter fun x => x.kind == 1 && (g.tensors.getD x.tensor noTensor).format == 0x12).map (·.tensor)

/-- Run one node. -/
def runNode (g : Graph) (env : RunEnv) (i : Nat) (n : Node) (r : RunRes) : RunRes :=
  let t (k : Nat) : Tensor := g.tensors.getD k noTensor
  let input (k : Nat) : TData :=
    let x := n.ins.getD k 0
    ⟨t x, ((r.data.find? fun y => y.1 == x).map (·.2)).getD []⟩
  let o (k : Nat) : Tensor := t (n.outs.getD k 0)
  let x : OpRes := match n.op with
    | 0x0001 =>
      opIngest n.params (n.ins.filterMap fun y => ((env.frames.find? fun f => f.1 == y).map (·.2)).join) (o 0) (o 1)
    | 0x0002 => opSpconv n.params (input 0).bs (input 1) (input 2).bs (o 0) (o 1)
    | 0x0003 => opScatter n.params (input 0).bs (input 1) (o 0)
    | 0x0010 => opConv2d n.params (input 0) (input 1).bs (o 0)
    | 0x0011 => opEltwise n.params (input 0) (input 1) (o 0)
    | 0x0012 => opActivate n.params (input 0) (o 0)
    | 0x0013 => opConvert n.params (input 0) (o 0)
    | _ => opRank n.params (input 0) (o 0) env.frameNs env.tag env.mask r.flags
  { data := r.data ++ n.outs.zip x.outs, flags := Nat.lor r.flags x.flags, sat := r.sat + x.sat, nonfin := r.nonfin + x.nonfin,
    radDrop := r.radDrop + x.radDrop, sites := r.sites + x.sites, capHit := r.capHit || x.capHit,
    firstCapped := if x.capped ∧ r.firstCapped = 0xFFFF then i else r.firstCapped,
    cappedLayers := if x.capped then satInc 255 r.cappedLayers else r.cappedLayers,
    results := if n.op = 0x0020 ∧ n.outs.getD 0 0 ∈ g.recordOut then x.results else r.results }

/-- Run a graph on its bound input bytes: the ranking nodes last, so that the flags they copy are final (R248). Nothing reads what
they write, and any order that respects the data gives the same outputs (R199). -/
def runGraph (g : Graph) (env : RunEnv) (inputs : List (Nat × Bytes)) : RunRes :=
  let r0 : RunRes := ⟨inputs, if env.short then fSensorShort else 0, 0, 0, 0, 0, false, 0xFFFF, 0, 0⟩
  let ns := g.nodes.zipIdx
  ((ns.filter fun n => n.1.op != 0x0020) ++ ns.filter fun n => n.1.op == 0x0020).foldl (fun r n => runNode g env n.2 n.1 r) r0

/-- Byte ranges of a bound input tensor that the nodes read: all of it, or the used parts of a weight blob. -/
def usedRanges (g : Graph) (tensor : Nat) : List (Nat × Nat) :=
  let t := g.tensors.getD tensor noTensor
  if t.format = 7 then
    g.nodes.flatMap fun n =>
      let p := n.params
      let at1 := n.op == 0x0010 && n.ins.getD 1 0xFFFF == tensor
      let at2 := n.op == 0x0002 && n.ins.getD 2 0xFFFF == tensor
      if at1 ∨ at2 then
        let co := at_ p 2 2
        let nw := (if at2 then 27 else at_ p 6 1 * at_ p 6 1) * at_ p 0 2 * co
        [(at_ p 12 4, weightBytes (at_ p 5 1) nw)]
          ++ (if at_ p 16 4 = 0xFFFFFFFF then [] else [(at_ p 16 4, if at_ p 5 1 = 6 then weightBytes 6 co else 4 * co)])
          ++ (if at_ p 20 4 = 0xFFFFFFFF then [] else [(at_ p 20 4, 4 * co)])
      else []
  else [(0, t.size)]

end Sys2Proof.Machine
end

