-- ==== Sys2Proof/Machine/Jobs.lean ====
section
/-! DEFINITION. Graph handles, jobs, tokens, dispatch, attempts and core faults (10_jobs_tokens_restart.md,
09_compute_core_numerics.md). -/

namespace Sys2Proof.Machine

def State.job (s : State) (t : Fin 64) : Option Job := s.jobs.tags.get t
def State.updJob (s : State) (t : Fin 64) (f : Job → Job) : State :=
  s.updJobs fun j => { j with tags := bankUpd j.tags t fun x => x.map f }

/-- Nothing shown where a command names graphs, tokens or cores that do not exist. -/
def noneError (i r : Nat) : Bytes := le 4 i ++ le 4 r

/-! ## Tokens (R144, R145, R213) -/

def tokenMax : Nat := 0x00FFFFFF

def State.token (s : State) (p : Port) (id : Nat) : Option Token :=
  s.jobs.tokens.find? fun t => t.id == id && t.port == p

def State.updToken (s : State) (id : Nat) (f : Token → Token) : State :=
  s.updJobs fun j => { j with tokens := j.tokens.map fun t => if t.id = id then f t else t }

/-- Amount a waiter asks for. -/
def Waiter.amount : Waiter → Nat
  | .host _ n _ => n
  | .job _ => 1

/-- A job first becomes READY: it takes its place in the order (R208). -/
def State.makeReady (s : State) (t : Fin 64) : State :=
  let s1 := s.updJob t fun j =>
    { j with st := .ready, readyPos := some (j.readyPos.getD s.jobs.readyNext) }
  s1.updJobs fun j => { j with readyNext := j.readyNext + 1 }

/-- Bound sensor ports of a job, each once. -/
def Job.ports (j : Job) : List (Fin 6) := (List.finRange 6).filter fun p => j.binds.any fun b => b.kind == 2 && b.target == p.val

/-- The job has taken its token, or has none. -/
def Job.pastToken (j : Job) : Bool := j.waitToken.isNone || j.tokenTaken

/-- The job's sensor wait has ended (R205): every port delivered, or SENSOR_MIN and the window. -/
def Job.sensorsDone (j : Job) (now : Nat) : Bool :=
  decide (j.ports.length ≤ j.delivered.length) ||
    (decide (j.graph.sensorMin ≠ 0) && decide (j.graph.sensorMin ≤ j.delivered.length)
      && !j.delivered.isEmpty
      && decide ((j.delivered.map (·.fsTick)).foldl min now + j.graph.windowUs * usTicks ≤ now))

/-- Leave WAITING when nothing is waited for: the camera models are taken now (R219). -/
def State.tryReady (s : State) (t : Fin 64) : State :=
  match s.job t with
  | none => s
  | some j =>
    if j.st = .waiting ∧ j.pastToken ∧ j.sensorsDone s.now then
      let short := decide (j.delivered.length < j.ports.length)
      (s.updJob t fun j =>
        { j with cams := j.ports.map fun p => (p, (s.headbox.cam.get p).active),
                 flags := Nat.lor j.flags (if short then fSensorShort else 0) }).makeReady t
    else s

/-- A waiter is served: a command is answered, a job goes on to its sensor wait. -/
def State.served (s : State) (w : Waiter) (count : Nat) : State :=
  match w with
  | .host t _ _ => s.reply t stOk (le 4 count)
  | .job t => (s.updJob t fun j => { j with tokenTaken := true, waitFrom := s.devTime }).tryReady t

/-- Serve the waiters of a token in arrival order until the count falls short (R145). -/
def State.serveToken (id : Nat) : Nat → State → State
  | 0, s => s
  | fuel + 1, s =>
    match s.jobs.tokens.find? fun t => t.id == id with
    | none => s
    | some t =>
      match t.waiters with
      | [] => s
      | w :: rest =>
        if w.amount ≤ t.count then
          let s1 := s.updToken id fun t => { t with count := t.count - w.amount, waiters := rest }
          State.serveToken id fuel (s1.served w (t.count - w.amount))
        else s

/-- Serve a token's whole queue. -/
def State.settleToken (s : State) (id : Nat) : State :=
  let n := ((s.jobs.tokens.find? fun t => t.id == id).map (·.waiters.length)).getD 0
  State.serveToken id (n + 1) s

/-- The count of a token now. -/
def State.tokenCount (s : State) (id : Nat) : Nat := ((s.jobs.tokens.find? fun t => t.id == id).map (·.count)).getD 0

/-- A signal from the device itself: saturating, and whether it saturated (R207, R258). -/
def State.signalToken (s : State) (id : Nat) : State × Bool :=
  match s.jobs.tokens.find? fun t => t.id == id with
  | none => (s, false)
  | some t =>
    if t.count < tokenMax then ((s.updToken id fun t => { t with count := t.count + 1 }).settleToken id, false)
    else (s, true)

/-- Tokens an owner holds. -/
def State.tokensOf (s : State) (p : Port) : Nat := (s.jobs.tokens.filter fun t => t.port == p).length

/-- TOKEN_ALLOC. -/
def doTokenAlloc (t : Ticket) (initial : Word) (s : State) : State :=
  let p := t.hdr.port
  if tokenMax < initial.toNat then s.reply t eParam []
  else if (s.owner p).quotaTok ≤ s.tokensOf p then s.reply t eQuota []
  else
    let used := s.jobs.tokens.map (·.id)
    match ((List.range 0x3C00).filter fun i => !used.contains i) with
    | [] => s.reply t eNoMemory []
    | x :: xs =>
      let id := (x :: xs).getD (Config.place s.mem.order % (xs.length + 1)) x
      ((s.updMem fun m => { m with order := m.order + 1 }).updJobs fun j =>
        { j with tokens := j.tokens ++ [⟨id, p, initial.toNat, []⟩] }).reply t stOk (le 2 id ++ zeros 2)

/-- TOKEN_SIGNAL. -/
def doTokenSignal (t : Ticket) (token : BitVec 16) (amount : Word) (s : State) : State :=
  let n := amount.toNat
  match s.token t.hdr.port token.toNat with
  | none => s.reply t eParam []
  | some k =>
    if n = 0 ∨ tokenMax < n ∨ tokenMax < k.count + n then s.reply t eParam []
    else
      let s1 := (s.updToken k.id fun k => { k with count := k.count + n }).settleToken k.id
      s1.reply t stOk (le 4 (s1.tokenCount k.id))

/-- TOKEN_WAIT. -/
def doTokenWait (t : Ticket) (token : BitVec 16) (amount timeout : Word) (s : State) : State :=
  let n := amount.toNat
  match s.token t.hdr.port token.toNat with
  | none => s.reply t eParam []
  | some k =>
    if n = 0 ∨ tokenMax < n ∨ 60000 < timeout.toNat then s.reply t eParam []
    else if k.waiters.isEmpty ∧ n ≤ k.count then
      (s.updToken k.id fun k => { k with count := k.count - n }).reply t stOk (le 4 (k.count - n))
    else if timeout = 0 then s.reply t eTimeout []
    else s.updToken k.id fun k => { k with waiters := k.waiters ++ [.host t n (s.now + timeout.toNat * msTicks)] }

/-- A job not yet ended names a token. -/
def State.tokenNamed (s : State) (id : Nat) : Bool :=
  ((bankList s.jobs.tags).any fun x =>
    match x.2 with
    | some j => !j.st.ended && (j.waitToken == some id || j.signalToken == some id)
    | none => false)
  || (bankList s.sensors).any fun x => (x.2.st == .armed || x.2.st == .receiving) && x.2.arm.token == some id

/-- TOKEN_FREE: every queued TOKEN_WAIT is cancelled. -/
def doTokenFree (t : Ticket) (token : BitVec 16) (s : State) : State :=
  match s.token t.hdr.port token.toNat with
  | none => s.reply t eParam []
  | some k =>
    if s.tokenNamed k.id then s.reply t eBusy []
    else
      let s1 := s.updJobs fun j => { j with tokens := j.tokens.filter fun x => x.id != k.id }
      (k.waiters.foldl (fun s w =>
        match w with
        | .host t _ _ => s.reply t eCancelled []
        | .job _ => s) s1).reply t stOk []

/-- The oldest wait of a token whose time has passed takes nothing; those behind it are judged again (R145). -/
def State.tokenTimeout (s : State) (port : Port) (token : Nat) : State :=
  match s.token port token with
  | none => s
  | some k =>
    let due (w : Waiter) : Bool := match w with
      | .host _ _ d => decide (d ≤ s.now)
      | .job _ => false
    match k.waiters.find? due with
    | some (.host t n d) =>
      let s1 := s.updToken k.id fun k => { k with waiters := k.waiters.erase (.host t n d) }
      (s1.reply t eTimeout []).settleToken k.id
    | _ => s

/-! ## Graphs (R201, R142) -/

/-- Version of the running OPLIB as major and minor. -/
def State.oplib (s : State) : Nat := ((s.boot.running.get 3).map fun i => i.version.toNat / 65536).getD 0

def State.graph (s : State) (p : Port) (h : Nat) : Option Graph :=
  s.jobs.graphs.find? fun g => g.handle == h && g.port == p

/-- GRAPH_LOAD. -/
def doGraphLoad (t : Ticket) (region : Word) (offset : BitVec 64) (length : Word) (s : State) : State :=
  let n := length.toNat
  let p := t.hdr.port
  if offset.toNat % 4 ≠ 0 ∨ n % 4 ≠ 0 ∨ n < 4 ∨ 16777216 < n then s.reply t eParam []
  else
    let r := s.readRange p region.toNat offset.toNat n
    if r.1 ≠ stOk then r.2.1.reply t r.1 []
    else
      match checkGraph r.2.2 s.oplib with
      | some (i, c) => r.2.1.reply t eGraph (noneError i c)
      | none =>
        let g := graphOf r.2.2 (s.handle s.mem.nextHandle) p
        if 256 ≤ s.jobs.graphs.length ∨ 2 ^ 24 ≤ s.mem.nextHandle ∨ 1024 < s.mem.selfMib + g.copyMib then
          r.2.1.reply t eNoMemory []
        else
          ((r.2.1.updMem fun m => { m with nextHandle := m.nextHandle + 1, selfMib := m.selfMib + g.copyMib }).updJobs
            fun j => { j with graphs := j.graphs ++ [g] }).reply t stOk
              (le 4 g.handle ++ le 4 g.nodes.length ++ le 4 g.slots.length ++ le 4 g.records)

/-- GRAPH_UNLOAD. -/
def doGraphUnload (t : Ticket) (graph : Word) (s : State) : State :=
  match s.graph t.hdr.port graph.toNat with
  | none => s.reply t eGraph []
  | some g =>
    let used := (bankList s.jobs.tags).any fun x =>
      match x.2 with
      | some j => !j.st.ended && j.graph.handle == g.handle
      | none => false
    if used then s.reply t eBusy []
    else
      ((s.updMem fun m => { m with selfMib := m.selfMib - g.copyMib }).updJobs fun j =>
        { j with graphs := j.graphs.filter fun x => x.handle != g.handle }).reply t stOk []

/-! ## Submission (R142, R202, R204, R219) -/

/-- Range of a binding: region handle, first byte, byte past the end. -/
def bindRange (g : Graph) (b : Binding) : Nat × Nat × Nat :=
  let sz := (g.tensors.getD (g.slots.getD b.slot ⟨0, 0⟩).tensor noTensor).size
  (b.target, b.offset, b.offset + sz)

def overlap (a b : Nat × Nat × Nat) : Bool := a.1 == b.1 && decide (a.2.1 < b.2.2) && decide (b.2.1 < a.2.2)

/-- A RESULT_FETCH with RELEASE of a job is yet to act in this tick (Table 12-10). -/
def State.fetchWaits (s : State) (p : Port) (t : Fin 64) : Bool :=
  let is (c : Cmd) : Bool := match c with
    | .resultFetch x r _ _ => r && x.toNat == t.val
    | _ => false
  (s.arrivals.any fun a => a.hdr.port == p && is a.cmd) ||
    s.behind fun i => match i.cmd? with
      | some (h, c) => h.port == p && is c
      | none => false

/-- A binding clashes with one of a job not yet ended (R202), or whose records are fetched only later in this tick. -/
def State.bindBusy (s : State) (g : Graph) (b : Binding) : Bool :=
  b.kind != 2 && (bankList s.jobs.tags).any fun x =>
    match x.2 with
    | some j =>
      j.binds.any fun c =>
        c.kind != 2 && overlap (bindRange g b) (bindRange j.graph c)
          && (if j.st.ended then b.kind == 1 && c.kind == 1 && s.fetchWaits j.port x.1 else b.kind == 1 || c.kind == 1)
    | none => false

/-- The sensor tensors of two bindings of one port are inputs of one headbox node (R223). -/
def sharesIngest (g : Graph) (b c : Binding) : Bool :=
  let tensor (x : Binding) : Nat := (g.slots.getD x.slot ⟨0, 0⟩).tensor
  b.kind == 2 && c.kind == 2 && b.target == c.target
    && g.nodes.any fun n => n.op == 0x0001 && n.ins.contains (tensor b) && n.ins.contains (tensor c)

/-- Reason a binding fails, 0 when it matches its slot (Table 10-2). Two inputs of one headbox node on one port are known only
here, and fail with reason 6 as R223 has it: DEDUCED, notes/assumptions/16. -/
def State.bindReason (s : State) (g : Graph) (bs : List Binding) (i : Nat) (b : Binding) (p : Port) : Nat :=
  let sl := g.slots.getD b.slot ⟨0, 0⟩
  let t := g.tensors.getD sl.tensor noTensor
  let port := s.sensors.get (Fin.ofNat 6 b.target)
  firstReason
    [(decide (b.slot < g.slots.length) && !((bs.take i).any fun c => c.slot == b.slot), 32),
     (b.kind == sl.kind, 34),
     (b.kind == 2 || (match s.region p b.target with
        | some r => decide (b.offset + t.size ≤ r.size)
        | none => true), 35),
     (b.kind == 2 || b.offset % 64 == 0, 36),
     (b.kind == 2 || !((bs.take i).any fun c =>
        c.kind != 2 && (c.kind == 1 || b.kind == 1) && overlap (bindRange g b) (bindRange g c)), 37),
     (b.kind != 2 || (port.st != .unconfigured && port.cfg.height == t.dim 0 && port.cfg.width == t.dim 1
        && (if port.cfg.conf then 2 else 1) == t.dim 2), 38),
     (!((bs.take i).any (sharesIngest g b)), 6)]

/-- The first failing binding, then an unbound slot. -/
def State.bindError (s : State) (g : Graph) (bs : List Binding) (p : Port) : Option GraphErr :=
  match bs.zipIdx.findSome? fun x =>
    let r := s.bindReason g bs x.2 x.1 p
    if r = 0 then none else some (x.2, r) with
  | some e => some e
  | none =>
    if (List.range g.slots.length).all fun k => bs.any fun b => b.slot == k then none else some (wholeGraph, 33)

/-- Tags a share has in use. -/
def State.tagsInUse (s : State) (p : Port) : Nat :=
  ((bankList s.jobs.tags).filter fun x => (x.2.map (·.port)) == some p).length

/-- The bindings of a submission. -/
def bindingsOf (p : SubmitP) : List Binding :=
  p.binds.map fun b => ⟨b.slot.toNat, b.kind.toNat, b.target.toNat, b.offset.toNat⟩

/-- Checks of JOB_SUBMIT before the tag: a status and a graph error, or none. -/
def State.submitError (s : State) (t : Ticket) (p : SubmitP) : Option (Nat × Bytes) :=
  let o := t.hdr.port
  let bs := bindingsOf p
  let token (x : BitVec 16) : Bool := x == 0xFFFF || (s.token o x.toNat).isSome
  if t.hdr.cls ≠ 7 ∨ t.hdr.idx.toNat ≠ o.id ∨ (7 < p.retry.toNat ∧ p.retry ≠ 0xFF) ∨ bs.length < 1 ∨ 32 < bs.length then
    some (eParam, [])
  else if bs.any (fun b => decide (2 < b.kind) || b.kind == 2 && (decide (5 < b.target) || b.offset != 0)) then
    some (eParam, [])
  else
    match s.graph o p.graph.toNat with
    | none => some (eGraph, noneError wholeGraph 0)
    | some g =>
      if ¬ s.holds o 7 o.id then some (eQuota, [])
      else if bs.any (fun b => b.kind == 2 && !s.holds o 4 b.target) then some (eNotHolder, [])
      else if ¬ token p.waitToken ∨ ¬ token p.signalToken then some (eParam, [])
      else
        match s.bindError g bs o with
        | some (i, r) => some (eGraph, noneError i r)
        | none =>
          if bs.any (fun b => b.kind != 2 && (s.region o b.target).isNone) then some (eRegion, [])
          else if bs.any (fun b => b.kind == 2 && !(s.headbox.cam.get (Fin.ofNat 6 b.target)).valid) then some (eState, [])
          else if bs.any (s.bindBusy g) then some (eBusy, [])
          else if s.leases.tags.get o ≤ s.tagsInUse o then some (eQuota, [])
          else if (bankList s.jobs.tags).all (fun x => x.2.isSome) then some (eTagsFull, [])
          else none

/-- A new job. -/
def newJob (s : State) (o : Port) (g : Graph) (p : SubmitP) : Job :=
  { port := o, graph := g, st := .waiting, attempt := 0, retry := if p.retry = 0xFF then s.jobs.retryMax else p.retry.toNat,
    autoRelease := p.autoRelease, waitToken := if p.waitToken = 0xFFFF then none else some p.waitToken.toNat,
    tokenTaken := false, signalToken := if p.signalToken = 0xFFFF then none else some p.signalToken.toNat,
    binds := bindingsOf p, waitFrom := s.devTime, delivered := [], cams := [], readyPos := none, cores := [],
    brokeKey := none, brokeHbm := [], brokeVat := [], hashSeed := 0, rebuilds := 0, rebuildNode := none,
    selfTokens := [], disarmed := [], lastClass := 0,
    lastCore := 0xFF, lastRegion := 0, lastDetail := 0, flags := 0, final := 0xFFFF, results := 0, start := 0, end_ := 0 }

/-- JOB_SUBMIT. The lowest free tag is taken: DESIGN CHOICE, notes/assumptions/16. -/
def doJobSubmit (t : Ticket) (p : SubmitP) (s : State) : State :=
  match s.submitError t p, s.graph t.hdr.port p.graph.toNat with
  | some (st, body), _ => s.reply t st body
  | none, none => s.reply t eGraph (noneError wholeGraph 0)
  | none, some g =>
    match (bankList s.jobs.tags).find? fun x => x.2.isNone with
    | none => s.reply t eTagsFull []
    | some (tag, _) =>
      let s1 := s.updJobs fun j =>
        { j with tags := bankSet j.tags tag (some (newJob s t.hdr.port g p)), log := bankSet j.log tag 0 }
      let s2 : State := { s1 with headbox := { s1.headbox with
        ingest := bankSet s1.headbox.ingest tag 0, sparse := bankSet s1.headbox.sparse tag 0xFFFF } }
      let s3 := s2.reply t stAccepted (le 1 tag.val ++ zeros 3)
      if p.waitToken = 0xFFFF then s3.tryReady tag
      else
        (s3.updToken p.waitToken.toNat fun k => { k with waiters := k.waiters ++ [.job tag] }).settleToken
          p.waitToken.toNat

/-! ## Frames (R204, R259) -/

/-- Free the frame buffers a job holds. -/
def State.freeFrames (s : State) (t : Fin 64) : State :=
  forAll s fun s p => s.updSensor p fun x =>
    { x with bufs := x.bufs.map fun b =>
        if b.jobs.contains t then
          let rest := b.jobs.filter (· != t)
          if rest.isEmpty then { b with jobs := [], st := .free } else { b with jobs := rest }
        else b }

/-- A port is disarmed: it never delivers to a job that waits on it now (R205). -/
def State.portDisarmed (s : State) (port : Fin 6) : State :=
  forAll s fun s (t : Fin 64) => s.updJob t fun j =>
    if j.st = .waiting ∧ j.pastToken ∧ j.ports.contains port then { j with disarmed := port :: j.disarmed } else j

/-- Deliver a complete frame to every job that waits for it; whether one took it. -/
def State.deliver (s : State) (port : Fin 6) (buffer : Fin 4) (fsTime fsTick : Nat) : State × List (Fin 64) :=
  let takers := ((bankList s.jobs.tags).filter fun x =>
    match x.2 with
    | some j =>
      j.st == .waiting && j.pastToken && j.ports.contains port && !j.disarmed.contains port && !(j.delivered.any fun d => d.port == port)
        && decide (j.waitFrom ≤ fsTime)
    | none => false).map (·.1)
  (takers.foldl (fun s t =>
    (s.updJob t fun j => { j with delivered := j.delivered ++ [⟨port, buffer, fsTime, fsTick⟩] }).tryReady t) s, takers)

/-- SENSOR_WINDOW_EXPIRY (R205). It gives way to the commands of its tick: a CAM_COMMIT acts first (Table 11-8). -/
def execSensorWindowExpiry (tag : Fin 64) (s : State) : Host.Outcome State Fault Refusal :=
  .next (if s.commandsWait then s.putOff (.sensorWindowExpiry tag) else s.tryReady tag)

/-! ## Dispatch (R208, R209) -/

/-- Cores not PINNED, reserved or retired. -/
def State.poolCores (s : State) : Nat :=
  ((List.finRange 32).filter fun c => (s.core1 c).st != .pinned && !s.reserved c && !(s.core1 c).retired).length

/-- Effective CORES_MIN of a share (R209). -/
def State.coresEff (s : State) (p : Port) : Nat :=
  let held (q : Port) : Nat := if s.holds q 7 q.id then s.leases.cores.get q else 0
  let m := ((List.finRange 4).map held).sum
  if m ≤ s.poolCores then held p else held p * s.poolCores / m

/-- A core is free for dispatch. -/
def State.coreFree (s : State) (c : Fin 32) : Bool :=
  ((s.core1 c).st == .off || (s.core1 c).st == .idle) && !s.reserved c && !(s.core1 c).retired && !s.fabric.dbgHalt.get c

/-- The rate at the last read-back voltage meets the target (R50): as measured since the failure, else as R45
guarantees it. -/
def State.rateMeets (s : State) : Bool :=
  match s.fabric.rateNow with
  | some r => decide (s.fabric.rateTgtOn ≤ r)
  | none => decide (720 ≤ s.vcoreMv) && decide (s.fabric.rateTgtOn ≤ 680)

/-- Dispatch is held outside FULL, by R33, R48, R50 or R162, while LIMIT meets an AVSBus failure (Table 2-9), or by an HBM
stack's test (Table 22-5). -/
def State.dispatchHeld (s : State) : Bool :=
  s.boot.dev != .full || s.keys.keysOut || s.underTest 2 || s.underTest 3
    || (s.thermal.limit && (decide (s.thermal.ceilMv ≤ 720) || s.avs.failed)) || s.fabric.capHold
    || (s.avs.failed && !s.rateMeets)

/-- Cores an owner's attempts occupy. -/
def State.coresUsed (s : State) (p : Port) : Nat :=
  ((bankList s.jobs.tags).map fun x =>
    match x.2 with
    | some j => if j.port = p then j.cores.length else 0
    | none => 0).sum + ((s.jobs.stopping.filter fun a => a.port == p).map (·.cores.length)).sum

/-- Owed cores of an owner. -/
def State.coresOwed (s : State) (p : Port) : Nat := s.coresEff p - s.coresUsed p

/-- READY jobs with their places. -/
def State.readyJobs (s : State) : List (Fin 64 × Job) :=
  (bankList s.jobs.tags).filterMap fun x =>
    match x.2 with
    | some j => if j.st = .ready then some (x.1, j) else none
    | none => none

/-- The head of the dispatch order. -/
def State.headJob (s : State) : Option (Fin 64 × Job) :=
  let first (l : List (Fin 64 × Job)) : Option (Fin 64 × Job) :=
    l.foldl (fun a x => match a with
      | none => some x
      | some y => if x.2.readyPos.getD 0 < y.2.readyPos.getD 0 then some x else some y) none
  let r := s.readyJobs
  match first (r.filter fun x => decide (0 < s.coresOwed x.2.port)) with
  | some x => some x
  | none => first r

/-- SELF tokens that no attempt has (R213, R214). -/
def State.freeSelfTokens (s : State) : List Nat :=
  let used := ((bankList s.jobs.tags).flatMap fun x =>
    match x.2 with
    | some j => j.selfTokens.map (·.1)
    | none => []) ++ s.jobs.stopping.flatMap fun a => a.selfTokens.map (·.1)
  ((List.range 0x400).map (· + 0x3C00)).filter fun i => !used.contains i

/-- Start an attempt on cores (R163, R188, R206, R214). Which SELF tokens it gets, and how many of the 16, is Mboit's choice:
free, notes/assumptions/16. -/
def State.startAttempt (s : State) (t : Fin 64) (j : Job) (cs : List (Fin 32)) : State :=
  let key := s.mem.nextKey
  let hb := pickSome j.graph.brokeHbm s.mem.order (s.freeGranules .hbm)
  let vt := pickSome j.graph.brokeVat (s.mem.order + 65536) (s.freeGranules .vat)
  let selfs := (pickSome (Config.place (s.mem.order + 196608) % 17) (s.mem.order + 262144) s.freeSelfTokens).map fun i => (i, 0)
  let s1 := (s.drew.fillSlot (slotBroke t)).updMem fun m =>
    { m with nextKey := key + 1, order := m.order + 1,
             hbm := { m.hbm with broke := m.hbm.broke ++ hb.map fun g => ⟨g, key, m.order⟩ },
             vat := { m.vat with broke := m.vat.broke ++ vt.map fun g => ⟨g, key, m.order⟩ } }
  let s2 := s1.updJob t fun j =>
    { j with st := .running, attempt := j.attempt + 1, cores := cs, brokeKey := some key, brokeHbm := hb, brokeVat := vt,
             hashSeed := s.draws, rebuilds := 0, rebuildNode := none, selfTokens := selfs,
             start := if j.attempt = 0 then s.devTime else j.start }
  cs.foldl (fun s c => s.updCore c fun x => { x with st := .job, job := some t }) s2

/-- The head of the order is dispatched where it fits. Which free cores are taken is open. -/
def State.dispatch (s : State) : State :=
    match s.headJob with
    | none => s
    | some (t, j) =>
      let free := (List.finRange 32).filter s.coreFree
      let others := ((List.finRange 4).filter fun p => p != j.port && s.readyJobs.any fun x => x.2.port == p)
      let owed := (others.map s.coresOwed).sum
      let a := free.length - owed
      if a < j.graph.coresLow ∨ s.dispatchHeld ∨ s.freeCount .hbm < j.graph.brokeHbm ∨ s.freeCount .vat < j.graph.brokeVat
      then s
      else
        let pick := pickSome (min j.graph.coresHigh a) (s.mem.order + 131072) (free.map (·.val))
        s.startAttempt t j (pick.map (Fin.ofNat 32))

/-! ## Faults of one tick (Table 9-8, Table 10-5) -/

/-- The token of a misuse, and whether it is misused by an attempt with these SELF tokens. -/
def misusedToken : Misused → Nat
  | .foreign t | .overflow t => t.toNat

def misusedBy (m : Misused) (own : List (Nat × Nat)) : Bool :=
  match m with
  | .foreign t => !(own.any fun x => x.1 == t.toNat)
  | .overflow t => own.any fun x => x.1 == t.toNat

/-- Class of an error met in an attempt (Table 7-8): 3 for a tag mismatch, else 1. -/
def State.errClass (s : State) (j : Job) (met : ErrAt) (mismatch : Bool) (region : Nat) : Nat :=
  match met with
  | .broke false => if mismatch then 3 else 1
  | .region => if mismatch ∧ (s.region j.port region).map (·.place) = some .hbm then 3 else 1
  | _ => 1

/-- The attempt that a fault row would abandon, and the class it would record. -/
def State.rowFault (s : State) (r : Instr) : Option (Fin 64 × Nat) :=
  let onCore (c : Fin 32) (cls : Nat) : Option (Fin 64 × Nat) :=
    if (s.core1 c).st = .job then (s.core1 c).job.map fun t => (t, cls) else none
  match r with
  | .hsWdtExpiry c => if s.fabric.dbgHalt.get c then none else onCore c 2
  | .lateArrival c => onCore c 5
  | .tokenMisuse c m =>
    match (s.core1 c).job with
    | some t => if misusedBy m (((s.job t).map (·.selfTokens)).getD []) then onCore c 4 else none
    | none => none
  | .hashRebuild x =>
    match s.job x.tag with
    | some j => if j.st = .running ∧ j.rebuildNode = some x.node ∧ 3 ≤ j.rebuilds then some (x.tag, 5) else none
    | none => none
  | .memUncorrectable self met tag mismatch region _ =>
    match self, met, s.job tag with
    | false, .weights _ _, _ => none
    | false, m, some j => if j.st = .running then some (tag, s.errClass j m mismatch region.toNat) else none
    | _, _, _ => none
  | _ => none

/-- A fault of a lower class in the same attempt has yet to act in this tick. -/
def State.outranked (s : State) (t : Fin 64) (cls : Nat) : Bool :=
  s.behind fun r => match s.rowFault r with
    | some (u, c) => u == t && decide (c < cls)
    | none => false

/-- A fault of an attempt has yet to act in this tick. -/
def State.faultComes (s : State) (t : Fin 64) : Bool := s.behind fun r => (s.rowFault r).map (·.1) == some t

/-- A row ends an attempt. -/
def State.endsAttempt (s : State) (r : Instr) : Bool :=
  (s.rowFault r).isSome || match r with
    | .attemptComplete _ | .attemptStopped _ => true
    | _ => false

/-- The attempt on a core ends, or the core enters FAULT, by a row of this tick that has yet to act. -/
def State.coreEnds (s : State) (c : Fin 32) : Bool :=
  match (s.core1 c).job with
  | none => false
  | some t => s.behind fun r => (s.rowFault r).map (·.1) == some t || r == .attemptComplete t || r == .attemptStopped t

/-- JOB_DISPATCH. It gives way to the commands of its tick, a MEM_ALLOC or a LEASE_TAKE among them, and to the attempts that end
in it (Table 8-5, Table 10-5). -/
def execJobDispatch (s : State) : Host.Outcome State Fault Refusal :=
  .next (if s.commandsWait ∨ s.behind s.endsAttempt then s.putOff .jobDispatch else s.dispatch)

/-! ## End of an attempt and of a job (R206, R211) -/

/-- An entry of ATTEMPT_LOGt. -/
def State.logAttempt (s : State) (t : Fin 64) (a code : Nat) : State :=
  s.updJobs fun j => { j with log := bankUpd j.log t fun l => l + code * 16 ^ (a - 1) }

/-- Return an attempt's broke, tokens and key set. -/
def Job.release (j : Job) : Job :=
  { j with cores := [], brokeKey := none, brokeHbm := [], brokeVat := [], selfTokens := [] }

/-- The attempt of a tag ends: its broke key set is destroyed (R161), its broke and tokens go back. -/
def State.releaseAttempt (s : State) (t : Fin 64) : State := (s.updJob t Job.release).fillSlot (slotBroke t)

/-- EV_JOB_DONE (Table 7-14). -/
def State.jobDone (s : State) (t : Fin 64) (j : Job) : State :=
  s.raise 1 7 (Port.id j.port) (le 1 t.val ++ le 1 j.attempt ++ le 2 j.final ++ le 4 j.flags ++ le 4 j.results
    ++ le 4 j.graph.handle ++ le 1 j.lastClass ++ le 1 j.lastCore ++ zeros 2 ++ le 4 j.lastDetail) j.port

/-- Free a tag. An attempt of it whose cores still stop goes on stopping without a tag: DEDUCED, notes/assumptions/16. -/
def State.freeTag (s : State) (t : Fin 64) : State :=
  let s1 := s.updJobs fun j => { j with tags := bankSet j.tags t none }
  match s.job t with
  | none => s1
  | some j =>
    if j.brokeKey.isNone then s1
    else
      let s2 := s1.updJobs fun x => { x with stopping := x.stopping ++ [⟨t, j.port, j.cores, j.brokeHbm, j.brokeVat, j.selfTokens⟩] }
      j.cores.foldl (fun s c => s.updCore c fun x => if x.job = some t then { x with job := none } else x) s2

/-- End a job: its frames go, its event is raised, its tag is freed under AUTO_RELEASE. EV_JOB_DONE is raised at every end:
DEDUCED, notes/assumptions/16. -/
def State.endJob (s : State) (t : Fin 64) (st : JobSt) (final : Nat) : State :=
  let s1 := (s.updJob t fun j =>
    { j with st := st, final := final, end_ := s.devTime }).freeFrames t
  match s1.job t with
  | none => s1
  | some j =>
    let s2 := s1.jobDone t j
    let s3 := s2.updJobs fun x =>
      { x with cntFailed := if st = .failed then satInc 65535 x.cntFailed else x.cntFailed,
               cntCancel := if st = .cancelled then satInc 65535 x.cntCancel else x.cntCancel }
    if j.autoRelease then s3.freeTag t else s3

/-- Free the cores that an attempt of tag `o` still holds (none: its tag is freed already). -/
def State.idleCores (s : State) (o : Option (Fin 64)) (cs : List (Fin 32)) : State :=
  cs.foldl (fun s c =>
    s.updCore c fun x => if x.st = .job ∧ x.job = o then { x with st := .idle, job := none, idleAt := s.now } else x) s

/-- Points that a graph's headbox nodes could drop: the pixels of the frames delivered, none without a HEADBOX_INGEST. -/
def State.dropLimit (s : State) (j : Job) : Nat :=
  if j.graph.nodes.any (fun n => n.op == 0x0001) then
    (j.delivered.map fun d => (s.sensors.get d.port).cfg.width * (s.sensors.get d.port).cfg.height).sum
  else 0

/-- The counts of an attempt that did not complete have no stated value: free, the drops within what was there to drop. -/
def State.countAbandoned (s : State) (j : Job) : State :=
  let n := s.freeNat
  let s1 := s.updCores fun c => { c with cntSat := satAdd 65535 c.cntSat n, cntNonfin := satAdd 65535 c.cntNonfin (n / 65536) }
  { s1 with headbox := { s1.headbox with radDrop := satAdd 65535 s1.headbox.radDrop (n / 2 ^ 32 % (s.dropLimit j + 1)) } }.tookFree

/-- Abandon a running attempt (R211). -/
def State.abandon (s : State) (t : Fin 64) (cls core region detail : Nat) : State :=
  match s.job t with
  | none => s
  | some j =>
    if j.st ≠ .running then s
    else
      let s1 := (s.logAttempt t j.attempt cls).countAbandoned j
      let s2 := s1.updJobs fun x => { x with abandons := satInc 0xFFFFFFFF x.abandons }
      let s3 := s2.updJob t fun j =>
        { j with lastClass := cls, lastCore := core, lastRegion := region, lastDetail := detail, st := .restarting }
      if j.attempt ≤ j.retry then s3 else s3.endJob t .failed eJobFailed

/-- A core that is not PINNED enters FAULT. -/
def State.coreFault (s : State) (c : Fin 32) : State :=
  s.updCore c fun x => { x with st := .fault, job := none, faults := satInc 255 x.faults, faultAt := some s.now }

/-- A core fault of a class (R196): the attempt on the core is abandoned; a PINNED core stays PINNED (R343). -/
def State.faultOn (s : State) (c : Fin 32) (cls detail : Nat) : State :=
  let x := s.core1 c
  match x.st with
  | .pinned => s.pinnedCoreFault c
  | .job =>
    let s1 := s.coreFault c
    (match x.job with
     | some t => s1.abandon t cls c.val 0 detail
     | none => s1)
  | _ => s

/-- ATTEMPT_STOPPED: the cores of an abandoned attempt have stopped and its broke key set is destroyed. An attempt whose tag was
freed meanwhile comes before one of the tag's next job: DEDUCED, notes/assumptions/16. -/
def execAttemptStopped (tag : Fin 64) (s : State) : Host.Outcome State Fault Refusal :=
  .next <|
    match s.jobs.stopping.find? (fun a => a.tag == tag), s.job tag with
    | some a, j =>
      let s1 := (s.idleCores none a.cores).updJobs fun x => { x with stopping := x.stopping.erase a }
      if (j.map fun y => y.brokeKey.isSome) = some true then s1.drew else s1.fillSlot (slotBroke tag)
    | none, none => s
    | none, some j =>
      if j.brokeKey.isNone ∨ j.st = .running then s
      else
        let s1 := (s.idleCores (some tag) j.cores).releaseAttempt tag
        if j.st = .restarting then
          let s2 := s1.makeReady tag
          s2.raise 2 7 (Port.id j.port) (le 1 tag.val ++ le 1 j.attempt ++ le 1 j.lastClass ++ le 1 j.lastCore ++ le 4 j.lastRegion
            ++ le 4 j.lastDetail) j.port
        else s1

/-- Frame of a delivery as the headbox reads it. -/
def State.ingestFrame (s : State) (j : Job) (d : Delivery) : IngestFrame :=
  let x := s.sensors.get d.port
  let b := x.bufs.get d.buffer
  let px (l : List Bytes) : List Nat := l.flatMap fun y => (List.range (y.length / 2)).map fun i => at_ y (2 * i) 2
  { port := d.port.val, w := x.cfg.width, h := x.cfg.height, depth := px b.depth,
    conf := if x.cfg.conf then some (px b.conf) else none, unit := x.cfg.unit,
    cam := ((j.cams.find? fun c => c.1 == d.port).map (·.2)).getD .reset }

/-- The environment of an attempt. -/
def State.runEnv (s : State) (t : Fin 64) (j : Job) : RunEnv :=
  { frames := (j.binds.filter fun b => b.kind == 2).map fun b =>
      ((j.graph.slots.getD b.slot ⟨0, 0⟩).tensor,
        (j.delivered.find? fun d => d.port.val == b.target).map (s.ingestFrame j)),
    frameNs := if j.delivered.isEmpty then 0 else
      (j.delivered.map (·.fsTime)).foldl min ((j.delivered.head?.map (·.fsTime)).getD 0) / 65536,
    tag := t.val, mask := (j.delivered.map fun d => 2 ^ d.port.val).sum, short := j.flags.testBit 1 }

/-- The first input line an attempt cannot read: region, line, cause (R173). -/
def State.badInput (s : State) (j : Job) : Option (Nat × Nat × Nat) :=
  (j.binds.filter fun b => b.kind == 0).findSome? fun b =>
    match s.region j.port b.target with
    | none => none
    | some r =>
      (usedRanges j.graph (j.graph.slots.getD b.slot ⟨0, 0⟩).tensor).findSome? fun x =>
        (s.firstBad r (s.domKey j.port) (linesOf (b.offset + x.1) x.2)).map fun y => (b.target, y.1, y.2)

/-- Bytes of the bound inputs, by tensor. -/
def State.inputBytes (s : State) (j : Job) : List (Nat × Bytes) :=
  (j.binds.filter fun b => b.kind == 0).map fun b =>
    let k := (j.graph.slots.getD b.slot ⟨0, 0⟩).tensor
    (k, match s.region j.port b.target with
      | some r => s.rangeBytes r (s.domKey j.port) b.offset (j.graph.tensors.getD k noTensor).size
      | none => [])

/-- Write the bound outputs. -/
def State.writeOutputs (s : State) (j : Job) (r : RunRes) : State :=
  (j.binds.filter fun b => b.kind == 1).foldl (fun s b =>
    let k := (j.graph.slots.getD b.slot ⟨0, 0⟩).tensor
    let bs := ((r.data.find? fun x => x.1 == k).map (·.2)).getD []
    match s.region j.port b.target with
    | some reg => s.writeRange reg (s.domKey j.port) b.offset bs
    | none => s) s

/-- The last node of an attempt completes. An input line that cannot be read abandons the attempt instead (R211). -/
def State.completeAttempt (s : State) (tag : Fin 64) : State :=
    match s.job tag with
    | none => s
    | some j =>
      if j.st ≠ .running ∨ j.cores.any (fun c => s.fabric.dbgHalt.get c) then s
      else
        match s.badInput j with
        | some (reg, line, cause) =>
          (s.noteFault cause (Port.id j.port) tag.val reg line).abandon tag (if cause = 2 then 3 else 1) 0xFF reg line
        | none =>
          let r := runGraph j.graph (s.runEnv tag j) (s.inputBytes j)
          let s1 := (s.writeOutputs j r).logAttempt tag j.attempt 0xF
          let s2 := s1.updCores fun c =>
            { c with cntSat := satAdd 65535 c.cntSat r.sat, cntNonfin := satAdd 65535 c.cntNonfin r.nonfin }
          let ports := (j.delivered.map fun d => 2 ^ d.port.val).sum
          let s3 : State := { s2 with headbox := { s2.headbox with
            radDrop := satAdd 65535 s2.headbox.radDrop r.radDrop,
            ingest := bankSet s2.headbox.ingest tag (r.sites % 2 ^ 23 + bitAt 23 r.capHit + ports * 2 ^ 24),
            sparse := bankSet s2.headbox.sparse tag (r.firstCapped + r.cappedLayers * 65536) } }
          let s4 := ((s3.idleCores (some tag) j.cores).releaseAttempt tag).updJob tag fun j =>
            { j with flags := Nat.lor j.flags r.flags, results := r.results, st := .done }
          let s5 : State := match j.signalToken with
            | some id =>
              let x := s4.signalToken id
              if x.2 then x.1.updJobs fun y => { y with tokenOvf := satInc 65535 y.tokenOvf } else x.1
            | none => s4
          s5.endJob tag .done stOk

/-- ATTEMPT_COMPLETE. A fault in the same tick wins (Table 10-5). -/
def execAttemptComplete (tag : Fin 64) (s : State) : Host.Outcome State Fault Refusal :=
  .next <|
    if s.faultComes tag then s.putOff (.attemptComplete tag) else s.completeAttempt tag

/-- Withdraw a job's token wait; waiters behind it are judged again (Table 10-5). -/
def State.withdraw (s : State) (t : Fin 64) : State :=
  match s.job t with
  | some j =>
    (match j.waitToken with
     | some id =>
       (s.updToken id fun k => { k with waiters := k.waiters.filter fun w => w != .job t }).settleToken id
     | none => s)
  | none => s

/-- A tag of the sender. -/
def State.jobOf (s : State) (p : Port) (tag : Nat) : Option (Fin 64 × Job) :=
  if h : tag < 64 then
    match s.job ⟨tag, h⟩ with
    | some j => if j.port = p then some (⟨tag, h⟩, j) else none
    | none => none
  else none

/-- JOB_CANCEL. -/
def doJobCancel (t : Ticket) (tag : Byte) (s : State) : State :=
  match s.jobOf t.hdr.port tag.toNat with
  | none => s.reply t eParam []
  | some (k, j) =>
    if j.st.ended then s.reply t eState []
    else
      let s1 := if j.st = .running then (s.logAttempt k j.attempt 0xE).countAbandoned j else s.withdraw k
      ((s1.updJob k fun j => { j with st := .cancelled }).endJob k .cancelled eCancelled).reply t stOk []

/-- The command of a waiter. -/
def Waiter.ticket? (w : Waiter) : Option Ticket :=
  match w with
  | .host t _ _ => some t
  | .job _ => none

/-- Hardware shutdown: every outstanding command is answered E_HW_FAULT (07_opcode_reference.md, Faults): the waits for a
token, the writes of the configuration store whose reply is owed. An FW_COMMIT goes on to its end (R40). -/
def State.hostsHwFail (s : State) : State :=
  let owed := (s.jobs.tokens.flatMap fun k => k.waiters.filterMap Waiter.ticket?) ++ s.store.queue.filterMap (·.ticket)
  let s1 := s.updJobs fun j => { j with
    tokens := j.tokens.map fun k => { k with waiters := k.waiters.filter fun w => w.ticket?.isNone } }
  let s2 : State := { s1 with store := { s1.store with queue := s1.store.queue.map fun w => { w with ticket := none } } }
  owed.foldl (fun s t => s.reply t eHwFault []) s2

/-- Hardware shutdown (R34, R58): every job not ended is FAILED, and its attempt stops. -/
def State.jobsHwFail (s : State) (detail : Nat) : State :=
  forAll s fun s (k : Fin 64) =>
    match s.job k with
    | some j =>
      if j.st.ended then s
      else
        let s1 := if j.st = .running then (s.logAttempt k j.attempt 6).countAbandoned j else s.withdraw k
        (s1.updJob k fun j =>
          { j with lastClass := 6, lastCore := 0xFF, lastRegion := 0, lastDetail := detail, st := .failed }).endJob k .failed
            eHwFault
    | none => s

/-- JOB_STATUS. -/
def doJobStatus (t : Ticket) (tag : Byte) (release : Bool) (s : State) : State :=
  match s.jobOf t.hdr.port tag.toNat with
  | none => s.reply t eParam []
  | some (k, j) =>
    let body := le 1 j.st.code ++ le 1 j.attempt ++ le 1 j.retry ++ le 1 j.lastClass ++ le 4 j.flags ++ le 2 j.final
      ++ le 1 j.lastCore ++ zeros 1 ++ le 4 j.results ++ time96Bytes j.start ++ time96Bytes j.end_ ++ le 4 j.lastRegion
      ++ le 4 j.lastDetail
    let s1 := s.reply t stOk body
    if release ∧ j.st.ended then s1.freeTag k else s1

/-- The record output of a job: region, offset. -/
def Job.recordBind (j : Job) : Option Binding :=
  j.binds.find? fun b =>
    b.kind == 1 && (j.graph.tensors.getD (j.graph.slots.getD b.slot ⟨0, 0⟩).tensor noTensor).format == 0x12

/-- RESULT_FETCH (R142, R249). -/
def doResultFetch (t : Ticket) (tag : Byte) (release : Bool) (first count : Word) (s : State) : State :=
  let o := t.hdr.port
  match s.jobOf o tag.toNat with
  | none => s.reply t eParam []
  | some (k, j) =>
    if count = 0 ∨ 1023 < count.toNat ∨ j.recordBind = none then s.reply t eParam []
    else if ¬ j.st.ended then s.reply t eState []
    else if j.final = eCancelled then s.reply t eCancelled []
    else if j.final = eHwFault then s.reply t eHwFault []
    else if j.final ≠ stOk then s.reply t eJobFailed []
    else if j.results ≤ first.toNat then s.reply t eParam []
    else
      match j.recordBind with
      | none => s.reply t eParam []
      | some b =>
        let n := min count.toNat (j.results - first.toNat)
        let off := b.offset + 64 * first.toNat
        if (s.region o b.target).isNone then s.reply t eRegion []
        else if (bankList s.jobs.tags).any (fun x =>
            match x.2 with
            | some j2 => !j2.st.ended && j2.binds.any fun c => c.kind == 1 && overlap (bindRange j.graph b) (bindRange j2.graph c)
            | none => false) then s.reply t eBusy []
        else
          let r := s.readRange o b.target off (64 * n)
          if r.1 ≠ stOk then r.2.1.reply t r.1 []
          else
            let s1 := r.2.1.reply t stOk (le 4 j.results ++ le 4 n ++ r.2.2)
            if release then s1.freeTag k else s1

/-! ## Rows of core faults -/

/-- A core entered FAULT in this tick, so that a second fault of the tick counts without abandoning anything (Table 9-8). -/
def State.faultedNow (s : State) (c : Fin 32) : Bool := (s.core1 c).st == .fault && (s.core1 c).faultAt == some s.now

/-- The attempt on a core has a fault of a lower class in this tick. -/
def State.coreOutranked (s : State) (c : Fin 32) (cls : Nat) : Bool :=
  match (s.core1 c).job with
  | some t => s.outranked t cls
  | none => false

/-- HS_WDT_EXPIRY (R44): a running, not halted core. It gives way to the commands of its tick, since a debug halt of the tick wins
(Table 3-6). The watchdog stands still from the DBG_HALT write on, up to 1 µs before DBG_HALTED shows the core: the manual does
not say which of the two stops it. DESIGN CHOICE, notes/assumptions/9. -/
def execHsWdtExpiry (core : Fin 32) (s : State) : Host.Outcome State Fault Refusal :=
  .next <|
    if s.fabric.dbgHalt.get core then s
    else if s.commandsWait ∨ s.coreOutranked core 2 then s.putOff (.hsWdtExpiry core)
    else if (s.core1 core).st = .job ∨ s.faultedNow core then
      let s1 : State := { s with fabric := { s.fabric with cntHsWdt := satInc 65535 s.fabric.cntHsWdt } }
      s1.faultOn core 2 0
    else s

/-- LATE_ARRIVAL (R43). -/
def execLateArrival (core : Fin 32) (s : State) : Host.Outcome State Fault Refusal :=
  .next <|
    if s.coreOutranked core 5 then s.putOff (.lateArrival core)
    else if (s.core1 core).st = .job ∨ (s.core1 core).st = .pinned ∨ s.faultedNow core then
      let s1 : State := { s with fabric := { s.fabric with cntLate := satInc 65535 s.fabric.cntLate } }
      s1.faultOn core 5 0
    else s

/-- TOKEN_MISUSE (R214). The core is the one that faulted, and goes on: DEDUCED, notes/assumptions/16. -/
def execTokenMisuse (core : Fin 32) (token : Misused) (s : State) : Host.Outcome State Fault Refusal :=
  .next <|
    if s.coreOutranked core 4 then s.putOff (.tokenMisuse core token)
    else
      match (s.core1 core).job with
      | some t => if misusedBy token (((s.job t).map (·.selfTokens)).getD []) then s.abandon t 4 core.val 0 (misusedToken token) else s
      | none => s

/-- HASH_REBUILD (R187): new seeds; the fourth within one operator is a fault of its core. -/
def execHashRebuild (at_ : RebuildAt) (s : State) : Host.Outcome State Fault Refusal :=
  .next <|
    match s.job at_.tag with
    | some j =>
      if j.st = .running ∧ at_.core ∈ j.cores then
        let n := if j.rebuildNode = some at_.node then j.rebuilds else 0
        if 3 ≤ n ∧ s.outranked at_.tag 5 then s.putOff (.hashRebuild at_)
        else
          let s1 := (s.updCores fun c => { c with cntRehash := satInc 65535 c.cntRehash }).drew
          if n < 3 then
            s1.updJob at_.tag fun j => { j with rebuilds := n + 1, rebuildNode := some at_.node, hashSeed := s.draws }
          else s1.faultOn at_.core 5 0
      else s
    | none => s

/-- CORE_SELF_TEST_DONE (R192). -/
def execCoreSelfTestDone (core : Fin 32) (pass : Bool) (s : State) : Host.Outcome State Fault Refusal :=
  .next <|
    let x := s.core1 core
    if x.st = .fault ∧ ¬ x.retired ∧ ¬ s.fabric.dbgHalt.get core ∧ s.boot.dev ≠ .shutdown then
      if pass ∧ x.faults < s.cores.faultMax then (s.updCore core fun x => { x with st := .idle, idleAt := s.now }).repin
      else s.updCore core fun x => { x with retired := true }
    else s

/-- CORE_IDLE_OFF (R189). A halted core keeps its state. -/
def execCoreIdleOff (core : Fin 32) (s : State) : Host.Outcome State Fault Refusal :=
  .next <|
    let x := s.core1 core
    if x.st = .idle ∧ ¬ s.fabric.dbgHalt.get core ∧ s.cores.idleOffMs ≠ 0 ∧ x.idleAt + s.cores.idleOffMs * msTicks ≤ s.now then
      s.updCore core fun x => { x with st := .off }
    else s

/-! ## Registers (R194, R215) -/

/-- A word of the core registers in the FABRIC block. -/
def coresRead (s : State) (off : Nat) : Nat :=
  if h : 0x0400 ≤ off ∧ off < 0x0480 then
    let c : Fin 32 := ⟨(off - 0x0400) / 4, by omega⟩
    let x := s.core1 c
    x.st.code + bitAt 3 x.retired + bitAt 4 (s.reserved c)
      + (match x.job with
         | some t => t.val
         | none => 0xFF) * 256 + x.faults * 65536
  else if off = 0x0480 then s.cores.idleOffMs + s.cores.faultMax * 65536
  else if off = 0x0484 then maskOf 32 fun i => (s.core1 (Fin.ofNat 32 i)).retired
  else if off = 0x0490 then s.cores.cntSat + s.cores.cntNonfin * 65536
  else if off = 0x0498 then s.cores.cntRehash
  else 0

def coresCheck (off v : Nat) : Bool := !(off == 0x0480 && (bits 19 16 v == 0 || decide (1000 < bits 9 0 v)))

def coresWrite (s : State) (off v : Nat) : State :=
  if off = 0x0480 then s.updCores fun c => { c with idleOffMs := bits 9 0 v, faultMax := bits 19 16 v }
  else if off = 0x0494 ∧ v.testBit 0 then s.updCores fun c => { c with cntSat := 0, cntNonfin := 0, cntRehash := 0 }
  else s

/-- Jobs in a state. -/
def State.jobsIn (s : State) (p : JobSt → Bool) : Nat :=
  ((bankList s.jobs.tags).filter fun x =>
    match x.2 with
    | some j => p j.st
    | none => false).length

/-- The owner whose bank of registers at base + stride × n holds an offset, with the offset in the bank. -/
def strideOwner (base stride off : Nat) : Option (Port × Nat) :=
  if base + stride ≤ off ∧ off < base + 2 * stride then some (0, off - base - stride)
  else if base + 2 * stride ≤ off ∧ off < base + 3 * stride then some (1, off - base - 2 * stride)
  else if base + 4 * stride ≤ off ∧ off < base + 5 * stride then some (3, off - base - 4 * stride)
  else none

/-- A word of the JOBS and TOKENS block. At 0x1020 stands TOKEN_OVF, not TOKENS_USED4: DEDUCED, notes/assumptions/15. -/
def jobsRead (s : State) (off : Nat) : Nat :=
  if off = 0x0000 then s.jobs.retryMax
  else if off = 0x0010 then
    s.jobsIn (fun _ => true) + s.jobsIn (· == .waiting) * 256 + s.jobsIn (· == .ready) * 65536
      + s.jobsIn (fun x => x == .running || x == .restarting) * 2 ^ 24
  else if off = 0x0014 then s.jobs.abandons
  else if off = 0x0018 then s.jobs.cntFailed + s.jobs.cntCancel * 65536
  else if h : 0x0100 ≤ off ∧ off < 0x0200 then
    match s.job ⟨(off - 0x0100) / 4, by omega⟩ with
    | some j => j.st.code + (Port.id j.port) * 16 + j.attempt * 256 + (if j.st = .running then j.cores.length else 0) * 65536
    | none => 0
  else if 0x0200 ≤ off ∧ off < 0x0300 then s.jobs.log.getD ((off - 0x0200) / 4) 0
  else if off = 0x1000 then 0x3C00 - s.jobs.tokens.length
  else if off = 0x1020 then s.jobs.tokenOvf
  else
    match strideOwner 0x0400 0x20 off, bankOwner 0x1010 off, strideOwner 0x1040 0x10 off with
    | some (p, o), _, _ =>
      let g := s.graph p (s.jobs.graphSel.get p)
      if o = 0 then s.jobs.graphSel.get p
      else if o = 4 then (match g with
        | some g => g.brokeHbm + g.brokeVat * 65536
        | none => 0)
      else if o = 8 then (match g with
        | some g => g.coresLow + g.coresHigh * 256 + g.sensorMin * 65536 + 2 ^ 31
        | none => 0)
      else 0
    | none, some p, _ => s.tokensOf p
    | none, none, some (p, o) =>
      let k := s.token p (s.jobs.tokSel.get p)
      if o = 0 then s.jobs.tokSel.get p
      else if o = 4 then (match k with
        | some k => k.count + 2 ^ 24
        | none => 0)
      else if o = 8 then (match k with
        | some k => ((k.waiters.head?.map Waiter.amount).getD 0) + min 255 k.waiters.length * 2 ^ 24
        | none => 0)
      else 0
    | none, none, none => 0

/-- The owner who alone may write a word of the block, if any (R215). -/
def jobsWriter (off : Nat) : Option Port :=
  match strideOwner 0x0400 0x20 off, strideOwner 0x1040 0x10 off with
  | some (p, 0), _ => some p
  | _, some (p, 0) => some p
  | _, _ => none

def jobsWrite (s : State) (off v : Nat) : State :=
  if off = 0x0000 then s.updJobs fun j => { j with retryMax := v % 8 }
  else if off = 0x001C ∧ v.testBit 0 then
    s.updJobs fun j => { j with abandons := 0, cntFailed := 0, cntCancel := 0, tokenOvf := 0 }
  else
    match strideOwner 0x0400 0x20 off, strideOwner 0x1040 0x10 off with
    | some (p, 0), _ => s.updJobs fun j => { j with graphSel := bankSet j.graphSel p v }
    | _, some (p, 0) => s.updJobs fun j => { j with tokSel := bankSet j.tokSel p (v % 2 ^ 14) }
    | _, _ => s

/-! ## HEADBOX registers (R218, R233, R234) -/

def State.updCam (s : State) (k : Fin 6) (f : CamState → CamState) : State :=
  { s with headbox := { s.headbox with cam := bankUpd s.headbox.cam k f } }

/-- Every element of R × Rᵀ − I is at most 2^-16 in magnitude, in FP32. -/
def rotOk (m : CamModel) : Bool :=
  (List.range 3).all fun i => (List.range 3).all fun j =>
    let t (k : Nat) : Nat := fMul (m.r (16 + 3 * i + k)) (m.r (16 + 3 * j + k))
    let d := fSub (fAdd (fAdd (t 0) (t 1)) (t 2)) (if i = j then 0x3F800000 else 0)
    fLe (d % 0x80000000) 0x37800000

/-- The first failed check of a shadow model, 0 when all pass (R218). -/
def camCheck (m : CamModel) : Nat :=
  firstReason
    [([0, 1].all (fun i => fFinite (m.r i) && fLt 0 (m.r i)), 1),
     ([2, 3, 4, 5, 6, 7, 8].all (fun i => fFinite (m.r i)), 2),
     ((List.range 9).all (fun i => fFinite (m.r (16 + i))) && rotOk m, 3),
     (decide (m.r 32 < m.r 33), 4)]

/-- Words of the model that exist. -/
def camWord (i : Nat) : Bool :=
  decide (i < 9) || (decide (16 ≤ i) && decide (i < 25)) || (decide (28 ≤ i) && decide (i < 31))
    || (decide (32 ≤ i) && decide (i < 35))

/-- A word of the HEADBOX block. -/
def headboxRead (s : State) (off : Nat) : Nat :=
  if h : off < 0x6000 then
    let x := s.headbox.cam.get ⟨off / 0x1000, by omega⟩
    let o := off % 0x1000
    if o < 0x08C then (if camWord (o / 4) then x.shadow.r (o / 4) else 0)
    else if o = 0x0C4 then bitAt 0 x.valid + x.result * 16 + x.commits * 65536
    else if 0x100 ≤ o ∧ o < 0x18C then (if camWord ((o - 0x100) / 4) then x.active.r ((o - 0x100) / 4) else 0)
    else 0
  else if off = 0xF000 then s.headbox.radDrop
  else if 0xF100 ≤ off ∧ off < 0xF300 then
    (if off % 8 = 0 then s.headbox.ingest.getD ((off - 0xF100) / 8) 0 else s.headbox.sparse.getD ((off - 0xF100) / 8) 0)
  else 0

/-- Write a word of the HEADBOX block; a failed CAM_COMMIT answers E_PARAM and records its RESULT. -/
def headboxWrite (s : State) (off v : Nat) : State :=
  if h : off < 0x6000 then
    let k : Fin 6 := ⟨off / 0x1000, by omega⟩
    let o := off % 0x1000
    if o < 0x08C then
      if camWord (o / 4) then
        s.updCam k fun x =>
          { x with shadow := bankSet x.shadow (Fin.ofNat 35 (o / 4)) (word (if o = 0x088 then v % 65536 else v)) }
      else s
    else if o = 0x0C0 ∧ v.testBit 0 then
      s.updCam k fun x =>
        let r := camCheck x.shadow
        if r = 0 then { x with active := x.shadow, valid := true, result := 0, commits := satInc 65535 x.commits }
        else { x with result := r }
    else s
  else if off = 0xF004 ∧ v.testBit 0 then { s with headbox := { s.headbox with radDrop := 0 } }
  else s

/-- A CAM_COMMIT that would fail (R218). -/
def headboxCheck (s : State) (off v : Nat) : Bool :=
  if h : off < 0x6000 then
    !(off % 0x1000 == 0x0C0 && v.testBit 0) || camCheck (s.headbox.cam.get ⟨off / 0x1000, by omega⟩).shadow == 0
  else true

end Sys2Proof.Machine
end

