-- ==== Sys2Proof/Machine/Sensor.lean ====
section
/-! DEFINITION. The depth sensor ports: packets, frames, triggers, configuration (13_sensor_ports.md). -/

namespace Sys2Proof.Machine

def State.sns (s : State) (k : Fin 6) : SnsPort := s.sensors.get k

/-- The receiver takes frames. -/
def SnsPort.active (x : SnsPort) : Bool := x.st == .armed || x.st == .receiving

/-! ## Buffers (R259) -/

/-- MiB of the SELF pool a port's buffers take. -/
def SnsCfg.mib (c : SnsCfg) : Nat :=
  (c.width * c.height * 2 * (if c.conf then 2 else 1) + 2 ^ 20 - 1) / 2 ^ 20 * c.bufs

/-- The HBM stack that holds a buffer: the manual does not say which. -/
def bufStack (k : Fin 6) (i : Nat) : Nat := Config.place (k.val * 4 + i) % 2

/-- A buffer lies in a stack under test (Table 22-5). -/
def State.bufTested (s : State) (k : Fin 6) (i : Nat) : Bool :=
  if bufStack k i = 0 then s.underTest 2 else s.underTest 3

/-- Free buffers of a port. -/
def State.freeBufs (s : State) (k : Fin 6) : List (Fin 4) :=
  (List.finRange 4).filter fun i =>
    decide (i.val < (s.sns k).cfg.bufs) && ((s.sns k).bufs.get i).st == .free && !s.bufTested k i.val

/-! ## End of a frame (R257, R261, R263) -/

/-- The end of a frame ends the arming. -/
def SnsPort.ending (x : SnsPort) : Bool := x.disarmPending || (x.arm.count != 0 && x.left == 0)

/-- The state a port takes at the end of a frame. -/
def SnsPort.settle (x : SnsPort) (now : Nat) : SnsPort :=
  if x.ending then { x with st := .configured, incoming := none, disarmPending := false, endedAt := some now }
  else { x with st := .armed, incoming := none }

/-- Why a frame was discarded. -/
def badUncorr : Nat := 1
def badCrc : Nat := 2
def badLine : Nat := 3
def badTrunc : Nat := 4
def badPlane : Nat := 5
/-- A lost packet of which no other check shows: the sync error that lost it is counted already. DEDUCED, notes/assumptions/17. -/
def badLost : Nat := 6

/-- Count the cause of a discarded frame (Table 13-4). -/
def SnsPort.countBad (x : SnsPort) (cause : Nat) : SnsPort :=
  if cause = badUncorr then { x with uncorr := satInc 65535 x.uncorr }
  else if cause = badCrc then { x with crc := satInc 65535 x.crc }
  else if cause = badLine then { x with lineLen := satInc 65535 x.lineLen }
  else if cause = badTrunc then { x with trunc := satInc 65535 x.trunc }
  else if cause = badPlane then { x with planeMiss := satInc 65535 x.planeMiss }
  else x

/-- Free the buffer that fills. -/
def SnsPort.freeFilling (x : SnsPort) : SnsPort :=
  match x.incoming with
  | some f => { x with bufs := bankSet x.bufs f.buffer .empty }
  | none => x

/-- Discard the frame in progress; the first cause found is the one counted. -/
def State.discard (s : State) (k : Fin 6) (cause : Nat) : State :=
  match (s.sns k).incoming with
  | some f =>
    let s1 := if (s.sns k).ending then s.portDisarmed k else s
    s1.updSensor k fun x => ((x.freeFilling).countBad (if f.bad = 0 then cause else f.bad)).settle s.now
  | none => s

/-- Mark the frame in progress as one that cannot be complete. -/
def SnsPort.spoil (x : SnsPort) (cause : Nat) : SnsPort :=
  { x with incoming := x.incoming.map fun f => if f.bad = 0 then { f with bad := cause } else f }

/-- Ports of a group: armed with the same token and mask (R263), or so until a frame of this tick ended their arming: two ports
that complete in one tick give one signal (Table 13-5). -/
def State.inGroup (s : State) (arm : SnsArm) (port : Port) (k : Fin 6) : Bool :=
  let x := s.sns k
  (x.active || x.endedAt == some s.now) && x.arm.token == arm.token && x.arm.syncMask == arm.syncMask && x.armPort == port

/-- Set a port's done bit; when the group is done, signal its token once and clear the bits (R263). -/
def State.groupDone (s : State) (k : Fin 6) : State :=
  let x := s.sns k
  match x.arm.token with
  | none => s
  | some id =>
    let s1 := s.updSensor k fun x => { x with done := true }
    let mask := (List.finRange 6).filter fun j => x.arm.syncMask.testBit j.val
    if mask.all fun j => s1.inGroup x.arm x.armPort j && (s1.sns j).done then
      let s2 := mask.foldl (fun s j => s.updSensor j fun y => { y with done := false }) s1
      let r := s2.signalToken id
      if r.2 then r.1.updSensor k fun y => { y with tokSat := satInc 65535 y.tokSat } else r.1
    else s1

/-- A complete frame: signalled, delivered, held while a job needs it (R257 to R259). -/
def State.frameDone (s : State) (k : Fin 6) (f : Incoming) : State :=
  let s1 := s.updSensor k fun x =>
    { x with bufs := bankSet x.bufs f.buffer ⟨.held, f.lines, f.conf, f.fsTime, f.fnum, []⟩,
             complete := satInc 0xFFFFFFFF x.complete, lastFs := f.fsTime, lastFnum := f.fnum, left := x.left - 1 }
  let s2 := s1.groupDone k
  let r := s2.deliver k f.buffer f.fsTime f.fsTick
  let s3 := if (r.1.sns k).ending then r.1.portDisarmed k else r.1
  s3.updSensor k fun x =>
    { x with bufs := bankUpd x.bufs f.buffer fun b =>
        if r.2.isEmpty then .empty else { b with jobs := r.2 } }.settle s.now

/-- The end of a frame whose FE packets have all come. -/
def State.frameEnd (s : State) (k : Fin 6) : State :=
  match (s.sns k).incoming with
  | none => s
  | some f => if f.bad = 0 ∧ ¬ f.lost then s.frameDone k f else s.discard k badLost

/-! ## Packets (R256, R257, R260) -/

/-- A header with a corrected error. -/
def SnsPort.corrected (x : SnsPort) (c : Bool) : SnsPort := if c then { x with corr := satInc 65535 x.corr } else x

/-- The frame is accepted under the trigger (R260). -/
def SnsPort.inWindow (x : SnsPort) (now : Nat) : Bool :=
  x.arm.trigSrc == 0 ||
    (match x.seen.get (Fin.ofNat 12 (x.arm.trigSrc - 1)) with
     | some (e, used) => decide (e ≤ now) && decide (now ≤ e + x.arm.windowUs * usTicks) && !used
     | none => false)

/-- A frame is accepted for the port's trigger edge. -/
def SnsPort.useEdge (x : SnsPort) : SnsPort :=
  if x.arm.trigSrc = 0 then x
  else { x with seen := bankUpd x.seen (Fin.ofNat 12 (x.arm.trigSrc - 1)) fun e => e.map fun y => (y.1, true) }

/-- An FS on VC_DEPTH that finds the port armed. -/
def State.startFrame (s : State) (k : Fin 6) (fnum : Nat) : State :=
  let x := s.sns k
  if x.st ≠ .armed then s
  else if ¬ x.inWindow s.now then s.updSensor k fun x => { x with untrig := satInc 65535 x.untrig }
  else
    match s.freeBufs k with
    | [] => s.updSensor k fun x => { x with noBuf := satInc 65535 x.noBuf }
    | b :: _ =>
      s.updSensor k fun x =>
        { x.useEdge with
          st := .receiving, bufs := bankUpd x.bufs b fun y => { y with st := .filling },
          incoming := some { buffer := b, fsTime := s.devTime, fsTick := s.now, fnum := fnum, lines := [], conf := [],
                             confFs := none, depthFe := false, confFe := false, lost := false, bad := 0 } }

/-! ### Rows of one tick (Table 13-5) -/

/-- A packet of a port. -/
def packetOf (k : Fin 6) : Instr → Bool
  | .sensorFs p _ _ _ | .sensorLongPacket p _ _ _ _ _ | .sensorFe p _ _ _ => p == k
  | _ => false

/-- A row may bring an edge of the source a port is armed on. -/
def SnsPort.mayTrigger (x : SnsPort) (k : Fin 6) : Instr → Bool
  | .sensorTriggerEdge p => p == k
  | .tpLeadingEdge p => x.arm.trigSrc == 1 + p.val
  | .timerValley _ | .timerPeak _ | .timerCompareMatch _ _ => decide (5 ≤ x.arm.trigSrc)
  | _ => false

/-- A packet before this one of its port gave way, so this one does too. -/
def State.packetsWait (s : State) (k : Fin 6) : Bool := s.deferred.any (packetOf k)

/-- An FE of a plane of a port is yet to act in this tick. -/
def State.feWaits (s : State) (k : Fin 6) (conf : Bool) : Bool :=
  s.behind fun r => match r with
    | .sensorFe p c _ _ => p == k && c == conf
    | _ => false

/-- The frame in progress ends in this tick: every FE it lacks is yet to act in it. -/
def State.endsNow (s : State) (k : Fin 6) : Bool :=
  match (s.sns k).incoming with
  | some f => (f.depthFe || s.feWaits k false) && (f.confFe || !(s.sns k).cfg.conf || s.feWaits k true)
  | none => false

/-- The port's channels (Table 13-1). -/
def SnsCfg.plane (c : SnsCfg) (conf : Bool) : Bool := !conf || c.conf

/-- SENSOR_FS. It gives way to the commands of its tick, a SENSOR_ARM or SENSOR_DISARM among them, and to trigger edges. -/
def execSensorFs (port : Fin 6) (conf : Bool) (fnum : BitVec 16) (corrected : Bool) (s : State) :
    Host.Outcome State Fault Refusal :=
  .next <|
    if s.commandsWait ∨ s.packetsWait port ∨ s.behind ((s.sns port).mayTrigger port) then
      s.putOff (.sensorFs port conf fnum corrected)
    else if ¬ (s.sns port).active ∨ ¬ (s.sns port).cfg.plane conf then s
    else
      let s1 := s.updSensor port fun x => x.corrected corrected
      if conf then
        s1.updSensor port fun x =>
          match x.incoming with
          | some f =>
            if f.confFs.isSome then x.spoil badTrunc
            else
              let y := { x with incoming := some { f with confFs := some fnum.toNat } }
              if fnum.toNat = f.fnum then y else y.spoil badTrunc
          | none => x
      else (s1.discard port badTrunc).startFrame port fnum.toNat

/-- Bytes of a line with the least significant byte of each pixel first. The order of RAW16 is PRESUMED to be the
most significant byte first: notes/assumptions/17. -/
def pixelLine (c : SnsCfg) (bs : Bytes) : Bytes :=
  if c.dt = 0x2E ∨ c.byteOrder = 1 then
    (List.range (bs.length / 2)).flatMap fun i => [bs.getD (2 * i + 1) 0, bs.getD (2 * i) 0]
  else bs

/-- A long packet of the configured data type on a plane. -/
def SnsPort.line (x : SnsPort) (plane crcOk : Bool) (bs : Bytes) : SnsPort :=
  match x.incoming with
  | none => x
  | some f =>
    if bs.length ≠ 2 * x.cfg.width then x.spoil (if plane then badPlane else badLine)
    else if ¬ crcOk then x.spoil (if plane then badPlane else badCrc)
    else if f.bad ≠ 0 then x
    else
      let l := pixelLine x.cfg bs
      if plane then
        (if f.confFs.isNone ∨ f.confFe ∨ x.cfg.height ≤ f.conf.length then x.spoil badPlane
         else { x with incoming := some { f with conf := f.conf ++ [l] } })
      else if f.depthFe ∨ x.cfg.height ≤ f.lines.length then x.spoil badLine
      else { x with incoming := some { f with lines := f.lines ++ [l] } }

/-- A packet was lost: the frame in progress fails (Table 13-6). -/
def SnsPort.losePacket (x : SnsPort) : SnsPort :=
  { x with sot := satInc 65535 x.sot, incoming := x.incoming.map fun f => { f with lost := true } }

/-- SENSOR_LONG_PACKET. `ecc`: 0 sound, 1 corrected, 2 uncorrectable header, 3 start-of-transmission sync error, which loses the
packet with its channel. A packet on another channel is ignored without counting. -/
def execSensorLongPacket (port : Fin 6) (vc dt : Byte) (ecc : Fin 4) (crcOk : Bool) (payload : Bytes) (s : State) :
    Host.Outcome State Fault Refusal :=
  .next <|
    if s.packetsWait port then s.putOff (.sensorLongPacket port vc dt ecc crcOk payload)
    else
      s.updSensor port fun x =>
        let plane := x.cfg.conf && vc.toNat == x.cfg.vcDepth + 1
        if ¬ x.active then x
        else if ecc = 3 then x.losePacket
        else if vc.toNat ≠ x.cfg.vcDepth ∧ ¬ plane then x
        else if ecc = 2 then x.spoil badUncorr
        else
          let y := x.corrected (ecc == 1)
          if dt.toNat ≠ x.cfg.dt then { y with unknownDt := satInc 65535 y.unknownDt } else y.line plane crcOk payload

/-- The frame has passed its time (R257). -/
def SnsPort.late (x : SnsPort) (now : Nat) : Bool :=
  match x.incoming with
  | some f => decide (f.fsTick + x.cfg.timeoutMs * msTicks < now)
  | none => false

/-- What an FE shows of the frame in progress. -/
def SnsPort.planeEnds (x : SnsPort) (conf : Bool) (fnum now : Nat) : SnsPort :=
  match x.incoming with
  | none => x
  | some f =>
    let x1 := if x.late now then x.spoil badTrunc else x
    if conf then
      let x2 := { x1 with incoming := x1.incoming.map fun f => { f with confFe := true } }
      match f.confFs with
      | none => x2.spoil badPlane
      | some n =>
        if n ≠ fnum then x2.spoil badTrunc
        else if f.conf.length ≠ x.cfg.height then x2.spoil badPlane
        else x2
    else
      let x2 := { x1 with incoming := x1.incoming.map fun f => { f with depthFe := true } }
      if fnum ≠ f.fnum then x2.spoil badTrunc
      else if f.lines.length ≠ x.cfg.height then x2.spoil badLine
      else x2

/-- SENSOR_FE. It gives way to the commands of its tick: a JOB_CANCEL wins over the frame (Table 10-5), a CAM_COMMIT acts before a
job takes the model (Table 11-8). -/
def execSensorFe (port : Fin 6) (conf : Bool) (fnum : BitVec 16) (corrected : Bool) (s : State) :
    Host.Outcome State Fault Refusal :=
  .next <|
    if s.commandsWait ∨ s.packetsWait port then s.putOff (.sensorFe port conf fnum corrected)
    else if ¬ (s.sns port).active ∨ ¬ (s.sns port).cfg.plane conf then s
    else
      let s1 := s.updSensor port fun x => (x.corrected corrected).planeEnds conf fnum.toNat s.now
      match (s1.sns port).incoming with
      | some f => if f.depthFe ∧ (f.confFe ∨ ¬ (s1.sns port).cfg.conf) then s1.frameEnd port else s1
      | none => s1

/-- SENSOR_FRAME_TIMEOUT: due TIMEOUT_MS after the FS. An FE of the same tick acts first. -/
def execSensorFrameTimeout (port : Fin 6) (s : State) : Host.Outcome State Fault Refusal :=
  .next <|
    match (s.sns port).incoming with
    | some f =>
      if s.feWaits port false ∨ s.feWaits port true then s.putOff (.sensorFrameTimeout port)
      else if f.fsTick + (s.sns port).cfg.timeoutMs * msTicks ≤ s.now then s.discard port badTrunc
      else s
    | none => s

/-- SENSOR_CLK_LOST (R267). -/
def execSensorClkLost (port : Fin 6) (s : State) : Host.Outcome State Fault Refusal :=
  .next <|
    if (s.sns port).clk then
      (s.discard port badTrunc).updSensor port fun x => { x with clk := false, clkLost := satInc 65535 x.clkLost }
    else s

/-- SENSOR_CLK_RETURN (R265). -/
def execSensorClkReturn (port : Fin 6) (s : State) : Host.Outcome State Fault Refusal :=
  .next <|
    s.updSensor port fun x => if x.st ≠ .unconfigured ∧ x.cfg.clkMode = 0 then { x with clk := true } else x

/-- SENSOR_TRIGGER_EDGE (R260). -/
def execSensorTriggerEdge (port : Fin 6) (s : State) : Host.Outcome State Fault Refusal := .next (s.trigEdge port)

/-! ## Commands (R262, R264) -/

def snsCfgOf (p : SnsCfgP) : SnsCfg :=
  { lanes := p.lanes.toNat, clkMode := p.clkMode.toNat, dt := p.dt.toNat, unit := p.unit.toNat,
    vcDepth := p.vcDepth.toNat, conf := p.conf == 1, bufs := p.bufs.toNat, byteOrder := p.byteOrder.toNat,
    rate := p.laneRate.toNat, width := p.width.toNat, height := p.height.toNat, timeoutMs := p.timeoutMs.toNat }

/-- Ranges of Table 13-3. -/
def snsCfgOk (p : SnsCfgP) : Bool :=
  let c := snsCfgOf p
  [1, 2, 4].contains c.lanes && decide (c.clkMode ≤ 1) && (c.dt == 0x2E || between 0x30 c.dt 0x37) && decide (c.unit ≤ 1)
    && decide (p.conf.toNat ≤ 1) && decide (c.vcDepth + p.conf.toNat ≤ 15) && between 2 c.bufs 4
    && decide (c.byteOrder ≤ 1) && (c.dt != 0x2E || c.byteOrder == 0) && between 80 c.rate 2500
    && between 64 c.width 4096 && between 16 c.height 4096 && between 1 c.timeoutMs 1000

/-- The port of a command. -/
def snsOf (h : Hdr) : Fin 6 := Fin.ofNat 6 h.idx.toNat

/-- A job not yet ended binds a port. -/
def State.snsBound (s : State) (k : Fin 6) : Bool :=
  (bankList s.jobs.tags).any fun x =>
    match x.2 with
    | some j => !j.st.ended && j.ports.contains k
    | none => false

/-- SENSOR_CONFIG. -/
def doSensorConfig (t : Ticket) (p : SnsCfgP) (s : State) : State :=
  let k := snsOf t.hdr
  let x := s.sns k
  let c := snsCfgOf p
  let pool := s.mem.selfMib - x.cfg.mib + c.mib
  if ¬ snsCfgOk p then s.reply t eParam []
  else if x.st ≠ .unconfigured ∧ x.st ≠ .configured then s.reply t eState []
  else if x.bufs.toList.any (fun b => b.st == .held) ∨ s.snsBound k then s.reply t eBusy []
  else if 1024 < pool then s.reply t eNoMemory []
  else
    ((s.updMem fun m => { m with selfMib := pool }).updSensor k fun x =>
      { x with st := .configured, cfg := c, bufs := Vector.replicate 4 .empty, incoming := none,
               clk := x.clk && c.clkMode == 0 }).reply t stOk []

/-- An arming on a source takes the edge that the port saw before it (R260). -/
def SnsPort.takePreEdge (x : SnsPort) (src : Nat) : SnsPort :=
  let y := { x with preEdge := none }
  match x.preEdge with
  | some t =>
    if src = 0 then y
    else
      { y with seen := bankUpd y.seen (Fin.ofNat 12 (src - 1)) fun e =>
          if decide (((e.map (·.1)).getD 0) < t) || e.isNone then some (t, false) else e }
  | none => y

/-- SENSOR_ARM. -/
def doSensorArm (t : Ticket) (p : SnsArmP) (s : State) : State :=
  let k := snsOf t.hdr
  let o := t.hdr.port
  let src := p.trigSrc.toNat
  if ¬ p.syncMask.getLsbD k.val ∨ 12 < src ∨ (src = 0) ≠ (p.windowUs = 0)
      ∨ (p.token ≠ 0xFFFF ∧ (s.token o p.token.toNat).isNone) then s.reply t eParam []
  else if (s.sns k).st ≠ .configured then s.reply t eState []
  else
    (s.updSensor k fun x =>
      { x.takePreEdge src with
        st := .armed, left := p.count.toNat, done := false, armPort := o, endedAt := none, disarmPending := false,
        arm := { token := if p.token = 0xFFFF then none else some p.token.toNat, syncMask := p.syncMask.toNat,
                        trigSrc := src, windowUs := p.windowUs.toNat, count := p.count.toNat } }).reply t stOk []

/-- Disarm a port: at once, or after the frame in progress (R264). A frame that ends in the tick of the disarm is kept, the last
of COUNT by Table 13-5, another as well: DEDUCED, notes/assumptions/17. -/
def State.disarm (s : State) (k : Fin 6) (after : Bool) : State :=
  let x := s.sns k
  if x.st = .receiving ∧ (after ∨ s.endsNow k) then s.updSensor k fun x => { x with disarmPending := true }
  else if x.active then
    (s.portDisarmed k).updSensor k fun x =>
      { x.freeFilling with st := .configured, incoming := none, disarmPending := false, done := false }
  else s

/-- SENSOR_DISARM. -/
def doSensorDisarm (t : Ticket) (mode : Byte) (s : State) : State :=
  let k := snsOf t.hdr
  if 1 < mode.toNat then s.reply t eParam []
  else if (s.sns k).st = .test then s.reply t eState []
  else (s.disarm k (mode == 1)).reply t stOk []

/-! ## Registers (R265) -/

/-- A word of the SENSOR PORTS block. -/
def sensorsRead (s : State) (off : Nat) : Nat :=
  if h : off < 0x6000 then
    let k : Fin 6 := ⟨off / 0x1000, by omega⟩
    let o := off % 0x1000
    let x := s.sns k
    if o = 0x000 then x.st.code + bitAt 3 x.clk + (s.freeBufs k).length * 16 + (if x.active then x.left else 0) * 256
    else if o = 0x004 then
      x.cfg.lanes + x.cfg.clkMode * 8 + x.cfg.unit * 16 + bitAt 5 x.cfg.conf + x.cfg.bufs * 64 + x.cfg.vcDepth * 512
        + x.cfg.byteOrder * 8192 + x.cfg.dt * 65536
    else if o = 0x008 then x.cfg.width + x.cfg.height * 65536
    else if o = 0x00C then x.cfg.rate + x.cfg.timeoutMs * 65536
    else if o = 0x010 then
      (if x.active then x.arm.token.getD 0xFFFF + x.arm.syncMask * 65536 + x.arm.trigSrc * 2 ^ 24 else 0xFFFF)
    else if o = 0x014 then (if x.active then x.arm.windowUs else 0)
    else if o = 0x018 then x.polD + bitAt 4 x.polCk
    else if o = 0x020 then x.complete
    else if o = 0x024 then x.corr + x.uncorr * 65536
    else if o = 0x028 then x.crc + x.lineLen * 65536
    else if o = 0x02C then x.trunc + x.planeMiss * 65536
    else if o = 0x030 then x.noBuf + x.untrig * 65536
    else if o = 0x034 then x.sot + x.clkLost * 65536
    else if o = 0x038 then x.tokSat + x.unknownDt * 65536
    else if o = 0x040 then at_ (time96Bytes x.lastFs) 0 4
    else if o = 0x044 then at_ (time96Bytes x.latch) 4 4
    else if o = 0x048 then at_ (time96Bytes x.latch) 8 4
    else if o = 0x04C then x.lastFnum
    else 0
  else 0

/-- What reading LAST_FS0 latches. -/
def sensorsLatch (s : State) (off : Nat) : State :=
  if h : off < 0x6000 then
    if off % 0x1000 = 0x040 then s.updSensor ⟨off / 0x1000, by omega⟩ fun x => { x with latch := x.lastFs } else s
  else s

/-- Status a write of the block earns. -/
def sensorsCheck (s : State) (off : Nat) : Nat :=
  if h : off < 0x6000 then
    let st := (s.sns ⟨off / 0x1000, by omega⟩).st
    if off % 0x1000 = 0x018 ∧ (st = .armed ∨ st = .receiving ∨ st = .test) then eState else stOk
  else stOk

def sensorsWrite (s : State) (off v : Nat) : State :=
  if h : off < 0x6000 then
    let k : Fin 6 := ⟨off / 0x1000, by omega⟩
    if off % 0x1000 = 0x018 then s.updSensor k fun x => { x with polD := v % 16, polCk := v.testBit 4 }
    else if off % 0x1000 = 0x03C ∧ v.testBit 0 then
      s.updSensor k fun x =>
        { x with complete := 0, corr := 0, uncorr := 0, crc := 0, lineLen := 0, trunc := 0, planeMiss := 0, noBuf := 0,
                 untrig := 0, sot := 0, clkLost := 0, tokSat := 0, unknownDt := 0 }
    else s
  else s

end Sys2Proof.Machine
end

