-- ==== Sys2Proof/Machine/Keys.lean ====
section
/-! DEFINITION. Entropy source, DRBG, owner enrolments and the faults of stored lines
(08_memory_and_keys.md, R162, R167 to R173). -/

namespace Sys2Proof.Machine

/-! ## The watermark registers (R74) -/

/-- SHA-384, 48 bytes. -/
def digest (bs : Bytes) : Bytes := fit 48 (Config.sha384 bs)

/-- Extend WMn by a digest. -/
def State.extend (s : State) (n : Fin 8) (d : Bytes) : State :=
  s.updBoot fun b => { b with wm := bankUpd b.wm n fun w => digest (w ++ d) }

/-- The digest that extends WM7 for an enrolment: at boot, at an enrolment, at a revocation (Table 4-4). -/
def enrolDigest (owner op : Nat) (key : Bytes) : Bytes := digest (le 1 owner ++ le 1 op ++ key)

/-! ## P-384 (R169) -/

def p384 : Nat := 2 ^ 384 - 2 ^ 128 - 2 ^ 96 + 2 ^ 32 - 1
def p384b : Nat := 0xB3312FA7E23EE7E4988E056BE3F82D19181D9C6EFE8141120314088F5013875AC656398D8A2ED19D2A85C8EDD3EC2AEF

/-- An uncompressed point on P-384: 97 bytes, 0x04, x, y. -/
def onCurve (k : Bytes) : Bool :=
  let x := ofBe (slice k 1 48)
  let y := ofBe (slice k 49 48)
  k.length == 97 && k.headD 0 == 4 && decide (x < p384) && decide (y < p384)
    && (y * y + 3 * x) % p384 == (x * x * x + p384b) % p384

/-! ## Enrolment areas (R168, R169, Table 8-3) -/

/-- The 112 bytes of an empty entry. -/
def emptyEntry : Bytes := List.replicate 112 0xFF

/-- The key of an entry, where it is enrolled. -/
def entryKey (e : Bytes) (owner slot : Nat) : Option Bytes :=
  let k := slice e 4 97
  if at_ e 0 1 = 1 ∧ at_ e 1 1 = owner ∧ at_ e 2 1 = slot ∧ at_ e 3 1 = 0 ∧ (slice e 101 11).all (· == 0) ∧ onCurve k
  then some k else none

/-- The keys an area enrols, by port and slot. -/
def areaKeys (bs : Bytes) : Vector (Vector (Option Bytes) 4) 4 :=
  Vector.ofFn fun p : Fin 4 => Vector.ofFn fun i : Fin 4 =>
    entryKey (slice bs (0x10 + 0x70 * (4 * p.val + i.val)) 112) (p.val + 1) i.val

/-- An entry as the device writes it. -/
def entryBytes (owner slot : Nat) : Option Bytes → Bytes
  | some k => [1] ++ le 1 owner ++ le 1 slot ++ [0] ++ fit 97 k ++ zeros 11
  | none => emptyEntry

/-- A sealed area. -/
def areaBytes (seq : Nat) (keys : Vector (Vector (Option Bytes) 4) 4) : Bytes :=
  let entries := (bankList keys).flatMap fun x => (bankList x.2).flatMap fun y => entryBytes (x.1.val + 1) y.1.val y.2
  let body := [0x45, 0x4E, 0x52, 0x4C] ++ le 2 1 ++ zeros 2 ++ le 4 seq ++ zeros 4 ++ entries
  body ++ fit 16 (Config.sealTag body) ++ List.replicate (0x1000 - 0x720) 0xFF

def areaSeq (a : EnrArea) : Nat := at_ a.bytes 8 4

/-- The area carries a valid seal. -/
def areaSealed (a : EnrArea) : Bool :=
  !a.torn && a.bytes.length == 0x1000 && slice a.bytes 0x710 16 == fit 16 (Config.sealTag (a.bytes.take 0x710))

/-- An unsealed area that may be adopted. -/
def areaOpen (a : EnrArea) : Bool :=
  !a.torn && a.bytes.length == 0x1000 && slice a.bytes 0 4 == [0x45, 0x4E, 0x52, 0x4C] && at_ a.bytes 4 2 == 1
    && slice a.bytes 0x710 16 == List.replicate 16 0xFF

/-- Of the areas that qualify, the one with the higher SEQ, ENR_A when equal. -/
def pickArea (as : Vector EnrArea 2) (ok : EnrArea → Bool) : Option (Fin 2) :=
  let a := as.get 0
  let b := as.get 1
  if ok a ∧ (¬ ok b ∨ areaSeq b ≤ areaSeq a) then some 0 else if ok b then some 1 else none

def otherArea (i : Fin 2) : Fin 2 := i + 1

/-- Write the area not in use, and use it from then on. -/
def KeyState.writeArea (k : KeyState) (inUse : Fin 2) (keys : Vector (Vector (Option Bytes) 4) 4) : KeyState :=
  { k with areas := bankSet k.areas (otherArea inUse) ⟨areaBytes (areaSeq (k.areas.get inUse) + 1) keys, false⟩,
           areaInUse := otherArea inUse }

/-- What a start makes of the two areas. The sealing key is derived from an OTP device secret. -/
def KeyState.loadAreas (k0 : KeyState) : KeyState :=
  let k := { k0 with sealKey := true }
  match pickArea k.areas areaSealed with
  | some i => { k with areaInUse := i, enrolled := areaKeys (k.areas.get i).bytes, storeBad := false }
  | none =>
    if k.sealed_ then { k with storeBad := true }
    else
      match pickArea k.areas areaOpen with
      | some i =>
        let keys := areaKeys (k.areas.get i).bytes
        { k.writeArea i keys with enrolled := keys, sealed_ := true, storeBad := false }
      | none => { k with storeBad := true }

/-- Read the enrolments at a start, each key measured into WM7: by ascending owner (Table 4-4), and by ascending slot within an
owner, which the manual leaves open: DESIGN CHOICE, notes/assumptions/21. -/
def State.loadKeys (s : State) : State :=
  let s1 := s.updKeys KeyState.loadAreas
  forAll s1 fun s (p : Fin 4) => forAll s fun s (i : Fin 4) =>
    match (s.keys.enrolled.get p).get i with
    | some k => s.extend 7 (enrolDigest (p.val + 1) 0 k)
    | none => s

/-- Entry to SERVICE or RETIRED: every enrolment destroyed (Table 4-8). SEALED is cleared only on entry to SERVICE (R169). -/
def KeyState.destroyed (k : KeyState) (service : Bool) : KeyState :=
  { k with areas := Vector.replicate 2 ⟨List.replicate 0x1000 0xFF, false⟩, sealed_ := k.sealed_ && !service,
           sealKey := k.sealKey && service }

/-- The domain sets of SELF and of owners 1, 2 and 4 are overwritten (R161). -/
def State.fillDomains (s : State) : State :=
  (((s.fillSlot (slotDomain 0)).fillSlot (slotDomain 1)).fillSlot (slotDomain 2)).fillSlot (slotDomain 4)

/-! ## Enrolment at run time (R170) -/

/-- Status of a write of ENROL_CTRL by a port. -/
def State.enrolCheck (s : State) (p : Port) (v : Nat) : Nat :=
  if ¬ v.testBit 16 then stOk
  else if bits 2 0 v ≠ Port.id p ∧ p ≠ 3 then ePort
  else if ¬ (bits 9 8 v = 1 ∨ bits 9 8 v = 2) ∨ bits 2 0 v = 0 ∨ 4 < bits 2 0 v then eParam
  else if s.keys.busy.isSome ∨ s.underTest 9 then eBusy
  else stOk

/-- A write of ENROL_CTRL that was accepted. For OP 1 the key is read at once. -/
def State.enrolWrite (s : State) (p : Port) (v : Nat) : State :=
  let s1 := s.updKeys fun k => { k with enrOwner := bits 2 0 v, enrSlot := bits 5 4 v, enrOp := bits 9 8 v }
  if ¬ v.testBit 16 then s1
  else
    let op : EnrolOp := ⟨p, bits 2 0 v, bits 5 4 v, bits 9 8 v, s.now, 0, []⟩
    if op.op = 1 then
      let r := s1.readRange p s1.keys.enrRegion s1.keys.enrOffset 97
      let early := if r.1 = stOk then 0 else if r.1 = eIntegrity then 5 else 4
      (r.2.1.updKeys fun k => { k with busy := some { op with early := early, key := r.2.2 } }).storePush .enrolment none
    else (s1.updKeys fun k => { k with busy := some op }).storePush .enrolment none

/-- RESULT of the operation before its area is written: the read, the curve, the slot. -/
def EnrolOp.judged (o : EnrolOp) (held : Option Bytes) : Nat :=
  if o.op = 1 then
    if o.early ≠ 0 then o.early else if ¬ onCurve o.key then 1 else if held.isSome then 2 else 0
  else if held.isNone then 3 else 0

/-- ENROL_COMPLETE: the outcome of the write and read-back is `written`. It takes its turn in the configuration store's queue
(R285). -/
def execEnrolComplete (written : Bool) (s0 : State) : Host.Outcome State Fault Refusal :=
  .next <|
    match s0.keys.busy, s0.store.queue with
    | none, _ | some _, [] => s0
    | some o, w :: rest =>
      if w.item ≠ .enrolment then s0
      else
      let s : State := { s0 with store := { s0.store with queue := rest } }
      let p : Fin 4 := Fin.ofNat 4 (o.owner - 1)
      let i : Fin 4 := Fin.ofNat 4 o.slot
      let held := (s.keys.enrolled.get p).get i
      let pre := o.judged held
      let res := if pre ≠ 0 then pre else if written then 0 else 6
      let s1 := s.updKeys fun k => { k with busy := none, result := res, lastOwner := o.owner, lastSlot := o.slot }
      if res ≠ 0 then s1
      else
        let new : Option Bytes := if o.op = 1 then some o.key else none
        let keys := bankUpd s.keys.enrolled p fun x => bankSet x i new
        (s1.updKeys fun k => { k.writeArea k.areaInUse keys with enrolled := keys }).extend 7
          (enrolDigest o.owner o.op (if o.op = 1 then o.key else held.getD []))

/-! ## Entropy and DRBG (R162) -/

/-- ENTROPY_TEST_FAIL: the start-up test, or a continuous one. -/
def execEntropyTestFail (startup : Bool) (s : State) : Host.Outcome State Fault Refusal :=
  .next <|
    if s.boot.step = .held then s
    else if startup then
      if s.boot.step = .readBoot1 ∨ s.boot.step = .readImages then
        s.updKeys fun k => { k with entOk := false, startFail := true }
      else s
    else
      s.updKeys fun k =>
        { k with entFail := true, entSeen := true, keysOut := k.keysOut || decide (65536 ≤ k.requests) }

/-- A reseed. -/
def State.reseed (s : State) : State :=
  s.updKeys fun k => { k with requests := 0, seededAt := s.now, reseeds := satInc 65535 k.reseeds }

/-- ENTROPY_RECOVER: the source has passed its tests for 1 s. -/
def execEntropyRecover (s : State) : Host.Outcome State Fault Refusal :=
  .next (if s.keys.entFail then s.reseed.updKeys fun k => { k with entFail := false, keysOut := false } else s)

/-- DRBG_RESEED: after 65,536 requests or 1 s, not while a test fails. -/
def execDrbgReseed (s : State) : Host.Outcome State Fault Refusal :=
  .next <|
    if s.boot.step ≠ .held ∧ ¬ s.keys.entFail ∧ (65536 ≤ s.keys.requests ∨ s.keys.seededAt + secTicks ≤ s.now) then s.reseed
    else s

/-! ## Errors of stored lines (R173) -/

/-- An uncorrectable error in the core-store weights of a network (R343): a fault on the PINNED core, and the weights are bad
until they are restored. MEM_FAULT_LAST shows owner 0 (SELF) and JOB 0xFF for it: DESIGN CHOICE, notes/assumptions/36. -/
def State.weightFault (s : State) (n : Fin 8) (k : Fin 3) (line : Nat) : State :=
  ((s.noteFault 4 0 0xFF 0 line).pinnedCoreFault (coreOf n)).weightError n k

/-- An error met by an attempt: cause, owner, region for MEM_FAULT_LAST, and what it does (Table 7-8). -/
def State.attemptError (s : State) (met : ErrAt) (tag : Fin 64) (j : Job) (mismatch : Bool) (region line : Nat) : State :=
  match met with
  | .weights _ _ => s
  | .coreStore c =>
    if (s.core1 c).job = some tag then (s.noteFault 4 15 tag.val 0 line).faultOn c 1 line else s
  | .region =>
    match s.region j.port region with
    | none => s
    | some r =>
      let cause := if r.place = .vat then 3 else if mismatch then 2 else 1
      ((s.spoilLine r line (if cause = 2 then 2 else 1)).noteFault cause (Port.id j.port) tag.val region line).abandon tag
        (if cause = 2 then 3 else 1) 0xFF region line
  | .broke vat =>
    let cause := if vat then 3 else if mismatch then 2 else 1
    (s.noteFault cause 15 tag.val 0 line).abandon tag (if cause = 2 then 3 else 1) 0xFF 0 line

/-- MEM_UNCORRECTABLE. In the SELF pool or in Mboit's vat area: a hardware stop and a reset with cause 4. In the weights of a
network: R343. Met by an attempt: the line stays bad, the fault is recorded and the attempt abandoned with class 1, or 3 for an
HBM line whose tag fails. -/
def execMemUncorrectable (self : Bool) (met : ErrAt) (tag : Fin 64) (mismatch : Bool) (region line : Word) (s : State) :
    Host.Outcome State Fault Refusal :=
  .next <|
    if s.boot.step = .held ∨ s.boot.step = .stopped then s
    else if self then
      if s.boot.stopDone then s
      else ((s.hardwareStop).safeEvent 8 0xFF).updBoot fun b => { b with resetDue := some (s.now, 4), stopDone := true }
    else
      match met with
      | .weights n k => if s.weightsOn n k then s.weightFault n k line.toNat else s
      | _ =>
        match s.job tag with
        | none => s
        | some j =>
          if j.st ≠ .running then s
          else if s.outranked tag (s.errClass j met mismatch region.toNat) then s.putOff (.memUncorrectable self met tag mismatch region line)
          else s.attemptError met tag j mismatch region.toNat line.toNat

/-! ## KEYS registers (R171) -/

def keysRead (s : State) (off : Nat) : Nat :=
  let k := s.keys
  if off = 0x100 then
    bitAt 0 k.entOk + bitAt 1 k.entFail + bitAt 2 k.entSeen + bitAt 3 k.keysOut + bitAt 4 k.sealed_ + bitAt 5 k.storeBad
      + k.areaInUse.val * 64 + k.reseeds * 65536
  else if h : 0x114 ≤ off ∧ off < 0x124 then
    maskOf 4 fun i => ((k.enrolled.get ⟨(off - 0x114) / 4, by omega⟩).getD i none).isSome
  else if off = 0x140 then k.enrRegion
  else if off = 0x144 then k.enrOffset
  else if off = 0x148 then k.enrOwner + k.enrSlot * 16 + k.enrOp * 256
  else if off = 0x14C then bitAt 0 k.busy.isSome + k.result * 16 + k.lastOwner * 256 + k.lastSlot * 4096
  else 0

/-- Status of a write by a port. -/
def keysCheck (s : State) (p : Port) (off v : Nat) : Nat :=
  if off = 0x148 then s.enrolCheck p v
  else if off = 0x144 then if v % 4 = 0 then stOk else eParam
  else stOk

def keysWrite (s : State) (p : Port) (off v : Nat) : State :=
  if off = 0x100 ∧ v.testBit 2 then s.updKeys fun k => { k with entSeen := false }
  else if off = 0x140 then s.updKeys fun k => { k with enrRegion := v }
  else if off = 0x144 then s.updKeys fun k => { k with enrOffset := v }
  else if off = 0x148 then s.enrolWrite p v
  else s

end Sys2Proof.Machine
end

