-- ==== Sys2Proof/Machine/Time.lean ====
section
/-! DEFINITION. The timebase, its references, the time pulses and the configuration store's writes
(14_timebase_pulses.md). Times of the servo are integers of 2^-40 ns. -/

namespace Sys2Proof.Machine

/-- 1 ns in units of 2^-40 ns. -/
def nsFine : Nat := 2 ^ 40
/-- 1 s in units of 2^-40 ns. -/
def secFine : Nat := 1000000000 * 2 ^ 40

/-- f of a frequency in ppm: parts of the 2 ns that a D01 cycle adds (R269). -/
def ppmUnits (ppm : Nat) : Nat := 2 ^ 41 * ppm / 1000000

def freqMax : Int := ppmUnits 200

/-! ## Uncertainty (R270, Table 14-3, R278) -/

/-- Least n with n² ≥ v. -/
def sqrtUp (v : Nat) : Nat := if v.sqrt * v.sqrt = v then v.sqrt else v.sqrt + 1

def ceilDiv (a b : Nat) : Nat := (a + b - 1) / b

def Timebase.asymNs (t : Timebase) : Nat := ceilDiv t.set.asym.natAbs 10

/-- The LOCKED figure over the last LOCK_N offsets held, in ns. -/
def Timebase.lockedFigure (t : Timebase) : Nat :=
  let os := t.offsets.take t.set.lockN
  let n := os.length
  let sum : Int := os.foldl (· + ·) 0
  let abs : Nat := (os.map Int.natAbs).sum
  let sq : Nat := (os.map fun o => o.natAbs * o.natAbs).sum
  ceilDiv (abs + sqrtUp (4 * (n * sq - sum.natAbs * sum.natAbs))) (max 1 n * nsFine) + t.asymNs

def Timebase.remainNs (t : Timebase) : Nat := ceilDiv t.remain.natAbs nsFine

/-- U, at a tick. -/
def Timebase.unc (t : Timebase) (now : Nat) : Nat :=
  let cap (n : Nat) : Nat := min 0xFFFFFFFE n
  let fresh : Nat := if t.offsets.isEmpty then 0xFFFFFFFF else cap (t.lockedFigure + t.remainNs)
  match t.st with
  | .free => 0xFFFFFFFF
  | .locking => fresh
  | .locked => cap t.lockedFigure
  | .holdover =>
    if t.uEntry = 0xFFFFFFFF then t.uEntry
    else
      let k := now - t.enteredAt
      cap (t.uEntry + ceilDiv (t.set.freqPpb * k * 2 * 3600 * secTicks + t.set.driftPpbh * k * k)
        (2 * 3600 * secTicks * secTicks))
  | .recovering =>
    if t.uEntry = 0xFFFFFFFF then fresh
    else cap ((if t.offsets.isEmpty then t.uEntry else max t.uEntry t.lockedFigure) + t.remainNs)

/-! ## Holdover frequency (R277) -/

/-- Keep 64 s of LOCKED time. -/
def trimHist : Nat → List (Nat × Int) → List (Nat × Int)
  | _, [] => []
  | left, (d, f) :: rest => if left = 0 then [] else (min d left, f) :: trimHist (left - min d left) rest

/-- The history with the stretch at the present f closed. -/
def Timebase.closed (t : Timebase) (now : Nat) : List (Nat × Int) :=
  if t.st = .locked then trimHist (64 * secTicks) ((now - t.fSince, t.f) :: t.fHist) else t.fHist

/-- The mean of f over the last 64 s spent in LOCKED; 0 before any. -/
def Timebase.meanF (t : Timebase) (now : Nat) : Int :=
  let h := t.closed now
  let d := (h.map (·.1)).sum
  if d = 0 then (if t.st = .locked then t.f else t.hoFreq)
  else rne (h.foldl (fun a x => a + (x.1 : Int) * x.2) 0) d

/-- Put a new f in force. -/
def Timebase.setF (t : Timebase) (now : Nat) (f : Int) : Timebase :=
  if t.st = .locked ∧ f ≠ t.f then { t with f := f, fHist := t.closed now, fSince := now } else { t with f := f }

/-! ## States and references (R271, R275, R276, R281) -/

/-- Validity of a reference; free run and none are no reference. -/
def Timebase.refValid (t : Timebase) : Ref → Bool
  | .none => false
  | .ptp => t.ptp.valid
  | .ppsi => t.ppsi.valid

/-- Enter a state; EV_TIME_STATE reports a change. -/
def State.toTb (s : State) (st : TbSt) : State :=
  let t := s.tb
  let u := t.unc s.now
  let t0 : Timebase := { t with fHist := t.closed s.now, hoFreq := if t.st = TbSt.locked then t.meanF s.now else t.hoFreq }
  let t1 : Timebase := match st with
    | .free => { t0 with st := .free, s := 0, pendingStep := false, needFirst := false, remain := 0 }
    | .locking | .recovering =>
      { t0 with st := st, uEntry := u, offsets := [], needFirst := true, pendingStep := false, inLock := 0, beyond := 0 }
    | .locked => { t0 with st := TbSt.locked, everLocked := true, fSince := s.now, beyond := 0 }
    | .holdover =>
      { t0 with st := .holdover, uEntry := u, s := 0, f := t0.hoFreq, pendingStep := false, needFirst := false,
                offsets := [], remain := 0, holdovers := satInc 65535 t.holdovers }
  let s1 := s.updTb fun _ => { t1 with enteredAt := s.now }
  if st = t.st then s1
  else
    s1.raiseAll 0x0A 0 0 (le 1 t.st.code ++ le 1 st.code ++ le 1 t1.refUse.code ++ zeros 1 ++ le 4 ((s1.tb.unc s.now)))

/-- The reference that should be in use. A PRIMARY that returns while the BACKUP serves waits for REVERT_S. -/
def Timebase.wanted (t : Timebase) : Ref :=
  let p := t.refValid t.set.primary
  let b := t.refValid t.set.backup
  if t.set.primary = .none then .none
  else if t.refUse = t.set.backup ∧ b then t.set.backup
  else if p then t.set.primary
  else if b then t.set.backup
  else .none

/-- Take a reference into use or lose it (Table 14-3, R281). -/
def State.useRef (s : State) (r : Ref) : State :=
  let t := s.tb
  if r = t.refUse then s
  else
    let s1 := s.updTb fun t => { t with refUse := r }
    match t.st, r with
    | .free, .none => s1
    | .free, _ => s1.toTb .locking
    | .locking, .none => s1.toTb (if t.everLocked then .holdover else .free)
    | .holdover, .none => s1
    | .locked, .none | .recovering, .none => s1.toTb .holdover
    | _, _ => s1.toTb .recovering

/-- Judge the reference in use afresh, and since when the PRIMARY has been valid. -/
def State.judgeRef (s : State) : State :=
  let s1 := s.updTb fun t =>
    { t with primaryFrom := if t.refValid t.set.primary then some (t.primaryFrom.getD s.now) else none }
  s1.useRef s1.tb.wanted

/-! ## Servo, slew and step (R277, R279) -/

/-- One step of the servo, for an offset measured at a tick. -/
def State.servo (s : State) (o : Int) (at_ : Nat) : State :=
  s.updTb fun t =>
    let dt := match t.lastAt with
      | some a => at_ - a
      | none => 0
    let tau := max 1 t.set.tcS
    let i := clampI (-freqMax) freqMax (t.i + rne (o * dt) (200000000000000000 * tau * tau))
    { t.setF s.now (clampI (-freqMax) freqMax (i + rne (2 * o) (1000000000 * tau))) with i := i, lastAt := some at_ }

/-- The servo takes over: i takes the f in force. -/
def Timebase.takeOver (t : Timebase) : Timebase := { t with s := 0, i := t.f }

def Timebase.small (t : Timebase) (o : Int) : Bool := decide (o.natAbs ≤ t.set.lockNs * nsFine)
def Timebase.far (t : Timebase) (o : Int) : Bool := decide (t.set.stepLimitUs * 1000 * nsFine < o.natAbs)

/-- The slew towards an offset. -/
def Timebase.slewTo (t : Timebase) (o : Int) : Timebase :=
  if t.small o then t.takeOver
  else { t with s := if o < 0 then -(ppmUnits t.set.slewMax : Int) else ppmUnits t.set.slewMax }

/-- The decision of R279 from the first offset. -/
def State.firstOffset (s : State) (o : Int) (at_ : Nat) : State :=
  s.updTb fun t =>
    let t1 := { t with needFirst := false, lastAt := some at_ }
    if t.far o then { t1 with pendingStep := true, secNext := t.fine / secFine + 1 } else t1.slewTo o

/-- Note an offset as measured in the present state. -/
def Timebase.measured (t : Timebase) (o : Int) : Timebase := { t with offsets := (o :: t.offsets).take 255, remain := o }

/-- Count a discarded offset under its reference. -/
def Timebase.discarded (t : Timebase) : Timebase :=
  if t.refUse = .ppsi then { t with ppsi := { t.ppsi with cntReject := satInc 65535 t.ppsi.cntReject } }
  else { t with ptp := { t.ptp with cntDiscard := satInc 65535 t.ptp.cntDiscard } }

/-- Note an offset, and how many in a row lie within LOCK_NS (R277). -/
def Timebase.counted (t : Timebase) (o : Int) : Timebase :=
  { t.measured o with inLock := if t.small o then t.inLock + 1 else 0 }

/-- An offset of the reference in use, measured at a tick. -/
def State.takeOffset (s0 : State) (o : Int) (at_ : Nat) : State :=
  let s := s0.updTb fun t => { t with lastOffset := some o }
  let t := s.tb
  match t.st with
  | .free | .holdover => s
  | .locked =>
    if t.far o then
      if t.beyond < 2 then s.updTb fun t => { t.discarded with beyond := t.beyond + 1 }
      else ((s.toTb .recovering).updTb fun t => t.measured o).firstOffset o at_
    else (s.updTb fun t => { t.measured o with beyond := 0 }).servo o at_
  | .locking | .recovering =>
    let s1 := s.updTb fun t => t.counted o
    let s2 :=
      if t.needFirst then s1.firstOffset o at_
      else if t.pendingStep then s1.updTb fun t => { t with lastAt := some at_ }
      else if t.s ≠ 0 then s1.updTb fun t => { t with lastAt := some at_ }.slewTo o
      else s1.servo o at_
    if s2.tb.set.lockN ≤ s2.tb.inLock ∧ ¬ s2.tb.pendingStep ∧ s2.tb.s = 0 then s2.toTb .locked else s2

/-- Device time moves on by one tick, five D01 cycles (R269); a slew ends when what remains is small. -/
def Timebase.tick (t : Timebase) : Timebase :=
  if t.running then
    let t1 := { t with fine := t.fine + (5 * ((2 : Int) ^ 41 + t.f + t.s)).toNat }
    if t.s = 0 then t1
    else
      let t2 := { t1 with remain := t1.remain - 5 * t1.s }
      if t.pendingStep then t1 else if t2.small t2.remain then t2.takeOver else t2
  else t

/-! ## Pulses (R280, R282, R283) -/

/-- The first scheduled edge at or after a device time. -/
def PulseCfg.edgeFrom (c : PulseCfg) (ns : Nat) : Nat :=
  if ns ≤ c.start then c.start else c.start + ceilDiv (ns - c.start) (max 1 c.period) * max 1 c.period

/-- Present level and inactive level of a pulse. -/
def Pulse.rest (p : Pulse) : Pulse := { p with active := false, level := p.cfg.pol }

def State.updPulse (s : State) (p : Fin 4) (f : Pulse → Pulse) : State :=
  s.updTb fun t => { t with pulses := bankUpd t.pulses p f }

/-- The active phase is over: by device time, or after a step by the D01 time it still had (R280). -/
def Pulse.over_ (p : Pulse) (now devNs : Nat) : Bool :=
  p.active && (match p.endTick with
    | some k => decide (k ≤ now)
    | none => decide (p.activeEnd ≤ devNs))

/-- The active phase ends; settings that waited for it act from then on. -/
def Pulse.trail (p : Pulse) (devNs : Nat) : Pulse :=
  let end_ := if p.endTick.isSome then devNs else p.activeEnd
  match p.next with
  | some c => { p with cfg := c, next := none, fromNs := max p.fromNs end_, endTick := none }.rest
  | none => { p with endTick := none }.rest

/-- A pulse whose active phase is over comes to rest. -/
def Pulse.due (p : Pulse) (now devNs : Nat) : Pulse := if p.over_ now devNs then p.trail devNs else p

/-- TP_TRAILING_EDGE. -/
def execTpTrailingEdge (pulse : Fin 4) (s : State) : Host.Outcome State Fault Refusal :=
  .next (s.updPulse pulse fun p => p.due s.now s.devNs)

/-- Pulses are driven in EARLY, FULL and SHUTDOWN (R34, R65, R288). -/
def State.pulsesRun (s : State) : Bool :=
  s.tb.running && (s.boot.dev == .early || s.boot.dev == .full || s.boot.dev == .shutdown)

/-- TP_LEADING_EDGE: the first scheduled edge not served yet, once device time has reached it. -/
def execTpLeadingEdge (pulse : Fin 4) (s : State) : Host.Outcome State Fault Refusal :=
  .next <|
    let s0 := s.updPulse pulse fun p => p.due s.now s.devNs
    let p := s0.tb.pulses.get pulse
    let e := p.cfg.edgeFrom p.fromNs
    if p.cfg.en ∧ ¬ p.active ∧ e ≤ s.devNs ∧ s.pulsesRun then
      let held := (p.cfg.gate && (s.tb.st == .free || s.tb.st == .locking)) || decide (s.now < p.fromTick)
      if held then s0.updPulse pulse fun p => { p with suppr := satInc 65535 p.suppr, fromNs := e + 1 }
      else
        ((s0.updPulse pulse fun p =>
          { p with active := true, activeEnd := e + p.cfg.width, endTick := none, fromNs := e + 1,
                   level := !p.cfg.pol, edges := satInc 0xFFFFFFFF p.edges }).strobeEdge pulse e).trigSource (1 + pulse.val)
    else s0

/-- The pulses across a step from S to a new time (R280). -/
def Pulse.stepped (p : Pulse) (old new now : Nat) : Pulse :=
  let atS := p.cfg.en && !p.active && p.cfg.edgeFrom p.fromNs == old
  { p with suppr := if atS then satInc 65535 p.suppr else p.suppr, fromNs := new,
           fromTick := now + ceilDiv p.cfg.period 20,
           endTick := if p.active then some (p.endTick.getD (now + ceilDiv (p.activeEnd - old) 10)) else none }

/-- A pending step is due: device time has reached its whole second S. -/
def State.stepDue (s : State) : Bool :=
  s.tb.running && s.tb.pendingStep && decide (s.tb.secNext * secFine ≤ s.tb.fine)

/-- The millisecond of the first beacon across a step: past already, or as far off as before (R280). -/
def Radio.stepped (r : Radio) (old new : Nat) : Radio :=
  { r with startMs := if r.startMs * 1000000 ≤ old then 0 else ceilDiv (new + (r.startMs * 1000000 - old)) 1000000 }

/-- The step: device time becomes S + o' (R279, R280). EV_TIME_STEP is still to be sent. -/
def State.stepTime (s : State) : State :=
  let old := s.tb.secNext * secFine
  let new := ((old : Int) + s.tb.remain).toNat
  let ms := 100000 * (5 * ((2 : Int) ^ 41 + s.tb.f)).toNat
  ((s.updTb fun t =>
    { t.takeOver with fine := new, pendingStep := false, remain := 0, steps := satInc 65535 t.steps, msOwed := true, inLock := 0,
                      msNext := ceilDiv (new + ms) (1000000 * nsFine), stepEvent := some (old, new),
                      pulses := t.pulses.map fun p => p.stepped (old / nsFine) (ceilDiv new nsFine) s.now }).updRadio fun r =>
    r.stepped (old / nsFine) (new / nsFine)).strobesStep (old / nsFine) (new / nsFine)

/-- EV_TIME_STEP of a step made in this tick. -/
def State.stepReport (s : State) : State :=
  match s.tb.stepEvent with
  | some (old, new) =>
    (s.updTb fun t => { t with stepEvent := none }).raiseAll 0x0B 0 0 (time96Bytes (old / 2 ^ 24) ++ time96Bytes (new / 2 ^ 24))
  | none => s

/-- TIME_STEP: in the tick in which device time reaches the whole second S it becomes S + o', before everything else of that tick
(Table 14-6): `State.tick` has made the step by then, else this row makes it. EV_TIME_STEP comes behind an EV_TIME_STATE of
the tick, so it waits for the tick's other rows. -/
def execTimeStep (s : State) : Host.Outcome State Fault Refusal :=
  .next <|
    let s1 := if s.stepDue then s.stepTime else s
    if s1.tb.stepEvent.isSome ∧ (¬ s.pending.isEmpty ∨ s.commandsWait) then s1.putOff .timeStep else s1.stepReport

/-- PRIMARY_REVERT (R281). -/
def execPrimaryRevert (s : State) : Host.Outcome State Fault Refusal :=
  .next <|
    let t := s.tb
    match t.primaryFrom with
    | some from_ =>
      if t.refUse = t.set.backup ∧ t.set.backup ≠ .none ∧ t.set.primary ≠ .none ∧ t.refValid t.set.primary
          ∧ from_ + t.set.revertS * secTicks ≤ s.now then s.useRef t.set.primary
      else s
    | none => s

/-! ## PPSI (R274, R275) -/

/-- Device time at a tenth of a nanosecond within the tick. -/
def State.stamp (s : State) (sub : Nat) : Int := (s.tb.fine + sub * nsFine / 10 : Nat)

/-- Now, at a tenth of a nanosecond within the tick, in 0.1 ns of D01 time. -/
def State.tenths (s : State) (sub : Nat) : Nat := s.now * 100 + sub

/-- 1,500 ms of D01 time without an accepted edge. -/
def Ppsi.overdue (p : Ppsi) (tenths : Nat) : Bool :=
  match p.lastAt with
  | some a => decide (a + 15000000000 ≤ tenths)
  | none => false

/-- The last Sync of the selected master is REF_LOSS.PTP_MS old. -/
def State.syncOverdue (s : State) : Bool :=
  match s.tb.ptp.lastSync with
  | some a => s.tb.running && decide (a + s.tb.set.ptpMs * msTicks ≤ s.now)
  | none => false

/-- PPSI has no edge for 1,500 ms by the end of this tick. -/
def State.ppsiOverdue (s : State) : Bool := s.tb.running && s.tb.ppsi.overdue (s.tenths 99)

/-- Messages awaited that will never be received (PTP_ERR_CNT.MISSING). -/
def Ptp.missed (p : Ptp) (n : Nat) : Ptp := { p with cntMissing := satAdd 65535 p.cntMissing n }

/-- The master is to be qualified afresh; a Follow_Up awaited is missed. -/
def Ptp.lost (p : Ptp) : Ptp :=
  { p.missed (bitAt 0 p.openSync.isSome) with valid := false, syncs := 0, lastSync := none, openSync := none }

/-- PPSI must become valid afresh. -/
def Ppsi.lost (p : Ppsi) : Ppsi := { p with valid := false, run := 0, first := true }

/-- References are lost. Those of one tick are lost together: HOLDOVER directly, with one EV_TIME_STATE (Table 14-6). -/
def State.loseRefs (s : State) (ptp ppsi : Bool) : State :=
  (s.updTb fun t => { t with ptp := if ptp then t.ptp.lost else t.ptp, ppsi := if ppsi then t.ppsi.lost else t.ppsi }).judgeRef

/-- PTP is lost. -/
def State.losePtp (s : State) : State := s.loseRefs true (s.ppsiOverdue && s.behind (· == .ppsiLoss))

/-- PPSI is lost. -/
def State.losePpsi (s : State) : State :=
  s.loseRefs ((s.syncOverdue && s.behind (· == .ptpSyncLoss)) || (s.net.ethUp && s.behind (· == .ethLinkDown))) true

/-- PPSI_LOSS. -/
def execPpsiLoss (s : State) : Host.Outcome State Fault Refusal := .next (if s.ppsiOverdue then s.losePpsi else s)

/-- The offset of an edge: to the nearest whole second, half way to the later one, or to the seconds named. -/
def ppsiOffset (t : Int) (sec : Option Nat) : Int :=
  match sec with
  | some n => (n : Int) * secFine - t
  | none => (2 * t + secFine) / (2 * secFine) * secFine - t

/-- PPSI_EDGE. -/
def execPpsiEdge (rising : Bool) (sub : Fin 100) (s : State) : Host.Outcome State Fault Refusal :=
  .next <|
    if ¬ s.tb.running ∨ rising ≠ (s.tb.set.ppsiEdge == 0) then s
    else
      let k := s.tenths sub.val
      let s0 := if s.tb.ppsi.overdue k then s.losePpsi else s
      let p := s0.tb.ppsi
      let near : Bool := match p.lastAt with
        | some a => between 9999000000 (k - a) 10001000000
        | none => false
      if p.first ∨ near then
        let o := ppsiOffset (s.stamp sub.val) p.setSec
        let run := if p.first then 1 else p.run + 1
        let s1 := s0.updTb fun t =>
          { t with ppsi := { p with lastAt := some k, run := run, valid := p.valid || decide (3 ≤ run), first := false,
                                    setSec := none, cntEdges := satInc 65535 p.cntEdges } }
        let s2 := s1.judgeRef
        if s2.tb.refUse = .ppsi then s2.takeOffset o s.now else s2
      else s0.updTb fun t => { t with ppsi := { p with cntReject := satInc 65535 p.cntReject } }

/-! ## PTP (R272, R273, R275) -/

def State.updPtp (s : State) (f : Ptp → Ptp) : State := s.updTb fun t => { t with ptp := f t.ptp }

/-- The PTP port takes and sends messages. -/
def State.ptpUp (s : State) : Bool := s.tb.running && s.net.ethUp && !s.portTested 1

def State.ptpDiscard (s : State) : State := s.updPtp fun p => { p with cntDiscard := satInc 65535 p.cntDiscard }

/-- A message reaches the PTP port. -/
def State.ptpHears (s : State) (m : PtpRx) : Bool := s.ptpUp && s.frameTaken m.net.eth

/-- The message is one the device ignores and counts: malformed, of another transport or domain, unicast, with a foreign TLV
(Table 14-1, R288). -/
def State.ptpRefuses (s : State) (m : PtpRx) (domain : Nat) : Bool :=
  m.malformed || m.unicast || m.foreignTlv || domain != s.tb.set.domain
    || (match m.net with
        | .udp4 _ => s.tb.set.transport != 0
        | .ethernet _ => s.tb.set.transport != 1
        | .udp6 _ => true)

/-- Act on a message that is heard and not refused. -/
def State.ptpMessage (s : State) (m : PtpRx) (domain : Nat) (f : State → State) : State :=
  if ¬ s.ptpHears m then s else if s.ptpRefuses m domain then s.ptpDiscard else f s

/-- A change of master selection: nothing measured with the former master stands. -/
def Ptp.forget (p : Ptp) : Ptp :=
  { p.lost.missed (bitAt 0 p.openDelay.isSome + bitAt 0 p.openPdelay.isSome) with
    lastRx := none, openDelay := none, openPdelay := none, pdelayRx := none, delay := none, logDelay := 0 }

/-- Order of the default best master clock algorithm: a list compared from its first entry. -/
def Master.rank (m : Master) (other : Master) : List Nat :=
  if m.gmId = other.gmId then [m.steps, m.clockId, m.port]
  else [m.gmPriority1, m.gmClass, m.gmAccuracy, m.gmVariance, m.gmPriority2, m.gmId]

def lexLt : List Nat → List Nat → Bool
  | a :: as, b :: bs => decide (a < b) || (a == b && lexLt as bs)
  | _, _ => false

/-- The best master known. -/
def bestMaster : List Master → Option Master
  | [] => none
  | m :: rest => match bestMaster rest with
    | none => some m
    | some b => if lexLt (b.rank m) (m.rank b) then some b else some m

/-- An Announce of the domain: the best master clock algorithm. A sender 255 steps or more removed is no candidate (IEEE 1588,
PRESUMED notes/assumptions/18). -/
def State.announced (s : State) (m : PtpAnnounce) : State :=
  let x : Master :=
    { clockId := m.clockId, port := m.port, gmPriority1 := m.priority1, gmClass := m.clockClass,
      gmAccuracy := m.accuracy, gmVariance := m.variance, gmPriority2 := m.priority2, gmId := m.gmId, steps := m.steps,
      heardAt := s.now, logSync := 0 }
  let others := s.tb.ptp.masters.filter fun y =>
    (y.clockId, y.port) != (m.clockId, m.port) && decide (s.now < y.heardAt + 6 * secTicks)
  let ms := if 255 ≤ m.steps then others else others ++ [x]
  let best := (bestMaster ms).map fun y => (y.clockId, y.port)
  if best = s.tb.ptp.selected then s.updPtp fun p => { p with masters := ms }
  else (s.updPtp fun p => { p.forget with masters := ms, selected := best }).judgeRef

/-- PTP_ANNOUNCE_RX: an Announce, or a Management or Signaling message, which is ignored and counted. Qualification and ageing
of masters: notes/assumptions/18. -/
def execPtpAnnounceRx (m : PtpGeneral) (s : State) : Host.Outcome State Fault Refusal :=
  .next <|
    match m with
    | .announce a => s.ptpMessage a.rx a.domain fun s => s.announced a
    | .management rx | .signaling rx => if s.ptpHears rx then s.ptpDiscard else s

/-- The message is of the selected master and the domain. -/
def Ptp.fromMaster (p : Ptp) (clockId port : Nat) : Bool := p.selected == some (clockId, port)

/-- A complete Sync: receive time and tick, and origin time with its corrections. -/
def State.ptpSynced (s : State) (rx origin : Int) (at_ : Nat) : State :=
  let s0 := s.updPtp fun p => { p with openSync := none, lastRx := some (rx, origin) }
  match s0.tb.ptp.delay with
  | none => s0
  | some d =>
    let s1 := s0.updPtp fun p =>
      { p with syncs := p.syncs + 1, valid := p.valid || decide (2 ≤ p.syncs + 1), cntSync := satInc 65535 p.cntSync }
    let s2 := s1.judgeRef
    if s2.tb.refUse = .ptp then
      s2.takeOffset (origin + d + s.tb.set.asym * nsFine / 10 - rx) at_
    else s2

/-- PTP_SYNC_RX. -/
def execPtpSyncRx (m : PtpSync) (s : State) : Host.Outcome State Fault Refusal :=
  .next <| s.ptpMessage m.rx m.domain fun s =>
    if ¬ s.tb.ptp.fromMaster m.clockId m.port then s
    else if m.logInterval < -7 ∨ 4 < m.logInterval then s.ptpDiscard
    else
      let rx := s.stamp m.sub + (s.tb.set.phyRx * nsFine / 10 : Nat)
      let s1 := s.updPtp fun p =>
        { p.missed (bitAt 0 p.openSync.isSome) with lastSync := some s.now, logSync := m.logInterval }
      if m.twoStep then s1.updPtp fun p => { p with openSync := some ⟨m.seq, rx, m.correction * 2 ^ 24, s.now⟩ }
      else s1.ptpSynced rx ((m.origin + m.correction) * 2 ^ 24) s.now

/-- PTP_FOLLOW_UP_RX. The offset is measured at the Sync it completes. -/
def execPtpFollowUpRx (m : PtpFollow) (s : State) : Host.Outcome State Fault Refusal :=
  .next <| s.ptpMessage m.rx m.domain fun s =>
    if ¬ s.tb.ptp.fromMaster m.clockId m.port then s
    else
      match s.tb.ptp.openSync with
      | some o => if o.seq = m.seq then s.ptpSynced o.rx ((m.origin + m.correction) * 2 ^ 24 + o.corr) o.at_ else s
      | none => s

/-- Header of an own PTP message: type, length, flags, correction, sequence, control (IEEE 1588, PRESUMED
notes/assumptions/18). -/
def ptpHeader (s : State) (kind len flags : Nat) (corr : Int) (seq control : Nat) : Bytes :=
  [BitVec.ofNat 8 kind, 0x12] ++ (le 2 len).reverse ++ [BitVec.ofNat 8 s.tb.set.domain, 0] ++ (le 2 flags).reverse
    ++ (le 8 (unsigned 64 corr)).reverse ++ zeros 4 ++ fit 8 s.otp.clockId ++ [0, 1] ++ (le 2 seq).reverse
    ++ [BitVec.ofNat 8 control, 0x7F]

/-- The ten bytes of a PTP timestamp. -/
def ptpTime (fine : Int) : Bytes :=
  let ns := fine.toNat / nsFine
  (le 6 (ns / 1000000000)).reverse ++ (le 4 (ns % 1000000000)).reverse

/-- Transmit time. -/
def State.txStamp (s : State) (sub : Nat) : Int := s.stamp sub + (s.tb.set.phyTx * nsFine / 10 : Nat)

/-- Put a message on HPB as Table 14-1 gives for the transport: `peer` one of the peer delay mechanism, `event` on port 319, else
320. The source port of a datagram is PRESUMED to be the destination's, notes/assumptions/18. -/
def State.sendPtp (s : State) (peer event : Bool) (bs : Bytes) : State :=
  let port := if event then 319 else 320
  let f :=
    if s.tb.set.transport = 0 then
      s.ethFrame (some [0x01, 0x00, 0x5E, 0x00, if peer then 0x00 else 0x01, if peer then 0x6B else 0x81]) 0x0800
        (some ⟨s.net.inForce.hpbIp, if peer then 0xE000006B else 0xE0000181, 17, some (port, port)⟩) bs
    else s.ethFrame (some (if peer then [0x01, 0x80, 0xC2, 0x00, 0x00, 0x0E] else [0x01, 0x1B, 0x19, 0x00, 0x00, 0x00])) 0x88F7 none bs
  { s with out := s.out ++ [Out.ethernet f] }

/-- Ticks of an interval of 2^log seconds. -/
def logTicks (log : Int) : Nat := secTicks * 2 ^ log.toNat / 2 ^ (-log).toNat

/-- An interval has passed since a tick, if there was one. -/
def State.since (s : State) (last : Option Nat) (ticks : Nat) : Bool :=
  match last with
  | some a => decide (a + ticks ≤ s.now)
  | none => true

/-- PTP_DELAY_REQ_TX, due when the interval that the master gave last has passed. -/
def execPtpDelayReqTx (sub : Fin 100) (s : State) : Host.Outcome State Fault Refusal :=
  .next <|
    if s.ptpUp ∧ s.tb.set.delay = 0 ∧ s.tb.ptp.selected.isSome ∧ s.since s.tb.ptp.reqAt (logTicks s.tb.ptp.logDelay) then
      let q := s.tb.ptp.reqSeq
      (s.updPtp fun p =>
        { p.missed (bitAt 0 p.openDelay.isSome) with
          openDelay := some ⟨q, s.txStamp sub.val⟩, reqSeq := (q + 1) % 65536, reqAt := some s.now }).sendPtp false true
        (ptpHeader s 1 44 0 0 q 1 ++ zeros 10)
    else s

/-- PTP_DELAY_RESP_RX: the mean path delay from the last Sync and this answer, and the interval of the next request. -/
def execPtpDelayRespRx (m : PtpDelayResp) (s : State) : Host.Outcome State Fault Refusal :=
  .next <| s.ptpMessage m.rx m.domain fun s =>
    if ¬ s.tb.ptp.fromMaster m.clockId m.port ∨ s.tb.set.delay ≠ 0 ∨ ¬ m.toUs then s
    else
      match s.tb.ptp.openDelay, s.tb.ptp.lastRx with
      | some q, some (rx, origin) =>
        if q.seq = m.seq then
          s.updPtp fun p =>
            { p with openDelay := none, cntDelay := satInc 65535 p.cntDelay, logDelay := m.logInterval,
                     delay := some (((rx - origin) + ((m.receive - m.correction) * 2 ^ 24 - q.tx)) / 2) }
        else s
      | some q, none => if q.seq = m.seq then s.updPtp fun p => { p with openDelay := none, logDelay := m.logInterval } else s
      | none, _ => s

/-- PTP_PDELAY_REQ_TX, once per second. -/
def execPtpPdelayReqTx (sub : Fin 100) (s : State) : Host.Outcome State Fault Refusal :=
  .next <|
    if s.ptpUp ∧ s.tb.set.delay = 1 ∧ s.since s.tb.ptp.preqAt secTicks then
      let q := s.tb.ptp.pdelaySeq
      (s.updPtp fun p =>
        { p.missed (bitAt 0 p.openPdelay.isSome) with
          openPdelay := some ⟨q, s.txStamp sub.val⟩, pdelayRx := none, pdelaySeq := (q + 1) % 65536,
          preqAt := some s.now }).sendPtp true true
        (ptpHeader s 2 54 0 0 q 5 ++ zeros 20)
    else s

/-- PTP_PDELAY_REQ_RX: answered two-step. -/
def execPtpPdelayReqRx (m : PtpPdelayReq) (s : State) : Host.Outcome State Fault Refusal :=
  .next <| s.ptpMessage m.rx m.domain fun s =>
    if s.tb.set.delay ≠ 1 then s
    else
      let t2 := s.stamp m.rxSub + (s.tb.set.phyRx * nsFine / 10 : Nat)
      let t3 := s.txStamp m.txSub
      let peer := (le 8 m.clockId).reverse ++ (le 2 m.port).reverse
      let frac (t : Int) : Int := t % nsFine / 2 ^ 24
      (s.sendPtp true true (ptpHeader s 3 54 0x0200 (-(frac t2)) m.seq 5 ++ ptpTime t2 ++ peer)).sendPtp true false
        (ptpHeader s 10 54 0 (frac t3) m.seq 5 ++ ptpTime t3 ++ peer)

/-- A new peer delay. -/
def State.pdelayIs (s : State) (d : Int) : State :=
  s.updPtp fun p =>
    { p with openPdelay := none, pdelayRx := none, delay := some d, cntDelay := satInc 65535 p.cntDelay }

/-- PTP_PDELAY_RESP_RX: a Pdelay_Resp, or its Follow_Up. -/
def execPtpPdelayRespRx (m : PtpPdelayResp) (s : State) : Host.Outcome State Fault Refusal :=
  .next <| s.ptpMessage m.rx m.domain fun s =>
      match s.tb.ptp.openPdelay with
      | none => s
      | some q =>
        if q.seq ≠ m.seq ∨ s.tb.set.delay ≠ 1 ∨ ¬ m.toUs then s
        else if m.followUp then
          (match s.tb.ptp.pdelayRx with
           | some (n, t2, t4) =>
             if n = m.seq then s.pdelayIs (((t4 - q.tx) - ((m.time + m.correction) * 2 ^ 24 - t2)) / 2) else s
           | none => s)
        else
          let t4 := s.stamp m.sub + (s.tb.set.phyRx * nsFine / 10 : Nat)
          if m.twoStep then
            s.updPtp fun p => { p with pdelayRx := some (m.seq, (m.time - m.correction) * 2 ^ 24, t4) }
          else s.pdelayIs (((t4 - q.tx) - m.correction * 2 ^ 24) / 2)

/-- PTP_SYNC_LOSS (R275). -/
def execPtpSyncLoss (s : State) : Host.Outcome State Fault Refusal := .next (if s.syncOverdue then s.losePtp else s)

/-! ## Commands (R283 to R285) -/

/-- TIME_GET. -/
def doTimeGet (t : Ticket) (s : State) : State :=
  let b := s.tb
  if ¬ b.running then s.reply t eHwFault []
  else
    s.reply t stOk (time96Bytes s.devTime ++ le 4 (b.unc s.now) ++ le 1 b.st.code ++ le 1 b.refUse.code
      ++ le 1 (bitAt 0 (b.s != 0) + bitAt 1 b.pendingStep) ++ zeros 1)

def refOf (b : Byte) : Ref := if b = 1 then .ptp else if b = 2 then .ppsi else .none

/-- Ranges of TIME_REF_SELECT. -/
def timeRefOk (p : TimeRefP) : Bool :=
  decide (p.primary.toNat ≤ 2) && decide (p.backup.toNat ≤ 2) && decide (p.delay.toNat ≤ 1)
    && decide (p.domain.toNat ≤ 127) && decide (p.transport.toNat ≤ 1) && decide (p.ppsiEdge.toNat ≤ 1)
    && between 1 p.stepLimit.toNat 1000000 && between 1 p.slewMax.toNat 100
    && (p.setSec || p.seconds == 0) && !(p.primary != 0 && p.backup == p.primary)
    && !(p.setSec && p.primary != 2 && p.backup != 2)

/-- A SAVE in the queue that has been answered already is replaced by a later one. -/
def StoreWrite.staleSave (w : StoreWrite) : Bool :=
  match w.item with
  | .timebase _ => w.ticket.isNone
  | _ => false

/-- Put a selection in force. -/
def State.selectRef (s : State) (n : TbSettings) : State :=
  let old := s.tb.set
  let s1 := s.updTb fun t =>
    { t with set := n, ppsi := { t.ppsi with first := t.ppsi.first || old.ppsiEdge != n.ppsiEdge } }
  let s2 : State :=
    if old.domain ≠ n.domain ∨ old.transport ≠ n.transport then
      s1.updPtp fun p => { p.forget with selected := none, masters := [] }
    else if old.delay ≠ n.delay then s1.updPtp Ptp.forget
    else s1
  let s3 := s2.updTb fun t =>
    { t with primaryFrom := if t.refValid n.primary then some (if old.primary = n.primary then t.primaryFrom.getD s.now else s.now)
               else none }
  let s4 := if s3.tb.pendingStep then s3.updTb fun t => { t with pendingStep := false, needFirst := true } else s3
  if n.primary = .none then
    let s5 := s4.updTb fun t => { t with refUse := .none }
    if s5.tb.st = .free then s5 else s5.toTb .free
  else
    let w : Ref :=
      if s4.tb.refValid n.primary ∧ (old.primary ≠ n.primary ∨ old.backup ≠ n.backup) then n.primary else s4.tb.wanted
    s4.useRef w

/-- TIME_REF_SELECT. -/
def doTimeRefSelect (t : Ticket) (p : TimeRefP) (s : State) : State :=
  if ¬ timeRefOk p then s.reply t eParam []
  else
    let n := { s.tb.set with
      primary := refOf p.primary, backup := refOf p.backup, delay := p.delay.toNat, domain := p.domain.toNat,
      transport := p.transport.toNat, ppsiEdge := p.ppsiEdge.toNat, stepLimitUs := p.stepLimit.toNat,
      slewMax := p.slewMax.toNat }
    let s1 := s.selectRef n
    let s2 := if p.setSec then s1.updTb fun b => { b with ppsi := { b.ppsi with setSec := some p.seconds.toNat } } else s1
    if p.save then
      ({ s2 with store := { s2.store with queue := s2.store.queue.filter fun w => !w.staleSave } }).storePush (.timebase n)
        (some t)
    else s2.reply t stOk []

/-- PULSE_CONFIG. -/
def doPulseConfig (t : Ticket) (p : PulseP) (s : State) : State :=
  let trim := p.trim.toInt
  let per := p.period.toNat
  if 3 < p.pulse.toNat ∨ trim < -500 ∨ 500 < trim ∨ p.startFrac ≠ 0 ∨ 1000000000 ≤ p.startNs.toNat
      ∨ ¬ between 1000 per 1000000000000 ∨ ¬ between 10 p.width.toNat (per - 10) then s.reply t eParam []
  else
    let c : PulseCfg :=
      { en := p.en, pol := p.pol, gate := p.gate, trim := trim, start := p.startSec.toNat * 1000000000 + p.startNs.toNat,
        period := per, width := p.width.toNat }
    (s.updPulse (Fin.ofNat 4 p.pulse.toNat) fun x =>
      let y := { x with fromNs := ceilDiv s.tb.fine nsFine + 10000, fromTick := 0 }
      if x.active then { y with next := some c } else { y with cfg := c }.rest).reply t stOk []

/-! ## The configuration store's writes (R285, R375, R404) -/

/-- Put an item in the store. -/
def ConfigStore.put (c : ConfigStore) : StoreItem → ConfigStore
  | .timebase t => { c with timebase := some t }
  | .gear n v => { c with gear := bankSet c.gear n v }
  | .coordFc v => { c with coordFc := v }
  | .enrolment => c

/-- CONFIG_STORE_WRITE_DONE: the oldest write is read back, or has failed and is tried again 1 s later. A read-back later than
100 ms after its command is too late for its reply. An enrolment write at the head ends by ENROL_COMPLETE. -/
def execConfigStoreWriteDone (ok : Bool) (s : State) : Host.Outcome State Fault Refusal :=
  .next <|
    match s.store.queue with
    | [] => s
    | w :: rest =>
      if s.underTest 9 ∨ s.now < w.retryAt.getD 0 ∨ w.item = .enrolment then s
      else if ok then
        let s1 : State := { s with store := { s.store.put w.item with queue := rest } }
        match w.ticket with
        | some t => s1.reply t (if w.since + 100 * msTicks < s.now then eTimeout else stOk) []
        | none => s1
      else { s with store := { s.store with queue := { w with retryAt := some (s.now + secTicks) } :: rest } }

/-- SAVE_REPLY_TIMEOUT: the writes whose command has waited 100 ms are answered; they stay in the queue. A read-back of the same
tick acts first. -/
def execSaveReplyTimeout (s : State) : Host.Outcome State Fault Refusal :=
  .next <|
    if s.readBackComes then s.putOff .saveReplyTimeout
    else
    let late (w : StoreWrite) : Bool := w.ticket.isSome && decide (w.since + 100 * msTicks ≤ s.now)
    let s1 : State := { s with store := { s.store with
      queue := s.store.queue.map fun w => if late w then { w with ticket := none } else w } }
    (s.store.queue.filterMap fun w => if late w then w.ticket else none).foldl (fun s t => s.reply t eTimeout []) s1

/-- A failed clock stops device time; the pulses rest (R288). -/
def State.timeStop (s : State) : State :=
  s.updTb fun t => { t with running := false, pulses := t.pulses.map fun p => { p with next := none }.rest }

/-- Settings saved in the store act when DEV_STATE first leaves BOOT (R285). -/
def State.timeLoad (s : State) : State :=
  match s.store.timebase with
  | some n => s.selectRef n
  | none => s

/-! ## Registers (R286) -/

/-- f + s in parts of 10^-12. -/
def ppt (x : Int) : Nat := unsigned 32 (rne (x * 1000000000000) (2 ^ 41))

def tbRead (s : State) (off : Nat) : Nat :=
  let t := s.tb
  if off = 0x000 then
    t.st.code + t.refUse.code * 16 + bitAt 8 (t.refValid t.set.primary) + bitAt 9 (t.refValid t.set.backup)
      + bitAt 10 (t.s != 0) + bitAt 11 t.pendingStep + bitAt 12 t.everLocked
  else if off = 0x004 then t.unc s.now
  else if off = 0x008 then at_ (time96Bytes s.devTime) 0 4
  else if off = 0x00C then at_ (time96Bytes t.latch) 4 4
  else if off = 0x010 then at_ (time96Bytes t.latch) 8 4
  else if off = 0x014 then unsigned 32 (clampI (-2147483648) 2147483647 (rne (t.lastOffset.getD 0) nsFine))
  else if off = 0x018 then ppt (t.f + t.s)
  else if off = 0x01C then ppt (if t.st = .locked then t.meanF s.now else t.hoFreq)
  else if off = 0x020 then t.set.tcS + t.set.lockNs * 65536
  else if off = 0x024 then t.set.lockN + t.set.revertS * 256
  else if off = 0x028 then t.set.ptpMs
  else if off = 0x02C then t.set.freqPpb + t.set.driftPpbh * 65536
  else if off = 0x030 then t.set.phyRx + t.set.phyTx * 65536
  else if off = 0x034 then unsigned 32 t.set.asym
  else if off = 0x038 then
    t.set.primary.code + t.set.backup.code * 4 + t.set.delay * 16 + t.set.transport * 32 + t.set.ppsiEdge * 64
      + t.set.domain * 256
  else if off = 0x03C then t.set.stepLimitUs + t.set.slewMax * 2 ^ 20
  else if off = 0x040 then ((t.ptp.selected.map (·.1)).getD 0) % 2 ^ 32
  else if off = 0x044 then ((t.ptp.selected.map (·.1)).getD 0) / 2 ^ 32
  else if off = 0x048 then
    (match t.ptp.selected with
     | some (_, p) => p % 65536 + unsigned 8 t.ptp.logSync * 65536
     | none => 0)
  else if off = 0x04C then
    unsigned 32 (clampI (-2147483648) 2147483647 (rne ((t.ptp.delay.getD 0) * 10) nsFine))
  else if off = 0x050 then t.ptp.cntSync + t.ptp.cntDelay * 65536
  else if off = 0x054 then t.ptp.cntMissing + t.ptp.cntDiscard * 65536
  else if off = 0x058 then t.ppsi.cntEdges + t.ppsi.cntReject * 65536
  else if off = 0x05C then t.steps + t.holdovers * 65536
  else if 0x100 ≤ off ∧ off < 0x180 then
    let p := t.pulses.get (Fin.ofNat 4 ((off - 0x100) / 0x20))
    let o := off % 0x20
    let c := p.next.getD p.cfg
    if o = 0 then bitAt 0 c.en + bitAt 1 c.pol + bitAt 2 c.gate + bitAt 3 p.level + unsigned 16 c.trim * 65536
    else if o = 0x04 then c.period % 2 ^ 32
    else if o = 0x08 then c.period / 2 ^ 32
    else if o = 0x0C then c.width % 2 ^ 32
    else if o = 0x10 then c.width / 2 ^ 32
    else if o = 0x14 then p.edges
    else if o = 0x18 then p.suppr
    else 0
  else 0

def tbLatch (s : State) (off : Nat) : State :=
  if off = 0x008 then s.updTb fun t => { t with latch := s.devTime } else s

def tbCheck (off v : Nat) : Bool :=
  if off = 0x020 then between 1 (bits 9 0 v) 1000 && between 10 (bits 25 16 v) 1000
  else if off = 0x024 then between 4 (bits 7 0 v) 255 && between 1 (bits 15 8 v) 255
  else if off = 0x028 then between 100 (bits 15 0 v) 60000
  else if off = 0x02C then decide (bits 15 0 v ≤ 10000) && decide (bits 31 16 v ≤ 10000)
  else true

def tbWrite (s : State) (off v : Nat) : State :=
  let upd (f : TbSettings → TbSettings) : State := s.updTb fun t => { t with set := f t.set }
  if off = 0x020 then upd fun x => { x with tcS := bits 9 0 v, lockNs := bits 25 16 v }
  else if off = 0x024 then upd fun x => { x with lockN := bits 7 0 v, revertS := bits 15 8 v }
  else if off = 0x028 then upd fun x => { x with ptpMs := bits 15 0 v }
  else if off = 0x02C then upd fun x => { x with freqPpb := bits 15 0 v, driftPpbh := bits 31 16 v }
  else if off = 0x030 then upd fun x => { x with phyRx := bits 15 0 v, phyTx := bits 31 16 v }
  else if off = 0x034 then upd fun x => { x with asym := signed 32 v }
  else if off = 0x060 ∧ v.testBit 0 then
    s.updTb fun t =>
      { t with steps := 0, holdovers := 0,
               ptp := { t.ptp with cntSync := 0, cntDelay := 0, cntMissing := 0, cntDiscard := 0 },
               ppsi := { t.ppsi with cntEdges := 0, cntReject := 0 },
               pulses := t.pulses.map fun p => { p with edges := 0, suppr := 0 } }
  else s

end Sys2Proof.Machine
end

