-- ==== Sys2Proof/Machine/Power.lean ====
section
/-! DEFINITION. Junction sensors, thermal actions, AVSBus, the throughput monitor, the clock monitor and debug halt
(02_package_power_thermal.md, 03_self_timed_fabric.md). -/

namespace Sys2Proof.Machine

def State.updThermal (s : State) (f : Thermal → Thermal) : State := { s with thermal := f s.thermal }
def State.updAvs (s : State) (f : Avs → Avs) : State := { s with avs := f s.avs }
def State.updFabric (s : State) (f : Fabric → Fabric) : State := { s with fabric := f s.fabric }

/-- The device is out of reset. -/
def State.powered (s : State) : Bool := s.boot.step != .held

/-! ## Status registers that events carry -/

def Thermal.valid (t : Thermal) : List (Fin 12 × Int) :=
  (bankList t.sensors).filterMap fun x => if x.2.valid then some (x.1, x.2.temp.toInt) else none

/-- The sensor with the highest valid reading, the lowest index first. -/
def Thermal.hot (t : Thermal) : Nat :=
  ((t.valid.foldl (fun a x => match a with
    | none => some x
    | some y => if y.2 < x.2 then some x else some y) none).map (·.1.val)).getD 0

/-- HBM_2X: TS10 or TS11 above 85 °C (R36). -/
def Thermal.hbm2x (t : Thermal) : Bool := t.valid.any fun x => decide (10 ≤ x.1.val) && decide (85 * 16 < x.2)

def Thermal.status (t : Thermal) : Nat :=
  bitAt 0 t.warn + bitAt 1 t.limit + bitAt 2 t.crit + bitAt 3 t.sensorFail + t.hot * 16 + bitAt 8 t.hbm2x

/-- THERM_N is low (R37). -/
def Thermal.thermLow (t : Thermal) : Bool := t.limit || t.crit

def Avs.status (a : Avs) : Nat := bitAt 0 a.noresp + bitAt 1 a.alert + a.fails * 256

def Fabric.clkStatus (f : Fabric) : Nat :=
  bitAt 0 f.pllC + bitAt 1 f.pllF + bitAt 2 f.tcxoOk + bitAt 3 f.xt32Ok + bitAt 4 f.xt32Fail + bitAt 5 f.clkFail

/-- EV_THERMAL. -/
def State.thermalEvent (s : State) (cause : Nat) (n : Fin 12) : State :=
  s.raiseAll 0x11 0 0 (le 1 cause ++ le 1 n.val ++ le 2 (s.thermal.sensors.get n).temp.toNat ++ le 4 s.thermal.status)

/-- EV_LINK_ERR. -/
def State.linkErr (s : State) (source snapshot : Nat) : State :=
  s.raiseAll 0x12 0 0 (le 1 source ++ zeros 3 ++ le 4 snapshot)

/-! ## Hardware shutdown (R34, R58) -/

/-- Every core OFF. -/
def State.coresOff (s : State) : State :=
  s.updCores fun c => { c with core := c.core.map fun x => { x with st := .off, job := none } }

/-- What both shutdowns do: axes, drives, radio, outstanding commands, jobs, cores, DEV_STATE. `cause`: 6 thermal, 7 clock.
Where the manual does not say what becomes of the rest of a start, of RESTRICTED or of RETIRED, the model ends it in SHUTDOWN
for good, and the ports answer as SHUTDOWN does: DESIGN CHOICE, notes/assumptions/9. -/
def State.shutdown (s : State) (cause : Nat) : State :=
  let s1 : State := { s with
    boot := { s.boot with dev := .shutdown, step := if s.boot.step = .done then .done else .stopped },
    safety := { s.safety with thermal := s.safety.thermal || cause == 6, clock := s.safety.clock || cause == 7 } }
  let s2 := if s.boot.dev = .boot then s1.timeLoad else s1
  (((s2.hardwareStop.lightsOff).hostsHwFail.jobsHwFail (cause - 5)).coresOff).safeEvent cause 0xFF

/-- Thermal shutdown on a reading at TJ_CRIT; each gear reports lamp failure. -/
def State.thermalShutdown (s : State) (n : Fin 12) : State :=
  let s1 := (s.updThermal fun t => { t with crit := true }).updAvs fun a => { a with ramping := decide (720 < a.reqMv) }
  ((s1.shutdown 6).thermalEvent 5 n).lampRefresh

/-! ## Junction sensors (R31, R32, R39, R41) -/

/-- Sensors that throttle: not the field die's (Table 2-6). -/
def throttles (n : Fin 12) : Bool := n != 8 && n != 9

/-- LIMIT becomes set: the ceiling begins to fall. -/
def State.limitSet (s : State) (n : Fin 12) : State :=
  (s.updThermal fun t => { t with limit := true, ceilDue := if t.limit then t.ceilDue else s.now }).thermalEvent 3 n

/-- Compare the valid readings with the thresholds after a conversion of a sensor. -/
def State.judgeTemps (s : State) (n : Fin 12) : State :=
  let t := s.thermal
  let v := t.valid
  let warnAt : Int := t.tjWarn * 16
  let limAt : Int := 105 * 16
  let hyst : Int := t.tjHyst * 16
  let lim := v.filter fun x => throttles x.1
  let s1 : State :=
    if ¬ t.warn ∧ v.any (fun x => decide (warnAt ≤ x.2)) then
      (s.updThermal fun t => { t with warn := true }).thermalEvent 1 n
    else if t.warn ∧ v.all (fun x => decide (x.2 < warnAt - hyst)) then
      (s.updThermal fun t => { t with warn := false }).thermalEvent 2 n
    else s
  let s2 : State :=
    if ¬ t.limit ∧ lim.any (fun x => decide (limAt ≤ x.2)) then s1.limitSet n
    else if t.limit ∧ ¬ t.limitHeld ∧ lim.all (fun x => decide (x.2 < limAt - hyst)) then
      (s1.updThermal fun t => { t with limit := false, ceilDue := s.now + 10 * msTicks }).thermalEvent 4 n
    else s1
  if ¬ t.crit ∧ v.any (fun x => decide (115 * 16 ≤ x.2)) then s2.thermalShutdown n else s2

/-- A sensor fails; the second of TS00 to TS07 latches LIMIT. -/
def State.sensorFails (s : State) (n : Fin 12) : State :=
  let s1 := (s.updThermal fun t =>
    { t with sensors := bankUpd t.sensors n fun x => { x with valid := false, failed := true }, sensorFail := true }).thermalEvent
      6 n
  let failed := ((bankList s1.thermal.sensors).filter fun x => decide (x.1.val < 8) && x.2.failed).length
  if n.val < 8 ∧ 2 ≤ failed ∧ ¬ s.thermal.limitHeld then
    (s1.updThermal fun t => { t with limitHeld := true }).limitSet n
  else s1

/-- TEMP_CONVERSION. A stack's sensor gives whole degrees (Table 2-5). -/
def execTempConversion (sensor : Fin 12) (reading : BitVec 16) (s : State) : Host.Outcome State Fault Refusal :=
  .next <|
    if ¬ s.powered then s
    else
      let r : BitVec 16 := if 10 ≤ sensor.val then reading &&& 0xFFF0 else reading
      let x := s.thermal.sensors.get sensor
      let s1 := s.updThermal fun t => { t with sensors := bankUpd t.sensors sensor fun x => { x with temp := r } }
      if x.failed then s1
      else if r.toInt < -55 * 16 ∨ 150 * 16 < r.toInt then (s1.sensorFails sensor).judgeTemps sensor
      else
        (s1.updThermal fun t =>
          { t with sensors := bankUpd t.sensors sensor fun x => { x with valid := true },
                   peak := match t.peak with
                     | some (p, k) => if p.toInt < r.toInt then some (r, sensor) else some (p, k)
                     | none => some (r, sensor) }).judgeTemps sensor

/-- TEMP_CONVERSION_TIMEOUT (R41). -/
def execTempConversionTimeout (sensor : Fin 12) (s : State) : Host.Outcome State Fault Refusal :=
  .next <|
    if s.powered ∧ ¬ (s.thermal.sensors.get sensor).failed then (s.sensorFails sensor).judgeTemps sensor else s

/-- CEILING_STEP (R33). -/
def execCeilingStep (s : State) : Host.Outcome State Fault Refusal :=
  .next <|
    if s.powered ∧ s.thermal.ceilDue ≤ s.now then
      s.updThermal fun t =>
        if t.limit then { t with ceilMv := max 720 (t.ceilMv - 10), ceilDue := s.now + msTicks }
        else if t.ceilMv < 850 then { t with ceilMv := min 850 (t.ceilMv + 10), ceilDue := s.now + 10 * msTicks }
        else t
    else s

/-! ## AVSBus (R29, R30, R34) -/

/-- A Voltage write. -/
def State.avsWrite (s : State) (mv : Nat) : State :=
  { s.updAvs fun a => { a with reqMv := mv, lastWrite := some s.now } with out := s.out ++ [Out.avs mv] }

/-- VCORE_SHUTDOWN_STEP: toward 0.72 V, at most once per 20 µs. -/
def execVcoreShutdownStep (s : State) : Host.Outcome State Fault Refusal :=
  .next <|
    let due : Bool := match s.avs.lastWrite with
      | some w => decide (w + 20 * usTicks ≤ s.now)
      | none => true
    if s.avs.ramping ∧ due then
      let v := max 720 (s.avs.reqMv - 10)
      (s.avsWrite v).updAvs fun a => { a with ramping := decide (720 < v) }
    else s

/-- A transaction that failed: every third in a row sets NORESP and sends the event, also while the failure stands. -/
def State.avsFail (s : State) : State :=
  let n := satInc 255 s.avs.fails
  let s1 := s.updAvs fun a => { a with fails := n }
  if n = 3 then
    let s2 := if s.avs.failed then s1.updAvs fun a => { a with noresp := true } else
      (s1.updAvs fun a => { a with noresp := true, failed := true, retryAt := s.now + 10 * msTicks }).updFabric
        fun f => { f with rateNow := none }
    s2.linkErr 1 s2.avs.status
  else s1

/-- A transaction that was answered. Kinds: 0 Voltage write, 1 Voltage read, 2 Current read, 3 Status read. -/
def State.avsOk (s : State) (kind value : Nat) (alert : Bool) : State :=
  s.updAvs fun a =>
    let b := { a with fails := 0, alert := a.alert || alert }
    if kind = 1 then { b with readMv := value % 65536, failed := false }
    else if kind = 2 then { b with iout10 := value % 65536 }
    else b

/-- AVS_TRANSACTION_DONE. -/
def execAvsTransactionDone (kind : Fin 4) (ok : Bool) (value : Nat) (alert : Bool) (s : State) :
    Host.Outcome State Fault Refusal :=
  .next <| if ¬ s.powered then s else if ok then s.avsOk kind.val value alert else s.avsFail

/-- AVS_RETRY: a Voltage read every 10 ms after the failure. -/
def execAvsRetry (ok : Bool) (value : Nat) (alert : Bool) (s : State) : Host.Outcome State Fault Refusal :=
  .next <|
    if s.powered ∧ s.avs.failed ∧ s.avs.retryAt ≤ s.now then
      let s1 := s.updAvs fun a => { a with retryAt := s.now + 10 * msTicks }
      if ok then s1.avsOk 1 value alert else s1.avsFail
    else s

/-! ## Throughput monitor (R46 to R50) -/

/-- A core is PINNED. -/
def State.anyPinned (s : State) : Bool := s.cores.core.toList.any fun c => c.st == .pinned

def State.floorMv (s : State) : Nat := if s.anyPinned then 720 else s.fabric.vminOn
def State.ceilMv (s : State) : Nat := min 850 s.thermal.ceilMv

/-- The lowest rate among the cores in JOB, and the core: the lowest index where several give it (DESIGN CHOICE,
notes/assumptions/9). -/
def State.slowest (s : State) (rates : Vector Nat 32) : Option (Nat × Nat) :=
  (List.finRange 32).foldl (fun a c =>
    if (s.core1 c).st = .job then
      (match a with
       | some (r, k) => if rates.get c < r then some (rates.get c, c.val) else some (r, k)
       | none => some (rates.get c, c.val))
    else a) none

/-- The request after a kept window (R47). -/
def State.newRequest (s : State) (r : Option (Nat × Nat)) : Nat :=
  let v := s.avs.reqMv
  let lo := s.floorMv
  let hi := s.ceilMv
  let down := max (v - 10) lo
  if hi < v then max (v - 10) hi
  else if v < lo then min (v + 10) lo
  else
    match r with
    | none => down
    | some (r, _) =>
      if s.fabric.pwrCapOn < s.avs.pkgDw then down
      else if r < s.fabric.rateTgtOn ∧ s.avs.pkgDw < s.fabric.pwrCapOn - 20 then min (v + 10) hi
      else if s.fabric.rateTgtOn * 104 < r * 100 then down
      else v

/-- The limit that keeps the request from rising, 0 none (Table 3-5, Table 3-6): of two that block, the one higher in
Table 3-2 (R46; DEDUCED, notes/assumptions/9). -/
def State.blockedBy (s : State) : Nat :=
  if s.avs.failed then 4
  else if s.ceilMv ≤ s.avs.reqMv ∧ s.thermal.ceilMv < 850 then 2
  else if s.ceilMv ≤ s.avs.reqMv then 3
  else if s.fabric.pwrCapOn - 20 ≤ s.avs.pkgDw ∧ s.floorMv ≤ s.avs.reqMv then 1
  else 0

/-- EV_RATE_LOW. -/
def State.rateEvent (s : State) (low : Bool) (cause : Nat) : State :=
  (s.updFabric fun f => { f with low := low, cause := cause }).raiseAll 8 0 0
    (le 1 (bitAt 0 low) ++ le 1 cause ++ zeros 2 ++ le 4 s.fabric.minMhz ++ le 4 s.fabric.rateTgtOn ++ le 4 s.avs.reqMv)

/-- Persistence of a low or a met rate (R49): `start` is where the window began. -/
def State.judgeRate (s : State) (r : Option (Nat × Nat)) (blocked start : Nat) : State :=
  let under : Bool := match r with
    | some (r, _) => decide (r < s.fabric.rateTgtOn)
    | none => false
  let s1 := s.updFabric fun f =>
    { f with blockCause := if under ∧ blocked ≠ 0 then blocked else f.blockCause,
             blockedFrom := if under ∧ blocked ≠ 0 then some (f.blockedFrom.getD start) else none,
             metFrom := if under then none else some (f.metFrom.getD start) }
  let held (x : Option Nat) : Bool := match x with
    | some a => decide (a + s.fabric.rateLowMs * msTicks ≤ s.now)
    | none => false
  if ¬ s.fabric.low ∧ held s1.fabric.blockedFrom then s1.rateEvent true s1.fabric.blockCause
  else if s.fabric.low ∧ held s1.fabric.metFrom then s1.rateEvent false 0
  else s1

/-- MONITOR_WINDOW_END. A kept window brings what was written to RATE_TGT, PWR_CAP and VMIN_IDLE in force (R56); dispatch
resumes at the end of any window. With MON_EN 0 the monitor does not run: CORE_RATE, RATE_STATUS and the values in force
stand still (DESIGN CHOICE, notes/assumptions/9). -/
def execMonitorWindowEnd (rates : Vector Nat 32) (pkgDw : Nat) (s : State) : Host.Outcome State Fault Refusal :=
  .next <|
    if s.boot.dev = .boot ∨ s.boot.dev = .recovery ∨ s.now < s.fabric.winStart + 50 * usTicks then s
    else
      let start := s.fabric.winStart
      let s0 := (s.updAvs fun a => { a with pkgDw := pkgDw % 65536 }).updFabric fun f =>
        { f with winStart := s.now, capHold := f.capHold && decide (f.pwrCapOn - 20 < pkgDw % 65536) }
      let kept : Bool := match s.avs.lastWrite with
        | some w => decide (w + 50 * usTicks ≤ start)
        | none => true
      if ¬ s.fabric.monEn ∨ ¬ kept ∨ s.boot.dev = .shutdown then s0
      else
        let s1 := s0.updFabric fun f =>
          { f with rateTgtOn := f.rateTgt, pwrCapOn := f.pwrCap, vminOn := f.vminIdle }
        let r := s1.slowest rates
        let s2 := s1.updFabric fun f =>
          { f with coreRate := Vector.ofFn fun c : Fin 32 =>
                     if (s1.core1 c).st = .job ∨ (s1.core1 c).st = .pinned then rates.get c % 4096 else f.coreRate.get c,
                   minMhz := ((r.map (·.1)).getD 0) % 4096, slowCore := (r.map (·.2)).getD 0,
                   rateNow := if s1.avs.failed then (r.map (·.1)).or f.rateNow else none }
        let blocked := s2.blockedBy
        let v := if s2.avs.failed then s2.avs.reqMv else s2.newRequest r
        let s3 := if v = s2.avs.reqMv then s2 else s2.avsWrite v
        let s4 := s3.updFabric fun f =>
          { f with capHold := if f.pwrCapOn < s3.avs.pkgDw then f.capHold || decide (v ≤ s3.floorMv)
                              else f.capHold && decide (f.pwrCapOn - 20 < s3.avs.pkgDw) }
        s4.judgeRate r blocked start

/-! ## Clocks (R58, R59) -/

/-- D02 stops, and with it the timers (R301). -/
def State.fieldClockStop (s : State) : State := (s.updFabric fun f => { f with d02Run := false }).timersStop

/-- A clock failure. `d02`: D02 stops too, also when an earlier failure is latched. -/
def State.clockFailure (s : State) (d02 : Bool) : State :=
  let s0 := if d02 then s.fieldClockStop else s
  if s.fabric.clkFail then s0
  else
    let s1 := ((s0.updFabric fun f => { f with clkFail := true }).shutdown 7).timeStop
    s1.linkErr 3 s1.fabric.clkStatus

/-- The boot ROM goes on once both PLLs have locked and TCXO_OK is set, within 10 ms of the release (R60). -/
def State.clocksReady (s : State) : State :=
  if s.boot.step = .pllWait ∧ s.fabric.pllC ∧ s.fabric.pllF ∧ s.fabric.tcxoOk ∧ s.now ≤ s.boot.releasedAt + 10 * msTicks then
    s.updBoot fun b => { b with step := .readBoot1 }
  else s

/-- CLOCK_MONITOR_COUNT. -/
def execClockMonitorCount (edges : Nat) (s : State) : Host.Outcome State Fault Refusal :=
  .next <|
    if ¬ s.powered then s
    else
      let ok := match s.fabric.d00 with
        | .crystal => between 740 edges 786
        | .rc => between 720 edges 806
      let n := if ok then 0 else s.fabric.badCounts + 1
      let s1 := s.updFabric fun f => { f with tcxoOk := ok, badCounts := min 2 n }
      if s.boot.step = .pllWait then s1.clocksReady else if 2 ≤ n then s1.clockFailure true else s1

/-- PLL_LOCK_LOSS: of PLL_F with `field`, else of PLL_C. -/
def execPllLockLoss (field : Bool) (s : State) : Host.Outcome State Fault Refusal :=
  .next <|
    if (field ∧ s.fabric.pllF) ∨ (¬ field ∧ s.fabric.pllC) then
      (s.updFabric fun f => if field then { f with pllF := false } else { f with pllC := false }).clockFailure field
    else s

/-- XT32_FAIL: D00 runs from the RC until device reset. -/
def execXt32Fail (s : State) : Host.Outcome State Fault Refusal :=
  .next <|
    if s.powered ∧ s.fabric.d00 = .crystal then
      let s1 := s.updFabric fun f => { f with d00 := .rc, xt32Ok := false, xt32Fail := true, badCounts := 0 }
      s1.linkErr 2 s1.fabric.clkStatus
    else s

/-! ## Debug halt (R53 to R55) -/

/-- CORE_HALTED. -/
def execCoreHalted (core : Fin 32) (s : State) : Host.Outcome State Fault Refusal :=
  .next (if s.fabric.dbgHalt.get core then s.updFabric fun f => { f with halted := bankSet f.halted core true } else s)

/-- Status of a write of DBG_HALT by MNT: the lifecycle permits debug, and no newly named core is PINNED with an axis
that may move. -/
def State.dbgStatus (s : State) (v : Nat) : Nat :=
  if s.otp.lifecycle ≠ .blank ∧ s.otp.lifecycle ≠ .service then eState
  else if (List.finRange 32).any fun c =>
      v.testBit c.val && !s.fabric.dbgHalt.get c && (s.core1 c).st == .pinned
        && (axesOf c).any fun n => (s.axes.get n).st != .stoppedSafe && (s.axes.get n).st != .disabled then eState
  else stOk

/-! ## Registers (R39, R56) -/

/-- Thermal and supply words of the DEVICE block. -/
def thermRead (s : State) (off : Nat) : Nat :=
  let t := s.thermal
  if h : 0x200 ≤ off ∧ off < 0x230 then
    let x := t.sensors.get ⟨(off - 0x200) / 4, by omega⟩
    x.temp.toNat + bitAt 16 x.valid
  else if off = 0x240 then
    (match t.peak with
     | some (r, n) => r.toNat + n.val * 65536
     | none => 0)
  else if off = 0x248 then t.tjWarn + t.tjHyst * 256
  else if off = 0x24C then t.status
  else if off = 0x250 then s.avs.reqMv + s.avs.readMv * 65536
  else if off = 0x254 then s.avs.iout10
  else if off = 0x258 then s.avs.status
  else if off = 0x25C then s.avs.pkgDw
  else 0

def thermCheck (off v : Nat) : Bool :=
  !(off == 0x248) || (between 70 (bits 7 0 v) 104 && between 1 (bits 15 8 v) 10)

def thermWrite (s : State) (off v : Nat) : State :=
  if off = 0x244 ∧ v.testBit 0 then s.updThermal fun t => { t with peak := none }
  else if off = 0x248 then s.updThermal fun t => { t with tjWarn := bits 7 0 v, tjHyst := bits 15 8 v }
  else if off = 0x24C ∧ v.testBit 3 then s.updThermal fun t => { t with sensorFail := false }
  else if off = 0x258 then
    s.updAvs fun a => { a with noresp := a.noresp && !v.testBit 0, alert := a.alert && !v.testBit 1 }
  else s

/-- Words of the FABRIC block below 0x0400. -/
def fabricRead (s : State) (off : Nat) : Nat :=
  let f := s.fabric
  if off = 0x000 then bitAt 0 f.monEn
  else if off = 0x004 then f.rateTgt
  else if off = 0x008 then f.pwrCap
  else if off = 0x00C then f.vminIdle
  else if off = 0x010 then f.rateLowMs
  else if off = 0x014 then f.hsWdt
  else if off = 0x020 then f.minMhz + f.slowCore * 65536 + bitAt 24 f.low + f.cause * 2 ^ 25
  else if off = 0x024 then s.floorMv + s.ceilMv * 65536
  else if 0x100 ≤ off ∧ off < 0x180 then f.coreRate.getD ((off - 0x100) / 4) 0
  else if off = 0x200 then f.clkStatus
  else if off = 0x210 then f.cntHsWdt + f.cntLate * 65536
  else if off = 0x300 then maskOf 32 fun i => f.dbgHalt.getD i false
  else if off = 0x304 then maskOf 32 fun i => f.halted.getD i false
  else 0

/-- Status a write of a word below 0x0400 earns. -/
def fabricCheck (s : State) (off v : Nat) : Nat :=
  let range (b : Bool) : Nat := if b then stOk else eParam
  if off = 0x004 then range (decide (bits 11 0 v ≤ 1200))
  else if off = 0x008 then range (between 200 (bits 9 0 v) 920)
  else if off = 0x00C then range (between 600 (bits 9 0 v) 720)
  else if off = 0x010 then range (between 1 (bits 9 0 v) 1000)
  else if off = 0x014 then range (between 10 (bits 13 0 v) 10000)
  else if off = 0x300 then s.dbgStatus v
  else stOk

def fabricWrite (s : State) (off v : Nat) : State :=
  if off = 0x000 then s.updFabric fun f => { f with monEn := v.testBit 0 }
  else if off = 0x004 then s.updFabric fun f => { f with rateTgt := bits 11 0 v }
  else if off = 0x008 then s.updFabric fun f => { f with pwrCap := bits 9 0 v }
  else if off = 0x00C then s.updFabric fun f => { f with vminIdle := bits 9 0 v }
  else if off = 0x010 then s.updFabric fun f => { f with rateLowMs := bits 9 0 v }
  else if off = 0x014 then s.updFabric fun f => { f with hsWdt := bits 13 0 v }
  else if off = 0x200 ∧ v.testBit 4 then s.updFabric fun f => { f with xt32Fail := false }
  else if off = 0x214 ∧ v.testBit 0 then s.updFabric fun f => { f with cntHsWdt := 0, cntLate := 0 }
  else if off = 0x300 then
    (s.updFabric fun f =>
      { f with dbgHalt := Vector.ofFn fun c : Fin 32 => v.testBit c.val,
               halted := Vector.ofFn fun c : Fin 32 => f.halted.get c && v.testBit c.val }).repin
  else s

end Sys2Proof.Machine
end

