-- ==== Sys2Proof/Machine/Radio.lean ====
section
/-! DEFINITION. The radio coordinator (20_radio_link.md). -/

namespace Sys2Proof.Machine

def State.rslot (s : State) (i : Fin 32) : RSlot := s.radio.slots.get i
def State.updSlot (s : State) (i : Fin 32) (f : RSlot → RSlot) : State :=
  s.updRadio fun r => { r with slots := bankUpd r.slots i f }

/-- The coordinator sends and receives: EN set, FULL, no link test of the radio (R418, R420). -/
def State.radioLive (s : State) : Bool := s.radio.cfg.en && s.boot.dev == .full && !s.underTest 8

/-! ## Frames (R395, R398, R402, R403) -/

/-- LQI of a frame's EVM (R395). -/
def lqiOf (evm : Nat) : Nat := 255 - min 255 (rne ((evm : Int) * 255) 400).toNat

/-- K (R397): one more than the highest guaranteed slot an ADMITTED tag holds. -/
def Radio.k (r : Radio) : Nat :=
  (bankList r.slots).foldl
    (fun k x => if x.2.st = .admitted then
        match x.2.gslot with
        | some g => max k (g.val + 1)
        | none => k
      else k) 0

/-- Largest LEN of a contention frame at K (Table 20-3). -/
def contentionLen (k : Nat) : Nat := [148, 130, 113, 95, 78, 60, 43, 25, 8].getD k 0

/-- Largest TAG_SEND payload at K (Table 20-3). -/
def sendLimit (k : Nat) : Nat := contentionLen k - 15

/-- The nonce of R403. -/
def radioNonce (long fc level : Nat) (coordinator : Bool) : Bytes :=
  le 8 long ++ le 4 fc ++ [BitVec.ofNat 8 (level + bitAt 7 coordinator)]

/-- The MPDU of a secured coordinator frame: FTYPE, SHORT, SEQ, FC, then the protected payload and its MIC. -/
def coordFrame (ftype short seq fc long : Nat) (key payload : Bytes) : Bytes :=
  let head := [BitVec.ofNat 8 ftype, BitVec.ofNat 8 short, BitVec.ofNat 8 seq] ++ le 4 fc
  head ++ fit (payload.length + 8) (Config.ccmSeal key (radioNonce long fc 6 true) 6 head payload)

/-- The last FC accepted from a long address since reset. -/
def Radio.fcOf (r : Radio) (long : Nat) : Nat := ((r.fcSeen.find? fun e => e.1 = long).map (·.2)).getD 0

/-- The floor of a slot's tag (R403). -/
def State.fcFloor (s : State) (x : RSlot) : Nat := max x.counterMin (s.radio.fcOf x.long)

/-- Note an accepted FC of a long address. -/
def Radio.seeFc (r : Radio) (long fc : Nat) : Radio :=
  { r with fcSeen := (long, fc) :: r.fcSeen.filter fun e => e.1 ≠ long }

/-! ## Queue entries and events (R410, R411) -/

/-- One entry of Table 20-5. -/
def queueEntry (kind lqi seq time : Nat) (four payload : Bytes) : Bytes :=
  [BitVec.ofNat 8 kind, BitVec.ofNat 8 payload.length, BitVec.ofNat 8 lqi, BitVec.ofNat 8 seq] ++ le 8 time ++ four
    ++ fit ((payload.length + 3) / 4 * 4) payload

/-- Add an entry, or count it where it does not fit or the slot has no holder (R411, Table 5-5). -/
def State.addEntry (s : State) (i : Fin 32) (e : Bytes) : State :=
  s.updSlot i fun x =>
    let used := (x.entries.map (·.length)).sum
    if used + e.length ≤ 4096 ∧ s.holder 5 i.val ≠ 0 then { x with entries := x.entries ++ [e] }
    else { x with discarded := satInc 65535 x.discarded }

/-- The delivery report of a TAG_SEND (Table 20-5, kind 3). -/
def State.report (s : State) (i : Fin 32) (q : SendQ) (result : Nat) : State :=
  s.addEntry i (queueEntry 3 0 q.attempts q.lastAt ([BitVec.ofNat 8 result, 0] ++ le 2 q.ref) [])

/-- Discard every queued frame of a slot with one result. -/
def State.dropSends (s : State) (i : Fin 32) (result : Nat) : State :=
  ((s.rslot i).sends.foldl (fun s q => s.report i q result) s).updSlot i fun x => { x with sends := [] }

/-- EV_TAG_ADMIT, to the slot's holder's subscribers (Table 7-14). -/
def State.admitEvent (s : State) (i : Fin 32) (result : Nat) : State :=
  s.raiseAll 0x0D 5 i.val ([BitVec.ofNat 8 (i.val + 1), BitVec.ofNat 8 result, 0, 0] ++ le 8 (s.rslot i).long)

/-- A slot becomes FREE. -/
def RSlot.freed (x : RSlot) : RSlot :=
  { x with st := .free, rejoin := false, gslot := none, admitTx := none, timeoutAt := none, seq := none }

/-! ## Beacons (R397, R409, R415, R417) -/

/-- Slots with a frame queued (Table 20-4, PENDING). -/
def Radio.pendingBits (r : Radio) : Nat :=
  maskOf 32 fun i =>
    match r.slots[i]? with
    | some x => x.expelTx.isSome || x.admitTx.isSome || (x.st == .admitted && !x.sends.isEmpty)
    | none => false

/-- Some slot is PENDING or DROPPED. -/
def Radio.admitOpen (r : Radio) : Bool :=
  (bankList r.slots).any fun x => x.2.st == .pending || x.2.st == .dropped

/-- The MPDU of a beacon (Table 20-4). -/
def State.beacon (s : State) : Bytes :=
  let r := s.radio
  let chsw := match r.next with
    | some (c, n) => if n ≤ 2 then c + n * 16 else 0
    | none => 0
  [0, BitVec.ofNat 8 r.bsn] ++ le 2 r.use.netId ++ [BitVec.ofNat 8 r.slotAck, BitVec.ofNat 8 chsw, BitVec.ofNat 8 r.k,
    BitVec.ofNat 8 (bitAt 0 r.admitOpen)] ++ le 4 r.pendingBits ++ le 4 (s.devNs / 1000000 % 2 ^ 32) ++ le 2 r.use.mask

/-- The next channel of a mask above the present one, cyclically. -/
def nextChannel (mask ch : Nat) : Nat :=
  (((List.range 16).map fun d => (ch + 1 + d) % 16).find? fun c => mask.testBit c).getD ch

/-- EV_RADIO_INTERF. -/
def State.interfEvent (s : State) (old new_ count evm : Nat) : State :=
  s.raiseAll 0x0E 0 0 ([BitVec.ofNat 8 old, BitVec.ofNat 8 new_, BitVec.ofNat 8 count, 0] ++ le 4 evm)

/-- Judge the beacon about to start (R409): advance a countdown, or count interference. A count that stood above a new
INTERF_N starts the switch with its next beacon, and with one channel in the mask the event is raised as the count comes
to INTERF_N (notes/assumptions/24). -/
def State.interference (s : State) (ed : Int) (locked : Bool) : State :=
  let r := s.radio
  match r.next with
  | some (c, n) =>
    if n ≤ 1 then
      let s1 := s.updRadio fun r =>
        { r with ch := c, next := none, interfRun := 0, runEvm := 0, switches := satInc 65535 r.switches }
      s1.interfEvent r.ch c r.interfRun r.runEvm
    else s.updRadio fun r => { r with next := some (c, n - 1) }
  | none =>
    let hit := decide (ed > r.use.edDbm) || (r.running && r.aborted) || !locked
    if hit then
      let run := min 255 (r.interfRun + 1)
      let s1 := s.updRadio fun r => { r with interfRun := run }
      let c := nextChannel r.use.mask r.ch
      if c = r.ch then
        if r.interfRun + 1 = r.use.interfN then s1.interfEvent r.ch r.ch run r.runEvm else s1
      else if r.use.interfN ≤ run then s1.updRadio fun r => { r with next := some (c, 3) }
      else s1
    else s.updRadio fun r => { r with interfRun := 0, runEvm := 0 }

/-- Discard queued frames that no longer fit at the present K (R412). -/
def State.dropMisfits (s : State) : State :=
  forAll s fun s i =>
    let lim := sendLimit s.radio.k
    let bad := (s.rslot i).sends.filter fun q => decide (lim < q.payload.length)
    let s1 := bad.foldl
      (fun s q => (s.report i q 3).updRadio fun r => { r with txDrop := satInc 65535 r.txDrop }) s
    s1.updSlot i fun x => { x with sends := x.sends.filter fun q => decide (q.payload.length ≤ lim) }

/-- A millisecond of device time for the coordinator. -/
def State.beaconTick (s : State) (ed : Int) (locked : Bool) : State :=
  if s.radioLive ∧ s.radio.startMs ≤ s.devNs / 1000000 then
    let s1 := (s.updRadio fun r => { r with use := r.cfg }).interference ed locked
    let s3 := s1.updRadio fun r =>
      { r with running := true, served := false, aborted := false, onAir := none,
               pendingMask := if locked then r.pendingBits else 0, kAir := r.k }
    if locked then
      let s4 : State := { s3 with out := s3.out ++ [Out.radio true s3.radio.ch s3.beacon] }
      (s4.updRadio fun r => { r with bsn := (r.bsn + 1) % 256, slotAck := 0 }).updTimer 9 fun t => t.restart s.now s.d02
    else s3
  else s

/-- MS_TICK (R280, R397): a whole millisecond of device time not yet ticked, or the tick of a step; the energy in the window
before it and whether the synthesizer locked come with it. -/
def execMsTick (edDbm : Int) (locked : Bool) (s : State) : Host.Outcome State Fault Refusal :=
  .next <|
    if s.tb.running ∧ s.tb.msOwed then (s.updTb fun t => { t with msOwed := false }).beaconTick edDbm locked
    else if s.tb.running ∧ s.tb.msNext * 1000000 ≤ s.devNs then
      (s.updTb fun t => { t with msNext := s.devNs / 1000000 + 1 }).beaconTick edDbm locked
    else s

/-! ## The coordinator's exchange (R399, R401, R404) -/

/-- LEN of the frame a slot sends next (Table 20-4). -/
def RSlot.nextLen (x : RSlot) : Nat :=
  if x.expelTx.isSome then 15
  else if x.admitTx.isSome then 16
  else match x.sends with
    | q :: _ => 15 + q.payload.length
    | [] => 0

/-- The next slot to serve: ascending short address after the last served, its frame one that fits (R398). -/
def Radio.toServe (r : Radio) : Option (Fin 32) :=
  ((List.range 32).map fun d => Fin.ofNat 32 (r.lastServed + d)).find? fun i =>
    r.pendingMask.testBit i.val && r.pendingBits.testBit i.val && decide ((r.slots.get i).nextLen ≤ contentionLen r.kAir)

/-- Take the present COORD_FC; it rises by one and is stored at every multiple of 256. -/
def State.tookFc (s : State) : State :=
  let s1 := s.updRadio fun r => { r with fc := (r.fc + 1) % 2 ^ 32 }
  if s1.radio.fc % 256 = 0 then s1.storePush (.coordFc s1.radio.fc) none else s1

/-- The bytes of a queued frame and the state once they exist: built at the first attempt, repeated after. -/
def State.queuedFrame (s : State) (i : Fin 32) (ftype : Nat) (q : SendQ) : State × SendQ :=
  match q.mpdu with
  | some _ => (s, q)
  | none =>
    let x := s.rslot i
    let m := coordFrame ftype (i.val + 1) x.txSeq s.radio.fc x.long x.key q.payload
    (s.tookFc.updSlot i fun x => { x with txSeq := (x.txSeq + 1) % 256 }, { q with mpdu := some m, seq := x.txSeq })

/-- COORD_EXCHANGE: an EXPEL, else an ADMIT, else the oldest DATA frame of the slot served; one per superframe. -/
def execCoordExchange (s : State) : Host.Outcome State Fault Refusal :=
  .next <|
    if s.radioLive ∧ s.radio.running ∧ ¬ s.radio.served then
      match s.radio.toServe with
      | none => s
      | some i =>
        let x := s.rslot i
        let s1 := s.updRadio fun r => { r with served := true, lastServed := i.val + 1 }
        let send (s : State) (m : Bytes) (k : Exch) : State :=
          { s.updRadio (fun r => { r with onAir := some (i, k) }) with out := s.out ++ [Out.radio true s.radio.ch m] }
        match x.expelTx with
        | some (long, key) =>
          let m := coordFrame 5 (i.val + 1) x.txSeq s1.radio.fc long key []
          send (s1.tookFc.updSlot i fun x => { x with expelTx := none, txSeq := (x.txSeq + 1) % 256 }) m .expel
        | none =>
          match x.admitTx with
          | some q =>
            let r := s1.queuedFrame i 4 q
            send (r.1.updSlot i fun x => { x with admitTx := some { r.2 with attempts := q.attempts + 1, lastAt := s.devNs } })
              (r.2.mpdu.getD []) .admission
          | none =>
            match x.sends with
            | [] => s
            | q :: qs =>
              let r := s1.queuedFrame i 2 q
              send (r.1.updSlot i fun x =>
                  { x with sends := { r.2 with attempts := q.attempts + 1, lastAt := s.devNs } :: qs })
                (r.2.mpdu.getD []) .data
    else s

/-- A frame of the slot's tag passed its CRC. -/
def State.heard (s : State) (i : Fin 32) : State := s.updSlot i fun x => { x with heardAt := s.now }

/-- The SEQ of the frame that waits for its acknowledgement; none for an EXPEL, whose SEQ is not kept. -/
def RSlot.awaitedSeq (x : RSlot) : Exch → Option Nat
  | .expel => none
  | .admission => x.admitTx.bind fun q => if q.attempts = 0 then none else some q.seq
  | .data => x.sends.head?.map (·.seq)

/-- The coordinator hears an acknowledgement (R401, R406), which counts in RX_OK; one of another SEQ than the frame's ends
nothing. -/
def State.coordAck (s : State) (seq : Nat) : State :=
  if s.radioLive ∧ s.radio.running then
    let s0 := s.updRadio fun r => { r with rxOk := satInc 65535 r.rxOk }
    match s.radio.onAir with
    | none => s0
    | some (i, k) =>
      let s1 := (s0.updRadio fun r => { r with onAir := none }).heard i
      match k, (s.rslot i).awaitedSeq k with
      | _, none => s1
      | .expel, some _ => s1
      | .admission, some n =>
        if n = seq then
          ((s1.updSlot i fun x =>
            { x with st := .admitted, admitTx := none, timeoutAt := none, seq := none }).dropMisfits).admitEvent i 0
        else s0
      | .data, some n =>
        if n = seq then
          match (s.rslot i).sends with
          | q :: qs => (s1.updSlot i fun x => { x with sends := qs }).report i q 0
          | [] => s1
        else s0
  else s

/-- COORD_ACK_TIMEOUT (R401): the attempt is counted in NO_ACK; the fourth ends the frame. -/
def execCoordAckTimeout (s : State) : Host.Outcome State Fault Refusal :=
  .next <|
    match s.radio.onAir with
    | none => s
    | some (i, k) =>
      let s1 := s.updRadio fun r => { r with onAir := none, noAck := satInc 65535 r.noAck }
      let x := s.rslot i
      match k with
      | .expel => s1
      | .admission =>
        match x.admitTx with
        | some q => if q.attempts ≥ 4 then ((s1.dropSends i 3).admitEvent i 1).updSlot i RSlot.freed else s1
        | none => s1
      | .data =>
        match x.sends with
        | [] => s1
        | q :: qs =>
          if q.attempts ≥ 4 then (s1.updSlot i fun x => { x with sends := qs }).report i q 1 else s1

/-! ## Frames received (R396, R403, R405, R406, R410, R411) -/

/-- RX_EVM_ABORT (R396). -/
def execRxEvmAbort (evm : Nat) (s : State) : Host.Outcome State Fault Refusal :=
  .next <|
    if s.radioLive ∧ evm > s.radio.use.evmAbort then
      s.updRadio fun r => { r with evmAborts := satInc 65535 r.evmAborts, aborted := true, runEvm := max r.runEvm evm }
    else s

/-- A frame reaches the coordinator: discarded where its CRC fails or its FTYPE is reserved, else counted in RX_OK. -/
def State.radioRx (s : State) (rx : RadioRx) (ftype : Bool) (f : State → State) : State :=
  if s.radioLive ∧ s.radio.running then
    if ¬ rx.crcOk ∨ (ftype ∧ 6 ≤ (rx.mpdu.getD 0 0).toNat % 16) then
      s.updRadio fun r => { r with crcErr := satInc 65535 r.crcErr }
    else f (s.updRadio fun r => { r with rxOk := satInc 65535 r.rxOk })
  else s

def State.micFailed (s : State) : State := s.updRadio fun r => { r with micFail := satInc 65535 r.micFail }
def State.replayed (s : State) : State := s.updRadio fun r => { r with replay := satInc 65535 r.replay }

/-- EV_TAG_ADMIT of result 2, at most once per second for a slot. -/
def State.joinRefused (s : State) (i : Fin 32) : State :=
  let soon := match (s.rslot i).joinFailAt with
    | some t => decide (s.now < t + secTicks)
    | none => false
  if soon then s else (s.updSlot i fun x => { x with joinFailAt := some s.now }).admitEvent i 2

/-- JOIN (R403, R406). -/
def execJoin (rx : RadioRx) (s : State) : Host.Outcome State Fault Refusal :=
  .next <| s.radioRx rx true fun s =>
    let m := rx.mpdu
    let long := at_ m 7 8
    let fc := at_ m 3 4
    let slot := (List.finRange 32).find? fun i => (s.rslot i).st != .free && (s.rslot i).long == long
    if m.length = 23 ∧ m.getD 0 0 = 3 ∧ m.getD 1 0 = 255 then
      match slot with
      | none => s
      | some i =>
        let x := s.rslot i
        let s1 := (s.heard i).updSlot i fun x => { x with lqi := lqiOf rx.evm }
        match Config.ccmOpen x.key (radioNonce long fc 2 false) 2 (m.take 15) (m.drop 15) with
        | none => s1.micFailed.joinRefused i
        | some _ =>
          if fc ≤ s.fcFloor x then s1.replayed.joinRefused i
          else
            let gs := match x.gslot with
              | some g => g.val
              | none => 255
            (s1.updRadio fun r => r.seeFc long fc).updSlot i fun x =>
              { x with lastFc := fc, timeoutAt := none,
                       admitTx := some ⟨[BitVec.ofNat 8 gs], 0, none, 0, 0, 0⟩ }
    else s

/-- DATA received by the coordinator (R403, R411). -/
def execData (rx : RadioRx) (s : State) : Host.Outcome State Fault Refusal :=
  .next <| s.radioRx rx true fun s =>
    let m := rx.mpdu
    let short := (m.getD 1 0).toNat
    let seq := (m.getD 2 0).toNat
    let fc := at_ m 3 4
    if h : 15 ≤ m.length ∧ m.getD 0 0 = 2 ∧ 1 ≤ short ∧ short ≤ 32 then
      let i : Fin 32 := ⟨short - 1, by omega⟩
      let x := s.rslot i
      if x.st = .admitted then
        let s1 := (s.heard i).updSlot i fun x => { x with lqi := lqiOf rx.evm }
        match Config.ccmOpen x.key (radioNonce x.long fc 6 false) 6 (m.take 7) (m.drop 7) with
        | none => s1.micFailed
        | some payload =>
          if fc ≤ s.fcFloor x then s1.replayed
          else
            ((s1.updRadio fun r => r.seeFc x.long fc).updSlot i fun x => { x with lastFc := fc }).addEntry i
              (queueEntry 2 (lqiOf rx.evm) seq s.devNs (le 4 fc) (payload.take 133))
      else s
    else s

/-- SLOT_EVENT (R405, R410): accepted, or a duplicate; either sets its bit of the next beacon's SLOT_ACK. -/
def execSlotEvent (slot : Fin 8) (rx : RadioRx) (s : State) : Host.Outcome State Fault Refusal :=
  .next <| s.radioRx rx false fun s =>
    let m := rx.mpdu
    match (List.finRange 32).find? fun i => (s.rslot i).st == .admitted && (s.rslot i).gslot == some slot with
    | none => s
    | some i =>
      if m.length ≠ 4 then s
      else
        let b0 := (m.getD 0 0).toNat
        let seq := (m.getD 1 0).toNat
        let mask := at_ m 2 2
        let lqi := lqiOf rx.evm
        let s1 := ((s.heard i).updSlot i fun x => { x with lqi := lqi }).updRadio fun r =>
          { r with slotAck := Nat.lor r.slotAck (2 ^ slot.val) }
        if (s.rslot i).seq = some seq then s1.replayed
        else
          let s2 := s1.updSlot i fun x => { x with seq := some seq, events := satInc 65535 x.events }
          let s3 := s2.raiseTo 0x0C 5 i.val
            ([BitVec.ofNat 8 (i.val + 1), BitVec.ofNat 8 (b0 % 4 + 1), BitVec.ofNat 8 seq, BitVec.ofNat 8 lqi]
              ++ le 4 mask ++ le 4 (b0 / 4 * 64)) (s.holder 5 i.val)
          s3.addEntry i (queueEntry 1 lqi seq s.devNs m [])

/-- ADMIT_TIMEOUT (R406). -/
def execAdmitTimeout (slot : Fin 32) (s : State) : Host.Outcome State Fault Refusal :=
  .next <|
    let x := s.rslot slot
    match x.timeoutAt with
    | some t => if x.st = .pending ∧ t ≤ s.now then (s.admitEvent slot 1).updSlot slot RSlot.freed else s
    | none => s

/-- The row brings the coordinator a frame. -/
def bringsFrame (c : Instr) : Bool :=
  match c with
  | .join _ | .data _ | .slotEvent _ _ | .ack true _ => true
  | _ => false

/-- TAG_SILENCE_DROP (R407): a frame of its tick acts first (R418). -/
def execTagSilenceDrop (slot : Fin 32) (s : State) : Host.Outcome State Fault Refusal :=
  .next <|
    let x := s.rslot slot
    if s.behind bringsFrame then s.putOff (.tagSilenceDrop slot)
    else if x.st = .admitted ∧ s.now ≥ x.heardAt + s.radio.use.silentMs * msTicks ∧ s.radio.cfg.en then
      let s1 := (s.dropSends slot 2).admitEvent slot 3
      s1.updSlot slot fun x =>
        if x.rejoin then { x with st := .dropped, admitTx := none, seq := none } else x.freed
    else s

/-! ## Commands (R408, R412 to R415) -/

/-- RADIO_CONFIG. -/
def doRadioConfig (t : Ticket) (p : RadioP) (s : State) : State :=
  let c : RadCfg :=
    { mask := p.mask.toNat, startCh := p.startCh.toNat, txDbm := p.txDbm.toInt, interfN := p.interfN.toNat,
      edDbm := p.edDbm.toInt, evmAbort := p.evmAbort.toNat, netId := p.netId.toNat, silentMs := p.silentMs.toNat,
      en := p.en }
  let r := s.radio
  if c.mask = 0 ∨ c.startCh > 15 ∨ ¬ c.mask.testBit c.startCh ∨ c.txDbm < -20 ∨ c.txDbm > 10 ∨ c.interfN = 0
      ∨ c.edDbm < -90 ∨ c.edDbm > -30 ∨ c.evmAbort < 50 ∨ c.evmAbort > 1000 ∨ c.silentMs < 10 ∨ c.silentMs > 60000 then
    s.reply t eParam []
  else if r.cfg.en ∧ c.en ∧ c.netId ≠ r.cfg.netId then s.reply t eState []
  else
    let s1 :=
      if c.en ∧ ¬ r.cfg.en then
        s.updRadio fun r =>
          { r with cfg := c, use := c, running := false, ch := c.startCh, next := none, interfRun := 0, runEvm := 0,
                   startMs := (s.devNs + 1000000 + 999999) / 1000000, aborted := false, served := true, onAir := none }
      else if ¬ c.en ∧ r.cfg.en then
        let s2 := forAll s fun s i =>
          let x := s.rslot i
          let s3 := if x.st = .admitted then s.admitEvent i 3 else if x.st = .pending then s.admitEvent i 1 else s
          s3.updSlot i fun x => { x.freed with sends := [], entries := [], expelTx := none }
        s2.updRadio fun r =>
          { r with cfg := c, use := c, running := false, next := none, interfRun := 0, runEvm := 0, onAir := none }
      else
        s.updRadio fun r =>
          { r with cfg := c, next := if c.en ∧ ¬ c.mask.testBit r.ch ∧ r.next.isNone then some (c.startCh, 3) else r.next }
    s1.reply t stOk []

/-- TAG_ADMIT (R413, R414). -/
def doTagAdmit (t : Ticket) (i : Fin 32) (p : AdmitP) (s : State) : State :=
  let x := s.rslot i
  let long := p.long.toNat
  let gs : Option (Fin 8) := if h : p.gslot.toNat < 8 then some ⟨p.gslot.toNat, h⟩ else none
  let taken := (List.finRange 32).any fun k =>
    k != i && (s.rslot k).st != .free && ((s.rslot k).long == long || (gs.isSome && (s.rslot k).gslot == gs))
  if long = 0 ∨ long = 2 ^ 64 - 1 ∨ (gs.isNone ∧ p.gslot.toNat ≠ 255) ∨ p.timeoutS.toNat < 1 ∨ p.timeoutS.toNat > 3600
      ∨ ¬ t.hdr.enc then s.reply t eParam []
  else if x.st ≠ .free ∧ x.st ≠ .dropped then s.reply t eState []
  else if taken then s.reply t eBusy []
  else if ¬ s.radio.cfg.en then s.reply t eState []
  else
    (s.updSlot i fun x =>
      { x with st := .pending, rejoin := p.rejoin, gslot := gs, long := long, key := p.key,
               lqi := if x.long = long then x.lqi else 0, lastFc := s.radio.fcOf long,
               heardAt := if x.long = long then x.heardAt else s.now,
               counterMin := p.counterMin.toNat, timeoutAt := some (s.now + p.timeoutS.toNat * secTicks),
               admitTx := none, seq := none, sends := [], joinFailAt := none }).reply t stAccepted []

/-- TAG_EXPEL (R408). -/
def doTagExpel (t : Ticket) (i : Fin 32) (s : State) : State :=
  let x := s.rslot i
  if x.st = .free then s.reply t eTagAbsent []
  else
    ((s.dropSends i 3).updSlot i fun y =>
      { y.freed with expelTx := if x.st = .admitted then some (x.long, x.key) else y.expelTx }).reply t stOk []

/-- TAG_SEND (R412). -/
def doTagSend (t : Ticket) (i : Fin 32) (p : SendP) (s : State) : State :=
  let x := s.rslot i
  let n := p.data.length
  if n = 0 ∨ n > 133 then s.reply t eParam []
  else if x.st ≠ .admitted then s.reply t eTagAbsent []
  else if n > sendLimit s.radio.k then s.reply t eParam []
  else if x.sends.length ≥ 4 ∨ s.radio.next.isSome then s.reply t eRadioBusy []
  else
    (s.updSlot i fun x => { x with sends := x.sends ++ [⟨p.data, p.ref.toNat, none, 0, 0, 0⟩] }).reply t stOk []

/-- The longest run of whole entries within a number of bytes. -/
def entriesWithin : Nat → List Bytes → Nat
  | _, [] => 0
  | room, e :: es => if e.length ≤ room then entriesWithin (room - e.length) es + 1 else 0

/-- TAG_EVENTS_FETCH (R413). -/
def doTagEventsFetch (t : Ticket) (i : Fin 32) (maxWords : Nat) (s : State) : State :=
  if maxWords < 40 ∨ maxWords > 4096 then s.reply t eParam []
  else
    let es := (s.rslot i).entries
    let n := entriesWithin (4 * maxWords) es
    let left := ((es.drop n).map (·.length)).sum
    (s.updSlot i fun x => { x with entries := es.drop n }).reply t stOk
      (le 2 n ++ [0, 0] ++ le 4 left ++ (es.take n).flatten)

/-- What the end of a TAG_SLOT lease does beyond its loss action (Table 20-8). -/
def State.tagSlotLoss (s : State) (i : Fin 32) : State :=
  ((s.dropSends i 3).updSlot i fun x => { x with entries := [] }).updSlot i fun x =>
    if x.st = .pending then x.freed else x

/-! ## Registers (R416) -/

/-- A word of the RADIO block. -/
def radioRead (s : State) (off : Nat) : Nat :=
  let r := s.radio
  if off = 0x0000 then
    (if s.underTest 8 then 3 else if ¬ r.cfg.en then 0 else if r.next.isSome then 2 else 1) + r.ch * 16 + r.k * 256
      + bitAt 12 r.admitOpen + r.interfRun * 65536
  else if off = 0x0004 then r.cfg.mask + unsigned 8 r.cfg.txDbm * 65536 + r.cfg.interfN * 2 ^ 24
  else if off = 0x0008 then r.cfg.evmAbort + r.cfg.netId * 65536
  else if off = 0x000C then r.cfg.silentMs + unsigned 8 r.cfg.edDbm * 65536
  else if off = 0x0010 then r.fc
  else if off = 0x0020 then r.rxOk + r.crcErr * 65536
  else if off = 0x0024 then r.evmAborts + r.micFail * 65536
  else if off = 0x0028 then r.replay + r.switches * 65536
  else if off = 0x002C then r.noAck + r.txDrop * 65536
  else if h : 0x0100 ≤ off ∧ off < 0x0500 then
    let x := r.slots.get ⟨(off - 0x0100) / 0x20, by omega⟩
    let gs := match x.gslot with
      | some g => g.val
      | none => 15
    match off % 0x20 with
    | 0x00 => x.st.code + bitAt 2 x.rejoin + gs * 16 + x.lqi * 256 + x.seq.getD 0 * 65536 + x.sends.length * 2 ^ 24
    | 0x04 => x.lastFc
    | 0x08 => x.long % 2 ^ 32
    | 0x0C => x.long / 2 ^ 32
    | 0x10 => x.events + x.discarded * 65536
    | 0x14 => if x.st = .free then 0 else min 65535 ((s.now - x.heardAt) / msTicks)
    | _ => 0
  else 0

/-- Write a word of the RADIO block: only RAD_CNT_CLR acts. -/
def radioWrite (s : State) (off v : Nat) : State :=
  if off = 0x0030 ∧ v.testBit 0 then
    let s1 := s.updRadio fun r =>
      { r with rxOk := 0, crcErr := 0, evmAborts := 0, micFail := 0, replay := 0, switches := 0, noAck := 0, txDrop := 0 }
    forAll s1 fun s i => s.updSlot i fun x => { x with events := 0, discarded := 0 }
  else s

/-- COORD_FC at a start (R404): the saved value plus 256, stored again where it is a multiple of 256. -/
def State.radioStart (s : State) : State :=
  let fc := (s.store.coordFc + 256) % 2 ^ 32
  let s1 := s.updRadio fun r => { r with fc := fc }
  if fc % 256 = 0 then s1.storePush (.coordFc fc) none else s1

end Sys2Proof.Machine
end

