-- ==== Sys2Proof/Machine/Start.lean ====
section
/-! DEFINITION. Reset, the start sequence, the image slots, verification, the version pairing and the lifecycle
(04_start_measurement_versions.md, 02_package_power_thermal.md). -/

namespace Sys2Proof.Machine

/-! ## Verification (R72) -/

/-- What image k of a slot reads, where it passes verification. -/
def State.verified (s : State) (slot : Fin 2) (k : Fin 6) : Option ImageInfo :=
  if (s.flash.torn.get slot).get k then none
  else
    match Config.parseImage ((s.flash.images.get slot).get k) with
    | none => none
    | some i =>
      let known := (s.otp.keyDigests.take 4).zipIdx.any fun x => x.1 == i.keyDigest && !s.otp.revoked.testBit x.2
      if i.index = k.val ∧ i.sigOk ∧ known ∧ s.otp.svnMin.get k ≤ i.svn then some i else none

/-- Images of a slot that fail, as a mask. -/
def State.failing (s : State) (slot : Fin 2) : Nat :=
  maskOf 6 fun k => (s.verified slot (Fin.ofNat 6 k)).isNone

/-! ## Commit records and the slot (R67, R68) -/

def otherSlot (x : Fin 2) : Fin 2 := x + 1

/-- The record in force and its cell: the valid one with the higher SEQ, CMT0 when equal. -/
def Flash.inForce (f : Flash) : Option (Fin 2 × CommitRec) :=
  let ok (i : Fin 2) : Option (Fin 2 × CommitRec) :=
    match f.cmt.get i with
    | some r => if r.crcOk then some (i, r) else none
    | none => none
  match ok 0, ok 1 with
  | some a, some b => if b.2.seq ≤ a.2.seq then some a else some b
  | some a, none => some a
  | none, b => b

/-- The recorded slot: A without a valid record. -/
def Flash.recorded (f : Flash) : Fin 2 := (f.inForce.map (·.2.slot)).getD 0

def Flash.seqInForce (f : Flash) : Word := (f.inForce.map (·.2.seq)).getD 0

/-- The slot FW_STAGE writes. In RECOVERY, where no slot runs, it is the one not recorded: DESIGN CHOICE,
notes/assumptions/20. -/
def State.idleSlot (s : State) : Fin 2 := otherSlot s.boot.slot

/-- The slot has started three times in a row without reaching EARLY. -/
def Flash.worn (f : Flash) (x : Fin 2) : Bool := decide (3 ≤ f.marks.get x)

/-- The boot ROM's choice: the slot, none for RECOVERY; and the failing images of the recorded slot, where it was
verified. -/
def State.chooseSlot (s : State) : Option (Fin 2) × Nat :=
  let rec_ := s.flash.recorded
  let first := if s.flash.worn rec_ then otherSlot rec_ else rec_
  if ¬ s.flash.answers then (none, 0)
  else if s.failing first = 0 then (some first, 0)
  else
    let rejected := s.failing rec_
    if s.failing (otherSlot first) = 0 then (some (otherSlot first), rejected) else (none, rejected)

/-! ## Version pairing (R80) -/

def cdieRev : Nat := 0xC1
def fdieRev : Nat := 0xF2

/-- A manifest lists a die's running revision. -/
def ImageInfo.listsDie (i : ImageInfo) (subject rev : Nat) : Bool :=
  i.manifest.any fun e => e.subject.toNat == subject && e.value.toNat % 256 == rev

/-- A manifest lists a sibling's running version; build 0xFFFF matches every build. -/
def ImageInfo.lists (i j : ImageInfo) : Bool :=
  i.manifest.any fun e =>
    e.subject.toNat == 0x10 + j.index &&
      (e.value == j.version || (e.value.toNat % 65536 == 0xFFFF && e.value.toNat / 65536 == j.version.toNat / 65536))

/-- The images of pair 12 and up. -/
def imagePairs : List (Nat × Nat) :=
  (List.range 6).flatMap fun a => (List.range 6).filterMap fun b => if a < b then some (a, b) else none

def pairNumber (a b : Nat) : Nat := 12 + a * (11 - a) / 2 + (b - a - 1)

/-- MISMATCH_MAP of six images on this silicon. -/
def mismatchMap (im : Nat → Option ImageInfo) : Nat :=
  let test (x : Option ImageInfo) (f : ImageInfo → Bool) : Bool := match x with
    | some i => f i
    | none => false
  let dies := maskOf 6 fun k => !test (im k) (·.listsDie 0 cdieRev)
  let field := maskOf 6 fun k => !test (im k) (·.listsDie 1 fdieRev)
  let pairs := (imagePairs.map fun x =>
    bitAt (pairNumber x.1 x.2) (!test (im x.1) fun i => test (im x.2) fun j => i.lists j || j.lists i)).sum
  dies + field * 64 + pairs

/-- FIRST and COUNT of a map. -/
def mismatchSum (m : Nat) : Nat × Nat :=
  let on := (List.range 27).filter fun i => m.testBit i
  (on.headD 0, on.length)

/-! ## Registers of the block (R82, R83) -/

/-- A commit naming the other slot is in force for the next start. -/
def State.commitPending (s : State) : Bool :=
  match s.flash.inForce with
  | some x => s.boot.running.toList.any Option.isSome && x.2.slot != s.boot.slot
  | none => false

def State.bootStatus (s : State) : Nat :=
  let b := s.boot
  b.slot.val + bitAt 1 b.fallback + bitAt 2 s.commitPending + bitAt 3 b.tokenStale + bitAt 4 b.hbm0Fail
    + bitAt 5 b.hbm1Fail + bitAt 6 b.feltFail + b.rejected * 256

def siliconRev : Nat := cdieRev + fdieRev * 256

/-- The configuration record that extends WM6, for a DEV_STATE and a slot. -/
def State.configRecord (s : State) (dev : DevState) (slot : Fin 2) : Bytes :=
  le 1 s.otp.lifecycle.code ++ le 1 dev.code ++ le 1 slot.val ++ le 1 s.bootStatus ++ le 4 siliconRev
    ++ le 4 s.boot.mismatch ++ le 4 s.otp.configWord.toNat ++ zeros 16

/-! ## Lifecycle tokens (R78) -/

/-- The lifecycle state a token may lead to from the present one. -/
def Otp.transition (o : Otp) (target : Nat) : Option Lifecycle :=
  match o.lifecycle with
  | .production => if target = 3 ∧ o.svcEntries < 15 then some .service else if target = 4 then some .retired else none
  | .service => if target = 2 then some .production else if target = 4 then some .retired else none
  | _ => none

/-- A token bound to this die that leads somewhere; its BOOT_COUNT is judged apart. -/
def State.tokenTarget (s : State) (bs : Bytes) : Option (Lifecycle × Nat) :=
  match Config.parseToken bs with
  | none => none
  | some t =>
    if t.sigOk ∧ t.uniqueId = s.otp.uniqueId then (s.otp.transition t.target).map fun l => (l, t.bootCount) else none

/-- A token that passes as it is staged or committed. -/
def State.tokenOk (s : State) (bs : Bytes) : Bool :=
  match s.tokenTarget bs with
  | some x => x.2 == s.otp.bootCount
  | none => false

/-- The armed token takes effect at a reset, or is ignored as stale. -/
def State.takeToken (s : State) : State :=
  match s.flash.tokenArmed with
  | none => s
  | some slot =>
    let s1 : State := { s with flash := { s.flash with tokenArmed := none } }
    match s.tokenTarget (s.flash.token.get slot) with
    | some (l, count) =>
      if count = s.otp.bootCount then
        let o := { s1.otp with lifecycle := l, svcEntries := s1.otp.svcEntries + (if l = .service then 1 else 0) }
        let s2 : State := { s1 with otp := o }
        if l = .service then (s2.updKeys fun k => k.destroyed true).fillDomains
        else if l = .retired then ((s2.updKeys fun k => k.destroyed false).fillDomains).fillSlot slotSeal
        else s2
      else s1.updBoot fun b => { b with tokenStale := true }
    | none => s1.updBoot fun b => { b with tokenStale := true }

/-! ## Device reset (R27, R42, R61) -/

/-- Everything but what survives a device reset goes to its reset value: the device is held in reset. Levels at pins
stay as they are. -/
def State.deviceReset (s : State) (cause : Nat) : State :=
  let k := s.fillDomains
  { State.reset with
    now := s.now, free := s.free, draws := k.draws, serial := s.serial, pending := s.pending, out := s.out,
    deferred := s.deferred, otp := s.otp, tag := s.tag,
    flash := { s.flash with
      partial_ := bankUpd s.flash.partial_ s.idleSlot fun x =>
        x || (s.boot.stage.isSome && s.boot.written.toList.any (· != 0)) },
    store := { s.store with queue := [] },
    boot := { Boot.reset with resetN := s.boot.resetN, pwrgd := s.boot.pwrgd, vfdUp := s.boot.vfdUp, nextCause := cause },
    mem := { MemState.reset with hbm := s.mem.hbm, vat := s.mem.vat, nextKey := s.mem.nextKey, order := s.mem.order },
    keys := { KeyState.reset with
      sealed_ := s.keys.sealed_, table := k.keys.table,
      areas := if s.keys.busy.isSome then
          bankUpd s.keys.areas (otherArea s.keys.areaInUse) fun a => { a with torn := true }
        else s.keys.areas },
    hpa := { Hpa.reset with perstN := s.hpa.perstN },
    net := { Net.reset with stopN := s.net.stopN },
    axes := s.axes.map fun a =>
      { Axis.reset with flt := a.flt, gates := { Gates.reset with lowAt := Vector.replicate 6 s.now } },
    lbus := { Lbus.reset with bus := s.lbus.bus.map fun b => { Bus.reset with power := b.power } } }

/-- The start after a reset (Table 4-1, t = 0): a low SFP_STOP_N holds every axis (R108), a low AXn_FLT_N puts its axis in
FAULT. -/
def State.beginBoot (s : State) : State :=
  let s1 := (s.updBoot fun b =>
    { b with resetN := true, pwrgd := true, vfdUp := true, cause := b.nextCause, step := .pllWait, releasedAt := s.now,
             xspiResetN := true, otpRead := true }).takeToken
  let s2 : State := { s1 with otp := { s1.otp with bootCount := satInc 0xFFFFFFFF s1.otp.bootCount } }
  let s3 := if s2.net.stopN then s2 else forAll s2 fun s n => s.updAxis n fun a => { a with hold := true }
  forAll s3 fun s n => if (s.axis n).flt then s.axisFault n 12 else s

/-- VFD_UP: the field die drives every gate low and holds every drive off. -/
def execVfdUp (s : State) : Host.Outcome State Fault Refusal :=
  .next <|
    if s.boot.vfdUp then s
    else
      let s1 := (s.updBoot fun b => { b with vfdUp := true }).lightsOff
      forAll s1 fun s n => s.drivePattern n .off

/-- POWER_LOSS: PWRGD low for 200 ns. -/
def execPowerLoss (s : State) : Host.Outcome State Fault Refusal :=
  .next (if s.boot.pwrgd then (s.deviceReset 3).updBoot fun b => { b with pwrgd := false } else s)

/-- RESET_N_ASSERT: a device already held keeps the cause it is held for. -/
def execResetNAssert (s : State) : Host.Outcome State Fault Refusal :=
  .next <|
    (s.deviceReset (if s.boot.step = .held then s.boot.nextCause else 1)).updBoot fun b => { b with resetN := false }

/-- RESET_N_RELEASE, under the rule of R24: PWRGD is high and every rail in range. -/
def execResetNRelease (s : State) : Host.Outcome State Fault Refusal :=
  .next (if s.boot.step = .held then s.beginBoot else s)

/-- PLL_LOCK: clocks, device time and the timers run; with TCXO_OK set the boot ROM reads the flash. -/
def execPllLock (s : State) : Host.Outcome State Fault Refusal :=
  .next <|
    if s.boot.step ≠ .pllWait ∨ s.fabric.pllC then s
    else
      let s1 := (s.updFabric fun f =>
        { f with pllC := true, pllF := true, d02Run := true, xt32Ok := f.d00 == .crystal }).timersStart
      (s1.updTb fun t => { t with running := true, msNext := 1 }).clocksReady

/-- PLL_LOCK_TIMEOUT: 10 ms after release the clocks are not ready (R60). -/
def execPllLockTimeout (s : State) : Host.Outcome State Fault Refusal :=
  .next <|
    if s.boot.step = .pllWait ∧ s.boot.releasedAt + 10 * msTicks ≤ s.now then
      (s.updFabric fun f => { f with clkFail := true }).updBoot fun b => { b with step := .stopped }
    else s

/-- RECOVERY: the boot ROM extends WM6 with the recorded slot. -/
def State.enterRecovery (s : State) : State :=
  let rec_ := s.flash.recorded
  let s1 := s.updBoot fun b => { b with dev := .recovery, step := .done, slot := rec_ }
  (s1.extend 6 (digest (s1.configRecord .recovery rec_))).timeLoad

/-- BOOT1_VERIFIED: the slot is chosen, its mark programmed and WM0 extended, or RECOVERY entered. -/
def execBoot1Verified (s : State) : Host.Outcome State Fault Refusal :=
  .next <|
    if s.boot.step ≠ .readBoot1 then s
    else
      let rec_ := s.flash.recorded
      let c := s.chooseSlot
      let s1 := s.updBoot fun b => { b with rejected := c.2, recorded := rec_, recordsRead := true }
      match c.1 with
      | none => s1.enterRecovery
      | some slot =>
        let s2 : State := { s1 with
          flash := { s1.flash with marks := bankUpd s1.flash.marks slot fun n => min 256 (n + 1) },
          keys := { s1.keys with entOk := !s1.keys.startFail, seededAt := s1.now } }
        let s3 := s2.updBoot fun b =>
          { b with slot := slot, fallback := slot != rec_, step := .readImages,
                   running := Vector.ofFn fun k : Fin 6 => s1.verified slot k }
        match s1.verified slot 0 with
        | some i => s3.extend 0 (fit 48 i.digest)
        | none => s3

/-- DEV_STATE after the compatibility check (R79 to R81, R162). -/
def State.targetState (s : State) : DevState :=
  if s.otp.lifecycle = .retired then .retired
  else if s.boot.mismatch ≠ 0 then .restricted
  else if s.boot.feltFail ∨ s.keys.startFail then .hwFault
  else .early

/-- A valid junction sensor reads 105 °C or more (R35). -/
def State.bootHot (s : State) : Bool := s.thermal.valid.any fun x => decide (105 * 16 ≤ x.2)

/-- IMAGES_VERIFIED: WM1 to WM5, the compatibility check, WM6, the enrolments and WM7; Mboit starts. -/
def execImagesVerified (s : State) : Host.Outcome State Fault Refusal :=
  .next <|
    if s.boot.step ≠ .readImages then s
    else
      let s1 := forAll s fun s (k : Fin 5) =>
        match s.boot.running.get k.succ with
        | some i => s.extend (Fin.ofNat 8 (k.val + 1)) (fit 48 i.digest)
        | none => s
      let s2 := s1.updBoot fun b => { b with mismatch := mismatchMap fun k => b.running.getD k none }
      let dev := s2.targetState
      let s3 := s2.extend 6 (digest (s2.configRecord dev s2.boot.slot))
      let s4 := s3.loadKeys
      s4.updBoot fun b =>
        { b with target := dev, mboit := true, step := if s4.bootHot then .thermalWait else .waitEarly }

/-- BOOT_THERMAL_WAIT_END. -/
def execBootThermalWaitEnd (s : State) : Host.Outcome State Fault Refusal :=
  .next <|
    if s.boot.step = .thermalWait ∧ ¬ s.bootHot then s.updBoot fun b => { b with step := .waitEarly } else s

/-- Mboit brings the cores from OFF to IDLE (R197). -/
def State.coresIdle (s : State) : State :=
  s.updCores fun c => { c with core := c.core.map fun x => if x.st = .off then { x with st := .idle, idleAt := s.now } else x }

/-- EARLY_REACHED: Mboit answers; in EARLY the cores become IDLE (R197); the marks of the running slot are erased, the saved
settings act, TIM08 and TIM09 are set (R369, R417), TIM09 to capture each start-of-frame detection as a rising edge
(notes/assumptions/26). A start that ends in HW_FAULT from the felt link or the entropy source trains the stacks too: DESIGN
CHOICE, notes/assumptions/21. -/
def execEarlyReached (s : State) : Host.Outcome State Fault Refusal :=
  .next <|
    if s.boot.step ≠ .waitEarly then s
    else
      let dev := s.boot.target
      let s1 : State := { s with flash := { s.flash with marks := bankSet s.flash.marks s.boot.slot 0 } }
      let s2 := (if dev = .early then s1.coresIdle else s1).updBoot fun b =>
        { b with dev := dev, step := if dev = .retired then .done else .training }
      let s3 := ((s2.timeLoad).radioStart).updFabric fun f => { f with winStart := s.now }
      let s4 := (match s.store.net with
        | some c => s3.updNet fun n => { n with written := c, inForce := c }
        | none => s3).updTimer 8 fun t =>
        t.writePreload s.d02 fun x => { x with pre := 0, top := 32768 * s3.illum.dimC }
      s4.updTimer 9 fun t => { t with capEdge := 1 }.writePreload s.d02 fun x => { x with pre := 0, top := 200000 }

/-- Domain key sets for SELF and owners 1, 2 and 4 (R161). -/
def State.makeDomains (s : State) : State :=
  let n := s.mem.nextKey
  let s1 := s.fillDomains
  s1.updMem fun m => { m with selfKey := n, domKeys := #v[n + 1, n + 2, 0, n + 3], nextKey := n + 4, keysUp := true }

/-- When DEV_STATE first becomes FULL, each SVN minimum rises to the running image's SVN (R73). -/
def State.raiseSvn (s : State) : State :=
  let min := Vector.ofFn fun k : Fin 6 =>
    let old := s.otp.svnMin.get k
    let new := ((s.boot.running.get k).map (·.svn)).getD 0
    if old < new then new else old
  { s with otp := { s.otp with svnMin := min } }

/-- HBM_TRAINED: both stacks are trained; EARLY becomes FULL; VSTR_DIS is released and the gears are restored. -/
def execHbmTrained (s : State) : Host.Outcome State Fault Refusal :=
  .next <|
    if s.boot.step ≠ .training ∨ s.boot.hbm0Fail ∨ s.boot.hbm1Fail then s
    else
      let s1 := (if s.keys.startFail then s else s.makeDomains).updBoot fun b => { b with step := .done }
      if s.boot.dev ≠ .early then s1
      else
        let s2 := (s1.updBoot fun b => { b with dev := .full }).raiseSvn
        ((s2.updStage fun x => { x with dis := false }).gearStart).repin

/-- HBM_TRAINING_FAIL: stack 0, stack 1, or the felt link, failing twice (R85). -/
def execHbmTrainingFail (source : Fin 3) (s : State) : Host.Outcome State Fault Refusal :=
  .next <|
    let mark (x : State) : State := x.updBoot fun b =>
      { b with hbm0Fail := b.hbm0Fail || source == 0, hbm1Fail := b.hbm1Fail || source == 1,
               feltFail := b.feltFail || source == 2 }
    if source = 2 then
      if s.boot.step = .readImages then (mark s).linkErr 6 (mark s).bootStatus else s
    else if s.boot.step = .training ∧ ¬ (if source = 0 then s.boot.hbm0Fail else s.boot.hbm1Fail) then
      let s2 := (if s.boot.dev = .early then (mark s).coresOff else mark s).updBoot fun b =>
        { b with dev := if b.dev = .early then .hwFault else b.dev }
      s2.linkErr (4 + source.val) s2.bootStatus
    else s

/-- CC_WATCHDOG_EXPIRY: the configured stops, then a reset with cause 4 at the next tick. -/
def execCcWatchdogExpiry (s : State) : Host.Outcome State Fault Refusal :=
  .next <|
    if s.boot.mboit ∧ ¬ s.boot.stopDone then
      (s.hardwareStop.safeEvent 8 0xFF).updBoot fun b => { b with resetDue := some (s.now, 4), stopDone := true }
    else s

/-- RESET_DEVICE_DELAY_END: the configured stops; the reset follows 100 µs later (R148). -/
def execResetDeviceDelayEnd (s : State) : Host.Outcome State Fault Refusal :=
  .next <|
    match s.boot.resetDue with
    | some (t, c) =>
      if t ≤ s.now ∧ ¬ s.boot.stopDone then
        s.hardwareStop.updBoot fun b => { b with resetDue := some (s.now + 100 * usTicks, c), stopDone := true }
      else s
    | none => s

/-- A reset that is due is taken. -/
def State.resetTick (s : State) : State :=
  match s.boot.resetDue with
  | some (t, c) => if s.boot.stopDone ∧ t ≤ s.now then (s.deviceReset c).beginBoot else s
  | none => s

/-! ## DEVICE and BOOT registers (R82, R83) -/

def idRead (s : State) (off : Nat) : Nat :=
  if off = 0x0000 then 0x53203264
  else if off = 0x0004 then siliconRev
  else if 0x0008 ≤ off ∧ off < 0x0018 then if s.boot.otpRead then at_ s.otp.uniqueId (off - 8) 4 else 0
  else if off = 0x0020 then s.boot.dev.code
  else if off = 0x0024 then if s.boot.otpRead then s.otp.lifecycle.code + s.otp.svcEntries * 256 else 0
  else if off = 0x0028 then s.otp.bootCount
  else if off = 0x002C then s.boot.cause
  else 0

def bootRead (s : State) (off : Nat) : Nat :=
  let b := s.boot
  let img (k : Nat) : Option ImageInfo := b.running.getD k none
  if off = 0x0000 then s.bootStatus
  else if off = 0x0004 then if b.recordsRead then s.flash.seqInForce.toNat else 0
  else if off = 0x0008 then b.mismatch
  else if off = 0x000C then (mismatchSum b.mismatch).1 + (mismatchSum b.mismatch).2 * 256
  else if 0x0010 ≤ off ∧ off < 0x0028 then ((img ((off - 0x10) / 4)).map (·.version.toNat)).getD 0
  else if 0x0030 ≤ off ∧ off < 0x0048 then
    ((img ((off - 0x30) / 4)).map (·.svn.toNat)).getD 0
      + (if b.otpRead then (s.otp.svnMin.getD ((off - 0x30) / 4) 0).toNat * 65536 else 0)
  else if off = 0x0050 then
    b.staged + bitAt 8 b.stage.isSome + ((b.stage.map fun x => (x.port.val + 1) * 4096).getD 0)
  else if h : 0x0100 ≤ off ∧ off < 0x0300 then
    let w := b.wm.get ⟨(off - 0x100) / 0x40, by omega⟩
    if (off - 0x100) % 0x40 < 0x30 then at_ w ((off - 0x100) % 0x40) 4 else 0
  else 0

end Sys2Proof.Machine
end

