-- ==== Sys2Proof/Machine/Leases.lean ====
section
/-! DEFINITION. Leases, their loss actions and their end (05_owners_ports_leases.md, R98 to R103, R136, R137). -/

namespace Sys2Proof.Machine

/-! ## Resources (Table 5-5) -/

/-- Shortest and longest duration in ms of a class. -/
def durations (cls : Nat) : Nat × Nat :=
  match cls with
  | 1 => (10, 10000)
  | 2 | 3 | 4 | 6 => (100, 86400000)
  | 5 | 7 => (1000, 86400000)
  | _ => (1000, 3600000)

/-- The class and index name a leasable resource. -/
def leasable (cls idx : Nat) : Bool := (Leases.reset.get cls idx).isSome

/-- Time to expiry in ms, rounded up: never 0 while held (R101). -/
def Lease.remainMs (l : Lease) (now : Nat) : Nat :=
  if l.owner = 0 then 0 else max 1 ((l.expiry - now + msTicks - 1) / msTicks)

/-- A lease register (Table 5-8). -/
def Lease.word (l : Lease) (now : Nat) : Nat :=
  if l.owner = 0 then 0 else l.owner + 16 + l.remainMs now % 2 ^ 27 * 32

/-- The port of an owner who has a share. -/
def sharePort (cls idx : Nat) : Option Port := if h : cls = 7 ∧ 1 ≤ idx ∧ idx ≤ 4 then some ⟨idx - 1, by omega⟩ else none

/-- The lease reply (Table 7-3). -/
def State.leaseReply (s : State) (cls idx loss : Nat) : Bytes :=
  let l := (s.leases.get cls idx).getD Lease.free
  let amounts : Nat × Nat := match sharePort cls idx with
    | some p => (s.leases.tags.get p, s.leases.cores.get p)
    | none => (0, 0)
  le 1 l.owner ++ le 1 loss ++ zeros 2 ++ le 4 (l.remainMs s.now) ++ le 1 amounts.1 ++ le 1 amounts.2 ++ zeros 2

/-! ## The end of a lease (R102) -/

/-- The loss action of a resource and its code (Table 5-5, Table 7-4). -/
def State.lossOf (s : State) (cls idx : Nat) : State × Nat :=
  match cls with
  | 1 => s.axisLoss (Fin.ofNat 8 idx)
  | 2 => s.illumLoss (Fin.ofNat 8 idx)
  | 3 => (s.matrixLoss, 5)
  | 4 =>
    let u : Fin 16 := Fin.ofNat 16 (10 + idx)
    (((s.unitStop u true).disarm (Fin.ofNat 6 idx) true), 6)
  | 5 => (s.tagSlotLoss (Fin.ofNat 32 idx), 7)
  | 6 => (s.timerLoss (Fin.ofNat 16 idx), 8)
  | 7 =>
    let p : Fin 4 := Fin.ofNat 4 (idx - 1)
    ({ s with leases := { s.leases with tags := bankSet s.leases.tags p 0, cores := bankSet s.leases.cores p 0 } }, 9)
  | _ => (s.unitStop (Fin.ofNat 16 idx) true, 10)

/-- A lease ends: the loss action, then the resource is free. `expired`: by expiry, which is remembered of the
holder. -/
def State.endLease (s : State) (cls idx : Nat) (expired : Bool) : State × Nat :=
  match s.leases.get cls idx with
  | none => (s, 0)
  | some l =>
    let r := s.lossOf cls idx
    let lapsed := if expired then bankSet l.lapsed (Fin.ofNat 4 (l.owner - 1)) true else l.lapsed
    ({ r.1 with leases := r.1.leases.put cls idx ⟨0, 0, lapsed⟩ }, r.2)

/-- Every leasable resource. -/
def resources : List (Nat × Nat) :=
  ((List.range 8).map fun i => (1, i)) ++ ((List.range 8).map fun i => (2, i)) ++ [(3, 0)]
    ++ ((List.range 6).map fun i => (4, i)) ++ ((List.range 32).map fun i => (5, i))
    ++ ((List.range 6).map fun i => (6, i + 10)) ++ [(7, 1), (7, 2), (7, 4)] ++ ((List.range 10).map fun i => (8, i))

/-- CLOSE_SESSION releases every lease of an owner. -/
def State.releaseAll (s : State) (p : Port) : State :=
  resources.foldl (fun s r => if s.holder r.1 r.2 = Port.id p then (s.endLease r.1 r.2 false).1 else s) s

/-- Expiry of a resource's lease in this tick (Table 5-7, step 7). -/
def State.expire (s : State) (cls idx : Nat) : State :=
  match s.leases.get cls idx with
  | some l =>
    if l.owner ≠ 0 ∧ l.expiry ≤ s.now then
      let r := s.endLease cls idx true
      r.1.raiseTo 0x0F cls idx (le 1 cls ++ zeros 1 ++ le 2 idx ++ le 1 r.2 ++ zeros 3) l.owner
    else s
  | none => s

/-! ## Commands (R98, R99, R101) -/

/-- The amounts of a share fit beside those of the other shares (R99). -/
def State.shareFits (s : State) (p : Port) (tags cores : Nat) : Bool :=
  let others (v : Vector Nat 4) : Nat := ((bankList v).map fun x => if x.1 = p then 0 else x.2).sum
  decide (others s.leases.tags + tags ≤ 64) && decide (others s.leases.cores + cores ≤ s.poolCores)

/-- Hold a resource until the present tick plus a duration in ms. -/
def State.hold (s : State) (p : Port) (cls idx ms : Nat) : State :=
  let l := (s.leases.get cls idx).getD Lease.free
  { s with leases := s.leases.put cls idx ⟨Port.id p, s.now + ms * msTicks, bankSet l.lapsed p false⟩ }

/-- Fields of LEASE_TAKE and LEASE_RENEW. A renewal changes no amounts. -/
def leaseOk (h : Hdr) (p : LeaseP) (renew : Bool) : Bool :=
  let cls := h.cls.toNat
  let d := durations cls
  decide (d.1 ≤ p.duration.toNat) && decide (p.duration.toNat ≤ d.2)
    && (if cls = 7 then h.idx.toNat == Port.id h.port else true)
    && (if cls = 7 ∧ ¬ renew then decide (1 ≤ p.tags.toNat) && decide (p.tags.toNat ≤ 64) && decide (p.coresMin.toNat ≤ 32)
        else p.tags == 0 && p.coresMin == 0)

/-- LEASE_TAKE. -/
def doLeaseTake (t : Ticket) (p : LeaseP) (s : State) : State :=
  let cls := t.hdr.cls.toNat
  let idx := t.hdr.idx.toNat
  let o := s.holder cls idx
  if ¬ leaseOk t.hdr p false then s.reply t eParam []
  else if o ≠ 0 ∧ o ≠ Port.id t.hdr.port then s.reply t eContended (s.leaseReply cls idx 0)
  else if cls = 7 then
    if s.shareFits t.hdr.port p.tags.toNat p.coresMin.toNat then
      let s1 := s.hold t.hdr.port cls idx p.duration.toNat
      let s2 : State := { s1 with leases := { s1.leases with
        tags := bankSet s1.leases.tags t.hdr.port p.tags.toNat,
        cores := bankSet s1.leases.cores t.hdr.port p.coresMin.toNat } }
      s2.reply t stOk (s2.leaseReply cls idx 0)
    else s.reply t eQuota []
  else
    let s1 := s.hold t.hdr.port cls idx p.duration.toNat
    s1.reply t stOk (s1.leaseReply cls idx 0)

/-- LEASE_RENEW: E_LEASE_EXPIRED to the owner whose lease of the resource last ended by expiry. -/
def doLeaseRenew (t : Ticket) (p : LeaseP) (s : State) : State :=
  let cls := t.hdr.cls.toNat
  let idx := t.hdr.idx.toNat
  let l := (s.leases.get cls idx).getD Lease.free
  if ¬ leaseOk t.hdr p true then s.reply t eParam []
  else if l.owner = Port.id t.hdr.port then
    let s1 := s.hold t.hdr.port cls idx p.duration.toNat
    s1.reply t stOk (s1.leaseReply cls idx 0)
  else if l.lapsed.get t.hdr.port then s.reply t eLeaseExpired []
  else s.reply t eNotHolder []

/-- LEASE_RELEASE. -/
def doLeaseRelease (t : Ticket) (s : State) : State :=
  let cls := t.hdr.cls.toNat
  let idx := t.hdr.idx.toNat
  if s.holds t.hdr.port cls idx then
    let r := s.endLease cls idx false
    r.1.reply t stOk (r.1.leaseReply cls idx r.2)
  else s.reply t eNotHolder []

/-- LEASE_QUERY. -/
def doLeaseQuery (t : Ticket) (s : State) : State :=
  s.reply t stOk (s.leaseReply t.hdr.cls.toNat t.hdr.idx.toNat 0)

end Sys2Proof.Machine
end

