-- ==== Sys2Proof/Machine/Identity.lean ====
section
/-! DEFINITION. Sessions, the watermark report, certificates and SPDM (04_start_measurement_versions.md, R74 to R77;
06_command_transport.md, R114, R115, R120, R121; 07_opcodes_statuses.md, R135). -/

namespace Sys2Proof.Machine

/-! ## Sessions -/

/-- A session ends: pending replies and queued events are discarded, its keys destroyed (R115). -/
def State.endSession (s : State) (p : Port) : State :=
  match (s.owner p).session with
  | none => s
  | some ses =>
    let s1 := ((s.updOwner p fun o => { o with session := none, events := [] }).closeStageOf p).fillSlot (slotSession p)
    match ses.closing with
    | some t => s1.dropPacket t.hdr
    | none => s1

/-- End the sessions whose last replies are out: CLOSE_SESSION, replied to last, and the acceptance of 0xFFFF_FFFF. In
SHUTDOWN a CLOSE_SESSION that waited is answered E_HW_FAULT like every outstanding command (07_opcode_reference.md,
Faults). -/
def State.finish (s : State) : State :=
  forAll s fun s (p : Fin 4) =>
    match (s.owner p).session with
    | none => s
    | some ses =>
      match ses.closing with
      | some t =>
        if ses.outstanding ≤ 1 then
          ((s.reply t (if s.boot.dev = .shutdown then eHwFault else stOk) []).updSession p fun x =>
            { x with closing := none }).endSession p
        else s
      | none => if ses.ending ∧ ses.outstanding = 0 then s.endSession p else s

/-- Largest packet a port carries (Table 6-5). -/
def State.maxPacket (s : State) (p : Port) : Nat :=
  if p = 0 then 65568 else if p = 1 then if s.net.inForce.jumbo then 8972 else 1472 else if p = 2 then 6912 else 16384

def mboitVersion (s : State) : Nat := ((s.boot.running.get 1).map (·.version.toNat)).getD 0

/-- HELLO (R114, Table 7-2): a fresh challenge, valid for 1 s. -/
def doHello (t : Ticket) (s : State) : State :=
  let p := t.hdr.port
  let n := fit 32 (Config.freeBytes s.free)
  let s1 := s.tookFree.updOwner p fun o => { o with challenge := some (n, s.now) }
  s1.reply t stOk (le 4 0x53203264 ++ le 4 siliconRev ++ le 1 s.boot.dev.code ++ le 1 s.otp.lifecycle.code ++ le 1 (Port.id p)
    ++ le 1 (bitAt 0 (s.owner p).session.isSome) ++ le 4 (mboitVersion s) ++ le 4 (s.maxPacket p) ++ n)

/-- The key a KEY_ID names for a sender (R167). -/
def State.namedKey (s : State) (p : Port) (id : Nat) : Option Bytes :=
  if id / 256 = Port.id p ∧ id % 256 < 4 then (s.keys.enrolled.get p).get (Fin.ofNat 4 (id % 256)) else none

/-- A valid challenge of the owner. -/
def State.liveChallenge (s : State) (p : Port) : Option Bytes :=
  match (s.owner p).challenge with
  | some (n, at_) => if s.now ≤ at_ + secTicks then some n else none
  | none => none

/-- OPEN_SESSION (R114). It uses the challenge up, whatever its outcome. -/
def doOpenSession (t : Ticket) (q : OpenP) (s : State) : State :=
  let p := t.hdr.port
  if s.keys.keysOut then s.reply t eBusy []
  else
    let id := le 1 (Port.id p)
    let s1 := s.updOwner p fun o => { o with challenge := none }
    match s.namedKey p q.keyId.toNat, s.liveChallenge p with
    | some key, some nD =>
      if ¬ Config.ecdsaVerify key (digest (id ++ q.qH ++ q.nH ++ nD ++ s.otp.uniqueId)) q.sig then s1.reply t eAuth []
      else
        let qE := fit 97 (Config.ephemeral s.draws)
        let z := fit 48 (Config.ecdh s.draws q.qH)
        let derive (c : Byte) : Bytes :=
          fit 32 (Config.hkdf z (q.nH ++ nD) ([0x50, 0x53, 0x49, 0x45, 0x53, 0x4B, 0x32] ++ id ++ [c]))
        let sig := fit 96 (Config.deviceSign s.free (digest (id ++ q.qH ++ q.nH ++ nD ++ qE)))
        let s2 := (s1.endSession p).drew.tookFree
        let ses : Session :=
          { serial := s.serial, keyC := derive 0x43, keyD := derive 0x44, high := 0, cache := [], mask := 0, encEv := false,
            evSeq := 1, outstanding := 0, fresh := [], freshAt := s.now, freshSeq := 1, freshLost := 0, closing := none, ending := false }
        let s3 : State := { s2.updOwner p fun o => { o with session := some ses } with serial := s.serial + 1 }
        s3.reply t stOk (qE ++ zeros 3 ++ sig)
    | _, _ => s1.reply t eAuth []

/-- CLOSE_SESSION: the leases are released at once, the reply goes last (R120). -/
def doCloseSession (t : Ticket) (s : State) : State :=
  match (s.owner t.hdr.port).session with
  | some ses =>
    if ses.closing.isSome then s.reply t stOk []
    else (s.releaseAll t.hdr.port).updSession t.hdr.port fun x => { x with closing := some t }
  | none => s

/-- PING. -/
def doPing (t : Ticket) (bytes : Bytes) (s : State) : State :=
  if 64 < bytes.length then s.reply t eParam [] else s.reply t stOk bytes

/-- EVENT_SUBSCRIBE: mask bits 1 to 19, in force for the events of its tick too (Table 7-15); on HPB events go where the
command came from (R92). -/
def doEventSubscribe (t : Ticket) (mask : Word) (enc : Bool) (s : State) : State :=
  let p := t.hdr.port
  if mask.toNat % 2 = 1 ∨ 2 ^ 20 ≤ mask.toNat then s.reply t eParam []
  else
    let old := ((s.owner p).session.map (·.mask)).getD 0
    let s1 := s.updOwner p (OwnerState.subscribe s.now (s.portDead p) mask.toNat enc)
    let s2 := match t.hdr.via with
      | .udp ip port => s1.updOwner p fun o => { o with evtDest := some (ip, port) }
      | _ => s1
    s2.reply t stOk (le 4 old)

/-! ## The watermark report (R75, Table 4-5) -/

/-- Bytes 0x000 to 0x227 of the report. -/
def State.reportBody (s : State) (nonce : Bytes) : Bytes :=
  let images := bankList s.boot.running
  le 2 1 ++ le 2 648 ++ le 4 0x53203264 ++ le 4 siliconRev ++ le 4 (idRead s 0x24) ++ le 4 s.otp.bootCount
    ++ le 4 s.boot.dev.code ++ le 4 s.bootStatus ++ le 4 s.boot.mismatch ++ fit 32 nonce ++ fit 16 s.otp.uniqueId
    ++ images.flatMap (fun x => le 4 ((x.2.map (·.version.toNat)).getD 0))
    ++ images.flatMap (fun x => le 2 ((x.2.map (·.svn.toNat)).getD 0)) ++ zeros 4 ++ digest Config.certChain
    ++ (bankList s.boot.wm).flatMap fun x => fit 48 x.2

/-- GET_WATERMARK. -/
def doGetWatermark (t : Ticket) (nonce : Bytes) (s : State) : State :=
  let body := s.reportBody nonce
  s.tookFree.reply t stOk (body ++ fit 96 (Config.deviceSign s.free (digest body)))

/-- GET_CERTS. -/
def doGetCerts (t : Ticket) (offset length : Word) (s : State) : State :=
  let total := Config.certChain.length
  if total ≤ offset.toNat ∨ offset.toNat % 4 ≠ 0 ∨ length.toNat % 4 ≠ 0 ∨ length.toNat < 4 then s.reply t eParam []
  else
    let n := min length.toNat (total - offset.toNat)
    s.reply t stOk (le 4 total ++ le 4 n ++ fit ((n + 3) / 4 * 4) (slice Config.certChain offset.toNat n))

/-! ## SPDM on the DOE mailbox of HPA (R77, Table 4-6). Message bytes: PRESUMED, notes/assumptions/19. -/

/-- SPDM is served: HPA up, not in BOOT or RECOVERY. -/
def State.spdmUp (s : State) : Bool :=
  s.hpa.linkUp && !s.portTested 0 && s.boot.dev != .boot && s.boot.dev != .recovery

def State.doe (s : State) (bs : Bytes) : State :=
  if s.spdmUp then { s with out := s.out ++ [Out.doe bs] } else s

/-- ERROR with a code. -/
def spdmError (code extra : Nat) : Bytes := [0x12, 0x7F] ++ le 1 code ++ le 1 extra

/-- The chain of slot 0 in SPDM chain format. -/
def spdmChain : Bytes :=
  le 2 (52 + Config.certChain.length) ++ zeros 2 ++ fit 48 Config.rootHash ++ Config.certChain

/-- A signature of the device identity key over what it signs. -/
def State.spdmSigned (s : State) (request body : Bytes) : Bytes :=
  body ++ fit 96 (Config.deviceSign s.free (digest (request ++ body)))

/-- GET_VERSION. -/
def execGetVersion (s : State) : Host.Outcome State Fault Refusal :=
  .next (s.doe [0x10, 0x04, 0, 0, 0, 1, 0x00, 0x12])

/-- GET_CAPABILITIES: CERT_CAP, CHAL_CAP, MEAS_CAP with signature. -/
def execGetCapabilities (s : State) : Host.Outcome State Fault Refusal :=
  .next (s.doe ([0x12, 0x61, 0, 0, 0, Config.spdmTiming, 0, 0] ++ le 4 0x16 ++ fit 8 Config.spdmSizes))

/-- NEGOTIATE_ALGORITHMS. -/
def execNegotiateAlgorithms (s : State) : Host.Outcome State Fault Refusal :=
  .next (s.doe ([0x12, 0x63, 0, 0] ++ le 2 36 ++ [1, 0] ++ le 4 4 ++ le 4 0x80 ++ le 4 2 ++ zeros 16))

/-- GET_DIGESTS. -/
def execGetDigests (s : State) : Host.Outcome State Fault Refusal :=
  .next (s.doe ([0x12, 0x01, 0, 1] ++ digest spdmChain))

/-- GET_CERTIFICATE: slot 0 only. -/
def execGetCertificate (slot : Byte) (offset length : BitVec 16) (s : State) : Host.Outcome State Fault Refusal :=
  .next <|
    if slot ≠ 0 ∨ spdmChain.length ≤ offset.toNat then s.doe (spdmError 1 0)
    else
      let n := min length.toNat (spdmChain.length - offset.toNat)
      s.doe ([0x12, 0x02, 0, 0] ++ le 2 n ++ le 2 (spdmChain.length - offset.toNat - n) ++ slice spdmChain offset.toNat n)

/-- CHALLENGE. -/
def execChallenge (slot : Byte) (nonce : Bytes) (s : State) : Host.Outcome State Fault Refusal :=
  .next <|
    if slot ≠ 0 then s.doe (spdmError 1 0)
    else
      let body := [0x12, 0x03, 0, 1] ++ digest spdmChain ++ fit 32 (Config.freeBytes s.free) ++ zeros 2
      (s.doe (s.spdmSigned nonce body)).tookFree

/-- Value type of a measurement block: 1 mutable firmware, 2 hardware configuration, 3 firmware configuration. -/
def blockType (i : Nat) : Nat := if i ≤ 6 then 1 else if i = 7 then 2 else 3

/-- The measurement block of an index, 1 to 8. -/
def State.spdmBlock (s : State) (i : Nat) : Bytes :=
  le 1 i ++ [1] ++ le 2 51 ++ le 1 (blockType i) ++ le 2 48 ++ fit 48 (s.boot.wm.getD (i - 1) [])

/-- GET_MEASUREMENTS: operation 0 asks the number, 1 to 8 one block, 0xFF all. -/
def execGetMeasurements (signed : Bool) (operation slot : Byte) (nonce : Bytes) (s : State) :
    Host.Outcome State Fault Refusal :=
  .next <|
    let op := operation.toNat
    if slot ≠ 0 ∨ ¬ (op ≤ 8 ∨ op = 255) then s.doe (spdmError 1 0)
    else
      let ix : List Nat := if op = 0 then [] else if op = 255 then (List.range 8).map (· + 1) else [op]
      let rec_ := ix.flatMap s.spdmBlock
      let body := [0x12, 0x60] ++ le 1 (if op = 0 then 8 else 0) ++ [0] ++ le 1 ix.length ++ le 3 rec_.length ++ rec_
        ++ fit 32 (Config.freeBytes s.free) ++ zeros 2
      (s.doe (if signed then s.spdmSigned nonce body else body)).tookFree

/-- SPDM_UNSUPPORTED_REQUEST. -/
def execSpdmUnsupportedRequest (code : Byte) (s : State) : Host.Outcome State Fault Refusal :=
  .next (s.doe (spdmError 7 code.toNat))

end Sys2Proof.Machine
end

