-- ==== Sys2Proof/Machine/Firmware.lean ====
section
/-! DEFINITION. FW_STAGE, FW_COMMIT and RESET_DEVICE (R69 to R71, R146 to R148). -/

namespace Sys2Proof.Machine

/-- The slot that runs; none in RECOVERY. -/
def State.runningSlot (s : State) : Option (Fin 2) := if s.boot.dev = .recovery then none else some s.boot.slot

/-- Bytes the images of a slot may occupy together. -/
def slotRoom : Nat := 31 * 2 ^ 20 - 4096

/-- The reply of FW_STAGE. -/
def State.stageReply (s : State) (t : Ticket) (status written : Nat) : State :=
  s.reply t status (if status = stOk then le 4 written ++ le 1 s.boot.staged ++ zeros 3 else [])

/-- Put a chunk of an image in place, and verify the image when it is complete. With all six staged the slot is whole again
(Table 4-10). -/
def State.stageImage (s : State) (k : Fin 6) (p : StageP) : State × Nat :=
  let slot := s.idleSlot
  let off := p.offset.toNat
  let total := p.total.toNat
  let old := (s.flash.images.get slot).get k
  let bytes := (old.take off ++ p.data).take total
  let full := decide (total ≤ off + p.data.length)
  let s1 : State := { s with flash := { s.flash with
    images := bankUpd s.flash.images slot fun x => bankSet x k bytes,
    torn := bankUpd s.flash.torn slot fun x => bankSet x k (!full) } }
  let ok := full && (s1.verified slot k).isSome
  let s2 := s1.updBoot fun b =>
    { b with written := bankSet b.written k (min total (off + p.data.length)), totals := bankSet b.totals k total,
             staged := maskOf 6 fun i => if i = k.val then ok else b.staged.testBit i }
  let s3 : State :=
    if s2.boot.staged = 63 then { s2 with flash := { s2.flash with partial_ := bankSet s2.flash.partial_ slot false } } else s2
  (s3, if full && !ok then eIntegrity else stOk)

/-- Put a chunk of a lifecycle token in place. -/
def State.stageToken (s : State) (p : StageP) : State × Nat :=
  let slot := s.idleSlot
  let off := p.offset.toNat
  let total := p.total.toNat
  let bytes := ((s.flash.token.get slot).take off ++ p.data).take total
  let full := decide (total ≤ off + p.data.length)
  let s1 : State := { s with flash := { s.flash with token := bankSet s.flash.token slot bytes } }
  let ok := full && s1.tokenOk bytes
  let s2 := s1.updBoot fun b => { b with tokenWritten := min total (off + p.data.length), tokenStaged := ok }
  (s2, if full && !ok then eIntegrity else stOk)

/-- What the other images of the idle slot occupy: their TOTAL where one was staged, else what the slot holds of them. -/
def State.othersBytes (s : State) (k : Fin 6) : Nat :=
  ((bankList s.boot.totals).map fun x =>
    if x.1 = k then 0 else if x.2 ≠ 0 then x.2 else ((s.flash.images.get s.idleSlot).get x.1).length).sum

/-- FW_STAGE (R147). TOTAL is judged by the chunk that began the image: DESIGN CHOICE, notes/assumptions/20. -/
def doFwStage (t : Ticket) (p : StageP) (s : State) : State :=
  let port := t.hdr.port
  let off := p.offset.toNat
  let total := p.total.toNat
  let token := p.image == 0x10
  let k : Fin 6 := Fin.ofNat 6 p.image.toNat
  let other : Bool := match s.boot.stage with
    | some x => x.port != port
    | none => false
  let written := if token then s.boot.tokenWritten else s.boot.written.get k
  let others := s.othersBytes k
  let room := if token then decide (total ≤ 4096) else decide (others + total ≤ slotRoom)
  let begun := off == 0 || (off == written && (token || total == s.boot.totals.get k))
  if ¬ (token ∨ p.image.toNat ≤ 5) then s.reply t eParam []
  else if token ∧ port ≠ 3 then s.reply t ePort []
  else if p.data = [] ∧ ¬ p.close then s.reply t eParam []
  else if p.data ≠ [] ∧ (total = 0 ∨ ¬ room ∨ ¬ begun ∨ (total + 3) / 4 * 4 < off + p.data.length) then s.reply t eParam []
  else if other then s.reply t eBusy []
  else
    let s1 := s.updBoot fun b => { b with stage := some ⟨port, t.serial, s.now⟩ }
    let r := if p.data = [] then (s1, stOk) else if token then s1.stageToken p else s1.stageImage k p
    let n := if token then r.1.boot.tokenWritten else r.1.boot.written.get k
    (if p.close then r.1.closeStage else r.1).stageReply t r.2 n

/-- The cell a new commit record goes into: one that is not valid, else the one with the lower SEQ. -/
def Flash.freeCell (f : Flash) : Fin 2 :=
  let ok (i : Fin 2) : Bool := match f.cmt.get i with
    | some r => r.crcOk
    | none => false
  if ¬ ok 0 then 0 else if ¬ ok 1 then 1
  else match f.inForce with
    | some x => x.1 + 1
    | none => 0

/-- A record whose write is complete comes in force and is replied to (R70). -/
def State.commitDone (s : State) : State :=
  match s.commit with
  | none => s
  | some c =>
    let s1 : State := { s with
      commit := none,
      flash := { s.flash with cmt := bankUpd s.flash.cmt c.cell fun r => r.map fun x => { x with crcOk := true } } }
    (s1.closeStage).reply c.ticket stOk (le 4 s1.flash.seqInForce.toNat ++ le 4 c.map)

/-- FW_COMMIT. The second of two in one tick acts on the record the first wrote (Table 4-10). Every reply of it closes the
stage (R147). A slot whose staging a power loss or reset cut short fails until all six images are staged again
(Table 4-10). -/
def doFwCommit (t : Ticket) (slot : Byte) (token : Bool) (s0 : State) : State :=
  let s := s0.commitDone
  let c := s.closeStage
  if 1 < slot.toNat then c.reply t eParam []
  else
    let x : Fin 2 := Fin.ofNat 2 slot.toNat
    if token then
      if x ≠ s.idleSlot then c.reply t eParam []
      else if ¬ s.boot.tokenStaged ∨ ¬ s.tokenOk (s.flash.token.get x) then c.reply t eIntegrity []
      else
        let s1 : State := { s with flash := { s.flash with tokenArmed := some x } }
        s1.closeStage.reply t stOk (le 4 s1.flash.seqInForce.toNat ++ zeros 4)
    else
      let running := s.runningSlot == some x
      if ¬ running ∧ (s.failing x ≠ 0 ∨ (s.flash.partial_.get x ∧ s.boot.staged ≠ 63)) then c.reply t eIntegrity []
      else
        let cell := s.flash.freeCell
        let seq := s.flash.seqInForce + 1
        { s with
          commit := some ⟨t, x, seq, cell, if running then 0 else mismatchMap fun k => s.verified x (Fin.ofNat 6 k)⟩,
          flash := { s.flash with marks := bankSet s.flash.marks x 0, cmt := bankSet s.flash.cmt cell (some ⟨seq, x, false⟩) } }

/-- RESET_DEVICE: the reply first, the stops and the reset after DELAY (R148). -/
def doResetDevice (t : Ticket) (delay : Word) (s : State) : State :=
  if 1000 < delay.toNat then s.reply t eParam []
  else
    let s1 := s.reply t stOk []
    if s.boot.stopDone then s1 else s1.updBoot fun b => { b with resetDue := some (s.now + delay.toNat * msTicks, 2) }

/-- STAGE_TIMEOUT: 60 s without an FW_STAGE from the stage's owner. -/
def execStageTimeout (s : State) : Host.Outcome State Fault Refusal :=
  .next <|
    match s.boot.stage with
    | some x => if x.lastAt + 60 * secTicks ≤ s.now then s.closeStage else s
    | none => s

end Sys2Proof.Machine
end

