-- ==== Sys2Proof/Machine/Registers.lean ====
section
/-! DEFINITION. The register block map, what each register belongs to, and REG_READ, REG_WRITE and REG_MODIFY
(06_command_transport.md R126, R127; 05_owners_ports_leases.md R88, R106; 07_opcode_reference.md R138, R139). -/

namespace Sys2Proof.Machine

/-! ## OWNERS and LEASES (R106, Table 5-8) -/

/-- Leases an owner holds. -/
def State.leasesOf (s : State) (p : Port) : Nat := (resources.filter fun r => s.holder r.1 r.2 == Port.id p).length

/-- The owner whose register lies at base + 4n, n = 1 to 4. -/
def fourOwner (base off : Nat) : Option Port :=
  if h : base + 4 ≤ off ∧ off < base + 20 then some ⟨(off - base - 4) / 4, by omega⟩ else none

def NetCfg.word (c : NetCfg) : Nat :=
  bitAt 0 c.mode + bitAt 1 c.jumbo + bitAt 2 c.vlanEn + c.vid * 16 + c.pcp * 2 ^ 16 + c.phyAddr * 2 ^ 19 + c.pfx * 2 ^ 24

/-- A lease register of a class and index. -/
def State.leaseWord (s : State) (cls idx : Nat) : Nat := ((s.leases.get cls idx).getD Lease.free).word s.now

/-- A word of the OWNERS and LEASES block. -/
def ownersRead (s : State) (off : Nat) : Nat :=
  let n := s.net
  if 0x0100 ≤ off ∧ off < 0x0120 then s.leaseWord 1 ((off - 0x0100) / 4)
  else if 0x0120 ≤ off ∧ off < 0x0140 then s.leaseWord 2 ((off - 0x0120) / 4)
  else if off = 0x0140 then s.leaseWord 3 0
  else if 0x0150 ≤ off ∧ off < 0x0168 then s.leaseWord 4 ((off - 0x0150) / 4)
  else if 0x0180 ≤ off ∧ off < 0x0200 then s.leaseWord 5 ((off - 0x0180) / 4)
  else if 0x0200 ≤ off ∧ off < 0x0218 then s.leaseWord 6 ((off - 0x0200) / 4 + 10)
  else if 0x0280 ≤ off ∧ off < 0x02A8 then s.leaseWord 8 ((off - 0x0280) / 4)
  else if 0x0300 ≤ off ∧ off < 0x0320 then s.leases.lossAction.getD ((off - 0x0300) / 4) 0
  else if off = 0x0400 then n.written.lossMs + bitAt 10 n.written.lossStop
  else if off = 0x0404 then bitAt 0 n.sfpArmed + bitAt 1 n.sfpLoss + n.sfpSeqErr * 256 + n.sfpCrcErr * 65536
  else if off = 0x0408 then n.mntErr
  else if off = 0x0410 then n.contended + n.notHolder * 65536
  else if off = 0x0500 then n.written.hpbIp.toNat
  else if off = 0x0504 then n.written.word
  else if off = 0x0508 then n.written.gw.toNat
  else if off = 0x050C then ofBe (slice s.otp.mac 2 4)
  else if off = 0x0510 then ofBe (slice s.otp.mac 0 2)
  else if off = 0x0514 then ofBe (slice s.otp.clockId 4 4)
  else if off = 0x0518 then ofBe (slice s.otp.clockId 0 4)
  else
    match fourOwner 0x0000 off, fourOwner 0x0040 off, fourOwner 0x0080 off with
    | some p, _, _ => bitAt 0 (s.owner p).session.isSome + bitAt 1 (s.portUp p) + s.leasesOf p * 256
    | _, some p, _ => bitAt 0 (s.owner p).sys
    | _, _, some p => (s.owner p).quotaMib + (s.owner p).quotaTok * 65536
    | _, _, _ =>
      match bankOwner 0x0220 off, bankOwner 0x0240 off with
      | some p, _ => s.leaseWord 7 (Port.id p)
      | _, some p => s.leases.tags.get p + s.leases.cores.get p * 256 + s.coresEff p * 65536
      | _, _ => 0

/-- A value a word of the block accepts. -/
def ownersCheck (off v : Nat) : Bool :=
  if 0x0300 ≤ off ∧ off < 0x0320 then v % 4 != 3
  else if off = 0x0400 then between 1 (bits 9 0 v) 1000
  else if off = 0x0504 then between 8 (bits 29 24 v) 30
  else
    match fourOwner 0x0080 off with
    | some p => p == 2 || (decide (bits 15 0 v ≤ 30720) && decide (bits 30 16 v ≤ 16384))
    | none => true

/-- Write a network setting: it takes effect within 1 ms of its own tick, so the oldest write not yet in force sets the limit
(R106). -/
def State.netWrite (s : State) (f : NetCfg → NetCfg) : State :=
  s.updNet fun n => { n with written := f n.written, writtenAt := some (n.writtenAt.getD s.now) }

def ownersWrite (s : State) (off v : Nat) : State :=
  if 0x0300 ≤ off ∧ off < 0x0320 then
    { s with leases := { s.leases with lossAction := bankSet s.leases.lossAction (Fin.ofNat 8 ((off - 0x0300) / 4)) (v % 4) } }
  else if off = 0x0400 then s.netWrite fun c => { c with lossMs := bits 9 0 v, lossStop := v.testBit 10 }
  else if off = 0x0404 then s.updNet fun n => { n with sfpLoss := n.sfpLoss && !v.testBit 1 }
  else if off = 0x0500 then s.netWrite fun c => { c with hpbIp := word v }
  else if off = 0x0504 then
    s.netWrite fun c =>
      { c with mode := v.testBit 0, jumbo := v.testBit 1, vlanEn := v.testBit 2, vid := bits 15 4 v, pcp := bits 18 16 v,
               phyAddr := bits 23 19 v, pfx := bits 29 24 v }
  else if off = 0x0508 then s.netWrite fun c => { c with gw := word v }
  else
    match fourOwner 0x0040 off, fourOwner 0x0080 off with
    | some p, _ => if p = 3 then s else s.updOwner p fun o => { o with sys := v.testBit 0 }
    | _, some p => if p = 2 then s else s.updOwner p fun o => { o with quotaMib := bits 15 0 v, quotaTok := bits 30 16 v }
    | _, _ => s

/-! ## The block map (Table 6-8) -/

/-- A transport counter (Table 6-9). -/
def xportRead (s : State) (off : Nat) : Nat :=
  if h : 0x308 ≤ off ∧ off < 0x328 then
    let o := s.owner ⟨(off - 0x308) / 8, by omega⟩
    if off % 8 = 0 then o.cntAuth + o.cntReplay * 65536 else o.cntLost + o.cntDup * 65536
  else 0

/-- The word at an address: 0 where no table assigns a register (R10). -/
def State.regWord (s : State) (addr : Nat) : Nat :=
  let off := addr % 0x10000
  match addr / 0x10000 with
  | 0x0 => if off < 0x30 then idRead s off else if off < 0x300 then thermRead s off else xportRead s off
  | 0x1 => if off < 0x400 then fabricRead s off else coresRead s off
  | 0x2 => bootRead s off
  | 0x3 => ownersRead s off
  | 0x4 => if off < 0x100 then memRead s off else keysRead s off
  | 0x5 => jobsRead s off
  | 0x6 => headboxRead s off
  | 0x7 => sensorsRead s off
  | 0x8 => tbRead s off
  | 0x9 => timersRead s off
  | 0xA => axesRead s off
  | 0xB => obsRead s off
  | 0xC => illumRead s off
  | 0xD => lbusRead s off
  | 0xE => radioRead s off
  | 0xF => linkRead s off
  | 0x10 => safetyRead s off
  | _ => 0

/-- What reading an address latches (RLATCH, R9), and the free values a counting link test unit used up. -/
def State.regLatch (s : State) (addr : Nat) : State :=
  let off := addr % 0x10000
  match addr / 0x10000 with
  | 0x7 => sensorsLatch s off
  | 0x8 => tbLatch s off
  | 0x9 => timersLatch s off
  | 0xF => let s1 := linkLatch s off
           { s1 with free := s1.free + 6 }
  | _ => s

/-- E_PARAM unless a value is accepted. -/
def inRange (b : Bool) : Nat := if b then stOk else eParam

/-- Status a value earns at an address, its range and the state it needs. -/
def State.regStatus (s : State) (p : Port) (addr v : Nat) : Nat :=
  let off := addr % 0x10000
  match addr / 0x10000 with
  | 0x0 => inRange (thermCheck off v)
  | 0x1 => if off < 0x400 then fabricCheck s off v else inRange (coresCheck off v)
  | 0x3 => inRange (ownersCheck off v)
  | 0x4 => if off < 0x100 then inRange (memCheck off v) else keysCheck s p off v
  | 0x6 => inRange (headboxCheck s off v)
  | 0x7 => sensorsCheck s off
  | 0x8 => inRange (tbCheck off v)
  | 0x9 => inRange (timersCheck off v)
  | 0xA => axesCheck s off v
  | 0xB => inRange (obsCheck off v)
  | 0xC => inRange (illumCheck s off v)
  | 0xF => linkCheck s off v
  | 0x10 => inRange (safetyCheck off v)
  | _ => stOk

/-- Write a value that was accepted. -/
def State.regPut (s : State) (p : Port) (addr v : Nat) : State :=
  let off := addr % 0x10000
  match addr / 0x10000 with
  | 0x0 => thermWrite s off v
  | 0x1 => if off < 0x400 then fabricWrite s off v else coresWrite s off v
  | 0x3 => ownersWrite s off v
  | 0x4 => if off < 0x100 then memWriteReg s off v else keysWrite s p off v
  | 0x5 => jobsWrite s off v
  | 0x6 => headboxWrite s off v
  | 0x7 => sensorsWrite s off v
  | 0x8 => tbWrite s off v
  | 0x9 => timersWrite s off v
  | 0xA => axesWrite s off v
  | 0xB => obsWrite s off v
  | 0xC => illumWrite s off v
  | 0xD => lbusWrite s off v
  | 0xE => radioWrite s off v
  | 0xF => linkWrite s off v
  | 0x10 => safetyWrite s off v
  | _ => s

/-- The class and index of the resource an address belongs to: (0, 0) for none (R110). -/
def regResource (addr : Nat) : Nat × Nat :=
  let off := addr % 0x10000
  let k := off / 0x1000
  let o := off % 0x1000
  match addr / 0x10000 with
  | 0x3 => if 0x0300 ≤ off ∧ off < 0x0320 then (1, (off - 0x0300) / 4) else (0, 0)
  | 0x6 | 0x7 => if k < 6 then (4, k) else (0, 0)
  | 0x9 => if k < 8 then (1, k) else if 10 ≤ k then (6, k) else (0, 0)
  | 0xA | 0xB => if k < 8 then (1, k) else (0, 0)
  | 0xC => if k < 8 then (2, k) else if k = 8 then (3, 0) else (0, 0)
  | 0xF =>
    if k < 8 ∧ 0x800 ≤ o ∧ o < 0x810 then (1, k)
    else if k < 8 ∧ 0x900 ≤ o ∧ o < 0x918 then (2, k)
    else if k < 10 then (8, k) else (4, k - 10)
  | _ => (0, 0)

/-- Flags cleared by writing 1 in the word at an address. -/
def regW1c (addr : Nat) : Nat :=
  if addr = 0x0000024C then 8
  else if addr = 0x00000258 then 3
  else if addr = 0x00010200 then 16
  else if addr = 0x00030404 then 2
  else if addr = 0x00040100 then 4
  else if addr / 0x10000 = 0x9 ∧ addr % 0x1000 = 0x084 then 2
  else if addr / 0x8000 = 0x18 ∧ addr % 0x1000 = 0x00C then 3
  else if addr = 0x000C8004 then 2
  else 0

/-- The addresses of a command. -/
def regAddrs (addr count : Nat) : List Nat := (List.range count).map fun i => addr + 4 * i

/-! ## Address form and rights (step 10 of Table 6-3) -/

/-- Multiple of 4, every register in one block of Table 6-8; a COUNT of 0 counts as 1. -/
def regFormOk (addr count : Nat) : Bool :=
  addr % 4 == 0 && decide (addr < 0x110000) && decide ((addr + 4 * (max 1 count - 1)) / 0x10000 = addr / 0x10000)

/-- The owner may write the register at an address (R53, R88, R106, R170, R215). -/
def State.regRight (s : State) (p : Port) (addr : Nat) : Bool :=
  let off := addr % 0x10000
  let sys := p == 3 || (s.owner p).sys
  if regResource addr ≠ (0, 0) then true
  else if addr = 0x00010300 then p == 3
  else if addr / 0x10000 = 0x3 ∧ (fourOwner 0x0040 off).isSome then p == 3
  else if addr / 0x10000 = 0x4 ∧ 0x0140 ≤ off ∧ off < 0x014C then true
  else if addr / 0x10000 = 0x5 then
    match jobsWriter off with
    | some q => p == q
    | none => sys
  else sys

/-! ## The commands -/

/-- Statuses of a run of writes, each judged on the state its predecessors leave, and that state. -/
def State.tryWrites (s : State) (p : Port) : List (Nat × Nat) → State × List Nat
  | [] => (s, [])
  | w :: ws =>
    let r := (s.regPut p w.1 w.2).tryWrites p ws
    (r.1, s.regStatus p w.1 w.2 :: r.2)

/-- The RESULT of a CAM_COMMIT that fails is recorded although its command writes nothing (R218). -/
def State.noteCam (s : State) (p : Port) : List (Nat × Nat) → State → State
  | [], acc => acc
  | w :: ws, acc =>
    let off := w.1 % 0x10000
    let acc1 :=
      if h : w.1 / 0x10000 = 0x6 ∧ off < 0x6000 then
        if headboxCheck s off w.2 then acc
        else
          let k : Fin 6 := ⟨off / 0x1000, by omega⟩
          acc.updCam k fun x => { x with result := camCheck (s.headbox.cam.get k).shadow }
      else acc
    (s.regPut p w.1 w.2).noteCam p ws acc1

/-- The status of a whole write, and the state it leaves: every value is judged before any is written (R139). -/
def State.regWrites (s : State) (p : Port) (cls idx : Nat) (ws : List (Nat × Nat)) : State × Nat :=
  let r := s.tryWrites p ws
  if ws.any fun w => regResource w.1 != (cls, idx) then (s, eParam)
  else if r.2.any (· == eParam) || (ws.any (fun w => w.1 / 0x10000 == 9) && !timersOk r.1) then (s.noteCam p ws s, eParam)
  else
    match r.2.find? (· != stOk) with
    | some e => (s, e)
    | none => (r.1, stOk)

/-- REG_READ of COUNT registers, in address order. -/
def State.regReads (s : State) : List Nat → State × Bytes
  | [] => (s, [])
  | a :: as =>
    let v := s.regWord a
    let r := (s.regLatch a).regReads as
    (r.1, le 4 v ++ r.2)

/-- REG_READ (R139). -/
def doRegRead (t : Ticket) (addr count : Word) (s : State) : State :=
  if count.toNat = 0 ∨ 256 < count.toNat then s.reply t eParam []
  else
    let r := s.regReads (regAddrs addr.toNat count.toNat)
    r.1.reply t stOk r.2

/-- REG_WRITE (R139). -/
def doRegWrite (t : Ticket) (w : RegWriteP) (s : State) : State :=
  if w.count.toNat = 0 ∨ 64 < w.count.toNat then s.reply t eParam []
  else
    let ws := (regAddrs w.addr.toNat w.count.toNat).zip (w.values.map BitVec.toNat)
    let r := s.regWrites t.hdr.port t.hdr.cls.toNat t.hdr.idx.toNat ws
    r.1.reply t r.2 []

/-- REG_MODIFY (R11): one access, a read with its side effects and a write of the masked bits. -/
def doRegModify (t : Ticket) (addr mask value : Word) (s : State) : State :=
  let a := addr.toNat
  let old := word (s.regWord a)
  let new := ((old &&& ~~~ mask) &&& ~~~ word (regW1c a)) ||| (value &&& mask)
  let r := (s.regLatch a).regWrites t.hdr.port t.hdr.cls.toNat t.hdr.idx.toNat [(a, new.toNat)]
  if r.2 = stOk then State.reply { r.1 with free := r.1.free + 6 } t stOk (le 4 old.toNat ++ le 4 (r.1.regWord a))
  else
    -- nothing is accessed by a command that is turned away, but for a CAM_COMMIT's RESULT
    let r2 := s.regWrites t.hdr.port t.hdr.cls.toNat t.hdr.idx.toNat [(a, new.toNat)]
    r2.1.reply t r.2 []

end Sys2Proof.Machine
end

