-- ==== Sys2Proof/Machine/Serve.lean ====
section
/-! DEFINITION. The checks a Psiesk command passes (Table 6-3), its arbitration (Table 5-7), and its effect
(04_start_measurement_versions.md R62 to R64; 05_owners_ports_leases.md R86 to R88, R100, R103, R104;
06_command_transport.md R110 to R120, R128). -/

namespace Sys2Proof.Machine

/-! ## Step 1: the port carries the packet -/

/-- A packet of any content shows that its port is alive: MNT is up, SFP is armed and not lost (R96, Table 5-8). -/
def State.carried (s : State) (p : Port) : State :=
  if s.boot.step = .held then s
  else if p = 3 then s.updNet fun n => { n with mntUp := true }
  else if p = 2 then s.updNet fun n => { n with sfpArmed := true, sfpLost := false, sfpValidAt := s.now }
  else s

/-- The port takes packets: out of BOOT (R62), its link up (R91), not under test (R450), its clock running (Table 4-2). -/
def State.portTakes (s : State) (p : Port) : Bool :=
  s.boot.step != .held && s.boot.dev != .boot && !s.portTested p && s.portClocked p
    && (if p = 0 then s.hpa.linkUp && s.hpa.en && s.boot.dev != .recovery
        else if p = 1 then s.net.ethUp && s.boot.dev != .recovery else true)

/-- Commands SFP is answered in RECOVERY; the others are discarded (Table 4-2). -/
def sfpInRecovery (c : Cmd) : Bool :=
  match c with
  | .safeStop _ _ | .safeStatus => true
  | _ => false

/-! ## Steps 2 to 8 -/

/-- Steps 3 and 4. -/
def headFault (h : Hdr) : Option Nat :=
  if h.version ≠ 2 then some eVersion
  else if h.owner.toNat ≠ Port.id h.port then some ePort
  else if h.dup ∨ h.event ∨ h.bit7 then some eParam
  else none

/-- No command needs a session in these states (R63). -/
def DevState.sessionless (d : DevState) : Bool :=
  d == .restricted || d == .recovery || d == .hwFault || d == .retired

/-- A command that may come outside a session (Table 6-4, R87). -/
def State.freeCmd (s : State) (p : Port) (c : Cmd) : Bool :=
  s.boot.dev.sessionless ||
    match c with
    | .hello | .openSession _ | .getWatermark _ | .getCerts _ _ => true
    | .safeStop _ _ | .safeStatus => p == 2
    | _ => false

/-- What steps 6 and 7 make of a command: a status, or the session it belongs to (R112, R113). -/
inductive Entry where
  | refuse (status : Nat)
  | outside
  | inside (serial : Nat)
  deriving DecidableEq, Repr

/-- Steps 6 and 7. -/
def State.entry (s : State) (h : Hdr) (c : Cmd) : Entry :=
  let free := s.freeCmd h.port c
  match (s.owner h.port).session with
  | none =>
    if ¬ free then .refuse eNoSession
    else if h.enc then .refuse eParam
    else if h.key = .zeroKey then .outside
    else .refuse eAuth
  | some ses =>
    if h.key = .sessionKey then .inside ses.serial
    else if free ∧ ¬ h.enc ∧ h.key = .zeroKey then .outside
    else .refuse eAuth

/-- What step 8 makes of a sequence number (R116). -/
inductive SeqVerdict where
  | accept
  | resend (p : Packet)
  | discard
  | replay
  deriving DecidableEq, Repr

/-- Step 8. A duplicate in the tick its reply is sent is discarded (R128). -/
def Session.judgeSeq (ses : Session) (q now : Nat) : SeqVerdict :=
  if q = 0 then .replay
  else if ses.high < q then .accept
  else if ses.high < q + 64 then
    match ses.cache.find? fun e => e.seq == q with
    | some ⟨_, some p, sent⟩ => if sent < now then .resend p else .discard
    | some ⟨_, none, _⟩ => .discard
    | none => .replay
  else .replay

/-- A sequence number is accepted: the command is outstanding; 0xFFFF_FFFF ends the session when all is answered. -/
def Session.took (ses : Session) (q : Nat) : Session :=
  { ses with high := q, cache := cachePut q ses.cache, outstanding := ses.outstanding + 1,
             ending := ses.ending || q == 0xFFFFFFFF }

/-! ## Steps 9 to 11 -/

/-- Commands answered in RESTRICTED and HW_FAULT (Table 4-2); a REG_READ lies in the DEVICE block (R139). -/
def inRestricted (c : Cmd) : Bool :=
  match c with
  | .hello | .getWatermark _ | .getCerts _ _ | .fwStage _ | .fwCommit _ _ | .resetDevice _ | .linkTestStart _
  | .linkTestResult | .safeStop _ _ | .safeRelease _ | .safeStatus => true
  | .regRead a n => decide (a.toNat + 4 * (max 1 n.toNat - 1) < 0x10000)
  | _ => false

/-- Commands answered in EARLY (Table 4-2). -/
def inEarly (c : Cmd) : Bool :=
  match c with
  | .hello | .openSession _ | .closeSession | .getWatermark _ | .getCerts _ _ | .ping _ | .eventSubscribe _ _
  | .regRead _ _ | .safeStop _ _ | .safeRelease _ | .safeStatus => true
  | _ => false

/-- Commands answered in SHUTDOWN (R34, R58). -/
def inShutdown (c : Cmd) : Bool :=
  match c with
  | .hello | .getWatermark _ | .getCerts _ _ | .safeStop _ _ | .safeStatus | .regRead _ _ | .resetDevice _ => true
  | _ => false

/-- Commands answered in RETIRED (Table 4-2). -/
def inRetired (c : Cmd) : Bool :=
  match c with
  | .hello | .getWatermark _ | .getCerts _ _ | .safeStop _ _ | .safeStatus => true
  | _ => false

/-- Commands answered on MNT in RECOVERY (Table 4-2). -/
def inRecovery (p : Port) (c : Cmd) : Bool :=
  match c with
  | .hello | .getWatermark _ | .getCerts _ _ | .fwStage _ | .fwCommit _ _ | .resetDevice _ => p == 3
  | .safeStop _ _ | .safeStatus => p == 2
  | _ => false

/-- Step 9: the status of a command its DEV_STATE does not answer. -/
def DevState.refuses (d : DevState) (p : Port) (c : Cmd) : Option Nat :=
  match d with
  | .full => none
  | .boot => some eBusy
  | .early => if inEarly c then none else some eBusy
  | .restricted => if inRestricted c then none else some eRestricted
  | .hwFault => if inRestricted c then none else some eHwFault
  | .recovery => if inRecovery p c then none else some eRestricted
  | .retired => if inRetired c then none else some eRestricted
  | .shutdown => if inShutdown c then none else some eHwFault

/-- Step 10: the owner may send the opcode (R64, R86, Table 7-1). -/
def State.ownerMay (s : State) (p : Port) (c : Cmd) : Bool :=
  match c with
  | .hello | .openSession _ | .closeSession | .getWatermark _ | .getCerts _ _ | .ping _ | .eventSubscribe _ _ | .safeStatus
  | .leaseQuery | .axisStatus | .timeGet => true
  | .safeStop _ _ | .safeRelease _ => p == 2
  | .fwStage _ | .fwCommit _ _ | .resetDevice _ => p == 0 || p == 3
  | .timeRefSelect _ | .pulseConfig _ | .radioConfig _ => p != 2 && (p == 3 || (s.owner p).sys)
  | _ => p != 2

/-- Step 10: form and rights of a register command's addresses (R88, R139). -/
def State.addrFault (s : State) (p : Port) (c : Cmd) : Option Nat :=
  match c with
  | .regRead a n => if regFormOk a.toNat n.toNat then none else some eParam
  | .regWrite w =>
    if ¬ regFormOk w.addr.toNat w.count.toNat then some eParam
    else if (regAddrs w.addr.toNat (max 1 w.count.toNat)).all (s.regRight p) then none else some ePort
  | .regModify a _ _ =>
    if ¬ regFormOk a.toNat 1 then some eParam else if s.regRight p a.toNat then none else some ePort
  | _ => none

/-- Steps 9 and 10. -/
def State.lateFault (s : State) (p : Port) (c : Cmd) : Option Nat :=
  match s.boot.dev.refuses p c with
  | some e => some e
  | none => if ¬ s.ownerMay p c then some ePort else s.addrFault p c

/-- Commands of an owner not yet answered. -/
def State.outstanding (s : State) (p : Port) : Nat := ((s.owner p).session.map (·.outstanding)).getD 0

/-- Step 11: the owner had 64 outstanding commands before this one, which counts among them now. It is judged for good at the
end of its tick, once the replies of the tick are counted (Table 6-10). -/
def State.crowded (s : State) (p : Port) (serial : Option Nat) : Bool := serial.isSome && decide (64 < s.outstanding p)

/-! ## Step 12 -/

/-- The class and index of a header's resource as the command requires them (Table 6-2, R142, R284, R315, R318, R413). -/
def resourceOk (h : Hdr) (c : Cmd) : Bool :=
  let cls := h.cls.toNat
  let idx := h.idx.toNat
  match c with
  | .axisConfig _ | .axisEnable _ _ | .axisCommand _ | .axisStop _ | .observerLoad _ | .axisStatus => cls == 1 && decide (idx < 8)
  | .lightGroupConfig _ | .lightSet _ | .strobeArm _ | .gearConfig _ => cls == 2 && decide (idx < 8)
  | .matrixFrame _ => cls == 3 && idx == 0
  | .sensorConfig _ | .sensorArm _ | .sensorDisarm _ => cls == 4 && decide (idx < 6)
  | .tagAdmit _ | .tagExpel | .tagSend _ | .tagEventsFetch _ => cls == 5 && decide (idx < 32)
  | .linkTestStart _ | .linkTestResult => (cls == 8 && decide (idx < 10)) || (cls == 4 && decide (idx < 6))
  | .jobSubmit _ => cls == 7 && idx == Port.id h.port
  | .leaseTake _ | .leaseRenew _ | .leaseRelease | .leaseQuery => leasable cls idx
  | .memAlloc _ _ | .memFree _ | .memWrite _ _ _ | .memRead _ _ _ | .memFill _ _ _ _ | .graphLoad _ _ _ | .graphUnload _
  | .jobCancel _ | .jobStatus _ _ | .resultFetch _ _ _ _ | .tokenAlloc _ | .tokenSignal _ _ | .tokenWait _ _ _
  | .tokenFree _ | .timeGet | .timeRefSelect _ | .pulseConfig _ | .radioConfig _ | .safeStop _ _ | .safeRelease _
  | .safeStatus => cls == 0 && idx == 0
  | _ => (cls == 0 && idx == 0) || leasable cls idx

/-- What step 12 finds before the fields themselves: the resource, the length and zeros of the payload, and a largest
reply beyond the port's limit (R122). -/
def State.formFault (s : State) (a : Arrival) : Option Nat :=
  if ¬ resourceOk a.hdr a.cmd then some eParam
  else
    match a.bad with
    | some e => some e
    | none => if s.maxPacket a.hdr.port < largestReply a.cmd then some eParam else none

/-- The reply buffer of an SQ entry is too small (R124). -/
def bufferShort (a : Arrival) : Bool :=
  match a.hdr.via with
  | .ring _ cap _ => decide (cap < largestReply a.cmd)
  | _ => false

/-! ## Step 13: leases and units under test -/

/-- The command needs the lease its header names (Table 5-6, R63). -/
def State.needsLease (s : State) (h : Hdr) (c : Cmd) : Bool :=
  match c with
  | .axisConfig _ | .axisEnable _ _ | .axisCommand _ | .axisStop _ | .observerLoad _ | .lightGroupConfig _ | .lightSet _
  | .strobeArm _ | .gearConfig _ | .matrixFrame _ | .sensorConfig _ | .sensorArm _ | .sensorDisarm _ | .tagAdmit _
  | .tagExpel | .tagSend _ | .tagEventsFetch _ => true
  | .linkTestStart _ => !s.boot.dev.sessionless
  | .regWrite _ | .regModify _ _ _ => h.cls != 0
  | _ => false

/-- Commands that wait for the loss action of an axis (R103). -/
def waitsLoss (h : Hdr) (c : Cmd) : Bool :=
  match c with
  | .axisConfig _ | .axisEnable _ _ | .axisCommand _ | .observerLoad _ => true
  | .regWrite _ | .regModify _ _ _ => h.cls == 1
  | _ => false

/-- The loss action of the axis a header names still runs. -/
def State.lossRuns (s : State) (h : Hdr) : Bool :=
  if h.cls = 1 then (s.axes.get (Fin.ofNat 8 h.idx.toNat)).lossRunning else false

/-- Register blocks the felt link serves (Table 22-5). -/
def feltBlock (addr : Nat) : Bool := let b := addr / 0x10000; decide (9 ≤ b) && decide (b ≤ 14)

/-- Commands the felt link carries. -/
def usesFelt (c : Cmd) : Bool :=
  match c with
  | .axisConfig _ | .axisEnable _ _ | .axisCommand _ | .axisStop _ | .observerLoad _ | .axisStatus | .lightGroupConfig _
  | .lightSet _ | .strobeArm _ | .gearConfig _ | .matrixFrame _ | .radioConfig _ | .tagAdmit _ | .tagExpel | .tagSend _
  | .tagEventsFetch _ => true
  | .regRead a _ => feltBlock a.toNat
  | .regWrite w => feltBlock w.addr.toNat
  | .regModify a _ _ => feltBlock a.toNat
  | _ => false

/-- Memory commands of an HBM region. -/
def State.usesHbm (s : State) (p : Port) (c : Cmd) : Bool :=
  let hbm (r : Word) : Bool := match s.region p r.toNat with
    | some x => x.place == .hbm
    | none => false
  match c with
  | .memAlloc _ place => place == 0
  | .memFree r | .memWrite r _ _ | .memRead r _ _ | .memFill r _ _ _ => hbm r
  | _ => false

/-- A command a unit under test holds off (Table 22-5). -/
def State.testHolds (s : State) (p : Port) (c : Cmd) : Bool :=
  ((s.underTest 2 || s.underTest 3) && s.usesHbm p c) || (s.underTest 4 && usesFelt c)
    || (s.underTest 9 && match c with
        | .fwStage _ | .fwCommit _ _ => true
        | _ => false)

/-- What turns away a command whose fields are in order: reply buffer, lease, loss action, unit under test. -/
def State.gate (s : State) (a : Arrival) : Option Nat :=
  if bufferShort a then some eLength
  else if s.needsLease a.hdr a.cmd ∧ ¬ s.holds a.hdr.port a.hdr.cls.toNat a.hdr.idx.toNat then some eNotHolder
  else if waitsLoss a.hdr a.cmd ∧ s.lossRuns a.hdr then some eState
  else if s.testHolds a.hdr.port a.cmd then some eBusy
  else none

/-! ## The effect -/

/-- The link test unit a header names (Table 22-1). -/
def testUnit (h : Hdr) : Fin 16 := Fin.ofNat 16 (if h.cls = 8 then h.idx.toNat else 10 + h.idx.toNat)

/-- LINK_TEST_START, which also makes PTP on HPB invalid while HPB is tested (R450). -/
def serveLinkTest (t : Ticket) (p : LinkStartP) (s : State) : State :=
  let u := testUnit t.hdr
  let s1 := doLinkTestStart t u p s
  if u = 1 ∧ s1.underTest 1 ∧ ¬ s.underTest 1 then s1.losePtp else s1

/-- The effect of a command that has passed every check, with its reply. -/
def perform (t : Ticket) (c : Cmd) (s : State) : State :=
  let g : Fin 8 := Fin.ofNat 8 t.hdr.idx.toNat
  let i : Fin 32 := Fin.ofNat 32 t.hdr.idx.toNat
  match c with
  | .hello => doHello t s
  | .openSession p => doOpenSession t p s
  | .closeSession => doCloseSession t s
  | .getWatermark n => doGetWatermark t n s
  | .getCerts o n => doGetCerts t o n s
  | .leaseTake p => doLeaseTake t p s
  | .leaseRenew p => doLeaseRenew t p s
  | .leaseRelease => doLeaseRelease t s
  | .leaseQuery => doLeaseQuery t s
  | .regRead a n => doRegRead t a n s
  | .regWrite w => doRegWrite t w s
  | .regModify a m v => doRegModify t a m v s
  | .memAlloc n p => doMemAlloc t n p s
  | .memFree r => doMemFree t r s
  | .memWrite r o d => doMemWrite t r o d s
  | .memRead r n o => doMemRead t r n o s
  | .memFill r v o n => doMemFill t r v o n s
  | .graphLoad r o n => doGraphLoad t r o n s
  | .graphUnload x => doGraphUnload t x s
  | .jobSubmit p => doJobSubmit t p s
  | .jobCancel x => doJobCancel t x s
  | .jobStatus x r => doJobStatus t x r s
  | .resultFetch x r f n => doResultFetch t x r f n s
  | .tokenAlloc v => doTokenAlloc t v s
  | .tokenSignal x n => doTokenSignal t x n s
  | .tokenWait x n w => doTokenWait t x n w s
  | .tokenFree x => doTokenFree t x s
  | .sensorConfig p => doSensorConfig t p s
  | .sensorArm p => doSensorArm t p s
  | .sensorDisarm m => doSensorDisarm t m s
  | .timeGet => doTimeGet t s
  | .timeRefSelect p => doTimeRefSelect t p s
  | .pulseConfig p => doPulseConfig t p s
  | .axisConfig p => doAxisConfig t p s
  | .axisEnable e r => doAxisEnable t e r s
  | .axisCommand p => doAxisCommand t p s
  | .axisStop x => doAxisStop t x s
  | .observerLoad p => doObserverLoad t p s
  | .axisStatus => doAxisStatus t s
  | .lightGroupConfig p => doLightGroupConfig t g p s
  | .lightSet p => doLightSet t g p s
  | .strobeArm p => doStrobeArm t g p s
  | .matrixFrame p => doMatrixFrame t p s
  | .gearConfig p => doGearConfig t g p s
  | .radioConfig p => doRadioConfig t p s
  | .tagAdmit p => doTagAdmit t i p s
  | .tagExpel => doTagExpel t i s
  | .tagSend p => doTagSend t i p s
  | .tagEventsFetch n => doTagEventsFetch t i n.toNat s
  | .linkTestStart p => serveLinkTest t p s
  | .linkTestResult => doLinkTestResult t (testUnit t.hdr) s
  | .safeStop m x => doSafeStop t m x s
  | .safeRelease m => doSafeRelease t m s
  | .safeStatus => doSafeStatus t s
  | .fwStage p => doFwStage t p s
  | .fwCommit x k => doFwCommit t x k s
  | .resetDevice d => doResetDevice t d s
  | .eventSubscribe m e => doEventSubscribe t m e s
  | .ping d => doPing t d s

/-- The status a state holds for a command already answered. -/
def State.answered (s : State) (t : Ticket) : Option Nat :=
  match t.serial with
  | none =>
    match s.out.getLast? with
    | some (Out.reply _ _ p _) => some p.last
    | _ => none
  | some n =>
    match (s.owner t.hdr.port).session with
    | some ses =>
      if ses.serial = n then
        match ses.cache.find? fun e => e.seq == t.hdr.seq.toNat with
        | some e => e.reply.map (·.last)
        | none => none
      else none
    | none => none

/-- The ticket of a command. -/
def Arrival.ticket (a : Arrival) : Ticket := ⟨a.hdr, a.cmd.opcode, a.serial⟩

/-- A command is refused; the reply of an FW_COMMIT closes the stage (R147). -/
def State.turnAway (s : State) (t : Ticket) (c : Cmd) (e : Nat) : State :=
  match c with
  | .fwCommit _ _ => s.closeStage.reply t e []
  | _ => s.reply t e []

/-- Steps 12 and 13 and the effect. A field out of range answers before the reply buffer, the lease and the rest, and has no
effect. A command that waits for the end of its tick when the device enters SHUTDOWN is answered as outstanding (R34). -/
def State.act (s : State) (a : Arrival) : State :=
  let t := a.ticket
  if s.boot.dev = .shutdown ∧ ¬ inShutdown a.cmd then s.turnAway t a.cmd eHwFault
  else
    match s.formFault a with
    | some e => s.turnAway t a.cmd e
    | none =>
      match s.gate a with
      | none => perform t a.cmd s
      | some e =>
        s.turnAway t a.cmd (if (perform t a.cmd s).answered t = some eParam then eParam else e)

/-- Commands over the limit of 64, in their order: accepted where a reply of the tick has made room (Table 6-10). -/
def State.actOver (s : State) : List Arrival → State
  | [] => s
  | a :: rest =>
    let later := (rest.filter fun b => b.hdr.port == a.hdr.port).length
    State.actOver (if a.serial.isSome ∧ 64 + later < s.outstanding a.hdr.port then s.turnAway a.ticket a.cmd eBusy else s.act a)
      rest

/-! ## Intake -/

/-- Steps 9 to 11 for a command in a session or outside one. Table 7-13 lets every E_PORT be a zero-key reply that is not
cached, while R111 and R116 send every reply of step 9 or later under the command's key and cache it: the model follows R111
and R116 for the E_PORT of step 10. DESIGN CHOICE, notes/assumptions/6. -/
def State.late (s : State) (h : Hdr) (c : Cmd) (bad serial : Option Nat) : State × Option Arrival :=
  match s.lateFault h.port c with
  | some e => (s.turnAway ⟨h, c.opcode, serial⟩ c e, none)
  | none => (s, some ⟨h, serial, c, bad, s.crowded h.port serial⟩)

/-- Steps 6 to 11 for a command whose header is in order. A duplicate on HPA has its cached reply written whole, whatever
RSP_CAP its SQ entry gives, since the buffer is checked only at step 12: the manual does not say so of a duplicate. DESIGN
CHOICE, notes/assumptions/5. -/
def State.intake (s : State) (h : Hdr) (c : Cmd) (bad : Option Nat) : State × Option Arrival :=
  match s.entry h c with
  | .refuse e => (s.plainReply h c.opcode e [], none)
  | .outside => s.late h c bad none
  | .inside n =>
    match (s.owner h.port).session with
    | none => (s, none)
    | some ses =>
      match ses.judgeSeq h.seq.toNat s.now with
      | .accept => (s.updSession h.port fun x => x.took h.seq.toNat).late h c bad (some n)
      | .resend p =>
        ((s.updOwner h.port fun o => { o with cntDup := satInc 65535 o.cntDup }).transmit h.port h.via { p with dup := true },
          none)
      | .discard => (s.dropPacket h, none)
      | .replay => (s.plainReply h c.opcode eReplay [], none)

/-- The carriage of a row as the model keeps it. -/
def State.via (s : State) (v : Carriage) : Carriage :=
  match v with
  | .ring ix cap addr => .ring (s.hpa.slot ix) cap addr
  | v => v

/-- Steps 1 to 11 for a command named by its row. -/
def State.receive (s0 : State) (h0 : Hdr) (c : Cmd) : State × Option Arrival :=
  let s := s0.carried h0.port
  let h := { h0 with via := s.via h0.via }
  if ¬ h.viaOk ∨ ¬ s.portTakes h.port ∨ (h.port = 2 ∧ s.boot.dev = .recovery ∧ ¬ sfpInRecovery c) then (s, none)
  else if s.maxPacket h.port < 32 + payloadSize c then
    -- beyond the port's limit: answered on HPA, discarded by the framing of the other ports
    if h.port = 0 then (s.plainReply h c.opcode eLength [], none) else (s, none)
  else
    match headFault h with
    | some e => (s.plainReply h c.opcode e [], none)
    | none => s.intake h c (if c.wf then none else some eLength)

/-- A command of a row: it acts as it arrives, but for one over the limit of 64, which waits for the end of its tick. -/
def State.serve (s : State) (h : Hdr) (c : Cmd) : State :=
  let r := s.receive h c
  (match r.2 with
   | none => r.1
   | some a => if a.extra then { r.1 with arrivals := r.1.arrivals ++ [a] } else r.1.act a).finish

/-! ## Arbitration of one tick (Table 5-7) -/

/-- Commands of step 3 that release. -/
def cmdReleases : Cmd → Bool
  | .leaseRelease | .closeSession => true
  | _ => false

def cmdIsStop : Cmd → Bool
  | .safeStop _ _ => true
  | _ => false

def cmdIsSafeRelease : Cmd → Bool
  | .safeRelease _ => true
  | _ => false

def cmdIsTake : Cmd → Bool
  | .leaseTake _ => true
  | _ => false

def cmdIsRenew : Cmd → Bool
  | .leaseRenew _ => true
  | _ => false

def cmdIsRegPut : Cmd → Bool
  | .regWrite _ | .regModify _ _ _ => true
  | _ => false

/-- Commands of a list act in order; those behind the one that acts are known to wait. -/
def State.actAll (s : State) : List Arrival → State
  | [] => { s with arrivals := [] }
  | a :: rest => State.actAll (State.act { s with arrivals := rest } a) rest

/-- Arrivals by ascending owner, each owner's in their order. -/
def byOwner (as : List Arrival) : List Arrival := (List.finRange 4).flatMap fun p => as.filter fun a => a.hdr.port == p

/-- The commands of an owner up to its last REG_WRITE or REG_MODIFY, and the rest. -/
def firstPass (as : List Arrival) : List Arrival × List Arrival :=
  let tail := as.reverse.takeWhile fun a => !cmdIsRegPut a.cmd
  (as.take (as.length - tail.length), tail.reverse)

/-- Step 6: two passes over the owners. -/
def State.stepSix (s : State) (as : List Arrival) : State :=
  let per := (List.finRange 4).map fun p => firstPass (as.filter fun a => a.hdr.port == p)
  s.actAll (per.flatMap (·.1) ++ per.flatMap (·.2))

/-- Everything that arrived in a tick is settled, in the order of Table 5-7 (R104). -/
def State.settle (s : State) : State :=
  let as := s.arrivals.filter fun a => !a.extra
  let rest := as.filter fun a =>
    !(cmdIsStop a.cmd || cmdIsSafeRelease a.cmd || cmdReleases a.cmd || cmdIsTake a.cmd || cmdIsRenew a.cmd)
  let s1 : State := { s with arrivals := [] }
  let s2 := s1.actAll (as.filter fun a => cmdIsStop a.cmd)
  let s3 := s2.actAll (as.filter fun a => cmdIsSafeRelease a.cmd)
  let s4 := s3.actAll (as.filter fun a => cmdReleases a.cmd)
  let pool (a : Arrival) : Bool := a.hdr.cls == 7
  let own (a : Arrival) : Bool := s4.holds a.hdr.port a.hdr.cls.toNat a.hdr.idx.toNat
  let takes := as.filter fun a => cmdIsTake a.cmd
  let s5 := s4.actAll (as.filter fun a => cmdIsRenew a.cmd || (cmdIsTake a.cmd && own a && !pool a))
  let s6 := s5.actAll (byOwner (takes.filter fun a => !own a && !pool a))
  let s7 := s6.actAll (byOwner (takes.filter pool))
  ((s7.stepSix rest).actOver (s.arrivals.filter (·.extra))).finish

end Sys2Proof.Machine
end

