-- ==== Sys2Proof/Machine/Commands.lean ====
section
/-! DEFINITION. The meaning of every Psiesk command row: the checks of Table 6-3, then its effect (Table 7-1). A row acts in
the tick it is taken in, alone; packets that reach a port byte by byte are settled at the end of their tick. -/

namespace Sys2Proof.Machine

/-- HELLO (R114). -/
def execHello (h : Hdr) (s : State) : Host.Outcome State Fault Refusal :=
  .next (s.serve h (.hello))

/-- OPEN_SESSION (R114). An enrolment that completes in its tick comes first (Table 8-5). -/
def execOpenSession (h : Hdr) (p : OpenP) (s : State) : Host.Outcome State Fault Refusal :=
  .next (if s.enrolComes then s.putOff (.openSession h p) else s.serve h (.openSession p))

/-- CLOSE_SESSION (R120). -/
def execCloseSession (h : Hdr) (s : State) : Host.Outcome State Fault Refusal :=
  .next (s.serve h (.closeSession))

/-- GET_WATERMARK (R75). -/
def execGetWatermark (h : Hdr) (nonce : Bytes) (s : State) : Host.Outcome State Fault Refusal :=
  .next (s.serve h (.getWatermark nonce))

/-- GET_CERTS (R76). -/
def execGetCerts (h : Hdr) (offset length : Word) (s : State) : Host.Outcome State Fault Refusal :=
  .next (s.serve h (.getCerts offset length))

/-- LEASE_TAKE (R101). -/
def execLeaseTake (h : Hdr) (p : LeaseP) (s : State) : Host.Outcome State Fault Refusal :=
  .next (s.serve h (.leaseTake p))

/-- LEASE_RENEW (R101). -/
def execLeaseRenew (h : Hdr) (p : LeaseP) (s : State) : Host.Outcome State Fault Refusal :=
  .next (s.serve h (.leaseRenew p))

/-- LEASE_RELEASE (R101). -/
def execLeaseRelease (h : Hdr) (s : State) : Host.Outcome State Fault Refusal :=
  .next (s.serve h (.leaseRelease))

/-- LEASE_QUERY (R136). -/
def execLeaseQuery (h : Hdr) (s : State) : Host.Outcome State Fault Refusal :=
  .next (s.serve h (.leaseQuery))

/-- REG_READ (R139). -/
def execRegRead (h : Hdr) (addr count : Word) (s : State) : Host.Outcome State Fault Refusal :=
  .next (if s.readWaits addr.toNat count.toNat then s.putOff (.regRead h addr count) else s.serve h (.regRead addr count))

/-- REG_WRITE (R139). -/
def execRegWrite (h : Hdr) (p : RegWriteP) (s : State) : Host.Outcome State Fault Refusal :=
  .next (s.serve h (.regWrite p))

/-- REG_MODIFY (R11). -/
def execRegModify (h : Hdr) (addr mask value : Word) (s : State) : Host.Outcome State Fault Refusal :=
  .next (s.serve h (.regModify addr mask value))

/-- MEM_ALLOC (R154). -/
def execMemAlloc (h : Hdr) (size : BitVec 64) (place : Byte) (s : State) : Host.Outcome State Fault Refusal :=
  .next (s.serve h (.memAlloc size place))

/-- MEM_FREE (R157). -/
def execMemFree (h : Hdr) (region : Word) (s : State) : Host.Outcome State Fault Refusal :=
  .next (s.serve h (.memFree region))

/-- MEM_WRITE (R166). -/
def execMemWrite (h : Hdr) (region : Word) (offset : BitVec 64) (data : Bytes) (s : State) : Host.Outcome State Fault Refusal :=
  .next (s.serve h (.memWrite region offset data))

/-- MEM_READ (R165). -/
def execMemRead (h : Hdr) (region length : Word) (offset : BitVec 64) (s : State) : Host.Outcome State Fault Refusal :=
  .next (s.serve h (.memRead region length offset))

/-- MEM_FILL (R166). -/
def execMemFill (h : Hdr) (region pattern : Word) (offset length : BitVec 64) (s : State) : Host.Outcome State Fault Refusal :=
  .next (s.serve h (.memFill region pattern offset length))

/-- GRAPH_LOAD (R201). -/
def execGraphLoad (h : Hdr) (region : Word) (offset : BitVec 64) (length : Word) (s : State) : Host.Outcome State Fault Refusal :=
  .next (s.serve h (.graphLoad region offset length))

/-- GRAPH_UNLOAD (R142). -/
def execGraphUnload (h : Hdr) (graph : Word) (s : State) : Host.Outcome State Fault Refusal :=
  .next (s.serve h (.graphUnload graph))

/-- JOB_SUBMIT (R142). -/
def execJobSubmit (h : Hdr) (p : SubmitP) (s : State) : Host.Outcome State Fault Refusal :=
  .next (s.serve h (.jobSubmit p))

/-- JOB_CANCEL (R206). -/
def execJobCancel (h : Hdr) (tag : Byte) (s : State) : Host.Outcome State Fault Refusal :=
  .next (s.serve h (.jobCancel tag))

/-- JOB_STATUS (R143). -/
def execJobStatus (h : Hdr) (tag : Byte) (release : Bool) (s : State) : Host.Outcome State Fault Refusal :=
  .next (s.serve h (.jobStatus tag release))

/-- RESULT_FETCH (R249). -/
def execResultFetch (h : Hdr) (tag : Byte) (release : Bool) (first count : Word) (s : State) : Host.Outcome State Fault Refusal :=
  .next (s.serve h (.resultFetch tag release first count))

/-- TOKEN_ALLOC (R144). -/
def execTokenAlloc (h : Hdr) (initial : Word) (s : State) : Host.Outcome State Fault Refusal :=
  .next (s.serve h (.tokenAlloc initial))

/-- TOKEN_SIGNAL (R145). -/
def execTokenSignal (h : Hdr) (token : BitVec 16) (amount : Word) (s : State) : Host.Outcome State Fault Refusal :=
  .next (s.serve h (.tokenSignal token amount))

/-- TOKEN_WAIT (R145). -/
def execTokenWait (h : Hdr) (token : BitVec 16) (amount timeout : Word) (s : State) : Host.Outcome State Fault Refusal :=
  .next (s.serve h (.tokenWait token amount timeout))

/-- TOKEN_FREE (R145). -/
def execTokenFree (h : Hdr) (token : BitVec 16) (s : State) : Host.Outcome State Fault Refusal :=
  .next (s.serve h (.tokenFree token))

/-- SENSOR_CONFIG (R262). -/
def execSensorConfig (h : Hdr) (p : SnsCfgP) (s : State) : Host.Outcome State Fault Refusal :=
  .next (s.serve h (.sensorConfig p))

/-- SENSOR_ARM (R262). -/
def execSensorArm (h : Hdr) (p : SnsArmP) (s : State) : Host.Outcome State Fault Refusal :=
  .next (s.serve h (.sensorArm p))

/-- SENSOR_DISARM (R264). -/
def execSensorDisarm (h : Hdr) (mode : Byte) (s : State) : Host.Outcome State Fault Refusal :=
  .next (s.serve h (.sensorDisarm mode))

/-- TIME_GET (R284). -/
def execTimeGet (h : Hdr) (s : State) : Host.Outcome State Fault Refusal :=
  .next (s.serve h (.timeGet))

/-- TIME_REF_SELECT (R285). -/
def execTimeRefSelect (h : Hdr) (p : TimeRefP) (s : State) : Host.Outcome State Fault Refusal :=
  .next (s.serve h (.timeRefSelect p))

/-- PULSE_CONFIG (R283). -/
def execPulseConfig (h : Hdr) (p : PulseP) (s : State) : Host.Outcome State Fault Refusal :=
  .next (s.serve h (.pulseConfig p))

/-- AXIS_CONFIG (R318). -/
def execAxisConfig (h : Hdr) (p : AxisCfgP) (s : State) : Host.Outcome State Fault Refusal :=
  .next (s.serve h (.axisConfig p))

/-- AXIS_ENABLE (R318). The end of the attempt on the axis's core, and a fault of that core, come first in their tick
(Table 9-8). -/
def execAxisEnable (h : Hdr) (en : Byte) (realign : Bool) (s : State) : Host.Outcome State Fault Refusal :=
  .next <|
    if s.coreEnds (coreOf (Fin.ofNat 8 h.idx.toNat)) then s.putOff (.axisEnable h en realign)
    else s.serve h (.axisEnable en realign)

/-- AXIS_COMMAND (R318). -/
def execAxisCommand (h : Hdr) (p : AxisCmdP) (s : State) : Host.Outcome State Fault Refusal :=
  .next (s.serve h (.axisCommand p))

/-- AXIS_STOP (R312). -/
def execAxisStop (h : Hdr) (cat : Byte) (s : State) : Host.Outcome State Fault Refusal :=
  .next (s.serve h (.axisStop cat))

/-- OBSERVER_LOAD (R330). -/
def execObserverLoad (h : Hdr) (p : ObsLoadP) (s : State) : Host.Outcome State Fault Refusal :=
  .next (s.serve h (.observerLoad p))

/-- AXIS_STATUS (R319). -/
def execAxisStatus (h : Hdr) (s : State) : Host.Outcome State Fault Refusal :=
  .next (s.serve h (.axisStatus))

/-- LIGHT_GROUP_CONFIG (R348). -/
def execLightGroupConfig (h : Hdr) (p : LightCfgP) (s : State) : Host.Outcome State Fault Refusal :=
  .next (s.serve h (.lightGroupConfig p))

/-- LIGHT_SET (R354). -/
def execLightSet (h : Hdr) (p : LightSetP) (s : State) : Host.Outcome State Fault Refusal :=
  .next (s.serve h (.lightSet p))

/-- STROBE_ARM (R355). -/
def execStrobeArm (h : Hdr) (p : StrobeP) (s : State) : Host.Outcome State Fault Refusal :=
  .next (s.serve h (.strobeArm p))

/-- MATRIX_FRAME (R363). -/
def execMatrixFrame (h : Hdr) (p : MatrixP) (s : State) : Host.Outcome State Fault Refusal :=
  .next (s.serve h (.matrixFrame p))

/-- GEAR_CONFIG (R374). -/
def execGearConfig (h : Hdr) (p : GearP) (s : State) : Host.Outcome State Fault Refusal :=
  .next (s.serve h (.gearConfig p))

/-- RADIO_CONFIG (R415). -/
def execRadioConfig (h : Hdr) (p : RadioP) (s : State) : Host.Outcome State Fault Refusal :=
  .next (s.serve h (.radioConfig p))

/-- TAG_ADMIT (R414). -/
def execTagAdmit (h : Hdr) (p : AdmitP) (s : State) : Host.Outcome State Fault Refusal :=
  .next (s.serve h (.tagAdmit p))

/-- TAG_EXPEL (R408). -/
def execTagExpel (h : Hdr) (s : State) : Host.Outcome State Fault Refusal :=
  .next (s.serve h (.tagExpel))

/-- TAG_SEND (R412). -/
def execTagSend (h : Hdr) (p : SendP) (s : State) : Host.Outcome State Fault Refusal :=
  .next (s.serve h (.tagSend p))

/-- TAG_EVENTS_FETCH (R413). -/
def execTagEventsFetch (h : Hdr) (maxWords : BitVec 16) (s : State) : Host.Outcome State Fault Refusal :=
  .next (s.serve h (.tagEventsFetch maxWords))

/-- LINK_TEST_START (R446). -/
def execLinkTestStart (h : Hdr) (p : LinkStartP) (s : State) : Host.Outcome State Fault Refusal :=
  .next (s.serve h (.linkTestStart p))

/-- LINK_TEST_RESULT (R448). -/
def execLinkTestResult (h : Hdr) (s : State) : Host.Outcome State Fault Refusal :=
  .next (s.serve h (.linkTestResult))

/-- SAFE_STOP (R314). -/
def execSafeStop (h : Hdr) (mask cat : Byte) (s : State) : Host.Outcome State Fault Refusal :=
  .next (s.serve h (.safeStop mask cat))

/-- SAFE_RELEASE (R314). -/
def execSafeRelease (h : Hdr) (mask : Byte) (s : State) : Host.Outcome State Fault Refusal :=
  .next (s.serve h (.safeRelease mask))

/-- SAFE_STATUS (R315). -/
def execSafeStatus (h : Hdr) (s : State) : Host.Outcome State Fault Refusal :=
  .next (s.serve h (.safeStatus))

/-- FW_STAGE (R147). -/
def execFwStage (h : Hdr) (p : StageP) (s : State) : Host.Outcome State Fault Refusal :=
  .next (s.serve h (.fwStage p))

/-- FW_COMMIT (R70). -/
def execFwCommit (h : Hdr) (slot : Byte) (token : Bool) (s : State) : Host.Outcome State Fault Refusal :=
  .next (s.serve h (.fwCommit slot token))

/-- RESET_DEVICE (R148). -/
def execResetDevice (h : Hdr) (delay : Word) (s : State) : Host.Outcome State Fault Refusal :=
  .next (s.serve h (.resetDevice delay))

/-- EVENT_SUBSCRIBE (R121). -/
def execEventSubscribe (h : Hdr) (mask : Word) (enc : Bool) (s : State) : Host.Outcome State Fault Refusal :=
  .next (s.serve h (.eventSubscribe mask enc))

/-- PING (R135). -/
def execPing (h : Hdr) (data : Bytes) (s : State) : Host.Outcome State Fault Refusal :=
  .next (s.serve h (.ping data))

end Sys2Proof.Machine
end

