-- ==== Sys2Proof/Machine/Framing.lean ====
section
/-! DEFINITION. Packets as the ports carry them: the HPA rings and BAR0, HPB datagrams, SFP frames, MNT frames, event
packets, the links' own events, lease expiry and one tick of D01 (05_owners_ports_leases.md R90 to R97, R102, R104, R106;
06_command_transport.md R109, R111, R121 to R125, R129). -/

namespace Sys2Proof.Machine

/-! ## A packet of any port (R109, Table 6-1) -/

/-- The header of a packet, its tag not yet judged. -/
def headerAt (p : Port) (via : Carriage) (b : Bytes) : Hdr :=
  { port := p, version := BitVec.ofNat 8 (at_ b 0 1), owner := BitVec.ofNat 4 (at_ b 4 1), enc := bit 4 (at_ b 4 1),
    dup := bit 5 (at_ b 4 1), event := bit 6 (at_ b 4 1), bit7 := bit 7 (at_ b 4 1), tag := BitVec.ofNat 16 (at_ b 2 2),
    cls := BitVec.ofNat 8 (at_ b 5 1), seq := BitVec.ofNat 32 (at_ b 8 4), idx := BitVec.ofNat 32 (at_ b 12 4),
    key := .neither, via := via }

/-- The plaintext of a command under a key, if its tag verifies (R113). -/
def openUnder (key : Bytes) (h : Hdr) (b : Bytes) : Option Bytes :=
  let iv := gcmIv h.owner.toNat 1 h.seq.toNat
  let payload := slice b 16 (b.length - 32)
  let tag := b.drop (b.length - 16)
  if h.enc then Config.gcmOpen key iv (b.take 16) payload tag
  else (Config.gcmOpen key iv (b.take 16 ++ payload) [] tag).map fun _ => payload

/-- Which key a command's tag verifies under, and its payload (R112). -/
def State.openPacket (s : State) (h : Hdr) (b : Bytes) : TagKey × Bytes :=
  let inSession := match (s.owner h.port).session with
    | some ses => openUnder ses.keyC h b
    | none => none
  match inSession with
  | some x => (.sessionKey, x)
  | none =>
    match if h.enc then none else openUnder (zeros 32) h b with
    | some x => (.zeroKey, x)
    | none => (.neither, slice b 16 (b.length - 32))

/-- SFP in RECOVERY discards every opcode but these (Table 4-2). -/
def safeStopOp : Nat := (Cmd.safeStop 0 0).opcode
def safeStatusOp : Nat := Cmd.safeStatus.opcode

/-- Steps 2 to 11 for a packet of `size` bytes; what it commands waits for the end of the tick (R104). -/
def State.takePacket (s : State) (p : Port) (via : Carriage) (b : Bytes) (size : Nat) : State :=
  let h := headerAt p via b
  let op := at_ b 1 1
  if p = 2 ∧ s.boot.dev = .recovery ∧ op ≠ safeStopOp ∧ op ≠ safeStatusOp then s
  else if size < 32 ∨ size ≠ 32 + 4 * at_ b 6 2 ∨ s.maxPacket p < size then s.plainReply h op eLength []
  else
    match headFault h with
    | some e => s.plainReply h op e []
    | none =>
      let x := s.openPacket h b
      match decodeCmd op x.2 with
      | none => s.plainReply h op eOpcode []
      | some c =>
        let r := s.intake { h with key := x.1 } c (payloadFault op x.2)
        match r.2 with
        | some a => { r.1 with arrivals := r.1.arrivals ++ [a] }
        | none => r.1

/-! ## HPA (R123 to R125) -/

/-- The link is out of reset and trained, so BAR0 is reached. -/
def State.barUp (s : State) : Bool := s.boot.step != .held && s.hpa.linkUp && !s.portTested 0

/-- Clearing EN discards the ring positions and the replies owed (R125). -/
def Hpa.disable (h : Hpa) : Hpa :=
  { h with en := false, epoch := h.epoch + 1, sqTail := 0, cqHead := 0, eqHead := 0, sqPos := 0, cqPos := 0, eqPos := 0,
           cqOwed := 0 }

/-- A ring size field: 4 to 12, any other value ignored. -/
def ringLog (old v : Nat) : Nat := if 4 ≤ v ∧ v ≤ 12 then v else old

/-- A base address with one half written. -/
def setLo (b : BitVec 64) (v : Nat) : BitVec 64 := BitVec.ofNat 64 (b.toNat / 2 ^ 32 * 2 ^ 32 + v / 4096 * 4096)
def setHi (b : BitVec 64) (v : Nat) : BitVec 64 := BitVec.ofNat 64 (b.toNat % 2 ^ 32 + v * 2 ^ 32)

/-- Write a word of an MSI-X table entry; an unmasked vector that is pending is signalled (PCIe). -/
def State.msixWrite (s : State) (v : Fin 64) (k : Nat) (x : Word) : State :=
  let s1 := s.updHpa fun h =>
    { h with msix := bankUpd h.msix v fun e =>
        match k with
        | 0 => { e with addrLo := x }
        | 1 => { e with addrHi := x }
        | 2 => { e with data := x }
        | _ => { e with ctrl := x } }
  if s1.hpa.pba.get v ∧ ¬ (s1.hpa.msix.get v).ctrl.getLsbD 0 then
    (s1.updHpa fun h => { h with pba := bankSet h.pba v false }).signal v
  else s1

/-- The host writes a word of BAR0 (Table 6-7). -/
def State.barWrite (s : State) (off v : Nat) : State :=
  let ring (f : Hpa → Hpa) : State := if s.hpa.en then s else s.updHpa f
  if ¬ s.barUp then s
  else if off = 0x0000 then
    s.updHpa fun h => if v.testBit 0 then { h with en := true } else if h.en then h.disable else h
  else if off = 0x0004 then s.updHpa fun h => { h with ringErr := h.ringErr && !v.testBit 1 }
  else if off = 0x0010 then ring fun h => { h with sqBase := setLo h.sqBase v }
  else if off = 0x0014 then ring fun h => { h with sqBase := setHi h.sqBase v }
  else if off = 0x0018 then ring fun h => { h with cqBase := setLo h.cqBase v }
  else if off = 0x001C then ring fun h => { h with cqBase := setHi h.cqBase v }
  else if off = 0x0020 then ring fun h => { h with eqBase := setLo h.eqBase v }
  else if off = 0x0024 then ring fun h => { h with eqBase := setHi h.eqBase v }
  else if off = 0x0028 then
    ring fun h =>
      { h with sqLog := ringLog h.sqLog (bits 3 0 v), cqLog := ringLog h.cqLog (bits 11 8 v),
               eqLog := ringLog h.eqLog (bits 19 16 v) }
  else if off = 0x0040 then s.updHpa fun h => { h with sqTail := v % 4096 }
  else if off = 0x0044 then s.updHpa fun h => { h with cqHead := v % 4096 }
  else if off = 0x0048 then s.updHpa fun h => { h with eqHead := v % 4096 }
  else if off = 0x0080 then s.updHpa fun h => { h with vecCq := v % 64 }
  else if 0x0084 ≤ off ∧ off < 0x00D0 ∧ off % 4 = 0 then
    let c := (off - 0x0084) / 4
    s.updHpa fun h =>
      { h with vecEv := bankSet h.vecEv (Fin.ofNat 19 c) (v % 64),
               perTag := if c < 2 then bankSet h.perTag (Fin.ofNat 2 c) (v.testBit 8) else h.perTag }
  else if 0x1000 ≤ off ∧ off < 0x1400 ∧ off % 4 = 0 then
    s.msixWrite (Fin.ofNat 64 ((off - 0x1000) / 16)) (off % 16 / 4) (word v)
  else s

/-- What a 32-bit read of BAR0 returns (Table 6-7); nothing while the BAR is not reached. A place of no register reads 0
(R125). -/
def State.barRead (s : State) (off : Nat) : Option Nat :=
  let h := s.hpa
  if ¬ s.barUp then none
  else some <|
    if off = 0x0000 then bitAt 0 h.en
    else if off = 0x0004 then bitAt 0 (s.boot.dev != .boot && s.boot.dev != .recovery) + bitAt 1 h.ringErr
    else if off = 0x0010 then h.sqBase.toNat % 2 ^ 32
    else if off = 0x0014 then h.sqBase.toNat / 2 ^ 32
    else if off = 0x0018 then h.cqBase.toNat % 2 ^ 32
    else if off = 0x001C then h.cqBase.toNat / 2 ^ 32
    else if off = 0x0020 then h.eqBase.toNat % 2 ^ 32
    else if off = 0x0024 then h.eqBase.toNat / 2 ^ 32
    else if off = 0x0028 then h.sqLog + h.cqLog * 2 ^ 8 + h.eqLog * 2 ^ 16
    else if off = 0x0040 then h.sqTail
    else if off = 0x0044 then h.cqHead
    else if off = 0x0048 then h.eqHead
    else if off = 0x0080 then h.vecCq
    else if 0x0084 ≤ off ∧ off < 0x00D0 ∧ off % 4 = 0 then
      let c := (off - 0x0084) / 4
      h.vecEv.getD c 0 + bitAt 8 (h.perTag.getD c false)
    else if 0x1000 ≤ off ∧ off < 0x1400 ∧ off % 4 = 0 then
      let e := h.msix.get (Fin.ofNat 64 ((off - 0x1000) / 16))
      (match off % 16 / 4 with
       | 0 => e.addrLo
       | 1 => e.addrHi
       | 2 => e.data
       | _ => e.ctrl).toNat
    else if off = 0x1800 then maskOf 32 fun i => h.pba.getD i false
    else if off = 0x1804 then maskOf 32 fun i => h.pba.getD (i + 32) false
    else 0

/-- HPA_CTRL_WRITE: a write of HPA_CTRL, or of any other word of BAR0. -/
def execHpaCtrlWrite (offset value : Word) (s : State) : Host.Outcome State Fault Refusal :=
  .next (s.barWrite offset.toNat value.toNat)

/-- SQ_TAIL_WRITE. -/
def execSqTailWrite (value : Word) (s : State) : Host.Outcome State Fault Refusal := .next (s.barWrite 0x0040 value.toNat)

/-- CQ_HEAD_WRITE. -/
def execCqHeadWrite (value : Word) (s : State) : Host.Outcome State Fault Refusal := .next (s.barWrite 0x0044 value.toNat)

/-- EQ_HEAD_WRITE. -/
def execEqHeadWrite (value : Word) (s : State) : Host.Outcome State Fault Refusal := .next (s.barWrite 0x0048 value.toNat)

/-- The ring rules of an SQ entry (Table 6-6): aligned addresses, a reply buffer of at least 32 bytes, zeros. -/
def sqEntryOk (e : Bytes) : Bool :=
  at_ e 0 8 % 4 == 0 && at_ e 16 8 % 4 == 0 && decide (32 ≤ at_ e 12 4) && (slice e 24 8).all (· == 0)

/-- An entry waits and may be fetched: rings in use, the port takes packets, the tail not reached, CQ space. -/
def State.sqReady (s : State) : Bool :=
  s.portTakes 0 && s.hpa.en && s.hpa.sqPos % s.hpa.sqSize != s.hpa.sqTail % s.hpa.sqSize && s.hpa.cqRoom

/-- HPA_SQ_FETCH (R124): the entry in ring order and the packet it points to. -/
def execHpaSqFetch (entry packet : Bytes) (s : State) : Host.Outcome State Fault Refusal :=
  .next <|
    if ¬ s.sqReady then s
    else
      let ix := s.hpa.sqPos % s.hpa.sqSize
      let s1 := s.updHpa fun h => { h with sqPos := h.sqPos + 1, cqOwed := h.cqOwed + 1 }
      let len := at_ entry 8 4
      if ¬ sqEntryOk entry then s1.complete ix 0 (at_ entry 16 8) true
      else (s1.takePacket 0 (.ring (s1.hpa.slot ix) (at_ entry 12 4) (at_ entry 16 8)) (packet.take len) len).finish

/-- HPA_RING_ERROR: RING_ERR, EN cleared, and an event that waits for the rings. -/
def execHpaRingError (s : State) : Host.Outcome State Fault Refusal :=
  .next <|
    if s.barUp ∧ s.hpa.en then
      let s1 := s.updHpa fun h => { h.disable with ringErr := true }
      s1.raise 0x12 0 0 (le 1 7 ++ zeros 3 ++ le 4 ((s1.barRead 0x0004).getD 0)) 0
    else s

/-- PCIE_PERST_N (R91, R129): HPA alone is reset and owner 1's session ends; its leases run on. -/
def execPciePerstN (s : State) : Host.Outcome State Fault Refusal :=
  .next <|
    ((s.updHpa fun h => { Hpa.reset with perstN := false, epoch := h.epoch + 1 }).endSession 0).closeStageOf 0

/-- PCIE_LINK_UP. -/
def execPcieLinkUp (s : State) : Host.Outcome State Fault Refusal :=
  .next (if s.boot.step = .held ∨ s.portTested 0 then s else s.updHpa fun h => { h with linkUp := true, perstN := true })

/-- PCIE_LINK_DOWN: PORT_UP clears and owner 1's stage closes (R147). -/
def execPcieLinkDown (s : State) : Host.Outcome State Fault Refusal :=
  .next ((s.updHpa fun h => { h with linkUp := false }).closeStageOf 0)

/-! ## HPB (R92, R93, R106) -/

/-- Largest IP datagram (Table 5-3). -/
def NetCfg.mtu (c : NetCfg) : Nat := if c.jumbo then 9000 else 1500

/-- HPB_DATAGRAM_RX. `frameBytes`: the bytes of the IP datagram its frame carries. -/
def execHpbDatagramRx (rx : IpRx) (srcPort : BitVec 16) (fragmented : Bool) (frameBytes : Nat) (datagram : Bytes) (s : State) : Host.Outcome State Fault Refusal :=
  .next <|
    if ¬ s.portTakes 1 ∨ ¬ s.frameTaken rx.eth ∨ rx.dst ≠ s.net.inForce.hpbIp ∨ fragmented ∨ s.net.inForce.mtu < frameBytes ∨ s.net.inForce.mtu < datagram.length + 28
        ∨ datagram.length < 32 then s
    else (s.takePacket 1 (.udp rx.src srcPort) datagram datagram.length).finish

/-- The one's complement sum of big-endian 16-bit words. -/
def onesSum : Nat → Bytes → Nat
  | acc, a :: b :: rest => let x := acc + a.toNat * 256 + b.toNat
                           onesSum (x % 65536 + x / 65536) rest
  | acc, [a] => let x := acc + a.toNat * 256
                x % 65536 + x / 65536
  | acc, [] => acc

def ipBytes (a : Word) : Bytes := (le 4 a.toNat).reverse

/-- ARP_REQUEST: the reply frame. -/
def execArpRequest (rx : ArpRx) (senderIp targetIp : Word) (s : State) : Host.Outcome State Fault Refusal :=
  .next <|
    if ¬ s.portTakes 1 ∨ ¬ s.frameTaken rx.eth ∨ targetIp ≠ s.net.inForce.hpbIp then s
    else
      let mac := fit 6 s.otp.mac
      { s with out := s.out ++ [Out.ethernet (s.ethFrame (some (fit 6 rx.mac)) 0x0806 none
          ([0, 1, 8, 0, 6, 4, 0, 2] ++ mac ++ ipBytes targetIp ++ fit 6 rx.mac ++ ipBytes senderIp))] }

/-- ICMP_ECHO: the ICMP message of the reply, the request's with type 0 and a new checksum. -/
def execIcmpEcho (rx : IpRx) (fragmented : Bool) (message : Bytes) (s : State) : Host.Outcome State Fault Refusal :=
  .next <|
    if ¬ s.portTakes 1 ∨ ¬ s.frameTaken rx.eth ∨ fragmented ∨ rx.dst ≠ s.net.inForce.hpbIp ∨ message.length < 8 ∨ at_ message 0 2 ≠ 8
        ∨ onesSum 0 message ≠ 0xFFFF ∨ s.net.inForce.unreachable rx.src then s
    else
      let sum := 65535 - onesSum 0 ([0, 0, 0, 0] ++ message.drop 4)
      { s with out := s.out ++ [Out.ethernet (s.ethFrame none 0x0800 (some ⟨rx.dst, rx.src, 1, none⟩)
        ([0, 0] ++ (le 2 sum).reverse ++ message.drop 4))] }

/-- ETH_LINK_UP. -/
def execEthLinkUp (s : State) : Host.Outcome State Fault Refusal :=
  .next (if s.boot.step = .held ∨ s.portTested 1 then s else s.updNet fun n => { n with ethUp := true })

/-- ETH_LINK_DOWN: PORT_UP clears, PTP is lost (Table 14-2), owner 2's stage closes. -/
def execEthLinkDown (s : State) : Host.Outcome State Fault Refusal :=
  .next ((if s.net.ethUp then (s.updNet fun n => { n with ethUp := false }).losePtp else s).closeStageOf 1)

/-- The network settings written take effect. -/
def State.netApply (s : State) : State := s.updNet fun n => { n with inForce := n.written, writtenAt := none }

/-- NET_CFG_APPLY: at an instant the device chooses within 1 ms of the write (R106). -/
def execNetCfgApply (s : State) : Host.Outcome State Fault Refusal :=
  .next (if s.net.writtenAt.isSome then s.netApply else s)

/-! ## SFP (R94 to R96) -/

/-- A frame whose CRC is correct and whose FTYPE is not reserved (Table 5-4). -/
def sfpFrameOk (f : Bytes) : Bool :=
  f.length == 32 && crc16 (f.take 30) == ofBe (f.drop 30) && decide (at_ f 0 1 < 2)

def State.seqErrs (s : State) (k : Nat) : State := s.updNet fun n => { n with sfpSeqErr := satAdd 255 n.sfpSeqErr k }

/-- Fragments a packet of length field L takes. -/
def fragments (l : Nat) : Nat := (32 + 4 * l + 26) / 27

/-- A fragment is taken; the last one completes the packet. -/
def State.takeFragment (s : State) (f : Bytes) (before : Bytes) : State :=
  let frag := at_ f 1 1
  let last := at_ f 2 1
  let body := before ++ slice f 3 27
  if frag < last then s.updNet fun n => { n with sfpAsm := some ⟨frag, last, f, body⟩ }
  else
    let s1 := s.updNet fun n => { n with sfpAsm := none }
    let l := at_ body 6 2
    if last + 1 ≠ fragments l then s1.seqErrs 1
    else if ¬ s1.portTakes 2 then s1
    else (s1.takePacket 2 .sfp (body.take (32 + 4 * l)) (32 + 4 * l)).finish

/-- Reassembly (R95). -/
def State.sfpFragment (s : State) (f : Bytes) : State :=
  let frag := at_ f 1 1
  let last := at_ f 2 1
  match s.net.sfpAsm with
  | some a =>
    if f = a.prev then s
    else if frag = 0 then (s.seqErrs 1).takeFragment f []
    else if frag = a.frag + 1 ∧ last = a.last ∧ frag ≤ last then s.takeFragment f a.data
    else (s.seqErrs 2).updNet fun n => { n with sfpAsm := none }
  | none => if frag = 0 then s.takeFragment f [] else s.seqErrs 1

/-- The frame the device sends in the same clock cycles; an idle frame leaves no record. -/
def State.sfpSend (s : State) : State :=
  match s.net.sfpOut with
  | [] => s
  | f :: fs => { s with out := s.out ++ [Out.sfpFrame f], net := { s.net with sfpOut := fs } }

/-- SFP_FRAME_RX. -/
def execSfpFrameRx (frame : Bytes) (s : State) : Host.Outcome State Fault Refusal :=
  .next <|
    if s.boot.step = .held ∨ s.portTested 2 then s
    else
      let s1 := s.sfpSend
      if sfpFrameOk frame then
        let s2 := s1.updNet fun n => { n with sfpValidAt := s.now, sfpLost := false }
        if at_ frame 0 1 = 1 then (s2.updNet fun n => { n with sfpArmed := true }).sfpFragment frame else s2
      else s1.updNet fun n => { n with sfpAsm := none, sfpCrcErr := satInc 65535 n.sfpCrcErr }

/-- SFP_LINK_LOSS (R96): LOSS, EV_SAFE and, with LOSS_STOP, the stop of every axis. -/
def execSfpLinkLoss (s : State) : Host.Outcome State Fault Refusal :=
  .next <|
    let n := s.net
    if s.boot.step ≠ .held ∧ n.sfpArmed ∧ ¬ n.sfpLost ∧ n.sfpValidAt + n.inForce.lossMs * msTicks ≤ s.now then
      let s1 := s.updNet fun n => { n with sfpLoss := true, sfpLost := true, sfpLossAt := some s.now }
      let s2 : State := { s1 with safety := { s1.safety with sfpLoss := true } }
      if n.inForce.lossStop then (s2.safeStopMask 0xFF 3).safeEvent 5 0xFF else s2.safeEvent 5 0
    else s

/-! ## MNT (R97) -/

/-- COBS decoding: each code byte n is followed by n − 1 bytes, and a zero unless n is 255 or the frame ends. -/
def cobs : Nat → Bytes → Option Bytes
  | 0, _ => none
  | _, [] => some []
  | fuel + 1, c :: rest =>
    let n := c.toNat - 1
    let run := rest.take n
    let tail := rest.drop n
    if c = 0 ∨ run.length < n ∨ run.any (· == 0) then none
    else
      match tail with
      | [] => some run
      | _ => (cobs fuel tail).map fun x => run ++ (if c = 255 then [] else [0]) ++ x

/-- The packet of an MNT frame given without its final zero byte: CRC right, length as its header says, in the limit. -/
def mntPacket (f : Bytes) : Option Bytes :=
  match cobs (f.length + 1) f with
  | none => none
  | some x =>
    let p := x.take (x.length - 4)
    if 36 ≤ x.length ∧ ofLe (x.drop (x.length - 4)) = crc32 p ∧ p.length = 32 + 4 * at_ p 6 2 ∧ p.length ≤ 16384 then some p
    else none

/-- MNT_FRAME_RX: the bytes before the zero byte that ends the frame. An empty frame is ignored. -/
def execMntFrameRx (frame : Bytes) (s : State) : Host.Outcome State Fault Refusal :=
  .next <|
    if s.boot.step = .held ∨ frame = [] then s
    else
      match mntPacket frame with
      | none => s.updNet fun n => { n with mntErr := satInc 65535 n.mntErr }
      | some p =>
        let s1 := s.carried 3
        if s1.portTakes 3 then (s1.takePacket 3 .mnt p p.length).finish else s1

/-! ## Event packets (R121) -/

/-- The packet of a queued event (Table 6-1). ENC is the choice in force when it is sent, also for an event that was queued
before the EVENT_SUBSCRIBE that made the choice: the manual does not say which. DESIGN CHOICE, notes/assumptions/7. -/
def eventPacket (p : Port) (ses : Session) (e : EventMsg) : Packet :=
  { opcode := 0xC0, tag := e.code, owner := Port.id p, enc := ses.encEv, dup := false, event := true, cls := e.cls,
    seq := e.seq, last := e.idx, payload := e.body, key := some ses.keyD }

/-- The MSI-X vector of an event: VEC_EVc, with PER_TAG plus the job tag (R124). -/
def Hpa.vector (h : Hpa) (e : EventMsg) : Fin 64 :=
  let v := h.vecEv.getD (e.code - 1) 0
  Fin.ofNat 64 (if e.code ≤ 2 ∧ h.perTag.getD (e.code - 1) false then v + at_ e.body 12 1 else v)

/-- The port has room for one event. -/
def State.eventRoom (s : State) (p : Port) : Bool :=
  if p = 0 then s.portTakes 0 && s.hpa.eqRoom
  else if p = 1 then s.portTakes 1 && (s.owner 1).evtDest.isSome
  else s.portTakes p

/-- What carries an event packet to an owner. -/
def State.eventLeg (s : State) (port : Port) (pkt : Packet) : Leg :=
  s.leg (if port = 0 then .ring 0 0 0
    else if port = 1 then
      match (s.owner 1).evtDest with
      | some (ip, p) => .udp ip p
      | none => .udp 0 0
    else if port = 2 then .sfp else .mnt) pkt

/-- The oldest queued event of an owner goes out; those whose code its mask no longer has are discarded (R121). -/
def State.deliverEvent (s : State) (port : Port) : State :=
    match (s.owner port).session, ((s.owner port).events.dropWhile fun e =>
        !((s.owner port).session.map fun x => x.mask.testBit e.code).getD false) with
    | some ses, e :: rest =>
      if ¬ s.eventRoom port then s
      else
        let pkt := eventPacket port ses e
        let s1 := s.updOwner port fun o => { o with events := rest }
        let s2 : State := { s1 with out := s1.out ++ [Out.event port pkt (s.eventLeg port pkt)] }
        if port = 0 then
          let h := s2.hpa
          let bytes := pkt.wire
          let entry := le 2 bytes.length ++ le 1 (ringPhase h.eqPos h.eqSize) ++ [0] ++ fit 252 bytes
          let s3 : State := { s2 with
            out := s2.out ++ [Out.eventEntry (h.eqPos % h.eqSize) entry], hpa := { h with eqPos := h.eqPos + 1 } }
          s3.signal (h.vector e)
        else if port = 2 then s2.updNet fun n => { n with sfpOut := n.sfpOut ++ sfpFrames pkt.wire }
        else if port = 1 then
          match (s.owner 1).evtDest with
          | some (ip, _) => if s.net.inForce.unreachable ip then s1 else s2
          | none => s
        else s2
    | some _, [] => s.updOwner port fun o => { o with events := [] }
    | none, _ => s

/-- EVENT_DELIVER. It gives way to the commands of its tick: a reply goes before an event (Table 6-10), and an EVENT_SUBSCRIBE
before the events of its tick (Table 7-15). -/
def execEventDeliver (port : Port) (s : State) : Host.Outcome State Fault Refusal :=
  .next (if s.commandsWait then s.putOff (.eventDeliver port) else s.deliverEvent port)

/-! ## The end of a tick (Table 5-7) -/

/-- Commands that arrived in this tick act before what is timed to its end. -/
def State.settled (s : State) : State := if s.arrivals = [] then s else s.settle

/-- The rows of this tick that gave way go back into the queue, after the commands that have arrived acted. -/
def State.resume (s : State) : State := { s.settled with pending := s.deferred, deferred := [] }

/-- LEASE_EXPIRY: step 7 of Table 5-7, after every command of its tick. -/
def execLeaseExpiry (cls : Byte) (index : Word) (s : State) : Host.Outcome State Fault Refusal :=
  .next (if s.commandsWait then s.putOff (.leaseExpiry cls index) else (s.expire cls.toNat index.toNat).finish)

/-- TOKEN_WAIT_TIMEOUT. A wait whose count suffices in the tick is served first (Table 7-15). -/
def execTokenWaitTimeout (port : Port) (token : BitVec 16) (s : State) : Host.Outcome State Fault Refusal :=
  .next (if s.commandsWait then s.putOff (.tokenWaitTimeout port token) else (s.tokenTimeout port token.toNat).finish)

/-- The end of a tick of D01 once what arrived in it is settled: a commit record comes in force, a device reset that is due is
taken, network settings 1 ms old act; then D01, D02 and device time move on, a step of device time that is due is made first
of all (Table 14-6), and dead times end. -/
def State.pass (s : State) : State :=
  let s1 := s.stepReport.commitDone.resetTick
  let s2 := match s1.net.writtenAt with
    | some w => if w + msTicks ≤ s1.now + 1 then s1.netApply else s1
    | none => s1
  let s3 : State := { s2 with
    now := s2.now + 1, d02 := if s2.fabric.d02Run then s2.d02 + 4 else s2.d02, tb := s2.tb.tick }
  (if s3.stepDue then s3.stepTime else s3).gatesTick.finish

/-- One tick of D01 passes. -/
def State.tick (s : State) : State := s.settled.pass

end Sys2Proof.Machine
end

