-- ==== Sys2Proof/Machine/RegisterRows.lean ====
section
/-! DEFINITION. The meaning of every row that names one register: a REG_WRITE or REG_READ of that register alone, under all
the checks of Table 6-3 (R138, R139). -/

namespace Sys2Proof.Machine

/-- A REG_WRITE of one register. -/
def State.writeOne (s : State) (h : Hdr) (addr : Nat) (value : Word) : State :=
  s.serve h (.regWrite ⟨word addr, 1, [value]⟩)

/-- A REG_READ of one register. -/
def State.readOne (s : State) (h : Hdr) (addr : Nat) : State := s.serve h (.regRead (word addr) 1)

/-- DBG_HALT_WRITE: a write of DBG_HALT (R53 to R55). -/
def execDbgHaltWrite (h : Hdr) (value : Word) (s : State) : Host.Outcome State Fault Refusal :=
  .next (s.writeOne h (0x00010300) value)

/-- FAULT_CNT_CLR: a write of FAULT_CNT_CLR (R56). -/
def execFaultCntClr (h : Hdr) (value : Word) (s : State) : Host.Outcome State Fault Refusal :=
  .next (s.writeOne h (0x00010214) value)

/-- TJ_PEAK_CLR: a write of TJ_PEAK_CLR (R39). -/
def execTjPeakClr (h : Hdr) (value : Word) (s : State) : Host.Outcome State Fault Refusal :=
  .next (s.writeOne h (0x00000244) value)

/-- ECC_CNT_CLR: a write of ECC_CNT_CLR (R171). -/
def execEccCntClr (h : Hdr) (value : Word) (s : State) : Host.Outcome State Fault Refusal :=
  .next (s.writeOne h (0x00040050) value)

/-- NUM_CNT_CLR: a write of NUM_CNT_CLR (R194). -/
def execNumCntClr (h : Hdr) (value : Word) (s : State) : Host.Outcome State Fault Refusal :=
  .next (s.writeOne h (0x00010494) value)

/-- JOB_CNT_CLR: a write of JOB_CNT_CLR (R215). -/
def execJobCntClr (h : Hdr) (value : Word) (s : State) : Host.Outcome State Fault Refusal :=
  .next (s.writeOne h (0x0005001C) value)

/-- CAM_COMMIT: a write of CAM_COMMIT of a sensor port (R218). -/
def execCamCommit (h : Hdr) (port : Fin 6) (value : Word) (s : State) : Host.Outcome State Fault Refusal :=
  .next (s.writeOne h (0x000600C0 + 0x1000 * port.val) value)

/-- HB_CNT_CLR: a write of HB_CNT_CLR (R234). -/
def execHbCntClr (h : Hdr) (value : Word) (s : State) : Host.Outcome State Fault Refusal :=
  .next (s.writeOne h (0x0006F004) value)

/-- SNS_ERR_CLR: a write of SNS_ERR_CLR of a sensor port (R266). -/
def execSnsErrClr (h : Hdr) (port : Fin 6) (value : Word) (s : State) : Host.Outcome State Fault Refusal :=
  .next (s.writeOne h (0x0007003C + 0x1000 * port.val) value)

/-- LAST_FS0_READ: a read of LAST_FS0 of a sensor port (R266). -/
def execLastFs0Read (h : Hdr) (port : Fin 6) (s : State) : Host.Outcome State Fault Refusal :=
  .next (s.readOne h (0x00070040 + 0x1000 * port.val))

/-- TB_NOW0_READ: a read of TB_NOW0 (R286). -/
def execTbNow0Read (h : Hdr) (s : State) : Host.Outcome State Fault Refusal :=
  .next (s.readOne h (0x00080008))

/-- TB_CNT_CLR: a write of TB_CNT_CLR (R286). -/
def execTbCntClr (h : Hdr) (value : Word) (s : State) : Host.Outcome State Fault Refusal :=
  .next (s.writeOne h (0x00080060) value)

/-- TIM_RST: a write of TIM_RST of a timer (R295). -/
def execTimRst (h : Hdr) (timer : Fin 16) (value : Word) (s : State) : Host.Outcome State Fault Refusal :=
  .next (s.writeOne h (0x00090008 + 0x1000 * timer.val) value)

/-- TIM_GT_FUNC_WRITE: a write of TIM_GT_FUNCa of a timer (R297). -/
def execTimGtFuncWrite (h : Hdr) (timer : Fin 16) (slot : Fin 2) (value : Word) (s : State) : Host.Outcome State Fault Refusal :=
  .next (s.writeOne h (0x00090090 + 0x1000 * timer.val + 4 * slot.val) value)

/-- TIM_CNT_LO_READ: a read of TIM_CNT_LO of a timer (R294). -/
def execTimCntLoRead (h : Hdr) (timer : Fin 16) (s : State) : Host.Outcome State Fault Refusal :=
  .next (s.readOne h (0x00090000 + 0x1000 * timer.val))

/-- TIM_CAP_LO_READ: a read of TIM_CAP_LO of a timer (R294). -/
def execTimCapLoRead (h : Hdr) (timer : Fin 16) (s : State) : Host.Outcome State Fault Refusal :=
  .next (if s.readWaits (0x00090088 + 0x1000 * timer.val) 1 then s.putOff (.timCapLoRead h timer) else s.readOne h (0x00090088 + 0x1000 * timer.val))

/-- AX_CNT_CLR: a write of AX_CNT_CLR of an axis (R320). -/
def execAxCntClr (h : Hdr) (axis : Fin 8) (value : Word) (s : State) : Host.Outcome State Fault Refusal :=
  .next (s.writeOne h (0x000A005C + 0x1000 * axis.val) value)

/-- SAFE_CNT_CLR: a write of SAFE_CNT_CLR (R321). -/
def execSafeCntClr (h : Hdr) (value : Word) (s : State) : Host.Outcome State Fault Refusal :=
  .next (s.writeOne h (0x0010002C) value)

/-- OBS_CNT_CLR: a write of OBS_CNT_CLR of an axis (R341). -/
def execObsCntClr (h : Hdr) (axis : Fin 8) (value : Word) (s : State) : Host.Outcome State Fault Refusal :=
  .next (s.writeOne h (0x000B002C + 0x1000 * axis.val) value)

/-- IG_FAULT_CLEAR: a write of IG_FAULT of a group (R360, R364). -/
def execIgFaultClear (h : Hdr) (group : Fin 8) (value : Word) (s : State) : Host.Outcome State Fault Refusal :=
  .next (s.writeOne h (0x000C000C + 0x1000 * group.val) value)

/-- MX_FAULT_CLEAR: a write of MX_STATUS (R365). -/
def execMxFaultClear (h : Hdr) (value : Word) (s : State) : Host.Outcome State Fault Refusal :=
  .next (s.writeOne h (0x000C8004) value)

/-- DIM_CFG_WRITE: a write of DIM_CFG (R352, R366). -/
def execDimCfgWrite (h : Hdr) (value : Word) (s : State) : Host.Outcome State Fault Refusal :=
  .next (s.writeOne h (0x000CF000) value)

/-- STAGE_CTRL_CLR: a write of STAGE_CTRL (R366). -/
def execStageCtrlClr (h : Hdr) (value : Word) (s : State) : Host.Outcome State Fault Refusal :=
  .next (s.writeOne h (0x000CF018) value)

/-- ILL_CNT_CLR: a write of ILL_CNT_CLR (R366). -/
def execIllCntClr (h : Hdr) (value : Word) (s : State) : Host.Outcome State Fault Refusal :=
  .next (s.writeOne h (0x000CF608) value)

/-- LBUS_CNT_CLR: a write of LBUS_CNT_CLR of a bus (R388). -/
def execLbusCntClr (h : Hdr) (bus : Fin 2) (value : Word) (s : State) : Host.Outcome State Fault Refusal :=
  .next (s.writeOne h (0x000D080C + 0x8000 * bus.val) value)

/-- RAD_CNT_CLR: a write of RAD_CNT_CLR (R416). -/
def execRadCntClr (h : Hdr) (value : Word) (s : State) : Host.Outcome State Fault Refusal :=
  .next (s.writeOne h (0x000E0030) value)

/-- LT_BITS_LO_READ: a read of LT_BITS_LO of a unit (R453). -/
def execLtBitsLoRead (h : Hdr) (unit : Fin 16) (s : State) : Host.Outcome State Fault Refusal :=
  .next (s.readOne h (0x000F0004 + 0x1000 * unit.val))

/-- AXT_CTRL_GO: a write of AXT_CTRL of an axis (R451). -/
def execAxtCtrlGo (h : Hdr) (axis : Fin 8) (value : Word) (s : State) : Host.Outcome State Fault Refusal :=
  .next (s.writeOne h (0x000F0800 + 0x1000 * axis.val) value)

/-- SKT_CTRL_GO: a write of SKT_CTRL of a group (R452). -/
def execSktCtrlGo (h : Hdr) (group : Fin 8) (value : Word) (s : State) : Host.Outcome State Fault Refusal :=
  .next (s.writeOne h (0x000F0900 + 0x1000 * group.val) value)

/-- ENROL_CTRL with GO set and an operation: 1 enrol, 2 revoke (R170). -/
def enrolValue (value : Word) (op : Nat) : Word := word (value.toNat % 256 + op * 256 + 65536)

/-- ENROL: a write of ENROL_CTRL with GO and OP 1. -/
def execEnrol (h : Hdr) (value : Word) (s : State) : Host.Outcome State Fault Refusal :=
  .next (s.writeOne h 0x00040148 (enrolValue value 1))

/-- REVOKE: a write of ENROL_CTRL with GO and OP 2. -/
def execRevoke (h : Hdr) (value : Word) (s : State) : Host.Outcome State Fault Refusal :=
  .next (s.writeOne h 0x00040148 (enrolValue value 2))

end Sys2Proof.Machine
end

