-- ==== Sys2Proof/Machine/Tag.lean ====
section
/-! DEFINITION. The LT-2 fingertip tag (21_fingertip_tag.md). -/

namespace Sys2Proof.Machine

def State.ram (s : State) : TagRam := s.tag.ram
def State.updRam (s : State) (f : TagRam → TagRam) : State := s.updTag fun t => { t with ram := f t.ram }

/-- The tag runs its radio and scans. -/
def State.tagActive (s : State) : Bool := s.tag.st == .active && s.tag.nrst

/-! ## Power states (R422 to R426, R440) -/

/-- Enter BOOT: RAM is cleared and every RW register takes its Reset value (R442); the shunt's state stands (R423). -/
def State.tagBoot (s : State) : State :=
  s.updTag fun t => { t with st := .boot, ram := { TagRam.reset with ovp := t.ram.ovp } }

/-- A record write in progress fails: its cell fails its CRC, and the frame that waited is not sent (R427, R440). -/
def State.tearWrite (s : State) : State :=
  match s.ram.write with
  | some w =>
    s.updTag fun t =>
      { t with cells := bankSet t.cells w.cell (some { w.rec_ with crcOk := false }),
               ram := { t.ram with write := none, frames := t.ram.frames.drop 1 } }
  | none => s

/-- A JOIN as the next frame (R426). -/
def joinFrame : TagFrame := ⟨true, [], none, 0, 0, false, false⟩

/-- The DATA frames that wait. -/
def TagRam.dataFrames (r : TagRam) : List TagFrame := (r.frames.filter fun f => !f.join).map ({ · with onAir := false })

/-- A JOIN is attempted next, and nothing before it is admitted (R426). -/
def TagRam.join (r : TagRam) : TagRam := { r with net := .joining, frames := joinFrame :: r.dataFrames, be := 3 }

/-- The event sent, its acknowledgement not heard, is to be repeated (R401); after eight repeats it is dropped (R431). -/
def TagRam.unacked (r : TagRam) : TagRam :=
  match r.sent with
  | none => r
  | some e =>
    if e.attempts ≥ 9 then { r with sent := none, evDrop := satInc 65535 r.evDrop }
    else { r with sent := none, retry := r.retry ++ [e] }

/-- The tag leaves its network. -/
def TagRam.leave (r : TagRam) (net : TagNet) : TagRam :=
  { r.unacked with net := net, frames := r.dataFrames, short := 0, gslot := none, be := 3 }

/-- Enter ACTIVE: a tag that has heard no beacon since BOOT searches; any other joins where it was (R426). An expelled tag
sends nothing (R433). -/
def State.tagWake (s : State) : State :=
  s.updTag fun t =>
    { t with st := .active,
             ram := if t.ram.net = .expelled then t.ram
               else if t.ram.netId.isNone then
                 { t.ram.leave .search with searchCh := 0, dwellFrom := s.now, heardAt := s.now }
               else { t.ram.join with heardAt := s.now } }

/-- The tag queues a DATA frame; a reply of a command that restarts enters BOOT once acknowledged. -/
def State.tagQueue (s : State) (payload : Bytes) (restart : Bool) : State :=
  s.updRam fun r => { r with frames := r.frames ++ [⟨false, payload, none, 0, 0, false, restart⟩] }

/-- A verification under way ends with STATUS 5 (R440). -/
def State.stopVerify (s : State) : State :=
  if s.ram.verifyAt.isSome then
    (s.tagQueue [0x91, BitVec.ofNat 8 s.ram.verifyId, 5, 0] false).updRam fun r => { r with verifyAt := none }
  else s

/-- Leave ACTIVE for SLEEP. -/
def State.tagSleep (s : State) : State :=
  s.stopVerify.updTag fun t =>
    { t with st := .sleep, ram := if t.ram.net = .expelled then t.ram else t.ram.leave .none }

/-- An exchange of the tag is on air. -/
def State.tagOnAir (s : State) : Bool := s.ram.frames.any (·.onAir)

/-- Enter BROWNOUT. -/
def State.tagBrownout (s : State) : State :=
  s.updTag fun t =>
    { t with st := .brownout, ram := { t.ram with brownouts := satInc 65535 t.ram.brownouts, sampledAt := none } }

/-- Enter DEAD: RAM is lost. -/
def State.tagDead (s : State) : State := s.updTag fun t => { t with st := .dead, ram := .reset }

/-- One transition that the store voltage brings (Table 21-2). -/
def State.tagMove (s : State) : State :=
  let v := s.tag.vsto
  match s.tag.st with
  | .dead => if v ≥ 1600 then s.updTag fun t => { t with st := .cold } else s
  | .cold => if v < 1600 then s.tagDead else if v ≥ 1900 then s.tagBoot else s
  | .boot => if v < 1600 then s.tagDead else s
  | .sleep => if v < 1950 then s.tagBrownout else if v ≥ s.ram.cfg.vWake * 10 then s.tagWake else s
  | .active => if v < s.ram.cfg.vSleep * 10 ∧ ¬ s.tagOnAir then s.tagSleep else s
  | .brownout => if v < 1600 then s.tagDead else if v ≥ 2100 then s.updTag fun t => { t with st := .sleep } else s

/-- The transitions that the store voltage brings: from one state to any other takes at most three. A tag held with NRST
low is dead or cold. -/
def State.tagPower (s : State) : State :=
  if s.tag.nrst then s.tagMove.tagMove.tagMove
  else s.updTag fun t => { t with st := if t.vsto < 1600 then .dead else .cold }

/-- TAG_VSTO_THRESHOLD: the store voltage, in mV; overvoltage with hysteresis (R423), the active paths stop below 1.9 V
(R422), a record write below 1.95 V fails, a verification below V_SLEEP ends with STATUS 5. -/
def execTagVstoThreshold (mv : Nat) (s : State) : Host.Outcome State Fault Refusal :=
  .next <|
    let s1 := s.updTag fun t =>
      { t with vsto := mv,
               ram := { t.ram with ovp := if mv ≥ 4100 then true else if mv < 4000 then false else t.ram.ovp,
                                   sampledAt := if mv < 1900 ∨ 4100 ≤ mv then none else t.ram.sampledAt } }
    let s2 := if mv < 1950 then s1.tearWrite else s1
    let s3 := if mv < s.ram.cfg.vSleep * 10 ∧ s.tagActive then s2.stopVerify else s2
    s3.tagPower

/-- TAG_NRST_ASSERT: held at COLD current; a record write fails as in a brownout (R440, R442). -/
def execTagNrstAssert (s : State) : Host.Outcome State Fault Refusal :=
  .next ((s.tearWrite.updTag fun t => { t with nrst := false }).tagPower)

/-- TAG_NRST_RELEASE (R425). -/
def execTagNrstRelease (s : State) : Host.Outcome State Fault Refusal :=
  .next <|
    if s.tag.nrst then s
    else
      let s1 := s.updTag fun t => { t with nrst := true }
      if s.tag.vsto ≥ 1900 then s1.tagBoot else s1.tagPower

/-- The record in force at BOOT: the valid cell with the higher FC; blank cells count as FC 0 (R427). -/
def Tag.record (t : Tag) : FcCell :=
  let ok (i : Fin 2) : FcCell :=
    match t.cells.get i with
    | some c => if c.crcOk then c else ⟨0, 0, 0, true⟩
    | none => ⟨0, 0, 0, true⟩
  if (ok 1).fc > (ok 0).fc then ok 1 else ok 0

/-- TAG_BOOT_DONE (R427, R437): the committed bank starts, or the other where its CRC-32 fails. -/
def execTagBootDone (bankOk : Bool) (s : State) : Host.Outcome State Fault Refusal :=
  .next <|
    if s.tag.st = .boot ∧ s.tag.nrst then
      let rec_ := s.tag.record
      let com : Fin 2 := if (s.tag.banks.get 1).committed then 1 else 0
      let s1 := s.updTag fun t =>
        { t with running := if bankOk then com else com + 1, cold := satInc 65535 rec_.cold, written := 0,
                 ram := { t.ram with fc := (rec_.fc + 256) % 2 ^ 32, fcSaved := rec_.fc, floor := rec_.floor,
                                     fwFallback := !bankOk } }
      if s.tag.vsto ≥ s.ram.cfg.vWake * 10 then s1.tagWake
      else if s.tag.vsto ≥ 2100 then s1.updTag fun t => { t with st := .sleep }
      else s1.tagBrownout
    else s

/-! ## Maximum-power tracking (R424) -/

/-- The active paths run (R422, R423). -/
def State.pathsRun (s : State) : Bool :=
  decide (s.tag.vsto ≥ 1900) && !s.ram.ovp && (s.tag.st == .sleep || s.tag.st == .active)

/-- MPPT_SAMPLE: Voc of the enabled sources, mV and 0.1 mV. -/
def execMpptSample (vibMv tegDmv : Nat) (s : State) : Host.Outcome State Fault Refusal :=
  .next <|
    let r := s.ram
    let due : Bool := match r.sampledAt with
      | none => true
      | some t => decide (t + r.cfg.period * (secTicks / 2) ≤ s.now)
    if s.pathsRun ∧ due then
      s.updRam fun r =>
        { r with sampledAt := some s.now, vocVib := if r.cfg.vibEn then min 65535 vibMv else r.vocVib,
                 vocTeg := if r.cfg.tegEn then min 65535 tegDmv else r.vocTeg }
    else s

/-- The input voltage a source is regulated to: k × Voc, k = code ÷ 64. -/
def operatingPoint (code voc : Nat) : Nat := code * voc / 64

/-! ## Taxels (R429, R430) -/

/-- One taxel at one scan. -/
def Taxel.scan (x : Taxel) (cap : Nat) : Taxel :=
  if cap < 1000 ∨ cap > 40000 then { x with code := 0, failed := true }
  else
    let base := if x.baseSet then x.base else cap
    { code := (clampI 0 4095 (rne ((cap : Int) - base) 2)).toNat, base := base, baseSet := true, failed := false }

/-- Move a baseline 1/16 of the way to the present capacitance. -/
def Taxel.drift (x : Taxel) (cap : Nat) : Taxel :=
  if x.failed then x else { x with base := ((x.base : Int) + ((cap : Int) - x.base) / 16).toNat }

/-- Queue a contact or release, at most eight (R431). -/
def TagRam.enqueue (r : TagRam) (kind : Nat) : TagRam :=
  if r.queue.length < 8 then { r with queue := r.queue ++ [⟨kind, r.peak, r.mask, none, 0⟩] }
  else { r with evDrop := satInc 65535 r.evDrop }

/-- What one scan decides (R430): a failed electrode is excluded (R441). -/
def TagRam.decideScan (r : TagRam) (codes : List Nat) (failed : List Bool) : TagRam :=
  let anyHi := codes.any fun c => decide (c ≥ r.cfg.contactTh)
  let allLo := codes.all fun c => decide (c < r.cfg.releaseTh)
  let hi := if anyHi ∧ ¬ r.contact then r.hiRun + 1 else 0
  let lo := if allLo ∧ r.contact then r.loRun + 1 else 0
  let d := if r.prev.isEmpty then 0
    else (((codes.zip r.prev).zip failed).map fun p => if p.2 then 0 else p.1.1 - p.1.2 + (p.1.2 - p.1.1)).sum
  let slipping := r.contact && decide (d ≥ r.cfg.slipTh)
  let run := if slipping then r.slipRun + 1 else 0
  let armed := r.slipArmed || decide (d < r.cfg.slipTh)
  let slipNow := decide (run ≥ r.cfg.slipN) && r.slipArmed
  let r1 := { r with hiRun := hi, loRun := lo, slipRun := run, slipArmed := armed && !slipNow, prev := codes }
  let r2 := if slipNow then { r1 with slip := some ⟨2, r1.peak, r1.mask, none, 0⟩ } else r1
  let r3 : TagRam := if hi ≥ 2 then TagRam.enqueue { r2 with contact := true, hiRun := 0, reportIn := 0 } 0 else r2
  let r4 : TagRam := if lo ≥ 2 then TagRam.enqueue { r3 with contact := false, loRun := 0, slipRun := 0, slipArmed := true } 1 else r3
  if r4.contact ∧ r4.cfg.reportSf ≠ 0 then
    if r4.reportIn + 1 ≥ r4.cfg.reportSf then
      if r4.slip.isNone ∧ r4.queue.isEmpty ∧ r4.retry.isEmpty ∧ r4.sent.isNone then
        { r4 with reportIn := 0, report := some ⟨3, r4.peak, r4.mask, none, 0⟩ }
      else { r4 with reportIn := 0 }
    else { r4 with reportIn := r4.reportIn + 1 }
  else r4

/-- The four bytes of a slot event (Table 20-4). -/
def TagEvent.bytes (e : TagEvent) (seq : Nat) : Bytes :=
  [BitVec.ofNat 8 (e.kind + e.peak / 64 * 4), BitVec.ofNat 8 seq] ++ le 2 e.mask

/-- An admitted tag without a guaranteed slot sends its events as EVENT reports (R431, Table 21-3). -/
def State.tagReports (s : State) : State :=
  if s.ram.net = .admitted ∧ s.ram.gslot = none then
    let es := s.ram.slip.toList ++ s.ram.queue ++ s.ram.report.toList
    let s1 := es.foldl
      (fun s e => (s.tagQueue ([0x41, 0, 0, 0] ++ e.bytes s.ram.nextSeq) false).updRam fun r =>
        { r with nextSeq := (r.nextSeq + 1) % 256 }) s
    s1.updRam fun r => { r with slip := none, queue := [], report := none }
  else s

/-- TAXEL_SCAN: the sixteen capacitances in fF. -/
def execTaxelScan (caps : Vector Nat 16) (s : State) : Host.Outcome State Fault Refusal :=
  .next <|
    if s.tagActive then
      let s1 := s.updRam fun r =>
        let xs := Vector.ofFn fun i : Fin 16 => (r.taxels.get i).scan (caps.get i)
        let n := r.scans + 1
        let moved := if n ≥ 64 ∧ ¬ r.contact then Vector.ofFn fun i : Fin 16 => (xs.get i).drift (caps.get i) else xs
        let codes := xs.toList.map (·.code)
        let mask := maskOf 16 fun i =>
          match xs[i]? with
          | some x => !x.failed && decide (x.code ≥ r.cfg.contactTh)
          | none => false
        TagRam.decideScan
          { r with taxels := moved, scans := if n ≥ 64 then 0 else n, mask := mask, peak := codes.foldl max 0 } codes
          (xs.toList.map (·.failed))
      s1.tagReports
    else s

/-! ## The slot (R431) -/

/-- TAG_SLOT_EVENT_TX: a new slip, a repeat, contact and release in order, the latest report. An event whose beacon the tag
missed was not acknowledged: half a superframe after it was sent, this is a later slot. -/
def execTagSlotEventTx (s : State) : Host.Outcome State Fault Refusal :=
  .next <|
    let r := if s.ram.sentAt + msTicks / 2 ≤ s.now then s.ram.unacked else s.ram
    match r.gslot with
    | none => s
    | some _ =>
      if s.tagActive ∧ r.net = .admitted ∧ r.sent.isNone then
        let fresh (e : TagEvent) (r : TagRam) : State :=
          let e1 := { e with seq := some r.nextSeq, attempts := 1 }
          let s1 := s.updRam fun _ =>
            { r with seq := r.nextSeq, nextSeq := (r.nextSeq + 1) % 256, evSent := satInc 65535 r.evSent, sent := some e1,
                     sentAt := s.now }
          { s1 with out := s1.out ++ [Out.radio false r.channel (e.bytes r.nextSeq)] }
        match r.slip with
        | some e => fresh e { r with slip := none }
        | none =>
          match r.retry with
          | e :: es =>
            let q := e.seq.getD 0
            let s1 := s.updRam fun _ =>
              { r with retry := es, sent := some { e with attempts := e.attempts + 1 }, seq := q, sentAt := s.now }
            { s1 with out := s1.out ++ [Out.radio false r.channel (e.bytes q)] }
          | [] =>
            match r.queue with
            | e :: es => fresh e { r with queue := es }
            | [] =>
              match r.report with
              | some e => fresh e { r with report := none }
              | none => s
      else s

/-! ## Beacons and searches (R426, R431, R435) -/

/-- TAG_BEACON_RX: of its NETID; SLOT_ACK settles the event sent, a countdown is followed, a search ends. -/
def execTagBeaconRx (b : BeaconRx) (s : State) : Host.Outcome State Fault Refusal :=
  .next <|
    let r := s.ram
    let mine : Bool := match r.netId with
      | some n => n == b.netId.toNat
      | none => true
    if s.tagActive ∧ mine then
      let acked : Bool := match r.gslot with
        | some g => b.slotAck.getLsbD g.val
        | none => false
      let ch := match r.countdown with
        | some (c, _) => if b.count = 0 then c else r.channel
        | none => r.channel
      let chNow := if r.net = .search then r.searchCh else ch
      let s1 := s.updRam fun r =>
        let r1 := if acked ∧ r.sent.isSome then { r with sent := none, heardAt := s.now } else r.unacked
        { r1 with netId := some b.netId.toNat, chanMask := b.chanMask.toNat, channel := chNow, kHeld := b.k,
                  countdown := if b.count = 0 then none else some (b.next.toNat, b.count.toNat) }
      if r.net = .search then s1.updRam TagRam.join else s1
    else s

/-- TAG_BEACON_SEARCH: eight consecutive beacons missed. An expelled tag counts its search and sends nothing after it. -/
def execTagBeaconSearch (s : State) : Host.Outcome State Fault Refusal :=
  .next <|
    if s.tagActive ∧ s.ram.net ≠ .search then
      s.updRam fun r =>
        { (if r.net = .expelled then r else r.leave .search) with
          countdown := none, beaconMiss := satInc 65535 r.beaconMiss, searchCh := nextChannel r.chanMask 15,
          dwellFrom := s.now }
    else s

/-- TAG_SEARCH_DWELL_END: 1.2 ms without a beacon; the next channel in ascending cyclic order. -/
def execTagSearchDwellEnd (s : State) : Host.Outcome State Fault Refusal :=
  .next <|
    if s.tagActive ∧ s.ram.net = .search ∧ s.ram.dwellFrom + 120000 ≤ s.now then
      s.updRam fun r => { r with searchCh := nextChannel r.chanMask r.searchCh, dwellFrom := s.now }
    else s

/-! ## The contention period (R427, R432, R433) -/

/-- Length of a queued frame's MPDU. -/
def TagFrame.len (f : TagFrame) : Nat := if f.join then 23 else 15 + f.payload.length

/-- T(LEN) of R393 in half microseconds. -/
def airTime (len : Nat) : Nat :=
  let b := 8 * len + 46
  48 + b + 4 * ((b + 27) / 28)

/-- An exchange begun at boundary `c` of 20 µs fits by 976 µs (R398, R432). -/
def exchangeFits (k c len : Nat) : Bool :=
  let start := (160 + 80 * k + 19) / 20 * 20 + 20 * c
  decide (2 * start + airTime len + 2 * (2 + 24 + 61 + 2) ≤ 2 * 976)

/-- Start the record write that the present FC needs, into the older cell (R427). -/
def State.startRecord (s : State) : State :=
  let t := s.tag
  let key (i : Fin 2) : Nat :=
    match t.cells.get i with
    | some c => if c.crcOk then c.fc + 1 else 0
    | none => 0
  let cell : Fin 2 := if key 0 ≤ key 1 then 0 else 1
  if t.vsto ≥ 2100 then
    s.updRam fun r => { r with write := some ⟨cell, ⟨r.fc, r.floor, t.cold, true⟩, s.now, false⟩ }
  else s

/-- A failed or unacknowledged attempt of the first frame (R432, R433). -/
def State.attemptFailed (s : State) : State :=
  match s.ram.frames with
  | [] => s
  | f :: fs =>
    let n := f.attempts + 1
    if n ≥ 4 then
      if f.join then
        s.updRam fun r =>
          { r with frames := r.dataFrames, be := 3,
                   net := .backoff (s.now + (16 + Config.tagRandom s.draws % 240) * msTicks) }
      else s.updRam fun r => { r with frames := fs, be := 3, noAck := satInc 65535 r.noAck }
    else
      s.updRam fun r => { r with frames := { f with attempts := n, onAir := false } :: fs, be := min 5 (r.be + 1) }

/-- The bytes of a frame's first attempt: FC present, then raised by one. -/
def State.firstAttempt (s : State) (f : TagFrame) : Bytes :=
  let r := s.ram
  let t := s.tag
  if f.join then
    let head := [3, 255, BitVec.ofNat 8 r.frameSeq] ++ le 4 r.fc ++ le 8 t.long
    head ++ fit 8 (Config.ccmSeal t.key (radioNonce t.long r.fc 2 false) 2 head [])
  else
    let head := [2, BitVec.ofNat 8 r.short, BitVec.ofNat 8 r.frameSeq] ++ le 4 r.fc
    head ++ fit (f.payload.length + 8) (Config.ccmSeal t.key (radioNonce t.long r.fc 6 false) 6 head f.payload)

/-- The network state lets a frame be sent: a JOIN while joining, DATA once admitted. -/
def TagNet.lets (n : TagNet) (f : TagFrame) : Bool := if f.join then n == .joining else n == .admitted

/-- TAG_CONTENTION_TX: whether the channel was clear before the chosen boundary comes with it. -/
def execTagContentionTx (clear : Bool) (s : State) : Host.Outcome State Fault Refusal :=
  .next <|
    let r := s.ram
    match r.frames with
    | [] => s
    | f :: fs =>
      if s.tagActive ∧ r.net.lets f ∧ ¬ f.onAir ∧ r.write.isNone then
        if r.fcFail then s
        else if f.mpdu.isNone ∧ r.fc % 256 = 0 ∧ r.fcSaved ≠ r.fc then s.startRecord
        else
          let c := Config.tagRandom s.draws % 2 ^ r.be
          let s0 : State := { s with draws := s.draws + 1 }
          if clear ∧ exchangeFits r.kHeld c f.len then
            let m := f.mpdu.getD (s.firstAttempt f)
            let s1 := s0.updRam fun r =>
              { r with frames := { f with mpdu := some m, onAir := true,
                                          seq := if f.mpdu.isNone then r.frameSeq else f.seq } :: fs,
                       fc := if f.mpdu.isNone then (r.fc + 1) % 2 ^ 32 else r.fc,
                       frameSeq := if f.mpdu.isNone then (r.frameSeq + 1) % 256 else r.frameSeq }
            { s1 with out := s1.out ++ [Out.radio false r.channel m] }
          else s0.attemptFailed
      else s

/-- The tag hears an acknowledgement. -/
def State.tagAck (s : State) (seq : Nat) : State :=
  match s.ram.frames with
  | [] => s
  | f :: fs =>
    if s.tagActive ∧ f.onAir ∧ f.seq = seq then
      let s1 := s.updRam fun r =>
        { r with frames := fs, be := 3, heardAt := s.now,
                 net := if f.join then .awaitAdmit (s.now + 64 * msTicks) else r.net }
      if f.restart then s1.tagBoot else s1.tagPower
    else s

/-- ACK: heard by the coordinator or by the tag. -/
def execAck (coordinator : Bool) (seq : Byte) (s : State) : Host.Outcome State Fault Refusal :=
  .next (if coordinator then s.coordAck seq.toNat else s.tagAck seq.toNat)

/-- TAG_ACK_TIMEOUT: 24 µs after the frame nothing came. -/
def execTagAckTimeout (s : State) : Host.Outcome State Fault Refusal :=
  .next <|
    match s.ram.frames with
    | f :: _ => if s.tagActive ∧ f.onAir then s.attemptFailed.tagPower else s
    | [] => s

/-- A frame that its receiver's hardware acknowledges (R400). -/
def State.ackable (s : State) (coordinator : Bool) (m : Bytes) : Bool :=
  let ft := (m.getD 0 0).toNat
  let short := (m.getD 1 0).toNat
  if coordinator then
    s.radioLive && ((ft == 3 && short == 255) ||
      (ft == 2 && (bankList s.radio.slots).any fun x => x.2.st == .admitted && x.1.val + 1 == short))
  else
    s.tagActive && (((ft == 2 || ft == 5) && s.ram.net == .admitted && short == s.ram.short) ||
      (ft == 4 && (match s.ram.net with
        | .awaitAdmit _ => true
        | .admitted => short == s.ram.short
        | _ => false)))

/-- ACK_TX (R400): the acknowledgement goes out before any MIC or counter check. -/
def execAckTx (coordinator : Bool) (rx : RadioRx) (s : State) : Host.Outcome State Fault Refusal :=
  .next <|
    if rx.crcOk ∧ s.ackable coordinator rx.mpdu then
      { s with out := s.out ++ [Out.radio coordinator (if coordinator then s.radio.ch else s.ram.channel)
          [1, rx.mpdu.getD 2 0]] }
    else s

/-- JOIN_BACKOFF_END (R433). -/
def execJoinBackoffEnd (s : State) : Host.Outcome State Fault Refusal :=
  .next <|
    match s.ram.net with
    | .backoff t => if t ≤ s.now then s.updRam TagRam.join else s
    | _ => s

/-- ADMIT_WAIT_TIMEOUT (R433). -/
def execAdmitWaitTimeout (s : State) : Host.Outcome State Fault Refusal :=
  .next <|
    match s.ram.net with
    | .awaitAdmit t =>
      if t ≤ s.now then s.updRam TagRam.join else s
    | _ => s

/-- ADMIT (R428, R433): the first whose MIC verifies gives the short address and guaranteed slot. -/
def execAdmitFrame (mpdu : Bytes) (s : State) : Host.Outcome State Fault Refusal :=
  .next <|
    let fc := at_ mpdu 3 4
    let awaiting : Bool := match s.ram.net with
      | .awaitAdmit _ => true
      | .admitted => true
      | _ => false
    if s.tagActive ∧ awaiting ∧ mpdu.length = 16 ∧ mpdu.getD 0 0 = 4 ∧ fc > s.ram.floor then
      match Config.ccmOpen s.tag.key (radioNonce s.tag.long fc 6 true) 6 (mpdu.take 7) (mpdu.drop 7) with
      | none => s
      | some p =>
        let g := (p.getD 0 255).toNat
        s.updTag fun t =>
          { t with svnMin := max t.svnMin (t.banks.get t.running).svn,
                   ram := { t.ram.unacked with
                            net := .admitted, short := (mpdu.getD 1 0).toNat,
                            gslot := if h : g < 8 then some ⟨g, h⟩ else none, floor := fc, nextSeq := 0,
                            heardAt := s.now } }
    else s

/-- EXPEL (R433). -/
def execExpel (mpdu : Bytes) (s : State) : Host.Outcome State Fault Refusal :=
  .next <|
    let fc := at_ mpdu 3 4
    if s.tagActive ∧ s.ram.net = .admitted ∧ mpdu.length = 15 ∧ mpdu.getD 0 0 = 5
        ∧ (mpdu.getD 1 0).toNat = s.ram.short ∧ fc > s.ram.floor then
      match Config.ccmOpen s.tag.key (radioNonce s.tag.long fc 6 true) 6 (mpdu.take 7) (mpdu.drop 7) with
      | none => s
      | some _ =>
        s.updRam fun r =>
          { r with net := .expelled, floor := fc, frames := [], sent := none, retry := [], short := 0, gslot := none }
    else s

/-- HEARD_TIMEOUT (R434). -/
def execHeardTimeout (s : State) : Host.Outcome State Fault Refusal :=
  .next <|
    let r := s.ram
    if s.tagActive ∧ r.net = .admitted ∧ r.heardAt + r.cfg.heardMs * msTicks ≤ s.now then
      if r.gslot.isSome then
        s.updRam fun r => { r with report := some ⟨3, 0, 0, none, 0⟩ }
      else
        s.tagQueue ([0x40, 0, BitVec.ofNat 8 s.tag.st.code, 0] ++ le 2 s.tag.vsto ++ [0, 0] ++ le 4 r.fc) false
    else s

/-- FC_RECORD_WRITE_DONE (R427, R441): after 2 ms; a failed read-back tries the other cell, and both failing sets
FC_FAIL. -/
def execFcRecordWriteDone (ok : Bool) (s : State) : Host.Outcome State Fault Refusal :=
  .next <|
    match s.ram.write with
    | none => s
    | some w =>
      if w.startAt + 2 * msTicks ≤ s.now then
        if ok then
          s.updTag fun t =>
            { t with cells := bankSet t.cells w.cell (some w.rec_),
                     ram := { t.ram with write := none, fcSaved := w.rec_.fc } }
        else
          let torn := s.updTag fun t => { t with cells := bankSet t.cells w.cell (some { w.rec_ with crcOk := false }) }
          if w.second then torn.updRam fun r => { r with write := none, fcFail := true }
          else torn.updRam fun r => { r with write := some { w with cell := w.cell + 1, second := true, startAt := s.now } }
      else s

/-! ## Registers (R438) -/

/-- A word of the tag's map. -/
def tagRead (s : State) (off : Nat) : Nat :=
  let t := s.tag
  let r := t.ram
  let b := t.banks.get t.running
  if off = 0x000 then 0x4C540002
  else if off = 0x004 then 0xA1
  else if off = 0x008 then b.version
  else if off = 0x00C then b.svn + t.svnMin * 65536
  else if off = 0x010 then t.long % 2 ^ 32
  else if off = 0x014 then t.long / 2 ^ 32
  else if off = 0x020 then t.st.code + bitAt 3 r.ovp + bitAt 4 r.fwFallback + min 511 (t.vsto / 10) * 65536
  else if off = 0x024 then r.cfg.vSleep + r.cfg.vWake * 65536
  else if off = 0x028 then
    r.cfg.period + r.cfg.kVib * 256 + r.cfg.kTeg * 65536 + bitAt 24 r.cfg.vibEn + bitAt 25 r.cfg.tegEn
  else if off = 0x02C then r.vocVib + r.vocTeg * 65536
  else if off = 0x040 then r.cfg.heardMs + r.cfg.txDbm * 65536
  else if off = 0x044 then
    (if r.net = .admitted then r.short else 0)
      + (match r.gslot with
         | some g => g.val
         | none => 15) * 256
      + r.channel * 4096 + r.seq * 65536 + bitAt 24 (r.net == .admitted) + bitAt 25 r.fcFail
  else if off = 0x048 then r.fc
  else if off = 0x04C then r.fcSaved
  else if off = 0x050 then r.floor
  else if off = 0x060 then r.cfg.contactTh + r.cfg.releaseTh * 65536
  else if off = 0x064 then r.cfg.slipTh + r.cfg.slipN * 65536 + r.cfg.reportSf * 2 ^ 24
  else if h : 0x080 ≤ off ∧ off < 0x0C0 then
    let x := r.taxels.get ⟨(off - 0x080) / 4, by omega⟩
    x.code + min 4095 (x.base / 10) * 65536 + bitAt 28 x.failed
  else if off = 0x0C0 then r.mask + bitAt 16 r.contact + r.peak * 2 ^ 20
  else if off = 0x100 then r.evSent + r.evDrop * 65536
  else if off = 0x104 then r.noAck + r.brownouts * 65536
  else if off = 0x108 then t.cold + r.beaconMiss * 65536
  else 0

/-- A value a tag register accepts. -/
def tagCheck (off v : Nat) : Bool :=
  if off = 0x024 then
    decide (220 ≤ bits 8 0 v) && decide (bits 8 0 v ≤ 380) && decide (bits 8 0 v + 20 ≤ bits 24 16 v)
      && decide (bits 24 16 v ≤ 400)
  else if off = 0x028 then
    decide (1 ≤ bits 5 0 v) && decide (bits 5 0 v ≤ 32) && decide (20 ≤ bits 13 8 v) && decide (bits 13 8 v ≤ 51)
      && decide (20 ≤ bits 21 16 v) && decide (bits 21 16 v ≤ 51)
  else if off = 0x040 then
    decide (5 ≤ bits 14 0 v) && decide (bits 14 0 v ≤ 30000) && decide (-20 ≤ signed 6 (bits 21 16 v))
      && decide (signed 6 (bits 21 16 v) ≤ 4)
  else if off = 0x060 then
    decide (1 ≤ bits 11 0 v) && decide (1 ≤ bits 27 16 v) && decide (bits 27 16 v ≤ bits 11 0 v)
  else if off = 0x064 then decide (1 ≤ bits 15 0 v) && decide (1 ≤ bits 19 16 v) && decide (bits 19 16 v ≤ 8)
  else true

/-- Write one tag register whose value has been checked. -/
def State.tagWrite (s : State) (off v : Nat) : State :=
  s.updRam fun r =>
    if off = 0x024 then { r with cfg := { r.cfg with vSleep := bits 8 0 v, vWake := bits 24 16 v } }
    else if off = 0x028 then
      { r with cfg := { r.cfg with period := bits 5 0 v, kVib := bits 13 8 v, kTeg := bits 21 16 v, vibEn := bit 24 v,
                                   tegEn := bit 25 v },
               sampledAt := if (bit 24 v && !r.cfg.vibEn) || (bit 25 v && !r.cfg.tegEn) then none else r.sampledAt }
    else if off = 0x040 then { r with cfg := { r.cfg with heardMs := bits 14 0 v, txDbm := bits 21 16 v } }
    else if off = 0x060 then { r with cfg := { r.cfg with contactTh := bits 11 0 v, releaseTh := bits 27 16 v } }
    else if off = 0x064 then
      { r with cfg := { r.cfg with slipTh := bits 15 0 v, slipN := bits 19 16 v, reportSf := bits 31 24 v } }
    else if off = 0x10C ∧ v.testBit 0 then
      { r with evSent := 0, evDrop := 0, noAck := 0, brownouts := 0, beaconMiss := 0 }
    else r

/-! ## Commands over the radio (R428, R436, R437) -/

/-- A command of an accepted DATA frame: it acts once, and is discarded where its FC is not above the floor. -/
def State.tagCommand (s : State) (c : TagCmdRx) (f : State → State) : State :=
  if s.tagActive ∧ s.ram.net = .admitted ∧ c.fc.toNat > s.ram.floor then
    f (s.updRam fun r => { r with floor := c.fc.toNat })
  else s

/-- Queue a reply: CMD + 0x80, the ID, a status and values; TOO_LONG where it does not fit at the present K. -/
def State.tagReply (s : State) (cmd : Nat) (c : TagCmdRx) (status : Nat) (values : Bytes) (restart : Bool) : State :=
  let p : Bytes := [BitVec.ofNat 8 (cmd + 128), c.id, BitVec.ofNat 8 status, 0] ++ values
  if p.length > sendLimit s.ram.kHeld then s.tagQueue [BitVec.ofNat 8 (cmd + 128), c.id, 4, 0] false
  else s.tagQueue p restart

/-- End of the tag's register map (Table 21-5). -/
def tagMapEnd : Nat := 0x110

/-- READ. -/
def execRead (c : TagCmdRx) (addr : BitVec 16) (count : Byte) (s : State) : Host.Outcome State Fault Refusal :=
  .next <| s.tagCommand c fun s =>
    let a := addr.toNat
    let n := count.toNat
    if a % 4 ≠ 0 ∨ n = 0 ∨ n > 28 ∨ a + 4 * n > tagMapEnd then s.tagReply 0x01 c 2 [] false
    else s.tagReply 0x01 c 0 (((List.range n).map fun i => le 4 (tagRead s (a + 4 * i))).flatten) false

/-- The words of a WRITE act together or not at all. -/
def State.tagWrites (s : State) (c : TagCmdRx) (a : Nat) (values : List Word) : State :=
  let n := values.length
  let ws := values.zipIdx.map fun x => (a + 4 * x.2, x.1.toNat)
  if a % 4 ≠ 0 ∨ n = 0 ∨ n > 28 ∨ a + 4 * n > tagMapEnd then s.tagReply 0x02 c 2 [] false
  else if ws.all fun w => tagCheck w.1 w.2 then
    ((ws.foldl (fun s w => s.tagWrite w.1 w.2) s).tagReply 0x02 c 0 [] false).tagPower
  else s.tagReply 0x02 c 3 [] false

/-- WRITE. -/
def execWrite (c : TagCmdRx) (addr : BitVec 16) (values : List Word) (s : State) : Host.Outcome State Fault Refusal :=
  .next <| s.tagCommand c fun s => s.tagWrites c addr.toNat values

/-- TCNT_CLR: a WRITE of that register. -/
def execTcntClr (c : TagCmdRx) (value : Word) (s : State) : Host.Outcome State Fault Refusal :=
  .next <| s.tagCommand c fun s => s.tagWrites c 0x10C [value]

/-- The bank that is not running. -/
def Tag.idle (t : Tag) : Fin 2 := t.running + 1

/-- FW_WRITE (R437). -/
def execFwWrite (c : TagCmdRx) (offset : Word) (image : Bytes) (s : State) : Host.Outcome State Fault Refusal :=
  .next <| s.tagCommand c fun s =>
    let o := offset.toNat
    if s.tag.vsto < s.ram.cfg.vWake * 10 then s.tagReply 0x10 c 5 [] false
    else if (o ≠ s.tag.written ∧ o ≠ 0) ∨ o + image.length > 65536 then s.tagReply 0x10 c 7 [] false
    else
      (s.updTag fun t =>
        { t with banks := bankUpd t.banks t.idle fun b => { b with bytes := b.bytes.take o ++ image },
                 written := o + image.length }).tagReply 0x10 c 0 [] false

/-- FW_COMMIT of the tag: verification starts. -/
def execTagFwCommit (c : TagCmdRx) (length : Word) (s : State) : Host.Outcome State Fault Refusal :=
  .next <| s.tagCommand c fun s =>
    if s.tag.vsto < s.ram.cfg.vWake * 10 then s.tagReply 0x11 c 5 [] false
    else if length.toNat ≠ s.tag.written then s.tagReply 0x11 c 7 [] false
    else s.updRam fun r => { r with verifyAt := some s.now, verifyId := c.id.toNat }

/-- An image passes the tag's verification (R437). -/
def tagImageOk (t : Tag) (i : ImageInfo) : Bool :=
  i.sigOk && i.index == 5 && Config.fwKeyDigests.contains i.keyDigest && decide (t.svnMin ≤ i.svn.toNat)
    && i.manifest.any fun e => decide (e.subject.toNat < 0x10) && e.value.toNat % 256 == 0xA1

/-- TAG_FW_VERIFY_DONE (R437). -/
def execTagFwVerifyDone (s : State) : Host.Outcome State Fault Refusal :=
  .next <|
    match s.ram.verifyAt with
    | none => s
    | some _ =>
      let c : TagCmdRx := ⟨0, 0, BitVec.ofNat 8 s.ram.verifyId⟩
      let s1 := s.updRam fun r => { r with verifyAt := none }
      match Config.parseImage ((s.tag.banks.get s.tag.idle).bytes.take s.tag.written) with
      | some i =>
        if tagImageOk s.tag i then
          (s1.updTag fun t =>
            { t with banks := bankUpd
                       (bankUpd t.banks t.idle fun b =>
                         { b with committed := true, version := i.version.toNat, svn := i.svn.toNat })
                       t.running fun b => { b with committed := false } }).tagReply 0x11 c 0 [] true
        else s1.tagReply 0x11 c 6 [] false
      | none => s1.tagReply 0x11 c 6 [] false

/-- RESTART. -/
def execRestart (c : TagCmdRx) (s : State) : Host.Outcome State Fault Refusal :=
  .next <| s.tagCommand c fun s => s.tagReply 0x20 c 0 [] true

end Sys2Proof.Machine
end

