-- ==== Sys2Proof/Machine/Dispatch.lean ====
section
/-! DEFINITION. The dispatch of every row of the opcode table to its meaning. -/

namespace Sys2Proof.Machine

def exec (i : Instr) (s : State) : Host.Outcome State Fault Refusal :=
  match i with
  | .hello h => Sys2Proof.Machine.execHello h s
  | .openSession h p => Sys2Proof.Machine.execOpenSession h p s
  | .closeSession h => Sys2Proof.Machine.execCloseSession h s
  | .getWatermark h nonce => Sys2Proof.Machine.execGetWatermark h nonce s
  | .getCerts h offset length => Sys2Proof.Machine.execGetCerts h offset length s
  | .leaseTake h p => Sys2Proof.Machine.execLeaseTake h p s
  | .leaseRenew h p => Sys2Proof.Machine.execLeaseRenew h p s
  | .leaseRelease h => Sys2Proof.Machine.execLeaseRelease h s
  | .leaseQuery h => Sys2Proof.Machine.execLeaseQuery h s
  | .regRead h addr count => Sys2Proof.Machine.execRegRead h addr count s
  | .regWrite h p => Sys2Proof.Machine.execRegWrite h p s
  | .regModify h addr mask value => Sys2Proof.Machine.execRegModify h addr mask value s
  | .memAlloc h size place => Sys2Proof.Machine.execMemAlloc h size place s
  | .memFree h region => Sys2Proof.Machine.execMemFree h region s
  | .memWrite h region offset data => Sys2Proof.Machine.execMemWrite h region offset data s
  | .memRead h region length offset => Sys2Proof.Machine.execMemRead h region length offset s
  | .memFill h region pattern offset length => Sys2Proof.Machine.execMemFill h region pattern offset length s
  | .graphLoad h region offset length => Sys2Proof.Machine.execGraphLoad h region offset length s
  | .graphUnload h graph => Sys2Proof.Machine.execGraphUnload h graph s
  | .jobSubmit h p => Sys2Proof.Machine.execJobSubmit h p s
  | .jobCancel h tag => Sys2Proof.Machine.execJobCancel h tag s
  | .jobStatus h tag release => Sys2Proof.Machine.execJobStatus h tag release s
  | .resultFetch h tag release first count => Sys2Proof.Machine.execResultFetch h tag release first count s
  | .tokenAlloc h initial => Sys2Proof.Machine.execTokenAlloc h initial s
  | .tokenSignal h token amount => Sys2Proof.Machine.execTokenSignal h token amount s
  | .tokenWait h token amount timeout => Sys2Proof.Machine.execTokenWait h token amount timeout s
  | .tokenFree h token => Sys2Proof.Machine.execTokenFree h token s
  | .sensorConfig h p => Sys2Proof.Machine.execSensorConfig h p s
  | .sensorArm h p => Sys2Proof.Machine.execSensorArm h p s
  | .sensorDisarm h mode => Sys2Proof.Machine.execSensorDisarm h mode s
  | .timeGet h => Sys2Proof.Machine.execTimeGet h s
  | .timeRefSelect h p => Sys2Proof.Machine.execTimeRefSelect h p s
  | .pulseConfig h p => Sys2Proof.Machine.execPulseConfig h p s
  | .axisConfig h p => Sys2Proof.Machine.execAxisConfig h p s
  | .axisEnable h en realign => Sys2Proof.Machine.execAxisEnable h en realign s
  | .axisCommand h p => Sys2Proof.Machine.execAxisCommand h p s
  | .axisStop h cat => Sys2Proof.Machine.execAxisStop h cat s
  | .observerLoad h p => Sys2Proof.Machine.execObserverLoad h p s
  | .axisStatus h => Sys2Proof.Machine.execAxisStatus h s
  | .lightGroupConfig h p => Sys2Proof.Machine.execLightGroupConfig h p s
  | .lightSet h p => Sys2Proof.Machine.execLightSet h p s
  | .strobeArm h p => Sys2Proof.Machine.execStrobeArm h p s
  | .matrixFrame h p => Sys2Proof.Machine.execMatrixFrame h p s
  | .gearConfig h p => Sys2Proof.Machine.execGearConfig h p s
  | .radioConfig h p => Sys2Proof.Machine.execRadioConfig h p s
  | .tagAdmit h p => Sys2Proof.Machine.execTagAdmit h p s
  | .tagExpel h => Sys2Proof.Machine.execTagExpel h s
  | .tagSend h p => Sys2Proof.Machine.execTagSend h p s
  | .tagEventsFetch h maxWords => Sys2Proof.Machine.execTagEventsFetch h maxWords s
  | .linkTestStart h p => Sys2Proof.Machine.execLinkTestStart h p s
  | .linkTestResult h => Sys2Proof.Machine.execLinkTestResult h s
  | .safeStop h mask cat => Sys2Proof.Machine.execSafeStop h mask cat s
  | .safeRelease h mask => Sys2Proof.Machine.execSafeRelease h mask s
  | .safeStatus h => Sys2Proof.Machine.execSafeStatus h s
  | .fwStage h p => Sys2Proof.Machine.execFwStage h p s
  | .fwCommit h slot token => Sys2Proof.Machine.execFwCommit h slot token s
  | .resetDevice h delay => Sys2Proof.Machine.execResetDevice h delay s
  | .eventSubscribe h mask enc => Sys2Proof.Machine.execEventSubscribe h mask enc s
  | .ping h data => Sys2Proof.Machine.execPing h data s
  | .getVersion => Sys2Proof.Machine.execGetVersion s
  | .getCapabilities => Sys2Proof.Machine.execGetCapabilities s
  | .negotiateAlgorithms => Sys2Proof.Machine.execNegotiateAlgorithms s
  | .getDigests => Sys2Proof.Machine.execGetDigests s
  | .getCertificate slot offset length => Sys2Proof.Machine.execGetCertificate slot offset length s
  | .challenge slot nonce => Sys2Proof.Machine.execChallenge slot nonce s
  | .getMeasurements signed operation slot nonce => Sys2Proof.Machine.execGetMeasurements signed operation slot nonce s
  | .spdmUnsupportedRequest code => Sys2Proof.Machine.execSpdmUnsupportedRequest code s
  | .sqTailWrite value => Sys2Proof.Machine.execSqTailWrite value s
  | .cqHeadWrite value => Sys2Proof.Machine.execCqHeadWrite value s
  | .eqHeadWrite value => Sys2Proof.Machine.execEqHeadWrite value s
  | .hpaCtrlWrite offset value => Sys2Proof.Machine.execHpaCtrlWrite offset value s
  | .hpaSqFetch entry packet => Sys2Proof.Machine.execHpaSqFetch entry packet s
  | .hpbDatagramRx rx srcPort fragmented frameBytes datagram => Sys2Proof.Machine.execHpbDatagramRx rx srcPort fragmented frameBytes datagram s
  | .sfpFrameRx frame => Sys2Proof.Machine.execSfpFrameRx frame s
  | .mntFrameRx frame => Sys2Proof.Machine.execMntFrameRx frame s
  | .eventDeliver port => Sys2Proof.Machine.execEventDeliver port s
  | .arpRequest rx senderIp targetIp => Sys2Proof.Machine.execArpRequest rx senderIp targetIp s
  | .icmpEcho rx fragmented message => Sys2Proof.Machine.execIcmpEcho rx fragmented message s
  | .netCfgApply => Sys2Proof.Machine.execNetCfgApply s
  | .pciePerstN => Sys2Proof.Machine.execPciePerstN s
  | .ethLinkDown => Sys2Proof.Machine.execEthLinkDown s
  | .hpaRingError => Sys2Proof.Machine.execHpaRingError s
  | .sfpLinkLoss => Sys2Proof.Machine.execSfpLinkLoss s
  | .sfpStopNFall => Sys2Proof.Machine.execSfpStopNFall s
  | .sfpStopNRise => Sys2Proof.Machine.execSfpStopNRise s
  | .leaseExpiry cls index => Sys2Proof.Machine.execLeaseExpiry cls index s
  | .stageTimeout => Sys2Proof.Machine.execStageTimeout s
  | .resetDeviceDelayEnd => Sys2Proof.Machine.execResetDeviceDelayEnd s
  | .vfdUp => Sys2Proof.Machine.execVfdUp s
  | .powerLoss => Sys2Proof.Machine.execPowerLoss s
  | .resetNAssert => Sys2Proof.Machine.execResetNAssert s
  | .resetNRelease => Sys2Proof.Machine.execResetNRelease s
  | .pllLock => Sys2Proof.Machine.execPllLock s
  | .pllLockTimeout => Sys2Proof.Machine.execPllLockTimeout s
  | .boot1Verified => Sys2Proof.Machine.execBoot1Verified s
  | .imagesVerified => Sys2Proof.Machine.execImagesVerified s
  | .bootThermalWaitEnd => Sys2Proof.Machine.execBootThermalWaitEnd s
  | .earlyReached => Sys2Proof.Machine.execEarlyReached s
  | .hbmTrained => Sys2Proof.Machine.execHbmTrained s
  | .hbmTrainingFail source => Sys2Proof.Machine.execHbmTrainingFail source s
  | .ccWatchdogExpiry => Sys2Proof.Machine.execCcWatchdogExpiry s
  | .tempConversion sensor reading => Sys2Proof.Machine.execTempConversion sensor reading s
  | .tempConversionTimeout sensor => Sys2Proof.Machine.execTempConversionTimeout sensor s
  | .ceilingStep => Sys2Proof.Machine.execCeilingStep s
  | .vcoreShutdownStep => Sys2Proof.Machine.execVcoreShutdownStep s
  | .avsTransactionDone kind ok value alert => Sys2Proof.Machine.execAvsTransactionDone kind ok value alert s
  | .avsRetry ok value alert => Sys2Proof.Machine.execAvsRetry ok value alert s
  | .monitorWindowEnd rates pkgDw => Sys2Proof.Machine.execMonitorWindowEnd rates pkgDw s
  | .hsWdtExpiry core => Sys2Proof.Machine.execHsWdtExpiry core s
  | .lateArrival core => Sys2Proof.Machine.execLateArrival core s
  | .clockMonitorCount edges => Sys2Proof.Machine.execClockMonitorCount edges s
  | .pllLockLoss field => Sys2Proof.Machine.execPllLockLoss field s
  | .xt32Fail => Sys2Proof.Machine.execXt32Fail s
  | .dbgHaltWrite h value => Sys2Proof.Machine.execDbgHaltWrite h value s
  | .coreHalted core => Sys2Proof.Machine.execCoreHalted core s
  | .faultCntClr h value => Sys2Proof.Machine.execFaultCntClr h value s
  | .tjPeakClr h value => Sys2Proof.Machine.execTjPeakClr h value s
  | .enrol h value => Sys2Proof.Machine.execEnrol h value s
  | .revoke h value => Sys2Proof.Machine.execRevoke h value s
  | .enrolComplete written => Sys2Proof.Machine.execEnrolComplete written s
  | .eccCntClr h value => Sys2Proof.Machine.execEccCntClr h value s
  | .entropyTestFail startup => Sys2Proof.Machine.execEntropyTestFail startup s
  | .entropyRecover => Sys2Proof.Machine.execEntropyRecover s
  | .drbgReseed => Sys2Proof.Machine.execDrbgReseed s
  | .scrubPass place corrected line => Sys2Proof.Machine.execScrubPass place corrected line s
  | .memUncorrectable self met tag mismatch region line => Sys2Proof.Machine.execMemUncorrectable self met tag mismatch region line s
  | .tokenMisuse core token => Sys2Proof.Machine.execTokenMisuse core token s
  | .hashRebuild at_ => Sys2Proof.Machine.execHashRebuild at_ s
  | .attemptStopped tag => Sys2Proof.Machine.execAttemptStopped tag s
  | .jobDispatch => Sys2Proof.Machine.execJobDispatch s
  | .attemptComplete tag => Sys2Proof.Machine.execAttemptComplete tag s
  | .sensorWindowExpiry tag => Sys2Proof.Machine.execSensorWindowExpiry tag s
  | .coreSelfTestDone core pass => Sys2Proof.Machine.execCoreSelfTestDone core pass s
  | .coreIdleOff core => Sys2Proof.Machine.execCoreIdleOff core s
  | .numCntClr h value => Sys2Proof.Machine.execNumCntClr h value s
  | .jobCntClr h value => Sys2Proof.Machine.execJobCntClr h value s
  | .camCommit h port value => Sys2Proof.Machine.execCamCommit h port value s
  | .hbCntClr h value => Sys2Proof.Machine.execHbCntClr h value s
  | .sensorFs port conf fnum corrected => Sys2Proof.Machine.execSensorFs port conf fnum corrected s
  | .sensorLongPacket port vc dt ecc crcOk payload => Sys2Proof.Machine.execSensorLongPacket port vc dt ecc crcOk payload s
  | .sensorFe port conf fnum corrected => Sys2Proof.Machine.execSensorFe port conf fnum corrected s
  | .sensorFrameTimeout port => Sys2Proof.Machine.execSensorFrameTimeout port s
  | .sensorClkLost port => Sys2Proof.Machine.execSensorClkLost port s
  | .sensorTriggerEdge port => Sys2Proof.Machine.execSensorTriggerEdge port s
  | .snsErrClr h port value => Sys2Proof.Machine.execSnsErrClr h port value s
  | .lastFs0Read h port => Sys2Proof.Machine.execLastFs0Read h port s
  | .ptpAnnounceRx m => Sys2Proof.Machine.execPtpAnnounceRx m s
  | .ptpSyncRx m => Sys2Proof.Machine.execPtpSyncRx m s
  | .ptpFollowUpRx m => Sys2Proof.Machine.execPtpFollowUpRx m s
  | .ptpDelayReqTx sub => Sys2Proof.Machine.execPtpDelayReqTx sub s
  | .ptpDelayRespRx m => Sys2Proof.Machine.execPtpDelayRespRx m s
  | .ptpPdelayReqTx sub => Sys2Proof.Machine.execPtpPdelayReqTx sub s
  | .ptpPdelayReqRx m => Sys2Proof.Machine.execPtpPdelayReqRx m s
  | .ptpPdelayRespRx m => Sys2Proof.Machine.execPtpPdelayRespRx m s
  | .ptpSyncLoss => Sys2Proof.Machine.execPtpSyncLoss s
  | .ppsiEdge rising sub => Sys2Proof.Machine.execPpsiEdge rising sub s
  | .ppsiLoss => Sys2Proof.Machine.execPpsiLoss s
  | .timeStep => Sys2Proof.Machine.execTimeStep s
  | .primaryRevert => Sys2Proof.Machine.execPrimaryRevert s
  | .tpLeadingEdge pulse => Sys2Proof.Machine.execTpLeadingEdge pulse s
  | .tpTrailingEdge pulse => Sys2Proof.Machine.execTpTrailingEdge pulse s
  | .msTick edDbm locked => Sys2Proof.Machine.execMsTick edDbm locked s
  | .tbNow0Read h => Sys2Proof.Machine.execTbNow0Read h s
  | .tbCntClr h value => Sys2Proof.Machine.execTbCntClr h value s
  | .configStoreWriteDone ok => Sys2Proof.Machine.execConfigStoreWriteDone ok s
  | .timerValley timer => Sys2Proof.Machine.execTimerValley timer s
  | .timerPeak timer => Sys2Proof.Machine.execTimerPeak timer s
  | .timerCapture timer => Sys2Proof.Machine.execTimerCapture timer s
  | .timRst h timer value => Sys2Proof.Machine.execTimRst h timer value s
  | .timGtFuncWrite h timer slot value => Sys2Proof.Machine.execTimGtFuncWrite h timer slot value s
  | .timCntLoRead h timer => Sys2Proof.Machine.execTimCntLoRead h timer s
  | .timCapLoRead h timer => Sys2Proof.Machine.execTimCapLoRead h timer s
  | .axisFlt axis => Sys2Proof.Machine.execAxisFlt axis s
  | .axisValleySample axis v => Sys2Proof.Machine.execAxisValleySample axis v s
  | .axisZeroDone axis offsets => Sys2Proof.Machine.execAxisZeroDone axis offsets s
  | .alignDone axis => Sys2Proof.Machine.execAlignDone axis s
  | .motorStill axis => Sys2Proof.Machine.execMotorStill axis s
  | .rampTimeout axis => Sys2Proof.Machine.execRampTimeout axis s
  | .axCntClr h axis value => Sys2Proof.Machine.execAxCntClr h axis value s
  | .safeCntClr h value => Sys2Proof.Machine.execSafeCntClr h value s
  | .calenderOutput axis kind => Sys2Proof.Machine.execCalenderOutput axis kind s
  | .observerDeadlineMiss axis kind => Sys2Proof.Machine.execObserverDeadlineMiss axis kind s
  | .weightRestoreDone axis kind => Sys2Proof.Machine.execWeightRestoreDone axis kind s
  | .obsCntClr h axis value => Sys2Proof.Machine.execObsCntClr h axis value s
  | .illumValley vstrMv => Sys2Proof.Machine.execIllumValley vstrMv s
  | .lightSetApply group => Sys2Proof.Machine.execLightSetApply group s
  | .ltsConversion sensor mv => Sys2Proof.Machine.execLtsConversion sensor mv s
  | .vstrDischarged => Sys2Proof.Machine.execVstrDischarged s
  | .stageResume => Sys2Proof.Machine.execStageResume s
  | .vstrOvervoltage mv => Sys2Proof.Machine.execVstrOvervoltage mv s
  | .strobeWindowOpen group => Sys2Proof.Machine.execStrobeWindowOpen group s
  | .strobeWindowClose group => Sys2Proof.Machine.execStrobeWindowClose group s
  | .matrixLine => Sys2Proof.Machine.execMatrixLine s
  | .matrixOvercurrent => Sys2Proof.Machine.execMatrixOvercurrent s
  | .igFaultClear h group value => Sys2Proof.Machine.execIgFaultClear h group value s
  | .mxFaultClear h value => Sys2Proof.Machine.execMxFaultClear h value s
  | .dimCfgWrite h value => Sys2Proof.Machine.execDimCfgWrite h value s
  | .stageCtrlClr h value => Sys2Proof.Machine.execStageCtrlClr h value s
  | .illCntClr h value => Sys2Proof.Machine.execIllCntClr h value s
  | .lbusForwardFrame bus frame => Sys2Proof.Machine.execLbusForwardFrame bus frame s
  | .lbusBackwardFrame bus => Sys2Proof.Machine.execLbusBackwardFrame bus s
  | .dapc bus dst level => Sys2Proof.Machine.execDapc bus dst level s
  | .up bus dst => Sys2Proof.Machine.execUp bus dst s
  | .down bus dst => Sys2Proof.Machine.execDown bus dst s
  | .fadeTime bus dst x => Sys2Proof.Machine.execFadeTime bus dst x s
  | .fadeRate bus dst y => Sys2Proof.Machine.execFadeRate bus dst y s
  | .setExtendedFadeTime bus dst => Sys2Proof.Machine.execSetExtendedFadeTime bus dst s
  | .queryActualLevel bus dst => Sys2Proof.Machine.execQueryActualLevel bus dst s
  | .queryStatus bus dst => Sys2Proof.Machine.execQueryStatus bus dst s
  | .initialise bus which => Sys2Proof.Machine.execInitialise bus which s
  | .randomise bus => Sys2Proof.Machine.execRandomise bus s
  | .compare bus => Sys2Proof.Machine.execCompare bus s
  | .terminate bus => Sys2Proof.Machine.execTerminate bus s
  | .identifyDevice bus dst => Sys2Proof.Machine.execIdentifyDevice bus dst s
  | .identifyEnd gear => Sys2Proof.Machine.execIdentifyEnd gear s
  | .initialiseTimeout gear => Sys2Proof.Machine.execInitialiseTimeout gear s
  | .readMemoryLocation bus dst => Sys2Proof.Machine.execReadMemoryLocation bus dst s
  | .enableDeviceType6 bus => Sys2Proof.Machine.execEnableDeviceType6 bus s
  | .selectDimmingCurve bus dst curve => Sys2Proof.Machine.execSelectDimmingCurve bus dst curve s
  | .queryDimmingCurve bus dst => Sys2Proof.Machine.execQueryDimmingCurve bus dst s
  | .queryGearType bus dst => Sys2Proof.Machine.execQueryGearType bus dst s
  | .queryPossibleOperatingModes bus dst => Sys2Proof.Machine.execQueryPossibleOperatingModes bus dst s
  | .queryFeatures bus dst => Sys2Proof.Machine.execQueryFeatures bus dst s
  | .queryFailureStatus bus dst => Sys2Proof.Machine.execQueryFailureStatus bus dst s
  | .queryFastFadeTime bus dst => Sys2Proof.Machine.execQueryFastFadeTime bus dst s
  | .queryMinFastFadeTime bus dst => Sys2Proof.Machine.execQueryMinFastFadeTime bus dst s
  | .lbusPowerLoss bus => Sys2Proof.Machine.execLbusPowerLoss bus s
  | .lbusPowerRestore bus => Sys2Proof.Machine.execLbusPowerRestore bus s
  | .lbusCntClr h bus value => Sys2Proof.Machine.execLbusCntClr h bus value s
  | .rxEvmAbort evm => Sys2Proof.Machine.execRxEvmAbort evm s
  | .join rx => Sys2Proof.Machine.execJoin rx s
  | .data rx => Sys2Proof.Machine.execData rx s
  | .slotEvent slot rx => Sys2Proof.Machine.execSlotEvent slot rx s
  | .ack coordinator seq => Sys2Proof.Machine.execAck coordinator seq s
  | .ackTx coordinator rx => Sys2Proof.Machine.execAckTx coordinator rx s
  | .coordExchange => Sys2Proof.Machine.execCoordExchange s
  | .coordAckTimeout => Sys2Proof.Machine.execCoordAckTimeout s
  | .admitTimeout slot => Sys2Proof.Machine.execAdmitTimeout slot s
  | .tagSilenceDrop slot => Sys2Proof.Machine.execTagSilenceDrop slot s
  | .radCntClr h value => Sys2Proof.Machine.execRadCntClr h value s
  | .tagVstoThreshold mv => Sys2Proof.Machine.execTagVstoThreshold mv s
  | .tagNrstRelease => Sys2Proof.Machine.execTagNrstRelease s
  | .tagBootDone bankOk => Sys2Proof.Machine.execTagBootDone bankOk s
  | .mpptSample vibMv tegDmv => Sys2Proof.Machine.execMpptSample vibMv tegDmv s
  | .taxelScan caps => Sys2Proof.Machine.execTaxelScan caps s
  | .tagBeaconRx b => Sys2Proof.Machine.execTagBeaconRx b s
  | .tagBeaconSearch => Sys2Proof.Machine.execTagBeaconSearch s
  | .tagSlotEventTx => Sys2Proof.Machine.execTagSlotEventTx s
  | .tagContentionTx clear => Sys2Proof.Machine.execTagContentionTx clear s
  | .joinBackoffEnd => Sys2Proof.Machine.execJoinBackoffEnd s
  | .admitFrame mpdu => Sys2Proof.Machine.execAdmitFrame mpdu s
  | .expel mpdu => Sys2Proof.Machine.execExpel mpdu s
  | .admitWaitTimeout => Sys2Proof.Machine.execAdmitWaitTimeout s
  | .heardTimeout => Sys2Proof.Machine.execHeardTimeout s
  | .fcRecordWriteDone ok => Sys2Proof.Machine.execFcRecordWriteDone ok s
  | .read c addr count => Sys2Proof.Machine.execRead c addr count s
  | .write c addr values => Sys2Proof.Machine.execWrite c addr values s
  | .fwWrite c offset image => Sys2Proof.Machine.execFwWrite c offset image s
  | .tagFwCommit c length => Sys2Proof.Machine.execTagFwCommit c length s
  | .tagFwVerifyDone => Sys2Proof.Machine.execTagFwVerifyDone s
  | .restart c => Sys2Proof.Machine.execRestart c s
  | .tcntClr c value => Sys2Proof.Machine.execTcntClr c value s
  | .ltuLock unit => Sys2Proof.Machine.execLtuLock unit s
  | .ltuLockLoss unit bits errors => Sys2Proof.Machine.execLtuLockLoss unit bits errors s
  | .ltuBitsReached unit errors => Sys2Proof.Machine.execLtuBitsReached unit errors s
  | .eyeScanDone unit eyes => Sys2Proof.Machine.execEyeScanDone unit eyes s
  | .linkTestTimeLimit unit bits errors => Sys2Proof.Machine.execLinkTestTimeLimit unit bits errors s
  | .ltBitsLoRead h unit => Sys2Proof.Machine.execLtBitsLoRead h unit s
  | .axtCtrlGo h axis value => Sys2Proof.Machine.execAxtCtrlGo h axis value s
  | .axisSelfTestDone axis chFail gateFail interlock => Sys2Proof.Machine.execAxisSelfTestDone axis chFail gateFail interlock s
  | .sktCtrlGo h group value => Sys2Proof.Machine.execSktCtrlGo h group value s
  | .sinkSelfTestDone group currentUa ballMv => Sys2Proof.Machine.execSinkSelfTestDone group currentUa ballMv s
  | .tokenWaitTimeout port token => Sys2Proof.Machine.execTokenWaitTimeout port token s
  | .saveReplyTimeout => Sys2Proof.Machine.execSaveReplyTimeout s
  | .timerCompareMatch timer channel => Sys2Proof.Machine.execTimerCompareMatch timer channel s
  | .sinkOnInterval sink slot start currentUa ballMv => Sys2Proof.Machine.execSinkOnInterval sink slot start currentUa ballMv s
  | .vstrOvpRelease => Sys2Proof.Machine.execVstrOvpRelease s
  | .axisFltRelease axis => Sys2Proof.Machine.execAxisFltRelease axis s
  | .ethLinkUp => Sys2Proof.Machine.execEthLinkUp s
  | .pcieLinkUp => Sys2Proof.Machine.execPcieLinkUp s
  | .pcieLinkDown => Sys2Proof.Machine.execPcieLinkDown s
  | .sensorClkReturn port => Sys2Proof.Machine.execSensorClkReturn port s
  | .tagAckTimeout => Sys2Proof.Machine.execTagAckTimeout s
  | .tagSearchDwellEnd => Sys2Proof.Machine.execTagSearchDwellEnd s
  | .tagNrstAssert => Sys2Proof.Machine.execTagNrstAssert s

end Sys2Proof.Machine
end

