-- ==== Sys2Proof/Machine/Encode.lean ====
section
/-! DEFINITION. The payload a host writes for a command (Tables 7-1 to 7-12 and the layouts they name). -/

namespace Sys2Proof.Machine

/-- Two, four and eight bytes of a field. -/
def f2 (x : BitVec 16) : Bytes := le 2 x.toNat
def f4 (x : Word) : Bytes := le 4 x.toNat
def f6 (x : BitVec 48) : Bytes := le 6 x.toNat
def f8 (x : BitVec 64) : Bytes := le 8 x.toNat

/-- A byte of flags, bit 0 first. -/
def flags (bs : List Bool) : Byte := BitVec.ofNat 8 ((bs.zipIdx.map fun b => bitAt b.2 b.1).sum)

def BindP.bytes (b : BindP) : Bytes := f2 b.slot ++ [b.kind, 0] ++ f4 b.target ++ f8 b.offset

def LightEntryP.bytes (e : LightEntryP) : Bytes := [e.sink, 0] ++ f2 e.code ++ f2 e.duty ++ zeros 2

/-- AXIS_CONFIG (Table 16-7). -/
def AxisCfgP.bytes (p : AxisCfgP) : Bytes :=
  f4 p.pwmHz ++ [p.dt, flags [p.reverse], p.lostAction, 0] ++ f2 p.iFs ++ f2 p.vFs ++ f2 p.iMax ++ f2 p.alignI ++ f2 p.alignMs
    ++ f2 p.hfiHz ++ f2 p.hfiAmp ++ zeros 2 ++ f4 p.couchLo ++ f4 p.couchHi ++ f4 p.spdMax ++ f2 p.agreeDeg ++ [p.agreeN, 0]
    ++ f4 p.accel ++ f4 p.decel ++ f4 p.residMax ++ f2 p.satHoldUs ++ f2 p.rampMs ++ f2 p.curKp ++ f2 p.curKi ++ f2 p.spdKp
    ++ f2 p.spdKi

/-- OBSERVER_LOAD (Table 17-3). -/
def ObsLoadP.bytes (p : ObsLoadP) : Bytes :=
  [p.unload, p.kind, p.nin, p.nout, p.nhid, p.act, 0, 0] ++ p.h.toList ++ [0] ++ f4 p.region ++ f8 p.offset ++ f4 p.length
    ++ p.inmap.toList ++ (List.finRange 4).flatMap fun j => f4 (p.lo.get j) ++ f4 (p.hi.get j) ++ f4 (p.slew.get j)

/-- The payload of a command. -/
def encodeCmd (c : Cmd) : Bytes :=
  match c with
  | .hello | .closeSession | .leaseRelease | .leaseQuery | .timeGet | .axisStatus | .tagExpel | .linkTestResult | .safeStatus => []
  | .openSession p => f4 p.keyId ++ p.qH ++ zeros 3 ++ p.nH ++ p.sig
  | .getWatermark n => n
  | .getCerts o n => f4 o ++ f4 n
  | .leaseTake p | .leaseRenew p => f4 p.duration ++ [p.tags, p.coresMin, 0, 0]
  | .regRead a n => f4 a ++ f4 n
  | .regWrite p => f4 p.addr ++ f4 p.count ++ p.values.flatMap f4
  | .regModify a m v => f4 a ++ f4 m ++ f4 v
  | .memAlloc n x => f8 n ++ [x] ++ zeros 7
  | .memFree r => f4 r
  | .memWrite r o d => f4 r ++ zeros 4 ++ f8 o ++ d
  | .memRead r n o => f4 r ++ f4 n ++ f8 o
  | .memFill r v o n => f4 r ++ f4 v ++ f8 o ++ f8 n
  | .graphLoad r o n => f4 r ++ zeros 4 ++ f8 o ++ f4 n
  | .graphUnload x => f4 x
  | .jobSubmit p =>
    f4 p.graph ++ [p.retry, flags [p.autoRelease]] ++ le 2 p.binds.length ++ f2 p.waitToken ++ f2 p.signalToken ++ zeros 4
      ++ p.binds.flatMap BindP.bytes
  | .jobCancel x => [x, 0, 0, 0]
  | .jobStatus x r => [x, flags [r], 0, 0]
  | .resultFetch x r a n => [x, flags [r], 0, 0] ++ f4 a ++ f4 n
  | .tokenAlloc v => f4 v
  | .tokenSignal x n => f2 x ++ zeros 2 ++ f4 n
  | .tokenWait x n w => f2 x ++ zeros 2 ++ f4 n ++ f4 w
  | .tokenFree x => f2 x ++ zeros 2
  | .sensorConfig p =>
    [p.lanes, p.clkMode, p.dt, p.unit, p.vcDepth, p.conf, p.bufs, p.byteOrder] ++ f2 p.laneRate ++ zeros 2 ++ f2 p.width
      ++ f2 p.height ++ f2 p.timeoutMs ++ zeros 6
  | .sensorArm p =>
    f2 p.token ++ [BitVec.ofNat 8 p.syncMask.toNat, p.trigSrc] ++ f2 p.windowUs ++ zeros 2 ++ f2 p.count ++ zeros 6
  | .sensorDisarm m => [m, 0, 0, 0]
  | .timeRefSelect p =>
    [p.primary, p.backup, p.delay, p.domain, p.transport, p.ppsiEdge, flags [p.save, p.setSec], 0] ++ f4 p.stepLimit
      ++ f2 p.slewMax ++ zeros 2 ++ f6 p.seconds ++ zeros 2
  | .pulseConfig p =>
    [p.pulse, flags [p.en, p.pol, p.gate]] ++ f2 p.trim ++ f2 p.startFrac ++ f4 p.startNs ++ f6 p.startSec ++ f8 p.period
      ++ f8 p.width
  | .axisConfig p => AxisCfgP.bytes p
  | .axisEnable e r => [e, flags [r], 0, 0]
  | .axisCommand p => [p.mode, 0, 0, 0] ++ f4 p.setpoint ++ f2 p.iLimit ++ zeros 2 ++ f4 p.spdLimit
  | .axisStop x => [x, 0, 0, 0]
  | .observerLoad p => ObsLoadP.bytes p
  | .lightGroupConfig p => [p.colour, p.ctrlSrc, p.failsafe, p.lts] ++ f6 p.mask ++ zeros 2
  | .lightSet p =>
    f2 p.time.frac ++ f4 p.time.ns ++ f6 p.time.sec ++ le 1 p.entries.length ++ zeros 3 ++ p.entries.flatMap LightEntryP.bytes
  | .strobeArm p => [p.op, p.tp, 0, 0] ++ f4 p.offset ++ f4 p.length ++ f4 p.count
  | .matrixFrame p => f2 p.mask ++ [p.tPre, 0] ++ p.codes
  | .gearConfig p => [p.op, p.bus, p.slot, p.curve, p.short, p.sysFail, p.powerOn, 0] ++ f2 p.groups ++ zeros 2
  | .radioConfig p =>
    f2 p.mask ++ [p.startCh, p.txDbm, p.interfN, p.edDbm] ++ f2 p.evmAbort ++ f2 p.netId ++ f2 p.silentMs ++ [flags [p.en]]
      ++ zeros 3
  | .tagAdmit p => f8 p.long ++ [p.gslot, flags [p.rejoin]] ++ f2 p.timeoutS ++ f4 p.counterMin ++ p.key
  | .tagSend p => le 1 p.data.length ++ [0] ++ f2 p.ref ++ p.data ++ zeros ((4 - p.data.length % 4) % 4)
  | .tagEventsFetch n => f2 n ++ zeros 2
  | .linkTestStart p =>
    [p.pattern, p.loop, flags [p.eye, p.inject], p.lanes] ++ zeros 4 ++ f8 p.user ++ f6 p.bits ++ zeros 2
  | .safeStop m x => [m, x, 0, 0]
  | .safeRelease m => [m, 0, 0, 0]
  | .fwStage p => [p.image, flags [false, p.close], 0, 0] ++ f4 p.total ++ f4 p.offset ++ p.data
  | .fwCommit x k => [x, flags [k], 0, 0]
  | .resetDevice d => f4 d
  | .eventSubscribe m e => f4 m ++ [flags [e], 0, 0, 0]
  | .ping d => d

end Sys2Proof.Machine
end

