-- ==== Sys2Proof/Safety.lean ====
section
/-! DEFINITION. What claims are stated in: a command accepted by every check of Table 6-3, the reply it earns, the parts of
the state that serving a command touches beside its effect, and the invariants of the machine. -/

namespace Sys2Proof.Machine

/-! ## A command that passes every check (Table 6-3) -/

/-- The header as the model keeps it: an SQ index carries the epoch of its rings. -/
def State.head (s : State) (h : Hdr) : Hdr := { h with via := s.via h.via }

/-- The state a command acts on: its port shown alive, its sequence number taken (R96, R116). -/
def State.accepted (s : State) (h : Hdr) : State :=
  (s.carried h.port).updSession h.port fun x => x.took h.seq.toNat

/-- The reply a command in a session owes. -/
def State.ticket (s : State) (h : Hdr) (c : Cmd) (ses : Session) : Ticket := ⟨s.head h, c.opcode, some ses.serial⟩

/-- The command as it waits for step 12. -/
def State.waiting (s : State) (h : Hdr) (c : Cmd) (ses : Session) : Arrival := ⟨s.head h, some ses.serial, c, none, false⟩

/-- No session waits to end (R115, R120). -/
def State.calm (s : State) : Bool :=
  s.owners.toList.all fun o =>
    match o.session with
    | some x => x.closing.isNone && !x.ending
    | none => true

/-- Steps 1 to 4 and 6 to 8: the port carries the packet, its header is in order, and it is a new one of its owner's session
`ses`. -/
abbrev Arrives (s : State) (h : Hdr) (c : Cmd) (ses : Session) : Prop :=
  h.viaOk = true ∧ (s.carried h.port).portTakes h.port = true ∧ 32 + payloadSize c ≤ s.maxPacket h.port ∧ c.wf = true ∧
  headFault h = none ∧ (s.owner h.port).session = some ses ∧ h.key = .sessionKey ∧
  ses.high < h.seq.toNat ∧ h.seq.toNat ≠ 0xFFFFFFFF ∧ s.calm = true

/-- The row of a command gives way to another of its tick (Tables 8-5, 9-8, 15-4; notes/assumptions/1). -/
def State.givesWay (s : State) (i : Instr) : Bool :=
  match i with
  | .openSession _ _ => s.enrolComes
  | .regRead _ a n => s.readWaits a.toNat n.toNat
  | .axisEnable h _ _ => s.coreEnds (coreOf (Fin.ofNat 8 h.idx.toNat))
  | _ => false

/-- A command that passes every check of Table 6-3 but those its own fields decide: it arrives, DEV_STATE answers it, its owner
may send it, fewer than 64 commands are outstanding, its resource and largest reply are in order, and the lease it needs is
held. -/
abbrev Accepted (s : State) (h : Hdr) (c : Cmd) (ses : Session) : Prop :=
  Arrives s h c ses ∧ s.boot.dev.refuses h.port c = none ∧ s.ownerMay h.port c = true ∧ s.addrFault h.port c = none ∧
  ses.outstanding < 64 ∧ s.formFault (s.waiting h c ses) = none ∧ s.gate (s.waiting h c ses) = none

/-- A command outside a session that passes every check of Table 6-3: a command that needs no session, under the zero key, not
encrypted (R87, R113, Table 6-4). -/
abbrev AcceptedFree (s : State) (h : Hdr) (c : Cmd) : Prop :=
  h.viaOk = true ∧ (s.carried h.port).portTakes h.port = true ∧ 32 + payloadSize c ≤ s.maxPacket h.port ∧ c.wf = true ∧
  headFault h = none ∧ s.freeCmd h.port c = true ∧ h.enc = false ∧ h.key = .zeroKey ∧ s.calm = true ∧
  s.boot.dev.refuses h.port c = none ∧ s.ownerMay h.port c = true ∧ s.addrFault h.port c = none ∧
  s.formFault ⟨s.head h, none, c, none, false⟩ = none ∧ s.gate ⟨s.head h, none, c, none, false⟩ = none

/-- A REG_WRITE of one register that passes every check but those of the value: the command's class and index are those of the
register's resource. -/
abbrev WriteOk (s : State) (h : Hdr) (addr : Nat) (v : Word) (ses : Session) : Prop :=
  Accepted s h (.regWrite ⟨word addr, 1, [v]⟩) ses ∧ (h.cls.toNat, h.idx.toNat) = regResource addr

/-- The bytes of a packet on a port with a length and a header in order and a new sequence number of the owner's session `ses`, no
session waiting to end. -/
abbrev PacketOk (s : State) (p : Port) (via : Carriage) (b : Bytes) (ses : Session) : Prop :=
  let h := headerAt p via b
  32 ≤ b.length ∧ b.length = 32 + 4 * at_ b 6 2 ∧ b.length ≤ s.maxPacket p ∧ headFault h = none ∧
  (s.owner p).session = some ses ∧ ses.high < h.seq.toNat ∧ h.seq.toNat ≠ 0xFFFFFFFF ∧ ses.outstanding < 64 ∧ s.calm = true

/-- The packet opens under the session's key, as an assigned opcode whose payload has its length and zeros, which DEV_STATE, the
owner's rights and the addresses it names let pass (Table 6-3, steps 7 and 9 to 11). -/
def PacketSays (s : State) (p : Port) (via : Carriage) (b : Bytes) (c : Cmd) (ses : Session) : Prop :=
  (∃ x, openUnder ses.keyC (headerAt p via b) b = some x ∧ decodeCmd (at_ b 1 1) x = some c ∧
    payloadFault (at_ b 1 1) x = none) ∧
  s.boot.dev.refuses p c = none ∧ s.ownerMay p c = true ∧ s.addrFault p c = none

/-- A packet was taken: its command waits for the end of the tick, its sequence number is taken, nothing acted or went out. -/
def PacketTaken (s t : State) (p : Port) (via : Carriage) (b : Bytes) (c : Cmd) (ses : Session) : Prop :=
  let h := { headerAt p via b with key := .sessionKey }
  t.arrivals = s.arrivals ++ [⟨h, some ses.serial, c, none, false⟩] ∧ (t.owner p).session = some (ses.took h.seq.toNat) ∧
  (∀ q, q ≠ p → t.owner q = s.owner q) ∧ t.leases = s.leases ∧ t.mem = s.mem ∧ t.jobs = s.jobs ∧ t.axes = s.axes ∧
  t.boot = s.boot ∧ t.otp = s.otp

/-! ## The reply -/

/-- The reply to a command is in its session's cache, sent in this tick (R116, R118). -/
def Replied (s t : State) (h : Hdr) (op status : Nat) (payload : Bytes) : Prop :=
  ∃ x, (t.owner h.port).session = some x ∧
    x.cache.find? (fun e => e.seq == h.seq.toNat) =
      some ⟨h.seq.toNat, some (replyPacket h op status payload (some x.keyD) h.enc), s.now⟩

/-- A reply on MNT as it goes out. -/
def mntReply (p : Packet) : Out := Out.reply 3 .mnt p (.line (mntFrame p.wire))

/-! ## What serving a command touches beside its effect -/

/-- A session without its sequence numbers, its reply cache and its count of commands outstanding. -/
def Session.quiet (x : Session) : Session := { x with high := 0, cache := [], outstanding := 0 }

def OwnerState.quiet (o : OwnerState) : OwnerState := { o with session := o.session.map Session.quiet }

/-- The state but for what serving a command and sending its reply touch on every command: the record of outputs, the sender's
sequence numbers, cache and count of commands outstanding, the CQ, the frames waiting on SFP, and the signs that SFP and MNT
are alive. -/
def State.quiet (s : State) : State :=
  { s with
    out := [], owners := s.owners.map OwnerState.quiet,
    hpa := { s.hpa with cqPos := 0, cqOwed := 0, pba := Vector.replicate 64 false },
    net := { s.net with sfpOut := [], sfpArmed := false, sfpLost := false, sfpValidAt := 0, mntUp := false } }

/-- A session without the numbers and the memory of its events. -/
def Session.unheard (x : Session) : Session := { x with evSeq := 0, fresh := [], freshAt := 0, freshSeq := 0, freshLost := 0 }

/-- An owner without its events. -/
def OwnerState.silent (o : OwnerState) : OwnerState :=
  { o with session := o.session.map fun x => x.quiet.unheard, events := [], cntLost := 0 }

/-- The state but for what `State.quiet` leaves out and the owners' events. -/
def State.silent (s : State) : State := { s.quiet with owners := s.owners.map OwnerState.silent }

/-- A row completes with a status and a reply, in state `u` but for what serving a command touches. -/
def Completes (i : Instr) (s : State) (h : Hdr) (op status : Nat) (payload : Bytes) (u : State) : Prop :=
  ∃ t, exec i s = .next t ∧ Replied s t h op status payload ∧ t.quiet = u.quiet

/-- The same for a row that also raises events. -/
def CompletesLoud (i : Instr) (s : State) (h : Hdr) (op status : Nat) (payload : Bytes) (u : State) : Prop :=
  ∃ t, exec i s = .next t ∧ Replied s t h op status payload ∧ t.silent = u.silent

/-- A row that is no command of a port completes in state `u` but for the owners' events and the record of outputs. -/
def Runs (i : Instr) (s u : State) : Prop := ∃ t, exec i s = .next t ∧ t.silent = u.silent

/-! ## An axis alone -/

/-- Nothing but axis `n`, its timer, the cores, the owners and what the ports hold differs between two states. -/
def OnlyAxis (s t : State) (n : Fin 8) : Prop :=
  (∀ m, m ≠ n → t.axis m = s.axis m) ∧ (∀ m, m ≠ axTimer n → t.timers.get m = s.timers.get m) ∧ t.leases = s.leases ∧
  t.mem = s.mem ∧ t.jobs = s.jobs ∧ t.sensors = s.sensors ∧ t.tb = s.tb ∧ t.safety = s.safety ∧ t.illum = s.illum ∧
  t.lbus = s.lbus ∧ t.radio = s.radio ∧ t.boot = s.boot ∧ t.otp = s.otp ∧ t.flash = s.flash ∧ t.keys = s.keys

/-- What a stop of a category, kind and cause makes of axis `n` (R311, R312): a running axis begins it and goes to STOPPING, an axis
in STOPPING takes it over the one in progress or not, an axis at rest has nothing to stop but a zeroing, FAULT stands. -/
def AxisStopped (s t : State) (n : Fin 8) (c : StopCat) (kind : StopKind) (cause : Nat) : Prop :=
  let a := s.axis n
  let b := t.axis n
  match a.st with
  | .disabled | .stoppedSafe => b.st = a.st ∧ b.zeroFrom = none
  | .fault => b.st = .fault
  | .stopping =>
    b.st = .stopping ∧ ∀ old, a.stop = some old → b.stop = if stopTakes s.now c kind old then some ⟨c, kind, s.now⟩ else some old
  | _ =>
    b.st = .stopping ∧ b.cause = cause ∧ b.stop = some ⟨c, kind, s.now⟩ ∧
      (c = .freewheel → ∀ i, b.gates.level.get i = false) ∧ (c = .short → b.gates.pattern = .short) ∧
      (c = .ramp → b.cmd.setpoint = 0)

/-- Nothing but the axes, the cores, the timers, SAFETY, the owners and what the ports hold differs between two states. -/
def OnlyMotion (s t : State) : Prop :=
  t.leases = s.leases ∧ t.mem = s.mem ∧ t.jobs = s.jobs ∧ t.sensors = s.sensors ∧ t.tb = s.tb ∧ t.illum = s.illum ∧
  t.lbus = s.lbus ∧ t.radio = s.radio ∧ t.boot = s.boot ∧ t.otp = s.otp ∧ t.flash = s.flash ∧ t.keys = s.keys

/-- Nothing but the tag, the record of outputs and the tag's random draws differs between two states. -/
def TagOnly (s t : State) : Prop := t = { s with tag := t.tag, out := t.out, draws := t.draws }

/-! ## An abandoned attempt (R206, R211) -/

/-- The job `j` under tag `t` as an abandoned attempt leaves it: RESTARTING while its retries last, else FAILED, its tag freed
where AUTO_RELEASE asks; the attempt's log entry holds the class. -/
def Abandoned (s u : State) (t : Fin 64) (j : Job) (cls core region detail : Nat) : Prop :=
  u.jobs.abandons = satInc 0xFFFFFFFF s.jobs.abandons ∧
  u.jobs.log.get t = s.jobs.log.get t + cls * 16 ^ (j.attempt - 1) ∧
  let told := { j with lastClass := cls, lastCore := core, lastRegion := region, lastDetail := detail }
  if j.attempt ≤ j.retry then u.job t = some { told with st := .restarting }
  else if j.autoRelease = true then u.job t = none
  else u.job t = some { told with st := .failed, final := eJobFailed, end_ := s.devTime }

/-! ## A reset that cuts a stage short (Table 4-10) -/

/-- The flash as a reset leaves it: the idle slot is marked where its stage was under way. -/
def State.cutShort (s : State) : Flash :=
  { s.flash with partial_ := Vector.ofFn fun x =>
      s.flash.partial_.get x || (x == s.idleSlot && s.boot.stage.isSome && s.boot.written.toList.any (· != 0)) }

/-! ## The die's one-time-programmable words -/

/-- At most 15 service entries (R78), and a 32-bit BOOT_COUNT that saturates. -/
def OtpInv (s : State) : Prop := s.otp.svcEntries ≤ 15 ∧ s.otp.bootCount ≤ 2 ^ 32 - 1

end Sys2Proof.Machine
end

