-- ==== Sys2Proof/Certificates/Slice0/Obligations.lean ====
section
/-! DEFINITION. What is claimed of the model, for the provers: one proposition per claim. Where a claim follows a command of a
port, `s.accepted h` is the state the command acts on: its port shown alive, its sequence number taken. -/

open Sys2Proof Sys2Proof.Machine

/-! ## The machine -/

/-- A step takes the command at the front of the queue and is `exec` of it on the state with the queue's rest (the block's
queue, notes/assumptions/1). -/
def Obligations.StepTakesFrontCommand : Prop :=
  ∀ (s : State) (c : Instr) (rest : List Instr), s.pending = c :: rest → step s = exec c { s with pending := rest }

/-! ## Sessions, identity and leases (chapters 4 to 7) -/

/-- The commands about the device and the session complete as Tables 7-2 and R75, R114 and R121 lay down: HELLO issues a fresh
challenge and says that a session is open, GET_WATERMARK signs its report, GET_CERTS gives a piece of the chain,
EVENT_SUBSCRIBE returns the old mask, judges the events of its tick by the new one and, on HPB, sets where events go, PING
returns its bytes, or E_PARAM above 64. -/
def Obligations.SessionCommandsComplete : Prop :=
  (∀ s h ses, Accepted s h .hello ses →
    Completes (.hello h) s h 0x01 stOk
      (le 4 0x53203264 ++ le 4 siliconRev ++ le 1 s.boot.dev.code ++ le 1 s.otp.lifecycle.code ++ le 1 (Port.id h.port)
        ++ le 1 1 ++ le 4 (mboitVersion s) ++ le 4 (s.maxPacket h.port) ++ fit 32 (Config.freeBytes s.free))
      (s.tookFree.updOwner h.port fun o => { o with challenge := some (fit 32 (Config.freeBytes s.free), s.now) })) ∧
  (∀ s h ses nonce, Accepted s h (.getWatermark nonce) ses →
    Completes (.getWatermark h nonce) s h 0x04 stOk
      (s.reportBody nonce ++ fit 96 (Config.deviceSign s.free (digest (s.reportBody nonce)))) s.tookFree) ∧
  (∀ s h ses offset length, Accepted s h (.getCerts offset length) ses →
    let total := Config.certChain.length
    let n := min length.toNat (total - offset.toNat)
    if offset.toNat < total ∧ offset.toNat % 4 = 0 ∧ length.toNat % 4 = 0 ∧ 4 ≤ length.toNat then
      Completes (.getCerts h offset length) s h 0x05 stOk
        (le 4 total ++ le 4 n ++ fit ((n + 3) / 4 * 4) (slice Config.certChain offset.toNat n)) s
    else Completes (.getCerts h offset length) s h 0x05 eParam [] s) ∧
  (∀ s h ses mask enc, Accepted s h (.eventSubscribe mask enc) ses → mask.toNat % 2 = 0 → mask.toNat < 2 ^ 20 →
    Completes (.eventSubscribe h mask enc) s h 0x7E stOk (le 4 ses.mask)
      (s.updOwner h.port fun o =>
        { o.subscribe s.now (s.portDead h.port) mask.toNat enc with
                 evtDest := match h.via with
                   | .udp ip port => some (ip, port)
                   | _ => o.evtDest })) ∧
  (∀ s h ses d, Accepted s h (.ping d) ses →
    if d.length ≤ 64 then Completes (.ping h d) s h 0x7F stOk d s else Completes (.ping h d) s h 0x7F eParam [] s)

/-- R98, R99, R101: LEASE_TAKE of a free resource, or of one's own, and LEASE_RENEW of one's own hold it until DURATION after the
command's tick, a JOB_POOL share with its amounts; LEASE_QUERY reports the holder and changes nothing; LEASE_TAKE of a resource
another owner holds returns E_CONTENDED with that holder and counts it. LEASE_RELEASE by the holder runs the resource's loss
action, frees the resource, and replies with the action's code (R102, R136, R137); by anyone else it returns E_NOT_HOLDER and
frees nothing. -/
def Obligations.LeaseCommandsAct : Prop :=
  ((∀ s h ses p, Accepted s h (.leaseTake p) ses → leaseOk h p false = true →
    let a := s.accepted h
    let cls := h.cls.toNat
    let idx := h.idx.toNat
    a.holder cls idx = 0 ∨ a.holder cls idx = Port.id h.port →
    if cls = 7 then
      a.shareFits h.port p.tags.toNat p.coresMin.toNat = true →
      let b := a.hold h.port cls idx p.duration.toNat
      let u : State := { b with leases := { b.leases with
        tags := bankSet b.leases.tags h.port p.tags.toNat, cores := bankSet b.leases.cores h.port p.coresMin.toNat } }
      Completes (.leaseTake h p) s h 0x08 stOk (u.leaseReply cls idx 0) u
    else
      let u := a.hold h.port cls idx p.duration.toNat
      Completes (.leaseTake h p) s h 0x08 stOk (u.leaseReply cls idx 0) u) ∧
  (∀ s h ses p, Accepted s h (.leaseRenew p) ses → leaseOk h p true = true →
    let a := s.accepted h
    a.holder h.cls.toNat h.idx.toNat = Port.id h.port →
    let u := a.hold h.port h.cls.toNat h.idx.toNat p.duration.toNat
    Completes (.leaseRenew h p) s h 0x09 stOk (u.leaseReply h.cls.toNat h.idx.toNat 0) u) ∧
  (∀ s h ses, Accepted s h .leaseQuery ses →
    Completes (.leaseQuery h) s h 0x0B stOk ((s.accepted h).leaseReply h.cls.toNat h.idx.toNat 0) s) ∧
  (∀ s h ses p, Accepted s h (.leaseTake p) ses → leaseOk h p false = true →
    s.holder h.cls.toNat h.idx.toNat ≠ 0 → s.holder h.cls.toNat h.idx.toNat ≠ Port.id h.port →
    ∃ t, exec (.leaseTake h p) s = .next t ∧
      Replied s t h 0x08 eContended ((s.accepted h).leaseReply h.cls.toNat h.idx.toNat 0) ∧
      t.leases = s.leases ∧ t.net.contended = satInc 65535 s.net.contended)) ∧
  ((∀ s h ses, Accepted s h .leaseRelease ses → s.holds h.port h.cls.toNat h.idx.toNat = true →
    let r := (s.accepted h).endLease h.cls.toNat h.idx.toNat false
    CompletesLoud (.leaseRelease h) s h 0x0A stOk (r.1.leaseReply h.cls.toNat h.idx.toNat r.2) r.1 ∧
    r.1.holder h.cls.toNat h.idx.toNat = 0) ∧
  (∀ s h ses, Accepted s h .leaseRelease ses → s.holds h.port h.cls.toNat h.idx.toNat = false →
    ∃ t, exec (.leaseRelease h) s = .next t ∧ Replied s t h 0x0A eNotHolder [] ∧ t.leases = s.leases ∧
      t.net.notHolder = satInc 65535 s.net.notHolder))

/-- R114, R167: OPEN_SESSION with the owner's enrolled key and a live challenge opens a session with fresh keys, its sequence
numbers and mask at their start, where the signature verifies, and the reply goes under the zero key; where it does not it is
E_AUTH. The challenge is used up. Table 8-5: an enrolment that completes in the same tick comes first. R115, R120:
CLOSE_SESSION with nothing else outstanding ends the session at once, its events discarded, and leaves its owner no lease;
with commands outstanding it waits for their replies, the leases released all the same. -/
def Obligations.SessionsOpenAndEnd : Prop :=
  (∀ s h q, s.enrolComes = true → exec (.openSession h q) s = .next (s.putOff (.openSession h q))) ∧
  (∀ s h q key nD, AcceptedFree s h (.openSession q) → s.enrolComes = false → s.keys.keysOut = false →
    s.namedKey h.port q.keyId.toNat = some key → s.liveChallenge h.port = some nD →
    let id := le 1 (Port.id h.port)
    let qE := fit 97 (Config.ephemeral s.draws)
    let derive (c : Byte) : Bytes := fit 32 (Config.hkdf (fit 48 (Config.ecdh s.draws q.qH)) (q.nH ++ nD)
      ([0x50, 0x53, 0x49, 0x45, 0x53, 0x4B, 0x32] ++ id ++ [c]))
    let sig := fit 96 (Config.deviceSign s.free (digest (id ++ q.qH ++ q.nH ++ nD ++ qE)))
    ∃ t, exec (.openSession h q) s = .next t ∧ (t.owner h.port).challenge = none ∧ t.leases = s.leases ∧ t.axes = s.axes ∧
      t.mem = s.mem ∧ t.jobs = s.jobs ∧
      if Config.ecdsaVerify key (digest (id ++ q.qH ++ q.nH ++ nD ++ s.otp.uniqueId)) q.sig = true then
      (t.owner h.port).session = some
          ⟨s.serial, derive 0x43, derive 0x44, 0, [], 0, false, 1, 0, [], s.now, 1, 0, none, false⟩ ∧
      t.serial = s.serial + 1 ∧ t.draws = s.draws + (if (s.owner h.port).session.isSome then 2 else 1) ∧
      (h.via = .mnt → t.out = s.out ++ [mntReply (replyPacket h 0x02 stOk (qE ++ zeros 3 ++ sig) none false)])
      else (t.owner h.port).session = (s.owner h.port).session ∧ t.serial = s.serial ∧
        (t.owner h.port).cntAuth = satInc 65535 (s.owner h.port).cntAuth) ∧
  (∀ s h ses, Accepted s h .closeSession ses → ses.outstanding < 63 →
    ∃ t, exec (.closeSession h) s = .next t ∧ (∀ r ∈ resources, t.holder r.1 r.2 ≠ Port.id h.port) ∧
      if ses.outstanding = 0 then (t.owner h.port).session = none ∧ (t.owner h.port).events = []
      else ∃ x, (t.owner h.port).session = some x ∧ x.closing = some (s.ticket h .closeSession ses) ∧
        x.outstanding = ses.outstanding + 1 ∧ x.keyD = ses.keyD)

/-- R167: a KEY_ID whose owner is not the sender's, or whose slot is empty, earns OPEN_SESSION E_AUTH; the challenge is used up and
no session opens. -/
def Obligations.OpenSessionKeyId : Prop :=
  ∀ s h q, AcceptedFree s h (.openSession q) → s.enrolComes = false → s.keys.keysOut = false →
    (s.owner h.port).session = none →
    (q.keyId.toNat / 256 % 256 ≠ Port.id h.port ∨ q.keyId.toNat / 65536 ≠ 0 ∨ 4 ≤ q.keyId.toNat % 256 ∨
      (s.keys.enrolled.get h.port).get (Fin.ofNat 4 (q.keyId.toNat % 256)) = none) →
    ∃ t, exec (.openSession h q) s = .next t ∧ (t.owner h.port).session = none ∧ (t.owner h.port).challenge = none ∧
      (t.owner h.port).cntAuth = satInc 65535 (s.owner h.port).cntAuth ∧
      (h.via = .mnt → t.out = s.out ++ [mntReply (replyPacket h 0x02 eAuth [] none false)]) ∧ t.serial = s.serial

/-! ## Registers (chapters 6 and 7) -/

/-- R138, R139: REG_READ of 1 to 256 registers returns their words in address order, each with its latch; REG_WRITE of 1 to 64
writes them all when every value is accepted and otherwise returns the status and writes nothing, but that a CAM_COMMIT that fails
records its RESULT; REG_MODIFY writes the masked bits and returns the old and the new word. A COUNT outside the range is
E_PARAM. Table 15-4: a read of a TIM_CAP_LO gives way to a capture of its timer in its tick. -/
def Obligations.RegisterCommandsComplete : Prop :=
  (∀ s h addr count, s.readWaits addr.toNat count.toNat = true →
    exec (.regRead h addr count) s = .next (s.putOff (.regRead h addr count))) ∧
  (∀ s h ses addr count, Accepted s h (.regRead addr count) ses → s.readWaits addr.toNat count.toNat = false →
    let r := (s.accepted h).regReads (regAddrs addr.toNat count.toNat)
    if count.toNat = 0 ∨ 256 < count.toNat then Completes (.regRead h addr count) s h 0x10 eParam [] s
    else Completes (.regRead h addr count) s h 0x10 stOk r.2 r.1) ∧
  (∀ s h ses w, Accepted s h (.regWrite w) ses →
    let a := s.accepted h
    let ws := (regAddrs w.addr.toNat w.count.toNat).zip (w.values.map BitVec.toNat)
    let r := a.regWrites h.port h.cls.toNat h.idx.toNat ws
    if w.count.toNat = 0 ∨ 64 < w.count.toNat then Completes (.regWrite h w) s h 0x11 eParam [] s
    else
      ((r.2 = stOk → r.1 = ws.foldl (fun s w => s.regPut h.port w.1 w.2) a) ∧
        (r.2 ≠ stOk → r.1 = a ∨ (r.2 = eParam ∧ r.1 = a.noteCam h.port ws a))) ∧
      CompletesLoud (.regWrite h w) s h 0x11 r.2 [] r.1) ∧
  (∀ s h ses addr mask value, Accepted s h (.regModify addr mask value) ses →
    let a := s.accepted h
    let old := word (a.regWord addr.toNat)
    let new := ((old &&& ~~~ mask) &&& ~~~ word (regW1c addr.toNat)) ||| (value &&& mask)
    let r := (a.regLatch addr.toNat).regWrites h.port h.cls.toNat h.idx.toNat [(addr.toNat, new.toNat)]
    r.2 = stOk →
    CompletesLoud (.regModify h addr mask value) s h 0x12 stOk (le 4 old.toNat ++ le 4 (r.1.regWord addr.toNat))
      { r.1 with free := r.1.free + 6 })

/-- R8: a register holds 32 bits, four bytes of a REG_READ reply; a register command whose address is not a multiple of 4 returns
E_PARAM and does nothing. -/
def Obligations.RegisterAddressAligned : Prop :=
  (∀ (s : State) (l : List Nat), (s.regReads l).2.length = 4 * l.length) ∧
  (∀ s h ses addr count, Arrives s h (.regRead addr count) ses → s.boot.dev.refuses h.port (.regRead addr count) = none →
    s.ownerMay h.port (.regRead addr count) = true → addr.toNat % 4 ≠ 0 → s.readWaits addr.toNat count.toNat = false →
    Completes (.regRead h addr count) s h 0x10 eParam [] s) ∧
  (∀ s h ses w, Arrives s h (.regWrite w) ses → s.boot.dev.refuses h.port (.regWrite w) = none →
    s.ownerMay h.port (.regWrite w) = true → w.addr.toNat % 4 ≠ 0 → Completes (.regWrite h w) s h 0x11 eParam [] s) ∧
  (∀ s h ses addr mask value, Arrives s h (.regModify addr mask value) ses →
    s.boot.dev.refuses h.port (.regModify addr mask value) = none → s.ownerMay h.port (.regModify addr mask value) = true →
    addr.toNat % 4 ≠ 0 → Completes (.regModify h addr mask value) s h 0x12 eParam [] s)

/-! ## Memory (chapter 8) -/

/-- R154 to R157, R165, R166: MEM_ALLOC gives a region of whole granules under a fresh handle, MEM_FREE returns it, MEM_WRITE and
MEM_FILL write the bytes of a range that lies in the region, MEM_READ returns them. The range named is the region's own, unbound,
its lines sound. R155, R156, R166: MEM_ALLOC beyond the owner's quota returns E_QUOTA, and without the granules E_NO_MEMORY; a
handle that is not the sender's, or a range beyond the region, returns E_REGION; a line that fails returns E_INTEGRITY and is
recorded. Nothing is written. -/
def Obligations.MemoryCommandsAct : Prop :=
  ((∀ s h ses size place, Accepted s h (.memAlloc size place) ses → size ≠ 0 → place.toNat ≤ 1 →
    let a := s.accepted h
    let st : Store := if place = 0 then .hbm else .vat
    let n := (size.toNat + st.granule - 1) / st.granule
    a.granted h.port + n * st.granule ≤ (a.owner h.port).quotaMib * 2 ^ 20 → a.mem.regions.length < 4096 →
    a.mem.nextHandle < 2 ^ 24 → n ≤ a.freeCount st →
    Completes (.memAlloc h size place) s h 0x18 stOk (le 4 (a.handle a.mem.nextHandle) ++ zeros 4 ++ le 8 (n * st.granule))
      (a.updMem fun m => { m with
        regions := m.regions ++
          [⟨a.handle m.nextHandle, h.port, st, n * st.granule, pickSome n m.order (a.freeGranules st)⟩],
        nextHandle := m.nextHandle + 1, order := m.order + n })) ∧
  (∀ s h ses region r, Accepted s h (.memFree region) ses → s.region h.port region.toNat = some r →
    s.boundBy r.handle false = false →
    Completes (.memFree h region) s h 0x19 stOk []
      (s.updMem fun m => { m with regions := m.regions.filter fun x => x.handle != r.handle })) ∧
  (∀ s h ses region offset data r, Accepted s h (.memWrite region offset data) ses → offset.toNat % 4 = 0 →
    let a := s.accepted h
    a.region h.port region.toNat = some r → r.covers offset.toNat data.length = true → a.boundBy region.toNat false = false →
    a.firstBad r (a.domKey h.port) (partialLines offset.toNat data.length) = none →
    Completes (.memWrite h region offset data) s h 0x1A stOk [] (a.writeRange r (a.domKey h.port) offset.toNat data)) ∧
  (∀ s h ses region length offset r, Accepted s h (.memRead region length offset) ses → offset.toNat % 4 = 0 →
    length.toNat % 4 = 0 → length.toNat ≠ 0 →
    let a := s.accepted h
    a.region h.port region.toNat = some r → r.covers offset.toNat length.toNat = true → a.boundBy r.handle true = false →
    a.firstBad r (a.domKey h.port) (linesOf offset.toNat length.toNat) = none →
    Completes (.memRead h region length offset) s h 0x1B stOk (a.rangeBytes r (a.domKey h.port) offset.toNat length.toNat)
      s) ∧
  (∀ s h ses region pattern offset length r, Accepted s h (.memFill region pattern offset length) ses →
    offset.toNat % 4 = 0 → length.toNat % 4 = 0 →
    let a := s.accepted h
    let bs := (List.replicate (length.toNat / 4) (le 4 pattern.toNat)).flatMap id
    a.region h.port region.toNat = some r → r.covers offset.toNat length.toNat = true → a.boundBy region.toNat false = false →
    a.firstBad r (a.domKey h.port) (partialLines offset.toNat length.toNat) = none →
    Completes (.memFill h region pattern offset length) s h 0x1C stOk []
      (a.writeRange r (a.domKey h.port) offset.toNat bs))) ∧
  ((∀ s h ses size place, Accepted s h (.memAlloc size place) ses → size ≠ 0 → place.toNat ≤ 1 →
    let a := s.accepted h
    let st : Store := if place = 0 then .hbm else .vat
    let n := (size.toNat + st.granule - 1) / st.granule
    if (a.owner h.port).quotaMib * 2 ^ 20 < a.granted h.port + n * st.granule then
      Completes (.memAlloc h size place) s h 0x18 eQuota [] s
    else a.freeCount st < n → Completes (.memAlloc h size place) s h 0x18 eNoMemory [] s) ∧
  (∀ s h ses region, Accepted s h (.memFree region) ses → s.region h.port region.toNat = none →
    Completes (.memFree h region) s h 0x19 eRegion [] s) ∧
  (∀ s h ses region offset data, Accepted s h (.memWrite region offset data) ses → offset.toNat % 4 = 0 →
    (∀ r, s.region h.port region.toNat = some r → r.covers offset.toNat data.length = false) →
    Completes (.memWrite h region offset data) s h 0x1A eRegion [] s) ∧
  (∀ s h ses region length offset r i c, Accepted s h (.memRead region length offset) ses → offset.toNat % 4 = 0 →
    length.toNat % 4 = 0 → length.toNat ≠ 0 → s.region h.port region.toNat = some r →
    r.covers offset.toNat length.toNat = true → s.boundBy r.handle true = false →
    s.firstBad r (s.domKey h.port) (linesOf offset.toNat length.toNat) = some (i, c) →
    Completes (.memRead h region length offset) s h 0x1B eIntegrity [] (s.noteFault c (Port.id h.port) 0xFF region.toNat i)))

/-! ## Graphs, jobs and tokens (chapter 10) -/

/-- R142, R201: GRAPH_LOAD of a sound description loads the graph under a fresh handle and takes its copy from the SELF pool, its
reply giving the handle, the nodes, the slots and the records; a description that fails its checks returns E_GRAPH with the node
and the reason. GRAPH_UNLOAD of a graph of the sender's that no unended job runs returns it; while one does it returns E_BUSY.
R142, R202: JOB_SUBMIT that passes the checks of Table 10-2 takes the lowest free tag (notes/assumptions/16) and returns ACCEPTED
with it; the job has its graph, its bindings and its tokens, no attempt yet. With no token and no sensor to wait for it is READY
at the end of the order, and nothing else changes. -/
def Obligations.GraphsLoadAndJobsQueue : Prop :=
  ((∀ s h ses region offset length, Accepted s h (.graphLoad region offset length) ses → offset.toNat % 4 = 0 →
    length.toNat % 4 = 0 → 4 ≤ length.toNat → length.toNat ≤ 16777216 →
    let r := s.readRange h.port region.toNat offset.toNat length.toNat
    r.1 = stOk →
    let g := graphOf r.2.2 (s.handle s.mem.nextHandle) h.port
    (∀ i c, checkGraph r.2.2 s.oplib = some (i, c) →
      Completes (.graphLoad h region offset length) s h 0x20 eGraph (le 4 i ++ le 4 c) s) ∧
    (checkGraph r.2.2 s.oplib = none → s.jobs.graphs.length < 256 → s.mem.nextHandle < 2 ^ 24 →
      s.mem.selfMib + g.copyMib ≤ 1024 →
      Completes (.graphLoad h region offset length) s h 0x20 stOk
        (le 4 g.handle ++ le 4 g.nodes.length ++ le 4 g.slots.length ++ le 4 g.records)
        { s with
          mem := { s.mem with nextHandle := s.mem.nextHandle + 1, selfMib := s.mem.selfMib + g.copyMib },
          jobs := { s.jobs with graphs := s.jobs.graphs ++ [g] } })) ∧
  (∀ s h ses x g, Accepted s h (.graphUnload x) ses → s.graph h.port x.toNat = some g →
    ((∃ k j, s.job k = some j ∧ j.st.ended = false ∧ j.graph.handle = g.handle) →
      Completes (.graphUnload h x) s h 0x21 eBusy [] s) ∧
    ((∀ k j, s.job k = some j → j.st.ended = false → j.graph.handle ≠ g.handle) →
      Completes (.graphUnload h x) s h 0x21 stOk []
        { s with mem := { s.mem with selfMib := s.mem.selfMib - g.copyMib },
                 jobs := { s.jobs with graphs := s.jobs.graphs.filter fun y => y.handle != g.handle } }))) ∧
  (∀ s h ses p g tag, Accepted s h (.jobSubmit p) ses → (s.accepted h).submitError (s.ticket h (.jobSubmit p) ses) p = none →
    s.graph h.port p.graph.toNat = some g → s.job tag = none → (∀ k, k < tag → s.job k ≠ none) →
    ((∀ k ∈ s.jobs.tokens, ∀ tk n d, Waiter.host tk n d ∈ k.waiters → tk.hdr.port = h.port → tk.hdr.seq ≠ h.seq) →
      ∃ t, exec (.jobSubmit h p) s = .next t ∧ Replied s t h 0x22 stAccepted (le 1 tag.val ++ zeros 3) ∧
      ∃ j, t.job tag = some j ∧ j.port = h.port ∧ j.graph = g ∧ j.binds = bindingsOf p ∧ j.attempt = 0 ∧ j.final = 0xFFFF ∧
        j.retry = (if p.retry = 0xFF then s.jobs.retryMax else p.retry.toNat) ∧ (j.st = .waiting ∨ j.st = .ready)) ∧
    (p.waitToken = 0xFFFF → (∀ b ∈ p.binds, b.kind ≠ 2) →
      Completes (.jobSubmit h p) s h 0x22 stAccepted (le 1 tag.val ++ zeros 3)
        { s with
          jobs := { s.jobs with
            tags := bankSet s.jobs.tags tag (some { newJob s h.port g p with st := .ready, readyPos := some s.jobs.readyNext }),
            log := bankSet s.jobs.log tag 0, readyNext := s.jobs.readyNext + 1 },
          headbox := { s.headbox with
            ingest := bankSet s.headbox.ingest tag 0, sparse := bankSet s.headbox.sparse tag 0xFFFF } }))

/-- R206: JOB_CANCEL of a job of the sender's that has not ended ends it CANCELLED, counted, its tag freed where AUTO_RELEASE
asks; of one that has ended it returns E_STATE; a tag that is not the sender's is E_PARAM. R143, Table 7-7: JOB_STATUS returns
the job's state and changes nothing; with RELEASE, of a job that has ended, it frees the tag, and an attempt whose cores still
stop goes on stopping without it (notes/assumptions/16). R142, R249: RESULT_FETCH of a job that ended DONE returns its records
from FIRST on, at most COUNT of them, read from its record output; of one that has not ended it returns E_STATE, of one that
was cancelled or failed that end's status, and of a job whose graph has no record output E_PARAM. -/
def Obligations.JobCommandsAct : Prop :=
  ((∀ s h ses (x : Byte) (k : Fin 64) j, Accepted s h (.jobCancel x) ses → x.toNat = k.val → s.job k = some j → j.port = h.port →
    if j.st.ended then Completes (.jobCancel h x) s h 0x23 eState [] s
    else
      ∃ t, exec (.jobCancel h x) s = .next t ∧ Replied s t h 0x23 stOk [] ∧
        t.jobs.cntCancel = satInc 65535 s.jobs.cntCancel ∧ t.jobs.graphs = s.jobs.graphs ∧ t.mem = s.mem ∧
        t.leases = s.leases ∧ t.axes = s.axes ∧
        if j.autoRelease = true then t.job k = none
        else ∃ j', t.job k = some j' ∧ j'.st = .cancelled ∧ j'.final = eCancelled ∧ j'.end_ = s.devTime ∧ j'.cores = j.cores) ∧
  (∀ s h ses (x : Byte), Accepted s h (.jobCancel x) ses → s.jobOf h.port x.toNat = none →
    Completes (.jobCancel h x) s h 0x23 eParam [] s)) ∧
  (∀ s h ses (x : Byte) release (k : Fin 64) j, Accepted s h (.jobStatus x release) ses → x.toNat = k.val → s.job k = some j →
    j.port = h.port →
    let body := le 1 j.st.code ++ le 1 j.attempt ++ le 1 j.retry ++ le 1 j.lastClass ++ le 4 j.flags ++ le 2 j.final
      ++ le 1 j.lastCore ++ zeros 1 ++ le 4 j.results ++ time96Bytes j.start ++ time96Bytes j.end_ ++ le 4 j.lastRegion
      ++ le 4 j.lastDetail
    (release = false ∨ j.st.ended = false → Completes (.jobStatus h x release) s h 0x24 stOk body s) ∧
    (release = true → j.st.ended = true → j.brokeKey = none →
      Completes (.jobStatus h x release) s h 0x24 stOk body
        { s with jobs := { s.jobs with tags := bankSet s.jobs.tags k none } }) ∧
    (release = true → j.st.ended = true → j.brokeKey ≠ none →
      ∃ t, exec (.jobStatus h x release) s = .next t ∧ Replied s t h 0x24 stOk body ∧ t.job k = none ∧
        t.jobs.stopping = s.jobs.stopping ++ [⟨k, j.port, j.cores, j.brokeHbm, j.brokeVat, j.selfTokens⟩] ∧ t.mem = s.mem ∧
        (∀ i, i ≠ k → t.job i = s.job i) ∧ ∀ c, (t.core1 c).st = (s.core1 c).st)) ∧
  (∀ s h ses (x : Byte) release first count (k : Fin 64) j, Accepted s h (.resultFetch x release first count) ses →
    x.toNat = k.val → s.job k = some j → j.port = h.port → count ≠ 0 → count.toNat ≤ 1023 →
    (j.recordBind = none → Completes (.resultFetch h x release first count) s h 0x25 eParam [] s) ∧
    (j.recordBind ≠ none → j.st.ended = false → Completes (.resultFetch h x release first count) s h 0x25 eState [] s) ∧
    (j.recordBind ≠ none → j.st.ended = true → j.final = eCancelled ∨ j.final = eHwFault ∨ j.final = eJobFailed →
      Completes (.resultFetch h x release first count) s h 0x25 j.final [] s) ∧
    (∀ b, j.st = .done → j.final = stOk → first.toNat < j.results → j.recordBind = some b →
      let n := min count.toNat (j.results - first.toNat)
      let r := s.readRange h.port b.target (b.offset + 64 * first.toNat) (64 * n)
      r.1 = stOk →
      (∀ i j2 c, s.job i = some j2 → j2.st.ended = false → c ∈ j2.binds → c.kind = 1 →
        overlap (bindRange j.graph b) (bindRange j2.graph c) = false) →
      (release = false ∨ j.brokeKey = none) →
      Completes (.resultFetch h x release first count) s h 0x25 stOk (le 4 j.results ++ le 4 n ++ r.2.2)
        { s with jobs := { s.jobs with
          tags := if release then bankSet s.jobs.tags k none else s.jobs.tags } }))

/-- R144, R145: TOKEN_ALLOC gives a free token with its initial count, refused beyond the quota or 0x00FF_FFFF; TOKEN_SIGNAL adds
to the count, and one that would take it past 0x00FF_FFFF is E_PARAM and leaves it; TOKEN_WAIT takes its amount at once where the
count has it and nobody waits ahead, and otherwise waits, or with TIMEOUT 0 returns E_TIMEOUT; TOKEN_FREE frees a token nothing
names, and returns E_BUSY of one that a job not yet ended or an armed sensor port names. R145, R213: TOKEN_WAIT_TIMEOUT of a token
whose oldest command past its TIMEOUT waits alone takes that command from the queue and takes nothing from the count; its command
is answered E_TIMEOUT. With no command past its time nothing happens; while commands of its tick have yet to act it gives way to
them (Table 5-7). -/
def Obligations.TokenCommandsAct : Prop :=
  ((∀ s h ses initial, Accepted s h (.tokenAlloc initial) ses →
    if tokenMax < initial.toNat then Completes (.tokenAlloc h initial) s h 0x28 eParam [] s
    else if (s.owner h.port).quotaTok ≤ s.tokensOf h.port then Completes (.tokenAlloc h initial) s h 0x28 eQuota [] s
    else
      ((∀ id < 0x3C00, ∃ k ∈ s.jobs.tokens, k.id = id) → Completes (.tokenAlloc h initial) s h 0x28 eNoMemory [] s) ∧
      ((∃ id < 0x3C00, ∀ k ∈ s.jobs.tokens, k.id ≠ id) → ∃ id < 0x3C00, (∀ k ∈ s.jobs.tokens, k.id ≠ id) ∧
        Completes (.tokenAlloc h initial) s h 0x28 stOk (le 2 id ++ zeros 2)
          { s with mem := { s.mem with order := s.mem.order + 1 },
                   jobs := { s.jobs with tokens := s.jobs.tokens ++ [⟨id, h.port, initial.toNat, []⟩] } })) ∧
  (∀ s h ses token amount k, Accepted s h (.tokenSignal token amount) ses → s.token h.port token.toNat = some k →
    if amount = 0 ∨ tokenMax < k.count + amount.toNat then Completes (.tokenSignal h token amount) s h 0x29 eParam [] s
    else k.waiters = [] → (∀ k' ∈ s.jobs.tokens, k'.id = k.id → k' = k) →
      Completes (.tokenSignal h token amount) s h 0x29 stOk (le 4 (k.count + amount.toNat))
        (s.updToken k.id fun k => { k with count := k.count + amount.toNat })) ∧
  (∀ s h ses token amount timeout k, Accepted s h (.tokenWait token amount timeout) ses →
    s.token h.port token.toNat = some k → amount ≠ 0 → amount.toNat ≤ tokenMax → timeout.toNat ≤ 60000 →
    if k.waiters = [] ∧ amount.toNat ≤ k.count then
      Completes (.tokenWait h token amount timeout) s h 0x2A stOk (le 4 (k.count - amount.toNat))
        (s.updToken k.id fun k => { k with count := k.count - amount.toNat })
    else if timeout = 0 then Completes (.tokenWait h token amount timeout) s h 0x2A eTimeout [] s
    else
      ∃ t, exec (.tokenWait h token amount timeout) s = .next t ∧
        t.quiet = (s.updToken k.id fun k => { k with waiters := k.waiters ++
          [.host (s.ticket h (.tokenWait token amount timeout) ses) amount.toNat (s.now + timeout.toNat * msTicks)] }).quiet ∧
        ∃ x, (t.owner h.port).session = some x ∧ x.outstanding = ses.outstanding + 1 ∧
          x.cache.find? (fun e => e.seq == h.seq.toNat) = some ⟨h.seq.toNat, none, 0⟩) ∧
  (∀ s h ses token k, Accepted s h (.tokenFree token) ses → s.token h.port token.toNat = some k →
    if s.tokenNamed k.id = true then Completes (.tokenFree h token) s h 0x2B eBusy [] s
    else
      (∃ t, exec (.tokenFree h token) s = .next t ∧ Replied s t h 0x2B stOk [] ∧
        t.jobs = { s.jobs with tokens := s.jobs.tokens.filter fun x => x.id != k.id }) ∧
      (k.waiters = [] → Completes (.tokenFree h token) s h 0x2B stOk []
        { s with jobs := { s.jobs with tokens := s.jobs.tokens.filter fun x => x.id != k.id } }))) ∧
  ((∀ s port (token : BitVec 16), s.commandsWait = true →
    exec (.tokenWaitTimeout port token) s = .next (s.putOff (.tokenWaitTimeout port token))) ∧
  (∀ s port (token : BitVec 16) k tk n d ses, s.commandsWait = false → s.calm = true → s.token port token.toNat = some k →
    (∀ k' ∈ s.jobs.tokens, k'.id = k.id → k' = k) → k.waiters = [.host tk n d] → d ≤ s.now →
    tk.hdr.port = port → tk.opcode = 0x2A → tk.serial = some ses.serial → (s.owner port).session = some ses →
    (∃ e ∈ ses.cache, e.seq = tk.hdr.seq.toNat) →
    ∃ t, exec (.tokenWaitTimeout port token) s = .next t ∧ Replied s t tk.hdr 0x2A eTimeout [] ∧
      t.quiet = (s.updToken k.id fun k => { k with waiters := [] }).quiet) ∧
  (∀ s port (token : BitVec 16), s.commandsWait = false → s.calm = true →
    (∀ k, s.token port token.toNat = some k → ∀ tk n d, Waiter.host tk n d ∈ k.waiters → s.now < d) →
    exec (.tokenWaitTimeout port token) s = .next s))

/-- R207: when the signal at DONE would take SIGNAL_TOKEN past 0x00FF_FFFF, the count is 0x00FF_FFFF, TOKEN_OVF counts it, and the
job still ends DONE. No fault of the attempt stands in the same tick (Table 10-5: it would win). -/
def Obligations.SignalAtDoneSaturates : Prop :=
  ∀ s tag j id k, s.job tag = some j → j.st = .running → (∀ c ∈ j.cores, s.fabric.dbgHalt.get c = false) → s.badInput j = none →
    s.faultComes tag = false → j.signalToken = some id → s.jobs.tokens.find? (fun x => x.id == id) = some k → k.count = 0x00FFFFFF →
    ∃ t, exec (.attemptComplete tag) s = .next t ∧ t.tokenCount id = 0x00FFFFFF ∧
      t.jobs.tokenOvf = satInc 65535 s.jobs.tokenOvf ∧
      if j.autoRelease = true then t.job tag = none
      else ∃ j', t.job tag = some j' ∧ j'.st = .done ∧ j'.final = stOk

/-- R206, R211: ATTEMPT_COMPLETE of a running attempt whose inputs are sound and whose cores run ends the job DONE: its
outputs are in place, RESULTS and FLAGS are those of the graph's run, its cores are IDLE, its broke and key set returned. An
input that cannot be read abandons the attempt instead, with class 3 for a mismatched tag and class 1 otherwise. R43, R44,
R187, R211, R214: a core fault of a running attempt abandons it with its class and names the core: a handshake watchdog class
2, a late arrival class 5, an uncorrectable error of the core's store class 1, the fourth rebuild of a hash table within an
operator class 5, token misuse class 4, an error in its broke class 1, or 3 for an HBM line whose tag fails. The core is in
FAULT but for token misuse (notes/assumptions/16). Table 9-8, Table 10-5: of the faults of one tick the lowest class abandons
the attempt, a fault wins over its completion, and a debug halt over the watchdog. -/
def Obligations.AttemptsEnd : Prop :=
  (∀ s tag, s.faultComes tag = true → exec (.attemptComplete tag) s = .next (s.putOff (.attemptComplete tag))) ∧
  (∀ s c, (s.coreOutranked c 5 = true → exec (.lateArrival c) s = .next (s.putOff (.lateArrival c))) ∧
    (∀ m, s.coreOutranked c 4 = true → exec (.tokenMisuse c m) s = .next (s.putOff (.tokenMisuse c m))) ∧
    exec (.hsWdtExpiry c) { s with fabric := { s.fabric with dbgHalt := bankSet s.fabric.dbgHalt c true } } =
      .next { s with fabric := { s.fabric with dbgHalt := bankSet s.fabric.dbgHalt c true } } ∧
    (s.fabric.dbgHalt.get c = false → s.commandsWait = true ∨ s.coreOutranked c 2 = true →
      exec (.hsWdtExpiry c) s = .next (s.putOff (.hsWdtExpiry c)))) ∧
  (∀ s tag j, s.job tag = some j → j.st = .running → s.faultComes tag = false → (∀ c ∈ j.cores, s.fabric.dbgHalt.get c = false) →
    (s.badInput j = none →
      let r := runGraph j.graph (s.runEnv tag j) (s.inputBytes j)
      ∃ t, exec (.attemptComplete tag) s = .next t ∧ t.mem = (s.writeOutputs j r).mem ∧
        t.jobs.log.get tag = s.jobs.log.get tag + 15 * 16 ^ (j.attempt - 1) ∧
        (∀ c, (t.core1 c).st = if c ∈ j.cores ∧ (s.core1 c).st = .job ∧ (s.core1 c).job = some tag then .idle else (s.core1 c).st) ∧
        t.axes = s.axes ∧ t.leases = s.leases ∧ t.jobs.graphs = s.jobs.graphs ∧
        if j.autoRelease = true then t.job tag = none
        else ∃ j', t.job tag = some j' ∧ j'.st = .done ∧ j'.final = stOk ∧ j'.results = r.results ∧
          j'.flags = Nat.lor j.flags r.flags ∧ j'.cores = [] ∧ j'.brokeKey = none ∧ j'.attempt = j.attempt ∧
          j'.end_ = s.devTime) ∧
    (∀ reg line cause, s.badInput j = some (reg, line, cause) →
      ∃ t, exec (.attemptComplete tag) s = .next t ∧
        Abandoned s t tag j (if cause = 2 then 3 else 1) 0xFF reg line ∧ t.mem.fltRegion = reg ∧ t.mem.fltLine = line)) ∧
  (∀ s t j c, s.job t = some j → j.st = .running → (s.core1 c).st = .job → (s.core1 c).job = some t →
    (s.fabric.dbgHalt.get c = false → s.commandsWait = false → s.outranked t 2 = false →
      ∃ u, exec (.hsWdtExpiry c) s = .next u ∧ Abandoned s u t j 2 c.val 0 0 ∧
      (u.core1 c).st = .fault ∧ (u.core1 c).faults = satInc 255 (s.core1 c).faults ∧
      u.fabric.cntHsWdt = satInc 65535 s.fabric.cntHsWdt) ∧
    (s.outranked t 5 = false → ∃ u, exec (.lateArrival c) s = .next u ∧ Abandoned s u t j 5 c.val 0 0 ∧ (u.core1 c).st = .fault ∧
      u.fabric.cntLate = satInc 65535 s.fabric.cntLate) ∧
    (∀ m, misusedBy m j.selfTokens = true → s.outranked t 4 = false →
      ∃ u, exec (.tokenMisuse c m) s = .next u ∧ Abandoned s u t j 4 c.val 0 (misusedToken m) ∧
      (u.core1 c).st = (s.core1 c).st) ∧
    (∀ region line, s.boot.step ≠ .held → s.boot.step ≠ .stopped →
      (∃ u, exec (.memUncorrectable false (.coreStore c) t false region line) s = .next u ∧
        Abandoned s u t j 1 c.val 0 line.toNat ∧ (u.core1 c).st = .fault ∧
        u.mem.cntCoreUe = satInc 65535 s.mem.cntCoreUe ∧ u.mem.fltLine = line.toNat) ∧
      (∃ u, exec (.memUncorrectable false (.broke true) t false region line) s = .next u ∧
        Abandoned s u t j 1 0xFF 0 line.toNat ∧ u.mem.cntVatUe = satInc 65535 s.mem.cntVatUe ∧ u.mem.fltCause = 3) ∧
      (∀ mismatch, (mismatch = true → s.outranked t 3 = false) →
        ∃ u, exec (.memUncorrectable false (.broke false) t mismatch region line) s = .next u ∧
          Abandoned s u t j (if mismatch then 3 else 1) 0xFF 0 line.toNat ∧ u.mem.fltCause = if mismatch then 2 else 1)) ∧
    (∀ node, c ∈ j.cores →
      let n := if j.rebuildNode = some node then j.rebuilds else 0
      if n < 3 then
        ∃ u, exec (.hashRebuild ⟨t, c, node⟩) s = .next u ∧
          u.job t = some { j with rebuilds := n + 1, rebuildNode := some node, hashSeed := s.draws } ∧
          u.cores.cntRehash = satInc 65535 s.cores.cntRehash ∧ u.draws = s.draws + 1 ∧ u.cores.core = s.cores.core
      else s.outranked t 5 = false →
        ∃ u, exec (.hashRebuild ⟨t, c, node⟩) s = .next u ∧ Abandoned s u t j 5 c.val 0 0 ∧ (u.core1 c).st = .fault))

/-- R208: the head of the dispatch order is a READY job, of an owner with cores owed if there is one such, and the first of those
to have become READY. R208, R209: JOB_DISPATCH starts an attempt of the head of the order on min(CORES_HIGH, A) free cores, where
A is the number of free cores less what the other owners with READY jobs are owed, when A reaches CORES_LOW, its broke fits and
dispatch is not held; otherwise nothing happens. It gives way to the commands of its tick, a MEM_ALLOC or a LEASE_TAKE among
them, and to the attempts that end in it (Table 8-5, Table 10-5). -/
def Obligations.DispatchTakesTheOldest : Prop :=
  (∀ (s : State) t j, s.headJob = some (t, j) → s.job t = some j ∧ j.st = .ready ∧
    ∀ k j', s.job k = some j' → j'.st = .ready →
      if 0 < s.coresOwed j.port then s.coresOwed j'.port = 0 ∨ j.readyPos.getD 0 ≤ j'.readyPos.getD 0
      else s.coresOwed j'.port = 0 ∧ j.readyPos.getD 0 ≤ j'.readyPos.getD 0) ∧
  (∀ s : State, s.commandsWait = true ∨ s.behind s.endsAttempt = true → exec .jobDispatch s = .next (s.putOff .jobDispatch)) ∧
  (∀ (s : State) (t : Fin 64) (j : Job), s.headJob = some (t, j) → s.commandsWait = false → s.behind s.endsAttempt = false →
    let free := (List.finRange 32).filter s.coreFree
    let others := (List.finRange 4).filter fun p => p != j.port && s.readyJobs.any fun x => x.2.port == p
    let a := free.length - (others.map s.coresOwed).sum
    if j.graph.coresLow ≤ a ∧ s.dispatchHeld = false ∧ j.graph.brokeHbm ≤ s.freeCount .hbm ∧ j.graph.brokeVat ≤ s.freeCount .vat
    then
      ∃ u cs, exec .jobDispatch s = .next u ∧ cs.Nodup ∧ cs.length = min j.graph.coresHigh a ∧ (∀ c ∈ cs, s.coreFree c = true) ∧
        (∀ c, if c ∈ cs then (u.core1 c).st = .job ∧ (u.core1 c).job = some t else u.core1 c = s.core1 c) ∧
        ∃ j', u.job t = some j' ∧ j'.st = .running ∧ j'.attempt = j.attempt + 1 ∧ j'.cores = cs ∧
          j'.brokeKey = some s.mem.nextKey ∧ j'.brokeHbm.length = j.graph.brokeHbm ∧ j'.brokeVat.length = j.graph.brokeVat ∧
          u.mem.nextKey = s.mem.nextKey + 1 ∧ u.mem.regions = s.mem.regions ∧
          ∀ k, k ≠ t → u.job k = s.job k
    else exec .jobDispatch s = .next s)

/-- R206, R211: ATTEMPT_STOPPED of a job whose attempt was abandoned frees its cores and its broke key set; a RESTARTING job
is READY again in its place in the order; an attempt whose tag was freed meanwhile comes first (notes/assumptions/16). R205:
SENSOR_WINDOW_EXPIRY of a WAITING job past its token, with SENSOR_MIN ports delivered and the window passed since the earliest
frame start among them, makes it READY, SENSOR_SHORT set while ports are missing. R189, R192: CORE_SELF_TEST_DONE of a core in
FAULT that passes, its faults below FAULT_MAX, frees the core to serve; otherwise it retires the core. CORE_IDLE_OFF takes a
core IDLE for IDLE_OFF_MS and not halted to OFF, and no other. -/
def Obligations.CoreRowsAct : Prop :=
  (∀ s tag a, s.jobs.stopping.find? (fun a => a.tag == tag) = some a →
    ∃ u, exec (.attemptStopped tag) s = .next u ∧
      (∀ c, (u.core1 c).st = if c ∈ a.cores ∧ (s.core1 c).st = .job ∧ (s.core1 c).job = none then .idle else (s.core1 c).st) ∧
      u.mem = s.mem ∧ u.jobs = { s.jobs with stopping := s.jobs.stopping.erase a } ∧ u.draws = s.draws + 1) ∧
  (∀ s tag j, s.jobs.stopping.find? (fun a => a.tag == tag) = none → s.job tag = some j → j.st ≠ .running → j.brokeKey ≠ none →
    ∃ u, exec (.attemptStopped tag) s = .next u ∧
      (∀ c, (u.core1 c).st =
        if c ∈ j.cores ∧ (s.core1 c).st = .job ∧ (s.core1 c).job = some tag then .idle else (s.core1 c).st) ∧
      u.mem = s.mem ∧ (∀ k, k ≠ tag → u.job k = s.job k) ∧ u.keys.table.get (slotBroke tag) = s.draws ∧
      if j.st = .restarting then
        u.job tag = some { j.release with st := .ready, readyPos := some (j.readyPos.getD s.jobs.readyNext) }
      else u.job tag = some j.release) ∧
  (∀ s tag, s.commandsWait = true → exec (.sensorWindowExpiry tag) s = .next (s.putOff (.sensorWindowExpiry tag))) ∧
  (∀ s tag j d, s.commandsWait = false → s.job tag = some j → j.st = .waiting → j.pastToken = true → j.graph.sensorMin ≠ 0 →
    j.graph.sensorMin ≤ j.delivered.length → d ∈ j.delivered → d.fsTick + j.graph.windowUs * usTicks ≤ s.now →
    exec (.sensorWindowExpiry tag) s = .next (s.updJobs fun x => { x with
      readyNext := x.readyNext + 1,
      tags := bankSet x.tags tag (some { j with
        st := .ready, readyPos := some (j.readyPos.getD x.readyNext),
        cams := j.ports.map fun p => (p, (s.headbox.cam.get p).active),
        flags := if j.delivered.length < j.ports.length then Nat.lor j.flags 2 else Nat.lor j.flags 0 }) })) ∧
  ((∀ s c pass, (s.core1 c).st = .fault → (s.core1 c).retired = false → s.fabric.dbgHalt.get c = false →
    s.boot.dev ≠ .shutdown →
    if pass = true ∧ (s.core1 c).faults < s.cores.faultMax then
      ∃ u, exec (.coreSelfTestDone c pass) s = .next u ∧ ((u.core1 c).st = .idle ∨ (u.core1 c).st = .pinned) ∧
        (u.core1 c).retired = false ∧ u.axes = s.axes ∧ u.jobs = s.jobs
    else exec (.coreSelfTestDone c pass) s = .next (s.updCore c fun x => { x with retired := true })) ∧
  (∀ s c, exec (.coreIdleOff c) s = .next
    (if (s.core1 c).st = .idle ∧ s.fabric.dbgHalt.get c = false ∧ s.cores.idleOffMs ≠ 0 ∧ (s.core1 c).idleAt + s.cores.idleOffMs * msTicks ≤ s.now then
      s.updCore c fun x => { x with st := .off }
    else s)))

/-! ## Depth sensor ports (chapter 13) -/

/-- R262, R264: SENSOR_CONFIG in range of a port neither armed nor under test, no buffer held and no unended job bound to it, sets
its fields, frees its buffers and takes their room from the SELF pool; SENSOR_ARM arms a CONFIGURED port, an edge of its source
seen before included; SENSOR_DISARM ends reception at once, or after the frame in progress with MODE 1 or where that frame ends in
the same tick (notes/assumptions/17), and the port delivers to no job that waits on it. Out of its state a command returns
E_STATE. -/
def Obligations.SensorCommandsComplete : Prop :=
  (∀ s h ses p, Accepted s h (.sensorConfig p) ses → snsCfgOk p = true →
    let k := snsOf h
    let x := s.sns k
    let c := snsCfgOf p
    let pool := s.mem.selfMib - x.cfg.mib + c.mib
    if x.st ≠ .unconfigured ∧ x.st ≠ .configured then Completes (.sensorConfig h p) s h 0x30 eState [] s
    else x.bufs.toList.any (fun b => b.st == .held) = false → s.snsBound k = false →
      if 1024 < pool then Completes (.sensorConfig h p) s h 0x30 eNoMemory [] s
      else Completes (.sensorConfig h p) s h 0x30 stOk []
        { s with
          mem := { s.mem with selfMib := pool },
          sensors := bankSet s.sensors k { x with
            st := .configured, cfg := c, bufs := Vector.replicate 4 .empty, incoming := none,
            clk := x.clk && c.clkMode == 0 } }) ∧
  (∀ s h ses p, Accepted s h (.sensorArm p) ses →
    let k := snsOf h
    p.syncMask.getLsbD k.val = true → p.trigSrc.toNat ≤ 12 → (p.trigSrc = 0 ↔ p.windowUs = 0) →
    (p.token ≠ 0xFFFF → s.token h.port p.token.toNat ≠ none) →
    if (s.sns k).st ≠ .configured then Completes (.sensorArm h p) s h 0x31 eState [] s
    else Completes (.sensorArm h p) s h 0x31 stOk []
      { s with sensors := bankSet s.sensors k { (s.sns k).takePreEdge p.trigSrc.toNat with
          st := .armed, left := p.count.toNat, done := false, armPort := h.port, endedAt := none, disarmPending := false,
          arm := ⟨if p.token = 0xFFFF then none else some p.token.toNat, p.syncMask.toNat, p.trigSrc.toNat,
            p.windowUs.toNat, p.count.toNat⟩ } }) ∧
  (∀ s h ses (m : Byte), Accepted s h (.sensorDisarm m) ses → m.toNat ≤ 1 →
    let k := snsOf h
    let x := s.sns k
    match x.st with
    | .test => Completes (.sensorDisarm h m) s h 0x32 eState [] s
    | .receiving =>
      if m = 1 ∨ s.endsNow k = true then
        Completes (.sensorDisarm h m) s h 0x32 stOk [] { s with sensors := bankSet s.sensors k { x with disarmPending := true } }
      else ∀ f, x.incoming = some f →
        Completes (.sensorDisarm h m) s h 0x32 stOk []
          { s.portDisarmed k with sensors := bankSet s.sensors k { x with
            st := .configured, bufs := bankSet x.bufs f.buffer .empty, incoming := none, disarmPending := false, done := false } }
    | .armed => x.incoming = none →
        Completes (.sensorDisarm h m) s h 0x32 stOk []
          { s.portDisarmed k with
            sensors := bankSet s.sensors k { x with st := .configured, disarmPending := false, done := false } }
    | _ => Completes (.sensorDisarm h m) s h 0x32 stOk [] s)

/-- R266: SENSOR_FS and SENSOR_FE give way to the commands of their tick, SENSOR_FS to trigger edges, SENSOR_LONG_PACKET to a
packet of its port that gave way, SENSOR_FRAME_TIMEOUT to an FE of its tick. R256, R257, R260, R265, R267: an FS on the depth
channel of an armed port begins a frame in a free buffer at the tick's device time, outside its trigger window or without a
buffer it is counted and passed over; a long packet of the depth channel adds its line, one whose CRC fails spoils the frame,
one lost to a sync error leaves it to be discarded, one on another channel is ignored; TIMEOUT_MS after its FS a frame is
discarded and counted; the clock of a port is lost and returns, and a trigger edge opens the window, or before an arming is
kept for it. R257, R258, R259, R263: the FE of a frame whose lines are all there and sound completes it: it is counted, its
time and number shown, the port ready for the next or, its COUNT reached, CONFIGURED; the token of a port alone in its group
is signalled once; the frame goes to the jobs that wait for it, and its buffer is free where none does. An FE of a frame
already spoiled, or that lost a packet, discards it. -/
def Obligations.SensorRowsAct : Prop :=
  ((∀ s k conf fnum c, s.commandsWait = true ∨ s.packetsWait k = true ∨ s.behind ((s.sns k).mayTrigger k) = true →
    exec (.sensorFs k conf fnum c) s = .next (s.putOff (.sensorFs k conf fnum c))) ∧
  (∀ s k conf fnum c, s.commandsWait = true ∨ s.packetsWait k = true →
    exec (.sensorFe k conf fnum c) s = .next (s.putOff (.sensorFe k conf fnum c))) ∧
  (∀ s k vc dt ecc crc bs, s.packetsWait k = true →
    exec (.sensorLongPacket k vc dt ecc crc bs) s = .next (s.putOff (.sensorLongPacket k vc dt ecc crc bs))) ∧
  (∀ s k, (s.sns k).incoming ≠ none → s.feWaits k false = true ∨ s.feWaits k true = true →
    exec (.sensorFrameTimeout k) s = .next (s.putOff (.sensorFrameTimeout k)))) ∧
  ((∀ s k fnum b rest, s.commandsWait = false → s.packetsWait k = false → s.behind ((s.sns k).mayTrigger k) = false →
    (s.sns k).st = .armed → (s.sns k).incoming = none → s.freeBufs k = b :: rest →
    let x := s.sns k
    let src : Fin 12 := Fin.ofNat 12 (x.arm.trigSrc - 1)
    let opened : Prop :=
      x.arm.trigSrc = 0 ∨ ∃ e, x.seen.get src = some (e, false) ∧ e ≤ s.now ∧ s.now ≤ e + x.arm.windowUs * usTicks
    (opened → exec (.sensorFs k false fnum false) s = .next (s.updSensor k fun _ =>
        { x with st := .receiving, bufs := bankUpd x.bufs b fun y => { y with st := .filling },
                 seen := if x.arm.trigSrc = 0 then x.seen else bankUpd x.seen src fun e => e.map fun y => (y.1, true),
                 incoming := some ⟨b, s.devTime, s.now, fnum.toNat, [], [], none, false, false, false, 0⟩ })) ∧
    (¬ opened → exec (.sensorFs k false fnum false) s = .next (s.updSensor k fun _ => { x with untrig := satInc 65535 x.untrig }))) ∧
  (∀ s k fnum, s.commandsWait = false → s.packetsWait k = false → s.behind ((s.sns k).mayTrigger k) = false →
    (s.sns k).st = .armed → (s.sns k).incoming = none → (s.sns k).arm.trigSrc = 0 → s.freeBufs k = [] →
    exec (.sensorFs k false fnum false) s = .next (s.updSensor k fun x => { x with noBuf := satInc 65535 x.noBuf })) ∧
  (∀ s k (vc dt : Byte) (ecc : Fin 4) crc bs, s.packetsWait k = false → ecc ≠ 3 → vc.toNat ≠ (s.sns k).cfg.vcDepth →
    (s.sns k).cfg.conf = false ∨ vc.toNat ≠ (s.sns k).cfg.vcDepth + 1 →
    exec (.sensorLongPacket k vc dt ecc crc bs) s = .next s) ∧
  (∀ s k (vc dt : Byte) bs f, s.packetsWait k = false → (s.sns k).st = .receiving → (s.sns k).incoming = some f → f.bad = 0 →
    vc.toNat = (s.sns k).cfg.vcDepth → dt.toNat = (s.sns k).cfg.dt → bs.length = 2 * (s.sns k).cfg.width → f.depthFe = false →
    f.lines.length < (s.sns k).cfg.height →
    exec (.sensorLongPacket k vc dt 0 true bs) s = .next (s.updSensor k fun x =>
      { x with incoming := some { f with lines := f.lines ++ [pixelLine x.cfg bs] } }) ∧
    exec (.sensorLongPacket k vc dt 0 false bs) s = .next (s.updSensor k fun x =>
      { x with incoming := some { f with bad := 2 } }) ∧
    exec (.sensorLongPacket k vc dt 3 true bs) s = .next (s.updSensor k fun x =>
      { x with sot := satInc 65535 x.sot, incoming := some { f with lost := true } })) ∧
  (∀ s k f, (s.sns k).incoming = some f → f.bad = 0 → f.fsTick + (s.sns k).cfg.timeoutMs * msTicks ≤ s.now →
    (s.sns k).disarmPending = false → (s.sns k).arm.count = 0 → s.feWaits k false = false → s.feWaits k true = false →
    exec (.sensorFrameTimeout k) s = .next (s.updSensor k fun x =>
      { x with st := .armed, incoming := none, trunc := satInc 65535 x.trunc, bufs := bankSet x.bufs f.buffer .empty })) ∧
  (∀ s k, (s.sns k).incoming = none → (s.sns k).clk = true →
    exec (.sensorClkLost k) s = .next (s.updSensor k fun x => { x with clk := false, clkLost := satInc 65535 x.clkLost })) ∧
  (∀ s k, (s.sns k).st ≠ .unconfigured → (s.sns k).cfg.clkMode = 0 →
    exec (.sensorClkReturn k) s = .next (s.updSensor k fun x => { x with clk := true })) ∧
  (∀ s k, let src : Fin 12 := Fin.ofNat 12 ((s.sns k).arm.trigSrc - 1)
    ((s.sns k).st = .armed ∨ (s.sns k).st = .receiving → (s.sns k).arm.trigSrc ≠ 0 →
      ((s.sns k).seen.get src).map (·.1) ≠ some s.now →
      exec (.sensorTriggerEdge k) s = .next (s.updSensor k fun x => { x with seen := bankSet x.seen src (some (s.now, false)) })) ∧
    ((s.sns k).st ≠ .armed → (s.sns k).st ≠ .receiving →
      exec (.sensorTriggerEdge k) s = .next (s.updSensor k fun x => { x with preEdge := some s.now })))) ∧
  ((∀ s k (fnum : BitVec 16) f, s.commandsWait = false → s.packetsWait k = false →
    (s.sns k).st = .receiving → (s.sns k).incoming = some f → f.bad = 0 → f.lost = false → (s.sns k).cfg.conf = false →
    f.fnum = fnum.toNat → f.lines.length = (s.sns k).cfg.height →
    s.now ≤ f.fsTick + (s.sns k).cfg.timeoutMs * msTicks →
    ∃ t, exec (.sensorFe k false fnum false) s = .next t ∧ (t.sns k).complete = satInc 0xFFFFFFFF (s.sns k).complete ∧
      (t.sns k).lastFs = f.fsTime ∧ (t.sns k).lastFnum = f.fnum ∧ (t.sns k).incoming = none ∧
      (t.sns k).st = (if (s.sns k).disarmPending = true ∨ ((s.sns k).arm.count ≠ 0 ∧ (s.sns k).left ≤ 1) then .configured
        else .armed) ∧
      (t.sns k).left = (s.sns k).left - 1 ∧ t.mem = s.mem ∧ t.leases = s.leases ∧ t.axes = s.axes ∧
      ((s.sns k).arm.token = none →
        (∀ i j, s.job i = some j → (j.st = .waiting ∧ j.pastToken = true ∧ k ∈ j.ports ∧ k ∉ j.disarmed ∧
          (∀ d ∈ j.delivered, d.port ≠ k) ∧ j.waitFrom ≤ f.fsTime) →
          (∃ j', t.job i = some j' ∧ j'.delivered = j.delivered ++ [⟨k, f.buffer, f.fsTime, f.fsTick⟩]) ∧
          ((t.sns k).bufs.get f.buffer).st = .held ∧ i ∈ ((t.sns k).bufs.get f.buffer).jobs ∧
          ((t.sns k).bufs.get f.buffer).depth = f.lines) ∧
        ((∀ i j, s.job i = some j → j.st ≠ .waiting) → t.jobs = s.jobs ∧ (t.sns k).bufs.get f.buffer = .empty)) ∧
      (∀ id x, (s.sns k).arm.token = some id → (s.sns k).arm.syncMask = 2 ^ k.val →
        s.jobs.tokens.find? (fun y => y.id == id) = some x → x.waiters = [] → x.count < tokenMax →
        t.tokenCount id = x.count + 1)) ∧
  (∀ s k (fnum : BitVec 16) f, s.commandsWait = false → s.packetsWait k = false →
    (s.sns k).st = .receiving → (s.sns k).incoming = some f →
    (s.sns k).cfg.conf = false → (s.sns k).disarmPending = false → (s.sns k).arm.count = 0 →
    (f.bad = 2 → exec (.sensorFe k false fnum false) s = .next (s.updSensor k fun x =>
      { x with st := .armed, incoming := none, crc := satInc 65535 x.crc, bufs := bankSet x.bufs f.buffer .empty })) ∧
    (f.bad = 0 → f.lost = true → f.fnum = fnum.toNat → f.lines.length = (s.sns k).cfg.height →
      s.now ≤ f.fsTick + (s.sns k).cfg.timeoutMs * msTicks →
      exec (.sensorFe k false fnum false) s = .next (s.updSensor k fun x =>
        { x with st := .armed, incoming := none, bufs := bankSet x.bufs f.buffer .empty }))))

/-! ## The timebase and the time pulses (chapter 14) -/

/-- R283, R284, R285: TIME_GET returns device time, its uncertainty, state, reference and whether it slews or a step is due,
E_HW_FAULT while device time has stopped. TIME_REF_SELECT puts its settings in force, with PRIMARY none in FREE, and with SAVE
answers once the store holds them. PULSE_CONFIG sets a pulse at rest at once, an active one from the end of its active phase. A
field out of range is E_PARAM and changes nothing. R279, R280: in the tick in which device time reaches the second S of a pending
step it becomes S + o' exactly, counted, with EV_TIME_STEP, and the servo takes over; before it nothing happens. R287: the event
of a step made at the start of its tick waits until the tick's other rows have acted. R281:
PRIMARY_REVERT returns to a PRIMARY that has been valid for REVERT_S, and not before. -/
def Obligations.TimeCommandsAct : Prop :=
  ((∀ s h ses, Accepted s h .timeGet ses →
    if s.tb.running = true then
      Completes (.timeGet h) s h 0x38 stOk (time96Bytes s.devTime ++ le 4 (s.tb.unc s.now) ++ le 1 s.tb.st.code
        ++ le 1 s.tb.refUse.code ++ le 1 (bitAt 0 (s.tb.s != 0) + bitAt 1 s.tb.pendingStep) ++ zeros 1) s
    else Completes (.timeGet h) s h 0x38 eHwFault [] s) ∧
  (∀ s h ses p, Accepted s h (.timeRefSelect p) ses →
    let n := { s.tb.set with
      primary := refOf p.primary, backup := refOf p.backup, delay := p.delay.toNat, domain := p.domain.toNat,
      transport := p.transport.toNat, ppsiEdge := p.ppsiEdge.toNat, stepLimitUs := p.stepLimit.toNat,
      slewMax := p.slewMax.toNat }
    if timeRefOk p = true then
      ∃ t, exec (.timeRefSelect h p) s = .next t ∧ t.tb.set = n ∧ t.tb.fine = s.tb.fine ∧ t.tb.pulses = s.tb.pulses ∧
        (p.primary = 0 → t.tb.st = .free ∧ t.tb.refUse = .none) ∧
        (p.setSec = true → t.tb.ppsi.setSec = some p.seconds.toNat) ∧
        t.mem = s.mem ∧ t.jobs = s.jobs ∧ t.axes = s.axes ∧ t.leases = s.leases ∧ t.sensors = s.sensors ∧
        (p.save = false → Replied s t h 0x39 stOk [] ∧ t.store = s.store) ∧
        (p.save = true → t.store.queue = (s.store.queue.filter fun w => !w.staleSave)
          ++ [⟨.timebase n, some (s.ticket h (.timeRefSelect p) ses), s.now, none⟩])
    else Completes (.timeRefSelect h p) s h 0x39 eParam [] s) ∧
  (∀ s h ses p, Accepted s h (.pulseConfig p) ses →
    let n : Fin 4 := Fin.ofNat 4 p.pulse.toNat
    let x := s.tb.pulses.get n
    let c : PulseCfg := ⟨p.en, p.pol, p.gate, p.trim.toInt, p.startSec.toNat * 1000000000 + p.startNs.toNat, p.period.toNat, p.width.toNat⟩
    let y := { x with fromNs := ceilDiv s.tb.fine nsFine + 10000, fromTick := 0 }
    if p.pulse.toNat ≤ 3 ∧ -500 ≤ p.trim.toInt ∧ p.trim.toInt ≤ 500 ∧ p.startFrac = 0 ∧ p.startNs.toNat < 1000000000 ∧
      1000 ≤ p.period.toNat ∧ p.period.toNat ≤ 1000000000000 ∧ 10 ≤ p.width.toNat ∧ p.width.toNat ≤ p.period.toNat - 10
    then
      Completes (.pulseConfig h p) s h 0x3A stOk []
        (s.updPulse n fun _ => if x.active then { y with next := some c } else { y with cfg := c, active := false, level := c.pol })
    else Completes (.pulseConfig h p) s h 0x3A eParam [] s)) ∧
  ((∀ s, s.tb.running = true → s.tb.pendingStep = true →
    let old := s.tb.secNext * secFine
    let new := ((old : Int) + s.tb.remain).toNat
    if old ≤ s.tb.fine then
      s.pending = [] → s.commandsWait = false →
      ∃ t, exec .timeStep s = .next t ∧ t.tb.fine = new ∧ t.tb.pendingStep = false ∧ t.tb.remain = 0 ∧ t.tb.s = 0 ∧
        t.tb.i = s.tb.f ∧ t.tb.f = s.tb.f ∧ t.tb.steps = satInc 65535 s.tb.steps ∧ t.tb.st = s.tb.st ∧
        t.tb.stepEvent = none ∧ t.axes = s.axes ∧ t.mem = s.mem ∧
        ∀ p ses, (s.owner p).session = some ses → ses.mask.testBit 11 = true → s.portDead p = false →
          (s.owner p).events.length < 256 →
          (t.owner p).events = (s.owner p).events ++ [⟨11, 0, 0, ses.evSeq,
            time96Bytes (new / 2 ^ 24) ++ time96Bytes (old / 2 ^ 24) ++ time96Bytes (new / 2 ^ 24)⟩]
    else s.tb.stepEvent = none → exec .timeStep s = .next s) ∧
  (∀ s old new, s.stepDue = false → s.tb.stepEvent = some (old, new) →
    if s.pending ≠ [] ∨ s.commandsWait = true then exec .timeStep s = .next (s.putOff .timeStep)
    else Runs .timeStep s (s.updTb fun t => { t with stepEvent := none })) ∧
  (∀ s a, s.tb.primaryFrom = some a → s.tb.refUse = s.tb.set.backup → s.tb.set.backup ≠ .none → s.tb.set.primary ≠ .none →
    s.tb.refValid s.tb.set.primary = true → s.tb.set.primary ≠ s.tb.set.backup → s.tb.st = .locked →
    if a + s.tb.set.revertS * secTicks ≤ s.now then
      ∃ t, exec .primaryRevert s = .next t ∧ t.tb.refUse = s.tb.set.primary ∧ t.tb.st = .recovering ∧
        t.tb.fine = s.tb.fine ∧ t.tb.f = s.tb.f
    else exec .primaryRevert s = .next s))

/-- R280, R282: TP_LEADING_EDGE drives the first edge not served yet once device time has reached it, or while its pulse is
gated in FREE and LOCKING counts it suppressed; TP_TRAILING_EDGE ends the active phase WIDTH after its edge, after a step in
D01 time. R274, R275: an edge of PPSI with the selected polarity, the first or 1 s ± 100 µs after the last accepted one, is
accepted and counted, and three make PPSI valid; another is counted rejected and changes nothing else. 1,500 ms without an
accepted edge PPSI is lost, and with no other reference LOCKED falls to HOLDOVER. -/
def Obligations.PulseAndPpsiRowsAct : Prop :=
  ((∀ s n, let p := s.tb.pulses.get n
    let e := p.cfg.edgeFrom p.fromNs
    p.active = false → p.cfg.en = true → s.pulsesRun = true → p.fromTick ≤ s.now →
    if s.devNs < e then exec (.tpLeadingEdge n) s = .next s
    else if p.cfg.gate = true ∧ (s.tb.st = .free ∨ s.tb.st = .locking) then
      exec (.tpLeadingEdge n) s = .next (s.updPulse n fun p => { p with suppr := satInc 65535 p.suppr, fromNs := e + 1 })
    else
      ∃ t, exec (.tpLeadingEdge n) s = .next t ∧ t.tb = { s.tb with pulses := bankSet s.tb.pulses n { p with
          active := true, activeEnd := e + p.cfg.width, endTick := none, fromNs := e + 1, level := !p.cfg.pol,
          edges := satInc 0xFFFFFFFF p.edges } } ∧
        (∀ k, ((s.sns k).seen.get (Fin.ofNat 12 n.val)).map (·.1) ≠ some s.now →
          (t.sns k).seen.get (Fin.ofNat 12 n.val) = some (s.now, false)) ∧ t.axes = s.axes ∧ t.mem = s.mem ∧ t.leases = s.leases) ∧
  (∀ s n, let p := s.tb.pulses.get n
    p.active = true → p.next = none →
    (p.endTick = none → exec (.tpTrailingEdge n) s = .next (if p.activeEnd ≤ s.devNs then
      s.updPulse n fun p => { p with active := false, level := p.cfg.pol } else s)) ∧
    (∀ k, p.endTick = some k → exec (.tpTrailingEdge n) s = .next (if k ≤ s.now then
      s.updPulse n fun p => { p with active := false, level := p.cfg.pol, endTick := none } else s)))) ∧
  ((∀ s rising (sub : Fin 100), s.tb.running = true → (rising = true ↔ s.tb.set.ppsiEdge = 0) →
    let k := s.now * 100 + sub.val
    s.tb.ppsi.overdue k = false →
    let p := s.tb.ppsi
    if p.first = true ∨ (∃ a, p.lastAt = some a ∧ a + 9999000000 ≤ k ∧ k ≤ a + 10001000000) then
      ∃ t, exec (.ppsiEdge rising sub) s = .next t ∧ t.tb.ppsi.lastAt = some k ∧ t.tb.ppsi.first = false ∧
        t.tb.ppsi.setSec = none ∧ t.tb.ppsi.cntEdges = satInc 65535 p.cntEdges ∧
        t.tb.ppsi.run = (if p.first then 1 else p.run + 1) ∧
        (t.tb.ppsi.valid = true ↔ p.valid = true ∨ 3 ≤ t.tb.ppsi.run) ∧ t.tb.fine = s.tb.fine ∧ t.axes = s.axes ∧
        t.mem = s.mem
    else exec (.ppsiEdge rising sub) s = .next (s.updTb fun t =>
      { t with ppsi := { t.ppsi with cntReject := satInc 65535 t.ppsi.cntReject } })) ∧
  (∀ s, s.ppsiOverdue = true →
    ∃ t, exec .ppsiLoss s = .next t ∧ t.tb.ppsi.valid = false ∧ t.tb.ppsi.run = 0 ∧ t.tb.fine = s.tb.fine ∧
      (s.tb.refUse = .ppsi → s.tb.set.primary = .ppsi → s.tb.set.backup = .none → s.tb.st = .locked →
        t.tb.st = .holdover ∧ t.tb.refUse = .none ∧ t.tb.s = 0 ∧ t.tb.holdovers = satInc 65535 s.tb.holdovers)) ∧
  (∀ s a, s.tb.ppsi.lastAt = some a → s.now * 100 + 99 < a + 15000000000 → exec .ppsiLoss s = .next s))

/-- R272, R273, R275, R288: while the PTP port serves, an Announce of the domain enters the masters; one of another domain, a
malformed or unicast one, one with a foreign TLV, a Management and a Signaling message are counted discarded; a two-step Sync
of the selected master waits for its Follow_Up, which with a delay measured completes it; the last Sync PTP_MS ago, PTP is no
longer valid, and where PPSI is lost in the same tick LOCKED falls to HOLDOVER at once (R287). R273: the delay is measured end
to end by Delay_Req and Delay_Resp, or peer to peer by Pdelay_Req and its answers: a request goes out with the next sequence
number and its transmit time noted, its answer gives the mean path delay and is counted; no request goes out before its
interval has passed; a Pdelay_Req of the peer is answered two-step. -/
def Obligations.PtpRowsAct : Prop :=
  ((∀ s rx, s.ptpHears rx = true → exec (.ptpAnnounceRx (.management rx)) s = .next s.ptpDiscard ∧
    exec (.ptpAnnounceRx (.signaling rx)) s = .next s.ptpDiscard) ∧
  (∀ s m, s.ptpHears m.rx = true →
    (m.domain ≠ s.tb.set.domain ∨ m.rx.malformed = true ∨ m.rx.unicast = true ∨ m.rx.foreignTlv = true →
      exec (.ptpAnnounceRx (.announce m)) s = .next s.ptpDiscard) ∧
    (s.ptpRefuses m.rx m.domain = false → m.steps < 255 → s.tb.ptp.masters = [] →
      s.tb.ptp.selected = none → s.tb.set.primary = .none → s.tb.refUse = .none →
      ∃ t, exec (.ptpAnnounceRx (.announce m)) s = .next t ∧ t.tb.ptp.selected = some (m.clockId, m.port) ∧
        t.tb.ptp.masters.map (fun x => (x.clockId, x.port, x.heardAt)) = [(m.clockId, m.port, s.now)] ∧
        t.tb.st = s.tb.st ∧ t.tb.fine = s.tb.fine)) ∧
  (∀ s m, s.ptpHears m.rx = true → s.ptpRefuses m.rx m.domain = false →
    s.tb.ptp.selected = some (m.clockId, m.port) → -7 ≤ m.logInterval →
    m.logInterval ≤ 4 → m.twoStep = true →
    exec (.ptpSyncRx m) s = .next (s.updPtp fun p => { p with
      lastSync := some s.now, logSync := m.logInterval,
      cntMissing := satAdd 65535 p.cntMissing (if p.openSync.isSome then 1 else 0),
      openSync := some ⟨m.seq, s.stamp m.sub + (s.tb.set.phyRx * nsFine / 10 : Nat), m.correction * 2 ^ 24, s.now⟩ })) ∧
  (∀ s m o, s.ptpHears m.rx = true → s.ptpRefuses m.rx m.domain = false → s.tb.ptp.selected = some (m.clockId, m.port) →
    s.tb.ptp.openSync = some o → o.seq = m.seq →
    ∃ t, exec (.ptpFollowUpRx m) s = .next t ∧ t.tb.ptp.openSync = none ∧
      t.tb.ptp.lastRx = some (o.rx, (m.origin + m.correction) * 2 ^ 24 + o.corr) ∧ t.tb.fine = s.tb.fine ∧
      (s.tb.ptp.delay ≠ none → t.tb.ptp.syncs = s.tb.ptp.syncs + 1 ∧ t.tb.ptp.cntSync = satInc 65535 s.tb.ptp.cntSync ∧
        (t.tb.ptp.valid = true ↔ s.tb.ptp.valid = true ∨ 1 ≤ s.tb.ptp.syncs))) ∧
  (∀ s a, s.tb.running = true → s.tb.ptp.lastSync = some a →
    if a + s.tb.set.ptpMs * msTicks ≤ s.now then
      ∃ t, exec .ptpSyncLoss s = .next t ∧ t.tb.ptp.valid = false ∧ t.tb.ptp.syncs = 0 ∧ t.tb.fine = s.tb.fine ∧
        (s.tb.refUse = .ptp → s.tb.set.primary = .ptp → s.tb.set.backup = .none → s.tb.st = .locked →
          t.tb.st = .holdover ∧ t.tb.refUse = .none) ∧
        (s.tb.refUse = .ptp → s.tb.set.primary = .ptp → s.tb.set.backup = .ppsi → s.tb.st = .locked → s.ppsiOverdue = true →
          .ppsiLoss ∈ s.pending → t.tb.st = .holdover ∧ t.tb.refUse = .none ∧ t.tb.ppsi.valid = false)
    else exec .ptpSyncLoss s = .next s)) ∧
  ((∀ s (sub : Fin 100), s.ptpUp = true → s.tb.set.delay = 0 → s.tb.ptp.selected ≠ none →
    if s.since s.tb.ptp.reqAt (logTicks s.tb.ptp.logDelay) = false then exec (.ptpDelayReqTx sub) s = .next s
    else
    ∃ t, exec (.ptpDelayReqTx sub) s = .next t ∧ t.tb.ptp.reqAt = some s.now ∧
      t.tb.ptp.openDelay = some ⟨s.tb.ptp.reqSeq, s.stamp sub.val + (s.tb.set.phyTx * nsFine / 10 : Nat)⟩ ∧
      t.tb.ptp.reqSeq = (s.tb.ptp.reqSeq + 1) % 65536 ∧
      (∃ f : EthFrame, f.body.length = 44 ∧ f.src = fit 6 s.otp.mac ∧ t.out = s.out ++ [.ethernet f] ∧
        (s.tb.set.transport = 1 → f.etype = 0x88F7 ∧ f.dst = some [0x01, 0x1B, 0x19, 0x00, 0x00, 0x00])) ∧
      { t with out := s.out, tb := s.tb } = s) ∧
  (∀ s m q rx origin, s.ptpHears m.rx = true → s.ptpRefuses m.rx m.domain = false → m.toUs = true → s.tb.set.delay = 0 →
    s.tb.ptp.selected = some (m.clockId, m.port) → s.tb.ptp.openDelay = some q → q.seq = m.seq →
    s.tb.ptp.lastRx = some (rx, origin) →
    exec (.ptpDelayRespRx m) s = .next (s.updPtp fun p => { p with
      openDelay := none, cntDelay := satInc 65535 p.cntDelay, logDelay := m.logInterval,
      delay := some (((rx - origin) + ((m.receive - m.correction) * 2 ^ 24 - q.tx)) / 2) })) ∧
  (∀ s (sub : Fin 100), s.ptpUp = true → s.tb.set.delay = 1 →
    if s.since s.tb.ptp.preqAt secTicks = false then exec (.ptpPdelayReqTx sub) s = .next s
    else
    ∃ t, exec (.ptpPdelayReqTx sub) s = .next t ∧ t.tb.ptp.preqAt = some s.now ∧
      t.tb.ptp.openPdelay = some ⟨s.tb.ptp.pdelaySeq, s.stamp sub.val + (s.tb.set.phyTx * nsFine / 10 : Nat)⟩ ∧
      t.tb.ptp.pdelaySeq = (s.tb.ptp.pdelaySeq + 1) % 65536 ∧
      (∃ f : EthFrame, f.body.length = 54 ∧ f.src = fit 6 s.otp.mac ∧ t.out = s.out ++ [.ethernet f] ∧
        (s.tb.set.transport = 1 → f.etype = 0x88F7 ∧ f.dst = some [0x01, 0x80, 0xC2, 0x00, 0x00, 0x0E])) ∧
      { t with out := s.out, tb := s.tb } = s) ∧
  (∀ s m, s.ptpHears m.rx = true → s.ptpRefuses m.rx m.domain = false → s.tb.set.delay = 1 →
    ∃ a b : EthFrame, a.body.length = 54 ∧ b.body.length = 54 ∧ exec (.ptpPdelayReqRx m) s = .next { s with out := s.out ++ [.ethernet a, .ethernet b] }) ∧
  (∀ s m q, s.ptpHears m.rx = true → s.ptpRefuses m.rx m.domain = false → m.toUs = true → s.tb.set.delay = 1 → s.tb.ptp.openPdelay = some q → q.seq = m.seq →
    let t4 : Int := s.stamp m.sub + ((s.tb.set.phyRx * nsFine / 10 : Nat) : Int)
    (m.followUp = false → m.twoStep = true →
      exec (.ptpPdelayRespRx m) s = .next (s.updPtp fun p => { p with
        pdelayRx := some (m.seq, (m.time - m.correction) * 2 ^ 24, t4) })) ∧
    (m.followUp = false → m.twoStep = false →
      exec (.ptpPdelayRespRx m) s = .next (s.updPtp fun p => { p with
        openPdelay := none, pdelayRx := none, cntDelay := satInc 65535 p.cntDelay,
        delay := some ((t4 - q.tx - m.correction * 2 ^ 24) / 2) })) ∧
    (∀ t2 t4, m.followUp = true → s.tb.ptp.pdelayRx = some (m.seq, t2, t4) →
      exec (.ptpPdelayRespRx m) s = .next (s.updPtp fun p => { p with
        openPdelay := none, pdelayRx := none, cntDelay := satInc 65535 p.cntDelay,
        delay := some ((t4 - q.tx - ((m.time + m.correction) * 2 ^ 24 - t2)) / 2) }))))

/-- R285: CONFIG_STORE_WRITE_DONE that succeeds puts the oldest waiting item in the store and answers its command, E_TIMEOUT where
100 ms have passed, one that fails leaves it to be tried again 1 s later, and an enrolment's write waits for ENROL_COMPLETE;
SAVE_REPLY_TIMEOUT gives way to a read-back of its tick; it answers E_TIMEOUT a command that has waited 100 ms, its write staying in
the queue. -/
def Obligations.ConfigStoreWrites : Prop :=
  (∀ s w rest ok, s.store.queue = w :: rest → w.item = .enrolment → exec (.configStoreWriteDone ok) s = .next s) ∧
  (∀ s, s.readBackComes = true → exec .saveReplyTimeout s = .next (s.putOff .saveReplyTimeout)) ∧
  (∀ s w rest, s.store.queue = w :: rest → w.item ≠ .enrolment → s.underTest 9 = false → w.retryAt.getD 0 ≤ s.now →
    (w.ticket = none → exec (.configStoreWriteDone true) s = .next { s with store := { s.store.put w.item with queue := rest } }) ∧
    (∀ tk ses, w.ticket = some tk → tk.opcode ≠ 0x02 → tk.serial = some ses.serial → (s.owner tk.hdr.port).session = some ses →
      (∃ e ∈ ses.cache, e.seq = tk.hdr.seq.toNat) →
      ∃ t, exec (.configStoreWriteDone true) s = .next t ∧
        Replied s t tk.hdr tk.opcode (if w.since + 100 * msTicks < s.now then eTimeout else stOk) [] ∧
        t.quiet = State.quiet { s with store := { s.store.put w.item with queue := rest } }) ∧
    exec (.configStoreWriteDone false) s =
      .next { s with store := { s.store with queue := { w with retryAt := some (s.now + secTicks) } :: rest } }) ∧
  (∀ s w tk ses, s.readBackComes = false → s.store.queue = [w] → w.ticket = some tk → w.since + 100 * msTicks ≤ s.now → tk.opcode ≠ 0x02 →
    tk.serial = some ses.serial → (s.owner tk.hdr.port).session = some ses → (∃ e ∈ ses.cache, e.seq = tk.hdr.seq.toNat) →
    ∃ t, exec .saveReplyTimeout s = .next t ∧ Replied s t tk.hdr tk.opcode eTimeout [] ∧
      t.quiet = State.quiet { s with store := { s.store with queue := [{ w with ticket := none }] } }) ∧
  (∀ s, s.readBackComes = false → (∀ w ∈ s.store.queue, w.ticket ≠ none → s.now < w.since + 100 * msTicks) → exec .saveReplyTimeout s = .next s)

/-! ## Timers (chapter 15) -/

/-- R291 to R293, R295: at a valley the preloads become the active set and the period begins anew, and not before the period
is over (the valley of TIM08 gives way to a bus command of its tick where a group turns to BUS, Table 19-9); a peak and a
compare match change no register and bring the balls to the channel levels; an edge that EDGE selects and that was stable for
FILT cycles is captured, with the count and DIR of its own D02 cycle, or count 0 with DIR 1 in the tick of a restart (Table
15-4), OVR set while one was not read; with both edges selected, the level last recognised is no edge. R290: the count runs
from 0 up to TOP and back to 0, one step each 2^PRE cycles of D02: it never passes TOP, moves by one at a time, and is at 0
only at the valley and at TOP only at the peak. -/
def Obligations.TimersAct : Prop :=
  ((∀ s (n : Fin 16), let x := s.timers.get n
    if n = 8 ∧ s.switchWaits = true then exec (.timerValley n) s = .next (s.putOff (.timerValley n))
    else if x.run = true ∧ x.nextValley ≤ s.d02 then
      ∃ t, exec (.timerValley n) s = .next t ∧
        t.timers.get n = { x with valleyAt := x.nextValley, active := x.preload, ball := (t.timers.get n).ball } ∧
        (∀ a, (t.timers.get n).ball.get a = Timer.ballLevel { x with valleyAt := x.nextValley, active := x.preload } s.d02 (x.gtFunc.get a)) ∧
        (∀ m, m ≠ n → t.timers.get m = s.timers.get m) ∧ t.mem = s.mem ∧ t.leases = s.leases ∧
        (8 ≤ n.val → t.axes = s.axes)
    else exec (.timerValley n) s = .next s) ∧
  (∀ s (n : Fin 16), let x := s.timers.get n
    ∃ b, exec (.timerPeak n) s = .next (s.updTimer n fun x => { x with ball := b }) ∧
      ∀ a, b.get a = if x.run then x.ballLevel s.d02 (x.gtFunc.get a) else none) ∧
  (∀ s (n : Fin 16) k, let x := s.timers.get n
    ∃ t b, exec (.timerCompareMatch n k) s = .next t ∧ t.timers = bankSet s.timers n { x with ball := b } ∧
      (∀ a, b.get a = if x.run then x.ballLevel s.d02 (x.gtFunc.get a) else none) ∧ t.mem = s.mem ∧ t.leases = s.leases ∧
      (8 ≤ n.val ∨ k ≠ 0 → t.axes = s.axes) ∧
      (∀ h : n.val < 8, k = 0 → ∀ i, ((t.axis ⟨n.val, h⟩).gates.level.get i = true →
        gateWant (s.axis ⟨n.val, h⟩).gates.pattern (x.active? s.d02 0) i = true))) ∧
  (∀ s (e : CapEdge), let x := s.timers.get e.timer
    let c := if x.rstAt = some s.now then (0, true) else x.count (s.d02 + e.cycle.val)
    exec (.timerCapture e) s = .next
      (if x.run = true ∧ (if e.timer.val < 10 then e.timer ≠ 8 else x.gtFunc.get 0 = 5 ∨ x.gtFunc.get 1 = 5) ∧
          x.capFilt ≤ e.stable ∧ (x.capEdge = 3 ∨ x.capEdge = if e.rising then 1 else 2) ∧
          ¬ (x.capEdge = 3 ∧ x.capLevel = some e.rising) then
        s.updTimer e.timer fun x => { x with
          capOvr := x.capOvr || x.capValid, capValid := true, captures := satInc 65535 x.captures,
          capCount := c.1, capDir := c.2, capAt := some s.now, capLevel := some e.rising }
      else s))) ∧
  (∀ (t : Timer) d, t.valleyAt ≤ d →
    (t.count d).1 ≤ t.top ∧
    (let k := (d - t.valleyAt) / 2 ^ t.active.pre
     k < t.top → t.count d = (k, true)) ∧
    (let k := (d - t.valleyAt) / 2 ^ t.active.pre
     t.top ≤ k → k < 2 * t.top → t.count d = (2 * t.top - k, false)) ∧
    t.count (d + 2 * t.top * 2 ^ t.active.pre) = t.count d)

/-! ## Motor axes and observers (chapters 16 and 17) -/

/-- R303, R311: whatever pattern an axis takes, no leg has both outputs high, an output is high only where the pattern wants it, and
one that turns on does so with its partner low for the dead time, the low sides of an active short the dead time after it was
taken. R307, R309, R310, R317: after 1 ms of zeroing, the offsets the means of the 256 samples of each current channel to the
nearest code, an axis whose motor is still aligns, and otherwise comes to rest STOPPED_SAFE; after ALIGN_MS it runs on injection
from angle 0; a motor still for 20 ms ends STOPPING in STOPPED_SAFE, and LOST there or, where REALIGN says so, in ALIGN, but not in
the tick of a safe stop (Table 16-12); a ramp that outlasts RAMP_MS freewheels. -/
def Obligations.GatesAndAxisStatesAct : Prop :=
  (∀ (s : State) n pat i,
    let g := (s.axis n).gates
    let u := ((s.drivePattern n pat).axis n).gates
    ¬ (u.level.get i = true ∧ u.level.get (gatePartner i) = true) ∧
    (u.level.get i = true → gateWant pat ((s.timers.get (axTimer n)).active? s.d02 0) i = true) ∧
    (pat = .off → u.level.get i = false) ∧
    (u.level.get i = true → g.level.get i = false →
      (g.level.get (gatePartner i) = false ∧ g.lowAt.get (gatePartner i) + (s.axis n).deadTime ≤ s.now) ∨
      (g.level.get (gatePartner i) = true ∧ (s.axis n).deadTime = 0)) ∧
    (pat = .short → u.level.get i = true → g.level.get i = false →
      (g.pattern = .short ∧ g.since + (s.axis n).deadTime ≤ s.now) ∨ (g.pattern ≠ .short ∧ (s.axis n).deadTime = 0)) ∧
    ((s.drivePattern n pat).axis n).cfg = (s.axis n).cfg) ∧
  ((∀ s n samples from_, (s.axis n).zeroFrom = some from_ →
    if from_ + msTicks ≤ s.now then
      ∃ t, exec (.axisZeroDone n samples) s = .next t ∧ OnlyAxis s t n ∧ (t.axis n).zeroFrom = none ∧
        (∀ p, (t.axis n).zero.get p = rne ((samples.get p).toList.map BitVec.toInt).sum 256) ∧
        if (s.axis n).still s.now = true then (t.axis n).st = .align ∧ (t.axis n).alignFrom = s.now ∧ (t.axis n).cause = 1
        else (t.axis n).st = .stoppedSafe ∧ (t.axis n).cause = 16
    else exec (.axisZeroDone n samples) s = .next s) ∧
  (∀ s n, (s.axis n).st = .align →
    if (s.axis n).alignFrom + (s.axis n).c.alignMs * msTicks ≤ s.now then
      ∃ t, exec (.alignDone n) s = .next t ∧ OnlyAxis s t n ∧ (t.axis n).st = .runHfi ∧ (t.axis n).theta = 0 ∧
        (t.axis n).cause = 2
    else exec (.alignDone n) s = .next s) ∧
  (∀ s n, (s.axis n).st = .stopping →
    if (s.axis n).still s.now = true then
      ∃ t, exec (.motorStill n) s = .next t ∧ OnlyAxis s t n ∧ (t.axis n).st = .stoppedSafe ∧ (t.axis n).cause = 7 ∧
        (t.axis n).stop = none ∧ (t.axis n).sector = none ∧ (t.axis n).hold = (s.axis n).hold
    else exec (.motorStill n) s = .next s) ∧
  (∀ s n, (s.axis n).st = .lost → (s.axis n).still s.now = true →
    if (s.axis n).realign = false then
      ∃ t, exec (.motorStill n) s = .next t ∧ OnlyAxis s t n ∧ (t.axis n).st = .stoppedSafe ∧ (t.axis n).cause = 7
    else if s.safeStopComes = true then exec (.motorStill n) s = .next (s.putOff (.motorStill n))
    else ∃ t, exec (.motorStill n) s = .next t ∧ OnlyAxis s t n ∧ (t.axis n).st = .align ∧ (t.axis n).cause = 7 ∧
        (t.axis n).alignFrom = s.now) ∧
  (∀ s n r, (s.axis n).st = .stopping → (s.axis n).stop = some r → r.cat = .ramp →
    if r.at_ + (s.axis n).c.rampMs * msTicks ≤ s.now then
      ∃ t, exec (.rampTimeout n) s = .next t ∧ OnlyAxis s t n ∧ (t.axis n).st = .stopping ∧ (t.axis n).cause = 17 ∧
        (t.axis n).stop = some ⟨.freewheel, r.kind, s.now⟩ ∧ (∀ i, (t.axis n).gates.level.get i = false)
    else exec (.rampTimeout n) s = .next s))

/-- R318: AXIS_CONFIG within Table 16-7 of an axis DISABLED or STOPPED_SAFE sets its parameters and prepares its timer; in another
state it returns E_STATE, out of range E_PARAM. R307, R310, R314, R318: AXIS_ENABLE with EN 1 of a configured axis that is
DISABLED or STOPPED_SAFE and not held begins its zeroing with the gates off; a held axis returns E_SAFE_HELD and is left as it
was. EN 0 takes STOPPED_SAFE, and FAULT once its cause is gone, to DISABLED, and leaves a DISABLED axis as it is. Table 16-12: an
attempt that ends on the axis's core in the same tick comes first. -/
def Obligations.AxisConfigAndEnableAct : Prop :=
  (∀ s h ses p, Accepted s h (.axisConfig p) ses →
    let n := axisOf h
    if (axCfgOf p).ok = false then Completes (.axisConfig h p) s h 0x40 eParam [] s
    else if (s.axis n).st = .disabled ∨ (s.axis n).st = .stoppedSafe then
      Completes (.axisConfig h p) s h 0x40 stOk []
        ((s.updAxis n fun a => { a with cfg := some (axCfgOf p), clamped := false }).updTimer (axTimer n) fun t =>
          { t with mode := bankSet t.mode 0 1, pol := bankSet t.pol 0 false }.writePreload s.d02 fun x =>
            { x with pre := 0, top := pwmTop p.pwmHz.toNat })
    else Completes (.axisConfig h p) s h 0x40 eState [] s) ∧
  (∀ s h (en : Byte) re, s.coreEnds (coreOf (axisOf h)) = true →
    exec (.axisEnable h en re) s = .next (s.putOff (.axisEnable h en re))) ∧
  (∀ s h ses (en : Byte) re, Accepted s h (.axisEnable en re) ses → (s.test.axis.get (axisOf h)).running = false →
    s.coreEnds (coreOf (axisOf h)) = false →
    let n := axisOf h
    let a := s.axis n
    (en = 1 → a.hold = true → Completes (.axisEnable h en re) s h 0x41 eSafeHeld [] s) ∧
    (en = 1 → a.hold = false → a.st = .disabled ∨ a.st = .stoppedSafe → a.cfg ≠ none →
      (a.netted = true → s.pinStatus n = stOk) →
      ∃ t, exec (.axisEnable h en re) s = .next t ∧ Replied s t h 0x41 stOk [] ∧ OnlyAxis s t n ∧
        (t.axis n).zeroFrom = some s.now ∧ (t.axis n).st = a.st ∧ (t.axis n).realign = re ∧ (t.axis n).gates.pattern = .off ∧
        (∀ i, (t.axis n).gates.level.get i = false) ∧ (t.axis n).clamped = false ∧ (t.axis n).commSince = 0 ∧
        (t.axis n).cfg = a.cfg ∧ (t.axis n).hold = false ∧
        (∀ k x, (t.axis n).nets.get k = some x → x.fresh = true ∧ x.missRun = 0)) ∧
    (en = 0 → a.st = .disabled → Completes (.axisEnable h en re) s h 0x41 stOk [] s) ∧
    (en = 0 → a.st = .stoppedSafe ∨ (a.st = .fault ∧ a.faultGone s.now = true) →
      ∃ t, exec (.axisEnable h en re) s = .next t ∧ Replied s t h 0x41 stOk [] ∧ OnlyAxis s t n ∧
        (t.axis n).st = .disabled ∧ (t.axis n).cause = 1 ∧ (t.axis n).cfg = a.cfg ∧ (t.axis n).hold = a.hold) ∧
    (en = 0 → a.st.enabled = true ∨ (a.st = .fault ∧ a.faultGone s.now = false) →
      Completes (.axisEnable h en re) s h 0x41 eState [] s))

/-- R311, R312, R318, R319: AXIS_COMMAND out of range returns E_PARAM; in range, of a held axis it returns E_SAFE_HELD, of a
running axis it waits for the next valley, and of another E_STATE; AXIS_STOP of a running axis begins its category and takes
it to STOPPING, of an axis at rest it has nothing to do, and of one in FAULT it returns E_STATE, and in STOPPING it replaces a
ramp stop and no other; AXIS_STATUS returns the 128 bytes of Table 16-9 as of the last valley sample before its tick and
changes nothing. -/
def Obligations.AxisCommandsAct : Prop :=
  (∀ s h ses p, Accepted s h (.axisCommand p) ses →
    let n := axisOf h
    let a := s.axis n
    let fits := p.mode.toNat ≤ 1 ∧ 1 ≤ p.iLimit.toNat ∧ 1 ≤ p.spdLimit.toNat ∧
      ∀ c, a.cfg = some c → p.setpoint.toInt.natAbs ≤ (if p.mode = 0 then c.iMax else c.spdMax) ∧ p.iLimit.toNat ≤ c.iMax ∧
        p.spdLimit.toNat ≤ c.spdMax
    (¬ fits → Completes (.axisCommand h p) s h 0x42 eParam [] s) ∧
    (fits →
      if a.hold = true then Completes (.axisCommand h p) s h 0x42 eSafeHeld [] s
      else if a.st = .align ∨ a.st = .runHfi ∨ a.st = .couch ∨ a.st = .runObs then
        Completes (.axisCommand h p) s h 0x42 stOk []
          (s.updAxis n fun a => { a with
            cmdNext := some ⟨p.mode.toNat, p.setpoint.toInt, p.iLimit.toNat, p.spdLimit.toNat⟩ })
      else Completes (.axisCommand h p) s h 0x42 eState [] s)) ∧
  (∀ s h ses (cat : Byte), Accepted s h (.axisStop cat) ses → cat.toNat ≤ 2 →
    let n := axisOf h
    let a := s.axis n
    match a.st with
    | .fault => Completes (.axisStop h cat) s h 0x43 eState [] s
    | .disabled | .stoppedSafe => Completes (.axisStop h cat) s h 0x43 stOk [] s
    | .stopping => ∀ old, a.stop = some old →
      if old.cat = .ramp then ∃ t, exec (.axisStop h cat) s = .next t ∧ Replied s t h 0x43 stOk [] ∧ OnlyAxis s t n ∧
        (t.axis n).st = .stopping ∧ (t.axis n).stop = some ⟨stopCat cat.toNat, .command, s.now⟩
      else Completes (.axisStop h cat) s h 0x43 eState [] s
    | _ =>
      ∃ t, exec (.axisStop h cat) s = .next t ∧ Replied s t h 0x43 stOk [] ∧ OnlyAxis s t n ∧ (t.axis n).st = .stopping ∧
        (t.axis n).cause = 8 ∧ (t.axis n).stop = some ⟨stopCat cat.toNat, .command, s.now⟩ ∧
        (cat = 0 → (t.axis n).cmd.setpoint = 0) ∧
        (cat = 1 → ∀ i, (t.axis n).gates.level.get i = false) ∧ (cat = 2 → (t.axis n).gates.pattern = .short)) ∧
  (∀ s h ses, Accepted s h .axisStatus ses →
    let a := s.axis (axisOf h)
    let x := if a.statusAt = s.now then a.statusPrev else a.status
    x.bytes.length = 128 ∧ Completes (.axisStatus h) s h 0x45 stOk x.bytes s)

/-- R328 to R330: OBSERVER_LOAD within Table 17-3, of an axis whose core is or need not be PINNED, whose weights read sound reads
them into the network of that kind that comes into use at the next valley sample; past 1,024 MiB of SELF it returns E_NO_MEMORY. A
POSITION load of an axis in COUCH (but in the tick it entered it, Table 17-6), RUN_OBS, STOPPING or LOST is left and E_STATE
returned. UNLOAD 1 removes the network in any state, and without a POSITION network an axis in COUCH or RUN_OBS goes on in RUN_HFI
(notes/assumptions/27). R331 to R338, R343: the outputs of the evaluation the core has in hand that leave the calender in time are
those of the network; POSITION may take the axis from COUCH to RUN_OBS or RUN_HFI and from RUN_OBS to RUN_HFI or LOST, and LOAD and
TEMPERATURE change no state, but that a hand-over commits once no other network of its sample can reach MISS_N. An evaluation not
done in 1,600 ns is missed and counted, and at MISS_N in a row the axis takes an observer fault, which in STOPPING and LOST is
counted only. A weight restore makes the core's copy sound again. -/
def Obligations.ObserversAct : Prop :=
  (∀ s h ses p, Accepted s h (.observerLoad p) ses →
    let n := axisOf h
    let a := s.axis n
    let k : Fin 3 := Fin.ofNat 3 p.kind.toNat
    (p.unload = 1 → obsUnloadOk p = true →
      ∃ t, exec (.observerLoad h p) s = .next t ∧ Replied s t h 0x44 stOk [] ∧ OnlyAxis s t n ∧
        (t.axis n).nets = bankSet a.nets k none ∧ (t.axis n).netsNew = bankSet a.netsNew k none ∧
        (∀ x ∈ (t.axis n).evals, x.kind ≠ k) ∧
        if p.kind = 0 ∧ (a.st = .couch ∨ a.st = .runObs) then (t.axis n).st = .runHfi ∧ (t.axis n).cause = 5
        else (t.axis n).st = a.st) ∧
    (p.unload = 0 → obsLoadOk p = true → p.length.toNat = (obsNetOf p [] 0).blobLen →
      let r := s.readRange h.port p.region.toNat p.offset.toNat p.length.toNat
      let ready : Prop := a.live = false ∨ s.pinned n = true
      let locked : Prop := p.kind = 0 ∧ a.st.positionLocked = true ∧ ¬ (a.st = .couch ∧ a.enteredAt = s.now)
      (r.1 ≠ stOk → Completes (.observerLoad h p) s h 0x44 r.1 [] r.2.1) ∧
      (r.1 = stOk → 1024 ≤ s.mem.selfMib → Completes (.observerLoad h p) s h 0x44 eNoMemory [] s) ∧
      (r.1 = stOk → s.mem.selfMib < 1024 → ready → locked → Completes (.observerLoad h p) s h 0x44 eState [] s) ∧
      (r.1 = stOk → s.mem.selfMib < 1024 → ready → ¬ locked →
        ∃ t, exec (.observerLoad h p) s = .next t ∧ Replied s t h 0x44 stOk [] ∧ OnlyAxis s t n ∧ (t.axis n).st = a.st ∧
          (t.axis n).nets = a.nets ∧ (t.axis n).netsNew = bankSet a.netsNew k (some (obsNetOf p r.2.2 h.port)) ∧
          (t.axis n).evals = a.evals))) ∧
  ((∀ s n e net, s.evalFirst (coreOf n) = some (n, e) → (s.axis n).nets.get e.kind = some net →
    s.now ≤ e.valleyAt + 160 → s.fabric.dbgHalt.get (coreOf n) = false →
    let left := s.updAxis n fun a => { a with evals := a.evals.filter fun x => x.kind != e.kind }
    ∃ t, exec (.calenderOutput n e.kind) s = .next t ∧ OnlyAxis s t n ∧
      (∃ y, (t.axis n).nets.get e.kind = some y ∧ y.out = (net.calendered e.outs e.fresh).out ∧ y.blob = net.blob) ∧
      (∀ x ∈ (t.axis n).evals, x.kind ≠ e.kind) ∧
      ((s.axis n).handover = none →
        if e.kind = 0 then
          match (s.axis n).st with
          | .couch => (t.axis n).st = .couch ∨ (t.axis n).st = .runObs ∨ (t.axis n).st = .runHfi
          | .runObs => (t.axis n).st = .runObs ∨ (t.axis n).st = .runHfi ∨ (t.axis n).st = .lost
          | st => (t.axis n).st = st
        else (t.axis n).st = (s.axis n).st) ∧
      ((s.axis n).handover ≠ none → e.kind ≠ 0 →
        if left.faultMayCome n = true then (t.axis n).st = (s.axis n).st
        else (t.axis n).st = .runObs ∧ (t.axis n).cause = 4)) ∧
  (∀ s n k, s.fabric.dbgHalt.get (coreOf n) = true → exec (.calenderOutput n k) s = .next s) ∧
  (∀ s n k e net, (s.axis n).evals.find? (fun x => x.kind == k) = some e → (s.axis n).nets.get k = some net →
    (s.axis n).handover = none → e.valleyAt + 160 ≤ s.now → k ≠ 0 → 720 ≤ s.vcoreMv → net.missRun + 1 < (s.axis n).missN →
    ∃ x : AxStatus, x.sample = (s.axis n).status.sample ∧
      exec (.observerDeadlineMiss n k) s = .next (s.updAxis n fun a => { a with
        nets := bankSet a.nets k (some { net with missRun := net.missRun + 1 }),
        evals := a.evals.filter fun x => x.kind != k, cntMiss := satInc 65535 a.cntMiss, status := x })) ∧
  (∀ s n k e net, (s.axis n).evals.find? (fun x => x.kind == k) = some e → (s.axis n).nets.get k = some net →
    e.valleyAt + 160 ≤ s.now → 720 ≤ s.vcoreMv → (s.axis n).missN ≤ net.missRun + 1 →
    ∃ t, exec (.observerDeadlineMiss n k) s = .next t ∧ OnlyAxis s t n ∧
      (t.axis n).cntObsFault = satInc 65535 (s.axis n).cntObsFault ∧ (t.axis n).cntMiss = satInc 65535 (s.axis n).cntMiss ∧
      ((s.axis n).st = .align ∨ (s.axis n).st = .runHfi ∨ (s.axis n).st = .couch ∨ (s.axis n).st = .runObs →
        (t.axis n).st = .fault ∧ (t.axis n).cause = 15) ∧
      ((s.axis n).st = .stopping ∨ (s.axis n).st = .lost → (s.axis n).handover = none → (t.axis n).st = (s.axis n).st)) ∧
  (∀ s n k net, (s.axis n).loaded k = some net → net.coreOk = false → s.underTest 2 = false → s.underTest 3 = false →
    exec (.weightRestoreDone n k) s = .next (s.updAxis n fun a =>
      { a.updNet k fun y => { y with coreOk := true } with cntRestore := satInc 65535 a.cntRestore })))

/-- R304, R306, R308, R323, R338: a fault pin takes its axis to FAULT with the gates off, and its release alone changes
nothing else; a valley sample is converted and shown, and one beyond AX_ITRIP is counted and takes the axis to FAULT, but not
while the gates short the motor; the networks loaded since the last one come into use (R330); on injection the sample's angle
and speed are those in use, and at SPD_COUCH_LO the axis enters the couch window unless it is clamped. -/
def Obligations.AxisSampleRowsAct : Prop :=
  (∀ s n, s.boot.step ≠ .held → (s.axis n).st ≠ .fault →
    ∃ t, exec (.axisFlt n) s = .next t ∧ OnlyAxis s t n ∧ (t.axis n).st = .fault ∧ (t.axis n).cause = 12 ∧ (t.axis n).flt = true ∧
      (t.axis n).cntFault = satInc 65535 (s.axis n).cntFault ∧ (∀ i, (t.axis n).gates.level.get i = false) ∧
      (t.axis n).stop = none ∧ (t.axis n).zeroFrom = none) ∧
  (∀ s n, exec (.axisFltRelease n) s = .next (s.updAxis n fun a => { a with flt := false })) ∧
  (∀ s n v, (s.timers.get (axTimer n)).run = true → (s.axis n).evals = [] →
    let a := s.axis n
    let x := a.convert v s.devTime
    (x.over a.itrip = true → a.shorting = false → a.st ≠ .fault →
      ∃ t, exec (.axisValleySample n v) s = .next t ∧ OnlyAxis s t n ∧ (t.axis n).st = .fault ∧ (t.axis n).cause = 13 ∧
        (t.axis n).sample = x ∧ (t.axis n).cntOver = satInc 65535 a.cntOver ∧ (∀ i, (t.axis n).gates.level.get i = false)) ∧
    (x.over a.itrip = true → a.shorting = true → a.st.enabled = false → a.st ≠ .fault →
      ∃ t, exec (.axisValleySample n v) s = .next t ∧ OnlyAxis s t n ∧ (t.axis n).st = a.st ∧ (t.axis n).sample = x ∧
        (t.axis n).cntOver = satInc 65535 a.cntOver) ∧
    (x.over a.itrip = false → a.st.enabled = false →
      ∃ t, exec (.axisValleySample n v) s = .next t ∧ OnlyAxis s t n ∧ (t.axis n).st = a.st ∧ (t.axis n).sample = x ∧
        (t.axis n).gates = a.gates ∧ (∀ k, (t.axis n).nets.get k = a.loaded k ∧ (t.axis n).netsNew.get k = none)) ∧
    (x.over a.itrip = false → a.st = .runHfi → a.obsSrc = false → a.vdcMin = 0 → a.vdcMax = 0xFFFF → a.vdcLowFrom = none →
      (∀ k net, a.loaded k = some net → net.coreOk = true) →
      ∃ t, exec (.axisValleySample n v) s = .next t ∧ OnlyAxis s t n ∧ (t.axis n).sample = x ∧
        (t.axis n).theta = v.thetaHfi.toNat % 36000 ∧ (t.axis n).speed = v.speedHfi.toInt ∧
        (t.axis n).st = (if a.c.couchLo ≤ v.speedHfi.toInt.natAbs ∧ a.isClamped = false ∧ 720 ≤ s.vcoreMv then .couch
          else .runHfi)))

/-! ## Rows of one register -/

/-- R9 to R11 and the rows that clear counters: a write of 1 to a block's counter clear zeroes exactly the counters its table
names (R39, R56, R171, R194, R215, R234, R266, R286, R320, R321, R341, R366, R388, R416), a write of 0 changes nothing; both
reply OK. R266, R286, R294, R453: a read of the low word of a time, a count or a capture returns it and latches the rest; a
read of a capture also clears its VALID, and gives way to a capture of its timer in its tick (Table 15-4). A unit that still
counts answers within what it has still to count. R53 to R55, R170, R218, R295, R297, R352, R360, R364 to R366, R451, R452:
the rows of the other single registers. DBG_HALT halts the cores it names, E_STATE where the lifecycle or a moving axis
forbids it, and a core it releases is PINNED where an axis needs it; ENROL_CTRL starts an operation that takes its turn in the
configuration store unless another runs, the port may not, or a field is out of range; CAM_COMMIT makes the shadow model the
active one or says which check failed; TIM_RST restarts the timer, a capture of its tick holding count 0 with DIR 1 (Table
15-4); TIM_GT_FUNC sets a ball unless both would capture; the clears of a latched group, the matrix and the stage lift what
they name; DIM_CFG sets the dimming period unless a stored duty would be too short; AXT_CTRL and SKT_CTRL start their
self-tests on an object at rest, E_STATE otherwise. -/
def Obligations.RegisterBlocksAct : Prop :=
  (∀ s h ses (v : Word),
    let done (i : Instr) (u : State) : Prop := Completes i s h 0x11 stOk [] (if v.getLsbD 0 then u else s)
    (WriteOk s h 0x00010214 v ses → done (.faultCntClr h v) (s.updFabric fun f => { f with cntHsWdt := 0, cntLate := 0 })) ∧
    (WriteOk s h 0x00000244 v ses → done (.tjPeakClr h v) (s.updThermal fun t => { t with peak := none })) ∧
    (WriteOk s h 0x00040050 v ses → done (.eccCntClr h v) (s.updMem fun m => { m with
      cntVatCe := 0, cntVatUe := 0, cntCoreCe := 0, cntCoreUe := 0, cntHbmCe := 0, cntHbmUe := 0, cntInteg := 0 })) ∧
    (WriteOk s h 0x00010494 v ses →
      done (.numCntClr h v) (s.updCores fun c => { c with cntSat := 0, cntNonfin := 0, cntRehash := 0 })) ∧
    (WriteOk s h 0x0005001C v ses →
      done (.jobCntClr h v) (s.updJobs fun j => { j with abandons := 0, cntFailed := 0, cntCancel := 0, tokenOvf := 0 })) ∧
    (WriteOk s h 0x0006F004 v ses → done (.hbCntClr h v) { s with headbox := { s.headbox with radDrop := 0 } }) ∧
    (∀ k : Fin 6, WriteOk s h (0x0007003C + 0x1000 * k.val) v ses →
      done (.snsErrClr h k v) (s.updSensor k fun x => { x with
        complete := 0, corr := 0, uncorr := 0, crc := 0, lineLen := 0, trunc := 0, planeMiss := 0, noBuf := 0, untrig := 0,
        sot := 0, clkLost := 0, tokSat := 0, unknownDt := 0 })) ∧
    (WriteOk s h 0x00080060 v ses → done (.tbCntClr h v) (s.updTb fun t => { t with
      steps := 0, holdovers := 0, ptp := { t.ptp with cntSync := 0, cntDelay := 0, cntMissing := 0, cntDiscard := 0 },
      ppsi := { t.ppsi with cntEdges := 0, cntReject := 0 },
      pulses := t.pulses.map fun p => { p with edges := 0, suppr := 0 } })) ∧
    (∀ n : Fin 8, WriteOk s h (0x000A005C + 0x1000 * n.val) v ses →
      done (.axCntClr h n v) (s.updAxis n fun a => { a with
        cntComm := 0, cntLost := 0, cntFault := 0, cntOver := 0, cntRefused := 0 })) ∧
    (WriteOk s h 0x0010002C v ses →
      done (.safeCntClr h v) { s with safety := { s.safety with falls := 0, safeStops := 0, stopResp := 0 } }) ∧
    (∀ n : Fin 8, WriteOk s h (0x000B002C + 0x1000 * n.val) v ses →
      done (.obsCntClr h n v) (s.updAxis n fun a => { a with
        cntMiss := 0, cntRestore := 0, cntSat := 0, cntObsFault := 0, latMax := 0 })) ∧
    (WriteOk s h 0x000CF608 v ses →
      done (.illCntClr h v) (s.updIllum fun i => { i with cntOpen := 0, cntShort := 0, cntHarness := 0, cntOvp := 0 })) ∧
    (∀ b : Fin 2, WriteOk s h (0x000D080C + 0x8000 * b.val) v ses →
      done (.lbusCntClr h b v) (s.updBus b fun x => { x with frames := 0, frameErr := 0, powerLoss := 0, collided := 0 })) ∧
    (WriteOk s h 0x000E0030 v ses → done (.radCntClr h v) (s.updRadio fun r => { r with
      rxOk := 0, crcErr := 0, evmAborts := 0, micFail := 0, replay := 0, switches := 0, noAck := 0, txDrop := 0,
      slots := r.slots.map fun x => { x with events := 0, discarded := 0 } }))) ∧
  ((∀ s h ses (k : Fin 6), Accepted s h (.regRead (word (0x00070040 + 0x1000 * k.val)) 1) ses →
    Completes (.lastFs0Read h k) s h 0x10 stOk ((time96Bytes (s.sns k).lastFs).take 4)
      (s.updSensor k fun x => { x with latch := x.lastFs })) ∧
  (∀ s h ses, Accepted s h (.regRead (word 0x00080008) 1) ses →
    Completes (.tbNow0Read h) s h 0x10 stOk ((time96Bytes s.devTime).take 4) (s.updTb fun t => { t with latch := s.devTime })) ∧
  (∀ s h ses (n : Fin 16), Accepted s h (.regRead (word (0x00090000 + 0x1000 * n.val)) 1) ses →
    let c := (s.timers.get n).count s.d02
    Completes (.timCntLoRead h n) s h 0x10 stOk (le 4 (c.1 % 2 ^ 32))
      (s.updTimer n fun t => { t with cntLatch := c.1 / 2 ^ 32 + bitAt 16 c.2 })) ∧
  (∀ s h (n : Fin 16), s.readWaits (0x00090088 + 0x1000 * n.val) 1 = true →
    exec (.timCapLoRead h n) s = .next (s.putOff (.timCapLoRead h n))) ∧
  (∀ s h ses (n : Fin 16), Accepted s h (.regRead (word (0x00090088 + 0x1000 * n.val)) 1) ses →
    s.readWaits (0x00090088 + 0x1000 * n.val) 1 = false →
    Completes (.timCapLoRead h n) s h 0x10 stOk (le 4 ((s.timers.get n).capCount % 2 ^ 32))
      (s.updTimer n fun t => { t with capValid := false, capLatch := t.capCount / 2 ^ 32 + bitAt 16 t.capDir })) ∧
  (∀ s h ses (n : Fin 16), Accepted s h (.regRead (word (0x000F0004 + 0x1000 * n.val)) 1) ses →
    ∃ bits errs, (if (s.unit n).st = .counting then bits ≤ (s.unit n).goal else bits = (s.unit n).bits ∧ errs = (s.unit n).errors) ∧
      Completes (.ltBitsLoRead h n) s h 0x10 stOk (le 4 (bits % 2 ^ 32))
        { s.updUnit n fun x => { x with
            latBitsHi := bits / 2 ^ 32, latErrLo := errs % 2 ^ 32, latErrHi := errs / 2 ^ 32 } with free := s.free + 6 })) ∧
  (∀ s h ses (v : Word),
    (WriteOk s h 0x00010300 v ses →
      if (s.otp.lifecycle = .blank ∨ s.otp.lifecycle = .service) ∧
        (∀ c : Fin 32, v.getLsbD c.val = true → s.fabric.dbgHalt.get c = false → (s.core1 c).st = .pinned →
          ∀ n ∈ axesOf c, (s.axis n).st = .stoppedSafe ∨ (s.axis n).st = .disabled) then
        Completes (.dbgHaltWrite h v) s h 0x11 stOk [] (s.updFabric fun f => { f with
          dbgHalt := Vector.ofFn fun c : Fin 32 => v.getLsbD c.val,
          halted := Vector.ofFn fun c : Fin 32 => f.halted.get c && v.getLsbD c.val }).repin
      else Completes (.dbgHaltWrite h v) s h 0x11 eState [] s) ∧
    (∀ op, (op = 1 ∨ op = 2) → WriteOk s h 0x00040148 (enrolValue v op) ses →
      let i : Instr := if op = 1 then .enrol h v else .revoke h v
      let owner := bits 2 0 v.toNat
      let slot := bits 5 4 v.toNat
      if owner ≠ Port.id h.port ∧ h.port ≠ 3 then Completes i s h 0x11 ePort [] s
      else if owner = 0 ∨ 4 < owner then Completes i s h 0x11 eParam [] s
      else if s.keys.busy.isSome = true ∨ s.underTest 9 = true then Completes i s h 0x11 eBusy [] s
      else ∃ t o, exec i s = .next t ∧ Replied s t h 0x11 stOk [] ∧ t.keys.busy = some o ∧ o.owner = owner ∧ o.slot = slot ∧
        o.op = op ∧ t.keys.enrolled = s.keys.enrolled ∧
        t.store.queue = s.store.queue ++ [⟨.enrolment, none, s.now, none⟩] ∧
        ∀ r, op = 1 → s.region h.port s.keys.enrRegion = some r → r.covers s.keys.enrOffset 97 = true →
          s.firstBad r (s.domKey h.port) (linesOf s.keys.enrOffset 97) = none →
          o.early = 0 ∧ o.key = s.rangeBytes r (s.domKey h.port) s.keys.enrOffset 97) ∧
    (∀ k : Fin 6, WriteOk s h (0x000600C0 + 0x1000 * k.val) v ses →
      let r := camCheck (s.headbox.cam.get k).shadow
      if v.getLsbD 0 = false then Completes (.camCommit h k v) s h 0x11 stOk [] s
      else if r = 0 then Completes (.camCommit h k v) s h 0x11 stOk [] (s.updCam k fun x => { x with
        active := x.shadow, valid := true, result := 0, commits := satInc 65535 x.commits })
      else Completes (.camCommit h k v) s h 0x11 eParam [] (s.updCam k fun x => { x with result := r })) ∧
    (timersOk s = true →
      (∀ n : Fin 16, WriteOk s h (0x00090008 + 0x1000 * n.val) v ses →
        if 10 ≤ n.val ∧ v.getLsbD 0 = true then
          ∃ u, Completes (.timRst h n v) s h 0x11 stOk [] u ∧ u = s.gtEdges (s.updTimer n fun t => t.restart s.now s.d02) ∧
            ((u.timers.get n).count s.d02) = (0, true) ∧ (u.timers.get n).active = (s.timers.get n).preload ∧
            (u.timers.get n).capValid = ((s.timers.get n).capValid && decide ((s.timers.get n).capAt = some s.now)) ∧
            ((s.timers.get n).capAt = some s.now → (u.timers.get n).capCount = 0 ∧ (u.timers.get n).capDir = true)
        else Completes (.timRst h n v) s h 0x11 stOk [] s) ∧
      (∀ (n : Fin 16) (a : Fin 2), WriteOk s h (0x00090090 + 0x1000 * n.val + 4 * a.val) v ses →
        let g := bankSet (s.timers.get n).gtFunc a (v.toNat % 8)
        if gtSlot n.val a.val = false then Completes (.timGtFuncWrite h n a v) s h 0x11 stOk [] s
        else if v.toNat % 8 ≤ 5 ∧ ¬ (g.get 0 = 5 ∧ g.get 1 = 5) then
          Completes (.timGtFuncWrite h n a v) s h 0x11 stOk []
            (s.gtEdges (s.updTimer n fun t =>
              { t with gtFunc := g, capLevel := if v.toNat % 8 = 5 then none else t.capLevel }.refresh s.d02))
        else Completes (.timGtFuncWrite h n a v) s h 0x11 eParam [] s)) ∧
    (∀ g : Fin 8, WriteOk s h (0x000C000C + 0x1000 * g.val) v ses →
      ∃ t, exec (.igFaultClear h g v) s = .next t ∧ Replied s t h 0x11 stOk [] ∧
        (t.group g).latched = ((s.group g).latched && !v.getLsbD 0) ∧ (t.group g).sinkFail = ((s.group g).sinkFail && !v.getLsbD 1) ∧
        (∀ k, k ≠ g → t.group k = s.group k) ∧ (∀ n, (s.illum.sinks.get n).group ≠ some g → t.illum.sinks.get n = s.illum.sinks.get n) ∧
        (∀ n, (s.illum.sinks.get n).group = some g → v.getLsbD 1 = true → (t.illum.sinks.get n).fail = 0) ∧
        t.axes = s.axes ∧ t.mem = s.mem ∧ t.leases = s.leases) ∧
    (WriteOk s h 0x000C8004 v ses → Completes (.mxFaultClear h v) s h 0x11 stOk []
      (s.updMatrix fun m => { m with fault := m.fault && !v.getLsbD 1 })) ∧
    (WriteOk s h 0x000CF000 v ses →
      let c := v.toNat % 64
      if 1 ≤ c ∧ s.dimFits c = true then
        Completes (.dimCfgWrite h v) s h 0x11 stOk [] ((s.updIllum fun i =>
            { i with dimC := c, dimUse := if i.valleyTick = s.now ∧ 0 < s.now then c else i.dimUse }).updTimer 8 fun t =>
          t.writePreload s.d02 fun x => { x with pre := 0, top := 32768 * c })
      else Completes (.dimCfgWrite h v) s h 0x11 eParam [] s) ∧
    (WriteOk s h 0x000CF018 v ses →
      ∃ t, exec (.stageCtrlClr h v) s = .next t ∧ Replied s t h 0x11 stOk [] ∧
        t.illum.stage = (if v.getLsbD 0 = true ∧ s.illum.stage.st = .fault then
          { s.illum.stage with st := .idle, ovpAt := [] } else s.illum.stage) ∧
        t.illum.sinks = s.illum.sinks ∧ t.axes = s.axes ∧ t.mem = s.mem ∧ t.leases = s.leases) ∧
    (∀ n : Fin 8, WriteOk s h (0x000F0800 + 0x1000 * n.val) v ses →
      if v.getLsbD 0 = false then Completes (.axtCtrlGo h n v) s h 0x11 stOk [] s
      else if (s.axis n).st = .disabled ∧ (s.axis n).zeroFrom = none then
        Completes (.axtCtrlGo h n v) s h 0x11 stOk [] (s.updTest fun t =>
          { t with axis := bankUpd t.axis n fun x => { x with running := true, startAt := s.now } })
      else Completes (.axtCtrlGo h n v) s h 0x11 eState [] s) ∧
    (∀ g : Fin 8, WriteOk s h (0x000F0900 + 0x1000 * g.val) v ses →
      if v.getLsbD 0 = false then Completes (.sktCtrlGo h g v) s h 0x11 stOk [] s
      else if s.drive g = 0 ∧ s.illum.stage.st ≠ .fault then
        Completes (.sktCtrlGo h g v) s h 0x11 stOk [] ((s.updTest fun t =>
          { t with sink := bankUpd t.sink g fun x => { x with running := true, startAt := s.now, opens := 0, shorts := 0 } }).updStage
          fun x => if x.vstr < s.illum.vminDv * 100 then { x with set := s.illum.vminDv * 100 } else x)
      else Completes (.sktCtrlGo h g v) s h 0x11 eState [] s))

/-! ## Safety (chapters 5 and 16) -/

/-- R87: SFP may send SAFE_STOP and SAFE_STATUS outside a session in every DEV_STATE but BOOT, where nothing is answered;
SAFE_RELEASE outside a session gets E_NO_SESSION in EARLY and FULL. R315: a mask bit of a DISABLED axis has no effect. -/
def Obligations.SafetyOutsideSession : Prop :=
  ∀ (s : State) (h : Hdr), h.port = 2 → h.via = .sfp → headFault h = none → h.cls = 0 → h.idx = 0 → h.enc = false →
    h.key = .zeroKey → (s.owner 2).session = none → s.calm = true → s.underTest 5 = false → s.boot.step ≠ .held →
    let said (t : State) (op st : Nat) (pl : Bytes) : Prop :=
      t.out = s.out ++ [Out.reply 2 .sfp (replyPacket h op st pl none false) .spi]
    (∀ (mask cat : Byte), cat.toNat ≤ 3 →
      ∃ t, exec (.safeStop h mask cat) s = .next t ∧
        if s.boot.dev = .boot then t.out = s.out ∧ t.axes = s.axes
        else said t 0x70 stOk [] ∧ t.safety.safeStops = satInc 65535 s.safety.safeStops ∧ OnlyMotion s t ∧
          ∀ n : Fin 8, if mask.toNat.testBit n.val = true ∧ (s.axis n).st ≠ .disabled then
            (t.axis n).hold = true ∧
              AxisStopped s t n (if cat = 3 then s.cfgStop n else stopCat cat.toNat) .safe 9
          else t.axis n = s.axis n) ∧
    (∃ t, exec (.safeStatus h) s = .next t ∧
      if s.boot.dev = .boot then t.out = s.out
      else said t 0x72 stOk (le 1 s.holdMask ++ le 1 s.stoppedMask ++ le 1 s.safeFlags ++ zeros 1 ++ le 2 s.safety.falls
        ++ le 2 s.safety.safeStops ++ le 2 s.safety.stopResp ++ zeros 6)) ∧
    (∀ mask : Byte, s.boot.dev = .early ∨ s.boot.dev = .full →
      ∃ t, exec (.safeRelease h mask) s = .next t ∧ said t 0x71 eNoSession [] ∧ t.axes = s.axes ∧ t.safety = s.safety)

/-- R312 to R315, Table 5-7: in a session SAFE_STOP stops and holds the axes of its mask that are not DISABLED, E_PARAM for a
category that does not exist; SAFE_RELEASE lifts the holds of its mask and nothing else, but while SFP_STOP_N is low or a thermal or
clock stop is latched it returns E_SAFE_HELD and lifts none; SAFE_STATUS says what stands. The fall of SFP_STOP_N stops and holds
every axis by its configured category and is counted, its rise lifts no hold. -/
def Obligations.SafetyRowsAct : Prop :=
  (∀ s h ses mask cat, Accepted s h (.safeStop mask cat) ses →
    if 3 < cat.toNat then Completes (.safeStop h mask cat) s h 0x70 eParam [] s
    else ∃ t, exec (.safeStop h mask cat) s = .next t ∧ Replied s t h 0x70 stOk [] ∧ OnlyMotion s t ∧
      t.safety.safeStops = satInc 65535 s.safety.safeStops ∧ t.safety.falls = s.safety.falls ∧
      ∀ n : Fin 8, if mask.toNat.testBit n.val = true ∧ (s.axis n).st ≠ .disabled then
        (t.axis n).hold = true ∧ AxisStopped s t n (if cat = 3 then s.cfgStop n else stopCat cat.toNat) .safe 9
      else t.axis n = s.axis n) ∧
  (∀ s h ses mask, Accepted s h (.safeRelease mask) ses →
    if s.net.stopN = false ∨ s.safety.thermal = true ∨ s.safety.clock = true ∨ s.net.sfpLossAt = some s.now then
      Completes (.safeRelease h mask) s h 0x71 eSafeHeld [] s
    else ∃ t, exec (.safeRelease h mask) s = .next t ∧ Replied s t h 0x71 stOk [] ∧ OnlyMotion s t ∧ t.safety.sfpLoss = false ∧
      ∀ n : Fin 8, t.axis n = { s.axis n with hold := (s.axis n).hold && !mask.toNat.testBit n.val }) ∧
  (∀ s h ses, Accepted s h .safeStatus ses →
    Completes (.safeStatus h) s h 0x72 stOk (le 1 s.holdMask ++ le 1 s.stoppedMask ++ le 1 s.safeFlags ++ zeros 1
      ++ le 2 s.safety.falls ++ le 2 s.safety.safeStops ++ le 2 s.safety.stopResp ++ zeros 6) s) ∧
  (∀ s : State, s.net.stopN = true → s.boot.step ≠ .held →
    ∃ t, exec .sfpStopNFall s = .next t ∧ t.net.stopN = false ∧ t.safety.falls = satInc 65535 s.safety.falls ∧
      t.safety.stopCat = s.safety.stopCat ∧ OnlyMotion s t ∧ t.out = s.out ∧
      ∀ n, (t.axis n).hold = true ∧ AxisStopped s t n (s.cfgStop n) .safe 9) ∧
  (∀ s : State, s.net.stopN = false → s.boot.step ≠ .held →
    ∃ t, exec .sfpStopNRise s = .next t ∧ t.net.stopN = true ∧ t.axes = s.axes ∧ t.safety = s.safety ∧ OnlyMotion s t)

/-! ## Start, firmware and reset (chapter 4) -/

/-- R61, R108, Table 4-1: RESET_N low, or PWRGD low, puts everything but OTP, flash, the configuration store and the charge of
the memories at its reset values, with every gate low and every session closed, a slot whose stage it cuts short marked so
(Table 4-10); the release starts the device, records the cause and counts the start, with every axis DISABLED but those whose
fault pin is low, held while SFP_STOP_N is low. VFD coming up drives every gate low. A reset that is due after its stops
begins the next start with its cause. R148, R173: RESET_DEVICE replies OK and is due DELAY ms later, or E_PARAM above 1,000;
when it is due every axis is stopped and held by its configured category, a ramp as freewheel, and the reset follows 100 µs
later. The watchdog over Mboit stops every axis so at once and resets with cause 4 in the next tick. -/
def Obligations.ResetsAct : Prop :=
  ((∀ s : State, ∃ t, exec .resetNAssert s = .next t ∧ t = { s.deviceReset t.boot.nextCause with boot := t.boot } ∧ t.boot.step = .held ∧
    t.boot.resetN = false ∧ t.boot.dev = .boot ∧ t.boot.nextCause = (if s.boot.step = .held then s.boot.nextCause else 1) ∧
    t.otp = s.otp ∧ t.flash = s.cutShort ∧ t.boot.xspiResetN = false ∧ t.boot.otpRead = false ∧ t.mem.regions = [] ∧
    (∀ p, (t.owner p).session = none) ∧
    (∀ n, (t.axis n).st = .disabled ∧ (t.axis n).hold = false ∧ ∀ i, (t.axis n).gates.level.get i = false)) ∧
  (∀ s : State, s.boot.pwrgd = true → ∃ t, exec .powerLoss s = .next t ∧ t.boot.pwrgd = false ∧ t.boot.step = .held ∧
    t.boot.nextCause = 3 ∧ t.otp = s.otp ∧ t.flash = s.cutShort ∧ t.store = { s.store with queue := [] } ∧
    ∀ n i, (t.axis n).gates.level.get i = false) ∧
  (∀ s : State, s.boot.pwrgd = false → exec .powerLoss s = .next s) ∧
  (∀ s : State, if s.boot.step = .held then
      ∃ t, exec .resetNRelease s = .next t ∧ t.boot.step = .pllWait ∧ t.boot.cause = s.boot.nextCause ∧ t.boot.releasedAt = s.now ∧
        t.otp.bootCount = satInc 0xFFFFFFFF s.otp.bootCount ∧ t.flash.tokenArmed = none ∧
        t.boot.xspiResetN = true ∧ t.boot.otpRead = true ∧
        (s.flash.tokenArmed = none → t.otp.lifecycle = s.otp.lifecycle ∧ t.keys = s.keys) ∧
        ∀ n, (t.axis n).hold = ((s.axis n).hold || !s.net.stopN) ∧
          (t.axis n).st = (if (s.axis n).flt = true then .fault else (s.axis n).st)
    else exec .resetNRelease s = .next s) ∧
  (∀ s : State, if s.boot.vfdUp = true then exec .vfdUp s = .next s
    else ∃ t, exec .vfdUp s = .next t ∧ t.boot = { s.boot with vfdUp := true } ∧ t.illum.stage.dis = true ∧
      (∀ n, (t.illum.sinks.get n).on = false) ∧ (∀ n i, (t.axis n).gates.level.get i = false ∧ (t.axis n).st = (s.axis n).st) ∧
      t.mem = s.mem ∧ t.owners = s.owners) ∧
  (∀ (s : State) at_ cause, s.boot.resetDue = some (at_, cause) → s.boot.stopDone = true →
    if at_ ≤ s.now then s.resetTick.boot.step = .pllWait ∧ s.resetTick.boot.cause = cause ∧
      s.resetTick.otp.bootCount = satInc 0xFFFFFFFF s.otp.bootCount ∧ s.resetTick.now = s.now
    else s.resetTick = s)) ∧
  ((∀ s h ses delay, Accepted s h (.resetDevice delay) ses →
    if 1000 < delay.toNat then Completes (.resetDevice h delay) s h 0x7A eParam [] s
    else if s.boot.stopDone = true then Completes (.resetDevice h delay) s h 0x7A stOk [] s
    else Completes (.resetDevice h delay) s h 0x7A stOk []
      (s.updBoot fun b => { b with resetDue := some (s.now + delay.toNat * msTicks, 2) })) ∧
  (∀ (s : State) at_ cause, s.boot.resetDue = some (at_, cause) → s.boot.stopDone = false →
    if at_ ≤ s.now then
      ∃ t, exec .resetDeviceDelayEnd s = .next t ∧
        t.boot = { s.boot with resetDue := some (s.now + 100 * usTicks, cause), stopDone := true } ∧ t.mem = s.mem ∧
        t.leases = s.leases ∧
        ∀ n, (t.axis n).hold = true ∧
          AxisStopped s t n (if s.cfgStop n = .ramp then .freewheel else s.cfgStop n) .hardware 10
    else exec .resetDeviceDelayEnd s = .next s) ∧
  (∀ s : State, if s.boot.mboit = true ∧ s.boot.stopDone = false then
      ∃ t, exec .ccWatchdogExpiry s = .next t ∧ t.boot = { s.boot with resetDue := some (s.now, 4), stopDone := true } ∧
        t.mem = s.mem ∧ t.leases = s.leases ∧
        ∀ n, (t.axis n).hold = true ∧
          AxisStopped s t n (if s.cfgStop n = .ramp then .freewheel else s.cfgStop n) .hardware 10
    else exec .ccWatchdogExpiry s = .next s))

/-- R60, R66 to R68, R72, R73, R80, R85, R161, R162, R197: the start. The PLLs' lock runs device time and the timers, and the
start goes on where TCXO_OK is set within 10 ms of the release, after which it ends; the slot whose images all verify runs,
its start marked, or RECOVERY is entered; the versions are compared and DEV_STATE's target set, after which Mboit runs; a hot
start waits; EARLY is reached with the marks erased and the cores IDLE; trained, EARLY becomes FULL with fresh domain keys and
the SVN minimums raised, failing it HW_FAULT, each stack that fails shown. A row out of its step does nothing. R69 to R71,
R147, R148: FW_STAGE of a next chunk writes it into the idle slot and nothing else of the flash, verifies an image that is
complete, and opens or closes the stage; a lifecycle token is staged from MNT only, and one owner's open stage holds off the
others. FW_COMMIT writes a record naming the slot with the next SEQ, into the cell that is not in force, which the record's
completion puts in force; E_INTEGRITY for an idle slot that does not verify or whose stage a reset cut short. Its reply closes
the stage. A stage of 60 s without a chunk is closed. -/
def Obligations.StartAndFirmwareRowsAct : Prop :=
  ((∀ s : State, if s.boot.step = .pllWait ∧ s.fabric.pllC = false then
      ∃ t, exec .pllLock s = .next t ∧ t.tb.running = true ∧
        t.boot = { s.boot with step :=
          if s.fabric.tcxoOk = true ∧ s.now ≤ s.boot.releasedAt + 10 * msTicks then .readBoot1 else .pllWait } ∧
        t.fabric = { s.fabric with
          pllC := true, pllF := true, d02Run := true, xt32Ok := decide (s.fabric.d00 = .crystal) } ∧ (∀ n, (t.timers.get n).run = true ∧ (t.timers.get n).valleyAt = s.d02) ∧
        t.axes = s.axes ∧ t.mem = s.mem ∧ t.owners = s.owners
    else exec .pllLock s = .next s) ∧
  (∀ s : State, exec .pllLockTimeout s = .next (if s.boot.step = .pllWait ∧ s.boot.releasedAt + 10 * msTicks ≤ s.now then
      (s.updFabric fun f => { f with clkFail := true }).updBoot fun b => { b with step := .stopped } else s)) ∧
  (∀ s : State, if s.boot.step ≠ .readBoot1 then exec .boot1Verified s = .next s
    else ∃ t, exec .boot1Verified s = .next t ∧ t.otp = s.otp ∧ t.flash.cmt = s.flash.cmt ∧ t.boot.recorded = s.flash.recorded ∧
      match s.chooseSlot.1 with
      | some x =>
        t.boot.slot = x ∧ t.boot.step = .readImages ∧ s.failing x = 0 ∧ t.boot.fallback = (x != s.flash.recorded) ∧
          t.flash.marks = bankSet s.flash.marks x (min 256 (s.flash.marks.get x + 1)) ∧
          (∀ k, t.boot.running.get k = s.verified x k) ∧ (∀ i, i ≠ 0 → t.boot.wm.get i = s.boot.wm.get i) ∧
          (∀ i, s.verified x 0 = some i → t.boot.wm.get 0 = digest (s.boot.wm.get 0 ++ fit 48 i.digest))
      | none => t.boot.dev = .recovery ∧ t.boot.step = .done ∧ t.flash = s.flash) ∧
  (∀ s : State, if s.boot.step ≠ .readImages then exec .imagesVerified s = .next s
    else ∃ t, exec .imagesVerified s = .next t ∧ t.boot.mismatch = mismatchMap (fun k => s.boot.running.getD k none) ∧
      t.boot.target = t.targetState ∧ t.boot.mboit = true ∧ t.boot.dev = s.boot.dev ∧ t.boot.running = s.boot.running ∧
      t.boot.step = (if s.bootHot = true then .thermalWait else .waitEarly) ∧
      (∀ (k : Fin 5) i, s.boot.running.get k.succ = some i →
        t.boot.wm.get (Fin.ofNat 8 (k.val + 1)) = digest (s.boot.wm.get (Fin.ofNat 8 (k.val + 1)) ++ fit 48 i.digest)) ∧
      t.keys.sealKey = true ∧ t.keys.table = s.keys.table ∧ t.axes = s.axes ∧ t.mem = s.mem ∧ t.otp = s.otp) ∧
  (∀ s : State, exec .bootThermalWaitEnd s = .next (if s.boot.step = .thermalWait ∧ s.bootHot = false then
      s.updBoot fun b => { b with step := .waitEarly } else s)) ∧
  (∀ s : State, if s.boot.step ≠ .waitEarly then exec .earlyReached s = .next s
    else ∃ t, exec .earlyReached s = .next t ∧ t.boot = { s.boot with
        dev := s.boot.target, step := if s.boot.target = .retired then .done else .training } ∧
      (∀ c, (t.core1 c).st = if s.boot.target = .early ∧ (s.core1 c).st = .off then .idle else (s.core1 c).st) ∧
      t.flash.marks = bankSet s.flash.marks s.boot.slot 0 ∧ t.radio.fc = (s.store.coordFc + 256) % 2 ^ 32 ∧
      (∀ c, s.store.net = some c → t.net.inForce = c ∧ t.net.written = c) ∧
      (t.timers.get 8).preload.top = 32768 * s.illum.dimC ∧ (t.timers.get 9).preload.top = 200000 ∧
      (t.timers.get 9).capEdge = 1 ∧ t.otp = s.otp ∧
      t.axes = s.axes ∧ t.mem = s.mem) ∧
  (∀ s : State, if s.boot.step ≠ .training ∨ s.boot.hbm0Fail = true ∨ s.boot.hbm1Fail = true then exec .hbmTrained s = .next s
    else ∃ t, exec .hbmTrained s = .next t ∧ t.boot.step = .done ∧ t.axes = s.axes ∧ t.flash = s.flash ∧
      t.otp.lifecycle = s.otp.lifecycle ∧
      (if s.keys.startFail = true then t.mem = s.mem
       else t.mem.keysUp = true ∧ t.mem.selfKey = s.mem.nextKey ∧
        t.mem.domKeys = #v[s.mem.nextKey + 1, s.mem.nextKey + 2, 0, s.mem.nextKey + 3] ∧ t.mem.nextKey = s.mem.nextKey + 4 ∧
        (t.keys.table.get (slotDomain 0)) = s.draws ∧ t.draws = s.draws + 4) ∧
      if s.boot.dev = .early then t.boot.dev = .full ∧ t.illum.stage.dis = false ∧
        ∀ k, let old := (s.otp.svnMin.get k).toNat
          (t.otp.svnMin.get k).toNat = max old (((s.boot.running.get k).map (·.svn.toNat)).getD 0)
      else t.boot.dev = s.boot.dev ∧ t.otp = s.otp) ∧
  (∀ (s : State) (x : Fin 3), if s.boot.step = (if x = 2 then .readImages else .training) ∧
        (if x = 0 then s.boot.hbm0Fail = false else x = 1 → s.boot.hbm1Fail = false) then
      ∃ t, exec (.hbmTrainingFail x) s = .next t ∧ t.axes = s.axes ∧ t.mem = s.mem ∧ t.otp = s.otp ∧
        t.boot = { s.boot with
          hbm0Fail := s.boot.hbm0Fail || x == 0, hbm1Fail := s.boot.hbm1Fail || x == 1, feltFail := s.boot.feltFail || x == 2,
          dev := if x ≠ 2 ∧ s.boot.dev = .early then .hwFault else s.boot.dev } ∧
        (x ≠ 2 ∧ s.boot.dev = .early → ∀ c, (t.core1 c).st = .off)
    else exec (.hbmTrainingFail x) s = .next s)) ∧
  ((∀ s h ses p, Accepted s h (.fwStage p) ses →
    let off := p.offset.toNat
    let total := p.total.toNat
    let x := s.idleSlot
    let k : Fin 6 := Fin.ofNat 6 p.image.toNat
    let free : Prop := ∀ g, s.boot.stage = some g → g.port = h.port
    (p.image = 0x10 → h.port ≠ 3 → Completes (.fwStage h p) s h 0x78 ePort [] s) ∧
    (p.image.toNat ≤ 5 → p.data ≠ [] → total ≠ 0 → off + p.data.length ≤ (total + 3) / 4 * 4 →
      s.othersBytes k + total ≤ slotRoom →
      off = 0 ∨ (off = s.boot.written.get k ∧ total = s.boot.totals.get k) →
      (free →
        ∃ t, exec (.fwStage h p) s = .next t ∧
          (t.flash.images.get x).get k = (((s.flash.images.get x).get k).take off ++ p.data).take total ∧
          (∀ y j, ¬ (y = x ∧ j = k) → (t.flash.images.get y).get j = (s.flash.images.get y).get j) ∧
          t.flash.cmt = s.flash.cmt ∧ t.flash.marks = s.flash.marks ∧ t.flash.token = s.flash.token ∧
          t.flash.partial_ = (if t.boot.staged = 63 then bankSet s.flash.partial_ x false else s.flash.partial_) ∧
          (t.flash.torn.get x).get k = !decide (total ≤ off + p.data.length) ∧
          t.boot.stage = (if p.close = true then none else some ⟨h.port, some ses.serial, s.now⟩) ∧
          (∀ j, j < 6 → t.boot.staged.testBit j =
            if j = k.val then decide (total ≤ off + p.data.length) && (t.verified x k).isSome else s.boot.staged.testBit j) ∧
          t.otp = s.otp ∧ t.mem = s.mem ∧ t.axes = s.axes ∧
          if total ≤ off + p.data.length ∧ t.verified x k = none then Replied s t h 0x78 eIntegrity []
          else Replied s t h 0x78 stOk (le 4 (min total (off + p.data.length)) ++ le 1 t.boot.staged ++ zeros 3)) ∧
      (¬ free → Completes (.fwStage h p) s h 0x78 eBusy [] s)) ∧
    (p.image = 0x10 → h.port = 3 → p.data ≠ [] → total ≠ 0 → total ≤ 4096 → off + p.data.length ≤ (total + 3) / 4 * 4 →
      off = 0 ∨ off = s.boot.tokenWritten → free →
      ∃ t, exec (.fwStage h p) s = .next t ∧ t.flash = { s.flash with
          token := bankSet s.flash.token x (((s.flash.token.get x).take off ++ p.data).take total) } ∧
        t.boot.tokenStaged = (decide (total ≤ off + p.data.length) && s.tokenOk (t.flash.token.get x)) ∧ t.otp = s.otp)) ∧
  (∀ s h ses (slot : Byte) token, Accepted s h (.fwCommit slot token) ses → 1 < slot.toNat → s.commit = none →
    Completes (.fwCommit h slot token) s h 0x79 eParam [] s.closeStage) ∧
  (∀ s h ses (slot : Byte), Accepted s h (.fwCommit slot false) ses → slot.toNat ≤ 1 → s.commit = none →
    let x : Fin 2 := Fin.ofNat 2 slot.toNat
    let c := s.flash.freeCell
    if s.runningSlot ≠ some x ∧ (s.failing x ≠ 0 ∨ (s.flash.partial_.get x = true ∧ s.boot.staged ≠ 63)) then
      Completes (.fwCommit h slot false) s h 0x79 eIntegrity [] s.closeStage
    else ∃ t, exec (.fwCommit h slot false) s = .next t ∧ t.flash = { s.flash with
        marks := bankSet s.flash.marks x 0, cmt := bankSet s.flash.cmt c (some ⟨s.flash.seqInForce + 1, x, false⟩) } ∧
      (∃ q, t.commit = some q ∧ q.slot = x ∧ q.seq = s.flash.seqInForce + 1 ∧ q.cell = c ∧
        q.ticket = s.ticket h (.fwCommit slot false) ses) ∧
      (∀ y, s.flash.inForce = some y → y.1 ≠ c) ∧ t.boot = s.boot ∧ t.otp = s.otp) ∧
  (∀ s h ses (slot : Byte), Accepted s h (.fwCommit slot true) ses → slot.toNat ≤ 1 → s.commit = none →
    let x : Fin 2 := Fin.ofNat 2 slot.toNat
    if x ≠ s.idleSlot then Completes (.fwCommit h slot true) s h 0x79 eParam [] s.closeStage
    else if s.boot.tokenStaged = true ∧ s.tokenOk (s.flash.token.get x) = true then
      Completes (.fwCommit h slot true) s h 0x79 stOk (le 4 s.flash.seqInForce.toNat ++ zeros 4)
        (State.closeStage { s with flash := { s.flash with tokenArmed := some x } })
    else Completes (.fwCommit h slot true) s h 0x79 eIntegrity [] s.closeStage) ∧
  (∀ (s : State) c, s.commit = some c → s.flash.cmt.get c.cell = some ⟨c.seq, c.slot, false⟩ → s.flash.seqInForce < c.seq →
    s.commitDone.commit = none ∧ s.commitDone.flash.inForce = some (c.cell, ⟨c.seq, c.slot, true⟩) ∧
      s.commitDone.flash.images = s.flash.images) ∧
  (∀ s : State, exec .stageTimeout s = .next (match s.boot.stage with
    | some g => if g.lastAt + 60 * secTicks ≤ s.now then s.closeStage else s
    | none => s)))

/-! ## Link test (chapter 22) -/

/-- R445 to R450: LINK_TEST_START with every field in range, of a unit that is free and whose link may be tested, starts it with
its counts at zero and replies ACCEPTED; a unit that runs, or the port that carries the command, returns E_BUSY, a field out of
range E_PARAM, the felt link with something it serves in motion E_STATE, HBM with an attempt running E_BUSY, and HPB's FAR loop
with a PHY that does not answer E_HW_FAULT; the xSPI test programs its pattern into the test area. LINK_TEST_RESULT
returns the 64 bytes of Table 22-4 and changes nothing but the free values it used. R445, R447, R449, R451, R452, R454: a unit
that locks in time counts, and one that does not ends without lock; it ends complete when its bits are counted, after the eye scan
where one was asked for, or at the time limit, and without lock when lock is lost before; the end gives a sensor port back and
raises EV_LINK_TEST for the session that started it. Loss of lock gives way to the bits counted in its tick, and both to the end of
the unit's lease. R444: each bit of a PRBS after the ones it starts with (notes/assumptions/37) is the exclusive or of those n and
m places before it, the other patterns repeat their 64-bit words, INJECT inverts one bit of each 2^20, and a checker locks on the
PRBS itself. A self-test under way ends with what was measured of its axis, or of the
sinks of its group. A unit or a test that does not run takes no notice. -/
def Obligations.LinkTestsAct : Prop :=
  ((∀ s h ses p, Accepted s h (.linkTestStart p) ses →
    let u := testUnit h
    let ranges : Prop := p.pattern.toNat ≤ 6 ∧ loopAllowed u p.loop.toNat = true ∧
      (p.eye = true → u.val ≤ 1 ∧ p.loop = 2) ∧ s.lanesAllowed u p.lanes.toNat = true ∧ (p.pattern ≠ 6 → p.user = 0) ∧ p.bits ≠ 0
    let busy : Prop := portUnit h.port = some u ∨ (s.unit u).st.runs = true
    let jobs : Prop := (u = 2 ∨ u = 3) ∧ ∃ t j, s.job t = some j ∧ (j.st = .running ∨ j.st = .restarting)
    let barred : Prop := (u = 4 ∧ s.feltIdle = false) ∨ ((u = 6 ∨ u = 7) ∧ s.underTest 4 = true) ∨
      ∃ k, unitSensor u = some k ∧ (s.sns k).st ≠ .configured
    (ranges → ¬ busy → ¬ jobs → ¬ barred →
      let mdio : Prop := u = 1 ∧ p.loop = 2
      let s0 : State := if mdio then { s with free := s.free + 1 } else s
      let a := s0.updUnit u fun x => { Ltu.reset with
        st := .locking, pattern := p.pattern.toNat, loop := p.loop.toNat, eye := p.eye, inject := p.inject,
        lanes := p.lanes.toNat, user := p.user, goal := p.bits.toNat, startAt := s.now, owner := h.port,
        serial := some ses.serial, latBitsHi := x.latBitsHi, latErrLo := x.latErrLo, latErrHi := x.latErrHi }
      let b := match unitSensor u with
        | some k => a.updSensor k fun x => { x with st := .test }
        | none => a
      let d : State := if u = 9 then { b with flash := { b.flash with testArea := some (p.pattern.toNat, p.user) } } else b
      if mdio ∧ Config.phyAnswers s.free = false then CompletesLoud (.linkTestStart h p) s h 0x60 eHwFault [] s0
      else CompletesLoud (.linkTestStart h p) s h 0x60 stAccepted [] (if u = 1 then d.losePtp else d)) ∧
    (ranges → busy → Completes (.linkTestStart h p) s h 0x60 eBusy [] s) ∧
    (ranges → ¬ busy → jobs → Completes (.linkTestStart h p) s h 0x60 eBusy [] s) ∧
    (ranges → ¬ busy → ¬ jobs → barred → Completes (.linkTestStart h p) s h 0x60 eState [] s) ∧
    (6 < p.pattern.toNat ∨ p.bits = 0 → Completes (.linkTestStart h p) s h 0x60 eParam [] s)) ∧
  (∀ s h ses, Accepted s h .linkTestResult ses →
    (s.unitResult (testUnit h)).length = 64 ∧
      Completes (.linkTestResult h) s h 0x61 stOk (s.unitResult (testUnit h)) { s with free := s.free + 6 })) ∧
  ((∀ (s : State) (u : Fin 16) (errs : Vector Nat 4) (bits : Nat),
    let x := s.unit u
    let ends (i : Instr) (r : Nat) (y : Ltu) : Prop := ∃ t, exec i s = .next t ∧
      t.unit u = { y with st := .ended, locked := false, result := r, endAt := s.now } ∧ (∀ v, v ≠ u → t.unit v = s.unit v) ∧
      (∀ k, (t.sns k).st = if unitSensor u = some k ∧ (s.sns k).st = .test then .configured else (s.sns k).st) ∧
      (u = 0 → t.hpa.linkUp = false) ∧ (u = 1 → t.net.ethUp = false) ∧
      t.axes = s.axes ∧ t.mem = s.mem ∧ t.leases = s.leases ∧ t.jobs = s.jobs ∧
      ∀ ses, (s.owner x.owner).session = some ses → x.serial = some ses.serial → ses.mask.testBit 9 = true →
        t.portDead x.owner = false → (s.owner x.owner).events.length < 256 →
        (t.owner x.owner).events = (s.owner x.owner).events ++
          [⟨0x09, (unitRes u).1, (unitRes u).2, ses.evSeq,
            s.eventBody ([BitVec.ofNat 8 r, 0, 0, 0] ++ le 8 y.bits ++ le 8 y.errors)⟩]
    let ending : Prop := s.leaseMayEnd (unitRes u).1 (unitRes u).2 = true
    (∀ rx : LockRx, rx.unit = u → exec (.ltuLock rx) s = .next
      (if x.st = .locking ∧ s.now ≤ x.startAt + lockTicks u ∧ (PatGen.locks ⟨x.pattern, x.user, x.inject⟩ rx.bits) = true then
        s.updUnit u fun x => { x with st := .counting, locked := true } else s)) ∧
    (x.st = .locking → u = 9 ∨ x.startAt + lockTicks u ≤ s.now → ends (.ltuLockLoss u bits errs) 2 x) ∧
    (x.st = .counting → s.bitsComing u = true ∨ ending →
      exec (.ltuLockLoss u bits errs) s = .next (s.putOff (.ltuLockLoss u bits errs))) ∧
    (x.st = .counting → s.bitsComing u = false → ¬ ending →
      (errs.toList.sum < 256 → exec (.ltuLockLoss u bits errs) s = .next s) ∧
      (256 ≤ errs.toList.sum → bits < x.goal → ends (.ltuLockLoss u bits errs) 2 (x.counted bits errs))) ∧
    (x.st = .counting → ending → exec (.ltuBitsReached u errs) s = .next (s.putOff (.ltuBitsReached u errs))) ∧
    (x.st = .counting → ¬ ending → x.eye = false → ends (.ltuBitsReached u errs) 0 (x.counted x.goal errs)) ∧
    (x.st = .counting → ¬ ending → x.eye = true →
      exec (.ltuBitsReached u errs) s = .next (s.updUnit u fun x => { x.counted x.goal errs with st := .eye })) ∧
    (∀ eyes : Vector EyeP 4, x.st = .eye → ends (.eyeScanDone u eyes) 0 { x with
      eyes := Vector.ofFn fun n : Fin 4 => if x.lanes.testBit n.val then
          ⟨min 32 (eyes.get n).left, min 32 (eyes.get n).right, min 1020 (eyes.get n).top, min 1020 (eyes.get n).bottom⟩
        else Eye.none }) ∧
    (x.st = .counting → x.startAt + 3600 * secTicks ≤ s.now →
      ends (.linkTestTimeLimit u bits errs) 0 (x.counted (min bits x.goal) errs)) ∧
    (x.st = .eye ∨ x.st = .locking → x.startAt + 3600 * secTicks ≤ s.now → ends (.linkTestTimeLimit u bits errs) 0 x) ∧
    (x.st.runs = false → exec (.ltuLockLoss u bits errs) s = .next s ∧ exec (.ltuBitsReached u errs) s = .next s ∧
      exec (.linkTestTimeLimit u bits errs) s = .next s)) ∧
  (∀ (g : PatGen) len,
    let bit (i : Nat) : Bool := (g.pure len).getD i false
    (g.pure len).length = len ∧ (g.inject = false → g.sent len = g.pure len) ∧
    (∀ n m, (g.pattern, n, m) ∈ [(0, 7, 6), (1, 15, 14), (2, 23, 18), (3, 31, 28)] →
      (∀ i, i < len → bit i = if i < n then true else xor (bit (i - n)) (bit (i - m))) ∧
      (n + 64 ≤ len → g.locks (g.pure len) = true)) ∧
    ∀ i, i < len → (g.pattern = 4 → (bit i = true ↔ i % 64 = i / 64 % 64)) ∧ (g.pattern = 5 → (bit i = true ↔ i % 2 = 0)) ∧
      (g.pattern = 6 → bit i = g.user.getLsbD (i % 64))) ∧
  (∀ k, ∃ i, i / 2 ^ 20 = k ∧ injected i = true ∧ ∀ j, j / 2 ^ 20 = k → injected j = true → j = i) ∧
  (∀ (s : State) n c g i, exec (.axisSelfTestDone n c g i) s = .next (if (s.test.axis.get n).running = true then
      s.updTest fun t => { t with axis := bankUpd t.axis n fun x =>
        { x with running := false, done := true, chFail := c % 128, gateFail := g % 64, interlock := i } }
    else s)) ∧
  (∀ (s : State) (g : Fin 8) (ua mv : Vector Nat 48), if (s.test.sink.get g).running = true then
      ∃ t k, exec (.sinkSelfTestDone g ua mv) s = .next t ∧ t.test.sink.get g = k ∧ k.running = false ∧ k.done = true ∧
        (∀ n : Fin 48, k.opens.testBit n.val =
          ((s.illum.sinks.get n).group == some g && decide (ua.get n < 500))) ∧
        (∀ n : Fin 48, k.shorts.testBit n.val =
          ((s.illum.sinks.get n).group == some g && decide (s.illum.shortMv < mv.get n))) ∧
        t.illum.sinks = s.illum.sinks ∧ t.test.units = s.test.units ∧ t.test.axis = s.test.axis ∧ t.axes = s.axes
    else exec (.sinkSelfTestDone g ua mv) s = .next s))

/-! ## Power, heat and clocks (chapters 2 and 3) -/

/-- R31 to R34, R36, R41: a reading in range becomes the sensor's, valid, and decides WARN, LIMIT and CRIT with their hysteresis,
LIMIT without the field die's sensors; a reading at TJ_CRIT shuts the device down: SHUTDOWN, every core OFF, every axis stopped
and held. A reading out of range, or a conversion that does not come, fails the sensor until reset, and a second failed compute
sensor holds LIMIT. The ceiling of VCORE falls 10 mV per 1 ms in LIMIT to 720 mV and rises 10 mV per 10 ms to 850 mV outside it.
R53, R54, R58, R59: two counts in a row outside the window of the running reference, or the loss of a PLL's lock, stop the device:
SHUTDOWN, device time stopped, every core OFF, every axis stopped and held, the timers stopped but when PLL_C alone was lost. A
count in the window clears the run, and in a start whose PLLs have locked it lets the boot ROM go on. The loss of PLL_F after an
earlier failure stops the timers too. When XT32 fails its clock runs from the RC from then on. A core named in DBG_HALT halts. -/
def Obligations.ThermalAndClockRowsAct : Prop :=
  ((∀ (s : State) (n : Fin 12) (reading : BitVec 16), s.boot.step ≠ .held → (s.thermal.sensors.get n).failed = false →
    let r : BitVec 16 := if 10 ≤ n.val then reading &&& 0xFFF0 else reading
    let hyst : Int := s.thermal.tjHyst * 16
    (-880 ≤ r.toInt → r.toInt ≤ 2400 →
      ∃ t, exec (.tempConversion n reading) s = .next t ∧
        t.thermal.sensors = bankSet s.thermal.sensors n ⟨r, true, false⟩ ∧
        (let hot (x : Int) (f : Bool) : Prop :=
            ∃ k, (t.thermal.sensors.get k).valid = true ∧ x ≤ (t.thermal.sensors.get k).temp.toInt ∧ (f = true ∨ (k ≠ 8 ∧ k ≠ 9))
          let warnAt : Int := s.thermal.tjWarn * 16
          (t.thermal.warn = true ↔ hot warnAt true ∨ (s.thermal.warn = true ∧ hot (warnAt - hyst) true)) ∧
          (t.thermal.limit = true ↔ hot 1680 false ∨
            (s.thermal.limit = true ∧ (s.thermal.limitHeld = true ∨ hot (1680 - hyst) false))) ∧
          (t.thermal.crit = true ↔ hot 1840 true ∨ s.thermal.crit = true)) ∧
        (if t.thermal.crit = true ∧ s.thermal.crit = false then
          t.boot.dev = .shutdown ∧ t.safety.thermal = true ∧ (∀ c, (t.core1 c).st = .off) ∧
            t.avs.ramping = decide (720 < s.avs.reqMv) ∧
            ∀ k, (t.axis k).hold = true ∧
              AxisStopped s t k (if s.cfgStop k = .ramp then .freewheel else s.cfgStop k) .hardware 10
        else t.boot = s.boot ∧ t.axes = s.axes ∧ t.cores = s.cores) ∧
        (∀ p k, s.thermal.peak = some (p, k) →
          t.thermal.peak = if p.toInt < r.toInt then some (r, n) else some (p, k))) ∧
    (∀ i : Instr, (i = .tempConversion n reading ∧ (r.toInt < -880 ∨ 2400 < r.toInt)) ∨ i = .tempConversionTimeout n →
      ∃ t, exec i s = .next t ∧ (t.thermal.sensors.get n).failed = true ∧ (t.thermal.sensors.get n).valid = false ∧
        t.thermal.sensorFail = true ∧ (∀ k, k ≠ n → t.thermal.sensors.get k = s.thermal.sensors.get k) ∧
        (n.val < 8 → s.thermal.limitHeld = false →
          (∃ k : Fin 12, k ≠ n ∧ k.val < 8 ∧ (s.thermal.sensors.get k).failed = true) →
          t.thermal.limitHeld = true ∧ t.thermal.limit = true))) ∧
  (∀ s : State, s.boot.step ≠ .held →
    exec .ceilingStep s = .next (if s.thermal.ceilDue ≤ s.now then s.updThermal fun t =>
        if t.limit = true then { t with ceilMv := max 720 (t.ceilMv - 10), ceilDue := s.now + msTicks }
        else if t.ceilMv < 850 then { t with ceilMv := min 850 (t.ceilMv + 10), ceilDue := s.now + 10 * msTicks } else t
      else s))) ∧
  ((∀ (s : State), s.fabric.clkFail = false →
    let fails (i : Instr) (d02 : Bool) : Prop := ∃ t, exec i s = .next t ∧ t.boot.dev = .shutdown ∧ t.fabric.clkFail = true ∧
      t.fabric.d02Run = (s.fabric.d02Run && !d02) ∧
      t.safety.clock = true ∧ t.tb.running = false ∧ (∀ c, (t.core1 c).st = .off) ∧
      (∀ n, (t.timers.get n).run = ((s.timers.get n).run && !d02)) ∧
      ∀ n, (t.axis n).hold = true ∧ AxisStopped s t n (if s.cfgStop n = .ramp then .freewheel else s.cfgStop n) .hardware 10
    (∀ edges, s.boot.step ≠ .held →
      let good : Bool := match s.fabric.d00 with
        | .crystal => decide (740 ≤ edges) && decide (edges ≤ 786)
        | .rc => decide (720 ≤ edges) && decide (edges ≤ 806)
      if good = true then
        let u := s.updFabric fun f => { f with tcxoOk := true, badCounts := 0 }
        exec (.clockMonitorCount edges) s = .next (if s.boot.step = .pllWait ∧ s.fabric.pllC = true ∧ s.fabric.pllF = true ∧
          s.now ≤ s.boot.releasedAt + 10 * msTicks then u.updBoot fun b => { b with step := .readBoot1 } else u)
      else if s.fabric.badCounts = 0 ∨ s.boot.step = .pllWait then
        exec (.clockMonitorCount edges) s =
          .next (s.updFabric fun f => { f with tcxoOk := false, badCounts := min 2 (f.badCounts + 1) })
      else fails (.clockMonitorCount edges) true) ∧
    (s.fabric.pllF = true → fails (.pllLockLoss true) true) ∧ (s.fabric.pllC = true → fails (.pllLockLoss false) false)) ∧
  (∀ s : State, s.fabric.clkFail = true → s.fabric.pllF = true → ∃ t, exec (.pllLockLoss true) s = .next t ∧
    t.fabric.pllF = false ∧ t.fabric.d02Run = false ∧ (∀ n, (t.timers.get n).run = false) ∧ t.boot = s.boot ∧ t.axes = s.axes) ∧
  (∀ (s : State), s.boot.step ≠ .held →
    if s.fabric.d00 = .crystal then
      ∃ t, exec .xt32Fail s = .next t ∧
        t.fabric = { s.fabric with d00 := .rc, xt32Ok := false, xt32Fail := true, badCounts := 0 } ∧
        t.axes = s.axes ∧ t.mem = s.mem ∧ t.boot = s.boot ∧ t.cores = s.cores
    else exec .xt32Fail s = .next s) ∧
  (∀ (s : State) c, exec (.coreHalted c) s = .next (if s.fabric.dbgHalt.get c = true then
    s.updFabric fun f => { f with halted := bankSet f.halted c true } else s)))

/-- R28 to R30, R34, R46 to R49: a transaction answered clears the run of failures and stores what was read; the third failure
in a row sets NORESP and the retries of 10 ms, which a read answered ends. The shutdown ramp steps the request 10 mV per 20 µs
to 720 mV. At the end of a kept window the request moves by at most 10 mV and not out of its bounds: down with no core in JOB,
with the estimate above the cap or the slowest core more than 4 % above its target, up below the target with room under the
cap. Without the monitor a window only brings the estimate, and dispatch held for the cap resumes below it. R350, R361, R362,
R368, Table 18-13: a lamp-board sensor gives its temperature, or 125 °C and its fault; the string supply discharges, resumes
10 ms after it is empty, and discharges on an overvoltage, the third within 1 s being a fault; the matrix scans line by line
and takes a waiting frame at line 0, and an overcurrent latches it dark. -/
def Obligations.SupplyAndLampRowsAct : Prop :=
  ((∀ (s : State) (kind : Fin 4) (v : Nat) (alert : Bool), s.boot.step ≠ .held →
    exec (.avsTransactionDone kind true v alert) s = .next (s.updAvs fun a => { a with
      fails := 0, alert := a.alert || alert, readMv := if kind = 1 then v % 65536 else a.readMv,
      failed := a.failed && kind != 1, iout10 := if kind = 2 then v % 65536 else a.iout10 }) ∧
    ∃ t, exec (.avsTransactionDone kind false v alert) s = .next t ∧ t.avs.fails = satInc 255 s.avs.fails ∧
      (if s.avs.fails = 2 then
        t.avs.failed = true ∧ t.avs.noresp = true ∧
          t.avs.retryAt = (if s.avs.failed = true then s.avs.retryAt else s.now + 10 * msTicks)
      else t.avs = { s.avs with fails := satInc 255 s.avs.fails }) ∧ t.avs.reqMv = s.avs.reqMv ∧ t.axes = s.axes ∧ t.mem = s.mem) ∧
  (∀ (s : State) ok v alert, s.boot.step ≠ .held →
    if s.avs.failed = true ∧ s.avs.retryAt ≤ s.now then
      ∃ t, exec (.avsRetry ok v alert) s = .next t ∧ t.avs.retryAt = s.now + 10 * msTicks ∧
        (ok = true → t.avs.failed = false ∧ t.avs.readMv = v % 65536 ∧ t.avs.fails = 0) ∧
        (ok = false → t.avs.failed = true ∧ t.avs.fails = satInc 255 s.avs.fails)
    else exec (.avsRetry ok v alert) s = .next s) ∧
  (∀ s : State, if s.avs.ramping = true ∧ (∀ w, s.avs.lastWrite = some w → w + 20 * usTicks ≤ s.now) then
      exec .vcoreShutdownStep s = .next { s with
        avs := { s.avs with reqMv := max 720 (s.avs.reqMv - 10), lastWrite := some s.now,
                            ramping := decide (720 < max 720 (s.avs.reqMv - 10)) },
        out := s.out ++ [Out.avs (max 720 (s.avs.reqMv - 10))] }
    else exec .vcoreShutdownStep s = .next s) ∧
  (∀ (s : State) (rates : Vector Nat 32) (pkg : Nat), s.boot.dev ≠ .boot → s.boot.dev ≠ .recovery → s.boot.dev ≠ .shutdown →
    s.fabric.winStart + 50 * usTicks ≤ s.now → s.fabric.monEn = true →
    (∀ w, s.avs.lastWrite = some w → w + 50 * usTicks ≤ s.fabric.winStart) →
    let v := s.avs.reqMv
    let lo := if s.anyPinned = true then 720 else s.fabric.vminIdle
    let hi := s.ceilMv
    let e := pkg % 65536
    ∃ t, exec (.monitorWindowEnd rates pkg) s = .next t ∧ t.avs.pkgDw = e ∧ t.fabric.winStart = s.now ∧ t.axes = s.axes ∧
      t.mem = s.mem ∧ t.out = (if t.avs.reqMv = v then s.out else s.out ++ [Out.avs t.avs.reqMv]) ∧
      v - 10 ≤ t.avs.reqMv ∧ t.avs.reqMv ≤ v + 10 ∧ (lo ≤ v → v ≤ hi → lo ≤ t.avs.reqMv ∧ t.avs.reqMv ≤ hi) ∧
      (s.avs.failed = true → t.avs.reqMv = v) ∧
      (s.avs.failed = false → hi < v → t.avs.reqMv = max (v - 10) hi) ∧
      (s.avs.failed = false → lo ≤ v → v ≤ hi →
        ((∀ c, (s.core1 c).st ≠ .job) → t.avs.reqMv = max (v - 10) lo) ∧
        (∀ c, (s.core1 c).st = .job → (∀ d, (s.core1 d).st = .job → rates.get c ≤ rates.get d) →
          t.avs.reqMv = if s.fabric.pwrCap < e then max (v - 10) lo
            else if rates.get c < s.fabric.rateTgt ∧ e < s.fabric.pwrCap - 20 then min (v + 10) hi
            else if s.fabric.rateTgt * 104 < rates.get c * 100 then max (v - 10) lo else v))) ∧
  (∀ (s : State) (rates : Vector Nat 32) (pkg : Nat), s.boot.dev ≠ .boot → s.boot.dev ≠ .recovery →
    s.fabric.winStart + 50 * usTicks ≤ s.now → s.fabric.monEn = false →
    exec (.monitorWindowEnd rates pkg) s = .next ((s.updAvs fun a => { a with pkgDw := pkg % 65536 }).updFabric fun f =>
      { f with winStart := s.now, capHold := f.capHold && decide (f.pwrCapOn - 20 < pkg % 65536) })) ∧
  (∀ (s : State) (rates : Vector Nat 32) (pkg : Nat), s.now < s.fabric.winStart + 50 * usTicks →
    exec (.monitorWindowEnd rates pkg) s = .next s)) ∧
  ((∀ (s : State) (k : Fin 4) mv,
    let l := s.illum.lts.get k
    let bad := decide (mv < 50) || decide (2950 < mv)
    ∃ t, exec (.ltsConversion k mv) s = .next t ∧ t.illum.lts = bankSet s.illum.lts k
        { l with mv := mv % 4096, fault := bad, temp := if bad = true then 2000 else ltsTemp l.v0 l.slope mv } ∧
      (∀ g, (t.group g).sensorSeen = if (s.group g).cfg.lts = some k then bad else (s.group g).sensorSeen) ∧
      (∀ g, (t.group g).latched = (s.group g).latched ∧ (t.group g).cfg = (s.group g).cfg) ∧
      t.illum.sinks = s.illum.sinks ∧ t.axes = s.axes ∧ t.mem = s.mem) ∧
  (∀ s : State, let x := s.illum.stage
    exec .vstrDischarged s = .next (if x.st = .discharging ∧ x.dis = true ∧ x.ovp = false then
      s.updStage fun x => { x with dis := false, resumeAt := some (s.now + 10 * msTicks) } else s)) ∧
  (∀ (s : State) at_, s.illum.stage.resumeAt = some at_ → s.illum.stage.st = .discharging →
    exec .stageResume s = .next (if at_ ≤ s.now then
      s.updStage fun x => { x with st := .rising, set := x.vstr, resumeAt := none } else s)) ∧
  (∀ (s : State) mv, s.boot.dev = .full → s.illum.stage.st ≠ .fault →
    if mv < 48000 then exec (.vstrOvervoltage mv) s = .next s
    else
      let recent := s.illum.stage.ovpAt.filter fun a => decide (s.now ≤ a + secTicks)
      ∃ t, exec (.vstrOvervoltage mv) s = .next t ∧ t.illum.stage = { s.illum.stage with
          vstr := mv, dis := true, ovp := true, ovpAt := recent ++ [s.now], resumeAt := none,
          st := if 2 ≤ recent.length then .fault else .discharging } ∧
        t.illum.cntOvp = satInc 65535 s.illum.cntOvp ∧ t.illum.sinks = s.illum.sinks ∧ t.illum.groups = s.illum.groups ∧
        t.axes = s.axes ∧ t.mem = s.mem) ∧
  (∀ s : State, exec .vstrOvpRelease s = .next (if s.illum.stage.ovp = true then
    s.updStage fun x => { x with dis := false, ovp := false, st := if x.st = .discharging then .rising else x.st } else s)) ∧
  (∀ s : State, s.boot.dev = .full →
    let m := s.illum.matrix
    (∀ a, m.lineAt = some a → s.now < a + m.lineTUse * 10 → exec .matrixLine s = .next s) ∧
    (∀ a, m.lineAt = some a → a + m.lineTUse * 10 ≤ s.now → m.line ≠ 15 →
      exec .matrixLine s = .next (s.updMatrix fun m => { m with line := m.line + 1, lineAt := some s.now })) ∧
    ((∃ a, m.lineAt = some a ∧ a + m.lineTUse * 10 ≤ s.now ∧ m.line = 15) ∨ m.lineAt = none →
      ∃ t, exec .matrixLine s = .next t ∧ t.illum.matrix.line = 0 ∧ t.illum.matrix.lineAt = some s.now ∧
        t.illum.matrix.frame = m.pending.getD m.frame ∧ t.illum.matrix.pending = none ∧ t.illum.matrix.lineTUse = m.lineT ∧
        t.illum.matrix.fault = m.fault ∧ t.illum.sinks = s.illum.sinks ∧ t.axes = s.axes ∧ t.mem = s.mem)) ∧
  (∀ s : State, exec .matrixOvercurrent s = .next (s.updMatrix fun m => { m with fault := true }) ∧
    ∀ a c, (s.updMatrix fun m => { m with fault := true }).illum.matrix.column a c = 0))

/-! ## Keys and errors of the memories (chapter 8) -/

/-- R160, R162, R170, R173, R343: an enrolment or revocation ends in its turn in the configuration store (R285) with its
RESULT, takes effect only with RESULT 0, and then changes the one slot it names and extends WM7; a failed test of the entropy
source bars a reseed, which otherwise comes 1 s or 65,536 requests after the last, and a source that recovers reseeds; a
corrected error is counted and nothing else; an uncorrectable error of the SELF pool stops every axis and resets with cause 4,
and one met by an attempt in a region abandons the attempt, is recorded, and leaves the line unreadable until it is rewritten;
one in the weights of an axis's network is a fault of the PINNED core, and the weights are bad until they are restored. -/
def Obligations.KeyAndErrorRowsAct : Prop :=
  (∀ (s : State) (written : Bool), s.keys.busy = none ∨ (∀ w ∈ s.store.queue.head?, w.item ≠ .enrolment) →
    exec (.enrolComplete written) s = .next s) ∧
  (∀ (s : State) (written : Bool) (o : EnrolOp) w rest, s.keys.busy = some o → 1 ≤ o.owner → o.owner ≤ 4 → o.slot < 4 →
    s.store.queue = w :: rest → w.item = .enrolment →
    let p : Fin 4 := Fin.ofNat 4 (o.owner - 1)
    let i : Fin 4 := Fin.ofNat 4 o.slot
    let held := (s.keys.enrolled.get p).get i
    let fault := if o.op = 1 then
        (if o.early ≠ 0 then o.early else if onCurve o.key = false then 1 else if held ≠ none then 2 else 0)
      else if held = none then 3 else 0
    let res := if fault ≠ 0 then fault else if written = true then 0 else 6
    ∃ t, exec (.enrolComplete written) s = .next t ∧ t.store = { s.store with queue := rest } ∧ t.keys.busy = none ∧
      t.keys.result = res ∧
      t.keys.lastOwner = o.owner ∧ t.keys.lastSlot = o.slot ∧
      (∀ q k, (t.keys.enrolled.get q).get k =
        if res = 0 ∧ q = p ∧ k = i then (if o.op = 1 then some o.key else none) else (s.keys.enrolled.get q).get k) ∧
      t.boot.wm.get 7 = (if res = 0 then digest (s.boot.wm.get 7 ++ enrolDigest o.owner o.op
        (if o.op = 1 then o.key else held.getD [])) else s.boot.wm.get 7) ∧
      (∀ n, n ≠ 7 → t.boot.wm.get n = s.boot.wm.get n) ∧ t.owners = s.owners ∧ t.mem = s.mem ∧ t.axes = s.axes) ∧
  (∀ (s : State), s.boot.step ≠ .held →
    exec (.entropyTestFail false) s = .next (s.updKeys fun k =>
      { k with entFail := true, entSeen := true, keysOut := k.keysOut || decide (65536 ≤ k.requests) }) ∧
    exec (.entropyTestFail true) s = .next (if s.boot.step = .readBoot1 ∨ s.boot.step = .readImages then
      s.updKeys fun k => { k with entOk := false, startFail := true } else s)) ∧
  (∀ (s : State),
    let fresh (k : KeyState) : KeyState := { k with requests := 0, seededAt := s.now, reseeds := satInc 65535 k.reseeds }
    exec .entropyRecover s = .next (if s.keys.entFail = true then
      s.updKeys fun k => { fresh k with entFail := false, keysOut := false } else s) ∧
    exec .drbgReseed s = .next (if s.boot.step ≠ .held ∧ s.keys.entFail = false ∧
      (65536 ≤ s.keys.requests ∨ s.keys.seededAt + secTicks ≤ s.now) then s.updKeys fresh else s)) ∧
  (∀ (s : State) (place : ScrubAt) line, exec (.scrubPass place false line) s = .next s ∧
    (line < 2 ^ 29 → exec (.scrubPass place true line) s = .next (s.updMem fun m => { m with
      cntVatCe := if place = .vat then satInc 65535 m.cntVatCe else m.cntVatCe,
      cntCoreCe := if place = .core then satInc 65535 m.cntCoreCe else m.cntCoreCe,
      cntHbmCe := if place = .stack then satInc 65535 m.cntHbmCe else m.cntHbmCe }))) ∧
  (∀ (s : State) met tag mismatch region line, s.boot.step ≠ .held → s.boot.step ≠ .stopped →
    (s.boot.stopDone = false →
      ∃ t, exec (.memUncorrectable true met tag mismatch region line) s = .next t ∧
        t.boot = { s.boot with resetDue := some (s.now, 4), stopDone := true } ∧ t.mem = s.mem ∧
        ∀ n, (t.axis n).hold = true ∧
          AxisStopped s t n (if s.cfgStop n = .ramp then .freewheel else s.cfgStop n) .hardware 10) ∧
    (∀ j r, s.job tag = some j → j.st = .running → s.region j.port region.toNat = some r →
      let cause := if r.place = .vat then 3 else if mismatch = true then 2 else 1
      (cause = 2 → s.outranked tag 3 = false) →
      ∃ t, exec (.memUncorrectable false .region tag mismatch region line) s = .next t ∧
        Abandoned s t tag j (if cause = 2 then 3 else 1) 0xFF region.toNat line.toNat ∧
        t.mem.fltCause = cause ∧ t.mem.fltOwner = Port.id j.port ∧ t.mem.fltJob = tag.val ∧ t.mem.fltRegion = region.toNat ∧
        t.mem.fltLine = line.toNat ∧ t.firstBad r (t.domKey j.port) [line.toNat] = some (line.toNat, cause) ∧
        t.mem.regions = s.mem.regions ∧ t.axes = s.axes ∧ t.leases = s.leases) ∧
    (∀ n k, if s.weightsOn n k = true then
      ∃ t, exec (.memUncorrectable false (.weights n k) tag mismatch region line) s = .next t ∧
        t.mem.fltCause = 4 ∧ t.mem.fltJob = 0xFF ∧ t.mem.fltLine = line.toNat ∧ t.weightsOn n k = false ∧
        (∃ y, (t.axis n).loaded k = some y ∧ y.coreOk = false) ∧ t.mem.cntCoreUe = satInc 65535 s.mem.cntCoreUe ∧
        (t.core1 (coreOf n)).faults = satInc 255 (s.core1 (coreOf n)).faults ∧ t.jobs = s.jobs ∧ t.leases = s.leases
      else exec (.memUncorrectable false (.weights n k) tag mismatch region line) s = .next s))

/-! ## Illumination (chapter 18) -/

/-- R348, R354, R355, R363: LIGHT_GROUP_CONFIG in range waits for the next valley unless it names a sink of another group
(E_BUSY); LIGHT_SET queues up to four sets for its boundary, E_BUS_CONTROL for a group the bus controls; STROBE_ARM arms a
STROBE group, or disarms it and leaves it dark, and drops the windows not yet open; MATRIX_FRAME waits for the end of the
frame. A field out of range is E_PARAM. -/
def Obligations.LightCommandsAct : Prop :=
  (∀ s h ses p, Accepted s h (.lightGroupConfig p) ses →
    let g : Fin 8 := Fin.ofNat 8 h.idx.toNat
    let c : LightCfg :=
      { colour := p.colour.toNat, ctrlSrc := p.ctrlSrc.toNat, failsafe := p.failsafe.toNat,
        lts := if x : p.lts.toNat < 4 then some ⟨p.lts.toNat, x⟩ else none, mask := p.mask.toNat }
    let taken : Prop := ∃ k, k ≠ g ∧ ∃ m, (m = (s.group k).cfg.mask ∨ ∃ x, (s.group k).cfgNext = some x ∧ m = x.mask) ∧
      Nat.land m c.mask ≠ 0
    if p.colour.toNat ≤ 5 ∧ p.ctrlSrc.toNat ≤ 2 ∧ p.failsafe.toNat ≤ 2 ∧ (p.lts.toNat < 4 ∨ p.lts = 255) then
      (¬ taken → Completes (.lightGroupConfig h p) s h 0x48 stOk [] (s.updGroup g fun x => { x with cfgNext := some c })) ∧
      (taken → Completes (.lightGroupConfig h p) s h 0x48 eBusy [] s)
    else Completes (.lightGroupConfig h p) s h 0x48 eParam [] s) ∧
  (∀ s h ses p, Accepted s h (.lightSet p) ses →
    let g : Fin 8 := Fin.ofNat 8 h.idx.toNat
    let ranges : Prop := p.entries ≠ [] ∧ p.entries.length ≤ 48 ∧ (p.entries.map (·.sink)).Nodup ∧ p.time.frac = 0 ∧
      p.time.ns.toNat < 1000000000 ∧ time12Ticks p.time ≤ s.devTime + 1000 * 1000000000 * 65536 ∧
      ∀ e ∈ p.entries, (∃ n : Fin 48, n.val = e.sink.toNat ∧ (s.illum.sinks.get n).group = some g) ∧ e.code.toNat ≤ 4095 ∧
        (e.duty = 0 ∨ nMin s.illum.dimC ≤ e.duty.toNat)
    ((s.group g).cfg.ctrlSrc = 1 → Completes (.lightSet h p) s h 0x49 eBusControl [] s) ∧
    ((s.group g).cfg.ctrlSrc ≠ 1 → ranges → (s.group g).queue.length < 4 →
      Completes (.lightSet h p) s h 0x49 stOk [] (s.updGroup g fun x => { x with queue := x.queue ++
        [⟨time12Ticks p.time, p.entries.map fun e => (Fin.ofNat 48 e.sink.toNat, e.code.toNat, e.duty.toNat)⟩] })) ∧
    ((s.group g).cfg.ctrlSrc ≠ 1 → ranges → 4 ≤ (s.group g).queue.length → Completes (.lightSet h p) s h 0x49 eBusy [] s) ∧
    ((s.group g).cfg.ctrlSrc ≠ 1 → ¬ ranges → Completes (.lightSet h p) s h 0x49 eParam [] s)) ∧
  (∀ s h ses p, Accepted s h (.strobeArm p) ses →
    let g : Fin 8 := Fin.ofNat 8 h.idx.toNat
    ((s.group g).cfg.ctrlSrc = 1 → Completes (.strobeArm h p) s h 0x4A eBusControl [] s) ∧
    ((s.group g).cfg.ctrlSrc = 0 → Completes (.strobeArm h p) s h 0x4A eState [] s) ∧
    ((s.group g).cfg.ctrlSrc = 2 → ∀ k : Fin 4, p.tp.toNat = k.val →
      if p.op.toNat ≤ 1 ∧ p.offset.toNat % 10 = 0 ∧ p.offset.toNat ≤ 999999990 ∧ p.length.toNat % 10 = 0 ∧
        1000 ≤ p.length.toNat ∧ p.length.toNat ≤ 100000000 then
        Completes (.strobeArm h p) s h 0x4A stOk [] (if p.op = 1 then
            let st : Strobe := ⟨k, p.offset.toNat, p.length.toNat, if p.count = 0 then none else some p.count.toNat⟩
            s.updGroup g fun x => { x with opens := [], strobe := some st }
          else (s.updGroup g fun x => { x with strobe := none, opens := [], closeAt := none }).dark g)
      else Completes (.strobeArm h p) s h 0x4A eParam [] s)) ∧
  (∀ s h ses p, Accepted s h (.matrixFrame p) ses →
    if 1 ≤ p.tPre.toNat ∧ p.tPre.toNat ≤ 64 then
      Completes (.matrixFrame h p) s h 0x4B stOk []
        (s.updMatrix fun m => { m with pending := some ⟨p.mask.toNat, p.tPre.toNat, p.codes⟩ })
    else Completes (.matrixFrame h p) s h 0x4B eParam [] s)

/-- R348 to R356: at a valley of TIM08, once, after the bus commands of its tick where a group turns to BUS (Table 19-9), in
FULL the configurations waiting come in force, DIM_C with them, and every sink of a group applies its stored code,
compensated, and its duty; the supply's set point stays in its bounds and moves by at most 0.5 V up and 0.1 V down. At a
group's boundary, after the valley and the end of the group's lease (Table 18-12), the sets that are due are stored in their
order. A window opens at its device time and closes after its length, the last of COUNT disarming the group, its sinks off; a
sink is on in the intervals of its duty, and what it measures joins the scan. -/
def Obligations.LightRowsAct : Prop :=
  (∀ (s : State) mv, if s.switchWaits = true then exec (.illumValley mv) s = .next (s.putOff (.illumValley mv))
    else if s.dimValleyDue = false then exec (.illumValley mv) s = .next s
    else if s.boot.dev ≠ .full then ∃ t, exec (.illumValley mv) s = .next t ∧ t.illum.sinks = s.illum.sinks ∧
      t.illum.stage = s.illum.stage ∧ t.axes = s.axes ∧ t.mem = s.mem
    else ∃ t, exec (.illumValley mv) s = .next t ∧ t.illum.dimUse = s.illum.dimC ∧ t.illum.valleyTick = s.now ∧
      t.illum.stage.vstr = mv ∧ t.axes = s.axes ∧ t.mem = s.mem ∧ t.leases = s.leases ∧
      (∀ g, (t.group g).cfgNext = none ∧ (t.group g).cfg = (s.group g).cfgNext.getD (s.group g).cfg) ∧
      (∀ n g, (t.illum.sinks.get n).group = some g → (t.illum.sinks.get n).apCode = t.applyCode (t.group g) (t.illum.sinks.get n) ∧
        (t.illum.sinks.get n).apDuty = t.applyDuty g (t.group g) (t.illum.sinks.get n)) ∧
      (t.illum.stage.st = .rising ∨ t.illum.stage.st = .regulating →
        t.illum.stage.set ≤ s.illum.vmaxDv * 100 ∧ min s.illum.vminDv s.illum.vmaxDv * 100 ≤ t.illum.stage.set ∧
        (s.illum.stage.st = .rising ∨ s.illum.stage.st = .regulating →
          t.illum.stage.set ≤ max (s.illum.stage.set + 500) (s.illum.vminDv * 100) ∧
          min (s.illum.stage.set - 100) (s.illum.vmaxDv * 100) ≤ t.illum.stage.set))) ∧
  (∀ (s : State) (g : Fin 8), let x := s.group g
    if s.leaseMayEnd 2 g.val = true ∨ s.valleyComes = true then exec (.lightSetApply g) s = .next (s.putOff (.lightSetApply g))
    else if s.boot.dev = .full ∧ (if x.cfg.ctrlSrc = 2 then x.openTick else s.illum.valleyTick) = s.now ∧
      (s.test.sink.get g).running = false then
      let due (q : QueuedSet) : Bool := decide (q.at_ = 0) || decide (q.at_ ≤ s.devTime)
      let es := (x.queue.filter due).flatMap (·.entries)
      ∃ t, exec (.lightSetApply g) s = .next t ∧ (t.group g) = { x with queue := x.queue.filter fun q => !due q } ∧
        (∀ k, k ≠ g → t.group k = s.group k) ∧ t.illum.stage = s.illum.stage ∧ t.illum.matrix = s.illum.matrix ∧
        t.axes = s.axes ∧ t.mem = s.mem ∧
        (∀ n, (s.illum.sinks.get n).group ≠ some g → t.illum.sinks.get n = s.illum.sinks.get n) ∧
        ∀ n, (s.illum.sinks.get n).group = some g →
          ((t.illum.sinks.get n).code, (t.illum.sinks.get n).duty) =
            ((es.reverse.find? fun e => e.1 == n).map (·.2)).getD ((s.illum.sinks.get n).code, (s.illum.sinks.get n).duty) ∧
          (t.illum.sinks.get n).apCode = t.applyCode (t.group g) (t.illum.sinks.get n)
    else exec (.lightSetApply g) s = .next s) ∧
  (∀ (s : State) (g : Fin 8) st o rest, (s.group g).strobe = some st → (s.group g).opens = o :: rest → s.boot.dev = .full →
    exec (.strobeWindowOpen g) s = .next (if o ≤ s.devNs + 20 then s.updGroup g fun x => { x with
        opens := rest, openTick := s.now, closeAt := some (max (x.closeAt.getD 0) (o + st.length)),
        windows := satInc 0xFFFFFFFF x.windows, strobe := some { st with left := st.left.map fun n => n - 1 } }
      else s)) ∧
  (∀ (s : State) (g : Fin 8) c, (s.group g).closeAt = some c →
    if c ≤ s.devNs + 20 then
      ∃ t, exec (.strobeWindowClose g) s = .next t ∧ (t.group g).closeAt = none ∧ (∀ k, k ≠ g → t.group k = s.group k) ∧
        (t.group g).strobe = (s.group g).strobe.filter (fun st => decide (st.left ≠ some 0)) ∧
        (∀ n, t.illum.sinks.get n = if (s.illum.sinks.get n).group = some g then { s.illum.sinks.get n with on := false }
          else s.illum.sinks.get n) ∧ t.axes = s.axes ∧ t.mem = s.mem
    else exec (.strobeWindowClose g) s = .next s) ∧
  (∀ (s : State) n (slot : Fin 256) ua mv, let x := s.illum.sinks.get n
    let set (f : Sink → Sink) : State := s.updSink n f
    (∀ g, x.group = some g → exec (.sinkOnInterval n slot true ua mv) s = .next (if s.boot.dev = .full ∧ s.sinkActive x = true ∧
        (if (s.group g).cfg.ctrlSrc = 2 then (s.group g).closeAt ≠ none else 0 < onUnits x.apDuty s.illum.dimUse slot.val) then
        set fun x => { x with on := true, run := true } else s)) ∧
    (x.run = false → exec (.sinkOnInterval n slot false ua mv) s = .next s) ∧
    (x.run = true → ∃ near : Bool,
      (near = true ↔ (ua * 4095 - codeUa x.apCode) * 100 ≤ codeUa x.apCode ∧
        (codeUa x.apCode - ua * 4095) * 100 ≤ codeUa x.apCode) ∧
      exec (.sinkOnInterval n slot false ua mv) s = .next (set fun x => { x with
        on := false, run := false, scanH := some (min (x.scanH.getD mv) mv), scanMax := max x.scanMax ua, scanReg := x.scanReg && near })))

/-! ## The lighting bus (chapter 19) -/

/-- R374, R386, R389: GEAR_CONFIG maps a gear of a free slot to the group it names, or unmaps its own, and answers when the
store has it; E_BUSY for a slot of another group or a second gear on one bus, E_PARAM for a field out of range. A bus that
loses power answers nothing and its gear act at the next valley; when power is back it answers again, in FULL and SHUTDOWN. A
bus under test does neither, nor does a bus without power lose it; LBUS0 comes first in a tick (R386). -/
def Obligations.GearAndBusPower : Prop :=
  (∀ s h ses p, Accepted s h (.gearConfig p) ses → p.bus.toNat ≤ 1 → p.slot.toNat ≤ 7 →
    let g : Fin 8 := Fin.ofNat 8 h.idx.toNat
    let n := gearNum p.bus.toNat p.slot.toNat
    let queued (t : State) (v : Option GearVars) : Prop :=
      t.store.queue = s.store.queue ++ [⟨.gear n v, some (s.ticket h (.gearConfig p) ses), s.now, none⟩]
    let second : Prop := ∃ k e, s.lbus.gear.get k = some e ∧ e.vars.group = g ∧ busOf k = busOf n ∧ k ≠ n
    let other : Prop := ∃ e, s.lbus.gear.get n = some e ∧ e.vars.group ≠ g
    (p.op = 0 → p.curve.toNat ≤ 1 → (p.short.toNat ≤ 63 ∨ p.short = 255) →
      (other ∨ second → Completes (.gearConfig h p) s h 0x4C eBusy [] s) ∧
      (¬ other → ¬ second →
        let v := { GearVars.fresh g (p.curve = 1) (if p.short = 255 then none else some p.short.toNat) with
          sysFail := p.sysFail.toNat, powerOn := p.powerOn.toNat, busGroups := p.groups.toNat }
        ∃ t, exec (.gearConfig h p) s = .next t ∧ queued t (some v) ∧
          t.lbus.gear = bankSet s.lbus.gear n (some { Gear.ofVars v 254 with savedAt := s.now }) ∧ t.illum = s.illum ∧
          t.axes = s.axes ∧ t.mem = s.mem)) ∧
    (p.op = 1 → p.curve = 0 → p.short = 0 → p.sysFail = 0 → p.powerOn = 0 → p.groups = 0 →
      ((∃ e, s.lbus.gear.get n = some e ∧ e.vars.group = g) →
        ∃ t, exec (.gearConfig h p) s = .next t ∧ queued t none ∧ t.lbus.gear = bankSet s.lbus.gear n none ∧
          t.illum = s.illum ∧ t.axes = s.axes ∧ t.mem = s.mem) ∧
      (other ∨ s.lbus.gear.get n = none → Completes (.gearConfig h p) s h 0x4C eParam [] s)) ∧
    (1 < p.op.toNat → Completes (.gearConfig h p) s h 0x4C eParam [] s)) ∧
  (∀ (s : State) (b : Fin 2),
    if s.powerWaits b = true then exec (.lbusPowerLoss b) s = .next (s.putOff (.lbusPowerLoss b)) ∧
      exec (.lbusPowerRestore b) s = .next (s.putOff (.lbusPowerRestore b))
    else if s.underTest (if b = 0 then 6 else 7) = true then
      exec (.lbusPowerLoss b) s = .next s ∧ exec (.lbusPowerRestore b) s = .next s
    else
      ((s.lbus.bus.get b).power = false → (s.lbus.bus.get b).answers = false → exec (.lbusPowerLoss b) s = .next s) ∧
      ((s.lbus.bus.get b).power = true ∨ (s.lbus.bus.get b).answers = true → ∃ t, exec (.lbusPowerLoss b) s = .next t ∧ (t.lbus.bus.get b).power = false ∧ t.busLive b = false ∧
        (t.lbus.bus.get b).powerLoss = satInc 65535 (s.lbus.bus.get b).powerLoss ∧ (t.lbus.bus.get b).answer = none ∧
        (∀ n g, s.lbus.gear.get n = some g → busOf n = b →
          t.lbus.gear.get n = some { g with init := none, withdrawn := false, lossDue := true }) ∧
        (∀ n, busOf n ≠ b → t.lbus.gear.get n = s.lbus.gear.get n) ∧ (∀ c, c ≠ b → t.lbus.bus.get c = s.lbus.bus.get c) ∧
        t.illum = s.illum ∧ t.axes = s.axes ∧ t.mem = s.mem) ∧
      (∃ t, exec (.lbusPowerRestore b) s = .next t ∧ t.lbus.gear = s.lbus.gear ∧
        t.lbus.bus.get b = { s.lbus.bus.get b with
          power := true,
          answers := (s.lbus.bus.get b).answers || decide (s.boot.dev = .full) || decide (s.boot.dev = .shutdown) } ∧
        (∀ c, c ≠ b → t.lbus.bus.get c = s.lbus.bus.get c) ∧ t.illum = s.illum ∧ t.axes = s.axes ∧ t.mem = s.mem))

/-- R372, R376 to R379, part 102 as the log presumes it (notes/assumptions/10): on a bus that answers, DAPC gives every gear
it reaches a target within its limits, reached after its fade time, and stops a fade with 255; UP and DOWN move a gear that is
lit for 200 ms at its fade rate within its limits; fade time and fade rate are stored; the addressing commands act on the gear
of the bus. No other gear changes. Initialisation lasts 15 min and identification 10 s. A bus that does not answer ignores
them all. A master's row gives way to the owners' commands of its tick, and on LBUS0 to LBUS1 (Table 19-9, R385). -/
def Obligations.BusCommandsAct : Prop :=
  (∀ (s : State) i b, busRow i = some b → s.busWaits b = true → exec i s = .next (s.putOff i)) ∧
  (∀ (s : State) (b : Fin 2) (dst : BusAddr), s.busLive b = true → s.busWaits b = false →
    let hears (n : Fin 16) (g : Gear) : Prop := s.lbus.gear.get n = some g ∧ busOf n = b ∧ g.addressed dst = true
    let others (t : State) : Prop := (∀ n, (∀ g, ¬ hears n g) → t.lbus.gear.get n = s.lbus.gear.get n) ∧
      (t.lbus.bus.get b).dt6 = false ∧ t.illum = s.illum ∧ t.axes = s.axes ∧ t.mem = s.mem ∧ t.leases = s.leases
    (∀ level : Byte, ∃ t, exec (.dapc b dst level) s = .next t ∧ others t ∧ ∀ n g, hears n g →
      ∃ g', t.lbus.gear.get n = some g' ∧
        if level = 255 then g'.target = g.actual s.now ∧ g'.fade = none ∧ g'.level = (g.actual s.now : Int) * lvlOne
        else
          let lim := if level = 0 then 0 else max g.vars.minLevel (min g.vars.maxLevel level.toNat)
          g'.target = lim ∧ g'.limitError = decide (level ≠ 0 ∧ lim ≠ level.toNat) ∧ g'.powerCycle = false ∧
            g'.vars = { g.vars with lastActive := if lim = 0 then g.vars.lastActive else lim } ∧
            ∀ k, s.now + fadeTicks g.vars.fadeTime ≤ k → g'.levelAt k = (lim : Int) * lvlOne) ∧
    (∀ up : Bool, ∃ t, exec (if up then .up b dst else .down b dst) s = .next t ∧ others t ∧ ∀ n g, hears n g →
      1 ≤ g.vars.minLevel → g.vars.minLevel ≤ g.vars.maxLevel →
      if g.levelAt s.now ≤ 0 then t.lbus.gear.get n = some g
      else ∃ g', t.lbus.gear.get n = some g' ∧ g'.levelAt s.now = g.levelAt s.now ∧
        ∀ k, s.now + 200 * msTicks ≤ k → g'.levelAt k = clampI (g.vars.minLevel * lvlOne) (g.vars.maxLevel * lvlOne)
          (if up then g.levelAt s.now + rateStep g.vars.fadeRate else g.levelAt s.now - rateStep g.vars.fadeRate)) ∧
    (∀ x : Byte, ∃ t, exec (.fadeTime b dst x) s = .next t ∧ others t ∧ ∀ n g, hears n g →
      ∃ g', t.lbus.gear.get n = some g' ∧ g'.vars = { g.vars with fadeTime := min 15 x.toNat } ∧ g'.target = g.target) ∧
    (∀ x : Byte, ∃ t, exec (.fadeRate b dst x) s = .next t ∧ others t ∧ ∀ n g, hears n g →
      ∃ g', t.lbus.gear.get n = some g' ∧ g'.vars = { g.vars with fadeRate := max 1 (min 15 x.toNat) } ∧ g'.target = g.target) ∧
    (exec (.setExtendedFadeTime b dst) s = .next (s.updBus b fun x =>
      { x with frames := satAdd 65535 x.frames 2, last := none, dt6 := false })) ∧
    (∃ t, exec (.identifyDevice b dst) s = .next t ∧ others t ∧
      ∀ n g, hears n g → t.lbus.gear.get n = some { g with identifyAt := some s.now })) ∧
  (∀ (s : State) (b : Fin 2), s.busLive b = true → s.busWaits b = false →
    (∀ which : Byte, ∃ t, exec (.initialise b which) s = .next t ∧ t.illum = s.illum ∧
      (∀ n, busOf n ≠ b → t.lbus.gear.get n = s.lbus.gear.get n) ∧
      ∀ n g, s.lbus.gear.get n = some g → busOf n = b → t.lbus.gear.get n = some
        (if which = 0 ∨ (which = 255 ∧ g.vars.short = none) ∨
            (which ≠ 255 ∧ which.toNat % 2 = 1 ∧ g.vars.short = some (which.toNat / 2)) then
          { g with init := some s.now, withdrawn := false } else g)) ∧
    (∃ t, exec (.randomise b) s = .next t ∧ (∀ n, busOf n ≠ b → t.lbus.gear.get n = s.lbus.gear.get n) ∧
      t.illum = s.illum ∧ ∀ n g, s.lbus.gear.get n = some g → busOf n = b →
        if g.init = none then t.lbus.gear.get n = some g
        else ∃ g' r, t.lbus.gear.get n = some g' ∧ r < 2 ^ 24 ∧ g'.vars = { g.vars with random := r } ∧ g'.init = g.init) ∧
    (∃ t, exec (.terminate b) s = .next t ∧ (∀ n, busOf n ≠ b → t.lbus.gear.get n = s.lbus.gear.get n) ∧ t.illum = s.illum ∧
      ∀ n g, s.lbus.gear.get n = some g → busOf n = b → t.lbus.gear.get n = some { g with init := none, withdrawn := false }) ∧
    (exec (.enableDeviceType6 b) s = .next (s.updBus b fun x =>
      { x with dt6 := true, frames := satInc 65535 x.frames, last := none }))) ∧
  (∀ (s : State) (b : Fin 2) dst, s.busLive b = false → s.busWaits b = false → ∀ i, i ∈ [Instr.dapc b dst 254, .up b dst, .down b dst, .fadeTime b dst 3,
    .queryStatus b dst, .initialise b 0, .randomise b, .compare b, .terminate b, .identifyDevice b dst, .enableDeviceType6 b] →
    exec i s = .next s) ∧
  (∀ (s : State) n g, s.lbus.gear.get n = some g →
    exec (.identifyEnd n) s = .next (if ∃ a ∈ g.identifyAt.toList, a + 10 * secTicks ≤ s.now then
      s.updGear n fun g => { g with identifyAt := none } else s) ∧
    exec (.initialiseTimeout n) s = .next (if ∃ a ∈ g.init.toList, a + 900 * secTicks ≤ s.now then
      s.updGear n fun g => { g with init := none, withdrawn := false } else s))

/-- R372, R376, R380 to R382: a query is owed one backward frame 7 ms later, the value every gear it reaches answers, a collision
where they differ, nothing where none is reached; the queries of part 207 answer only after ENABLE DEVICE TYPE 6, and SELECT DIMMING
CURVE then acts from the next valley. A forward frame acts as the command its 16 bits spell, one that needs to be sent twice on its
second copy within 100 ms; a framing error is counted. The owed frame goes out once. -/
def Obligations.BusAnswersAct : Prop :=
  (∀ (s : State) (b : Fin 2) (dst : BusAddr), s.busLive b = true → s.busWaits b = false →
    let heard := s.gearAt b dst
    let owes (i : Instr) (f : Fin 16 → Option Nat) : Prop := ∃ t, exec i s = .next t ∧ t.lbus.gear = s.lbus.gear ∧
      t.illum = s.illum ∧ t.axes = s.axes ∧ t.mem = s.mem ∧ (t.lbus.bus.get b).dt6 = false ∧
      ((∀ n ∈ heard, f n = none) → (t.lbus.bus.get b).answer = (s.lbus.bus.get b).answer) ∧
      (∀ v, (∃ n ∈ heard, f n = some v) → (∀ n ∈ heard, f n = some v ∨ f n = none) →
        (t.lbus.bus.get b).answer = some (.value (BitVec.ofNat 8 v), s.now + 7 * msTicks)) ∧
      (∀ n ∈ heard, ∀ k ∈ heard, ∀ v w, f n = some v → f k = some w → v ≠ w →
        (t.lbus.bus.get b).answer = some (.collision, s.now + 7 * msTicks))
    let of (f : Gear → Nat) (n : Fin 16) : Option Nat := (s.lbus.gear.get n).map f
    owes (.queryActualLevel b dst) (of fun g => g.actual s.now) ∧
    owes (.queryStatus b dst) (fun n => some (s.gearStatus n)) ∧
    ((s.lbus.bus.get b).dtr1 = 0 → ∃ t, exec (.readMemoryLocation b dst) s = .next t ∧
      (t.lbus.bus.get b).dtr0 = min 255 ((s.lbus.bus.get b).dtr0 + 1) ∧
      ∀ n, heard = [n] → ∀ v, s.memoryBank0 n (s.lbus.bus.get b).dtr0 = some v →
        (t.lbus.bus.get b).answer = some (.value (BitVec.ofNat 8 v), s.now + 7 * msTicks)) ∧
    (dst = .broadcast → owes (.compare b) fun n => (s.lbus.gear.get n).bind fun g =>
      if g.init ≠ none ∧ g.withdrawn = false ∧ g.vars.random ≤ (s.lbus.bus.get b).search then some 255 else none) ∧
    (if (s.lbus.bus.get b).dt6 = true then
      owes (.queryDimmingCurve b dst) (of fun g => if g.vars.linear = true then 1 else 0) ∧
      owes (.queryGearType b dst) (fun _ => some 0) ∧ owes (.queryPossibleOperatingModes b dst) (fun _ => some 1) ∧
      owes (.queryFeatures b dst) (fun _ => some 0) ∧ owes (.queryFailureStatus b dst) (fun n => some (s.gearFailure n)) ∧
      owes (.queryFastFadeTime b dst) (fun _ => some 0) ∧ owes (.queryMinFastFadeTime b dst) (fun _ => some 0) ∧
      (∀ c : Byte, c.toNat ≤ 1 → ∃ t, exec (.selectDimmingCurve b dst c) s = .next t ∧ t.illum = s.illum ∧
        ∀ n g, s.lbus.gear.get n = some g → t.lbus.gear.get n =
          some (if n ∈ heard then { g with curveNext := some (c == 1) } else g))
    else ∀ i, i ∈ [Instr.queryDimmingCurve b dst, .queryGearType b dst, .queryPossibleOperatingModes b dst, .queryFeatures b dst,
      .queryFailureStatus b dst, .queryFastFadeTime b dst, .queryMinFastFadeTime b dst, .selectDimmingCurve b dst 1] →
      exec i s = .next s)) ∧
  (∀ (s : State) (b : Fin 2) (dst : BusAddr), s.busLive b = true → s.busWaits b = false →
    let x := s.lbus.bus.get b
    let first : Nat := match dst with
      | .short a => 2 * a.val
      | .group k => 128 + 2 * k.val
      | .broadcast => 254
      | .unaddressed => 252
    let frame (a d : Nat) : BitVec 16 := BitVec.ofNat 16 (a * 256 + d)
    let seen (f : BitVec 16) : State := s.updBus b fun x => { x with frames := satInc 65535 x.frames, last := some (f, s.now) }
    let spells (a d : Nat) (i : Instr) : Prop := ∃ t, exec (.lbusForwardFrame b (some (frame a d))) s = .next t ∧
      (t.lbus.bus.get b).last = some (frame a d, s.now) ∧ exec i s = .next (t.updBus b fun x => { x with last := none })
    (∀ level : Byte, spells first level.toNat (.dapc b dst level)) ∧
    spells (first + 1) 0x01 (.up b dst) ∧ spells (first + 1) 0x02 (.down b dst) ∧
    spells (first + 1) 0x90 (.queryStatus b dst) ∧ spells (first + 1) 0xA0 (.queryActualLevel b dst) ∧
    spells (first + 1) 0xC5 (.readMemoryLocation b dst) ∧ spells (first + 1) 0xED (.queryGearType b dst) ∧
    spells (first + 1) 0xEE (.queryDimmingCurve b dst) ∧ spells (first + 1) 0xF1 (.queryFailureStatus b dst) ∧
    spells 0xA1 0 (.terminate b) ∧ spells 0xA9 0 (.compare b) ∧ spells 0xC1 6 (.enableDeviceType6 b) ∧
    (∀ d : Byte, let f := frame 0xA5 d.toNat
      if x.last = some (f, s.now) then ∃ t, exec (.initialise b d) s = .next t ∧
        exec (.lbusForwardFrame b (some f)) s = .next (t.updBus b fun y => { y with frames := satInc 65535 x.frames })
      else x.last = none → exec (.lbusForwardFrame b (some f)) s = .next (seen f)) ∧
    exec (.lbusForwardFrame b none) s = .next (s.updBus b fun x => { x with frameErr := satInc 65535 x.frameErr, last := none })) ∧
  (∀ (s : State) (b : Fin 2) a due, (s.lbus.bus.get b).answer = some (a, due) → s.busLive b = true →
    if due ≤ s.now + 50000 then
      ∃ t, exec (.lbusBackwardFrame b) s = .next t ∧ (t.lbus.bus.get b).answer = none ∧ t.lbus.gear = s.lbus.gear ∧
        match a with
        | .value v => t.out = s.out ++ [Out.backward b (some v)]
        | .collision => t.out = s.out ++ [Out.backward b none] ∧
          (t.lbus.bus.get b).collided = satInc 65535 (s.lbus.bus.get b).collided
    else exec (.lbusBackwardFrame b) s = .next s)

/-! ## The radio coordinator (chapter 20) -/

/-- R408, R412 to R415: RADIO_CONFIG in range starts, stops or changes the coordinator, a new NETID while it runs is E_STATE;
TAG_ADMIT makes a FREE or DROPPED slot PENDING, E_PARAM without ENC, E_BUSY for an address or guaranteed slot in use;
TAG_EXPEL frees the slot, reports its frames discarded and owes an admitted tag one EXPEL; TAG_SEND queues a frame that fits;
TAG_EVENTS_FETCH takes the longest run of whole entries. A field out of range is E_PARAM. -/
def Obligations.RadioCommandsAct : Prop :=
  (∀ s h ses p, Accepted s h (.radioConfig p) ses →
    let c : RadCfg :=
      { mask := p.mask.toNat, startCh := p.startCh.toNat, txDbm := p.txDbm.toInt, interfN := p.interfN.toNat,
        edDbm := p.edDbm.toInt, evmAbort := p.evmAbort.toNat, netId := p.netId.toNat, silentMs := p.silentMs.toNat, en := p.en }
    let fits : Prop := p.mask ≠ 0 ∧ p.startCh.toNat ≤ 15 ∧ p.mask.toNat.testBit p.startCh.toNat = true ∧
      -20 ≤ p.txDbm.toInt ∧ p.txDbm.toInt ≤ 10 ∧ p.interfN ≠ 0 ∧ -90 ≤ p.edDbm.toInt ∧ p.edDbm.toInt ≤ -30 ∧
      50 ≤ p.evmAbort.toNat ∧ p.evmAbort.toNat ≤ 1000 ∧ 10 ≤ p.silentMs.toNat ∧ p.silentMs.toNat ≤ 60000
    let answers (t : State) : Prop := exec (.radioConfig h p) s = .next t ∧ Replied s t h 0x50 stOk [] ∧ t.radio.cfg = c
    (¬ fits → Completes (.radioConfig h p) s h 0x50 eParam [] s) ∧
    (fits → s.radio.cfg.en = true → p.en = true → p.netId.toNat ≠ s.radio.cfg.netId →
      Completes (.radioConfig h p) s h 0x50 eState [] s) ∧
    (fits → s.radio.cfg.en = false → p.en = true → ∃ t, answers t ∧ t.radio.running = false ∧ t.radio.ch = c.startCh ∧
      t.radio.next = none ∧ t.radio.slots = s.radio.slots ∧
      s.devNs + 1000000 ≤ t.radio.startMs * 1000000 ∧ t.radio.startMs * 1000000 < s.devNs + 2000000) ∧
    (fits → s.radio.cfg.en = true → p.en = false → ∃ t, answers t ∧ t.radio.running = false ∧ t.radio.next = none ∧
      ∀ i, (t.rslot i).st = .free ∧ (t.rslot i).sends = [] ∧ (t.rslot i).entries = [] ∧ (t.rslot i).admitTx = none ∧
        (t.rslot i).expelTx = none) ∧
    (fits → s.radio.cfg.en = p.en → (p.en = true → p.netId.toNat = s.radio.cfg.netId) →
      Completes (.radioConfig h p) s h 0x50 stOk [] (s.updRadio fun r => { r with
        cfg := c,
        next := if p.en = true ∧ p.mask.toNat.testBit r.ch = false ∧ r.next = none then some (c.startCh, 3) else r.next }))) ∧
  (∀ s h ses p, Accepted s h (.tagAdmit p) ses →
    let i : Fin 32 := Fin.ofNat 32 h.idx.toNat
    let gs : Option (Fin 8) := if x : p.gslot.toNat < 8 then some ⟨p.gslot.toNat, x⟩ else none
    let fits : Prop := p.long ≠ 0 ∧ p.long.toNat ≠ 2 ^ 64 - 1 ∧ (p.gslot.toNat < 8 ∨ p.gslot = 255) ∧ 1 ≤ p.timeoutS.toNat ∧
      p.timeoutS.toNat ≤ 3600 ∧ h.enc = true
    let idle : Prop := (s.rslot i).st = .free ∨ (s.rslot i).st = .dropped
    let taken : Prop := ∃ k, k ≠ i ∧ (s.rslot k).st ≠ .free ∧
      ((s.rslot k).long = p.long.toNat ∨ (gs ≠ none ∧ (s.rslot k).gslot = gs))
    (¬ fits → Completes (.tagAdmit h p) s h 0x51 eParam [] s) ∧
    (fits → ¬ idle → Completes (.tagAdmit h p) s h 0x51 eState [] s) ∧
    (fits → idle → taken → Completes (.tagAdmit h p) s h 0x51 eBusy [] s) ∧
    (fits → idle → ¬ taken → s.radio.cfg.en = false → Completes (.tagAdmit h p) s h 0x51 eState [] s) ∧
    (fits → idle → ¬ taken → s.radio.cfg.en = true → Completes (.tagAdmit h p) s h 0x51 stAccepted [] (s.updSlot i fun x =>
      { x with st := .pending, rejoin := p.rejoin, gslot := gs, long := p.long.toNat, key := p.key,
               lqi := if x.long = p.long.toNat then x.lqi else 0, lastFc := s.radio.fcOf p.long.toNat,
               heardAt := if x.long = p.long.toNat then x.heardAt else s.now,
               counterMin := p.counterMin.toNat, timeoutAt := some (s.now + p.timeoutS.toNat * secTicks), admitTx := none,
               seq := none, sends := [], joinFailAt := none }))) ∧
  (∀ s h ses, Accepted s h .tagExpel ses →
    let i : Fin 32 := Fin.ofNat 32 h.idx.toNat
    let x := s.rslot i
    (x.st = .free → Completes (.tagExpel h) s h 0x52 eTagAbsent [] s) ∧
    (x.st ≠ .free → ∃ t, exec (.tagExpel h) s = .next t ∧ Replied s t h 0x52 stOk [] ∧ (t.rslot i).st = .free ∧
      (t.rslot i).gslot = none ∧ (t.rslot i).admitTx = none ∧ (t.rslot i).sends = [] ∧
      (t.rslot i).expelTx = (if x.st = .admitted then some (x.long, x.key) else x.expelTx) ∧
      ((x.entries.map (·.length)).sum + 16 * x.sends.length ≤ 4096 → (t.rslot i).entries = x.entries ++ x.sends.map fun q =>
        queueEntry 3 0 q.attempts q.lastAt ([3, 0] ++ le 2 q.ref) []) ∧
      (∀ k, k ≠ i → t.rslot k = s.rslot k) ∧ t.leases = s.leases ∧ t.mem = s.mem ∧ t.tag = s.tag)) ∧
  (∀ s h ses p, Accepted s h (.tagSend p) ses →
    let i : Fin 32 := Fin.ofNat 32 h.idx.toNat
    let x := s.rslot i
    let n := p.data.length
    let room : Prop := x.sends.length < 4 ∧ s.radio.next = none
    (n = 0 ∨ 133 < n → Completes (.tagSend h p) s h 0x53 eParam [] s) ∧
    (1 ≤ n → n ≤ 133 → x.st ≠ .admitted → Completes (.tagSend h p) s h 0x53 eTagAbsent [] s) ∧
    (1 ≤ n → n ≤ 133 → x.st = .admitted → sendLimit s.radio.k < n → Completes (.tagSend h p) s h 0x53 eParam [] s) ∧
    (1 ≤ n → x.st = .admitted → n ≤ sendLimit s.radio.k → ¬ room → Completes (.tagSend h p) s h 0x53 eRadioBusy [] s) ∧
    (1 ≤ n → x.st = .admitted → n ≤ sendLimit s.radio.k → room → Completes (.tagSend h p) s h 0x53 stOk []
      (s.updSlot i fun x => { x with sends := x.sends ++ [⟨p.data, p.ref.toNat, none, 0, 0, 0⟩] }))) ∧
  (∀ s h ses m, Accepted s h (.tagEventsFetch m) ses →
    let i : Fin 32 := Fin.ofNat 32 h.idx.toNat
    let es := (s.rslot i).entries
    if 40 ≤ m.toNat ∧ m.toNat ≤ 4096 then
      ∃ n, n ≤ es.length ∧ (es.take n).flatten.length ≤ 4 * m.toNat ∧
        (n < es.length → 4 * m.toNat < (es.take (n + 1)).flatten.length) ∧
        Completes (.tagEventsFetch h m) s h 0x54 stOk
          (le 2 n ++ [0, 0] ++ le 4 (es.drop n).flatten.length ++ (es.take n).flatten)
          (s.updSlot i fun x => { x with entries := es.drop n })
    else Completes (.tagEventsFetch h m) s h 0x54 eParam [] s)

/-- R397, R399, R401, R404, R409, R417: at a millisecond of device time a coordinator that runs sends the beacon of Table 20-4
on its channel, the events acknowledged in it once; beacons interfered are counted, INTERF_N of them choose the next channel
of the mask, two beacons announce it and the third goes out there. One frame goes out in each contention period, EXPEL before
ADMIT before DATA, with the counter of its first attempt; an acknowledgement of its SEQ ends it, and one of no frame or of
another SEQ is only counted; the fourth attempt without one gives it up. What a switch does at a count past INTERF_N, and that
an admission given up discards what was queued, is the model's choice (log entry 24). -/
def Obligations.BeaconsAct : Prop :=
  (∀ (s : State) ed, s.radio.cfg.en = true → s.boot.dev = .full → s.underTest 8 = false → s.tb.running = true →
    s.tb.msOwed = false → s.tb.msNext * 1000000 ≤ s.devNs → s.radio.startMs ≤ s.devNs / 1000000 →
    let r := s.radio
    let hit : Prop := r.cfg.edDbm < ed ∨ (r.running = true ∧ r.aborted = true)
    let beacon (chsw : Nat) : Bytes :=
      [0, BitVec.ofNat 8 r.bsn] ++ le 2 r.cfg.netId ++ [BitVec.ofNat 8 r.slotAck, BitVec.ofNat 8 chsw, BitVec.ofNat 8 r.k,
        BitVec.ofNat 8 (bitAt 0 r.admitOpen)] ++ le 4 r.pendingBits ++ le 4 (s.devNs / 1000000 % 2 ^ 32) ++ le 2 r.cfg.mask
    let sends (t : State) (ch chsw : Nat) : Prop := exec (.msTick ed true) s = .next t ∧
      t.out = s.out ++ [Out.radio true ch (beacon chsw)] ∧ t.radio.ch = ch ∧ t.radio.bsn = (r.bsn + 1) % 256 ∧
      t.radio.slotAck = 0 ∧ t.radio.running = true ∧ t.radio.served = false ∧ t.radio.slots = r.slots ∧
      t.radio.pendingMask = r.pendingBits ∧ t.radio.kAir = r.k ∧
      t.tb.msNext = s.devNs / 1000000 + 1 ∧ t.timers.get 9 = (s.timers.get 9).restart s.now s.d02
    let run := min 255 (r.interfRun + 1)
    let c := nextChannel r.cfg.mask r.ch
    (r.next = none → ¬ hit → ∃ t, sends t r.ch 0 ∧ t.radio.interfRun = 0 ∧ t.radio.next = none) ∧
    (r.next = none → hit → ∃ t, sends t r.ch 0 ∧ t.radio.interfRun = run ∧ t.radio.switches = r.switches ∧
      t.radio.next = (if c ≠ r.ch ∧ r.cfg.interfN ≤ run then some (c, 3) else none) ∧
      (c ≠ r.ch ∨ r.interfRun + 1 ≠ r.cfg.interfN → t.owners = s.owners)) ∧
    (∀ c, r.next = some (c, 3) → ∃ t, sends t r.ch (c + 32) ∧ t.radio.next = some (c, 2) ∧ t.radio.interfRun = r.interfRun) ∧
    (∀ c, r.next = some (c, 2) → ∃ t, sends t r.ch (c + 16) ∧ t.radio.next = some (c, 1) ∧ t.radio.interfRun = r.interfRun) ∧
    (∀ c, r.next = some (c, 1) →
      ∃ t, sends t c 0 ∧ t.radio.next = none ∧ t.radio.interfRun = 0 ∧ t.radio.switches = satInc 65535 r.switches)) ∧
  (∀ (s : State) ed locked, s.tb.msOwed = false → s.devNs < s.tb.msNext * 1000000 →
    exec (.msTick ed locked) s = .next s) ∧
  (∀ (s : State) evm, exec (.rxEvmAbort evm) s = .next (
    if s.radioLive = true ∧ s.radio.use.evmAbort < evm then s.updRadio fun r =>
      { r with evmAborts := satInc 65535 r.evmAborts, aborted := true, runEvm := max r.runEvm evm } else s)) ∧
  (∀ (s : State) (i : Fin 32), s.radioLive = true → s.radio.running = true → s.radio.served = false →
    s.radio.toServe = some i →
    let x := s.rslot i
    let goes (t : State) (k : Exch) (m : Bytes) : Prop := exec .coordExchange s = .next t ∧
      t.out = s.out ++ [Out.radio true s.radio.ch m] ∧ t.radio.onAir = some (i, k) ∧ t.radio.served = true ∧
      t.radio.lastServed = i.val + 1 ∧ (∀ n, n ≠ i → t.rslot n = s.rslot n) ∧ t.leases = s.leases ∧ t.tag = s.tag
    let fc := s.radio.fc
    (∀ long key, x.expelTx = some (long, key) →
      ∃ t, goes t .expel (coordFrame 5 (i.val + 1) x.txSeq fc long key []) ∧ (t.rslot i).expelTx = none ∧
        t.radio.fc = (fc + 1) % 2 ^ 32) ∧
    (∀ q, x.expelTx = none → x.admitTx = some q →
      let m := q.mpdu.getD (coordFrame 4 (i.val + 1) x.txSeq fc x.long x.key q.payload)
      ∃ t q', goes t .admission m ∧ (t.rslot i).admitTx = some q' ∧ q'.mpdu = some m ∧ q'.attempts = q.attempts + 1 ∧
        t.radio.fc = (if q.mpdu = none then (fc + 1) % 2 ^ 32 else fc)) ∧
    (∀ q qs, x.expelTx = none → x.admitTx = none → x.sends = q :: qs →
      let m := q.mpdu.getD (coordFrame 2 (i.val + 1) x.txSeq fc x.long x.key q.payload)
      ∃ t q', goes t .data m ∧ (t.rslot i).sends = q' :: qs ∧ q'.mpdu = some m ∧ q'.attempts = q.attempts + 1 ∧
        q'.lastAt = s.devNs ∧ t.radio.fc = (if q.mpdu = none then (fc + 1) % 2 ^ 32 else fc))) ∧
  (∀ (s : State) (i : Fin 32) (q : SendQ), let x := s.rslot i
    let holds : Prop := s.holder 5 i.val ≠ 0 ∧ (x.entries.map (·.length)).sum + 16 ≤ 4096
    let told (t : State) (n : Nat) : Prop := (holds → (t.rslot i).entries = x.entries ++
      [queueEntry 3 0 q.attempts q.lastAt ([BitVec.ofNat 8 n, 0] ++ le 2 q.ref) []])
    let others (t : State) : Prop := t.radio.onAir = none ∧ ∀ n, n ≠ i → t.rslot n = s.rslot n
    let live : Prop := s.radioLive = true ∧ s.radio.running = true
    (live → s.radio.onAir = some (i, .admission) → x.admitTx = some q → 0 < q.attempts → q.seq < 256 →
      ∃ t, exec (.ack true (BitVec.ofNat 8 q.seq)) s = .next t ∧ t.radio.onAir = none ∧ (t.rslot i).st = .admitted ∧
        (t.rslot i).seq = none ∧ (t.rslot i).admitTx = none ∧ (t.rslot i).heardAt = s.now ∧
        ∀ n, (∀ m ∈ (t.rslot n).sends, m.payload.length ≤ sendLimit t.radio.k) ∧
          (n ≠ i → (∀ m ∈ (s.rslot n).sends, m.payload.length ≤ sendLimit t.radio.k) → t.rslot n = s.rslot n)) ∧
    (s.radio.onAir = some (i, .admission) → x.admitTx = some q →
      ∃ t, exec .coordAckTimeout s = .next t ∧ others t ∧ t.radio.noAck = satInc 65535 s.radio.noAck ∧
        (if 4 ≤ q.attempts then (t.rslot i).st = .free ∧ (t.rslot i).admitTx = none else t.rslot i = x)) ∧
    (∀ qs n, live → s.radio.onAir = some (i, .data) → x.sends = q :: qs → ∃ t, exec (.ack true n) s = .next t ∧
      t.radio.rxOk = satInc 65535 s.radio.rxOk ∧
      (q.seq = n.toNat → others t ∧ (t.rslot i).sends = qs ∧ told t 0) ∧
      (q.seq ≠ n.toNat → t = s.updRadio fun r => { r with rxOk := satInc 65535 r.rxOk })) ∧
    (∀ n, live → s.radio.onAir = none →
      exec (.ack true n) s = .next (s.updRadio fun r => { r with rxOk := satInc 65535 r.rxOk })) ∧
    (∀ qs, s.radio.onAir = some (i, .data) → x.sends = q :: qs →
      ∃ t, exec .coordAckTimeout s = .next t ∧ others t ∧ t.radio.noAck = satInc 65535 s.radio.noAck ∧
        (if 4 ≤ q.attempts then (t.rslot i).sends = qs ∧ told t 1 else t.rslot i = x)))

/-- R396, R400, R403, R405 to R407, R410, R411: a frame whose CRC fails is counted and discarded; a slot event new in its slot
is acknowledged in the next beacon, raised to the holder and queued, a repeat is only acknowledged and counted; a JOIN that
verifies with a counter above the floor owes an ADMIT, DATA that does is queued; one whose MIC or counter fails is counted; a
contention frame that is its receiver's is acknowledged before any such check. A slot whose time runs out, or whose tag stays
silent, is given up; a frame of the tick of the silence's end acts first. -/
def Obligations.RadioRowsAct : Prop :=
  (∀ (s : State) slot rx, rx.crcOk = false → ∀ i, i ∈ [Instr.join rx, .data rx, .slotEvent slot rx] →
    exec i s = .next (if s.radioLive = true ∧ s.radio.running = true then
      s.updRadio fun r => { r with crcErr := satInc 65535 r.crcErr } else s)) ∧
  (∀ (s : State) slot rx (i : Fin 32), s.radioLive = true → s.radio.running = true → rx.crcOk = true → rx.mpdu.length = 4 →
    (∀ k, ((s.rslot k).st = .admitted ∧ (s.rslot k).gslot = some slot) ↔ k = i) →
    let x := s.rslot i
    let lqi := lqiOf rx.evm
    let seq := (rx.mpdu.getD 1 0).toNat
    let entry := queueEntry 1 lqi seq s.devNs rx.mpdu []
    ∃ t, exec (.slotEvent slot rx) s = .next t ∧ t.radio.slotAck = Nat.lor s.radio.slotAck (2 ^ slot.val) ∧
      t.radio.rxOk = satInc 65535 s.radio.rxOk ∧ (t.rslot i).heardAt = s.now ∧ (t.rslot i).lqi = lqi ∧
      (∀ k, k ≠ i → t.rslot k = s.rslot k) ∧ t.leases = s.leases ∧ t.mem = s.mem ∧
      if x.seq = some seq then t.radio.replay = satInc 65535 s.radio.replay ∧ (t.rslot i).entries = x.entries ∧ t.owners = s.owners
      else
        (t.rslot i).seq = some seq ∧ (t.rslot i).events = satInc 65535 x.events ∧ t.radio.replay = s.radio.replay ∧
        (if (x.entries.map (·.length)).sum + entry.length ≤ 4096 ∧ s.holder 5 i.val ≠ 0 then
          (t.rslot i).entries = x.entries ++ [entry] ∧ (t.rslot i).discarded = x.discarded
        else (t.rslot i).entries = x.entries ∧ (t.rslot i).discarded = satInc 65535 x.discarded) ∧
        ∀ p ses, s.holder 5 i.val = Port.id p → (s.owner p).session = some ses → ses.mask.testBit 0x0C = true →
          s.portDead p = false → (s.owner p).events.length < 256 →
          (t.owner p).events = (s.owner p).events ++ [⟨0x0C, 5, i.val, ses.evSeq, s.eventBody
            ([BitVec.ofNat 8 (i.val + 1), BitVec.ofNat 8 ((rx.mpdu.getD 0 0).toNat % 4 + 1), rx.mpdu.getD 1 0,
              BitVec.ofNat 8 lqi] ++ le 4 (at_ rx.mpdu 2 2) ++ le 4 ((rx.mpdu.getD 0 0).toNat / 4 * 64))⟩]) ∧
  (∀ (s : State) rx (i : Fin 32), s.radioLive = true → s.radio.running = true → rx.crcOk = true → rx.mpdu.length = 23 →
    rx.mpdu.getD 0 0 = 3 → rx.mpdu.getD 1 0 = 255 →
    (∀ k, ((s.rslot k).st ≠ .free ∧ (s.rslot k).long = at_ rx.mpdu 7 8) ↔ k = i) →
    let x := s.rslot i
    let fc := at_ rx.mpdu 3 4
    let opened := Config.ccmOpen x.key (le 8 x.long ++ le 4 fc ++ [2]) 2 (rx.mpdu.take 15) (rx.mpdu.drop 15)
    ∃ t, exec (.join rx) s = .next t ∧ (t.rslot i).st = x.st ∧ (t.rslot i).heardAt = s.now ∧
      (∀ k, k ≠ i → t.rslot k = s.rslot k) ∧
      if opened = none then t.radio.micFail = satInc 65535 s.radio.micFail ∧ (t.rslot i).admitTx = x.admitTx
      else if fc ≤ s.fcFloor x then t.radio.replay = satInc 65535 s.radio.replay ∧ (t.rslot i).admitTx = x.admitTx
      else (t.rslot i).lastFc = fc ∧ (t.rslot i).timeoutAt = none ∧ t.fcFloor (t.rslot i) = fc ∧
        ∃ q, (t.rslot i).admitTx = some q ∧ q.mpdu = none ∧ q.attempts = 0 ∧
          q.payload = [match x.gslot with | some g => BitVec.ofNat 8 g.val | none => 255]) ∧
  (∀ (s : State) rx (i : Fin 32), s.radioLive = true → s.radio.running = true → rx.crcOk = true → 15 ≤ rx.mpdu.length →
    rx.mpdu.getD 0 0 = 2 → (rx.mpdu.getD 1 0).toNat = i.val + 1 →
    let x := s.rslot i
    let fc := at_ rx.mpdu 3 4
    (x.st ≠ .admitted → ∃ t, exec (.data rx) s = .next t ∧ t.radio.slots = s.radio.slots) ∧
    (x.st = .admitted → ∃ t, exec (.data rx) s = .next t ∧ (t.rslot i).heardAt = s.now ∧
      (∀ k, k ≠ i → t.rslot k = s.rslot k) ∧
      match Config.ccmOpen x.key (le 8 x.long ++ le 4 fc ++ [6]) 6 (rx.mpdu.take 7) (rx.mpdu.drop 7) with
      | none => t.radio.micFail = satInc 65535 s.radio.micFail ∧ (t.rslot i).entries = x.entries
      | some payload =>
        if fc ≤ s.fcFloor x then t.radio.replay = satInc 65535 s.radio.replay ∧ (t.rslot i).entries = x.entries
        else
          let entry := queueEntry 2 (lqiOf rx.evm) (rx.mpdu.getD 2 0).toNat s.devNs (le 4 fc) (payload.take 133)
          (t.rslot i).lastFc = fc ∧ t.fcFloor (t.rslot i) = fc ∧
          ((x.entries.map (·.length)).sum + entry.length ≤ 4096 → s.holder 5 i.val ≠ 0 →
            (t.rslot i).entries = x.entries ++ [entry]))) ∧
  (∀ (s : State) who rx, let own : Prop := rx.crcOk = true ∧ s.ackable who rx.mpdu = true
    (own → ∃ t, exec (.ackTx who rx) s = .next t ∧ t.quiet = s.quiet ∧
      t.out = s.out ++ [Out.radio who (if who = true then s.radio.ch else s.ram.channel) [1, rx.mpdu.getD 2 0]]) ∧
    (¬ own → exec (.ackTx who rx) s = .next s)) ∧
  (∀ (s : State) (i : Fin 32), let x := s.rslot i
    let others (t : State) : Prop := (∀ k, k ≠ i → t.rslot k = s.rslot k) ∧ t.leases = s.leases ∧ t.mem = s.mem ∧ t.tag = s.tag
    (if x.st = .pending ∧ ∃ d, x.timeoutAt = some d ∧ d ≤ s.now then
      ∃ t, exec (.admitTimeout i) s = .next t ∧ others t ∧ (t.rslot i).st = .free ∧ (t.rslot i).gslot = none
    else exec (.admitTimeout i) s = .next s) ∧
    (if s.behind bringsFrame = true then exec (.tagSilenceDrop i) s = .next (s.putOff (.tagSilenceDrop i))
    else if x.st = .admitted ∧ x.heardAt + s.radio.use.silentMs * 100000 ≤ s.now ∧ s.radio.cfg.en = true then
      ∃ t, exec (.tagSilenceDrop i) s = .next t ∧ others t ∧ (t.rslot i).sends = [] ∧
        (t.rslot i).st = (if x.rejoin = true then .dropped else .free) ∧
        (s.holder 5 i.val ≠ 0 → (x.entries.map (·.length)).sum + 16 * x.sends.length ≤ 4096 →
          (t.rslot i).entries = x.entries ++ x.sends.map fun q =>
            queueEntry 3 0 q.attempts q.lastAt ([2, 0] ++ le 2 q.ref) [])
    else exec (.tagSilenceDrop i) s = .next s))

/-! ## The LT-2 tag (chapter 21) -/

/-- R422 to R427, R440, R442: the store's voltage and NRST move the tag through the states of Table 21-2 and no others; BOOT
clears RAM and takes FC 256 above the best record; a tag that has heard a beacon since BOOT wakes to JOIN, any other to
search, an expelled one to silence; a record write below 1.95 V or at NRST fails its CRC; a source is sampled once a period.
That the shunt's state stands through BOOT is the model's reading (log entry 29). -/
def Obligations.TagPowerRowsAct : Prop :=
  (∀ (s : State) mv, let next : TagSt :=
      if s.tag.nrst = false then if mv < 1600 then .dead else .cold
      else match s.tag.st with
        | .dead => if mv < 1600 then .dead else if mv < 1900 then .cold else .boot
        | .cold => if mv < 1600 then .dead else if mv < 1900 then .cold else .boot
        | .boot => if mv < 1600 then .dead else .boot
        | .sleep => if mv < 1600 then .dead else if mv < 1950 then .brownout
            else if s.ram.cfg.vWake * 10 ≤ mv then .active else .sleep
        | .active => if s.ram.cfg.vSleep * 10 ≤ mv ∨ s.tagOnAir = true then .active else if mv < 1600 then .dead
            else if mv < 1950 then .brownout else .sleep
        | .brownout => if mv < 1600 then .dead else if mv < 2100 then .brownout
            else if s.ram.cfg.vWake * 10 ≤ mv then .active else .sleep
    let ovp : Bool := if 4100 ≤ mv then true else if mv < 4000 then false else s.ram.ovp
    (s.tagOnAir = true → s.ram.write = none) → s.ram.cfg.vSleep ≤ s.ram.cfg.vWake →
    ∃ t, exec (.tagVstoThreshold mv) s = .next t ∧ TagOnly s t ∧ t.tag.st = next ∧ t.tag.vsto = mv ∧ t.tag.nrst = s.tag.nrst ∧
      t.ram.ovp = ovp ∧ (mv < 1900 ∨ 4100 ≤ mv → t.ram.sampledAt = none) ∧
      (next = .boot → s.tag.st ≠ .boot → t.ram = { TagRam.reset with ovp := ovp }) ∧
      (next = .active → s.tag.st ≠ .active → t.ram.fc = s.ram.fc ∧
        (s.ram.net = .expelled → t.ram.net = .expelled ∧ t.ram.frames = s.ram.frames) ∧
        (s.ram.net ≠ .expelled → s.ram.netId = none → t.ram.net = .search ∧ t.ram.frames = s.ram.dataFrames) ∧
        (s.ram.net ≠ .expelled → s.ram.netId ≠ none → t.ram.net = .joining ∧ t.ram.frames = joinFrame :: s.ram.dataFrames)) ∧
      (next = .sleep → s.tag.st = .active → s.ram.net ≠ .expelled →
        t.ram.net = .none ∧ t.ram.gslot = none ∧ t.ram.verifyAt = none) ∧
      (∀ w, mv < 1950 → s.ram.write = some w → t.tag.cells = bankSet s.tag.cells w.cell (some { w.rec_ with crcOk := false })) ∧
      (1950 ≤ mv ∨ s.ram.write = none → t.tag.cells = s.tag.cells)) ∧
  (∀ (s : State), (∃ t, exec .tagNrstAssert s = .next t ∧ TagOnly s t ∧ t.tag.nrst = false ∧
      t.tag.st = (if s.tag.vsto < 1600 then .dead else .cold) ∧
      (∀ w, s.ram.write = some w → t.tag.cells = bankSet s.tag.cells w.cell (some { w.rec_ with crcOk := false })) ∧
      (s.ram.write = none → t.tag.cells = s.tag.cells)) ∧
    (s.tag.nrst = true → exec .tagNrstRelease s = .next s) ∧
    (s.tag.nrst = false → ∃ t, exec .tagNrstRelease s = .next t ∧ TagOnly s t ∧ t.tag.nrst = true ∧
      (1900 ≤ s.tag.vsto → t.tag.st = .boot ∧ t.ram = { TagRam.reset with ovp := s.ram.ovp }) ∧
      (1600 ≤ s.tag.vsto → s.tag.vsto < 1900 → s.tag.st = .cold → t.tag.st = .cold))) ∧
  (∀ (s : State) ok, let runs : Prop := s.tag.st = .boot ∧ s.tag.nrst = true
    (¬ runs → exec (.tagBootDone ok) s = .next s) ∧
    (runs → ∃ t, exec (.tagBootDone ok) s = .next t ∧ TagOnly s t ∧ t.tag.cells = s.tag.cells ∧ t.tag.banks = s.tag.banks ∧
      t.tag.st = (if s.ram.cfg.vWake * 10 ≤ s.tag.vsto then .active else if 2100 ≤ s.tag.vsto then .sleep else .brownout) ∧
      t.ram.fc = (t.ram.fcSaved + 256) % 2 ^ 32 ∧ t.ram.fwFallback = !ok ∧
      (∀ i c, s.tag.cells.get i = some c → c.crcOk = true → c.fc ≤ t.ram.fcSaved) ∧
      ((t.ram.fcSaved = 0) ∨ ∃ i c, s.tag.cells.get i = some c ∧ c.crcOk = true ∧ t.ram.fcSaved = c.fc ∧ t.ram.floor = c.floor ∧
        t.tag.cold = satInc 65535 c.cold) ∧
      (t.tag.st = .active → s.ram.net ≠ .expelled → s.ram.netId = none →
        t.ram.net = .search ∧ t.ram.frames = s.ram.dataFrames))) ∧
  (∀ (s : State) vib teg, exec (.mpptSample vib teg) s = .next (
    if (s.tag.st = .sleep ∨ s.tag.st = .active) ∧ 1900 ≤ s.tag.vsto ∧ s.ram.ovp = false ∧
      (∀ a, s.ram.sampledAt = some a → a + s.ram.cfg.period * 50000000 ≤ s.now) then
      s.updRam fun r => { r with
        sampledAt := some s.now, vocVib := if r.cfg.vibEn = true then min 65535 vib else r.vocVib,
        vocTeg := if r.cfg.tegEn = true then min 65535 teg else r.vocTeg }
    else s))

/-- R426, R429 to R431, R435: a scan sets each taxel's code, the mask and the peak; two scans at CONTACT_TH make contact, two
below RELEASE_TH end it, SLIP_N scans that move by SLIP_TH are a slip, and REPORT_SF superframes a report where nothing else
waits. One event goes out in a slot, a new slip first, then a repeat, then the queue, then the report, and the next beacon
acknowledges it or it is repeated, eight times at most; a beacon missed acknowledges nothing. Eight beacons missed start a
search of the mask; a beacon found starts a JOIN; an expelled tag goes on in silence. -/
def Obligations.TagSensesAct : Prop :=
  (∀ (s : State) caps, s.tagActive = true → s.ram.gslot ≠ none →
    let r := s.ram
    let good (i : Fin 16) : Prop := 1000 ≤ caps.get i ∧ caps.get i ≤ 40000
    let base (i : Fin 16) : Nat := if (r.taxels.get i).baseSet = true then (r.taxels.get i).base else caps.get i
    let code (i : Fin 16) : Nat :=
      if good i then (clampI 0 4095 (rne ((caps.get i : Int) - base i) 2)).toNat else 0
    let moved : Nat := ((List.finRange 16).map fun i =>
      if good i then code i - r.prev.getD i.val 0 + (r.prev.getD i.val 0 - code i) else 0).sum
    ∃ t, exec (.taxelScan caps) s = .next t ∧ TagOnly s t ∧ t.tag.st = .active ∧ t.ram.cfg = r.cfg ∧ t.ram.prev.length = 16 ∧
      (∀ i, (t.ram.taxels.get i).code = code i ∧ ((t.ram.taxels.get i).failed = true ↔ ¬ good i) ∧
        t.ram.prev[i.val]? = some (code i) ∧ code i ≤ t.ram.peak ∧
        (t.ram.mask.testBit i.val = true ↔ good i ∧ r.cfg.contactTh ≤ code i) ∧
        (good i → r.contact = true ∨ r.scans + 1 < 64 → (t.ram.taxels.get i).base = base i)) ∧
      (∃ i, code i = t.ram.peak) ∧
      (r.contact = false → t.ram.contact = decide (1 ≤ r.hiRun ∧ ∃ i, r.cfg.contactTh ≤ code i)) ∧
      (r.contact = false → t.ram.contact = true → r.queue.length < 8 →
        t.ram.queue = r.queue ++ [⟨0, t.ram.peak, t.ram.mask, none, 0⟩]) ∧
      (r.contact = true → t.ram.contact = !decide (1 ≤ r.loRun ∧ ∀ i, code i < r.cfg.releaseTh)) ∧
      (r.contact = true → t.ram.contact = false → r.queue.length < 8 →
        t.ram.queue = r.queue ++ [⟨1, t.ram.peak, t.ram.mask, none, 0⟩]) ∧
      (r.prev.length = 16 → r.contact = true → r.cfg.slipTh ≤ moved → r.cfg.slipN ≤ r.slipRun + 1 → r.slipArmed = true →
        t.ram.slip = some ⟨2, t.ram.peak, t.ram.mask, none, 0⟩ ∧ (t.ram.contact = true → t.ram.slipArmed = false)) ∧
      (r.prev.length = 16 → r.cfg.slipN ≠ 0 → moved < r.cfg.slipTh → t.ram.slip = r.slip ∧ t.ram.slipArmed = true) ∧
      (r.prev.length = 16 → r.cfg.slipN ≠ 0 → r.contact = true → t.ram.contact = true → moved < r.cfg.slipTh → r.slip = none → r.queue = [] →
        r.retry = [] → r.sent = none → r.cfg.reportSf ≠ 0 → r.cfg.reportSf ≤ r.reportIn + 1 →
        t.ram.report = some ⟨3, t.ram.peak, t.ram.mask, none, 0⟩)) ∧
  (∀ (s : State) caps, s.tagActive = false → exec (.taxelScan caps) s = .next s) ∧
  (∀ (s : State) (g : Fin 8), s.tagActive = true → s.ram.net = .admitted → s.ram.gslot = some g → s.ram.sent = none →
    let r := s.ram
    let frame (e : TagEvent) (q : Nat) : Bytes := [BitVec.ofNat 8 (e.kind + e.peak / 64 * 4), BitVec.ofNat 8 q] ++ le 2 e.mask
    let sends (e : TagEvent) (q : Nat) (left : TagRam) : Prop := ∃ t, exec .tagSlotEventTx s = .next t ∧ TagOnly s t ∧
      t.out = s.out ++ [Out.radio false r.channel (frame e q)] ∧
      t.ram = { left with seq := q, sent := some { e with seq := some q, attempts := e.attempts + 1 }, sentAt := s.now }
    let fresh (left : TagRam) : TagRam := { left with nextSeq := (r.nextSeq + 1) % 256, evSent := satInc 65535 r.evSent }
    let one (l : List TagEvent) : Prop := ∀ e ∈ l, e.attempts = 0
    (∀ e, r.slip = some e → one [e] → sends e r.nextSeq (fresh { r with slip := none })) ∧
    (∀ e es q, r.slip = none → r.retry = e :: es → e.seq = some q → sends e q { r with retry := es }) ∧
    (∀ e es, r.slip = none → r.retry = [] → r.queue = e :: es → one [e] → sends e r.nextSeq (fresh { r with queue := es })) ∧
    (∀ e, r.slip = none → r.retry = [] → r.queue = [] → r.report = some e → one [e] →
      sends e r.nextSeq (fresh { r with report := none })) ∧
    (r.slip = none → r.retry = [] → r.queue = [] → r.report = none → exec .tagSlotEventTx s = .next s)) ∧
  (∀ (s : State) (g : Fin 8) e, s.tagActive = true → s.ram.net = .admitted → s.ram.gslot = some g → s.ram.sent = some e →
    e.attempts < 9 → exec .tagSlotEventTx s =
      if s.ram.sentAt + 50000 ≤ s.now then exec .tagSlotEventTx (s.updRam TagRam.unacked) else .next s) ∧
  (∀ (s : State) b, s.tagActive = true → (∀ n, s.ram.netId = some n → n = b.netId.toNat) →
    let r := s.ram
    ∃ t, exec (.tagBeaconRx b) s = .next t ∧ TagOnly s t ∧ t.ram.netId = some b.netId.toNat ∧ t.ram.chanMask = b.chanMask.toNat ∧
      t.ram.kHeld = b.k ∧ t.ram.sent = none ∧
      t.ram.countdown = (if b.count = 0 then none else some (b.next.toNat, b.count.toNat)) ∧
      (r.net = .search → t.ram.net = .joining ∧ t.ram.frames = joinFrame :: r.dataFrames ∧ t.ram.channel = r.searchCh) ∧
      (r.net ≠ .search → t.ram.net = r.net ∧ t.ram.frames = r.frames ∧
        (∀ c n, r.countdown = some (c, n) → b.count = 0 → t.ram.channel = c) ∧
        (r.countdown = none ∨ b.count ≠ 0 → t.ram.channel = r.channel)) ∧
      (∀ e, r.sent = some e →
        if ∃ g, r.gslot = some g ∧ b.slotAck.getLsbD g.val = true then t.ram.heardAt = s.now ∧ t.ram.retry = r.retry
        else if 9 ≤ e.attempts then t.ram.retry = r.retry ∧ t.ram.evDrop = satInc 65535 r.evDrop
        else t.ram.retry = r.retry ++ [e] ∧ t.ram.evDrop = r.evDrop)) ∧
  (∀ (s : State) b n, s.tagActive = false ∨ (s.ram.netId = some n ∧ n ≠ b.netId.toNat) →
    exec (.tagBeaconRx b) s = .next s) ∧
  (∀ (s : State), s.tagActive = true → let r := s.ram
    (r.net ≠ .search → ∃ t, exec .tagBeaconSearch s = .next t ∧ TagOnly s t ∧
      (if r.net = .expelled then t.ram.net = .expelled ∧ t.ram.frames = r.frames
        else t.ram.net = .search ∧ t.ram.frames = r.dataFrames ∧ t.ram.gslot = none) ∧
      t.ram.beaconMiss = satInc 65535 r.beaconMiss ∧ t.ram.dwellFrom = s.now ∧ t.ram.fc = r.fc ∧
      ∀ c, c < 16 → r.chanMask.testBit c = true → r.chanMask.testBit t.ram.searchCh = true ∧ t.ram.searchCh ≤ c) ∧
    (r.net = .search → exec .tagBeaconSearch s = .next s ∧ exec .tagSearchDwellEnd s = .next (
      if r.dwellFrom + 120000 ≤ s.now then
        s.updRam fun r => { r with searchCh := nextChannel r.chanMask r.searchCh, dwellFrom := s.now } else s)))

/-- R427, R428, R432 to R434, R441: a frame is built once, with the present FC, and repeated unchanged; FC then rises by one;
before a counter that is a multiple of 256 the record is written into the older cell, which takes 2 ms and 2.1 V, and the
frame waits. An attempt that fails raises the backoff to 5 at most, the fourth drops a DATA frame or makes a JOIN wait 16 to
255 superframes; an acknowledged JOIN waits 64 superframes for its ADMIT. A tag not heard for HEARD_MS sends a report. -/
def Obligations.TagSendsAct : Prop :=
  (∀ (s : State) clear f fs, s.tagActive = true → s.ram.frames = f :: fs → f.onAir = false → s.ram.write = none →
    s.ram.net.lets f = true →
    let r := s.ram
    let c := Config.tagRandom s.draws % 2 ^ r.be
    let mustSave : Prop := f.mpdu = none ∧ r.fc % 256 = 0 ∧ r.fcSaved ≠ r.fc
    (r.fcFail = true → exec (.tagContentionTx clear) s = .next s) ∧
    (r.fcFail = false → mustSave → s.tag.vsto < 2100 → exec (.tagContentionTx clear) s = .next s) ∧
    (r.fcFail = false → mustSave → 2100 ≤ s.tag.vsto → ∃ t w, exec (.tagContentionTx clear) s = .next t ∧ TagOnly s t ∧
      t.ram = { r with write := some w } ∧ w.rec_ = ⟨r.fc, r.floor, s.tag.cold, true⟩ ∧ w.startAt = s.now ∧ w.second = false ∧
      ∀ a b, s.tag.cells.get w.cell = some a → s.tag.cells.get (w.cell + 1) = some b → a.crcOk = true → b.crcOk = true ∧ a.fc ≤ b.fc) ∧
    (r.fcFail = false → ¬ mustSave →
      (clear = true → exchangeFits r.kHeld c f.len = true → ∃ t g, exec (.tagContentionTx clear) s = .next t ∧ TagOnly s t ∧
        t.ram.frames = g :: fs ∧ g.onAir = true ∧ g.attempts = f.attempts ∧ g.mpdu = some (f.mpdu.getD (s.firstAttempt f)) ∧
        t.out = s.out ++ [Out.radio false r.channel (f.mpdu.getD (s.firstAttempt f))] ∧
        t.ram.fc = (if f.mpdu = none then (r.fc + 1) % 2 ^ 32 else r.fc)) ∧
      (clear = false ∨ exchangeFits r.kHeld c f.len = false → ∃ t, exec (.tagContentionTx clear) s = .next t ∧ TagOnly s t ∧
        t.out = s.out ∧ t.ram.fc = r.fc ∧ (f.attempts < 3 → t.ram.be = min 5 (r.be + 1) ∧
          t.ram.frames = { f with attempts := f.attempts + 1, onAir := false } :: fs)))) ∧
  (∀ (s : State) f fs, s.tagActive = true → s.ram.frames = f :: fs → f.onAir = true → s.ram.cfg.vSleep * 10 ≤ s.tag.vsto →
    let r := s.ram
    (∃ t, exec .tagAckTimeout s = .next t ∧ TagOnly s t ∧ t.out = s.out ∧ t.tag.st = .active ∧
      if f.attempts < 3 then t.ram.frames = { f with attempts := f.attempts + 1, onAir := false } :: fs ∧
        t.ram.be = min 5 (r.be + 1) ∧ t.ram.net = r.net ∧ t.ram.noAck = r.noAck
      else if f.join = true then t.ram.frames = r.dataFrames ∧
        ∃ d, t.ram.net = .backoff (s.now + d * 100000) ∧ 16 ≤ d ∧ d ≤ 255
      else t.ram.frames = fs ∧ t.ram.be = 3 ∧ t.ram.noAck = satInc 65535 r.noAck ∧ t.ram.net = r.net) ∧
    (f.seq < 256 → ∃ t, exec (.ack false (BitVec.ofNat 8 f.seq)) s = .next t ∧ TagOnly s t ∧
      if f.restart = true then t.tag.st = .boot ∧ t.ram = { TagRam.reset with ovp := r.ovp }
      else t.ram.frames = fs ∧ t.ram.be = 3 ∧ t.ram.heardAt = s.now ∧
        t.ram.net = if f.join = true then .awaitAdmit (s.now + 6400000) else r.net)) ∧
  (∀ (s : State), let joins : State := s.updRam fun r => { r with net := .joining, frames := joinFrame :: r.dataFrames, be := 3 }
    (∀ d, s.ram.net = .backoff d → exec .joinBackoffEnd s = .next (if d ≤ s.now then joins else s)) ∧
    (∀ d, s.ram.net = .awaitAdmit d → exec .admitWaitTimeout s = .next (if d ≤ s.now then joins else s))) ∧
  (∀ (s : State), s.tagActive = true → s.ram.net = .admitted →
    if s.ram.heardAt + s.ram.cfg.heardMs * 100000 ≤ s.now then
      (∀ g, s.ram.gslot = some g → exec .heardTimeout s = .next (s.updRam fun r => { r with report := some ⟨3, 0, 0, none, 0⟩ })) ∧
      (s.ram.gslot = none → ∃ f, exec .heardTimeout s = .next (s.updRam fun r => { r with frames := r.frames ++ [f] }) ∧
        f.join = false ∧ f.mpdu = none ∧ f.payload =
          [0x40, 0, 4, 0] ++ le 2 s.tag.vsto ++ [0, 0] ++ le 4 s.ram.fc)
    else exec .heardTimeout s = .next s) ∧
  (∀ (s : State) w, s.ram.write = some w →
    let torn := some { w.rec_ with crcOk := false }
    (s.now < w.startAt + 200000 → ∀ ok, exec (.fcRecordWriteDone ok) s = .next s) ∧
    (w.startAt + 200000 ≤ s.now →
      (∃ t, exec (.fcRecordWriteDone true) s = .next t ∧ TagOnly s t ∧ t.tag.cells = bankSet s.tag.cells w.cell (some w.rec_) ∧
        t.ram = { s.ram with write := none, fcSaved := w.rec_.fc }) ∧
      ∃ t, exec (.fcRecordWriteDone false) s = .next t ∧ TagOnly s t ∧ t.tag.cells = bankSet s.tag.cells w.cell torn ∧
        t.ram = (if w.second = true then { s.ram with write := none, fcFail := true }
          else { s.ram with write := some { w with cell := w.cell + 1, second := true, startAt := s.now } })))

/-- R428, R433, R436, R437: an ADMIT that verifies with a counter above the floor gives the tag its short address and slot, an
EXPEL silences it; a command acts once, its counter becoming the floor, and queues its reply with the ID; READ and WRITE keep
to the map and the ranges, a WRITE writes all or none, and one of V_SLEEP above the store's voltage puts the tag to sleep;
FW_WRITE extends the idle bank in sequence, FW_COMMIT verifies it and only a good image is committed; RESTART waits for its
acknowledgement. -/
def Obligations.TagFramesAct : Prop :=
  (∀ (s : State) (m : Bytes), s.tagActive = true → let r := s.ram
    let fc := at_ m 3 4
    let opened := Config.ccmOpen s.tag.key (le 8 s.tag.long ++ le 4 fc ++ [0x86]) 6 (m.take 7) (m.drop 7)
    (r.net = .admitted ∨ (∃ d, r.net = .awaitAdmit d) → m.length = 16 → m.getD 0 0 = 4 → r.floor < fc →
      match opened with
      | none => exec (.admitFrame m) s = .next s
      | some p => ∃ t, exec (.admitFrame m) s = .next t ∧ TagOnly s t ∧ t.out = s.out ∧ t.ram.net = .admitted ∧
        t.ram.short = (m.getD 1 0).toNat ∧ t.ram.floor = fc ∧ t.ram.nextSeq = 0 ∧ t.ram.fc = r.fc ∧ t.ram.cfg = r.cfg ∧
        (∀ g : Fin 8, (p.getD 0 255).toNat = g.val → t.ram.gslot = some g) ∧
        (8 ≤ (p.getD 0 255).toNat → t.ram.gslot = none) ∧
        t.tag.svnMin = max s.tag.svnMin (s.tag.banks.get s.tag.running).svn) ∧
    (fc ≤ r.floor → exec (.admitFrame m) s = .next s ∧ exec (.expel m) s = .next s) ∧
    (r.net = .admitted → m.length = 15 → m.getD 0 0 = 5 → (m.getD 1 0).toNat = r.short → r.floor < fc →
      if opened = none then exec (.expel m) s = .next s
      else ∃ t, exec (.expel m) s = .next t ∧ TagOnly s t ∧ t.out = s.out ∧ t.ram.net = .expelled ∧ t.ram.floor = fc ∧
        t.ram.frames = [] ∧ t.ram.gslot = none)) ∧
  (∀ (s : State) (c : TagCmdRx) addr count vs v off img len,
    s.tagActive = false ∨ s.ram.net ≠ .admitted ∨ c.fc.toNat ≤ s.ram.floor →
    ∀ i, i ∈ [Instr.read c addr count, .write c addr vs, .tcntClr c v, .fwWrite c off img, .tagFwCommit c len, .restart c] →
      exec i s = .next s) ∧
  (∀ (s : State) (c : TagCmdRx), s.tagActive = true → s.ram.net = .admitted → s.ram.floor < c.fc.toNat →
    let s1 := s.updRam fun r => { r with floor := c.fc.toNat }
    let after (u : State) (cmd st : Nat) (vals : Bytes) (restart : Bool) : State :=
      let p : Bytes := [BitVec.ofNat 8 cmd, c.id, BitVec.ofNat 8 st, 0] ++ vals
      let long : Prop := sendLimit s.ram.kHeld < p.length
      u.updRam fun r => { r with frames := r.frames ++
        [⟨false, if long then [BitVec.ofNat 8 cmd, c.id, 4, 0] else p, none, 0, 0, false, if long then false else restart⟩] }
    let inMap (a n : Nat) : Prop := a % 4 = 0 ∧ 1 ≤ n ∧ n ≤ 28 ∧ a + 4 * n ≤ 0x110
    (∀ (addr : BitVec 16) (n : Byte), exec (.read c addr n) s = .next (
      if inMap addr.toNat n.toNat then
        after s1 0x81 0 (((List.range n.toNat).map fun k => le 4 (tagRead s1 (addr.toNat + 4 * k))).flatten) false
      else after s1 0x81 2 [] false)) ∧
    (∀ (addr : BitVec 16) vs,
      let ok : Prop := ∀ k v, vs[k]? = some v → tagCheck (addr.toNat + 4 * k) (BitVec.toNat v) = true
      (¬ inMap addr.toNat vs.length → exec (.write c addr vs) s = .next (after s1 0x82 2 [] false)) ∧
      (inMap addr.toNat vs.length → ¬ ok → exec (.write c addr vs) s = .next (after s1 0x82 3 [] false)) ∧
      (inMap addr.toNat vs.length → ok → ∃ t, exec (.write c addr vs) s = .next t ∧ TagOnly s t ∧
        t.tag.cells = s.tag.cells ∧ t.tag.banks = s.tag.banks ∧
        (s.tagOnAir = true ∨ (s.ram.cfg.vSleep * 10 ≤ s.tag.vsto ∧
            ∀ k v, vs[k]? = some v → addr.toNat + 4 * k = 0x024 → BitVec.toNat v % 512 * 10 ≤ s.tag.vsto) →
          t.tag.st = .active ∧ t.ram.frames = (after s1 0x82 0 [] false).ram.frames ∧ t.ram.fc = s.ram.fc ∧
            t.ram.net = s.ram.net)) ∧
      (∀ v, addr.toNat = 0x024 → vs = [v] → tagCheck 0x024 v.toNat = true →
        (v.toNat % 512 * 10 ≤ s.tag.vsto → exec (.write c addr vs) s = .next (
          after (s1.updRam fun r => { r with cfg := { r.cfg with vSleep := v.toNat % 512, vWake := v.toNat / 65536 % 512 } })
            0x82 0 [] false)) ∧
        (s.tag.vsto < v.toNat % 512 * 10 → s.tagOnAir = false → ∃ t, exec (.write c addr vs) s = .next t ∧
          t.tag.st = if s.tag.vsto < 1600 then .dead else if s.tag.vsto < 1950 then .brownout else .sleep))) ∧
    (∀ v : Word, exec (.tcntClr c v) s = .next (State.tagPower (after (if v.getLsbD 0 = true then
      s1.updRam fun r => { r with evSent := 0, evDrop := 0, noAck := 0, brownouts := 0, beaconMiss := 0 } else s1) 0x82 0 [] false))) ∧
    (∀ (off : Word) img, exec (.fwWrite c off img) s = .next (
      if s.tag.vsto < s.ram.cfg.vWake * 10 then after s1 0x90 5 [] false
      else if (off.toNat = s.tag.written ∨ off = 0) ∧ off.toNat + img.length ≤ 65536 then
        after (s1.updTag fun t => { t with
          banks := bankUpd t.banks (t.running + 1) fun b => { b with bytes := b.bytes.take off.toNat ++ img },
          written := off.toNat + img.length }) 0x90 0 [] false
      else after s1 0x90 7 [] false)) ∧
    (∀ len : Word, exec (.tagFwCommit c len) s = .next (
      if s.tag.vsto < s.ram.cfg.vWake * 10 then after s1 0x91 5 [] false
      else if len.toNat = s.tag.written then
        s1.updRam fun r => { r with verifyAt := some s.now, verifyId := c.id.toNat }
      else after s1 0x91 7 [] false)) ∧
    exec (.restart c) s = .next (after s1 0xA0 0 [] true)) ∧
  (∀ (s : State), (s.ram.verifyAt = none → exec .tagFwVerifyDone s = .next s) ∧
    ∀ a, s.ram.verifyAt = some a → ∃ t, exec .tagFwVerifyDone s = .next t ∧ TagOnly s t ∧ t.ram.verifyAt = none ∧
      t.tag.svnMin = s.tag.svnMin ∧ t.tag.running = s.tag.running ∧
      let parsed := Config.parseImage ((s.tag.banks.get (s.tag.running + 1)).bytes.take s.tag.written)
      let good : Prop := ∃ i, parsed = some i ∧ i.sigOk = true ∧ i.index = 5 ∧ i.keyDigest ∈ Config.fwKeyDigests ∧
        s.tag.svnMin ≤ i.svn.toNat ∧ ∃ e ∈ i.manifest, e.subject.toNat < 0x10 ∧ e.value.toNat % 256 = 0xA1
      (good → (t.tag.banks.get (s.tag.running + 1)).committed = true ∧ (t.tag.banks.get s.tag.running).committed = false) ∧
      (¬ good → t.tag.banks = s.tag.banks))

/-! ## Ports (chapters 5 and 6) -/

/-- R91, R123 to R125, R129, R147: a host that reaches BAR0 writes ring pointers and, with EN clear, ring addresses and sizes;
clearing EN forgets the ring positions. An entry fetched with a packet in order makes its command wait for the end of the
tick; one that breaks the ring rules gets a CQ entry that says so. A ring error clears EN; PERST_N resets HPA and ends its
owner's session, its leases stay. -/
def Obligations.HpaRowsAct : Prop :=
  (∀ (s : State) (v : Word), let up : Prop := s.boot.step ≠ .held ∧ s.hpa.linkUp = true ∧ s.underTest 0 = false
    let x := v.toNat
    (up → exec (.sqTailWrite v) s = .next (s.updHpa fun h => { h with sqTail := x % 4096 }) ∧
      exec (.cqHeadWrite v) s = .next (s.updHpa fun h => { h with cqHead := x % 4096 }) ∧
      exec (.eqHeadWrite v) s = .next (s.updHpa fun h => { h with eqHead := x % 4096 }) ∧
      (v.getLsbD 0 = true → exec (.hpaCtrlWrite 0 v) s = .next (s.updHpa fun h => { h with en := true })) ∧
      (v.getLsbD 0 = false → s.hpa.en = true → exec (.hpaCtrlWrite 0 v) s = .next (s.updHpa fun h =>
        { h with en := false, epoch := h.epoch + 1, sqTail := 0, cqHead := 0, eqHead := 0, sqPos := 0, cqPos := 0, eqPos := 0,
                 cqOwed := 0 })) ∧
      exec (.hpaCtrlWrite 4 v) s = .next (s.updHpa fun h => { h with ringErr := h.ringErr && !v.getLsbD 1 }) ∧
      (s.hpa.en = true → ∀ o, o ∈ [0x10, 0x14, 0x18, 0x1C, 0x20, 0x24, 0x28] →
        exec (.hpaCtrlWrite (BitVec.ofNat 32 o) v) s = .next s) ∧
      (s.hpa.en = false → ∃ t, exec (.hpaCtrlWrite 0x28 v) s = .next t ∧
        t.hpa.sqLog = (if 4 ≤ x % 16 ∧ x % 16 ≤ 12 then x % 16 else s.hpa.sqLog) ∧
        t.hpa.cqLog = (if 4 ≤ x / 256 % 16 ∧ x / 256 % 16 ≤ 12 then x / 256 % 16 else s.hpa.cqLog) ∧
        t.hpa.eqLog = (if 4 ≤ x / 65536 % 16 ∧ x / 65536 % 16 ≤ 12 then x / 65536 % 16 else s.hpa.eqLog) ∧
        t.hpa.en = false ∧ t.owners = s.owners)) ∧
    (¬ up → ∀ o, exec (.sqTailWrite v) s = .next s ∧ exec (.cqHeadWrite v) s = .next s ∧ exec (.eqHeadWrite v) s = .next s ∧
      exec (.hpaCtrlWrite o v) s = .next s)) ∧
  (∀ s entry packet ses, s.sqReady = true →
    let ix := s.hpa.sqPos % 2 ^ s.hpa.sqLog
    let len := at_ entry 8 4
    let via := Carriage.ring (s.hpa.slot ix) (at_ entry 12 4) (at_ entry 16 8)
    (sqEntryOk entry = true → len = (packet.take len).length → PacketOk s 0 via (packet.take len) ses →
      ∃ t, exec (.hpaSqFetch entry packet) s = .next t ∧ t.hpa.sqPos = s.hpa.sqPos + 1 ∧
        ∀ c, PacketSays s 0 via (packet.take len) c ses → PacketTaken s t 0 via (packet.take len) c ses ∧ t.out = s.out ∧
          t.hpa = { s.hpa with sqPos := s.hpa.sqPos + 1, cqOwed := s.hpa.cqOwed + 1 }) ∧
    (sqEntryOk entry = false → s.hpa.cqOwed = 0 → ∃ t, exec (.hpaSqFetch entry packet) s = .next t ∧
      t.arrivals = s.arrivals ∧ t.owners = s.owners ∧ t.hpa.sqPos = s.hpa.sqPos + 1 ∧ t.hpa.cqPos = s.hpa.cqPos + 1 ∧
      t.hpa.cqOwed = 0 ∧ Out.completion (s.hpa.cqPos % 2 ^ s.hpa.cqLog)
        (le 2 ix ++ le 2 (ringPhase s.hpa.cqPos (2 ^ s.hpa.cqLog) + 2) ++ le 4 0 ++ le 8 (at_ entry 16 8)) ∈ t.out)) ∧
  (∀ s entry packet, s.sqReady = false → exec (.hpaSqFetch entry packet) s = .next s) ∧
  (∀ s : State, if s.barUp = true ∧ s.hpa.en = true then
      ∃ t, exec .hpaRingError s = .next t ∧ t.hpa = { s.hpa with
          ringErr := true, en := false, epoch := s.hpa.epoch + 1, sqTail := 0, cqHead := 0, eqHead := 0, sqPos := 0, cqPos := 0,
          eqPos := 0, cqOwed := 0 } ∧ t.out = s.out ∧ t.leases = s.leases ∧ (∀ p, p ≠ 0 → t.owner p = s.owner p) ∧
        ∀ ses, (s.owner 0).session = some ses → ses.mask.testBit 0x12 = true → (s.owner 0).events.length < 256 →
          s.portDead 0 = false → ∃ e, (t.owner 0).events = (s.owner 0).events ++ [e] ∧ e.code = 0x12
    else exec .hpaRingError s = .next s) ∧
  (∀ s : State, ∃ t, exec .pciePerstN s = .next t ∧
    t.hpa = { Hpa.reset with perstN := false, epoch := s.hpa.epoch + 1 } ∧
    ((s.owner 0).session ≠ none → (t.owner 0).session = none ∧ (t.owner 0).events = []) ∧
    (∀ x, t.boot.stage = some x → x.port ≠ 0) ∧ (∀ p, p ≠ 0 → t.owner p = s.owner p) ∧ t.leases = s.leases ∧ t.axes = s.axes ∧
    t.mem = s.mem ∧ t.out = s.out) ∧
  (∀ s : State,
    exec .pcieLinkUp s = .next (if s.boot.step ≠ .held ∧ s.underTest 0 = false then
      s.updHpa fun h => { h with linkUp := true, perstN := true } else s) ∧
    ∃ t, exec .pcieLinkDown s = .next t ∧ t.hpa = { s.hpa with linkUp := false } ∧ t.owners = s.owners ∧ t.leases = s.leases ∧
      (∀ x, t.boot.stage = some x → x.port ≠ 0) ∧ t.axes = s.axes)

/-- R92 to R97, R106: a packet in order that arrives on HPB, SFP or MNT makes its command wait for the end of the tick; a
datagram that is fragmented, too large or not the device's own is dropped (which VLAN tag a frame must have: log entry 35), an
SFP frame whose CRC fails and an MNT frame that does not decode are counted. SFP fragments out of sequence are counted and
dropped, a repeat of the last frame changes nothing. ARP and ICMP echo for the port's address are answered; new network
settings come in force; SFP's loss stops every axis where LOSS_STOP asks. -/
def Obligations.LinkRowsAct : Prop :=
  (∀ (s : State) (rx : IpRx) port frag n b, let ip := rx.src
    let mine : Prop := s.portTakes 1 = true ∧ s.frameTaken rx.eth = true ∧ rx.dst = s.net.inForce.hpbIp
    (∀ ses, mine → frag = false → n ≤ s.net.inForce.mtu → b.length + 28 ≤ s.net.inForce.mtu → PacketOk s 1 (.udp ip port) b ses →
      ∃ t, exec (.hpbDatagramRx rx port frag n b) s = .next t ∧ t.net = s.net ∧ t.hpa = s.hpa ∧
        ∀ c, PacketSays s 1 (.udp ip port) b c ses → PacketTaken s t 1 (.udp ip port) b c ses ∧ t.out = s.out) ∧
    (¬ mine ∨ frag = true ∨ s.net.inForce.mtu < n ∨ s.net.inForce.mtu < b.length + 28 ∨ b.length < 32 →
      exec (.hpbDatagramRx rx port frag n b) s = .next s)) ∧
  (∀ (s : State) (f : EthRx), let own := s.net.inForce
    (f.vlan.isSome = own.vlanEn → (∀ v, f.vlan = some v → v.toNat = own.vid) →
      f.dst = fit 6 s.otp.mac ∨ f.dst = List.replicate 6 0xFF → s.frameTaken f = true) ∧
    (f.vlan.isSome ≠ own.vlanEn ∨ (∃ v, f.vlan = some v ∧ v.toNat ≠ own.vid) → s.frameTaken f = false)) ∧
  (∀ (s : State) (rx : ArpRx) ip dst, let mine : Prop := s.portTakes 1 = true ∧ s.frameTaken rx.eth = true ∧ dst = s.net.inForce.hpbIp
    let mac := fit 6 s.otp.mac
    (mine → exec (.arpRequest rx ip dst) s = .next { s with out := s.out ++ [Out.ethernet
      { dst := some (fit 6 rx.mac), src := mac, tag := s.net.inForce.tag, etype := 0x0806, ip := none,
        body := [0, 1, 8, 0, 6, 4, 0, 2] ++ mac ++ (le 4 dst.toNat).reverse ++ fit 6 rx.mac ++ (le 4 ip.toNat).reverse }] }) ∧
    (¬ mine → exec (.arpRequest rx ip dst) s = .next s)) ∧
  (∀ (s : State) (rx : IpRx) frag x y r, let m : Bytes := [8, 0, x, y] ++ r
    let mine : Prop := s.portTakes 1 = true ∧ s.frameTaken rx.eth = true ∧ rx.dst = s.net.inForce.hpbIp ∧ frag = false ∧
      s.net.inForce.unreachable rx.src = false ∧ 4 ≤ r.length ∧ onesSum 0 m = 0xFFFF
    (mine → ∃ a b, exec (.icmpEcho rx frag m) s = .next { s with out := s.out ++ [Out.ethernet
      { dst := none, src := fit 6 s.otp.mac, tag := s.net.inForce.tag, etype := 0x0800,
        ip := some ⟨s.net.inForce.hpbIp, rx.src, 1, none⟩, body := [0, 0, a, b] ++ r }] }) ∧
    (¬ mine → exec (.icmpEcho rx frag m) s = .next s)) ∧
  (∀ (s : State), exec .ethLinkUp s = .next (if s.boot.step ≠ .held ∧ s.underTest 1 = false then
      s.updNet fun n => { n with ethUp := true } else s) ∧
    (∃ t, exec .ethLinkDown s = .next t ∧ t.net = { s.net with ethUp := false } ∧ (s.net.ethUp = true → t.tb.ptp.valid = false) ∧
      (∀ x, t.boot.stage = some x → x.port ≠ 1) ∧ t.leases = s.leases ∧ t.axes = s.axes ∧ t.hpa = s.hpa) ∧
    exec .netCfgApply s = .next (if s.net.writtenAt = none then s else
      s.updNet fun n => { n with inForce := n.written, writtenAt := none })) ∧
  (∀ s f a ses, s.portTakes 2 = true → s.net.sfpOut = [] → sfpFrameOk f = true → at_ f 0 1 = 1 → s.net.sfpAsm = some a →
    f ≠ a.prev → at_ f 1 1 = a.frag + 1 → at_ f 2 1 = a.last → at_ f 1 1 = at_ f 2 1 →
    let body := a.data ++ slice f 3 27
    let l := at_ body 6 2
    let b := body.take (32 + 4 * l)
    at_ f 2 1 + 1 = fragments l → PacketOk s 2 .sfp b ses →
    ∃ t, exec (.sfpFrameRx f) s = .next t ∧ t.net.sfpAsm = none ∧ ∀ c, PacketSays s 2 .sfp b c ses →
      PacketTaken s t 2 .sfp b c ses ∧ t.out = s.out ∧
      t.net = { s.net with sfpArmed := true, sfpValidAt := s.now, sfpLost := false, sfpAsm := none }) ∧
  (∀ (s : State) f, s.boot.step ≠ .held → s.underTest 5 = false → s.net.sfpOut = [] →
    let valid (n : Net) : Net := { n with sfpArmed := true, sfpValidAt := s.now, sfpLost := false }
    (sfpFrameOk f = false → exec (.sfpFrameRx f) s = .next (s.updNet fun n =>
      { n with sfpAsm := none, sfpCrcErr := satInc 65535 n.sfpCrcErr })) ∧
    (sfpFrameOk f = true → at_ f 0 1 = 0 → exec (.sfpFrameRx f) s = .next (s.updNet fun n =>
      { n with sfpValidAt := s.now, sfpLost := false })) ∧
    (sfpFrameOk f = true → at_ f 0 1 = 1 →
      (∀ a, s.net.sfpAsm = some a → f = a.prev → exec (.sfpFrameRx f) s = .next (s.updNet valid)) ∧
      (s.net.sfpAsm = none → at_ f 1 1 = 0 → 0 < at_ f 2 1 → exec (.sfpFrameRx f) s = .next (s.updNet fun n =>
        { valid n with sfpAsm := some ⟨0, at_ f 2 1, f, slice f 3 27⟩ })) ∧
      (s.net.sfpAsm = none → at_ f 1 1 ≠ 0 → exec (.sfpFrameRx f) s = .next (s.updNet fun n =>
        { valid n with sfpSeqErr := satAdd 255 n.sfpSeqErr 1 })) ∧
      (∀ a, s.net.sfpAsm = some a → f ≠ a.prev → at_ f 1 1 ≠ 0 → at_ f 1 1 ≠ a.frag + 1 → ∃ t, exec (.sfpFrameRx f) s = .next t ∧
        t.net.sfpAsm = none ∧ t.net.sfpSeqErr = satAdd 255 s.net.sfpSeqErr 2 ∧
        t.arrivals = s.arrivals ∧ t.owners = s.owners))) ∧
  (∀ (s : State) f frame rest, s.boot.step ≠ .held → s.underTest 5 = false → s.net.sfpOut = f :: rest →
    ∃ t, exec (.sfpFrameRx frame) s = .next t ∧ ∃ more, t.out = s.out ++ Out.sfpFrame f :: more) ∧
  (∀ s f b ses, s.boot.step ≠ .held → s.boot.dev ≠ .boot → f ≠ [] → mntPacket f = some b → PacketOk s 3 .mnt b ses →
    ∃ t, exec (.mntFrameRx f) s = .next t ∧ t.net = { s.net with mntUp := true } ∧
      ∀ c, PacketSays s 3 .mnt b c ses → PacketTaken s t 3 .mnt b c ses ∧ t.out = s.out) ∧
  (∀ (s : State) f, s.boot.step ≠ .held → f ≠ [] → mntPacket f = none →
    exec (.mntFrameRx f) s = .next (s.updNet fun n => { n with mntErr := satInc 65535 n.mntErr })) ∧
  (∀ (s : State), let due : Prop := s.boot.step ≠ .held ∧ s.net.sfpArmed = true ∧ s.net.sfpLost = false ∧
      s.net.sfpValidAt + s.net.inForce.lossMs * 100000 ≤ s.now
    (¬ due → exec .sfpLinkLoss s = .next s) ∧
    (due → ∃ t, exec .sfpLinkLoss s = .next t ∧ OnlyMotion s t ∧ t.safety.sfpLoss = true ∧ t.net.sfpLoss = true ∧
      t.net.sfpLost = true ∧ t.net.sfpLossAt = some s.now ∧
      ∀ n, if s.net.inForce.lossStop = true ∧ ¬ ((s.axis n).st = .disabled ∧ (s.axis n).zeroFrom = none) then
        (t.axis n).hold = true ∧ AxisStopped s t n (s.cfgStop n) .safe 9
      else t.axis n = s.axis n))

/-- R102, R121, R124: the oldest event of an owner goes out on its port under K_D with the next ring entry on HPA, to the last
subscriber on HPB, in frames on SFP, in a COBS frame on MNT; with no room it waits, and one whose code is no longer subscribed
is discarded. A lease past its expiry ends: its resource is free, the former holder is told, no other lease changes. Both wait
for the commands of their tick. -/
def Obligations.EventAndLeaseRowsAct : Prop :=
  (∀ (s : State) (p : Port) ses e rest, (s.owner p).session = some ses → (s.owner p).events = e :: rest →
    s.commandsWait = false →
    let pkt := eventPacket p ses e
    let leg := s.eventLeg p pkt
    let subscribed : Prop := ses.mask.testBit e.code = true
    let gone (t : State) : Prop := t.owners = bankUpd s.owners p (fun o => { o with events := rest }) ∧ t.leases = s.leases ∧
      t.axes = s.axes ∧ t.mem = s.mem
    ((∀ x ∈ e :: rest, ses.mask.testBit x.code = false) →
      exec (.eventDeliver p) s = .next (s.updOwner p fun o => { o with events := [] })) ∧
    (¬ subscribed → s.eventRoom p = true →
      exec (.eventDeliver p) s = exec (.eventDeliver p) (s.updOwner p fun o => { o with events := rest })) ∧
    (subscribed → s.eventRoom p = false → exec (.eventDeliver p) s = .next s) ∧
    (subscribed → s.eventRoom p = true → ∃ t, exec (.eventDeliver p) s = .next t ∧ gone t ∧
      (p = 0 → t.hpa.eqPos = s.hpa.eqPos + 1 ∧ ∃ more, t.out = s.out ++ [Out.event 0 pkt .dma, Out.eventEntry
        (s.hpa.eqPos % 2 ^ s.hpa.eqLog) (le 2 pkt.wire.length ++ le 1 (ringPhase s.hpa.eqPos (2 ^ s.hpa.eqLog)) ++ [0]
          ++ fit 252 pkt.wire)] ++ more) ∧
      (p = 1 → ∀ ip port, (s.owner 1).evtDest = some (ip, port) →
        t.out = if s.net.inForce.unreachable ip = true then s.out
          else s.out ++ [Out.event 1 pkt (.frame
            { dst := none, src := fit 6 s.otp.mac, tag := s.net.inForce.tag, etype := 0x0800,
              ip := some ⟨s.net.inForce.hpbIp, ip, 17, some (47600, port.toNat)⟩, body := pkt.wire })]) ∧
      (p = 2 → t.out = s.out ++ [Out.event 2 pkt .spi] ∧ t.net = { s.net with sfpOut := s.net.sfpOut ++ sfpFrames pkt.wire }) ∧
      (p = 3 → t.out = s.out ++ [Out.event 3 pkt (.line (mntFrame pkt.wire))] ∧ t.net = s.net))) ∧
  (∀ (s : State) p cls idx, s.commandsWait = true → ∀ i, i ∈ [Instr.eventDeliver p, .leaseExpiry cls idx] →
    exec i s = .next (s.putOff i)) ∧
  (∀ (s : State) p, s.commandsWait = false → (s.owner p).events = [] → exec (.eventDeliver p) s = .next s) ∧
  (∀ (s : State) (cls : Byte) (idx : Word), s.commandsWait = false → s.calm = true →
    (∀ l, s.leases.get cls.toNat idx.toNat = some l → l.owner = 0 ∨ s.now < l.expiry) →
    exec (.leaseExpiry cls idx) s = .next s) ∧
  (∀ (s : State) (cls : Byte) (idx : Word) l (p : Port), s.commandsWait = false → s.calm = true →
    s.leases.get cls.toNat idx.toNat = some l → l.owner = Port.id p → l.expiry ≤ s.now →
    ∃ t, exec (.leaseExpiry cls idx) s = .next t ∧ t.holder cls.toNat idx.toNat = 0 ∧
      (∀ r ∈ resources, r ≠ (cls.toNat, idx.toNat) → t.holder r.1 r.2 = s.holder r.1 r.2) ∧
      (∃ l', t.leases.get cls.toNat idx.toNat = some l' ∧ l'.lapsed.get p = true) ∧ t.mem = s.mem ∧
      (cls ≠ 8 → t.boot = s.boot) ∧
      (∀ ses, (s.owner p).session = some ses → ses.mask.testBit 0x0F = true → s.portDead p = false →
        (t.owner p).events.length < 256 → ∃ e, (t.owner p).events.getLast? = some e ∧ e.code = 0x0F ∧ e.cls = cls.toNat ∧
          e.idx = idx.toNat))

/-- R77, in the message layout notes/assumptions/19 presumes: with HPA up, in every DEV_STATE but BOOT and RECOVERY, the SPDM
requests of Table 4-6 are answered on the DOE mailbox and every other code earns UnsupportedRequest; measurement blocks 1 to 8
carry WM0 to WM7; CHALLENGE and signed measurements end in the identity key's signature. Elsewhere there is no answer. Nothing
else changes. -/
def Obligations.SpdmRowsAct : Prop :=
  ∀ (s : State) (slot : Byte) (off len : BitVec 16) nonce (signed : Bool) (op code : Byte),
    let up : Prop := s.hpa.linkUp = true ∧ s.underTest 0 = false ∧ s.boot.dev ≠ .boot ∧ s.boot.dev ≠ .recovery
    let tells (i : Instr) (f : Bytes → Prop) : Prop := ∃ t, exec i s = .next t ∧ { t with out := s.out, free := s.free } = s ∧
      ((up ∧ ∃ m, f m ∧ t.out = s.out ++ [Out.doe m]) ∨ (¬ up ∧ t.out = s.out))
    let sized (n : Nat) (first : Bytes) (m : Bytes) : Prop := m.length = n ∧ first <+: m
    let chain := le 2 (52 + Config.certChain.length) ++ zeros 2 ++ fit 48 Config.rootHash ++ Config.certChain
    tells .getVersion (sized 8 [0x10, 0x04, 0, 0, 0, 1, 0, 0x12]) ∧
    tells .getCapabilities (sized 20 [0x12, 0x61, 0, 0]) ∧
    tells .negotiateAlgorithms (sized 36 [0x12, 0x63, 0, 0, 36, 0]) ∧
    tells .getDigests (fun m => m = [0x12, 0x01, 0, 1] ++ digest chain) ∧
    (slot = 0 → off.toNat < chain.length → tells (.getCertificate slot off len) fun m =>
      ∃ n, n = min len.toNat (chain.length - off.toNat) ∧
        m = [0x12, 0x02, 0, 0] ++ le 2 n ++ le 2 (chain.length - off.toNat - n) ++ slice chain off.toNat n) ∧
    (slot ≠ 0 → tells (.getCertificate slot off len) (sized 4 [0x12, 0x7F, 1, 0]) ∧
      tells (.challenge slot nonce) (sized 4 [0x12, 0x7F, 1, 0]) ∧
      tells (.getMeasurements signed op slot nonce) (sized 4 [0x12, 0x7F, 1, 0])) ∧
    (slot = 0 → tells (.challenge slot nonce) fun m => ∃ body sig, m = body ++ sig ∧
      [0x12, 0x03, 0, 1] ++ digest chain <+: body ∧ body.length = 38 + (digest chain).length ∧
      sig = fit 96 (Config.deviceSign s.free (digest (nonce ++ body)))) ∧
    (slot = 0 → ∀ k : Fin 8, op.toNat = k.val + 1 → tells (.getMeasurements signed op slot nonce) fun m => ∃ body sig,
      m = body ++ sig ∧ body.length = 97 ∧ body.take 15 =
        [0x12, 0x60, 0, 0, 1] ++ le 3 55 ++ le 1 (k.val + 1) ++ [1] ++ le 2 51 ++ le 1 (blockType (k.val + 1)) ++ le 2 48 ∧
      slice body 15 48 = fit 48 (s.boot.wm.get k) ∧
      sig = if signed = true then fit 96 (Config.deviceSign s.free (digest (nonce ++ body))) else []) ∧
    tells (.spdmUnsupportedRequest code) (sized 4 [0x12, 0x7F, 7, code])

/-! ## Checks, sequence numbers and arbitration (chapters 5 and 6) -/

/-- Table 6-3, R62 to R64, R111 to R113, R122: of the checks a packet fails the first decides: version, owner ID, flags,
session, key, sequence number, then, in the session and under its key, DEV_STATE, the owner's right to the opcode, its
register rights, 64 commands outstanding, the resource and length, and last the reply buffer, lease, loss action and unit
under test. Nothing else happens, but that the reply to an FW_COMMIT closes the stage, and that one command more than 64 waits
for the end of its tick. -/
def Obligations.ChecksInOrder : Prop :=
  ∀ (s : State) (i : Instr) (h : Hdr) (c : Cmd), i.cmd? = some (h, c) → h.viaOk = true → (s.carried h.port).portTakes h.port = true →
    (h.port = 2 → s.boot.dev = .recovery → sfpInRecovery c = true) → 32 + payloadSize c ≤ s.maxPacket h.port → s.calm = true →
    s.portDead h.port = false → (∀ ip port, h.via = .udp ip port → s.net.inForce.unreachable ip = false) →
    (s.givesWay i = true → exec i s = .next (s.putOff i)) ∧
    (s.givesWay i = false →
    let plain (e : Nat) : Prop := ∃ t, exec i s = .next t ∧
      (∀ p, p = replyPacket h c.opcode e [] none h.enc →
        Out.reply h.port (s.head h).via p (s.leg (s.head h).via p) ∈ t.out) ∧
      (∀ p, (t.owner p).session = (s.owner p).session) ∧ t.leases = s.leases ∧ t.mem = s.mem ∧ t.jobs = s.jobs ∧
      t.axes = s.axes ∧ t.boot = s.boot ∧ t.keys = s.keys ∧ t.store = s.store
    let owned : Prop := h.owner.toNat = Port.id h.port
    let head : Prop := headFault h = none
    (h.version ≠ 2 → plain eVersion) ∧
    (h.version = 2 → ¬ owned → plain ePort) ∧
    (h.version = 2 → owned → h.dup = true ∨ h.event = true ∨ h.bit7 = true → plain eParam) ∧
    (head → (s.owner h.port).session = none → s.freeCmd h.port c = false → plain eNoSession) ∧
    (head → (s.owner h.port).session = none → s.freeCmd h.port c = true → h.enc = true → plain eParam) ∧
    (head → (s.owner h.port).session = none → s.freeCmd h.port c = true → h.enc = false → h.key ≠ .zeroKey → plain eAuth) ∧
    (∀ ses, head → (s.owner h.port).session = some ses → h.key ≠ .sessionKey →
      (s.freeCmd h.port c = false ∨ h.enc = true ∨ h.key = .neither) → plain eAuth) ∧
    (∀ ses, head → (s.owner h.port).session = some ses → h.key = .sessionKey →
      (h.seq = 0 ∨ h.seq.toNat + 64 ≤ ses.high ∨
        (h.seq.toNat ≤ ses.high ∧ ses.cache.find? (fun e => e.seq == h.seq.toNat) = none)) → plain eReplay) ∧
    (∀ ses, head → (s.owner h.port).session = some ses → h.key = .sessionKey → ses.high < h.seq.toNat →
      h.seq.toNat ≠ 0xFFFFFFFF → c.opcode ≠ 0x02 →
      let refused (e : Nat) : Prop := Completes i s h c.opcode e [] (match c with
        | .fwCommit _ _ => s.closeStage
        | _ => s)
      let bad : Option Nat := if c.wf = true then none else some eLength
      let dev := s.boot.dev.refuses h.port c
      let right : Prop := s.ownerMay h.port c = true
      let addr := s.addrFault h.port c
      let form := s.formFault ⟨s.head h, some ses.serial, c, bad, false⟩
      (∀ e, dev = some e → refused e) ∧
      (dev = none → ¬ right → refused ePort) ∧
      (∀ e, dev = none → right → addr = some e → refused e) ∧
      (dev = none → right → addr = none → 64 ≤ ses.outstanding → ∃ t, exec i s = .next t ∧
        t.arrivals = s.arrivals ++ [⟨s.head h, some ses.serial, c, bad, true⟩] ∧
        { t with arrivals := s.arrivals }.quiet = s.quiet) ∧
      (∀ e, dev = none → right → addr = none → ses.outstanding < 64 → form = some e → refused e)))

/-- R116, R128: in a session a command with a number above the highest is the only one that acts; one whose reply is cached and was
sent in an earlier tick has that reply sent again with DUP set and counted, one still unanswered, or answered in this tick, is
discarded; nothing else changes, and the session's numbers stay. -/
def Obligations.DuplicatesResend : Prop :=
  ∀ (s : State) (i : Instr) (h : Hdr) (c : Cmd) ses e, i.cmd? = some (h, c) → h.viaOk = true →
    (s.carried h.port).portTakes h.port = true → (h.port = 2 → s.boot.dev = .recovery → sfpInRecovery c = true) →
    32 + payloadSize c ≤ s.maxPacket h.port → s.calm = true → headFault h = none → (s.owner h.port).session = some ses →
    h.key = .sessionKey → h.seq ≠ 0 → h.seq.toNat ≤ ses.high → ses.high < h.seq.toNat + 64 →
    ses.cache.find? (fun e => e.seq == h.seq.toNat) = some e → s.givesWay i = false →
    (∀ p, e.reply = some p → e.sentAt < s.now → ∃ t, exec i s = .next t ∧ (t.owner h.port).session = some ses ∧
      (s.portDead h.port = false → (∀ ip port, h.via = .udp ip port → s.net.inForce.unreachable ip = false) →
        Out.reply h.port (s.head h).via { p with dup := true } (s.leg (s.head h).via { p with dup := true }) ∈ t.out) ∧
      t.quiet = (s.updOwner h.port fun o => { o with cntDup := satInc 65535 o.cntDup }).quiet) ∧
    (e.reply = none ∨ s.now ≤ e.sentAt → ∃ t, exec i s = .next t ∧ t.owners = s.owners ∧ t.quiet = s.quiet)

/-- Tables 5-7, 6-10: of two commands that arrive in one tick SAFE_STOP acts before any other; LEASE_RELEASE and CLOSE_SESSION
before LEASE_TAKE and LEASE_RENEW; of two takes of resources neither holds, the one of the lower owner ID. A command alone
acts at the tick's end; one that came with 64 others outstanding earns E_BUSY where as many still are. The tick then passes as
it does with no arrival, once the rows that gave way to the commands have acted. -/
def Obligations.ArrivalsActInOrder : Prop :=
  ∀ (s : State), s.pending = [] →
    let after (u : State) (a : Arrival) : State := { u.act a with arrivals := [] }
    let ends (u : State) : Prop := step s = .next (if s.deferred = [] then u.finish.pass
      else { u.finish with pending := s.deferred, deferred := [] })
    let s0 : State := { s with arrivals := [] }
    (s.arrivals = [] → step s = .next (if s.deferred = [] then s.pass else { s with pending := s.deferred, deferred := [] })) ∧
    (∀ a, s.arrivals = [a] → a.extra = false → ends (after s0 a)) ∧
    (∀ a, s.arrivals = [a] → a.extra = true → ends (if a.serial.isSome = true ∧ 64 < s.outstanding a.hdr.port then
      s0.turnAway ⟨a.hdr, a.cmd.opcode, a.serial⟩ a.cmd eBusy else s0.act a)) ∧
    (∀ a b, s.arrivals = [a, b] → a.extra = false → b.extra = false →
      (cmdIsStop a.cmd = false → cmdIsStop b.cmd = true → ends (after (after s0 b) a)) ∧
      (cmdIsTake a.cmd = true ∨ cmdIsRenew a.cmd = true → cmdReleases b.cmd = true → ends (after (after s0 b) a)) ∧
      (cmdIsTake a.cmd = true → cmdIsTake b.cmd = true → a.hdr.cls ≠ 7 → b.hdr.cls ≠ 7 → b.hdr.port.val < a.hdr.port.val →
        s.holds a.hdr.port a.hdr.cls.toNat a.hdr.idx.toNat = false → s.holds b.hdr.port b.hdr.cls.toNat b.hdr.idx.toNat = false →
        ends (after (after { s with arrivals := [a] } b) a)))

/-- Headline, Tables 7-1 to 7-12: the payload the tables lay out for a well-formed command reads back as that command, with
every field at every value, has the length its opcode requires, and every bit shown as zero is 0. -/
def Obligations.PayloadReadsBack : Prop :=
  ∀ c : Cmd, c.wf = true → decodeCmd c.opcode (encodeCmd c) = some c ∧ payloadFault c.opcode (encodeCmd c) = none ∧
    (encodeCmd c).length = payloadSize c

/-! ## The machine as a whole -/

/-- Every step of every state answers a next state: no command of the table faults or is refused. With no command waiting the rows
that gave way come back, and with none of those one tick of D01 passes (notes/assumptions/1): 10 ns of D01, four cycles of D02 while
it runs, and 5 cycles of the device time's own step, with its frequency correction; where nothing is due in that tick nothing else
changes. -/
def Obligations.StepsAnswerAndTicksPass : Prop :=
  (∀ s : State, ∃ t, step s = .next t) ∧
  (∀ s : State, s.pending = [] → s.deferred ≠ [] →
    ∃ t, step s = .next t ∧ t.pending = s.deferred ∧ t.deferred = [] ∧ t.now = s.now) ∧
  (∀ s : State, s.pending = [] → s.deferred = [] → s.arrivals = [] → s.calm = true → s.commit = none → s.boot.resetDue = none →
    s.net.writtenAt = none → s.tb.stepEvent = none → s.tb.pendingStep = false →
    (∀ n (k : Nat) d, (s.axis n).gates.due[k]? = some (some d) → s.now + 1 < d) → s.tb.s = 0 →
    step s = .next { s with
      now := s.now + 1, d02 := if s.fabric.d02Run = true then s.d02 + 4 else s.d02,
      tb := if s.tb.running = true then { s.tb with fine := s.tb.fine + (5 * ((2 : Int) ^ 41 + s.tb.f)).toNat } else s.tb })

/-- R42, R61, R420 and the reset values of the register tables: right after reset the device is held in BOOT with no session,
no lease, no region, no graph, no job and no token; every axis is DISABLED without a hold, every sensor port UNCONFIGURED, no
link is up, the radio is off and its slots are FREE, nothing waits and nothing has gone out. -/
def Obligations.ResetState : Prop :=
  let s := State.reset
  s.pending = [] ∧ s.deferred = [] ∧ s.arrivals = [] ∧ s.out = [] ∧ s.boot.dev = .boot ∧ s.boot.step = .held ∧
  (∀ p, (s.owner p).session = none ∧ (s.owner p).events = []) ∧ (∀ r ∈ resources, s.holder r.1 r.2 = 0) ∧
  s.mem.regions = [] ∧ s.mem.hbm.cells = [] ∧ s.mem.vat.cells = [] ∧ s.jobs.graphs = [] ∧ (∀ t, s.job t = none) ∧ s.jobs.tokens = [] ∧
  (∀ n, (s.axis n).st = .disabled ∧ (s.axis n).hold = false ∧ (s.axis n).zeroFrom = none) ∧ (∀ k, (s.sns k).st = .unconfigured) ∧
  s.hpa.linkUp = false ∧ s.hpa.en = false ∧ s.net.ethUp = false ∧ s.net.sfpArmed = false ∧ s.net.mntUp = false ∧
  s.radio.cfg.en = false ∧ (∀ i, (s.rslot i).st = .free) ∧ s.tag.st = .dead ∧ (∀ u, s.underTest u = false)

/-- The invariant holds right after reset. -/
def Obligations.OtpInvAtReset : Prop := OtpInv State.reset

/-- Headline, R59, R61, R73, R78: whatever step is taken, from any state in which it holds, the invariant of the
one-time-programmable words is kept; what Dunueril wrote stays, RETIRED and BLANK are never left, service entries, the SVN
minimum of every image and BOOT_COUNT never fall. -/
def Obligations.OtpOnlyGrows : Prop :=
  ∀ s t : State, OtpInv s → step s = .next t → OtpInv t ∧
    t.otp.uniqueId = s.otp.uniqueId ∧ t.otp.configWord = s.otp.configWord ∧ t.otp.keyDigests = s.otp.keyDigests ∧
    t.otp.revoked = s.otp.revoked ∧ t.otp.mac = s.otp.mac ∧ t.otp.clockId = s.otp.clockId ∧
    (s.otp.lifecycle = .retired ∨ s.otp.lifecycle = .blank → t.otp.lifecycle = s.otp.lifecycle) ∧
    (t.otp.lifecycle = .blank → s.otp.lifecycle = .blank) ∧
    s.otp.svcEntries ≤ t.otp.svcEntries ∧ s.otp.bootCount ≤ t.otp.bootCount ∧
    ∀ k, s.otp.svnMin.get k ≤ t.otp.svnMin.get k
end

