-- ==== Sys2Proof/Laws/State.lean ====
section
/-! SUPPORT. What each update of the state changes and what it leaves: one lemma per field. -/

namespace Sys2Proof.Machine

/-! ### State.updOwner -/

@[simp] theorem State.updOwner_now (s : State) (p : Port) (f : OwnerState → OwnerState) : (s.updOwner p f).now = s.now := rfl
@[simp] theorem State.updOwner_d02 (s : State) (p : Port) (f : OwnerState → OwnerState) : (s.updOwner p f).d02 = s.d02 := rfl
@[simp] theorem State.updOwner_free (s : State) (p : Port) (f : OwnerState → OwnerState) : (s.updOwner p f).free = s.free := rfl
@[simp] theorem State.updOwner_draws (s : State) (p : Port) (f : OwnerState → OwnerState) : (s.updOwner p f).draws = s.draws := rfl
@[simp] theorem State.updOwner_serial (s : State) (p : Port) (f : OwnerState → OwnerState) : (s.updOwner p f).serial = s.serial := rfl
@[simp] theorem State.updOwner_pending (s : State) (p : Port) (f : OwnerState → OwnerState) : (s.updOwner p f).pending = s.pending := rfl
@[simp] theorem State.updOwner_deferred (s : State) (p : Port) (f : OwnerState → OwnerState) : (s.updOwner p f).deferred = s.deferred := rfl
@[simp] theorem State.updOwner_out (s : State) (p : Port) (f : OwnerState → OwnerState) : (s.updOwner p f).out = s.out := rfl
@[simp] theorem State.updOwner_arrivals (s : State) (p : Port) (f : OwnerState → OwnerState) : (s.updOwner p f).arrivals = s.arrivals := rfl
@[simp] theorem State.updOwner_commit (s : State) (p : Port) (f : OwnerState → OwnerState) : (s.updOwner p f).commit = s.commit := rfl
@[simp] theorem State.updOwner_thermal (s : State) (p : Port) (f : OwnerState → OwnerState) : (s.updOwner p f).thermal = s.thermal := rfl
@[simp] theorem State.updOwner_avs (s : State) (p : Port) (f : OwnerState → OwnerState) : (s.updOwner p f).avs = s.avs := rfl
@[simp] theorem State.updOwner_fabric (s : State) (p : Port) (f : OwnerState → OwnerState) : (s.updOwner p f).fabric = s.fabric := rfl
@[simp] theorem State.updOwner_boot (s : State) (p : Port) (f : OwnerState → OwnerState) : (s.updOwner p f).boot = s.boot := rfl
@[simp] theorem State.updOwner_otp (s : State) (p : Port) (f : OwnerState → OwnerState) : (s.updOwner p f).otp = s.otp := rfl
@[simp] theorem State.updOwner_flash (s : State) (p : Port) (f : OwnerState → OwnerState) : (s.updOwner p f).flash = s.flash := rfl
@[simp] theorem State.updOwner_leases (s : State) (p : Port) (f : OwnerState → OwnerState) : (s.updOwner p f).leases = s.leases := rfl
@[simp] theorem State.updOwner_hpa (s : State) (p : Port) (f : OwnerState → OwnerState) : (s.updOwner p f).hpa = s.hpa := rfl
@[simp] theorem State.updOwner_net (s : State) (p : Port) (f : OwnerState → OwnerState) : (s.updOwner p f).net = s.net := rfl
@[simp] theorem State.updOwner_mem (s : State) (p : Port) (f : OwnerState → OwnerState) : (s.updOwner p f).mem = s.mem := rfl
@[simp] theorem State.updOwner_keys (s : State) (p : Port) (f : OwnerState → OwnerState) : (s.updOwner p f).keys = s.keys := rfl
@[simp] theorem State.updOwner_cores (s : State) (p : Port) (f : OwnerState → OwnerState) : (s.updOwner p f).cores = s.cores := rfl
@[simp] theorem State.updOwner_jobs (s : State) (p : Port) (f : OwnerState → OwnerState) : (s.updOwner p f).jobs = s.jobs := rfl
@[simp] theorem State.updOwner_headbox (s : State) (p : Port) (f : OwnerState → OwnerState) : (s.updOwner p f).headbox = s.headbox := rfl
@[simp] theorem State.updOwner_sensors (s : State) (p : Port) (f : OwnerState → OwnerState) : (s.updOwner p f).sensors = s.sensors := rfl
@[simp] theorem State.updOwner_tb (s : State) (p : Port) (f : OwnerState → OwnerState) : (s.updOwner p f).tb = s.tb := rfl
@[simp] theorem State.updOwner_timers (s : State) (p : Port) (f : OwnerState → OwnerState) : (s.updOwner p f).timers = s.timers := rfl
@[simp] theorem State.updOwner_axes (s : State) (p : Port) (f : OwnerState → OwnerState) : (s.updOwner p f).axes = s.axes := rfl
@[simp] theorem State.updOwner_safety (s : State) (p : Port) (f : OwnerState → OwnerState) : (s.updOwner p f).safety = s.safety := rfl
@[simp] theorem State.updOwner_illum (s : State) (p : Port) (f : OwnerState → OwnerState) : (s.updOwner p f).illum = s.illum := rfl
@[simp] theorem State.updOwner_lbus (s : State) (p : Port) (f : OwnerState → OwnerState) : (s.updOwner p f).lbus = s.lbus := rfl
@[simp] theorem State.updOwner_radio (s : State) (p : Port) (f : OwnerState → OwnerState) : (s.updOwner p f).radio = s.radio := rfl
@[simp] theorem State.updOwner_tag (s : State) (p : Port) (f : OwnerState → OwnerState) : (s.updOwner p f).tag = s.tag := rfl
@[simp] theorem State.updOwner_test (s : State) (p : Port) (f : OwnerState → OwnerState) : (s.updOwner p f).test = s.test := rfl
@[simp] theorem State.updOwner_store (s : State) (p : Port) (f : OwnerState → OwnerState) : (s.updOwner p f).store = s.store := rfl
@[simp] theorem State.updOwner_owners (s : State) (p : Port) (f : OwnerState → OwnerState) : (s.updOwner p f).owners = bankUpd s.owners p f := rfl

/-! ### State.updSession -/

@[simp] theorem State.updSession_now (s : State) (p : Port) (f : Session → Session) : (s.updSession p f).now = s.now := rfl
@[simp] theorem State.updSession_d02 (s : State) (p : Port) (f : Session → Session) : (s.updSession p f).d02 = s.d02 := rfl
@[simp] theorem State.updSession_free (s : State) (p : Port) (f : Session → Session) : (s.updSession p f).free = s.free := rfl
@[simp] theorem State.updSession_draws (s : State) (p : Port) (f : Session → Session) : (s.updSession p f).draws = s.draws := rfl
@[simp] theorem State.updSession_serial (s : State) (p : Port) (f : Session → Session) : (s.updSession p f).serial = s.serial := rfl
@[simp] theorem State.updSession_pending (s : State) (p : Port) (f : Session → Session) : (s.updSession p f).pending = s.pending := rfl
@[simp] theorem State.updSession_deferred (s : State) (p : Port) (f : Session → Session) : (s.updSession p f).deferred = s.deferred := rfl
@[simp] theorem State.updSession_out (s : State) (p : Port) (f : Session → Session) : (s.updSession p f).out = s.out := rfl
@[simp] theorem State.updSession_arrivals (s : State) (p : Port) (f : Session → Session) : (s.updSession p f).arrivals = s.arrivals := rfl
@[simp] theorem State.updSession_commit (s : State) (p : Port) (f : Session → Session) : (s.updSession p f).commit = s.commit := rfl
@[simp] theorem State.updSession_thermal (s : State) (p : Port) (f : Session → Session) : (s.updSession p f).thermal = s.thermal := rfl
@[simp] theorem State.updSession_avs (s : State) (p : Port) (f : Session → Session) : (s.updSession p f).avs = s.avs := rfl
@[simp] theorem State.updSession_fabric (s : State) (p : Port) (f : Session → Session) : (s.updSession p f).fabric = s.fabric := rfl
@[simp] theorem State.updSession_boot (s : State) (p : Port) (f : Session → Session) : (s.updSession p f).boot = s.boot := rfl
@[simp] theorem State.updSession_otp (s : State) (p : Port) (f : Session → Session) : (s.updSession p f).otp = s.otp := rfl
@[simp] theorem State.updSession_flash (s : State) (p : Port) (f : Session → Session) : (s.updSession p f).flash = s.flash := rfl
@[simp] theorem State.updSession_leases (s : State) (p : Port) (f : Session → Session) : (s.updSession p f).leases = s.leases := rfl
@[simp] theorem State.updSession_hpa (s : State) (p : Port) (f : Session → Session) : (s.updSession p f).hpa = s.hpa := rfl
@[simp] theorem State.updSession_net (s : State) (p : Port) (f : Session → Session) : (s.updSession p f).net = s.net := rfl
@[simp] theorem State.updSession_mem (s : State) (p : Port) (f : Session → Session) : (s.updSession p f).mem = s.mem := rfl
@[simp] theorem State.updSession_keys (s : State) (p : Port) (f : Session → Session) : (s.updSession p f).keys = s.keys := rfl
@[simp] theorem State.updSession_cores (s : State) (p : Port) (f : Session → Session) : (s.updSession p f).cores = s.cores := rfl
@[simp] theorem State.updSession_jobs (s : State) (p : Port) (f : Session → Session) : (s.updSession p f).jobs = s.jobs := rfl
@[simp] theorem State.updSession_headbox (s : State) (p : Port) (f : Session → Session) : (s.updSession p f).headbox = s.headbox := rfl
@[simp] theorem State.updSession_sensors (s : State) (p : Port) (f : Session → Session) : (s.updSession p f).sensors = s.sensors := rfl
@[simp] theorem State.updSession_tb (s : State) (p : Port) (f : Session → Session) : (s.updSession p f).tb = s.tb := rfl
@[simp] theorem State.updSession_timers (s : State) (p : Port) (f : Session → Session) : (s.updSession p f).timers = s.timers := rfl
@[simp] theorem State.updSession_axes (s : State) (p : Port) (f : Session → Session) : (s.updSession p f).axes = s.axes := rfl
@[simp] theorem State.updSession_safety (s : State) (p : Port) (f : Session → Session) : (s.updSession p f).safety = s.safety := rfl
@[simp] theorem State.updSession_illum (s : State) (p : Port) (f : Session → Session) : (s.updSession p f).illum = s.illum := rfl
@[simp] theorem State.updSession_lbus (s : State) (p : Port) (f : Session → Session) : (s.updSession p f).lbus = s.lbus := rfl
@[simp] theorem State.updSession_radio (s : State) (p : Port) (f : Session → Session) : (s.updSession p f).radio = s.radio := rfl
@[simp] theorem State.updSession_tag (s : State) (p : Port) (f : Session → Session) : (s.updSession p f).tag = s.tag := rfl
@[simp] theorem State.updSession_test (s : State) (p : Port) (f : Session → Session) : (s.updSession p f).test = s.test := rfl
@[simp] theorem State.updSession_store (s : State) (p : Port) (f : Session → Session) : (s.updSession p f).store = s.store := rfl

/-! ### State.updAxis -/

@[simp] theorem State.updAxis_now (s : State) (n : Fin 8) (f : Axis → Axis) : (s.updAxis n f).now = s.now := rfl
@[simp] theorem State.updAxis_d02 (s : State) (n : Fin 8) (f : Axis → Axis) : (s.updAxis n f).d02 = s.d02 := rfl
@[simp] theorem State.updAxis_free (s : State) (n : Fin 8) (f : Axis → Axis) : (s.updAxis n f).free = s.free := rfl
@[simp] theorem State.updAxis_draws (s : State) (n : Fin 8) (f : Axis → Axis) : (s.updAxis n f).draws = s.draws := rfl
@[simp] theorem State.updAxis_serial (s : State) (n : Fin 8) (f : Axis → Axis) : (s.updAxis n f).serial = s.serial := rfl
@[simp] theorem State.updAxis_pending (s : State) (n : Fin 8) (f : Axis → Axis) : (s.updAxis n f).pending = s.pending := rfl
@[simp] theorem State.updAxis_deferred (s : State) (n : Fin 8) (f : Axis → Axis) : (s.updAxis n f).deferred = s.deferred := rfl
@[simp] theorem State.updAxis_out (s : State) (n : Fin 8) (f : Axis → Axis) : (s.updAxis n f).out = s.out := rfl
@[simp] theorem State.updAxis_arrivals (s : State) (n : Fin 8) (f : Axis → Axis) : (s.updAxis n f).arrivals = s.arrivals := rfl
@[simp] theorem State.updAxis_commit (s : State) (n : Fin 8) (f : Axis → Axis) : (s.updAxis n f).commit = s.commit := rfl
@[simp] theorem State.updAxis_thermal (s : State) (n : Fin 8) (f : Axis → Axis) : (s.updAxis n f).thermal = s.thermal := rfl
@[simp] theorem State.updAxis_avs (s : State) (n : Fin 8) (f : Axis → Axis) : (s.updAxis n f).avs = s.avs := rfl
@[simp] theorem State.updAxis_fabric (s : State) (n : Fin 8) (f : Axis → Axis) : (s.updAxis n f).fabric = s.fabric := rfl
@[simp] theorem State.updAxis_boot (s : State) (n : Fin 8) (f : Axis → Axis) : (s.updAxis n f).boot = s.boot := rfl
@[simp] theorem State.updAxis_otp (s : State) (n : Fin 8) (f : Axis → Axis) : (s.updAxis n f).otp = s.otp := rfl
@[simp] theorem State.updAxis_flash (s : State) (n : Fin 8) (f : Axis → Axis) : (s.updAxis n f).flash = s.flash := rfl
@[simp] theorem State.updAxis_owners (s : State) (n : Fin 8) (f : Axis → Axis) : (s.updAxis n f).owners = s.owners := rfl
@[simp] theorem State.updAxis_leases (s : State) (n : Fin 8) (f : Axis → Axis) : (s.updAxis n f).leases = s.leases := rfl
@[simp] theorem State.updAxis_hpa (s : State) (n : Fin 8) (f : Axis → Axis) : (s.updAxis n f).hpa = s.hpa := rfl
@[simp] theorem State.updAxis_net (s : State) (n : Fin 8) (f : Axis → Axis) : (s.updAxis n f).net = s.net := rfl
@[simp] theorem State.updAxis_mem (s : State) (n : Fin 8) (f : Axis → Axis) : (s.updAxis n f).mem = s.mem := rfl
@[simp] theorem State.updAxis_keys (s : State) (n : Fin 8) (f : Axis → Axis) : (s.updAxis n f).keys = s.keys := rfl
@[simp] theorem State.updAxis_cores (s : State) (n : Fin 8) (f : Axis → Axis) : (s.updAxis n f).cores = s.cores := rfl
@[simp] theorem State.updAxis_jobs (s : State) (n : Fin 8) (f : Axis → Axis) : (s.updAxis n f).jobs = s.jobs := rfl
@[simp] theorem State.updAxis_headbox (s : State) (n : Fin 8) (f : Axis → Axis) : (s.updAxis n f).headbox = s.headbox := rfl
@[simp] theorem State.updAxis_sensors (s : State) (n : Fin 8) (f : Axis → Axis) : (s.updAxis n f).sensors = s.sensors := rfl
@[simp] theorem State.updAxis_tb (s : State) (n : Fin 8) (f : Axis → Axis) : (s.updAxis n f).tb = s.tb := rfl
@[simp] theorem State.updAxis_timers (s : State) (n : Fin 8) (f : Axis → Axis) : (s.updAxis n f).timers = s.timers := rfl
@[simp] theorem State.updAxis_safety (s : State) (n : Fin 8) (f : Axis → Axis) : (s.updAxis n f).safety = s.safety := rfl
@[simp] theorem State.updAxis_illum (s : State) (n : Fin 8) (f : Axis → Axis) : (s.updAxis n f).illum = s.illum := rfl
@[simp] theorem State.updAxis_lbus (s : State) (n : Fin 8) (f : Axis → Axis) : (s.updAxis n f).lbus = s.lbus := rfl
@[simp] theorem State.updAxis_radio (s : State) (n : Fin 8) (f : Axis → Axis) : (s.updAxis n f).radio = s.radio := rfl
@[simp] theorem State.updAxis_tag (s : State) (n : Fin 8) (f : Axis → Axis) : (s.updAxis n f).tag = s.tag := rfl
@[simp] theorem State.updAxis_test (s : State) (n : Fin 8) (f : Axis → Axis) : (s.updAxis n f).test = s.test := rfl
@[simp] theorem State.updAxis_store (s : State) (n : Fin 8) (f : Axis → Axis) : (s.updAxis n f).store = s.store := rfl
@[simp] theorem State.updAxis_axes (s : State) (n : Fin 8) (f : Axis → Axis) : (s.updAxis n f).axes = bankUpd s.axes n f := rfl

/-! ### State.updSensor -/

@[simp] theorem State.updSensor_now (s : State) (n : Fin 6) (f : SnsPort → SnsPort) : (s.updSensor n f).now = s.now := rfl
@[simp] theorem State.updSensor_d02 (s : State) (n : Fin 6) (f : SnsPort → SnsPort) : (s.updSensor n f).d02 = s.d02 := rfl
@[simp] theorem State.updSensor_free (s : State) (n : Fin 6) (f : SnsPort → SnsPort) : (s.updSensor n f).free = s.free := rfl
@[simp] theorem State.updSensor_draws (s : State) (n : Fin 6) (f : SnsPort → SnsPort) : (s.updSensor n f).draws = s.draws := rfl
@[simp] theorem State.updSensor_serial (s : State) (n : Fin 6) (f : SnsPort → SnsPort) : (s.updSensor n f).serial = s.serial := rfl
@[simp] theorem State.updSensor_pending (s : State) (n : Fin 6) (f : SnsPort → SnsPort) : (s.updSensor n f).pending = s.pending := rfl
@[simp] theorem State.updSensor_deferred (s : State) (n : Fin 6) (f : SnsPort → SnsPort) : (s.updSensor n f).deferred = s.deferred := rfl
@[simp] theorem State.updSensor_out (s : State) (n : Fin 6) (f : SnsPort → SnsPort) : (s.updSensor n f).out = s.out := rfl
@[simp] theorem State.updSensor_arrivals (s : State) (n : Fin 6) (f : SnsPort → SnsPort) : (s.updSensor n f).arrivals = s.arrivals := rfl
@[simp] theorem State.updSensor_commit (s : State) (n : Fin 6) (f : SnsPort → SnsPort) : (s.updSensor n f).commit = s.commit := rfl
@[simp] theorem State.updSensor_thermal (s : State) (n : Fin 6) (f : SnsPort → SnsPort) : (s.updSensor n f).thermal = s.thermal := rfl
@[simp] theorem State.updSensor_avs (s : State) (n : Fin 6) (f : SnsPort → SnsPort) : (s.updSensor n f).avs = s.avs := rfl
@[simp] theorem State.updSensor_fabric (s : State) (n : Fin 6) (f : SnsPort → SnsPort) : (s.updSensor n f).fabric = s.fabric := rfl
@[simp] theorem State.updSensor_boot (s : State) (n : Fin 6) (f : SnsPort → SnsPort) : (s.updSensor n f).boot = s.boot := rfl
@[simp] theorem State.updSensor_otp (s : State) (n : Fin 6) (f : SnsPort → SnsPort) : (s.updSensor n f).otp = s.otp := rfl
@[simp] theorem State.updSensor_flash (s : State) (n : Fin 6) (f : SnsPort → SnsPort) : (s.updSensor n f).flash = s.flash := rfl
@[simp] theorem State.updSensor_owners (s : State) (n : Fin 6) (f : SnsPort → SnsPort) : (s.updSensor n f).owners = s.owners := rfl
@[simp] theorem State.updSensor_leases (s : State) (n : Fin 6) (f : SnsPort → SnsPort) : (s.updSensor n f).leases = s.leases := rfl
@[simp] theorem State.updSensor_hpa (s : State) (n : Fin 6) (f : SnsPort → SnsPort) : (s.updSensor n f).hpa = s.hpa := rfl
@[simp] theorem State.updSensor_net (s : State) (n : Fin 6) (f : SnsPort → SnsPort) : (s.updSensor n f).net = s.net := rfl
@[simp] theorem State.updSensor_mem (s : State) (n : Fin 6) (f : SnsPort → SnsPort) : (s.updSensor n f).mem = s.mem := rfl
@[simp] theorem State.updSensor_keys (s : State) (n : Fin 6) (f : SnsPort → SnsPort) : (s.updSensor n f).keys = s.keys := rfl
@[simp] theorem State.updSensor_cores (s : State) (n : Fin 6) (f : SnsPort → SnsPort) : (s.updSensor n f).cores = s.cores := rfl
@[simp] theorem State.updSensor_jobs (s : State) (n : Fin 6) (f : SnsPort → SnsPort) : (s.updSensor n f).jobs = s.jobs := rfl
@[simp] theorem State.updSensor_headbox (s : State) (n : Fin 6) (f : SnsPort → SnsPort) : (s.updSensor n f).headbox = s.headbox := rfl
@[simp] theorem State.updSensor_tb (s : State) (n : Fin 6) (f : SnsPort → SnsPort) : (s.updSensor n f).tb = s.tb := rfl
@[simp] theorem State.updSensor_timers (s : State) (n : Fin 6) (f : SnsPort → SnsPort) : (s.updSensor n f).timers = s.timers := rfl
@[simp] theorem State.updSensor_axes (s : State) (n : Fin 6) (f : SnsPort → SnsPort) : (s.updSensor n f).axes = s.axes := rfl
@[simp] theorem State.updSensor_safety (s : State) (n : Fin 6) (f : SnsPort → SnsPort) : (s.updSensor n f).safety = s.safety := rfl
@[simp] theorem State.updSensor_illum (s : State) (n : Fin 6) (f : SnsPort → SnsPort) : (s.updSensor n f).illum = s.illum := rfl
@[simp] theorem State.updSensor_lbus (s : State) (n : Fin 6) (f : SnsPort → SnsPort) : (s.updSensor n f).lbus = s.lbus := rfl
@[simp] theorem State.updSensor_radio (s : State) (n : Fin 6) (f : SnsPort → SnsPort) : (s.updSensor n f).radio = s.radio := rfl
@[simp] theorem State.updSensor_tag (s : State) (n : Fin 6) (f : SnsPort → SnsPort) : (s.updSensor n f).tag = s.tag := rfl
@[simp] theorem State.updSensor_test (s : State) (n : Fin 6) (f : SnsPort → SnsPort) : (s.updSensor n f).test = s.test := rfl
@[simp] theorem State.updSensor_store (s : State) (n : Fin 6) (f : SnsPort → SnsPort) : (s.updSensor n f).store = s.store := rfl
@[simp] theorem State.updSensor_sensors (s : State) (n : Fin 6) (f : SnsPort → SnsPort) : (s.updSensor n f).sensors = bankUpd s.sensors n f := rfl

/-! ### State.updTimer -/

@[simp] theorem State.updTimer_now (s : State) (n : Fin 16) (f : Timer → Timer) : (s.updTimer n f).now = s.now := rfl
@[simp] theorem State.updTimer_d02 (s : State) (n : Fin 16) (f : Timer → Timer) : (s.updTimer n f).d02 = s.d02 := rfl
@[simp] theorem State.updTimer_free (s : State) (n : Fin 16) (f : Timer → Timer) : (s.updTimer n f).free = s.free := rfl
@[simp] theorem State.updTimer_draws (s : State) (n : Fin 16) (f : Timer → Timer) : (s.updTimer n f).draws = s.draws := rfl
@[simp] theorem State.updTimer_serial (s : State) (n : Fin 16) (f : Timer → Timer) : (s.updTimer n f).serial = s.serial := rfl
@[simp] theorem State.updTimer_pending (s : State) (n : Fin 16) (f : Timer → Timer) : (s.updTimer n f).pending = s.pending := rfl
@[simp] theorem State.updTimer_deferred (s : State) (n : Fin 16) (f : Timer → Timer) : (s.updTimer n f).deferred = s.deferred := rfl
@[simp] theorem State.updTimer_out (s : State) (n : Fin 16) (f : Timer → Timer) : (s.updTimer n f).out = s.out := rfl
@[simp] theorem State.updTimer_arrivals (s : State) (n : Fin 16) (f : Timer → Timer) : (s.updTimer n f).arrivals = s.arrivals := rfl
@[simp] theorem State.updTimer_commit (s : State) (n : Fin 16) (f : Timer → Timer) : (s.updTimer n f).commit = s.commit := rfl
@[simp] theorem State.updTimer_thermal (s : State) (n : Fin 16) (f : Timer → Timer) : (s.updTimer n f).thermal = s.thermal := rfl
@[simp] theorem State.updTimer_avs (s : State) (n : Fin 16) (f : Timer → Timer) : (s.updTimer n f).avs = s.avs := rfl
@[simp] theorem State.updTimer_fabric (s : State) (n : Fin 16) (f : Timer → Timer) : (s.updTimer n f).fabric = s.fabric := rfl
@[simp] theorem State.updTimer_boot (s : State) (n : Fin 16) (f : Timer → Timer) : (s.updTimer n f).boot = s.boot := rfl
@[simp] theorem State.updTimer_otp (s : State) (n : Fin 16) (f : Timer → Timer) : (s.updTimer n f).otp = s.otp := rfl
@[simp] theorem State.updTimer_flash (s : State) (n : Fin 16) (f : Timer → Timer) : (s.updTimer n f).flash = s.flash := rfl
@[simp] theorem State.updTimer_owners (s : State) (n : Fin 16) (f : Timer → Timer) : (s.updTimer n f).owners = s.owners := rfl
@[simp] theorem State.updTimer_leases (s : State) (n : Fin 16) (f : Timer → Timer) : (s.updTimer n f).leases = s.leases := rfl
@[simp] theorem State.updTimer_hpa (s : State) (n : Fin 16) (f : Timer → Timer) : (s.updTimer n f).hpa = s.hpa := rfl
@[simp] theorem State.updTimer_net (s : State) (n : Fin 16) (f : Timer → Timer) : (s.updTimer n f).net = s.net := rfl
@[simp] theorem State.updTimer_mem (s : State) (n : Fin 16) (f : Timer → Timer) : (s.updTimer n f).mem = s.mem := rfl
@[simp] theorem State.updTimer_keys (s : State) (n : Fin 16) (f : Timer → Timer) : (s.updTimer n f).keys = s.keys := rfl
@[simp] theorem State.updTimer_cores (s : State) (n : Fin 16) (f : Timer → Timer) : (s.updTimer n f).cores = s.cores := rfl
@[simp] theorem State.updTimer_jobs (s : State) (n : Fin 16) (f : Timer → Timer) : (s.updTimer n f).jobs = s.jobs := rfl
@[simp] theorem State.updTimer_headbox (s : State) (n : Fin 16) (f : Timer → Timer) : (s.updTimer n f).headbox = s.headbox := rfl
@[simp] theorem State.updTimer_sensors (s : State) (n : Fin 16) (f : Timer → Timer) : (s.updTimer n f).sensors = s.sensors := rfl
@[simp] theorem State.updTimer_tb (s : State) (n : Fin 16) (f : Timer → Timer) : (s.updTimer n f).tb = s.tb := rfl
@[simp] theorem State.updTimer_axes (s : State) (n : Fin 16) (f : Timer → Timer) : (s.updTimer n f).axes = s.axes := rfl
@[simp] theorem State.updTimer_safety (s : State) (n : Fin 16) (f : Timer → Timer) : (s.updTimer n f).safety = s.safety := rfl
@[simp] theorem State.updTimer_illum (s : State) (n : Fin 16) (f : Timer → Timer) : (s.updTimer n f).illum = s.illum := rfl
@[simp] theorem State.updTimer_lbus (s : State) (n : Fin 16) (f : Timer → Timer) : (s.updTimer n f).lbus = s.lbus := rfl
@[simp] theorem State.updTimer_radio (s : State) (n : Fin 16) (f : Timer → Timer) : (s.updTimer n f).radio = s.radio := rfl
@[simp] theorem State.updTimer_tag (s : State) (n : Fin 16) (f : Timer → Timer) : (s.updTimer n f).tag = s.tag := rfl
@[simp] theorem State.updTimer_test (s : State) (n : Fin 16) (f : Timer → Timer) : (s.updTimer n f).test = s.test := rfl
@[simp] theorem State.updTimer_store (s : State) (n : Fin 16) (f : Timer → Timer) : (s.updTimer n f).store = s.store := rfl
@[simp] theorem State.updTimer_timers (s : State) (n : Fin 16) (f : Timer → Timer) : (s.updTimer n f).timers = bankUpd s.timers n f := rfl

/-! ### State.updIllum -/

@[simp] theorem State.updIllum_now (s : State) (f : Illum → Illum) : (s.updIllum f).now = s.now := rfl
@[simp] theorem State.updIllum_d02 (s : State) (f : Illum → Illum) : (s.updIllum f).d02 = s.d02 := rfl
@[simp] theorem State.updIllum_free (s : State) (f : Illum → Illum) : (s.updIllum f).free = s.free := rfl
@[simp] theorem State.updIllum_draws (s : State) (f : Illum → Illum) : (s.updIllum f).draws = s.draws := rfl
@[simp] theorem State.updIllum_serial (s : State) (f : Illum → Illum) : (s.updIllum f).serial = s.serial := rfl
@[simp] theorem State.updIllum_pending (s : State) (f : Illum → Illum) : (s.updIllum f).pending = s.pending := rfl
@[simp] theorem State.updIllum_deferred (s : State) (f : Illum → Illum) : (s.updIllum f).deferred = s.deferred := rfl
@[simp] theorem State.updIllum_out (s : State) (f : Illum → Illum) : (s.updIllum f).out = s.out := rfl
@[simp] theorem State.updIllum_arrivals (s : State) (f : Illum → Illum) : (s.updIllum f).arrivals = s.arrivals := rfl
@[simp] theorem State.updIllum_commit (s : State) (f : Illum → Illum) : (s.updIllum f).commit = s.commit := rfl
@[simp] theorem State.updIllum_thermal (s : State) (f : Illum → Illum) : (s.updIllum f).thermal = s.thermal := rfl
@[simp] theorem State.updIllum_avs (s : State) (f : Illum → Illum) : (s.updIllum f).avs = s.avs := rfl
@[simp] theorem State.updIllum_fabric (s : State) (f : Illum → Illum) : (s.updIllum f).fabric = s.fabric := rfl
@[simp] theorem State.updIllum_boot (s : State) (f : Illum → Illum) : (s.updIllum f).boot = s.boot := rfl
@[simp] theorem State.updIllum_otp (s : State) (f : Illum → Illum) : (s.updIllum f).otp = s.otp := rfl
@[simp] theorem State.updIllum_flash (s : State) (f : Illum → Illum) : (s.updIllum f).flash = s.flash := rfl
@[simp] theorem State.updIllum_owners (s : State) (f : Illum → Illum) : (s.updIllum f).owners = s.owners := rfl
@[simp] theorem State.updIllum_leases (s : State) (f : Illum → Illum) : (s.updIllum f).leases = s.leases := rfl
@[simp] theorem State.updIllum_hpa (s : State) (f : Illum → Illum) : (s.updIllum f).hpa = s.hpa := rfl
@[simp] theorem State.updIllum_net (s : State) (f : Illum → Illum) : (s.updIllum f).net = s.net := rfl
@[simp] theorem State.updIllum_mem (s : State) (f : Illum → Illum) : (s.updIllum f).mem = s.mem := rfl
@[simp] theorem State.updIllum_keys (s : State) (f : Illum → Illum) : (s.updIllum f).keys = s.keys := rfl
@[simp] theorem State.updIllum_cores (s : State) (f : Illum → Illum) : (s.updIllum f).cores = s.cores := rfl
@[simp] theorem State.updIllum_jobs (s : State) (f : Illum → Illum) : (s.updIllum f).jobs = s.jobs := rfl
@[simp] theorem State.updIllum_headbox (s : State) (f : Illum → Illum) : (s.updIllum f).headbox = s.headbox := rfl
@[simp] theorem State.updIllum_sensors (s : State) (f : Illum → Illum) : (s.updIllum f).sensors = s.sensors := rfl
@[simp] theorem State.updIllum_tb (s : State) (f : Illum → Illum) : (s.updIllum f).tb = s.tb := rfl
@[simp] theorem State.updIllum_timers (s : State) (f : Illum → Illum) : (s.updIllum f).timers = s.timers := rfl
@[simp] theorem State.updIllum_axes (s : State) (f : Illum → Illum) : (s.updIllum f).axes = s.axes := rfl
@[simp] theorem State.updIllum_safety (s : State) (f : Illum → Illum) : (s.updIllum f).safety = s.safety := rfl
@[simp] theorem State.updIllum_lbus (s : State) (f : Illum → Illum) : (s.updIllum f).lbus = s.lbus := rfl
@[simp] theorem State.updIllum_radio (s : State) (f : Illum → Illum) : (s.updIllum f).radio = s.radio := rfl
@[simp] theorem State.updIllum_tag (s : State) (f : Illum → Illum) : (s.updIllum f).tag = s.tag := rfl
@[simp] theorem State.updIllum_test (s : State) (f : Illum → Illum) : (s.updIllum f).test = s.test := rfl
@[simp] theorem State.updIllum_store (s : State) (f : Illum → Illum) : (s.updIllum f).store = s.store := rfl
@[simp] theorem State.updIllum_illum (s : State) (f : Illum → Illum) : (s.updIllum f).illum = f s.illum := rfl

/-! ### State.updLbus -/

@[simp] theorem State.updLbus_now (s : State) (f : Lbus → Lbus) : (s.updLbus f).now = s.now := rfl
@[simp] theorem State.updLbus_d02 (s : State) (f : Lbus → Lbus) : (s.updLbus f).d02 = s.d02 := rfl
@[simp] theorem State.updLbus_free (s : State) (f : Lbus → Lbus) : (s.updLbus f).free = s.free := rfl
@[simp] theorem State.updLbus_draws (s : State) (f : Lbus → Lbus) : (s.updLbus f).draws = s.draws := rfl
@[simp] theorem State.updLbus_serial (s : State) (f : Lbus → Lbus) : (s.updLbus f).serial = s.serial := rfl
@[simp] theorem State.updLbus_pending (s : State) (f : Lbus → Lbus) : (s.updLbus f).pending = s.pending := rfl
@[simp] theorem State.updLbus_deferred (s : State) (f : Lbus → Lbus) : (s.updLbus f).deferred = s.deferred := rfl
@[simp] theorem State.updLbus_out (s : State) (f : Lbus → Lbus) : (s.updLbus f).out = s.out := rfl
@[simp] theorem State.updLbus_arrivals (s : State) (f : Lbus → Lbus) : (s.updLbus f).arrivals = s.arrivals := rfl
@[simp] theorem State.updLbus_commit (s : State) (f : Lbus → Lbus) : (s.updLbus f).commit = s.commit := rfl
@[simp] theorem State.updLbus_thermal (s : State) (f : Lbus → Lbus) : (s.updLbus f).thermal = s.thermal := rfl
@[simp] theorem State.updLbus_avs (s : State) (f : Lbus → Lbus) : (s.updLbus f).avs = s.avs := rfl
@[simp] theorem State.updLbus_fabric (s : State) (f : Lbus → Lbus) : (s.updLbus f).fabric = s.fabric := rfl
@[simp] theorem State.updLbus_boot (s : State) (f : Lbus → Lbus) : (s.updLbus f).boot = s.boot := rfl
@[simp] theorem State.updLbus_otp (s : State) (f : Lbus → Lbus) : (s.updLbus f).otp = s.otp := rfl
@[simp] theorem State.updLbus_flash (s : State) (f : Lbus → Lbus) : (s.updLbus f).flash = s.flash := rfl
@[simp] theorem State.updLbus_owners (s : State) (f : Lbus → Lbus) : (s.updLbus f).owners = s.owners := rfl
@[simp] theorem State.updLbus_leases (s : State) (f : Lbus → Lbus) : (s.updLbus f).leases = s.leases := rfl
@[simp] theorem State.updLbus_hpa (s : State) (f : Lbus → Lbus) : (s.updLbus f).hpa = s.hpa := rfl
@[simp] theorem State.updLbus_net (s : State) (f : Lbus → Lbus) : (s.updLbus f).net = s.net := rfl
@[simp] theorem State.updLbus_mem (s : State) (f : Lbus → Lbus) : (s.updLbus f).mem = s.mem := rfl
@[simp] theorem State.updLbus_keys (s : State) (f : Lbus → Lbus) : (s.updLbus f).keys = s.keys := rfl
@[simp] theorem State.updLbus_cores (s : State) (f : Lbus → Lbus) : (s.updLbus f).cores = s.cores := rfl
@[simp] theorem State.updLbus_jobs (s : State) (f : Lbus → Lbus) : (s.updLbus f).jobs = s.jobs := rfl
@[simp] theorem State.updLbus_headbox (s : State) (f : Lbus → Lbus) : (s.updLbus f).headbox = s.headbox := rfl
@[simp] theorem State.updLbus_sensors (s : State) (f : Lbus → Lbus) : (s.updLbus f).sensors = s.sensors := rfl
@[simp] theorem State.updLbus_tb (s : State) (f : Lbus → Lbus) : (s.updLbus f).tb = s.tb := rfl
@[simp] theorem State.updLbus_timers (s : State) (f : Lbus → Lbus) : (s.updLbus f).timers = s.timers := rfl
@[simp] theorem State.updLbus_axes (s : State) (f : Lbus → Lbus) : (s.updLbus f).axes = s.axes := rfl
@[simp] theorem State.updLbus_safety (s : State) (f : Lbus → Lbus) : (s.updLbus f).safety = s.safety := rfl
@[simp] theorem State.updLbus_illum (s : State) (f : Lbus → Lbus) : (s.updLbus f).illum = s.illum := rfl
@[simp] theorem State.updLbus_radio (s : State) (f : Lbus → Lbus) : (s.updLbus f).radio = s.radio := rfl
@[simp] theorem State.updLbus_tag (s : State) (f : Lbus → Lbus) : (s.updLbus f).tag = s.tag := rfl
@[simp] theorem State.updLbus_test (s : State) (f : Lbus → Lbus) : (s.updLbus f).test = s.test := rfl
@[simp] theorem State.updLbus_store (s : State) (f : Lbus → Lbus) : (s.updLbus f).store = s.store := rfl
@[simp] theorem State.updLbus_lbus (s : State) (f : Lbus → Lbus) : (s.updLbus f).lbus = f s.lbus := rfl

/-! ### State.updRadio -/

@[simp] theorem State.updRadio_now (s : State) (f : Radio → Radio) : (s.updRadio f).now = s.now := rfl
@[simp] theorem State.updRadio_d02 (s : State) (f : Radio → Radio) : (s.updRadio f).d02 = s.d02 := rfl
@[simp] theorem State.updRadio_free (s : State) (f : Radio → Radio) : (s.updRadio f).free = s.free := rfl
@[simp] theorem State.updRadio_draws (s : State) (f : Radio → Radio) : (s.updRadio f).draws = s.draws := rfl
@[simp] theorem State.updRadio_serial (s : State) (f : Radio → Radio) : (s.updRadio f).serial = s.serial := rfl
@[simp] theorem State.updRadio_pending (s : State) (f : Radio → Radio) : (s.updRadio f).pending = s.pending := rfl
@[simp] theorem State.updRadio_deferred (s : State) (f : Radio → Radio) : (s.updRadio f).deferred = s.deferred := rfl
@[simp] theorem State.updRadio_out (s : State) (f : Radio → Radio) : (s.updRadio f).out = s.out := rfl
@[simp] theorem State.updRadio_arrivals (s : State) (f : Radio → Radio) : (s.updRadio f).arrivals = s.arrivals := rfl
@[simp] theorem State.updRadio_commit (s : State) (f : Radio → Radio) : (s.updRadio f).commit = s.commit := rfl
@[simp] theorem State.updRadio_thermal (s : State) (f : Radio → Radio) : (s.updRadio f).thermal = s.thermal := rfl
@[simp] theorem State.updRadio_avs (s : State) (f : Radio → Radio) : (s.updRadio f).avs = s.avs := rfl
@[simp] theorem State.updRadio_fabric (s : State) (f : Radio → Radio) : (s.updRadio f).fabric = s.fabric := rfl
@[simp] theorem State.updRadio_boot (s : State) (f : Radio → Radio) : (s.updRadio f).boot = s.boot := rfl
@[simp] theorem State.updRadio_otp (s : State) (f : Radio → Radio) : (s.updRadio f).otp = s.otp := rfl
@[simp] theorem State.updRadio_flash (s : State) (f : Radio → Radio) : (s.updRadio f).flash = s.flash := rfl
@[simp] theorem State.updRadio_owners (s : State) (f : Radio → Radio) : (s.updRadio f).owners = s.owners := rfl
@[simp] theorem State.updRadio_leases (s : State) (f : Radio → Radio) : (s.updRadio f).leases = s.leases := rfl
@[simp] theorem State.updRadio_hpa (s : State) (f : Radio → Radio) : (s.updRadio f).hpa = s.hpa := rfl
@[simp] theorem State.updRadio_net (s : State) (f : Radio → Radio) : (s.updRadio f).net = s.net := rfl
@[simp] theorem State.updRadio_mem (s : State) (f : Radio → Radio) : (s.updRadio f).mem = s.mem := rfl
@[simp] theorem State.updRadio_keys (s : State) (f : Radio → Radio) : (s.updRadio f).keys = s.keys := rfl
@[simp] theorem State.updRadio_cores (s : State) (f : Radio → Radio) : (s.updRadio f).cores = s.cores := rfl
@[simp] theorem State.updRadio_jobs (s : State) (f : Radio → Radio) : (s.updRadio f).jobs = s.jobs := rfl
@[simp] theorem State.updRadio_headbox (s : State) (f : Radio → Radio) : (s.updRadio f).headbox = s.headbox := rfl
@[simp] theorem State.updRadio_sensors (s : State) (f : Radio → Radio) : (s.updRadio f).sensors = s.sensors := rfl
@[simp] theorem State.updRadio_tb (s : State) (f : Radio → Radio) : (s.updRadio f).tb = s.tb := rfl
@[simp] theorem State.updRadio_timers (s : State) (f : Radio → Radio) : (s.updRadio f).timers = s.timers := rfl
@[simp] theorem State.updRadio_axes (s : State) (f : Radio → Radio) : (s.updRadio f).axes = s.axes := rfl
@[simp] theorem State.updRadio_safety (s : State) (f : Radio → Radio) : (s.updRadio f).safety = s.safety := rfl
@[simp] theorem State.updRadio_illum (s : State) (f : Radio → Radio) : (s.updRadio f).illum = s.illum := rfl
@[simp] theorem State.updRadio_lbus (s : State) (f : Radio → Radio) : (s.updRadio f).lbus = s.lbus := rfl
@[simp] theorem State.updRadio_tag (s : State) (f : Radio → Radio) : (s.updRadio f).tag = s.tag := rfl
@[simp] theorem State.updRadio_test (s : State) (f : Radio → Radio) : (s.updRadio f).test = s.test := rfl
@[simp] theorem State.updRadio_store (s : State) (f : Radio → Radio) : (s.updRadio f).store = s.store := rfl
@[simp] theorem State.updRadio_radio (s : State) (f : Radio → Radio) : (s.updRadio f).radio = f s.radio := rfl

/-! ### State.updTest -/

@[simp] theorem State.updTest_now (s : State) (f : LinkTest → LinkTest) : (s.updTest f).now = s.now := rfl
@[simp] theorem State.updTest_d02 (s : State) (f : LinkTest → LinkTest) : (s.updTest f).d02 = s.d02 := rfl
@[simp] theorem State.updTest_free (s : State) (f : LinkTest → LinkTest) : (s.updTest f).free = s.free := rfl
@[simp] theorem State.updTest_draws (s : State) (f : LinkTest → LinkTest) : (s.updTest f).draws = s.draws := rfl
@[simp] theorem State.updTest_serial (s : State) (f : LinkTest → LinkTest) : (s.updTest f).serial = s.serial := rfl
@[simp] theorem State.updTest_pending (s : State) (f : LinkTest → LinkTest) : (s.updTest f).pending = s.pending := rfl
@[simp] theorem State.updTest_deferred (s : State) (f : LinkTest → LinkTest) : (s.updTest f).deferred = s.deferred := rfl
@[simp] theorem State.updTest_out (s : State) (f : LinkTest → LinkTest) : (s.updTest f).out = s.out := rfl
@[simp] theorem State.updTest_arrivals (s : State) (f : LinkTest → LinkTest) : (s.updTest f).arrivals = s.arrivals := rfl
@[simp] theorem State.updTest_commit (s : State) (f : LinkTest → LinkTest) : (s.updTest f).commit = s.commit := rfl
@[simp] theorem State.updTest_thermal (s : State) (f : LinkTest → LinkTest) : (s.updTest f).thermal = s.thermal := rfl
@[simp] theorem State.updTest_avs (s : State) (f : LinkTest → LinkTest) : (s.updTest f).avs = s.avs := rfl
@[simp] theorem State.updTest_fabric (s : State) (f : LinkTest → LinkTest) : (s.updTest f).fabric = s.fabric := rfl
@[simp] theorem State.updTest_boot (s : State) (f : LinkTest → LinkTest) : (s.updTest f).boot = s.boot := rfl
@[simp] theorem State.updTest_otp (s : State) (f : LinkTest → LinkTest) : (s.updTest f).otp = s.otp := rfl
@[simp] theorem State.updTest_flash (s : State) (f : LinkTest → LinkTest) : (s.updTest f).flash = s.flash := rfl
@[simp] theorem State.updTest_owners (s : State) (f : LinkTest → LinkTest) : (s.updTest f).owners = s.owners := rfl
@[simp] theorem State.updTest_leases (s : State) (f : LinkTest → LinkTest) : (s.updTest f).leases = s.leases := rfl
@[simp] theorem State.updTest_hpa (s : State) (f : LinkTest → LinkTest) : (s.updTest f).hpa = s.hpa := rfl
@[simp] theorem State.updTest_net (s : State) (f : LinkTest → LinkTest) : (s.updTest f).net = s.net := rfl
@[simp] theorem State.updTest_mem (s : State) (f : LinkTest → LinkTest) : (s.updTest f).mem = s.mem := rfl
@[simp] theorem State.updTest_keys (s : State) (f : LinkTest → LinkTest) : (s.updTest f).keys = s.keys := rfl
@[simp] theorem State.updTest_cores (s : State) (f : LinkTest → LinkTest) : (s.updTest f).cores = s.cores := rfl
@[simp] theorem State.updTest_jobs (s : State) (f : LinkTest → LinkTest) : (s.updTest f).jobs = s.jobs := rfl
@[simp] theorem State.updTest_headbox (s : State) (f : LinkTest → LinkTest) : (s.updTest f).headbox = s.headbox := rfl
@[simp] theorem State.updTest_sensors (s : State) (f : LinkTest → LinkTest) : (s.updTest f).sensors = s.sensors := rfl
@[simp] theorem State.updTest_tb (s : State) (f : LinkTest → LinkTest) : (s.updTest f).tb = s.tb := rfl
@[simp] theorem State.updTest_timers (s : State) (f : LinkTest → LinkTest) : (s.updTest f).timers = s.timers := rfl
@[simp] theorem State.updTest_axes (s : State) (f : LinkTest → LinkTest) : (s.updTest f).axes = s.axes := rfl
@[simp] theorem State.updTest_safety (s : State) (f : LinkTest → LinkTest) : (s.updTest f).safety = s.safety := rfl
@[simp] theorem State.updTest_illum (s : State) (f : LinkTest → LinkTest) : (s.updTest f).illum = s.illum := rfl
@[simp] theorem State.updTest_lbus (s : State) (f : LinkTest → LinkTest) : (s.updTest f).lbus = s.lbus := rfl
@[simp] theorem State.updTest_radio (s : State) (f : LinkTest → LinkTest) : (s.updTest f).radio = s.radio := rfl
@[simp] theorem State.updTest_tag (s : State) (f : LinkTest → LinkTest) : (s.updTest f).tag = s.tag := rfl
@[simp] theorem State.updTest_store (s : State) (f : LinkTest → LinkTest) : (s.updTest f).store = s.store := rfl
@[simp] theorem State.updTest_test (s : State) (f : LinkTest → LinkTest) : (s.updTest f).test = f s.test := rfl

/-! ### State.updTag -/

@[simp] theorem State.updTag_now (s : State) (f : Tag → Tag) : (s.updTag f).now = s.now := rfl
@[simp] theorem State.updTag_d02 (s : State) (f : Tag → Tag) : (s.updTag f).d02 = s.d02 := rfl
@[simp] theorem State.updTag_free (s : State) (f : Tag → Tag) : (s.updTag f).free = s.free := rfl
@[simp] theorem State.updTag_draws (s : State) (f : Tag → Tag) : (s.updTag f).draws = s.draws := rfl
@[simp] theorem State.updTag_serial (s : State) (f : Tag → Tag) : (s.updTag f).serial = s.serial := rfl
@[simp] theorem State.updTag_pending (s : State) (f : Tag → Tag) : (s.updTag f).pending = s.pending := rfl
@[simp] theorem State.updTag_deferred (s : State) (f : Tag → Tag) : (s.updTag f).deferred = s.deferred := rfl
@[simp] theorem State.updTag_out (s : State) (f : Tag → Tag) : (s.updTag f).out = s.out := rfl
@[simp] theorem State.updTag_arrivals (s : State) (f : Tag → Tag) : (s.updTag f).arrivals = s.arrivals := rfl
@[simp] theorem State.updTag_commit (s : State) (f : Tag → Tag) : (s.updTag f).commit = s.commit := rfl
@[simp] theorem State.updTag_thermal (s : State) (f : Tag → Tag) : (s.updTag f).thermal = s.thermal := rfl
@[simp] theorem State.updTag_avs (s : State) (f : Tag → Tag) : (s.updTag f).avs = s.avs := rfl
@[simp] theorem State.updTag_fabric (s : State) (f : Tag → Tag) : (s.updTag f).fabric = s.fabric := rfl
@[simp] theorem State.updTag_boot (s : State) (f : Tag → Tag) : (s.updTag f).boot = s.boot := rfl
@[simp] theorem State.updTag_otp (s : State) (f : Tag → Tag) : (s.updTag f).otp = s.otp := rfl
@[simp] theorem State.updTag_flash (s : State) (f : Tag → Tag) : (s.updTag f).flash = s.flash := rfl
@[simp] theorem State.updTag_owners (s : State) (f : Tag → Tag) : (s.updTag f).owners = s.owners := rfl
@[simp] theorem State.updTag_leases (s : State) (f : Tag → Tag) : (s.updTag f).leases = s.leases := rfl
@[simp] theorem State.updTag_hpa (s : State) (f : Tag → Tag) : (s.updTag f).hpa = s.hpa := rfl
@[simp] theorem State.updTag_net (s : State) (f : Tag → Tag) : (s.updTag f).net = s.net := rfl
@[simp] theorem State.updTag_mem (s : State) (f : Tag → Tag) : (s.updTag f).mem = s.mem := rfl
@[simp] theorem State.updTag_keys (s : State) (f : Tag → Tag) : (s.updTag f).keys = s.keys := rfl
@[simp] theorem State.updTag_cores (s : State) (f : Tag → Tag) : (s.updTag f).cores = s.cores := rfl
@[simp] theorem State.updTag_jobs (s : State) (f : Tag → Tag) : (s.updTag f).jobs = s.jobs := rfl
@[simp] theorem State.updTag_headbox (s : State) (f : Tag → Tag) : (s.updTag f).headbox = s.headbox := rfl
@[simp] theorem State.updTag_sensors (s : State) (f : Tag → Tag) : (s.updTag f).sensors = s.sensors := rfl
@[simp] theorem State.updTag_tb (s : State) (f : Tag → Tag) : (s.updTag f).tb = s.tb := rfl
@[simp] theorem State.updTag_timers (s : State) (f : Tag → Tag) : (s.updTag f).timers = s.timers := rfl
@[simp] theorem State.updTag_axes (s : State) (f : Tag → Tag) : (s.updTag f).axes = s.axes := rfl
@[simp] theorem State.updTag_safety (s : State) (f : Tag → Tag) : (s.updTag f).safety = s.safety := rfl
@[simp] theorem State.updTag_illum (s : State) (f : Tag → Tag) : (s.updTag f).illum = s.illum := rfl
@[simp] theorem State.updTag_lbus (s : State) (f : Tag → Tag) : (s.updTag f).lbus = s.lbus := rfl
@[simp] theorem State.updTag_radio (s : State) (f : Tag → Tag) : (s.updTag f).radio = s.radio := rfl
@[simp] theorem State.updTag_test (s : State) (f : Tag → Tag) : (s.updTag f).test = s.test := rfl
@[simp] theorem State.updTag_store (s : State) (f : Tag → Tag) : (s.updTag f).store = s.store := rfl
@[simp] theorem State.updTag_tag (s : State) (f : Tag → Tag) : (s.updTag f).tag = f s.tag := rfl

/-! ### State.updTb -/

@[simp] theorem State.updTb_now (s : State) (f : Timebase → Timebase) : (s.updTb f).now = s.now := rfl
@[simp] theorem State.updTb_d02 (s : State) (f : Timebase → Timebase) : (s.updTb f).d02 = s.d02 := rfl
@[simp] theorem State.updTb_free (s : State) (f : Timebase → Timebase) : (s.updTb f).free = s.free := rfl
@[simp] theorem State.updTb_draws (s : State) (f : Timebase → Timebase) : (s.updTb f).draws = s.draws := rfl
@[simp] theorem State.updTb_serial (s : State) (f : Timebase → Timebase) : (s.updTb f).serial = s.serial := rfl
@[simp] theorem State.updTb_pending (s : State) (f : Timebase → Timebase) : (s.updTb f).pending = s.pending := rfl
@[simp] theorem State.updTb_deferred (s : State) (f : Timebase → Timebase) : (s.updTb f).deferred = s.deferred := rfl
@[simp] theorem State.updTb_out (s : State) (f : Timebase → Timebase) : (s.updTb f).out = s.out := rfl
@[simp] theorem State.updTb_arrivals (s : State) (f : Timebase → Timebase) : (s.updTb f).arrivals = s.arrivals := rfl
@[simp] theorem State.updTb_commit (s : State) (f : Timebase → Timebase) : (s.updTb f).commit = s.commit := rfl
@[simp] theorem State.updTb_thermal (s : State) (f : Timebase → Timebase) : (s.updTb f).thermal = s.thermal := rfl
@[simp] theorem State.updTb_avs (s : State) (f : Timebase → Timebase) : (s.updTb f).avs = s.avs := rfl
@[simp] theorem State.updTb_fabric (s : State) (f : Timebase → Timebase) : (s.updTb f).fabric = s.fabric := rfl
@[simp] theorem State.updTb_boot (s : State) (f : Timebase → Timebase) : (s.updTb f).boot = s.boot := rfl
@[simp] theorem State.updTb_otp (s : State) (f : Timebase → Timebase) : (s.updTb f).otp = s.otp := rfl
@[simp] theorem State.updTb_flash (s : State) (f : Timebase → Timebase) : (s.updTb f).flash = s.flash := rfl
@[simp] theorem State.updTb_owners (s : State) (f : Timebase → Timebase) : (s.updTb f).owners = s.owners := rfl
@[simp] theorem State.updTb_leases (s : State) (f : Timebase → Timebase) : (s.updTb f).leases = s.leases := rfl
@[simp] theorem State.updTb_hpa (s : State) (f : Timebase → Timebase) : (s.updTb f).hpa = s.hpa := rfl
@[simp] theorem State.updTb_net (s : State) (f : Timebase → Timebase) : (s.updTb f).net = s.net := rfl
@[simp] theorem State.updTb_mem (s : State) (f : Timebase → Timebase) : (s.updTb f).mem = s.mem := rfl
@[simp] theorem State.updTb_keys (s : State) (f : Timebase → Timebase) : (s.updTb f).keys = s.keys := rfl
@[simp] theorem State.updTb_cores (s : State) (f : Timebase → Timebase) : (s.updTb f).cores = s.cores := rfl
@[simp] theorem State.updTb_jobs (s : State) (f : Timebase → Timebase) : (s.updTb f).jobs = s.jobs := rfl
@[simp] theorem State.updTb_headbox (s : State) (f : Timebase → Timebase) : (s.updTb f).headbox = s.headbox := rfl
@[simp] theorem State.updTb_sensors (s : State) (f : Timebase → Timebase) : (s.updTb f).sensors = s.sensors := rfl
@[simp] theorem State.updTb_timers (s : State) (f : Timebase → Timebase) : (s.updTb f).timers = s.timers := rfl
@[simp] theorem State.updTb_axes (s : State) (f : Timebase → Timebase) : (s.updTb f).axes = s.axes := rfl
@[simp] theorem State.updTb_safety (s : State) (f : Timebase → Timebase) : (s.updTb f).safety = s.safety := rfl
@[simp] theorem State.updTb_illum (s : State) (f : Timebase → Timebase) : (s.updTb f).illum = s.illum := rfl
@[simp] theorem State.updTb_lbus (s : State) (f : Timebase → Timebase) : (s.updTb f).lbus = s.lbus := rfl
@[simp] theorem State.updTb_radio (s : State) (f : Timebase → Timebase) : (s.updTb f).radio = s.radio := rfl
@[simp] theorem State.updTb_tag (s : State) (f : Timebase → Timebase) : (s.updTb f).tag = s.tag := rfl
@[simp] theorem State.updTb_test (s : State) (f : Timebase → Timebase) : (s.updTb f).test = s.test := rfl
@[simp] theorem State.updTb_store (s : State) (f : Timebase → Timebase) : (s.updTb f).store = s.store := rfl
@[simp] theorem State.updTb_tb (s : State) (f : Timebase → Timebase) : (s.updTb f).tb = f s.tb := rfl

/-! ### State.updJobs -/

@[simp] theorem State.updJobs_now (s : State) (f : Jobs → Jobs) : (s.updJobs f).now = s.now := rfl
@[simp] theorem State.updJobs_d02 (s : State) (f : Jobs → Jobs) : (s.updJobs f).d02 = s.d02 := rfl
@[simp] theorem State.updJobs_free (s : State) (f : Jobs → Jobs) : (s.updJobs f).free = s.free := rfl
@[simp] theorem State.updJobs_draws (s : State) (f : Jobs → Jobs) : (s.updJobs f).draws = s.draws := rfl
@[simp] theorem State.updJobs_serial (s : State) (f : Jobs → Jobs) : (s.updJobs f).serial = s.serial := rfl
@[simp] theorem State.updJobs_pending (s : State) (f : Jobs → Jobs) : (s.updJobs f).pending = s.pending := rfl
@[simp] theorem State.updJobs_deferred (s : State) (f : Jobs → Jobs) : (s.updJobs f).deferred = s.deferred := rfl
@[simp] theorem State.updJobs_out (s : State) (f : Jobs → Jobs) : (s.updJobs f).out = s.out := rfl
@[simp] theorem State.updJobs_arrivals (s : State) (f : Jobs → Jobs) : (s.updJobs f).arrivals = s.arrivals := rfl
@[simp] theorem State.updJobs_commit (s : State) (f : Jobs → Jobs) : (s.updJobs f).commit = s.commit := rfl
@[simp] theorem State.updJobs_thermal (s : State) (f : Jobs → Jobs) : (s.updJobs f).thermal = s.thermal := rfl
@[simp] theorem State.updJobs_avs (s : State) (f : Jobs → Jobs) : (s.updJobs f).avs = s.avs := rfl
@[simp] theorem State.updJobs_fabric (s : State) (f : Jobs → Jobs) : (s.updJobs f).fabric = s.fabric := rfl
@[simp] theorem State.updJobs_boot (s : State) (f : Jobs → Jobs) : (s.updJobs f).boot = s.boot := rfl
@[simp] theorem State.updJobs_otp (s : State) (f : Jobs → Jobs) : (s.updJobs f).otp = s.otp := rfl
@[simp] theorem State.updJobs_flash (s : State) (f : Jobs → Jobs) : (s.updJobs f).flash = s.flash := rfl
@[simp] theorem State.updJobs_owners (s : State) (f : Jobs → Jobs) : (s.updJobs f).owners = s.owners := rfl
@[simp] theorem State.updJobs_leases (s : State) (f : Jobs → Jobs) : (s.updJobs f).leases = s.leases := rfl
@[simp] theorem State.updJobs_hpa (s : State) (f : Jobs → Jobs) : (s.updJobs f).hpa = s.hpa := rfl
@[simp] theorem State.updJobs_net (s : State) (f : Jobs → Jobs) : (s.updJobs f).net = s.net := rfl
@[simp] theorem State.updJobs_mem (s : State) (f : Jobs → Jobs) : (s.updJobs f).mem = s.mem := rfl
@[simp] theorem State.updJobs_keys (s : State) (f : Jobs → Jobs) : (s.updJobs f).keys = s.keys := rfl
@[simp] theorem State.updJobs_cores (s : State) (f : Jobs → Jobs) : (s.updJobs f).cores = s.cores := rfl
@[simp] theorem State.updJobs_headbox (s : State) (f : Jobs → Jobs) : (s.updJobs f).headbox = s.headbox := rfl
@[simp] theorem State.updJobs_sensors (s : State) (f : Jobs → Jobs) : (s.updJobs f).sensors = s.sensors := rfl
@[simp] theorem State.updJobs_tb (s : State) (f : Jobs → Jobs) : (s.updJobs f).tb = s.tb := rfl
@[simp] theorem State.updJobs_timers (s : State) (f : Jobs → Jobs) : (s.updJobs f).timers = s.timers := rfl
@[simp] theorem State.updJobs_axes (s : State) (f : Jobs → Jobs) : (s.updJobs f).axes = s.axes := rfl
@[simp] theorem State.updJobs_safety (s : State) (f : Jobs → Jobs) : (s.updJobs f).safety = s.safety := rfl
@[simp] theorem State.updJobs_illum (s : State) (f : Jobs → Jobs) : (s.updJobs f).illum = s.illum := rfl
@[simp] theorem State.updJobs_lbus (s : State) (f : Jobs → Jobs) : (s.updJobs f).lbus = s.lbus := rfl
@[simp] theorem State.updJobs_radio (s : State) (f : Jobs → Jobs) : (s.updJobs f).radio = s.radio := rfl
@[simp] theorem State.updJobs_tag (s : State) (f : Jobs → Jobs) : (s.updJobs f).tag = s.tag := rfl
@[simp] theorem State.updJobs_test (s : State) (f : Jobs → Jobs) : (s.updJobs f).test = s.test := rfl
@[simp] theorem State.updJobs_store (s : State) (f : Jobs → Jobs) : (s.updJobs f).store = s.store := rfl
@[simp] theorem State.updJobs_jobs (s : State) (f : Jobs → Jobs) : (s.updJobs f).jobs = f s.jobs := rfl

/-! ### State.updMem -/

@[simp] theorem State.updMem_now (s : State) (f : MemState → MemState) : (s.updMem f).now = s.now := rfl
@[simp] theorem State.updMem_d02 (s : State) (f : MemState → MemState) : (s.updMem f).d02 = s.d02 := rfl
@[simp] theorem State.updMem_free (s : State) (f : MemState → MemState) : (s.updMem f).free = s.free := rfl
@[simp] theorem State.updMem_draws (s : State) (f : MemState → MemState) : (s.updMem f).draws = s.draws := rfl
@[simp] theorem State.updMem_serial (s : State) (f : MemState → MemState) : (s.updMem f).serial = s.serial := rfl
@[simp] theorem State.updMem_pending (s : State) (f : MemState → MemState) : (s.updMem f).pending = s.pending := rfl
@[simp] theorem State.updMem_deferred (s : State) (f : MemState → MemState) : (s.updMem f).deferred = s.deferred := rfl
@[simp] theorem State.updMem_out (s : State) (f : MemState → MemState) : (s.updMem f).out = s.out := rfl
@[simp] theorem State.updMem_arrivals (s : State) (f : MemState → MemState) : (s.updMem f).arrivals = s.arrivals := rfl
@[simp] theorem State.updMem_commit (s : State) (f : MemState → MemState) : (s.updMem f).commit = s.commit := rfl
@[simp] theorem State.updMem_thermal (s : State) (f : MemState → MemState) : (s.updMem f).thermal = s.thermal := rfl
@[simp] theorem State.updMem_avs (s : State) (f : MemState → MemState) : (s.updMem f).avs = s.avs := rfl
@[simp] theorem State.updMem_fabric (s : State) (f : MemState → MemState) : (s.updMem f).fabric = s.fabric := rfl
@[simp] theorem State.updMem_boot (s : State) (f : MemState → MemState) : (s.updMem f).boot = s.boot := rfl
@[simp] theorem State.updMem_otp (s : State) (f : MemState → MemState) : (s.updMem f).otp = s.otp := rfl
@[simp] theorem State.updMem_flash (s : State) (f : MemState → MemState) : (s.updMem f).flash = s.flash := rfl
@[simp] theorem State.updMem_owners (s : State) (f : MemState → MemState) : (s.updMem f).owners = s.owners := rfl
@[simp] theorem State.updMem_leases (s : State) (f : MemState → MemState) : (s.updMem f).leases = s.leases := rfl
@[simp] theorem State.updMem_hpa (s : State) (f : MemState → MemState) : (s.updMem f).hpa = s.hpa := rfl
@[simp] theorem State.updMem_net (s : State) (f : MemState → MemState) : (s.updMem f).net = s.net := rfl
@[simp] theorem State.updMem_keys (s : State) (f : MemState → MemState) : (s.updMem f).keys = s.keys := rfl
@[simp] theorem State.updMem_cores (s : State) (f : MemState → MemState) : (s.updMem f).cores = s.cores := rfl
@[simp] theorem State.updMem_jobs (s : State) (f : MemState → MemState) : (s.updMem f).jobs = s.jobs := rfl
@[simp] theorem State.updMem_headbox (s : State) (f : MemState → MemState) : (s.updMem f).headbox = s.headbox := rfl
@[simp] theorem State.updMem_sensors (s : State) (f : MemState → MemState) : (s.updMem f).sensors = s.sensors := rfl
@[simp] theorem State.updMem_tb (s : State) (f : MemState → MemState) : (s.updMem f).tb = s.tb := rfl
@[simp] theorem State.updMem_timers (s : State) (f : MemState → MemState) : (s.updMem f).timers = s.timers := rfl
@[simp] theorem State.updMem_axes (s : State) (f : MemState → MemState) : (s.updMem f).axes = s.axes := rfl
@[simp] theorem State.updMem_safety (s : State) (f : MemState → MemState) : (s.updMem f).safety = s.safety := rfl
@[simp] theorem State.updMem_illum (s : State) (f : MemState → MemState) : (s.updMem f).illum = s.illum := rfl
@[simp] theorem State.updMem_lbus (s : State) (f : MemState → MemState) : (s.updMem f).lbus = s.lbus := rfl
@[simp] theorem State.updMem_radio (s : State) (f : MemState → MemState) : (s.updMem f).radio = s.radio := rfl
@[simp] theorem State.updMem_tag (s : State) (f : MemState → MemState) : (s.updMem f).tag = s.tag := rfl
@[simp] theorem State.updMem_test (s : State) (f : MemState → MemState) : (s.updMem f).test = s.test := rfl
@[simp] theorem State.updMem_store (s : State) (f : MemState → MemState) : (s.updMem f).store = s.store := rfl
@[simp] theorem State.updMem_mem (s : State) (f : MemState → MemState) : (s.updMem f).mem = f s.mem := rfl

/-! ### State.updKeys -/

@[simp] theorem State.updKeys_now (s : State) (f : KeyState → KeyState) : (s.updKeys f).now = s.now := rfl
@[simp] theorem State.updKeys_d02 (s : State) (f : KeyState → KeyState) : (s.updKeys f).d02 = s.d02 := rfl
@[simp] theorem State.updKeys_free (s : State) (f : KeyState → KeyState) : (s.updKeys f).free = s.free := rfl
@[simp] theorem State.updKeys_draws (s : State) (f : KeyState → KeyState) : (s.updKeys f).draws = s.draws := rfl
@[simp] theorem State.updKeys_serial (s : State) (f : KeyState → KeyState) : (s.updKeys f).serial = s.serial := rfl
@[simp] theorem State.updKeys_pending (s : State) (f : KeyState → KeyState) : (s.updKeys f).pending = s.pending := rfl
@[simp] theorem State.updKeys_deferred (s : State) (f : KeyState → KeyState) : (s.updKeys f).deferred = s.deferred := rfl
@[simp] theorem State.updKeys_out (s : State) (f : KeyState → KeyState) : (s.updKeys f).out = s.out := rfl
@[simp] theorem State.updKeys_arrivals (s : State) (f : KeyState → KeyState) : (s.updKeys f).arrivals = s.arrivals := rfl
@[simp] theorem State.updKeys_commit (s : State) (f : KeyState → KeyState) : (s.updKeys f).commit = s.commit := rfl
@[simp] theorem State.updKeys_thermal (s : State) (f : KeyState → KeyState) : (s.updKeys f).thermal = s.thermal := rfl
@[simp] theorem State.updKeys_avs (s : State) (f : KeyState → KeyState) : (s.updKeys f).avs = s.avs := rfl
@[simp] theorem State.updKeys_fabric (s : State) (f : KeyState → KeyState) : (s.updKeys f).fabric = s.fabric := rfl
@[simp] theorem State.updKeys_boot (s : State) (f : KeyState → KeyState) : (s.updKeys f).boot = s.boot := rfl
@[simp] theorem State.updKeys_otp (s : State) (f : KeyState → KeyState) : (s.updKeys f).otp = s.otp := rfl
@[simp] theorem State.updKeys_flash (s : State) (f : KeyState → KeyState) : (s.updKeys f).flash = s.flash := rfl
@[simp] theorem State.updKeys_owners (s : State) (f : KeyState → KeyState) : (s.updKeys f).owners = s.owners := rfl
@[simp] theorem State.updKeys_leases (s : State) (f : KeyState → KeyState) : (s.updKeys f).leases = s.leases := rfl
@[simp] theorem State.updKeys_hpa (s : State) (f : KeyState → KeyState) : (s.updKeys f).hpa = s.hpa := rfl
@[simp] theorem State.updKeys_net (s : State) (f : KeyState → KeyState) : (s.updKeys f).net = s.net := rfl
@[simp] theorem State.updKeys_mem (s : State) (f : KeyState → KeyState) : (s.updKeys f).mem = s.mem := rfl
@[simp] theorem State.updKeys_cores (s : State) (f : KeyState → KeyState) : (s.updKeys f).cores = s.cores := rfl
@[simp] theorem State.updKeys_jobs (s : State) (f : KeyState → KeyState) : (s.updKeys f).jobs = s.jobs := rfl
@[simp] theorem State.updKeys_headbox (s : State) (f : KeyState → KeyState) : (s.updKeys f).headbox = s.headbox := rfl
@[simp] theorem State.updKeys_sensors (s : State) (f : KeyState → KeyState) : (s.updKeys f).sensors = s.sensors := rfl
@[simp] theorem State.updKeys_tb (s : State) (f : KeyState → KeyState) : (s.updKeys f).tb = s.tb := rfl
@[simp] theorem State.updKeys_timers (s : State) (f : KeyState → KeyState) : (s.updKeys f).timers = s.timers := rfl
@[simp] theorem State.updKeys_axes (s : State) (f : KeyState → KeyState) : (s.updKeys f).axes = s.axes := rfl
@[simp] theorem State.updKeys_safety (s : State) (f : KeyState → KeyState) : (s.updKeys f).safety = s.safety := rfl
@[simp] theorem State.updKeys_illum (s : State) (f : KeyState → KeyState) : (s.updKeys f).illum = s.illum := rfl
@[simp] theorem State.updKeys_lbus (s : State) (f : KeyState → KeyState) : (s.updKeys f).lbus = s.lbus := rfl
@[simp] theorem State.updKeys_radio (s : State) (f : KeyState → KeyState) : (s.updKeys f).radio = s.radio := rfl
@[simp] theorem State.updKeys_tag (s : State) (f : KeyState → KeyState) : (s.updKeys f).tag = s.tag := rfl
@[simp] theorem State.updKeys_test (s : State) (f : KeyState → KeyState) : (s.updKeys f).test = s.test := rfl
@[simp] theorem State.updKeys_store (s : State) (f : KeyState → KeyState) : (s.updKeys f).store = s.store := rfl
@[simp] theorem State.updKeys_keys (s : State) (f : KeyState → KeyState) : (s.updKeys f).keys = f s.keys := rfl

/-! ### State.updHpa -/

@[simp] theorem State.updHpa_now (s : State) (f : Hpa → Hpa) : (s.updHpa f).now = s.now := rfl
@[simp] theorem State.updHpa_d02 (s : State) (f : Hpa → Hpa) : (s.updHpa f).d02 = s.d02 := rfl
@[simp] theorem State.updHpa_free (s : State) (f : Hpa → Hpa) : (s.updHpa f).free = s.free := rfl
@[simp] theorem State.updHpa_draws (s : State) (f : Hpa → Hpa) : (s.updHpa f).draws = s.draws := rfl
@[simp] theorem State.updHpa_serial (s : State) (f : Hpa → Hpa) : (s.updHpa f).serial = s.serial := rfl
@[simp] theorem State.updHpa_pending (s : State) (f : Hpa → Hpa) : (s.updHpa f).pending = s.pending := rfl
@[simp] theorem State.updHpa_deferred (s : State) (f : Hpa → Hpa) : (s.updHpa f).deferred = s.deferred := rfl
@[simp] theorem State.updHpa_out (s : State) (f : Hpa → Hpa) : (s.updHpa f).out = s.out := rfl
@[simp] theorem State.updHpa_arrivals (s : State) (f : Hpa → Hpa) : (s.updHpa f).arrivals = s.arrivals := rfl
@[simp] theorem State.updHpa_commit (s : State) (f : Hpa → Hpa) : (s.updHpa f).commit = s.commit := rfl
@[simp] theorem State.updHpa_thermal (s : State) (f : Hpa → Hpa) : (s.updHpa f).thermal = s.thermal := rfl
@[simp] theorem State.updHpa_avs (s : State) (f : Hpa → Hpa) : (s.updHpa f).avs = s.avs := rfl
@[simp] theorem State.updHpa_fabric (s : State) (f : Hpa → Hpa) : (s.updHpa f).fabric = s.fabric := rfl
@[simp] theorem State.updHpa_boot (s : State) (f : Hpa → Hpa) : (s.updHpa f).boot = s.boot := rfl
@[simp] theorem State.updHpa_otp (s : State) (f : Hpa → Hpa) : (s.updHpa f).otp = s.otp := rfl
@[simp] theorem State.updHpa_flash (s : State) (f : Hpa → Hpa) : (s.updHpa f).flash = s.flash := rfl
@[simp] theorem State.updHpa_owners (s : State) (f : Hpa → Hpa) : (s.updHpa f).owners = s.owners := rfl
@[simp] theorem State.updHpa_leases (s : State) (f : Hpa → Hpa) : (s.updHpa f).leases = s.leases := rfl
@[simp] theorem State.updHpa_net (s : State) (f : Hpa → Hpa) : (s.updHpa f).net = s.net := rfl
@[simp] theorem State.updHpa_mem (s : State) (f : Hpa → Hpa) : (s.updHpa f).mem = s.mem := rfl
@[simp] theorem State.updHpa_keys (s : State) (f : Hpa → Hpa) : (s.updHpa f).keys = s.keys := rfl
@[simp] theorem State.updHpa_cores (s : State) (f : Hpa → Hpa) : (s.updHpa f).cores = s.cores := rfl
@[simp] theorem State.updHpa_jobs (s : State) (f : Hpa → Hpa) : (s.updHpa f).jobs = s.jobs := rfl
@[simp] theorem State.updHpa_headbox (s : State) (f : Hpa → Hpa) : (s.updHpa f).headbox = s.headbox := rfl
@[simp] theorem State.updHpa_sensors (s : State) (f : Hpa → Hpa) : (s.updHpa f).sensors = s.sensors := rfl
@[simp] theorem State.updHpa_tb (s : State) (f : Hpa → Hpa) : (s.updHpa f).tb = s.tb := rfl
@[simp] theorem State.updHpa_timers (s : State) (f : Hpa → Hpa) : (s.updHpa f).timers = s.timers := rfl
@[simp] theorem State.updHpa_axes (s : State) (f : Hpa → Hpa) : (s.updHpa f).axes = s.axes := rfl
@[simp] theorem State.updHpa_safety (s : State) (f : Hpa → Hpa) : (s.updHpa f).safety = s.safety := rfl
@[simp] theorem State.updHpa_illum (s : State) (f : Hpa → Hpa) : (s.updHpa f).illum = s.illum := rfl
@[simp] theorem State.updHpa_lbus (s : State) (f : Hpa → Hpa) : (s.updHpa f).lbus = s.lbus := rfl
@[simp] theorem State.updHpa_radio (s : State) (f : Hpa → Hpa) : (s.updHpa f).radio = s.radio := rfl
@[simp] theorem State.updHpa_tag (s : State) (f : Hpa → Hpa) : (s.updHpa f).tag = s.tag := rfl
@[simp] theorem State.updHpa_test (s : State) (f : Hpa → Hpa) : (s.updHpa f).test = s.test := rfl
@[simp] theorem State.updHpa_store (s : State) (f : Hpa → Hpa) : (s.updHpa f).store = s.store := rfl
@[simp] theorem State.updHpa_hpa (s : State) (f : Hpa → Hpa) : (s.updHpa f).hpa = f s.hpa := rfl

/-! ### State.updNet -/

@[simp] theorem State.updNet_now (s : State) (f : Net → Net) : (s.updNet f).now = s.now := rfl
@[simp] theorem State.updNet_d02 (s : State) (f : Net → Net) : (s.updNet f).d02 = s.d02 := rfl
@[simp] theorem State.updNet_free (s : State) (f : Net → Net) : (s.updNet f).free = s.free := rfl
@[simp] theorem State.updNet_draws (s : State) (f : Net → Net) : (s.updNet f).draws = s.draws := rfl
@[simp] theorem State.updNet_serial (s : State) (f : Net → Net) : (s.updNet f).serial = s.serial := rfl
@[simp] theorem State.updNet_pending (s : State) (f : Net → Net) : (s.updNet f).pending = s.pending := rfl
@[simp] theorem State.updNet_deferred (s : State) (f : Net → Net) : (s.updNet f).deferred = s.deferred := rfl
@[simp] theorem State.updNet_out (s : State) (f : Net → Net) : (s.updNet f).out = s.out := rfl
@[simp] theorem State.updNet_arrivals (s : State) (f : Net → Net) : (s.updNet f).arrivals = s.arrivals := rfl
@[simp] theorem State.updNet_commit (s : State) (f : Net → Net) : (s.updNet f).commit = s.commit := rfl
@[simp] theorem State.updNet_thermal (s : State) (f : Net → Net) : (s.updNet f).thermal = s.thermal := rfl
@[simp] theorem State.updNet_avs (s : State) (f : Net → Net) : (s.updNet f).avs = s.avs := rfl
@[simp] theorem State.updNet_fabric (s : State) (f : Net → Net) : (s.updNet f).fabric = s.fabric := rfl
@[simp] theorem State.updNet_boot (s : State) (f : Net → Net) : (s.updNet f).boot = s.boot := rfl
@[simp] theorem State.updNet_otp (s : State) (f : Net → Net) : (s.updNet f).otp = s.otp := rfl
@[simp] theorem State.updNet_flash (s : State) (f : Net → Net) : (s.updNet f).flash = s.flash := rfl
@[simp] theorem State.updNet_owners (s : State) (f : Net → Net) : (s.updNet f).owners = s.owners := rfl
@[simp] theorem State.updNet_leases (s : State) (f : Net → Net) : (s.updNet f).leases = s.leases := rfl
@[simp] theorem State.updNet_hpa (s : State) (f : Net → Net) : (s.updNet f).hpa = s.hpa := rfl
@[simp] theorem State.updNet_mem (s : State) (f : Net → Net) : (s.updNet f).mem = s.mem := rfl
@[simp] theorem State.updNet_keys (s : State) (f : Net → Net) : (s.updNet f).keys = s.keys := rfl
@[simp] theorem State.updNet_cores (s : State) (f : Net → Net) : (s.updNet f).cores = s.cores := rfl
@[simp] theorem State.updNet_jobs (s : State) (f : Net → Net) : (s.updNet f).jobs = s.jobs := rfl
@[simp] theorem State.updNet_headbox (s : State) (f : Net → Net) : (s.updNet f).headbox = s.headbox := rfl
@[simp] theorem State.updNet_sensors (s : State) (f : Net → Net) : (s.updNet f).sensors = s.sensors := rfl
@[simp] theorem State.updNet_tb (s : State) (f : Net → Net) : (s.updNet f).tb = s.tb := rfl
@[simp] theorem State.updNet_timers (s : State) (f : Net → Net) : (s.updNet f).timers = s.timers := rfl
@[simp] theorem State.updNet_axes (s : State) (f : Net → Net) : (s.updNet f).axes = s.axes := rfl
@[simp] theorem State.updNet_safety (s : State) (f : Net → Net) : (s.updNet f).safety = s.safety := rfl
@[simp] theorem State.updNet_illum (s : State) (f : Net → Net) : (s.updNet f).illum = s.illum := rfl
@[simp] theorem State.updNet_lbus (s : State) (f : Net → Net) : (s.updNet f).lbus = s.lbus := rfl
@[simp] theorem State.updNet_radio (s : State) (f : Net → Net) : (s.updNet f).radio = s.radio := rfl
@[simp] theorem State.updNet_tag (s : State) (f : Net → Net) : (s.updNet f).tag = s.tag := rfl
@[simp] theorem State.updNet_test (s : State) (f : Net → Net) : (s.updNet f).test = s.test := rfl
@[simp] theorem State.updNet_store (s : State) (f : Net → Net) : (s.updNet f).store = s.store := rfl
@[simp] theorem State.updNet_net (s : State) (f : Net → Net) : (s.updNet f).net = f s.net := rfl

/-! ### State.updBoot -/

@[simp] theorem State.updBoot_now (s : State) (f : Boot → Boot) : (s.updBoot f).now = s.now := rfl
@[simp] theorem State.updBoot_d02 (s : State) (f : Boot → Boot) : (s.updBoot f).d02 = s.d02 := rfl
@[simp] theorem State.updBoot_free (s : State) (f : Boot → Boot) : (s.updBoot f).free = s.free := rfl
@[simp] theorem State.updBoot_draws (s : State) (f : Boot → Boot) : (s.updBoot f).draws = s.draws := rfl
@[simp] theorem State.updBoot_serial (s : State) (f : Boot → Boot) : (s.updBoot f).serial = s.serial := rfl
@[simp] theorem State.updBoot_pending (s : State) (f : Boot → Boot) : (s.updBoot f).pending = s.pending := rfl
@[simp] theorem State.updBoot_deferred (s : State) (f : Boot → Boot) : (s.updBoot f).deferred = s.deferred := rfl
@[simp] theorem State.updBoot_out (s : State) (f : Boot → Boot) : (s.updBoot f).out = s.out := rfl
@[simp] theorem State.updBoot_arrivals (s : State) (f : Boot → Boot) : (s.updBoot f).arrivals = s.arrivals := rfl
@[simp] theorem State.updBoot_commit (s : State) (f : Boot → Boot) : (s.updBoot f).commit = s.commit := rfl
@[simp] theorem State.updBoot_thermal (s : State) (f : Boot → Boot) : (s.updBoot f).thermal = s.thermal := rfl
@[simp] theorem State.updBoot_avs (s : State) (f : Boot → Boot) : (s.updBoot f).avs = s.avs := rfl
@[simp] theorem State.updBoot_fabric (s : State) (f : Boot → Boot) : (s.updBoot f).fabric = s.fabric := rfl
@[simp] theorem State.updBoot_otp (s : State) (f : Boot → Boot) : (s.updBoot f).otp = s.otp := rfl
@[simp] theorem State.updBoot_flash (s : State) (f : Boot → Boot) : (s.updBoot f).flash = s.flash := rfl
@[simp] theorem State.updBoot_owners (s : State) (f : Boot → Boot) : (s.updBoot f).owners = s.owners := rfl
@[simp] theorem State.updBoot_leases (s : State) (f : Boot → Boot) : (s.updBoot f).leases = s.leases := rfl
@[simp] theorem State.updBoot_hpa (s : State) (f : Boot → Boot) : (s.updBoot f).hpa = s.hpa := rfl
@[simp] theorem State.updBoot_net (s : State) (f : Boot → Boot) : (s.updBoot f).net = s.net := rfl
@[simp] theorem State.updBoot_mem (s : State) (f : Boot → Boot) : (s.updBoot f).mem = s.mem := rfl
@[simp] theorem State.updBoot_keys (s : State) (f : Boot → Boot) : (s.updBoot f).keys = s.keys := rfl
@[simp] theorem State.updBoot_cores (s : State) (f : Boot → Boot) : (s.updBoot f).cores = s.cores := rfl
@[simp] theorem State.updBoot_jobs (s : State) (f : Boot → Boot) : (s.updBoot f).jobs = s.jobs := rfl
@[simp] theorem State.updBoot_headbox (s : State) (f : Boot → Boot) : (s.updBoot f).headbox = s.headbox := rfl
@[simp] theorem State.updBoot_sensors (s : State) (f : Boot → Boot) : (s.updBoot f).sensors = s.sensors := rfl
@[simp] theorem State.updBoot_tb (s : State) (f : Boot → Boot) : (s.updBoot f).tb = s.tb := rfl
@[simp] theorem State.updBoot_timers (s : State) (f : Boot → Boot) : (s.updBoot f).timers = s.timers := rfl
@[simp] theorem State.updBoot_axes (s : State) (f : Boot → Boot) : (s.updBoot f).axes = s.axes := rfl
@[simp] theorem State.updBoot_safety (s : State) (f : Boot → Boot) : (s.updBoot f).safety = s.safety := rfl
@[simp] theorem State.updBoot_illum (s : State) (f : Boot → Boot) : (s.updBoot f).illum = s.illum := rfl
@[simp] theorem State.updBoot_lbus (s : State) (f : Boot → Boot) : (s.updBoot f).lbus = s.lbus := rfl
@[simp] theorem State.updBoot_radio (s : State) (f : Boot → Boot) : (s.updBoot f).radio = s.radio := rfl
@[simp] theorem State.updBoot_tag (s : State) (f : Boot → Boot) : (s.updBoot f).tag = s.tag := rfl
@[simp] theorem State.updBoot_test (s : State) (f : Boot → Boot) : (s.updBoot f).test = s.test := rfl
@[simp] theorem State.updBoot_store (s : State) (f : Boot → Boot) : (s.updBoot f).store = s.store := rfl
@[simp] theorem State.updBoot_boot (s : State) (f : Boot → Boot) : (s.updBoot f).boot = f s.boot := rfl

/-! ### State.updThermal -/

@[simp] theorem State.updThermal_now (s : State) (f : Thermal → Thermal) : (s.updThermal f).now = s.now := rfl
@[simp] theorem State.updThermal_d02 (s : State) (f : Thermal → Thermal) : (s.updThermal f).d02 = s.d02 := rfl
@[simp] theorem State.updThermal_free (s : State) (f : Thermal → Thermal) : (s.updThermal f).free = s.free := rfl
@[simp] theorem State.updThermal_draws (s : State) (f : Thermal → Thermal) : (s.updThermal f).draws = s.draws := rfl
@[simp] theorem State.updThermal_serial (s : State) (f : Thermal → Thermal) : (s.updThermal f).serial = s.serial := rfl
@[simp] theorem State.updThermal_pending (s : State) (f : Thermal → Thermal) : (s.updThermal f).pending = s.pending := rfl
@[simp] theorem State.updThermal_deferred (s : State) (f : Thermal → Thermal) : (s.updThermal f).deferred = s.deferred := rfl
@[simp] theorem State.updThermal_out (s : State) (f : Thermal → Thermal) : (s.updThermal f).out = s.out := rfl
@[simp] theorem State.updThermal_arrivals (s : State) (f : Thermal → Thermal) : (s.updThermal f).arrivals = s.arrivals := rfl
@[simp] theorem State.updThermal_commit (s : State) (f : Thermal → Thermal) : (s.updThermal f).commit = s.commit := rfl
@[simp] theorem State.updThermal_avs (s : State) (f : Thermal → Thermal) : (s.updThermal f).avs = s.avs := rfl
@[simp] theorem State.updThermal_fabric (s : State) (f : Thermal → Thermal) : (s.updThermal f).fabric = s.fabric := rfl
@[simp] theorem State.updThermal_boot (s : State) (f : Thermal → Thermal) : (s.updThermal f).boot = s.boot := rfl
@[simp] theorem State.updThermal_otp (s : State) (f : Thermal → Thermal) : (s.updThermal f).otp = s.otp := rfl
@[simp] theorem State.updThermal_flash (s : State) (f : Thermal → Thermal) : (s.updThermal f).flash = s.flash := rfl
@[simp] theorem State.updThermal_owners (s : State) (f : Thermal → Thermal) : (s.updThermal f).owners = s.owners := rfl
@[simp] theorem State.updThermal_leases (s : State) (f : Thermal → Thermal) : (s.updThermal f).leases = s.leases := rfl
@[simp] theorem State.updThermal_hpa (s : State) (f : Thermal → Thermal) : (s.updThermal f).hpa = s.hpa := rfl
@[simp] theorem State.updThermal_net (s : State) (f : Thermal → Thermal) : (s.updThermal f).net = s.net := rfl
@[simp] theorem State.updThermal_mem (s : State) (f : Thermal → Thermal) : (s.updThermal f).mem = s.mem := rfl
@[simp] theorem State.updThermal_keys (s : State) (f : Thermal → Thermal) : (s.updThermal f).keys = s.keys := rfl
@[simp] theorem State.updThermal_cores (s : State) (f : Thermal → Thermal) : (s.updThermal f).cores = s.cores := rfl
@[simp] theorem State.updThermal_jobs (s : State) (f : Thermal → Thermal) : (s.updThermal f).jobs = s.jobs := rfl
@[simp] theorem State.updThermal_headbox (s : State) (f : Thermal → Thermal) : (s.updThermal f).headbox = s.headbox := rfl
@[simp] theorem State.updThermal_sensors (s : State) (f : Thermal → Thermal) : (s.updThermal f).sensors = s.sensors := rfl
@[simp] theorem State.updThermal_tb (s : State) (f : Thermal → Thermal) : (s.updThermal f).tb = s.tb := rfl
@[simp] theorem State.updThermal_timers (s : State) (f : Thermal → Thermal) : (s.updThermal f).timers = s.timers := rfl
@[simp] theorem State.updThermal_axes (s : State) (f : Thermal → Thermal) : (s.updThermal f).axes = s.axes := rfl
@[simp] theorem State.updThermal_safety (s : State) (f : Thermal → Thermal) : (s.updThermal f).safety = s.safety := rfl
@[simp] theorem State.updThermal_illum (s : State) (f : Thermal → Thermal) : (s.updThermal f).illum = s.illum := rfl
@[simp] theorem State.updThermal_lbus (s : State) (f : Thermal → Thermal) : (s.updThermal f).lbus = s.lbus := rfl
@[simp] theorem State.updThermal_radio (s : State) (f : Thermal → Thermal) : (s.updThermal f).radio = s.radio := rfl
@[simp] theorem State.updThermal_tag (s : State) (f : Thermal → Thermal) : (s.updThermal f).tag = s.tag := rfl
@[simp] theorem State.updThermal_test (s : State) (f : Thermal → Thermal) : (s.updThermal f).test = s.test := rfl
@[simp] theorem State.updThermal_store (s : State) (f : Thermal → Thermal) : (s.updThermal f).store = s.store := rfl
@[simp] theorem State.updThermal_thermal (s : State) (f : Thermal → Thermal) : (s.updThermal f).thermal = f s.thermal := rfl

/-! ### State.updAvs -/

@[simp] theorem State.updAvs_now (s : State) (f : Avs → Avs) : (s.updAvs f).now = s.now := rfl
@[simp] theorem State.updAvs_d02 (s : State) (f : Avs → Avs) : (s.updAvs f).d02 = s.d02 := rfl
@[simp] theorem State.updAvs_free (s : State) (f : Avs → Avs) : (s.updAvs f).free = s.free := rfl
@[simp] theorem State.updAvs_draws (s : State) (f : Avs → Avs) : (s.updAvs f).draws = s.draws := rfl
@[simp] theorem State.updAvs_serial (s : State) (f : Avs → Avs) : (s.updAvs f).serial = s.serial := rfl
@[simp] theorem State.updAvs_pending (s : State) (f : Avs → Avs) : (s.updAvs f).pending = s.pending := rfl
@[simp] theorem State.updAvs_deferred (s : State) (f : Avs → Avs) : (s.updAvs f).deferred = s.deferred := rfl
@[simp] theorem State.updAvs_out (s : State) (f : Avs → Avs) : (s.updAvs f).out = s.out := rfl
@[simp] theorem State.updAvs_arrivals (s : State) (f : Avs → Avs) : (s.updAvs f).arrivals = s.arrivals := rfl
@[simp] theorem State.updAvs_commit (s : State) (f : Avs → Avs) : (s.updAvs f).commit = s.commit := rfl
@[simp] theorem State.updAvs_thermal (s : State) (f : Avs → Avs) : (s.updAvs f).thermal = s.thermal := rfl
@[simp] theorem State.updAvs_fabric (s : State) (f : Avs → Avs) : (s.updAvs f).fabric = s.fabric := rfl
@[simp] theorem State.updAvs_boot (s : State) (f : Avs → Avs) : (s.updAvs f).boot = s.boot := rfl
@[simp] theorem State.updAvs_otp (s : State) (f : Avs → Avs) : (s.updAvs f).otp = s.otp := rfl
@[simp] theorem State.updAvs_flash (s : State) (f : Avs → Avs) : (s.updAvs f).flash = s.flash := rfl
@[simp] theorem State.updAvs_owners (s : State) (f : Avs → Avs) : (s.updAvs f).owners = s.owners := rfl
@[simp] theorem State.updAvs_leases (s : State) (f : Avs → Avs) : (s.updAvs f).leases = s.leases := rfl
@[simp] theorem State.updAvs_hpa (s : State) (f : Avs → Avs) : (s.updAvs f).hpa = s.hpa := rfl
@[simp] theorem State.updAvs_net (s : State) (f : Avs → Avs) : (s.updAvs f).net = s.net := rfl
@[simp] theorem State.updAvs_mem (s : State) (f : Avs → Avs) : (s.updAvs f).mem = s.mem := rfl
@[simp] theorem State.updAvs_keys (s : State) (f : Avs → Avs) : (s.updAvs f).keys = s.keys := rfl
@[simp] theorem State.updAvs_cores (s : State) (f : Avs → Avs) : (s.updAvs f).cores = s.cores := rfl
@[simp] theorem State.updAvs_jobs (s : State) (f : Avs → Avs) : (s.updAvs f).jobs = s.jobs := rfl
@[simp] theorem State.updAvs_headbox (s : State) (f : Avs → Avs) : (s.updAvs f).headbox = s.headbox := rfl
@[simp] theorem State.updAvs_sensors (s : State) (f : Avs → Avs) : (s.updAvs f).sensors = s.sensors := rfl
@[simp] theorem State.updAvs_tb (s : State) (f : Avs → Avs) : (s.updAvs f).tb = s.tb := rfl
@[simp] theorem State.updAvs_timers (s : State) (f : Avs → Avs) : (s.updAvs f).timers = s.timers := rfl
@[simp] theorem State.updAvs_axes (s : State) (f : Avs → Avs) : (s.updAvs f).axes = s.axes := rfl
@[simp] theorem State.updAvs_safety (s : State) (f : Avs → Avs) : (s.updAvs f).safety = s.safety := rfl
@[simp] theorem State.updAvs_illum (s : State) (f : Avs → Avs) : (s.updAvs f).illum = s.illum := rfl
@[simp] theorem State.updAvs_lbus (s : State) (f : Avs → Avs) : (s.updAvs f).lbus = s.lbus := rfl
@[simp] theorem State.updAvs_radio (s : State) (f : Avs → Avs) : (s.updAvs f).radio = s.radio := rfl
@[simp] theorem State.updAvs_tag (s : State) (f : Avs → Avs) : (s.updAvs f).tag = s.tag := rfl
@[simp] theorem State.updAvs_test (s : State) (f : Avs → Avs) : (s.updAvs f).test = s.test := rfl
@[simp] theorem State.updAvs_store (s : State) (f : Avs → Avs) : (s.updAvs f).store = s.store := rfl
@[simp] theorem State.updAvs_avs (s : State) (f : Avs → Avs) : (s.updAvs f).avs = f s.avs := rfl

/-! ### State.updFabric -/

@[simp] theorem State.updFabric_now (s : State) (f : Fabric → Fabric) : (s.updFabric f).now = s.now := rfl
@[simp] theorem State.updFabric_d02 (s : State) (f : Fabric → Fabric) : (s.updFabric f).d02 = s.d02 := rfl
@[simp] theorem State.updFabric_free (s : State) (f : Fabric → Fabric) : (s.updFabric f).free = s.free := rfl
@[simp] theorem State.updFabric_draws (s : State) (f : Fabric → Fabric) : (s.updFabric f).draws = s.draws := rfl
@[simp] theorem State.updFabric_serial (s : State) (f : Fabric → Fabric) : (s.updFabric f).serial = s.serial := rfl
@[simp] theorem State.updFabric_pending (s : State) (f : Fabric → Fabric) : (s.updFabric f).pending = s.pending := rfl
@[simp] theorem State.updFabric_deferred (s : State) (f : Fabric → Fabric) : (s.updFabric f).deferred = s.deferred := rfl
@[simp] theorem State.updFabric_out (s : State) (f : Fabric → Fabric) : (s.updFabric f).out = s.out := rfl
@[simp] theorem State.updFabric_arrivals (s : State) (f : Fabric → Fabric) : (s.updFabric f).arrivals = s.arrivals := rfl
@[simp] theorem State.updFabric_commit (s : State) (f : Fabric → Fabric) : (s.updFabric f).commit = s.commit := rfl
@[simp] theorem State.updFabric_thermal (s : State) (f : Fabric → Fabric) : (s.updFabric f).thermal = s.thermal := rfl
@[simp] theorem State.updFabric_avs (s : State) (f : Fabric → Fabric) : (s.updFabric f).avs = s.avs := rfl
@[simp] theorem State.updFabric_boot (s : State) (f : Fabric → Fabric) : (s.updFabric f).boot = s.boot := rfl
@[simp] theorem State.updFabric_otp (s : State) (f : Fabric → Fabric) : (s.updFabric f).otp = s.otp := rfl
@[simp] theorem State.updFabric_flash (s : State) (f : Fabric → Fabric) : (s.updFabric f).flash = s.flash := rfl
@[simp] theorem State.updFabric_owners (s : State) (f : Fabric → Fabric) : (s.updFabric f).owners = s.owners := rfl
@[simp] theorem State.updFabric_leases (s : State) (f : Fabric → Fabric) : (s.updFabric f).leases = s.leases := rfl
@[simp] theorem State.updFabric_hpa (s : State) (f : Fabric → Fabric) : (s.updFabric f).hpa = s.hpa := rfl
@[simp] theorem State.updFabric_net (s : State) (f : Fabric → Fabric) : (s.updFabric f).net = s.net := rfl
@[simp] theorem State.updFabric_mem (s : State) (f : Fabric → Fabric) : (s.updFabric f).mem = s.mem := rfl
@[simp] theorem State.updFabric_keys (s : State) (f : Fabric → Fabric) : (s.updFabric f).keys = s.keys := rfl
@[simp] theorem State.updFabric_cores (s : State) (f : Fabric → Fabric) : (s.updFabric f).cores = s.cores := rfl
@[simp] theorem State.updFabric_jobs (s : State) (f : Fabric → Fabric) : (s.updFabric f).jobs = s.jobs := rfl
@[simp] theorem State.updFabric_headbox (s : State) (f : Fabric → Fabric) : (s.updFabric f).headbox = s.headbox := rfl
@[simp] theorem State.updFabric_sensors (s : State) (f : Fabric → Fabric) : (s.updFabric f).sensors = s.sensors := rfl
@[simp] theorem State.updFabric_tb (s : State) (f : Fabric → Fabric) : (s.updFabric f).tb = s.tb := rfl
@[simp] theorem State.updFabric_timers (s : State) (f : Fabric → Fabric) : (s.updFabric f).timers = s.timers := rfl
@[simp] theorem State.updFabric_axes (s : State) (f : Fabric → Fabric) : (s.updFabric f).axes = s.axes := rfl
@[simp] theorem State.updFabric_safety (s : State) (f : Fabric → Fabric) : (s.updFabric f).safety = s.safety := rfl
@[simp] theorem State.updFabric_illum (s : State) (f : Fabric → Fabric) : (s.updFabric f).illum = s.illum := rfl
@[simp] theorem State.updFabric_lbus (s : State) (f : Fabric → Fabric) : (s.updFabric f).lbus = s.lbus := rfl
@[simp] theorem State.updFabric_radio (s : State) (f : Fabric → Fabric) : (s.updFabric f).radio = s.radio := rfl
@[simp] theorem State.updFabric_tag (s : State) (f : Fabric → Fabric) : (s.updFabric f).tag = s.tag := rfl
@[simp] theorem State.updFabric_test (s : State) (f : Fabric → Fabric) : (s.updFabric f).test = s.test := rfl
@[simp] theorem State.updFabric_store (s : State) (f : Fabric → Fabric) : (s.updFabric f).store = s.store := rfl
@[simp] theorem State.updFabric_fabric (s : State) (f : Fabric → Fabric) : (s.updFabric f).fabric = f s.fabric := rfl

/-! ### State.tookFree -/

@[simp] theorem State.tookFree_now (s : State) : (s.tookFree).now = s.now := rfl
@[simp] theorem State.tookFree_d02 (s : State) : (s.tookFree).d02 = s.d02 := rfl
@[simp] theorem State.tookFree_draws (s : State) : (s.tookFree).draws = s.draws := rfl
@[simp] theorem State.tookFree_serial (s : State) : (s.tookFree).serial = s.serial := rfl
@[simp] theorem State.tookFree_pending (s : State) : (s.tookFree).pending = s.pending := rfl
@[simp] theorem State.tookFree_deferred (s : State) : (s.tookFree).deferred = s.deferred := rfl
@[simp] theorem State.tookFree_out (s : State) : (s.tookFree).out = s.out := rfl
@[simp] theorem State.tookFree_arrivals (s : State) : (s.tookFree).arrivals = s.arrivals := rfl
@[simp] theorem State.tookFree_commit (s : State) : (s.tookFree).commit = s.commit := rfl
@[simp] theorem State.tookFree_thermal (s : State) : (s.tookFree).thermal = s.thermal := rfl
@[simp] theorem State.tookFree_avs (s : State) : (s.tookFree).avs = s.avs := rfl
@[simp] theorem State.tookFree_fabric (s : State) : (s.tookFree).fabric = s.fabric := rfl
@[simp] theorem State.tookFree_boot (s : State) : (s.tookFree).boot = s.boot := rfl
@[simp] theorem State.tookFree_otp (s : State) : (s.tookFree).otp = s.otp := rfl
@[simp] theorem State.tookFree_flash (s : State) : (s.tookFree).flash = s.flash := rfl
@[simp] theorem State.tookFree_owners (s : State) : (s.tookFree).owners = s.owners := rfl
@[simp] theorem State.tookFree_leases (s : State) : (s.tookFree).leases = s.leases := rfl
@[simp] theorem State.tookFree_hpa (s : State) : (s.tookFree).hpa = s.hpa := rfl
@[simp] theorem State.tookFree_net (s : State) : (s.tookFree).net = s.net := rfl
@[simp] theorem State.tookFree_mem (s : State) : (s.tookFree).mem = s.mem := rfl
@[simp] theorem State.tookFree_keys (s : State) : (s.tookFree).keys = s.keys := rfl
@[simp] theorem State.tookFree_cores (s : State) : (s.tookFree).cores = s.cores := rfl
@[simp] theorem State.tookFree_jobs (s : State) : (s.tookFree).jobs = s.jobs := rfl
@[simp] theorem State.tookFree_headbox (s : State) : (s.tookFree).headbox = s.headbox := rfl
@[simp] theorem State.tookFree_sensors (s : State) : (s.tookFree).sensors = s.sensors := rfl
@[simp] theorem State.tookFree_tb (s : State) : (s.tookFree).tb = s.tb := rfl
@[simp] theorem State.tookFree_timers (s : State) : (s.tookFree).timers = s.timers := rfl
@[simp] theorem State.tookFree_axes (s : State) : (s.tookFree).axes = s.axes := rfl
@[simp] theorem State.tookFree_safety (s : State) : (s.tookFree).safety = s.safety := rfl
@[simp] theorem State.tookFree_illum (s : State) : (s.tookFree).illum = s.illum := rfl
@[simp] theorem State.tookFree_lbus (s : State) : (s.tookFree).lbus = s.lbus := rfl
@[simp] theorem State.tookFree_radio (s : State) : (s.tookFree).radio = s.radio := rfl
@[simp] theorem State.tookFree_tag (s : State) : (s.tookFree).tag = s.tag := rfl
@[simp] theorem State.tookFree_test (s : State) : (s.tookFree).test = s.test := rfl
@[simp] theorem State.tookFree_store (s : State) : (s.tookFree).store = s.store := rfl
@[simp] theorem State.tookFree_free (s : State) : s.tookFree.free = s.free + 1 := rfl

/-! ### State.drew -/

@[simp] theorem State.drew_now (s : State) : (s.drew).now = s.now := rfl
@[simp] theorem State.drew_d02 (s : State) : (s.drew).d02 = s.d02 := rfl
@[simp] theorem State.drew_free (s : State) : (s.drew).free = s.free := rfl
@[simp] theorem State.drew_serial (s : State) : (s.drew).serial = s.serial := rfl
@[simp] theorem State.drew_pending (s : State) : (s.drew).pending = s.pending := rfl
@[simp] theorem State.drew_deferred (s : State) : (s.drew).deferred = s.deferred := rfl
@[simp] theorem State.drew_out (s : State) : (s.drew).out = s.out := rfl
@[simp] theorem State.drew_arrivals (s : State) : (s.drew).arrivals = s.arrivals := rfl
@[simp] theorem State.drew_commit (s : State) : (s.drew).commit = s.commit := rfl
@[simp] theorem State.drew_thermal (s : State) : (s.drew).thermal = s.thermal := rfl
@[simp] theorem State.drew_avs (s : State) : (s.drew).avs = s.avs := rfl
@[simp] theorem State.drew_fabric (s : State) : (s.drew).fabric = s.fabric := rfl
@[simp] theorem State.drew_boot (s : State) : (s.drew).boot = s.boot := rfl
@[simp] theorem State.drew_otp (s : State) : (s.drew).otp = s.otp := rfl
@[simp] theorem State.drew_flash (s : State) : (s.drew).flash = s.flash := rfl
@[simp] theorem State.drew_owners (s : State) : (s.drew).owners = s.owners := rfl
@[simp] theorem State.drew_leases (s : State) : (s.drew).leases = s.leases := rfl
@[simp] theorem State.drew_hpa (s : State) : (s.drew).hpa = s.hpa := rfl
@[simp] theorem State.drew_net (s : State) : (s.drew).net = s.net := rfl
@[simp] theorem State.drew_mem (s : State) : (s.drew).mem = s.mem := rfl
@[simp] theorem State.drew_cores (s : State) : (s.drew).cores = s.cores := rfl
@[simp] theorem State.drew_jobs (s : State) : (s.drew).jobs = s.jobs := rfl
@[simp] theorem State.drew_headbox (s : State) : (s.drew).headbox = s.headbox := rfl
@[simp] theorem State.drew_sensors (s : State) : (s.drew).sensors = s.sensors := rfl
@[simp] theorem State.drew_tb (s : State) : (s.drew).tb = s.tb := rfl
@[simp] theorem State.drew_timers (s : State) : (s.drew).timers = s.timers := rfl
@[simp] theorem State.drew_axes (s : State) : (s.drew).axes = s.axes := rfl
@[simp] theorem State.drew_safety (s : State) : (s.drew).safety = s.safety := rfl
@[simp] theorem State.drew_illum (s : State) : (s.drew).illum = s.illum := rfl
@[simp] theorem State.drew_lbus (s : State) : (s.drew).lbus = s.lbus := rfl
@[simp] theorem State.drew_radio (s : State) : (s.drew).radio = s.radio := rfl
@[simp] theorem State.drew_tag (s : State) : (s.drew).tag = s.tag := rfl
@[simp] theorem State.drew_test (s : State) : (s.drew).test = s.test := rfl
@[simp] theorem State.drew_store (s : State) : (s.drew).store = s.store := rfl
@[simp] theorem State.drew_draws (s : State) : s.drew.draws = s.draws + 1 := rfl

/-! ### State.putOff -/

@[simp] theorem State.putOff_now (s : State) (c : Instr) : (s.putOff c).now = s.now := rfl
@[simp] theorem State.putOff_d02 (s : State) (c : Instr) : (s.putOff c).d02 = s.d02 := rfl
@[simp] theorem State.putOff_free (s : State) (c : Instr) : (s.putOff c).free = s.free := rfl
@[simp] theorem State.putOff_serial (s : State) (c : Instr) : (s.putOff c).serial = s.serial := rfl
@[simp] theorem State.putOff_pending (s : State) (c : Instr) : (s.putOff c).pending = s.pending := rfl
@[simp] theorem State.putOff_out (s : State) (c : Instr) : (s.putOff c).out = s.out := rfl
@[simp] theorem State.putOff_arrivals (s : State) (c : Instr) : (s.putOff c).arrivals = s.arrivals := rfl
@[simp] theorem State.putOff_commit (s : State) (c : Instr) : (s.putOff c).commit = s.commit := rfl
@[simp] theorem State.putOff_thermal (s : State) (c : Instr) : (s.putOff c).thermal = s.thermal := rfl
@[simp] theorem State.putOff_avs (s : State) (c : Instr) : (s.putOff c).avs = s.avs := rfl
@[simp] theorem State.putOff_fabric (s : State) (c : Instr) : (s.putOff c).fabric = s.fabric := rfl
@[simp] theorem State.putOff_boot (s : State) (c : Instr) : (s.putOff c).boot = s.boot := rfl
@[simp] theorem State.putOff_otp (s : State) (c : Instr) : (s.putOff c).otp = s.otp := rfl
@[simp] theorem State.putOff_flash (s : State) (c : Instr) : (s.putOff c).flash = s.flash := rfl
@[simp] theorem State.putOff_owners (s : State) (c : Instr) : (s.putOff c).owners = s.owners := rfl
@[simp] theorem State.putOff_leases (s : State) (c : Instr) : (s.putOff c).leases = s.leases := rfl
@[simp] theorem State.putOff_hpa (s : State) (c : Instr) : (s.putOff c).hpa = s.hpa := rfl
@[simp] theorem State.putOff_net (s : State) (c : Instr) : (s.putOff c).net = s.net := rfl
@[simp] theorem State.putOff_mem (s : State) (c : Instr) : (s.putOff c).mem = s.mem := rfl
@[simp] theorem State.putOff_keys (s : State) (c : Instr) : (s.putOff c).keys = s.keys := rfl
@[simp] theorem State.putOff_cores (s : State) (c : Instr) : (s.putOff c).cores = s.cores := rfl
@[simp] theorem State.putOff_jobs (s : State) (c : Instr) : (s.putOff c).jobs = s.jobs := rfl
@[simp] theorem State.putOff_headbox (s : State) (c : Instr) : (s.putOff c).headbox = s.headbox := rfl
@[simp] theorem State.putOff_sensors (s : State) (c : Instr) : (s.putOff c).sensors = s.sensors := rfl
@[simp] theorem State.putOff_tb (s : State) (c : Instr) : (s.putOff c).tb = s.tb := rfl
@[simp] theorem State.putOff_timers (s : State) (c : Instr) : (s.putOff c).timers = s.timers := rfl
@[simp] theorem State.putOff_axes (s : State) (c : Instr) : (s.putOff c).axes = s.axes := rfl
@[simp] theorem State.putOff_safety (s : State) (c : Instr) : (s.putOff c).safety = s.safety := rfl
@[simp] theorem State.putOff_illum (s : State) (c : Instr) : (s.putOff c).illum = s.illum := rfl
@[simp] theorem State.putOff_lbus (s : State) (c : Instr) : (s.putOff c).lbus = s.lbus := rfl
@[simp] theorem State.putOff_radio (s : State) (c : Instr) : (s.putOff c).radio = s.radio := rfl
@[simp] theorem State.putOff_tag (s : State) (c : Instr) : (s.putOff c).tag = s.tag := rfl
@[simp] theorem State.putOff_test (s : State) (c : Instr) : (s.putOff c).test = s.test := rfl
@[simp] theorem State.putOff_store (s : State) (c : Instr) : (s.putOff c).store = s.store := rfl
@[simp] theorem State.putOff_draws (s : State) (c : Instr) : (s.putOff c).draws = s.draws := rfl
@[simp] theorem State.putOff_deferred (s : State) (c : Instr) : (s.putOff c).deferred = s.deferred ++ [c] := rfl

/-! ### State.storePush -/

@[simp] theorem State.storePush_now (s : State) (x : StoreItem) (t : Option Ticket) : (s.storePush x t).now = s.now := rfl
@[simp] theorem State.storePush_d02 (s : State) (x : StoreItem) (t : Option Ticket) : (s.storePush x t).d02 = s.d02 := rfl
@[simp] theorem State.storePush_free (s : State) (x : StoreItem) (t : Option Ticket) : (s.storePush x t).free = s.free := rfl
@[simp] theorem State.storePush_draws (s : State) (x : StoreItem) (t : Option Ticket) : (s.storePush x t).draws = s.draws := rfl
@[simp] theorem State.storePush_serial (s : State) (x : StoreItem) (t : Option Ticket) : (s.storePush x t).serial = s.serial := rfl
@[simp] theorem State.storePush_pending (s : State) (x : StoreItem) (t : Option Ticket) : (s.storePush x t).pending = s.pending := rfl
@[simp] theorem State.storePush_deferred (s : State) (x : StoreItem) (t : Option Ticket) : (s.storePush x t).deferred = s.deferred := rfl
@[simp] theorem State.storePush_out (s : State) (x : StoreItem) (t : Option Ticket) : (s.storePush x t).out = s.out := rfl
@[simp] theorem State.storePush_arrivals (s : State) (x : StoreItem) (t : Option Ticket) : (s.storePush x t).arrivals = s.arrivals := rfl
@[simp] theorem State.storePush_commit (s : State) (x : StoreItem) (t : Option Ticket) : (s.storePush x t).commit = s.commit := rfl
@[simp] theorem State.storePush_thermal (s : State) (x : StoreItem) (t : Option Ticket) : (s.storePush x t).thermal = s.thermal := rfl
@[simp] theorem State.storePush_avs (s : State) (x : StoreItem) (t : Option Ticket) : (s.storePush x t).avs = s.avs := rfl
@[simp] theorem State.storePush_fabric (s : State) (x : StoreItem) (t : Option Ticket) : (s.storePush x t).fabric = s.fabric := rfl
@[simp] theorem State.storePush_boot (s : State) (x : StoreItem) (t : Option Ticket) : (s.storePush x t).boot = s.boot := rfl
@[simp] theorem State.storePush_otp (s : State) (x : StoreItem) (t : Option Ticket) : (s.storePush x t).otp = s.otp := rfl
@[simp] theorem State.storePush_flash (s : State) (x : StoreItem) (t : Option Ticket) : (s.storePush x t).flash = s.flash := rfl
@[simp] theorem State.storePush_owners (s : State) (x : StoreItem) (t : Option Ticket) : (s.storePush x t).owners = s.owners := rfl
@[simp] theorem State.storePush_leases (s : State) (x : StoreItem) (t : Option Ticket) : (s.storePush x t).leases = s.leases := rfl
@[simp] theorem State.storePush_hpa (s : State) (x : StoreItem) (t : Option Ticket) : (s.storePush x t).hpa = s.hpa := rfl
@[simp] theorem State.storePush_net (s : State) (x : StoreItem) (t : Option Ticket) : (s.storePush x t).net = s.net := rfl
@[simp] theorem State.storePush_mem (s : State) (x : StoreItem) (t : Option Ticket) : (s.storePush x t).mem = s.mem := rfl
@[simp] theorem State.storePush_keys (s : State) (x : StoreItem) (t : Option Ticket) : (s.storePush x t).keys = s.keys := rfl
@[simp] theorem State.storePush_cores (s : State) (x : StoreItem) (t : Option Ticket) : (s.storePush x t).cores = s.cores := rfl
@[simp] theorem State.storePush_jobs (s : State) (x : StoreItem) (t : Option Ticket) : (s.storePush x t).jobs = s.jobs := rfl
@[simp] theorem State.storePush_headbox (s : State) (x : StoreItem) (t : Option Ticket) : (s.storePush x t).headbox = s.headbox := rfl
@[simp] theorem State.storePush_sensors (s : State) (x : StoreItem) (t : Option Ticket) : (s.storePush x t).sensors = s.sensors := rfl
@[simp] theorem State.storePush_tb (s : State) (x : StoreItem) (t : Option Ticket) : (s.storePush x t).tb = s.tb := rfl
@[simp] theorem State.storePush_timers (s : State) (x : StoreItem) (t : Option Ticket) : (s.storePush x t).timers = s.timers := rfl
@[simp] theorem State.storePush_axes (s : State) (x : StoreItem) (t : Option Ticket) : (s.storePush x t).axes = s.axes := rfl
@[simp] theorem State.storePush_safety (s : State) (x : StoreItem) (t : Option Ticket) : (s.storePush x t).safety = s.safety := rfl
@[simp] theorem State.storePush_illum (s : State) (x : StoreItem) (t : Option Ticket) : (s.storePush x t).illum = s.illum := rfl
@[simp] theorem State.storePush_lbus (s : State) (x : StoreItem) (t : Option Ticket) : (s.storePush x t).lbus = s.lbus := rfl
@[simp] theorem State.storePush_radio (s : State) (x : StoreItem) (t : Option Ticket) : (s.storePush x t).radio = s.radio := rfl
@[simp] theorem State.storePush_tag (s : State) (x : StoreItem) (t : Option Ticket) : (s.storePush x t).tag = s.tag := rfl
@[simp] theorem State.storePush_test (s : State) (x : StoreItem) (t : Option Ticket) : (s.storePush x t).test = s.test := rfl

end Sys2Proof.Machine
end

