-- ==== Sys2Proof/Laws/Ports.lean ====
section
/-! SUPPORT. What sending a packet, replying to a command and raising an event can do to the state: each operation rebuilds the
state from itself with at most the parts named. -/

namespace Sys2Proof.Machine

/-! ### Banks -/

theorem bankUpd_get {α : Type} {n : Nat} (v : Vector α n) (i j : Fin n) (f : α → α) :
    (bankUpd v i f).get j = if i = j then f (v.get j) else v.get j := by
  rw [bankUpd, Vector.get_eq_getElem, Vector.getElem_set]
  simp only [Fin.ext_iff]
  split
  · rename_i h; simp [Vector.get_eq_getElem, h]
  · simp [Vector.get_eq_getElem]

@[simp] theorem bankUpd_get_self {α : Type} {n : Nat} (v : Vector α n) (i : Fin n) (f : α → α) :
    (bankUpd v i f).get i = f (v.get i) := by simp [bankUpd_get]

theorem bankSet_get {α : Type} {n : Nat} (v : Vector α n) (i j : Fin n) (x : α) :
    (bankSet v i x).get j = if i = j then x else v.get j := bankUpd_get v i j fun _ => x

@[simp] theorem bankSet_get_self {α : Type} {n : Nat} (v : Vector α n) (i : Fin n) (x : α) :
    (bankSet v i x).get i = x := by simp [bankSet_get]

theorem bankUpd_id {α : Type} {n : Nat} (v : Vector α n) (i : Fin n) (f : α → α) (h : f (v.get i) = v.get i) :
    bankUpd v i f = v := by
  rw [bankUpd, h]; exact Vector.set_getElem_self i.isLt

theorem bankUpd_map {α β : Type} {n : Nat} (v : Vector α n) (i : Fin n) (f : α → α) (g : α → β) (k : β → β)
    (h : ∀ x, g (f x) = k (g x)) : (bankUpd v i f).map g = bankUpd (v.map g) i k := by
  ext j hj
  simp only [bankUpd, Vector.getElem_map, Vector.getElem_set, Vector.get_eq_getElem]
  split <;> simp_all

theorem bankUpd_map_same {α β : Type} {n : Nat} (v : Vector α n) (i : Fin n) (f : α → α) (g : α → β)
    (h : ∀ x, g (f x) = g x) : (bankUpd v i f).map g = v.map g := by
  rw [bankUpd_map v i f g id h]; exact bankUpd_id _ _ _ rfl

/-! ### Parts of the state a packet touches -/

/-- What `t` differs from `s` in is among the outputs, the owners, HPA and the other ports. -/
def SameButPorts (s t : State) : Prop :=
  t = { s with out := t.out, owners := t.owners, hpa := t.hpa, net := t.net }

theorem SameButPorts.refl (s : State) : SameButPorts s s := rfl

theorem SameButPorts.trans {s t u : State} (h : SameButPorts s t) (k : SameButPorts t u) : SameButPorts s u := by
  unfold SameButPorts at *; rw [k, h]

theorem State.updOwner_sameButPorts (s : State) (p : Port) (f : OwnerState → OwnerState) : SameButPorts s (s.updOwner p f) := rfl

theorem State.updSession_sameButPorts (s : State) (p : Port) (f : Session → Session) : SameButPorts s (s.updSession p f) := rfl

theorem State.updNet_sameButPorts (s : State) (f : Net → Net) : SameButPorts s (s.updNet f) := rfl

theorem State.updHpa_sameButPorts (s : State) (f : Hpa → Hpa) : SameButPorts s (s.updHpa f) := rfl

theorem State.signal_sameButPorts (s : State) (v : Fin 64) : SameButPorts s (s.signal v) := by
  unfold State.signal; split <;> rfl

theorem State.complete_sameButPorts (s : State) (i n a : Nat) (d : Bool) : SameButPorts s (s.complete i n a d) := by
  unfold State.complete
  split
  · refine SameButPorts.trans ?_ (State.signal_sameButPorts _ _)
    rfl
  · rfl

theorem State.forgo_sameButPorts (s : State) (v : Carriage) : SameButPorts s (s.forgo v) := by
  unfold State.forgo; (repeat' split) <;> rfl

theorem State.dropPacket_sameButPorts (s : State) (h : Hdr) : SameButPorts s (s.dropPacket h) := by
  unfold State.dropPacket
  split
  · split
    · exact s.forgo_sameButPorts _
    · split
      · rfl
      · exact s.complete_sameButPorts _ _ _ _
  · rfl

theorem State.transmit_sameButPorts (s : State) (p : Port) (v : Carriage) (k : Packet) : SameButPorts s (s.transmit p v k) := by
  unfold State.transmit
  split
  · exact s.forgo_sameButPorts _
  · split
    · split
      · refine SameButPorts.trans ?_ (State.complete_sameButPorts _ _ _ _ _)
        rfl
      · rfl
    · split <;> rfl
    · rfl
    · rfl

theorem State.countStatus_sameButPorts (s : State) (p : Port) (e : Nat) : SameButPorts s (s.countStatus p e) := by
  unfold State.countStatus; (repeat' split) <;> rfl

theorem State.plainReply_sameButPorts (s : State) (h : Hdr) (op e : Nat) (b : Bytes) :
    SameButPorts s (s.plainReply h op e b) :=
  (s.countStatus_sameButPorts _ _).trans (State.transmit_sameButPorts _ _ _ _)

theorem State.reply_sameButPorts (s : State) (t : Ticket) (e : Nat) (b : Bytes) : SameButPorts s (s.reply t e b) := by
  unfold State.reply
  split
  · exact s.plainReply_sameButPorts _ _ _ _
  · split
    · exact (s.updSession_sameButPorts _ _).trans (State.plainReply_sameButPorts _ _ _ _ _)
    · split
      · exact s.dropPacket_sameButPorts _
      · split
        · exact ((s.updSession_sameButPorts _ _).trans (State.countStatus_sameButPorts _ _ _)).trans
            (State.transmit_sameButPorts _ _ _ _)
        · exact s.dropPacket_sameButPorts _

theorem State.raise_sameButPorts (s : State) (c k i : Nat) (b : Bytes) (p : Port) : SameButPorts s (s.raise c k i b p) := rfl

theorem State.raiseAll_sameButPorts (s : State) (c k i : Nat) (b : Bytes) : SameButPorts s (s.raiseAll c k i b) := by
  unfold State.raiseAll
  generalize List.finRange 4 = l
  induction l generalizing s with
  | nil => rfl
  | cons a l ih => exact (s.raise_sameButPorts c k i b a).trans (ih _)

theorem State.raiseTo_sameButPorts (s : State) (c k i : Nat) (b : Bytes) (o : Nat) : SameButPorts s (s.raiseTo c k i b o) := by
  unfold State.raiseTo; split
  · exact s.raise_sameButPorts _ _ _ _ _
  · rfl

theorem State.carried_sameButPorts (s : State) (p : Port) : SameButPorts s (s.carried p) := by
  unfold State.carried; (repeat' split) <;> rfl

theorem State.accepted_sameButPorts (s : State) (h : Hdr) : SameButPorts s (s.accepted h) :=
  (s.carried_sameButPorts _).trans rfl

/-! ### State.signal -/

@[simp] theorem State.signal_now (s : State) (v : Fin 64) : (s.signal v).now = s.now := by
  rw [s.signal_sameButPorts v]
@[simp] theorem State.signal_d02 (s : State) (v : Fin 64) : (s.signal v).d02 = s.d02 := by
  rw [s.signal_sameButPorts v]
@[simp] theorem State.signal_free (s : State) (v : Fin 64) : (s.signal v).free = s.free := by
  rw [s.signal_sameButPorts v]
@[simp] theorem State.signal_draws (s : State) (v : Fin 64) : (s.signal v).draws = s.draws := by
  rw [s.signal_sameButPorts v]
@[simp] theorem State.signal_serial (s : State) (v : Fin 64) : (s.signal v).serial = s.serial := by
  rw [s.signal_sameButPorts v]
@[simp] theorem State.signal_pending (s : State) (v : Fin 64) : (s.signal v).pending = s.pending := by
  rw [s.signal_sameButPorts v]
@[simp] theorem State.signal_deferred (s : State) (v : Fin 64) : (s.signal v).deferred = s.deferred := by
  rw [s.signal_sameButPorts v]
@[simp] theorem State.signal_arrivals (s : State) (v : Fin 64) : (s.signal v).arrivals = s.arrivals := by
  rw [s.signal_sameButPorts v]
@[simp] theorem State.signal_commit (s : State) (v : Fin 64) : (s.signal v).commit = s.commit := by
  rw [s.signal_sameButPorts v]
@[simp] theorem State.signal_thermal (s : State) (v : Fin 64) : (s.signal v).thermal = s.thermal := by
  rw [s.signal_sameButPorts v]
@[simp] theorem State.signal_avs (s : State) (v : Fin 64) : (s.signal v).avs = s.avs := by
  rw [s.signal_sameButPorts v]
@[simp] theorem State.signal_fabric (s : State) (v : Fin 64) : (s.signal v).fabric = s.fabric := by
  rw [s.signal_sameButPorts v]
@[simp] theorem State.signal_boot (s : State) (v : Fin 64) : (s.signal v).boot = s.boot := by
  rw [s.signal_sameButPorts v]
@[simp] theorem State.signal_otp (s : State) (v : Fin 64) : (s.signal v).otp = s.otp := by
  rw [s.signal_sameButPorts v]
@[simp] theorem State.signal_flash (s : State) (v : Fin 64) : (s.signal v).flash = s.flash := by
  rw [s.signal_sameButPorts v]
@[simp] theorem State.signal_leases (s : State) (v : Fin 64) : (s.signal v).leases = s.leases := by
  rw [s.signal_sameButPorts v]
@[simp] theorem State.signal_mem (s : State) (v : Fin 64) : (s.signal v).mem = s.mem := by
  rw [s.signal_sameButPorts v]
@[simp] theorem State.signal_keys (s : State) (v : Fin 64) : (s.signal v).keys = s.keys := by
  rw [s.signal_sameButPorts v]
@[simp] theorem State.signal_cores (s : State) (v : Fin 64) : (s.signal v).cores = s.cores := by
  rw [s.signal_sameButPorts v]
@[simp] theorem State.signal_jobs (s : State) (v : Fin 64) : (s.signal v).jobs = s.jobs := by
  rw [s.signal_sameButPorts v]
@[simp] theorem State.signal_headbox (s : State) (v : Fin 64) : (s.signal v).headbox = s.headbox := by
  rw [s.signal_sameButPorts v]
@[simp] theorem State.signal_sensors (s : State) (v : Fin 64) : (s.signal v).sensors = s.sensors := by
  rw [s.signal_sameButPorts v]
@[simp] theorem State.signal_tb (s : State) (v : Fin 64) : (s.signal v).tb = s.tb := by
  rw [s.signal_sameButPorts v]
@[simp] theorem State.signal_timers (s : State) (v : Fin 64) : (s.signal v).timers = s.timers := by
  rw [s.signal_sameButPorts v]
@[simp] theorem State.signal_axes (s : State) (v : Fin 64) : (s.signal v).axes = s.axes := by
  rw [s.signal_sameButPorts v]
@[simp] theorem State.signal_safety (s : State) (v : Fin 64) : (s.signal v).safety = s.safety := by
  rw [s.signal_sameButPorts v]
@[simp] theorem State.signal_illum (s : State) (v : Fin 64) : (s.signal v).illum = s.illum := by
  rw [s.signal_sameButPorts v]
@[simp] theorem State.signal_lbus (s : State) (v : Fin 64) : (s.signal v).lbus = s.lbus := by
  rw [s.signal_sameButPorts v]
@[simp] theorem State.signal_radio (s : State) (v : Fin 64) : (s.signal v).radio = s.radio := by
  rw [s.signal_sameButPorts v]
@[simp] theorem State.signal_tag (s : State) (v : Fin 64) : (s.signal v).tag = s.tag := by
  rw [s.signal_sameButPorts v]
@[simp] theorem State.signal_test (s : State) (v : Fin 64) : (s.signal v).test = s.test := by
  rw [s.signal_sameButPorts v]
@[simp] theorem State.signal_store (s : State) (v : Fin 64) : (s.signal v).store = s.store := by
  rw [s.signal_sameButPorts v]

/-! ### State.complete -/

@[simp] theorem State.complete_now (s : State) (i n a : Nat) (d : Bool) : (s.complete i n a d).now = s.now := by
  rw [s.complete_sameButPorts i n a d]
@[simp] theorem State.complete_d02 (s : State) (i n a : Nat) (d : Bool) : (s.complete i n a d).d02 = s.d02 := by
  rw [s.complete_sameButPorts i n a d]
@[simp] theorem State.complete_free (s : State) (i n a : Nat) (d : Bool) : (s.complete i n a d).free = s.free := by
  rw [s.complete_sameButPorts i n a d]
@[simp] theorem State.complete_draws (s : State) (i n a : Nat) (d : Bool) : (s.complete i n a d).draws = s.draws := by
  rw [s.complete_sameButPorts i n a d]
@[simp] theorem State.complete_serial (s : State) (i n a : Nat) (d : Bool) : (s.complete i n a d).serial = s.serial := by
  rw [s.complete_sameButPorts i n a d]
@[simp] theorem State.complete_pending (s : State) (i n a : Nat) (d : Bool) : (s.complete i n a d).pending = s.pending := by
  rw [s.complete_sameButPorts i n a d]
@[simp] theorem State.complete_deferred (s : State) (i n a : Nat) (d : Bool) : (s.complete i n a d).deferred = s.deferred := by
  rw [s.complete_sameButPorts i n a d]
@[simp] theorem State.complete_arrivals (s : State) (i n a : Nat) (d : Bool) : (s.complete i n a d).arrivals = s.arrivals := by
  rw [s.complete_sameButPorts i n a d]
@[simp] theorem State.complete_commit (s : State) (i n a : Nat) (d : Bool) : (s.complete i n a d).commit = s.commit := by
  rw [s.complete_sameButPorts i n a d]
@[simp] theorem State.complete_thermal (s : State) (i n a : Nat) (d : Bool) : (s.complete i n a d).thermal = s.thermal := by
  rw [s.complete_sameButPorts i n a d]
@[simp] theorem State.complete_avs (s : State) (i n a : Nat) (d : Bool) : (s.complete i n a d).avs = s.avs := by
  rw [s.complete_sameButPorts i n a d]
@[simp] theorem State.complete_fabric (s : State) (i n a : Nat) (d : Bool) : (s.complete i n a d).fabric = s.fabric := by
  rw [s.complete_sameButPorts i n a d]
@[simp] theorem State.complete_boot (s : State) (i n a : Nat) (d : Bool) : (s.complete i n a d).boot = s.boot := by
  rw [s.complete_sameButPorts i n a d]
@[simp] theorem State.complete_otp (s : State) (i n a : Nat) (d : Bool) : (s.complete i n a d).otp = s.otp := by
  rw [s.complete_sameButPorts i n a d]
@[simp] theorem State.complete_flash (s : State) (i n a : Nat) (d : Bool) : (s.complete i n a d).flash = s.flash := by
  rw [s.complete_sameButPorts i n a d]
@[simp] theorem State.complete_leases (s : State) (i n a : Nat) (d : Bool) : (s.complete i n a d).leases = s.leases := by
  rw [s.complete_sameButPorts i n a d]
@[simp] theorem State.complete_mem (s : State) (i n a : Nat) (d : Bool) : (s.complete i n a d).mem = s.mem := by
  rw [s.complete_sameButPorts i n a d]
@[simp] theorem State.complete_keys (s : State) (i n a : Nat) (d : Bool) : (s.complete i n a d).keys = s.keys := by
  rw [s.complete_sameButPorts i n a d]
@[simp] theorem State.complete_cores (s : State) (i n a : Nat) (d : Bool) : (s.complete i n a d).cores = s.cores := by
  rw [s.complete_sameButPorts i n a d]
@[simp] theorem State.complete_jobs (s : State) (i n a : Nat) (d : Bool) : (s.complete i n a d).jobs = s.jobs := by
  rw [s.complete_sameButPorts i n a d]
@[simp] theorem State.complete_headbox (s : State) (i n a : Nat) (d : Bool) : (s.complete i n a d).headbox = s.headbox := by
  rw [s.complete_sameButPorts i n a d]
@[simp] theorem State.complete_sensors (s : State) (i n a : Nat) (d : Bool) : (s.complete i n a d).sensors = s.sensors := by
  rw [s.complete_sameButPorts i n a d]
@[simp] theorem State.complete_tb (s : State) (i n a : Nat) (d : Bool) : (s.complete i n a d).tb = s.tb := by
  rw [s.complete_sameButPorts i n a d]
@[simp] theorem State.complete_timers (s : State) (i n a : Nat) (d : Bool) : (s.complete i n a d).timers = s.timers := by
  rw [s.complete_sameButPorts i n a d]
@[simp] theorem State.complete_axes (s : State) (i n a : Nat) (d : Bool) : (s.complete i n a d).axes = s.axes := by
  rw [s.complete_sameButPorts i n a d]
@[simp] theorem State.complete_safety (s : State) (i n a : Nat) (d : Bool) : (s.complete i n a d).safety = s.safety := by
  rw [s.complete_sameButPorts i n a d]
@[simp] theorem State.complete_illum (s : State) (i n a : Nat) (d : Bool) : (s.complete i n a d).illum = s.illum := by
  rw [s.complete_sameButPorts i n a d]
@[simp] theorem State.complete_lbus (s : State) (i n a : Nat) (d : Bool) : (s.complete i n a d).lbus = s.lbus := by
  rw [s.complete_sameButPorts i n a d]
@[simp] theorem State.complete_radio (s : State) (i n a : Nat) (d : Bool) : (s.complete i n a d).radio = s.radio := by
  rw [s.complete_sameButPorts i n a d]
@[simp] theorem State.complete_tag (s : State) (i n a : Nat) (d : Bool) : (s.complete i n a d).tag = s.tag := by
  rw [s.complete_sameButPorts i n a d]
@[simp] theorem State.complete_test (s : State) (i n a : Nat) (d : Bool) : (s.complete i n a d).test = s.test := by
  rw [s.complete_sameButPorts i n a d]
@[simp] theorem State.complete_store (s : State) (i n a : Nat) (d : Bool) : (s.complete i n a d).store = s.store := by
  rw [s.complete_sameButPorts i n a d]

/-! ### State.transmit -/

@[simp] theorem State.transmit_now (s : State) (p : Port) (v : Carriage) (k : Packet) : (s.transmit p v k).now = s.now := by
  rw [s.transmit_sameButPorts p v k]
@[simp] theorem State.transmit_d02 (s : State) (p : Port) (v : Carriage) (k : Packet) : (s.transmit p v k).d02 = s.d02 := by
  rw [s.transmit_sameButPorts p v k]
@[simp] theorem State.transmit_free (s : State) (p : Port) (v : Carriage) (k : Packet) : (s.transmit p v k).free = s.free := by
  rw [s.transmit_sameButPorts p v k]
@[simp] theorem State.transmit_draws (s : State) (p : Port) (v : Carriage) (k : Packet) : (s.transmit p v k).draws = s.draws := by
  rw [s.transmit_sameButPorts p v k]
@[simp] theorem State.transmit_serial (s : State) (p : Port) (v : Carriage) (k : Packet) : (s.transmit p v k).serial = s.serial := by
  rw [s.transmit_sameButPorts p v k]
@[simp] theorem State.transmit_pending (s : State) (p : Port) (v : Carriage) (k : Packet) : (s.transmit p v k).pending = s.pending := by
  rw [s.transmit_sameButPorts p v k]
@[simp] theorem State.transmit_deferred (s : State) (p : Port) (v : Carriage) (k : Packet) : (s.transmit p v k).deferred = s.deferred := by
  rw [s.transmit_sameButPorts p v k]
@[simp] theorem State.transmit_arrivals (s : State) (p : Port) (v : Carriage) (k : Packet) : (s.transmit p v k).arrivals = s.arrivals := by
  rw [s.transmit_sameButPorts p v k]
@[simp] theorem State.transmit_commit (s : State) (p : Port) (v : Carriage) (k : Packet) : (s.transmit p v k).commit = s.commit := by
  rw [s.transmit_sameButPorts p v k]
@[simp] theorem State.transmit_thermal (s : State) (p : Port) (v : Carriage) (k : Packet) : (s.transmit p v k).thermal = s.thermal := by
  rw [s.transmit_sameButPorts p v k]
@[simp] theorem State.transmit_avs (s : State) (p : Port) (v : Carriage) (k : Packet) : (s.transmit p v k).avs = s.avs := by
  rw [s.transmit_sameButPorts p v k]
@[simp] theorem State.transmit_fabric (s : State) (p : Port) (v : Carriage) (k : Packet) : (s.transmit p v k).fabric = s.fabric := by
  rw [s.transmit_sameButPorts p v k]
@[simp] theorem State.transmit_boot (s : State) (p : Port) (v : Carriage) (k : Packet) : (s.transmit p v k).boot = s.boot := by
  rw [s.transmit_sameButPorts p v k]
@[simp] theorem State.transmit_otp (s : State) (p : Port) (v : Carriage) (k : Packet) : (s.transmit p v k).otp = s.otp := by
  rw [s.transmit_sameButPorts p v k]
@[simp] theorem State.transmit_flash (s : State) (p : Port) (v : Carriage) (k : Packet) : (s.transmit p v k).flash = s.flash := by
  rw [s.transmit_sameButPorts p v k]
@[simp] theorem State.transmit_leases (s : State) (p : Port) (v : Carriage) (k : Packet) : (s.transmit p v k).leases = s.leases := by
  rw [s.transmit_sameButPorts p v k]
@[simp] theorem State.transmit_mem (s : State) (p : Port) (v : Carriage) (k : Packet) : (s.transmit p v k).mem = s.mem := by
  rw [s.transmit_sameButPorts p v k]
@[simp] theorem State.transmit_keys (s : State) (p : Port) (v : Carriage) (k : Packet) : (s.transmit p v k).keys = s.keys := by
  rw [s.transmit_sameButPorts p v k]
@[simp] theorem State.transmit_cores (s : State) (p : Port) (v : Carriage) (k : Packet) : (s.transmit p v k).cores = s.cores := by
  rw [s.transmit_sameButPorts p v k]
@[simp] theorem State.transmit_jobs (s : State) (p : Port) (v : Carriage) (k : Packet) : (s.transmit p v k).jobs = s.jobs := by
  rw [s.transmit_sameButPorts p v k]
@[simp] theorem State.transmit_headbox (s : State) (p : Port) (v : Carriage) (k : Packet) : (s.transmit p v k).headbox = s.headbox := by
  rw [s.transmit_sameButPorts p v k]
@[simp] theorem State.transmit_sensors (s : State) (p : Port) (v : Carriage) (k : Packet) : (s.transmit p v k).sensors = s.sensors := by
  rw [s.transmit_sameButPorts p v k]
@[simp] theorem State.transmit_tb (s : State) (p : Port) (v : Carriage) (k : Packet) : (s.transmit p v k).tb = s.tb := by
  rw [s.transmit_sameButPorts p v k]
@[simp] theorem State.transmit_timers (s : State) (p : Port) (v : Carriage) (k : Packet) : (s.transmit p v k).timers = s.timers := by
  rw [s.transmit_sameButPorts p v k]
@[simp] theorem State.transmit_axes (s : State) (p : Port) (v : Carriage) (k : Packet) : (s.transmit p v k).axes = s.axes := by
  rw [s.transmit_sameButPorts p v k]
@[simp] theorem State.transmit_safety (s : State) (p : Port) (v : Carriage) (k : Packet) : (s.transmit p v k).safety = s.safety := by
  rw [s.transmit_sameButPorts p v k]
@[simp] theorem State.transmit_illum (s : State) (p : Port) (v : Carriage) (k : Packet) : (s.transmit p v k).illum = s.illum := by
  rw [s.transmit_sameButPorts p v k]
@[simp] theorem State.transmit_lbus (s : State) (p : Port) (v : Carriage) (k : Packet) : (s.transmit p v k).lbus = s.lbus := by
  rw [s.transmit_sameButPorts p v k]
@[simp] theorem State.transmit_radio (s : State) (p : Port) (v : Carriage) (k : Packet) : (s.transmit p v k).radio = s.radio := by
  rw [s.transmit_sameButPorts p v k]
@[simp] theorem State.transmit_tag (s : State) (p : Port) (v : Carriage) (k : Packet) : (s.transmit p v k).tag = s.tag := by
  rw [s.transmit_sameButPorts p v k]
@[simp] theorem State.transmit_test (s : State) (p : Port) (v : Carriage) (k : Packet) : (s.transmit p v k).test = s.test := by
  rw [s.transmit_sameButPorts p v k]
@[simp] theorem State.transmit_store (s : State) (p : Port) (v : Carriage) (k : Packet) : (s.transmit p v k).store = s.store := by
  rw [s.transmit_sameButPorts p v k]

/-! ### State.countStatus -/

@[simp] theorem State.countStatus_now (s : State) (p : Port) (e : Nat) : (s.countStatus p e).now = s.now := by
  rw [s.countStatus_sameButPorts p e]
@[simp] theorem State.countStatus_d02 (s : State) (p : Port) (e : Nat) : (s.countStatus p e).d02 = s.d02 := by
  rw [s.countStatus_sameButPorts p e]
@[simp] theorem State.countStatus_free (s : State) (p : Port) (e : Nat) : (s.countStatus p e).free = s.free := by
  rw [s.countStatus_sameButPorts p e]
@[simp] theorem State.countStatus_draws (s : State) (p : Port) (e : Nat) : (s.countStatus p e).draws = s.draws := by
  rw [s.countStatus_sameButPorts p e]
@[simp] theorem State.countStatus_serial (s : State) (p : Port) (e : Nat) : (s.countStatus p e).serial = s.serial := by
  rw [s.countStatus_sameButPorts p e]
@[simp] theorem State.countStatus_pending (s : State) (p : Port) (e : Nat) : (s.countStatus p e).pending = s.pending := by
  rw [s.countStatus_sameButPorts p e]
@[simp] theorem State.countStatus_deferred (s : State) (p : Port) (e : Nat) : (s.countStatus p e).deferred = s.deferred := by
  rw [s.countStatus_sameButPorts p e]
@[simp] theorem State.countStatus_arrivals (s : State) (p : Port) (e : Nat) : (s.countStatus p e).arrivals = s.arrivals := by
  rw [s.countStatus_sameButPorts p e]
@[simp] theorem State.countStatus_commit (s : State) (p : Port) (e : Nat) : (s.countStatus p e).commit = s.commit := by
  rw [s.countStatus_sameButPorts p e]
@[simp] theorem State.countStatus_thermal (s : State) (p : Port) (e : Nat) : (s.countStatus p e).thermal = s.thermal := by
  rw [s.countStatus_sameButPorts p e]
@[simp] theorem State.countStatus_avs (s : State) (p : Port) (e : Nat) : (s.countStatus p e).avs = s.avs := by
  rw [s.countStatus_sameButPorts p e]
@[simp] theorem State.countStatus_fabric (s : State) (p : Port) (e : Nat) : (s.countStatus p e).fabric = s.fabric := by
  rw [s.countStatus_sameButPorts p e]
@[simp] theorem State.countStatus_boot (s : State) (p : Port) (e : Nat) : (s.countStatus p e).boot = s.boot := by
  rw [s.countStatus_sameButPorts p e]
@[simp] theorem State.countStatus_otp (s : State) (p : Port) (e : Nat) : (s.countStatus p e).otp = s.otp := by
  rw [s.countStatus_sameButPorts p e]
@[simp] theorem State.countStatus_flash (s : State) (p : Port) (e : Nat) : (s.countStatus p e).flash = s.flash := by
  rw [s.countStatus_sameButPorts p e]
@[simp] theorem State.countStatus_leases (s : State) (p : Port) (e : Nat) : (s.countStatus p e).leases = s.leases := by
  rw [s.countStatus_sameButPorts p e]
@[simp] theorem State.countStatus_mem (s : State) (p : Port) (e : Nat) : (s.countStatus p e).mem = s.mem := by
  rw [s.countStatus_sameButPorts p e]
@[simp] theorem State.countStatus_keys (s : State) (p : Port) (e : Nat) : (s.countStatus p e).keys = s.keys := by
  rw [s.countStatus_sameButPorts p e]
@[simp] theorem State.countStatus_cores (s : State) (p : Port) (e : Nat) : (s.countStatus p e).cores = s.cores := by
  rw [s.countStatus_sameButPorts p e]
@[simp] theorem State.countStatus_jobs (s : State) (p : Port) (e : Nat) : (s.countStatus p e).jobs = s.jobs := by
  rw [s.countStatus_sameButPorts p e]
@[simp] theorem State.countStatus_headbox (s : State) (p : Port) (e : Nat) : (s.countStatus p e).headbox = s.headbox := by
  rw [s.countStatus_sameButPorts p e]
@[simp] theorem State.countStatus_sensors (s : State) (p : Port) (e : Nat) : (s.countStatus p e).sensors = s.sensors := by
  rw [s.countStatus_sameButPorts p e]
@[simp] theorem State.countStatus_tb (s : State) (p : Port) (e : Nat) : (s.countStatus p e).tb = s.tb := by
  rw [s.countStatus_sameButPorts p e]
@[simp] theorem State.countStatus_timers (s : State) (p : Port) (e : Nat) : (s.countStatus p e).timers = s.timers := by
  rw [s.countStatus_sameButPorts p e]
@[simp] theorem State.countStatus_axes (s : State) (p : Port) (e : Nat) : (s.countStatus p e).axes = s.axes := by
  rw [s.countStatus_sameButPorts p e]
@[simp] theorem State.countStatus_safety (s : State) (p : Port) (e : Nat) : (s.countStatus p e).safety = s.safety := by
  rw [s.countStatus_sameButPorts p e]
@[simp] theorem State.countStatus_illum (s : State) (p : Port) (e : Nat) : (s.countStatus p e).illum = s.illum := by
  rw [s.countStatus_sameButPorts p e]
@[simp] theorem State.countStatus_lbus (s : State) (p : Port) (e : Nat) : (s.countStatus p e).lbus = s.lbus := by
  rw [s.countStatus_sameButPorts p e]
@[simp] theorem State.countStatus_radio (s : State) (p : Port) (e : Nat) : (s.countStatus p e).radio = s.radio := by
  rw [s.countStatus_sameButPorts p e]
@[simp] theorem State.countStatus_tag (s : State) (p : Port) (e : Nat) : (s.countStatus p e).tag = s.tag := by
  rw [s.countStatus_sameButPorts p e]
@[simp] theorem State.countStatus_test (s : State) (p : Port) (e : Nat) : (s.countStatus p e).test = s.test := by
  rw [s.countStatus_sameButPorts p e]
@[simp] theorem State.countStatus_store (s : State) (p : Port) (e : Nat) : (s.countStatus p e).store = s.store := by
  rw [s.countStatus_sameButPorts p e]

/-! ### State.plainReply -/

@[simp] theorem State.plainReply_now (s : State) (h : Hdr) (op e : Nat) (b : Bytes) : (s.plainReply h op e b).now = s.now := by
  rw [s.plainReply_sameButPorts h op e b]
@[simp] theorem State.plainReply_d02 (s : State) (h : Hdr) (op e : Nat) (b : Bytes) : (s.plainReply h op e b).d02 = s.d02 := by
  rw [s.plainReply_sameButPorts h op e b]
@[simp] theorem State.plainReply_free (s : State) (h : Hdr) (op e : Nat) (b : Bytes) : (s.plainReply h op e b).free = s.free := by
  rw [s.plainReply_sameButPorts h op e b]
@[simp] theorem State.plainReply_draws (s : State) (h : Hdr) (op e : Nat) (b : Bytes) : (s.plainReply h op e b).draws = s.draws := by
  rw [s.plainReply_sameButPorts h op e b]
@[simp] theorem State.plainReply_serial (s : State) (h : Hdr) (op e : Nat) (b : Bytes) : (s.plainReply h op e b).serial = s.serial := by
  rw [s.plainReply_sameButPorts h op e b]
@[simp] theorem State.plainReply_pending (s : State) (h : Hdr) (op e : Nat) (b : Bytes) : (s.plainReply h op e b).pending = s.pending := by
  rw [s.plainReply_sameButPorts h op e b]
@[simp] theorem State.plainReply_deferred (s : State) (h : Hdr) (op e : Nat) (b : Bytes) : (s.plainReply h op e b).deferred = s.deferred := by
  rw [s.plainReply_sameButPorts h op e b]
@[simp] theorem State.plainReply_arrivals (s : State) (h : Hdr) (op e : Nat) (b : Bytes) : (s.plainReply h op e b).arrivals = s.arrivals := by
  rw [s.plainReply_sameButPorts h op e b]
@[simp] theorem State.plainReply_commit (s : State) (h : Hdr) (op e : Nat) (b : Bytes) : (s.plainReply h op e b).commit = s.commit := by
  rw [s.plainReply_sameButPorts h op e b]
@[simp] theorem State.plainReply_thermal (s : State) (h : Hdr) (op e : Nat) (b : Bytes) : (s.plainReply h op e b).thermal = s.thermal := by
  rw [s.plainReply_sameButPorts h op e b]
@[simp] theorem State.plainReply_avs (s : State) (h : Hdr) (op e : Nat) (b : Bytes) : (s.plainReply h op e b).avs = s.avs := by
  rw [s.plainReply_sameButPorts h op e b]
@[simp] theorem State.plainReply_fabric (s : State) (h : Hdr) (op e : Nat) (b : Bytes) : (s.plainReply h op e b).fabric = s.fabric := by
  rw [s.plainReply_sameButPorts h op e b]
@[simp] theorem State.plainReply_boot (s : State) (h : Hdr) (op e : Nat) (b : Bytes) : (s.plainReply h op e b).boot = s.boot := by
  rw [s.plainReply_sameButPorts h op e b]
@[simp] theorem State.plainReply_otp (s : State) (h : Hdr) (op e : Nat) (b : Bytes) : (s.plainReply h op e b).otp = s.otp := by
  rw [s.plainReply_sameButPorts h op e b]
@[simp] theorem State.plainReply_flash (s : State) (h : Hdr) (op e : Nat) (b : Bytes) : (s.plainReply h op e b).flash = s.flash := by
  rw [s.plainReply_sameButPorts h op e b]
@[simp] theorem State.plainReply_leases (s : State) (h : Hdr) (op e : Nat) (b : Bytes) : (s.plainReply h op e b).leases = s.leases := by
  rw [s.plainReply_sameButPorts h op e b]
@[simp] theorem State.plainReply_mem (s : State) (h : Hdr) (op e : Nat) (b : Bytes) : (s.plainReply h op e b).mem = s.mem := by
  rw [s.plainReply_sameButPorts h op e b]
@[simp] theorem State.plainReply_keys (s : State) (h : Hdr) (op e : Nat) (b : Bytes) : (s.plainReply h op e b).keys = s.keys := by
  rw [s.plainReply_sameButPorts h op e b]
@[simp] theorem State.plainReply_cores (s : State) (h : Hdr) (op e : Nat) (b : Bytes) : (s.plainReply h op e b).cores = s.cores := by
  rw [s.plainReply_sameButPorts h op e b]
@[simp] theorem State.plainReply_jobs (s : State) (h : Hdr) (op e : Nat) (b : Bytes) : (s.plainReply h op e b).jobs = s.jobs := by
  rw [s.plainReply_sameButPorts h op e b]
@[simp] theorem State.plainReply_headbox (s : State) (h : Hdr) (op e : Nat) (b : Bytes) : (s.plainReply h op e b).headbox = s.headbox := by
  rw [s.plainReply_sameButPorts h op e b]
@[simp] theorem State.plainReply_sensors (s : State) (h : Hdr) (op e : Nat) (b : Bytes) : (s.plainReply h op e b).sensors = s.sensors := by
  rw [s.plainReply_sameButPorts h op e b]
@[simp] theorem State.plainReply_tb (s : State) (h : Hdr) (op e : Nat) (b : Bytes) : (s.plainReply h op e b).tb = s.tb := by
  rw [s.plainReply_sameButPorts h op e b]
@[simp] theorem State.plainReply_timers (s : State) (h : Hdr) (op e : Nat) (b : Bytes) : (s.plainReply h op e b).timers = s.timers := by
  rw [s.plainReply_sameButPorts h op e b]
@[simp] theorem State.plainReply_axes (s : State) (h : Hdr) (op e : Nat) (b : Bytes) : (s.plainReply h op e b).axes = s.axes := by
  rw [s.plainReply_sameButPorts h op e b]
@[simp] theorem State.plainReply_safety (s : State) (h : Hdr) (op e : Nat) (b : Bytes) : (s.plainReply h op e b).safety = s.safety := by
  rw [s.plainReply_sameButPorts h op e b]
@[simp] theorem State.plainReply_illum (s : State) (h : Hdr) (op e : Nat) (b : Bytes) : (s.plainReply h op e b).illum = s.illum := by
  rw [s.plainReply_sameButPorts h op e b]
@[simp] theorem State.plainReply_lbus (s : State) (h : Hdr) (op e : Nat) (b : Bytes) : (s.plainReply h op e b).lbus = s.lbus := by
  rw [s.plainReply_sameButPorts h op e b]
@[simp] theorem State.plainReply_radio (s : State) (h : Hdr) (op e : Nat) (b : Bytes) : (s.plainReply h op e b).radio = s.radio := by
  rw [s.plainReply_sameButPorts h op e b]
@[simp] theorem State.plainReply_tag (s : State) (h : Hdr) (op e : Nat) (b : Bytes) : (s.plainReply h op e b).tag = s.tag := by
  rw [s.plainReply_sameButPorts h op e b]
@[simp] theorem State.plainReply_test (s : State) (h : Hdr) (op e : Nat) (b : Bytes) : (s.plainReply h op e b).test = s.test := by
  rw [s.plainReply_sameButPorts h op e b]
@[simp] theorem State.plainReply_store (s : State) (h : Hdr) (op e : Nat) (b : Bytes) : (s.plainReply h op e b).store = s.store := by
  rw [s.plainReply_sameButPorts h op e b]

/-! ### State.reply -/

@[simp] theorem State.reply_now (s : State) (t : Ticket) (e : Nat) (b : Bytes) : (s.reply t e b).now = s.now := by
  rw [s.reply_sameButPorts t e b]
@[simp] theorem State.reply_d02 (s : State) (t : Ticket) (e : Nat) (b : Bytes) : (s.reply t e b).d02 = s.d02 := by
  rw [s.reply_sameButPorts t e b]
@[simp] theorem State.reply_free (s : State) (t : Ticket) (e : Nat) (b : Bytes) : (s.reply t e b).free = s.free := by
  rw [s.reply_sameButPorts t e b]
@[simp] theorem State.reply_draws (s : State) (t : Ticket) (e : Nat) (b : Bytes) : (s.reply t e b).draws = s.draws := by
  rw [s.reply_sameButPorts t e b]
@[simp] theorem State.reply_serial (s : State) (t : Ticket) (e : Nat) (b : Bytes) : (s.reply t e b).serial = s.serial := by
  rw [s.reply_sameButPorts t e b]
@[simp] theorem State.reply_pending (s : State) (t : Ticket) (e : Nat) (b : Bytes) : (s.reply t e b).pending = s.pending := by
  rw [s.reply_sameButPorts t e b]
@[simp] theorem State.reply_deferred (s : State) (t : Ticket) (e : Nat) (b : Bytes) : (s.reply t e b).deferred = s.deferred := by
  rw [s.reply_sameButPorts t e b]
@[simp] theorem State.reply_arrivals (s : State) (t : Ticket) (e : Nat) (b : Bytes) : (s.reply t e b).arrivals = s.arrivals := by
  rw [s.reply_sameButPorts t e b]
@[simp] theorem State.reply_commit (s : State) (t : Ticket) (e : Nat) (b : Bytes) : (s.reply t e b).commit = s.commit := by
  rw [s.reply_sameButPorts t e b]
@[simp] theorem State.reply_thermal (s : State) (t : Ticket) (e : Nat) (b : Bytes) : (s.reply t e b).thermal = s.thermal := by
  rw [s.reply_sameButPorts t e b]
@[simp] theorem State.reply_avs (s : State) (t : Ticket) (e : Nat) (b : Bytes) : (s.reply t e b).avs = s.avs := by
  rw [s.reply_sameButPorts t e b]
@[simp] theorem State.reply_fabric (s : State) (t : Ticket) (e : Nat) (b : Bytes) : (s.reply t e b).fabric = s.fabric := by
  rw [s.reply_sameButPorts t e b]
@[simp] theorem State.reply_boot (s : State) (t : Ticket) (e : Nat) (b : Bytes) : (s.reply t e b).boot = s.boot := by
  rw [s.reply_sameButPorts t e b]
@[simp] theorem State.reply_otp (s : State) (t : Ticket) (e : Nat) (b : Bytes) : (s.reply t e b).otp = s.otp := by
  rw [s.reply_sameButPorts t e b]
@[simp] theorem State.reply_flash (s : State) (t : Ticket) (e : Nat) (b : Bytes) : (s.reply t e b).flash = s.flash := by
  rw [s.reply_sameButPorts t e b]
@[simp] theorem State.reply_leases (s : State) (t : Ticket) (e : Nat) (b : Bytes) : (s.reply t e b).leases = s.leases := by
  rw [s.reply_sameButPorts t e b]
@[simp] theorem State.reply_mem (s : State) (t : Ticket) (e : Nat) (b : Bytes) : (s.reply t e b).mem = s.mem := by
  rw [s.reply_sameButPorts t e b]
@[simp] theorem State.reply_keys (s : State) (t : Ticket) (e : Nat) (b : Bytes) : (s.reply t e b).keys = s.keys := by
  rw [s.reply_sameButPorts t e b]
@[simp] theorem State.reply_cores (s : State) (t : Ticket) (e : Nat) (b : Bytes) : (s.reply t e b).cores = s.cores := by
  rw [s.reply_sameButPorts t e b]
@[simp] theorem State.reply_jobs (s : State) (t : Ticket) (e : Nat) (b : Bytes) : (s.reply t e b).jobs = s.jobs := by
  rw [s.reply_sameButPorts t e b]
@[simp] theorem State.reply_headbox (s : State) (t : Ticket) (e : Nat) (b : Bytes) : (s.reply t e b).headbox = s.headbox := by
  rw [s.reply_sameButPorts t e b]
@[simp] theorem State.reply_sensors (s : State) (t : Ticket) (e : Nat) (b : Bytes) : (s.reply t e b).sensors = s.sensors := by
  rw [s.reply_sameButPorts t e b]
@[simp] theorem State.reply_tb (s : State) (t : Ticket) (e : Nat) (b : Bytes) : (s.reply t e b).tb = s.tb := by
  rw [s.reply_sameButPorts t e b]
@[simp] theorem State.reply_timers (s : State) (t : Ticket) (e : Nat) (b : Bytes) : (s.reply t e b).timers = s.timers := by
  rw [s.reply_sameButPorts t e b]
@[simp] theorem State.reply_axes (s : State) (t : Ticket) (e : Nat) (b : Bytes) : (s.reply t e b).axes = s.axes := by
  rw [s.reply_sameButPorts t e b]
@[simp] theorem State.reply_safety (s : State) (t : Ticket) (e : Nat) (b : Bytes) : (s.reply t e b).safety = s.safety := by
  rw [s.reply_sameButPorts t e b]
@[simp] theorem State.reply_illum (s : State) (t : Ticket) (e : Nat) (b : Bytes) : (s.reply t e b).illum = s.illum := by
  rw [s.reply_sameButPorts t e b]
@[simp] theorem State.reply_lbus (s : State) (t : Ticket) (e : Nat) (b : Bytes) : (s.reply t e b).lbus = s.lbus := by
  rw [s.reply_sameButPorts t e b]
@[simp] theorem State.reply_radio (s : State) (t : Ticket) (e : Nat) (b : Bytes) : (s.reply t e b).radio = s.radio := by
  rw [s.reply_sameButPorts t e b]
@[simp] theorem State.reply_tag (s : State) (t : Ticket) (e : Nat) (b : Bytes) : (s.reply t e b).tag = s.tag := by
  rw [s.reply_sameButPorts t e b]
@[simp] theorem State.reply_test (s : State) (t : Ticket) (e : Nat) (b : Bytes) : (s.reply t e b).test = s.test := by
  rw [s.reply_sameButPorts t e b]
@[simp] theorem State.reply_store (s : State) (t : Ticket) (e : Nat) (b : Bytes) : (s.reply t e b).store = s.store := by
  rw [s.reply_sameButPorts t e b]

/-! ### State.raise -/

@[simp] theorem State.raise_now (s : State) (c k i : Nat) (b : Bytes) (p : Port) : (s.raise c k i b p).now = s.now := by
  rw [s.raise_sameButPorts c k i b p]
@[simp] theorem State.raise_d02 (s : State) (c k i : Nat) (b : Bytes) (p : Port) : (s.raise c k i b p).d02 = s.d02 := by
  rw [s.raise_sameButPorts c k i b p]
@[simp] theorem State.raise_free (s : State) (c k i : Nat) (b : Bytes) (p : Port) : (s.raise c k i b p).free = s.free := by
  rw [s.raise_sameButPorts c k i b p]
@[simp] theorem State.raise_draws (s : State) (c k i : Nat) (b : Bytes) (p : Port) : (s.raise c k i b p).draws = s.draws := by
  rw [s.raise_sameButPorts c k i b p]
@[simp] theorem State.raise_serial (s : State) (c k i : Nat) (b : Bytes) (p : Port) : (s.raise c k i b p).serial = s.serial := by
  rw [s.raise_sameButPorts c k i b p]
@[simp] theorem State.raise_pending (s : State) (c k i : Nat) (b : Bytes) (p : Port) : (s.raise c k i b p).pending = s.pending := by
  rw [s.raise_sameButPorts c k i b p]
@[simp] theorem State.raise_deferred (s : State) (c k i : Nat) (b : Bytes) (p : Port) : (s.raise c k i b p).deferred = s.deferred := by
  rw [s.raise_sameButPorts c k i b p]
@[simp] theorem State.raise_arrivals (s : State) (c k i : Nat) (b : Bytes) (p : Port) : (s.raise c k i b p).arrivals = s.arrivals := by
  rw [s.raise_sameButPorts c k i b p]
@[simp] theorem State.raise_commit (s : State) (c k i : Nat) (b : Bytes) (p : Port) : (s.raise c k i b p).commit = s.commit := by
  rw [s.raise_sameButPorts c k i b p]
@[simp] theorem State.raise_thermal (s : State) (c k i : Nat) (b : Bytes) (p : Port) : (s.raise c k i b p).thermal = s.thermal := by
  rw [s.raise_sameButPorts c k i b p]
@[simp] theorem State.raise_avs (s : State) (c k i : Nat) (b : Bytes) (p : Port) : (s.raise c k i b p).avs = s.avs := by
  rw [s.raise_sameButPorts c k i b p]
@[simp] theorem State.raise_fabric (s : State) (c k i : Nat) (b : Bytes) (p : Port) : (s.raise c k i b p).fabric = s.fabric := by
  rw [s.raise_sameButPorts c k i b p]
@[simp] theorem State.raise_boot (s : State) (c k i : Nat) (b : Bytes) (p : Port) : (s.raise c k i b p).boot = s.boot := by
  rw [s.raise_sameButPorts c k i b p]
@[simp] theorem State.raise_otp (s : State) (c k i : Nat) (b : Bytes) (p : Port) : (s.raise c k i b p).otp = s.otp := by
  rw [s.raise_sameButPorts c k i b p]
@[simp] theorem State.raise_flash (s : State) (c k i : Nat) (b : Bytes) (p : Port) : (s.raise c k i b p).flash = s.flash := by
  rw [s.raise_sameButPorts c k i b p]
@[simp] theorem State.raise_leases (s : State) (c k i : Nat) (b : Bytes) (p : Port) : (s.raise c k i b p).leases = s.leases := by
  rw [s.raise_sameButPorts c k i b p]
@[simp] theorem State.raise_mem (s : State) (c k i : Nat) (b : Bytes) (p : Port) : (s.raise c k i b p).mem = s.mem := by
  rw [s.raise_sameButPorts c k i b p]
@[simp] theorem State.raise_keys (s : State) (c k i : Nat) (b : Bytes) (p : Port) : (s.raise c k i b p).keys = s.keys := by
  rw [s.raise_sameButPorts c k i b p]
@[simp] theorem State.raise_cores (s : State) (c k i : Nat) (b : Bytes) (p : Port) : (s.raise c k i b p).cores = s.cores := by
  rw [s.raise_sameButPorts c k i b p]
@[simp] theorem State.raise_jobs (s : State) (c k i : Nat) (b : Bytes) (p : Port) : (s.raise c k i b p).jobs = s.jobs := by
  rw [s.raise_sameButPorts c k i b p]
@[simp] theorem State.raise_headbox (s : State) (c k i : Nat) (b : Bytes) (p : Port) : (s.raise c k i b p).headbox = s.headbox := by
  rw [s.raise_sameButPorts c k i b p]
@[simp] theorem State.raise_sensors (s : State) (c k i : Nat) (b : Bytes) (p : Port) : (s.raise c k i b p).sensors = s.sensors := by
  rw [s.raise_sameButPorts c k i b p]
@[simp] theorem State.raise_tb (s : State) (c k i : Nat) (b : Bytes) (p : Port) : (s.raise c k i b p).tb = s.tb := by
  rw [s.raise_sameButPorts c k i b p]
@[simp] theorem State.raise_timers (s : State) (c k i : Nat) (b : Bytes) (p : Port) : (s.raise c k i b p).timers = s.timers := by
  rw [s.raise_sameButPorts c k i b p]
@[simp] theorem State.raise_axes (s : State) (c k i : Nat) (b : Bytes) (p : Port) : (s.raise c k i b p).axes = s.axes := by
  rw [s.raise_sameButPorts c k i b p]
@[simp] theorem State.raise_safety (s : State) (c k i : Nat) (b : Bytes) (p : Port) : (s.raise c k i b p).safety = s.safety := by
  rw [s.raise_sameButPorts c k i b p]
@[simp] theorem State.raise_illum (s : State) (c k i : Nat) (b : Bytes) (p : Port) : (s.raise c k i b p).illum = s.illum := by
  rw [s.raise_sameButPorts c k i b p]
@[simp] theorem State.raise_lbus (s : State) (c k i : Nat) (b : Bytes) (p : Port) : (s.raise c k i b p).lbus = s.lbus := by
  rw [s.raise_sameButPorts c k i b p]
@[simp] theorem State.raise_radio (s : State) (c k i : Nat) (b : Bytes) (p : Port) : (s.raise c k i b p).radio = s.radio := by
  rw [s.raise_sameButPorts c k i b p]
@[simp] theorem State.raise_tag (s : State) (c k i : Nat) (b : Bytes) (p : Port) : (s.raise c k i b p).tag = s.tag := by
  rw [s.raise_sameButPorts c k i b p]
@[simp] theorem State.raise_test (s : State) (c k i : Nat) (b : Bytes) (p : Port) : (s.raise c k i b p).test = s.test := by
  rw [s.raise_sameButPorts c k i b p]
@[simp] theorem State.raise_store (s : State) (c k i : Nat) (b : Bytes) (p : Port) : (s.raise c k i b p).store = s.store := by
  rw [s.raise_sameButPorts c k i b p]

/-! ### State.raiseAll -/

@[simp] theorem State.raiseAll_now (s : State) (c k i : Nat) (b : Bytes) : (s.raiseAll c k i b).now = s.now := by
  rw [s.raiseAll_sameButPorts c k i b]
@[simp] theorem State.raiseAll_d02 (s : State) (c k i : Nat) (b : Bytes) : (s.raiseAll c k i b).d02 = s.d02 := by
  rw [s.raiseAll_sameButPorts c k i b]
@[simp] theorem State.raiseAll_free (s : State) (c k i : Nat) (b : Bytes) : (s.raiseAll c k i b).free = s.free := by
  rw [s.raiseAll_sameButPorts c k i b]
@[simp] theorem State.raiseAll_draws (s : State) (c k i : Nat) (b : Bytes) : (s.raiseAll c k i b).draws = s.draws := by
  rw [s.raiseAll_sameButPorts c k i b]
@[simp] theorem State.raiseAll_serial (s : State) (c k i : Nat) (b : Bytes) : (s.raiseAll c k i b).serial = s.serial := by
  rw [s.raiseAll_sameButPorts c k i b]
@[simp] theorem State.raiseAll_pending (s : State) (c k i : Nat) (b : Bytes) : (s.raiseAll c k i b).pending = s.pending := by
  rw [s.raiseAll_sameButPorts c k i b]
@[simp] theorem State.raiseAll_deferred (s : State) (c k i : Nat) (b : Bytes) : (s.raiseAll c k i b).deferred = s.deferred := by
  rw [s.raiseAll_sameButPorts c k i b]
@[simp] theorem State.raiseAll_arrivals (s : State) (c k i : Nat) (b : Bytes) : (s.raiseAll c k i b).arrivals = s.arrivals := by
  rw [s.raiseAll_sameButPorts c k i b]
@[simp] theorem State.raiseAll_commit (s : State) (c k i : Nat) (b : Bytes) : (s.raiseAll c k i b).commit = s.commit := by
  rw [s.raiseAll_sameButPorts c k i b]
@[simp] theorem State.raiseAll_thermal (s : State) (c k i : Nat) (b : Bytes) : (s.raiseAll c k i b).thermal = s.thermal := by
  rw [s.raiseAll_sameButPorts c k i b]
@[simp] theorem State.raiseAll_avs (s : State) (c k i : Nat) (b : Bytes) : (s.raiseAll c k i b).avs = s.avs := by
  rw [s.raiseAll_sameButPorts c k i b]
@[simp] theorem State.raiseAll_fabric (s : State) (c k i : Nat) (b : Bytes) : (s.raiseAll c k i b).fabric = s.fabric := by
  rw [s.raiseAll_sameButPorts c k i b]
@[simp] theorem State.raiseAll_boot (s : State) (c k i : Nat) (b : Bytes) : (s.raiseAll c k i b).boot = s.boot := by
  rw [s.raiseAll_sameButPorts c k i b]
@[simp] theorem State.raiseAll_otp (s : State) (c k i : Nat) (b : Bytes) : (s.raiseAll c k i b).otp = s.otp := by
  rw [s.raiseAll_sameButPorts c k i b]
@[simp] theorem State.raiseAll_flash (s : State) (c k i : Nat) (b : Bytes) : (s.raiseAll c k i b).flash = s.flash := by
  rw [s.raiseAll_sameButPorts c k i b]
@[simp] theorem State.raiseAll_leases (s : State) (c k i : Nat) (b : Bytes) : (s.raiseAll c k i b).leases = s.leases := by
  rw [s.raiseAll_sameButPorts c k i b]
@[simp] theorem State.raiseAll_mem (s : State) (c k i : Nat) (b : Bytes) : (s.raiseAll c k i b).mem = s.mem := by
  rw [s.raiseAll_sameButPorts c k i b]
@[simp] theorem State.raiseAll_keys (s : State) (c k i : Nat) (b : Bytes) : (s.raiseAll c k i b).keys = s.keys := by
  rw [s.raiseAll_sameButPorts c k i b]
@[simp] theorem State.raiseAll_cores (s : State) (c k i : Nat) (b : Bytes) : (s.raiseAll c k i b).cores = s.cores := by
  rw [s.raiseAll_sameButPorts c k i b]
@[simp] theorem State.raiseAll_jobs (s : State) (c k i : Nat) (b : Bytes) : (s.raiseAll c k i b).jobs = s.jobs := by
  rw [s.raiseAll_sameButPorts c k i b]
@[simp] theorem State.raiseAll_headbox (s : State) (c k i : Nat) (b : Bytes) : (s.raiseAll c k i b).headbox = s.headbox := by
  rw [s.raiseAll_sameButPorts c k i b]
@[simp] theorem State.raiseAll_sensors (s : State) (c k i : Nat) (b : Bytes) : (s.raiseAll c k i b).sensors = s.sensors := by
  rw [s.raiseAll_sameButPorts c k i b]
@[simp] theorem State.raiseAll_tb (s : State) (c k i : Nat) (b : Bytes) : (s.raiseAll c k i b).tb = s.tb := by
  rw [s.raiseAll_sameButPorts c k i b]
@[simp] theorem State.raiseAll_timers (s : State) (c k i : Nat) (b : Bytes) : (s.raiseAll c k i b).timers = s.timers := by
  rw [s.raiseAll_sameButPorts c k i b]
@[simp] theorem State.raiseAll_axes (s : State) (c k i : Nat) (b : Bytes) : (s.raiseAll c k i b).axes = s.axes := by
  rw [s.raiseAll_sameButPorts c k i b]
@[simp] theorem State.raiseAll_safety (s : State) (c k i : Nat) (b : Bytes) : (s.raiseAll c k i b).safety = s.safety := by
  rw [s.raiseAll_sameButPorts c k i b]
@[simp] theorem State.raiseAll_illum (s : State) (c k i : Nat) (b : Bytes) : (s.raiseAll c k i b).illum = s.illum := by
  rw [s.raiseAll_sameButPorts c k i b]
@[simp] theorem State.raiseAll_lbus (s : State) (c k i : Nat) (b : Bytes) : (s.raiseAll c k i b).lbus = s.lbus := by
  rw [s.raiseAll_sameButPorts c k i b]
@[simp] theorem State.raiseAll_radio (s : State) (c k i : Nat) (b : Bytes) : (s.raiseAll c k i b).radio = s.radio := by
  rw [s.raiseAll_sameButPorts c k i b]
@[simp] theorem State.raiseAll_tag (s : State) (c k i : Nat) (b : Bytes) : (s.raiseAll c k i b).tag = s.tag := by
  rw [s.raiseAll_sameButPorts c k i b]
@[simp] theorem State.raiseAll_test (s : State) (c k i : Nat) (b : Bytes) : (s.raiseAll c k i b).test = s.test := by
  rw [s.raiseAll_sameButPorts c k i b]
@[simp] theorem State.raiseAll_store (s : State) (c k i : Nat) (b : Bytes) : (s.raiseAll c k i b).store = s.store := by
  rw [s.raiseAll_sameButPorts c k i b]

/-! ### State.raiseTo -/

@[simp] theorem State.raiseTo_now (s : State) (c k i : Nat) (b : Bytes) (o : Nat) : (s.raiseTo c k i b o).now = s.now := by
  rw [s.raiseTo_sameButPorts c k i b o]
@[simp] theorem State.raiseTo_d02 (s : State) (c k i : Nat) (b : Bytes) (o : Nat) : (s.raiseTo c k i b o).d02 = s.d02 := by
  rw [s.raiseTo_sameButPorts c k i b o]
@[simp] theorem State.raiseTo_free (s : State) (c k i : Nat) (b : Bytes) (o : Nat) : (s.raiseTo c k i b o).free = s.free := by
  rw [s.raiseTo_sameButPorts c k i b o]
@[simp] theorem State.raiseTo_draws (s : State) (c k i : Nat) (b : Bytes) (o : Nat) : (s.raiseTo c k i b o).draws = s.draws := by
  rw [s.raiseTo_sameButPorts c k i b o]
@[simp] theorem State.raiseTo_serial (s : State) (c k i : Nat) (b : Bytes) (o : Nat) : (s.raiseTo c k i b o).serial = s.serial := by
  rw [s.raiseTo_sameButPorts c k i b o]
@[simp] theorem State.raiseTo_pending (s : State) (c k i : Nat) (b : Bytes) (o : Nat) : (s.raiseTo c k i b o).pending = s.pending := by
  rw [s.raiseTo_sameButPorts c k i b o]
@[simp] theorem State.raiseTo_deferred (s : State) (c k i : Nat) (b : Bytes) (o : Nat) : (s.raiseTo c k i b o).deferred = s.deferred := by
  rw [s.raiseTo_sameButPorts c k i b o]
@[simp] theorem State.raiseTo_arrivals (s : State) (c k i : Nat) (b : Bytes) (o : Nat) : (s.raiseTo c k i b o).arrivals = s.arrivals := by
  rw [s.raiseTo_sameButPorts c k i b o]
@[simp] theorem State.raiseTo_commit (s : State) (c k i : Nat) (b : Bytes) (o : Nat) : (s.raiseTo c k i b o).commit = s.commit := by
  rw [s.raiseTo_sameButPorts c k i b o]
@[simp] theorem State.raiseTo_thermal (s : State) (c k i : Nat) (b : Bytes) (o : Nat) : (s.raiseTo c k i b o).thermal = s.thermal := by
  rw [s.raiseTo_sameButPorts c k i b o]
@[simp] theorem State.raiseTo_avs (s : State) (c k i : Nat) (b : Bytes) (o : Nat) : (s.raiseTo c k i b o).avs = s.avs := by
  rw [s.raiseTo_sameButPorts c k i b o]
@[simp] theorem State.raiseTo_fabric (s : State) (c k i : Nat) (b : Bytes) (o : Nat) : (s.raiseTo c k i b o).fabric = s.fabric := by
  rw [s.raiseTo_sameButPorts c k i b o]
@[simp] theorem State.raiseTo_boot (s : State) (c k i : Nat) (b : Bytes) (o : Nat) : (s.raiseTo c k i b o).boot = s.boot := by
  rw [s.raiseTo_sameButPorts c k i b o]
@[simp] theorem State.raiseTo_otp (s : State) (c k i : Nat) (b : Bytes) (o : Nat) : (s.raiseTo c k i b o).otp = s.otp := by
  rw [s.raiseTo_sameButPorts c k i b o]
@[simp] theorem State.raiseTo_flash (s : State) (c k i : Nat) (b : Bytes) (o : Nat) : (s.raiseTo c k i b o).flash = s.flash := by
  rw [s.raiseTo_sameButPorts c k i b o]
@[simp] theorem State.raiseTo_leases (s : State) (c k i : Nat) (b : Bytes) (o : Nat) : (s.raiseTo c k i b o).leases = s.leases := by
  rw [s.raiseTo_sameButPorts c k i b o]
@[simp] theorem State.raiseTo_mem (s : State) (c k i : Nat) (b : Bytes) (o : Nat) : (s.raiseTo c k i b o).mem = s.mem := by
  rw [s.raiseTo_sameButPorts c k i b o]
@[simp] theorem State.raiseTo_keys (s : State) (c k i : Nat) (b : Bytes) (o : Nat) : (s.raiseTo c k i b o).keys = s.keys := by
  rw [s.raiseTo_sameButPorts c k i b o]
@[simp] theorem State.raiseTo_cores (s : State) (c k i : Nat) (b : Bytes) (o : Nat) : (s.raiseTo c k i b o).cores = s.cores := by
  rw [s.raiseTo_sameButPorts c k i b o]
@[simp] theorem State.raiseTo_jobs (s : State) (c k i : Nat) (b : Bytes) (o : Nat) : (s.raiseTo c k i b o).jobs = s.jobs := by
  rw [s.raiseTo_sameButPorts c k i b o]
@[simp] theorem State.raiseTo_headbox (s : State) (c k i : Nat) (b : Bytes) (o : Nat) : (s.raiseTo c k i b o).headbox = s.headbox := by
  rw [s.raiseTo_sameButPorts c k i b o]
@[simp] theorem State.raiseTo_sensors (s : State) (c k i : Nat) (b : Bytes) (o : Nat) : (s.raiseTo c k i b o).sensors = s.sensors := by
  rw [s.raiseTo_sameButPorts c k i b o]
@[simp] theorem State.raiseTo_tb (s : State) (c k i : Nat) (b : Bytes) (o : Nat) : (s.raiseTo c k i b o).tb = s.tb := by
  rw [s.raiseTo_sameButPorts c k i b o]
@[simp] theorem State.raiseTo_timers (s : State) (c k i : Nat) (b : Bytes) (o : Nat) : (s.raiseTo c k i b o).timers = s.timers := by
  rw [s.raiseTo_sameButPorts c k i b o]
@[simp] theorem State.raiseTo_axes (s : State) (c k i : Nat) (b : Bytes) (o : Nat) : (s.raiseTo c k i b o).axes = s.axes := by
  rw [s.raiseTo_sameButPorts c k i b o]
@[simp] theorem State.raiseTo_safety (s : State) (c k i : Nat) (b : Bytes) (o : Nat) : (s.raiseTo c k i b o).safety = s.safety := by
  rw [s.raiseTo_sameButPorts c k i b o]
@[simp] theorem State.raiseTo_illum (s : State) (c k i : Nat) (b : Bytes) (o : Nat) : (s.raiseTo c k i b o).illum = s.illum := by
  rw [s.raiseTo_sameButPorts c k i b o]
@[simp] theorem State.raiseTo_lbus (s : State) (c k i : Nat) (b : Bytes) (o : Nat) : (s.raiseTo c k i b o).lbus = s.lbus := by
  rw [s.raiseTo_sameButPorts c k i b o]
@[simp] theorem State.raiseTo_radio (s : State) (c k i : Nat) (b : Bytes) (o : Nat) : (s.raiseTo c k i b o).radio = s.radio := by
  rw [s.raiseTo_sameButPorts c k i b o]
@[simp] theorem State.raiseTo_tag (s : State) (c k i : Nat) (b : Bytes) (o : Nat) : (s.raiseTo c k i b o).tag = s.tag := by
  rw [s.raiseTo_sameButPorts c k i b o]
@[simp] theorem State.raiseTo_test (s : State) (c k i : Nat) (b : Bytes) (o : Nat) : (s.raiseTo c k i b o).test = s.test := by
  rw [s.raiseTo_sameButPorts c k i b o]
@[simp] theorem State.raiseTo_store (s : State) (c k i : Nat) (b : Bytes) (o : Nat) : (s.raiseTo c k i b o).store = s.store := by
  rw [s.raiseTo_sameButPorts c k i b o]

/-! ### State.carried -/

@[simp] theorem State.carried_now (s : State) (p : Port) : (s.carried p).now = s.now := by
  rw [s.carried_sameButPorts p]
@[simp] theorem State.carried_d02 (s : State) (p : Port) : (s.carried p).d02 = s.d02 := by
  rw [s.carried_sameButPorts p]
@[simp] theorem State.carried_free (s : State) (p : Port) : (s.carried p).free = s.free := by
  rw [s.carried_sameButPorts p]
@[simp] theorem State.carried_draws (s : State) (p : Port) : (s.carried p).draws = s.draws := by
  rw [s.carried_sameButPorts p]
@[simp] theorem State.carried_serial (s : State) (p : Port) : (s.carried p).serial = s.serial := by
  rw [s.carried_sameButPorts p]
@[simp] theorem State.carried_pending (s : State) (p : Port) : (s.carried p).pending = s.pending := by
  rw [s.carried_sameButPorts p]
@[simp] theorem State.carried_deferred (s : State) (p : Port) : (s.carried p).deferred = s.deferred := by
  rw [s.carried_sameButPorts p]
@[simp] theorem State.carried_arrivals (s : State) (p : Port) : (s.carried p).arrivals = s.arrivals := by
  rw [s.carried_sameButPorts p]
@[simp] theorem State.carried_commit (s : State) (p : Port) : (s.carried p).commit = s.commit := by
  rw [s.carried_sameButPorts p]
@[simp] theorem State.carried_thermal (s : State) (p : Port) : (s.carried p).thermal = s.thermal := by
  rw [s.carried_sameButPorts p]
@[simp] theorem State.carried_avs (s : State) (p : Port) : (s.carried p).avs = s.avs := by
  rw [s.carried_sameButPorts p]
@[simp] theorem State.carried_fabric (s : State) (p : Port) : (s.carried p).fabric = s.fabric := by
  rw [s.carried_sameButPorts p]
@[simp] theorem State.carried_boot (s : State) (p : Port) : (s.carried p).boot = s.boot := by
  rw [s.carried_sameButPorts p]
@[simp] theorem State.carried_otp (s : State) (p : Port) : (s.carried p).otp = s.otp := by
  rw [s.carried_sameButPorts p]
@[simp] theorem State.carried_flash (s : State) (p : Port) : (s.carried p).flash = s.flash := by
  rw [s.carried_sameButPorts p]
@[simp] theorem State.carried_leases (s : State) (p : Port) : (s.carried p).leases = s.leases := by
  rw [s.carried_sameButPorts p]
@[simp] theorem State.carried_mem (s : State) (p : Port) : (s.carried p).mem = s.mem := by
  rw [s.carried_sameButPorts p]
@[simp] theorem State.carried_keys (s : State) (p : Port) : (s.carried p).keys = s.keys := by
  rw [s.carried_sameButPorts p]
@[simp] theorem State.carried_cores (s : State) (p : Port) : (s.carried p).cores = s.cores := by
  rw [s.carried_sameButPorts p]
@[simp] theorem State.carried_jobs (s : State) (p : Port) : (s.carried p).jobs = s.jobs := by
  rw [s.carried_sameButPorts p]
@[simp] theorem State.carried_headbox (s : State) (p : Port) : (s.carried p).headbox = s.headbox := by
  rw [s.carried_sameButPorts p]
@[simp] theorem State.carried_sensors (s : State) (p : Port) : (s.carried p).sensors = s.sensors := by
  rw [s.carried_sameButPorts p]
@[simp] theorem State.carried_tb (s : State) (p : Port) : (s.carried p).tb = s.tb := by
  rw [s.carried_sameButPorts p]
@[simp] theorem State.carried_timers (s : State) (p : Port) : (s.carried p).timers = s.timers := by
  rw [s.carried_sameButPorts p]
@[simp] theorem State.carried_axes (s : State) (p : Port) : (s.carried p).axes = s.axes := by
  rw [s.carried_sameButPorts p]
@[simp] theorem State.carried_safety (s : State) (p : Port) : (s.carried p).safety = s.safety := by
  rw [s.carried_sameButPorts p]
@[simp] theorem State.carried_illum (s : State) (p : Port) : (s.carried p).illum = s.illum := by
  rw [s.carried_sameButPorts p]
@[simp] theorem State.carried_lbus (s : State) (p : Port) : (s.carried p).lbus = s.lbus := by
  rw [s.carried_sameButPorts p]
@[simp] theorem State.carried_radio (s : State) (p : Port) : (s.carried p).radio = s.radio := by
  rw [s.carried_sameButPorts p]
@[simp] theorem State.carried_tag (s : State) (p : Port) : (s.carried p).tag = s.tag := by
  rw [s.carried_sameButPorts p]
@[simp] theorem State.carried_test (s : State) (p : Port) : (s.carried p).test = s.test := by
  rw [s.carried_sameButPorts p]
@[simp] theorem State.carried_store (s : State) (p : Port) : (s.carried p).store = s.store := by
  rw [s.carried_sameButPorts p]

/-! ### State.accepted -/

@[simp] theorem State.accepted_now (s : State) (h : Hdr) : (s.accepted h).now = s.now := by
  rw [s.accepted_sameButPorts h]
@[simp] theorem State.accepted_d02 (s : State) (h : Hdr) : (s.accepted h).d02 = s.d02 := by
  rw [s.accepted_sameButPorts h]
@[simp] theorem State.accepted_free (s : State) (h : Hdr) : (s.accepted h).free = s.free := by
  rw [s.accepted_sameButPorts h]
@[simp] theorem State.accepted_draws (s : State) (h : Hdr) : (s.accepted h).draws = s.draws := by
  rw [s.accepted_sameButPorts h]
@[simp] theorem State.accepted_serial (s : State) (h : Hdr) : (s.accepted h).serial = s.serial := by
  rw [s.accepted_sameButPorts h]
@[simp] theorem State.accepted_pending (s : State) (h : Hdr) : (s.accepted h).pending = s.pending := by
  rw [s.accepted_sameButPorts h]
@[simp] theorem State.accepted_deferred (s : State) (h : Hdr) : (s.accepted h).deferred = s.deferred := by
  rw [s.accepted_sameButPorts h]
@[simp] theorem State.accepted_arrivals (s : State) (h : Hdr) : (s.accepted h).arrivals = s.arrivals := by
  rw [s.accepted_sameButPorts h]
@[simp] theorem State.accepted_commit (s : State) (h : Hdr) : (s.accepted h).commit = s.commit := by
  rw [s.accepted_sameButPorts h]
@[simp] theorem State.accepted_thermal (s : State) (h : Hdr) : (s.accepted h).thermal = s.thermal := by
  rw [s.accepted_sameButPorts h]
@[simp] theorem State.accepted_avs (s : State) (h : Hdr) : (s.accepted h).avs = s.avs := by
  rw [s.accepted_sameButPorts h]
@[simp] theorem State.accepted_fabric (s : State) (h : Hdr) : (s.accepted h).fabric = s.fabric := by
  rw [s.accepted_sameButPorts h]
@[simp] theorem State.accepted_boot (s : State) (h : Hdr) : (s.accepted h).boot = s.boot := by
  rw [s.accepted_sameButPorts h]
@[simp] theorem State.accepted_otp (s : State) (h : Hdr) : (s.accepted h).otp = s.otp := by
  rw [s.accepted_sameButPorts h]
@[simp] theorem State.accepted_flash (s : State) (h : Hdr) : (s.accepted h).flash = s.flash := by
  rw [s.accepted_sameButPorts h]
@[simp] theorem State.accepted_leases (s : State) (h : Hdr) : (s.accepted h).leases = s.leases := by
  rw [s.accepted_sameButPorts h]
@[simp] theorem State.accepted_mem (s : State) (h : Hdr) : (s.accepted h).mem = s.mem := by
  rw [s.accepted_sameButPorts h]
@[simp] theorem State.accepted_keys (s : State) (h : Hdr) : (s.accepted h).keys = s.keys := by
  rw [s.accepted_sameButPorts h]
@[simp] theorem State.accepted_cores (s : State) (h : Hdr) : (s.accepted h).cores = s.cores := by
  rw [s.accepted_sameButPorts h]
@[simp] theorem State.accepted_jobs (s : State) (h : Hdr) : (s.accepted h).jobs = s.jobs := by
  rw [s.accepted_sameButPorts h]
@[simp] theorem State.accepted_headbox (s : State) (h : Hdr) : (s.accepted h).headbox = s.headbox := by
  rw [s.accepted_sameButPorts h]
@[simp] theorem State.accepted_sensors (s : State) (h : Hdr) : (s.accepted h).sensors = s.sensors := by
  rw [s.accepted_sameButPorts h]
@[simp] theorem State.accepted_tb (s : State) (h : Hdr) : (s.accepted h).tb = s.tb := by
  rw [s.accepted_sameButPorts h]
@[simp] theorem State.accepted_timers (s : State) (h : Hdr) : (s.accepted h).timers = s.timers := by
  rw [s.accepted_sameButPorts h]
@[simp] theorem State.accepted_axes (s : State) (h : Hdr) : (s.accepted h).axes = s.axes := by
  rw [s.accepted_sameButPorts h]
@[simp] theorem State.accepted_safety (s : State) (h : Hdr) : (s.accepted h).safety = s.safety := by
  rw [s.accepted_sameButPorts h]
@[simp] theorem State.accepted_illum (s : State) (h : Hdr) : (s.accepted h).illum = s.illum := by
  rw [s.accepted_sameButPorts h]
@[simp] theorem State.accepted_lbus (s : State) (h : Hdr) : (s.accepted h).lbus = s.lbus := by
  rw [s.accepted_sameButPorts h]
@[simp] theorem State.accepted_radio (s : State) (h : Hdr) : (s.accepted h).radio = s.radio := by
  rw [s.accepted_sameButPorts h]
@[simp] theorem State.accepted_tag (s : State) (h : Hdr) : (s.accepted h).tag = s.tag := by
  rw [s.accepted_sameButPorts h]
@[simp] theorem State.accepted_test (s : State) (h : Hdr) : (s.accepted h).test = s.test := by
  rw [s.accepted_sameButPorts h]
@[simp] theorem State.accepted_store (s : State) (h : Hdr) : (s.accepted h).store = s.store := by
  rw [s.accepted_sameButPorts h]

@[simp] theorem State.raise_hpa (s : State) (c k i : Nat) (b : Bytes) (p : Port) : (s.raise c k i b p).hpa = s.hpa := by
  rfl

@[simp] theorem State.raise_net (s : State) (c k i : Nat) (b : Bytes) (p : Port) : (s.raise c k i b p).net = s.net := by
  rfl

@[simp] theorem State.raise_out (s : State) (c k i : Nat) (b : Bytes) (p : Port) : (s.raise c k i b p).out = s.out := by
  rfl

@[simp] theorem State.raiseAll_hpa (s : State) (c k i : Nat) (b : Bytes) : (s.raiseAll c k i b).hpa = s.hpa := by
  unfold State.raiseAll
  generalize List.finRange 4 = l
  induction l generalizing s with
  | nil => rfl
  | cons a l ih => exact (ih _).trans rfl

@[simp] theorem State.raiseAll_net (s : State) (c k i : Nat) (b : Bytes) : (s.raiseAll c k i b).net = s.net := by
  unfold State.raiseAll
  generalize List.finRange 4 = l
  induction l generalizing s with
  | nil => rfl
  | cons a l ih => exact (ih _).trans rfl

@[simp] theorem State.raiseAll_out (s : State) (c k i : Nat) (b : Bytes) : (s.raiseAll c k i b).out = s.out := by
  unfold State.raiseAll
  generalize List.finRange 4 = l
  induction l generalizing s with
  | nil => rfl
  | cons a l ih => exact (ih _).trans rfl

@[simp] theorem State.raiseTo_hpa (s : State) (c k i : Nat) (b : Bytes) (o : Nat) : (s.raiseTo c k i b o).hpa = s.hpa := by
  unfold State.raiseTo; split <;> simp

@[simp] theorem State.raiseTo_net (s : State) (c k i : Nat) (b : Bytes) (o : Nat) : (s.raiseTo c k i b o).net = s.net := by
  unfold State.raiseTo; split <;> simp

@[simp] theorem State.raiseTo_out (s : State) (c k i : Nat) (b : Bytes) (o : Nat) : (s.raiseTo c k i b o).out = s.out := by
  unfold State.raiseTo; split <;> simp

@[simp] theorem State.carried_hpa (s : State) (p : Port) : (s.carried p).hpa = s.hpa := by
  unfold State.carried; (repeat' split) <;> rfl

@[simp] theorem State.accepted_hpa (s : State) (h : Hdr) : (s.accepted h).hpa = s.hpa := by
  exact s.carried_hpa _

end Sys2Proof.Machine
end

