-- ==== Sys2Proof/Laws/Serve.lean ====
section
/-! SUPPORT. Serving a command that passes every check: it acts once on the state with its sequence number taken, its reply is
cached in its session, and nothing else moves. -/

namespace Sys2Proof.Machine

/-! ### Quiet and silent states -/

/-- A status no counter counts. -/
abbrev Uncounted (e : Nat) : Prop := e ≠ eAuth ∧ e ≠ eReplay ∧ e ≠ eContended ∧ e ≠ eNotHolder

theorem uncounted_ok : Uncounted stOk := by decide
theorem uncounted_accepted : Uncounted stAccepted := by decide
theorem uncounted_param : Uncounted eParam := by decide
theorem uncounted_state : Uncounted eState := by decide
theorem uncounted_busy : Uncounted eBusy := by decide

theorem State.countStatus_uncounted (s : State) (p : Port) {e : Nat} (h : Uncounted e) : s.countStatus p e = s := by
  simp [State.countStatus, h.1, h.2.1, h.2.2.1, h.2.2.2]

theorem State.signal_quiet (s : State) (v : Fin 64) : (s.signal v).quiet = s.quiet := by
  unfold State.signal; split <;> rfl

theorem State.complete_quiet (s : State) (i n a : Nat) (d : Bool) : (s.complete i n a d).quiet = s.quiet := by
  unfold State.complete
  split
  · rw [State.signal_quiet]; rfl
  · rfl

theorem State.forgo_quiet (s : State) (v : Carriage) : (s.forgo v).quiet = s.quiet := by
  unfold State.forgo; (repeat' split) <;> rfl

theorem State.dropPacket_quiet (s : State) (h : Hdr) : (s.dropPacket h).quiet = s.quiet := by
  unfold State.dropPacket
  split
  · split
    · exact s.forgo_quiet _
    · split
      · rfl
      · exact s.complete_quiet _ _ _ _
  · rfl

theorem State.transmit_quiet (s : State) (p : Port) (v : Carriage) (k : Packet) : (s.transmit p v k).quiet = s.quiet := by
  unfold State.transmit
  split
  · exact s.forgo_quiet _
  · split
    · split
      · rw [State.complete_quiet]; rfl
      · rfl
    · split <;> rfl
    · rfl
    · rfl

theorem State.updOwner_quiet (s : State) (p : Port) (f : OwnerState → OwnerState) (h : ∀ o, (f o).quiet = o.quiet) :
    (s.updOwner p f).quiet = s.quiet := by
  have : (bankUpd s.owners p f).map OwnerState.quiet = s.owners.map OwnerState.quiet := bankUpd_map_same _ _ _ _ h
  simp only [State.quiet, State.updOwner, this]

theorem State.updSession_quiet (s : State) (p : Port) (f : Session → Session) (h : ∀ x, (f x).quiet = x.quiet) :
    (s.updSession p f).quiet = s.quiet := by
  refine s.updOwner_quiet p _ fun o => ?_
  cases hs : o.session <;> simp [OwnerState.quiet, hs, h]

theorem State.plainReply_quiet (s : State) (h : Hdr) (op : Nat) {e : Nat} (b : Bytes) (he : Uncounted e) :
    (s.plainReply h op e b).quiet = s.quiet := by
  rw [State.plainReply, State.transmit_quiet, s.countStatus_uncounted _ he]

theorem State.reply_quiet (s : State) (t : Ticket) {e : Nat} (b : Bytes) (he : Uncounted e) :
    (s.reply t e b).quiet = s.quiet := by
  unfold State.reply
  split
  · exact s.plainReply_quiet _ _ _ he
  · split
    · rw [State.plainReply_quiet _ _ _ _ he]
      exact s.updSession_quiet _ _ fun x => by split <;> rfl
    · split
      · exact s.dropPacket_quiet _
      · split
        · rw [State.transmit_quiet, State.countStatus_uncounted _ _ he]
          exact s.updSession_quiet _ _ fun x => rfl
        · exact s.dropPacket_quiet _

theorem State.carried_quiet (s : State) (p : Port) : (s.carried p).quiet = s.quiet := by
  unfold State.carried; (repeat' split) <;> rfl

theorem State.silent_of_quiet {s t : State} (h : s.quiet = t.quiet) : s.silent = t.silent := by
  have key : ∀ o : OwnerState, o.silent = (o.quiet).silent := fun o => by
    cases hs : o.session <;> simp [OwnerState.silent, OwnerState.quiet, hs, Session.quiet, Session.unheard]
  have ow : ∀ v : State, v.silent = { v.quiet with owners := v.quiet.owners.map OwnerState.silent } := fun v => by
    have : v.owners.map OwnerState.silent = (v.owners.map OwnerState.quiet).map OwnerState.silent := by
      rw [Vector.map_map]; congr 1; funext o; exact key o
    simp only [State.silent, State.quiet, this]
  rw [ow s, ow t, h]

theorem State.reply_silent (s : State) (t : Ticket) {e : Nat} (b : Bytes) (he : Uncounted e) :
    (s.reply t e b).silent = s.silent := State.silent_of_quiet (s.reply_quiet t b he)

/-- What the present tick's events are remembered by is what `Session.unheard` leaves out. -/
theorem Session.today_unheard (x : Session) (now : Nat) : (x.today now).unheard = x.unheard := by
  unfold Session.today; split <;> rfl

/-- An event reaches an owner's queue, its count of lost events and its session's memory of events, and nothing else. -/
theorem OwnerState.takeEvent_frame (now : Nat) (dead : Bool) (o : OwnerState) (e : EventMsg) :
    ∃ x ev n, o.takeEvent now dead e = { o with session := x, events := ev, cntLost := n } ∧
      x.map Session.unheard = o.session.map Session.unheard := by
  unfold OwnerState.takeEvent
  cases hs : o.session with
  | none => exact ⟨none, o.events, o.cntLost, by cases o; simp_all⟩
  | some y =>
    have key := y.today_unheard now
    simp only
    (repeat' split) <;> exact ⟨_, _, _, rfl, by simpa [Session.unheard] using key⟩

theorem OwnerState.takeEvent_silent (now : Nat) (dead : Bool) (o : OwnerState) (e : EventMsg) :
    (o.takeEvent now dead e).silent = o.silent := by
  obtain ⟨x, ev, n, h, k⟩ := o.takeEvent_frame now dead e
  have q : ∀ y : Session, y.quiet.unheard = y.unheard.quiet := fun _ => rfl
  have : (x.map fun y => y.quiet.unheard) = o.session.map fun y => y.quiet.unheard := by
    simpa [q, Function.comp_def] using congrArg (Option.map Session.quiet) k
  simp only [h, OwnerState.silent, this]

theorem State.raise_silent (s : State) (c k i : Nat) (b : Bytes) (p : Port) : (s.raise c k i b p).silent = s.silent := by
  have : (s.raise c k i b p).owners.map OwnerState.silent = s.owners.map OwnerState.silent :=
    bankUpd_map_same _ _ _ _ fun o => o.takeEvent_silent _ _ _
  simp only [State.silent, this, State.quiet, State.raise_hpa, State.raise_net]; rfl

theorem State.raiseAll_silent (s : State) (c k i : Nat) (b : Bytes) : (s.raiseAll c k i b).silent = s.silent := by
  unfold State.raiseAll
  generalize List.finRange 4 = l
  induction l generalizing s with
  | nil => rfl
  | cons a l ih => exact (ih _).trans (s.raise_silent c k i b a)

theorem State.raiseTo_silent (s : State) (c k i : Nat) (b : Bytes) (o : Nat) : (s.raiseTo c k i b o).silent = s.silent := by
  unfold State.raiseTo; split
  · exact s.raise_silent _ _ _ _ _
  · rfl

/-! ### Sessions -/

/-- A session but for its subscription and its events. -/
def Session.core (x : Session) : Session := { x.unheard with mask := 0, encEv := false }

/-- The sessions, but for what subscribing and events change in them. -/
def State.sessions (s : State) : Vector (Option Session) 4 :=
  s.owners.map fun o => o.session.map Session.core

theorem State.sessions_of_owners {s t : State} (h : s.owners = t.owners) : s.sessions = t.sessions := by
  simp [State.sessions, h]

@[simp] theorem State.raise_sessions (s : State) (c k i : Nat) (b : Bytes) (p : Port) :
    (s.raise c k i b p).sessions = s.sessions := by
  refine bankUpd_map_same _ _ _ _ fun o => ?_
  obtain ⟨x, ev, n, h, k⟩ := o.takeEvent_frame s.now (s.portDead p) ⟨c, k, i, 0, s.eventBody b⟩
  have q : ∀ y : Session, y.core = y.unheard.core := fun _ => rfl
  rw [h]
  show x.map Session.core = o.session.map Session.core
  simpa [← q, Function.comp_def] using congrArg (Option.map Session.core) k

@[simp] theorem State.raiseAll_sessions (s : State) (c k i : Nat) (b : Bytes) :
    (s.raiseAll c k i b).sessions = s.sessions := by
  unfold State.raiseAll
  generalize List.finRange 4 = l
  induction l generalizing s with
  | nil => rfl
  | cons a l ih => exact (ih _).trans (s.raise_sessions c k i b a)

@[simp] theorem State.raiseTo_sessions (s : State) (c k i : Nat) (b : Bytes) (o : Nat) :
    (s.raiseTo c k i b o).sessions = s.sessions := by
  unfold State.raiseTo; split
  · exact s.raise_sessions _ _ _ _ _
  · rfl

theorem State.sessions_get (s : State) (p : Port) :
    s.sessions.get p = (s.owner p).session.map Session.core := by
  simp [State.sessions, State.owner, Vector.get_eq_getElem]

theorem State.calm_iff (s : State) :
    s.calm = true ↔ ∀ p x, (s.owner p).session = some x → x.closing = none ∧ x.ending = false := by
  simp only [State.calm, List.all_eq_true, Vector.mem_toList_iff]
  constructor
  · intro h p x hx
    have := h (s.owner p) (by simp [State.owner, Vector.get_eq_getElem])
    rw [hx] at this
    simpa using this
  · intro h o ho
    obtain ⟨i, hi, rfl⟩ := Vector.getElem_of_mem ho
    cases hs : s.owners[i].session with
    | none => rfl
    | some x => simpa using h ⟨i, hi⟩ x hs

theorem State.calm_of_sessions {s t : State} (h : s.sessions = t.sessions) (c : t.calm = true) : s.calm = true := by
  rw [State.calm_iff] at *
  intro p x hx
  have e : s.sessions.get p = t.sessions.get p := by rw [h]
  rw [s.sessions_get, t.sessions_get, hx] at e
  cases hy : (t.owner p).session with
  | none => simp [hy] at e
  | some y =>
    have := c p y hy
    simp only [hy, Option.map_some, Option.some.injEq] at e
    exact ⟨(congrArg Session.closing e).trans this.1, (congrArg Session.ending e).trans this.2⟩

theorem forAll_fixed {n : Nat} {σ : Type} (s : σ) (f : σ → Fin n → σ) (h : ∀ i, f s i = s) : forAll s f = s := by
  unfold forAll
  generalize List.finRange n = l
  induction l with
  | nil => rfl
  | cons a l ih => rw [List.foldl_cons, h a, ih]

/-- With no session waiting to end, ending sessions changes nothing. -/
theorem State.finish_calm {s : State} (c : s.calm = true) : s.finish = s := by
  rw [State.calm_iff] at c
  refine forAll_fixed _ _ fun p => ?_
  cases hs : (s.owner p).session with
  | none => simp
  | some x => simp [(c p x hs).1, (c p x hs).2]

end Sys2Proof.Machine
end

