-- ==== Sys2Proof/Laws/Accepted.lean ====
section
/-! SUPPORT. A command that passes every check: what `serve` makes of it, and how a row's completion follows from what its
effect does to the accepted state. -/

namespace Sys2Proof.Machine

/-! ### The accepted state -/

theorem State.carried_owners (s : State) (p : Port) : (s.carried p).owners = s.owners := by
  unfold State.carried; (repeat' split) <;> rfl

theorem State.carried_owner (s : State) (p q : Port) : (s.carried p).owner q = s.owner q := by
  rw [State.owner, s.carried_owners]; rfl

theorem State.carried_maxPacket (s : State) (p q : Port) : (s.carried p).maxPacket q = s.maxPacket q := by
  have : (s.carried p).net.inForce = s.net.inForce := by unfold State.carried; (repeat' split) <;> rfl
  simp only [State.maxPacket, this]

theorem State.accepted_maxPacket (s : State) (h : Hdr) (q : Port) : (s.accepted h).maxPacket q = s.maxPacket q :=
  s.carried_maxPacket _ q

theorem State.accepted_owner_self {s : State} {h : Hdr} {ses : Session} (hs : (s.owner h.port).session = some ses) :
    (s.accepted h).owner h.port = { s.owner h.port with session := some (ses.took h.seq.toNat) } := by
  simp [State.accepted, State.updSession, State.owner, s.carried_owners] at *
  simp [hs]

theorem State.accepted_owner_ne {s : State} {h : Hdr} {q : Port} (hq : h.port ≠ q) : (s.accepted h).owner q = s.owner q := by
  simp [State.accepted, State.updSession, State.owner, s.carried_owners, bankUpd_get, hq]

theorem State.accepted_sys (s : State) (h : Hdr) (q : Port) : ((s.accepted h).owner q).sys = (s.owner q).sys := by
  simp only [State.accepted, State.updSession, State.owner, State.updOwner_owners, s.carried_owners, bankUpd_get]
  split <;> rfl

theorem State.carried_via (s : State) (p : Port) (v : Carriage) : (s.carried p).via v = s.via v := by
  unfold State.via State.carried; (repeat' split) <;> rfl

theorem State.accepted_calm {s : State} {h : Hdr} (hq : h.seq.toNat ≠ 0xFFFFFFFF) (c : s.calm = true) :
    (s.accepted h).calm = true := by
  rw [State.calm_iff] at *
  intro p x hx
  by_cases hp : h.port = p
  · subst hp
    cases hs : (s.owner h.port).session with
    | none =>
      have : ((s.accepted h).owner h.port).session = none := by
        simp [State.accepted, State.updSession, State.owner, s.carried_owners] at *; simp [hs]
      rw [this] at hx; cases hx
    | some y =>
      rw [State.accepted_owner_self hs] at hx
      cases hx
      simpa [Session.took, hq] using c _ _ hs
  · rw [State.accepted_owner_ne hp] at hx; exact c p x hx

theorem State.accepted_quiet {s : State} {h : Hdr} (hq : h.seq.toNat ≠ 0xFFFFFFFF) : (s.accepted h).quiet = s.quiet := by
  rw [State.accepted, State.updSession_quiet, s.carried_quiet]
  intro x; simp [Session.quiet, Session.took, hq]

/-! ### Checks on the accepted state -/

theorem State.accepted_formFault (s : State) (h : Hdr) (a : Arrival) : (s.accepted h).formFault a = s.formFault a := by
  simp [State.formFault, State.accepted_maxPacket]

theorem State.accepted_gate (s : State) (h : Hdr) (a : Arrival) : (s.accepted h).gate a = s.gate a := by
  have h1 : ∀ g k i, (s.accepted h).holds g k i = s.holds g k i := fun g k i => by simp [State.holds, State.holder]
  have h2 : ∀ u, (s.accepted h).underTest u = s.underTest u := fun u => by simp [State.underTest]
  have h3 : ∀ p c, (s.accepted h).usesHbm p c = s.usesHbm p c := fun p c => by
    cases c <;> simp [State.usesHbm, State.region]
  have h4 : ∀ g c, (s.accepted h).needsLease g c = s.needsLease g c := fun g c => by
    simp only [State.needsLease, State.accepted_boot]
  simp [State.gate, h1, h2, h3, h4, State.testHolds, State.lossRuns]

theorem State.accepted_ownerMay (s : State) (h : Hdr) (p : Port) (c : Cmd) : (s.accepted h).ownerMay p c = s.ownerMay p c := by
  unfold State.ownerMay; rw [State.accepted_sys]

theorem State.accepted_regRight (s : State) (h : Hdr) (p : Port) (a : Nat) :
    (s.accepted h).regRight p a = s.regRight p a := by
  simp [State.regRight, State.accepted_sys]

theorem State.accepted_addrFault (s : State) (h : Hdr) (p : Port) (c : Cmd) :
    (s.accepted h).addrFault p c = s.addrFault p c := by
  have : (s.accepted h).regRight p = s.regRight p := funext fun a => s.accepted_regRight h p a
  cases c <;> simp [State.addrFault, this]

/-! ### Serving -/

theorem sfpInRecovery_of_answered {p : Port} {c : Cmd} (h2 : p = 2) (h : DevState.refuses .recovery p c = none) :
    sfpInRecovery c = true := by
  subst h2
  cases c <;> first | rfl | cases h

/-- A command that arrives takes its sequence number and goes on to the checks from DEV_STATE on (R112, R116). -/
theorem receive_arrives {s : State} {h : Hdr} {c : Cmd} {ses : Session} (ok : Arrives s h c ses)
    (rec_ : h.port = 2 → s.boot.dev = .recovery → sfpInRecovery c = true) :
    s.receive h c = (s.accepted h).late (s.head h) c none (some ses.serial) := by
  obtain ⟨via, takes, size, wf, head, hses, key, new, -, -⟩ := ok
  have hv : ∀ v, (s.carried h.port).via v = s.via v := s.carried_via _
  have e1 : (s.carried h.port).entry (s.head h) c = .inside ses.serial := by
    simp [State.entry, State.head, s.carried_owner, hses, key]
  have e2 : (s.head h).viaOk = true := by
    revert via; simp only [State.head, Hdr.viaOk, State.via]; cases h.via <;> simp
  have hf : headFault (s.head h) = none := head
  have hj : ses.judgeSeq h.seq.toNat (s.carried h.port).now = .accept := by
    have : h.seq.toNat ≠ 0 := by omega
    simp [Session.judgeSeq, this, new]
  unfold State.receive
  have hnot : ¬ (¬ (s.head h).viaOk = true ∨ ¬ (s.carried h.port).portTakes h.port = true ∨
      (h.port = 2 ∧ (s.carried h.port).boot.dev = .recovery ∧ ¬ sfpInRecovery c = true)) := by
    rintro (q | q | ⟨q1, q2, q3⟩)
    · exact q e2
    · exact q takes
    · rw [State.carried_boot] at q2; exact q3 (rec_ q1 q2)
  simp only [hv]
  rw [show ({ h with via := s.via h.via } : Hdr) = s.head h from rfl]
  rw [if_neg hnot, s.carried_maxPacket, if_neg (by omega), hf]
  simp only [State.intake, e1, wf, if_true, s.carried_owner]
  rw [show (s.head h).port = h.port from rfl, show (s.head h).seq = h.seq from rfl, hses]
  simp only [hj]
  rfl

/-- A command DEV_STATE answers is not turned away in SHUTDOWN. -/
theorem not_shut {d : DevState} {p : Port} {c : Cmd} (h : d.refuses p c = none) : ¬ (d = .shutdown ∧ ¬ inShutdown c = true) := by
  rintro ⟨rfl, n⟩
  simp [DevState.refuses, n] at h

/-- A command that passes every check acts on the accepted state (Table 6-3). -/
theorem serve_accepted {s : State} {h : Hdr} {c : Cmd} {ses : Session} (ok : Accepted s h c ses) :
    s.serve h c = (perform (s.ticket h c ses) c (s.accepted h)).finish := by
  obtain ⟨arr, dev, may, addr, out, form, gate⟩ := ok
  have hr : h.port = 2 → s.boot.dev = .recovery → sfpInRecovery c = true := fun h2 hd => by
    rw [hd, h2] at dev; exact sfpInRecovery_of_answered rfl dev
  have hl : (s.accepted h).late (s.head h) c none (some ses.serial) = (s.accepted h, some (s.waiting h c ses)) := by
    have hses := arr.2.2.2.2.2.1
    have no : (s.accepted h).lateFault (s.head h).port c = none := by
      rw [show (s.head h).port = h.port from rfl]
      simp only [State.lateFault, State.accepted_boot, dev, State.accepted_ownerMay, may, State.accepted_addrFault, addr]
      simp
    have room : (s.accepted h).crowded (s.head h).port (some ses.serial) = false := by
      rw [show (s.head h).port = h.port from rfl]
      simp [State.crowded, State.outstanding, State.accepted_owner_self hses, Session.took]; omega
    simp [State.late, no, room, State.waiting]
  have shut : ¬ ((s.accepted h).boot.dev = .shutdown ∧ ¬ inShutdown (s.waiting h c ses).cmd = true) := by
    rw [State.accepted_boot]; exact not_shut dev
  rw [State.serve, receive_arrives arr hr, hl]
  simp only [show (s.waiting h c ses).extra = false from rfl, Bool.false_eq_true, if_false, State.act, shut,
    State.accepted_formFault, form, State.accepted_gate, gate]
  rfl

/-! ### Completion -/

/-- The reply in its session: cached under its sequence number, the command no longer outstanding. -/
theorem reply_session {u : State} {t : Ticket} {n e : Nat} {b : Bytes} {x : Session} (ht : t.serial = some n)
    (hop : t.opcode ≠ 0x02) (hx : (u.owner t.hdr.port).session = some x) (hn : x.serial = n) :
    ((u.reply t e b).owner t.hdr.port).session = some
      { x with cache := x.cache.map fun c => if c.seq = t.hdr.seq.toNat then
                 ⟨c.seq, some (replyPacket t.hdr t.opcode e b (some x.keyD) t.hdr.enc), u.now⟩ else c,
               outstanding := x.outstanding - 1 } := by
  have tr : ∀ (s : State) p v k q, (s.transmit p v k).owner q = s.owner q := by
    intro s p v k q
    have sig : ∀ (s : State) v, (s.signal v).owners = s.owners := fun s v => by unfold State.signal; split <;> rfl
    have com : ∀ (s : State) i n a d, (s.complete i n a d).owners = s.owners := fun s i n a d => by
      unfold State.complete; split
      · rw [sig]
      · rfl
    have fg : ∀ (s : State) v, (s.forgo v).owners = s.owners := fun s v => by unfold State.forgo; (repeat' split) <;> rfl
    unfold State.transmit State.owner
    split
    · rw [fg]
    · split
      · split
        · rw [com]
        · rfl
      · split <;> rfl
      · rfl
      · rfl
  have cs : ∀ (s : State) p q, ((s.countStatus p e).owner q).session = (s.owner q).session := by
    intro s p q
    unfold State.countStatus State.owner
    split
    · simp only [State.updOwner_owners, bankUpd_get]; split <;> rfl
    · split
      · simp only [State.updOwner_owners, bankUpd_get]; split <;> rfl
      · split
        · rfl
        · split <;> rfl
  unfold State.reply
  simp only [ht, hop, if_false, hx, hn, if_true, tr, cs]
  simp only [State.updSession, State.owner, State.updOwner_owners, bankUpd_get_self]
  rw [State.owner] at hx
  simp [hx, hn]

theorem reply_calm {u : State} {t : Ticket} {e : Nat} {b : Bytes} (he : Uncounted e) (c : u.calm = true) : (u.reply t e b).calm = true := by
  rw [State.calm_iff] at *
  intro p x hx
  have q : (u.reply t e b).quiet = u.quiet := u.reply_quiet t b he
  have q1 : ((u.reply t e b).quiet.owners.get p).session = (u.quiet.owners.get p).session := by rw [q]
  have g : ∀ v : State, (v.quiet.owners.get p).session = (v.owner p).session.map Session.quiet := fun v => by
    simp [State.quiet, State.owner, OwnerState.quiet, Vector.get_eq_getElem]
  rw [g, g, hx] at q1
  cases hy : (u.owner p).session with
  | none => simp [hy] at q1
  | some y =>
    have := c p y hy
    simp only [hy, Option.map_some, Option.some.injEq] at q1
    exact ⟨(congrArg Session.closing q1).trans this.1, (congrArg Session.ending q1).trans this.2⟩

/-- What a row does when its effect ends in a reply from a state with the accepted state's sessions: it answers a next state,
the reply cached, everything else as in the state it replied from. -/
theorem completes_of_reply {s : State} {h : Hdr} {c : Cmd} {ses : Session} (ok : Accepted s h c ses) (hop : c.opcode ≠ 0x02)
    {u : State} {e : Nat} {b : Bytes} (he : Uncounted e)
    (hp : perform (s.ticket h c ses) c (s.accepted h) = u.reply (s.ticket h c ses) e b)
    (hu : u.sessions = (s.accepted h).sessions) (hn : u.now = s.now) :
    Replied s (s.serve h c) h c.opcode e b ∧ s.serve h c = u.reply (s.ticket h c ses) e b := by
  have hses := ok.1.2.2.2.2.2.1
  have hq := ok.1.2.2.2.2.2.2.2.2.1
  have hcalm : u.calm = true := State.calm_of_sessions hu (State.accepted_calm hq ok.1.2.2.2.2.2.2.2.2.2)
  have hfin : s.serve h c = u.reply (s.ticket h c ses) e b := by
    rw [serve_accepted ok, hp, State.finish_calm (reply_calm he hcalm)]
  refine ⟨?_, hfin⟩
  have hg : u.sessions.get h.port = (s.accepted h).sessions.get h.port := by rw [hu]
  rw [u.sessions_get, State.sessions_get, State.accepted_owner_self hses] at hg
  cases hx : (u.owner h.port).session with
  | none => simp [hx] at hg
  | some x =>
    simp only [hx, Option.map_some, Option.some.injEq] at hg
    have hn1 : x.serial = ses.serial := by have := congrArg Session.serial hg; exact this
    have hr := reply_session (u := u) (t := s.ticket h c ses) (e := e) (b := b) (x := x) rfl hop hx hn1
    rw [hfin]
    refine ⟨_, hr, ?_⟩
    have hc : x.cache = cachePut h.seq.toNat ses.cache := by have := congrArg Session.cache hg; exact this
    simp only [hc, cachePut, List.take_succ_cons, List.map_cons, State.ticket, State.head, if_true, List.find?_cons,
      beq_self_eq_true, hn]
    rfl

/-- A Psiesk row completes as its effect on the accepted state says. -/
theorem completes {i : Instr} {s : State} {h : Hdr} {c : Cmd} {ses : Session} (hi : exec i s = .next (s.serve h c))
    (ok : Accepted s h c ses) (hop : c.opcode ≠ 0x02) {u v : State} {e : Nat} {b : Bytes} (he : Uncounted e)
    (hp : perform (s.ticket h c ses) c (s.accepted h) = u.reply (s.ticket h c ses) e b)
    (hu : u.sessions = (s.accepted h).sessions) (hn : u.now = s.now) (hq : u.quiet = v.quiet) :
    Completes i s h c.opcode e b v := by
  obtain ⟨r, f⟩ := completes_of_reply ok hop he hp hu hn
  exact ⟨_, hi, r, by rw [f, u.reply_quiet _ _ he, hq]⟩

/-- The same for a row that raises events. -/
theorem completesLoud {i : Instr} {s : State} {h : Hdr} {c : Cmd} {ses : Session} (hi : exec i s = .next (s.serve h c))
    (ok : Accepted s h c ses) (hop : c.opcode ≠ 0x02) {u v : State} {e : Nat} {b : Bytes} (he : Uncounted e)
    (hp : perform (s.ticket h c ses) c (s.accepted h) = u.reply (s.ticket h c ses) e b)
    (hu : u.sessions = (s.accepted h).sessions) (hn : u.now = s.now) (hq : u.silent = v.silent) :
    CompletesLoud i s h c.opcode e b v := by
  obtain ⟨r, f⟩ := completes_of_reply ok hop he hp hu hn
  exact ⟨_, hi, r, by rw [f, u.reply_silent _ _ he, hq]⟩

/-! ### Pushing an effect through what is left out -/

theorem Accepted.quiet_eq {s : State} {h : Hdr} {c : Cmd} {ses : Session} (ok : Accepted s h c ses) :
    (s.accepted h).quiet = s.quiet := State.accepted_quiet ok.1.2.2.2.2.2.2.2.2.1

theorem Accepted.session_eq {s : State} {h : Hdr} {c : Cmd} {ses : Session} (ok : Accepted s h c ses) :
    ((s.accepted h).owner h.port).session = some (ses.took h.seq.toNat) := by
  rw [State.accepted_owner_self ok.1.2.2.2.2.2.1]

theorem State.updOwner_quiet_push (s : State) (p : Port) (f g : OwnerState → OwnerState) (h : ∀ o, (f o).quiet = g o.quiet) :
    (s.updOwner p f).quiet = s.quiet.updOwner p g := by
  have : (bankUpd s.owners p f).map OwnerState.quiet = bankUpd (s.owners.map OwnerState.quiet) p g := bankUpd_map _ _ _ _ _ h
  simp only [State.quiet, State.updOwner, this]

/-! ### The ticket of a command -/

@[simp] theorem State.ticket_port (s : State) (h : Hdr) (c : Cmd) (ses : Session) :
    (s.ticket h c ses).hdr.port = h.port := rfl
@[simp] theorem State.ticket_version (s : State) (h : Hdr) (c : Cmd) (ses : Session) :
    (s.ticket h c ses).hdr.version = h.version := rfl
@[simp] theorem State.ticket_owner (s : State) (h : Hdr) (c : Cmd) (ses : Session) :
    (s.ticket h c ses).hdr.owner = h.owner := rfl
@[simp] theorem State.ticket_enc (s : State) (h : Hdr) (c : Cmd) (ses : Session) :
    (s.ticket h c ses).hdr.enc = h.enc := rfl
@[simp] theorem State.ticket_dup (s : State) (h : Hdr) (c : Cmd) (ses : Session) :
    (s.ticket h c ses).hdr.dup = h.dup := rfl
@[simp] theorem State.ticket_event (s : State) (h : Hdr) (c : Cmd) (ses : Session) :
    (s.ticket h c ses).hdr.event = h.event := rfl
@[simp] theorem State.ticket_bit7 (s : State) (h : Hdr) (c : Cmd) (ses : Session) :
    (s.ticket h c ses).hdr.bit7 = h.bit7 := rfl
@[simp] theorem State.ticket_tag (s : State) (h : Hdr) (c : Cmd) (ses : Session) :
    (s.ticket h c ses).hdr.tag = h.tag := rfl
@[simp] theorem State.ticket_cls (s : State) (h : Hdr) (c : Cmd) (ses : Session) :
    (s.ticket h c ses).hdr.cls = h.cls := rfl
@[simp] theorem State.ticket_seq (s : State) (h : Hdr) (c : Cmd) (ses : Session) :
    (s.ticket h c ses).hdr.seq = h.seq := rfl
@[simp] theorem State.ticket_idx (s : State) (h : Hdr) (c : Cmd) (ses : Session) :
    (s.ticket h c ses).hdr.idx = h.idx := rfl
@[simp] theorem State.ticket_key (s : State) (h : Hdr) (c : Cmd) (ses : Session) :
    (s.ticket h c ses).hdr.key = h.key := rfl
@[simp] theorem State.ticket_via (s : State) (h : Hdr) (c : Cmd) (ses : Session) :
    (s.ticket h c ses).hdr.via = s.via h.via := rfl
@[simp] theorem State.ticket_opcode (s : State) (h : Hdr) (c : Cmd) (ses : Session) : (s.ticket h c ses).opcode = c.opcode := rfl
@[simp] theorem State.ticket_serial (s : State) (h : Hdr) (c : Cmd) (ses : Session) :
    (s.ticket h c ses).serial = some ses.serial := rfl

end Sys2Proof.Machine
end

