-- ==== Sys2Proof/Laws/Memory.lean ====
section
/-! SUPPORT. The byte store keeps its canonical form, a byte written is the byte read, and every other byte is as before. -/

namespace Sys2Proof.Machine

theorem Mem.wf_tail {c : Host.Cell} {m : Mem} (h : Mem.wf (c :: m) = true) : Mem.wf m = true := by
  cases m with
  | nil => rfl
  | cons d rest => simp only [Mem.wf, Bool.and_eq_true] at h; exact h.2

theorem Mem.wf_head {c : Host.Cell} {m : Mem} (h : Mem.wf (c :: m) = true) : c.2 ≠ 0 := by
  cases m with
  | nil => simpa [Mem.wf] using h
  | cons d rest => simp only [Mem.wf, Bool.and_eq_true, bne_iff_ne] at h; exact h.1.1

/-- Every address listed lies above a bound. -/
def Mem.above (a : Nat) (m : Mem) : Prop := ∀ c ∈ m, a < c.1

theorem Mem.wf_above {c : Host.Cell} {m : Mem} (h : Mem.wf (c :: m) = true) : Mem.above c.1 m := by
  induction m generalizing c with
  | nil => intro d hd; cases hd
  | cons d rest ih =>
    have hlt : c.1 < d.1 := by simp only [Mem.wf, Bool.and_eq_true, decide_eq_true_eq] at h; exact h.1.2
    intro x hx
    cases hx with
    | head => exact hlt
    | tail _ hx => exact Nat.lt_trans hlt (ih (Mem.wf_tail h) x hx)

theorem Mem.wf_cons {c : Host.Cell} {m : Mem} (h0 : c.2 ≠ 0) (h1 : Mem.above c.1 m) (h2 : Mem.wf m = true) :
    Mem.wf (c :: m) = true := by
  cases m with
  | nil => simpa [Mem.wf] using h0
  | cons d rest =>
    simp only [Mem.wf, Bool.and_eq_true, bne_iff_ne, decide_eq_true_eq]
    exact ⟨⟨h0, h1 d (List.mem_cons_self ..)⟩, h2⟩

theorem Mem.above_put {a x : Nat} {b : Byte} {m : Mem} (hx : a < x) (h : Mem.above a m) : Mem.above a (m.put x b) := by
  induction m with
  | nil => intro c hc; unfold Mem.put at hc; split at hc <;> simp_all
  | cons d rest ih =>
    have hr : Mem.above a rest := fun c hc => h c (List.mem_cons_of_mem _ hc)
    have hd := h d (List.mem_cons_self ..)
    intro c hc
    unfold Mem.put at hc
    split at hc
    · split at hc
      · exact h c hc
      · rcases List.mem_cons.1 hc with rfl | hc
        · exact hx
        · exact h c hc
    · split at hc
      · split at hc
        · exact hr c hc
        · rcases List.mem_cons.1 hc with rfl | hc
          · exact hx
          · exact hr c hc
      · rcases List.mem_cons.1 hc with rfl | hc
        · exact hd
        · exact ih hr c hc

theorem Mem.put_wf (m : Mem) (a : Nat) (b : Byte) (h : Mem.wf m = true) : Mem.wf (m.put a b) = true := by
  induction m with
  | nil => unfold Mem.put; split <;> simp_all [Mem.wf]
  | cons c rest ih =>
    have ht := Mem.wf_tail h
    have ha := Mem.wf_above h
    unfold Mem.put
    split
    · next hlt =>
      split
      · exact h
      · next hb =>
        refine Mem.wf_cons hb ?_ h
        intro d hd
        rcases List.mem_cons.1 hd with rfl | hd
        · exact hlt
        · exact Nat.lt_trans hlt (ha d hd)
    · split
      · next heq =>
        split
        · exact ht
        · next hb => exact Mem.wf_cons hb (heq ▸ ha) ht
      · next hge hne => exact Mem.wf_cons (Mem.wf_head h) (Mem.above_put (by omega) ha) (ih ht)

theorem Mem.putAll_wf (m : Mem) (a : Nat) (bs : Bytes) (h : Mem.wf m = true) : Mem.wf (m.putAll a bs) = true := by
  induction bs generalizing m a with
  | nil => exact h
  | cons b bs ih => exact ih _ _ (Mem.put_wf m a b h)

theorem Mem.get_above {m : Mem} {a : Nat} (h : Mem.above a m) : m.get a = 0 := by
  induction m with
  | nil => rfl
  | cons c rest ih =>
    have hc := h c (List.mem_cons_self ..)
    simp only [Mem.get, if_neg (Nat.ne_of_gt hc)]
    exact ih fun d hd => h d (List.mem_cons_of_mem _ hd)

theorem Mem.get_put (m : Mem) (a : Nat) (b : Byte) (x : Nat) (h : Mem.wf m = true) :
    (m.put a b).get x = if x = a then b else m.get x := by
  induction m with
  | nil =>
    unfold Mem.put
    by_cases hx : x = a
    · subst hx; split <;> simp_all [Mem.get]
    · have : a ≠ x := fun e => hx e.symm
      split <;> simp_all [Mem.get]
  | cons c rest ih =>
    have ha := Mem.wf_above h
    have it := ih (Mem.wf_tail h)
    unfold Mem.put
    split
    · next hlt =>
      have hz : (Mem.get (c :: rest) a) = 0 := Mem.get_above (by
        intro d hd
        rcases List.mem_cons.1 hd with rfl | hd
        · exact hlt
        · exact Nat.lt_trans hlt (ha d hd))
      split
      · next hb => split
                   · next hx => rw [hx, hz, hb]
                   · rfl
      · by_cases hx : x = a
        · simp [Mem.get, hx]
        · simp [Mem.get, hx, Ne.symm hx]
    · split
      · next heq =>
        have hz : Mem.get rest a = 0 := Mem.get_above (heq ▸ ha)
        split
        · next hb => by_cases hx : x = a
                     · simp [hx, hz, hb]
                     · have : c.1 ≠ x := fun e => hx (by omega)
                       simp [Mem.get, hx, this]
        · by_cases hx : x = a
          · simp [Mem.get, hx]
          · have : c.1 ≠ x := fun e => hx (by omega)
            simp [Mem.get, hx, Ne.symm hx, this]
      · next hge hne =>
        by_cases hx : c.1 = x
        · have : x ≠ a := by omega
          simp [Mem.get, hx, this]
        · simp only [Mem.get, if_neg hx, it]

/-- Bytes put at rising addresses are read back there, and every other byte is as before. -/
theorem Mem.get_putAll (m : Mem) (a : Nat) (bs : Bytes) (x : Nat) (h : Mem.wf m = true) :
    (m.putAll a bs).get x = if a ≤ x ∧ x < a + bs.length then bs.getD (x - a) 0 else m.get x := by
  induction bs generalizing m a with
  | nil =>
    have : ¬ (a ≤ x ∧ x < a + ([] : Bytes).length) := by
      intro ⟨h1, h2⟩; exact absurd h2 (by simpa using h1)
    rw [if_neg this]; rfl
  | cons b bs ih =>
    rw [Mem.putAll, ih _ _ (Mem.put_wf m a b h), Mem.get_put m a b x h]
    by_cases hx : x = a
    · subst hx; simp
    · by_cases hr : a + 1 ≤ x ∧ x < a + 1 + bs.length
      · have h1 : a ≤ x ∧ x < a + (b :: bs).length := by simp; omega
        rw [if_pos hr, if_pos h1]
        obtain ⟨k, rfl⟩ : ∃ k, x = a + 1 + k := ⟨x - (a + 1), by omega⟩
        have e1 : a + 1 + k - (a + 1) = k := by omega
        have e2 : a + 1 + k - a = k + 1 := by omega
        rw [e1, e2]; rfl
      · have h1 : ¬ (a ≤ x ∧ x < a + (b :: bs).length) := by simp; omega
        rw [if_neg hr, if_neg hx, if_neg h1]

/-- The stores of a memory are in canonical form. -/
abbrev MemState.wf (m : MemState) : Prop := m.hbm.cells.wf = true ∧ m.vat.cells.wf = true

/-- Writing a line keeps the form. -/
theorem MemState.putLine_wf (m : MemState) (p : Store) (k n : Nat) (bs : Bytes) (h : m.wf) : (m.putLine p k n bs).wf := by
  cases p
  · exact ⟨Mem.putAll_wf _ _ _ h.1, h.2⟩
  · exact ⟨h.1, Mem.putAll_wf _ _ _ h.2⟩

/-- Memory after reset is in canonical form. -/
theorem State.reset_mem_wf : State.reset.mem.wf := by decide

/-- The one operation that writes a store keeps its form. -/
theorem MemState.updStore_wf (m : MemState) (p : Store) (f : StoreState → StoreState)
    (hf : ∀ x : StoreState, x.cells.wf = true → (f x).cells.wf = true) (h : m.wf) : (m.updStore p f).wf := by
  cases p
  · exact ⟨hf _ h.1, h.2⟩
  · exact ⟨h.1, hf _ h.2⟩

end Sys2Proof.Machine
end

