-- ==== Sys2Proof/Laws/Otp.lean ====
section
/-! SUPPORT. The one-time-programmable words: every operation but the start after a reset and the first entry to FULL leaves them. -/

set_option linter.all false

namespace Sys2Proof.Machine

@[simp] theorem forAll_otp {n : Nat} (s : State) (f : State → Fin n → State) (h : ∀ s i, (f s i).otp = s.otp) :
    (forAll s f).otp = s.otp := by
  unfold forAll
  generalize List.finRange n = l
  induction l generalizing s with
  | nil => rfl
  | cons a l ih => exact (ih _).trans (h s a)

@[simp] theorem foldl_otp {α : Type} (l : List α) (s : State) (f : State → α → State) (h : ∀ s i, (f s i).otp = s.otp) :
    (l.foldl f s).otp = s.otp := by
  induction l generalizing s with
  | nil => rfl
  | cons a l ih => exact (ih _).trans (h s a)

theorem mk_otp (x_now x_d02 x_free x_draws x_serial x_pending x_deferred x_out x_arrivals x_commit x_thermal x_avs x_fabric x_boot x_otp x_flash x_owners x_leases x_hpa x_net x_mem x_keys x_cores x_jobs x_headbox x_sensors x_tb x_timers x_axes x_safety x_illum x_lbus x_radio x_tag x_test x_store) :
    (State.mk x_now x_d02 x_free x_draws x_serial x_pending x_deferred x_out x_arrivals x_commit x_thermal x_avs x_fabric x_boot x_otp x_flash x_owners x_leases x_hpa x_net x_mem x_keys x_cores x_jobs x_headbox x_sensors x_tb x_timers x_axes x_safety x_illum x_lbus x_radio x_tag x_test x_store).otp = x_otp := rfl

@[simp] theorem ite_otp {c : Prop} [Decidable c] {a b : State} {x : State} (h1 : a.otp = x.otp) (h2 : b.otp = x.otp) :
    (if c then a else b).otp = x.otp := by split <;> assumption

@[simp] theorem dite_otp {c : Prop} [Decidable c] {a : c → State} {b : ¬ c → State} {x : State} (h1 : ∀ h, (a h).otp = x.otp) (h2 : ∀ h, (b h).otp = x.otp) :
    (if h : c then a h else b h).otp = x.otp := by split <;> simp [h1, h2]

@[simp] theorem State.fillSlot_otp (s : State) (i : Fin 74) :
    (State.fillSlot s i).otp = s.otp := by
  unfold State.fillSlot
  repeat' (first
    | with_reducible eq_refl | with_reducible exact mk_otp .. | with_reducible refine ite_otp ?_ ?_
    | (with_reducible refine (forAll_otp _ _ fun _ _ => ?_).trans ?_)
    | (with_reducible refine (foldl_otp _ _ _ fun _ _ => ?_).trans ?_)
    | dsimp -proj only | (simp -proj only [apply_ite State.otp, ite_self]; done) | split | simp -proj)

@[simp] theorem State.forgo_otp (s : State) (via : Carriage) :
    (State.forgo s via).otp = s.otp := by
  unfold State.forgo
  repeat' (first
    | with_reducible eq_refl | with_reducible exact mk_otp .. | with_reducible refine ite_otp ?_ ?_
    | (with_reducible refine (forAll_otp _ _ fun _ _ => ?_).trans ?_)
    | (with_reducible refine (foldl_otp _ _ _ fun _ _ => ?_).trans ?_)
    | dsimp -proj only | (simp -proj only [apply_ite State.otp, ite_self]; done) | split | simp -proj)

@[simp] theorem State.dropPacket_otp (s : State) (h : Hdr) : (State.dropPacket s h).otp = s.otp := by
  unfold State.dropPacket; (repeat' split) <;> simp -proj

@[simp] theorem State.closeStage_otp (s : State) : (State.closeStage s).otp = s.otp := by
  simp -proj [State.closeStage]

@[simp] theorem State.closeStageOf_otp (s : State) (p : Port) : (State.closeStageOf s p).otp = s.otp := by
  unfold State.closeStageOf; (repeat' split) <;> simp -proj

@[simp] theorem State.updCores_otp (s : State) (f : Cores → Cores) : (State.updCores s f).otp = s.otp := by
  simp -proj [State.updCores]

@[simp] theorem State.updCore_otp (s : State) (c : Fin 32) (f : Core1 → Core1) : (State.updCore s c f).otp = s.otp := by
  simp -proj [State.updCore]

@[simp] theorem State.repin_otp (s : State) : (State.repin s).otp = s.otp := by
  unfold State.repin
  repeat' (first
    | with_reducible eq_refl | with_reducible exact mk_otp .. | with_reducible refine ite_otp ?_ ?_
    | (with_reducible refine (forAll_otp _ _ fun _ _ => ?_).trans ?_)
    | (with_reducible refine (foldl_otp _ _ _ fun _ _ => ?_).trans ?_)
    | dsimp -proj only | (simp -proj only [apply_ite State.otp, ite_self]; done) | split | simp -proj)

@[simp] theorem State.updGear_otp (s : State) (n : Fin 16) (f : Gear → Gear) : (State.updGear s n f).otp = s.otp := by
  simp -proj [State.updGear]

@[simp] theorem State.updBus_otp (s : State) (b : Fin 2) (f : Bus → Bus) : (State.updBus s b f).otp = s.otp := by
  simp -proj [State.updBus]

@[simp] theorem State.gearEvent_otp (s : State) (n : Fin 16) (kind : Nat) (level : Nat) :
    (State.gearEvent s n kind level).otp = s.otp := by
  unfold State.gearEvent; split <;> simp -proj

@[simp] theorem State.gearPersist_otp (s : State) (n : Fin 16) (old : GearVars) :
    (State.gearPersist s n old).otp = s.otp := by
  unfold State.gearPersist; (repeat' split) <;> simp -proj

@[simp] theorem State.gearChange_otp (s : State) (n : Fin 16) (f : Gear → Gear) : (State.gearChange s n f).otp = s.otp := by
  unfold State.gearChange; split <;> simp -proj

@[simp] theorem State.gearFlush_otp (s : State) : (State.gearFlush s).otp = s.otp := by
  unfold State.gearFlush
  repeat' (first
    | with_reducible eq_refl | with_reducible exact mk_otp .. | with_reducible refine ite_otp ?_ ?_
    | (with_reducible refine (forAll_otp _ _ fun _ _ => ?_).trans ?_)
    | (with_reducible refine (foldl_otp _ _ _ fun _ _ => ?_).trans ?_)
    | dsimp -proj only | (simp -proj only [apply_ite State.otp, ite_self]; done) | split | simp -proj)

@[simp] theorem State.noteTarget_otp (s : State) (n : Fin 16) (old : Nat) :
    (State.noteTarget s n old).otp = s.otp := by
  unfold State.noteTarget
  repeat' (first
    | with_reducible eq_refl | with_reducible exact mk_otp .. | with_reducible refine ite_otp ?_ ?_
    | (with_reducible refine (forAll_otp _ _ fun _ _ => ?_).trans ?_)
    | (with_reducible refine (foldl_otp _ _ _ fun _ _ => ?_).trans ?_)
    | dsimp -proj only | (simp -proj only [apply_ite State.otp, ite_self]; done) | split | simp -proj)

@[simp] theorem State.gearTarget_otp (s : State) (n : Fin 16) (level : Nat) (dur : Nat) :
    (State.gearTarget s n level dur).otp = s.otp := by
  unfold State.gearTarget
  repeat' (first
    | with_reducible eq_refl | with_reducible exact mk_otp .. | with_reducible refine ite_otp ?_ ?_
    | (with_reducible refine (forAll_otp _ _ fun _ _ => ?_).trans ?_)
    | (with_reducible refine (foldl_otp _ _ _ fun _ _ => ?_).trans ?_)
    | dsimp -proj only | (simp -proj only [apply_ite State.otp, ite_self]; done) | split | simp -proj)

@[simp] theorem State.gearRamp_otp (s : State) (n : Fin 16) (up : Bool) : (State.gearRamp s n up).otp = s.otp := by
  unfold State.gearRamp
  repeat' (first
    | with_reducible eq_refl | with_reducible exact mk_otp .. | with_reducible refine ite_otp ?_ ?_
    | (with_reducible refine (forAll_otp _ _ fun _ _ => ?_).trans ?_)
    | (with_reducible refine (foldl_otp _ _ _ fun _ _ => ?_).trans ?_)
    | dsimp -proj only | (simp -proj only [apply_ite State.otp, ite_self]; done) | split | simp -proj)

@[simp] theorem State.eachGear_otp (s : State) (b : Fin 2) (dst : BusAddr) (f : State → Fin 16 → State) (h : ∀ s n, (f s n).otp = s.otp) :
    (s.eachGear b dst f).otp = s.otp := foldl_otp _ _ _ h

@[simp] theorem State.opDapc_otp (s : State) (b : Fin 2) (dst : BusAddr) (level : Nat) :
    (s.opDapc b dst level).otp = s.otp := by
  unfold State.opDapc
  refine State.eachGear_otp _ _ _ _ fun s n => ?_
  split
  · rfl
  · exact ite_otp ((State.noteTarget_otp _ _ _).trans (State.updGear_otp _ _ _)) (State.gearTarget_otp _ _ _ _)

@[simp] theorem State.answer_otp (s : State) (b : Fin 2) (vals : List Nat) : (State.answer s b vals).otp = s.otp := by
  unfold State.answer; split <;> simp -proj

@[simp] theorem State.opQuery_otp (s : State) (b : Fin 2) (dst : BusAddr) (f : State → Fin 16 → Gear → Option Nat) :
    (State.opQuery s b dst f).otp = s.otp := by
  simp -proj [State.opQuery]

@[simp] theorem State.opVars_otp (s : State) (b : Fin 2) (dst : BusAddr) (f : Gear → GearVars) :
    (State.opVars s b dst f).otp = s.otp := by
  simp -proj [State.opVars]

@[simp] theorem State.limitLevels_otp (s : State) (b : Fin 2) (dst : BusAddr) :
    (State.limitLevels s b dst).otp = s.otp := by
  unfold State.limitLevels
  refine State.eachGear_otp _ _ _ _ fun s n => ?_
  split
  · exact ite_otp (State.gearTarget_otp _ _ _ _) rfl
  · rfl

@[simp] theorem State.opInitialise_otp (s : State) (b : Fin 2) (which : Nat) :
    (State.opInitialise s b which).otp = s.otp := by
  simp -proj [State.opInitialise]

@[simp] theorem State.opRandomise_otp (s : State) (b : Fin 2) : (State.opRandomise s b).otp = s.otp := by
  unfold State.opRandomise
  repeat' (first
    | with_reducible eq_refl | with_reducible exact mk_otp .. | with_reducible refine ite_otp ?_ ?_
    | (with_reducible refine (forAll_otp _ _ fun _ _ => ?_).trans ?_)
    | (with_reducible refine (foldl_otp _ _ _ fun _ _ => ?_).trans ?_)
    | dsimp -proj only | (simp -proj only [apply_ite State.otp, ite_self]; done) | split | simp -proj)

@[simp] theorem State.opCompare_otp (s : State) (b : Fin 2) : (State.opCompare s b).otp = s.otp := by
  simp -proj [State.opCompare]

@[simp] theorem State.opTerminate_otp (s : State) (b : Fin 2) : (State.opTerminate s b).otp = s.otp := by
  simp -proj [State.opTerminate]

@[simp] theorem State.opIdentify_otp (s : State) (b : Fin 2) (dst : BusAddr) : (State.opIdentify s b dst).otp = s.otp := by
  simp -proj [State.opIdentify]

@[simp] theorem State.opCurve_otp (s : State) (b : Fin 2) (dst : BusAddr) (curve : Nat) :
    (State.opCurve s b dst curve).otp = s.otp := by
  unfold State.opCurve; split <;> simp -proj

@[simp] theorem State.opReadMemory_otp (s : State) (b : Fin 2) (dst : BusAddr) :
    (State.opReadMemory s b dst).otp = s.otp := by
  unfold State.opReadMemory
  repeat' (first
    | with_reducible eq_refl | with_reducible exact mk_otp .. | with_reducible refine ite_otp ?_ ?_
    | (with_reducible refine (forAll_otp _ _ fun _ _ => ?_).trans ?_)
    | (with_reducible refine (foldl_otp _ _ _ fun _ _ => ?_).trans ?_)
    | dsimp -proj only | (simp -proj only [apply_ite State.otp, ite_self]; done) | split | simp -proj)

@[simp] theorem State.cmd102_otp (s : State) (b : Fin 2) (dst : BusAddr) (op : Nat) : (s.cmd102 b dst op).otp = s.otp := by
  unfold State.cmd102
  repeat' (first | with_reducible exact mk_otp .. | with_reducible refine ite_otp ?_ ?_ | with_reducible refine State.eachGear_otp _ _ _ _ fun _ _ => ?_ | (simp -proj; done) | split)

@[simp] theorem State.cmd207_otp (s : State) (b : Fin 2) (dst : BusAddr) (op : Nat) :
    (State.cmd207 s b dst op).otp = s.otp := by
  unfold State.cmd207; (repeat' split) <;> simp -proj

@[simp] theorem State.cmdSpecial_otp (s : State) (b : Fin 2) (a d : Nat) : (s.cmdSpecial b a d).otp = s.otp := by
  unfold State.cmdSpecial
  extract_lets
  repeat' (first
    | with_reducible eq_refl | with_reducible refine ite_otp ?_ ?_ | (with_reducible refine foldl_otp _ _ _ fun _ _ => ?_) | (simp -proj; done))

@[simp] theorem State.busFrame_otp (s : State) (b : Fin 2) (a : Nat) (d : Nat) : (State.busFrame s b a d).otp = s.otp := by
  unfold State.busFrame
  repeat' (first
    | with_reducible eq_refl | with_reducible exact mk_otp .. | with_reducible refine ite_otp ?_ ?_
    | (with_reducible refine (forAll_otp _ _ fun _ _ => ?_).trans ?_)
    | (with_reducible refine (foldl_otp _ _ _ fun _ _ => ?_).trans ?_)
    | dsimp -proj only | (simp -proj only [apply_ite State.otp, ite_self]; done) | split | simp -proj)

@[simp] theorem State.busCommand_otp (s : State) (b : Fin 2) (row : Instr) (frames : Nat) (f : State → State)
    (h : ∀ s, (f s).otp = s.otp) :
    (State.busCommand s b row frames f).otp = s.otp := by
  unfold State.busCommand
  repeat' (first
    | with_reducible eq_refl | with_reducible exact mk_otp .. | with_reducible refine ite_otp ?_ ?_
    | (with_reducible refine (forAll_otp _ _ fun _ _ => ?_).trans ?_)
    | (with_reducible refine (foldl_otp _ _ _ fun _ _ => ?_).trans ?_)
    | dsimp -proj only | (simp -proj only [apply_ite State.otp, ite_self]; done) | split | simp -proj [h])

@[simp] theorem State.busCommand207_otp (s : State) (b : Fin 2) (row : Instr) (frames : Nat) (f : State → State)
    (h : ∀ s, (f s).otp = s.otp) :
    (State.busCommand207 s b row frames f).otp = s.otp := by
  unfold State.busCommand207
  exact State.busCommand_otp _ _ _ _ _ fun s => ite_otp (h s) rfl

@[simp] theorem State.gearValley_otp (s : State) : (State.gearValley s).otp = s.otp := by
  unfold State.gearValley
  repeat' (first
    | with_reducible eq_refl | with_reducible exact mk_otp .. | with_reducible refine ite_otp ?_ ?_
    | (with_reducible refine (forAll_otp _ _ fun _ _ => ?_).trans ?_)
    | (with_reducible refine (foldl_otp _ _ _ fun _ _ => ?_).trans ?_)
    | dsimp -proj only | (simp -proj only [apply_ite State.otp, ite_self]; done) | split | simp -proj)

@[simp] theorem State.lampRefresh_otp (s : State) : (State.lampRefresh s).otp = s.otp := by
  unfold State.lampRefresh
  repeat' (first
    | with_reducible eq_refl | with_reducible exact mk_otp .. | with_reducible refine ite_otp ?_ ?_
    | (with_reducible refine (forAll_otp _ _ fun _ _ => ?_).trans ?_)
    | (with_reducible refine (foldl_otp _ _ _ fun _ _ => ?_).trans ?_)
    | dsimp -proj only | (simp -proj only [apply_ite State.otp, ite_self]; done) | split | simp -proj)

@[simp] theorem State.gearStart_otp (s : State) : (State.gearStart s).otp = s.otp := by
  unfold State.gearStart
  repeat' (first
    | with_reducible eq_refl | with_reducible exact mk_otp .. | with_reducible refine ite_otp ?_ ?_
    | (with_reducible refine (forAll_otp _ _ fun _ _ => ?_).trans ?_)
    | (with_reducible refine (foldl_otp _ _ _ fun _ _ => ?_).trans ?_)
    | dsimp -proj only | (simp -proj only [apply_ite State.otp, ite_self]; done) | split | simp -proj)

@[simp] theorem doGearConfig_otp (t : Ticket) (g : Fin 8) (p : GearP) (s : State) : (doGearConfig t g p s).otp = s.otp := by
  unfold doGearConfig
  repeat' (first
    | with_reducible eq_refl | with_reducible exact mk_otp .. | with_reducible refine ite_otp ?_ ?_
    | (with_reducible refine (forAll_otp _ _ fun _ _ => ?_).trans ?_)
    | (with_reducible refine (foldl_otp _ _ _ fun _ _ => ?_).trans ?_)
    | dsimp -proj only | (simp -proj only [apply_ite State.otp, ite_self]; done) | split | simp -proj)

@[simp] theorem State.timersStart_otp (s : State) : (State.timersStart s).otp = s.otp := by
  unfold State.timersStart
  repeat' (first
    | with_reducible eq_refl | with_reducible exact mk_otp .. | with_reducible refine ite_otp ?_ ?_
    | (with_reducible refine (forAll_otp _ _ fun _ _ => ?_).trans ?_)
    | (with_reducible refine (foldl_otp _ _ _ fun _ _ => ?_).trans ?_)
    | dsimp -proj only | (simp -proj only [apply_ite State.otp, ite_self]; done) | split | simp -proj)

@[simp] theorem State.timersStop_otp (s : State) : (State.timersStop s).otp = s.otp := by
  unfold State.timersStop
  repeat' (first
    | with_reducible eq_refl | with_reducible exact mk_otp .. | with_reducible refine ite_otp ?_ ?_
    | (with_reducible refine (forAll_otp _ _ fun _ _ => ?_).trans ?_)
    | (with_reducible refine (foldl_otp _ _ _ fun _ _ => ?_).trans ?_)
    | dsimp -proj only | (simp -proj only [apply_ite State.otp, ite_self]; done) | split | simp -proj)

@[simp] theorem State.timerValley_otp (s : State) (n : Fin 16) : (State.timerValley s n).otp = s.otp := by
  unfold State.timerValley
  repeat' (first
    | with_reducible eq_refl | with_reducible exact mk_otp .. | with_reducible refine ite_otp ?_ ?_
    | (with_reducible refine (forAll_otp _ _ fun _ _ => ?_).trans ?_)
    | (with_reducible refine (foldl_otp _ _ _ fun _ _ => ?_).trans ?_)
    | dsimp -proj only | (simp -proj only [apply_ite State.otp, ite_self]; done) | split | simp -proj)

@[simp] theorem State.timerLoss_otp (s : State) (n : Fin 16) : (State.timerLoss s n).otp = s.otp := by
  simp -proj [State.timerLoss]

@[simp] theorem State.trigEdge_otp (s : State) (k : Fin 6) : (State.trigEdge s k).otp = s.otp := by
  simp -proj [State.trigEdge]

@[simp] theorem State.trigSource_otp (s : State) (src : Nat) : (State.trigSource s src).otp = s.otp := by
  unfold State.trigSource
  repeat' (first
    | with_reducible eq_refl | with_reducible exact mk_otp .. | with_reducible refine ite_otp ?_ ?_
    | (with_reducible refine (forAll_otp _ _ fun _ _ => ?_).trans ?_)
    | (with_reducible refine (foldl_otp _ _ _ fun _ _ => ?_).trans ?_)
    | dsimp -proj only | (simp -proj only [apply_ite State.otp, ite_self]; done) | split | simp -proj)

@[simp] theorem State.gtEdges_otp (before after : State) : (State.gtEdges before after).otp = after.otp := by
  unfold State.gtEdges
  exact foldl_otp _ _ _ fun s i => ite_otp (by simp) rfl

@[simp] theorem timersLatch_otp (s : State) (off : Nat) : (timersLatch s off).otp = s.otp := by
  unfold timersLatch; split <;> simp -proj

@[simp] theorem timersWrite_otp (s : State) (off : Nat) (v : Nat) : (timersWrite s off v).otp = s.otp := by
  unfold timersWrite; split <;> simp -proj

@[simp] theorem State.updGroup_otp (s : State) (g : Fin 8) (f : Group → Group) : (State.updGroup s g f).otp = s.otp := by
  simp -proj [State.updGroup]

@[simp] theorem State.updSink_otp (s : State) (n : Fin 48) (f : Sink → Sink) : (State.updSink s n f).otp = s.otp := by
  simp -proj [State.updSink]

@[simp] theorem State.updStage_otp (s : State) (f : VStage → VStage) : (State.updStage s f).otp = s.otp := by
  simp -proj [State.updStage]

@[simp] theorem State.updMatrix_otp (s : State) (f : Matrix → Matrix) : (State.updMatrix s f).otp = s.otp := by
  simp -proj [State.updMatrix]

@[simp] theorem State.dark_otp (s : State) (gi : Fin 8) :
    (State.dark s gi).otp = s.otp := by
  unfold State.dark
  repeat' (first
    | with_reducible eq_refl | with_reducible exact mk_otp .. | with_reducible refine ite_otp ?_ ?_
    | (with_reducible refine (forAll_otp _ _ fun _ _ => ?_).trans ?_)
    | (with_reducible refine (foldl_otp _ _ _ fun _ _ => ?_).trans ?_)
    | dsimp -proj only | (simp -proj only [apply_ite State.otp, ite_self]; done) | split | simp -proj)

@[simp] theorem State.applyGroup_otp (s : State) (gi : Fin 8) : (State.applyGroup s gi).otp = s.otp := by
  unfold State.applyGroup
  repeat' (first
    | with_reducible eq_refl | with_reducible exact mk_otp .. | with_reducible refine ite_otp ?_ ?_
    | (with_reducible refine (forAll_otp _ _ fun _ _ => ?_).trans ?_)
    | (with_reducible refine (foldl_otp _ _ _ fun _ _ => ?_).trans ?_)
    | dsimp -proj only | (simp -proj only [apply_ite State.otp, ite_self]; done) | split | simp -proj)

@[simp] theorem State.lightFault_otp (s : State) (gi : Fin 8) (sink : Nat) (kind : Nat) (latch : Nat) (mv : Int) :
    (State.lightFault s gi sink kind latch mv).otp = s.otp := by
  simp -proj [State.lightFault]

@[simp] theorem State.takeScan_otp (s : State) : (State.takeScan s).otp = s.otp := by
  simp -proj [State.takeScan]

@[simp] theorem State.closeScan_otp (s : State) : (State.closeScan s).otp = s.otp := by
  simp -proj [State.closeScan]

@[simp] theorem State.stageScan_otp (s : State) : (State.stageScan s).otp = s.otp := by
  unfold State.stageScan
  repeat' (first
    | with_reducible eq_refl | with_reducible exact mk_otp .. | with_reducible refine ite_otp ?_ ?_
    | (with_reducible refine (forAll_otp _ _ fun _ _ => ?_).trans ?_)
    | (with_reducible refine (foldl_otp _ _ _ fun _ _ => ?_).trans ?_)
    | dsimp -proj only | (simp -proj only [apply_ite State.otp, ite_self]; done) | split | simp -proj)

@[simp] theorem State.shortScan_otp (s : State) : (State.shortScan s).otp = s.otp := by
  simp -proj [State.shortScan]

@[simp] theorem State.lampFailure_otp (s : State) (n : Fin 48) (kind : Nat) : (State.lampFailure s n kind).otp = s.otp := by
  unfold State.lampFailure
  dsimp -proj only
  generalize (s.illum.sinks.get n).group = o
  cases o
  · rfl
  · exact (State.lightFault_otp _ _ _ _ _ _).trans ((State.updIllum_otp _ _).trans
      (ite_otp ((State.dark_otp _ _).trans (State.updGroup_otp _ _ _)) ((State.updSink_otp _ _ _).trans (State.updGroup_otp _ _ _))))

@[simp] theorem State.harnessOpen_otp (s : State) (h : Nat) (opens : List (Fin 48)) :
    (State.harnessOpen s h opens).otp = s.otp := by
  simp -proj [State.harnessOpen]

@[simp] theorem State.judge_otp (s : State) : (State.judge s).otp = s.otp := by
  simp -proj [State.judge]

@[simp] theorem State.groupCfgActs_otp (s : State) (gi : Fin 8) (c : LightCfg) :
    (State.groupCfgActs s gi c).otp = s.otp := by
  unfold State.groupCfgActs
  dsimp -proj only
  rw [State.updGroup_otp]
  refine ite_otp ((State.dark_otp _ _).trans ?_) ?_ <;> exact forAll_otp _ _ fun _ _ => State.updSink_otp _ _ _

@[simp] theorem State.illumValley_otp (s : State) (v : Nat) : (s.illumValley v).otp = s.otp := by
  unfold State.illumValley
  extract_lets s0 s1 s2 s3 s4
  have h0 : s0.otp = s.otp := State.updStage_otp _ _
  have h1 : s1.otp = s.otp := by simp -proj [s1, h0]
  have h2 : s2.otp = s.otp := (State.updIllum_otp _ _).trans h1
  have h3 : s3.otp = s.otp := by
    refine (forAll_otp _ _ fun s i => ?_).trans ?_
    · split
      · simp -proj
      · rfl
    · simp -proj [h2]
  have h4 : s4.otp = s.otp := (forAll_otp _ _ fun s i => by simp -proj).trans h3
  exact (State.lampRefresh_otp _).trans h4

@[simp] theorem State.dimValley_otp (s : State) (vstr : Nat) :
    (State.dimValley s vstr).otp = s.otp := by
  unfold State.dimValley
  repeat' (first
    | with_reducible eq_refl | with_reducible exact mk_otp .. | with_reducible refine ite_otp ?_ ?_
    | (with_reducible refine (forAll_otp _ _ fun _ _ => ?_).trans ?_)
    | (with_reducible refine (foldl_otp _ _ _ fun _ _ => ?_).trans ?_)
    | dsimp -proj only | (simp -proj only [apply_ite State.otp, ite_self]; done) | split | simp -proj)

@[simp] theorem State.applySets_otp (s : State) (gi : Fin 8) : (State.applySets s gi).otp = s.otp := by
  simp -proj [State.applySets]

@[simp] theorem doLightSet_otp (t : Ticket) (gi : Fin 8) (p : LightSetP) (s : State) :
    (doLightSet t gi p s).otp = s.otp := by
  unfold doLightSet
  repeat' (first
    | with_reducible eq_refl | with_reducible exact mk_otp .. | with_reducible refine ite_otp ?_ ?_
    | (with_reducible refine (forAll_otp _ _ fun _ _ => ?_).trans ?_)
    | (with_reducible refine (foldl_otp _ _ _ fun _ _ => ?_).trans ?_)
    | dsimp -proj only | (simp -proj only [apply_ite State.otp, ite_self]; done) | split | simp -proj)

@[simp] theorem doLightGroupConfig_otp (t : Ticket) (gi : Fin 8) (p : LightCfgP) (s : State) :
    (doLightGroupConfig t gi p s).otp = s.otp := by
  unfold doLightGroupConfig
  repeat' (first
    | with_reducible eq_refl | with_reducible exact mk_otp .. | with_reducible refine ite_otp ?_ ?_
    | (with_reducible refine (forAll_otp _ _ fun _ _ => ?_).trans ?_)
    | (with_reducible refine (foldl_otp _ _ _ fun _ _ => ?_).trans ?_)
    | dsimp -proj only | (simp -proj only [apply_ite State.otp, ite_self]; done) | split | simp -proj)

@[simp] theorem doStrobeArm_otp (t : Ticket) (gi : Fin 8) (p : StrobeP) (s : State) :
    (doStrobeArm t gi p s).otp = s.otp := by
  unfold doStrobeArm
  repeat' (first
    | with_reducible eq_refl | with_reducible exact mk_otp .. | with_reducible refine ite_otp ?_ ?_
    | (with_reducible refine (forAll_otp _ _ fun _ _ => ?_).trans ?_)
    | (with_reducible refine (foldl_otp _ _ _ fun _ _ => ?_).trans ?_)
    | dsimp -proj only | (simp -proj only [apply_ite State.otp, ite_self]; done) | split | simp -proj)

@[simp] theorem State.strobeEdge_otp (s : State) (p : Fin 4) (edgeNs : Nat) : (State.strobeEdge s p edgeNs).otp = s.otp := by
  simp -proj [State.strobeEdge]

@[simp] theorem State.strobesStep_otp (s : State) (old new : Nat) :
    (State.strobesStep s old new).otp = s.otp := by
  unfold State.strobesStep
  repeat' (first
    | with_reducible eq_refl | with_reducible exact mk_otp .. | with_reducible refine ite_otp ?_ ?_
    | (with_reducible refine (forAll_otp _ _ fun _ _ => ?_).trans ?_)
    | (with_reducible refine (foldl_otp _ _ _ fun _ _ => ?_).trans ?_)
    | dsimp -proj only | (simp -proj only [apply_ite State.otp, ite_self]; done) | split | simp -proj)

@[simp] theorem doMatrixFrame_otp (t : Ticket) (p : MatrixP) (s : State) : (doMatrixFrame t p s).otp = s.otp := by
  unfold doMatrixFrame; split <;> simp -proj

@[simp] theorem State.illumLoss_otp (s : State) (gi : Fin 8) : ((State.illumLoss s gi).1).otp = s.otp := by
  unfold State.illumLoss
  repeat' (first
    | with_reducible eq_refl | with_reducible exact mk_otp .. | with_reducible refine ite_otp ?_ ?_
    | (with_reducible refine (forAll_otp _ _ fun _ _ => ?_).trans ?_)
    | (with_reducible refine (foldl_otp _ _ _ fun _ _ => ?_).trans ?_)
    | dsimp only | (simp -proj only [apply_ite State.otp, ite_self]; done) | split | simp -proj)

@[simp] theorem State.matrixLoss_otp (s : State) : (State.matrixLoss s).otp = s.otp := by
  simp -proj [State.matrixLoss]

@[simp] theorem State.lightsOff_otp (s : State) : (State.lightsOff s).otp = s.otp := by
  simp -proj [State.lightsOff]

@[simp] theorem State.igFaultClear_otp (s : State) (gi : Fin 8) (v : Nat) : (s.igFaultClear gi v).otp = s.otp := by
  unfold State.igFaultClear
  simp only [State.lampRefresh_otp, State.updGroup_otp]
  exact forAll_otp _ _ fun s i => rfl

@[simp] theorem illumWrite_otp (s : State) (off v : Nat) : (illumWrite s off v).otp = s.otp := by
  unfold illumWrite
  repeat' (first
    | with_reducible eq_refl | with_reducible refine dite_otp (fun _ => ?_) (fun _ => ?_) | with_reducible refine ite_otp ?_ ?_ | (simp -proj; done))

@[simp] theorem lbusWrite_otp (s : State) (off : Nat) (v : Nat) : (lbusWrite s off v).otp = s.otp := by
  unfold lbusWrite; (repeat' split) <;> simp -proj

@[simp] theorem State.drivePattern_otp (s : State) (n : Fin 8) (pat : Pattern) :
    (State.drivePattern s n pat).otp = s.otp := by
  simp -proj [State.drivePattern]

@[simp] theorem State.gatesTick_otp (s : State) : (State.gatesTick s).otp = s.otp := by
  unfold State.gatesTick
  repeat' (first
    | with_reducible eq_refl | with_reducible exact mk_otp .. | with_reducible refine ite_otp ?_ ?_
    | (with_reducible refine (forAll_otp _ _ fun _ _ => ?_).trans ?_)
    | (with_reducible refine (foldl_otp _ _ _ fun _ _ => ?_).trans ?_)
    | dsimp -proj only | (simp -proj only [apply_ite State.otp, ite_self]; done) | split | simp -proj)

@[simp] theorem State.axisEvent_otp (s : State) (n : Fin 8) (old : AxSt) (new : AxSt) (cause : Nat) :
    (State.axisEvent s n old new cause).otp = s.otp := by
  simp -proj [State.axisEvent]

@[simp] theorem State.enterAx_otp (s : State) (n : Fin 8) (st : AxSt) (cause : Nat) :
    (State.enterAx s n st cause).otp = s.otp := by
  simp -proj [State.enterAx]

@[simp] theorem State.uncommutate_otp (s : State) (n : Fin 8) : (State.uncommutate s n).otp = s.otp := by
  simp -proj [State.uncommutate]

@[simp] theorem State.axisFault_otp (s : State) (n : Fin 8) (cause : Nat) : (State.axisFault s n cause).otp = s.otp := by
  unfold State.axisFault; split <;> simp -proj

@[simp] theorem State.observerFault_otp (s : State) (n : Fin 8) : (State.observerFault s n).otp = s.otp := by
  unfold State.observerFault; split <;> simp -proj

@[simp] theorem State.beginStop_otp (s : State) (n : Fin 8) (cat : StopCat) (kind : StopKind) :
    (State.beginStop s n cat kind).otp = s.otp := by
  unfold State.beginStop; split <;> simp -proj

@[simp] theorem State.axisStop_otp (s : State) (n : Fin 8) (cat : StopCat) (kind : StopKind) (cause : Nat) :
    ((State.axisStop s n cat kind cause).1).otp = s.otp := by
  unfold State.axisStop
  repeat' (first
    | with_reducible eq_refl | with_reducible exact mk_otp .. | with_reducible refine ite_otp ?_ ?_
    | (with_reducible refine (forAll_otp _ _ fun _ _ => ?_).trans ?_)
    | (with_reducible refine (foldl_otp _ _ _ fun _ _ => ?_).trans ?_)
    | dsimp only | (simp -proj only [apply_ite State.otp, ite_self]; done) | split | simp -proj)

@[simp] theorem State.hardwareStop_otp (s : State) : (State.hardwareStop s).otp = s.otp := by
  simp -proj [State.hardwareStop]

@[simp] theorem State.safeEvent_otp (s : State) (cause : Nat) (mask : Nat) : (State.safeEvent s cause mask).otp = s.otp := by
  simp -proj [State.safeEvent]

@[simp] theorem State.safeStopMask_otp (s : State) (mask : Nat) (cat : Nat) :
    (State.safeStopMask s mask cat).otp = s.otp := by
  unfold State.safeStopMask
  repeat' (first
    | with_reducible eq_refl | with_reducible exact mk_otp .. | with_reducible refine ite_otp ?_ ?_
    | (with_reducible refine (forAll_otp _ _ fun _ _ => ?_).trans ?_)
    | (with_reducible refine (foldl_otp _ _ _ fun _ _ => ?_).trans ?_)
    | dsimp -proj only | (simp -proj only [apply_ite State.otp, ite_self]; done) | split | simp -proj)

@[simp] theorem State.runLoop_otp (s : State) (n : Fin 8) : (State.runLoop s n).otp = s.otp := by
  unfold State.runLoop; split <;> simp -proj

@[simp] theorem State.toHfi_otp (s : State) (n : Fin 8) (cause : Nat) : (State.toHfi s n cause).otp = s.otp := by
  simp -proj [State.toHfi]

@[simp] theorem State.refuse_otp (s : State) (n : Fin 8) (stay : Bool) :
    (State.refuse s n stay).otp = s.otp := by
  unfold State.refuse
  repeat' (first
    | with_reducible eq_refl | with_reducible exact mk_otp .. | with_reducible refine ite_otp ?_ ?_
    | (with_reducible refine (forAll_otp _ _ fun _ _ => ?_).trans ?_)
    | (with_reducible refine (foldl_otp _ _ _ fun _ _ => ?_).trans ?_)
    | dsimp -proj only | (simp -proj only [apply_ite State.otp, ite_self]; done) | split | simp -proj)

@[simp] theorem State.commitCouch_otp (s : State) (n : Fin 8) (h : Handover) :
    (State.commitCouch s n h).otp = s.otp := by
  unfold State.commitCouch
  repeat' (first
    | with_reducible eq_refl | with_reducible exact mk_otp .. | with_reducible refine ite_otp ?_ ?_
    | (with_reducible refine (forAll_otp _ _ fun _ _ => ?_).trans ?_)
    | (with_reducible refine (foldl_otp _ _ _ fun _ _ => ?_).trans ?_)
    | dsimp -proj only | (simp -proj only [apply_ite State.otp, ite_self]; done) | split | simp -proj)

@[simp] theorem State.settleHandover_otp (s : State) (n : Fin 8) :
    (State.settleHandover s n).otp = s.otp := by
  unfold State.settleHandover
  repeat' (first
    | with_reducible eq_refl | with_reducible exact mk_otp .. | with_reducible refine ite_otp ?_ ?_
    | (with_reducible refine (forAll_otp _ _ fun _ _ => ?_).trans ?_)
    | (with_reducible refine (foldl_otp _ _ _ fun _ _ => ?_).trans ?_)
    | dsimp -proj only | (simp -proj only [apply_ite State.otp, ite_self]; done) | split | simp -proj)

@[simp] theorem State.loseSync_otp (s : State) (n : Fin 8) (crit : Nat) (value : Int) :
    (State.loseSync s n crit value).otp = s.otp := by
  simp -proj [State.loseSync]

@[simp] theorem State.position_otp (s : State) (n : Fin 8) (missed : Bool) (first : Bool) :
    (State.position s n missed first).otp = s.otp := by
  unfold State.position
  repeat' (first
    | with_reducible eq_refl | with_reducible exact mk_otp .. | with_reducible refine ite_otp ?_ ?_
    | (with_reducible refine (forAll_otp _ _ fun _ _ => ?_).trans ?_)
    | (with_reducible refine (foldl_otp _ _ _ fun _ _ => ?_).trans ?_)
    | dsimp -proj only | (simp -proj only [apply_ite State.otp, ite_self]; done) | split | simp -proj)

@[simp] theorem State.calenderOut_otp (s : State) (n : Fin 8) (e : Eval) : (State.calenderOut s n e).otp = s.otp := by
  unfold State.calenderOut
  repeat' (first
    | with_reducible eq_refl | with_reducible exact mk_otp .. | with_reducible refine ite_otp ?_ ?_
    | (with_reducible refine (forAll_otp _ _ fun _ _ => ?_).trans ?_)
    | (with_reducible refine (foldl_otp _ _ _ fun _ _ => ?_).trans ?_)
    | dsimp -proj only | (simp -proj only [apply_ite State.otp, ite_self]; done) | split | simp -proj)

@[simp] theorem State.missEval_otp (s : State) (n : Fin 8) (k : Fin 3) (first : Bool) :
    (State.missEval s n k first).otp = s.otp := by
  unfold State.missEval
  repeat' (first
    | with_reducible eq_refl | with_reducible exact mk_otp .. | with_reducible refine ite_otp ?_ ?_
    | (with_reducible refine (forAll_otp _ _ fun _ _ => ?_).trans ?_)
    | (with_reducible refine (foldl_otp _ _ _ fun _ _ => ?_).trans ?_)
    | dsimp -proj only | (simp -proj only [apply_ite State.otp, ite_self]; done) | split | simp -proj)

@[simp] theorem State.noteStatus_otp (s : State) (n : Fin 8) :
    (State.noteStatus s n).otp = s.otp := by
  unfold State.noteStatus
  repeat' (first
    | with_reducible eq_refl | with_reducible exact mk_otp .. | with_reducible refine ite_otp ?_ ?_
    | (with_reducible refine (forAll_otp _ _ fun _ _ => ?_).trans ?_)
    | (with_reducible refine (foldl_otp _ _ _ fun _ _ => ?_).trans ?_)
    | dsimp -proj only | (simp -proj only [apply_ite State.otp, ite_self]; done) | split | simp -proj)

@[simp] theorem State.noteOutputs_otp (after before : State) (n : Fin 8) :
    (State.noteOutputs after before n).otp = after.otp := by
  unfold State.noteOutputs
  repeat' (first
    | with_reducible eq_refl | with_reducible exact mk_otp .. | with_reducible refine ite_otp ?_ ?_
    | (with_reducible refine (forAll_otp _ _ fun _ _ => ?_).trans ?_)
    | (with_reducible refine (foldl_otp _ _ _ fun _ _ => ?_).trans ?_)
    | dsimp -proj only | (simp -proj only [apply_ite State.otp, ite_self]; done) | split | simp -proj)

@[simp] theorem State.startEvals_otp (s : State) (n : Fin 8) (v : ValleySample) : (State.startEvals s n v).otp = s.otp := by
  unfold State.startEvals
  repeat' (first
    | with_reducible eq_refl | with_reducible exact mk_otp .. | with_reducible refine ite_otp ?_ ?_
    | (with_reducible refine (forAll_otp _ _ fun _ _ => ?_).trans ?_)
    | (with_reducible refine (foldl_otp _ _ _ fun _ _ => ?_).trans ?_)
    | dsimp -proj only | (simp -proj only [apply_ite State.otp, ite_self]; done) | split | simp -proj)

@[simp] theorem State.settleEvals_otp (s : State) (n : Fin 8) : (State.settleEvals s n).otp = s.otp := by
  simp -proj [State.settleEvals]

@[simp] theorem State.hfiStep_otp (s : State) (n : Fin 8) (speedHfi : Int) : (State.hfiStep s n speedHfi).otp = s.otp := by
  unfold State.hfiStep
  repeat' (first
    | with_reducible eq_refl | with_reducible exact mk_otp .. | with_reducible refine ite_otp ?_ ?_
    | (with_reducible refine (forAll_otp _ _ fun _ _ => ?_).trans ?_)
    | (with_reducible refine (foldl_otp _ _ _ fun _ _ => ?_).trans ?_)
    | dsimp -proj only | (simp -proj only [apply_ite State.otp, ite_self]; done) | split | simp -proj)

@[simp] theorem State.axisValley_otp (s : State) (n : Fin 8) : (State.axisValley s n).otp = s.otp := by
  simp -proj [State.axisValley]

@[simp] theorem doAxisConfig_otp (t : Ticket) (p : AxisCfgP) (s : State) : (doAxisConfig t p s).otp = s.otp := by
  unfold doAxisConfig
  repeat' (first
    | with_reducible eq_refl | with_reducible exact mk_otp .. | with_reducible refine ite_otp ?_ ?_
    | (with_reducible refine (forAll_otp _ _ fun _ _ => ?_).trans ?_)
    | (with_reducible refine (foldl_otp _ _ _ fun _ _ => ?_).trans ?_)
    | dsimp -proj only | (simp -proj only [apply_ite State.otp, ite_self]; done) | split | simp -proj)

@[simp] theorem doAxisEnable_otp (t : Ticket) (en : Byte) (realign : Bool) (s : State) :
    (doAxisEnable t en realign s).otp = s.otp := by
  unfold doAxisEnable
  repeat' (first
    | with_reducible eq_refl | with_reducible exact mk_otp .. | with_reducible refine ite_otp ?_ ?_
    | (with_reducible refine (forAll_otp _ _ fun _ _ => ?_).trans ?_)
    | (with_reducible refine (foldl_otp _ _ _ fun _ _ => ?_).trans ?_)
    | dsimp -proj only | (simp -proj only [apply_ite State.otp, ite_self]; done) | split | simp -proj)

@[simp] theorem doAxisCommand_otp (t : Ticket) (p : AxisCmdP) (s : State) : (doAxisCommand t p s).otp = s.otp := by
  unfold doAxisCommand
  repeat' (first
    | with_reducible eq_refl | with_reducible exact mk_otp .. | with_reducible refine ite_otp ?_ ?_
    | (with_reducible refine (forAll_otp _ _ fun _ _ => ?_).trans ?_)
    | (with_reducible refine (foldl_otp _ _ _ fun _ _ => ?_).trans ?_)
    | dsimp -proj only | (simp -proj only [apply_ite State.otp, ite_self]; done) | split | simp -proj)

@[simp] theorem doAxisStop_otp (t : Ticket) (cat : Byte) (s : State) : (doAxisStop t cat s).otp = s.otp := by
  unfold doAxisStop
  repeat' (first
    | with_reducible eq_refl | with_reducible exact mk_otp .. | with_reducible refine ite_otp ?_ ?_
    | (with_reducible refine (forAll_otp _ _ fun _ _ => ?_).trans ?_)
    | (with_reducible refine (foldl_otp _ _ _ fun _ _ => ?_).trans ?_)
    | dsimp -proj only | (simp -proj only [apply_ite State.otp, ite_self]; done) | split | simp -proj)

@[simp] theorem doAxisStatus_otp (t : Ticket) (s : State) : (doAxisStatus t s).otp = s.otp := by
  simp -proj [doAxisStatus]

@[simp] theorem doSafeStop_otp (t : Ticket) (mask : Byte) (cat : Byte) (s : State) :
    (doSafeStop t mask cat s).otp = s.otp := by
  unfold doSafeStop; split <;> simp -proj

@[simp] theorem doSafeRelease_otp (t : Ticket) (mask : Byte) (s : State) : (doSafeRelease t mask s).otp = s.otp := by
  unfold doSafeRelease
  repeat' (first
    | with_reducible eq_refl | with_reducible exact mk_otp .. | with_reducible refine ite_otp ?_ ?_
    | (with_reducible refine (forAll_otp _ _ fun _ _ => ?_).trans ?_)
    | (with_reducible refine (foldl_otp _ _ _ fun _ _ => ?_).trans ?_)
    | dsimp -proj only | (simp -proj only [apply_ite State.otp, ite_self]; done) | split | simp -proj)

@[simp] theorem doSafeStatus_otp (t : Ticket) (s : State) : (doSafeStatus t s).otp = s.otp := by
  simp -proj [doSafeStatus]

@[simp] theorem State.pinnedCoreFault_otp (s : State) (c : Fin 32) : (State.pinnedCoreFault s c).otp = s.otp := by
  unfold State.pinnedCoreFault
  repeat' (first
    | with_reducible eq_refl | with_reducible exact mk_otp .. | with_reducible refine ite_otp ?_ ?_
    | (with_reducible refine (forAll_otp _ _ fun _ _ => ?_).trans ?_)
    | (with_reducible refine (foldl_otp _ _ _ fun _ _ => ?_).trans ?_)
    | dsimp -proj only | (simp -proj only [apply_ite State.otp, ite_self]; done) | split | simp -proj)

@[simp] theorem State.weightError_otp (s : State) (n : Fin 8) (k : Fin 3) : (State.weightError s n k).otp = s.otp := by
  simp -proj [State.weightError]

@[simp] theorem State.axisLoss_otp (s : State) (n : Fin 8) : ((State.axisLoss s n).1).otp = s.otp := by
  unfold State.axisLoss
  repeat' (first
    | with_reducible eq_refl | with_reducible exact mk_otp .. | with_reducible refine ite_otp ?_ ?_
    | (with_reducible refine (forAll_otp _ _ fun _ _ => ?_).trans ?_)
    | (with_reducible refine (foldl_otp _ _ _ fun _ _ => ?_).trans ?_)
    | dsimp only | (simp -proj only [apply_ite State.otp, ite_self]; done) | split | simp -proj)

@[simp] theorem axesWrite_otp (s : State) (off : Nat) (v : Nat) : (axesWrite s off v).otp = s.otp := by
  unfold axesWrite
  repeat' (first
    | with_reducible eq_refl | with_reducible exact mk_otp .. | with_reducible refine ite_otp ?_ ?_
    | (with_reducible refine (forAll_otp _ _ fun _ _ => ?_).trans ?_)
    | (with_reducible refine (foldl_otp _ _ _ fun _ _ => ?_).trans ?_)
    | dsimp -proj only | (simp -proj only [apply_ite State.otp, ite_self]; done) | split | simp -proj)

@[simp] theorem safetyWrite_otp (s : State) (off : Nat) (v : Nat) : (safetyWrite s off v).otp = s.otp := by
  unfold safetyWrite; (repeat' split) <;> simp -proj

@[simp] theorem obsWrite_otp (s : State) (off : Nat) (v : Nat) : (obsWrite s off v).otp = s.otp := by
  unfold obsWrite
  repeat' (first
    | with_reducible eq_refl | with_reducible exact mk_otp .. | with_reducible refine ite_otp ?_ ?_
    | (with_reducible refine (forAll_otp _ _ fun _ _ => ?_).trans ?_)
    | (with_reducible refine (foldl_otp _ _ _ fun _ _ => ?_).trans ?_)
    | dsimp -proj only | (simp -proj only [apply_ite State.otp, ite_self]; done) | split | simp -proj)

@[simp] theorem State.noteFault_otp (s : State) (cause : Nat) (owner : Nat) (job : Nat) (region : Nat) (line : Nat) :
    (State.noteFault s cause owner job region line).otp = s.otp := by
  simp -proj [State.noteFault]

@[simp] theorem State.readRange_otp (s : State) (p : Port) (h off len : Nat) :
    (s.readRange p h off len).2.1.otp = s.otp := by
  unfold State.readRange
  split
  · rfl
  · split
    · rfl
    · split
      · simp [State.noteFault]
      · rfl

@[simp] theorem State.writeRange_otp (s : State) (r : Region) (key : Nat) (off : Nat) (bs : Bytes) :
    (State.writeRange s r key off bs).otp = s.otp := by
  unfold State.writeRange
  repeat' (first
    | with_reducible eq_refl | with_reducible exact mk_otp .. | with_reducible refine ite_otp ?_ ?_
    | (with_reducible refine (forAll_otp _ _ fun _ _ => ?_).trans ?_)
    | (with_reducible refine (foldl_otp _ _ _ fun _ _ => ?_).trans ?_)
    | dsimp -proj only | (simp -proj only [apply_ite State.otp, ite_self]; done) | split | simp -proj)

@[simp] theorem doMemAlloc_otp (t : Ticket) (size : BitVec 64) (place : Byte) (s : State) :
    (doMemAlloc t size place s).otp = s.otp := by
  unfold doMemAlloc
  extract_lets p st n hd gs
  repeat' (first | with_reducible refine ite_otp ?_ ?_ | with_reducible exact State.reply_otp _ _ _ _)
  rw [State.reply_otp, State.updMem_otp]

@[simp] theorem doMemFree_otp (t : Ticket) (region : Word) (s : State) : (doMemFree t region s).otp = s.otp := by
  unfold doMemFree; (repeat' split) <;> simp -proj

@[simp] theorem State.storeCmd_otp (s : State) (t : Ticket) (h : Nat) (off : Nat) (bs : Bytes) :
    (State.storeCmd s t h off bs).otp = s.otp := by
  unfold State.storeCmd
  repeat' (first
    | with_reducible eq_refl | with_reducible exact mk_otp .. | with_reducible refine ite_otp ?_ ?_
    | (with_reducible refine (forAll_otp _ _ fun _ _ => ?_).trans ?_)
    | (with_reducible refine (foldl_otp _ _ _ fun _ _ => ?_).trans ?_)
    | dsimp -proj only | (simp -proj only [apply_ite State.otp, ite_self]; done) | split | simp -proj)

@[simp] theorem doMemWrite_otp (t : Ticket) (region : Word) (offset : BitVec 64) (data : Bytes) (s : State) :
    (doMemWrite t region offset data s).otp = s.otp := by
  unfold doMemWrite; split <;> simp -proj

@[simp] theorem doMemRead_otp (t : Ticket) (r l : Word) (o : BitVec 64) (s : State) : (doMemRead t r l o s).otp = s.otp := by
  unfold doMemRead
  repeat' (first | with_reducible refine ite_otp ?_ ?_ | (simp -proj; done) | split)

@[simp] theorem doMemFill_otp (t : Ticket) (region : Word) (pattern : Word) (offset : BitVec 64) (length : BitVec 64) (s : State) :
    (doMemFill t region pattern offset length s).otp = s.otp := by
  unfold doMemFill; (repeat' split) <;> simp -proj

@[simp] theorem State.spoilLine_otp (s : State) (r : Region) (i : Nat) (kind : Nat) :
    (State.spoilLine s r i kind).otp = s.otp := by
  simp -proj [State.spoilLine]

@[simp] theorem memWriteReg_otp (s : State) (off : Nat) (v : Nat) : (memWriteReg s off v).otp = s.otp := by
  unfold memWriteReg; (repeat' split) <;> simp -proj

@[simp] theorem State.unloadNet_otp (s : State) (n : Fin 8) (k : Fin 3) :
    (State.unloadNet s n k).otp = s.otp := by
  unfold State.unloadNet
  repeat' (first
    | with_reducible eq_refl | with_reducible exact mk_otp .. | with_reducible refine ite_otp ?_ ?_
    | (with_reducible refine (forAll_otp _ _ fun _ _ => ?_).trans ?_)
    | (with_reducible refine (foldl_otp _ _ _ fun _ _ => ?_).trans ?_)
    | dsimp -proj only | (simp -proj only [apply_ite State.otp, ite_self]; done) | split | simp -proj)

@[simp] theorem doObserverLoad_otp (t : Ticket) (p : ObsLoadP) (s : State) : (doObserverLoad t p s).otp = s.otp := by
  unfold doObserverLoad
  repeat' (first | with_reducible refine ite_otp ?_ ?_ | (simp -proj; done))

@[simp] theorem State.updUnit_otp (s : State) (u : Fin 16) (f : Ltu → Ltu) : (State.updUnit s u f).otp = s.otp := by
  simp -proj [State.updUnit]

@[simp] theorem State.pcsLoop_otp (s : State) (on : Bool) :
    (State.pcsLoop s on).otp = s.otp := by
  unfold State.pcsLoop
  repeat' (first
    | with_reducible eq_refl | with_reducible exact mk_otp .. | with_reducible refine ite_otp ?_ ?_
    | (with_reducible refine (forAll_otp _ _ fun _ _ => ?_).trans ?_)
    | (with_reducible refine (foldl_otp _ _ _ fun _ _ => ?_).trans ?_)
    | dsimp -proj only | (simp -proj only [apply_ite State.otp, ite_self]; done) | split | simp -proj)

@[simp] theorem State.unitSends_otp (s : State) (u : Fin 16) (on : Bool) :
    (State.unitSends s u on).otp = s.otp := by
  unfold State.unitSends
  extract_lets x s1
  have h : s1.otp = s.otp := ite_otp rfl rfl
  exact ite_otp ((State.pcsLoop_otp _ _).trans h) (ite_otp h h)

@[simp] theorem State.unitBack_otp (s : State) (u : Fin 16) : (State.unitBack s u).otp = s.otp := by
  unfold State.unitBack; (repeat' split) <;> simp -proj

@[simp] theorem State.unitEnd_otp (s : State) (u : Fin 16) (result : Nat) (event : Bool) :
    (State.unitEnd s u result event).otp = s.otp := by
  unfold State.unitEnd
  repeat' (first
    | with_reducible eq_refl | with_reducible exact mk_otp .. | with_reducible refine ite_otp ?_ ?_
    | (with_reducible refine (forAll_otp _ _ fun _ _ => ?_).trans ?_)
    | (with_reducible refine (foldl_otp _ _ _ fun _ _ => ?_).trans ?_)
    | dsimp -proj only | (simp -proj only [apply_ite State.otp, ite_self]; done) | split | simp -proj)

@[simp] theorem State.unitStop_otp (s : State) (u : Fin 16) (event : Bool) : (State.unitStop s u event).otp = s.otp := by
  unfold State.unitStop
  repeat' (first
    | with_reducible eq_refl | with_reducible exact mk_otp .. | with_reducible refine ite_otp ?_ ?_
    | (with_reducible refine (forAll_otp _ _ fun _ _ => ?_).trans ?_)
    | (with_reducible refine (foldl_otp _ _ _ fun _ _ => ?_).trans ?_)
    | dsimp -proj only | (simp -proj only [apply_ite State.otp, ite_self]; done) | split | simp -proj)

@[simp] theorem doLinkTestStart_otp (t : Ticket) (u : Fin 16) (p : LinkStartP) (s : State) :
    (doLinkTestStart t u p s).otp = s.otp := by
  unfold doLinkTestStart
  repeat' (first
    | with_reducible eq_refl | with_reducible exact mk_otp .. | with_reducible refine ite_otp ?_ ?_
    | (with_reducible refine (forAll_otp _ _ fun _ _ => ?_).trans ?_)
    | (with_reducible refine (foldl_otp _ _ _ fun _ _ => ?_).trans ?_)
    | dsimp -proj only | (simp -proj only [apply_ite State.otp, ite_self]; done) | split | simp -proj)

@[simp] theorem doLinkTestResult_otp (t : Ticket) (u : Fin 16) (s : State) : (doLinkTestResult t u s).otp = s.otp := by
  simp -proj [doLinkTestResult]

@[simp] theorem linkLatch_otp (s : State) (off : Nat) : (linkLatch s off).otp = s.otp := by
  unfold linkLatch; (repeat' split) <;> simp -proj

@[simp] theorem linkWrite_otp (s : State) (off : Nat) (v : Nat) : (linkWrite s off v).otp = s.otp := by
  unfold linkWrite
  repeat' (first
    | with_reducible eq_refl | with_reducible exact mk_otp .. | with_reducible refine ite_otp ?_ ?_
    | (with_reducible refine (forAll_otp _ _ fun _ _ => ?_).trans ?_)
    | (with_reducible refine (foldl_otp _ _ _ fun _ _ => ?_).trans ?_)
    | dsimp -proj only | (simp -proj only [apply_ite State.otp, ite_self]; done) | split | simp -proj)

@[simp] theorem State.updJob_otp (s : State) (t : Fin 64) (f : Job → Job) : (State.updJob s t f).otp = s.otp := by
  simp -proj [State.updJob]

@[simp] theorem State.updToken_otp (s : State) (id : Nat) (f : Token → Token) : (State.updToken s id f).otp = s.otp := by
  simp -proj [State.updToken]

@[simp] theorem State.makeReady_otp (s : State) (t : Fin 64) : (State.makeReady s t).otp = s.otp := by
  simp -proj [State.makeReady]

@[simp] theorem State.tryReady_otp (s : State) (t : Fin 64) : (State.tryReady s t).otp = s.otp := by
  unfold State.tryReady; (repeat' split) <;> simp -proj

@[simp] theorem State.served_otp (s : State) (w : Waiter) (count : Nat) : (State.served s w count).otp = s.otp := by
  unfold State.served; split <;> simp -proj

@[simp] theorem State.serveToken_otp (id n : Nat) (s : State) : (State.serveToken id n s).otp = s.otp := by
  induction n generalizing s with
  | zero => rfl
  | succ n ih =>
    unfold State.serveToken
    split
    · rfl
    · split
      · rfl
      · split
        · simp [ih]
        · rfl

@[simp] theorem State.settleToken_otp (s : State) (id : Nat) : (State.settleToken s id).otp = s.otp := by
  simp -proj [State.settleToken]

@[simp] theorem State.signalToken_otp (s : State) (id : Nat) : ((State.signalToken s id).1).otp = s.otp := by
  unfold State.signalToken
  repeat' (first
    | with_reducible eq_refl | with_reducible exact mk_otp .. | with_reducible refine ite_otp ?_ ?_
    | (with_reducible refine (forAll_otp _ _ fun _ _ => ?_).trans ?_)
    | (with_reducible refine (foldl_otp _ _ _ fun _ _ => ?_).trans ?_)
    | dsimp only | (simp -proj only [apply_ite State.otp, ite_self]; done) | split | simp -proj)

@[simp] theorem doTokenAlloc_otp (t : Ticket) (initial : Word) (s : State) : (doTokenAlloc t initial s).otp = s.otp := by
  unfold doTokenAlloc
  repeat' (first
    | with_reducible eq_refl | with_reducible exact mk_otp .. | with_reducible refine ite_otp ?_ ?_
    | (with_reducible refine (forAll_otp _ _ fun _ _ => ?_).trans ?_)
    | (with_reducible refine (foldl_otp _ _ _ fun _ _ => ?_).trans ?_)
    | dsimp -proj only | (simp -proj only [apply_ite State.otp, ite_self]; done) | split | simp -proj)

@[simp] theorem doTokenSignal_otp (t : Ticket) (token : BitVec 16) (amount : Word) (s : State) :
    (doTokenSignal t token amount s).otp = s.otp := by
  unfold doTokenSignal
  repeat' (first
    | with_reducible eq_refl | with_reducible exact mk_otp .. | with_reducible refine ite_otp ?_ ?_
    | (with_reducible refine (forAll_otp _ _ fun _ _ => ?_).trans ?_)
    | (with_reducible refine (foldl_otp _ _ _ fun _ _ => ?_).trans ?_)
    | dsimp -proj only | (simp -proj only [apply_ite State.otp, ite_self]; done) | split | simp -proj)

@[simp] theorem doTokenWait_otp (t : Ticket) (token : BitVec 16) (amount : Word) (timeout : Word) (s : State) :
    (doTokenWait t token amount timeout s).otp = s.otp := by
  unfold doTokenWait
  repeat' (first
    | with_reducible eq_refl | with_reducible exact mk_otp .. | with_reducible refine ite_otp ?_ ?_
    | (with_reducible refine (forAll_otp _ _ fun _ _ => ?_).trans ?_)
    | (with_reducible refine (foldl_otp _ _ _ fun _ _ => ?_).trans ?_)
    | dsimp -proj only | (simp -proj only [apply_ite State.otp, ite_self]; done) | split | simp -proj)

@[simp] theorem doTokenFree_otp (t : Ticket) (token : BitVec 16) (s : State) : (doTokenFree t token s).otp = s.otp := by
  unfold doTokenFree
  repeat' (first
    | with_reducible eq_refl | with_reducible exact mk_otp .. | with_reducible refine ite_otp ?_ ?_
    | (with_reducible refine (forAll_otp _ _ fun _ _ => ?_).trans ?_)
    | (with_reducible refine (foldl_otp _ _ _ fun _ _ => ?_).trans ?_)
    | dsimp -proj only | (simp -proj only [apply_ite State.otp, ite_self]; done) | split | simp -proj)

@[simp] theorem State.tokenTimeout_otp (s : State) (port : Port) (token : Nat) :
    (State.tokenTimeout s port token).otp = s.otp := by
  unfold State.tokenTimeout
  repeat' (first
    | with_reducible eq_refl | with_reducible exact mk_otp .. | with_reducible refine ite_otp ?_ ?_
    | (with_reducible refine (forAll_otp _ _ fun _ _ => ?_).trans ?_)
    | (with_reducible refine (foldl_otp _ _ _ fun _ _ => ?_).trans ?_)
    | dsimp -proj only | (simp -proj only [apply_ite State.otp, ite_self]; done) | split | simp -proj)

@[simp] theorem doGraphLoad_otp (t : Ticket) (r : Word) (o : BitVec 64) (l : Word) (s : State) :
    (doGraphLoad t r o l s).otp = s.otp := by
  unfold doGraphLoad
  repeat' (first | with_reducible refine ite_otp ?_ ?_ | (simp -proj; done) | split)

@[simp] theorem doGraphUnload_otp (t : Ticket) (graph : Word) (s : State) : (doGraphUnload t graph s).otp = s.otp := by
  unfold doGraphUnload
  repeat' (first
    | with_reducible eq_refl | with_reducible exact mk_otp .. | with_reducible refine ite_otp ?_ ?_
    | (with_reducible refine (forAll_otp _ _ fun _ _ => ?_).trans ?_)
    | (with_reducible refine (foldl_otp _ _ _ fun _ _ => ?_).trans ?_)
    | dsimp -proj only | (simp -proj only [apply_ite State.otp, ite_self]; done) | split | simp -proj)

@[simp] theorem doJobSubmit_otp (t : Ticket) (p : SubmitP) (s : State) : (doJobSubmit t p s).otp = s.otp := by
  unfold doJobSubmit; (repeat' split) <;> simp -proj

@[simp] theorem State.freeFrames_otp (s : State) (t : Fin 64) : (State.freeFrames s t).otp = s.otp := by
  unfold State.freeFrames
  repeat' (first
    | with_reducible eq_refl | with_reducible exact mk_otp .. | with_reducible refine ite_otp ?_ ?_
    | (with_reducible refine (forAll_otp _ _ fun _ _ => ?_).trans ?_)
    | (with_reducible refine (foldl_otp _ _ _ fun _ _ => ?_).trans ?_)
    | dsimp -proj only | (simp -proj only [apply_ite State.otp, ite_self]; done) | split | simp -proj)

@[simp] theorem State.portDisarmed_otp (s : State) (port : Fin 6) :
    (State.portDisarmed s port).otp = s.otp := by
  unfold State.portDisarmed
  repeat' (first
    | with_reducible eq_refl | with_reducible exact mk_otp .. | with_reducible refine ite_otp ?_ ?_
    | (with_reducible refine (forAll_otp _ _ fun _ _ => ?_).trans ?_)
    | (with_reducible refine (foldl_otp _ _ _ fun _ _ => ?_).trans ?_)
    | dsimp -proj only | (simp -proj only [apply_ite State.otp, ite_self]; done) | split | simp -proj)

@[simp] theorem State.deliver_otp (s : State) (port : Fin 6) (buffer : Fin 4) (fsTime : Nat) (fsTick : Nat) :
    ((State.deliver s port buffer fsTime fsTick).1).otp = s.otp := by
  unfold State.deliver
  repeat' (first
    | with_reducible eq_refl | with_reducible exact mk_otp .. | with_reducible refine ite_otp ?_ ?_
    | (with_reducible refine (forAll_otp _ _ fun _ _ => ?_).trans ?_)
    | (with_reducible refine (foldl_otp _ _ _ fun _ _ => ?_).trans ?_)
    | dsimp only | (simp -proj only [apply_ite State.otp, ite_self]; done) | split | simp -proj)

@[simp] theorem State.startAttempt_otp (s : State) (t : Fin 64) (j : Job) (cs : List (Fin 32)) :
    (State.startAttempt s t j cs).otp = s.otp := by
  simp -proj [State.startAttempt]

@[simp] theorem State.dispatch_otp (s : State) :
    (State.dispatch s).otp = s.otp := by
  unfold State.dispatch
  repeat' (first
    | with_reducible eq_refl | with_reducible exact mk_otp .. | with_reducible refine ite_otp ?_ ?_
    | (with_reducible refine (forAll_otp _ _ fun _ _ => ?_).trans ?_)
    | (with_reducible refine (foldl_otp _ _ _ fun _ _ => ?_).trans ?_)
    | dsimp -proj only | (simp -proj only [apply_ite State.otp, ite_self]; done) | split | simp -proj)

@[simp] theorem State.logAttempt_otp (s : State) (t : Fin 64) (a : Nat) (code : Nat) :
    (State.logAttempt s t a code).otp = s.otp := by
  simp -proj [State.logAttempt]

@[simp] theorem State.releaseAttempt_otp (s : State) (t : Fin 64) :
    (State.releaseAttempt s t).otp = s.otp := by
  unfold State.releaseAttempt
  repeat' (first
    | with_reducible eq_refl | with_reducible exact mk_otp .. | with_reducible refine ite_otp ?_ ?_
    | (with_reducible refine (forAll_otp _ _ fun _ _ => ?_).trans ?_)
    | (with_reducible refine (foldl_otp _ _ _ fun _ _ => ?_).trans ?_)
    | dsimp -proj only | (simp -proj only [apply_ite State.otp, ite_self]; done) | split | simp -proj)

@[simp] theorem State.jobDone_otp (s : State) (t : Fin 64) (j : Job) : (State.jobDone s t j).otp = s.otp := by
  simp -proj [State.jobDone]

@[simp] theorem State.freeTag_otp (s : State) (t : Fin 64) : (State.freeTag s t).otp = s.otp := by
  have h (l : List (Fin 32)) (f : Core1 → Core1) (x : State) :
      (l.foldl (fun s c => s.updCore c f) x).otp = x.otp := foldl_otp _ _ _ fun _ _ => by simp -proj
  unfold State.freeTag
  repeat' (first
    | with_reducible eq_refl | with_reducible refine ite_otp ?_ ?_
    | (with_reducible refine (h _ _ _).trans ?_)
    | dsimp -proj only | split | simp -proj)

@[simp] theorem State.endJob_otp (s : State) (t : Fin 64) (st : JobSt) (final : Nat) :
    (State.endJob s t st final).otp = s.otp := by
  unfold State.endJob
  repeat' (first
    | with_reducible eq_refl | with_reducible exact mk_otp .. | with_reducible refine ite_otp ?_ ?_
    | (with_reducible refine (forAll_otp _ _ fun _ _ => ?_).trans ?_)
    | (with_reducible refine (foldl_otp _ _ _ fun _ _ => ?_).trans ?_)
    | dsimp -proj only | (simp -proj only [apply_ite State.otp, ite_self]; done) | split | simp -proj)

@[simp] theorem State.idleCores_otp (s : State) (o : Option (Fin 64)) (cs : List (Fin 32)) : (State.idleCores s o cs).otp = s.otp := by
  simp -proj [State.idleCores]

@[simp] theorem State.countAbandoned_otp (s : State) (j : Job) :
    (State.countAbandoned s j).otp = s.otp := by
  unfold State.countAbandoned
  repeat' (first
    | with_reducible eq_refl | with_reducible exact mk_otp .. | with_reducible refine ite_otp ?_ ?_
    | (with_reducible refine (forAll_otp _ _ fun _ _ => ?_).trans ?_)
    | (with_reducible refine (foldl_otp _ _ _ fun _ _ => ?_).trans ?_)
    | dsimp -proj only | (simp -proj only [apply_ite State.otp, ite_self]; done) | split | simp -proj)

@[simp] theorem State.abandon_otp (s : State) (t : Fin 64) (cls : Nat) (core : Nat) (region : Nat) (detail : Nat) :
    (State.abandon s t cls core region detail).otp = s.otp := by
  unfold State.abandon; (repeat' split) <;> simp -proj

@[simp] theorem State.coreFault_otp (s : State) (c : Fin 32) : (State.coreFault s c).otp = s.otp := by
  simp -proj [State.coreFault]

@[simp] theorem State.faultOn_otp (s : State) (c : Fin 32) (cls : Nat) (detail : Nat) :
    (State.faultOn s c cls detail).otp = s.otp := by
  unfold State.faultOn
  repeat' (first
    | with_reducible eq_refl | with_reducible exact mk_otp .. | with_reducible refine ite_otp ?_ ?_
    | (with_reducible refine (forAll_otp _ _ fun _ _ => ?_).trans ?_)
    | (with_reducible refine (foldl_otp _ _ _ fun _ _ => ?_).trans ?_)
    | dsimp -proj only | (simp -proj only [apply_ite State.otp, ite_self]; done) | split | simp -proj)

@[simp] theorem State.writeOutputs_otp (s : State) (j : Job) (r : RunRes) : (State.writeOutputs s j r).otp = s.otp := by
  unfold State.writeOutputs
  repeat' (first
    | with_reducible eq_refl | with_reducible exact mk_otp .. | with_reducible refine ite_otp ?_ ?_
    | (with_reducible refine (forAll_otp _ _ fun _ _ => ?_).trans ?_)
    | (with_reducible refine (foldl_otp _ _ _ fun _ _ => ?_).trans ?_)
    | dsimp -proj only | (simp -proj only [apply_ite State.otp, ite_self]; done) | split | simp -proj)

@[simp] theorem State.completeAttempt_otp (s : State) (tag : Fin 64) :
    (State.completeAttempt s tag).otp = s.otp := by
  unfold State.completeAttempt
  repeat' (first
    | with_reducible eq_refl | with_reducible exact mk_otp .. | with_reducible refine ite_otp ?_ ?_
    | (with_reducible refine (forAll_otp _ _ fun _ _ => ?_).trans ?_)
    | (with_reducible refine (foldl_otp _ _ _ fun _ _ => ?_).trans ?_)
    | dsimp -proj only | (simp -proj only [apply_ite State.otp, ite_self]; done) | split | simp -proj)

@[simp] theorem State.withdraw_otp (s : State) (t : Fin 64) : (State.withdraw s t).otp = s.otp := by
  unfold State.withdraw; (repeat' split) <;> simp -proj

@[simp] theorem doJobCancel_otp (t : Ticket) (tag : Byte) (s : State) : (doJobCancel t tag s).otp = s.otp := by
  unfold doJobCancel; (repeat' split) <;> simp -proj

@[simp] theorem State.hostsHwFail_otp (s : State) :
    (State.hostsHwFail s).otp = s.otp := by
  unfold State.hostsHwFail
  repeat' (first
    | with_reducible eq_refl | with_reducible exact mk_otp .. | with_reducible refine ite_otp ?_ ?_
    | (with_reducible refine (forAll_otp _ _ fun _ _ => ?_).trans ?_)
    | (with_reducible refine (foldl_otp _ _ _ fun _ _ => ?_).trans ?_)
    | dsimp -proj only | (simp -proj only [apply_ite State.otp, ite_self]; done) | split | simp -proj)

@[simp] theorem State.jobsHwFail_otp (s : State) (detail : Nat) : (State.jobsHwFail s detail).otp = s.otp := by
  unfold State.jobsHwFail
  repeat' (first
    | with_reducible eq_refl | with_reducible exact mk_otp .. | with_reducible refine ite_otp ?_ ?_
    | (with_reducible refine (forAll_otp _ _ fun _ _ => ?_).trans ?_)
    | (with_reducible refine (foldl_otp _ _ _ fun _ _ => ?_).trans ?_)
    | dsimp -proj only | (simp -proj only [apply_ite State.otp, ite_self]; done) | split | simp -proj)

@[simp] theorem doJobStatus_otp (t : Ticket) (tag : Byte) (release : Bool) (s : State) :
    (doJobStatus t tag release s).otp = s.otp := by
  unfold doJobStatus; (repeat' split) <;> simp -proj

@[simp] theorem doResultFetch_otp (t : Ticket) (tag : Byte) (release : Bool) (first_ count : Word) (s : State) :
    (doResultFetch t tag release first_ count s).otp = s.otp := by
  unfold doResultFetch
  extract_lets o
  split
  · simp -proj
  · repeat' (first | with_reducible refine ite_otp ?_ ?_ | (simp -proj; done) | split)

@[simp] theorem coresWrite_otp (s : State) (off : Nat) (v : Nat) : (coresWrite s off v).otp = s.otp := by
  unfold coresWrite; (repeat' split) <;> simp -proj

@[simp] theorem jobsWrite_otp (s : State) (off : Nat) (v : Nat) : (jobsWrite s off v).otp = s.otp := by
  unfold jobsWrite; (repeat' split) <;> simp -proj

@[simp] theorem State.updCam_otp (s : State) (k : Fin 6) (f : CamState → CamState) : (State.updCam s k f).otp = s.otp := by
  simp -proj [State.updCam]

@[simp] theorem headboxWrite_otp (s : State) (off : Nat) (v : Nat) : (headboxWrite s off v).otp = s.otp := by
  unfold headboxWrite
  repeat' (first
    | with_reducible eq_refl | with_reducible exact mk_otp .. | with_reducible refine ite_otp ?_ ?_
    | (with_reducible refine (forAll_otp _ _ fun _ _ => ?_).trans ?_)
    | (with_reducible refine (foldl_otp _ _ _ fun _ _ => ?_).trans ?_)
    | dsimp -proj only | (simp -proj only [apply_ite State.otp, ite_self]; done) | split | simp -proj)

@[simp] theorem State.discard_otp (s : State) (k : Fin 6) (cause : Nat) :
    (State.discard s k cause).otp = s.otp := by
  unfold State.discard
  split
  · exact (State.updSensor_otp _ _ _).trans (ite_otp (State.portDisarmed_otp _ _) rfl)
  · rfl

@[simp] theorem State.groupDone_otp (s : State) (k : Fin 6) : (State.groupDone s k).otp = s.otp := by
  unfold State.groupDone
  repeat' (first
    | with_reducible eq_refl | with_reducible exact mk_otp .. | with_reducible refine ite_otp ?_ ?_
    | (with_reducible refine (forAll_otp _ _ fun _ _ => ?_).trans ?_)
    | (with_reducible refine (foldl_otp _ _ _ fun _ _ => ?_).trans ?_)
    | dsimp -proj only | (simp -proj only [apply_ite State.otp, ite_self]; done) | split | simp -proj)

@[simp] theorem State.frameDone_otp (s : State) (k : Fin 6) (f : Incoming) : (State.frameDone s k f).otp = s.otp := by
  unfold State.frameDone
  extract_lets s1 s2 r s3
  have h : r.1.otp = s.otp :=
    (State.deliver_otp _ _ _ _ _).trans ((State.groupDone_otp _ _).trans (State.updSensor_otp _ _ _))
  exact (State.updSensor_otp _ _ _).trans (ite_otp ((State.portDisarmed_otp _ _).trans h) h)

@[simp] theorem State.frameEnd_otp (s : State) (k : Fin 6) : (State.frameEnd s k).otp = s.otp := by
  unfold State.frameEnd; (repeat' split) <;> simp -proj

@[simp] theorem State.startFrame_otp (s : State) (k : Fin 6) (fnum : Nat) : (State.startFrame s k fnum).otp = s.otp := by
  unfold State.startFrame
  repeat' (first
    | with_reducible eq_refl | with_reducible exact mk_otp .. | with_reducible refine ite_otp ?_ ?_
    | (with_reducible refine (forAll_otp _ _ fun _ _ => ?_).trans ?_)
    | (with_reducible refine (foldl_otp _ _ _ fun _ _ => ?_).trans ?_)
    | dsimp -proj only | (simp -proj only [apply_ite State.otp, ite_self]; done) | split | simp -proj)

@[simp] theorem doSensorConfig_otp (t : Ticket) (p : SnsCfgP) (s : State) : (doSensorConfig t p s).otp = s.otp := by
  unfold doSensorConfig
  refine ite_otp ?_ (ite_otp ?_ (ite_otp ?_ (ite_otp ?_ ?_))) <;> refine (State.reply_otp _ _ _ _).trans ?_
  · exact Eq.refl s.otp
  · exact Eq.refl s.otp
  · exact Eq.refl s.otp
  · exact Eq.refl s.otp
  · exact (State.updSensor_otp _ _ _).trans (State.updMem_otp _ _)

@[simp] theorem doSensorArm_otp (t : Ticket) (p : SnsArmP) (s : State) : (doSensorArm t p s).otp = s.otp := by
  unfold doSensorArm
  repeat' (first
    | with_reducible eq_refl | with_reducible exact mk_otp .. | with_reducible refine ite_otp ?_ ?_
    | (with_reducible refine (forAll_otp _ _ fun _ _ => ?_).trans ?_)
    | (with_reducible refine (foldl_otp _ _ _ fun _ _ => ?_).trans ?_)
    | dsimp -proj only | (simp -proj only [apply_ite State.otp, ite_self]; done) | split | simp -proj)

@[simp] theorem State.disarm_otp (s : State) (k : Fin 6) (after : Bool) : (State.disarm s k after).otp = s.otp := by
  unfold State.disarm
  exact ite_otp (State.updSensor_otp _ _ _)
    (ite_otp ((State.updSensor_otp _ _ _).trans (State.portDisarmed_otp _ _)) rfl)

@[simp] theorem doSensorDisarm_otp (t : Ticket) (mode : Byte) (s : State) : (doSensorDisarm t mode s).otp = s.otp := by
  unfold doSensorDisarm
  repeat' (first
    | with_reducible eq_refl | with_reducible exact mk_otp .. | with_reducible refine ite_otp ?_ ?_
    | (with_reducible refine (forAll_otp _ _ fun _ _ => ?_).trans ?_)
    | (with_reducible refine (foldl_otp _ _ _ fun _ _ => ?_).trans ?_)
    | dsimp -proj only | (simp -proj only [apply_ite State.otp, ite_self]; done) | split | simp -proj)

@[simp] theorem sensorsLatch_otp (s : State) (off : Nat) : (sensorsLatch s off).otp = s.otp := by
  unfold sensorsLatch; (repeat' split) <;> simp -proj

@[simp] theorem sensorsWrite_otp (s : State) (off : Nat) (v : Nat) : (sensorsWrite s off v).otp = s.otp := by
  unfold sensorsWrite; (repeat' split) <;> simp -proj

@[simp] theorem State.extend_otp (s : State) (n : Fin 8) (d : Bytes) : (State.extend s n d).otp = s.otp := by
  simp -proj [State.extend]

@[simp] theorem State.loadKeys_otp (s : State) : (State.loadKeys s).otp = s.otp := by
  unfold State.loadKeys
  repeat' (first
    | with_reducible eq_refl | with_reducible exact mk_otp .. | with_reducible refine ite_otp ?_ ?_
    | (with_reducible refine (forAll_otp _ _ fun _ _ => ?_).trans ?_)
    | (with_reducible refine (foldl_otp _ _ _ fun _ _ => ?_).trans ?_)
    | dsimp -proj only | (simp -proj only [apply_ite State.otp, ite_self]; done) | split | simp -proj)

@[simp] theorem State.fillDomains_otp (s : State) :
    (State.fillDomains s).otp = s.otp := by
  unfold State.fillDomains
  repeat' (first
    | with_reducible eq_refl | with_reducible exact mk_otp .. | with_reducible refine ite_otp ?_ ?_
    | (with_reducible refine (forAll_otp _ _ fun _ _ => ?_).trans ?_)
    | (with_reducible refine (foldl_otp _ _ _ fun _ _ => ?_).trans ?_)
    | dsimp -proj only | (simp -proj only [apply_ite State.otp, ite_self]; done) | split | simp -proj)

@[simp] theorem State.enrolWrite_otp (s : State) (p : Port) (v : Nat) : (s.enrolWrite p v).otp = s.otp := by
  unfold State.enrolWrite
  refine ite_otp rfl (ite_otp ?_ rfl)
  simp

@[simp] theorem State.reseed_otp (s : State) : (State.reseed s).otp = s.otp := by
  simp -proj [State.reseed]

@[simp] theorem State.weightFault_otp (s : State) (n : Fin 8) (k : Fin 3) (line : Nat) :
    (State.weightFault s n k line).otp = s.otp := by
  unfold State.weightFault
  repeat' (first
    | with_reducible eq_refl | with_reducible exact mk_otp .. | with_reducible refine ite_otp ?_ ?_
    | (with_reducible refine (forAll_otp _ _ fun _ _ => ?_).trans ?_)
    | (with_reducible refine (foldl_otp _ _ _ fun _ _ => ?_).trans ?_)
    | dsimp -proj only | (simp -proj only [apply_ite State.otp, ite_self]; done) | split | simp -proj)

@[simp] theorem State.attemptError_otp (s : State) (met : ErrAt) (tag : Fin 64) (j : Job) (mismatch : Bool) (region line : Nat) :
    (State.attemptError s met tag j mismatch region line).otp = s.otp := by
  unfold State.attemptError
  repeat' (first
    | with_reducible eq_refl | with_reducible exact mk_otp .. | with_reducible refine ite_otp ?_ ?_
    | (with_reducible refine (forAll_otp _ _ fun _ _ => ?_).trans ?_)
    | (with_reducible refine (foldl_otp _ _ _ fun _ _ => ?_).trans ?_)
    | dsimp -proj only | (simp -proj only [apply_ite State.otp, ite_self]; done) | split | simp -proj)

@[simp] theorem keysWrite_otp (s : State) (p : Port) (off : Nat) (v : Nat) : (keysWrite s p off v).otp = s.otp := by
  unfold keysWrite; (repeat' split) <;> simp -proj

@[simp] theorem State.toTb_otp (s : State) (st : TbSt) : (State.toTb s st).otp = s.otp := by
  unfold State.toTb
  repeat' (first
    | with_reducible eq_refl | with_reducible exact mk_otp .. | with_reducible refine ite_otp ?_ ?_
    | (with_reducible refine (forAll_otp _ _ fun _ _ => ?_).trans ?_)
    | (with_reducible refine (foldl_otp _ _ _ fun _ _ => ?_).trans ?_)
    | dsimp -proj only | (simp -proj only [apply_ite State.otp, ite_self]; done) | split | simp -proj)

@[simp] theorem State.useRef_otp (s : State) (r : Ref) : (State.useRef s r).otp = s.otp := by
  unfold State.useRef
  repeat' (first
    | with_reducible eq_refl | with_reducible exact mk_otp .. | with_reducible refine ite_otp ?_ ?_
    | (with_reducible refine (forAll_otp _ _ fun _ _ => ?_).trans ?_)
    | (with_reducible refine (foldl_otp _ _ _ fun _ _ => ?_).trans ?_)
    | dsimp -proj only | (simp -proj only [apply_ite State.otp, ite_self]; done) | split | simp -proj)

@[simp] theorem State.judgeRef_otp (s : State) : (State.judgeRef s).otp = s.otp := by
  simp -proj [State.judgeRef]

@[simp] theorem State.servo_otp (s : State) (o : Int) (at_ : Nat) :
    (State.servo s o at_).otp = s.otp := State.updTb_otp _ _

@[simp] theorem State.firstOffset_otp (s : State) (o : Int) (at_ : Nat) :
    (State.firstOffset s o at_).otp = s.otp := State.updTb_otp _ _

@[simp] theorem State.takeOffset_otp (s0 : State) (o : Int) (at_ : Nat) :
    (State.takeOffset s0 o at_).otp = s0.otp := by
  unfold State.takeOffset
  repeat' (first
    | with_reducible eq_refl | with_reducible exact mk_otp .. | with_reducible refine ite_otp ?_ ?_
    | (with_reducible refine (forAll_otp _ _ fun _ _ => ?_).trans ?_)
    | (with_reducible refine (foldl_otp _ _ _ fun _ _ => ?_).trans ?_)
    | dsimp -proj only | (simp -proj only [apply_ite State.otp, ite_self]; done) | split | simp -proj)

@[simp] theorem State.updPulse_otp (s : State) (p : Fin 4) (f : Pulse → Pulse) : (State.updPulse s p f).otp = s.otp := by
  simp -proj [State.updPulse]

@[simp] theorem State.stepTime_otp (s : State) :
    (State.stepTime s).otp = s.otp := by
  unfold State.stepTime
  repeat' (first
    | with_reducible eq_refl | with_reducible exact mk_otp .. | with_reducible refine ite_otp ?_ ?_
    | (with_reducible refine (forAll_otp _ _ fun _ _ => ?_).trans ?_)
    | (with_reducible refine (foldl_otp _ _ _ fun _ _ => ?_).trans ?_)
    | dsimp -proj only | (simp -proj only [apply_ite State.otp, ite_self]; done) | split | simp -proj)

@[simp] theorem State.stepReport_otp (s : State) :
    (State.stepReport s).otp = s.otp := by
  unfold State.stepReport
  repeat' (first
    | with_reducible eq_refl | with_reducible exact mk_otp .. | with_reducible refine ite_otp ?_ ?_
    | (with_reducible refine (forAll_otp _ _ fun _ _ => ?_).trans ?_)
    | (with_reducible refine (foldl_otp _ _ _ fun _ _ => ?_).trans ?_)
    | dsimp -proj only | (simp -proj only [apply_ite State.otp, ite_self]; done) | split | simp -proj)

@[simp] theorem State.loseRefs_otp (s : State) (ptp ppsi : Bool) :
    (State.loseRefs s ptp ppsi).otp = s.otp := by
  unfold State.loseRefs
  repeat' (first
    | with_reducible eq_refl | with_reducible exact mk_otp .. | with_reducible refine ite_otp ?_ ?_
    | (with_reducible refine (forAll_otp _ _ fun _ _ => ?_).trans ?_)
    | (with_reducible refine (foldl_otp _ _ _ fun _ _ => ?_).trans ?_)
    | dsimp -proj only | (simp -proj only [apply_ite State.otp, ite_self]; done) | split | simp -proj)

@[simp] theorem State.losePtp_otp (s : State) : (State.losePtp s).otp = s.otp := by
  simp -proj [State.losePtp]

@[simp] theorem State.losePpsi_otp (s : State) : (State.losePpsi s).otp = s.otp := by
  simp -proj [State.losePpsi]

@[simp] theorem State.updPtp_otp (s : State) (f : Ptp → Ptp) : (State.updPtp s f).otp = s.otp := by
  simp -proj [State.updPtp]

@[simp] theorem State.ptpDiscard_otp (s : State) : (State.ptpDiscard s).otp = s.otp := by
  simp -proj [State.ptpDiscard]

@[simp] theorem State.ptpMessage_otp (s : State) (m : PtpRx) (domain : Nat) (f : State → State) (h : ∀ s, (f s).otp = s.otp) :
    (State.ptpMessage s m domain f).otp = s.otp := by
  unfold State.ptpMessage
  repeat' (first
    | with_reducible eq_refl | with_reducible exact mk_otp .. | with_reducible refine ite_otp ?_ ?_
    | (with_reducible refine (forAll_otp _ _ fun _ _ => ?_).trans ?_)
    | (with_reducible refine (foldl_otp _ _ _ fun _ _ => ?_).trans ?_)
    | dsimp -proj only | (simp -proj only [apply_ite State.otp, ite_self]; done) | split | simp -proj [h])

@[simp] theorem State.announced_otp (s : State) (m : PtpAnnounce) :
    (State.announced s m).otp = s.otp := by
  unfold State.announced
  repeat' (first
    | with_reducible eq_refl | with_reducible exact mk_otp .. | with_reducible refine ite_otp ?_ ?_
    | (with_reducible refine (forAll_otp _ _ fun _ _ => ?_).trans ?_)
    | (with_reducible refine (foldl_otp _ _ _ fun _ _ => ?_).trans ?_)
    | dsimp -proj only | (simp -proj only [apply_ite State.otp, ite_self]; done) | split | simp -proj)

@[simp] theorem State.ptpSynced_otp (s : State) (rx origin : Int) (at_ : Nat) :
    (State.ptpSynced s rx origin at_).otp = s.otp := by
  unfold State.ptpSynced
  repeat' (first
    | with_reducible eq_refl | with_reducible exact mk_otp .. | with_reducible refine ite_otp ?_ ?_
    | (with_reducible refine (forAll_otp _ _ fun _ _ => ?_).trans ?_)
    | (with_reducible refine (foldl_otp _ _ _ fun _ _ => ?_).trans ?_)
    | dsimp -proj only | (simp -proj only [apply_ite State.otp, ite_self]; done) | split | simp -proj)

@[simp] theorem State.sendPtp_otp (s : State) (peer event : Bool) (bs : Bytes) :
    (State.sendPtp s peer event bs).otp = s.otp := by
  unfold State.sendPtp
  repeat' (first
    | with_reducible eq_refl | with_reducible exact mk_otp .. | with_reducible refine ite_otp ?_ ?_
    | (with_reducible refine (forAll_otp _ _ fun _ _ => ?_).trans ?_)
    | (with_reducible refine (foldl_otp _ _ _ fun _ _ => ?_).trans ?_)
    | dsimp -proj only | (simp -proj only [apply_ite State.otp, ite_self]; done) | split | simp -proj)

@[simp] theorem State.pdelayIs_otp (s : State) (d : Int) : (State.pdelayIs s d).otp = s.otp := by
  simp -proj [State.pdelayIs]

@[simp] theorem doTimeGet_otp (t : Ticket) (s : State) : (doTimeGet t s).otp = s.otp := by
  unfold doTimeGet
  repeat' (first
    | with_reducible eq_refl | with_reducible exact mk_otp .. | with_reducible refine ite_otp ?_ ?_
    | (with_reducible refine (forAll_otp _ _ fun _ _ => ?_).trans ?_)
    | (with_reducible refine (foldl_otp _ _ _ fun _ _ => ?_).trans ?_)
    | dsimp -proj only | (simp -proj only [apply_ite State.otp, ite_self]; done) | split | simp -proj)

@[simp] theorem State.selectRef_otp (s : State) (n : TbSettings) : (State.selectRef s n).otp = s.otp := by
  unfold State.selectRef
  repeat' (first
    | with_reducible eq_refl | with_reducible exact mk_otp .. | with_reducible refine ite_otp ?_ ?_
    | (with_reducible refine (forAll_otp _ _ fun _ _ => ?_).trans ?_)
    | (with_reducible refine (foldl_otp _ _ _ fun _ _ => ?_).trans ?_)
    | dsimp -proj only | (simp -proj only [apply_ite State.otp, ite_self]; done) | split | simp -proj)

@[simp] theorem doTimeRefSelect_otp (t : Ticket) (p : TimeRefP) (s : State) : (doTimeRefSelect t p s).otp = s.otp := by
  unfold doTimeRefSelect; (repeat' split) <;> simp -proj

@[simp] theorem doPulseConfig_otp (t : Ticket) (p : PulseP) (s : State) : (doPulseConfig t p s).otp = s.otp := by
  unfold doPulseConfig
  repeat' (first
    | with_reducible eq_refl | with_reducible exact mk_otp .. | with_reducible refine ite_otp ?_ ?_
    | (with_reducible refine (forAll_otp _ _ fun _ _ => ?_).trans ?_)
    | (with_reducible refine (foldl_otp _ _ _ fun _ _ => ?_).trans ?_)
    | dsimp -proj only | (simp -proj only [apply_ite State.otp, ite_self]; done) | split | simp -proj)

@[simp] theorem State.timeStop_otp (s : State) : (State.timeStop s).otp = s.otp := by
  simp -proj [State.timeStop]

@[simp] theorem State.timeLoad_otp (s : State) : (State.timeLoad s).otp = s.otp := by
  unfold State.timeLoad; split <;> simp -proj

@[simp] theorem tbLatch_otp (s : State) (off : Nat) : (tbLatch s off).otp = s.otp := by
  unfold tbLatch; split <;> simp -proj

@[simp] theorem tbWrite_otp (s : State) (off : Nat) (v : Nat) : (tbWrite s off v).otp = s.otp := by
  unfold tbWrite; (repeat' split) <;> simp -proj

@[simp] theorem State.thermalEvent_otp (s : State) (cause : Nat) (n : Fin 12) :
    (State.thermalEvent s cause n).otp = s.otp := by
  simp -proj [State.thermalEvent]

@[simp] theorem State.linkErr_otp (s : State) (source : Nat) (snapshot : Nat) :
    (State.linkErr s source snapshot).otp = s.otp := by
  simp -proj [State.linkErr]

@[simp] theorem State.coresOff_otp (s : State) : (State.coresOff s).otp = s.otp := by
  simp -proj [State.coresOff]

@[simp] theorem State.shutdown_otp (s : State) (cause : Nat) : (State.shutdown s cause).otp = s.otp := by
  unfold State.shutdown; dsimp -proj only; split <;> simp -proj

@[simp] theorem State.thermalShutdown_otp (s : State) (n : Fin 12) : (State.thermalShutdown s n).otp = s.otp := by
  simp -proj [State.thermalShutdown]

@[simp] theorem State.limitSet_otp (s : State) (n : Fin 12) : (State.limitSet s n).otp = s.otp := by
  simp -proj [State.limitSet]

@[simp] theorem State.judgeTemps_otp (s : State) (n : Fin 12) : (State.judgeTemps s n).otp = s.otp := by
  unfold State.judgeTemps
  repeat' (first
    | with_reducible eq_refl | with_reducible exact mk_otp .. | with_reducible refine ite_otp ?_ ?_
    | (with_reducible refine (forAll_otp _ _ fun _ _ => ?_).trans ?_)
    | (with_reducible refine (foldl_otp _ _ _ fun _ _ => ?_).trans ?_)
    | dsimp -proj only | (simp -proj only [apply_ite State.otp, ite_self]; done) | split | simp -proj)

@[simp] theorem State.sensorFails_otp (s : State) (n : Fin 12) : (State.sensorFails s n).otp = s.otp := by
  unfold State.sensorFails
  repeat' (first
    | with_reducible eq_refl | with_reducible exact mk_otp .. | with_reducible refine ite_otp ?_ ?_
    | (with_reducible refine (forAll_otp _ _ fun _ _ => ?_).trans ?_)
    | (with_reducible refine (foldl_otp _ _ _ fun _ _ => ?_).trans ?_)
    | dsimp -proj only | (simp -proj only [apply_ite State.otp, ite_self]; done) | split | simp -proj)

@[simp] theorem State.avsWrite_otp (s : State) (mv : Nat) : (State.avsWrite s mv).otp = s.otp := by
  simp -proj [State.avsWrite]

@[simp] theorem State.avsFail_otp (s : State) : (State.avsFail s).otp = s.otp := by
  unfold State.avsFail
  repeat' (first
    | with_reducible eq_refl | with_reducible exact mk_otp .. | with_reducible refine ite_otp ?_ ?_
    | (with_reducible refine (forAll_otp _ _ fun _ _ => ?_).trans ?_)
    | (with_reducible refine (foldl_otp _ _ _ fun _ _ => ?_).trans ?_)
    | dsimp -proj only | (simp -proj only [apply_ite State.otp, ite_self]; done) | split | simp -proj)

@[simp] theorem State.avsOk_otp (s : State) (kind : Nat) (value : Nat) (alert : Bool) :
    (State.avsOk s kind value alert).otp = s.otp := by
  simp -proj [State.avsOk]

@[simp] theorem State.rateEvent_otp (s : State) (low : Bool) (cause : Nat) : (State.rateEvent s low cause).otp = s.otp := by
  simp -proj [State.rateEvent]

@[simp] theorem State.judgeRate_otp (s : State) (r : Option (Nat × Nat)) (blocked : Nat) (start : Nat) :
    (State.judgeRate s r blocked start).otp = s.otp := by
  unfold State.judgeRate
  repeat' (first
    | with_reducible eq_refl | with_reducible exact mk_otp .. | with_reducible refine ite_otp ?_ ?_
    | (with_reducible refine (forAll_otp _ _ fun _ _ => ?_).trans ?_)
    | (with_reducible refine (foldl_otp _ _ _ fun _ _ => ?_).trans ?_)
    | dsimp -proj only | (simp -proj only [apply_ite State.otp, ite_self]; done) | split | simp -proj)

@[simp] theorem State.fieldClockStop_otp (s : State) :
    (State.fieldClockStop s).otp = s.otp := by
  unfold State.fieldClockStop
  repeat' (first
    | with_reducible eq_refl | with_reducible exact mk_otp .. | with_reducible refine ite_otp ?_ ?_
    | (with_reducible refine (forAll_otp _ _ fun _ _ => ?_).trans ?_)
    | (with_reducible refine (foldl_otp _ _ _ fun _ _ => ?_).trans ?_)
    | dsimp -proj only | (simp -proj only [apply_ite State.otp, ite_self]; done) | split | simp -proj)

@[simp] theorem State.clockFailure_otp (s : State) (d02 : Bool) : (State.clockFailure s d02).otp = s.otp := by
  unfold State.clockFailure; (repeat' split) <;> simp -proj

@[simp] theorem State.clocksReady_otp (s : State) :
    (State.clocksReady s).otp = s.otp := by
  unfold State.clocksReady
  repeat' (first
    | with_reducible eq_refl | with_reducible exact mk_otp .. | with_reducible refine ite_otp ?_ ?_
    | (with_reducible refine (forAll_otp _ _ fun _ _ => ?_).trans ?_)
    | (with_reducible refine (foldl_otp _ _ _ fun _ _ => ?_).trans ?_)
    | dsimp -proj only | (simp -proj only [apply_ite State.otp, ite_self]; done) | split | simp -proj)

@[simp] theorem thermWrite_otp (s : State) (off : Nat) (v : Nat) : (thermWrite s off v).otp = s.otp := by
  unfold thermWrite; (repeat' split) <;> simp -proj

@[simp] theorem fabricWrite_otp (s : State) (off : Nat) (v : Nat) : (fabricWrite s off v).otp = s.otp := by
  unfold fabricWrite; (repeat' split) <;> simp -proj

@[simp] theorem State.updSlot_otp (s : State) (i : Fin 32) (f : RSlot → RSlot) : (State.updSlot s i f).otp = s.otp := by
  simp -proj [State.updSlot]

@[simp] theorem State.addEntry_otp (s : State) (i : Fin 32) (e : Bytes) : (State.addEntry s i e).otp = s.otp := by
  simp -proj [State.addEntry]

@[simp] theorem State.report_otp (s : State) (i : Fin 32) (q : SendQ) (result : Nat) :
    (State.report s i q result).otp = s.otp := by
  simp -proj [State.report]

@[simp] theorem State.dropSends_otp (s : State) (i : Fin 32) (result : Nat) : (State.dropSends s i result).otp = s.otp := by
  simp -proj [State.dropSends]

@[simp] theorem State.admitEvent_otp (s : State) (i : Fin 32) (result : Nat) :
    (State.admitEvent s i result).otp = s.otp := by
  simp -proj [State.admitEvent]

@[simp] theorem State.interfEvent_otp (s : State) (old : Nat) (new_ : Nat) (count : Nat) (evm : Nat) :
    (State.interfEvent s old new_ count evm).otp = s.otp := by
  simp -proj [State.interfEvent]

@[simp] theorem State.interference_otp (s : State) (ed : Int) (locked : Bool) :
    (State.interference s ed locked).otp = s.otp := by
  unfold State.interference
  repeat' (first
    | with_reducible eq_refl | with_reducible exact mk_otp .. | with_reducible refine ite_otp ?_ ?_
    | (with_reducible refine (forAll_otp _ _ fun _ _ => ?_).trans ?_)
    | (with_reducible refine (foldl_otp _ _ _ fun _ _ => ?_).trans ?_)
    | dsimp -proj only | (simp -proj only [apply_ite State.otp, ite_self]; done) | split | simp -proj)

@[simp] theorem State.dropMisfits_otp (s : State) : (State.dropMisfits s).otp = s.otp := by
  simp -proj [State.dropMisfits]

@[simp] theorem State.beaconTick_otp (s : State) (ed : Int) (locked : Bool) :
    (State.beaconTick s ed locked).otp = s.otp := by
  unfold State.beaconTick; (repeat' split) <;> simp -proj

@[simp] theorem State.tookFc_otp (s : State) : (State.tookFc s).otp = s.otp := by
  unfold State.tookFc
  repeat' (first
    | with_reducible eq_refl | with_reducible exact mk_otp .. | with_reducible refine ite_otp ?_ ?_
    | (with_reducible refine (forAll_otp _ _ fun _ _ => ?_).trans ?_)
    | (with_reducible refine (foldl_otp _ _ _ fun _ _ => ?_).trans ?_)
    | dsimp -proj only | (simp -proj only [apply_ite State.otp, ite_self]; done) | split | simp -proj)

@[simp] theorem State.queuedFrame_otp (s : State) (i : Fin 32) (ftype : Nat) (q : SendQ) :
    ((State.queuedFrame s i ftype q).1).otp = s.otp := by
  unfold State.queuedFrame
  repeat' (first
    | with_reducible eq_refl | with_reducible exact mk_otp .. | with_reducible refine ite_otp ?_ ?_
    | (with_reducible refine (forAll_otp _ _ fun _ _ => ?_).trans ?_)
    | (with_reducible refine (foldl_otp _ _ _ fun _ _ => ?_).trans ?_)
    | dsimp only | (simp -proj only [apply_ite State.otp, ite_self]; done) | split | simp -proj)

@[simp] theorem State.heard_otp (s : State) (i : Fin 32) : (State.heard s i).otp = s.otp := by
  simp -proj [State.heard]

@[simp] theorem State.coordAck_otp (s : State) (seq : Nat) : (State.coordAck s seq).otp = s.otp := by
  unfold State.coordAck
  repeat' (first
    | with_reducible eq_refl | with_reducible exact mk_otp .. | with_reducible refine ite_otp ?_ ?_
    | (with_reducible refine (forAll_otp _ _ fun _ _ => ?_).trans ?_)
    | (with_reducible refine (foldl_otp _ _ _ fun _ _ => ?_).trans ?_)
    | dsimp -proj only | (simp -proj only [apply_ite State.otp, ite_self]; done) | split | simp -proj)

@[simp] theorem State.radioRx_otp (s : State) (rx : RadioRx) (t : Bool) (f : State → State) (h : ∀ s, (f s).otp = s.otp) :
    (s.radioRx rx t f).otp = s.otp := by
  unfold State.radioRx
  exact ite_otp (ite_otp rfl (h _)) rfl

@[simp] theorem State.micFailed_otp (s : State) : (State.micFailed s).otp = s.otp := by
  simp -proj [State.micFailed]

@[simp] theorem State.replayed_otp (s : State) : (State.replayed s).otp = s.otp := by
  simp -proj [State.replayed]

@[simp] theorem State.joinRefused_otp (s : State) (i : Fin 32) : (State.joinRefused s i).otp = s.otp := by
  unfold State.joinRefused
  repeat' (first
    | with_reducible eq_refl | with_reducible exact mk_otp .. | with_reducible refine ite_otp ?_ ?_
    | (with_reducible refine (forAll_otp _ _ fun _ _ => ?_).trans ?_)
    | (with_reducible refine (foldl_otp _ _ _ fun _ _ => ?_).trans ?_)
    | dsimp -proj only | (simp -proj only [apply_ite State.otp, ite_self]; done) | split | simp -proj)

@[simp] theorem doRadioConfig_otp (t : Ticket) (p : RadioP) (s : State) : (doRadioConfig t p s).otp = s.otp := by
  unfold doRadioConfig
  repeat' (first
    | with_reducible eq_refl | with_reducible exact mk_otp .. | with_reducible refine ite_otp ?_ ?_
    | (with_reducible refine (forAll_otp _ _ fun _ _ => ?_).trans ?_)
    | (with_reducible refine (foldl_otp _ _ _ fun _ _ => ?_).trans ?_)
    | dsimp -proj only | (simp -proj only [apply_ite State.otp, ite_self]; done) | split | simp -proj)

@[simp] theorem doTagAdmit_otp (t : Ticket) (i : Fin 32) (p : AdmitP) (s : State) : (doTagAdmit t i p s).otp = s.otp := by
  unfold doTagAdmit
  repeat' (first
    | with_reducible eq_refl | with_reducible exact mk_otp .. | with_reducible refine ite_otp ?_ ?_
    | (with_reducible refine (forAll_otp _ _ fun _ _ => ?_).trans ?_)
    | (with_reducible refine (foldl_otp _ _ _ fun _ _ => ?_).trans ?_)
    | dsimp -proj only | (simp -proj only [apply_ite State.otp, ite_self]; done) | split | simp -proj)

@[simp] theorem doTagExpel_otp (t : Ticket) (i : Fin 32) (s : State) : (doTagExpel t i s).otp = s.otp := by
  unfold doTagExpel
  repeat' (first
    | with_reducible eq_refl | with_reducible exact mk_otp .. | with_reducible refine ite_otp ?_ ?_
    | (with_reducible refine (forAll_otp _ _ fun _ _ => ?_).trans ?_)
    | (with_reducible refine (foldl_otp _ _ _ fun _ _ => ?_).trans ?_)
    | dsimp -proj only | (simp -proj only [apply_ite State.otp, ite_self]; done) | split | simp -proj)

@[simp] theorem doTagSend_otp (t : Ticket) (i : Fin 32) (p : SendP) (s : State) : (doTagSend t i p s).otp = s.otp := by
  unfold doTagSend
  repeat' (first
    | with_reducible eq_refl | with_reducible exact mk_otp .. | with_reducible refine ite_otp ?_ ?_
    | (with_reducible refine (forAll_otp _ _ fun _ _ => ?_).trans ?_)
    | (with_reducible refine (foldl_otp _ _ _ fun _ _ => ?_).trans ?_)
    | dsimp -proj only | (simp -proj only [apply_ite State.otp, ite_self]; done) | split | simp -proj)

@[simp] theorem doTagEventsFetch_otp (t : Ticket) (i : Fin 32) (maxWords : Nat) (s : State) :
    (doTagEventsFetch t i maxWords s).otp = s.otp := by
  unfold doTagEventsFetch; split <;> simp -proj

@[simp] theorem State.tagSlotLoss_otp (s : State) (i : Fin 32) : (State.tagSlotLoss s i).otp = s.otp := by
  simp -proj [State.tagSlotLoss]

@[simp] theorem radioWrite_otp (s : State) (off : Nat) (v : Nat) : (radioWrite s off v).otp = s.otp := by
  unfold radioWrite; split <;> simp -proj

@[simp] theorem State.radioStart_otp (s : State) : (State.radioStart s).otp = s.otp := by
  unfold State.radioStart
  repeat' (first
    | with_reducible eq_refl | with_reducible exact mk_otp .. | with_reducible refine ite_otp ?_ ?_
    | (with_reducible refine (forAll_otp _ _ fun _ _ => ?_).trans ?_)
    | (with_reducible refine (foldl_otp _ _ _ fun _ _ => ?_).trans ?_)
    | dsimp -proj only | (simp -proj only [apply_ite State.otp, ite_self]; done) | split | simp -proj)

@[simp] theorem State.enterRecovery_otp (s : State) : (State.enterRecovery s).otp = s.otp := by
  simp -proj [State.enterRecovery]

@[simp] theorem State.coresIdle_otp (s : State) :
    (State.coresIdle s).otp = s.otp := by
  unfold State.coresIdle
  repeat' (first
    | with_reducible eq_refl | with_reducible exact mk_otp .. | with_reducible refine ite_otp ?_ ?_
    | (with_reducible refine (forAll_otp _ _ fun _ _ => ?_).trans ?_)
    | (with_reducible refine (foldl_otp _ _ _ fun _ _ => ?_).trans ?_)
    | dsimp -proj only | (simp -proj only [apply_ite State.otp, ite_self]; done) | split | simp -proj)

@[simp] theorem State.makeDomains_otp (s : State) : (State.makeDomains s).otp = s.otp := by
  simp -proj [State.makeDomains]

@[simp] theorem State.lossOf_otp (s : State) (cls : Nat) (idx : Nat) : ((State.lossOf s cls idx).1).otp = s.otp := by
  unfold State.lossOf
  repeat' (first
    | with_reducible eq_refl | with_reducible exact mk_otp .. | with_reducible refine ite_otp ?_ ?_
    | (with_reducible refine (forAll_otp _ _ fun _ _ => ?_).trans ?_)
    | (with_reducible refine (foldl_otp _ _ _ fun _ _ => ?_).trans ?_)
    | dsimp only | (simp -proj only [apply_ite State.otp, ite_self]; done) | split | simp -proj)

@[simp] theorem State.endLease_otp (s : State) (cls : Nat) (idx : Nat) (expired : Bool) :
    ((State.endLease s cls idx expired).1).otp = s.otp := by
  unfold State.endLease; split <;> simp -proj

@[simp] theorem State.releaseAll_otp (s : State) (p : Port) : (State.releaseAll s p).otp = s.otp := by
  unfold State.releaseAll
  repeat' (first
    | with_reducible eq_refl | with_reducible exact mk_otp .. | with_reducible refine ite_otp ?_ ?_
    | (with_reducible refine (forAll_otp _ _ fun _ _ => ?_).trans ?_)
    | (with_reducible refine (foldl_otp _ _ _ fun _ _ => ?_).trans ?_)
    | dsimp -proj only | (simp -proj only [apply_ite State.otp, ite_self]; done) | split | simp -proj)

@[simp] theorem State.expire_otp (s : State) (cls : Nat) (idx : Nat) : (State.expire s cls idx).otp = s.otp := by
  unfold State.expire; (repeat' split) <;> simp -proj

@[simp] theorem State.hold_otp (s : State) (p : Port) (cls : Nat) (idx : Nat) (ms : Nat) :
    (State.hold s p cls idx ms).otp = s.otp := by
  simp -proj [State.hold]

@[simp] theorem doLeaseTake_otp (t : Ticket) (p : LeaseP) (s : State) : (doLeaseTake t p s).otp = s.otp := by
  unfold doLeaseTake
  repeat' (first
    | with_reducible eq_refl | with_reducible exact mk_otp .. | with_reducible refine ite_otp ?_ ?_
    | (with_reducible refine (forAll_otp _ _ fun _ _ => ?_).trans ?_)
    | (with_reducible refine (foldl_otp _ _ _ fun _ _ => ?_).trans ?_)
    | dsimp -proj only | (simp -proj only [apply_ite State.otp, ite_self]; done) | split | simp -proj)

@[simp] theorem doLeaseRenew_otp (t : Ticket) (p : LeaseP) (s : State) : (doLeaseRenew t p s).otp = s.otp := by
  unfold doLeaseRenew
  repeat' (first
    | with_reducible eq_refl | with_reducible exact mk_otp .. | with_reducible refine ite_otp ?_ ?_
    | (with_reducible refine (forAll_otp _ _ fun _ _ => ?_).trans ?_)
    | (with_reducible refine (foldl_otp _ _ _ fun _ _ => ?_).trans ?_)
    | dsimp -proj only | (simp -proj only [apply_ite State.otp, ite_self]; done) | split | simp -proj)

@[simp] theorem doLeaseRelease_otp (t : Ticket) (s : State) : (doLeaseRelease t s).otp = s.otp := by
  unfold doLeaseRelease
  repeat' (first
    | with_reducible eq_refl | with_reducible exact mk_otp .. | with_reducible refine ite_otp ?_ ?_
    | (with_reducible refine (forAll_otp _ _ fun _ _ => ?_).trans ?_)
    | (with_reducible refine (foldl_otp _ _ _ fun _ _ => ?_).trans ?_)
    | dsimp -proj only | (simp -proj only [apply_ite State.otp, ite_self]; done) | split | simp -proj)

@[simp] theorem doLeaseQuery_otp (t : Ticket) (s : State) : (doLeaseQuery t s).otp = s.otp := by
  simp -proj [doLeaseQuery]

@[simp] theorem State.endSession_otp (s : State) (p : Port) : (State.endSession s p).otp = s.otp := by
  unfold State.endSession; (repeat' split) <;> simp -proj

@[simp] theorem State.finish_otp (s : State) : (State.finish s).otp = s.otp := by
  unfold State.finish
  repeat' (first
    | with_reducible eq_refl | with_reducible exact mk_otp .. | with_reducible refine ite_otp ?_ ?_
    | (with_reducible refine (forAll_otp _ _ fun _ _ => ?_).trans ?_)
    | (with_reducible refine (foldl_otp _ _ _ fun _ _ => ?_).trans ?_)
    | dsimp -proj only | (simp -proj only [apply_ite State.otp, ite_self]; done) | split | simp -proj)

@[simp] theorem doHello_otp (t : Ticket) (s : State) : (doHello t s).otp = s.otp := by
  simp -proj [doHello]

@[simp] theorem doOpenSession_otp (t : Ticket) (q : OpenP) (s : State) : (doOpenSession t q s).otp = s.otp := by
  unfold doOpenSession
  repeat' (first
    | with_reducible eq_refl | with_reducible exact mk_otp .. | with_reducible refine ite_otp ?_ ?_
    | (with_reducible refine (forAll_otp _ _ fun _ _ => ?_).trans ?_)
    | (with_reducible refine (foldl_otp _ _ _ fun _ _ => ?_).trans ?_)
    | dsimp -proj only | (simp -proj only [apply_ite State.otp, ite_self]; done) | split | simp -proj)

@[simp] theorem doCloseSession_otp (t : Ticket) (s : State) : (doCloseSession t s).otp = s.otp := by
  unfold doCloseSession; (repeat' split) <;> simp -proj

@[simp] theorem doPing_otp (t : Ticket) (bytes : Bytes) (s : State) : (doPing t bytes s).otp = s.otp := by
  unfold doPing; split <;> simp -proj

@[simp] theorem doEventSubscribe_otp (t : Ticket) (mask : Word) (enc : Bool) (s : State) :
    (doEventSubscribe t mask enc s).otp = s.otp := by
  unfold doEventSubscribe; (repeat' split) <;> simp -proj

@[simp] theorem doGetWatermark_otp (t : Ticket) (nonce : Bytes) (s : State) : (doGetWatermark t nonce s).otp = s.otp := by
  simp -proj [doGetWatermark]

@[simp] theorem doGetCerts_otp (t : Ticket) (offset : Word) (length : Word) (s : State) :
    (doGetCerts t offset length s).otp = s.otp := by
  unfold doGetCerts
  repeat' (first
    | with_reducible eq_refl | with_reducible exact mk_otp .. | with_reducible refine ite_otp ?_ ?_
    | (with_reducible refine (forAll_otp _ _ fun _ _ => ?_).trans ?_)
    | (with_reducible refine (foldl_otp _ _ _ fun _ _ => ?_).trans ?_)
    | dsimp -proj only | (simp -proj only [apply_ite State.otp, ite_self]; done) | split | simp -proj)

@[simp] theorem State.doe_otp (s : State) (bs : Bytes) : (State.doe s bs).otp = s.otp := by
  unfold State.doe; split <;> simp -proj

@[simp] theorem State.stageReply_otp (s : State) (t : Ticket) (status : Nat) (written : Nat) :
    (State.stageReply s t status written).otp = s.otp := by
  simp -proj [State.stageReply]

@[simp] theorem State.stageImage_otp (s : State) (k : Fin 6) (p : StageP) : ((State.stageImage s k p).1).otp = s.otp := by
  unfold State.stageImage
  repeat' (first
    | with_reducible eq_refl | with_reducible exact mk_otp .. | with_reducible refine ite_otp ?_ ?_
    | (with_reducible refine (forAll_otp _ _ fun _ _ => ?_).trans ?_)
    | (with_reducible refine (foldl_otp _ _ _ fun _ _ => ?_).trans ?_)
    | dsimp only | (simp -proj only [apply_ite State.otp, ite_self]; done) | split | simp -proj)

@[simp] theorem State.stageToken_otp (s : State) (p : StageP) : ((State.stageToken s p).1).otp = s.otp := by
  unfold State.stageToken
  repeat' (first
    | with_reducible eq_refl | with_reducible exact mk_otp .. | with_reducible refine ite_otp ?_ ?_
    | (with_reducible refine (forAll_otp _ _ fun _ _ => ?_).trans ?_)
    | (with_reducible refine (foldl_otp _ _ _ fun _ _ => ?_).trans ?_)
    | dsimp only | (simp -proj only [apply_ite State.otp, ite_self]; done) | split | simp -proj)

@[simp] theorem doFwStage_otp (t : Ticket) (p : StageP) (s : State) : (doFwStage t p s).otp = s.otp := by
  unfold doFwStage
  refine ite_otp (State.reply_otp _ _ _ _) (ite_otp (State.reply_otp _ _ _ _) (ite_otp (State.reply_otp _ _ _ _)
    (ite_otp (State.reply_otp _ _ _ _) (ite_otp (State.reply_otp _ _ _ _) ?_))))
  simp only [State.stageReply_otp]
  have : ∀ r : State × Nat, r.1.otp = s.otp → (if p.close then r.1.closeStage else r.1).otp = s.otp := fun r h =>
    ite_otp (by simpa using h) h
  refine this _ ?_
  split
  · rfl
  · split
    · simp
    · simp

@[simp] theorem State.commitDone_otp (s : State) : (State.commitDone s).otp = s.otp := by
  unfold State.commitDone; split <;> simp -proj

@[simp] theorem doFwCommit_otp (t : Ticket) (slot : Byte) (token : Bool) (s0 : State) :
    (doFwCommit t slot token s0).otp = s0.otp := by
  unfold doFwCommit
  repeat' (first
    | with_reducible eq_refl | with_reducible exact mk_otp .. | with_reducible refine ite_otp ?_ ?_
    | (with_reducible refine (forAll_otp _ _ fun _ _ => ?_).trans ?_)
    | (with_reducible refine (foldl_otp _ _ _ fun _ _ => ?_).trans ?_)
    | dsimp -proj only | (simp -proj only [apply_ite State.otp, ite_self]; done) | split | simp -proj)

@[simp] theorem doResetDevice_otp (t : Ticket) (delay : Word) (s : State) : (doResetDevice t delay s).otp = s.otp := by
  unfold doResetDevice; (repeat' split) <;> simp -proj

@[simp] theorem State.netWrite_otp (s : State) (f : NetCfg → NetCfg) : (State.netWrite s f).otp = s.otp := by
  simp -proj [State.netWrite]

@[simp] theorem ownersWrite_otp (s : State) (off : Nat) (v : Nat) : (ownersWrite s off v).otp = s.otp := by
  unfold ownersWrite; (repeat' split) <;> simp -proj

@[simp] theorem State.regLatch_otp (s : State) (addr : Nat) : (State.regLatch s addr).otp = s.otp := by
  unfold State.regLatch; split <;> simp -proj

@[simp] theorem State.regPut_otp (s : State) (p : Port) (addr : Nat) (v : Nat) : (State.regPut s p addr v).otp = s.otp := by
  unfold State.regPut
  repeat' (first
    | with_reducible eq_refl | with_reducible exact mk_otp .. | with_reducible refine ite_otp ?_ ?_
    | (with_reducible refine (forAll_otp _ _ fun _ _ => ?_).trans ?_)
    | (with_reducible refine (foldl_otp _ _ _ fun _ _ => ?_).trans ?_)
    | dsimp -proj only | (simp -proj only [apply_ite State.otp, ite_self]; done) | split | simp -proj)

@[simp] theorem State.tryWrites_otp (s : State) (p : Port) (l : List (Nat × Nat)) : (s.tryWrites p l).1.otp = s.otp := by
  induction l generalizing s with
  | nil => rfl
  | cons w ws ih => exact (ih _).trans (s.regPut_otp _ _ _)

@[simp] theorem State.noteCam_otp (s : State) (p : Port) (l : List (Nat × Nat)) (a : State) :
    (s.noteCam p l a).otp = a.otp := by
  induction l generalizing s a with
  | nil => rfl
  | cons w ws ih =>
    refine (ih _ _).trans ?_
    dsimp only
    split
    · exact ite_otp rfl (State.updCam_otp _ _ _)
    · rfl

@[simp] theorem State.regWrites_otp (s : State) (p : Port) (cls : Nat) (idx : Nat) (ws : List (Nat × Nat)) :
    ((State.regWrites s p cls idx ws).1).otp = s.otp := by
  unfold State.regWrites
  repeat' (first
    | with_reducible eq_refl | with_reducible exact mk_otp .. | with_reducible refine ite_otp ?_ ?_
    | (with_reducible refine (forAll_otp _ _ fun _ _ => ?_).trans ?_)
    | (with_reducible refine (foldl_otp _ _ _ fun _ _ => ?_).trans ?_)
    | dsimp only | (simp -proj only [apply_ite State.otp, ite_self]; done) | split | simp -proj)

@[simp] theorem State.regReads_otp (s : State) (l : List Nat) : (s.regReads l).1.otp = s.otp := by
  induction l generalizing s with
  | nil => rfl
  | cons w ws ih => exact (ih _).trans (s.regLatch_otp _)

@[simp] theorem doRegRead_otp (t : Ticket) (addr : Word) (count : Word) (s : State) :
    (doRegRead t addr count s).otp = s.otp := by
  unfold doRegRead; split <;> simp -proj

@[simp] theorem doRegWrite_otp (t : Ticket) (w : RegWriteP) (s : State) : (doRegWrite t w s).otp = s.otp := by
  unfold doRegWrite; split <;> simp -proj

@[simp] theorem doRegModify_otp (t : Ticket) (addr : Word) (mask : Word) (value : Word) (s : State) :
    (doRegModify t addr mask value s).otp = s.otp := by
  unfold doRegModify
  repeat' (first
    | with_reducible eq_refl | with_reducible exact mk_otp .. | with_reducible refine ite_otp ?_ ?_
    | (with_reducible refine (forAll_otp _ _ fun _ _ => ?_).trans ?_)
    | (with_reducible refine (foldl_otp _ _ _ fun _ _ => ?_).trans ?_)
    | dsimp -proj only | (simp -proj only [apply_ite State.otp, ite_self]; done) | split | simp -proj)

@[simp] theorem serveLinkTest_otp (t : Ticket) (p : LinkStartP) (s : State) : (serveLinkTest t p s).otp = s.otp := by
  unfold serveLinkTest
  repeat' (first
    | with_reducible eq_refl | with_reducible exact mk_otp .. | with_reducible refine ite_otp ?_ ?_
    | (with_reducible refine (forAll_otp _ _ fun _ _ => ?_).trans ?_)
    | (with_reducible refine (foldl_otp _ _ _ fun _ _ => ?_).trans ?_)
    | dsimp -proj only | (simp -proj only [apply_ite State.otp, ite_self]; done) | split | simp -proj)

@[simp] theorem perform_otp (t : Ticket) (c : Cmd) (s : State) : (perform t c s).otp = s.otp := by
  unfold perform; split <;> simp -proj

@[simp] theorem State.turnAway_otp (s : State) (t : Ticket) (c : Cmd) (e : Nat) :
    (State.turnAway s t c e).otp = s.otp := by
  unfold State.turnAway
  repeat' (first
    | with_reducible eq_refl | with_reducible exact mk_otp .. | with_reducible refine ite_otp ?_ ?_
    | (with_reducible refine (forAll_otp _ _ fun _ _ => ?_).trans ?_)
    | (with_reducible refine (foldl_otp _ _ _ fun _ _ => ?_).trans ?_)
    | dsimp -proj only | (simp -proj only [apply_ite State.otp, ite_self]; done) | split | simp -proj)

@[simp] theorem State.act_otp (s : State) (a : Arrival) : (State.act s a).otp = s.otp := by
  unfold State.act
  repeat' (first
    | with_reducible eq_refl | with_reducible exact mk_otp .. | with_reducible refine ite_otp ?_ ?_
    | (with_reducible refine (forAll_otp _ _ fun _ _ => ?_).trans ?_)
    | (with_reducible refine (foldl_otp _ _ _ fun _ _ => ?_).trans ?_)
    | dsimp -proj only | (simp -proj only [apply_ite State.otp, ite_self]; done) | split | simp -proj)

@[simp] theorem State.actOver_otp (s : State) (as : List Arrival) : (s.actOver as).otp = s.otp := by
  induction as generalizing s with
  | nil => rfl
  | cons a rest ih => exact (ih _).trans (ite_otp (State.turnAway_otp _ _ _ _) (State.act_otp _ _))

@[simp] theorem State.late_otp (s : State) (h : Hdr) (c : Cmd) (bad : Option Nat) (serial : Option Nat) :
    ((State.late s h c bad serial).1).otp = s.otp := by
  unfold State.late
  repeat' (first
    | with_reducible eq_refl | with_reducible exact mk_otp .. | with_reducible refine ite_otp ?_ ?_
    | (with_reducible refine (forAll_otp _ _ fun _ _ => ?_).trans ?_)
    | (with_reducible refine (foldl_otp _ _ _ fun _ _ => ?_).trans ?_)
    | dsimp only | (simp -proj only [apply_ite State.otp, ite_self]; done) | split | simp -proj)

@[simp] theorem State.intake_otp (s : State) (h : Hdr) (c : Cmd) (bad : Option Nat) :
    ((State.intake s h c bad).1).otp = s.otp := by
  unfold State.intake
  repeat' (first
    | with_reducible eq_refl | with_reducible exact mk_otp .. | with_reducible refine ite_otp ?_ ?_
    | (with_reducible refine (forAll_otp _ _ fun _ _ => ?_).trans ?_)
    | (with_reducible refine (foldl_otp _ _ _ fun _ _ => ?_).trans ?_)
    | dsimp only | (simp -proj only [apply_ite State.otp, ite_self]; done) | split | simp -proj)

@[simp] theorem State.receive_otp (s0 : State) (h0 : Hdr) (c : Cmd) : ((State.receive s0 h0 c).1).otp = s0.otp := by
  unfold State.receive
  repeat' (first
    | with_reducible eq_refl | with_reducible exact mk_otp .. | with_reducible refine ite_otp ?_ ?_
    | (with_reducible refine (forAll_otp _ _ fun _ _ => ?_).trans ?_)
    | (with_reducible refine (foldl_otp _ _ _ fun _ _ => ?_).trans ?_)
    | dsimp only | (simp -proj only [apply_ite State.otp, ite_self]; done) | split | simp -proj)

@[simp] theorem State.serve_otp (s : State) (h : Hdr) (c : Cmd) : (State.serve s h c).otp = s.otp := by
  unfold State.serve
  repeat' (first
    | with_reducible eq_refl | with_reducible exact mk_otp .. | with_reducible refine ite_otp ?_ ?_
    | (with_reducible refine (forAll_otp _ _ fun _ _ => ?_).trans ?_)
    | (with_reducible refine (foldl_otp _ _ _ fun _ _ => ?_).trans ?_)
    | dsimp -proj only | (simp -proj only [apply_ite State.otp, ite_self]; done) | split | simp -proj)

@[simp] theorem State.actAll_otp (s : State) (as : List Arrival) : (State.actAll s as).otp = s.otp := by
  induction as generalizing s with
  | nil => rfl
  | cons a rest ih => exact (ih _).trans (State.act_otp _ _)

@[simp] theorem State.stepSix_otp (s : State) (as : List Arrival) : (State.stepSix s as).otp = s.otp := by
  simp -proj [State.stepSix]

@[simp] theorem State.settle_otp (s : State) : (State.settle s).otp = s.otp := by
  simp -proj [State.settle]

@[simp] theorem State.takePacket_otp (s : State) (p : Port) (via : Carriage) (b : Bytes) (size : Nat) :
    (State.takePacket s p via b size).otp = s.otp := by
  unfold State.takePacket
  repeat' (first
    | with_reducible eq_refl | with_reducible exact mk_otp .. | with_reducible refine ite_otp ?_ ?_
    | (with_reducible refine (forAll_otp _ _ fun _ _ => ?_).trans ?_)
    | (with_reducible refine (foldl_otp _ _ _ fun _ _ => ?_).trans ?_)
    | dsimp -proj only | (simp -proj only [apply_ite State.otp, ite_self]; done) | split | simp -proj)

@[simp] theorem State.msixWrite_otp (s : State) (v : Fin 64) (k : Nat) (x : Word) :
    (State.msixWrite s v k x).otp = s.otp := by
  unfold State.msixWrite
  repeat' (first
    | with_reducible eq_refl | with_reducible exact mk_otp .. | with_reducible refine ite_otp ?_ ?_
    | (with_reducible refine (forAll_otp _ _ fun _ _ => ?_).trans ?_)
    | (with_reducible refine (foldl_otp _ _ _ fun _ _ => ?_).trans ?_)
    | dsimp -proj only | (simp -proj only [apply_ite State.otp, ite_self]; done) | split | simp -proj)

@[simp] theorem State.barWrite_otp (s : State) (off v : Nat) : (s.barWrite off v).otp = s.otp := by
  unfold State.barWrite
  extract_lets ring c
  have hr : ∀ f, (ring f).otp = s.otp := fun f => ite_otp rfl (State.updHpa_otp _ _)
  repeat' (first
    | with_reducible eq_refl | with_reducible exact hr _ | with_reducible refine ite_otp ?_ ?_ | (simp -proj; done))

@[simp] theorem State.netApply_otp (s : State) : (State.netApply s).otp = s.otp := by
  simp -proj [State.netApply]

@[simp] theorem State.seqErrs_otp (s : State) (k : Nat) : (State.seqErrs s k).otp = s.otp := by
  simp -proj [State.seqErrs]

@[simp] theorem State.takeFragment_otp (s : State) (f : Bytes) (before : Bytes) :
    (State.takeFragment s f before).otp = s.otp := by
  unfold State.takeFragment
  repeat' (first
    | with_reducible eq_refl | with_reducible exact mk_otp .. | with_reducible refine ite_otp ?_ ?_
    | (with_reducible refine (forAll_otp _ _ fun _ _ => ?_).trans ?_)
    | (with_reducible refine (foldl_otp _ _ _ fun _ _ => ?_).trans ?_)
    | dsimp -proj only | (simp -proj only [apply_ite State.otp, ite_self]; done) | split | simp -proj)

@[simp] theorem State.sfpFragment_otp (s : State) (f : Bytes) : (State.sfpFragment s f).otp = s.otp := by
  unfold State.sfpFragment
  repeat' (first
    | with_reducible eq_refl | with_reducible exact mk_otp .. | with_reducible refine ite_otp ?_ ?_
    | (with_reducible refine (forAll_otp _ _ fun _ _ => ?_).trans ?_)
    | (with_reducible refine (foldl_otp _ _ _ fun _ _ => ?_).trans ?_)
    | dsimp -proj only | (simp -proj only [apply_ite State.otp, ite_self]; done) | split | simp -proj)

@[simp] theorem State.sfpSend_otp (s : State) : (State.sfpSend s).otp = s.otp := by
  unfold State.sfpSend; split <;> simp -proj

@[simp] theorem State.deliverEvent_otp (s : State) (port : Port) :
    (State.deliverEvent s port).otp = s.otp := by
  unfold State.deliverEvent
  repeat' (first
    | with_reducible eq_refl | with_reducible exact mk_otp .. | with_reducible refine ite_otp ?_ ?_
    | (with_reducible refine (forAll_otp _ _ fun _ _ => ?_).trans ?_)
    | (with_reducible refine (foldl_otp _ _ _ fun _ _ => ?_).trans ?_)
    | dsimp -proj only | (simp -proj only [apply_ite State.otp, ite_self]; done) | split | simp -proj)

@[simp] theorem State.settled_otp (s : State) : (State.settled s).otp = s.otp := by
  unfold State.settled; split <;> simp -proj

@[simp] theorem State.writeOne_otp (s : State) (h : Hdr) (addr : Nat) (value : Word) :
    (State.writeOne s h addr value).otp = s.otp := by
  simp -proj [State.writeOne]

@[simp] theorem State.readOne_otp (s : State) (h : Hdr) (addr : Nat) : (State.readOne s h addr).otp = s.otp := by
  simp -proj [State.readOne]

@[simp] theorem State.updRam_otp (s : State) (f : TagRam → TagRam) : (State.updRam s f).otp = s.otp := by
  simp -proj [State.updRam]

@[simp] theorem State.tagBoot_otp (s : State) : (State.tagBoot s).otp = s.otp := by
  simp -proj [State.tagBoot]

@[simp] theorem State.tearWrite_otp (s : State) : (State.tearWrite s).otp = s.otp := by
  unfold State.tearWrite; split <;> simp -proj

@[simp] theorem State.tagWake_otp (s : State) :
    (State.tagWake s).otp = s.otp := by
  unfold State.tagWake
  repeat' (first
    | with_reducible eq_refl | with_reducible exact mk_otp .. | with_reducible refine ite_otp ?_ ?_
    | (with_reducible refine (forAll_otp _ _ fun _ _ => ?_).trans ?_)
    | (with_reducible refine (foldl_otp _ _ _ fun _ _ => ?_).trans ?_)
    | dsimp -proj only | (simp -proj only [apply_ite State.otp, ite_self]; done) | split | simp -proj)

@[simp] theorem State.tagQueue_otp (s : State) (payload : Bytes) (restart : Bool) :
    (State.tagQueue s payload restart).otp = s.otp := by
  simp -proj [State.tagQueue]

@[simp] theorem State.stopVerify_otp (s : State) :
    (State.stopVerify s).otp = s.otp := by
  unfold State.stopVerify
  repeat' (first
    | with_reducible eq_refl | with_reducible exact mk_otp .. | with_reducible refine ite_otp ?_ ?_
    | (with_reducible refine (forAll_otp _ _ fun _ _ => ?_).trans ?_)
    | (with_reducible refine (foldl_otp _ _ _ fun _ _ => ?_).trans ?_)
    | dsimp -proj only | (simp -proj only [apply_ite State.otp, ite_self]; done) | split | simp -proj)

@[simp] theorem State.tagSleep_otp (s : State) : (State.tagSleep s).otp = s.otp := by
  simp -proj [State.tagSleep]

@[simp] theorem State.tagBrownout_otp (s : State) : (State.tagBrownout s).otp = s.otp := by
  simp -proj [State.tagBrownout]

@[simp] theorem State.tagDead_otp (s : State) :
    (State.tagDead s).otp = s.otp := by
  unfold State.tagDead
  repeat' (first
    | with_reducible eq_refl | with_reducible exact mk_otp .. | with_reducible refine ite_otp ?_ ?_
    | (with_reducible refine (forAll_otp _ _ fun _ _ => ?_).trans ?_)
    | (with_reducible refine (foldl_otp _ _ _ fun _ _ => ?_).trans ?_)
    | dsimp -proj only | (simp -proj only [apply_ite State.otp, ite_self]; done) | split | simp -proj)

@[simp] theorem State.tagMove_otp (s : State) :
    (State.tagMove s).otp = s.otp := by
  unfold State.tagMove
  repeat' (first
    | with_reducible eq_refl | with_reducible exact mk_otp .. | with_reducible refine ite_otp ?_ ?_
    | (with_reducible refine (forAll_otp _ _ fun _ _ => ?_).trans ?_)
    | (with_reducible refine (foldl_otp _ _ _ fun _ _ => ?_).trans ?_)
    | dsimp -proj only | (simp -proj only [apply_ite State.otp, ite_self]; done) | split | simp -proj)

@[simp] theorem State.tagPower_otp (s : State) : (State.tagPower s).otp = s.otp := by
  unfold State.tagPower
  repeat' (first
    | with_reducible eq_refl | with_reducible exact mk_otp .. | with_reducible refine ite_otp ?_ ?_
    | (with_reducible refine (forAll_otp _ _ fun _ _ => ?_).trans ?_)
    | (with_reducible refine (foldl_otp _ _ _ fun _ _ => ?_).trans ?_)
    | dsimp -proj only | (simp -proj only [apply_ite State.otp, ite_self]; done) | split | simp -proj)

@[simp] theorem State.tagReports_otp (s : State) : s.tagReports.otp = s.otp := by
  unfold State.tagReports
  refine ite_otp ?_ rfl
  exact foldl_otp _ _ _ fun s i => by simp

@[simp] theorem State.startRecord_otp (s : State) : (State.startRecord s).otp = s.otp := by
  unfold State.startRecord
  repeat' (first
    | with_reducible eq_refl | with_reducible exact mk_otp .. | with_reducible refine ite_otp ?_ ?_
    | (with_reducible refine (forAll_otp _ _ fun _ _ => ?_).trans ?_)
    | (with_reducible refine (foldl_otp _ _ _ fun _ _ => ?_).trans ?_)
    | dsimp -proj only | (simp -proj only [apply_ite State.otp, ite_self]; done) | split | simp -proj)

@[simp] theorem State.attemptFailed_otp (s : State) : (State.attemptFailed s).otp = s.otp := by
  unfold State.attemptFailed
  repeat' (first
    | with_reducible eq_refl | with_reducible exact mk_otp .. | with_reducible refine ite_otp ?_ ?_
    | (with_reducible refine (forAll_otp _ _ fun _ _ => ?_).trans ?_)
    | (with_reducible refine (foldl_otp _ _ _ fun _ _ => ?_).trans ?_)
    | dsimp -proj only | (simp -proj only [apply_ite State.otp, ite_self]; done) | split | simp -proj)

@[simp] theorem State.tagAck_otp (s : State) (seq : Nat) : (State.tagAck s seq).otp = s.otp := by
  unfold State.tagAck; (repeat' split) <;> simp -proj

@[simp] theorem State.tagWrite_otp (s : State) (off : Nat) (v : Nat) : (State.tagWrite s off v).otp = s.otp := by
  simp -proj [State.tagWrite]

@[simp] theorem State.tagCommand_otp (s : State) (c : TagCmdRx) (f : State → State) (h : ∀ s, (f s).otp = s.otp) :
    (s.tagCommand c f).otp = s.otp := ite_otp (h _) rfl

@[simp] theorem State.tagReply_otp (s : State) (cmd : Nat) (c : TagCmdRx) (status : Nat) (values : Bytes) (restart : Bool) :
    (State.tagReply s cmd c status values restart).otp = s.otp := by
  unfold State.tagReply
  repeat' (first
    | with_reducible eq_refl | with_reducible exact mk_otp .. | with_reducible refine ite_otp ?_ ?_
    | (with_reducible refine (forAll_otp _ _ fun _ _ => ?_).trans ?_)
    | (with_reducible refine (foldl_otp _ _ _ fun _ _ => ?_).trans ?_)
    | dsimp -proj only | (simp -proj only [apply_ite State.otp, ite_self]; done) | split | simp -proj)

@[simp] theorem State.tagWrites_otp (s : State) (c : TagCmdRx) (a : Nat) (values : List Word) :
    (State.tagWrites s c a values).otp = s.otp := by
  unfold State.tagWrites
  repeat' (first
    | with_reducible eq_refl | with_reducible exact mk_otp .. | with_reducible refine ite_otp ?_ ?_
    | (with_reducible refine (forAll_otp _ _ fun _ _ => ?_).trans ?_)
    | (with_reducible refine (foldl_otp _ _ _ fun _ _ => ?_).trans ?_)
    | dsimp -proj only | (simp -proj only [apply_ite State.otp, ite_self]; done) | split | simp -proj)

end Sys2Proof.Machine
end

