-- ==== Sys2Proof/Laws/Now.lean ====
section
/-! SUPPORT. Time: no operation of a command's effect moves it. -/

set_option linter.all false

namespace Sys2Proof.Machine

@[simp] theorem forAll_now {n : Nat} (s : State) (f : State → Fin n → State) (h : ∀ s i, (f s i).now = s.now) :
    (forAll s f).now = s.now := by
  unfold forAll
  generalize List.finRange n = l
  induction l generalizing s with
  | nil => rfl
  | cons a l ih => exact (ih _).trans (h s a)

@[simp] theorem foldl_now {α : Type} (l : List α) (s : State) (f : State → α → State) (h : ∀ s i, (f s i).now = s.now) :
    (l.foldl f s).now = s.now := by
  induction l generalizing s with
  | nil => rfl
  | cons a l ih => exact (ih _).trans (h s a)

theorem mk_now (x_now x_d02 x_free x_draws x_serial x_pending x_deferred x_out x_arrivals x_commit x_thermal x_avs x_fabric x_boot x_otp x_flash x_owners x_leases x_hpa x_net x_mem x_keys x_cores x_jobs x_headbox x_sensors x_tb x_timers x_axes x_safety x_illum x_lbus x_radio x_tag x_test x_store) :
    (State.mk x_now x_d02 x_free x_draws x_serial x_pending x_deferred x_out x_arrivals x_commit x_thermal x_avs x_fabric x_boot x_otp x_flash x_owners x_leases x_hpa x_net x_mem x_keys x_cores x_jobs x_headbox x_sensors x_tb x_timers x_axes x_safety x_illum x_lbus x_radio x_tag x_test x_store).now = x_now := rfl

@[simp] theorem ite_now {c : Prop} [Decidable c] {a b : State} {x : State} (h1 : a.now = x.now) (h2 : b.now = x.now) :
    (if c then a else b).now = x.now := by split <;> assumption

@[simp] theorem dite_now {c : Prop} [Decidable c] {a : c → State} {b : ¬ c → State} {x : State} (h1 : ∀ h, (a h).now = x.now) (h2 : ∀ h, (b h).now = x.now) :
    (if h : c then a h else b h).now = x.now := by split <;> simp [h1, h2]

@[simp] theorem State.fillSlot_now (s : State) (i : Fin 74) :
    (State.fillSlot s i).now = s.now := by
  unfold State.fillSlot
  repeat' (first
    | with_reducible eq_refl | with_reducible exact mk_now .. | with_reducible refine ite_now ?_ ?_
    | (with_reducible refine (forAll_now _ _ fun _ _ => ?_).trans ?_)
    | (with_reducible refine (foldl_now _ _ _ fun _ _ => ?_).trans ?_)
    | dsimp -proj only | (simp -proj only [apply_ite State.now, ite_self]; done) | split | simp -proj)

@[simp] theorem State.forgo_now (s : State) (via : Carriage) :
    (State.forgo s via).now = s.now := by
  unfold State.forgo
  repeat' (first
    | with_reducible eq_refl | with_reducible exact mk_now .. | with_reducible refine ite_now ?_ ?_
    | (with_reducible refine (forAll_now _ _ fun _ _ => ?_).trans ?_)
    | (with_reducible refine (foldl_now _ _ _ fun _ _ => ?_).trans ?_)
    | dsimp -proj only | (simp -proj only [apply_ite State.now, ite_self]; done) | split | simp -proj)

@[simp] theorem State.closeStage_now (s : State) : (State.closeStage s).now = s.now := by
  simp -proj [State.closeStage]

@[simp] theorem State.closeStageOf_now (s : State) (p : Port) : (State.closeStageOf s p).now = s.now := by
  unfold State.closeStageOf; (repeat' split) <;> simp -proj

@[simp] theorem State.updCores_now (s : State) (f : Cores → Cores) : (State.updCores s f).now = s.now := by
  simp -proj [State.updCores]

@[simp] theorem State.updCore_now (s : State) (c : Fin 32) (f : Core1 → Core1) : (State.updCore s c f).now = s.now := by
  simp -proj [State.updCore]

@[simp] theorem State.repin_now (s : State) : (State.repin s).now = s.now := by
  unfold State.repin
  repeat' (first
    | with_reducible eq_refl | with_reducible exact mk_now .. | with_reducible refine ite_now ?_ ?_
    | (with_reducible refine (forAll_now _ _ fun _ _ => ?_).trans ?_)
    | (with_reducible refine (foldl_now _ _ _ fun _ _ => ?_).trans ?_)
    | dsimp -proj only | (simp -proj only [apply_ite State.now, ite_self]; done) | split | simp -proj)

@[simp] theorem State.updGear_now (s : State) (n : Fin 16) (f : Gear → Gear) : (State.updGear s n f).now = s.now := by
  simp -proj [State.updGear]

@[simp] theorem State.updBus_now (s : State) (b : Fin 2) (f : Bus → Bus) : (State.updBus s b f).now = s.now := by
  simp -proj [State.updBus]

@[simp] theorem State.gearEvent_now (s : State) (n : Fin 16) (kind : Nat) (level : Nat) :
    (State.gearEvent s n kind level).now = s.now := by
  unfold State.gearEvent; split <;> simp -proj

@[simp] theorem State.gearPersist_now (s : State) (n : Fin 16) (old : GearVars) :
    (State.gearPersist s n old).now = s.now := by
  unfold State.gearPersist; (repeat' split) <;> simp -proj

@[simp] theorem State.gearChange_now (s : State) (n : Fin 16) (f : Gear → Gear) : (State.gearChange s n f).now = s.now := by
  unfold State.gearChange; split <;> simp -proj

@[simp] theorem State.gearFlush_now (s : State) : (State.gearFlush s).now = s.now := by
  unfold State.gearFlush
  repeat' (first
    | with_reducible eq_refl | with_reducible exact mk_now .. | with_reducible refine ite_now ?_ ?_
    | (with_reducible refine (forAll_now _ _ fun _ _ => ?_).trans ?_)
    | (with_reducible refine (foldl_now _ _ _ fun _ _ => ?_).trans ?_)
    | dsimp -proj only | (simp -proj only [apply_ite State.now, ite_self]; done) | split | simp -proj)

@[simp] theorem State.noteTarget_now (s : State) (n : Fin 16) (old : Nat) :
    (State.noteTarget s n old).now = s.now := by
  unfold State.noteTarget
  repeat' (first
    | with_reducible eq_refl | with_reducible exact mk_now .. | with_reducible refine ite_now ?_ ?_
    | (with_reducible refine (forAll_now _ _ fun _ _ => ?_).trans ?_)
    | (with_reducible refine (foldl_now _ _ _ fun _ _ => ?_).trans ?_)
    | dsimp -proj only | (simp -proj only [apply_ite State.now, ite_self]; done) | split | simp -proj)

@[simp] theorem State.gearTarget_now (s : State) (n : Fin 16) (level : Nat) (dur : Nat) :
    (State.gearTarget s n level dur).now = s.now := by
  unfold State.gearTarget
  repeat' (first
    | with_reducible eq_refl | with_reducible exact mk_now .. | with_reducible refine ite_now ?_ ?_
    | (with_reducible refine (forAll_now _ _ fun _ _ => ?_).trans ?_)
    | (with_reducible refine (foldl_now _ _ _ fun _ _ => ?_).trans ?_)
    | dsimp -proj only | (simp -proj only [apply_ite State.now, ite_self]; done) | split | simp -proj)

@[simp] theorem State.gearRamp_now (s : State) (n : Fin 16) (up : Bool) : (State.gearRamp s n up).now = s.now := by
  unfold State.gearRamp
  repeat' (first
    | with_reducible eq_refl | with_reducible exact mk_now .. | with_reducible refine ite_now ?_ ?_
    | (with_reducible refine (forAll_now _ _ fun _ _ => ?_).trans ?_)
    | (with_reducible refine (foldl_now _ _ _ fun _ _ => ?_).trans ?_)
    | dsimp -proj only | (simp -proj only [apply_ite State.now, ite_self]; done) | split | simp -proj)

@[simp] theorem State.eachGear_now (s : State) (b : Fin 2) (dst : BusAddr) (f : State → Fin 16 → State) (h : ∀ s n, (f s n).now = s.now) :
    (s.eachGear b dst f).now = s.now := foldl_now _ _ _ h

@[simp] theorem State.opDapc_now (s : State) (b : Fin 2) (dst : BusAddr) (level : Nat) :
    (s.opDapc b dst level).now = s.now := by
  unfold State.opDapc
  refine State.eachGear_now _ _ _ _ fun s n => ?_
  split
  · rfl
  · exact ite_now ((State.noteTarget_now _ _ _).trans (State.updGear_now _ _ _)) (State.gearTarget_now _ _ _ _)

@[simp] theorem State.answer_now (s : State) (b : Fin 2) (vals : List Nat) : (State.answer s b vals).now = s.now := by
  unfold State.answer; split <;> simp -proj

@[simp] theorem State.opQuery_now (s : State) (b : Fin 2) (dst : BusAddr) (f : State → Fin 16 → Gear → Option Nat) :
    (State.opQuery s b dst f).now = s.now := by
  simp -proj [State.opQuery]

@[simp] theorem State.opVars_now (s : State) (b : Fin 2) (dst : BusAddr) (f : Gear → GearVars) :
    (State.opVars s b dst f).now = s.now := by
  simp -proj [State.opVars]

@[simp] theorem State.limitLevels_now (s : State) (b : Fin 2) (dst : BusAddr) :
    (State.limitLevels s b dst).now = s.now := by
  unfold State.limitLevels
  refine State.eachGear_now _ _ _ _ fun s n => ?_
  split
  · exact ite_now (State.gearTarget_now _ _ _ _) rfl
  · rfl

@[simp] theorem State.opInitialise_now (s : State) (b : Fin 2) (which : Nat) :
    (State.opInitialise s b which).now = s.now := by
  simp -proj [State.opInitialise]

@[simp] theorem State.opRandomise_now (s : State) (b : Fin 2) : (State.opRandomise s b).now = s.now := by
  unfold State.opRandomise
  repeat' (first
    | with_reducible eq_refl | with_reducible exact mk_now .. | with_reducible refine ite_now ?_ ?_
    | (with_reducible refine (forAll_now _ _ fun _ _ => ?_).trans ?_)
    | (with_reducible refine (foldl_now _ _ _ fun _ _ => ?_).trans ?_)
    | dsimp -proj only | (simp -proj only [apply_ite State.now, ite_self]; done) | split | simp -proj)

@[simp] theorem State.opCompare_now (s : State) (b : Fin 2) : (State.opCompare s b).now = s.now := by
  simp -proj [State.opCompare]

@[simp] theorem State.opTerminate_now (s : State) (b : Fin 2) : (State.opTerminate s b).now = s.now := by
  simp -proj [State.opTerminate]

@[simp] theorem State.opIdentify_now (s : State) (b : Fin 2) (dst : BusAddr) : (State.opIdentify s b dst).now = s.now := by
  simp -proj [State.opIdentify]

@[simp] theorem State.opCurve_now (s : State) (b : Fin 2) (dst : BusAddr) (curve : Nat) :
    (State.opCurve s b dst curve).now = s.now := by
  unfold State.opCurve; split <;> simp -proj

@[simp] theorem State.opReadMemory_now (s : State) (b : Fin 2) (dst : BusAddr) :
    (State.opReadMemory s b dst).now = s.now := by
  unfold State.opReadMemory
  repeat' (first
    | with_reducible eq_refl | with_reducible exact mk_now .. | with_reducible refine ite_now ?_ ?_
    | (with_reducible refine (forAll_now _ _ fun _ _ => ?_).trans ?_)
    | (with_reducible refine (foldl_now _ _ _ fun _ _ => ?_).trans ?_)
    | dsimp -proj only | (simp -proj only [apply_ite State.now, ite_self]; done) | split | simp -proj)

@[simp] theorem State.cmd102_now (s : State) (b : Fin 2) (dst : BusAddr) (op : Nat) : (s.cmd102 b dst op).now = s.now := by
  unfold State.cmd102
  repeat' (first | with_reducible exact mk_now .. | with_reducible refine ite_now ?_ ?_ | with_reducible refine State.eachGear_now _ _ _ _ fun _ _ => ?_ | (simp -proj; done) | split)

@[simp] theorem State.cmd207_now (s : State) (b : Fin 2) (dst : BusAddr) (op : Nat) :
    (State.cmd207 s b dst op).now = s.now := by
  unfold State.cmd207; (repeat' split) <;> simp -proj

@[simp] theorem State.cmdSpecial_now (s : State) (b : Fin 2) (a d : Nat) : (s.cmdSpecial b a d).now = s.now := by
  unfold State.cmdSpecial
  extract_lets
  repeat' (first
    | with_reducible eq_refl | with_reducible refine ite_now ?_ ?_ | (with_reducible refine foldl_now _ _ _ fun _ _ => ?_) | (simp -proj; done))

@[simp] theorem State.busFrame_now (s : State) (b : Fin 2) (a : Nat) (d : Nat) : (State.busFrame s b a d).now = s.now := by
  unfold State.busFrame
  repeat' (first
    | with_reducible eq_refl | with_reducible exact mk_now .. | with_reducible refine ite_now ?_ ?_
    | (with_reducible refine (forAll_now _ _ fun _ _ => ?_).trans ?_)
    | (with_reducible refine (foldl_now _ _ _ fun _ _ => ?_).trans ?_)
    | dsimp -proj only | (simp -proj only [apply_ite State.now, ite_self]; done) | split | simp -proj)

@[simp] theorem State.busCommand_now (s : State) (b : Fin 2) (row : Instr) (frames : Nat) (f : State → State)
    (h : ∀ s, (f s).now = s.now) :
    (State.busCommand s b row frames f).now = s.now := by
  unfold State.busCommand
  repeat' (first
    | with_reducible eq_refl | with_reducible exact mk_now .. | with_reducible refine ite_now ?_ ?_
    | (with_reducible refine (forAll_now _ _ fun _ _ => ?_).trans ?_)
    | (with_reducible refine (foldl_now _ _ _ fun _ _ => ?_).trans ?_)
    | dsimp -proj only | (simp -proj only [apply_ite State.now, ite_self]; done) | split | simp -proj [h])

@[simp] theorem State.busCommand207_now (s : State) (b : Fin 2) (row : Instr) (frames : Nat) (f : State → State)
    (h : ∀ s, (f s).now = s.now) :
    (State.busCommand207 s b row frames f).now = s.now := by
  unfold State.busCommand207
  exact State.busCommand_now _ _ _ _ _ fun s => ite_now (h s) rfl

@[simp] theorem State.gearValley_now (s : State) : (State.gearValley s).now = s.now := by
  unfold State.gearValley
  repeat' (first
    | with_reducible eq_refl | with_reducible exact mk_now .. | with_reducible refine ite_now ?_ ?_
    | (with_reducible refine (forAll_now _ _ fun _ _ => ?_).trans ?_)
    | (with_reducible refine (foldl_now _ _ _ fun _ _ => ?_).trans ?_)
    | dsimp -proj only | (simp -proj only [apply_ite State.now, ite_self]; done) | split | simp -proj)

@[simp] theorem State.lampRefresh_now (s : State) : (State.lampRefresh s).now = s.now := by
  unfold State.lampRefresh
  repeat' (first
    | with_reducible eq_refl | with_reducible exact mk_now .. | with_reducible refine ite_now ?_ ?_
    | (with_reducible refine (forAll_now _ _ fun _ _ => ?_).trans ?_)
    | (with_reducible refine (foldl_now _ _ _ fun _ _ => ?_).trans ?_)
    | dsimp -proj only | (simp -proj only [apply_ite State.now, ite_self]; done) | split | simp -proj)

@[simp] theorem State.gearStart_now (s : State) : (State.gearStart s).now = s.now := by
  unfold State.gearStart
  repeat' (first
    | with_reducible eq_refl | with_reducible exact mk_now .. | with_reducible refine ite_now ?_ ?_
    | (with_reducible refine (forAll_now _ _ fun _ _ => ?_).trans ?_)
    | (with_reducible refine (foldl_now _ _ _ fun _ _ => ?_).trans ?_)
    | dsimp -proj only | (simp -proj only [apply_ite State.now, ite_self]; done) | split | simp -proj)

@[simp] theorem State.timersStart_now (s : State) : (State.timersStart s).now = s.now := by
  unfold State.timersStart
  repeat' (first
    | with_reducible eq_refl | with_reducible exact mk_now .. | with_reducible refine ite_now ?_ ?_
    | (with_reducible refine (forAll_now _ _ fun _ _ => ?_).trans ?_)
    | (with_reducible refine (foldl_now _ _ _ fun _ _ => ?_).trans ?_)
    | dsimp -proj only | (simp -proj only [apply_ite State.now, ite_self]; done) | split | simp -proj)

@[simp] theorem State.timersStop_now (s : State) : (State.timersStop s).now = s.now := by
  unfold State.timersStop
  repeat' (first
    | with_reducible eq_refl | with_reducible exact mk_now .. | with_reducible refine ite_now ?_ ?_
    | (with_reducible refine (forAll_now _ _ fun _ _ => ?_).trans ?_)
    | (with_reducible refine (foldl_now _ _ _ fun _ _ => ?_).trans ?_)
    | dsimp -proj only | (simp -proj only [apply_ite State.now, ite_self]; done) | split | simp -proj)

@[simp] theorem State.timerValley_now (s : State) (n : Fin 16) : (State.timerValley s n).now = s.now := by
  unfold State.timerValley
  repeat' (first
    | with_reducible eq_refl | with_reducible exact mk_now .. | with_reducible refine ite_now ?_ ?_
    | (with_reducible refine (forAll_now _ _ fun _ _ => ?_).trans ?_)
    | (with_reducible refine (foldl_now _ _ _ fun _ _ => ?_).trans ?_)
    | dsimp -proj only | (simp -proj only [apply_ite State.now, ite_self]; done) | split | simp -proj)

@[simp] theorem State.timerLoss_now (s : State) (n : Fin 16) : (State.timerLoss s n).now = s.now := by
  simp -proj [State.timerLoss]

@[simp] theorem State.trigEdge_now (s : State) (k : Fin 6) : (State.trigEdge s k).now = s.now := by
  simp -proj [State.trigEdge]

@[simp] theorem State.trigSource_now (s : State) (src : Nat) : (State.trigSource s src).now = s.now := by
  unfold State.trigSource
  repeat' (first
    | with_reducible eq_refl | with_reducible exact mk_now .. | with_reducible refine ite_now ?_ ?_
    | (with_reducible refine (forAll_now _ _ fun _ _ => ?_).trans ?_)
    | (with_reducible refine (foldl_now _ _ _ fun _ _ => ?_).trans ?_)
    | dsimp -proj only | (simp -proj only [apply_ite State.now, ite_self]; done) | split | simp -proj)

@[simp] theorem State.gtEdges_now (before after : State) : (State.gtEdges before after).now = after.now := by
  unfold State.gtEdges
  exact foldl_now _ _ _ fun s i => ite_now (by simp) rfl

@[simp] theorem timersLatch_now (s : State) (off : Nat) : (timersLatch s off).now = s.now := by
  unfold timersLatch; split <;> simp -proj

@[simp] theorem timersWrite_now (s : State) (off : Nat) (v : Nat) : (timersWrite s off v).now = s.now := by
  unfold timersWrite; split <;> simp -proj

@[simp] theorem State.updGroup_now (s : State) (g : Fin 8) (f : Group → Group) : (State.updGroup s g f).now = s.now := by
  simp -proj [State.updGroup]

@[simp] theorem State.updSink_now (s : State) (n : Fin 48) (f : Sink → Sink) : (State.updSink s n f).now = s.now := by
  simp -proj [State.updSink]

@[simp] theorem State.updStage_now (s : State) (f : VStage → VStage) : (State.updStage s f).now = s.now := by
  simp -proj [State.updStage]

@[simp] theorem State.updMatrix_now (s : State) (f : Matrix → Matrix) : (State.updMatrix s f).now = s.now := by
  simp -proj [State.updMatrix]

@[simp] theorem State.dark_now (s : State) (gi : Fin 8) :
    (State.dark s gi).now = s.now := by
  unfold State.dark
  repeat' (first
    | with_reducible eq_refl | with_reducible exact mk_now .. | with_reducible refine ite_now ?_ ?_
    | (with_reducible refine (forAll_now _ _ fun _ _ => ?_).trans ?_)
    | (with_reducible refine (foldl_now _ _ _ fun _ _ => ?_).trans ?_)
    | dsimp -proj only | (simp -proj only [apply_ite State.now, ite_self]; done) | split | simp -proj)

@[simp] theorem State.applyGroup_now (s : State) (gi : Fin 8) : (State.applyGroup s gi).now = s.now := by
  unfold State.applyGroup
  repeat' (first
    | with_reducible eq_refl | with_reducible exact mk_now .. | with_reducible refine ite_now ?_ ?_
    | (with_reducible refine (forAll_now _ _ fun _ _ => ?_).trans ?_)
    | (with_reducible refine (foldl_now _ _ _ fun _ _ => ?_).trans ?_)
    | dsimp -proj only | (simp -proj only [apply_ite State.now, ite_self]; done) | split | simp -proj)

@[simp] theorem State.lightFault_now (s : State) (gi : Fin 8) (sink : Nat) (kind : Nat) (latch : Nat) (mv : Int) :
    (State.lightFault s gi sink kind latch mv).now = s.now := by
  simp -proj [State.lightFault]

@[simp] theorem State.takeScan_now (s : State) : (State.takeScan s).now = s.now := by
  simp -proj [State.takeScan]

@[simp] theorem State.closeScan_now (s : State) : (State.closeScan s).now = s.now := by
  simp -proj [State.closeScan]

@[simp] theorem State.stageScan_now (s : State) : (State.stageScan s).now = s.now := by
  unfold State.stageScan
  repeat' (first
    | with_reducible eq_refl | with_reducible exact mk_now .. | with_reducible refine ite_now ?_ ?_
    | (with_reducible refine (forAll_now _ _ fun _ _ => ?_).trans ?_)
    | (with_reducible refine (foldl_now _ _ _ fun _ _ => ?_).trans ?_)
    | dsimp -proj only | (simp -proj only [apply_ite State.now, ite_self]; done) | split | simp -proj)

@[simp] theorem State.shortScan_now (s : State) : (State.shortScan s).now = s.now := by
  simp -proj [State.shortScan]

@[simp] theorem State.lampFailure_now (s : State) (n : Fin 48) (kind : Nat) : (State.lampFailure s n kind).now = s.now := by
  unfold State.lampFailure
  dsimp -proj only
  generalize (s.illum.sinks.get n).group = o
  cases o
  · rfl
  · exact (State.lightFault_now _ _ _ _ _ _).trans ((State.updIllum_now _ _).trans
      (ite_now ((State.dark_now _ _).trans (State.updGroup_now _ _ _)) ((State.updSink_now _ _ _).trans (State.updGroup_now _ _ _))))

@[simp] theorem State.harnessOpen_now (s : State) (h : Nat) (opens : List (Fin 48)) :
    (State.harnessOpen s h opens).now = s.now := by
  simp -proj [State.harnessOpen]

@[simp] theorem State.judge_now (s : State) : (State.judge s).now = s.now := by
  simp -proj [State.judge]

@[simp] theorem State.groupCfgActs_now (s : State) (gi : Fin 8) (c : LightCfg) :
    (State.groupCfgActs s gi c).now = s.now := by
  unfold State.groupCfgActs
  dsimp -proj only
  rw [State.updGroup_now]
  refine ite_now ((State.dark_now _ _).trans ?_) ?_ <;> exact forAll_now _ _ fun _ _ => State.updSink_now _ _ _

@[simp] theorem State.illumValley_now (s : State) (v : Nat) : (s.illumValley v).now = s.now := by
  unfold State.illumValley
  extract_lets s0 s1 s2 s3 s4
  have h0 : s0.now = s.now := State.updStage_now _ _
  have h1 : s1.now = s.now := by simp -proj [s1, h0]
  have h2 : s2.now = s.now := (State.updIllum_now _ _).trans h1
  have h3 : s3.now = s.now := by
    refine (forAll_now _ _ fun s i => ?_).trans ?_
    · split
      · simp -proj
      · rfl
    · simp -proj [h2]
  have h4 : s4.now = s.now := (forAll_now _ _ fun s i => by simp -proj).trans h3
  exact (State.lampRefresh_now _).trans h4

@[simp] theorem State.dimValley_now (s : State) (vstr : Nat) :
    (State.dimValley s vstr).now = s.now := by
  unfold State.dimValley
  repeat' (first
    | with_reducible eq_refl | with_reducible exact mk_now .. | with_reducible refine ite_now ?_ ?_
    | (with_reducible refine (forAll_now _ _ fun _ _ => ?_).trans ?_)
    | (with_reducible refine (foldl_now _ _ _ fun _ _ => ?_).trans ?_)
    | dsimp -proj only | (simp -proj only [apply_ite State.now, ite_self]; done) | split | simp -proj)

@[simp] theorem State.applySets_now (s : State) (gi : Fin 8) : (State.applySets s gi).now = s.now := by
  simp -proj [State.applySets]

@[simp] theorem State.strobeEdge_now (s : State) (p : Fin 4) (edgeNs : Nat) : (State.strobeEdge s p edgeNs).now = s.now := by
  simp -proj [State.strobeEdge]

@[simp] theorem State.strobesStep_now (s : State) (old new : Nat) :
    (State.strobesStep s old new).now = s.now := by
  unfold State.strobesStep
  repeat' (first
    | with_reducible eq_refl | with_reducible exact mk_now .. | with_reducible refine ite_now ?_ ?_
    | (with_reducible refine (forAll_now _ _ fun _ _ => ?_).trans ?_)
    | (with_reducible refine (foldl_now _ _ _ fun _ _ => ?_).trans ?_)
    | dsimp -proj only | (simp -proj only [apply_ite State.now, ite_self]; done) | split | simp -proj)

@[simp] theorem State.illumLoss_now (s : State) (gi : Fin 8) : ((State.illumLoss s gi).1).now = s.now := by
  unfold State.illumLoss
  repeat' (first
    | with_reducible eq_refl | with_reducible exact mk_now .. | with_reducible refine ite_now ?_ ?_
    | (with_reducible refine (forAll_now _ _ fun _ _ => ?_).trans ?_)
    | (with_reducible refine (foldl_now _ _ _ fun _ _ => ?_).trans ?_)
    | dsimp only | (simp -proj only [apply_ite State.now, ite_self]; done) | split | simp -proj)

@[simp] theorem State.matrixLoss_now (s : State) : (State.matrixLoss s).now = s.now := by
  simp -proj [State.matrixLoss]

@[simp] theorem State.lightsOff_now (s : State) : (State.lightsOff s).now = s.now := by
  simp -proj [State.lightsOff]

@[simp] theorem State.igFaultClear_now (s : State) (gi : Fin 8) (v : Nat) : (s.igFaultClear gi v).now = s.now := by
  unfold State.igFaultClear
  simp only [State.lampRefresh_now, State.updGroup_now]
  exact forAll_now _ _ fun s i => rfl

@[simp] theorem illumWrite_now (s : State) (off v : Nat) : (illumWrite s off v).now = s.now := by
  unfold illumWrite
  repeat' (first
    | with_reducible eq_refl | with_reducible refine dite_now (fun _ => ?_) (fun _ => ?_) | with_reducible refine ite_now ?_ ?_ | (simp -proj; done))

@[simp] theorem lbusWrite_now (s : State) (off : Nat) (v : Nat) : (lbusWrite s off v).now = s.now := by
  unfold lbusWrite; (repeat' split) <;> simp -proj

@[simp] theorem State.drivePattern_now (s : State) (n : Fin 8) (pat : Pattern) :
    (State.drivePattern s n pat).now = s.now := by
  simp -proj [State.drivePattern]

@[simp] theorem State.gatesTick_now (s : State) : (State.gatesTick s).now = s.now := by
  unfold State.gatesTick
  repeat' (first
    | with_reducible eq_refl | with_reducible exact mk_now .. | with_reducible refine ite_now ?_ ?_
    | (with_reducible refine (forAll_now _ _ fun _ _ => ?_).trans ?_)
    | (with_reducible refine (foldl_now _ _ _ fun _ _ => ?_).trans ?_)
    | dsimp -proj only | (simp -proj only [apply_ite State.now, ite_self]; done) | split | simp -proj)

@[simp] theorem State.axisEvent_now (s : State) (n : Fin 8) (old : AxSt) (new : AxSt) (cause : Nat) :
    (State.axisEvent s n old new cause).now = s.now := by
  simp -proj [State.axisEvent]

@[simp] theorem State.enterAx_now (s : State) (n : Fin 8) (st : AxSt) (cause : Nat) :
    (State.enterAx s n st cause).now = s.now := by
  simp -proj [State.enterAx]

@[simp] theorem State.uncommutate_now (s : State) (n : Fin 8) : (State.uncommutate s n).now = s.now := by
  simp -proj [State.uncommutate]

@[simp] theorem State.axisFault_now (s : State) (n : Fin 8) (cause : Nat) : (State.axisFault s n cause).now = s.now := by
  unfold State.axisFault; split <;> simp -proj

@[simp] theorem State.observerFault_now (s : State) (n : Fin 8) : (State.observerFault s n).now = s.now := by
  unfold State.observerFault; split <;> simp -proj

@[simp] theorem State.beginStop_now (s : State) (n : Fin 8) (cat : StopCat) (kind : StopKind) :
    (State.beginStop s n cat kind).now = s.now := by
  unfold State.beginStop; split <;> simp -proj

@[simp] theorem State.axisStop_now (s : State) (n : Fin 8) (cat : StopCat) (kind : StopKind) (cause : Nat) :
    ((State.axisStop s n cat kind cause).1).now = s.now := by
  unfold State.axisStop
  repeat' (first
    | with_reducible eq_refl | with_reducible exact mk_now .. | with_reducible refine ite_now ?_ ?_
    | (with_reducible refine (forAll_now _ _ fun _ _ => ?_).trans ?_)
    | (with_reducible refine (foldl_now _ _ _ fun _ _ => ?_).trans ?_)
    | dsimp only | (simp -proj only [apply_ite State.now, ite_self]; done) | split | simp -proj)

@[simp] theorem State.hardwareStop_now (s : State) : (State.hardwareStop s).now = s.now := by
  simp -proj [State.hardwareStop]

@[simp] theorem State.safeEvent_now (s : State) (cause : Nat) (mask : Nat) : (State.safeEvent s cause mask).now = s.now := by
  simp -proj [State.safeEvent]

@[simp] theorem State.safeStopMask_now (s : State) (mask : Nat) (cat : Nat) :
    (State.safeStopMask s mask cat).now = s.now := by
  unfold State.safeStopMask
  repeat' (first
    | with_reducible eq_refl | with_reducible exact mk_now .. | with_reducible refine ite_now ?_ ?_
    | (with_reducible refine (forAll_now _ _ fun _ _ => ?_).trans ?_)
    | (with_reducible refine (foldl_now _ _ _ fun _ _ => ?_).trans ?_)
    | dsimp -proj only | (simp -proj only [apply_ite State.now, ite_self]; done) | split | simp -proj)

@[simp] theorem State.runLoop_now (s : State) (n : Fin 8) : (State.runLoop s n).now = s.now := by
  unfold State.runLoop; split <;> simp -proj

@[simp] theorem State.toHfi_now (s : State) (n : Fin 8) (cause : Nat) : (State.toHfi s n cause).now = s.now := by
  simp -proj [State.toHfi]

@[simp] theorem State.refuse_now (s : State) (n : Fin 8) (stay : Bool) :
    (State.refuse s n stay).now = s.now := by
  unfold State.refuse
  repeat' (first
    | with_reducible eq_refl | with_reducible exact mk_now .. | with_reducible refine ite_now ?_ ?_
    | (with_reducible refine (forAll_now _ _ fun _ _ => ?_).trans ?_)
    | (with_reducible refine (foldl_now _ _ _ fun _ _ => ?_).trans ?_)
    | dsimp -proj only | (simp -proj only [apply_ite State.now, ite_self]; done) | split | simp -proj)

@[simp] theorem State.commitCouch_now (s : State) (n : Fin 8) (h : Handover) :
    (State.commitCouch s n h).now = s.now := by
  unfold State.commitCouch
  repeat' (first
    | with_reducible eq_refl | with_reducible exact mk_now .. | with_reducible refine ite_now ?_ ?_
    | (with_reducible refine (forAll_now _ _ fun _ _ => ?_).trans ?_)
    | (with_reducible refine (foldl_now _ _ _ fun _ _ => ?_).trans ?_)
    | dsimp -proj only | (simp -proj only [apply_ite State.now, ite_self]; done) | split | simp -proj)

@[simp] theorem State.settleHandover_now (s : State) (n : Fin 8) :
    (State.settleHandover s n).now = s.now := by
  unfold State.settleHandover
  repeat' (first
    | with_reducible eq_refl | with_reducible exact mk_now .. | with_reducible refine ite_now ?_ ?_
    | (with_reducible refine (forAll_now _ _ fun _ _ => ?_).trans ?_)
    | (with_reducible refine (foldl_now _ _ _ fun _ _ => ?_).trans ?_)
    | dsimp -proj only | (simp -proj only [apply_ite State.now, ite_self]; done) | split | simp -proj)

@[simp] theorem State.loseSync_now (s : State) (n : Fin 8) (crit : Nat) (value : Int) :
    (State.loseSync s n crit value).now = s.now := by
  simp -proj [State.loseSync]

@[simp] theorem State.position_now (s : State) (n : Fin 8) (missed : Bool) (first : Bool) :
    (State.position s n missed first).now = s.now := by
  unfold State.position
  repeat' (first
    | with_reducible eq_refl | with_reducible exact mk_now .. | with_reducible refine ite_now ?_ ?_
    | (with_reducible refine (forAll_now _ _ fun _ _ => ?_).trans ?_)
    | (with_reducible refine (foldl_now _ _ _ fun _ _ => ?_).trans ?_)
    | dsimp -proj only | (simp -proj only [apply_ite State.now, ite_self]; done) | split | simp -proj)

@[simp] theorem State.calenderOut_now (s : State) (n : Fin 8) (e : Eval) : (State.calenderOut s n e).now = s.now := by
  unfold State.calenderOut
  repeat' (first
    | with_reducible eq_refl | with_reducible exact mk_now .. | with_reducible refine ite_now ?_ ?_
    | (with_reducible refine (forAll_now _ _ fun _ _ => ?_).trans ?_)
    | (with_reducible refine (foldl_now _ _ _ fun _ _ => ?_).trans ?_)
    | dsimp -proj only | (simp -proj only [apply_ite State.now, ite_self]; done) | split | simp -proj)

@[simp] theorem State.missEval_now (s : State) (n : Fin 8) (k : Fin 3) (first : Bool) :
    (State.missEval s n k first).now = s.now := by
  unfold State.missEval
  repeat' (first
    | with_reducible eq_refl | with_reducible exact mk_now .. | with_reducible refine ite_now ?_ ?_
    | (with_reducible refine (forAll_now _ _ fun _ _ => ?_).trans ?_)
    | (with_reducible refine (foldl_now _ _ _ fun _ _ => ?_).trans ?_)
    | dsimp -proj only | (simp -proj only [apply_ite State.now, ite_self]; done) | split | simp -proj)

@[simp] theorem State.noteStatus_now (s : State) (n : Fin 8) :
    (State.noteStatus s n).now = s.now := by
  unfold State.noteStatus
  repeat' (first
    | with_reducible eq_refl | with_reducible exact mk_now .. | with_reducible refine ite_now ?_ ?_
    | (with_reducible refine (forAll_now _ _ fun _ _ => ?_).trans ?_)
    | (with_reducible refine (foldl_now _ _ _ fun _ _ => ?_).trans ?_)
    | dsimp -proj only | (simp -proj only [apply_ite State.now, ite_self]; done) | split | simp -proj)

@[simp] theorem State.noteOutputs_now (after before : State) (n : Fin 8) :
    (State.noteOutputs after before n).now = after.now := by
  unfold State.noteOutputs
  repeat' (first
    | with_reducible eq_refl | with_reducible exact mk_now .. | with_reducible refine ite_now ?_ ?_
    | (with_reducible refine (forAll_now _ _ fun _ _ => ?_).trans ?_)
    | (with_reducible refine (foldl_now _ _ _ fun _ _ => ?_).trans ?_)
    | dsimp -proj only | (simp -proj only [apply_ite State.now, ite_self]; done) | split | simp -proj)

@[simp] theorem State.startEvals_now (s : State) (n : Fin 8) (v : ValleySample) : (State.startEvals s n v).now = s.now := by
  unfold State.startEvals
  repeat' (first
    | with_reducible eq_refl | with_reducible exact mk_now .. | with_reducible refine ite_now ?_ ?_
    | (with_reducible refine (forAll_now _ _ fun _ _ => ?_).trans ?_)
    | (with_reducible refine (foldl_now _ _ _ fun _ _ => ?_).trans ?_)
    | dsimp -proj only | (simp -proj only [apply_ite State.now, ite_self]; done) | split | simp -proj)

@[simp] theorem State.settleEvals_now (s : State) (n : Fin 8) : (State.settleEvals s n).now = s.now := by
  simp -proj [State.settleEvals]

@[simp] theorem State.hfiStep_now (s : State) (n : Fin 8) (speedHfi : Int) : (State.hfiStep s n speedHfi).now = s.now := by
  unfold State.hfiStep
  repeat' (first
    | with_reducible eq_refl | with_reducible exact mk_now .. | with_reducible refine ite_now ?_ ?_
    | (with_reducible refine (forAll_now _ _ fun _ _ => ?_).trans ?_)
    | (with_reducible refine (foldl_now _ _ _ fun _ _ => ?_).trans ?_)
    | dsimp -proj only | (simp -proj only [apply_ite State.now, ite_self]; done) | split | simp -proj)

@[simp] theorem State.axisValley_now (s : State) (n : Fin 8) : (State.axisValley s n).now = s.now := by
  simp -proj [State.axisValley]

@[simp] theorem State.pinnedCoreFault_now (s : State) (c : Fin 32) : (State.pinnedCoreFault s c).now = s.now := by
  unfold State.pinnedCoreFault
  repeat' (first
    | with_reducible eq_refl | with_reducible exact mk_now .. | with_reducible refine ite_now ?_ ?_
    | (with_reducible refine (forAll_now _ _ fun _ _ => ?_).trans ?_)
    | (with_reducible refine (foldl_now _ _ _ fun _ _ => ?_).trans ?_)
    | dsimp -proj only | (simp -proj only [apply_ite State.now, ite_self]; done) | split | simp -proj)

@[simp] theorem State.weightError_now (s : State) (n : Fin 8) (k : Fin 3) : (State.weightError s n k).now = s.now := by
  simp -proj [State.weightError]

@[simp] theorem State.axisLoss_now (s : State) (n : Fin 8) : ((State.axisLoss s n).1).now = s.now := by
  unfold State.axisLoss
  repeat' (first
    | with_reducible eq_refl | with_reducible exact mk_now .. | with_reducible refine ite_now ?_ ?_
    | (with_reducible refine (forAll_now _ _ fun _ _ => ?_).trans ?_)
    | (with_reducible refine (foldl_now _ _ _ fun _ _ => ?_).trans ?_)
    | dsimp only | (simp -proj only [apply_ite State.now, ite_self]; done) | split | simp -proj)

@[simp] theorem axesWrite_now (s : State) (off : Nat) (v : Nat) : (axesWrite s off v).now = s.now := by
  unfold axesWrite
  repeat' (first
    | with_reducible eq_refl | with_reducible exact mk_now .. | with_reducible refine ite_now ?_ ?_
    | (with_reducible refine (forAll_now _ _ fun _ _ => ?_).trans ?_)
    | (with_reducible refine (foldl_now _ _ _ fun _ _ => ?_).trans ?_)
    | dsimp -proj only | (simp -proj only [apply_ite State.now, ite_self]; done) | split | simp -proj)

@[simp] theorem safetyWrite_now (s : State) (off : Nat) (v : Nat) : (safetyWrite s off v).now = s.now := by
  unfold safetyWrite; (repeat' split) <;> simp -proj

@[simp] theorem obsWrite_now (s : State) (off : Nat) (v : Nat) : (obsWrite s off v).now = s.now := by
  unfold obsWrite
  repeat' (first
    | with_reducible eq_refl | with_reducible exact mk_now .. | with_reducible refine ite_now ?_ ?_
    | (with_reducible refine (forAll_now _ _ fun _ _ => ?_).trans ?_)
    | (with_reducible refine (foldl_now _ _ _ fun _ _ => ?_).trans ?_)
    | dsimp -proj only | (simp -proj only [apply_ite State.now, ite_self]; done) | split | simp -proj)

@[simp] theorem State.noteFault_now (s : State) (cause : Nat) (owner : Nat) (job : Nat) (region : Nat) (line : Nat) :
    (State.noteFault s cause owner job region line).now = s.now := by
  simp -proj [State.noteFault]

@[simp] theorem State.readRange_now (s : State) (p : Port) (h off len : Nat) :
    (s.readRange p h off len).2.1.now = s.now := by
  unfold State.readRange
  split
  · rfl
  · split
    · rfl
    · split
      · simp [State.noteFault]
      · rfl

@[simp] theorem State.writeRange_now (s : State) (r : Region) (key : Nat) (off : Nat) (bs : Bytes) :
    (State.writeRange s r key off bs).now = s.now := by
  unfold State.writeRange
  repeat' (first
    | with_reducible eq_refl | with_reducible exact mk_now .. | with_reducible refine ite_now ?_ ?_
    | (with_reducible refine (forAll_now _ _ fun _ _ => ?_).trans ?_)
    | (with_reducible refine (foldl_now _ _ _ fun _ _ => ?_).trans ?_)
    | dsimp -proj only | (simp -proj only [apply_ite State.now, ite_self]; done) | split | simp -proj)

@[simp] theorem State.storeCmd_now (s : State) (t : Ticket) (h : Nat) (off : Nat) (bs : Bytes) :
    (State.storeCmd s t h off bs).now = s.now := by
  unfold State.storeCmd
  repeat' (first
    | with_reducible eq_refl | with_reducible exact mk_now .. | with_reducible refine ite_now ?_ ?_
    | (with_reducible refine (forAll_now _ _ fun _ _ => ?_).trans ?_)
    | (with_reducible refine (foldl_now _ _ _ fun _ _ => ?_).trans ?_)
    | dsimp -proj only | (simp -proj only [apply_ite State.now, ite_self]; done) | split | simp -proj)

@[simp] theorem State.spoilLine_now (s : State) (r : Region) (i : Nat) (kind : Nat) :
    (State.spoilLine s r i kind).now = s.now := by
  simp -proj [State.spoilLine]

@[simp] theorem memWriteReg_now (s : State) (off : Nat) (v : Nat) : (memWriteReg s off v).now = s.now := by
  unfold memWriteReg; (repeat' split) <;> simp -proj

@[simp] theorem State.unloadNet_now (s : State) (n : Fin 8) (k : Fin 3) :
    (State.unloadNet s n k).now = s.now := by
  unfold State.unloadNet
  repeat' (first
    | with_reducible eq_refl | with_reducible exact mk_now .. | with_reducible refine ite_now ?_ ?_
    | (with_reducible refine (forAll_now _ _ fun _ _ => ?_).trans ?_)
    | (with_reducible refine (foldl_now _ _ _ fun _ _ => ?_).trans ?_)
    | dsimp -proj only | (simp -proj only [apply_ite State.now, ite_self]; done) | split | simp -proj)

@[simp] theorem State.updUnit_now (s : State) (u : Fin 16) (f : Ltu → Ltu) : (State.updUnit s u f).now = s.now := by
  simp -proj [State.updUnit]

@[simp] theorem State.pcsLoop_now (s : State) (on : Bool) :
    (State.pcsLoop s on).now = s.now := by
  unfold State.pcsLoop
  repeat' (first
    | with_reducible eq_refl | with_reducible exact mk_now .. | with_reducible refine ite_now ?_ ?_
    | (with_reducible refine (forAll_now _ _ fun _ _ => ?_).trans ?_)
    | (with_reducible refine (foldl_now _ _ _ fun _ _ => ?_).trans ?_)
    | dsimp -proj only | (simp -proj only [apply_ite State.now, ite_self]; done) | split | simp -proj)

@[simp] theorem State.unitSends_now (s : State) (u : Fin 16) (on : Bool) :
    (State.unitSends s u on).now = s.now := by
  unfold State.unitSends
  extract_lets x s1
  have h : s1.now = s.now := ite_now rfl rfl
  exact ite_now ((State.pcsLoop_now _ _).trans h) (ite_now h h)

@[simp] theorem State.unitBack_now (s : State) (u : Fin 16) : (State.unitBack s u).now = s.now := by
  unfold State.unitBack; (repeat' split) <;> simp -proj

@[simp] theorem State.unitEnd_now (s : State) (u : Fin 16) (result : Nat) (event : Bool) :
    (State.unitEnd s u result event).now = s.now := by
  unfold State.unitEnd
  repeat' (first
    | with_reducible eq_refl | with_reducible exact mk_now .. | with_reducible refine ite_now ?_ ?_
    | (with_reducible refine (forAll_now _ _ fun _ _ => ?_).trans ?_)
    | (with_reducible refine (foldl_now _ _ _ fun _ _ => ?_).trans ?_)
    | dsimp -proj only | (simp -proj only [apply_ite State.now, ite_self]; done) | split | simp -proj)

@[simp] theorem State.unitStop_now (s : State) (u : Fin 16) (event : Bool) : (s.unitStop u event).now = s.now := by
  unfold State.unitStop
  extract_lets x s1
  have h1 : s1.now = s.now := ite_now (State.updUnit_now _ _ _) rfl
  rw [State.unitEnd_now]
  split
  · exact (mk_now ..).trans h1
  · exact h1

@[simp] theorem linkLatch_now (s : State) (off : Nat) : (linkLatch s off).now = s.now := by
  unfold linkLatch; (repeat' split) <;> simp -proj

@[simp] theorem linkWrite_now (s : State) (off : Nat) (v : Nat) : (linkWrite s off v).now = s.now := by
  unfold linkWrite
  repeat' (first
    | with_reducible eq_refl | with_reducible exact mk_now .. | with_reducible refine ite_now ?_ ?_
    | (with_reducible refine (forAll_now _ _ fun _ _ => ?_).trans ?_)
    | (with_reducible refine (foldl_now _ _ _ fun _ _ => ?_).trans ?_)
    | dsimp -proj only | (simp -proj only [apply_ite State.now, ite_self]; done) | split | simp -proj)

@[simp] theorem State.updJob_now (s : State) (t : Fin 64) (f : Job → Job) : (State.updJob s t f).now = s.now := by
  simp -proj [State.updJob]

@[simp] theorem State.portDisarmed_now (s : State) (port : Fin 6) :
    (State.portDisarmed s port).now = s.now := by
  unfold State.portDisarmed
  repeat' (first
    | with_reducible eq_refl | with_reducible exact mk_now .. | with_reducible refine ite_now ?_ ?_
    | (with_reducible refine (forAll_now _ _ fun _ _ => ?_).trans ?_)
    | (with_reducible refine (foldl_now _ _ _ fun _ _ => ?_).trans ?_)
    | dsimp -proj only | (simp -proj only [apply_ite State.now, ite_self]; done) | split | simp -proj)

@[simp] theorem State.releaseAttempt_now (s : State) (t : Fin 64) :
    (State.releaseAttempt s t).now = s.now := by
  unfold State.releaseAttempt
  repeat' (first
    | with_reducible eq_refl | with_reducible exact mk_now .. | with_reducible refine ite_now ?_ ?_
    | (with_reducible refine (forAll_now _ _ fun _ _ => ?_).trans ?_)
    | (with_reducible refine (foldl_now _ _ _ fun _ _ => ?_).trans ?_)
    | dsimp -proj only | (simp -proj only [apply_ite State.now, ite_self]; done) | split | simp -proj)

@[simp] theorem State.idleCores_now (s : State) (o : Option (Fin 64)) (cs : List (Fin 32)) : (State.idleCores s o cs).now = s.now := by
  simp -proj [State.idleCores]

@[simp] theorem State.hostsHwFail_now (s : State) :
    (State.hostsHwFail s).now = s.now := by
  unfold State.hostsHwFail
  repeat' (first
    | with_reducible eq_refl | with_reducible exact mk_now .. | with_reducible refine ite_now ?_ ?_
    | (with_reducible refine (forAll_now _ _ fun _ _ => ?_).trans ?_)
    | (with_reducible refine (foldl_now _ _ _ fun _ _ => ?_).trans ?_)
    | dsimp -proj only | (simp -proj only [apply_ite State.now, ite_self]; done) | split | simp -proj)

@[simp] theorem State.discard_now (s : State) (k : Fin 6) (cause : Nat) :
    (State.discard s k cause).now = s.now := by
  unfold State.discard
  split
  · exact (State.updSensor_now _ _ _).trans (ite_now (State.portDisarmed_now _ _) rfl)
  · rfl

@[simp] theorem State.startFrame_now (s : State) (k : Fin 6) (fnum : Nat) : (State.startFrame s k fnum).now = s.now := by
  unfold State.startFrame
  repeat' (first
    | with_reducible eq_refl | with_reducible exact mk_now .. | with_reducible refine ite_now ?_ ?_
    | (with_reducible refine (forAll_now _ _ fun _ _ => ?_).trans ?_)
    | (with_reducible refine (foldl_now _ _ _ fun _ _ => ?_).trans ?_)
    | dsimp -proj only | (simp -proj only [apply_ite State.now, ite_self]; done) | split | simp -proj)

@[simp] theorem State.disarm_now (s : State) (k : Fin 6) (after : Bool) : (State.disarm s k after).now = s.now := by
  unfold State.disarm
  exact ite_now (State.updSensor_now _ _ _)
    (ite_now ((State.updSensor_now _ _ _).trans (State.portDisarmed_now _ _)) rfl)

@[simp] theorem sensorsLatch_now (s : State) (off : Nat) : (sensorsLatch s off).now = s.now := by
  unfold sensorsLatch; (repeat' split) <;> simp -proj

@[simp] theorem sensorsWrite_now (s : State) (off : Nat) (v : Nat) : (sensorsWrite s off v).now = s.now := by
  unfold sensorsWrite; (repeat' split) <;> simp -proj

@[simp] theorem State.toTb_now (s : State) (st : TbSt) : (State.toTb s st).now = s.now := by
  unfold State.toTb
  repeat' (first
    | with_reducible eq_refl | with_reducible exact mk_now .. | with_reducible refine ite_now ?_ ?_
    | (with_reducible refine (forAll_now _ _ fun _ _ => ?_).trans ?_)
    | (with_reducible refine (foldl_now _ _ _ fun _ _ => ?_).trans ?_)
    | dsimp -proj only | (simp -proj only [apply_ite State.now, ite_self]; done) | split | simp -proj)

@[simp] theorem State.useRef_now (s : State) (r : Ref) : (State.useRef s r).now = s.now := by
  unfold State.useRef
  repeat' (first
    | with_reducible eq_refl | with_reducible exact mk_now .. | with_reducible refine ite_now ?_ ?_
    | (with_reducible refine (forAll_now _ _ fun _ _ => ?_).trans ?_)
    | (with_reducible refine (foldl_now _ _ _ fun _ _ => ?_).trans ?_)
    | dsimp -proj only | (simp -proj only [apply_ite State.now, ite_self]; done) | split | simp -proj)

@[simp] theorem State.judgeRef_now (s : State) : (State.judgeRef s).now = s.now := by
  simp -proj [State.judgeRef]

@[simp] theorem State.servo_now (s : State) (o : Int) (at_ : Nat) :
    (State.servo s o at_).now = s.now := State.updTb_now _ _

@[simp] theorem State.firstOffset_now (s : State) (o : Int) (at_ : Nat) :
    (State.firstOffset s o at_).now = s.now := State.updTb_now _ _

@[simp] theorem State.takeOffset_now (s0 : State) (o : Int) (at_ : Nat) :
    (State.takeOffset s0 o at_).now = s0.now := by
  unfold State.takeOffset
  repeat' (first
    | with_reducible eq_refl | with_reducible exact mk_now .. | with_reducible refine ite_now ?_ ?_
    | (with_reducible refine (forAll_now _ _ fun _ _ => ?_).trans ?_)
    | (with_reducible refine (foldl_now _ _ _ fun _ _ => ?_).trans ?_)
    | dsimp -proj only | (simp -proj only [apply_ite State.now, ite_self]; done) | split | simp -proj)

@[simp] theorem State.updPulse_now (s : State) (p : Fin 4) (f : Pulse → Pulse) : (State.updPulse s p f).now = s.now := by
  simp -proj [State.updPulse]

@[simp] theorem State.stepTime_now (s : State) :
    (State.stepTime s).now = s.now := by
  unfold State.stepTime
  repeat' (first
    | with_reducible eq_refl | with_reducible exact mk_now .. | with_reducible refine ite_now ?_ ?_
    | (with_reducible refine (forAll_now _ _ fun _ _ => ?_).trans ?_)
    | (with_reducible refine (foldl_now _ _ _ fun _ _ => ?_).trans ?_)
    | dsimp -proj only | (simp -proj only [apply_ite State.now, ite_self]; done) | split | simp -proj)

@[simp] theorem State.stepReport_now (s : State) :
    (State.stepReport s).now = s.now := by
  unfold State.stepReport
  repeat' (first
    | with_reducible eq_refl | with_reducible exact mk_now .. | with_reducible refine ite_now ?_ ?_
    | (with_reducible refine (forAll_now _ _ fun _ _ => ?_).trans ?_)
    | (with_reducible refine (foldl_now _ _ _ fun _ _ => ?_).trans ?_)
    | dsimp -proj only | (simp -proj only [apply_ite State.now, ite_self]; done) | split | simp -proj)

@[simp] theorem State.loseRefs_now (s : State) (ptp ppsi : Bool) :
    (State.loseRefs s ptp ppsi).now = s.now := by
  unfold State.loseRefs
  repeat' (first
    | with_reducible eq_refl | with_reducible exact mk_now .. | with_reducible refine ite_now ?_ ?_
    | (with_reducible refine (forAll_now _ _ fun _ _ => ?_).trans ?_)
    | (with_reducible refine (foldl_now _ _ _ fun _ _ => ?_).trans ?_)
    | dsimp -proj only | (simp -proj only [apply_ite State.now, ite_self]; done) | split | simp -proj)

@[simp] theorem State.losePtp_now (s : State) : (State.losePtp s).now = s.now := by
  simp -proj [State.losePtp]

@[simp] theorem State.losePpsi_now (s : State) : (State.losePpsi s).now = s.now := by
  simp -proj [State.losePpsi]

@[simp] theorem State.updPtp_now (s : State) (f : Ptp → Ptp) : (State.updPtp s f).now = s.now := by
  simp -proj [State.updPtp]

@[simp] theorem State.ptpDiscard_now (s : State) : (State.ptpDiscard s).now = s.now := by
  simp -proj [State.ptpDiscard]

@[simp] theorem State.ptpMessage_now (s : State) (m : PtpRx) (domain : Nat) (f : State → State) (h : ∀ s, (f s).now = s.now) :
    (State.ptpMessage s m domain f).now = s.now := by
  unfold State.ptpMessage
  repeat' (first
    | with_reducible eq_refl | with_reducible exact mk_now .. | with_reducible refine ite_now ?_ ?_
    | (with_reducible refine (forAll_now _ _ fun _ _ => ?_).trans ?_)
    | (with_reducible refine (foldl_now _ _ _ fun _ _ => ?_).trans ?_)
    | dsimp -proj only | (simp -proj only [apply_ite State.now, ite_self]; done) | split | simp -proj [h])

@[simp] theorem State.announced_now (s : State) (m : PtpAnnounce) :
    (State.announced s m).now = s.now := by
  unfold State.announced
  repeat' (first
    | with_reducible eq_refl | with_reducible exact mk_now .. | with_reducible refine ite_now ?_ ?_
    | (with_reducible refine (forAll_now _ _ fun _ _ => ?_).trans ?_)
    | (with_reducible refine (foldl_now _ _ _ fun _ _ => ?_).trans ?_)
    | dsimp -proj only | (simp -proj only [apply_ite State.now, ite_self]; done) | split | simp -proj)

@[simp] theorem State.ptpSynced_now (s : State) (rx origin : Int) (at_ : Nat) :
    (State.ptpSynced s rx origin at_).now = s.now := by
  unfold State.ptpSynced
  repeat' (first
    | with_reducible eq_refl | with_reducible exact mk_now .. | with_reducible refine ite_now ?_ ?_
    | (with_reducible refine (forAll_now _ _ fun _ _ => ?_).trans ?_)
    | (with_reducible refine (foldl_now _ _ _ fun _ _ => ?_).trans ?_)
    | dsimp -proj only | (simp -proj only [apply_ite State.now, ite_self]; done) | split | simp -proj)

@[simp] theorem State.sendPtp_now (s : State) (peer event : Bool) (bs : Bytes) :
    (State.sendPtp s peer event bs).now = s.now := by
  unfold State.sendPtp
  repeat' (first
    | with_reducible eq_refl | with_reducible exact mk_now .. | with_reducible refine ite_now ?_ ?_
    | (with_reducible refine (forAll_now _ _ fun _ _ => ?_).trans ?_)
    | (with_reducible refine (foldl_now _ _ _ fun _ _ => ?_).trans ?_)
    | dsimp -proj only | (simp -proj only [apply_ite State.now, ite_self]; done) | split | simp -proj)

@[simp] theorem State.pdelayIs_now (s : State) (d : Int) : (State.pdelayIs s d).now = s.now := by
  simp -proj [State.pdelayIs]

@[simp] theorem State.selectRef_now (s : State) (n : TbSettings) : (State.selectRef s n).now = s.now := by
  unfold State.selectRef
  repeat' (first
    | with_reducible eq_refl | with_reducible exact mk_now .. | with_reducible refine ite_now ?_ ?_
    | (with_reducible refine (forAll_now _ _ fun _ _ => ?_).trans ?_)
    | (with_reducible refine (foldl_now _ _ _ fun _ _ => ?_).trans ?_)
    | dsimp -proj only | (simp -proj only [apply_ite State.now, ite_self]; done) | split | simp -proj)

@[simp] theorem State.timeStop_now (s : State) : (State.timeStop s).now = s.now := by
  simp -proj [State.timeStop]

@[simp] theorem State.timeLoad_now (s : State) : (State.timeLoad s).now = s.now := by
  unfold State.timeLoad; split <;> simp -proj

@[simp] theorem tbLatch_now (s : State) (off : Nat) : (tbLatch s off).now = s.now := by
  unfold tbLatch; split <;> simp -proj

@[simp] theorem tbWrite_now (s : State) (off : Nat) (v : Nat) : (tbWrite s off v).now = s.now := by
  unfold tbWrite; (repeat' split) <;> simp -proj

@[simp] theorem State.updSlot_now (s : State) (i : Fin 32) (f : RSlot → RSlot) : (State.updSlot s i f).now = s.now := by
  simp -proj [State.updSlot]

@[simp] theorem State.addEntry_now (s : State) (i : Fin 32) (e : Bytes) : (State.addEntry s i e).now = s.now := by
  simp -proj [State.addEntry]

@[simp] theorem State.report_now (s : State) (i : Fin 32) (q : SendQ) (result : Nat) :
    (State.report s i q result).now = s.now := by
  simp -proj [State.report]

@[simp] theorem State.dropSends_now (s : State) (i : Fin 32) (result : Nat) : (State.dropSends s i result).now = s.now := by
  simp -proj [State.dropSends]

@[simp] theorem State.admitEvent_now (s : State) (i : Fin 32) (result : Nat) :
    (State.admitEvent s i result).now = s.now := by
  simp -proj [State.admitEvent]

@[simp] theorem State.interfEvent_now (s : State) (old : Nat) (new_ : Nat) (count : Nat) (evm : Nat) :
    (State.interfEvent s old new_ count evm).now = s.now := by
  simp -proj [State.interfEvent]

@[simp] theorem State.interference_now (s : State) (ed : Int) (locked : Bool) :
    (State.interference s ed locked).now = s.now := by
  unfold State.interference
  repeat' (first
    | with_reducible eq_refl | with_reducible exact mk_now .. | with_reducible refine ite_now ?_ ?_
    | (with_reducible refine (forAll_now _ _ fun _ _ => ?_).trans ?_)
    | (with_reducible refine (foldl_now _ _ _ fun _ _ => ?_).trans ?_)
    | dsimp -proj only | (simp -proj only [apply_ite State.now, ite_self]; done) | split | simp -proj)

@[simp] theorem State.dropMisfits_now (s : State) : (State.dropMisfits s).now = s.now := by
  simp -proj [State.dropMisfits]

@[simp] theorem State.tookFc_now (s : State) : (State.tookFc s).now = s.now := by
  unfold State.tookFc
  repeat' (first
    | with_reducible eq_refl | with_reducible exact mk_now .. | with_reducible refine ite_now ?_ ?_
    | (with_reducible refine (forAll_now _ _ fun _ _ => ?_).trans ?_)
    | (with_reducible refine (foldl_now _ _ _ fun _ _ => ?_).trans ?_)
    | dsimp -proj only | (simp -proj only [apply_ite State.now, ite_self]; done) | split | simp -proj)

@[simp] theorem State.queuedFrame_now (s : State) (i : Fin 32) (ftype : Nat) (q : SendQ) :
    ((State.queuedFrame s i ftype q).1).now = s.now := by
  unfold State.queuedFrame
  repeat' (first
    | with_reducible eq_refl | with_reducible exact mk_now .. | with_reducible refine ite_now ?_ ?_
    | (with_reducible refine (forAll_now _ _ fun _ _ => ?_).trans ?_)
    | (with_reducible refine (foldl_now _ _ _ fun _ _ => ?_).trans ?_)
    | dsimp only | (simp -proj only [apply_ite State.now, ite_self]; done) | split | simp -proj)

@[simp] theorem State.heard_now (s : State) (i : Fin 32) : (State.heard s i).now = s.now := by
  simp -proj [State.heard]

@[simp] theorem State.coordAck_now (s : State) (seq : Nat) : (State.coordAck s seq).now = s.now := by
  unfold State.coordAck
  repeat' (first
    | with_reducible eq_refl | with_reducible exact mk_now .. | with_reducible refine ite_now ?_ ?_
    | (with_reducible refine (forAll_now _ _ fun _ _ => ?_).trans ?_)
    | (with_reducible refine (foldl_now _ _ _ fun _ _ => ?_).trans ?_)
    | dsimp -proj only | (simp -proj only [apply_ite State.now, ite_self]; done) | split | simp -proj)

@[simp] theorem State.radioRx_now (s : State) (rx : RadioRx) (t : Bool) (f : State → State) (h : ∀ s, (f s).now = s.now) :
    (s.radioRx rx t f).now = s.now := by
  unfold State.radioRx
  exact ite_now (ite_now rfl (h _)) rfl

@[simp] theorem State.micFailed_now (s : State) : (State.micFailed s).now = s.now := by
  simp -proj [State.micFailed]

@[simp] theorem State.replayed_now (s : State) : (State.replayed s).now = s.now := by
  simp -proj [State.replayed]

@[simp] theorem State.joinRefused_now (s : State) (i : Fin 32) : (State.joinRefused s i).now = s.now := by
  unfold State.joinRefused
  repeat' (first
    | with_reducible eq_refl | with_reducible exact mk_now .. | with_reducible refine ite_now ?_ ?_
    | (with_reducible refine (forAll_now _ _ fun _ _ => ?_).trans ?_)
    | (with_reducible refine (foldl_now _ _ _ fun _ _ => ?_).trans ?_)
    | dsimp -proj only | (simp -proj only [apply_ite State.now, ite_self]; done) | split | simp -proj)

@[simp] theorem State.tagSlotLoss_now (s : State) (i : Fin 32) : (State.tagSlotLoss s i).now = s.now := by
  simp -proj [State.tagSlotLoss]

@[simp] theorem radioWrite_now (s : State) (off : Nat) (v : Nat) : (radioWrite s off v).now = s.now := by
  unfold radioWrite; split <;> simp -proj

@[simp] theorem State.radioStart_now (s : State) : (State.radioStart s).now = s.now := by
  unfold State.radioStart
  repeat' (first
    | with_reducible eq_refl | with_reducible exact mk_now .. | with_reducible refine ite_now ?_ ?_
    | (with_reducible refine (forAll_now _ _ fun _ _ => ?_).trans ?_)
    | (with_reducible refine (foldl_now _ _ _ fun _ _ => ?_).trans ?_)
    | dsimp -proj only | (simp -proj only [apply_ite State.now, ite_self]; done) | split | simp -proj)

@[simp] theorem State.lossOf_now (s : State) (cls : Nat) (idx : Nat) : ((State.lossOf s cls idx).1).now = s.now := by
  unfold State.lossOf
  repeat' (first
    | with_reducible eq_refl | with_reducible exact mk_now .. | with_reducible refine ite_now ?_ ?_
    | (with_reducible refine (forAll_now _ _ fun _ _ => ?_).trans ?_)
    | (with_reducible refine (foldl_now _ _ _ fun _ _ => ?_).trans ?_)
    | dsimp only | (simp -proj only [apply_ite State.now, ite_self]; done) | split | simp -proj)

@[simp] theorem State.endLease_now (s : State) (cls idx : Nat) (e : Bool) : (s.endLease cls idx e).1.now = s.now := by
  unfold State.endLease
  split
  · rfl
  · extract_lets r l
    exact (mk_now ..).trans (s.lossOf_now cls idx)

@[simp] theorem State.releaseAll_now (s : State) (p : Port) : (State.releaseAll s p).now = s.now := by
  unfold State.releaseAll
  repeat' (first
    | with_reducible eq_refl | with_reducible exact mk_now .. | with_reducible refine ite_now ?_ ?_
    | (with_reducible refine (forAll_now _ _ fun _ _ => ?_).trans ?_)
    | (with_reducible refine (foldl_now _ _ _ fun _ _ => ?_).trans ?_)
    | dsimp -proj only | (simp -proj only [apply_ite State.now, ite_self]; done) | split | simp -proj)

@[simp] theorem State.expire_now (s : State) (cls : Nat) (idx : Nat) : (State.expire s cls idx).now = s.now := by
  unfold State.expire; (repeat' split) <;> simp -proj

@[simp] theorem State.hold_now (s : State) (p : Port) (cls : Nat) (idx : Nat) (ms : Nat) :
    (State.hold s p cls idx ms).now = s.now := by
  simp -proj [State.hold]

end Sys2Proof.Machine
end

