-- ==== Sys2Proof/Laws/Order.lean ====
section
/-! SUPPORT. What giving way can do: a row put off changes nothing but the list of rows that gave way, and gives way only while
some row of its tick has yet to act. -/

namespace Sys2Proof.Machine

/-- A row put off changes nothing but the list of rows that gave way. -/
theorem State.putOff_eq (s : State) (c : Instr) : { s.putOff c with deferred := s.deferred } = s := rfl

/-- With no row of the tick yet to act, none is behind. -/
theorem State.behind_none {s : State} (f : Instr → Bool) (hp : s.pending = []) (hd : s.deferred = []) : s.behind f = false := by
  simp [State.behind, hp, hd]

/-- Some row behind meets the condition: it waits in the queue or has given way. -/
theorem State.behind_iff (s : State) (f : Instr → Bool) :
    s.behind f = true ↔ ∃ c, (c ∈ s.pending ∨ c ∈ s.deferred) ∧ f c = true := by
  simp only [State.behind, Bool.or_eq_true, List.any_eq_true]
  constructor
  · rintro (⟨c, h, hf⟩ | ⟨c, h, hf⟩)
    · exact ⟨c, .inl h, hf⟩
    · exact ⟨c, .inr h, hf⟩
  · rintro ⟨c, h | h, hf⟩
    · exact .inl ⟨c, h, hf⟩
    · exact .inr ⟨c, h, hf⟩

/-- A condition that holds of fewer rows is met behind less often. -/
theorem State.behind_mono {s : State} {f g : Instr → Bool} (h : ∀ c, f c = true → g c = true) (hf : s.behind f = true) :
    s.behind g = true := by
  obtain ⟨c, hc, hx⟩ := (s.behind_iff f).1 hf
  exact (s.behind_iff g).2 ⟨c, hc, h c hx⟩

/-- No commands wait when nothing has arrived and no row of the tick is yet to act. -/
theorem State.commandsWait_none {s : State} (ha : s.arrivals = []) (hp : s.pending = []) (hd : s.deferred = []) :
    s.commandsWait = false := by
  simp [State.commandsWait, ha, State.behind_none _ hp hd]

/-- No fault of an attempt comes when no row of the tick is yet to act. -/
theorem State.faultComes_none {s : State} (t : Fin 64) (hp : s.pending = []) (hd : s.deferred = []) : s.faultComes t = false :=
  State.behind_none _ hp hd

end Sys2Proof.Machine
end

