-- ==== Sys2Proof/Laws/Sessions.lean ====
section
/-! SUPPORT. The sessions: stops, losses, loss actions and the other effects that raise events leave them, but for events and subscriptions. -/

set_option linter.all false

namespace Sys2Proof.Machine

@[simp] theorem forAll_sessions {n : Nat} (s : State) (f : State → Fin n → State) (h : ∀ s i, (f s i).sessions = s.sessions) :
    (forAll s f).sessions = s.sessions := by
  unfold forAll
  generalize List.finRange n = l
  induction l generalizing s with
  | nil => rfl
  | cons a l ih => exact (ih _).trans (h s a)

@[simp] theorem foldl_sessions {α : Type} (l : List α) (s : State) (f : State → α → State) (h : ∀ s i, (f s i).sessions = s.sessions) :
    (l.foldl f s).sessions = s.sessions := by
  induction l generalizing s with
  | nil => rfl
  | cons a l ih => exact (ih _).trans (h s a)

theorem mk_sessions (x_now x_d02 x_free x_draws x_serial x_pending x_deferred x_out x_arrivals x_commit x_thermal x_avs x_fabric x_boot x_otp x_flash x_leases x_hpa x_net x_mem x_keys x_cores x_jobs x_headbox x_sensors x_tb x_timers x_axes x_safety x_illum x_lbus x_radio x_tag x_test x_store) (s : State) :
    (State.mk x_now x_d02 x_free x_draws x_serial x_pending x_deferred x_out x_arrivals x_commit x_thermal x_avs x_fabric x_boot x_otp x_flash s.owners x_leases x_hpa x_net x_mem x_keys x_cores x_jobs x_headbox x_sensors x_tb x_timers x_axes x_safety x_illum x_lbus x_radio x_tag x_test x_store).sessions = s.sessions := State.sessions_of_owners rfl

@[simp] theorem ite_sessions {c : Prop} [Decidable c] {a b : State} {x : State} (h1 : a.sessions = x.sessions) (h2 : b.sessions = x.sessions) :
    (if c then a else b).sessions = x.sessions := by split <;> assumption

@[simp] theorem dite_sessions {c : Prop} [Decidable c] {a : c → State} {b : ¬ c → State} {x : State} (h1 : ∀ h, (a h).sessions = x.sessions) (h2 : ∀ h, (b h).sessions = x.sessions) :
    (if h : c then a h else b h).sessions = x.sessions := by split <;> simp [h1, h2]

@[simp] theorem State.tookFree_sessions (s : State) : (State.tookFree s).sessions = s.sessions := by
  unfold State.tookFree
  repeat' (first
    | with_reducible eq_refl | with_reducible exact mk_sessions .. | with_reducible refine ite_sessions ?_ ?_
    | (with_reducible refine (forAll_sessions _ _ fun _ _ => ?_).trans ?_)
    | (with_reducible refine (foldl_sessions _ _ _ fun _ _ => ?_).trans ?_)
    | dsimp -proj only | (simp -proj only [apply_ite State.sessions, ite_self]; done) | split | simp -proj)

@[simp] theorem State.drew_sessions (s : State) : (State.drew s).sessions = s.sessions := by
  unfold State.drew
  repeat' (first
    | with_reducible eq_refl | with_reducible exact mk_sessions .. | with_reducible refine ite_sessions ?_ ?_
    | (with_reducible refine (forAll_sessions _ _ fun _ _ => ?_).trans ?_)
    | (with_reducible refine (foldl_sessions _ _ _ fun _ _ => ?_).trans ?_)
    | dsimp -proj only | (simp -proj only [apply_ite State.sessions, ite_self]; done) | split | simp -proj)

@[simp] theorem State.storePush_sessions (s : State) (item : StoreItem) (ticket : Option Ticket) :
    (State.storePush s item ticket).sessions = s.sessions := by
  unfold State.storePush
  repeat' (first
    | with_reducible eq_refl | with_reducible exact mk_sessions .. | with_reducible refine ite_sessions ?_ ?_
    | (with_reducible refine (forAll_sessions _ _ fun _ _ => ?_).trans ?_)
    | (with_reducible refine (foldl_sessions _ _ _ fun _ _ => ?_).trans ?_)
    | dsimp -proj only | (simp -proj only [apply_ite State.sessions, ite_self]; done) | split | simp -proj)

@[simp] theorem State.updAxis_sessions (s : State) (n : Fin 8) (f : Axis → Axis) :
    (State.updAxis s n f).sessions = s.sessions := by
  unfold State.updAxis
  repeat' (first
    | with_reducible eq_refl | with_reducible exact mk_sessions .. | with_reducible refine ite_sessions ?_ ?_
    | (with_reducible refine (forAll_sessions _ _ fun _ _ => ?_).trans ?_)
    | (with_reducible refine (foldl_sessions _ _ _ fun _ _ => ?_).trans ?_)
    | dsimp -proj only | (simp -proj only [apply_ite State.sessions, ite_self]; done) | split | simp -proj)

@[simp] theorem State.updSensor_sessions (s : State) (n : Fin 6) (f : SnsPort → SnsPort) :
    (State.updSensor s n f).sessions = s.sessions := by
  unfold State.updSensor
  repeat' (first
    | with_reducible eq_refl | with_reducible exact mk_sessions .. | with_reducible refine ite_sessions ?_ ?_
    | (with_reducible refine (forAll_sessions _ _ fun _ _ => ?_).trans ?_)
    | (with_reducible refine (foldl_sessions _ _ _ fun _ _ => ?_).trans ?_)
    | dsimp -proj only | (simp -proj only [apply_ite State.sessions, ite_self]; done) | split | simp -proj)

@[simp] theorem State.updTimer_sessions (s : State) (n : Fin 16) (f : Timer → Timer) :
    (State.updTimer s n f).sessions = s.sessions := by
  unfold State.updTimer
  repeat' (first
    | with_reducible eq_refl | with_reducible exact mk_sessions .. | with_reducible refine ite_sessions ?_ ?_
    | (with_reducible refine (forAll_sessions _ _ fun _ _ => ?_).trans ?_)
    | (with_reducible refine (foldl_sessions _ _ _ fun _ _ => ?_).trans ?_)
    | dsimp -proj only | (simp -proj only [apply_ite State.sessions, ite_self]; done) | split | simp -proj)

@[simp] theorem State.updIllum_sessions (s : State) (f : Illum → Illum) : (State.updIllum s f).sessions = s.sessions := by
  unfold State.updIllum
  repeat' (first
    | with_reducible eq_refl | with_reducible exact mk_sessions .. | with_reducible refine ite_sessions ?_ ?_
    | (with_reducible refine (forAll_sessions _ _ fun _ _ => ?_).trans ?_)
    | (with_reducible refine (foldl_sessions _ _ _ fun _ _ => ?_).trans ?_)
    | dsimp -proj only | (simp -proj only [apply_ite State.sessions, ite_self]; done) | split | simp -proj)

@[simp] theorem State.updLbus_sessions (s : State) (f : Lbus → Lbus) : (State.updLbus s f).sessions = s.sessions := by
  unfold State.updLbus
  repeat' (first
    | with_reducible eq_refl | with_reducible exact mk_sessions .. | with_reducible refine ite_sessions ?_ ?_
    | (with_reducible refine (forAll_sessions _ _ fun _ _ => ?_).trans ?_)
    | (with_reducible refine (foldl_sessions _ _ _ fun _ _ => ?_).trans ?_)
    | dsimp -proj only | (simp -proj only [apply_ite State.sessions, ite_self]; done) | split | simp -proj)

@[simp] theorem State.updRadio_sessions (s : State) (f : Radio → Radio) : (State.updRadio s f).sessions = s.sessions := by
  unfold State.updRadio
  repeat' (first
    | with_reducible eq_refl | with_reducible exact mk_sessions .. | with_reducible refine ite_sessions ?_ ?_
    | (with_reducible refine (forAll_sessions _ _ fun _ _ => ?_).trans ?_)
    | (with_reducible refine (foldl_sessions _ _ _ fun _ _ => ?_).trans ?_)
    | dsimp -proj only | (simp -proj only [apply_ite State.sessions, ite_self]; done) | split | simp -proj)

@[simp] theorem State.updTest_sessions (s : State) (f : LinkTest → LinkTest) :
    (State.updTest s f).sessions = s.sessions := by
  unfold State.updTest
  repeat' (first
    | with_reducible eq_refl | with_reducible exact mk_sessions .. | with_reducible refine ite_sessions ?_ ?_
    | (with_reducible refine (forAll_sessions _ _ fun _ _ => ?_).trans ?_)
    | (with_reducible refine (foldl_sessions _ _ _ fun _ _ => ?_).trans ?_)
    | dsimp -proj only | (simp -proj only [apply_ite State.sessions, ite_self]; done) | split | simp -proj)

@[simp] theorem State.updTag_sessions (s : State) (f : Tag → Tag) : (State.updTag s f).sessions = s.sessions := by
  unfold State.updTag
  repeat' (first
    | with_reducible eq_refl | with_reducible exact mk_sessions .. | with_reducible refine ite_sessions ?_ ?_
    | (with_reducible refine (forAll_sessions _ _ fun _ _ => ?_).trans ?_)
    | (with_reducible refine (foldl_sessions _ _ _ fun _ _ => ?_).trans ?_)
    | dsimp -proj only | (simp -proj only [apply_ite State.sessions, ite_self]; done) | split | simp -proj)

@[simp] theorem State.updTb_sessions (s : State) (f : Timebase → Timebase) : (State.updTb s f).sessions = s.sessions := by
  unfold State.updTb
  repeat' (first
    | with_reducible eq_refl | with_reducible exact mk_sessions .. | with_reducible refine ite_sessions ?_ ?_
    | (with_reducible refine (forAll_sessions _ _ fun _ _ => ?_).trans ?_)
    | (with_reducible refine (foldl_sessions _ _ _ fun _ _ => ?_).trans ?_)
    | dsimp -proj only | (simp -proj only [apply_ite State.sessions, ite_self]; done) | split | simp -proj)

@[simp] theorem State.updJobs_sessions (s : State) (f : Jobs → Jobs) : (State.updJobs s f).sessions = s.sessions := by
  unfold State.updJobs
  repeat' (first
    | with_reducible eq_refl | with_reducible exact mk_sessions .. | with_reducible refine ite_sessions ?_ ?_
    | (with_reducible refine (forAll_sessions _ _ fun _ _ => ?_).trans ?_)
    | (with_reducible refine (foldl_sessions _ _ _ fun _ _ => ?_).trans ?_)
    | dsimp -proj only | (simp -proj only [apply_ite State.sessions, ite_self]; done) | split | simp -proj)

@[simp] theorem State.updMem_sessions (s : State) (f : MemState → MemState) : (State.updMem s f).sessions = s.sessions := by
  unfold State.updMem
  repeat' (first
    | with_reducible eq_refl | with_reducible exact mk_sessions .. | with_reducible refine ite_sessions ?_ ?_
    | (with_reducible refine (forAll_sessions _ _ fun _ _ => ?_).trans ?_)
    | (with_reducible refine (foldl_sessions _ _ _ fun _ _ => ?_).trans ?_)
    | dsimp -proj only | (simp -proj only [apply_ite State.sessions, ite_self]; done) | split | simp -proj)

@[simp] theorem State.updKeys_sessions (s : State) (f : KeyState → KeyState) :
    (State.updKeys s f).sessions = s.sessions := by
  unfold State.updKeys
  repeat' (first
    | with_reducible eq_refl | with_reducible exact mk_sessions .. | with_reducible refine ite_sessions ?_ ?_
    | (with_reducible refine (forAll_sessions _ _ fun _ _ => ?_).trans ?_)
    | (with_reducible refine (foldl_sessions _ _ _ fun _ _ => ?_).trans ?_)
    | dsimp -proj only | (simp -proj only [apply_ite State.sessions, ite_self]; done) | split | simp -proj)

@[simp] theorem State.updHpa_sessions (s : State) (f : Hpa → Hpa) : (State.updHpa s f).sessions = s.sessions := by
  unfold State.updHpa
  repeat' (first
    | with_reducible eq_refl | with_reducible exact mk_sessions .. | with_reducible refine ite_sessions ?_ ?_
    | (with_reducible refine (forAll_sessions _ _ fun _ _ => ?_).trans ?_)
    | (with_reducible refine (foldl_sessions _ _ _ fun _ _ => ?_).trans ?_)
    | dsimp -proj only | (simp -proj only [apply_ite State.sessions, ite_self]; done) | split | simp -proj)

@[simp] theorem State.updNet_sessions (s : State) (f : Net → Net) : (State.updNet s f).sessions = s.sessions := by
  unfold State.updNet
  repeat' (first
    | with_reducible eq_refl | with_reducible exact mk_sessions .. | with_reducible refine ite_sessions ?_ ?_
    | (with_reducible refine (forAll_sessions _ _ fun _ _ => ?_).trans ?_)
    | (with_reducible refine (foldl_sessions _ _ _ fun _ _ => ?_).trans ?_)
    | dsimp -proj only | (simp -proj only [apply_ite State.sessions, ite_self]; done) | split | simp -proj)

@[simp] theorem State.updBoot_sessions (s : State) (f : Boot → Boot) : (State.updBoot s f).sessions = s.sessions := by
  unfold State.updBoot
  repeat' (first
    | with_reducible eq_refl | with_reducible exact mk_sessions .. | with_reducible refine ite_sessions ?_ ?_
    | (with_reducible refine (forAll_sessions _ _ fun _ _ => ?_).trans ?_)
    | (with_reducible refine (foldl_sessions _ _ _ fun _ _ => ?_).trans ?_)
    | dsimp -proj only | (simp -proj only [apply_ite State.sessions, ite_self]; done) | split | simp -proj)

@[simp] theorem State.fillSlot_sessions (s : State) (i : Fin 74) :
    (State.fillSlot s i).sessions = s.sessions := by
  unfold State.fillSlot
  repeat' (first
    | with_reducible eq_refl | with_reducible exact mk_sessions .. | with_reducible refine ite_sessions ?_ ?_
    | (with_reducible refine (forAll_sessions _ _ fun _ _ => ?_).trans ?_)
    | (with_reducible refine (foldl_sessions _ _ _ fun _ _ => ?_).trans ?_)
    | dsimp -proj only | (simp -proj only [apply_ite State.sessions, ite_self]; done) | split | simp -proj)

@[simp] theorem State.forgo_sessions (s : State) (via : Carriage) :
    (State.forgo s via).sessions = s.sessions := by
  unfold State.forgo
  repeat' (first
    | with_reducible eq_refl | with_reducible exact mk_sessions .. | with_reducible refine ite_sessions ?_ ?_
    | (with_reducible refine (forAll_sessions _ _ fun _ _ => ?_).trans ?_)
    | (with_reducible refine (foldl_sessions _ _ _ fun _ _ => ?_).trans ?_)
    | dsimp -proj only | (simp -proj only [apply_ite State.sessions, ite_self]; done) | split | simp -proj)

@[simp] theorem State.closeStage_sessions (s : State) : (State.closeStage s).sessions = s.sessions := by
  simp -proj [State.closeStage]

@[simp] theorem State.closeStageOf_sessions (s : State) (p : Port) : (State.closeStageOf s p).sessions = s.sessions := by
  unfold State.closeStageOf; (repeat' split) <;> simp -proj

@[simp] theorem State.updCores_sessions (s : State) (f : Cores → Cores) : (State.updCores s f).sessions = s.sessions := by
  unfold State.updCores
  repeat' (first
    | with_reducible eq_refl | with_reducible exact mk_sessions .. | with_reducible refine ite_sessions ?_ ?_
    | (with_reducible refine (forAll_sessions _ _ fun _ _ => ?_).trans ?_)
    | (with_reducible refine (foldl_sessions _ _ _ fun _ _ => ?_).trans ?_)
    | dsimp -proj only | (simp -proj only [apply_ite State.sessions, ite_self]; done) | split | simp -proj)

@[simp] theorem State.updCore_sessions (s : State) (c : Fin 32) (f : Core1 → Core1) :
    (State.updCore s c f).sessions = s.sessions := by
  simp -proj [State.updCore]

@[simp] theorem State.repin_sessions (s : State) : (State.repin s).sessions = s.sessions := by
  unfold State.repin
  repeat' (first
    | with_reducible eq_refl | with_reducible exact mk_sessions .. | with_reducible refine ite_sessions ?_ ?_
    | (with_reducible refine (forAll_sessions _ _ fun _ _ => ?_).trans ?_)
    | (with_reducible refine (foldl_sessions _ _ _ fun _ _ => ?_).trans ?_)
    | dsimp -proj only | (simp -proj only [apply_ite State.sessions, ite_self]; done) | split | simp -proj)

@[simp] theorem State.putOff_sessions (s : State) (c : Instr) :
    (State.putOff s c).sessions = s.sessions := rfl

@[simp] theorem State.updGear_sessions (s : State) (n : Fin 16) (f : Gear → Gear) :
    (State.updGear s n f).sessions = s.sessions := by
  simp -proj [State.updGear]

@[simp] theorem State.updBus_sessions (s : State) (b : Fin 2) (f : Bus → Bus) :
    (State.updBus s b f).sessions = s.sessions := by
  simp -proj [State.updBus]

@[simp] theorem State.gearEvent_sessions (s : State) (n : Fin 16) (kind : Nat) (level : Nat) :
    (State.gearEvent s n kind level).sessions = s.sessions := by
  unfold State.gearEvent; split <;> simp -proj

@[simp] theorem State.gearPersist_sessions (s : State) (n : Fin 16) (old : GearVars) :
    (State.gearPersist s n old).sessions = s.sessions := by
  unfold State.gearPersist; (repeat' split) <;> simp -proj

@[simp] theorem State.gearChange_sessions (s : State) (n : Fin 16) (f : Gear → Gear) :
    (State.gearChange s n f).sessions = s.sessions := by
  unfold State.gearChange; split <;> simp -proj

@[simp] theorem State.gearFlush_sessions (s : State) : (State.gearFlush s).sessions = s.sessions := by
  unfold State.gearFlush
  repeat' (first
    | with_reducible eq_refl | with_reducible exact mk_sessions .. | with_reducible refine ite_sessions ?_ ?_
    | (with_reducible refine (forAll_sessions _ _ fun _ _ => ?_).trans ?_)
    | (with_reducible refine (foldl_sessions _ _ _ fun _ _ => ?_).trans ?_)
    | dsimp -proj only | (simp -proj only [apply_ite State.sessions, ite_self]; done) | split | simp -proj)

@[simp] theorem State.noteTarget_sessions (s : State) (n : Fin 16) (old : Nat) :
    (State.noteTarget s n old).sessions = s.sessions := by
  unfold State.noteTarget
  repeat' (first
    | with_reducible eq_refl | with_reducible exact mk_sessions .. | with_reducible refine ite_sessions ?_ ?_
    | (with_reducible refine (forAll_sessions _ _ fun _ _ => ?_).trans ?_)
    | (with_reducible refine (foldl_sessions _ _ _ fun _ _ => ?_).trans ?_)
    | dsimp -proj only | (simp -proj only [apply_ite State.sessions, ite_self]; done) | split | simp -proj)

@[simp] theorem State.gearTarget_sessions (s : State) (n : Fin 16) (level : Nat) (dur : Nat) :
    (State.gearTarget s n level dur).sessions = s.sessions := by
  unfold State.gearTarget
  repeat' (first
    | with_reducible eq_refl | with_reducible exact mk_sessions .. | with_reducible refine ite_sessions ?_ ?_
    | (with_reducible refine (forAll_sessions _ _ fun _ _ => ?_).trans ?_)
    | (with_reducible refine (foldl_sessions _ _ _ fun _ _ => ?_).trans ?_)
    | dsimp -proj only | (simp -proj only [apply_ite State.sessions, ite_self]; done) | split | simp -proj)

@[simp] theorem State.gearRamp_sessions (s : State) (n : Fin 16) (up : Bool) :
    (State.gearRamp s n up).sessions = s.sessions := by
  unfold State.gearRamp
  repeat' (first
    | with_reducible eq_refl | with_reducible exact mk_sessions .. | with_reducible refine ite_sessions ?_ ?_
    | (with_reducible refine (forAll_sessions _ _ fun _ _ => ?_).trans ?_)
    | (with_reducible refine (foldl_sessions _ _ _ fun _ _ => ?_).trans ?_)
    | dsimp -proj only | (simp -proj only [apply_ite State.sessions, ite_self]; done) | split | simp -proj)

@[simp] theorem State.eachGear_sessions (s : State) (b : Fin 2) (dst : BusAddr) (f : State → Fin 16 → State) (h : ∀ s n, (f s n).sessions = s.sessions) :
    (s.eachGear b dst f).sessions = s.sessions := foldl_sessions _ _ _ h

@[simp] theorem State.opDapc_sessions (s : State) (b : Fin 2) (dst : BusAddr) (level : Nat) :
    (s.opDapc b dst level).sessions = s.sessions := by
  unfold State.opDapc
  refine State.eachGear_sessions _ _ _ _ fun s n => ?_
  split
  · rfl
  · exact ite_sessions ((State.noteTarget_sessions _ _ _).trans (State.updGear_sessions _ _ _)) (State.gearTarget_sessions _ _ _ _)

@[simp] theorem State.answer_sessions (s : State) (b : Fin 2) (vals : List Nat) :
    (State.answer s b vals).sessions = s.sessions := by
  unfold State.answer; split <;> simp -proj

@[simp] theorem State.opQuery_sessions (s : State) (b : Fin 2) (dst : BusAddr) (f : State → Fin 16 → Gear → Option Nat) :
    (State.opQuery s b dst f).sessions = s.sessions := by
  simp -proj [State.opQuery]

@[simp] theorem State.opVars_sessions (s : State) (b : Fin 2) (dst : BusAddr) (f : Gear → GearVars) :
    (State.opVars s b dst f).sessions = s.sessions := by
  simp -proj [State.opVars]

@[simp] theorem State.limitLevels_sessions (s : State) (b : Fin 2) (dst : BusAddr) :
    (State.limitLevels s b dst).sessions = s.sessions := by
  unfold State.limitLevels
  refine State.eachGear_sessions _ _ _ _ fun s n => ?_
  split
  · exact ite_sessions (State.gearTarget_sessions _ _ _ _) rfl
  · rfl

@[simp] theorem State.opInitialise_sessions (s : State) (b : Fin 2) (which : Nat) :
    (State.opInitialise s b which).sessions = s.sessions := by
  simp -proj [State.opInitialise]

@[simp] theorem State.opRandomise_sessions (s : State) (b : Fin 2) : (State.opRandomise s b).sessions = s.sessions := by
  unfold State.opRandomise
  repeat' (first
    | with_reducible eq_refl | with_reducible exact mk_sessions .. | with_reducible refine ite_sessions ?_ ?_
    | (with_reducible refine (forAll_sessions _ _ fun _ _ => ?_).trans ?_)
    | (with_reducible refine (foldl_sessions _ _ _ fun _ _ => ?_).trans ?_)
    | dsimp -proj only | (simp -proj only [apply_ite State.sessions, ite_self]; done) | split | simp -proj)

@[simp] theorem State.opCompare_sessions (s : State) (b : Fin 2) : (State.opCompare s b).sessions = s.sessions := by
  simp -proj [State.opCompare]

@[simp] theorem State.opTerminate_sessions (s : State) (b : Fin 2) : (State.opTerminate s b).sessions = s.sessions := by
  simp -proj [State.opTerminate]

@[simp] theorem State.opIdentify_sessions (s : State) (b : Fin 2) (dst : BusAddr) :
    (State.opIdentify s b dst).sessions = s.sessions := by
  simp -proj [State.opIdentify]

@[simp] theorem State.opCurve_sessions (s : State) (b : Fin 2) (dst : BusAddr) (curve : Nat) :
    (State.opCurve s b dst curve).sessions = s.sessions := by
  unfold State.opCurve; split <;> simp -proj

@[simp] theorem State.opReadMemory_sessions (s : State) (b : Fin 2) (dst : BusAddr) :
    (State.opReadMemory s b dst).sessions = s.sessions := by
  unfold State.opReadMemory
  repeat' (first
    | with_reducible eq_refl | with_reducible exact mk_sessions .. | with_reducible refine ite_sessions ?_ ?_
    | (with_reducible refine (forAll_sessions _ _ fun _ _ => ?_).trans ?_)
    | (with_reducible refine (foldl_sessions _ _ _ fun _ _ => ?_).trans ?_)
    | dsimp -proj only | (simp -proj only [apply_ite State.sessions, ite_self]; done) | split | simp -proj)

@[simp] theorem State.cmd102_sessions (s : State) (b : Fin 2) (dst : BusAddr) (op : Nat) :
    (s.cmd102 b dst op).sessions = s.sessions := by
  unfold State.cmd102
  repeat' (first | with_reducible exact mk_sessions .. | with_reducible refine ite_sessions ?_ ?_ | with_reducible refine State.eachGear_sessions _ _ _ _ fun _ _ => ?_ | (simp -proj; done) | split)

@[simp] theorem State.cmd207_sessions (s : State) (b : Fin 2) (dst : BusAddr) (op : Nat) :
    (State.cmd207 s b dst op).sessions = s.sessions := by
  unfold State.cmd207; (repeat' split) <;> simp -proj

@[simp] theorem State.cmdSpecial_sessions (s : State) (b : Fin 2) (a d : Nat) :
    (s.cmdSpecial b a d).sessions = s.sessions := by
  unfold State.cmdSpecial
  extract_lets
  repeat' (first
    | with_reducible eq_refl | with_reducible refine ite_sessions ?_ ?_ | (with_reducible refine foldl_sessions _ _ _ fun _ _ => ?_) | (simp -proj; done))

@[simp] theorem State.busFrame_sessions (s : State) (b : Fin 2) (a : Nat) (d : Nat) :
    (State.busFrame s b a d).sessions = s.sessions := by
  unfold State.busFrame
  repeat' (first
    | with_reducible eq_refl | with_reducible exact mk_sessions .. | with_reducible refine ite_sessions ?_ ?_
    | (with_reducible refine (forAll_sessions _ _ fun _ _ => ?_).trans ?_)
    | (with_reducible refine (foldl_sessions _ _ _ fun _ _ => ?_).trans ?_)
    | dsimp -proj only | (simp -proj only [apply_ite State.sessions, ite_self]; done) | split | simp -proj)

@[simp] theorem State.busCommand_sessions (s : State) (b : Fin 2) (row : Instr) (frames : Nat) (f : State → State)
    (h : ∀ s, (f s).sessions = s.sessions) :
    (State.busCommand s b row frames f).sessions = s.sessions := by
  unfold State.busCommand
  repeat' (first
    | with_reducible eq_refl | with_reducible exact mk_sessions .. | with_reducible refine ite_sessions ?_ ?_
    | (with_reducible refine (forAll_sessions _ _ fun _ _ => ?_).trans ?_)
    | (with_reducible refine (foldl_sessions _ _ _ fun _ _ => ?_).trans ?_)
    | dsimp -proj only | (simp -proj only [apply_ite State.sessions, ite_self]; done) | split | simp -proj [h])

@[simp] theorem State.busCommand207_sessions (s : State) (b : Fin 2) (row : Instr) (frames : Nat) (f : State → State)
    (h : ∀ s, (f s).sessions = s.sessions) :
    (State.busCommand207 s b row frames f).sessions = s.sessions := by
  unfold State.busCommand207
  exact State.busCommand_sessions _ _ _ _ _ fun s => ite_sessions (h s) rfl

@[simp] theorem State.gearValley_sessions (s : State) : (State.gearValley s).sessions = s.sessions := by
  unfold State.gearValley
  repeat' (first
    | with_reducible eq_refl | with_reducible exact mk_sessions .. | with_reducible refine ite_sessions ?_ ?_
    | (with_reducible refine (forAll_sessions _ _ fun _ _ => ?_).trans ?_)
    | (with_reducible refine (foldl_sessions _ _ _ fun _ _ => ?_).trans ?_)
    | dsimp -proj only | (simp -proj only [apply_ite State.sessions, ite_self]; done) | split | simp -proj)

@[simp] theorem State.lampRefresh_sessions (s : State) : (State.lampRefresh s).sessions = s.sessions := by
  unfold State.lampRefresh
  repeat' (first
    | with_reducible eq_refl | with_reducible exact mk_sessions .. | with_reducible refine ite_sessions ?_ ?_
    | (with_reducible refine (forAll_sessions _ _ fun _ _ => ?_).trans ?_)
    | (with_reducible refine (foldl_sessions _ _ _ fun _ _ => ?_).trans ?_)
    | dsimp -proj only | (simp -proj only [apply_ite State.sessions, ite_self]; done) | split | simp -proj)

@[simp] theorem State.gearStart_sessions (s : State) : (State.gearStart s).sessions = s.sessions := by
  simp -proj [State.gearStart]

@[simp] theorem State.timersStart_sessions (s : State) : (State.timersStart s).sessions = s.sessions := by
  simp -proj [State.timersStart]

@[simp] theorem State.timersStop_sessions (s : State) : (State.timersStop s).sessions = s.sessions := by
  simp -proj [State.timersStop]

@[simp] theorem State.timerValley_sessions (s : State) (n : Fin 16) : (State.timerValley s n).sessions = s.sessions := by
  unfold State.timerValley
  repeat' (first
    | with_reducible eq_refl | with_reducible exact mk_sessions .. | with_reducible refine ite_sessions ?_ ?_
    | (with_reducible refine (forAll_sessions _ _ fun _ _ => ?_).trans ?_)
    | (with_reducible refine (foldl_sessions _ _ _ fun _ _ => ?_).trans ?_)
    | dsimp -proj only | (simp -proj only [apply_ite State.sessions, ite_self]; done) | split | simp -proj)

@[simp] theorem State.timerLoss_sessions (s : State) (n : Fin 16) : (State.timerLoss s n).sessions = s.sessions := by
  simp -proj [State.timerLoss]

@[simp] theorem State.trigEdge_sessions (s : State) (k : Fin 6) : (State.trigEdge s k).sessions = s.sessions := by
  simp -proj [State.trigEdge]

@[simp] theorem State.trigSource_sessions (s : State) (src : Nat) : (State.trigSource s src).sessions = s.sessions := by
  unfold State.trigSource
  repeat' (first
    | with_reducible eq_refl | with_reducible exact mk_sessions .. | with_reducible refine ite_sessions ?_ ?_
    | (with_reducible refine (forAll_sessions _ _ fun _ _ => ?_).trans ?_)
    | (with_reducible refine (foldl_sessions _ _ _ fun _ _ => ?_).trans ?_)
    | dsimp -proj only | (simp -proj only [apply_ite State.sessions, ite_self]; done) | split | simp -proj)

@[simp] theorem State.gtEdges_sessions (before after : State) : (State.gtEdges before after).sessions = after.sessions := by
  unfold State.gtEdges
  exact foldl_sessions _ _ _ fun s i => ite_sessions (by simp) rfl

@[simp] theorem timersLatch_sessions (s : State) (off : Nat) : (timersLatch s off).sessions = s.sessions := by
  unfold timersLatch; split <;> simp -proj

@[simp] theorem timersWrite_sessions (s : State) (off : Nat) (v : Nat) : (timersWrite s off v).sessions = s.sessions := by
  unfold timersWrite; split <;> simp -proj

@[simp] theorem State.updGroup_sessions (s : State) (g : Fin 8) (f : Group → Group) :
    (State.updGroup s g f).sessions = s.sessions := by
  simp -proj [State.updGroup]

@[simp] theorem State.updSink_sessions (s : State) (n : Fin 48) (f : Sink → Sink) :
    (State.updSink s n f).sessions = s.sessions := by
  simp -proj [State.updSink]

@[simp] theorem State.updStage_sessions (s : State) (f : VStage → VStage) : (State.updStage s f).sessions = s.sessions := by
  simp -proj [State.updStage]

@[simp] theorem State.updMatrix_sessions (s : State) (f : Matrix → Matrix) :
    (State.updMatrix s f).sessions = s.sessions := by
  simp -proj [State.updMatrix]

@[simp] theorem State.dark_sessions (s : State) (gi : Fin 8) :
    (State.dark s gi).sessions = s.sessions := by
  unfold State.dark
  repeat' (first
    | with_reducible eq_refl | with_reducible exact mk_sessions .. | with_reducible refine ite_sessions ?_ ?_
    | (with_reducible refine (forAll_sessions _ _ fun _ _ => ?_).trans ?_)
    | (with_reducible refine (foldl_sessions _ _ _ fun _ _ => ?_).trans ?_)
    | dsimp -proj only | (simp -proj only [apply_ite State.sessions, ite_self]; done) | split | simp -proj)

@[simp] theorem State.applyGroup_sessions (s : State) (gi : Fin 8) : (State.applyGroup s gi).sessions = s.sessions := by
  unfold State.applyGroup
  repeat' (first
    | with_reducible eq_refl | with_reducible exact mk_sessions .. | with_reducible refine ite_sessions ?_ ?_
    | (with_reducible refine (forAll_sessions _ _ fun _ _ => ?_).trans ?_)
    | (with_reducible refine (foldl_sessions _ _ _ fun _ _ => ?_).trans ?_)
    | dsimp -proj only | (simp -proj only [apply_ite State.sessions, ite_self]; done) | split | simp -proj)

@[simp] theorem State.lightFault_sessions (s : State) (gi : Fin 8) (sink : Nat) (kind : Nat) (latch : Nat) (mv : Int) :
    (State.lightFault s gi sink kind latch mv).sessions = s.sessions := by
  simp -proj [State.lightFault]

@[simp] theorem State.takeScan_sessions (s : State) : (State.takeScan s).sessions = s.sessions := by
  simp -proj [State.takeScan]

@[simp] theorem State.closeScan_sessions (s : State) : (State.closeScan s).sessions = s.sessions := by
  simp -proj [State.closeScan]

@[simp] theorem State.stageScan_sessions (s : State) : (State.stageScan s).sessions = s.sessions := by
  unfold State.stageScan
  repeat' (first
    | with_reducible eq_refl | with_reducible exact mk_sessions .. | with_reducible refine ite_sessions ?_ ?_
    | (with_reducible refine (forAll_sessions _ _ fun _ _ => ?_).trans ?_)
    | (with_reducible refine (foldl_sessions _ _ _ fun _ _ => ?_).trans ?_)
    | dsimp -proj only | (simp -proj only [apply_ite State.sessions, ite_self]; done) | split | simp -proj)

@[simp] theorem State.shortScan_sessions (s : State) : (State.shortScan s).sessions = s.sessions := by
  simp -proj [State.shortScan]

@[simp] theorem State.lampFailure_sessions (s : State) (n : Fin 48) (kind : Nat) : (State.lampFailure s n kind).sessions = s.sessions := by
  unfold State.lampFailure
  dsimp -proj only
  generalize (s.illum.sinks.get n).group = o
  cases o
  · rfl
  · exact (State.lightFault_sessions _ _ _ _ _ _).trans ((State.updIllum_sessions _ _).trans
      (ite_sessions ((State.dark_sessions _ _).trans (State.updGroup_sessions _ _ _)) ((State.updSink_sessions _ _ _).trans (State.updGroup_sessions _ _ _))))

@[simp] theorem State.harnessOpen_sessions (s : State) (h : Nat) (opens : List (Fin 48)) :
    (State.harnessOpen s h opens).sessions = s.sessions := by
  simp -proj [State.harnessOpen]

@[simp] theorem State.judge_sessions (s : State) : (State.judge s).sessions = s.sessions := by
  simp -proj [State.judge]

@[simp] theorem State.groupCfgActs_sessions (s : State) (gi : Fin 8) (c : LightCfg) :
    (State.groupCfgActs s gi c).sessions = s.sessions := by
  unfold State.groupCfgActs
  dsimp -proj only
  rw [State.updGroup_sessions]
  refine ite_sessions ((State.dark_sessions _ _).trans ?_) ?_ <;> exact forAll_sessions _ _ fun _ _ => State.updSink_sessions _ _ _

@[simp] theorem State.illumValley_sessions (s : State) (v : Nat) : (s.illumValley v).sessions = s.sessions := by
  unfold State.illumValley
  extract_lets s0 s1 s2 s3 s4
  have h0 : s0.sessions = s.sessions := State.updStage_sessions _ _
  have h1 : s1.sessions = s.sessions := by simp -proj [s1, h0]
  have h2 : s2.sessions = s.sessions := (State.updIllum_sessions _ _).trans h1
  have h3 : s3.sessions = s.sessions := by
    refine (forAll_sessions _ _ fun s i => ?_).trans ?_
    · split
      · simp -proj
      · rfl
    · simp -proj [h2]
  have h4 : s4.sessions = s.sessions := (forAll_sessions _ _ fun s i => by simp -proj).trans h3
  exact (State.lampRefresh_sessions _).trans h4

@[simp] theorem State.dimValley_sessions (s : State) (vstr : Nat) :
    (State.dimValley s vstr).sessions = s.sessions := by
  unfold State.dimValley
  repeat' (first
    | with_reducible eq_refl | with_reducible exact mk_sessions .. | with_reducible refine ite_sessions ?_ ?_
    | (with_reducible refine (forAll_sessions _ _ fun _ _ => ?_).trans ?_)
    | (with_reducible refine (foldl_sessions _ _ _ fun _ _ => ?_).trans ?_)
    | dsimp -proj only | (simp -proj only [apply_ite State.sessions, ite_self]; done) | split | simp -proj)

@[simp] theorem State.applySets_sessions (s : State) (gi : Fin 8) : (State.applySets s gi).sessions = s.sessions := by
  simp -proj [State.applySets]

@[simp] theorem State.strobeEdge_sessions (s : State) (p : Fin 4) (edgeNs : Nat) :
    (State.strobeEdge s p edgeNs).sessions = s.sessions := by
  simp -proj [State.strobeEdge]

@[simp] theorem State.strobesStep_sessions (s : State) (old new : Nat) :
    (State.strobesStep s old new).sessions = s.sessions := by
  unfold State.strobesStep
  repeat' (first
    | with_reducible eq_refl | with_reducible exact mk_sessions .. | with_reducible refine ite_sessions ?_ ?_
    | (with_reducible refine (forAll_sessions _ _ fun _ _ => ?_).trans ?_)
    | (with_reducible refine (foldl_sessions _ _ _ fun _ _ => ?_).trans ?_)
    | dsimp -proj only | (simp -proj only [apply_ite State.sessions, ite_self]; done) | split | simp -proj)

@[simp] theorem State.illumLoss_sessions (s : State) (gi : Fin 8) : ((State.illumLoss s gi).1).sessions = s.sessions := by
  unfold State.illumLoss
  repeat' (first
    | with_reducible eq_refl | with_reducible exact mk_sessions .. | with_reducible refine ite_sessions ?_ ?_
    | (with_reducible refine (forAll_sessions _ _ fun _ _ => ?_).trans ?_)
    | (with_reducible refine (foldl_sessions _ _ _ fun _ _ => ?_).trans ?_)
    | dsimp only | (simp -proj only [apply_ite State.sessions, ite_self]; done) | split | simp -proj)

@[simp] theorem State.matrixLoss_sessions (s : State) : (State.matrixLoss s).sessions = s.sessions := by
  simp -proj [State.matrixLoss]

@[simp] theorem State.lightsOff_sessions (s : State) : (State.lightsOff s).sessions = s.sessions := by
  simp -proj [State.lightsOff]

@[simp] theorem State.igFaultClear_sessions (s : State) (gi : Fin 8) (v : Nat) :
    (s.igFaultClear gi v).sessions = s.sessions := by
  unfold State.igFaultClear
  simp only [State.lampRefresh_sessions, State.updGroup_sessions]
  exact forAll_sessions _ _ fun s i => rfl

@[simp] theorem illumWrite_sessions (s : State) (off v : Nat) : (illumWrite s off v).sessions = s.sessions := by
  unfold illumWrite
  repeat' (first
    | with_reducible eq_refl | with_reducible refine dite_sessions (fun _ => ?_) (fun _ => ?_) | with_reducible refine ite_sessions ?_ ?_ | (simp -proj; done))

@[simp] theorem lbusWrite_sessions (s : State) (off : Nat) (v : Nat) : (lbusWrite s off v).sessions = s.sessions := by
  unfold lbusWrite; (repeat' split) <;> simp -proj

@[simp] theorem State.drivePattern_sessions (s : State) (n : Fin 8) (pat : Pattern) :
    (State.drivePattern s n pat).sessions = s.sessions := by
  simp -proj [State.drivePattern]

@[simp] theorem State.gatesTick_sessions (s : State) : (State.gatesTick s).sessions = s.sessions := by
  unfold State.gatesTick
  repeat' (first
    | with_reducible eq_refl | with_reducible exact mk_sessions .. | with_reducible refine ite_sessions ?_ ?_
    | (with_reducible refine (forAll_sessions _ _ fun _ _ => ?_).trans ?_)
    | (with_reducible refine (foldl_sessions _ _ _ fun _ _ => ?_).trans ?_)
    | dsimp -proj only | (simp -proj only [apply_ite State.sessions, ite_self]; done) | split | simp -proj)

@[simp] theorem State.axisEvent_sessions (s : State) (n : Fin 8) (old : AxSt) (new : AxSt) (cause : Nat) :
    (State.axisEvent s n old new cause).sessions = s.sessions := by
  simp -proj [State.axisEvent]

@[simp] theorem State.enterAx_sessions (s : State) (n : Fin 8) (st : AxSt) (cause : Nat) :
    (State.enterAx s n st cause).sessions = s.sessions := by
  simp -proj [State.enterAx]

@[simp] theorem State.uncommutate_sessions (s : State) (n : Fin 8) : (State.uncommutate s n).sessions = s.sessions := by
  simp -proj [State.uncommutate]

@[simp] theorem State.axisFault_sessions (s : State) (n : Fin 8) (cause : Nat) :
    (State.axisFault s n cause).sessions = s.sessions := by
  unfold State.axisFault; split <;> simp -proj

@[simp] theorem State.observerFault_sessions (s : State) (n : Fin 8) : (State.observerFault s n).sessions = s.sessions := by
  unfold State.observerFault; split <;> simp -proj

@[simp] theorem State.beginStop_sessions (s : State) (n : Fin 8) (cat : StopCat) (kind : StopKind) :
    (State.beginStop s n cat kind).sessions = s.sessions := by
  unfold State.beginStop; split <;> simp -proj

@[simp] theorem State.axisStop_sessions (s : State) (n : Fin 8) (cat : StopCat) (kind : StopKind) (cause : Nat) :
    ((State.axisStop s n cat kind cause).1).sessions = s.sessions := by
  unfold State.axisStop
  repeat' (first
    | with_reducible eq_refl | with_reducible exact mk_sessions .. | with_reducible refine ite_sessions ?_ ?_
    | (with_reducible refine (forAll_sessions _ _ fun _ _ => ?_).trans ?_)
    | (with_reducible refine (foldl_sessions _ _ _ fun _ _ => ?_).trans ?_)
    | dsimp only | (simp -proj only [apply_ite State.sessions, ite_self]; done) | split | simp -proj)

@[simp] theorem State.hardwareStop_sessions (s : State) : (State.hardwareStop s).sessions = s.sessions := by
  simp -proj [State.hardwareStop]

@[simp] theorem State.safeEvent_sessions (s : State) (cause : Nat) (mask : Nat) :
    (State.safeEvent s cause mask).sessions = s.sessions := by
  simp -proj [State.safeEvent]

@[simp] theorem State.safeStopMask_sessions (s : State) (mask : Nat) (cat : Nat) :
    (State.safeStopMask s mask cat).sessions = s.sessions := by
  unfold State.safeStopMask
  repeat' (first
    | with_reducible eq_refl | with_reducible exact mk_sessions .. | with_reducible refine ite_sessions ?_ ?_
    | (with_reducible refine (forAll_sessions _ _ fun _ _ => ?_).trans ?_)
    | (with_reducible refine (foldl_sessions _ _ _ fun _ _ => ?_).trans ?_)
    | dsimp -proj only | (simp -proj only [apply_ite State.sessions, ite_self]; done) | split | simp -proj)

@[simp] theorem State.runLoop_sessions (s : State) (n : Fin 8) : (State.runLoop s n).sessions = s.sessions := by
  unfold State.runLoop; split <;> simp -proj

@[simp] theorem State.toHfi_sessions (s : State) (n : Fin 8) (cause : Nat) :
    (State.toHfi s n cause).sessions = s.sessions := by
  simp -proj [State.toHfi]

@[simp] theorem State.refuse_sessions (s : State) (n : Fin 8) (stay : Bool) :
    (State.refuse s n stay).sessions = s.sessions := by
  unfold State.refuse
  repeat' (first
    | with_reducible eq_refl | with_reducible exact mk_sessions .. | with_reducible refine ite_sessions ?_ ?_
    | (with_reducible refine (forAll_sessions _ _ fun _ _ => ?_).trans ?_)
    | (with_reducible refine (foldl_sessions _ _ _ fun _ _ => ?_).trans ?_)
    | dsimp -proj only | (simp -proj only [apply_ite State.sessions, ite_self]; done) | split | simp -proj)

@[simp] theorem State.commitCouch_sessions (s : State) (n : Fin 8) (h : Handover) :
    (State.commitCouch s n h).sessions = s.sessions := by
  unfold State.commitCouch
  repeat' (first
    | with_reducible eq_refl | with_reducible exact mk_sessions .. | with_reducible refine ite_sessions ?_ ?_
    | (with_reducible refine (forAll_sessions _ _ fun _ _ => ?_).trans ?_)
    | (with_reducible refine (foldl_sessions _ _ _ fun _ _ => ?_).trans ?_)
    | dsimp -proj only | (simp -proj only [apply_ite State.sessions, ite_self]; done) | split | simp -proj)

@[simp] theorem State.settleHandover_sessions (s : State) (n : Fin 8) :
    (State.settleHandover s n).sessions = s.sessions := by
  unfold State.settleHandover
  repeat' (first
    | with_reducible eq_refl | with_reducible exact mk_sessions .. | with_reducible refine ite_sessions ?_ ?_
    | (with_reducible refine (forAll_sessions _ _ fun _ _ => ?_).trans ?_)
    | (with_reducible refine (foldl_sessions _ _ _ fun _ _ => ?_).trans ?_)
    | dsimp -proj only | (simp -proj only [apply_ite State.sessions, ite_self]; done) | split | simp -proj)

@[simp] theorem State.loseSync_sessions (s : State) (n : Fin 8) (crit : Nat) (value : Int) :
    (State.loseSync s n crit value).sessions = s.sessions := by
  simp -proj [State.loseSync]

@[simp] theorem State.position_sessions (s : State) (n : Fin 8) (missed : Bool) (first : Bool) :
    (State.position s n missed first).sessions = s.sessions := by
  unfold State.position
  repeat' (first
    | with_reducible eq_refl | with_reducible exact mk_sessions .. | with_reducible refine ite_sessions ?_ ?_
    | (with_reducible refine (forAll_sessions _ _ fun _ _ => ?_).trans ?_)
    | (with_reducible refine (foldl_sessions _ _ _ fun _ _ => ?_).trans ?_)
    | dsimp -proj only | (simp -proj only [apply_ite State.sessions, ite_self]; done) | split | simp -proj)

@[simp] theorem State.calenderOut_sessions (s : State) (n : Fin 8) (e : Eval) :
    (State.calenderOut s n e).sessions = s.sessions := by
  unfold State.calenderOut
  repeat' (first
    | with_reducible eq_refl | with_reducible exact mk_sessions .. | with_reducible refine ite_sessions ?_ ?_
    | (with_reducible refine (forAll_sessions _ _ fun _ _ => ?_).trans ?_)
    | (with_reducible refine (foldl_sessions _ _ _ fun _ _ => ?_).trans ?_)
    | dsimp -proj only | (simp -proj only [apply_ite State.sessions, ite_self]; done) | split | simp -proj)

@[simp] theorem State.missEval_sessions (s : State) (n : Fin 8) (k : Fin 3) (first : Bool) :
    (State.missEval s n k first).sessions = s.sessions := by
  unfold State.missEval
  repeat' (first
    | with_reducible eq_refl | with_reducible exact mk_sessions .. | with_reducible refine ite_sessions ?_ ?_
    | (with_reducible refine (forAll_sessions _ _ fun _ _ => ?_).trans ?_)
    | (with_reducible refine (foldl_sessions _ _ _ fun _ _ => ?_).trans ?_)
    | dsimp -proj only | (simp -proj only [apply_ite State.sessions, ite_self]; done) | split | simp -proj)

@[simp] theorem State.noteStatus_sessions (s : State) (n : Fin 8) :
    (State.noteStatus s n).sessions = s.sessions := by
  unfold State.noteStatus
  repeat' (first
    | with_reducible eq_refl | with_reducible exact mk_sessions .. | with_reducible refine ite_sessions ?_ ?_
    | (with_reducible refine (forAll_sessions _ _ fun _ _ => ?_).trans ?_)
    | (with_reducible refine (foldl_sessions _ _ _ fun _ _ => ?_).trans ?_)
    | dsimp -proj only | (simp -proj only [apply_ite State.sessions, ite_self]; done) | split | simp -proj)

@[simp] theorem State.noteOutputs_sessions (after before : State) (n : Fin 8) :
    (State.noteOutputs after before n).sessions = after.sessions := by
  unfold State.noteOutputs
  repeat' (first
    | with_reducible eq_refl | with_reducible exact mk_sessions .. | with_reducible refine ite_sessions ?_ ?_
    | (with_reducible refine (forAll_sessions _ _ fun _ _ => ?_).trans ?_)
    | (with_reducible refine (foldl_sessions _ _ _ fun _ _ => ?_).trans ?_)
    | dsimp -proj only | (simp -proj only [apply_ite State.sessions, ite_self]; done) | split | simp -proj)

@[simp] theorem State.startEvals_sessions (s : State) (n : Fin 8) (v : ValleySample) :
    (State.startEvals s n v).sessions = s.sessions := by
  unfold State.startEvals
  repeat' (first
    | with_reducible eq_refl | with_reducible exact mk_sessions .. | with_reducible refine ite_sessions ?_ ?_
    | (with_reducible refine (forAll_sessions _ _ fun _ _ => ?_).trans ?_)
    | (with_reducible refine (foldl_sessions _ _ _ fun _ _ => ?_).trans ?_)
    | dsimp -proj only | (simp -proj only [apply_ite State.sessions, ite_self]; done) | split | simp -proj)

@[simp] theorem State.settleEvals_sessions (s : State) (n : Fin 8) : (State.settleEvals s n).sessions = s.sessions := by
  simp -proj [State.settleEvals]

@[simp] theorem State.hfiStep_sessions (s : State) (n : Fin 8) (speedHfi : Int) :
    (State.hfiStep s n speedHfi).sessions = s.sessions := by
  unfold State.hfiStep
  repeat' (first
    | with_reducible eq_refl | with_reducible exact mk_sessions .. | with_reducible refine ite_sessions ?_ ?_
    | (with_reducible refine (forAll_sessions _ _ fun _ _ => ?_).trans ?_)
    | (with_reducible refine (foldl_sessions _ _ _ fun _ _ => ?_).trans ?_)
    | dsimp -proj only | (simp -proj only [apply_ite State.sessions, ite_self]; done) | split | simp -proj)

@[simp] theorem State.axisValley_sessions (s : State) (n : Fin 8) : (State.axisValley s n).sessions = s.sessions := by
  simp -proj [State.axisValley]

@[simp] theorem State.pinnedCoreFault_sessions (s : State) (c : Fin 32) :
    (State.pinnedCoreFault s c).sessions = s.sessions := by
  unfold State.pinnedCoreFault
  repeat' (first
    | with_reducible eq_refl | with_reducible exact mk_sessions .. | with_reducible refine ite_sessions ?_ ?_
    | (with_reducible refine (forAll_sessions _ _ fun _ _ => ?_).trans ?_)
    | (with_reducible refine (foldl_sessions _ _ _ fun _ _ => ?_).trans ?_)
    | dsimp -proj only | (simp -proj only [apply_ite State.sessions, ite_self]; done) | split | simp -proj)

@[simp] theorem State.weightError_sessions (s : State) (n : Fin 8) (k : Fin 3) :
    (State.weightError s n k).sessions = s.sessions := by
  simp -proj [State.weightError]

@[simp] theorem State.axisLoss_sessions (s : State) (n : Fin 8) : ((State.axisLoss s n).1).sessions = s.sessions := by
  unfold State.axisLoss
  repeat' (first
    | with_reducible eq_refl | with_reducible exact mk_sessions .. | with_reducible refine ite_sessions ?_ ?_
    | (with_reducible refine (forAll_sessions _ _ fun _ _ => ?_).trans ?_)
    | (with_reducible refine (foldl_sessions _ _ _ fun _ _ => ?_).trans ?_)
    | dsimp only | (simp -proj only [apply_ite State.sessions, ite_self]; done) | split | simp -proj)

@[simp] theorem axesWrite_sessions (s : State) (off : Nat) (v : Nat) : (axesWrite s off v).sessions = s.sessions := by
  unfold axesWrite
  repeat' (first
    | with_reducible eq_refl | with_reducible exact mk_sessions .. | with_reducible refine ite_sessions ?_ ?_
    | (with_reducible refine (forAll_sessions _ _ fun _ _ => ?_).trans ?_)
    | (with_reducible refine (foldl_sessions _ _ _ fun _ _ => ?_).trans ?_)
    | dsimp -proj only | (simp -proj only [apply_ite State.sessions, ite_self]; done) | split | simp -proj)

@[simp] theorem safetyWrite_sessions (s : State) (off : Nat) (v : Nat) : (safetyWrite s off v).sessions = s.sessions := by
  unfold safetyWrite
  repeat' (first
    | with_reducible eq_refl | with_reducible exact mk_sessions .. | with_reducible refine ite_sessions ?_ ?_
    | (with_reducible refine (forAll_sessions _ _ fun _ _ => ?_).trans ?_)
    | (with_reducible refine (foldl_sessions _ _ _ fun _ _ => ?_).trans ?_)
    | dsimp -proj only | (simp -proj only [apply_ite State.sessions, ite_self]; done) | split | simp -proj)

@[simp] theorem obsWrite_sessions (s : State) (off : Nat) (v : Nat) : (obsWrite s off v).sessions = s.sessions := by
  unfold obsWrite
  repeat' (first
    | with_reducible eq_refl | with_reducible exact mk_sessions .. | with_reducible refine ite_sessions ?_ ?_
    | (with_reducible refine (forAll_sessions _ _ fun _ _ => ?_).trans ?_)
    | (with_reducible refine (foldl_sessions _ _ _ fun _ _ => ?_).trans ?_)
    | dsimp -proj only | (simp -proj only [apply_ite State.sessions, ite_self]; done) | split | simp -proj)

@[simp] theorem State.noteFault_sessions (s : State) (cause : Nat) (owner : Nat) (job : Nat) (region : Nat) (line : Nat) :
    (State.noteFault s cause owner job region line).sessions = s.sessions := by
  simp -proj [State.noteFault]

@[simp] theorem State.readRange_sessions (s : State) (p : Port) (h off len : Nat) :
    (s.readRange p h off len).2.1.sessions = s.sessions := by
  unfold State.readRange
  split
  · rfl
  · split
    · rfl
    · split
      · simp [State.noteFault]
      · rfl

@[simp] theorem State.writeRange_sessions (s : State) (r : Region) (key : Nat) (off : Nat) (bs : Bytes) :
    (State.writeRange s r key off bs).sessions = s.sessions := by
  simp -proj [State.writeRange]

@[simp] theorem State.spoilLine_sessions (s : State) (r : Region) (i : Nat) (kind : Nat) :
    (State.spoilLine s r i kind).sessions = s.sessions := by
  simp -proj [State.spoilLine]

@[simp] theorem memWriteReg_sessions (s : State) (off : Nat) (v : Nat) : (memWriteReg s off v).sessions = s.sessions := by
  unfold memWriteReg; (repeat' split) <;> simp -proj

@[simp] theorem State.unloadNet_sessions (s : State) (n : Fin 8) (k : Fin 3) :
    (State.unloadNet s n k).sessions = s.sessions := by
  unfold State.unloadNet
  repeat' (first
    | with_reducible eq_refl | with_reducible exact mk_sessions .. | with_reducible refine ite_sessions ?_ ?_
    | (with_reducible refine (forAll_sessions _ _ fun _ _ => ?_).trans ?_)
    | (with_reducible refine (foldl_sessions _ _ _ fun _ _ => ?_).trans ?_)
    | dsimp -proj only | (simp -proj only [apply_ite State.sessions, ite_self]; done) | split | simp -proj)

@[simp] theorem State.updUnit_sessions (s : State) (u : Fin 16) (f : Ltu → Ltu) :
    (State.updUnit s u f).sessions = s.sessions := by
  simp -proj [State.updUnit]

@[simp] theorem State.pcsLoop_sessions (s : State) (on : Bool) :
    (State.pcsLoop s on).sessions = s.sessions := by
  unfold State.pcsLoop
  repeat' (first
    | with_reducible eq_refl | with_reducible exact mk_sessions .. | with_reducible refine ite_sessions ?_ ?_
    | (with_reducible refine (forAll_sessions _ _ fun _ _ => ?_).trans ?_)
    | (with_reducible refine (foldl_sessions _ _ _ fun _ _ => ?_).trans ?_)
    | dsimp -proj only | (simp -proj only [apply_ite State.sessions, ite_self]; done) | split | simp -proj)

@[simp] theorem State.unitSends_sessions (s : State) (u : Fin 16) (on : Bool) :
    (State.unitSends s u on).sessions = s.sessions := by
  unfold State.unitSends
  extract_lets x s1
  have h : s1.sessions = s.sessions := ite_sessions rfl rfl
  exact ite_sessions ((State.pcsLoop_sessions _ _).trans h) (ite_sessions h h)

@[simp] theorem State.unitBack_sessions (s : State) (u : Fin 16) : (State.unitBack s u).sessions = s.sessions := by
  unfold State.unitBack; (repeat' split) <;> simp -proj

@[simp] theorem State.unitEnd_sessions (s : State) (u : Fin 16) (result : Nat) (event : Bool) :
    (State.unitEnd s u result event).sessions = s.sessions := by
  unfold State.unitEnd
  repeat' (first
    | with_reducible eq_refl | with_reducible exact mk_sessions .. | with_reducible refine ite_sessions ?_ ?_
    | (with_reducible refine (forAll_sessions _ _ fun _ _ => ?_).trans ?_)
    | (with_reducible refine (foldl_sessions _ _ _ fun _ _ => ?_).trans ?_)
    | dsimp -proj only | (simp -proj only [apply_ite State.sessions, ite_self]; done) | split | simp -proj)

@[simp] theorem State.unitStop_sessions (s : State) (u : Fin 16) (event : Bool) :
    (s.unitStop u event).sessions = s.sessions := by
  unfold State.unitStop
  extract_lets x s1
  have h1 : s1.sessions = s.sessions := ite_sessions (State.updUnit_sessions _ _ _) rfl
  rw [State.unitEnd_sessions]
  split
  · exact (mk_sessions ..).trans h1
  · exact h1

@[simp] theorem linkLatch_sessions (s : State) (off : Nat) : (linkLatch s off).sessions = s.sessions := by
  unfold linkLatch; (repeat' split) <;> simp -proj

@[simp] theorem linkWrite_sessions (s : State) (off : Nat) (v : Nat) : (linkWrite s off v).sessions = s.sessions := by
  unfold linkWrite
  repeat' (first
    | with_reducible eq_refl | with_reducible exact mk_sessions .. | with_reducible refine ite_sessions ?_ ?_
    | (with_reducible refine (forAll_sessions _ _ fun _ _ => ?_).trans ?_)
    | (with_reducible refine (foldl_sessions _ _ _ fun _ _ => ?_).trans ?_)
    | dsimp -proj only | (simp -proj only [apply_ite State.sessions, ite_self]; done) | split | simp -proj)

@[simp] theorem State.updJob_sessions (s : State) (t : Fin 64) (f : Job → Job) : (State.updJob s t f).sessions = s.sessions := by
  simp -proj [State.updJob]

@[simp] theorem State.portDisarmed_sessions (s : State) (port : Fin 6) :
    (State.portDisarmed s port).sessions = s.sessions := by
  unfold State.portDisarmed
  repeat' (first
    | with_reducible eq_refl | with_reducible exact mk_sessions .. | with_reducible refine ite_sessions ?_ ?_
    | (with_reducible refine (forAll_sessions _ _ fun _ _ => ?_).trans ?_)
    | (with_reducible refine (foldl_sessions _ _ _ fun _ _ => ?_).trans ?_)
    | dsimp -proj only | (simp -proj only [apply_ite State.sessions, ite_self]; done) | split | simp -proj)

@[simp] theorem State.releaseAttempt_sessions (s : State) (t : Fin 64) :
    (State.releaseAttempt s t).sessions = s.sessions := by
  unfold State.releaseAttempt
  repeat' (first
    | with_reducible eq_refl | with_reducible exact mk_sessions .. | with_reducible refine ite_sessions ?_ ?_
    | (with_reducible refine (forAll_sessions _ _ fun _ _ => ?_).trans ?_)
    | (with_reducible refine (foldl_sessions _ _ _ fun _ _ => ?_).trans ?_)
    | dsimp -proj only | (simp -proj only [apply_ite State.sessions, ite_self]; done) | split | simp -proj)

@[simp] theorem State.idleCores_sessions (s : State) (o : Option (Fin 64)) (cs : List (Fin 32)) : (State.idleCores s o cs).sessions = s.sessions := by
  simp -proj [State.idleCores]

@[simp] theorem State.discard_sessions (s : State) (k : Fin 6) (cause : Nat) :
    (State.discard s k cause).sessions = s.sessions := by
  unfold State.discard
  split
  · exact (State.updSensor_sessions _ _ _).trans (ite_sessions (State.portDisarmed_sessions _ _) rfl)
  · rfl

@[simp] theorem State.startFrame_sessions (s : State) (k : Fin 6) (fnum : Nat) :
    (State.startFrame s k fnum).sessions = s.sessions := by
  unfold State.startFrame
  repeat' (first
    | with_reducible eq_refl | with_reducible exact mk_sessions .. | with_reducible refine ite_sessions ?_ ?_
    | (with_reducible refine (forAll_sessions _ _ fun _ _ => ?_).trans ?_)
    | (with_reducible refine (foldl_sessions _ _ _ fun _ _ => ?_).trans ?_)
    | dsimp -proj only | (simp -proj only [apply_ite State.sessions, ite_self]; done) | split | simp -proj)

@[simp] theorem State.disarm_sessions (s : State) (k : Fin 6) (after : Bool) : (State.disarm s k after).sessions = s.sessions := by
  unfold State.disarm
  exact ite_sessions (State.updSensor_sessions _ _ _)
    (ite_sessions ((State.updSensor_sessions _ _ _).trans (State.portDisarmed_sessions _ _)) rfl)

@[simp] theorem sensorsLatch_sessions (s : State) (off : Nat) : (sensorsLatch s off).sessions = s.sessions := by
  unfold sensorsLatch; (repeat' split) <;> simp -proj

@[simp] theorem sensorsWrite_sessions (s : State) (off : Nat) (v : Nat) : (sensorsWrite s off v).sessions = s.sessions := by
  unfold sensorsWrite; (repeat' split) <;> simp -proj

@[simp] theorem State.toTb_sessions (s : State) (st : TbSt) : (State.toTb s st).sessions = s.sessions := by
  unfold State.toTb
  repeat' (first
    | with_reducible eq_refl | with_reducible exact mk_sessions .. | with_reducible refine ite_sessions ?_ ?_
    | (with_reducible refine (forAll_sessions _ _ fun _ _ => ?_).trans ?_)
    | (with_reducible refine (foldl_sessions _ _ _ fun _ _ => ?_).trans ?_)
    | dsimp -proj only | (simp -proj only [apply_ite State.sessions, ite_self]; done) | split | simp -proj)

@[simp] theorem State.useRef_sessions (s : State) (r : Ref) : (State.useRef s r).sessions = s.sessions := by
  unfold State.useRef
  repeat' (first
    | with_reducible eq_refl | with_reducible exact mk_sessions .. | with_reducible refine ite_sessions ?_ ?_
    | (with_reducible refine (forAll_sessions _ _ fun _ _ => ?_).trans ?_)
    | (with_reducible refine (foldl_sessions _ _ _ fun _ _ => ?_).trans ?_)
    | dsimp -proj only | (simp -proj only [apply_ite State.sessions, ite_self]; done) | split | simp -proj)

@[simp] theorem State.judgeRef_sessions (s : State) : (State.judgeRef s).sessions = s.sessions := by
  simp -proj [State.judgeRef]

@[simp] theorem State.servo_sessions (s : State) (o : Int) (at_ : Nat) :
    (State.servo s o at_).sessions = s.sessions := State.updTb_sessions _ _

@[simp] theorem State.firstOffset_sessions (s : State) (o : Int) (at_ : Nat) :
    (State.firstOffset s o at_).sessions = s.sessions := State.updTb_sessions _ _

@[simp] theorem State.takeOffset_sessions (s0 : State) (o : Int) (at_ : Nat) :
    (State.takeOffset s0 o at_).sessions = s0.sessions := by
  unfold State.takeOffset
  repeat' (first
    | with_reducible eq_refl | with_reducible exact mk_sessions .. | with_reducible refine ite_sessions ?_ ?_
    | (with_reducible refine (forAll_sessions _ _ fun _ _ => ?_).trans ?_)
    | (with_reducible refine (foldl_sessions _ _ _ fun _ _ => ?_).trans ?_)
    | dsimp -proj only | (simp -proj only [apply_ite State.sessions, ite_self]; done) | split | simp -proj)

@[simp] theorem State.updPulse_sessions (s : State) (p : Fin 4) (f : Pulse → Pulse) :
    (State.updPulse s p f).sessions = s.sessions := by
  simp -proj [State.updPulse]

@[simp] theorem State.stepTime_sessions (s : State) :
    (State.stepTime s).sessions = s.sessions := by
  unfold State.stepTime
  repeat' (first
    | with_reducible eq_refl | with_reducible exact mk_sessions .. | with_reducible refine ite_sessions ?_ ?_
    | (with_reducible refine (forAll_sessions _ _ fun _ _ => ?_).trans ?_)
    | (with_reducible refine (foldl_sessions _ _ _ fun _ _ => ?_).trans ?_)
    | dsimp -proj only | (simp -proj only [apply_ite State.sessions, ite_self]; done) | split | simp -proj)

@[simp] theorem State.stepReport_sessions (s : State) :
    (State.stepReport s).sessions = s.sessions := by
  unfold State.stepReport
  repeat' (first
    | with_reducible eq_refl | with_reducible exact mk_sessions .. | with_reducible refine ite_sessions ?_ ?_
    | (with_reducible refine (forAll_sessions _ _ fun _ _ => ?_).trans ?_)
    | (with_reducible refine (foldl_sessions _ _ _ fun _ _ => ?_).trans ?_)
    | dsimp -proj only | (simp -proj only [apply_ite State.sessions, ite_self]; done) | split | simp -proj)

@[simp] theorem State.loseRefs_sessions (s : State) (ptp ppsi : Bool) :
    (State.loseRefs s ptp ppsi).sessions = s.sessions := by
  unfold State.loseRefs
  repeat' (first
    | with_reducible eq_refl | with_reducible exact mk_sessions .. | with_reducible refine ite_sessions ?_ ?_
    | (with_reducible refine (forAll_sessions _ _ fun _ _ => ?_).trans ?_)
    | (with_reducible refine (foldl_sessions _ _ _ fun _ _ => ?_).trans ?_)
    | dsimp -proj only | (simp -proj only [apply_ite State.sessions, ite_self]; done) | split | simp -proj)

@[simp] theorem State.losePtp_sessions (s : State) : (State.losePtp s).sessions = s.sessions := by
  simp -proj [State.losePtp]

@[simp] theorem State.losePpsi_sessions (s : State) : (State.losePpsi s).sessions = s.sessions := by
  simp -proj [State.losePpsi]

@[simp] theorem State.updPtp_sessions (s : State) (f : Ptp → Ptp) : (State.updPtp s f).sessions = s.sessions := by
  simp -proj [State.updPtp]

@[simp] theorem State.ptpDiscard_sessions (s : State) : (State.ptpDiscard s).sessions = s.sessions := by
  simp -proj [State.ptpDiscard]

@[simp] theorem State.ptpMessage_sessions (s : State) (m : PtpRx) (domain : Nat) (f : State → State) (h : ∀ s, (f s).sessions = s.sessions) :
    (State.ptpMessage s m domain f).sessions = s.sessions := by
  unfold State.ptpMessage
  repeat' (first
    | with_reducible eq_refl | with_reducible exact mk_sessions .. | with_reducible refine ite_sessions ?_ ?_
    | (with_reducible refine (forAll_sessions _ _ fun _ _ => ?_).trans ?_)
    | (with_reducible refine (foldl_sessions _ _ _ fun _ _ => ?_).trans ?_)
    | dsimp -proj only | (simp -proj only [apply_ite State.sessions, ite_self]; done) | split | simp -proj [h])

@[simp] theorem State.announced_sessions (s : State) (m : PtpAnnounce) :
    (State.announced s m).sessions = s.sessions := by
  unfold State.announced
  repeat' (first
    | with_reducible eq_refl | with_reducible exact mk_sessions .. | with_reducible refine ite_sessions ?_ ?_
    | (with_reducible refine (forAll_sessions _ _ fun _ _ => ?_).trans ?_)
    | (with_reducible refine (foldl_sessions _ _ _ fun _ _ => ?_).trans ?_)
    | dsimp -proj only | (simp -proj only [apply_ite State.sessions, ite_self]; done) | split | simp -proj)

@[simp] theorem State.ptpSynced_sessions (s : State) (rx origin : Int) (at_ : Nat) :
    (State.ptpSynced s rx origin at_).sessions = s.sessions := by
  unfold State.ptpSynced
  repeat' (first
    | with_reducible eq_refl | with_reducible exact mk_sessions .. | with_reducible refine ite_sessions ?_ ?_
    | (with_reducible refine (forAll_sessions _ _ fun _ _ => ?_).trans ?_)
    | (with_reducible refine (foldl_sessions _ _ _ fun _ _ => ?_).trans ?_)
    | dsimp -proj only | (simp -proj only [apply_ite State.sessions, ite_self]; done) | split | simp -proj)

@[simp] theorem State.sendPtp_sessions (s : State) (peer event : Bool) (bs : Bytes) :
    (State.sendPtp s peer event bs).sessions = s.sessions := by
  unfold State.sendPtp
  repeat' (first
    | with_reducible eq_refl | with_reducible exact mk_sessions .. | with_reducible refine ite_sessions ?_ ?_
    | (with_reducible refine (forAll_sessions _ _ fun _ _ => ?_).trans ?_)
    | (with_reducible refine (foldl_sessions _ _ _ fun _ _ => ?_).trans ?_)
    | dsimp -proj only | (simp -proj only [apply_ite State.sessions, ite_self]; done) | split | simp -proj)

@[simp] theorem State.pdelayIs_sessions (s : State) (d : Int) : (State.pdelayIs s d).sessions = s.sessions := by
  simp -proj [State.pdelayIs]

@[simp] theorem State.selectRef_sessions (s : State) (n : TbSettings) : (State.selectRef s n).sessions = s.sessions := by
  unfold State.selectRef
  repeat' (first
    | with_reducible eq_refl | with_reducible exact mk_sessions .. | with_reducible refine ite_sessions ?_ ?_
    | (with_reducible refine (forAll_sessions _ _ fun _ _ => ?_).trans ?_)
    | (with_reducible refine (foldl_sessions _ _ _ fun _ _ => ?_).trans ?_)
    | dsimp -proj only | (simp -proj only [apply_ite State.sessions, ite_self]; done) | split | simp -proj)

@[simp] theorem State.timeStop_sessions (s : State) : (State.timeStop s).sessions = s.sessions := by
  simp -proj [State.timeStop]

@[simp] theorem State.timeLoad_sessions (s : State) : (State.timeLoad s).sessions = s.sessions := by
  unfold State.timeLoad; split <;> simp -proj

@[simp] theorem tbLatch_sessions (s : State) (off : Nat) : (tbLatch s off).sessions = s.sessions := by
  unfold tbLatch; split <;> simp -proj

@[simp] theorem tbWrite_sessions (s : State) (off : Nat) (v : Nat) : (tbWrite s off v).sessions = s.sessions := by
  unfold tbWrite; (repeat' split) <;> simp -proj

@[simp] theorem State.updSlot_sessions (s : State) (i : Fin 32) (f : RSlot → RSlot) :
    (State.updSlot s i f).sessions = s.sessions := by
  simp -proj [State.updSlot]

@[simp] theorem State.addEntry_sessions (s : State) (i : Fin 32) (e : Bytes) :
    (State.addEntry s i e).sessions = s.sessions := by
  simp -proj [State.addEntry]

@[simp] theorem State.report_sessions (s : State) (i : Fin 32) (q : SendQ) (result : Nat) :
    (State.report s i q result).sessions = s.sessions := by
  simp -proj [State.report]

@[simp] theorem State.dropSends_sessions (s : State) (i : Fin 32) (result : Nat) :
    (State.dropSends s i result).sessions = s.sessions := by
  simp -proj [State.dropSends]

@[simp] theorem State.admitEvent_sessions (s : State) (i : Fin 32) (result : Nat) :
    (State.admitEvent s i result).sessions = s.sessions := by
  simp -proj [State.admitEvent]

@[simp] theorem State.interfEvent_sessions (s : State) (old : Nat) (new_ : Nat) (count : Nat) (evm : Nat) :
    (State.interfEvent s old new_ count evm).sessions = s.sessions := by
  simp -proj [State.interfEvent]

@[simp] theorem State.interference_sessions (s : State) (ed : Int) (locked : Bool) :
    (State.interference s ed locked).sessions = s.sessions := by
  unfold State.interference
  repeat' (first
    | with_reducible eq_refl | with_reducible exact mk_sessions .. | with_reducible refine ite_sessions ?_ ?_
    | (with_reducible refine (forAll_sessions _ _ fun _ _ => ?_).trans ?_)
    | (with_reducible refine (foldl_sessions _ _ _ fun _ _ => ?_).trans ?_)
    | dsimp -proj only | (simp -proj only [apply_ite State.sessions, ite_self]; done) | split | simp -proj)

@[simp] theorem State.dropMisfits_sessions (s : State) : (State.dropMisfits s).sessions = s.sessions := by
  simp -proj [State.dropMisfits]

@[simp] theorem State.tookFc_sessions (s : State) : (State.tookFc s).sessions = s.sessions := by
  unfold State.tookFc
  repeat' (first
    | with_reducible eq_refl | with_reducible exact mk_sessions .. | with_reducible refine ite_sessions ?_ ?_
    | (with_reducible refine (forAll_sessions _ _ fun _ _ => ?_).trans ?_)
    | (with_reducible refine (foldl_sessions _ _ _ fun _ _ => ?_).trans ?_)
    | dsimp -proj only | (simp -proj only [apply_ite State.sessions, ite_self]; done) | split | simp -proj)

@[simp] theorem State.queuedFrame_sessions (s : State) (i : Fin 32) (ftype : Nat) (q : SendQ) :
    ((State.queuedFrame s i ftype q).1).sessions = s.sessions := by
  unfold State.queuedFrame
  repeat' (first
    | with_reducible eq_refl | with_reducible exact mk_sessions .. | with_reducible refine ite_sessions ?_ ?_
    | (with_reducible refine (forAll_sessions _ _ fun _ _ => ?_).trans ?_)
    | (with_reducible refine (foldl_sessions _ _ _ fun _ _ => ?_).trans ?_)
    | dsimp only | (simp -proj only [apply_ite State.sessions, ite_self]; done) | split | simp -proj)

@[simp] theorem State.heard_sessions (s : State) (i : Fin 32) : (State.heard s i).sessions = s.sessions := by
  simp -proj [State.heard]

@[simp] theorem State.coordAck_sessions (s : State) (seq : Nat) : (State.coordAck s seq).sessions = s.sessions := by
  unfold State.coordAck
  repeat' (first
    | with_reducible eq_refl | with_reducible exact mk_sessions .. | with_reducible refine ite_sessions ?_ ?_
    | (with_reducible refine (forAll_sessions _ _ fun _ _ => ?_).trans ?_)
    | (with_reducible refine (foldl_sessions _ _ _ fun _ _ => ?_).trans ?_)
    | dsimp -proj only | (simp -proj only [apply_ite State.sessions, ite_self]; done) | split | simp -proj)

@[simp] theorem State.radioRx_sessions (s : State) (rx : RadioRx) (t : Bool) (f : State → State) (h : ∀ s, (f s).sessions = s.sessions) :
    (s.radioRx rx t f).sessions = s.sessions := by
  unfold State.radioRx
  exact ite_sessions (ite_sessions rfl (h _)) rfl

@[simp] theorem State.micFailed_sessions (s : State) : (State.micFailed s).sessions = s.sessions := by
  simp -proj [State.micFailed]

@[simp] theorem State.replayed_sessions (s : State) : (State.replayed s).sessions = s.sessions := by
  simp -proj [State.replayed]

@[simp] theorem State.joinRefused_sessions (s : State) (i : Fin 32) : (State.joinRefused s i).sessions = s.sessions := by
  unfold State.joinRefused
  repeat' (first
    | with_reducible eq_refl | with_reducible exact mk_sessions .. | with_reducible refine ite_sessions ?_ ?_
    | (with_reducible refine (forAll_sessions _ _ fun _ _ => ?_).trans ?_)
    | (with_reducible refine (foldl_sessions _ _ _ fun _ _ => ?_).trans ?_)
    | dsimp -proj only | (simp -proj only [apply_ite State.sessions, ite_self]; done) | split | simp -proj)

@[simp] theorem State.tagSlotLoss_sessions (s : State) (i : Fin 32) : (State.tagSlotLoss s i).sessions = s.sessions := by
  simp -proj [State.tagSlotLoss]

@[simp] theorem radioWrite_sessions (s : State) (off : Nat) (v : Nat) : (radioWrite s off v).sessions = s.sessions := by
  unfold radioWrite; split <;> simp -proj

@[simp] theorem State.radioStart_sessions (s : State) : (State.radioStart s).sessions = s.sessions := by
  unfold State.radioStart
  repeat' (first
    | with_reducible eq_refl | with_reducible exact mk_sessions .. | with_reducible refine ite_sessions ?_ ?_
    | (with_reducible refine (forAll_sessions _ _ fun _ _ => ?_).trans ?_)
    | (with_reducible refine (foldl_sessions _ _ _ fun _ _ => ?_).trans ?_)
    | dsimp -proj only | (simp -proj only [apply_ite State.sessions, ite_self]; done) | split | simp -proj)

@[simp] theorem State.lossOf_sessions (s : State) (cls : Nat) (idx : Nat) :
    ((State.lossOf s cls idx).1).sessions = s.sessions := by
  unfold State.lossOf
  repeat' (first
    | with_reducible eq_refl | with_reducible exact mk_sessions .. | with_reducible refine ite_sessions ?_ ?_
    | (with_reducible refine (forAll_sessions _ _ fun _ _ => ?_).trans ?_)
    | (with_reducible refine (foldl_sessions _ _ _ fun _ _ => ?_).trans ?_)
    | dsimp only | (simp -proj only [apply_ite State.sessions, ite_self]; done) | split | simp -proj)

@[simp] theorem State.endLease_sessions (s : State) (cls idx : Nat) (e : Bool) :
    (s.endLease cls idx e).1.sessions = s.sessions := by
  unfold State.endLease
  split
  · rfl
  · extract_lets r l
    exact (mk_sessions ..).trans (s.lossOf_sessions cls idx)

@[simp] theorem State.releaseAll_sessions (s : State) (p : Port) : (State.releaseAll s p).sessions = s.sessions := by
  unfold State.releaseAll
  repeat' (first
    | with_reducible eq_refl | with_reducible exact mk_sessions .. | with_reducible refine ite_sessions ?_ ?_
    | (with_reducible refine (forAll_sessions _ _ fun _ _ => ?_).trans ?_)
    | (with_reducible refine (foldl_sessions _ _ _ fun _ _ => ?_).trans ?_)
    | dsimp -proj only | (simp -proj only [apply_ite State.sessions, ite_self]; done) | split | simp -proj)

@[simp] theorem State.expire_sessions (s : State) (cls : Nat) (idx : Nat) :
    (State.expire s cls idx).sessions = s.sessions := by
  unfold State.expire; (repeat' split) <;> simp -proj

@[simp] theorem State.hold_sessions (s : State) (p : Port) (cls : Nat) (idx : Nat) (ms : Nat) :
    (State.hold s p cls idx ms).sessions = s.sessions := by
  unfold State.hold
  repeat' (first
    | with_reducible eq_refl | with_reducible exact mk_sessions .. | with_reducible refine ite_sessions ?_ ?_
    | (with_reducible refine (forAll_sessions _ _ fun _ _ => ?_).trans ?_)
    | (with_reducible refine (foldl_sessions _ _ _ fun _ _ => ?_).trans ?_)
    | dsimp -proj only | (simp -proj only [apply_ite State.sessions, ite_self]; done) | split | simp -proj)

end Sys2Proof.Machine
end

