-- ==== Sys2Proof/Tests/Slice0.lean ====
section
/-! SUPPORT. Tests: the well-formedness checks refuse, every command passes the checks of Table 6-3 somewhere, the hypotheses
of every statement are met by a concrete state and operands, and single steps act as the spec says. Expected values are the
spec's, or follow from its tables by hand. -/

open Sys2Proof Sys2Proof.Machine

namespace Sys2Proof.Tests

-- one theorem at a time: many kernel evaluations side by side run out of threads
set_option Elab.async false

/-! ## States and operands the tests start from -/

/-- A session just opened. -/
def ses : Session :=
  { serial := 7, keyC := [], keyD := [], high := 0, cache := [], mask := 0xFFFFE, encEv := false, evSeq := 1, outstanding := 0,
    closing := none, ending := false, fresh := [], freshAt := 0, freshSeq := 1, freshLost := 0 }

/-- A device in FULL with every link up and every owner in a session. -/
def full : State :=
  let r := State.reset
  { r with
    now := 1000,
    boot := { r.boot with dev := .full, step := .done, mboit := true, resetN := true, pwrgd := true, vfdUp := true },
    net := { r.net with ethUp := true, mntUp := true, sfpArmed := true, inForce := { r.net.inForce with hpbIp := 0x0A000002 } },
    hpa := { r.hpa with linkUp := true, en := true },
    owners := r.owners.map fun o => { o with session := some ses },
    otp := { r.otp with mac := [0x02, 0, 0, 0, 0, 1] },
    fabric := { r.fabric with pllC := true, pllF := true, d02Run := true, tcxoOk := true } }

/-- The header of a command of a port on a resource. -/
def hd (p : Port) (cls idx seq : Nat) : Hdr :=
  { port := p, version := 2, owner := BitVec.ofNat 4 (p.val + 1), enc := false, dup := false, event := false, bit7 := false,
    tag := 5, cls := BitVec.ofNat 8 cls, seq := BitVec.ofNat 32 seq, idx := BitVec.ofNat 32 idx, key := .sessionKey,
    via := if p = 0 then .ring 0 100000 0 else if p = 1 then .udp 0x0A000001 4000 else if p = 2 then .sfp else .mnt }

/-- The state a row leaves. -/
def after (i : Instr) (s : State) : State :=
  match exec i s with
  | .next t => t
  | _ => s

/-- The status of the reply a row of a port leaves in its session's cache. -/
def status (i : Instr) (s : State) (h : Hdr) : Option Nat :=
  match ((after i s).owner h.port).session with
  | some x => ((x.cache.find? fun e => e.seq == h.seq.toNat).bind fun e => e.reply.map Packet.last)
  | none => none

/-- The payload of that reply. -/
def payload (i : Instr) (s : State) (h : Hdr) : Option Bytes :=
  match ((after i s).owner h.port).session with
  | some x => ((x.cache.find? fun e => e.seq == h.seq.toNat).bind fun e => e.reply.map Packet.payload)
  | none => none

/-- The packets sent as replies: port, carriage, packet. -/
def sent (s : State) : List (Option (Port × Carriage × Packet)) :=
  s.out.map fun o =>
    match o with
    | .reply p via k _ => some (p, via, k)
    | _ => none

/-- A state with one row of its tick behind the one that acts. -/
def before (s : State) (c : Instr) : State := { s with pending := [c] }

/-- `full` with one resource leased to MNT for 100 s. -/
def leased (cls idx : Nat) : State := full.hold 3 cls idx 100000

def pAxisCfg : AxisCfgP :=
  { pwmHz := 20000, dt := 50, reverse := false, lostAction := 1, iFs := 1000, vFs := 1000, iMax := 500, alignI := 100,
    alignMs := 100, hfiHz := 1000, hfiAmp := 100, couchLo := 100, couchHi := 200, spdMax := 5000, agreeDeg := 300, agreeN := 4,
    accel := 1000, decel := 1000, residMax := 1000, satHoldUs := 100, rampMs := 1000, curKp := 10, curKi := 10, spdKp := 10,
    spdKi := 10 }
def pSns : SnsCfgP :=
  { lanes := 1, clkMode := 0, dt := 0x2E, unit := 0, vcDepth := 0, conf := 0, bufs := 4, byteOrder := 0, laneRate := 1000,
    width := 64, height := 16, timeoutMs := 100 }
def pArm : SnsArmP := { token := 0xFFFF, syncMask := 4, trigSrc := 0, windowUs := 0, count := 0 }
def pTime : TimeRefP :=
  { primary := 2, backup := 0, delay := 0, domain := 3, transport := 0, ppsiEdge := 0, save := false, setSec := true,
    stepLimit := 1000, slewMax := 50, seconds := 77 }
def pPulse : PulseP :=
  { pulse := 1, en := true, pol := false, gate := true, trim := 5, startFrac := 0, startNs := 100, startSec := 2,
    period := 1000000, width := 500 }
def pLoad : ObsLoadP :=
  { unload := 1, kind := 0, nin := 0, nout := 0, nhid := 0, act := 0, h := .replicate 3 0, region := 0, offset := 0, length := 0,
    inmap := .replicate 16 0, lo := .replicate 4 0, hi := .replicate 4 0, slew := .replicate 4 0 }
def pLight : LightCfgP := { colour := 0, ctrlSrc := 0, failsafe := 0, lts := 0xFF, mask := 1 }
def pSet : LightSetP := { time := ⟨0, 0, 0⟩, entries := [⟨0, 100, 32768⟩] }
def pStrobe : StrobeP := { op := 0, tp := 0, offset := 0, length := 0, count := 0 }
def pMatrix : MatrixP := { mask := 0, tPre := 0, codes := List.replicate 384 0 }
def pGear : GearP := { op := 0, bus := 0, slot := 0, curve := 0, short := 0xFF, sysFail := 0, powerOn := 0, groups := 0 }
def pRadio : RadioP :=
  { mask := 1, startCh := 0, txDbm := 0, interfN := 1, edDbm := 0, evmAbort := 100, netId := 5, silentMs := 100, en := false }
def pAdmit : AdmitP :=
  { long := 0x1122334455667788, gslot := 0, rejoin := false, timeoutS := 10, counterMin := 0, key := List.replicate 16 0 }
def pLink : LinkStartP := { pattern := 0, loop := 0, eye := false, inject := false, lanes := 0xF, user := 0, bits := 1000 }
def pStage : StageP := { image := 2, close := false, total := 100, offset := 0, data := List.replicate 8 5 }
def pSubmit : SubmitP := { graph := 1, retry := 0xFF, autoRelease := false, waitToken := 0xFFFF, signalToken := 0xFFFF, binds := [] }

/-- A host command of every row with the resource it names. -/
def everyCommand : List (Nat × Nat × Cmd) :=
  [(0, 0, .hello), (0, 0, .openSession ⟨0x401, zeros 97, zeros 32, zeros 96⟩), (0, 0, .closeSession), (0, 0, .getWatermark (zeros 32)),
   (0, 0, .getCerts 0 4), (1, 2, .leaseTake ⟨100, 0, 0⟩), (1, 2, .leaseRenew ⟨100, 0, 0⟩), (1, 2, .leaseRelease),
   (1, 2, .leaseQuery), (0, 0, .regRead 0 1), (0, 0, .regWrite ⟨0x10214, 1, [1]⟩), (0, 0, .regModify 0x10214 1 1),
   (0, 0, .memAlloc 4096 0), (0, 0, .memFree 1), (0, 0, .memWrite 1 0 [1, 2, 3, 4]), (0, 0, .memRead 1 4 0),
   (0, 0, .memFill 1 0 0 4), (0, 0, .graphLoad 1 0 64), (0, 0, .graphUnload 1), (7, 4, .jobSubmit pSubmit), (0, 0, .jobCancel 0),
   (0, 0, .jobStatus 0 false), (0, 0, .resultFetch 0 false 0 1), (0, 0, .tokenAlloc 1), (0, 0, .tokenSignal 0 1),
   (0, 0, .tokenWait 0 1 0), (0, 0, .tokenFree 0), (4, 2, .sensorConfig pSns), (4, 2, .sensorArm pArm), (4, 2, .sensorDisarm 0),
   (0, 0, .timeGet), (0, 0, .timeRefSelect pTime), (0, 0, .pulseConfig pPulse), (1, 2, .axisConfig pAxisCfg),
   (1, 2, .axisEnable 1 true), (1, 2, .axisCommand ⟨0, 100, 200, 100⟩), (1, 2, .axisStop 0), (1, 2, .observerLoad pLoad),
   (1, 2, .axisStatus), (2, 3, .lightGroupConfig pLight), (2, 3, .lightSet pSet), (2, 3, .strobeArm pStrobe),
   (3, 0, .matrixFrame pMatrix), (2, 3, .gearConfig pGear), (0, 0, .radioConfig pRadio), (5, 1, .tagAdmit pAdmit),
   (5, 1, .tagExpel), (5, 1, .tagSend ⟨1, [0, 1]⟩), (5, 1, .tagEventsFetch 4), (8, 1, .linkTestStart pLink),
   (8, 1, .linkTestResult), (0, 0, .fwStage pStage), (0, 0, .fwCommit 0 false), (0, 0, .resetDevice 10),
   (0, 0, .eventSubscribe 2 false), (0, 0, .ping [1, 2, 3, 4])]

/-! ## Well-formedness refuses -/

/-- The carriage of a row must be its port's. -/
theorem test_wf_carriage : (Instr.hello { hd 0 0 0 1 with via := .mnt }).wf = false ∧ (Instr.hello { hd 1 0 0 1 with via := .sfp }).wf = false ∧
    (Instr.hello { hd 2 0 0 1 with via := .mnt }).wf = false ∧ (Instr.hello { hd 3 0 0 1 with via := .sfp }).wf = false ∧
    (Instr.hello (hd 3 0 0 1)).wf = true := by decide +kernel

/-- One ill-formed payload for each check of `Cmd.wf`. -/
theorem test_wf_payload :
    (Cmd.openSession ⟨0, zeros 96, zeros 32, zeros 96⟩).wf = false ∧ (Cmd.openSession ⟨0, zeros 97, zeros 31, zeros 96⟩).wf = false ∧
    (Cmd.openSession ⟨0, zeros 97, zeros 32, zeros 95⟩).wf = false ∧ (Cmd.getWatermark (zeros 31)).wf = false ∧
    (Cmd.regWrite ⟨0, 2, [1]⟩).wf = false ∧ (Cmd.memWrite 0 0 [1, 2, 3]).wf = false ∧
    (Cmd.lightSet ⟨⟨0, 0, 0⟩, List.replicate 256 ⟨0, 0, 0⟩⟩).wf = false ∧ (Cmd.matrixFrame { pMatrix with codes := zeros 383 }).wf = false ∧
    (Cmd.tagAdmit { pAdmit with key := zeros 15 }).wf = false ∧ (Cmd.tagSend ⟨0, zeros 256⟩).wf = false ∧
    (Cmd.fwStage { pStage with data := zeros 6 }).wf = false ∧ (Cmd.ping [1]).wf = false := by decide +kernel

/-- JOB_SUBMIT's count is 16 bits. -/
theorem test_wf_binds (l : List BindP) (h : l.length = 65536) : (Cmd.jobSubmit { pSubmit with binds := l }).wf = false := by
  simp [Cmd.wf, h]

/-- One ill-formed row for each check of a row that is no host command. -/
theorem test_wf_rows :
    (Instr.hpaSqFetch (zeros 31) []).wf = false ∧ (Instr.sfpFrameRx (zeros 33)).wf = false ∧ (Instr.arpRequest ⟨⟨zeros 6, none⟩, zeros 5⟩ 0 0).wf = false ∧
    (Instr.arpRequest ⟨⟨zeros 5, none⟩, zeros 6⟩ 0 0).wf = false ∧ (Instr.icmpEcho ⟨⟨zeros 7, none⟩, 0, 0⟩ false []).wf = false ∧
    (Instr.hpbDatagramRx ⟨⟨zeros 5, none⟩, 0, 0⟩ 0 false 0 []).wf = false ∧
    (Instr.challenge 0 (zeros 31)).wf = false := by decide +kernel

/-! ## Every command passes the checks of Table 6-3 somewhere -/

/-- On MNT in FULL, with the resource it names leased to MNT: no clause about an accepted command is empty. -/
theorem test_every_command_accepted :
    everyCommand.all (fun x => decide (Accepted ((leased 1 2).hold 3 2 3 100000 |>.hold 3 3 0 100000 |>.hold 3 4 2 100000
      |>.hold 3 5 1 100000 |>.hold 3 8 1 100000) (hd 3 x.1 x.2.1 1) x.2.2 ses)) = true := by decide +kernel

/-- SFP alone may send the safety commands. -/
theorem test_safety_accepted :
    [Cmd.safeStop 1 0, .safeRelease 1, .safeStatus].all (fun c => decide (Accepted full (hd 2 0 0 1) c ses)) = true := by
  decide +kernel

/-- The same command from another port is refused with E_PORT. -/
theorem test_safety_refused : status (.safeStop (hd 3 0 0 1) 1 0) full (hd 3 0 0 1) = some ePort := by decide +kernel

/-! ## Sessions, leases, registers, memory -/

/-- Witnesses of SessionCommandsComplete, the boundaries of GET_CERTS (4 bytes) and PING (64 and 68 bytes). -/
theorem witness_SessionCommandsComplete :
    Accepted full (hd 0 0 0 1) .hello ses ∧ Accepted full (hd 0 0 0 1) (.getWatermark (zeros 32)) ses ∧
    Accepted full (hd 0 0 0 1) (.getCerts 0 4) ses ∧ Accepted full (hd 0 0 0 1) (.getCerts 0 3) ses ∧
    (Accepted full (hd 1 0 0 1) (.eventSubscribe 0xFFFFE true) ses ∧ (0xFFFFE : Word).toNat % 2 = 0 ∧ (0xFFFFE : Word).toNat < 2 ^ 20) ∧
    Accepted full (hd 0 0 0 1) (.ping (zeros 64)) ses ∧ Accepted full (hd 0 0 0 1) (.ping (zeros 68)) ses := by and_intros <;> decide +kernel

/-- A PING of 64 bytes returns them, one of 68 is E_PARAM, EVENT_SUBSCRIBE returns the old mask (Table 7-2, R121). -/
theorem test_ping : status (.ping (hd 0 0 0 1) (zeros 64)) full (hd 0 0 0 1) = some stOk ∧
    payload (.ping (hd 0 0 0 1) (zeros 64)) full (hd 0 0 0 1) = some (zeros 64) ∧
    status (.ping (hd 0 0 0 1) (zeros 68)) full (hd 0 0 0 1) = some eParam := by decide +kernel
theorem test_subscribe : payload (.eventSubscribe (hd 1 0 0 1) 2 false) full (hd 1 0 0 1) = some (le 4 0xFFFFE) := by
  decide +kernel

/-- Witnesses of LeaseCommandsAct: a free axis, one's own axis, a JOB_POOL share, another owner's axis. -/
theorem witness_LeaseCommandsAct :
    (Accepted full (hd 0 1 2 1) (.leaseTake ⟨100, 0, 0⟩) ses ∧ leaseOk (hd 0 1 2 1) ⟨100, 0, 0⟩ false = true ∧
      (full.accepted (hd 0 1 2 1)).holder 1 2 = 0) ∧
    (Accepted full (hd 0 7 1 1) (.leaseTake ⟨1000, 64, 32⟩) ses ∧ leaseOk (hd 0 7 1 1) ⟨1000, 64, 32⟩ false = true ∧
      (full.accepted (hd 0 7 1 1)).holder 7 1 = 0 ∧ (full.accepted (hd 0 7 1 1)).shareFits 0 64 32 = true) ∧
    (Accepted (leased 1 2) (hd 3 1 2 1) (.leaseRenew ⟨100, 0, 0⟩) ses ∧ leaseOk (hd 3 1 2 1) ⟨100, 0, 0⟩ true = true ∧
      ((leased 1 2).accepted (hd 3 1 2 1)).holder 1 2 = Port.id 3) ∧
    Accepted full (hd 0 1 2 1) .leaseQuery ses ∧
    (Accepted (leased 1 2) (hd 0 1 2 1) (.leaseTake ⟨100, 0, 0⟩) ses ∧ (leased 1 2).holder 1 2 ≠ 0 ∧
      (leased 1 2).holder 1 2 ≠ Port.id 0) ∧
    (Accepted (leased 1 2) (hd 3 1 2 1) .leaseRelease ses ∧ (leased 1 2).holds 3 1 2 = true) ∧
    (Accepted (leased 1 2) (hd 0 1 2 1) .leaseRelease ses ∧ (leased 1 2).holds 0 1 2 = false) := by and_intros <;> decide +kernel

/-- A leased axis is contended for another owner; its holder releases it. -/
theorem test_lease : status (.leaseTake (hd 0 1 2 1) ⟨100, 0, 0⟩) (leased 1 2) (hd 0 1 2 1) = some eContended ∧
    status (.leaseRelease (hd 0 1 2 1)) (leased 1 2) (hd 0 1 2 1) = some eNotHolder ∧
    (after (.leaseRelease (hd 3 1 2 1)) (leased 1 2)).holder 1 2 = 0 := by decide +kernel

/-- MNT without a session, HELLO answered, one key enrolled in its slot 1. -/
def opening : State :=
  { full with
    owners := bankUpd full.owners 3 fun o => { o with session := none, challenge := some (zeros 32, 900) },
    keys := { full.keys with enrolled := bankSet full.keys.enrolled 3 #v[none, some (zeros 97), none, none] } }
def hz : Hdr := { hd 3 0 0 1 with key := .zeroKey }
def openKey (id : Word) : OpenP := ⟨id, zeros 97, zeros 32, zeros 96⟩

theorem witness_SessionsOpenAndEnd :
    ((before opening (.enrolComplete true)).enrolComes = true ∧ opening.enrolComes = false) ∧
    (AcceptedFree opening hz (.openSession (openKey 0x401)) ∧ opening.keys.keysOut = false ∧
      opening.namedKey 3 0x401 = some (zeros 97) ∧ opening.liveChallenge 3 = some (zeros 32)) ∧
    (Accepted full (hd 3 0 0 1) .closeSession ses ∧ ses.outstanding < 63) ∧
    (Accepted { full with owners := full.owners.map fun o => { o with session := some { ses with outstanding := 2 } } } (hd 3 0 0 1)
      .closeSession { ses with outstanding := 2 }) := by and_intros <;> decide +kernel

/-- Witnesses of OpenSessionKeyId, one for each way in which a KEY_ID is wrong. -/
theorem witness_OpenSessionKeyId :
    AcceptedFree opening hz (.openSession (openKey 0x301)) ∧ AcceptedFree opening hz (.openSession (openKey 0x10401)) ∧
    AcceptedFree opening hz (.openSession (openKey 0x404)) ∧ AcceptedFree opening hz (.openSession (openKey 0x400)) ∧
    opening.keys.keysOut = false ∧ opening.enrolComes = false ∧ (opening.owner 3).session = none ∧
    (0x301 : Word).toNat / 256 % 256 ≠ Port.id 3 ∧ (0x10401 : Word).toNat / 65536 ≠ 0 ∧ 4 ≤ (0x404 : Word).toNat % 256 ∧
    (opening.keys.enrolled.get 3).get (Fin.ofNat 4 ((0x400 : Word).toNat % 256)) = none := by and_intros <;> decide +kernel

/-- R167: an empty slot earns E_AUTH and uses the challenge up. -/
theorem test_empty_slot : ((after (.openSession hz (openKey 0x400)) opening).owner 3).challenge = none ∧
    ((after (.openSession hz (openKey 0x400)) opening).owner 3).cntAuth = 1 ∧
    sent (after (.openSession hz (openKey 0x400)) opening) = [some (3, .mnt, replyPacket hz 0x02 eAuth [] none false)] := by
  decide +kernel

/-- Timer 12 with a capture of its tick to come. -/
def captured12 : State :=
  before { full with timers := bankUpd full.timers 12 fun t => { t with run := true, capEdge := 1, gtFunc := #v[5, 0] } }
    (.timerCapture ⟨12, true, 8, 0⟩)

/-- Witnesses of RegisterCommandsComplete, the COUNTs at both ends of their ranges and beyond, and a capture that comes first. -/
theorem witness_RegisterCommandsComplete :
    captured12.readWaits 0x9C088 1 = true ∧ captured12.readWaits 0x9C084 1 = false ∧
    [0, 1, 256, 257].all (fun n => decide (Accepted full (hd 0 0 0 1) (.regRead 0x10000 n) ses ∧
      full.readWaits 0x10000 n.toNat = false)) = true ∧
    [0, 1, 64, 65].all (fun n => decide (Accepted full (hd 3 0 0 1) (.regWrite ⟨0x90010, BitVec.ofNat 32 n, List.replicate n 0⟩) ses)) = true ∧
    (Accepted full (hd 3 0 0 1) (.regModify 0x10214 1 1) ses ∧
      (((full.accepted (hd 3 0 0 1)).regLatch 0x10214).regWrites 3 0 0 [(0x10214, 1)]).2 = stOk) := by and_intros <;> decide +kernel

/-- R8: an address that is no multiple of 4. -/
theorem witness_RegisterAddressAligned :
    (Arrives full (hd 0 0 0 1) (.regRead 2 1) ses ∧ full.boot.dev.refuses 0 (.regRead 2 1) = none ∧
      full.ownerMay 0 (.regRead 2 1) = true ∧ full.readWaits 2 1 = false) ∧
    (Arrives full (hd 0 0 0 1) (.regWrite ⟨1, 1, [0]⟩) ses ∧ full.boot.dev.refuses 0 (.regWrite ⟨1, 1, [0]⟩) = none ∧
      full.ownerMay 0 (.regWrite ⟨1, 1, [0]⟩) = true) ∧
    (Arrives full (hd 0 0 0 1) (.regModify 3 0 0) ses ∧ full.boot.dev.refuses 0 (.regModify 3 0 0) = none ∧
      full.ownerMay 0 (.regModify 3 0 0) = true) := by and_intros <;> decide +kernel

/-- R8, and a write then a read of the fault-count clear's block: CHIP_ID reads as Table 1-5 gives it. -/
theorem test_registers : status (.regRead (hd 0 0 0 1) 2 1) full (hd 0 0 0 1) = some eParam ∧
    payload (.regRead (hd 0 0 0 1) 0x10000 1) full (hd 0 0 0 1) = some (le 4 (full.regWord 0x10000)) := by decide +kernel

/-- `full` with two regions of MNT: 2 MiB of HBM and one granule of VAT. -/
def stored : State :=
  full.updMem fun m => { m with
    keysUp := true, domKeys := #v[5, 6, 0, 8], nextHandle := 3, order := 2,
    regions := [⟨full.handle 1, 3, .hbm, 2097152, [0, 1]⟩, ⟨full.handle 2, 3, .vat, 65536, [0]⟩] }
def hm : Hdr := hd 3 0 0 1
def h1 : Word := word (full.handle 1)
def r1 : Region := ⟨full.handle 1, 3, .hbm, 2097152, [0, 1]⟩

/-- `stored` with the last line of the HBM region written. -/
def written : State := stored.updMem fun m => { m with hbm := { m.hbm with lines := [⟨32767, 8, 0, 0⟩] } }

/-- `stored` with its first line spoiled. -/
def spoiled : State := stored.updMem fun m => { m with hbm := { m.hbm with lines := [⟨0, 8, 0, 1⟩] } }

/-- Witnesses of MemoryCommandsAct: a fill of length 0, a range at the region's last line and one beyond it among them. -/
theorem witness_MemoryCommandsAct :
    (Accepted full hm (.memAlloc 1 0) ses ∧ Accepted full hm (.memAlloc 65537 1) ses ∧
      (full.accepted hm).granted 3 + 2 * Store.granule .vat ≤ ((full.accepted hm).owner 3).quotaMib * 2 ^ 20 ∧
      (full.accepted hm).mem.regions.length < 4096 ∧ (full.accepted hm).mem.nextHandle < 2 ^ 24 ∧
      2 ≤ (full.accepted hm).freeCount .vat) ∧
    (Accepted full hm (.memAlloc 0x780100000 0) ses ∧
      ((full.accepted hm).owner 3).quotaMib * 2 ^ 20 < (full.accepted hm).granted 3 + 30721 * Store.granule .hbm) ∧
    (Accepted full hm (.memAlloc 0x3010000 1) ses ∧ (full.accepted hm).freeCount .vat < 769) ∧
    (Accepted stored hm (.memFree h1) ses ∧ stored.region 3 h1.toNat = some r1 ∧ stored.boundBy r1.handle false = false) ∧
    Accepted stored hm (.memFree 9) ses ∧ stored.region 3 9 = none ∧
    (Accepted stored hm (.memWrite h1 2097088 (List.replicate 64 7)) ses ∧ (stored.accepted hm).region 3 h1.toNat = some r1 ∧
      r1.covers 2097088 64 = true ∧ (stored.accepted hm).boundBy h1.toNat false = false ∧
      (stored.accepted hm).firstBad r1 ((stored.accepted hm).domKey 3) (partialLines 2097088 64) = none) ∧
    (Accepted stored hm (.memWrite h1 2097152 [1, 2, 3, 4]) ses ∧ r1.covers 2097152 4 = false) ∧
    (Accepted written hm (.memRead h1 4 2097148) ses ∧ (written.accepted hm).boundBy r1.handle true = false ∧
      (written.accepted hm).region 3 h1.toNat = some r1 ∧ r1.covers 2097148 4 = true ∧
      (written.accepted hm).firstBad r1 ((written.accepted hm).domKey 3) (linesOf 2097148 4) = none) ∧
    (Accepted stored hm (.memFill h1 7 0 0) ses ∧ r1.covers 0 0 = true ∧
      (stored.accepted hm).firstBad r1 ((stored.accepted hm).domKey 3) (partialLines 0 0) = none) ∧
    (Accepted spoiled hm (.memRead h1 4 0) ses ∧ spoiled.region 3 h1.toNat = some r1 ∧ r1.covers 0 4 = true ∧
      spoiled.boundBy r1.handle true = false ∧ (spoiled.firstBad r1 (spoiled.domKey 3) (linesOf 0 4)).isSome = true) := by
  and_intros <;> decide +kernel

/-- Bytes written are read back; the range beyond the region is E_REGION; an allocation rounds up to granules (R155, R157). -/
theorem test_memory :
    payload (.memRead { hm with seq := 2 } h1 4 72) (after (.memWrite hm h1 64 (List.replicate 64 7)) stored) { hm with seq := 2 }
      = some [7, 7, 7, 7] ∧
    status (.memWrite hm h1 2097152 [1, 2, 3, 4]) stored hm = some eRegion ∧
    payload (.memAlloc hm 65537 1) full hm = some (le 4 (full.handle 1) ++ zeros 4 ++ le 8 131072) := by decide +kernel
theorem test_spoiled_line : status (.memRead hm h1 4 0) spoiled hm = some eIntegrity := by decide +kernel

/-! ## Graphs, jobs, tokens, cores -/

/-- The description of a graph of one CONVERT node from FP32 to FP32 over a vector of one element: slot 0 in, slot 1 out
(Table 10-1). -/
def graphBytes : Bytes :=
  let tensor : Bytes := le 2 5 ++ le 1 1 ++ le 1 0 ++ le 4 1 ++ le 4 1 ++ le 4 1 ++ le 4 1 ++ le 8 64 ++ zeros 4
  let none2 : Bytes := le 2 0xFFFF
  [0x53, 0x47, 0x47, 0x52] ++ le 2 1 ++ le 2 0 ++ le 4 1 ++ le 4 2 ++ le 4 2 ++ le 1 1 ++ le 1 1 ++ le 1 0 ++ zeros 1 ++ le 4 0
    ++ le 4 8 ++ zeros 32 ++ (le 2 0 ++ le 1 0 ++ zeros 13) ++ (le 2 1 ++ le 1 1 ++ zeros 13) ++ tensor ++ tensor
    ++ (le 2 0x13 ++ le 1 1 ++ le 1 1 ++ le 4 0 ++ le 4 8 ++ le 2 0 ++ (List.replicate 7 none2).flatten ++ le 2 1
      ++ (List.replicate 3 none2).flatten ++ zeros 12) ++ zeros 8

/-- `stored` with that description at the start of the HBM region and the next two lines written, MNT holding a share. -/
def described : State :=
  let s := stored.writeRange r1 8 0 (graphBytes ++ zeros (256 - graphBytes.length) ++ zeros 128)
  let s := s.hold 3 7 4 100000
  { s with leases := { s.leases with tags := #v[0, 0, 0, 2], cores := #v[0, 0, 0, 1] } }
def gLen : Word := word graphBytes.length
def g0 : Graph := graphOf graphBytes (full.handle 3) 3
def gh : Word := word (full.handle 3)

/-- `described` with the graph loaded. -/
def loaded : State := { described with
  mem := { described.mem with nextHandle := 4, selfMib := g0.copyMib }, jobs := { described.jobs with graphs := [g0] } }
def pJob : SubmitP := ⟨gh, 0xFF, false, 0xFFFF, 0xFFFF, [⟨0, 0, h1, 256⟩, ⟨1, 1, h1, 320⟩]⟩
def hj : Hdr := hd 3 7 4 1
def job0 : Job := newJob loaded 3 g0 pJob
def withJob (j : Job) : State := loaded.updJobs fun x => { x with tags := bankSet x.tags 0 (some j) }
def readyJob : Job := { job0 with st := .ready, readyPos := some 0 }
def ranJob : Job := { job0 with st := .running, attempt := 1, readyPos := some 0, cores := [0], brokeKey := some 9 }
/-- The job's attempt on core 0. -/
def running : State :=
  (withJob ranJob).updCore 0 fun c => { c with st := .job, job := some 0 }
/-- The other cores idle. -/
def idle (s : State) : State :=
  s.updCores fun c => { c with core := Vector.ofFn fun n : Fin 32 => if n = 0 then c.core.get n else { c.core.get n with st := .idle } }

/-- No job stands under any tag. -/
theorem loaded_no_job : ∀ k, loaded.job k = none := by decide +kernel
theorem withJob_only (k : Fin 64) (j x : Job) (h : (withJob j).job k = some x) : k = 0 ∧ x = j := by
  have h0 : (withJob j).job k = if k = 0 then some j else loaded.job k := by
    show (bankSet loaded.jobs.tags 0 (some j)).get k = _
    rw [bankSet_get]; simp only [eq_comm]; rfl
  rw [h0, loaded_no_job k] at h
  by_cases hk : k = 0
  · rw [if_pos hk] at h; exact ⟨hk, (Option.some.inj h).symm⟩
  · rw [if_neg hk] at h; cases h

/-- Witnesses of GraphsLoadAndJobsQueue: a sound description, one that is none, a graph with and without a job that runs it, a
submission. -/
theorem witness_GraphsLoadAndJobsQueue :
    (Accepted described hm (.graphLoad h1 0 gLen) ses ∧ (described.readRange 3 h1.toNat 0 gLen.toNat).1 = stOk ∧
      checkGraph (described.readRange 3 h1.toNat 0 gLen.toNat).2.2 described.oplib = none ∧ described.jobs.graphs.length < 256 ∧
      described.mem.nextHandle < 2 ^ 24 ∧ described.mem.selfMib + g0.copyMib ≤ 1024) ∧
    (Accepted described hm (.graphLoad h1 4 64) ses ∧ (described.readRange 3 h1.toNat 4 64).1 = stOk ∧
      (checkGraph (described.readRange 3 h1.toNat 4 64).2.2 described.oplib).isSome = true) ∧
    (Accepted loaded hm (.graphUnload gh) ses ∧ loaded.graph 3 gh.toNat = some g0) ∧
    (Accepted (withJob readyJob) hm (.graphUnload gh) ses ∧ (withJob readyJob).graph 3 gh.toNat = some g0 ∧
      (withJob readyJob).job 0 = some readyJob ∧ readyJob.st.ended = false ∧ readyJob.graph.handle = g0.handle) ∧
    (Accepted loaded hj (.jobSubmit pJob) ses ∧
      (loaded.accepted hj).submitError (loaded.ticket hj (.jobSubmit pJob) ses) pJob = none ∧
      loaded.graph 3 pJob.graph.toNat = some g0 ∧ loaded.job 0 = none ∧ loaded.jobs.tokens = [] ∧ pJob.waitToken = 0xFFFF ∧
      (∀ b ∈ pJob.binds, b.kind ≠ 2)) := by
  and_intros <;> decide +kernel

/-- The graph loads under the next handle; the job submitted is READY under tag 0. -/
theorem test_graph_and_job :
    status (.graphLoad hm h1 0 gLen) described hm = some stOk ∧ status (.graphLoad hm h1 4 64) described hm = some eGraph ∧
    status (.jobSubmit hj pJob) loaded hj = some stAccepted ∧
    ((after (.jobSubmit hj pJob) loaded).job 0).map (·.st) = some .ready := by decide +kernel

def doneJob : Job := { job0 with st := .done, attempt := 1, final := stOk, results := 0 }
def cancelledJob : Job := { job0 with st := .cancelled, final := eCancelled }

/-- A graph whose output is a tensor of result records, its job ended with one of them. -/
def g1 : Graph := { g0 with tensors := [⟨0x12, 1, 0, [1, 1, 1, 1], 64⟩, ⟨0x12, 1, 0, [1, 1, 1, 1], 64⟩], records := 1 }
def recordJob : Job := { doneJob with graph := g1, results := 1 }
def recordReady : Job := { readyJob with graph := g1 }
def recordCancelled : Job := { cancelledJob with graph := g1 }

def stoppingJob : Job := { ranJob with st := .cancelled, final := eCancelled }

theorem witness_JobCommandsAct :
    (Accepted (withJob readyJob) hm (.jobCancel 0) ses ∧ (withJob readyJob).job 0 = some readyJob ∧ readyJob.port = 3) ∧
    (Accepted (withJob doneJob) hm (.jobCancel 0) ses ∧ (withJob doneJob).job 0 = some doneJob) ∧
    (Accepted loaded hm (.jobCancel 64) ses ∧ loaded.jobOf 3 64 = none) ∧
    Accepted (withJob readyJob) hm (.jobStatus 0 false) ses ∧
    (Accepted (withJob doneJob) hm (.jobStatus 0 true) ses ∧ doneJob.st.ended = true ∧ doneJob.brokeKey = none) ∧
    (Accepted (withJob stoppingJob) hm (.jobStatus 0 true) ses ∧ stoppingJob.st.ended = true ∧ stoppingJob.brokeKey ≠ none) ∧
    (Accepted (withJob readyJob) hm (.resultFetch 0 false 0 10) ses ∧ readyJob.recordBind = none) ∧
    (Accepted (withJob recordReady) hm (.resultFetch 0 false 0 10) ses ∧ recordReady.st.ended = false ∧ recordReady.recordBind ≠ none) ∧
    (Accepted (withJob recordCancelled) hm (.resultFetch 0 true 0 1) ses ∧ recordCancelled.st.ended = true ∧
      recordCancelled.recordBind ≠ none) ∧
    (Accepted (withJob recordJob) hm (.resultFetch 0 true 0 1) ses ∧ recordJob.recordBind = some ⟨1, 1, h1.toNat, 320⟩ ∧
      ((withJob recordJob).readRange 3 h1.toNat 320 64).1 = stOk ∧ recordJob.st.ended = true) := by
  and_intros <;> decide +kernel

/-- R206: a cancelled job ends CANCELLED and is counted; a tag of nobody's is E_PARAM; its records are not to be had. -/
theorem test_job_commands :
    ((after (.jobCancel hm 0) (withJob readyJob)).job 0).map (fun j => (j.st, j.final)) = some (.cancelled, eCancelled) ∧
    status (.jobCancel hm 5) loaded hm = some eParam ∧ status (.resultFetch hm 0 false 0 1) (withJob recordReady) hm = some eState ∧
    status (.resultFetch hm 0 false 0 1) (withJob recordCancelled) hm = some eCancelled := by decide +kernel

/-- `full` with one token of MNT at 5. -/
def tokened : State := full.updJobs fun j => { j with tokens := [⟨0, 3, 5, []⟩] }
/-- The same, a host waiting for 6 since tick 1000 for 1 ms. -/
def waited : State := { (tokened.updToken 0 fun k => { k with
    waiters := [.host (tokened.ticket hm (.tokenWait 0 6 1) ses) 6 101000] }).updSession 3 fun x => x.took 1 with now := 101000 }

/-- Witnesses of TokenCommandsAct at the ends of the ranges: 0x00FF_FFFF and one more, TIMEOUT 0 and 60,000. -/
theorem witness_TokenCommandsAct :
    Accepted full hm (.tokenAlloc 0xFFFFFF) ses ∧ Accepted full hm (.tokenAlloc 0x1000000) ses ∧
    (full.tokensOf 3 < (full.owner 3).quotaTok) ∧ full.jobs.tokens = [] ∧
    (Accepted tokened hm (.tokenSignal 0 0) ses ∧ Accepted tokened hm (.tokenSignal 0 0xFFFFFA) ses ∧
      Accepted tokened hm (.tokenSignal 0 0xFFFFFB) ses ∧ tokened.token 3 0 = some ⟨0, 3, 5, []⟩) ∧
    (Accepted tokened hm (.tokenWait 0 5 0) ses ∧ Accepted tokened hm (.tokenWait 0 6 0) ses ∧
      Accepted tokened hm (.tokenWait 0 6 60000) ses) ∧
    Accepted tokened hm (.tokenFree 0) ses ∧
    ((before full (.hello hm)).commandsWait = true ∧ waited.commandsWait = false ∧ waited.calm = true ∧
      (waited.token 3 0).map (·.waiters) = some [.host (tokened.ticket hm (.tokenWait 0 6 1) ses) 6 101000] ∧ 101000 ≤ waited.now ∧
      (waited.owner 3).session = some (ses.took 1) ∧ (∃ e ∈ (ses.took 1).cache, e.seq = hm.seq.toNat)) := by
  and_intros <;> decide +kernel

/-- R144, R145: the count is added to, taken from, and waited for to no avail. -/
theorem test_tokens :
    payload (.tokenSignal hm 0 3) tokened hm = some (le 4 8) ∧ payload (.tokenWait hm 0 5 0) tokened hm = some (le 4 0) ∧
    status (.tokenWait hm 0 6 0) tokened hm = some eTimeout ∧ status (.tokenSignal hm 0 0xFFFFFB) tokened hm = some eParam := by
  decide +kernel
theorem test_token_timeout : status (.tokenWaitTimeout 3 0) waited hm = some eTimeout := by decide +kernel

def lastSignal : State := { running with jobs := { running.jobs with
  tags := bankSet running.jobs.tags 0 (some { ranJob with signalToken := some 7 }), tokens := [⟨7, 3, 0x00FFFFFF, []⟩] } }
theorem witness_SignalAtDoneSaturates :
    lastSignal.job 0 = some { ranJob with signalToken := some 7 } ∧ (∀ c ∈ ranJob.cores, lastSignal.fabric.dbgHalt.get c = false) ∧
    lastSignal.badInput ranJob = none ∧ lastSignal.faultComes 0 = false ∧ lastSignal.jobs.tokens.find? (fun x => x.id == 7) = some ⟨7, 3, 0x00FFFFFF, []⟩ := by
  and_intros <;> decide +kernel

/-- R207: the count stays, the job is DONE. -/
theorem test_signal_at_done : (after (.attemptComplete 0) lastSignal).jobs.tokenOvf = 1 ∧
    ((after (.attemptComplete 0) lastSignal).job 0).map (·.st) = some .done := by decide +kernel

/-- Witnesses of AttemptsEnd: sound inputs, an input whose line is spoiled, a fault on the attempt's core, the fourth rebuild, a
fault of a lower class and a debug halt in the same tick. -/
theorem witness_AttemptsEnd :
    (let s := before running (.hsWdtExpiry 0)
     s.faultComes 0 = true ∧ s.coreOutranked 0 5 = true ∧ s.coreOutranked 0 4 = true) ∧
    ((before running (.memUncorrectable false (.coreStore 0) 0 false 0 0)).coreOutranked 0 2 = true ∧
      running.fabric.dbgHalt.get 0 = false ∧ (before running (.dbgHaltWrite hm 1)).commandsWait = true) ∧
    (running.faultComes 0 = false ∧ running.commandsWait = false ∧ [2, 3, 4, 5].all (fun k => running.outranked 0 k = false) = true ∧
      misusedBy (.foreign 9) ranJob.selfTokens = true ∧ misusedBy (.overflow 9) [(9, 0)] = true) ∧
    ((withJob { ranJob with rebuilds := 3, rebuildNode := some 5 }).job 0).map (·.rebuildNode) = some (some 5) ∧
    (running.job 0 = some ranJob ∧ ranJob.st = .running ∧ running.badInput ranJob = none ∧ (running.core1 0).st = .job ∧
      (running.core1 0).job = some 0 ∧ running.fabric.dbgHalt.get 0 = false ∧ running.boot.step ≠ .held ∧
      running.boot.step ≠ .stopped ∧ ranJob.rebuilds < 3) ∧
    ((running.updMem fun m => { m with hbm := { m.hbm with lines := m.hbm.lines.map fun x => { x with bad := 1 } } }).badInput ranJob).isSome
      = true ∧
    ((withJob { ranJob with rebuilds := 3 }).job 0).map (·.rebuilds) = some 3 ∧ ranJob.cores.head? = some 0 := by
  and_intros <;> decide +kernel

/-- R187, R211: a handshake watchdog abandons with class 2 and faults the core; R206: a sound attempt ends DONE, its core IDLE. -/
theorem test_attempt : ((after (.hsWdtExpiry 0) running).job 0).map (fun j => (j.st, j.lastClass)) = some (.restarting, 2) ∧
    ((after (.hsWdtExpiry 0) running).core1 0).st = .fault ∧
    ((after (.attemptComplete 0) running).job 0).map (fun j => (j.st, j.final)) = some (.done, stOk) ∧
    ((after (.attemptComplete 0) running).core1 0).st = .idle := by decide +kernel

/-- Witnesses of DispatchTakesTheOldest: enough free cores, and none. -/
theorem witness_DispatchTakesTheOldest :
    ((idle (withJob readyJob)).headJob = some (0, readyJob) ∧ (idle (withJob readyJob)).dispatchHeld = false ∧
      readyJob.graph.coresLow ≤ ((List.finRange 32).filter (idle (withJob readyJob)).coreFree).length ∧
      readyJob.graph.brokeHbm ≤ (idle (withJob readyJob)).freeCount .hbm ∧ (idle (withJob readyJob)).commandsWait = false ∧
      (idle (withJob readyJob)).behind (idle (withJob readyJob)).endsAttempt = false) ∧
    (let s := before running (.attemptComplete 0)
     s.behind s.endsAttempt = true) ∧
    ((withJob readyJob).headJob = some (0, readyJob)) := by
  and_intros <;> decide +kernel
theorem test_dispatch : ((after .jobDispatch (idle (withJob readyJob))).job 0).map (fun j => (j.st, j.attempt, j.cores.length)) =
    some (.running, 1, 1) := by decide +kernel

/-- A job that waits for a sensor past its token, one frame delivered. -/
def waitJob : Job := { job0 with
  graph := { g0 with sensorMin := 1, windowUs := 10 }, waitToken := none, tokenTaken := true, delivered := [⟨2, 0, 0, 0⟩] }
def faulted : State := full.updCore 4 fun c => { c with st := .fault, faults := 1 }
/-- The attempt on core 0 stops after its tag was freed. -/
def freedState : State := ({ running with jobs := { running.jobs with
  tags := bankSet running.jobs.tags 0 (some { ranJob with st := .cancelled }) } }).freeTag 0
theorem witness_CoreRowsAct :
    ((withJob { ranJob with st := .restarting }).job 0 = some { ranJob with st := .restarting } ∧ ranJob.brokeKey ≠ none) ∧
    freedState.jobs.stopping.find? (fun a => a.tag == 0) = some ⟨0, 3, [0], [], [], []⟩ ∧
    ((withJob waitJob).job 0 = some waitJob ∧ waitJob.st = .waiting ∧ waitJob.pastToken = true ∧ waitJob.graph.sensorMin ≠ 0 ∧
      waitJob.graph.sensorMin ≤ waitJob.delivered.length ∧ (0 : Nat) + 10 * usTicks ≤ (withJob waitJob).now ∧
      (withJob waitJob).commandsWait = false ∧ (before (withJob waitJob) (.hello hm)).commandsWait = true) ∧
    ((faulted.core1 4).st = .fault ∧ (faulted.core1 4).retired = false ∧ faulted.fabric.dbgHalt.get 4 = false ∧
      faulted.boot.dev ≠ .shutdown ∧ (faulted.core1 4).faults < faulted.cores.faultMax) := by
  and_intros <;> decide +kernel

/-- R189, R192: a core in FAULT that passes its test serves again; one that fails is retired. -/
theorem test_core_self_test : ((after (.coreSelfTestDone 4 true) faulted).core1 4).st = .idle ∧
    ((after (.coreSelfTestDone 4 false) faulted).core1 4).retired = true := by decide +kernel

/-! ## Sensor ports -/

/-- Port 2 CONFIGURED as `pSns` says, leased to MNT, and what follows from arming it and a frame's start. -/
def snsState (x : SnsPort → SnsPort) : State := (leased 4 2).updSensor 2 x
def hs4 : Hdr := hd 3 4 2 1
def cfg2 : SnsCfg := snsCfgOf pSns
def arm2 : SnsArm := ⟨none, 4, 0, 0, 0⟩
def frame2 : Incoming := ⟨0, 16, 500, 9, [], [], none, false, false, false, 0⟩
def lines16 : List Bytes := List.replicate 16 (zeros 128)
def configured : State := snsState fun x => { x with st := .configured, cfg := cfg2, clk := true }
def armed : State := snsState fun x => { x with st := .armed, cfg := cfg2, arm := arm2 }
def receiving (f : Incoming) : State := snsState fun x =>
  { x with
    st := .receiving, cfg := cfg2, arm := arm2, incoming := some f, bufs := bankUpd x.bufs 0 fun y => { y with st := .filling } }
def armTrig : State := snsState fun x => { x with st := .armed, cfg := cfg2, arm := { arm2 with trigSrc := 3, windowUs := 50 } }

theorem witness_SensorCommandsComplete :
    (Accepted (leased 4 2) hs4 (.sensorConfig pSns) ses ∧ snsCfgOk pSns = true ∧
      ((leased 4 2).sns 2).bufs.toList.any (fun b => b.st == .held) = false ∧ (leased 4 2).snsBound 2 = false) ∧
    Accepted armed hs4 (.sensorConfig pSns) ses ∧
    (Accepted { leased 4 2 with mem := { full.mem with selfMib := 1024 } } hs4 (.sensorConfig pSns) ses) ∧
    (Accepted configured hs4 (.sensorArm pArm) ses ∧ pArm.syncMask.getLsbD 2 = true ∧ pArm.trigSrc.toNat ≤ 12 ∧
      (pArm.trigSrc = 0 ↔ pArm.windowUs = 0)) ∧
    Accepted (leased 4 2) hs4 (.sensorArm pArm) ses ∧
    (Accepted (receiving frame2) hs4 (.sensorDisarm 0) ses ∧ Accepted (receiving frame2) hs4 (.sensorDisarm 1) ses ∧
      (before (receiving { frame2 with confFe := true }) (.sensorFe 2 false 9 false)).endsNow 2 = true ∧
      (receiving frame2).endsNow 2 = false ∧ Accepted armed hs4 (.sensorDisarm 0) ses ∧ (armed.sns 2).incoming = none ∧ Accepted configured hs4 (.sensorDisarm 1) ses ∧
      Accepted (snsState fun x => { x with st := .test }) hs4 (.sensorDisarm 0) ses) := by
  and_intros <;> decide +kernel

/-- R262, R264: configured, armed and disarmed; E_STATE out of state. -/
theorem test_sensor_commands :
    ((after (.sensorConfig hs4 pSns) (leased 4 2)).sns 2).st = .configured ∧
    ((after (.sensorArm hs4 pArm) configured).sns 2).st = .armed ∧ status (.sensorArm hs4 pArm) (leased 4 2) hs4 = some eState ∧
    ((after (.sensorDisarm hs4 1) (receiving frame2)).sns 2).disarmPending = true ∧
    ((after (.sensorDisarm hs4 0) (receiving frame2)).sns 2).st = .configured := by decide +kernel

/-- With no stack under test every empty buffer in use is free, wherever it lies. -/
theorem freeBufs_eq (s : State) (k : Fin 6) (h2 : s.underTest 2 = false) (h3 : s.underTest 3 = false) :
    s.freeBufs k = (List.finRange 4).filter fun i =>
      decide (i.val < (s.sns k).cfg.bufs) && ((s.sns k).bufs.get i).st == .free := by
  simp [State.freeBufs, State.bufTested, h2, h3]
theorem armed_free : armed.freeBufs 2 = [0, 1, 2, 3] := by
  rw [freeBufs_eq armed 2 (by decide +kernel) (by decide +kernel)]; decide +kernel
theorem armTrig_free : armTrig.freeBufs 2 = [0, 1, 2, 3] := by
  rw [freeBufs_eq armTrig 2 (by decide +kernel) (by decide +kernel)]; decide +kernel
/-- Port 2 armed, every buffer held. -/
def allHeld : State := armed.updSensor 2 fun x => { x with bufs := x.bufs.map fun b => { b with st := .held } }
theorem allHeld_none : allHeld.freeBufs 2 = [] := by
  rw [freeBufs_eq allHeld 2 (by decide +kernel) (by decide +kernel)]; decide +kernel

/-- Witnesses of SensorRowsAct, with `armed_free`, `armTrig_free` and `allHeld_none`: a frame's start within and without its trigger window and without a buffer, its lines, its end,
its time limit, the port's clock and its trigger edge. -/
theorem witness_SensorRowsAct :
    ((before armed (.sensorArm hs4 pArm)).commandsWait = true ∧
      (before armTrig (.sensorTriggerEdge 2)).behind ((armTrig.sns 2).mayTrigger 2) = true ∧
      ({ armed with deferred := [.sensorFs 2 false 9 false] } : State).packetsWait 2 = true ∧
      (before (receiving frame2) (.sensorFe 2 false 9 false)).feWaits 2 false = true) ∧
    ((armed.sns 2).st = .armed ∧ (armed.sns 2).incoming = none ∧ armed.commandsWait = false ∧ armed.packetsWait 2 = false ∧
      armed.behind ((armed.sns 2).mayTrigger 2) = false) ∧
    ((armTrig.sns 2).incoming = none ∧ (armTrig.sns 2).arm.trigSrc ≠ 0 ∧ armTrig.commandsWait = false ∧
      armTrig.behind ((armTrig.sns 2).mayTrigger 2) = false ∧
      ((armTrig.sns 2).seen.get (Fin.ofNat 12 ((armTrig.sns 2).arm.trigSrc - 1))).map (·.1) ≠ some armTrig.now) ∧
    (((receiving { frame2 with lines := lines16, lost := true }).sns 2).incoming.map (·.lost) = some true ∧
      (receiving frame2).packetsWait 2 = false ∧ (receiving frame2).commandsWait = false ∧
      (receiving frame2).feWaits 2 false = false ∧ (receiving frame2).feWaits 2 true = false) ∧
    ((allHeld.sns 2).st = .armed ∧ (allHeld.sns 2).incoming = none ∧ (allHeld.sns 2).arm.trigSrc = 0) ∧
    (((receiving frame2).sns 2).incoming = some frame2 ∧ frame2.bad = 0 ∧ frame2.depthFe = false ∧
      (0 : Byte).toNat = cfg2.vcDepth ∧ (0x2E : Byte).toNat = cfg2.dt ∧ (zeros 128).length = 2 * cfg2.width ∧
      frame2.lines.length < cfg2.height) ∧
    (let s : State := { receiving frame2 with now := 500 + 100 * msTicks }
     (s.sns 2).incoming = some frame2 ∧ frame2.fsTick + (s.sns 2).cfg.timeoutMs * msTicks ≤ s.now ∧
       (s.sns 2).disarmPending = false ∧ (s.sns 2).arm.count = 0) ∧
    ((configured.sns 2).incoming = none ∧ (configured.sns 2).clk = true ∧ (configured.sns 2).st ≠ .unconfigured ∧
      (configured.sns 2).cfg.clkMode = 0) ∧
    (let f := { frame2 with lines := lines16 }
     ((receiving f).sns 2).st = .receiving ∧ ((receiving f).sns 2).cfg.conf = false ∧ f.fnum = (9 : BitVec 16).toNat ∧
       f.lines.length = ((receiving f).sns 2).cfg.height ∧
       (receiving f).now ≤ f.fsTick + ((receiving f).sns 2).cfg.timeoutMs * msTicks ∧ ((receiving f).sns 2).arm.token = none) ∧
    ((receiving { frame2 with bad := 2 }).sns 2).disarmPending = false := by
  and_intros <;> decide +kernel

/-- R257, R258, R260, R265. -/
theorem test_frame :
    ((after (.sensorFe 2 false 9 false) (receiving { frame2 with lines := lines16 })).sns 2).complete = 1 ∧
    ((after (.sensorFe 2 false 9 false) (receiving { frame2 with bad := 2 })).sns 2).crc = 1 ∧
    ((after (.sensorFs 2 false 9 false) armTrig).sns 2).untrig = 1 := by decide +kernel
theorem test_frame_lines :
    ((after (.sensorLongPacket 2 0 0x2E 3 true (zeros 128)) (receiving frame2)).sns 2).sot = 1 ∧
    ((after (.sensorFrameTimeout 2) { receiving frame2 with now := 500 + 100 * msTicks }).sns 2).trunc = 1 ∧
    ((after (.sensorFrameTimeout 2) { receiving frame2 with now := 499 + 100 * msTicks }).sns 2).trunc = 0 := by decide +kernel

/-! ## Timebase, pulses, store -/

/-- `full` with device time running at `fine`. -/
def timed (f : Timebase → Timebase) : State := full.updTb fun t => f { t with running := true, fine := 5 * secFine }
def hmt : Hdr := hd 3 0 0 1

/-- Witnesses of TimeCommandsAct: the pulse's TRIM, PERIOD and WIDTH at the ends of their ranges, the step's second reached and
not. -/
theorem witness_TimeCommandsAct :
    Accepted (timed id) (hd 0 0 0 1) .timeGet ses ∧ Accepted full (hd 0 0 0 1) .timeGet ses ∧
    (Accepted (timed id) hmt (.timeRefSelect pTime) ses ∧ timeRefOk pTime = true) ∧
    (Accepted (timed id) hmt (.timeRefSelect { pTime with primary := 7 }) ses ∧ timeRefOk { pTime with primary := 7 } = false) ∧
    (Accepted (timed id) hmt (.pulseConfig { pPulse with trim := -500, period := 1000000000000, width := 999999999990 }) ses) ∧
    (Accepted (timed id) hmt (.pulseConfig { pPulse with pulse := 3, trim := 500, period := 1000, width := 10 }) ses) ∧
    Accepted (timed id) hmt (.pulseConfig { pPulse with pulse := 4 }) ses ∧
    (let s := timed fun t => { t with pendingStep := true, secNext := 5, remain := 3 }
     s.tb.running = true ∧ s.tb.secNext * secFine ≤ s.tb.fine ∧ (s.owner 0).session = some ses ∧ ses.mask.testBit 11 = true ∧
       s.portDead 0 = false ∧ (s.owner 0).events.length < 256) ∧
    (let s : State := { timed (fun t => { t with
        set := { t.set with primary := .ptp, backup := .ppsi, revertS := 1 }, refUse := .ppsi, st := .locked, primaryFrom := some 0,
        ptp := { t.ptp with valid := true } }) with now := secTicks }
     s.tb.refUse = s.tb.set.backup ∧ s.tb.set.backup ≠ .none ∧ s.tb.set.primary ≠ .none ∧ s.tb.refValid s.tb.set.primary = true ∧
       s.tb.set.primary ≠ s.tb.set.backup ∧ 0 + s.tb.set.revertS * secTicks ≤ s.now) := by
  and_intros <;> decide +kernel

/-- R283, R284: TIME_GET while device time stands is E_HW_FAULT; a pulse out of range is E_PARAM. -/
theorem test_time_commands : status (.timeGet (hd 0 0 0 1)) full (hd 0 0 0 1) = some eHwFault ∧
    status (.timeGet (hd 0 0 0 1)) (timed id) (hd 0 0 0 1) = some stOk := by decide +kernel
theorem test_pulse_range : status (.pulseConfig hmt { pPulse with trim := 501 }) (timed id) hmt = some eParam ∧
    status (.pulseConfig hmt { pPulse with trim := 500 }) (timed id) hmt = some stOk := by decide +kernel

/-- Pulse 1 enabled, its first edge at 1 s. -/
def pulsing (f : Pulse → Pulse) : State :=
  (timed id).updPulse 1 fun p => f { p with cfg := { p.cfg with en := true, start := 1000000000, period := 1000000, width := 500 } }
def ppsiSet (f : Ppsi → Ppsi) : State :=
  timed fun t => { t with set := { t.set with primary := .ppsi, ppsiEdge := 0 }, refUse := .ppsi, st := .locked, ppsi := f t.ppsi }
theorem witness_PulseAndPpsiRowsAct :
    (((pulsing id).tb.pulses.get 1).active = false ∧ ((pulsing id).tb.pulses.get 1).cfg.en = true ∧ (pulsing id).pulsesRun = true ∧
      ((pulsing id).tb.pulses.get 1).fromTick ≤ (pulsing id).now) ∧
    (((pulsing fun p => { p with active := true }).tb.pulses.get 1).active = true ∧
      ((pulsing fun p => { p with active := true }).tb.pulses.get 1).next = none) ∧
    (((pulsing fun p => { p with active := true, endTick := some 1000 }).tb.pulses.get 1).endTick = some 1000) ∧
    ((ppsiSet id).tb.running = true ∧ (ppsiSet id).tb.set.ppsiEdge = 0 ∧ (ppsiSet id).tb.ppsi.overdue (1000 * 100 + 7) = false) ∧
    (let s : State := { ppsiSet (fun p => { p with lastAt := some 0, first := false }) with now := 99990000 }
     s.tb.ppsi.overdue (s.now * 100 + 0) = false ∧ 0 + 9999000000 ≤ s.now * 100 + 0) ∧
    (let s : State := { ppsiSet (fun p => { p with lastAt := some 0, valid := true, first := false }) with now := 150000000 }
     s.ppsiOverdue = true ∧ s.tb.refUse = .ppsi ∧ s.tb.set.primary = .ppsi ∧ s.tb.set.backup = .none ∧ s.tb.st = .locked) ∧
    (149999998 * 100 + 99 < 0 + 15000000000) := by
  and_intros <;> decide +kernel

/-- R274, R275: an edge 1 s + 100 µs after the last is accepted, one 0.1 ns later rejected; PPSI is lost after 1,500 ms. -/
theorem test_ppsi :
    let s (n : Nat) : State := { ppsiSet (fun p => { p with lastAt := some 0, first := false, run := 1 }) with now := n }
    (after (.ppsiEdge true 0) (s 100010000)).tb.ppsi.cntEdges = 1 ∧ (after (.ppsiEdge true 1) (s 100010000)).tb.ppsi.cntReject = 1 ∧
    (after .ppsiLoss (s 150000000)).tb.st = .holdover ∧ (after .ppsiLoss (s 149999998)).tb.st = .locked := by decide +kernel

/-- A PTP port that serves, one master selected. -/
def ptpOn (f : Ptp → Ptp) (delay : Nat) : State :=
  timed fun t => { t with
    set := { t.set with primary := .ptp, delay := delay }, refUse := .ptp, st := .locked,
    ptp := f { t.ptp with selected := some (1, 2) } }
/-- A PTP message over UDP to the group address of PTP. -/
def rxPtp : PtpRx := ⟨.udp4 ⟨[0x01, 0x00, 0x5E, 0x00, 0x01, 0x81], none⟩, false, false, false⟩
theorem witness_PtpRowsAct :
    ((timed id).ptpHears rxPtp = true ∧ (timed id).ptpRefuses rxPtp (timed id).tb.set.domain = false ∧
      (timed id).tb.ptp.masters = [] ∧ (timed id).tb.ptp.selected = none ∧ (timed id).tb.set.primary = .none ∧
      (timed id).tb.refUse = .none ∧ (timed id).tb.set.domain ≠ 77) ∧
    [{ rxPtp with malformed := true }, { rxPtp with unicast := true }, { rxPtp with foreignTlv := true }].all (fun rx =>
      (timed id).ptpHears rx) = true ∧
    ((ptpOn id 0).ptpUp = true ∧ (ptpOn id 0).ptpHears rxPtp = true ∧ (ptpOn id 0).ptpRefuses rxPtp full.tb.set.domain = false ∧
      (ptpOn id 0).tb.ptp.selected = some (1, 2)) ∧
    ((ptpOn (fun p => { p with openSync := some ⟨5, 0, 0, 900⟩, delay := some 0 }) 0).tb.ptp.openSync = some ⟨5, 0, 0, 900⟩) ∧
    (let s : State := { ptpOn (fun p => { p with lastSync := some 0 }) 0 with now := full.tb.set.ptpMs * msTicks }
     s.tb.running = true ∧ s.tb.ptp.lastSync = some 0 ∧ 0 + s.tb.set.ptpMs * msTicks ≤ s.now ∧ s.tb.refUse = .ptp ∧
       s.tb.set.primary = .ptp ∧ s.tb.set.backup = .none ∧ s.tb.st = .locked) ∧
    (let s : State := before { ptpOn (fun p => { p with lastSync := some 0 }) 0 with now := 1000000000 } .ppsiLoss
     let u := s.updTb fun t => { t with set := { t.set with backup := .ppsi }, ppsi := { t.ppsi with lastAt := some 0 } }
     0 + u.tb.set.ptpMs * msTicks ≤ u.now ∧ u.tb.refUse = .ptp ∧ u.tb.set.primary = .ptp ∧ u.tb.set.backup = .ppsi ∧
       u.tb.st = .locked ∧ u.ppsiOverdue = true ∧ .ppsiLoss ∈ u.pending) ∧
    ((ptpOn id 0).since (ptpOn id 0).tb.ptp.reqAt (logTicks (ptpOn id 0).tb.ptp.logDelay) = true ∧
      (ptpOn (fun p => { p with reqAt := some 1000 }) 0).since (some 1000) (logTicks 0) = false ∧
      (ptpOn id 1).since (ptpOn id 1).tb.ptp.preqAt secTicks = true ∧ (ptpOn id 1).since (some 1000) secTicks = false) ∧
    (let s := ptpOn (fun p => { p with openDelay := some ⟨5, 0⟩, lastRx := some (0, 0) }) 0
     s.ptpHears rxPtp = true ∧ s.tb.set.delay = 0 ∧ s.tb.ptp.openDelay = some ⟨5, 0⟩ ∧ s.tb.ptp.lastRx = some (0, 0)) ∧
    (let s := ptpOn (fun p => { p with openPdelay := some ⟨5, 0⟩, pdelayRx := some (5, 0, 0) }) 1
     s.ptpUp = true ∧ s.ptpHears rxPtp = true ∧ s.ptpRefuses rxPtp s.tb.set.domain = false ∧ s.tb.set.delay = 1 ∧
       s.tb.ptp.openPdelay = some ⟨5, 0⟩ ∧ s.tb.ptp.pdelayRx = some (5, 0, 0)) := by
  and_intros <;> decide +kernel

/-- R288: a malformed message is discarded and counted. R273: a Pdelay_Resp of one step takes half of what the request's time and the correction leave. -/
theorem test_pdelay :
    let s := ptpOn (fun p => { p with openPdelay := some ⟨5, 0⟩ }) 1
    ((after (.ptpPdelayRespRx ⟨rxPtp, s.tb.set.domain, false, true, 5, 0, 0, false, 0⟩) s).tb.ptp.delay) =
      some ((s.stamp 0 + ((s.tb.set.phyRx * nsFine / 10 : Nat) : Int)) / 2) ∧
    (after (.ptpPdelayRespRx ⟨{ rxPtp with malformed := true }, s.tb.set.domain, false, true, 5, 0, 0, false, 0⟩) s).tb.ptp.cntDiscard = 1 := by
  decide +kernel

def saving (at_ : Nat) : State :=
  { full.updSession 3 (fun x => x.took 1) with
    now := at_, store := { full.store with queue := [⟨.timebase full.tb.set, some (full.ticket hmt (.timeRefSelect pTime) ses), 0, none⟩] } }
theorem witness_ConfigStoreWrites :
    ((before (saving 9) (.configStoreWriteDone true)).readBackComes = true ∧ (saving 9).readBackComes = false) ∧
    (StoreItem.enrolment ≠ .coordFc 1 ∧ ([⟨.enrolment, none, 0, none⟩] : List StoreWrite).map (·.item) = [.enrolment]) ∧
    ((saving 9).store.queue.all (fun w => w.retryAt.getD 0 ≤ 9 ∧ w.item ≠ .enrolment) = true ∧ (saving 9).underTest 9 = false ∧ ((saving 9).owner 3).session = some (ses.took 1) ∧
      (∃ e ∈ (ses.took 1).cache, e.seq = 1)) ∧
    (0 + 100 * msTicks ≤ (saving 10000000).now ∧ (saving 9999999).now < 0 + 100 * msTicks) := by
  and_intros <;> decide +kernel

/-- R285. -/
theorem test_store : status (.configStoreWriteDone true) (saving 9) hmt = some stOk ∧
    status (.configStoreWriteDone true) (saving 10000001) hmt = some eTimeout ∧
    status .saveReplyTimeout (saving 10000000) hmt = some eTimeout ∧ status .saveReplyTimeout (saving 9999999) hmt = none := by
  decide +kernel

/-! ## Timers -/

/-- Witnesses of TimersAct: timer 12 runs, its valley due and not; captures configured on its first ball. -/
def ticking (at_ : Nat) : State := { full with
  d02 := at_, timers := bankUpd full.timers 12 fun t => { t with run := true, valleyAt := 0, capEdge := 1, gtFunc := #v[5, 0] } }
theorem witness_TimersAct :
    ((ticking 0).timers.get 12).run = true ∧
    ((ticking ((ticking 0).timers.get 12).nextValley).timers.get 12).nextValley ≤ (ticking ((ticking 0).timers.get 12).nextValley).d02 ∧
    ((ticking 0).timers.get 12).valleyAt ≤ 7 ∧
    (let s := before (full.updGroup 3 fun x => { x with cfgNext := some { x.cfg with ctrlSrc := 1 } }) (.dapc 1 (.short 7) 100)
     s.switchWaits = true) ∧ (ticking 0).switchWaits = false := by
  and_intros <;> decide +kernel

/-- R290, R293: the count goes up, and a capture holds that of its D02 cycle; EDGE 1 captures no falling edge. -/
theorem test_timer_capture : ((after (.timerCapture ⟨12, true, 0, 3⟩) (ticking 4)).timers.get 12).capCount = 7 ∧
    ((after (.timerCapture ⟨12, true, 0, 3⟩) (ticking 4)).timers.get 12).capValid = true ∧
    ((after (.timerCapture ⟨12, false, 0, 3⟩) (ticking 4)).timers.get 12).capValid = false := by decide +kernel

/-! ## Axes and observers -/

/-- Axis 2 leased to MNT and changed, with its configuration. -/
def axState (f : Axis → Axis) : State :=
  (leased 1 2).updAxis 2 fun a => f { a with cfg := some (axCfgOf pAxisCfg) }
def hx : Hdr := hd 3 1 2 1
def axOn (st : AxSt) : State := axState fun a => { a with st := st }
def laterAx (f : Axis → Axis) (at_ : Nat) : State := { axState f with now := at_ }

theorem witness_GatesAndAxisStatesAct :
    (let s := laterAx (fun a => { a with zeroFrom := some 0, stillFrom := some 0 }) 2000000
     (s.axis 2).zeroFrom = some 0 ∧ 0 + msTicks ≤ s.now ∧ (s.axis 2).still s.now = true) ∧
    ((laterAx (fun a => { a with st := .align }) 10000000).axis 2).alignFrom + 100 * msTicks ≤ 10000000 ∧
    (let s := laterAx (fun a => { a with st := .stopping, stillFrom := some 0 }) 2000000
     (s.axis 2).st = .stopping ∧ (s.axis 2).still s.now = true) ∧
    (let s := laterAx (fun a => { a with st := .stopping, stop := some ⟨.ramp, .command, 0⟩ }) 100000000
     (s.axis 2).stop = some ⟨.ramp, .command, 0⟩ ∧ 0 + (s.axis 2).c.rampMs * msTicks ≤ s.now) ∧
    (let s (r : Bool) := laterAx (fun a => { a with st := .lost, stillFrom := some 0, realign := r }) 2000000
     ((s true).axis 2).st = .lost ∧ ((s true).axis 2).still (s true).now = true ∧ ((s false).axis 2).realign = false ∧
       (s true).safeStopComes = false ∧ (before (s true) .sfpStopNFall).safeStopComes = true) := by
  and_intros <;> decide +kernel

/-- R309, R310, R317 at their times and one tick before. -/
theorem test_axis_times :
    ((after (.alignDone 2) (laterAx (fun a => { a with st := .align }) 10000000)).axis 2).st = .runHfi ∧
    ((after (.alignDone 2) (laterAx (fun a => { a with st := .align }) 9999999)).axis 2).st = .align ∧
    ((after (.motorStill 2) (laterAx (fun a => { a with st := .stopping, stillFrom := some 0 }) 2000000)).axis 2).st = .stoppedSafe ∧
    ((after (.motorStill 2) (laterAx (fun a => { a with st := .stopping, stillFrom := some 0 }) 1999999)).axis 2).st = .stopping := by
  decide +kernel

/-- R307: 256 samples of phase U, half of them 3 and half 4, leave the offset 4, the nearest even code. -/
theorem test_zeroing :
    let m : Vector (BitVec 16) 256 := Vector.ofFn fun i => if i.val < 128 then 3 else 4
    ((after (.axisZeroDone 2 (.replicate 3 m)) (laterAx (fun a => { a with zeroFrom := some 0, stillFrom := some 0 }) 2000000)).axis 2).zero.get 0
      = 4 := by decide +kernel

theorem witness_AxisConfigAndEnableAct :
    (Accepted (axOn .disabled) hx (.axisConfig { pAxisCfg with pwmHz := 0 }) ses ∧
      (axCfgOf { pAxisCfg with pwmHz := 0 }).ok = false) ∧
    (Accepted (axOn .stoppedSafe) hx (.axisConfig pAxisCfg) ses ∧ (axCfgOf pAxisCfg).ok = true) ∧
    Accepted (axOn .runHfi) hx (.axisConfig pAxisCfg) ses ∧
    ((let s := (axOn .disabled).updCore (coreOf 2) fun c => { c with job := some 5 }
      (before s (.attemptStopped 5)).coreEnds (coreOf 2) = true) ∧ (axOn .disabled).coreEnds (coreOf 2) = false) ∧
    Accepted (axOn .disabled) hx (.axisEnable 0 true) ses ∧
    (Accepted (axState fun a => { a with hold := true }) hx (.axisEnable 1 true) ses ∧ (full.test.axis.get 2).running = false) ∧
    (Accepted (axOn .stoppedSafe) hx (.axisEnable 1 false) ses ∧ ((axOn .stoppedSafe).axis 2).cfg ≠ none ∧
      ((axOn .stoppedSafe).axis 2).hold = false ∧ (((axOn .stoppedSafe).axis 2).netted = true → (axOn .stoppedSafe).pinStatus 2 = stOk)) ∧
    (Accepted (axOn .fault) hx (.axisEnable 0 false) ses ∧ ((axOn .fault).axis 2).faultGone (axOn .fault).now = true) ∧
    (Accepted (axOn .runObs) hx (.axisEnable 0 false) ses ∧ AxSt.enabled .runObs = true) := by
  and_intros <;> decide +kernel

theorem test_axis_enable : status (.axisConfig hx pAxisCfg) (axOn .runHfi) hx = some eState ∧
    status (.axisEnable hx 1 true) (axState fun a => { a with hold := true }) hx = some eSafeHeld ∧
    ((after (.axisEnable hx 1 true) (axOn .disabled)).axis 2).zeroFrom = some 1000 ∧
    ((after (.axisEnable hx 0 true) (axOn .fault)).axis 2).st = .disabled := by decide +kernel

theorem witness_AxisCommandsAct :
    (Accepted (axState fun a => { a with st := .runHfi, hold := true }) hx (.axisCommand ⟨0, 100, 200, 100⟩) ses) ∧
    (Accepted (axOn .runHfi) hx (.axisCommand ⟨0, 500, 500, 5000⟩) ses ∧ Accepted (axOn .align) hx (.axisCommand ⟨0, 501, 1, 1⟩) ses ∧
      Accepted (axOn .couch) hx (.axisCommand ⟨1, -5000, 1, 1⟩) ses ∧ Accepted (axOn .stopping) hx (.axisCommand ⟨1, 0, 1, 1⟩) ses) ∧
    (Accepted (axOn .fault) hx (.axisStop 0) ses ∧ Accepted (axOn .disabled) hx (.axisStop 1) ses ∧
      ((axOn .disabled).axis 2).zeroFrom = none ∧ Accepted (axOn .runObs) hx (.axisStop 2) ses ∧ Accepted (axOn .lost) hx (.axisStop 0) ses) ∧
    Accepted (axOn .fault) hx .axisStatus ses := by
  and_intros <;> decide +kernel

/-- R311, R312: a stop by command takes a running axis to STOPPING with cause 8; I_MAX bounds the set-point. -/
theorem test_axis_stop : ((after (.axisStop hx 1) (axOn .runObs)).axis 2).st = .stopping ∧
    ((after (.axisStop hx 1) (axOn .runObs)).axis 2).cause = 8 ∧ status (.axisStop hx 0) (axOn .fault) hx = some eState ∧
    status (.axisCommand hx ⟨0, 501, 1, 1⟩) (axOn .align) hx = some eParam ∧
    status (.axisCommand hx ⟨0, 500, 500, 5000⟩) (axOn .runHfi) hx = some stOk := by decide +kernel

/-- A LOAD network of one input and one output, its weights in MNT's VAT region. -/
def pNet : ObsLoadP :=
  { pLoad with
    unload := 0, kind := 1, nin := 1, nout := 1, region := word (full.handle 2), offset := 0, length := 6272,
    inmap := bankSet (Vector.replicate 16 0) 0 1, hi := #v[0x3F800000, 0, 0, 0], slew := #v[0x3F800000, 0, 0, 0] }
def loadState : State := stored.hold 3 1 2 100000
def netOf (missed : Nat) : ObsNet := { obsNetOf pNet [] 3 with missRun := missed }
def withNet (k : Fin 3) (f : Axis → Axis) (n : ObsNet) : State :=
  laterAx (fun a => f { a with nets := bankSet a.nets k (some n), evals := [⟨k, .replicate 4 0, 0, false, 0⟩] }) 160

theorem witness_ObserversAct :
    (Accepted (axOn .couch) hx (.observerLoad pLoad) ses ∧ obsUnloadOk pLoad = true ∧ AxSt.positionLocked .couch = true ∧
      ((axOn .couch).axis 2).enteredAt ≠ (axOn .couch).now ∧ (axOn .couch).pinned 2 = false) ∧
    ((axOn .couch).updCore (coreOf 2) fun c => { c with st := .pinned }).pinned 2 = true ∧
    (Accepted { loadState with mem := { loadState.mem with selfMib := 1024 } } hx (.observerLoad pNet) ses) ∧
    (Accepted (axOn .runHfi) hx (.observerLoad { pLoad with kind := 2 }) ses) ∧
    (Accepted loadState hx (.observerLoad pNet) ses ∧ obsLoadOk pNet = true ∧ pNet.length.toNat = (obsNetOf pNet [] 0).blobLen ∧
      (loadState.readRange 3 pNet.region.toNat 0 6272).1 = stOk ∧ loadState.mem.selfMib < 1024 ∧ (loadState.axis 2).live = false) ∧
    (Accepted (leased 1 2) hx (.observerLoad pNet) ses ∧ ((leased 1 2).readRange 3 pNet.region.toNat 0 6272).1 ≠ stOk) ∧
    (let s := withNet 0 (fun a => { a with st := .couch }) (netOf 0)
     s.evalFirst (coreOf 2) = some (2, ⟨0, .replicate 4 0, 0, false, 0⟩) ∧ (s.axis 2).nets.get 0 = some (netOf 0) ∧ s.now ≤ 0 + 160 ∧
       s.fabric.dbgHalt.get (coreOf 2) = false ∧ (s.axis 2).handover = none) ∧
    (let s (missed : Nat) := withNet 1 (fun a => { a with
        st := .couch, handover := some ⟨0, 0, 0⟩, nets := bankSet a.nets 2 (some (netOf missed)) }) (netOf 0)
     let left (missed : Nat) := (s missed).updAxis 2 fun a => { a with evals := [⟨2, .replicate 4 0, 0, false, 0⟩] }
     (s 0).evalFirst (coreOf 2) = some (2, ⟨1, .replicate 4 0, 0, false, 0⟩) ∧ ((s 0).axis 2).handover ≠ none ∧
       (left 3).faultMayCome 2 = true ∧ (left 0).faultMayCome 2 = false) ∧
    (let s := withNet 1 id (netOf 0)
     0 + 160 ≤ s.now ∧ 720 ≤ s.vcoreMv ∧ (netOf 0).missRun + 1 < (s.axis 2).missN) ∧
    (let s := withNet 1 (fun a => { a with st := .runHfi }) (netOf 3)
     (s.axis 2).missN ≤ (netOf 3).missRun + 1 ∧ (s.axis 2).st = .runHfi) ∧
    (let s := withNet 1 id { netOf 0 with coreOk := false }
     ((s.axis 2).loaded 1).map (·.coreOk) = some false ∧ s.underTest 2 = false ∧ s.underTest 3 = false) := by
  and_intros <;> decide +kernel

/-- R328, R346: without its POSITION network an axis in COUCH runs on injection; R334: an evaluation not done in 1,600 ns is counted, the fourth in a row a fault. -/
theorem test_observers : ((after (.observerLoad hx pLoad) (axOn .couch)).axis 2).st = .runHfi ∧
    ((after (.observerLoad hx pLoad) (axOn .couch)).axis 2).cause = 5 ∧
    ((after (.observerDeadlineMiss 2 1) (withNet 1 id (netOf 0))).axis 2).cntMiss = 1 ∧
    ((after (.observerDeadlineMiss 2 1) (withNet 1 (fun a => { a with st := .runHfi }) (netOf 3))).axis 2).st = .fault := by
  decide +kernel

/-- A valley sample of no current, and one of the greatest. -/
def quietSample : ValleySample := ⟨0, 0, 0, 0, 0, 0, 0, 100, 50, 0⟩
def hotSample : ValleySample := { quietSample with iu := 0x7FFF }
def sampled (st : AxSt) : State := (axOn st).updTimer 2 fun t => { t with run := true }
theorem witness_AxisSampleRowsAct :
    (full.boot.step ≠ .held ∧ (full.axis 2).st ≠ .fault) ∧
    (((sampled .disabled).timers.get (axTimer 2)).run = true ∧ ((sampled .disabled).axis 2).evals = [] ∧
      (((sampled .disabled).axis 2).convert quietSample 0).over ((sampled .disabled).axis 2).itrip = false) ∧
    ((((sampled .runHfi).axis 2).convert hotSample 0).over ((sampled .runHfi).axis 2).itrip = true ∧
      ((sampled .runHfi).axis 2).shorting = false) ∧
    (((sampled .runHfi).axis 2).obsSrc = false ∧ ((sampled .runHfi).axis 2).vdcMin = 0 ∧ ((sampled .runHfi).axis 2).vdcMax = 0xFFFF ∧
      ((sampled .runHfi).axis 2).vdcLowFrom = none ∧ ∀ k, ((sampled .runHfi).axis 2).nets.get k = none) := by
  and_intros <;> decide +kernel

/-- R304, R308, R323. -/
theorem test_axis_rows : ((after (.axisFlt 2) (axOn .runObs)).axis 2).st = .fault ∧
    ((after (.axisFlt 2) (axOn .runObs)).axis 2).cause = 12 ∧
    ((after (.axisValleySample 2 quietSample) (sampled .runHfi)).axis 2).theta = 100 ∧
    ((after (.axisValleySample 2 hotSample) (sampled .runHfi)).axis 2).cause = 13 := by decide +kernel

/-! ## Rows of one register -/

/-- The clears of the counters, at the addresses of the spec's register tables. -/
def clears : List (Nat × Nat × Nat) :=
  [(0, 0, 0x10214), (0, 0, 0x244), (0, 0, 0x40050), (0, 0, 0x10494), (0, 0, 0x5001C), (0, 0, 0x6F004), (4, 2, 0x7203C),
   (0, 0, 0x80060), (1, 2, 0xA205C), (0, 0, 0x10002C), (1, 2, 0xB202C), (0, 0, 0xCF608), (0, 0, 0xD080C), (0, 0, 0xD880C),
   (0, 0, 0xE0030)]
/-- The other rows that write a register, with a value and its resource. -/
def writes : List (Nat × Nat × Nat × Word) :=
  [(0, 0, 0x10300, 3), (0, 0, 0x40148, enrolValue 0x12 1), (0, 0, 0x40148, enrolValue 0x17 2), (4, 2, 0x620C0, 1), (4, 2, 0x620C0, 0),
   (6, 12, 0x9C008, 1), (1, 2, 0x92008, 1), (6, 11, 0x9B094, 5), (6, 11, 0x9B094, 6), (2, 3, 0xC300C, 3), (3, 0, 0xC8004, 2),
   (0, 0, 0xCF000, 1), (0, 0, 0xCF000, 0), (0, 0, 0xCF000, 63), (0, 0, 0xCF018, 1), (1, 2, 0xF2800, 1), (1, 2, 0xF2800, 0),
   (2, 3, 0xF3900, 1), (2, 3, 0xF3900, 0)]
def leasedAll : State :=
  (leased 1 2).hold 3 2 3 100000 |>.hold 3 3 0 100000 |>.hold 3 4 2 100000 |>.hold 3 6 11 100000 |>.hold 3 6 12 100000

/-- Witnesses of RegisterBlocksAct: every register write, at each value a clause turns on, and every read. -/
theorem witness_RegisterBlocksAct :
    clears.all (fun x => decide (WriteOk leasedAll (hd 3 x.1 x.2.1 1) x.2.2 1 ses ∧ WriteOk leasedAll (hd 3 x.1 x.2.1 1) x.2.2 0 ses)) = true ∧
    writes.all (fun x => decide (WriteOk leasedAll (hd 3 x.1 x.2.1 1) x.2.2.1 x.2.2.2 ses)) = true ∧
    [0x71040, 0x80008, 0x9C000, 0x9C088, 0xFC004].all (fun a => decide (Accepted full (hd 0 0 0 1) (.regRead (word a) 1) ses)) = true ∧
    WriteOk full (hd 0 0 0 1) 0x40148 (enrolValue 0x14 1) ses ∧ timersOk leasedAll = true := by
  and_intros <;> decide +kernel

/-- R11: only a write of 1 clears; R54: DBG_HALT outside BLANK and SERVICE is E_STATE; R170: another's slot is E_PORT. -/
theorem test_register_rows :
    (after (.faultCntClr hm 1) (full.updFabric fun f => { f with cntLate := 9 })).fabric.cntLate = 0 ∧
    (after (.faultCntClr hm 0) (full.updFabric fun f => { f with cntLate := 9 })).fabric.cntLate = 9 ∧
    status (.dbgHaltWrite hm 3) full hm = some eState ∧
    status (.enrol (hd 0 0 0 1) 0x14) full (hd 0 0 0 1) = some ePort ∧
    status (.dimCfgWrite hm 0) full hm = some eParam ∧ status (.camCommit (hd 3 4 2 1) 2 1) leasedAll (hd 3 4 2 1) = some eParam := by
  decide +kernel

/-! ## Safety -/

/-- SFP outside a session, and MNT's axis 2 running. -/
def outsideSfp (d : DevState) : State :=
  let s := axOn .runHfi
  { s with boot := { s.boot with dev := d }, owners := bankUpd s.owners 2 fun o => { o with session := none } }
def hsf : Hdr := { hd 2 0 0 0 with key := .zeroKey }
theorem witness_SafetyOutsideSession :
    (hsf.port = 2 ∧ hsf.via = .sfp ∧ headFault hsf = none ∧ hsf.cls = 0 ∧ hsf.idx = 0 ∧ hsf.enc = false ∧ hsf.key = .zeroKey) ∧
    [DevState.boot, .early, .full, .restricted, .recovery, .hwFault, .retired, .shutdown].all (fun d =>
      decide (((outsideSfp d).owner 2).session = none ∧ (outsideSfp d).calm = true ∧ (outsideSfp d).underTest 5 = false ∧
        (outsideSfp d).boot.step ≠ .held)) = true := by
  and_intros <;> decide +kernel

/-- R87: SAFE_STOP acts in RECOVERY and SHUTDOWN, SAFE_RELEASE outside a session does not in FULL. -/
theorem test_safety_outside :
    ((after (.safeStop hsf 4 1) (outsideSfp .recovery)).axis 2).hold = true ∧
    ((after (.safeStop hsf 4 1) (outsideSfp .shutdown)).axis 2).st = .stopping ∧
    ((after (.safeStop hsf 4 1) (outsideSfp .boot)).axis 2).hold = false ∧
    sent (after (.safeRelease hsf 1) (outsideSfp .full)) = [some (2, .sfp, replyPacket hsf 0x71 eNoSession [] none false)] ∧
    ((after (.safeStop hsf 2 1) (outsideSfp .full)).axis 1).hold = false := by
  decide +kernel

def hs2 : Hdr := hd 2 0 0 1
theorem witness_SafetyRowsAct :
    Accepted (axOn .runHfi) hs2 (.safeStop 4 4) ses ∧ Accepted (axOn .runHfi) hs2 (.safeStop 4 3) ses ∧
    Accepted full hs2 (.safeRelease 1) ses ∧ Accepted { full with net := { full.net with stopN := false } } hs2 (.safeRelease 1) ses ∧
    Accepted { full with net := { full.net with sfpLossAt := some 1000 } } hs2 (.safeRelease 1) ses ∧ full.net.sfpLossAt ≠ some full.now ∧
    Accepted full hs2 .safeStatus ses ∧ full.net.stopN = true ∧ full.boot.step ≠ .held := by
  and_intros <;> decide +kernel

/-- R312 to R315. -/
theorem test_safety : ((after (.safeStop hs2 4 3) (axOn .runHfi)).axis 2).hold = true ∧ status (.safeStop hs2 4 4) full hs2 = some eParam ∧
    status (.safeRelease hs2 1) { full with net := { full.net with stopN := false } } hs2 = some eSafeHeld ∧
    ((after .sfpStopNFall (axOn .runHfi)).axis 2).st = .stopping ∧ (after .sfpStopNFall (axOn .runHfi)).safety.falls = 1 ∧
    ((after (.safeRelease hs2 4) (axState fun a => { a with hold := true })).axis 2).hold = false := by decide +kernel

/-! ## Start, firmware, reset -/

def atStep (st : BootStep) (d : DevState) : State := { full with boot := { full.boot with step := st, dev := d } }
theorem witness_ResetsAct :
    full.boot.pwrgd = true ∧ (State.reset).boot.step = .held ∧
    (let s := full.updBoot fun b => { b with resetDue := some (1000, 2), stopDone := true }
     s.boot.resetDue = some (1000, 2) ∧ s.boot.stopDone = true ∧ 1000 ≤ s.now) ∧
    (Accepted full hm (.resetDevice 1000) ses ∧ Accepted full hm (.resetDevice 1001) ses) ∧
    (let s := full.updBoot fun b => { b with resetDue := some (1000, 2) }
     s.boot.resetDue = some (1000, 2) ∧ s.boot.stopDone = false ∧ 1000 ≤ s.now) ∧
    (full.boot.mboit = true ∧ full.boot.stopDone = false) ∧ State.reset.flash.tokenArmed = none ∧ State.reset.boot.vfdUp = false ∧
    Accepted (full.updBoot fun b => { b with stopDone := true }) hm (.resetDevice 1000) ses := by
  and_intros <;> decide +kernel

/-- R148: DELAY up to 1,000 ms; R61: RESET_N low ends every session and takes the device to BOOT. -/
theorem test_reset : status (.resetDevice hm 1001) full hm = some eParam ∧
    (after (.resetDevice hm 1000) full).boot.resetDue = some (100001000, 2) ∧
    (after .resetNAssert full).boot.dev = .boot ∧ ((after .resetNAssert full).owner 3).session = none ∧
    (after .resetNRelease State.reset).boot.step = .pllWait ∧ (after .resetNRelease State.reset).otp.bootCount = 1 := by
  decide +kernel

/-- A record written for slot 1 in cell 1, its completion owed. -/
def committing : State := { full with
  commit := some ⟨full.ticket hm (.fwCommit 1 false) ses, 1, 9, 1, 0⟩,
  flash := { full.flash with cmt := bankSet full.flash.cmt 1 (some ⟨9, 1, false⟩) } }
/-- The PLLs unlocked, `at_` ticks after the release. -/
def unlocked (at_ : Nat) : State :=
  { (atStep .pllWait .boot).updFabric (fun f => { f with pllC := false, pllF := false }) with now := at_ }
theorem witness_StartAndFirmwareRowsAct :
    ((unlocked 0).fabric.pllC = false ∧ (unlocked 0).fabric.tcxoOk = true ∧ (unlocked 0).boot.releasedAt + 10 * msTicks ≤ 1000000 ∧
      (unlocked 1000000).now ≤ (unlocked 0).boot.releasedAt + 10 * msTicks) ∧
    ((atStep .training .early).boot.hbm0Fail = false ∧ (atStep .training .hwFault).boot.hbm1Fail = false) ∧
    ((atStep .pllWait .boot).boot.step = .pllWait ∧ (atStep .readBoot1 .boot).boot.step = .readBoot1 ∧
      (atStep .readImages .boot).boot.step = .readImages ∧ (atStep .waitEarly .boot).boot.step = .waitEarly ∧
      (atStep .training .early).boot.step = .training ∧ (atStep .training .early).boot.dev = .early) ∧
    (Accepted full (hd 0 0 0 1) (.fwStage { pStage with image := 0x10 }) ses ∧ Accepted full hm (.fwStage { pStage with image := 0x10 }) ses) ∧
    (Accepted full hm (.fwStage pStage) ses ∧ pStage.image.toNat ≤ 5 ∧ pStage.data ≠ [] ∧ 0 + pStage.data.length ≤ (100 + 3) / 4 * 4 ∧
      full.boot.stage = none ∧
      (full.updBoot fun b => { b with totals := Vector.replicate 6 1000 }).othersBytes 2 + 100 ≤ slotRoom) ∧
    (Accepted full hm (.fwStage { pStage with image := 0x10 }) ses ∧ pStage.total.toNat ≤ 4096) ∧
    (let s := full.updBoot fun b => { b with stage := some ⟨0, none, 0⟩ }
     Accepted s hm (.fwStage pStage) ses ∧ s.boot.stage = some ⟨0, none, 0⟩) ∧
    (Accepted full hm (.fwCommit 0 false) ses ∧ Accepted full hm (.fwCommit 1 true) ses ∧ full.commit = none) ∧
    (Accepted full hm (.fwCommit 2 false) ses ∧ Accepted full hm (.fwCommit 0 true) ses) ∧
    (committing.commit.isSome = true ∧ committing.flash.cmt.get 1 = some ⟨9, 1, false⟩ ∧ committing.flash.seqInForce < 9) := by
  and_intros <;> decide +kernel

/-- R60, R147: the PLLs lock; a token for a lifecycle comes from MNT only. -/
theorem test_start : (after .pllLock (unlocked 0)).tb.running = true ∧ (after .pllLock (unlocked 0)).boot.step = .readBoot1 ∧
    (after .pllLock (unlocked 1000001)).boot.step = .pllWait ∧
    status (.fwStage (hd 0 0 0 1) { pStage with image := 0x10 }) full (hd 0 0 0 1) = some ePort ∧
    (after .earlyReached ((atStep .waitEarly .boot).updBoot fun b => { b with target := .early })).boot.dev = .early ∧
    (after .hbmTrained (atStep .training .early)).boot.dev = .full := by decide +kernel

/-! ## Power, heat, clocks, keys -/

/-- Witnesses of ThermalAndClockRowsAct: a reading at each end of the sensors' range, a reading at CRIT, two failed sensors, the
ceiling's step due, the second bad count, both PLLs, the crystal. -/
theorem witness_ThermalAndClockRowsAct :
    (full.boot.step ≠ .held ∧ (full.thermal.sensors.get 0).failed = false ∧ -880 ≤ (BitVec.ofInt 16 (-880)).toInt ∧
      (BitVec.ofNat 16 2400).toInt ≤ 2400 ∧ 2400 < (BitVec.ofNat 16 2401).toInt) ∧
    (full.thermal.limitHeld = false ∧ full.thermal.ceilDue ≤ full.now) ∧
    (full.fabric.clkFail = false ∧ full.fabric.badCounts = 0 ∧ full.fabric.pllF = true ∧ full.fabric.pllC = true ∧
      full.fabric.d00 = .crystal) ∧
    (unlocked 0).boot.step = .pllWait ∧ (full.updFabric fun f => { f with clkFail := true }).fabric.pllF = true := by
  and_intros <;> decide +kernel

/-- R34: 115 °C shuts the device down, 114.9375 °C does not; R58: the second count of 739 does. -/
theorem test_thermal : (after (.tempConversion 0 1840) full).boot.dev = .shutdown ∧
    (after (.tempConversion 0 1839) full).boot.dev = .full ∧ (after (.tempConversion 0 1839) full).thermal.limit = true ∧
    (after (.tempConversion 0 2401) full).thermal.sensorFail = true := by decide +kernel
theorem test_clock_monitor : (after (.clockMonitorCount 739) full).boot.dev = .full ∧
    (after (.clockMonitorCount 739) (after (.clockMonitorCount 739) full)).boot.dev = .shutdown ∧
    (after (.clockMonitorCount 740) full).fabric.tcxoOk = true ∧ (after (.pllLockLoss false) full).boot.dev = .shutdown := by
  decide +kernel

def windowed : State := { full with now := 5000 }
theorem witness_SupplyAndLampRowsAct :
    (full.boot.step ≠ .held ∧ full.boot.dev = .full) ∧
    ({ full with avs := { full.avs with failed := true } }.avs.retryAt ≤ full.now) ∧
    ({ full with avs := { full.avs with ramping := true } }.avs.lastWrite = none) ∧
    (windowed.fabric.winStart + 50 * usTicks ≤ windowed.now ∧ windowed.fabric.monEn = true ∧ windowed.avs.lastWrite = none ∧
      windowed.avs.failed = false ∧ windowed.floorMv ≤ windowed.avs.reqMv ∧ windowed.avs.reqMv ≤ windowed.ceilMv ∧
      (∀ c, (windowed.core1 c).st ≠ .job)) ∧
    (full.now < full.fabric.winStart + 50 * usTicks) ∧
    (windowed.updFabric fun f => { f with monEn := false }).fabric.monEn = false ∧ full.illum.stage.st ≠ .fault ∧
    (let s := full.updStage fun x => { x with st := .discharging, resumeAt := some 900 }
     s.illum.stage.resumeAt = some 900 ∧ s.illum.stage.st = .discharging) ∧
    (let s := full.updMatrix fun m => { m with lineAt := some 0, line := 15, lineTUse := 100 }
     s.illum.matrix.lineAt = some 0 ∧ 0 + s.illum.matrix.lineTUse * 10 ≤ s.now ∧ s.illum.matrix.line = 15) := by
  and_intros <;> decide +kernel

/-- R48: with no core in JOB the request goes down by 10 mV; R368: 48 V is an overvoltage, 47.999 V none. -/
theorem test_supply : (after (.monitorWindowEnd (.replicate 32 0) 0) windowed).avs.reqMv = 790 ∧
    (after (.vstrOvervoltage 48000) full).illum.stage.ovp = true ∧ (after (.vstrOvervoltage 47999) full).illum.stage.ovp = false ∧
    (after (.ltsConversion 0 49) full).illum.lts.get 0 = { (full.illum.lts.get 0) with mv := 49, fault := true, temp := 2000 } := by
  decide +kernel

/-- An enrolment of MNT's slot 1 in progress. -/
def enrolling (op : Nat) : State :=
  { full.updKeys (fun k => { k with busy := some ⟨3, 4, 1, op, 0, 0, zeros 97⟩ }) with
    store := { full.store with queue := [⟨.enrolment, none, 0, none⟩] } }
/-- Axis 2 with a LOAD network in the core store of its PINNED core. -/
def weighted : State := (withNet 1 id (netOf 0)).updCore (coreOf 2) fun c => { c with st := .pinned }
theorem witness_KeyAndErrorRowsAct :
    ((enrolling 1).keys.busy = some ⟨3, 4, 1, 1, 0, 0, zeros 97⟩ ∧ (enrolling 2).keys.busy = some ⟨3, 4, 1, 2, 0, 0, zeros 97⟩ ∧
      (enrolling 1).store.queue = [⟨.enrolment, none, 0, none⟩] ∧ full.keys.busy = none) ∧
    (full.boot.step ≠ .held ∧ full.boot.step ≠ .stopped ∧ full.boot.stopDone = false) ∧
    (running.job 0 = some ranJob ∧ ranJob.st = .running ∧ running.region 3 h1.toNat = some r1 ∧ running.outranked 0 3 = false) ∧
    weighted.weightsOn 2 1 = true ∧ weighted.weightsOn 2 0 = false := by
  and_intros <;> decide +kernel

/-- R170: a revocation of an empty slot has RESULT 3; R173: an error of the SELF pool resets with cause 4. -/
theorem test_keys : (after (.enrolComplete true) (enrolling 2)).keys.result = 3 ∧
    (after (.memUncorrectable true .region 0 false 0 0) full).boot.resetDue = some (1000, 4) ∧
    (after (.scrubPass .vat true 5) full).mem.cntVatCe = 1 ∧
    (after (.memUncorrectable false (.weights 2 1) 0 false 0 9) weighted).mem.fltCause = 4 := by decide +kernel

/-! ## Illumination and lighting bus -/

/-- Group 3 leased to MNT, sink 0 its own, under a control source. -/
def lit (src : Nat) : State :=
  ((leased 2 3).updGroup 3 fun x => { x with cfg := { x.cfg with mask := 1, ctrlSrc := src } }).updSink 0 fun x => { x with group := some 3 }
def hl : Hdr := hd 3 2 3 1
def litSet (n : Nat) : State := (lit 0).updGroup 3 fun x => { x with queue := List.replicate n ⟨0, []⟩ }
def pStrobeOk : StrobeP := { op := 1, tp := 2, offset := 999999990, length := 1000, count := 0 }

theorem witness_LightCommandsAct :
    (Accepted (leased 2 3) hl (.lightGroupConfig { pLight with colour := 5, ctrlSrc := 2, failsafe := 2, lts := 3 }) ses) ∧
    (Accepted (leased 2 3) hl (.lightGroupConfig { pLight with lts := 4 }) ses) ∧
    (let s := (leased 2 3).updGroup 1 fun x => { x with cfg := { x.cfg with mask := 1 } }
     Accepted s hl (.lightGroupConfig pLight) ses ∧ Nat.land (s.group 1).cfg.mask pLight.mask.toNat ≠ 0) ∧
    (Accepted (lit 1) hl (.lightSet pSet) ses ∧ ((lit 1).group 3).cfg.ctrlSrc = 1) ∧
    (Accepted (litSet 3) hl (.lightSet pSet) ses ∧ pSet.entries ≠ [] ∧ (pSet.entries.map (·.sink)).Nodup ∧
      time12Ticks pSet.time ≤ (litSet 3).devTime + 1000 * 1000000000 * 65536 ∧
      ((litSet 3).illum.sinks.get 0).group = some 3 ∧ nMin (litSet 3).illum.dimC ≤ 32768) ∧
    (Accepted (litSet 4) hl (.lightSet pSet) ses ∧ 4 ≤ ((litSet 4).group 3).queue.length) ∧
    Accepted (lit 0) hl (.lightSet { pSet with entries := [] }) ses ∧
    (Accepted (lit 1) hl (.strobeArm pStrobe) ses ∧ Accepted (lit 0) hl (.strobeArm pStrobe) ses ∧
      Accepted (lit 2) hl (.strobeArm pStrobeOk) ses ∧ ((lit 2).group 3).cfg.ctrlSrc = 2) ∧
    (Accepted (leased 3 0) (hd 3 3 0 1) (.matrixFrame { pMatrix with tPre := 64 }) ses ∧
      Accepted (leased 3 0) (hd 3 3 0 1) (.matrixFrame { pMatrix with tPre := 65 }) ses) := by
  and_intros <;> decide +kernel

/-- R348, R354, R355, R363. -/
theorem test_light_commands :
    status (.lightSet hl pSet) (lit 1) hl = some eBusControl ∧ status (.lightSet hl pSet) (litSet 3) hl = some stOk ∧
    status (.lightSet hl pSet) (litSet 4) hl = some eBusy ∧ status (.strobeArm hl pStrobe) (lit 0) hl = some eState ∧
    status (.strobeArm hl pStrobeOk) (lit 2) hl = some stOk := by decide +kernel
theorem test_matrix_frame :
    status (.matrixFrame (hd 3 3 0 1) { pMatrix with tPre := 64 }) (leased 3 0) (hd 3 3 0 1) = some stOk ∧
    status (.matrixFrame (hd 3 3 0 1) { pMatrix with tPre := 0 }) (leased 3 0) (hd 3 3 0 1) = some eParam := by decide +kernel

/-- Group 3 with a window due, and one with a window open; sink 0 on. -/
def strobing (f : Group → Group) : State :=
  (timed fun t => t).updGroup 3 fun x => f { x with cfg := { x.cfg with ctrlSrc := 2 }, strobe := some ⟨2, 0, 1000, some 1⟩ }
theorem witness_LightRowsAct :
    (full.boot.dev = .full ∧ (full.test.sink.get 3).running = false ∧ ({ full with now := 0 }.illum.valleyTick = 0) ∧
      full.leaseMayEnd 2 3 = false ∧ full.valleyComes = false ∧ (before full (.illumValley 0)).valleyComes = true ∧
      (before full (.leaseExpiry 2 3)).leaseMayEnd 2 3 = true) ∧
    (let s := full.updTimer 8 fun t => { t with run := true, valleyAt := 0 }
     ({ s with d02 := (s.timers.get 8).nextValley } : State).dimValleyDue = true ∧ full.switchWaits = false) ∧
    (let s := strobing fun x => { x with opens := [0] }
     (s.group 3).strobe = some ⟨2, 0, 1000, some 1⟩ ∧ (s.group 3).opens = [0] ∧ s.boot.dev = .full ∧ 0 ≤ s.devNs + 20) ∧
    (let s := strobing fun x => { x with closeAt := some 0 }
     (s.group 3).closeAt = some 0 ∧ 0 ≤ s.devNs + 20) ∧
    (((lit 0).illum.sinks.get 0).group = some 3 ∧ ((lit 0).illum.sinks.get 0).on = false) := by
  and_intros <;> decide +kernel

/-- R355: the window opens, the last one's end disarms the group. -/
theorem test_strobe : ((after (.strobeWindowOpen 3) (strobing fun x => { x with opens := [0] })).group 3).windows = 1 ∧
    ((after (.strobeWindowOpen 3) (strobing fun x => { x with opens := [0] })).group 3).strobe = some ⟨2, 0, 1000, some 0⟩ ∧
    ((after (.strobeWindowClose 3) (strobing fun x => { x with closeAt := some 0, strobe := some ⟨2, 0, 1000, some 0⟩ })).group 3).strobe
      = none ∧
    ((after (.strobeWindowClose 3) ((strobing fun x => { x with closeAt := some 0 }).updSink 0 fun x =>
      { x with group := some 3, on := true })).illum.sinks.get 0).on = false := by decide +kernel

/-- Gear 8 + 2 (bus 1, slot 2) of group 3 at short address 7, its bus answering. -/
def gear : Gear := Gear.ofVars (GearVars.fresh 3 false (some 7)) 254
def bussed (f : Bus → Bus) : State :=
  let s := leased 2 3
  { s with lbus := { s.lbus with gear := bankSet s.lbus.gear 10 (some gear),
                                 bus := bankUpd s.lbus.bus 1 fun x => f { x with power := true, answers := true } } }
def pMap : GearP := { pGear with bus := 1, slot := 2, short := 63, curve := 1 }
theorem witness_GearAndBusPower :
    (Accepted (leased 2 3) hl (.gearConfig pMap) ses ∧ (leased 2 3).lbus.gear.get (gearNum 1 2) = none) ∧
    (Accepted (bussed id) hl (.gearConfig { pMap with slot := 3 }) ses ∧ (bussed id).lbus.gear.get 10 = some gear ∧ gear.vars.group = 3 ∧
      busOf 10 = busOf (gearNum 1 3) ∧ (10 : Fin 16) ≠ gearNum 1 3) ∧
    (Accepted (bussed id) hl (.gearConfig { pGear with op := 1, bus := 1, slot := 2, short := 0 }) ses) ∧
    Accepted (bussed id) hl (.gearConfig { pGear with op := 2 }) ses ∧
    full.underTest 6 = false ∧ full.underTest 7 = false ∧ ((bussed id).lbus.bus.get 1).power = true ∧
    (bussed id).powerWaits 1 = false ∧ (before (bussed id) (.lbusPowerLoss 0)).powerWaits 1 = true := by
  and_intros <;> decide +kernel

/-- R374: a second gear of the group on its bus is E_BUSY; R389: a bus without power answers nothing. -/
theorem test_gear : status (.gearConfig hl { pMap with slot := 3 }) (bussed id) hl = some eBusy ∧
    (after (.gearConfig hl pMap) (leased 2 3)).store.queue.length = 1 ∧
    (after (.lbusPowerLoss 1) (bussed id)).busLive 1 = false ∧ (after (.lbusPowerRestore 1) (after (.lbusPowerLoss 1) (bussed id))).busLive 1 = true := by
  decide +kernel

theorem witness_BusCommandsAct :
    ((bussed id).busLive 1 = true ∧ (bussed id).lbus.gear.get 10 = some gear ∧ busOf 10 = 1 ∧ gear.addressed (.short 7) = true ∧
      1 ≤ gear.vars.minLevel ∧ gear.vars.minLevel ≤ gear.vars.maxLevel) ∧ full.busLive 1 = false ∧ full.busWaits 1 = false ∧
    (bussed id).busWaits 1 = false ∧ (before (bussed id) (.hello hm)).busWaits 1 = true ∧
    (before (bussed id) (.dapc 1 (.short 7) 0)).busWaits 0 = true := by
  and_intros <;> decide +kernel

/-- R376: DAPC 100 sets the target, 255 stops; INITIALISE 0 reaches every gear of the bus. -/
theorem test_bus_commands :
    ((after (.dapc 1 (.short 7) 100) (bussed id)).lbus.gear.get 10).map (·.target) = some 100 ∧
    ((after (.dapc 1 (.short 8) 100) (bussed id)).lbus.gear.get 10).map (·.target) = some gear.target ∧
    ((after (.initialise 1 0) (bussed id)).lbus.gear.get 10).map (·.init) = some (some 1000) := by decide +kernel

theorem witness_BusAnswersAct :
    ((bussed id).busLive 1 = true ∧ (bussed id).gearAt 1 .broadcast = [10] ∧ ((bussed id).lbus.bus.get 1).dtr1 = 0) ∧
    ((bussed fun b => { b with dt6 := true }).lbus.bus.get 1).dt6 = true ∧
    ((bussed fun b => { b with last := some (0xA500, 1000) }).lbus.bus.get 1).last = some (0xA500, 1000) ∧
    ((bussed fun b => { b with answer := some (.value 5, 51000) }).lbus.bus.get 1).answer = some (.value 5, 51000) := by
  and_intros <;> decide +kernel

/-- R372: QUERY ACTUAL LEVEL owes the level 7 ms later, whether it comes as a row or as the frame 0xFFA0. -/
theorem test_bus_answer :
    ((after (.queryActualLevel 1 .broadcast) (bussed id)).lbus.bus.get 1).answer = some (.value 254, 701000) ∧
    ((after (.lbusForwardFrame 1 (some 0xFFA0)) (bussed id)).lbus.bus.get 1).answer = some (.value 254, 701000) ∧
    ((after (.lbusForwardFrame 1 none) (bussed id)).lbus.bus.get 1).frameErr = 1 ∧
    (after (.lbusBackwardFrame 1) (bussed fun b => { b with answer := some (.value 5, 51000) })).out = [.backward 1 (some 5)] := by
  decide +kernel

/-! ## Radio coordinator -/

/-- The coordinator running on channel 4 of channels 0 to 4, device time at 5 s, slot 1 leased to MNT and changed. -/
def aired (fr : Radio → Radio) (fs : RSlot → RSlot) : State :=
  let s := ((leased 5 1).updTb fun t => { t with running := true, fine := 5 * secFine, msNext := 5000 })
  (s.updRadio fun r => fr { r with
    cfg := ⟨0x1F, 4, 0, 3, -60, 100, 7, 100, true⟩, use := ⟨0x1F, 4, 0, 3, -60, 100, 7, 100, true⟩, running := true, ch := 4 }).updSlot 1 fs
def ht : Hdr := hd 3 5 1 1
def hte : Hdr := { ht with enc := true }
def admitted (x : RSlot) : RSlot :=
  { x with st := .admitted, long := 0x1122334455667788, gslot := some 2, key := zeros 16, heardAt := 1000 }
def sendQ (n : Nat) : SendQ := { payload := [1], ref := 9, mpdu := none, seq := 3, attempts := n, lastAt := 0 }
def pOn : RadioP := { pRadio with edDbm := -90, mask := 0x8001, startCh := 15, txDbm := 10, evmAbort := 1000, silentMs := 10, en := true }

theorem witness_RadioCommandsAct :
    (Accepted full hm (.radioConfig pRadio) ses ∧ Accepted full hm (.radioConfig pOn) ses ∧
      Accepted full hm (.radioConfig { pOn with en := false }) ses ∧ full.radio.cfg.en = false) ∧
    (Accepted (aired id id) hm (.radioConfig pOn) ses ∧ pOn.netId.toNat ≠ (aired id id).radio.cfg.netId ∧
      Accepted (aired id id) hm (.radioConfig { pOn with netId := 7 }) ses ∧
      Accepted (aired id id) hm (.radioConfig { pOn with en := false }) ses) ∧
    (Accepted (aired id id) ht (.tagAdmit pAdmit) ses ∧ Accepted (aired id id) hte (.tagAdmit { pAdmit with timeoutS := 3600, gslot := 7 }) ses ∧
      ((aired id id).rslot 1).st = .free ∧ Accepted (aired id admitted) hte (.tagAdmit pAdmit) ses ∧
      Accepted ((aired id id).updSlot 2 admitted) hte (.tagAdmit pAdmit) ses ∧ Accepted (leased 5 1) hte (.tagAdmit pAdmit) ses) ∧
    (Accepted (aired id id) ht .tagExpel ses ∧ Accepted (aired id admitted) ht .tagExpel ses) ∧
    (Accepted (aired id id) ht (.tagSend ⟨1, []⟩) ses ∧ Accepted (aired id id) ht (.tagSend ⟨1, [0, 1]⟩) ses ∧
      Accepted (aired id admitted) ht (.tagSend ⟨1, zeros 81⟩) ses ∧ sendLimit (aired id admitted).radio.k = 80 ∧
      Accepted (aired id admitted) ht (.tagSend ⟨1, zeros 80⟩) ses ∧
      Accepted (aired (fun r => { r with next := some (1, 2) }) admitted) ht (.tagSend ⟨1, [0]⟩) ses) ∧
    (Accepted (aired id admitted) ht (.tagEventsFetch 40) ses ∧ Accepted (aired id admitted) ht (.tagEventsFetch 39) ses) := by
  and_intros <;> decide +kernel

/-- R408, R412 to R415. -/
theorem test_radio_commands :
    status (.radioConfig hm pRadio) full hm = some eParam ∧ status (.radioConfig hm pOn) full hm = some stOk ∧
    (after (.radioConfig hm pOn) full).radio.cfg.startCh = 15 ∧ status (.radioConfig hm pOn) (aired id id) hm = some eState ∧
    status (.tagAdmit ht pAdmit) (aired id id) ht = some eParam ∧ status (.tagAdmit hte pAdmit) (aired id id) hte = some stAccepted ∧
    status (.tagAdmit hte pAdmit) ((aired id id).updSlot 2 admitted) hte = some eBusy ∧
    status (.tagAdmit hte pAdmit) (leased 5 1) hte = some eState := by decide +kernel
theorem test_tag_commands :
    status (.tagExpel ht) (aired id id) ht = some eTagAbsent ∧
    ((after (.tagExpel ht) (aired id admitted)).rslot 1).expelTx = some (0x1122334455667788, zeros 16) ∧
    status (.tagSend ht ⟨1, zeros 81⟩) (aired id admitted) ht = some eParam ∧
    status (.tagSend ht ⟨1, zeros 80⟩) (aired id admitted) ht = some stOk ∧
    status (.tagSend ht ⟨1, [0]⟩) (aired (fun r => { r with next := some (1, 2) }) admitted) ht = some eRadioBusy ∧
    payload (.tagEventsFetch ht 40) (aired id fun x => { admitted x with entries := [zeros 24, zeros 140] }) ht
      = some ([1, 0, 0, 0] ++ le 4 140 ++ zeros 24) := by decide +kernel

theorem witness_BeaconsAct :
    ((aired id id).radio.cfg.en = true ∧ (aired id id).boot.dev = .full ∧ (aired id id).underTest 8 = false ∧
      (aired id id).tb.running = true ∧ (aired id id).tb.msOwed = false ∧
      (aired id id).tb.msNext * 1000000 ≤ (aired id id).devNs ∧ (aired id id).radio.startMs ≤ (aired id id).devNs / 1000000 ∧
      (∀ i, ((aired id id).rslot i).sends = []) ∧ (aired id id).radio.next = none) ∧
    ((aired id id).radio.cfg.edDbm < -59 ∧ nextChannel (aired id id).radio.cfg.mask 4 = 0) ∧
    nextChannel (aired (fun r => { r with cfg := { r.cfg with mask := 0x10 } }) id).radio.cfg.mask 4 = 4 ∧
    (full.tb.msOwed = false ∧ (full.updTb fun t => { t with msNext := 1 }).devNs < 1 * 1000000) ∧
    ((aired (fun r => { r with pendingMask := 2 }) fun x => { admitted x with sends := [sendQ 0] }).radio.toServe = some 1 ∧
      (aired id id).radioLive = true ∧ (aired id id).radio.running = true ∧ (aired id id).radio.served = false) ∧
    ((aired id id).radio.onAir = none ∧ (0 : Nat) < (sendQ 1).attempts ∧ (sendQ 1).seq < 256 ∧
      ((aired (fun r => { r with onAir := some (1, .admission) }) fun x => { admitted x with admitTx := some (sendQ 1) }).rslot 1).admitTx
        = some (sendQ 1)) ∧
    (aired (fun r => { r with onAir := some (1, .data) }) fun x => { admitted x with sends := [sendQ 4] }).radio.onAir = some (1, .data) := by
  and_intros <;> decide +kernel

/-- Table 20-4: the beacon of the millisecond 5000; R404: the third interfered beacon chooses channel 0, announced in the next two. -/
theorem test_beacon :
    (after (.msTick (-61) true) (aired id id)).out =
      [.radio true 4 ([0, 0, 7, 0, 0, 0, 0, 0] ++ zeros 4 ++ [0x88, 0x13, 0, 0] ++ [0x1F, 0])] ∧
    (after (.msTick (-59) true) (aired (fun r => { r with interfRun := 2 }) id)).radio.next = some (0, 3) ∧
    (after (.msTick (-59) true) (aired (fun r => { r with interfRun := 1 }) id)).radio.next = none ∧
    (after (.msTick (-61) true) (aired (fun r => { r with next := some (0, 3) }) id)).radio.next = some (0, 2) ∧
    (after (.msTick (-61) true) (aired (fun r => { r with next := some (0, 1) }) id)).radio.ch = 0 := by decide +kernel

/-- R401: the fourth attempt without an acknowledgement gives a DATA frame up, the third does not. -/
theorem test_coord_ack :
    let s (n : Nat) := aired (fun r => { r with onAir := some (1, .data) }) fun x => { admitted x with sends := [sendQ n] }
    ((after .coordAckTimeout (s 4)).rslot 1).sends = [] ∧ ((after .coordAckTimeout (s 4)).rslot 1).entries.length = 1 ∧
    ((after .coordAckTimeout (s 3)).rslot 1).sends = [sendQ 3] ∧ ((after (.ack true 3) (s 1)).rslot 1).sends = [] ∧
    ((after (.ack true 4) (s 1)).rslot 1).sends = [sendQ 1] := by decide +kernel

/-- The slot event of Table 20-3 in guaranteed slot 2: kind 1 (release), peak 5, SEQ 9, mask 3. -/
def slotRx : RadioRx := ⟨[0x15, 9, 3, 0], true, 20⟩
def joinRx : RadioRx := ⟨[3, 255, 0, 1, 0, 0, 0] ++ le 8 0x1122334455667788 ++ zeros 8, true, 20⟩
def dataRx : RadioRx := ⟨[2, 2, 7, 1, 0, 0, 0] ++ zeros 8, true, 20⟩
theorem witness_RadioRowsAct :
    ((aired id admitted).radioLive = true ∧ (aired id admitted).radio.running = true ∧ slotRx.crcOk = true ∧ slotRx.mpdu.length = 4 ∧
      (∀ k, (((aired id admitted).rslot k).st = .admitted ∧ ((aired id admitted).rslot k).gslot = some 2) ↔ k = 1) ∧
      (aired id admitted).holder 5 1 = Port.id 3 ∧ ((aired id admitted).owner 3).session = some ses ∧ ses.mask.testBit 0x0C = true ∧
      (aired id admitted).portDead 3 = false) ∧
    (joinRx.mpdu.length = 23 ∧ joinRx.mpdu.getD 0 0 = 3 ∧ joinRx.mpdu.getD 1 0 = 255 ∧
      (∀ k, (((aired id admitted).rslot k).st ≠ .free ∧ ((aired id admitted).rslot k).long = at_ joinRx.mpdu 7 8) ↔ k = 1)) ∧
    (15 ≤ dataRx.mpdu.length ∧ dataRx.mpdu.getD 0 0 = 2 ∧ (dataRx.mpdu.getD 1 0).toNat = (1 : Fin 32).val + 1) ∧
    ((aired id admitted).ackable true dataRx.mpdu = true) ∧
    ((before (aired id admitted) (.data dataRx)).behind bringsFrame = true ∧ (aired id admitted).behind bringsFrame = false) ∧
    ((({ aired id admitted with now := 10001000 } : State).rslot 1).heardAt + (aired id admitted).radio.use.silentMs * 100000 ≤ 10001000) := by
  and_intros <;> decide +kernel

/-- R400, R410: a slot event sets its bit of SLOT_ACK and is queued and raised; R396: a bad CRC is counted only. -/
theorem test_slot_event :
    (after (.slotEvent 2 slotRx) (aired id admitted)).radio.slotAck = 4 ∧
    ((after (.slotEvent 2 slotRx) (aired id admitted)).rslot 1).events = 1 ∧
    (((after (.slotEvent 2 slotRx) (aired id admitted)).owner 3).events.map fun e => e.body.drop 12) =
      [[2, 2, 9, 242, 3, 0, 0, 0, 0x40, 1, 0, 0]] ∧
    (after (.slotEvent 2 { slotRx with crcOk := false }) (aired id admitted)).radio.crcErr = 1 ∧
    (after (.ackTx true dataRx) (aired id admitted)).out = [.radio true 4 [1, 7]] := by decide +kernel
theorem test_silence :
    ((after (.tagSilenceDrop 1) { aired id admitted with now := 10001000 }).rslot 1).st = .free ∧
    ((after (.tagSilenceDrop 1) { aired id admitted with now := 10000999 }).rslot 1).st = .admitted := by decide +kernel

/-! ## The tag -/

/-- The tag ACTIVE at 3.0 V. -/
def tagged (f : TagRam → TagRam) : State := full.updTag fun t => { t with st := .active, vsto := 3000, nrst := true, ram := f t.ram }
def tagAt (st : TagSt) (mv : Nat) : State := full.updTag fun t => { t with st := st, vsto := mv, nrst := true }
def tagIn (f : TagRam → TagRam) : State := tagged fun r => f { r with net := .admitted, short := 2, gslot := some 2 }

theorem witness_TagPowerRowsAct :
    (full.tagOnAir = false ∧ full.tag.nrst = true ∧ full.ram.cfg.vSleep ≤ full.ram.cfg.vWake) ∧
    ((tagAt .boot 2000).tag.st = .boot ∧ (tagAt .boot 2000).tag.nrst = true) ∧
    ((tagged id).tag.st = .active ∧ 1900 ≤ (tagged id).tag.vsto ∧ (tagged id).ram.ovp = false ∧ (tagged id).ram.sampledAt = none) := by
  and_intros <;> decide +kernel

/-- Table 21-2 at its thresholds. -/
theorem test_tag_power :
    (after (.tagVstoThreshold 1899) (tagAt .dead 0)).tag.st = .cold ∧ (after (.tagVstoThreshold 1900) (tagAt .dead 0)).tag.st = .boot ∧
    (after (.tagVstoThreshold 1599) (tagAt .cold 1700)).tag.st = .dead ∧ (after (.tagVstoThreshold 2400) (tagAt .active 3000)).tag.st = .active ∧
    (after (.tagVstoThreshold 2399) (tagAt .active 3000)).tag.st = .sleep ∧ (after (.tagVstoThreshold 1949) (tagAt .sleep 2000)).tag.st = .brownout ∧
    (after (.tagBootDone true) (tagAt .boot 2800)).tag.st = .active ∧ (after (.tagBootDone true) (tagAt .boot 2799)).tag.st = .sleep ∧
    (after (.tagBootDone true) (tagAt .boot 2099)).tag.st = .brownout ∧ (after (.tagBootDone true) (tagAt .boot 2800)).ram.fc = 256 := by
  decide +kernel

def ev (kind attempts : Nat) : TagEvent := ⟨kind, 64, 3, if attempts = 0 then none else some 8, attempts⟩
theorem witness_TagSensesAct :
    ((tagIn id).tagActive = true ∧ (tagIn id).ram.gslot ≠ none ∧ full.tagActive = false ∧ (tagIn id).ram.contact = false) ∧
    ((tagIn id).ram.net = .admitted ∧ (tagIn id).ram.sent = none ∧ (tagIn fun r => { r with slip := some (ev 2 0) }).ram.slip = some (ev 2 0)) ∧
    ((tagIn fun r => { r with retry := [ev 0 1] }).ram.retry = [ev 0 1] ∧ (ev 0 1).seq = some 8) ∧
    ((tagIn fun r => { r with contact := true, prev := List.replicate 16 0, hiRun := 2 }).ram.prev.length = 16) ∧
    (∀ n, (tagIn id).ram.netId = some n → n = (5 : BitVec 16).toNat) ∧
    ((tagIn fun r => { r with netId := some 6 }).ram.netId = some 6 ∧ 6 ≠ (5 : BitVec 16).toNat) ∧
    ((tagIn fun r => { r with sent := some (ev 0 1) }).ram.sent = some (ev 0 1) ∧ (tagIn id).ram.sentAt + 50000 ≤ 60000 ∧
      (ev 0 1).attempts < 9 ∧ (ev 0 0).attempts = 0) ∧
    ((tagged fun r => { r with net := .search }).ram.net = .search) := by
  and_intros <;> decide +kernel

/-- R429, R430: two scans at CONTACT_TH make contact; R431: a new slip goes before a repeat; the beacon acknowledges. -/
def pressed : Vector Nat 16 := bankSet (Vector.replicate 16 10000) 3 12000
theorem test_tag_scan :
    let s := tagIn fun r => { r with taxels := r.taxels.map fun x => { x with base := 10000, baseSet := true }, hiRun := 1 }
    ((after (.taxelScan pressed) s).ram.taxels.get 3).code = 1000 ∧ (after (.taxelScan pressed) s).ram.contact = true ∧
    (after (.taxelScan pressed) s).ram.queue.map (·.kind) = [0] ∧ (after (.taxelScan pressed) s).ram.mask = 8 := by decide +kernel
theorem test_tag_slot_event :
    (after .tagSlotEventTx (tagIn fun r => { r with slip := some (ev 2 0), retry := [ev 0 1] })).out =
      [.radio false 0 [6, 0, 3, 0]] ∧
    (after .tagSlotEventTx (tagIn fun r => { r with retry := [ev 0 1] })).out = [.radio false 0 [4, 8, 3, 0]] ∧
    (after (.tagBeaconRx ⟨4, 0, 0, 3, 0, 5, 1⟩) (tagIn fun r => { r with sent := some (ev 0 1) })).ram.retry = [] ∧
    (after (.tagBeaconRx ⟨0, 0, 0, 3, 0, 5, 1⟩) (tagIn fun r => { r with sent := some (ev 0 1) })).ram.retry = [ev 0 1] ∧
    (after (.tagBeaconRx ⟨0, 0, 0, 3, 0, 5, 1⟩) (tagIn fun r => { r with sent := some (ev 0 9) })).ram.evDrop = 1 := by decide +kernel

def dataFrame (n : Nat) (air : Bool) : TagFrame := ⟨false, [1], some [2, 2, 7], 7, n, air, false⟩
def joinAir (n : Nat) : TagFrame := { joinFrame with attempts := n, onAir := true, seq := 3, mpdu := some [3] }
theorem witness_TagSendsAct :
    ((tagIn fun r => { r with frames := [dataFrame 0 false], fc := 256 }).tagActive = true ∧ (dataFrame 0 false).onAir = false ∧
      (tagIn id).ram.write = none ∧ TagNet.admitted.lets (dataFrame 0 false) = true ∧ (dataFrame 0 false).mpdu ≠ none) ∧
    (let r := (tagIn fun r => { r with frames := [{ dataFrame 0 false with mpdu := none }], fc := 512 }).ram
     r.fc % 256 = 0 ∧ r.fcSaved ≠ r.fc ∧ r.fcFail = false) ∧
    ((tagIn fun r => { r with frames := [dataFrame 3 true] }).ram.cfg.vSleep * 10 ≤ (tagIn id).tag.vsto) ∧
    ((tagged fun r => { r with net := .backoff 9 }).ram.net = .backoff 9 ∧ (tagged fun r => { r with net := .awaitAdmit 9 }).ram.net = .awaitAdmit 9) ∧
    (({ tagIn id with now := 50000000 } : State).ram.heardAt + (tagIn id).ram.cfg.heardMs * 100000 ≤ 50000000) ∧
    (let s := tagIn fun r => { r with write := some ⟨0, ⟨512, 0, 0, true⟩, 0, false⟩ }
     s.ram.write = some ⟨0, ⟨512, 0, 0, true⟩, 0, false⟩ ∧ s.now < 0 + 200000 ∧ 0 + 200000 ≤ ({ s with now := 200000 } : State).now) := by
  and_intros <;> decide +kernel

/-- R427, R432, R433: the record is written before a counter that is a multiple of 256; the fourth failed DATA attempt is dropped and
counted, an acknowledged JOIN waits 64 superframes. -/
theorem test_tag_sends :
    ((after (.tagContentionTx true) (tagIn fun r => { r with frames := [{ dataFrame 0 false with mpdu := none }], fc := 512 })).ram.write.map
      fun w => w.rec_.fc) = some 512 ∧
    (after .tagAckTimeout (tagIn fun r => { r with frames := [dataFrame 3 true] })).ram.noAck = 1 ∧
    (after .tagAckTimeout (tagIn fun r => { r with frames := [dataFrame 2 true] })).ram.be = 4 ∧
    (after (.ack false 3) (tagged fun r => { r with net := .joining, frames := [joinAir 0] })).ram.net = .awaitAdmit 6401000 ∧
    (after .heardTimeout { tagIn id with now := 50000000 }).ram.report = some ⟨3, 0, 0, none, 0⟩ := by decide +kernel
theorem test_record_write :
    let s : State := { tagIn (fun r => { r with write := some ⟨0, ⟨512, 0, 0, true⟩, 0, false⟩ }) with now := 200000 }
    (after (.fcRecordWriteDone true) s).tag.cells.get 0 = some ⟨512, 0, 0, true⟩ ∧
    (after (.fcRecordWriteDone false) s).ram.write = some ⟨1, ⟨512, 0, 0, true⟩, 200000, true⟩ := by decide +kernel

def admitMpdu : Bytes := [4, 2, 0, 9, 0, 0, 0] ++ zeros 9
def expelMpdu : Bytes := [5, 2, 0, 9, 0, 0, 0] ++ zeros 8
def cmd9 : TagCmdRx := ⟨1, 9, 0x55⟩
theorem witness_TagFramesAct :
    ((tagged fun r => { r with net := .awaitAdmit 9 }).tagActive = true ∧ admitMpdu.length = 16 ∧ admitMpdu.getD 0 0 = 4 ∧
      (tagged id).ram.floor < at_ admitMpdu 3 4 ∧ at_ admitMpdu 3 4 ≤ (tagged fun r => { r with floor := 9 }).ram.floor) ∧
    ((tagIn id).ram.net = .admitted ∧ expelMpdu.length = 15 ∧ expelMpdu.getD 0 0 = 5 ∧ (expelMpdu.getD 1 0).toNat = (tagIn id).ram.short) ∧
    (full.tagActive = false ∧ (tagIn id).ram.floor < cmd9.fc.toNat) ∧
    ((tagIn fun r => { r with verifyAt := some 1 }).ram.verifyAt = some 1 ∧ (tagIn id).ram.verifyAt = none) := by
  and_intros <;> decide +kernel

/-- R436: READ at the map's last word, one beyond it; WRITE of V_SLEEP and V_WAKE in range and out; FW_WRITE out of sequence. -/
theorem test_tag_frames :
    ((after (.read cmd9 0x10C 1) (tagIn id)).ram.frames.map fun f => f.payload.take 3) = [[0x81, 0x55, 0]] ∧
    ((after (.read cmd9 0x10C 2) (tagIn id)).ram.frames.map fun f => f.payload.take 3) = [[0x81, 0x55, 2]] ∧
    (after (.read cmd9 0x10C 1) (tagIn id)).ram.floor = 9 ∧
    (after (.write cmd9 0x024 [0x010400DC]) (tagIn id)).ram.cfg.vWake = 260 ∧
    ((after (.write cmd9 0x024 [0x00EF00DC]) (tagIn id)).ram.frames.map fun f => f.payload) = [[0x82, 0x55, 3, 0]] ∧
    ((after (.fwWrite cmd9 4 [1]) (tagIn id)).ram.frames.map fun f => f.payload) = [[0x90, 0x55, 7, 0]] ∧
    (after (.fwWrite cmd9 0 [1, 2]) (tagIn id)).tag.written = 2 ∧
    (after (.restart ⟨1, 0, 0⟩) (tagIn id)).ram.frames = [] := by decide +kernel

/-! ## Ports -/

/-- A PING without payload as it stands on the wire, from the owner of a port: its tag verifies or not, as the keys have it. -/
def wire (p : Port) : Bytes := [2, 0x7F, 5, 0, BitVec.ofNat 8 (p.val + 1), 0, 0, 0, 1, 0, 0, 0, 0, 0, 0, 0] ++ zeros 16
def sqEntry : Bytes := le 8 4096 ++ le 4 32 ++ le 4 1024 ++ le 8 8192 ++ zeros 8
def ringed : State := full.updHpa fun h => { h with sqTail := 1 }

theorem witness_HpaRowsAct :
    (full.boot.step ≠ .held ∧ full.hpa.linkUp = true ∧ full.underTest 0 = false ∧ full.hpa.en = true ∧
      (full.updHpa fun h => { h with en := false }).hpa.en = false ∧ State.reset.hpa.linkUp = false) ∧
    (ringed.sqReady = true ∧ sqEntryOk sqEntry = true ∧ at_ sqEntry 8 4 = ((wire 0).take 32).length ∧
      PacketOk ringed 0 (.ring (ringed.hpa.slot 0) 1024 8192) (wire 0) ses) ∧
    (sqEntryOk (zeros 32) = false ∧ ringed.hpa.cqOwed = 0 ∧ full.sqReady = false) ∧
    (full.barUp = true ∧ (full.owner 0).session = some ses ∧ ses.mask.testBit 0x12 = true ∧ (full.owner 0).events.length < 256) := by
  and_intros <;> decide +kernel

/-- R125: ring sizes are 4 to 12 and taken with EN clear; clearing EN forgets the positions; a bad entry gets its CQ entry. -/
theorem test_hpa :
    (after (.hpaCtrlWrite 0x28 0x0D0403) (full.updHpa fun h => { h with en := false })).hpa.sqLog = 4 ∧
    (after (.hpaCtrlWrite 0x28 0x0D0C05) (full.updHpa fun h => { h with en := false })).hpa.cqLog = 12 ∧
    (after (.hpaCtrlWrite 0 0) ringed).hpa.sqTail = 0 ∧ (after (.sqTailWrite 5) full).hpa.sqTail = 5 ∧
    (after (.hpaSqFetch (zeros 32) []) ringed).hpa.cqPos = 1 ∧ (after .hpaRingError full).hpa.ringErr = true ∧
    ((after .hpaRingError full).owner 0).events.map (·.code) = [0x12] ∧ ((after .pciePerstN full).owner 0).session = none := by
  decide +kernel

/-- An SFP frame with its CRC, and MNT's frame of a packet: its bytes, cut at the zeros (COBS, R97). -/
def sfp (body : Bytes) : Bytes := body ++ (le 2 (crc16 body)).reverse
def cobsOf : Bytes → Bytes → Bytes
  | cur, [] => BitVec.ofNat 8 (cur.length + 1) :: cur
  | cur, b :: rest => if b = 0 then BitVec.ofNat 8 (cur.length + 1) :: cur ++ cobsOf [] rest else cobsOf (cur ++ [b]) rest
def sfp0 : Bytes := sfp ([1, 0, 1] ++ (wire 2).take 27)
def sfp1 : Bytes := sfp ([1, 1, 1] ++ (wire 2).drop 27 ++ zeros 22)
def idleFrame : Bytes := sfp (zeros 30)
def mntF : Bytes := cobsOf [] (wire 3 ++ le 4 (crc32 (wire 3)))
/-- The first of the packet's two frames has come. -/
def half : State := full.updNet fun n => { n with sfpAsm := some ⟨0, 1, sfp0, (wire 2).take 27⟩ }
def echo : Bytes := [8, 0, 0xF7, 0xFD, 0, 1, 0, 1]

/-- A frame to the device's MAC address. -/
def macRx : EthRx := ⟨[0x02, 0, 0, 0, 0, 1], none⟩
theorem witness_LinkRowsAct :
    (full.portTakes 1 = true ∧ (60 : Nat) ≤ full.net.inForce.mtu ∧ (wire 1).length + 28 ≤ full.net.inForce.mtu ∧
      PacketOk full 1 (.udp 0x0A000001 4000) (wire 1) ses ∧ State.reset.portTakes 1 = false) ∧
    (full.net.inForce.unreachable 0x0A000001 = false ∧ echo = [8, 0, 0xF7, 0xFD] ++ [0, 1, 0, 1] ∧ onesSum 0 echo = 0xFFFF) ∧
    (full.frameTaken macRx = true ∧ (0x0A000002 : Word) = full.net.inForce.hpbIp ∧
      full.frameTaken { macRx with vlan := some 5 } = false ∧
      (full.updNet fun n => { n with inForce := { n.inForce with vlanEn := true, vid := 5 } }).frameTaken { macRx with vlan := some 5 }
        = true) ∧
    (half.portTakes 2 = true ∧ half.net.sfpOut = [] ∧ sfpFrameOk sfp1 = true ∧ at_ sfp1 0 1 = 1 ∧
      half.net.sfpAsm = some ⟨0, 1, sfp0, (wire 2).take 27⟩ ∧ sfp1 ≠ sfp0 ∧ at_ sfp1 1 1 = 0 + 1 ∧ at_ sfp1 2 1 = 1 ∧
      ((wire 2).take 27 ++ slice sfp1 3 27).take 32 = wire 2 ∧ at_ sfp1 2 1 + 1 = fragments 0 ∧ PacketOk half 2 .sfp (wire 2) ses) ∧
    (sfpFrameOk (zeros 32) = false ∧ sfpFrameOk idleFrame = true ∧ at_ idleFrame 0 1 = 0 ∧ sfpFrameOk sfp0 = true ∧ at_ sfp0 1 1 = 0 ∧
      0 < at_ sfp0 2 1 ∧ full.net.sfpAsm = none ∧ at_ sfp1 1 1 ≠ 0) ∧
    (mntF ≠ [] ∧ mntPacket mntF = some (wire 3) ∧ PacketOk full 3 .mnt (wire 3) ses ∧ mntPacket [1, 2] = none) ∧
    (full.net.sfpArmed = true ∧ full.net.sfpLost = false ∧ full.net.sfpValidAt + 10 * 100000 ≤ 1000000 ∧ full.net.inForce.lossMs = 10) := by
  and_intros <;> decide +kernel

/-- R94 to R97: fragments gather, a bad CRC and a frame out of sequence are counted, ten milliseconds of silence are a loss. -/
theorem test_links :
    ((after (.sfpFrameRx sfp0) full).net.sfpAsm.map (·.frag)) = some 0 ∧ (after (.sfpFrameRx (zeros 32)) full).net.sfpCrcErr = 1 ∧
    (after (.sfpFrameRx sfp1) full).net.sfpSeqErr = 1 ∧ (after (.sfpFrameRx sfp0) half).net.sfpSeqErr = 0 ∧
    (after (.mntFrameRx [1, 2]) full).net.mntErr = 1 ∧ (after .sfpLinkLoss { full with now := 1000000 }).net.sfpLost = true ∧
    (after .sfpLinkLoss { full with now := 999999 }).net.sfpLost = false := by decide +kernel
theorem test_echo : (after (.icmpEcho ⟨macRx, 0x0A000001, 0x0A000002⟩ false echo) full).out =
    [.ethernet ⟨none, macRx.dst, [], 0x0800, some ⟨0x0A000002, 0x0A000001, 1, none⟩, [0, 0, 0xFF, 0xFD, 0, 1, 0, 1]⟩] := by
  decide +kernel

/-- R97: COBS of 11 22 00 33 by hand, and the device's own frame read back. -/
theorem test_cobs : cobsEncode [] [0x11, 0x22, 0, 0x33] = [3, 0x11, 0x22, 2, 0x33] ∧ mntFrame (wire 3) = mntF ++ [0] ∧
    mntPacket (mntFrame (wire 3)).dropLast = some (wire 3) := by decide +kernel

def told (p : Port) : State := full.updOwner p fun o =>
  { o with events := [⟨0x0F, 1, 2, 1, zeros 12⟩], evtDest := some (0x0A000001, 4000) }
def leaseState : State := { leased 1 2 with now := 10000001000 }
theorem witness_EventAndLeaseRowsAct :
    (((told 0).owner 0).session = some ses ∧ (told 0).eventRoom 0 = true ∧ (told 1).eventRoom 1 = true ∧ (told 2).eventRoom 2 = true ∧
      (told 3).eventRoom 3 = true ∧ (full.owner 3).events = []) ∧
    (((told 0).updHpa fun h => { h with en := false }).eventRoom 0 = false) ∧
    ((told 3).commandsWait = false ∧ (before (told 3) (.hello hm)).commandsWait = true ∧ ses.mask.testBit 0x0F = true ∧
      (({ ses with mask := 2 } : Session).mask.testBit 0x0F = false)) ∧
    (leaseState.commandsWait = false ∧ leaseState.calm = true ∧ (leaseState.leases.get 1 2).map (·.owner) = some (Port.id 3) ∧
      (leaseState.leases.get 1 2).all (fun l => decide (l.expiry ≤ leaseState.now)) = true ∧
      ((leased 1 2).leases.get 1 2).all (fun l => decide ((leased 1 2).now < l.expiry)) = true) := by
  and_intros <;> decide +kernel

/-- R102, R124. -/
theorem test_events_and_leases :
    (after (.eventDeliver 0) (told 0)).hpa.eqPos = 1 ∧ ((after (.eventDeliver 3) (told 3)).owner 3).events = [] ∧
    (after (.leaseExpiry 1 2) leaseState).holder 1 2 = 0 ∧ (after (.leaseExpiry 1 2) (leased 1 2)).holder 1 2 = 4 ∧
    ((after (.leaseExpiry 1 2) leaseState).owner 3).events.map (·.code) = [0x0F] := by decide +kernel

/-- The two sides of SpdmRowsAct: HPA up in FULL, and a device held in reset. -/
theorem witness_SpdmRowsAct :
    (full.hpa.linkUp = true ∧ full.underTest 0 = false ∧ full.boot.dev ≠ .boot ∧ full.boot.dev ≠ .recovery) ∧
    State.reset.boot.dev = .boot := by and_intros <;> decide +kernel

/-! ## Checks, sequence numbers, arbitration -/

def bare (f : Session → Session) : State := full.updSession 3 f
/-- The premises of ChecksInOrder, and one command for each check it fails. -/
theorem witness_ChecksInOrder :
    ((Instr.ping hm []).cmd? = some (hm, .ping []) ∧ hm.viaOk = true ∧ (full.carried 3).portTakes 3 = true ∧
      32 + payloadSize (.ping []) ≤ full.maxPacket 3 ∧ full.calm = true ∧ full.portDead 3 = false ∧ headFault hm = none) ∧
    ((full.owner 3).session = some ses ∧ (opening.owner 3).session = none ∧ opening.calm = true ∧
      opening.freeCmd 3 (.ping []) = false ∧ opening.freeCmd 3 .hello = true) ∧
    ((bare fun x => { x with high := 100 }).calm = true ∧ (36 : Nat) + 64 ≤ 100) ∧
    ((atStep .done .early).boot.dev.refuses 3 (.memFree 1) = some eBusy ∧ full.ownerMay 3 (.safeStop 0 0) = false ∧
      full.addrFault 3 (.regRead 2 1) = some eParam ∧ full.formFault ⟨full.head hm, some 7, .axisStatus, none, false⟩ = some eParam) ∧
    (full.givesWay (.ping hm []) = false ∧ captured12.givesWay (.regRead hm 0x9C088 1) = true) := by
  and_intros <;> decide +kernel

/-- Table 6-3: version before owner, owner before flags, sequence number before DEV_STATE. -/
def answer (i : Instr) (s : State) : List Nat :=
  (after i s).out.filterMap fun o => match o with
    | .reply _ _ p _ => some p.last
    | _ => none
theorem test_checks :
    answer (.ping { hm with version := 1, owner := 1 } []) full = [eVersion] ∧
    answer (.ping { hm with owner := 1, dup := true } []) full = [ePort] ∧
    answer (.ping { hm with dup := true, key := .neither } []) full = [eParam] ∧
    answer (.ping { hm with key := .zeroKey } []) opening = [eNoSession] ∧
    answer (.hello { hm with key := .zeroKey, enc := true }) opening = [eParam] ∧
    answer (.ping { hm with key := .neither } []) full = [eAuth] ∧
    answer (.memFree { hm with seq := 0 } 1) (atStep .done .early) = [eReplay] ∧
    answer (.memFree hm 1) (atStep .done .early) = [eBusy] := by decide +kernel
theorem test_checks_step_12 :
    answer (.axisStatus hm) full = [eParam] ∧ answer (.axisStop (hd 3 1 2 1) 9) full = [eParam] ∧ answer (.axisStop (hd 3 1 2 1) 1) full = [eNotHolder] ∧
    (after (.ping hm [1, 2, 3, 4]) (bare fun x => { x with outstanding := 64 })).arrivals.map (·.extra) = [true] := by decide +kernel

/-- MNT has sent its reply to command 1 in tick 900. -/
def replied : State := bare fun x =>
  { x with high := 1, cache := [⟨1, some (replyPacket hm 0x7F stOk [] (some []) false), 900⟩] }
theorem witness_DuplicatesResend :
    ((replied.owner 3).session.map fun x => (x.high, (x.cache.find? fun e => e.seq == 1).map (·.sentAt))) = some (1, some 900) ∧
    replied.calm = true ∧ hm.seq ≠ 0 ∧ hm.seq.toNat ≤ 1 ∧ 1 < hm.seq.toNat + 64 ∧ (900 : Nat) < replied.now := by
  and_intros <;> decide +kernel

/-- R128: the reply goes again with DUP set and is counted. -/
theorem test_duplicate :
    sent (after (.ping hm []) replied) = [some (3, .mnt, { replyPacket hm 0x7F stOk [] (some []) false with dup := true })] ∧
    ((after (.ping hm []) replied).owner 3).cntDup = 1 := by decide +kernel

/-- One command, and two of each kind, waiting for step 12. -/
def waitingFor (l : List Arrival) : State := { full with arrivals := l }
def arr (p : Port) (cls idx : Nat) (c : Cmd) : Arrival := ⟨full.head (hd p cls idx 1), some 7, c, none, false⟩
theorem witness_ArrivalsActInOrder :
    (waitingFor [arr 3 0 0 (.ping [])]).pending = [] ∧ (waitingFor []).deferred = [] ∧
    ({ arr 3 0 0 (.ping []) with extra := true }.serial.isSome = true ∧ 64 < (bare fun x => { x with outstanding := 65 }).outstanding 3 ∧
      full.outstanding 3 ≤ 64) ∧
    (cmdIsStop (arr 3 0 0 (.ping [])).cmd = false ∧ cmdIsStop (arr 2 0 0 (.safeStop 1 0)).cmd = true) ∧
    (cmdIsTake (arr 3 1 2 (.leaseTake ⟨100, 0, 0⟩)).cmd = true ∧ cmdReleases (arr 2 0 0 .closeSession).cmd = true) ∧
    ((arr 3 1 2 (.leaseTake ⟨100, 0, 0⟩)).hdr.cls ≠ 7 ∧ (arr 0 1 2 (.leaseTake ⟨100, 0, 0⟩)).hdr.port.val < 3 ∧
      full.holds 3 1 2 = false ∧ full.holds 0 1 2 = false) := by
  and_intros <;> decide +kernel

/-- Table 5-7: of two takes in one tick owner 1's wins, in whichever order they came. -/
theorem test_take_order :
    (match step (waitingFor [arr 3 1 2 (.leaseTake ⟨100, 0, 0⟩), arr 0 1 2 (.leaseTake ⟨100, 0, 0⟩)]) with
      | .next t => t.holder 1 2
      | _ => 0) = 1 := by decide +kernel

/-- A payload of every command is well formed, and reads back. -/
theorem witness_PayloadReadsBack : everyCommand.all (fun x => x.2.2.wf) = true := by decide +kernel
theorem test_payloads :
    everyCommand.all (fun x => decodeCmd x.2.2.opcode (encodeCmd x.2.2) == some x.2.2) = true := by decide +kernel

/-! ## The machine as a whole -/

/-- PING (0x7F) of four bytes spelt out from Table 7-2, and LEASE_TAKE from Table 7-3: DURATION, TAGS, CORES_MIN, two zero bytes. -/
theorem test_decode_words :
    decodeCmd 0x7F [1, 2, 3, 4] = some (.ping [1, 2, 3, 4]) ∧
    decodeCmd 0x08 [0x64, 0, 0, 0, 2, 1, 0, 0] = some (.leaseTake ⟨100, 2, 1⟩) ∧
    decodeCmd 0x10 [0, 0, 1, 0, 3, 0, 0, 0] = some (.regRead 0x10000 3) := by decide +kernel

theorem witness_StepTakesFrontCommand : ({ full with pending := [.jobDispatch] } : State).pending = .jobDispatch :: [] := rfl
theorem witness_StepsAnswerAndTicksPass :
    full.pending = [] ∧ full.arrivals = [] ∧ full.calm = true ∧ full.commit = none ∧ full.boot.resetDue = none ∧ full.net.writtenAt = none ∧
    full.deferred = [] ∧ full.tb.stepEvent = none ∧ full.tb.pendingStep = false ∧
    (∀ n (k : Fin 6), (full.axis n).gates.due.get k = none) ∧ full.tb.s = 0 ∧
    ({ full with deferred := [.jobDispatch] } : State).deferred ≠ [] := by and_intros <;> decide +kernel

/-- One tick: 10 ns of D01, four cycles of D02. -/
theorem test_tick : (match step full with | .next t => (t.now, t.d02) | _ => (0, 0)) = (1001, full.d02 + 4) := by decide +kernel

theorem witness_OtpOnlyGrows : OtpInv full := by unfold OtpInv; decide +kernel

/-! ## Link tests -/

def hlt (cls idx : Nat) : Hdr := hd 3 cls idx 1
/-- Unit 12, the link of sensor port 2, in one condition. -/
def unitIn (f : Ltu → Ltu) : State := (full.updUnit 12 fun x => f { x with goal := 1000, owner := 3, serial := some 7, lanes := 1 }).updSensor 2 fun x => { x with st := .test }
def laterU (f : Ltu → Ltu) : State := { unitIn f with now := 3600 * secTicks }
/-- A start allowed on a single-lane link: one lane, loop 1. -/
def pL : LinkStartP := { pLink with loop := 1, lanes := 1 }
theorem witness_LinkTestsAct :
    (Accepted (leased 8 1) (hlt 8 1) (.linkTestStart pL) ses ∧ loopAllowed 1 pL.loop.toNat = true ∧
      (leased 8 1).lanesAllowed 1 pL.lanes.toNat = true ∧ pL.bits ≠ 0 ∧ portUnit 3 ≠ some 1 ∧ ((leased 8 1).unit 1).st.runs = false) ∧
    (Accepted (leased 8 1) (hlt 8 1) (.linkTestStart { pL with pattern := 7 }) ses ∧
      Accepted (leased 8 1) (hlt 8 1) (.linkTestStart { pL with bits := 0 }) ses) ∧
    (let s := (leased 8 1).updUnit 1 fun x => { x with st := .counting }
     Accepted s (hlt 8 1) (.linkTestStart pL) ses ∧ (s.unit 1).st.runs = true) ∧
    (let s := (leased 8 4).updAxis 0 fun a => { a with st := .couch }
     let p := { pL with loop := 2 }
     Accepted s (hlt 8 4) (.linkTestStart p) ses ∧ loopAllowed 4 p.loop.toNat = true ∧ s.lanesAllowed 4 p.lanes.toNat = true ∧
       (s.unit 4).st.runs = false ∧ s.feltIdle = false) ∧
    (let s := running.hold 3 8 2 100000
     Accepted s (hlt 8 2) (.linkTestStart { pL with loop := 0, lanes := 0xFF }) ses ∧ s.job 0 = some ranJob ∧ ranJob.st = .running) ∧
    (Accepted (leased 8 1) (hlt 8 1) (.linkTestStart { pL with loop := 2 }) ses ∧ loopAllowed 1 2 = true) ∧
    (let s := unitIn fun x => { x with st := .counting }
     (before s (.ltuBitsReached 12 (.replicate 4 0))).bitsComing 12 = true ∧ s.bitsComing 12 = false ∧
       s.leaseMayEnd (unitRes 12).1 (unitRes 12).2 = false ∧
       (before s (.leaseExpiry (BitVec.ofNat 8 (unitRes 12).1) (BitVec.ofNat 32 (unitRes 12).2))).leaseMayEnd (unitRes 12).1 (unitRes 12).2
         = true ∧ 256 ≤ (#v[200, 56, 0, 0] : Vector Nat 4).toList.sum ∧ (#v[200, 55, 0, 0] : Vector Nat 4).toList.sum < 256) ∧
    ((⟨12, []⟩ : LockRx).unit = 12 ∧ (0, 7, 6) ∈ [(0, 7, 6), (1, 15, 14), (2, 23, 18), (3, 31, 28)] ∧ 7 + 64 ≤ 71 ∧ 31 + 64 ≤ 95) ∧
    Accepted full (hlt 8 1) .linkTestResult ses ∧
    ((unitIn fun x => { x with st := .counting }).unit 12).st = .counting ∧ ((unitIn fun x => { x with st := .eye }).unit 12).st = .eye ∧
    ((laterU fun x => { x with st := .locking }).unit 12).startAt + lockTicks 12 ≤ (laterU fun x => { x with st := .locking }).now ∧
    ((unitIn id).unit 12).st.runs = false ∧ (((unitIn id).owner 3).session = some ses ∧ ses.mask.testBit 9 = true) := by
  and_intros <;> decide +kernel

/-- R444: x^7 + x^6 + 1 from seven ones gives six zeros, then a one; walking ones; the checker locks on what the generator sends. -/
theorem test_patterns :
    (⟨0, 0, false⟩ : PatGen).pure 14 = List.replicate 7 true ++ List.replicate 6 false ++ [true] ∧
    (⟨5, 0, false⟩ : PatGen).pure 4 = [true, false, true, false] ∧
    (⟨0, 0, false⟩ : PatGen).locks ((⟨0, 0, false⟩ : PatGen).pure 71) = true := by decide +kernel

/-- R445, R451: a test runs to its bits or its hour, and the end gives the sensor port back and is raised. -/
theorem test_link_tests :
    status (.linkTestStart (hlt 8 1) pL) (leased 8 1) (hlt 8 1) = some stAccepted ∧
    ((after (.linkTestStart (hlt 8 1) pL) (leased 8 1)).unit 1).st = .locking ∧
    ((after (.ltuBitsReached 12 (.replicate 4 0)) (unitIn fun x => { x with st := .counting })).unit 12).bits = 1000 ∧
    ((after (.ltuBitsReached 12 (.replicate 4 0)) (unitIn fun x => { x with st := .counting })).sns 2).st = .configured ∧
    ((after (.ltuBitsReached 12 (.replicate 4 0)) (unitIn fun x => { x with st := .counting })).owner 3).events.map (·.code) = [9] ∧
    ((after (.linkTestTimeLimit 12 5 (.replicate 4 0)) (laterU fun x => { x with st := .counting })).unit 12).bits = 5 := by
  decide +kernel

end Sys2Proof.Tests
end

section
/-! PROOFS. A command that steps 9 and 10 of Table 6-3 turn away (R111, R112, R116), and with it the alignment of register
addresses (R8). -/

namespace Sys2Proof.Machine

/-! ### Steps 9 and 10 of Table 6-3 turn a command away -/

/-- Taking a sequence number changes nothing that steps 9 and 10 judge. -/
theorem State.accepted_lateFault (s : State) (h : Hdr) (p : Port) (c : Cmd) :
    (s.accepted h).lateFault p c = s.lateFault p c := by
  simp only [State.lateFault, State.accepted_boot, State.accepted_ownerMay, State.accepted_addrFault]

/-- Of a command that DEV_STATE answers and its owner may send, its addresses alone are left to judge. -/
theorem State.lateFault_eq_addrFault {s : State} {p : Port} {c : Cmd} (dev : s.boot.dev.refuses p c = none)
    (may : s.ownerMay p c = true) : s.lateFault p c = s.addrFault p c := by
  simp [State.lateFault, dev, may]

/-- Turning away any command but FW_COMMIT is its reply alone. -/
theorem State.turnAway_eq_reply (s : State) (t : Ticket) {c : Cmd} (e : Nat) (hc : ∀ x k, c ≠ .fwCommit x k) :
    s.turnAway t c e = s.reply t e [] := by
  unfold State.turnAway
  split
  · next x k => exact absurd rfl (hc x k)
  · rfl

/-- A command that arrives and fails step 9 or 10 is turned away from the accepted state: its port shown alive and its
sequence number taken, it has no other effect. -/
theorem serve_lateFault {s : State} {h : Hdr} {c : Cmd} {ses : Session} {e : Nat} (arr : Arrives s h c ses)
    (rec_ : h.port = 2 → s.boot.dev = .recovery → sfpInRecovery c = true) (bad : s.lateFault h.port c = some e) :
    s.serve h c = ((s.accepted h).turnAway (s.ticket h c ses) c e).finish := by
  have hl : (s.accepted h).late (s.head h) c none (some ses.serial)
      = ((s.accepted h).turnAway (s.ticket h c ses) c e, none) := by
    have : (s.accepted h).lateFault (s.head h).port c = some e := (s.accepted_lateFault h h.port c).trans bad
    simp only [State.late, this, State.ticket]
  rw [State.serve, receive_arrives arr rec_, hl]

/-- A reply from the accepted state is cached in the command's session. -/
theorem replied_of_arrives {s : State} {h : Hdr} {c : Cmd} {ses : Session} (arr : Arrives s h c ses)
    (hop : c.opcode ≠ 0x02) (e : Nat) (b : Bytes) :
    Replied s ((s.accepted h).reply (s.ticket h c ses) e b) h c.opcode e b := by
  obtain ⟨-, -, -, -, -, hses, -, -, -, -⟩ := arr
  have hx : ((s.accepted h).owner h.port).session = some (ses.took h.seq.toNat) := by
    rw [State.accepted_owner_self hses]
  refine ⟨_, reply_session (t := s.ticket h c ses) (e := e) (b := b) rfl hop hx rfl, ?_⟩
  have first : (ses.took h.seq.toNat).cache = cachePut h.seq.toNat ses.cache := rfl
  simp only [first, cachePut, List.take_succ_cons, List.map_cons, State.ticket_seq, if_true, List.find?_cons,
    beq_self_eq_true, State.accepted_now]
  rfl

/-- A row whose command arrives and fails step 9 or 10 completes with the status of that step and does nothing. -/
theorem completes_of_lateFault {i : Instr} {s : State} {h : Hdr} {c : Cmd} {ses : Session} {e : Nat}
    (hi : exec i s = .next (s.serve h c)) (arr : Arrives s h c ses)
    (rec_ : h.port = 2 → s.boot.dev = .recovery → sfpInRecovery c = true) (hop : c.opcode ≠ 0x02)
    (hc : ∀ x k, c ≠ .fwCommit x k) (he : Uncounted e) (bad : s.lateFault h.port c = some e) :
    Completes i s h c.opcode e [] s := by
  have replied := replied_of_arrives arr hop e []
  have ⟨_, _, _, _, _, _, _, _, hq, calm⟩ := arr
  have served : s.serve h c = (s.accepted h).reply (s.ticket h c ses) e [] := by
    rw [serve_lateFault arr rec_ bad, State.turnAway_eq_reply _ _ _ hc,
      State.finish_calm (reply_calm he (State.accepted_calm hq calm))]
  refine ⟨_, hi, served ▸ replied, ?_⟩
  rw [served, State.reply_quiet _ _ _ he, State.accepted_quiet hq]

/-- A row whose command DEV_STATE answers and its owner may send, but whose address is out of form, completes with E_PARAM
and does nothing. -/
theorem completes_of_addrFault {i : Instr} {s : State} {h : Hdr} {c : Cmd} {ses : Session}
    (hi : exec i s = .next (s.serve h c)) (arr : Arrives s h c ses) (dev : s.boot.dev.refuses h.port c = none)
    (may : s.ownerMay h.port c = true) (hop : c.opcode ≠ 0x02) (hc : ∀ x k, c ≠ .fwCommit x k)
    (bad : s.addrFault h.port c = some eParam) : Completes i s h c.opcode eParam [] s := by
  have rec_ : h.port = 2 → s.boot.dev = .recovery → sfpInRecovery c = true := fun h2 hd =>
    sfpInRecovery_of_answered h2 (hd ▸ dev)
  exact completes_of_lateFault hi arr rec_ hop hc uncounted_param ((State.lateFault_eq_addrFault dev may).trans bad)

/-! ### Register addresses (R8) -/

@[simp] theorem le_length (n w : Nat) : (le n w).length = n := by
  induction n generalizing w with
  | zero => rfl
  | succ n ih => simp [le, ih]

/-- REG_READ returns four bytes of every register. -/
theorem State.length_regReads (s : State) (l : List Nat) : (s.regReads l).2.length = 4 * l.length := by
  induction l generalizing s with
  | nil => rfl
  | cons a l ih => simp [State.regReads, ih]; omega

/-- An address that is no multiple of 4 is out of form, whatever the count. -/
theorem regFormOk_misaligned {a : Nat} (h : a % 4 ≠ 0) (n : Nat) : regFormOk a n = false := by
  simp [regFormOk, h]

/-- Where no capture of its tick comes first, a REG_READ is served as it arrives. -/
theorem exec_regRead_of_not_waits {s : State} {addr count : Word} (h : Hdr)
    (now : s.readWaits addr.toNat count.toNat = false) :
    exec (.regRead h addr count) s = .next (s.serve h (.regRead addr count)) := by
  change execRegRead h addr count s = _
  simp [execRegRead, now]

/-- Settles O7: step 10 finds an address that is no multiple of 4 out of form in each of the three register commands. -/
theorem registerAddressAligned : Obligations.RegisterAddressAligned := by
  refine ⟨State.length_regReads, ?read, ?write, ?modify⟩
  case read =>
    intro s h ses addr count arr dev may skew now
    exact completes_of_addrFault (exec_regRead_of_not_waits h now) arr dev may (by simp [Cmd.opcode]) nofun
      (by simp [State.addrFault, regFormOk_misaligned skew])
  case write =>
    intro s h ses w arr dev may skew
    exact completes_of_addrFault rfl arr dev may (by simp [Cmd.opcode]) nofun
      (by simp [State.addrFault, regFormOk_misaligned skew])
  case modify =>
    intro s h ses addr mask value arr dev may skew
    exact completes_of_addrFault rfl arr dev may (by simp [Cmd.opcode]) nofun
      (by simp [State.addrFault, regFormOk_misaligned skew])

end Sys2Proof.Machine
end

section
/-! PROOFS. Stops of the motor axes (R311, R314, R315): what a stop makes of its axis, and that it leaves the others. -/

namespace Sys2Proof.Machine

/-! ### What an operation on axes leaves -/

/-- From `s` to `t` nothing changes but the axes of `A`, the cores and the owners. -/
def TouchesAxes (A : Set (Fin 8)) (s t : State) : Prop :=
  t = { s with axes := t.axes, cores := t.cores, owners := t.owners } ∧ ∀ m, m ∉ A → t.axis m = s.axis m

namespace TouchesAxes

variable {A B : Set (Fin 8)} {s t u : State}

theorem refl (A : Set (Fin 8)) (s : State) : TouchesAxes A s s := ⟨rfl, fun _ _ => rfl⟩

theorem trans (h : TouchesAxes A s t) (k : TouchesAxes A t u) : TouchesAxes A s u :=
  ⟨by rw [k.1, h.1], fun m hm => (k.2 m hm).trans (h.2 m hm)⟩

theorem mono (h : TouchesAxes A s t) (sub : A ⊆ B) : TouchesAxes B s t := ⟨h.1, fun m hm => h.2 m fun a => hm (sub a)⟩

theorem of_none (h : TouchesAxes ∅ s t) : TouchesAxes A s t := h.mono (Set.empty_subset A)

theorem foldl {α : Type} {f : State → α → State} (hf : ∀ s a, TouchesAxes A s (f s a)) (l : List α) (s : State) :
    TouchesAxes A s (l.foldl f s) := by
  induction l generalizing s with
  | nil => exact refl A s
  | cons a l ih => exact (hf s a).trans (ih _)

theorem onlyMotion (h : TouchesAxes A s t) : OnlyMotion s t := by
  rw [h.1]
  and_intros <;> rfl

theorem now_eq (h : TouchesAxes A s t) : t.now = s.now := by rw [h.1]
theorem safety_eq (h : TouchesAxes A s t) : t.safety = s.safety := by rw [h.1]
theorem out_eq (h : TouchesAxes A s t) : t.out = s.out := by rw [h.1]

end TouchesAxes

/-! ### The operations a stop is made of -/

@[simp] theorem State.updAxis_axis_self (s : State) (n : Fin 8) (f : Axis → Axis) :
    (s.updAxis n f).axis n = f (s.axis n) := bankUpd_get_self _ _ _

theorem State.updAxis_touches (s : State) (n : Fin 8) (f : Axis → Axis) : TouchesAxes {n} s (s.updAxis n f) :=
  ⟨rfl, fun _ hm => (bankUpd_get _ _ _ _).trans (if_neg fun e => hm e.symm)⟩

theorem State.updCore_touches (s : State) (c : Fin 32) (f : Core1 → Core1) : TouchesAxes ∅ s (s.updCore c f) :=
  ⟨rfl, fun _ _ => rfl⟩

theorem State.repin_touches (s : State) : TouchesAxes ∅ s s.repin := by
  refine TouchesAxes.foldl (fun s c => ?_) _ s
  dsimp only
  split
  · exact .refl ∅ s
  · split
    · exact s.updCore_touches c _
    · split
      · exact s.updCore_touches c _
      · exact .refl ∅ s

theorem State.raiseAll_touches (s : State) (c k i : Nat) (b : Bytes) : TouchesAxes ∅ s (s.raiseAll c k i b) :=
  TouchesAxes.foldl (f := fun s p => s.raise c k i b p) (fun _ _ => ⟨rfl, fun _ _ => rfl⟩) _ s

theorem State.axisEvent_touches (s : State) (n : Fin 8) (old new : AxSt) (cause : Nat) :
    TouchesAxes ∅ s (s.axisEvent n old new cause) := s.raiseAll_touches _ _ _ _

@[simp] theorem State.repin_axis (s : State) (n : Fin 8) : s.repin.axis n = s.axis n := s.repin_touches.2 n id

@[simp] theorem State.axisEvent_axis (s : State) (n m : Fin 8) (old new : AxSt) (cause : Nat) :
    (s.axisEvent n old new cause).axis m = s.axis m := (s.axisEvent_touches n old new cause).2 m id

@[simp] theorem State.enterAx_axis_self (s : State) (n : Fin 8) (st : AxSt) (cause : Nat) :
    (s.enterAx n st cause).axis n = { s.axis n with
      st := st, cause := cause, lossRunning := (s.axis n).lossRunning && st == .stopping, handover := none,
      enteredAt := s.now } := by simp [State.enterAx]

theorem State.enterAx_touches (s : State) (n : Fin 8) (st : AxSt) (cause : Nat) : TouchesAxes {n} s (s.enterAx n st cause) := by
  unfold State.enterAx
  exact ((s.updAxis_touches n _).trans (State.repin_touches _).of_none).trans (State.axisEvent_touches _ n _ _ _).of_none

@[simp] theorem State.drivePattern_axis_self (s : State) (n : Fin 8) (pat : Pattern) :
    (s.drivePattern n pat).axis n = { s.axis n with
      gates := (s.axis n).gates.apply pat ((s.timers.get (axTimer n)).active? s.d02 0) (s.axis n).deadTime s.now } :=
  s.updAxis_axis_self n _

@[simp] theorem State.uncommutate_axis_self (s : State) (n : Fin 8) :
    (s.uncommutate n).axis n = { s.axis n with sector := none, sectorNext := none, stepped := false } :=
  s.updAxis_axis_self n _

/-- Under no drive every output is low. -/
theorem Gates.apply_off_level (g : Gates) (pwm : Bool) (dt now : Nat) (i : Fin 6) :
    (g.apply .off pwm dt now).level.get i = false := by
  simp [Gates.apply, gateWant, Vector.get_eq_getElem]

/-! ### A stop -/

theorem State.beginStop_touches (s : State) (n : Fin 8) (cat : StopCat) (kind : StopKind) :
    TouchesAxes {n} s (s.beginStop n cat kind) := by
  cases cat with
  | ramp => exact (s.updAxis_touches n _).trans (State.updAxis_touches _ n _)
  | freewheel | short =>
    exact ((s.updAxis_touches n _).trans (State.updAxis_touches _ n _)).trans (State.updAxis_touches _ n _)

/-- What beginning a stop does to its axis (R311). -/
theorem State.beginStop_axis (s : State) (n : Fin 8) (cat : StopCat) (kind : StopKind) :
    let b := (s.beginStop n cat kind).axis n
    b.st = (s.axis n).st ∧ b.hold = (s.axis n).hold ∧ b.stop = some ⟨cat, kind, s.now⟩ ∧
      (cat = .freewheel → ∀ i, b.gates.level.get i = false) ∧ (cat = .short → b.gates.pattern = .short) ∧
      (cat = .ramp → b.cmd.setpoint = 0) := by
  cases cat with
  | ramp => simp [State.beginStop]
  | freewheel => simp [State.beginStop, Gates.apply_off_level]
  | short => simp [State.beginStop, Gates.apply]

/-- A stop of an axis at rest ends a zeroing. -/
theorem State.axisStop_atRest (s : State) (n : Fin 8) (cat : StopCat) (kind : StopKind) (cause : Nat)
    (rest : (s.axis n).st = .disabled ∨ (s.axis n).st = .stoppedSafe) :
    (s.axisStop n cat kind cause).1 =
      if (s.axis n).zeroFrom.isSome then (s.updAxis n fun a => { a with zeroFrom := none }).repin else s := by
  by_cases zeroing : (s.axis n).zeroFrom.isSome = true <;> rcases rest with h | h <;>
    simp only [State.axisStop, h, zeroing, if_true, if_false, Bool.false_eq_true]

theorem State.axisStop_fault (s : State) (n : Fin 8) (cat : StopCat) (kind : StopKind) (cause : Nat)
    (h : (s.axis n).st = .fault) : (s.axisStop n cat kind cause).1 = s := by
  simp only [State.axisStop, h]

/-- The stop in progress on an axis, if any, gives way to a stop (Table 16-12). -/
def State.stopGivesWay (s : State) (n : Fin 8) (cat : StopCat) (kind : StopKind) : Bool :=
  (s.axis n).stop.all (stopTakes s.now cat kind)

/-- A stop of an axis in STOPPING is begun where the one in progress gives way. -/
theorem State.axisStop_stopping (s : State) (n : Fin 8) (cat : StopCat) (kind : StopKind) (cause : Nat)
    (h : (s.axis n).st = .stopping) :
    (s.axisStop n cat kind cause).1 = if s.stopGivesWay n cat kind then s.beginStop n cat kind else s := by
  unfold State.axisStop State.stopGivesWay
  simp only [h]
  cases (s.axis n).stop with
  | none => rfl
  | some old => simp only [Option.all_some]; split <;> rfl

/-- A stop of a running axis is begun and takes it to STOPPING. -/
theorem State.axisStop_running (s : State) (n : Fin 8) (cat : StopCat) (kind : StopKind) (cause : Nat)
    (run : (s.axis n).st.enabled = true) (moves : (s.axis n).st ≠ .stopping) :
    (s.axisStop n cat kind cause).1 =
      ((s.updAxis n fun a => { a with obsSrc := a.st == .runObs }).beginStop n cat kind).enterAx n .stopping cause := by
  unfold State.axisStop
  cases h : (s.axis n).st <;> simp_all [AxSt.enabled]

/-- An axis is at rest, in FAULT, in STOPPING, or runs. -/
theorem AxSt.stop_cases (x : AxSt) :
    (x = .disabled ∨ x = .stoppedSafe) ∨ x = .fault ∨ x = .stopping ∨ (x.enabled = true ∧ x ≠ .stopping) := by
  cases x <;> decide

theorem State.axisStop_touches (s : State) (n : Fin 8) (cat : StopCat) (kind : StopKind) (cause : Nat) :
    TouchesAxes {n} s (s.axisStop n cat kind cause).1 := by
  obtain rest | fault | stopping | ⟨run, moves⟩ := (s.axis n).st.stop_cases
  · rw [s.axisStop_atRest n cat kind cause rest]
    split
    · exact (s.updAxis_touches n _).trans (State.repin_touches _).of_none
    · exact .refl _ s
  · rw [s.axisStop_fault n cat kind cause fault]
    exact .refl _ s
  · rw [s.axisStop_stopping n cat kind cause stopping]
    split
    · exact s.beginStop_touches n cat kind
    · exact .refl _ s
  · rw [s.axisStop_running n cat kind cause run moves]
    exact ((s.updAxis_touches n _).trans (State.beginStop_touches _ n _ _)).trans (State.enterAx_touches _ n _ _)

/-- A stop leaves the hold of its axis. -/
theorem State.axisStop_hold (s : State) (n : Fin 8) (cat : StopCat) (kind : StopKind) (cause : Nat) :
    ((s.axisStop n cat kind cause).1.axis n).hold = (s.axis n).hold := by
  obtain rest | fault | stopping | ⟨run, moves⟩ := (s.axis n).st.stop_cases
  · rw [s.axisStop_atRest n cat kind cause rest]
    split <;> simp
  · rw [s.axisStop_fault n cat kind cause fault]
  · obtain ⟨-, hold, -⟩ := s.beginStop_axis n cat kind
    rw [s.axisStop_stopping n cat kind cause stopping]
    split
    · exact hold
    · rfl
  · rw [s.axisStop_running n cat kind cause run moves, State.enterAx_axis_self]
    obtain ⟨-, hold, -⟩ := (s.updAxis n fun a => { a with obsSrc := a.st == .runObs }).beginStop_axis n cat kind
    simpa using hold

/-- A stop makes of its axis what `AxisStopped` says. -/
theorem State.axisStop_stops (s : State) (n : Fin 8) (cat : StopCat) (kind : StopKind) (cause : Nat) :
    AxisStopped s (s.axisStop n cat kind cause).1 n cat kind cause := by
  obtain rest | fault | stopping | ⟨run, moves⟩ := (s.axis n).st.stop_cases
  · have stands : ((s.axisStop n cat kind cause).1.axis n).st = (s.axis n).st ∧
        ((s.axisStop n cat kind cause).1.axis n).zeroFrom = none := by
      rw [s.axisStop_atRest n cat kind cause rest]
      split <;> simp_all
    rcases rest with h | h <;> simpa only [AxisStopped, h] using stands
  · simp only [AxisStopped, fault, s.axisStop_fault n cat kind cause fault]
  · obtain ⟨st, -, stop, -⟩ := s.beginStop_axis n cat kind
    simp only [AxisStopped, stopping, s.axisStop_stopping n cat kind cause stopping]
    refine ⟨?_, fun old inProgress => ?_⟩
    · rw [apply_ite (State.axis · n), apply_ite Axis.st, st, ite_self, stopping]
    · have gives : s.stopGivesWay n cat kind = stopTakes s.now cat kind old := by simp [State.stopGivesWay, inProgress]
      rw [apply_ite (State.axis · n), apply_ite Axis.stop, stop, inProgress, gives]
  · have began := (s.updAxis n fun a => { a with obsSrc := a.st == .runObs }).beginStop_axis n cat kind
    obtain ⟨-, -, stop, free, short, ramp⟩ := began
    have stopped : let b := (s.axisStop n cat kind cause).1.axis n
        b.st = .stopping ∧ b.cause = cause ∧ b.stop = some ⟨cat, kind, s.now⟩ ∧
          (cat = .freewheel → ∀ i, b.gates.level.get i = false) ∧ (cat = .short → b.gates.pattern = .short) ∧
          (cat = .ramp → b.cmd.setpoint = 0) := by
      rw [s.axisStop_running n cat kind cause run moves, State.enterAx_axis_self]
      exact ⟨rfl, rfl, stop, free, short, ramp⟩
    unfold AxisStopped
    cases h : (s.axis n).st <;> simp_all [AxSt.enabled]

/-- What a stop makes of axis `n` depends on the time, and on the state of the axis and the stop in progress on it. -/
theorem AxisStopped.of_eq {s s' t t' : State} {n : Fin 8} {cat : StopCat} {kind : StopKind} {cause : Nat}
    (stopped : AxisStopped s' t' n cat kind cause) (now : s'.now = s.now) (st : (s'.axis n).st = (s.axis n).st)
    (stop : (s'.axis n).stop = (s.axis n).stop) (after : t'.axis n = t.axis n) : AxisStopped s t n cat kind cause := by
  simpa only [AxisStopped, now, st, stop, after] using stopped

/-! ### Every axis in turn -/

/-- Where each of a list of different axes is treated by itself, an axis is treated once, in a state that has it as it was. -/
theorem foldl_axis {f : State → Fin 8 → State} (touches : ∀ s n, TouchesAxes {n} s (f s n)) {l : List (Fin 8)} {n : Fin 8}
    (once : l.Nodup) (mem : n ∈ l) (s : State) :
    ∃ u, TouchesAxes {n}ᶜ s u ∧ (l.foldl f s).axis n = (f u n).axis n := by
  have others : ∀ (l : List (Fin 8)) (s : State), n ∉ l → (l.foldl f s).axis n = s.axis n := by
    intro l
    induction l with
    | nil => exact fun _ _ => rfl
    | cons a l ih =>
      intro s out
      obtain ⟨ne, out⟩ := not_or.mp (mt List.mem_cons.mpr out)
      exact (ih _ out).trans ((touches s a).2 n ne)
  induction l generalizing s with
  | nil => cases mem
  | cons a l ih =>
    obtain ⟨out, rest⟩ := List.nodup_cons.mp once
    by_cases h : n = a
    · subst h
      exact ⟨s, .refl _ s, others l _ out⟩
    · obtain ⟨u, before, eq⟩ := ih rest ((List.mem_cons.mp mem).resolve_left h) (f s a)
      exact ⟨u, ((touches s a).mono (by simpa using h)).trans before, eq⟩

theorem forAll_axis {f : State → Fin 8 → State} (touches : ∀ s n, TouchesAxes {n} s (f s n)) (s : State) (n : Fin 8) :
    ∃ u, TouchesAxes {n}ᶜ s u ∧ (forAll s f).axis n = (f u n).axis n :=
  foldl_axis touches (List.nodup_finRange 8) (List.mem_finRange n) s

/-! ### SAFE_STOP -/

/-- A stop that also holds its axis. -/
theorem State.heldStop_axis (s : State) (n : Fin 8) (cat : StopCat) (kind : StopKind) (cause : Nat) :
    let t := ((s.updAxis n fun a => { a with hold := true }).axisStop n cat kind cause).1
    TouchesAxes {n} s t ∧ (t.axis n).hold = true ∧ AxisStopped s t n cat kind cause := by
  refine ⟨(s.updAxis_touches n _).trans (State.axisStop_touches _ n _ _ _), ?_, ?_⟩
  · rw [State.axisStop_hold, State.updAxis_axis_self]
  · exact (State.axisStop_stops (s.updAxis n fun a => { a with hold := true }) n cat kind cause).of_eq rfl (by simp) (by simp)
      rfl

/-- What SAFE_STOP does to one axis (R314, R315). -/
def State.safeStopAxis (mask cat : Nat) (s : State) (n : Fin 8) : State :=
  if mask.testBit n.val ∧ (s.axis n).st ≠ .disabled then
    ((s.updAxis n fun a => { a with hold := true }).axisStop n (if cat = 3 then s.cfgStop n else stopCat cat) .safe 9).1
  else s

theorem State.safeStopMask_eq (s : State) (mask cat : Nat) : s.safeStopMask mask cat = forAll s (State.safeStopAxis mask cat) :=
  rfl

theorem State.safeStopAxis_touches (mask cat : Nat) (s : State) (n : Fin 8) :
    TouchesAxes {n} s (State.safeStopAxis mask cat s n) := by
  unfold State.safeStopAxis
  split
  · exact (s.heldStop_axis n _ _ _).1
  · exact .refl _ s

theorem State.safeStopMask_touches (s : State) (mask cat : Nat) : TouchesAxes Set.univ s (s.safeStopMask mask cat) :=
  TouchesAxes.foldl (fun s n => (State.safeStopAxis_touches mask cat s n).mono (Set.subset_univ _)) _ s

/-- SAFE_STOP stops and holds the axes of its mask that are not DISABLED, and leaves the others (R314, R315). -/
theorem State.safeStopMask_axis (s : State) (mask cat : Nat) (n : Fin 8) :
    let t := s.safeStopMask mask cat
    if mask.testBit n.val = true ∧ (s.axis n).st ≠ .disabled then
      (t.axis n).hold = true ∧ AxisStopped s t n (if cat = 3 then s.cfgStop n else stopCat cat) .safe 9
    else t.axis n = s.axis n := by
  obtain ⟨u, before, after⟩ := forAll_axis (State.safeStopAxis_touches mask cat) s n
  have same : u.axis n = s.axis n := before.2 n fun out => out rfl
  have category : u.cfgStop n = s.cfgStop n := by simp only [State.cfgStop, before.safety_eq]
  rw [← State.safeStopMask_eq, State.safeStopAxis, same, category] at after
  dsimp only
  split
  next stops =>
    rw [if_pos stops] at after
    obtain ⟨-, held, stopped⟩ := u.heldStop_axis n (if cat = 3 then s.cfgStop n else stopCat cat) .safe 9
    exact ⟨after ▸ held, stopped.of_eq before.now_eq (by rw [same]) (by rw [same]) after.symm⟩
  next misses => rw [after, if_neg misses, same]

/-- The state a SAFE_STOP replies from: its axes stopped, the command counted, EV_SAFE raised. -/
def State.safeStopped (s : State) (mask cat : Nat) : State :=
  let t := s.safeStopMask mask cat
  State.safeEvent { t with safety := { t.safety with safeStops := satInc 65535 t.safety.safeStops } } 3 mask

theorem doSafeStop_eq_reply (t : Ticket) (mask cat : Byte) (s : State) (fits : cat.toNat ≤ 3) :
    doSafeStop t mask cat s = (s.safeStopped mask.toNat cat.toNat).reply t stOk [] :=
  if_neg (by omega)

@[simp] theorem State.safeStopped_sessions (s : State) (mask cat : Nat) : (s.safeStopped mask cat).sessions = s.sessions := by
  rw [State.safeStopped, State.safeEvent_sessions]
  exact s.safeStopMask_sessions mask cat

@[simp] theorem State.safeStopped_axis (s : State) (mask cat : Nat) (n : Fin 8) :
    (s.safeStopped mask cat).axis n = (s.safeStopMask mask cat).axis n :=
  (State.raiseAll_touches _ _ _ _ _).2 n id

@[simp] theorem State.safeStopped_out (s : State) (mask cat : Nat) : (s.safeStopped mask cat).out = s.out :=
  (State.raiseAll_out _ _ _ _ _).trans (s.safeStopMask_touches mask cat).out_eq

theorem State.safeStopped_safety (s : State) (mask cat : Nat) :
    (s.safeStopped mask cat).safety = { s.safety with safeStops := satInc 65535 s.safety.safeStops } := by
  have same := (s.safeStopMask_touches mask cat).safety_eq
  simp only [State.safeStopped, State.safeEvent, State.raiseAll_safety, same]

theorem State.safeStopped_onlyMotion (s : State) (mask cat : Nat) : OnlyMotion s (s.safeStopped mask cat) := by
  have moved := (s.safeStopMask_touches mask cat).onlyMotion
  simpa [OnlyMotion, State.safeStopped, State.safeEvent] using moved

end Sys2Proof.Machine
end

section
/-! PROOFS. Commands outside a session (R87, R112, Table 6-4), and with them the safety commands of SFP. -/

namespace Sys2Proof.Machine

/-! ### Commands outside a session -/

/-- With no session the accepted state is the carried one: no sequence number is taken. -/
theorem State.accepted_outside {s : State} {h : Hdr} (noSession : (s.owner h.port).session = none) :
    s.accepted h = s.carried h.port := by
  have same : bankUpd (s.carried h.port).owners h.port (fun o => { o with session := o.session.map (·.took h.seq.toNat) }) =
      (s.carried h.port).owners := by
    refine bankUpd_id _ _ _ ?_
    have noSession : ((s.carried h.port).owners.get h.port).session = none := by rw [s.carried_owners]; exact noSession
    generalize (s.carried h.port).owners.get h.port = o at noSession
    cases o
    simp_all
  rw [State.accepted, State.updSession, State.updOwner, same]

theorem State.carried_freeCmd (s : State) (p q : Port) (c : Cmd) : (s.carried p).freeCmd q c = s.freeCmd q c := by
  unfold State.freeCmd
  rw [s.carried_boot]

theorem State.carried_out (s : State) (p : Port) : (s.carried p).out = s.out := by
  unfold State.carried; (repeat' split) <;> rfl

theorem State.carried_calm {s : State} {p : Port} (calm : s.calm = true) : (s.carried p).calm = true := by
  simpa only [State.calm, s.carried_owners] using calm

/-- A packet that its port does not take has no effect but to show the port alive (R62). -/
theorem serve_of_not_takes {s : State} {h : Hdr} {c : Cmd} (calm : s.calm = true)
    (off : (s.carried h.port).portTakes h.port = false) : s.serve h c = s.carried h.port := by
  have dropped : s.receive h c = (s.carried h.port, none) := by
    simp [State.receive, off]
  rw [State.serve, dropped]
  exact State.finish_calm (State.carried_calm calm)

/-- A command that its port takes, of a size and with a header in order, goes on to the checks from its session on. -/
theorem receive_eq_intake {s : State} {h : Hdr} {c : Cmd} (via : h.viaOk = true)
    (takes : (s.carried h.port).portTakes h.port = true) (size : 32 + payloadSize c ≤ s.maxPacket h.port)
    (wf : c.wf = true) (head : headFault h = none)
    (rec_ : h.port = 2 → s.boot.dev = .recovery → sfpInRecovery c = true) :
    s.receive h c = (s.carried h.port).intake (s.head h) c none := by
  have carriage : (s.head h).viaOk = true := by
    revert via; simp only [State.head, Hdr.viaOk, State.via]; cases h.via <;> simp
  have taken : ¬ (¬ (s.head h).viaOk = true ∨ ¬ (s.carried h.port).portTakes h.port = true ∨
      (h.port = 2 ∧ (s.carried h.port).boot.dev = .recovery ∧ ¬ sfpInRecovery c = true)) := by
    rw [State.carried_boot]
    tauto
  have inOrder : headFault (s.head h) = none := head
  unfold State.receive
  simp only [s.carried_via]
  rw [show ({ h with via := s.via h.via } : Hdr) = s.head h from rfl, if_neg taken, s.carried_maxPacket, if_neg (by omega),
    inOrder, wf]
  rfl

/-- The ticket of a command outside a session. -/
def State.freeTicket (s : State) (h : Hdr) (c : Cmd) : Ticket := ⟨s.head h, c.opcode, none⟩

/-- A command outside a session that passes every check acts on the carried state (Table 6-3). -/
theorem serve_acceptedFree {s : State} {h : Hdr} {c : Cmd} (ok : AcceptedFree s h c)
    (noSession : (s.owner h.port).session = none) :
    s.serve h c = (perform (s.freeTicket h c) c (s.carried h.port)).finish := by
  obtain ⟨via, takes, size, wf, head, free, enc, key, -, dev, may, addr, form, gate⟩ := ok
  have rec_ : h.port = 2 → s.boot.dev = .recovery → sfpInRecovery c = true := fun h2 hd =>
    sfpInRecovery_of_answered h2 (hd ▸ dev)
  have outside : (s.carried h.port).entry (s.head h) c = .outside := by
    simp [State.entry, State.head, s.carried_owner, s.carried_freeCmd, noSession, free, enc, key]
  rw [State.serve, receive_eq_intake via takes size wf head rec_, State.intake, outside]
  have late : (s.carried h.port).lateFault h.port c = none := by
    rw [← State.accepted_outside noSession, State.accepted_lateFault]
    exact (State.lateFault_eq_addrFault dev may).trans addr
  have form : (s.carried h.port).formFault ⟨s.head h, none, c, none, false⟩ = none := by
    rw [← State.accepted_outside noSession, State.accepted_formFault, form]
  have gate : (s.carried h.port).gate ⟨s.head h, none, c, none, false⟩ = none := by
    rw [← State.accepted_outside noSession, State.accepted_gate, gate]
  have shut : ¬ ((s.carried h.port).boot.dev = .shutdown ∧ ¬ inShutdown c = true) := by
    rw [State.carried_boot]
    exact not_shut dev
  have waits : (s.carried h.port).late (s.head h) c none none = (s.carried h.port, some ⟨s.head h, none, c, none, false⟩) := by
    have late : (s.carried h.port).lateFault (s.head h).port c = none := late
    simp [State.late, late, State.crowded]
  simp only [waits, Bool.false_eq_true, if_false, State.act, shut, form, gate]
  rfl

/-- A command that needs a session and comes outside one is answered E_NO_SESSION (R112). -/
theorem serve_noSession {s : State} {h : Hdr} {c : Cmd} (via : h.viaOk = true)
    (takes : (s.carried h.port).portTakes h.port = true) (size : 32 + payloadSize c ≤ s.maxPacket h.port)
    (wf : c.wf = true) (head : headFault h = none)
    (rec_ : h.port = 2 → s.boot.dev = .recovery → sfpInRecovery c = true)
    (noSession : (s.owner h.port).session = none) (needs : s.freeCmd h.port c = false) (calm : s.calm = true) :
    s.serve h c = (s.carried h.port).reply (s.freeTicket h c) eNoSession [] := by
  have refused : (s.carried h.port).entry (s.head h) c = .refuse eNoSession := by
    simp [State.entry, State.head, s.carried_owner, s.carried_freeCmd, noSession, needs]
  rw [State.serve, receive_eq_intake via takes size wf head rec_, State.intake, refused]
  exact State.finish_calm (reply_calm (t := s.freeTicket h c) (by decide) (State.carried_calm calm))

/-! ### SAFE_STOP and SAFE_STATUS, the commands SFP is answered in RECOVERY -/

section

variable {c : Cmd} (safety : sfpInRecovery c = true)
include safety

theorem safety_cases : (∃ mask cat, c = .safeStop mask cat) ∨ c = .safeStatus := by
  cases c with
  | safeStop mask cat => exact .inl ⟨mask, cat, rfl⟩
  | safeStatus => exact .inr rfl
  | _ => cases safety

theorem safety_refuses {d : DevState} (up : d ≠ .boot) : d.refuses 2 c = none := by
  rcases safety_cases safety with ⟨mask, cat, rfl⟩ | rfl <;>
    cases d with
    | boot => exact absurd rfl up
    | _ => rfl

theorem safety_freeCmd (s : State) : s.freeCmd 2 c = true := by
  rcases safety_cases safety with ⟨mask, cat, rfl⟩ | rfl <;> exact Bool.or_true _

theorem safety_size : payloadSize c ≤ 4 ∧ largestReply c ≤ 48 := by
  rcases safety_cases safety with ⟨mask, cat, rfl⟩ | rfl
  · exact ⟨show 4 ≤ 4 by decide, show 32 ≤ 48 by decide⟩
  · exact ⟨show 0 ≤ 4 by decide, show 48 ≤ 48 by decide⟩

theorem safety_resourceOk {h : Hdr} (cls : h.cls = 0) (idx : h.idx = 0) : resourceOk h c = true := by
  have whole : (h.cls.toNat == 0 && h.idx.toNat == 0) = true := by rw [cls, idx]; rfl
  rcases safety_cases safety with ⟨mask, cat, rfl⟩ | rfl <;> exact whole

theorem safety_testHolds (s : State) (p : Port) : s.testHolds p c = false := by
  have off : ∀ x y z : Bool, ((x && false) || (y && false) || (z && false)) = false := by decide
  rcases safety_cases safety with ⟨mask, cat, rfl⟩ | rfl <;> exact off _ _ _

/-- Step 13 lets them pass: they need no lease, wait for no loss action and use no unit under test. -/
theorem safety_gate (s : State) {a : Arrival} (cmd : a.cmd = c) (buffer : bufferShort a = false) : s.gate a = none := by
  have holds := safety_testHolds safety s a.hdr.port
  have free : s.needsLease a.hdr c = false ∧ waitsLoss a.hdr c = false := by
    rcases safety_cases safety with ⟨mask, cat, rfl⟩ | rfl <;> exact ⟨rfl, rfl⟩
  simp [State.gate, cmd, buffer, holds, free]

end

/-! ### SFP outside a session -/

/-- What SFP sends under the zero key while owner 3 has no session and its port is up. -/
structure SfpOutside (s : State) (h : Hdr) : Prop where
  port : h.port = 2
  via : h.via = .sfp
  head : headFault h = none
  cls : h.cls = 0
  idx : h.idx = 0
  enc : h.enc = false
  key : h.key = .zeroKey
  session : (s.owner 2).session = none
  calm : s.calm = true
  untested : s.underTest 5 = false
  released : s.boot.step ≠ .held

namespace SfpOutside

variable {s : State} {h : Hdr} (sfp : SfpOutside s h)
include sfp

theorem head_eq : s.head h = h := by simp only [State.head, State.via, sfp.via]; rw [← sfp.via]

theorem viaOk : h.viaOk = true := by simp [Hdr.viaOk, sfp.via, sfp.port]

theorem portTakes_iff : (s.carried h.port).portTakes h.port = true ↔ s.boot.dev ≠ .boot := by
  have tested : (s.carried 2).portTested 2 = false := by
    simpa [State.portTested, portUnit, State.underTest] using sfp.untested
  simp [sfp.port, State.portTakes, tested, sfp.released, State.portClocked]

theorem session_eq : (s.owner h.port).session = none := sfp.port ▸ sfp.session

/-- The reply goes out on SFP. -/
theorem reply_out (u : State) (c : Cmd) (e : Nat) (b : Bytes) :
    (u.reply (s.freeTicket h c) e b).out = u.out ++ [.reply 2 .sfp (replyPacket h c.opcode e b none false) .spi] := by
  have counted : (u.countStatus 2 e).portDead 2 = false := by simp [State.portDead, State.portClocked]
  have out : (u.countStatus 2 e).out = u.out := by unfold State.countStatus; (repeat' split) <;> rfl
  simp [State.reply, State.freeTicket, sfp.head_eq, State.plainReply, State.transmit, sfp.port, sfp.via, sfp.enc, counted, out,
    State.leg]

theorem acceptedFree {c : Cmd} (safety : sfpInRecovery c = true) (up : s.boot.dev ≠ .boot) : AcceptedFree s h c := by
  have ⟨size, reply⟩ := safety_size safety
  have limit : s.maxPacket h.port = 6912 := by rw [sfp.port]; rfl
  have own : c.wf = true ∧ s.ownerMay h.port c = true ∧ s.addrFault h.port c = none := by
    rw [sfp.port]
    rcases safety_cases safety with ⟨mask, cat, rfl⟩ | rfl <;> exact ⟨rfl, rfl, rfl⟩
  obtain ⟨wf, may, addr⟩ := own
  have form : s.formFault ⟨s.head h, none, c, none, false⟩ = none := by
    have fits : ¬ 6912 < largestReply c := by omega
    simp [State.formFault, sfp.head_eq, safety_resourceOk safety sfp.cls sfp.idx, limit, fits]
  have gate : s.gate ⟨s.head h, none, c, none, false⟩ = none :=
    safety_gate safety s rfl (by simp only [bufferShort, sfp.head_eq, sfp.via])
  exact ⟨sfp.viaOk, sfp.portTakes_iff.mpr up, by omega, wf, sfp.head, sfp.port ▸ safety_freeCmd safety s, sfp.enc, sfp.key,
    sfp.calm, sfp.port ▸ safety_refuses safety up, may, addr, form, gate⟩

/-- In BOOT nothing is answered and nothing acts (R62). -/
theorem serve_boot (c : Cmd) (boot : s.boot.dev = .boot) : s.serve h c = s.carried h.port :=
  serve_of_not_takes sfp.calm (Bool.eq_false_iff.mpr fun takes => sfp.portTakes_iff.mp takes boot)

/-- Out of BOOT a safety command acts and its reply ends it. -/
theorem serve_safety {c : Cmd} (safety : sfpInRecovery c = true) (up : s.boot.dev ≠ .boot) {u : State} {b : Bytes}
    (effect : perform (s.freeTicket h c) c (s.carried h.port) = u.reply (s.freeTicket h c) stOk b)
    (sessions : u.sessions = (s.carried h.port).sessions) : s.serve h c = u.reply (s.freeTicket h c) stOk b := by
  have calm : u.calm = true := State.calm_of_sessions sessions (State.carried_calm sfp.calm)
  rw [serve_acceptedFree (sfp.acceptedFree safety up) sfp.session_eq, effect, State.finish_calm (reply_calm uncounted_ok calm)]

/-- SAFE_RELEASE outside a session is answered E_NO_SESSION in EARLY and FULL (R112). -/
theorem serve_safeRelease (mask : Byte) (dev : s.boot.dev = .early ∨ s.boot.dev = .full) :
    s.serve h (.safeRelease mask) =
      (s.carried h.port).reply (s.freeTicket h (.safeRelease mask)) eNoSession [] := by
  have up : s.boot.dev ≠ .boot := by rcases dev with d | d <;> simp [d]
  have size : 32 + payloadSize (.safeRelease mask) ≤ s.maxPacket h.port := by
    rw [sfp.port]
    exact show 36 ≤ 6912 by decide
  have needs : s.freeCmd h.port (.safeRelease mask) = false := by
    have : s.boot.dev.sessionless = false := by rcases dev with d | d <;> rw [d] <;> rfl
    exact (Bool.or_false _).trans this
  have rec_ : h.port = 2 → s.boot.dev = .recovery → sfpInRecovery (.safeRelease mask) = true := fun _ recovery => by
    rcases dev with d | d <;> cases d.symm.trans recovery
  exact serve_noSession sfp.viaOk (sfp.portTakes_iff.mpr up) size rfl sfp.head rec_ sfp.session_eq needs sfp.calm

end SfpOutside

/-- `OnlyMotion` says nothing of what a reply changes, or of the sign that a port is alive. -/
theorem onlyMotion_carried_reply {s u : State} {p : Port} (moved : OnlyMotion (s.carried p) u) (t : Ticket) (e : Nat)
    (b : Bytes) : OnlyMotion s (u.reply t e b) := by
  simpa [OnlyMotion] using moved

theorem doSafeStatus_carried (s : State) (p : Port) (t : Ticket) :
    doSafeStatus t (s.carried p) = (s.carried p).reply t stOk (le 1 s.holdMask ++ le 1 s.stoppedMask ++ le 1 s.safeFlags
      ++ zeros 1 ++ le 2 s.safety.falls ++ le 2 s.safety.safeStops ++ le 2 s.safety.stopResp ++ zeros 6) := by
  have stopN : (s.carried p).net.stopN = s.net.stopN := by unfold State.carried; (repeat' split) <;> rfl
  simp only [doSafeStatus, State.holdMask, State.stoppedMask, State.safeFlags, State.axis, State.carried_axes,
    State.carried_safety, stopN]

/-- SAFE_STOP of SFP outside a session, out of BOOT. -/
theorem SfpOutside.serve_safeStop {s : State} {h : Hdr} (sfp : SfpOutside s h) (up : s.boot.dev ≠ .boot) {mask cat : Byte}
    (fits : cat.toNat ≤ 3) : s.serve h (.safeStop mask cat) =
      ((s.carried h.port).safeStopped mask.toNat cat.toNat).reply (s.freeTicket h (.safeStop mask cat)) stOk [] :=
  sfp.serve_safety rfl up (doSafeStop_eq_reply _ mask cat _ fits) (State.safeStopped_sessions _ _ _)

/-- SAFE_STATUS of SFP outside a session, out of BOOT. -/
theorem SfpOutside.serve_safeStatus {s : State} {h : Hdr} (sfp : SfpOutside s h) (up : s.boot.dev ≠ .boot) :
    s.serve h .safeStatus = (s.carried h.port).reply (s.freeTicket h .safeStatus) stOk
      (le 1 s.holdMask ++ le 1 s.stoppedMask ++ le 1 s.safeFlags ++ zeros 1 ++ le 2 s.safety.falls
        ++ le 2 s.safety.safeStops ++ le 2 s.safety.stopResp ++ zeros 6) :=
  sfp.serve_safety rfl up (doSafeStatus_carried s h.port _) rfl

/-- The axes as a safe stop of the carried state leaves them. -/
theorem carried_safeStopMask_axis (s : State) (p : Port) (mask cat : Byte) (n : Fin 8) {t : State}
    (after : t.axis n = ((s.carried p).safeStopMask mask.toNat cat.toNat).axis n) :
    if mask.toNat.testBit n.val = true ∧ (s.axis n).st ≠ .disabled then
      (t.axis n).hold = true ∧ AxisStopped s t n (if cat = 3 then s.cfgStop n else stopCat cat.toNat) .safe 9
    else t.axis n = s.axis n := by
  have same : (s.carried p).axis n = s.axis n := by simp only [State.axis, State.carried_axes]
  have category : (s.carried p).cfgStop n = s.cfgStop n := by simp only [State.cfgStop, State.carried_safety]
  have three : (cat = 3) = (cat.toNat = 3) := propext (BitVec.toNat_inj (y := 3#8)).symm
  have stops := (s.carried p).safeStopMask_axis mask.toNat cat.toNat n
  simp only [same, category, ← after] at stops
  simp only [three]
  split
  next hit =>
    rw [if_pos hit] at stops
    exact ⟨stops.1, stops.2.of_eq (s.carried_now p) (by rw [same]) (by rw [same]) after.symm⟩
  next miss => rwa [if_neg miss] at stops

/-- Settles O29: outside a session the three commands come to the effect of SAFE_STOP, of SAFE_STATUS and to E_NO_SESSION. -/
theorem safetyOutsideSession : Obligations.SafetyOutsideSession := by
  intro s h port via head cls idx enc key session calm untested released said
  have sfp : SfpOutside s h := ⟨port, via, head, cls, idx, enc, key, session, calm, untested, released⟩
  refine ⟨?stop, ?status, ?release⟩
  case stop =>
    intro mask cat fits
    refine ⟨_, rfl, ?_⟩
    split
    next boot =>
      rw [sfp.serve_boot _ boot]
      exact ⟨s.carried_out _, s.carried_axes _⟩
    next up =>
      rw [sfp.serve_safeStop up fits]
      refine ⟨?_, ?_, ?_, fun n => ?_⟩
      · exact (sfp.reply_out _ _ _ _).trans (by rw [State.safeStopped_out, s.carried_out]; rfl)
      · rw [State.reply_safety, State.safeStopped_safety, s.carried_safety]
      · exact onlyMotion_carried_reply (State.safeStopped_onlyMotion _ _ _) _ _ _
      · refine carried_safeStopMask_axis s h.port mask cat n ?_
        rw [State.axis, State.reply_axes]
        exact State.safeStopped_axis _ _ _ n
  case status =>
    refine ⟨_, rfl, ?_⟩
    split
    next boot =>
      rw [sfp.serve_boot _ boot]
      exact s.carried_out _
    next up =>
      rw [sfp.serve_safeStatus up]
      exact (sfp.reply_out _ _ _ _).trans (by rw [s.carried_out]; rfl)
  case release =>
    intro mask dev
    refine ⟨_, rfl, ?_⟩
    rw [sfp.serve_safeRelease mask dev]
    refine ⟨(sfp.reply_out _ _ _ _).trans (by rw [s.carried_out]; rfl), ?_, ?_⟩
    · rw [State.reply_axes, s.carried_axes]
    · rw [State.reply_safety, s.carried_safety]

end Sys2Proof.Machine
end

section
/-! PROOFS. A refusal with E_AUTH, which its sender's owner counts (Table 6-9), and with it the KEY_ID of OPEN_SESSION (R167). -/

namespace Sys2Proof.Machine

/-! ### What a reply under the zero key leaves of the owners -/

theorem State.signal_owners (s : State) (v : Fin 64) : (s.signal v).owners = s.owners := by
  unfold State.signal; split <;> rfl

theorem State.complete_owners (s : State) (i n a : Nat) (d : Bool) : (s.complete i n a d).owners = s.owners := by
  unfold State.complete
  split
  · rw [State.signal_owners]
  · rfl

theorem State.forgo_owners (s : State) (v : Carriage) : (s.forgo v).owners = s.owners := by
  unfold State.forgo; (repeat' split) <;> rfl

/-- Sending a packet changes no owner. -/
theorem State.transmit_owners (s : State) (p : Port) (v : Carriage) (k : Packet) : (s.transmit p v k).owners = s.owners := by
  unfold State.transmit
  split
  · exact s.forgo_owners v
  · split
    · split
      · exact State.complete_owners _ _ _ _ _
      · rfl
    · split <;> rfl
    · rfl
    · rfl

theorem State.updOwner_sessions (s : State) (p : Port) (f : OwnerState → OwnerState) (keeps : ∀ o, (f o).session = o.session) :
    (s.updOwner p f).sessions = s.sessions :=
  bankUpd_map_same _ _ _ _ fun o => by rw [keeps]

theorem State.countStatus_sessions (s : State) (p : Port) (e : Nat) : (s.countStatus p e).sessions = s.sessions := by
  unfold State.countStatus
  split
  · exact s.updOwner_sessions p _ fun _ => rfl
  · split
    · exact s.updOwner_sessions p _ fun _ => rfl
    · (repeat' split) <;> rfl

/-- A reply under the zero key changes no session, whatever its status. -/
theorem State.plainReply_sessions (s : State) (h : Hdr) (op e : Nat) (b : Bytes) :
    (s.plainReply h op e b).sessions = s.sessions :=
  (State.sessions_of_owners (State.transmit_owners _ _ _ _)).trans (s.countStatus_sessions _ _)

/-- A refusal with E_AUTH is counted, and changes nothing else of the sender's owner. -/
theorem State.plainReply_eAuth_owner (s : State) (h : Hdr) (op : Nat) (b : Bytes) :
    (s.plainReply h op eAuth b).owner h.port =
      { s.owner h.port with cntAuth := satInc 65535 (s.owner h.port).cntAuth } := by
  rw [State.plainReply, State.owner, State.transmit_owners, State.countStatus, if_pos rfl, State.updOwner_owners,
    bankUpd_get_self]
  rfl

theorem State.portClocked_of_takes {s : State} {p : Port} (takes : s.portTakes p = true) : s.portClocked p = true := by
  simp only [State.portTakes, Bool.and_eq_true] at takes
  exact takes.1.2

/-- On MNT, its clock running, a reply under the zero key goes out as a line. -/
theorem State.plainReply_mnt_out {s : State} {h : Hdr} (port : h.port = 3) (via : h.via = .mnt)
    (clocked : s.portClocked 3 = true) (op e : Nat) (b : Bytes) :
    (s.plainReply h op e b).out = s.out ++ [mntReply (replyPacket h op e b none h.enc)] := by
  have live : (s.countStatus 3 e).portDead 3 = false := by
    have clocked : (s.countStatus 3 e).portClocked 3 = true := by rwa [State.portClocked, State.countStatus_fabric]
    simp [State.portDead, clocked]
  have out : (s.countStatus 3 e).out = s.out := by unfold State.countStatus; (repeat' split) <;> rfl
  simp [State.plainReply, State.transmit, port, via, live, out, State.leg, mntReply]

/-! ### OPEN_SESSION under a KEY_ID that names no key -/

/-- R167: a KEY_ID of another owner, with bits above the owner's, of a slot that does not exist or of an empty one names no key. -/
theorem State.namedKey_eq_none {s : State} {p : Port} {id : Nat}
    (wrong : id / 256 % 256 ≠ Port.id p ∨ id / 65536 ≠ 0 ∨ 4 ≤ id % 256 ∨
      (s.keys.enrolled.get p).get (Fin.ofNat 4 (id % 256)) = none) : s.namedKey p id = none := by
  unfold State.namedKey
  split
  next named =>
    obtain ⟨owner, slot⟩ := named
    have small : Port.id p ≤ 4 := p.isLt
    rcases wrong with other | high | beyond | empty
    · omega
    · omega
    · omega
    · exact empty
  next => rfl

/-- The state with the challenge of an owner used up. -/
def State.unchallenged (s : State) (p : Port) : State := s.updOwner p fun o => { o with challenge := none }

theorem State.unchallenged_owner (s : State) (p : Port) :
    (s.unchallenged p).owner p = { s.owner p with challenge := none } := by
  rw [State.unchallenged, State.owner, State.updOwner_owners, bankUpd_get_self]
  rfl

theorem State.unchallenged_sessions (s : State) (p : Port) : (s.unchallenged p).sessions = s.sessions :=
  s.updOwner_sessions p _ fun _ => rfl

/-- With the keys in, OPEN_SESSION under a KEY_ID that names no key uses the challenge up and is refused (R114, R167). -/
theorem doOpenSession_of_namedKey_none {t : Ticket} {q : OpenP} {s : State} (keysIn : s.keys.keysOut = false)
    (noKey : s.namedKey t.hdr.port q.keyId.toNat = none) :
    doOpenSession t q s = (s.unchallenged t.hdr.port).reply t eAuth [] := by
  simp [doOpenSession, keysIn, noKey, State.unchallenged]

/-- Outside a session such an OPEN_SESSION comes to the refusal alone, the challenge used up. -/
theorem serve_openSession_of_namedKey_none {s : State} {h : Hdr} {q : OpenP} (ok : AcceptedFree s h (.openSession q))
    (keysIn : s.keys.keysOut = false) (noSession : (s.owner h.port).session = none)
    (noKey : s.namedKey h.port q.keyId.toNat = none) :
    s.serve h (.openSession q) =
      ((s.carried h.port).unchallenged h.port).plainReply (s.head h) 0x02 eAuth [] := by
  have ⟨_, _, _, _, _, _, _, _, calm, _⟩ := ok
  have keys : (s.carried h.port).keys = s.keys := s.carried_keys _
  have noKey : (s.carried h.port).namedKey h.port q.keyId.toNat = none := by
    rwa [State.namedKey, keys, ← State.namedKey]
  rw [serve_acceptedFree ok noSession, perform, doOpenSession_of_namedKey_none (keys ▸ keysIn) noKey]
  refine State.finish_calm (State.calm_of_sessions ?_ (State.carried_calm (p := h.port) calm))
  exact (State.plainReply_sessions _ _ _ _ _).trans (State.unchallenged_sessions _ _)

/-- OPEN_SESSION acts in its place unless an enrolment completes in its tick (Table 8-5). -/
theorem exec_openSession_of_not_enrolComes {s : State} (h : Hdr) (q : OpenP) (alone : s.enrolComes = false) :
    exec (.openSession h q) s = .next (s.serve h (.openSession q)) := by
  have row : exec (.openSession h q) s = execOpenSession h q s := rfl
  simp [row, execOpenSession, alone]

/-- Settles O5: the KEY_ID names no key, so OPEN_SESSION comes to the refusal alone, the challenge used up. -/
theorem openSessionKeyId : Obligations.OpenSessionKeyId := by
  intro s h q ok alone keysIn noSession wrong
  have ⟨viaOk, takes, _, _, _, _, enc, _⟩ := ok
  refine ⟨_, exec_openSession_of_not_enrolComes h q alone, ?_⟩
  rw [serve_openSession_of_namedKey_none ok keysIn noSession (State.namedKey_eq_none wrong)]
  have refused : (((s.carried h.port).unchallenged h.port).plainReply (s.head h) 0x02 eAuth []).owner h.port =
      { s.owner h.port with challenge := none, cntAuth := satInc 65535 (s.owner h.port).cntAuth } := by
    have counted := ((s.carried h.port).unchallenged h.port).plainReply_eAuth_owner (s.head h) 0x02 []
    rwa [show (s.head h).port = h.port from rfl, State.unchallenged_owner, s.carried_owner] at counted
  rw [refused]
  refine ⟨noSession, rfl, rfl, fun mnt => ?_, ?_⟩
  · have port : h.port = 3 := by simpa [Hdr.viaOk, mnt] using viaOk
    have clocked : ((s.carried h.port).unchallenged h.port).portClocked 3 = true := State.portClocked_of_takes (port ▸ takes)
    have carriage : (s.head h).via = .mnt := by simp only [State.head, State.via, mnt]
    refine (State.plainReply_mnt_out (h := s.head h) port carriage clocked _ _ _).trans ?_
    rw [State.unchallenged, State.updOwner_out, s.carried_out, show (s.head h).enc = false from enc]
    rfl
  · rw [State.plainReply_serial, State.unchallenged, State.updOwner_serial, State.carried_serial]

end Sys2Proof.Machine
end

section
/-! PROOFS. An attempt that completes and the end of its job (R206): what they leave of the jobs, and the signal at DONE that
saturates its token (R207). -/

namespace Sys2Proof.Machine

/-! ### What leaves the jobs alone -/

theorem foldl_jobs {α : Type} {f : State → α → State} (keeps : ∀ s a, (f s a).jobs = s.jobs) (l : List α) (s : State) :
    (l.foldl f s).jobs = s.jobs :=
  List.foldlRecOn l f (motive := fun t => t.jobs = s.jobs) rfl fun t same a _ => (keeps t a).trans same

@[simp] theorem State.updCores_jobs (s : State) (f : Cores → Cores) : (s.updCores f).jobs = s.jobs := rfl

@[simp] theorem State.idleCores_jobs (s : State) (o : Option (Fin 64)) (cs : List (Fin 32)) :
    (s.idleCores o cs).jobs = s.jobs := foldl_jobs (fun _ _ => by rfl) cs s

@[simp] theorem State.writeRange_jobs (s : State) (r : Region) (key off : Nat) (bs : Bytes) :
    (s.writeRange r key off bs).jobs = s.jobs := foldl_jobs (fun _ _ => by rfl) _ s

@[simp] theorem State.writeOutputs_jobs (s : State) (j : Job) (r : RunRes) : (s.writeOutputs j r).jobs = s.jobs := by
  refine foldl_jobs (fun u b => ?_) _ s
  dsimp only
  split
  · exact u.writeRange_jobs _ _ _ _
  · rfl

@[simp] theorem State.freeFrames_jobs (s : State) (t : Fin 64) : (s.freeFrames t).jobs = s.jobs :=
  foldl_jobs (fun _ _ => by rfl) _ s

/-! ### The job of a tag -/

theorem State.job_of_jobs {s t : State} (same : t.jobs = s.jobs) (tag : Fin 64) : t.job tag = s.job tag := by
  rw [State.job, same, ← State.job]

@[simp] theorem State.updJob_job (s : State) (t : Fin 64) (f : Job → Job) : (s.updJob t f).job t = (s.job t).map f :=
  bankUpd_get_self _ _ _

@[simp] theorem State.releaseAttempt_job (s : State) (t : Fin 64) : (s.releaseAttempt t).job t = (s.job t).map Job.release :=
  s.updJob_job t _

/-- From `s` to `t` the tokens and the count of the saturated signals stand. -/
def SameTokens (s t : State) : Prop := t.jobs.tokens = s.jobs.tokens ∧ t.jobs.tokenOvf = s.jobs.tokenOvf

theorem SameTokens.of_jobs {s t : State} (same : t.jobs = s.jobs) : SameTokens s t := ⟨by rw [same], by rw [same]⟩

theorem SameTokens.trans {s t u : State} (h : SameTokens s t) (k : SameTokens t u) : SameTokens s u :=
  ⟨k.1.trans h.1, k.2.trans h.2⟩

/-! ### The end of a job -/

theorem State.freeTag_jobs (s : State) (t : Fin 64) :
    ∃ l, (s.freeTag t).jobs = { s.jobs with tags := bankSet s.jobs.tags t none, stopping := l } := by
  unfold State.freeTag
  split
  · exact ⟨_, rfl⟩
  · split
    · exact ⟨_, rfl⟩
    · exact ⟨_, foldl_jobs (fun _ _ => by rfl) _ _⟩

theorem State.freeTag_tokens (s : State) (t : Fin 64) : SameTokens s (s.freeTag t) := by
  obtain ⟨_, jobs⟩ := s.freeTag_jobs t
  rw [SameTokens, jobs]
  exact ⟨rfl, rfl⟩

theorem State.freeTag_job (s : State) (t : Fin 64) : (s.freeTag t).job t = none := by
  obtain ⟨_, jobs⟩ := s.freeTag_jobs t
  rw [State.job, jobs, bankSet_get_self]

/-- A job as its end leaves it. -/
abbrev Job.endedAs (st : JobSt) (final : Nat) (at_ : Time96) (j : Job) : Job := { j with st := st, final := final, end_ := at_ }

/-- The end of a job leaves it ended and no token touched; under AUTO_RELEASE its tag is then freed. -/
theorem State.endJob_eq_freeTag {s : State} {t : Fin 64} {j : Job} (here : s.job t = some j) (st : JobSt) (final : Nat) :
    ∃ u, s.endJob t st final = (if j.autoRelease then u.freeTag t else u) ∧ SameTokens s u ∧
      u.job t = some (j.endedAs st final s.devTime) := by
  have jobs := (s.updJob t (Job.endedAs st final s.devTime)).freeFrames_jobs t
  have ended := State.job_of_jobs jobs t
  rw [State.updJob_job, here, Option.map_some] at ended
  have tokens : SameTokens s ((s.updJob t (Job.endedAs st final s.devTime)).freeFrames t) :=
    .trans (t := s.updJob t _) ⟨rfl, rfl⟩ (.of_jobs jobs)
  unfold State.endJob
  generalize (s.updJob t (Job.endedAs st final s.devTime)).freeFrames t = u at ended tokens ⊢
  simp only [ended]
  exact ⟨_, rfl, tokens.trans ⟨rfl, rfl⟩, ended⟩

theorem State.endJob_tokens {s : State} {t : Fin 64} {j : Job} (here : s.job t = some j) (st : JobSt) (final : Nat) :
    SameTokens s (s.endJob t st final) := by
  obtain ⟨u, endsAs, tokens, -⟩ := State.endJob_eq_freeTag here st final
  rw [endsAs]
  split
  · exact tokens.trans (u.freeTag_tokens t)
  · exact tokens

theorem State.endJob_job {s : State} {t : Fin 64} {j : Job} (here : s.job t = some j) (st : JobSt) (final : Nat) :
    (s.endJob t st final).job t = if j.autoRelease = true then none else some (j.endedAs st final s.devTime) := by
  obtain ⟨u, endsAs, -, ended⟩ := State.endJob_eq_freeTag here st final
  rw [endsAs]
  split
  · exact u.freeTag_job t
  · exact ended

/-! ### An attempt that completes -/

/-- TOKEN_OVF counts a signal. -/
def State.countSaturated (s : State) : State := s.updJobs fun y => { y with tokenOvf := satInc 65535 y.tokenOvf }

@[simp] theorem State.countSaturated_tokens (s : State) : s.countSaturated.jobs.tokens = s.jobs.tokens := rfl

@[simp] theorem State.countSaturated_tokenOvf (s : State) :
    s.countSaturated.jobs.tokenOvf = satInc 65535 s.jobs.tokenOvf := rfl

/-- The signal of SIGNAL_TOKEN at DONE, counted where it saturates. -/
def State.signalAtDone (s : State) : Option Nat → State
  | some id => if (s.signalToken id).2 then (s.signalToken id).1.countSaturated else (s.signalToken id).1
  | none => s

/-- R207: a token at the largest count stays there, and the signal is counted. -/
theorem State.signalAtDone_of_full {s : State} {id : Nat} {k : Token}
    (token : s.jobs.tokens.find? (fun x => x.id == id) = some k) (full : tokenMax ≤ k.count) :
    s.signalAtDone (some id) = s.countSaturated := by
  have saturates : s.signalToken id = (s, true) := by simp [State.signalToken, token, Nat.not_lt.mpr full]
  simp [State.signalAtDone, saturates]

/-- What the graph of an attempt computes from its inputs. -/
def State.runResult (s : State) (tag : Fin 64) (j : Job) : RunRes := runGraph j.graph (s.runEnv tag j) (s.inputBytes j)

/-- The state with the results of a run in place: outputs, log and counts. -/
def State.placedResults (s : State) (tag : Fin 64) (j : Job) : State :=
  let r := s.runResult tag j
  let s1 := ((s.writeOutputs j r).logAttempt tag j.attempt 0xF).updCores fun c =>
    { c with cntSat := satAdd 65535 c.cntSat r.sat, cntNonfin := satAdd 65535 c.cntNonfin r.nonfin }
  let ports := (j.delivered.map fun d => 2 ^ d.port.val).sum
  { s1 with headbox := { s1.headbox with
    radDrop := satAdd 65535 s1.headbox.radDrop r.radDrop,
    ingest := bankSet s1.headbox.ingest tag (r.sites % 2 ^ 23 + bitAt 23 r.capHit + ports * 2 ^ 24),
    sparse := bankSet s1.headbox.sparse tag (r.firstCapped + r.cappedLayers * 65536) } }

theorem State.placedResults_jobs (s : State) (tag : Fin 64) (j : Job) :
    (s.placedResults tag j).jobs = (s.logAttempt tag j.attempt 0xF).jobs := by
  simp [State.placedResults, State.logAttempt]

@[simp] theorem State.placedResults_job (s : State) (tag : Fin 64) (j : Job) : (s.placedResults tag j).job tag = s.job tag :=
  State.job_of_jobs (s.placedResults_jobs tag j) tag

/-- A job whose attempt completed with a result. -/
def Job.completed (r : RunRes) (j : Job) : Job := { j with flags := Nat.lor j.flags r.flags, results := r.results, st := .done }

/-- All that an attempt does before it signals: its results in place, its cores, broke and tokens returned. -/
def State.ranAttempt (s : State) (tag : Fin 64) (j : Job) : State :=
  (((s.placedResults tag j).idleCores (some tag) j.cores).releaseAttempt tag).updJob tag
    (Job.completed (s.runResult tag j))

/-- A run touches no token. -/
theorem State.ranAttempt_tokens (s : State) (tag : Fin 64) (j : Job) : SameTokens s (s.ranAttempt tag j) := by
  have logged : SameTokens s (s.logAttempt tag j.attempt 0xF) := ⟨rfl, rfl⟩
  have placed : SameTokens s ((s.placedResults tag j).idleCores (some tag) j.cores) :=
    logged.trans (.of_jobs ((State.idleCores_jobs _ _ _).trans (s.placedResults_jobs tag j)))
  exact placed.trans ⟨rfl, rfl⟩

/-- A run keeps its job, with the results, and what the attempt held returned. -/
theorem State.ranAttempt_job {s : State} {tag : Fin 64} {j : Job} (here : s.job tag = some j) :
    (s.ranAttempt tag j).job tag = some (j.release.completed (s.runResult tag j)) := by
  have placed : ((s.placedResults tag j).idleCores (some tag) j.cores).job tag = some j := by
    rw [State.job_of_jobs (State.idleCores_jobs _ _ _), State.placedResults_job, here]
  rw [State.ranAttempt, State.updJob_job, State.releaseAttempt_job, placed, Option.map_some, Option.map_some]

/-- An attempt with sound inputs on running cores runs, then signals, and ends its job DONE. -/
theorem State.completeAttempt_of_sound {s : State} {tag : Fin 64} {j : Job} (here : s.job tag = some j)
    (running : j.st = .running) (unhalted : ∀ c ∈ j.cores, s.fabric.dbgHalt.get c = false) (sound : s.badInput j = none) :
    s.completeAttempt tag = ((s.ranAttempt tag j).signalAtDone j.signalToken).endJob tag .done stOk := by
  have goes : ¬ (j.st ≠ .running ∨ j.cores.any (fun c => s.fabric.dbgHalt.get c) = true) := by simpa [running] using unhalted
  rw [State.completeAttempt, here]
  refine (if_neg goes).trans ?_
  rw [sound]
  rfl

/-- ATTEMPT_COMPLETE acts in its place unless a fault of the attempt stands in its tick (Table 10-5). -/
theorem exec_attemptComplete_of_not_faultComes {s : State} {tag : Fin 64} (alone : s.faultComes tag = false) :
    exec (.attemptComplete tag) s = .next (s.completeAttempt tag) := by
  have row : exec (.attemptComplete tag) s = execAttemptComplete tag s := rfl
  simp [row, execAttemptComplete, alone]

/-- Settles O12: the run reaches the signal with its tokens as they were, where it saturates; the end of the job follows. -/
theorem signalAtDoneSaturates : Obligations.SignalAtDoneSaturates := by
  intro s tag j id k here running unhalted sound alone names token full
  have ran : (s.ranAttempt tag j).countSaturated.job tag = some (j.release.completed (s.runResult tag j)) :=
    State.ranAttempt_job here
  have ⟨tokens, ovf⟩ := s.ranAttempt_tokens tag j
  have ⟨endTokens, endOvf⟩ := State.endJob_tokens ran .done stOk
  have saturated : (s.ranAttempt tag j).signalAtDone j.signalToken = (s.ranAttempt tag j).countSaturated := by
    rw [names, State.signalAtDone_of_full (tokens ▸ token) full.ge]
  refine ⟨_, exec_attemptComplete_of_not_faultComes alone, ?_⟩
  rw [State.completeAttempt_of_sound here running unhalted sound, saturated]
  refine ⟨?count, ?counted, ?ended⟩
  case count =>
    rw [State.tokenCount, endTokens, State.countSaturated_tokens, tokens, token, Option.map_some, Option.getD_some, full]
  case counted =>
    rw [endOvf, State.countSaturated_tokenOvf, ovf]
  case ended =>
    rw [State.endJob_job ran]
    by_cases auto_ : j.autoRelease = true
    · rw [if_pos auto_]
      exact if_pos auto_
    · rw [if_neg auto_]
      exact ⟨_, if_neg auto_, rfl, rfl⟩

end Sys2Proof.Machine
end

section
/-! PROOFS. The payload the tables lay out for a command reads back as that command (Tables 7-1 to 7-12, R130). -/

namespace Sys2Proof.Machine

/-! ### Numbers read back from their bytes -/

theorem ofLe_le (n w : Nat) : ofLe (le n w) = w % 256 ^ n := by
  induction n generalizing w with
  | zero => simp [le, ofLe, Nat.mod_one]
  | succ n ih =>
    have parts : w % 256 ^ (n + 1) = w % 256 + 256 * (w / 256 % 256 ^ n) := by rw [Nat.pow_succ', Nat.mod_mul]
    simp [le, ofLe, ih, parts]

theorem ofLe_le_of_lt {n w : Nat} (fits : w < 256 ^ n) : ofLe (le n w) = w := by rw [ofLe_le, Nat.mod_eq_of_lt fits]

/-! ### A field at the front of a payload -/

theorem at_of_front {f : Bytes} {n : Nat} (len : f.length = n) (r : Bytes) : at_ (f ++ r) 0 n = ofLe f := by
  rw [at_, List.drop_zero, List.take_left' len]

theorem at_of_rest {f : Bytes} {k o : Nat} (len : f.length = k) (past : k ≤ o) (r : Bytes) (n : Nat) :
    at_ (f ++ r) o n = at_ r (o - k) n := by
  rw [at_, at_, List.drop_append, List.drop_of_length_le (by omega), len, List.nil_append]

theorem slice_of_front {f : Bytes} {n : Nat} (len : f.length = n) (r : Bytes) : slice (f ++ r) 0 n = f := by
  rw [slice, List.drop_zero, List.take_left' len]

theorem slice_of_rest {f : Bytes} {k o : Nat} (len : f.length = k) (past : k ≤ o) (r : Bytes) (n : Nat) :
    slice (f ++ r) o n = slice r (o - k) n := by
  rw [slice, slice, List.drop_append, List.drop_of_length_le (by omega), len, List.nil_append]

@[simp] theorem at_cons_front (b : Byte) (r : Bytes) : at_ (b :: r) 0 1 = b.toNat := by simp [at_, ofLe]
@[simp] theorem at_cons_rest (b : Byte) (r : Bytes) (o n : Nat) : at_ (b :: r) (o + 1) n = at_ r o n := rfl
@[simp] theorem slice_cons_rest (b : Byte) (r : Bytes) (o n : Nat) : slice (b :: r) (o + 1) n = slice r o n := rfl
@[simp] theorem slice_cons_front (b : Byte) (r : Bytes) (n : Nat) : slice (b :: r) 0 (n + 1) = b :: slice r 0 n := rfl
@[simp] theorem slice_none (bs : Bytes) (o : Nat) : slice bs o 0 = [] := rfl

@[simp] theorem zeros_length (n : Nat) : (zeros n).length = n := List.length_replicate

@[simp] theorem at_le_front {n w : Nat} (fits : w < 256 ^ n) (r : Bytes) : at_ (le n w ++ r) 0 n = w := by
  rw [at_of_front (le_length n w), ofLe_le_of_lt fits]

@[simp] theorem at_le_rest {k o : Nat} (past : k ≤ o) (w : Nat) (r : Bytes) (n : Nat) :
    at_ (le k w ++ r) o n = at_ r (o - k) n := at_of_rest (le_length k w) past r n

@[simp] theorem slice_le_rest {k o : Nat} (past : k ≤ o) (w : Nat) (r : Bytes) (n : Nat) :
    slice (le k w ++ r) o n = slice r (o - k) n := slice_of_rest (le_length k w) past r n

@[simp] theorem at_zeros_rest {k o : Nat} (past : k ≤ o) (r : Bytes) (n : Nat) : at_ (zeros k ++ r) o n = at_ r (o - k) n :=
  at_of_rest (zeros_length k) past r n

@[simp] theorem slice_zeros_rest {k o : Nat} (past : k ≤ o) (r : Bytes) (n : Nat) :
    slice (zeros k ++ r) o n = slice r (o - k) n := slice_of_rest (zeros_length k) past r n

@[simp] theorem slice_zeros_front (k : Nat) (r : Bytes) : slice (zeros k ++ r) 0 k = zeros k := slice_of_front (zeros_length k) r

@[simp] theorem mem_zeros {k : Nat} {x : Byte} : x ∈ zeros k ↔ k ≠ 0 ∧ x = 0 := List.mem_replicate

theorem fit_of_length {n : Nat} {bs : Bytes} (len : bs.length = n) : fit n bs = bs := by simp [fit, zeros, ← len]

@[simp] theorem field16_lt (x : BitVec 16) : x.toNat < 65536 := x.isLt
@[simp] theorem field32_lt (x : Word) : x.toNat < 4294967296 := x.isLt
@[simp] theorem field48_lt (x : BitVec 48) : x.toNat < 281474976710656 := x.isLt
@[simp] theorem field64_lt (x : BitVec 64) : x.toNat < 18446744073709551616 := x.isLt

/-! ### Flags -/

@[simp] theorem flags_one : ∀ a, bit 0 (flags [a]).toNat = a ∧ (flags [a]).toNat &&& 254 = 0 := by decide

@[simp] theorem flags_two :
    ∀ a b, bit 0 (flags [a, b]).toNat = a ∧ bit 1 (flags [a, b]).toNat = b ∧ (flags [a, b]).toNat &&& 252 = 0 := by decide

@[simp] theorem flags_three :
    ∀ a b c, bit 0 (flags [a, b, c]).toNat = a ∧ bit 1 (flags [a, b, c]).toNat = b ∧ bit 2 (flags [a, b, c]).toNat = c ∧
      (flags [a, b, c]).toNat &&& 248 = 0 := by decide

@[simp] theorem flags_close : ∀ b, (flags [false, b]).toNat &&& 253 = 0 := by decide

@[simp] theorem syncMask_back (m : BitVec 6) : BitVec.ofNat 6 (m.toNat % 256) = m := by
  have small : m.toNat < 256 := by omega
  rw [Nat.mod_eq_of_lt small, BitVec.ofNat_toNat, BitVec.setWidth_eq]

@[simp] theorem syncMask_high : ∀ m : BitVec 6, m.toNat % 256 &&& 192 = 0 := by decide

/-! ### Lists of blocks of one size -/

section
variable {α : Type} {m : Nat} {f : α → Bytes} (size : ∀ a, (f a).length = m)
include size

theorem flatMap_length (l : List α) : (l.flatMap f).length = m * l.length := by
  simp [List.length_flatMap, size, Nat.mul_comm]

theorem drop_flatMap (l : List α) (i : Nat) (r : Bytes) (within : i ≤ l.length) :
    (l.flatMap f ++ r).drop (m * i) = (l.drop i).flatMap f ++ r := by
  have front : ((l.take i).flatMap f).length = m * i := by rw [flatMap_length size, List.length_take_of_le within]
  have parts : l.flatMap f = (l.take i).flatMap f ++ (l.drop i).flatMap f := by
    rw [← List.flatMap_append, List.take_append_drop]
  rw [parts, List.append_assoc, List.drop_left' front]

/-- After a prefix, block `i` stands at `m * i`. -/
theorem drop_block {pre : Bytes} {k : Nat} (len : pre.length = k) (l : List α) (i : Nat) (within : i < l.length) :
    ∃ r, (pre ++ l.flatMap f).drop (k + m * i) = f l[i] ++ r := by
  refine ⟨(l.drop (i + 1)).flatMap f, ?_⟩
  have here := drop_flatMap size l i [] within.le
  rw [List.append_nil, List.append_nil] at here
  rw [List.drop_append, List.drop_of_length_le (by omega), len, List.nil_append, Nat.add_sub_cancel_left, here,
    List.drop_eq_getElem_cons within, List.flatMap_cons]

end

/-- What stands at an offset is read from there. -/
theorem at_of_drop {bs b : Bytes} {k : Nat} (here : bs.drop k = b) (o n : Nat) : at_ bs (k + o) n = at_ b o n := by
  rw [at_, at_, ← here, List.drop_drop]
theorem slice_of_drop {bs b : Bytes} {k : Nat} (here : bs.drop k = b) (o n : Nat) : slice bs (k + o) n = slice b o n := by
  rw [slice, slice, ← here, List.drop_drop]

/-- A list is read back where every place of it is. -/
theorem map_range_eq {α : Type} {l : List α} {g : Nat → α} (each : ∀ i (h : i < l.length), g i = l[i]) :
    (List.range l.length).map g = l :=
  List.ext_getElem (by simp) fun i _ h => by simp [each i h]

@[simp] theorem BindP.bytes_length (b : BindP) : (BindP.bytes b).length = 16 := by simp [BindP.bytes, f2, f4, f8]
@[simp] theorem LightEntryP.bytes_length (e : LightEntryP) : (LightEntryP.bytes e).length = 8 := by simp [LightEntryP.bytes, f2]

theorem bindAt_eq {p r : Bytes} {i : Nat} {b : BindP} (here : p.drop (16 + 16 * i) = BindP.bytes b ++ r) : bindAt p i = b := by
  have first := at_of_drop here 0 2
  rw [Nat.add_zero] at first
  simp [bindAt, first, at_of_drop here, BindP.bytes, f2, f4, f8]

theorem lightEntryAt_eq {p r : Bytes} {i : Nat} {e : LightEntryP} (here : p.drop (16 + 8 * i) = LightEntryP.bytes e ++ r) :
    lightEntryAt p i = e := by
  have first := at_of_drop here 0 1
  rw [Nat.add_zero] at first
  simp [lightEntryAt, first, at_of_drop here, LightEntryP.bytes, f2]

/-! ### Commands of fixed length -/

/-- What is claimed of the payload of a command. -/
def ReadsBack (c : Cmd) : Prop :=
  decodeCmd c.opcode (encodeCmd c) = some c ∧ payloadFault c.opcode (encodeCmd c) = none ∧ (encodeCmd c).length = payloadSize c

/-- A command of fixed length, its fields read behind an empty rest. -/
theorem readsBack_of_fixed {c : Cmd} {n : Nat} (size : fixedLen c.opcode = some n) (known : payloadSize c = n)
    (len : (encodeCmd c ++ []).length = n) (zero : zerosOk c.opcode (encodeCmd c ++ []) = true)
    (decodes : decodeCmd c.opcode (encodeCmd c ++ []) = some c) : ReadsBack c := by
  rw [List.append_nil] at len zero decodes
  exact ⟨decodes, by simp [payloadFault, neededLen, size, len, zero], by rw [len, known]⟩

/-- A command whose length its fields give. -/
theorem readsBack_of_counted {c : Cmd} (known : (encodeCmd c).length = payloadSize c)
    (needs : neededLen c.opcode (encodeCmd c) = payloadSize c) (zero : zerosOk c.opcode (encodeCmd c) = true)
    (decodes : decodeCmd c.opcode (encodeCmd c) = some c) : ReadsBack c :=
  ⟨decodes, by simp [payloadFault, known, needs, zero], known⟩

theorem openSession_readsBack {p : OpenP} (wf : (Cmd.openSession p).wf = true) : ReadsBack (.openSession p) := by
  have ⟨⟨qH, nH⟩, sig⟩ : (p.qH.length = 97 ∧ p.nH.length = 32) ∧ p.sig.length = 96 := by simpa [Cmd.wf] using wf
  refine readsBack_of_fixed rfl rfl ?_ ?_ (congrArg some ?_)
  · simp [encodeCmd, f4, qH, nH, sig]
  · simp [zerosOk, Cmd.opcode, zeroBytes, flagByte, -List.append_nil, encodeCmd, List.append_assoc, f4, slice_of_rest qH]
  · simp [-List.append_nil, encodeCmd, List.append_assoc, f4, slice_of_front qH, slice_of_rest qH, slice_of_front nH,
      slice_of_rest nH, slice_of_front sig, fit_of_length qH, fit_of_length nH, fit_of_length sig]

theorem getWatermark_readsBack {nonce : Bytes} (wf : (Cmd.getWatermark nonce).wf = true) : ReadsBack (.getWatermark nonce) := by
  have len : nonce.length = 32 := by simpa [Cmd.wf] using wf
  exact readsBack_of_fixed rfl rfl (by simpa [encodeCmd] using len) rfl (congrArg some (by simp [encodeCmd, fit_of_length len]))

theorem matrixFrame_readsBack {p : MatrixP} (wf : (Cmd.matrixFrame p).wf = true) : ReadsBack (.matrixFrame p) := by
  have len : p.codes.length = 384 := by simpa [Cmd.wf] using wf
  refine readsBack_of_fixed rfl rfl ?_ ?_ (congrArg some ?_)
  · simp [encodeCmd, f2, len]
  · simp [zerosOk, Cmd.opcode, zeroBytes, flagByte, -List.append_nil, encodeCmd, List.append_assoc, f2]
  · simp [-List.append_nil, encodeCmd, List.append_assoc, f2, List.drop_append, List.drop_of_length_le, fit, zeros, len]

theorem tagAdmit_readsBack {p : AdmitP} (wf : (Cmd.tagAdmit p).wf = true) : ReadsBack (.tagAdmit p) := by
  have len : p.key.length = 16 := by simpa [Cmd.wf] using wf
  refine readsBack_of_fixed rfl rfl ?_ ?_ (congrArg some ?_)
  · simp [encodeCmd, f2, f4, f8, len]
  · simp [zerosOk, Cmd.opcode, zeroBytes, flagByte, -List.append_nil, encodeCmd, List.append_assoc, f2, f4, f8]
  · simp [-List.append_nil, encodeCmd, List.append_assoc, f2, f4, f8, slice_of_front len, fit_of_length len]


theorem axisConfig_readsBack (p : AxisCfgP) : ReadsBack (.axisConfig p) := by
  refine readsBack_of_fixed rfl rfl ?_ ?_ (congrArg some ?_) <;> unfold encodeCmd AxisCfgP.bytes
  · simp [f2, f4]
  · simp [zerosOk, Cmd.opcode, zeroBytes, flagByte, -List.append_nil, List.append_assoc, f2, f4]
  · unfold axisCfgAt
    simp [-List.append_nil, List.append_assoc, f2, f4]

/-- OBSERVER_LOAD but for the limits of its outputs, and LO, HI and SLEW of one output. -/
def ObsLoadP.front (p : ObsLoadP) : Bytes :=
  [p.unload, p.kind, p.nin, p.nout, p.nhid, p.act, 0, 0] ++ p.h.toList ++ [0] ++ f4 p.region ++ f8 p.offset ++ f4 p.length
    ++ p.inmap.toList
def ObsLoadP.limits (p : ObsLoadP) (j : Fin 4) : Bytes := f4 (p.lo.get j) ++ f4 (p.hi.get j) ++ f4 (p.slew.get j)

theorem ObsLoadP.bytes_eq (p : ObsLoadP) :
    ObsLoadP.bytes p = ObsLoadP.front p ++ (List.finRange 4).flatMap (ObsLoadP.limits p) := rfl

theorem ObsLoadP.front_length (p : ObsLoadP) : (ObsLoadP.front p).length = 44 := by
  simp [ObsLoadP.front, f4, f8]
theorem ObsLoadP.limits_length (p : ObsLoadP) (j : Fin 4) : (ObsLoadP.limits p j).length = 12 := by simp [ObsLoadP.limits, f4]

theorem ObsLoadP.bytes_drop (p : ObsLoadP) (j : Fin 4) :
    ∃ r, (ObsLoadP.bytes p).drop (44 + 12 * j) = ObsLoadP.limits p j ++ r := by
  have within : j.val < (List.finRange 4).length := by simp
  obtain ⟨r, here⟩ := drop_block (ObsLoadP.limits_length p) (ObsLoadP.front_length p) (List.finRange 4) j within
  exact ⟨r, by simpa [ObsLoadP.bytes_eq] using here⟩

/-- A vector of bytes is read back byte by byte. -/
theorem at_toList {n : Nat} (v : Vector Byte n) (i : Fin n) (r : Bytes) : at_ (v.toList ++ r) i 1 = (v.get i).toNat := by
  have within : i.val < v.toList.length := by simp
  have here : (v.toList ++ r).drop i = v.get i :: (v.toList.drop (i + 1) ++ r) := by
    rw [List.drop_append_of_le_length within.le, List.drop_eq_getElem_cons within]
    simp [Vector.get_eq_getElem]
  simp [at_, here, ofLe]

theorem ofFn_get {α : Type} {n : Nat} (v : Vector α n) : Vector.ofFn (fun i => v.get i) = v := by
  ext i h
  simp [Vector.get_eq_getElem]

theorem obsLoadAt_bytes (p : ObsLoadP) : obsLoadAt (ObsLoadP.bytes p) = p := by
  have lens : p.h.toList.length = 3 := by simp
  have hHere : ∃ r, (ObsLoadP.bytes p).drop 8 = p.h.toList ++ r := by
    simp only [ObsLoadP.bytes, List.append_assoc]
    exact ⟨_, rfl⟩
  have inmapHere : ∃ r, (ObsLoadP.bytes p).drop 28 = p.inmap.toList ++ r := by
    simp [ObsLoadP.bytes, f4, f8, List.drop_append, List.drop_of_length_le]
  have h (i : Fin 3) : at_ (ObsLoadP.bytes p) (8 + i) 1 = (p.h.get i).toNat := by
    obtain ⟨r, here⟩ := hHere
    rw [at_of_drop here, at_toList]
  have inmap (i : Fin 16) : at_ (ObsLoadP.bytes p) (28 + i) 1 = (p.inmap.get i).toNat := by
    obtain ⟨r, here⟩ := inmapHere
    rw [at_of_drop here, at_toList]
  have lo (j : Fin 4) : at_ (ObsLoadP.bytes p) (44 + 12 * j) 4 = (p.lo.get j).toNat := by
    obtain ⟨r, here⟩ := ObsLoadP.bytes_drop p j
    have first := at_of_drop here 0 4
    rw [Nat.add_zero] at first
    simp [first, ObsLoadP.limits, f4]
  have hi (j : Fin 4) : at_ (ObsLoadP.bytes p) (48 + 12 * j) 4 = (p.hi.get j).toNat := by
    obtain ⟨r, here⟩ := ObsLoadP.bytes_drop p j
    rw [show 48 + 12 * j.val = 44 + 12 * j.val + 4 by omega, at_of_drop here]
    simp [ObsLoadP.limits, f4]
  have slew (j : Fin 4) : at_ (ObsLoadP.bytes p) (52 + 12 * j) 4 = (p.slew.get j).toNat := by
    obtain ⟨r, here⟩ := ObsLoadP.bytes_drop p j
    rw [show 52 + 12 * j.val = 44 + 12 * j.val + 8 by omega, at_of_drop here]
    simp [ObsLoadP.limits, f4]
  simp only [obsLoadAt, h, inmap, lo, hi, slew, BitVec.ofNat_toNat, BitVec.setWidth_eq, ofFn_get]
  simp [ObsLoadP.bytes_eq, ObsLoadP.front, f4, f8, at_of_rest lens]

theorem observerLoad_readsBack (p : ObsLoadP) : ReadsBack (.observerLoad p) := by
  have lens : p.h.toList.length = 3 := by simp
  refine readsBack_of_fixed rfl rfl ?_ ?_ (congrArg some ?_) <;> unfold encodeCmd
  · simp [ObsLoadP.bytes, f4, f8]
  · simp [zerosOk, Cmd.opcode, zeroBytes, flagByte, ObsLoadP.bytes, slice_of_rest lens]
  · simp [obsLoadAt_bytes]

/-! ### Commands whose length their fields give -/

theorem wordsOf_flatMap (l : List Word) : wordsOf (l.flatMap f4) = l := by
  have len : ∀ w : Word, (f4 w).length = 4 := fun w => le_length _ _
  have count : (l.flatMap f4).length / 4 = l.length := by rw [flatMap_length len]; omega
  rw [wordsOf, count]
  refine map_range_eq fun i h => ?_
  obtain ⟨r, here⟩ := drop_block len (pre := []) rfl l i h
  have first := at_of_drop here 0 4
  simp only [List.length_nil, Nat.zero_add, List.nil_append, Nat.add_zero] at first
  simp [first, f4]

theorem regWrite_readsBack {p : RegWriteP} (wf : (Cmd.regWrite p).wf = true) : ReadsBack (.regWrite p) := by
  have count : p.values.length = p.count.toNat := by simpa [Cmd.wf] using wf
  refine readsBack_of_counted ?_ ?_ rfl (congrArg some ?_)
  · simp [encodeCmd, payloadSize, f4]; omega
  · simp [neededLen, fixedLen, Cmd.opcode, payloadSize, encodeCmd, f4, count]
  · simp [encodeCmd, f4, List.drop_append, List.drop_of_length_le]
    rw [wordsOf_flatMap]

theorem memWrite_readsBack (r : Word) (o : BitVec 64) (d : Bytes) : ReadsBack (.memWrite r o d) := by
  refine readsBack_of_counted ?_ ?_ ?_ (congrArg some ?_)
  · simp [encodeCmd, payloadSize, f4, f8]; omega
  · simp [neededLen, fixedLen, Cmd.opcode, payloadSize, encodeCmd, f4, f8]; omega
  · simp [zerosOk, Cmd.opcode, zeroBytes, flagByte, encodeCmd, f4]
  · simp [encodeCmd, f4, f8, List.drop_append, List.drop_of_length_le]

theorem fwStage_readsBack (p : StageP) : ReadsBack (.fwStage p) := by
  refine readsBack_of_counted ?_ ?_ ?_ (congrArg some ?_)
  · simp [encodeCmd, payloadSize, f4]; omega
  · simp [neededLen, fixedLen, Cmd.opcode, payloadSize, encodeCmd, f4]; omega
  · simp [zerosOk, Cmd.opcode, zeroBytes, flagByte, encodeCmd]
  · simp [encodeCmd, f4, List.drop_append, List.drop_of_length_le]

theorem tagSend_readsBack {p : SendP} (wf : (Cmd.tagSend p).wf = true) : ReadsBack (.tagSend p) := by
  have short : p.data.length < 256 := by simpa [Cmd.wf] using wf
  refine readsBack_of_counted ?_ ?_ ?_ (congrArg some ?_)
  · simp [encodeCmd, payloadSize, f2]; omega
  · simp [neededLen, fixedLen, Cmd.opcode, payloadSize, encodeCmd, short]
  · have head : (le 1 p.data.length ++ [0] ++ f2 p.ref ++ p.data).length = 4 + p.data.length := by simp [f2]; omega
    have tail : slice (encodeCmd (.tagSend p)) (4 + p.data.length) ((4 - p.data.length % 4) % 4) =
        zeros ((4 - p.data.length % 4) % 4) := by
      rw [encodeCmd, slice_of_rest head le_rfl, Nat.sub_self]
      exact List.take_of_length_le (zeros_length _).le
    simp only [zerosOk, Cmd.opcode, zeroBytes, flagByte, List.all_cons, List.all_nil]
    simp [encodeCmd, short] at tail ⊢
    simp [tail]
  · simp [encodeCmd, f2, short, slice_of_front]

/-- JOB_SUBMIT but for its bindings. -/
def SubmitP.front (p : SubmitP) : Bytes :=
  f4 p.graph ++ [p.retry, flags [p.autoRelease]] ++ le 2 p.binds.length ++ f2 p.waitToken ++ f2 p.signalToken ++ zeros 4

theorem SubmitP.front_length (p : SubmitP) : (SubmitP.front p).length = 16 := by simp [SubmitP.front, f2, f4]

theorem jobSubmit_readsBack {p : SubmitP} (wf : (Cmd.jobSubmit p).wf = true) : ReadsBack (.jobSubmit p) := by
  have short : p.binds.length < 65536 := by simpa [Cmd.wf] using wf
  have count : at_ (encodeCmd (.jobSubmit p)) 6 2 = p.binds.length := by simp [encodeCmd, f4, short]
  have block := fun i within => drop_block BindP.bytes_length (SubmitP.front_length p) p.binds i within
  change ∀ i within, ∃ r, (encodeCmd (.jobSubmit p)).drop _ = _ at block
  refine readsBack_of_counted ?_ ?_ ?_ (congrArg some ?_)
  · simp [encodeCmd, payloadSize, f2, f4]; omega
  · simp [neededLen, fixedLen, Cmd.opcode, payloadSize, count]
  · have pad : ∀ i < p.binds.length, slice (encodeCmd (.jobSubmit p)) (19 + 16 * i) 1 = [0] := by
      intro i within
      obtain ⟨r, here⟩ := block i within
      rw [show 19 + 16 * i = 16 + 16 * i + 3 by omega, slice_of_drop here]
      simp [BindP.bytes, f2]
    simp +contextual [zerosOk, Cmd.opcode, zeroBytes, flagByte, count, pad]
    simp [encodeCmd, f2, f4]
  · have binds : (List.range p.binds.length).map (bindAt (encodeCmd (.jobSubmit p))) = p.binds :=
      map_range_eq fun i within => let ⟨_, here⟩ := block i within; bindAt_eq here
    simp only [count, binds]
    simp [encodeCmd, f2, f4]

/-- LIGHT_SET but for its entries. -/
def LightSetP.front (p : LightSetP) : Bytes :=
  f2 p.time.frac ++ f4 p.time.ns ++ f6 p.time.sec ++ le 1 p.entries.length ++ zeros 3

theorem LightSetP.front_length (p : LightSetP) : (LightSetP.front p).length = 16 := by simp [LightSetP.front, f2, f4, f6]

theorem lightSet_readsBack {p : LightSetP} (wf : (Cmd.lightSet p).wf = true) : ReadsBack (.lightSet p) := by
  have short : p.entries.length < 256 := by simpa [Cmd.wf] using wf
  have count : at_ (encodeCmd (.lightSet p)) 12 1 = p.entries.length := by simp [encodeCmd, f2, f4, f6, short]
  have block := fun i within => drop_block LightEntryP.bytes_length (LightSetP.front_length p) p.entries i within
  change ∀ i within, ∃ r, (encodeCmd (.lightSet p)).drop _ = _ at block
  refine readsBack_of_counted ?_ ?_ ?_ (congrArg some ?_)
  · simp [encodeCmd, payloadSize, f2, f4, f6]; omega
  · simp [neededLen, fixedLen, Cmd.opcode, payloadSize, count]
  · have pad : ∀ i < p.entries.length, slice (encodeCmd (.lightSet p)) (17 + 8 * i) 1 = [0] ∧
        slice (encodeCmd (.lightSet p)) (22 + 8 * i) 2 = zeros 2 := by
      intro i within
      obtain ⟨r, here⟩ := block i within
      rw [show 17 + 8 * i = 16 + 8 * i + 1 by omega, show 22 + 8 * i = 16 + 8 * i + 6 by omega, slice_of_drop here,
        slice_of_drop here]
      simp [LightEntryP.bytes, f2]
    simp +contextual [zerosOk, Cmd.opcode, zeroBytes, flagByte, count, pad]
    simp [encodeCmd, f2, f4, f6]
  · have entries : (List.range p.entries.length).map (lightEntryAt (encodeCmd (.lightSet p))) = p.entries :=
      map_range_eq fun i within => let ⟨_, here⟩ := block i within; lightEntryAt_eq here
    simp only [count, entries]
    simp [encodeCmd, time12At, f2, f4, f6]

/-- Settles O56: the commands of fixed length field by field, those with counts and byte strings by their own lemmas. -/
theorem payloadReadsBack : Obligations.PayloadReadsBack := by
  intro c wf
  cases c with
  | openSession p => exact openSession_readsBack wf
  | getWatermark nonce => exact getWatermark_readsBack wf
  | regWrite p => exact regWrite_readsBack wf
  | memWrite r o d => exact memWrite_readsBack r o d
  | jobSubmit p => exact jobSubmit_readsBack wf
  | axisConfig p => exact axisConfig_readsBack p
  | observerLoad p => exact observerLoad_readsBack p
  | lightSet p => exact lightSet_readsBack wf
  | matrixFrame p => exact matrixFrame_readsBack wf
  | tagAdmit p => exact tagAdmit_readsBack wf
  | tagSend p => exact tagSend_readsBack wf
  | fwStage p => exact fwStage_readsBack p
  | ping d => exact readsBack_of_counted rfl rfl rfl rfl
  | _ =>
    refine readsBack_of_fixed rfl rfl ?_ ?_ (congrArg some ?_)
    · simp [encodeCmd, f2, f4, f6, f8]
    · simp [zerosOk, Cmd.opcode, zeroBytes, flagByte, -List.append_nil, encodeCmd, List.append_assoc, f2, f4, f6, f8]
    · simp [-List.append_nil, encodeCmd, List.append_assoc, f2, f4, f6, f8]

end Sys2Proof.Machine
end

section
/-! PROOFS. The one-time-programmable words: the release of a reset and the first entry to FULL program them, a tick may take a
reset that is due, and no other row touches them (R59, R61, R73, R78). -/

namespace Sys2Proof.Machine

/-! ### Rows that touch no one-time-programmable word -/

@[simp] theorem State.deviceReset_otp (s : State) (cause : Nat) : (s.deviceReset cause).otp = s.otp := rfl

/-- The rows that program one-time-programmable words: the release of a reset and the first entry to FULL. -/
def Instr.programs : Instr → Bool
  | .resetNRelease | .hbmTrained => true
  | _ => false

/-- The row answers a next state with the words as they were. -/
def KeepsOtp (i : Instr) (s : State) : Prop := ∃ t, exec i s = .next t ∧ t.otp = s.otp

theorem ptpFollowUpRx_keepsOtp (m : PtpFollow) (s : State) : KeepsOtp (.ptpFollowUpRx m) s := by
  refine ⟨_, rfl, State.ptpMessage_otp _ _ _ _ fun s => ?_⟩
  (repeat' split) <;> simp -proj

theorem ptpDelayRespRx_keepsOtp (m : PtpDelayResp) (s : State) : KeepsOtp (.ptpDelayRespRx m) s := by
  refine ⟨_, rfl, State.ptpMessage_otp _ _ _ _ fun s => ?_⟩
  (repeat' split) <;> simp -proj

theorem ptpPdelayRespRx_keepsOtp (m : PtpPdelayResp) (s : State) : KeepsOtp (.ptpPdelayRespRx m) s := by
  refine ⟨_, rfl, State.ptpMessage_otp _ _ _ _ fun s => ?_⟩
  dsimp -proj only
  (repeat' split) <;> simp -proj

theorem join_keepsOtp (rx : RadioRx) (s : State) : KeepsOtp (.join rx) s := by
  refine ⟨_, rfl, State.radioRx_otp _ _ _ _ fun s => ?_⟩
  dsimp -proj only
  (repeat' split) <;> simp -proj

theorem data_keepsOtp (rx : RadioRx) (s : State) : KeepsOtp (.data rx) s := by
  refine ⟨_, rfl, State.radioRx_otp _ _ _ _ fun s => ?_⟩
  dsimp -proj only
  (repeat' split) <;> simp -proj

theorem slotEvent_keepsOtp (slot : Fin 8) (rx : RadioRx) (s : State) : KeepsOtp (.slotEvent slot rx) s := by
  refine ⟨_, rfl, State.radioRx_otp _ _ _ _ fun s => ?_⟩
  dsimp -proj only
  (repeat' split) <;> simp -proj

theorem axisZeroDone_keepsOtp (n : Fin 8) (x : Vector (Vector (BitVec 16) 256) 3) (s : State) : KeepsOtp (.axisZeroDone n x) s := by
  refine ⟨_, rfl, ?_⟩
  dsimp -proj only
  (repeat' split) <;> simp -proj

theorem lbusPowerRestore_keepsOtp (bus : Fin 2) (s : State) : KeepsOtp (.lbusPowerRestore bus) s := by
  refine ⟨_, rfl, ?_⟩
  dsimp -proj only
  split
  · rfl
  · refine ite_otp rfl (ite_otp (State.updBus_otp _ _ _) ?_)
    exact (foldl_otp _ _ _ fun s n => by split <;> simp -proj).trans (State.updBus_otp _ _ _)

theorem imagesVerified_keepsOtp (s : State) : KeepsOtp .imagesVerified s := by
  refine ⟨_, rfl, ite_otp rfl ?_⟩
  simp -proj
  exact forAll_otp _ _ fun s k => by split <;> simp -proj

theorem monitorWindowEnd_keepsOtp (rates : Vector Nat 32) (pkgDw : Nat) (s : State) : KeepsOtp (.monitorWindowEnd rates pkgDw) s := by
  refine ⟨_, rfl, ite_otp rfl ?_⟩
  extract_lets start s0 kept s1 r s2 blocked v s3 s4
  refine ite_otp rfl ?_
  have write : s3.otp = s2.otp := by
    simp only [s3]
    exact ite_otp rfl (State.avsWrite_otp _ _)
  exact (State.judgeRate_otp _ _ _ _).trans write

/-- A Psiesk row serves its command, or gives way to another row of its tick. -/
theorem exec_of_cmd {i : Instr} {h : Hdr} {c : Cmd} (row : Instr.cmd? i = some (h, c)) (s : State) :
    exec i s = .next (if s.givesWay i = true then s.putOff i else s.serve h c) := by
  cases i <;> cases row <;> rfl

theorem exec_keepsOtp {i : Instr} (keeps : Instr.programs i = false) (s : State) : KeepsOtp i s := by
  cases row : Instr.cmd? i with
  | some x => exact ⟨_, exec_of_cmd row s, ite_otp rfl (State.serve_otp _ _ _)⟩
  | none =>
    cases i with
    | resetNRelease => nomatch keeps
    | hbmTrained => nomatch keeps
    | ptpFollowUpRx m => exact ptpFollowUpRx_keepsOtp m s
    | ptpDelayRespRx m => exact ptpDelayRespRx_keepsOtp m s
    | ptpPdelayRespRx m => exact ptpPdelayRespRx_keepsOtp m s
    | join rx => exact join_keepsOtp rx s
    | data rx => exact data_keepsOtp rx s
    | slotEvent slot rx => exact slotEvent_keepsOtp slot rx s
    | axisZeroDone n x => exact axisZeroDone_keepsOtp n x s
    | lbusPowerRestore bus => exact lbusPowerRestore_keepsOtp bus s
    | imagesVerified => exact imagesVerified_keepsOtp s
    | monitorWindowEnd rates pkgDw => exact monitorWindowEnd_keepsOtp rates pkgDw s
    | powerLoss => exact ⟨_, rfl, ite_otp rfl rfl⟩
    | resetNAssert => exact ⟨_, rfl, rfl⟩
    | _ =>
      cases row <;> refine ⟨_, rfl, ?_⟩ <;> repeat' (first | (simp -proj [apply_ite State.otp]; done) | split | dsimp -proj only)

/-! ### Words that only grow -/

/-- What the words are after a step, against what they were. -/
structure Grown (a b : Otp) : Prop where
  svcMax : b.svcEntries ≤ 15
  bootMax : b.bootCount ≤ 2 ^ 32 - 1
  uniqueId : b.uniqueId = a.uniqueId
  configWord : b.configWord = a.configWord
  keyDigests : b.keyDigests = a.keyDigests
  revoked : b.revoked = a.revoked
  mac : b.mac = a.mac
  clockId : b.clockId = a.clockId
  last : a.lifecycle = .retired ∨ a.lifecycle = .blank → b.lifecycle = a.lifecycle
  never : b.lifecycle = .blank → a.lifecycle = .blank
  svc : a.svcEntries ≤ b.svcEntries
  boot : a.bootCount ≤ b.bootCount
  svn : ∀ k, a.svnMin.get k ≤ b.svnMin.get k

/-- From words within their bounds only growth leads on. -/
def Grows (a b : Otp) : Prop := a.svcEntries ≤ 15 ∧ a.bootCount ≤ 2 ^ 32 - 1 → Grown a b

theorem Grows.of_eq {a b : Otp} (same : b = a) : Grows a b := by
  subst same
  exact fun ⟨svc, boot⟩ => ⟨svc, boot, rfl, rfl, rfl, rfl, rfl, rfl, fun _ => rfl, id, le_rfl, le_rfl, fun _ => BitVec.le_refl _⟩

theorem Grows.trans {a b c : Otp} (first : Grows a b) (second : Grows b c) : Grows a c := by
  intro bounds
  have ab := first bounds
  have bc := second ⟨ab.svcMax, ab.bootMax⟩
  exact {
    svcMax := bc.svcMax
    bootMax := bc.bootMax
    uniqueId := bc.uniqueId.trans ab.uniqueId
    configWord := bc.configWord.trans ab.configWord
    keyDigests := bc.keyDigests.trans ab.keyDigests
    revoked := bc.revoked.trans ab.revoked
    mac := bc.mac.trans ab.mac
    clockId := bc.clockId.trans ab.clockId
    last := fun h => (bc.last (ab.last h ▸ h)).trans (ab.last h)
    never := ab.never ∘ bc.never
    svc := ab.svc.trans bc.svc
    boot := ab.boot.trans bc.boot
    svn := fun k => BitVec.le_trans (ab.svn k) (bc.svn k) }

/-- The start counts itself (R59). -/
theorem grows_bootCount (o : Otp) : Grows o { o with bootCount := satInc 0xFFFFFFFF o.bootCount } := by
  intro ⟨svc, boot⟩
  have counted : o.bootCount ≤ satInc 0xFFFFFFFF o.bootCount ∧ satInc 0xFFFFFFFF o.bootCount ≤ 2 ^ 32 - 1 := by
    unfold satInc
    split <;> omega
  exact ⟨svc, counted.2, rfl, rfl, rfl, rfl, rfl, rfl, fun _ => rfl, id, le_rfl, counted.1, fun _ => BitVec.le_refl _⟩

/-- R78: a token leads out of PRODUCTION and SERVICE alone, to BLANK never, and to SERVICE at most 15 times. -/
theorem grows_transition {o : Otp} {target : Nat} {l : Lifecycle} (leads : o.transition target = some l) :
    Grows o { o with lifecycle := l, svcEntries := o.svcEntries + (if l = .service then 1 else 0) } := by
  intro ⟨svc, boot⟩
  have key : o.lifecycle ≠ .retired ∧ o.lifecycle ≠ .blank ∧ l ≠ .blank ∧ (l = .service → o.svcEntries < 15) := by
    unfold Otp.transition at leads
    split at leads <;> grind
  obtain ⟨notRetired, notBlank, goal, room⟩ := key
  refine ⟨?_, boot, rfl, rfl, rfl, rfl, rfl, rfl, fun h => ?_, fun h => absurd h goal, Nat.le_add_right .., le_rfl, fun _ => BitVec.le_refl _⟩
  · show o.svcEntries + _ ≤ 15
    split
    · next h => exact room h
    · exact svc
  · exact absurd h (by simp [notRetired, notBlank])

theorem State.tokenTarget_leads {s : State} {bs : Bytes} {l : Lifecycle} {count : Nat}
    (target : s.tokenTarget bs = some (l, count)) : ∃ n, s.otp.transition n = some l := by
  unfold State.tokenTarget at target
  split at target
  · nomatch target
  · split at target
    · obtain ⟨_, leads, same⟩ := Option.map_eq_some_iff.1 target
      cases same
      exact ⟨_, leads⟩
    · nomatch target

theorem State.takeToken_grows (s : State) : Grows s.otp s.takeToken.otp := by
  unfold State.takeToken
  split
  · exact .of_eq rfl
  · next slot _ =>
    extract_lets s1 
    split
    · next l count target =>
      obtain ⟨n, leads⟩ := State.tokenTarget_leads target
      refine if h : count = s.otp.bootCount then ?_ else ?_
      · simp only [if_pos h]
        have programmed := grows_transition leads
        have : ∀ t : State, t.otp = _ → Grows s.otp t.otp := fun t same => same ▸ programmed
        apply this
        split
        · simp -proj
          rfl
        · split
          · simp -proj
            rfl
          · rfl
      · rw [if_neg h]
        exact .of_eq rfl
    · exact .of_eq rfl

theorem State.beginBoot_grows (s : State) : Grows s.otp s.beginBoot.otp := by
  unfold State.beginBoot
  extract_lets s1 o s2 s3
  have token : Grows s.otp s1.otp := State.takeToken_grows (s.updBoot _)
  have held : s3.otp = s2.otp := ite_otp rfl (forAll_otp _ _ fun _ _ => rfl)
  have faults := forAll_otp s3 (fun s n => if (s.axis n).flt then s.axisFault n 12 else s) fun s n => ite_otp (State.axisFault_otp _ _ _) rfl
  exact (token.trans (grows_bootCount s1.otp)).trans (.of_eq (faults.trans held))

theorem State.resetTick_grows (s : State) : Grows s.otp s.resetTick.otp := by
  unfold State.resetTick
  split
  · split
    · exact State.beginBoot_grows (s.deviceReset _)
    · exact .of_eq rfl
  · exact .of_eq rfl

theorem State.raiseSvn_grows (s : State) : Grows s.otp s.raiseSvn.otp := by
  intro ⟨svc, boot⟩
  refine ⟨svc, boot, rfl, rfl, rfl, rfl, rfl, rfl, fun _ => rfl, id, le_rfl, le_rfl, fun k => ?_⟩
  simp only [State.raiseSvn, Vector.get_ofFn]
  split
  · next less => exact BitVec.le_of_lt less
  · exact BitVec.le_refl _

theorem hbmTrained_grows (s : State) : ∃ t, exec .hbmTrained s = .next t ∧ Grows s.otp t.otp := by
  refine ⟨_, rfl, ?_⟩
  split
  · exact .of_eq rfl
  · extract_lets s1 s2
    have domains : s1.otp = s.otp := ite_otp rfl (State.makeDomains_otp _)
    split
    · exact .of_eq domains
    · have raised := (s1.updBoot fun b => { b with dev := .full }).raiseSvn_grows
      exact (Grows.of_eq domains).trans (raised.trans (.of_eq (by simp -proj [s2])))

theorem State.pass_grows (s : State) : Grows s.otp s.pass.otp := by
  have reset := (s.stepReport.commitDone).resetTick_grows
  rw [State.commitDone_otp, State.stepReport_otp] at reset
  refine reset.trans (.of_eq ?_)
  unfold State.pass
  extract_lets s1 s2 s3
  have net : s2.otp = s1.otp := by
    simp only [s2]
    split
    · exact ite_otp (State.netApply_otp _) rfl
    · rfl
  simp -proj [apply_ite State.otp]
  exact net

/-! ### Every step -/

theorem exec_grows {i : Instr} {s t : State} (next : exec i s = .next t) : Grows s.otp t.otp := by
  by_cases keeps : Instr.programs i = false
  · obtain ⟨u, answers, same⟩ := exec_keepsOtp keeps s
    cases next.symm.trans answers
    exact .of_eq same
  · cases i with
    | resetNRelease =>
      cases next
      split
      · exact s.beginBoot_grows
      · exact .of_eq rfl
    | hbmTrained =>
      obtain ⟨u, answers, grows⟩ := hbmTrained_grows s
      cases next.symm.trans answers
      exact grows
    | _ => exact absurd rfl keeps

/-- Settles O60: rows keep the words but for the two that program them, and a tick may begin a start. -/
theorem otpOnlyGrows : Obligations.OtpOnlyGrows := by
  intro s t inv next
  have grows : Grows s.otp t.otp := by
    unfold step at next
    split at next
    · cases next
      split
      · exact (Grows.of_eq s.settled_otp).trans s.settled.pass_grows
      · exact .of_eq s.settled_otp
    · have row := exec_grows next
      exact row
  have g := grows inv
  exact ⟨⟨g.svcMax, g.bootMax⟩, g.uniqueId, g.configWord, g.keyDigests, g.revoked, g.mac, g.clockId, g.last, g.never, g.svc, g.boot,
    g.svn⟩

/-- Settles O59. -/
theorem otpInvAtReset : Obligations.OtpInvAtReset := by
  unfold Obligations.OtpInvAtReset OtpInv
  decide

/-- Settles O1: with a command waiting, a step runs the one at the front. -/
theorem stepTakesFrontCommand : Obligations.StepTakesFrontCommand := by
  intro s c rest waits
  rw [step, waits]

end Sys2Proof.Machine
end

section
/-! PROOFS. How a command that passes every check completes: what it reads of the state is the same in the state it acts on, and
an effect that leaves the ports alone passes through what serving touches. -/

namespace Sys2Proof.Machine

section
variable {s : State} {h : Hdr} {c : Cmd} {ses : Session} (ok : Accepted s h c ses)
include ok

/-- What is read of the state beside what serving a command touches is the same in the accepted state. -/
theorem Accepted.reads {α : Type} (f : State → α) (blind : ∀ u, f u.quiet = f u) : f (s.accepted h) = f s := by
  rw [← blind, ok.quiet_eq, blind]

/-- An effect beside what serving a command touches is the same on the accepted state. -/
theorem Accepted.acts (g : State → State) (blind : ∀ u, (g u).quiet = g u.quiet) : (g (s.accepted h)).quiet = (g s).quiet := by
  rw [blind, ok.quiet_eq, blind]

/-- A command that only replies, from the accepted state. -/
theorem Accepted.completes_reply {i : Instr} {e : Nat} {b : Bytes} (row : exec i s = .next (s.serve h c)) (op : c.opcode ≠ 0x02)
    (plain : Uncounted e) (effect : perform (s.ticket h c ses) c (s.accepted h) = (s.accepted h).reply (s.ticket h c ses) e b) :
    Completes i s h c.opcode e b s :=
  completes row ok op plain effect rfl (s.accepted_now h) ok.quiet_eq

/-- A command whose effect leaves the ports alone, followed by its reply. -/
theorem Accepted.completes_effect {i : Instr} {e : Nat} {b : Bytes} (row : exec i s = .next (s.serve h c)) (op : c.opcode ≠ 0x02)
    (plain : Uncounted e) (g : State → State)
    (effect : perform (s.ticket h c ses) c (s.accepted h) = (g (s.accepted h)).reply (s.ticket h c ses) e b)
    (sessions : (g (s.accepted h)).sessions = (s.accepted h).sessions) (now : (g (s.accepted h)).now = (s.accepted h).now)
    (blind : ∀ u, (g u).quiet = g u.quiet) : Completes i s h c.opcode e b (g s) :=
  completes row ok op plain effect sessions (now.trans (s.accepted_now h)) (ok.acts g blind)

theorem Accepted.hasSession : ((s.accepted h).owner h.port).session.isSome = true := by rw [ok.session_eq]; rfl

end

/-! ### HELLO, GET_WATERMARK, GET_CERTS, EVENT_SUBSCRIBE and PING -/

theorem hello_completes {s : State} {h : Hdr} {ses : Session} (ok : Accepted s h .hello ses) :
    Completes (.hello h) s h 0x01 stOk
      (le 4 0x53203264 ++ le 4 siliconRev ++ le 1 s.boot.dev.code ++ le 1 s.otp.lifecycle.code ++ le 1 (Port.id h.port)
        ++ le 1 1 ++ le 4 (mboitVersion s) ++ le 4 (s.maxPacket h.port) ++ fit 32 (Config.freeBytes s.free))
      (s.tookFree.updOwner h.port fun o => { o with challenge := some (fit 32 (Config.freeBytes s.free), s.now) }) := by
  let challenged (o : OwnerState) : OwnerState := { o with challenge := some (fit 32 (Config.freeBytes s.free), s.now) }
  have version := ok.reads mboitVersion fun _ => rfl
  refine completes rfl ok (by simp [Cmd.opcode]) uncounted_ok (u := (s.accepted h).tookFree.updOwner h.port challenged) ?_ ?_ ?_ ?_
  · simp [perform, doHello, version, ok.session_eq, State.accepted_maxPacket, bitAt, challenged]
  · exact (State.updOwner_sessions _ _ challenged fun _ => rfl).trans (State.tookFree_sessions _)
  · exact s.accepted_now h
  · refine ok.acts (fun u => u.tookFree.updOwner h.port challenged) fun u => ?_
    exact State.updOwner_quiet_push _ _ _ _ fun _ => rfl

theorem getWatermark_completes {s : State} {h : Hdr} {ses : Session} {nonce : Bytes} (ok : Accepted s h (.getWatermark nonce) ses) :
    Completes (.getWatermark h nonce) s h 0x04 stOk
      (s.reportBody nonce ++ fit 96 (Config.deviceSign s.free (digest (s.reportBody nonce)))) s.tookFree := by
  have body := ok.reads (fun u => u.reportBody nonce) fun _ => rfl
  refine ok.completes_effect rfl (by simp [Cmd.opcode]) uncounted_ok State.tookFree ?_ (State.tookFree_sessions _) rfl fun _ => rfl
  simp only [perform, doGetWatermark, body, State.accepted_free]

theorem getCerts_completes {s : State} {h : Hdr} {ses : Session} {offset length : Word} (ok : Accepted s h (.getCerts offset length) ses) :
    let total := Config.certChain.length
    let n := min length.toNat (total - offset.toNat)
    if offset.toNat < total ∧ offset.toNat % 4 = 0 ∧ length.toNat % 4 = 0 ∧ 4 ≤ length.toNat then
      Completes (.getCerts h offset length) s h 0x05 stOk
        (le 4 total ++ le 4 n ++ fit ((n + 3) / 4 * 4) (slice Config.certChain offset.toNat n)) s
    else Completes (.getCerts h offset length) s h 0x05 eParam [] s := by
  intro total n
  split
  · next fits =>
    refine ok.completes_reply rfl (by simp [Cmd.opcode]) uncounted_ok (if_neg ?_)
    omega
  · next misfit =>
    refine ok.completes_reply rfl (by simp [Cmd.opcode]) uncounted_param (if_pos ?_)
    omega

theorem ping_completes {s : State} {h : Hdr} {ses : Session} {d : Bytes} (ok : Accepted s h (.ping d) ses) :
    if d.length ≤ 64 then Completes (.ping h d) s h 0x7F stOk d s else Completes (.ping h d) s h 0x7F eParam [] s := by
  split
  · next short => exact ok.completes_reply rfl (by simp [Cmd.opcode]) uncounted_ok (if_neg (Nat.not_lt.mpr short))
  · next long => exact ok.completes_reply rfl (by simp [Cmd.opcode]) uncounted_param (if_pos (Nat.not_le.mp long))

/-- Subscribing reads nothing of a session but its mask and its events. -/
theorem OwnerState.takeEvent_quiet (now : Nat) (dead : Bool) (o : OwnerState) (e : EventMsg) :
    (o.takeEvent now dead e).quiet = o.quiet.takeEvent now dead e := by
  cases hs : o.session with
  | none => simp [OwnerState.takeEvent, OwnerState.quiet, hs]
  | some x =>
    simp only [OwnerState.takeEvent, OwnerState.quiet, hs, Option.map_some, Session.today, Session.quiet]
    (repeat' split) <;> simp_all [Session.quiet]

theorem OwnerState.subscribe_quiet (now : Nat) (dead : Bool) (mask : Nat) (enc : Bool) (o : OwnerState) :
    (o.subscribe now dead mask enc).quiet = o.quiet.subscribe now dead mask enc := by
  have fold (l : List EventMsg) (o : OwnerState) :
      (l.foldl (OwnerState.takeEvent now dead) o).quiet = l.foldl (OwnerState.takeEvent now dead) o.quiet := by
    induction l generalizing o with
    | nil => rfl
    | cons e l ih => simp only [List.foldl_cons, ih, OwnerState.takeEvent_quiet]
  cases hs : o.session with
  | none => simp [OwnerState.subscribe, OwnerState.quiet, hs]
  | some x =>
    simp only [OwnerState.subscribe, OwnerState.quiet, hs, Option.map_some]
    refine (fold _ _).trans ?_
    by_cases day : x.freshAt = now <;> simp [Session.today, Session.quiet, OwnerState.quiet, day]

/-- Subscribing and the events it judges again leave the session but for its subscription and its events. -/
theorem OwnerState.subscribe_core (now : Nat) (dead : Bool) (mask : Nat) (enc : Bool) (o : OwnerState) :
    (o.subscribe now dead mask enc).session.map Session.core = o.session.map Session.core := by
  have fold (l : List EventMsg) (o : OwnerState) :
      (l.foldl (OwnerState.takeEvent now dead) o).session.map Session.core = o.session.map Session.core := by
    induction l generalizing o with
    | nil => rfl
    | cons e l ih =>
      obtain ⟨x, ev, n, taken, same⟩ := o.takeEvent_frame now dead e
      have core : ∀ y : Session, y.core = y.unheard.core := fun _ => rfl
      rw [List.foldl_cons, ih, taken]
      simpa [← core, Function.comp_def] using congrArg (Option.map Session.core) same
  cases hs : o.session with
  | none => simp [OwnerState.subscribe, hs]
  | some x =>
    simp only [OwnerState.subscribe, hs]
    refine (fold _ _).trans ?_
    by_cases day : x.freshAt = now <;> simp [Session.today, Session.core, Session.unheard, day]

/-- What EVENT_SUBSCRIBE makes of an owner: the subscription, and on HPB where events go. -/
def OwnerState.subscribed (now : Nat) (dead : Bool) (mask : Nat) (enc : Bool) (via : Carriage) (o : OwnerState) : OwnerState :=
  { o.subscribe now dead mask enc with
    evtDest := match via with
      | .udp ip port => some (ip, port)
      | _ => o.evtDest }

theorem OwnerState.subscribe_evtDest (now : Nat) (dead : Bool) (mask : Nat) (enc : Bool) (o : OwnerState) :
    (o.subscribe now dead mask enc).evtDest = o.evtDest := by
  have fold (l : List EventMsg) (o : OwnerState) : (l.foldl (OwnerState.takeEvent now dead) o).evtDest = o.evtDest := by
    induction l generalizing o with
    | nil => rfl
    | cons e l ih =>
      obtain ⟨x, ev, n, taken, -⟩ := o.takeEvent_frame now dead e
      rw [List.foldl_cons, ih, taken]
  unfold OwnerState.subscribe
  split
  · rfl
  · exact fold _ _

theorem bankUpd_bankUpd {α : Type} {n : Nat} (v : Vector α n) (i : Fin n) (f g : α → α) :
    bankUpd (bankUpd v i f) i g = bankUpd v i (g ∘ f) := by
  rw [bankUpd, bankUpd_get_self, bankUpd, bankUpd, Vector.set_set]
  rfl

theorem State.updOwner_updOwner (s : State) (p : Port) (f g : OwnerState → OwnerState) :
    (s.updOwner p f).updOwner p g = s.updOwner p (g ∘ f) := by
  simp only [State.updOwner, bankUpd_bankUpd]

/-- On a carriage but UDP a subscription leaves where events go. -/
theorem OwnerState.subscribed_of_not_udp {now : Nat} {dead : Bool} {mask : Nat} {enc : Bool} {via : Carriage}
    (other : ∀ ip port, via ≠ .udp ip port) : OwnerState.subscribed now dead mask enc via = OwnerState.subscribe now dead mask enc := by
  funext o
  cases via with
  | udp ip port => exact absurd rfl (other ip port)
  | _ => exact congrArg (fun d => { o.subscribe now dead mask enc with evtDest := d }) (o.subscribe_evtDest now dead mask enc).symm

theorem doEventSubscribe_eq {t : Ticket} {mask : Word} {enc : Bool} {u : State} {x : Session} (even : mask.toNat % 2 = 0)
    (small : mask.toNat < 2 ^ 20) (session : (u.owner t.hdr.port).session = some x) :
    doEventSubscribe t mask enc u =
      (u.updOwner t.hdr.port (OwnerState.subscribed u.now (u.portDead t.hdr.port) mask.toNat enc t.hdr.via)).reply t stOk
        (le 4 x.mask) := by
  have valid : ¬ (mask.toNat % 2 = 1 ∨ 2 ^ 20 ≤ mask.toNat) := by omega
  rw [doEventSubscribe, if_neg valid, session, Option.map_some, Option.getD_some]
  split
  · next ip port via =>
    show (State.updOwner (State.updOwner _ _ _) _ _).reply _ _ _ = _
    rw [State.updOwner_updOwner, via]
    rfl
  · next other => rw [OwnerState.subscribed_of_not_udp other]

theorem eventSubscribe_completes {s : State} {h : Hdr} {ses : Session} {mask : Word} {enc : Bool}
    (ok : Accepted s h (.eventSubscribe mask enc) ses) (even : mask.toNat % 2 = 0) (small : mask.toNat < 2 ^ 20) :
    Completes (.eventSubscribe h mask enc) s h 0x7E stOk (le 4 ses.mask)
      (s.updOwner h.port (OwnerState.subscribed s.now (s.portDead h.port) mask.toNat enc h.via)) := by
  let new := OwnerState.subscribed s.now (s.portDead h.port) mask.toNat enc h.via
  have dead := ok.reads (fun u => u.portDead h.port) fun _ => rfl
  refine completes rfl ok (by simp [Cmd.opcode]) uncounted_ok (u := (s.accepted h).updOwner h.port new) ?_ ?_ ?_ ?_
  · have via : OwnerState.subscribed s.now (s.portDead h.port) mask.toNat enc (s.via h.via) = new := by
      funext o
      cases hv : h.via <;> simp [new, OwnerState.subscribed, State.via, hv]
    have effect := doEventSubscribe_eq (t := s.ticket h (.eventSubscribe mask enc) ses) (enc := enc) even small ok.session_eq
    simp only [State.ticket_port, State.ticket_via, State.accepted_now, dead, via] at effect
    exact effect
  · exact bankUpd_map_same _ _ _ _ fun o => OwnerState.subscribe_core _ _ _ _ o
  · exact s.accepted_now h
  · refine ok.acts (fun u => u.updOwner h.port new) fun u => ?_
    refine State.updOwner_quiet_push _ _ _ _ fun o => ?_
    have judged := OwnerState.subscribe_quiet s.now (s.portDead h.port) mask.toNat enc o
    simp only [new, OwnerState.subscribed, ← judged]
    rfl

/-- Settles O2, a command at a time. -/
theorem sessionCommandsComplete : Obligations.SessionCommandsComplete :=
  ⟨fun _ _ _ ok => hello_completes ok, fun _ _ _ _ ok => getWatermark_completes ok, fun _ _ _ _ _ ok => getCerts_completes ok,
    fun _ _ _ _ _ ok even small => eventSubscribe_completes ok even small, fun _ _ _ _ ok => ping_completes ok⟩

end Sys2Proof.Machine
end

section
/-! PROOFS. Statuses that are counted, and the lease commands (R98, R99, R101, R102). -/

namespace Sys2Proof.Machine

/-! ### A reply whose status is counted -/

theorem State.dropPacket_owners (s : State) (h : Hdr) : (s.dropPacket h).owners = s.owners := by
  unfold State.dropPacket
  split
  · split
    · exact s.forgo_owners _
    · split
      · rfl
      · exact s.complete_owners _ _ _ _
  · rfl

/-- A reply leaves it so that no session waits to end, whatever its status. -/
theorem State.reply_keeps_calm {u : State} {t : Ticket} {e : Nat} {b : Bytes} (calm : u.calm = true) : (u.reply t e b).calm = true := by
  have plain (v : State) (op : Nat) (cv : v.calm = true) : (v.plainReply t.hdr op e b).calm = true :=
    State.calm_of_sessions (v.plainReply_sessions t.hdr op e b) cv
  have upd (f : Session → Session) (hf : ∀ x, (f x).closing = x.closing ∧ (f x).ending = x.ending) :
      (u.updSession t.hdr.port f).calm = true := by
    rw [State.calm_iff] at calm ⊢
    intro p x hx
    simp only [State.updSession, State.owner, State.updOwner_owners, bankUpd_get] at hx
    split at hx
    · next hp =>
      obtain ⟨y, hy, rfl⟩ := Option.map_eq_some_iff.mp hx
      have := calm p y (hp ▸ hy)
      exact ⟨(hf y).1.trans this.1, (hf y).2.trans this.2⟩
    · exact calm p x hx
  unfold State.reply
  split
  · exact plain u _ calm
  · split
    · exact plain _ _ (upd _ fun x => by split <;> exact ⟨rfl, rfl⟩)
    · split
      · exact (State.calm_of_sessions (State.sessions_of_owners (State.dropPacket_owners _ _)) calm)
      · split
        · refine State.calm_of_sessions (State.sessions_of_owners (State.transmit_owners _ _ _ _)) ?_
          exact State.calm_of_sessions (State.countStatus_sessions _ _ _) (upd _ fun _ => ⟨rfl, rfl⟩)
        · exact (State.calm_of_sessions (State.sessions_of_owners (State.dropPacket_owners _ _)) calm)

section
variable {s : State} {h : Hdr} {c : Cmd} {ses : Session} (ok : Accepted s h c ses)
include ok

/-- A command that is only refused, with any status: the refusal is cached, and counted where its status is. -/
theorem Accepted.refused {i : Instr} {e : Nat} {b : Bytes} (row : exec i s = .next (s.serve h c)) (op : c.opcode ≠ 0x02)
    (effect : perform (s.ticket h c ses) c (s.accepted h) = (s.accepted h).reply (s.ticket h c ses) e b) :
    ∃ t, exec i s = .next t ∧ Replied s t h c.opcode e b ∧ t.quiet = ((s.accepted h).countStatus h.port e).quiet := by
  have hq : h.seq.toNat ≠ 0xFFFFFFFF := ok.1.2.2.2.2.2.2.2.2.1
  have calm : s.calm = true := ok.1.2.2.2.2.2.2.2.2.2
  have served : s.serve h c = (s.accepted h).reply (s.ticket h c ses) e b := by
    rw [serve_accepted ok, effect, State.finish_calm (State.reply_keeps_calm (State.accepted_calm hq calm))]
  refine ⟨_, row, served ▸ replied_of_arrives ok.1 op e b, ?_⟩
  have took : (ses.took h.seq.toNat).serial = ses.serial := rfl
  rw [served, State.reply]
  simp only [State.ticket_serial, State.ticket_opcode, op, if_false, State.ticket_port, ok.session_eq, took, if_true,
    State.transmit_quiet]
  have swap (u : State) (f : Session → Session) :
      (u.updSession h.port f).countStatus h.port e = (u.countStatus h.port e).updSession h.port f := by
    unfold State.countStatus
    split
    · simp only [State.updSession, State.updOwner_updOwner]; rfl
    · split
      · simp only [State.updSession, State.updOwner_updOwner]; rfl
      · (repeat' split) <;> rfl
  rw [swap]
  exact State.updSession_quiet _ _ _ fun _ => rfl

end

/-! ### Leases -/

/-- Where a resource is known, what is put in place is what stands there. -/
theorem Leases.get_put_self {l m : Leases} {cls idx : Nat} {x y : Lease} (known : m.get cls idx = some y) :
    (l.put cls idx x).get cls idx = some x := by
  unfold Leases.get at known
  split at known <;> simp_all [Leases.get, Leases.put] <;> obtain ⟨inRange, -⟩ := known <;> tauto

/-- The end of a lease leaves its resource free. -/
theorem State.endLease_holder (s : State) {cls idx : Nat} {e : Bool} {l : Lease} (known : s.leases.get cls idx = some l) :
    (s.endLease cls idx e).1.holder cls idx = 0 := by
  simp only [State.endLease, known, State.holder]
  rw [Leases.get_put_self known]

theorem State.leases_get_of_holds {s : State} {p : Port} {cls idx : Nat} (holds : s.holds p cls idx = true) :
    ∃ l, s.leases.get cls idx = some l ∧ l.owner = Port.id p := by
  simp only [State.holds, State.holder, beq_iff_eq] at holds
  cases known : s.leases.get cls idx with
  | none => simp [known, Port.id] at holds
  | some l => exact ⟨l, rfl, by simpa [known] using holds⟩

/-- Holding a resource, and of a JOB_POOL share the amounts with it. -/
def State.holdShare (s : State) (p : Port) (cls idx : Nat) (l : LeaseP) : State :=
  let b := s.hold p cls idx l.duration.toNat
  { b with leases := { b.leases with tags := bankSet b.leases.tags p l.tags.toNat, cores := bankSet b.leases.cores p l.coresMin.toNat } }

section
variable {t : Ticket} {p : LeaseP} {s : State} (fits : leaseOk t.hdr p false = true)
  (free : s.holder t.hdr.cls.toNat t.hdr.idx.toNat = 0 ∨ s.holder t.hdr.cls.toNat t.hdr.idx.toNat = Port.id t.hdr.port)
include fits free

theorem doLeaseTake_of_free : doLeaseTake t p s =
    if t.hdr.cls.toNat = 7 then
      if s.shareFits t.hdr.port p.tags.toNat p.coresMin.toNat then
        let u := s.holdShare t.hdr.port t.hdr.cls.toNat t.hdr.idx.toNat p
        u.reply t stOk (u.leaseReply t.hdr.cls.toNat t.hdr.idx.toNat 0)
      else s.reply t eQuota []
    else
      let u := s.hold t.hdr.port t.hdr.cls.toNat t.hdr.idx.toNat p.duration.toNat
      u.reply t stOk (u.leaseReply t.hdr.cls.toNat t.hdr.idx.toNat 0) := by
  have notOther : ¬ (s.holder t.hdr.cls.toNat t.hdr.idx.toNat ≠ 0 ∧
      s.holder t.hdr.cls.toNat t.hdr.idx.toNat ≠ Port.id t.hdr.port) := by tauto
  rw [doLeaseTake, if_neg (not_not_intro fits), if_neg notOther]
  rfl

end

theorem doLeaseTake_of_held {t : Ticket} {p : LeaseP} {s : State} (fits : leaseOk t.hdr p false = true)
    (held : s.holder t.hdr.cls.toNat t.hdr.idx.toNat ≠ 0)
    (other : s.holder t.hdr.cls.toNat t.hdr.idx.toNat ≠ Port.id t.hdr.port) :
    doLeaseTake t p s = s.reply t eContended (s.leaseReply t.hdr.cls.toNat t.hdr.idx.toNat 0) := by
  rw [doLeaseTake, if_neg (not_not_intro fits), if_pos ⟨held, other⟩]

section
variable {s : State} {h : Hdr} {ses : Session} {p : LeaseP}

theorem leaseTake_completes (ok : Accepted s h (.leaseTake p) ses) (fits : leaseOk h p false = true)
    (free : (s.accepted h).holder h.cls.toNat h.idx.toNat = 0 ∨ (s.accepted h).holder h.cls.toNat h.idx.toNat = Port.id h.port) :
    let a := s.accepted h
    let cls := h.cls.toNat
    let idx := h.idx.toNat
    if cls = 7 then
      a.shareFits h.port p.tags.toNat p.coresMin.toNat = true →
      let u := a.holdShare h.port cls idx p
      Completes (.leaseTake h p) s h 0x08 stOk (u.leaseReply cls idx 0) u
    else
      let u := a.hold h.port cls idx p.duration.toNat
      Completes (.leaseTake h p) s h 0x08 stOk (u.leaseReply cls idx 0) u := by
  have effect := doLeaseTake_of_free (t := s.ticket h (.leaseTake p) ses) fits free
  intro a cls idx
  split
  · next share =>
    intro room u
    refine completes rfl ok (by simp [Cmd.opcode]) uncounted_ok (u := u)
      (effect.trans ((if_pos share).trans (if_pos room))) ?_ (s.accepted_now h) rfl
    exact State.hold_sessions a h.port cls idx p.duration.toNat
  · next other =>
    intro u
    refine completes rfl ok (by simp [Cmd.opcode]) uncounted_ok (u := u) (effect.trans (if_neg other)) ?_ (s.accepted_now h) rfl
    exact State.hold_sessions a h.port cls idx p.duration.toNat

theorem leaseRenew_completes (ok : Accepted s h (.leaseRenew p) ses) (fits : leaseOk h p true = true)
    (own : (s.accepted h).holder h.cls.toNat h.idx.toNat = Port.id h.port) :
    let u := (s.accepted h).hold h.port h.cls.toNat h.idx.toNat p.duration.toNat
    Completes (.leaseRenew h p) s h 0x09 stOk (u.leaseReply h.cls.toNat h.idx.toNat 0) u := by
  intro u
  have fits' : leaseOk (s.ticket h (.leaseRenew p) ses).hdr p true = true := fits
  obtain ⟨l, known, owned⟩ := State.leases_get_of_holds (p := h.port) (by rw [State.holds, own]; simp)
  refine completes rfl ok (by simp [Cmd.opcode]) uncounted_ok (u := u) ?_ ?_ ?_ rfl
  · simp only [perform, doLeaseRenew, fits', not_true, if_false, State.ticket_cls, State.ticket_idx, State.ticket_port, known,
      Option.getD_some, owned, if_true]
    rfl
  · exact (State.hold_sessions (s.accepted h) h.port h.cls.toNat h.idx.toNat p.duration.toNat)
  · exact s.accepted_now h

theorem leaseTake_contended (ok : Accepted s h (.leaseTake p) ses) (fits : leaseOk h p false = true)
    (held : s.holder h.cls.toNat h.idx.toNat ≠ 0) (other : s.holder h.cls.toNat h.idx.toNat ≠ Port.id h.port) :
    ∃ t, exec (.leaseTake h p) s = .next t ∧
      Replied s t h 0x08 eContended ((s.accepted h).leaseReply h.cls.toNat h.idx.toNat 0) ∧
      t.leases = s.leases ∧ t.net.contended = satInc 65535 s.net.contended := by
  have same : (s.accepted h).holder h.cls.toNat h.idx.toNat = s.holder h.cls.toNat h.idx.toNat :=
    ok.reads (fun u => u.holder h.cls.toNat h.idx.toNat) fun _ => rfl
  obtain ⟨t, run, replied, quiet⟩ := ok.refused (e := eContended)
    (b := (s.accepted h).leaseReply h.cls.toNat h.idx.toNat 0) (i := .leaseTake h p) rfl (by simp [Cmd.opcode])
    (doLeaseTake_of_held (t := s.ticket h (.leaseTake p) ses) fits (same.trans_ne held) (same.trans_ne other))
  have counted : (s.accepted h).countStatus h.port eContended =
      { s.accepted h with net := { (s.accepted h).net with contended := satInc 65535 (s.accepted h).net.contended } } := rfl
  rw [counted] at quiet
  refine ⟨t, run, replied, ?_, ?_⟩
  · exact (congrArg State.leases quiet).trans (s.accepted_leases h)
  · have before := ok.reads (fun u => u.net.contended) fun _ => rfl
    exact (congrArg (fun u => u.net.contended) quiet).trans (congrArg (satInc 65535) before)

theorem leaseRelease_completes (ok : Accepted s h .leaseRelease ses) (own : s.holds h.port h.cls.toNat h.idx.toNat = true) :
    let r := (s.accepted h).endLease h.cls.toNat h.idx.toNat false
    CompletesLoud (.leaseRelease h) s h 0x0A stOk (r.1.leaseReply h.cls.toNat h.idx.toNat r.2) r.1 ∧
    r.1.holder h.cls.toNat h.idx.toNat = 0 := by
  intro r
  have own' : (s.accepted h).holds h.port h.cls.toNat h.idx.toNat = true :=
    (ok.reads (fun u => u.holds h.port h.cls.toNat h.idx.toNat) fun _ => rfl).trans own
  constructor
  · refine completesLoud rfl ok (by simp [Cmd.opcode]) uncounted_ok (u := r.1) ?_ ?_ ?_ rfl
    · simp only [perform, doLeaseRelease, State.ticket_cls, State.ticket_idx, State.ticket_port, own', if_true]
      rfl
    · exact State.endLease_sessions _ _ _ _
    · exact (State.endLease_now _ _ _ _).trans (s.accepted_now h)
  · obtain ⟨l, known, -⟩ := State.leases_get_of_holds own'
    exact State.endLease_holder _ known

theorem leaseRelease_notHolder (ok : Accepted s h .leaseRelease ses) (not_own : s.holds h.port h.cls.toNat h.idx.toNat = false) :
    ∃ t, exec (.leaseRelease h) s = .next t ∧ Replied s t h 0x0A eNotHolder [] ∧ t.leases = s.leases ∧
      t.net.notHolder = satInc 65535 s.net.notHolder := by
  have not_own' : (s.accepted h).holds h.port h.cls.toNat h.idx.toNat = false :=
    (ok.reads (fun u => u.holds h.port h.cls.toNat h.idx.toNat) fun _ => rfl).trans not_own
  obtain ⟨t, run, replied, quiet⟩ := ok.refused (e := eNotHolder) (b := []) (i := .leaseRelease h) rfl (by simp [Cmd.opcode]) (by
      simp only [perform, doLeaseRelease, State.ticket_cls, State.ticket_idx, State.ticket_port, not_own', Bool.false_eq_true,
        if_false])
  have counted : (s.accepted h).countStatus h.port eNotHolder =
      { s.accepted h with net := { (s.accepted h).net with notHolder := satInc 65535 (s.accepted h).net.notHolder } } := rfl
  rw [counted] at quiet
  refine ⟨t, run, replied, ?_, ?_⟩
  · exact (congrArg State.leases quiet).trans (s.accepted_leases h)
  · have before := ok.reads (fun u => u.net.notHolder) fun _ => rfl
    exact (congrArg (fun u => u.net.notHolder) quiet).trans (congrArg (satInc 65535) before)

end

/-- Settles O3, a command and an outcome at a time. -/
theorem leaseCommandsAct : Obligations.LeaseCommandsAct :=
  ⟨⟨fun _ _ _ _ ok fits free => leaseTake_completes ok fits free, fun _ _ _ _ ok fits own => leaseRenew_completes ok fits own,
      fun _ _ _ ok => ok.completes_reply rfl (by simp [Cmd.opcode]) uncounted_ok rfl,
      fun _ _ _ _ ok fits held other => leaseTake_contended ok fits held other⟩,
    fun _ _ _ ok own => leaseRelease_completes ok own, fun _ _ _ ok not_own => leaseRelease_notHolder ok not_own⟩

end Sys2Proof.Machine
end

section
/-! PROOFS. The memory commands (R154 to R157, R165, R166): a region of whole granules, its bytes written and read, and what is
refused. -/

namespace Sys2Proof.Machine

/-! ### MEM_ALLOC -/

/-- The store a PLACE names. -/
def storeAt (place : Byte) : Store := if place = 0 then .hbm else .vat

/-- The granules a size takes of a store. -/
def granulesFor (size : BitVec 64) (st : Store) : Nat := (size.toNat + st.granule - 1) / st.granule

/-- The memory with a new region of `n` granules of a store. -/
def State.grantRegion (s : State) (p : Port) (st : Store) (n : Nat) : State :=
  s.updMem fun m => { m with
    regions := m.regions ++ [⟨s.handle m.nextHandle, p, st, n * st.granule, pickSome n m.order (s.freeGranules st)⟩],
    nextHandle := m.nextHandle + 1, order := m.order + n }

section
variable {t : Ticket} {size : BitVec 64} {place : Byte} {s : State} (some_ : size ≠ 0) (known : place.toNat ≤ 1)
include some_ known

theorem doMemAlloc_of_valid : doMemAlloc t size place s =
    let st := storeAt place
    let n := granulesFor size st
    if (s.owner t.hdr.port).quotaMib * 2 ^ 20 < s.granted t.hdr.port + n * st.granule then s.reply t eQuota []
    else if 4096 ≤ s.mem.regions.length ∨ 2 ^ 24 ≤ s.mem.nextHandle ∨ s.freeCount st < n then s.reply t eNoMemory []
    else (s.grantRegion t.hdr.port st n).reply t stOk (le 4 (s.handle s.mem.nextHandle) ++ zeros 4 ++ le 8 (n * st.granule)) := by
  have valid : ¬ (size = 0 ∨ 1 < place.toNat) := by rintro (none | more); exacts [some_ none, absurd more (by omega)]
  rw [doMemAlloc, if_neg valid]
  rfl

end

/-! ### A range of a region -/

section
variable {t : Ticket} {s : State} {handle off : Nat} {bs : Bytes} {r : Region}

/-- A write to a range that lies in the region, unbound, its lines sound. -/
theorem State.storeCmd_of_sound (named : s.region t.hdr.port handle = some r) (inside : r.covers off bs.length = true)
    (unbound : s.boundBy handle false = false)
    (sound : s.firstBad r (s.domKey t.hdr.port) (partialLines off bs.length) = none) :
    s.storeCmd t handle off bs = (s.writeRange r (s.domKey t.hdr.port) off bs).reply t stOk [] := by
  simp [State.storeCmd, named, inside, unbound, sound]

theorem State.storeCmd_of_outside (outside : ∀ r, s.region t.hdr.port handle = some r → r.covers off bs.length = false) :
    s.storeCmd t handle off bs = s.reply t eRegion [] := by
  cases named : s.region t.hdr.port handle with
  | none => simp [State.storeCmd, named]
  | some r => simp [State.storeCmd, named, outside r named]

/-- What a pattern fills is as long as the range. -/
theorem length_fill {n : Nat} (whole : n % 4 = 0) (w : Nat) : ((List.replicate (n / 4) (le 4 w)).flatMap id).length = n := by
  simp; omega

/-- A read of a range of a region not bound as an output. -/
theorem doMemRead_of_named {region length : Word} {offset : BitVec 64} (aligned : offset.toNat % 4 = 0)
    (whole : length.toNat % 4 = 0) (some_ : length.toNat ≠ 0) (named : s.region t.hdr.port region.toNat = some r)
    (inside : r.covers offset.toNat length.toNat = true) (unbound : s.boundBy r.handle true = false) :
    doMemRead t region length offset s =
      match s.firstBad r (s.domKey t.hdr.port) (linesOf offset.toNat length.toNat) with
      | some (i, c) => (s.noteFault c (Port.id t.hdr.port) 0xFF region.toNat i).reply t eIntegrity []
      | none => s.reply t stOk (s.rangeBytes r (s.domKey t.hdr.port) offset.toNat length.toNat) := by
  have valid : ¬ (offset.toNat % 4 ≠ 0 ∨ length.toNat % 4 ≠ 0 ∨ length.toNat = 0) := by omega
  simp only [doMemRead, if_neg valid, named, inside, unbound, State.readRange]
  cases s.firstBad r (s.domKey t.hdr.port) (linesOf offset.toNat length.toNat) <;> rfl

/-- MEM_FILL of a range of a region is the write of the pattern. -/
theorem doMemFill_of_named {region pattern : Word} {offset length : BitVec 64} (aligned : offset.toNat % 4 = 0)
    (whole : length.toNat % 4 = 0) (named : s.region t.hdr.port region.toNat = some r)
    (inside : r.covers offset.toNat length.toNat = true) :
    doMemFill t region pattern offset length s =
      s.storeCmd t region.toNat offset.toNat ((List.replicate (length.toNat / 4) (le 4 pattern.toNat)).flatMap id) := by
  have valid : ¬ (offset.toNat % 4 ≠ 0 ∨ length.toNat % 4 ≠ 0) := by omega
  simp only [doMemFill, if_neg valid, named, inside, not_true, if_false]

end

/-! ### The commands -/

section
variable {s : State} {h : Hdr} {ses : Session} {region : Word} {r : Region}

theorem memAlloc_completes {size : BitVec 64} {place : Byte} (ok : Accepted s h (.memAlloc size place) ses) (some_ : size ≠ 0)
    (known : place.toNat ≤ 1) :
    let a := s.accepted h
    let st := storeAt place
    let n := granulesFor size st
    a.granted h.port + n * st.granule ≤ (a.owner h.port).quotaMib * 2 ^ 20 → a.mem.regions.length < 4096 →
    a.mem.nextHandle < 2 ^ 24 → n ≤ a.freeCount st →
    Completes (.memAlloc h size place) s h 0x18 stOk (le 4 (a.handle a.mem.nextHandle) ++ zeros 4 ++ le 8 (n * st.granule))
      (a.grantRegion h.port st n) := by
  intro a st n quota regions handles room
  have effect := doMemAlloc_of_valid (t := s.ticket h (.memAlloc size place) ses) (s := a) some_ known
  refine completes rfl ok (by simp [Cmd.opcode]) uncounted_ok (effect.trans ((if_neg ?_).trans (if_neg ?_))) (State.updMem_sessions _ _)
    (s.accepted_now h) rfl
  · exact Nat.not_lt.mpr quota
  · show ¬ (4096 ≤ a.mem.regions.length ∨ 2 ^ 24 ≤ a.mem.nextHandle ∨ a.freeCount st < n)
    omega

theorem memAlloc_refused {size : BitVec 64} {place : Byte} (ok : Accepted s h (.memAlloc size place) ses) (some_ : size ≠ 0)
    (known : place.toNat ≤ 1) :
    let a := s.accepted h
    let st := storeAt place
    let n := granulesFor size st
    if (a.owner h.port).quotaMib * 2 ^ 20 < a.granted h.port + n * st.granule then
      Completes (.memAlloc h size place) s h 0x18 eQuota [] s
    else a.freeCount st < n → Completes (.memAlloc h size place) s h 0x18 eNoMemory [] s := by
  intro a st n
  have effect := doMemAlloc_of_valid (t := s.ticket h (.memAlloc size place) ses) (s := a) some_ known
  split
  · next exceeds => exact ok.completes_reply rfl (by simp [Cmd.opcode]) (by decide) (effect.trans (if_pos exceeds))
  · next fits =>
    intro short
    exact ok.completes_reply rfl (by simp [Cmd.opcode]) (by decide)
      (effect.trans ((if_neg fits).trans (if_pos (Or.inr (Or.inr short)))))

theorem memFree_completes (ok : Accepted s h (.memFree region) ses) (named : s.region h.port region.toNat = some r)
    (unbound : s.boundBy r.handle false = false) :
    Completes (.memFree h region) s h 0x19 stOk []
      (s.updMem fun m => { m with regions := m.regions.filter fun x => x.handle != r.handle }) := by
  have named' := (ok.reads (fun u => u.region h.port region.toNat) fun _ => rfl).trans named
  have unbound' := (ok.reads (fun u => u.boundBy r.handle false) fun _ => rfl).trans unbound
  refine ok.completes_effect rfl (by simp [Cmd.opcode]) uncounted_ok
    (fun u => u.updMem fun m => { m with regions := m.regions.filter fun x => x.handle != r.handle }) ?_
    (State.updMem_sessions _ _) rfl fun _ => rfl
  simp only [perform, doMemFree, State.ticket_port, named', unbound', Bool.false_eq_true, if_false]

theorem memFree_unnamed (ok : Accepted s h (.memFree region) ses) (unnamed : s.region h.port region.toNat = none) :
    Completes (.memFree h region) s h 0x19 eRegion [] s := by
  have unnamed' := (ok.reads (fun u => u.region h.port region.toNat) fun _ => rfl).trans unnamed
  exact ok.completes_reply rfl (by simp [Cmd.opcode]) (by decide) (by simp only [perform, doMemFree, State.ticket_port, unnamed'])

theorem memWrite_completes {offset : BitVec 64} {data : Bytes} (ok : Accepted s h (.memWrite region offset data) ses)
    (aligned : offset.toNat % 4 = 0) :
    let a := s.accepted h
    a.region h.port region.toNat = some r → r.covers offset.toNat data.length = true → a.boundBy region.toNat false = false →
    a.firstBad r (a.domKey h.port) (partialLines offset.toNat data.length) = none →
    Completes (.memWrite h region offset data) s h 0x1A stOk [] (a.writeRange r (a.domKey h.port) offset.toNat data) := by
  intro a named inside unbound sound
  have effect := State.storeCmd_of_sound (t := s.ticket h (.memWrite region offset data) ses) named inside unbound sound
  exact completes rfl ok (by simp [Cmd.opcode]) uncounted_ok ((if_neg (not_not_intro aligned)).trans effect)
    (State.writeRange_sessions _ _ _ _ _) ((State.writeRange_now _ _ _ _ _).trans (s.accepted_now h)) rfl

theorem memWrite_outside {offset : BitVec 64} {data : Bytes} (ok : Accepted s h (.memWrite region offset data) ses)
    (aligned : offset.toNat % 4 = 0) (outside : ∀ r, s.region h.port region.toNat = some r → r.covers offset.toNat data.length = false) :
    Completes (.memWrite h region offset data) s h 0x1A eRegion [] s := by
  have same := ok.reads (fun u => u.region h.port region.toNat) fun _ => rfl
  have effect := State.storeCmd_of_outside (t := s.ticket h (.memWrite region offset data) ses) (s := s.accepted h)
    (bs := data) (handle := region.toNat) (off := offset.toNat) (fun r named => outside r (same.symm.trans named))
  exact ok.completes_reply rfl (by simp [Cmd.opcode]) (by decide) ((if_neg (not_not_intro aligned)).trans effect)

theorem memFill_completes {pattern : Word} {offset length : BitVec 64} (ok : Accepted s h (.memFill region pattern offset length) ses)
    (aligned : offset.toNat % 4 = 0) (whole : length.toNat % 4 = 0) :
    let a := s.accepted h
    let bs := (List.replicate (length.toNat / 4) (le 4 pattern.toNat)).flatMap id
    a.region h.port region.toNat = some r → r.covers offset.toNat length.toNat = true → a.boundBy region.toNat false = false →
    a.firstBad r (a.domKey h.port) (partialLines offset.toNat length.toNat) = none →
    Completes (.memFill h region pattern offset length) s h 0x1C stOk [] (a.writeRange r (a.domKey h.port) offset.toNat bs) := by
  intro a bs named inside unbound sound
  have size : bs.length = length.toNat := length_fill whole _
  have effect := State.storeCmd_of_sound (t := s.ticket h (.memFill region pattern offset length) ses) (bs := bs) named
    (size ▸ inside) unbound (size ▸ sound)
  have fill := doMemFill_of_named (t := s.ticket h (.memFill region pattern offset length) ses) (s := a) (pattern := pattern)
    aligned whole named inside
  exact completes rfl ok (by simp [Cmd.opcode]) uncounted_ok (fill.trans effect) (State.writeRange_sessions _ _ _ _ _)
    ((State.writeRange_now _ _ _ _ _).trans (s.accepted_now h)) rfl

section
variable {length : Word} {offset : BitVec 64} (ok : Accepted s h (.memRead region length offset) ses)
  (aligned : offset.toNat % 4 = 0) (whole : length.toNat % 4 = 0) (some_ : length.toNat ≠ 0)
  (inside : r.covers offset.toNat length.toNat = true)
include ok aligned whole some_ inside

theorem memRead_completes :
    let a := s.accepted h
    a.region h.port region.toNat = some r → a.boundBy r.handle true = false →
    a.firstBad r (a.domKey h.port) (linesOf offset.toNat length.toNat) = none →
    Completes (.memRead h region length offset) s h 0x1B stOk (a.rangeBytes r (a.domKey h.port) offset.toNat length.toNat) s := by
  intro a named unbound sound
  have effect := doMemRead_of_named (t := s.ticket h (.memRead region length offset) ses) aligned whole some_ named inside unbound
  rw [State.ticket_port, sound] at effect
  exact ok.completes_reply rfl (by simp [Cmd.opcode]) uncounted_ok effect

theorem memRead_bad_line {i c : Nat} (named : s.region h.port region.toNat = some r) (unbound : s.boundBy r.handle true = false)
    (bad : s.firstBad r (s.domKey h.port) (linesOf offset.toNat length.toNat) = some (i, c)) :
    Completes (.memRead h region length offset) s h 0x1B eIntegrity [] (s.noteFault c (Port.id h.port) 0xFF region.toNat i) := by
  have named' := (ok.reads (fun u => u.region h.port region.toNat) fun _ => rfl).trans named
  have unbound' := (ok.reads (fun u => u.boundBy r.handle true) fun _ => rfl).trans unbound
  have bad' := (ok.reads (fun u => u.firstBad r (u.domKey h.port) (linesOf offset.toNat length.toNat)) fun _ => rfl).trans bad
  have effect := doMemRead_of_named (t := s.ticket h (.memRead region length offset) ses) aligned whole some_ named' inside unbound'
  rw [State.ticket_port, bad'] at effect
  exact ok.completes_effect rfl (by simp [Cmd.opcode]) (by decide) (fun u => u.noteFault c (Port.id h.port) 0xFF region.toNat i) effect
    (State.noteFault_sessions _ _ _ _ _ _) rfl fun _ => rfl

end

end

/-- Settles O8, a command and an outcome at a time. -/
theorem memoryCommandsAct : Obligations.MemoryCommandsAct :=
  ⟨⟨fun _ _ _ _ _ ok some_ known => memAlloc_completes ok some_ known, fun _ _ _ _ _ ok named unbound => memFree_completes ok named unbound,
      fun _ _ _ _ _ _ _ ok aligned => memWrite_completes ok aligned,
      fun _ _ _ _ _ _ _ ok aligned whole some_ named inside => memRead_completes ok aligned whole some_ inside named,
      fun _ _ _ _ _ _ _ _ ok aligned whole => memFill_completes ok aligned whole⟩,
    fun _ _ _ _ _ ok some_ known => memAlloc_refused ok some_ known, fun _ _ _ _ ok unnamed => memFree_unnamed ok unnamed,
    fun _ _ _ _ _ _ ok aligned outside => memWrite_outside ok aligned outside,
    fun _ _ _ _ _ _ _ _ _ ok aligned whole some_ named inside unbound bad =>
      memRead_bad_line ok aligned whole some_ inside named unbound bad⟩

end Sys2Proof.Machine
end

section
/-! PROOFS. The register commands (R138, R139): what a write of registers leaves alone, its statuses, and the three commands. -/

namespace Sys2Proof.Machine

/-! ### Writes and latches leave the sessions and the tick -/

theorem thermWrite_sessions (s : State) (off v : Nat) : (thermWrite s off v).sessions = s.sessions := by
  unfold thermWrite; (repeat' split) <;> rfl

theorem thermWrite_now (s : State) (off v : Nat) : (thermWrite s off v).now = s.now := by
  unfold thermWrite; (repeat' split) <;> rfl

theorem State.updFabric_sessions (s : State) (f : Fabric → Fabric) : (s.updFabric f).sessions = s.sessions := rfl

theorem fabricWrite_sessions (s : State) (off v : Nat) : (fabricWrite s off v).sessions = s.sessions := by
  unfold fabricWrite
  repeat' with_reducible refine ite_sessions ?_ ?_
  case refine_2.refine_2.refine_2.refine_2.refine_2.refine_2.refine_2.refine_2.refine_1 => rw [State.repin_sessions, State.updFabric_sessions]
  all_goals rfl

theorem fabricWrite_now (s : State) (off v : Nat) : (fabricWrite s off v).now = s.now := by
  unfold fabricWrite
  repeat' with_reducible refine ite_now ?_ ?_
  case refine_2.refine_2.refine_2.refine_2.refine_2.refine_2.refine_2.refine_2.refine_1 => rw [State.repin_now, State.updFabric_now]
  all_goals rfl

theorem coresWrite_sessions (s : State) (off v : Nat) : (coresWrite s off v).sessions = s.sessions := by
  unfold coresWrite; (repeat' split) <;> rfl

theorem coresWrite_now (s : State) (off v : Nat) : (coresWrite s off v).now = s.now := by
  unfold coresWrite; (repeat' split) <;> rfl

theorem ownersWrite_sessions (s : State) (off v : Nat) : (ownersWrite s off v).sessions = s.sessions := by
  unfold ownersWrite
  repeat' split
  any_goals exact s.updOwner_sessions _ _ fun _ => rfl
  all_goals rfl

theorem ownersWrite_now (s : State) (off v : Nat) : (ownersWrite s off v).now = s.now := by
  unfold ownersWrite; (repeat' split) <;> rfl

theorem State.enrolWrite_sessions (s : State) (p : Port) (v : Nat) : (s.enrolWrite p v).sessions = s.sessions := by
  unfold State.enrolWrite
  split
  · rfl
  · dsimp only
    split
    · rw [State.storePush_sessions, State.updKeys_sessions, State.readRange_sessions]; rfl
    · rfl

theorem State.enrolWrite_now (s : State) (p : Port) (v : Nat) : (s.enrolWrite p v).now = s.now := by
  unfold State.enrolWrite
  split
  · rfl
  · dsimp only
    split
    · rw [State.storePush_now, State.updKeys_now, State.readRange_now]; rfl
    · rfl

theorem keysWrite_sessions (s : State) (p : Port) (off v : Nat) : (keysWrite s p off v).sessions = s.sessions := by
  unfold keysWrite
  repeat' split
  any_goals exact s.enrolWrite_sessions p v
  all_goals rfl

theorem keysWrite_now (s : State) (p : Port) (off v : Nat) : (keysWrite s p off v).now = s.now := by
  unfold keysWrite
  repeat' split
  any_goals exact s.enrolWrite_now p v
  all_goals rfl

theorem jobsWrite_sessions (s : State) (off v : Nat) : (jobsWrite s off v).sessions = s.sessions := by
  unfold jobsWrite; (repeat' split) <;> rfl

theorem jobsWrite_now (s : State) (off v : Nat) : (jobsWrite s off v).now = s.now := by
  unfold jobsWrite; (repeat' split) <;> rfl

theorem headboxWrite_sessions (s : State) (off v : Nat) : (headboxWrite s off v).sessions = s.sessions := by
  unfold headboxWrite; dsimp only; (repeat' split) <;> rfl

theorem headboxWrite_now (s : State) (off v : Nat) : (headboxWrite s off v).now = s.now := by
  unfold headboxWrite; dsimp only; (repeat' split) <;> rfl

theorem State.regPut_sessions (s : State) (p : Port) (addr v : Nat) : (s.regPut p addr v).sessions = s.sessions := by
  unfold State.regPut
  dsimp only
  (repeat' split) <;> simp [thermWrite_sessions, fabricWrite_sessions, coresWrite_sessions, ownersWrite_sessions, keysWrite_sessions,
    jobsWrite_sessions, headboxWrite_sessions]

theorem State.regPut_now (s : State) (p : Port) (addr v : Nat) : (s.regPut p addr v).now = s.now := by
  unfold State.regPut
  dsimp only
  (repeat' split) <;> simp [thermWrite_now, fabricWrite_now, coresWrite_now, ownersWrite_now, keysWrite_now, jobsWrite_now,
    headboxWrite_now]

theorem State.regLatch_sessions (s : State) (addr : Nat) : (s.regLatch addr).sessions = s.sessions := by
  unfold State.regLatch
  split
  · exact sensorsLatch_sessions _ _
  · exact tbLatch_sessions _ _
  · exact timersLatch_sessions _ _
  · exact linkLatch_sessions s (addr % 0x10000)
  · rfl

theorem State.regLatch_now (s : State) (addr : Nat) : (s.regLatch addr).now = s.now := by
  unfold State.regLatch
  split
  · exact sensorsLatch_now _ _
  · exact tbLatch_now _ _
  · exact timersLatch_now _ _
  · exact linkLatch_now s (addr % 0x10000)
  · rfl

theorem State.regReads_sessions (s : State) (l : List Nat) : (s.regReads l).1.sessions = s.sessions := by
  induction l generalizing s with
  | nil => rfl
  | cons a l ih => exact (ih _).trans (s.regLatch_sessions a)

theorem State.regReads_now (s : State) (l : List Nat) : (s.regReads l).1.now = s.now := by
  induction l generalizing s with
  | nil => rfl
  | cons a l ih => exact (ih _).trans (s.regLatch_now a)

/-! ### A run of writes -/

/-- Writing values one after another. -/
def State.regPuts (s : State) (p : Port) (ws : List (Nat × Nat)) : State := ws.foldl (fun s w => s.regPut p w.1 w.2) s

theorem State.regPuts_sessions (s : State) (p : Port) (ws : List (Nat × Nat)) : (s.regPuts p ws).sessions = s.sessions :=
  foldl_sessions ws s _ fun s w => s.regPut_sessions p w.1 w.2

theorem State.regPuts_now (s : State) (p : Port) (ws : List (Nat × Nat)) : (s.regPuts p ws).now = s.now :=
  foldl_now ws s _ fun s w => s.regPut_now p w.1 w.2

theorem State.tryWrites_fst (s : State) (p : Port) (ws : List (Nat × Nat)) : (s.tryWrites p ws).1 = s.regPuts p ws := by
  induction ws generalizing s with
  | nil => rfl
  | cons w ws ih => exact ih _

/-- Noting the result of a CAM_COMMIT touches the headbox alone. -/
theorem State.noteCam_only (s : State) (p : Port) (ws : List (Nat × Nat)) (acc : State) :
    ∃ x, s.noteCam p ws acc = { acc with headbox := x } := by
  induction ws generalizing s acc with
  | nil => exact ⟨acc.headbox, rfl⟩
  | cons w ws ih =>
    unfold State.noteCam
    dsimp only
    obtain ⟨x, noted⟩ := ih (s.regPut p w.1 w.2) _
    refine ⟨x, noted.trans ?_⟩
    (repeat' split) <;> rfl

/-- A status no refusal of a register value is counted by. -/
theorem inRange_uncounted (b : Bool) : Uncounted (inRange b) := by cases b <;> decide

theorem fabricCheck_uncounted (s : State) (off v : Nat) : Uncounted (fabricCheck s off v) := by
  unfold fabricCheck State.dbgStatus
  dsimp only
  (repeat' split) <;> decide

theorem keysCheck_uncounted (s : State) (p : Port) (off v : Nat) : Uncounted (keysCheck s p off v) := by
  unfold keysCheck State.enrolCheck
  (repeat' split) <;> decide

theorem sensorsCheck_uncounted (s : State) (off : Nat) : Uncounted (sensorsCheck s off) := by
  unfold sensorsCheck
  dsimp only
  (repeat' split) <;> decide

theorem axesCheck_uncounted (s : State) (off v : Nat) : Uncounted (axesCheck s off v) := by
  unfold axesCheck
  dsimp only
  (repeat' split) <;> decide

theorem linkCheck_uncounted (s : State) (off v : Nat) : Uncounted (linkCheck s off v) := by
  unfold linkCheck
  dsimp only
  (repeat' split) <;> decide

theorem State.regStatus_uncounted (s : State) (p : Port) (addr v : Nat) : Uncounted (s.regStatus p addr v) := by
  unfold State.regStatus
  dsimp only
  (repeat' split) <;> apply_rules [inRange_uncounted, fabricCheck_uncounted, keysCheck_uncounted, sensorsCheck_uncounted,
    axesCheck_uncounted, linkCheck_uncounted, uncounted_ok]

theorem State.tryWrites_uncounted (s : State) (p : Port) (ws : List (Nat × Nat)) : ∀ e ∈ (s.tryWrites p ws).2, Uncounted e := by
  induction ws generalizing s with
  | nil => exact fun _ none => absurd none (List.not_mem_nil)
  | cons w ws ih => exact List.forall_mem_cons.mpr ⟨s.regStatus_uncounted p w.1 w.2, ih _⟩

/-- The three ends of a write of registers (R139): every value written, nothing but a CAM_COMMIT's RESULT, nothing at all. -/
theorem State.regWrites_cases (s : State) (p : Port) (cls idx : Nat) (ws : List (Nat × Nat)) :
    s.regWrites p cls idx ws = (s.regPuts p ws, stOk) ∨ s.regWrites p cls idx ws = (s.noteCam p ws s, eParam) ∨
      ∃ e, e ≠ stOk ∧ Uncounted e ∧ s.regWrites p cls idx ws = (s, e) := by
  unfold State.regWrites
  dsimp only
  split
  · exact .inr (.inr ⟨eParam, by decide, by decide, rfl⟩)
  · split
    · exact .inr (.inl rfl)
    · split
      · next e found =>
        refine .inr (.inr ⟨e, ?_, s.tryWrites_uncounted p ws e (List.mem_of_find?_eq_some found), rfl⟩)
        simpa using List.find?_some found
      · rw [State.tryWrites_fst]; exact .inl rfl

section
variable {s : State} {p : Port} {cls idx : Nat} {ws : List (Nat × Nat)}

theorem State.regWrites_uncounted : Uncounted (s.regWrites p cls idx ws).2 := by
  rcases s.regWrites_cases p cls idx ws with all | cam | ⟨e, -, plain, none⟩
  · rw [all]; exact uncounted_ok
  · rw [cam]; exact uncounted_param
  · rw [none]; exact plain

theorem State.regWrites_sessions : (s.regWrites p cls idx ws).1.sessions = s.sessions := by
  rcases s.regWrites_cases p cls idx ws with all | cam | ⟨e, -, -, none⟩
  · rw [all]; exact s.regPuts_sessions p ws
  · obtain ⟨x, noted⟩ := s.noteCam_only p ws s
    rw [cam, noted]; rfl
  · rw [none]

theorem State.regWrites_now : (s.regWrites p cls idx ws).1.now = s.now := by
  rcases s.regWrites_cases p cls idx ws with all | cam | ⟨e, -, -, none⟩
  · rw [all]; exact s.regPuts_now p ws
  · obtain ⟨x, noted⟩ := s.noteCam_only p ws s
    rw [cam, noted]
  · rw [none]

/-- Accepted, a write puts every value; turned away it leaves the state but for a CAM_COMMIT's RESULT. -/
theorem State.regWrites_all_or_none : let r := s.regWrites p cls idx ws
    (r.2 = stOk → r.1 = s.regPuts p ws) ∧ (r.2 ≠ stOk → r.1 = s ∨ (r.2 = eParam ∧ r.1 = s.noteCam p ws s)) := by
  rcases s.regWrites_cases p cls idx ws with all | cam | ⟨e, bad, -, none⟩
  · simp [all]
  · simp [cam, stOk, eParam]
  · simp [none, bad]

end

/-! ### The commands -/

section
variable {s : State} {h : Hdr} {ses : Session} {addr count : Word}

theorem regRead_completes (ok : Accepted s h (.regRead addr count) ses) (now : s.readWaits addr.toNat count.toNat = false) :
    let r := (s.accepted h).regReads (regAddrs addr.toNat count.toNat)
    if count.toNat = 0 ∨ 256 < count.toNat then Completes (.regRead h addr count) s h 0x10 eParam [] s
    else Completes (.regRead h addr count) s h 0x10 stOk r.2 r.1 := by
  intro r
  have row := exec_regRead_of_not_waits h now
  split
  · next bad => exact ok.completes_reply row (by simp [Cmd.opcode]) uncounted_param (if_pos bad)
  · next good =>
    exact completes row ok (by simp [Cmd.opcode]) uncounted_ok (if_neg good) (State.regReads_sessions _ _)
      ((State.regReads_now _ _).trans (s.accepted_now h)) rfl

theorem regWrite_completes {w : RegWriteP} (ok : Accepted s h (.regWrite w) ses) :
    let a := s.accepted h
    let ws := (regAddrs w.addr.toNat w.count.toNat).zip (w.values.map BitVec.toNat)
    let r := a.regWrites h.port h.cls.toNat h.idx.toNat ws
    if w.count.toNat = 0 ∨ 64 < w.count.toNat then Completes (.regWrite h w) s h 0x11 eParam [] s
    else
      ((r.2 = stOk → r.1 = a.regPuts h.port ws) ∧
        (r.2 ≠ stOk → r.1 = a ∨ (r.2 = eParam ∧ r.1 = a.noteCam h.port ws a))) ∧
      CompletesLoud (.regWrite h w) s h 0x11 r.2 [] r.1 := by
  intro a ws r
  split
  · next bad => exact ok.completes_reply rfl (by simp [Cmd.opcode]) uncounted_param (if_pos bad)
  · next good =>
    refine ⟨State.regWrites_all_or_none, ?_⟩
    exact completesLoud rfl ok (by simp [Cmd.opcode]) State.regWrites_uncounted (if_neg good) State.regWrites_sessions
      (State.regWrites_now.trans (s.accepted_now h)) rfl

theorem regModify_completes {mask value : Word} (ok : Accepted s h (.regModify addr mask value) ses) :
    let a := s.accepted h
    let old := word (a.regWord addr.toNat)
    let new := ((old &&& ~~~ mask) &&& ~~~ word (regW1c addr.toNat)) ||| (value &&& mask)
    let r := (a.regLatch addr.toNat).regWrites h.port h.cls.toNat h.idx.toNat [(addr.toNat, new.toNat)]
    r.2 = stOk →
    CompletesLoud (.regModify h addr mask value) s h 0x12 stOk (le 4 old.toNat ++ le 4 (r.1.regWord addr.toNat))
      { r.1 with free := r.1.free + 6 } := by
  intro a old new r written
  refine completesLoud rfl ok (by simp [Cmd.opcode]) uncounted_ok (if_pos written) ?_ ?_ rfl
  · exact State.regWrites_sessions.trans (a.regLatch_sessions addr.toNat)
  · exact State.regWrites_now.trans ((a.regLatch_now addr.toNat).trans (s.accepted_now h))

end

/-- Settles O6, a command at a time. -/
theorem registerCommandsComplete : Obligations.RegisterCommandsComplete := by
  refine ⟨?waits, fun _ _ _ _ _ ok now => regRead_completes ok now, fun _ _ _ _ ok => regWrite_completes ok,
    fun _ _ _ _ _ _ ok => regModify_completes ok⟩
  case waits =>
    intro s h addr count waits
    change execRegRead h addr count s = _
    simp [execRegRead, waits]

end Sys2Proof.Machine
end

section
/-! PROOFS. A reply that is in its session's cache stays there while other commands are answered, and effects that come after a
reply. -/

namespace Sys2Proof.Machine

/-! ### The session of an owner -/

theorem State.updSession_session (s : State) (p q : Port) (f : Session → Session) :
    ((s.updSession p f).owner q).session = if p = q then (s.owner q).session.map f else (s.owner q).session := by
  simp only [State.updSession, State.owner, State.updOwner_owners, bankUpd_get]
  split <;> rfl

theorem State.updOwner_session {s : State} {p : Port} {f : OwnerState → OwnerState} (keeps : ∀ o, (f o).session = o.session) (q : Port) :
    ((s.updOwner p f).owner q).session = (s.owner q).session := by
  simp only [State.owner, State.updOwner_owners, bankUpd_get]
  split
  · exact keeps _
  · rfl

theorem State.countStatus_session (s : State) (p q : Port) (e : Nat) :
    ((s.countStatus p e).owner q).session = (s.owner q).session := by
  unfold State.countStatus
  split
  · refine State.updOwner_session ?_ q
    exact fun _ => rfl
  · split
    · refine State.updOwner_session ?_ q
      exact fun _ => rfl
    · (repeat' split) <;> rfl

theorem State.owner_of_owners {s t : State} (same : t.owners = s.owners) (p : Port) : t.owner p = s.owner p := by
  rw [State.owner, same, ← State.owner]

theorem State.transmit_session (s : State) (p q : Port) (v : Carriage) (k : Packet) :
    ((s.transmit p v k).owner q).session = (s.owner q).session := by
  rw [State.owner_of_owners (s.transmit_owners p v k)]

theorem State.plainReply_session (s : State) (h : Hdr) (op e : Nat) (b : Bytes) (q : Port) :
    ((s.plainReply h op e b).owner q).session = (s.owner q).session := by
  rw [State.plainReply, State.transmit_session, State.countStatus_session]

/-! ### An entry of the reply cache -/

/-- The session of a port, under the device key `k`, has the entry `e` in its cache. -/
def State.Caches (s : State) (p : Port) (k : Bytes) (e : Cached) : Prop :=
  ∃ x, (s.owner p).session = some x ∧ x.keyD = k ∧ x.cache.find? (fun c => c.seq == e.seq) = some e

theorem State.Caches.of_session {s t : State} {p : Port} {k : Bytes} {e : Cached} (same : (t.owner p).session = (s.owner p).session)
    (cached : s.Caches p k e) : t.Caches p k e := by
  obtain ⟨x, hx, key, found⟩ := cached
  exact ⟨x, same.trans hx, key, found⟩

theorem State.Caches.of_owners {s t : State} {p : Port} {k : Bytes} {e : Cached} (same : t.owners = s.owners)
    (cached : s.Caches p k e) : t.Caches p k e :=
  .of_session (congrArg OwnerState.session (State.owner_of_owners same p)) cached

/-- A change of the sessions that keeps the key and finds the entry still. -/
theorem State.Caches.updSession {s : State} {p q : Port} {k : Bytes} {e : Cached} {f : Session → Session}
    (keeps : q = p → ∀ x : Session, x.cache.find? (fun c => c.seq == e.seq) = some e →
      (f x).keyD = x.keyD ∧ (f x).cache.find? (fun c => c.seq == e.seq) = some e)
    (cached : s.Caches p k e) : (s.updSession q f).Caches p k e := by
  obtain ⟨x, hx, key, found⟩ := cached
  by_cases hq : q = p
  · obtain ⟨sameKey, still⟩ := keeps hq x found
    exact ⟨f x, by rw [State.updSession_session, if_pos hq, hx]; rfl, sameKey.trans key, still⟩
  · exact ⟨x, by rw [State.updSession_session, if_neg hq, hx], key, found⟩

/-- Writing the reply of another number leaves an entry of the cache. -/
theorem find_cached_map {l : List Cached} {q : Nat} {e : Cached} {r : Cached → Cached} (other : q ≠ e.seq)
    (number : ∀ c, (r c).seq = c.seq) (found : l.find? (fun c => c.seq == e.seq) = some e) :
    (l.map fun c => if c.seq = q then r c else c).find? (fun c => c.seq == e.seq) = some e := by
  have same : (fun c : Cached => c.seq == e.seq) ∘ (fun c => if c.seq = q then r c else c) = fun c => c.seq == e.seq := by
    funext c
    simp only [Function.comp_apply]
    split
    · rw [number]
    · rfl
  have itself : e.seq ≠ q := fun h => other h.symm
  rw [List.find?_map, same, found, Option.map_some, if_neg itself]

theorem find_cached_filter {l : List Cached} {q : Nat} {e : Cached} (other : q ≠ e.seq)
    (found : l.find? (fun c => c.seq == e.seq) = some e) :
    (l.filter fun c => c.seq != q).find? (fun c => c.seq == e.seq) = some e := by
  rw [List.find?_filter]
  refine (congrArg (fun f => l.find? f) ?_).trans found
  funext c
  by_cases h : c.seq = e.seq
  · simp [h, Ne.symm other]
  · simp [h]

/-- Answering a command leaves what the cache holds of every other. -/
theorem State.Caches.reply {s : State} {t : Ticket} {st : Nat} {b : Bytes} {p : Port} {k : Bytes} {e : Cached}
    (other : t.hdr.port = p → t.hdr.seq.toNat ≠ e.seq) (cached : s.Caches p k e) : (s.reply t st b).Caches p k e := by
  unfold State.reply
  split
  · exact .of_session (State.plainReply_session _ _ _ _ _ _) cached
  · split
    · refine .of_session (State.plainReply_session _ _ _ _ _ _) (.updSession (fun hp x found => ?_) cached)
      split
      · exact ⟨rfl, find_cached_filter (other hp) found⟩
      · exact ⟨rfl, found⟩
    · split
      · exact .of_owners (State.dropPacket_owners _ _) cached
      · split
        · refine .of_session (State.transmit_session _ _ _ _ _) (.of_session (State.countStatus_session _ _ _ _)
            (.updSession (fun hp x found => ⟨rfl, find_cached_map (other hp) (fun _ => rfl) found⟩) cached))
        · exact .of_owners (State.dropPacket_owners _ _) cached

theorem Replied.caches {s t : State} {h : Hdr} {op st : Nat} {b : Bytes} (replied : Replied s t h op st b) :
    ∃ k, t.Caches h.port k ⟨h.seq.toNat, some (replyPacket h op st b (some k) h.enc), s.now⟩ := by
  obtain ⟨x, hx, found⟩ := replied
  exact ⟨x.keyD, x, hx, rfl, found⟩

theorem State.Caches.replied {s t : State} {h : Hdr} {op st : Nat} {b k : Bytes}
    (cached : t.Caches h.port k ⟨h.seq.toNat, some (replyPacket h op st b (some k) h.enc), s.now⟩) : Replied s t h op st b := by
  obtain ⟨x, hx, rfl, found⟩ := cached
  exact ⟨x, hx, found⟩

theorem Replied.of_owners {s t u : State} {h : Hdr} {op st : Nat} {b : Bytes} (same : u.owners = t.owners)
    (replied : Replied s t h op st b) : Replied s u h op st b := by
  obtain ⟨x, hx, found⟩ := replied
  exact ⟨x, by rw [State.owner_of_owners same, hx], found⟩

/-! ### Effects after a reply -/

section
variable {s : State} {h : Hdr} {c : Cmd} {ses : Session} (ok : Accepted s h c ses) (op : c.opcode ≠ 0x02)
include ok op

/-- A reply from a state with the accepted state's sessions is in its session's cache, whatever its status. -/
theorem Accepted.replied {u : State} {e : Nat} {b : Bytes} (sessions : u.sessions = (s.accepted h).sessions) (now : u.now = s.now) :
    Replied s (u.reply (s.ticket h c ses) e b) h c.opcode e b := by
  have hx : u.sessions.get h.port = (s.accepted h).sessions.get h.port := by rw [sessions]
  rw [State.sessions_get, State.sessions_get, ok.session_eq] at hx
  obtain ⟨x, hx, core⟩ := Option.map_eq_some_iff.mp hx
  have serial : x.core.serial = (ses.took h.seq.toNat).core.serial := by rw [core]
  have cache : x.cache = cachePut h.seq.toNat ses.cache := congrArg Session.cache core
  refine ⟨_, reply_session rfl op hx serial, ?_⟩
  simp only [cache, cachePut, List.take_succ_cons, List.map_cons, State.ticket_seq, if_true, List.find?_cons, beq_self_eq_true, now]
  rfl

omit op in
theorem Accepted.calm : (s.accepted h).calm = true := State.accepted_calm ok.1.2.2.2.2.2.2.2.2.1 ok.1.2.2.2.2.2.2.2.2.2

/-- A command whose effect goes on after its reply, without touching the owners. -/
theorem completes_then {i : Instr} (row : exec i s = .next (s.serve h c)) {u v : State} {e : Nat} {b : Bytes} (plain : Uncounted e)
    (g : State → State) (effect : perform (s.ticket h c ses) c (s.accepted h) = g (u.reply (s.ticket h c ses) e b))
    (sessions : u.sessions = (s.accepted h).sessions) (now : u.now = s.now) (owners : ∀ w, (g w).owners = w.owners)
    (blind : ∀ w, (g w).quiet = g w.quiet) (quiet : (g u).quiet = v.quiet) : Completes i s h c.opcode e b v := by
  have settled : (g (u.reply (s.ticket h c ses) e b)).calm = true :=
    State.calm_of_sessions (State.sessions_of_owners (owners _)) (State.reply_keeps_calm (State.calm_of_sessions sessions ok.calm))
  have served : s.serve h c = g (u.reply (s.ticket h c ses) e b) := by rw [serve_accepted ok, effect, State.finish_calm settled]
  refine ⟨_, row.trans (congrArg _ served), .of_owners (owners _) (ok.replied op sessions now), ?_⟩
  rw [blind, State.reply_quiet _ _ _ plain, ← blind, quiet]

end

end Sys2Proof.Machine
end

section
/-! PROOFS. Graphs and the submission of jobs (R142, R201, R202): GRAPH_LOAD, GRAPH_UNLOAD and JOB_SUBMIT. -/

namespace Sys2Proof.Machine

/-! ### Banks as lists -/

theorem bankList_any {α : Type} {n : Nat} (v : Vector α n) (f : Fin n × α → Bool) :
    (bankList v).any f = true ↔ ∃ k, f (k, v.get k) = true := by
  simp [bankList, List.any_map]

theorem bankList_any_eq_false {α : Type} {n : Nat} (v : Vector α n) (f : Fin n × α → Bool) :
    (bankList v).any f = false ↔ ∀ k, f (k, v.get k) = false := by
  rw [← Bool.not_eq_true, bankList_any]
  simp

/-- The first place of a bank that a test passes. -/
theorem bankList_find?_first {α : Type} {n : Nat} {v : Vector α n} {f : Fin n × α → Bool} {k : Fin n} (here : f (k, v.get k) = true)
    (before : ∀ i, i < k → f (i, v.get i) = false) : (bankList v).find? f = some (k, v.get k) := by
  rw [List.find?_eq_some_iff_getElem]
  refine ⟨here, k.val, by simp [bankList], by simp [bankList], fun i lt => ?_⟩
  have := before ⟨i, lt.trans k.isLt⟩ (Fin.mk_lt_of_lt_val lt)
  simpa [bankList] using this

theorem bankUpd_bankSet {α : Type} {n : Nat} (v : Vector α n) (i : Fin n) (x : α) (f : α → α) :
    bankUpd (bankSet v i x) i f = bankSet v i (f x) := bankUpd_bankUpd v i (fun _ => x) f

/-! ### Reading a range -/

/-- What reading a range gives depends on the memory alone. -/
theorem State.readRange_of_mem {s t : State} (same : t.mem = s.mem) (p : Port) (r o n : Nat) :
    (t.readRange p r o n).1 = (s.readRange p r o n).1 ∧ (t.readRange p r o n).2.2 = (s.readRange p r o n).2.2 := by
  have region : t.region p r = s.region p r := by rw [State.region, same, ← State.region]
  have bad (x : Region) (l : List Nat) : t.firstBad x (t.domKey p) l = s.firstBad x (s.domKey p) l := by
    simp only [State.firstBad, State.domKey, same]; rfl
  have bytes (x : Region) : t.rangeBytes x (t.domKey p) o n = s.rangeBytes x (s.domKey p) o n := by
    simp only [State.rangeBytes, State.domKey, same]
  unfold State.readRange
  rw [region]
  cases s.region p r with
  | none => exact ⟨rfl, rfl⟩
  | some x =>
    dsimp only
    rw [bad, bytes]
    split
    · exact ⟨rfl, rfl⟩
    · cases s.firstBad x (s.domKey p) (linesOf o n) <;> exact ⟨rfl, rfl⟩

/-- A read that succeeds changes nothing. -/
theorem State.readRange_state {s : State} {p : Port} {r o n : Nat} (read : (s.readRange p r o n).1 = stOk) :
    (s.readRange p r o n).2.1 = s := by
  revert read
  unfold State.readRange
  cases s.region p r with
  | none => exact fun _ => rfl
  | some x =>
    dsimp only
    split
    · exact fun _ => rfl
    · split
      · next bad => exact fun read => absurd (show eIntegrity = stOk from read) (by decide)
      · exact fun _ => rfl

/-! ### GRAPH_LOAD and GRAPH_UNLOAD -/

/-- A graph in place, its copy taken from the SELF pool. -/
def State.addGraph (s : State) (g : Graph) : State :=
  (s.updMem fun m => { m with nextHandle := m.nextHandle + 1, selfMib := m.selfMib + g.copyMib }).updJobs
    fun j => { j with graphs := j.graphs ++ [g] }

/-- A graph gone, its copy returned to the SELF pool. -/
def State.dropGraph (s : State) (g : Graph) : State :=
  (s.updMem fun m => { m with selfMib := m.selfMib - g.copyMib }).updJobs
    fun j => { j with graphs := j.graphs.filter fun x => x.handle != g.handle }

/-- A job not yet ended runs a graph. -/
def State.runsGraph (s : State) (g : Graph) : Bool :=
  (bankList s.jobs.tags).any fun x =>
    match x.2 with
    | some j => !j.st.ended && j.graph.handle == g.handle
    | none => false

theorem State.runsGraph_iff (s : State) (g : Graph) :
    s.runsGraph g = true ↔ ∃ k j, s.job k = some j ∧ j.st.ended = false ∧ j.graph.handle = g.handle := by
  rw [State.runsGraph, bankList_any]
  refine exists_congr fun k => ?_
  rw [← State.job]
  cases s.job k <;> simp

theorem doGraphUnload_eq {t : Ticket} {x : Word} {s : State} {g : Graph} (named : s.graph t.hdr.port x.toNat = some g) :
    doGraphUnload t x s = if s.runsGraph g then s.reply t eBusy [] else (s.dropGraph g).reply t stOk [] := by
  rw [doGraphUnload, named]
  rfl

theorem doGraphLoad_eq {t : Ticket} {region length : Word} {offset : BitVec 64} {s : State} (aligned : offset.toNat % 4 = 0)
    (whole : length.toNat % 4 = 0) (least : 4 ≤ length.toNat) (most : length.toNat ≤ 16777216)
    (read : (s.readRange t.hdr.port region.toNat offset.toNat length.toNat).1 = stOk) :
    doGraphLoad t region offset length s =
      let bytes := (s.readRange t.hdr.port region.toNat offset.toNat length.toNat).2.2
      match checkGraph bytes s.oplib with
      | some (i, c) => s.reply t eGraph (noneError i c)
      | none =>
        let g := graphOf bytes (s.handle s.mem.nextHandle) t.hdr.port
        if 256 ≤ s.jobs.graphs.length ∨ 2 ^ 24 ≤ s.mem.nextHandle ∨ 1024 < s.mem.selfMib + g.copyMib then s.reply t eNoMemory []
        else (s.addGraph g).reply t stOk (le 4 g.handle ++ le 4 g.nodes.length ++ le 4 g.slots.length ++ le 4 g.records) := by
  have valid : ¬ (offset.toNat % 4 ≠ 0 ∨ length.toNat % 4 ≠ 0 ∨ length.toNat < 4 ∨ 16777216 < length.toNat) := by omega
  simp only [doGraphLoad, if_neg valid, read, ne_eq, not_true, if_false, State.readRange_state read]
  rfl

section
variable {s : State} {h : Hdr} {ses : Session}

theorem graphLoad_completes {region length : Word} {offset : BitVec 64} (ok : Accepted s h (.graphLoad region offset length) ses)
    (aligned : offset.toNat % 4 = 0) (whole : length.toNat % 4 = 0) (least : 4 ≤ length.toNat) (most : length.toNat ≤ 16777216) :
    let r := s.readRange h.port region.toNat offset.toNat length.toNat
    r.1 = stOk →
    let g := graphOf r.2.2 (s.handle s.mem.nextHandle) h.port
    (∀ i c, checkGraph r.2.2 s.oplib = some (i, c) →
      Completes (.graphLoad h region offset length) s h 0x20 eGraph (le 4 i ++ le 4 c) s) ∧
    (checkGraph r.2.2 s.oplib = none → s.jobs.graphs.length < 256 → s.mem.nextHandle < 2 ^ 24 →
      s.mem.selfMib + g.copyMib ≤ 1024 →
      Completes (.graphLoad h region offset length) s h 0x20 stOk
        (le 4 g.handle ++ le 4 g.nodes.length ++ le 4 g.slots.length ++ le 4 g.records) (s.addGraph g)) := by
  intro r read g
  obtain ⟨status, bytes⟩ := State.readRange_of_mem (s.accepted_mem h) h.port region.toNat offset.toNat length.toNat
  have effect := doGraphLoad_eq (t := s.ticket h (.graphLoad region offset length) ses) (s := s.accepted h) aligned whole least most
    (status.trans read)
  have oplib := ok.reads State.oplib fun _ => rfl
  have handle := ok.reads (fun u => u.handle u.mem.nextHandle) fun _ => rfl
  simp only [State.ticket_port, bytes, oplib, State.accepted_mem, State.accepted_jobs] at effect
  simp only [State.accepted_mem] at handle
  rw [handle] at effect
  constructor
  · intro i c bad
    simp only [show checkGraph (s.readRange h.port region.toNat offset.toNat length.toNat).2.2 s.oplib = some (i, c) from bad] at effect
    exact ok.completes_reply rfl (by simp [Cmd.opcode]) (by decide) effect
  · intro sound graphs handles room
    simp only [show checkGraph (s.readRange h.port region.toNat offset.toNat length.toNat).2.2 s.oplib = none from sound] at effect
    have fits : ¬ (256 ≤ s.jobs.graphs.length ∨ 2 ^ 24 ≤ s.mem.nextHandle ∨ 1024 < s.mem.selfMib + g.copyMib) := by omega
    exact ok.completes_effect rfl (by simp [Cmd.opcode]) uncounted_ok (fun u => u.addGraph g) (effect.trans (if_neg fits))
      (State.updJobs_sessions _ _) rfl fun _ => rfl

theorem graphUnload_completes {x : Word} {g : Graph} (ok : Accepted s h (.graphUnload x) ses) (named : s.graph h.port x.toNat = some g) :
    if s.runsGraph g then Completes (.graphUnload h x) s h 0x21 eBusy [] s
    else Completes (.graphUnload h x) s h 0x21 stOk [] (s.dropGraph g) := by
  have effect := doGraphUnload_eq (t := s.ticket h (.graphUnload x) ses) (s := s.accepted h)
    ((ok.reads (fun u => u.graph h.port x.toNat) fun _ => rfl).trans named)
  rw [ok.reads (fun u => u.runsGraph g) fun _ => rfl] at effect
  split
  · next used => exact ok.completes_reply rfl (by simp [Cmd.opcode]) uncounted_busy (effect.trans (if_pos used))
  · next unused =>
    exact ok.completes_effect rfl (by simp [Cmd.opcode]) uncounted_ok (fun u => u.dropGraph g) (effect.trans (if_neg unused))
      (State.updJobs_sessions _ _) rfl fun _ => rfl

end

/-! ### Tokens and the jobs that wait on them -/

@[simp] theorem State.updToken_owners (s : State) (id : Nat) (f : Token → Token) : (s.updToken id f).owners = s.owners := rfl
@[simp] theorem State.updToken_job (s : State) (id : Nat) (f : Token → Token) (t : Fin 64) : (s.updToken id f).job t = s.job t := rfl

theorem State.makeReady_owners (s : State) (t : Fin 64) : (s.makeReady t).owners = s.owners := rfl

theorem State.tryReady_owners (s : State) (t : Fin 64) : (s.tryReady t).owners = s.owners := by
  unfold State.tryReady
  split
  · rfl
  · dsimp only; split <;> rfl

theorem State.tryReady_tokens (s : State) (t : Fin 64) : (s.tryReady t).jobs.tokens = s.jobs.tokens := by
  unfold State.tryReady
  split
  · rfl
  · dsimp only; split <;> rfl

/-- Whatever holds through each service of a waiter holds when a token's queue is served. -/
theorem State.serveToken_induct {P : State → Prop} {id : Nat} (step : ∀ (s : State) k w rest, P s →
      s.jobs.tokens.find? (fun t => t.id == id) = some k → k.waiters = w :: rest →
      P ((s.updToken id fun t => { t with count := t.count - w.amount, waiters := rest }).served w (k.count - w.amount)))
    (n : Nat) (s : State) (start : P s) : P (State.serveToken id n s) := by
  induction n generalizing s with
  | zero => exact start
  | succ n ih =>
    unfold State.serveToken
    split
    · exact start
    · next k found =>
      split
      · exact start
      · next w rest waits =>
        split
        · exact ih _ (step s k w rest start found waits)
        · exact start

/-- The job under a tag is the one submitted, at WAITING or READY, no attempt made. -/
def State.Queued (s : State) (tag : Fin 64) (o : Port) (g : Graph) (binds : List Binding) (retry : Nat) : Prop :=
  ∃ j, s.job tag = some j ∧ j.port = o ∧ j.graph = g ∧ j.binds = binds ∧ j.attempt = 0 ∧ j.final = 0xFFFF ∧ j.retry = retry ∧
    (j.st = .waiting ∨ j.st = .ready)

section
variable {s : State} {tag : Fin 64} {o : Port} {g : Graph} {binds : List Binding} {retry : Nat}

/-- A change of a job that keeps what was submitted, and leaves it WAITING or READY. -/
theorem State.Queued.updJob {t : Fin 64} {f : Job → Job} (keeps : ∀ j, (f j).port = j.port ∧ (f j).graph = j.graph ∧
      (f j).binds = j.binds ∧ (f j).attempt = j.attempt ∧ (f j).final = j.final ∧ (f j).retry = j.retry)
    (state : ∀ j, (f j).st = j.st ∨ (f j).st = .ready) (queued : s.Queued tag o g binds retry) :
    (s.updJob t f).Queued tag o g binds retry := by
  obtain ⟨j, here, port, graph, bound, attempt, final, retries, st⟩ := queued
  by_cases same : t = tag
  · subst same
    obtain ⟨kport, kgraph, kbinds, kattempt, kfinal, kretry⟩ := keeps j
    refine ⟨f j, by rw [State.updJob_job, here]; rfl, kport.trans port, kgraph.trans graph, kbinds.trans bound,
      kattempt.trans attempt, kfinal.trans final, kretry.trans retries, ?_⟩
    rcases state j with stays | ready
    · rwa [stays]
    · exact .inr ready
  · refine ⟨j, ?_, port, graph, bound, attempt, final, retries, st⟩
    have := bankUpd_get s.jobs.tags t tag (Option.map f)
    exact (this.trans (if_neg same)).trans here

theorem State.Queued.of_jobs {t : State} (same : t.jobs = s.jobs) (queued : s.Queued tag o g binds retry) :
    t.Queued tag o g binds retry := by
  simpa only [State.Queued, State.job_of_jobs same] using queued

theorem State.Queued.tryReady {t : Fin 64} (queued : s.Queued tag o g binds retry) : (s.tryReady t).Queued tag o g binds retry := by
  unfold State.tryReady
  split
  · exact queued
  · dsimp only
    split
    · refine State.Queued.updJob (s := State.updJob _ _ _) (fun _ => ?_) (fun _ => .inr rfl) (.updJob (fun _ => ?_) (fun _ => .inl rfl) queued)
      · exact ⟨rfl, rfl, rfl, rfl, rfl, rfl⟩
      · exact ⟨rfl, rfl, rfl, rfl, rfl, rfl⟩
    · exact queued

end

/-- No command of a port under a sequence number waits on a token. -/
def State.NoneWaits (s : State) (p : Port) (q : Word) : Prop :=
  ∀ k ∈ s.jobs.tokens, ∀ tk n d, Waiter.host tk n d ∈ k.waiters → tk.hdr.port = p → tk.hdr.seq ≠ q

theorem State.NoneWaits.of_tokens {s t : State} {p : Port} {q : Word} (same : t.jobs.tokens = s.jobs.tokens) (none_ : s.NoneWaits p q) :
    t.NoneWaits p q := by
  rw [State.NoneWaits, same]; exact none_

/-- A change of a token that brings no command of the port under the number. -/
theorem State.NoneWaits.updToken {s : State} {p : Port} {q : Word} {id : Nat} {f : Token → Token}
    (fewer : ∀ k ∈ s.jobs.tokens, k.id = id → ∀ tk n d, Waiter.host tk n d ∈ (f k).waiters → tk.hdr.port = p → tk.hdr.seq ≠ q)
    (none_ : s.NoneWaits p q) : (s.updToken id f).NoneWaits p q := by
  intro k hk tk n d waits
  obtain ⟨k0, hk0, rfl⟩ := List.mem_map.mp hk
  split at waits
  · next named => exact fewer k0 hk0 named tk n d waits
  · exact none_ k0 hk0 tk n d waits

/-! ### JOB_SUBMIT -/

/-- A new job under a tag, nothing ingested for it yet. -/
def State.addJob (s : State) (tag : Fin 64) (j : Job) : State :=
  { s with
    jobs := { s.jobs with tags := bankSet s.jobs.tags tag (some j), log := bankSet s.jobs.log tag 0 },
    headbox := { s.headbox with ingest := bankSet s.headbox.ingest tag 0, sparse := bankSet s.headbox.sparse tag 0xFFFF } }

/-- What a submission does after its reply: the job waits on its token, or goes on to its sensor wait. -/
def State.startWait (p : SubmitP) (tag : Fin 64) (s : State) : State :=
  if p.waitToken = 0xFFFF then s.tryReady tag
  else (s.updToken p.waitToken.toNat fun k => { k with waiters := k.waiters ++ [.job tag] }).settleToken p.waitToken.toNat

theorem doJobSubmit_eq {t : Ticket} {p : SubmitP} {s : State} {g : Graph} {tag : Fin 64} (passes : s.submitError t p = none)
    (named : s.graph t.hdr.port p.graph.toNat = some g) (free : s.job tag = none) (lowest : ∀ k, k < tag → s.job k ≠ none) :
    doJobSubmit t p s =
      ((s.addJob tag (newJob s t.hdr.port g p)).reply t stAccepted (le 1 tag.val ++ zeros 3)).startWait p tag := by
  have found : (bankList s.jobs.tags).find? (fun x => x.2.isNone) = some (tag, s.jobs.tags.get tag) :=
    bankList_find?_first (by rw [← State.job, free]; rfl) fun i lt => by
      rw [← State.job]
      exact Option.isNone_eq_false_iff.mpr (Option.isSome_iff_ne_none.mpr (lowest i lt))
  rw [doJobSubmit, passes, named]
  dsimp only
  rw [found]
  rfl

/-- A job newly submitted is queued, whatever waits on its token, and its reply stays. -/
structure State.Submitted (s : State) (tag : Fin 64) (g : Graph) (p : SubmitP) (retry : Nat) (h : Hdr) (k : Bytes) (e : Cached) :
    Prop where
  calm : s.calm = true
  cached : s.Caches h.port k e
  queued : s.Queued tag h.port g (bindingsOf p) retry
  noneWaits : s.NoneWaits h.port h.seq

section
variable {s : State} {tag : Fin 64} {g : Graph} {p : SubmitP} {retry : Nat} {h : Hdr} {k : Bytes} {e : Cached}

theorem State.Submitted.tryReady {t : Fin 64} (sub : s.Submitted tag g p retry h k e) : (s.tryReady t).Submitted tag g p retry h k e :=
  ⟨State.calm_of_sessions (State.sessions_of_owners (s.tryReady_owners t)) sub.calm, .of_owners (s.tryReady_owners t) sub.cached,
    sub.queued.tryReady, .of_tokens (s.tryReady_tokens t) sub.noneWaits⟩

theorem State.Submitted.updToken {id : Nat} {f : Token → Token} (sub : s.Submitted tag g p retry h k e)
    (fewer : ∀ k ∈ s.jobs.tokens, k.id = id → ∀ tk n d, Waiter.host tk n d ∈ (f k).waiters → tk.hdr.port = h.port → tk.hdr.seq ≠ h.seq) :
    (s.updToken id f).Submitted tag g p retry h k e :=
  ⟨State.calm_of_sessions (State.sessions_of_owners rfl) sub.calm, .of_owners rfl sub.cached, sub.queued, sub.noneWaits.updToken fewer⟩

/-- A waiter served is another command, which has its own reply, or a job, which goes on to its sensor wait. -/
theorem State.Submitted.served {w : Waiter} {n : Nat} (number : e.seq = h.seq.toNat) (sub : s.Submitted tag g p retry h k e)
    (other : ∀ tk m d, w = .host tk m d → tk.hdr.port = h.port → tk.hdr.seq ≠ h.seq) : (s.served w n).Submitted tag g p retry h k e := by
  cases w with
  | host tk m d =>
    have jobs : (s.reply tk stOk (le 4 n)).jobs = s.jobs := State.reply_jobs _ _ _ _
    refine ⟨State.reply_keeps_calm sub.calm, sub.cached.reply fun hp => ?_, .of_jobs jobs sub.queued, .of_tokens (by rw [State.served, jobs]) sub.noneWaits⟩
    rw [number]
    exact fun same => other tk m d rfl hp (BitVec.eq_of_toNat_eq same)
  | job t =>
    have updated : (s.updJob t fun j => { j with tokenTaken := true, waitFrom := s.devTime }).Submitted tag g p retry h k e :=
      ⟨State.calm_of_sessions (State.sessions_of_owners rfl) sub.calm, .of_owners rfl sub.cached,
        .updJob (fun _ => ⟨rfl, rfl, rfl, rfl, rfl, rfl⟩) (fun _ => .inl rfl) sub.queued, .of_tokens rfl sub.noneWaits⟩
    exact updated.tryReady

theorem State.Submitted.settleToken {id : Nat} (number : e.seq = h.seq.toNat) (sub : s.Submitted tag g p retry h k e) :
    (s.settleToken id).Submitted tag g p retry h k e := by
  refine State.serveToken_induct (P := fun s => s.Submitted tag g p retry h k e) (fun s k w rest sub found waits => ?_) _ s sub
  have others := sub.noneWaits k (List.mem_of_find?_eq_some found)
  rw [waits] at others
  refine State.Submitted.served number (sub.updToken fun _ _ _ tk n d mem => ?_) fun tk n d is => ?_
  · exact others tk n d (List.mem_cons_of_mem _ mem)
  · exact others tk n d (is ▸ List.mem_cons_self)

theorem State.Submitted.startWait (number : e.seq = h.seq.toNat) (sub : s.Submitted tag g p retry h k e) :
    (s.startWait p tag).Submitted tag g p retry h k e := by
  unfold State.startWait
  split
  · exact sub.tryReady
  · refine State.Submitted.settleToken number (sub.updToken fun k hk _ tk n d mem => ?_)
    have : Waiter.host tk n d ∈ k.waiters := by simpa using mem
    exact sub.noneWaits k hk tk n d this

end

section
variable {s : State} {h : Hdr} {ses : Session} {p : SubmitP} {g : Graph} {tag : Fin 64} (ok : Accepted s h (.jobSubmit p) ses)
  (passes : (s.accepted h).submitError (s.ticket h (.jobSubmit p) ses) p = none) (named : s.graph h.port p.graph.toNat = some g)
  (free : s.job tag = none) (lowest : ∀ k, k < tag → s.job k ≠ none)
include ok passes named free lowest

theorem perform_jobSubmit : perform (s.ticket h (.jobSubmit p) ses) (.jobSubmit p) (s.accepted h) =
    (((s.accepted h).addJob tag (newJob (s.accepted h) h.port g p)).reply (s.ticket h (.jobSubmit p) ses) stAccepted
      (le 1 tag.val ++ zeros 3)).startWait p tag := by
  have job (k : Fin 64) : (s.accepted h).job k = s.job k := State.job_of_jobs (s.accepted_jobs h) k
  exact doJobSubmit_eq (t := s.ticket h (.jobSubmit p) ses) passes
    ((ok.reads (fun u => u.graph h.port p.graph.toNat) fun _ => rfl).trans named) ((job tag).trans free)
    fun k lt => by rw [job]; exact lowest k lt

theorem jobSubmit_queues (others : s.NoneWaits h.port h.seq) :
    ∃ t, exec (.jobSubmit h p) s = .next t ∧ Replied s t h 0x22 stAccepted (le 1 tag.val ++ zeros 3) ∧
      t.Queued tag h.port g (bindingsOf p) (if p.retry = 0xFF then s.jobs.retryMax else p.retry.toNat) := by
  let u := (s.accepted h).addJob tag (newJob (s.accepted h) h.port g p)
  let r := u.reply (s.ticket h (.jobSubmit p) ses) stAccepted (le 1 tag.val ++ zeros 3)
  have jobs : r.jobs = u.jobs := State.reply_jobs _ _ _ _
  have tokens : r.jobs.tokens = s.jobs.tokens := by rw [jobs, ← s.accepted_jobs h]; rfl
  have replied : Replied s r h 0x22 stAccepted (le 1 tag.val ++ zeros 3) := ok.replied (by simp [Cmd.opcode]) (State.sessions_of_owners rfl) (s.accepted_now h)
  obtain ⟨k, cached⟩ := replied.caches
  have queued : u.Queued tag h.port g (bindingsOf p) (if p.retry = 0xFF then s.jobs.retryMax else p.retry.toNat) := by
    refine ⟨newJob (s.accepted h) h.port g p, bankSet_get_self _ _ _, rfl, rfl, rfl, rfl, rfl, ?_, .inl rfl⟩
    rw [← s.accepted_jobs h]; rfl
  have sub : r.Submitted tag g p _ h k _ := ⟨State.reply_keeps_calm (State.calm_of_sessions (State.sessions_of_owners rfl) ok.calm), cached,
    .of_jobs jobs queued, .of_tokens tokens others⟩
  have started := sub.startWait rfl
  refine ⟨r.startWait p tag, ?_, started.cached.replied, started.queued⟩
  have row : exec (.jobSubmit h p) s = .next (s.serve h (.jobSubmit p)) := rfl
  rw [row, serve_accepted ok, perform_jobSubmit ok passes named free lowest, State.finish_calm started.calm]

omit ok passes named free lowest in
/-- With no sensor port bound there is none to wait for. -/
theorem newJob_ports {s : State} {o : Port} {p : SubmitP} (none_ : ∀ b ∈ p.binds, b.kind ≠ 2) : (newJob s o g p).ports = [] := by
  have bound : ∀ b ∈ bindingsOf p, b.kind ≠ 2 := by
    intro b hb
    obtain ⟨x, hx, rfl⟩ := List.mem_map.mp hb
    exact fun two => none_ x hx (BitVec.eq_of_toNat_eq two)
  refine List.filter_eq_nil_iff.mpr fun port _ => ?_
  rw [Bool.not_eq_true, List.any_eq_false]
  intro b hb
  have := bound b hb
  simp [this]

omit ok passes named free lowest in
/-- A submission with nothing to wait for is READY at the end of the order. -/
theorem State.addJob_tryReady {s : State} {o : Port} {p : SubmitP} (token : p.waitToken = 0xFFFF) (none_ : ∀ b ∈ p.binds, b.kind ≠ 2) :
    (s.addJob tag (newJob s o g p)).tryReady tag =
      { s with
        jobs := { s.jobs with
          tags := bankSet s.jobs.tags tag (some { newJob s o g p with st := .ready, readyPos := some s.jobs.readyNext }),
          log := bankSet s.jobs.log tag 0, readyNext := s.jobs.readyNext + 1 },
        headbox := { s.headbox with ingest := bankSet s.headbox.ingest tag 0, sparse := bankSet s.headbox.sparse tag 0xFFFF } } := by
  have ports : (newJob s o g p).ports = [] := newJob_ports none_
  have here : (s.addJob tag (newJob s o g p)).job tag = some (newJob s o g p) := bankSet_get_self _ _ _
  have past : (newJob s o g p).pastToken = true := by
    have : (newJob s o g p).waitToken = none := if_pos token
    simp [Job.pastToken, this]
  have done : (newJob s o g p).sensorsDone s.now = true := by simp [Job.sensorsDone, ports]
  have goes : (newJob s o g p).st = .waiting ∧ (newJob s o g p).pastToken = true ∧
    (newJob s o g p).sensorsDone (s.addJob tag (newJob s o g p)).now = true := ⟨rfl, past, done⟩
  have short : decide ((newJob s o g p).delivered.length < (newJob s o g p).ports.length) = false := by simp [ports]
  have flags : Nat.lor (newJob s o g p).flags 0 = (newJob s o g p).flags := Nat.or_zero _
  unfold State.tryReady
  rw [here]
  dsimp only
  rw [if_pos goes, short]
  simp only [State.makeReady, State.updJob, State.updJobs, State.addJob, bankUpd_bankSet, Option.map_some, ports, List.map_nil,
    Bool.false_eq_true, if_false, flags]
  rfl

omit ok passes named free lowest in
theorem State.tryReady_quiet (s : State) (t : Fin 64) : (s.tryReady t).quiet = s.quiet.tryReady t := by
  have same : s.quiet.job t = s.job t := rfl
  unfold State.tryReady
  rw [same]
  cases s.job t with
  | none => rfl
  | some j =>
    dsimp only
    by_cases goes : j.st = .waiting ∧ j.pastToken = true ∧ j.sensorsDone s.now = true
    · rw [if_pos goes]; exact (if_pos goes).symm
    · rw [if_neg goes]; exact (if_neg goes).symm

theorem jobSubmit_ready (token : p.waitToken = 0xFFFF) (none_ : ∀ b ∈ p.binds, b.kind ≠ 2) :
    Completes (.jobSubmit h p) s h 0x22 stAccepted (le 1 tag.val ++ zeros 3)
      { s with
        jobs := { s.jobs with
          tags := bankSet s.jobs.tags tag (some { newJob s h.port g p with st := .ready, readyPos := some s.jobs.readyNext }),
          log := bankSet s.jobs.log tag 0, readyNext := s.jobs.readyNext + 1 },
        headbox := { s.headbox with ingest := bankSet s.headbox.ingest tag 0, sparse := bankSet s.headbox.sparse tag 0xFFFF } } := by
  have effect := perform_jobSubmit ok passes named free lowest
  rw [State.startWait, if_pos token] at effect
  refine completes_then ok (by simp [Cmd.opcode]) rfl (by decide) (fun u => u.tryReady tag) effect (State.sessions_of_owners rfl)
    (s.accepted_now h) (fun w => w.tryReady_owners tag) (fun w => w.tryReady_quiet tag) ?_
  rw [State.tryReady_quiet, ← State.addJob_tryReady token none_, State.tryReady_quiet]
  refine congrArg (fun u => State.tryReady u tag) ?_
  exact ok.acts (fun u => u.addJob tag (newJob u h.port g p)) fun _ => rfl

end

/-- Settles O9, a command at a time. -/
theorem graphsLoadAndJobsQueue : Obligations.GraphsLoadAndJobsQueue := by
  refine ⟨⟨fun _ _ _ _ _ _ ok aligned whole least most => graphLoad_completes ok aligned whole least most, ?unload⟩, ?submit⟩
  case unload =>
    intro s h ses x g ok named
    have outcome := graphUnload_completes ok named
    constructor
    · intro used
      rwa [if_pos ((s.runsGraph_iff g).mpr used)] at outcome
    · intro unused
      have idle : s.runsGraph g = false := by
        rw [← Bool.not_eq_true, State.runsGraph_iff]
        rintro ⟨k, j, here, live, runs⟩
        exact unused k j here live runs
      rwa [idle, if_neg Bool.false_ne_true] at outcome
  case submit =>
    intro s h ses p g tag ok passes named free lowest
    refine ⟨fun others => ?_, fun token none_ => jobSubmit_ready ok passes named free lowest token none_⟩
    exact jobSubmit_queues ok passes named free lowest others

end Sys2Proof.Machine
end

section
/-! PROOFS. A concrete device for the refutations: in FULL, every link up, every owner in a session. -/

namespace Sys2Proof.Machine

/-- A session newly opened. -/
def freshSession : Session :=
  { serial := 7, keyC := [], keyD := [], high := 0, cache := [], mask := 0xFFFFE, encEv := false, evSeq := 1, outstanding := 0,
    closing := none, ending := false, fresh := [], freshAt := 0, freshSeq := 1, freshLost := 0 }

/-- The device 10 µs into its first hour in FULL. -/
def inFull : State :=
  let r := State.reset
  { r with
    now := 1000,
    boot := { r.boot with dev := .full, step := .done, mboit := true, resetN := true, pwrgd := true, vfdUp := true },
    net := { r.net with ethUp := true, mntUp := true, sfpArmed := true },
    hpa := { r.hpa with linkUp := true, en := true },
    owners := r.owners.map fun o => { o with session := some freshSession },
    fabric := { r.fabric with pllC := true, pllF := true, d02Run := true, tcxoOk := true } }

/-- The header of a command on MNT about a resource, under number 1. -/
def mntHeader (cls idx : Nat) : Hdr :=
  { port := 3, version := 2, owner := 4, enc := false, dup := false, event := false, bit7 := false,
    tag := 5, cls := BitVec.ofNat 8 cls, seq := 1, idx := BitVec.ofNat 32 idx, key := .sessionKey, via := .mnt }

/-- Whether the session of MNT has a reply under number 1 after a row. -/
def answersFirst (i : Instr) (s : State) : Bool :=
  match exec i s with
  | .next t => ((t.owner 3).session.bind fun x => x.cache.find? fun e => e.seq == 1).isSome
  | _ => false

/-- A reply under number 1 of MNT is found there. -/
theorem Replied.answersFirst {i : Instr} {s t : State} {h : Hdr} {op e : Nat} {b : Bytes} (run : exec i s = .next t)
    (port : h.port = 3) (number : h.seq.toNat = 1) (replied : Replied s t h op e b) : answersFirst i s = true := by
  obtain ⟨x, hx, found⟩ := replied
  rw [port] at hx
  rw [number] at found
  simp [Machine.answersFirst, run, hx, found]

/-! ### TOKEN_FREE of a token on which a ticket of OPEN_SESSION waits -/

/-- MNT holds token 0, and on it waits a command under number 1 of MNT's session whose ticket bears the opcode of OPEN_SESSION:
its reply takes the number out of the cache, where the reply to a TOKEN_FREE under that number then finds no place. -/
def strayToken : Token := ⟨0, 3, 5, [.host ⟨mntHeader 0 0, 0x02, some 7⟩ 1 0]⟩
def strayWaiter : State := inFull.updJobs fun j => { j with tokens := [strayToken] }

theorem strayWaiter_accepts_tokenFree : Accepted strayWaiter (mntHeader 0 0) (.tokenFree 0) freshSession := by decide +kernel

/-- Refutes O11: TOKEN_FREE cancels the commands that wait on its token before it is answered, and in `strayWaiter` the reply to one
of them drops the number of the TOKEN_FREE from its session's cache, so its own reply is not cached. -/
theorem not_tokenCommandsAct : ¬ Obligations.TokenCommandsAct := by
  rintro ⟨⟨-, -, -, free⟩, -⟩
  have freed := free strayWaiter (mntHeader 0 0) freshSession 0 strayToken strayWaiter_accepts_tokenFree (by decide +kernel)
  rw [if_neg (by decide +kernel)] at freed
  obtain ⟨⟨t, run, replied, -⟩, -⟩ := freed
  have answered := replied.answersFirst run rfl rfl
  have unanswered : answersFirst (.tokenFree (mntHeader 0 0) 0) strayWaiter = false := by decide +kernel
  exact absurd answered (by rw [unanswered]; decide)

/-! ### JOB_CANCEL of a job on whose token such a ticket waits -/

def emptyGraph : Graph :=
  { handle := 1, port := 3, tensors := [], slots := [], nodes := [], coresLow := 1, coresHigh := 1, sensorMin := 0,
    windowUs := 0, brokeHbm := 0, brokeVat := 0, copyMib := 0, records := 0 }

/-- A job of MNT's under tag 0 that waits for token 0. -/
def waitingJob : Job :=
  { newJob State.reset 3 emptyGraph ⟨1, 0, false, 0, 0xFFFF, []⟩ with waitToken := some 0 }

/-- Behind the job a ticket like that of `strayWaiter` waits on the token: it is served when the job's wait is withdrawn. -/
def strayBehindJob : State :=
  inFull.updJobs fun j => { j with
    tokens := [⟨0, 3, 5, [.job 0, .host ⟨mntHeader 0 0, 0x02, some 7⟩ 1 0]⟩], tags := bankSet j.tags 0 (some waitingJob) }

theorem strayBehindJob_accepts_jobCancel : Accepted strayBehindJob (mntHeader 0 0) (.jobCancel 0) freshSession := by decide +kernel

/-- Refutes O10: the JOB_CANCEL withdraws the job's wait for its token, which serves the waiter behind it before the JOB_CANCEL is
answered; in `strayBehindJob` that drops the JOB_CANCEL's number from the cache. -/
theorem not_jobCommandsAct : ¬ Obligations.JobCommandsAct := by
  rintro ⟨⟨cancel, -⟩, -⟩
  have cancelled := cancel strayBehindJob (mntHeader 0 0) freshSession 0 0 waitingJob strayBehindJob_accepts_jobCancel rfl
    (by decide +kernel) rfl
  rw [if_neg (by decide)] at cancelled
  obtain ⟨t, run, replied, -⟩ := cancelled
  have answered := replied.answersFirst run rfl rfl
  have unanswered : answersFirst (.jobCancel (mntHeader 0 0) 0) strayBehindJob = false := by decide +kernel
  exact absurd answered (by rw [unanswered]; decide)

end Sys2Proof.Machine
end

section
/-! PROOFS. The end of an attempt (R43, R44, R187, R206, R211, R214): it completes its job, or is abandoned with the class of its
fault. -/

namespace Sys2Proof.Machine

/-! ### Another tag's job -/

theorem State.updJob_job_ne {s : State} {t k : Fin 64} (other : t ≠ k) (f : Job → Job) : (s.updJob t f).job k = s.job k :=
  (bankUpd_get _ _ _ _).trans (if_neg other)

theorem State.tryReady_job_ne {s : State} {t k : Fin 64} (other : t ≠ k) : (s.tryReady t).job k = s.job k := by
  unfold State.tryReady
  split
  · rfl
  · dsimp only
    split
    · exact (State.updJob_job_ne other _).trans (State.updJob_job_ne other _)
    · rfl

/-! ### What ending a job or serving a token leaves alone -/

/-- The stores, the clocks, the axes and the leases stand, and of the jobs their log, their graphs and the count of the
abandoned attempts; every core keeps its state and its faults. -/
structure JobsOnly (s t : State) : Prop where
  mem : t.mem = s.mem
  fabric : t.fabric = s.fabric
  leases : t.leases = s.leases
  axes : t.axes = s.axes
  tb : t.tb = s.tb
  log : t.jobs.log = s.jobs.log
  abandons : t.jobs.abandons = s.jobs.abandons
  graphs : t.jobs.graphs = s.jobs.graphs
  cores : ∀ c, (t.core1 c).st = (s.core1 c).st ∧ (t.core1 c).faults = (s.core1 c).faults

theorem JobsOnly.refl (s : State) : JobsOnly s s := ⟨rfl, rfl, rfl, rfl, rfl, rfl, rfl, rfl, fun _ => ⟨rfl, rfl⟩⟩

theorem JobsOnly.trans {s t u : State} (first : JobsOnly s t) (second : JobsOnly t u) : JobsOnly s u where
  mem := second.mem.trans first.mem
  fabric := second.fabric.trans first.fabric
  leases := second.leases.trans first.leases
  axes := second.axes.trans first.axes
  tb := second.tb.trans first.tb
  log := second.log.trans first.log
  abandons := second.abandons.trans first.abandons
  graphs := second.graphs.trans first.graphs
  cores c := ⟨(second.cores c).1.trans (first.cores c).1, (second.cores c).2.trans (first.cores c).2⟩

theorem foldl_jobsOnly {α : Type} {f : State → α → State} (keeps : ∀ s a, JobsOnly s (f s a)) (l : List α) (s : State) :
    JobsOnly s (l.foldl f s) :=
  List.foldlRecOn l f (motive := fun t => JobsOnly s t) (.refl s) fun t same a _ => same.trans (keeps t a)

theorem State.updJob_jobsOnly (s : State) (t : Fin 64) (f : Job → Job) : JobsOnly s (s.updJob t f) :=
  ⟨rfl, rfl, rfl, rfl, rfl, rfl, rfl, rfl, fun _ => ⟨rfl, rfl⟩⟩

theorem State.updToken_jobsOnly (s : State) (id : Nat) (f : Token → Token) : JobsOnly s (s.updToken id f) :=
  ⟨rfl, rfl, rfl, rfl, rfl, rfl, rfl, rfl, fun _ => ⟨rfl, rfl⟩⟩

theorem State.core1_updCore (s : State) (c d : Fin 32) (f : Core1 → Core1) :
    (s.updCore c f).core1 d = if c = d then f (s.core1 d) else s.core1 d := bankUpd_get _ _ _ _

/-- A change of a core that keeps its state and its faults. -/
theorem State.updCore_jobsOnly {s : State} {c : Fin 32} {f : Core1 → Core1} (keeps : ∀ x, (f x).st = x.st ∧ (f x).faults = x.faults) :
    JobsOnly s (s.updCore c f) :=
  ⟨rfl, rfl, rfl, rfl, rfl, rfl, rfl, rfl, fun d => by rw [State.core1_updCore]; split; exacts [keeps _, ⟨rfl, rfl⟩]⟩

theorem State.reply_jobsOnly (s : State) (t : Ticket) (e : Nat) (b : Bytes) : JobsOnly s (s.reply t e b) := by
  have jobs : (s.reply t e b).jobs = s.jobs := State.reply_jobs _ _ _ _
  have cores : (s.reply t e b).cores = s.cores := State.reply_cores _ _ _ _
  exact ⟨State.reply_mem _ _ _ _, State.reply_fabric _ _ _ _, State.reply_leases _ _ _ _, State.reply_axes _ _ _ _,
    State.reply_tb _ _ _ _, by rw [jobs], by rw [jobs], by rw [jobs], fun c => by simp only [State.core1, cores, and_self]⟩

theorem State.raise_jobsOnly (s : State) (c k i : Nat) (b : Bytes) (p : Port) : JobsOnly s (s.raise c k i b p) :=
  ⟨rfl, rfl, rfl, rfl, rfl, rfl, rfl, rfl, fun _ => ⟨rfl, rfl⟩⟩

theorem State.tryReady_jobsOnly (s : State) (t : Fin 64) : JobsOnly s (s.tryReady t) := by
  unfold State.tryReady
  split
  · exact .refl s
  · dsimp only
    split
    · exact ⟨rfl, rfl, rfl, rfl, rfl, rfl, rfl, rfl, fun _ => ⟨rfl, rfl⟩⟩
    · exact .refl s

theorem State.served_jobsOnly (s : State) (w : Waiter) (n : Nat) : JobsOnly s (s.served w n) := by
  cases w with
  | host tk m d => exact s.reply_jobsOnly _ _ _
  | job t => exact (s.updJob_jobsOnly t _).trans (State.tryReady_jobsOnly _ t)

theorem State.settleToken_jobsOnly (s : State) (id : Nat) : JobsOnly s (s.settleToken id) :=
  State.serveToken_induct (P := fun t => JobsOnly s t) (fun t _ _ _ same _ _ => same.trans ((t.updToken_jobsOnly id _).trans
    (State.served_jobsOnly _ _ _))) _ s (.refl s)

theorem State.signalAtDone_jobsOnly (s : State) (o : Option Nat) : JobsOnly s (s.signalAtDone o) := by
  have count (u : State) : JobsOnly u u.countSaturated := ⟨rfl, rfl, rfl, rfl, rfl, rfl, rfl, rfl, fun _ => ⟨rfl, rfl⟩⟩
  cases o with
  | none => exact .refl s
  | some id =>
    have signal : JobsOnly s (s.signalToken id).1 := by
      unfold State.signalToken
      split
      · exact .refl s
      · split
        · exact (s.updToken_jobsOnly id _).trans (State.settleToken_jobsOnly _ id)
        · exact .refl s
    show JobsOnly s (if (s.signalToken id).2 then _ else _)
    split
    · exact signal.trans (count _)
    · exact signal

theorem State.freeFrames_jobsOnly (s : State) (t : Fin 64) : JobsOnly s (s.freeFrames t) := by
  refine foldl_jobsOnly ?_ _ s
  exact fun _ _ => ⟨rfl, rfl, rfl, rfl, rfl, rfl, rfl, rfl, fun _ => ⟨rfl, rfl⟩⟩

theorem State.freeTag_jobsOnly (s : State) (t : Fin 64) : JobsOnly s (s.freeTag t) := by
  have tags (u : State) : JobsOnly u (u.updJobs fun j => { j with tags := bankSet j.tags t none }) :=
    ⟨rfl, rfl, rfl, rfl, rfl, rfl, rfl, rfl, fun _ => ⟨rfl, rfl⟩⟩
  unfold State.freeTag
  split
  · exact tags s
  · next j _ =>
    split
    · exact tags s
    · refine ((tags s).trans (t := State.updJobs _ _) ?_).trans
        (foldl_jobsOnly (fun u c => State.updCore_jobsOnly fun x => by split <;> exact ⟨rfl, rfl⟩) _ _)
      exact ⟨rfl, rfl, rfl, rfl, rfl, rfl, rfl, rfl, fun _ => ⟨rfl, rfl⟩⟩

theorem State.endJob_jobsOnly (s : State) (t : Fin 64) (st : JobSt) (final : Nat) : JobsOnly s (s.endJob t st final) := by
  have ended := (s.updJob_jobsOnly t (Job.endedAs st final s.devTime)).trans (State.freeFrames_jobsOnly _ t)
  have count (u : State) : JobsOnly u (u.updJobs fun x => { x with
      cntFailed := if st = .failed then satInc 65535 x.cntFailed else x.cntFailed,
      cntCancel := if st = .cancelled then satInc 65535 x.cntCancel else x.cntCancel }) :=
    ⟨rfl, rfl, rfl, rfl, rfl, rfl, rfl, rfl, fun _ => ⟨rfl, rfl⟩⟩
  unfold State.endJob
  dsimp only
  split
  · exact ended
  · next j _ =>
    have told := (ended.trans (State.raise_jobsOnly _ _ _ _ _ _)).trans (count (State.jobDone _ t j))
    split
    · exact told.trans (State.freeTag_jobsOnly _ t)
    · exact told

/-! ### An attempt abandoned (R211) -/

theorem Abandoned.of_jobs {s s' u : State} {t : Fin 64} {j : Job} {cls core region detail : Nat} (jobs : s'.jobs = s.jobs)
    (tb : s'.tb = s.tb) (abandoned : Abandoned s' u t j cls core region detail) : Abandoned s u t j cls core region detail := by
  simpa only [Abandoned, jobs, State.devTime, tb] using abandoned

/-- What the abandonment of a running attempt leaves: the job as Table 10-5 has it, the rest as before. -/
theorem State.abandon_of_running {s : State} {t : Fin 64} {j : Job} (here : s.job t = some j) (running : j.st = .running)
    (cls core region detail : Nat) : let u := s.abandon t cls core region detail
    Abandoned s u t j cls core region detail ∧ u.mem = s.mem ∧ u.fabric = s.fabric ∧
      ∀ c, (u.core1 c).st = (s.core1 c).st ∧ (u.core1 c).faults = (s.core1 c).faults := by
  let told : Job := { j with lastClass := cls, lastCore := core, lastRegion := region, lastDetail := detail, st := .restarting }
  let s3 : State := (((s.logAttempt t j.attempt cls).countAbandoned j).updJobs fun x =>
    { x with abandons := satInc 0xFFFFFFFF x.abandons }).updJob t fun j =>
      { j with lastClass := cls, lastCore := core, lastRegion := region, lastDetail := detail, st := .restarting }
  have marked : s3.job t = some told := by
    have same : State.job (((s.logAttempt t j.attempt cls).countAbandoned j).updJobs fun x =>
      { x with abandons := satInc 0xFFFFFFFF x.abandons }) t = some j := here
    rw [State.updJob_job, same]; rfl
  have log : s3.jobs.log.get t = s.jobs.log.get t + cls * 16 ^ (j.attempt - 1) := bankUpd_get_self _ _ _
  have goes : s.abandon t cls core region detail = if j.attempt ≤ j.retry then s3 else s3.endJob t .failed eJobFailed := by
    rw [State.abandon, here]
    exact if_neg (not_not_intro running)
  intro u
  rw [show u = _ from goes]
  by_cases again : j.attempt ≤ j.retry
  · rw [if_pos again]
    refine ⟨⟨rfl, log, ?_⟩, rfl, rfl, fun _ => ⟨rfl, rfl⟩⟩
    simp only [if_pos again]
    exact marked
  · rw [if_neg again]
    have frame := s3.endJob_jobsOnly t .failed eJobFailed
    have ended := State.endJob_job marked .failed eJobFailed
    refine ⟨⟨frame.abandons, by rw [frame.log]; exact log, ?_⟩, frame.mem, frame.fabric, frame.cores⟩
    simp only [if_neg again]
    split
    · next auto => rw [ended]; exact if_pos auto
    · next auto => rw [ended]; exact if_neg auto

/-! ### The rows of core faults -/

section
variable {s : State} {t : Fin 64} {j : Job} {c : Fin 32} (here : s.job t = some j) (running : j.st = .running)
include here running

/-- A fault of a core abandons the attempt it runs, and leaves the core in FAULT. -/
theorem State.faultOn_of_job (busy : (s.core1 c).st = .job) (runs : (s.core1 c).job = some t) (cls detail : Nat) :
    let u := s.faultOn c cls detail
    Abandoned s u t j cls c.val 0 detail ∧ u.mem = s.mem ∧ u.fabric = s.fabric ∧ (u.core1 c).st = .fault ∧
      (u.core1 c).faults = satInc 255 (s.core1 c).faults := by
  have stopped : (s.coreFault c).core1 c =
      { s.core1 c with st := .fault, job := none, faults := satInc 255 (s.core1 c).faults, faultAt := some s.now } :=
    (s.core1_updCore c c _).trans (if_pos rfl)
  obtain ⟨abandoned, mem, fabric, cores⟩ := State.abandon_of_running (s := s.coreFault c) here running cls c.val 0 detail
  have goes : s.faultOn c cls detail = (s.coreFault c).abandon t cls c.val 0 detail := by
    simp only [State.faultOn, busy, runs]
  intro u
  rw [show u = _ from goes]
  refine ⟨.of_jobs rfl rfl abandoned, mem, fabric, ?_, ?_⟩
  · rw [(cores c).1, stopped]
  · rw [(cores c).2, stopped]

end

theorem State.one_le_errClass (s : State) (j : Job) (met : ErrAt) (mismatch : Bool) (region : Nat) :
    1 ≤ s.errClass j met mismatch region := by
  unfold State.errClass
  (repeat' split) <;> decide

/-- No fault has a class below 1. -/
theorem State.one_le_rowFault {s : State} {r : Instr} {u : Fin 64} {c : Nat} (fault : s.rowFault r = some (u, c)) : 1 ≤ c := by
  have onCore (d : Fin 32) (n : Nat) (pos : 1 ≤ n)
      (fault : (if (s.core1 d).st = .job then (s.core1 d).job.map fun t => (t, n) else none) = some (u, c)) : 1 ≤ c := by
    split at fault
    · obtain ⟨t, -, pair⟩ := Option.map_eq_some_iff.mp fault
      exact (Prod.mk.inj pair).2 ▸ pos
    · cases fault
  unfold State.rowFault at fault
  dsimp only at fault
  split at fault
  case h_1 d =>
    by_cases halted : s.fabric.dbgHalt.get d = true
    · rw [if_pos halted] at fault; cases fault
    · rw [if_neg halted] at fault; exact onCore _ _ (by decide) fault
  case h_2 => exact onCore _ _ (by decide) fault
  case h_3 d m =>
    split at fault
    · next t _ =>
      by_cases misused : misusedBy m (((s.job t).map (·.selfTokens)).getD []) = true
      · rw [if_pos misused] at fault; exact onCore _ _ (by decide) fault
      · rw [if_neg misused] at fault; cases fault
    · cases fault
  case h_4 =>
    split at fault
    · split at fault
      · exact (Prod.mk.inj (Option.some.inj fault)).2 ▸ (by decide)
      · cases fault
    · cases fault
  case h_5 =>
    split at fault
    · cases fault
    · split at fault
      · exact (Prod.mk.inj (Option.some.inj fault)).2 ▸ State.one_le_errClass _ _ _ _ _
      · cases fault
    · cases fault
  case h_6 => cases fault

theorem State.not_outranked_one (s : State) (t : Fin 64) : s.outranked t 1 = false := by
  rw [State.outranked, ← Bool.not_eq_true, State.behind_iff]
  rintro ⟨r, -, worse⟩
  cases fault : s.rowFault r with
  | none => simp [fault] at worse
  | some x =>
    have := State.one_le_rowFault fault
    simp only [fault, Bool.and_eq_true, decide_eq_true_eq] at worse
    omega

/-! ### The rows -/

section
variable {s : State} {t : Fin 64} {j : Job} {c : Fin 32} (here : s.job t = some j) (running : j.st = .running)
  (busy : (s.core1 c).st = .job) (runs : (s.core1 c).job = some t)
include here running busy runs

theorem hsWdtExpiry_abandons (unhalted : s.fabric.dbgHalt.get c = false) (alone : s.commandsWait = false)
    (first : s.outranked t 2 = false) : ∃ u, exec (.hsWdtExpiry c) s = .next u ∧ Abandoned s u t j 2 c.val 0 0 ∧
      (u.core1 c).st = .fault ∧ (u.core1 c).faults = satInc 255 (s.core1 c).faults ∧
      u.fabric.cntHsWdt = satInc 65535 s.fabric.cntHsWdt := by
  let counted : State := { s with fabric := { s.fabric with cntHsWdt := satInc 65535 s.fabric.cntHsWdt } }
  obtain ⟨abandoned, -, fabric, st, faults⟩ := State.faultOn_of_job (s := counted) here running busy runs 2 0
  refine ⟨counted.faultOn c 2 0, ?_, .of_jobs rfl rfl abandoned, st, faults, by rw [fabric]⟩
  have row : exec (.hsWdtExpiry c) s = execHsWdtExpiry c s := rfl
  rw [row]
  simp [execHsWdtExpiry, unhalted, alone, State.coreOutranked, runs, first, busy, counted]

theorem lateArrival_abandons (first : s.outranked t 5 = false) : ∃ u, exec (.lateArrival c) s = .next u ∧
    Abandoned s u t j 5 c.val 0 0 ∧ (u.core1 c).st = .fault ∧ u.fabric.cntLate = satInc 65535 s.fabric.cntLate := by
  let counted : State := { s with fabric := { s.fabric with cntLate := satInc 65535 s.fabric.cntLate } }
  obtain ⟨abandoned, -, fabric, st, -⟩ := State.faultOn_of_job (s := counted) here running busy runs 5 0
  refine ⟨counted.faultOn c 5 0, ?_, .of_jobs rfl rfl abandoned, st, by rw [fabric]⟩
  have row : exec (.lateArrival c) s = execLateArrival c s := rfl
  rw [row]
  simp [execLateArrival, State.coreOutranked, runs, first, busy, counted]

omit busy in
theorem tokenMisuse_abandons {m : Misused} (misused : misusedBy m j.selfTokens = true) (first : s.outranked t 4 = false) :
    ∃ u, exec (.tokenMisuse c m) s = .next u ∧ Abandoned s u t j 4 c.val 0 (misusedToken m) ∧
      (u.core1 c).st = (s.core1 c).st := by
  obtain ⟨abandoned, -, -, cores⟩ := State.abandon_of_running here running 4 c.val 0 (misusedToken m)
  refine ⟨_, ?_, abandoned, (cores c).1⟩
  have row : exec (.tokenMisuse c m) s = execTokenMisuse c m s := rfl
  rw [row]
  simp [execTokenMisuse, State.coreOutranked, runs, first, here, misused]

omit busy runs in
/-- An error met by a running attempt that no lower class outranks. -/
theorem exec_memUncorrectable {met : ErrAt} {mismatch : Bool} {region line : Word} (held : s.boot.step ≠ .held)
    (stopped : s.boot.step ≠ .stopped) (core : ∀ n k, met ≠ .weights n k)
    (first : s.outranked t (s.errClass j met mismatch region.toNat) = false) :
    exec (.memUncorrectable false met t mismatch region line) s = .next (s.attemptError met t j mismatch region.toNat line.toNat) := by
  have row : exec (.memUncorrectable false met t mismatch region line) s = execMemUncorrectable false met t mismatch region line s := rfl
  rw [row]
  cases met with
  | weights n k => exact absurd rfl (core n k)
  | _ => simp [execMemUncorrectable, held, stopped, here, running, first]

theorem memUncorrectable_coreStore {region line : Word} (held : s.boot.step ≠ .held) (stopped : s.boot.step ≠ .stopped) :
    ∃ u, exec (.memUncorrectable false (.coreStore c) t false region line) s = .next u ∧ Abandoned s u t j 1 c.val 0 line.toNat ∧
      (u.core1 c).st = .fault ∧ u.mem.cntCoreUe = satInc 65535 s.mem.cntCoreUe ∧ u.mem.fltLine = line.toNat := by
  let noted := s.noteFault 4 15 t.val 0 line.toNat
  obtain ⟨abandoned, mem, -, st, -⟩ := State.faultOn_of_job (s := noted) here running busy runs 1 line.toNat
  refine ⟨noted.faultOn c 1 line.toNat, ?_, .of_jobs rfl rfl abandoned, st, by rw [mem]; rfl, by rw [mem]; rfl⟩
  have first : s.outranked t (s.errClass j (.coreStore c) false region.toNat) = false := s.not_outranked_one t
  rw [exec_memUncorrectable here running held stopped (fun _ _ => ErrAt.noConfusion) first]
  simp only [State.attemptError, runs, if_true, noted]

omit busy runs in
/-- An error in the attempt's broke. -/
theorem memUncorrectable_broke {vat mismatch : Bool} {region line : Word} (held : s.boot.step ≠ .held) (stopped : s.boot.step ≠ .stopped)
    (first : s.outranked t (s.errClass j (.broke vat) mismatch region.toNat) = false) :
    let cause := if vat then 3 else if mismatch then 2 else 1
    ∃ u, exec (.memUncorrectable false (.broke vat) t mismatch region line) s = .next u ∧
      Abandoned s u t j (if cause = 2 then 3 else 1) 0xFF 0 line.toNat ∧
      u.mem = (s.noteFault cause 15 t.val 0 line.toNat).mem := by
  intro cause
  obtain ⟨abandoned, mem, -, -⟩ := State.abandon_of_running (s := s.noteFault cause 15 t.val 0 line.toNat) here running
    (if cause = 2 then 3 else 1) 0xFF 0 line.toNat
  exact ⟨_, exec_memUncorrectable here running held stopped (fun _ _ => ErrAt.noConfusion) first, .of_jobs rfl rfl abandoned, mem⟩

theorem hashRebuild_acts {node : Nat} (own : c ∈ j.cores) : let n := if j.rebuildNode = some node then j.rebuilds else 0
    if n < 3 then
      ∃ u, exec (.hashRebuild ⟨t, c, node⟩) s = .next u ∧
        u.job t = some { j with rebuilds := n + 1, rebuildNode := some node, hashSeed := s.draws } ∧
        u.cores.cntRehash = satInc 65535 s.cores.cntRehash ∧ u.draws = s.draws + 1 ∧ u.cores.core = s.cores.core
    else s.outranked t 5 = false →
      ∃ u, exec (.hashRebuild ⟨t, c, node⟩) s = .next u ∧ Abandoned s u t j 5 c.val 0 0 ∧ (u.core1 c).st = .fault := by
  intro n
  let counted := (s.updCores fun c => { c with cntRehash := satInc 65535 c.cntRehash }).drew
  have row : exec (.hashRebuild ⟨t, c, node⟩) s = .next (if 3 ≤ n ∧ s.outranked t 5 then s.putOff (.hashRebuild ⟨t, c, node⟩)
      else if n < 3 then counted.updJob t fun j => { j with rebuilds := n + 1, rebuildNode := some node, hashSeed := s.draws }
      else counted.faultOn c 5 0) := by
    have row : exec (.hashRebuild ⟨t, c, node⟩) s = execHashRebuild ⟨t, c, node⟩ s := rfl
    rw [row, execHashRebuild, here]
    exact congrArg _ (if_pos ⟨running, own⟩)
  split
  · next few =>
    have noMore : ¬ (3 ≤ n ∧ s.outranked t 5 = true) := by omega
    rw [if_neg noMore, if_pos few] at row
    refine ⟨_, row, ?_, rfl, rfl, rfl⟩
    have same : counted.job t = some j := here
    rw [State.updJob_job, same]; rfl
  · next many =>
    intro first
    have alone : ¬ (3 ≤ n ∧ s.outranked t 5 = true) := by simp [first]
    rw [if_neg alone, if_neg many] at row
    obtain ⟨abandoned, -, -, st, -⟩ := State.faultOn_of_job (s := counted) here running busy runs 5 0
    exact ⟨_, row, .of_jobs rfl rfl abandoned, st⟩

end

/-! ### ATTEMPT_COMPLETE -/

/-- What holds at the start and through each step holds at the end of a fold. -/
theorem foldl_keeps {α : Type} {P : State → Prop} {f : State → α → State} (step : ∀ t a, P t → P (f t a)) (l : List α) (s : State)
    (start : P s) : P (l.foldl f s) := List.foldlRecOn l f start fun t holds a _ => step t a holds

theorem State.writeRange_only (s : State) (r : Region) (key off : Nat) (bs : Bytes) :
    ∃ m, s.writeRange r key off bs = { s with mem := m } := by
  refine foldl_keeps (P := fun t => ∃ m, t = { s with mem := m }) ?_ _ s ⟨s.mem, rfl⟩
  rintro _ i ⟨m, rfl⟩
  exact ⟨_, rfl⟩

theorem State.writeOutputs_only (s : State) (j : Job) (r : RunRes) : ∃ m, s.writeOutputs j r = { s with mem := m } := by
  refine foldl_keeps (P := fun t => ∃ m, t = { s with mem := m }) ?_ _ s ⟨s.mem, rfl⟩
  rintro _ b ⟨m, rfl⟩
  dsimp only
  split
  · obtain ⟨m', same⟩ := State.writeRange_only { s with mem := m } _ _ _ _
    exact ⟨m', same⟩
  · exact ⟨m, rfl⟩

theorem State.idleCores_only (s : State) (o : Option (Fin 64)) (cs : List (Fin 32)) :
    ∃ c, s.idleCores o cs = { s with cores := c } := by
  refine foldl_keeps (P := fun t => ∃ c, t = { s with cores := c }) ?_ _ s ⟨s.cores, rfl⟩
  rintro _ d ⟨c, rfl⟩
  exact ⟨_, rfl⟩

/-- The cores of an attempt that it still holds become IDLE, and no others. -/
theorem State.idleCores_st (s : State) (o : Option (Fin 64)) (cs : List (Fin 32)) (c : Fin 32) :
    ((s.idleCores o cs).core1 c).st =
      if c ∈ cs ∧ (s.core1 c).st = .job ∧ (s.core1 c).job = o then .idle else (s.core1 c).st := by
  induction cs generalizing s with
  | nil => exact (if_neg (by simp)).symm
  | cons d ds ih =>
    refine (ih _).trans ?_
    rw [State.core1_updCore]
    by_cases same : d = c
    · subst same
      by_cases held : (s.core1 d).st = .job ∧ (s.core1 d).job = o <;> simp [held]
    · simp [same, Ne.symm same]

section
variable {s : State} {tag : Fin 64} {j : Job} (here : s.job tag = some j) (running : j.st = .running) (alone : s.faultComes tag = false)
  (unhalted : ∀ c ∈ j.cores, s.fabric.dbgHalt.get c = false)
include here running alone unhalted

/-- An input that cannot be read abandons the attempt. -/
theorem attemptComplete_bad_input {reg line cause : Nat} (bad : s.badInput j = some (reg, line, cause)) :
    ∃ t, exec (.attemptComplete tag) s = .next t ∧ Abandoned s t tag j (if cause = 2 then 3 else 1) 0xFF reg line ∧
      t.mem.fltRegion = reg ∧ t.mem.fltLine = line := by
  let noted := s.noteFault cause (Port.id j.port) tag.val reg line
  obtain ⟨abandoned, mem, -, -⟩ := State.abandon_of_running (s := noted) here running (if cause = 2 then 3 else 1) 0xFF reg line
  refine ⟨_, ?_, .of_jobs rfl rfl abandoned, by rw [mem]; rfl, by rw [mem]; rfl⟩
  have goes : ¬ (j.st ≠ .running ∨ j.cores.any (fun c => s.fabric.dbgHalt.get c) = true) := by simpa [running] using unhalted
  rw [exec_attemptComplete_of_not_faultComes alone, State.completeAttempt, here]
  refine congrArg _ ((if_neg goes).trans ?_)
  rw [bad]

omit here running alone unhalted in
theorem State.placedResults_frame (s : State) (tag : Fin 64) (j : Job) : let u := s.placedResults tag j
    u.mem = (s.writeOutputs j (s.runResult tag j)).mem ∧ u.axes = s.axes ∧ u.leases = s.leases ∧ u.tb = s.tb ∧
      ∀ c, u.core1 c = s.core1 c := by
  obtain ⟨m, written⟩ := s.writeOutputs_only j (s.runResult tag j)
  simp only [State.placedResults, written]
  exact ⟨rfl, rfl, rfl, rfl, fun _ => rfl⟩

omit here running alone unhalted in
/-- Freeing an attempt's cores, its broke and its key set, and a change of its job. -/
theorem State.endAttempt_frame (s : State) (tag : Fin 64) (cs : List (Fin 32)) (f : Job → Job) :
    let u := ((s.idleCores (some tag) cs).releaseAttempt tag).updJob tag f
    u.mem = s.mem ∧ u.axes = s.axes ∧ u.leases = s.leases ∧ u.tb = s.tb ∧ u.jobs.graphs = s.jobs.graphs ∧ u.jobs.log = s.jobs.log := by
  obtain ⟨x, idled⟩ := s.idleCores_only (some tag) cs
  rw [idled]
  exact ⟨rfl, rfl, rfl, rfl, rfl, rfl⟩

omit here running alone unhalted in
/-- What an attempt does up to its signal: the outputs are in place, its log entry and its cores as its end leaves them, and the
axes, the leases, the graphs and the time stand. -/
theorem State.ranAttempt_frame (s : State) (tag : Fin 64) (j : Job) : let u := s.ranAttempt tag j
    u.mem = (s.writeOutputs j (s.runResult tag j)).mem ∧ u.axes = s.axes ∧ u.leases = s.leases ∧ u.tb = s.tb ∧
      u.jobs.graphs = s.jobs.graphs ∧ u.jobs.log.get tag = s.jobs.log.get tag + 15 * 16 ^ (j.attempt - 1) ∧
      ∀ c, (u.core1 c).st = if c ∈ j.cores ∧ (s.core1 c).st = .job ∧ (s.core1 c).job = some tag then .idle else (s.core1 c).st := by
  have jobs := s.placedResults_jobs tag j
  have idle (c : Fin 32) := (s.placedResults tag j).idleCores_st (some tag) j.cores c
  obtain ⟨mem, axes, leases, tb, cores⟩ := s.placedResults_frame tag j
  simp only [cores] at idle
  have log := (congrArg (fun x => Vector.get (Jobs.log x) tag) jobs).trans (bankUpd_get_self _ _ _)
  obtain ⟨mem', axes', leases', tb', graphs', log'⟩ :=
    (s.placedResults tag j).endAttempt_frame tag j.cores (Job.completed (s.runResult tag j))
  exact ⟨mem'.trans mem, axes'.trans axes, leases'.trans leases, tb'.trans tb, graphs'.trans ((congrArg Jobs.graphs jobs).trans rfl),
    (congrArg (fun l => Vector.get l tag) log').trans log, idle⟩

omit here running alone unhalted in
/-- A job DONE under a tag, with a result, and nothing held. -/
def State.Finished (s : State) (tag : Fin 64) (auto : Bool) (results flags attempt : Nat) : Prop :=
  ∃ j, s.job tag = some j ∧ j.st = .done ∧ j.autoRelease = auto ∧ j.results = results ∧ j.flags = flags ∧ j.cores = [] ∧
    j.brokeKey = none ∧ j.attempt = attempt

omit here running alone unhalted in
theorem State.Finished.of_jobs {s t : State} {tag : Fin 64} {auto : Bool} {results flags attempt : Nat} (same : t.job tag = s.job tag)
    (finished : s.Finished tag auto results flags attempt) : t.Finished tag auto results flags attempt := by
  rwa [State.Finished, same]

omit here running alone unhalted in
/-- A job DONE leaves the order of dispatch alone, and no wait makes another of it. -/
theorem State.Finished.served {s : State} {tag : Fin 64} {auto : Bool} {results flags attempt : Nat} {w : Waiter} {n : Nat}
    (finished : s.Finished tag auto results flags attempt) : (s.served w n).Finished tag auto results flags attempt := by
  cases w with
  | host tk m d => exact finished.of_jobs (State.job_of_jobs (State.reply_jobs _ _ _ _) tag)
  | job t =>
    obtain ⟨j, here, st, rest⟩ := finished
    let waited (j : Job) : Job := { j with tokenTaken := true, waitFrom := s.devTime }
    by_cases same : t = tag
    · subst same
      have waits : (s.updJob t waited).job t = some (waited j) := by rw [State.updJob_job, here]; rfl
      have not_waiting : ¬ ((waited j).st = .waiting ∧ (waited j).pastToken = true ∧ (waited j).sensorsDone s.now = true) := by
        rw [show (waited j).st = .done from st]; simp
      have stays : (s.updJob t waited).tryReady t = s.updJob t waited := by
        rw [State.tryReady, waits]; exact if_neg not_waiting
      refine ⟨waited j, ?_, st, rest⟩
      show ((s.updJob t waited).tryReady t).job t = _
      rw [stays, waits]
    · refine ⟨j, ?_, st, rest⟩
      show ((s.updJob t waited).tryReady t).job tag = _
      rw [State.tryReady_job_ne same, State.updJob_job_ne same, here]

omit here running alone unhalted in
theorem State.Finished.signalAtDone {s : State} {tag : Fin 64} {auto : Bool} {results flags attempt : Nat} (o : Option Nat)
    (finished : s.Finished tag auto results flags attempt) : (s.signalAtDone o).Finished tag auto results flags attempt := by
  cases o with
  | none => exact finished
  | some id =>
    have signalled : (s.signalToken id).1.Finished tag auto results flags attempt := by
      unfold State.signalToken
      split
      · exact finished
      · split
        · exact State.serveToken_induct (P := fun t => t.Finished tag auto results flags attempt)
            (fun _ _ _ _ finished _ _ => State.Finished.served (finished.of_jobs rfl)) _ _ (finished.of_jobs rfl)
        · exact finished
    show State.Finished (if (s.signalToken id).2 then _ else _) _ _ _ _ _
    split
    · exact signalled.of_jobs rfl
    · exact signalled

theorem attemptComplete_ends (sound : s.badInput j = none) :
    let r := runGraph j.graph (s.runEnv tag j) (s.inputBytes j)
    ∃ t, exec (.attemptComplete tag) s = .next t ∧ t.mem = (s.writeOutputs j r).mem ∧
      t.jobs.log.get tag = s.jobs.log.get tag + 15 * 16 ^ (j.attempt - 1) ∧
      (∀ c, (t.core1 c).st = if c ∈ j.cores ∧ (s.core1 c).st = .job ∧ (s.core1 c).job = some tag then .idle else (s.core1 c).st) ∧
      t.axes = s.axes ∧ t.leases = s.leases ∧ t.jobs.graphs = s.jobs.graphs ∧
      if j.autoRelease = true then t.job tag = none
      else ∃ j', t.job tag = some j' ∧ j'.st = .done ∧ j'.final = stOk ∧ j'.results = r.results ∧
        j'.flags = Nat.lor j.flags r.flags ∧ j'.cores = [] ∧ j'.brokeKey = none ∧ j'.attempt = j.attempt ∧ j'.end_ = s.devTime := by
  intro r
  obtain ⟨mem, axes, leases, tb, graphs, log, cores⟩ := s.ranAttempt_frame tag j
  have signalled := (s.ranAttempt tag j).signalAtDone_jobsOnly j.signalToken
  have ran : (s.ranAttempt tag j).Finished tag j.autoRelease r.results (Nat.lor j.flags r.flags) j.attempt :=
    ⟨_, State.ranAttempt_job here, rfl, rfl, rfl, rfl, rfl, rfl, rfl⟩
  obtain ⟨j', stays, -, auto, results, flags, held, key, attempt⟩ := ran.signalAtDone j.signalToken
  have ended := ((s.ranAttempt tag j).signalAtDone j.signalToken).endJob_jobsOnly tag .done stOk
  have frame := signalled.trans ended
  have job := State.endJob_job stays .done stOk
  refine ⟨_, (exec_attemptComplete_of_not_faultComes alone).trans
    (congrArg _ (State.completeAttempt_of_sound here running unhalted sound)), frame.mem.trans mem, ?_, ?_, frame.axes.trans axes,
    frame.leases.trans leases, frame.graphs.trans graphs, ?_⟩
  · rw [frame.log]; exact log
  · intro c; rw [(frame.cores c).1]; exact cores c
  · rw [job, auto]
    split
    · rfl
    · refine ⟨_, rfl, rfl, rfl, results, flags, held, key, attempt, ?_⟩
      have time : ((s.ranAttempt tag j).signalAtDone j.signalToken).tb = s.tb := signalled.tb.trans tb
      simp only [State.devTime, time]

end

/-- Settles O13, a row at a time. -/
theorem attemptsEnd : Obligations.AttemptsEnd := by
  refine ⟨?faults, ?order, ?complete, ?rows⟩
  case faults =>
    intro s tag comes
    have row : exec (.attemptComplete tag) s = execAttemptComplete tag s := rfl
    simp [row, execAttemptComplete, comes]
  case order =>
    intro s c
    refine ⟨fun outranked => ?_, fun m outranked => ?_, ?_, fun unhalted waits => ?_⟩
    · have row : exec (.lateArrival c) s = execLateArrival c s := rfl
      simp [row, execLateArrival, outranked]
    · have row : exec (.tokenMisuse c m) s = execTokenMisuse c m s := rfl
      simp [row, execTokenMisuse, outranked]
    · have row (u : State) : exec (.hsWdtExpiry c) u = execHsWdtExpiry c u := rfl
      simp [row, execHsWdtExpiry]
    · have row : exec (.hsWdtExpiry c) s = execHsWdtExpiry c s := rfl
      simp [row, execHsWdtExpiry, unhalted, waits]
  case complete =>
    intro s tag j here running alone unhalted
    exact ⟨fun sound => attemptComplete_ends here running alone unhalted sound,
      fun _ _ _ bad => attemptComplete_bad_input here running alone unhalted bad⟩
  case rows =>
    intro s t j c here running busy runs
    refine ⟨fun unhalted alone first => hsWdtExpiry_abandons here running busy runs unhalted alone first,
      fun first => lateArrival_abandons here running busy runs first,
      fun m misused first => tokenMisuse_abandons here running runs misused first,
      fun region line held stopped => ⟨memUncorrectable_coreStore here running busy runs held stopped, ?vat, ?hbm⟩,
      fun node own => hashRebuild_acts here running busy runs own⟩
    case vat =>
      obtain ⟨u, row, abandoned, mem⟩ := memUncorrectable_broke (vat := true) (mismatch := false) (region := region) (line := line)
        here running held stopped (s.not_outranked_one t)
      exact ⟨u, row, abandoned, by rw [mem]; rfl, by rw [mem]; rfl⟩
    case hbm =>
      intro mismatch first
      have alone : s.outranked t (s.errClass j (.broke false) mismatch region.toNat) = false := by
        cases mismatch with
        | true => exact first rfl
        | false => exact s.not_outranked_one t
      obtain ⟨u, row, abandoned, mem⟩ := memUncorrectable_broke (vat := false) (line := line) here running held stopped alone
      refine ⟨u, row, ?_, by rw [mem]; rfl⟩
      cases mismatch <;> exact abandoned

end Sys2Proof.Machine
end

section
/-! PROOFS. Dispatch (R208, R209): the head of the order and the attempt that is started of it. -/

namespace Sys2Proof.Machine

/-! ### Taking some of a list -/

theorem getD_mod_mem (x : Nat) (xs : List Nat) (k : Nat) : (x :: xs).getD (k % (xs.length + 1)) x ∈ x :: xs := by
  have inRange : k % (xs.length + 1) < (x :: xs).length := Nat.mod_lt _ (Nat.succ_pos _)
  rw [List.getD_eq_getElem _ _ inRange]
  exact List.getElem_mem _

theorem pickSome_length {n k : Nat} {l : List Nat} (room : n ≤ l.length) : (pickSome n k l).length = n := by
  induction n generalizing k l with
  | zero => rfl
  | succ n ih =>
    cases l with
    | nil => simp at room
    | cons x xs =>
      simp only [pickSome, List.length_cons, Nat.add_right_cancel_iff]
      refine ih ?_
      have := List.length_erase_add_one (a := (x :: xs).getD (Config.place k % (xs.length + 1)) x) (l := x :: xs) (getD_mod_mem _ _ _)
      simp only [List.length_cons] at this room
      omega

theorem pickSome_subset {n k : Nat} {l : List Nat} : pickSome n k l ⊆ l := by
  induction n generalizing k l with
  | zero => exact List.nil_subset _
  | succ n ih =>
    cases l with
    | nil => exact List.nil_subset _
    | cons x xs =>
      rw [pickSome]
      exact List.cons_subset.mpr ⟨getD_mod_mem _ _ _, List.Subset.trans ih List.erase_subset⟩

theorem pickSome_nodup {n k : Nat} {l : List Nat} (nodup : l.Nodup) : (pickSome n k l).Nodup := by
  induction n generalizing k l with
  | zero => exact List.nodup_nil
  | succ n ih =>
    cases l with
    | nil => exact List.nodup_nil
    | cons x xs =>
      rw [pickSome]
      exact List.nodup_cons.mpr ⟨fun mem => nodup.not_mem_erase (pickSome_subset mem), ih (nodup.erase _)⟩

/-- As many granules are free as the count says, or more. -/
theorem State.freeCount_le (s : State) (p : Store) : s.freeCount p ≤ (s.freeGranules p).length := by
  let used := s.usedGranules p
  have split := List.length_eq_length_filter_add (l := List.range p.total) (fun g => !used.contains g)
  have taken : ((List.range p.total).filter fun g => !(!used.contains g)).length ≤ used.length := by
    refine (List.subperm_of_subset (List.nodup_range.filter _) fun g mem => ?_).length_le
    simpa using (List.mem_filter.mp mem).2
  rw [List.length_range] at split
  show p.total - used.length ≤ ((List.range p.total).filter fun g => !used.contains g).length
  omega

/-! ### The head of the order (R208) -/

/-- The place of a job in the order of first becoming READY. -/
def Job.place (j : Job) : Nat := j.readyPos.getD 0

/-- The first of a list to have become READY, an earlier one given. -/
def firstReady : Option (Fin 64 × Job) → List (Fin 64 × Job) → Option (Fin 64 × Job) :=
  List.foldl fun a x => match a with
    | none => some x
    | some y => if x.2.readyPos.getD 0 < y.2.readyPos.getD 0 then some x else some y

theorem firstReady_some {a : Option (Fin 64 × Job)} {l : List (Fin 64 × Job)} {x : Fin 64 × Job} (first : firstReady a l = some x) :
    (x ∈ l ∨ a = some x) ∧ (∀ y, y ∈ l ∨ a = some y → x.2.place ≤ y.2.place) := by
  induction l generalizing a with
  | nil =>
    refine ⟨.inr first, ?_⟩
    rintro y (none_ | here)
    · cases none_
    · exact (Option.some.inj (first.symm.trans here)) ▸ le_rfl
  | cons z l ih =>
    obtain ⟨from_, least⟩ := ih first
    cases a with
    | none =>
      refine ⟨?_, ?_⟩
      · rcases from_ with mem | is
        · exact .inl (List.mem_cons_of_mem _ mem)
        · exact .inl (Option.some.inj is ▸ List.mem_cons_self)
      · rintro y (mem | none)
        · rcases List.mem_cons.mp mem with rfl | mem
          · exact least y (.inr rfl)
          · exact least y (.inl mem)
        · cases none
    | some w =>
      by_cases earlier : z.2.readyPos.getD 0 < w.2.readyPos.getD 0
      · simp only [if_pos earlier] at from_ least
        have before := least z (.inr rfl)
        refine ⟨?_, ?_⟩
        · rcases from_ with mem | is
          · exact .inl (List.mem_cons_of_mem _ mem)
          · exact .inl (Option.some.inj is ▸ List.mem_cons_self)
        · rintro y (mem | is)
          · rcases List.mem_cons.mp mem with rfl | mem
            · exact before
            · exact least y (.inl mem)
          · cases is
            exact before.trans earlier.le
      · simp only [if_neg earlier] at from_ least
        have before := least w (.inr rfl)
        refine ⟨from_.imp (List.mem_cons_of_mem _) id, ?_⟩
        rintro y (mem | is)
        · rcases List.mem_cons.mp mem with rfl | mem
          · exact before.trans (Nat.not_lt.mp earlier)
          · exact least y (.inl mem)
        · cases is
          exact before

theorem firstReady_none {a : Option (Fin 64 × Job)} {l : List (Fin 64 × Job)} (none_ : firstReady a l = none) : a = none ∧ l = [] := by
  induction l generalizing a with
  | nil => exact ⟨none_, rfl⟩
  | cons z l ih =>
    have := (ih none_).1
    cases a with
    | none => cases this
    | some w => dsimp only at this; split at this <;> cases this

theorem State.mem_readyJobs {s : State} {t : Fin 64} {j : Job} : (t, j) ∈ s.readyJobs ↔ s.job t = some j ∧ j.st = .ready := by
  simp only [State.readyJobs, bankList, List.mem_filterMap, List.mem_map, List.mem_finRange, true_and, State.job]
  constructor
  · rintro ⟨_, ⟨k, rfl⟩, found⟩
    dsimp only at found
    split at found
    · next j' here =>
      split at found
      · next ready => cases found; exact ⟨here, ready⟩
      · cases found
    · cases found
  · rintro ⟨here, ready⟩
    exact ⟨_, ⟨t, rfl⟩, by simp [here, ready]⟩

/-- The jobs of the order whose owners are owed cores. -/
def State.owedJobs (s : State) : List (Fin 64 × Job) := s.readyJobs.filter fun x => decide (0 < s.coresOwed x.2.port)

theorem State.headJob_eq (s : State) : s.headJob = match firstReady none s.owedJobs with
    | some x => some x
    | none => firstReady none s.readyJobs := rfl

theorem State.headJob_first {s : State} {t : Fin 64} {j : Job} (head : s.headJob = some (t, j)) :
    s.job t = some j ∧ j.st = .ready ∧ ∀ k j', s.job k = some j' → j'.st = .ready →
      if 0 < s.coresOwed j.port then s.coresOwed j'.port = 0 ∨ j.place ≤ j'.place
      else s.coresOwed j'.port = 0 ∧ j.place ≤ j'.place := by
  rw [State.headJob_eq] at head
  cases owed : firstReady none s.owedJobs with
  | some x =>
    rw [owed] at head
    obtain rfl := Option.some.inj head
    obtain ⟨mem | none_, least⟩ := firstReady_some owed
    · obtain ⟨ready, isOwed⟩ := List.mem_filter.mp mem
      obtain ⟨here, st⟩ := State.mem_readyJobs.mp ready
      refine ⟨here, st, fun k j' here' ready' => ?_⟩
      rw [if_pos (of_decide_eq_true isOwed)]
      by_cases zero : s.coresOwed j'.port = 0
      · exact .inl zero
      · refine .inr (least (k, j') (.inl (List.mem_filter.mpr ⟨State.mem_readyJobs.mpr ⟨here', ready'⟩, ?_⟩)))
        exact decide_eq_true (Nat.pos_of_ne_zero zero)
    · cases none_
  | none =>
    rw [owed] at head
    have nobody := (firstReady_none owed).2
    have zero {k : Fin 64} {j' : Job} (mem : (k, j') ∈ s.readyJobs) : s.coresOwed j'.port = 0 := by
      by_contra owes
      have : (k, j') ∈ s.owedJobs := List.mem_filter.mpr ⟨mem, decide_eq_true (Nat.pos_of_ne_zero owes)⟩
      rw [nobody] at this
      cases this
    obtain ⟨mem | none_, least⟩ := firstReady_some head
    · obtain ⟨here, st⟩ := State.mem_readyJobs.mp mem
      refine ⟨here, st, fun k j' here' ready' => ?_⟩
      have mem' : (k, j') ∈ s.readyJobs := State.mem_readyJobs.mpr ⟨here', ready'⟩
      rw [zero mem, if_neg (Nat.lt_irrefl 0)]
      exact ⟨zero mem', least (k, j') (.inl mem')⟩
    · cases none_

/-! ### Starting an attempt -/

/-- Cores that take an attempt, and no others. -/
theorem State.foldl_takeCore (s : State) (t : Fin 64) (cs : List (Fin 32)) :
    let u := cs.foldl (fun s c => s.updCore c fun x => { x with st := .job, job := some t }) s
    (∃ x, u = { s with cores := x }) ∧
    ∀ c, if c ∈ cs then (u.core1 c).st = .job ∧ (u.core1 c).job = some t else u.core1 c = s.core1 c := by
  induction cs generalizing s with
  | nil => exact ⟨⟨_, rfl⟩, fun c => rfl⟩
  | cons d ds ih =>
    obtain ⟨⟨x, only⟩, cores⟩ := ih (s.updCore d fun x => { x with st := .job, job := some t })
    refine ⟨⟨x, only⟩, fun c => ?_⟩
    have := cores c
    rw [State.core1_updCore] at this
    by_cases mem : c ∈ ds
    · rw [if_pos mem] at this
      rwa [if_pos (List.mem_cons_of_mem _ mem)]
    · rw [if_neg mem] at this
      by_cases same : d = c
      · subst same
        rw [if_pos rfl] at this
        rw [if_pos List.mem_cons_self]
        exact (congrArg (fun x : Core1 => x.st = .job ∧ x.job = some t) this).mpr ⟨rfl, rfl⟩
      · rw [if_neg same] at this
        rwa [if_neg (by simp [mem, Ne.symm same])]

/-- The granules of a store that an attempt's broke takes. -/
def State.brokeOf (s : State) (j : Job) : Store → List Nat
  | .hbm => pickSome j.graph.brokeHbm s.mem.order (s.freeGranules .hbm)
  | .vat => pickSome j.graph.brokeVat (s.mem.order + 65536) (s.freeGranules .vat)

/-- The job as its attempt begins. -/
def State.attempted (s : State) (j : Job) (cs : List (Fin 32)) (x : Job) : Job :=
  { x with
    st := .running, attempt := x.attempt + 1, cores := cs, brokeKey := some s.mem.nextKey, brokeHbm := s.brokeOf j .hbm,
    brokeVat := s.brokeOf j .vat, hashSeed := s.draws, rebuilds := 0, rebuildNode := none,
    selfTokens := (pickSome (Config.place (s.mem.order + 196608) % 17) (s.mem.order + 262144) s.freeSelfTokens).map fun i => (i, 0),
    start := if x.attempt = 0 then s.devTime else x.start }

/-- The key set and the broke of an attempt are its own. -/
def State.brokeTaken (s : State) (t : Fin 64) (j : Job) : State :=
  (s.drew.fillSlot (slotBroke t)).updMem fun m =>
    { m with nextKey := m.nextKey + 1, order := m.order + 1,
             hbm := { m.hbm with broke := m.hbm.broke ++ (s.brokeOf j .hbm).map fun g => ⟨g, s.mem.nextKey, m.order⟩ },
             vat := { m.vat with broke := m.vat.broke ++ (s.brokeOf j .vat).map fun g => ⟨g, s.mem.nextKey, m.order⟩ } }

theorem State.startAttempt_eq (s : State) (t : Fin 64) (j : Job) (cs : List (Fin 32)) : s.startAttempt t j cs =
    cs.foldl (fun s c => s.updCore c fun x => { x with st := .job, job := some t }) ((s.brokeTaken t j).updJob t (s.attempted j cs)) :=
  rfl

/-- An attempt started: its cores taken, its job running with its broke and key set, no other job touched. -/
theorem State.startAttempt_frame {s : State} {t : Fin 64} {j : Job} (here : s.job t = some j) (hbm : j.graph.brokeHbm ≤ s.freeCount .hbm)
    (vat : j.graph.brokeVat ≤ s.freeCount .vat) (cs : List (Fin 32)) : let u := s.startAttempt t j cs
    (∀ c, if c ∈ cs then (u.core1 c).st = .job ∧ (u.core1 c).job = some t else u.core1 c = s.core1 c) ∧
      ∃ j', u.job t = some j' ∧ j'.st = .running ∧ j'.attempt = j.attempt + 1 ∧ j'.cores = cs ∧
        j'.brokeKey = some s.mem.nextKey ∧ j'.brokeHbm.length = j.graph.brokeHbm ∧ j'.brokeVat.length = j.graph.brokeVat ∧
        u.mem.nextKey = s.mem.nextKey + 1 ∧ u.mem.regions = s.mem.regions ∧ ∀ k, k ≠ t → u.job k = s.job k := by
  let s2 := (s.brokeTaken t j).updJob t (s.attempted j cs)
  obtain ⟨⟨x, only⟩, cores⟩ := s2.foldl_takeCore t cs
  intro u
  have is : u = { s2 with cores := x } := (s.startAttempt_eq t j cs).trans only
  have job : s2.job t = some (s.attempted j cs j) := by
    have same : (s.brokeTaken t j).job t = some j := here
    rw [State.updJob_job, same]; rfl
  refine ⟨cores, s.attempted j cs j, by rw [is]; exact job, rfl, rfl, rfl, rfl, pickSome_length (hbm.trans (s.freeCount_le .hbm)),
    pickSome_length (vat.trans (s.freeCount_le .vat)), by rw [is]; rfl, by rw [is]; rfl, fun k other => ?_⟩
  rw [is]
  exact State.updJob_job_ne (Ne.symm other) _

/-- The attempt that is dispatched takes as many of the free cores as it is to have. -/
theorem dispatched_cores {l : List (Fin 32)} (nodup : l.Nodup) {n k : Nat} (room : n ≤ l.length) :
    let cs := (pickSome n k (l.map (·.val))).map (Fin.ofNat 32)
    cs.Nodup ∧ cs.length = n ∧ ∀ c ∈ cs, c ∈ l := by
  have inj : (pickSome n k (l.map (·.val))).Nodup := pickSome_nodup (nodup.map Fin.val_injective)
  have from_ : ∀ x ∈ pickSome n k (l.map (·.val)), ∃ c ∈ l, c.val = x := fun x mem => List.mem_map.mp (pickSome_subset mem)
  refine ⟨?_, ?_, ?_⟩
  · refine List.Nodup.map_on (fun x hx y hy same => ?_) inj
    obtain ⟨c, -, rfl⟩ := from_ x hx
    obtain ⟨d, -, rfl⟩ := from_ y hy
    exact congrArg Fin.val (by simpa [Fin.ofNat, Nat.mod_eq_of_lt c.isLt, Nat.mod_eq_of_lt d.isLt] using same)
  · rw [List.length_map]
    exact pickSome_length (by rwa [List.length_map])
  · intro c mem
    obtain ⟨x, hx, rfl⟩ := List.mem_map.mp mem
    obtain ⟨d, hd, rfl⟩ := from_ x hx
    rwa [show Fin.ofNat 32 d.val = d from Fin.ext (Nat.mod_eq_of_lt d.isLt)]

/-- Settles O14: the head is the first of its kind in a fold over the order, and a dispatch starts its attempt. -/
theorem dispatchTakesTheOldest : Obligations.DispatchTakesTheOldest := by
  refine ⟨fun s t j head => State.headJob_first head, ?waits, ?starts⟩
  case waits =>
    intro s waits
    exact congrArg _ (if_pos waits)
  case starts =>
    intro s t j head alone last free others a
    have row : exec .jobDispatch s = .next s.dispatch := congrArg _ (if_neg (by simp [alone, last]))
    obtain ⟨here, -, -⟩ := State.headJob_first head
    split
    · next fits =>
      obtain ⟨enough, notHeld, hbm, vat⟩ := fits
      have starts : s.dispatch = s.startAttempt t j
          ((pickSome (min j.graph.coresHigh a) (s.mem.order + 131072) (free.map (·.val))).map (Fin.ofNat 32)) := by
        rw [State.dispatch, head]
        refine if_neg ?_
        rintro (few | held | noHbm | noVat)
        · exact absurd enough (Nat.not_le.mpr few)
        · rw [notHeld] at held; cases held
        · exact absurd hbm (Nat.not_le.mpr noHbm)
        · exact absurd vat (Nat.not_le.mpr noVat)
      have room : min j.graph.coresHigh a ≤ free.length := (Nat.min_le_right _ _).trans (Nat.sub_le _ _)
      obtain ⟨nodup, length, members⟩ := dispatched_cores (k := s.mem.order + 131072) ((List.nodup_finRange 32).filter s.coreFree) room
      obtain ⟨cores, job⟩ := State.startAttempt_frame here hbm vat
        ((pickSome (min j.graph.coresHigh a) (s.mem.order + 131072) (free.map (·.val))).map (Fin.ofNat 32))
      exact ⟨_, _, row.trans (congrArg _ starts), nodup, length, fun c mem => (List.mem_filter.mp (members c mem)).2, cores, job⟩
    · next misfit =>
      refine row.trans (congrArg _ ?_)
      rw [State.dispatch, head]
      refine if_pos ?_
      by_contra fits
      simp only [not_or, Nat.not_lt] at fits
      obtain ⟨enough, notHeld, hbm, vat⟩ := fits
      exact misfit ⟨enough, Bool.eq_false_iff.mpr notHeld, hbm, vat⟩

end Sys2Proof.Machine
end

section
/-! PROOFS. Stopped attempts, sensor windows and the self-tests of the cores (R189, R192, R205, R206, R211). -/

namespace Sys2Proof.Machine

theorem forAll_keeps {n : Nat} {P : State → Prop} {f : State → Fin n → State} (step : ∀ t i, P t → P (f t i)) (s : State) (start : P s) :
    P (forAll s f) := foldl_keeps step _ s start

/-! ### ATTEMPT_STOPPED -/

/-- An attempt whose tag was freed has stopped: its cores are free, its place among the stopping gone, a draw taken. -/
theorem attemptStopped_untagged {s : State} {tag : Fin 64} {a : Stopping}
    (stops : s.jobs.stopping.find? (fun a => a.tag == tag) = some a) : ∃ u, exec (.attemptStopped tag) s = .next u ∧
      (∀ c, (u.core1 c).st = if c ∈ a.cores ∧ (s.core1 c).st = .job ∧ (s.core1 c).job = none then .idle else (s.core1 c).st) ∧
      u.mem = s.mem ∧ u.jobs = { s.jobs with stopping := s.jobs.stopping.erase a } ∧ u.draws = s.draws + 1 := by
  let s1 := (s.idleCores none a.cores).updJobs fun x => { x with stopping := x.stopping.erase a }
  have row : exec (.attemptStopped tag) s = .next
      (if ((s.job tag).map fun y => y.brokeKey.isSome) = some true then s1.drew else s1.fillSlot (slotBroke tag)) := by
    have row : exec (.attemptStopped tag) s = execAttemptStopped tag s := rfl
    rw [row, execAttemptStopped, stops]
  obtain ⟨x, only⟩ := s.idleCores_only none a.cores
  have cores := s.idleCores_st none a.cores
  have idled : s1 = { s with cores := x, jobs := { s.jobs with stopping := s.jobs.stopping.erase a } } := by
    simp only [s1, only]; rfl
  refine ⟨_, row, ?_⟩
  rw [only] at cores
  split <;> exact ⟨by rw [idled]; exact cores, by rw [idled]; rfl, by rw [idled]; rfl, by rw [idled]; rfl⟩

/-- An attempt of a job that was abandoned has stopped: its cores, its broke and its key set are free, and a RESTARTING job is READY
again in its place. -/
theorem attemptStopped_tagged {s : State} {tag : Fin 64} {j : Job} (untagged : s.jobs.stopping.find? (fun a => a.tag == tag) = none)
    (here : s.job tag = some j) (stopped : j.st ≠ .running) (held : j.brokeKey ≠ none) :
    ∃ u, exec (.attemptStopped tag) s = .next u ∧
      (∀ c, (u.core1 c).st = if c ∈ j.cores ∧ (s.core1 c).st = .job ∧ (s.core1 c).job = some tag then .idle else (s.core1 c).st) ∧
      u.mem = s.mem ∧ (∀ k, k ≠ tag → u.job k = s.job k) ∧ u.keys.table.get (slotBroke tag) = s.draws ∧
      if j.st = .restarting then
        u.job tag = some { j.release with st := .ready, readyPos := some (j.readyPos.getD s.jobs.readyNext) }
      else u.job tag = some j.release := by
  let s1 := (s.idleCores (some tag) j.cores).releaseAttempt tag
  let raised (u : State) : State := u.raise 2 7 (Port.id j.port) (le 1 tag.val ++ le 1 j.attempt ++ le 1 j.lastClass ++ le 1 j.lastCore
    ++ le 4 j.lastRegion ++ le 4 j.lastDetail) j.port
  have goes : ¬ (j.brokeKey.isNone = true ∨ j.st = .running) := by simp [held, stopped]
  have row : exec (.attemptStopped tag) s = .next (if j.st = .restarting then raised (s1.makeReady tag) else s1) := by
    have row : exec (.attemptStopped tag) s = execAttemptStopped tag s := rfl
    rw [row, execAttemptStopped, untagged, here]
    exact congrArg _ (if_neg goes)
  obtain ⟨x, only⟩ := s.idleCores_only (some tag) j.cores
  have cores := s.idleCores_st (some tag) j.cores
  have idled : s1 = ({ s with cores := x } : State).releaseAttempt tag := by simp only [s1, only]
  rw [only] at cores
  have job : s1.job tag = some j.release := by
    have same : ({ s with cores := x } : State).job tag = some j := here
    rw [idled, State.releaseAttempt_job, same]; rfl
  have others (k : Fin 64) (other : k ≠ tag) : s1.job k = s.job k := by
    rw [idled]; exact State.updJob_job_ne (Ne.symm other) _
  have key : s1.keys.table.get (slotBroke tag) = s.draws := by rw [idled]; exact bankSet_get_self _ _ _
  refine ⟨_, row, ?_⟩
  split
  · next again =>
    refine ⟨by rw [idled]; exact cores, by rw [idled]; rfl, fun k other => ?_, key, ?_⟩
    · exact (State.updJob_job_ne (Ne.symm other) _).trans (others k other)
    · have ready : (s1.makeReady tag).job tag = _ := State.updJob_job s1 tag _
      rw [job] at ready
      have next : s1.jobs.readyNext = s.jobs.readyNext := by rw [idled]; rfl
      rw [next] at ready
      exact ready
  · exact ⟨by rw [idled]; exact cores, by rw [idled]; rfl, others, key, job⟩

/-! ### SENSOR_WINDOW_EXPIRY -/

theorem foldl_min_le {d a : Nat} {l : List Nat} (mem : d ∈ l) : l.foldl min a ≤ d := by
  induction l generalizing a with
  | nil => cases mem
  | cons x l ih =>
    have below (l : List Nat) (a : Nat) : l.foldl min a ≤ a := by
      induction l generalizing a with
      | nil => exact le_rfl
      | cons x l ih => exact (ih _).trans (min_le_left _ _)
    rcases List.mem_cons.mp mem with rfl | mem
    · exact (below l _).trans (min_le_right _ _)
    · exact ih mem

/-- The window of a job with SENSOR_MIN ports delivered has passed since one of its frames. -/
theorem Job.sensorsDone_of_window {j : Job} {now : Nat} {d : Delivery} (min_ : j.graph.sensorMin ≠ 0)
    (enough : j.graph.sensorMin ≤ j.delivered.length) (mem : d ∈ j.delivered) (past : d.fsTick + j.graph.windowUs * usTicks ≤ now) :
    j.sensorsDone now = true := by
  have first : (j.delivered.map (·.fsTick)).foldl min now ≤ d.fsTick := foldl_min_le (List.mem_map_of_mem mem)
  have nonempty : j.delivered.isEmpty = false := List.isEmpty_eq_false_iff.mpr (List.ne_nil_of_mem mem)
  have passed : (j.delivered.map (·.fsTick)).foldl min now + j.graph.windowUs * usTicks ≤ now := by omega
  simp [Job.sensorsDone, min_, enough, nonempty, passed]

/-- A job past its token whose sensor wait has ended becomes READY, with the camera models in force. -/
theorem State.tryReady_of_done {s : State} {tag : Fin 64} {j : Job} (here : s.job tag = some j) (waits : j.st = .waiting)
    (past : j.pastToken = true) (done : j.sensorsDone s.now = true) : s.tryReady tag = s.updJobs fun x => { x with
      readyNext := x.readyNext + 1,
      tags := bankSet x.tags tag (some { j with
        st := .ready, readyPos := some (j.readyPos.getD x.readyNext),
        cams := j.ports.map fun p => (p, (s.headbox.cam.get p).active),
        flags := if j.delivered.length < j.ports.length then Nat.lor j.flags 2 else Nat.lor j.flags 0 }) } := by
  have goes : j.st = .waiting ∧ j.pastToken = true ∧ j.sensorsDone s.now = true := ⟨waits, past, done⟩
  have found : s.jobs.tags.get tag = some j := here
  have set (f : Option Job → Option Job) : bankUpd s.jobs.tags tag f = bankSet s.jobs.tags tag (f (some j)) := by
    rw [bankUpd, found]; rfl
  rw [State.tryReady, here]
  dsimp only
  rw [if_pos goes]
  simp only [State.makeReady, State.updJob, State.updJobs, set, bankUpd_bankSet, Option.map_some]
  by_cases short : j.delivered.length < j.ports.length
  · simp only [short, decide_true, if_true]; rfl
  · simp only [short, decide_false, if_false, Bool.false_eq_true]

/-! ### CORE_SELF_TEST_DONE and CORE_IDLE_OFF -/

/-- Pinning the cores anew leaves a core that is IDLE or PINNED so, and the axes and the jobs alone. -/
theorem State.repin_keeps_free {s : State} {c : Fin 32} (free : (s.core1 c).st = .idle ∨ (s.core1 c).st = .pinned)
    (serves : (s.core1 c).retired = false) : ((s.repin.core1 c).st = .idle ∨ (s.repin.core1 c).st = .pinned) ∧
      (s.repin.core1 c).retired = false ∧ s.repin.axes = s.axes ∧ s.repin.jobs = s.jobs := by
  refine forAll_keeps (P := fun t => ((t.core1 c).st = .idle ∨ (t.core1 c).st = .pinned) ∧ (t.core1 c).retired = false ∧
    t.axes = s.axes ∧ t.jobs = s.jobs) ?_ s ⟨free, serves, rfl, rfl⟩
  rintro t d ⟨free, serves, axes, jobs⟩
  have upd (f : Core1 → Core1) (st : ∀ x, (f x).st = .idle ∨ (f x).st = .pinned) (retired : ∀ x, (f x).retired = x.retired) :
      (((t.updCore d f).core1 c).st = .idle ∨ ((t.updCore d f).core1 c).st = .pinned) ∧ ((t.updCore d f).core1 c).retired = false ∧
        (t.updCore d f).axes = s.axes ∧ (t.updCore d f).jobs = s.jobs := by
    rw [State.core1_updCore]
    split
    · exact ⟨st _, (retired _).trans serves, axes, jobs⟩
    · exact ⟨free, serves, axes, jobs⟩
  dsimp only
  split
  · exact ⟨free, serves, axes, jobs⟩
  · split
    · exact upd _ (fun _ => .inr rfl) fun _ => rfl
    · split
      · exact upd _ (fun _ => .inl rfl) fun _ => rfl
      · exact ⟨free, serves, axes, jobs⟩

theorem coreSelfTestDone_acts {s : State} {c : Fin 32} {pass : Bool} (fault : (s.core1 c).st = .fault)
    (serves : (s.core1 c).retired = false) (unhalted : s.fabric.dbgHalt.get c = false) (up : s.boot.dev ≠ .shutdown) :
    if pass = true ∧ (s.core1 c).faults < s.cores.faultMax then
      ∃ u, exec (.coreSelfTestDone c pass) s = .next u ∧ ((u.core1 c).st = .idle ∨ (u.core1 c).st = .pinned) ∧
        (u.core1 c).retired = false ∧ u.axes = s.axes ∧ u.jobs = s.jobs
    else exec (.coreSelfTestDone c pass) s = .next (s.updCore c fun x => { x with retired := true }) := by
  have tested : (s.core1 c).st = .fault ∧ ¬ (s.core1 c).retired = true ∧ ¬ s.fabric.dbgHalt.get c = true ∧ s.boot.dev ≠ .shutdown := by
    simp [fault, serves, unhalted, up]
  have row : exec (.coreSelfTestDone c pass) s = .next (if pass = true ∧ (s.core1 c).faults < s.cores.faultMax then
      (s.updCore c fun x => { x with st := .idle, idleAt := s.now }).repin
      else s.updCore c fun x => { x with retired := true }) := congrArg _ (if_pos tested)
  split
  · next passes =>
    have idle : (s.updCore c fun x => { x with st := .idle, idleAt := s.now }).core1 c = { s.core1 c with st := .idle, idleAt := s.now } :=
      (s.core1_updCore c c _).trans (if_pos rfl)
    exact ⟨_, row.trans (congrArg _ (if_pos passes)), State.repin_keeps_free (.inl (by rw [idle])) (by rw [idle]; exact serves)⟩
  · next fails => exact row.trans (congrArg _ (if_neg fails))

/-- Settles O15, a row at a time. -/
theorem coreRowsAct : Obligations.CoreRowsAct := by
  refine ⟨fun s tag a stops => attemptStopped_untagged stops,
    fun s tag j untagged here stopped held => attemptStopped_tagged untagged here stopped held,
    fun s tag waits => congrArg _ (if_pos waits), ?window,
    fun s c pass fault serves unhalted up => coreSelfTestDone_acts fault serves unhalted up, ?idle⟩
  case window =>
    intro s tag j d alone here waits past min_ enough mem passed
    have row : exec (.sensorWindowExpiry tag) s = .next (s.tryReady tag) := congrArg _ (if_neg (by simp [alone]))
    exact row.trans (congrArg _ (State.tryReady_of_done here waits past (Job.sensorsDone_of_window min_ enough mem passed)))
  case idle =>
    intro s c
    have row : exec (.coreIdleOff c) s = execCoreIdleOff c s := rfl
    simp only [row, execCoreIdleOff, Bool.not_eq_true]

end Sys2Proof.Machine
end

section
/-! PROOFS. What stands still within a tick: no command, no settling of the arrivals and no end of a session moves D01. Only a
tick does (notes/assumptions/1). -/

namespace Sys2Proof.Machine

@[simp] theorem State.dropPacket_now (s : State) (h : Hdr) : (State.dropPacket s h).now = s.now := by
  unfold State.dropPacket; (repeat' split) <;> simp -proj

@[simp] theorem doGearConfig_now (t : Ticket) (g : Fin 8) (p : GearP) (s : State) : (doGearConfig t g p s).now = s.now := by
  unfold doGearConfig; dsimp -proj only; (repeat' split) <;> simp -proj

@[simp] theorem doLightSet_now (t : Ticket) (gi : Fin 8) (p : LightSetP) (s : State) : (doLightSet t gi p s).now = s.now := by
  unfold doLightSet; dsimp -proj only; (repeat' split) <;> simp -proj

@[simp] theorem doLightGroupConfig_now (t : Ticket) (gi : Fin 8) (p : LightCfgP) (s : State) :
    (doLightGroupConfig t gi p s).now = s.now := by
  unfold doLightGroupConfig; dsimp -proj only; (repeat' split) <;> simp -proj

@[simp] theorem doStrobeArm_now (t : Ticket) (gi : Fin 8) (p : StrobeP) (s : State) : (doStrobeArm t gi p s).now = s.now := by
  unfold doStrobeArm; dsimp -proj only; (repeat' split) <;> simp -proj

@[simp] theorem doMatrixFrame_now (t : Ticket) (p : MatrixP) (s : State) : (doMatrixFrame t p s).now = s.now := by
  unfold doMatrixFrame; (repeat' split) <;> simp -proj

@[simp] theorem doAxisConfig_now (t : Ticket) (p : AxisCfgP) (s : State) : (doAxisConfig t p s).now = s.now := by
  unfold doAxisConfig; dsimp -proj only; (repeat' split) <;> simp -proj

@[simp] theorem doAxisEnable_now (t : Ticket) (en : Byte) (realign : Bool) (s : State) :
    (doAxisEnable t en realign s).now = s.now := by
  unfold doAxisEnable; dsimp -proj only; (repeat' split) <;> simp -proj

@[simp] theorem doAxisCommand_now (t : Ticket) (p : AxisCmdP) (s : State) : (doAxisCommand t p s).now = s.now := by
  unfold doAxisCommand; dsimp -proj only; (repeat' split) <;> simp -proj

@[simp] theorem doAxisStop_now (t : Ticket) (cat : Byte) (s : State) : (doAxisStop t cat s).now = s.now := by
  unfold doAxisStop; dsimp -proj only; (repeat' split) <;> simp -proj

@[simp] theorem doAxisStatus_now (t : Ticket) (s : State) : (doAxisStatus t s).now = s.now := by
  simp -proj [doAxisStatus]

@[simp] theorem doSafeStop_now (t : Ticket) (mask : Byte) (cat : Byte) (s : State) : (doSafeStop t mask cat s).now = s.now := by
  unfold doSafeStop; (repeat' split) <;> simp -proj

@[simp] theorem doSafeRelease_now (t : Ticket) (mask : Byte) (s : State) : (doSafeRelease t mask s).now = s.now := by
  unfold doSafeRelease
  refine ite_now (by simp -proj) ?_
  simp -proj only [State.reply_now, State.safeEvent_now]
  exact forAll_now _ _ fun s n => ite_now (by simp -proj) rfl

@[simp] theorem doSafeStatus_now (t : Ticket) (s : State) : (doSafeStatus t s).now = s.now := by
  simp -proj [doSafeStatus]

@[simp] theorem doMemAlloc_now (t : Ticket) (size : BitVec 64) (place : Byte) (s : State) :
    (doMemAlloc t size place s).now = s.now := by
  unfold doMemAlloc; dsimp -proj only; (repeat' split) <;> simp -proj

@[simp] theorem doMemFree_now (t : Ticket) (region : Word) (s : State) : (doMemFree t region s).now = s.now := by
  unfold doMemFree; (repeat' split) <;> simp -proj

@[simp] theorem doMemWrite_now (t : Ticket) (region : Word) (offset : BitVec 64) (data : Bytes) (s : State) :
    (doMemWrite t region offset data s).now = s.now := by
  unfold doMemWrite; (repeat' split) <;> simp -proj

@[simp] theorem doMemRead_now (t : Ticket) (r l : Word) (o : BitVec 64) (s : State) : (doMemRead t r l o s).now = s.now := by
  unfold doMemRead; dsimp -proj only; (repeat' split) <;> simp -proj

@[simp] theorem doMemFill_now (t : Ticket) (region : Word) (pattern : Word) (offset : BitVec 64) (length : BitVec 64) (s : State) :
    (doMemFill t region pattern offset length s).now = s.now := by
  unfold doMemFill; (repeat' split) <;> simp -proj

@[simp] theorem doObserverLoad_now (t : Ticket) (p : ObsLoadP) (s : State) : (doObserverLoad t p s).now = s.now := by
  unfold doObserverLoad; dsimp -proj only; (repeat' split) <;> simp -proj

@[simp] theorem doLinkTestStart_now (t : Ticket) (u : Fin 16) (p : LinkStartP) (s : State) :
    (doLinkTestStart t u p s).now = s.now := by
  unfold doLinkTestStart; dsimp -proj only; (repeat' split) <;> simp -proj

@[simp] theorem doLinkTestResult_now (t : Ticket) (u : Fin 16) (s : State) : (doLinkTestResult t u s).now = s.now := by
  simp -proj [doLinkTestResult]

@[simp] theorem State.updToken_now (s : State) (id : Nat) (f : Token → Token) : (State.updToken s id f).now = s.now := by
  simp -proj [State.updToken]

@[simp] theorem State.makeReady_now (s : State) (t : Fin 64) : (State.makeReady s t).now = s.now := by
  simp -proj [State.makeReady]

@[simp] theorem State.tryReady_now (s : State) (t : Fin 64) : (State.tryReady s t).now = s.now := by
  unfold State.tryReady; (repeat' split) <;> simp -proj

@[simp] theorem State.served_now (s : State) (w : Waiter) (count : Nat) : (State.served s w count).now = s.now := by
  unfold State.served; (repeat' split) <;> simp -proj

@[simp] theorem State.serveToken_now (id n : Nat) (s : State) : (State.serveToken id n s).now = s.now := by
  induction n generalizing s with
  | zero => rfl
  | succ n ih =>
    unfold State.serveToken
    split
    · rfl
    · split
      · rfl
      · split
        · simp [ih]
        · rfl

@[simp] theorem State.settleToken_now (s : State) (id : Nat) : (State.settleToken s id).now = s.now := by
  simp -proj [State.settleToken]

@[simp] theorem doTokenAlloc_now (t : Ticket) (initial : Word) (s : State) : (doTokenAlloc t initial s).now = s.now := by
  unfold doTokenAlloc; dsimp -proj only; (repeat' split) <;> simp -proj

@[simp] theorem doTokenSignal_now (t : Ticket) (token : BitVec 16) (amount : Word) (s : State) :
    (doTokenSignal t token amount s).now = s.now := by
  unfold doTokenSignal; dsimp -proj only; (repeat' split) <;> simp -proj

@[simp] theorem doTokenWait_now (t : Ticket) (token : BitVec 16) (amount : Word) (timeout : Word) (s : State) :
    (doTokenWait t token amount timeout s).now = s.now := by
  unfold doTokenWait; dsimp -proj only; (repeat' split) <;> simp -proj

@[simp] theorem doTokenFree_now (t : Ticket) (token : BitVec 16) (s : State) : (doTokenFree t token s).now = s.now := by
  unfold doTokenFree; (repeat' split)
  · simp -proj
  · simp -proj
  · exact (State.reply_now _ _ _ _).trans (foldl_now _ _ _ fun s w => by split <;> simp -proj)

@[simp] theorem doGraphLoad_now (t : Ticket) (r : Word) (o : BitVec 64) (l : Word) (s : State) :
    (doGraphLoad t r o l s).now = s.now := by
  unfold doGraphLoad; dsimp -proj only; (repeat' split) <;> simp -proj

@[simp] theorem doGraphUnload_now (t : Ticket) (graph : Word) (s : State) : (doGraphUnload t graph s).now = s.now := by
  unfold doGraphUnload; dsimp -proj only; (repeat' split) <;> simp -proj

@[simp] theorem doJobSubmit_now (t : Ticket) (p : SubmitP) (s : State) : (doJobSubmit t p s).now = s.now := by
  unfold doJobSubmit; (repeat' split) <;> simp -proj

@[simp] theorem State.freeFrames_now (s : State) (t : Fin 64) : (State.freeFrames s t).now = s.now := by
  unfold State.freeFrames
  exact forAll_now _ _ fun s k => by simp -proj

@[simp] theorem State.logAttempt_now (s : State) (t : Fin 64) (a : Nat) (code : Nat) : (State.logAttempt s t a code).now = s.now := by
  simp -proj [State.logAttempt]

@[simp] theorem State.jobDone_now (s : State) (t : Fin 64) (j : Job) : (State.jobDone s t j).now = s.now := by
  simp -proj [State.jobDone]

@[simp] theorem State.freeTag_now (s : State) (t : Fin 64) : (State.freeTag s t).now = s.now := by
  unfold State.freeTag; (repeat' split) <;> simp -proj

@[simp] theorem State.endJob_now (s : State) (t : Fin 64) (st : JobSt) (final : Nat) : (State.endJob s t st final).now = s.now := by
  unfold State.endJob; dsimp -proj only; (repeat' split) <;> simp -proj

@[simp] theorem State.countAbandoned_now (s : State) (j : Job) : (State.countAbandoned s j).now = s.now := by
  simp -proj [State.countAbandoned]

@[simp] theorem State.withdraw_now (s : State) (t : Fin 64) : (State.withdraw s t).now = s.now := by
  unfold State.withdraw; (repeat' split) <;> simp -proj

@[simp] theorem doJobCancel_now (t : Ticket) (tag : Byte) (s : State) : (doJobCancel t tag s).now = s.now := by
  unfold doJobCancel; (repeat' split) <;> simp -proj

@[simp] theorem State.jobsHwFail_now (s : State) (detail : Nat) : (State.jobsHwFail s detail).now = s.now := by
  unfold State.jobsHwFail
  exact forAll_now _ _ fun s k => by dsimp -proj only; (repeat' split) <;> simp -proj

@[simp] theorem doJobStatus_now (t : Ticket) (tag : Byte) (release : Bool) (s : State) :
    (doJobStatus t tag release s).now = s.now := by
  unfold doJobStatus; (repeat' split) <;> simp -proj

@[simp] theorem doResultFetch_now (t : Ticket) (tag : Byte) (release : Bool) (first_ count : Word) (s : State) :
    (doResultFetch t tag release first_ count s).now = s.now := by
  unfold doResultFetch
  extract_lets o
  split
  · simp -proj
  · repeat' (first | with_reducible refine ite_now ?_ ?_ | (simp -proj; done) | split)

@[simp] theorem doSensorConfig_now (t : Ticket) (p : SnsCfgP) (s : State) : (doSensorConfig t p s).now = s.now := by
  unfold doSensorConfig
  refine ite_now ?_ (ite_now ?_ (ite_now ?_ (ite_now ?_ ?_))) <;> refine (State.reply_now _ _ _ _).trans ?_
  · exact Eq.refl s.now
  · exact Eq.refl s.now
  · exact Eq.refl s.now
  · exact Eq.refl s.now
  · exact (State.updSensor_now _ _ _).trans (State.updMem_now _ _)

@[simp] theorem doSensorArm_now (t : Ticket) (p : SnsArmP) (s : State) : (doSensorArm t p s).now = s.now := by
  unfold doSensorArm; dsimp -proj only; (repeat' split) <;> simp -proj

@[simp] theorem doSensorDisarm_now (t : Ticket) (mode : Byte) (s : State) : (doSensorDisarm t mode s).now = s.now := by
  unfold doSensorDisarm; dsimp -proj only; (repeat' split) <;> simp -proj

@[simp] theorem doTimeGet_now (t : Ticket) (s : State) : (doTimeGet t s).now = s.now := by
  unfold doTimeGet; dsimp -proj only; (repeat' split) <;> simp -proj

@[simp] theorem doTimeRefSelect_now (t : Ticket) (p : TimeRefP) (s : State) : (doTimeRefSelect t p s).now = s.now := by
  unfold doTimeRefSelect; (repeat' split) <;> simp -proj

@[simp] theorem doPulseConfig_now (t : Ticket) (p : PulseP) (s : State) : (doPulseConfig t p s).now = s.now := by
  unfold doPulseConfig; dsimp -proj only; (repeat' split) <;> simp -proj

@[simp] theorem State.coresOff_now (s : State) : (State.coresOff s).now = s.now := by
  simp -proj [State.coresOff]

@[simp] theorem State.shutdown_now (s : State) (cause : Nat) : (State.shutdown s cause).now = s.now := by
  unfold State.shutdown; (repeat' split) <;> simp -proj

@[simp] theorem doRadioConfig_now (t : Ticket) (p : RadioP) (s : State) : (doRadioConfig t p s).now = s.now := by
  unfold doRadioConfig
  refine ite_now (by simp -proj) (ite_now (by simp -proj) ((State.reply_now _ _ _ _).trans ?_))
  refine ite_now (by simp -proj) (ite_now ((State.updRadio_now _ _).trans (forAll_now _ _ fun s i => ?_)) (by simp -proj))
  dsimp -proj only; (repeat' split) <;> simp -proj

@[simp] theorem doTagAdmit_now (t : Ticket) (i : Fin 32) (p : AdmitP) (s : State) : (doTagAdmit t i p s).now = s.now := by
  unfold doTagAdmit; dsimp -proj only; (repeat' split) <;> simp -proj

@[simp] theorem doTagExpel_now (t : Ticket) (i : Fin 32) (s : State) : (doTagExpel t i s).now = s.now := by
  unfold doTagExpel; dsimp -proj only; (repeat' split) <;> simp -proj

@[simp] theorem doTagSend_now (t : Ticket) (i : Fin 32) (p : SendP) (s : State) : (doTagSend t i p s).now = s.now := by
  unfold doTagSend; dsimp -proj only; (repeat' split) <;> simp -proj

@[simp] theorem doTagEventsFetch_now (t : Ticket) (i : Fin 32) (maxWords : Nat) (s : State) :
    (doTagEventsFetch t i maxWords s).now = s.now := by
  unfold doTagEventsFetch; (repeat' split) <;> simp -proj

@[simp] theorem doLeaseTake_now (t : Ticket) (p : LeaseP) (s : State) : (doLeaseTake t p s).now = s.now := by
  unfold doLeaseTake; dsimp -proj only; (repeat' split) <;> simp -proj

@[simp] theorem doLeaseRenew_now (t : Ticket) (p : LeaseP) (s : State) : (doLeaseRenew t p s).now = s.now := by
  unfold doLeaseRenew; dsimp -proj only; (repeat' split) <;> simp -proj

@[simp] theorem doLeaseRelease_now (t : Ticket) (s : State) : (doLeaseRelease t s).now = s.now := by
  unfold doLeaseRelease; dsimp -proj only; (repeat' split) <;> simp -proj

@[simp] theorem doLeaseQuery_now (t : Ticket) (s : State) : (doLeaseQuery t s).now = s.now := by
  simp -proj [doLeaseQuery]

@[simp] theorem State.endSession_now (s : State) (p : Port) : (State.endSession s p).now = s.now := by
  unfold State.endSession; (repeat' split) <;> simp -proj

@[simp] theorem State.finish_now (s : State) : (State.finish s).now = s.now := by
  unfold State.finish
  exact forAll_now _ _ fun s p => by (repeat' split) <;> simp -proj

@[simp] theorem doHello_now (t : Ticket) (s : State) : (doHello t s).now = s.now := by
  simp -proj [doHello]

@[simp] theorem doOpenSession_now (t : Ticket) (q : OpenP) (s : State) : (doOpenSession t q s).now = s.now := by
  unfold doOpenSession; dsimp -proj only; (repeat' split) <;> simp -proj

@[simp] theorem doCloseSession_now (t : Ticket) (s : State) : (doCloseSession t s).now = s.now := by
  unfold doCloseSession; (repeat' split) <;> simp -proj

@[simp] theorem doPing_now (t : Ticket) (bytes : Bytes) (s : State) : (doPing t bytes s).now = s.now := by
  unfold doPing; (repeat' split) <;> simp -proj

@[simp] theorem doEventSubscribe_now (t : Ticket) (mask : Word) (enc : Bool) (s : State) :
    (doEventSubscribe t mask enc s).now = s.now := by
  unfold doEventSubscribe; (repeat' split) <;> simp -proj

@[simp] theorem doGetWatermark_now (t : Ticket) (nonce : Bytes) (s : State) : (doGetWatermark t nonce s).now = s.now := by
  simp -proj [doGetWatermark]

@[simp] theorem doGetCerts_now (t : Ticket) (offset : Word) (length : Word) (s : State) :
    (doGetCerts t offset length s).now = s.now := by
  unfold doGetCerts; dsimp -proj only; (repeat' split) <;> simp -proj

@[simp] theorem State.stageReply_now (s : State) (t : Ticket) (status : Nat) (written : Nat) :
    (State.stageReply s t status written).now = s.now := by
  simp -proj [State.stageReply]

@[simp] theorem State.stageImage_now (s : State) (k : Fin 6) (p : StageP) : ((State.stageImage s k p).1).now = s.now := by
  unfold State.stageImage; dsimp only; split <;> rfl

@[simp] theorem State.stageToken_now (s : State) (p : StageP) : ((State.stageToken s p).1).now = s.now := rfl

@[simp] theorem doFwStage_now (t : Ticket) (p : StageP) (s : State) : (doFwStage t p s).now = s.now := by
  unfold doFwStage
  refine ite_now (State.reply_now _ _ _ _) (ite_now (State.reply_now _ _ _ _) (ite_now (State.reply_now _ _ _ _)
    (ite_now (State.reply_now _ _ _ _) (ite_now (State.reply_now _ _ _ _) ?_))))
  simp only [State.stageReply_now]
  have : ∀ r : State × Nat, r.1.now = s.now → (if p.close then r.1.closeStage else r.1).now = s.now := fun r h =>
    ite_now (by simpa using h) h
  refine this _ ?_
  split
  · rfl
  · split
    · simp
    · simp

@[simp] theorem State.commitDone_now (s : State) : (State.commitDone s).now = s.now := by
  unfold State.commitDone; (repeat' split) <;> simp -proj

@[simp] theorem doFwCommit_now (t : Ticket) (slot : Byte) (token : Bool) (s0 : State) :
    (doFwCommit t slot token s0).now = s0.now := by
  unfold doFwCommit; dsimp -proj only; (repeat' split) <;> simp -proj

@[simp] theorem doResetDevice_now (t : Ticket) (delay : Word) (s : State) : (doResetDevice t delay s).now = s.now := by
  unfold doResetDevice; (repeat' split) <;> simp -proj

@[simp] theorem doRegRead_now (t : Ticket) (addr : Word) (count : Word) (s : State) : (doRegRead t addr count s).now = s.now := by
  unfold doRegRead; dsimp -proj only; split
  · simp -proj
  · exact (State.reply_now _ _ _ _).trans (State.regReads_now _ _)

@[simp] theorem doRegWrite_now (t : Ticket) (w : RegWriteP) (s : State) : (doRegWrite t w s).now = s.now := by
  unfold doRegWrite; dsimp -proj only; split
  · simp -proj
  · exact (State.reply_now _ _ _ _).trans State.regWrites_now

@[simp] theorem doRegModify_now (t : Ticket) (addr : Word) (mask : Word) (value : Word) (s : State) :
    (doRegModify t addr mask value s).now = s.now := by
  unfold doRegModify
  exact ite_now ((State.reply_now _ _ _ _).trans (State.regWrites_now.trans (State.regLatch_now _ _)))
    ((State.reply_now _ _ _ _).trans State.regWrites_now)

@[simp] theorem serveLinkTest_now (t : Ticket) (p : LinkStartP) (s : State) : (serveLinkTest t p s).now = s.now := by
  unfold serveLinkTest; dsimp -proj only; (repeat' split) <;> simp -proj

@[simp] theorem perform_now (t : Ticket) (c : Cmd) (s : State) : (perform t c s).now = s.now := by
  unfold perform; (repeat' split) <;> simp -proj

@[simp] theorem State.turnAway_now (s : State) (t : Ticket) (c : Cmd) (e : Nat) : (State.turnAway s t c e).now = s.now := by
  unfold State.turnAway; (repeat' split) <;> simp -proj

@[simp] theorem State.act_now (s : State) (a : Arrival) : (State.act s a).now = s.now := by
  unfold State.act; (repeat' split) <;> simp -proj

@[simp] theorem State.actOver_now (s : State) (as : List Arrival) : (s.actOver as).now = s.now := by
  induction as generalizing s with
  | nil => rfl
  | cons a rest ih => exact (ih _).trans (ite_now (State.turnAway_now _ _ _ _) (State.act_now _ _))

@[simp] theorem State.actAll_now (s : State) (as : List Arrival) : (State.actAll s as).now = s.now := by
  induction as generalizing s with
  | nil => rfl
  | cons a rest ih => exact (ih _).trans (State.act_now _ _)

@[simp] theorem State.stepSix_now (s : State) (as : List Arrival) : (State.stepSix s as).now = s.now := by
  simp -proj [State.stepSix]

@[simp] theorem State.settle_now (s : State) : (State.settle s).now = s.now := by
  simp -proj [State.settle]

@[simp] theorem State.settled_now (s : State) : (State.settled s).now = s.now := by
  unfold State.settled; (repeat' split) <;> simp -proj

/-- The rows that gave way come back in the tick they gave way in. -/
@[simp] theorem State.resume_now (s : State) : s.resume.now = s.now := State.settled_now s

end Sys2Proof.Machine
end

section
/-! PROOFS. The machine as a whole: every step answers, the rows that gave way come back, and a quiet tick only moves the
clocks; what the device is right after reset. -/

namespace Sys2Proof.Machine

/-! ### Every row answers -/

theorem exec_answers (i : Instr) (s : State) : ∃ t, exec i s = .next t := by
  by_cases keeps : Instr.programs i = false
  · obtain ⟨t, answers, -⟩ := exec_keepsOtp keeps s
    exact ⟨t, answers⟩
  · cases i with
    | resetNRelease => exact ⟨_, rfl⟩
    | hbmTrained => exact ⟨_, rfl⟩
    | _ => exact absurd rfl keeps

theorem step_answers (s : State) : ∃ t, step s = .next t := by
  unfold step
  split
  · exact ⟨_, rfl⟩
  · exact exec_answers _ _

/-! ### A quiet tick -/

theorem State.stepReport_of_none {s : State} (none : s.tb.stepEvent = none) : s.stepReport = s := by
  simp [State.stepReport, none]

theorem State.commitDone_of_none {s : State} (none : s.commit = none) : s.commitDone = s := by
  simp [State.commitDone, none]

theorem State.resetTick_of_none {s : State} (none : s.boot.resetDue = none) : s.resetTick = s := by
  simp [State.resetTick, none]

/-- Device time without a slew moves by its own step alone. -/
theorem Timebase.tick_of_no_slew {t : Timebase} (slew : t.s = 0) :
    t.tick = if t.running = true then { t with fine := t.fine + (5 * ((2 : Int) ^ 41 + t.f)).toNat } else t := by
  simp [Timebase.tick, slew]

theorem State.stepDue_of_not_pending {s : State} (settled : s.tb.pendingStep = false) : s.stepDue = false := by
  simp [State.stepDue, settled]

/-- No turn-on is due: the gates keep their levels. -/
theorem State.gatesTick_of_none_due {s : State}
    (later : ∀ n (k : Nat) d, (s.axis n).gates.due[k]? = some (some d) → s.now < d) : s.gatesTick = s := by
  unfold State.gatesTick
  refine forAll_fixed _ _ fun n => if_neg fun due => ?_
  obtain ⟨o, mem, some⟩ := List.any_eq_true.1 due
  obtain ⟨d, rfl, now⟩ := (Option.any_eq_true _ _).1 some
  obtain ⟨k, bound, eq⟩ := List.getElem_of_mem mem
  have := later n k d (Vector.getElem?_eq_some_iff.2 ⟨by simpa using bound, by simpa using eq⟩)
  simp at now
  omega

/-- A tick in which nothing is due moves the clocks and nothing else. -/
theorem State.pass_of_quiet {s : State} (calm : s.calm = true) (commit : s.commit = none) (reset : s.boot.resetDue = none)
    (net : s.net.writtenAt = none) (report : s.tb.stepEvent = none) (pending : s.tb.pendingStep = false)
    (gates : ∀ n (k : Nat) d, (s.axis n).gates.due[k]? = some (some d) → s.now + 1 < d) (slew : s.tb.s = 0) :
    s.pass = { s with
      now := s.now + 1, d02 := if s.fabric.d02Run = true then s.d02 + 4 else s.d02,
      tb := if s.tb.running = true then { s.tb with fine := s.tb.fine + (5 * ((2 : Int) ^ 41 + s.tb.f)).toNat } else s.tb } := by
  unfold State.pass
  extract_lets s1 s2 s3
  have same1 : s1 = s := by
    simp only [s1]
    rw [State.stepReport_of_none report, State.commitDone_of_none commit, State.resetTick_of_none reset]
  have same2 : s2 = s := by
    simp only [s2, same1, net]
  have ticked : s3 = { s with
      now := s.now + 1, d02 := if s.fabric.d02Run = true then s.d02 + 4 else s.d02, tb := s.tb.tick } := by
    simp only [s3, same2]
  have noStep : s3.tb.pendingStep = false := by
    rw [ticked]
    show s.tb.tick.pendingStep = false
    rw [Timebase.tick_of_no_slew slew]
    split <;> exact pending
  have noGate : s3.gatesTick = s3 := State.gatesTick_of_none_due (by rw [ticked]; exact gates)
  rw [if_neg (by rw [State.stepDue_of_not_pending noStep]; simp), noGate, State.finish_calm (by rw [ticked]; exact calm), ticked,
    Timebase.tick_of_no_slew slew]

theorem step_of_nothing_pending {s : State} (pending : s.pending = []) :
    step s = .next (if s.deferred = [] then s.tick else s.resume) := by
  unfold step
  rw [pending]
  simp

/-- Settles O57: the rows answer one by one; a quiet tick is read off `State.pass`. -/
theorem stepsAnswerAndTicksPass : Obligations.StepsAnswerAndTicksPass := by
  refine ⟨step_answers, fun s pending gaveWay => ?_, fun s pending deferred arrivals calm commit reset net report settled gates
    slew => ?_⟩
  · rw [step_of_nothing_pending pending, if_neg gaveWay]
    exact ⟨_, rfl, rfl, rfl, s.resume_now⟩
  · rw [step_of_nothing_pending pending, if_pos deferred, State.tick, State.settled, if_pos arrivals,
      State.pass_of_quiet calm commit reset net report settled gates slew]

/-- Settles O58: reset is one state, read field by field. -/
theorem resetState : Obligations.ResetState := by
  refine ⟨rfl, rfl, rfl, rfl, rfl, rfl, ?owners, ?leases, rfl, rfl, rfl, rfl, ?jobs, rfl, ?axes, ?sensors, rfl, rfl, rfl, rfl, rfl,
    rfl, ?slots, rfl, ?units⟩
  all_goals decide +kernel

end Sys2Proof.Machine
end

section
/-! PROOFS. SPDM on the DOE mailbox (R77, Table 4-6). -/

namespace Sys2Proof.Machine

@[simp] theorem fit_length (n : Nat) (bs : Bytes) : (fit n bs).length = n := by
  simp [fit]
  omega

/-- The mailbox serves. -/
abbrev State.DoeUp (s : State) : Prop := s.hpa.linkUp = true ∧ s.underTest 0 = false ∧ s.boot.dev ≠ .boot ∧ s.boot.dev ≠ .recovery

theorem State.spdmUp_iff (s : State) : s.spdmUp = true ↔ s.DoeUp := by
  have tested : s.portTested 0 = s.underTest 0 := rfl
  simp [State.spdmUp, State.DoeUp, tested, and_assoc]

/-- From `s` to `t` nothing changes but the message the mailbox gives, where it serves, and the free values it used. -/
def Told (s t : State) (f : Bytes → Prop) : Prop :=
  { t with out := s.out, free := s.free } = s ∧ ((s.DoeUp ∧ ∃ m, f m ∧ t.out = s.out ++ [Out.doe m]) ∨ (¬ s.DoeUp ∧ t.out = s.out))

theorem State.doe_told {s : State} {f : Bytes → Prop} {m : Bytes} (holds : f m) : Told s (s.doe m) f := by
  unfold State.doe Told
  split
  · next up => exact ⟨rfl, .inl ⟨s.spdmUp_iff.1 up, m, holds, rfl⟩⟩
  · next down => exact ⟨rfl, .inr ⟨fun up => down (s.spdmUp_iff.2 up), rfl⟩⟩

theorem Told.tookFree {s t : State} {f : Bytes → Prop} (told : Told s t f) : Told s t.tookFree f := told

/-- The part of a GET_MEASUREMENTS answer that is signed, for one block. -/
theorem measurement_body (s : State) (k : Fin 8) :
    let block := s.spdmBlock (k.val + 1)
    let body := [0x12, 0x60] ++ le 1 0 ++ [0] ++ le 1 1 ++ le 3 block.length ++ block ++ fit 32 (Config.freeBytes s.free) ++ zeros 2
    body.length = 97 ∧ body.take 15 =
        [0x12, 0x60, 0, 0, 1] ++ le 3 55 ++ le 1 (k.val + 1) ++ [1] ++ le 2 51 ++ le 1 (blockType (k.val + 1)) ++ le 2 48 ∧
      slice body 15 48 = fit 48 (s.boot.wm.get k) := by
  intro block body
  have word : s.boot.wm.getD k.val [] = s.boot.wm.get k := by
    simp [Vector.getD, Vector.get]
  have length : block.length = 55 := by simp [block, State.spdmBlock]
  have spelt : body = ([0x12, 0x60, 0, 0, 1] ++ le 3 55 ++ le 1 (k.val + 1) ++ [1] ++ le 2 51 ++ le 1 (blockType (k.val + 1)) ++ le 2 48) ++
      (fit 48 (s.boot.wm.get k) ++ (fit 32 (Config.freeBytes s.free) ++ zeros 2)) := by
    simp only [body, length]
    simp [block, State.spdmBlock, word, le]
  refine ⟨by simp [spelt], ?_, ?_⟩
  · rw [spelt, List.take_left' (by simp)]
  · rw [spelt, slice, List.drop_left' (by simp), List.take_left' (by simp)]

theorem getMeasurements_told (s : State) (signed : Bool) {op slot : Byte} (nonce : Bytes) (k : Fin 8) (slot0 : slot = 0)
    (block : op.toNat = k.val + 1) : ∃ t, exec (.getMeasurements signed op slot nonce) s = .next t ∧ Told s t fun m =>
      ∃ body sig, m = body ++ sig ∧ body.length = 97 ∧ body.take 15 =
          [0x12, 0x60, 0, 0, 1] ++ le 3 55 ++ le 1 (k.val + 1) ++ [1] ++ le 2 51 ++ le 1 (blockType (k.val + 1)) ++ le 2 48 ∧
        slice body 15 48 = fit 48 (s.boot.wm.get k) ∧
        sig = if signed = true then fit 96 (Config.deviceSign s.free (digest (nonce ++ body))) else [] := by
  obtain ⟨length, first, word⟩ := measurement_body s k
  have small := k.isLt
  refine ⟨_, rfl, ?_⟩
  simp only [block, if_neg (show ¬ (slot ≠ 0 ∨ ¬ (k.val + 1 ≤ 8 ∨ k.val + 1 = 255)) by simp [slot0]), if_neg (Nat.succ_ne_zero k.val), if_neg (show ¬ k.val + 1 = 255 by omega), List.flatMap_cons, List.flatMap_nil,
    List.append_nil, List.length_cons, List.length_nil]
  refine (State.doe_told ⟨_, _, ?_, length, first, word, rfl⟩).tookFree
  cases signed
  · exact (List.append_nil _).symm
  · rfl

/-- Settles O52: each request's message is the one its table lays out. -/
theorem spdmRowsAct : Obligations.SpdmRowsAct := by
  intro s slot off len nonce signed op code up tells sized chain
  refine ⟨⟨_, rfl, State.doe_told ⟨rfl, List.prefix_rfl⟩⟩, ⟨_, rfl, State.doe_told ⟨by simp, _, rfl⟩⟩,
    ⟨_, rfl, State.doe_told ⟨by simp, ⟨_, rfl⟩⟩⟩, ⟨_, rfl, State.doe_told rfl⟩, fun slot0 inside => ?certificate,
    fun other => ⟨?_, ?_, ?_⟩, fun slot0 => ?challenge, fun slot0 k block => getMeasurements_told s signed nonce k slot0 block,
    ⟨_, rfl, State.doe_told ⟨by simp [spdmError], ?_⟩⟩⟩
  case certificate =>
    refine ⟨_, rfl, ?_⟩
    rw [if_neg fun no => no.elim (fun h => h slot0) (Nat.not_le.2 inside)]
    exact State.doe_told ⟨_, rfl, rfl⟩
  case challenge =>
    refine ⟨_, rfl, ?_⟩
    rw [if_neg fun no => no slot0]
    refine (State.doe_told ⟨_, _, rfl, ⟨_, (List.append_assoc _ _ _).symm⟩, ?_, rfl⟩).tookFree
    show _ = 38 + (digest spdmChain).length
    simp
    omega
  · refine ⟨_, rfl, ?_⟩
    rw [if_pos (.inl other)]
    exact State.doe_told ⟨rfl, List.prefix_rfl⟩
  · refine ⟨_, rfl, ?_⟩
    rw [if_pos other]
    exact State.doe_told ⟨rfl, List.prefix_rfl⟩
  · refine ⟨_, rfl, ?_⟩
    rw [if_pos (.inl other)]
    exact State.doe_told ⟨rfl, List.prefix_rfl⟩
  · simp [spdmError, le]

end Sys2Proof.Machine
end

section
/-! PROOFS. The commands of one tick act in the order of Table 5-7. -/

namespace Sys2Proof.Machine

/-- The step of Table 5-7 a command belongs to. -/
inductive Cmd.Stage (c : Cmd) : Prop
  | stop (h : (cmdIsStop c, cmdIsSafeRelease c, cmdReleases c, cmdIsTake c, cmdIsRenew c) = (true, false, false, false, false))
  | safeRelease (h : (cmdIsStop c, cmdIsSafeRelease c, cmdReleases c, cmdIsTake c, cmdIsRenew c) = (false, true, false, false, false))
  | release (h : (cmdIsStop c, cmdIsSafeRelease c, cmdReleases c, cmdIsTake c, cmdIsRenew c) = (false, false, true, false, false))
  | take (h : (cmdIsStop c, cmdIsSafeRelease c, cmdReleases c, cmdIsTake c, cmdIsRenew c) = (false, false, false, true, false))
  | renew (h : (cmdIsStop c, cmdIsSafeRelease c, cmdReleases c, cmdIsTake c, cmdIsRenew c) = (false, false, false, false, true))
  | other (h : (cmdIsStop c, cmdIsSafeRelease c, cmdReleases c, cmdIsTake c, cmdIsRenew c) = (false, false, false, false, false))

theorem Cmd.stage (c : Cmd) : Cmd.Stage c := by
  cases c with
  | safeStop => exact .stop rfl
  | safeRelease => exact .safeRelease rfl
  | leaseRelease => exact .release rfl
  | closeSession => exact .release rfl
  | leaseTake => exact .take rfl
  | leaseRenew => exact .renew rfl
  | _ => exact .other rfl

/-- Nothing waits any more. -/
def State.noArrivals (u : State) : State := { u with arrivals := [] }

/-- These still wait. -/
def State.waitFor (u : State) (as : List Arrival) : State := { u with arrivals := as }

@[simp] theorem State.noArrivals_waitFor (u : State) (as : List Arrival) : u.noArrivals.waitFor as = u.waitFor as := rfl

/-- A command acts as the last of those it waited with. -/
def State.actsLast (u : State) (a : Arrival) : State := (u.act a).noArrivals

@[simp] theorem State.noArrivals_noArrivals (u : State) : u.noArrivals.noArrivals = u.noArrivals := rfl

@[simp] theorem State.actsLast_noArrivals (u : State) (a : Arrival) : (u.actsLast a).noArrivals = u.actsLast a := rfl

@[simp] theorem State.actAll_nil (u : State) : u.actAll [] = u.noArrivals := rfl

@[simp] theorem State.actAll_singleton (u : State) (a : Arrival) : u.actAll [a] = u.noArrivals.actsLast a := rfl

@[simp] theorem State.actAll_pair (u : State) (a b : Arrival) :
    u.actAll [a, b] = ((u.waitFor [b]).actsLast a).actsLast b := rfl

@[simp] theorem State.actOver_nil (u : State) : u.actOver [] = u := rfl

@[simp] theorem byOwner_nil : byOwner [] = [] := by decide

theorem byOwner_ports (as : List Arrival) :
    byOwner as = (as.filter fun a => a.hdr.port == 0) ++ ((as.filter fun a => a.hdr.port == 1) ++
      ((as.filter fun a => a.hdr.port == 2) ++ as.filter fun a => a.hdr.port == 3)) := by
  simp [byOwner, List.finRange_succ]

@[simp] theorem byOwner_singleton (a : Arrival) : byOwner [a] = [a] := by
  rw [byOwner_ports]
  generalize port : a.hdr.port = p
  fin_cases p <;> simp [port]

/-- Of two commands the lower owner's is first. -/
theorem byOwner_pair {a b : Arrival} (lower : b.hdr.port < a.hdr.port) : byOwner [a, b] = [b, a] := by
  rw [byOwner_ports]
  generalize portA : a.hdr.port = p at lower
  generalize portB : b.hdr.port = q at lower
  fin_cases p <;> fin_cases q <;> simp_all

@[simp] theorem State.stepSix_nil (u : State) : u.stepSix [] = u.noArrivals := rfl

theorem firstPass_nil : firstPass [] = ([], []) := rfl

theorem firstPass_singleton (a : Arrival) : firstPass [a] = ([a], []) ∨ firstPass [a] = ([], [a]) := by
  cases put : cmdIsRegPut a.cmd <;> simp [firstPass, put]

@[simp] theorem State.stepSix_singleton (u : State) (a : Arrival) : u.stepSix [a] = u.noArrivals.actsLast a := by
  rw [← State.actAll_singleton]
  unfold State.stepSix
  generalize port : a.hdr.port = p
  rcases firstPass_singleton a with pass | pass <;> fin_cases p <;> simp [List.finRange_succ, port, pass, firstPass_nil]

theorem State.settle_eq (s : State) : s.settle =
    let as := s.arrivals.filter fun a => !a.extra
    let rest := as.filter fun a =>
      !(cmdIsStop a.cmd || cmdIsSafeRelease a.cmd || cmdReleases a.cmd || cmdIsTake a.cmd || cmdIsRenew a.cmd)
    let s2 := s.noArrivals.actAll (as.filter fun a => cmdIsStop a.cmd)
    let s3 := s2.actAll (as.filter fun a => cmdIsSafeRelease a.cmd)
    let s4 := s3.actAll (as.filter fun a => cmdReleases a.cmd)
    let pool (a : Arrival) : Bool := a.hdr.cls == 7
    let own (a : Arrival) : Bool := s4.holds a.hdr.port a.hdr.cls.toNat a.hdr.idx.toNat
    let takes := as.filter fun a => cmdIsTake a.cmd
    let s5 := s4.actAll (as.filter fun a => cmdIsRenew a.cmd || (cmdIsTake a.cmd && own a && !pool a))
    let s6 := s5.actAll (byOwner (takes.filter fun a => !own a && !pool a))
    let s7 := s6.actAll (byOwner (takes.filter pool))
    ((s7.stepSix rest).actOver (s.arrivals.filter (·.extra))).finish := rfl

theorem cmdIsStop_excludes {c : Cmd} (stop : cmdIsStop c = true) :
    cmdIsSafeRelease c = false ∧ cmdReleases c = false ∧ cmdIsTake c = false ∧ cmdIsRenew c = false := by
  cases c <;> simp_all [cmdIsStop, cmdIsSafeRelease, cmdReleases, cmdIsTake, cmdIsRenew]

theorem cmdReleases_excludes {c : Cmd} (releases : cmdReleases c = true) :
    cmdIsStop c = false ∧ cmdIsSafeRelease c = false ∧ cmdIsTake c = false ∧ cmdIsRenew c = false := by
  cases c <;> simp_all [cmdIsStop, cmdIsSafeRelease, cmdReleases, cmdIsTake, cmdIsRenew]

theorem cmdIsTake_excludes {c : Cmd} (take : cmdIsTake c = true) :
    cmdIsStop c = false ∧ cmdIsSafeRelease c = false ∧ cmdReleases c = false ∧ cmdIsRenew c = false := by
  cases c <;> simp_all [cmdIsStop, cmdIsSafeRelease, cmdReleases, cmdIsTake, cmdIsRenew]

theorem cmdIsRenew_excludes {c : Cmd} (renew : cmdIsRenew c = true) :
    cmdIsStop c = false ∧ cmdIsSafeRelease c = false ∧ cmdReleases c = false ∧ cmdIsTake c = false := by
  cases c <;> simp_all [cmdIsStop, cmdIsSafeRelease, cmdReleases, cmdIsTake, cmdIsRenew]

theorem State.settle_one {s : State} {a : Arrival} (only : s.arrivals = [a]) (first : a.extra = false) :
    s.settle = (s.noArrivals.actsLast a).finish := by
  rw [State.settle_eq, only]
  rcases Cmd.stage a.cmd with h | h | h | h | h | h <;> simp only [Prod.mk.injEq] at h <;> obtain ⟨stop, lift, release, take, renew⟩ := h
  case take =>
    by_cases pool : a.hdr.cls = 7#8 <;> cases own : s.noArrivals.holds a.hdr.port a.hdr.cls.toNat a.hdr.idx.toNat <;>
      simp [first, stop, lift, release, take, renew, own, pool]
  all_goals simp [first, stop, lift, release, take, renew]

section
variable {s : State} {a b : Arrival} (both : s.arrivals = [a, b]) (firstA : a.extra = false) (firstB : b.extra = false)
include both firstA firstB

/-- A SAFE_STOP acts before what came with it. -/
theorem State.settle_stop (later : cmdIsStop a.cmd = false) (stopB : cmdIsStop b.cmd = true) :
    s.settle = ((s.noArrivals.actsLast b).actsLast a).finish := by
  obtain ⟨liftB, releaseB, takeB, renewB⟩ := cmdIsStop_excludes stopB
  rw [State.settle_eq, both]
  rcases Cmd.stage a.cmd with h | h | h | h | h | h <;> simp only [Prod.mk.injEq] at h <;> obtain ⟨stop, lift, release, take, renew⟩ := h
  case stop => simp [stop] at later
  case take =>
    by_cases pool : a.hdr.cls = 7#8 <;>
      cases own : (s.noArrivals.actsLast b).holds a.hdr.port a.hdr.cls.toNat a.hdr.idx.toNat <;>
      simp [firstA, firstB, stopB, liftB, releaseB, takeB, renewB, stop, lift, release, take, renew, own, pool]
  all_goals simp [firstA, firstB, stopB, liftB, releaseB, takeB, renewB, stop, lift, release, take, renew]

/-- A release acts before a take or a renewal. -/
theorem State.settle_release (holds : cmdIsTake a.cmd = true ∨ cmdIsRenew a.cmd = true) (releaseB : cmdReleases b.cmd = true) :
    s.settle = ((s.noArrivals.actsLast b).actsLast a).finish := by
  obtain ⟨stopB, liftB, takeB, renewB⟩ := cmdReleases_excludes releaseB
  rw [State.settle_eq, both]
  rcases holds with take | renew
  · obtain ⟨stop, lift, release, renew⟩ := cmdIsTake_excludes take
    by_cases pool : a.hdr.cls = 7#8 <;>
      cases own : (s.noArrivals.actsLast b).holds a.hdr.port a.hdr.cls.toNat a.hdr.idx.toNat <;>
      simp [firstA, firstB, stopB, liftB, releaseB, takeB, renewB, stop, lift, release, take, renew, own, pool]
  · obtain ⟨stop, lift, release, take⟩ := cmdIsRenew_excludes renew
    simp [firstA, firstB, stopB, liftB, releaseB, takeB, renewB, stop, lift, release, take, renew]

/-- Of two takes of what neither holds, the lower owner's acts first. -/
theorem State.settle_takes (takeA : cmdIsTake a.cmd = true) (takeB : cmdIsTake b.cmd = true) (poolA : a.hdr.cls ≠ 7#8)
    (poolB : b.hdr.cls ≠ 7#8) (lower : b.hdr.port < a.hdr.port)
    (freeA : s.noArrivals.holds a.hdr.port a.hdr.cls.toNat a.hdr.idx.toNat = false)
    (freeB : s.noArrivals.holds b.hdr.port b.hdr.cls.toNat b.hdr.idx.toNat = false) :
    s.settle = (((s.waitFor [a]).actsLast b).actsLast a).finish := by
  obtain ⟨stop, lift, release, renew⟩ := cmdIsTake_excludes takeA
  obtain ⟨stopB, liftB, releaseB, renewB⟩ := cmdIsTake_excludes takeB
  rw [State.settle_eq, both]
  simp [firstA, firstB, stopB, liftB, releaseB, takeB, renewB, stop, lift, release, takeA, renew, freeA, freeB, poolA, poolB,
    byOwner_pair lower]
end

/-- A command that came with 64 others outstanding acts where a reply of the tick has made room. -/
theorem State.settle_extra {s : State} {a : Arrival} (only : s.arrivals = [a]) (extra : a.extra = true) :
    s.settle = (if a.serial.isSome = true ∧ 64 < s.outstanding a.hdr.port then s.noArrivals.turnAway a.ticket a.cmd eBusy
      else s.noArrivals.act a).finish := by
  have same : s.noArrivals.outstanding a.hdr.port = s.outstanding a.hdr.port := rfl
  rw [State.settle_eq, only]
  simp [extra, State.actOver, same]

/-- Settles O55: one lemma about `State.settle` for each pair the tables name. -/
theorem arrivalsActInOrder : Obligations.ArrivalsActInOrder := by
  intro s pending after ends s0
  have passes {u : State} (settled : s.settled = u.finish) : ends u := by
    simp only [ends]
    rw [step_of_nothing_pending pending, State.tick, State.resume, settled]
  refine ⟨fun none => ?_, fun a only first => passes ?_, fun a only extra => passes ?_, fun a b both firstA firstB =>
    ⟨fun later stopB => passes ?_, fun holds releaseB => passes ?_, fun takeA takeB poolA poolB lower freeA freeB => passes ?_⟩⟩
  · rw [step_of_nothing_pending pending, State.tick, State.resume, State.settled, if_pos none]
  all_goals rw [State.settled, if_neg (by simp [*])]
  · exact State.settle_one only first
  · exact State.settle_extra only extra
  · exact State.settle_stop both firstA firstB later stopB
  · exact State.settle_release both firstA firstB holds releaseB
  · exact State.settle_takes both firstA firstB takeA takeB poolA poolB lower freeA freeB

end Sys2Proof.Machine
end

section
/-! PROOFS. The checks of Table 6-3 in their order, and what a duplicate earns (R111 to R113, R116, R128). -/

namespace Sys2Proof.Machine

/-! ### A packet that goes out -/

theorem State.complete_out_prefix (s : State) (ix len addr : Nat) (dropped : Bool) :
    s.out <+: (s.complete ix len addr dropped).out := by
  unfold State.complete State.signal
  split
  · dsimp only
    split
    · exact List.prefix_append _ _
    · exact (List.prefix_append _ _).trans (List.prefix_append _ _)
  · exact List.prefix_rfl

/-- The carriage can take a packet off the device: the rings it came by are still up, its destination is reached. -/
structure State.Sends (u : State) (p : Port) (via : Carriage) : Prop where
  alive : u.portDead p = false
  ring : ∀ ix cap addr, via = .ring ix cap addr → u.hpa.en = true ∧ ix / 4096 = u.hpa.epoch
  reach : ∀ ip port, via = .udp ip port → u.net.inForce.unreachable ip = false

theorem State.transmit_sends {u : State} {p : Port} {via : Carriage} (k : Packet) (sends : u.Sends p via) :
    Out.reply p via k (u.leg via k) ∈ (u.transmit p via k).out := by
  obtain ⟨alive, ring, reach⟩ := sends
  have last : Out.reply p via k (u.leg via k) ∈ u.out ++ [Out.reply p via k (u.leg via k)] := by simp
  unfold State.transmit
  simp only [alive, Bool.false_eq_true, if_false]
  cases via with
  | ring ix cap addr =>
    have live := ring ix cap addr rfl
    simp only [live, and_self, if_true]
    exact (State.complete_out_prefix _ _ _ _ _).subset last
  | udp ip port =>
    simp only [reach ip port rfl, Bool.false_eq_true, if_false]
    exact last
  | sfp => exact last
  | mnt => exact last

/-- What a state's packets look like and whether they leave it depends on its ports, HPA's rings and the network settings. -/
structure State.SameRoad (s u : State) : Prop where
  hpa : u.hpa = s.hpa
  inForce : u.net.inForce = s.net.inForce
  mac : u.otp.mac = s.otp.mac
  dead : ∀ p, u.portDead p = s.portDead p

theorem State.SameRoad.leg {s u : State} (same : s.SameRoad u) (via : Carriage) (k : Packet) : u.leg via k = s.leg via k := by
  cases via <;> simp only [State.leg, State.psieskFrame, State.ethFrame, same.inForce, same.mac]

theorem State.SameRoad.trans {s u v : State} (a : s.SameRoad u) (b : u.SameRoad v) : s.SameRoad v :=
  ⟨b.hpa.trans a.hpa, b.inForce.trans a.inForce, b.mac.trans a.mac, fun p => (b.dead p).trans (a.dead p)⟩

theorem State.carried_sameRoad (s : State) (p : Port) : s.SameRoad (s.carried p) := by
  unfold State.carried
  (repeat' split) <;> exact ⟨rfl, rfl, rfl, fun _ => rfl⟩

theorem State.countStatus_sameRoad (s : State) (p : Port) (e : Nat) : s.SameRoad (s.countStatus p e) := by
  unfold State.countStatus
  (repeat' split) <;> exact ⟨rfl, rfl, rfl, fun _ => rfl⟩

theorem State.updOwner_sameRoad (s : State) (p : Port) (f : OwnerState → OwnerState) : s.SameRoad (s.updOwner p f) :=
  ⟨rfl, rfl, rfl, fun _ => rfl⟩

section
variable {s : State} {h : Hdr} (via : h.viaOk = true) (takes : (s.carried h.port).portTakes h.port = true)
  (alive : s.portDead h.port = false) (reach : ∀ ip port, h.via = .udp ip port → s.net.inForce.unreachable ip = false)
include via takes alive reach

theorem State.head_sends {u : State} (same : s.SameRoad u) : u.Sends h.port (s.head h).via := by
  refine ⟨(same.dead _).trans alive, fun ix cap addr ring => ?_, fun ip port udp => ?_⟩
  · simp only [State.head, State.via] at ring
    cases carriage : h.via with
    | ring jx cap' addr' =>
      rw [carriage] at ring
      have port : h.port = 0 := by simpa [Hdr.viaOk, carriage] using via
      have en : s.hpa.en = true := by
        simp only [State.portTakes, port, State.carried_hpa] at takes
        simp_all
      cases ring
      refine ⟨by rw [same.hpa, en], ?_⟩
      rw [same.hpa, Hpa.slot]
      omega
    | _ => rw [carriage] at ring; cases ring
  · rw [same.inForce]
    refine reach ip port ?_
    simp only [State.head, State.via] at udp
    cases carriage : h.via with
    | udp => rw [carriage] at udp; exact udp
    | _ => rw [carriage] at udp; cases udp

end

/-! ### Steps 1 to 5 -/

theorem State.head_viaOk {s : State} {h : Hdr} (via : h.viaOk = true) : (s.head h).viaOk = true := by
  revert via
  simp only [State.head, Hdr.viaOk, State.via]
  cases h.via <;> simp

/-- A packet of a size its port takes goes on to the checks of its header. -/
theorem receive_of_taken {s : State} {h : Hdr} {c : Cmd} (via : h.viaOk = true)
    (takes : (s.carried h.port).portTakes h.port = true) (recovers : h.port = 2 → s.boot.dev = .recovery → sfpInRecovery c = true)
    (size : 32 + payloadSize c ≤ s.maxPacket h.port) :
    s.receive h c = match headFault h with
      | some e => ((s.carried h.port).plainReply (s.head h) c.opcode e [], none)
      | none => (s.carried h.port).intake (s.head h) c (if c.wf then none else some eLength) := by
  have taken : ¬ (¬ (s.head h).viaOk = true ∨ ¬ (s.carried h.port).portTakes h.port = true ∨
      (h.port = 2 ∧ (s.carried h.port).boot.dev = .recovery ∧ ¬ sfpInRecovery c = true)) := by
    rw [State.carried_boot]
    have := s.head_viaOk via
    tauto
  unfold State.receive
  simp only [s.carried_via]
  rw [show ({ h with via := s.via h.via } : Hdr) = s.head h from rfl, if_neg taken, s.carried_maxPacket, if_neg (by omega)]
  rfl

/-! ### Duplicates (R116, R128) -/

/-- A duplicate is counted. -/
def OwnerState.resent (o : OwnerState) : OwnerState := { o with cntDup := satInc 65535 o.cntDup }

/-- Settles O54: the verdict on the sequence number is RESEND or DISCARD, and neither touches a session. -/
theorem duplicatesResend : Obligations.DuplicatesResend := by
  intro s i h c ses e row via takes recovers size calm inOrder session key seq low near cached acts
  have exec_eq : exec i s = .next (s.serve h c) := by
    rw [exec_of_cmd row, if_neg (by simp [acts])]
  have nonzero : h.seq.toNat ≠ 0 := fun zero => seq (BitVec.eq_of_toNat_eq zero)
  have session' : ((s.carried h.port).owner (s.head h).port).session = some ses := by
    rw [s.carried_owner]
    exact session
  have entry : (s.carried h.port).entry (s.head h) c = .inside ses.serial := by
    have key : (s.head h).key = .sessionKey := key
    simp only [State.entry, session', key, if_true]
  have received := receive_of_taken (c := c) via takes recovers size
  rw [inOrder] at received
  have verdict : ses.judgeSeq (s.head h).seq.toNat (s.carried h.port).now =
      match e.reply with
      | some p => if e.sentAt < s.now then .resend p else .discard
      | none => .discard := by
    obtain ⟨at_, reply, sentAt⟩ := e
    simp only [Session.judgeSeq, State.carried_now]
    rw [show (s.head h).seq = h.seq from rfl, if_neg nonzero, if_neg (by omega), if_pos near, cached]
    cases reply <;> rfl
  refine ⟨fun p sent earlier => ?_, fun quiet => ?_⟩
  · rw [sent] at verdict
    simp only [earlier, if_true] at verdict
    have served : s.serve h c = (((s.carried h.port).updOwner h.port fun o => { o with cntDup := satInc 65535 o.cntDup }).transmit
        h.port (s.head h).via { p with dup := true }) := by
      have calm' : ((((s.carried h.port).updOwner h.port fun o => { o with cntDup := satInc 65535 o.cntDup }).transmit
          h.port (s.head h).via { p with dup := true })).calm = true :=
        State.calm_of_sessions (State.sessions_of_owners (State.transmit_owners _ _ _ _)) (State.calm_of_sessions
          (State.updOwner_sessions _ _ _ fun _ => rfl) (State.carried_calm calm))
      rw [State.serve, received]
      simp only [State.intake, entry, session', verdict]
      exact State.finish_calm calm'
    have same := (s.carried_sameRoad h.port).trans
      (State.updOwner_sameRoad _ h.port fun o => { o with cntDup := satInc 65535 o.cntDup })
    refine ⟨_, exec_eq, ?_, fun alive reach => ?_, ?_⟩
    · rw [served, State.owner_of_owners (State.transmit_owners _ _ _ _)]
      refine (State.updOwner_session (f := OwnerState.resent) (fun _ => rfl) _).trans ?_
      rw [s.carried_owner]
      exact session
    · rw [served, ← same.leg]
      exact State.transmit_sends _ (State.head_sends via takes alive reach same)
    · have push (u : State) := u.updOwner_quiet_push h.port OwnerState.resent OwnerState.resent fun _ => rfl
      rw [served, State.transmit_quiet]
      exact (push _).trans ((congrArg (State.updOwner · h.port OwnerState.resent) (s.carried_quiet h.port)).trans (push s).symm)
  · have drop : ses.judgeSeq (s.head h).seq.toNat (s.carried h.port).now = .discard := by
      rw [verdict]
      rcases quiet with none | late
      · rw [none]
      · cases e.reply with
        | none => rfl
        | some p => exact if_neg (by omega)
    have served : s.serve h c = (s.carried h.port).dropPacket (s.head h) := by
      rw [State.serve, received]
      simp only [State.intake, entry, session', drop]
      exact State.finish_calm (State.calm_of_sessions (State.sessions_of_owners (State.dropPacket_owners _ _))
        (State.carried_calm calm))
    refine ⟨_, exec_eq, ?_, ?_⟩
    · rw [served, State.dropPacket_owners, s.carried_owners]
    · rw [served, State.dropPacket_quiet, State.carried_quiet]

/-! ### A packet that fails a check -/

/-- The packet is answered under the zero key, and nothing else happens (steps 1 to 8). -/
def PlainlyRefused (i : Instr) (s : State) (h : Hdr) (op e : Nat) : Prop := ∃ t, exec i s = .next t ∧
  (∀ p, p = replyPacket h op e [] none h.enc → Out.reply h.port (s.head h).via p (s.leg (s.head h).via p) ∈ t.out) ∧
  (∀ p, (t.owner p).session = (s.owner p).session) ∧ t.leases = s.leases ∧ t.mem = s.mem ∧ t.jobs = s.jobs ∧
  t.axes = s.axes ∧ t.boot = s.boot ∧ t.keys = s.keys ∧ t.store = s.store

/-- A packet of a size its port takes, on a live port and from a host within reach, while no session waits to end. -/
structure Taken (s : State) (h : Hdr) (c : Cmd) : Prop where
  via : h.viaOk = true
  takes : (s.carried h.port).portTakes h.port = true
  recovers : h.port = 2 → s.boot.dev = .recovery → sfpInRecovery c = true
  size : 32 + payloadSize c ≤ s.maxPacket h.port
  calm : s.calm = true
  alive : s.portDead h.port = false
  reach : ∀ ip port, h.via = .udp ip port → s.net.inForce.unreachable ip = false

section
variable {i : Instr} {s : State} {h : Hdr} {c : Cmd} (taken : Taken s h c) (row : exec i s = .next (s.serve h c))
include taken row

theorem Taken.plainlyRefused {e : Nat} (refused : s.receive h c = ((s.carried h.port).plainReply (s.head h) c.opcode e [], none)) :
    PlainlyRefused i s h c.opcode e := by
  obtain ⟨via, takes, -, -, calm, alive, reach⟩ := taken
  have served : s.serve h c = (s.carried h.port).plainReply (s.head h) c.opcode e [] := by
    rw [State.serve, refused]
    exact State.finish_calm (State.calm_of_sessions (State.plainReply_sessions _ _ _ _ _) (State.carried_calm calm))
  have same := (s.carried_sameRoad h.port).trans ((s.carried h.port).countStatus_sameRoad h.port e)
  refine ⟨_, row, fun p packet => ?_, fun p => ?_, ?_⟩
  · rw [served, ← same.leg, packet]
    exact State.transmit_sends _ (State.head_sends via takes alive reach same)
  · rw [served, State.plainReply_session, s.carried_owner]
  · rw [served]
    simp

theorem Taken.headFault_refused {e : Nat} (fault : headFault h = some e) : PlainlyRefused i s h c.opcode e :=
  taken.plainlyRefused row (by rw [receive_of_taken taken.via taken.takes taken.recovers taken.size, fault])

theorem Taken.entry_refused {e : Nat} (inOrder : headFault h = none) (refused : (s.carried h.port).entry (s.head h) c = .refuse e) :
    PlainlyRefused i s h c.opcode e :=
  taken.plainlyRefused row (by
    rw [receive_of_taken taken.via taken.takes taken.recovers taken.size, inOrder]
    simp only [State.intake, refused])

theorem Taken.replay_refused {ses : Session} (inOrder : headFault h = none) (session : (s.owner h.port).session = some ses)
    (key : h.key = .sessionKey) (replay : ses.judgeSeq h.seq.toNat s.now = .replay) : PlainlyRefused i s h c.opcode eReplay := by
  have session' : ((s.carried h.port).owner (s.head h).port).session = some ses := by
    rw [s.carried_owner]
    exact session
  have entry : (s.carried h.port).entry (s.head h) c = .inside ses.serial := by
    have key : (s.head h).key = .sessionKey := key
    simp only [State.entry, session', key, if_true]
  have verdict : ses.judgeSeq (s.head h).seq.toNat (s.carried h.port).now = .replay := by
    rw [State.carried_now]
    exact replay
  refine taken.plainlyRefused row ?_
  rw [receive_of_taken taken.via taken.takes taken.recovers taken.size, inOrder]
  simp only [State.intake, entry, session', verdict]

end

/-! ### A fresh command of a session that fails a later check -/

/-- A packet in order that is fresh in its session, whatever its payload. -/
structure Fresh (s : State) (h : Hdr) (c : Cmd) (ses : Session) : Prop extends Taken s h c where
  inOrder : headFault h = none
  session : (s.owner h.port).session = some ses
  key : h.key = .sessionKey
  fresh : ses.high < h.seq.toNat
  last : h.seq.toNat ≠ 0xFFFFFFFF

section
variable {i : Instr} {s : State} {h : Hdr} {c : Cmd} {ses : Session} (fresh : Fresh s h c ses)
include fresh

theorem Fresh.receive_eq : s.receive h c =
    (s.accepted h).late (s.head h) c (if c.wf then none else some eLength) (some ses.serial) := by
  have session' : ((s.carried h.port).owner (s.head h).port).session = some ses := by
    rw [s.carried_owner]
    exact fresh.session
  have entry : (s.carried h.port).entry (s.head h) c = .inside ses.serial := by
    have key : (s.head h).key = .sessionKey := fresh.key
    simp only [State.entry, session', key, if_true]
  have verdict : ses.judgeSeq (s.head h).seq.toNat (s.carried h.port).now = .accept := by
    have new := fresh.fresh
    rw [show (s.head h).seq = h.seq from rfl, Session.judgeSeq, if_neg (by omega), if_pos new]
  rw [receive_of_taken fresh.via fresh.takes fresh.recovers fresh.size, fresh.inOrder]
  simp only [State.intake, entry, session', verdict]
  rfl

theorem Fresh.session_eq : ((s.accepted h).owner h.port).session = some (ses.took h.seq.toNat) := by
  rw [State.accepted_owner_self fresh.session]

theorem Fresh.calm_accepted : (s.accepted h).calm = true := State.accepted_calm fresh.last fresh.calm

/-- The reply of a command that was accepted is in its session's cache. -/
theorem Fresh.replied {u : State} (op : c.opcode ≠ 0x02) (sessions : u.sessions = (s.accepted h).sessions) (now : u.now = s.now)
    (e : Nat) (b : Bytes) : Replied s (u.reply (s.ticket h c ses) e b) h c.opcode e b := by
  have core : u.sessions.get h.port = (s.accepted h).sessions.get h.port := by rw [sessions]
  rw [u.sessions_get, State.sessions_get, fresh.session_eq] at core
  cases session : (u.owner h.port).session with
  | none => simp [session] at core
  | some x =>
    simp only [session, Option.map_some, Option.some.injEq] at core
    have serial : x.serial = ses.serial := by
      have := congrArg Session.serial core
      exact this
    have cache : x.cache = cachePut h.seq.toNat ses.cache := by
      have := congrArg Session.cache core
      exact this
    refine ⟨_, reply_session (t := s.ticket h c ses) (e := e) (b := b) rfl op session serial, ?_⟩
    simp only [cache, cachePut, List.take_succ_cons, List.map_cons, State.ticket_seq, if_true, List.find?_cons,
      beq_self_eq_true, now]
    rfl

/-- What the device keeps when a command is turned away: the reply of FW_COMMIT closes the stage (R147). -/
def State.afterRefusal (s : State) (c : Cmd) : State :=
  match c with
  | .fwCommit _ _ => s.closeStage
  | _ => s

omit fresh in
theorem State.turnAway_eq (s : State) (t : Ticket) (c : Cmd) (e : Nat) : s.turnAway t c e = (s.afterRefusal c).reply t e [] := by
  cases c <;> rfl

omit fresh in
theorem State.afterRefusal_sessions (s : State) (c : Cmd) : (s.afterRefusal c).sessions = s.sessions := by
  cases c <;> simp [State.afterRefusal]

omit fresh in
theorem State.afterRefusal_now (s : State) (c : Cmd) : (s.afterRefusal c).now = s.now := by
  cases c <;> simp [State.afterRefusal]

omit fresh in
theorem State.afterRefusal_quiet {s t : State} (same : s.quiet = t.quiet) (c : Cmd) :
    (s.afterRefusal c).quiet = (t.afterRefusal c).quiet := by
  cases c with
  | fwCommit => exact congrArg State.closeStage same
  | _ => exact same

variable (row : exec i s = .next (s.serve h c)) (op : c.opcode ≠ 0x02)
include row op

/-- A command turned away after its number was taken: the refusal is cached, and nothing else happens. -/
theorem Fresh.turnedAway {e : Nat} (uncounted : Uncounted e)
    (served : s.serve h c = ((s.accepted h).turnAway (s.ticket h c ses) c e).finish) :
    Completes i s h c.opcode e [] (s.afterRefusal c) := by
  have sessions := (s.accepted h).afterRefusal_sessions c
  rw [State.turnAway_eq, State.finish_calm (reply_calm uncounted (State.calm_of_sessions sessions fresh.calm_accepted))] at served
  refine ⟨_, row, ?_, ?_⟩
  · rw [served]
    exact fresh.replied op sessions (((s.accepted h).afterRefusal_now c).trans (s.accepted_now h)) e []
  · rw [served, State.reply_quiet _ _ _ uncounted]
    exact State.afterRefusal_quiet (State.accepted_quiet fresh.last) c

theorem Fresh.lateFault_refused {e : Nat} (fault : s.lateFault h.port c = some e) (uncounted : Uncounted e) :
    Completes i s h c.opcode e [] (s.afterRefusal c) := by
  refine fresh.turnedAway row op uncounted ?_
  have fault : (s.accepted h).lateFault (s.head h).port c = some e := (s.accepted_lateFault h h.port c).trans fault
  rw [State.serve, fresh.receive_eq]
  simp only [State.late, fault]
  rfl

omit op in
/-- Step 11: with 64 commands outstanding the command waits for the end of its tick. -/
theorem Fresh.crowded_waits (passes : s.lateFault h.port c = none) (crowd : 64 ≤ ses.outstanding) : ∃ t, exec i s = .next t ∧
    t.arrivals = s.arrivals ++ [⟨s.head h, some ses.serial, c, if c.wf = true then none else some eLength, true⟩] ∧
    { t with arrivals := s.arrivals }.quiet = s.quiet := by
  have passes : (s.accepted h).lateFault (s.head h).port c = none := (s.accepted_lateFault h h.port c).trans passes
  have crowded : (s.accepted h).crowded (s.head h).port (some ses.serial) = true := by
    rw [show (s.head h).port = h.port from rfl]
    simp only [State.crowded, State.outstanding, fresh.session_eq, Session.took, Option.map_some, Option.getD_some, Option.isSome_some,
      Bool.true_and, decide_eq_true_eq]
    omega
  have calm (as : List Arrival) : ({ s.accepted h with arrivals := as } : State).calm = true := fresh.calm_accepted
  refine ⟨_, row, ?_⟩
  rw [State.serve, fresh.receive_eq]
  simp only [State.late, passes, crowded, if_true, State.finish_calm (calm _)]
  exact ⟨by rw [State.accepted_arrivals], (congrArg (fun a => ({ s.accepted h with arrivals := a } : State).quiet)
    (s.accepted_arrivals h).symm).trans (State.accepted_quiet fresh.last)⟩

/-- Step 12 turns a command away that steps 9 to 11 let pass. -/
theorem Fresh.form_refused {e : Nat} (dev : s.boot.dev.refuses h.port c = none) (passes : s.lateFault h.port c = none)
    (room : ses.outstanding < 64) (uncounted : Uncounted e)
    (fault : s.formFault ⟨s.head h, some ses.serial, c, if c.wf = true then none else some eLength, false⟩ = some e) :
    Completes i s h c.opcode e [] (s.afterRefusal c) := by
  refine fresh.turnedAway row op uncounted ?_
  have passes : (s.accepted h).lateFault (s.head h).port c = none := (s.accepted_lateFault h h.port c).trans passes
  have crowded : (s.accepted h).crowded (s.head h).port (some ses.serial) = false := by
    rw [show (s.head h).port = h.port from rfl]
    simp only [State.crowded, State.outstanding, fresh.session_eq, Session.took, Option.map_some, Option.getD_some, Option.isSome_some,
      Bool.true_and, decide_eq_false_iff_not]
    omega
  have serves : ¬ ((s.accepted h).boot.dev = .shutdown ∧ ¬ inShutdown c = true) := by
    rw [State.accepted_boot]
    exact not_shut dev
  have fault := (s.accepted_formFault h _).trans fault
  rw [State.serve, fresh.receive_eq]
  simp only [State.late, passes, crowded, Bool.false_eq_true, if_false, State.act, serves, fault]
  rfl

end

theorem State.formFault_uncounted {s : State} {a : Arrival} {e : Nat} (fault : s.formFault a = some e) :
    e = eParam ∨ a.bad = some e := by
  unfold State.formFault at fault
  split at fault
  · cases fault; exact .inl rfl
  · split at fault
    · next bad => cases fault; exact .inr bad
    · split at fault
      · cases fault; exact .inl rfl
      · cases fault

theorem DevState.refuses_uncounted {d : DevState} {p : Port} {c : Cmd} {e : Nat} (refuses : d.refuses p c = some e) : Uncounted e := by
  unfold DevState.refuses at refuses
  (repeat' split at refuses) <;> cases refuses <;> decide

theorem State.addrFault_uncounted {s : State} {p : Port} {c : Cmd} {e : Nat} (fault : s.addrFault p c = some e) : Uncounted e := by
  unfold State.addrFault at fault
  (repeat' split at fault) <;> cases fault <;> decide

/-- Settles O53: `State.receive` and `State.act` judge the checks in the order of Table 6-3, each by the lemma of its step. -/
theorem checksInOrder : Obligations.ChecksInOrder := by
  intro s i h c row via takes recovers size calm alive reach
  refine ⟨fun gives => by rw [exec_of_cmd row, if_pos gives], fun acts => ?_⟩
  have row : exec i s = .next (s.serve h c) := by rw [exec_of_cmd row, if_neg (by simp [acts])]
  have taken : Taken s h c := ⟨via, takes, recovers, size, calm, alive, reach⟩
  intro plain owned head
  have entry_none {e : Nat} (none : (s.owner h.port).session = none)
      (refused : (if ¬ s.freeCmd h.port c = true then Entry.refuse eNoSession else if h.enc = true then .refuse eParam
        else if h.key = .zeroKey then .outside else .refuse eAuth) = .refuse e) :
      (s.carried h.port).entry (s.head h) c = .refuse e := by
    rw [← refused]
    simp only [State.entry, State.head, s.carried_owner, s.carried_freeCmd, none]
    rfl
  refine ⟨fun version => ?_, fun version other => ?_, fun version own flags => ?_, fun inOrder none needs => ?_,
    fun inOrder none free enc => ?_, fun inOrder none free enc key => ?_, fun ses inOrder session key bars => ?_,
    fun ses inOrder session key old => ?_, fun ses inOrder session key new last op => ?_⟩
  · exact taken.headFault_refused row (if_pos version)
  · exact taken.headFault_refused row ((if_neg (not_not.2 version)).trans (if_pos other))
  · refine taken.headFault_refused row ((if_neg (not_not.2 version)).trans ((if_neg (not_not.2 own)).trans (if_pos flags)))
  · exact taken.entry_refused row inOrder (entry_none none (if_pos (by simp [needs])))
  · exact taken.entry_refused row inOrder (entry_none none ((if_neg (not_not.2 free)).trans (if_pos enc)))
  · exact taken.entry_refused row inOrder
      (entry_none none ((if_neg (not_not.2 free)).trans ((if_neg (by simp [enc])).trans (if_neg key))))
  · refine taken.entry_refused row inOrder ?_
    have barred : ¬ (s.freeCmd h.port c = true ∧ ¬ h.enc = true ∧ h.key = .zeroKey) := by
      rintro ⟨free, enc, zero⟩
      simp [free, enc, zero] at bars
    simp only [State.entry, State.head, s.carried_owner, s.carried_freeCmd, session, if_neg key, if_neg barred]
  · refine taken.replay_refused row inOrder session key ?_
    unfold Session.judgeSeq
    rcases old with zero | far | ⟨low, none⟩
    · rw [zero]
      rfl
    · split
      · rfl
      · rw [if_neg (by omega), if_neg (by omega)]
    · split
      · rfl
      · rw [if_neg (by omega), none]
        split <;> rfl
  · have fresh : Fresh s h c ses := ⟨taken, inOrder, session, key, new, last⟩
    intro refused bad dev right addr form
    have lateFault (d : dev = none) : s.lateFault h.port c = if ¬ right then some ePort else addr := by
      simp only [State.lateFault, show s.boot.dev.refuses h.port c = none from d]
      rfl
    refine ⟨fun e fault => ?_, fun d wrong => ?_, fun e d may fault => ?_, fun d may ok crowd => ?_, fun e d may ok room fault => ?_⟩
    · refine fresh.lateFault_refused row op ?_ (DevState.refuses_uncounted fault)
      simp only [State.lateFault, show s.boot.dev.refuses h.port c = some e from fault]
    · exact fresh.lateFault_refused row op ((lateFault d).trans (if_pos wrong)) (by decide)
    · exact fresh.lateFault_refused row op ((lateFault d).trans ((if_neg (not_not.2 may)).trans fault)) (State.addrFault_uncounted fault)
    · exact fresh.crowded_waits row ((lateFault d).trans ((if_neg (not_not.2 may)).trans ok)) crowd
    · refine fresh.form_refused row op d ((lateFault d).trans ((if_neg (not_not.2 may)).trans ok)) room ?_ fault
      rcases State.formFault_uncounted fault with rfl | length
      · decide
      · simp only [bad] at length
        split at length
        · cases length
        · cases length; decide

end Sys2Proof.Machine
end

section
/-! PROOFS. What the loss of a lease leaves: every lease, the memory, the masks of the sessions, and the ports that are alive
(R102). -/

namespace Sys2Proof.Machine

/-! ### Masks -/

/-- The event masks of the sessions. -/
def State.masks (s : State) : Port → Option Nat := fun p => (s.owner p).session.map (·.mask)

theorem OwnerState.takeEvent_mask (now : Nat) (dead : Bool) (o : OwnerState) (e : EventMsg) :
    (o.takeEvent now dead e).session.map (·.mask) = o.session.map (·.mask) := by
  have today (x : Session) : (x.today now).mask = x.mask := by unfold Session.today; split <;> rfl
  unfold OwnerState.takeEvent
  split
  · rfl
  · next x session =>
    dsimp only
    (repeat' split) <;> simp [session, today]

theorem State.updOwner_masks {s : State} {p : Port} {f : OwnerState → OwnerState}
    (keeps : ∀ o, (f o).session.map (·.mask) = o.session.map (·.mask)) : (s.updOwner p f).masks = s.masks := by
  funext q
  simp only [State.masks, State.owner, State.updOwner_owners, bankUpd_get]
  split
  · exact keeps _
  · rfl

/-! ### The frame -/

/-- From `s` to `t` every lease stands, the memory is as it was, and so are BOOT's part of the state, the masks and the ports
that are alive. -/
structure Sheds (s t : State) : Prop where
  leases : t.leases = s.leases
  mem : t.mem = s.mem
  boot : t.boot = s.boot
  masks : t.masks = s.masks
  dead : ∀ p, t.portDead p = s.portDead p

namespace Sheds

variable {s t u : State}

theorem refl (s : State) : Sheds s s := ⟨rfl, rfl, rfl, rfl, fun _ => rfl⟩

theorem trans (a : Sheds s t) (b : Sheds t u) : Sheds s u :=
  ⟨b.leases.trans a.leases, b.mem.trans a.mem, b.boot.trans a.boot, b.masks.trans a.masks, fun p => (b.dead p).trans (a.dead p)⟩

theorem foldl {α : Type} {f : State → α → State} (step : ∀ s a, Sheds s (f s a)) (l : List α) (s : State) : Sheds s (l.foldl f s) :=
  foldl_keeps (P := Sheds s) (fun _ a so => so.trans (step _ a)) l s (refl s)

theorem forAll {n : Nat} {f : State → Fin n → State} (step : ∀ s i, Sheds s (f s i)) (s : State) : Sheds s (forAll s f) :=
  foldl step _ s

theorem ite {c : Prop} [Decidable c] (a : Sheds s t) (b : Sheds s u) : Sheds s (if c then t else u) := by
  split
  · exact a
  · exact b

end Sheds

theorem State.updAxis_sheds (s : State) (n : Fin 8) (f : Axis → Axis) : Sheds s (s.updAxis n f) := ⟨rfl, rfl, rfl, rfl, fun _ => rfl⟩
theorem State.updCore_sheds (s : State) (c : Fin 32) (f : Core1 → Core1) : Sheds s (s.updCore c f) := ⟨rfl, rfl, rfl, rfl, fun _ => rfl⟩
theorem State.updIllum_sheds (s : State) (f : Illum → Illum) : Sheds s (s.updIllum f) := ⟨rfl, rfl, rfl, rfl, fun _ => rfl⟩
theorem State.updSensor_sheds (s : State) (n : Fin 6) (f : SnsPort → SnsPort) : Sheds s (s.updSensor n f) :=
  ⟨rfl, rfl, rfl, rfl, fun _ => rfl⟩
theorem State.updTimer_sheds (s : State) (n : Fin 16) (f : Timer → Timer) : Sheds s (s.updTimer n f) := ⟨rfl, rfl, rfl, rfl, fun _ => rfl⟩
theorem State.updRadio_sheds (s : State) (f : Radio → Radio) : Sheds s (s.updRadio f) := ⟨rfl, rfl, rfl, rfl, fun _ => rfl⟩
theorem State.updJobs_sheds (s : State) (f : Jobs → Jobs) : Sheds s (s.updJobs f) := ⟨rfl, rfl, rfl, rfl, fun _ => rfl⟩

theorem State.raise_sheds (s : State) (code cls idx : Nat) (body : Bytes) (p : Port) : Sheds s (s.raise code cls idx body p) :=
  ⟨rfl, rfl, rfl, State.updOwner_masks fun o => o.takeEvent_mask _ _ _, fun _ => rfl⟩

theorem State.raiseAll_sheds (s : State) (code cls idx : Nat) (body : Bytes) : Sheds s (s.raiseAll code cls idx body) :=
  Sheds.foldl (fun s p => s.raise_sheds code cls idx body p) _ s

/-! ### Axes -/

theorem State.repin_sheds (s : State) : Sheds s s.repin := by
  unfold State.repin
  refine Sheds.forAll (fun s c => ?_) s
  dsimp only
  refine .ite (.refl s) (.ite ?_ (.ite ?_ (.refl s))) <;> exact s.updCore_sheds _ _

theorem State.enterAx_sheds (s : State) (n : Fin 8) (st : AxSt) (cause : Nat) : Sheds s (s.enterAx n st cause) := by
  unfold State.enterAx State.axisEvent
  exact ((s.updAxis_sheds _ _).trans (State.repin_sheds _)).trans (State.raiseAll_sheds _ _ _ _ _)

theorem State.uncommutate_sheds (s : State) (n : Fin 8) : Sheds s (s.uncommutate n) := by
  unfold State.uncommutate
  exact s.updAxis_sheds _ _

theorem State.drivePattern_sheds (s : State) (n : Fin 8) (pat : Pattern) : Sheds s (s.drivePattern n pat) := by
  unfold State.drivePattern
  exact s.updAxis_sheds _ _

theorem State.beginStop_sheds (s : State) (n : Fin 8) (cat : StopCat) (kind : StopKind) : Sheds s (s.beginStop n cat kind) := by
  unfold State.beginStop
  extract_lets s1
  have begun : Sheds s s1 := s.updAxis_sheds _ _
  cases cat with
  | ramp => exact begun.trans (State.updAxis_sheds _ _ _)
  | freewheel => exact begun.trans ((State.uncommutate_sheds _ _).trans (State.drivePattern_sheds _ _ _))
  | short => exact begun.trans ((State.uncommutate_sheds _ _).trans (State.drivePattern_sheds _ _ _))

theorem State.axisStop_sheds (s : State) (n : Fin 8) (cat : StopCat) (kind : StopKind) (cause : Nat) :
    Sheds s (s.axisStop n cat kind cause).1 := by
  obtain rest | fault | stopping | ⟨run, moves⟩ := (s.axis n).st.stop_cases
  · rw [s.axisStop_atRest n cat kind cause rest]
    exact .ite ((s.updAxis_sheds _ _).trans (State.repin_sheds _)) (.refl s)
  · rw [s.axisStop_fault n cat kind cause fault]
    exact .refl s
  · rw [s.axisStop_stopping n cat kind cause stopping]
    exact .ite (s.beginStop_sheds n cat kind) (.refl s)
  · rw [s.axisStop_running n cat kind cause run moves]
    exact ((s.updAxis_sheds _ _).trans (State.beginStop_sheds _ _ _ _)).trans (State.enterAx_sheds _ _ _ _)

theorem State.axisLoss_sheds (s : State) (n : Fin 8) : Sheds s (s.axisLoss n).1 := by
  unfold State.axisLoss
  exact (s.axisStop_sheds _ _ _ _).trans (State.updAxis_sheds _ _ _)

/-! ### Illumination, timers, tag slots, sensor ports -/

theorem State.updGroup_sheds (s : State) (n : Fin 8) (f : Group → Group) : Sheds s (s.updGroup n f) := by
  rw [State.updGroup]
  exact s.updIllum_sheds _

theorem State.updSink_sheds (s : State) (n : Fin 48) (f : Sink → Sink) : Sheds s (s.updSink n f) := by
  unfold State.updSink
  exact s.updIllum_sheds _

theorem State.dark_sheds (s : State) (gi : Fin 8) : Sheds s (s.dark gi) := by
  unfold State.dark
  refine Sheds.forAll (fun s n => ?_) s
  exact s.updSink_sheds _ _

theorem State.illumLoss_sheds (s : State) (gi : Fin 8) : Sheds s (s.illumLoss gi).1 := by
  unfold State.illumLoss
  extract_lets s1 s2
  have begun : Sheds s s1 := s.updGroup_sheds _ _
  have stopped : Sheds s s2 := .ite (begun.trans (s1.dark_sheds gi)) begun
  clear_value s2
  split
  · refine stopped.trans ?_
    dsimp only
    exact Sheds.forAll (fun s _ => s.updSink_sheds _ _) s2
  · exact stopped.trans (s2.updGroup_sheds _ _)

theorem State.matrixLoss_sheds (s : State) : Sheds s s.matrixLoss := by
  unfold State.matrixLoss State.updMatrix
  exact s.updIllum_sheds _

theorem State.timerLoss_sheds (s : State) (n : Fin 16) : Sheds s (s.timerLoss n) := by
  unfold State.timerLoss
  exact s.updTimer_sheds _ _

theorem State.updSlot_sheds (s : State) (i : Fin 32) (f : RSlot → RSlot) : Sheds s (s.updSlot i f) := by
  unfold State.updSlot
  exact s.updRadio_sheds _

theorem State.report_sheds (s : State) (i : Fin 32) (q : SendQ) (result : Nat) : Sheds s (s.report i q result) := by
  unfold State.report State.addEntry
  exact s.updSlot_sheds _ _

theorem State.tagSlotLoss_sheds (s : State) (i : Fin 32) : Sheds s (s.tagSlotLoss i) := by
  unfold State.tagSlotLoss State.dropSends
  exact (((Sheds.foldl (fun s q => s.report_sheds i q 3) _ s).trans (State.updSlot_sheds _ _ _)).trans
    (State.updSlot_sheds _ _ _)).trans (State.updSlot_sheds _ _ _)

theorem State.portDisarmed_sheds (s : State) (k : Fin 6) : Sheds s (s.portDisarmed k) := by
  unfold State.portDisarmed
  refine Sheds.forAll (fun s t => ?_) s
  unfold State.updJob
  exact s.updJobs_sheds _

theorem State.disarm_sheds (s : State) (k : Fin 6) (after : Bool) : Sheds s (s.disarm k after) := by
  unfold State.disarm
  dsimp only
  exact .ite (s.updSensor_sheds _ _) (.ite ((s.portDisarmed_sheds k).trans (State.updSensor_sheds _ _ _)) (.refl s))

/-! ### Link test units -/

/-- What the end of a test leaves: every lease, the memory, the masks; BOOT's part of the state where the unit carries no port;
the ports of `spare` that were alive. -/
structure EndsTest (u : Fin 16) (spare : Port → Prop) (s t : State) : Prop where
  leases : t.leases = s.leases
  mem : t.mem = s.mem
  masks : t.masks = s.masks
  boot : 2 ≤ u.val → t.boot = s.boot
  alive : ∀ p, spare p → s.portDead p = false → t.portDead p = false

theorem Sheds.endsTest {u : Fin 16} {spare : Port → Prop} {s t : State} (h : Sheds s t) : EndsTest u spare s t :=
  ⟨h.leases, h.mem, h.masks, fun _ => h.boot, fun p _ alive => (h.dead p).trans alive⟩

theorem EndsTest.trans {u : Fin 16} {spare : Port → Prop} {s t v : State} (a : EndsTest u spare s t) (b : EndsTest u spare t v) :
    EndsTest u spare s v :=
  ⟨b.leases.trans a.leases, b.mem.trans a.mem, b.masks.trans a.masks, fun r => (b.boot r).trans (a.boot r),
    fun p spared alive => b.alive p spared (a.alive p spared alive)⟩

theorem State.unitSends_sheds (s : State) (u : Fin 16) (on : Bool) : Sheds s (s.unitSends u on) := by
  unfold State.unitSends
  extract_lets x s1
  have sent : Sheds s s1 := .ite ⟨rfl, rfl, rfl, rfl, fun _ => rfl⟩ (.refl s)
  have looped : Sheds s1 (s1.pcsLoop on) := ⟨rfl, rfl, rfl, rfl, fun _ => rfl⟩
  exact .ite (sent.trans looped) (.ite (sent.trans ⟨rfl, rfl, rfl, rfl, fun _ => rfl⟩) sent)

theorem State.alive_iff (s : State) (p : Port) : s.portDead p = false ↔
    (p = 0 → s.hpa.linkUp = true ∧ s.underTest 0 = false) ∧ (p = 1 → s.net.ethUp = true ∧ s.underTest 1 = false) ∧
      s.portClocked p = true := by
  have tested (p : Port) : s.portTested p = match portUnit p with
    | some u => s.underTest u
    | none => false := rfl
  simp only [State.portDead, tested, portUnit]
  fin_cases p <;> simp [and_assoc]

theorem State.closeStageOf_boot_only (s : State) (p : Port) : ∃ b, s.closeStageOf p = { s with boot := b } := by
  unfold State.closeStageOf
  split
  · split
    · exact ⟨_, rfl⟩
    · exact ⟨s.boot, rfl⟩
  · exact ⟨s.boot, rfl⟩

/-- A unit gives back what it took: HPA and HPB stay down until they are trained again. -/
theorem State.unitBack_ends (s : State) (u : Fin 16) :
    EndsTest u (fun p => ¬ (p.val = u.val ∧ u.val ≤ 1)) s (s.unitBack u) := by
  unfold State.unitBack
  extract_lets v
  have sent : Sheds s v := s.unitSends_sheds u false
  refine sent.endsTest.trans ?_
  clear_value v
  clear sent
  split
  · exact (v.updSensor_sheds _ _).endsTest
  · split
    · next hpa =>
      obtain ⟨b, eq⟩ := (v.updHpa fun h => { h with linkUp := false }).closeStageOf_boot_only 0
      rw [eq]
      refine ⟨rfl, rfl, rfl, fun no => absurd no (by simp [hpa]), fun p spared alive => ?_⟩
      rw [State.alive_iff] at alive ⊢
      exact ⟨fun p0 => absurd (by simp [p0, hpa]) spared, alive.2⟩
    · split
      · next hpb =>
        obtain ⟨b, eq⟩ := (v.updNet fun n => { n with ethUp := false }).closeStageOf_boot_only 1
        rw [eq]
        refine ⟨rfl, rfl, rfl, fun no => absurd no (by simp [hpb]), fun p spared alive => ?_⟩
        rw [State.alive_iff] at alive ⊢
        exact ⟨alive.1, fun p1 => absurd (by simp [p1, hpb]) spared, alive.2.2⟩
      · exact (Sheds.refl v).endsTest

/-- A unit that stops running lets the port it carries live. -/
theorem State.updUnit_ends (s : State) (u : Fin 16) {f : Ltu → Ltu} {spare : Port → Prop}
    (stops : ∀ x, (f x).st.runs = true → x.st.runs = true) : EndsTest u spare s (s.updUnit u f) := by
  have tested (v : Fin 16) (free : s.underTest v = false) : (s.updUnit u f).underTest v = false := by
    simp only [State.underTest, State.updUnit, State.updTest, bankUpd_get] at free ⊢
    split
    · next same =>
      cases runs : (f (s.test.units.get v)).st.runs with
      | false => rfl
      | true => exact absurd (stops _ runs) (by simp [free])
    · exact free
  refine ⟨rfl, rfl, rfl, fun _ => rfl, fun p _ alive => ?_⟩
  rw [State.alive_iff] at alive ⊢
  exact ⟨fun p0 => ⟨(alive.1 p0).1, tested 0 (alive.1 p0).2⟩, fun p1 => ⟨(alive.2.1 p1).1, tested 1 (alive.2.1 p1).2⟩, alive.2.2⟩

theorem State.unitEnd_ends (s : State) (u : Fin 16) (result : Nat) (event : Bool) :
    EndsTest u (fun _ => True) s (s.unitEnd u result event) := by
  unfold State.unitEnd
  extract_lets x s1 s2 r same
  split
  · next runs =>
    have ended : EndsTest u (fun p => ¬ (p.val = u.val ∧ u.val ≤ 1)) s s2 :=
      (s.updUnit_ends u fun _ no => by cases no).trans (s1.unitBack_ends u)
    have all : EndsTest u (fun _ => True) s s2 := by
      refine ⟨ended.leases, ended.mem, ended.masks, ended.boot, fun p _ alive => ended.alive p (fun ⟨own, low⟩ => ?_) alive⟩
      rw [State.alive_iff] at alive
      have runs : s.underTest u = true := runs
      obtain rfl | rfl : u = 0 ∨ u = 1 := by omega
      · rw [(alive.1 (Fin.ext own)).2] at runs
        cases runs
      · rw [(alive.2.1 (Fin.ext own)).2] at runs
        cases runs
    split
    · exact all.trans (s2.raise_sheds _ _ _ _ _).endsTest
    · exact all
  · exact (Sheds.refl s).endsTest

theorem State.unitStop_ends (s : State) (u : Fin 16) (event : Bool) : EndsTest u (fun _ => True) s (s.unitStop u event) := by
  unfold State.unitStop
  extract_lets x s1
  have counted : EndsTest u (fun _ => True) s s1 := by
    dsimp only [s1]
    split
    · exact s.updUnit_ends u fun _ runs => runs
    · exact (Sheds.refl s).endsTest
  have free : EndsTest u (fun _ => True) s (if x.st = .counting then { s1 with free := s.free + 6 } else s1) := by
    split
    · exact counted.trans ⟨rfl, rfl, rfl, fun _ => rfl, fun _ _ alive => alive⟩
    · exact counted
  exact free.trans (State.unitEnd_ends _ u 1 event)

/-! ### The loss of a lease -/

/-- The loss action of a resource leaves every lease; a JOB_POOL share's loses its amounts. -/
theorem State.lossOf_leases (s : State) (cls idx k i : Nat) : (s.lossOf cls idx).1.leases.get k i = s.leases.get k i := by
  unfold State.lossOf
  split
  · rw [(s.axisLoss_sheds _).leases]
  · rw [(s.illumLoss_sheds _).leases]
  · rw [s.matrixLoss_sheds.leases]
  · dsimp only
    rw [(State.disarm_sheds _ _ _).leases, (s.unitStop_ends _ _).leases]
  · rw [(s.tagSlotLoss_sheds _).leases]
  · rw [(s.timerLoss_sheds _).leases]
  · rfl
  · dsimp only
    rw [(s.unitStop_ends _ _).leases]

theorem Leases.get_put_ne {l : Leases} {cls idx k i : Nat} (x : Lease) (other : (k, i) ≠ (cls, idx)) :
    (l.put cls idx x).get k i = l.get k i := by
  have differ : k = cls → ¬ idx = i := fun same eq => other (by rw [same, eq])
  clear other
  unfold Leases.put
  split
  all_goals
    try split
  all_goals
    unfold Leases.get
    split
  all_goals simp_all [bankSet_get]
  case h_3 => rw [if_neg fun eq => differ eq.symm, if_neg fun eq => differ eq.symm]
  case h_6 | h_7 =>
    split
    · rw [if_neg (by omega)]
    · rfl

end Sys2Proof.Machine
end

section
/-! PROOFS. Sessions open and end (R114, R115, R120): the end of every lease of an owner, and the end of the one session that
waits to end. -/

namespace Sys2Proof.Machine

/-! ### The leases of an owner end -/

theorem State.endLease_holder_ne (s : State) {cls idx k i : Nat} (e : Bool) (other : (k, i) ≠ (cls, idx)) :
    (s.endLease cls idx e).1.holder k i = s.holder k i := by
  unfold State.endLease
  split
  · rfl
  · simp only [State.holder, Leases.get_put_ne _ other, State.lossOf_leases]

/-- One step of the release of an owner's leases. -/
def State.releaseOne (p : Port) (s : State) (r : Nat × Nat) : State :=
  if s.holder r.1 r.2 = Port.id p then (s.endLease r.1 r.2 false).1 else s

theorem State.releaseOne_holder {s : State} {p : Port} {r : Nat × Nat} {k i : Nat}
    (held : (s.releaseOne p r).holder k i = Port.id p) : s.holder k i = Port.id p ∧ (k, i) ≠ r := by
  unfold State.releaseOne at held
  split at held
  · next own =>
    by_cases same : (k, i) = r
    · subst same
      obtain ⟨l, known, -⟩ := State.leases_get_of_holds (beq_iff_eq.2 own)
      rw [s.endLease_holder known] at held
      simp [Port.id] at held
    · rw [s.endLease_holder_ne _ same] at held
      exact ⟨held, same⟩
  · next other =>
    exact ⟨held, fun same => other (by rw [← same]; exact held)⟩

theorem State.foldl_releaseOne_holder {p : Port} {k i : Nat} {l : List (Nat × Nat)} {s : State}
    (held : (l.foldl (State.releaseOne p) s).holder k i = Port.id p) : s.holder k i = Port.id p ∧ (k, i) ∉ l := by
  induction l generalizing s with
  | nil => exact ⟨held, List.not_mem_nil⟩
  | cons r rest ih =>
    obtain ⟨step, others⟩ := ih held
    obtain ⟨before, other⟩ := State.releaseOne_holder step
    exact ⟨before, List.not_mem_cons_of_ne_of_not_mem other others⟩

/-- CLOSE_SESSION leaves its owner no lease. -/
theorem State.releaseAll_holder (s : State) (p : Port) {r : Nat × Nat} (known : r ∈ resources) :
    (s.releaseAll p).holder r.1 r.2 ≠ Port.id p := fun held => (State.foldl_releaseOne_holder held).2 known

/-! ### The one session that waits to end -/

/-- Where a step over a bank changes something at one index only, the walk is that step. -/
theorem forAll_one {n : Nat} {f : State → Fin n → State} {s : State} {i : Fin n} (before : ∀ j, j ≠ i → f s j = s)
    (after : ∀ j, j ≠ i → f (f s i) j = f s i) : forAll s f = f s i := by
  have walk (l : List (Fin n)) (distinct : l.Nodup) : l.foldl f s = if i ∈ l then f s i else s := by
    induction l using List.reverseRecOn with
    | nil => rfl
    | append_singleton l j ih =>
      obtain ⟨distinct, -, apart⟩ := List.nodup_append.1 distinct
      rw [List.foldl_append, ih distinct, List.foldl_cons, List.foldl_nil]
      by_cases here : j = i
      · subst here
        have away : j ∉ l := fun mem => apart j mem j (List.mem_singleton_self j) rfl
        simp [away]
      · by_cases mem : i ∈ l
        · simp [mem, after j here]
        · simp [mem, before j here, Ne.symm here]
  exact (walk _ (List.nodup_finRange n)).trans (by simp)

/-- No session but that of a port waits to end. -/
def State.OthersCalm (s : State) (p : Port) : Prop :=
  ∀ q, q ≠ p → ∀ x, (s.owner q).session = some x → x.closing = none ∧ x.ending = false

/-- One step of the end of sessions. -/
def State.finishAt (s : State) (p : Port) : State :=
  match (s.owner p).session with
  | none => s
  | some ses =>
    match ses.closing with
    | some t =>
      if ses.outstanding ≤ 1 then
        ((s.reply t (if s.boot.dev = .shutdown then eHwFault else stOk) []).updSession p fun x =>
          { x with closing := none }).endSession p
      else s
    | none => if ses.ending ∧ ses.outstanding = 0 then s.endSession p else s

theorem State.finish_eq (s : State) : s.finish = forAll s State.finishAt := rfl

theorem State.finishAt_of_calm {s : State} {p : Port} (calm : ∀ x, (s.owner p).session = some x → x.closing = none ∧ x.ending = false) :
    s.finishAt p = s := by
  unfold State.finishAt
  split
  · rfl
  · next x session =>
    obtain ⟨closing, ending⟩ := calm x session
    simp [closing, ending]

theorem State.finish_of_othersCalm {s : State} {p : Port} (before : s.OthersCalm p) (after : (s.finishAt p).OthersCalm p) :
    s.finish = s.finishAt p := by
  rw [State.finish_eq]
  exact forAll_one (fun q other => State.finishAt_of_calm (before q other)) fun q other => State.finishAt_of_calm (after q other)

/-! ### What a reply and the end of a session leave -/

theorem State.updSession_owner_ne (s : State) {p q : Port} (f : Session → Session) (other : p ≠ q) :
    (s.updSession p f).owner q = s.owner q := by
  simp only [State.owner, State.updSession, State.updOwner_owners, bankUpd_get, if_neg other]

theorem State.updSession_owner_self (s : State) (p : Port) (f : Session → Session) :
    (s.updSession p f).owner p = { s.owner p with session := (s.owner p).session.map f } := by
  simp only [State.owner, State.updSession, State.updOwner_owners, bankUpd_get, if_true]

/-- A reply leaves the sessions of the other ports. -/
theorem State.reply_session_ne (s : State) (t : Ticket) (e : Nat) (b : Bytes) {q : Port} (other : t.hdr.port ≠ q) :
    ((s.reply t e b).owner q).session = (s.owner q).session := by
  unfold State.reply
  split
  · exact s.plainReply_session _ _ _ _ q
  · split
    · rw [State.plainReply_session, State.updSession_owner_ne _ _ other]
    · split
      · rw [State.owner_of_owners (State.dropPacket_owners _ _)]
      · split
        · rw [State.transmit_session, State.countStatus_session, State.updSession_owner_ne _ _ other]
        · rw [State.owner_of_owners (State.dropPacket_owners _ _)]

theorem State.closeStageOf_owners (s : State) (p : Port) : (s.closeStageOf p).owners = s.owners := by
  obtain ⟨b, eq⟩ := s.closeStageOf_boot_only p
  rw [eq]

section
variable {s : State} {p : Port} {x : Session} (session : (s.owner p).session = some x) (closing : x.closing = none)
include session closing

/-- The end of a session: its owner's session and events are gone, its stage closed, its key slot filled anew. -/
theorem State.endSession_eq : ∃ b, s.endSession p =
    ({ s.updOwner p (fun o => { o with session := none, events := [] }) with boot := b } : State).fillSlot (slotSession p) := by
  obtain ⟨b, eq⟩ := (s.updOwner p fun o => { o with session := none, events := [] }).closeStageOf_boot_only p
  exact ⟨b, by simp only [State.endSession, session, closing, eq]⟩

theorem State.endSession_owners :
    (s.endSession p).owners = bankUpd s.owners p fun o => { o with session := none, events := [] } := by
  obtain ⟨b, eq⟩ := State.endSession_eq session closing
  rw [eq]
  rfl

theorem State.endSession_owner_self : (s.endSession p).owner p = { s.owner p with session := none, events := [] } := by
  rw [State.owner, State.endSession_owners session closing, bankUpd_get, if_pos rfl]
  rfl

theorem State.endSession_owner_ne {q : Port} (other : p ≠ q) : (s.endSession p).owner q = s.owner q := by
  rw [State.owner, State.endSession_owners session closing, bankUpd_get, if_neg other]
  rfl

theorem State.endSession_leases : (s.endSession p).leases = s.leases := by
  obtain ⟨b, eq⟩ := State.endSession_eq session closing
  rw [eq]
  rfl

end

/-! ### CLOSE_SESSION -/

/-- The state in which the leases of a closing session are released, its reply still owed. -/
def State.closes (s : State) (t : Ticket) : State :=
  (s.releaseAll t.hdr.port).updSession t.hdr.port fun x => { x with closing := some t }

theorem doCloseSession_of_open {s : State} {t : Ticket} {x : Session} (session : (s.owner t.hdr.port).session = some x)
    (open_ : x.closing = none) : doCloseSession t s = s.closes t := by
  simp [doCloseSession, session, open_, State.closes]

/-- A session as the end of every lease leaves it. -/
theorem State.releaseAll_session (s : State) (p q : Port) :
    ((s.releaseAll p).owner q).session.map Session.core = (s.owner q).session.map Session.core := by
  rw [← State.sessions_get, ← State.sessions_get, s.releaseAll_sessions]

theorem State.closes_holder (s : State) (t : Ticket) {r : Nat × Nat} (known : r ∈ resources) :
    (s.closes t).holder r.1 r.2 ≠ Port.id t.hdr.port := by
  have released := s.releaseAll_holder t.hdr.port known
  rwa [State.holder, State.closes, State.updSession_leases, ← State.holder]

section
variable {s : State} {t : Ticket} {x : Session} (session : (s.owner t.hdr.port).session = some x)
  (calm : s.calm = true) (serial : t.serial = some x.serial) (op : t.opcode ≠ 0x02)

include calm in
theorem State.closes_othersCalm : (s.closes t).OthersCalm t.hdr.port := by
  intro q other y session
  rw [State.closes, State.updSession_owner_ne _ _ (Ne.symm other)] at session
  have core := s.releaseAll_session t.hdr.port q
  rw [session] at core
  cases before : (s.owner q).session with
  | none => simp [before] at core
  | some z =>
    simp only [before, Option.map_some, Option.some.injEq] at core
    obtain ⟨closing, ending⟩ := (State.calm_iff s).1 calm q z before
    have sameClosing := congrArg Session.closing core
    have sameEnding := congrArg Session.ending core
    exact ⟨sameClosing.trans closing, sameEnding.trans ending⟩

include session in
theorem State.closes_session : ∃ y, ((s.closes t).owner t.hdr.port).session = some y ∧ y.closing = some t ∧
    y.outstanding = x.outstanding ∧ y.keyD = x.keyD ∧ y.serial = x.serial := by
  have core := s.releaseAll_session t.hdr.port t.hdr.port
  rw [session] at core
  cases after : ((s.releaseAll t.hdr.port).owner t.hdr.port).session with
  | none => simp [after] at core
  | some z =>
    simp only [after, Option.map_some, Option.some.injEq] at core
    have outstanding := congrArg Session.outstanding core
    have keyD := congrArg Session.keyD core
    have serial := congrArg Session.serial core
    refine ⟨{ z with closing := some t }, ?_, rfl, outstanding, keyD, serial⟩
    rw [State.closes, State.updSession_owner_self, after]
    rfl

include session calm

/-- With other commands outstanding the reply waits for theirs. -/
theorem State.finish_closes_waiting (more : 1 < x.outstanding) : (s.closes t).finish = s.closes t := by
  obtain ⟨y, after, closing, outstanding, -, -⟩ := State.closes_session session
  have stays : (s.closes t).finishAt t.hdr.port = s.closes t := by
    simp only [State.finishAt, after, closing]
    exact if_neg (by omega)
  have others := State.closes_othersCalm (t := t) calm
  rw [State.finish_of_othersCalm others (by rwa [stays]), stays]

include serial op

/-- With nothing else outstanding the session ends behind the reply. -/
theorem State.finish_closes_last (last : x.outstanding ≤ 1) : ((s.closes t).finish.owner t.hdr.port).session = none ∧
    ((s.closes t).finish.owner t.hdr.port).events = [] ∧ (s.closes t).finish.leases = (s.closes t).leases := by
  obtain ⟨y, after, closing, outstanding, -, sameSerial⟩ := State.closes_session session
  have others := State.closes_othersCalm (t := t) calm
  generalize s.closes t = u at after others
  let v := (u.reply t (if u.boot.dev = .shutdown then eHwFault else stOk) []).updSession t.hdr.port fun x => { x with closing := none }
  have ends : u.finishAt t.hdr.port = v.endSession t.hdr.port := by
    simp only [State.finishAt, after, closing]
    exact if_pos (by omega)
  have owed := reply_session (u := u) (e := if u.boot.dev = .shutdown then eHwFault else stOk) (b := []) serial op after sameSerial
  have session : ∃ z, (v.owner t.hdr.port).session = some z ∧ z.closing = none := by
    refine ⟨_, (congrArg OwnerState.session (State.updSession_owner_self _ _ _)).trans (by rw [owed]; rfl), rfl⟩
  obtain ⟨z, session, open_⟩ := session
  have finished : u.finish = v.endSession t.hdr.port := by
    rw [← ends]
    refine State.finish_of_othersCalm others ?_
    rw [ends]
    intro q other w session'
    rw [State.endSession_owner_ne session open_ (Ne.symm other), State.updSession_owner_ne _ _ (Ne.symm other),
      State.reply_session_ne _ _ _ _ (Ne.symm other)] at session'
    exact others q other w session'
  rw [finished, State.endSession_owner_self session open_]
  refine ⟨rfl, rfl, ?_⟩
  rw [State.endSession_leases session open_]
  simp [v]

end

/-- CLOSE_SESSION: with nothing else outstanding the session ends behind its reply, and its owner keeps no lease (R115, R120). -/
theorem closeSession_ends {s : State} {h : Hdr} {ses : Session} (ok : Accepted s h .closeSession ses) :
    ∃ t, exec (.closeSession h) s = .next t ∧ (∀ r ∈ resources, t.holder r.1 r.2 ≠ Port.id h.port) ∧
      if ses.outstanding = 0 then (t.owner h.port).session = none ∧ (t.owner h.port).events = []
      else ∃ x, (t.owner h.port).session = some x ∧ x.closing = some (s.ticket h .closeSession ses) ∧
        x.outstanding = ses.outstanding + 1 ∧ x.keyD = ses.keyD := by
  have calm : s.calm = true := ok.1.2.2.2.2.2.2.2.2.2
  have session := ok.session_eq
  have open_ : (ses.took h.seq.toNat).closing = none := ((State.calm_iff s).1 calm _ _ ok.1.2.2.2.2.2.1).1
  have served : s.serve h .closeSession = ((s.accepted h).closes (s.ticket h .closeSession ses)).finish := by
    rw [serve_accepted ok, perform, doCloseSession_of_open session open_]
  have holders (r : Nat × Nat) (known : r ∈ resources) := (s.accepted h).closes_holder (s.ticket h .closeSession ses) known
  refine ⟨_, rfl, ?_⟩
  rw [served]
  split
  · next alone =>
    obtain ⟨gone, events, leases⟩ := State.finish_closes_last session ok.calm rfl (by simp [Cmd.opcode])
      (t := s.ticket h .closeSession ses) (by simp [Session.took, alone])
    refine ⟨fun r known => ?_, gone, events⟩
    rw [State.holder, leases, ← State.holder]
    exact holders r known
  · next others =>
    rw [State.finish_closes_waiting session ok.calm (t := s.ticket h .closeSession ses)
      (by simp only [Session.took]; omega)]
    obtain ⟨y, after, closing, outstanding, keyD, -⟩ := State.closes_session session (t := s.ticket h .closeSession ses)
    exact ⟨holders, y, after, closing, outstanding, keyD⟩

/-! ### OPEN_SESSION (R114) -/

theorem State.carried_carried (s : State) (p : Port) : (s.carried p).carried p = s.carried p := by
  unfold State.carried
  by_cases held : s.boot.step = .held
  · simp [held]
  · by_cases mnt : p = 3
    · simp [held, mnt]
      rfl
    · by_cases sfp : p = 2
      · simp [held, sfp]
        rfl
      · simp [held, mnt, sfp]

/-- Carrying a packet changes nothing that the checks judge. -/
theorem State.carried_accepted (s : State) (h : Hdr) : (s.carried h.port).accepted h = s.accepted h := by
  rw [State.accepted, State.carried_carried, State.accepted]

theorem State.carried_lateFault (s : State) (h : Hdr) (p : Port) (c : Cmd) : (s.carried h.port).lateFault p c = s.lateFault p c := by
  rw [← State.accepted_lateFault _ h, s.carried_accepted, State.accepted_lateFault]

theorem State.carried_formFault (s : State) (h : Hdr) (a : Arrival) : (s.carried h.port).formFault a = s.formFault a := by
  rw [← State.accepted_formFault _ h, s.carried_accepted, State.accepted_formFault]

theorem State.carried_gate (s : State) (h : Hdr) (a : Arrival) : (s.carried h.port).gate a = s.gate a := by
  rw [← State.accepted_gate _ h, s.carried_accepted, State.accepted_gate]

/-- A command outside the session that passes every check acts on the carried state, whether or not its owner has a session. -/
theorem serve_free {s : State} {h : Hdr} {c : Cmd} (ok : AcceptedFree s h c) :
    s.serve h c = (perform (s.freeTicket h c) c (s.carried h.port)).finish := by
  obtain ⟨via, takes, size, wf, head, free, enc, key, -, dev, may, addr, form, gate⟩ := ok
  have rec_ : h.port = 2 → s.boot.dev = .recovery → sfpInRecovery c = true := fun h2 hd =>
    sfpInRecovery_of_answered h2 (hd ▸ dev)
  have outside : (s.carried h.port).entry (s.head h) c = .outside := by
    simp only [State.entry, State.head, s.carried_owner, s.carried_freeCmd]
    split <;> simp [free, enc, key]
  have late : (s.carried h.port).lateFault (s.head h).port c = none :=
    (s.carried_lateFault h h.port c).trans ((State.lateFault_eq_addrFault dev may).trans addr)
  have form := (s.carried_formFault h _).trans form
  have gate := (s.carried_gate h _).trans gate
  have shut : ¬ ((s.carried h.port).boot.dev = .shutdown ∧ ¬ inShutdown c = true) := by
    rw [State.carried_boot]
    exact not_shut dev
  have waits : (s.carried h.port).late (s.head h) c none none = (s.carried h.port, some ⟨s.head h, none, c, none, false⟩) := by
    simp [State.late, late, State.crowded]
  rw [State.serve, receive_eq_intake via takes size wf head rec_, State.intake, outside]
  simp only [waits, Bool.false_eq_true, if_false, State.act, shut, form, gate]
  rfl

/-- A session as OPEN_SESSION begins it. -/
def Session.begun (serial : Nat) (keyC keyD : Bytes) (now : Nat) : Session :=
  ⟨serial, keyC, keyD, 0, [], 0, false, 1, 0, [], now, 1, 0, none, false⟩

/-- The owner's session ends, a key pair and a signature are taken from what is free, and the new session is there. -/
def State.opens (s : State) (p : Port) (x : Session) : State :=
  { ((s.endSession p).drew.tookFree).updOwner p (fun o => { o with session := some x }) with serial := s.serial + 1 }

section
variable {s : State} {t : Ticket} {q : OpenP} {key nD : Bytes} (keysIn : s.keys.keysOut = false)
  (named : s.namedKey t.hdr.port q.keyId.toNat = some key) (live : s.liveChallenge t.hdr.port = some nD)
include keysIn named live

theorem doOpenSession_of_named :
    let id := le 1 (Port.id t.hdr.port)
    let qE := fit 97 (Config.ephemeral s.draws)
    let derive (c : Byte) : Bytes := fit 32 (Config.hkdf (fit 48 (Config.ecdh s.draws q.qH)) (q.nH ++ nD)
      ([0x50, 0x53, 0x49, 0x45, 0x53, 0x4B, 0x32] ++ id ++ [c]))
    let sig := fit 96 (Config.deviceSign s.free (digest (id ++ q.qH ++ q.nH ++ nD ++ qE)))
    doOpenSession t q s =
      if Config.ecdsaVerify key (digest (id ++ q.qH ++ q.nH ++ nD ++ s.otp.uniqueId)) q.sig = true then
        ((s.unchallenged t.hdr.port).opens t.hdr.port (.begun s.serial (derive 0x43) (derive 0x44) s.now)).reply t stOk
          (qE ++ zeros 3 ++ sig)
      else (s.unchallenged t.hdr.port).reply t eAuth [] := by
  intro id qE derive sig
  simp only [doOpenSession, keysIn, named, live, Bool.false_eq_true, if_false, ite_not]
  rfl

end

section
variable {s : State} {p : Port} (x : Session) (calm : s.calm = true)
include calm

theorem State.opens_eq : ∃ o b k n, s.opens p x = { s with
      owners := o, boot := b, keys := k, free := s.free + 1, serial := s.serial + 1, draws := n } ∧
    n = s.draws + (if (s.owner p).session.isSome = true then 2 else 1) ∧ (o.get p).session = some x ∧
    (o.get p).challenge = (s.owner p).challenge ∧ ∀ q, p ≠ q → (o.get q).session = (s.owner q).session := by
  cases session : (s.owner p).session with
  | none =>
    have stays : s.endSession p = s := by simp [State.endSession, session]
    refine ⟨_, s.boot, _, _, by rw [State.opens, stays]; rfl, rfl, ?_, ?_, fun q other => ?_⟩
    · exact congrArg OwnerState.session (bankUpd_get_self _ _ _)
    · exact (congrArg OwnerState.challenge (bankUpd_get_self _ _ _)).trans rfl
    · exact congrArg OwnerState.session ((bankUpd_get _ _ _ _).trans (if_neg other))
  | some y =>
    have open_ : y.closing = none := ((State.calm_iff s).1 calm _ _ session).1
    obtain ⟨b, ends⟩ := State.endSession_eq session open_
    refine ⟨_, b, _, _, by rw [State.opens, ends]; rfl, rfl, ?_, ?_, fun q other => ?_⟩
    · exact congrArg OwnerState.session (bankUpd_get_self _ _ _)
    · have first (v : Vector OwnerState 4) : ((bankUpd (bankUpd v p fun o => { o with session := none, events := [] }) p
          fun o => { o with session := some x }).get p).challenge = (v.get p).challenge := by
        rw [bankUpd_get_self, bankUpd_get_self]
      exact first s.owners
    · refine (congrArg OwnerState.session ((bankUpd_get _ _ _ _).trans (if_neg other))).trans ?_
      exact congrArg OwnerState.session ((bankUpd_get _ _ _ _).trans (if_neg other))

theorem State.opens_calm (open_ : x.closing = none) (going : x.ending = false) : (s.opens p x).calm = true := by
  obtain ⟨o, b, k, n, eq, -, self, -, others⟩ := s.opens_eq x calm (p := p)
  rw [State.calm_iff, eq]
  intro q y session
  by_cases here : p = q
  · subst here
    cases (show (o.get p).session = some y from session).symm.trans self
    exact ⟨open_, going⟩
  · exact (State.calm_iff s).1 calm q y ((others q here).symm.trans session)

end

section
variable {s : State} {h : Hdr} {q : OpenP} (ok : AcceptedFree s h (.openSession q))
include ok

/-- What the opening of a session leaves, its reply sent. -/
theorem openSession_replied {keyC keyD b : Bytes} :
    let t := ((((s.carried h.port).unchallenged h.port).opens h.port (.begun s.serial keyC keyD s.now)).reply
      (s.freeTicket h (.openSession q)) stOk b).finish
    (t.owner h.port).challenge = none ∧ t.leases = s.leases ∧ t.axes = s.axes ∧ t.mem = s.mem ∧ t.jobs = s.jobs ∧
      (t.owner h.port).session = some ⟨s.serial, keyC, keyD, 0, [], 0, false, 1, 0, [], s.now, 1, 0, none, false⟩ ∧
      t.serial = s.serial + 1 ∧ t.draws = s.draws + (if (s.owner h.port).session.isSome then 2 else 1) ∧
      (h.via = .mnt → t.out = s.out ++ [mntReply (replyPacket h 0x02 stOk b none false)]) := by
  have ⟨via, takes, _, _, _, _, enc, _, calm, _⟩ := ok
  let u := (s.carried h.port).unchallenged h.port
  have calm' : u.calm = true := State.calm_of_sessions (State.unchallenged_sessions _ _) (State.carried_calm calm)
  have opened := State.opens_calm (p := h.port) (.begun s.serial keyC keyD s.now) calm' rfl rfl
  obtain ⟨o, bt, k, n, eq, draws, session, challenge, -⟩ := u.opens_eq (p := h.port) (.begun s.serial keyC keyD s.now) calm'
  intro t
  have replied : t = (u.opens h.port (.begun s.serial keyC keyD s.now)).plainReply (s.head h) 0x02 stOk b :=
    State.finish_calm (State.calm_of_sessions (State.plainReply_sessions _ _ _ _ _) opened)
  have owners : t.owners = o := by
    rw [replied, State.plainReply, State.transmit_owners, State.countStatus_uncounted _ _ (by decide), eq]
  have before : u.owner h.port = { s.owner h.port with challenge := none } := by
    rw [State.unchallenged_owner, s.carried_owner]
  refine ⟨?_, ?_, ?_, ?_, ?_, ?_, ?_, ?_, fun mnt => ?_⟩
  · rw [State.owner, owners, challenge, before]
  · rw [replied, State.plainReply_leases, eq]
    exact s.carried_leases _
  · rw [replied, State.plainReply_axes, eq]
    exact s.carried_axes _
  · rw [replied, State.plainReply_mem, eq]
    exact s.carried_mem _
  · rw [replied, State.plainReply_jobs, eq]
    exact s.carried_jobs _
  · rw [State.owner, owners, session]
    rfl
  · rw [replied, State.plainReply_serial, eq]
    exact congrArg (· + 1) (s.carried_serial _)
  · rw [replied, State.plainReply_draws, eq]
    refine draws.trans ?_
    rw [before]
    exact congrArg (· + _) (s.carried_draws _)
  · have port : (s.head h).port = 3 := by simpa [Hdr.viaOk, mnt, State.head] using via
    have carriage : (s.head h).via = .mnt := by simp [State.head, State.via, mnt]
    have clocked : (u.opens h.port (.begun s.serial keyC keyD s.now)).portClocked 3 = true := by
      have before := State.portClocked_of_takes takes
      rw [eq, ← port]
      exact before
    rw [replied, State.plainReply_mnt_out port carriage clocked, eq]
    rw [show (s.head h).enc = h.enc from rfl, enc]
    exact congrArg (· ++ _) (s.carried_out _)

/-- What a refused OPEN_SESSION leaves. -/
theorem openSession_refused :
    let t := (((s.carried h.port).unchallenged h.port).reply (s.freeTicket h (.openSession q)) eAuth []).finish
    (t.owner h.port).challenge = none ∧ t.leases = s.leases ∧ t.axes = s.axes ∧ t.mem = s.mem ∧ t.jobs = s.jobs ∧
      (t.owner h.port).session = (s.owner h.port).session ∧ t.serial = s.serial ∧
      (t.owner h.port).cntAuth = satInc 65535 (s.owner h.port).cntAuth := by
  have ⟨_, _, _, _, _, _, _, _, calm, _⟩ := ok
  let u := (s.carried h.port).unchallenged h.port
  have calm' : u.calm = true := State.calm_of_sessions (State.unchallenged_sessions _ _) (State.carried_calm calm)
  intro t
  have replied : t = u.plainReply (s.head h) 0x02 eAuth [] :=
    State.finish_calm (State.calm_of_sessions (State.plainReply_sessions _ _ _ _ _) calm')
  have owner : t.owner h.port = { s.owner h.port with challenge := none, cntAuth := satInc 65535 (s.owner h.port).cntAuth } := by
    have counted := u.plainReply_eAuth_owner (s.head h) 0x02 []
    rw [replied]
    refine counted.trans ?_
    rw [show u.owner (s.head h).port = { s.owner h.port with challenge := none } by
      rw [show (s.head h).port = h.port from rfl, State.unchallenged_owner, s.carried_owner]]
  rw [owner, replied]
  simp [u, State.unchallenged]

end

/-- OPEN_SESSION with the owner's enrolled key and a live challenge: the challenge is used up, and a session with fresh keys
opens where the signature verifies (R114, R167). -/
theorem openSession_opens {s : State} {h : Hdr} {q : OpenP} {key nD : Bytes} (ok : AcceptedFree s h (.openSession q))
    (alone : s.enrolComes = false) (keysIn : s.keys.keysOut = false) (named : s.namedKey h.port q.keyId.toNat = some key)
    (live : s.liveChallenge h.port = some nD) :
    let id := le 1 (Port.id h.port)
    let qE := fit 97 (Config.ephemeral s.draws)
    let derive (c : Byte) : Bytes := fit 32 (Config.hkdf (fit 48 (Config.ecdh s.draws q.qH)) (q.nH ++ nD)
      ([0x50, 0x53, 0x49, 0x45, 0x53, 0x4B, 0x32] ++ id ++ [c]))
    let sig := fit 96 (Config.deviceSign s.free (digest (id ++ q.qH ++ q.nH ++ nD ++ qE)))
    ∃ t, exec (.openSession h q) s = .next t ∧ (t.owner h.port).challenge = none ∧ t.leases = s.leases ∧ t.axes = s.axes ∧
      t.mem = s.mem ∧ t.jobs = s.jobs ∧
      if Config.ecdsaVerify key (digest (id ++ q.qH ++ q.nH ++ nD ++ s.otp.uniqueId)) q.sig = true then
      (t.owner h.port).session = some
          ⟨s.serial, derive 0x43, derive 0x44, 0, [], 0, false, 1, 0, [], s.now, 1, 0, none, false⟩ ∧
      t.serial = s.serial + 1 ∧ t.draws = s.draws + (if (s.owner h.port).session.isSome then 2 else 1) ∧
      (h.via = .mnt → t.out = s.out ++ [mntReply (replyPacket h 0x02 stOk (qE ++ zeros 3 ++ sig) none false)])
      else (t.owner h.port).session = (s.owner h.port).session ∧ t.serial = s.serial ∧
        (t.owner h.port).cntAuth = satInc 65535 (s.owner h.port).cntAuth := by
  intro id qE derive sig
  have ⟨via, takes, _, _, _, _, enc, _, calm, _⟩ := ok
  have same := s.carried_sameRoad h.port
  have keys : (s.carried h.port).keys = s.keys := s.carried_keys _
  have named' : (s.carried h.port).namedKey h.port q.keyId.toNat = some key := by rwa [State.namedKey, keys, ← State.namedKey]
  have live' : (s.carried h.port).liveChallenge h.port = some nD := by
    rwa [State.liveChallenge, s.carried_owner, State.carried_now, ← State.liveChallenge]
  have performed : perform (s.freeTicket h (.openSession q)) (.openSession q) (s.carried h.port) = _ :=
    doOpenSession_of_named (t := s.freeTicket h (.openSession q)) (keys ▸ keysIn) named' live'
  have served := serve_free ok
  rw [performed] at served
  simp only [State.carried_draws, State.carried_free, State.carried_otp, State.carried_serial, State.carried_now] at served
  have calm' : ((s.carried h.port).unchallenged h.port).calm = true :=
    State.calm_of_sessions (State.unchallenged_sessions _ _) (State.carried_calm calm)
  refine ⟨_, exec_openSession_of_not_enrolComes h q alone, ?_⟩
  by_cases verifies : Config.ecdsaVerify key (digest (id ++ q.qH ++ q.nH ++ nD ++ s.otp.uniqueId)) q.sig = true
  · rw [if_pos verifies, served.trans (congrArg State.finish (if_pos verifies))]
    exact openSession_replied ok
  · rw [if_neg verifies, served.trans (congrArg State.finish (if_neg verifies))]
    exact openSession_refused ok

/-- Settles O4: OPEN_SESSION by its equation, CLOSE_SESSION by the end of the one session that waits to end. -/
theorem sessionsOpenAndEnd : Obligations.SessionsOpenAndEnd := by
  refine ⟨fun s h q gives => ?_, fun s h q key nD ok alone keysIn named live => openSession_opens ok alone keysIn named live,
    fun s h ses ok _ => closeSession_ends ok⟩
  have row : exec (.openSession h q) s = execOpenSession h q s := rfl
  simp [row, execOpenSession, gives]

end Sys2Proof.Machine
end

section
/-! PROOFS. Events go out on their owner's port, and a lease past its expiry ends (R102, R121, R124). -/

namespace Sys2Proof.Machine

/-! ### EVENT_DELIVER -/

theorem exec_eventDeliver {s : State} (alone : s.commandsWait = false) (p : Port) :
    exec (.eventDeliver p) s = .next (s.deliverEvent p) := by
  have row : exec (.eventDeliver p) s = execEventDeliver p s := rfl
  simp [row, execEventDeliver, alone]

/-- The oldest event of an owner that its mask still has, with those behind it. -/
def State.dueEvents (s : State) (p : Port) (ses : Session) : List EventMsg :=
  (s.owner p).events.dropWhile fun e => !ses.mask.testBit e.code

/-- The event packet is sent. -/
def State.sendEvent (s : State) (p : Port) (ses : Session) (e : EventMsg) (rest : List EventMsg) : State :=
  let pkt := eventPacket p ses e
  let s1 := s.updOwner p fun o => { o with events := rest }
  let s2 : State := { s1 with out := s1.out ++ [Out.event p pkt (s.eventLeg p pkt)] }
  if p = 0 then
    let h := s2.hpa
    let bytes := pkt.wire
    let entry := le 2 bytes.length ++ le 1 (ringPhase h.eqPos h.eqSize) ++ [0] ++ fit 252 bytes
    let s3 : State := { s2 with
      out := s2.out ++ [Out.eventEntry (h.eqPos % h.eqSize) entry], hpa := { h with eqPos := h.eqPos + 1 } }
    s3.signal (h.vector e)
  else if p = 2 then s2.updNet fun n => { n with sfpOut := n.sfpOut ++ sfpFrames pkt.wire }
  else if p = 1 then
    match (s.owner 1).evtDest with
    | some (ip, _) => if s.net.inForce.unreachable ip then s1 else s2
    | none => s
  else s2

theorem State.deliverEvent_of_session {s : State} {p : Port} {ses : Session} (session : (s.owner p).session = some ses) :
    s.deliverEvent p = match s.dueEvents p ses with
      | e :: rest => if s.eventRoom p = true then s.sendEvent p ses e rest else s
      | [] => s.updOwner p fun o => { o with events := [] } := by
  have due : ((s.owner p).events.dropWhile fun e => !((s.owner p).session.map fun x => x.mask.testBit e.code).getD false) =
      s.dueEvents p ses := by
    simp [State.dueEvents, session]
  unfold State.deliverEvent
  rw [due, session]
  cases s.dueEvents p ses with
  | nil => rfl
  | cons e rest =>
    simp only [ite_not]
    rfl

section
variable {s : State} {p : Port} {ses : Session} {e : EventMsg} {rest : List EventMsg}

theorem State.dueEvents_of_subscribed (events : (s.owner p).events = e :: rest) (subscribed : ses.mask.testBit e.code = true) :
    s.dueEvents p ses = e :: rest := by
  simp [State.dueEvents, events, subscribed]

theorem State.dueEvents_of_unsubscribed (events : (s.owner p).events = e :: rest) (unsubscribed : ¬ ses.mask.testBit e.code = true) :
    s.dueEvents p ses = (s.updOwner p fun o => { o with events := rest }).dueEvents p ses := by
  have after : ((s.updOwner p fun o => { o with events := rest }).owner p).events = rest :=
    congrArg OwnerState.events (bankUpd_get_self _ _ _)
  simp [State.dueEvents, events, after, unsubscribed]

theorem State.updOwner_events_twice (a b : List EventMsg) :
    (s.updOwner p fun o => { o with events := a }).updOwner p (fun o => { o with events := b }) =
      s.updOwner p fun o => { o with events := b } := by
  rw [State.updOwner_updOwner]
  rfl

section
variable (l : List EventMsg)

theorem State.updOwner_events_evtDest (q : Port) :
    ((s.updOwner p fun o => { o with events := l }).owner q).evtDest = (s.owner q).evtDest := by
  simp only [State.owner, State.updOwner_owners, bankUpd_get]
  split <;> rfl

theorem State.updOwner_events_eventLeg (q : Port) (k : Packet) :
    (s.updOwner p fun o => { o with events := l }).eventLeg q k = s.eventLeg q k := by
  unfold State.eventLeg
  rw [State.updOwner_events_evtDest, (s.updOwner_sameRoad p _).leg]

theorem State.updOwner_events_eventRoom (q : Port) :
    (s.updOwner p fun o => { o with events := l }).eventRoom q = s.eventRoom q := by
  unfold State.eventRoom
  rw [State.updOwner_events_evtDest]
  rfl

/-- How an event goes out does not depend on the events behind it that were there before. -/
theorem State.sendEvent_after (room : s.eventRoom p = true) (f : EventMsg) (next : List EventMsg) :
    (s.updOwner p fun o => { o with events := l }).sendEvent p ses f next = s.sendEvent p ses f next := by
  unfold State.sendEvent
  simp only [State.updOwner_events_twice, State.updOwner_events_eventLeg, State.updOwner_events_evtDest]
  by_cases hpb : p = 1
  · subst hpb
    obtain ⟨dest, known⟩ : ∃ d, (s.owner 1).evtDest = some d := by
      simp [State.eventRoom] at room
      exact Option.isSome_iff_exists.1 room.2
    simp only [known]
    rfl
  · simp only [if_neg hpb]

end

/-- A discarded event leaves what is due and how it goes out as it was. -/
theorem State.deliverEvent_of_unsubscribed (session : (s.owner p).session = some ses) (events : (s.owner p).events = e :: rest)
    (unsubscribed : ¬ ses.mask.testBit e.code = true) (room : s.eventRoom p = true) :
    s.deliverEvent p = (s.updOwner p fun o => { o with events := rest }).deliverEvent p := by
  have session' : ((s.updOwner p fun o => { o with events := rest }).owner p).session = some ses :=
    (congrArg OwnerState.session (bankUpd_get_self _ _ _)).trans session
  rw [State.deliverEvent_of_session session, State.deliverEvent_of_session session',
    State.dueEvents_of_unsubscribed events unsubscribed]
  cases (s.updOwner p fun o => { o with events := rest }).dueEvents p ses with
  | nil => exact (State.updOwner_events_twice _ _).symm
  | cons f next => simp only [State.updOwner_events_eventRoom, room, if_true, State.sendEvent_after rest room]

end

theorem State.signal_out (s : State) (v : Fin 64) : ∃ more, (s.signal v).out = s.out ++ more := by
  unfold State.signal
  split
  · exact ⟨[], (List.append_nil _).symm⟩
  · exact ⟨_, rfl⟩

theorem State.signal_eqPos (s : State) (v : Fin 64) : (s.signal v).hpa.eqPos = s.hpa.eqPos := by
  unfold State.signal
  split <;> rfl

theorem Port.cases (p : Port) : p = 0 ∨ p = 1 ∨ p = 2 ∨ p = 3 := by
  revert p
  decide

/-- The part of O51 about one event that is subscribed to and has room: what its port gives. -/
theorem State.sendEvent_sends {s : State} {p : Port} {ses : Session} {e : EventMsg} {rest : List EventMsg} (room : s.eventRoom p = true) :
    let pkt := eventPacket p ses e
    let t := s.sendEvent p ses e rest
    (t.owners = bankUpd s.owners p (fun o => { o with events := rest }) ∧ t.leases = s.leases ∧ t.axes = s.axes ∧ t.mem = s.mem) ∧
      (p = 0 → t.hpa.eqPos = s.hpa.eqPos + 1 ∧ ∃ more, t.out = s.out ++ [Out.event 0 pkt .dma, Out.eventEntry
        (s.hpa.eqPos % 2 ^ s.hpa.eqLog) (le 2 pkt.wire.length ++ le 1 (ringPhase s.hpa.eqPos (2 ^ s.hpa.eqLog)) ++ [0]
          ++ fit 252 pkt.wire)] ++ more) ∧
      (p = 1 → ∀ ip port, (s.owner 1).evtDest = some (ip, port) →
        t.out = if s.net.inForce.unreachable ip = true then s.out
          else s.out ++ [Out.event 1 pkt (.frame
            { dst := none, src := fit 6 s.otp.mac, tag := s.net.inForce.tag, etype := 0x0800,
              ip := some ⟨s.net.inForce.hpbIp, ip, 17, some (47600, port.toNat)⟩, body := pkt.wire })]) ∧
      (p = 2 → t.out = s.out ++ [Out.event 2 pkt .spi] ∧ t.net = { s.net with sfpOut := s.net.sfpOut ++ sfpFrames pkt.wire }) ∧
      (p = 3 → t.out = s.out ++ [Out.event 3 pkt (.line (mntFrame pkt.wire))] ∧ t.net = s.net) := by
  intro pkt t
  obtain rfl | rfl | rfl | rfl := Port.cases p
  · obtain ⟨owners, leases, axes, mem⟩ : t.owners = bankUpd s.owners 0 (fun o => { o with events := rest }) ∧ t.leases = s.leases ∧
        t.axes = s.axes ∧ t.mem = s.mem :=
      ⟨State.signal_owners _ _, State.signal_leases _ _, State.signal_axes _ _, State.signal_mem _ _⟩
    refine ⟨⟨owners, leases, axes, mem⟩, fun _ => ⟨State.signal_eqPos _ _, ?_⟩, fun no => absurd no (by decide),
      fun no => absurd no (by decide), fun no => absurd no (by decide)⟩
    obtain ⟨more, out⟩ := State.signal_out _ _
    exact ⟨more, out.trans (congrArg (· ++ more) (List.append_assoc _ _ _))⟩
  · obtain ⟨⟨ip, port⟩, known⟩ : ∃ d, (s.owner 1).evtDest = some d := by
      simp [State.eventRoom] at room
      exact Option.isSome_iff_exists.1 room.2
    have sent : t = if s.net.inForce.unreachable ip = true then s.updOwner 1 (fun o => { o with events := rest })
        else { s.updOwner 1 (fun o => { o with events := rest }) with out := s.out ++ [Out.event 1 pkt (s.eventLeg 1 pkt)] } := by
      simp [t, State.sendEvent, known]
      rfl
    have leg : s.eventLeg 1 pkt = .frame (s.psieskFrame ip port pkt) := by
      simp [State.eventLeg, known]
      rfl
    refine ⟨?_, fun no => absurd no (by decide), fun _ ip' port' known' => ?_, fun no => absurd no (by decide),
      fun no => absurd no (by decide)⟩
    · rw [sent]
      split <;> exact ⟨rfl, rfl, rfl, rfl⟩
    · cases known.symm.trans known'
      rw [sent, leg]
      split <;> rfl
  · exact ⟨⟨rfl, rfl, rfl, rfl⟩, fun no => absurd no (by decide), fun no => absurd no (by decide), fun _ => ⟨rfl, rfl⟩,
      fun no => absurd no (by decide)⟩
  · exact ⟨⟨rfl, rfl, rfl, rfl⟩, fun no => absurd no (by decide), fun no => absurd no (by decide), fun no => absurd no (by decide),
      fun _ => ⟨rfl, rfl⟩⟩

/-! ### LEASE_EXPIRY -/

theorem exec_leaseExpiry {s : State} (alone : s.commandsWait = false) (cls : Byte) (idx : Word) :
    exec (.leaseExpiry cls idx) s = .next ((s.expire cls.toNat idx.toNat).finish) := by
  have row : exec (.leaseExpiry cls idx) s = execLeaseExpiry cls idx s := rfl
  simp [row, execLeaseExpiry, alone]

theorem State.expire_of_not_due {s : State} {cls idx : Nat}
    (not : ∀ l, s.leases.get cls idx = some l → l.owner = 0 ∨ s.now < l.expiry) : s.expire cls idx = s := by
  unfold State.expire
  split
  · next l known =>
    refine if_neg fun ⟨held, due⟩ => ?_
    rcases not l known with free | later
    · exact held free
    · omega
  · rfl

/-- What the loss of a lease leaves: the memory, the masks, the ports that are alive, and, but for a link's lease, BOOT's part
of the state. -/
structure State.LossEnds (s t : State) (cls : Nat) : Prop where
  mem : t.mem = s.mem
  masks : t.masks = s.masks
  alive : ∀ p, s.portDead p = false → t.portDead p = false
  boot : cls ≠ 8 → t.boot = s.boot

theorem Sheds.lossEnds {s t : State} {cls : Nat} (h : Sheds s t) : s.LossEnds t cls :=
  ⟨h.mem, h.masks, fun p alive => (h.dead p).trans alive, fun _ => h.boot⟩

theorem State.lossOf_ends {s : State} {cls idx : Nat} {l : Lease} (known : s.leases.get cls idx = some l) :
    s.LossEnds (s.lossOf cls idx).1 cls := by
  unfold Leases.get at known
  split at known
  · exact (s.axisLoss_sheds _).lossEnds
  · exact (s.illumLoss_sheds _).lossEnds
  · exact s.matrixLoss_sheds.lossEnds
  · next cls =>
    split at known
    · next inRange =>
      have stop := s.unitStop_ends (Fin.ofNat 16 (10 + idx)) true
      have rest := State.disarm_sheds (s.unitStop (Fin.ofNat 16 (10 + idx)) true) (Fin.ofNat 6 idx) true
      have carriesNone : 2 ≤ (Fin.ofNat 16 (10 + idx)).val := by simp; omega
      exact ⟨rest.mem.trans stop.mem, rest.masks.trans stop.masks, fun p alive => (rest.dead p).trans (stop.alive p trivial alive),
        fun _ => rest.boot.trans (stop.boot carriesNone)⟩
    · cases known
  · exact (s.tagSlotLoss_sheds _).lossEnds
  · exact (s.timerLoss_sheds _).lossEnds
  · exact ⟨rfl, rfl, fun _ alive => alive, fun _ => rfl⟩
  · have stop := s.unitStop_ends (Fin.ofNat 16 idx) true
    exact ⟨stop.mem, stop.masks, fun p alive => stop.alive p trivial alive, fun no => absurd rfl no⟩
  · cases known

/-- An event that its owner has subscribed to is the last of its queue, where its port is alive and the queue has not grown to its
limit. -/
theorem State.raise_last {s : State} {code cls idx : Nat} {b : Bytes} {p : Port} {m : Nat} (mask : s.masks p = some m)
    (subscribed : m.testBit code = true) (alive : s.portDead p = false) (room : ((s.raise code cls idx b p).owner p).events.length < 256) :
    ∃ e, ((s.raise code cls idx b p).owner p).events.getLast? = some e ∧ e.code = code ∧ e.cls = cls ∧ e.idx = idx := by
  have owner : (s.raise code cls idx b p).owner p =
      (s.owner p).takeEvent s.now (s.portDead p) ⟨code, cls, idx, 0, s.eventBody b⟩ := bankUpd_get_self _ _ _
  rw [owner] at room ⊢
  have today (x : Session) : (x.today s.now).mask = x.mask := by unfold Session.today; split <;> rfl
  cases session : (s.owner p).session with
  | none => simp [State.masks, session] at mask
  | some x =>
    obtain rfl : x.mask = m := by simpa [State.masks, session] using mask
    simp only [OwnerState.takeEvent, session, today, subscribed, alive, if_true, Bool.false_eq_true, if_false] at room ⊢
    split at room
    · next fits =>
      rw [if_pos fits]
      exact ⟨_, List.getLast?_concat, rfl, rfl, rfl⟩
    · next full =>
      exfalso
      split at room <;> exact full room

section
variable {s : State} {cls idx : Nat} {l : Lease} {p : Port} (known : s.leases.get cls idx = some l) (own : l.owner = Port.id p)
include known own

theorem State.expire_of_due (due : l.expiry ≤ s.now) : s.expire cls idx =
    (s.endLease cls idx true).1.raise 0x0F cls idx (le 1 cls ++ zeros 1 ++ le 2 idx ++ le 1 (s.endLease cls idx true).2 ++ zeros 3) p := by
  have held : l.owner ≠ 0 := by simp [own, Port.id]
  have port : 0 < l.owner ∧ l.owner ≤ 4 := by
    have := p.isLt
    rw [own, Port.id]
    omega
  unfold State.expire
  simp only [known]
  rw [if_pos ⟨held, due⟩, State.raiseTo, dif_pos port]
  congr 1
  exact Fin.ext (by simp [own, Port.id])

/-- The lease as the end of its time leaves it. -/
theorem State.endLease_lapsed : ∃ l', (s.endLease cls idx true).1.leases.get cls idx = some l' ∧ l'.lapsed.get p = true := by
  simp only [State.endLease, known, if_true]
  refine ⟨_, Leases.get_put_self ((s.lossOf_leases cls idx cls idx).trans known), ?_⟩
  have port : Fin.ofNat 4 (l.owner - 1) = p := Fin.ext (by simp [own, Port.id])
  show (bankSet l.lapsed (Fin.ofNat 4 (l.owner - 1)) true).get p = true
  rw [port, bankSet_get_self]

omit own in
theorem State.endLease_ends : s.LossEnds (s.endLease cls idx true).1 cls := by
  have ends := State.lossOf_ends known
  simp only [State.endLease, known]
  exact ⟨ends.mem, ends.masks, ends.alive, ends.boot⟩

end

/-- The part of O51 about a lease past its expiry. -/
theorem leaseExpiry_ends {s : State} {cls : Byte} {idx : Word} {l : Lease} {p : Port} (alone : s.commandsWait = false)
    (calm : s.calm = true) (known : s.leases.get cls.toNat idx.toNat = some l) (own : l.owner = Port.id p) (due : l.expiry ≤ s.now) :
    ∃ t, exec (.leaseExpiry cls idx) s = .next t ∧ t.holder cls.toNat idx.toNat = 0 ∧
      (∀ r ∈ resources, r ≠ (cls.toNat, idx.toNat) → t.holder r.1 r.2 = s.holder r.1 r.2) ∧
      (∃ l', t.leases.get cls.toNat idx.toNat = some l' ∧ l'.lapsed.get p = true) ∧ t.mem = s.mem ∧
      (cls ≠ 8 → t.boot = s.boot) ∧
      (∀ ses, (s.owner p).session = some ses → ses.mask.testBit 0x0F = true → s.portDead p = false →
        (t.owner p).events.length < 256 → ∃ e, (t.owner p).events.getLast? = some e ∧ e.code = 0x0F ∧ e.cls = cls.toNat ∧
          e.idx = idx.toNat) := by
  have ends := State.endLease_ends known
  have sessions := s.endLease_sessions cls.toNat idx.toNat true
  have holder (k i : Nat) (u : State) (b : Bytes) : (u.raise 0x0F cls.toNat idx.toNat b p).holder k i = u.holder k i := by
    rw [State.holder, State.raise_leases, ← State.holder]
  refine ⟨_, exec_leaseExpiry alone cls idx, ?_⟩
  rw [State.expire_of_due known own due, State.finish_calm (State.calm_of_sessions ((State.raise_sessions _ _ _ _ _ _).trans sessions) calm)]
  refine ⟨?_, fun r _ other => ?_, ?_, ?_, fun notLink => ?_, fun ses session subscribed alive room => ?_⟩
  · rw [holder, s.endLease_holder known]
  · rw [holder, s.endLease_holder_ne true other]
  · rw [State.raise_leases]
    exact State.endLease_lapsed known own
  · rw [State.raise_mem, ends.mem]
  · rw [State.raise_boot, ends.boot fun eight => notLink (BitVec.eq_of_toNat_eq eight)]
  · have mask : s.masks p = some ses.mask := by simp [State.masks, session]
    exact State.raise_last ((congrFun ends.masks p).trans mask) subscribed (ends.alive p alive) room

/-- Settles O51: the events by what is due of them, the lease by what its loss leaves. -/
theorem eventAndLeaseRowsAct : Obligations.EventAndLeaseRowsAct := by
  refine ⟨fun s p ses e rest session events alone => ?_, fun s p cls idx waits i mem => ?_, fun s p alone none => ?_,
    fun s cls idx alone calm not => ?_, fun s cls idx l p alone calm known own due => leaseExpiry_ends alone calm known own due⟩
  · intro pkt leg subscribed gone
    rw [exec_eventDeliver alone]
    refine ⟨fun none => ?_, fun unsubscribed room => ?_, fun takes full => ?_, fun takes room => ?_⟩
    · have nothing : s.dueEvents p ses = [] := by
        simp only [State.dueEvents, events, List.dropWhile_eq_nil_iff]
        intro x mem
        simp [none x mem]
      rw [State.deliverEvent_of_session session, nothing]
    · have alone' : (s.updOwner p fun o => { o with events := rest }).commandsWait = false := alone
      rw [exec_eventDeliver alone', State.deliverEvent_of_unsubscribed session events unsubscribed room]
    · rw [State.deliverEvent_of_session session, State.dueEvents_of_subscribed events takes]
      exact congrArg _ (if_neg (by simp [full]))
    · rw [State.deliverEvent_of_session session, State.dueEvents_of_subscribed events takes]
      exact ⟨_, congrArg _ (if_pos room), State.sendEvent_sends room⟩
  · obtain rfl | rfl : i = .eventDeliver p ∨ i = .leaseExpiry cls idx := by simpa using mem
    · have row : exec (.eventDeliver p) s = execEventDeliver p s := rfl
      simp [row, execEventDeliver, waits]
    · have row : exec (.leaseExpiry cls idx) s = execLeaseExpiry cls idx s := rfl
      simp [row, execLeaseExpiry, waits]
  · rw [exec_eventDeliver alone]
    congr 1
    cases session : (s.owner p).session with
    | none => simp [State.deliverEvent, session]
    | some ses =>
      have nothing : s.dueEvents p ses = [] := by simp [State.dueEvents, none]
      rw [State.deliverEvent_of_session session, nothing]
      have same : bankUpd s.owners p (fun o => { o with events := [] }) = s.owners :=
        bankUpd_id _ _ _ (by rw [← none]; rfl)
      simp only [State.updOwner, same]
  · rw [exec_leaseExpiry alone, State.expire_of_not_due not, State.finish_calm calm]

end Sys2Proof.Machine
end

section
/-! PROOFS. The configuration store writes its oldest item, tries a failed one again and answers a late SAVE (R285). -/

namespace Sys2Proof.Machine

/-- A reply whose command has its place in its session's cache is found there. -/
theorem replied_of_cached {s u : State} {t : Ticket} {ses : Session} {e : Nat} {b : Bytes} (op : t.opcode ≠ 0x02)
    (serial : t.serial = some ses.serial) (session : (u.owner t.hdr.port).session = some ses) (now : u.now = s.now)
    (cached : ∃ c ∈ ses.cache, c.seq = t.hdr.seq.toNat) : Replied s (u.reply t e b) t.hdr t.opcode e b := by
  refine ⟨_, reply_session serial op session rfl, ?_⟩
  obtain ⟨c, mem, seq⟩ := cached
  generalize ses.cache = entries at mem
  dsimp only
  induction entries with
  | nil => cases mem
  | cons d rest ih =>
    by_cases here : d.seq = t.hdr.seq.toNat
    · simp [here, now]
    · have mem : c ∈ rest := (List.mem_cons.1 mem).resolve_left fun eq => here (by rw [← eq, seq])
      simpa [here] using ih mem

section
variable {s : State} {w : StoreWrite} {rest : List StoreWrite} (queue : s.store.queue = w :: rest) (item : w.item ≠ .enrolment)
  (free : s.underTest 9 = false) (due : w.retryAt.getD 0 ≤ s.now)
include queue item free due

theorem exec_configStoreWriteDone_true : exec (.configStoreWriteDone true) s = .next
    (match w.ticket with
      | some t => State.reply { s with store := { s.store.put w.item with queue := rest } } t
          (if w.since + 100 * msTicks < s.now then eTimeout else stOk) []
      | none => { s with store := { s.store.put w.item with queue := rest } }) := by
  have row : exec (.configStoreWriteDone true) s = execConfigStoreWriteDone true s := rfl
  have acts : ¬ (s.underTest 9 = true ∨ s.now < w.retryAt.getD 0 ∨ w.item = .enrolment) := by
    simp [free, item, due]
  simp only [row, execConfigStoreWriteDone, queue, acts, if_false, if_true] <;> rfl

theorem exec_configStoreWriteDone_false : exec (.configStoreWriteDone false) s = .next
    { s with store := { s.store with queue := { w with retryAt := some (s.now + secTicks) } :: rest } } := by
  have row : exec (.configStoreWriteDone false) s = execConfigStoreWriteDone false s := rfl
  have acts : ¬ (s.underTest 9 = true ∨ s.now < w.retryAt.getD 0 ∨ w.item = .enrolment) := by
    simp [free, item, due]
  simp only [row, execConfigStoreWriteDone, queue, acts, if_false, Bool.false_eq_true]

end

/-- Settles O21: the row at the head of the queue, and the walk over the writes that are late. -/
theorem configStoreWrites : Obligations.ConfigStoreWrites := by
  refine ⟨fun s w rest ok queue item => ?_, fun s gives => ?_, fun s w rest queue item free due => ⟨fun none => ?_,
    fun tk ses ticket op serial session cached => ?_, ?_⟩, fun s w tk ses alone queue ticket late op serial session cached => ?_,
    fun s alone early => ?_⟩
  · have row : exec (.configStoreWriteDone ok) s = execConfigStoreWriteDone ok s := rfl
    simp [row, execConfigStoreWriteDone, queue, item]
  · have row : exec .saveReplyTimeout s = execSaveReplyTimeout s := rfl
    simp [row, execSaveReplyTimeout, gives]
  · rw [exec_configStoreWriteDone_true queue item free due, none]
  · rw [exec_configStoreWriteDone_true queue item free due, ticket]
    refine ⟨_, rfl, replied_of_cached op serial session rfl cached, State.reply_quiet _ _ _ ?_⟩
    split <;> decide
  · exact exec_configStoreWriteDone_false queue item free due
  · have row : exec .saveReplyTimeout s = .next
        (State.reply { s with store := { s.store with queue := [{ w with ticket := none }] } } tk eTimeout []) := by
      have row : exec .saveReplyTimeout s = execSaveReplyTimeout s := rfl
      simp [row, execSaveReplyTimeout, alone, queue, ticket, late]
    exact ⟨_, row, replied_of_cached op serial session rfl cached, State.reply_quiet _ _ _ (by decide)⟩
  · have row : exec .saveReplyTimeout s = execSaveReplyTimeout s := rfl
    have notLate (w : StoreWrite) (mem : w ∈ s.store.queue) :
        (w.ticket.isSome && decide (w.since + 100 * msTicks ≤ s.now)) = false := by
      have := early w mem
      cases ticket : w.ticket with
      | none => rfl
      | some tk => simpa [ticket] using this
    have kept : s.store.queue.map (fun w => if (w.ticket.isSome && decide (w.since + 100 * msTicks ≤ s.now)) = true then
        { w with ticket := none } else w) = s.store.queue := by
      refine (List.map_congr_left fun w mem => ?_).trans (List.map_id _)
      rw [notLate w mem]
      rfl
    have noReply : (s.store.queue.filterMap fun w =>
        if (w.ticket.isSome && decide (w.since + 100 * msTicks ≤ s.now)) = true then w.ticket else none) = [] := by
      refine List.filterMap_eq_nil_iff.2 fun w mem => ?_
      rw [notLate w mem]
      rfl
    simp only [row, execSaveReplyTimeout, alone, Bool.false_eq_true, if_false, kept, noReply, List.foldl_nil]

end Sys2Proof.Machine
end

section
/-! PROOFS. The safety commands in a session, and SFP_STOP_N (R312 to R315, Table 5-7). -/

namespace Sys2Proof.Machine

section
variable {s : State} {h : Hdr} {c : Cmd} {ses : Session} (ok : Accepted s h c ses)
include ok

/-- A command whose effect ends in its reply, the sessions as they were, answers that reply. -/
theorem Accepted.answers {i : Instr} {u : State} {e : Nat} {b : Bytes} (row : exec i s = .next (s.serve h c)) (op : c.opcode ≠ 0x02)
    (effect : perform (s.ticket h c ses) c (s.accepted h) = u.reply (s.ticket h c ses) e b)
    (sessions : u.sessions = (s.accepted h).sessions) (now : u.now = s.now) :
    exec i s = .next (u.reply (s.ticket h c ses) e b) ∧ Replied s (u.reply (s.ticket h c ses) e b) h c.opcode e b := by
  refine ⟨row.trans (congrArg _ ?_), ok.replied op sessions now⟩
  rw [serve_accepted ok, effect, State.finish_calm (State.reply_keeps_calm (State.calm_of_sessions sessions ok.calm))]

end

/-- `OnlyMotion` says nothing of what taking a command and replying to it change. -/
theorem onlyMotion_accepted_reply {s u : State} {h : Hdr} (moved : OnlyMotion (s.accepted h) u) (t : Ticket) (e : Nat) (b : Bytes) :
    OnlyMotion s (u.reply t e b) := by
  simpa [OnlyMotion] using moved

/-- The axes as a safe stop of the accepted state leaves them. -/
theorem accepted_safeStopMask_axis (s : State) (h : Hdr) (mask cat : Byte) (n : Fin 8) {t : State}
    (after : t.axis n = ((s.accepted h).safeStopMask mask.toNat cat.toNat).axis n) :
    if mask.toNat.testBit n.val = true ∧ (s.axis n).st ≠ .disabled then
      (t.axis n).hold = true ∧ AxisStopped s t n (if cat = 3 then s.cfgStop n else stopCat cat.toNat) .safe 9
    else t.axis n = s.axis n := by
  have same : (s.accepted h).axis n = s.axis n := by simp only [State.axis, State.accepted_axes]
  have category : (s.accepted h).cfgStop n = s.cfgStop n := by simp only [State.cfgStop, State.accepted_safety]
  have three : (cat = 3) = (cat.toNat = 3) := propext (BitVec.toNat_inj (y := 3#8)).symm
  have stops := (s.accepted h).safeStopMask_axis mask.toNat cat.toNat n
  simp only [same, category, ← after] at stops
  simp only [three]
  split
  next hit =>
    rw [if_pos hit] at stops
    exact ⟨stops.1, stops.2.of_eq (s.accepted_now h) (by rw [same]) (by rw [same]) after.symm⟩
  next miss => rwa [if_neg miss] at stops

/-! ### SAFE_RELEASE -/

/-- The holds of a mask are lifted. -/
def State.liftHolds (s : State) (mask : Nat) : State :=
  forAll s fun s (n : Fin 8) => if mask.testBit n.val then s.updAxis n fun a => { a with hold := false } else s

theorem State.liftOne_touches (mask : Nat) (s : State) (n : Fin 8) :
    TouchesAxes {n} s (if mask.testBit n.val then s.updAxis n fun a => { a with hold := false } else s) := by
  split
  · exact s.updAxis_touches n _
  · exact .refl _ s

theorem State.liftHolds_touches (s : State) (mask : Nat) : TouchesAxes Set.univ s (s.liftHolds mask) :=
  TouchesAxes.foldl (fun s n => (State.liftOne_touches mask s n).mono (Set.subset_univ _)) _ s

theorem State.liftHolds_axis (s : State) (mask : Nat) (n : Fin 8) :
    (s.liftHolds mask).axis n = { s.axis n with hold := (s.axis n).hold && !mask.testBit n.val } := by
  obtain ⟨u, before, after⟩ := forAll_axis (State.liftOne_touches mask) s n
  have same : u.axis n = s.axis n := before.2 n fun out => out rfl
  rw [State.liftHolds, after]
  split
  · next hit => simp [hit, same]
  · next miss => simp [miss, same]

/-- The state a SAFE_RELEASE replies from. -/
def State.safeReleased (s : State) (mask : Nat) : State :=
  let t := s.liftHolds mask
  State.safeEvent { t with safety := { t.safety with sfpLoss := false } } 4 mask

theorem State.safeReleased_sessions (s : State) (mask : Nat) : (s.safeReleased mask).sessions = s.sessions := by
  rw [State.safeReleased, State.safeEvent_sessions]
  exact forAll_sessions _ _ fun s n => by split <;> rfl

theorem State.safeReleased_now (s : State) (mask : Nat) : (s.safeReleased mask).now = s.now := by
  rw [State.safeReleased, State.safeEvent_now]
  exact (s.liftHolds_touches mask).now_eq

/-! ### SFP_STOP_N -/

/-- The fall of SFP_STOP_N stops and holds one axis by its configured category. -/
def State.fallStop (s : State) (n : Fin 8) : State :=
  ((s.updAxis n fun a => { a with hold := true }).axisStop n (s.cfgStop n) .safe 9).1

theorem State.fallStop_touches (s : State) (n : Fin 8) : TouchesAxes {n} s (s.fallStop n) := (s.heldStop_axis n _ _ _).1

theorem State.forAll_fallStop_touches (s : State) : TouchesAxes Set.univ s (forAll s State.fallStop) :=
  TouchesAxes.foldl (fun s n => (s.fallStop_touches n).mono (Set.subset_univ _)) _ s

theorem State.forAll_fallStop_axis (s : State) (n : Fin 8) :
    ((forAll s State.fallStop).axis n).hold = true ∧ AxisStopped s (forAll s State.fallStop) n (s.cfgStop n) .safe 9 := by
  obtain ⟨u, before, after⟩ := forAll_axis State.fallStop_touches s n
  have same : u.axis n = s.axis n := before.2 n fun out => out rfl
  have category : u.cfgStop n = s.cfgStop n := by simp only [State.cfgStop, before.safety_eq]
  obtain ⟨-, held, stopped⟩ := u.heldStop_axis n (u.cfgStop n) .safe 9
  refine ⟨by rw [after]; exact held, ?_⟩
  rw [← category]
  exact stopped.of_eq before.now_eq (by rw [same]) (by rw [same]) after.symm

/-- What the fall of SFP_STOP_N records, `t` the state its stops leave of `s` (R312, R313). -/
def State.fallRecord (s t : State) : Safety :=
  let s1 := s.updNet fun x => { x with stopN := false }
  let on (x : State) : Nat := ((bankList x.axes).map fun y => (y.2.gates.level.toList.filter id).length).sum
  let off := (bankList s1.axes).any fun x =>
    (List.finRange 6).any fun i => x.2.gates.level.get i && !(t.axis x.1).gates.level.get i
  { t.safety with
    falls := satInc 65535 t.safety.falls,
    stopResp := if off then min 2000 (Config.stopResponse (s.now + on s1)) else t.safety.stopResp }

/-- The state after the fall, `t` the state its stops leave of `s`. -/
def State.fallen (s t : State) : State := State.safeEvent { t with safety := s.fallRecord t } 1 0xFF

theorem exec_sfpStopNFall {s : State} (up : s.net.stopN = true) (run : s.boot.step ≠ .held) :
    exec .sfpStopNFall s =
      .next (s.fallen (forAll (s.updNet fun x => { x with stopN := false }) State.fallStop)) := by
  have row : exec .sfpStopNFall s = execSfpStopNFall s := rfl
  have each : State.fallStop = fun s n => ((s.updAxis n fun a => { a with hold := true }).axisStop n (s.cfgStop n) .safe 9).1 := rfl
  rw [row, execSfpStopNFall, if_pos up, if_neg run]
  unfold State.fallen State.fallRecord
  rw [each]

theorem State.fallen_axis (s t : State) (n : Fin 8) : (s.fallen t).axis n = t.axis n := by
  simp only [State.axis, State.fallen, State.safeEvent, State.raiseAll_axes]

theorem TouchesAxes.net_eq {A : Set (Fin 8)} {s t : State} (h : TouchesAxes A s t) : t.net = s.net := by rw [h.1]

/-- Settles O30: the stops by what a stop makes of one axis, the release by the holds it lifts. -/
theorem safetyRowsAct : Obligations.SafetyRowsAct := by
  refine ⟨fun s h ses mask cat ok => ?stop, fun s h ses mask ok => ?release, fun s h ses ok => ?status, fun s up run => ?fall,
    fun s low run => ?rise⟩
  case stop =>
    split
    · next wrong => exact ok.completes_reply rfl (by simp [Cmd.opcode]) (by decide) (if_pos wrong)
    · next fits =>
      obtain ⟨row, replied⟩ := ok.answers (i := .safeStop h mask cat) rfl (by simp [Cmd.opcode])
        (doSafeStop_eq_reply _ mask cat _ (by omega)) (State.safeStopped_sessions _ _ _)
        (by rw [State.safeStopped, State.safeEvent_now]; exact ((s.accepted h).safeStopMask_touches _ _).now_eq.trans (s.accepted_now h))
      refine ⟨_, row, replied, onlyMotion_accepted_reply (State.safeStopped_onlyMotion _ _ _) _ _ _, ?_, ?_, fun n => ?_⟩
      · rw [State.reply_safety, State.safeStopped_safety, State.accepted_safety]
      · rw [State.reply_safety, State.safeStopped_safety, State.accepted_safety]
      · refine accepted_safeStopMask_axis s h mask cat n ?_
        rw [State.axis, State.reply_axes]
        exact State.safeStopped_axis _ _ _ n
  case release =>
    have bars : (¬ (s.accepted h).net.stopN = true ∨ (s.accepted h).safety.thermal = true ∨ (s.accepted h).safety.clock = true ∨
        (s.accepted h).net.sfpLossAt = some (s.accepted h).now) ↔
        (s.net.stopN = false ∨ s.safety.thermal = true ∨ s.safety.clock = true ∨ s.net.sfpLossAt = some s.now) := by
      rw [ok.reads (·.net.stopN) fun _ => rfl, ok.reads (·.net.sfpLossAt) fun _ => rfl, State.accepted_safety, State.accepted_now]
      simp
    split
    · next held => exact ok.completes_reply rfl (by simp [Cmd.opcode]) (by decide) (if_pos (bars.2 held))
    · next free =>
      obtain ⟨row, replied⟩ := ok.answers (i := .safeRelease h mask) (u := (s.accepted h).safeReleased mask.toNat) rfl
        (by simp [Cmd.opcode]) (if_neg fun held => free (bars.1 held)) (State.safeReleased_sessions _ _)
        ((State.safeReleased_now _ _).trans (s.accepted_now h))
      have moved : OnlyMotion (s.accepted h) ((s.accepted h).safeReleased mask.toNat) := by
        simpa [OnlyMotion, State.safeReleased, State.safeEvent] using ((s.accepted h).liftHolds_touches mask.toNat).onlyMotion
      refine ⟨_, row, replied, onlyMotion_accepted_reply moved _ _ _, ?_, fun n => ?_⟩
      · rw [State.reply_safety, State.safeReleased, State.safeEvent, State.raiseAll_safety]
      · have same : (s.accepted h).axis n = s.axis n := by simp only [State.axis, State.accepted_axes]
        rw [← same, ← State.liftHolds_axis, State.axis, State.reply_axes, State.safeReleased, State.safeEvent, State.raiseAll_axes]
        rfl
  case status =>
    have said := ok.reads (fun u => le 1 u.holdMask ++ le 1 u.stoppedMask ++ le 1 u.safeFlags ++ zeros 1 ++ le 2 u.safety.falls
      ++ le 2 u.safety.safeStops ++ le 2 u.safety.stopResp ++ zeros 6) fun _ => rfl
    refine ok.completes_reply rfl (by simp [Cmd.opcode]) (by decide) ?_
    rw [← said]
    rfl
  case fall =>
    have row := exec_sfpStopNFall up run
    have touches := (s.updNet fun x => { x with stopN := false }).forAll_fallStop_touches
    have axes := (s.updNet fun x => { x with stopN := false }).forAll_fallStop_axis
    generalize forAll (s.updNet fun x => { x with stopN := false }) State.fallStop = u at row touches axes
    refine ⟨_, row, ?_, ?_, ?_, ?_, ?_, fun n => ?_⟩
    · rw [State.fallen, State.safeEvent, State.raiseAll_net]
      exact congrArg Net.stopN touches.net_eq
    · rw [State.fallen, State.safeEvent, State.raiseAll_safety]
      show satInc 65535 u.safety.falls = _
      rw [touches.safety_eq]
      rfl
    · rw [State.fallen, State.safeEvent, State.raiseAll_safety]
      show u.safety.stopCat = _
      rw [touches.safety_eq]
      rfl
    · simpa [OnlyMotion, State.fallen, State.safeEvent] using touches.onlyMotion
    · rw [State.fallen, State.safeEvent, State.raiseAll_out]
      exact touches.out_eq
    · rw [State.fallen_axis]
      exact ⟨(axes n).1, (axes n).2.of_eq rfl rfl rfl (State.fallen_axis _ _ _).symm⟩
  case rise =>
    have row : exec .sfpStopNRise s = .next ((s.updNet fun x => { x with stopN := true }).safeEvent 2 0xFF) := by
      have row : exec .sfpStopNRise s = execSfpStopNRise s := rfl
      simp [row, execSfpStopNRise, low, run]
    refine ⟨_, row, ?_, ?_, ?_, ?_⟩
    · rw [State.safeEvent, State.raiseAll_net]
      rfl
    · rw [State.safeEvent, State.raiseAll_axes]
      rfl
    · rw [State.safeEvent, State.raiseAll_safety]
      rfl
    · simp [State.safeEvent, OnlyMotion]

end Sys2Proof.Machine
end

section
/-! PROOFS. AXIS_CONFIG, AXIS_ENABLE, AXIS_COMMAND, AXIS_STOP and AXIS_STATUS (R307, R310 to R312, R314, R318, R319). -/

namespace Sys2Proof.Machine

theorem State.accepted_axis (s : State) (h : Hdr) (n : Fin 8) : (s.accepted h).axis n = s.axis n := by
  simp only [State.axis, State.accepted_axes]

theorem State.ticket_axisOf (s : State) (h : Hdr) (c : Cmd) (ses : Session) : axisOf (s.ticket h c ses).hdr = axisOf h := rfl

theorem State.reply_axis (s : State) (t : Ticket) (e : Nat) (b : Bytes) (n : Fin 8) : (s.reply t e b).axis n = s.axis n := by
  simp only [State.axis, State.reply_axes]

/-- What touches one axis only leaves the other axes and everything else. -/
theorem TouchesAxes.onlyAxis {s t : State} {n : Fin 8} (h : TouchesAxes {n} s t) : OnlyAxis s t n := by
  refine ⟨fun m ne => h.2 m ne, ?_⟩
  rw [h.1]
  and_intros
  · exact fun _ _ => rfl
  all_goals rfl

/-- `OnlyAxis` says nothing of what taking a command and replying to it change. -/
theorem onlyAxis_accepted_reply {s u : State} {h : Hdr} {n : Fin 8} (moved : OnlyAxis (s.accepted h) u n) (t : Ticket) (e : Nat)
    (b : Bytes) : OnlyAxis s (u.reply t e b) n := by
  simpa [OnlyAxis, State.reply_axis, State.accepted_axis] using moved

section
variable {s : State} {h : Hdr} {c : Cmd} {ses : Session} (ok : Accepted s h c ses)
include ok

/-- A command that touches one axis and replies: what the row leaves of the axis is what the effect leaves. -/
theorem Accepted.answersAxis {i : Instr} {u : State} {n : Fin 8} {e : Nat} {b : Bytes} (row : exec i s = .next (s.serve h c))
    (op : c.opcode ≠ 0x02) (effect : perform (s.ticket h c ses) c (s.accepted h) = u.reply (s.ticket h c ses) e b)
    (touches : TouchesAxes {n} (s.accepted h) u) (sessions : u.sessions = (s.accepted h).sessions) :
    ∃ t, exec i s = .next t ∧ Replied s t h c.opcode e b ∧ OnlyAxis s t n ∧ t.axis n = u.axis n := by
  obtain ⟨row, replied⟩ := ok.answers row op effect sessions (touches.now_eq.trans (s.accepted_now h))
  exact ⟨_, row, replied, onlyAxis_accepted_reply touches.onlyAxis _ _ _, State.reply_axis _ _ _ _ n⟩

end

/-! ### AXIS_CONFIG -/

/-- What AXIS_CONFIG sets of its axis and prepares of its timer. -/
def State.axisConfigured (p : AxisCfgP) (n : Fin 8) (s : State) : State :=
  (s.updAxis n fun a => { a with cfg := some (axCfgOf p), clamped := false }).updTimer (axTimer n) fun t =>
    { t with mode := bankSet t.mode 0 1, pol := bankSet t.pol 0 false }.writePreload s.d02 fun x =>
      { x with pre := 0, top := pwmTop p.pwmHz.toNat }

theorem axisConfig_completes {s : State} {h : Hdr} {ses : Session} {p : AxisCfgP} (ok : Accepted s h (.axisConfig p) ses) :
    if (axCfgOf p).ok = false then Completes (.axisConfig h p) s h 0x40 eParam [] s
    else if (s.axis (axisOf h)).st = .disabled ∨ (s.axis (axisOf h)).st = .stoppedSafe then
      Completes (.axisConfig h p) s h 0x40 stOk [] (s.axisConfigured p (axisOf h))
    else Completes (.axisConfig h p) s h 0x40 eState [] s := by
  have same := s.accepted_axis h (axisOf h)
  split
  · next wrong => exact ok.completes_reply rfl (by simp [Cmd.opcode]) (by decide) (if_pos (by simp [wrong]))
  · next fits =>
    rw [Bool.not_eq_false] at fits
    have effect : ∀ t : Ticket, axisOf t.hdr = axisOf h → doAxisConfig t p (s.accepted h) =
        if (s.axis (axisOf h)).st = .disabled ∨ (s.axis (axisOf h)).st = .stoppedSafe then
          ((s.accepted h).axisConfigured p (axisOf h)).reply t stOk []
        else (s.accepted h).reply t eState [] := by
      intro t named
      rw [doAxisConfig, if_neg (by simp [fits]), named, same]
      rfl
    split
    · next rest =>
      exact ok.completes_effect rfl (by simp [Cmd.opcode]) uncounted_ok _ ((effect _ rfl).trans (if_pos rest)) rfl rfl fun _ => rfl
    · next moves =>
      exact ok.completes_reply rfl (by simp [Cmd.opcode]) (by decide) ((effect _ rfl).trans (if_neg moves))

/-! ### AXIS_ENABLE -/

theorem axisEnable_gives_way {s : State} {h : Hdr} {en : Byte} {re : Bool} (ends : s.coreEnds (coreOf (axisOf h)) = true) :
    exec (.axisEnable h en re) s = .next (s.putOff (.axisEnable h en re)) := by
  have row : exec (.axisEnable h en re) s = execAxisEnable h en re s := rfl
  rw [row, execAxisEnable]
  exact congrArg _ (if_pos ends)

/-- An axis as AXIS_ENABLE begins its zeroing (R307), its gates apart. -/
def Axis.beginZero (now : Nat) (realign : Bool) (a : Axis) : Axis :=
  { a with zeroFrom := some now, realign := realign, lastStop := none, clamped := false, commSince := 0,
           cmd := ⟨0, 0, 1, 1⟩, cmdNext := none, spdCmd := 0, curInt := 0, spdInt := 0, injAcc := 0, injSign := false,
           firstSample := true, agree := 0, obsSrc := false, seed := none,
           nets := a.nets.map fun x => x.map fun y =>
             { y with fresh := true, missRun := 0, bound := Vector.replicate 4 0 } }

/-- The state AXIS_ENABLE with EN 1 replies from. -/
def State.zeroed (s : State) (n : Fin 8) (realign : Bool) : State :=
  ((s.updAxis n (Axis.beginZero s.now realign)).drivePattern n .off).repin

/-- The state AXIS_ENABLE with EN 0 replies from, of an axis in STOPPED_SAFE. -/
def State.restDisabled (s : State) (n : Fin 8) : State :=
  ((s.updAxis n fun a => { a with zeroFrom := none }).drivePattern n .off).enterAx n .disabled 1

theorem State.drivePattern_touches (s : State) (n : Fin 8) (p : Pattern) : TouchesAxes {n} s (s.drivePattern n p) :=
  s.updAxis_touches n _

theorem State.zeroed_touches (s : State) (n : Fin 8) (realign : Bool) : TouchesAxes {n} s (s.zeroed n realign) :=
  ((s.updAxis_touches n _).trans (State.drivePattern_touches _ n _)).trans (State.repin_touches _).of_none

theorem State.restDisabled_touches (s : State) (n : Fin 8) : TouchesAxes {n} s (s.restDisabled n) :=
  ((s.updAxis_touches n _).trans (State.drivePattern_touches _ n _)).trans (State.enterAx_touches _ n _ _)

theorem Axis.beginZero_nets {now : Nat} {re : Bool} {a : Axis} {k : Fin 3} {x : ObsNet}
    (at_ : (a.beginZero now re).nets.get k = some x) : x.fresh = true ∧ x.missRun = 0 := by
  simp only [Axis.beginZero, Vector.get_eq_getElem, Vector.getElem_map, Option.map_eq_some_iff] at at_
  obtain ⟨y, -, rfl⟩ := at_
  exact ⟨rfl, rfl⟩

/-- Without an attempt ending on its core AXIS_ENABLE is served at once (Table 16-12). -/
theorem axisEnable_row {s : State} {h : Hdr} {en : Byte} {re : Bool} (clear : s.coreEnds (coreOf (axisOf h)) = false) :
    exec (.axisEnable h en re) s = .next (s.serve h (.axisEnable en re)) := by
  have row : exec (.axisEnable h en re) s = execAxisEnable h en re s := rfl
  rw [row, execAxisEnable]
  exact congrArg _ (if_neg (Bool.eq_false_iff.1 clear))

/-- AXIS_ENABLE with EN 1 outside a test, by the hold, the state and the core. -/
theorem doAxisEnable_on {s : State} {t : Ticket} {n : Fin 8} {re : Bool} (named : axisOf t.hdr = n)
    (free : (s.test.axis.get n).running = false) :
    doAxisEnable t 1 re s =
      let a := s.axis n
      if a.hold then s.reply t eSafeHeld []
      else if ¬ (a.st = .disabled ∨ a.st = .stoppedSafe) ∨ a.cfg.isNone then s.reply t eState []
      else if a.netted ∧ s.pinStatus n ≠ stOk then s.reply t (s.pinStatus n) []
      else (s.zeroed n re).reply t stOk [] := by
  subst named
  unfold doAxisEnable
  rw [if_neg (by decide), if_neg (by simp [free]), if_pos rfl]
  rfl

/-- AXIS_ENABLE with EN 0 outside a test, by the state. -/
theorem doAxisEnable_off {s : State} {t : Ticket} {n : Fin 8} {re : Bool} (named : axisOf t.hdr = n)
    (free : (s.test.axis.get n).running = false) :
    doAxisEnable t 0 re s =
      match (s.axis n).st with
      | .disabled => s.reply t stOk []
      | .stoppedSafe => (s.restDisabled n).reply t stOk []
      | .fault => if (s.axis n).faultGone s.now then (s.enterAx n .disabled 1).reply t stOk [] else s.reply t eState []
      | _ => s.reply t eState [] := by
  subst named
  unfold doAxisEnable
  rw [if_neg (by decide), if_neg (by simp [free]), if_neg (by decide)]
  rfl

/-- Settles O24: the branches of AXIS_CONFIG and of AXIS_ENABLE. -/
theorem axisConfigAndEnableAct : Obligations.AxisConfigAndEnableAct := by
  refine ⟨fun s h ses p ok => axisConfig_completes ok, fun s h en re ends => axisEnable_gives_way ends,
    fun s h ses en re ok free clear => ?_⟩
  have row := axisEnable_row (en := en) (re := re) clear
  have same := s.accepted_axis h (axisOf h)
  have now := s.accepted_now h
  have free' : ((s.accepted h).test.axis.get (axisOf h)).running = false :=
    (ok.reads (fun u => (u.test.axis.get (axisOf h)).running) fun _ => rfl).trans free
  have pin := ok.reads (·.pinStatus (axisOf h)) fun _ => rfl
  have on := doAxisEnable_on (re := re) (s.ticket_axisOf h (.axisEnable en re) ses) free'
  have off := doAxisEnable_off (re := re) (s.ticket_axisOf h (.axisEnable en re) ses) free'
  simp only [same, pin, now] at on off
  refine ⟨?held, ?zero, ?stays, ?rest, ?moves⟩
  case held =>
    rintro rfl hold
    exact ok.completes_reply row (by simp [Cmd.opcode]) (by decide) (on.trans (if_pos hold))
  case zero =>
    rintro rfl hold rest cfg pinned
    have some_ : (s.axis (axisOf h)).cfg.isNone = false := Option.isNone_eq_false_iff.2 (Option.isSome_iff_ne_none.2 cfg)
    have effect := on.trans ((if_neg (by simp [hold])).trans ((if_neg (by simp [rest, some_])).trans
      (if_neg fun bad => bad.2 (pinned bad.1))))
    obtain ⟨t, run, replied, only, axis⟩ := ok.answersAxis row (by simp [Cmd.opcode]) effect (State.zeroed_touches _ _ _)
      (by simp [State.zeroed])
    refine ⟨t, run, replied, only, ?_⟩
    simp only [axis, State.zeroed, State.repin_axis, State.drivePattern_axis_self, State.updAxis_axis_self, same, now]
    exact ⟨rfl, rfl, rfl, rfl, fun i => Gates.apply_off_level _ _ _ _ i, rfl, rfl, rfl, hold, fun k x => Axis.beginZero_nets⟩
  case stays =>
    rintro rfl st
    simp only [st] at off
    exact ok.completes_reply row (by simp [Cmd.opcode]) (by decide) off
  case rest =>
    rintro rfl (st | ⟨st, gone⟩)
    · simp only [st] at off
      obtain ⟨t, run, replied, only, axis⟩ := ok.answersAxis row (by simp [Cmd.opcode]) off (State.restDisabled_touches _ _) (by simp [State.restDisabled])
      refine ⟨t, run, replied, only, ?_⟩
      simp only [axis, State.restDisabled, State.enterAx_axis_self, State.drivePattern_axis_self, State.updAxis_axis_self, same,
        and_self]
    · simp only [st, gone, if_true] at off
      obtain ⟨t, run, replied, only, axis⟩ := ok.answersAxis row (by simp [Cmd.opcode]) off (State.enterAx_touches _ _ _ _) (by simp)
      refine ⟨t, run, replied, only, ?_⟩
      simp only [axis, State.enterAx_axis_self, same, and_self]
  case moves =>
    rintro rfl (run | ⟨st, stands⟩)
    · refine ok.completes_reply row (by simp [Cmd.opcode]) (by decide) (off.trans ?_)
      cases st : (s.axis (axisOf h)).st <;> simp_all [AxSt.enabled]
    · simp only [st, stands, Bool.false_eq_true, if_false] at off
      exact ok.completes_reply row (by simp [Cmd.opcode]) (by decide) off

/-! ### AXIS_COMMAND -/

/-- The fields of an AXIS_COMMAND lie in range (Table 16-8), as a proposition. -/
theorem axisCommandFits_iff (p : AxisCmdP) (cfg : Option AxCfg) :
    axisCommandFits p cfg = true ↔ p.mode.toNat ≤ 1 ∧ 1 ≤ p.iLimit.toNat ∧ 1 ≤ p.spdLimit.toNat ∧
      ∀ c, cfg = some c → p.setpoint.toInt.natAbs ≤ (if p.mode = 0 then c.iMax else c.spdMax) ∧ p.iLimit.toNat ≤ c.iMax ∧
        p.spdLimit.toNat ≤ c.spdMax := by
  cases cfg <;> simp [axisCommandFits, and_assoc]

/-- A running axis that neither stops nor lost its motor. -/
theorem AxSt.takesCommand_iff (x : AxSt) :
    ¬ (¬ x.enabled = true ∨ x = .stopping ∨ x = .lost) ↔ x = .align ∨ x = .runHfi ∨ x = .couch ∨ x = .runObs := by
  cases x <;> decide

/-- An AXIS_COMMAND waits for the next valley. -/
def State.storeCommand (p : AxisCmdP) (n : Fin 8) (s : State) : State :=
  s.updAxis n fun a => { a with cmdNext := some ⟨p.mode.toNat, p.setpoint.toInt, p.iLimit.toNat, p.spdLimit.toNat⟩ }

section
variable {s : State} {h : Hdr} {ses : Session}

theorem axisCommand_refused {p : AxisCmdP} (ok : Accepted s h (.axisCommand p) ses)
    (wrong : ¬ axisCommandFits p (s.axis (axisOf h)).cfg = true) : Completes (.axisCommand h p) s h 0x42 eParam [] s := by
  rw [← s.accepted_axis h] at wrong
  exact ok.completes_reply rfl (by simp [Cmd.opcode]) (by decide) (if_pos wrong)

theorem axisCommand_completes {p : AxisCmdP} (ok : Accepted s h (.axisCommand p) ses)
    (fits : axisCommandFits p (s.axis (axisOf h)).cfg = true) :
    let a := s.axis (axisOf h)
    if a.hold = true then Completes (.axisCommand h p) s h 0x42 eSafeHeld [] s
    else if a.st = .align ∨ a.st = .runHfi ∨ a.st = .couch ∨ a.st = .runObs then
      Completes (.axisCommand h p) s h 0x42 stOk [] (s.storeCommand p (axisOf h))
    else Completes (.axisCommand h p) s h 0x42 eState [] s := by
  intro a
  have same : (s.accepted h).axis (axisOf h) = a := s.accepted_axis h (axisOf h)
  have effect : ∀ t : Ticket, axisOf t.hdr = axisOf h → doAxisCommand t p (s.accepted h) =
      if a.hold then (s.accepted h).reply t eSafeHeld []
      else if ¬ a.st.enabled ∨ a.st = .stopping ∨ a.st = .lost then (s.accepted h).reply t eState []
      else ((s.accepted h).storeCommand p (axisOf h)).reply t stOk [] := by
    intro t named
    rw [doAxisCommand, named, same, if_neg (not_not.2 fits)]
    rfl
  replace effect := effect _ (s.ticket_axisOf h (.axisCommand p) ses)
  split
  · next hold => exact ok.completes_reply rfl (by simp [Cmd.opcode]) (by decide) (effect.trans (if_pos hold))
  · next lifted =>
    replace effect := effect.trans (if_neg lifted)
    split
    · next runs =>
      exact ok.completes_effect rfl (by simp [Cmd.opcode]) uncounted_ok _ (effect.trans (if_neg (a.st.takesCommand_iff.2 runs))) rfl
        rfl fun _ => rfl
    · next rests =>
      exact ok.completes_reply rfl (by simp [Cmd.opcode]) (by decide)
        (effect.trans (if_pos (not_not.1 fun runs => rests (a.st.takesCommand_iff.1 runs))))

/-! ### AXIS_STOP -/

/-- A stop of an axis succeeds but for an axis in FAULT and a stop in progress that does not give way. -/
theorem State.axisStop_accepted (s : State) (n : Fin 8) (cat : StopCat) (kind : StopKind) (cause : Nat) :
    (s.axisStop n cat kind cause).2 =
      match (s.axis n).st with
      | .fault => false
      | .stopping => s.stopGivesWay n cat kind
      | _ => true := by
  unfold State.stopGivesWay
  cases st : (s.axis n).st <;> simp only [State.axisStop, st]
  case stopping =>
    cases (s.axis n).stop with
    | none => rfl
    | some old =>
      simp only [Option.all_some]
      split
      · next takes => exact takes.symm
      · next stands => exact (Bool.eq_false_iff.2 stands).symm
  all_goals split <;> rfl

/-- An AXIS_STOP replaces a ramp stop and no other (Table 16-12). -/
theorem stopTakes_command (now : Nat) (c : StopCat) (old : StopRec) : stopTakes now c .command old = decide (old.cat = .ramp) := by
  unfold stopTakes
  split <;> simp_all

theorem doAxisStop_moves {s : State} {t : Ticket} {n : Fin 8} {cat : Byte} (named : axisOf t.hdr = n) (fits : cat.toNat ≤ 2)
    (moves : ¬ ((s.axis n).st = .disabled ∨ (s.axis n).st = .stoppedSafe)) :
    doAxisStop t cat s =
      if (s.axisStop n (stopCat cat.toNat) .command 8).2 then
        (s.axisStop n (stopCat cat.toNat) .command 8).1.reply t stOk []
      else s.reply t eState [] := by
  subst named
  rw [doAxisStop, if_neg (by omega), if_neg moves]

theorem axisStop_taken {cat : Byte} (ok : Accepted s h (.axisStop cat) ses) (fits : cat.toNat ≤ 2)
    (moves : ¬ ((s.axis (axisOf h)).st = .disabled ∨ (s.axis (axisOf h)).st = .stoppedSafe))
    (taken : ((s.accepted h).axisStop (axisOf h) (stopCat cat.toNat) .command 8).2 = true) :
    ∃ t, exec (.axisStop h cat) s = .next t ∧ Replied s t h 0x43 stOk [] ∧ OnlyAxis s t (axisOf h) ∧
      AxisStopped s t (axisOf h) (stopCat cat.toNat) .command 8 := by
  have same := s.accepted_axis h (axisOf h)
  rw [← same] at moves
  have effect := (doAxisStop_moves (s.ticket_axisOf h (.axisStop cat) ses) fits moves).trans (if_pos taken)
  obtain ⟨t, run, replied, only, axis⟩ := ok.answersAxis (i := .axisStop h cat) rfl (by simp [Cmd.opcode]) effect
    (State.axisStop_touches _ _ _ _ _) (State.axisStop_sessions _ _ _ _ _)
  exact ⟨t, run, replied, only,
    (State.axisStop_stops _ _ _ _ _).of_eq (s.accepted_now h) (by rw [same]) (by rw [same]) axis.symm⟩

theorem axisStop_refused {cat : Byte} (ok : Accepted s h (.axisStop cat) ses) (fits : cat.toNat ≤ 2)
    (moves : ¬ ((s.axis (axisOf h)).st = .disabled ∨ (s.axis (axisOf h)).st = .stoppedSafe))
    (refused : ((s.accepted h).axisStop (axisOf h) (stopCat cat.toNat) .command 8).2 = false) :
    Completes (.axisStop h cat) s h 0x43 eState [] s := by
  rw [← s.accepted_axis h] at moves
  exact ok.completes_reply rfl (by simp [Cmd.opcode]) (by decide)
    ((doAxisStop_moves (s.ticket_axisOf h (.axisStop cat) ses) fits moves).trans (if_neg (by simp [refused])))

theorem axisStop_atRest_completes {cat : Byte} (ok : Accepted s h (.axisStop cat) ses) (fits : cat.toNat ≤ 2)
    (rest : (s.axis (axisOf h)).st = .disabled ∨ (s.axis (axisOf h)).st = .stoppedSafe) :
    Completes (.axisStop h cat) s h 0x43 stOk [] s := by
  rw [← s.accepted_axis h] at rest
  exact ok.completes_reply rfl (by simp [Cmd.opcode]) uncounted_ok ((if_neg (by omega)).trans (if_pos rest))

/-- The category an AXIS_STOP names. -/
theorem stopCat_eq (cat : Byte) :
    (cat = 0 → stopCat cat.toNat = .ramp) ∧ (cat = 1 → stopCat cat.toNat = .freewheel) ∧ (cat = 2 → stopCat cat.toNat = .short) := by
  refine ⟨?_, ?_, ?_⟩ <;> rintro rfl <;> rfl

theorem axisStop_fault_refused {cat : Byte} (ok : Accepted s h (.axisStop cat) ses) (fits : cat.toNat ≤ 2)
    (st : (s.axis (axisOf h)).st = .fault) : Completes (.axisStop h cat) s h 0x43 eState [] s := by
  refine axisStop_refused ok fits (by simp [st]) ?_
  rw [State.axisStop_accepted, s.accepted_axis h, st]

/-- AXIS_STOP of an axis in STOPPING replaces a ramp stop and no other. -/
theorem axisStop_stopping_acts {cat : Byte} (ok : Accepted s h (.axisStop cat) ses) (fits : cat.toNat ≤ 2) {old : StopRec}
    (st : (s.axis (axisOf h)).st = .stopping) (inProgress : (s.axis (axisOf h)).stop = some old) :
    if old.cat = .ramp then
      ∃ t, exec (.axisStop h cat) s = .next t ∧ Replied s t h 0x43 stOk [] ∧ OnlyAxis s t (axisOf h) ∧
        (t.axis (axisOf h)).st = .stopping ∧ (t.axis (axisOf h)).stop = some ⟨stopCat cat.toNat, .command, s.now⟩
    else Completes (.axisStop h cat) s h 0x43 eState [] s := by
  have taken : ((s.accepted h).axisStop (axisOf h) (stopCat cat.toNat) .command 8).2 = decide (old.cat = .ramp) := by
    rw [State.axisStop_accepted, s.accepted_axis h, st]
    simp only [State.stopGivesWay, s.accepted_axis h, inProgress, Option.all_some, stopTakes_command]
  split
  · next yields =>
    obtain ⟨t, run, replied, only, stopped⟩ := axisStop_taken ok fits (by simp [st]) (taken.trans (decide_eq_true yields))
    simp only [AxisStopped, st] at stopped
    obtain ⟨stopping, stop⟩ := stopped
    refine ⟨t, run, replied, only, stopping, (stop old inProgress).trans (if_pos ?_)⟩
    rw [stopTakes_command, decide_eq_true yields]
  · next stands => exact axisStop_refused ok fits (by simp [st]) (taken.trans (decide_eq_false stands))

/-- What a stop makes of a running axis. -/
theorem AxisStopped.of_running {s t : State} {n : Fin 8} {c : StopCat} {kind : StopKind} {cause : Nat}
    (stopped : AxisStopped s t n c kind cause) (run : (s.axis n).st.enabled = true) (moves : (s.axis n).st ≠ .stopping) :
    (t.axis n).st = .stopping ∧ (t.axis n).cause = cause ∧ (t.axis n).stop = some ⟨c, kind, s.now⟩ ∧
      (c = .freewheel → ∀ i, (t.axis n).gates.level.get i = false) ∧ (c = .short → (t.axis n).gates.pattern = .short) ∧
      (c = .ramp → (t.axis n).cmd.setpoint = 0) := by
  cases st : (s.axis n).st <;> simp_all [AxisStopped, AxSt.enabled]

/-- AXIS_STOP of a running axis begins its category. -/
theorem axisStop_running_acts {cat : Byte} (ok : Accepted s h (.axisStop cat) ses) (fits : cat.toNat ≤ 2)
    (run : (s.axis (axisOf h)).st.enabled = true) (moves : (s.axis (axisOf h)).st ≠ .stopping) :
    let n := axisOf h
    ∃ t, exec (.axisStop h cat) s = .next t ∧ Replied s t h 0x43 stOk [] ∧ OnlyAxis s t n ∧ (t.axis n).st = .stopping ∧
      (t.axis n).cause = 8 ∧ (t.axis n).stop = some ⟨stopCat cat.toNat, .command, s.now⟩ ∧
      (cat = 0 → (t.axis n).cmd.setpoint = 0) ∧
      (cat = 1 → ∀ i, (t.axis n).gates.level.get i = false) ∧ (cat = 2 → (t.axis n).gates.pattern = .short) := by
  have taken : ((s.accepted h).axisStop (axisOf h) (stopCat cat.toNat) .command 8).2 = true := by
    rw [State.axisStop_accepted, s.accepted_axis h]
    revert run moves
    cases (s.axis (axisOf h)).st <;> simp [AxSt.enabled]
  have not_rest : ¬ ((s.axis (axisOf h)).st = .disabled ∨ (s.axis (axisOf h)).st = .stoppedSafe) := by
    rintro (st | st) <;> simp [st, AxSt.enabled] at run
  obtain ⟨t, row, replied, only, stopped⟩ := axisStop_taken ok fits not_rest taken
  obtain ⟨st, cause, stop, freed, shorted, ramped⟩ := stopped.of_running run moves
  obtain ⟨ramp, free, short⟩ := stopCat_eq cat
  exact ⟨t, row, replied, only, st, cause, stop, fun e => ramped (ramp e), fun e => freed (free e), fun e => shorted (short e)⟩

/-! ### AXIS_STATUS -/

theorem le_flatMap_length {α : Type} (f : α → Nat) (l : List α) : (l.flatMap fun i => le 4 (f i)).length = 4 * l.length := by
  rw [List.length_flatMap]
  simp only [le_length, List.map_const', List.sum_replicate, smul_eq_mul, mul_comm]

theorem AxStatus.bytes_length (x : AxStatus) : x.bytes.length = 128 := by
  unfold AxStatus.bytes time96Bytes
  have voltages : (x.sample.vMv.toList.flatMap (le 4)).length = 4 * _ := le_flatMap_length id _
  simp only [List.length_append, le_length, zeros_length, le_flatMap_length, voltages, Vector.length_toList]

theorem axisStatus_completes (ok : Accepted s h .axisStatus ses) :
    Completes (.axisStatus h) s h 0x45 stOk (s.axisStatus (axisOf h)).bytes s := by
  rw [← ok.reads (·.axisStatus (axisOf h)) fun _ => rfl]
  exact ok.completes_reply rfl (by simp [Cmd.opcode]) uncounted_ok rfl

end

/-- Settles O25: AXIS_COMMAND by its ranges, the hold and the state, AXIS_STOP by the state, AXIS_STATUS by what it shows. -/
theorem axisCommandsAct : Obligations.AxisCommandsAct := by
  refine ⟨fun s h ses p ok => ⟨fun wrong => ?_, fun fits => ?_⟩, fun s h ses cat ok fits => ?_,
    fun s h ses ok => ⟨AxStatus.bytes_length _, axisStatus_completes ok⟩⟩
  · exact axisCommand_refused ok (mt (axisCommandFits_iff p _).1 wrong)
  · exact axisCommand_completes ok ((axisCommandFits_iff p _).2 fits)
  · dsimp only
    split
    · next st => exact axisStop_fault_refused ok fits st
    · next st => exact axisStop_atRest_completes ok fits (.inl st)
    · next st => exact axisStop_atRest_completes ok fits (.inr st)
    · next st => exact fun old inProgress => axisStop_stopping_acts ok fits st inProgress
    · next no_fault no_disabled no_rest no_stopping =>
      obtain (st | st) | st | st | ⟨run, moves⟩ := (s.axis (axisOf h)).st.stop_cases
      · exact (no_disabled st).elim
      · exact (no_rest st).elim
      · exact (no_fault st).elim
      · exact (no_stopping st).elim
      · exact axisStop_running_acts ok fits run moves

end Sys2Proof.Machine
end

section
/-! PROOFS. Valley samples, injection and the fault pins (R304, R306, R308, R323, R330, R338): what each row touches, and what it
leaves of its axis. -/

namespace Sys2Proof.Machine

/-! ### What the operations of an axis touch -/

theorem State.uncommutate_touches (s : State) (n : Fin 8) : TouchesAxes {n} s (s.uncommutate n) := s.updAxis_touches n _

theorem State.axisFault_touches (s : State) (n : Fin 8) (cause : Nat) : TouchesAxes {n} s (s.axisFault n cause) := by
  unfold State.axisFault
  split
  · exact .refl _ s
  · exact (((s.uncommutate_touches n).trans (State.updAxis_touches _ n _)).trans (State.drivePattern_touches _ n _)).trans
      (State.enterAx_touches _ n _ _)

theorem State.observerFault_touches (s : State) (n : Fin 8) : TouchesAxes {n} s (s.observerFault n) := by
  unfold State.observerFault
  split
  case h_5 => exact s.updAxis_touches n _
  all_goals exact (s.updAxis_touches n _).trans (State.axisFault_touches _ n _)

theorem State.toHfi_touches (s : State) (n : Fin 8) (cause : Nat) : TouchesAxes {n} s (s.toHfi n cause) :=
  (s.updAxis_touches n _).trans (State.enterAx_touches _ n _ _)

theorem State.refuse_touches (s : State) (n : Fin 8) (stay : Bool) : TouchesAxes {n} s (s.refuse n stay) := by
  refine TouchesAxes.trans ?_ (State.raiseAll_touches _ _ _ _ _).of_none
  split
  · exact s.updAxis_touches n _
  · exact (s.updAxis_touches n _).trans (State.toHfi_touches _ n _)

theorem State.commitCouch_touches (s : State) (n : Fin 8) (x : Handover) : TouchesAxes {n} s (s.commitCouch n x) :=
  (s.updAxis_touches n _).trans (State.enterAx_touches _ n _ _)

theorem State.settleHandover_touches (s : State) (n : Fin 8) : TouchesAxes {n} s (s.settleHandover n) := by
  unfold State.settleHandover
  split
  · split
    · exact .refl _ s
    · exact s.commitCouch_touches n _
  · exact .refl _ s

theorem State.loseSync_touches (s : State) (n : Fin 8) (crit : Nat) (value : Int) : TouchesAxes {n} s (s.loseSync n crit value) :=
  ((((s.uncommutate_touches n).trans (State.updAxis_touches _ n _)).trans (State.drivePattern_touches _ n _)).trans
    (State.enterAx_touches _ n _ _)).trans (State.raiseAll_touches _ _ _ _ _).of_none

theorem State.noteStatus_touches (s : State) (n : Fin 8) : TouchesAxes {n} s (s.noteStatus n) := s.updAxis_touches n _

theorem State.noteOutputs_touches (s before : State) (n : Fin 8) : TouchesAxes {n} s (s.noteOutputs before n) :=
  s.updAxis_touches n _

theorem TouchesAxes.vcoreMv_eq {A : Set (Fin 8)} {s t : State} (h : TouchesAxes A s t) : t.vcoreMv = s.vcoreMv := by
  rw [State.vcoreMv, h.1, State.vcoreMv]

theorem OnlyAxis.trans {s t u : State} {n : Fin 8} (h : OnlyAxis s t n) (k : OnlyAxis t u n) : OnlyAxis s u n := by
  obtain ⟨a, b, c⟩ := h
  obtain ⟨a', b', c'⟩ := k
  refine ⟨fun m ne => (a' m ne).trans (a m ne), fun m ne => (b' m ne).trans (b m ne), ?_⟩
  simp_all only [and_self]

theorem State.updTimer_onlyAxis (s : State) (n : Fin 8) (f : Timer → Timer) : OnlyAxis s (s.updTimer (axTimer n) f) n :=
  ⟨fun _ _ => rfl, fun _ ne => (bankUpd_get _ _ _ _).trans (if_neg fun e => ne e.symm), rfl, rfl, rfl, rfl, rfl, rfl, rfl, rfl, rfl,
    rfl, rfl, rfl, rfl⟩

/-- What a fault leaves of an axis that was not in FAULT (R323). -/
theorem State.axisFault_axis (s : State) (n : Fin 8) (cause : Nat) (sound : (s.axis n).st ≠ .fault) :
    let b := (s.axisFault n cause).axis n
    b.st = .fault ∧ b.cause = cause ∧ b.cntFault = satInc 65535 (s.axis n).cntFault ∧ (∀ i, b.gates.level.get i = false) ∧
      b.stop = none ∧ b.zeroFrom = none ∧ b.flt = (s.axis n).flt ∧ b.sample = (s.axis n).sample ∧
      b.cntOver = (s.axis n).cntOver ∧ b.cntObsFault = (s.axis n).cntObsFault ∧ b.cntMiss = (s.axis n).cntMiss := by
  simp only [State.axisFault, if_neg sound, State.enterAx_axis_self, State.drivePattern_axis_self, State.updAxis_axis_self,
    State.uncommutate_axis_self]
  exact ⟨trivial, trivial, trivial, fun i => Gates.apply_off_level _ _ _ _ i, by simp⟩

/-! ### A valley sample -/

/-- An axis takes a sample `x` at a time, `a` the axis as the networks loaded came into use. -/
def Axis.takeSample (now : Nat) (a : Axis) (x : AxSample) (b : Axis) : Axis :=
  { b with
    sample := x, overcur := x.over a.itrip,
    stillFrom := if x.quiet then some (b.stillFrom.getD now) else none,
    vdcLowFrom := if (a.vdcMin != 0 && decide (x.vdcMv < a.vdcMin * 10)) = true then some (b.vdcLowFrom.getD now) else none,
    cntOver := if x.over a.itrip ∧ b.st ≠ .fault then satInc 65535 b.cntOver else b.cntOver }

/-- The networks loaded come into use, the evaluations of an earlier sample over. -/
def State.netsTaken (s : State) (n : Fin 8) : State := (s.settleEvals n).updAxis n Axis.takeNets

/-- The state a sample is judged in. -/
def State.sampled (s : State) (n : Fin 8) (v : ValleySample) : State :=
  let a := (s.netsTaken n).axis n
  (s.netsTaken n).updAxis n (a.takeSample s.now (a.convert v s.devTime))

/-- What a valley sample comes to while the axis's timer runs. -/
theorem exec_axisValleySample {s : State} {n : Fin 8} (v : ValleySample) (run : (s.timers.get (axTimer n)).run = true) :
    let a := (s.netsTaken n).axis n
    exec (.axisValleySample n v) s = .next
      ((if (a.convert v s.devTime).over a.itrip = true ∧ ¬ a.shorting = true then (s.sampled n v).axisFault n 13
        else if a.st.enabled = true ∧ ((s.sampled n v).axis n).vdcOut s.now = true then (s.sampled n v).axisFault n 14
        else (((s.sampled n v).startEvals n v).hfiStep n v.speedHfi.toInt).runLoop n).noteStatus n) := by
  have row : exec (.axisValleySample n v) s = execAxisValleySample n v s := rfl
  rw [row, execAxisValleySample, if_neg (not_not.2 run)]
  rfl

section
variable {s : State} {n : Fin 8} (done : (s.axis n).evals = [])
include done

/-- Without evaluations outstanding a sample first brings the networks loaded into use, and the status follows. -/
theorem State.netsTaken_eq : s.netsTaken n = (s.noteOutputs s n).updAxis n Axis.takeNets := by
  rw [State.netsTaken, State.settleEvals, done, List.foldl_nil]

theorem State.netsTaken_axis : ∃ shown, (s.netsTaken n).axis n = { (s.axis n).takeNets with status := shown } := by
  rw [State.netsTaken_eq done, State.updAxis_axis_self, State.noteOutputs, State.updAxis_axis_self]
  exact ⟨_, rfl⟩

theorem State.sampled_touches (v : ValleySample) : TouchesAxes {n} s (s.sampled n v) := by
  rw [State.sampled, State.netsTaken_eq done]
  exact ((s.noteOutputs_touches s n).trans (State.updAxis_touches _ n _)).trans (State.updAxis_touches _ n _)

theorem State.sampled_axis (v : ValleySample) :
    ∃ shown, (s.sampled n v).axis n =
      Axis.takeSample s.now (s.axis n) ((s.axis n).convert v s.devTime) { (s.axis n).takeNets with status := shown } := by
  obtain ⟨shown, at_⟩ := State.netsTaken_axis done
  refine ⟨shown, ?_⟩
  rw [State.sampled, State.updAxis_axis_self, at_]
  rfl

/-- What a sample without evaluations outstanding comes to. -/
theorem exec_axisValleySample_done (v : ValleySample) (run : (s.timers.get (axTimer n)).run = true) :
    let a := s.axis n
    exec (.axisValleySample n v) s = .next
      ((if (a.convert v s.devTime).over a.itrip = true ∧ ¬ a.shorting = true then (s.sampled n v).axisFault n 13
        else if a.st.enabled = true ∧ ((s.sampled n v).axis n).vdcOut s.now = true then (s.sampled n v).axisFault n 14
        else (((s.sampled n v).startEvals n v).hfiStep n v.speedHfi.toInt).runLoop n).noteStatus n) := by
  obtain ⟨shown, at_⟩ := State.netsTaken_axis done
  have row := exec_axisValleySample v run
  simp only [at_] at row
  exact row

end

/-! ### The loops after a sample -/

/-- What one period of the loops leaves of an axis. -/
theorem Axis.loop_keeps (a : Axis) (top : Nat) :
    (a.loop top).1 = { a with spdCmd := (a.loop top).1.spdCmd, spdInt := (a.loop top).1.spdInt, curInt := (a.loop top).1.curInt } := by
  unfold Axis.loop
  split <;> rfl

theorem State.runLoop_onlyAxis (s : State) (n : Fin 8) : OnlyAxis s (s.runLoop n) n := by
  unfold State.runLoop
  split
  · exact (s.updAxis_touches n _).onlyAxis.trans (State.updTimer_onlyAxis _ n _)
  · exact (TouchesAxes.refl _ s).onlyAxis

theorem State.runLoop_axis (s : State) (n : Fin 8) : ∃ cmd int cur,
    (s.runLoop n).axis n = { s.axis n with spdCmd := cmd, spdInt := int, curInt := cur } := by
  unfold State.runLoop
  split
  · refine ⟨_, _, _, Eq.trans (State.updAxis_axis_self s n _) (Axis.loop_keeps _ _)⟩
  · exact ⟨_, _, _, rfl⟩

theorem State.noteStatus_axis (s : State) (n : Fin 8) : ∃ x,
    (s.noteStatus n).axis n = { s.axis n with statusPrev := (s.axis n).status, status := x, statusAt := s.now } :=
  ⟨_, s.updAxis_axis_self n _⟩

/-- An axis without evaluations outstanding. -/
def Axis.noEvals (a : Axis) : Axis := { a with evals := [], satSeen := false }

/-- An axis that is not enabled starts no evaluation and takes no angle. -/
theorem State.startEvals_rest (s : State) (n : Fin 8) (v : ValleySample) (rest : (s.axis n).st.enabled = false) :
    s.startEvals n v = s.updAxis n Axis.noEvals := by
  unfold State.startEvals
  exact if_neg (by simp [rest])

theorem State.hfiStep_rest (s : State) (n : Fin 8) (speed : Int) (rest : (s.axis n).st.enabled = false) : s.hfiStep n speed = s := by
  unfold State.hfiStep
  cases st : (s.axis n).st <;> simp only [st, AxSt.enabled, Bool.true_eq_false] at rest ⊢

/-- Nothing judged of a sample of an axis at rest changes more than what the sample itself brings. -/
theorem State.rest_axis (s : State) (n : Fin 8) (v : ValleySample) (rest : (s.axis n).st.enabled = false) :
    OnlyAxis s ((((s.startEvals n v).hfiStep n v.speedHfi.toInt).runLoop n).noteStatus n) n ∧
      ∃ cmd int cur prev x, ((((s.startEvals n v).hfiStep n v.speedHfi.toInt).runLoop n).noteStatus n).axis n =
        { s.axis n with evals := [], satSeen := false, spdCmd := cmd, spdInt := int, curInt := cur, statusPrev := prev, status := x,
                        statusAt := s.now } := by
  have keeps : ((s.updAxis n Axis.noEvals).axis n).st.enabled = false := by
    rwa [State.updAxis_axis_self]
  rw [State.startEvals_rest s n v rest, State.hfiStep_rest _ n _ keeps]
  refine ⟨((s.updAxis_touches n _).onlyAxis.trans (State.runLoop_onlyAxis _ n)).trans (State.noteStatus_touches _ n).onlyAxis, ?_⟩
  obtain ⟨x, noted⟩ := State.noteStatus_axis ((s.updAxis n Axis.noEvals).runLoop n) n
  obtain ⟨cmd, int, cur, looped⟩ := State.runLoop_axis (s.updAxis n Axis.noEvals) n
  rw [looped, State.updAxis_axis_self, State.runLoop_now] at noted
  exact ⟨cmd, int, cur, _, x, noted⟩

/-! ### Injection -/

/-- With every network sound a sample of an axis starts its evaluations, if it starts any, and misses none. -/
theorem State.startEvals_sound (s : State) (n : Fin 8) (v : ValleySample)
    (sound : ∀ k net, (s.axis n).nets.get k = some net → net.coreOk = true) :
    ∃ f : Axis → Axis, s.startEvals n v = s.updAxis n f ∧ ∃ es first nets,
      f (s.axis n) = { s.axis n with evals := es, satSeen := false, firstSample := first, nets := nets } ∧
      ∀ k, (nets.get k).isNone = ((s.axis n).nets.get k).isNone := by
  have none_bad : ∀ (g : Fin 3 → Option (Fin 3 × Bool)) (u : State), (∀ k, g k = none) →
      (evalOrder.filterMap g).foldl (fun s k => s.missEval n k.1 k.2) u = u := fun g u sound => by
    rw [List.filterMap_eq_nil_iff.2 fun k _ => sound k, List.foldl_nil]
  unfold State.startEvals
  dsimp -proj only
  split
  · rw [none_bad]
    rotate_left
    · intro k
      split
      · next net at_ => exact if_pos (sound k net at_)
      · rfl
    exact ⟨_, rfl, _, _, _, rfl, fun k => by simp [Vector.get_eq_getElem]⟩
  · exact ⟨_, rfl, _, _, _, rfl, fun k => rfl⟩

/-- What a sample of injection makes of an axis in RUN_HFI whose angle in use is the injection's (R309, R338). -/
theorem State.hfiStep_runHfi (s : State) (n : Fin 8) (speed : Int) (st : (s.axis n).st = .runHfi) (own : (s.axis n).obsSrc = false) :
    TouchesAxes {n} s (s.hfiStep n speed) ∧ ((s.hfiStep n speed).axis n).sample = (s.axis n).sample ∧
      ((s.hfiStep n speed).axis n).theta = (s.axis n).sample.thetaHfi ∧ ((s.hfiStep n speed).axis n).speed = speed ∧
      ((s.hfiStep n speed).axis n).st =
        if (s.axis n).c.couchLo ≤ speed.natAbs ∧ (s.axis n).isClamped = false ∧ 720 ≤ s.vcoreMv then .couch else .runHfi := by
  unfold State.hfiStep
  simp only [st, own, Bool.false_eq_true, if_false, Bool.not_eq_true]
  split
  · refine ⟨(((s.updAxis_touches n _).trans (State.updAxis_touches _ n _)).trans (State.updAxis_touches _ n _)).trans
      (State.enterAx_touches _ n _ _), ?_⟩
    simp [Axis.take]
  · refine ⟨(s.updAxis_touches n _).trans (State.updAxis_touches _ n _), ?_⟩
    simp [Axis.take, st]

/-- Settles O27: a fault pin by what a fault leaves, a sample by how it is judged. -/
theorem axisSampleRowsAct : Obligations.AxisSampleRowsAct := by
  refine ⟨fun s n run sound => ?pin, fun s n => rfl, fun s n v run done => ⟨fun high open_ sound => ?high,
    fun high short rest sound => ?shorted, fun low rest => ?rest,
    fun low st own noMin noMax noLow sound => ?inject⟩⟩
  case pin =>
    have row : exec (.axisFlt n) s = .next ((s.updAxis n fun a => { a with flt := true }).axisFault n 12) := by
      have row : exec (.axisFlt n) s = execAxisFlt n s := rfl
      simp [row, execAxisFlt, run]
    have fault := (s.updAxis n fun a => { a with flt := true }).axisFault_axis n 12 (by simpa using sound)
    simp only [State.updAxis_axis_self] at fault
    obtain ⟨st, cause, count, low, stop, zero, flt, -⟩ := fault
    exact ⟨_, row, ((s.updAxis_touches n _).trans (State.axisFault_touches _ n _)).onlyAxis, st, cause, flt, count, low, stop, zero⟩
  all_goals
    have row := exec_axisValleySample_done done v run
    have touches := State.sampled_touches done v
    obtain ⟨shown, at_⟩ := State.sampled_axis done v
    dsimp only at row
  case high =>
    rw [if_pos ⟨high, by simp [open_]⟩] at row
    have fault := (s.sampled n v).axisFault_axis n 13 (by rw [at_]; exact sound)
    obtain ⟨st, cause, -, low, -, -, -, sample, count, -⟩ := fault
    obtain ⟨x, noted⟩ := State.noteStatus_axis ((s.sampled n v).axisFault n 13) n
    refine ⟨_, row, (touches.trans ((State.axisFault_touches _ n _).trans (State.noteStatus_touches _ n))).onlyAxis, ?_⟩
    rw [noted]
    refine ⟨st, cause, sample.trans (by rw [at_]; rfl), count.trans ?_, low⟩
    rw [at_]
    exact if_pos ⟨high, sound⟩
  case shorted =>
    rw [if_neg (by simp [short]), if_neg (by simp [rest])] at row
    obtain ⟨only, cmd, int, cur, prev, x, after⟩ := (s.sampled n v).rest_axis n v (by rw [at_]; exact rest)
    refine ⟨_, row, touches.onlyAxis.trans only, ?_⟩
    rw [after, at_]
    exact ⟨rfl, rfl, if_pos ⟨high, sound⟩⟩
  case rest =>
    rw [if_neg (by simp [low]), if_neg (by simp [rest])] at row
    obtain ⟨only, cmd, int, cur, prev, x, after⟩ := (s.sampled n v).rest_axis n v (by rw [at_]; exact rest)
    refine ⟨_, row, touches.onlyAxis.trans only, ?_⟩
    rw [after, at_]
    refine ⟨rfl, rfl, rfl, fun k => ⟨?_, ?_⟩⟩
    · simp [Axis.takeSample, Axis.takeNets, Vector.get_eq_getElem]
    · simp [Axis.takeSample, Axis.takeNets, Vector.get_eq_getElem]
  case inject =>
    have inside : ((s.sampled n v).axis n).vdcOut s.now = false := by
      simp [at_, Axis.takeSample, Axis.takeNets, Axis.vdcOut, noMin, noMax]
    rw [if_neg (by simp [low]), if_neg (by simp [inside])] at row
    have loaded : ∀ k, ((s.sampled n v).axis n).nets.get k = (s.axis n).loaded k := fun k => by
      simp [at_, Axis.takeSample, Axis.takeNets, Vector.get_eq_getElem]
    obtain ⟨f, started, es, first, nets, became, kept⟩ := (s.sampled n v).startEvals_sound n v fun k net at_ =>
      sound k net ((loaded k).symm.trans at_)
    rw [started] at row
    obtain ⟨steps, sample, theta, speed, couch⟩ := ((s.sampled n v).updAxis n f).hfiStep_runHfi n v.speedHfi.toInt
      (by rw [State.updAxis_axis_self, became, at_]; exact st) (by rw [State.updAxis_axis_self, became, at_]; exact own)
    obtain ⟨x, noted⟩ := State.noteStatus_axis ((((s.sampled n v).updAxis n f).hfiStep n v.speedHfi.toInt).runLoop n) n
    obtain ⟨cmd, int, cur, looped⟩ := State.runLoop_axis (((s.sampled n v).updAxis n f).hfiStep n v.speedHfi.toInt) n
    refine ⟨_, row, (((touches.trans (State.updAxis_touches _ n f)).trans steps).onlyAxis.trans
      (State.runLoop_onlyAxis _ n)).trans (State.noteStatus_touches _ n).onlyAxis, ?_⟩
    rw [noted, looped]
    refine ⟨sample.trans ?_, theta.trans ?_, speed, couch.trans ?_⟩
    · rw [State.updAxis_axis_self, became, at_]
      rfl
    · rw [State.updAxis_axis_self, became, at_]
      rfl
    · have clamped : (((s.sampled n v).updAxis n f).axis n).isClamped = (s.axis n).isClamped := by
        have same : (nets.get 0).isNone = ((s.axis n).loaded 0).isNone := by rw [kept, loaded]
        rw [State.updAxis_axis_self, became, at_]
        simp [Axis.isClamped, Axis.loaded, Axis.takeSample, Axis.takeNets, Vector.get_eq_getElem] at same ⊢
        rw [same]
      have volts := (touches.trans (State.updAxis_touches _ n f)).vcoreMv_eq
      rw [clamped, volts, State.updAxis_axis_self, became, at_]
      rfl

end Sys2Proof.Machine
end

section
/-! PROOFS. Gates and dead time (R303, R311); zeroing, align, a still motor and the ramp's time (R307, R309, R310, R317). -/

namespace Sys2Proof.Machine

/-! ### Gates -/

/-- No pattern wants both outputs of a leg high. -/
theorem gateWant_partner (pat : Pattern) (pwm : Bool) (i : Fin 6) (want : gateWant pat pwm i = true) :
    gateWant pat pwm (gatePartner i) = false := by
  revert want
  cases pat with
  | off => simp [gateWant]
  | short => cases pwm <;> revert i <;> decide
  | drive hi lo => cases hi <;> cases lo <;> cases pwm <;> revert i <;> decide

section
variable (g : Gates) (pat : Pattern) (pwm : Bool) (dt now : Nat) (i : Fin 6)

theorem Gates.apply_level : (g.apply pat pwm dt now).level.get i = (gateWant pat pwm i && (g.level.get i || g.free pat pwm dt now i)) := by
  simp [Gates.apply, Vector.get_eq_getElem]

variable {g pat pwm dt now i}

theorem Gates.wanted_of_high (high : (g.apply pat pwm dt now).level.get i = true) : gateWant pat pwm i = true := by
  rw [Gates.apply_level, Bool.and_eq_true] at high
  exact high.1

/-- An output that turns on is free to. -/
theorem Gates.freeAt_of_rise (high : (g.apply pat pwm dt now).level.get i = true) (low : g.level.get i = false) :
    g.freeAt pat pwm dt now i ≤ now := by
  rw [Gates.apply_level, low, Bool.false_or, Bool.and_eq_true] at high
  have free := high.2
  rw [Gates.free, Bool.and_eq_true] at free
  exact of_decide_eq_true free.2

/-- The tick its partner fell, of an output that is wanted high. -/
theorem Gates.fell_partner (want : gateWant pat pwm i = true) :
    g.fell pat pwm now (gatePartner i) = if g.level.get (gatePartner i) = true then now else g.lowAt.get (gatePartner i) := by
  simp [Gates.fell, gateWant_partner pat pwm i want]

theorem Gates.fell_le_freeAt : g.fell pat pwm now (gatePartner i) + dt ≤ g.freeAt pat pwm dt now i := by
  unfold Gates.freeAt
  split
  · exact Nat.add_le_add_right (Nat.le_max_right _ _) _
  · exact le_rfl

theorem Gates.taken_le_freeAt : g.taken .short now + dt ≤ g.freeAt .short pwm dt now i := by
  rw [Gates.freeAt, if_pos rfl]
  exact Nat.add_le_add_right (Nat.le_max_left _ _) _

/-- An output that turns on does so with its partner low for the dead time (R303). -/
theorem Gates.partner_low (high : (g.apply pat pwm dt now).level.get i = true) (low : g.level.get i = false) :
    (g.level.get (gatePartner i) = false ∧ g.lowAt.get (gatePartner i) + dt ≤ now) ∨
      (g.level.get (gatePartner i) = true ∧ dt = 0) := by
  have fell := Gates.fell_le_freeAt.trans (Gates.freeAt_of_rise high low)
  rw [Gates.fell_partner (Gates.wanted_of_high high)] at fell
  cases partner : g.level.get (gatePartner i) with
  | false =>
    rw [partner, if_neg Bool.false_ne_true] at fell
    exact .inl ⟨rfl, fell⟩
  | true =>
    rw [partner, if_pos rfl] at fell
    exact .inr ⟨rfl, by omega⟩

/-- The low sides of an active short turn on the dead time after it was taken (R311). -/
theorem Gates.short_taken (high : (g.apply .short pwm dt now).level.get i = true) (low : g.level.get i = false) :
    (g.pattern = .short ∧ g.since + dt ≤ now) ∨ (g.pattern ≠ .short ∧ dt = 0) := by
  have taken := Gates.taken_le_freeAt.trans (Gates.freeAt_of_rise high low)
  unfold Gates.taken at taken
  split at taken
  · next same => exact .inl ⟨same, taken⟩
  · next other => exact .inr ⟨other, by omega⟩

end

/-! ### The rows of an axis's states -/

section
variable {s : State} {n : Fin 8}

theorem exec_axisZeroDone {samples : Vector (Vector (BitVec 16) 256) 3} {since : Nat} (zeroing : (s.axis n).zeroFrom = some since) :
    exec (.axisZeroDone n samples) s = .next
      (if since + msTicks ≤ s.now then
        let s1 := s.updAxis n fun a => { a with zeroFrom := none, zero := samples.map zeroOf }
        if (s.axis n).still s.now then
          (((s1.updAxis n fun a => { a with alignFrom := s.now }).drivePattern n
            (.drive .u (swapVW (s.axis n).c.reverse .v))).enterAx n .align 1)
        else s1.enterAx n .stoppedSafe 16
      else s) := by
  have row : exec (.axisZeroDone n samples) s = execAxisZeroDone n samples s := rfl
  rw [row, execAxisZeroDone, zeroing]

theorem axisZeroDone_acts {samples : Vector (Vector (BitVec 16) 256) 3} {since : Nat} (zeroing : (s.axis n).zeroFrom = some since) :
    if since + msTicks ≤ s.now then
      ∃ t, exec (.axisZeroDone n samples) s = .next t ∧ OnlyAxis s t n ∧ (t.axis n).zeroFrom = none ∧
        (∀ p, (t.axis n).zero.get p = rne ((samples.get p).toList.map BitVec.toInt).sum 256) ∧
        if (s.axis n).still s.now = true then (t.axis n).st = .align ∧ (t.axis n).alignFrom = s.now ∧ (t.axis n).cause = 1
        else (t.axis n).st = .stoppedSafe ∧ (t.axis n).cause = 16
    else exec (.axisZeroDone n samples) s = .next s := by
  have row := exec_axisZeroDone (samples := samples) zeroing
  have means : ∀ p, (samples.map zeroOf).get p = rne ((samples.get p).toList.map BitVec.toInt).sum 256 := fun p => by
    simp [Vector.get_eq_getElem, zeroOf]
  split
  · next due =>
    rw [if_pos due] at row
    split
    · next still =>
      rw [if_pos still] at row
      refine ⟨_, row, ((((s.updAxis_touches n _).trans (State.updAxis_touches _ n _)).trans
        (State.drivePattern_touches _ n _)).trans (State.enterAx_touches _ n _ _)).onlyAxis, ?_⟩
      simp only [State.enterAx_axis_self, State.drivePattern_axis_self, State.updAxis_axis_self]
      exact ⟨trivial, means, trivial, trivial, trivial⟩
    · next turns =>
      rw [if_neg turns] at row
      refine ⟨_, row, ((s.updAxis_touches n _).trans (State.enterAx_touches _ n _ _)).onlyAxis, ?_⟩
      simp only [State.enterAx_axis_self, State.updAxis_axis_self]
      exact ⟨trivial, means, trivial, trivial⟩
  · next early => rw [row, if_neg early]

theorem alignDone_acts (st : (s.axis n).st = .align) :
    if (s.axis n).alignFrom + (s.axis n).c.alignMs * msTicks ≤ s.now then
      ∃ t, exec (.alignDone n) s = .next t ∧ OnlyAxis s t n ∧ (t.axis n).st = .runHfi ∧ (t.axis n).theta = 0 ∧
        (t.axis n).cause = 2
    else exec (.alignDone n) s = .next s := by
  have row : exec (.alignDone n) s = execAlignDone n s := rfl
  simp only [execAlignDone, st, true_and] at row
  split
  · next due =>
    rw [if_pos due] at row
    refine ⟨_, row, ((s.updAxis_touches n _).trans (State.enterAx_touches _ n _ _)).onlyAxis, ?_⟩
    simp
  · next early => rw [row, if_neg early]

/-- The state a still motor's row ends in, of an axis that comes to rest: an active short stands, else the gates go off. -/
def State.comesToRest (s : State) (n : Fin 8) (shorted : Bool) : State :=
  (if shorted then s else s.drivePattern n .off).enterAx n .stoppedSafe 7

theorem State.comesToRest_touches (s : State) (n : Fin 8) (shorted : Bool) : TouchesAxes {n} s (s.comesToRest n shorted) := by
  cases shorted
  · exact (s.drivePattern_touches n _).trans (State.enterAx_touches _ n _ _)
  · exact s.enterAx_touches n _ _

theorem State.comesToRest_axis (s : State) (n : Fin 8) (shorted : Bool) :
    let b := (s.comesToRest n shorted).axis n
    b.st = .stoppedSafe ∧ b.cause = 7 ∧ b.stop = (s.axis n).stop ∧ b.sector = (s.axis n).sector ∧ b.hold = (s.axis n).hold := by
  cases shorted <;> simp [State.comesToRest]

/-- The state of an axis that aligns again. -/
def State.alignsAgain (s : State) (n : Fin 8) : State :=
  ((s.updAxis n fun a => { a with alignFrom := s.now, curInt := 0, spdInt := 0, spdCmd := 0 }).drivePattern n
    (.drive .u (swapVW (s.axis n).c.reverse .v))).enterAx n .align 7

theorem exec_motorStill_stopping (st : (s.axis n).st = .stopping) : exec (.motorStill n) s = .next
    (if (s.axis n).still s.now = true then
      ((s.uncommutate n).updAxis n fun a => { a with stop := none, evals := [] }).comesToRest n ((s.axis n).gates.pattern == .short)
     else s) := by
  have row : exec (.motorStill n) s = execMotorStill n s := rfl
  rw [row, execMotorStill]
  simp only [st, reduceCtorEq, false_and, and_false, if_false]
  rfl

theorem exec_motorStill_lost (st : (s.axis n).st = .lost) (still : (s.axis n).still s.now = true) : exec (.motorStill n) s = .next
    (if (s.axis n).realign = true ∧ s.safeStopComes = true then s.putOff (.motorStill n)
     else if (s.axis n).realign = true then s.alignsAgain n
     else s.comesToRest n ((s.axis n).gates.pattern == .short)) := by
  have row : exec (.motorStill n) s = execMotorStill n s := rfl
  rw [row, execMotorStill]
  simp only [st, still, true_and, if_true]
  rfl

theorem motorStill_lost_acts (st : (s.axis n).st = .lost) (still : (s.axis n).still s.now = true) :
    if (s.axis n).realign = false then
      ∃ t, exec (.motorStill n) s = .next t ∧ OnlyAxis s t n ∧ (t.axis n).st = .stoppedSafe ∧ (t.axis n).cause = 7
    else if s.safeStopComes = true then exec (.motorStill n) s = .next (s.putOff (.motorStill n))
    else ∃ t, exec (.motorStill n) s = .next t ∧ OnlyAxis s t n ∧ (t.axis n).st = .align ∧ (t.axis n).cause = 7 ∧
        (t.axis n).alignFrom = s.now := by
  have row := exec_motorStill_lost st still
  split
  · next rests =>
    rw [if_neg (by simp [rests]), if_neg (by simp [rests])] at row
    obtain ⟨st', cause, -⟩ := s.comesToRest_axis n ((s.axis n).gates.pattern == .short)
    exact ⟨_, row, (s.comesToRest_touches n _).onlyAxis, st', cause⟩
  · next aligns =>
    rw [Bool.not_eq_false] at aligns
    split
    · next comes => rw [row, if_pos ⟨aligns, comes⟩]
    · next clear =>
      rw [if_neg fun both => clear both.2, if_pos aligns] at row
      refine ⟨_, row, (((s.updAxis_touches n _).trans (State.drivePattern_touches _ n _)).trans
        (State.enterAx_touches _ n _ _)).onlyAxis, ?_⟩
      simp [State.alignsAgain]

theorem rampTimeout_acts {r : StopRec} (st : (s.axis n).st = .stopping) (stop : (s.axis n).stop = some r) (ramp : r.cat = .ramp) :
    if r.at_ + (s.axis n).c.rampMs * msTicks ≤ s.now then
      ∃ t, exec (.rampTimeout n) s = .next t ∧ OnlyAxis s t n ∧ (t.axis n).st = .stopping ∧ (t.axis n).cause = 17 ∧
        (t.axis n).stop = some ⟨.freewheel, r.kind, s.now⟩ ∧ (∀ i, (t.axis n).gates.level.get i = false)
    else exec (.rampTimeout n) s = .next s := by
  have row : exec (.rampTimeout n) s = execRampTimeout n s := rfl
  simp only [execRampTimeout, stop, st, ramp, true_and] at row
  split
  · next due =>
    rw [if_pos due] at row
    refine ⟨_, row, ((((s.uncommutate_touches n).trans (State.updAxis_touches _ n _)).trans
      (State.drivePattern_touches _ n _)).trans (State.enterAx_touches _ n _ _)).onlyAxis, ?_⟩
    simp [Gates.apply_off_level]
  · next early => rw [row, if_neg early]

end

/-- Settles O23: the gates by when an output is free to turn on, each row by the state it enters. -/
theorem gatesAndAxisStatesAct : Obligations.GatesAndAxisStatesAct := by
  refine ⟨fun s n pat i => ?gates, fun s n samples since zeroing => axisZeroDone_acts zeroing, fun s n st => alignDone_acts st,
    fun s n st => ?still, fun s n st still => motorStill_lost_acts st still, fun s n r st stop ramp => rampTimeout_acts st stop ramp⟩
  case gates =>
    simp only [State.drivePattern_axis_self]
    refine ⟨fun ⟨high, both⟩ => ?_, Gates.wanted_of_high, ?_, Gates.partner_low, ?_, trivial⟩
    · have partner := Gates.wanted_of_high both
      rw [gateWant_partner _ _ _ (Gates.wanted_of_high high)] at partner
      exact Bool.false_ne_true partner
    · rintro rfl
      exact Gates.apply_off_level _ _ _ _ i
    · rintro rfl
      exact Gates.short_taken
  case still =>
    have row := exec_motorStill_stopping st
    split
    · next still =>
      rw [if_pos still] at row
      obtain ⟨st', cause, stop, sector, hold⟩ := ((s.uncommutate n).updAxis n fun a => { a with stop := none, evals := [] }).comesToRest_axis
        n ((s.axis n).gates.pattern == .short)
      refine ⟨_, row, (((s.uncommutate_touches n).trans (State.updAxis_touches _ n _)).trans
        (State.comesToRest_touches _ n _)).onlyAxis, st', cause, stop.trans ?_, sector.trans ?_, hold.trans ?_⟩
      all_goals simp
    · next turns => rw [row, if_neg turns]

end Sys2Proof.Machine
end

section
/-! PROOFS. Observer networks: loading and unloading them, their outputs, their missed evaluations and their restored weights
(R328 to R338, R343, Table 17-6). -/

namespace Sys2Proof.Machine

/-! ### OBSERVER_LOAD -/

/-- Reading a range is blind to what the ports hold. -/
theorem State.readRange_quiet (u : State) (p : Port) (r o l : Nat) :
    ((u.readRange p r o l).2.1).quiet = (u.quiet.readRange p r o l).2.1 := by
  unfold State.readRange
  have region : u.quiet.region p r = u.region p r := rfl
  rw [region]
  cases u.region p r with
  | none => rfl
  | some x =>
    dsimp only
    split
    · rfl
    · have bad : u.quiet.firstBad x (u.quiet.domKey p) (linesOf o l) = u.firstBad x (u.domKey p) (linesOf o l) := rfl
      rw [bad]
      cases u.firstBad x (u.domKey p) (linesOf o l) <;> rfl

/-- A range is refused with a status that is not counted. -/
theorem State.readRange_uncounted (s : State) (p : Port) (r o l : Nat) : Uncounted (s.readRange p r o l).1 := by
  unfold State.readRange
  split
  · exact (by decide : Uncounted eRegion)
  · split
    · exact (by decide : Uncounted eRegion)
    · split
      · exact (by decide : Uncounted eIntegrity)
      · exact uncounted_ok

theorem State.toHfi_axis (s : State) (n : Fin 8) (cause : Nat) : (s.toHfi n cause).axis n =
    { s.axis n with
      seed := if (s.axis n).st = .runObs then some (s.axis n).thetaObs else (s.axis n).seed, obsSrc := false, st := .runHfi,
      cause := cause, lossRunning := (s.axis n).lossRunning && AxSt.runHfi == .stopping, handover := none, enteredAt := s.now } := by
  simp [State.toHfi]

/-- An axis without the network of a kind. -/
def Axis.dropNet (k : Fin 3) (a : Axis) : Axis :=
  { a with nets := bankSet a.nets k none, netsNew := bankSet a.netsNew k none, evals := a.evals.filter fun e => e.kind != k }

/-- What an unload does beside removing the network and pinning anew (notes/assumptions/27). -/
def State.withoutNet (s : State) (n : Fin 8) (k : Fin 3) : State :=
  if k = 0 then
    match (s.axis n).st with
    | .couch | .runObs => (s.updAxis n (Axis.dropNet k)).toHfi n 5
    | .stopping => (s.updAxis n (Axis.dropNet k)).updAxis n fun a => { a with obsSrc := false }
    | _ => s.updAxis n (Axis.dropNet k)
  else s.updAxis n (Axis.dropNet k)

theorem State.unloadNet_eq (s : State) (n : Fin 8) (k : Fin 3) : s.unloadNet n k = (s.withoutNet n k).repin := by
  unfold State.unloadNet State.withoutNet
  rfl

theorem State.withoutNet_touches (s : State) (n : Fin 8) (k : Fin 3) : TouchesAxes {n} s (s.withoutNet n k) := by
  unfold State.withoutNet
  split
  · split
    · exact (s.updAxis_touches n _).trans (State.toHfi_touches _ n _)
    · exact (s.updAxis_touches n _).trans (State.toHfi_touches _ n _)
    · exact (s.updAxis_touches n _).trans (State.updAxis_touches _ n _)
    · exact s.updAxis_touches n _
  · exact s.updAxis_touches n _

/-- What an unload leaves of its axis. -/
theorem State.withoutNet_axis (s : State) (n : Fin 8) (k : Fin 3) :
    let a := s.axis n
    let b := (s.withoutNet n k).axis n
    b.nets = bankSet a.nets k none ∧ b.netsNew = bankSet a.netsNew k none ∧ b.evals = (a.evals.filter fun e => e.kind != k) ∧
      if k = 0 ∧ (a.st = .couch ∨ a.st = .runObs) then b.st = .runHfi ∧ b.cause = 5 else b.st = a.st := by
  unfold State.withoutNet
  by_cases pos : k = 0
  · simp only [pos, if_true, true_and]
    cases st : (s.axis n).st <;> simp [State.toHfi_axis, Axis.dropNet, st]
  · simp [pos, Axis.dropNet]

/-- A kind in range is 0 only as POSITION. -/
theorem kind_eq_zero {kind : Byte} (fits : kind.toNat ≤ 2) : Fin.ofNat 3 kind.toNat = 0 ↔ kind = 0 := by
  constructor
  · intro h
    have := congrArg Fin.val h
    simp only [Fin.val_ofNat, Fin.val_zero] at this
    exact BitVec.eq_of_toNat_eq (by simpa using (by omega : kind.toNat = 0))
  · rintro rfl
    rfl

theorem kind_le_of_unload {p : ObsLoadP} (fits : obsUnloadOk p = true) : p.kind.toNat ≤ 2 := by
  simp only [obsUnloadOk, between, Bool.and_eq_true, decide_eq_true_eq] at fits
  tauto

section
variable {s : State} {h : Hdr} {ses : Session} {p : ObsLoadP} (ok : Accepted s h (.observerLoad p) ses)
include ok

theorem observerUnload_acts (unload : p.unload = 1) (fits : obsUnloadOk p = true) :
    let n := axisOf h
    let a := s.axis n
    let k : Fin 3 := Fin.ofNat 3 p.kind.toNat
    ∃ t, exec (.observerLoad h p) s = .next t ∧ Replied s t h 0x44 stOk [] ∧ OnlyAxis s t n ∧
      (t.axis n).nets = bankSet a.nets k none ∧ (t.axis n).netsNew = bankSet a.netsNew k none ∧
      (∀ x ∈ (t.axis n).evals, x.kind ≠ k) ∧
      if p.kind = 0 ∧ (a.st = .couch ∨ a.st = .runObs) then (t.axis n).st = .runHfi ∧ (t.axis n).cause = 5
      else (t.axis n).st = a.st := by
  intro n a k
  have effect : ∀ t : Ticket, axisOf t.hdr = n →
      doObserverLoad t p (s.accepted h) = ((s.accepted h).unloadNet n k).reply t stOk [] := by
    intro t named
    rw [doObserverLoad, if_neg (by simp [unload]), if_pos unload, if_neg (by simp [fits]), named]
  obtain ⟨t, row, replied, only, axis⟩ := ok.answersAxis (i := .observerLoad h p) rfl (by simp [Cmd.opcode])
    (effect _ (s.ticket_axisOf h (.observerLoad p) ses))
    (by rw [State.unloadNet_eq]; exact (State.withoutNet_touches _ n k).trans (State.repin_touches _).of_none)
    (State.unloadNet_sessions _ _ _)
  obtain ⟨nets, new, evals, st⟩ := (s.accepted h).withoutNet_axis n k
  rw [State.unloadNet_eq, State.repin_axis] at axis
  simp only [← axis, s.accepted_axis] at nets new evals st
  refine ⟨t, row, replied, only, nets, new, fun x mem => ?_, ?_⟩
  · rw [evals] at mem
    simpa using (List.mem_filter.1 mem).2
  · simpa only [k, kind_eq_zero (kind_le_of_unload fits)] using st

end

/-- A load of POSITION finds its axis in a state it may not change (R330, Table 17-6). -/
def Axis.loadLocked (a : Axis) (p : ObsLoadP) (now : Nat) : Bool :=
  p.kind == 0 && a.st.positionLocked && !(a.st == .couch && a.enteredAt == now)

theorem Axis.loadLocked_iff (a : Axis) (p : ObsLoadP) (now : Nat) :
    a.loadLocked p now = true ↔ p.kind = 0 ∧ a.st.positionLocked = true ∧ ¬ (a.st = .couch ∧ a.enteredAt = now) := by
  simp [Axis.loadLocked, and_assoc]
  grind

/-- A network loaded waits for the next valley sample. -/
def State.netWaits (s : State) (n : Fin 8) (k : Fin 3) (p : ObsLoadP) (net : ObsNet) : State :=
  (s.updAxis n fun a => { a with netsNew := bankSet a.netsNew k (some net), clamped := a.clamped && p.kind != 0 }).repin

theorem State.netWaits_touches (s : State) (n : Fin 8) (k : Fin 3) (p : ObsLoadP) (net : ObsNet) :
    TouchesAxes {n} s (s.netWaits n k p net) := (s.updAxis_touches n _).trans (State.repin_touches _).of_none

/-- OBSERVER_LOAD of a network within Table 17-3, by what stands in its way (R328 to R330). -/
theorem doObserverLoad_load {t : Ticket} {h : Hdr} {p : ObsLoadP} (named : axisOf t.hdr = axisOf h) (port : t.hdr.port = h.port)
    (load : p.unload = 0) (fits : obsLoadOk p = true) (size : p.length.toNat = (obsNetOf p [] 0).blobLen) (u : State) :
    doObserverLoad t p u =
      let n := axisOf h
      let a := u.axis n
      let r := u.readRange h.port p.region.toNat p.offset.toNat p.length.toNat
      let pin := if a.live ∧ ¬ u.pinned n then u.pinStatus n else stOk
      if r.1 ≠ stOk then r.2.1.reply t r.1 []
      else if 1024 ≤ u.mem.selfMib then u.reply t eNoMemory []
      else if pin ≠ stOk then u.reply t pin []
      else if a.loadLocked p u.now then u.reply t eState []
      else (r.2.1.netWaits n (Fin.ofNat 3 p.kind.toNat) p (obsNetOf p r.2.2 h.port)).reply t stOk [] := by
  rw [doObserverLoad, if_neg (by simp [load]), if_neg (by simp [load]), if_neg (by simp [fits, size]), named, port]
  rfl

theorem observerLoad_acts {s : State} {h : Hdr} {ses : Session} {p : ObsLoadP} (ok : Accepted s h (.observerLoad p) ses)
    (load : p.unload = 0) (fits : obsLoadOk p = true) (size : p.length.toNat = (obsNetOf p [] 0).blobLen) :
    let n := axisOf h
    let a := s.axis n
    let k : Fin 3 := Fin.ofNat 3 p.kind.toNat
    let r := s.readRange h.port p.region.toNat p.offset.toNat p.length.toNat
    let ready : Prop := a.live = false ∨ s.pinned n = true
    let locked : Prop := p.kind = 0 ∧ a.st.positionLocked = true ∧ ¬ (a.st = .couch ∧ a.enteredAt = s.now)
    (r.1 ≠ stOk → Completes (.observerLoad h p) s h 0x44 r.1 [] r.2.1) ∧
    (r.1 = stOk → 1024 ≤ s.mem.selfMib → Completes (.observerLoad h p) s h 0x44 eNoMemory [] s) ∧
    (r.1 = stOk → s.mem.selfMib < 1024 → ready → locked → Completes (.observerLoad h p) s h 0x44 eState [] s) ∧
    (r.1 = stOk → s.mem.selfMib < 1024 → ready → ¬ locked →
      ∃ t, exec (.observerLoad h p) s = .next t ∧ Replied s t h 0x44 stOk [] ∧ OnlyAxis s t n ∧ (t.axis n).st = a.st ∧
        (t.axis n).nets = a.nets ∧ (t.axis n).netsNew = bankSet a.netsNew k (some (obsNetOf p r.2.2 h.port)) ∧
        (t.axis n).evals = a.evals) := by
  intro n a k r ready locked
  obtain ⟨status, bytes⟩ := State.readRange_of_mem (s.accepted_mem h) h.port p.region.toNat p.offset.toNat p.length.toNat
  have effect := doObserverLoad_load (t := s.ticket h (.observerLoad p) ses) (s.ticket_axisOf h _ ses) rfl load fits size (s.accepted h)
  have pinned : (s.accepted h).pinned (axisOf h) = s.pinned n := ok.reads (·.pinned n) fun _ => rfl
  simp only [status, bytes, s.accepted_axis, s.accepted_now, s.accepted_mem, pinned] at effect
  have unpinned : ready → ¬ ((if a.live = true ∧ ¬ s.pinned n = true then (s.accepted h).pinStatus n else stOk) ≠ stOk) := by
    rintro (rest | pin)
    · simp [rest]
    · simp [pin]
  refine ⟨fun bad => ?_, fun read full => ?_, fun read room here stands => ?_, fun read room here free => ?_⟩
  · exact ok.completes_effect rfl (by simp [Cmd.opcode]) (State.readRange_uncounted _ _ _ _ _)
      (fun u => (u.readRange h.port p.region.toNat p.offset.toNat p.length.toNat).2.1) (effect.trans (if_pos bad)) (by simp) (by simp)
      fun u => State.readRange_quiet u _ _ _ _
  all_goals replace effect := effect.trans (if_neg (not_not.2 read))
  · exact ok.completes_reply rfl (by simp [Cmd.opcode]) (by decide) (effect.trans (if_pos full))
  all_goals replace effect := (effect.trans (if_neg (by omega))).trans (if_neg (unpinned here))
  · exact ok.completes_reply rfl (by simp [Cmd.opcode]) (by decide) (effect.trans (if_pos ((a.loadLocked_iff p s.now).2 stands)))
  · replace effect := effect.trans (if_neg (mt (a.loadLocked_iff p s.now).1 free))
    rw [State.readRange_state (status.trans read)] at effect
    obtain ⟨t, row, replied, only, axis⟩ := ok.answersAxis (i := .observerLoad h p) rfl (by simp [Cmd.opcode]) effect
      (State.netWaits_touches _ n _ _ _) (by simp [State.netWaits])
    rw [State.netWaits, State.repin_axis, State.updAxis_axis_self, s.accepted_axis] at axis
    refine ⟨t, row, replied, only, ?_⟩
    rw [axis]
    exact ⟨rfl, rfl, rfl, rfl⟩

/-! ### A POSITION output -/

theorem State.updAxis_updAxis (s : State) (n : Fin 8) (f g : Axis → Axis) :
    (s.updAxis n f).updAxis n g = s.updAxis n fun a => g (f a) := by
  simp only [State.updAxis, bankUpd_bankUpd, Function.comp_def]

/-- A change of an axis is its value at the axis. -/
theorem State.updAxis_congr {s : State} {n : Fin 8} {f g : Axis → Axis} (same : f (s.axis n) = g (s.axis n)) :
    s.updAxis n f = s.updAxis n g := by
  rw [State.updAxis, State.updAxis, bankUpd, bankUpd, ← State.axis, same]

/-- What a POSITION output keeps of its axis whatever state it takes it to: its networks, evaluations and counts. -/
def KeepsNets (a b : Axis) : Prop :=
  b.nets = a.nets ∧ b.evals = a.evals ∧ b.cntObsFault = a.cntObsFault ∧ b.cntMiss = a.cntMiss

theorem KeepsNets.trans {a b c : Axis} (h : KeepsNets a b) (k : KeepsNets b c) : KeepsNets a c := by
  obtain ⟨h1, h2, h3, h4⟩ := h
  obtain ⟨k1, k2, k3, k4⟩ := k
  exact ⟨k1.trans h1, k2.trans h2, k3.trans h3, k4.trans h4⟩

@[simp] theorem State.raiseAll_axis (s : State) (c k i : Nat) (b : Bytes) (n : Fin 8) : (s.raiseAll c k i b).axis n = s.axis n :=
  (s.raiseAll_touches c k i b).2 n id

theorem State.commitCouch_axis (s : State) (n : Fin 8) (x : Handover) :
    KeepsNets (s.axis n) ((s.commitCouch n x).axis n) ∧ ((s.commitCouch n x).axis n).st = .runObs ∧
      ((s.commitCouch n x).axis n).cause = 4 ∧ ((s.commitCouch n x).axis n).handover = none := by
  simp [State.commitCouch, KeepsNets, Axis.take]

theorem State.settleHandover_keeps (s : State) (n : Fin 8) :
    KeepsNets (s.axis n) ((s.settleHandover n).axis n) ∧
      (((s.settleHandover n).axis n).st = (s.axis n).st ∨ ((s.settleHandover n).axis n).st = .runObs) := by
  unfold State.settleHandover
  split
  · split
    · exact ⟨⟨rfl, rfl, rfl, rfl⟩, .inl rfl⟩
    · obtain ⟨keeps, st, -⟩ := s.commitCouch_axis n ‹_›
      exact ⟨keeps, .inr st⟩
  · exact ⟨⟨rfl, rfl, rfl, rfl⟩, .inl rfl⟩

theorem State.settleHandover_none {s : State} {n : Fin 8} (none : (s.axis n).handover = none) : s.settleHandover n = s := by
  rw [State.settleHandover, none]

theorem State.settleHandover_some {s : State} {n : Fin 8} {x : Handover} (waits : (s.axis n).handover = some x) :
    s.settleHandover n = if s.faultMayCome n = true then s else s.commitCouch n x := by
  rw [State.settleHandover, waits]

theorem State.toHfi_keeps (s : State) (n : Fin 8) (cause : Nat) : KeepsNets (s.axis n) ((s.toHfi n cause).axis n) := by
  rw [State.toHfi_axis]
  exact ⟨rfl, rfl, rfl, rfl⟩

theorem State.refuse_axis (s : State) (n : Fin 8) (stay : Bool) :
    KeepsNets (s.axis n) ((s.refuse n stay).axis n) ∧
      (((s.refuse n stay).axis n).st = (s.axis n).st ∨ ((s.refuse n stay).axis n).st = .runHfi) ∧
      ((s.axis n).handover = none → ((s.refuse n stay).axis n).handover = none) := by
  cases stay <;> simp [State.refuse, State.toHfi_axis, KeepsNets]

theorem State.loseSync_axis (s : State) (n : Fin 8) (crit : Nat) (value : Int) :
    KeepsNets (s.axis n) ((s.loseSync n crit value).axis n) ∧ ((s.loseSync n crit value).axis n).st = .lost ∧
      ((s.loseSync n crit value).axis n).handover = none := by
  simp [State.loseSync, KeepsNets]

/-- A change of an axis that takes it to no other state. -/
def Minor (a b : Axis) : Prop := KeepsNets a b ∧ b.st = a.st

/-- What a POSITION output comes to: its values alone, a loss of synchronism or injection out of RUN_OBS, a refusal or an agreement
in COUCH (R316, R338 to R340). -/
inductive Positioned (s : State) (n : Fin 8) : State → Prop
  | stands (f : Axis → Axis) (minor : Minor (s.axis n) (f (s.axis n))) (waits : (f (s.axis n)).handover = (s.axis n).handover) :
      Positioned s n (s.updAxis n f)
  | loses (f : Axis → Axis) (minor : Minor (s.axis n) (f (s.axis n))) (st : (s.axis n).st = .runObs) (k : Nat) (v : Int) :
      Positioned s n ((s.updAxis n f).loseSync n k v)
  | slows (f : Axis → Axis) (minor : Minor (s.axis n) (f (s.axis n))) (st : (s.axis n).st = .runObs) :
      Positioned s n ((s.updAxis n f).toHfi n 3)
  | refuses (f : Axis → Axis) (minor : Minor (s.axis n) (f (s.axis n))) (waits : (f (s.axis n)).handover = (s.axis n).handover)
      (st : (s.axis n).st = .couch) (stay : Bool) : Positioned s n ((s.updAxis n f).refuse n stay)
  | agrees (f : Axis → Axis) (minor : Minor (s.axis n) (f (s.axis n))) (st : (s.axis n).st = .couch) :
      Positioned s n ((s.updAxis n f).settleHandover n)

/-- The values a POSITION output brings. -/
def Axis.takeOutput (theta resid : Nat) (a : Axis) : Axis := { a with thetaObs := theta, residual := resid }

/-- COUCH compares a sample with the angle in use after a step of its sector (R338). -/
def Axis.compare (d : Int) (deg : Nat) (a : Axis) : Axis :=
  if a.stepped then { a with lastD := d, stepped := false, agree := if d.natAbs ≤ deg then a.agree + 1 else 0 } else a

theorem Axis.takeOutput_minor (theta resid : Nat) (a : Axis) : Minor a (a.takeOutput theta resid) := ⟨⟨rfl, rfl, rfl, rfl⟩, rfl⟩

theorem Axis.compare_minor (d : Int) (deg theta resid : Nat) (a : Axis) :
    Minor a ((a.takeOutput theta resid).compare d deg) ∧ ((a.takeOutput theta resid).compare d deg).handover = a.handover := by
  unfold Axis.compare
  split <;> exact ⟨a.takeOutput_minor theta resid, rfl⟩

theorem State.positioned (s : State) (n : Fin 8) (missed first : Bool) : Positioned s n (s.position n missed first) := by
  unfold State.position
  extract_lets a c
  split
  · have stays : s.updAxis n id = s := by rw [State.updAxis, bankUpd_id _ _ _ rfl]
    have stands := Positioned.stands (n := n) id (⟨⟨rfl, rfl, rfl, rfl⟩, rfl⟩ : Minor (s.axis n) (id (s.axis n))) rfl
    rwa [stays] at stands
  · extract_lets o exact_ speed weak theta resid fast crit s1 use s2Obs d s2Couch agreed
    have minor := (s.axis n).takeOutput_minor theta resid
    have minorObs : Minor (s.axis n) (((s.axis n).takeOutput theta resid).take use) := ⟨⟨rfl, rfl, rfl, rfl⟩, rfl⟩
    obtain ⟨minorCouch, waits⟩ := (s.axis n).compare_minor d c.agreeDeg theta resid
    have s1_eq : s1 = s.updAxis n (Axis.takeOutput theta resid) := rfl
    have obs_eq : s2Obs = s.updAxis n fun a => (a.takeOutput theta resid).take use := State.updAxis_updAxis s n _ _
    have couch_eq : s2Couch = s.updAxis n fun a => (a.takeOutput theta resid).compare d c.agreeDeg := State.updAxis_updAxis s n _ _
    clear_value agreed s2Couch s2Obs s1 d use crit fast resid theta weak speed exact_ o
    subst s1_eq obs_eq couch_eq
    split
    · next st =>
      split
      · exact .loses _ minor st _ _
      · split
        · exact .slows _ minorObs st
        · exact .stands _ minorObs rfl
    · next st =>
      split
      · exact .refuses _ minorCouch waits st _
      · split
        · rw [State.updAxis_updAxis]
          exact .agrees _ minorCouch st
        · split
          · exact .refuses _ minorCouch waits st _
          · exact .stands _ minorCouch waits
    · split
      · rw [State.updAxis_updAxis]
        exact .stands _ minorObs rfl
      · exact .stands _ minor rfl
    · exact .stands _ minor rfl

section
variable {s t : State} {n : Fin 8} (h : Positioned s n t)
include h

theorem Positioned.touches : TouchesAxes {n} s t := by
  cases h with
  | stands f => exact s.updAxis_touches n f
  | loses f _ _ k v => exact (s.updAxis_touches n f).trans (State.loseSync_touches _ n k v)
  | slows f => exact (s.updAxis_touches n f).trans (State.toHfi_touches _ n 3)
  | refuses f _ _ _ stay => exact (s.updAxis_touches n f).trans (State.refuse_touches _ n stay)
  | agrees f => exact (s.updAxis_touches n f).trans (State.settleHandover_touches _ n)

theorem Positioned.keeps : KeepsNets (s.axis n) (t.axis n) := by
  cases h with
  | stands f minor =>
    rw [State.updAxis_axis_self]
    exact minor.1
  | loses f minor _ k v => exact minor.1.trans (by simpa using ((s.updAxis n f).loseSync_axis n k v).1)
  | slows f minor => exact minor.1.trans (by simpa using (s.updAxis n f).toHfi_keeps n 3)
  | refuses f minor _ _ stay => exact minor.1.trans (by simpa using ((s.updAxis n f).refuse_axis n stay).1)
  | agrees f minor => exact minor.1.trans (by simpa using ((s.updAxis n f).settleHandover_keeps n).1)

/-- In every state but COUCH and RUN_OBS a POSITION output leaves the state and a hand-over that waits. -/
theorem Positioned.elsewhere (couch : (s.axis n).st ≠ .couch) (obs : (s.axis n).st ≠ .runObs) :
    (t.axis n).st = (s.axis n).st ∧ (t.axis n).handover = (s.axis n).handover := by
  cases h with
  | stands f minor waits =>
    rw [State.updAxis_axis_self]
    exact ⟨minor.2, waits⟩
  | loses f minor st => exact (obs st).elim
  | slows f minor st => exact (obs st).elim
  | refuses f minor waits st => exact (couch st).elim
  | agrees f minor st => exact (couch st).elim

/-- Out of COUCH a POSITION output and what it commits lead to COUCH, RUN_OBS and RUN_HFI. -/
theorem Positioned.of_couch (st : (s.axis n).st = .couch) :
    ((t.settleHandover n).axis n).st = .couch ∨ ((t.settleHandover n).axis n).st = .runObs ∨
      ((t.settleHandover n).axis n).st = .runHfi := by
  have settled := (t.settleHandover_keeps n).2
  suffices moved : (t.axis n).st = .couch ∨ (t.axis n).st = .runObs ∨ (t.axis n).st = .runHfi by
    rcases settled with same | commits
    · rwa [same]
    · exact .inr (.inl commits)
  cases h with
  | stands f minor =>
    rw [State.updAxis_axis_self]
    exact .inl (minor.2.trans st)
  | loses f minor obs => rw [st] at obs; cases obs
  | slows f minor obs => rw [st] at obs; cases obs
  | refuses f minor _ _ stay =>
    rcases ((s.updAxis n f).refuse_axis n stay).2.1 with same | hfi
    · rw [State.updAxis_axis_self] at same
      exact .inl (same.trans (minor.2.trans st))
    · exact .inr (.inr hfi)
  | agrees f minor =>
    rcases ((s.updAxis n f).settleHandover_keeps n).2 with same | commits
    · rw [State.updAxis_axis_self] at same
      exact .inl (same.trans (minor.2.trans st))
    · exact .inr (.inl commits)

/-- Out of RUN_OBS, with no hand-over waiting, a POSITION output leads to RUN_OBS, RUN_HFI and LOST, and nothing is committed. -/
theorem Positioned.of_runObs (st : (s.axis n).st = .runObs) (idle : (s.axis n).handover = none) :
    (t.axis n).handover = none ∧ ((t.axis n).st = .runObs ∨ (t.axis n).st = .runHfi ∨ (t.axis n).st = .lost) := by
  cases h with
  | stands f minor waits =>
    rw [State.updAxis_axis_self]
    exact ⟨waits.trans idle, .inl (minor.2.trans st)⟩
  | loses f minor _ k v =>
    obtain ⟨-, lost, over_⟩ := (s.updAxis n f).loseSync_axis n k v
    exact ⟨over_, .inr (.inr lost)⟩
  | slows f minor =>
    rw [State.toHfi_axis]
    exact ⟨rfl, .inr (.inl rfl)⟩
  | refuses f minor _ couch => rw [st] at couch; cases couch
  | agrees f minor couch => rw [st] at couch; cases couch

end

/-! ### The outputs of an evaluation -/

/-- The network an evaluation leaves, its outputs calendered (R336, R337). -/
def ObsNet.taken (net : ObsNet) (e : Eval) : ObsNet :=
  if e.kind = 0 then (net.calendered e.outs e.fresh).weakBounds net.bound else net.calendered e.outs e.fresh

theorem ObsNet.taken_out (net : ObsNet) (e : Eval) :
    (net.taken e).out = (net.calendered e.outs e.fresh).out ∧ (net.taken e).blob = net.blob := by
  unfold ObsNet.taken ObsNet.weakBounds
  dsimp only
  split
  · split <;> exact ⟨rfl, rfl⟩
  · exact ⟨rfl, rfl⟩

/-- An axis takes the outputs of an evaluation. -/
def Axis.takeOutputs (now : Nat) (e : Eval) (net : ObsNet) (a : Axis) : Axis :=
  { a with nets := bankSet a.nets e.kind (some net), evals := a.evals.filter (fun x => x.kind != e.kind),
           latLast := min 65535 ((now - e.valleyAt) * 10),
           latMax := max a.latMax (min 65535 ((now - e.valleyAt) * 10)) }.countSat net.bounded

theorem Axis.takeOutputs_eq (now : Nat) (e : Eval) (net : ObsNet) (a : Axis) :
    let b := a.takeOutputs now e net
    b.st = a.st ∧ b.handover = a.handover ∧ b.missN = a.missN ∧ b.nets = bankSet a.nets e.kind (some net) ∧
      b.evals = a.evals.filter (fun x => x.kind != e.kind) := by
  unfold Axis.takeOutputs Axis.countSat
  split <;> exact ⟨rfl, rfl, rfl, rfl, rfl⟩

/-- The state in which an evaluation's outputs are taken, its saturated values counted (R183, R327). -/
def State.outputsTaken (s : State) (n : Fin 8) (e : Eval) (net : ObsNet) : State :=
  (s.updCores fun c => { c with cntSat := satAdd 65535 c.cntSat e.sat }).updAxis n (Axis.takeOutputs s.now e net)

theorem State.outputsTaken_touches (s : State) (n : Fin 8) (e : Eval) (net : ObsNet) :
    TouchesAxes {n} s (s.outputsTaken n e net) := by
  have cores : TouchesAxes {n} s (s.updCores fun c => { c with cntSat := satAdd 65535 c.cntSat e.sat }) := ⟨rfl, fun _ _ => rfl⟩
  exact cores.trans (State.updAxis_touches _ n _)

theorem State.outputsTaken_axis (s : State) (n : Fin 8) (e : Eval) (net : ObsNet) :
    (s.outputsTaken n e net).axis n = (s.axis n).takeOutputs s.now e net := State.updAxis_axis_self _ n _

section
variable {s : State} {n : Fin 8} {e : Eval} {net : ObsNet} (loaded : (s.axis n).nets.get e.kind = some net)
include loaded

theorem State.calenderOut_eq : s.calenderOut n e =
    (if e.kind = 0 then (s.outputsTaken n e (net.taken e)).position n false e.fresh
     else s.outputsTaken n e (net.taken e)).settleHandover n := by
  unfold State.calenderOut
  dsimp -proj only
  rw [loaded]
  rfl

theorem State.calenderOut_touches : TouchesAxes {n} s (s.calenderOut n e) := by
  rw [State.calenderOut_eq loaded]
  refine (s.outputsTaken_touches n e (net.taken e)).trans (TouchesAxes.trans ?_ (State.settleHandover_touches _ n))
  split
  · exact (State.positioned _ n _ _).touches
  · exact .refl _ _

theorem State.calenderOut_keeps : KeepsNets ((s.axis n).takeOutputs s.now e (net.taken e)) ((s.calenderOut n e).axis n) := by
  rw [State.calenderOut_eq loaded, ← State.outputsTaken_axis]
  refine KeepsNets.trans ?_ (State.settleHandover_keeps _ n).1
  split
  · exact (State.positioned _ n _ _).keeps
  · exact ⟨rfl, rfl, rfl, rfl⟩

/-- What an evaluation's outputs make of a state with no hand-over waiting (Table 17-6). -/
theorem State.calenderOut_st (idle : (s.axis n).handover = none) :
    if e.kind = 0 then
      match (s.axis n).st with
      | .couch => ((s.calenderOut n e).axis n).st = .couch ∨ ((s.calenderOut n e).axis n).st = .runObs ∨
          ((s.calenderOut n e).axis n).st = .runHfi
      | .runObs => ((s.calenderOut n e).axis n).st = .runObs ∨ ((s.calenderOut n e).axis n).st = .runHfi ∨
          ((s.calenderOut n e).axis n).st = .lost
      | st => ((s.calenderOut n e).axis n).st = st
    else ((s.calenderOut n e).axis n).st = (s.axis n).st := by
  obtain ⟨st, waits, -⟩ := (s.axis n).takeOutputs_eq s.now e (net.taken e)
  rw [← State.outputsTaken_axis] at st waits
  replace waits := waits.trans idle
  rw [State.calenderOut_eq loaded]
  split
  · have moved := (s.outputsTaken n e (net.taken e)).positioned n false e.fresh
    split
    · next couch => exact moved.of_couch (st.trans couch)
    · next obs =>
      obtain ⟨stays, leads⟩ := moved.of_runObs (st.trans obs) waits
      rwa [State.settleHandover_none stays]
    · next other no_couch no_obs =>
      obtain ⟨same, stays⟩ := moved.elsewhere (by rwa [st]) (by rwa [st])
      rw [State.settleHandover_none (stays.trans waits), same, st]
  · rw [State.settleHandover_none waits, st]

omit loaded in
/-- The networks of the evaluations that are left are those of before. -/
theorem State.outputsTaken_faultMayCome : (s.outputsTaken n e (net.taken e)).faultMayCome n =
    (s.updAxis n fun a => { a with evals := a.evals.filter fun x => x.kind != e.kind }).faultMayCome n := by
  obtain ⟨-, -, missN, nets, evals⟩ := (s.axis n).takeOutputs_eq s.now e (net.taken e)
  have volts : (s.outputsTaken n e (net.taken e)).vcoreMv = s.vcoreMv := (s.outputsTaken_touches n e _).vcoreMv_eq
  unfold State.faultMayCome
  rw [volts, (s.updAxis_touches n _).vcoreMv_eq, State.outputsTaken_axis, State.updAxis_axis_self, missN, nets, evals]
  refine congrArg _ (Bool.eq_iff_iff.2 ?_)
  rw [List.any_eq_true, List.any_eq_true]
  refine exists_congr fun x => and_congr_right fun mem => ?_
  have other : x.kind ≠ e.kind := by simpa using (List.mem_filter.1 mem).2
  rw [bankSet_get, if_neg fun eq => other eq.symm]

/-- A hand-over that waits commits with the outputs of another network once no network can reach MISS_N (R338, Table 17-6). -/
theorem State.calenderOut_handover {x : Handover} (waits : (s.axis n).handover = some x) (other : e.kind ≠ 0) :
    if (s.updAxis n fun a => { a with evals := a.evals.filter fun x => x.kind != e.kind }).faultMayCome n = true then
      ((s.calenderOut n e).axis n).st = (s.axis n).st
    else ((s.calenderOut n e).axis n).st = .runObs ∧ ((s.calenderOut n e).axis n).cause = 4 := by
  obtain ⟨st, handover, -⟩ := (s.axis n).takeOutputs_eq s.now e (net.taken e)
  rw [← State.outputsTaken_axis] at st handover
  rw [State.calenderOut_eq loaded, if_neg other, State.settleHandover_some (handover.trans waits),
    State.outputsTaken_faultMayCome]
  split
  · exact st
  · obtain ⟨-, runs, cause, -⟩ := (s.outputsTaken n e (net.taken e)).commitCouch_axis n x
    exact ⟨runs, cause⟩

end

/-- Outputs that leave the calender in time are those of the evaluation in hand (R331, R54). -/
theorem exec_calenderOutput {s : State} {n : Fin 8} {e : Eval} (hand : s.evalFirst (coreOf n) = some (n, e))
    (inTime : s.now ≤ e.valleyAt + 160) (runs : s.fabric.dbgHalt.get (coreOf n) = false) :
    exec (.calenderOutput n e.kind) s = .next ((s.calenderOut n e).noteOutputs s n) := by
  have row : exec (.calenderOutput n e.kind) s = execCalenderOutput n e.kind s := rfl
  rw [row, execCalenderOutput, hand]
  exact congrArg _ (if_pos ⟨rfl, rfl, inTime, by simp [runs]⟩)

/-- A halted core gives no outputs (R54). -/
theorem exec_calenderOutput_halted {s : State} {n : Fin 8} {k : Fin 3} (halted : s.fabric.dbgHalt.get (coreOf n) = true) :
    exec (.calenderOutput n k) s = .next s := by
  have row : exec (.calenderOutput n k) s = execCalenderOutput n k s := rfl
  rw [row, execCalenderOutput]
  split
  · exact congrArg _ (if_neg fun ⟨_, _, _, runs⟩ => runs halted)
  · rfl

/-- What noting the outputs leaves: the status alone follows. -/
theorem State.noteOutputs_axis (s before : State) (n : Fin 8) : ∃ x : AxStatus, x.sample = (s.axis n).status.sample ∧
    (s.noteOutputs before n).axis n = { s.axis n with status := x } :=
  ⟨(s.axis n).status.follow (before.statusOf n) (s.statusOf n), rfl, s.updAxis_axis_self n _⟩

/-! ### A missed evaluation -/

/-- An axis misses an evaluation of a network. -/
def Axis.miss (k : Fin 3) (net : ObsNet) (a : Axis) : Axis :=
  { a with nets := bankSet a.nets k (some net), evals := a.evals.filter (fun x => x.kind != k),
           cntMiss := satInc 65535 a.cntMiss }

section
variable {s : State} {n : Fin 8} {k : Fin 3} {net : ObsNet} (loaded : (s.axis n).nets.get k = some net) (counts : 720 ≤ s.vcoreMv)
include loaded counts

/-- A miss below MISS_N is counted. -/
theorem State.missEval_below (first : Bool) (below : net.missRun + 1 < (s.axis n).missN) (other : k ≠ 0)
    (idle : (s.axis n).handover = none) :
    s.missEval n k first = s.updAxis n (Axis.miss k { net with missRun := net.missRun + 1 }) := by
  have short : ¬ (s.axis n).missN ≤ net.missRun + 1 := by omega
  unfold State.missEval
  simp only [loaded, counts, short, other, decide_true, decide_false, Bool.and_false, Bool.false_eq_true, if_true, if_false,
    false_and]
  rw [State.settleHandover_none (by rw [State.updAxis_axis_self]; exact idle)]
  rfl

/-- A miss at MISS_N is an observer fault (R334). -/
theorem State.missEval_fails (first : Bool) (fails : (s.axis n).missN ≤ net.missRun + 1) :
    s.missEval n k first =
      let u := (s.updAxis n (Axis.miss k { net with missRun := 0 })).observerFault n
      (if k = 0 ∧ (u.axis n).st ≠ .fault then u.position n true first else u).settleHandover n := by
  unfold State.missEval
  simp only [loaded, counts, fails, decide_true, Bool.and_true, if_true]
  rfl

end

/-- What an observer fault counts and does (R334, Table 17-6). -/
theorem State.observerFault_axis (s : State) (n : Fin 8) :
    let a := s.axis n
    let b := (s.observerFault n).axis n
    b.cntObsFault = satInc 65535 a.cntObsFault ∧ b.cntMiss = a.cntMiss ∧
      if a.st = .align ∨ a.st = .runHfi ∨ a.st = .couch ∨ a.st = .runObs then b.st = .fault ∧ b.cause = 15 ∧ b.handover = none
      else b.st = a.st ∧ b.handover = a.handover := by
  unfold State.observerFault
  cases st : (s.axis n).st <;> simp [State.axisFault, st]

theorem observerFault_acts {s : State} {n : Fin 8} {k : Fin 3} {net : ObsNet} {first : Bool}
    (loaded : (s.axis n).nets.get k = some net) (counts : 720 ≤ s.vcoreMv) (fails : (s.axis n).missN ≤ net.missRun + 1) :
    let t := s.missEval n k first
    TouchesAxes {n} s t ∧ (t.axis n).cntObsFault = satInc 65535 (s.axis n).cntObsFault ∧
      (t.axis n).cntMiss = satInc 65535 (s.axis n).cntMiss ∧
      ((s.axis n).st = .align ∨ (s.axis n).st = .runHfi ∨ (s.axis n).st = .couch ∨ (s.axis n).st = .runObs →
        (t.axis n).st = .fault ∧ (t.axis n).cause = 15) ∧
      ((s.axis n).st = .stopping ∨ (s.axis n).st = .lost → (s.axis n).handover = none → (t.axis n).st = (s.axis n).st) := by
  intro t
  have eq : t = _ := State.missEval_fails loaded counts first fails
  obtain ⟨faults, missed, st⟩ := (s.updAxis n (Axis.miss k { net with missRun := 0 })).observerFault_axis n
  have touches := (s.updAxis_touches n (Axis.miss k { net with missRun := 0 })).trans (State.observerFault_touches _ n)
  simp only [State.updAxis_axis_self, Axis.miss] at faults missed st
  dsimp only at eq
  have moved := (((s.updAxis n (Axis.miss k { net with missRun := 0 })).observerFault n)).positioned n true first
  generalize (s.updAxis n (Axis.miss k { net with missRun := 0 })).observerFault n = u at *
  have after : TouchesAxes {n} u t ∧ KeepsNets (u.axis n) (t.axis n) := by
    rw [eq]
    have settled := State.settleHandover_keeps (if k = 0 ∧ (u.axis n).st ≠ .fault then u.position n true first else u) n
    refine ⟨TouchesAxes.trans ?_ (State.settleHandover_touches _ n), KeepsNets.trans ?_ settled.1⟩
    · split
      · exact moved.touches
      · exact .refl _ u
    · split
      · exact moved.keeps
      · exact ⟨rfl, rfl, rfl, rfl⟩
  obtain ⟨step, -, -, obsFaults, misses⟩ := after
  refine ⟨touches.trans step, obsFaults.trans faults, misses.trans missed, fun runs => ?_, fun stays idle => ?_⟩
  · rw [if_pos runs] at st
    obtain ⟨fault, cause, none_⟩ := st
    rw [eq, if_neg fun both => both.2 fault, State.settleHandover_none none_]
    exact ⟨fault, cause⟩
  · rw [if_neg (by rcases stays with h | h <;> simp [h])] at st
    obtain ⟨same, waits⟩ := st
    rw [eq]
    split
    · obtain ⟨same', waits'⟩ := moved.elsewhere (by rcases stays with h | h <;> simp [same, h])
        (by rcases stays with h | h <;> simp [same, h])
      rw [State.settleHandover_none (waits'.trans (waits.trans idle)), same', same]
    · rw [State.settleHandover_none (waits.trans idle), same]

/-- An evaluation past its time is missed. -/
theorem exec_observerDeadlineMiss {s : State} {n : Fin 8} {k : Fin 3} {e : Eval}
    (found : (s.axis n).evals.find? (fun x => x.kind == k) = some e) (due : e.valleyAt + 160 ≤ s.now) :
    exec (.observerDeadlineMiss n k) s = .next ((s.missEval n k e.fresh).noteOutputs s n) := by
  have row : exec (.observerDeadlineMiss n k) s = execObserverDeadlineMiss n k s := rfl
  rw [row, execObserverDeadlineMiss, found]
  exact congrArg _ (if_pos due)

/-- Settles O26: loads and unloads by what stands in their way, outputs by what a POSITION output can come to, misses by MISS_N. -/
theorem observersAct : Obligations.ObserversAct := by
  refine ⟨fun s h ses p ok => ⟨observerUnload_acts ok, observerLoad_acts ok⟩, fun s n e net hand loaded inTime runs => ?outputs,
    fun s n k halted => exec_calenderOutput_halted halted, fun s n k e net found loaded idle due other counts below => ?below,
    fun s n k e net found loaded due counts fails => ?fails, fun s n k net loaded bad free2 free3 => ?restored⟩
  case outputs =>
    obtain ⟨x, -, noted⟩ := State.noteOutputs_axis (s.calenderOut n e) s n
    obtain ⟨nets, evals, -⟩ := State.calenderOut_keeps loaded
    obtain ⟨-, -, -, nets', evals'⟩ := (s.axis n).takeOutputs_eq s.now e (net.taken e)
    obtain ⟨out, blob⟩ := net.taken_out e
    refine ⟨_, exec_calenderOutput hand inTime runs,
      ((State.calenderOut_touches loaded).trans (State.noteOutputs_touches _ s n)).onlyAxis, ?_⟩
    rw [noted]
    refine ⟨⟨net.taken e, ?_, out, blob⟩, fun x mem => ?_, State.calenderOut_st loaded, fun waits other => ?_⟩
    · show ((s.calenderOut n e).axis n).nets.get e.kind = _
      rw [nets, nets', bankSet_get_self]
    · replace mem : x ∈ ((s.calenderOut n e).axis n).evals := mem
      rw [evals, evals'] at mem
      simpa using (List.mem_filter.1 mem).2
    · obtain ⟨y, waits⟩ := Option.ne_none_iff_exists'.1 waits
      exact State.calenderOut_handover loaded waits other
  case below =>
    have row := exec_observerDeadlineMiss found due
    rw [State.missEval_below loaded counts _ below other idle, State.noteOutputs, State.updAxis_updAxis] at row
    refine ⟨(s.axis n).status.follow (s.statusOf n)
      ((s.updAxis n (Axis.miss k { net with missRun := net.missRun + 1 })).statusOf n), rfl,
      row.trans (congrArg _ (State.updAxis_congr rfl))⟩
  case fails =>
    obtain ⟨touches, acts⟩ := observerFault_acts (first := e.fresh) loaded counts fails
    obtain ⟨x, -, noted⟩ := State.noteOutputs_axis (s.missEval n k e.fresh) s n
    refine ⟨_, exec_observerDeadlineMiss found due, (touches.trans (State.noteOutputs_touches _ s n)).onlyAxis, ?_⟩
    rw [noted]
    exact acts
  case restored =>
    have row : exec (.weightRestoreDone n k) s = execWeightRestoreDone n k s := rfl
    rw [row, execWeightRestoreDone, loaded]
    exact congrArg _ (if_neg (by simp [bad, free2, free3]))

end Sys2Proof.Machine
end

section
/-! PROOFS. What the timebase's changes of state and reference leave alone; the time pulses' edges and PPSI (R274 to R276, R280,
R282). -/

namespace Sys2Proof.Machine

/-! ### What a change of state, of reference or an offset leaves alone -/

/-- A timebase keeps its time, its settings, its pulses and, but for what they count as rejected, its references' measurements. -/
def Timebase.Steady (t u : Timebase) : Prop :=
  u.fine = t.fine ∧ u.running = t.running ∧ u.set = t.set ∧ u.pulses = t.pulses ∧
    u.ptp = { t.ptp with cntDiscard := u.ptp.cntDiscard } ∧ u.ppsi = { t.ppsi with cntReject := u.ppsi.cntReject }

theorem Timebase.Steady.refl (t : Timebase) : t.Steady t := ⟨rfl, rfl, rfl, rfl, rfl, rfl⟩

theorem Timebase.Steady.trans {t u v : Timebase} (h : t.Steady u) (k : u.Steady v) : t.Steady v := by
  obtain ⟨h1, h2, h3, h4, h5, h6⟩ := h
  obtain ⟨k1, k2, k3, k4, k5, k6⟩ := k
  exact ⟨k1.trans h1, k2.trans h2, k3.trans h3, k4.trans h4, by rw [k5, h5], by rw [k6, h6]⟩

/-- Nothing but a steady timebase and what the ports hold differs between two states. -/
def TimeMoves (s t : State) : Prop := t = { s with tb := t.tb, owners := t.owners } ∧ s.tb.Steady t.tb

theorem TimeMoves.refl (s : State) : TimeMoves s s := ⟨rfl, .refl _⟩

theorem TimeMoves.trans {s t u : State} (h : TimeMoves s t) (k : TimeMoves t u) : TimeMoves s u :=
  ⟨by rw [k.1, h.1], h.2.trans k.2⟩

theorem State.updTb_moves (s : State) (f : Timebase → Timebase) (steady : s.tb.Steady (f s.tb)) : TimeMoves s (s.updTb f) :=
  ⟨rfl, steady⟩

theorem State.raiseAll_onlyOwners (s : State) (c k i : Nat) (b : Bytes) :
    s.raiseAll c k i b = { s with owners := (s.raiseAll c k i b).owners } := by
  have step : ∀ (l : List Port) (u : State), u = { s with owners := u.owners } →
      l.foldl (fun s p => s.raise c k i b p) u = { s with owners := (l.foldl (fun s p => s.raise c k i b p) u).owners } := by
    intro l
    induction l with
    | nil => exact fun u same => same
    | cons p l ih =>
      intro u same
      refine ih _ ?_
      rw [same]
      rfl
  exact step _ s rfl

theorem State.raiseAll_moves (s : State) (c k i : Nat) (b : Bytes) : TimeMoves s (s.raiseAll c k i b) := by
  refine ⟨?_, ?_⟩
  · rw [s.raiseAll_onlyOwners]
  · rw [s.raiseAll_onlyOwners]
    exact .refl _

theorem State.toTb_moves (s : State) (st : TbSt) : TimeMoves s (s.toTb st) := by
  unfold State.toTb
  extract_lets t u t0 t1 s1
  have moved : TimeMoves s s1 := s.updTb_moves _ (by cases st <;> exact .refl _)
  split
  · exact moved
  · exact moved.trans (State.raiseAll_moves _ _ _ _ _)

theorem State.useRef_moves (s : State) (r : Ref) : TimeMoves s (s.useRef r) := by
  unfold State.useRef
  extract_lets t s1
  have moved : TimeMoves s s1 := s.updTb_moves _ (.refl _)
  split
  · exact .refl s
  · split
    case h_1 | h_4 => exact moved
    all_goals exact moved.trans (State.toTb_moves _ _)

theorem State.judgeRef_moves (s : State) : TimeMoves s s.judgeRef :=
  (s.updTb_moves _ (.refl _)).trans (State.useRef_moves _ _)

theorem Timebase.setF_steady (t : Timebase) (now : Nat) (f : Int) : t.Steady (t.setF now f) := by
  unfold Timebase.setF
  split <;> exact .refl _

theorem State.servo_moves (s : State) (o : Int) (at_ : Nat) : TimeMoves s (s.servo o at_) :=
  s.updTb_moves _ (s.tb.setF_steady s.now _)

theorem Timebase.slewTo_steady (t : Timebase) (o : Int) : t.Steady (t.slewTo o) := by
  unfold Timebase.slewTo
  split <;> exact .refl _

theorem State.firstOffset_moves (s : State) (o : Int) (at_ : Nat) : TimeMoves s (s.firstOffset o at_) := by
  refine s.updTb_moves _ ?_
  dsimp only
  split
  · exact .refl _
  · exact Timebase.slewTo_steady { s.tb with needFirst := false, lastAt := some at_ } o

theorem Timebase.discarded_steady (t : Timebase) : t.Steady t.discarded := by
  unfold Timebase.discarded
  split <;> exact .refl _

theorem State.takeOffset_moves (s : State) (o : Int) (at_ : Nat) : TimeMoves s (s.takeOffset o at_) := by
  unfold State.takeOffset
  extract_lets s0 t s1 s2
  have latest : TimeMoves s s0 := s.updTb_moves _ (.refl _)
  have counted : TimeMoves s0 s1 := s0.updTb_moves _ (.refl _)
  have moved : TimeMoves s0 s2 := by
    refine counted.trans ?_
    clear_value s1
    dsimp only [s2]
    split
    · exact s1.firstOffset_moves _ _
    · split
      · exact s1.updTb_moves _ (.refl _)
      · split
        · exact s1.updTb_moves _ (Timebase.slewTo_steady { s1.tb with lastAt := some at_ } o)
        · exact s1.servo_moves _ _
  clear_value s2 s1 s0
  have locks : TimeMoves s0 (if s2.tb.set.lockN ≤ s2.tb.inLock ∧ ¬ s2.tb.pendingStep = true ∧ s2.tb.s = 0 then s2.toTb .locked else s2) := by
    split
    · exact moved.trans (State.toTb_moves _ _)
    · exact moved
  refine latest.trans ?_
  split
  · exact .refl s0
  · exact .refl s0
  · split
    · split
      · exact s0.updTb_moves _ s0.tb.discarded_steady
      · exact ((s0.toTb_moves _).trans (State.updTb_moves _ _ (.refl _))).trans (State.firstOffset_moves _ _ _)
    · exact (s0.updTb_moves _ (.refl _)).trans (State.servo_moves _ _ _)
  · exact locks
  · exact locks

/-! ### Every port or group in turn -/

/-- Each place of a list of different places is changed once. -/
theorem foldl_bankUpd {α : Type} {n : Nat} (g : Fin n → α → α) {l : List (Fin n)} (once : l.Nodup) (v : Vector α n) (k : Fin n) :
    (l.foldl (fun v i => bankUpd v i (g i)) v).get k = if k ∈ l then g k (v.get k) else v.get k := by
  induction l generalizing v with
  | nil => rfl
  | cons i l ih =>
    obtain ⟨out, rest⟩ := List.nodup_cons.1 once
    rw [List.foldl_cons, ih rest, bankUpd_get]
    by_cases h : i = k
    · subst h
      simp [out]
    · have other : k ≠ i := fun e => h e.symm
      simp [h, other]

/-- What raising an event makes of an owner. -/
def State.takes (s : State) (c k i : Nat) (b : Bytes) (p : Port) (o : OwnerState) : OwnerState :=
  o.takeEvent s.now (s.portDead p) ⟨c, k, i, 0, s.eventBody b⟩

/-- An event raised for every owner is taken by each (R121). -/
theorem State.raiseAll_owner (s : State) (c k i : Nat) (b : Bytes) (p : Port) :
    (s.raiseAll c k i b).owner p = s.takes c k i b p (s.owner p) := by
  have walk : ∀ (l : List Port) (v : Vector OwnerState 4), l.foldl (fun s p => s.raise c k i b p) { s with owners := v } =
      { s with owners := l.foldl (fun v p => bankUpd v p (s.takes c k i b p)) v } := by
    intro l
    induction l with
    | nil => exact fun v => rfl
    | cons p l ih => exact fun v => ih _
  have each := foldl_bankUpd (s.takes c k i b) (List.nodup_finRange 4) s.owners p
  rw [if_pos (List.mem_finRange p)] at each
  exact (congrArg (State.owner · p) (walk (List.finRange 4) s.owners)).trans each

theorem State.trigSource_eq (s : State) (src : Nat) : s.trigSource src =
    { s with sensors := (List.finRange 6).foldl (fun v i => bankUpd v i fun x => x.edgeOf src s.now) s.sensors } := by
  have walk : ∀ (l : List (Fin 6)) (v : Vector SnsPort 6),
      l.foldl (fun (s : State) k => s.updSensor k fun x => x.edgeOf src s.now) { s with sensors := v } =
        { s with sensors := l.foldl (fun v i => bankUpd v i fun x => x.edgeOf src s.now) v } := by
    intro l
    induction l with
    | nil => exact fun v => rfl
    | cons i l ih => exact fun v => ih _
  exact walk _ s.sensors

theorem State.trigSource_sns (s : State) (src : Nat) (k : Fin 6) : (s.trigSource src).sns k = (s.sns k).edgeOf src s.now := by
  have each := foldl_bankUpd (fun _ x => SnsPort.edgeOf x src s.now) (List.nodup_finRange 6) s.sensors k
  rw [if_pos (List.mem_finRange k)] at each
  rw [State.trigSource_eq]
  exact each

theorem State.strobeEdge_eq (s : State) (p : Fin 4) (e : Nat) : ∃ i, s.strobeEdge p e = { s with illum := i } := by
  refine forAll_keeps (P := fun t => ∃ i, t = { s with illum := i }) ?_ s ⟨s.illum, rfl⟩
  rintro _ g ⟨i, rfl⟩
  exact ⟨_, rfl⟩

/-- An edge of a source is noted at every port that saw none of it in its tick. -/
theorem SnsPort.edgeOf_seen (x : SnsPort) (n : Fin 4) (now : Nat)
    (unseen : (x.seen.get (Fin.ofNat 12 n.val)).map (·.1) ≠ some now) :
    (x.edgeOf (1 + n.val) now).seen.get (Fin.ofNat 12 n.val) = some (now, false) := by
  unfold SnsPort.edgeOf
  rw [if_neg (by omega)]
  show (bankUpd x.seen (Fin.ofNat 12 (1 + n.val - 1)) _).get _ = _
  rw [Nat.add_sub_cancel_left, bankUpd_get_self, if_neg unseen]

/-! ### Time pulses -/

/-- A pulse at rest has no active phase to end. -/
theorem Pulse.due_rest {p : Pulse} (rest : p.active = false) (now ns : Nat) : p.due now ns = p := by
  simp [Pulse.due, Pulse.over_, rest]

/-- A change of a pulse is its value at the pulse. -/
theorem State.updPulse_congr {s : State} {n : Fin 4} {f g : Pulse → Pulse} (same : f (s.tb.pulses.get n) = g (s.tb.pulses.get n)) :
    s.updPulse n f = s.updPulse n g := by
  rw [State.updPulse, State.updPulse, State.updTb, State.updTb, bankUpd, bankUpd, same]

theorem State.updPulse_id (s : State) (n : Fin 4) : s.updPulse n id = s := by
  have same : bankUpd s.tb.pulses n id = s.tb.pulses := bankUpd_id _ _ _ rfl
  rw [State.updPulse, State.updTb, same]

theorem State.updPulse_due_rest {s : State} {n : Fin 4} (rest : (s.tb.pulses.get n).active = false) :
    (s.updPulse n fun p => p.due s.now s.devNs) = s :=
  (State.updPulse_congr (g := id) (Pulse.due_rest rest _ _)).trans (s.updPulse_id n)

/-- A pulse is gated, or a step has put its edges off (R280, R283). -/
def State.pulseHeld (s : State) (p : Pulse) : Bool :=
  (p.cfg.gate && (s.tb.st == .free || s.tb.st == .locking)) || decide (s.now < p.fromTick)

/-- An active phase begins at the edge `e`. -/
def Pulse.lead (e : Nat) (p : Pulse) : Pulse :=
  { p with active := true, activeEnd := e + p.cfg.width, endTick := none, fromNs := e + 1, level := !p.cfg.pol,
           edges := satInc 0xFFFFFFFF p.edges }

theorem exec_tpLeadingEdge {s : State} {n : Fin 4} (rest : (s.tb.pulses.get n).active = false)
    (en : (s.tb.pulses.get n).cfg.en = true) (runs : s.pulsesRun = true) :
    let p := s.tb.pulses.get n
    let e := p.cfg.edgeFrom p.fromNs
    exec (.tpLeadingEdge n) s = .next
      (if e ≤ s.devNs then
        if s.pulseHeld p then s.updPulse n fun p => { p with suppr := satInc 65535 p.suppr, fromNs := e + 1 }
        else ((s.updPulse n (Pulse.lead e)).strobeEdge n e).trigSource (1 + n.val)
      else s) := by
  have row : exec (.tpLeadingEdge n) s = execTpLeadingEdge n s := rfl
  rw [row, execTpLeadingEdge, State.updPulse_due_rest rest]
  simp only [en, rest, runs, Bool.false_eq_true, not_false_eq_true, and_true, true_and]
  rfl

theorem tpLeadingEdge_acts {s : State} {n : Fin 4} (rest : (s.tb.pulses.get n).active = false)
    (en : (s.tb.pulses.get n).cfg.en = true) (runs : s.pulsesRun = true) (past : (s.tb.pulses.get n).fromTick ≤ s.now) :
    let p := s.tb.pulses.get n
    let e := p.cfg.edgeFrom p.fromNs
    if s.devNs < e then exec (.tpLeadingEdge n) s = .next s
    else if p.cfg.gate = true ∧ (s.tb.st = .free ∨ s.tb.st = .locking) then
      exec (.tpLeadingEdge n) s = .next (s.updPulse n fun p => { p with suppr := satInc 65535 p.suppr, fromNs := e + 1 })
    else
      ∃ t, exec (.tpLeadingEdge n) s = .next t ∧ t.tb = { s.tb with pulses := bankSet s.tb.pulses n { p with
          active := true, activeEnd := e + p.cfg.width, endTick := none, fromNs := e + 1, level := !p.cfg.pol,
          edges := satInc 0xFFFFFFFF p.edges } } ∧
        (∀ k, ((s.sns k).seen.get (Fin.ofNat 12 n.val)).map (·.1) ≠ some s.now →
          (t.sns k).seen.get (Fin.ofNat 12 n.val) = some (s.now, false)) ∧ t.axes = s.axes ∧ t.mem = s.mem ∧ t.leases = s.leases := by
  intro p e
  have row := exec_tpLeadingEdge rest en runs
  have held : s.pulseHeld p = true ↔ p.cfg.gate = true ∧ (s.tb.st = .free ∨ s.tb.st = .locking) := by
    have past : ¬ s.now < p.fromTick := Nat.not_lt.2 past
    simp [State.pulseHeld, past]
  dsimp only at row
  split
  · next early => rw [row, if_neg (Nat.not_le.2 early)]
  · next due =>
    rw [if_pos (Nat.not_lt.1 due)] at row
    split
    · next gated => rw [row, if_pos (held.2 gated)]
    · next drives =>
      rw [if_neg (mt held.1 drives)] at row
      obtain ⟨i, strobed⟩ := (s.updPulse n (Pulse.lead e)).strobeEdge_eq n e
      rw [strobed] at row
      refine ⟨_, row, ?_, fun k unseen => ?_, ?_, ?_, ?_⟩
      · rw [State.trigSource_eq]
        rfl
      · rw [State.trigSource_sns]
        exact SnsPort.edgeOf_seen _ _ _ unseen
      all_goals rw [State.trigSource_eq]; rfl

theorem tpTrailingEdge_acts {s : State} {n : Fin 4} (active : (s.tb.pulses.get n).active = true)
    (stays : (s.tb.pulses.get n).next = none) :
    let p := s.tb.pulses.get n
    (p.endTick = none → exec (.tpTrailingEdge n) s = .next (if p.activeEnd ≤ s.devNs then
      s.updPulse n fun p => { p with active := false, level := p.cfg.pol } else s)) ∧
    (∀ k, p.endTick = some k → exec (.tpTrailingEdge n) s = .next (if k ≤ s.now then
      s.updPulse n fun p => { p with active := false, level := p.cfg.pol, endTick := none } else s)) := by
  have row : exec (.tpTrailingEdge n) s = .next (s.updPulse n fun p => p.due s.now s.devNs) := rfl
  intro p
  refine ⟨fun ends => ?_, fun k ends => ?_⟩
  · have over_ : p.over_ s.now s.devNs = decide (p.activeEnd ≤ s.devNs) := by
      simp only [Pulse.over_, p, active, Bool.true_and]
      rw [show (s.tb.pulses.get n).endTick = none from ends]
    have trail : p.trail s.devNs = { p with active := false, level := p.cfg.pol } := by
      rw [Pulse.trail, stays, ← ends]
      rfl
    rw [row]
    split
    · next due => exact congrArg _ (State.updPulse_congr ((if_pos (by rw [over_, decide_eq_true due])).trans trail))
    · next early =>
      exact congrArg _ ((State.updPulse_congr (g := id) (if_neg (by rw [over_, decide_eq_false early]; exact Bool.false_ne_true))).trans
        (s.updPulse_id n))
  · have over_ : p.over_ s.now s.devNs = decide (k ≤ s.now) := by
      simp only [Pulse.over_, p, active, Bool.true_and]
      rw [show (s.tb.pulses.get n).endTick = some k from ends]
    have trail : p.trail s.devNs = { p with active := false, level := p.cfg.pol, endTick := none } := by
      rw [Pulse.trail, stays]
      rfl
    rw [row]
    split
    · next due => exact congrArg _ (State.updPulse_congr ((if_pos (by rw [over_, decide_eq_true due])).trans trail))
    · next early =>
      exact congrArg _ ((State.updPulse_congr (g := id) (if_neg (by rw [over_, decide_eq_false early]; exact Bool.false_ne_true))).trans
        (s.updPulse_id n))

/-! ### PPSI -/

/-- An edge lies 1 s ± 100 µs after the last accepted one. -/
def Ppsi.near (p : Ppsi) (k : Nat) : Bool :=
  match p.lastAt with
  | some a => between 9999000000 (k - a) 10001000000
  | none => false

theorem Ppsi.near_iff (p : Ppsi) (k : Nat) : p.near k = true ↔ ∃ a, p.lastAt = some a ∧ a + 9999000000 ≤ k ∧ k ≤ a + 10001000000 := by
  unfold Ppsi.near
  cases p.lastAt with
  | none => simp
  | some a =>
    simp only [between, Bool.and_eq_true, decide_eq_true_eq, Option.some.injEq, exists_eq_left']
    omega

/-- An accepted edge. -/
def Ppsi.accept (k : Nat) (p : Ppsi) : Ppsi :=
  { p with lastAt := some k, run := if p.first then 1 else p.run + 1,
           valid := p.valid || decide (3 ≤ if p.first then 1 else p.run + 1), first := false, setSec := none,
           cntEdges := satInc 65535 p.cntEdges }

/-- The references are judged with an accepted edge, and its offset is taken where PPSI is in use. -/
def State.edgeTaken (s : State) (sub : Nat) : State :=
  let s2 := (s.updTb fun t => { t with ppsi := t.ppsi.accept (s.tenths sub) }).judgeRef
  if s2.tb.refUse = .ppsi then s2.takeOffset (ppsiOffset (s.stamp sub) s.tb.ppsi.setSec) s.now else s2

theorem exec_ppsiEdge {s : State} {rising : Bool} {sub : Fin 100} (run : s.tb.running = true)
    (selected : rising = true ↔ s.tb.set.ppsiEdge = 0) (inTime : s.tb.ppsi.overdue (s.now * 100 + sub.val) = false) :
    exec (.ppsiEdge rising sub) s = .next
      (if s.tb.ppsi.first = true ∨ s.tb.ppsi.near (s.now * 100 + sub.val) = true then s.edgeTaken sub.val
       else s.updTb fun t => { t with ppsi := { t.ppsi with cntReject := satInc 65535 t.ppsi.cntReject } }) := by
  have row : exec (.ppsiEdge rising sub) s = execPpsiEdge rising sub s := rfl
  have same : rising = (s.tb.set.ppsiEdge == 0) := by rw [Bool.eq_iff_iff, selected, beq_iff_eq]
  have kept : ¬ s.tb.ppsi.overdue (s.tenths sub.val) = true := by rw [State.tenths, inTime]; exact Bool.false_ne_true
  rw [row, execPpsiEdge, if_neg (by simp [run, same])]
  simp only [if_neg kept]
  rfl

theorem State.edgeTaken_moves (s : State) (sub : Nat) :
    TimeMoves (s.updTb fun t => { t with ppsi := t.ppsi.accept (s.tenths sub) }) (s.edgeTaken sub) := by
  unfold State.edgeTaken
  extract_lets s2
  have moved := (s.updTb fun t => { t with ppsi := t.ppsi.accept (s.tenths sub) }).judgeRef_moves
  split
  · exact moved.trans (State.takeOffset_moves _ _ _)
  · exact moved

theorem State.raiseAll_tb' (s : State) (c k i : Nat) (b : Bytes) : (s.raiseAll c k i b).tb = s.tb := by
  rw [s.raiseAll_onlyOwners]

/-- LOCKED falls to HOLDOVER (R276). -/
theorem State.toTb_holdover {s : State} (st : s.tb.st = .locked) :
    (s.toTb .holdover).tb.st = .holdover ∧ (s.toTb .holdover).tb.refUse = s.tb.refUse ∧ (s.toTb .holdover).tb.s = 0 ∧
      (s.toTb .holdover).tb.holdovers = satInc 65535 s.tb.holdovers := by
  unfold State.toTb
  rw [if_neg (by rw [st]; decide), State.raiseAll_tb']
  exact ⟨rfl, rfl, rfl, rfl⟩

/-- In LOCKED the loss of the reference leads to HOLDOVER (R281). -/
theorem State.useRef_none {s : State} (use : s.tb.refUse ≠ .none) (st : s.tb.st = .locked) :
    (s.useRef .none).tb.st = .holdover ∧ (s.useRef .none).tb.refUse = .none ∧ (s.useRef .none).tb.s = 0 ∧
      (s.useRef .none).tb.holdovers = satInc 65535 s.tb.holdovers := by
  have row : s.useRef .none = (s.updTb fun t => { t with refUse := .none }).toTb .holdover := by
    unfold State.useRef
    rw [if_neg fun same => use same.symm]
    simp only [st]
  rw [row]
  exact State.toTb_holdover (s := s.updTb fun t => { t with refUse := .none }) st

/-- A reference lost with nothing else to turn to, LOCKED falls to HOLDOVER (R275, R281). -/
theorem State.judgeRef_alone {s : State} (alone : s.tb.wanted = .none) (use : s.tb.refUse ≠ .none) (st : s.tb.st = .locked) :
    s.judgeRef.tb.st = .holdover ∧ s.judgeRef.tb.refUse = .none ∧ s.judgeRef.tb.s = 0 ∧
      s.judgeRef.tb.holdovers = satInc 65535 s.tb.holdovers := by
  let s1 := s.updTb fun t =>
    { t with primaryFrom := if t.refValid t.set.primary then some (t.primaryFrom.getD s.now) else none }
  have row : s.judgeRef = s1.useRef .none := congrArg s1.useRef alone
  rw [row]
  exact State.useRef_none (s := s1) use st

/-- The lost references of a tick. -/
theorem State.loseRefs_moves (s : State) (ptp ppsi : Bool) :
    TimeMoves (s.updTb fun t => { t with ptp := if ptp then t.ptp.lost else t.ptp, ppsi := if ppsi then t.ppsi.lost else t.ppsi })
      (s.loseRefs ptp ppsi) := State.judgeRef_moves _

theorem ppsiEdge_acts {s : State} {rising : Bool} {sub : Fin 100} (run : s.tb.running = true)
    (selected : rising = true ↔ s.tb.set.ppsiEdge = 0) :
    let k := s.now * 100 + sub.val
    s.tb.ppsi.overdue k = false →
    let p := s.tb.ppsi
    if p.first = true ∨ (∃ a, p.lastAt = some a ∧ a + 9999000000 ≤ k ∧ k ≤ a + 10001000000) then
      ∃ t, exec (.ppsiEdge rising sub) s = .next t ∧ t.tb.ppsi.lastAt = some k ∧ t.tb.ppsi.first = false ∧
        t.tb.ppsi.setSec = none ∧ t.tb.ppsi.cntEdges = satInc 65535 p.cntEdges ∧
        t.tb.ppsi.run = (if p.first then 1 else p.run + 1) ∧
        (t.tb.ppsi.valid = true ↔ p.valid = true ∨ 3 ≤ t.tb.ppsi.run) ∧ t.tb.fine = s.tb.fine ∧ t.axes = s.axes ∧
        t.mem = s.mem
    else exec (.ppsiEdge rising sub) s = .next (s.updTb fun t =>
      { t with ppsi := { t.ppsi with cntReject := satInc 65535 t.ppsi.cntReject } }) := by
  intro k inTime p
  have row := exec_ppsiEdge run selected inTime
  have judged := or_congr_right (a := p.first = true) (p.near_iff k)
  split
  · next takes =>
    rw [if_pos (judged.2 takes)] at row
    obtain ⟨frame, fine, -, -, -, -, ppsi⟩ := s.edgeTaken_moves sub.val
    refine ⟨_, row, ?_⟩
    rw [ppsi, fine, frame]
    refine ⟨rfl, rfl, rfl, rfl, rfl, ?_, rfl, rfl, rfl⟩
    simp only [State.updTb, Ppsi.accept, Bool.or_eq_true, decide_eq_true_eq, p]
  · next passes => rw [row, if_neg (mt judged.1 passes)]

theorem ppsiLoss_acts {s : State} (late : s.ppsiOverdue = true) :
    ∃ t, exec .ppsiLoss s = .next t ∧ t.tb.ppsi.valid = false ∧ t.tb.ppsi.run = 0 ∧ t.tb.fine = s.tb.fine ∧
      (s.tb.refUse = .ppsi → s.tb.set.primary = .ppsi → s.tb.set.backup = .none → s.tb.st = .locked →
        t.tb.st = .holdover ∧ t.tb.refUse = .none ∧ t.tb.s = 0 ∧ t.tb.holdovers = satInc 65535 s.tb.holdovers) := by
  have row : exec .ppsiLoss s = .next s.losePpsi := congrArg _ (if_pos late)
  unfold State.losePpsi at row
  obtain ⟨-, fine, -, -, -, -, ppsi⟩ :=
    s.loseRefs_moves ((s.syncOverdue && s.behind (· == .ptpSyncLoss)) || (s.net.ethUp && s.behind (· == .ethLinkDown))) true
  refine ⟨_, row, by rw [ppsi]; rfl, by rw [ppsi]; rfl, fine, fun use primary backup st => ?_⟩
  refine State.judgeRef_alone ?_ (by rw [State.updTb, use]; decide) st
  simp [Timebase.wanted, Timebase.refValid, Ppsi.lost, primary, backup, use]

/-- Settles O19: the leading edge by what holds its pulse, the trailing edge by what ends its phase, PPSI by when its edges come. -/
theorem pulseAndPpsiRowsAct : Obligations.PulseAndPpsiRowsAct := by
  refine ⟨⟨fun s n rest en runs past => tpLeadingEdge_acts rest en runs past, fun s n active stays => tpTrailingEdge_acts active stays⟩,
    fun s rising sub run selected inTime => ppsiEdge_acts run selected inTime, fun s late => ppsiLoss_acts late, fun s a last early => ?_⟩
  have kept : ¬ s.ppsiOverdue = true := by
    have inTime : ¬ a + 15000000000 ≤ s.now * 100 + 99 := by omega
    simp [State.ppsiOverdue, Ppsi.overdue, last, State.tenths, inTime]
  exact congrArg _ (if_neg kept)

end Sys2Proof.Machine
end

section
/-! PROOFS. TIME_GET, TIME_REF_SELECT, PULSE_CONFIG, the pending step and the return to PRIMARY (R279 to R285, R287). -/

namespace Sys2Proof.Machine

/-! ### TIME_GET -/

theorem timeGet_completes {s : State} {h : Hdr} {ses : Session} (ok : Accepted s h .timeGet ses) :
    if s.tb.running = true then
      Completes (.timeGet h) s h 0x38 stOk (time96Bytes s.devTime ++ le 4 (s.tb.unc s.now) ++ le 1 s.tb.st.code
        ++ le 1 s.tb.refUse.code ++ le 1 (bitAt 0 (s.tb.s != 0) + bitAt 1 s.tb.pendingStep) ++ zeros 1) s
    else Completes (.timeGet h) s h 0x38 eHwFault [] s := by
  have tb : (s.accepted h).tb = s.tb := ok.reads (·.tb) fun _ => rfl
  have effect : ∀ t, doTimeGet t (s.accepted h) = if ¬ s.tb.running = true then (s.accepted h).reply t eHwFault []
      else (s.accepted h).reply t stOk (time96Bytes s.devTime ++ le 4 (s.tb.unc s.now) ++ le 1 s.tb.st.code
        ++ le 1 s.tb.refUse.code ++ le 1 (bitAt 0 (s.tb.s != 0) + bitAt 1 s.tb.pendingStep) ++ zeros 1) := by
    intro t
    unfold doTimeGet State.devTime
    rw [tb, s.accepted_now]
  split
  · next runs =>
    exact ok.completes_reply rfl (by simp [Cmd.opcode]) uncounted_ok ((effect _).trans (if_neg (not_not.2 runs)))
  · next stopped => exact ok.completes_reply rfl (by simp [Cmd.opcode]) (by decide) ((effect _).trans (if_pos stopped))

/-! ### TIME_REF_SELECT -/

/-- Nothing but the timebase and what the ports hold differs between two states, and device time, settings and pulses stand. -/
def TimeKeeps (s t : State) : Prop :=
  t = { s with tb := t.tb, owners := t.owners } ∧ t.tb.fine = s.tb.fine ∧ t.tb.set = s.tb.set ∧ t.tb.pulses = s.tb.pulses

theorem TimeMoves.keeps {s t : State} (h : TimeMoves s t) : TimeKeeps s t := by
  obtain ⟨frame, fine, -, set, pulses, -, -⟩ := h
  exact ⟨frame, fine, set, pulses⟩

theorem TimeKeeps.refl (s : State) : TimeKeeps s s := ⟨rfl, rfl, rfl, rfl⟩

theorem TimeKeeps.trans {s t u : State} (h : TimeKeeps s t) (k : TimeKeeps t u) : TimeKeeps s u := by
  obtain ⟨frame, fine, set, pulses⟩ := h
  obtain ⟨frame', fine', set', pulses'⟩ := k
  exact ⟨by rw [frame', frame], fine'.trans fine, set'.trans set, pulses'.trans pulses⟩

theorem State.updTb_keeps (s : State) (f : Timebase → Timebase) (fine : (f s.tb).fine = s.tb.fine) (set : (f s.tb).set = s.tb.set)
    (pulses : (f s.tb).pulses = s.tb.pulses) : TimeKeeps s (s.updTb f) := ⟨rfl, fine, set, pulses⟩

theorem TimeKeeps.ite {s t u : State} {c : Prop} [Decidable c] (h : TimeKeeps s t) (k : TimeKeeps s u) :
    TimeKeeps s (if c then t else u) := by
  split
  · exact h
  · exact k

/-- The settings of a selection put in force, nothing judged by them yet. -/
def State.setRef (s : State) (n : TbSettings) : State :=
  s.updTb fun t => { t with set := n, ppsi := { t.ppsi with first := t.ppsi.first || s.tb.set.ppsiEdge != n.ppsiEdge } }

/-- What follows from putting a selection in force stands apart from its settings. -/
theorem State.selectRef_keeps (s : State) (n : TbSettings) : TimeKeeps (s.setRef n) (s.selectRef n) := by
  unfold State.selectRef
  extract_lets old s1 s2 s3 s4 s5 w
  have forgets : TimeKeeps (s.setRef n) s2 :=
    .ite (State.updTb_keeps _ _ rfl rfl rfl) (.ite (State.updTb_keeps _ _ rfl rfl rfl) (.refl _))
  have judged : TimeKeeps s2 s3 := State.updTb_keeps _ _ rfl rfl rfl
  have pending : TimeKeeps s3 s4 := .ite (State.updTb_keeps _ _ rfl rfl rfl) (.refl _)
  have free : TimeKeeps s4 s5 := State.updTb_keeps _ _ rfl rfl rfl
  have all : TimeKeeps (s.setRef n) s4 := (forgets.trans judged).trans pending
  exact .ite (.ite (all.trans free) ((all.trans free).trans (State.toTb_moves _ _).keeps)) (all.trans (State.useRef_moves _ _).keeps)

theorem State.toTb_free (s : State) (moves : s.tb.st ≠ .free) :
    (s.toTb .free).tb.st = .free ∧ (s.toTb .free).tb.refUse = s.tb.refUse := by
  unfold State.toTb
  rw [if_neg fun same => moves same.symm, State.raiseAll_tb']
  exact ⟨rfl, rfl⟩

/-- With PRIMARY none the timebase runs free (R281). -/
theorem State.selectRef_none (s : State) {n : TbSettings} (none : n.primary = .none) :
    (s.selectRef n).tb.st = .free ∧ (s.selectRef n).tb.refUse = .none := by
  unfold State.selectRef
  extract_lets old s1 s2 s3 s4 s5 w
  rw [if_pos none]
  split
  · next free => exact ⟨free, rfl⟩
  · next moves => exact State.toTb_free s5 moves

/-- The state a TIME_REF_SELECT replies from or queues its write in. -/
def State.refSelected (s : State) (p : TimeRefP) (n : TbSettings) : State :=
  if p.setSec then (s.selectRef n).updTb fun b => { b with ppsi := { b.ppsi with setSec := some p.seconds.toNat } }
  else s.selectRef n

theorem State.refSelected_keeps (s : State) (p : TimeRefP) (n : TbSettings) : TimeKeeps (s.setRef n) (s.refSelected p n) :=
  .ite ((s.selectRef_keeps n).trans (State.updTb_keeps _ _ rfl rfl rfl)) (s.selectRef_keeps n)

theorem State.refSelected_none (s : State) {p : TimeRefP} {n : TbSettings} (none : n.primary = .none) :
    (s.refSelected p n).tb.st = .free ∧ (s.refSelected p n).tb.refUse = .none := by
  unfold State.refSelected
  split
  · exact s.selectRef_none none
  · exact s.selectRef_none none

theorem State.refSelected_setSec (s : State) {p : TimeRefP} (n : TbSettings) (names : p.setSec = true) :
    (s.refSelected p n).tb.ppsi.setSec = some p.seconds.toNat := by
  rw [State.refSelected, if_pos names]
  rfl

@[simp] theorem State.refSelected_sessions (s : State) (p : TimeRefP) (n : TbSettings) : (s.refSelected p n).sessions = s.sessions := by
  unfold State.refSelected
  split <;> simp

/-- A SAVE queues its settings behind the writes that wait, one answered already replaced. -/
def State.saveRef (s : State) (n : TbSettings) (t : Ticket) : State :=
  State.storePush { s with store := { s.store with queue := s.store.queue.filter fun w => !w.staleSave } } (.timebase n) (some t)

/-- The settings a TIME_REF_SELECT names. -/
def refSettings (p : TimeRefP) (old : TbSettings) : TbSettings :=
  { old with
    primary := refOf p.primary, backup := refOf p.backup, delay := p.delay.toNat, domain := p.domain.toNat,
    transport := p.transport.toNat, ppsiEdge := p.ppsiEdge.toNat, stepLimitUs := p.stepLimit.toNat,
    slewMax := p.slewMax.toNat }

theorem doTimeRefSelect_eq {p : TimeRefP} (fits : timeRefOk p = true) (t : Ticket) (s : State) :
    doTimeRefSelect t p s = if p.save then (s.refSelected p (refSettings p s.tb.set)).saveRef (refSettings p s.tb.set) t
      else (s.refSelected p (refSettings p s.tb.set)).reply t stOk [] := by
  rw [doTimeRefSelect, if_neg (not_not.2 fits)]
  rfl

theorem timeRefSelect_acts {s : State} {h : Hdr} {ses : Session} {p : TimeRefP} (ok : Accepted s h (.timeRefSelect p) ses)
    (fits : timeRefOk p = true) :
    let n := refSettings p s.tb.set
    ∃ t, exec (.timeRefSelect h p) s = .next t ∧ t.tb.set = n ∧ t.tb.fine = s.tb.fine ∧ t.tb.pulses = s.tb.pulses ∧
      (p.primary = 0 → t.tb.st = .free ∧ t.tb.refUse = .none) ∧
      (p.setSec = true → t.tb.ppsi.setSec = some p.seconds.toNat) ∧
      t.mem = s.mem ∧ t.jobs = s.jobs ∧ t.axes = s.axes ∧ t.leases = s.leases ∧ t.sensors = s.sensors ∧
      (p.save = false → Replied s t h 0x39 stOk [] ∧ t.store = s.store) ∧
      (p.save = true → t.store.queue = (s.store.queue.filter fun w => !w.staleSave)
        ++ [⟨.timebase n, some (s.ticket h (.timeRefSelect p) ses), s.now, none⟩]) := by
  intro n
  have tb : (s.accepted h).tb = s.tb := ok.reads (·.tb) fun _ => rfl
  have effect := doTimeRefSelect_eq fits (s.ticket h (.timeRefSelect p) ses) (s.accepted h)
  rw [tb] at effect
  obtain ⟨frame, fine, set, pulses⟩ := (s.accepted h).refSelected_keeps p n
  have unset : p.primary = 0 → n.primary = .none := fun zero => by simp [n, refSettings, refOf, zero]
  have free : p.primary = 0 → ((s.accepted h).refSelected p n).tb.st = .free ∧ ((s.accepted h).refSelected p n).tb.refUse = .none :=
    fun zero => (s.accepted h).refSelected_none (unset zero)
  have names : p.setSec = true → ((s.accepted h).refSelected p n).tb.ppsi.setSec = some p.seconds.toNat :=
    (s.accepted h).refSelected_setSec n
  have sessions := (s.accepted h).refSelected_sessions p n
  have now : ((s.accepted h).refSelected p n).now = s.now := by rw [frame]; exact s.accepted_now h
  have kept : ((s.accepted h).refSelected p n).mem = s.mem ∧ ((s.accepted h).refSelected p n).jobs = s.jobs ∧
      ((s.accepted h).refSelected p n).axes = s.axes ∧ ((s.accepted h).refSelected p n).leases = s.leases ∧
      ((s.accepted h).refSelected p n).sensors = s.sensors ∧ ((s.accepted h).refSelected p n).store = s.store := by
    rw [frame]
    exact ⟨s.accepted_mem h, s.accepted_jobs h, s.accepted_axes h, s.accepted_leases h, s.accepted_sensors h, s.accepted_store h⟩
  rw [State.setRef, State.updTb, tb] at fine pulses set
  generalize (s.accepted h).refSelected p n = u at effect fine set pulses free names sessions now kept
  obtain ⟨mem, jobs, axes, leases, sensors, store⟩ := kept
  cases save : p.save with
  | false =>
    obtain ⟨row, replied⟩ := ok.answers (i := .timeRefSelect h p) rfl (by simp [Cmd.opcode]) (effect.trans (if_neg (by simp [save])))
      sessions now
    refine ⟨_, row, ?_⟩
    simp only [State.reply_tb, State.reply_mem, State.reply_jobs, State.reply_axes, State.reply_leases, State.reply_sensors,
      State.reply_store]
    exact ⟨set, fine, pulses, free, names, mem, jobs, axes, leases, sensors, fun _ => ⟨replied, store⟩, fun saves => by simp at saves⟩
  | true =>
    have row : exec (.timeRefSelect h p) s = .next (u.saveRef n (s.ticket h (.timeRefSelect p) ses)) := by
      have row : exec (.timeRefSelect h p) s = .next (s.serve h (.timeRefSelect p)) := rfl
      rw [row, serve_accepted ok]
      refine congrArg _ ((congrArg State.finish (effect.trans (if_pos save))).trans (State.finish_calm ?_))
      exact State.calm_of_sessions sessions ok.calm
    refine ⟨_, row, set, fine, pulses, free, names, mem, jobs, axes, leases, sensors, fun stays => by simp at stays, fun _ => ?_⟩
    show (u.store.queue.filter fun w => !w.staleSave) ++ [⟨.timebase n, _, u.now, none⟩] = _
    rw [store, now]

/-! ### PULSE_CONFIG -/

/-- The settings a PULSE_CONFIG gives. -/
def pulseCfgOf (p : PulseP) : PulseCfg :=
  ⟨p.en, p.pol, p.gate, p.trim.toInt, p.startSec.toNat * 1000000000 + p.startNs.toNat, p.period.toNat, p.width.toNat⟩

/-- A pulse configured at a device time: at once at rest, else from the end of its active phase. -/
def Pulse.configure (fine : Nat) (c : PulseCfg) (x : Pulse) : Pulse :=
  let y := { x with fromNs := ceilDiv fine nsFine + 10000, fromTick := 0 }
  if x.active then { y with next := some c } else { y with cfg := c }.rest

/-- The fields of a PULSE_CONFIG lie in range. -/
def PulseFits (p : PulseP) : Prop :=
  p.pulse.toNat ≤ 3 ∧ -500 ≤ p.trim.toInt ∧ p.trim.toInt ≤ 500 ∧ p.startFrac = 0 ∧ p.startNs.toNat < 1000000000 ∧
    1000 ≤ p.period.toNat ∧ p.period.toNat ≤ 1000000000000 ∧ 10 ≤ p.width.toNat ∧ p.width.toNat ≤ p.period.toNat - 10

/-- The negation of a PULSE_CONFIG's check, as its ranges. -/
theorem pulseFits_iff (p : PulseP) : PulseFits p ↔ ¬ (3 < p.pulse.toNat ∨ p.trim.toInt < -500 ∨ 500 < p.trim.toInt ∨ p.startFrac ≠ 0 ∨
    1000000000 ≤ p.startNs.toNat ∨ ¬ between 1000 p.period.toNat 1000000000000 ∨ ¬ between 10 p.width.toNat (p.period.toNat - 10)) := by
  simp only [PulseFits, not_or, not_lt, not_le, ne_eq, not_not, between, Bool.and_eq_true, decide_eq_true_eq]
  tauto

theorem pulseConfig_completes {s : State} {h : Hdr} {ses : Session} {p : PulseP} (ok : Accepted s h (.pulseConfig p) ses)
    (fits : PulseFits p) : Completes (.pulseConfig h p) s h 0x3A stOk []
      (s.updPulse (Fin.ofNat 4 p.pulse.toNat) (Pulse.configure s.tb.fine (pulseCfgOf p))) :=
  ok.completes_effect rfl (by simp [Cmd.opcode]) uncounted_ok
    (fun u => u.updPulse (Fin.ofNat 4 p.pulse.toNat) (Pulse.configure u.tb.fine (pulseCfgOf p)))
    (if_neg ((pulseFits_iff p).1 fits)) rfl rfl fun _ => rfl

theorem pulseConfig_refused {s : State} {h : Hdr} {ses : Session} {p : PulseP} (ok : Accepted s h (.pulseConfig p) ses)
    (wrong : ¬ PulseFits p) : Completes (.pulseConfig h p) s h 0x3A eParam [] s :=
  ok.completes_reply rfl (by simp [Cmd.opcode]) (by decide) (if_pos (not_not.1 (mt (pulseFits_iff p).2 wrong)))

/-! ### The pending step -/

/-- The step leaves everything but the timebase, the radio's beacons and the strobes' windows (R280). -/
theorem State.stepTime_eq (s : State) : ∃ r i, s.stepTime = { s with tb := s.stepTime.tb, radio := r, illum := i } ∧
    s.stepTime.tb.fine = (((s.tb.secNext * secFine : Nat) : Int) + s.tb.remain).toNat ∧ s.stepTime.tb.pendingStep = false ∧
    s.stepTime.tb.remain = 0 ∧ s.stepTime.tb.s = 0 ∧ s.stepTime.tb.i = s.tb.f ∧ s.stepTime.tb.f = s.tb.f ∧
    s.stepTime.tb.steps = satInc 65535 s.tb.steps ∧ s.stepTime.tb.st = s.tb.st ∧
    s.stepTime.tb.stepEvent = some (s.tb.secNext * secFine, (((s.tb.secNext * secFine : Nat) : Int) + s.tb.remain).toNat) := by
  unfold State.stepTime State.strobesStep
  extract_lets old new ms
  have walk : ∀ u : State, ∃ i, (forAll u fun s gi => s.updGroup gi fun g => { g with closeAt := g.closeAt.map fun c => new / nsFine + (c - old / nsFine) }) =
      { u with illum := i } := fun u => by
    refine forAll_keeps (P := fun t => ∃ i, t = { u with illum := i }) ?_ u ⟨u.illum, rfl⟩
    rintro _ g ⟨i, rfl⟩
    exact ⟨_, rfl⟩
  obtain ⟨i, walked⟩ := walk _
  rw [walked]
  exact ⟨_, i, rfl, rfl, rfl, rfl, rfl, rfl, rfl, rfl, rfl, rfl⟩

/-- What a subscribed event makes of an owner's queue that has room. -/
theorem State.takes_events {s : State} {c k i : Nat} {b : Bytes} {p : Port} {o : OwnerState} {ses : Session}
    (session : o.session = some ses) (subscribed : ses.mask.testBit c = true) (alive : s.portDead p = false)
    (room : o.events.length < 256) : (s.takes c k i b p o).events = o.events ++ [⟨c, k, i, ses.evSeq, s.eventBody b⟩] := by
  have mask : (ses.today s.now).mask = ses.mask := by unfold Session.today; split <;> rfl
  have seq : (ses.today s.now).evSeq = ses.evSeq := by unfold Session.today; split <;> rfl
  simp only [State.takes, OwnerState.takeEvent, session, mask, subscribed, alive, room, if_true, Bool.false_eq_true, if_false, seq]

theorem exec_timeStep (s : State) : exec .timeStep s = .next
    (let s1 := if s.stepDue then s.stepTime else s
     if s1.tb.stepEvent.isSome ∧ (¬ s.pending.isEmpty ∨ s.commandsWait) then s1.putOff .timeStep else s1.stepReport) := rfl

/-- A step that is due is made and reported (R279, R280). -/
theorem timeStep_due {s : State} (run : s.tb.running = true) (waits : s.tb.pendingStep = true)
    (due : s.tb.secNext * secFine ≤ s.tb.fine) (last : s.pending = []) (alone : s.commandsWait = false) :
    let old := s.tb.secNext * secFine
    let new := ((old : Int) + s.tb.remain).toNat
    ∃ t, exec .timeStep s = .next t ∧ t.tb.fine = new ∧ t.tb.pendingStep = false ∧ t.tb.remain = 0 ∧ t.tb.s = 0 ∧
      t.tb.i = s.tb.f ∧ t.tb.f = s.tb.f ∧ t.tb.steps = satInc 65535 s.tb.steps ∧ t.tb.st = s.tb.st ∧
      t.tb.stepEvent = none ∧ t.axes = s.axes ∧ t.mem = s.mem ∧
      ∀ p ses, (s.owner p).session = some ses → ses.mask.testBit 11 = true → s.portDead p = false →
        (s.owner p).events.length < 256 →
        (t.owner p).events = (s.owner p).events ++ [⟨11, 0, 0, ses.evSeq,
          time96Bytes (new / 2 ^ 24) ++ time96Bytes (old / 2 ^ 24) ++ time96Bytes (new / 2 ^ 24)⟩] := by
  intro old new
  have stepDue : s.stepDue = true := by simp [State.stepDue, run, waits, due]
  have row := exec_timeStep s
  simp only [stepDue, if_true, last, alone, List.isEmpty_nil, Bool.false_eq_true, not_true, or_self, and_false, if_false] at row
  obtain ⟨r, i, frame, fine, pending, remain, rate, int, f, steps, st, event⟩ := s.stepTime_eq
  generalize s.stepTime = u at row frame fine pending remain rate int f steps st event
  unfold State.stepReport at row
  rw [event] at row
  refine ⟨_, row, ?_⟩
  rw [State.raiseAll_tb', State.raiseAll_axes, State.raiseAll_mem]
  refine ⟨fine, pending, remain, rate, int, f, steps, st, rfl, by rw [frame]; rfl, by rw [frame]; rfl, ?_⟩
  intro p ses session subscribed alive room
  rw [State.raiseAll_owner, State.takes_events (ses := ses)]
  · have now : (u.updTb fun t => { t with stepEvent := none }).devTime = new / 2 ^ 24 := congrArg (· / 2 ^ 24) fine
    rw [State.eventBody, now, ← List.append_assoc, frame]
    rfl
  · rw [frame]; exact session
  · exact subscribed
  · rw [frame]; exact alive
  · rw [frame]; exact room

/-- A step not due changes nothing (R279). -/
theorem timeStep_early {s : State} (early : ¬ s.tb.secNext * secFine ≤ s.tb.fine) (none : s.tb.stepEvent = none) :
    exec .timeStep s = .next s := by
  have notDue : s.stepDue = false := by simp [State.stepDue, early]
  have row := exec_timeStep s
  simp only [notDue, Bool.false_eq_true, if_false, none, Option.isSome_none, false_and] at row
  rw [row, State.stepReport, none]

/-- The event of a step made at the start of its tick waits for the tick's other rows (R287). -/
theorem timeStep_reports {s : State} {old new : Nat} (made : s.stepDue = false) (event : s.tb.stepEvent = some (old, new)) :
    if s.pending ≠ [] ∨ s.commandsWait = true then exec .timeStep s = .next (s.putOff .timeStep)
    else Runs .timeStep s (s.updTb fun t => { t with stepEvent := none }) := by
  have row := exec_timeStep s
  have waits : (¬ s.pending.isEmpty = true ∨ s.commandsWait = true) ↔ (s.pending ≠ [] ∨ s.commandsWait = true) := by
    rw [List.isEmpty_iff]
  simp only [made, Bool.false_eq_true, if_false, event, Option.isSome_some, true_and] at row
  split
  · next others => rw [row, if_pos (waits.2 others)]
  · next alone =>
    rw [if_neg (mt waits.1 alone), State.stepReport, event] at row
    exact ⟨_, row, State.raiseAll_silent _ _ _ _ _⟩

/-! ### The return to PRIMARY -/

/-- In LOCKED another reference taken into use leads to RECOVERING (Table 14-3). -/
theorem State.useRef_recovering {s : State} {r : Ref} (other : r ≠ s.tb.refUse) (real : r ≠ .none) (st : s.tb.st = .locked) :
    (s.useRef r).tb.refUse = r ∧ (s.useRef r).tb.st = .recovering ∧ (s.useRef r).tb.fine = s.tb.fine ∧
      (s.useRef r).tb.f = s.tb.f := by
  have row : s.useRef r = (s.updTb fun t => { t with refUse := r }).toTb .recovering := by
    unfold State.useRef
    rw [if_neg other]
    simp only [st]
    cases r <;> first | rfl | exact (real rfl).elim
  have moves : TbSt.recovering ≠ (s.updTb fun t => { t with refUse := r }).tb.st := by
    show TbSt.recovering ≠ s.tb.st
    rw [st]
    decide
  rw [row, State.toTb]
  dsimp only
  rw [if_neg moves, State.raiseAll_tb']
  exact ⟨rfl, rfl, rfl, rfl⟩

theorem primaryRevert_acts {s : State} {a : Nat} (since : s.tb.primaryFrom = some a) (use : s.tb.refUse = s.tb.set.backup)
    (backup : s.tb.set.backup ≠ .none) (primary : s.tb.set.primary ≠ .none) (valid : s.tb.refValid s.tb.set.primary = true)
    (other : s.tb.set.primary ≠ s.tb.set.backup) (st : s.tb.st = .locked) :
    if a + s.tb.set.revertS * secTicks ≤ s.now then
      ∃ t, exec .primaryRevert s = .next t ∧ t.tb.refUse = s.tb.set.primary ∧ t.tb.st = .recovering ∧
        t.tb.fine = s.tb.fine ∧ t.tb.f = s.tb.f
    else exec .primaryRevert s = .next s := by
  have row : exec .primaryRevert s = .next (if a + s.tb.set.revertS * secTicks ≤ s.now then s.useRef s.tb.set.primary else s) := by
    have row : exec .primaryRevert s = execPrimaryRevert s := rfl
    rw [row, execPrimaryRevert]
    simp only [since, use, backup, primary, valid, ne_eq, not_false_eq_true, true_and]
  split
  · next due =>
    rw [if_pos due] at row
    exact ⟨_, row, State.useRef_recovering (by rwa [use]) primary st⟩
  · next early => rw [row, if_neg early]

/-- Settles O18, a command and a row at a time. -/
theorem timeCommandsAct : Obligations.TimeCommandsAct := by
  refine ⟨⟨fun s h ses ok => timeGet_completes ok, fun s h ses p ok => ?select, fun s h ses p ok => ?pulse⟩,
    fun s run waits => ?step, fun s old new made event => timeStep_reports made event,
    fun s a since use backup primary valid other st => primaryRevert_acts since use backup primary valid other st⟩
  case select =>
    dsimp only
    split
    · next fits => exact timeRefSelect_acts ok fits
    · next wrong => exact ok.completes_reply rfl (by simp [Cmd.opcode]) (by decide) (if_pos wrong)
  case pulse =>
    dsimp only
    split
    · next fits =>
      have same : (s.updPulse (Fin.ofNat 4 p.pulse.toNat) (Pulse.configure s.tb.fine (pulseCfgOf p))) = _ :=
        State.updPulse_congr (g := fun _ => Pulse.configure s.tb.fine (pulseCfgOf p) (s.tb.pulses.get (Fin.ofNat 4 p.pulse.toNat))) rfl
      have done := pulseConfig_completes ok fits
      rw [same] at done
      exact done
    · next wrong => exact pulseConfig_refused ok wrong
  case step =>
    dsimp only
    split
    · next due => exact fun last alone => timeStep_due run waits due last alone
    · next early => exact fun none => timeStep_early early none

end Sys2Proof.Machine
end

section
/-! PROOFS. The PTP port: masters, Syncs, the path delay and what times out (R272, R273, R275, R287, R288). -/

namespace Sys2Proof.Machine

/-! ### Messages -/

theorem State.ptpMessage_discards {s : State} {m : PtpRx} {domain : Nat} (f : State → State) (hears : s.ptpHears m = true)
    (refuses : s.ptpRefuses m domain = true) : s.ptpMessage m domain f = s.ptpDiscard := by
  rw [State.ptpMessage, if_neg (not_not.2 hears), if_pos refuses]

theorem State.ptpMessage_acts {s : State} {m : PtpRx} {domain : Nat} (f : State → State) (hears : s.ptpHears m = true)
    (takes : s.ptpRefuses m domain = false) : s.ptpMessage m domain f = f s := by
  rw [State.ptpMessage, if_neg (not_not.2 hears), if_neg (by simp [takes])]

theorem State.ptpRefuses_of {s : State} {m : PtpRx} {domain : Nat}
    (bad : domain ≠ s.tb.set.domain ∨ m.malformed = true ∨ m.unicast = true ∨ m.foreignTlv = true) :
    s.ptpRefuses m domain = true := by
  rcases bad with h | h | h | h <;> simp [State.ptpRefuses, h]

/-! ### Announce and Sync -/

theorem ptpAnnounce_first {s : State} {m : PtpAnnounce} (hears : s.ptpHears m.rx = true)
    (takes : s.ptpRefuses m.rx m.domain = false) (near : m.steps < 255) (masters : s.tb.ptp.masters = [])
    (selected : s.tb.ptp.selected = none) (primary : s.tb.set.primary = .none) (use : s.tb.refUse = .none) :
    ∃ t, exec (.ptpAnnounceRx (.announce m)) s = .next t ∧ t.tb.ptp.selected = some (m.clockId, m.port) ∧
      t.tb.ptp.masters.map (fun x => (x.clockId, x.port, x.heardAt)) = [(m.clockId, m.port, s.now)] ∧
      t.tb.st = s.tb.st ∧ t.tb.fine = s.tb.fine := by
  have row : exec (.ptpAnnounceRx (.announce m)) s = .next (s.announced m) :=
    congrArg _ (State.ptpMessage_acts (fun s => s.announced m) hears takes)
  have stays : ∀ u : State, u.tb.set.primary = .none → u.tb.refUse = .none →
      u.judgeRef.tb.st = u.tb.st ∧ u.judgeRef.tb.ptp = u.tb.ptp ∧ u.judgeRef.tb.fine = u.tb.fine := by
    intro u primary use
    have wanted : ∀ x, ({ u.tb with primaryFrom := x } : Timebase).wanted = .none := fun x => by simp [Timebase.wanted, primary]
    unfold State.judgeRef State.useRef
    dsimp only [State.updTb]
    rw [wanted, if_pos use.symm]
    exact ⟨rfl, rfl, rfl⟩
  unfold State.announced at row
  simp only [masters, List.filter_nil, List.nil_append, Nat.not_le.2 near, if_false, bestMaster, Option.map_some, selected,
    reduceCtorEq] at row
  obtain ⟨st, ptp, fine⟩ := stays _ (show (s.updPtp _).tb.set.primary = _ from primary) (show (s.updPtp _).tb.refUse = _ from use)
  refine ⟨_, row, ?_, ?_, st, fine⟩
  · rw [ptp]
    rfl
  · rw [ptp]
    rfl

theorem ptpSync_twoStep {s : State} {m : PtpSync} (hears : s.ptpHears m.rx = true) (takes : s.ptpRefuses m.rx m.domain = false)
    (master : s.tb.ptp.selected = some (m.clockId, m.port)) (least : -7 ≤ m.logInterval) (most : m.logInterval ≤ 4)
    (two : m.twoStep = true) : exec (.ptpSyncRx m) s = .next (s.updPtp fun p => { p with
      lastSync := some s.now, logSync := m.logInterval,
      cntMissing := satAdd 65535 p.cntMissing (if p.openSync.isSome then 1 else 0),
      openSync := some ⟨m.seq, s.stamp m.sub + (s.tb.set.phyRx * nsFine / 10 : Nat), m.correction * 2 ^ 24, s.now⟩ }) := by
  have row : exec (.ptpSyncRx m) s = execPtpSyncRx m s := rfl
  have inRange : ¬ (m.logInterval < -7 ∨ 4 < m.logInterval) := by omega
  rw [row, execPtpSyncRx, State.ptpMessage_acts _ hears takes, if_neg (by simp [Ptp.fromMaster, master]), if_neg inRange]
  simp only [two, if_true]
  rfl

/-- A complete Sync counted. -/
def State.syncCounted (s : State) (rx origin : Int) : State :=
  (s.updPtp fun p => { p with openSync := none, lastRx := some (rx, origin) }).updPtp fun p =>
    { p with syncs := p.syncs + 1, valid := p.valid || decide (2 ≤ p.syncs + 1), cntSync := satInc 65535 p.cntSync }

/-- A Follow_Up completes its Sync: with a delay measured it counts, and PTP is valid from the second on (R273, R275). -/
theorem State.ptpSynced_acts (s : State) (rx origin : Int) (at_ : Nat) :
    let t := s.ptpSynced rx origin at_
    t.tb.ptp.openSync = none ∧ t.tb.ptp.lastRx = some (rx, origin) ∧ t.tb.fine = s.tb.fine ∧
      (s.tb.ptp.delay ≠ none → t.tb.ptp.syncs = s.tb.ptp.syncs + 1 ∧ t.tb.ptp.cntSync = satInc 65535 s.tb.ptp.cntSync ∧
        (t.tb.ptp.valid = true ↔ s.tb.ptp.valid = true ∨ 1 ≤ s.tb.ptp.syncs)) := by
  cases measured : s.tb.ptp.delay with
  | none =>
    have eq : s.ptpSynced rx origin at_ = s.updPtp fun p => { p with openSync := none, lastRx := some (rx, origin) } := by
      unfold State.ptpSynced
      extract_lets s0 s1 s2
      split
      · rfl
      · next d some_ => exact absurd (measured.symm.trans some_) (by simp)
    rw [eq]
    exact ⟨rfl, rfl, rfl, fun some_ => (some_ rfl).elim⟩
  | some d =>
    have eq : s.ptpSynced rx origin at_ =
        if (s.syncCounted rx origin).judgeRef.tb.refUse = .ptp then
          (s.syncCounted rx origin).judgeRef.takeOffset (origin + d + s.tb.set.asym * nsFine / 10 - rx) at_
        else (s.syncCounted rx origin).judgeRef := by
      unfold State.ptpSynced
      extract_lets s0 s1 s2
      split
      · next none_ => exact absurd (measured.symm.trans none_) (by simp)
      · next d' some_ =>
        obtain rfl : d = d' := Option.some.inj (measured.symm.trans some_)
        rfl
    have moves : TimeMoves (s.syncCounted rx origin) (s.ptpSynced rx origin at_) := by
      rw [eq]
      split
      · exact (State.judgeRef_moves _).trans (State.takeOffset_moves _ _ _)
      · exact State.judgeRef_moves _
    obtain ⟨-, fine, -, -, -, ptp, -⟩ := moves
    generalize s.ptpSynced rx origin at_ = u at fine ptp
    dsimp only
    rw [ptp, fine]
    refine ⟨rfl, rfl, rfl, fun _ => ⟨rfl, rfl, ?_⟩⟩
    simp [State.syncCounted, State.updPtp, State.updTb]

theorem ptpFollowUp_acts {s : State} {m : PtpFollow} {o : OpenSync} (hears : s.ptpHears m.rx = true)
    (takes : s.ptpRefuses m.rx m.domain = false) (master : s.tb.ptp.selected = some (m.clockId, m.port))
    (opens : s.tb.ptp.openSync = some o) (seq : o.seq = m.seq) :
    exec (.ptpFollowUpRx m) s = .next (s.ptpSynced o.rx ((m.origin + m.correction) * 2 ^ 24 + o.corr) o.at_) := by
  have row : exec (.ptpFollowUpRx m) s = execPtpFollowUpRx m s := rfl
  rw [row, execPtpFollowUpRx, State.ptpMessage_acts _ hears takes, if_neg (by simp [Ptp.fromMaster, master]), opens]
  exact congrArg _ (if_pos seq)

/-! ### Loss -/

theorem ptpSyncLoss_acts {s : State} {a : Nat} (run : s.tb.running = true) (last : s.tb.ptp.lastSync = some a) :
    if a + s.tb.set.ptpMs * msTicks ≤ s.now then
      ∃ t, exec .ptpSyncLoss s = .next t ∧ t.tb.ptp.valid = false ∧ t.tb.ptp.syncs = 0 ∧ t.tb.fine = s.tb.fine ∧
        (s.tb.refUse = .ptp → s.tb.set.primary = .ptp → s.tb.set.backup = .none → s.tb.st = .locked →
          t.tb.st = .holdover ∧ t.tb.refUse = .none) ∧
        (s.tb.refUse = .ptp → s.tb.set.primary = .ptp → s.tb.set.backup = .ppsi → s.tb.st = .locked → s.ppsiOverdue = true →
          .ppsiLoss ∈ s.pending → t.tb.st = .holdover ∧ t.tb.refUse = .none ∧ t.tb.ppsi.valid = false)
    else exec .ptpSyncLoss s = .next s := by
  have overdue : s.syncOverdue = decide (a + s.tb.set.ptpMs * msTicks ≤ s.now) := by
    simp [State.syncOverdue, last, run]
  have row : exec .ptpSyncLoss s = .next (if s.syncOverdue = true then s.losePtp else s) := rfl
  split
  · next due =>
    rw [if_pos (by rw [overdue, decide_eq_true due]), State.losePtp] at row
    obtain ⟨-, fine, -, -, -, ptp, ppsi⟩ := s.loseRefs_moves true (s.ppsiOverdue && s.behind (· == .ppsiLoss))
    refine ⟨_, row, by rw [ptp]; rfl, by rw [ptp]; rfl, fine, fun use primary backup st => ?_,
      fun use primary backup st late comes => ?_⟩
    · obtain ⟨holdover, none_, -⟩ := State.judgeRef_alone (s := s.updTb fun t =>
        { t with ptp := t.ptp.lost, ppsi := if s.ppsiOverdue && s.behind (· == .ppsiLoss) then t.ppsi.lost else t.ppsi })
        (by simp [Timebase.wanted, Timebase.refValid, Ptp.lost, Ptp.missed, primary, backup, use])
        (by rw [State.updTb, use]; decide) st
      exact ⟨holdover, none_⟩
    · have both : (s.ppsiOverdue && s.behind (· == .ppsiLoss)) = true := by
        have behind : s.behind (· == .ppsiLoss) = true := by
          simp only [State.behind, Bool.or_eq_true, List.any_eq_true, beq_iff_eq]
          exact .inl ⟨_, comes, rfl⟩
        rw [late, behind]
        rfl
      rw [both] at ppsi ⊢
      obtain ⟨holdover, none_, -⟩ := State.judgeRef_alone (s := s.updTb fun t => { t with ptp := t.ptp.lost, ppsi := t.ppsi.lost })
        (by simp [Timebase.wanted, Timebase.refValid, Ptp.lost, Ptp.missed, Ppsi.lost, primary, backup, use])
        (by rw [State.updTb, use]; decide) st
      exact ⟨holdover, none_, by rw [ppsi]; rfl⟩
  · next early => rw [row, if_neg (by rw [overdue, decide_eq_false early]; exact Bool.false_ne_true)]

/-! ### The path delay -/

/-- The frame a PTP message goes out in (Table 14-1). -/
def State.ptpFrame (s : State) (peer event : Bool) (bs : Bytes) : EthFrame :=
  let port := if event then 319 else 320
  if s.tb.set.transport = 0 then
    s.ethFrame (some [0x01, 0x00, 0x5E, 0x00, if peer then 0x00 else 0x01, if peer then 0x6B else 0x81]) 0x0800
      (some ⟨s.net.inForce.hpbIp, if peer then 0xE000006B else 0xE0000181, 17, some (port, port)⟩) bs
  else s.ethFrame (some (if peer then [0x01, 0x80, 0xC2, 0x00, 0x00, 0x0E] else [0x01, 0x1B, 0x19, 0x00, 0x00, 0x00])) 0x88F7 none bs

theorem State.sendPtp_eq (s : State) (peer event : Bool) (bs : Bytes) :
    s.sendPtp peer event bs = { s with out := s.out ++ [.ethernet (s.ptpFrame peer event bs)] } := rfl

theorem State.ptpFrame_body (s : State) (peer event : Bool) (bs : Bytes) :
    (s.ptpFrame peer event bs).body = bs ∧ (s.ptpFrame peer event bs).src = fit 6 s.otp.mac := by
  unfold State.ptpFrame
  dsimp only
  split <;> exact ⟨rfl, rfl⟩

theorem State.ptpFrame_ethernet {s : State} (raw : s.tb.set.transport = 1) (peer event : Bool) (bs : Bytes) :
    (s.ptpFrame peer event bs).etype = 0x88F7 ∧ (s.ptpFrame peer event bs).dst =
      some (if peer then [0x01, 0x80, 0xC2, 0x00, 0x00, 0x0E] else [0x01, 0x1B, 0x19, 0x00, 0x00, 0x00]) := by
  unfold State.ptpFrame
  dsimp only
  rw [if_neg (by omega)]
  exact ⟨rfl, rfl⟩

theorem ptpHeader_length (s : State) (kind len flags : Nat) (corr : Int) (seq control : Nat) :
    (ptpHeader s kind len flags corr seq control).length = 34 := by
  simp [ptpHeader]

theorem ptpTime_length (fine : Int) : (ptpTime fine).length = 10 := by simp [ptpTime]

/-- A request sent: the frame alone goes out, and the timebase alone changes (R273). -/
theorem State.ptpRequest_out (s : State) (f : Ptp → Ptp) (peer : Bool) (bs : Bytes) :
    let t := (s.updPtp f).sendPtp peer true bs
    (∃ g : EthFrame, g.body.length = bs.length ∧ g.src = fit 6 s.otp.mac ∧ t.out = s.out ++ [.ethernet g] ∧
      (s.tb.set.transport = 1 → g.etype = 0x88F7 ∧ g.dst =
        some (if peer then [0x01, 0x80, 0xC2, 0x00, 0x00, 0x0E] else [0x01, 0x1B, 0x19, 0x00, 0x00, 0x00]))) ∧
    { t with out := s.out, tb := s.tb } = s := by
  obtain ⟨body, src⟩ := (s.updPtp f).ptpFrame_body peer true bs
  exact ⟨⟨_, by rw [body], src, rfl, fun raw => State.ptpFrame_ethernet (s := s.updPtp f) raw peer true bs⟩, rfl⟩

theorem ptpDelayReqTx_acts {s : State} {sub : Fin 100} (up : s.ptpUp = true) (endToEnd : s.tb.set.delay = 0)
    (selected : s.tb.ptp.selected ≠ none) :
    if s.since s.tb.ptp.reqAt (logTicks s.tb.ptp.logDelay) = false then exec (.ptpDelayReqTx sub) s = .next s
    else
      ∃ t, exec (.ptpDelayReqTx sub) s = .next t ∧ t.tb.ptp.reqAt = some s.now ∧
        t.tb.ptp.openDelay = some ⟨s.tb.ptp.reqSeq, s.stamp sub.val + (s.tb.set.phyTx * nsFine / 10 : Nat)⟩ ∧
        t.tb.ptp.reqSeq = (s.tb.ptp.reqSeq + 1) % 65536 ∧
        (∃ f : EthFrame, f.body.length = 44 ∧ f.src = fit 6 s.otp.mac ∧ t.out = s.out ++ [.ethernet f] ∧
          (s.tb.set.transport = 1 → f.etype = 0x88F7 ∧ f.dst = some [0x01, 0x1B, 0x19, 0x00, 0x00, 0x00])) ∧
        { t with out := s.out, tb := s.tb } = s := by
  have row : exec (.ptpDelayReqTx sub) s = execPtpDelayReqTx sub s := rfl
  rw [execPtpDelayReqTx] at row
  split
  · next early => exact row.trans (congrArg _ (if_neg fun ready => by simp [early] at ready))
  · next due =>
    rw [if_pos ⟨up, endToEnd, Option.isSome_iff_ne_none.2 selected, by simpa using due⟩] at row
    obtain ⟨⟨f, body, rest⟩, frame⟩ := s.ptpRequest_out (fun p =>
        { p.missed (bitAt 0 p.openDelay.isSome) with
          openDelay := some ⟨s.tb.ptp.reqSeq, s.txStamp sub.val⟩, reqSeq := (s.tb.ptp.reqSeq + 1) % 65536, reqAt := some s.now })
      false (ptpHeader s 1 44 0 0 s.tb.ptp.reqSeq 1 ++ zeros 10)
    refine ⟨_, row, rfl, rfl, rfl, ⟨f, body.trans ?_, rest⟩, frame⟩
    rw [List.length_append, ptpHeader_length, zeros_length]

theorem ptpPdelayReqTx_acts {s : State} {sub : Fin 100} (up : s.ptpUp = true) (peerToPeer : s.tb.set.delay = 1) :
    if s.since s.tb.ptp.preqAt secTicks = false then exec (.ptpPdelayReqTx sub) s = .next s
    else
      ∃ t, exec (.ptpPdelayReqTx sub) s = .next t ∧ t.tb.ptp.preqAt = some s.now ∧
        t.tb.ptp.openPdelay = some ⟨s.tb.ptp.pdelaySeq, s.stamp sub.val + (s.tb.set.phyTx * nsFine / 10 : Nat)⟩ ∧
        t.tb.ptp.pdelaySeq = (s.tb.ptp.pdelaySeq + 1) % 65536 ∧
        (∃ f : EthFrame, f.body.length = 54 ∧ f.src = fit 6 s.otp.mac ∧ t.out = s.out ++ [.ethernet f] ∧
          (s.tb.set.transport = 1 → f.etype = 0x88F7 ∧ f.dst = some [0x01, 0x80, 0xC2, 0x00, 0x00, 0x0E])) ∧
        { t with out := s.out, tb := s.tb } = s := by
  have row : exec (.ptpPdelayReqTx sub) s = execPtpPdelayReqTx sub s := rfl
  rw [execPtpPdelayReqTx] at row
  split
  · next early => exact row.trans (congrArg _ (if_neg fun ready => by simp [early] at ready))
  · next due =>
    rw [if_pos ⟨up, peerToPeer, by simpa using due⟩] at row
    obtain ⟨⟨f, body, rest⟩, frame⟩ := s.ptpRequest_out (fun p =>
        { p.missed (bitAt 0 p.openPdelay.isSome) with
          openPdelay := some ⟨s.tb.ptp.pdelaySeq, s.txStamp sub.val⟩, pdelayRx := none,
          pdelaySeq := (s.tb.ptp.pdelaySeq + 1) % 65536, preqAt := some s.now })
      true (ptpHeader s 2 54 0 0 s.tb.ptp.pdelaySeq 5 ++ zeros 20)
    refine ⟨_, row, rfl, rfl, rfl, ⟨f, body.trans ?_, rest⟩, frame⟩
    rw [List.length_append, ptpHeader_length, zeros_length]

theorem ptpDelayRespRx_acts {s : State} {m : PtpDelayResp} {q : OpenReq} {rx origin : Int} (hears : s.ptpHears m.rx = true)
    (takes : s.ptpRefuses m.rx m.domain = false) (ours : m.toUs = true) (endToEnd : s.tb.set.delay = 0)
    (master : s.tb.ptp.selected = some (m.clockId, m.port)) (opens : s.tb.ptp.openDelay = some q) (seq : q.seq = m.seq)
    (last : s.tb.ptp.lastRx = some (rx, origin)) :
    exec (.ptpDelayRespRx m) s = .next (s.updPtp fun p => { p with
      openDelay := none, cntDelay := satInc 65535 p.cntDelay, logDelay := m.logInterval,
      delay := some (((rx - origin) + ((m.receive - m.correction) * 2 ^ 24 - q.tx)) / 2) }) := by
  have row : exec (.ptpDelayRespRx m) s = execPtpDelayRespRx m s := rfl
  rw [row, execPtpDelayRespRx, State.ptpMessage_acts _ hears takes, if_neg (by simp [Ptp.fromMaster, master, ours, endToEnd]), opens,
    last]
  exact congrArg _ (if_pos seq)

theorem ptpPdelayReqRx_acts {s : State} {m : PtpPdelayReq} (hears : s.ptpHears m.rx = true)
    (takes : s.ptpRefuses m.rx m.domain = false) (peerToPeer : s.tb.set.delay = 1) :
    ∃ a b : EthFrame, a.body.length = 54 ∧ b.body.length = 54 ∧
      exec (.ptpPdelayReqRx m) s = .next { s with out := s.out ++ [.ethernet a, .ethernet b] } := by
  have row : exec (.ptpPdelayReqRx m) s = execPtpPdelayReqRx m s := rfl
  rw [row, execPtpPdelayReqRx, State.ptpMessage_acts _ hears takes, if_neg (by simp [peerToPeer])]
  simp only [State.sendPtp_eq, List.append_assoc, List.cons_append, List.nil_append]
  refine ⟨_, _, ?_, ?_, rfl⟩
  · rw [(State.ptpFrame_body _ _ _ _).1]
    simp [ptpHeader_length, ptpTime_length]
  · rw [(State.ptpFrame_body _ _ _ _).1]
    simp [ptpHeader_length, ptpTime_length]

theorem ptpPdelayRespRx_acts {s : State} {m : PtpPdelayResp} {q : OpenReq} (hears : s.ptpHears m.rx = true)
    (takes : s.ptpRefuses m.rx m.domain = false) (ours : m.toUs = true) (peerToPeer : s.tb.set.delay = 1)
    (opens : s.tb.ptp.openPdelay = some q) (seq : q.seq = m.seq) :
    let t4 : Int := s.stamp m.sub + ((s.tb.set.phyRx * nsFine / 10 : Nat) : Int)
    (m.followUp = false → m.twoStep = true →
      exec (.ptpPdelayRespRx m) s = .next (s.updPtp fun p => { p with
        pdelayRx := some (m.seq, (m.time - m.correction) * 2 ^ 24, t4) })) ∧
    (m.followUp = false → m.twoStep = false →
      exec (.ptpPdelayRespRx m) s = .next (s.updPtp fun p => { p with
        openPdelay := none, pdelayRx := none, cntDelay := satInc 65535 p.cntDelay,
        delay := some ((t4 - q.tx - m.correction * 2 ^ 24) / 2) })) ∧
    (∀ t2 t4, m.followUp = true → s.tb.ptp.pdelayRx = some (m.seq, t2, t4) →
      exec (.ptpPdelayRespRx m) s = .next (s.updPtp fun p => { p with
        openPdelay := none, pdelayRx := none, cntDelay := satInc 65535 p.cntDelay,
        delay := some ((t4 - q.tx - ((m.time + m.correction) * 2 ^ 24 - t2)) / 2) })) := by
  have row : exec (.ptpPdelayRespRx m) s = execPtpPdelayRespRx m s := rfl
  rw [execPtpPdelayRespRx, State.ptpMessage_acts _ hears takes, opens] at row
  simp only [seq, peerToPeer, ours, ne_eq, not_true, or_self, if_false] at row
  refine ⟨fun first two => ?_, fun first one => ?_, fun t2 t4 follows waits => ?_⟩
  · simpa only [first, two, Bool.false_eq_true, if_false, if_true] using row
  · simp only [first, one, Bool.false_eq_true, if_false] at row
    exact row
  · simp only [follows, waits, if_true] at row
    exact row

/-- Settles O20, a message and a row at a time. -/
theorem ptpRowsAct : Obligations.PtpRowsAct := by
  refine ⟨⟨fun s rx hears => ⟨congrArg _ (if_pos hears), congrArg _ (if_pos hears)⟩, fun s m hears => ⟨fun bad => ?_,
      fun takes near masters selected primary use => ptpAnnounce_first hears takes near masters selected primary use⟩,
      fun s m hears takes master least most two => ptpSync_twoStep hears takes master least most two,
      fun s m o hears takes master opens seq => ⟨_, ptpFollowUp_acts hears takes master opens seq, State.ptpSynced_acts s _ _ _⟩,
      fun s a run last => ptpSyncLoss_acts run last⟩,
    fun s sub up endToEnd selected => ptpDelayReqTx_acts up endToEnd selected,
    fun s m q rx origin hears takes ours endToEnd master opens seq last =>
      ptpDelayRespRx_acts hears takes ours endToEnd master opens seq last,
    fun s sub up peerToPeer => ptpPdelayReqTx_acts up peerToPeer,
    fun s m hears takes peerToPeer => ptpPdelayReqRx_acts hears takes peerToPeer,
    fun s m q hears takes ours peerToPeer opens seq => ptpPdelayRespRx_acts hears takes ours peerToPeer opens seq⟩
  exact congrArg _ (State.ptpMessage_discards (fun s => s.announced m) hears (State.ptpRefuses_of bad))

end Sys2Proof.Machine
end

section
/-! PROOFS. What the light functions leave alone: everything but the illumination, the lighting buses, the configuration store
and what the ports hold. -/

namespace Sys2Proof.Machine

/-- Nothing but the illumination, the lighting buses, the configuration store and what the ports hold differs between two states. -/
def LightMoves (s t : State) : Prop :=
  t = { s with illum := t.illum, lbus := t.lbus, store := t.store, owners := t.owners }

theorem LightMoves.refl (s : State) : LightMoves s s := rfl

theorem LightMoves.trans {s t u : State} (h : LightMoves s t) (k : LightMoves t u) : LightMoves s u := by
  unfold LightMoves at *
  rw [k, h]

theorem LightMoves.foldl {α : Type} {f : State → α → State} (step : ∀ s a, LightMoves s (f s a)) (l : List α) (s : State) :
    LightMoves s (l.foldl f s) :=
  foldl_keeps (fun t a moved => moved.trans (step t a)) l s (.refl s)

theorem LightMoves.forAll {n : Nat} {f : State → Fin n → State} (step : ∀ s i, LightMoves s (f s i)) (s : State) :
    LightMoves s (forAll s f) := LightMoves.foldl step _ s

theorem State.updIllum_light (s : State) (f : Illum → Illum) : LightMoves s (s.updIllum f) := rfl
theorem State.updLbus_light (s : State) (f : Lbus → Lbus) : LightMoves s (s.updLbus f) := rfl
theorem State.updGroup_light (s : State) (g : Fin 8) (f : Group → Group) : LightMoves s (s.updGroup g f) := rfl
theorem State.updSink_light (s : State) (n : Fin 48) (f : Sink → Sink) : LightMoves s (s.updSink n f) := rfl
theorem State.updStage_light (s : State) (f : VStage → VStage) : LightMoves s (s.updStage f) := rfl
theorem State.updMatrix_light (s : State) (f : Matrix → Matrix) : LightMoves s (s.updMatrix f) := rfl
theorem State.updGear_light (s : State) (n : Fin 16) (f : Gear → Gear) : LightMoves s (s.updGear n f) := rfl
theorem State.updBus_light (s : State) (b : Fin 2) (f : Bus → Bus) : LightMoves s (s.updBus b f) := rfl
theorem State.storePush_light (s : State) (item : StoreItem) (t : Option Ticket) : LightMoves s (s.storePush item t) := rfl

theorem State.raiseAll_light (s : State) (c k i : Nat) (b : Bytes) : LightMoves s (s.raiseAll c k i b) := by
  unfold LightMoves
  rw [s.raiseAll_onlyOwners]

/-! ### Sinks, the stage and the judgement of a scan -/

theorem State.dark_light (s : State) (g : Fin 8) : LightMoves s (s.dark g) :=
  .forAll (fun u n => u.updSink_light n _) s

theorem State.applyGroup_light (s : State) (g : Fin 8) : LightMoves s (s.applyGroup g) :=
  .forAll (fun u n => by
    dsimp only
    split
    · exact u.updSink_light n _
    · exact .refl u) s

theorem State.takeScan_light (s : State) : LightMoves s s.takeScan := .forAll (fun u n => u.updSink_light n _) s
theorem State.closeScan_light (s : State) : LightMoves s s.closeScan := .forAll (fun u n => u.updSink_light n _) s
theorem State.shortScan_light (s : State) : LightMoves s s.shortScan := .forAll (fun u n => u.updSink_light n _) s

theorem State.stageScan_light (s : State) : LightMoves s s.stageScan := by
  unfold State.stageScan
  extract_lets st act
  split
  · exact .refl s
  · exact .refl s
  · cases act <;> exact s.updStage_light _

theorem State.lampFailure_light (s : State) (n : Fin 48) (kind : Nat) : LightMoves s (s.lampFailure n kind) := by
  unfold State.lampFailure
  extract_lets x
  split
  · exact .refl s
  · extract_lets safe s1 s2 s3
    have latched : LightMoves s s1 := s.updGroup_light _ _
    have off : LightMoves s1 s2 := by
      show LightMoves s1 (if safe then _ else _)
      split
      · exact s1.dark_light _
      · exact s1.updSink_light _ _
    have counted : LightMoves s2 s3 := s2.updIllum_light _
    exact ((latched.trans off).trans counted).trans (State.raiseAll_light _ _ _ _ _)

theorem State.harnessOpen_light (s : State) (h : Nat) (opens : List (Fin 48)) : LightMoves s (s.harnessOpen h opens) := by
  unfold State.harnessOpen
  extract_lets groups s1 s2 s3
  have off : LightMoves s s1 := .foldl (fun u g => (u.updGroup_light g _).trans (State.dark_light _ g)) _ s
  exact ((off.trans (s1.updIllum_light _)).trans (s2.updStage_light _)).trans (State.raiseAll_light _ _ _ _ _)

theorem State.judge_light (s : State) : LightMoves s s.judge := by
  unfold State.judge
  extract_lets act rising openH opens shorts outside s1 s2
  have opened : LightMoves s s1 := .foldl (fun u n => u.lampFailure_light n 1) _ s
  have shorted : LightMoves s1 s2 := .foldl (fun u n => u.lampFailure_light n 2) _ s1
  exact (opened.trans shorted).trans (.foldl (fun u h => u.harnessOpen_light h _) _ s2)

/-! ### Gear -/

theorem State.gearEvent_light (s : State) (n : Fin 16) (kind level : Nat) : LightMoves s (s.gearEvent n kind level) := by
  unfold State.gearEvent
  split
  · exact .refl s
  · exact s.raiseAll_light _ _ _ _

theorem State.gearPersist_light (s : State) (n : Fin 16) (old : GearVars) : LightMoves s (s.gearPersist n old) := by
  unfold State.gearPersist
  split
  · exact .refl s
  · split
    · exact .refl s
    · split
      · exact s.updGear_light n _
      · exact s.storePush_light _ _

theorem State.gearChange_light (s : State) (n : Fin 16) (f : Gear → Gear) : LightMoves s (s.gearChange n f) := by
  unfold State.gearChange
  split
  · exact .refl s
  · exact (s.updGear_light n f).trans (State.gearPersist_light _ _ _)

theorem State.gearFlush_light (s : State) : LightMoves s s.gearFlush :=
  .forAll (fun u n => by
    split
    · split
      · exact (u.updGear_light n _).trans (State.storePush_light _ _ _)
      · exact .refl u
    · exact .refl u) s

theorem State.lampRefresh_light (s : State) : LightMoves s s.lampRefresh :=
  .forAll (fun u n => by
    split
    · exact .refl u
    · dsimp only
      split
      · exact .refl u
      · exact (u.updGear_light n _).trans (State.gearEvent_light _ _ _ _)) s

theorem State.gearValley_light (s : State) : LightMoves s s.gearValley :=
  .forAll (fun u n => by
    split
    · exact .refl u
    · extract_lets s1 s2 s3
      rename_i g _
      have curve : LightMoves u s1 := by
        show LightMoves u (match g.curveNext with | some c => _ | none => u)
        split
        · exact u.gearChange_light n _
        · exact .refl u
      have settled : LightMoves u s2 := curve.trans (s1.updGear_light n _)
      split
      · have lost : LightMoves u s3 := settled.trans (s2.updGear_light n _)
        split
        · exact lost.trans (s3.gearEvent_light _ _ _)
        · exact lost
      · exact settled) s

/-! ### The valley of TIM08 -/

theorem State.groupCfgActs_light (s : State) (g : Fin 8) (c : LightCfg) : LightMoves s (s.groupCfgActs g c) := by
  unfold State.groupCfgActs
  extract_lets old toBus fresh s1 s2
  have placed : LightMoves s s1 := .forAll (fun u n => u.updSink_light n _) s
  have off : LightMoves s1 s2 := by
    show LightMoves s1 (if _ then _ else _)
    split
    · exact s1.dark_light g
    · exact .refl s1
  exact (placed.trans off).trans (s2.updGroup_light g _)

theorem State.illumValley_light (s : State) (vstr : Nat) : LightMoves s (s.illumValley vstr) := by
  unfold State.illumValley
  extract_lets s0 s1 s2 s3 s4
  have measured : LightMoves s s0 := s.updStage_light _
  have judged : LightMoves s0 s1 :=
    (((s0.takeScan_light.trans (State.stageScan_light _)).trans (State.shortScan_light _)).trans (State.judge_light _)).trans
      (State.closeScan_light _)
  have dims : LightMoves s1 s2 := s1.updIllum_light _
  have configured : LightMoves s2 s3 := by
    refine (s2.gearValley_light.trans (State.gearFlush_light _)).trans (.forAll (fun u g => ?_) _)
    split
    · exact u.groupCfgActs_light g _
    · exact .refl u
  have applied : LightMoves s3 s4 := .forAll (fun u g => (u.updGroup_light g _).trans (State.applyGroup_light _ g)) _
  exact ((((measured.trans judged).trans dims).trans configured).trans applied).trans s4.lampRefresh_light

theorem State.dimValley_light (s : State) (vstr : Nat) : LightMoves s (s.dimValley vstr) := by
  unfold State.dimValley
  split
  · exact s.illumValley_light vstr
  · split
    · exact (s.gearValley_light.trans (State.gearFlush_light _)).trans (State.updIllum_light _ _)
    · exact .refl s

theorem State.applySets_light (s : State) (g : Fin 8) : LightMoves s (s.applySets g) := by
  unfold State.applySets
  extract_lets due x s1
  have stored : LightMoves s s1 := .foldl (f := fun u (q : QueuedSet) => q.entries.foldl _ u) (fun u q => .foldl (fun v e => v.updSink_light _ _) q.entries u) _ s
  exact (stored.trans (s1.updGroup_light g _)).trans (State.applyGroup_light _ g)

end Sys2Proof.Machine
end

section
/-! PROOFS. The timers: valleys, peaks, compare matches, captures and the count (R290 to R295). -/

namespace Sys2Proof.Machine

/-! ### What a timer's row leaves alone -/

theorem State.gtEdges_eq (before after : State) : ∃ v, State.gtEdges before after = { after with sensors := v } := by
  refine foldl_keeps (P := fun t => ∃ v, t = { after with sensors := v }) ?_ _ after ⟨after.sensors, rfl⟩
  rintro _ k ⟨v, rfl⟩
  split
  · exact ⟨_, State.trigSource_eq _ _⟩
  · exact ⟨v, rfl⟩

theorem State.axisValley_onlyAxes (s : State) (n : Fin 8) : ∃ v, s.axisValley n = { s with axes := v } := ⟨_, rfl⟩

theorem State.drivePattern_onlyAxes (s : State) (n : Fin 8) (p : Pattern) : ∃ v, s.drivePattern n p = { s with axes := v } := ⟨_, rfl⟩

/-- A valley that is due changes its timer, and of the rest that the obligation speaks of at most the axes. -/
theorem timerValley_due {s : State} {n : Fin 16} (serves : ¬ (n = 8 ∧ s.switchWaits = true)) (due : (s.timers.get n).due s.d02 = true) :
    ∃ t, exec (.timerValley n) s = .next t ∧
      t.timers = bankUpd s.timers n (fun x => x.valley x.nextValley s.d02) ∧
      t.mem = s.mem ∧ t.leases = s.leases ∧ (8 ≤ n.val → t.axes = s.axes) := by
  have row : exec (.timerValley n) s = execTimerValley n s := rfl
  simp only [execTimerValley, serves, if_false, due, if_true] at row
  have turned : s.timerValley n = s.updTimer n fun x => x.valley x.nextValley s.d02 := by
    unfold State.timerValley
    exact if_pos due
  obtain ⟨v, edges⟩ := State.gtEdges_eq s (s.timerValley n)
  rw [edges, turned] at row
  refine ⟨_, row, ?_⟩
  split
  case isTrue low =>
    obtain ⟨axes, moved⟩ := State.axisValley_onlyAxes
      { s.updTimer n (fun x => x.valley x.nextValley s.d02) with sensors := v } ⟨n.val, low⟩
    rw [moved]
    exact ⟨rfl, rfl, rfl, fun high => absurd low (by omega)⟩
  case isFalse high =>
    split
    · have lit := State.dimValley_light { s.updTimer n (fun x => x.valley x.nextValley s.d02) with sensors := v }
        s.illum.stage.vstr
      unfold LightMoves at lit
      dsimp only [State.updTimer] at lit ⊢
      rw [lit]
      exact ⟨rfl, rfl, rfl, fun _ => rfl⟩
    · exact ⟨rfl, rfl, rfl, fun _ => rfl⟩

theorem Timer.due_iff (x : Timer) (d : Nat) : x.due d = true ↔ x.run = true ∧ x.nextValley ≤ d := by
  simp [Timer.due]

theorem Timer.valley_eq {x : Timer} (runs : x.run = true) (d02 : Nat) :
    let y := { x with valleyAt := x.nextValley, active := x.preload }
    x.valley x.nextValley d02 = { y with ball := (x.valley x.nextValley d02).ball } ∧
      ∀ a, (x.valley x.nextValley d02).ball.get a = y.ballLevel d02 (x.gtFunc.get a) := by
  refine ⟨rfl, fun a => ?_⟩
  simp only [Timer.valley, Timer.refresh, Vector.get_ofFn, runs, if_true]

/-- A compare match brings the balls of its timer to their levels, and channel 0 of TIM00 to TIM07 drives its axis's gates. -/
theorem timerCompareMatch_drives (s : State) (n : Fin 16) (k : Fin 4) :
    ∃ t, exec (.timerCompareMatch n k) s = .next t ∧ t.timers = bankUpd s.timers n (fun x => x.refresh s.d02) ∧
      t.mem = s.mem ∧ t.leases = s.leases ∧ (8 ≤ n.val ∨ k ≠ 0 → t.axes = s.axes) ∧
      ∀ h : n.val < 8, k = 0 → ∀ i, (t.axis ⟨n.val, h⟩).gates.level.get i = true →
        gateWant (s.axis ⟨n.val, h⟩).gates.pattern ((s.timers.get n).active? s.d02 0) i = true := by
  have row : exec (.timerCompareMatch n k) s = execTimerCompareMatch n k s := rfl
  obtain ⟨v, edges⟩ := State.gtEdges_eq s (s.updTimer n fun x => x.refresh s.d02)
  simp only [execTimerCompareMatch, edges] at row
  refine ⟨_, row, ?_⟩
  split
  case isTrue low =>
    split
    case isTrue zero =>
      refine ⟨rfl, rfl, rfl, fun other => ?_, fun _ _ i high => ?_⟩
      · rcases other with high | other
        · omega
        · exact absurd zero other
      · rw [State.drivePattern_axis_self] at high
        have wanted := Gates.wanted_of_high high
        have same : (bankUpd s.timers n fun x => x.refresh s.d02).get (axTimer ⟨n.val, low⟩) = (s.timers.get n).refresh s.d02 :=
          bankUpd_get_self _ _ _
        have level : (((bankUpd s.timers n fun x => x.refresh s.d02).get (axTimer ⟨n.val, low⟩)).active? s.d02 0) =
            (s.timers.get n).active? s.d02 0 := by
          rw [same]
          rfl
        rw [← level]
        exact wanted
    case isFalse other =>
      exact ⟨rfl, rfl, rfl, fun _ => rfl, fun _ zero => absurd zero other⟩
  case isFalse high =>
    exact ⟨rfl, rfl, rfl, fun _ => rfl, fun low => absurd low high⟩

theorem Timer.refresh_ball (x : Timer) (d : Nat) (a : Fin 2) :
    (x.refresh d).ball.get a = if x.run then x.ballLevel d (x.gtFunc.get a) else none := by
  simp only [Timer.refresh, Vector.get_ofFn]

/-! ### Captures -/

theorem Timer.captures?_iff (x : Timer) (n : Fin 16) :
    x.captures? n = true ↔ if n.val < 10 then n ≠ 8 else x.gtFunc.get 0 = 5 ∨ x.gtFunc.get 1 = 5 := by
  unfold Timer.captures?
  split
  · exact bne_iff_ne
  · rw [List.any_eq_true]
    simp only [beq_iff_eq, Vector.mem_toList_iff, Vector.mem_iff_getElem]
    constructor
    · rintro ⟨_, ⟨i, bound, rfl⟩, five⟩
      match i, bound with
      | 0, _ => exact .inl five
      | 1, _ => exact .inr five
    · rintro (five | five)
      · exact ⟨_, ⟨0, by decide, rfl⟩, five⟩
      · exact ⟨_, ⟨1, by decide, rfl⟩, five⟩

theorem Timer.recognises_iff (x : Timer) (e : CapEdge) :
    x.recognises e = true ↔ x.capFilt ≤ e.stable ∧ (x.capEdge = 3 ∨ x.capEdge = if e.rising then 1 else 2) ∧
      ¬ (x.capEdge = 3 ∧ x.capLevel = some e.rising) := by
  unfold Timer.recognises
  cases e.rising <;> simp [and_assoc, or_comm, imp_iff_not_or]

theorem timerCapture_acts (s : State) (e : CapEdge) : let x := s.timers.get e.timer
    let c := if x.rstAt = some s.now then (0, true) else x.count (s.d02 + e.cycle.val)
    exec (.timerCapture e) s = .next
      (if x.run = true ∧ (if e.timer.val < 10 then e.timer ≠ 8 else x.gtFunc.get 0 = 5 ∨ x.gtFunc.get 1 = 5) ∧
          x.capFilt ≤ e.stable ∧ (x.capEdge = 3 ∨ x.capEdge = if e.rising then 1 else 2) ∧
          ¬ (x.capEdge = 3 ∧ x.capLevel = some e.rising) then
        s.updTimer e.timer fun x => { x with
          capOvr := x.capOvr || x.capValid, capValid := true, captures := satInc 65535 x.captures,
          capCount := c.1, capDir := c.2, capAt := some s.now, capLevel := some e.rising }
      else s) := by
  extract_lets x c
  have row : exec (.timerCapture e) s = execTimerCapture e s := rfl
  rw [row, execTimerCapture]
  congr 1
  refine ite_congr ?_ (fun _ => rfl) fun _ => rfl
  rw [← Timer.captures?_iff x, ← Timer.recognises_iff x]

/-! ### The count -/

theorem Timer.top_pos (x : Timer) : 0 < x.top := Nat.lt_of_lt_of_le Nat.one_pos (Nat.le_max_left 1 _)

theorem Timer.count_le_top (x : Timer) (d : Nat) : (x.count d).1 ≤ x.top := by
  unfold Timer.count
  extract_lets p
  split
  · exact le_of_lt (by assumption)
  · dsimp only
    omega

theorem Timer.phase_of_lt {x : Timer} {d : Nat} (short : (d - x.valleyAt) / 2 ^ x.active.pre < 2 * x.top) :
    x.phase d = (d - x.valleyAt) / 2 ^ x.active.pre := Nat.mod_eq_of_lt short

theorem Timer.count_rising {x : Timer} {d : Nat} (up : (d - x.valleyAt) / 2 ^ x.active.pre < x.top) :
    x.count d = ((d - x.valleyAt) / 2 ^ x.active.pre, true) := by
  unfold Timer.count
  rw [Timer.phase_of_lt (by omega)]
  exact if_pos up

theorem Timer.count_falling {x : Timer} {d : Nat} (down : x.top ≤ (d - x.valleyAt) / 2 ^ x.active.pre)
    (short : (d - x.valleyAt) / 2 ^ x.active.pre < 2 * x.top) :
    x.count d = (2 * x.top - (d - x.valleyAt) / 2 ^ x.active.pre, false) := by
  unfold Timer.count
  rw [Timer.phase_of_lt short]
  exact if_neg (by omega)

theorem Timer.count_period {x : Timer} {d : Nat} (after : x.valleyAt ≤ d) :
    x.count (d + 2 * x.top * 2 ^ x.active.pre) = x.count d := by
  have same : x.phase (d + 2 * x.top * 2 ^ x.active.pre) = x.phase d := by
    unfold Timer.phase Timer.tickLen
    rw [Nat.sub_add_comm after, Nat.add_mul_div_right _ _ (by positivity), Nat.add_mod_right]
  unfold Timer.count
  rw [same]

/-- Settles O22. -/
theorem timersAct : Obligations.TimersAct := by
  unfold Obligations.TimersAct
  refine ⟨⟨fun s n => ?valley, fun s n => ?peak, fun s n k => ?compare, timerCapture_acts⟩, fun x d after => ?count⟩
  case valley =>
    dsimp -proj only
    split
    case isTrue waits => exact congrArg Host.Outcome.next (if_pos waits)
    case isFalse serves =>
      split
      case isTrue due =>
        obtain ⟨t, row, timers, mem, leases, axes⟩ := timerValley_due serves ((Timer.due_iff _ _).2 due)
        obtain ⟨turned, balls⟩ := Timer.valley_eq due.1 s.d02
        refine ⟨t, row, ?_, ?_, fun m other => ?_, mem, leases, axes⟩
        · rw [timers, bankUpd_get_self]
          exact turned
        · rw [timers, bankUpd_get_self]
          exact balls
        · rw [timers, bankUpd_get, if_neg (Ne.symm other)]
      case isFalse early =>
        have row : exec (.timerValley n) s = execTimerValley n s := rfl
        rw [← Timer.due_iff, Bool.not_eq_true] at early
        simp only [execTimerValley, serves, if_false, early, Bool.false_eq_true] at row
        exact row
  case peak => exact ⟨_, rfl, Timer.refresh_ball _ _⟩
  case compare =>
    obtain ⟨t, row, timers, mem, leases, axes, gates⟩ := timerCompareMatch_drives s n k
    exact ⟨t, _, row, timers, Timer.refresh_ball _ _, mem, leases, axes, gates⟩
  case count =>
    exact ⟨x.count_le_top d, fun up => Timer.count_rising up, fun down short => Timer.count_falling down short,
      Timer.count_period after⟩

end Sys2Proof.Machine
end

section
/-! PROOFS. The mapped gear as lists; GEAR_CONFIG and the power of a lighting bus (R374, R386, R389). -/

namespace Sys2Proof.Machine

/-! ### Gear of a group and of a bus -/

theorem Lbus.mem_gearOf {l : Lbus} {g : Fin 8} {k : Fin 16} {e : Gear} :
    (k, e) ∈ l.gearOf g ↔ l.gear.get k = some e ∧ e.vars.group = g := by
  simp only [Lbus.gearOf, bankList, List.mem_filterMap, List.mem_map, List.mem_finRange, true_and, exists_exists_eq_and]
  constructor
  · rintro ⟨i, found⟩
    cases gear : l.gear.get i with
    | none =>
      rw [gear] at found
      cases found
    | some x =>
      simp only [gear, Option.ite_none_right_eq_some, Option.some.injEq, Prod.mk.injEq] at found
      obtain ⟨group, rfl, rfl⟩ := found
      exact ⟨gear, group⟩
  · rintro ⟨gear, group⟩
    exact ⟨k, by simp only [gear, group, if_true]⟩

theorem State.mem_gearAt {s : State} {b : Fin 2} {dst : BusAddr} {n : Fin 16} :
    n ∈ s.gearAt b dst ↔ ∃ g, s.lbus.gear.get n = some g ∧ busOf n = b ∧ g.addressed dst = true := by
  simp only [State.gearAt, bankList, List.mem_filterMap, List.mem_map, List.mem_finRange, true_and, exists_exists_eq_and]
  constructor
  · rintro ⟨i, found⟩
    cases gear : s.lbus.gear.get i with
    | none =>
      rw [gear] at found
      cases found
    | some x =>
      simp only [gear, Option.ite_none_right_eq_some, Option.some.injEq] at found
      obtain ⟨⟨bus, heard⟩, rfl⟩ := found
      exact ⟨x, gear, bus, heard⟩
  · rintro ⟨g, gear, bus, heard⟩
    exact ⟨n, by simp only [gear, bus, heard, and_self, if_true]⟩

theorem State.gearAt_nodup (s : State) (b : Fin 2) (dst : BusAddr) : (s.gearAt b dst).Nodup := by
  unfold State.gearAt bankList
  rw [List.filterMap_map]
  refine (List.nodup_finRange 16).filterMap fun i j n first second => ?_
  have place : ∀ {i : Fin 16}, n ∈ ((fun x : Fin 16 × Option Gear => match x.2 with
      | some g => if busOf x.1 = b ∧ g.addressed dst then some x.1 else none
      | none => none) ∘ fun i => (i, s.lbus.gear.get i)) i → i = n := by
    intro i found
    cases gear : s.lbus.gear.get i with
    | none =>
      simp only [Function.comp_apply, gear] at found
      cases found
    | some g =>
      simp only [Function.comp_apply, gear, Option.mem_def, Option.ite_none_right_eq_some, Option.some.injEq] at found
      exact found.2
  rw [place first, place second]

/-- The gear of a bus that are addressed are the same while the gear are. -/
theorem State.gearAt_congr {s t : State} (same : t.lbus.gear = s.lbus.gear) (b : Fin 2) (dst : BusAddr) :
    t.gearAt b dst = s.gearAt b dst := by
  unfold State.gearAt
  rw [same]

/-! ### GEAR_CONFIG -/

theorem busOf_gearNum {bus slot : Nat} (hb : bus ≤ 1) (hs : slot ≤ 7) : (busOf (gearNum bus slot)).val = bus := by
  simp only [busOf, gearNum, Fin.val_ofNat]
  omega

section
variable {t : Ticket} {g : Fin 8} {p : GearP} {s : State} (bus : p.bus.toNat ≤ 1) (slot : p.slot.toNat ≤ 7)

theorem doGearConfig_noOp (op : 1 < p.op.toNat) : doGearConfig t g p s = s.reply t eParam [] := by
  unfold doGearConfig
  exact if_pos (.inl op)

/-- Another gear of the group is on the bus. -/
def State.secondGear (s : State) (g : Fin 8) (n : Fin 16) : Prop :=
  ∃ k e, s.lbus.gear.get k = some e ∧ e.vars.group = g ∧ busOf k = busOf n ∧ k ≠ n

/-- The slot holds a gear of another group. -/
def State.otherGear (s : State) (g : Fin 8) (n : Fin 16) : Prop := ∃ e, s.lbus.gear.get n = some e ∧ e.vars.group ≠ g

include bus slot

theorem secondGear_iff : (s.lbus.gearOf g).any (fun x => decide ((busOf x.1).val = p.bus.toNat ∧ x.1 ≠ gearNum p.bus.toNat p.slot.toNat)) = true ↔
    s.secondGear g (gearNum p.bus.toNat p.slot.toNat) := by
  simp only [List.any_eq_true, decide_eq_true_eq, State.secondGear]
  constructor
  · rintro ⟨⟨k, e⟩, mem, same, other⟩
    obtain ⟨gear, group⟩ := Lbus.mem_gearOf.1 mem
    exact ⟨k, e, gear, group, Fin.ext (same.trans (busOf_gearNum bus slot).symm), other⟩
  · rintro ⟨k, e, gear, group, same, other⟩
    exact ⟨(k, e), Lbus.mem_gearOf.2 ⟨gear, group⟩, by rw [same, busOf_gearNum bus slot], other⟩

theorem doGearConfig_map (op : p.op = 0) (curve : p.curve.toNat ≤ 1) (short : p.short.toNat ≤ 63 ∨ p.short = 255) :
    doGearConfig t g p s =
      (let n := gearNum p.bus.toNat p.slot.toNat
      let other : Bool := match s.lbus.gear.get n with
        | some e => decide (e.vars.group ≠ g)
        | none => false
      let second := (s.lbus.gearOf g).any fun x => decide ((busOf x.1).val = p.bus.toNat ∧ x.1 ≠ n)
      if other ∨ second then s.reply t eBusy []
      else
        let v := { GearVars.fresh g (p.curve = 1) (if p.short.toNat = 255 then none else some p.short.toNat) with
          sysFail := p.sysFail.toNat, powerOn := p.powerOn.toNat, busGroups := p.groups.toNat }
        (s.updLbus fun l => { l with gear := bankSet l.gear n (some { Gear.ofVars v 254 with savedAt := s.now }) }).storePush
          (.gear n (some v)) (some t)) := by
  have zero : p.op.toNat = 0 := by rw [op]; rfl
  have short' : ¬ (p.short.toNat > 63 ∧ p.short.toNat ≠ 255) := by
    rintro ⟨big, other⟩
    rcases short with small | all
    · omega
    · rw [all] at other
      exact other rfl
  unfold doGearConfig
  extract_lets _ _ _ n rest0
  exact (if_neg (by omega)).trans (if_pos zero)

theorem doGearConfig_unmap (op : p.op = 1) (curve : p.curve = 0) (short : p.short = 0) (sysFail : p.sysFail = 0)
    (powerOn : p.powerOn = 0) (groups : p.groups = 0) :
    doGearConfig t g p s =
      match s.lbus.gear.get (gearNum p.bus.toNat p.slot.toNat) with
      | some e =>
        if e.vars.group = g then
          (s.updLbus fun l => { l with gear := bankSet l.gear (gearNum p.bus.toNat p.slot.toNat) none }).storePush
            (.gear (gearNum p.bus.toNat p.slot.toNat) none) (some t)
        else s.reply t eParam []
      | none => s.reply t eParam [] := by
  have one : p.op.toNat = 1 := by rw [op]; rfl
  unfold doGearConfig
  extract_lets _ _ _ n rest0
  have rest : rest0 := ⟨curve, short, sysFail, powerOn, groups⟩
  have inRange : ¬ (p.op.toNat > 1 ∨ p.bus.toNat > 1 ∨ p.slot.toNat > 7 ∨ (p.op.toNat = 1 ∧ ¬ rest0) ∨
      (p.op.toNat = 0 ∧ (p.curve.toNat > 1 ∨ (p.short.toNat > 63 ∧ p.short.toNat ≠ 255)))) := by
    rintro (reserved | noBus | noSlot | ⟨-, more⟩ | ⟨maps, -⟩)
    · omega
    · omega
    · omega
    · exact more rest
    · omega
  exact (if_neg inRange).trans (if_neg (by omega))

end

/-- Where GEAR_CONFIG leaves its reply to the configuration store, its write waits there and the gear are as it says. -/
theorem gearConfig_waits {s : State} {h : Hdr} {ses : Session} {p : GearP} (ok : Accepted s h (.gearConfig p) ses) {n : Fin 16}
    {v : Option GearVars} {gear : Vector (Option Gear) 16}
    (effect : perform (s.ticket h (.gearConfig p) ses) (.gearConfig p) (s.accepted h) =
      ((s.accepted h).updLbus fun l => { l with gear := gear }).storePush (.gear n v) (some (s.ticket h (.gearConfig p) ses))) :
    ∃ t, exec (.gearConfig h p) s = .next t ∧
      t.store.queue = s.store.queue ++ [⟨.gear n v, some (s.ticket h (.gearConfig p) ses), s.now, none⟩] ∧
      t.lbus.gear = gear ∧ t.illum = s.illum ∧ t.axes = s.axes ∧ t.mem = s.mem := by
  have row : exec (.gearConfig h p) s = .next (s.serve h (.gearConfig p)) := rfl
  refine ⟨_, row, ?_⟩
  have settled : (((s.accepted h).updLbus fun l => { l with gear := gear }).storePush (.gear n v)
      (some (s.ticket h (.gearConfig p) ses))).calm = true := State.calm_of_sessions rfl ok.calm
  rw [serve_accepted ok, effect, State.finish_calm settled]
  simp only [State.storePush, State.updLbus, State.accepted_store, State.accepted_now, State.accepted_illum, State.accepted_axes,
    State.accepted_mem, and_self]

theorem gearConfig_answers {s : State} {h : Hdr} {ses : Session} {p : GearP} (ok : Accepted s h (.gearConfig p) ses) {e : Nat}
    (plain : Uncounted e) (effect : ∀ t u, u.lbus = s.lbus →
      doGearConfig t (Fin.ofNat 8 h.idx.toNat) p u = u.reply t e []) : Completes (.gearConfig h p) s h 0x4C e [] s :=
  Accepted.completes_reply ok (i := .gearConfig h p) rfl (by simp [Cmd.opcode]) plain
    (effect _ _ (s.accepted_lbus h))

/-! ### The power of a bus -/

theorem foldl_updGear (f : Gear → Gear) (l : List (Fin 16)) (s : State) :
    l.foldl (fun s n => s.updGear n f) s =
      s.updLbus fun x => { x with gear := l.foldl (fun v n => bankUpd v n (·.map f)) x.gear } := by
  induction l generalizing s with
  | nil => rfl
  | cons n l ih =>
    rw [List.foldl_cons, ih]
    rfl

theorem foldl_updGear_get (f : Gear → Gear) {l : List (Fin 16)} (once : l.Nodup) (v : Vector (Option Gear) 16) (n : Fin 16) :
    (l.foldl (fun v n => bankUpd v n (·.map f)) v).get n = if n ∈ l then (v.get n).map f else v.get n :=
  foldl_bankUpd (fun _ x => x.map f) once v n

/-- LBUS_POWER_LOSS of a bus that had power or answered. -/
theorem lbusPowerLoss_acts {s : State} {b : Fin 2} (first : s.powerWaits b = false) (free : s.underTest (if b = 0 then 6 else 7) = false)
    (had : (s.lbus.bus.get b).power = true ∨ (s.lbus.bus.get b).answers = true) :
    exec (.lbusPowerLoss b) s = .next ((s.updBus b fun x =>
        { x with power := false, answers := false, powerLoss := satInc 65535 x.powerLoss, answer := none, last := none,
                 dt6 := false }).updLbus fun x => { x with
      gear := (s.gearAt b .broadcast).foldl (fun v n => bankUpd v n (·.map fun g =>
        { g with init := none, withdrawn := false, lossDue := true })) x.gear }) := by
  have row : exec (.lbusPowerLoss b) s = execLbusPowerLoss b s := rfl
  rw [row, execLbusPowerLoss]
  extract_lets s1
  have heard : s1.gearAt b .broadcast = s.gearAt b .broadcast := State.gearAt_congr rfl b _
  rw [if_neg (by rw [first]; exact Bool.false_ne_true), if_neg, foldl_updGear, heard]
  rintro (test | without)
  · rw [free] at test
    cases test
  · exact without had

/-- The events of gear that have power again touch the owners only. -/
theorem foldl_gearEvent_onlyOwners (l : List (Fin 16)) (s : State) :
    ∃ o, l.foldl (fun s n => match s.lbus.gear.get n with
      | some g => s.gearEvent n 5 (g.actual s.now)
      | none => s) s = { s with owners := o } := by
  refine foldl_keeps (P := fun t => ∃ o, t = { s with owners := o }) ?_ l s ⟨s.owners, rfl⟩
  rintro _ n ⟨o, rfl⟩
  dsimp only
  split
  · unfold State.gearEvent
    split
    · exact ⟨o, rfl⟩
    · exact ⟨_, State.raiseAll_onlyOwners _ _ _ _ _⟩
  · exact ⟨o, rfl⟩

theorem lbusPowerRestore_acts {s : State} {b : Fin 2} (first : s.powerWaits b = false) (free : s.underTest (if b = 0 then 6 else 7) = false) :
    ∃ o, exec (.lbusPowerRestore b) s = .next { s.updBus b fun x =>
        { x with power := true, answers := x.answers || s.boot.dev == .full || s.boot.dev == .shutdown } with owners := o } := by
  have row : exec (.lbusPowerRestore b) s = execLbusPowerRestore b s := rfl
  rw [row, execLbusPowerRestore]
  extract_lets was s1
  rw [if_neg (by rw [first]; exact Bool.false_ne_true), if_neg (by rw [free]; exact Bool.false_ne_true)]
  split
  · exact ⟨s.owners, rfl⟩
  · obtain ⟨o, events⟩ := foldl_gearEvent_onlyOwners (s1.gearAt b .broadcast) s1
    exact ⟨o, congrArg Host.Outcome.next events⟩

theorem gearConfig_acts {s : State} {h : Hdr} {ses : Session} {p : GearP} (ok : Accepted s h (.gearConfig p) ses)
    (bus : p.bus.toNat ≤ 1) (slot : p.slot.toNat ≤ 7) :
    let g : Fin 8 := Fin.ofNat 8 h.idx.toNat
    let n := gearNum p.bus.toNat p.slot.toNat
    let queued (t : State) (v : Option GearVars) : Prop :=
      t.store.queue = s.store.queue ++ [⟨.gear n v, some (s.ticket h (.gearConfig p) ses), s.now, none⟩]
    (p.op = 0 → p.curve.toNat ≤ 1 → (p.short.toNat ≤ 63 ∨ p.short = 255) →
      (s.otherGear g n ∨ s.secondGear g n → Completes (.gearConfig h p) s h 0x4C eBusy [] s) ∧
      (¬ s.otherGear g n → ¬ s.secondGear g n →
        let v := { GearVars.fresh g (p.curve = 1) (if p.short = 255 then none else some p.short.toNat) with
          sysFail := p.sysFail.toNat, powerOn := p.powerOn.toNat, busGroups := p.groups.toNat }
        ∃ t, exec (.gearConfig h p) s = .next t ∧ queued t (some v) ∧
          t.lbus.gear = bankSet s.lbus.gear n (some { Gear.ofVars v 254 with savedAt := s.now }) ∧ t.illum = s.illum ∧
          t.axes = s.axes ∧ t.mem = s.mem)) ∧
    (p.op = 1 → p.curve = 0 → p.short = 0 → p.sysFail = 0 → p.powerOn = 0 → p.groups = 0 →
      ((∃ e, s.lbus.gear.get n = some e ∧ e.vars.group = g) →
        ∃ t, exec (.gearConfig h p) s = .next t ∧ queued t none ∧ t.lbus.gear = bankSet s.lbus.gear n none ∧
          t.illum = s.illum ∧ t.axes = s.axes ∧ t.mem = s.mem) ∧
      (s.otherGear g n ∨ s.lbus.gear.get n = none → Completes (.gearConfig h p) s h 0x4C eParam [] s)) ∧
    (1 < p.op.toNat → Completes (.gearConfig h p) s h 0x4C eParam [] s) := by
  intro g n queued
  have elsewhere {u : State} (same : u.lbus = s.lbus) :
      (match (generalizing := false) u.lbus.gear.get n with
        | some e => decide (e.vars.group ≠ g)
        | none => false) = true ↔ s.otherGear g n := by
    rw [same, State.otherGear]
    cases s.lbus.gear.get n <;> simp
  have twice {u : State} (same : u.lbus = s.lbus) :
      ((u.lbus.gearOf g).any fun x => decide ((busOf x.1).val = p.bus.toNat ∧ x.1 ≠ n)) = true ↔ s.secondGear g n := by
    rw [same]
    exact secondGear_iff bus slot
  have whole : (if p.short = 255 then none else some p.short.toNat) = if p.short.toNat = 255 then none else some p.short.toNat :=
    if_congr ⟨fun h => by rw [h]; rfl, fun h => BitVec.eq_of_toNat_eq h⟩ rfl rfl
  refine ⟨fun op curve short => ⟨fun taken => ?busy, fun mine alone => ?map⟩,
    fun op curve short sysFail powerOn groups => ⟨?unmap, fun foreign => ?foreign⟩, fun op => ?reserved⟩
  case busy =>
    refine gearConfig_answers ok uncounted_busy fun t u same => ?_
    rw [doGearConfig_map bus slot op curve short]
    exact if_pos (taken.imp (elsewhere same).2 (twice same).2)
  case map =>
    rw [whole]
    refine gearConfig_waits ok ?_
    refine (doGearConfig_map bus slot op curve short).trans ?_
    refine (if_neg (not_or.2 ⟨mt (elsewhere (s.accepted_lbus h)).1 mine, mt (twice (s.accepted_lbus h)).1 alone⟩)).trans ?_
    simp only [State.updLbus, State.accepted_lbus, State.accepted_now]
    rfl
  case unmap =>
    rintro ⟨e, gear, group⟩
    refine gearConfig_waits ok ?_
    refine (doGearConfig_unmap bus slot op curve short sysFail powerOn groups).trans ?_
    simp only [State.updLbus, State.accepted_lbus]
    split
    case h_1 e' found =>
      obtain rfl := Option.some.inj (gear.symm.trans found)
      exact if_pos group
    case h_2 found => exact absurd (gear.symm.trans found) (Option.some_ne_none e)
  case foreign =>
    refine gearConfig_answers ok uncounted_param fun t u same => ?_
    rw [doGearConfig_unmap bus slot op curve short sysFail powerOn groups, same]
    split
    case h_1 e found =>
      refine if_neg fun group => ?_
      rcases foreign with ⟨e', gear, other⟩ | free
      · obtain rfl := Option.some.inj (gear.symm.trans found)
        exact other group
      · exact absurd (free.symm.trans found) (Option.some_ne_none e).symm
    case h_2 => rfl
  case reserved => exact gearConfig_answers ok uncounted_param fun t u _ => doGearConfig_noOp op

/-- Settles O39. -/
theorem gearAndBusPower : Obligations.GearAndBusPower := by
  unfold Obligations.GearAndBusPower
  refine ⟨fun s h ses p ok bus slot => gearConfig_acts ok bus slot, fun s b => ?_⟩
  have loss : exec (.lbusPowerLoss b) s = execLbusPowerLoss b s := rfl
  have restore : exec (.lbusPowerRestore b) s = execLbusPowerRestore b s := rfl
  split
  case isTrue waits =>
    exact ⟨loss.trans (congrArg Host.Outcome.next (if_pos waits)), restore.trans (congrArg Host.Outcome.next (if_pos waits))⟩
  case isFalse first =>
    by_cases test : s.underTest (if b = 0 then 6 else 7) = true
    · rw [if_pos test]
      exact ⟨loss.trans (congrArg Host.Outcome.next ((if_neg first).trans (if_pos (.inl test)))),
        restore.trans (congrArg Host.Outcome.next ((if_neg first).trans (if_pos test)))⟩
    · rw [if_neg test]
      rw [Bool.not_eq_true] at first
      have free := Bool.eq_false_of_not_eq_true test
      refine ⟨fun unpowered silent => ?_, fun had => ⟨_, lbusPowerLoss_acts first free had, ?_⟩, ?_⟩
      · refine loss.trans (congrArg Host.Outcome.next ((if_neg (by rw [first]; exact Bool.false_ne_true)).trans (if_pos (.inr ?_))))
        rw [unpowered, silent]
        decide
      · refine ⟨?_, ?_, ?_, ?_, fun n g gear bus => ?_, fun n other => ?_, fun c other => ?_, rfl, rfl, rfl⟩
        case refine_1 | refine_3 | refine_4 => simp only [State.updBus, State.updLbus, bankUpd_get_self]
        case refine_2 =>
          simp only [State.busLive, State.updBus, State.updLbus, bankUpd_get_self, Bool.false_and]
        case refine_5 =>
          refine (foldl_updGear_get _ (s.gearAt_nodup b _) _ n).trans ?_
          rw [if_pos (State.mem_gearAt.2 ⟨g, gear, bus, rfl⟩)]
          exact congrArg (Option.map _) gear
        case refine_6 =>
          refine (foldl_updGear_get _ (s.gearAt_nodup b _) _ n).trans (if_neg fun mem => ?_)
          obtain ⟨g, -, bus, -⟩ := State.mem_gearAt.1 mem
          exact other bus
        case refine_7 => exact (bankUpd_get _ _ _ _).trans (if_neg (Ne.symm other))
      · obtain ⟨o, row⟩ := lbusPowerRestore_acts first free
        refine ⟨_, row, rfl, ?_, fun c other => (bankUpd_get _ _ _ _).trans (if_neg (Ne.symm other)), rfl, rfl, rfl⟩
        simp only [State.updBus, State.updLbus, bankUpd_get_self]
        rfl

end Sys2Proof.Machine
end

section
/-! PROOFS. The commands of a master on a lighting bus (R372, R376 to R379): each acts on the gear it reaches, one by one, and
on no other. -/

namespace Sys2Proof.Machine

/-! ### What a change of gear leaves alone -/

/-- Of what the bus commands are said to leave alone only the gear of `p` differ between two states. -/
def GearOnly (p : Fin 16 → Prop) (s t : State) : Prop :=
  t.now = s.now ∧ t.illum = s.illum ∧ t.axes = s.axes ∧ t.mem = s.mem ∧ t.leases = s.leases ∧ t.lbus.bus = s.lbus.bus ∧
    ∀ n, ¬ p n → t.lbus.gear.get n = s.lbus.gear.get n

theorem GearOnly.refl (p : Fin 16 → Prop) (s : State) : GearOnly p s s := ⟨rfl, rfl, rfl, rfl, rfl, rfl, fun _ _ => rfl⟩

theorem GearOnly.trans {p : Fin 16 → Prop} {s t u : State} (h : GearOnly p s t) (k : GearOnly p t u) : GearOnly p s u := by
  obtain ⟨now, illum, axes, mem, leases, bus, gear⟩ := h
  obtain ⟨now', illum', axes', mem', leases', bus', gear'⟩ := k
  exact ⟨now'.trans now, illum'.trans illum, axes'.trans axes, mem'.trans mem, leases'.trans leases, bus'.trans bus,
    fun n out => (gear' n out).trans (gear n out)⟩

theorem GearOnly.mono {p q : Fin 16 → Prop} {s t : State} (h : GearOnly p s t) (weaker : ∀ n, p n → q n) : GearOnly q s t := by
  obtain ⟨now, illum, axes, mem, leases, bus, gear⟩ := h
  exact ⟨now, illum, axes, mem, leases, bus, fun n out => gear n (mt (weaker n) out)⟩

theorem State.updGear_only (s : State) (n : Fin 16) (f : Gear → Gear) : GearOnly (· = n) s (s.updGear n f) :=
  ⟨rfl, rfl, rfl, rfl, rfl, rfl, fun _ other => (bankUpd_get _ _ _ _).trans (if_neg (Ne.symm other))⟩

theorem State.updGear_gear (s : State) (n : Fin 16) (f : Gear → Gear) : (s.updGear n f).lbus.gear.get n = (s.lbus.gear.get n).map f :=
  bankUpd_get_self _ _ _

theorem State.updGear_congr {s : State} {n : Fin 16} {f f' : Gear → Gear} (same : ∀ g, s.lbus.gear.get n = some g → f g = f' g) :
    s.updGear n f = s.updGear n f' := by
  have entry : (s.lbus.gear.get n).map f = (s.lbus.gear.get n).map f' := Option.map_congr same
  unfold State.updGear State.updLbus bankUpd
  dsimp only
  rw [entry]

/-- A change of the owners alone. -/
theorem GearOnly.of_owners {p : Fin 16 → Prop} {s t : State} {o} (same : t = { s with owners := o }) : GearOnly p s t := by
  subst same
  exact ⟨rfl, rfl, rfl, rfl, rfl, rfl, fun _ _ => rfl⟩

theorem State.gearEvent_onlyOwners (s : State) (n : Fin 16) (kind level : Nat) : ∃ o, s.gearEvent n kind level = { s with owners := o } := by
  unfold State.gearEvent
  split
  · exact ⟨s.owners, rfl⟩
  · exact ⟨_, s.raiseAll_onlyOwners _ _ _ _⟩

theorem State.gearPersist_only (s : State) (n : Fin 16) (old : GearVars) : GearOnly (· = n) s (s.gearPersist n old) := by
  unfold State.gearPersist
  split
  · exact .refl _ s
  · split
    · exact .refl _ s
    · split
      · exact s.updGear_only n _
      · exact ⟨rfl, rfl, rfl, rfl, rfl, rfl, fun _ _ => rfl⟩

theorem State.gearChange_only (s : State) (n : Fin 16) (f : Gear → Gear) : GearOnly (· = n) s (s.gearChange n f) := by
  unfold State.gearChange
  split
  · exact .refl _ s
  · exact (s.updGear_only n f).trans (State.gearPersist_only _ _ _)

theorem State.noteTarget_only (s : State) (n : Fin 16) (old : Nat) : GearOnly (· = n) s (s.noteTarget n old) := by
  unfold State.noteTarget
  split
  · exact .refl _ s
  · split
    · exact .refl _ s
    · extract_lets s1
      have counted : GearOnly (· = n) s s1 := ⟨rfl, rfl, rfl, rfl, rfl, rfl, fun _ _ => rfl⟩
      obtain ⟨o, event⟩ := State.gearEvent_onlyOwners (s1.updGear n fun g => { g with leadAt := s1.lbus.order }) n 1 _
      exact (counted.trans (s1.updGear_only n _)).trans (.of_owners event)

/-! ### What a change does to its own gear -/

/-- But for the notes that it leads its group and that its last active level is to be stored, a gear is as another. -/
def Gear.Noted (g g' : Gear) : Prop := g' = { g with lastDirty := g'.lastDirty, leadAt := g'.leadAt }

theorem Gear.Noted.refl (g : Gear) : g.Noted g := rfl

theorem Gear.Noted.trans {g g' g'' : Gear} (h : g.Noted g') (k : g'.Noted g'') : g.Noted g'' := by
  unfold Gear.Noted at *
  rw [k, h]

theorem Gear.Noted.levelAt {g g' : Gear} (h : g.Noted g') (k : Nat) : g'.levelAt k = g.levelAt k := by
  rw [h]
  rfl

theorem State.gearChange_gear {s : State} {n : Fin 16} {g : Gear} (f : Gear → Gear) (here : s.lbus.gear.get n = some g) :
    ∃ g', (s.gearChange n f).lbus.gear.get n = some g' ∧ (f g).Noted g' := by
  have changed : (s.updGear n f).lbus.gear.get n = some (f g) := by rw [State.updGear_gear, here]; rfl
  simp only [State.gearChange, here, State.gearPersist, changed]
  split
  · exact ⟨_, changed, .refl _⟩
  · split
    · exact ⟨{ f g with lastDirty := true }, by rw [State.updGear_gear, changed]; rfl, rfl⟩
    · exact ⟨_, changed, .refl _⟩

theorem State.noteTarget_gear {s : State} {n : Fin 16} {g : Gear} (old : Nat) (here : s.lbus.gear.get n = some g) :
    ∃ g', (s.noteTarget n old).lbus.gear.get n = some g' ∧ g.Noted g' := by
  simp only [State.noteTarget, here]
  split
  · exact ⟨g, here, .refl g⟩
  · obtain ⟨o, event⟩ := State.gearEvent_onlyOwners
      ((s.updLbus fun l => { l with order := l.order + 1 }).updGear n fun g => { g with leadAt := s.lbus.order + 1 }) n 1 g.target
    refine ⟨{ g with leadAt := s.lbus.order + 1 }, ?_, rfl⟩
    refine (congrArg (fun t : State => t.lbus.gear.get n) event).trans ?_
    refine (State.updGear_gear _ n _).trans ?_
    exact congrArg (Option.map _) here

/-- A gear given a target level over a time (R379). -/
def Gear.aimed (g : Gear) (now level dur : Nat) : Gear :=
  let lim := if level = 0 then 0 else max g.vars.minLevel (min g.vars.maxLevel level)
  let present := g.levelAt now
  let start : Int := if present ≤ 0 then g.vars.minLevel * lvlOne else present
  let stop : Int := if lim = 0 then g.vars.minLevel * lvlOne else lim * lvlOne
  let fade : Option Fade := if dur = 0 ∨ (present ≤ 0 ∧ lim = 0) then none else some ⟨now, dur, start, stop⟩
  { g with target := lim, fade := fade, level := if fade.isSome then g.level else lim * lvlOne,
           limitError := level ≠ 0 && lim ≠ level, powerCycle := false,
           vars := { g.vars with lastActive := if lim = 0 then g.vars.lastActive else lim } }

theorem State.gearTarget_eq {s : State} {n : Fin 16} {g : Gear} (level dur : Nat) (here : s.lbus.gear.get n = some g) :
    s.gearTarget n level dur = (s.gearChange n fun _ => g.aimed s.now level dur).noteTarget n g.target := by
  have same : s.updGear n (fun x => { x with
      target := (g.aimed s.now level dur).target, fade := (g.aimed s.now level dur).fade,
      level := if (g.aimed s.now level dur).fade.isSome then x.level else (g.aimed s.now level dur).target * lvlOne,
      limitError := (g.aimed s.now level dur).limitError, powerCycle := false,
      vars := { x.vars with lastActive :=
        if (g.aimed s.now level dur).target = 0 then x.vars.lastActive else (g.aimed s.now level dur).target } }) =
      s.updGear n fun _ => g.aimed s.now level dur := by
    refine State.updGear_congr fun x there => ?_
    obtain rfl := Option.some.inj (here.symm.trans there)
    rfl
  simp only [State.gearTarget, State.gearChange, here]
  exact congrArg (fun t : State => (t.gearPersist n g.vars).noteTarget n g.target) same

theorem State.gearTarget_only (s : State) (n : Fin 16) (level dur : Nat) : GearOnly (· = n) s (s.gearTarget n level dur) := by
  cases here : s.lbus.gear.get n with
  | none =>
    simp only [State.gearTarget, here]
    exact .refl _ s
  | some g =>
    rw [State.gearTarget_eq level dur here]
    exact (s.gearChange_only n _).trans (State.noteTarget_only _ _ _)

theorem State.gearTarget_gear {s : State} {n : Fin 16} {g : Gear} (level dur : Nat) (here : s.lbus.gear.get n = some g) :
    ∃ g', (s.gearTarget n level dur).lbus.gear.get n = some g' ∧ (g.aimed s.now level dur).Noted g' := by
  rw [State.gearTarget_eq level dur here]
  obtain ⟨g1, changed, noted⟩ := State.gearChange_gear (fun _ => g.aimed s.now level dur) here
  obtain ⟨g2, led, also⟩ := State.noteTarget_gear g.target changed
  exact ⟨g2, led, noted.trans also⟩

/-- Once its time is over a gear stands at its target. -/
theorem Gear.aimed_levelAt (g : Gear) {now level dur k : Nat} (past : now + dur ≤ k) :
    (g.aimed now level dur).levelAt k = ((g.aimed now level dur).target : Int) * lvlOne := by
  unfold Gear.aimed Gear.levelAt
  extract_lets lim present start stop fade
  dsimp only
  by_cases still : dur = 0 ∨ (present ≤ 0 ∧ lim = 0)
  · have none : fade = none := if_pos still
    rw [none]
    rfl
  · have some : fade = some ⟨now, dur, start, stop⟩ := if_neg still
    rw [some]
    dsimp only
    rw [if_pos past]
    by_cases off : lim = 0
    · rw [if_pos off, off]
      exact (Int.zero_mul _).symm
    · rw [if_neg off]
      exact if_neg off

/-! ### One row, every gear it reaches -/

section
variable {f : State → Fin 16 → State} (only : ∀ u n, GearOnly (· = n) u (f u n))
include only

theorem foldl_gearOnly (l : List (Fin 16)) (s : State) : GearOnly (· ∈ l) s (l.foldl f s) := by
  induction l generalizing s with
  | nil => exact .refl _ s
  | cons n l ih =>
    rw [List.foldl_cons]
    refine ((only s n).mono ?_).trans ((ih (f s n)).mono fun m mem => List.mem_cons_of_mem n mem)
    rintro _ rfl
    exact List.mem_cons_self

/-- What a row does to each gear, whatever the other gear are, it does to each gear of a list. -/
theorem foldl_gear {R : Nat → Gear → Gear → Prop}
    (own : ∀ u n g, u.lbus.gear.get n = some g → ∃ g', (f u n).lbus.gear.get n = some g' ∧ R u.now g g')
    {l : List (Fin 16)} (once : l.Nodup) {s : State} {n : Fin 16} {g : Gear} (mem : n ∈ l) (here : s.lbus.gear.get n = some g) :
    ∃ g', (l.foldl f s).lbus.gear.get n = some g' ∧ R s.now g g' := by
  induction l generalizing s with
  | nil => cases mem
  | cons m l ih =>
    obtain ⟨out, rest⟩ := List.nodup_cons.1 once
    obtain ⟨now, -, -, -, -, -, gear⟩ := only s m
    rw [List.foldl_cons]
    rcases List.mem_cons.1 mem with rfl | later
    · obtain ⟨g', found, related⟩ := own s n g here
      obtain ⟨-, -, -, -, -, -, kept⟩ := foldl_gearOnly only l (f s n)
      exact ⟨g', (kept n out).trans found, related⟩
    · have other : n ≠ m := fun same => out (same ▸ later)
      obtain ⟨g', found, related⟩ := ih rest later ((gear n other).trans here)
      exact ⟨g', found, now ▸ related⟩

end

theorem State.busCommand_live {s : State} {b : Fin 2} (live : s.busLive b = true) (first : s.busWaits b = false) (i : Instr)
    (frames : Nat) (f : State → State) : s.busCommand b i frames f =
      (f (s.updBus b fun x => { x with frames := satAdd 65535 x.frames frames, last := none })).updBus b fun x => { x with dt6 := false } := by
  unfold State.busCommand
  rw [if_neg (by rw [first]; exact Bool.false_ne_true), if_pos live]

/-- A command of a master acts on every gear it reaches and on no other. -/
theorem busCommand_acts {s : State} {b : Fin 2} {dst : BusAddr} (live : s.busLive b = true) (first : s.busWaits b = false)
    {i : Instr} {frames : Nat} {f : State → Fin 16 → State} {R : Nat → Gear → Gear → Prop}
    (row : exec i s = .next (s.busCommand b i frames fun s => s.eachGear b dst f)) (only : ∀ u n, GearOnly (· = n) u (f u n))
    (own : ∀ u n g, u.lbus.gear.get n = some g → ∃ g', (f u n).lbus.gear.get n = some g' ∧ R u.now g g') :
    let hears (n : Fin 16) (g : Gear) : Prop := s.lbus.gear.get n = some g ∧ busOf n = b ∧ g.addressed dst = true
    ∃ t, exec i s = .next t ∧
      ((∀ n, (∀ g, ¬ hears n g) → t.lbus.gear.get n = s.lbus.gear.get n) ∧
        (t.lbus.bus.get b).dt6 = false ∧ t.illum = s.illum ∧ t.axes = s.axes ∧ t.mem = s.mem ∧ t.leases = s.leases) ∧
      ∀ n g, hears n g → ∃ g', t.lbus.gear.get n = some g' ∧ R s.now g g' := by
  intro hears
  rw [State.busCommand_live live first] at row
  refine ⟨_, row, ?_⟩
  have same : (s.updBus b fun x => { x with frames := satAdd 65535 x.frames frames, last := none }).gearAt b dst = s.gearAt b dst :=
    State.gearAt_congr rfl b dst
  unfold State.eachGear
  rw [same]
  have kept := foldl_gearOnly only (s.gearAt b dst) (s.updBus b fun x => { x with frames := satAdd 65535 x.frames frames, last := none })
  obtain ⟨-, illum, axes, mem, leases, -, others⟩ := kept
  refine ⟨⟨fun n deaf => others n fun reached => ?_, ?_, illum, axes, mem, leases⟩, fun n g heard => ?_⟩
  · obtain ⟨g, heard⟩ := State.mem_gearAt.1 reached
    exact deaf g heard
  · simp only [State.updBus, State.updLbus, bankUpd_get_self]
  · exact foldl_gear only own (s.gearAt_nodup b dst) (State.mem_gearAt.2 ⟨g, heard⟩) heard.1

/-! ### DAPC, UP and DOWN -/

/-- What DAPC does to one gear. -/
def State.dapcGear (level : Nat) (s : State) (n : Fin 16) : State :=
  match s.lbus.gear.get n with
  | none => s
  | some g =>
    if level = 255 then
      let l := g.actual s.now
      (s.updGear n fun g => { g with level := (l : Int) * lvlOne, target := l, fade := none }).noteTarget n g.target
    else s.gearTarget n level (fadeTicks g.vars.fadeTime)

theorem State.dapcGear_only (level : Nat) (s : State) (n : Fin 16) : GearOnly (· = n) s (s.dapcGear level n) := by
  unfold State.dapcGear
  split
  · exact .refl _ s
  · split
    · exact (s.updGear_only n _).trans (State.noteTarget_only _ _ _)
    · exact s.gearTarget_only n _ _

theorem State.dapcGear_gear (level : Nat) {s : State} {n : Fin 16} {g : Gear} (here : s.lbus.gear.get n = some g) :
    ∃ g', (s.dapcGear level n).lbus.gear.get n = some g' ∧
      (if level = 255 then { g with level := (g.actual s.now : Int) * lvlOne, target := g.actual s.now, fade := none }
        else g.aimed s.now level (fadeTicks g.vars.fadeTime)).Noted g' := by
  simp only [State.dapcGear, here]
  split
  · exact State.noteTarget_gear _ (by rw [State.updGear_gear, here]; rfl)
  · exact State.gearTarget_gear _ _ here

/-- A gear given a ramp of UP or DOWN (R379). -/
def Gear.ramped (g : Gear) (now : Nat) (up : Bool) : Gear :=
  let present := g.levelAt now
  let want := if up then present + rateStep g.vars.fadeRate else present - rateStep g.vars.fadeRate
  let stop := clampI (g.vars.minLevel * lvlOne) (g.vars.maxLevel * lvlOne) want
  let target := ((2 * stop + lvlOne) / (2 * lvlOne)).toNat
  { g with target := target, fade := some ⟨now, 200 * msTicks, present, stop⟩, powerCycle := false,
           vars := { g.vars with lastActive := target } }

theorem State.gearRamp_eq {s : State} {n : Fin 16} {g : Gear} (up : Bool) (here : s.lbus.gear.get n = some g) :
    s.gearRamp n up = if g.levelAt s.now ≤ 0 then s else (s.gearChange n fun _ => g.ramped s.now up).noteTarget n g.target := by
  have same : s.updGear n (fun x => { x with
      target := (g.ramped s.now up).target, fade := (g.ramped s.now up).fade, powerCycle := false,
      vars := { x.vars with lastActive := (g.ramped s.now up).target } }) = s.updGear n fun _ => g.ramped s.now up := by
    refine State.updGear_congr fun x there => ?_
    obtain rfl := Option.some.inj (here.symm.trans there)
    rfl
  simp only [State.gearRamp, State.gearChange, here]
  refine if_congr Iff.rfl rfl ?_
  exact congrArg (fun t : State => (t.gearPersist n g.vars).noteTarget n g.target) same

theorem State.gearRamp_only (up : Bool) (s : State) (n : Fin 16) : GearOnly (· = n) s (s.gearRamp n up) := by
  cases here : s.lbus.gear.get n with
  | none =>
    simp only [State.gearRamp, here]
    exact .refl _ s
  | some g =>
    rw [State.gearRamp_eq up here]
    split
    · exact .refl _ s
    · exact (s.gearChange_only n _).trans (State.noteTarget_only _ _ _)

theorem State.gearRamp_gear (up : Bool) {s : State} {n : Fin 16} {g : Gear} (here : s.lbus.gear.get n = some g) :
    ∃ g', (s.gearRamp n up).lbus.gear.get n = some g' ∧ if g.levelAt s.now ≤ 0 then g' = g else (g.ramped s.now up).Noted g' := by
  rw [State.gearRamp_eq up here]
  split
  case isTrue dark => exact ⟨g, here, rfl⟩
  case isFalse lit =>
    obtain ⟨g1, changed, noted⟩ := State.gearChange_gear (fun _ => g.ramped s.now up) here
    obtain ⟨g2, led, also⟩ := State.noteTarget_gear g.target changed
    exact ⟨g2, led, noted.trans also⟩

theorem Gear.ramped_levelAt_start (g : Gear) (now : Nat) (up : Bool) : (g.ramped now up).levelAt now = g.levelAt now := by
  unfold Gear.ramped
  extract_lets present want stop target
  rw [Gear.levelAt]
  dsimp only
  rw [if_neg (by have : 0 < 200 * msTicks := by decide
                 omega), Nat.sub_self]
  simp [present]

theorem clampI_ge_lo (lo hi x : Int) : lo ≤ clampI lo hi x := le_max_left _ _

theorem Gear.ramped_levelAt_end {g : Gear} {now k : Nat} (up : Bool) (low : 1 ≤ g.vars.minLevel)
    (past : now + 200 * msTicks ≤ k) : (g.ramped now up).levelAt k = clampI (g.vars.minLevel * lvlOne) (g.vars.maxLevel * lvlOne)
      (if up then g.levelAt now + rateStep g.vars.fadeRate else g.levelAt now - rateStep g.vars.fadeRate) := by
  unfold Gear.ramped
  extract_lets present want stop target
  have unit : (lvlOne : Int) = 4294967296 := rfl
  have above : (g.vars.minLevel : Int) * lvlOne ≤ stop := clampI_ge_lo _ _ _
  have lit : target ≠ 0 := by
    have : 1 ≤ (2 * stop + lvlOne) / (2 * lvlOne) := by
      rw [unit] at above ⊢
      omega
    show ((2 * stop + lvlOne) / (2 * lvlOne)).toNat ≠ 0
    omega
  rw [Gear.levelAt]
  dsimp only
  rw [if_pos past, if_neg lit]

/-! ### The other commands -/

theorem State.opVars_gear {f : Gear → GearVars} {s : State} {n : Fin 16} {g : Gear} (here : s.lbus.gear.get n = some g) :
    ∃ g', (s.gearChange n fun g => { g with vars := f g }).lbus.gear.get n = some g' ∧ g'.vars = f g ∧ g'.target = g.target := by
  obtain ⟨g', changed, noted⟩ := State.gearChange_gear (fun g => { g with vars := f g }) here
  exact ⟨g', changed, by rw [noted], by rw [noted]⟩

theorem State.updGear_own {f : Nat → Gear → Gear} {s : State} {n : Fin 16} {g : Gear} (here : s.lbus.gear.get n = some g) :
    ∃ g', (s.updGear n (f s.now)).lbus.gear.get n = some g' ∧ g' = f s.now g :=
  ⟨_, by rw [State.updGear_gear, here]; rfl, rfl⟩

/-- What RANDOMISE does to one gear. -/
def State.randomiseGear (s : State) (n : Fin 16) : State :=
  match s.lbus.gear.get n with
  | some g =>
    if g.init.isSome then
      let r := Config.drbg s.draws % 2 ^ 24
      s.drew.gearChange n fun g => { g with vars := { g.vars with random := r } }
    else s
  | none => s

theorem State.randomiseGear_only (s : State) (n : Fin 16) : GearOnly (· = n) s (s.randomiseGear n) := by
  unfold State.randomiseGear
  split
  · split
    · have drawn : GearOnly (· = n) s s.drew := ⟨rfl, rfl, rfl, rfl, rfl, rfl, fun _ _ => rfl⟩
      exact drawn.trans (State.gearChange_only _ _ _)
    · exact .refl _ s
  · exact .refl _ s

theorem State.randomiseGear_gear {s : State} {n : Fin 16} {g : Gear} (here : s.lbus.gear.get n = some g) :
    ∃ g', (s.randomiseGear n).lbus.gear.get n = some g' ∧
      if g.init = none then g' = g
      else ∃ r, r < 2 ^ 24 ∧ g'.vars = { g.vars with random := r } ∧ g'.init = g.init := by
  simp only [State.randomiseGear, here]
  cases init : g.init with
  | none => exact ⟨g, here, rfl⟩
  | some a =>
    obtain ⟨g', changed, noted⟩ := State.gearChange_gear (s := s.drew)
      (fun g => { g with vars := { g.vars with random := Config.drbg s.draws % 2 ^ 24 } }) here
    refine ⟨g', changed, ?_⟩
    rw [if_neg (Option.some_ne_none a)]
    exact ⟨_, Nat.mod_lt _ (by decide), by rw [noted], by rw [noted, ← init]⟩

theorem upDown_row (s : State) (b : Fin 2) (dst : BusAddr) (up : Bool) :
    exec (if up then .up b dst else .down b dst) s =
      .next (s.busCommand b (if up then .up b dst else .down b dst) 1 fun s => s.eachGear b dst fun s n => s.gearRamp n up) := by
  cases up <;> rfl

/-- A master's row gives way. -/
theorem busRow_waits {s : State} {i : Instr} {b : Fin 2} (row : busRow i = some b) (waits : s.busWaits b = true) :
    exec i s = .next (s.putOff i) := by
  unfold busRow at row
  split at row
  case h_25 => cases row
  all_goals
    obtain rfl := Option.some.inj row
    exact congrArg Host.Outcome.next (if_pos waits)

/-- A bus that does not answer takes no notice of a master's command. -/
theorem State.busCommand_dead {s : State} {b : Fin 2} (dead : s.busLive b = false) (first : s.busWaits b = false) (i : Instr)
    (frames : Nat) (f : State → State) : s.busCommand b i frames f = s := by
  unfold State.busCommand
  rw [if_neg (by rw [first]; exact Bool.false_ne_true), if_neg (by rw [dead]; exact Bool.false_ne_true)]

section
variable {s : State} {b : Fin 2} {dst : BusAddr} (live : s.busLive b = true) (first : s.busWaits b = false)
include live first

theorem setExtendedFadeTime_ignored : exec (.setExtendedFadeTime b dst) s = .next (s.updBus b fun x =>
    { x with frames := satAdd 65535 x.frames 2, last := none, dt6 := false }) := by
  have row : exec (.setExtendedFadeTime b dst) s = execSetExtendedFadeTime b dst s := rfl
  rw [row, execSetExtendedFadeTime, State.busCommand_live live first]
  unfold State.updBus State.updLbus
  dsimp only
  rw [bankUpd_bankUpd]
  rfl

theorem enableDeviceType6_acts : exec (.enableDeviceType6 b) s = .next (s.updBus b fun x =>
    { x with dt6 := true, frames := satInc 65535 x.frames, last := none }) := by
  have row : exec (.enableDeviceType6 b) s = execEnableDeviceType6 b s := rfl
  rw [row, execEnableDeviceType6, if_neg (by rw [first]; exact Bool.false_ne_true), if_pos live]

/-- What a command that addresses every gear of the bus does to it and leaves of the other. -/
theorem busCommand_wholeBus {i : Instr} {frames : Nat} {f : State → Fin 16 → State} {R : Nat → Gear → Gear → Prop}
    (row : exec i s = .next (s.busCommand b i frames fun s => s.eachGear b .broadcast f)) (only : ∀ u n, GearOnly (· = n) u (f u n))
    (own : ∀ u n g, u.lbus.gear.get n = some g → ∃ g', (f u n).lbus.gear.get n = some g' ∧ R u.now g g') :
    ∃ t, exec i s = .next t ∧ (∀ n, busOf n ≠ b → t.lbus.gear.get n = s.lbus.gear.get n) ∧ t.illum = s.illum ∧
      ∀ n g, s.lbus.gear.get n = some g → busOf n = b → ∃ g', t.lbus.gear.get n = some g' ∧ R s.now g g' := by
  obtain ⟨t, run, ⟨others, -, illum, -⟩, acts⟩ := busCommand_acts live first row only own
  exact ⟨t, run, fun n other => others n fun g heard => other heard.2.1, illum, fun n g here bus => acts n g ⟨here, bus, rfl⟩⟩

end

/-- A time after which something ends, as the rows that end it ask for it. -/
theorem exists_mem_toList_iff {a : Option Nat} {P : Nat → Prop} : (∃ x ∈ a.toList, P x) ↔ ∃ x, a = some x ∧ P x := by
  cases a <;> simp

/-- A change that a gear makes once a time of its own has passed. -/
theorem State.updGear_due {s : State} {n : Fin 16} {g : Gear} {a : Option Nat} {f f' : Gear → Gear} {span : Nat}
    (here : s.lbus.gear.get n = some g) (late : ∀ x, a = some x → x + span ≤ s.now → f' g = f g)
    (early : ∀ x, a = some x → ¬ x + span ≤ s.now → f' g = g) (never : a = none → f' g = g) :
    s.updGear n f' = if ∃ x ∈ a.toList, x + span ≤ s.now then s.updGear n f else s := by
  split
  case isTrue past =>
    obtain ⟨x, at_, past⟩ := exists_mem_toList_iff.1 past
    refine State.updGear_congr fun g' there => ?_
    obtain rfl := Option.some.inj (here.symm.trans there)
    exact late x at_ past
  case isFalse runs =>
    have stays : f' g = g := by
      cases at_ : a with
      | none => exact never at_
      | some x => exact early x at_ fun past => runs (exists_mem_toList_iff.2 ⟨x, at_, past⟩)
    have kept := bankUpd_id s.lbus.gear n (·.map f') (by rw [here]; exact congrArg some stays)
    exact congrArg (fun v => { s with lbus := { s.lbus with gear := v } }) kept

theorem identifyEnd_acts {s : State} {n : Fin 16} {g : Gear} (here : s.lbus.gear.get n = some g) :
    exec (.identifyEnd n) s = .next (if ∃ a ∈ g.identifyAt.toList, a + 10 * secTicks ≤ s.now then
      s.updGear n fun g => { g with identifyAt := none } else s) := by
  have row : exec (.identifyEnd n) s = execIdentifyEnd n s := rfl
  rw [row, execIdentifyEnd]
  refine congrArg Host.Outcome.next (State.updGear_due here (fun x at_ past => ?_) (fun x at_ early => ?_) fun at_ => ?_)
  all_goals simp only [at_]
  · exact if_pos past
  · exact if_neg early

theorem initialiseTimeout_acts {s : State} {n : Fin 16} {g : Gear} (here : s.lbus.gear.get n = some g) :
    exec (.initialiseTimeout n) s = .next (if ∃ a ∈ g.init.toList, a + 900 * secTicks ≤ s.now then
      s.updGear n fun g => { g with init := none, withdrawn := false } else s) := by
  have row : exec (.initialiseTimeout n) s = execInitialiseTimeout n s := rfl
  rw [row, execInitialiseTimeout]
  refine congrArg Host.Outcome.next (State.updGear_due here (fun x at_ past => ?_) (fun x at_ early => ?_) fun at_ => ?_)
  all_goals simp only [at_]
  · exact if_pos past
  · exact if_neg early

/-- The gear that an INITIALISE brings into initialisation (R377). -/
def Gear.initialised (which now : Nat) (g : Gear) : Gear :=
  if which = 0 ∨ (which = 255 ∧ g.vars.short.isNone) ∨ (which % 2 = 1 ∧ which ≠ 255 ∧ g.vars.short = some (which / 2))
  then { g with init := some now, withdrawn := false } else g

theorem Gear.initialised_eq (which : Byte) (now : Nat) (g : Gear) : g.initialised which.toNat now =
    if which = 0 ∨ (which = 255 ∧ g.vars.short = none) ∨
        (which ≠ 255 ∧ which.toNat % 2 = 1 ∧ g.vars.short = some (which.toNat / 2)) then
      { g with init := some now, withdrawn := false } else g := by
  have zero : which.toNat = 0 ↔ which = 0 := ⟨fun h => BitVec.eq_of_toNat_eq h, fun h => by rw [h]; rfl⟩
  have all : which.toNat = 255 ↔ which = 255 := ⟨fun h => BitVec.eq_of_toNat_eq h, fun h => by rw [h]; rfl⟩
  refine if_congr ?_ rfl rfl
  rw [zero, all, Option.isNone_iff_eq_none, and_left_comm (b := ¬ which.toNat = 255), Ne, all]

/-- Settles O40. -/
theorem busCommandsAct : Obligations.BusCommandsAct := by
  unfold Obligations.BusCommandsAct
  refine ⟨fun s i b row waits => busRow_waits row waits, fun s b dst live first => ?addressed, fun s b live first => ?special,
    fun s b dst dead first => ?dead, fun s n g here => ⟨identifyEnd_acts here, initialiseTimeout_acts here⟩⟩
  case addressed =>
    refine ⟨fun level => ?dapc, fun up => ?ramp, fun x => ?fadeTime, fun x => ?fadeRate, setExtendedFadeTime_ignored live first, ?identify⟩
    case dapc =>
      obtain ⟨t, run, others, acts⟩ := busCommand_acts (dst := dst) live first (i := .dapc b dst level) rfl (f := State.dapcGear level.toNat)
        (State.dapcGear_only level.toNat)
        (R := fun now g g' => (if level.toNat = 255 then { g with level := (g.actual now : Int) * lvlOne, target := g.actual now, fade := none }
          else g.aimed now level.toNat (fadeTicks g.vars.fadeTime)).Noted g') fun u n g here => State.dapcGear_gear level.toNat here
      refine ⟨t, run, others, fun n g heard => ?_⟩
      obtain ⟨g', found, noted⟩ := acts n g heard
      refine ⟨g', found, ?_⟩
      split
      case isTrue stop =>
        rw [if_pos (show level.toNat = 255 from congrArg BitVec.toNat stop)] at noted
        rw [noted]
        exact ⟨rfl, rfl, rfl⟩
      case isFalse moves =>
        rw [if_neg fun stop : level.toNat = 255 => moves (BitVec.eq_of_toNat_eq stop)] at noted
        have dark : level.toNat = 0 ↔ level = 0 := ⟨fun h => BitVec.eq_of_toNat_eq h, fun h => by rw [h]; rfl⟩
        have target : (g.aimed s.now level.toNat (fadeTicks g.vars.fadeTime)).target =
            if level = 0 then 0 else max g.vars.minLevel (min g.vars.maxLevel level.toNat) := if_congr dark rfl rfl
        intro lim
        have goal : lim = (g.aimed s.now level.toNat (fadeTicks g.vars.fadeTime)).target := target.symm
        refine ⟨by rw [noted]; exact target, ?_, by rw [noted]; rfl, ?_, fun k past => ?_⟩
        · have beyond : g'.limitError = (g.aimed s.now level.toNat (fadeTicks g.vars.fadeTime)).limitError := by rw [noted]
          have aimed : (g.aimed s.now level.toNat (fadeTicks g.vars.fadeTime)).limitError =
              (decide (level.toNat ≠ 0) && decide ((g.aimed s.now level.toNat (fadeTicks g.vars.fadeTime)).target ≠ level.toNat)) := rfl
          rw [beyond, aimed, target, Bool.decide_and]
          refine congrArg (· && _) (decide_eq_decide.2 (not_congr dark))
        · rw [goal, noted]
          rfl
        · rw [noted.levelAt k, Gear.aimed_levelAt g past, target]
    case ramp =>
      obtain ⟨t, run, others, acts⟩ := busCommand_acts live first (upDown_row s b dst up) (State.gearRamp_only up)
        (R := fun now g g' => if g.levelAt now ≤ 0 then g' = g else (g.ramped now up).Noted g') fun u n g here => State.gearRamp_gear up here
      refine ⟨t, run, others, fun n g heard low _ => ?_⟩
      obtain ⟨g', found, noted⟩ := acts n g heard
      split
      case isTrue dark =>
        rw [if_pos dark] at noted
        exact found.trans (congrArg some noted)
      case isFalse lit =>
        rw [if_neg lit] at noted
        exact ⟨g', found, (noted.levelAt _).trans (g.ramped_levelAt_start _ up), fun k past =>
          (noted.levelAt k).trans (Gear.ramped_levelAt_end up low past)⟩
    case fadeTime =>
      exact busCommand_acts live first (f := fun s n => s.gearChange n fun g => { g with vars := { g.vars with fadeTime := min 15 x.toNat } })
        (R := fun _ g g' => g'.vars = { g.vars with fadeTime := min 15 x.toNat } ∧ g'.target = g.target) rfl
        (fun u n => u.gearChange_only n _) fun u n g here =>
          State.opVars_gear (f := fun g => { g.vars with fadeTime := min 15 x.toNat }) here
    case fadeRate =>
      exact busCommand_acts live first
        (f := fun s n => s.gearChange n fun g => { g with vars := { g.vars with fadeRate := max 1 (min 15 x.toNat) } })
        (R := fun _ g g' => g'.vars = { g.vars with fadeRate := max 1 (min 15 x.toNat) } ∧ g'.target = g.target) rfl
        (fun u n => u.gearChange_only n _) fun u n g here =>
          State.opVars_gear (f := fun g => { g.vars with fadeRate := max 1 (min 15 x.toNat) }) here
    case identify =>
      obtain ⟨t, run, others, acts⟩ := busCommand_acts (dst := dst) live first (i := .identifyDevice b dst) rfl
        (f := fun s n => s.updGear n fun g => { g with identifyAt := some s.now })
        (R := fun now g g' => g' = { g with identifyAt := some now }) (fun u n => u.updGear_only n _)
        fun u n g here => State.updGear_own (f := fun now g => { g with identifyAt := some now }) here
      refine ⟨t, run, others, fun n g heard => ?_⟩
      obtain ⟨g', found, same⟩ := acts n g heard
      exact found.trans (congrArg some same)
  case special =>
    refine ⟨fun which => ?initialise, ?randomise, ?terminate, enableDeviceType6_acts live first⟩
    case initialise =>
      obtain ⟨t, run, others, illum, acts⟩ := busCommand_wholeBus live first (i := .initialise b which) rfl
        (f := fun s n => s.updGear n (Gear.initialised which.toNat s.now))
        (R := fun now g g' => g' = g.initialised which.toNat now) (fun u n => u.updGear_only n _)
        fun u n g here => State.updGear_own (f := Gear.initialised which.toNat) here
      refine ⟨t, run, illum, others, fun n g here bus => ?_⟩
      obtain ⟨g', found, same⟩ := acts n g here bus
      rw [found, same, Gear.initialised_eq]
    case randomise =>
      obtain ⟨t, run, others, illum, acts⟩ := busCommand_wholeBus live first (i := .randomise b) rfl State.randomiseGear_only
        (R := fun _ g g' => if g.init = none then g' = g else ∃ r, r < 2 ^ 24 ∧ g'.vars = { g.vars with random := r } ∧ g'.init = g.init)
        fun u n g here => State.randomiseGear_gear here
      refine ⟨t, run, others, illum, fun n g here bus => ?_⟩
      obtain ⟨g', found, drawn⟩ := acts n g here bus
      split
      case isTrue out =>
        rw [if_pos out] at drawn
        exact found.trans (congrArg some drawn)
      case isFalse inside =>
        rw [if_neg inside] at drawn
        obtain ⟨r, drawn⟩ := drawn
        exact ⟨g', r, found, drawn⟩
    case terminate =>
      obtain ⟨t, run, others, illum, acts⟩ := busCommand_wholeBus live first (i := .terminate b) rfl
        (f := fun s n => s.updGear n fun g => { g with init := none, withdrawn := false })
        (R := fun _ g g' => g' = { g with init := none, withdrawn := false }) (fun u n => u.updGear_only n _)
        fun u n g here => State.updGear_own (f := fun _ g => { g with init := none, withdrawn := false }) here
      refine ⟨t, run, others, illum, fun n g here bus => ?_⟩
      obtain ⟨g', found, same⟩ := acts n g here bus
      exact found.trans (congrArg some same)
  case dead =>
    intro i listed
    simp only [List.mem_cons, List.not_mem_nil, or_false] at listed
    rcases listed with rfl | rfl | rfl | rfl | rfl | rfl | rfl | rfl | rfl | rfl | rfl
    case inr.inr.inr.inr.inr.inr.inr.inr.inr.inr =>
      exact congrArg Host.Outcome.next ((if_neg (by rw [first]; exact Bool.false_ne_true)).trans
        (if_neg (by rw [dead]; exact Bool.false_ne_true)))
    all_goals exact congrArg Host.Outcome.next (State.busCommand_dead dead first _ _ _)

end Sys2Proof.Machine
end

section
/-! PROOFS. A query of part 207 without ENABLE DEVICE TYPE 6 before it is counted as a frame of its bus all the same. -/

namespace Sys2Proof.Machine

/-- The device in FULL with LBUS0 answering its masters. -/
def answering : State := inFull.updBus 0 fun x => { x with power := true, answers := true }

/-- The frames a bus has counted after a row. -/
def framesAfter (i : Instr) (s : State) (b : Fin 2) : Nat :=
  match exec i s with
  | .next t => (t.lbus.bus.get b).frames
  | _ => 0

/-- Refutes O41: in `answering` no ENABLE DEVICE TYPE 6 came before, and QUERY GEAR TYPE is not answered, but its frame is counted,
so that the state does change. -/
theorem not_busAnswersAct : ¬ Obligations.BusAnswersAct := by
  rintro ⟨answers, -⟩
  obtain ⟨-, -, -, -, extended⟩ := answers answering 0 .broadcast (by decide +kernel) (by decide +kernel)
  rw [if_neg (by decide +kernel)] at extended
  have unchanged := extended (.queryGearType 0 .broadcast) (by simp)
  have frames : framesAfter (.queryGearType 0 .broadcast) answering 0 = 0 := by
    rw [framesAfter, unchanged]
    decide +kernel
  have counted : framesAfter (.queryGearType 0 .broadcast) answering 0 = 1 := by decide +kernel
  exact absurd (frames.symm.trans counted) (by decide)

end Sys2Proof.Machine
end

section
/-! PROOFS. LIGHT_GROUP_CONFIG, LIGHT_SET, STROBE_ARM and MATRIX_FRAME are queued or refused (R348, R354, R355, R363). -/

namespace Sys2Proof.Machine

/-! ### Functions of the illumination alone -/

theorem forAll_updIllum {n : Nat} (f : Fin n → Illum → Illum) (s : State) :
    forAll s (fun s k => s.updIllum (f k)) = s.updIllum fun i => (List.finRange n).foldl (fun i k => f k i) i := by
  have walk : ∀ (l : List (Fin n)) (u : State), l.foldl (fun s k => s.updIllum (f k)) u = u.updIllum fun i => l.foldl (fun i k => f k i) i := by
    intro l
    induction l with
    | nil => exact fun u => rfl
    | cons k l ih => exact fun u => (ih _).trans rfl
  exact walk _ s

/-- The illumination with the sinks of a group off. -/
def Illum.dark (g : Fin 8) (i : Illum) : Illum :=
  (List.finRange 48).foldl
    (fun i n =>
      { i with sinks := bankUpd i.sinks n fun x => if x.group = some g then { x with on := false, run := false } else x }) i

theorem State.dark_eq (s : State) (g : Fin 8) : s.dark g = s.updIllum (Illum.dark g) := forAll_updIllum _ s

theorem State.accepted_group (s : State) (h : Hdr) (g : Fin 8) : (s.accepted h).group g = s.group g := by
  rw [State.group, s.accepted_illum]
  rfl

/-! ### What a light command answers -/

section
variable {s : State} {h : Hdr} {c : Cmd} {ses : Session} (ok : Accepted s h c ses) (op : c.opcode ≠ 0x02) {i : Instr}
  (row : exec i s = .next (s.serve h c))
include ok op row

/-- A command that is refused by what the illumination says. -/
theorem light_refused {e : Nat} (plain : Uncounted e)
    (effect : perform (s.ticket h c ses) c (s.accepted h) = (s.accepted h).reply (s.ticket h c ses) e []) :
    Completes i s h c.opcode e [] s := Accepted.completes_reply ok row op plain effect

/-- A command that changes the illumination alone. -/
theorem light_taken (f : Illum → Illum)
    (effect : perform (s.ticket h c ses) c (s.accepted h) = ((s.accepted h).updIllum f).reply (s.ticket h c ses) stOk []) :
    Completes i s h c.opcode stOk [] (s.updIllum f) :=
  Accepted.completes_effect ok row op uncounted_ok (·.updIllum f) effect rfl rfl fun _ => rfl

end

/-! ### LIGHT_GROUP_CONFIG -/

/-- The configuration that LIGHT_GROUP_CONFIG names. -/
def lightCfgOf (p : LightCfgP) : LightCfg :=
  { colour := p.colour.toNat, ctrlSrc := p.ctrlSrc.toNat, failsafe := p.failsafe.toNat,
    lts := if x : p.lts.toNat < 4 then some ⟨p.lts.toNat, x⟩ else none, mask := p.mask.toNat }

/-- A sink of a mask belongs, or will at the next valley, to another group. -/
def State.sinkTaken (s : State) (g : Fin 8) (mask : Nat) : Bool :=
  (List.finRange 8).any fun k =>
    k != g && (let o := s.group k
               (Nat.land o.cfg.mask mask != 0) ||
                 (match o.cfgNext with
                  | some x => Nat.land x.mask mask != 0
                  | none => false))

theorem State.sinkTaken_iff (s : State) (g : Fin 8) (mask : Nat) : s.sinkTaken g mask = true ↔
    ∃ k, k ≠ g ∧ ∃ m, (m = (s.group k).cfg.mask ∨ ∃ x, (s.group k).cfgNext = some x ∧ m = x.mask) ∧ Nat.land m mask ≠ 0 := by
  simp only [State.sinkTaken, List.any_eq_true, List.mem_finRange, true_and, Bool.and_eq_true, bne_iff_ne, Bool.or_eq_true]
  refine exists_congr fun k => and_congr_right fun _ => ?_
  cases (s.group k).cfgNext with
  | none => simp
  | some x => simp [or_and_right, exists_or]

theorem doLightGroupConfig_eq (t : Ticket) (g : Fin 8) (p : LightCfgP) (s : State) : doLightGroupConfig t g p s =
    if p.colour.toNat ≤ 5 ∧ p.ctrlSrc.toNat ≤ 2 ∧ p.failsafe.toNat ≤ 2 ∧ (p.lts.toNat < 4 ∨ p.lts = 255) then
      if s.sinkTaken g p.mask.toNat then s.reply t eBusy []
      else (s.updGroup g fun x => { x with cfgNext := some (lightCfgOf p) }).reply t stOk []
    else s.reply t eParam [] := by
  have all : p.lts.toNat = 255 ↔ p.lts = 255 := ⟨fun h => BitVec.eq_of_toNat_eq h, fun h => by rw [h]; rfl⟩
  have sensor : (if x : p.lts.toNat < 4 then some (⟨p.lts.toNat, x⟩ : Fin 4) else none).isNone = true ↔ ¬ p.lts.toNat < 4 := by
    split <;> simp_all
  have within : (p.colour.toNat > 5 ∨ p.ctrlSrc.toNat > 2 ∨ p.failsafe.toNat > 2 ∨
      ((if x : p.lts.toNat < 4 then some (⟨p.lts.toNat, x⟩ : Fin 4) else none).isNone = true ∧ p.lts.toNat ≠ 255)) ↔
      ¬ (p.colour.toNat ≤ 5 ∧ p.ctrlSrc.toNat ≤ 2 ∧ p.failsafe.toNat ≤ 2 ∧ (p.lts.toNat < 4 ∨ p.lts = 255)) := by
    rw [sensor, ← all]
    omega
  refine (if_congr within rfl rfl).trans (ite_not _ _ _)

/-! ### LIGHT_SET -/

/-- A LIGHT_SET of group `g` in range (R354). -/
def State.lightSetInRange (s : State) (g : Fin 8) (p : LightSetP) : Prop :=
  p.entries ≠ [] ∧ p.entries.length ≤ 48 ∧ (p.entries.map (·.sink)).Nodup ∧ p.time.frac = 0 ∧
    p.time.ns.toNat < 1000000000 ∧ time12Ticks p.time ≤ s.devTime + 1000 * 1000000000 * 65536 ∧
    ∀ e ∈ p.entries, (∃ n : Fin 48, n.val = e.sink.toNat ∧ (s.illum.sinks.get n).group = some g) ∧ e.code.toNat ≤ 4095 ∧
      (e.duty = 0 ∨ nMin s.illum.dimC ≤ e.duty.toNat)

/-- An entry of a LIGHT_SET out of range. -/
def State.badEntry (s : State) (g : Fin 8) (e : LightEntryP) : Bool :=
  !(if h : e.sink.toNat < 48 then (s.illum.sinks.get ⟨e.sink.toNat, h⟩).group == some g else false)
    || decide (e.code.toNat > 4095) || (e.duty != 0 && decide (e.duty.toNat < nMin s.illum.dimC))

theorem State.badEntry_iff (s : State) (g : Fin 8) (e : LightEntryP) : s.badEntry g e = true ↔
    ¬ ((∃ n : Fin 48, n.val = e.sink.toNat ∧ (s.illum.sinks.get n).group = some g) ∧ e.code.toNat ≤ 4095 ∧
      (e.duty = 0 ∨ nMin s.illum.dimC ≤ e.duty.toNat)) := by
  have sink : (if h : e.sink.toNat < 48 then (s.illum.sinks.get ⟨e.sink.toNat, h⟩).group == some g else false) = true ↔
      ∃ n : Fin 48, n.val = e.sink.toNat ∧ (s.illum.sinks.get n).group = some g := by
    split
    case isTrue h =>
      rw [beq_iff_eq]
      exact ⟨fun same => ⟨⟨_, h⟩, rfl, same⟩, fun ⟨n, val, same⟩ => by
        obtain rfl : n = ⟨e.sink.toNat, h⟩ := Fin.ext val
        exact same⟩
    case isFalse h => exact ⟨fun no => absurd no Bool.false_ne_true, fun ⟨n, val, _⟩ => absurd (val ▸ n.isLt) h⟩
  rw [← sink]
  simp only [State.badEntry, Bool.or_eq_true, Bool.not_eq_true', decide_eq_true_eq, Bool.and_eq_true, bne_iff_ne, not_and_or, not_or,
    Bool.not_eq_true, Nat.not_le, or_assoc, ne_eq]

theorem dedup_length_ne_iff {α : Type} [DecidableEq α] (l : List α) : l.dedup.length ≠ l.length ↔ ¬ l.Nodup := by
  rw [← List.dedup_eq_self]
  exact not_congr ⟨fun h => (List.dedup_sublist l).eq_of_length h, fun h => by rw [h]⟩

theorem State.lightSet_outOfRange {s : State} {g : Fin 8} {p : LightSetP} :
    (p.entries.length = 0 ∨ p.entries.length > 48 ∨ (p.entries.map (·.sink)).dedup.length ≠ p.entries.length ∨
      p.entries.any (s.badEntry g) = true ∨ p.time.frac ≠ 0 ∨ p.time.ns.toNat ≥ 1000000000 ∨
      time12Ticks p.time > s.devTime + 1000 * 1000000000 * 65536) ↔ ¬ s.lightSetInRange g p := by
  have twice : (p.entries.map (·.sink)).dedup.length ≠ p.entries.length ↔ ¬ (p.entries.map (·.sink)).Nodup := by
    rw [← dedup_length_ne_iff, List.length_map]
  have bad : p.entries.any (s.badEntry g) = true ↔ ¬ ∀ e ∈ p.entries,
      (∃ n : Fin 48, n.val = e.sink.toNat ∧ (s.illum.sinks.get n).group = some g) ∧ e.code.toNat ≤ 4095 ∧
        (e.duty = 0 ∨ nMin s.illum.dimC ≤ e.duty.toNat) := by
    rw [List.any_eq_true, not_forall]
    simp only [State.badEntry_iff, Classical.not_imp]
  rw [twice, bad, State.lightSetInRange, List.length_eq_zero_iff]
  generalize (∀ e ∈ p.entries, _) = entries
  simp only [not_and_or, ne_eq, not_not, not_le, not_lt, gt_iff_lt, ge_iff_le]
  tauto

theorem doLightSet_eq (t : Ticket) (g : Fin 8) (p : LightSetP) (s : State) [Decidable (s.lightSetInRange g p)] :
    doLightSet t g p s =
      if (s.group g).cfg.ctrlSrc = 1 then s.reply t eBusControl []
      else if s.lightSetInRange g p then
        if (s.group g).queue.length < 4 then
          (s.updGroup g fun x => { x with queue := x.queue ++
            [⟨time12Ticks p.time, p.entries.map fun e => (Fin.ofNat 48 e.sink.toNat, e.code.toNat, e.duty.toNat)⟩] }).reply t stOk []
        else s.reply t eBusy []
      else s.reply t eParam [] := by
  refine if_congr Iff.rfl rfl ?_
  refine (if_congr State.lightSet_outOfRange rfl ?_).trans (ite_not _ _ _)
  refine (if_congr (Nat.not_lt).symm rfl rfl).trans (ite_not _ _ _)

/-! ### STROBE_ARM -/

theorem doStrobeArm_strobe {t : Ticket} {g : Fin 8} {p : StrobeP} {s : State} (strobes : (s.group g).cfg.ctrlSrc = 2) {k : Fin 4}
    (pulse : p.tp.toNat = k.val) : doStrobeArm t g p s =
      if p.op.toNat ≤ 1 ∧ p.offset.toNat % 10 = 0 ∧ p.offset.toNat ≤ 999999990 ∧ p.length.toNat % 10 = 0 ∧
          1000 ≤ p.length.toNat ∧ p.length.toNat ≤ 100000000 then
        (if p.op = 1 then
            s.updGroup g fun x => { x with
              opens := [], strobe := some ⟨k, p.offset.toNat, p.length.toNat, if p.count = 0 then none else some p.count.toNat⟩ }
          else (s.updGroup g fun x => { x with strobe := none, opens := [], closeAt := none }).dark g).reply t stOk []
      else s.reply t eParam [] := by
  have there : p.tp.toNat < 4 := by omega
  have same : (⟨p.tp.toNat, there⟩ : Fin 4) = k := Fin.ext pulse
  unfold doStrobeArm
  dsimp only
  rw [strobes, if_neg (by decide), if_neg (by decide), dif_pos there, same]
  have range : (p.op.toNat > 1 ∨ p.offset.toNat % 10 ≠ 0 ∨ p.offset.toNat > 999999990 ∨ p.length.toNat % 10 ≠ 0 ∨
      p.length.toNat < 1000 ∨ p.length.toNat > 100000000) ↔ ¬ (p.op.toNat ≤ 1 ∧ p.offset.toNat % 10 = 0 ∧ p.offset.toNat ≤ 999999990 ∧
        p.length.toNat % 10 = 0 ∧ 1000 ≤ p.length.toNat ∧ p.length.toNat ≤ 100000000) := by omega
  refine (if_congr range rfl ?_).trans (ite_not _ _ _)
  split <;> rfl

/-- Settles O37. -/
theorem lightCommandsAct : Obligations.LightCommandsAct := by
  unfold Obligations.LightCommandsAct
  refine ⟨fun s h ses p ok => ?config, fun s h ses p ok => ?set, fun s h ses p ok => ?strobe, fun s h ses p ok => ?matrix⟩
  case config =>
    intro g c taken
    have effect : perform (s.ticket h (.lightGroupConfig p) ses) (.lightGroupConfig p) (s.accepted h) = _ :=
      doLightGroupConfig_eq (s.ticket h (.lightGroupConfig p) ses) g p (s.accepted h)
    have same : (s.accepted h).sinkTaken g p.mask.toNat = s.sinkTaken g p.mask.toNat := by
      unfold State.sinkTaken
      simp only [s.accepted_group h]
    rw [same] at effect
    split
    case isTrue range =>
      rw [if_pos range] at effect
      refine ⟨fun free => light_taken ok (by simp [Cmd.opcode]) (i := .lightGroupConfig h p) rfl _ (effect.trans (if_neg ?_)),
        fun busy => light_refused ok (by simp [Cmd.opcode]) (i := .lightGroupConfig h p) rfl uncounted_busy (effect.trans (if_pos ?_))⟩
      · exact fun found => free ((s.sinkTaken_iff g _).1 found)
      · exact (s.sinkTaken_iff g _).2 busy
    case isFalse range =>
      exact light_refused ok (by simp [Cmd.opcode]) (i := .lightGroupConfig h p) rfl uncounted_param (effect.trans (if_neg range))
  case set =>
    classical
    intro g ranges
    have effect : perform (s.ticket h (.lightSet p) ses) (.lightSet p) (s.accepted h) = _ :=
      doLightSet_eq (s.ticket h (.lightSet p) ses) g p (s.accepted h)
    have inRange : (s.accepted h).lightSetInRange g p ↔ ranges := by
      rw [State.lightSetInRange, State.devTime, s.accepted_tb, s.accepted_illum]
      exact Iff.rfl
    rw [s.accepted_group h g, if_congr inRange rfl rfl] at effect
    refine ⟨fun bus => ?_, fun own range room => ?_, fun own range full => ?_, fun own outside => ?_⟩
    · exact light_refused ok (by simp [Cmd.opcode]) (i := .lightSet h p) rfl (by decide) (effect.trans (if_pos bus))
    · rw [if_neg own, if_pos range, if_pos room] at effect
      exact light_taken ok (by simp [Cmd.opcode]) (i := .lightSet h p) rfl _ effect
    · rw [if_neg own, if_pos range, if_neg (Nat.not_lt.2 full)] at effect
      exact light_refused ok (by simp [Cmd.opcode]) (i := .lightSet h p) rfl uncounted_busy effect
    · rw [if_neg own, if_neg outside] at effect
      exact light_refused ok (by simp [Cmd.opcode]) (i := .lightSet h p) rfl uncounted_param effect
  case strobe =>
    intro g
    have group (n : Nat) (src : (s.group g).cfg.ctrlSrc = n) : ((s.accepted h).group g).cfg.ctrlSrc = n := by
      rw [s.accepted_group h g, src]
    refine ⟨fun bus => ?_, fun host => ?_, fun strobes k pulse => ?_⟩
    · exact light_refused ok (by simp [Cmd.opcode]) (i := .strobeArm h p) rfl (by decide) (if_pos (group 1 bus))
    · refine light_refused ok (by simp [Cmd.opcode]) (i := .strobeArm h p) rfl uncounted_state 
        ((if_neg fun bus => ?_).trans (if_pos (group 0 host)))
      exact Nat.zero_ne_one ((group 0 host).symm.trans bus)
    · have effect : perform (s.ticket h (.strobeArm p) ses) (.strobeArm p) (s.accepted h) = _ :=
        doStrobeArm_strobe (t := s.ticket h (.strobeArm p) ses) (group 2 strobes) pulse
      split
      case isTrue range =>
        rw [if_pos range] at effect
        split
        case isTrue arms =>
          rw [if_pos arms] at effect
          exact light_taken ok (by simp [Cmd.opcode]) (i := .strobeArm h p) rfl _ effect
        case isFalse disarms =>
          rw [if_neg disarms, State.dark_eq] at effect
          rw [State.dark_eq]
          exact light_taken ok (by simp [Cmd.opcode]) (i := .strobeArm h p) rfl
            (fun i => Illum.dark g { i with groups := bankUpd i.groups g fun x => { x with strobe := none, opens := [], closeAt := none } })
            effect
      case isFalse range =>
        exact light_refused ok (by simp [Cmd.opcode]) (i := .strobeArm h p) rfl uncounted_param (effect.trans (if_neg range))
  case matrix =>
    split
    case isTrue range =>
      exact light_taken ok (by simp [Cmd.opcode]) (i := .matrixFrame h p) rfl
        (fun i => { i with matrix := { i.matrix with pending := some ⟨p.mask.toNat, p.tPre.toNat, p.codes⟩ } })
        (if_neg (by omega))
    case isFalse range =>
      exact light_refused ok (by simp [Cmd.opcode]) (i := .matrixFrame h p) rfl uncounted_param (if_pos (by omega))

end Sys2Proof.Machine
end

section
/-! PROOFS. The valley of TIM08 (R348 to R361): what the end of a scan keeps, the set point of the string supply, the
configurations that come in force and the values that the sinks apply. -/

namespace Sys2Proof.Machine

/-! ### The end of a scan -/

/-- The stage stands, or begins to discharge. -/
def VStage.Stands (x y : VStage) : Prop := y.vstr = x.vstr ∧ y.set = x.set ∧ (y.st = x.st ∨ y.st = .discharging)

theorem VStage.Stands.refl (x : VStage) : x.Stands x := ⟨rfl, rfl, .inl rfl⟩

theorem VStage.Stands.trans {x y z : VStage} (h : x.Stands y) (k : y.Stands z) : x.Stands z := by
  obtain ⟨vstr, set, st⟩ := h
  obtain ⟨vstr', set', st'⟩ := k
  refine ⟨vstr'.trans vstr, set'.trans set, ?_⟩
  rcases st' with st' | st'
  · rw [st']
    exact st
  · exact .inr st'

/-- The judgement of a scan keeps the illumination's settings, the groups' configurations, and the stage but for a discharge. -/
def Judged (s t : State) : Prop :=
  t.now = s.now ∧ t.illum = { s.illum with
    sinks := t.illum.sinks, groups := t.illum.groups, stage := t.illum.stage, cntOpen := t.illum.cntOpen,
    cntShort := t.illum.cntShort, cntHarness := t.illum.cntHarness } ∧
  (∀ g, (t.group g).cfg = (s.group g).cfg ∧ (t.group g).cfgNext = (s.group g).cfgNext) ∧
  s.illum.stage.Stands t.illum.stage

theorem Judged.refl (s : State) : Judged s s := ⟨rfl, rfl, fun _ => ⟨rfl, rfl⟩, .refl _⟩

theorem Judged.trans {s t u : State} (h : Judged s t) (k : Judged t u) : Judged s u := by
  obtain ⟨now, illum, groups, stage⟩ := h
  obtain ⟨now', illum', groups', stage'⟩ := k
  refine ⟨now'.trans now, by rw [illum', illum], fun g => ?_, stage.trans stage'⟩
  exact ⟨(groups' g).1.trans (groups g).1, (groups' g).2.trans (groups g).2⟩

theorem Judged.foldl {α : Type} {f : State → α → State} (step : ∀ s a, Judged s (f s a)) (l : List α) (s : State) :
    Judged s (l.foldl f s) :=
  foldl_keeps (fun t a judged => judged.trans (step t a)) l s (.refl s)

theorem State.updSink_judged (s : State) (n : Fin 48) (f : Sink → Sink) : Judged s (s.updSink n f) :=
  ⟨rfl, rfl, fun _ => ⟨rfl, rfl⟩, .refl _⟩

theorem State.dark_judged (s : State) (g : Fin 8) : Judged s (s.dark g) := Judged.foldl (fun u n => u.updSink_judged n _) _ s

theorem State.updGroup_judged (s : State) (g : Fin 8) (f : Group → Group) (keeps : ∀ x, (f x).cfg = x.cfg ∧ (f x).cfgNext = x.cfgNext) :
    Judged s (s.updGroup g f) := by
  refine ⟨rfl, rfl, fun k => ?_, .refl _⟩
  have entry : (s.updGroup g f).group k = if g = k then f (s.group k) else s.group k := bankUpd_get _ _ _ _
  rw [entry]
  split
  · exact keeps _
  · exact ⟨rfl, rfl⟩

theorem Judged.of_owners {s t : State} {o} (same : t = { s with owners := o }) : Judged s t := by
  subst same
  exact .refl s

theorem State.countLamp_judged (s : State) (kind : Nat) : Judged s (s.updIllum fun i =>
    if kind = 1 then { i with cntOpen := satInc 65535 i.cntOpen } else { i with cntShort := satInc 65535 i.cntShort }) := by
  by_cases k : kind = 1
  · simp only [if_pos k]
    exact ⟨rfl, rfl, fun _ => ⟨rfl, rfl⟩, .refl _⟩
  · simp only [if_neg k]
    exact ⟨rfl, rfl, fun _ => ⟨rfl, rfl⟩, .refl _⟩

theorem State.countHarness_judged (s : State) : Judged s (s.updIllum fun i => { i with cntHarness := satInc 65535 i.cntHarness }) :=
  ⟨rfl, rfl, fun _ => ⟨rfl, rfl⟩, .refl _⟩

theorem State.discharge_judged (s : State) : Judged s (s.updStage fun x =>
    { x with st := .discharging, dis := true, ovp := false, resumeAt := none }) :=
  ⟨rfl, rfl, fun _ => ⟨rfl, rfl⟩, rfl, rfl, .inr rfl⟩

theorem State.lampFailure_judged (s : State) (n : Fin 48) (kind : Nat) : Judged s (s.lampFailure n kind) := by
  unfold State.lampFailure
  extract_lets x
  split
  · exact .refl s
  · extract_lets safe s1 s2 s3
    have latched : Judged s s1 := s.updGroup_judged _ _ fun _ => ⟨rfl, rfl⟩
    have off : Judged s1 s2 := by
      show Judged s1 (if safe then _ else _)
      split
      · exact s1.dark_judged _
      · exact s1.updSink_judged _ _
    have counted : Judged s2 s3 := s2.countLamp_judged kind
    exact ((latched.trans off).trans counted).trans (.of_owners (State.raiseAll_onlyOwners _ _ _ _ _))

theorem State.harnessOpen_judged (s : State) (h : Nat) (opens : List (Fin 48)) : Judged s (s.harnessOpen h opens) := by
  unfold State.harnessOpen
  extract_lets groups s1 s2 s3
  have off : Judged s s1 := by
    refine Judged.foldl (fun u g => ?_) groups s
    exact (u.updGroup_judged g (fun x => { x with latched := true, cause := 3 }) fun _ => ⟨rfl, rfl⟩).trans (State.dark_judged _ g)
  exact ((off.trans s1.countHarness_judged).trans s2.discharge_judged).trans (.of_owners (State.raiseAll_onlyOwners _ _ _ _ _))

theorem State.judge_judged (s : State) : Judged s s.judge := by
  unfold State.judge
  extract_lets act rising openH opens shorts outside s1 s2
  have opened : Judged s s1 := .foldl (fun u n => u.lampFailure_judged n 1) _ s
  have shorted : Judged s1 s2 := .foldl (fun u n => u.lampFailure_judged n 2) _ s1
  exact (opened.trans shorted).trans (.foldl (fun u h => u.harnessOpen_judged h _) _ s2)

theorem State.takeScan_judged (s : State) : Judged s s.takeScan := Judged.foldl (fun u n => u.updSink_judged n _) _ s
theorem State.shortScan_judged (s : State) : Judged s s.shortScan := Judged.foldl (fun u n => u.updSink_judged n _) _ s
theorem State.closeScan_judged (s : State) : Judged s s.closeScan := Judged.foldl (fun u n => u.updSink_judged n _) _ s

/-- The set point of R357, toward a target from the one before. -/
def Illum.setPoint (i : Illum) (old : Nat) (target : Int) : Nat :=
  (min ((i.vmaxDv * 100 : Nat) : Int) (max ((i.vminDv * 100 : Nat) : Int) (min ((old : Int) + 500) (max ((old : Int) - 100) target)))).toNat

theorem Illum.setPoint_within (i : Illum) (old : Nat) (target : Int) :
    i.setPoint old target ≤ i.vmaxDv * 100 ∧ min i.vminDv i.vmaxDv * 100 ≤ i.setPoint old target ∧
      i.setPoint old target ≤ max (old + 500) (i.vminDv * 100) ∧ min (old - 100) (i.vmaxDv * 100) ≤ i.setPoint old target := by
  unfold Illum.setPoint
  omega

/-- A scan that ends leaves a stage that is off, or puts it to rest, or gives it its next set point. -/
theorem State.stageScan_cases (s : State) :
    (s.stageScan = s ∧ (s.illum.stage.st = .discharging ∨ s.illum.stage.st = .fault)) ∨
      s.stageScan = s.updStage (fun x => { x with st := .idle }) ∨
      ∃ target st, s.stageScan = s.updStage fun x =>
        { x with set := s.illum.setPoint (if s.illum.stage.st = .idle then s.illum.stage.vstr else s.illum.stage.set) target, st := st } := by
  unfold State.stageScan
  extract_lets st act old
  split
  case h_1 off => exact .inl ⟨rfl, .inl off⟩
  case h_2 off => exact .inl ⟨rfl, .inr off⟩
  case h_3 =>
    cases act with
    | nil => exact .inr (.inl rfl)
    | cons a as => exact .inr (.inr ⟨_, _, rfl⟩)

/-- The set point after a scan (R357): within the bounds, and at most 0.5 V above and 0.1 V below the one before. -/
def SetPointMoves (i j : Illum) : Prop :=
  j.stage.st = .rising ∨ j.stage.st = .regulating →
    j.stage.set ≤ i.vmaxDv * 100 ∧ min i.vminDv i.vmaxDv * 100 ≤ j.stage.set ∧
    (i.stage.st = .rising ∨ i.stage.st = .regulating →
      j.stage.set ≤ max (i.stage.set + 500) (i.vminDv * 100) ∧ min (i.stage.set - 100) (i.vmaxDv * 100) ≤ j.stage.set)

theorem State.stageScan_stage (s : State) : s.stageScan.now = s.now ∧ s.stageScan.illum = { s.illum with stage := s.stageScan.illum.stage } ∧
    s.stageScan.illum.stage.vstr = s.illum.stage.vstr ∧ SetPointMoves s.illum s.stageScan.illum := by
  rcases s.stageScan_cases with ⟨same, off⟩ | idle | ⟨target, st, set⟩
  · rw [same]
    refine ⟨rfl, rfl, rfl, fun on => ?_⟩
    rcases off with off | off <;> rw [off] at on <;> rcases on with on | on <;> cases on
  · rw [idle]
    refine ⟨rfl, rfl, rfl, fun on => ?_⟩
    rcases on with on | on <;> cases on
  · rw [set]
    obtain ⟨top, bottom, rise, fall⟩ := s.illum.setPoint_within
      (if s.illum.stage.st = .idle then s.illum.stage.vstr else s.illum.stage.set) target
    refine ⟨rfl, rfl, rfl, fun _ => ⟨top, bottom, fun before => ?_⟩⟩
    have lit : s.illum.stage.st ≠ .idle := by
      intro idle
      rw [idle] at before
      rcases before with before | before <;> cases before
    rw [if_neg lit] at rise fall
    simp only [State.updStage, State.updIllum, if_neg lit]
    exact ⟨rise, fall⟩

/-! ### One entry at a time -/

/-- What a fold over all the places makes of each, where a place is changed at its own step alone. -/
theorem forAll_entry {α β : Type} {n : Nat} {f : α → Fin n → α} (get : α → Fin n → β) (other : ∀ u k g, g ≠ k → get (f u k) g = get u g)
    {P : β → β → Prop} (own : ∀ u k, P (get u k) (get (f u k) k)) (s : α) (g : Fin n) : P (get s g) (get (forAll s f) g) := by
  have kept : ∀ (l : List (Fin n)) (u : α), g ∉ l → get (l.foldl f u) g = get u g := by
    intro l
    induction l with
    | nil => exact fun u _ => rfl
    | cons k l ih =>
      intro u out
      rw [List.mem_cons, not_or] at out
      obtain ⟨here, rest⟩ := out
      exact (ih _ rest).trans (other u k g here)
  have walk : ∀ (l : List (Fin n)) (u : α), l.Nodup → g ∈ l → P (get u g) (get (l.foldl f u) g) := by
    intro l
    induction l with
    | nil => exact fun u _ mem => absurd mem List.not_mem_nil
    | cons k l ih =>
      intro u once mem
      obtain ⟨out, rest⟩ := List.nodup_cons.1 once
      rw [List.foldl_cons]
      rcases List.mem_cons.1 mem with rfl | later
      · rw [kept l _ out]
        exact own u g
      · rw [← other u k g fun same => out (same ▸ later)]
        exact ih _ rest later
  exact walk _ s (List.nodup_finRange n) (List.mem_finRange g)

/-! ### The gear at a valley leave the illumination -/

/-- The illumination, the tick and the axes are as before. -/
def SameLight (s t : State) : Prop := t.illum = s.illum ∧ t.now = s.now

theorem SameLight.trans {s t u : State} (h : SameLight s t) (k : SameLight t u) : SameLight s u := ⟨k.1.trans h.1, k.2.trans h.2⟩

theorem GearOnly.sameLight {p : Fin 16 → Prop} {s t : State} (only : GearOnly p s t) : SameLight s t := ⟨only.2.1, only.1⟩

theorem SameLight.forAll {n : Nat} {f : State → Fin n → State} (step : ∀ s i, SameLight s (f s i)) (s : State) : SameLight s (forAll s f) :=
  forAll_keeps (P := SameLight s) (fun t i same => same.trans (step t i)) s ⟨rfl, rfl⟩

theorem SameLight.of_owners {s t : State} {o} (same : t = { s with owners := o }) : SameLight s t := by
  subst same
  exact ⟨rfl, rfl⟩

theorem State.gearEvent_sameLight (s : State) (n : Fin 16) (kind level : Nat) : SameLight s (s.gearEvent n kind level) := by
  obtain ⟨o, event⟩ := s.gearEvent_onlyOwners n kind level
  exact .of_owners event

theorem State.gearFlush_sameLight (s : State) : SameLight s s.gearFlush :=
  .forAll (fun u n => by
    split
    · split
      · exact ⟨rfl, rfl⟩
      · exact ⟨rfl, rfl⟩
    · exact ⟨rfl, rfl⟩) s

theorem State.gearValley_sameLight (s : State) : SameLight s s.gearValley :=
  .forAll (fun u n => by
    split
    · exact ⟨rfl, rfl⟩
    · extract_lets s1 s2 s3
      rename_i g _
      have curve : SameLight u s1 := by
        show SameLight u (match g.curveNext with | some c => _ | none => u)
        split
        · exact (u.gearChange_only n _).sameLight
        · exact ⟨rfl, rfl⟩
      have settled : SameLight u s2 := curve.trans ⟨rfl, rfl⟩
      split
      · have lost : SameLight u s3 := settled.trans ⟨rfl, rfl⟩
        split
        · exact lost.trans (s3.gearEvent_sameLight _ _ _)
        · exact lost
      · exact settled) s

/-! ### The values that sinks apply -/

/-- A sink with the values it applies as one of a group (R349, R351, R384). -/
def State.applied (s : State) (g : Fin 8) (x : Sink) : Sink :=
  if x.group = some g then { x with apCode := s.applyCode (s.group g) x, apDuty := s.applyDuty g (s.group g) x } else x

theorem State.applied_group (s : State) (g : Fin 8) (x : Sink) : (s.applied g x).group = x.group := by
  unfold State.applied
  split <;> rfl

theorem State.applyGroup_eq (s : State) (g : Fin 8) : ∃ v, s.applyGroup g = s.updIllum (fun i => { i with sinks := v }) ∧
    ∀ n, v.get n = s.applied g (s.illum.sinks.get n) := by
  have walk : ∀ (l : List (Fin 48)) (v : Vector Sink 48),
      l.foldl (fun (u : State) n =>
        if (u.illum.sinks.get n).group = some g then
          u.updSink n fun x => { x with apCode := u.applyCode (u.group g) x, apDuty := u.applyDuty g (u.group g) x }
        else u) (s.updIllum fun i => { i with sinks := v }) =
      s.updIllum fun i => { i with sinks := l.foldl (fun v n => bankUpd v n (s.applied g)) v } := by
    intro l
    induction l with
    | nil => exact fun v => rfl
    | cons n l ih =>
      intro v
      rw [List.foldl_cons, List.foldl_cons, ← ih]
      refine congrArg (l.foldl _) ?_
      split
      case isTrue member =>
        have entry : s.applied g (v.get n) = _ := if_pos member
        unfold bankUpd
        rw [entry]
        rfl
      case isFalse other =>
        have same : s.applied g (v.get n) = v.get n := if_neg other
        rw [bankUpd_id v n _ same]
  have start : (s.updIllum fun i => { i with sinks := s.illum.sinks }) = s := rfl
  have all := walk (List.finRange 48) s.illum.sinks
  rw [start] at all
  refine ⟨_, all, fun n => ?_⟩
  have each := foldl_bankUpd (fun _ => s.applied g) (List.nodup_finRange 48) s.illum.sinks n
  rwa [if_pos (List.mem_finRange n)] at each

theorem State.applyGroup_sink (s : State) (g : Fin 8) (n : Fin 48) :
    (s.applyGroup g).illum.sinks.get n = s.applied g (s.illum.sinks.get n) := by
  obtain ⟨v, all, each⟩ := s.applyGroup_eq g
  rw [all]
  exact each n

theorem State.applyCode_congr {s t : State} (comp : t.illum.comp = s.illum.comp) (lts : t.illum.lts = s.illum.lts) (g : Group) (x : Sink) :
    t.applyCode g x = s.applyCode g x := by
  unfold State.applyCode
  rw [comp, lts]

/-- The fade time of the leading gear of a group. -/
def Lbus.leadFade (l : Lbus) (g : Fin 8) : Option Nat := (l.leading g).map fun e => e.2.vars.fadeTime

theorem State.applyDuty_congr {s t : State} (now : t.now = s.now) (dim : t.illum.dimUse = s.illum.dimUse) {k : Fin 8}
    (lead : t.lbus.leadFade k = s.lbus.leadFade k) (g : Group) (x : Sink) : t.applyDuty k g x = s.applyDuty k g x := by
  unfold Lbus.leadFade at lead
  unfold State.applyDuty
  rw [now, dim]
  cases mine : t.lbus.leading k with
  | none =>
    cases yours : s.lbus.leading k with
    | none => rfl
    | some e =>
      rw [mine, yours] at lead
      cases lead
  | some e =>
    cases yours : s.lbus.leading k with
    | none =>
      rw [mine, yours] at lead
      cases lead
    | some e' =>
      rw [mine, yours] at lead
      simp only [Option.some.inj lead]

/-- The sinks of a group apply what it and they stand at. -/
def State.Applies (s : State) (g : Fin 8) : Prop :=
  ∀ n, (s.illum.sinks.get n).group = some g →
    (s.illum.sinks.get n).apCode = s.applyCode (s.group g) (s.illum.sinks.get n) ∧
    (s.illum.sinks.get n).apDuty = s.applyDuty g (s.group g) (s.illum.sinks.get n)

theorem State.Applies.congr {s t : State} {g : Fin 8} (h : s.Applies g) (now : t.now = s.now) (dim : t.illum.dimUse = s.illum.dimUse)
    (comp : t.illum.comp = s.illum.comp) (lts : t.illum.lts = s.illum.lts) (lead : t.lbus.leadFade g = s.lbus.leadFade g)
    (group : t.group g = s.group g) (sinks : ∀ n, (t.illum.sinks.get n).group = some g → t.illum.sinks.get n = s.illum.sinks.get n) :
    t.Applies g := by
  intro n member
  have same := sinks n member
  rw [same] at member ⊢
  rw [State.applyCode_congr comp lts, State.applyDuty_congr now dim lead, group]
  exact h n member

/-- A group's factor at a valley. -/
def State.factored (s : State) (g : Fin 8) : State := s.updGroup g fun x => { x with f := s.busFactor g }

/-- One group's factor and values at a valley. -/
def State.refreshGroup (s : State) (g : Fin 8) : State := (s.factored g).applyGroup g

/-- But for sinks and groups the illumination, and all that the values applied depend on, are as before. -/
def Placed (s t : State) : Prop :=
  t.now = s.now ∧ t.illum = { s.illum with sinks := t.illum.sinks, groups := t.illum.groups } ∧ t.lbus = s.lbus

theorem Placed.trans {s t u : State} (h : Placed s t) (k : Placed t u) : Placed s u := by
  obtain ⟨now, illum, lbus⟩ := h
  obtain ⟨now', illum', lbus'⟩ := k
  exact ⟨now'.trans now, by rw [illum', illum], lbus'.trans lbus⟩

theorem Placed.comp {s t : State} (h : Placed s t) : t.illum.comp = s.illum.comp := by rw [h.2.1]
theorem Placed.lts {s t : State} (h : Placed s t) : t.illum.lts = s.illum.lts := by rw [h.2.1]
theorem Placed.dimUse {s t : State} (h : Placed s t) : t.illum.dimUse = s.illum.dimUse := by rw [h.2.1]

theorem Placed.forAll {n : Nat} {f : State → Fin n → State} (step : ∀ s i, Placed s (f s i)) (s : State) : Placed s (forAll s f) :=
  forAll_keeps (P := Placed s) (fun t i placed => placed.trans (step t i)) s ⟨rfl, rfl, rfl⟩

theorem State.applyGroup_placed (s : State) (g : Fin 8) : Placed s (s.applyGroup g) := by
  obtain ⟨v, all, -⟩ := s.applyGroup_eq g
  rw [all]
  exact ⟨rfl, rfl, rfl⟩

theorem State.applyGroup_group (s : State) (g k : Fin 8) : (s.applyGroup g).group k = s.group k := by
  obtain ⟨v, all, -⟩ := s.applyGroup_eq g
  rw [all]
  rfl

theorem State.factored_placed (s : State) (g : Fin 8) : Placed s (s.factored g) := ⟨rfl, rfl, rfl⟩

theorem State.refreshGroup_placed (s : State) (g : Fin 8) : Placed s (s.refreshGroup g) :=
  (s.factored_placed g).trans ((s.factored g).applyGroup_placed g)

theorem State.refreshGroup_other (s : State) (k g : Fin 8) (other : g ≠ k) : (s.refreshGroup k).group g = s.group g := by
  unfold State.refreshGroup
  rw [State.applyGroup_group]
  exact (bankUpd_get _ _ _ _).trans (if_neg (Ne.symm other))

theorem State.refreshGroup_self (s : State) (g : Fin 8) : (s.refreshGroup g).group g = { s.group g with f := s.busFactor g } := by
  unfold State.refreshGroup
  rw [State.applyGroup_group]
  exact bankUpd_get_self _ _ _

theorem State.factored_sinks (s : State) (g : Fin 8) : (s.factored g).illum.sinks = s.illum.sinks := rfl

theorem State.refreshGroup_sink (s : State) (g : Fin 8) (n : Fin 48) :
    (s.refreshGroup g).illum.sinks.get n = (s.factored g).applied g (s.illum.sinks.get n) := by
  rw [← s.factored_sinks g, State.refreshGroup]
  exact (s.factored g).applyGroup_sink g n

theorem State.Applies.of_applied {u w : State} {g : Fin 8} (placed : Placed u w) (group : w.group g = u.group g)
    (sinks : ∀ n, w.illum.sinks.get n = u.applied g (u.illum.sinks.get n)) : w.Applies g := by
  intro n member
  rw [sinks, State.applied_group] at member
  rw [State.applyCode_congr placed.comp placed.lts, State.applyDuty_congr placed.1 placed.dimUse (by rw [placed.2.2]), group, sinks,
    State.applied, if_pos member]
  exact ⟨rfl, rfl⟩

theorem State.refreshGroup_applies (s : State) (g : Fin 8) : (s.refreshGroup g).Applies g := by
  unfold State.refreshGroup
  exact .of_applied ((s.factored g).applyGroup_placed g) ((s.factored g).applyGroup_group g g) ((s.factored g).applyGroup_sink g)

theorem State.applied_other {s : State} {g k : Fin 8} {x : Sink} (other : g ≠ k) (member : x.group = some g) : s.applied k x = x :=
  if_neg fun its => other (Option.some.inj (member.symm.trans its))

theorem State.refreshGroup_keeps {s : State} {g k : Fin 8} (other : g ≠ k) (h : s.Applies g) : (s.refreshGroup k).Applies g := by
  have placed := s.refreshGroup_placed k
  refine h.congr placed.1 placed.dimUse placed.comp placed.lts (congrArg (Lbus.leadFade · g) placed.2.2) (s.refreshGroup_other k g other)
    fun n member => ?_
  rw [State.refreshGroup_sink, State.applied_group] at member
  rw [State.refreshGroup_sink, State.applied_other other member]

/-- After every group's turn the sinks of each apply its values. -/
theorem forAll_refreshGroup (s : State) (g : Fin 8) : (forAll s State.refreshGroup).Applies g := by
  have walk : ∀ (l : List (Fin 8)) (u : State), l.Nodup → (g ∈ l ∨ u.Applies g) → (l.foldl State.refreshGroup u).Applies g := by
    intro l
    induction l with
    | nil => exact fun u _ h => h.resolve_left List.not_mem_nil
    | cons k l ih =>
      intro u once h
      obtain ⟨out, rest⟩ := List.nodup_cons.1 once
      rw [List.foldl_cons]
      refine ih _ rest ?_
      by_cases same : g = k
      · subst same
        exact .inr (u.refreshGroup_applies g)
      · rcases h with mem | done
        · exact .inl ((List.mem_cons.1 mem).resolve_left same)
        · exact .inr (State.refreshGroup_keeps same done)
  exact walk _ s (List.nodup_finRange 8) (.inl (List.mem_finRange g))

/-! ### The lamp failures of the gear -/

/-- What the leading gear of a group is found by. -/
def Gear.leadKey (g : Gear) : GearVars × Nat := (g.vars, g.leadAt)

/-- The key that leads, of the one that led and another. -/
def leadOf (best : Option (GearVars × Nat)) (k : GearVars × Nat) : Option (GearVars × Nat) :=
  match best with
  | none => some k
  | some b => if k.2 > b.2 then some k else some b

theorem Lbus.leading_leadKey (l : Lbus) (g : Fin 8) :
    (l.leading g).map (fun x => x.2.leadKey) = ((l.gearOf g).map fun x => x.2.leadKey).foldl leadOf none := by
  unfold Lbus.leading
  generalize l.gearOf g = xs
  change _ = List.foldl leadOf (Option.map (fun x : Fin 16 × Gear => x.2.leadKey) none) _
  generalize (none : Option (Fin 16 × Gear)) = best
  induction xs generalizing best with
  | nil => rfl
  | cons x xs ih =>
    rw [List.foldl_cons, List.map_cons, List.foldl_cons, ih]
    refine congrArg (fun b => List.foldl leadOf b _) ?_
    cases best with
    | none => rfl
    | some b =>
      exact apply_ite (Option.map fun x : Fin 16 × Gear => x.2.leadKey) _ _ _

theorem Lbus.gearOf_leadKey (l : Lbus) (g : Fin 8) : (l.gearOf g).map (fun x => x.2.leadKey) = (List.finRange 16).filterMap fun n =>
    ((l.gear.get n).map Gear.leadKey).bind fun k => if k.1.group = g then some k else none := by
  unfold Lbus.gearOf bankList
  rw [List.filterMap_map, List.map_filterMap]
  refine List.filterMap_congr fun n _ => ?_
  simp only [Function.comp_apply]
  cases l.gear.get n with
  | none => rfl
  | some e =>
    simp only [Option.map_some, Option.bind_some, Gear.leadKey]
    split <;> rfl

theorem Lbus.leadFade_congr {l m : Lbus} (same : ∀ n, (l.gear.get n).map Gear.leadKey = (m.gear.get n).map Gear.leadKey) (g : Fin 8) :
    l.leadFade g = m.leadFade g := by
  have fade (l : Lbus) : l.leadFade g = ((l.leading g).map fun x => x.2.leadKey).map fun k => k.1.fadeTime := by
    rw [Option.map_map]
    rfl
  rw [fade, fade, Lbus.leading_leadKey, Lbus.leading_leadKey, Lbus.gearOf_leadKey, Lbus.gearOf_leadKey]
  simp only [same]

theorem State.lampRefresh_sameLight (s : State) : SameLight s s.lampRefresh :=
  .forAll (fun u n => by
    split
    · exact ⟨rfl, rfl⟩
    · dsimp only
      split
      · exact ⟨rfl, rfl⟩
      · exact (u.updGear_only n _).sameLight.trans (State.gearEvent_sameLight _ _ _ _)) s

theorem State.lampRefresh_lead (s : State) (g : Fin 8) : s.lampRefresh.lbus.leadFade g = s.lbus.leadFade g := by
  suffices all : ∀ n, (s.lampRefresh.lbus.gear.get n).map Gear.leadKey = (s.lbus.gear.get n).map Gear.leadKey from
    Lbus.leadFade_congr all g
  unfold State.lampRefresh
  refine forAll_keeps (P := fun t => ∀ n, (t.lbus.gear.get n).map Gear.leadKey = (s.lbus.gear.get n).map Gear.leadKey)
    (fun t k same n => Eq.trans ?_ (same n)) s fun _ => rfl
  split
  · rfl
  · dsimp only
    split
    · rfl
    · rename_i g here differs
      obtain ⟨o, event⟩ := State.gearEvent_onlyOwners (t.updGear k fun x => { x with lampFail := t.lampFails g }) k
        (if t.lampFails g then 2 else 3) (g.actual t.now)
      rw [event]
      refine (congrArg (Option.map Gear.leadKey) (bankUpd_get _ _ _ _)).trans ?_
      split
      · rw [Option.map_map]
        rfl
      · rfl

/-! ### Configurations that come in force -/

/-- A change of every sink that depends on the sink alone. -/
theorem forAll_updSink (s : State) (f : Fin 48 → Sink → Sink) : ∃ v, forAll s (fun s n => s.updSink n (f n)) =
    s.updIllum (fun i => { i with sinks := v }) ∧ ∀ n, v.get n = f n (s.illum.sinks.get n) := by
  have walk : ∀ (l : List (Fin 48)) (v : Vector Sink 48), l.foldl (fun (u : State) n => u.updSink n (f n))
      (s.updIllum fun i => { i with sinks := v }) =
      s.updIllum fun i => { i with sinks := l.foldl (fun v n => bankUpd v n (f n)) v } := by
    intro l
    induction l with
    | nil => exact fun v => rfl
    | cons n l ih =>
      intro v
      rw [List.foldl_cons, List.foldl_cons, ← ih]
      rfl
  have start : (s.updIllum fun i => { i with sinks := s.illum.sinks }) = s := rfl
  have all := walk (List.finRange 48) s.illum.sinks
  rw [start] at all
  refine ⟨_, all, fun n => ?_⟩
  have each := foldl_bankUpd f (List.nodup_finRange 48) s.illum.sinks n
  rwa [if_pos (List.mem_finRange n)] at each

theorem State.dark_sinks (s : State) (g : Fin 8) : ∃ v, s.dark g = s.updIllum (fun i => { i with sinks := v }) ∧
    ∀ n, v.get n = if (s.illum.sinks.get n).group = some g then { s.illum.sinks.get n with on := false, run := false }
      else s.illum.sinks.get n :=
  forAll_updSink s fun _ x => if x.group = some g then { x with on := false, run := false } else x

theorem State.takeScan_sinks (s : State) : ∃ v, s.takeScan = s.updIllum fun i => { i with sinks := v } := by
  obtain ⟨v, all, -⟩ := forAll_updSink s fun _ x =>
    match x.scanH with
    | none => x
    | some h => { x with h := h, inReg := x.scanReg }
  exact ⟨v, all⟩

/-- A configuration that acts changes its own group, and of the rest sinks alone. -/
theorem State.groupCfgActs_eq (s : State) (g : Fin 8) (c : LightCfg) : ∃ v f,
    s.groupCfgActs g c = (s.updIllum fun i => { i with sinks := v }).updGroup g f ∧ ∀ x, (f x).cfg = c ∧ (f x).cfgNext = none := by
  unfold State.groupCfgActs
  extract_lets old toBus fresh s1 s2
  obtain ⟨v, placed, -⟩ := forAll_updSink s fun n x =>
    let isIn := c.mask.testBit n.val
    if isIn ∧ x.group = some g then { x with blendFrom := if toBus then x.apDuty else x.blendFrom }
    else if isIn then { fresh with group := some g }
    else if x.group = some g then fresh
    else x
  have one : s1 = s.updIllum fun i => { i with sinks := v } := placed
  by_cases off : old.ctrlSrc = 2 ∧ c.ctrlSrc ≠ 2
  · have two : s2 = s1.dark g := if_pos off
    obtain ⟨w, dark, -⟩ := s1.dark_sinks g
    rw [two, dark, one]
    exact ⟨w, _, rfl, fun _ => ⟨rfl, rfl⟩⟩
  · have two : s2 = s1 := if_neg off
    rw [two, one]
    exact ⟨v, _, rfl, fun _ => ⟨rfl, rfl⟩⟩

/-- A group's turn at a valley: a configuration that waits comes in force. -/
def State.takeCfg (s : State) (g : Fin 8) : State :=
  match (s.group g).cfgNext with
  | some c => s.groupCfgActs g c
  | none => s

theorem State.takeCfg_placed (s : State) (g : Fin 8) : Placed s (s.takeCfg g) := by
  unfold State.takeCfg
  split
  · obtain ⟨v, f, acts, -⟩ := s.groupCfgActs_eq g _
    rw [acts]
    exact ⟨rfl, rfl, rfl⟩
  · exact ⟨rfl, rfl, rfl⟩

theorem State.takeCfg_other (s : State) (k g : Fin 8) (other : g ≠ k) : (s.takeCfg k).group g = s.group g := by
  unfold State.takeCfg
  split
  · obtain ⟨v, f, acts, -⟩ := s.groupCfgActs_eq k _
    rw [acts]
    exact (bankUpd_get _ _ _ _).trans (if_neg (Ne.symm other))
  · rfl

theorem State.takeCfg_self (s : State) (g : Fin 8) :
    ((s.takeCfg g).group g).cfgNext = none ∧ ((s.takeCfg g).group g).cfg = (s.group g).cfgNext.getD (s.group g).cfg := by
  unfold State.takeCfg
  split
  case h_1 c waits =>
    obtain ⟨v, f, acts, takes⟩ := s.groupCfgActs_eq g c
    have entry : (s.groupCfgActs g c).group g = f (s.group g) := by
      rw [acts]
      exact bankUpd_get_self _ _ _
    rw [entry, waits]
    exact ⟨(takes _).2, (takes _).1⟩
  case h_2 rests =>
    rw [rests]
    exact ⟨rfl, rfl⟩

/-! ### The whole valley -/

/-- The scan that ends at a valley, judged. -/
def State.endScan (s : State) (vstr : Nat) : State :=
  (s.updStage fun x =>
    { x with vstr := vstr,
             nearMaxFrom := if vstr + 500 ≥ s.illum.vmaxDv * 100 then some (x.nearMaxFrom.getD s.now) else none
    }).takeScan.stageScan.shortScan.judge.closeScan

theorem State.illumValley_eq (s : State) (vstr : Nat) : s.illumValley vstr =
    (forAll (forAll (((s.endScan vstr).updIllum fun i =>
      { i with dimUse := i.dimC, valleyTick := s.now }).gearValley.gearFlush) State.takeCfg) State.refreshGroup).lampRefresh := rfl

/-- A discharge that begins after the scan drives nothing. -/
theorem SetPointMoves.of_stands {i j k : Illum} (moves : SetPointMoves i j) (stands : j.stage.Stands k.stage) : SetPointMoves i k := by
  obtain ⟨-, set, st⟩ := stands
  intro on
  rcases st with st | st
  · rw [st] at on
    rw [set]
    exact moves on
  · rw [st] at on
    rcases on with on | on <;> cases on

theorem State.endScan_keeps (s : State) (vstr : Nat) : let t := s.endScan vstr
    t.now = s.now ∧ t.illum.dimC = s.illum.dimC ∧ t.illum.stage.vstr = vstr ∧
      (∀ g, (t.group g).cfg = (s.group g).cfg ∧ (t.group g).cfgNext = (s.group g).cfgNext) ∧ SetPointMoves s.illum t.illum := by
  intro t
  obtain ⟨v, taken⟩ := State.takeScan_sinks (s.updStage fun x =>
    { x with vstr := vstr,
             nearMaxFrom := if vstr + 500 ≥ s.illum.vmaxDv * 100 then some (x.nearMaxFrom.getD s.now) else none })
  have whole : t = State.closeScan (State.judge (State.shortScan (State.stageScan (State.updIllum _ fun i => { i with sinks := v })))) :=
    congrArg (fun u : State => u.stageScan.shortScan.judge.closeScan) taken
  generalize start : State.updIllum (s.updStage fun x =>
    { x with vstr := vstr,
             nearMaxFrom := if vstr + 500 ≥ s.illum.vmaxDv * 100 then some (x.nearMaxFrom.getD s.now) else none })
    (fun i => { i with sinks := v }) = u at whole
  have tick : u.now = s.now := by rw [← start]; rfl
  have dim : u.illum.dimC = s.illum.dimC := by rw [← start]; rfl
  have read : u.illum.stage.vstr = vstr := by rw [← start]; rfl
  have group (g : Fin 8) : u.group g = s.group g := by rw [← start]; rfl
  have same : ∀ j, SetPointMoves u.illum j ↔ SetPointMoves s.illum j := by
    intro j
    rw [← start]
    exact Iff.rfl
  clear start taken
  obtain ⟨now, illum, measured, moves⟩ := u.stageScan_stage
  have keeps (g : Fin 8) : u.stageScan.group g = u.group g := by
    rw [State.group, illum]
    rfl
  have capped : u.stageScan.illum.dimC = u.illum.dimC := by rw [illum]
  obtain ⟨now', illum', groups', stands⟩ := (u.stageScan.shortScan_judged.trans (State.judge_judged _)).trans (State.closeScan_judged _)
  rw [← whole] at now' illum' groups' stands
  have capped' : t.illum.dimC = u.stageScan.illum.dimC := by rw [illum']
  refine ⟨(now'.trans now).trans tick, (capped'.trans capped).trans dim, (stands.1.trans measured).trans read, fun g => ?_,
    (same _).1 (moves.of_stands stands)⟩
  rw [(groups' g).1, (groups' g).2, keeps, group]
  exact ⟨rfl, rfl⟩

/-- What a valley in FULL brings (R348 to R357). -/
theorem State.illumValley_brings (s : State) (vstr : Nat) : let t := s.illumValley vstr
    t.illum.dimUse = s.illum.dimC ∧ t.illum.valleyTick = s.now ∧ t.illum.stage.vstr = vstr ∧
      (∀ g, (t.group g).cfgNext = none ∧ (t.group g).cfg = (s.group g).cfgNext.getD (s.group g).cfg) ∧
      (∀ g, t.Applies g) ∧ SetPointMoves s.illum t.illum := by
  intro t
  obtain ⟨now, dim, measured, groups, moves⟩ := s.endScan_keeps vstr
  have whole : t = _ := s.illumValley_eq vstr
  clear_value t
  generalize s.endScan vstr = u at whole now dim measured groups moves
  have gear := (State.gearValley_sameLight (u.updIllum fun i => { i with dimUse := i.dimC, valleyTick := s.now })).trans
    (State.gearFlush_sameLight _)
  generalize State.gearFlush (State.gearValley (u.updIllum fun i => { i with dimUse := i.dimC, valleyTick := s.now })) = v at whole gear
  have configured : Placed v (forAll v State.takeCfg) := .forAll State.takeCfg_placed v
  have inForce (g : Fin 8) := forAll_entry (f := State.takeCfg) (get := State.group)
    (P := fun x y => y.cfgNext = none ∧ y.cfg = x.cfgNext.getD x.cfg) State.takeCfg_other State.takeCfg_self v g
  generalize forAll v State.takeCfg = w at whole configured inForce
  have refreshed : Placed w (forAll w State.refreshGroup) := .forAll State.refreshGroup_placed w
  have kept (g : Fin 8) := forAll_entry (f := State.refreshGroup) (get := State.group)
    (P := fun x y => y.cfgNext = x.cfgNext ∧ y.cfg = x.cfg) State.refreshGroup_other
    (fun u k => by rw [State.refreshGroup_self]; exact ⟨rfl, rfl⟩) w g
  have applies := forAll_refreshGroup w
  generalize forAll w State.refreshGroup = z at whole refreshed kept applies
  obtain ⟨lit, tick⟩ := z.lampRefresh_sameLight
  have lead := z.lampRefresh_lead
  rw [← whole] at lit tick lead
  have group (g : Fin 8) : t.group g = z.group g := by rw [State.group, lit]; rfl
  refine ⟨?_, ?_, ?_, fun g => ?_, fun g => ?_, ?_⟩
  · rw [lit, refreshed.dimUse, configured.dimUse, gear.1]
    exact dim
  · rw [lit, refreshed.2.1, configured.2.1, gear.1]
    rfl
  · rw [lit, refreshed.2.1, configured.2.1, gear.1]
    exact measured
  · obtain ⟨next, cfg⟩ := inForce g
    have before : v.group g = u.group g := by rw [State.group, gear.1]; rfl
    rw [group, (kept g).1, (kept g).2, next, cfg, before, (groups g).1, (groups g).2]
    exact ⟨rfl, rfl⟩
  · exact (applies g).congr tick (by rw [lit]) (by rw [lit]) (by rw [lit]) (lead g) (group g) fun n _ => by rw [lit]
  · have stage : t.illum.stage = u.illum.stage := by
      rw [lit, refreshed.2.1, configured.2.1, gear.1]
      rfl
    exact moves.of_stands (by rw [stage]; exact .refl _)

end Sys2Proof.Machine
end

section
/-! PROOFS. The rows of the illumination (R348 to R356): valleys, boundaries, strobe windows and the intervals of sinks. -/

namespace Sys2Proof.Machine

/-! ### Valleys -/

theorem State.timerValley_onlyTimers (s : State) (n : Fin 16) : ∃ v, s.timerValley n = { s with timers := v } := by
  unfold State.timerValley
  dsimp only
  split
  · exact ⟨_, rfl⟩
  · exact ⟨s.timers, rfl⟩

theorem State.illumValley_frame (s : State) (vstr : Nat) :
    (s.illumValley vstr).axes = s.axes ∧ (s.illumValley vstr).mem = s.mem ∧ (s.illumValley vstr).leases = s.leases := by
  have lit := s.illumValley_light vstr
  unfold LightMoves at lit
  rw [lit]
  exact ⟨rfl, rfl, rfl⟩

/-- Outside FULL a valley drives nothing. -/
theorem State.dimValley_dark {s : State} (dark : s.boot.dev ≠ .full) (vstr : Nat) : (s.dimValley vstr).illum.sinks = s.illum.sinks ∧
    (s.dimValley vstr).illum.stage = s.illum.stage ∧ (s.dimValley vstr).axes = s.axes ∧ (s.dimValley vstr).mem = s.mem := by
  have lit := s.dimValley_light vstr
  have axes : (s.dimValley vstr).axes = s.axes := by
    unfold LightMoves at lit
    rw [lit]
  have mem : (s.dimValley vstr).mem = s.mem := by
    unfold LightMoves at lit
    rw [lit]
  have gear := s.gearValley_sameLight.trans s.gearValley.gearFlush_sameLight
  refine ⟨?_, ?_, axes, mem⟩
  all_goals
    unfold State.dimValley
    rw [if_neg dark]
    split
    · simp only [State.updIllum, gear.1]
    · rfl

theorem illumValley_acts (s : State) (mv : Nat) :
    if s.switchWaits = true then exec (.illumValley mv) s = .next (s.putOff (.illumValley mv))
    else if s.dimValleyDue = false then exec (.illumValley mv) s = .next s
    else if s.boot.dev ≠ .full then ∃ t, exec (.illumValley mv) s = .next t ∧ t.illum.sinks = s.illum.sinks ∧
      t.illum.stage = s.illum.stage ∧ t.axes = s.axes ∧ t.mem = s.mem
    else ∃ t, exec (.illumValley mv) s = .next t ∧ t.illum.dimUse = s.illum.dimC ∧ t.illum.valleyTick = s.now ∧
      t.illum.stage.vstr = mv ∧ t.axes = s.axes ∧ t.mem = s.mem ∧ t.leases = s.leases ∧
      (∀ g, (t.group g).cfgNext = none ∧ (t.group g).cfg = (s.group g).cfgNext.getD (s.group g).cfg) ∧
      (∀ n g, (t.illum.sinks.get n).group = some g → (t.illum.sinks.get n).apCode = t.applyCode (t.group g) (t.illum.sinks.get n) ∧
        (t.illum.sinks.get n).apDuty = t.applyDuty g (t.group g) (t.illum.sinks.get n)) ∧
      SetPointMoves s.illum t.illum := by
  have row : exec (.illumValley mv) s = execIllumValley mv s := rfl
  rw [row, execIllumValley]
  split
  case isTrue waits => rfl
  case isFalse first =>
    split
    case isTrue early => rw [if_neg (by rw [early]; exact Bool.false_ne_true)]
    case isFalse due =>
      rw [if_pos ((Bool.not_eq_false _).mp due)]
      obtain ⟨v, turned⟩ := s.timerValley_onlyTimers 8
      rw [turned]
      split
      case isTrue dark => exact ⟨_, rfl, State.dimValley_dark (s := { s with timers := v }) dark mv⟩
      case isFalse full =>
        rw [not_not] at full
        have lit : State.dimValley { s with timers := v } mv = State.illumValley { s with timers := v } mv := if_pos full
        rw [lit]
        obtain ⟨dim, tick, measured, groups, applies, moves⟩ := State.illumValley_brings { s with timers := v } mv
        obtain ⟨axes, mem, leases⟩ := State.illumValley_frame { s with timers := v } mv
        exact ⟨_, rfl, dim, tick, measured, axes, mem, leases, groups, fun n g member => applies g n member, moves⟩

/-! ### LIGHT_SET_APPLY -/

/-- The entries of the sets of a group that are due, in their order. -/
def State.dueEntries (s : State) (g : Fin 8) : List (Fin 48 × Nat × Nat) :=
  ((s.group g).queue.filter fun q => decide (q.at_ = 0) || decide (q.at_ ≤ s.devTime)).flatMap (·.entries)

/-- What an entry of a set makes of its sink. -/
def Sink.store (g : Fin 8) (e : Fin 48 × Nat × Nat) (x : Sink) : Sink :=
  if x.group = some g then { x with code := e.2.1, duty := e.2.2 } else x

theorem Sink.store_group (g : Fin 8) (e : Fin 48 × Nat × Nat) (x : Sink) : (x.store g e).group = x.group := by
  unfold Sink.store
  split <;> rfl

/-- What the entries of a list leave a sink of the group with. -/
def lastEntry (es : List (Fin 48 × Nat × Nat)) (n : Fin 48) : Option (Nat × Nat) := (es.reverse.find? fun e => e.1 == n).map (·.2)

theorem foldl_store (g : Fin 8) (es : List (Fin 48 × Nat × Nat)) (v : Vector Sink 48) (n : Fin 48) :
    let w := es.foldl (fun v e => bankUpd v e.1 (Sink.store g e)) v
    (w.get n).group = (v.get n).group ∧ ((v.get n).group ≠ some g → w.get n = v.get n) ∧
      ((v.get n).group = some g → ((w.get n).code, (w.get n).duty) = (lastEntry es n).getD ((v.get n).code, (v.get n).duty)) := by
  induction es using List.reverseRecOn with
  | nil => exact ⟨rfl, fun _ => rfl, fun _ => rfl⟩
  | append_singleton es e ih =>
    intro w
    obtain ⟨group, other, own⟩ := ih
    generalize before : es.foldl (fun v e => bankUpd v e.1 (Sink.store g e)) v = u at group other own
    have last : w = bankUpd u e.1 (Sink.store g e) := by
      show (es ++ [e]).foldl _ v = _
      rw [List.foldl_append, before]
      rfl
    have newest : lastEntry (es ++ [e]) n = if e.1 = n then some e.2 else lastEntry es n := by
      unfold lastEntry
      rw [List.reverse_append, List.reverse_singleton, List.singleton_append, List.find?_cons]
      by_cases same : e.1 = n
      · rw [if_pos same, beq_iff_eq.2 same]
        rfl
      · rw [if_neg same, beq_eq_false_iff_ne.2 same]
    rw [last, bankUpd_get, newest]
    by_cases same : e.1 = n
    · simp only [if_pos same, Sink.store_group]
      refine ⟨group, fun out => ?_, fun member => ?_⟩
      · rw [Sink.store, if_neg (by rw [group]; exact out)]
        exact other out
      · rw [Sink.store, if_pos (group.trans member)]
        rfl
    · simp only [if_neg same]
      exact ⟨group, other, own⟩

/-- The sets that are due are stored in their order. -/
theorem State.storeSets_eq (s : State) (g : Fin 8) (qs : List QueuedSet) :
    qs.foldl (fun s q => q.entries.foldl (fun s e => s.updSink e.1 fun x =>
      if x.group = some g then { x with code := e.2.1, duty := e.2.2 } else x) s) s =
    s.updIllum fun i => { i with sinks := (qs.flatMap (·.entries)).foldl (fun v e => bankUpd v e.1 (Sink.store g e)) i.sinks } := by
  have each : ∀ (es : List (Fin 48 × Nat × Nat)) (u : State), es.foldl (fun (s : State) e => s.updSink e.1 (Sink.store g e)) u =
      u.updIllum fun i => { i with sinks := es.foldl (fun v e => bankUpd v e.1 (Sink.store g e)) i.sinks } := by
    intro es
    induction es with
    | nil => exact fun u => rfl
    | cons e es ih => exact fun u => (ih _).trans rfl
  rw [← each, List.foldl_flatMap]
  rfl

theorem lightSetApply_stores {s : State} {g : Fin 8} (now : s.boot.dev = .full ∧
    (if (s.group g).cfg.ctrlSrc = 2 then (s.group g).openTick else s.illum.valleyTick) = s.now ∧ (s.test.sink.get g).running = false)
    (first : ¬ (s.leaseMayEnd 2 g.val = true ∨ s.valleyComes = true)) :
    ∃ t, exec (.lightSetApply g) s = .next t ∧
      t.group g = { s.group g with queue := (s.group g).queue.filter fun q => !(decide (q.at_ = 0) || decide (q.at_ ≤ s.devTime)) } ∧
      (∀ k, k ≠ g → t.group k = s.group k) ∧ t.illum.stage = s.illum.stage ∧ t.illum.matrix = s.illum.matrix ∧
      t.axes = s.axes ∧ t.mem = s.mem ∧
      (∀ n, (s.illum.sinks.get n).group ≠ some g → t.illum.sinks.get n = s.illum.sinks.get n) ∧
      ∀ n, (s.illum.sinks.get n).group = some g →
        ((t.illum.sinks.get n).code, (t.illum.sinks.get n).duty) =
          (lastEntry (s.dueEntries g) n).getD ((s.illum.sinks.get n).code, (s.illum.sinks.get n).duty) ∧
        (t.illum.sinks.get n).apCode = t.applyCode (t.group g) (t.illum.sinks.get n) := by
  obtain ⟨full, boundary, resting⟩ := now
  have row : exec (.lightSetApply g) s = .next (s.applySets g) := by
    have act : s.boot.dev = .full ∧ (if (s.group g).cfg.ctrlSrc = 2 then decide ((s.group g).openTick = s.now)
        else decide (s.illum.valleyTick = s.now)) = true ∧ ¬ (s.test.sink.get g).running = true := by
      refine ⟨full, ?_, by rw [resting]; exact Bool.false_ne_true⟩
      by_cases strobes : (s.group g).cfg.ctrlSrc = 2
      · rw [if_pos strobes] at boundary ⊢
        exact decide_eq_true boundary
      · rw [if_neg strobes] at boundary ⊢
        exact decide_eq_true boundary
    exact congrArg Host.Outcome.next ((if_neg first).trans (if_pos act))
  have lit := s.applySets_light g
  unfold LightMoves at lit
  generalize stored : (s.dueEntries g).foldl (fun v e => bankUpd v e.1 (Sink.store g e)) s.illum.sinks = v
  have sets : s.applySets g = State.applyGroup ((s.updIllum fun i => { i with sinks := v }).updGroup g fun x =>
      { x with queue := x.queue.filter fun q => !(decide (q.at_ = 0) || decide (q.at_ ≤ s.devTime)) }) g := by
    unfold State.applySets
    extract_lets due x s1
    have all : s1 = s.updIllum fun i => { i with sinks := v } := by
      rw [← stored]
      exact s.storeSets_eq g _
    rw [all]
    rfl
  generalize start : ((s.updIllum fun i => { i with sinks := v }).updGroup g fun x =>
      { x with queue := x.queue.filter fun q => !(decide (q.at_ = 0) || decide (q.at_ ≤ s.devTime)) }) = u at sets
  have group : u.group g = { s.group g with queue := (s.group g).queue.filter fun q => !(decide (q.at_ = 0) || decide (q.at_ ≤ s.devTime)) } := by
    rw [← start]
    exact bankUpd_get_self _ _ _
  have groups (k : Fin 8) (other : k ≠ g) : u.group k = s.group k := by
    rw [← start]
    exact (bankUpd_get _ _ _ _).trans (if_neg (Ne.symm other))
  have illum : u.illum = { s.illum with sinks := v, groups := u.illum.groups } := by
    rw [← start]
    rfl
  have sinks : u.illum.sinks = v := by rw [illum]
  obtain ⟨-, placed, -⟩ := u.applyGroup_placed g
  have applies : (u.applyGroup g).Applies g :=
    .of_applied (u.applyGroup_placed g) (u.applyGroup_group g g) (u.applyGroup_sink g)
  refine ⟨_, row, ?_, fun k other => ?_, ?_, ?_, by rw [lit], by rw [lit], fun n out => ?_, fun n member => ?_⟩
  · rw [sets, State.applyGroup_group, group]
  · rw [sets, State.applyGroup_group, groups k other]
  · rw [sets, placed, illum]
  · rw [sets, placed, illum]
  all_goals
    obtain ⟨kept, other, own⟩ := foldl_store g (s.dueEntries g) s.illum.sinks n
    rw [stored] at kept other own
  · rw [sets, State.applyGroup_sink, sinks, other out]
    exact if_neg out
  · refine ⟨?_, ?_⟩
    · rw [← own member, sets, State.applyGroup_sink, sinks, State.applied, if_pos (kept.trans member)]
    · rw [sets]
      refine (applies n ?_).1
      rw [State.applyGroup_sink, State.applied_group, sinks]
      exact kept.trans member

/-! ### Strobes and sinks -/

theorem strobeWindowOpen_acts {s : State} {g : Fin 8} {st : Strobe} {o : Nat} {rest : List Nat} (armed : (s.group g).strobe = some st)
    (opens : (s.group g).opens = o :: rest) (full : s.boot.dev = .full) :
    exec (.strobeWindowOpen g) s = .next (if o ≤ s.devNs + 20 then s.updGroup g fun x => { x with
        opens := rest, openTick := s.now, closeAt := some (max (x.closeAt.getD 0) (o + st.length)),
        windows := satInc 0xFFFFFFFF x.windows, strobe := some { st with left := st.left.map fun n => n - 1 } }
      else s) := by
  have row : exec (.strobeWindowOpen g) s = execStrobeWindowOpen g s := rfl
  rw [row, execStrobeWindowOpen]
  simp only [armed, opens, full, and_true]

theorem strobeWindowClose_acts {s : State} {g : Fin 8} {c : Nat} (closes : (s.group g).closeAt = some c) :
    if c ≤ s.devNs + 20 then
      ∃ t, exec (.strobeWindowClose g) s = .next t ∧ (t.group g).closeAt = none ∧ (∀ k, k ≠ g → t.group k = s.group k) ∧
        (t.group g).strobe = (s.group g).strobe.filter (fun st => decide (st.left ≠ some 0)) ∧
        (∀ n, t.illum.sinks.get n = if (s.illum.sinks.get n).group = some g then { s.illum.sinks.get n with on := false }
          else s.illum.sinks.get n) ∧ t.axes = s.axes ∧ t.mem = s.mem
    else exec (.strobeWindowClose g) s = .next s := by
  have row : exec (.strobeWindowClose g) s = execStrobeWindowClose g s := rfl
  simp only [execStrobeWindowClose, closes] at row
  split
  case isTrue due =>
    rw [if_pos due] at row
    obtain ⟨v, dark, each⟩ := forAll_updSink s fun _ x => if x.group = some g then { x with on := false } else x
    rw [dark] at row
    refine ⟨_, row, ?_, fun k other => (bankUpd_get _ _ _ _).trans (if_neg (Ne.symm other)), ?_, each, rfl, rfl⟩
    · exact congrArg Group.closeAt (bankUpd_get_self _ _ _)
    · refine (congrArg Group.strobe (bankUpd_get_self _ _ _)).trans ?_
      show (match (s.group g).strobe with | some st => if st.left = some 0 then none else some st | none => none) = _
      cases (s.group g).strobe with
      | none => rfl
      | some st =>
        rw [Option.filter_some]
        by_cases last : st.left = some 0 <;> simp [last]
  case isFalse early =>
    rw [if_neg early] at row
    exact row

theorem sinkOnInterval_start {s : State} {n : Fin 48} {g : Fin 8} (member : (s.illum.sinks.get n).group = some g) (slot : Fin 256) (ua mv : Nat) :
    let x := s.illum.sinks.get n
    exec (.sinkOnInterval n slot true ua mv) s = .next (if s.boot.dev = .full ∧ s.sinkActive x = true ∧
        (if (s.group g).cfg.ctrlSrc = 2 then (s.group g).closeAt ≠ none else 0 < onUnits x.apDuty s.illum.dimUse slot.val) then
      s.updSink n fun x => { x with on := true, run := true } else s) := by
  intro x
  have row : exec (.sinkOnInterval n slot true ua mv) s = execSinkOnInterval n slot true ua mv s := rfl
  rw [row, execSinkOnInterval]
  simp only [member, if_true]
  refine congrArg Host.Outcome.next (if_congr ?_ rfl rfl)
  refine and_congr_right fun _ => and_congr_right fun _ => ?_
  split
  · rw [Option.isSome_iff_ne_none]
  · rw [decide_eq_true_iff]

theorem sinkOnInterval_end (s : State) (n : Fin 48) (slot : Fin 256) (ua mv : Nat) : let x := s.illum.sinks.get n
    (x.run = false → exec (.sinkOnInterval n slot false ua mv) s = .next s) ∧
    (x.run = true → ∃ near : Bool,
      (near = true ↔ (ua * 4095 - codeUa x.apCode) * 100 ≤ codeUa x.apCode ∧
        (codeUa x.apCode - ua * 4095) * 100 ≤ codeUa x.apCode) ∧
      exec (.sinkOnInterval n slot false ua mv) s = .next (s.updSink n fun x => { x with
        on := false, run := false, scanH := some (min (x.scanH.getD mv) mv), scanMax := max x.scanMax ua, scanReg := x.scanReg && near })) := by
  intro x
  have row : exec (.sinkOnInterval n slot false ua mv) s = execSinkOnInterval n slot false ua mv s := rfl
  refine ⟨fun rests => ?_, fun runs => ⟨decide ((if ua * 4095 ≥ codeUa x.apCode then ua * 4095 - codeUa x.apCode
    else codeUa x.apCode - ua * 4095) * 100 ≤ codeUa x.apCode), ?_, ?_⟩⟩
  · rw [row, execSinkOnInterval]
    exact congrArg Host.Outcome.next ((if_neg Bool.false_ne_true).trans (if_neg (by rw [rests]; exact Bool.false_ne_true)))
  · rw [decide_eq_true_iff]
    generalize codeUa x.apCode = want
    generalize ua * 4095 = got
    split <;> omega
  · rw [row, execSinkOnInterval]
    exact congrArg Host.Outcome.next ((if_neg Bool.false_ne_true).trans (if_pos runs))

/-- Settles O38. -/
theorem lightRowsAct : Obligations.LightRowsAct := by
  unfold Obligations.LightRowsAct
  refine ⟨illumValley_acts, fun s g => ?sets, fun s g st o rest armed opens full => strobeWindowOpen_acts armed opens full,
    fun s g c closes => strobeWindowClose_acts closes, fun s n slot ua mv => ?sink⟩
  case sets =>
    intro x
    split
    case isTrue waits => exact congrArg Host.Outcome.next (if_pos waits)
    case isFalse first =>
      by_cases now : s.boot.dev = .full ∧ (if x.cfg.ctrlSrc = 2 then x.openTick else s.illum.valleyTick) = s.now ∧
          (s.test.sink.get g).running = false
      · rw [if_pos now]
        exact lightSetApply_stores now first
      · rw [if_neg now]
        refine congrArg Host.Outcome.next ((if_neg first).trans (if_neg fun act => now ?_))
        obtain ⟨full, boundary, resting⟩ := act
        refine ⟨full, ?_, Bool.eq_false_of_not_eq_true resting⟩
        by_cases strobes : x.cfg.ctrlSrc = 2
        · rw [if_pos strobes] at boundary ⊢
          exact of_decide_eq_true boundary
        · rw [if_neg strobes] at boundary ⊢
          exact of_decide_eq_true boundary
  case sink =>
    intro x set
    exact ⟨fun g member => sinkOnInterval_start member slot ua mv, sinkOnInterval_end s n slot ua mv⟩

end Sys2Proof.Machine
end

section
/-! PROOFS. SENSOR_CONFIG, SENSOR_ARM and SENSOR_DISARM (R262, R264). -/

namespace Sys2Proof.Machine

/-- A disarm of a port touches the jobs that wait for it. -/
theorem State.portDisarmed_eq (k : Fin 6) : ∃ J : Jobs → Jobs, ∀ s : State, s.portDisarmed k = s.updJobs J := by
  have walk : ∀ (l : List (Fin 64)) (u : State), l.foldl (fun (s : State) t => s.updJob t fun x =>
      if x.st = .waiting ∧ x.pastToken ∧ x.ports.contains k then { x with disarmed := k :: x.disarmed } else x) u =
      u.updJobs fun j => l.foldl (fun j t => { j with tags := bankUpd j.tags t (·.map fun x =>
        if x.st = .waiting ∧ x.pastToken ∧ x.ports.contains k then { x with disarmed := k :: x.disarmed } else x) }) j := by
    intro l
    induction l with
    | nil => exact fun u => rfl
    | cons t l ih => exact fun u => (ih _).trans rfl
  exact ⟨_, walk (List.finRange 64)⟩

/-- A port disarmed at once. -/
def SnsPort.disarmedNow (x : SnsPort) : SnsPort :=
  { x.freeFilling with st := .configured, incoming := none, disarmPending := false, done := false }

theorem SnsPort.disarmedNow_filling {x : SnsPort} {f : Incoming} (filling : x.incoming = some f) : x.disarmedNow =
    { x with st := .configured, bufs := bankSet x.bufs f.buffer .empty, incoming := none, disarmPending := false, done := false } := by
  rw [SnsPort.disarmedNow, SnsPort.freeFilling, filling]

theorem SnsPort.disarmedNow_empty {x : SnsPort} (empty : x.incoming = none) : x.disarmedNow =
    { x with st := .configured, disarmPending := false, done := false } := by
  rw [SnsPort.disarmedNow, SnsPort.freeFilling, empty]

/-- A change of one port to a value of its own. -/
theorem State.updSensor_eq (s : State) (k : Fin 6) (f : SnsPort → SnsPort) :
    s.updSensor k f = { s with sensors := bankSet s.sensors k (f (s.sns k)) } := rfl

theorem State.sensorConfigured_eq (s : State) (k : Fin 6) (pool : Nat) (c : SnsCfg) :
    (s.updMem fun m => { m with selfMib := pool }).updSensor k (fun x =>
      { x with st := .configured, cfg := c, bufs := Vector.replicate 4 .empty, incoming := none, clk := x.clk && c.clkMode == 0 }) =
    { s with
      mem := { s.mem with selfMib := pool },
      sensors := bankSet s.sensors k { s.sns k with
        st := .configured, cfg := c, bufs := Vector.replicate 4 .empty, incoming := none,
        clk := (s.sns k).clk && c.clkMode == 0 } } := rfl

theorem State.updJobs_updSensor (s : State) (j : Jobs → Jobs) (k : Fin 6) (f : SnsPort → SnsPort) :
    (s.updJobs j).updSensor k f = { s.updJobs j with sensors := bankSet s.sensors k (f (s.sns k)) } := rfl

theorem State.accepted_sns (s : State) (h : Hdr) (k : Fin 6) : (s.accepted h).sns k = s.sns k := by
  rw [State.sns, s.accepted_sensors]
  rfl

theorem State.accepted_snsBound (s : State) (h : Hdr) (k : Fin 6) : (s.accepted h).snsBound k = s.snsBound k := by
  rw [State.snsBound, s.accepted_jobs]
  rfl

theorem State.accepted_endsNow (s : State) (h : Hdr) (k : Fin 6) : (s.accepted h).endsNow k = s.endsNow k := by
  simp only [State.endsNow, State.feWaits, State.behind, s.accepted_sns, s.accepted_pending, s.accepted_deferred]

section
variable {s : State} {h : Hdr} {c : Cmd} {ses : Session} (ok : Accepted s h c ses) (op : c.opcode ≠ 0x02) {i : Instr}
  (row : exec i s = .next (s.serve h c))
include ok op row

/-- A command of a port that leaves the owners alone. -/
theorem sensor_taken (g : State → State) (effect : perform (s.ticket h c ses) c (s.accepted h) = (g (s.accepted h)).reply (s.ticket h c ses) stOk [])
    (sessions : (g (s.accepted h)).sessions = (s.accepted h).sessions) (now : (g (s.accepted h)).now = (s.accepted h).now)
    (blind : ∀ u, (g u).quiet = g u.quiet) : Completes i s h c.opcode stOk [] (g s) :=
  Accepted.completes_effect ok row op uncounted_ok g effect sessions now blind

end

theorem doSensorConfig_eq {t : Ticket} {p : SnsCfgP} {u : State} {k : Fin 6} {x : SnsPort} {pool : Nat} (range : snsCfgOk p = true)
    (key : snsOf t.hdr = k) (port : u.sns k = x) (room : u.mem.selfMib - x.cfg.mib + (snsCfgOf p).mib = pool) :
    doSensorConfig t p u =
      if x.st ≠ .unconfigured ∧ x.st ≠ .configured then u.reply t eState []
      else if x.bufs.toList.any (fun b => b.st == .held) ∨ u.snsBound k then u.reply t eBusy []
      else if 1024 < pool then u.reply t eNoMemory []
      else
        ((u.updMem fun m => { m with selfMib := pool }).updSensor k fun x =>
          { x with st := .configured, cfg := snsCfgOf p, bufs := Vector.replicate 4 .empty, incoming := none,
                   clk := x.clk && (snsCfgOf p).clkMode == 0 }).reply t stOk [] := by
  subst key port room
  unfold doSensorConfig
  exact if_neg (not_not.2 range)

theorem sensorConfig_completes {s : State} {h : Hdr} {ses : Session} {p : SnsCfgP} (ok : Accepted s h (.sensorConfig p) ses)
    (range : snsCfgOk p = true) {pool : Nat} (room : s.mem.selfMib - (s.sns (snsOf h)).cfg.mib + (snsCfgOf p).mib = pool) :
    if (s.sns (snsOf h)).st ≠ .unconfigured ∧ (s.sns (snsOf h)).st ≠ .configured then
      Completes (.sensorConfig h p) s h 0x30 eState [] s
    else (s.sns (snsOf h)).bufs.toList.any (fun b => b.st == .held) = false → s.snsBound (snsOf h) = false →
      if 1024 < pool then Completes (.sensorConfig h p) s h 0x30 eNoMemory [] s
      else Completes (.sensorConfig h p) s h 0x30 stOk []
        { s with
          mem := { s.mem with selfMib := pool },
          sensors := bankSet s.sensors (snsOf h) { s.sns (snsOf h) with
            st := .configured, cfg := snsCfgOf p, bufs := Vector.replicate 4 .empty, incoming := none,
            clk := (s.sns (snsOf h)).clk && (snsCfgOf p).clkMode == 0 } } := by
  have op : (Cmd.sensorConfig p).opcode ≠ 0x02 := by simp [Cmd.opcode]
  have effect := doSensorConfig_eq (t := s.ticket h (.sensorConfig p) ses) (k := snsOf h) range rfl (s.accepted_sns h (snsOf h))
    ((congrArg (fun m : MemState => m.selfMib - (s.sns (snsOf h)).cfg.mib + (snsCfgOf p).mib) (s.accepted_mem h)).trans room)
  rw [s.accepted_snsBound] at effect
  clear room
  split
  case isTrue busy =>
    rw [if_pos busy] at effect
    exact Accepted.completes_reply ok (i := .sensorConfig h p) rfl op uncounted_state effect
  case isFalse rests =>
    intro free unbound
    rw [if_neg rests, if_neg (by rw [free, unbound]; decide)] at effect
    split
    case isTrue full =>
      rw [if_pos full] at effect
      exact Accepted.completes_reply ok (i := .sensorConfig h p) rfl op (by decide) effect
    case isFalse small =>
      rw [if_neg small] at effect
      have done := sensor_taken ok op (i := .sensorConfig h p) rfl (fun u => (u.updMem fun m => { m with selfMib := pool }).updSensor (snsOf h) fun x =>
        { x with st := .configured, cfg := snsCfgOf p, bufs := Vector.replicate 4 .empty, incoming := none,
                 clk := x.clk && (snsCfgOf p).clkMode == 0 })
        effect rfl rfl fun _ => rfl
      rwa [State.sensorConfigured_eq] at done

theorem sensorArm_completes {s : State} {h : Hdr} {ses : Session} {p : SnsArmP} (ok : Accepted s h (.sensorArm p) ses)
    (own : p.syncMask.getLsbD (snsOf h).val = true) (src : p.trigSrc.toNat ≤ 12) (window : p.trigSrc = 0 ↔ p.windowUs = 0)
    (token : p.token ≠ 0xFFFF → s.token h.port p.token.toNat ≠ none) :
    let k := snsOf h
    if (s.sns k).st ≠ .configured then Completes (.sensorArm h p) s h 0x31 eState [] s
    else Completes (.sensorArm h p) s h 0x31 stOk []
      { s with sensors := bankSet s.sensors k { (s.sns k).takePreEdge p.trigSrc.toNat with
          st := .armed, left := p.count.toNat, done := false, armPort := h.port, endedAt := none, disarmPending := false,
          arm := ⟨if p.token = 0xFFFF then none else some p.token.toNat, p.syncMask.toNat, p.trigSrc.toNat,
            p.windowUs.toNat, p.count.toNat⟩ } } := by
  intro k
  have op : (Cmd.sensorArm p).opcode ≠ 0x02 := by simp [Cmd.opcode]
  have held : (s.accepted h).token h.port p.token.toNat = s.token h.port p.token.toNat := by
    unfold State.token
    rw [s.accepted_jobs]
  have zero : p.trigSrc.toNat = 0 ↔ p.trigSrc = 0 := ⟨fun h => BitVec.eq_of_toNat_eq h, fun h => by rw [h]; rfl⟩
  have inRange : ¬ (¬ p.syncMask.getLsbD k.val ∨ 12 < p.trigSrc.toNat ∨ (p.trigSrc.toNat = 0) ≠ (p.windowUs = 0) ∨
      (p.token ≠ 0xFFFF ∧ ((s.accepted h).token h.port p.token.toNat).isNone)) := by
    rintro (mask | beyond | one | ⟨some, missing⟩)
    · exact mask own
    · omega
    · exact one (propext (zero.trans window))
    · rw [held, Option.isNone_iff_eq_none] at missing
      exact token some missing
  have effect : perform (s.ticket h (.sensorArm p) ses) (.sensorArm p) (s.accepted h) = _ := if_neg inRange
  have state : ((s.accepted h).sns (snsOf (s.ticket h (.sensorArm p) ses).hdr)).st = (s.sns k).st :=
    congrArg SnsPort.st (s.accepted_sns h k)
  rw [state] at effect
  split
  case isTrue other =>
    rw [if_pos other] at effect
    exact Accepted.completes_reply ok (i := .sensorArm h p) rfl op uncounted_state effect
  case isFalse configured =>
    rw [if_neg configured] at effect
    exact sensor_taken ok op (i := .sensorArm h p) rfl (fun u => u.updSensor k fun x => { x.takePreEdge p.trigSrc.toNat with
        st := .armed, left := p.count.toNat, done := false, armPort := h.port, endedAt := none, disarmPending := false,
        arm := ⟨if p.token = 0xFFFF then none else some p.token.toNat, p.syncMask.toNat, p.trigSrc.toNat,
          p.windowUs.toNat, p.count.toNat⟩ })
      effect rfl rfl fun _ => rfl

theorem doSensorDisarm_eq {t : Ticket} {m : Byte} {u : State} (mode : m.toNat ≤ 1) : doSensorDisarm t m u =
    if (u.sns (snsOf t.hdr)).st = .test then u.reply t eState [] else (u.disarm (snsOf t.hdr) (m == 1)).reply t stOk [] :=
  if_neg (Nat.not_lt.2 mode)

theorem State.disarm_afterFrame {u : State} {k : Fin 6} {after : Bool} (receives : (u.sns k).st = .receiving)
    (later : after = true ∨ u.endsNow k = true) : u.disarm k after = u.updSensor k fun x => { x with disarmPending := true } :=
  if_pos ⟨receives, later⟩

theorem State.disarm_atOnce {u : State} {k : Fin 6} {after : Bool} (active : (u.sns k).active = true)
    (now : ¬ ((u.sns k).st = .receiving ∧ (after = true ∨ u.endsNow k = true))) : u.disarm k after =
      (u.portDisarmed k).updSensor k SnsPort.disarmedNow :=
  (if_neg now).trans (if_pos active)

theorem State.disarm_resting {u : State} {k : Fin 6} {after : Bool} (idle : (u.sns k).active = false)
    (rests : (u.sns k).st ≠ .receiving) : u.disarm k after = u :=
  (if_neg fun h => rests h.1).trans (if_neg (by rw [idle]; exact Bool.false_ne_true))

section
variable {s : State} {h : Hdr} {ses : Session} {m : Byte} (ok : Accepted s h (.sensorDisarm m) ses) (mode : m.toNat ≤ 1)
  (serves : (s.sns (snsOf h)).st ≠ .test)
include ok mode serves

/-- A disarm that changes the waiting jobs and its port alone. -/
theorem sensorDisarm_answers (g : State → State) (effect : (s.accepted h).disarm (snsOf h) (m == 1) = g (s.accepted h))
    (sessions : ∀ u : State, (g u).sessions = u.sessions) (now : ∀ u : State, (g u).now = u.now) (blind : ∀ u, (g u).quiet = g u.quiet) :
    Completes (.sensorDisarm h m) s h 0x32 stOk [] (g s) := by
  have st : ((s.accepted h).sns (snsOf (s.ticket h (.sensorDisarm m) ses).hdr)).st ≠ .test :=
    fun test => serves ((congrArg SnsPort.st (s.accepted_sns h (snsOf h))).symm.trans test)
  have whole : perform (s.ticket h (.sensorDisarm m) ses) (.sensorDisarm m) (s.accepted h) =
      (g (s.accepted h)).reply (s.ticket h (.sensorDisarm m) ses) stOk [] := by
    refine (doSensorDisarm_eq mode).trans ((if_neg st).trans ?_)
    exact congrArg (fun u : State => u.reply _ stOk []) effect
  exact sensor_taken ok (by simp [Cmd.opcode]) (i := .sensorDisarm h m) rfl g whole (sessions _) (now _) blind

/-- A disarm at once. -/
theorem sensorDisarm_now (active : (s.sns (snsOf h)).active = true)
    (now : ¬ ((s.sns (snsOf h)).st = .receiving ∧ (m = 1 ∨ s.endsNow (snsOf h) = true))) :
    Completes (.sensorDisarm h m) s h 0x32 stOk [] { s.portDisarmed (snsOf h) with
      sensors := bankSet s.sensors (snsOf h) (s.sns (snsOf h)).disarmedNow } := by
  obtain ⟨J, jobs⟩ := State.portDisarmed_eq (snsOf h)
  have effect : (s.accepted h).disarm (snsOf h) (m == 1) = ((s.accepted h).updJobs J).updSensor (snsOf h) SnsPort.disarmedNow := by
    rw [← jobs]
    refine State.disarm_atOnce ?_ ?_
    · rw [s.accepted_sns]
      exact active
    · rw [s.accepted_sns, s.accepted_endsNow, beq_iff_eq]
      exact now
  have answered := sensorDisarm_answers ok mode serves (fun u => (u.updJobs J).updSensor (snsOf h) SnsPort.disarmedNow)
    effect (fun _ => rfl) (fun _ => rfl) fun _ => rfl
  rw [State.updJobs_updSensor] at answered
  rw [jobs]
  exact answered

end

theorem sensorDisarm_completes {s : State} {h : Hdr} {ses : Session} {m : Byte} (ok : Accepted s h (.sensorDisarm m) ses)
    (mode : m.toNat ≤ 1) :
    let k := snsOf h
    let x := s.sns k
    match x.st with
    | .test => Completes (.sensorDisarm h m) s h 0x32 eState [] s
    | .receiving =>
      if m = 1 ∨ s.endsNow k = true then
        Completes (.sensorDisarm h m) s h 0x32 stOk [] { s with sensors := bankSet s.sensors k { x with disarmPending := true } }
      else ∀ f, x.incoming = some f →
        Completes (.sensorDisarm h m) s h 0x32 stOk []
          { s.portDisarmed k with sensors := bankSet s.sensors k { x with
            st := .configured, bufs := bankSet x.bufs f.buffer .empty, incoming := none, disarmPending := false, done := false } }
    | .armed => x.incoming = none →
        Completes (.sensorDisarm h m) s h 0x32 stOk []
          { s.portDisarmed k with
            sensors := bankSet s.sensors k { x with st := .configured, disarmPending := false, done := false } }
    | _ => Completes (.sensorDisarm h m) s h 0x32 stOk [] s := by
  intro k x
  have op : (Cmd.sensorDisarm m).opcode ≠ 0x02 := by simp [Cmd.opcode]
  have port : (s.accepted h).sns k = x := s.accepted_sns h k
  split
  case h_1 st =>
    have test : ((s.accepted h).sns (snsOf (s.ticket h (.sensorDisarm m) ses).hdr)).st = .test := (congrArg SnsPort.st port).trans st
    exact Accepted.completes_reply ok (i := .sensorDisarm h m) rfl op uncounted_state ((doSensorDisarm_eq mode).trans (if_pos test))
  case h_2 st =>
    have serves : x.st ≠ .test := by rw [st]; decide
    split
    case isTrue later =>
      refine sensorDisarm_answers ok mode serves (fun u => u.updSensor k fun x => { x with disarmPending := true })
        (State.disarm_afterFrame ((congrArg SnsPort.st port).trans st) ?_) (fun _ => rfl) (fun _ => rfl) fun _ => rfl
      rw [beq_iff_eq, s.accepted_endsNow]
      exact later
    case isFalse atOnce =>
      intro f filling
      have done := sensorDisarm_now ok mode serves (by rw [SnsPort.active, st]; rfl) fun h => atOnce h.2
      rwa [SnsPort.disarmedNow_filling filling] at done
  case h_3 st =>
    intro empty
    have done := sensorDisarm_now ok mode (by rw [st]; decide) (by rw [SnsPort.active, st]; rfl)
      fun h => by rw [st] at h; exact absurd h.1 (by decide)
    rwa [SnsPort.disarmedNow_empty empty] at done
  case h_4 test receiving armed =>
    have idle : x.active = false := by
      unfold SnsPort.active
      cases st : x.st <;> simp_all
    exact sensorDisarm_answers ok mode test (fun u => u) (State.disarm_resting (by rw [port]; exact idle) (by rw [port]; exact receiving))
      (fun _ => rfl) (fun _ => rfl) fun _ => rfl

/-- Settles O16. -/
theorem sensorCommandsComplete : Obligations.SensorCommandsComplete := by
  unfold Obligations.SensorCommandsComplete
  exact ⟨fun s h ses p ok range => sensorConfig_completes ok range rfl,
    fun s h ses p ok own src window token => sensorArm_completes ok own src window token,
    fun s h ses m ok mode => sensorDisarm_completes ok mode⟩

end Sys2Proof.Machine
end

section
/-! PROOFS. The packets, clocks, triggers and frames of a depth port (R256 to R260, R263, R265 to R267). -/

namespace Sys2Proof.Machine

theorem State.updSensor_sns (s : State) (k : Fin 6) (f : SnsPort → SnsPort) : (s.updSensor k f).sns k = f (s.sns k) :=
  bankUpd_get_self _ _ _

theorem State.updSensor_const (s : State) (k : Fin 6) (f : SnsPort → SnsPort) : s.updSensor k f = s.updSensor k fun _ => f (s.sns k) :=
  rfl

theorem State.updSensor_congr {s : State} {k : Fin 6} {f g : SnsPort → SnsPort} (same : f (s.sns k) = g (s.sns k)) :
    s.updSensor k f = s.updSensor k g := by
  rw [s.updSensor_const k f, same]
  rfl

theorem State.updSensor_self {s : State} {k : Fin 6} {f : SnsPort → SnsPort} (same : f (s.sns k) = s.sns k) : s.updSensor k f = s := by
  show { s with sensors := bankUpd s.sensors k f } = s
  rw [bankUpd_id _ _ _ same]

theorem State.updSensor_updSensor (s : State) (k : Fin 6) (f g : SnsPort → SnsPort) :
    (s.updSensor k f).updSensor k g = s.updSensor k fun x => g (f x) := by
  show { s with sensors := bankUpd (bankUpd s.sensors k f) k g } = _
  rw [bankUpd_bankUpd]
  rfl

/-! ### A frame begins, grows, is discarded -/

theorem SnsPort.ending_eq_false {x : SnsPort} (stays : x.disarmPending = false) (endless : x.arm.count = 0) : x.ending = false := by
  simp [SnsPort.ending, stays, endless]

theorem SnsPort.spoil_bad {x : SnsPort} {f : Incoming} {cause : Nat} (in_ : x.incoming = some f) (bad : f.bad ≠ 0) : x.spoil cause = x := by
  obtain ⟨⟩ := x
  subst in_
  simp [SnsPort.spoil, bad]

/-- A discarded frame of a port that stays armed. -/
theorem State.discard_eq {s : State} {k : Fin 6} {cause : Nat} {f : Incoming} (in_ : (s.sns k).incoming = some f)
    (stays : (s.sns k).disarmPending = false) (endless : (s.sns k).arm.count = 0) :
    s.discard k cause = s.updSensor k fun x =>
      { ({ x with bufs := bankSet x.bufs f.buffer .empty } : SnsPort).countBad (if f.bad = 0 then cause else f.bad) with
        st := .armed, incoming := none } := by
  have goes : (s.sns k).ending = false := SnsPort.ending_eq_false stays endless
  have whole : s.discard k cause =
      s.updSensor k fun x => ((x.freeFilling).countBad (if f.bad = 0 then cause else f.bad)).settle s.now := by
    simp only [State.discard, in_, goes, Bool.false_eq_true, if_false]
  rw [whole]
  refine State.updSensor_congr ?_
  have free : (s.sns k).freeFilling = { s.sns k with bufs := bankSet (s.sns k).bufs f.buffer .empty } := by
    simp only [SnsPort.freeFilling, in_]
  have count (x : SnsPort) (c : Nat) : (x.countBad c).ending = x.ending := by
    unfold SnsPort.countBad
    repeat' split
    all_goals rfl
  dsimp only
  rw [free, SnsPort.settle, count]
  exact if_neg fun h => Bool.false_ne_true (goes.symm.trans h)

theorem State.discard_none {s : State} {k : Fin 6} {cause : Nat} (idle : (s.sns k).incoming = none) : s.discard k cause = s := by
  simp only [State.discard, idle]

theorem SnsPort.inWindow_iff (x : SnsPort) (now : Nat) : x.inWindow now = true ↔ x.arm.trigSrc = 0 ∨
    ∃ e, x.seen.get (Fin.ofNat 12 (x.arm.trigSrc - 1)) = some (e, false) ∧ e ≤ now ∧ now ≤ e + x.arm.windowUs * usTicks := by
  unfold SnsPort.inWindow
  rw [Bool.or_eq_true, beq_iff_eq]
  refine or_congr_right ?_
  cases edge : x.seen.get (Fin.ofNat 12 (x.arm.trigSrc - 1)) with
  | none => simp
  | some e =>
    obtain ⟨e, used⟩ := e
    cases used <;> simp

/-- An FS that acts on a port that is armed and idle. -/
theorem sensorFs_idle {s : State} {k : Fin 6} (fnum : BitVec 16) (first : s.commandsWait = false) (own : s.packetsWait k = false)
    (edges : s.behind ((s.sns k).mayTrigger k) = false) (armed : (s.sns k).st = .armed) (idle : (s.sns k).incoming = none) :
    exec (.sensorFs k false fnum false) s = .next (s.startFrame k fnum.toNat) := by
  have row : exec (.sensorFs k false fnum false) s = execSensorFs k false fnum false s := rfl
  have active : (s.sns k).active = true := by simp [SnsPort.active, armed]
  have sound : s.updSensor k (fun x => x.corrected false) = s := State.updSensor_self rfl
  rw [row, execSensorFs, if_neg (by simp [first, own, edges]), if_neg (by simp [active, SnsCfg.plane])]
  dsimp only
  rw [if_neg (by decide), sound, State.discard_none idle]

theorem sensorFs_begins (s : State) (k : Fin 6) (fnum : BitVec 16) (b : Fin 4) (rest : List (Fin 4)) (first : s.commandsWait = false)
    (own : s.packetsWait k = false) (edges : s.behind ((s.sns k).mayTrigger k) = false) (armed : (s.sns k).st = .armed)
    (idle : (s.sns k).incoming = none) (room : s.freeBufs k = b :: rest) :
    let x := s.sns k
    let src : Fin 12 := Fin.ofNat 12 (x.arm.trigSrc - 1)
    let opened : Prop :=
      x.arm.trigSrc = 0 ∨ ∃ e, x.seen.get src = some (e, false) ∧ e ≤ s.now ∧ s.now ≤ e + x.arm.windowUs * usTicks
    (opened → exec (.sensorFs k false fnum false) s = .next (s.updSensor k fun _ =>
        { x with st := .receiving, bufs := bankUpd x.bufs b fun y => { y with st := .filling },
                 seen := if x.arm.trigSrc = 0 then x.seen else bankUpd x.seen src fun e => e.map fun y => (y.1, true),
                 incoming := some ⟨b, s.devTime, s.now, fnum.toNat, [], [], none, false, false, false, 0⟩ })) ∧
    (¬ opened → exec (.sensorFs k false fnum false) s = .next (s.updSensor k fun _ => { x with untrig := satInc 65535 x.untrig })) := by
  intro x src opened
  have window : x.inWindow s.now = true ↔ opened := x.inWindow_iff s.now
  rw [sensorFs_idle fnum first own edges armed idle]
  unfold State.startFrame
  dsimp only
  rw [if_neg (not_not.2 armed)]
  constructor
  · intro o
    rw [if_neg (not_not.2 (window.2 o)), room]
    refine congrArg Host.Outcome.next (State.updSensor_congr ?_)
    have edge : x.useEdge = { x with
        seen := if x.arm.trigSrc = 0 then x.seen else bankUpd x.seen src fun e => e.map fun y => (y.1, true) } := by
      rw [SnsPort.useEdge]
      split <;> rfl
    exact congrArg (fun z : SnsPort => { z with
      st := .receiving, bufs := bankUpd x.bufs b fun y => { y with st := .filling },
      incoming := some ⟨b, s.devTime, s.now, fnum.toNat, [], [], none, false, false, false, 0⟩ }) edge
  · intro o
    rw [if_pos (mt window.1 o)]
    rfl

theorem sensorFs_noBuf (s : State) (k : Fin 6) (fnum : BitVec 16) (first : s.commandsWait = false)
    (own : s.packetsWait k = false) (edges : s.behind ((s.sns k).mayTrigger k) = false) (armed : (s.sns k).st = .armed)
    (idle : (s.sns k).incoming = none) (direct : (s.sns k).arm.trigSrc = 0) (full : s.freeBufs k = []) :
    exec (.sensorFs k false fnum false) s = .next (s.updSensor k fun x => { x with noBuf := satInc 65535 x.noBuf }) := by
  rw [sensorFs_idle fnum first own edges armed idle]
  unfold State.startFrame
  dsimp only
  rw [if_neg (not_not.2 armed), if_neg (not_not.2 (((s.sns k).inWindow_iff s.now).2 (.inl direct))), full]

/-! ### SENSOR_LONG_PACKET -/

/-- What a long packet that acts does to its port. -/
def SnsPort.packet (x : SnsPort) (vc dt : Byte) (ecc : Fin 4) (crcOk : Bool) (bs : Bytes) : SnsPort :=
  let plane := x.cfg.conf && vc.toNat == x.cfg.vcDepth + 1
  if ¬ x.active then x
  else if ecc = 3 then x.losePacket
  else if vc.toNat ≠ x.cfg.vcDepth ∧ ¬ plane then x
  else if ecc = 2 then x.spoil badUncorr
  else
    let y := x.corrected (ecc == 1)
    if dt.toNat ≠ x.cfg.dt then { y with unknownDt := satInc 65535 y.unknownDt } else y.line plane crcOk bs

theorem sensorLongPacket_acts {s : State} {k : Fin 6} (vc dt : Byte) (ecc : Fin 4) (crcOk : Bool) (bs : Bytes) (own : s.packetsWait k = false) :
    exec (.sensorLongPacket k vc dt ecc crcOk bs) s = .next (s.updSensor k fun x => x.packet vc dt ecc crcOk bs) := by
  have row : exec (.sensorLongPacket k vc dt ecc crcOk bs) s = execSensorLongPacket k vc dt ecc crcOk bs s := rfl
  rw [row, execSensorLongPacket, if_neg (by rw [own]; decide)]
  rfl

theorem sensorLongPacket_other (s : State) (k : Fin 6) (vc dt : Byte) (ecc : Fin 4) (crc : Bool) (bs : Bytes) (own : s.packetsWait k = false)
    (sync : ecc ≠ 3) (other : vc.toNat ≠ (s.sns k).cfg.vcDepth) (plane : (s.sns k).cfg.conf = false ∨ vc.toNat ≠ (s.sns k).cfg.vcDepth + 1) :
    exec (.sensorLongPacket k vc dt ecc crc bs) s = .next s := by
  rw [sensorLongPacket_acts vc dt ecc crc bs own]
  refine congrArg Host.Outcome.next (State.updSensor_self ?_)
  have none_ : ((s.sns k).cfg.conf && vc.toNat == (s.sns k).cfg.vcDepth + 1) = false := by
    rw [Bool.and_eq_false_iff, beq_eq_false_iff_ne]
    exact plane
  unfold SnsPort.packet
  dsimp only
  rw [none_, if_neg sync, if_pos (show vc.toNat ≠ (s.sns k).cfg.vcDepth ∧ ¬ (false = true) from ⟨other, by decide⟩)]
  exact ite_self _

section
variable {x : SnsPort} {f : Incoming} {vc dt : Byte} {bs : Bytes} (receives : x.st = .receiving) (in_ : x.incoming = some f)
  (sound : f.bad = 0) (depth : vc.toNat = x.cfg.vcDepth)
include receives in_ sound depth

omit in_ sound in
/-- A packet of the depth channel with a sound header is a line. -/
theorem SnsPort.packet_line (type : dt.toNat = x.cfg.dt) (crcOk : Bool) : x.packet vc dt 0 crcOk bs = x.line false crcOk bs := by
  have active : x.active = true := by simp [SnsPort.active, receives]
  have plane : (x.cfg.conf && vc.toNat == x.cfg.vcDepth + 1) = false := by
    rw [Bool.and_eq_false_iff, beq_eq_false_iff_ne, depth]
    exact .inr (by omega)
  unfold SnsPort.packet
  dsimp only
  rw [plane, if_neg (by rw [active]; decide), if_neg (by decide), if_neg (fun h => h.1 depth), if_neg (by decide), if_neg (not_not.2 type)]
  rfl

theorem SnsPort.packet_sound (type : dt.toNat = x.cfg.dt) (width : bs.length = 2 * x.cfg.width) (goes : f.depthFe = false)
    (more : f.lines.length < x.cfg.height) : x.packet vc dt 0 true bs =
      { x with incoming := some { f with lines := f.lines ++ [pixelLine x.cfg bs] } } := by
  rw [SnsPort.packet_line receives depth type, SnsPort.line, in_]
  dsimp only
  rw [if_neg (not_not.2 width), if_neg (by decide), if_neg (not_not.2 sound), if_neg (by decide),
    if_neg (by rintro (ended | full); exacts [absurd (goes.symm.trans ended) (by decide), by omega])]

theorem SnsPort.packet_crc (type : dt.toNat = x.cfg.dt) (width : bs.length = 2 * x.cfg.width) :
    x.packet vc dt 0 false bs = { x with incoming := some { f with bad := 2 } } := by
  rw [SnsPort.packet_line receives depth type, SnsPort.line, in_]
  dsimp only
  rw [if_neg (not_not.2 width), if_pos (by decide), if_neg (by decide), SnsPort.spoil, in_]
  exact congrArg (fun g => { x with incoming := some g }) (if_pos sound)

omit sound depth in
theorem SnsPort.packet_sync (crcOk : Bool) : x.packet vc dt 3 crcOk bs =
    { x with sot := satInc 65535 x.sot, incoming := some { f with lost := true } } := by
  have active : x.active = true := by simp [SnsPort.active, receives]
  unfold SnsPort.packet
  rw [if_neg (by rw [active]; decide), if_pos rfl, SnsPort.losePacket, in_]
  rfl

end

theorem sensorLongPacket_depth (s : State) (k : Fin 6) (vc dt : Byte) (bs : Bytes) (f : Incoming) (own : s.packetsWait k = false)
    (receives : (s.sns k).st = .receiving) (in_ : (s.sns k).incoming = some f) (sound : f.bad = 0)
    (depth : vc.toNat = (s.sns k).cfg.vcDepth) (type : dt.toNat = (s.sns k).cfg.dt) (width : bs.length = 2 * (s.sns k).cfg.width)
    (goes : f.depthFe = false) (more : f.lines.length < (s.sns k).cfg.height) :
    exec (.sensorLongPacket k vc dt 0 true bs) s = .next (s.updSensor k fun x =>
      { x with incoming := some { f with lines := f.lines ++ [pixelLine x.cfg bs] } }) ∧
    exec (.sensorLongPacket k vc dt 0 false bs) s = .next (s.updSensor k fun x =>
      { x with incoming := some { f with bad := 2 } }) ∧
    exec (.sensorLongPacket k vc dt 3 true bs) s = .next (s.updSensor k fun x =>
      { x with sot := satInc 65535 x.sot, incoming := some { f with lost := true } }) := by
  simp only [sensorLongPacket_acts _ _ _ _ _ own]
  exact ⟨congrArg _ (State.updSensor_congr (SnsPort.packet_sound receives in_ sound depth type width goes more)),
    congrArg _ (State.updSensor_congr (SnsPort.packet_crc receives in_ sound depth type width)),
    congrArg _ (State.updSensor_congr (SnsPort.packet_sync receives in_ true))⟩

/-! ### The frame's time, the clock, the trigger edges -/

theorem sensorFrameTimeout_discards (s : State) (k : Fin 6) (f : Incoming) (in_ : (s.sns k).incoming = some f) (sound : f.bad = 0)
    (late : f.fsTick + (s.sns k).cfg.timeoutMs * msTicks ≤ s.now) (stays : (s.sns k).disarmPending = false)
    (endless : (s.sns k).arm.count = 0) (depth : s.feWaits k false = false) (conf : s.feWaits k true = false) :
    exec (.sensorFrameTimeout k) s = .next (s.updSensor k fun x =>
      { x with st := .armed, incoming := none, trunc := satInc 65535 x.trunc, bufs := bankSet x.bufs f.buffer .empty }) := by
  have row : exec (.sensorFrameTimeout k) s = execSensorFrameTimeout k s := rfl
  rw [row, execSensorFrameTimeout, in_]
  dsimp only
  rw [if_neg (by rw [depth, conf]; decide), if_pos late, State.discard_eq in_ stays endless, if_pos sound]
  rfl

theorem sensorClkLost_idle (s : State) (k : Fin 6) (idle : (s.sns k).incoming = none) (clk : (s.sns k).clk = true) :
    exec (.sensorClkLost k) s = .next (s.updSensor k fun x => { x with clk := false, clkLost := satInc 65535 x.clkLost }) := by
  have row : exec (.sensorClkLost k) s = execSensorClkLost k s := rfl
  rw [row, execSensorClkLost, if_pos clk, State.discard_none idle]

theorem sensorClkReturn_live (s : State) (k : Fin 6) (live : (s.sns k).st ≠ .unconfigured) (mode : (s.sns k).cfg.clkMode = 0) :
    exec (.sensorClkReturn k) s = .next (s.updSensor k fun x => { x with clk := true }) :=
  congrArg Host.Outcome.next (State.updSensor_congr (if_pos ⟨live, mode⟩))

theorem sensorTriggerEdge_acts (s : State) (k : Fin 6) :
    let src : Fin 12 := Fin.ofNat 12 ((s.sns k).arm.trigSrc - 1)
    ((s.sns k).st = .armed ∨ (s.sns k).st = .receiving → (s.sns k).arm.trigSrc ≠ 0 →
      ((s.sns k).seen.get src).map (·.1) ≠ some s.now →
      exec (.sensorTriggerEdge k) s = .next (s.updSensor k fun x => { x with seen := bankSet x.seen src (some (s.now, false)) })) ∧
    ((s.sns k).st ≠ .armed → (s.sns k).st ≠ .receiving →
      exec (.sensorTriggerEdge k) s = .next (s.updSensor k fun x => { x with preEdge := some s.now })) := by
  have row : exec (.sensorTriggerEdge k) s = .next (s.trigEdge k) := rfl
  refine ⟨fun active armed fresh => ?_, fun armed receives => ?_⟩
  · rw [row]
    refine congrArg Host.Outcome.next (State.updSensor_congr ((if_pos active).trans ?_))
    rw [SnsPort.edgeOf, if_neg armed, bankUpd, if_neg fresh]
    rfl
  · exact congrArg Host.Outcome.next (State.updSensor_congr (if_neg (by tauto)))

/-! ### What serving a token and delivering a frame leave of the ports -/

theorem State.tryReady_sensors (s : State) (t : Fin 64) : (s.tryReady t).sensors = s.sensors := by
  unfold State.tryReady
  split
  · rfl
  · dsimp only
    split <;> rfl

theorem State.served_sensors (s : State) (w : Waiter) (n : Nat) : (s.served w n).sensors = s.sensors := by
  cases w with
  | host t m d => exact State.reply_sensors _ _ _ _
  | job t => exact State.tryReady_sensors _ t

theorem State.signalToken_sensors (s : State) (id : Nat) : (s.signalToken id).1.sensors = s.sensors := by
  unfold State.signalToken
  split
  · rfl
  · split
    · exact State.serveToken_induct (P := fun t => t.sensors = s.sensors)
        (fun t _ _ _ same _ _ => (State.served_sensors _ _ _).trans same) _ _ rfl
    · rfl

theorem State.signalToken_jobsOnly (s : State) (id : Nat) : JobsOnly s (s.signalToken id).1 := by
  unfold State.signalToken
  split
  · exact .refl s
  · split
    · exact (s.updToken_jobsOnly id _).trans (State.settleToken_jobsOnly _ id)
    · exact .refl s

theorem State.updSensor_jobsOnly (s : State) (k : Fin 6) (f : SnsPort → SnsPort) : JobsOnly s (s.updSensor k f) :=
  ⟨rfl, rfl, rfl, rfl, rfl, rfl, rfl, rfl, fun _ => ⟨rfl, rfl⟩⟩

theorem State.portDisarmed_jobsOnly (s : State) (k : Fin 6) : JobsOnly s (s.portDisarmed k) :=
  foldl_jobsOnly (fun u t => u.updJob_jobsOnly t _) _ s

theorem State.portDisarmed_sensors (s : State) (k : Fin 6) : (s.portDisarmed k).sensors = s.sensors := by
  obtain ⟨J, eq⟩ := State.portDisarmed_eq k
  rw [eq]
  rfl

/-- The done bit and the saturations of the token alone may differ. -/
def SnsPort.SameFrame (x y : SnsPort) : Prop := ∃ d n, y = { x with done := d, tokSat := n }

theorem SnsPort.SameFrame.refl (x : SnsPort) : x.SameFrame x := ⟨x.done, x.tokSat, rfl⟩

theorem SnsPort.SameFrame.trans {x y z : SnsPort} (a : x.SameFrame y) (b : y.SameFrame z) : x.SameFrame z := by
  obtain ⟨d, n, rfl⟩ := a
  obtain ⟨d', n', rfl⟩ := b
  exact ⟨d', n', rfl⟩

theorem State.updSensor_sameFrame {s : State} {k j : Fin 6} {f : SnsPort → SnsPort} (keeps : ∀ x : SnsPort, x.SameFrame (f x)) :
    (s.sns k).SameFrame ((s.updSensor j f).sns k) := by
  show (s.sensors.get k).SameFrame ((bankUpd s.sensors j f).get k)
  rw [bankUpd_get]
  split
  · exact keeps _
  · exact .refl _

/-- The group's bookkeeping keeps the frames of the ports, and all but the jobs, the tokens and the owners. -/
theorem State.groupDone_keeps (s : State) (k j : Fin 6) : JobsOnly s (s.groupDone k) ∧ (s.sns j).SameFrame ((s.groupDone k).sns j) := by
  have mark (u : State) (i : Fin 6) (d : Bool) : JobsOnly u (u.updSensor i fun x => { x with done := d }) ∧
      (u.sns j).SameFrame ((u.updSensor i fun x => { x with done := d }).sns j) :=
    ⟨u.updSensor_jobsOnly i _, State.updSensor_sameFrame fun x => ⟨d, x.tokSat, rfl⟩⟩
  have chain {a b c : State} (p : JobsOnly a b ∧ (a.sns j).SameFrame (b.sns j)) (q : JobsOnly b c ∧ (b.sns j).SameFrame (c.sns j)) :
      JobsOnly a c ∧ (a.sns j).SameFrame (c.sns j) := ⟨p.1.trans q.1, p.2.trans q.2⟩
  have signal (u : State) (id : Nat) : JobsOnly u (u.signalToken id).1 ∧ (u.sns j).SameFrame ((u.signalToken id).1.sns j) :=
    ⟨u.signalToken_jobsOnly id, by rw [State.sns, State.sns, u.signalToken_sensors id]; exact .refl _⟩
  unfold State.groupDone
  extract_lets x s1 mask s2
  split
  · exact ⟨.refl s, .refl _⟩
  · next id _ =>
    extract_lets r
    have clear : JobsOnly s s2 ∧ (s.sns j).SameFrame (s2.sns j) :=
      chain (mark s k true) (List.foldlRecOn mask _ (motive := fun u => JobsOnly s1 u ∧ (s1.sns j).SameFrame (u.sns j))
        ⟨.refl s1, .refl _⟩ fun u ih i _ => chain ih (mark u i false))
    have served : JobsOnly s r.1 ∧ (s.sns j).SameFrame (r.1.sns j) := chain clear (signal s2 id)
    split
    · split
      · exact chain served ⟨r.1.updSensor_jobsOnly k _, State.updSensor_sameFrame fun y => ⟨y.done, satInc 65535 y.tokSat, rfl⟩⟩
      · exact served
    · exact mark s k true

/-! ### Delivery (R257) -/

/-- A job takes a frame of a port. -/
def Job.takes (j : Job) (k : Fin 6) (fsTime : Nat) : Bool :=
  j.st == .waiting && j.pastToken && j.ports.contains k && !j.disarmed.contains k && !(j.delivered.any fun d => d.port == k)
    && decide (j.waitFrom ≤ fsTime)

/-- The jobs that take a frame. -/
def State.takers (s : State) (k : Fin 6) (fsTime : Nat) : List (Fin 64) :=
  ((bankList s.jobs.tags).filter fun x => match x.2 with | some j => j.takes k fsTime | none => false).map (·.1)

theorem State.mem_takers {s : State} {k : Fin 6} {fsTime : Nat} {i : Fin 64} :
    i ∈ s.takers k fsTime ↔ ∃ j, s.job i = some j ∧ j.takes k fsTime = true := by
  simp only [State.takers, bankList, List.mem_map, List.mem_filter, List.mem_finRange, true_and, Prod.exists]
  constructor
  · rintro ⟨a, b, ⟨⟨c, eq⟩, takes⟩, rfl⟩
    obtain ⟨rfl, rfl⟩ := Prod.mk.inj eq
    cases found : s.jobs.tags.get c with
    | none => rw [found] at takes; exact absurd takes Bool.false_ne_true
    | some j => rw [found] at takes; exact ⟨j, found, takes⟩
  · rintro ⟨j, found, takes⟩
    exact ⟨i, some j, ⟨⟨i, by rw [show s.jobs.tags.get i = some j from found]⟩, takes⟩, rfl⟩

theorem State.takers_nodup (s : State) (k : Fin 6) (fsTime : Nat) : (s.takers k fsTime).Nodup := by
  have fst : (bankList s.jobs.tags).map (·.1) = List.finRange 64 := by simp [bankList, Function.comp_def]
  exact ((List.filter_sublist).map _).nodup (fst ▸ List.nodup_finRange 64)

/-- One job takes a frame. -/
def State.deliverOne (port : Fin 6) (b : Fin 4) (fsTime fsTick : Nat) (s : State) (t : Fin 64) : State :=
  (s.updJob t fun j => { j with delivered := j.delivered ++ [⟨port, b, fsTime, fsTick⟩] }).tryReady t

theorem State.deliver_eq (s : State) (k : Fin 6) (b : Fin 4) (fsTime fsTick : Nat) :
    s.deliver k b fsTime fsTick = ((s.takers k fsTime).foldl (State.deliverOne k b fsTime fsTick) s, s.takers k fsTime) := rfl

theorem State.tryReady_delivered {s : State} {t : Fin 64} {j : Job} (here : s.job t = some j) :
    ∃ j', (s.tryReady t).job t = some j' ∧ j'.delivered = j.delivered := by
  unfold State.tryReady
  rw [here]
  dsimp only
  split
  · next go =>
    have self (u : State) (g : Job → Job) : (u.updJob t g).job t = (u.job t).map g := bankUpd_get_self _ _ _
    refine ⟨_, (self _ _).trans (congrArg _ ((self s _).trans (congrArg _ here))), rfl⟩
  · exact ⟨j, here, rfl⟩

theorem State.deliverOne_ne {s : State} {k : Fin 6} {b : Fin 4} {fsTime fsTick : Nat} {t i : Fin 64} (other : t ≠ i) :
    (s.deliverOne k b fsTime fsTick t).job i = s.job i :=
  (State.tryReady_job_ne other).trans (State.updJob_job_ne other _)

theorem State.deliverOne_self {s : State} {k : Fin 6} {b : Fin 4} {fsTime fsTick : Nat} {t : Fin 64} {j : Job} (here : s.job t = some j) :
    ∃ j', (s.deliverOne k b fsTime fsTick t).job t = some j' ∧ j'.delivered = j.delivered ++ [⟨k, b, fsTime, fsTick⟩] := by
  have self : (s.updJob t fun j => { j with delivered := j.delivered ++ [⟨k, b, fsTime, fsTick⟩] }).job t = _ := bankUpd_get_self _ _ _
  rw [show s.jobs.tags.get t = some j from here] at self
  exact State.tryReady_delivered self

theorem foldl_deliverOne_notMem {k : Fin 6} {b : Fin 4} {fsTime fsTick : Nat} {i : Fin 64} {l : List (Fin 64)} (s : State) (out : i ∉ l) :
    (l.foldl (State.deliverOne k b fsTime fsTick) s).job i = s.job i :=
  List.foldlRecOn l _ (motive := fun t => t.job i = s.job i) rfl
    fun t same a mem => (State.deliverOne_ne (s := t) (t := a) (by rintro rfl; exact out mem)).trans same

theorem foldl_deliverOne_mem {k : Fin 6} {b : Fin 4} {fsTime fsTick : Nat} {i : Fin 64} {j : Job} {l : List (Fin 64)} (once : l.Nodup)
    (s : State) (in_ : i ∈ l) (here : s.job i = some j) : ∃ j', (l.foldl (State.deliverOne k b fsTime fsTick) s).job i = some j' ∧
      j'.delivered = j.delivered ++ [⟨k, b, fsTime, fsTick⟩] := by
  induction l generalizing s with
  | nil => exact absurd in_ List.not_mem_nil
  | cons t l ih =>
    obtain ⟨out, once⟩ := List.nodup_cons.1 once
    obtain rfl | tail := List.mem_cons.1 in_
    · rw [List.foldl_cons, foldl_deliverOne_notMem _ out]
      exact State.deliverOne_self here
    · exact ih once _ tail ((State.deliverOne_ne (by rintro rfl; exact out tail)).trans here)

/-- What a delivery keeps: the ports, the tokens and the stores. -/
theorem foldl_deliverOne_keeps {k : Fin 6} {b : Fin 4} {fsTime fsTick : Nat} (l : List (Fin 64)) (s : State) :
    JobsOnly s (l.foldl (State.deliverOne k b fsTime fsTick) s) ∧
      (l.foldl (State.deliverOne k b fsTime fsTick) s).sensors = s.sensors ∧
      (l.foldl (State.deliverOne k b fsTime fsTick) s).jobs.tokens = s.jobs.tokens :=
  List.foldlRecOn l _ (motive := fun t => JobsOnly s t ∧ t.sensors = s.sensors ∧ t.jobs.tokens = s.jobs.tokens)
    ⟨.refl s, rfl, rfl⟩ fun t ⟨only, sensors, tokens⟩ a _ =>
      ⟨only.trans ((t.updJob_jobsOnly a _).trans (State.tryReady_jobsOnly _ a)), (State.tryReady_sensors _ a).trans sensors,
        (State.tryReady_tokens _ a).trans tokens⟩

theorem State.portDisarmed_job {s : State} {k : Fin 6} {i : Fin 64} {j : Job} (here : s.job i = some j) :
    ∃ j', (s.portDisarmed k).job i = some j' ∧ j'.delivered = j.delivered := by
  refine forAll_keeps (P := fun t => ∃ j', t.job i = some j' ∧ j'.delivered = j.delivered) ?_ s ⟨j, here, rfl⟩
  rintro t a ⟨j', found, same⟩
  by_cases self : a = i
  · subst self
    refine ⟨_, (bankUpd_get_self _ _ _).trans (congrArg (Option.map _) found), ?_⟩
    dsimp only
    split <;> exact same
  · exact ⟨j', (State.updJob_job_ne self _).trans found, same⟩

theorem State.updJob_self {s : State} {i : Fin 64} {f : Job → Job} (same : ∀ j, s.job i = some j → f j = j) : s.updJob i f = s := by
  have tags : bankUpd s.jobs.tags i (·.map f) = s.jobs.tags := by
    refine bankUpd_id _ _ _ ?_
    cases found : s.jobs.tags.get i with
    | none => rfl
    | some j => exact congrArg some (same j found)
  rw [State.updJob, State.updJobs]
  exact congrArg (fun v => { s with jobs := { s.jobs with tags := v } }) tags

theorem State.portDisarmed_none {s : State} {k : Fin 6} (none_ : ∀ i j, s.job i = some j → j.st ≠ .waiting) : s.portDisarmed k = s := by
  unfold State.portDisarmed
  refine forAll_keeps (P := fun t => t = s) ?_ s rfl
  intro t a same
  rw [same]
  exact State.updJob_self fun j found => if_neg fun h => none_ a j found h.1

theorem State.portDisarmed_tokens (s : State) (k : Fin 6) : (s.portDisarmed k).jobs.tokens = s.jobs.tokens := by
  unfold State.portDisarmed
  refine forAll_keeps (P := fun t => t.jobs.tokens = s.jobs.tokens) ?_ s rfl
  exact fun _ _ same => same

end Sys2Proof.Machine
end

section
/-! PROOFS. The end of a depth frame (R257 to R259, R263). -/

namespace Sys2Proof.Machine

theorem State.sns_congr {s t : State} {k : Fin 6} (same : t.sensors = s.sensors) : t.sns k = s.sns k :=
  congrArg (fun v : Vector SnsPort 6 => v.get k) same

/-! ### A device signal to a token nobody waits for -/

theorem State.find?_updToken {s : State} {id : Nat} {x : Token} {f : Token → Token} (keeps : ∀ t, (f t).id = t.id)
    (here : s.jobs.tokens.find? (fun y => y.id == id) = some x) :
    (s.updToken id f).jobs.tokens.find? (fun y => y.id == id) = some (f x) := by
  have own : x.id = id := by simpa using List.find?_some here
  have same : ((fun y : Token => y.id == id) ∘ fun t => if t.id = id then f t else t) = fun y => y.id == id := by
    funext t
    rw [Function.comp_apply]
    split
    · rw [keeps]
    · rfl
  show (s.jobs.tokens.map fun t => if t.id = id then f t else t).find? (fun y => y.id == id) = some (f x)
  rw [List.find?_map, same, here, Option.map_some, if_pos own]

theorem State.settleToken_idle {s : State} {id : Nat} {x : Token} (here : s.jobs.tokens.find? (fun y => y.id == id) = some x)
    (none_ : x.waiters = []) : s.settleToken id = s := by
  simp only [State.settleToken, State.serveToken, here, none_]

theorem State.signalToken_idle {s : State} {id : Nat} {x : Token} (here : s.jobs.tokens.find? (fun y => y.id == id) = some x)
    (none_ : x.waiters = []) (room : x.count < tokenMax) : s.signalToken id = (s.updToken id fun t => { t with count := t.count + 1 }, false) := by
  have next := State.find?_updToken (s := s) (f := fun t => { t with count := t.count + 1 }) (fun _ => rfl) here
  rw [State.signalToken, here]
  dsimp only
  rw [if_pos room, State.settleToken_idle next none_]

/-! ### The token of a port alone in its group -/

theorem State.groupDone_none {s : State} {k : Fin 6} (none_ : (s.sns k).arm.token = none) : s.groupDone k = s := by
  simp only [State.groupDone, none_]

theorem State.groupDone_alone {s : State} {k : Fin 6} {id : Nat} {x : Token} (armed : (s.sns k).arm.token = some id)
    (alone : (s.sns k).arm.syncMask = 2 ^ k.val) (active : (s.sns k).active = true)
    (here : s.jobs.tokens.find? (fun y => y.id == id) = some x) (none_ : x.waiters = []) (room : x.count < tokenMax) :
    (s.groupDone k).tokenCount id = x.count + 1 := by
  have mask : ((List.finRange 6).filter fun j => (s.sns k).arm.syncMask.testBit j.val) = [k] := by
    rw [alone]
    exact (by decide : ∀ k : Fin 6, ((List.finRange 6).filter fun j => (2 ^ k.val).testBit j.val) = [k]) k
  have own : (s.updSensor k fun x => { x with done := true }).sns k = { s.sns k with done := true } := State.updSensor_sns _ _ _
  have in_ : (s.updSensor k fun x => { x with done := true }).inGroup (s.sns k).arm (s.sns k).armPort k = true := by
    unfold State.inGroup
    rw [own]
    simp [SnsPort.active] at active ⊢
    exact .inl active
  have whole : ([k].all fun j => (s.updSensor k fun x => { x with done := true }).inGroup (s.sns k).arm (s.sns k).armPort j &&
      ((s.updSensor k fun x => { x with done := true }).sns j).done) = true := by
    rw [List.all_cons, in_, own]
    rfl
  unfold State.groupDone
  dsimp only
  rw [armed]
  dsimp only
  rw [mask, if_pos whole, List.foldl_cons, List.foldl_nil, State.signalToken_idle (x := x)
    (s := (s.updSensor k fun x => { x with done := true }).updSensor k fun y => { y with done := false }) here none_ room]
  dsimp only
  rw [if_neg (by decide), State.tokenCount]
  have next := State.find?_updToken (s := (s.updSensor k fun x => { x with done := true }).updSensor k fun y => { y with done := false })
    (f := fun t => { t with count := t.count + 1 }) (fun _ => rfl) here
  exact congrArg (fun t : Option Token => (t.map (·.count)).getD 0) next

/-! ### A complete frame -/

/-- What a complete frame shows of its port, before the jobs take it. -/
def SnsPort.shows (x : SnsPort) (f : Incoming) : SnsPort :=
  { x with bufs := bankSet x.bufs f.buffer ⟨.held, f.lines, f.conf, f.fsTime, f.fnum, []⟩,
           complete := satInc 0xFFFFFFFF x.complete, lastFs := f.fsTime, lastFnum := f.fnum, left := x.left - 1 }

/-- The state before a complete frame is delivered. -/
def State.signalled (s : State) (k : Fin 6) (f : Incoming) : State := (s.updSensor k (·.shows f)).groupDone k

/-- The state after a complete frame is delivered. -/
def State.delivered (s : State) (k : Fin 6) (f : Incoming) : State :=
  (((s.signalled k f).takers k f.fsTime)).foldl (State.deliverOne k f.buffer f.fsTime f.fsTick) (s.signalled k f)

/-- The end of a port's arming in the jobs that wait for it. -/
def State.endsArming (s : State) (k : Fin 6) : State := if (s.sns k).ending then s.portDisarmed k else s

theorem State.frameDone_eq (s : State) (k : Fin 6) (f : Incoming) : s.frameDone k f =
    ((s.delivered k f).endsArming k).updSensor k fun x =>
      { x with bufs := bankUpd x.bufs f.buffer fun b =>
          if ((s.signalled k f).takers k f.fsTime).isEmpty then .empty
          else { b with jobs := (s.signalled k f).takers k f.fsTime } }.settle s.now := rfl

theorem State.endsArming_keeps (s : State) (k : Fin 6) : JobsOnly s (s.endsArming k) ∧ (s.endsArming k).sensors = s.sensors ∧
    (s.endsArming k).jobs.tokens = s.jobs.tokens := by
  unfold State.endsArming
  split
  · exact ⟨s.portDisarmed_jobsOnly k, s.portDisarmed_sensors k, s.portDisarmed_tokens k⟩
  · exact ⟨.refl s, rfl, rfl⟩

theorem State.endsArming_job {s : State} {k : Fin 6} {i : Fin 64} {j : Job} (here : s.job i = some j) :
    ∃ j', (s.endsArming k).job i = some j' ∧ j'.delivered = j.delivered := by
  unfold State.endsArming
  split
  · exact State.portDisarmed_job here
  · exact ⟨j, here, rfl⟩

theorem SnsPort.settle_eq (x : SnsPort) (now : Nat) : ∃ d e, x.settle now =
    { x with st := if x.ending then .configured else .armed, incoming := none, disarmPending := d, endedAt := e } := by
  unfold SnsPort.settle
  split
  · exact ⟨_, _, rfl⟩
  · exact ⟨_, _, rfl⟩

/-- The port after its complete frame. -/
theorem State.frameDone_port (s : State) (k : Fin 6) (f : Incoming) :
    let t := s.frameDone k f
    (t.sns k).complete = satInc 0xFFFFFFFF (s.sns k).complete ∧ (t.sns k).lastFs = f.fsTime ∧ (t.sns k).lastFnum = f.fnum ∧
      (t.sns k).incoming = none ∧
      (t.sns k).st = (if (s.sns k).disarmPending = true ∨ ((s.sns k).arm.count ≠ 0 ∧ (s.sns k).left ≤ 1) then .configured else .armed) ∧
      (t.sns k).left = (s.sns k).left - 1 ∧
      (t.sns k).bufs.get f.buffer = (if ((s.signalled k f).takers k f.fsTime).isEmpty then .empty
        else ⟨.held, f.lines, f.conf, f.fsTime, f.fnum, (s.signalled k f).takers k f.fsTime⟩) := by
  intro t
  have same : ((s.sns k).shows f).SameFrame (((s.delivered k f).endsArming k).sns k) := by
    have kept : ((s.delivered k f).endsArming k).sensors = (s.signalled k f).sensors :=
      (State.endsArming_keeps _ k).2.1.trans (foldl_deliverOne_keeps _ _).2.1
    have group := ((s.updSensor k (·.shows f)).groupDone_keeps k k).2
    rw [State.updSensor_sns] at group
    rw [State.sns_congr kept]
    exact group
  obtain ⟨d, n, eq⟩ := same
  have port : t.sns k = _ := (congrArg (fun u : State => u.sns k) (s.frameDone_eq k f)).trans (State.updSensor_sns _ _ _)
  rw [eq] at port
  generalize (s.signalled k f).takers k f.fsTime = jobs at port ⊢
  generalize framed : SnsPort.settle _ s.now = y at port
  rw [port]
  obtain ⟨e, p, out⟩ := SnsPort.settle_eq _ s.now
  rw [← framed, out]
  refine ⟨rfl, rfl, rfl, rfl, ?_, rfl, ?_⟩
  · have ends : ((s.sns k).disarmPending || ((s.sns k).arm.count != 0 && (s.sns k).left - 1 == 0)) = true ↔
        (s.sns k).disarmPending = true ∨ ((s.sns k).arm.count ≠ 0 ∧ (s.sns k).left ≤ 1) := by
      simp only [Bool.or_eq_true, Bool.and_eq_true, bne_iff_ne, beq_iff_eq]
      exact or_congr_right (and_congr_right fun _ => by omega)
    exact if_congr ends rfl rfl
  · refine (bankUpd_get_self _ _ _).trans ?_
    split
    · rfl
    · exact congrArg (fun b : FrameBuf => { b with jobs := jobs }) (bankSet_get_self _ _ _)

theorem State.frameDone_jobsOnly (s : State) (k : Fin 6) (f : Incoming) : JobsOnly s (s.frameDone k f) := by
  rw [State.frameDone_eq]
  exact ((((s.updSensor_jobsOnly k _).trans (State.groupDone_keeps _ k k).1).trans (foldl_deliverOne_keeps _ _).1).trans
    (State.endsArming_keeps _ k).1).trans (State.updSensor_jobsOnly _ k _)

/-- The tokens are those the group's bookkeeping leaves. -/
theorem State.frameDone_tokens (s : State) (k : Fin 6) (f : Incoming) : (s.frameDone k f).jobs.tokens = (s.signalled k f).jobs.tokens := by
  rw [State.frameDone_eq]
  exact (State.endsArming_keeps _ k).2.2.trans (foldl_deliverOne_keeps _ _).2.2

theorem State.signalled_none {s : State} {k : Fin 6} {f : Incoming} (none_ : (s.sns k).arm.token = none) :
    s.signalled k f = s.updSensor k (·.shows f) :=
  State.groupDone_none (by rw [State.updSensor_sns]; exact none_)

/-- A job that waits for the frame takes it. -/
theorem State.frameDone_takes {s : State} {k : Fin 6} {f : Incoming} (none_ : (s.sns k).arm.token = none) {i : Fin 64} {j : Job}
    (here : s.job i = some j) (takes : j.takes k f.fsTime = true) :
    i ∈ (s.signalled k f).takers k f.fsTime ∧ ∃ j', (s.frameDone k f).job i = some j' ∧
      j'.delivered = j.delivered ++ [⟨k, f.buffer, f.fsTime, f.fsTick⟩] := by
  have same : (s.signalled k f).job i = some j := by
    rw [State.signalled_none none_]
    exact here
  have mem : i ∈ (s.signalled k f).takers k f.fsTime := State.mem_takers.2 ⟨j, same, takes⟩
  obtain ⟨j1, found, gets⟩ := foldl_deliverOne_mem (k := k) (b := f.buffer) (fsTime := f.fsTime) (fsTick := f.fsTick)
    (State.takers_nodup _ k f.fsTime) _ mem same
  obtain ⟨j2, stays, keeps⟩ := State.endsArming_job (s := s.delivered k f) (k := k) found
  exact ⟨mem, j2, by rw [State.frameDone_eq]; exact stays, keeps.trans gets⟩

/-- Where no job waits the jobs stand. -/
theorem State.frameDone_untaken {s : State} {k : Fin 6} {f : Incoming} (none_ : (s.sns k).arm.token = none)
    (idle : ∀ i j, s.job i = some j → j.st ≠ .waiting) :
    (s.signalled k f).takers k f.fsTime = [] ∧ (s.frameDone k f).jobs = s.jobs := by
  have same : ∀ i, (s.signalled k f).job i = s.job i := fun i => by rw [State.signalled_none none_]; rfl
  have nobody : (s.signalled k f).takers k f.fsTime = [] := by
    refine List.eq_nil_iff_forall_not_mem.2 fun i mem => ?_
    obtain ⟨j, found, takes⟩ := State.mem_takers.1 mem
    refine idle i j ((same i).symm.trans found) ?_
    simp only [Job.takes, Bool.and_eq_true, beq_iff_eq] at takes
    exact takes.1.1.1.1.1
  have stays : s.delivered k f = s.signalled k f := by rw [State.delivered, nobody, List.foldl_nil]
  have arming : (s.signalled k f).endsArming k = s.signalled k f := by
    unfold State.endsArming
    split
    · exact State.portDisarmed_none fun i j found => idle i j ((same i).symm.trans found)
    · rfl
  refine ⟨nobody, ?_⟩
  rw [State.frameDone_eq, stays, arming]
  show (s.signalled k f).jobs = s.jobs
  rw [State.signalled_none none_]
  rfl

/-! ### SENSOR_FE -/

theorem SnsPort.late_iff {x : SnsPort} {f : Incoming} {now : Nat} (in_ : x.incoming = some f) :
    x.late now = true ↔ f.fsTick + x.cfg.timeoutMs * msTicks < now := by
  simp only [SnsPort.late, in_, decide_eq_true_eq]

/-- The FE of a frame whose lines are all there. -/
theorem SnsPort.planeEnds_whole {x : SnsPort} {f : Incoming} {fnum now : Nat} (in_ : x.incoming = some f) (number : f.fnum = fnum)
    (whole : f.lines.length = x.cfg.height) (timely : now ≤ f.fsTick + x.cfg.timeoutMs * msTicks) :
    x.planeEnds false fnum now = { x with incoming := some { f with depthFe := true } } := by
  have early : x.late now = false := by
    rw [Bool.eq_false_iff, Ne, SnsPort.late_iff in_]
    omega
  simp [SnsPort.planeEnds, in_, early, number, whole]

/-- The FE of a frame that is bad already. -/
theorem SnsPort.planeEnds_bad {x : SnsPort} {f : Incoming} {fnum now : Nat} (in_ : x.incoming = some f) (bad : f.bad ≠ 0) :
    x.planeEnds false fnum now = { x with incoming := some { f with depthFe := true } } := by
  have spoils (cause : Nat) : ({ x with incoming := some { f with depthFe := true } } : SnsPort).spoil cause =
      { x with incoming := some { f with depthFe := true } } := SnsPort.spoil_bad rfl bad
  simp [SnsPort.planeEnds, in_, SnsPort.spoil_bad in_ bad, spoils]

/-- The FE of the depth channel of a port without confidence ends the frame. -/
theorem sensorFe_ends {s : State} {k : Fin 6} {fnum : BitVec 16} {f : Incoming} (first : s.commandsWait = false) (own : s.packetsWait k = false)
    (receives : (s.sns k).st = .receiving) (plane : (s.sns k).cfg.conf = false)
    (ends : (s.sns k).planeEnds false fnum.toNat s.now = { s.sns k with incoming := some { f with depthFe := true } }) :
    exec (.sensorFe k false fnum false) s =
      .next ((s.updSensor k fun x => { x with incoming := some { f with depthFe := true } }).frameEnd k) := by
  have row : exec (.sensorFe k false fnum false) s = execSensorFe k false fnum false s := rfl
  have active : (s.sns k).active = true := by simp [SnsPort.active, receives]
  have seen : (s.updSensor k fun x => (x.corrected false).planeEnds false fnum.toNat s.now) =
      s.updSensor k fun x => { x with incoming := some { f with depthFe := true } } := State.updSensor_congr ends
  rw [row, execSensorFe, if_neg (by simp [first, own]), if_neg (by simp [active, SnsCfg.plane])]
  dsimp only
  rw [seen, State.updSensor_sns]
  exact congrArg Host.Outcome.next (if_pos ⟨rfl, .inr (by rw [plane]; decide)⟩)

theorem sensorFe_discards {s : State} {k : Fin 6} {fnum : BitVec 16} {f : Incoming} (first : s.commandsWait = false)
    (own : s.packetsWait k = false) (receives : (s.sns k).st = .receiving) (plane : (s.sns k).cfg.conf = false)
    (stays : (s.sns k).disarmPending = false) (endless : (s.sns k).arm.count = 0) (fails : f.bad ≠ 0 ∨ f.lost = true)
    (ends : (s.sns k).planeEnds false fnum.toNat s.now = { s.sns k with incoming := some { f with depthFe := true } }) :
    exec (.sensorFe k false fnum false) s = .next (s.updSensor k fun x =>
      { ({ x with bufs := bankSet x.bufs f.buffer .empty } : SnsPort).countBad (if f.bad = 0 then badLost else f.bad) with
        st := .armed, incoming := none }) := by
  have port := s.updSensor_sns k fun x => { x with incoming := some { f with depthFe := true } }
  have discarded : (s.updSensor k fun x => { x with incoming := some { f with depthFe := true } }).frameEnd k =
      (s.updSensor k fun x => { x with incoming := some { f with depthFe := true } }).discard k badLost := by
    rw [State.frameEnd, port]
    exact if_neg (by rintro ⟨good, kept⟩; exact fails.elim (fun h => h good) kept)
  rw [sensorFe_ends first own receives plane ends, discarded,
    State.discard_eq (f := { f with depthFe := true }) (by rw [port]) (by rw [port]; exact stays) (by rw [port]; exact endless),
    State.updSensor_updSensor]
  refine congrArg Host.Outcome.next (State.updSensor_congr ?_)
  simp only [SnsPort.countBad]
  repeat' split
  all_goals rfl

theorem sensorFe_spoiled (s : State) (k : Fin 6) (fnum : BitVec 16) (f : Incoming) (first : s.commandsWait = false)
    (own : s.packetsWait k = false) (receives : (s.sns k).st = .receiving) (in_ : (s.sns k).incoming = some f)
    (plane : (s.sns k).cfg.conf = false) (stays : (s.sns k).disarmPending = false) (endless : (s.sns k).arm.count = 0) :
    (f.bad = 2 → exec (.sensorFe k false fnum false) s = .next (s.updSensor k fun x =>
      { x with st := .armed, incoming := none, crc := satInc 65535 x.crc, bufs := bankSet x.bufs f.buffer .empty })) ∧
    (f.bad = 0 → f.lost = true → f.fnum = fnum.toNat → f.lines.length = (s.sns k).cfg.height →
      s.now ≤ f.fsTick + (s.sns k).cfg.timeoutMs * msTicks →
      exec (.sensorFe k false fnum false) s = .next (s.updSensor k fun x =>
        { x with st := .armed, incoming := none, bufs := bankSet x.bufs f.buffer .empty })) := by
  refine ⟨fun crc => ?_, fun sound lost number whole timely => ?_⟩
  · have bad : f.bad ≠ 0 := by omega
    rw [sensorFe_discards first own receives plane stays endless (.inl bad) (SnsPort.planeEnds_bad in_ bad), crc]
    rfl
  · rw [sensorFe_discards first own receives plane stays endless (.inr lost) (SnsPort.planeEnds_whole in_ number whole timely), sound]
    rfl

theorem sensorFe_completes (s : State) (k : Fin 6) (fnum : BitVec 16) (f : Incoming) (first : s.commandsWait = false)
    (own : s.packetsWait k = false) (receives : (s.sns k).st = .receiving) (in_ : (s.sns k).incoming = some f) (sound : f.bad = 0)
    (kept : f.lost = false) (plane : (s.sns k).cfg.conf = false) (number : f.fnum = fnum.toNat)
    (whole : f.lines.length = (s.sns k).cfg.height) (timely : s.now ≤ f.fsTick + (s.sns k).cfg.timeoutMs * msTicks) :
    exec (.sensorFe k false fnum false) s =
      .next ((s.updSensor k fun x => { x with incoming := some { f with depthFe := true } }).frameDone k { f with depthFe := true }) := by
  rw [sensorFe_ends first own receives plane (SnsPort.planeEnds_whole in_ number whole timely), State.frameEnd, State.updSensor_sns]
  exact congrArg Host.Outcome.next (if_pos ⟨sound, by rw [kept]; decide⟩)

/-- Settles O17: a row gives way, passes over or counts by the guard its statement names; a completed frame is signalled, then given to the
jobs that wait, each of which keeps what it took. -/
theorem sensorRowsAct : Obligations.SensorRowsAct := by
  unfold Obligations.SensorRowsAct
  refine ⟨⟨fun s k conf fnum c waits => ?_, fun s k conf fnum c waits => ?_, fun s k vc dt ecc crc bs waits => ?_, fun s k in_ waits => ?_⟩,
    ⟨sensorFs_begins, sensorFs_noBuf, sensorLongPacket_other, sensorLongPacket_depth, sensorFrameTimeout_discards, sensorClkLost_idle,
      sensorClkReturn_live, sensorTriggerEdge_acts⟩,
    fun s k fnum f first own receives in_ sound kept plane number whole timely => ?_, sensorFe_spoiled⟩
  · exact congrArg Host.Outcome.next (if_pos waits)
  · exact congrArg Host.Outcome.next (if_pos waits)
  · exact congrArg Host.Outcome.next (if_pos waits)
  · obtain ⟨f, in_⟩ := Option.ne_none_iff_exists'.1 in_
    have row : exec (.sensorFrameTimeout k) s = execSensorFrameTimeout k s := rfl
    rw [row, execSensorFrameTimeout, in_]
    exact congrArg Host.Outcome.next (if_pos waits)
  · have at_ := sensorFe_completes s k fnum f first own receives in_ sound kept plane number whole timely
    generalize ready : s.updSensor k (fun x => { x with incoming := some { f with depthFe := true } }) = u at at_
    have port : u.sns k = { s.sns k with incoming := some { f with depthFe := true } } := by rw [← ready, State.updSensor_sns]
    have jobs : u.jobs = s.jobs := by rw [← ready]; rfl
    have job (i : Fin 64) : u.job i = s.job i := by rw [← ready]; rfl
    have only : JobsOnly s u := by rw [← ready]; exact s.updSensor_jobsOnly k _
    have keeps := only.trans (u.frameDone_jobsOnly k { f with depthFe := true })
    obtain ⟨complete, fs, fn, idle, st, left, buf⟩ := u.frameDone_port k { f with depthFe := true }
    rw [port] at complete st left
    refine ⟨_, at_, complete, fs, fn, idle, st, left, keeps.mem, keeps.leases, keeps.axes, fun none_ => ⟨fun i j here waits => ?_, fun idle => ?_⟩,
      fun id x armed alone here none_ room => ?_⟩
    · obtain ⟨st, past, binds, live, fresh, since⟩ := waits
      have takes : j.takes k f.fsTime = true := by
        simp only [Job.takes, Bool.and_eq_true, beq_iff_eq, List.contains_iff_mem, Bool.not_eq_true', decide_eq_true_eq]
        exact ⟨⟨⟨⟨⟨st, past⟩, binds⟩, by simpa using live⟩, by simpa using fresh⟩, since⟩
      obtain ⟨mem, gets⟩ := State.frameDone_takes (s := u) (f := { f with depthFe := true }) (by rw [port]; exact none_) ((job i).trans here) takes
      rw [if_neg (by rw [List.isEmpty_iff]; exact List.ne_nil_of_mem mem)] at buf
      exact ⟨gets, by rw [buf], by rw [buf]; exact mem, by rw [buf]⟩
    · obtain ⟨nobody, same⟩ := State.frameDone_untaken (s := u) (f := { f with depthFe := true }) (by rw [port]; exact none_)
        fun i j found => idle i j ((job i).symm.trans found)
      rw [nobody] at buf
      exact ⟨same.trans jobs, buf⟩
    · have counted := State.groupDone_alone (s := u.updSensor k (·.shows { f with depthFe := true })) (k := k) (id := id) (x := x)
        (by rw [State.updSensor_sns, port]; exact armed) (by rw [State.updSensor_sns, port]; exact alone)
        (by rw [State.updSensor_sns, port]; simp [SnsPort.active, SnsPort.shows, receives]) (by rw [← here]; exact congrArg (fun j : Jobs => j.tokens.find? _) jobs) none_ room
      rw [State.tokenCount, State.frameDone_tokens]
      exact counted

end Sys2Proof.Machine
end

section
/-! PROOFS. The resets (R61, R108, R148, R173, Table 4-1): the pins, the power, RESET_DEVICE and the watchdog. -/

namespace Sys2Proof.Machine

/-! ### What a device reset leaves -/

theorem State.cutShort_eq (s : State) : ({ s.flash with
    partial_ := bankUpd s.flash.partial_ s.idleSlot fun x => x || (s.boot.stage.isSome && s.boot.written.toList.any (· != 0)) } : Flash) =
      s.cutShort := by
  unfold State.cutShort
  refine congrArg (fun v => { s.flash with partial_ := v }) (Vector.ext fun i lt => ?_)
  have at_ := bankUpd_get s.flash.partial_ s.idleSlot ⟨i, lt⟩ fun x => x || (s.boot.stage.isSome && s.boot.written.toList.any (· != 0))
  rw [Vector.getElem_ofFn]
  refine (Vector.get_eq_getElem _ _).symm.trans (at_.trans ?_)
  by_cases here : s.idleSlot = ⟨i, lt⟩
  · simp [here]
  · simp [here, Ne.symm here]

theorem State.deviceReset_flash (s : State) (c : Nat) : (s.deviceReset c).flash = s.cutShort := s.cutShort_eq

theorem State.deviceReset_axis (s : State) (c : Nat) (n : Fin 8) : (s.deviceReset c).axis n =
    { Axis.reset with flt := (s.axis n).flt, gates := { Gates.reset with lowAt := Vector.replicate 6 s.now } } := by
  show (s.axes.map _).get n = _
  rw [Vector.get_eq_getElem, Vector.getElem_map]
  rfl

theorem Gates.reset_level (v : Vector Nat 6) (i : Fin 6) : ({ Gates.reset with lowAt := v } : Gates).level.get i = false := by
  simp [Gates.reset, Vector.get_eq_getElem]

theorem State.deviceReset_low (s : State) (c : Nat) (n : Fin 8) : ((s.deviceReset c).axis n).st = .disabled ∧
    ((s.deviceReset c).axis n).hold = false ∧ ∀ i, ((s.deviceReset c).axis n).gates.level.get i = false := by
  rw [State.deviceReset_axis]
  exact ⟨rfl, rfl, Gates.reset_level _⟩

theorem State.deviceReset_session (s : State) (c : Nat) (p : Port) : ((s.deviceReset c).owner p).session = none := by
  show (State.reset.owners.get p).session = none
  simp [State.reset, Vector.get_eq_getElem, ownersReset, OwnerState.reset]

/-- RESET_N low: what stands, and what is at its reset value. -/
theorem resetNAssert_resets (s : State) : ∃ t, exec .resetNAssert s = .next t ∧ t = { s.deviceReset t.boot.nextCause with boot := t.boot } ∧
    t.boot.step = .held ∧ t.boot.resetN = false ∧ t.boot.dev = .boot ∧
    t.boot.nextCause = (if s.boot.step = .held then s.boot.nextCause else 1) ∧ t.otp = s.otp ∧ t.flash = s.cutShort ∧
    t.boot.xspiResetN = false ∧ t.boot.otpRead = false ∧ t.mem.regions = [] ∧ (∀ p, (t.owner p).session = none) ∧
    (∀ n, (t.axis n).st = .disabled ∧ (t.axis n).hold = false ∧ ∀ i, (t.axis n).gates.level.get i = false) := by
  generalize cause : (if s.boot.step = .held then s.boot.nextCause else 1) = c
  have row : exec .resetNAssert s = .next ((s.deviceReset c).updBoot fun b => { b with resetN := false }) := by
    rw [← cause]
    rfl
  exact ⟨_, row, rfl, rfl, rfl, rfl, rfl, rfl, s.deviceReset_flash c, rfl, rfl, rfl, s.deviceReset_session c, s.deviceReset_low c⟩

theorem powerLoss_resets (s : State) (up : s.boot.pwrgd = true) : ∃ t, exec .powerLoss s = .next t ∧ t.boot.pwrgd = false ∧
    t.boot.step = .held ∧ t.boot.nextCause = 3 ∧ t.otp = s.otp ∧ t.flash = s.cutShort ∧ t.store = { s.store with queue := [] } ∧
    ∀ n i, (t.axis n).gates.level.get i = false := by
  exact ⟨_, congrArg Host.Outcome.next (if_pos up), rfl, rfl, rfl, rfl, s.deviceReset_flash 3, rfl, fun n => (s.deviceReset_low 3 n).2.2⟩

/-! ### The release -/

/-- A fill of a key slot touches the keys and the count of draws. -/
theorem State.fillSlot_shape (s : State) (i : Fin 74) : ∃ k d, s.fillSlot i = { s with keys := k, draws := d } := ⟨_, _, rfl⟩

theorem State.fillDomains_shape (s : State) : ∃ k d, s.fillDomains = { s with keys := k, draws := d } := by
  have shape (u v : State) (i : Fin 74) (same : ∃ k d, u = { v with keys := k, draws := d }) :
      ∃ k d, u.fillSlot i = { v with keys := k, draws := d } := by
    obtain ⟨k, d, rfl⟩ := same
    exact State.fillSlot_shape _ i
  exact shape _ s _ (shape _ s _ (shape _ s _ (s.fillSlot_shape _)))

/-- An armed token changes the lifecycle, the keys, TOKEN_STALE and the count of draws. -/
theorem State.takeToken_shape (s : State) : ∃ k d l n x, s.takeToken = { s with
    keys := k, draws := d, otp := { s.otp with lifecycle := l, svcEntries := n }, flash := { s.flash with tokenArmed := none },
    boot := { s.boot with tokenStale := x } } := by
  unfold State.takeToken
  split
  · next none_ =>
    refine ⟨s.keys, s.draws, s.otp.lifecycle, s.otp.svcEntries, s.boot.tokenStale, ?_⟩
    rw [← none_]
  · dsimp only
    split
    · split
      · split
        · obtain ⟨k, d, shape⟩ := State.fillDomains_shape (State.updKeys _ _)
          rw [shape]
          exact ⟨_, _, _, _, _, rfl⟩
        · split
          · obtain ⟨k, d, shape⟩ := State.fillDomains_shape (State.updKeys _ _)
            obtain ⟨k', d', shape'⟩ := State.fillSlot_shape (State.fillDomains (State.updKeys _ _)) _
            rw [shape', shape]
            exact ⟨_, _, _, _, _, rfl⟩
          · exact ⟨_, _, _, _, _, rfl⟩
      · exact ⟨_, _, _, _, _, rfl⟩
    · exact ⟨_, _, _, _, _, rfl⟩

theorem State.takeToken_none {s : State} (none_ : s.flash.tokenArmed = none) : s.takeToken = s := by
  unfold State.takeToken
  rw [none_]

/-- The start before the axes' pins are looked at. -/
def State.starting (s : State) : State :=
  let t := (s.updBoot fun b =>
    { b with resetN := true, pwrgd := true, vfdUp := true, cause := b.nextCause, step := .pllWait, releasedAt := s.now,
             xspiResetN := true, otpRead := true }).takeToken
  { t with otp := { t.otp with bootCount := satInc 0xFFFFFFFF t.otp.bootCount } }

theorem State.starting_shape (s : State) : ∃ k d l n x, s.starting = { s with
    keys := k, draws := d, otp := { s.otp with lifecycle := l, svcEntries := n, bootCount := satInc 0xFFFFFFFF s.otp.bootCount },
    flash := { s.flash with tokenArmed := none },
    boot := { s.boot with
      resetN := true, pwrgd := true, vfdUp := true, cause := s.boot.nextCause, step := .pllWait, releasedAt := s.now,
      xspiResetN := true, otpRead := true, tokenStale := x } } := by
  unfold State.starting
  obtain ⟨k, d, l, n, x, shape⟩ := State.takeToken_shape (s.updBoot fun b =>
    { b with resetN := true, pwrgd := true, vfdUp := true, cause := b.nextCause, step := .pllWait, releasedAt := s.now,
             xspiResetN := true, otpRead := true })
  rw [shape]
  exact ⟨k, d, l, n, x, rfl⟩

theorem State.starting_none {s : State} (none_ : s.flash.tokenArmed = none) :
    s.starting.otp.lifecycle = s.otp.lifecycle ∧ s.starting.keys = s.keys := by
  have same := State.takeToken_none (s := s.updBoot fun b =>
    { b with resetN := true, pwrgd := true, vfdUp := true, cause := b.nextCause, step := .pllWait, releasedAt := s.now,
             xspiResetN := true, otpRead := true }) none_
  unfold State.starting
  rw [same]
  exact ⟨rfl, rfl⟩

/-- A low SFP_STOP_N holds every axis. -/
def State.heldLow (s : State) : State :=
  if s.net.stopN then s else forAll s fun s n => s.updAxis n fun a => { a with hold := true }

/-- A low fault pin puts its axis in FAULT. -/
def State.faultPins (s : State) : State := forAll s fun s n => if (s.axis n).flt then s.axisFault n 12 else s

theorem State.beginBoot_eq (s : State) : s.beginBoot = s.starting.heldLow.faultPins := rfl

theorem State.faultPin_touches (s : State) (n : Fin 8) : TouchesAxes {n} s (if (s.axis n).flt then s.axisFault n 12 else s) := by
  split
  · exact s.axisFault_touches n 12
  · exact .refl _ s

theorem State.heldLow_touches (s : State) : TouchesAxes Set.univ s s.heldLow := by
  unfold State.heldLow
  split
  · exact .refl _ s
  · exact TouchesAxes.foldl (fun s n => (s.updAxis_touches n _).mono (Set.subset_univ _)) _ s

theorem State.faultPins_touches (s : State) : TouchesAxes Set.univ s s.faultPins :=
  TouchesAxes.foldl (fun s n => (s.faultPin_touches n).mono (Set.subset_univ _)) _ s

theorem State.heldLow_axis (s : State) (n : Fin 8) : s.heldLow.axis n = { s.axis n with hold := (s.axis n).hold || !s.net.stopN } := by
  unfold State.heldLow
  split
  · next high => simp [high]
  · next low =>
    obtain ⟨u, before, after⟩ := forAll_axis (fun s n => s.updAxis_touches n fun a => { a with hold := true }) s n
    rw [after, State.updAxis_axis_self, before.2 n fun out => out rfl, Bool.not_eq_true _ |>.mp low]
    simp

theorem State.axisFault_pin (s : State) (n : Fin 8) (cause : Nat) : ((s.axisFault n cause).axis n).st = .fault ∧
    ((s.axisFault n cause).axis n).hold = (s.axis n).hold := by
  by_cases sound : (s.axis n).st = .fault
  · rw [State.axisFault, if_pos sound]
    exact ⟨sound, rfl⟩
  · simp only [State.axisFault, if_neg sound, State.enterAx_axis_self, State.drivePattern_axis_self, State.updAxis_axis_self,
      State.uncommutate_axis_self]
    exact ⟨trivial, trivial⟩

theorem State.faultPins_axis (s : State) (n : Fin 8) : (s.faultPins.axis n).hold = (s.axis n).hold ∧
    (s.faultPins.axis n).st = if (s.axis n).flt = true then .fault else (s.axis n).st := by
  obtain ⟨u, before, after⟩ := forAll_axis State.faultPin_touches s n
  have same : u.axis n = s.axis n := before.2 n fun out => out rfl
  rw [State.faultPins, after, same]
  split
  · obtain ⟨st, hold⟩ := u.axisFault_pin n 12
    exact ⟨hold.trans (by rw [same]), st⟩
  · rw [same]
    exact ⟨rfl, rfl⟩

theorem State.beginBoot_touches (s : State) : TouchesAxes Set.univ s.starting s.beginBoot :=
  s.starting.heldLow_touches.trans (State.faultPins_touches _)

/-- The start after a reset. -/
theorem State.beginBoot_starts (s : State) : s.beginBoot.boot.step = .pllWait ∧ s.beginBoot.boot.cause = s.boot.nextCause ∧
    s.beginBoot.boot.releasedAt = s.now ∧ s.beginBoot.otp.bootCount = satInc 0xFFFFFFFF s.otp.bootCount ∧
    s.beginBoot.flash.tokenArmed = none ∧ s.beginBoot.boot.xspiResetN = true ∧ s.beginBoot.boot.otpRead = true ∧
    (s.flash.tokenArmed = none → s.beginBoot.otp.lifecycle = s.otp.lifecycle ∧ s.beginBoot.keys = s.keys) ∧
    s.beginBoot.now = s.now ∧
    ∀ n, (s.beginBoot.axis n).hold = ((s.axis n).hold || !s.net.stopN) ∧
      (s.beginBoot.axis n).st = (if (s.axis n).flt = true then .fault else (s.axis n).st) := by
  have whole := s.beginBoot_touches.1
  have booted : s.beginBoot.boot = s.starting.boot := by rw [whole]
  have otp : s.beginBoot.otp = s.starting.otp := by rw [whole]
  have flash : s.beginBoot.flash = s.starting.flash := by rw [whole]
  have keys : s.beginBoot.keys = s.starting.keys := by rw [whole]
  have time : s.beginBoot.now = s.starting.now := by rw [whole]
  have axis (n : Fin 8) := s.starting.heldLow.faultPins_axis n
  obtain ⟨k, d, l, m, x, shape⟩ := s.starting_shape
  rw [booted, otp, flash, keys, time]
  refine ⟨?_, ?_, ?_, ?_, ?_, ?_, ?_, State.starting_none, ?_, fun n => ?_⟩
  any_goals rw [shape]
  rw [s.beginBoot_eq, (axis n).1, (axis n).2, State.heldLow_axis, shape]
  exact ⟨rfl, rfl⟩

theorem State.resetTick_due {s : State} {at_ cause : Nat} (due : s.boot.resetDue = some (at_, cause)) (stopped : s.boot.stopDone = true) :
    s.resetTick = if at_ ≤ s.now then (s.deviceReset cause).beginBoot else s := by
  unfold State.resetTick
  rw [due]
  exact if_congr (and_iff_right stopped) rfl rfl

/-! ### VFD_UP -/

/-- Every drive off: no axis changes its state, every gate is low. -/
theorem State.drivesOff (s : State) : TouchesAxes Set.univ s (forAll s fun s n => s.drivePattern n .off) ∧
    ∀ n, ((forAll s fun s n => s.drivePattern n .off).axis n).st = (s.axis n).st ∧
      ∀ i, ((forAll s fun s n => s.drivePattern n .off).axis n).gates.level.get i = false := by
  refine ⟨TouchesAxes.foldl (fun s n => (s.drivePattern_touches n .off).mono (Set.subset_univ _)) _ s, fun n => ?_⟩
  obtain ⟨u, before, after⟩ := forAll_axis (fun s n => s.drivePattern_touches n .off) s n
  rw [after, State.drivePattern_axis_self, before.2 n fun out => out rfl]
  exact ⟨rfl, fun i => Gates.apply_off_level _ _ _ _ i⟩

/-- Every sink is off. -/
def State.sinksOff (s : State) : State := forAll s fun s n => s.updSink n fun x => { x with on := false, run := false }

theorem State.sinksOff_dark (s : State) : (∃ i, s.sinksOff = { s with illum := i }) ∧ ∀ n, (s.sinksOff.illum.sinks.get n).on = false := by
  refine ⟨?_, fun n => ?_⟩
  · exact forAll_keeps (P := fun t => ∃ i, t = { s with illum := i }) (by rintro t n ⟨i, rfl⟩; exact ⟨_, rfl⟩) s ⟨s.illum, rfl⟩
  · refine forAll_entry (fun (u : State) k => u.illum.sinks.get k) (fun u k g ne => (bankUpd_get _ _ _ _).trans (if_neg (Ne.symm ne)))
      (P := fun _ y => y.on = false) (fun u k => ?_) s n
    exact congrArg Sink.on (bankUpd_get_self u.illum.sinks k fun x => { x with on := false, run := false })

/-- The lights off: dark sinks, the stage disabled, nothing else of the device. -/
theorem State.lightsOff_dark (s : State) : (∃ i, s.lightsOff = { s with illum := i }) ∧ s.lightsOff.illum.stage.dis = true ∧
    ∀ n, (s.lightsOff.illum.sinks.get n).on = false := by
  obtain ⟨⟨i, eq⟩, dark⟩ := s.sinksOff_dark
  have whole : s.lightsOff = (s.sinksOff.updStage fun x => { x with st := .idle, dis := true, ovp := false }).updMatrix fun m =>
    { m with frame := ⟨0, m.frame.tPre, []⟩, pending := none } := rfl
  rw [whole]
  exact ⟨⟨_, by rw [eq]; rfl⟩, rfl, dark⟩

theorem vfdUp_darkens (s : State) (down : s.boot.vfdUp = false) : ∃ t, exec .vfdUp s = .next t ∧ t.boot = { s.boot with vfdUp := true } ∧
    t.illum.stage.dis = true ∧ (∀ n, (t.illum.sinks.get n).on = false) ∧
    (∀ n i, (t.axis n).gates.level.get i = false ∧ (t.axis n).st = (s.axis n).st) ∧ t.mem = s.mem ∧ t.owners = s.owners := by
  have row : exec .vfdUp s = execVfdUp s := rfl
  generalize lit : (s.updBoot fun b => { b with vfdUp := true }).lightsOff = u
  obtain ⟨⟨i, eq⟩, dis, dark⟩ := (s.updBoot fun b => { b with vfdUp := true }).lightsOff_dark
  rw [lit] at eq dis dark
  obtain ⟨whole, axes⟩ := u.drivesOff
  rw [row, execVfdUp, if_neg (by rw [down]; decide)]
  dsimp only
  rw [lit]
  have illum : (forAll u fun s n => s.drivePattern n .off).illum = u.illum := whole.onlyMotion.2.2.2.2.2.1
  have boot : (forAll u fun s n => s.drivePattern n .off).boot = u.boot := whole.onlyMotion.2.2.2.2.2.2.2.2.1
  have mem : (forAll u fun s n => s.drivePattern n .off).mem = u.mem := whole.onlyMotion.2.1
  have owners : (forAll u fun s n => s.drivePattern n .off).owners = u.owners :=
    forAll_keeps (f := fun s n => s.drivePattern n .off) (P := fun t => t.owners = u.owners) (fun _ _ same => same) u rfl
  refine ⟨_, rfl, boot.trans (by rw [eq]; rfl), (congrArg (fun i : Illum => i.stage.dis) illum).trans dis,
    fun n => (congrArg (fun i : Illum => (i.sinks.get n).on) illum).trans (dark n),
    fun n i => ⟨(axes n).2 i, (axes n).1.trans (by rw [eq]; rfl)⟩, mem.trans (by rw [eq]; rfl), owners.trans (by rw [eq]; rfl)⟩

/-! ### The stops before a reset -/

/-- A stop of the hardware holds one axis. -/
def State.hardStop (s : State) (n : Fin 8) : State :=
  ((s.updAxis n fun a => { a with hold := true }).axisStop n (if s.cfgStop n = .ramp then .freewheel else s.cfgStop n) .hardware 10).1

theorem State.hardStop_touches (s : State) (n : Fin 8) : TouchesAxes {n} s (s.hardStop n) := (s.heldStop_axis n _ _ _).1

theorem State.hardwareStop_touches (s : State) : TouchesAxes Set.univ s s.hardwareStop :=
  TouchesAxes.foldl (f := State.hardStop) (fun s n => (s.hardStop_touches n).mono (Set.subset_univ _)) _ s

/-- Every axis is held and stopped by its configured category, a ramp as freewheel (R148). -/
theorem State.hardwareStop_axis (s : State) (n : Fin 8) : (s.hardwareStop.axis n).hold = true ∧
    AxisStopped s s.hardwareStop n (if s.cfgStop n = .ramp then .freewheel else s.cfgStop n) .hardware 10 := by
  obtain ⟨u, before, after⟩ := forAll_axis State.hardStop_touches s n
  have same : u.axis n = s.axis n := before.2 n fun out => out rfl
  have category : u.cfgStop n = s.cfgStop n := by simp only [State.cfgStop, before.safety_eq]
  obtain ⟨-, held, stopped⟩ := u.heldStop_axis n (if u.cfgStop n = .ramp then .freewheel else u.cfgStop n) .hardware 10
  refine ⟨(congrArg Axis.hold after).trans held, ?_⟩
  rw [← category]
  exact stopped.of_eq before.now_eq (by rw [same]) (by rw [same]) after.symm

/-- Every axis held and stopped, then the boot's own record changed. -/
theorem stopped_updBoot {s t : State} (moved : OnlyMotion s t) (stops : ∀ n, (t.axis n).hold = true ∧
      AxisStopped s t n (if s.cfgStop n = .ramp then .freewheel else s.cfgStop n) .hardware 10) (f : Boot → Boot) :
    (t.updBoot f).boot = f s.boot ∧ (t.updBoot f).mem = s.mem ∧ (t.updBoot f).leases = s.leases ∧
      ∀ n, ((t.updBoot f).axis n).hold = true ∧
        AxisStopped s (t.updBoot f) n (if s.cfgStop n = .ramp then .freewheel else s.cfgStop n) .hardware 10 := by
  obtain ⟨leases, mem, -, -, -, -, -, -, boot, -, -, -⟩ := moved
  exact ⟨congrArg f boot, mem, leases, stops⟩

theorem resetDeviceDelayEnd_stops (s : State) (at_ cause : Nat) (due : s.boot.resetDue = some (at_, cause)) (fresh : s.boot.stopDone = false) :
    if at_ ≤ s.now then
      ∃ t, exec .resetDeviceDelayEnd s = .next t ∧
        t.boot = { s.boot with resetDue := some (s.now + 100 * usTicks, cause), stopDone := true } ∧ t.mem = s.mem ∧
        t.leases = s.leases ∧
        ∀ n, (t.axis n).hold = true ∧
          AxisStopped s t n (if s.cfgStop n = .ramp then .freewheel else s.cfgStop n) .hardware 10
    else exec .resetDeviceDelayEnd s = .next s := by
  have row : exec .resetDeviceDelayEnd s = .next (if at_ ≤ s.now ∧ ¬ s.boot.stopDone then
      s.hardwareStop.updBoot fun b => { b with resetDue := some (s.now + 100 * usTicks, cause), stopDone := true } else s) := by
    have row : exec .resetDeviceDelayEnd s = execResetDeviceDelayEnd s := rfl
    rw [row, execResetDeviceDelayEnd, due]
  split
  · next passed =>
    rw [if_pos ⟨passed, by rw [fresh]; decide⟩] at row
    exact ⟨_, row, stopped_updBoot s.hardwareStop_touches.onlyMotion s.hardwareStop_axis _⟩
  · next early =>
    rw [if_neg fun h => early h.1] at row
    exact row

theorem ccWatchdogExpiry_stops (s : State) : if s.boot.mboit = true ∧ s.boot.stopDone = false then
      ∃ t, exec .ccWatchdogExpiry s = .next t ∧ t.boot = { s.boot with resetDue := some (s.now, 4), stopDone := true } ∧
        t.mem = s.mem ∧ t.leases = s.leases ∧
        ∀ n, (t.axis n).hold = true ∧
          AxisStopped s t n (if s.cfgStop n = .ramp then .freewheel else s.cfgStop n) .hardware 10
    else exec .ccWatchdogExpiry s = .next s := by
  have row : exec .ccWatchdogExpiry s = execCcWatchdogExpiry s := rfl
  have told := s.hardwareStop.raiseAll_touches 16 0 0
    (le 1 8 ++ le 1 (bitAt 0 ((bankList s.hardwareStop.axes).any fun x => x.2.hold)) ++ zeros 2 ++ le 4 0xFF)
  have event : TouchesAxes ∅ s.hardwareStop (s.hardwareStop.safeEvent 8 0xFF) := told
  split
  · next acts =>
    rw [row, execCcWatchdogExpiry, if_pos ⟨acts.1, by rw [acts.2]; decide⟩]
    refine ⟨_, rfl, stopped_updBoot (s.hardwareStop_touches.trans event.of_none).onlyMotion (fun n => ?_) _⟩
    have axis : (s.hardwareStop.safeEvent 8 0xFF).axis n = s.hardwareStop.axis n := event.2 n id
    obtain ⟨held, stopped⟩ := s.hardwareStop_axis n
    exact ⟨(congrArg Axis.hold axis).trans held, stopped.of_eq rfl rfl rfl axis.symm⟩
  · next waits => exact congrArg Host.Outcome.next (if_neg fun h => waits ⟨h.1, by simpa using h.2⟩)

/-! ### RESET_DEVICE -/

theorem resetDevice_completes (s : State) (h : Hdr) (ses : Session) (delay : Word) (ok : Accepted s h (.resetDevice delay) ses) :
    if 1000 < delay.toNat then Completes (.resetDevice h delay) s h 0x7A eParam [] s
    else if s.boot.stopDone = true then Completes (.resetDevice h delay) s h 0x7A stOk [] s
    else Completes (.resetDevice h delay) s h 0x7A stOk []
      (s.updBoot fun b => { b with resetDue := some (s.now + delay.toNat * msTicks, 2) }) := by
  have op : (Cmd.resetDevice delay).opcode ≠ 0x02 := by simp [Cmd.opcode]
  have effect : perform (s.ticket h (.resetDevice delay) ses) (.resetDevice delay) (s.accepted h) =
      doResetDevice (s.ticket h (.resetDevice delay) ses) delay (s.accepted h) := rfl
  unfold doResetDevice at effect
  dsimp only at effect
  rw [s.accepted_boot, s.accepted_now] at effect
  split
  · next long =>
    rw [if_pos long] at effect
    exact ok.completes_reply (i := .resetDevice h delay) rfl op uncounted_param effect
  · next fits =>
    rw [if_neg fits] at effect
    split
    · next stopped =>
      rw [if_pos stopped] at effect
      exact ok.completes_reply (i := .resetDevice h delay) rfl op uncounted_ok effect
    · next runs =>
      rw [if_neg runs] at effect
      exact completes_then ok op (i := .resetDevice h delay) rfl uncounted_ok
        (fun u => u.updBoot fun b => { b with resetDue := some (s.now + delay.toNat * msTicks, 2) }) effect rfl (s.accepted_now h)
        (fun _ => rfl) (fun _ => rfl) (ok.acts (fun u => u.updBoot fun b => { b with resetDue := some (s.now + delay.toNat * msTicks, 2) }) fun _ => rfl)

/-- Settles O31: the resets by what a device reset and a start make of each component, the stops by what a stop makes of one axis. -/
theorem resetsAct : Obligations.ResetsAct := by
  unfold Obligations.ResetsAct
  refine ⟨⟨resetNAssert_resets, powerLoss_resets, fun s down => ?_, fun s => ?_, fun s => ?_, fun s at_ cause due stopped => ?_⟩,
    fun s h ses delay ok => ?_, resetDeviceDelayEnd_stops, ccWatchdogExpiry_stops⟩
  · exact congrArg Host.Outcome.next (if_neg (by rw [down]; decide))
  · split
    · next held =>
      obtain ⟨step, cause, at_, count, armed, xspi, otp, keeps, -, axes⟩ := s.beginBoot_starts
      exact ⟨_, congrArg Host.Outcome.next (if_pos held), step, cause, at_, count, armed, xspi, otp, keeps, axes⟩
    · next runs => exact congrArg Host.Outcome.next (if_neg runs)
  · split
    · next up => exact congrArg Host.Outcome.next (if_pos up)
    · next down => exact vfdUp_darkens s (by simpa using down)
  · rw [State.resetTick_due due stopped]
    split
    · obtain ⟨step, cause, at_, count, armed, xspi, otp, keeps, now, axes⟩ := (s.deviceReset cause).beginBoot_starts
      exact ⟨step, cause, count, now⟩
    · rfl
  · exact resetDevice_completes s h ses delay ok

end Sys2Proof.Machine
end

section
/-! PROOFS. The tag's store voltage and NRST (R422 to R427, R440, R442). -/

namespace Sys2Proof.Machine

/-! ### What touches the tag alone -/

theorem TagOnly.refl (s : State) : TagOnly s s := rfl

theorem TagOnly.trans {s t u : State} (a : TagOnly s t) (b : TagOnly t u) : TagOnly s u := by
  unfold TagOnly at a b ⊢
  rw [b, a]

theorem State.updTag_tagOnly (s : State) (f : Tag → Tag) : TagOnly s (s.updTag f) := rfl

theorem State.updRam_tagOnly (s : State) (f : TagRam → TagRam) : TagOnly s (s.updRam f) := rfl

/-- A change of the tag, its value known. -/
theorem State.updTag_of {s : State} {f : Tag → Tag} (x : Tag) (same : f s.tag = x) : ({ s with tag := x } : State) = s.updTag f := by
  rw [← same]
  rfl

/-! ### The pieces of a change of power -/

/-- A verification that ends: its reply waits. -/
def TagRam.verifyStopped (r : TagRam) : TagRam :=
  if r.verifyAt.isSome then
    { r with frames := r.frames ++ [⟨false, [0x91, BitVec.ofNat 8 r.verifyId, 5, 0], none, 0, 0, false, false⟩], verifyAt := none }
  else r

theorem TagRam.verifyStopped_on {r : TagRam} (on : r.verifyAt.isSome = true) : r.verifyStopped =
    { r with frames := r.frames ++ [⟨false, [0x91, BitVec.ofNat 8 r.verifyId, 5, 0], none, 0, 0, false, false⟩], verifyAt := none } :=
  if_pos on

theorem TagRam.verifyStopped_off {r : TagRam} (off : ¬ r.verifyAt.isSome = true) : r.verifyStopped = r := if_neg off

theorem State.stopVerify_eq (s : State) : s.stopVerify = s.updRam TagRam.verifyStopped := by
  unfold State.stopVerify
  split
  · next on =>
    have ram := congrArg (fun r => { s.tag with ram := r }) (TagRam.verifyStopped_on on)
    exact State.updTag_of (f := fun t => { t with ram := t.ram.verifyStopped }) _ ram
  · next off =>
    have ram := congrArg (fun r => { s.tag with ram := r }) (TagRam.verifyStopped_off off)
    exact State.updTag_of (f := fun t => { t with ram := t.ram.verifyStopped }) s.tag ram

/-- A torn record write. -/
def Tag.torn (t : Tag) : Tag :=
  match t.ram.write with
  | some w =>
    { t with cells := bankSet t.cells w.cell (some { w.rec_ with crcOk := false }),
             ram := { t.ram with write := none, frames := t.ram.frames.drop 1 } }
  | none => t

theorem Tag.torn_some {t : Tag} {w : FcWrite} (writes : t.ram.write = some w) : t.torn =
    { t with cells := bankSet t.cells w.cell (some { w.rec_ with crcOk := false }),
             ram := { t.ram with write := none, frames := t.ram.frames.drop 1 } } := by
  rw [Tag.torn, writes]

theorem Tag.torn_none {t : Tag} (rests : t.ram.write = none) : t.torn = t := by
  rw [Tag.torn, rests]

theorem State.tearWrite_eq (s : State) : s.tearWrite = s.updTag Tag.torn := by
  unfold State.tearWrite
  split
  · next w found => exact State.updTag_of _ (Tag.torn_some found)
  · next none_ => exact State.updTag_of s.tag (Tag.torn_none none_)

/-- The tag in SLEEP after ACTIVE. -/
def Tag.slept (t : Tag) : Tag :=
  { t with st := .sleep, ram := if t.ram.verifyStopped.net = .expelled then t.ram.verifyStopped else t.ram.verifyStopped.leave .none }

theorem State.tagSleep_eq (s : State) : s.tagSleep = s.updTag Tag.slept := by
  rw [State.tagSleep, State.stopVerify_eq]
  rfl

theorem TagRam.verifyStopped_keeps (r : TagRam) : r.verifyStopped.cfg = r.cfg ∧ r.verifyStopped.net = r.net ∧
    r.verifyStopped.netId = r.netId ∧ r.verifyStopped.fc = r.fc ∧ r.verifyStopped.ovp = r.ovp ∧
    r.verifyStopped.sampledAt = r.sampledAt ∧ r.verifyStopped.verifyAt = none ∧
    r.verifyStopped.frames.any (·.onAir) = r.frames.any (·.onAir) := by
  unfold TagRam.verifyStopped
  split
  · exact ⟨rfl, rfl, rfl, rfl, rfl, rfl, rfl, by simp⟩
  · next off => exact ⟨rfl, rfl, rfl, rfl, rfl, rfl, by simpa using off, rfl⟩

theorem TagRam.unacked_keeps (r : TagRam) : r.unacked.cfg = r.cfg ∧ r.unacked.fc = r.fc ∧ r.unacked.ovp = r.ovp ∧
    r.unacked.sampledAt = r.sampledAt ∧ r.unacked.verifyAt = r.verifyAt := by
  unfold TagRam.unacked
  split
  · exact ⟨rfl, rfl, rfl, rfl, rfl⟩
  · split <;> exact ⟨rfl, rfl, rfl, rfl, rfl⟩

theorem TagRam.leave_keeps (r : TagRam) (net : TagNet) : (r.leave net).cfg = r.cfg ∧ (r.leave net).fc = r.fc ∧ (r.leave net).ovp = r.ovp ∧
    (r.leave net).sampledAt = r.sampledAt ∧ (r.leave net).verifyAt = r.verifyAt :=
  r.unacked_keeps

/-- The tag in ACTIVE. -/
def Tag.woken (now : Nat) (t : Tag) : Tag :=
  { t with st := .active,
           ram := if t.ram.net = .expelled then t.ram
             else if t.ram.netId.isNone then { t.ram.leave .search with searchCh := 0, dwellFrom := now, heardAt := now }
             else { t.ram.join with heardAt := now } }

theorem State.tagWake_eq (s : State) : s.tagWake = s.updTag (Tag.woken s.now) := rfl

theorem Tag.woken_cfg (now : Nat) (t : Tag) : (t.woken now).ram.cfg = t.ram.cfg ∧ (t.woken now).ram.ovp = t.ram.ovp ∧
    (t.woken now).ram.sampledAt = t.ram.sampledAt ∧ (t.woken now).ram.fc = t.ram.fc := by
  unfold Tag.woken
  dsimp only
  split
  · exact ⟨rfl, rfl, rfl, rfl⟩
  · split
    · obtain ⟨cfg, fc, ovp, sampled, -⟩ := t.ram.leave_keeps .search
      exact ⟨cfg, ovp, sampled, fc⟩
    · exact ⟨rfl, rfl, rfl, rfl⟩

theorem Tag.slept_cfg (t : Tag) : t.slept.ram.cfg = t.ram.cfg ∧ t.slept.ram.ovp = t.ram.ovp ∧
    t.slept.ram.sampledAt = t.ram.sampledAt ∧ t.slept.ram.verifyAt = none := by
  obtain ⟨cfg, -, -, -, ovp, sampled, verify, -⟩ := t.ram.verifyStopped_keeps
  unfold Tag.slept
  dsimp only
  split
  · exact ⟨cfg, ovp, sampled, verify⟩
  · obtain ⟨cfg', -, ovp', sampled', verify'⟩ := t.ram.verifyStopped.leave_keeps .none
    exact ⟨cfg'.trans cfg, ovp'.trans ovp, sampled'.trans sampled, verify'.trans verify⟩

/-! ### The settled state of Table 21-2 -/

/-- The tag in BOOT, DEAD, BROWNOUT. -/
def Tag.booted (t : Tag) : Tag := { t with st := .boot, ram := { TagRam.reset with ovp := t.ram.ovp } }
def Tag.died (t : Tag) : Tag := { t with st := .dead, ram := .reset }
def Tag.browned (t : Tag) : Tag :=
  { t with st := .brownout, ram := { t.ram with brownouts := satInc 65535 t.ram.brownouts, sampledAt := none } }

/-- Where the store voltage takes a tag whose NRST is high. -/
def Tag.settled (now : Nat) (t : Tag) : Tag :=
  match t.st with
  | .dead => if t.vsto < 1600 then t else if t.vsto < 1900 then { t with st := .cold } else t.booted
  | .cold => if t.vsto < 1600 then t.died else if t.vsto < 1900 then t else t.booted
  | .boot => if t.vsto < 1600 then t.died else t
  | .sleep => if t.vsto < 1600 then t.died else if t.vsto < 1950 then t.browned
      else if t.ram.cfg.vWake * 10 ≤ t.vsto then t.woken now else t
  | .active => if t.ram.cfg.vSleep * 10 ≤ t.vsto ∨ t.ram.frames.any (·.onAir) = true then t else if t.vsto < 1600 then t.died
      else if t.vsto < 1950 then t.slept.browned else t.slept
  | .brownout => if t.vsto < 1600 then t.died else if t.vsto < 2100 then t
      else if t.ram.cfg.vWake * 10 ≤ t.vsto then t.woken now else { t with st := .sleep }

/-- One move of the tag. -/
def Tag.moved (now : Nat) (t : Tag) : Tag :=
  match t.st with
  | .dead => if t.vsto < 1600 then t else { t with st := .cold }
  | .cold => if t.vsto < 1600 then t.died else if t.vsto < 1900 then t else t.booted
  | .boot => if t.vsto < 1600 then t.died else t
  | .sleep => if t.vsto < 1950 then t.browned else if t.ram.cfg.vWake * 10 ≤ t.vsto then t.woken now else t
  | .active => if t.ram.cfg.vSleep * 10 ≤ t.vsto ∨ t.ram.frames.any (·.onAir) = true then t else t.slept
  | .brownout => if t.vsto < 1600 then t.died else if t.vsto < 2100 then t else { t with st := .sleep }

theorem State.tagMove_eq (s : State) : s.tagMove = s.updTag (Tag.moved s.now) := by
  unfold State.tagMove
  dsimp only
  split <;> rename_i st
  · split
    · exact State.updTag_of _ (by rw [Tag.moved, st]; exact if_neg (by omega))
    · exact State.updTag_of s.tag (by rw [Tag.moved, st]; exact if_pos (by omega))
  · split
    · next low => exact State.updTag_of _ (by rw [Tag.moved, st]; exact if_pos low)
    · next up =>
      split
      · exact State.updTag_of _ (by rw [Tag.moved, st]; exact (if_neg up).trans (if_neg (by omega)))
      · exact State.updTag_of s.tag (by rw [Tag.moved, st]; exact (if_neg up).trans (if_pos (by omega)))
  · split
    · next low => exact State.updTag_of _ (by rw [Tag.moved, st]; exact if_pos low)
    · next up => exact State.updTag_of s.tag (by rw [Tag.moved, st]; exact if_neg up)
  · split
    · next low => exact State.updTag_of _ (by rw [Tag.moved, st]; exact if_pos low)
    · next up =>
      split
      · next wakes => exact State.updTag_of (s.tag.woken s.now) (by rw [Tag.moved, st]; exact (if_neg up).trans (if_pos wakes))
      · next stays => exact State.updTag_of s.tag (by rw [Tag.moved, st]; exact (if_neg up).trans (if_neg stays))
  · have stays_iff : s.tag.ram.cfg.vSleep * 10 ≤ s.tag.vsto ∨ s.tag.ram.frames.any (·.onAir) = true ↔
        ¬ (s.tag.vsto < s.ram.cfg.vSleep * 10 ∧ ¬ s.tagOnAir = true) := by
      rw [not_and_or, not_lt, not_not]
      rfl
    split
    · next goes =>
      rw [State.tagSleep_eq]
      exact State.updTag_of s.tag.slept (by rw [Tag.moved, st]; exact if_neg fun h => stays_iff.1 h goes)
    · next stays => exact State.updTag_of s.tag (by rw [Tag.moved, st]; exact if_pos (stays_iff.2 stays))
  · split
    · next low => exact State.updTag_of _ (by rw [Tag.moved, st]; exact if_pos low)
    · next up =>
      split
      · exact State.updTag_of _ (by rw [Tag.moved, st]; exact (if_neg up).trans (if_neg (by omega)))
      · exact State.updTag_of s.tag (by rw [Tag.moved, st]; exact (if_neg up).trans (if_pos (by omega)))

/-- From one state to any other takes at most three moves (Table 21-2). -/
theorem Tag.moved_settles (now : Nat) (t : Tag) (order : t.ram.cfg.vSleep ≤ t.ram.cfg.vWake) :
    (((t.moved now).moved now).moved now) = t.settled now := by
  have died (u : Tag) (low : u.vsto < 1600) : u.died.moved now = u.died := if_pos low
  have booted (u : Tag) (up : ¬ u.vsto < 1600) : u.booted.moved now = u.booted := if_neg up
  have browned (u : Tag) (up : ¬ u.vsto < 1600) (low : u.vsto < 2100) : u.browned.moved now = u.browned :=
    (if_neg up).trans (if_pos low)
  have browned_dies (u : Tag) (low : u.vsto < 1600) : u.browned.moved now = u.died := if_pos low
  have woken (u : Tag) (up : u.ram.cfg.vSleep * 10 ≤ u.vsto) : (u.woken now).moved now = u.woken now :=
    if_pos (.inl (by rw [(u.woken_cfg now).1]; exact up))
  have slept_falls (u : Tag) (low : u.vsto < 1950) : u.slept.moved now = u.slept.browned := if_pos low
  have slept_stays (u : Tag) (up : ¬ u.vsto < 1950) (low : ¬ u.ram.cfg.vWake * 10 ≤ u.vsto) : u.slept.moved now = u.slept :=
    (if_neg up).trans (if_neg (by rw [u.slept_cfg.1]; exact low))
  unfold Tag.settled
  cases st : t.st with
  | dead =>
    by_cases low : t.vsto < 1600
    · have rests : t.moved now = t := by rw [Tag.moved, st]; exact if_pos low
      rw [rests, rests, rests]
      exact (if_pos low).symm
    · have first : t.moved now = { t with st := .cold } := by rw [Tag.moved, st]; exact if_neg low
      rw [first]
      by_cases mid : t.vsto < 1900
      · have rests : ({ t with st := .cold } : Tag).moved now = { t with st := .cold } := (if_neg low).trans (if_pos mid)
        rw [rests, rests]
        exact ((if_neg low).trans (if_pos mid)).symm
      · have boots : ({ t with st := .cold } : Tag).moved now = t.booted := (if_neg low).trans (if_neg mid)
        rw [boots, booted t low]
        exact ((if_neg low).trans (if_neg mid)).symm
  | cold =>
    by_cases low : t.vsto < 1600
    · have first : t.moved now = t.died := by rw [Tag.moved, st]; exact if_pos low
      rw [first, died t low, died t low]
      exact (if_pos low).symm
    · by_cases mid : t.vsto < 1900
      · have rests : t.moved now = t := by rw [Tag.moved, st]; exact (if_neg low).trans (if_pos mid)
        rw [rests, rests, rests]
        exact ((if_neg low).trans (if_pos mid)).symm
      · have first : t.moved now = t.booted := by rw [Tag.moved, st]; exact (if_neg low).trans (if_neg mid)
        rw [first, booted t low, booted t low]
        exact ((if_neg low).trans (if_neg mid)).symm
  | boot =>
    by_cases low : t.vsto < 1600
    · have first : t.moved now = t.died := by rw [Tag.moved, st]; exact if_pos low
      rw [first, died t low, died t low]
      exact (if_pos low).symm
    · have rests : t.moved now = t := by rw [Tag.moved, st]; exact if_neg low
      rw [rests, rests, rests]
      exact (if_neg low).symm
  | sleep =>
    by_cases dim : t.vsto < 1950
    · have first : t.moved now = t.browned := by rw [Tag.moved, st]; exact if_pos dim
      rw [first]
      by_cases low : t.vsto < 1600
      · rw [browned_dies t low, died t low]
        exact (if_pos low).symm
      · rw [browned t low (by omega), browned t low (by omega)]
        exact ((if_neg low).trans (if_pos dim)).symm
    · have low : ¬ t.vsto < 1600 := by omega
      by_cases wakes : t.ram.cfg.vWake * 10 ≤ t.vsto
      · have first : t.moved now = t.woken now := by rw [Tag.moved, st]; exact (if_neg dim).trans (if_pos wakes)
        rw [first, woken t (by omega), woken t (by omega)]
        exact ((if_neg low).trans ((if_neg dim).trans (if_pos wakes))).symm
      · have rests : t.moved now = t := by rw [Tag.moved, st]; exact (if_neg dim).trans (if_neg wakes)
        rw [rests, rests, rests]
        exact ((if_neg low).trans ((if_neg dim).trans (if_neg wakes))).symm
  | active =>
    by_cases stays : t.ram.cfg.vSleep * 10 ≤ t.vsto ∨ t.ram.frames.any (·.onAir) = true
    · have rests : t.moved now = t := by rw [Tag.moved, st]; exact if_pos stays
      rw [rests, rests, rests]
      exact (if_pos stays).symm
    · have first : t.moved now = t.slept := by rw [Tag.moved, st]; exact if_neg stays
      rw [first]
      by_cases dim : t.vsto < 1950
      · rw [slept_falls t dim]
        by_cases low : t.vsto < 1600
        · rw [browned_dies t.slept low]
          exact ((if_neg stays).trans (if_pos low)).symm
        · rw [browned t.slept low (show t.vsto < 2100 by omega)]
          exact ((if_neg stays).trans ((if_neg low).trans (if_pos dim))).symm
      · have below : ¬ t.ram.cfg.vWake * 10 ≤ t.vsto := by
          rw [not_or] at stays
          omega
        rw [slept_stays t dim below, slept_stays t dim below]
        exact ((if_neg stays).trans ((if_neg (by omega)).trans (if_neg dim))).symm
  | brownout =>
    by_cases low : t.vsto < 1600
    · have first : t.moved now = t.died := by rw [Tag.moved, st]; exact if_pos low
      rw [first, died t low, died t low]
      exact (if_pos low).symm
    · by_cases mid : t.vsto < 2100
      · have rests : t.moved now = t := by rw [Tag.moved, st]; exact (if_neg low).trans (if_pos mid)
        rw [rests, rests, rests]
        exact ((if_neg low).trans (if_pos mid)).symm
      · have first : t.moved now = { t with st := .sleep } := by rw [Tag.moved, st]; exact (if_neg low).trans (if_neg mid)
        have dim : ¬ t.vsto < 1950 := by omega
        rw [first]
        by_cases wakes : t.ram.cfg.vWake * 10 ≤ t.vsto
        · have second : ({ t with st := .sleep } : Tag).moved now = t.woken now := (if_neg dim).trans (if_pos wakes)
          rw [second, woken t (by omega)]
          exact ((if_neg low).trans ((if_neg mid).trans (if_pos wakes))).symm
        · have rests : ({ t with st := .sleep } : Tag).moved now = { t with st := .sleep } := (if_neg dim).trans (if_neg wakes)
          rw [rests, rests]
          exact ((if_neg low).trans ((if_neg mid).trans (if_neg wakes))).symm

theorem State.tagPower_moves {s : State} (high : s.tag.nrst = true) :
    s.tagPower = s.updTag fun t => ((t.moved s.now).moved s.now).moved s.now := by
  have each (u : State) (f : Tag → Tag) : (u.updTag f).tagMove = u.updTag fun t => (f t).moved u.now := (u.updTag f).tagMove_eq
  rw [State.tagPower, if_pos high, s.tagMove_eq, each, each]

/-- Table 21-2: with NRST high the store voltage settles the tag. -/
theorem State.tagPower_eq {s : State} (high : s.tag.nrst = true) (order : s.ram.cfg.vSleep ≤ s.ram.cfg.vWake) :
    s.tagPower = s.updTag (Tag.settled s.now) := by
  rw [State.tagPower_moves high]
  exact congrArg (fun t => { s with tag := t }) (s.tag.moved_settles s.now order)

theorem State.tagPower_held {s : State} (low : s.tag.nrst = false) :
    s.tagPower = s.updTag fun t => { t with st := if t.vsto < 1600 then .dead else .cold } :=
  if_neg (by rw [low]; decide)

theorem Tag.moved_nrst (now : Nat) (t : Tag) : (t.moved now).nrst = t.nrst := by
  unfold Tag.moved
  split <;> repeat' split
  all_goals rfl

end Sys2Proof.Machine
end

section
/-! PROOFS. The rows that move the tag through Table 21-2, and its MPPT sample (R422 to R427, R440, R442). -/

namespace Sys2Proof.Machine

/-! ### What settling leaves -/

/-- The power state a voltage brings a tag to (Table 21-2). -/
def tagNext (st : TagSt) (mv vSleep vWake : Nat) (onAir : Bool) : TagSt :=
  match st with
  | .dead => if mv < 1600 then .dead else if mv < 1900 then .cold else .boot
  | .cold => if mv < 1600 then .dead else if mv < 1900 then .cold else .boot
  | .boot => if mv < 1600 then .dead else .boot
  | .sleep => if mv < 1600 then .dead else if mv < 1950 then .brownout else if vWake * 10 ≤ mv then .active else .sleep
  | .active => if vSleep * 10 ≤ mv ∨ onAir = true then .active else if mv < 1600 then .dead
      else if mv < 1950 then .brownout else .sleep
  | .brownout => if mv < 1600 then .dead else if mv < 2100 then .brownout else if vWake * 10 ≤ mv then .active else .sleep

/-- The ways settling takes: what becomes of the tag, and when. -/
theorem Tag.settled_ways (now : Nat) (t : Tag) :
    (t.settled now = t ∧ tagNext t.st t.vsto t.ram.cfg.vSleep t.ram.cfg.vWake (t.ram.frames.any (·.onAir)) = t.st) ∨
    (t.settled now = { t with st := .cold } ∧
      tagNext t.st t.vsto t.ram.cfg.vSleep t.ram.cfg.vWake (t.ram.frames.any (·.onAir)) = .cold ∧ t.st ≠ .active) ∨
    (t.settled now = t.booted ∧
      tagNext t.st t.vsto t.ram.cfg.vSleep t.ram.cfg.vWake (t.ram.frames.any (·.onAir)) = .boot ∧ t.st ≠ .active) ∨
    (t.settled now = t.died ∧ t.vsto < 1600 ∧
      tagNext t.st t.vsto t.ram.cfg.vSleep t.ram.cfg.vWake (t.ram.frames.any (·.onAir)) = .dead) ∨
    (t.settled now = t.browned ∧ t.vsto < 1950 ∧
      tagNext t.st t.vsto t.ram.cfg.vSleep t.ram.cfg.vWake (t.ram.frames.any (·.onAir)) = .brownout) ∨
    (t.settled now = t.slept.browned ∧ t.vsto < 1950 ∧
      tagNext t.st t.vsto t.ram.cfg.vSleep t.ram.cfg.vWake (t.ram.frames.any (·.onAir)) = .brownout) ∨
    (t.settled now = t.woken now ∧ 1950 ≤ t.vsto ∧ t.st ≠ .active ∧
      tagNext t.st t.vsto t.ram.cfg.vSleep t.ram.cfg.vWake (t.ram.frames.any (·.onAir)) = .active) ∨
    (t.settled now = t.slept ∧
      tagNext t.st t.vsto t.ram.cfg.vSleep t.ram.cfg.vWake (t.ram.frames.any (·.onAir)) = .sleep ∧ t.st = .active) ∨
    (t.settled now = { t with st := .sleep } ∧
      tagNext t.st t.vsto t.ram.cfg.vSleep t.ram.cfg.vWake (t.ram.frames.any (·.onAir)) = .sleep ∧ t.st = .brownout) := by
  unfold Tag.settled tagNext
  generalize kind : t.st = st
  cases st <;> dsimp only <;> split_ifs <;> simp_all
  omega

/-- Settling keeps the record cells, the voltage and NRST. -/
theorem Tag.settled_keeps (now : Nat) (t : Tag) : (t.settled now).cells = t.cells ∧ (t.settled now).vsto = t.vsto ∧
    (t.settled now).nrst = t.nrst ∧
    (t.settled now).st = tagNext t.st t.vsto t.ram.cfg.vSleep t.ram.cfg.vWake (t.ram.frames.any (·.onAir)) := by
  obtain ⟨eq, st⟩ | ⟨eq, st, -⟩ | ⟨eq, st, -⟩ | ⟨eq, -, st⟩ | ⟨eq, -, st⟩ | ⟨eq, -, st⟩ | ⟨eq, -, -, st⟩ | ⟨eq, st, -⟩ |
    ⟨eq, st, -⟩ := t.settled_ways now <;> rw [eq, st] <;> exact ⟨rfl, rfl, rfl, rfl⟩

/-- The shunt's state stands, a store below 1.6 V has none; a sample due stays due. -/
theorem Tag.settled_ovp (now : Nat) (t : Tag) (low : t.vsto < 1600 → t.ram.ovp = false) : (t.settled now).ram.ovp = t.ram.ovp ∧
    (t.ram.sampledAt = none → (t.settled now).ram.sampledAt = none) := by
  obtain ⟨eq, -⟩ | ⟨eq, -⟩ | ⟨eq, -⟩ | ⟨eq, dead, -⟩ | ⟨eq, -⟩ | ⟨eq, -⟩ | ⟨eq, -⟩ | ⟨eq, -⟩ | ⟨eq, -⟩ := t.settled_ways now <;> rw [eq]
  · exact ⟨rfl, id⟩
  · exact ⟨rfl, id⟩
  · exact ⟨rfl, fun _ => rfl⟩
  · exact ⟨(low dead).symm, fun _ => rfl⟩
  · exact ⟨rfl, fun _ => rfl⟩
  · exact ⟨t.slept_cfg.2.1, fun _ => rfl⟩
  · obtain ⟨-, ovp, sampled, -⟩ := t.woken_cfg now
    exact ⟨ovp, fun none_ => sampled.trans none_⟩
  · exact ⟨t.slept_cfg.2.1, fun none_ => t.slept_cfg.2.2.1.trans none_⟩
  · exact ⟨rfl, id⟩

/-- BOOT clears RAM. -/
theorem Tag.settled_boot {now : Nat} {t : Tag} (boots : (t.settled now).st = .boot) (other : t.st ≠ .boot) : t.settled now = t.booted := by
  obtain ⟨eq, -⟩ | ⟨eq, -⟩ | ⟨eq, -⟩ | ⟨eq, -⟩ | ⟨eq, -⟩ | ⟨eq, -⟩ | ⟨eq, -⟩ | ⟨eq, -⟩ | ⟨eq, -⟩ := t.settled_ways now
  case inr.inr.inl => exact eq
  case inl => exact absurd (by rw [← eq]; exact boots) other
  all_goals
    rw [eq] at boots
    exact absurd boots (by simp [Tag.died, Tag.browned, Tag.woken, Tag.slept])

/-- Only from SLEEP or BROWNOUT, at 1.95 V or more, does a tag wake. -/
theorem Tag.settled_active {now : Nat} {t : Tag} (wakes : (t.settled now).st = .active) (other : t.st ≠ .active) :
    t.settled now = t.woken now ∧ 1950 ≤ t.vsto := by
  obtain ⟨eq, -⟩ | ⟨eq, -⟩ | ⟨eq, -⟩ | ⟨eq, -⟩ | ⟨eq, -⟩ | ⟨eq, -⟩ | ⟨eq, up, -⟩ | ⟨eq, -⟩ | ⟨eq, -⟩ := t.settled_ways now
  case inr.inr.inr.inr.inr.inr.inl => exact ⟨eq, up⟩
  case inl => exact absurd (by rw [← eq]; exact wakes) other
  all_goals
    rw [eq] at wakes
    exact absurd wakes (by simp [Tag.booted, Tag.died, Tag.browned, Tag.slept])

theorem Tag.settled_sleep {now : Nat} {t : Tag} (sleeps : (t.settled now).st = .sleep) (from_ : t.st = .active) : t.settled now = t.slept := by
  obtain ⟨eq, -⟩ | ⟨eq, -⟩ | ⟨eq, -⟩ | ⟨eq, -⟩ | ⟨eq, -⟩ | ⟨eq, -⟩ | ⟨eq, -⟩ | ⟨eq, -⟩ | ⟨eq, -, brown⟩ := t.settled_ways now
  case inr.inr.inr.inr.inr.inr.inr.inl => exact eq
  case inr.inr.inr.inr.inr.inr.inr.inr => rw [from_] at brown; exact absurd brown (by decide)
  case inl => rw [eq, from_] at sleeps; exact absurd sleeps (by decide)
  all_goals
    rw [eq] at sleeps
    exact absurd sleeps (by simp [Tag.booted, Tag.died, Tag.browned, Tag.woken])

/-! ### TAG_VSTO_THRESHOLD -/

/-- The overvoltage flag at a voltage (R423). -/
def ovpAt (mv : Nat) (was : Bool) : Bool := if 4100 ≤ mv then true else if mv < 4000 then false else was

/-- The tag at a voltage, before it moves. -/
def Tag.atVoltage (mv : Nat) (t : Tag) : Tag :=
  { t with vsto := mv, ram := { t.ram with ovp := ovpAt mv t.ram.ovp, sampledAt := if mv < 1900 ∨ 4100 ≤ mv then none else t.ram.sampledAt } }

/-- A record write is torn, a verification ends. -/
def Tag.dips (t : Tag) (tears stops : Bool) : Tag :=
  let u := if tears then t.torn else t
  if stops then { u with ram := u.ram.verifyStopped } else u

theorem exec_tagVstoThreshold (s : State) (mv : Nat) : exec (.tagVstoThreshold mv) s = .next (State.tagPower (s.updTag fun t =>
    (t.atVoltage mv).dips (decide (mv < 1950)) (decide (mv < s.ram.cfg.vSleep * 10) && s.tagActive))) := by
  have row : exec (.tagVstoThreshold mv) s = execTagVstoThreshold mv s := rfl
  have torn (u : State) : (if mv < 1950 then u.tearWrite else u) = u.updTag fun t => if decide (mv < 1950) then t.torn else t := by
    split
    · next low => rw [u.tearWrite_eq]; simp only [low, decide_true, if_true]
    · next up => simp only [up, decide_false, Bool.false_eq_true, if_false]; rfl
  have stops (u : State) (p : Prop) [Decidable p] (b : Bool) : (if p ∧ b then u.stopVerify else u) =
      u.updTag fun t => if decide p && b then { t with ram := t.ram.verifyStopped } else t := by
    by_cases h : p ∧ b = true
    · rw [if_pos h, u.stopVerify_eq]
      simp only [h.1, h.2, decide_true, Bool.and_self, if_true]
      rfl
    · have off : (decide p && b) = false := by
        rw [← Bool.not_eq_true, Bool.and_eq_true, decide_eq_true_eq]
        exact h
      rw [if_neg h]
      simp only [off, Bool.false_eq_true, if_false]
      rfl
  rw [row, execTagVstoThreshold]
  dsimp only
  rw [torn, stops]
  rfl

theorem Tag.dips_keeps (t : Tag) (tears stops : Bool) : (t.dips tears stops).st = t.st ∧ (t.dips tears stops).vsto = t.vsto ∧
    (t.dips tears stops).nrst = t.nrst ∧ (t.dips tears stops).ram.cfg = t.ram.cfg ∧ (t.dips tears stops).ram.ovp = t.ram.ovp ∧
    (t.dips tears stops).ram.sampledAt = t.ram.sampledAt ∧ (t.dips tears stops).ram.net = t.ram.net ∧
    (t.dips tears stops).cells = (if tears then t.torn else t).cells ∧
    (t.dips false false) = t := by
  have torn : (if tears then t.torn else t).st = t.st ∧ (if tears then t.torn else t).vsto = t.vsto ∧
      (if tears then t.torn else t).nrst = t.nrst ∧ (if tears then t.torn else t).ram.cfg = t.ram.cfg ∧
      (if tears then t.torn else t).ram.ovp = t.ram.ovp ∧ (if tears then t.torn else t).ram.sampledAt = t.ram.sampledAt ∧
      (if tears then t.torn else t).ram.net = t.ram.net := by
    unfold Tag.torn
    split
    · split <;> exact ⟨rfl, rfl, rfl, rfl, rfl, rfl, rfl⟩
    · exact ⟨rfl, rfl, rfl, rfl, rfl, rfl, rfl⟩
  obtain ⟨st, vsto, nrst, cfg, ovp, sampled, net⟩ := torn
  unfold Tag.dips
  dsimp only
  split
  · obtain ⟨cfg', net', -, -, ovp', sampled', -⟩ := (if tears then t.torn else t).ram.verifyStopped_keeps
    exact ⟨st, vsto, nrst, cfg'.trans cfg, ovp'.trans ovp, sampled'.trans sampled, net'.trans net, rfl, rfl⟩
  · exact ⟨st, vsto, nrst, cfg, ovp, sampled, net, rfl, rfl⟩

/-- With nothing on air while a record is written, a dip of the voltage takes nothing off air. -/
theorem Tag.dips_onAir {t : Tag} (tears stops : Bool) (quiet : t.ram.frames.any (·.onAir) = true → t.ram.write = none) :
    (t.dips tears stops).ram.frames.any (·.onAir) = t.ram.frames.any (·.onAir) := by
  have torn : (if tears then t.torn else t).ram.frames.any (·.onAir) = t.ram.frames.any (·.onAir) := by
    split
    · cases writes : t.ram.write with
      | none => rw [Tag.torn_none writes]
      | some w =>
        have none_ : t.ram.frames.any (·.onAir) = false := by
          rw [← Bool.not_eq_true]
          exact fun on => Option.some_ne_none w (writes.symm.trans (quiet on))
        rw [Tag.torn_some writes, none_]
        rw [List.any_eq_false] at none_ ⊢
        exact fun f mem => none_ f (List.mem_of_mem_drop mem)
    · rfl
  unfold Tag.dips
  dsimp only
  split
  · exact (if tears then t.torn else t).ram.verifyStopped_keeps.2.2.2.2.2.2.2.trans torn
  · exact torn

theorem Tag.torn_cells (t : Tag) : (∀ w, t.ram.write = some w → t.torn.cells = bankSet t.cells w.cell (some { w.rec_ with crcOk := false })) ∧
    (t.ram.write = none → t.torn.cells = t.cells) :=
  ⟨fun w writes => by rw [Tag.torn_some writes], fun rests => by rw [Tag.torn_none rests]⟩

/-- A wake from a state that is not ACTIVE (R426). -/
theorem Tag.woken_net (now : Nat) (t : Tag) : (t.ram.net = .expelled → (t.woken now).ram = t.ram) ∧
    (t.ram.net ≠ .expelled → t.ram.netId = none → (t.woken now).ram.net = .search ∧ (t.woken now).ram.frames = t.ram.dataFrames) ∧
    (t.ram.net ≠ .expelled → t.ram.netId ≠ none → (t.woken now).ram.net = .joining ∧
      (t.woken now).ram.frames = joinFrame :: t.ram.dataFrames) := by
  unfold Tag.woken
  dsimp only
  refine ⟨fun out => if_pos out, fun in_ none_ => ?_, fun in_ known => ?_⟩
  · rw [if_neg in_, if_pos (by rw [none_]; rfl)]
    exact ⟨rfl, rfl⟩
  · rw [if_neg in_, if_neg (by rw [Option.isNone_iff_eq_none]; exact known)]
    exact ⟨rfl, rfl⟩

theorem Tag.slept_net {t : Tag} (in_ : t.ram.net ≠ .expelled) : t.slept.ram.net = .none ∧ t.slept.ram.gslot = none ∧
    t.slept.ram.verifyAt = none := by
  refine ⟨?_, ?_, t.slept_cfg.2.2.2⟩
  all_goals
    unfold Tag.slept
    dsimp only
    rw [if_neg (by rw [t.ram.verifyStopped_keeps.2.1]; exact in_)]
    rfl

theorem tagVstoThreshold_moves (s : State) (mv : Nat) :
    let next : TagSt :=
      if s.tag.nrst = false then if mv < 1600 then .dead else .cold
      else tagNext s.tag.st mv s.ram.cfg.vSleep s.ram.cfg.vWake s.tagOnAir
    let ovp : Bool := ovpAt mv s.ram.ovp
    (s.tagOnAir = true → s.ram.write = none) → s.ram.cfg.vSleep ≤ s.ram.cfg.vWake →
    ∃ t, exec (.tagVstoThreshold mv) s = .next t ∧ TagOnly s t ∧ t.tag.st = next ∧ t.tag.vsto = mv ∧ t.tag.nrst = s.tag.nrst ∧
      t.ram.ovp = ovp ∧ (mv < 1900 ∨ 4100 ≤ mv → t.ram.sampledAt = none) ∧
      (next = .boot → s.tag.st ≠ .boot → t.ram = { TagRam.reset with ovp := ovp }) ∧
      (next = .active → s.tag.st ≠ .active → t.ram.fc = s.ram.fc ∧
        (s.ram.net = .expelled → t.ram.net = .expelled ∧ t.ram.frames = s.ram.frames) ∧
        (s.ram.net ≠ .expelled → s.ram.netId = none → t.ram.net = .search ∧ t.ram.frames = s.ram.dataFrames) ∧
        (s.ram.net ≠ .expelled → s.ram.netId ≠ none → t.ram.net = .joining ∧ t.ram.frames = joinFrame :: s.ram.dataFrames)) ∧
      (next = .sleep → s.tag.st = .active → s.ram.net ≠ .expelled →
        t.ram.net = .none ∧ t.ram.gslot = none ∧ t.ram.verifyAt = none) ∧
      (∀ w, mv < 1950 → s.ram.write = some w → t.tag.cells = bankSet s.tag.cells w.cell (some { w.rec_ with crcOk := false })) ∧
      (1950 ≤ mv ∨ s.ram.write = none → t.tag.cells = s.tag.cells) := by
  intro next ovp quiet order
  generalize tears : decide (mv < 1950) = a
  generalize stops : (decide (mv < s.ram.cfg.vSleep * 10) && s.tagActive) = b
  have row := exec_tagVstoThreshold s mv
  rw [tears, stops] at row
  obtain ⟨st, vsto, nrst, cfg, ovp', sampled, net, cells, plain⟩ := (s.tag.atVoltage mv).dips_keeps a b
  have onAir : ((s.tag.atVoltage mv).dips a b).ram.frames.any (·.onAir) = s.tagOnAir := Tag.dips_onAir a b quiet
  have torn : (∀ w, mv < 1950 → s.ram.write = some w →
        ((s.tag.atVoltage mv).dips a b).cells = bankSet s.tag.cells w.cell (some { w.rec_ with crcOk := false })) ∧
      (1950 ≤ mv ∨ s.ram.write = none → ((s.tag.atVoltage mv).dips a b).cells = s.tag.cells) := by
    obtain ⟨some_, none_⟩ := (s.tag.atVoltage mv).torn_cells
    refine ⟨fun w low writes => ?_, fun keeps => ?_⟩
    · rw [cells, ← tears, if_pos (decide_eq_true low)]
      exact some_ w writes
    · rw [cells]
      split
      · next low =>
        rw [← tears, decide_eq_true_eq] at low
        exact none_ (keeps.resolve_left (by omega))
      · rfl
  have due : mv < 1900 ∨ 4100 ≤ mv → ((s.tag.atVoltage mv).dips a b).ram.sampledAt = none := fun out => sampled.trans (if_pos out)
  cases high : s.tag.nrst with
  | false =>
    rw [State.tagPower_held (s := s.updTag fun t => (t.atVoltage mv).dips a b) (nrst.trans high)] at row
    have held : next = if mv < 1600 then .dead else .cold := if_pos high
    have low : next ≠ .boot ∧ next ≠ .active ∧ next ≠ .sleep := by rw [held]; split <;> decide
    exact ⟨_, row, rfl, (congrArg (fun v => if v < 1600 then TagSt.dead else .cold) vsto).trans held.symm, vsto, nrst.trans high, ovp', due,
      fun boots => absurd boots low.1, fun wakes => absurd wakes low.2.1, fun sleeps => absurd sleeps low.2.2, torn⟩
  | true =>
    rw [State.tagPower_eq (s := s.updTag fun t => (t.atVoltage mv).dips a b) (nrst.trans high) ((congrArg (fun c : TagCfg => c.vSleep ≤ c.vWake) cfg).mpr order)] at row
    generalize tag : (s.tag.atVoltage mv).dips a b = d at *
    obtain ⟨keptCells, keptVsto, keptNrst, to_⟩ := d.settled_keeps s.now
    have nexts : (d.settled s.now).st = next := by
      rw [to_, st, vsto, cfg, onAir]
      exact (if_neg (by rw [high]; decide)).symm
    have ovpLow : d.vsto < 1600 → d.ram.ovp = false := by
      rw [vsto, ovp']
      intro low
      exact (if_neg (by change mv < 1600 at low; omega)).trans (if_pos (by change mv < 1600 at low; omega))
    obtain ⟨keptOvp, keptDue⟩ := d.settled_ovp s.now ovpLow
    have own : (s.updTag fun t => (t.atVoltage mv).dips a b).updTag (Tag.settled s.now) = { s with tag := d.settled s.now } := by
      rw [← tag]
      rfl
    have at_ : exec (.tagVstoThreshold mv) s = .next { s with tag := d.settled s.now } := row.trans (congrArg _ own)
    refine ⟨_, at_, rfl, nexts, keptVsto.trans vsto, (keptNrst.trans nrst).trans high, keptOvp.trans ovp', fun out => keptDue (due out),
      fun boots other => ?_, fun wakes other => ?_, fun sleeps from_ in_ => ?_, fun w low writes => keptCells.trans (torn.1 w low writes),
      fun keeps => keptCells.trans (torn.2 keeps)⟩
    · have boot := Tag.settled_boot (nexts.trans boots) (by rw [st]; exact other)
      show (d.settled s.now).ram = _
      rw [boot]
      exact congrArg (fun o => { TagRam.reset with ovp := o }) ovp'
    · obtain ⟨woke, up⟩ := Tag.settled_active (nexts.trans wakes) (by rw [st]; exact other)
      have idle : s.tagActive = false := by
        rw [State.tagActive, Bool.and_eq_false_iff, beq_eq_false_iff_ne]
        exact .inl other
      have high' : ¬ mv < 1950 := by rw [vsto] at up; exact not_lt.2 up
      rw [idle, Bool.and_false] at stops
      rw [decide_eq_false high'] at tears
      rw [← tears, ← stops, plain] at tag
      obtain ⟨-, -, -, fc⟩ := d.woken_cfg s.now
      obtain ⟨out, fresh, known⟩ := d.woken_net s.now
      show (d.settled s.now).ram.fc = _ ∧ (_ → (d.settled s.now).ram.net = _ ∧ (d.settled s.now).ram.frames = _) ∧
        (_ → _ → (d.settled s.now).ram.net = _ ∧ (d.settled s.now).ram.frames = _) ∧
        (_ → _ → (d.settled s.now).ram.net = _ ∧ (d.settled s.now).ram.frames = _)
      rw [woke]
      rw [← tag] at out fresh known fc ⊢
      exact ⟨fc, fun gone => ⟨by rw [out gone]; exact gone, by rw [out gone]; rfl⟩, fresh, known⟩
    · have slept := Tag.settled_sleep (nexts.trans sleeps) (st.trans from_)
      show (d.settled s.now).ram.net = _ ∧ (d.settled s.now).ram.gslot = _ ∧ (d.settled s.now).ram.verifyAt = _
      rw [slept]
      exact Tag.slept_net (by rw [net]; exact in_)

theorem Tag.moved_cold {now : Nat} {t : Tag} (cold : t.st = .cold) (up : ¬ t.vsto < 1600) (low : t.vsto < 1900) : t.moved now = t := by
  rw [Tag.moved, cold]
  exact (if_neg up).trans (if_pos low)

/-! ### TAG_NRST_ASSERT and TAG_NRST_RELEASE -/

theorem tagNrst_moves (s : State) : (∃ t, exec .tagNrstAssert s = .next t ∧ TagOnly s t ∧ t.tag.nrst = false ∧
      t.tag.st = (if s.tag.vsto < 1600 then .dead else .cold) ∧
      (∀ w, s.ram.write = some w → t.tag.cells = bankSet s.tag.cells w.cell (some { w.rec_ with crcOk := false })) ∧
      (s.ram.write = none → t.tag.cells = s.tag.cells)) ∧
    (s.tag.nrst = true → exec .tagNrstRelease s = .next s) ∧
    (s.tag.nrst = false → ∃ t, exec .tagNrstRelease s = .next t ∧ TagOnly s t ∧ t.tag.nrst = true ∧
      (1900 ≤ s.tag.vsto → t.tag.st = .boot ∧ t.ram = { TagRam.reset with ovp := s.ram.ovp }) ∧
      (1600 ≤ s.tag.vsto → s.tag.vsto < 1900 → s.tag.st = .cold → t.tag.st = .cold)) := by
  refine ⟨?_, fun high => congrArg Host.Outcome.next (if_pos high), fun low => ?_⟩
  · have row : exec .tagNrstAssert s = .next ((s.tearWrite.updTag fun t => { t with nrst := false }).tagPower) := rfl
    rw [State.tagPower_held rfl, s.tearWrite_eq] at row
    have vsto : s.tag.torn.vsto = s.tag.vsto := by
      unfold Tag.torn
      split <;> rfl
    obtain ⟨torn, kept⟩ := s.tag.torn_cells
    exact ⟨_, row, rfl, rfl, congrArg (fun v => if v < 1600 then TagSt.dead else .cold) vsto, torn, kept⟩
  · have row : exec .tagNrstRelease s = .next (if s.tag.vsto ≥ 1900 then (s.updTag fun t => { t with nrst := true }).tagBoot
        else (s.updTag fun t => { t with nrst := true }).tagPower) := congrArg Host.Outcome.next (if_neg (by rw [low]; decide))
    by_cases up : s.tag.vsto ≥ 1900
    · rw [if_pos up] at row
      exact ⟨_, row, rfl, rfl, fun _ => ⟨rfl, rfl⟩, fun _ below => absurd up (by omega)⟩
    · rw [if_neg up, State.tagPower_moves rfl] at row
      refine ⟨_, row, rfl, ?_, fun above => absurd above up, fun _ _ cold => ?_⟩
      · exact (Tag.moved_nrst _ _).trans ((Tag.moved_nrst _ _).trans (Tag.moved_nrst _ _))
      · have rests : ({ s.tag with nrst := true } : Tag).moved s.now = { s.tag with nrst := true } :=
          Tag.moved_cold cold (by change ¬ s.tag.vsto < 1600; omega) (by change s.tag.vsto < 1900; omega)
        refine (congrArg Tag.st ?_).trans (show ({ s.tag with nrst := true } : Tag).st = .cold from cold)
        exact (congrArg (fun u => (u.moved s.now).moved s.now) rests).trans ((congrArg (fun u => u.moved s.now) rests).trans rests)

/-! ### TAG_BOOT_DONE -/

/-- A cell's record, blank or failed cells counting as FC 0 (R427). -/
def FcCell.valid : Option FcCell → FcCell
  | some c => if c.crcOk then c else ⟨0, 0, 0, true⟩
  | none => ⟨0, 0, 0, true⟩

theorem Tag.record_eq (t : Tag) : t.record =
    if (FcCell.valid (t.cells.get 1)).fc > (FcCell.valid (t.cells.get 0)).fc then FcCell.valid (t.cells.get 1)
    else FcCell.valid (t.cells.get 0) := rfl

theorem FcCell.valid_cases (c : Option FcCell) : FcCell.valid c = ⟨0, 0, 0, true⟩ ∨ ∃ x, c = some x ∧ x.crcOk = true ∧ FcCell.valid c = x := by
  cases c with
  | none => exact .inl rfl
  | some x =>
    by_cases ok : x.crcOk = true
    · exact .inr ⟨x, rfl, ok, if_pos ok⟩
    · exact .inl (if_neg ok)

/-- The record in force is a sound cell's or none; no sound cell has a higher FC. -/
theorem Tag.record_best (t : Tag) : (∀ i c, t.cells.get i = some c → c.crcOk = true → c.fc ≤ t.record.fc) ∧
    (t.record.fc = 0 ∨ ∃ i c, t.cells.get i = some c ∧ c.crcOk = true ∧ t.record = c) := by
  have sound (i : Fin 2) (c : FcCell) (here : t.cells.get i = some c) (ok : c.crcOk = true) : FcCell.valid (t.cells.get i) = c := by
    rw [here]
    exact if_pos ok
  have from_ (i : Fin 2) : (FcCell.valid (t.cells.get i)).fc = 0 ∨
      ∃ i' c, t.cells.get i' = some c ∧ c.crcOk = true ∧ FcCell.valid (t.cells.get i) = c := by
    obtain blank | ⟨x, here, ok, eq⟩ := FcCell.valid_cases (t.cells.get i)
    · exact .inl (by rw [blank])
    · exact .inr ⟨i, x, here, ok, eq⟩
  rw [t.record_eq]
  split
  · next higher =>
    refine ⟨fun i c here ok => ?_, from_ 1⟩
    obtain rfl | rfl : i = 0 ∨ i = 1 := by omega
    all_goals rw [← sound _ c here ok]
    omega
  · next lower =>
    refine ⟨fun i c here ok => ?_, from_ 0⟩
    obtain rfl | rfl : i = 0 ∨ i = 1 := by omega
    all_goals rw [← sound _ c here ok]
    omega

/-- The tag as its firmware starts, the record read. -/
def Tag.started (ok : Bool) (t : Tag) : Tag :=
  { t with
    running := if ok then (if (t.banks.get 1).committed then 1 else 0) else (if (t.banks.get 1).committed then 1 else 0) + 1,
    cold := satInc 65535 t.record.cold, written := 0,
    ram := { t.ram with fc := (t.record.fc + 256) % 2 ^ 32, fcSaved := t.record.fc, floor := t.record.floor, fwFallback := !ok } }

theorem exec_tagBootDone {s : State} (ok : Bool) (runs : s.tag.st = .boot ∧ s.tag.nrst = true) : exec (.tagBootDone ok) s = .next
    (if s.ram.cfg.vWake * 10 ≤ s.tag.vsto then { s with tag := (s.tag.started ok).woken s.now }
      else if 2100 ≤ s.tag.vsto then { s with tag := { s.tag.started ok with st := .sleep } }
      else { s with tag := (s.tag.started ok).browned }) := congrArg Host.Outcome.next (if_pos runs)

/-- What a woken tag keeps of the record and the counter. -/
theorem Tag.woken_record (now : Nat) (t : Tag) : (t.woken now).ram.fcSaved = t.ram.fcSaved ∧ (t.woken now).ram.floor = t.ram.floor ∧
    (t.woken now).ram.fwFallback = t.ram.fwFallback := by
  have unacked : t.ram.unacked.fcSaved = t.ram.fcSaved ∧ t.ram.unacked.floor = t.ram.floor ∧
      t.ram.unacked.fwFallback = t.ram.fwFallback := by
    unfold TagRam.unacked
    split
    · exact ⟨rfl, rfl, rfl⟩
    · split <;> exact ⟨rfl, rfl, rfl⟩
  unfold Tag.woken
  dsimp only
  split
  · exact ⟨rfl, rfl, rfl⟩
  · split
    · exact unacked
    · exact ⟨rfl, rfl, rfl⟩

theorem tagBootDone_starts (s : State) (ok : Bool) : let runs : Prop := s.tag.st = .boot ∧ s.tag.nrst = true
    (¬ runs → exec (.tagBootDone ok) s = .next s) ∧
    (runs → ∃ t, exec (.tagBootDone ok) s = .next t ∧ TagOnly s t ∧ t.tag.cells = s.tag.cells ∧ t.tag.banks = s.tag.banks ∧
      t.tag.st = (if s.ram.cfg.vWake * 10 ≤ s.tag.vsto then .active else if 2100 ≤ s.tag.vsto then .sleep else .brownout) ∧
      t.ram.fc = (t.ram.fcSaved + 256) % 2 ^ 32 ∧ t.ram.fwFallback = !ok ∧
      (∀ i c, s.tag.cells.get i = some c → c.crcOk = true → c.fc ≤ t.ram.fcSaved) ∧
      ((t.ram.fcSaved = 0) ∨ ∃ i c, s.tag.cells.get i = some c ∧ c.crcOk = true ∧ t.ram.fcSaved = c.fc ∧ t.ram.floor = c.floor ∧
        t.tag.cold = satInc 65535 c.cold) ∧
      (t.tag.st = .active → s.ram.net ≠ .expelled → s.ram.netId = none →
        t.ram.net = .search ∧ t.ram.frames = s.ram.dataFrames)) := by
  intro runs
  refine ⟨fun idle => congrArg Host.Outcome.next (if_neg idle), fun run => ?_⟩
  have row := exec_tagBootDone ok run
  obtain ⟨best, from_⟩ := s.tag.record_best
  have source {saved floor cold : Nat} (a : saved = s.tag.record.fc) (b : floor = s.tag.record.floor)
      (c : cold = satInc 65535 s.tag.record.cold) : saved = 0 ∨ ∃ i c, s.tag.cells.get i = some c ∧ c.crcOk = true ∧ saved = c.fc ∧
        floor = c.floor ∧ cold = satInc 65535 c.cold := by
    subst a b c
    exact from_.imp id fun ⟨i, c, here, sound, eq⟩ => ⟨i, c, here, sound, by rw [eq], by rw [eq], by rw [eq]⟩
  by_cases high : s.ram.cfg.vWake * 10 ≤ s.tag.vsto
  · rw [if_pos high] at row
    obtain ⟨-, -, -, fc⟩ := (s.tag.started ok).woken_cfg s.now
    obtain ⟨saved, floor, fallback⟩ := (s.tag.started ok).woken_record s.now
    obtain ⟨-, fresh, -⟩ := (s.tag.started ok).woken_net s.now
    refine ⟨_, row, rfl, rfl, rfl, (if_pos high).symm, ?_, fallback, fun i c here sound => ?_,
      source saved floor rfl, fun _ in_ none_ => fresh in_ none_⟩
    · exact fc.trans (congrArg (fun n => (n + 256) % 2 ^ 32) saved.symm)
    · exact (best i c here sound).trans (le_of_eq saved.symm)
  · rw [if_neg high] at row
    by_cases mid : 2100 ≤ s.tag.vsto
    · rw [if_pos mid] at row
      exact ⟨_, row, rfl, rfl, rfl, ((if_neg high).trans (if_pos mid)).symm, rfl, rfl, best,
        source rfl rfl rfl, fun active => absurd active (show TagSt.sleep ≠ .active by decide)⟩
    · rw [if_neg mid] at row
      exact ⟨_, row, rfl, rfl, rfl, ((if_neg high).trans (if_neg mid)).symm, rfl, rfl, best,
        source rfl rfl rfl, fun active => absurd active (show TagSt.brownout ≠ .active by decide)⟩

/-! ### MPPT_SAMPLE -/

theorem mpptSample_samples (s : State) (vib teg : Nat) : exec (.mpptSample vib teg) s = .next (
    if (s.tag.st = .sleep ∨ s.tag.st = .active) ∧ 1900 ≤ s.tag.vsto ∧ s.ram.ovp = false ∧
      (∀ a, s.ram.sampledAt = some a → a + s.ram.cfg.period * 50000000 ≤ s.now) then
      s.updRam fun r => { r with
        sampledAt := some s.now, vocVib := if r.cfg.vibEn = true then min 65535 vib else r.vocVib,
        vocTeg := if r.cfg.tegEn = true then min 65535 teg else r.vocTeg }
    else s) := by
  have row : exec (.mpptSample vib teg) s = execMpptSample vib teg s := rfl
  have due : (match s.ram.sampledAt with
      | none => true
      | some t => decide (t + s.ram.cfg.period * (secTicks / 2) ≤ s.now)) = true ↔
        ∀ a, s.ram.sampledAt = some a → a + s.ram.cfg.period * 50000000 ≤ s.now := by
    cases s.ram.sampledAt with
    | none => simp
    | some a =>
      simp only [Option.some.injEq, forall_eq']
      exact decide_eq_true_iff
  have paths : s.pathsRun = true ↔ (s.tag.st = .sleep ∨ s.tag.st = .active) ∧ 1900 ≤ s.tag.vsto ∧ s.ram.ovp = false := by
    simp only [State.pathsRun, Bool.and_eq_true, decide_eq_true_eq, Bool.not_eq_true', Bool.or_eq_true, beq_iff_eq]
    tauto
  rw [row, execMpptSample]
  refine congrArg Host.Outcome.next (if_congr ?_ rfl rfl)
  rw [paths]
  exact (and_congr_right fun _ => due).trans (by tauto)

/-- Settles O45: the store's voltage settles the tag in at most three moves, each case of Table 21-2 told apart. -/
theorem tagPowerRowsAct : Obligations.TagPowerRowsAct := by
  unfold Obligations.TagPowerRowsAct
  exact ⟨tagVstoThreshold_moves, tagNrst_moves, tagBootDone_starts, mpptSample_samples⟩

end Sys2Proof.Machine
end

section
/-! PROOFS. The tag's frames: attempts, backoff, the record of its counter, the timeouts (R427, R428, R432 to R434, R441). -/

namespace Sys2Proof.Machine

theorem State.tagActive_iff {s : State} : s.tagActive = true ↔ s.tag.st = .active ∧ s.tag.nrst = true := by
  rw [State.tagActive, Bool.and_eq_true, beq_iff_eq]

/-- A tag in ACTIVE stays there while its store lasts or an exchange is on air. -/
theorem State.tagPower_stays {s : State} (active : s.tagActive = true)
    (holds : s.ram.cfg.vSleep * 10 ≤ s.tag.vsto ∨ s.tagOnAir = true) : s.tagPower = s := by
  obtain ⟨st, high⟩ := State.tagActive_iff.1 active
  have rests : s.tag.moved s.now = s.tag := by
    rw [Tag.moved, st]
    exact if_pos holds
  rw [State.tagPower_moves high, State.updTag, rests, rests, rests]

theorem State.updRam_tagPower_stays {s : State} {g : TagRam → TagRam} (active : s.tagActive = true)
    (holds : s.ram.cfg.vSleep * 10 ≤ s.tag.vsto ∨ (g s.ram).frames.any (·.onAir) = true) (cfg : (g s.ram).cfg = s.ram.cfg) :
    (s.updRam g).tagPower = s.updRam g :=
  State.tagPower_stays active (holds.imp (fun h => by rw [show (s.updRam g).ram.cfg = s.ram.cfg from cfg]; exact h) id)

/-! ### TAG_CONTENTION_TX -/

/-- What a contention attempt that may be made does. -/
theorem exec_tagContentionTx {s : State} (clear : Bool) {f : TagFrame} {fs : List TagFrame} (active : s.tagActive = true)
    (first : s.ram.frames = f :: fs) (off : f.onAir = false) (rests : s.ram.write = none) (lets : s.ram.net.lets f = true) :
    exec (.tagContentionTx clear) s = .next (
      if s.ram.fcFail then s
      else if f.mpdu = none ∧ s.ram.fc % 256 = 0 ∧ s.ram.fcSaved ≠ s.ram.fc then s.startRecord
      else if clear = true ∧ exchangeFits s.ram.kHeld (Config.tagRandom s.draws % 2 ^ s.ram.be) f.len = true then
        { s with
          draws := s.draws + 1, out := s.out ++ [Out.radio false s.ram.channel (f.mpdu.getD (s.firstAttempt f))],
          tag := { s.tag with ram := { s.ram with
            frames := { f with mpdu := some (f.mpdu.getD (s.firstAttempt f)), onAir := true,
                               seq := if f.mpdu.isNone then s.ram.frameSeq else f.seq } :: fs,
            fc := if f.mpdu.isNone then (s.ram.fc + 1) % 2 ^ 32 else s.ram.fc,
            frameSeq := if f.mpdu.isNone then (s.ram.frameSeq + 1) % 256 else s.ram.frameSeq } } }
      else { s with draws := s.draws + 1 }.attemptFailed) := by
  have row : exec (.tagContentionTx clear) s = execTagContentionTx clear s := rfl
  rw [row, execTagContentionTx]
  dsimp only
  rw [first]
  refine congrArg Host.Outcome.next ((if_pos ⟨active, lets, by rw [off]; decide, by rw [rests]; rfl⟩).trans ?_)
  refine if_congr Iff.rfl rfl (if_congr ?_ rfl rfl)
  rw [Option.isNone_iff_eq_none]

/-- How new a cell's record is: 0 for a blank or failed cell. -/
def FcCell.age : Option FcCell → Nat
  | some c => if c.crcOk then c.fc + 1 else 0
  | none => 0

/-- The cell that is not in force (R427). -/
def Tag.olderCell (t : Tag) : Fin 2 := if FcCell.age (t.cells.get 0) ≤ FcCell.age (t.cells.get 1) then 0 else 1

theorem Tag.olderCell_le (t : Tag) : FcCell.age (t.cells.get t.olderCell) ≤ FcCell.age (t.cells.get (t.olderCell + 1)) := by
  unfold Tag.olderCell
  split
  · next older => exact older
  · next newer => exact Nat.le_of_lt (not_le.1 newer)

/-- The record goes into the cell that is not in force (R427). -/
theorem State.startRecord_writes {s : State} (up : 2100 ≤ s.tag.vsto) : ∃ w, s.startRecord = s.updRam (fun r => { r with write := some w }) ∧
    w.rec_ = ⟨s.ram.fc, s.ram.floor, s.tag.cold, true⟩ ∧ w.startAt = s.now ∧ w.second = false ∧
    ∀ a b, s.tag.cells.get w.cell = some a → s.tag.cells.get (w.cell + 1) = some b → a.crcOk = true → b.crcOk = true ∧ a.fc ≤ b.fc := by
  have row : s.startRecord = s.updRam fun r =>
      { r with write := some ⟨s.tag.olderCell, ⟨r.fc, r.floor, s.tag.cold, true⟩, s.now, false⟩ } := if_pos up
  refine ⟨_, row, rfl, rfl, rfl, fun a b here there sound => ?_⟩
  have older := s.tag.olderCell_le
  rw [here, there] at older
  have own : FcCell.age (some a) = a.fc + 1 := if_pos sound
  by_cases ok : b.crcOk = true
  · have other : FcCell.age (some b) = b.fc + 1 := if_pos ok
    exact ⟨ok, by omega⟩
  · have other : FcCell.age (some b) = 0 := if_neg ok
    omega

/-- A failed attempt before the fourth. -/
theorem State.attemptFailed_again {s : State} {f : TagFrame} {fs : List TagFrame} (first : s.ram.frames = f :: fs) (few : f.attempts < 3) :
    s.attemptFailed = s.updRam fun r => { r with frames := { f with attempts := f.attempts + 1, onAir := false } :: fs, be := min 5 (r.be + 1) } := by
  unfold State.attemptFailed
  rw [first]
  exact if_neg (by omega)

/-- The fourth failed attempt of a JOIN. -/
theorem State.attemptFailed_join {s : State} {f : TagFrame} {fs : List TagFrame} (first : s.ram.frames = f :: fs) (spent : ¬ f.attempts < 3)
    (join : f.join = true) : s.attemptFailed = s.updRam fun r => { r with
      frames := r.dataFrames, be := 3, net := .backoff (s.now + (16 + Config.tagRandom s.draws % 240) * msTicks) } := by
  unfold State.attemptFailed
  rw [first]
  exact (if_pos (by omega)).trans (if_pos join)

/-- The fourth failed attempt of a DATA frame. -/
theorem State.attemptFailed_data {s : State} {f : TagFrame} {fs : List TagFrame} (first : s.ram.frames = f :: fs) (spent : ¬ f.attempts < 3)
    (data : ¬ f.join = true) : s.attemptFailed = s.updRam fun r => { r with frames := fs, be := 3, noAck := satInc 65535 r.noAck } := by
  unfold State.attemptFailed
  rw [first]
  exact (if_pos (by omega)).trans (if_neg data)

/-- Whatever a failed attempt comes to, it touches the tag's RAM, but not its counter, its settings or its power. -/
theorem State.attemptFailed_keeps (s : State) : TagOnly s s.attemptFailed ∧ s.attemptFailed.out = s.out ∧ s.attemptFailed.ram.fc = s.ram.fc ∧
    s.attemptFailed.tag.st = s.tag.st ∧ s.attemptFailed.tag.nrst = s.tag.nrst ∧ s.attemptFailed.tag.vsto = s.tag.vsto ∧
    s.attemptFailed.ram.cfg = s.ram.cfg := by
  unfold State.attemptFailed
  split
  · exact ⟨rfl, rfl, rfl, rfl, rfl, rfl, rfl⟩
  · dsimp only
    split
    · split <;> exact ⟨rfl, rfl, rfl, rfl, rfl, rfl, rfl⟩
    · exact ⟨rfl, rfl, rfl, rfl, rfl, rfl, rfl⟩

theorem tagContentionTx_attempts (s : State) (clear : Bool) (f : TagFrame) (fs : List TagFrame) (active : s.tagActive = true)
    (first : s.ram.frames = f :: fs) (off : f.onAir = false) (rests : s.ram.write = none) (lets : s.ram.net.lets f = true) :
    let r := s.ram
    let c := Config.tagRandom s.draws % 2 ^ r.be
    let mustSave : Prop := f.mpdu = none ∧ r.fc % 256 = 0 ∧ r.fcSaved ≠ r.fc
    (r.fcFail = true → exec (.tagContentionTx clear) s = .next s) ∧
    (r.fcFail = false → mustSave → s.tag.vsto < 2100 → exec (.tagContentionTx clear) s = .next s) ∧
    (r.fcFail = false → mustSave → 2100 ≤ s.tag.vsto → ∃ t w, exec (.tagContentionTx clear) s = .next t ∧ TagOnly s t ∧
      t.ram = { r with write := some w } ∧ w.rec_ = ⟨r.fc, r.floor, s.tag.cold, true⟩ ∧ w.startAt = s.now ∧ w.second = false ∧
      ∀ a b, s.tag.cells.get w.cell = some a → s.tag.cells.get (w.cell + 1) = some b → a.crcOk = true → b.crcOk = true ∧ a.fc ≤ b.fc) ∧
    (r.fcFail = false → ¬ mustSave →
      (clear = true → exchangeFits r.kHeld c f.len = true → ∃ t g, exec (.tagContentionTx clear) s = .next t ∧ TagOnly s t ∧
        t.ram.frames = g :: fs ∧ g.onAir = true ∧ g.attempts = f.attempts ∧ g.mpdu = some (f.mpdu.getD (s.firstAttempt f)) ∧
        t.out = s.out ++ [Out.radio false r.channel (f.mpdu.getD (s.firstAttempt f))] ∧
        t.ram.fc = (if f.mpdu = none then (r.fc + 1) % 2 ^ 32 else r.fc)) ∧
      (clear = false ∨ exchangeFits r.kHeld c f.len = false → ∃ t, exec (.tagContentionTx clear) s = .next t ∧ TagOnly s t ∧
        t.out = s.out ∧ t.ram.fc = r.fc ∧ (f.attempts < 3 → t.ram.be = min 5 (r.be + 1) ∧
          t.ram.frames = { f with attempts := f.attempts + 1, onAir := false } :: fs))) := by
  intro r c mustSave
  have row := exec_tagContentionTx clear active first off rests lets
  refine ⟨fun fails => ?_, fun works save low => ?_, fun works save up => ?_, fun works go => ⟨fun air fits => ?_, fun blocked => ?_⟩⟩
  · rw [if_pos fails] at row
    exact row
  all_goals rw [if_neg (by rw [show s.ram.fcFail = false from works]; decide)] at row
  · rw [if_pos save] at row
    exact row.trans (congrArg _ (if_neg (by omega)))
  · rw [if_pos save] at row
    obtain ⟨w, writes, facts⟩ := State.startRecord_writes up
    exact ⟨_, w, row.trans (congrArg _ writes), rfl, rfl, facts⟩
  · rw [if_neg go, if_pos ⟨air, fits⟩] at row
    exact ⟨_, _, row, rfl, rfl, rfl, rfl, rfl, rfl, if_congr Option.isNone_iff_eq_none rfl rfl⟩
  · have stop : ¬ (clear = true ∧ exchangeFits r.kHeld c f.len = true) := by
      rintro ⟨air, fits⟩
      exact blocked.elim (fun h => Bool.false_ne_true (h.symm.trans air)) fun h => Bool.false_ne_true (h.symm.trans fits)
    rw [if_neg go, if_neg stop] at row
    obtain ⟨only, out, fc, -⟩ := State.attemptFailed_keeps { s with draws := s.draws + 1 }
    refine ⟨_, row, (show TagOnly s { s with draws := s.draws + 1 } from rfl).trans only, out, fc, fun few => ?_⟩
    rw [State.attemptFailed_again (s := { s with draws := s.draws + 1 }) first few]
    exact ⟨rfl, rfl⟩

/-! ### TAG_ACK_TIMEOUT and ACK -/

theorem State.attemptFailed_stays {s : State} (active : s.tagActive = true) (holds : s.ram.cfg.vSleep * 10 ≤ s.tag.vsto) :
    s.attemptFailed.tagPower = s.attemptFailed := by
  obtain ⟨-, -, -, st, nrst, vsto, cfg⟩ := s.attemptFailed_keeps
  obtain ⟨act, high⟩ := State.tagActive_iff.1 active
  exact State.tagPower_stays (State.tagActive_iff.2 ⟨st.trans act, nrst.trans high⟩) (.inl (by rw [cfg, vsto]; exact holds))

theorem tagAck_settles (s : State) (f : TagFrame) (fs : List TagFrame) (active : s.tagActive = true)
    (first : s.ram.frames = f :: fs) (on : f.onAir = true) (holds : s.ram.cfg.vSleep * 10 ≤ s.tag.vsto) :
    let r := s.ram
    (∃ t, exec .tagAckTimeout s = .next t ∧ TagOnly s t ∧ t.out = s.out ∧ t.tag.st = .active ∧
      if f.attempts < 3 then t.ram.frames = { f with attempts := f.attempts + 1, onAir := false } :: fs ∧
        t.ram.be = min 5 (r.be + 1) ∧ t.ram.net = r.net ∧ t.ram.noAck = r.noAck
      else if f.join = true then t.ram.frames = r.dataFrames ∧
        ∃ d, t.ram.net = .backoff (s.now + d * 100000) ∧ 16 ≤ d ∧ d ≤ 255
      else t.ram.frames = fs ∧ t.ram.be = 3 ∧ t.ram.noAck = satInc 65535 r.noAck ∧ t.ram.net = r.net) ∧
    (f.seq < 256 → ∃ t, exec (.ack false (BitVec.ofNat 8 f.seq)) s = .next t ∧ TagOnly s t ∧
      if f.restart = true then t.tag.st = .boot ∧ t.ram = { TagRam.reset with ovp := r.ovp }
      else t.ram.frames = fs ∧ t.ram.be = 3 ∧ t.ram.heardAt = s.now ∧
        t.ram.net = if f.join = true then .awaitAdmit (s.now + 6400000) else r.net) := by
  intro r
  refine ⟨?_, fun small => ?_⟩
  · have row : exec .tagAckTimeout s = execTagAckTimeout s := rfl
    rw [execTagAckTimeout, first] at row
    dsimp only at row
    rw [if_pos ⟨active, on⟩, State.attemptFailed_stays active holds] at row
    obtain ⟨only, out, -, st, -⟩ := s.attemptFailed_keeps
    refine ⟨_, row, only, out, st.trans (State.tagActive_iff.1 active).1, ?_⟩
    split
    · next few =>
      rw [State.attemptFailed_again first few]
      exact ⟨rfl, rfl, rfl, rfl⟩
    · next spent =>
      split
      · next join =>
        rw [State.attemptFailed_join first spent join]
        exact ⟨rfl, 16 + Config.tagRandom s.draws % 240, rfl, by omega, by omega⟩
      · next data =>
        rw [State.attemptFailed_data first spent data]
        exact ⟨rfl, rfl, rfl, rfl⟩
  · have row : exec (.ack false (BitVec.ofNat 8 f.seq)) s = .next (s.tagAck (BitVec.ofNat 8 f.seq).toNat) := rfl
    rw [BitVec.toNat_ofNat, Nat.mod_eq_of_lt small, State.tagAck, first] at row
    dsimp only at row
    rw [if_pos ⟨active, on, rfl⟩] at row
    split
    · next restart =>
      rw [if_pos restart] at row
      exact ⟨_, row, rfl, rfl, rfl⟩
    · next goes =>
      exact ⟨_, row.trans (congrArg _ ((if_neg goes).trans (State.updRam_tagPower_stays active (.inl holds) rfl))), rfl, rfl, rfl, rfl, rfl⟩

/-! ### The timeouts -/

theorem tagJoin_again (s : State) : let joins : State := s.updRam fun r => { r with net := .joining, frames := joinFrame :: r.dataFrames, be := 3 }
    (∀ d, s.ram.net = .backoff d → exec .joinBackoffEnd s = .next (if d ≤ s.now then joins else s)) ∧
    (∀ d, s.ram.net = .awaitAdmit d → exec .admitWaitTimeout s = .next (if d ≤ s.now then joins else s)) := by
  intro joins
  refine ⟨fun d waits => ?_, fun d waits => ?_⟩
  · have row : exec .joinBackoffEnd s = execJoinBackoffEnd s := rfl
    rw [row, execJoinBackoffEnd, waits]
    rfl
  · have row : exec .admitWaitTimeout s = execAdmitWaitTimeout s := rfl
    rw [row, execAdmitWaitTimeout, waits]
    rfl

theorem heardTimeout_reports (s : State) (active : s.tagActive = true) (in_ : s.ram.net = .admitted) :
    if s.ram.heardAt + s.ram.cfg.heardMs * 100000 ≤ s.now then
      (∀ g, s.ram.gslot = some g → exec .heardTimeout s = .next (s.updRam fun r => { r with report := some ⟨3, 0, 0, none, 0⟩ })) ∧
      (s.ram.gslot = none → ∃ f, exec .heardTimeout s = .next (s.updRam fun r => { r with frames := r.frames ++ [f] }) ∧
        f.join = false ∧ f.mpdu = none ∧ f.payload =
          [0x40, 0, 4, 0] ++ le 2 s.tag.vsto ++ [0, 0] ++ le 4 s.ram.fc)
    else exec .heardTimeout s = .next s := by
  split
  · next late =>
    have row : exec .heardTimeout s = _ := congrArg Host.Outcome.next (if_pos ⟨active, in_, late⟩)
    refine ⟨fun g slot => ?_, fun none_ => ?_⟩
    · rw [if_pos (by rw [slot]; rfl)] at row
      exact row
    · rw [if_neg (by rw [none_]; decide), (State.tagActive_iff.1 active).1] at row
      exact ⟨_, row, rfl, rfl, rfl⟩
  · next early => exact congrArg Host.Outcome.next (if_neg fun h => early h.2.2)

theorem fcRecordWriteDone_ends (s : State) (w : FcWrite) (writes : s.ram.write = some w) :
    let torn := some { w.rec_ with crcOk := false }
    (s.now < w.startAt + 200000 → ∀ ok, exec (.fcRecordWriteDone ok) s = .next s) ∧
    (w.startAt + 200000 ≤ s.now →
      (∃ t, exec (.fcRecordWriteDone true) s = .next t ∧ TagOnly s t ∧ t.tag.cells = bankSet s.tag.cells w.cell (some w.rec_) ∧
        t.ram = { s.ram with write := none, fcSaved := w.rec_.fc }) ∧
      ∃ t, exec (.fcRecordWriteDone false) s = .next t ∧ TagOnly s t ∧ t.tag.cells = bankSet s.tag.cells w.cell torn ∧
        t.ram = (if w.second = true then { s.ram with write := none, fcFail := true }
          else { s.ram with write := some { w with cell := w.cell + 1, second := true, startAt := s.now } })) := by
  intro torn
  have row (ok : Bool) : exec (.fcRecordWriteDone ok) s = execFcRecordWriteDone ok s := rfl
  simp only [execFcRecordWriteDone, writes] at row
  refine ⟨fun early ok => (row ok).trans (congrArg _ (if_neg (by change ¬ w.startAt + 200000 ≤ s.now; omega))), fun late => ⟨?_, ?_⟩⟩
  · exact ⟨_, (row true).trans (congrArg _ ((if_pos late).trans (if_pos rfl))), rfl, rfl, rfl⟩
  · have failed := (row false).trans (congrArg _ ((if_pos late).trans (if_neg (by decide))))
    split
    · next second => exact ⟨_, failed.trans (congrArg _ (if_pos second)), rfl, rfl, rfl⟩
    · next first => exact ⟨_, failed.trans (congrArg _ (if_neg first)), rfl, rfl, rfl⟩

/-- Settles O47: each attempt by the branch it takes, its record, its repeat or its end. -/
theorem tagSendsAct : Obligations.TagSendsAct := by
  unfold Obligations.TagSendsAct
  exact ⟨tagContentionTx_attempts, tagAck_settles, tagJoin_again, heardTimeout_reports, fcRecordWriteDone_ends⟩

end Sys2Proof.Machine
end

section
/-! PROOFS. The tag's scans, its slot, beacons and searches (R426, R429 to R431, R435). -/

namespace Sys2Proof.Machine

/-! ### Masks, peaks, channels -/

theorem maskOf_succ (n : Nat) (p : Nat → Bool) : maskOf (n + 1) p = maskOf n p + bitAt n (p n) := by
  rw [maskOf, List.range_succ, List.foldl_append]
  rfl

theorem maskOf_lt (n : Nat) (p : Nat → Bool) : maskOf n p < 2 ^ n := by
  induction n with
  | zero => exact Nat.zero_lt_one
  | succ n ih =>
    rw [maskOf_succ, bitAt, pow_succ]
    split <;> omega

/-- The bits of a mask. -/
theorem maskOf_testBit (n : Nat) (p : Nat → Bool) (i : Nat) : (maskOf n p).testBit i = (decide (i < n) && p i) := by
  induction n with
  | zero => simp [maskOf]
  | succ n ih =>
    rw [maskOf_succ, Nat.add_comm, bitAt]
    obtain below | rfl | above := Nat.lt_trichotomy i n
    · rw [decide_eq_true (by omega : i < n + 1)]
      rw [decide_eq_true below] at ih
      split
      · rw [Nat.testBit_two_pow_add_gt below, ih]
      · rw [Nat.zero_add, ih]
    · rw [decide_eq_true (Nat.lt_succ_self i), Bool.true_and]
      have none_ : (maskOf i p).testBit i = false := Nat.testBit_lt_two_pow (maskOf_lt i p)
      cases p i
      · rw [if_neg (by decide), Nat.zero_add, none_]
      · rw [if_pos rfl, Nat.testBit_two_pow_add_eq, none_]
        rfl
    · rw [decide_eq_false (by omega), Bool.false_and]
      refine Nat.testBit_lt_two_pow (lt_of_lt_of_le ?_ (Nat.pow_le_pow_right (by decide) (show n + 1 ≤ i by omega)))
      have low := maskOf_lt n p
      rw [pow_succ]
      split <;> omega

/-- The largest of a list that is not empty. -/
theorem foldl_max_zero {l : List Nat} (some_ : l ≠ []) : l.foldl max 0 ∈ l ∧ ∀ x ∈ l, x ≤ l.foldl max 0 := by
  rw [List.foldl_max, Nat.max_eq_right (Nat.zero_le _)]
  cases best : l.max? with
  | none => exact absurd (List.max?_eq_none_iff.1 best) some_
  | some m => exact List.max?_eq_some_iff.1 best

/-- The lowest channel of a mask (R435). -/
theorem nextChannel_lowest {mask c : Nat} (lt : c < 16) (on : mask.testBit c = true) :
    mask.testBit (nextChannel mask 15) = true ∧ nextChannel mask 15 ≤ c := by
  have order : ((List.range 16).map fun d => (15 + 1 + d) % 16) = List.range 16 := by decide
  rw [nextChannel, order]
  cases found : (List.range 16).find? fun c => mask.testBit c with
  | none => exact absurd on (by simpa using List.find?_range_eq_none.1 found c lt)
  | some x =>
    obtain ⟨bit, -, first⟩ := List.find?_range_eq_some.1 found
    refine ⟨bit, ?_⟩
    by_contra above
    have off := first c (not_le.1 above)
    rw [on] at off
    exact absurd off (by decide)

/-! ### What a scan decides, in its steps (R430) -/

/-- Consecutive scans with a taxel at CONTACT_TH, this one included. -/
def TagRam.hiOf (r : TagRam) (codes : List Nat) : Nat :=
  if (codes.any fun c => decide (c ≥ r.cfg.contactTh)) ∧ ¬ r.contact then r.hiRun + 1 else 0

/-- Consecutive scans with every taxel below RELEASE_TH, this one included. -/
def TagRam.loOf (r : TagRam) (codes : List Nat) : Nat :=
  if (codes.all fun c => decide (c < r.cfg.releaseTh)) ∧ r.contact then r.loRun + 1 else 0

/-- How far the codes moved since the scan before. -/
def TagRam.moveOf (r : TagRam) (codes : List Nat) (failed : List Bool) : Nat :=
  if r.prev.isEmpty then 0
  else (((codes.zip r.prev).zip failed).map fun p => if p.2 then 0 else p.1.1 - p.1.2 + (p.1.2 - p.1.1)).sum

/-- Consecutive scans that move by SLIP_TH in contact, this one included. -/
def TagRam.slipRunOf (r : TagRam) (codes : List Nat) (failed : List Bool) : Nat :=
  if r.contact && decide (r.moveOf codes failed ≥ r.cfg.slipTh) then r.slipRun + 1 else 0

/-- This scan is a slip. -/
def TagRam.slips (r : TagRam) (codes : List Nat) (failed : List Bool) : Bool :=
  decide (r.slipRunOf codes failed ≥ r.cfg.slipN) && r.slipArmed

/-- The runs counted, a slip noted. -/
def TagRam.scanned (r : TagRam) (codes : List Nat) (failed : List Bool) : TagRam :=
  let r1 := { r with
    hiRun := r.hiOf codes, loRun := r.loOf codes, slipRun := r.slipRunOf codes failed,
    slipArmed := (r.slipArmed || decide (r.moveOf codes failed < r.cfg.slipTh)) && !r.slips codes failed, prev := codes }
  if r.slips codes failed then { r1 with slip := some ⟨2, r1.peak, r1.mask, none, 0⟩ } else r1

/-- Contact is made, or ends. -/
def TagRam.touched (r : TagRam) (hi : Nat) : TagRam :=
  if hi ≥ 2 then TagRam.enqueue { r with contact := true, hiRun := 0, reportIn := 0 } 0 else r
def TagRam.lifted (r : TagRam) (lo : Nat) : TagRam :=
  if lo ≥ 2 then TagRam.enqueue { r with contact := false, loRun := 0, slipRun := 0, slipArmed := true } 1 else r

/-- The report every REPORT_SF superframes of contact. -/
def TagRam.reported (r : TagRam) : TagRam :=
  if r.contact ∧ r.cfg.reportSf ≠ 0 then
    if r.reportIn + 1 ≥ r.cfg.reportSf then
      if r.slip.isNone ∧ r.queue.isEmpty ∧ r.retry.isEmpty ∧ r.sent.isNone then
        { r with reportIn := 0, report := some ⟨3, r.peak, r.mask, none, 0⟩ }
      else { r with reportIn := 0 }
    else { r with reportIn := r.reportIn + 1 }
  else r

theorem TagRam.decideScan_eq (r : TagRam) (codes : List Nat) (failed : List Bool) : r.decideScan codes failed =
    (((r.scanned codes failed).touched (r.hiOf codes)).lifted (r.loOf codes)).reported := rfl

theorem TagRam.reported_shape (r : TagRam) : ∃ n e, r.reported = { r with reportIn := n, report := e } := by
  unfold TagRam.reported
  repeat' split
  all_goals exact ⟨_, _, rfl⟩

theorem TagRam.enqueue_shape (r : TagRam) (kind : Nat) : ∃ q n, r.enqueue kind = { r with queue := q, evDrop := n } ∧
    (r.queue.length < 8 → q = r.queue ++ [⟨kind, r.peak, r.mask, none, 0⟩]) := by
  unfold TagRam.enqueue
  split
  · exact ⟨_, _, rfl, fun _ => rfl⟩
  · next full => exact ⟨_, _, rfl, fun room => absurd room full⟩

/-- The runs and the slip are all that counting a scan changes. -/
theorem TagRam.scanned_shape (r : TagRam) (codes : List Nat) (failed : List Bool) : ∃ hi lo run, r.scanned codes failed =
    { r with hiRun := hi, loRun := lo, slipRun := run, prev := codes,
             slipArmed := (r.slipArmed || decide (r.moveOf codes failed < r.cfg.slipTh)) && !r.slips codes failed,
             slip := if r.slips codes failed then some ⟨2, r.peak, r.mask, none, 0⟩ else r.slip } := by
  unfold TagRam.scanned
  dsimp only
  split
  · exact ⟨_, _, _, rfl⟩
  · exact ⟨_, _, _, rfl⟩

/-- A scan out of contact. -/
theorem TagRam.decideScan_apart {r : TagRam} (codes : List Nat) (failed : List Bool) (apart : r.contact = false) :
    ∃ hi lo run n e q m, r.decideScan codes failed = { r with
      hiRun := hi, loRun := lo, slipRun := run, prev := codes, reportIn := n, report := e, evDrop := m,
      slipArmed := (r.slipArmed || decide (r.moveOf codes failed < r.cfg.slipTh)) && !r.slips codes failed,
      slip := if r.slips codes failed then some ⟨2, r.peak, r.mask, none, 0⟩ else r.slip,
      contact := decide (2 ≤ r.hiOf codes), queue := q } ∧
      (2 ≤ r.hiOf codes → r.queue.length < 8 → q = r.queue ++ [⟨0, r.peak, r.mask, none, 0⟩]) := by
  obtain ⟨hi, lo, run, counted⟩ := r.scanned_shape codes failed
  have low : r.loOf codes = 0 := if_neg (by rw [apart]; simp)
  have rests (u : TagRam) : u.lifted (r.loOf codes) = u := by rw [low]; rfl
  rw [TagRam.decideScan_eq, rests, counted]
  by_cases made : 2 ≤ r.hiOf codes
  · obtain ⟨q, m, queued, room⟩ := TagRam.enqueue_shape { r.scanned codes failed with contact := true, hiRun := 0, reportIn := 0 } 0
    rw [counted] at queued room
    have touched : TagRam.touched _ (r.hiOf codes) = _ := (if_pos made).trans queued
    obtain ⟨n, e, rep⟩ := TagRam.reported_shape (TagRam.touched _ (r.hiOf codes))
    rw [rep, touched, decide_eq_true made]
    exact ⟨_, _, _, _, _, _, _, rfl, fun _ => room⟩
  · have touched (u : TagRam) : u.touched (r.hiOf codes) = u := if_neg made
    obtain ⟨n, e, rep⟩ := TagRam.reported_shape (TagRam.touched _ (r.hiOf codes))
    rw [rep, touched, decide_eq_false made, ← apart]
    exact ⟨_, _, _, _, _, _, _, rfl, fun h => absurd h made⟩

/-- A scan in contact. -/
theorem TagRam.decideScan_touching {r : TagRam} (codes : List Nat) (failed : List Bool) (touching : r.contact = true) :
    ∃ hi lo run n e q m a, r.decideScan codes failed = { r with
      hiRun := hi, loRun := lo, slipRun := run, prev := codes, reportIn := n, report := e, evDrop := m, slipArmed := a,
      slip := if r.slips codes failed then some ⟨2, r.peak, r.mask, none, 0⟩ else r.slip,
      contact := !decide (2 ≤ r.loOf codes), queue := q } ∧
      (2 ≤ r.loOf codes → a = true ∧ (r.queue.length < 8 → q = r.queue ++ [⟨1, r.peak, r.mask, none, 0⟩])) ∧
      (¬ 2 ≤ r.loOf codes → a = ((r.slipArmed || decide (r.moveOf codes failed < r.cfg.slipTh)) && !r.slips codes failed) ∧
        (r.slips codes failed = false → r.slip = none → r.queue = [] → r.retry = [] → r.sent = none → r.cfg.reportSf ≠ 0 →
          r.cfg.reportSf ≤ r.reportIn + 1 → e = some ⟨3, r.peak, r.mask, none, 0⟩)) := by
  obtain ⟨hi, lo, run, counted⟩ := r.scanned_shape codes failed
  have high : r.hiOf codes = 0 := if_neg (by rw [touching]; simp)
  have touched (u : TagRam) : u.touched (r.hiOf codes) = u := by rw [high]; rfl
  rw [TagRam.decideScan_eq, touched, counted]
  by_cases ends : 2 ≤ r.loOf codes
  · obtain ⟨q, m, queued, room⟩ := TagRam.enqueue_shape
      { r.scanned codes failed with contact := false, loRun := 0, slipRun := 0, slipArmed := true } 1
    rw [counted] at queued room
    have lifted : TagRam.lifted _ (r.loOf codes) = _ := (if_pos ends).trans queued
    obtain ⟨n, e, rep⟩ := TagRam.reported_shape (TagRam.lifted _ (r.loOf codes))
    rw [rep, lifted, decide_eq_true ends]
    exact ⟨_, _, _, _, _, _, _, _, rfl, fun _ => ⟨rfl, room⟩, fun h => absurd ends h⟩
  · have lifted (u : TagRam) : u.lifted (r.loOf codes) = u := if_neg ends
    have contact : (!decide (2 ≤ r.loOf codes)) = r.contact := by rw [decide_eq_false ends, touching]; rfl
    rw [lifted, contact]
    generalize eq : ({ r with
      hiRun := hi, loRun := lo, slipRun := run, prev := codes,
      slipArmed := (r.slipArmed || decide (r.moveOf codes failed < r.cfg.slipTh)) && !r.slips codes failed,
      slip := if r.slips codes failed then some ⟨2, r.peak, r.mask, none, 0⟩ else r.slip } : TagRam) = u
    by_cases due : (r.slips codes failed = false ∧ r.slip = none ∧ r.queue = [] ∧ r.retry = [] ∧ r.sent = none ∧ r.cfg.reportSf ≠ 0 ∧
        r.cfg.reportSf ≤ r.reportIn + 1)
    · obtain ⟨still, slip, queue, retry, sent, on, over_⟩ := due
      have rep : u.reported = { u with reportIn := 0, report := some ⟨3, u.peak, u.mask, none, 0⟩ } := by
        rw [← eq]
        refine (if_pos ⟨touching, on⟩).trans ((if_pos over_).trans (if_pos ⟨?_, ?_, ?_, ?_⟩))
        · rw [still, slip]; rfl
        · rw [queue]; rfl
        · rw [retry]; rfl
        · rw [sent]; rfl
      rw [rep, ← eq]
      exact ⟨_, _, _, _, _, _, _, _, rfl, fun h => absurd h ends, fun _ => ⟨rfl, fun _ _ _ _ _ _ _ => rfl⟩⟩
    · obtain ⟨n, e, rep⟩ := u.reported_shape
      rw [rep, ← eq]
      exact ⟨_, _, _, _, _, _, _, _, rfl, fun h => absurd h ends,
        fun _ => ⟨rfl, fun still slip queue retry sent on over_ => absurd ⟨still, slip, queue, retry, sent, on, over_⟩ due⟩⟩

/-- A quick move in contact is a slip while armed; a slow one is none and arms. -/
theorem TagRam.slips_quick {r : TagRam} {codes : List Nat} {failed : List Bool} (touching : r.contact = true)
    (quick : r.cfg.slipTh ≤ r.moveOf codes failed) (enough : r.cfg.slipN ≤ r.slipRun + 1) (armed : r.slipArmed = true) :
    r.slips codes failed = true := by
  have run : r.slipRunOf codes failed = r.slipRun + 1 := if_pos (by simp [touching, quick])
  simp [TagRam.slips, run, enough, armed]

theorem TagRam.slips_slow {r : TagRam} {codes : List Nat} {failed : List Bool} (slow : r.moveOf codes failed < r.cfg.slipTh)
    (some_ : r.cfg.slipN ≠ 0) : r.slips codes failed = false := by
  have run : r.slipRunOf codes failed = 0 := if_neg (by simp [slow])
  have none_ : ¬ 0 ≥ r.cfg.slipN := by omega
  simp [TagRam.slips, run, none_]

/-! ### The taxels (R429) -/

/-- The taxels as a scan reads them. -/
def TagRam.readTaxels (r : TagRam) (caps : Vector Nat 16) : Vector Taxel 16 := Vector.ofFn fun i : Fin 16 => (r.taxels.get i).scan (caps.get i)

/-- A taxel touches: its electrode sound, its code at CONTACT_TH. -/
def TagRam.touchBit (r : TagRam) (xs : Vector Taxel 16) (i : Nat) : Bool :=
  match xs[i]? with
  | some x => !x.failed && decide (x.code ≥ r.cfg.contactTh)
  | none => false

/-- What a scan decides from. -/
def TagRam.beforeScan (r : TagRam) (caps : Vector Nat 16) : TagRam :=
  { r with
    taxels := if r.scans + 1 ≥ 64 ∧ ¬ r.contact then Vector.ofFn fun i : Fin 16 => ((r.readTaxels caps).get i).drift (caps.get i)
      else r.readTaxels caps,
    scans := if r.scans + 1 ≥ 64 then 0 else r.scans + 1,
    mask := maskOf 16 (r.touchBit (r.readTaxels caps)),
    peak := ((r.readTaxels caps).toList.map (·.code)).foldl max 0 }

theorem TagRam.decideScan_gslot (r : TagRam) (codes : List Nat) (failed : List Bool) : (r.decideScan codes failed).gslot = r.gslot := by
  cases kind : r.contact with
  | false =>
    obtain ⟨_, _, _, _, _, _, _, eq, -⟩ := TagRam.decideScan_apart codes failed kind
    rw [eq]
  | true =>
    obtain ⟨_, _, _, _, _, _, _, _, eq, -⟩ := TagRam.decideScan_touching codes failed kind
    rw [eq]

/-- A tag with a slot reports nothing by DATA frames. -/
theorem State.tagReports_slot {s : State} {g : TagRam → TagRam} (slot : s.ram.gslot ≠ none) (keeps : (g s.ram).gslot = s.ram.gslot) :
    (s.updRam g).tagReports = s.updRam g :=
  if_neg fun h => slot (keeps.symm.trans h.2)

/-- What a scan makes of the tag's RAM. -/
def TagRam.afterScan (r : TagRam) (caps : Vector Nat 16) : TagRam :=
  (r.beforeScan caps).decideScan ((r.readTaxels caps).toList.map (·.code)) ((r.readTaxels caps).toList.map (·.failed))

theorem exec_taxelScan {s : State} (caps : Vector Nat 16) (active : s.tagActive = true) (slot : s.ram.gslot ≠ none) :
    exec (.taxelScan caps) s = .next (s.updRam (·.afterScan caps)) := by
  have row : exec (.taxelScan caps) s = .next (State.tagReports (s.updRam (·.afterScan caps))) :=
    congrArg Host.Outcome.next (if_pos active)
  rw [row, State.tagReports_slot slot (TagRam.decideScan_gslot _ _ _)]

end Sys2Proof.Machine
end

section
/-! PROOFS. What a scan of the taxels comes to (R429, R430). -/

namespace Sys2Proof.Machine

/-- The baseline a scan measures from, and the code it reads. -/
def Taxel.scanBase (x : Taxel) (cap : Nat) : Nat := if x.baseSet = true then x.base else cap
def Taxel.scanCode (x : Taxel) (cap : Nat) : Nat :=
  if 1000 ≤ cap ∧ cap ≤ 40000 then (clampI 0 4095 (rne ((cap : Int) - x.scanBase cap) 2)).toNat else 0

/-- One taxel at one scan: its code, whether its electrode failed, its baseline. -/
theorem Taxel.scan_reads (x : Taxel) (cap : Nat) : (x.scan cap).code = x.scanCode cap ∧
    ((x.scan cap).failed = true ↔ ¬ (1000 ≤ cap ∧ cap ≤ 40000)) ∧
    (1000 ≤ cap ∧ cap ≤ 40000 → (x.scan cap).base = x.scanBase cap) := by
  unfold Taxel.scan
  split
  · next bad =>
    have out : ¬ (1000 ≤ cap ∧ cap ≤ 40000) := by omega
    exact ⟨(if_neg out).symm, iff_of_true rfl out, fun good => absurd good out⟩
  · next fine =>
    have in_ : 1000 ≤ cap ∧ cap ≤ 40000 := by omega
    exact ⟨(if_pos in_).symm, iff_of_false Bool.false_ne_true (not_not.2 in_), fun _ => rfl⟩

theorem Taxel.drift_keeps (x : Taxel) (cap : Nat) : (x.drift cap).code = x.code ∧ (x.drift cap).failed = x.failed := by
  unfold Taxel.drift
  split <;> exact ⟨rfl, rfl⟩

/-- The code each taxel reads. -/
def TagRam.codeAt (r : TagRam) (caps : Vector Nat 16) (i : Fin 16) : Nat := (r.taxels.get i).scanCode (caps.get i)

theorem TagRam.readTaxels_get (r : TagRam) (caps : Vector Nat 16) (i : Fin 16) :
    (r.readTaxels caps).get i = (r.taxels.get i).scan (caps.get i) := by
  rw [TagRam.readTaxels, Vector.get_eq_getElem, Vector.getElem_ofFn]

theorem TagRam.readTaxels_getElem (r : TagRam) (caps : Vector Nat 16) {n : Nat} (lt : n < 16) :
    (r.readTaxels caps)[n] = (r.taxels.get ⟨n, lt⟩).scan (caps.get ⟨n, lt⟩) := r.readTaxels_get caps ⟨n, lt⟩

theorem TagRam.beforeScan_peak (r : TagRam) (caps : Vector Nat 16) :
    (r.beforeScan caps).peak = ((r.readTaxels caps).toList.map (·.code)).foldl max 0 := by
  simp only [TagRam.beforeScan]

theorem TagRam.beforeScan_mask (r : TagRam) (caps : Vector Nat 16) : 
    (r.beforeScan caps).mask = maskOf 16 (r.touchBit (r.readTaxels caps)) := rfl

theorem TagRam.beforeScan_taxels (r : TagRam) (caps : Vector Nat 16) : (r.beforeScan caps).taxels =
    if r.scans + 1 ≥ 64 ∧ ¬ r.contact then Vector.ofFn fun i : Fin 16 => ((r.readTaxels caps).get i).drift (caps.get i)
    else r.readTaxels caps := rfl

/-- The codes as a list. -/
theorem TagRam.codes_eq (r : TagRam) (caps : Vector Nat 16) : (r.readTaxels caps).toList.map (·.code) = List.ofFn (r.codeAt caps) := by
  refine List.ext_getElem (by simp) fun n lt _ => ?_
  have bound : n < 16 := by simpa using lt
  rw [List.getElem_map, List.getElem_ofFn, Vector.getElem_toList, r.readTaxels_getElem caps bound]
  exact (Taxel.scan_reads _ _).1

theorem TagRam.failed_eq (r : TagRam) (caps : Vector Nat 16) : (r.readTaxels caps).toList.map (·.failed) =
    List.ofFn fun i : Fin 16 => !decide (1000 ≤ caps.get i ∧ caps.get i ≤ 40000) := by
  refine List.ext_getElem (by simp) fun n lt _ => ?_
  have bound : n < 16 := by simpa using lt
  rw [List.getElem_map, List.getElem_ofFn, Vector.getElem_toList, r.readTaxels_getElem caps bound]
  rw [Bool.eq_iff_iff, (Taxel.scan_reads _ _).2.1, Bool.not_eq_true', decide_eq_false_iff_not]

/-- The largest code is the peak. -/
theorem TagRam.peak_best (r : TagRam) (caps : Vector Nat 16) : (∀ i, r.codeAt caps i ≤ (r.beforeScan caps).peak) ∧
    ∃ i, r.codeAt caps i = (r.beforeScan caps).peak := by
  have peak : (r.beforeScan caps).peak = (List.ofFn (r.codeAt caps)).foldl max 0 := by rw [r.beforeScan_peak, r.codes_eq]
  obtain ⟨mem, best⟩ := foldl_max_zero (l := List.ofFn (r.codeAt caps)) (by simp)
  rw [peak]
  exact ⟨fun i => best _ (List.mem_ofFn.2 ⟨i, rfl⟩), List.mem_ofFn.1 mem⟩

/-- The mask names the taxels at CONTACT_TH. -/
theorem TagRam.mask_bit (r : TagRam) (caps : Vector Nat 16) (i : Fin 16) : (r.beforeScan caps).mask.testBit i.val = true ↔
    (1000 ≤ caps.get i ∧ caps.get i ≤ 40000) ∧ r.cfg.contactTh ≤ r.codeAt caps i := by
  have here : (r.readTaxels caps)[i.val]? = some ((r.taxels.get i).scan (caps.get i)) := by
    rw [Vector.getElem?_eq_getElem i.isLt, ← r.readTaxels_get, Vector.get_eq_getElem]
  have bit : (r.beforeScan caps).mask.testBit i.val =
      (decide (i.val < 16) && (!((r.taxels.get i).scan (caps.get i)).failed &&
        decide (((r.taxels.get i).scan (caps.get i)).code ≥ r.cfg.contactTh))) := by
    rw [r.beforeScan_mask, maskOf_testBit, TagRam.touchBit, here]
  obtain ⟨code, failed, -⟩ := (r.taxels.get i).scan_reads (caps.get i)
  rw [bit, decide_eq_true i.isLt, Bool.true_and, Bool.and_eq_true, decide_eq_true_eq, code, Bool.not_eq_true', ← Bool.not_eq_true,
    failed, not_not]
  rfl

/-- The taxels after a scan. -/
theorem TagRam.beforeScan_taxel (r : TagRam) (caps : Vector Nat 16) (i : Fin 16) :
    ((r.beforeScan caps).taxels.get i).code = r.codeAt caps i ∧
    (((r.beforeScan caps).taxels.get i).failed = true ↔ ¬ (1000 ≤ caps.get i ∧ caps.get i ≤ 40000)) ∧
    (1000 ≤ caps.get i ∧ caps.get i ≤ 40000 → r.contact = true ∨ r.scans + 1 < 64 →
      ((r.beforeScan caps).taxels.get i).base = (r.taxels.get i).scanBase (caps.get i)) := by
  obtain ⟨code, failed, base⟩ := (r.taxels.get i).scan_reads (caps.get i)
  rw [r.beforeScan_taxels]
  split
  · next moves =>
    have here : (Vector.ofFn fun i : Fin 16 => ((r.readTaxels caps).get i).drift (caps.get i)).get i =
        ((r.taxels.get i).scan (caps.get i)).drift (caps.get i) := by
      rw [Vector.get_eq_getElem, Vector.getElem_ofFn, r.readTaxels_get]
    obtain ⟨code', failed'⟩ := ((r.taxels.get i).scan (caps.get i)).drift_keeps (caps.get i)
    rw [here, code', failed']
    refine ⟨code, failed, fun _ stays => ?_⟩
    exact stays.elim (fun touching => absurd touching moves.2) fun early => absurd moves.1 (by omega)
  · rw [r.readTaxels_get]
    exact ⟨code, failed, fun good _ => base good⟩

/-- How far the sound codes moved from sixteen earlier ones. -/
theorem moves_eq {prev : List Nat} (full : prev.length = 16) (code : Fin 16 → Nat) (good : Fin 16 → Prop) [DecidablePred good] :
    (((List.ofFn code).zip prev).zip (List.ofFn fun i => !decide (good i))).map (fun p => if p.2 then 0 else p.1.1 - p.1.2 + (p.1.2 - p.1.1)) =
      (List.finRange 16).map fun i => if good i then code i - prev.getD i.val 0 + (prev.getD i.val 0 - code i) else 0 := by
  refine List.ext_getElem (by simp [full]) fun n lt lt' => ?_
  have bound : n < 16 := by simpa using lt'
  have old : prev.getD n 0 = prev[n] := by rw [List.getD_eq_getElem?_getD, List.getElem?_eq_getElem (by omega)]; rfl
  simp only [List.getElem_map, List.getElem_zip, List.getElem_ofFn, List.getElem_finRange, Fin.val_cast, old]
  by_cases fine : good ⟨n, bound⟩
  · rw [decide_eq_true fine, Bool.not_true, if_neg Bool.false_ne_true]
    exact (if_pos fine).symm
  · rw [decide_eq_false fine, Bool.not_false, if_pos rfl]
    exact (if_neg fine).symm

/-- The distance the sound codes moved. -/
def TagRam.movedBy (r : TagRam) (caps : Vector Nat 16) : Nat :=
  ((List.finRange 16).map fun i => if 1000 ≤ caps.get i ∧ caps.get i ≤ 40000 then
    r.codeAt caps i - r.prev.getD i.val 0 + (r.prev.getD i.val 0 - r.codeAt caps i) else 0).sum

theorem TagRam.moveOf_eq {r : TagRam} (caps : Vector Nat 16) (full : r.prev.length = 16) :
    r.moveOf (List.ofFn (r.codeAt caps))
      (List.ofFn fun i : Fin 16 => !decide (1000 ≤ caps.get i ∧ caps.get i ≤ 40000)) =
    r.movedBy caps := by
  have some_ : ¬ r.prev.isEmpty = true := by
    rw [List.isEmpty_iff]
    intro none_
    rw [none_] at full
    exact absurd full (by decide)
  exact (if_neg some_).trans (congrArg List.sum (moves_eq full (r.codeAt caps) fun i => 1000 ≤ caps.get i ∧ caps.get i ≤ 40000))

/-! ### TAXEL_SCAN -/

theorem TagRam.any_high (r : TagRam) (caps : Vector Nat 16) (th : Nat) :
    ((List.ofFn (r.codeAt caps)).any fun c => decide (c ≥ th)) = true ↔ ∃ i, th ≤ r.codeAt caps i := by
  simp only [List.any_eq_true, List.mem_ofFn, decide_eq_true_eq]
  exact ⟨fun ⟨_, ⟨i, rfl⟩, h⟩ => ⟨i, h⟩, fun ⟨i, h⟩ => ⟨_, ⟨i, rfl⟩, h⟩⟩

theorem TagRam.all_low (r : TagRam) (caps : Vector Nat 16) (th : Nat) :
    ((List.ofFn (r.codeAt caps)).all fun c => decide (c < th)) = true ↔ ∀ i, r.codeAt caps i < th := by
  simp only [List.all_eq_true, List.mem_ofFn, decide_eq_true_eq]
  exact ⟨fun h i => h _ ⟨i, rfl⟩, fun h _ ⟨i, eq⟩ => eq ▸ h i⟩

theorem TagRam.hi_enough {r : TagRam} (caps : Vector Nat 16) (apart : r.contact = false) :
    2 ≤ r.hiOf (List.ofFn (r.codeAt caps)) ↔ 1 ≤ r.hiRun ∧ ∃ i, r.cfg.contactTh ≤ r.codeAt caps i := by
  have high := r.any_high caps r.cfg.contactTh
  unfold TagRam.hiOf
  split
  · next made =>
    have some_ := high.1 made.1
    exact ⟨fun h => ⟨Nat.le_of_succ_le_succ h, some_⟩, fun h => Nat.succ_le_succ h.1⟩
  · next not_ =>
    exact iff_of_false (by omega) fun h => not_ ⟨high.2 h.2, by rw [apart]; decide⟩

theorem TagRam.lo_enough {r : TagRam} (caps : Vector Nat 16) (touching : r.contact = true) :
    2 ≤ r.loOf (List.ofFn (r.codeAt caps)) ↔ 1 ≤ r.loRun ∧ ∀ i, r.codeAt caps i < r.cfg.releaseTh := by
  have low := r.all_low caps r.cfg.releaseTh
  unfold TagRam.loOf
  split
  · next ends =>
    have all := low.1 ends.1
    exact ⟨fun h => ⟨Nat.le_of_succ_le_succ h, all⟩, fun h => Nat.succ_le_succ h.1⟩
  · next not_ => exact iff_of_false (by omega) fun h => not_ ⟨low.2 h.2, touching⟩

/-- A scan's outcome out of contact and in it. -/
theorem TagRam.afterScan_eq (r : TagRam) (caps : Vector Nat 16) : r.afterScan caps =
    (r.beforeScan caps).decideScan (List.ofFn (r.codeAt caps))
      (List.ofFn fun i : Fin 16 => !decide (1000 ≤ caps.get i ∧ caps.get i ≤ 40000)) := by
  rw [TagRam.afterScan, r.codes_eq, r.failed_eq]

theorem TagRam.beforeScan_shape (r : TagRam) (caps : Vector Nat 16) : ∃ x n m p, r.beforeScan caps =
    { r with taxels := x, scans := n, mask := m, peak := p } := ⟨_, _, _, _, rfl⟩

section
variable {r u : TagRam} {codes : List Nat} {failed : List Bool} {x : Vector Taxel 16} {n m p : Nat}
  (scan : u = ({ r with taxels := x, scans := n, mask := m, peak := p } : TagRam).decideScan codes failed)
include scan

/-- A scan out of contact. -/
theorem TagRam.scan_apart (apart : r.contact = false) :
    (u.cfg = r.cfg ∧ u.prev = codes ∧ u.taxels = x ∧ u.mask = m ∧ u.peak = p) ∧ u.contact = decide (2 ≤ r.hiOf codes) ∧
    (u.contact = true → r.queue.length < 8 → u.queue = r.queue ++ [⟨0, u.peak, u.mask, none, 0⟩]) ∧
    (r.cfg.slipN ≠ 0 → r.moveOf codes failed < r.cfg.slipTh → u.slip = r.slip ∧ u.slipArmed = true) := by
  obtain ⟨hi, lo, run, n', e, q, m', eq, queued⟩ := TagRam.decideScan_apart
    (r := { r with taxels := x, scans := n, mask := m, peak := p }) codes failed apart
  rw [← scan] at eq
  subst eq
  refine ⟨⟨rfl, rfl, rfl, rfl, rfl⟩, rfl, fun made room => queued (of_decide_eq_true made) room, fun some_ slow => ?_⟩
  have still : TagRam.slips { r with taxels := x, scans := n, mask := m, peak := p } codes failed = false := TagRam.slips_slow slow some_
  have arms : decide (TagRam.moveOf { r with taxels := x, scans := n, mask := m, peak := p } codes failed < r.cfg.slipTh) = true :=
    decide_eq_true slow
  dsimp only
  rw [still, arms, Bool.or_true]
  exact ⟨rfl, rfl⟩

/-- A scan in contact. -/
theorem TagRam.scan_touching (touching : r.contact = true) :
    (u.cfg = r.cfg ∧ u.prev = codes ∧ u.taxels = x ∧ u.mask = m ∧ u.peak = p) ∧ u.contact = !decide (2 ≤ r.loOf codes) ∧
    (u.contact = false → r.queue.length < 8 → u.queue = r.queue ++ [⟨1, u.peak, u.mask, none, 0⟩]) ∧
    (r.cfg.slipTh ≤ r.moveOf codes failed → r.cfg.slipN ≤ r.slipRun + 1 → r.slipArmed = true →
      u.slip = some ⟨2, u.peak, u.mask, none, 0⟩ ∧ (u.contact = true → u.slipArmed = false)) ∧
    (r.cfg.slipN ≠ 0 → r.moveOf codes failed < r.cfg.slipTh → (u.slip = r.slip ∧ u.slipArmed = true) ∧
      (u.contact = true → r.slip = none → r.queue = [] → r.retry = [] → r.sent = none → r.cfg.reportSf ≠ 0 →
        r.cfg.reportSf ≤ r.reportIn + 1 → u.report = some ⟨3, u.peak, u.mask, none, 0⟩)) := by
  obtain ⟨hi, lo, run, n', e, q, m', a, eq, ended, stays⟩ := TagRam.decideScan_touching
    (r := { r with taxels := x, scans := n, mask := m, peak := p }) codes failed touching
  rw [← scan] at eq
  subst eq
  refine ⟨⟨rfl, rfl, rfl, rfl, rfl⟩, rfl, fun made room => ?_, fun quick enough armed => ?_, fun some_ slow => ⟨?_, fun made => ?_⟩⟩
  · exact (ended (of_decide_eq_true ((Bool.not_eq_false' _).mp made))).2 room
  · have slips : TagRam.slips { r with taxels := x, scans := n, mask := m, peak := p } codes failed = true :=
      TagRam.slips_quick touching quick enough armed
    dsimp only
    rw [if_pos slips]
    refine ⟨rfl, fun made => ?_⟩
    rw [(stays (of_decide_eq_false ((Bool.not_eq_true' _).mp made))).1, slips, Bool.not_true, Bool.and_false]
  · have still : TagRam.slips { r with taxels := x, scans := n, mask := m, peak := p } codes failed = false := TagRam.slips_slow slow some_
    have arms : decide (TagRam.moveOf { r with taxels := x, scans := n, mask := m, peak := p } codes failed < r.cfg.slipTh) = true :=
      decide_eq_true slow
    dsimp only
    rw [still]
    refine ⟨rfl, ?_⟩
    by_cases ends : 2 ≤ TagRam.loOf { r with taxels := x, scans := n, mask := m, peak := p } codes
    · exact (ended ends).1
    · rw [(stays ends).1, still]
      dsimp only
      rw [arms, Bool.or_true]
      rfl
  · exact (stays (of_decide_eq_false ((Bool.not_eq_true' _).mp made))).2 (TagRam.slips_slow slow some_)

end

/-- A scan of the taxels: its codes, mask and peak, contact, slip and report. -/
theorem TagRam.afterScan_decides (r : TagRam) (caps : Vector Nat 16) {u : TagRam} (after : r.afterScan caps = u) :
    (u.cfg = r.cfg ∧ u.prev.length = 16 ∧
    (∀ i, (u.taxels.get i).code = r.codeAt caps i ∧ ((u.taxels.get i).failed = true ↔ ¬ (1000 ≤ caps.get i ∧ caps.get i ≤ 40000)) ∧
      u.prev[i.val]? = some (r.codeAt caps i) ∧ r.codeAt caps i ≤ u.peak ∧
      (u.mask.testBit i.val = true ↔ (1000 ≤ caps.get i ∧ caps.get i ≤ 40000) ∧ r.cfg.contactTh ≤ r.codeAt caps i) ∧
      (1000 ≤ caps.get i ∧ caps.get i ≤ 40000 → r.contact = true ∨ r.scans + 1 < 64 →
        (u.taxels.get i).base = (r.taxels.get i).scanBase (caps.get i))) ∧
    (∃ i, r.codeAt caps i = u.peak)) ∧
    (r.contact = false → u.contact = decide (1 ≤ r.hiRun ∧ ∃ i, r.cfg.contactTh ≤ r.codeAt caps i)) ∧
    (r.contact = false → u.contact = true → r.queue.length < 8 → u.queue = r.queue ++ [⟨0, u.peak, u.mask, none, 0⟩]) ∧
    (r.contact = true → u.contact = !decide (1 ≤ r.loRun ∧ ∀ i, r.codeAt caps i < r.cfg.releaseTh)) ∧
    (r.contact = true → u.contact = false → r.queue.length < 8 → u.queue = r.queue ++ [⟨1, u.peak, u.mask, none, 0⟩]) ∧
    (r.prev.length = 16 → r.contact = true → r.cfg.slipTh ≤ r.movedBy caps → r.cfg.slipN ≤ r.slipRun + 1 → r.slipArmed = true →
      u.slip = some ⟨2, u.peak, u.mask, none, 0⟩ ∧ (u.contact = true → u.slipArmed = false)) ∧
    (r.prev.length = 16 → r.cfg.slipN ≠ 0 → r.movedBy caps < r.cfg.slipTh → u.slip = r.slip ∧ u.slipArmed = true) ∧
    (r.prev.length = 16 → r.cfg.slipN ≠ 0 → r.contact = true → u.contact = true → r.movedBy caps < r.cfg.slipTh → r.slip = none →
      r.queue = [] → r.retry = [] → r.sent = none → r.cfg.reportSf ≠ 0 → r.cfg.reportSf ≤ r.reportIn + 1 →
      u.report = some ⟨3, u.peak, u.mask, none, 0⟩) := by
  obtain ⟨x, n, m, p, shape⟩ := r.beforeScan_shape caps
  have scan := after.symm.trans (r.afterScan_eq caps)
  obtain ⟨best, top⟩ := r.peak_best caps
  have taxels := r.beforeScan_taxel caps
  have bits := r.mask_bit caps
  rw [shape] at scan best top
  simp only [shape] at taxels bits
  have show_ (shown : u.cfg = r.cfg ∧ u.prev = List.ofFn (r.codeAt caps) ∧ u.taxels = x ∧ u.mask = m ∧ u.peak = p) :
      u.cfg = r.cfg ∧ u.prev.length = 16 ∧
      (∀ i, (u.taxels.get i).code = r.codeAt caps i ∧ ((u.taxels.get i).failed = true ↔ ¬ (1000 ≤ caps.get i ∧ caps.get i ≤ 40000)) ∧
        u.prev[i.val]? = some (r.codeAt caps i) ∧ r.codeAt caps i ≤ u.peak ∧
        (u.mask.testBit i.val = true ↔ (1000 ≤ caps.get i ∧ caps.get i ≤ 40000) ∧ r.cfg.contactTh ≤ r.codeAt caps i) ∧
        (1000 ≤ caps.get i ∧ caps.get i ≤ 40000 → r.contact = true ∨ r.scans + 1 < 64 →
          (u.taxels.get i).base = (r.taxels.get i).scanBase (caps.get i))) ∧
      ∃ i, r.codeAt caps i = u.peak := by
    obtain ⟨cfg, prev, tax, mask, peak⟩ := shown
    rw [prev, tax, mask, peak]
    refine ⟨cfg, List.length_ofFn, fun i => ?_, top⟩
    obtain ⟨code, failed, base⟩ := taxels i
    exact ⟨code, failed, by rw [List.getElem?_ofFn, dif_pos i.isLt], best i, bits i, base⟩
  cases kind : r.contact with
  | false =>
    obtain ⟨shown, contact, queued, slow⟩ := TagRam.scan_apart scan kind
    have made : u.contact = decide (1 ≤ r.hiRun ∧ ∃ i, r.cfg.contactTh ≤ r.codeAt caps i) :=
      contact.trans (decide_eq_decide.2 (TagRam.hi_enough caps kind))
    rw [kind] at show_
    refine ⟨show_ shown, fun _ => made, fun _ => queued, fun h => absurd h Bool.false_ne_true, fun h => absurd h Bool.false_ne_true,
      fun _ h => absurd h Bool.false_ne_true, fun full some_ moved => slow some_ ((TagRam.moveOf_eq caps full).trans_lt moved),
      fun _ _ h => absurd h Bool.false_ne_true⟩
  | true =>
    obtain ⟨shown, contact, queued, quick, slow⟩ := TagRam.scan_touching scan kind
    have made : u.contact = !decide (1 ≤ r.loRun ∧ ∀ i, r.codeAt caps i < r.cfg.releaseTh) :=
      contact.trans (congrArg not (decide_eq_decide.2 (TagRam.lo_enough caps kind)))
    rw [kind] at show_
    refine ⟨show_ shown, fun h => absurd h.symm Bool.false_ne_true, fun h => absurd h.symm Bool.false_ne_true, fun _ => made,
      fun _ => queued, fun full _ moved => quick (moved.trans_eq (TagRam.moveOf_eq caps full).symm),
      fun full some_ moved => (slow some_ ((TagRam.moveOf_eq caps full).trans_lt moved)).1,
      fun full some_ _ stays moved => (slow some_ ((TagRam.moveOf_eq caps full).trans_lt moved)).2 stays⟩

end Sys2Proof.Machine
end

section
/-! PROOFS. The tag's scan, slot, beacon and search rows (R426, R429 to R431, R435). -/

namespace Sys2Proof.Machine

theorem State.updRam_const (s : State) (f : TagRam → TagRam) : s.updRam f = s.updRam fun _ => f s.ram := rfl

theorem taxelScan_decides (s : State) (caps : Vector Nat 16) (active : s.tagActive = true) (slot : s.ram.gslot ≠ none) :
    let r := s.ram
    let good (i : Fin 16) : Prop := 1000 ≤ caps.get i ∧ caps.get i ≤ 40000
    let base (i : Fin 16) : Nat := if (r.taxels.get i).baseSet = true then (r.taxels.get i).base else caps.get i
    let code (i : Fin 16) : Nat := if good i then (clampI 0 4095 (rne ((caps.get i : Int) - base i) 2)).toNat else 0
    let moved : Nat := ((List.finRange 16).map fun i =>
      if good i then code i - r.prev.getD i.val 0 + (r.prev.getD i.val 0 - code i) else 0).sum
    ∃ t, exec (.taxelScan caps) s = .next t ∧ TagOnly s t ∧ t.tag.st = .active ∧ t.ram.cfg = r.cfg ∧ t.ram.prev.length = 16 ∧
      (∀ i, (t.ram.taxels.get i).code = code i ∧ ((t.ram.taxels.get i).failed = true ↔ ¬ good i) ∧
        t.ram.prev[i.val]? = some (code i) ∧ code i ≤ t.ram.peak ∧
        (t.ram.mask.testBit i.val = true ↔ good i ∧ r.cfg.contactTh ≤ code i) ∧
        (good i → r.contact = true ∨ r.scans + 1 < 64 → (t.ram.taxels.get i).base = base i)) ∧
      (∃ i, code i = t.ram.peak) ∧
      (r.contact = false → t.ram.contact = decide (1 ≤ r.hiRun ∧ ∃ i, r.cfg.contactTh ≤ code i)) ∧
      (r.contact = false → t.ram.contact = true → r.queue.length < 8 →
        t.ram.queue = r.queue ++ [⟨0, t.ram.peak, t.ram.mask, none, 0⟩]) ∧
      (r.contact = true → t.ram.contact = !decide (1 ≤ r.loRun ∧ ∀ i, code i < r.cfg.releaseTh)) ∧
      (r.contact = true → t.ram.contact = false → r.queue.length < 8 →
        t.ram.queue = r.queue ++ [⟨1, t.ram.peak, t.ram.mask, none, 0⟩]) ∧
      (r.prev.length = 16 → r.contact = true → r.cfg.slipTh ≤ moved → r.cfg.slipN ≤ r.slipRun + 1 → r.slipArmed = true →
        t.ram.slip = some ⟨2, t.ram.peak, t.ram.mask, none, 0⟩ ∧ (t.ram.contact = true → t.ram.slipArmed = false)) ∧
      (r.prev.length = 16 → r.cfg.slipN ≠ 0 → moved < r.cfg.slipTh → t.ram.slip = r.slip ∧ t.ram.slipArmed = true) ∧
      (r.prev.length = 16 → r.cfg.slipN ≠ 0 → r.contact = true → t.ram.contact = true → moved < r.cfg.slipTh → r.slip = none → r.queue = [] →
        r.retry = [] → r.sent = none → r.cfg.reportSf ≠ 0 → r.cfg.reportSf ≤ r.reportIn + 1 →
        t.ram.report = some ⟨3, t.ram.peak, t.ram.mask, none, 0⟩) := by
  intro r good base code moved
  have bases : base = fun i => (r.taxels.get i).scanBase (caps.get i) := rfl
  have codes : code = r.codeAt caps := by
    funext i
    simp only [code, base, good, TagRam.codeAt, Taxel.scanCode, Taxel.scanBase]
  have moves : moved = r.movedBy caps := by
    simp only [moved, codes, good, TagRam.movedBy]
  clear_value moved code base
  subst bases codes
  rw [moves]
  obtain ⟨u, after⟩ : ∃ u, r.afterScan caps = u := ⟨_, rfl⟩
  have row : exec (.taxelScan caps) s = .next (s.updRam fun _ => u) := by
    rw [exec_taxelScan caps active slot, State.updRam_const]
    exact congrArg (fun x => Host.Outcome.next (s.updRam fun _ => x)) after
  obtain ⟨⟨cfg, prev, taxels, top⟩, rest⟩ := r.afterScan_decides caps after
  exact ⟨_, row, rfl, (State.tagActive_iff.1 active).1, cfg, prev, taxels, top, rest⟩

/-! ### TAG_SLOT_EVENT_TX -/

theorem TagRam.unacked_none {r : TagRam} (none_ : r.sent = none) : r.unacked = r := by
  rw [TagRam.unacked, none_]

theorem TagRam.unacked_some {r : TagRam} {e : TagEvent} (sent : r.sent = some e) : r.unacked =
    if 9 ≤ e.attempts then { r with sent := none, evDrop := satInc 65535 r.evDrop } else { r with sent := none, retry := r.retry ++ [e] } := by
  rw [TagRam.unacked, sent]

theorem TagRam.unacked_sent (r : TagRam) : r.unacked.sent = none := by
  cases sent : r.sent with
  | none => rw [TagRam.unacked_none sent, sent]
  | some e =>
    rw [TagRam.unacked_some sent]
    split <;> rfl

/-- An event of its own sequence number goes out in the slot, `left` the RAM without it. -/
def State.slotFresh (s : State) (e : TagEvent) (left : TagRam) : State :=
  { s.updRam (fun _ => { left with
      seq := left.nextSeq, nextSeq := (left.nextSeq + 1) % 256, evSent := satInc 65535 left.evSent,
      sent := some { e with seq := some left.nextSeq, attempts := 1 }, sentAt := s.now }) with
    out := s.out ++ [Out.radio false left.channel (e.bytes left.nextSeq)] }

/-- An event is repeated in the slot. -/
def State.slotRepeat (s : State) (e : TagEvent) (left : TagRam) : State :=
  { s.updRam (fun _ => { left with
      sent := some { e with attempts := e.attempts + 1 }, seq := e.seq.getD 0, sentAt := s.now }) with
    out := s.out ++ [Out.radio false left.channel (e.bytes (e.seq.getD 0))] }

/-- What a slot sends, `r` the tag's RAM with a missed acknowledgement counted (R431). -/
def State.slotSends (s : State) (r : TagRam) : State :=
  match r.slip with
  | some e => s.slotFresh e { r with slip := none }
  | none =>
    match r.retry with
    | e :: es => s.slotRepeat e { r with retry := es }
    | [] =>
      match r.queue with
      | e :: es => s.slotFresh e { r with queue := es }
      | [] =>
        match r.report with
        | some e => s.slotFresh e { r with report := none }
        | none => s

/-- The slot of an admitted tag that has nothing unacknowledged. -/
theorem exec_tagSlotEventTx {s : State} {g : Fin 8} {r : TagRam} (active : s.tagActive = true)
    (judged : (if s.ram.sentAt + 50000 ≤ s.now then s.ram.unacked else s.ram) = r) (in_ : r.net = .admitted) (slot : r.gslot = some g)
    (none_ : r.sent = none) : exec .tagSlotEventTx s = .next (s.slotSends r) := by
  have row : exec .tagSlotEventTx s = execTagSlotEventTx s := rfl
  have half : (if s.ram.sentAt + msTicks / 2 ≤ s.now then s.ram.unacked else s.ram) = r := judged
  rw [row, execTagSlotEventTx, half]
  dsimp only
  have sends : s.tagActive = true ∧ r.net = .admitted ∧ r.sent.isNone = true := ⟨active, in_, by rw [none_]; rfl⟩
  split
  · next out => exact absurd (out.symm.trans slot) (Option.some_ne_none g).symm
  · exact congrArg Host.Outcome.next (if_pos sends)

theorem tagSlotEventTx_sends (s : State) (g : Fin 8) (active : s.tagActive = true) (in_ : s.ram.net = .admitted)
    (slot : s.ram.gslot = some g) (none_ : s.ram.sent = none) :
    let r := s.ram
    let frame (e : TagEvent) (q : Nat) : Bytes := [BitVec.ofNat 8 (e.kind + e.peak / 64 * 4), BitVec.ofNat 8 q] ++ le 2 e.mask
    let sends (e : TagEvent) (q : Nat) (left : TagRam) : Prop := ∃ t, exec .tagSlotEventTx s = .next t ∧ TagOnly s t ∧
      t.out = s.out ++ [Out.radio false r.channel (frame e q)] ∧
      t.ram = { left with seq := q, sent := some { e with seq := some q, attempts := e.attempts + 1 }, sentAt := s.now }
    let fresh (left : TagRam) : TagRam := { left with nextSeq := (r.nextSeq + 1) % 256, evSent := satInc 65535 r.evSent }
    let one (l : List TagEvent) : Prop := ∀ e ∈ l, e.attempts = 0
    (∀ e, r.slip = some e → one [e] → sends e r.nextSeq (fresh { r with slip := none })) ∧
    (∀ e es q, r.slip = none → r.retry = e :: es → e.seq = some q → sends e q { r with retry := es }) ∧
    (∀ e es, r.slip = none → r.retry = [] → r.queue = e :: es → one [e] → sends e r.nextSeq (fresh { r with queue := es })) ∧
    (∀ e, r.slip = none → r.retry = [] → r.queue = [] → r.report = some e → one [e] →
      sends e r.nextSeq (fresh { r with report := none })) ∧
    (r.slip = none → r.retry = [] → r.queue = [] → r.report = none → exec .tagSlotEventTx s = .next s) := by
  intro r frame sends fresh one
  have judged : (if s.ram.sentAt + 50000 ≤ s.now then s.ram.unacked else s.ram) = r := by
    rw [TagRam.unacked_none none_, ite_self]
  have row := exec_tagSlotEventTx active judged in_ slot none_
  have first (e : TagEvent) (left : TagRam) (channel : left.channel = r.channel) (next : left.nextSeq = r.nextSeq)
      (count : left.evSent = r.evSent) (fresh_ : one [e]) (at_ : exec .tagSlotEventTx s = .next (s.slotFresh e left)) :
      sends e r.nextSeq (fresh left) := by
    refine ⟨_, at_, rfl, ?_, ?_⟩
    · show s.out ++ [Out.radio false left.channel (e.bytes left.nextSeq)] = _
      rw [channel, next]
      rfl
    · show ({ left with
        seq := left.nextSeq, nextSeq := (left.nextSeq + 1) % 256, evSent := satInc 65535 left.evSent,
        sent := some { e with seq := some left.nextSeq, attempts := 1 }, sentAt := s.now } : TagRam) = _
      rw [next, count, fresh_ e (List.mem_singleton_self e)]
  refine ⟨fun e slip new => ?_, fun e es q slip retry number => ?_, fun e es slip retry queue new => ?_,
    fun e slip retry queue report new => ?_, fun slip retry queue report => ?_⟩
  · exact first e _ rfl rfl rfl new (by rw [row, State.slotSends, slip])
  · have at_ : exec .tagSlotEventTx s = .next (s.slotRepeat e { r with retry := es }) := by rw [row, State.slotSends, slip, retry]
    refine ⟨_, at_, rfl, ?_, ?_⟩
    · show s.out ++ [Out.radio false r.channel (e.bytes (e.seq.getD 0))] = _
      rw [number]
      rfl
    · show ({ r with
        retry := es, sent := some { e with attempts := e.attempts + 1 }, seq := e.seq.getD 0, sentAt := s.now } : TagRam) = _
      rw [number]
      rfl
  · exact first e _ rfl rfl rfl new (by rw [row, State.slotSends, slip, retry, queue])
  · exact first e _ rfl rfl rfl new (by rw [row, State.slotSends, slip, retry, queue, report])
  · rw [row, State.slotSends, slip, retry, queue, report]

/-- A slot half a superframe after an unacknowledged one counts its beacon missed, and sends. -/
theorem tagSlotEventTx_missed (s : State) (g : Fin 8) (e : TagEvent) (active : s.tagActive = true) (in_ : s.ram.net = .admitted)
    (slot : s.ram.gslot = some g) (sent : s.ram.sent = some e) (few : e.attempts < 9) : exec .tagSlotEventTx s =
      if s.ram.sentAt + 50000 ≤ s.now then exec .tagSlotEventTx (s.updRam TagRam.unacked) else .next s := by
  have again : s.ram.unacked = { s.ram with sent := none, retry := s.ram.retry ++ [e] } :=
    (TagRam.unacked_some sent).trans (if_neg (by omega))
  split
  · next late =>
    have net : s.ram.unacked.net = .admitted := by rw [again]; exact in_
    have slot' : s.ram.unacked.gslot = some g := by rw [again]; exact slot
    have settled : s.ram.unacked.unacked = s.ram.unacked := TagRam.unacked_none s.ram.unacked_sent
    rw [exec_tagSlotEventTx active (if_pos late) net slot' s.ram.unacked_sent,
      exec_tagSlotEventTx (s := s.updRam TagRam.unacked) (r := s.ram.unacked) active
        ((congrArg (fun x => ite _ x _) settled).trans (ite_self _)) net slot' s.ram.unacked_sent]
    refine congrArg Host.Outcome.next ?_
    have queued : ∃ x xs, s.ram.unacked.retry = x :: xs := by
      rw [again]
      exact List.exists_cons_of_ne_nil (List.append_ne_nil_of_right_ne_nil _ (List.cons_ne_nil _ _))
    obtain ⟨x, xs, retry⟩ := queued
    unfold State.slotSends
    split
    · rfl
    · rw [retry]
      rfl
  · next early =>
    have row : exec .tagSlotEventTx s = execTagSlotEventTx s := rfl
    have judged : (if s.ram.sentAt + msTicks / 2 ≤ s.now then s.ram.unacked else s.ram) = s.ram := if_neg early
    rw [row, execTagSlotEventTx, judged]
    dsimp only
    split
    · rfl
    · exact congrArg Host.Outcome.next (if_neg (by rw [sent]; rintro ⟨-, -, none_⟩; exact Bool.false_ne_true none_))

/-! ### TAG_BEACON_RX -/

/-- The beacon is of the tag's network, or the tag has none yet. -/
theorem tagBeaconRx_mine {s : State} {b : BeaconRx} : (match s.ram.netId with
      | some n => n == b.netId.toNat
      | none => true) = true ↔ ∀ n, s.ram.netId = some n → n = b.netId.toNat := by
  cases s.ram.netId with
  | none => simp
  | some n => simp

/-- The tag's RAM as a beacon leaves it: its acknowledgement, then its NETID, mask, channel, K and countdown. -/
def TagRam.beaconed (r : TagRam) (b : BeaconRx) (acked : Bool) (ch now : Nat) : TagRam :=
  { (if acked ∧ r.sent.isSome then { r with sent := none, heardAt := now } else r.unacked) with
    netId := some b.netId.toNat, chanMask := b.chanMask.toNat, channel := ch, kHeld := b.k,
    countdown := if b.count = 0 then none else some (b.next.toNat, b.count.toNat) }

/-- SLOT_ACK has the tag's slot. -/
def TagRam.ackedBy (r : TagRam) (b : BeaconRx) : Bool :=
  match r.gslot with
  | some g => b.slotAck.getLsbD g.val
  | none => false

/-- The channel a countdown leaves. -/
def TagRam.channelAfter (r : TagRam) (b : BeaconRx) : Nat :=
  match r.countdown with
  | some (c, _) => if b.count = 0 then c else r.channel
  | none => r.channel

theorem exec_tagBeaconRx {s : State} {b : BeaconRx} (active : s.tagActive = true) (mine : ∀ n, s.ram.netId = some n → n = b.netId.toNat) :
    exec (.tagBeaconRx b) s = .next (if s.ram.net = .search then
        s.updRam fun r => (r.beaconed b (r.ackedBy b) r.searchCh s.now).join
      else s.updRam fun r => r.beaconed b (r.ackedBy b) (r.channelAfter b) s.now) := by
  have row : exec (.tagBeaconRx b) s = execTagBeaconRx b s := rfl
  rw [row, execTagBeaconRx]
  refine congrArg Host.Outcome.next ((if_pos ⟨active, tagBeaconRx_mine.2 mine⟩).trans ?_)
  by_cases searches : s.ram.net = .search
  · rw [if_pos searches, if_pos searches, if_pos searches]
    rfl
  · rw [if_neg searches, if_neg searches, if_neg searches]
    rfl

theorem TagRam.ackedBy_iff (r : TagRam) (b : BeaconRx) : r.ackedBy b = true ↔ ∃ g, r.gslot = some g ∧ b.slotAck.getLsbD g.val = true := by
  unfold TagRam.ackedBy
  split
  · next g slot => exact ⟨fun h => ⟨g, slot, h⟩, fun ⟨g', slot', h⟩ => by
      rw [Option.some.inj (slot.symm.trans slot')]; exact h⟩
  · next none_ => exact iff_of_false Bool.false_ne_true fun ⟨g, slot, _⟩ => Option.some_ne_none g (slot.symm.trans none_)

/-- What a beacon does with the event sent. -/
theorem TagRam.beaconed_sent (r : TagRam) (b : BeaconRx) (ch now : Nat) : let u := r.beaconed b (r.ackedBy b) ch now
    u.sent = none ∧ u.net = r.net ∧ u.frames = r.frames ∧ ∀ e, r.sent = some e →
      if ∃ g, r.gslot = some g ∧ b.slotAck.getLsbD g.val = true then u.heardAt = now ∧ u.retry = r.retry
      else if 9 ≤ e.attempts then u.retry = r.retry ∧ u.evDrop = satInc 65535 r.evDrop
      else u.retry = r.retry ++ [e] ∧ u.evDrop = r.evDrop := by
  intro u
  have acked := r.ackedBy_iff b
  cases sent : r.sent with
  | none =>
    have stays : (if (r.ackedBy b : Prop) ∧ r.sent.isSome then { r with sent := none, heardAt := now } else r.unacked) = r :=
      (if_neg (by rw [sent]; rintro ⟨-, h⟩; exact absurd h (by decide))).trans (TagRam.unacked_none sent)
    have shape : u = { r with
      netId := some b.netId.toNat, chanMask := b.chanMask.toNat, channel := ch, kHeld := b.k,
      countdown := if b.count = 0 then none else some (b.next.toNat, b.count.toNat) } := by
        show TagRam.beaconed _ _ _ _ _ = _
        rw [TagRam.beaconed, stays]
    rw [shape]
    exact ⟨sent, rfl, rfl, fun e h => absurd h (Option.some_ne_none e).symm⟩
  | some e =>
    by_cases heard : r.ackedBy b = true
    · have stays : (if (r.ackedBy b : Prop) ∧ r.sent.isSome then { r with sent := none, heardAt := now } else r.unacked) =
          { r with sent := none, heardAt := now } := if_pos ⟨heard, by rw [sent]; rfl⟩
      have shape : u = { r with
        sent := none, heardAt := now, netId := some b.netId.toNat, chanMask := b.chanMask.toNat, channel := ch, kHeld := b.k,
        countdown := if b.count = 0 then none else some (b.next.toNat, b.count.toNat) } := by
          show TagRam.beaconed _ _ _ _ _ = _
          rw [TagRam.beaconed, stays]
      rw [shape]
      refine ⟨rfl, rfl, rfl, fun e' _ => ?_⟩
      rw [if_pos (acked.1 heard)]
      exact ⟨rfl, rfl⟩
    · have stays : (if (r.ackedBy b : Prop) ∧ r.sent.isSome then { r with sent := none, heardAt := now } else r.unacked) = r.unacked :=
        if_neg fun h => heard h.1
      have shape : u = { r.unacked with
        netId := some b.netId.toNat, chanMask := b.chanMask.toNat, channel := ch, kHeld := b.k,
        countdown := if b.count = 0 then none else some (b.next.toNat, b.count.toNat) } := by
          show TagRam.beaconed _ _ _ _ _ = _
          rw [TagRam.beaconed, stays]
      rw [shape, TagRam.unacked_some sent]
      refine ⟨?_, ?_, ?_, fun e' same => ?_⟩
      · split <;> rfl
      · split <;> rfl
      · split <;> rfl
      · obtain rfl := Option.some.inj same
        rw [if_neg (mt acked.2 heard)]
        by_cases spent : 9 ≤ e.attempts
        · rw [if_pos spent, if_pos spent]
          exact ⟨rfl, rfl⟩
        · rw [if_neg spent, if_neg spent]
          exact ⟨rfl, rfl⟩

theorem tagBeaconRx_hears (s : State) (b : BeaconRx) (active : s.tagActive = true) (mine : ∀ n, s.ram.netId = some n → n = b.netId.toNat) :
    let r := s.ram
    ∃ t, exec (.tagBeaconRx b) s = .next t ∧ TagOnly s t ∧ t.ram.netId = some b.netId.toNat ∧ t.ram.chanMask = b.chanMask.toNat ∧
      t.ram.kHeld = b.k ∧ t.ram.sent = none ∧
      t.ram.countdown = (if b.count = 0 then none else some (b.next.toNat, b.count.toNat)) ∧
      (r.net = .search → t.ram.net = .joining ∧ t.ram.frames = joinFrame :: r.dataFrames ∧ t.ram.channel = r.searchCh) ∧
      (r.net ≠ .search → t.ram.net = r.net ∧ t.ram.frames = r.frames ∧
        (∀ c n, r.countdown = some (c, n) → b.count = 0 → t.ram.channel = c) ∧
        (r.countdown = none ∨ b.count ≠ 0 → t.ram.channel = r.channel)) ∧
      (∀ e, r.sent = some e →
        if ∃ g, r.gslot = some g ∧ b.slotAck.getLsbD g.val = true then t.ram.heardAt = s.now ∧ t.ram.retry = r.retry
        else if 9 ≤ e.attempts then t.ram.retry = r.retry ∧ t.ram.evDrop = satInc 65535 r.evDrop
        else t.ram.retry = r.retry ++ [e] ∧ t.ram.evDrop = r.evDrop) := by
  intro r
  have row := exec_tagBeaconRx active mine
  by_cases searches : s.ram.net = .search
  · rw [if_pos searches] at row
    obtain ⟨sent, net, frames, event⟩ := r.beaconed_sent b r.searchCh s.now
    refine ⟨_, row, rfl, rfl, rfl, rfl, sent, rfl, fun _ => ⟨rfl, ?_, rfl⟩, fun other => absurd searches other, event⟩
    exact congrArg (fun fs : List TagFrame => joinFrame :: (fs.filter fun f => !f.join).map ({ · with onAir := false })) frames
  · rw [if_neg searches] at row
    obtain ⟨sent, net, frames, event⟩ := r.beaconed_sent b (r.channelAfter b) s.now
    refine ⟨_, row, rfl, rfl, rfl, rfl, sent, rfl, fun search => absurd search searches, fun _ => ⟨net, frames, fun c n down over_ => ?_, fun stays => ?_⟩,
      event⟩
    · show r.channelAfter b = c
      rw [TagRam.channelAfter, down]
      exact if_pos over_
    · show r.channelAfter b = r.channel
      unfold TagRam.channelAfter
      split
      · next c n down => exact if_neg (stays.resolve_left (by rw [down]; exact Option.some_ne_none _))
      · rfl

theorem tagBeaconRx_deaf (s : State) (b : BeaconRx) (n : Nat) (deaf : s.tagActive = false ∨ (s.ram.netId = some n ∧ n ≠ b.netId.toNat)) :
    exec (.tagBeaconRx b) s = .next s := by
  refine congrArg Host.Outcome.next (if_neg ?_)
  rintro ⟨active, mine⟩
  obtain idle | ⟨other, ne⟩ := deaf
  · exact Bool.false_ne_true (idle.symm.trans active)
  · exact ne (tagBeaconRx_mine.1 mine n other)

/-! ### TAG_BEACON_SEARCH and TAG_SEARCH_DWELL_END -/

theorem tagBeaconSearch_begins (s : State) (active : s.tagActive = true) : let r := s.ram
    (r.net ≠ .search → ∃ t, exec .tagBeaconSearch s = .next t ∧ TagOnly s t ∧
      (if r.net = .expelled then t.ram.net = .expelled ∧ t.ram.frames = r.frames
        else t.ram.net = .search ∧ t.ram.frames = r.dataFrames ∧ t.ram.gslot = none) ∧
      t.ram.beaconMiss = satInc 65535 r.beaconMiss ∧ t.ram.dwellFrom = s.now ∧ t.ram.fc = r.fc ∧
      ∀ c, c < 16 → r.chanMask.testBit c = true → r.chanMask.testBit t.ram.searchCh = true ∧ t.ram.searchCh ≤ c) ∧
    (r.net = .search → exec .tagBeaconSearch s = .next s ∧ exec .tagSearchDwellEnd s = .next (
      if r.dwellFrom + 120000 ≤ s.now then
        s.updRam fun r => { r with searchCh := nextChannel r.chanMask r.searchCh, dwellFrom := s.now } else s)) := by
  intro r
  refine ⟨fun other => ?_, fun searches => ⟨congrArg Host.Outcome.next (if_neg fun h => h.2 searches), ?_⟩⟩
  · have row : exec .tagBeaconSearch s = .next _ := congrArg Host.Outcome.next (if_pos ⟨active, other⟩)
    refine ⟨_, row, rfl, ?_, rfl, rfl, ?_, fun c lt on => nextChannel_lowest lt on⟩
    · split
      · next out =>
        have stays : (if s.ram.net = .expelled then s.ram else s.ram.leave .search) = s.ram := if_pos out
        have frames := congrArg TagRam.frames stays
        exact ⟨(congrArg TagRam.net stays).trans out, frames⟩
      · next in_ =>
        have leaves : (if s.ram.net = .expelled then s.ram else s.ram.leave .search) = s.ram.leave .search := if_neg in_
        have net := congrArg TagRam.net leaves
        have frames := congrArg TagRam.frames leaves
        have gslot := congrArg TagRam.gslot leaves
        exact ⟨net, frames, gslot⟩
    · show (if s.ram.net = .expelled then s.ram else s.ram.leave .search).fc = s.ram.fc
      split
      · rfl
      · exact (s.ram.leave_keeps .search).2.1
  · refine congrArg Host.Outcome.next (if_congr ?_ rfl rfl)
    exact ⟨fun h => h.2.2, fun h => ⟨active, searches, h⟩⟩

/-- Settles O46: the scan by what it decides in contact and out of it, the slot by the first event that waits, a beacon by what it
acknowledges. -/
theorem tagSensesAct : Obligations.TagSensesAct := by
  unfold Obligations.TagSensesAct
  exact ⟨taxelScan_decides, fun s caps idle => congrArg Host.Outcome.next (if_neg (by rw [idle]; decide)), tagSlotEventTx_sends,
    tagSlotEventTx_missed, tagBeaconRx_hears, tagBeaconRx_deaf, tagBeaconSearch_begins⟩

end Sys2Proof.Machine
end

section
/-! PROOFS. ADMIT, EXPEL, the commands over the radio and the tag's firmware (R428, R433, R436, R437). -/

namespace Sys2Proof.Machine

/-! ### ADMIT and EXPEL -/

theorem admitFrame_admits (s : State) (m : Bytes) (active : s.tagActive = true)
    (awaits : s.ram.net = .admitted ∨ ∃ d, s.ram.net = .awaitAdmit d) (len : m.length = 16) (kind : m.getD 0 0 = 4)
    (newer : s.ram.floor < at_ m 3 4) :
    match Config.ccmOpen s.tag.key (radioNonce s.tag.long (at_ m 3 4) 6 true) 6 (m.take 7) (m.drop 7) with
      | none => exec (.admitFrame m) s = .next s
      | some p => ∃ t, exec (.admitFrame m) s = .next t ∧ TagOnly s t ∧ t.out = s.out ∧ t.ram.net = .admitted ∧
        t.ram.short = (m.getD 1 0).toNat ∧ t.ram.floor = at_ m 3 4 ∧ t.ram.nextSeq = 0 ∧ t.ram.fc = s.ram.fc ∧ t.ram.cfg = s.ram.cfg ∧
        (∀ g : Fin 8, (p.getD 0 255).toNat = g.val → t.ram.gslot = some g) ∧
        (8 ≤ (p.getD 0 255).toNat → t.ram.gslot = none) ∧
        t.tag.svnMin = max s.tag.svnMin (s.tag.banks.get s.tag.running).svn := by
  have row : exec (.admitFrame m) s = execAdmitFrame m s := rfl
  have awaiting : (match s.ram.net with
      | .awaitAdmit _ => true
      | .admitted => true
      | _ => false) = true := by
    obtain net | ⟨d, net⟩ := awaits <;> rw [net]
  have goes : s.tagActive = true ∧ _ ∧ m.length = 16 ∧ m.getD 0 0 = 4 ∧ at_ m 3 4 > s.ram.floor := ⟨active, awaiting, len, kind, newer⟩
  have acts := row.trans (congrArg Host.Outcome.next (if_pos goes))
  split
  · next none_ =>
    rw [none_] at acts
    exact acts
  · next p found =>
    rw [found] at acts
    refine ⟨_, acts, rfl, rfl, rfl, rfl, rfl, rfl, s.tag.ram.unacked_keeps.2.1, s.tag.ram.unacked_keeps.1, fun g slot => ?_, fun none_ => ?_, rfl⟩
    · refine (dif_pos (by rw [slot]; exact g.isLt)).trans (congrArg some (Fin.ext slot))
    · exact dif_neg (by omega)

theorem admitFrame_stale (s : State) (m : Bytes) (stale : at_ m 3 4 ≤ s.ram.floor) :
    exec (.admitFrame m) s = .next s ∧ exec (.expel m) s = .next s :=
  ⟨congrArg Host.Outcome.next (if_neg fun h => absurd h.2.2.2.2 (not_lt.2 stale)),
    congrArg Host.Outcome.next (if_neg fun h => absurd h.2.2.2.2.2 (not_lt.2 stale))⟩

theorem expel_silences (s : State) (m : Bytes) (active : s.tagActive = true) (in_ : s.ram.net = .admitted) (len : m.length = 15)
    (kind : m.getD 0 0 = 5) (own : (m.getD 1 0).toNat = s.ram.short) (newer : s.ram.floor < at_ m 3 4) :
    if Config.ccmOpen s.tag.key (radioNonce s.tag.long (at_ m 3 4) 6 true) 6 (m.take 7) (m.drop 7) = none then
      exec (.expel m) s = .next s
    else ∃ t, exec (.expel m) s = .next t ∧ TagOnly s t ∧ t.out = s.out ∧ t.ram.net = .expelled ∧ t.ram.floor = at_ m 3 4 ∧
      t.ram.frames = [] ∧ t.ram.gslot = none := by
  have row : exec (.expel m) s = execExpel m s := rfl
  have acts := row.trans (congrArg Host.Outcome.next (if_pos ⟨active, in_, len, kind, own, newer⟩))
  split
  · next none_ =>
    rw [none_] at acts
    exact acts
  · next some_ =>
    obtain ⟨p, found⟩ := Option.ne_none_iff_exists'.1 some_
    rw [found] at acts
    exact ⟨_, acts, rfl, rfl, rfl, rfl, rfl, rfl⟩

/-! ### The commands (R428, R436) -/

theorem State.tagCommand_dead {s : State} {c : TagCmdRx} (f : State → State)
    (dead : s.tagActive = false ∨ s.ram.net ≠ .admitted ∨ c.fc.toNat ≤ s.ram.floor) : s.tagCommand c f = s := by
  refine if_neg ?_
  rintro ⟨active, in_, newer⟩
  obtain idle | out | stale := dead
  · exact Bool.false_ne_true (idle.symm.trans active)
  · exact out in_
  · exact absurd newer (not_lt.2 stale)

/-- The state a command acts on: its counter is the floor. -/
def State.floored (s : State) (c : TagCmdRx) : State := s.updRam fun r => { r with floor := c.fc.toNat }

theorem State.tagCommand_live {s : State} {c : TagCmdRx} (f : State → State) (active : s.tagActive = true) (in_ : s.ram.net = .admitted)
    (newer : s.ram.floor < c.fc.toNat) : s.tagCommand c f = f (s.floored c) := if_pos ⟨active, in_, newer⟩

/-- A command's reply waits: TOO_LONG where it does not fit at K. -/
def State.tagReplied (u : State) (k : Nat) (c : TagCmdRx) (cmd st : Nat) (vals : Bytes) (restart : Bool) : State :=
  u.updRam fun r => { r with frames := r.frames ++
    [⟨false, if sendLimit k < ([BitVec.ofNat 8 cmd, c.id, BitVec.ofNat 8 st, 0] ++ vals).length then [BitVec.ofNat 8 cmd, c.id, 4, 0]
        else [BitVec.ofNat 8 cmd, c.id, BitVec.ofNat 8 st, 0] ++ vals, none, 0, 0, false,
      if sendLimit k < ([BitVec.ofNat 8 cmd, c.id, BitVec.ofNat 8 st, 0] ++ vals).length then false else restart⟩] }

theorem State.tagReply_eq {u : State} {k : Nat} (same : u.ram.kHeld = k) (cmd : Nat) (c : TagCmdRx) (st : Nat) (vals : Bytes) (restart : Bool) :
    u.tagReply cmd c st vals restart = u.tagReplied k c (cmd + 128) st vals restart := by
  rw [State.tagReply, State.tagReplied, same]
  by_cases long : sendLimit k < ([BitVec.ofNat 8 (cmd + 128), c.id, BitVec.ofNat 8 st, 0] ++ vals).length
  · rw [if_pos long, if_pos long, if_pos long]
    rfl
  · rw [if_neg long, if_neg long, if_neg long]
    rfl

/-- A range of the tag's map. -/
def inTagMap (a n : Nat) : Prop := a % 4 = 0 ∧ 1 ≤ n ∧ n ≤ 28 ∧ a + 4 * n ≤ 0x110

theorem inTagMap_iff (a n : Nat) : inTagMap a n ↔ ¬ (a % 4 ≠ 0 ∨ n = 0 ∨ n > 28 ∨ a + 4 * n > tagMapEnd) := by
  unfold inTagMap tagMapEnd
  omega

section
variable {s : State} {c : TagCmdRx} (active : s.tagActive = true) (in_ : s.ram.net = .admitted) (newer : s.ram.floor < c.fc.toNat)
include active in_ newer

theorem tagRead_replies (addr : BitVec 16) (n : Byte) {_ : Decidable (inTagMap addr.toNat n.toNat)} : exec (.read c addr n) s = .next (
    if inTagMap addr.toNat n.toNat then
      (s.floored c).tagReplied s.ram.kHeld c 0x81 0 (((List.range n.toNat).map fun k => le 4 (tagRead (s.floored c) (addr.toNat + 4 * k))).flatten) false
    else (s.floored c).tagReplied s.ram.kHeld c 0x81 2 [] false) := by
  have row : exec (.read c addr n) s = _ := congrArg Host.Outcome.next (State.tagCommand_live _ active in_ newer)
  refine row.trans (congrArg _ ?_)
  by_cases in_ : inTagMap addr.toNat n.toNat
  · exact (if_neg ((inTagMap_iff _ _).1 in_)).trans ((State.tagReply_eq rfl _ _ _ _ _).trans (if_pos in_).symm)
  · exact (if_pos (not_not.1 (mt (inTagMap_iff _ _).2 in_))).trans ((State.tagReply_eq rfl _ _ _ _ _).trans (if_neg in_).symm)

theorem tagFwWrite_writes (off : Word) (img : Bytes) : exec (.fwWrite c off img) s = .next (
    if s.tag.vsto < s.ram.cfg.vWake * 10 then (s.floored c).tagReplied s.ram.kHeld c 0x90 5 [] false
    else if (off.toNat = s.tag.written ∨ off = 0) ∧ off.toNat + img.length ≤ 65536 then
      ((s.floored c).updTag fun t => { t with
        banks := bankUpd t.banks (t.running + 1) fun b => { b with bytes := b.bytes.take off.toNat ++ img },
        written := off.toNat + img.length }).tagReplied s.ram.kHeld c 0x90 0 [] false
    else (s.floored c).tagReplied s.ram.kHeld c 0x90 7 [] false) := by
  have row : exec (.fwWrite c off img) s = _ := congrArg Host.Outcome.next (State.tagCommand_live _ active in_ newer)
  have zero : off.toNat = 0 ↔ off = 0 := ⟨fun h => BitVec.eq_of_toNat_eq h, fun h => by rw [h]; rfl⟩
  refine row.trans (congrArg _ ?_)
  by_cases low : s.tag.vsto < s.ram.cfg.vWake * 10
  · exact (if_pos low).trans ((State.tagReply_eq rfl _ _ _ _ _).trans (if_pos low).symm)
  · refine (if_neg low).trans (Eq.trans ?_ (if_neg low).symm)
    by_cases fits : (off.toNat = s.tag.written ∨ off = 0) ∧ off.toNat + img.length ≤ 65536
    · refine (if_neg ?_).trans ((State.tagReply_eq rfl _ _ _ _ _).trans (if_pos fits).symm)
      rintro (⟨gap, later⟩ | long)
      · exact fits.1.elim gap fun h => later (zero.2 h)
      · exact absurd fits.2 (not_le.2 long)
    · refine (if_pos ?_).trans ((State.tagReply_eq rfl _ _ _ _ _).trans (if_neg fits).symm)
      by_contra h
      rw [not_or, not_and_or, not_not, not_not, not_lt] at h
      exact fits ⟨h.1.imp id zero.1, h.2⟩

theorem tagFwCommit_verifies (len : Word) : exec (.tagFwCommit c len) s = .next (
    if s.tag.vsto < s.ram.cfg.vWake * 10 then (s.floored c).tagReplied s.ram.kHeld c 0x91 5 [] false
    else if len.toNat = s.tag.written then
      (s.floored c).updRam fun r => { r with verifyAt := some s.now, verifyId := c.id.toNat }
    else (s.floored c).tagReplied s.ram.kHeld c 0x91 7 [] false) := by
  have row : exec (.tagFwCommit c len) s = _ := congrArg Host.Outcome.next (State.tagCommand_live _ active in_ newer)
  refine row.trans (congrArg _ ?_)
  by_cases low : s.tag.vsto < s.ram.cfg.vWake * 10
  · exact (if_pos low).trans ((State.tagReply_eq rfl _ _ _ _ _).trans (if_pos low).symm)
  · refine (if_neg low).trans (Eq.trans ?_ (if_neg low).symm)
    by_cases all : len.toNat = s.tag.written
    · exact (if_neg (not_not.2 all)).trans (if_pos all).symm
    · exact (if_pos all).trans ((State.tagReply_eq rfl _ _ _ _ _).trans (if_neg all).symm)

theorem tagRestart_queues : exec (.restart c) s = .next ((s.floored c).tagReplied s.ram.kHeld c 0xA0 0 [] true) := by
  have row : exec (.restart c) s = _ := congrArg Host.Outcome.next (State.tagCommand_live _ active in_ newer)
  exact row.trans (congrArg _ (State.tagReply_eq rfl _ _ _ _ _))

end

/-! ### TAG_FW_VERIFY_DONE (R437) -/

theorem tagImageOk_iff (t : Tag) (i : ImageInfo) : tagImageOk t i = true ↔ i.sigOk = true ∧ i.index = 5 ∧ i.keyDigest ∈ Config.fwKeyDigests ∧
    t.svnMin ≤ i.svn.toNat ∧ ∃ e ∈ i.manifest, e.subject.toNat < 0x10 ∧ e.value.toNat % 256 = 0xA1 := by
  simp only [tagImageOk, Bool.and_eq_true, beq_iff_eq, List.contains_iff_mem, decide_eq_true_eq, List.any_eq_true]
  tauto

theorem tagFwVerifyDone_commits (s : State) : (s.ram.verifyAt = none → exec .tagFwVerifyDone s = .next s) ∧
    ∀ a, s.ram.verifyAt = some a → ∃ t, exec .tagFwVerifyDone s = .next t ∧ TagOnly s t ∧ t.ram.verifyAt = none ∧
      t.tag.svnMin = s.tag.svnMin ∧ t.tag.running = s.tag.running ∧
      let parsed := Config.parseImage ((s.tag.banks.get (s.tag.running + 1)).bytes.take s.tag.written)
      let good : Prop := ∃ i, parsed = some i ∧ i.sigOk = true ∧ i.index = 5 ∧ i.keyDigest ∈ Config.fwKeyDigests ∧
        s.tag.svnMin ≤ i.svn.toNat ∧ ∃ e ∈ i.manifest, e.subject.toNat < 0x10 ∧ e.value.toNat % 256 = 0xA1
      (good → (t.tag.banks.get (s.tag.running + 1)).committed = true ∧ (t.tag.banks.get s.tag.running).committed = false) ∧
      (¬ good → t.tag.banks = s.tag.banks) := by
  have row : exec .tagFwVerifyDone s = execTagFwVerifyDone s := rfl
  refine ⟨fun idle => ?_, fun a runs => ?_⟩
  · rw [row, execTagFwVerifyDone, idle]
  · rw [execTagFwVerifyDone, runs] at row
    dsimp only at row
    generalize image : Config.parseImage ((s.tag.banks.get s.tag.idle).bytes.take s.tag.written) = parsed at row
    have image' : Config.parseImage ((s.tag.banks.get (s.tag.running + 1)).bytes.take s.tag.written) = parsed := image
    rw [image']
    have bad (none_ : ∀ i, parsed = some i → ¬ tagImageOk s.tag i = true)
        (at_ : exec .tagFwVerifyDone s = .next (State.tagReply (s.updRam fun r => { r with verifyAt := none }) 0x11
          ⟨0, 0, BitVec.ofNat 8 s.ram.verifyId⟩ 6 [] false)) : ∃ t, exec .tagFwVerifyDone s = .next t ∧ TagOnly s t ∧ t.ram.verifyAt = none ∧
        t.tag.svnMin = s.tag.svnMin ∧ t.tag.running = s.tag.running ∧
        ((∃ i, parsed = some i ∧ i.sigOk = true ∧ i.index = 5 ∧ i.keyDigest ∈ Config.fwKeyDigests ∧
          s.tag.svnMin ≤ i.svn.toNat ∧ ∃ e ∈ i.manifest, e.subject.toNat < 0x10 ∧ e.value.toNat % 256 = 0xA1) →
          (t.tag.banks.get (s.tag.running + 1)).committed = true ∧ (t.tag.banks.get s.tag.running).committed = false) ∧
        (¬ (∃ i, parsed = some i ∧ i.sigOk = true ∧ i.index = 5 ∧ i.keyDigest ∈ Config.fwKeyDigests ∧
          s.tag.svnMin ≤ i.svn.toNat ∧ ∃ e ∈ i.manifest, e.subject.toNat < 0x10 ∧ e.value.toNat % 256 = 0xA1) →
          t.tag.banks = s.tag.banks) := by
      rw [State.tagReply_eq rfl] at at_
      exact ⟨_, at_, rfl, rfl, rfl, rfl, fun ⟨i, found, ok⟩ => absurd ((tagImageOk_iff s.tag i).2 ok) (none_ i found), fun _ => rfl⟩
    cases parsed with
    | none => exact bad (fun i h => absurd h (Option.some_ne_none i).symm) row
    | some i =>
      dsimp only at row
      by_cases ok : tagImageOk s.tag i = true
      · rw [if_pos ok, State.tagReply_eq rfl] at row
        refine ⟨_, row, rfl, rfl, rfl, rfl, fun _ => ⟨?_, ?_⟩, fun none_ => absurd ⟨i, rfl, (tagImageOk_iff s.tag i).1 ok⟩ none_⟩
        · have other : s.tag.running ≠ s.tag.running + 1 := by omega
          show (TagBank.committed ((bankUpd (bankUpd s.tag.banks (s.tag.running + 1) _) s.tag.running _).get (s.tag.running + 1))) = true
          rw [bankUpd_get, if_neg other, bankUpd_get_self]
        · show (TagBank.committed ((bankUpd _ s.tag.running _).get s.tag.running)) = false
          rw [bankUpd_get_self]
      · rw [if_neg ok] at row
        exact bad (fun j h => by rw [← Option.some.inj h]; exact ok) row

end Sys2Proof.Machine
end

section
/-! PROOFS. WRITE and TCNT_CLR of the tag, and the whole of its frames (R436, R438). -/

namespace Sys2Proof.Machine

/-! ### The words of a WRITE -/

/-- The words of a WRITE with their addresses. -/
def tagWords (a : Nat) (vs : List Word) : List (Nat × Nat) := vs.zipIdx.map fun x => (a + 4 * x.2, x.1.toNat)

theorem mem_tagWords {a : Nat} {vs : List Word} {w : Nat × Nat} :
    w ∈ tagWords a vs ↔ ∃ k v, vs[k]? = some v ∧ w = (a + 4 * k, v.toNat) := by
  simp only [tagWords, List.mem_map, Prod.exists, List.mem_zipIdx_iff_getElem?]
  exact ⟨fun ⟨v, k, here, eq⟩ => ⟨k, v, here, eq.symm⟩, fun ⟨k, v, here, eq⟩ => ⟨v, k, here, eq.symm⟩⟩

theorem tagWords_checked {a : Nat} {vs : List Word} : ((tagWords a vs).all fun w => tagCheck w.1 w.2) = true ↔
    ∀ k v, vs[k]? = some v → tagCheck (a + 4 * k) v.toNat = true := by
  rw [List.all_eq_true]
  exact ⟨fun h k v here => h _ (mem_tagWords.2 ⟨k, v, here, rfl⟩), fun h w mem => by
    obtain ⟨k, v, here, rfl⟩ := mem_tagWords.1 mem
    exact h k v here⟩

/-- The registers a WRITE leaves. -/
def State.tagWritten (s : State) (a : Nat) (vs : List Word) : State := (tagWords a vs).foldl (fun s w => s.tagWrite w.1 w.2) s

theorem State.tagWrites_eq {s : State} (k : Nat) (same : s.ram.kHeld = k) (c : TagCmdRx) (a : Nat) (vs : List Word) : s.tagWrites c a vs =
    if a % 4 ≠ 0 ∨ vs.length = 0 ∨ vs.length > 28 ∨ a + 4 * vs.length > tagMapEnd then s.tagReplied k c 0x82 2 [] false
    else if (tagWords a vs).all fun w => tagCheck w.1 w.2 then ((s.tagWritten a vs).tagReply 0x02 c 0 [] false).tagPower
    else s.tagReplied k c 0x82 3 [] false := by
  rw [← State.tagReply_eq same 0x02, ← State.tagReply_eq same 0x02]
  rfl

/-- One register's write: the settings, the counters and the sample's time may change, nothing else of the tag. -/
theorem State.tagWrite_shape (s : State) (off v : Nat) : ∃ cfg at_ a b c d e, s.tagWrite off v = s.updRam (fun r =>
      { r with cfg := cfg, sampledAt := at_, evSent := a, evDrop := b, noAck := c, brownouts := d, beaconMiss := e }) ∧
    cfg.vSleep = if off = 0x024 then v % 512 else s.ram.cfg.vSleep := by
  have apply {g : TagRam → TagRam} {x : TagRam} (eq : g s.ram = x) : s.updRam g = s.updRam fun _ => x := by
    rw [← eq]
    rfl
  unfold State.tagWrite
  by_cases h24 : off = 0x024
  · rw [if_pos h24]
    exact ⟨_, _, _, _, _, _, _, apply (if_pos h24), by simp [bits]⟩
  rw [if_neg h24]
  by_cases h28 : off = 0x028
  · exact ⟨_, _, _, _, _, _, _, apply ((if_neg h24).trans (if_pos h28)), rfl⟩
  by_cases h40 : off = 0x040
  · exact ⟨_, _, _, _, _, _, _, apply ((if_neg h24).trans ((if_neg h28).trans (if_pos h40))), rfl⟩
  by_cases h60 : off = 0x060
  · exact ⟨_, _, _, _, _, _, _, apply ((if_neg h24).trans ((if_neg h28).trans ((if_neg h40).trans (if_pos h60)))), rfl⟩
  by_cases h64 : off = 0x064
  · exact ⟨_, _, _, _, _, _, _,
      apply ((if_neg h24).trans ((if_neg h28).trans ((if_neg h40).trans ((if_neg h60).trans (if_pos h64))))), rfl⟩
  by_cases clears : off = 0x10C ∧ v.testBit 0
  · exact ⟨_, _, _, _, _, _, _, apply ((if_neg h24).trans ((if_neg h28).trans ((if_neg h40).trans ((if_neg h60).trans ((if_neg h64).trans
      (if_pos clears)))))), rfl⟩
  · exact ⟨_, _, _, _, _, _, _, apply ((if_neg h24).trans ((if_neg h28).trans ((if_neg h40).trans ((if_neg h60).trans ((if_neg h64).trans
      (if_neg clears)))))), rfl⟩

/-- What every register write leaves. -/
structure TagWritten (s t : State) : Prop where
  only : TagOnly s t
  out : t.out = s.out
  now : t.now = s.now
  cells : t.tag.cells = s.tag.cells
  banks : t.tag.banks = s.tag.banks
  st : t.tag.st = s.tag.st
  nrst : t.tag.nrst = s.tag.nrst
  vsto : t.tag.vsto = s.tag.vsto
  frames : t.ram.frames = s.ram.frames
  fc : t.ram.fc = s.ram.fc
  net : t.ram.net = s.ram.net
  kHeld : t.ram.kHeld = s.ram.kHeld

theorem TagWritten.refl (s : State) : TagWritten s s := ⟨rfl, rfl, rfl, rfl, rfl, rfl, rfl, rfl, rfl, rfl, rfl, rfl⟩

theorem State.tagWrite_written {s t : State} (same : TagWritten s t) (off v : Nat) : TagWritten s (t.tagWrite off v) := by
  obtain ⟨cfg, at_, a, b, c, d, e, eq, -⟩ := t.tagWrite_shape off v
  rw [eq]
  exact ⟨same.only.trans rfl, same.out, same.now, same.cells, same.banks, same.st, same.nrst, same.vsto, same.frames, same.fc, same.net, same.kHeld⟩

theorem State.tagWritten_keeps (s : State) (a : Nat) (vs : List Word) : TagWritten s (s.tagWritten a vs) :=
  List.foldlRecOn _ _ (motive := fun t => TagWritten s t) (.refl s) fun _ same _ _ => State.tagWrite_written same _ _

/-- V_SLEEP stays within the store's voltage where every word written to it does. -/
theorem State.tagWritten_vSleep {s : State} {a : Nat} {vs : List Word} {mv : Nat} (before : s.ram.cfg.vSleep * 10 ≤ mv)
    (words : ∀ k v, vs[k]? = some v → a + 4 * k = 0x024 → v.toNat % 512 * 10 ≤ mv) : (s.tagWritten a vs).ram.cfg.vSleep * 10 ≤ mv := by
  refine List.foldlRecOn _ _ (motive := fun t : State => t.ram.cfg.vSleep * 10 ≤ mv) before fun t low w mem => ?_
  obtain ⟨k, v, here, rfl⟩ := mem_tagWords.1 mem
  obtain ⟨cfg, at_, _, _, _, _, _, eq, vSleep⟩ := t.tagWrite_shape (a + 4 * k) v.toNat
  rw [eq]
  show cfg.vSleep * 10 ≤ mv
  rw [vSleep]
  split
  · next at24 => exact words k v here at24
  · exact low

theorem Tag.moved_keeps (now : Nat) (t : Tag) : (t.moved now).cells = t.cells ∧ (t.moved now).banks = t.banks := by
  unfold Tag.moved
  split <;> repeat' split
  all_goals exact ⟨rfl, rfl⟩

theorem State.tagPower_keeps {s : State} (high : s.tag.nrst = true) : TagOnly s s.tagPower ∧ s.tagPower.tag.cells = s.tag.cells ∧
    s.tagPower.tag.banks = s.tag.banks := by
  rw [State.tagPower_moves high]
  have each (t : Tag) := t.moved_keeps s.now
  exact ⟨rfl, (each _).1.trans ((each _).1.trans (each _).1), (each _).2.trans ((each _).2.trans (each _).2)⟩

/-! ### WRITE -/

section
variable {s : State} {c : TagCmdRx} (active : s.tagActive = true) (in_ : s.ram.net = .admitted) (newer : s.ram.floor < c.fc.toNat)
include active in_ newer

theorem exec_tagWrite (addr : BitVec 16) (vs : List Word) : exec (.write c addr vs) s = .next ((s.floored c).tagWrites c addr.toNat vs) :=
  congrArg Host.Outcome.next (State.tagCommand_live _ active in_ newer)

theorem tagWrite_refuses (addr : BitVec 16) (vs : List Word) :
    (¬ inTagMap addr.toNat vs.length → exec (.write c addr vs) s = .next ((s.floored c).tagReplied s.ram.kHeld c 0x82 2 [] false)) ∧
    (inTagMap addr.toNat vs.length → ¬ (∀ k v, vs[k]? = some v → tagCheck (addr.toNat + 4 * k) (BitVec.toNat v) = true) →
      exec (.write c addr vs) s = .next ((s.floored c).tagReplied s.ram.kHeld c 0x82 3 [] false)) := by
  rw [exec_tagWrite active in_ newer, State.tagWrites_eq (s := s.floored c) s.ram.kHeld rfl]
  refine ⟨fun out => congrArg Host.Outcome.next (if_pos (not_not.1 (mt (inTagMap_iff _ _).2 out))), fun ok bad => congrArg Host.Outcome.next ?_⟩
  exact (if_neg ((inTagMap_iff _ _).1 ok)).trans (if_neg (mt tagWords_checked.1 bad))

/-- A WRITE that acts. -/
theorem tagWrite_acts (addr : BitVec 16) (vs : List Word) (map : inTagMap addr.toNat vs.length)
    (ok : ∀ k v, vs[k]? = some v → tagCheck (addr.toNat + 4 * k) (BitVec.toNat v) = true) :
    exec (.write c addr vs) s = .next (((s.floored c).tagWritten addr.toNat vs).tagReplied s.ram.kHeld c 0x82 0 [] false).tagPower := by
  rw [exec_tagWrite active in_ newer, State.tagWrites_eq (s := s.floored c) s.ram.kHeld rfl]
  refine congrArg Host.Outcome.next ((if_neg ((inTagMap_iff _ _).1 map)).trans ((if_pos (tagWords_checked.2 ok)).trans ?_))
  rw [State.tagReply_eq ((s.floored c).tagWritten_keeps addr.toNat vs).kHeld]
  rfl

theorem tagWrite_writes (addr : BitVec 16) (vs : List Word) (map : inTagMap addr.toNat vs.length)
    (ok : ∀ k v, vs[k]? = some v → tagCheck (addr.toNat + 4 * k) (BitVec.toNat v) = true) :
    ∃ t, exec (.write c addr vs) s = .next t ∧ TagOnly s t ∧ t.tag.cells = s.tag.cells ∧ t.tag.banks = s.tag.banks ∧
      (s.tagOnAir = true ∨ (s.ram.cfg.vSleep * 10 ≤ s.tag.vsto ∧
          ∀ k v, vs[k]? = some v → addr.toNat + 4 * k = 0x024 → BitVec.toNat v % 512 * 10 ≤ s.tag.vsto) →
        t.tag.st = .active ∧ t.ram.frames = ((s.floored c).tagReplied s.ram.kHeld c 0x82 0 [] false).ram.frames ∧
          t.ram.fc = s.ram.fc ∧ t.ram.net = s.ram.net) := by
  have row := tagWrite_acts active in_ newer addr vs map ok
  have same := (s.floored c).tagWritten_keeps addr.toNat vs
  obtain ⟨st, high⟩ := State.tagActive_iff.1 active
  generalize written : (s.floored c).tagWritten addr.toNat vs = u at row same
  have nrst : (u.tagReplied s.ram.kHeld c 0x82 0 [] false).tag.nrst = true := same.nrst.trans high
  obtain ⟨only, cells, banks⟩ := State.tagPower_keeps nrst
  refine ⟨_, row, (((show TagOnly s (s.floored c) from rfl).trans same.only).trans
      (show TagOnly u (u.tagReplied s.ram.kHeld c 0x82 0 [] false) from rfl)).trans only, cells.trans same.cells,
    banks.trans same.banks, fun holds => ?_⟩
  have frames : (u.tagReplied s.ram.kHeld c 0x82 0 [] false).ram.frames = ((s.floored c).tagReplied s.ram.kHeld c 0x82 0 [] false).ram.frames :=
    congrArg (· ++ _) same.frames
  have stays : (u.tagReplied s.ram.kHeld c 0x82 0 [] false).tagPower = u.tagReplied s.ram.kHeld c 0x82 0 [] false := by
    refine State.tagPower_stays (State.tagActive_iff.2 ⟨same.st.trans st, nrst⟩) ?_
    obtain air | ⟨low, words⟩ := holds
    · refine .inr ?_
      rw [State.tagOnAir, frames]
      show ((s.ram.frames ++ _).any _) = true
      rw [List.any_append, Bool.or_eq_true]
      exact .inl air
    · refine .inl ?_
      show u.ram.cfg.vSleep * 10 ≤ u.tag.vsto
      rw [same.vsto, ← written]
      exact State.tagWritten_vSleep low words
  rw [stays]
  exact ⟨same.st.trans st, frames, same.fc, same.net⟩

/-- A WRITE of the sleep thresholds alone. -/
theorem tagWrite_thresholds (addr : BitVec 16) (vs : List Word) (v : Word) (at24 : addr.toNat = 0x024) (one : vs = [v])
    (ok : tagCheck 0x024 v.toNat = true) :
    (v.toNat % 512 * 10 ≤ s.tag.vsto → exec (.write c addr vs) s = .next (
      ((s.floored c).updRam fun r => { r with cfg := { r.cfg with vSleep := v.toNat % 512, vWake := v.toNat / 65536 % 512 } }).tagReplied
        s.ram.kHeld c 0x82 0 [] false)) ∧
    (s.tag.vsto < v.toNat % 512 * 10 → s.tagOnAir = false → ∃ t, exec (.write c addr vs) s = .next t ∧
      t.tag.st = if s.tag.vsto < 1600 then .dead else if s.tag.vsto < 1950 then .brownout else .sleep) := by
  subst one
  have low9 : bits 8 0 v.toNat = v.toNat % 512 := by simp [bits]
  have high9 : bits 24 16 v.toNat = v.toNat / 65536 % 512 := by simp [bits]
  have order : v.toNat % 512 ≤ v.toNat / 65536 % 512 := by
    simp only [tagCheck, if_true, Bool.and_eq_true, decide_eq_true_eq, low9, high9] at ok
    omega
  have map : inTagMap addr.toNat [v].length := by
    rw [at24]
    exact (by decide : 0x024 % 4 = 0 ∧ 1 ≤ 1 ∧ 1 ≤ 28 ∧ 0x024 + 4 * 1 ≤ 0x110)
  have checked : ∀ k w, [v][k]? = some w → tagCheck (addr.toNat + 4 * k) (BitVec.toNat w) = true := by
    intro k w here
    cases k with
    | zero => rw [← Option.some.inj here, at24]; exact ok
    | succ k => exact absurd here (by simp)
  have row := tagWrite_acts active in_ newer addr [v] map checked
  have written : (s.floored c).tagWritten addr.toNat [v] = (s.floored c).updRam fun r =>
      { r with cfg := { r.cfg with vSleep := v.toNat % 512, vWake := v.toNat / 65536 % 512 } } := by
    rw [at24, ← low9, ← high9]
    rfl
  rw [written] at row
  obtain ⟨st, high⟩ := State.tagActive_iff.1 active
  refine ⟨fun holds => row.trans (congrArg _ (State.tagPower_stays (State.tagActive_iff.2 ⟨st, high⟩) (.inl holds))), fun low off => ?_⟩
  refine ⟨_, row, ?_⟩
  rw [State.tagPower_eq (s := ((s.floored c).updRam fun r => { r with cfg := { r.cfg with vSleep := v.toNat % 512, vWake := v.toNat / 65536 % 512 } }).tagReplied
    s.ram.kHeld c 0x82 0 [] false) high order]
  refine ((Tag.settled_keeps _ _).2.2.2).trans ?_
  rw [show (State.tagReplied ((s.floored c).updRam _) s.ram.kHeld c 0x82 0 [] false).tag.st = .active from st]
  refine if_neg ?_
  rintro (up | air)
  · exact absurd low (not_lt.2 up)
  · change (s.ram.frames ++ [_]).any _ = true at air
    rw [List.any_append, Bool.or_eq_true] at air
    exact air.elim (fun h => Bool.false_ne_true (off.symm.trans h)) fun h => absurd h (by simp)

theorem tagTcntClr_clears (v : Word) : exec (.tcntClr c v) s = .next (State.tagPower ((if v.getLsbD 0 = true then
      (s.floored c).updRam fun r => { r with evSent := 0, evDrop := 0, noAck := 0, brownouts := 0, beaconMiss := 0 }
      else s.floored c).tagReplied s.ram.kHeld c 0x82 0 [] false)) := by
  have row : exec (.tcntClr c v) s = .next ((s.floored c).tagWrites c 0x10C [v]) :=
    congrArg Host.Outcome.next (State.tagCommand_live _ active in_ newer)
  have written : (s.floored c).tagWritten 0x10C [v] = if v.getLsbD 0 = true then
      (s.floored c).updRam fun r => { r with evSent := 0, evDrop := 0, noAck := 0, brownouts := 0, beaconMiss := 0 }
      else s.floored c := by
    show (s.floored c).updRam (fun r => if 0x10C = 0x10C ∧ v.toNat.testBit 0 = true then
      { r with evSent := 0, evDrop := 0, noAck := 0, brownouts := 0, beaconMiss := 0 } else r) = _
    by_cases set : v.getLsbD 0 = true
    · have bit : v.toNat.testBit 0 = true := set
      rw [if_pos set, bit]
      rfl
    · have bit : v.toNat.testBit 0 = false := (Bool.not_eq_true _).mp set
      rw [if_neg set, bit]
      rfl
  have map : ¬ (0x10C % 4 ≠ 0 ∨ 1 = 0 ∨ 1 > 28 ∨ 0x10C + 4 * 1 > tagMapEnd) := by decide
  have checked : ((tagWords 0x10C [v]).all fun w => tagCheck w.1 w.2) = true := rfl
  rw [row, State.tagWrites_eq (s := s.floored c) s.ram.kHeld rfl]
  refine congrArg Host.Outcome.next ((if_neg map).trans ((if_pos checked).trans ?_))
  rw [State.tagReply_eq ((s.floored c).tagWritten_keeps 0x10C [v]).kHeld, written]
  rfl

end

/-- Settles O48: ADMIT and EXPEL, the commands over the radio and the end of a verification, each by its row. -/
theorem tagFramesAct : Obligations.TagFramesAct := by
  unfold Obligations.TagFramesAct
  refine ⟨fun s m active => ⟨fun waits long four newer => ?_, fun old => ?_, fun in_ long five own newer => ?_⟩,
    fun s c addr count vs v off img len dead i mem => ?_, fun s c active in_ newer => ⟨fun addr n => ?_, fun addr vs => ⟨?_, ?_, ?_, ?_⟩,
      fun v => ?_, fun off img => ?_, fun len => ?_, ?_⟩, fun s => ?_⟩
  · exact admitFrame_admits s m active waits long four newer
  · exact admitFrame_stale s m old
  · exact expel_silences s m active in_ long five own newer
  · simp only [List.mem_cons, List.not_mem_nil, or_false] at mem
    obtain rfl | rfl | rfl | rfl | rfl | rfl := mem
    all_goals exact congrArg Host.Outcome.next (State.tagCommand_dead _ dead)
  · exact tagRead_replies active in_ newer addr n
  · exact (tagWrite_refuses active in_ newer addr vs).1
  · exact (tagWrite_refuses active in_ newer addr vs).2
  · exact tagWrite_writes active in_ newer addr vs
  · exact tagWrite_thresholds active in_ newer addr vs
  · exact tagTcntClr_clears active in_ newer v
  · exact tagFwWrite_writes active in_ newer off img
  · exact tagFwCommit_verifies active in_ newer len
  · exact tagRestart_queues active in_ newer
  · exact tagFwVerifyDone_commits s

end Sys2Proof.Machine
end

section
/-! PROOFS. SFP's loss passes over an axis in the zeroing of an enable, which is DISABLED still. -/

namespace Sys2Proof.Machine

/-- SFP silent for 10 ms with LOSS_STOP set, axis 0 in the zeroing of an enable. -/
def silentInZeroing : State :=
  { inFull.updAxis 0 fun a => { a with zeroFrom := some 0 } with now := 1000000 }

/-- Whether axis 0 is held after a row. -/
def holdsFirst (i : Instr) (s : State) : Bool :=
  match exec i s with
  | .next t => (t.axis 0).hold
  | _ => false

/-- Refutes O50: of `silentInZeroing` axis 0 is DISABLED but zeroing, and SFP_LINK_LOSS, whose stop has no effect on an axis that is
DISABLED, does not hold it. -/
theorem not_linkRowsAct : ¬ Obligations.LinkRowsAct := by
  rintro ⟨-, -, -, -, -, -, -, -, -, -, loss⟩
  obtain ⟨-, stops⟩ := loss silentInZeroing
  obtain ⟨t, run, -, -, -, -, -, axes⟩ := stops (by decide +kernel)
  have first := axes 0
  rw [if_pos (by decide +kernel)] at first
  have held : holdsFirst .sfpLinkLoss silentInZeroing = true := by
    rw [holdsFirst, run]
    exact first.1
  have unheld : holdsFirst .sfpLinkLoss silentInZeroing = false := by decide +kernel
  exact absurd (unheld.symm.trans held) (by decide)

end Sys2Proof.Machine
end

section
/-! PROOFS. HPA: BAR0, the entries of its submission queue, ring errors and PERST_N (R91, R123 to R125, R129, R147). -/

namespace Sys2Proof.Machine

/-! ### BAR0 -/

theorem State.barUp_iff {s : State} : s.barUp = true ↔ s.boot.step ≠ .held ∧ s.hpa.linkUp = true ∧ s.underTest 0 = false := by
  simp only [State.barUp, State.portTested, portUnit, if_true, Bool.and_eq_true, bne_iff_ne, Bool.not_eq_true', and_assoc, ne_eq]

theorem State.barWrite_down {s : State} (down : ¬ s.barUp = true) (off v : Nat) : s.barWrite off v = s := if_pos down

/-- A write of a ring's address or size with EN set. -/
theorem State.barWrite_ring_enabled {s : State} (up : s.barUp = true) (en : s.hpa.en = true) (v : Nat) :
    ∀ o, o ∈ [0x10, 0x14, 0x18, 0x1C, 0x20, 0x24, 0x28] → s.barWrite (BitVec.ofNat 32 o).toNat v = s := by
  intro o mem
  simp only [List.mem_cons, List.not_mem_nil, or_false] at mem
  obtain rfl | rfl | rfl | rfl | rfl | rfl | rfl := mem
  all_goals exact (if_neg (not_not.2 up)).trans (if_pos en)

/-- A write of the ring sizes with EN clear. -/
theorem State.barWrite_sizes {s : State} (up : s.barUp = true) (off : s.hpa.en = false) (v : Nat) : s.barWrite 0x28 v = s.updHpa fun h =>
    { h with sqLog := ringLog h.sqLog (v % 16), cqLog := ringLog h.cqLog (v / 256 % 16), eqLog := ringLog h.eqLog (v / 65536 % 16) } := by
  have row : s.barWrite 0x28 v = if s.hpa.en = true then s else s.updHpa fun h =>
      { h with sqLog := ringLog h.sqLog (bits 3 0 v), cqLog := ringLog h.cqLog (bits 11 8 v), eqLog := ringLog h.eqLog (bits 19 16 v) } :=
    if_neg (not_not.2 up)
  rw [row, if_neg (by rw [off]; decide)]
  simp [bits]

theorem barWrites_act (s : State) (v : Word) (up : s.boot.step ≠ .held ∧ s.hpa.linkUp = true ∧ s.underTest 0 = false) :
    exec (.sqTailWrite v) s = .next (s.updHpa fun h => { h with sqTail := v.toNat % 4096 }) ∧
    exec (.cqHeadWrite v) s = .next (s.updHpa fun h => { h with cqHead := v.toNat % 4096 }) ∧
    exec (.eqHeadWrite v) s = .next (s.updHpa fun h => { h with eqHead := v.toNat % 4096 }) ∧
    (v.getLsbD 0 = true → exec (.hpaCtrlWrite 0 v) s = .next (s.updHpa fun h => { h with en := true })) ∧
    (v.getLsbD 0 = false → s.hpa.en = true → exec (.hpaCtrlWrite 0 v) s = .next (s.updHpa fun h =>
      { h with en := false, epoch := h.epoch + 1, sqTail := 0, cqHead := 0, eqHead := 0, sqPos := 0, cqPos := 0, eqPos := 0,
               cqOwed := 0 })) ∧
    exec (.hpaCtrlWrite 4 v) s = .next (s.updHpa fun h => { h with ringErr := h.ringErr && !v.getLsbD 1 }) ∧
    (s.hpa.en = true → ∀ o, o ∈ [0x10, 0x14, 0x18, 0x1C, 0x20, 0x24, 0x28] →
      exec (.hpaCtrlWrite (BitVec.ofNat 32 o) v) s = .next s) ∧
    (s.hpa.en = false → ∃ t, exec (.hpaCtrlWrite 0x28 v) s = .next t ∧
      t.hpa.sqLog = (if 4 ≤ v.toNat % 16 ∧ v.toNat % 16 ≤ 12 then v.toNat % 16 else s.hpa.sqLog) ∧
      t.hpa.cqLog = (if 4 ≤ v.toNat / 256 % 16 ∧ v.toNat / 256 % 16 ≤ 12 then v.toNat / 256 % 16 else s.hpa.cqLog) ∧
      t.hpa.eqLog = (if 4 ≤ v.toNat / 65536 % 16 ∧ v.toNat / 65536 % 16 ≤ 12 then v.toNat / 65536 % 16 else s.hpa.eqLog) ∧
      t.hpa.en = false ∧ t.owners = s.owners) := by
  have reached : s.barUp = true := State.barUp_iff.2 up
  have write (off : Nat) : s.barWrite off v.toNat = _ := if_neg (not_not.2 reached)
  have ctrl : exec (.hpaCtrlWrite 0 v) s = .next (s.updHpa fun h =>
      if v.getLsbD 0 then { h with en := true } else if h.en then h.disable else h) := congrArg Host.Outcome.next (write 0)
  refine ⟨congrArg _ (write 0x40), congrArg _ (write 0x44), congrArg _ (write 0x48), fun set => ?_, fun clear en => ?_,
    congrArg _ (write 4), fun en o mem => congrArg _ (State.barWrite_ring_enabled reached en v.toNat o mem), fun off => ?_⟩
  · rw [ctrl, set]
    rfl
  · rw [ctrl, clear, State.updHpa, State.updHpa, en]
    rfl
  · exact ⟨_, congrArg Host.Outcome.next (State.barWrite_sizes reached off v.toNat), rfl, rfl, rfl, off, rfl⟩

theorem barWrites_unreached (s : State) (v : Word) (down : ¬ (s.boot.step ≠ .held ∧ s.hpa.linkUp = true ∧ s.underTest 0 = false)) (o : Word) :
    exec (.sqTailWrite v) s = .next s ∧ exec (.cqHeadWrite v) s = .next s ∧ exec (.eqHeadWrite v) s = .next s ∧
      exec (.hpaCtrlWrite o v) s = .next s := by
  have each := State.barWrite_down (mt State.barUp_iff.1 down)
  exact ⟨congrArg _ (each _ _), congrArg _ (each _ _), congrArg _ (each _ _), congrArg _ (each _ _)⟩

/-! ### Nothing a packet earns moves the submission queue's position -/

theorem State.complete_sqPos (s : State) (ix n a : Nat) (d : Bool) : (s.complete ix n a d).hpa.sqPos = s.hpa.sqPos := by
  unfold State.complete State.signal
  dsimp only
  (repeat' split) <;> rfl

theorem State.forgo_sqPos (s : State) (v : Carriage) : (s.forgo v).hpa.sqPos = s.hpa.sqPos := by
  unfold State.forgo
  (repeat' split) <;> rfl

theorem State.dropPacket_sqPos (s : State) (h : Hdr) : (s.dropPacket h).hpa.sqPos = s.hpa.sqPos := by
  unfold State.dropPacket
  split
  · split
    · exact s.forgo_sqPos _
    · split
      · rfl
      · exact s.complete_sqPos _ _ _ _
  · rfl

theorem State.transmit_sqPos (s : State) (p : Port) (v : Carriage) (k : Packet) : (s.transmit p v k).hpa.sqPos = s.hpa.sqPos := by
  unfold State.transmit
  dsimp only
  split
  · exact s.forgo_sqPos _
  · split
    · split
      · exact State.complete_sqPos _ _ _ _ _
      · rfl
    · split <;> rfl
    · rfl
    · rfl

theorem State.plainReply_sqPos (s : State) (h : Hdr) (op e : Nat) (b : Bytes) : (s.plainReply h op e b).hpa.sqPos = s.hpa.sqPos := by
  rw [State.plainReply, State.transmit_sqPos, (s.countStatus_sameRoad _ _).hpa]

theorem State.reply_sqPos (s : State) (t : Ticket) (e : Nat) (b : Bytes) : (s.reply t e b).hpa.sqPos = s.hpa.sqPos := by
  unfold State.reply
  split
  · exact s.plainReply_sqPos _ _ _ _
  · split
    · exact State.plainReply_sqPos _ _ _ _ _
    · split
      · exact s.dropPacket_sqPos _
      · split
        · rw [State.transmit_sqPos, (State.countStatus_sameRoad _ _ _).hpa]
          rfl
        · exact s.dropPacket_sqPos _

theorem State.late_sqPos (s : State) (h : Hdr) (c : Cmd) (bad serial : Option Nat) : (s.late h c bad serial).1.hpa.sqPos = s.hpa.sqPos := by
  unfold State.late
  split
  · show (s.turnAway _ _ _).hpa.sqPos = _
    unfold State.turnAway
    split
    · exact State.reply_sqPos _ _ _ _
    · exact State.reply_sqPos _ _ _ _
  · rfl

theorem State.intake_sqPos (s : State) (h : Hdr) (c : Cmd) (bad : Option Nat) : (s.intake h c bad).1.hpa.sqPos = s.hpa.sqPos := by
  unfold State.intake
  split
  · exact s.plainReply_sqPos _ _ _ _
  · exact s.late_sqPos _ _ _ _
  · split
    · rfl
    · split
      · exact State.late_sqPos _ _ _ _ _
      · exact State.transmit_sqPos _ _ _ _
      · exact s.dropPacket_sqPos _
      · exact s.plainReply_sqPos _ _ _ _

theorem State.takePacket_sqPos (s : State) (p : Port) (via : Carriage) (b : Bytes) (size : Nat) :
    (s.takePacket p via b size).hpa.sqPos = s.hpa.sqPos := by
  unfold State.takePacket
  dsimp only
  split
  · rfl
  split
  · exact s.plainReply_sqPos _ _ _ _
  split
  · exact s.plainReply_sqPos _ _ _ _
  split
  · exact s.plainReply_sqPos _ _ _ _
  split
  · exact State.intake_sqPos _ _ _ _
  · exact State.intake_sqPos _ _ _ _

theorem State.endSession_sqPos (s : State) (p : Port) : (s.endSession p).hpa.sqPos = s.hpa.sqPos := by
  have closed : (((s.updOwner p fun o => { o with session := none, events := [] }).closeStageOf p).fillSlot (slotSession p)).hpa = s.hpa := by
    obtain ⟨b, eq⟩ := (s.updOwner p fun o => { o with session := none, events := [] }).closeStageOf_boot_only p
    rw [eq]
    rfl
  unfold State.endSession
  split
  · rfl
  · dsimp only
    split
    · rw [State.dropPacket_sqPos, closed]
    · rw [closed]

theorem State.finish_sqPos (s : State) : s.finish.hpa.sqPos = s.hpa.sqPos := by
  refine forAll_keeps (P := fun u : State => u.hpa.sqPos = s.hpa.sqPos) (fun u p same => ?_) s rfl
  split
  · exact same
  · split
    · split
      · rw [State.endSession_sqPos, State.updSession_hpa, State.reply_sqPos]
        exact same
      · exact same
    · split
      · exact (u.endSession_sqPos p).trans same
      · exact same

/-! ### A packet that is taken -/

theorem State.carried_paced (s : State) {p : Port} (own : p ≠ 2) (own' : p ≠ 3) : s.carried p = s := by
  rw [State.carried, if_neg own', if_neg own, ite_self]

/-- A packet in order that says a command of its owner's: the command waits, its number is taken. -/
theorem State.takePacket_taken {s : State} {p : Port} {via : Carriage} {b : Bytes} {ses : Session} {c : Cmd} (own : p ≠ 2) (own' : p ≠ 3)
    (ok : PacketOk s p via b ses) (says_ : PacketSays s p via b c ses) :
    s.takePacket p via b b.length = { s.updSession p (fun x => x.took (headerAt p via b).seq.toNat) with
      arrivals := s.arrivals ++ [⟨{ headerAt p via b with key := .sessionKey }, some ses.serial, c, none, false⟩] } := by
  obtain ⟨long, size, fits, head, session, newer, ends, room, calm⟩ := ok
  obtain ⟨⟨x, opened, decoded, sound⟩, dev, may, addr⟩ := says_
  generalize hdr : headerAt p via b = h at head newer ends opened
  have port : h.port = p := by rw [← hdr]; rfl
  have key : s.openPacket h b = (.sessionKey, x) := by
    rw [State.openPacket, port, session]
    simp only [opened]
  have accepted : s.updSession p (fun y => y.took h.seq.toNat) = s.accepted h := by
    rw [State.accepted, port, s.carried_paced own own']
  have late : (s.accepted h).lateFault p c = none := by
    rw [State.accepted_lateFault, State.lateFault, dev]
    simp [may, addr]
  have outstanding : (s.accepted h).outstanding p = ses.outstanding + 1 := by
    have self := State.accepted_owner_self (h := h) (port ▸ session : (s.owner h.port).session = some ses)
    rw [port] at self
    rw [State.outstanding, self]
    rfl
  have verdict : ses.judgeSeq h.seq.toNat s.now = .accept := by
    rw [Session.judgeSeq, if_neg (by omega), if_pos newer]
  have intake : s.intake { h with key := .sessionKey } c none =
      (s.accepted h, some ⟨{ h with key := .sessionKey }, some ses.serial, c, none, false⟩) := by
    have entry : s.entry { h with key := .sessionKey } c = .inside ses.serial := by
      simp only [State.entry, port, session, if_true]
    rw [State.intake, entry]
    simp only [port, session, verdict, accepted, State.late, late, State.crowded, outstanding]
    simp [show ¬ 64 < ses.outstanding + 1 by omega]
  unfold State.takePacket
  dsimp only
  rw [if_neg (fun sfp => own sfp.1), if_neg (by omega), hdr, head]
  simp only [key, decoded, sound, intake, accepted]
  rw [State.accepted_arrivals]

/-! ### HPA_SQ_FETCH (R124) -/

/-- A CQ entry is written while the rings are in use. -/
theorem State.complete_writes {s : State} (en : s.hpa.en = true) (ix n a : Nat) (d : Bool) : ∃ pba more, s.complete ix n a d = { s with
    out := s.out ++ Out.completion (s.hpa.cqPos % 2 ^ s.hpa.cqLog)
      (le 2 ix ++ le 2 (ringPhase s.hpa.cqPos (2 ^ s.hpa.cqLog) + bitAt 1 d) ++ le 4 n ++ le 8 a) :: more,
    hpa := { s.hpa with cqPos := s.hpa.cqPos + 1, cqOwed := s.hpa.cqOwed - 1, pba := pba } } := by
  unfold State.complete State.signal
  rw [if_pos en]
  dsimp only
  split
  · exact ⟨_, [], rfl⟩
  · refine ⟨s.hpa.pba, [Out.interrupt (Fin.ofNat 64 s.hpa.vecCq).val], ?_⟩
    rw [List.append_assoc]
    rfl

theorem State.takePacket_calm_finish {s : State} {via : Carriage} {b : Bytes} {ses : Session} {c : Cmd} (ok : PacketOk s 0 via b ses)
    (says_ : PacketSays s 0 via b c ses) : (s.takePacket 0 via b b.length).finish = s.takePacket 0 via b b.length := by
  rw [State.takePacket_taken (by decide) (by decide) ok says_]
  obtain ⟨-, -, -, -, -, -, ends, -, calm⟩ := ok
  have accepted : s.updSession 0 (fun y => y.took (headerAt 0 via b).seq.toNat) = s.accepted (headerAt 0 via b) := by
    rw [State.accepted]
    exact congrArg (State.updSession · 0 _) (s.carried_paced (p := 0) (by decide) (by decide)).symm
  have after := State.accepted_calm (h := headerAt 0 via b) ends calm
  rw [← accepted] at after
  exact State.finish_calm after

theorem hpaSqFetch_takes {s : State} {entry packet : Bytes} {ses : Session} (ready : s.sqReady = true) (sound : sqEntryOk entry = true)
    (len : at_ entry 8 4 = (packet.take (at_ entry 8 4)).length)
    (ok : PacketOk s 0 (.ring (s.hpa.slot (s.hpa.sqPos % 2 ^ s.hpa.sqLog)) (at_ entry 12 4) (at_ entry 16 8)) (packet.take (at_ entry 8 4)) ses) :
    ∃ t, exec (.hpaSqFetch entry packet) s = .next t ∧ t.hpa.sqPos = s.hpa.sqPos + 1 ∧
      ∀ c, PacketSays s 0 (.ring (s.hpa.slot (s.hpa.sqPos % 2 ^ s.hpa.sqLog)) (at_ entry 12 4) (at_ entry 16 8)) (packet.take (at_ entry 8 4)) c ses →
        PacketTaken s t 0 (.ring (s.hpa.slot (s.hpa.sqPos % 2 ^ s.hpa.sqLog)) (at_ entry 12 4) (at_ entry 16 8)) (packet.take (at_ entry 8 4)) c ses ∧
        t.out = s.out ∧ t.hpa = { s.hpa with sqPos := s.hpa.sqPos + 1, cqOwed := s.hpa.cqOwed + 1 } := by
  generalize hv : Carriage.ring (s.hpa.slot (s.hpa.sqPos % 2 ^ s.hpa.sqLog)) (at_ entry 12 4) (at_ entry 16 8) = via at ok
  have row : exec (.hpaSqFetch entry packet) s = .next (((s.updHpa fun h => { h with sqPos := h.sqPos + 1, cqOwed := h.cqOwed + 1 }).takePacket 0
      via (packet.take (at_ entry 8 4)) (at_ entry 8 4)).finish) := by
    rw [← hv]
    exact congrArg Host.Outcome.next ((if_neg (not_not.2 ready)).trans (if_neg (not_not.2 sound)))
  generalize hb : packet.take (at_ entry 8 4) = b at len ok row
  rw [len] at row
  generalize hu : (s.updHpa fun h => { h with sqPos := h.sqPos + 1, cqOwed := h.cqOwed + 1 }) = u at row
  have ok' : PacketOk u 0 via b ses := by
    rw [← hu]
    exact ok
  refine ⟨_, row, ?_, fun c says_ => ?_⟩
  · rw [State.finish_sqPos, State.takePacket_sqPos, ← hu]
    rfl
  · have says' : PacketSays u 0 via b c ses := by
      rw [← hu]
      exact says_
    rw [State.takePacket_calm_finish ok' says', State.takePacket_taken (by decide) (by decide) ok' says', ← hu]
    obtain ⟨-, -, -, -, session, -, -, -, -⟩ := ok
    refine ⟨⟨rfl, ?_, fun q other => ?_, rfl, rfl, rfl, rfl, rfl, rfl⟩, rfl, rfl⟩
    · show (((s.updHpa _).updSession 0 _).owner 0).session = _
      rw [State.updSession_owner_self]
      show (s.owner 0).session.map _ = _
      rw [session]
      rfl
    · exact State.updSession_owner_ne _ _ (Ne.symm other)

theorem hpaSqFetch_breaksRules {s : State} {entry packet : Bytes} (ready : s.sqReady = true) (bad : sqEntryOk entry = false) (none_ : s.hpa.cqOwed = 0) :
    ∃ t, exec (.hpaSqFetch entry packet) s = .next t ∧
      t.arrivals = s.arrivals ∧ t.owners = s.owners ∧ t.hpa.sqPos = s.hpa.sqPos + 1 ∧ t.hpa.cqPos = s.hpa.cqPos + 1 ∧
      t.hpa.cqOwed = 0 ∧ Out.completion (s.hpa.cqPos % 2 ^ s.hpa.cqLog)
        (le 2 (s.hpa.sqPos % 2 ^ s.hpa.sqLog) ++ le 2 (ringPhase s.hpa.cqPos (2 ^ s.hpa.cqLog) + 2) ++ le 4 0 ++ le 8 (at_ entry 16 8)) ∈ t.out := by
  have en : s.hpa.en = true := by
    simp only [State.sqReady, Bool.and_eq_true] at ready
    exact ready.1.1.2
  have broken : ¬ sqEntryOk entry = true := by
    rw [bad]
    decide
  have row : exec (.hpaSqFetch entry packet) s = .next ((s.updHpa fun h => { h with sqPos := h.sqPos + 1, cqOwed := h.cqOwed + 1 }).complete
      (s.hpa.sqPos % 2 ^ s.hpa.sqLog) 0 (at_ entry 16 8) true) :=
    congrArg Host.Outcome.next ((if_neg (not_not.2 ready)).trans (if_pos broken))
  generalize hu : (s.updHpa fun h => { h with sqPos := h.sqPos + 1, cqOwed := h.cqOwed + 1 }) = u at row
  have en' : u.hpa.en = true := by
    rw [← hu]
    exact en
  obtain ⟨pba, more, eq⟩ := State.complete_writes en' (s.hpa.sqPos % 2 ^ s.hpa.sqLog) 0 (at_ entry 16 8) true
  rw [eq, ← hu] at row
  refine ⟨_, row, rfl, rfl, rfl, rfl, ?_, List.mem_append_right _ List.mem_cons_self⟩
  show s.hpa.cqOwed + 1 - 1 = 0
  omega

/-! ### Ring errors, PERST_N and the link -/

/-- An event its owner has subscribed to, its queue not full and its port up, is queued. -/
theorem OwnerState.takeEvent_queues {now : Nat} {o : OwnerState} {e : EventMsg} {ses : Session} (session : o.session = some ses)
    (subscribed : ses.mask.testBit e.code = true) (room : o.events.length < 256) :
    ∃ k, (o.takeEvent now false e).events = o.events ++ [{ e with seq := k }] := by
  have same : (ses.today now).mask = ses.mask := by
    unfold Session.today
    split <;> rfl
  simp only [OwnerState.takeEvent, session, same, subscribed, if_true, if_pos room, Bool.false_eq_true, if_false]
  exact ⟨_, rfl⟩

theorem hpaRingError_clears (s : State) : if s.barUp = true ∧ s.hpa.en = true then
      ∃ t, exec .hpaRingError s = .next t ∧ t.hpa = { s.hpa with
          ringErr := true, en := false, epoch := s.hpa.epoch + 1, sqTail := 0, cqHead := 0, eqHead := 0, sqPos := 0, cqPos := 0,
          eqPos := 0, cqOwed := 0 } ∧ t.out = s.out ∧ t.leases = s.leases ∧ (∀ p, p ≠ 0 → t.owner p = s.owner p) ∧
        ∀ ses, (s.owner 0).session = some ses → ses.mask.testBit 0x12 = true → (s.owner 0).events.length < 256 →
          s.portDead 0 = false → ∃ e, (t.owner 0).events = (s.owner 0).events ++ [e] ∧ e.code = 0x12
    else exec .hpaRingError s = .next s := by
  split
  · next up =>
    refine ⟨_, congrArg Host.Outcome.next (if_pos up), rfl, rfl, rfl, fun p other => ?_, fun ses session subscribed room alive => ?_⟩
    · rw [State.raise, State.owner, State.updOwner_owners, bankUpd_get, if_neg (Ne.symm other)]
      rfl
    · rw [State.raise, State.owner, State.updOwner_owners, bankUpd_get, if_pos rfl]
      generalize hu : (s.updHpa fun h => { h.disable with ringErr := true }) = u
      have alive' : u.portDead 0 = false := by
        rw [← hu]
        exact alive
      have owner : u.owner 0 = s.owner 0 := by
        rw [← hu]
        rfl
      rw [alive']
      obtain ⟨k, queued⟩ := OwnerState.takeEvent_queues (now := u.now) (o := u.owner 0)
        (e := ⟨0x12, 0, 0, 0, u.eventBody (le 1 7 ++ zeros 3 ++ le 4 ((u.barRead 0x0004).getD 0))⟩)
        (owner ▸ session) subscribed (owner ▸ room)
      exact ⟨_, queued.trans (congrArg (·.events ++ _) owner), rfl⟩
  · next down => exact congrArg Host.Outcome.next (if_neg down)

theorem State.forgo_disabled {s : State} (none_ : s.hpa.cqOwed = 0) (v : Carriage) : s.forgo v = s := by
  unfold State.forgo
  split
  · split
    · have same : ({ s.hpa with cqOwed := s.hpa.cqOwed - 1 } : Hpa) = s.hpa := by
        rw [show s.hpa.cqOwed - 1 = s.hpa.cqOwed by omega]
      exact congrArg (fun x => { s with hpa := x }) same
    · rfl
  · rfl

/-- With the rings out of use and no reply owed, a packet is dropped without a trace. -/
theorem State.dropPacket_disabled {s : State} (en : s.hpa.en = false) (none_ : s.hpa.cqOwed = 0) (h : Hdr) : s.dropPacket h = s := by
  unfold State.dropPacket
  split
  · split
    · exact State.forgo_disabled none_ _
    · split
      · rfl
      · exact if_neg (by rw [en]; decide)
  · rfl

theorem State.closeStageOf_closed (s : State) (p : Port) : ∀ x, (s.closeStageOf p).boot.stage = some x → x.port ≠ p := by
  unfold State.closeStageOf
  intro x
  split
  · next y open_ =>
    split
    · intro here
      cases here
    · next other =>
      intro here
      rw [open_, Option.some.injEq] at here
      rwa [← here]
  · next none_ =>
    intro here
    rw [none_] at here
    cases here

/-- A session ends with the rings out of use: its owner has neither session nor events; only key slots and the stage change beside. -/
theorem State.endSession_disabled {s : State} (en : s.hpa.en = false) (none_ : s.hpa.cqOwed = 0) (p : Port) :
    ∃ b k d, s.endSession p = { s with
      boot := b, keys := k, draws := d,
      owners := if (s.owner p).session = none then s.owners else bankUpd s.owners p fun o => { o with session := none, events := [] } } := by
  obtain ⟨b, eq⟩ := (s.updOwner p fun o => { o with session := none, events := [] }).closeStageOf_boot_only p
  unfold State.endSession
  split
  · next gone => exact ⟨s.boot, s.keys, s.draws, by rw [if_pos gone]⟩
  · next ses session =>
    rw [if_neg (by rw [session]; simp), eq]
    dsimp only
    split
    · rw [State.dropPacket_disabled (by exact en) (by exact none_)]
      exact ⟨_, _, _, rfl⟩
    · exact ⟨_, _, _, rfl⟩

theorem State.owner_endsOne (s : State) (p : Port) {t : State} (ended : t.owners =
    if (s.owner p).session = none then s.owners else bankUpd s.owners p fun o => { o with session := none, events := [] }) (q : Port) :
    t.owner q = if q = p then if (s.owner p).session = none then s.owner p else { s.owner p with session := none, events := [] }
      else s.owner q := by
  rw [State.owner, ended]
  by_cases own : q = p
  · rw [if_pos own, own]
    split
    · rfl
    · rw [bankUpd_get, if_pos rfl]
      rfl
  · rw [if_neg own]
    split
    · rfl
    · rw [bankUpd_get, if_neg (Ne.symm own)]
      rfl

theorem pciePerstN_resets (s : State) : ∃ t, exec .pciePerstN s = .next t ∧
    t.hpa = { Hpa.reset with perstN := false, epoch := s.hpa.epoch + 1 } ∧
    ((s.owner 0).session ≠ none → (t.owner 0).session = none ∧ (t.owner 0).events = []) ∧
    (∀ x, t.boot.stage = some x → x.port ≠ 0) ∧ (∀ p, p ≠ 0 → t.owner p = s.owner p) ∧ t.leases = s.leases ∧ t.axes = s.axes ∧
    t.mem = s.mem ∧ t.out = s.out := by
  have row : exec .pciePerstN s = .next (((s.updHpa fun h => { Hpa.reset with perstN := false, epoch := h.epoch + 1 }).endSession 0).closeStageOf 0) := rfl
  have shut := State.closeStageOf_closed ((s.updHpa fun h => { Hpa.reset with perstN := false, epoch := h.epoch + 1 }).endSession 0) 0
  obtain ⟨b, k, d, ended⟩ := State.endSession_disabled (s := s.updHpa fun h => { Hpa.reset with perstN := false, epoch := h.epoch + 1 }) rfl rfl 0
  obtain ⟨b', closed⟩ := ((s.updHpa fun h => { Hpa.reset with perstN := false, epoch := h.epoch + 1 }).endSession 0).closeStageOf_boot_only 0
  rw [closed, ended] at row shut
  refine ⟨_, row, rfl, fun session => ?_, shut, fun p other => ?_, rfl, rfl, rfl, rfl⟩
  · rw [State.owner_endsOne s 0 (show _ = _ from rfl), if_pos rfl, if_neg session]
    exact ⟨rfl, rfl⟩
  · rw [State.owner_endsOne s 0 (show _ = _ from rfl), if_neg other]

theorem pcieLink_moves (s : State) :
    exec .pcieLinkUp s = .next (if s.boot.step ≠ .held ∧ s.underTest 0 = false then
      s.updHpa fun h => { h with linkUp := true, perstN := true } else s) ∧
    ∃ t, exec .pcieLinkDown s = .next t ∧ t.hpa = { s.hpa with linkUp := false } ∧ t.owners = s.owners ∧ t.leases = s.leases ∧
      (∀ x, t.boot.stage = some x → x.port ≠ 0) ∧ t.axes = s.axes := by
  refine ⟨congrArg Host.Outcome.next ?_, _, rfl, ?_, ?_, ?_, State.closeStageOf_closed _ 0, ?_⟩
  · have tested : s.portTested 0 = s.underTest 0 := rfl
    rw [tested]
    by_cases held : s.boot.step = .held
    · rw [if_pos (.inl held), if_neg fun h => h.1 held]
    · cases test : s.underTest 0
      · rw [if_neg (by simp [held]), if_pos ⟨held, rfl⟩]
      · rw [if_pos (.inr rfl), if_neg (by simp)]
  all_goals
    obtain ⟨b, closed⟩ := (s.updHpa fun h => { h with linkUp := false }).closeStageOf_boot_only 0
    rw [closed]
  all_goals rfl

/-- Settles O49: BAR0, the submission queue, a ring error, PERST_N and the link, each by its row. -/
theorem hpaRowsAct : Obligations.HpaRowsAct := by
  unfold Obligations.HpaRowsAct
  refine ⟨fun s v => ⟨barWrites_act s v, barWrites_unreached s v⟩, fun s entry packet ses ready => ⟨fun sound len ok => ?_, ?_⟩,
    fun s entry packet unready => ?_, hpaRingError_clears, pciePerstN_resets, pcieLink_moves⟩
  · exact hpaSqFetch_takes ready sound len ok
  · exact hpaSqFetch_breaksRules ready
  · exact congrArg Host.Outcome.next (if_pos (by rw [unready]; decide))

end Sys2Proof.Machine
end

section
/-! PROOFS. Enrolments, the entropy source and the errors of stored lines (R160, R162, R170, R173, R343). -/

namespace Sys2Proof.Machine

/-! ### ENROL_COMPLETE (R170) -/

theorem enrolComplete_waits (s : State) (written : Bool)
    (other : s.keys.busy = none ∨ ∀ w ∈ s.store.queue.head?, w.item ≠ .enrolment) : exec (.enrolComplete written) s = .next s := by
  have row : exec (.enrolComplete written) s = execEnrolComplete written s := rfl
  rw [row, execEnrolComplete]
  refine congrArg Host.Outcome.next ?_
  split
  · rfl
  · rfl
  · next o w rest busy queue =>
    obtain idle | ahead := other
    · rw [idle] at busy
      cases busy
    · exact if_pos (ahead w (by rw [queue]; rfl))

/-- RESULT of an operation as its area is written or not. -/
def EnrolOp.outcome (o : EnrolOp) (held : Option Bytes) (written : Bool) : Nat :=
  if o.judged held ≠ 0 then o.judged held else if written = true then 0 else 6

theorem EnrolOp.judged_eq (o : EnrolOp) (held : Option Bytes) : o.judged held = if o.op = 1 then
    (if o.early ≠ 0 then o.early else if onCurve o.key = false then 1 else if held ≠ none then 2 else 0)
    else if held = none then 3 else 0 := by
  unfold EnrolOp.judged
  cases held <;> cases onCurve o.key <;> rfl

/-- The operation is over with a RESULT. -/
def State.enrolOver (s : State) (o : EnrolOp) (rest : List StoreWrite) (res : Nat) : State :=
  State.updKeys { s with store := { s.store with queue := rest } } fun k =>
    { k with busy := none, result := res, lastOwner := o.owner, lastSlot := o.slot }

/-- The operation takes effect on slot `i` of owner `p`, which held `held`. -/
def State.enrolled (u : State) (o : EnrolOp) (p i : Fin 4) (held : Option Bytes) (keys : Vector (Vector (Option Bytes) 4) 4) : State :=
  (u.updKeys fun k => { k.writeArea k.areaInUse (bankUpd keys p fun x => bankSet x i (if o.op = 1 then some o.key else none)) with
      enrolled := bankUpd keys p fun x => bankSet x i (if o.op = 1 then some o.key else none) }).extend 7
    (enrolDigest o.owner o.op (if o.op = 1 then o.key else held.getD []))

theorem State.enrolled_shape (u : State) (o : EnrolOp) (p i : Fin 4) (held : Option Bytes) (keys : Vector (Vector (Option Bytes) 4) 4) :
    ∃ areas inUse, u.enrolled o p i held keys = { u with
      keys := { u.keys with
        areas := areas, areaInUse := inUse,
        enrolled := bankUpd keys p fun x => bankSet x i (if o.op = 1 then some o.key else none) },
      boot := { u.boot with
        wm := bankUpd u.boot.wm 7 fun w => digest (w ++ enrolDigest o.owner o.op (if o.op = 1 then o.key else held.getD [])) } } :=
  ⟨_, _, rfl⟩

theorem exec_enrolComplete {s : State} {written : Bool} {o : EnrolOp} {w : StoreWrite} {rest : List StoreWrite} (busy : s.keys.busy = some o)
    (queue : s.store.queue = w :: rest) (own : w.item = .enrolment) :
    exec (.enrolComplete written) s = .next (
      let p : Fin 4 := Fin.ofNat 4 (o.owner - 1)
      let held := (s.keys.enrolled.get p).get (Fin.ofNat 4 o.slot)
      let res := o.outcome held written
      if res ≠ 0 then s.enrolOver o rest res
      else (s.enrolOver o rest res).enrolled o p (Fin.ofNat 4 o.slot) held s.keys.enrolled) := by
  have row : exec (.enrolComplete written) s = execEnrolComplete written s := rfl
  rw [row, execEnrolComplete, busy, queue]
  exact congrArg Host.Outcome.next (if_neg (not_not.2 own))

theorem enrolComplete_ends {s : State} {written : Bool} {o : EnrolOp} {w : StoreWrite} {rest : List StoreWrite} (busy : s.keys.busy = some o)
    (queue : s.store.queue = w :: rest) (own : w.item = .enrolment) :
    let p : Fin 4 := Fin.ofNat 4 (o.owner - 1)
    let i : Fin 4 := Fin.ofNat 4 o.slot
    let held := (s.keys.enrolled.get p).get i
    let res := o.outcome held written
    ∃ t, exec (.enrolComplete written) s = .next t ∧ t.store = { s.store with queue := rest } ∧ t.keys.busy = none ∧
      t.keys.result = res ∧ t.keys.lastOwner = o.owner ∧ t.keys.lastSlot = o.slot ∧
      (∀ q k, (t.keys.enrolled.get q).get k =
        if res = 0 ∧ q = p ∧ k = i then (if o.op = 1 then some o.key else none) else (s.keys.enrolled.get q).get k) ∧
      t.boot.wm.get 7 = (if res = 0 then digest (s.boot.wm.get 7 ++ enrolDigest o.owner o.op
        (if o.op = 1 then o.key else held.getD [])) else s.boot.wm.get 7) ∧
      (∀ n, n ≠ 7 → t.boot.wm.get n = s.boot.wm.get n) ∧ t.owners = s.owners ∧ t.mem = s.mem ∧ t.axes = s.axes := by
  intro p i held res
  have row := exec_enrolComplete (written := written) busy queue own
  by_cases fails : res ≠ 0
  · rw [if_pos fails] at row
    refine ⟨_, row, rfl, rfl, rfl, rfl, rfl, fun q k => ?_, ?_, fun _ _ => rfl, rfl, rfl, rfl⟩
    · rw [if_neg fun h => fails h.1]
      rfl
    · rw [if_neg fails]
      rfl
  · obtain ⟨areas, inUse, shape⟩ := (s.enrolOver o rest res).enrolled_shape o p i held s.keys.enrolled
    rw [if_neg fails, shape] at row
    refine ⟨_, row, rfl, rfl, rfl, rfl, rfl, fun q k => ?_, ?_, fun n other => ?_, rfl, rfl, rfl⟩
    · show ((bankUpd s.keys.enrolled p fun x => bankSet x i _).get q).get k = _
      generalize (if o.op = 1 then some o.key else none) = new
      rw [bankUpd_get]
      by_cases mine : p = q
      · rw [if_pos mine, bankSet_get]
        by_cases same : i = k
        · rw [if_pos same, if_pos ⟨not_not.1 fails, mine.symm, same.symm⟩]
        · rw [if_neg same, if_neg fun h => same h.2.2.symm]
      · rw [if_neg mine, if_neg fun h => mine h.2.1.symm]
    · rw [if_pos (not_not.1 fails)]
      exact bankUpd_get_self _ _ _
    · exact (bankUpd_get _ _ _ _).trans (if_neg (Ne.symm other))

/-! ### The entropy source (R162) -/

theorem entropyTestFail_acts (s : State) (out : s.boot.step ≠ .held) :
    exec (.entropyTestFail false) s = .next (s.updKeys fun k =>
      { k with entFail := true, entSeen := true, keysOut := k.keysOut || decide (65536 ≤ k.requests) }) ∧
    exec (.entropyTestFail true) s = .next (if s.boot.step = .readBoot1 ∨ s.boot.step = .readImages then
      s.updKeys fun k => { k with entOk := false, startFail := true } else s) :=
  ⟨congrArg Host.Outcome.next (if_neg out), congrArg Host.Outcome.next (if_neg out)⟩

theorem reseeds_act (s : State) :
    exec .entropyRecover s = .next (if s.keys.entFail = true then
      s.updKeys fun k => { k with requests := 0, seededAt := s.now, reseeds := satInc 65535 k.reseeds, entFail := false, keysOut := false } else s) ∧
    exec .drbgReseed s = .next (if s.boot.step ≠ .held ∧ s.keys.entFail = false ∧
      (65536 ≤ s.keys.requests ∨ s.keys.seededAt + secTicks ≤ s.now) then
      s.updKeys fun k => { k with requests := 0, seededAt := s.now, reseeds := satInc 65535 k.reseeds } else s) := by
  refine ⟨rfl, ?_⟩
  have row : exec .drbgReseed s = execDrbgReseed s := rfl
  rw [row, execDrbgReseed]
  simp only [Bool.not_eq_true]
  rfl

/-! ### Corrected errors -/

theorem scrubPass_counts (s : State) (place : ScrubAt) (line : Nat) : exec (.scrubPass place false line) s = .next s ∧
    (line < 2 ^ 29 → exec (.scrubPass place true line) s = .next (s.updMem fun m => { m with
      cntVatCe := if place = .vat then satInc 65535 m.cntVatCe else m.cntVatCe,
      cntCoreCe := if place = .core then satInc 65535 m.cntCoreCe else m.cntCoreCe,
      cntHbmCe := if place = .stack then satInc 65535 m.cntHbmCe else m.cntHbmCe })) := by
  have row (corrected : Bool) : exec (.scrubPass place corrected line) s = execScrubPass place corrected line s := rfl
  refine ⟨?_, fun low => ?_⟩
  · rw [row, execScrubPass, if_neg fun h => Bool.false_ne_true h.1]
  · rw [row, execScrubPass, if_pos ⟨rfl, low⟩]
    cases place <;> rfl

/-! ### An uncorrectable error of the SELF pool (R173) -/

theorem memUncorrectable_self (s : State) (met : ErrAt) (tag : Fin 64) (mismatch : Bool) (region line : Word) (out : s.boot.step ≠ .held)
    (runs : s.boot.step ≠ .stopped) (first : s.boot.stopDone = false) : ∃ t, exec (.memUncorrectable true met tag mismatch region line) s = .next t ∧
      t.boot = { s.boot with resetDue := some (s.now, 4), stopDone := true } ∧ t.mem = s.mem ∧
      ∀ n, (t.axis n).hold = true ∧
        AxisStopped s t n (if s.cfgStop n = .ramp then .freewheel else s.cfgStop n) .hardware 10 := by
  have row : exec (.memUncorrectable true met tag mismatch region line) s =
      .next ((s.hardwareStop.safeEvent 8 0xFF).updBoot fun b => { b with resetDue := some (s.now, 4), stopDone := true }) :=
    congrArg Host.Outcome.next ((if_neg (not_or.2 ⟨out, runs⟩)).trans ((if_pos rfl).trans (if_neg (by rw [first]; decide))))
  have event := s.hardwareStop.raiseAll_touches 16 0 0
    (le 1 8 ++ le 1 (bitAt 0 ((bankList s.hardwareStop.axes).any fun x => x.2.hold)) ++ zeros 2 ++ le 4 0xFF)
  obtain ⟨boot, mem, -, axes⟩ := stopped_updBoot (s.hardwareStop_touches.trans event.of_none).onlyMotion (fun n => by
    have axis : (s.hardwareStop.safeEvent 8 0xFF).axis n = s.hardwareStop.axis n := event.2 n id
    obtain ⟨held, stopped⟩ := s.hardwareStop_axis n
    exact ⟨(congrArg Axis.hold axis).trans held, stopped.of_eq rfl rfl rfl axis.symm⟩)
    fun b => { b with resetDue := some (s.now, 4), stopDone := true }
  exact ⟨_, row, boot, mem, axes⟩

/-! ### An uncorrectable error met by an attempt in a region -/

theorem StoreState.noteLine_info (x : StoreState) (i : LineInfo) : (x.noteLine i).info i.line = some i := by
  rw [StoreState.info, StoreState.noteLine, List.find?_append, List.find?_eq_none.2, Option.none_or, List.find?_cons_of_pos]
  · simp
  · intro y mem
    have below := (List.mem_filter.1 mem).2
    simp only [decide_eq_true_eq] at below
    simp [below.ne]

theorem StoreState.info_line {x : StoreState} {line : Nat} {l : LineInfo} (here : x.info line = some l) : l.line = line := by
  simpa using List.find?_some here

theorem MemState.updStore_store_self (m : MemState) (p : Store) (f : StoreState → StoreState) : (m.updStore p f).store p = f (m.store p) := by
  cases p <;> rfl

/-- A spoilt line is found spoilt. -/
theorem State.spoilLine_info (s : State) (r : Region) (i kind : Nat) : ∃ l,
    ((s.spoilLine r i kind).mem.store r.place).info (r.line i) = some l ∧ l.bad = kind := by
  have stored : (s.spoilLine r i kind).mem.store r.place = _ := MemState.updStore_store_self _ _ _
  rw [stored]
  split
  · next l here =>
    have noted := (s.mem.store r.place).noteLine_info { l with bad := kind }
    exact ⟨_, (congrArg _ (StoreState.info_line here).symm).trans noted, rfl⟩
  · exact ⟨_, StoreState.noteLine_info _ ⟨r.line i, 0, 0, kind⟩, rfl⟩

theorem MemState.updStore_regions (m : MemState) (p : Store) (f : StoreState → StoreState) : (m.updStore p f).regions = m.regions := by
  cases p <;> rfl

/-- The cause of a failure a spoilt line is read with. -/
theorem State.firstBad_of_spoilt {t : State} {r : Region} {key line kind : Nat} (spoilt : ∃ l,
    (t.mem.store r.place).info (r.line line) = some l ∧ l.bad = kind) (kinds : kind = 1 ∨ kind = 2 ∧ r.place = .hbm) :
    t.firstBad r key [line] = some (line, if r.place = .vat then 3 else kind) := by
  obtain ⟨l, info, rfl⟩ := spoilt
  have cause : t.mem.lineCause r.place key (r.line line) = if r.place = .vat then 3 else l.bad := by
    rw [MemState.lineCause.eq_def]
    dsimp only
    rw [info]
    cases place : r.place
    · obtain kind | ⟨kind, -⟩ := kinds <;> simp [kind]
    · obtain kind | ⟨-, hbm⟩ := kinds
      · simp [kind]
      · rw [place] at hbm
        cases hbm
  have nonzero : (if r.place = .vat then 3 else l.bad) ≠ 0 := by
    split
    · decide
    · omega
  simp only [State.firstBad, List.findSome?, cause, nonzero, if_false]

/-- The abandonment of an attempt moves no axis and ends no lease. -/
theorem State.abandon_axes (s : State) (t : Fin 64) (cls core region detail : Nat) :
    (s.abandon t cls core region detail).axes = s.axes ∧ (s.abandon t cls core region detail).leases = s.leases := by
  unfold State.abandon
  split
  · exact ⟨rfl, rfl⟩
  · dsimp only
    split
    · exact ⟨rfl, rfl⟩
    · split
      · exact ⟨rfl, rfl⟩
      · have ends := State.endJob_jobsOnly
        exact ⟨(ends _ _ _ _).axes, (ends _ _ _ _).leases⟩

theorem memUncorrectable_region {s : State} {tag : Fin 64} {mismatch : Bool} {region line : Word} {j : Job} {r : Region} (out : s.boot.step ≠ .held)
    (runs : s.boot.step ≠ .stopped) (here : s.job tag = some j) (running : j.st = .running) (named : s.region j.port region.toNat = some r) :
    let cause := if r.place = .vat then 3 else if mismatch = true then 2 else 1
    (cause = 2 → s.outranked tag 3 = false) →
      ∃ t, exec (.memUncorrectable false .region tag mismatch region line) s = .next t ∧
        Abandoned s t tag j (if cause = 2 then 3 else 1) 0xFF region.toNat line.toNat ∧
        t.mem.fltCause = cause ∧ t.mem.fltOwner = Port.id j.port ∧ t.mem.fltJob = tag.val ∧ t.mem.fltRegion = region.toNat ∧
        t.mem.fltLine = line.toNat ∧ t.firstBad r (t.domKey j.port) [line.toNat] = some (line.toNat, cause) ∧
        t.mem.regions = s.mem.regions ∧ t.axes = s.axes ∧ t.leases = s.leases := by
  intro cause alone
  have first : s.outranked tag (s.errClass j .region mismatch region.toNat) = false := by
    have cls : s.errClass j .region mismatch region.toNat = if cause = 2 then 3 else 1 := by
      rw [State.errClass, named]
      cases place : r.place <;> cases mismatch <;> simp [cause, place]
    rw [cls]
    split
    · next mistagged => exact alone mistagged
    · exact s.not_outranked_one tag
  let spoilt := s.spoilLine r line.toNat (if cause = 2 then 2 else 1)
  let noted := spoilt.noteFault cause (Port.id j.port) tag.val region.toNat line.toNat
  have row : exec (.memUncorrectable false .region tag mismatch region line) s =
      .next (noted.abandon tag (if cause = 2 then 3 else 1) 0xFF region.toNat line.toNat) := by
    rw [exec_memUncorrectable here running out runs (fun _ _ => ErrAt.noConfusion) first, State.attemptError, named]
  obtain ⟨abandoned, mem, -, -⟩ := State.abandon_of_running (s := noted) here running (if cause = 2 then 3 else 1) 0xFF region.toNat line.toNat
  obtain ⟨axes, leases⟩ := noted.abandon_axes tag (if cause = 2 then 3 else 1) 0xFF region.toNat line.toNat
  refine ⟨_, row, .of_jobs rfl rfl abandoned, by rw [mem]; rfl, by rw [mem]; rfl, by rw [mem]; rfl, by rw [mem]; rfl, by rw [mem]; rfl, ?_, ?_,
    axes, leases⟩
  · have bad : ∃ l, ((noted.abandon tag (if cause = 2 then 3 else 1) 0xFF region.toNat line.toNat).mem.store r.place).info (r.line line.toNat) =
        some l ∧ l.bad = if cause = 2 then 2 else 1 := by
      rw [mem]
      obtain ⟨l, info, kind⟩ := s.spoilLine_info r line.toNat (if cause = 2 then 2 else 1)
      refine ⟨l, ?_, kind⟩
      rw [← info]
      cases r.place <;> rfl
    rw [State.firstBad_of_spoilt bad]
    · cases place : r.place <;> cases mismatch <;> simp [cause, place]
    · cases place : r.place <;> cases mismatch <;> simp [cause, place]
  · rw [mem]
    exact MemState.updStore_regions _ _ _

/-! ### An error in the weights of a network (R343) -/

/-- From `s` to `t` nothing changes but axes, cores and owners; every axis keeps the networks loaded for it, every core its faults. -/
structure KeepsLoads (s t : State) : Prop where
  touches : TouchesAxes Set.univ s t
  loads : ∀ n k, ((t.axis n).loaded k).isSome = ((s.axis n).loaded k).isSome
  faults : ∀ c, (t.core1 c).faults = (s.core1 c).faults

theorem KeepsLoads.refl (s : State) : KeepsLoads s s := ⟨.refl _ s, fun _ _ => rfl, fun _ => rfl⟩

theorem KeepsLoads.trans {s t u : State} (h : KeepsLoads s t) (k : KeepsLoads t u) : KeepsLoads s u :=
  ⟨h.touches.trans k.touches, fun n i => (k.loads n i).trans (h.loads n i), fun c => (k.faults c).trans (h.faults c)⟩

theorem KeepsLoads.foldl {α : Type} {f : State → α → State} (keeps : ∀ s a, KeepsLoads s (f s a)) (l : List α) (s : State) :
    KeepsLoads s (l.foldl f s) :=
  List.foldlRecOn l f (motive := fun t => KeepsLoads s t) (.refl s) fun t same a _ => same.trans (keeps t a)

/-- A change of an axis that leaves its networks loaded. -/
theorem State.updAxis_keepsLoads {s : State} {n : Fin 8} {f : Axis → Axis}
    (keeps : ∀ k, ((f (s.axis n)).loaded k).isSome = ((s.axis n).loaded k).isSome) : KeepsLoads s (s.updAxis n f) := by
  refine ⟨(s.updAxis_touches n f).mono (Set.subset_univ _), fun m k => ?_, fun _ => rfl⟩
  by_cases own : n = m
  · rw [← own, State.updAxis_axis_self]
    exact keeps k
  · rw [(s.updAxis_touches n f).2 m (Ne.symm own)]

theorem State.updCore_keepsLoads {s : State} {c : Fin 32} {f : Core1 → Core1} (keeps : ∀ x, (f x).faults = x.faults) :
    KeepsLoads s (s.updCore c f) := by
  refine ⟨(s.updCore_touches c f).of_none, fun _ _ => rfl, fun d => ?_⟩
  rw [State.core1_updCore]
  split
  · exact keeps _
  · rfl

theorem State.raiseAll_keepsLoads (s : State) (c k i : Nat) (b : Bytes) : KeepsLoads s (s.raiseAll c k i b) :=
  ⟨(s.raiseAll_touches c k i b).of_none, fun n _ => by rw [State.raiseAll_axis], fun c => by rw [State.core1, State.raiseAll_cores]; rfl⟩

theorem State.repin_keepsLoads (s : State) : KeepsLoads s s.repin := by
  refine KeepsLoads.foldl (fun s c => ?_) _ s
  dsimp only
  split
  · exact .refl s
  · split
    · exact State.updCore_keepsLoads fun _ => rfl
    · split
      · exact State.updCore_keepsLoads fun _ => rfl
      · exact .refl s

theorem State.axisEvent_keepsLoads (s : State) (n : Fin 8) (old new : AxSt) (cause : Nat) : KeepsLoads s (s.axisEvent n old new cause) :=
  s.raiseAll_keepsLoads _ _ _ _

theorem State.enterAx_keepsLoads (s : State) (n : Fin 8) (st : AxSt) (cause : Nat) : KeepsLoads s (s.enterAx n st cause) := by
  have entered : KeepsLoads s (s.updAxis n fun a =>
      { a with st := st, cause := cause, lossRunning := a.lossRunning && st == .stopping, handover := none, enteredAt := s.now }) :=
    State.updAxis_keepsLoads fun _ => rfl
  unfold State.enterAx
  exact (entered.trans (State.repin_keepsLoads _)).trans (State.axisEvent_keepsLoads _ n _ _ _)

theorem State.drivePattern_keepsLoads (s : State) (n : Fin 8) (pat : Pattern) : KeepsLoads s (s.drivePattern n pat) :=
  State.updAxis_keepsLoads fun _ => rfl

theorem State.observerFault_keepsLoads (s : State) (n : Fin 8) : KeepsLoads s (s.observerFault n) := by
  have counted : KeepsLoads s (s.updAxis n fun a => { a with cntObsFault := satInc 65535 a.cntObsFault }) := State.updAxis_keepsLoads fun _ => rfl
  have faults (u : State) : KeepsLoads u (u.axisFault n 15) := by
    have freed : KeepsLoads u ((u.uncommutate n).updAxis n fun a =>
        { a with stop := none, zeroFrom := none, evals := [], cntFault := satInc 65535 a.cntFault }) :=
      KeepsLoads.trans (t := u.uncommutate n) (State.updAxis_keepsLoads fun _ => rfl) (State.updAxis_keepsLoads fun _ => rfl)
    unfold State.axisFault
    split
    · exact .refl u
    · exact (freed.trans (State.drivePattern_keepsLoads _ _ _)).trans (State.enterAx_keepsLoads _ _ _ _)
  unfold State.observerFault
  dsimp only
  split
  · exact counted.trans (faults _)
  · exact counted.trans (faults _)
  · exact counted.trans (faults _)
  · exact counted.trans (faults _)
  · exact counted

theorem State.commitCouch_keepsLoads (s : State) (n : Fin 8) (x : Handover) : KeepsLoads s (s.commitCouch n x) := by
  have taken : KeepsLoads s (s.updAxis n fun a => { a with obsSrc := true }.take x) := State.updAxis_keepsLoads fun _ => rfl
  unfold State.commitCouch
  exact taken.trans (State.enterAx_keepsLoads _ _ _ _)

theorem State.settleHandover_keepsLoads (s : State) (n : Fin 8) : KeepsLoads s (s.settleHandover n) := by
  unfold State.settleHandover
  split
  · split
    · exact .refl s
    · exact s.commitCouch_keepsLoads n _
  · exact .refl s

theorem State.toHfi_keepsLoads (s : State) (n : Fin 8) (cause : Nat) : KeepsLoads s (s.toHfi n cause) := by
  have seeded : KeepsLoads s (s.updAxis n fun a =>
    { a with seed := if a.st = .runObs then some a.thetaObs else a.seed, obsSrc := false }) := State.updAxis_keepsLoads fun _ => rfl
  unfold State.toHfi
  exact seeded.trans (State.enterAx_keepsLoads _ _ _ _)

theorem State.refuse_keepsLoads (s : State) (n : Fin 8) (stay : Bool) : KeepsLoads s (s.refuse n stay) := by
  have counted : KeepsLoads s (s.updAxis n fun a =>
      { a with clamped := true, cntRefused := satInc 65535 a.cntRefused, agree := if stay then 0 else a.agree }) :=
    State.updAxis_keepsLoads fun _ => rfl
  unfold State.refuse
  extract_lets s1 a
  change KeepsLoads s s1 at counted
  clear_value s1
  refine KeepsLoads.trans ?_ (State.raiseAll_keepsLoads _ _ _ _ _)
  split
  · exact counted
  · exact counted.trans (s1.toHfi_keepsLoads n 5)

theorem State.loseSync_keepsLoads (s : State) (n : Fin 8) (crit : Nat) (value : Int) : KeepsLoads s (s.loseSync n crit value) := by
  have lost : KeepsLoads s ((s.uncommutate n).updAxis n fun a => { a with cntLost := satInc 65535 a.cntLost }) :=
    KeepsLoads.trans (t := s.uncommutate n) (State.updAxis_keepsLoads fun _ => rfl) (State.updAxis_keepsLoads fun _ => rfl)
  unfold State.loseSync
  exact ((lost.trans (State.drivePattern_keepsLoads _ n _)).trans (State.enterAx_keepsLoads _ n _ _)).trans
    (State.raiseAll_keepsLoads _ _ _ _ _)

theorem State.position_keepsLoads (s : State) (n : Fin 8) (missed first : Bool) : KeepsLoads s (s.position n missed first) := by
  unfold State.position
  extract_lets a c
  split
  · exact .refl s
  · extract_lets o exact_ speed weak theta resid fast crit s1 use s2Obs d s2Couch agreed
    have one : KeepsLoads s s1 := State.updAxis_keepsLoads fun _ => rfl
    have obs : KeepsLoads s s2Obs := one.trans (State.updAxis_keepsLoads fun _ => rfl)
    have couch : KeepsLoads s s2Couch := one.trans (State.updAxis_keepsLoads fun k => by split <;> rfl)
    clear_value agreed s2Couch s2Obs d use crit fast resid theta weak speed exact_ o s1
    split
    · split
      · exact one.trans (s1.loseSync_keepsLoads n _ _)
      · split
        · exact obs.trans (s2Obs.toHfi_keepsLoads n 3)
        · exact obs
    · split
      · exact couch.trans (s2Couch.refuse_keepsLoads n _)
      · split
        · exact (couch.trans (State.updAxis_keepsLoads fun _ => rfl)).trans (State.settleHandover_keepsLoads _ n)
        · split
          · exact couch.trans (s2Couch.refuse_keepsLoads n _)
          · exact couch
    · split
      · exact one.trans (State.updAxis_keepsLoads fun _ => rfl)
      · exact one
    · exact one

theorem State.missEval_keepsLoads (s : State) (n : Fin 8) (k : Fin 3) (first : Bool) : KeepsLoads s (s.missEval n k first) := by
  unfold State.missEval
  split
  · exact State.updAxis_keepsLoads fun _ => rfl
  · next net here =>
    extract_lets counts run fails s1 s2
    have one : KeepsLoads s s1 := State.updAxis_keepsLoads fun i => by
      unfold Axis.loaded
      rw [bankSet_get]
      by_cases own : k = i
      · subst own
        rw [if_pos rfl, here]
        simp
      · rw [if_neg own]
    have two : KeepsLoads s s2 := by
      show KeepsLoads s (if fails then _ else _)
      split
      · exact one.trans (s1.observerFault_keepsLoads n)
      · exact one
    clear_value s2
    refine KeepsLoads.trans (t := if k = 0 ∧ (s2.axis n).st ≠ .fault then s2.position n true first else s2) ?_ (State.settleHandover_keepsLoads _ n)
    split
    · exact two.trans (s2.position_keepsLoads n true first)
    · exact two

/-- A fault on a PINNED core counts on it, and keeps every network loaded. -/
theorem State.pinnedCoreFault_keepsLoads (s : State) (c : Fin 32) :
    KeepsLoads (s.updCore c fun x => { x with faults := satInc 255 x.faults }) (s.pinnedCoreFault c) := by
  unfold State.pinnedCoreFault
  extract_lets s1 s2 s3
  have missed : KeepsLoads s1 s2 := by
    show KeepsLoads s1 (match s1.evalFirst c with
      | some (n, e) => (s1.missEval n e.kind e.fresh).noteOutputs s1 n
      | none => s1)
    split
    · next n e _ => exact (s1.missEval_keepsLoads n e.kind e.fresh).trans (State.updAxis_keepsLoads fun _ => rfl)
    · exact .refl s1
  have barred : KeepsLoads s2 s3 := State.updCore_keepsLoads fun _ => rfl
  clear_value s3 s2
  split
  · refine (missed.trans barred).trans (KeepsLoads.foldl (fun u n => ?_) _ s3)
    split
    · exact u.observerFault_keepsLoads n
    · exact .refl u
  · exact missed

theorem Axis.updNet_loaded (a : Axis) (k : Fin 3) (f : ObsNet → ObsNet) : (a.updNet k f).loaded k = (a.loaded k).map f := by
  unfold Axis.loaded Axis.updNet
  rw [bankUpd_get_self, bankUpd_get_self]
  cases a.netsNew.get k <;> rfl

theorem State.weightFault_acts (s : State) (n : Fin 8) (k : Fin 3) (line : Nat) (here : s.weightsOn n k = true) :
    let t := s.weightFault n k line
    t.mem.fltCause = 4 ∧ t.mem.fltJob = 0xFF ∧ t.mem.fltLine = line ∧ t.weightsOn n k = false ∧
      (∃ y, (t.axis n).loaded k = some y ∧ y.coreOk = false) ∧ t.mem.cntCoreUe = satInc 65535 s.mem.cntCoreUe ∧
      (t.core1 (coreOf n)).faults = satInc 255 (s.core1 (coreOf n)).faults ∧ t.jobs = s.jobs ∧ t.leases = s.leases := by
  have loaded : ((s.axis n).loaded k).isSome = true := by
    simp only [State.weightsOn, Bool.and_eq_true] at here
    obtain ⟨-, ok⟩ := here
    split at ok
    · next y some_ => rw [some_]; rfl
    · cases ok
  obtain ⟨⟨frame, -⟩, loads, faults⟩ := (s.noteFault 4 0 0xFF 0 line).pinnedCoreFault_keepsLoads (coreOf n)
  have kept : (((((s.noteFault 4 0 0xFF 0 line).pinnedCoreFault (coreOf n))).axis n).loaded k).isSome = true := (loads n k).trans loaded
  have counted : (((s.noteFault 4 0 0xFF 0 line).pinnedCoreFault (coreOf n)).core1 (coreOf n)).faults = satInc 255 (s.core1 (coreOf n)).faults := by
    rw [faults, State.core1_updCore, if_pos rfl]
    rfl
  have unfolded : s.weightFault n k line = ((s.noteFault 4 0 0xFF 0 line).pinnedCoreFault (coreOf n)).weightError n k := rfl
  rw [unfolded]
  generalize (s.noteFault 4 0 0xFF 0 line).pinnedCoreFault (coreOf n) = u at frame kept counted
  obtain ⟨y, some_⟩ := Option.isSome_iff_exists.1 kept
  have after : ((u.weightError n k).axis n).loaded k = some { y with coreOk := false } := by
    rw [State.weightError, State.updAxis_axis_self, Axis.updNet_loaded, some_]
    rfl
  have mem : (u.weightError n k).mem = (s.noteFault 4 0 0xFF 0 line).mem := by
    show u.mem = _
    rw [frame]
    rfl
  refine ⟨by rw [mem]; rfl, by rw [mem]; rfl, by rw [mem]; rfl, ?_, ⟨_, after, rfl⟩, by rw [mem]; rfl, counted, ?_, ?_⟩
  · rw [State.weightsOn, after, Bool.and_false]
  · show u.jobs = s.jobs
    rw [frame]
    rfl
  · show u.leases = s.leases
    rw [frame]
    rfl

/-- Settles O36: enrolments, the entropy source and the errors of stored lines, each by its row. -/
theorem keyAndErrorRowsAct : Obligations.KeyAndErrorRowsAct := by
  unfold Obligations.KeyAndErrorRowsAct
  refine ⟨enrolComplete_waits, fun s written o w rest busy _ _ _ queue own => ?_, entropyTestFail_acts, reseeds_act, scrubPass_counts,
    fun s met tag mismatch region line out runs => ⟨?_, fun j r here running named => ?_, fun n k => ?_⟩⟩
  · have ends := enrolComplete_ends (written := written) busy queue own
    simp only [EnrolOp.outcome, EnrolOp.judged_eq] at ends
    exact ends
  · exact memUncorrectable_self s met tag mismatch region line out runs
  · exact memUncorrectable_region out runs here running named
  · have row : exec (.memUncorrectable false (.weights n k) tag mismatch region line) s =
        .next (if s.weightsOn n k then s.weightFault n k line.toNat else s) :=
      congrArg Host.Outcome.next ((if_neg (not_or.2 ⟨out, runs⟩)).trans (if_neg Bool.false_ne_true))
    split
    · next sound =>
      rw [if_pos sound] at row
      exact ⟨_, row, s.weightFault_acts n k line.toNat sound⟩
    · next bad => exact row.trans (congrArg _ (if_neg bad))

end Sys2Proof.Machine
end

section
/-! PROOFS. A hardware shutdown (R34, R58): DEV_STATE SHUTDOWN, every core OFF, every axis stopped and held. -/

namespace Sys2Proof.Machine

/-! ### What answering commands and ending jobs leaves -/

/-- Time, the supplies, the clocks, the start, SAFETY, the timers and the axes stand. -/
structure KeepsRig (s t : State) : Prop where
  now : t.now = s.now
  thermal : t.thermal = s.thermal
  avs : t.avs = s.avs
  fabric : t.fabric = s.fabric
  boot : t.boot = s.boot
  safety : t.safety = s.safety
  timers : t.timers = s.timers
  axes : t.axes = s.axes

theorem KeepsRig.refl (s : State) : KeepsRig s s := ⟨rfl, rfl, rfl, rfl, rfl, rfl, rfl, rfl⟩

theorem KeepsRig.trans {s t u : State} (a : KeepsRig s t) (b : KeepsRig t u) : KeepsRig s u :=
  ⟨b.now.trans a.now, b.thermal.trans a.thermal, b.avs.trans a.avs, b.fabric.trans a.fabric, b.boot.trans a.boot, b.safety.trans a.safety,
    b.timers.trans a.timers, b.axes.trans a.axes⟩

theorem KeepsRig.foldl {α : Type} {f : State → α → State} (keeps : ∀ s a, KeepsRig s (f s a)) (l : List α) (s : State) :
    KeepsRig s (l.foldl f s) :=
  List.foldlRecOn l f (motive := fun t => KeepsRig s t) (.refl s) fun t same a _ => same.trans (keeps t a)

theorem KeepsRig.forAll {n : Nat} {f : State → Fin n → State} (keeps : ∀ s i, KeepsRig s (f s i)) (s : State) : KeepsRig s (forAll s f) :=
  .foldl keeps _ s

theorem State.updJobs_keepsRig (s : State) (f : Jobs → Jobs) : KeepsRig s (s.updJobs f) := ⟨rfl, rfl, rfl, rfl, rfl, rfl, rfl, rfl⟩
theorem State.updJob_keepsRig (s : State) (t : Fin 64) (f : Job → Job) : KeepsRig s (s.updJob t f) := ⟨rfl, rfl, rfl, rfl, rfl, rfl, rfl, rfl⟩
theorem State.updToken_keepsRig (s : State) (id : Nat) (f : Token → Token) : KeepsRig s (s.updToken id f) :=
  ⟨rfl, rfl, rfl, rfl, rfl, rfl, rfl, rfl⟩
theorem State.updCores_keepsRig (s : State) (f : Cores → Cores) : KeepsRig s (s.updCores f) := ⟨rfl, rfl, rfl, rfl, rfl, rfl, rfl, rfl⟩
theorem State.updTb_keepsRig (s : State) (f : Timebase → Timebase) : KeepsRig s (s.updTb f) := ⟨rfl, rfl, rfl, rfl, rfl, rfl, rfl, rfl⟩
theorem State.raise_keepsRig (s : State) (c k i : Nat) (b : Bytes) (p : Port) : KeepsRig s (s.raise c k i b p) :=
  ⟨rfl, rfl, rfl, rfl, rfl, rfl, rfl, rfl⟩

theorem State.raiseAll_keepsRig (s : State) (c k i : Nat) (b : Bytes) : KeepsRig s (s.raiseAll c k i b) :=
  .foldl (f := fun s p => s.raise c k i b p) (fun s p => s.raise_keepsRig c k i b p) _ s

theorem State.reply_keepsRig (s : State) (t : Ticket) (e : Nat) (b : Bytes) : KeepsRig s (s.reply t e b) := by
  have same := s.reply_sameButPorts t e b
  unfold SameButPorts at same
  rw [same]
  exact ⟨rfl, rfl, rfl, rfl, rfl, rfl, rfl, rfl⟩

theorem LightMoves.keepsRig {s t : State} (moves : LightMoves s t) : KeepsRig s t := by
  unfold LightMoves at moves
  rw [moves]
  exact ⟨rfl, rfl, rfl, rfl, rfl, rfl, rfl, rfl⟩

theorem State.tryReady_keepsRig (s : State) (t : Fin 64) : KeepsRig s (s.tryReady t) := by
  unfold State.tryReady
  split
  · exact .refl s
  · dsimp only
    split
    · exact ⟨rfl, rfl, rfl, rfl, rfl, rfl, rfl, rfl⟩
    · exact .refl s

theorem State.served_keepsRig (s : State) (w : Waiter) (n : Nat) : KeepsRig s (s.served w n) := by
  cases w with
  | host tk m d => exact s.reply_keepsRig _ _ _
  | job t => exact (s.updJob_keepsRig t _).trans (State.tryReady_keepsRig _ t)

theorem State.settleToken_keepsRig (s : State) (id : Nat) : KeepsRig s (s.settleToken id) :=
  State.serveToken_induct (P := fun t => KeepsRig s t) (fun t _ _ _ same _ _ => same.trans ((t.updToken_keepsRig id _).trans
    (State.served_keepsRig _ _ _))) _ s (.refl s)

theorem State.freeFrames_keepsRig (s : State) (t : Fin 64) : KeepsRig s (s.freeFrames t) :=
  .forAll (f := fun u p => u.updSensor p _) (fun _ _ => ⟨rfl, rfl, rfl, rfl, rfl, rfl, rfl, rfl⟩) s

theorem State.freeTag_keepsRig (s : State) (t : Fin 64) : KeepsRig s (s.freeTag t) := by
  have tags := s.updJobs_keepsRig fun j => { j with tags := bankSet j.tags t none }
  unfold State.freeTag
  split
  · exact tags
  · dsimp only
    split
    · exact tags
    · exact (tags.trans (State.updJobs_keepsRig _ _)).trans (.foldl (fun u c => u.updCores_keepsRig _) _ _)

theorem State.endJob_keepsRig (s : State) (t : Fin 64) (st : JobSt) (final : Nat) : KeepsRig s (s.endJob t st final) := by
  have ended := (s.updJob_keepsRig t (Job.endedAs st final s.devTime)).trans (State.freeFrames_keepsRig _ t)
  have count (u : State) : KeepsRig u (u.updJobs fun x => { x with
      cntFailed := if st = .failed then satInc 65535 x.cntFailed else x.cntFailed,
      cntCancel := if st = .cancelled then satInc 65535 x.cntCancel else x.cntCancel }) := u.updJobs_keepsRig _
  unfold State.endJob
  dsimp only
  split
  · exact ended
  · next j _ =>
    have told := (ended.trans (State.raise_keepsRig _ _ _ _ _ _)).trans (count (State.jobDone _ t j))
    split
    · exact told.trans (State.freeTag_keepsRig _ t)
    · exact told

theorem State.withdraw_keepsRig (s : State) (t : Fin 64) : KeepsRig s (s.withdraw t) := by
  unfold State.withdraw
  split
  · split
    · exact (s.updToken_keepsRig _ _).trans (State.settleToken_keepsRig _ _)
    · exact .refl s
  · exact .refl s

theorem State.jobsHwFail_keepsRig (s : State) (detail : Nat) : KeepsRig s (s.jobsHwFail detail) := by
  refine .forAll (fun u k => ?_) s
  split
  · next j _ =>
    split
    · exact .refl u
    · refine KeepsRig.trans ?_ (State.endJob_keepsRig _ k _ _)
      refine KeepsRig.trans ?_ (State.updJob_keepsRig _ k _)
      split
      · exact ⟨rfl, rfl, rfl, rfl, rfl, rfl, rfl, rfl⟩
      · exact u.withdraw_keepsRig k
  · exact .refl u

theorem State.hostsHwFail_keepsRig (s : State) : KeepsRig s s.hostsHwFail := by
  unfold State.hostsHwFail
  dsimp only
  refine KeepsRig.trans ?_ (.foldl (fun u t => u.reply_keepsRig t eHwFault []) _ _)
  exact ⟨rfl, rfl, rfl, rfl, rfl, rfl, rfl, rfl⟩

theorem State.timeLoad_keepsRig (s : State) : KeepsRig s s.timeLoad := by
  unfold State.timeLoad
  split
  · next n _ =>
    obtain ⟨frame, -, -, -⟩ := s.selectRef_keeps n
    rw [frame]
    exact ⟨rfl, rfl, rfl, rfl, rfl, rfl, rfl, rfl⟩
  · exact .refl s

/-! ### The shutdown -/

theorem State.coresOff_off (s : State) : KeepsRig s s.coresOff ∧ ∀ c, (s.coresOff.core1 c).st = .off := by
  refine ⟨s.updCores_keepsRig _, fun c => ?_⟩
  simp [State.coresOff, State.core1, State.updCores, Vector.get_eq_getElem]

/-- What a hardware shutdown of a cause does (6: thermal, 7: clock). -/
structure ShutDown (s t : State) (cause : Nat) : Prop where
  dev : t.boot.dev = .shutdown
  safety : t.safety = { s.safety with thermal := s.safety.thermal || cause == 6, clock := s.safety.clock || cause == 7 }
  cores : ∀ c, (t.core1 c).st = .off
  thermal : t.thermal = s.thermal
  avs : t.avs = s.avs
  fabric : t.fabric = s.fabric
  timers : t.timers = s.timers
  axes : ∀ n, (t.axis n).hold = true ∧ AxisStopped s t n (if s.cfgStop n = .ramp then .freewheel else s.cfgStop n) .hardware 10

/-- SHUTDOWN is entered, the settings saved in the store loaded where the start had not come to it. -/
def State.shutEntered (s : State) (cause : Nat) : State :=
  let s1 : State := { s with
    boot := { s.boot with dev := .shutdown, step := if s.boot.step = .done then .done else .stopped },
    safety := { s.safety with thermal := s.safety.thermal || cause == 6, clock := s.safety.clock || cause == 7 } }
  if s.boot.dev = .boot then s1.timeLoad else s1

/-- The lights off, what is outstanding answered, the jobs ended, the cores off. -/
def State.allEnded (s : State) (detail : Nat) : State := (s.lightsOff.hostsHwFail.jobsHwFail detail).coresOff

theorem State.shutdown_eq (s : State) (cause : Nat) :
    s.shutdown cause = ((s.shutEntered cause).hardwareStop.allEnded (cause - 5)).safeEvent cause 0xFF := rfl

theorem State.allEnded_off (s : State) (detail : Nat) : KeepsRig s (s.allEnded detail) ∧ ∀ c, ((s.allEnded detail).core1 c).st = .off := by
  obtain ⟨⟨i, dark⟩, -, -⟩ := s.lightsOff_dark
  have lights : KeepsRig s s.lightsOff := by
    rw [dark]
    exact ⟨rfl, rfl, rfl, rfl, rfl, rfl, rfl, rfl⟩
  obtain ⟨cores, off⟩ := (s.lightsOff.hostsHwFail.jobsHwFail detail).coresOff_off
  exact ⟨((lights.trans (State.hostsHwFail_keepsRig _)).trans (State.jobsHwFail_keepsRig _ detail)).trans cores, off⟩

/-- What entering SHUTDOWN leaves beside DEV_STATE and SAFETY. -/
theorem State.shutEntered_keeps (s : State) (cause : Nat) : let t := s.shutEntered cause
    t.boot.dev = .shutdown ∧
    t.safety = { s.safety with thermal := s.safety.thermal || cause == 6, clock := s.safety.clock || cause == 7 } ∧
    t.thermal = s.thermal ∧ t.avs = s.avs ∧ t.fabric = s.fabric ∧ t.timers = s.timers ∧ t.axes = s.axes ∧ t.now = s.now := by
  unfold State.shutEntered
  dsimp only
  split
  · have loads := State.timeLoad_keepsRig { s with
      boot := { s.boot with dev := .shutdown, step := if s.boot.step = .done then .done else .stopped },
      safety := { s.safety with thermal := s.safety.thermal || cause == 6, clock := s.safety.clock || cause == 7 } }
    exact ⟨congrArg Boot.dev loads.boot, loads.safety, loads.thermal, loads.avs, loads.fabric, loads.timers, loads.axes, loads.now⟩
  · exact ⟨rfl, rfl, rfl, rfl, rfl, rfl, rfl, rfl⟩

theorem State.shutdown_shuts (s : State) (cause : Nat) : ShutDown s (s.shutdown cause) cause := by
  rw [State.shutdown_eq]
  obtain ⟨dev, safety, thermal, avs, fabric, timers, axes, now⟩ := s.shutEntered_keeps cause
  generalize s.shutEntered cause = u at dev safety thermal avs fabric timers axes now
  obtain ⟨frame, -⟩ := u.hardwareStop_touches
  have stopped := u.hardwareStop_axis
  generalize u.hardwareStop = v at frame stopped
  obtain ⟨ends, off⟩ := v.allEnded_off (cause - 5)
  generalize v.allEnded (cause - 5) = w at ends off
  have rig : KeepsRig w (w.safeEvent cause 0xFF) := w.raiseAll_keepsRig _ _ _ _
  have whole := ends.trans rig
  have cores : (w.safeEvent cause 0xFF).cores = w.cores := State.raiseAll_cores _ _ _ _ _
  refine ⟨?_, ?_, fun c => ?_, ?_, ?_, ?_, ?_, fun n => ?_⟩
  · rw [whole.boot, frame]
    exact dev
  · rw [whole.safety, frame]
    exact safety
  · rw [State.core1, cores]
    exact off c
  · rw [whole.thermal, frame]
    exact thermal
  · rw [whole.avs, frame]
    exact avs
  · rw [whole.fabric, frame]
    exact fabric
  · rw [whole.timers, frame]
    exact timers
  · have axis : (w.safeEvent cause 0xFF).axis n = v.axis n := by rw [State.axis, whole.axes]; rfl
    have cfg : u.cfgStop n = s.cfgStop n := by rw [State.cfgStop, safety]; rfl
    have before : u.axis n = s.axis n := by rw [State.axis, axes]; rfl
    obtain ⟨held, stops⟩ := stopped n
    rw [cfg] at stops
    exact ⟨(congrArg Axis.hold axis).trans held, stops.of_eq now (by rw [before]) (by rw [before]) axis.symm⟩

end Sys2Proof.Machine
end

section
/-! PROOFS. Junction temperatures, the ceiling of VCORE and the clocks (R31 to R34, R36, R41, R53, R54, R58, R59). -/

namespace Sys2Proof.Machine

/-! ### Thresholds and hysteresis -/

theorem mem_bankList {α : Type} {n : Nat} {v : Vector α n} {x : Fin n × α} : x ∈ bankList v ↔ x.2 = v.get x.1 := by
  obtain ⟨i, a⟩ := x
  simp [bankList, eq_comm]

/-- A valid reading that satisfies `p`. -/
theorem Thermal.valid_any (t : Thermal) (p : Fin 12 × Int → Bool) : t.valid.any p = true ↔
    ∃ k, (t.sensors.get k).valid = true ∧ p (k, (t.sensors.get k).temp.toInt) = true := by
  simp only [Thermal.valid, List.any_eq_true, List.mem_filterMap, mem_bankList]
  constructor
  · rintro ⟨y, ⟨⟨k, x⟩, eq, some_⟩, here⟩
    obtain rfl : x = t.sensors.get k := eq
    split at some_
    · next valid =>
      cases some_
      exact ⟨k, valid, here⟩
    · cases some_
  · rintro ⟨k, valid, here⟩
    exact ⟨_, ⟨(k, t.sensors.get k), rfl, if_pos valid⟩, here⟩

/-- Some valid reading is at or above `x`; the field die's count only with `field`. -/
def Thermal.reaches (t : Thermal) (x : Int) (field : Bool) : Prop :=
  ∃ k, (t.sensors.get k).valid = true ∧ x ≤ (t.sensors.get k).temp.toInt ∧ (field = true ∨ (k ≠ 8 ∧ k ≠ 9))

theorem Thermal.any_reaches (t : Thermal) (x : Int) : (t.valid.any fun y => decide (x ≤ y.2)) = true ↔ t.reaches x true := by
  rw [Thermal.valid_any]
  simp [Thermal.reaches]

theorem Thermal.all_below (t : Thermal) (x : Int) : (t.valid.all fun y => decide (y.2 < x)) = true ↔ ¬ t.reaches x true := by
  rw [← Thermal.any_reaches, List.all_eq_not_any_not, Bool.not_eq_true', Bool.not_eq_true]
  simp

theorem Thermal.any_throttling_reaches (t : Thermal) (x : Int) :
    ((t.valid.filter fun y => throttles y.1).any fun y => decide (x ≤ y.2)) = true ↔ t.reaches x false := by
  rw [List.any_filter, Thermal.valid_any]
  simp only [Thermal.reaches, throttles, Bool.and_eq_true, bne_iff_ne, decide_eq_true_eq, ne_eq,
    Bool.false_eq_true, false_or]
  tauto

theorem Thermal.all_throttling_below (t : Thermal) (x : Int) :
    ((t.valid.filter fun y => throttles y.1).all fun y => decide (y.2 < x)) = true ↔ ¬ t.reaches x false := by
  rw [← Thermal.any_throttling_reaches, List.all_eq_not_any_not, Bool.not_eq_true', Bool.not_eq_true]
  simp

theorem Thermal.reaches_lower {t : Thermal} {x y : Int} {field : Bool} (low : y ≤ x) (high : t.reaches x field) : t.reaches y field := by
  obtain ⟨k, valid, at_, kind⟩ := high
  exact ⟨k, valid, low.trans at_, kind⟩

/-- A latch with hysteresis: set at a threshold, cleared below another, unless held. -/
theorem hysteresis {set clear held : Bool} {old : Bool} (above : set = true → clear = false) :
    ((if ¬ old ∧ set then true else if old ∧ ¬ held ∧ clear then false else old) = true) ↔
      set = true ∨ (old = true ∧ (held = true ∨ clear = false)) := by
  cases set <;> cases clear <;> cases held <;> cases old <;> simp_all

/-! ### The judgement of the readings (R32, R34) -/

/-- WARN and LIMIT as the readings leave them. -/
def Thermal.warns (t : Thermal) : Bool :=
  if ¬ t.warn ∧ t.valid.any (fun x => decide ((t.tjWarn * 16 : Int) ≤ x.2)) then true
  else if t.warn ∧ t.valid.all (fun x => decide (x.2 < (t.tjWarn * 16 : Int) - t.tjHyst * 16)) then false
  else t.warn

def Thermal.limits (t : Thermal) : Bool :=
  if ¬ t.limit ∧ (t.valid.filter fun x => throttles x.1).any (fun x => decide ((1680 : Int) ≤ x.2)) then true
  else if t.limit ∧ ¬ t.limitHeld ∧ (t.valid.filter fun x => throttles x.1).all (fun x => decide (x.2 < (1680 : Int) - t.tjHyst * 16)) then false
  else t.limit

theorem Thermal.warns_iff (t : Thermal) : t.warns = true ↔ t.reaches (t.tjWarn * 16) true ∨
    (t.warn = true ∧ t.reaches (t.tjWarn * 16 - t.tjHyst * 16) true) := by
  have latch := hysteresis (old := t.warn) (held := false) (set := t.valid.any fun x => decide ((t.tjWarn * 16 : Int) ≤ x.2))
    (clear := t.valid.all fun x => decide (x.2 < (t.tjWarn * 16 : Int) - t.tjHyst * 16)) fun high => by
      rw [Thermal.any_reaches] at high
      rw [← Bool.not_eq_true, Thermal.all_below, not_not]
      exact t.reaches_lower (by omega) high
  simp only [Bool.false_eq_true, not_false_eq_true, true_and, false_or] at latch
  rw [Thermal.warns, latch, Thermal.any_reaches, ← Bool.not_eq_true (List.all _ _), Thermal.all_below, not_not]

theorem Thermal.limits_iff (t : Thermal) : t.limits = true ↔ t.reaches 1680 false ∨
    (t.limit = true ∧ (t.limitHeld = true ∨ t.reaches (1680 - t.tjHyst * 16) false)) := by
  rw [Thermal.limits, hysteresis, Thermal.any_throttling_reaches, ← Bool.not_eq_true (List.all _ _), Thermal.all_throttling_below, not_not]
  intro high
  rw [Thermal.any_throttling_reaches] at high
  rw [← Bool.not_eq_true, Thermal.all_throttling_below, not_not]
  exact t.reaches_lower (by omega) high

/-- From `s` to `t` only WARN, LIMIT, the ceiling's time and the owners may change. -/
def TempsJudged (s t : State) (w l : Bool) : Prop :=
  ∃ due o, t = { s with thermal := { s.thermal with warn := w, limit := l, ceilDue := due }, owners := o }

/-- The warnings and limits of a judgement, its shutdown apart. -/
def State.judgedLimits (s : State) (n : Fin 12) : State :=
  let t := s.thermal
  let v := t.valid
  let warnAt : Int := t.tjWarn * 16
  let limAt : Int := 105 * 16
  let hyst : Int := t.tjHyst * 16
  let lim := v.filter fun x => throttles x.1
  let s1 : State :=
    if ¬ t.warn ∧ v.any (fun x => decide (warnAt ≤ x.2)) then
      (s.updThermal fun t => { t with warn := true }).thermalEvent 1 n
    else if t.warn ∧ v.all (fun x => decide (x.2 < warnAt - hyst)) then
      (s.updThermal fun t => { t with warn := false }).thermalEvent 2 n
    else s
  if ¬ t.limit ∧ lim.any (fun x => decide (limAt ≤ x.2)) then s1.limitSet n
  else if t.limit ∧ ¬ t.limitHeld ∧ lim.all (fun x => decide (x.2 < limAt - hyst)) then
    (s1.updThermal fun t => { t with limit := false, ceilDue := s.now + 10 * msTicks }).thermalEvent 4 n
  else s1

theorem State.judgeTemps_eq (s : State) (n : Fin 12) : s.judgeTemps n =
    if ¬ s.thermal.crit = true ∧ s.thermal.valid.any (fun x => decide ((115 * 16 : Int) ≤ x.2)) = true then (s.judgedLimits n).thermalShutdown n
    else s.judgedLimits n := rfl

theorem TempsJudged.limit {s t : State} {w l : Bool} (judged : TempsJudged s t w l) (b : Bool) (due : Thermal → Nat) (code : Nat) (n : Fin 12) :
    TempsJudged s ((t.updThermal fun t => { t with limit := b, ceilDue := due t }).thermalEvent code n) w b := by
  obtain ⟨_, _, rfl⟩ := judged
  rw [State.thermalEvent, State.raiseAll_onlyOwners]
  exact ⟨_, _, rfl⟩

theorem State.judgedLimits_judged (s : State) (n : Fin 12) : TempsJudged s (s.judgedLimits n) s.thermal.warns s.thermal.limits := by
  unfold State.judgedLimits
  extract_lets t v warnAt limAt hyst lim s1
  have warned : TempsJudged s s1 s.thermal.warns s.thermal.limit := by
    have told (b : Bool) (code : Nat) : TempsJudged s ((s.updThermal fun t => { t with warn := b }).thermalEvent code n) b s.thermal.limit := by
      rw [State.thermalEvent, State.raiseAll_onlyOwners]
      exact ⟨_, _, rfl⟩
    by_cases hot : ¬ s.thermal.warn ∧ s.thermal.valid.any fun x => decide ((s.thermal.tjWarn * 16 : Int) ≤ x.2)
    · rw [show s1 = _ from if_pos hot, show s.thermal.warns = true from if_pos hot]
      exact told true 1
    by_cases cool : s.thermal.warn ∧ s.thermal.valid.all fun x => decide (x.2 < (s.thermal.tjWarn * 16 : Int) - s.thermal.tjHyst * 16)
    · rw [show s1 = _ from (if_neg hot).trans (if_pos cool), show s.thermal.warns = false from (if_neg hot).trans (if_pos cool)]
      exact told false 2
    · rw [show s1 = s from (if_neg hot).trans (if_neg cool), show s.thermal.warns = s.thermal.warn from (if_neg hot).trans (if_neg cool)]
      exact ⟨_, _, rfl⟩
  clear_value s1
  by_cases hot : ¬ s.thermal.limit ∧ (s.thermal.valid.filter fun x => throttles x.1).any fun x => decide ((1680 : Int) ≤ x.2)
  · rw [show s.thermal.limits = true from if_pos hot]
    refine Eq.mp (congrArg (TempsJudged s · _ _) (if_pos hot).symm) ?_
    exact warned.limit true (fun t => if t.limit then t.ceilDue else s1.now) 3 n
  by_cases cool : s.thermal.limit ∧ ¬ s.thermal.limitHeld ∧
      (s.thermal.valid.filter fun x => throttles x.1).all fun x => decide (x.2 < (1680 : Int) - s.thermal.tjHyst * 16)
  · rw [show s.thermal.limits = false from (if_neg hot).trans (if_pos cool)]
    refine Eq.mp (congrArg (TempsJudged s · _ _) ((if_neg hot).trans (if_pos cool)).symm) ?_
    exact warned.limit false (fun _ => s.now + 10 * msTicks) 4 n
  · rw [show s.thermal.limits = s.thermal.limit from (if_neg hot).trans (if_neg cool)]
    exact Eq.mp (congrArg (TempsJudged s · _ _) ((if_neg hot).trans (if_neg cool)).symm) warned

/-! ### The thermal shutdown (R34) -/

/-- What a thermal shutdown does. -/
structure ShutHot (s t : State) : Prop where
  dev : t.boot.dev = .shutdown
  safety : t.safety.thermal = true
  cores : ∀ c, (t.core1 c).st = .off
  thermal : t.thermal = { s.thermal with crit := true }
  ramping : t.avs.ramping = decide (720 < s.avs.reqMv)
  axes : ∀ n, (t.axis n).hold = true ∧ AxisStopped s t n (if s.cfgStop n = .ramp then .freewheel else s.cfgStop n) .hardware 10

theorem State.thermalShutdown_shuts (s : State) (n : Fin 12) : ShutHot s (s.thermalShutdown n) := by
  have shut := ((s.updThermal fun t => { t with crit := true }).updAvs fun a => { a with ramping := decide (720 < a.reqMv) }).shutdown_shuts 6
  unfold State.thermalShutdown
  dsimp only
  generalize ((s.updThermal fun t => { t with crit := true }).updAvs fun a => { a with ramping := decide (720 < a.reqMv) }).shutdown 6 = u at shut
  have event : KeepsRig u (u.thermalEvent 5 n) := u.raiseAll_keepsRig _ _ _ _
  have cores : (u.thermalEvent 5 n).cores = u.cores := State.raiseAll_cores _ _ _ _ _
  generalize u.thermalEvent 5 n = v at event cores
  have lamps := v.lampRefresh_light
  have rig := event.trans lamps.keepsRig
  have same : v.lampRefresh.cores = u.cores := by
    unfold LightMoves at lamps
    rw [lamps]
    exact cores
  generalize v.lampRefresh = t at rig same
  refine ⟨(congrArg Boot.dev rig.boot).trans shut.dev, ?_, fun c => ?_, rig.thermal.trans shut.thermal, ?_, fun k => ?_⟩
  · rw [rig.safety, shut.safety]
    exact Bool.or_true _
  · rw [State.core1, same]
    exact shut.cores c
  · rw [rig.avs, shut.avs]
    rfl
  · have axis : t.axis k = u.axis k := by rw [State.axis, rig.axes]; rfl
    obtain ⟨held, stopped⟩ := shut.axes k
    exact ⟨(congrArg Axis.hold axis).trans held, stopped.of_eq rfl rfl rfl axis.symm⟩

/-- The judgement of the readings: WARN and LIMIT by their hysteresis, and the shutdown at TJ_CRIT. -/
theorem State.judgeTemps_acts (s : State) (n : Fin 12) : let t := s.judgeTemps n
    (∃ due, t.thermal = { s.thermal with warn := s.thermal.warns, limit := s.thermal.limits, ceilDue := due, crit := t.thermal.crit }) ∧
    (t.thermal.crit = true ↔ s.thermal.reaches 1840 true ∨ s.thermal.crit = true) ∧
    (if t.thermal.crit = true ∧ s.thermal.crit = false then
      t.boot.dev = .shutdown ∧ t.safety.thermal = true ∧ (∀ c, (t.core1 c).st = .off) ∧
        t.avs.ramping = decide (720 < s.avs.reqMv) ∧
        ∀ k, (t.axis k).hold = true ∧
          AxisStopped s t k (if s.cfgStop k = .ramp then .freewheel else s.cfgStop k) .hardware 10
    else t.boot = s.boot ∧ t.axes = s.axes ∧ t.cores = s.cores) := by
  intro t
  obtain ⟨due, o, judged⟩ := s.judgedLimits_judged n
  have whole : t = _ := s.judgeTemps_eq n
  have reached : s.thermal.valid.any (fun x => decide ((115 * 16 : Int) ≤ x.2)) = true ↔ s.thermal.reaches 1840 true := s.thermal.any_reaches 1840
  clear_value t
  by_cases shuts : ¬ s.thermal.crit = true ∧ s.thermal.valid.any (fun x => decide ((115 * 16 : Int) ≤ x.2)) = true
  · have shut := (s.judgedLimits n).thermalShutdown_shuts n
    rw [if_pos shuts] at whole
    rw [← whole, judged] at shut
    have crit : t.thermal.crit = true := congrArg Thermal.crit shut.thermal
    refine ⟨⟨due, ?_⟩, ⟨fun _ => .inl (reached.1 shuts.2), fun _ => crit⟩, ?_⟩
    · rw [crit]
      exact shut.thermal
    · rw [if_pos ⟨crit, (Bool.not_eq_true _).mp shuts.1⟩]
      refine ⟨shut.dev, shut.safety, shut.cores, shut.ramping, fun k => ?_⟩
      obtain ⟨held, stopped⟩ := shut.axes k
      exact ⟨held, stopped.of_eq rfl rfl rfl rfl⟩
  · rw [if_neg shuts, judged] at whole
    rw [whole]
    refine ⟨⟨due, rfl⟩, ⟨fun crit => .inr crit, ?_⟩, ?_⟩
    · rintro (hot | crit)
      · exact not_not.1 fun cool => shuts ⟨cool, reached.2 hot⟩
      · exact crit
    · rw [if_neg]
      · exact ⟨rfl, rfl, rfl⟩
      · rintro ⟨crit, cool⟩
        exact Bool.false_ne_true (cool.symm.trans crit)

/-! ### TEMP_CONVERSION -/

theorem Thermal.reaches_of_sensors {t u : Thermal} (same : t.sensors = u.sensors) (x : Int) (field : Bool) :
    t.reaches x field ↔ u.reaches x field := by rw [Thermal.reaches, Thermal.reaches, same]

/-- The state in which a reading of a sensor is judged. -/
def State.tempTaken (s : State) (n : Fin 12) (r : BitVec 16) : State :=
  s.updThermal fun t => { t with
    sensors := bankSet t.sensors n ⟨r, true, false⟩
    peak := match t.peak with
      | some (p, k) => if p.toInt < r.toInt then some (r, n) else some (p, k)
      | none => some (r, n) }

/-- What the 16 bits of a conversion say: a stack's sensor gives whole degrees. -/
def tempRead (n : Fin 12) (reading : BitVec 16) : BitVec 16 := if 10 ≤ n.val then reading &&& 0xFFF0 else reading

section
variable {s : State} {n : Fin 12} (powered : s.boot.step ≠ .held) (sound : (s.thermal.sensors.get n).failed = false)
include powered sound

theorem exec_tempConversion_sound (reading : BitVec 16) (low : -880 ≤ (tempRead n reading).toInt) (high : (tempRead n reading).toInt ≤ 2400) :
    exec (.tempConversion n reading) s = .next ((s.tempTaken n (tempRead n reading)).judgeTemps n) := by
  have up : s.powered = true := by simpa [State.powered] using powered
  have row : exec (.tempConversion n reading) s = execTempConversion n reading s := rfl
  have range : ¬ ((tempRead n reading).toInt < -55 * 16 ∨ 150 * 16 < (tempRead n reading).toInt) := by omega
  have sensors : bankUpd (bankUpd s.thermal.sensors n fun x => { x with temp := tempRead n reading }) n (fun x => { x with valid := true }) =
      bankSet s.thermal.sensors n ⟨tempRead n reading, true, false⟩ := by
    rw [bankUpd_bankUpd, bankUpd, bankSet]
    show s.thermal.sensors.set n ⟨tempRead n reading, true, (s.thermal.sensors.get n).failed⟩ = _
    rw [sound]
  rw [row, execTempConversion, if_neg (not_not.2 up)]
  refine congrArg Host.Outcome.next ((if_neg (by rw [sound]; decide)).trans ((if_neg range).trans ?_))
  refine congrArg (State.judgeTemps · n) ?_
  show ({ s with thermal := { s.thermal with
    sensors := bankUpd (bankUpd s.thermal.sensors n fun x => { x with temp := tempRead n reading }) n (fun x => { x with valid := true })
    peak := match s.thermal.peak with
      | some (p, k) => if p.toInt < (tempRead n reading).toInt then some (tempRead n reading, n) else some (p, k)
      | none => some (tempRead n reading, n) } } : State) = _
  rw [sensors]
  rfl

theorem tempConversion_judges (reading : BitVec 16) (low : -880 ≤ (tempRead n reading).toInt) (high : (tempRead n reading).toInt ≤ 2400) :
    let r := tempRead n reading
    let hyst : Int := s.thermal.tjHyst * 16
    ∃ t, exec (.tempConversion n reading) s = .next t ∧
        t.thermal.sensors = bankSet s.thermal.sensors n ⟨r, true, false⟩ ∧
        (let warnAt : Int := s.thermal.tjWarn * 16;
          (t.thermal.warn = true ↔ t.thermal.reaches warnAt true ∨ (s.thermal.warn = true ∧ t.thermal.reaches (warnAt - hyst) true)) ∧
          (t.thermal.limit = true ↔ t.thermal.reaches 1680 false ∨
            (s.thermal.limit = true ∧ (s.thermal.limitHeld = true ∨ t.thermal.reaches (1680 - hyst) false))) ∧
          (t.thermal.crit = true ↔ t.thermal.reaches 1840 true ∨ s.thermal.crit = true)) ∧
        (if t.thermal.crit = true ∧ s.thermal.crit = false then
          t.boot.dev = .shutdown ∧ t.safety.thermal = true ∧ (∀ c, (t.core1 c).st = .off) ∧
            t.avs.ramping = decide (720 < s.avs.reqMv) ∧
            ∀ k, (t.axis k).hold = true ∧
              AxisStopped s t k (if s.cfgStop k = .ramp then .freewheel else s.cfgStop k) .hardware 10
        else t.boot = s.boot ∧ t.axes = s.axes ∧ t.cores = s.cores) ∧
        (∀ p k, s.thermal.peak = some (p, k) →
          t.thermal.peak = if p.toInt < r.toInt then some (r, n) else some (p, k)) := by
  intro r hyst
  obtain ⟨⟨due, thermal⟩, crit, shut⟩ := (s.tempTaken n r).judgeTemps_acts n
  refine ⟨_, exec_tempConversion_sound powered sound reading low high, ?_⟩
  generalize (s.tempTaken n r).judgeTemps n = t at thermal crit shut
  have sensors : t.thermal.sensors = (s.tempTaken n r).thermal.sensors := by rw [thermal]
  refine ⟨sensors, ⟨?_, ?_, ?_⟩, ?_, fun p k peak => ?_⟩
  · rw [show t.thermal.warn = (s.tempTaken n r).thermal.warns by rw [thermal], Thermal.warns_iff]
    simp only [Thermal.reaches_of_sensors sensors]
    rfl
  · rw [show t.thermal.limit = (s.tempTaken n r).thermal.limits by rw [thermal], Thermal.limits_iff]
    simp only [Thermal.reaches_of_sensors sensors]
    rfl
  · rw [crit]
    simp only [Thermal.reaches_of_sensors sensors]
    rfl
  · by_cases shuts : t.thermal.crit = true ∧ s.thermal.crit = false
    · rw [if_pos shuts]
      rw [if_pos (show t.thermal.crit = true ∧ (s.tempTaken n r).thermal.crit = false from shuts)] at shut
      obtain ⟨dev, safety, cores, ramping, axes⟩ := shut
      refine ⟨dev, safety, cores, ramping, fun k => ?_⟩
      obtain ⟨held, stopped⟩ := axes k
      exact ⟨held, stopped.of_eq rfl rfl rfl rfl⟩
    · rw [if_neg shuts]
      rwa [if_neg (show ¬ (t.thermal.crit = true ∧ (s.tempTaken n r).thermal.crit = false) from shuts)] at shut
  · rw [show t.thermal.peak = (s.tempTaken n r).thermal.peak by rw [thermal]]
    show (match s.thermal.peak with
      | some (p, k) => if p.toInt < r.toInt then some (r, n) else some (p, k)
      | none => some (r, n)) = _
    rw [peak]

end

/-! ### A sensor that fails (R41) -/

/-- From `s` to `t` sensor `n` fails; the other sensors stand. -/
structure SensorFailed (s t : State) (n : Fin 12) : Prop where
  failed : (t.thermal.sensors.get n).failed = true
  invalid : (t.thermal.sensors.get n).valid = false
  noted : t.thermal.sensorFail = true
  others : ∀ k, k ≠ n → t.thermal.sensors.get k = s.thermal.sensors.get k
  second : n.val < 8 → s.thermal.limitHeld = false → (∃ k : Fin 12, k ≠ n ∧ k.val < 8 ∧ (s.thermal.sensors.get k).failed = true) →
    t.thermal.limitHeld = true ∧ t.thermal.limit = true

/-- Two of a bank that satisfy `p` make its count 2 at least. -/
theorem two_le_filter {α : Type} {m : Nat} {v : Vector α m} {p : Fin m × α → Bool} {i k : Fin m} (ne : k ≠ i) (one : p (i, v.get i) = true)
    (other : p (k, v.get k) = true) : 2 ≤ ((bankList v).filter p).length := by
  have apart : [(k, v.get k), (i, v.get i)].Nodup := by simp [ne]
  refine (apart.subperm fun x mem => ?_).length_le
  simp only [List.mem_cons, List.not_mem_nil, or_false] at mem
  obtain rfl | rfl := mem
  · exact List.mem_filter.2 ⟨mem_bankList.2 rfl, other⟩
  · exact List.mem_filter.2 ⟨mem_bankList.2 rfl, one⟩

theorem State.sensorFails_fails (s : State) (n : Fin 12) : SensorFailed s (s.sensorFails n) n ∧ (s.sensorFails n).boot = s.boot := by
  have event : (s.updThermal fun t =>
      { t with sensors := bankUpd t.sensors n fun x => { x with valid := false, failed := true }, sensorFail := true }).thermalEvent 6 n = _ :=
    State.raiseAll_onlyOwners _ _ _ _ _
  have own : (bankUpd s.thermal.sensors n fun x => { x with valid := false, failed := true }).get n =
      { s.thermal.sensors.get n with valid := false, failed := true } := bankUpd_get_self _ _ _
  have others (k : Fin 12) (ne : k ≠ n) : (bankUpd s.thermal.sensors n fun x => { x with valid := false, failed := true }).get k =
      s.thermal.sensors.get k := (bankUpd_get _ _ _ _).trans (if_neg (Ne.symm ne))
  unfold State.sensorFails
  rw [event]
  generalize (State.thermalEvent _ 6 n).owners = o
  dsimp only
  split
  · next second =>
    unfold State.limitSet
    rw [State.thermalEvent, State.raiseAll_onlyOwners]
    exact ⟨⟨congrArg JSensor.failed own, congrArg JSensor.valid own, rfl, others, fun _ _ _ => ⟨rfl, rfl⟩⟩, rfl⟩
  · next first =>
    refine ⟨⟨congrArg JSensor.failed own, congrArg JSensor.valid own, rfl, others, fun compute loose other => ?_⟩, rfl⟩
    obtain ⟨k, ne, low, failed⟩ := other
    refine absurd ⟨compute, two_le_filter (i := n) (k := k) ne ?_ ?_, by rw [loose]; decide⟩ first
    · show (decide (n.val < 8) && _) = true
      rw [decide_eq_true compute, Bool.true_and]
      exact congrArg JSensor.failed own
    · show (decide (k.val < 8) && _) = true
      rw [decide_eq_true low, Bool.true_and]
      exact (congrArg JSensor.failed (others k ne)).trans failed

/-- A judgement keeps the sensors' failures. -/
theorem SensorFailed.judged {s u : State} {n : Fin 12} (fails : SensorFailed s u n) : SensorFailed s (u.judgeTemps n) n := by
  obtain ⟨failed, invalid, noted, others, second⟩ := fails
  obtain ⟨⟨due, thermal⟩, -, -⟩ := u.judgeTemps_acts n
  generalize u.judgeTemps n = t at thermal
  have sensors : t.thermal.sensors = u.thermal.sensors := by rw [thermal]
  refine ⟨?_, ?_, ?_, fun k ne => ?_, fun compute loose other => ?_⟩
  · rw [sensors]
    exact failed
  · rw [sensors]
    exact invalid
  · rw [thermal]
    exact noted
  · rw [sensors]
    exact others k ne
  · obtain ⟨held, limit⟩ := second compute loose other
    rw [thermal]
    exact ⟨held, u.thermal.limits_iff.2 (.inr ⟨limit, .inl held⟩)⟩

theorem sensor_fails {s : State} {n : Fin 12} (powered : s.boot.step ≠ .held) (sound : (s.thermal.sensors.get n).failed = false)
    (reading : BitVec 16) : ∀ i : Instr, (i = .tempConversion n reading ∧ ((tempRead n reading).toInt < -880 ∨ 2400 < (tempRead n reading).toInt)) ∨
      i = .tempConversionTimeout n → ∃ t, exec i s = .next t ∧ SensorFailed s t n := by
  have up : s.powered = true := by simpa [State.powered] using powered
  rintro i (⟨rfl, range⟩ | rfl)
  · let u := s.updThermal fun t => { t with sensors := bankUpd t.sensors n fun x => { x with temp := tempRead n reading } }
    have row : exec (.tempConversion n reading) s = .next ((u.sensorFails n).judgeTemps n) := by
      have row : exec (.tempConversion n reading) s = execTempConversion n reading s := rfl
      have beyond : (tempRead n reading).toInt < -55 * 16 ∨ 150 * 16 < (tempRead n reading).toInt := by omega
      rw [row, execTempConversion, if_neg (not_not.2 up)]
      exact congrArg Host.Outcome.next ((if_neg (by rw [sound]; decide)).trans (if_pos beyond))
    obtain ⟨failed, invalid, noted, others, second⟩ := (u.sensorFails_fails n).1.judged
    have same (k : Fin 12) (ne : k ≠ n) : u.thermal.sensors.get k = s.thermal.sensors.get k := (bankUpd_get _ _ _ _).trans (if_neg (Ne.symm ne))
    refine ⟨_, row, failed, invalid, noted, fun k ne => (others k ne).trans (same k ne), fun compute loose other => ?_⟩
    obtain ⟨k, ne, low, bad⟩ := other
    exact second compute loose ⟨k, ne, low, by rw [same k ne]; exact bad⟩
  · exact ⟨_, congrArg Host.Outcome.next (if_pos ⟨up, by rw [sound]; decide⟩), (s.sensorFails_fails n).1.judged⟩

theorem ceilingStep_moves (s : State) (powered : s.boot.step ≠ .held) :
    exec .ceilingStep s = .next (if s.thermal.ceilDue ≤ s.now then s.updThermal fun t =>
        if t.limit = true then { t with ceilMv := max 720 (t.ceilMv - 10), ceilDue := s.now + msTicks }
        else if t.ceilMv < 850 then { t with ceilMv := min 850 (t.ceilMv + 10), ceilDue := s.now + 10 * msTicks } else t
      else s) := by
  have up : s.powered = true := by simpa [State.powered] using powered
  have row : exec .ceilingStep s = execCeilingStep s := rfl
  rw [row, execCeilingStep, up]
  simp only [true_and]

/-! ### The clocks (R58, R59) -/

theorem State.timersStop_stops (s : State) : (∃ x, s.timersStop = { s with timers := x }) ∧ ∀ n, (s.timersStop.timers.get n).run = false := by
  refine ⟨forAll_keeps (P := fun t => ∃ x, t = { s with timers := x }) (by rintro t n ⟨x, rfl⟩; exact ⟨_, rfl⟩) s ⟨s.timers, rfl⟩, fun n => ?_⟩
  refine forAll_entry (fun (u : State) k => u.timers.get k) (fun u k g ne => (bankUpd_get _ _ _ _).trans (if_neg (Ne.symm ne)))
    (P := fun _ y => y.run = false) (fun u k => ?_) s n
  exact congrArg Timer.run (bankUpd_get_self u.timers k fun t => { t with run := false, ball := Vector.replicate 2 none })

/-- What a clock failure does; `d02`: the field clock stops too. -/
structure ClockFailed (s t : State) (d02 : Bool) : Prop where
  dev : t.boot.dev = .shutdown
  clkFail : t.fabric.clkFail = true
  d02Run : t.fabric.d02Run = (s.fabric.d02Run && !d02)
  safety : t.safety.clock = true
  time : t.tb.running = false
  cores : ∀ c, (t.core1 c).st = .off
  timers : ∀ n, (t.timers.get n).run = ((s.timers.get n).run && !d02)
  axes : ∀ n, (t.axis n).hold = true ∧ AxisStopped s t n (if s.cfgStop n = .ramp then .freewheel else s.cfgStop n) .hardware 10

theorem State.fieldClockStop_stops (s : State) : (∃ x, s.fieldClockStop = { s with fabric := { s.fabric with d02Run := false }, timers := x }) ∧
    ∀ n, (s.fieldClockStop.timers.get n).run = false := by
  obtain ⟨⟨x, eq⟩, stopped⟩ := (s.updFabric fun f => { f with d02Run := false }).timersStop_stops
  exact ⟨⟨x, eq⟩, stopped⟩

theorem State.clockFailure_fails (s : State) (d02 : Bool) (first : s.fabric.clkFail = false) : ClockFailed s (s.clockFailure d02) d02 := by
  have stop : ∃ x, (if d02 then s.fieldClockStop else s) = { s with fabric := { s.fabric with d02Run := s.fabric.d02Run && !d02 }, timers := x } ∧
      ∀ n, (x.get n).run = ((s.timers.get n).run && !d02) := by
    cases d02 with
    | true =>
      obtain ⟨⟨x, eq⟩, stopped⟩ := s.fieldClockStop_stops
      refine ⟨x, ?_, fun n => ?_⟩
      · rw [if_pos rfl, eq]
        simp
      · rw [eq] at stopped
        simpa using stopped n
    | false => exact ⟨s.timers, by simp, fun n => by simp⟩
  obtain ⟨x, eq, timers⟩ := stop
  unfold State.clockFailure
  dsimp only
  rw [if_neg (by rw [first]; decide), eq]
  have shut := (State.updFabric { s with fabric := { s.fabric with d02Run := s.fabric.d02Run && !d02 }, timers := x }
    fun f => { f with clkFail := true }).shutdown_shuts 7
  generalize (State.updFabric { s with fabric := { s.fabric with d02Run := s.fabric.d02Run && !d02 }, timers := x }
    fun f => { f with clkFail := true }).shutdown 7 = u at shut
  have event := u.timeStop.raiseAll_onlyOwners 0x12 0 0 (le 1 3 ++ zeros 3 ++ le 4 u.timeStop.fabric.clkStatus)
  rw [State.linkErr, event]
  generalize (State.raiseAll u.timeStop _ _ _ _).owners = o
  have time : u.timeStop.tb.running = false := rfl
  refine ⟨shut.dev, congrArg Fabric.clkFail shut.fabric, congrArg Fabric.d02Run shut.fabric, ?_, time, shut.cores, fun n => ?_, fun n => ?_⟩
  · show u.safety.clock = true
    rw [shut.safety]
    exact Bool.or_true _
  · show (u.timers.get n).run = _
    rw [shut.timers]
    exact timers n
  · obtain ⟨held, stopped⟩ := shut.axes n
    exact ⟨held, stopped.of_eq rfl rfl rfl rfl⟩

/-- A row that fails a clock. -/
def FailsClock (i : Instr) (s : State) (d02 : Bool) : Prop := ∃ t, exec i s = .next t ∧ ClockFailed s t d02

/-- The window of the reference that runs. -/
def countGood (d00 : D00Source) (edges : Nat) : Bool :=
  match d00 with
  | .crystal => decide (740 ≤ edges) && decide (edges ≤ 786)
  | .rc => decide (720 ≤ edges) && decide (edges ≤ 806)

theorem exec_clockMonitorCount {s : State} (edges : Nat) (powered : s.boot.step ≠ .held) : exec (.clockMonitorCount edges) s = .next (
    let n := if countGood s.fabric.d00 edges then 0 else s.fabric.badCounts + 1
    let u := s.updFabric fun f => { f with tcxoOk := countGood s.fabric.d00 edges, badCounts := min 2 n }
    if s.boot.step = .pllWait then u.clocksReady else if 2 ≤ n then u.clockFailure true else u) := by
  have up : s.powered = true := by simpa [State.powered] using powered
  have row : exec (.clockMonitorCount edges) s = execClockMonitorCount edges s := rfl
  rw [row, execClockMonitorCount, if_neg (not_not.2 up)]
  cases s.fabric.d00 <;> rfl

theorem clockMonitorCount_acts {s : State} (edges : Nat) (powered : s.boot.step ≠ .held) (first : s.fabric.clkFail = false) :
    if countGood s.fabric.d00 edges = true then
      let u := s.updFabric fun f => { f with tcxoOk := true, badCounts := 0 }
      exec (.clockMonitorCount edges) s = .next (if s.boot.step = .pllWait ∧ s.fabric.pllC = true ∧ s.fabric.pllF = true ∧
        s.now ≤ s.boot.releasedAt + 10 * msTicks then u.updBoot fun b => { b with step := .readBoot1 } else u)
    else if s.fabric.badCounts = 0 ∨ s.boot.step = .pllWait then
      exec (.clockMonitorCount edges) s =
        .next (s.updFabric fun f => { f with tcxoOk := false, badCounts := min 2 (f.badCounts + 1) })
    else FailsClock (.clockMonitorCount edges) s true := by
  have row := exec_clockMonitorCount edges powered
  cases good : countGood s.fabric.d00 edges with
  | true =>
    rw [good, if_pos rfl] at row
    rw [if_pos rfl, row]
    refine congrArg Host.Outcome.next ?_
    by_cases waits : s.boot.step = .pllWait
    · refine (if_pos waits).trans ?_
      by_cases ready : s.fabric.pllC = true ∧ s.fabric.pllF = true ∧ s.now ≤ s.boot.releasedAt + 10 * msTicks
      · obtain ⟨pllC, pllF, soon⟩ := ready
        exact (if_pos ⟨waits, pllC, pllF, rfl, soon⟩).trans (if_pos ⟨waits, pllC, pllF, soon⟩).symm
      · refine (if_neg ?_).trans (if_neg fun h => ready h.2).symm
        rintro ⟨-, pllC, pllF, -, soon⟩
        exact ready ⟨pllC, pllF, soon⟩
    · exact (if_neg waits).trans ((if_neg (by omega)).trans (if_neg fun h => waits h.1).symm)
  | false =>
    rw [good, if_neg Bool.false_ne_true] at row
    rw [if_neg Bool.false_ne_true]
    split
    · next lone =>
      rw [row]
      refine congrArg Host.Outcome.next ?_
      by_cases waits : s.boot.step = .pllWait
      · exact (if_pos waits).trans (if_neg fun h => Bool.false_ne_true h.2.2.2.1)
      · have zero : s.fabric.badCounts = 0 := lone.resolve_right waits
        exact (if_neg waits).trans (if_neg (by omega))
    · next second =>
      obtain ⟨before, out⟩ := not_or.1 second
      refine ⟨_, row.trans (congrArg Host.Outcome.next ((if_neg out).trans (if_pos (by omega)))), ?_⟩
      have fails := (s.updFabric fun f => { f with tcxoOk := false, badCounts := min 2 (s.fabric.badCounts + 1) }).clockFailure_fails true first
      exact ⟨fails.dev, fails.clkFail, fails.d02Run, fails.safety, fails.time, fails.cores, fails.timers, fails.axes⟩

theorem pllLockLoss_fails {s : State} (first : s.fabric.clkFail = false) (field : Bool) (locked : if field then s.fabric.pllF = true else s.fabric.pllC = true) :
    FailsClock (.pllLockLoss field) s field := by
  have row : exec (.pllLockLoss field) s = .next
      ((s.updFabric fun f => if field then { f with pllF := false } else { f with pllC := false }).clockFailure field) :=
    congrArg Host.Outcome.next (if_pos (by cases field <;> simp_all))
  refine ⟨_, row, ?_⟩
  have fails := (s.updFabric fun f => if field then { f with pllF := false } else { f with pllC := false }).clockFailure_fails field
    (by cases field <;> exact first)
  have run : (s.updFabric fun f => if field then { f with pllF := false } else { f with pllC := false }).fabric.d02Run = s.fabric.d02Run := by
    cases field <;> rfl
  have d02Run := fails.d02Run
  rw [run] at d02Run
  exact ⟨fails.dev, fails.clkFail, d02Run, fails.safety, fails.time, fails.cores, fails.timers, fails.axes⟩

theorem pllLockLoss_again {s : State} (failed : s.fabric.clkFail = true) (locked : s.fabric.pllF = true) : ∃ t, exec (.pllLockLoss true) s = .next t ∧
    t.fabric.pllF = false ∧ t.fabric.d02Run = false ∧ (∀ n, (t.timers.get n).run = false) ∧ t.boot = s.boot ∧ t.axes = s.axes := by
  let u := s.updFabric fun f => { f with pllF := false }
  have row : exec (.pllLockLoss true) s = .next u.fieldClockStop :=
    congrArg Host.Outcome.next ((if_pos (.inl ⟨rfl, locked⟩)).trans (if_pos failed))
  obtain ⟨⟨x, eq⟩, stopped⟩ := u.fieldClockStop_stops
  refine ⟨_, row, ?_, ?_, stopped, ?_, ?_⟩
  all_goals rw [eq]
  all_goals rfl

theorem xt32Fail_switches (s : State) (powered : s.boot.step ≠ .held) : if s.fabric.d00 = .crystal then
      ∃ t, exec .xt32Fail s = .next t ∧
        t.fabric = { s.fabric with d00 := .rc, xt32Ok := false, xt32Fail := true, badCounts := 0 } ∧
        t.axes = s.axes ∧ t.mem = s.mem ∧ t.boot = s.boot ∧ t.cores = s.cores
    else exec .xt32Fail s = .next s := by
  have up : s.powered = true := by simpa [State.powered] using powered
  split
  · next crystal =>
    let u := s.updFabric fun f => { f with d00 := .rc, xt32Ok := false, xt32Fail := true, badCounts := 0 }
    have row : exec .xt32Fail s = .next (u.linkErr 2 u.fabric.clkStatus) := congrArg Host.Outcome.next (if_pos ⟨up, crystal⟩)
    have event := u.raiseAll_onlyOwners 0x12 0 0 (le 1 2 ++ zeros 3 ++ le 4 u.fabric.clkStatus)
    rw [State.linkErr, event] at row
    exact ⟨_, row, rfl, rfl, rfl, rfl, rfl⟩
  · next rc => exact congrArg Host.Outcome.next (if_neg fun h => rc h.2)

/-- Settles O34: temperatures, the ceiling of VCORE and the clocks, each by its row. -/
theorem thermalAndClockRowsAct : Obligations.ThermalAndClockRowsAct := by
  unfold Obligations.ThermalAndClockRowsAct
  have failed {i : Instr} {s : State} {d02 : Bool} (fails : FailsClock i s d02) : ∃ t, exec i s = .next t ∧ t.boot.dev = .shutdown ∧
      t.fabric.clkFail = true ∧ t.fabric.d02Run = (s.fabric.d02Run && !d02) ∧ t.safety.clock = true ∧ t.tb.running = false ∧
      (∀ c, (t.core1 c).st = .off) ∧ (∀ n, (t.timers.get n).run = ((s.timers.get n).run && !d02)) ∧
      ∀ n, (t.axis n).hold = true ∧ AxisStopped s t n (if s.cfgStop n = .ramp then .freewheel else s.cfgStop n) .hardware 10 := by
    obtain ⟨t, row, dev, clkFail, d02Run, safety, time, cores, timers, axes⟩ := fails
    exact ⟨t, row, dev, clkFail, d02Run, safety, time, cores, timers, axes⟩
  refine ⟨⟨fun s n reading powered sound => ⟨tempConversion_judges powered sound reading, fun i which => ?_⟩, fun s => ceilingStep_moves s⟩,
    fun s first => ⟨fun edges powered => ?_, fun locked => ?_, fun locked => ?_⟩, fun s => pllLockLoss_again, xt32Fail_switches, fun s c => rfl⟩
  · obtain ⟨t, row, fails, invalid, noted, others, second⟩ := sensor_fails powered sound reading i which
    exact ⟨t, row, fails, invalid, noted, others, second⟩
  · have acts := clockMonitorCount_acts edges powered first
    change if countGood s.fabric.d00 edges = true then _ else if _ then _ else _
    by_cases good : countGood s.fabric.d00 edges = true
    · rw [if_pos good] at acts ⊢
      exact acts
    · rw [if_neg good] at acts ⊢
      by_cases lone : s.fabric.badCounts = 0 ∨ s.boot.step = .pllWait
      · rw [if_pos lone] at acts ⊢
        exact acts
      · rw [if_neg lone] at acts ⊢
        exact failed acts
  · exact failed (pllLockLoss_fails first true locked)
  · exact failed (pllLockLoss_fails first false locked)

end Sys2Proof.Machine
end

section
/-! PROOFS. AVSBus, the throughput monitor, the sensors of the lamp boards, the string supply and the matrix. -/

namespace Sys2Proof.Machine

/-! ### AVSBus -/

theorem satInc_eq_three (n : Nat) : satInc 255 n = 3 ↔ n = 2 := by
  unfold satInc
  split <;> omega

/-- A transaction that failed leaves all but AVSBus, the monitor and what the ports hold as it was. -/
theorem State.avsFail_frame (s : State) :
    ∃ a f o, s.avsFail = { s with avs := a, fabric := f, owners := o } ∧ a.fails = satInc 255 s.avs.fails ∧ a.reqMv = s.avs.reqMv ∧
      a.retryAt = (if s.avs.fails = 2 ∧ s.avs.failed = false then s.now + 10 * msTicks else s.avs.retryAt) ∧
      a.failed = (s.avs.failed || decide (s.avs.fails = 2)) ∧ (s.avs.fails = 2 → a.noresp = true) ∧
      (s.avs.fails ≠ 2 → a = { s.avs with fails := satInc 255 s.avs.fails }) := by
  unfold State.avsFail
  extract_lets n s1 s2
  by_cases third : s.avs.fails = 2
  · rw [if_pos ((satInc_eq_three _).2 third), State.linkErr, State.raiseAll_onlyOwners]
    generalize (State.raiseAll s2 _ _ _ _).owners = o
    cases failed : s.avs.failed with
    | true =>
      have stood : s2 = s1.updAvs fun a => { a with noresp := true } := if_pos failed
      rw [stood]
      exact ⟨_, _, o, rfl, rfl, rfl, by simp [s1, State.updAvs], by simp [s1, State.updAvs, failed], fun _ => rfl, fun h => absurd third h⟩
    | false =>
      have fresh : s2 = (s1.updAvs fun a => { a with noresp := true, failed := true, retryAt := s.now + 10 * msTicks }).updFabric
        fun f => { f with rateNow := none } := if_neg (by rw [failed]; exact Bool.false_ne_true)
      rw [fresh]
      exact ⟨_, _, o, rfl, rfl, rfl, by simp [State.updAvs, State.updFabric, third], by simp [State.updAvs, State.updFabric, third],
        fun _ => rfl, fun h => absurd third h⟩
  · rw [if_neg (mt (satInc_eq_three _).1 third)]
    exact ⟨_, s.fabric, s.owners, rfl, rfl, rfl, by simp [third], by simp [third],
      fun h => absurd h third, fun _ => rfl⟩

theorem exec_avsTransactionDone {s : State} (powered : s.boot.step ≠ .held) (kind : Fin 4) (ok : Bool) (v : Nat) (alert : Bool) :
    exec (.avsTransactionDone kind ok v alert) s = .next (if ok then s.avsOk kind.val v alert else s.avsFail) := by
  have up : s.powered = true := by simpa [State.powered] using powered
  exact congrArg Host.Outcome.next (if_neg (not_not.2 up))

theorem avsTransactionDone_answered {s : State} (powered : s.boot.step ≠ .held) (kind : Fin 4) (v : Nat) (alert : Bool) :
    exec (.avsTransactionDone kind true v alert) s = .next (s.updAvs fun a => { a with
      fails := 0, alert := a.alert || alert, readMv := if kind = 1 then v % 65536 else a.readMv,
      failed := a.failed && kind != 1, iout10 := if kind = 2 then v % 65536 else a.iout10 }) := by
  rw [exec_avsTransactionDone powered, if_pos rfl]
  fin_cases kind <;> simp [State.avsOk, State.updAvs]

theorem avsTransactionDone_failed {s : State} (powered : s.boot.step ≠ .held) (kind : Fin 4) (v : Nat) (alert : Bool) :
    ∃ t, exec (.avsTransactionDone kind false v alert) s = .next t ∧ t.avs.fails = satInc 255 s.avs.fails ∧
      (if s.avs.fails = 2 then
        t.avs.failed = true ∧ t.avs.noresp = true ∧
          t.avs.retryAt = (if s.avs.failed = true then s.avs.retryAt else s.now + 10 * msTicks)
      else t.avs = { s.avs with fails := satInc 255 s.avs.fails }) ∧ t.avs.reqMv = s.avs.reqMv ∧ t.axes = s.axes ∧ t.mem = s.mem := by
  obtain ⟨a, f, o, frame, fails, reqMv, retryAt, failed, noresp, other⟩ := s.avsFail_frame
  refine ⟨_, (exec_avsTransactionDone powered kind false v alert).trans (congrArg Host.Outcome.next (if_neg Bool.false_ne_true)), ?_⟩
  rw [frame]
  refine ⟨fails, ?_, reqMv, rfl, rfl⟩
  by_cases third : s.avs.fails = 2
  · rw [if_pos third]
    refine ⟨by simpa [third] using failed, noresp third, ?_⟩
    show a.retryAt = _
    rw [retryAt]
    cases s.avs.failed <;> simp [third]
  · rw [if_neg third]
    exact other third

theorem avsRetry_reads {s : State} (powered : s.boot.step ≠ .held) (ok : Bool) (v : Nat) (alert : Bool) :
    if s.avs.failed = true ∧ s.avs.retryAt ≤ s.now then
      ∃ t, exec (.avsRetry ok v alert) s = .next t ∧ t.avs.retryAt = s.now + 10 * msTicks ∧
        (ok = true → t.avs.failed = false ∧ t.avs.readMv = v % 65536 ∧ t.avs.fails = 0) ∧
        (ok = false → t.avs.failed = true ∧ t.avs.fails = satInc 255 s.avs.fails)
    else exec (.avsRetry ok v alert) s = .next s := by
  have up : s.powered = true := by simpa [State.powered] using powered
  let u := s.updAvs fun a => { a with retryAt := s.now + 10 * msTicks }
  split
  · next due =>
    have row : exec (.avsRetry ok v alert) s = .next (if ok then u.avsOk 1 v alert else u.avsFail) :=
      congrArg Host.Outcome.next (if_pos ⟨up, due⟩)
    cases ok with
    | true => exact ⟨_, row, rfl, fun _ => ⟨rfl, rfl, rfl⟩, fun h => nomatch h⟩
    | false =>
      obtain ⟨a, f, o, frame, fails, -, retryAt, failed, -⟩ := u.avsFail_frame
      have stands : u.avs.failed = true := due.1
      refine ⟨_, row, ?_, fun h => (nomatch h), fun _ => ?_⟩
      · rw [if_neg Bool.false_ne_true, frame]
        exact retryAt.trans (if_neg fun h => by simp [stands] at h)
      · rw [if_neg Bool.false_ne_true, frame]
        exact ⟨by rw [failed, stands]; rfl, fails⟩
  · next early => exact congrArg Host.Outcome.next (if_neg fun h => early h.2)

theorem vcoreShutdownStep_steps (s : State) :
    if s.avs.ramping = true ∧ (∀ w, s.avs.lastWrite = some w → w + 20 * usTicks ≤ s.now) then
      exec .vcoreShutdownStep s = .next { s with
        avs := { s.avs with reqMv := max 720 (s.avs.reqMv - 10), lastWrite := some s.now,
                            ramping := decide (720 < max 720 (s.avs.reqMv - 10)) },
        out := s.out ++ [Out.avs (max 720 (s.avs.reqMv - 10))] }
    else exec .vcoreShutdownStep s = .next s := by
  have row : exec .vcoreShutdownStep s = execVcoreShutdownStep s := rfl
  rw [row, execVcoreShutdownStep]
  cases s.avs.lastWrite with
  | none => by_cases ramps : s.avs.ramping = true <;> simp [ramps, State.avsWrite, State.updAvs]
  | some w =>
    by_cases ramps : s.avs.ramping = true <;> by_cases due : w + 20 * usTicks ≤ s.now <;>
      simp [ramps, due, State.avsWrite, State.updAvs]

/-! ### The throughput monitor -/

/-- One core's rate compared with the slowest so far. -/
def slowerOf (s : State) (rates : Vector Nat 32) (a : Option (Nat × Nat)) (c : Fin 32) : Option (Nat × Nat) :=
  if (s.core1 c).st = .job then
    (match a with
     | some (r, k) => if rates.get c < r then some (rates.get c, c.val) else some (r, k)
     | none => some (rates.get c, c.val))
  else a

theorem slowerOf_idle {s : State} {c : Fin 32} (idle : (s.core1 c).st ≠ .job) (rates : Vector Nat 32) (a : Option (Nat × Nat)) :
    slowerOf s rates a c = a := if_neg idle

theorem slowerOf_first {s : State} {c : Fin 32} (works : (s.core1 c).st = .job) (rates : Vector Nat 32) :
    slowerOf s rates none c = some (rates.get c, c.val) := if_pos works

theorem slowerOf_next {s : State} {c : Fin 32} (works : (s.core1 c).st = .job) (rates : Vector Nat 32) (r k : Nat) :
    slowerOf s rates (some (r, k)) c = if rates.get c < r then some (rates.get c, c.val) else some (r, k) := if_pos works

theorem State.slowest_none {s : State} (rates : Vector Nat 32) (idle : ∀ c, (s.core1 c).st ≠ .job) : s.slowest rates = none := by
  have walk (l : List (Fin 32)) : l.foldl (slowerOf s rates) none = none := by
    induction l with
    | nil => rfl
    | cons c l ih => rw [List.foldl_cons, slowerOf_idle (idle c), ih]
  exact walk _

/-- Of the cores in JOB the walk keeps the least rate. -/
theorem slowest_walk (s : State) (rates : Vector Nat 32) (l : List (Fin 32)) (c : Fin 32) (works : (s.core1 c).st = .job)
    (least : ∀ d, (s.core1 d).st = .job → rates.get c ≤ rates.get d) (a : Option (Nat × Nat)) (above : ∀ x ∈ a, rates.get c ≤ x.1)
    (met : c ∈ l ∨ ∃ x ∈ a, x.1 = rates.get c) : ∃ k, l.foldl (slowerOf s rates) a = some (rates.get c, k) := by
  induction l generalizing a with
  | nil =>
    obtain ⟨x, mem, eq⟩ := met.resolve_left (List.not_mem_nil)
    exact ⟨x.2, mem.trans (by rw [← eq])⟩
  | cons d l ih =>
    rw [List.foldl_cons]
    by_cases job : (s.core1 d).st = .job
    · have floor := least d job
      rcases a with _ | ⟨r, k⟩
      · rw [slowerOf_first job]
        refine ih _ (fun x h => ?_) ?_
        · obtain rfl := Option.some.inj h
          exact floor
        · rcases met with met | ⟨x, h, -⟩
          · rcases List.mem_cons.1 met with rfl | met
            · exact .inr ⟨_, rfl, rfl⟩
            · exact .inl met
          · exact absurd h (Option.not_mem_none _)
      · have above_r := above _ rfl
        rw [slowerOf_next job]
        by_cases lower : rates.get d < r
        · rw [if_pos lower]
          refine ih _ (fun x h => ?_) ?_
          · obtain rfl := Option.some.inj h
            exact floor
          · rcases met with met | ⟨x, h, eq⟩
            · rcases List.mem_cons.1 met with rfl | met
              · exact .inr ⟨_, rfl, rfl⟩
              · exact .inl met
            · obtain rfl := Option.some.inj h
              have : r = rates.get c := eq
              omega
        · rw [if_neg lower]
          refine ih _ above ?_
          rcases met with met | met
          · rcases List.mem_cons.1 met with rfl | met
            · exact .inr ⟨_, rfl, Nat.le_antisymm (Nat.le_of_not_lt lower) above_r⟩
            · exact .inl met
          · exact .inr met
    · rw [slowerOf_idle job]
      refine ih _ above (met.imp_left fun h => ?_)
      rcases List.mem_cons.1 h with rfl | h
      · exact absurd works job
      · exact h

theorem State.slowest_least {s : State} {rates : Vector Nat 32} {c : Fin 32} (works : (s.core1 c).st = .job)
    (least : ∀ d, (s.core1 d).st = .job → rates.get c ≤ rates.get d) : ∃ k, s.slowest rates = some (rates.get c, k) :=
  slowest_walk s rates _ c works least none (fun _ h => absurd h (Option.not_mem_none _)) (.inl (List.mem_finRange c))

/-- The new request moves by at most 10 mV, and not out of bounds that the old one keeps. -/
theorem State.newRequest_bounds (s : State) (r : Option (Nat × Nat)) :
    s.avs.reqMv - 10 ≤ s.newRequest r ∧ s.newRequest r ≤ s.avs.reqMv + 10 ∧
      (s.floorMv ≤ s.avs.reqMv → s.avs.reqMv ≤ s.ceilMv → s.floorMv ≤ s.newRequest r ∧ s.newRequest r ≤ s.ceilMv) := by
  unfold State.newRequest
  extract_lets v lo hi down
  have steps : v - 10 ≤ down ∧ (lo ≤ v → down ≤ v ∧ lo ≤ down) := by omega
  split
  · omega
  · split
    · omega
    · split
      · omega
      · split
        · omega
        · split
          · omega
          · split <;> omega

theorem State.newRequest_above (s : State) (r : Option (Nat × Nat)) (above : s.ceilMv < s.avs.reqMv) :
    s.newRequest r = max (s.avs.reqMv - 10) s.ceilMv := if_pos above

theorem State.newRequest_idle {s : State} (floor : s.floorMv ≤ s.avs.reqMv) (ceiling : s.avs.reqMv ≤ s.ceilMv) :
    s.newRequest none = max (s.avs.reqMv - 10) s.floorMv := by
  unfold State.newRequest
  rw [if_neg (Nat.not_lt.2 ceiling), if_neg (Nat.not_lt.2 floor)]

theorem State.newRequest_working {s : State} (floor : s.floorMv ≤ s.avs.reqMv) (ceiling : s.avs.reqMv ≤ s.ceilMv) (r k : Nat) :
    s.newRequest (some (r, k)) =
      if s.fabric.pwrCapOn < s.avs.pkgDw then max (s.avs.reqMv - 10) s.floorMv
      else if r < s.fabric.rateTgtOn ∧ s.avs.pkgDw < s.fabric.pwrCapOn - 20 then min (s.avs.reqMv + 10) s.ceilMv
      else if s.fabric.rateTgtOn * 104 < r * 100 then max (s.avs.reqMv - 10) s.floorMv else s.avs.reqMv := by
  unfold State.newRequest
  rw [if_neg (Nat.not_lt.2 ceiling), if_neg (Nat.not_lt.2 floor)]

theorem State.judgeRate_frame (s : State) (r : Option (Nat × Nat)) (blocked start : Nat) :
    ∃ f o, s.judgeRate r blocked start = { s with fabric := f, owners := o } ∧ f.winStart = s.fabric.winStart := by
  unfold State.judgeRate
  extract_lets under s1 held
  have event (low : Bool) (cause : Nat) :
      ∃ f o, s1.rateEvent low cause = { s with fabric := f, owners := o } ∧ f.winStart = s.fabric.winStart := by
    unfold State.rateEvent
    rw [State.raiseAll_onlyOwners]
    exact ⟨_, _, rfl, rfl⟩
  split
  · exact event _ _
  · split
    · exact event _ _
    · exact ⟨_, s.owners, rfl, rfl⟩

/-- The state a kept window begins with: the estimate taken, what was written brought in force, the rates shown. -/
def State.windowOpened (s : State) (rates : Vector Nat 32) (pkg : Nat) : State :=
  let s0 := (s.updAvs fun a => { a with pkgDw := pkg % 65536 }).updFabric fun f =>
    { f with winStart := s.now, capHold := f.capHold && decide (f.pwrCapOn - 20 < pkg % 65536) }
  let s1 := s0.updFabric fun f => { f with rateTgtOn := f.rateTgt, pwrCapOn := f.pwrCap, vminOn := f.vminIdle }
  let r := s1.slowest rates
  s1.updFabric fun f =>
    { f with coreRate := Vector.ofFn fun c : Fin 32 =>
               if (s1.core1 c).st = .job ∨ (s1.core1 c).st = .pinned then rates.get c % 4096 else f.coreRate.get c,
             minMhz := ((r.map (·.1)).getD 0) % 4096, slowCore := (r.map (·.2)).getD 0,
             rateNow := if s1.avs.failed then (r.map (·.1)).or f.rateNow else none }

theorem State.windowOpened_frame (s : State) (rates : Vector Nat 32) (pkg : Nat) : ∃ f : Fabric,
    s.windowOpened rates pkg = { s with avs := { s.avs with pkgDw := pkg % 65536 }, fabric := f } ∧ f.winStart = s.now ∧
      f.pwrCapOn = s.fabric.pwrCap ∧ f.rateTgtOn = s.fabric.rateTgt ∧ f.vminOn = s.fabric.vminIdle :=
  ⟨_, rfl, rfl, rfl, rfl, rfl⟩

/-- The end of a kept window with the request `v`. -/
def State.windowClosed (s : State) (v : Nat) (r : Option (Nat × Nat)) (start : Nat) : State :=
  let s3 := if v = s.avs.reqMv then s else s.avsWrite v
  let s4 := s3.updFabric fun f =>
    { f with capHold := if f.pwrCapOn < s3.avs.pkgDw then f.capHold || decide (v ≤ s3.floorMv)
                        else f.capHold && decide (f.pwrCapOn - 20 < s3.avs.pkgDw) }
  s4.judgeRate r s.blockedBy start

theorem State.windowClosed_frame (s : State) (v : Nat) (r : Option (Nat × Nat)) (start : Nat) : ∃ f o,
    s.windowClosed v r start = { (if v = s.avs.reqMv then s else s.avsWrite v) with fabric := f, owners := o } ∧
      f.winStart = s.fabric.winStart := by
  unfold State.windowClosed
  extract_lets s3 s4
  obtain ⟨f, o, frame, began⟩ := s4.judgeRate_frame r s.blockedBy start
  refine ⟨f, o, frame, began.trans ?_⟩
  show s3.fabric.winStart = _
  unfold s3
  split <;> rfl

/-- The request a kept window ends with. -/
def State.windowRequest (s : State) (rates : Vector Nat 32) (pkg : Nat) : Nat :=
  if s.avs.failed then s.avs.reqMv else (s.windowOpened rates pkg).newRequest (s.slowest rates)

theorem exec_monitorWindowEnd {s : State} {rates : Vector Nat 32} {pkg : Nat} (boot : s.boot.dev ≠ .boot) (recovery : s.boot.dev ≠ .recovery)
    (shutdown : s.boot.dev ≠ .shutdown) (due : s.fabric.winStart + 50 * usTicks ≤ s.now) (runs : s.fabric.monEn = true)
    (kept : ∀ w, s.avs.lastWrite = some w → w + 50 * usTicks ≤ s.fabric.winStart) :
    exec (.monitorWindowEnd rates pkg) s = .next
      ((s.windowOpened rates pkg).windowClosed (s.windowRequest rates pkg) (s.slowest rates) s.fabric.winStart) := by
  have row : exec (.monitorWindowEnd rates pkg) s = execMonitorWindowEnd rates pkg s := rfl
  rw [row, execMonitorWindowEnd, if_neg (by rintro (h | h | h); exacts [boot h, recovery h, by omega])]
  extract_lets start s0 whole
  have wholly : whole = true := by
    show (match s.avs.lastWrite with | some w => decide (w + 50 * usTicks ≤ s.fabric.winStart) | none => true) = true
    cases last : s.avs.lastWrite with
    | none => rfl
    | some w => exact decide_eq_true (kept w last)
  refine congrArg Host.Outcome.next (if_neg ?_)
  rintro (h | h | h)
  exacts [h runs, h wholly, shutdown h]

/-- What a window kept from its opening does, by what it asks for. -/
theorem monitorWindowEnd_writes {s : State} {rates : Vector Nat 32} {pkg : Nat} (boot : s.boot.dev ≠ .boot)
    (recovery : s.boot.dev ≠ .recovery) (shutdown : s.boot.dev ≠ .shutdown) (due : s.fabric.winStart + 50 * usTicks ≤ s.now)
    (runs : s.fabric.monEn = true) (kept : ∀ w, s.avs.lastWrite = some w → w + 50 * usTicks ≤ s.fabric.winStart) :
    ∃ t, exec (.monitorWindowEnd rates pkg) s = .next t ∧ t.avs.pkgDw = pkg % 65536 ∧ t.fabric.winStart = s.now ∧
      t.axes = s.axes ∧ t.mem = s.mem ∧ t.avs.reqMv = s.windowRequest rates pkg ∧
      t.out = if s.windowRequest rates pkg = s.avs.reqMv then s.out else s.out ++ [Out.avs (s.windowRequest rates pkg)] := by
  refine ⟨_, exec_monitorWindowEnd boot recovery shutdown due runs kept, ?_⟩
  generalize s.windowRequest rates pkg = v
  generalize s.slowest rates = r
  obtain ⟨f, opened, began, -⟩ := s.windowOpened_frame rates pkg
  rw [opened]
  obtain ⟨g, o, frame, start⟩ := State.windowClosed_frame { s with avs := { s.avs with pkgDw := pkg % 65536 }, fabric := f } v r
    s.fabric.winStart
  rw [frame]
  refine ⟨?_, start.trans began, ?_, ?_, ?_, ?_⟩
  all_goals dsimp only
  · split <;> rfl
  · split <;> rfl
  · split <;> rfl
  · split
    · next same => exact same.symm
    · rfl
  · split <;> rfl

theorem monitorWindowEnd_moves {s : State} {rates : Vector Nat 32} {pkg : Nat} (boot : s.boot.dev ≠ .boot)
    (recovery : s.boot.dev ≠ .recovery) (shutdown : s.boot.dev ≠ .shutdown) (due : s.fabric.winStart + 50 * usTicks ≤ s.now)
    (runs : s.fabric.monEn = true) (kept : ∀ w, s.avs.lastWrite = some w → w + 50 * usTicks ≤ s.fabric.winStart) :
    let v := s.avs.reqMv
    let lo := if s.anyPinned = true then 720 else s.fabric.vminIdle
    let hi := s.ceilMv
    let e := pkg % 65536
    ∃ t, exec (.monitorWindowEnd rates pkg) s = .next t ∧ t.avs.pkgDw = e ∧ t.fabric.winStart = s.now ∧ t.axes = s.axes ∧
      t.mem = s.mem ∧ t.out = (if t.avs.reqMv = v then s.out else s.out ++ [Out.avs t.avs.reqMv]) ∧
      v - 10 ≤ t.avs.reqMv ∧ t.avs.reqMv ≤ v + 10 ∧ (lo ≤ v → v ≤ hi → lo ≤ t.avs.reqMv ∧ t.avs.reqMv ≤ hi) ∧
      (s.avs.failed = true → t.avs.reqMv = v) ∧
      (s.avs.failed = false → hi < v → t.avs.reqMv = max (v - 10) hi) ∧
      (s.avs.failed = false → lo ≤ v → v ≤ hi →
        ((∀ c, (s.core1 c).st ≠ .job) → t.avs.reqMv = max (v - 10) lo) ∧
        (∀ c, (s.core1 c).st = .job → (∀ d, (s.core1 d).st = .job → rates.get c ≤ rates.get d) →
          t.avs.reqMv = if s.fabric.pwrCap < e then max (v - 10) lo
            else if rates.get c < s.fabric.rateTgt ∧ e < s.fabric.pwrCap - 20 then min (v + 10) hi
            else if s.fabric.rateTgt * 104 < rates.get c * 100 then max (v - 10) lo else v)) := by
  extract_lets v lo hi e
  obtain ⟨t, row, power, start, axes, mem, request, out⟩ := monitorWindowEnd_writes (pkg := pkg) boot recovery shutdown due runs kept
  have failed (h : s.avs.failed = true) : s.windowRequest rates pkg = v := if_pos h
  have works (h : s.avs.failed = false) : s.windowRequest rates pkg = (s.windowOpened rates pkg).newRequest (s.slowest rates) :=
    if_neg (by rw [h]; exact Bool.false_ne_true)
  have bounds := (s.windowOpened rates pkg).newRequest_bounds (s.slowest rates)
  obtain ⟨f, opened, -, cap, target, vmin⟩ := s.windowOpened_frame rates pkg
  have v' : (s.windowOpened rates pkg).avs.reqMv = v := by rw [opened]
  have lo' : (s.windowOpened rates pkg).floorMv = lo := by
    rw [opened, State.floorMv]
    dsimp only
    rw [vmin]
    rfl
  have hi' : (s.windowOpened rates pkg).ceilMv = hi := by
    rw [opened]
    rfl
  have e' : (s.windowOpened rates pkg).avs.pkgDw = e := by rw [opened]
  replace cap : (s.windowOpened rates pkg).fabric.pwrCapOn = s.fabric.pwrCap := by rw [opened]; exact cap
  replace target : (s.windowOpened rates pkg).fabric.rateTgtOn = s.fabric.rateTgt := by rw [opened]; exact target
  generalize s.windowOpened rates pkg = u at *
  rw [v', lo', hi'] at bounds
  refine ⟨t, row, power, start, axes, mem, by rw [request]; exact out, ?_⟩
  rw [request]
  refine ⟨?_, ?_, ?_, failed, fun ok above => ?_, fun ok floor ceiling => ⟨fun idle => ?_, fun c job least => ?_⟩⟩
  · cases ok : s.avs.failed with
    | true => rw [failed ok]; exact Nat.sub_le _ _
    | false => rw [works ok]; exact bounds.1
  · cases ok : s.avs.failed with
    | true => rw [failed ok]; exact Nat.le_add_right _ _
    | false => rw [works ok]; exact bounds.2.1
  · intro floor ceiling
    cases ok : s.avs.failed with
    | true => rw [failed ok]; exact ⟨floor, ceiling⟩
    | false => rw [works ok]; exact bounds.2.2 floor ceiling
  · rw [works ok]
    have raised := u.newRequest_above (s.slowest rates) (by rw [hi', v']; exact above)
    rwa [v', hi'] at raised
  · have lowered := u.newRequest_idle (by rw [lo', v']; exact floor) (by rw [hi', v']; exact ceiling)
    rw [works ok, s.slowest_none rates idle]
    rwa [v', lo'] at lowered
  · obtain ⟨k, slow⟩ := State.slowest_least job least
    have judged := u.newRequest_working (by rw [lo', v']; exact floor) (by rw [hi', v']; exact ceiling) (rates.get c) k
    rw [works ok, slow]
    rwa [v', lo', hi', e', cap, target] at judged

theorem monitorWindowEnd_off {s : State} (rates : Vector Nat 32) (pkg : Nat) (boot : s.boot.dev ≠ .boot)
    (recovery : s.boot.dev ≠ .recovery) (due : s.fabric.winStart + 50 * usTicks ≤ s.now) (off : s.fabric.monEn = false) :
    exec (.monitorWindowEnd rates pkg) s = .next ((s.updAvs fun a => { a with pkgDw := pkg % 65536 }).updFabric fun f =>
      { f with winStart := s.now, capHold := f.capHold && decide (f.pwrCapOn - 20 < pkg % 65536) }) := by
  have still : ¬ (s.boot.dev = .boot ∨ s.boot.dev = .recovery ∨ s.now < s.fabric.winStart + 50 * usTicks) := by
    rintro (h | h | h)
    exacts [boot h, recovery h, by omega]
  exact congrArg Host.Outcome.next ((if_neg still).trans (if_pos (.inl (by rw [off]; exact Bool.false_ne_true))))

/-! ### Lamp boards -/

theorem State.lightFault_onlyOwners (s : State) (g : Fin 8) (sink kind latch : Nat) (mv : Int) :
    ∃ o, s.lightFault g sink kind latch mv = { s with owners := o } := by
  unfold State.lightFault
  exact ⟨_, s.raiseAll_onlyOwners _ _ _ _⟩

/-- What a conversion of a lamp board's sensor does at one group. -/
def boardJudged (k : Fin 4) (bad : Bool) (mv : Nat) (s : State) (g : Fin 8) : State :=
  if (s.group g).cfg.lts = some k then
    if bad ∧ ¬ (s.group g).sensorSeen then (s.updGroup g fun g => { g with sensorSeen := true }).lightFault g 255 3 0 mv
    else if bad then s
    else s.updGroup g fun g => { g with sensorSeen := false }
  else s

theorem boardJudged_frame (k : Fin 4) (bad : Bool) (mv : Nat) (s : State) (g : Fin 8) : ∃ v o,
    boardJudged k bad mv s g = { s with illum := { s.illum with groups := v }, owners := o } ∧ (∀ h, h ≠ g → v.get h = s.group h) ∧
      v.get g = { s.group g with sensorSeen := if (s.group g).cfg.lts = some k then bad else (s.group g).sensorSeen } := by
  have still (h : (s.group g).sensorSeen = if (s.group g).cfg.lts = some k then bad else (s.group g).sensorSeen) : ∃ v o,
      s = { s with illum := { s.illum with groups := v }, owners := o } ∧ (∀ h, h ≠ g → v.get h = s.group h) ∧
        v.get g = { s.group g with sensorSeen := if (s.group g).cfg.lts = some k then bad else (s.group g).sensorSeen } :=
    ⟨s.illum.groups, s.owners, rfl, fun _ _ => rfl, by rw [← h]; rfl⟩
  have others (f : Group → Group) (h : Fin 8) (other : h ≠ g) : (bankUpd s.illum.groups g f).get h = s.group h :=
    (bankUpd_get _ _ _ _).trans (if_neg other.symm)
  unfold boardJudged
  by_cases board : (s.group g).cfg.lts = some k
  · rw [if_pos board]
    cases bad with
    | true =>
      by_cases seen : (s.group g).sensorSeen = true
      · rw [if_neg fun h => h.2 seen, if_pos rfl]
        exact still (seen.trans (if_pos board).symm)
      · rw [if_pos ⟨rfl, seen⟩]
        obtain ⟨o, event⟩ := (s.updGroup g fun g => { g with sensorSeen := true }).lightFault_onlyOwners g 255 3 0 mv
        rw [event]
        exact ⟨_, o, rfl, others _, (bankUpd_get_self _ _ _).trans (by rw [if_pos board]; rfl)⟩
    | false =>
      rw [if_neg fun h => Bool.false_ne_true h.1, if_neg Bool.false_ne_true]
      exact ⟨_, s.owners, rfl, others _, (bankUpd_get_self _ _ _).trans (by rw [if_pos board]; rfl)⟩
  · rw [if_neg board]
    exact still (if_neg board).symm

theorem ltsConversion_shows (s : State) (k : Fin 4) (mv : Nat) :
    let l := s.illum.lts.get k
    let bad := decide (mv < 50) || decide (2950 < mv)
    ∃ t, exec (.ltsConversion k mv) s = .next t ∧ t.illum.lts = bankSet s.illum.lts k
        { l with mv := mv % 4096, fault := bad, temp := if bad = true then 2000 else ltsTemp l.v0 l.slope mv } ∧
      (∀ g, (t.group g).sensorSeen = if (s.group g).cfg.lts = some k then bad else (s.group g).sensorSeen) ∧
      (∀ g, (t.group g).latched = (s.group g).latched ∧ (t.group g).cfg = (s.group g).cfg) ∧
      t.illum.sinks = s.illum.sinks ∧ t.axes = s.axes ∧ t.mem = s.mem := by
  extract_lets l bad
  let u := s.updIllum fun i => { i with lts := bankSet i.lts k { l with
      mv := mv % 4096, fault := bad, temp := if bad = true then 2000 else ltsTemp l.v0 l.slope mv } }
  have row : exec (.ltsConversion k mv) s = .next (forAll u (boardJudged k bad mv)) := rfl
  have frame : ∃ v o, forAll u (boardJudged k bad mv) = { u with illum := { u.illum with groups := v }, owners := o } := by
    refine forAll_keeps (P := fun t => ∃ v o, t = { u with illum := { u.illum with groups := v }, owners := o }) ?_ u
      ⟨_, _, rfl⟩
    rintro _ g ⟨v, o, rfl⟩
    obtain ⟨v', o', judged, -⟩ := boardJudged_frame k bad mv { u with illum := { u.illum with groups := v }, owners := o } g
    exact ⟨v', o', judged⟩
  have groups (g : Fin 8) : (forAll u (boardJudged k bad mv)).group g =
      { u.group g with sensorSeen := if (u.group g).cfg.lts = some k then bad else (u.group g).sensorSeen } := by
    refine forAll_entry (P := fun x y => y = { x with sensorSeen := if x.cfg.lts = some k then bad else x.sensorSeen }) State.group
      (fun t i h other => ?_) (fun t i => ?_) u g
    · obtain ⟨v, o, judged, others, -⟩ := boardJudged_frame k bad mv t i
      rw [judged]
      exact others h other
    · obtain ⟨v, o, judged, -, own⟩ := boardJudged_frame k bad mv t i
      rw [judged]
      exact own
  refine ⟨_, row, ?_, fun g => ?_, fun g => ?_, ?_⟩
  · obtain ⟨v, o, frame⟩ := frame
    rw [frame]
    rfl
  · rw [groups g]
    rfl
  · rw [groups g]
    exact ⟨rfl, rfl⟩
  · obtain ⟨v, o, frame⟩ := frame
    rw [frame]
    exact ⟨rfl, rfl, rfl⟩

/-! ### The string supply and the matrix -/

theorem lightFaults_onlyOwners (l : List (Fin 8)) (mv : Int) (s : State) :
    ∃ o, l.foldl (fun s g => s.lightFault g 255 4 0 mv) s = { s with owners := o } := by
  refine foldl_keeps (P := fun t => ∃ o, t = { s with owners := o }) ?_ l s ⟨_, rfl⟩
  rintro _ g ⟨o, rfl⟩
  obtain ⟨o', event⟩ := State.lightFault_onlyOwners { s with owners := o } g 255 4 0 mv
  exact ⟨o', event⟩

theorem vstrOvervoltage_discharges {s : State} (full : s.boot.dev = .full) (sound : s.illum.stage.st ≠ .fault) (mv : Nat) :
    if mv < 48000 then exec (.vstrOvervoltage mv) s = .next s
    else
      let recent := s.illum.stage.ovpAt.filter fun a => decide (s.now ≤ a + secTicks)
      ∃ t, exec (.vstrOvervoltage mv) s = .next t ∧ t.illum.stage = { s.illum.stage with
          vstr := mv, dis := true, ovp := true, ovpAt := recent ++ [s.now], resumeAt := none,
          st := if 2 ≤ recent.length then .fault else .discharging } ∧
        t.illum.cntOvp = satInc 65535 s.illum.cntOvp ∧ t.illum.sinks = s.illum.sinks ∧ t.illum.groups = s.illum.groups ∧
        t.axes = s.axes ∧ t.mem = s.mem := by
  have row : exec (.vstrOvervoltage mv) s = execVstrOvervoltage mv s := rfl
  split
  · next low => exact congrArg Host.Outcome.next (if_pos (.inl low))
  · next high =>
    intro recent
    rw [row, execVstrOvervoltage, if_neg (by rintro (h | h | h); exacts [high h, sound h, h full])]
    extract_lets again third act s1 s2
    obtain ⟨o, events⟩ := lightFaults_onlyOwners act mv s2
    rw [events]
    have illum := (State.lampRefresh_sameLight { s2 with owners := o }).1
    have moves := State.lampRefresh_light { s2 with owners := o }
    have stopped : third = decide (2 ≤ recent.length) := by
      show decide (3 ≤ (recent ++ [s.now]).length) = _
      rw [List.length_append, List.length_singleton]
      exact decide_eq_decide.2 ⟨fun h => by omega, fun h => by omega⟩
    refine ⟨_, rfl, ?_, ?_, ?_, ?_, ?_, ?_⟩
    · rw [illum]
      have phase : s2.illum.stage.st = if 2 ≤ recent.length then .fault else .discharging := by
        show (if third = true then _ else _) = _
        rw [stopped]
        simp only [decide_eq_true_eq]
      rw [← phase]
      rfl
    · rw [illum]
      rfl
    · rw [illum]
      rfl
    · rw [illum]
      rfl
    · rw [moves]
      rfl
    · rw [moves]
      rfl

theorem matrixLine_waits {s : State} {a : Nat} (line : s.illum.matrix.lineAt = some a)
    (early : s.now < a + s.illum.matrix.lineTUse * 10) : exec .matrixLine s = .next s := by
  have row : exec .matrixLine s = execMatrixLine s := rfl
  rw [row, execMatrixLine]
  refine congrArg Host.Outcome.next (if_neg fun h => ?_)
  simp [line, Nat.not_le.2 early] at h

theorem matrixLine_next {s : State} (full : s.boot.dev = .full) {a : Nat} (line : s.illum.matrix.lineAt = some a)
    (past : a + s.illum.matrix.lineTUse * 10 ≤ s.now) (within : s.illum.matrix.line ≠ 15) :
    exec .matrixLine s = .next (s.updMatrix fun m => { m with line := m.line + 1, lineAt := some s.now }) := by
  have row : exec .matrixLine s = execMatrixLine s := rfl
  rw [row, execMatrixLine]
  have follows : s.illum.matrix.line + 1 ≠ 0 := by
    generalize s.illum.matrix.line = n at *
    revert n
    decide
  refine congrArg Host.Outcome.next ((if_pos ⟨full, ?_⟩).trans ?_)
  · simp [State.updMatrix, State.updIllum, line, follows]
  · simp [line, past]

theorem matrixLine_first {s : State} (full : s.boot.dev = .full)
    (ends : (∃ a, s.illum.matrix.lineAt = some a ∧ a + s.illum.matrix.lineTUse * 10 ≤ s.now ∧ s.illum.matrix.line = 15) ∨
      s.illum.matrix.lineAt = none) :
    let m := s.illum.matrix
    ∃ t, exec .matrixLine s = .next t ∧ t.illum.matrix.line = 0 ∧ t.illum.matrix.lineAt = some s.now ∧
        t.illum.matrix.frame = m.pending.getD m.frame ∧ t.illum.matrix.pending = none ∧ t.illum.matrix.lineTUse = m.lineT ∧
        t.illum.matrix.fault = m.fault ∧ t.illum.sinks = s.illum.sinks ∧ t.axes = s.axes ∧ t.mem = s.mem := by
  have row : exec .matrixLine s = execMatrixLine s := rfl
  have last : (if s.illum.matrix.lineAt.isNone then (0 : Fin 16) else s.illum.matrix.line + 1) = 0 := by
    rcases ends with ⟨a, line, -, end_⟩ | none
    · rw [line, end_]
      rfl
    · rw [none]
      rfl
  rw [row, execMatrixLine]
  refine ⟨_, congrArg Host.Outcome.next (if_pos ⟨full, ?_⟩), ?_⟩
  · simp only [State.updMatrix, State.updIllum, if_pos last, true_and]
  · rcases ends with ⟨a, line, past, -⟩ | none
    · simp [line, past]
    · simp [none]

/-- Settles O35: AVSBus, the monitor, the lamp boards, the string supply and the matrix, each by its row. -/
theorem supplyAndLampRowsAct : Obligations.SupplyAndLampRowsAct := by
  unfold Obligations.SupplyAndLampRowsAct
  refine ⟨⟨fun s kind v alert powered => ⟨avsTransactionDone_answered powered kind v alert, avsTransactionDone_failed powered kind v alert⟩,
    fun s ok v alert powered => avsRetry_reads powered ok v alert, vcoreShutdownStep_steps,
    fun s rates pkg boot recovery shutdown due runs kept => monitorWindowEnd_moves boot recovery shutdown due runs kept,
    fun s rates pkg boot recovery due off => monitorWindowEnd_off rates pkg boot recovery due off,
    fun s rates pkg early => congrArg Host.Outcome.next (if_pos (.inr (.inr early)))⟩,
    ltsConversion_shows, fun s => ?_, fun s at_ resumes waits => ?_, fun s mv full sound => vstrOvervoltage_discharges full sound mv,
    fun s => rfl, fun s full => ⟨fun a line early => matrixLine_waits line early, fun a line past within => matrixLine_next full line past within,
      fun ends => matrixLine_first full ends⟩, fun s => ⟨rfl, fun a c => if_pos (.inl rfl)⟩⟩
  · exact congrArg Host.Outcome.next (by simp only [Bool.not_eq_true])
  · have row : exec .stageResume s = execStageResume s := rfl
    rw [row, execStageResume, resumes]
    simp [waits]

end Sys2Proof.Machine
end

section
/-! PROOFS. The coordinator's slots: what changes at one slot, delivery reports, the frames a slot drops (20_radio_link.md). -/

namespace Sys2Proof.Machine

/-! ### One slot -/

theorem State.rslot_updSlot (s : State) (i k : Fin 32) (f : RSlot → RSlot) :
    (s.updSlot i f).rslot k = if i = k then f (s.rslot k) else s.rslot k := bankUpd_get _ _ _ _

theorem State.rslot_updSlot_self (s : State) (i : Fin 32) (f : RSlot → RSlot) : (s.updSlot i f).rslot i = f (s.rslot i) :=
  bankUpd_get_self _ _ _

theorem State.rslot_updSlot_ne (s : State) {i k : Fin 32} (f : RSlot → RSlot) (other : k ≠ i) : (s.updSlot i f).rslot k = s.rslot k :=
  (s.rslot_updSlot i k f).trans (if_neg other.symm)

theorem State.updSlot_updSlot (s : State) (i : Fin 32) (f g : RSlot → RSlot) : (s.updSlot i f).updSlot i g = s.updSlot i (g ∘ f) :=
  congrArg (fun v => s.updRadio fun r => { r with slots := v }) (bankUpd_bankUpd s.radio.slots i f g)

theorem State.updSlot_of_same (s : State) (i : Fin 32) (f : RSlot → RSlot) (same : f (s.rslot i) = s.rslot i) : s.updSlot i f = s :=
  congrArg (fun v => s.updRadio fun r => { r with slots := v }) (bankUpd_id s.radio.slots i f same)

theorem State.updSlot_holder (s : State) (i : Fin 32) (f : RSlot → RSlot) (c k : Nat) : (s.updSlot i f).holder c k = s.holder c k := rfl

/-! ### Queue entries -/

/-- The bytes that a slot's queue holds. -/
def RSlot.used (x : RSlot) : Nat := (x.entries.map (·.length)).sum

/-- An entry joins the queue where it fits and somebody holds the slot, and otherwise is counted. -/
def RSlot.enter (held : Bool) (e : Bytes) (x : RSlot) : RSlot :=
  if x.used + e.length ≤ 4096 ∧ held = true then { x with entries := x.entries ++ [e] }
  else { x with discarded := satInc 65535 x.discarded }

/-- Somebody holds a slot. -/
def State.slotHeld (s : State) (i : Fin 32) : Bool := s.holder 5 i.val != 0

theorem State.slotHeld_iff (s : State) (i : Fin 32) : s.slotHeld i = true ↔ s.holder 5 i.val ≠ 0 := bne_iff_ne

theorem State.slotHeld_of_leases {s t : State} (same : t.leases = s.leases) (i : Fin 32) : t.slotHeld i = s.slotHeld i := by
  rw [State.slotHeld, State.holder, same]
  rfl

theorem State.addEntry_eq (s : State) (i : Fin 32) (e : Bytes) : s.addEntry i e = s.updSlot i (RSlot.enter (s.slotHeld i) e) := by
  refine congrArg (s.updSlot i) (funext fun x => ?_)
  exact if_congr (and_congr_right fun _ => (s.slotHeld_iff i).symm) rfl rfl

/-- The delivery report of a frame. -/
def reportOf (result : Nat) (q : SendQ) : Bytes :=
  queueEntry 3 0 q.attempts q.lastAt ([BitVec.ofNat 8 result, 0] ++ le 2 q.ref) []

theorem length_reportOf (result : Nat) (q : SendQ) : (reportOf result q).length = 16 := by
  simp [reportOf, queueEntry, le, fit]

theorem State.report_eq (s : State) (i : Fin 32) (q : SendQ) (result : Nat) :
    s.report i q result = s.updSlot i (RSlot.enter (s.slotHeld i) (reportOf result q)) := s.addEntry_eq i _

/-- An entry changes the queue and the count of what was discarded alone. -/
theorem RSlot.enter_frame (held : Bool) (e : Bytes) (x : RSlot) : ∃ l d, x.enter held e = { x with entries := l, discarded := d } := by
  unfold RSlot.enter
  split
  · exact ⟨_, _, rfl⟩
  · exact ⟨_, _, rfl⟩

theorem RSlot.enter_room {held : Bool} {e : Bytes} {x : RSlot} (room : x.used + e.length ≤ 4096) (holds : held = true) :
    (x.enter held e).entries = x.entries ++ [e] := by rw [RSlot.enter, if_pos ⟨room, holds⟩]

theorem RSlot.enter_judged (held : Bool) (e : Bytes) (x : RSlot) : if x.used + e.length ≤ 4096 ∧ held = true then
      (x.enter held e).entries = x.entries ++ [e] ∧ (x.enter held e).discarded = x.discarded
    else (x.enter held e).entries = x.entries ∧ (x.enter held e).discarded = satInc 65535 x.discarded := by
  unfold RSlot.enter
  split
  · exact ⟨rfl, rfl⟩
  · exact ⟨rfl, rfl⟩

/-- The reports of several frames. -/
def RSlot.reports (held : Bool) (result : Nat) (l : List SendQ) (x : RSlot) : RSlot :=
  l.foldl (fun x q => x.enter held (reportOf result q)) x

theorem RSlot.reports_frame (held : Bool) (result : Nat) (l : List SendQ) (x : RSlot) :
    ∃ e d, x.reports held result l = { x with entries := e, discarded := d } := by
  unfold RSlot.reports
  induction l generalizing x with
  | nil => exact ⟨_, _, rfl⟩
  | cons q l ih =>
    rw [List.foldl_cons]
    obtain ⟨e, d, one⟩ := x.enter_frame held (reportOf result q)
    obtain ⟨e', d', rest⟩ := ih (x.enter held (reportOf result q))
    rw [rest, one]
    exact ⟨e', d', rfl⟩

theorem RSlot.reports_room {held : Bool} (holds : held = true) (result : Nat) (l : List SendQ) (x : RSlot)
    (room : x.used + 16 * l.length ≤ 4096) : (x.reports held result l).entries = x.entries ++ l.map (reportOf result) := by
  unfold RSlot.reports
  induction l generalizing x with
  | nil => exact (List.append_nil _).symm
  | cons q l ih =>
    have size := length_reportOf result q
    rw [List.length_cons] at room
    have first := RSlot.enter_room (e := reportOf result q) (x := x) (by omega) holds
    rw [List.foldl_cons, ih]
    · rw [first, List.append_assoc]
      rfl
    · rw [RSlot.used, first, List.map_append, List.sum_append]
      simp only [RSlot.used] at room
      simp only [List.map_cons, List.map_nil, List.sum_cons, List.sum_nil, size]
      omega

theorem foldl_report (l : List SendQ) (s : State) (i : Fin 32) (result : Nat) :
    l.foldl (fun s q => s.report i q result) s = s.updSlot i (RSlot.reports (s.slotHeld i) result l) := by
  induction l generalizing s with
  | nil => exact (s.updSlot_of_same i _ rfl).symm
  | cons q l ih =>
    rw [List.foldl_cons, ih, s.report_eq, s.updSlot_updSlot]
    rfl

/-- What a slot is once its frames are dropped. -/
def RSlot.shed (held : Bool) (result : Nat) (x : RSlot) : RSlot := { x.reports held result x.sends with sends := [] }

theorem State.dropSends_eq (s : State) (i : Fin 32) (result : Nat) :
    ∃ f, s.dropSends i result = s.updSlot i f ∧ f (s.rslot i) = (s.rslot i).shed (s.slotHeld i) result := by
  refine ⟨(fun x => { x with sends := [] }) ∘ RSlot.reports (s.slotHeld i) result (s.rslot i).sends, ?_, rfl⟩
  rw [State.dropSends, foldl_report, s.updSlot_updSlot]

theorem RSlot.shed_frame (held : Bool) (result : Nat) (x : RSlot) :
    ∃ e d, x.shed held result = { x with sends := [], entries := e, discarded := d } := by
  obtain ⟨e, d, frame⟩ := x.reports_frame held result x.sends
  exact ⟨e, d, by rw [RSlot.shed, frame]⟩

theorem RSlot.shed_room {held : Bool} (holds : held = true) (result : Nat) (x : RSlot) (room : x.used + 16 * x.sends.length ≤ 4096) :
    (x.shed held result).entries = x.entries ++ x.sends.map (reportOf result) := RSlot.reports_room holds result _ x room

/-! ### Events of a slot -/

theorem State.admitEvent_onlyOwners (s : State) (i : Fin 32) (result : Nat) : ∃ o, s.admitEvent i result = { s with owners := o } :=
  ⟨_, s.raiseAll_onlyOwners _ _ _ _⟩

end Sys2Proof.Machine
end

section
/-! PROOFS. RADIO_CONFIG, TAG_ADMIT, TAG_EXPEL, TAG_SEND and TAG_EVENTS_FETCH (R408, R412 to R415). -/

namespace Sys2Proof.Machine

/-! ### What a radio command answers -/

section
variable {s : State} {h : Hdr} {c : Cmd} {ses : Session} (ok : Accepted s h c ses)
include ok

/-- A command that changes the coordinator alone. -/
theorem radio_taken (op : c.opcode ≠ 0x02) {i : Instr} (row : exec i s = .next (s.serve h c)) {e : Nat} (plain : Uncounted e) {b : Bytes}
    (f : Radio → Radio)
    (effect : perform (s.ticket h c ses) c (s.accepted h) = ((s.accepted h).updRadio f).reply (s.ticket h c ses) e b) :
    Completes i s h c.opcode e b (s.updRadio f) :=
  Accepted.completes_effect ok row op plain (·.updRadio f) effect rfl rfl fun _ => rfl

/-- A command for a tag slot names a slot that its sender holds. -/
theorem Accepted.holdsSlot (needs : ∀ h, s.needsLease h c = true) (resource : ∀ h, resourceOk h c = true → h.cls.toNat = 5 ∧ h.idx.toNat < 32) :
    s.slotHeld (Fin.ofNat 32 h.idx.toNat) = true := by
  obtain ⟨-, -, -, -, -, form, gate⟩ := ok
  have named : h.cls.toNat = 5 ∧ h.idx.toNat < 32 := by
    refine resource h ?_
    by_contra out
    exact absurd form (by rw [State.formFault, if_pos (show ¬ resourceOk (s.waiting h c ses).hdr (s.waiting h c ses).cmd = true from out)]; simp)
  obtain ⟨cls, idx⟩ := named
  rw [State.slotHeld_iff]
  have place : (Fin.ofNat 32 h.idx.toNat).val = h.idx.toNat := Nat.mod_eq_of_lt idx
  rw [place]
  intro free
  have lacks : ¬ s.holds h.port h.cls.toNat h.idx.toNat = true := by
    rw [cls, State.holds, free]
    simp [Port.id]
  unfold State.gate at gate
  split at gate
  · simp at gate
  · rw [if_pos ⟨needs _, lacks⟩] at gate
    simp at gate

end

theorem State.accepted_rslot (s : State) (h : Hdr) (i : Fin 32) : (s.accepted h).rslot i = s.rslot i := by
  rw [State.rslot, s.accepted_radio]
  rfl

/-! ### RADIO_CONFIG -/

/-- The configuration that RADIO_CONFIG names. -/
def radCfgOf (p : RadioP) : RadCfg :=
  { mask := p.mask.toNat, startCh := p.startCh.toNat, txDbm := p.txDbm.toInt, interfN := p.interfN.toNat,
    edDbm := p.edDbm.toInt, evmAbort := p.evmAbort.toNat, netId := p.netId.toNat, silentMs := p.silentMs.toNat, en := p.en }

/-- A RADIO_CONFIG in range (R408). -/
def RadioFits (p : RadioP) : Prop :=
  p.mask ≠ 0 ∧ p.startCh.toNat ≤ 15 ∧ p.mask.toNat.testBit p.startCh.toNat = true ∧
    -20 ≤ p.txDbm.toInt ∧ p.txDbm.toInt ≤ 10 ∧ p.interfN ≠ 0 ∧ -90 ≤ p.edDbm.toInt ∧ p.edDbm.toInt ≤ -30 ∧
    50 ≤ p.evmAbort.toNat ∧ p.evmAbort.toNat ≤ 1000 ∧ 10 ≤ p.silentMs.toNat ∧ p.silentMs.toNat ≤ 60000

theorem toNat_eq_zero_iff {n : Nat} (x : BitVec n) : x.toNat = 0 ↔ x = 0 :=
  ⟨fun h => BitVec.eq_of_toNat_eq (by simpa using h), fun h => by simp [h]⟩

theorem radioFits_iff (p : RadioP) : ((radCfgOf p).mask = 0 ∨ (radCfgOf p).startCh > 15 ∨
      ¬ (radCfgOf p).mask.testBit (radCfgOf p).startCh = true ∨ (radCfgOf p).txDbm < -20 ∨ (radCfgOf p).txDbm > 10 ∨
      (radCfgOf p).interfN = 0 ∨ (radCfgOf p).edDbm < -90 ∨ (radCfgOf p).edDbm > -30 ∨ (radCfgOf p).evmAbort < 50 ∨
      (radCfgOf p).evmAbort > 1000 ∨ (radCfgOf p).silentMs < 10 ∨ (radCfgOf p).silentMs > 60000) ↔ ¬ RadioFits p := by
  simp only [radCfgOf, RadioFits, toNat_eq_zero_iff, not_and_or, not_le, ne_eq, not_not, gt_iff_lt]

/-- The coordinator starts with a configuration (R397). -/
def Radio.start (c : RadCfg) (devNs : Nat) (r : Radio) : Radio :=
  { r with cfg := c, use := c, running := false, ch := c.startCh, next := none, interfRun := 0, runEvm := 0,
           startMs := (devNs + 1000000 + 999999) / 1000000, aborted := false, served := true, onAir := none }

/-- One slot as the coordinator stops. -/
def slotStops (s : State) (i : Fin 32) : State :=
  let x := s.rslot i
  let s3 := if x.st = .admitted then s.admitEvent i 3 else if x.st = .pending then s.admitEvent i 1 else s
  s3.updSlot i fun x => { x.freed with sends := [], entries := [], expelTx := none }

/-- The coordinator stops. -/
def State.radioStop (s : State) (c : RadCfg) : State :=
  (forAll s slotStops).updRadio fun r =>
    { r with cfg := c, use := c, running := false, next := none, interfRun := 0, runEvm := 0, onAir := none }

/-- A configuration that neither starts nor stops the coordinator. -/
def Radio.reconfigure (c : RadCfg) (r : Radio) : Radio :=
  { r with cfg := c, next := if c.en ∧ ¬ c.mask.testBit r.ch ∧ r.next.isNone then some (c.startCh, 3) else r.next }

/-- What RADIO_CONFIG makes of the coordinator. -/
def State.radioSet (s : State) (c : RadCfg) : State :=
  if c.en = true ∧ ¬ s.radio.cfg.en = true then s.updRadio (Radio.start c s.devNs)
  else if ¬ c.en = true ∧ s.radio.cfg.en = true then s.radioStop c
  else s.updRadio (Radio.reconfigure c)

theorem doRadioConfig_eq (t : Ticket) (p : RadioP) (s : State) : doRadioConfig t p s =
    if (radCfgOf p).mask = 0 ∨ (radCfgOf p).startCh > 15 ∨
      ¬ (radCfgOf p).mask.testBit (radCfgOf p).startCh = true ∨ (radCfgOf p).txDbm < -20 ∨ (radCfgOf p).txDbm > 10 ∨
      (radCfgOf p).interfN = 0 ∨ (radCfgOf p).edDbm < -90 ∨ (radCfgOf p).edDbm > -30 ∨ (radCfgOf p).evmAbort < 50 ∨
      (radCfgOf p).evmAbort > 1000 ∨ (radCfgOf p).silentMs < 10 ∨ (radCfgOf p).silentMs > 60000 then s.reply t eParam []
    else if s.radio.cfg.en = true ∧ (radCfgOf p).en = true ∧ (radCfgOf p).netId ≠ s.radio.cfg.netId then s.reply t eState []
    else (s.radioSet (radCfgOf p)).reply t stOk [] := rfl

theorem doRadioConfig_out {t : Ticket} {p : RadioP} (s : State) (wrong : ¬ RadioFits p) : doRadioConfig t p s = s.reply t eParam [] := by
  rw [doRadioConfig_eq, if_pos ((radioFits_iff p).2 wrong)]

theorem doRadioConfig_within {t : Ticket} {p : RadioP} (s : State) (fits : RadioFits p) : doRadioConfig t p s =
    if s.radio.cfg.en = true ∧ p.en = true ∧ p.netId.toNat ≠ s.radio.cfg.netId then s.reply t eState []
    else (s.radioSet (radCfgOf p)).reply t stOk [] := by
  rw [doRadioConfig_eq, if_neg (mt (radioFits_iff p).1 (not_not.2 fits))]
  rfl

theorem slotStops_frame (s : State) (i : Fin 32) : ∃ o,
    slotStops s i = { s.updSlot i (fun x => { x.freed with sends := [], entries := [], expelTx := none }) with owners := o } := by
  unfold slotStops
  have event : ∃ o, (if (s.rslot i).st = .admitted then s.admitEvent i 3
      else if (s.rslot i).st = .pending then s.admitEvent i 1 else s) = { s with owners := o } := by
    split
    · exact s.admitEvent_onlyOwners i 3
    · split
      · exact s.admitEvent_onlyOwners i 1
      · exact ⟨_, rfl⟩
  obtain ⟨o, event⟩ := event
  dsimp only
  rw [event]
  exact ⟨o, rfl⟩

theorem slotStops_sessions (s : State) (i : Fin 32) : (slotStops s i).sessions = s.sessions := by
  unfold slotStops
  refine (State.updSlot_sessions _ _ _).trans ?_
  split
  · exact s.admitEvent_sessions i 3
  · split
    · exact s.admitEvent_sessions i 1
    · rfl

theorem State.radioStop_frame (s : State) (c : RadCfg) : ∃ v o, s.radioStop c = { s with
    radio := { s.radio with
      slots := v, cfg := c, use := c, running := false, next := none, interfRun := 0, runEvm := 0, onAir := none }, owners := o } := by
  have frame : ∃ v o, forAll s slotStops = { s with radio := { s.radio with slots := v }, owners := o } := by
    refine forAll_keeps (P := fun t => ∃ v o, t = { s with radio := { s.radio with slots := v }, owners := o }) ?_ s ⟨_, _, rfl⟩
    rintro _ i ⟨v, o, rfl⟩
    obtain ⟨o', stops⟩ := slotStops_frame { s with radio := { s.radio with slots := v }, owners := o } i
    exact ⟨_, o', stops⟩
  obtain ⟨v, o, frame⟩ := frame
  rw [State.radioStop, frame]
  exact ⟨v, o, rfl⟩

/-- A change of the coordinator alone leaves its slots. -/
theorem State.updRadio_rslot (s : State) (f : Radio → Radio) (same : (f s.radio).slots = s.radio.slots) (i : Fin 32) :
    (s.updRadio f).rslot i = s.rslot i := congrArg (fun v : Vector RSlot 32 => v.get i) same

theorem State.radioStop_slot (s : State) (c : RadCfg) (i : Fin 32) :
    (s.radioStop c).rslot i = { (s.rslot i).freed with sends := [], entries := [], expelTx := none } := by
  have each := forAll_entry (f := slotStops) (P := fun x y => y = { x.freed with sends := [], entries := [], expelTx := none })
    State.rslot (fun u k g other => ?_) (fun u k => ?_) s i
  · rw [State.radioStop, State.updRadio_rslot _ _ rfl]
    exact each
  · obtain ⟨o, stops⟩ := slotStops_frame u k
    rw [stops]
    exact u.rslot_updSlot_ne _ other
  · obtain ⟨o, stops⟩ := slotStops_frame u k
    rw [stops]
    exact u.rslot_updSlot_self k _

theorem State.radioStop_sessions (s : State) (c : RadCfg) : (s.radioStop c).sessions = s.sessions :=
  (State.updRadio_sessions _ _).trans (forAll_sessions s slotStops slotStops_sessions)

theorem radioConfig_acts {s : State} {h : Hdr} {ses : Session} {p : RadioP} (ok : Accepted s h (.radioConfig p) ses) :
    let c := radCfgOf p
    let answers (t : State) : Prop := exec (.radioConfig h p) s = .next t ∧ Replied s t h 0x50 stOk [] ∧ t.radio.cfg = c
    (¬ RadioFits p → Completes (.radioConfig h p) s h 0x50 eParam [] s) ∧
    (RadioFits p → s.radio.cfg.en = true → p.en = true → p.netId.toNat ≠ s.radio.cfg.netId →
      Completes (.radioConfig h p) s h 0x50 eState [] s) ∧
    (RadioFits p → s.radio.cfg.en = false → p.en = true → ∃ t, answers t ∧ t.radio.running = false ∧ t.radio.ch = c.startCh ∧
      t.radio.next = none ∧ t.radio.slots = s.radio.slots ∧
      s.devNs + 1000000 ≤ t.radio.startMs * 1000000 ∧ t.radio.startMs * 1000000 < s.devNs + 2000000) ∧
    (RadioFits p → s.radio.cfg.en = true → p.en = false → ∃ t, answers t ∧ t.radio.running = false ∧ t.radio.next = none ∧
      ∀ i, (t.rslot i).st = .free ∧ (t.rslot i).sends = [] ∧ (t.rslot i).entries = [] ∧ (t.rslot i).admitTx = none ∧
        (t.rslot i).expelTx = none) ∧
    (RadioFits p → s.radio.cfg.en = p.en → (p.en = true → p.netId.toNat = s.radio.cfg.netId) →
      Completes (.radioConfig h p) s h 0x50 stOk [] (s.updRadio fun r => { r with
        cfg := c,
        next := if p.en = true ∧ p.mask.toNat.testBit r.ch = false ∧ r.next = none then some (c.startCh, 3) else r.next })) := by
  intro c answers
  let k := s.ticket h (.radioConfig p) ses
  have op : Cmd.opcode (.radioConfig p) ≠ 0x02 := by simp [Cmd.opcode]
  have radio := s.accepted_radio h
  have effect (fits : RadioFits p) : perform k (.radioConfig p) (s.accepted h) = _ := doRadioConfig_within (t := k) (s.accepted h) fits
  have set : (s.accepted h).radioSet c = if p.en = true ∧ ¬ s.radio.cfg.en = true then (s.accepted h).updRadio (Radio.start c (s.accepted h).devNs)
      else if ¬ p.en = true ∧ s.radio.cfg.en = true then (s.accepted h).radioStop c else (s.accepted h).updRadio (Radio.reconfigure c) := by
    rw [State.radioSet, radio]
    rfl
  rw [set, radio] at effect
  refine ⟨fun wrong => ?_, fun fits on stays other => ?_, fun fits off starts => ?_, fun fits on stops => ?_, fun fits same net => ?_⟩
  · exact ok.completes_reply rfl op uncounted_param (doRadioConfig_out (s.accepted h) wrong)
  · exact ok.completes_reply rfl op uncounted_state ((effect fits).trans (if_pos ⟨on, stays, other⟩))
  · obtain ⟨row, replied⟩ := ok.answers (i := .radioConfig h p) rfl op ((effect fits).trans
      ((if_neg (by simp [off])).trans (congrArg (State.reply · k stOk []) (if_pos (by simp [off, starts]))))) (State.updRadio_sessions _ _) (s.accepted_now h)
    refine ⟨_, ⟨row, replied, ?_⟩, ?_⟩
    · rw [State.reply_radio]
      rfl
    · rw [State.reply_radio]
      have time : (s.accepted h).devNs = s.devNs := by rw [State.devNs, s.accepted_tb]; rfl
      rw [time]
      refine ⟨rfl, rfl, rfl, ?_, ?_, ?_⟩
      · show (s.accepted h).radio.slots = _
        rw [radio]
      · show s.devNs + 1000000 ≤ (s.devNs + 1000000 + 999999) / 1000000 * 1000000
        omega
      · show (s.devNs + 1000000 + 999999) / 1000000 * 1000000 < s.devNs + 2000000
        omega
  · obtain ⟨v, o, frame⟩ := (s.accepted h).radioStop_frame c
    obtain ⟨row, replied⟩ := ok.answers (i := .radioConfig h p) rfl op ((effect fits).trans
      ((if_neg (by simp [stops])).trans (congrArg (State.reply · k stOk [])
        ((if_neg (by simp [stops])).trans (if_pos (by simp [on, stops]))))))
      ((s.accepted h).radioStop_sessions c) (by rw [frame]; exact s.accepted_now h)
    refine ⟨_, ⟨row, replied, ?_⟩, ?_, ?_, fun i => ?_⟩
    · rw [State.reply_radio, frame]
    · rw [State.reply_radio, frame]
    · rw [State.reply_radio, frame]
    · rw [State.rslot, State.reply_radio]
      change ((((s.accepted h).radioStop c).rslot i).st = _) ∧ (((s.accepted h).radioStop c).rslot i).sends = _ ∧ 
        (((s.accepted h).radioStop c).rslot i).entries = _ ∧ (((s.accepted h).radioStop c).rslot i).admitTx = _ ∧
        (((s.accepted h).radioStop c).rslot i).expelTx = _
      rw [State.radioStop_slot]
      exact ⟨rfl, rfl, rfl, rfl, rfl⟩
  · have result := radio_taken ok op (i := .radioConfig h p) rfl uncounted_ok (Radio.reconfigure c) ((effect fits).trans
      ((if_neg (fun x => x.2.2 (net x.2.1))).trans (congrArg (State.reply · k stOk [])
        ((if_neg (by simp [same])).trans (if_neg (by simp [same]))))))
    have equal : Radio.reconfigure c = fun r => { r with
        cfg := c,
        next := if p.en = true ∧ p.mask.toNat.testBit r.ch = false ∧ r.next = none then some (c.startCh, 3) else r.next } := by
      funext r
      simp only [Radio.reconfigure, Option.isNone_iff_eq_none, Bool.not_eq_true]
      rfl
    rwa [equal] at result

/-! ### TAG_ADMIT -/

/-- The guaranteed slot that TAG_ADMIT names. -/
def slotGiven (p : AdmitP) : Option (Fin 8) := if x : p.gslot.toNat < 8 then some ⟨p.gslot.toNat, x⟩ else none

theorem slotGiven_isNone (p : AdmitP) : (slotGiven p).isNone = true ↔ ¬ p.gslot.toNat < 8 := by
  unfold slotGiven
  split <;> simp_all

/-- A TAG_ADMIT in range (R413). -/
def AdmitFits (p : AdmitP) (enc : Bool) : Prop :=
  p.long ≠ 0 ∧ p.long.toNat ≠ 2 ^ 64 - 1 ∧ (p.gslot.toNat < 8 ∨ p.gslot = 255) ∧ 1 ≤ p.timeoutS.toNat ∧
    p.timeoutS.toNat ≤ 3600 ∧ enc = true

theorem admitFits_iff (p : AdmitP) (enc : Bool) : (p.long.toNat = 0 ∨ p.long.toNat = 2 ^ 64 - 1 ∨
    ((slotGiven p).isNone = true ∧ p.gslot.toNat ≠ 255) ∨ p.timeoutS.toNat < 1 ∨ p.timeoutS.toNat > 3600 ∨ ¬ enc = true) ↔
      ¬ AdmitFits p enc := by
  have all : p.gslot.toNat = 255 ↔ p.gslot = 255 := ⟨fun h => BitVec.eq_of_toNat_eq h, fun h => by rw [h]; rfl⟩
  rw [slotGiven_isNone, toNat_eq_zero_iff, ne_eq, all]
  simp only [AdmitFits, not_and_or, not_or, not_le, ne_eq, not_not, gt_iff_lt]

/-- Another slot has the address or the guaranteed slot. -/
def State.slotTaken (s : State) (i : Fin 32) (long : Nat) (gs : Option (Fin 8)) : Bool :=
  (List.finRange 32).any fun k =>
    k != i && (s.rslot k).st != .free && ((s.rslot k).long == long || (gs.isSome && (s.rslot k).gslot == gs))

theorem State.slotTaken_iff (s : State) (i : Fin 32) (long : Nat) (gs : Option (Fin 8)) : s.slotTaken i long gs = true ↔
    ∃ k, k ≠ i ∧ (s.rslot k).st ≠ .free ∧ ((s.rslot k).long = long ∨ (gs ≠ none ∧ (s.rslot k).gslot = gs)) := by
  simp only [State.slotTaken, List.any_eq_true, List.mem_finRange, true_and, Bool.and_eq_true, bne_iff_ne, Bool.or_eq_true,
    beq_iff_eq, Option.isSome_iff_ne_none, and_assoc]

/-- A slot whose tag is to be admitted. -/
def RSlot.admitting (p : AdmitP) (fc now : Nat) (x : RSlot) : RSlot :=
  { x with st := .pending, rejoin := p.rejoin, gslot := slotGiven p, long := p.long.toNat, key := p.key,
           lqi := if x.long = p.long.toNat then x.lqi else 0, lastFc := fc,
           heardAt := if x.long = p.long.toNat then x.heardAt else now,
           counterMin := p.counterMin.toNat, timeoutAt := some (now + p.timeoutS.toNat * secTicks), admitTx := none,
           seq := none, sends := [], joinFailAt := none }

theorem doTagAdmit_eq (t : Ticket) (i : Fin 32) (p : AdmitP) (s : State) : doTagAdmit t i p s =
    if p.long.toNat = 0 ∨ p.long.toNat = 2 ^ 64 - 1 ∨ ((slotGiven p).isNone = true ∧ p.gslot.toNat ≠ 255) ∨
      p.timeoutS.toNat < 1 ∨ p.timeoutS.toNat > 3600 ∨ ¬ t.hdr.enc = true then s.reply t eParam []
    else if (s.rslot i).st ≠ .free ∧ (s.rslot i).st ≠ .dropped then s.reply t eState []
    else if s.slotTaken i p.long.toNat (slotGiven p) = true then s.reply t eBusy []
    else if ¬ s.radio.cfg.en = true then s.reply t eState []
    else (s.updSlot i (RSlot.admitting p (s.radio.fcOf p.long.toNat) s.now)).reply t stAccepted [] := rfl

theorem tagAdmit_acts {s : State} {h : Hdr} {ses : Session} {p : AdmitP} (ok : Accepted s h (.tagAdmit p) ses) :
    let i : Fin 32 := Fin.ofNat 32 h.idx.toNat
    let fits := AdmitFits p h.enc
    let idle : Prop := (s.rslot i).st = .free ∨ (s.rslot i).st = .dropped
    let taken : Prop := ∃ k, k ≠ i ∧ (s.rslot k).st ≠ .free ∧
      ((s.rslot k).long = p.long.toNat ∨ (slotGiven p ≠ none ∧ (s.rslot k).gslot = slotGiven p))
    (¬ fits → Completes (.tagAdmit h p) s h 0x51 eParam [] s) ∧
    (fits → ¬ idle → Completes (.tagAdmit h p) s h 0x51 eState [] s) ∧
    (fits → idle → taken → Completes (.tagAdmit h p) s h 0x51 eBusy [] s) ∧
    (fits → idle → ¬ taken → s.radio.cfg.en = false → Completes (.tagAdmit h p) s h 0x51 eState [] s) ∧
    (fits → idle → ¬ taken → s.radio.cfg.en = true → Completes (.tagAdmit h p) s h 0x51 stAccepted []
      (s.updSlot i (RSlot.admitting p (s.radio.fcOf p.long.toNat) s.now))) := by
  intro i fits idle taken
  have op : Cmd.opcode (.tagAdmit p) ≠ 0x02 := by simp [Cmd.opcode]
  have effect : perform (s.ticket h (.tagAdmit p) ses) (.tagAdmit p) (s.accepted h) = _ :=
    doTagAdmit_eq (s.ticket h (.tagAdmit p) ses) i p (s.accepted h)
  have same : (s.accepted h).slotTaken i p.long.toNat (slotGiven p) = s.slotTaken i p.long.toNat (slotGiven p) := by
    unfold State.slotTaken
    simp only [State.accepted_rslot]
  rw [same, s.accepted_rslot, s.accepted_radio, s.accepted_now] at effect
  have range := admitFits_iff p h.enc
  have rests : idle → ¬ ((s.rslot i).st ≠ .free ∧ (s.rslot i).st ≠ .dropped) := fun idle => by tauto
  have apart := s.slotTaken_iff i p.long.toNat (slotGiven p)
  refine ⟨fun wrong => ?_, fun fits busy => ?_, fun fits idle taken => ?_, fun fits idle free off => ?_, fun fits idle free on => ?_⟩
  · exact ok.completes_reply rfl op uncounted_param (effect.trans (if_pos (range.2 wrong)))
  all_goals replace effect := effect.trans (if_neg fun bad => range.1 bad fits)
  · exact ok.completes_reply rfl op uncounted_state (effect.trans (if_pos (not_or.1 busy)))
  all_goals replace effect := effect.trans (if_neg (rests idle))
  · exact ok.completes_reply rfl op uncounted_busy (effect.trans (if_pos (apart.2 taken)))
  all_goals replace effect := effect.trans (if_neg fun found => free (apart.1 found))
  · exact ok.completes_reply rfl op uncounted_state (effect.trans (if_pos (by simp [off])))
  · exact radio_taken ok op rfl uncounted_accepted (fun r =>
      { r with slots := bankUpd r.slots i (RSlot.admitting p (s.radio.fcOf p.long.toNat) s.now) })
      (effect.trans (if_neg (by simp [on])))

/-! ### TAG_EXPEL -/

/-- What TAG_EXPEL makes of a slot. -/
def RSlot.expelled (held : Bool) (x : RSlot) : RSlot :=
  { (x.shed held 3).freed with expelTx := if x.st = .admitted then some (x.long, x.key) else (x.shed held 3).expelTx }

theorem doTagExpel_taken {t : Ticket} {i : Fin 32} {s : State} (taken : (s.rslot i).st ≠ .free) :
    ∃ f, doTagExpel t i s = (s.updSlot i f).reply t stOk [] ∧ f (s.rslot i) = (s.rslot i).expelled (s.slotHeld i) := by
  obtain ⟨f, drops, made⟩ := s.dropSends_eq i 3
  have effect : doTagExpel t i s = ((s.dropSends i 3).updSlot i fun y =>
      { y.freed with expelTx := if (s.rslot i).st = .admitted then some ((s.rslot i).long, (s.rslot i).key) else y.expelTx }).reply t
        stOk [] := if_neg taken
  rw [drops, s.updSlot_updSlot] at effect
  refine ⟨_, effect, ?_⟩
  rw [Function.comp_apply, made]
  rfl

theorem tagExpel_frees {s : State} {h : Hdr} {ses : Session} (ok : Accepted s h .tagExpel ses) :
    let i : Fin 32 := Fin.ofNat 32 h.idx.toNat
    let x := s.rslot i
    x.st ≠ .free → ∃ t, exec (.tagExpel h) s = .next t ∧ Replied s t h 0x52 stOk [] ∧ (t.rslot i).st = .free ∧
      (t.rslot i).gslot = none ∧ (t.rslot i).admitTx = none ∧ (t.rslot i).sends = [] ∧
      (t.rslot i).expelTx = (if x.st = .admitted then some (x.long, x.key) else x.expelTx) ∧
      (x.used + 16 * x.sends.length ≤ 4096 → (t.rslot i).entries = x.entries ++ x.sends.map (reportOf 3)) ∧
      (∀ k, k ≠ i → t.rslot k = s.rslot k) ∧ t.leases = s.leases ∧ t.mem = s.mem ∧ t.tag = s.tag := by
  intro i x taken
  have holds : s.slotHeld i = true := ok.holdsSlot (fun _ => rfl) fun h named => by
    have named : (h.cls.toNat == 5 && decide (h.idx.toNat < 32)) = true := named
    rwa [Bool.and_eq_true, beq_iff_eq, decide_eq_true_eq] at named
  have there := s.accepted_rslot h i
  obtain ⟨f, effect, made⟩ := doTagExpel_taken (t := s.ticket h .tagExpel ses) (i := i) (s := s.accepted h) (by rw [there]; exact taken)
  have held : (s.accepted h).slotHeld i = true := by rw [State.slotHeld, State.holder, s.accepted_leases]; exact holds
  rw [there, held] at made
  obtain ⟨row, replied⟩ := ok.answers (i := .tagExpel h) rfl (by simp [Cmd.opcode]) effect (State.updSlot_sessions _ _ _)
    ((State.updSlot_now _ _ _).trans (s.accepted_now h))
  have slot (k : Fin 32) : ((((s.accepted h).updSlot i f).reply (s.ticket h .tagExpel ses) stOk []).rslot k) =
      ((s.accepted h).updSlot i f).rslot k := by
    rw [State.rslot, State.reply_radio]
    rfl
  have own : ((((s.accepted h).updSlot i f).reply (s.ticket h .tagExpel ses) stOk []).rslot i) = x.expelled true := by
    rw [slot, State.rslot_updSlot_self, there, made]
  obtain ⟨e, d, frame⟩ := x.shed_frame true 3
  have noted := x.shed_room rfl 3
  refine ⟨_, row, replied, ?_, ?_, ?_, ?_, ?_, fun room => ?_, fun k other => ?_, ?_, ?_, ?_⟩
  · rw [own]
    rfl
  · rw [own]
    rfl
  · rw [own]
    rfl
  · rw [own]
    rfl
  · rw [own, RSlot.expelled, frame]
  · rw [own]
    exact noted room
  · rw [slot, State.rslot_updSlot_ne _ _ other, s.accepted_rslot]
  · rw [State.reply_leases]
    exact s.accepted_leases h
  · rw [State.reply_mem]
    exact s.accepted_mem h
  · rw [State.reply_tag]
    exact s.accepted_tag h

/-! ### TAG_SEND -/

theorem doTagSend_eq (t : Ticket) (i : Fin 32) (p : SendP) (s : State) : doTagSend t i p s =
    if p.data.length = 0 ∨ p.data.length > 133 then s.reply t eParam []
    else if (s.rslot i).st ≠ .admitted then s.reply t eTagAbsent []
    else if p.data.length > sendLimit s.radio.k then s.reply t eParam []
    else if (s.rslot i).sends.length ≥ 4 ∨ s.radio.next.isSome = true then s.reply t eRadioBusy []
    else (s.updSlot i fun x => { x with sends := x.sends ++ [⟨p.data, p.ref.toNat, none, 0, 0, 0⟩] }).reply t stOk [] := rfl

theorem sendLimit_le (k : Nat) : sendLimit k ≤ 133 := by
  have all : ∀ x ∈ ([148, 130, 113, 95, 78, 60, 43, 25, 8] : List Nat), x ≤ 148 := by decide
  have within : contentionLen k ≤ 148 := by
    rcases Nat.lt_or_ge k ([148, 130, 113, 95, 78, 60, 43, 25, 8] : List Nat).length with inside | outside
    · rw [contentionLen, List.getD_eq_getElem _ _ inside]
      exact all _ (List.getElem_mem _)
    · rw [contentionLen, List.getD_eq_default _ _ outside]
      exact Nat.zero_le _
  exact Nat.sub_le_sub_right within 15

theorem tagSend_acts {s : State} {h : Hdr} {ses : Session} {p : SendP} (ok : Accepted s h (.tagSend p) ses) :
    let i : Fin 32 := Fin.ofNat 32 h.idx.toNat
    let x := s.rslot i
    let n := p.data.length
    let room : Prop := x.sends.length < 4 ∧ s.radio.next = none
    (n = 0 ∨ 133 < n → Completes (.tagSend h p) s h 0x53 eParam [] s) ∧
    (1 ≤ n → n ≤ 133 → x.st ≠ .admitted → Completes (.tagSend h p) s h 0x53 eTagAbsent [] s) ∧
    (1 ≤ n → n ≤ 133 → x.st = .admitted → sendLimit s.radio.k < n → Completes (.tagSend h p) s h 0x53 eParam [] s) ∧
    (1 ≤ n → x.st = .admitted → n ≤ sendLimit s.radio.k → ¬ room → Completes (.tagSend h p) s h 0x53 eRadioBusy [] s) ∧
    (1 ≤ n → x.st = .admitted → n ≤ sendLimit s.radio.k → room → Completes (.tagSend h p) s h 0x53 stOk []
      (s.updSlot i fun x => { x with sends := x.sends ++ [⟨p.data, p.ref.toNat, none, 0, 0, 0⟩] })) := by
  intro i x n room
  have op : Cmd.opcode (.tagSend p) ≠ 0x02 := by simp [Cmd.opcode]
  have effect : perform (s.ticket h (.tagSend p) ses) (.tagSend p) (s.accepted h) = _ :=
    doTagSend_eq (s.ticket h (.tagSend p) ses) i p (s.accepted h)
  rw [s.accepted_rslot, s.accepted_radio] at effect
  have small (fits : n ≤ sendLimit s.radio.k) : n ≤ 133 := fits.trans (sendLimit_le _)
  have sized (least : 1 ≤ n) (most : n ≤ 133) : ¬ (p.data.length = 0 ∨ p.data.length > 133) := by omega
  have full : ((s.rslot i).sends.length ≥ 4 ∨ s.radio.next.isSome = true) ↔ ¬ room := by
    rw [Option.isSome_iff_ne_none, not_and_or, Nat.not_lt]
  refine ⟨fun wrong => ?_, fun least most absent => ?_, fun least most admitted long => ?_, fun least admitted fits busy => ?_,
    fun least admitted fits free => ?_⟩
  · rw [if_pos wrong] at effect
    exact ok.completes_reply rfl op uncounted_param effect
  · rw [if_neg (sized least most), if_pos absent] at effect
    exact ok.completes_reply rfl op (by decide) effect
  · rw [if_neg (sized least most), if_neg (not_not.2 admitted), if_pos long] at effect
    exact ok.completes_reply rfl op uncounted_param effect
  · rw [if_neg (sized least (small fits)), if_neg (not_not.2 admitted), if_neg (Nat.not_lt.2 fits), if_pos (full.2 busy)] at effect
    exact ok.completes_reply rfl op (by decide) effect
  · rw [if_neg (sized least (small fits)), if_neg (not_not.2 admitted), if_neg (Nat.not_lt.2 fits), if_neg (mt full.1 (not_not.2 free))] at effect
    exact radio_taken ok op rfl uncounted_ok (fun r => { r with slots := bankUpd r.slots i fun x =>
      { x with sends := x.sends ++ [⟨p.data, p.ref.toNat, none, 0, 0, 0⟩] } }) effect

/-! ### TAG_EVENTS_FETCH -/

theorem entriesWithin_longest (room : Nat) (es : List Bytes) : entriesWithin room es ≤ es.length ∧
    (es.take (entriesWithin room es)).flatten.length ≤ room ∧
    (entriesWithin room es < es.length → room < (es.take (entriesWithin room es + 1)).flatten.length) := by
  induction es generalizing room with
  | nil => exact ⟨le_rfl, Nat.zero_le _, fun h => absurd h (Nat.lt_irrefl _)⟩
  | cons e es ih =>
    by_cases fits : e.length ≤ room
    · obtain ⟨le, within, next⟩ := ih (room - e.length)
      rw [entriesWithin, if_pos fits]
      simp only [List.take_succ_cons, List.flatten_cons, List.length_append, List.length_cons]
      exact ⟨by omega, by omega, fun more => by have := next (by omega); omega⟩
    · rw [entriesWithin, if_neg fits]
      simp only [List.take_zero, List.flatten_nil, List.length_nil, Nat.zero_add, List.take_succ_cons, List.flatten_cons,
        List.append_nil]
      exact ⟨Nat.zero_le _, Nat.zero_le _, fun _ => by simpa using fits⟩

theorem doTagEventsFetch_within {t : Ticket} {i : Fin 32} {m : Nat} {s : State} (range : 40 ≤ m ∧ m ≤ 4096) :
    let es := (s.rslot i).entries
    let n := entriesWithin (4 * m) es
    doTagEventsFetch t i m s = (s.updSlot i fun x => { x with entries := es.drop n }).reply t stOk
      (le 2 n ++ [0, 0] ++ le 4 (es.drop n).flatten.length ++ (es.take n).flatten) := by
  intro es n
  rw [List.length_flatten]
  exact if_neg (show ¬ (m < 40 ∨ m > 4096) by omega)

theorem tagEventsFetch_reads {s : State} {h : Hdr} {ses : Session} {m : BitVec 16} (ok : Accepted s h (.tagEventsFetch m) ses) :
    let i : Fin 32 := Fin.ofNat 32 h.idx.toNat
    let es := (s.rslot i).entries
    if 40 ≤ m.toNat ∧ m.toNat ≤ 4096 then
      ∃ n, n ≤ es.length ∧ (es.take n).flatten.length ≤ 4 * m.toNat ∧
        (n < es.length → 4 * m.toNat < (es.take (n + 1)).flatten.length) ∧
        Completes (.tagEventsFetch h m) s h 0x54 stOk
          (le 2 n ++ [0, 0] ++ le 4 (es.drop n).flatten.length ++ (es.take n).flatten)
          (s.updSlot i fun x => { x with entries := es.drop n })
    else Completes (.tagEventsFetch h m) s h 0x54 eParam [] s := by
  intro i es
  have op : Cmd.opcode (.tagEventsFetch m) ≠ 0x02 := by simp [Cmd.opcode]
  split
  · next range =>
    obtain ⟨within, fits, longest⟩ := entriesWithin_longest (4 * m.toNat) es
    refine ⟨_, within, fits, longest, ?_⟩
    have there : ((s.accepted h).rslot i).entries = es := by rw [s.accepted_rslot]
    have effect : perform (s.ticket h (.tagEventsFetch m) ses) (.tagEventsFetch m) (s.accepted h) = _ :=
      doTagEventsFetch_within (t := s.ticket h (.tagEventsFetch m) ses) (i := i) (s := s.accepted h) range
    rw [there] at effect
    exact radio_taken ok op rfl uncounted_ok
      (fun r => { r with slots := bankUpd r.slots i fun x => { x with entries := es.drop (entriesWithin (4 * m.toNat) es) } }) effect
  · next out =>
    exact ok.completes_reply rfl op uncounted_param (if_pos (by omega))

/-- Settles O42: each command by the checks it passes. -/
theorem radioCommandsAct : Obligations.RadioCommandsAct := by
  unfold Obligations.RadioCommandsAct
  refine ⟨fun s h ses p ok => radioConfig_acts ok, fun s h ses p ok => tagAdmit_acts ok, fun s h ses ok => ⟨fun free => ?_, ?_⟩,
    fun s h ses p ok => tagSend_acts ok, fun s h ses m ok => tagEventsFetch_reads ok⟩
  · refine ok.completes_reply rfl (by simp [Cmd.opcode]) (by decide) (if_pos ?_)
    rw [s.accepted_rslot]
    exact free
  · exact tagExpel_frees ok

end Sys2Proof.Machine
end

section
/-! PROOFS. Beacons, channel agility and the exchange of the contention period (R397, R399, R401, R404, R409, R417). -/

namespace Sys2Proof.Machine

/-! ### The beacon of a millisecond -/

/-- The CHSW field of a beacon. -/
def chswOf (next : Option (Nat × Nat)) : Nat :=
  match next with
  | some (c, n) => if n ≤ 2 then c + n * 16 else 0
  | none => 0

/-- The bytes of Table 20-4. -/
def beaconOf (r : Radio) (netId mask chsw ms : Nat) : Bytes :=
  [0, BitVec.ofNat 8 r.bsn] ++ le 2 netId ++ [BitVec.ofNat 8 r.slotAck, BitVec.ofNat 8 chsw, BitVec.ofNat 8 r.k,
    BitVec.ofNat 8 (bitAt 0 r.admitOpen)] ++ le 4 r.pendingBits ++ le 4 (ms % 2 ^ 32) ++ le 2 mask

theorem State.beacon_eq (s : State) :
    s.beacon = beaconOf s.radio s.radio.use.netId s.radio.use.mask (chswOf s.radio.next) (s.devNs / 1000000) := rfl

/-- The beacon goes out and a superframe begins. -/
def State.beaconSent (s : State) (now d02 : Nat) : State :=
  let s3 := s.updRadio fun r =>
    { r with running := true, served := false, aborted := false, onAir := none, pendingMask := r.pendingBits, kAir := r.k }
  let s4 : State := { s3 with out := s3.out ++ [Out.radio true s3.radio.ch s3.beacon] }
  (s4.updRadio fun r => { r with bsn := (r.bsn + 1) % 256, slotAck := 0 }).updTimer 9 fun t => t.restart now d02

theorem State.beaconTick_live {s : State} (ed : Int) (live : s.radioLive = true) (begun : s.radio.startMs ≤ s.devNs / 1000000) :
    s.beaconTick ed true =
      ((s.updRadio fun r => { r with use := r.cfg }).interference ed true).beaconSent s.now s.d02 := if_pos ⟨live, begun⟩

/-! ### Interference -/

theorem State.interfEvent_onlyOwners (s : State) (old new_ count evm : Nat) :
    ∃ o, s.interfEvent old new_ count evm = { s with owners := o } := ⟨_, s.raiseAll_onlyOwners _ _ _ _⟩

theorem State.interference_switch {s : State} {c n : Nat} (next : s.radio.next = some (c, n)) (last : n ≤ 1) (ed : Int) (locked : Bool) :
    ∃ o, s.interference ed locked = { s with owners := o, radio := { s.radio with
      ch := c, next := none, interfRun := 0, runEvm := 0, switches := satInc 65535 s.radio.switches } } := by
  unfold State.interference
  dsimp only
  rw [next]
  dsimp only
  rw [if_pos last]
  exact State.interfEvent_onlyOwners _ _ _ _ _

theorem State.interference_counts {s : State} {c n : Nat} (next : s.radio.next = some (c, n)) (more : 1 < n) (ed : Int) (locked : Bool) :
    s.interference ed locked = s.updRadio fun r => { r with next := some (c, n - 1) } := by
  unfold State.interference
  dsimp only
  rw [next]
  exact if_neg (Nat.not_le.2 more)

/-- The channel was busy, or a frame of the superframe was aborted. -/
def State.interfered (s : State) (ed : Int) : Prop := s.radio.use.edDbm < ed ∨ (s.radio.running = true ∧ s.radio.aborted = true)

theorem State.interfered_iff (s : State) (ed : Int) :
    (decide (ed > s.radio.use.edDbm) || (s.radio.running && s.radio.aborted) || !true) = true ↔ s.interfered ed := by
  simp [State.interfered]

theorem State.interference_clear {s : State} {ed : Int} (next : s.radio.next = none) (clear : ¬ s.interfered ed) :
    s.interference ed true = s.updRadio fun r => { r with interfRun := 0, runEvm := 0 } := by
  unfold State.interference
  dsimp only
  rw [next]
  exact if_neg fun hit => clear ((s.interfered_iff ed).1 hit)

theorem State.interference_hit {s : State} {ed : Int} (next : s.radio.next = none) (hit : s.interfered ed) :
    ∃ o, s.interference ed true = { s with owners := o, radio := { s.radio with
        interfRun := min 255 (s.radio.interfRun + 1),
        next := if nextChannel s.radio.use.mask s.radio.ch ≠ s.radio.ch ∧ s.radio.use.interfN ≤ min 255 (s.radio.interfRun + 1) then
          some (nextChannel s.radio.use.mask s.radio.ch, 3) else none } } ∧
      (nextChannel s.radio.use.mask s.radio.ch ≠ s.radio.ch ∨ s.radio.interfRun + 1 ≠ s.radio.use.interfN → o = s.owners) := by
  unfold State.interference
  dsimp only
  rw [next]
  dsimp only
  rw [if_pos ((s.interfered_iff ed).2 hit)]
  generalize nextChannel s.radio.use.mask s.radio.ch = c
  by_cases alone : c = s.radio.ch
  · have still : ¬ (c ≠ s.radio.ch ∧ s.radio.use.interfN ≤ min 255 (s.radio.interfRun + 1)) := fun h => h.1 alone
    rw [if_pos alone, if_neg still]
    by_cases first : s.radio.interfRun + 1 = s.radio.use.interfN
    · rw [if_pos first]
      obtain ⟨o, event⟩ := (s.updRadio fun r => { r with interfRun := min 255 (s.radio.interfRun + 1) }).interfEvent_onlyOwners
        s.radio.ch s.radio.ch (min 255 (s.radio.interfRun + 1)) s.radio.runEvm
      exact ⟨o, by rw [event, ← next]; rfl, fun h => (h.elim (absurd alone) (absurd first))⟩
    · rw [if_neg first, ← next]
      exact ⟨s.owners, rfl, fun _ => rfl⟩
  · rw [if_neg alone]
    by_cases many : s.radio.use.interfN ≤ min 255 (s.radio.interfRun + 1)
    · rw [if_pos many, if_pos ⟨alone, many⟩]
      exact ⟨s.owners, rfl, fun _ => rfl⟩
    · have still : ¬ (c ≠ s.radio.ch ∧ s.radio.use.interfN ≤ min 255 (s.radio.interfRun + 1)) := fun h => many h.2
      rw [if_neg many, if_neg still, ← next]
      exact ⟨s.owners, rfl, fun _ => rfl⟩

/-! ### MS_TICK -/

theorem exec_msTick_due {s : State} (ed : Int) (runs : s.tb.running = true) (owed : s.tb.msOwed = false)
    (due : s.tb.msNext * 1000000 ≤ s.devNs) : exec (.msTick ed true) s = .next
      ((s.updTb fun t => { t with msNext := s.devNs / 1000000 + 1 }).beaconTick ed true) := by
  have row : exec (.msTick ed true) s = execMsTick ed true s := rfl
  rw [row, execMsTick, if_neg (by simp [owed]), if_pos ⟨runs, due⟩]

/-- The coordinator runs and its millisecond has come. -/
structure BeaconDue (s : State) : Prop where
  en : s.radio.cfg.en = true
  full : s.boot.dev = .full
  free : s.underTest 8 = false
  runs : s.tb.running = true
  owed : s.tb.msOwed = false
  due : s.tb.msNext * 1000000 ≤ s.devNs
  begun : s.radio.startMs ≤ s.devNs / 1000000

/-- A beacon of channel `ch` with a CHSW field goes out in the tick of a millisecond. -/
def SendsBeacon (s t : State) (ed : Int) (ch chsw : Nat) : Prop :=
  exec (.msTick ed true) s = .next t ∧
    t.out = s.out ++ [Out.radio true ch (beaconOf s.radio s.radio.cfg.netId s.radio.cfg.mask chsw (s.devNs / 1000000))] ∧
    t.radio.ch = ch ∧ t.radio.bsn = (s.radio.bsn + 1) % 256 ∧ t.radio.slotAck = 0 ∧ t.radio.running = true ∧ t.radio.served = false ∧
    t.radio.slots = s.radio.slots ∧ t.radio.pendingMask = s.radio.pendingBits ∧ t.radio.kAir = s.radio.k ∧
    t.tb.msNext = s.devNs / 1000000 + 1 ∧ t.timers.get 9 = (s.timers.get 9).restart s.now s.d02

/-- The state in which a beacon is judged: its millisecond counted, the configuration in force. -/
def State.beaconFrom (s : State) : State :=
  { s with tb := { s.tb with msNext := s.devNs / 1000000 + 1 }, radio := { s.radio with use := s.radio.cfg } }

theorem BeaconDue.exec {s : State} (ok : BeaconDue s) (ed : Int) :
    exec (.msTick ed true) s = .next ((s.beaconFrom.interference ed true).beaconSent s.now s.d02) := by
  rw [exec_msTick_due ed ok.runs ok.owed ok.due, State.beaconTick_live]
  · rfl
  · show (s.radio.cfg.en && s.boot.dev == .full && !s.underTest 8) = true
    rw [ok.en, ok.full, ok.free]
    rfl
  · exact ok.begun

/-- What the judgement leaves of the coordinator decides the beacon. -/
theorem BeaconDue.sends {s : State} (ok : BeaconDue s) {ed : Int} {o : Vector OwnerState 4} {c a b w : Nat} {n : Option (Nat × Nat)}
    (judged : s.beaconFrom.interference ed true = { s.beaconFrom with owners := o, radio := { s.radio with
      use := s.radio.cfg, ch := c, next := n, interfRun := a, runEvm := b, switches := w } }) :
    ∃ t, SendsBeacon s t ed c (chswOf n) ∧ t.radio.interfRun = a ∧ t.radio.next = n ∧ t.radio.switches = w ∧ t.owners = o := by
  refine ⟨_, ⟨ok.exec ed, ?_⟩, ?_⟩
  all_goals rw [judged]
  · exact ⟨rfl, rfl, rfl, rfl, rfl, rfl, rfl, rfl, rfl, rfl, bankUpd_get_self _ _ _⟩
  · exact ⟨rfl, rfl, rfl, rfl⟩

theorem msTick_sends {s : State} (ok : BeaconDue s) (ed : Int) :
    let r := s.radio
    let hit : Prop := r.cfg.edDbm < ed ∨ (r.running = true ∧ r.aborted = true)
    let run := min 255 (r.interfRun + 1)
    let c := nextChannel r.cfg.mask r.ch
    (r.next = none → ¬ hit → ∃ t, SendsBeacon s t ed r.ch 0 ∧ t.radio.interfRun = 0 ∧ t.radio.next = none) ∧
    (r.next = none → hit → ∃ t, SendsBeacon s t ed r.ch 0 ∧ t.radio.interfRun = run ∧ t.radio.switches = r.switches ∧
      t.radio.next = (if c ≠ r.ch ∧ r.cfg.interfN ≤ run then some (c, 3) else none) ∧
      (c ≠ r.ch ∨ r.interfRun + 1 ≠ r.cfg.interfN → t.owners = s.owners)) ∧
    (∀ c, r.next = some (c, 3) → ∃ t, SendsBeacon s t ed r.ch (c + 32) ∧ t.radio.next = some (c, 2) ∧ t.radio.interfRun = r.interfRun) ∧
    (∀ c, r.next = some (c, 2) → ∃ t, SendsBeacon s t ed r.ch (c + 16) ∧ t.radio.next = some (c, 1) ∧ t.radio.interfRun = r.interfRun) ∧
    (∀ c, r.next = some (c, 1) →
      ∃ t, SendsBeacon s t ed c 0 ∧ t.radio.next = none ∧ t.radio.interfRun = 0 ∧ t.radio.switches = satInc 65535 r.switches) := by
  intro r hit run c
  refine ⟨fun next clear => ?_, fun next hit => ?_, fun c next => ?_, fun c next => ?_, fun c next => ?_⟩
  · obtain ⟨t, sends, count, after, -⟩ := ok.sends ((State.interference_clear (s := s.beaconFrom) next clear).trans
      (congrArg (fun n => { s.beaconFrom with radio := { s.radio with use := s.radio.cfg, next := n, interfRun := 0, runEvm := 0 } }) next))
    exact ⟨t, sends, count, after⟩
  · obtain ⟨o, judged, quiet⟩ := State.interference_hit (s := s.beaconFrom) (ed := ed) next hit
    obtain ⟨t, sends, count, after, switches, owners⟩ := ok.sends judged
    have nothing : chswOf (if c ≠ r.ch ∧ r.cfg.interfN ≤ run then some (c, 3) else none) = 0 := by
      split <;> rfl
    refine ⟨t, ?_, count, switches, after, fun h => owners.trans (quiet h)⟩
    rw [← nothing]
    exact sends
  · obtain ⟨t, sends, count, after, -⟩ := ok.sends (State.interference_counts (s := s.beaconFrom) next (by decide) ed true)
    exact ⟨t, sends, after, count⟩
  · obtain ⟨t, sends, count, after, -⟩ := ok.sends (State.interference_counts (s := s.beaconFrom) next (by decide) ed true)
    exact ⟨t, sends, after, count⟩
  · obtain ⟨o, judged⟩ := State.interference_switch (s := s.beaconFrom) next (by decide) ed true
    obtain ⟨t, sends, count, after, switches, -⟩ := ok.sends judged
    exact ⟨t, sends, after, count, switches⟩

/-! ### COORD_EXCHANGE -/

/-- A frame of slot `i` goes out and waits for its acknowledgement. -/
def State.sendFrame (s : State) (i : Fin 32) (m : Bytes) (k : Exch) : State :=
  { s.updRadio (fun r => { r with onAir := some (i, k) }) with out := s.out ++ [Out.radio true s.radio.ch m] }

/-- The exchange of this superframe is slot `i`'s. -/
def State.serving (s : State) (i : Fin 32) : State := s.updRadio fun r => { r with served := true, lastServed := i.val + 1 }

/-- The frame that goes out for a slot. -/
def State.exchange (s : State) (i : Fin 32) : State :=
  let x := s.rslot i
  let s1 := s.serving i
  match x.expelTx with
  | some (long, key) =>
    let m := coordFrame 5 (i.val + 1) x.txSeq s1.radio.fc long key []
    (s1.tookFc.updSlot i fun x => { x with expelTx := none, txSeq := (x.txSeq + 1) % 256 }).sendFrame i m .expel
  | none =>
    match x.admitTx with
    | some q =>
      let r := s1.queuedFrame i 4 q
      (r.1.updSlot i fun x => { x with admitTx := some { r.2 with attempts := q.attempts + 1, lastAt := s.devNs } }).sendFrame i
        (r.2.mpdu.getD []) .admission
    | none =>
      match x.sends with
      | [] => s
      | q :: qs =>
        let r := s1.queuedFrame i 2 q
        (r.1.updSlot i fun x =>
          { x with sends := { r.2 with attempts := q.attempts + 1, lastAt := s.devNs } :: qs }).sendFrame i (r.2.mpdu.getD []) .data

theorem exec_coordExchange {s : State} {i : Fin 32} (live : s.radioLive = true) (running : s.radio.running = true)
    (waits : s.radio.served = false) (serves : s.radio.toServe = some i) : exec .coordExchange s = .next (s.exchange i) := by
  have row : exec .coordExchange s = execCoordExchange s := rfl
  rw [row, execCoordExchange, if_pos ⟨live, running, by simp [waits]⟩, serves]
  rfl

theorem State.tookFc_frame (s : State) :
    ∃ st, s.tookFc = { s with store := st, radio := { s.radio with fc := (s.radio.fc + 1) % 2 ^ 32 } } := by
  unfold State.tookFc
  extract_lets s1
  split
  · exact ⟨_, rfl⟩
  · exact ⟨s.store, rfl⟩

theorem State.updSlot_congr (s : State) (i : Fin 32) {f g : RSlot → RSlot} (same : f (s.rslot i) = g (s.rslot i)) :
    s.updSlot i f = s.updSlot i g :=
  congrArg (fun x => s.updRadio fun r => { r with slots := r.slots.set i.val x i.isLt }) same

/-- A queued frame has its bytes from its first attempt on; building them takes a frame counter and a SEQ. -/
theorem State.queuedFrame_frame (s : State) (i : Fin 32) (ftype : Nat) (q : SendQ) :
    ∃ st k q', s.queuedFrame i ftype q = (({ s with store := st, radio := { s.radio with
        fc := if q.mpdu = none then (s.radio.fc + 1) % 2 ^ 32 else s.radio.fc } } : State).updSlot i fun x => { x with txSeq := k }, q') ∧
      q'.mpdu = some (q.mpdu.getD (coordFrame ftype (i.val + 1) (s.rslot i).txSeq s.radio.fc (s.rslot i).long (s.rslot i).key
        q.payload)) := by
  cases built : q.mpdu with
  | some m =>
    refine ⟨s.store, (s.rslot i).txSeq, q, ?_, built⟩
    rw [State.queuedFrame, built, if_neg (by simp)]
    refine Prod.ext (Eq.symm ?_) rfl
    exact s.updSlot_of_same i _ rfl
  | none =>
    obtain ⟨st, took⟩ := s.tookFc_frame
    refine ⟨st, ((s.rslot i).txSeq + 1) % 256, { q with
      mpdu := some (coordFrame ftype (i.val + 1) (s.rslot i).txSeq s.radio.fc (s.rslot i).long (s.rslot i).key q.payload),
      seq := (s.rslot i).txSeq }, ?_, rfl⟩
    rw [State.queuedFrame, built, if_pos rfl, took]
    exact Prod.ext (State.updSlot_congr _ i rfl) rfl

/-- The exchange of slot `i` goes out with the bytes `m`. -/
def Goes (s t : State) (i : Fin 32) (k : Exch) (m : Bytes) : Prop :=
  exec .coordExchange s = .next t ∧ t.out = s.out ++ [Out.radio true s.radio.ch m] ∧ t.radio.onAir = some (i, k) ∧
    t.radio.served = true ∧ t.radio.lastServed = i.val + 1 ∧ (∀ n, n ≠ i → t.rslot n = s.rslot n) ∧ t.leases = s.leases ∧ t.tag = s.tag

theorem Goes.of_exchange {s : State} {i : Fin 32} {k : Exch} {m : Bytes} {st : ConfigStore} {n : Nat} {f : RSlot → RSlot}
    (row : exec .coordExchange s = .next (s.exchange i))
    (made : s.exchange i = (({ s with store := st, radio := { s.radio with served := true, lastServed := i.val + 1, fc := n } } :
      State).updSlot i f).sendFrame i m k) :
    ∃ t, Goes s t i k m ∧ t.rslot i = f (s.rslot i) ∧ t.radio.fc = n := by
  refine ⟨_, ⟨row.trans (congrArg _ made), rfl, rfl, rfl, rfl, fun n other => ?_, rfl, rfl⟩, ?_, rfl⟩
  · exact State.rslot_updSlot_ne _ _ other
  · exact State.rslot_updSlot_self _ _ _

theorem coordExchange_goes {s : State} {i : Fin 32} (live : s.radioLive = true) (running : s.radio.running = true)
    (waits : s.radio.served = false) (serves : s.radio.toServe = some i) :
    let x := s.rslot i
    let fc := s.radio.fc
    (∀ long key, x.expelTx = some (long, key) →
      ∃ t, Goes s t i .expel (coordFrame 5 (i.val + 1) x.txSeq fc long key []) ∧ (t.rslot i).expelTx = none ∧
        t.radio.fc = (fc + 1) % 2 ^ 32) ∧
    (∀ q, x.expelTx = none → x.admitTx = some q →
      let m := q.mpdu.getD (coordFrame 4 (i.val + 1) x.txSeq fc x.long x.key q.payload)
      ∃ t q', Goes s t i .admission m ∧ (t.rslot i).admitTx = some q' ∧ q'.mpdu = some m ∧ q'.attempts = q.attempts + 1 ∧
        t.radio.fc = (if q.mpdu = none then (fc + 1) % 2 ^ 32 else fc)) ∧
    (∀ q qs, x.expelTx = none → x.admitTx = none → x.sends = q :: qs →
      let m := q.mpdu.getD (coordFrame 2 (i.val + 1) x.txSeq fc x.long x.key q.payload)
      ∃ t q', Goes s t i .data m ∧ (t.rslot i).sends = q' :: qs ∧ q'.mpdu = some m ∧ q'.attempts = q.attempts + 1 ∧
        q'.lastAt = s.devNs ∧ t.radio.fc = (if q.mpdu = none then (fc + 1) % 2 ^ 32 else fc)) := by
  intro x fc
  have row := exec_coordExchange live running waits serves
  refine ⟨fun long key expel => ?_, fun q stays owed => ?_, fun q qs stays admitted sends => ?_⟩
  · obtain ⟨st, took⟩ := (s.serving i).tookFc_frame
    obtain ⟨t, goes, slot, fc⟩ := Goes.of_exchange (m := coordFrame 5 (i.val + 1) x.txSeq fc long key []) (k := .expel) (st := st)
      (n := (fc + 1) % 2 ^ 32) (f := fun x => { x with expelTx := none, txSeq := (x.txSeq + 1) % 256 }) row (by
        rw [State.exchange, show (s.rslot i).expelTx = _ from expel]
        dsimp only
        rw [took]
        rfl)
    exact ⟨t, goes, by rw [slot], fc⟩
  · intro m
    obtain ⟨st, k, q', built, bytes⟩ := (s.serving i).queuedFrame_frame i 4 q
    obtain ⟨t, goes, slot, fc⟩ := Goes.of_exchange (m := m) (k := .admission) (st := st)
      (n := if q.mpdu = none then (fc + 1) % 2 ^ 32 else fc)
      (f := fun x => { x with txSeq := k, admitTx := some { q' with attempts := q.attempts + 1, lastAt := s.devNs } }) row (by
        rw [State.exchange, show (s.rslot i).expelTx = _ from stays, show (s.rslot i).admitTx = _ from owed]
        dsimp only
        rw [built]
        dsimp only
        rw [bytes, State.updSlot_updSlot]
        rfl)
    exact ⟨t, { q' with attempts := q.attempts + 1, lastAt := s.devNs }, goes, by rw [slot], bytes, rfl, fc⟩
  · intro m
    obtain ⟨st, k, q', built, bytes⟩ := (s.serving i).queuedFrame_frame i 2 q
    obtain ⟨t, goes, slot, fc⟩ := Goes.of_exchange (m := m) (k := .data) (st := st)
      (n := if q.mpdu = none then (fc + 1) % 2 ^ 32 else fc)
      (f := fun x => { x with txSeq := k, sends := { q' with attempts := q.attempts + 1, lastAt := s.devNs } :: qs }) row (by
        rw [State.exchange, show (s.rslot i).expelTx = _ from stays, show (s.rslot i).admitTx = _ from admitted,
          show (s.rslot i).sends = _ from sends]
        dsimp only
        rw [built]
        dsimp only
        rw [bytes, State.updSlot_updSlot]
        rfl)
    exact ⟨t, { q' with attempts := q.attempts + 1, lastAt := s.devNs }, goes, by rw [slot], bytes, rfl, rfl, fc⟩

end Sys2Proof.Machine
end

section
/-! PROOFS. Acknowledgements of the coordinator's frames, and frames without one (R401, R404, R412). -/

namespace Sys2Proof.Machine

/-! ### Frames that no longer fit -/

/-- K depends on the states and the guaranteed slots alone. -/
theorem Radio.k_congr {r q : Radio} (same : ∀ i, (r.slots.get i).st = (q.slots.get i).st ∧ (r.slots.get i).gslot = (q.slots.get i).gslot) :
    r.k = q.k := by
  unfold Radio.k bankList
  rw [List.foldl_map, List.foldl_map]
  congr 1
  funext k i
  obtain ⟨st, gslot⟩ := same i
  simp only [st, gslot]

/-- One slot's frames beyond a limit are reported and dropped. -/
def misfits (lim : Nat) (s : State) (i : Fin 32) : State :=
  let bad := (s.rslot i).sends.filter fun q => decide (lim < q.payload.length)
  let s1 := bad.foldl (fun s q => (s.report i q 3).updRadio fun r => { r with txDrop := satInc 65535 r.txDrop }) s
  s1.updSlot i fun x => { x with sends := x.sends.filter fun q => decide (q.payload.length ≤ lim) }

/-- A slot's frames within a limit. -/
def RSlot.fitting (lim : Nat) (x : RSlot) : List SendQ := x.sends.filter fun q => decide (q.payload.length ≤ lim)

theorem foldl_misfit (i : Fin 32) (l : List SendQ) (s : State) : ∃ c e d,
    l.foldl (fun s q => (s.report i q 3).updRadio fun r => { r with txDrop := satInc 65535 r.txDrop }) s =
      (s.updRadio fun r => { r with txDrop := c }).updSlot i (fun x => { x with entries := e, discarded := d }) := by
  induction l generalizing s with
  | nil => exact ⟨s.radio.txDrop, _, _, (State.updSlot_of_same s i (fun x => { x with entries := (s.rslot i).entries, discarded := (s.rslot i).discarded }) rfl).symm⟩
  | cons q l ih =>
    obtain ⟨c, e, d, rest⟩ := ih ((s.report i q 3).updRadio fun r => { r with txDrop := satInc 65535 r.txDrop })
    refine ⟨c, e, d, ?_⟩
    rw [List.foldl_cons, rest, s.report_eq]
    obtain ⟨e', d', one⟩ := (s.rslot i).enter_frame (s.slotHeld i) (reportOf 3 q)
    rw [s.updSlot_congr i (g := fun x => { x with entries := e', discarded := d' }) one]
    exact State.updSlot_updSlot (s.updRadio fun r => { r with txDrop := c }) i (fun x => { x with entries := e', discarded := d' })
      (fun x => { x with entries := e, discarded := d })

theorem misfits_frame (lim : Nat) (s : State) (i : Fin 32) : ∃ c f,
    misfits lim s i = (s.updRadio fun r => { r with txDrop := c }).updSlot i f ∧
      ∃ e d, f (s.rslot i) = { s.rslot i with sends := (s.rslot i).fitting lim, entries := e, discarded := d } := by
  unfold misfits
  extract_lets bad s1
  obtain ⟨c, e, d, told⟩ := foldl_misfit i bad s
  refine ⟨c, (fun x => { x with sends := x.fitting lim }) ∘ fun x => { x with entries := e, discarded := d }, ?_, e, d, rfl⟩
  show State.updSlot (bad.foldl _ s) i _ = _
  rw [told, State.updSlot_updSlot]
  rfl

theorem misfits_fit {lim : Nat} {s : State} {i : Fin 32} (fit : ∀ q ∈ (s.rslot i).sends, q.payload.length ≤ lim) : misfits lim s i = s := by
  have nothing : (s.rslot i).sends.filter (fun q => decide (lim < q.payload.length)) = [] :=
    List.filter_eq_nil_iff.2 fun q mem => by simpa using fit q mem
  unfold misfits
  rw [nothing]
  refine s.updSlot_of_same i _ ?_
  rw [List.filter_eq_self.2 fun q mem => by simpa using fit q mem]

/-- A slot after its misfits were dropped. -/
structure Fitted (lim : Nat) (x y : RSlot) : Prop where
  st : y.st = x.st
  gslot : y.gslot = x.gslot
  seq : y.seq = x.seq
  admitTx : y.admitTx = x.admitTx
  heardAt : y.heardAt = x.heardAt
  sends : ∀ m ∈ y.sends, m.payload.length ≤ lim
  same : (∀ m ∈ x.sends, m.payload.length ≤ lim) → y = x

theorem misfits_own (lim : Nat) (s : State) (i : Fin 32) : Fitted lim (s.rslot i) ((misfits lim s i).rslot i) := by
  obtain ⟨c, f, frame, e, d, made⟩ := misfits_frame lim s i
  have own : (misfits lim s i).rslot i = { s.rslot i with sends := (s.rslot i).fitting lim, entries := e, discarded := d } := by
    rw [frame, State.rslot_updSlot_self]
    exact made
  refine ⟨?_, ?_, ?_, ?_, ?_, fun m mem => ?_, fun fit => by rw [misfits_fit fit]⟩
  all_goals rw [own] at *
  exact of_decide_eq_true (List.mem_filter.1 mem).2

theorem misfits_other (lim : Nat) (s : State) (k i : Fin 32) (other : i ≠ k) : (misfits lim s k).rslot i = s.rslot i := by
  obtain ⟨c, f, frame, -⟩ := misfits_frame lim s k
  rw [frame, State.rslot_updSlot_ne _ _ other]
  exact State.updRadio_rslot _ _ rfl i

theorem misfits_k (lim : Nat) (s : State) (i : Fin 32) : (misfits lim s i).radio.k = s.radio.k := by
  refine Radio.k_congr fun k => ?_
  show ((misfits lim s i).rslot k).st = (s.rslot k).st ∧ ((misfits lim s i).rslot k).gslot = (s.rslot k).gslot
  by_cases here : k = i
  · rw [here]
    exact ⟨(misfits_own lim s i).st, (misfits_own lim s i).gslot⟩
  · rw [misfits_other lim s i k here]
    exact ⟨rfl, rfl⟩

theorem State.dropMisfits_eq (s : State) : s.dropMisfits = forAll s (misfits (sendLimit s.radio.k)) := by
  have walk (l : List (Fin 32)) (u : State) (k : Nat) (same : u.radio.k = k) :
      l.foldl (fun s i => misfits (sendLimit s.radio.k) s i) u = l.foldl (misfits (sendLimit k)) u := by
    induction l generalizing u with
    | nil => rfl
    | cons i l ih =>
      rw [List.foldl_cons, List.foldl_cons, same]
      exact ih _ ((misfits_k _ u i).trans same)
  exact walk _ s _ rfl

theorem State.dropMisfits_slot (s : State) (i : Fin 32) : Fitted (sendLimit s.radio.k) (s.rslot i) (s.dropMisfits.rslot i) := by
  rw [s.dropMisfits_eq]
  exact forAll_entry (f := misfits (sendLimit s.radio.k)) State.rslot (fun u k g other => misfits_other _ u k g other)
    (fun u k => misfits_own _ u k) s i

theorem State.dropMisfits_k (s : State) : s.dropMisfits.radio.k = s.radio.k :=
  Radio.k_congr fun i => ⟨(s.dropMisfits_slot i).st, (s.dropMisfits_slot i).gslot⟩

theorem State.dropMisfits_onAir (s : State) : s.dropMisfits.radio.onAir = s.radio.onAir := by
  rw [s.dropMisfits_eq]
  refine forAll_keeps (P := fun t => t.radio.onAir = s.radio.onAir) (fun t i same => ?_) s rfl
  obtain ⟨c, f, frame, -⟩ := misfits_frame (sendLimit s.radio.k) t i
  rw [frame]
  exact same

/-! ### An acknowledgement -/

/-- One more frame is counted received. -/
def State.counted (s : State) : State := s.updRadio fun r => { r with rxOk := satInc 65535 r.rxOk }

/-- The frame on air is over, its receiver heard. -/
def State.ackHeard (s : State) (i : Fin 32) : State := (s.counted.updRadio fun r => { r with onAir := none }).heard i

theorem State.ackHeard_slot (s : State) (i : Fin 32) : (s.ackHeard i).rslot i = { s.rslot i with heardAt := s.now } :=
  State.rslot_updSlot_self _ _ _

theorem State.ackHeard_other (s : State) {i k : Fin 32} (other : k ≠ i) : (s.ackHeard i).rslot k = s.rslot k :=
  State.rslot_updSlot_ne _ _ other

theorem State.ackHeard_leases (s : State) (i : Fin 32) : (s.ackHeard i).leases = s.leases := rfl
theorem State.ackHeard_onAir (s : State) (i : Fin 32) : (s.ackHeard i).radio.onAir = none := rfl
theorem State.ackHeard_rxOk (s : State) (i : Fin 32) : (s.ackHeard i).radio.rxOk = satInc 65535 s.radio.rxOk := rfl

theorem exec_ack {s : State} (n : Byte) (live : s.radioLive = true ∧ s.radio.running = true) : exec (.ack true n) s = .next
    (match s.radio.onAir with
    | none => s.counted
    | some (i, k) =>
      match k, (s.rslot i).awaitedSeq k with
      | _, none => s.ackHeard i
      | .expel, some _ => s.ackHeard i
      | .admission, some m =>
        if m = n.toNat then
          (((s.ackHeard i).updSlot i fun x =>
            { x with st := .admitted, admitTx := none, timeoutAt := none, seq := none }).dropMisfits).admitEvent i 0
        else s.counted
      | .data, some m =>
        if m = n.toNat then
          match (s.rslot i).sends with
          | q :: qs => ((s.ackHeard i).updSlot i fun x => { x with sends := qs }).report i q 0
          | [] => s.ackHeard i
        else s.counted) := by
  have row : exec (.ack true n) s = .next (s.coordAck n.toNat) := rfl
  rw [row, State.coordAck, if_pos live]
  rfl

theorem ack_admits {s : State} {i : Fin 32} {q : SendQ} (live : s.radioLive = true ∧ s.radio.running = true)
    (air : s.radio.onAir = some (i, .admission)) (owed : (s.rslot i).admitTx = some q) (tried : 0 < q.attempts) (byte : q.seq < 256) :
    ∃ t, exec (.ack true (BitVec.ofNat 8 q.seq)) s = .next t ∧ t.radio.onAir = none ∧ (t.rslot i).st = .admitted ∧
      (t.rslot i).seq = none ∧ (t.rslot i).admitTx = none ∧ (t.rslot i).heardAt = s.now ∧
      ∀ n, (∀ m ∈ (t.rslot n).sends, m.payload.length ≤ sendLimit t.radio.k) ∧
        (n ≠ i → (∀ m ∈ (s.rslot n).sends, m.payload.length ≤ sendLimit t.radio.k) → t.rslot n = s.rslot n) := by
  have seq : (BitVec.ofNat 8 q.seq).toNat = q.seq := by rw [BitVec.toNat_ofNat]; exact Nat.mod_eq_of_lt byte
  have awaited : (s.rslot i).awaitedSeq .admission = some q.seq := by
    rw [RSlot.awaitedSeq, owed]
    exact if_neg (by omega)
  let u := (s.ackHeard i).updSlot i fun x => { x with st := .admitted, admitTx := none, timeoutAt := none, seq := none }
  have row : exec (.ack true (BitVec.ofNat 8 q.seq)) s = .next (u.dropMisfits.admitEvent i 0) := by
    rw [exec_ack _ live, air]
    dsimp only
    rw [awaited]
    exact congrArg _ (if_pos seq.symm)
  have own : u.rslot i = { s.rslot i with st := .admitted, admitTx := none, timeoutAt := none, seq := none, heardAt := s.now } := by
    rw [State.rslot_updSlot_self, State.ackHeard, State.heard, State.rslot_updSlot_self]
    rfl
  have other (n : Fin 32) (apart : n ≠ i) : u.rslot n = s.rslot n := by
    rw [State.rslot_updSlot_ne _ _ apart, State.ackHeard, State.heard, State.rslot_updSlot_ne _ _ apart]
    rfl
  have air_ : u.radio.onAir = none := rfl
  clear_value u
  have slot := u.dropMisfits_slot
  have limit := congrArg sendLimit u.dropMisfits_k
  have still := u.dropMisfits_onAir.trans air_
  generalize u.dropMisfits = v at row slot limit still
  obtain ⟨o, event⟩ := v.admitEvent_onlyOwners i 0
  rw [event] at row
  have fits := slot i
  rw [own] at fits
  refine ⟨_, row, still, fits.st, fits.seq, fits.admitTx, fits.heardAt, fun n => ?_⟩
  change (∀ m ∈ (v.rslot n).sends, m.payload.length ≤ sendLimit v.radio.k) ∧
    (n ≠ i → (∀ m ∈ (s.rslot n).sends, m.payload.length ≤ sendLimit v.radio.k) → v.rslot n = s.rslot n)
  rw [limit]
  refine ⟨(slot n).sends, fun apart fit => ?_⟩
  have same := (slot n).same
  rw [other n apart] at same
  exact same fit

theorem ack_data {s : State} {i : Fin 32} {q : SendQ} {qs : List SendQ} (n : Byte) (live : s.radioLive = true ∧ s.radio.running = true)
    (air : s.radio.onAir = some (i, .data)) (waits : (s.rslot i).sends = q :: qs) : exec (.ack true n) s = .next (if q.seq = n.toNat then
      ((s.ackHeard i).updSlot i fun x => { x with sends := qs }).report i q 0 else s.counted) := by
  have awaited : (s.rslot i).awaitedSeq .data = some q.seq := by
    rw [RSlot.awaitedSeq, waits]
    rfl
  rw [exec_ack _ live, air]
  dsimp only
  rw [awaited, waits]

/-- A slot whose frame is over reports it. -/
theorem State.report_slot (s : State) (i : Fin 32) (q : SendQ) (n : Nat) (held : s.slotHeld i = true)
    (room : (s.rslot i).used + 16 ≤ 4096) : ((s.report i q n).rslot i).entries = (s.rslot i).entries ++ [reportOf n q] := by
  rw [s.report_eq, State.rslot_updSlot_self]
  exact RSlot.enter_room (by rw [length_reportOf]; exact room) held

theorem State.report_sends (s : State) (i : Fin 32) (q : SendQ) (n : Nat) : ((s.report i q n).rslot i).sends = (s.rslot i).sends := by
  rw [s.report_eq, State.rslot_updSlot_self]
  obtain ⟨e, d, frame⟩ := (s.rslot i).enter_frame (s.slotHeld i) (reportOf n q)
  rw [frame]

theorem State.report_other (s : State) {i k : Fin 32} (q : SendQ) (n : Nat) (other : k ≠ i) : (s.report i q n).rslot k = s.rslot k := by
  rw [s.report_eq]
  exact s.rslot_updSlot_ne _ other

theorem State.report_onAir (s : State) (i : Fin 32) (q : SendQ) (n : Nat) : (s.report i q n).radio.onAir = s.radio.onAir := by
  rw [s.report_eq]
  rfl

theorem ack_ends_data {s : State} {i : Fin 32} {q : SendQ} {qs : List SendQ} (n : Byte) (live : s.radioLive = true ∧ s.radio.running = true)
    (air : s.radio.onAir = some (i, .data)) (waits : (s.rslot i).sends = q :: qs) :
    ∃ t, exec (.ack true n) s = .next t ∧ t.radio.rxOk = satInc 65535 s.radio.rxOk ∧
      (q.seq = n.toNat → (t.radio.onAir = none ∧ ∀ k, k ≠ i → t.rslot k = s.rslot k) ∧ (t.rslot i).sends = qs ∧
        (s.holder 5 i.val ≠ 0 ∧ (s.rslot i).used + 16 ≤ 4096 → (t.rslot i).entries = (s.rslot i).entries ++ [reportOf 0 q])) ∧
      (q.seq ≠ n.toNat → t = s.counted) := by
  have row := ack_data n live air waits
  by_cases its : q.seq = n.toNat
  · rw [if_pos its] at row
    have heard := s.ackHeard_slot i
    have others (k : Fin 32) (other : k ≠ i) := s.ackHeard_other other
    have leases := s.ackHeard_leases i
    have done_ := s.ackHeard_onAir i
    have count := s.ackHeard_rxOk i
    generalize s.ackHeard i = v at row heard others leases done_ count
    have own := v.rslot_updSlot_self i fun x => { x with sends := qs }
    rw [heard] at own
    refine ⟨_, row, ?_, fun _ => ⟨⟨?_, fun k other => ?_⟩, ?_, fun holds => ?_⟩, fun h => absurd its h⟩
    · rw [State.report_eq]
      exact count
    · rw [State.report_onAir]
      exact done_
    · exact (State.report_other _ q 0 other).trans ((v.rslot_updSlot_ne _ other).trans (others k other))
    · rw [State.report_sends, own]
    · rw [State.report_slot, own]
      · exact (State.slotHeld_of_leases leases i).trans ((s.slotHeld_iff i).2 holds.1)
      · rw [own]
        exact holds.2
  · rw [if_neg its] at row
    exact ⟨_, row, rfl, fun h => absurd h its, fun _ => rfl⟩

/-! ### No acknowledgement -/

/-- The frame on air is over without an acknowledgement. -/
def State.unanswered (s : State) : State := s.updRadio fun r => { r with onAir := none, noAck := satInc 65535 r.noAck }

theorem coordAckTimeout_admission {s : State} {i : Fin 32} {q : SendQ} (air : s.radio.onAir = some (i, .admission))
    (owed : (s.rslot i).admitTx = some q) : ∃ t, exec .coordAckTimeout s = .next t ∧
      (t.radio.onAir = none ∧ ∀ k, k ≠ i → t.rslot k = s.rslot k) ∧ t.radio.noAck = satInc 65535 s.radio.noAck ∧
      (if 4 ≤ q.attempts then (t.rslot i).st = .free ∧ (t.rslot i).admitTx = none else t.rslot i = s.rslot i) := by
  have row : exec .coordAckTimeout s = .next (if q.attempts ≥ 4 then
      ((s.unanswered.dropSends i 3).admitEvent i 1).updSlot i RSlot.freed else s.unanswered) := by
    have row : exec .coordAckTimeout s = execCoordAckTimeout s := rfl
    rw [row, execCoordAckTimeout, air]
    dsimp only
    rw [owed]
    rfl
  by_cases last : 4 ≤ q.attempts
  · rw [if_pos last] at row
    obtain ⟨f, drops, -⟩ := s.unanswered.dropSends_eq i 3
    obtain ⟨o, event⟩ := (s.unanswered.dropSends i 3).admitEvent_onlyOwners i 1
    rw [event, drops] at row
    refine ⟨_, row, ⟨rfl, fun k other => ?_⟩, rfl, ?_⟩
    · refine (State.rslot_updSlot_ne _ _ other).trans ?_
      exact s.unanswered.rslot_updSlot_ne _ other
    · rw [if_pos last, State.rslot_updSlot_self]
      exact ⟨rfl, rfl⟩
  · rw [if_neg last] at row
    exact ⟨_, row, ⟨rfl, fun _ _ => rfl⟩, rfl, by rw [if_neg last]; rfl⟩

theorem coordAckTimeout_data {s : State} {i : Fin 32} {q : SendQ} {qs : List SendQ} (air : s.radio.onAir = some (i, .data))
    (waits : (s.rslot i).sends = q :: qs) : ∃ t, exec .coordAckTimeout s = .next t ∧
      (t.radio.onAir = none ∧ ∀ k, k ≠ i → t.rslot k = s.rslot k) ∧ t.radio.noAck = satInc 65535 s.radio.noAck ∧
      (if 4 ≤ q.attempts then (t.rslot i).sends = qs ∧ (s.holder 5 i.val ≠ 0 ∧ (s.rslot i).used + 16 ≤ 4096 →
        (t.rslot i).entries = (s.rslot i).entries ++ [reportOf 1 q]) else t.rslot i = s.rslot i) := by
  have row : exec .coordAckTimeout s = .next (if q.attempts ≥ 4 then
      (s.unanswered.updSlot i fun x => { x with sends := qs }).report i q 1 else s.unanswered) := by
    have row : exec .coordAckTimeout s = execCoordAckTimeout s := rfl
    rw [row, execCoordAckTimeout, air]
    dsimp only
    rw [waits]
    rfl
  by_cases last : 4 ≤ q.attempts
  · rw [if_pos last] at row
    let u := s.unanswered.updSlot i fun x => { x with sends := qs }
    have own : u.rslot i = { s.rslot i with sends := qs } := s.unanswered.rslot_updSlot_self i _
    have count : (u.report i q 1).radio.noAck = satInc 65535 s.radio.noAck := by
      rw [State.report_eq]
      rfl
    refine ⟨_, row, ⟨u.report_onAir i q 1, fun k other => ?_⟩, count, ?_⟩
    · exact (u.report_other q 1 other).trans (s.unanswered.rslot_updSlot_ne _ other)
    · rw [if_pos last]
      refine ⟨(u.report_sends i q 1).trans (by rw [own]), fun holds => ?_⟩
      have told := u.report_slot i q 1 ((State.slotHeld_of_leases rfl i).trans ((s.slotHeld_iff i).2 holds.1)) (by rw [own]; exact holds.2)
      rw [own] at told
      exact told
  · rw [if_neg last] at row
    exact ⟨_, row, ⟨rfl, fun _ _ => rfl⟩, rfl, by rw [if_neg last]; rfl⟩

/-- Settles O43: the beacon of a millisecond, the exchange, and how a frame ends. -/
theorem beaconsAct : Obligations.BeaconsAct := by
  unfold Obligations.BeaconsAct
  refine ⟨fun s ed en full free runs owed due begun => msTick_sends ⟨en, full, free, runs, owed, due, begun⟩ ed,
    fun s ed locked owed early => ?_, fun s evm => rfl, fun s i live running waits serves => coordExchange_goes live running waits serves,
    fun s i q => ⟨fun live air owed tried byte => ack_admits live air owed tried byte, fun air owed => coordAckTimeout_admission air owed,
      fun qs n live air waits => ack_ends_data n live air waits, fun n live air => ?_, fun qs air waits => coordAckTimeout_data air waits⟩⟩
  · have row : exec (.msTick ed locked) s = execMsTick ed locked s := rfl
    rw [row, execMsTick, if_neg (by simp [owed]), if_neg fun h => absurd h.2 (Nat.not_le.2 early)]
  · rw [exec_ack n live, air]
    rfl

end Sys2Proof.Machine
end

section
/-! PROOFS. Frames that the coordinator receives, and slots whose time runs out (R396, R400, R403, R405 to R407, R410, R411). -/

namespace Sys2Proof.Machine

/-! ### A frame received -/

theorem radioRx_spoilt {s : State} {rx : RadioRx} (bad : rx.crcOk = false) (ftype : Bool) (f : State → State) : s.radioRx rx ftype f =
    if s.radioLive = true ∧ s.radio.running = true then s.updRadio fun r => { r with crcErr := satInc 65535 r.crcErr } else s := by
  unfold State.radioRx
  rw [if_pos (show ¬ rx.crcOk = true ∨ _ from .inl (by simp [bad]))]

theorem radioRx_sound {s : State} {rx : RadioRx} {ftype : Bool} (live : s.radioLive = true) (running : s.radio.running = true)
    (good : rx.crcOk = true) (known : ¬ (ftype = true ∧ 6 ≤ (rx.mpdu.getD 0 0).toNat % 16)) (f : State → State) :
    s.radioRx rx ftype f = f s.counted := by
  unfold State.radioRx
  rw [if_pos ⟨live, running⟩, if_neg (by simpa [good] using known)]
  rfl

/-- The first place with a property is the only one. -/
theorem find?_finRange_unique {n : Nat} {p : Fin n → Bool} {i : Fin n} (only : ∀ k, p k = true ↔ k = i) : (List.finRange n).find? p = some i := by
  cases found : (List.finRange n).find? p with
  | none => exact absurd ((only i).2 rfl) (List.find?_eq_none.1 found i (List.mem_finRange i))
  | some k => rw [(only k).1 (List.find?_some found)]

/-- A frame of a slot's tag passed its CRC. -/
def State.heardAs (s : State) (i : Fin 32) (lqi : Nat) : State := (s.heard i).updSlot i fun x => { x with lqi := lqi }

theorem State.heardAs_slot (s : State) (i : Fin 32) (lqi : Nat) : (s.heardAs i lqi).rslot i = { s.rslot i with heardAt := s.now, lqi := lqi } := by
  rw [State.heardAs, State.rslot_updSlot_self, State.heard, State.rslot_updSlot_self]

theorem State.heardAs_other (s : State) {i k : Fin 32} (lqi : Nat) (other : k ≠ i) : (s.heardAs i lqi).rslot k = s.rslot k :=
  (State.rslot_updSlot_ne _ _ other).trans (State.rslot_updSlot_ne _ _ other)

/-- Nothing but the slots differs from the state before. -/
theorem State.heardAs_frame (s : State) (i : Fin 32) (lqi : Nat) :
    ∃ v, s.heardAs i lqi = { s with radio := { s.radio with slots := v } } := ⟨_, rfl⟩

/-! ### Slot events -/

theorem State.raiseTo_frame (s : State) (c k i : Nat) (b : Bytes) (n : Nat) : ∃ o, s.raiseTo c k i b n = { s with owners := o } := by
  unfold State.raiseTo
  split
  · exact ⟨_, rfl⟩
  · exact ⟨_, rfl⟩

theorem State.raiseTo_owner (s : State) (c k i : Nat) (b : Bytes) (p : Port) :
    (s.raiseTo c k i b (Port.id p)).owner p = s.takes c k i b p (s.owner p) := by
  have named : 0 < Port.id p ∧ Port.id p ≤ 4 := ⟨Nat.succ_pos _, p.isLt⟩
  unfold State.raiseTo
  rw [dif_pos named]
  exact bankUpd_get_self _ _ _

/-- What a slot event brings beside its entry: the slot heard, its bit owed to the next beacon. -/
def State.slotHeard (s : State) (i : Fin 32) (slot : Fin 8) (lqi : Nat) : State :=
  (s.counted.heardAs i lqi).updRadio fun r => { r with slotAck := Nat.lor r.slotAck (2 ^ slot.val) }

/-- The event that a new slot event raises. -/
def slotEventBody (i : Fin 32) (lqi : Nat) (m : Bytes) : Bytes :=
  [BitVec.ofNat 8 (i.val + 1), BitVec.ofNat 8 ((m.getD 0 0).toNat % 4 + 1), m.getD 1 0, BitVec.ofNat 8 lqi]
    ++ le 4 (at_ m 2 2) ++ le 4 ((m.getD 0 0).toNat / 4 * 64)

theorem slotEventBody_eq (i : Fin 32) (lqi : Nat) (m : Bytes) : slotEventBody i lqi m =
    [BitVec.ofNat 8 (i.val + 1), BitVec.ofNat 8 ((m.getD 0 0).toNat % 4 + 1), BitVec.ofNat 8 (m.getD 1 0).toNat, BitVec.ofNat 8 lqi]
      ++ le 4 (at_ m 2 2) ++ le 4 ((m.getD 0 0).toNat / 4 * 64) := by
  rw [BitVec.ofNat_toNat, BitVec.setWidth_eq]
  rfl

theorem exec_slotEvent {s : State} {slot : Fin 8} {rx : RadioRx} {i : Fin 32} (live : s.radioLive = true) (running : s.radio.running = true)
    (good : rx.crcOk = true) (size : rx.mpdu.length = 4)
    (only : ∀ k, ((s.rslot k).st = .admitted ∧ (s.rslot k).gslot = some slot) ↔ k = i) :
    let lqi := lqiOf rx.evm
    let seq := (rx.mpdu.getD 1 0).toNat
    let s1 := s.slotHeard i slot lqi
    exec (.slotEvent slot rx) s = .next (if (s.rslot i).seq = some seq then s1.replayed
      else ((s1.updSlot i fun x => { x with seq := some seq, events := satInc 65535 x.events }).raiseTo 0x0C 5 i.val
        (slotEventBody i lqi rx.mpdu) (s.holder 5 i.val)).addEntry i (queueEntry 1 lqi seq s.devNs rx.mpdu [])) := by
  intro lqi seq s1
  have row : exec (.slotEvent slot rx) s = execSlotEvent slot rx s := rfl
  have found : (List.finRange 32).find? (fun i => (s.counted.rslot i).st == .admitted && (s.counted.rslot i).gslot == some slot) = some i :=
    find?_finRange_unique fun k => by
      rw [Bool.and_eq_true, beq_iff_eq, beq_iff_eq]
      exact only k
  rw [row, execSlotEvent, radioRx_sound live running good (by simp)]
  dsimp only
  rw [found]
  dsimp only
  rw [if_neg (not_not.2 size), slotEventBody_eq]
  rfl

/-- An event that is raised and then queued for its slot. -/
theorem State.raisedEntry_eq (w : State) (c k n : Nat) (b : Bytes) (p : Nat) (i : Fin 32) (e : Bytes) :
    (w.raiseTo c k n b p).addEntry i e =
      { w.updSlot i (RSlot.enter (w.slotHeld i) e) with owners := (w.raiseTo c k n b p).owners } := by
  obtain ⟨o, told⟩ := w.raiseTo_frame c k n b p
  have held : (w.raiseTo c k n b p).slotHeld i = w.slotHeld i := by
    rw [told]
    exact State.slotHeld_of_leases rfl i
  rw [State.addEntry_eq, held, told]
  rfl

/-- What a slot event does whether it is new or not. -/
def SlotHeard (s t : State) (slot : Fin 8) (i : Fin 32) (lqi : Nat) : Prop :=
  t.radio.slotAck = Nat.lor s.radio.slotAck (2 ^ slot.val) ∧ t.radio.rxOk = satInc 65535 s.radio.rxOk ∧ (t.rslot i).heardAt = s.now ∧
    (t.rslot i).lqi = lqi ∧ (∀ k, k ≠ i → t.rslot k = s.rslot k) ∧ t.leases = s.leases ∧ t.mem = s.mem

/-- The state once a slot event has been heard. -/
theorem State.slotHeard_frame (s : State) (i : Fin 32) (slot : Fin 8) (lqi : Nat) : ∃ v : Vector RSlot 32,
    s.slotHeard i slot lqi = { s with radio := { s.radio with
      slots := v, rxOk := satInc 65535 s.radio.rxOk, slotAck := Nat.lor s.radio.slotAck (2 ^ slot.val) } } ∧
    v.get i = { s.rslot i with heardAt := s.now, lqi := lqi } ∧ ∀ k, k ≠ i → v.get k = s.rslot k := by
  obtain ⟨v, frame⟩ := s.counted.heardAs_frame i lqi
  have heard := s.counted.heardAs_slot i lqi
  have others (k : Fin 32) (other : k ≠ i) := s.counted.heardAs_other (k := k) lqi other
  rw [frame] at heard others
  refine ⟨v, ?_, heard, others⟩
  rw [State.slotHeard, frame]
  rfl

/-- A slot event seen before is only counted. -/
theorem State.slotHeard_replayed (s : State) (i : Fin 32) (slot : Fin 8) (lqi : Nat) :
    SlotHeard s (s.slotHeard i slot lqi).replayed slot i lqi ∧
      (s.slotHeard i slot lqi).replayed.radio.replay = satInc 65535 s.radio.replay ∧
      ((s.slotHeard i slot lqi).replayed.rslot i).entries = (s.rslot i).entries ∧ (s.slotHeard i slot lqi).replayed.owners = s.owners := by
  obtain ⟨v, frame, heard, others⟩ := s.slotHeard_frame i slot lqi
  have entries : (v.get i).entries = (s.rslot i).entries := by rw [heard]
  rw [frame]
  exact ⟨⟨rfl, rfl, congrArg RSlot.heardAt heard, congrArg RSlot.lqi heard, others, rfl, rfl⟩, rfl, entries, rfl⟩

/-- The slot of a new event, before the event is queued. -/
def RSlot.noted (x : RSlot) (now lqi seq : Nat) : RSlot :=
  { x with heardAt := now, lqi := lqi, seq := some seq, events := satInc 65535 x.events }

/-- The state of a new slot event, before it is raised and queued. -/
def State.slotNoted (s : State) (i : Fin 32) (slot : Fin 8) (lqi seq : Nat) : State :=
  (s.slotHeard i slot lqi).updSlot i fun x => { x with seq := some seq, events := satInc 65535 x.events }

/-- A new slot event is raised to the holder and queued. -/
theorem State.slotNoted_queued (s : State) (i : Fin 32) (slot : Fin 8) (lqi seq : Nat) (e : Bytes) :
    let t := (s.slotNoted i slot lqi seq).updSlot i (RSlot.enter (s.slotHeld i) e)
    SlotHeard s t slot i lqi ∧ t.radio.replay = s.radio.replay ∧
      t.rslot i = ((s.rslot i).noted s.now lqi seq).enter (s.slotHeld i) e := by
  obtain ⟨v, frame, heard, others⟩ := s.slotHeard_frame i slot lqi
  have noted : (s.slotNoted i slot lqi seq).rslot i = (s.rslot i).noted s.now lqi seq := by
    rw [State.slotNoted, State.rslot_updSlot_self, frame]
    exact congrArg (fun x : RSlot => { x with seq := some seq, events := satInc 65535 x.events }) heard
  have queued := ((s.slotNoted i slot lqi seq).rslot_updSlot_self i (RSlot.enter (s.slotHeld i) e)).trans
    (congrArg (RSlot.enter (s.slotHeld i) e) noted)
  have rest (k : Fin 32) (other : k ≠ i) :
      ((s.slotNoted i slot lqi seq).updSlot i (RSlot.enter (s.slotHeld i) e)).rslot k = s.rslot k := by
    rw [State.rslot_updSlot_ne _ _ other, State.slotNoted, State.rslot_updSlot_ne _ _ other, frame]
    exact others k other
  obtain ⟨l, d, entered⟩ := RSlot.enter_frame (s.slotHeld i) e ((s.rslot i).noted s.now lqi seq)
  refine ⟨⟨?_, ?_, ?_, ?_, rest, ?_, ?_⟩, ?_, queued⟩
  · rw [State.slotNoted, frame]
    rfl
  · rw [State.slotNoted, frame]
    rfl
  · rw [queued, entered]
    rfl
  · rw [queued, entered]
    rfl
  · rw [State.slotNoted, frame]
    rfl
  · rw [State.slotNoted, frame]
    rfl
  · rw [State.slotNoted, frame]
    rfl

theorem State.slotNoted_owners (s : State) (i : Fin 32) (slot : Fin 8) (lqi seq : Nat) :
    ∃ r, s.slotNoted i slot lqi seq = { s with radio := r } := by
  obtain ⟨v, frame, -, -⟩ := s.slotHeard_frame i slot lqi
  rw [State.slotNoted, frame]
  exact ⟨_, rfl⟩

theorem slotEvent_acts {s : State} {slot : Fin 8} {rx : RadioRx} {i : Fin 32} (live : s.radioLive = true) (running : s.radio.running = true)
    (good : rx.crcOk = true) (size : rx.mpdu.length = 4)
    (only : ∀ k, ((s.rslot k).st = .admitted ∧ (s.rslot k).gslot = some slot) ↔ k = i) :
    let x := s.rslot i
    let lqi := lqiOf rx.evm
    let seq := (rx.mpdu.getD 1 0).toNat
    let entry := queueEntry 1 lqi seq s.devNs rx.mpdu []
    ∃ t, exec (.slotEvent slot rx) s = .next t ∧ t.radio.slotAck = Nat.lor s.radio.slotAck (2 ^ slot.val) ∧
      t.radio.rxOk = satInc 65535 s.radio.rxOk ∧ (t.rslot i).heardAt = s.now ∧ (t.rslot i).lqi = lqi ∧
      (∀ k, k ≠ i → t.rslot k = s.rslot k) ∧ t.leases = s.leases ∧ t.mem = s.mem ∧
      if x.seq = some seq then t.radio.replay = satInc 65535 s.radio.replay ∧ (t.rslot i).entries = x.entries ∧ t.owners = s.owners
      else
        (t.rslot i).seq = some seq ∧ (t.rslot i).events = satInc 65535 x.events ∧ t.radio.replay = s.radio.replay ∧
        (if x.used + entry.length ≤ 4096 ∧ s.holder 5 i.val ≠ 0 then
          (t.rslot i).entries = x.entries ++ [entry] ∧ (t.rslot i).discarded = x.discarded
        else (t.rslot i).entries = x.entries ∧ (t.rslot i).discarded = satInc 65535 x.discarded) ∧
        ∀ p ses, s.holder 5 i.val = Port.id p → (s.owner p).session = some ses → ses.mask.testBit 0x0C = true →
          s.portDead p = false → (s.owner p).events.length < 256 →
          (t.owner p).events = (s.owner p).events ++ [⟨0x0C, 5, i.val, ses.evSeq, s.eventBody (slotEventBody i lqi rx.mpdu)⟩] := by
  intro x lqi seq entry
  have row := exec_slotEvent live running good size only
  by_cases again : x.seq = some seq
  · obtain ⟨⟨ack, ok, at_, quality, others, leases, mem⟩, replay, kept, owners⟩ := s.slotHeard_replayed i slot lqi
    refine ⟨_, row.trans (congrArg _ (if_pos again)), ack, ok, at_, quality, others, leases, mem, ?_⟩
    rw [if_pos again]
    exact ⟨replay, kept, owners⟩
  · have row := row.trans (congrArg _ (if_neg again))
    obtain ⟨⟨ack, ok, at_, quality, others, leases, mem⟩, replay, queued⟩ := s.slotNoted_queued i slot lqi seq entry
    have judged := RSlot.enter_judged (s.slotHeld i) entry (x.noted s.now lqi seq)
    have judged := (if_congr (and_congr_right' (s.slotHeld_iff i)) rfl rfl).mp judged
    obtain ⟨l, d, entered⟩ := RSlot.enter_frame (s.slotHeld i) entry (x.noted s.now lqi seq)
    obtain ⟨r, noted⟩ := s.slotNoted_owners i slot lqi seq
    have acts : exec (.slotEvent slot rx) s = .next { (s.slotNoted i slot lqi seq).updSlot i (RSlot.enter (s.slotHeld i) entry) with
        owners := ((s.slotNoted i slot lqi seq).raiseTo 0x0C 5 i.val (slotEventBody i lqi rx.mpdu) (s.holder 5 i.val)).owners } := by
      have held : (s.slotNoted i slot lqi seq).slotHeld i = s.slotHeld i := by
        rw [noted]
        exact State.slotHeld_of_leases rfl i
      rw [← held]
      exact row.trans (congrArg _ (State.raisedEntry_eq _ _ _ _ _ _ _ _))
    rw [← queued] at judged
    have seen := congrArg RSlot.seq (queued.trans entered)
    have counted := congrArg RSlot.events (queued.trans entered)
    have told (p : Port) (ses : Session) (holds : s.holder 5 i.val = Port.id p) (session : (s.owner p).session = some ses)
        (subscribed : ses.mask.testBit 0x0C = true) (alive : s.portDead p = false) (room : (s.owner p).events.length < 256) :
        (((s.slotNoted i slot lqi seq).raiseTo 0x0C 5 i.val (slotEventBody i lqi rx.mpdu) (s.holder 5 i.val)).owner p).events =
          (s.owner p).events ++ [⟨0x0C, 5, i.val, ses.evSeq, s.eventBody (slotEventBody i lqi rx.mpdu)⟩] := by
      rw [holds, State.raiseTo_owner, noted]
      exact State.takes_events session subscribed alive room
    unfold State.owner at told
    clear noted entered
    generalize ((s.slotNoted i slot lqi seq).raiseTo 0x0C 5 i.val (slotEventBody i lqi rx.mpdu) (s.holder 5 i.val)).owners = o at *
    generalize (s.slotNoted i slot lqi seq).updSlot i (RSlot.enter (s.slotHeld i) entry) = t at *
    refine ⟨_, acts, ack, ok, at_, quality, others, leases, mem, ?_⟩
    rw [if_neg again]
    exact ⟨seen, counted, replay, judged, told⟩

/-! ### Counters -/

theorem Radio.fcOf_seeFc (r : Radio) (long fc : Nat) : (r.seeFc long fc).fcOf long = fc := by
  simp [Radio.fcOf, Radio.seeFc]

/-- A counter above the floor is the new floor. -/
theorem State.fcFloor_seen {s t : State} {x y : RSlot} {fc : Nat} (above : ¬ fc ≤ s.fcFloor x) (low : y.counterMin = x.counterMin)
    (seen : t.radio.fcOf y.long = fc) : t.fcFloor y = fc := by
  unfold State.fcFloor at above ⊢
  rw [seen, low]
  omega

/-! ### JOIN -/

theorem State.joinRefused_frame (s : State) (i : Fin 32) :
    ∃ j o, s.joinRefused i = { s.updSlot i (fun x => { x with joinFailAt := j }) with owners := o } := by
  unfold State.joinRefused
  extract_lets soon
  split
  · exact ⟨(s.rslot i).joinFailAt, s.owners, (s.updSlot_of_same i (fun x => { x with joinFailAt := (s.rslot i).joinFailAt }) rfl).symm⟩
  · obtain ⟨o, event⟩ := (s.updSlot i fun x => { x with joinFailAt := some s.now }).admitEvent_onlyOwners i 2
    exact ⟨_, o, event⟩

/-- The payload of a JOIN under a slot's key, where its MIC is right. -/
def joinOpened (x : RSlot) (m : Bytes) : Option Bytes :=
  Config.ccmOpen x.key (radioNonce (at_ m 7 8) (at_ m 3 4) 2 false) 2 (m.take 15) (m.drop 15)

/-- The ADMIT that a JOIN earns. -/
def RSlot.admission (x : RSlot) : SendQ :=
  ⟨[BitVec.ofNat 8 (match x.gslot with
    | some g => g.val
    | none => 255)], 0, none, 0, 0, 0⟩

/-- What a JOIN of slot `i` does once it is heard. -/
def State.joined (s : State) (i : Fin 32) (rx : RadioRx) : State :=
  let s1 := s.counted.heardAs i (lqiOf rx.evm)
  match joinOpened (s.rslot i) rx.mpdu with
  | none => s1.micFailed.joinRefused i
  | some _ =>
    if at_ rx.mpdu 3 4 ≤ s.fcFloor (s.rslot i) then s1.replayed.joinRefused i
    else (s1.updRadio fun r => r.seeFc (at_ rx.mpdu 7 8) (at_ rx.mpdu 3 4)).updSlot i fun x =>
      { x with lastFc := at_ rx.mpdu 3 4, timeoutAt := none, admitTx := some (s.rslot i).admission }

theorem exec_join {s : State} {rx : RadioRx} {i : Fin 32} (live : s.radioLive = true) (running : s.radio.running = true)
    (good : rx.crcOk = true) (size : rx.mpdu.length = 23) (kind : rx.mpdu.getD 0 0 = 3) (all : rx.mpdu.getD 1 0 = 255)
    (only : ∀ k, ((s.rslot k).st ≠ .free ∧ (s.rslot k).long = at_ rx.mpdu 7 8) ↔ k = i) :
    exec (.join rx) s = .next (s.joined i rx) := by
  have row : exec (.join rx) s = execJoin rx s := rfl
  have found : (List.finRange 32).find? (fun i => (s.counted.rslot i).st != .free && (s.counted.rslot i).long == at_ rx.mpdu 7 8) = some i :=
    find?_finRange_unique fun k => by
      rw [Bool.and_eq_true, bne_iff_ne, beq_iff_eq]
      exact only k
  rw [row, execJoin, radioRx_sound live running good (by rw [kind]; decide)]
  dsimp only
  rw [found, if_pos ⟨size, kind, all⟩]
  rfl

theorem State.joined_false {s : State} {i : Fin 32} {rx : RadioRx} (wrong : joinOpened (s.rslot i) rx.mpdu = none) :
    s.joined i rx = (s.counted.heardAs i (lqiOf rx.evm)).micFailed.joinRefused i := by
  unfold State.joined
  dsimp only
  rw [wrong]

theorem State.joined_old {s : State} {i : Fin 32} {rx : RadioRx} (right : joinOpened (s.rslot i) rx.mpdu ≠ none)
    (old : at_ rx.mpdu 3 4 ≤ s.fcFloor (s.rslot i)) :
    s.joined i rx = (s.counted.heardAs i (lqiOf rx.evm)).replayed.joinRefused i := by
  obtain ⟨b, opened⟩ := Option.ne_none_iff_exists'.1 right
  unfold State.joined
  dsimp only
  rw [opened]
  exact if_pos old

theorem State.joined_new {s : State} {i : Fin 32} {rx : RadioRx} (right : joinOpened (s.rslot i) rx.mpdu ≠ none)
    (new_ : ¬ at_ rx.mpdu 3 4 ≤ s.fcFloor (s.rslot i)) : s.joined i rx =
      ((s.counted.heardAs i (lqiOf rx.evm)).updRadio fun r => r.seeFc (at_ rx.mpdu 7 8) (at_ rx.mpdu 3 4)).updSlot i fun x =>
        { x with lastFc := at_ rx.mpdu 3 4, timeoutAt := none, admitTx := some (s.rslot i).admission } := by
  obtain ⟨b, opened⟩ := Option.ne_none_iff_exists'.1 right
  unfold State.joined
  dsimp only
  rw [opened]
  exact if_neg new_

/-- A frame refused is noted at most. -/
theorem State.joinRefused_keeps (s : State) (i : Fin 32) : ((s.joinRefused i).rslot i).st = (s.rslot i).st ∧
    ((s.joinRefused i).rslot i).heardAt = (s.rslot i).heardAt ∧ ((s.joinRefused i).rslot i).admitTx = (s.rslot i).admitTx ∧
    (∀ k, k ≠ i → (s.joinRefused i).rslot k = s.rslot k) ∧ (s.joinRefused i).radio.micFail = s.radio.micFail ∧
    (s.joinRefused i).radio.replay = s.radio.replay := by
  obtain ⟨j, o, frame⟩ := s.joinRefused_frame i
  have own : (s.joinRefused i).rslot i = { s.rslot i with joinFailAt := j } := by
    rw [frame]
    exact s.rslot_updSlot_self i _
  rw [own, frame]
  exact ⟨rfl, rfl, rfl, fun k other => s.rslot_updSlot_ne _ other, rfl, rfl⟩

theorem join_acts {s : State} {rx : RadioRx} {i : Fin 32} (live : s.radioLive = true) (running : s.radio.running = true)
    (good : rx.crcOk = true) (size : rx.mpdu.length = 23) (kind : rx.mpdu.getD 0 0 = 3) (all : rx.mpdu.getD 1 0 = 255)
    (only : ∀ k, ((s.rslot k).st ≠ .free ∧ (s.rslot k).long = at_ rx.mpdu 7 8) ↔ k = i) :
    let x := s.rslot i
    let fc := at_ rx.mpdu 3 4
    let opened := Config.ccmOpen x.key (le 8 x.long ++ le 4 fc ++ [2]) 2 (rx.mpdu.take 15) (rx.mpdu.drop 15)
    ∃ t, exec (.join rx) s = .next t ∧ (t.rslot i).st = x.st ∧ (t.rslot i).heardAt = s.now ∧
      (∀ k, k ≠ i → t.rslot k = s.rslot k) ∧
      if opened = none then t.radio.micFail = satInc 65535 s.radio.micFail ∧ (t.rslot i).admitTx = x.admitTx
      else if fc ≤ s.fcFloor x then t.radio.replay = satInc 65535 s.radio.replay ∧ (t.rslot i).admitTx = x.admitTx
      else (t.rslot i).lastFc = fc ∧ (t.rslot i).timeoutAt = none ∧ t.fcFloor (t.rslot i) = fc ∧
        ∃ q, (t.rslot i).admitTx = some q ∧ q.mpdu = none ∧ q.attempts = 0 ∧
          q.payload = [match x.gslot with | some g => BitVec.ofNat 8 g.val | none => 255] := by
  intro x fc opened
  have long : x.long = at_ rx.mpdu 7 8 := ((only i).2 rfl).2
  have same : joinOpened x rx.mpdu = opened := by
    rw [joinOpened, ← long]
    rfl
  refine ⟨_, exec_join live running good size kind all only, ?_⟩
  have heard := s.counted.heardAs_slot i (lqiOf rx.evm)
  have others (k : Fin 32) (other : k ≠ i) := s.counted.heardAs_other (lqiOf rx.evm) other
  have mic : (s.counted.heardAs i (lqiOf rx.evm)).radio.micFail = s.radio.micFail := rfl
  have replay : (s.counted.heardAs i (lqiOf rx.evm)).radio.replay = s.radio.replay := rfl
  rw [← same]
  by_cases wrong : joinOpened x rx.mpdu = none
  · rw [State.joined_false wrong, if_pos wrong]
    generalize s.counted.heardAs i (lqiOf rx.evm) = u at heard others mic
    obtain ⟨st, last, owed, rest, count, -⟩ := u.micFailed.joinRefused_keeps i
    have here : u.micFailed.rslot i = { x with heardAt := s.now, lqi := lqiOf rx.evm } := heard
    rw [st, last, owed, count, here]
    exact ⟨rfl, rfl, fun k other => (rest k other).trans (others k other), congrArg (satInc 65535) mic, rfl⟩
  · rw [if_neg wrong]
    by_cases old : fc ≤ s.fcFloor x
    · rw [State.joined_old wrong old, if_pos old]
      generalize s.counted.heardAs i (lqiOf rx.evm) = u at heard others replay
      obtain ⟨st, last, owed, rest, -, count⟩ := u.replayed.joinRefused_keeps i
      have here : u.replayed.rslot i = { x with heardAt := s.now, lqi := lqiOf rx.evm } := heard
      rw [st, last, owed, count, here]
      exact ⟨rfl, rfl, fun k other => (rest k other).trans (others k other), congrArg (satInc 65535) replay, rfl⟩
    · rw [State.joined_new wrong old, if_neg old]
      generalize s.counted.heardAs i (lqiOf rx.evm) = u at heard others
      let v := u.updRadio fun r => r.seeFc (at_ rx.mpdu 7 8) (at_ rx.mpdu 3 4)
      have here : v.rslot i = { x with heardAt := s.now, lqi := lqiOf rx.evm } := heard
      have own := v.rslot_updSlot_self i fun x =>
        { x with lastFc := at_ rx.mpdu 3 4, timeoutAt := none, admitTx := some (s.rslot i).admission }
      rw [here] at own
      rw [own]
      refine ⟨rfl, rfl, fun k other => (v.rslot_updSlot_ne _ other).trans (others k other), rfl, rfl, ?_, _, rfl, rfl, rfl, ?_⟩
      · refine State.fcFloor_seen old rfl ?_
        show (u.radio.seeFc (at_ rx.mpdu 7 8) fc).fcOf x.long = fc
        rw [long]
        exact Radio.fcOf_seeFc _ _ _
      · show [BitVec.ofNat 8 _] = [_]
        cases x.gslot <;> rfl

/-! ### DATA -/

/-- The payload of a DATA frame under a slot's key, where its MIC is right. -/
def dataOpened (x : RSlot) (m : Bytes) : Option Bytes :=
  Config.ccmOpen x.key (radioNonce x.long (at_ m 3 4) 6 false) 6 (m.take 7) (m.drop 7)

/-- What a DATA frame of an admitted tag does once it is heard. -/
def State.dataHeard (s : State) (i : Fin 32) (rx : RadioRx) : State :=
  let fc := at_ rx.mpdu 3 4
  let x := s.rslot i
  let s1 := s.counted.heardAs i (lqiOf rx.evm)
  match dataOpened x rx.mpdu with
  | none => s1.micFailed
  | some payload =>
    if fc ≤ s.fcFloor x then s1.replayed
    else ((s1.updRadio fun r => r.seeFc x.long fc).updSlot i fun x => { x with lastFc := fc }).addEntry i
      (queueEntry 2 (lqiOf rx.evm) (rx.mpdu.getD 2 0).toNat s.devNs (le 4 fc) (payload.take 133))

theorem exec_data {s : State} {rx : RadioRx} {i : Fin 32} (live : s.radioLive = true) (running : s.radio.running = true)
    (good : rx.crcOk = true) (size : 15 ≤ rx.mpdu.length) (kind : rx.mpdu.getD 0 0 = 2) (short : (rx.mpdu.getD 1 0).toNat = i.val + 1) :
    exec (.data rx) s = .next (if (s.rslot i).st = .admitted then s.dataHeard i rx else s.counted) := by
  have row : exec (.data rx) s = execData rx s := rfl
  have named : 15 ≤ rx.mpdu.length ∧ rx.mpdu.getD 0 0 = 2 ∧ 1 ≤ (rx.mpdu.getD 1 0).toNat ∧ (rx.mpdu.getD 1 0).toNat ≤ 32 :=
    ⟨size, kind, by omega, by omega⟩
  have place : (⟨(rx.mpdu.getD 1 0).toNat - 1, by omega⟩ : Fin 32) = i := Fin.ext (show (rx.mpdu.getD 1 0).toNat - 1 = i.val by omega)
  rw [row, execData, radioRx_sound live running good (by rw [kind]; decide)]
  dsimp only
  rw [dif_pos named, place]
  rfl

/-- DATA with a counter above the floor: the counter is the new floor, the payload is queued. -/
theorem State.dataTaken {s u : State} {i : Fin 32} {now lqi fc : Nat} (heard : u.rslot i = { s.rslot i with heardAt := now, lqi := lqi })
    (leases : u.leases = s.leases) (fresh : ¬ fc ≤ s.fcFloor (s.rslot i)) (entry : Bytes) :
    let t := ((u.updRadio fun r => r.seeFc (s.rslot i).long fc).updSlot i fun x => { x with lastFc := fc }).addEntry i entry
    (t.rslot i).heardAt = now ∧ (∀ k, k ≠ i → t.rslot k = u.rslot k) ∧ (t.rslot i).lastFc = fc ∧ t.fcFloor (t.rslot i) = fc ∧
      ((s.rslot i).used + entry.length ≤ 4096 → s.holder 5 i.val ≠ 0 → (t.rslot i).entries = (s.rslot i).entries ++ [entry]) := by
  have own : ((u.updRadio fun r => r.seeFc (s.rslot i).long fc).updSlot i fun x => { x with lastFc := fc }).rslot i =
      { s.rslot i with heardAt := now, lqi := lqi, lastFc := fc } :=
    (State.rslot_updSlot_self _ i _).trans (congrArg (fun x : RSlot => { x with lastFc := fc }) heard)
  have seen : ((u.updRadio fun r => r.seeFc (s.rslot i).long fc).updSlot i fun x => { x with lastFc := fc }).radio.fcOf
      (s.rslot i).long = fc := Radio.fcOf_seeFc _ _ _
  have held : ((u.updRadio fun r => r.seeFc (s.rslot i).long fc).updSlot i fun x => { x with lastFc := fc }).slotHeld i = s.slotHeld i :=
    State.slotHeld_of_leases leases i
  have rest (k : Fin 32) (other : k ≠ i) :
      ((u.updRadio fun r => r.seeFc (s.rslot i).long fc).updSlot i fun x => { x with lastFc := fc }).rslot k = u.rslot k :=
    State.rslot_updSlot_ne _ _ other
  dsimp only
  generalize (u.updRadio fun r => r.seeFc (s.rslot i).long fc).updSlot i (fun x => { x with lastFc := fc }) = v at *
  rw [State.addEntry_eq, State.rslot_updSlot_self, held, own]
  have queued := RSlot.enter_room (held := s.slotHeld i) (e := entry) (x := { s.rslot i with heardAt := now, lqi := lqi, lastFc := fc })
  obtain ⟨l, d, frame⟩ := RSlot.enter_frame (s.slotHeld i) entry { s.rslot i with heardAt := now, lqi := lqi, lastFc := fc }
  rw [frame] at queued ⊢
  exact ⟨rfl, fun k other => (v.rslot_updSlot_ne _ other).trans (rest k other), rfl, State.fcFloor_seen fresh rfl seen,
    fun room holds => queued room ((s.slotHeld_iff i).2 holds)⟩

theorem data_admitted {s : State} {rx : RadioRx} {i : Fin 32} (live : s.radioLive = true) (running : s.radio.running = true)
    (good : rx.crcOk = true) (size : 15 ≤ rx.mpdu.length) (kind : rx.mpdu.getD 0 0 = 2) (short : (rx.mpdu.getD 1 0).toNat = i.val + 1)
    (admitted : (s.rslot i).st = .admitted) :
    let x := s.rslot i
    let fc := at_ rx.mpdu 3 4
    ∃ t, exec (.data rx) s = .next t ∧ (t.rslot i).heardAt = s.now ∧ (∀ k, k ≠ i → t.rslot k = s.rslot k) ∧
      match dataOpened x rx.mpdu with
      | none => t.radio.micFail = satInc 65535 s.radio.micFail ∧ (t.rslot i).entries = x.entries
      | some payload =>
        if fc ≤ s.fcFloor x then t.radio.replay = satInc 65535 s.radio.replay ∧ (t.rslot i).entries = x.entries
        else
          let entry := queueEntry 2 (lqiOf rx.evm) (rx.mpdu.getD 2 0).toNat s.devNs (le 4 fc) (payload.take 133)
          (t.rslot i).lastFc = fc ∧ t.fcFloor (t.rslot i) = fc ∧
          (x.used + entry.length ≤ 4096 → s.holder 5 i.val ≠ 0 → (t.rslot i).entries = x.entries ++ [entry]) := by
  intro x fc
  refine ⟨_, (exec_data live running good size kind short).trans (congrArg _ (if_pos admitted)), ?_⟩
  have heard := s.counted.heardAs_slot i (lqiOf rx.evm)
  have others (k : Fin 32) (other : k ≠ i) := s.counted.heardAs_other (lqiOf rx.evm) other
  have mic : (s.counted.heardAs i (lqiOf rx.evm)).radio.micFail = s.radio.micFail := rfl
  have replay : (s.counted.heardAs i (lqiOf rx.evm)).radio.replay = s.radio.replay := rfl
  have leases : (s.counted.heardAs i (lqiOf rx.evm)).leases = s.leases := rfl
  unfold State.dataHeard
  dsimp only
  generalize s.counted.heardAs i (lqiOf rx.evm) = u at *
  cases dataOpened x rx.mpdu with
  | none =>
    have here : u.micFailed.rslot i = { x with heardAt := s.now, lqi := lqiOf rx.evm } := heard
    dsimp only
    rw [here]
    exact ⟨rfl, others, congrArg (satInc 65535) mic, rfl⟩
  | some payload =>
    dsimp only
    by_cases old : fc ≤ s.fcFloor x
    · rw [if_pos old, if_pos old]
      have here : u.replayed.rslot i = { x with heardAt := s.now, lqi := lqiOf rx.evm } := heard
      rw [here]
      exact ⟨rfl, others, congrArg (satInc 65535) replay, rfl⟩
    · rw [if_neg old, if_neg old]
      have queued := State.dataTaken (now := s.now) (lqi := lqiOf rx.evm) heard leases old
        (queueEntry 2 (lqiOf rx.evm) (rx.mpdu.getD 2 0).toNat s.devNs (le 4 fc) (payload.take 133))
      obtain ⟨at_, same, last, floor, entries⟩ := queued
      exact ⟨at_, fun k other => (same k other).trans (others k other), last, floor, entries⟩

/-! ### ACK_TX -/

theorem ackTx_sends (s : State) (who : Bool) (rx : RadioRx) :
    let own : Prop := rx.crcOk = true ∧ s.ackable who rx.mpdu = true
    (own → ∃ t, exec (.ackTx who rx) s = .next t ∧ t.quiet = s.quiet ∧
      t.out = s.out ++ [Out.radio who (if who = true then s.radio.ch else s.ram.channel) [1, rx.mpdu.getD 2 0]]) ∧
    (¬ own → exec (.ackTx who rx) s = .next s) :=
  ⟨fun own => ⟨_, congrArg Host.Outcome.next (if_pos own), rfl, rfl⟩, fun other => congrArg Host.Outcome.next (if_neg other)⟩

/-! ### Slots whose time runs out -/

theorem admitTimeout_frees (s : State) (i : Fin 32) :
    let x := s.rslot i
    if x.st = .pending ∧ ∃ d, x.timeoutAt = some d ∧ d ≤ s.now then
      ∃ t, exec (.admitTimeout i) s = .next t ∧
        ((∀ k, k ≠ i → t.rslot k = s.rslot k) ∧ t.leases = s.leases ∧ t.mem = s.mem ∧ t.tag = s.tag) ∧ (t.rslot i).st = .free ∧
        (t.rslot i).gslot = none
    else exec (.admitTimeout i) s = .next s := by
  intro x
  have row : exec (.admitTimeout i) s = execAdmitTimeout i s := rfl
  have acts : exec (.admitTimeout i) s = .next (if x.st = .pending ∧ ∃ d, x.timeoutAt = some d ∧ d ≤ s.now then
      (s.admitEvent i 1).updSlot i RSlot.freed else s) := by
    rw [row, execAdmitTimeout]
    cases limit : x.timeoutAt with
    | none => simp [show (s.rslot i).timeoutAt = _ from limit]
    | some d => simp [show (s.rslot i).timeoutAt = _ from limit, x]
  split
  · next due =>
    rw [if_pos due] at acts
    obtain ⟨o, event⟩ := s.admitEvent_onlyOwners i 1
    rw [event] at acts
    refine ⟨_, acts, ⟨fun k other => State.rslot_updSlot_ne _ _ other, rfl, rfl, rfl⟩, ?_⟩
    rw [State.rslot_updSlot_self]
    exact ⟨rfl, rfl⟩
  · next early => exact acts.trans (congrArg _ (if_neg early))

/-- A silent tag is given up: kept as DROPPED where it may rejoin. -/
def RSlot.silenced (x : RSlot) : RSlot := if x.rejoin then { x with st := .dropped, admitTx := none, seq := none } else x.freed

theorem tagSilenceDrop_drops (s : State) (i : Fin 32) :
    let x := s.rslot i
    if s.behind bringsFrame = true then exec (.tagSilenceDrop i) s = .next (s.putOff (.tagSilenceDrop i))
    else if x.st = .admitted ∧ x.heardAt + s.radio.use.silentMs * 100000 ≤ s.now ∧ s.radio.cfg.en = true then
      ∃ t, exec (.tagSilenceDrop i) s = .next t ∧
        ((∀ k, k ≠ i → t.rslot k = s.rslot k) ∧ t.leases = s.leases ∧ t.mem = s.mem ∧ t.tag = s.tag) ∧ (t.rslot i).sends = [] ∧
        (t.rslot i).st = (if x.rejoin = true then .dropped else .free) ∧
        (s.holder 5 i.val ≠ 0 → x.used + 16 * x.sends.length ≤ 4096 → (t.rslot i).entries = x.entries ++ x.sends.map (reportOf 2))
    else exec (.tagSilenceDrop i) s = .next s := by
  intro x
  have row : exec (.tagSilenceDrop i) s = .next (if s.behind bringsFrame = true then s.putOff (.tagSilenceDrop i)
      else if x.st = .admitted ∧ x.heardAt + s.radio.use.silentMs * 100000 ≤ s.now ∧ s.radio.cfg.en = true then
        ((s.dropSends i 2).admitEvent i 3).updSlot i RSlot.silenced else s) := rfl
  split
  · next waits => exact row.trans (congrArg _ (if_pos waits))
  · next alone =>
    rw [if_neg alone] at row
    split
    · next silent =>
      rw [if_pos silent] at row
      obtain ⟨f, drops, made⟩ := s.dropSends_eq i 2
      obtain ⟨o, event⟩ := (s.dropSends i 2).admitEvent_onlyOwners i 3
      obtain ⟨e, d, frame⟩ := x.shed_frame (s.slotHeld i) 2
      rw [event, drops] at row
      have own : ({ s.updSlot i f with owners := o } : State).rslot i = x.shed (s.slotHeld i) 2 := (s.rslot_updSlot_self i f).trans made
      have noted := fun holds => x.shed_room (held := s.slotHeld i) ((s.slotHeld_iff i).2 holds) 2
      rw [frame] at own noted
      refine ⟨_, row, ⟨fun k other => ?_, rfl, rfl, rfl⟩, ?_, ?_, ?_⟩
      · exact (State.rslot_updSlot_ne _ _ other).trans (s.rslot_updSlot_ne f other)
      · rw [State.rslot_updSlot_self, own, RSlot.silenced]
        split <;> rfl
      · rw [State.rslot_updSlot_self, own, RSlot.silenced]
        split <;> rfl
      · rw [State.rslot_updSlot_self, own, RSlot.silenced]
        intro holds room
        refine Eq.trans ?_ (noted holds room)
        split <;> rfl
    · next speaks => exact row.trans (congrArg _ (if_neg speaks))

/-- Settles O44: each frame by its checks, and the slots whose time runs out. -/
theorem radioRowsAct : Obligations.RadioRowsAct := by
  unfold Obligations.RadioRowsAct
  refine ⟨fun s slot rx bad c mem => ?_, fun s slot rx i live running good size only => slotEvent_acts live running good size only,
    fun s rx i live running good size kind all only => join_acts live running good size kind all only,
    fun s rx i live running good size kind short => ⟨fun other => ?_, fun admitted => ?_⟩, ackTx_sends,
    fun s i => ⟨admitTimeout_frees s i, tagSilenceDrop_drops s i⟩⟩
  · simp only [List.mem_cons, List.not_mem_nil, or_false] at mem
    rcases mem with rfl | rfl | rfl
    · exact congrArg Host.Outcome.next (radioRx_spoilt bad true _)
    · exact congrArg Host.Outcome.next (radioRx_spoilt bad true _)
    · exact congrArg Host.Outcome.next (radioRx_spoilt bad false _)
  · exact ⟨_, (exec_data live running good size kind short).trans (congrArg _ (if_neg other)), rfl⟩
  · exact data_admitted live running good size kind short admitted

end Sys2Proof.Machine
end

section
/-! PROOFS. LINK_TEST_START and LINK_TEST_RESULT (R445 to R450). -/

namespace Sys2Proof.Machine

/-! ### What losing PTP says to the owners apart -/

/-- The timebase in a new state. -/
def Timebase.enter (t : Timebase) (now : Nat) (st : TbSt) : Timebase :=
  let u := t.unc now
  let t0 : Timebase := { t with fHist := t.closed now, hoFreq := if t.st = TbSt.locked then t.meanF now else t.hoFreq }
  let t1 : Timebase := match st with
    | .free => { t0 with st := .free, s := 0, pendingStep := false, needFirst := false, remain := 0 }
    | .locking | .recovering =>
      { t0 with st := st, uEntry := u, offsets := [], needFirst := true, pendingStep := false, inLock := 0, beyond := 0 }
    | .locked => { t0 with st := TbSt.locked, everLocked := true, fSince := now, beyond := 0 }
    | .holdover =>
      { t0 with st := .holdover, uEntry := u, s := 0, f := t0.hoFreq, pendingStep := false, needFirst := false,
                offsets := [], remain := 0, holdovers := satInc 65535 t.holdovers }
  { t1 with enteredAt := now }

theorem State.toTb_silent (s : State) (st : TbSt) : (s.toTb st).silent = { s.silent with tb := s.tb.enter s.now st } := by
  unfold State.toTb
  extract_lets t u t0 t1 s1
  have made : s1.silent = { s.silent with tb := s.tb.enter s.now st } := rfl
  split
  · exact made
  · exact (s1.raiseAll_silent _ _ _ _).trans made

theorem State.tb_of_silent {s v : State} (same : s.silent = v.silent) : s.tb = v.tb := by
  have tb : s.silent.tb = v.silent.tb := congrArg State.tb same
  exact tb

theorem State.now_of_silent {s v : State} (same : s.silent = v.silent) : s.now = v.now := by
  have now : s.silent.now = v.silent.now := congrArg State.now same
  exact now

theorem State.toTb_silent_congr {s v : State} (same : s.silent = v.silent) (st : TbSt) : (s.toTb st).silent = (v.toTb st).silent := by
  rw [s.toTb_silent, v.toTb_silent, same, State.tb_of_silent same, State.now_of_silent same]

theorem State.updTb_silent_congr {s v : State} (same : s.silent = v.silent) (f : Timebase → Timebase) :
    (s.updTb f).silent = (v.updTb f).silent := congrArg (State.updTb · f) same

theorem State.useRef_silent_congr {s v : State} (same : s.silent = v.silent) (r : Ref) : (s.useRef r).silent = (v.useRef r).silent := by
  have used := State.updTb_silent_congr same fun t => { t with refUse := r }
  unfold State.useRef
  rw [← State.tb_of_silent same]
  by_cases stays : r = s.tb.refUse
  · rw [if_pos stays, if_pos stays]
    exact same
  · rw [if_neg stays, if_neg stays]
    dsimp only
    cases s.tb.st with
    | free =>
      cases r with
      | none => exact used
      | ptp => exact State.toTb_silent_congr used _
      | ppsi => exact State.toTb_silent_congr used _
    | holdover =>
      cases r with
      | none => exact used
      | ptp => exact State.toTb_silent_congr used _
      | ppsi => exact State.toTb_silent_congr used _
    | locking => cases r <;> exact State.toTb_silent_congr used _
    | locked => cases r <;> exact State.toTb_silent_congr used _
    | recovering => cases r <;> exact State.toTb_silent_congr used _

theorem State.judgeRef_silent_congr {s v : State} (same : s.silent = v.silent) : s.judgeRef.silent = v.judgeRef.silent := by
  have made := State.updTb_silent_congr same fun t =>
    { t with primaryFrom := if t.refValid t.set.primary then some (t.primaryFrom.getD v.now) else none }
  unfold State.judgeRef
  rw [State.now_of_silent same]
  dsimp only
  rw [State.tb_of_silent made]
  exact State.useRef_silent_congr made _

theorem State.losePtp_silent_congr {s v : State} (same : s.silent = v.silent) : s.losePtp.silent = v.losePtp.silent := by
  have pending : s.silent.pending = v.silent.pending := congrArg State.pending same
  have deferred : s.silent.deferred = v.silent.deferred := congrArg State.deferred same
  change s.pending = v.pending at pending
  change s.deferred = v.deferred at deferred
  have also : (s.ppsiOverdue && s.behind (· == .ppsiLoss)) = (v.ppsiOverdue && v.behind (· == .ppsiLoss)) := by
    rw [State.ppsiOverdue, State.ppsiOverdue, State.tenths, State.tenths, State.behind, State.behind, State.tb_of_silent same,
      State.now_of_silent same, pending, deferred]
  unfold State.losePtp State.loseRefs
  rw [also]
  exact State.judgeRef_silent_congr (State.updTb_silent_congr same _)

/-! ### After the reply -/

theorem Replied.of_sessions {s t u : State} {h : Hdr} {op st : Nat} {b : Bytes} (same : u.sessions = t.sessions)
    (replied : Replied s t h op st b) : Replied s u h op st b := by
  obtain ⟨x, hx, found⟩ := replied
  have core : (u.owner h.port).session.map Session.core = some x.core := by
    rw [← State.sessions_get, same, State.sessions_get, hx]
    rfl
  obtain ⟨y, hy, core⟩ := Option.map_eq_some_iff.1 core
  have cache : y.core.cache = x.core.cache := congrArg Session.cache core
  have key : y.core.keyD = x.core.keyD := congrArg Session.keyD core
  change y.cache = x.cache at cache
  change y.keyD = x.keyD at key
  exact ⟨y, hy, by rw [cache, key]; exact found⟩

/-- A command that raises events after its reply. -/
theorem completesLoud_then {s : State} {h : Hdr} {c : Cmd} {ses : Session} (ok : Accepted s h c ses) (op : c.opcode ≠ 0x02) {i : Instr}
    (row : exec i s = .next (s.serve h c)) {u v : State} {e : Nat} {b : Bytes} (plain : Uncounted e) {g : State → State}
    (effect : perform (s.ticket h c ses) c (s.accepted h) = g (u.reply (s.ticket h c ses) e b))
    (sessions : u.sessions = (s.accepted h).sessions) (now : u.now = s.now) (keeps : ∀ w, (g w).sessions = w.sessions)
    (blind : ∀ {w x : State}, w.silent = x.silent → (g w).silent = (g x).silent) (same : u.silent = v.silent) :
    CompletesLoud i s h c.opcode e b (g v) := by
  have settled : (g (u.reply (s.ticket h c ses) e b)).calm = true :=
    State.calm_of_sessions (keeps _) (State.reply_keeps_calm (State.calm_of_sessions sessions ok.calm))
  have served : s.serve h c = g (u.reply (s.ticket h c ses) e b) := by rw [serve_accepted ok, effect, State.finish_calm settled]
  refine ⟨_, row.trans (congrArg _ served), .of_sessions (keeps _) (ok.replied op sessions now), blind ?_⟩
  rw [State.reply_silent _ _ _ plain, same]

/-! ### LINK_TEST_START -/

/-- The fields of a LINK_TEST_START in range (Tables 22-1 and 22-3). -/
def State.linkRanges (s : State) (u : Fin 16) (p : LinkStartP) : Prop :=
  p.pattern.toNat ≤ 6 ∧ loopAllowed u p.loop.toNat = true ∧
    (p.eye = true → u.val ≤ 1 ∧ p.loop = 2) ∧ s.lanesAllowed u p.lanes.toNat = true ∧ (p.pattern ≠ 6 → p.user = 0) ∧ p.bits ≠ 0

/-- A job has an attempt on the cores. -/
def State.jobsRun (s : State) : Bool :=
  (bankList s.jobs.tags).any fun j =>
    match j.2 with
    | some j => j.st == .running || j.st == .restarting
    | none => false

theorem State.jobsRun_iff (s : State) : s.jobsRun = true ↔ ∃ t j, s.job t = some j ∧ (j.st = .running ∨ j.st = .restarting) := by
  rw [State.jobsRun, bankList_any]
  refine exists_congr fun t => ?_
  rw [State.job]
  cases s.jobs.tags.get t with
  | none => simp
  | some j => simp

/-- The sensor port of a unit is not at rest. -/
def State.portUnready (s : State) (u : Fin 16) : Bool :=
  match unitSensor u with
  | some k => (s.sensors.get k).st != .configured
  | none => false

theorem State.portUnready_iff (s : State) (u : Fin 16) : s.portUnready u = true ↔ ∃ k, unitSensor u = some k ∧ (s.sns k).st ≠ .configured := by
  rw [State.portUnready]
  cases unitSensor u with
  | none => simp
  | some k => simp [State.sns]

/-- HPB's FAR loop goes through the PHY. -/
def overMdio (u : Fin 16) (p : LinkStartP) : Prop := u = 1 ∧ p.loop = 2

/-- A unit that starts. -/
def Ltu.started (p : LinkStartP) (now : Nat) (port : Port) (serial : Option Nat) (x : Ltu) : Ltu :=
  { Ltu.reset with
    st := .locking, pattern := p.pattern.toNat, loop := p.loop.toNat, eye := p.eye, inject := p.inject,
    lanes := p.lanes.toNat, user := p.user, goal := p.bits.toNat, startAt := now, owner := port,
    serial := serial, latBitsHi := x.latBitsHi, latErrLo := x.latErrLo, latErrHi := x.latErrHi }

/-- The unit and its port as the test begins. -/
def State.testStarted (s : State) (now : Nat) (u : Fin 16) (p : LinkStartP) (port : Port) (serial : Option Nat) : State :=
  let s1 := s.updUnit u (Ltu.started p now port serial)
  match unitSensor u with
  | some k => s1.updSensor k fun x => { x with st := .test }
  | none => s1

theorem State.linkRanges_iff (s : State) (u : Fin 16) (p : LinkStartP) : (p.pattern.toNat > 6 ∨ ¬ loopAllowed u p.loop.toNat = true ∨
    (p.eye = true ∧ ¬ (u.val ≤ 1 ∧ p.loop = 2)) ∨ ¬ s.lanesAllowed u p.lanes.toNat = true ∨ (p.pattern ≠ 6 ∧ p.user ≠ 0) ∨ p.bits = 0) ↔
      ¬ s.linkRanges u p := by
  unfold State.linkRanges
  simp only [not_and_or, not_le, gt_iff_lt, Classical.not_imp, ne_eq, not_not]

theorem doLinkTestStart_within {t : Ticket} {u : Fin 16} {p : LinkStartP} {s : State} (ranges : s.linkRanges u p) :
    doLinkTestStart t u p s =
      if (portUnit t.hdr.port == some u) = true ∨ (s.unit u).st.runs = true then s.reply t eBusy []
      else if (u.val = 2 ∨ u.val = 3) ∧ s.jobsRun = true then s.reply t eBusy []
      else if u.val = 4 ∧ ¬ s.feltIdle = true then s.reply t eState []
      else if (u.val = 6 ∨ u.val = 7) ∧ s.underTest 4 = true then s.reply t eState []
      else if s.portUnready u = true then s.reply t eState []
      else if u = 1 ∧ p.loop = 2 ∧ ¬ Config.phyAnswers s.free = true then { s with free := s.free + 1 }.reply t eHwFault []
      else ((((if u = 1 ∧ p.loop = 2 then { s with free := s.free + 1 } else s : State).testStarted s.now u p t.hdr.port t.serial).unitSends u
        true).reply t stAccepted []) := by
  have inRange := mt (s.linkRanges_iff u p).1 (not_not.2 ranges)
  unfold doLinkTestStart
  extract_lets x port carries unready jobs s0 s1 s2
  rw [if_neg inRange]
  rfl

theorem State.updUnit_unit (s : State) (u v : Fin 16) (f : Ltu → Ltu) :
    (s.updUnit u f).unit v = if u = v then f (s.unit v) else s.unit v := bankUpd_get s.test.units u v f

theorem State.unit_updUnit (s : State) (u : Fin 16) (f : Ltu → Ltu) : (s.updUnit u f).unit u = f (s.unit u) := by
  rw [s.updUnit_unit, if_pos rfl]

/-- What the port of a test takes does not touch the units. -/
theorem State.testStarted_unit (s : State) (now : Nat) (u : Fin 16) (p : LinkStartP) (port : Port) (serial : Option Nat) :
    (s.testStarted now u p port serial).unit u = Ltu.started p now port serial (s.unit u) := by
  have made := s.unit_updUnit u (Ltu.started p now port serial)
  unfold State.testStarted
  cases unitSensor u with
  | none => exact made
  | some k => exact made

theorem State.testStarted_quiet (s : State) (now : Nat) (u : Fin 16) (p : LinkStartP) (port : Port) (serial : Option Nat) :
    (s.testStarted now u p port serial).quiet = s.quiet.testStarted now u p port serial := by
  unfold State.testStarted
  cases unitSensor u with
  | none => rfl
  | some k => rfl

theorem State.testStarted_sessions (s : State) (now : Nat) (u : Fin 16) (p : LinkStartP) (port : Port) (serial : Option Nat) :
    (s.testStarted now u p port serial).sessions = s.sessions := by
  unfold State.testStarted
  cases unitSensor u with
  | none => rfl
  | some k => rfl

theorem State.testStarted_now (s : State) (now : Nat) (u : Fin 16) (p : LinkStartP) (port : Port) (serial : Option Nat) :
    (s.testStarted now u p port serial).now = s.now := by
  unfold State.testStarted
  cases unitSensor u with
  | none => rfl
  | some k => rfl

/-- The pattern in the xSPI test area (R443). -/
def State.areaSet (s : State) (u : Fin 16) (p : LinkStartP) : State :=
  if u = 9 then { s with flash := { s.flash with testArea := some (p.pattern.toNat, p.user) } } else s

/-- What a generator sends leaves everything but the outputs and the xSPI test area. -/
theorem State.unitSends_quiet (s : State) (u : Fin 16) (p : LinkStartP) (pattern : (s.unit u).pattern = p.pattern.toNat)
    (user : (s.unit u).user = p.user) : (s.unitSends u true).quiet = (s.areaSet u p).quiet := by
  unfold State.unitSends State.areaSet
  dsimp only
  rw [pattern, user]
  by_cases far : u = 1 ∧ (s.unit u).loop = 2
  · rw [if_pos far, if_neg fun nine => absurd (far.1.symm.trans nine) (by decide)]
    split <;> rfl
  · rw [if_neg far]
    by_cases nine : u = 9
    · rw [if_pos ⟨nine, rfl⟩, if_pos nine]
      split <;> rfl
    · rw [if_neg fun no => nine no.1, if_neg nine]
      split <;> rfl

theorem State.unitSends_test (s : State) (u : Fin 16) (on : Bool) : (s.unitSends u on).test = s.test := by
  unfold State.unitSends
  extract_lets x s1
  have sent : s1.test = s.test := by
    dsimp only [s1]
    split <;> rfl
  split
  · exact sent
  · split <;> exact sent

/-- PTP on HPB is lost as its test begins (R450). -/
def afterStart (u : Fin 16) (s w : State) : State := if u = 1 ∧ w.underTest 1 ∧ ¬ s.underTest 1 then w.losePtp else w

section
variable {s : State} {h : Hdr} {p : LinkStartP} {ses : Session}

/-- A start that only replies leaves PTP as it is. -/
theorem perform_testRefused {e : Nat} {b : Bytes} {w : State} (test : w.test = s.test)
    (answer : doLinkTestStart (s.ticket h (.linkTestStart p) ses) (testUnit h) p (s.accepted h) =
      w.reply (s.ticket h (.linkTestStart p) ses) e b) :
    perform (s.ticket h (.linkTestStart p) ses) (.linkTestStart p) (s.accepted h) =
      w.reply (s.ticket h (.linkTestStart p) ses) e b := by
  have same : (w.reply (s.ticket h (.linkTestStart p) ses) e b).underTest 1 = (s.accepted h).underTest 1 := by
    rw [State.underTest, State.underTest, State.reply_test, State.accepted_test, test]
  have served : perform (s.ticket h (.linkTestStart p) ses) (.linkTestStart p) (s.accepted h) = afterStart (testUnit h) (s.accepted h)
    (doLinkTestStart (s.ticket h (.linkTestStart p) ses) (testUnit h) p (s.accepted h)) := rfl
  rw [served, answer, afterStart, same]
  exact if_neg fun no => no.2.2 no.2.1

end

/-- A unit takes no test now: it runs, or carries the command. -/
def State.testBusy (s : State) (h : Hdr) : Prop := portUnit h.port = some (testUnit h) ∨ (s.unit (testUnit h)).st.runs = true

/-- HBM is in use by a job (Table 22-5). -/
def State.testJobs (s : State) (u : Fin 16) : Prop :=
  (u = 2 ∨ u = 3) ∧ ∃ t j, s.job t = some j ∧ (j.st = .running ∨ j.st = .restarting)

/-- What the link serves is not at rest (Table 22-5). -/
def State.testBarred (s : State) (u : Fin 16) : Prop :=
  (u = 4 ∧ s.feltIdle = false) ∨ ((u = 6 ∨ u = 7) ∧ s.underTest 4 = true) ∨ ∃ k, unitSensor u = some k ∧ (s.sns k).st ≠ .configured

section
variable {s : State} {h : Hdr} {p : LinkStartP} {ses : Session} (ok : Accepted s h (.linkTestStart p) ses)
include ok

theorem Accepted.startRanges (ranges : s.linkRanges (testUnit h) p) : (s.accepted h).linkRanges (testUnit h) p :=
  (ok.reads (fun v => v.linkRanges (testUnit h) p) fun _ => rfl).mpr ranges

omit ok in
theorem State.startBusy : (portUnit h.port == some (testUnit h)) = true ∨ ((s.accepted h).unit (testUnit h)).st.runs = true ↔
    s.testBusy h := by
  rw [State.unit, State.accepted_test, beq_iff_eq]
  rfl

theorem Accepted.startJobs : ((testUnit h).val = 2 ∨ (testUnit h).val = 3) ∧ (s.accepted h).jobsRun = true ↔
    s.testJobs (testUnit h) := by
  rw [ok.reads State.jobsRun fun _ => rfl, State.jobsRun_iff, State.testJobs, Fin.ext_iff, Fin.ext_iff]
  rfl

theorem Accepted.startFelt : (testUnit h).val = 4 ∧ ¬ (s.accepted h).feltIdle = true ↔ testUnit h = 4 ∧ s.feltIdle = false := by
  rw [ok.reads State.feltIdle fun _ => rfl, Bool.not_eq_true, Fin.ext_iff]
  rfl

omit ok in
theorem State.startBus : ((testUnit h).val = 6 ∨ (testUnit h).val = 7) ∧ (s.accepted h).underTest 4 = true ↔
    (testUnit h = 6 ∨ testUnit h = 7) ∧ s.underTest 4 = true := by
  rw [State.underTest, State.accepted_test, Fin.ext_iff, Fin.ext_iff]
  rfl

theorem Accepted.startSensor : (s.accepted h).portUnready (testUnit h) = true ↔
    ∃ k, unitSensor (testUnit h) = some k ∧ (s.sns k).st ≠ .configured := by
  rw [ok.reads (fun v => v.portUnready (testUnit h)) fun _ => rfl, State.portUnready_iff]

/-- Past the checks of what runs and what the link serves. -/
theorem Accepted.startOnward {α : Type} {b₁ b₂ f b₃ r next : α} (idle : ¬ s.testBusy h) (jobs : ¬ s.testJobs (testUnit h))
    (barred : ¬ s.testBarred (testUnit h)) :
    (if (portUnit h.port == some (testUnit h)) = true ∨ ((s.accepted h).unit (testUnit h)).st.runs = true then b₁
      else if ((testUnit h).val = 2 ∨ (testUnit h).val = 3) ∧ (s.accepted h).jobsRun = true then b₂
      else if (testUnit h).val = 4 ∧ ¬ (s.accepted h).feltIdle = true then f
      else if ((testUnit h).val = 6 ∨ (testUnit h).val = 7) ∧ (s.accepted h).underTest 4 = true then b₃
      else if (s.accepted h).portUnready (testUnit h) = true then r
      else next) = next := by
  unfold State.testBarred at barred
  obtain ⟨felt, bus, sensor⟩ : _ ∧ _ ∧ _ := by simpa only [not_or] using barred
  rw [if_neg (mt State.startBusy.1 idle), if_neg (mt ok.startJobs.1 jobs), if_neg (mt ok.startFelt.1 felt),
    if_neg (mt State.startBus.1 bus), if_neg (mt ok.startSensor.1 sensor)]

/-- A start in range that is refused. -/
theorem Accepted.startRefused {e : Nat} (plain : Uncounted e)
    (answer : doLinkTestStart (s.ticket h (.linkTestStart p) ses) (testUnit h) p (s.accepted h) =
      (s.accepted h).reply (s.ticket h (.linkTestStart p) ses) e []) : Completes (.linkTestStart h p) s h 0x60 e [] s :=
  ok.completes_reply rfl (show (0x60 : Nat) ≠ 0x02 by decide) plain (perform_testRefused (s.accepted_test h) answer)

/-- LINK_TEST_START of a unit that runs or carries the command. -/
theorem Accepted.startCarried (ranges : s.linkRanges (testUnit h) p) (busy : s.testBusy h) :
    Completes (.linkTestStart h p) s h 0x60 eBusy [] s :=
  ok.startRefused uncounted_busy ((doLinkTestStart_within (ok.startRanges ranges)).trans (if_pos (State.startBusy.2 busy)))

/-- LINK_TEST_START of HBM while an attempt runs. -/
theorem Accepted.startWhileJobs (ranges : s.linkRanges (testUnit h) p) (idle : ¬ s.testBusy h) (jobs : s.testJobs (testUnit h)) :
    Completes (.linkTestStart h p) s h 0x60 eBusy [] s :=
  ok.startRefused uncounted_busy ((doLinkTestStart_within (ok.startRanges ranges)).trans
    ((if_neg (mt State.startBusy.1 idle)).trans (if_pos (ok.startJobs.2 jobs))))

/-- LINK_TEST_START of a link with something it serves in motion. -/
theorem Accepted.startBarred (ranges : s.linkRanges (testUnit h) p) (idle : ¬ s.testBusy h) (jobs : ¬ s.testJobs (testUnit h))
    (barred : s.testBarred (testUnit h)) : Completes (.linkTestStart h p) s h 0x60 eState [] s := by
  refine ok.startRefused uncounted_state ((doLinkTestStart_within (ok.startRanges ranges)).trans
    ((if_neg (mt State.startBusy.1 idle)).trans ((if_neg (mt ok.startJobs.1 jobs)).trans ?_)))
  by_cases felt : testUnit h = 4 ∧ s.feltIdle = false
  · exact if_pos (ok.startFelt.2 felt)
  · rw [if_neg (mt ok.startFelt.1 felt)]
    by_cases bus : (testUnit h = 6 ∨ testUnit h = 7) ∧ s.underTest 4 = true
    · exact if_pos (State.startBus.2 bus)
    · rw [if_neg (mt State.startBus.1 bus)]
      have unready := (barred.resolve_left felt).resolve_left bus
      exact if_pos (ok.startSensor.2 unready)

/-- LINK_TEST_START with PATTERN or BITS out of range. -/
theorem Accepted.startOutOfRange (out : 6 < p.pattern.toNat ∨ p.bits = 0) : Completes (.linkTestStart h p) s h 0x60 eParam [] s := by
  refine ok.startRefused uncounted_param ?_
  unfold doLinkTestStart
  dsimp only
  rw [if_pos (out.elim .inl fun none => .inr (.inr (.inr (.inr (.inr none)))))]
  split
  · exact if_neg fun ⟨_, low, _, _, goal, _⟩ => out.elim (not_lt.2 low) goal
  · rfl

/-- The PHY of HPB's FAR loop does not answer. -/
theorem Accepted.startUnanswered (ranges : s.linkRanges (testUnit h) p) (idle : ¬ s.testBusy h) (jobs : ¬ s.testJobs (testUnit h))
    (barred : ¬ s.testBarred (testUnit h)) (mdio : testUnit h = 1 ∧ p.loop = 2) (mute : Config.phyAnswers s.free = false) :
    CompletesLoud (.linkTestStart h p) s h 0x60 eHwFault [] { s with free := s.free + 1 } := by
  have answer : doLinkTestStart (s.ticket h (.linkTestStart p) ses) (testUnit h) p (s.accepted h) =
      { s.accepted h with free := (s.accepted h).free + 1 }.reply (s.ticket h (.linkTestStart p) ses) eHwFault [] := by
    rw [doLinkTestStart_within (ok.startRanges ranges)]
    exact (ok.startOnward idle jobs barred).trans (if_pos ⟨mdio.1, mdio.2, by rw [s.accepted_free h, mute]; decide⟩)
  obtain ⟨t, row, replied, quiet⟩ := ok.completes_effect (i := .linkTestStart h p) rfl (show (0x60 : Nat) ≠ 0x02 by decide) (by decide : Uncounted eHwFault)
    (fun w => { w with free := w.free + 1 }) (perform_testRefused (s.accepted_test h) answer) rfl rfl fun _ => rfl
  exact ⟨t, row, replied, State.silent_of_quiet quiet⟩

omit ok in
/-- What a start that goes on does before its reply. -/
theorem State.testBegun_quiet (v : State) (now : Nat) (u : Fin 16) (port : Port) (serial : Option Nat) :
    ((v.testStarted now u p port serial).unitSends u true).quiet = ((v.testStarted now u p port serial).areaSet u p).quiet :=
  State.unitSends_quiet _ u p (by rw [State.testStarted_unit]; rfl) (by rw [State.testStarted_unit]; rfl)

omit ok in
/-- A unit that starts runs. -/
theorem State.testBegun_runs (v : State) (now : Nat) (u : Fin 16) (port : Port) (serial : Option Nat) :
    ((v.testStarted now u p port serial).unitSends u true).underTest u = true := by
  have started := v.testStarted_unit now u p port serial
  unfold State.unit at started
  rw [State.underTest, State.unitSends_test, started]
  rfl

/-- The free value that says whether the PHY answered. -/
def State.overMdio (s : State) (u : Fin 16) (p : LinkStartP) : State := if u = 1 ∧ p.loop = 2 then { s with free := s.free + 1 } else s

/-- PTP on HPB is lost with its test (R450). -/
def State.ptpBarred (s : State) (u : Fin 16) : State := if u = 1 then s.losePtp else s

/-- The unit and its port once the test has begun. -/
def State.testBegun (s : State) (now : Nat) (u : Fin 16) (p : LinkStartP) (port : Port) (serial : Nat) : State :=
  ((s.overMdio u p).testStarted now u p port (some serial)).areaSet u p

omit ok in
@[simp] theorem State.overMdio_sessions (s : State) (u : Fin 16) (p : LinkStartP) : (s.overMdio u p).sessions = s.sessions := by
  unfold State.overMdio
  split <;> rfl

omit ok in
@[simp] theorem State.overMdio_now (s : State) (u : Fin 16) (p : LinkStartP) : (s.overMdio u p).now = s.now := by
  unfold State.overMdio
  split <;> rfl

omit ok in
theorem State.overMdio_quiet (s : State) (u : Fin 16) (p : LinkStartP) : (s.overMdio u p).quiet = s.quiet.overMdio u p := by
  unfold State.overMdio
  split <;> rfl

omit ok in
theorem State.areaSet_quiet (s : State) (u : Fin 16) (p : LinkStartP) : (s.areaSet u p).quiet = s.quiet.areaSet u p := by
  unfold State.areaSet
  split <;> rfl

omit ok in
theorem State.testBegun_blind (v : State) (now : Nat) (u : Fin 16) (p : LinkStartP) (port : Port) (serial : Nat) :
    (v.testBegun now u p port serial).quiet = v.quiet.testBegun now u p port serial := by
  rw [State.testBegun, State.areaSet_quiet, State.testStarted_quiet, State.overMdio_quiet]
  rfl

omit ok in
theorem State.ptpBarred_sessions (s : State) (u : Fin 16) : (s.ptpBarred u).sessions = s.sessions := by
  unfold State.ptpBarred
  split
  · exact s.losePtp_sessions
  · rfl

omit ok in
theorem State.ptpBarred_silent_congr {s v : State} (u : Fin 16) (same : s.silent = v.silent) :
    (s.ptpBarred u).silent = (v.ptpBarred u).silent := by
  unfold State.ptpBarred
  split
  · exact State.losePtp_silent_congr same
  · exact same

omit ok in
theorem afterStart_starts {u : Fin 16} {s w : State} (runs : u = 1 → w.underTest 1 = true) (idle : u = 1 → ¬ s.underTest 1 = true) :
    afterStart u s w = w.ptpBarred u := by
  unfold afterStart State.ptpBarred
  by_cases hpb : u = 1
  · rw [if_pos ⟨hpb, runs hpb, idle hpb⟩, if_pos hpb]
  · rw [if_neg fun no => hpb no.1, if_neg hpb]

theorem Accepted.startAnswered (ranges : s.linkRanges (testUnit h) p) (idle : ¬ s.testBusy h) (jobs : ¬ s.testJobs (testUnit h))
    (barred : ¬ s.testBarred (testUnit h)) (answers : ¬ ((testUnit h = 1 ∧ p.loop = 2) ∧ Config.phyAnswers s.free = false)) :
    CompletesLoud (.linkTestStart h p) s h 0x60 stAccepted [] ((s.testBegun s.now (testUnit h) p h.port ses.serial).ptpBarred (testUnit h)) := by
  have answer : doLinkTestStart (s.ticket h (.linkTestStart p) ses) (testUnit h) p (s.accepted h) =
      ((((s.accepted h).overMdio (testUnit h) p).testStarted s.now (testUnit h) p h.port (some ses.serial)).unitSends
        (testUnit h) true).reply (s.ticket h (.linkTestStart p) ses) stAccepted [] := by
    rw [doLinkTestStart_within (ok.startRanges ranges)]
    refine (ok.startOnward idle jobs barred).trans ((if_neg fun no => answers ⟨⟨no.1, no.2.1⟩, ?_⟩).trans ?_)
    · have mute := no.2.2
      rw [s.accepted_free h, Bool.not_eq_true] at mute
      exact mute
    · rw [← s.accepted_now h]
      rfl
  have sessions : ((((s.accepted h).overMdio (testUnit h) p).testStarted s.now (testUnit h) p h.port (some ses.serial)).unitSends
      (testUnit h) true).sessions = (s.accepted h).sessions := by
    rw [State.unitSends_sessions, State.testStarted_sessions, State.overMdio_sessions]
  have now : ((((s.accepted h).overMdio (testUnit h) p).testStarted s.now (testUnit h) p h.port (some ses.serial)).unitSends
      (testUnit h) true).now = s.now := by
    rw [State.unitSends_now, State.testStarted_now, State.overMdio_now, s.accepted_now]
  have same : ((((s.accepted h).overMdio (testUnit h) p).testStarted s.now (testUnit h) p h.port (some ses.serial)).unitSends
      (testUnit h) true).quiet = (s.testBegun s.now (testUnit h) p h.port ses.serial).quiet := by
    rw [State.testBegun_quiet]
    exact ok.acts (fun v => v.testBegun s.now (testUnit h) p h.port ses.serial) fun _ => State.testBegun_blind _ _ _ _ _ _
  refine completesLoud_then ok (show (0x60 : Nat) ≠ 0x02 by decide) rfl uncounted_accepted (g := fun w => w.ptpBarred (testUnit h))
    ?_ sessions now (fun w => w.ptpBarred_sessions _) (State.ptpBarred_silent_congr _) (State.silent_of_quiet same)
  have served : perform (s.ticket h (.linkTestStart p) ses) (.linkTestStart p) (s.accepted h) = afterStart (testUnit h) (s.accepted h)
    (doLinkTestStart (s.ticket h (.linkTestStart p) ses) (testUnit h) p (s.accepted h)) := rfl
  rw [served, answer]
  exact afterStart_starts (fun hpb => by rw [State.underTest, State.reply_test, ← hpb]; exact State.testBegun_runs _ _ _ _ _)
    fun hpb runs => idle (.inr (by rw [State.underTest, s.accepted_test, ← hpb] at runs; exact runs))

end

/-! ### LINK_TEST_RESULT -/

/-- The margins of one lane in LINK_TEST_RESULT. -/
def Eye.bytes (e : Eye) : Bytes := [BitVec.ofNat 8 e.left, BitVec.ofNat 8 e.right] ++ le 2 e.top ++ le 2 e.bottom ++ zeros 2

theorem Eye.bytes_length (e : Eye) : e.bytes.length = 8 := by simp [Eye.bytes]

theorem State.unitResult_length (s : State) (u : Fin 16) : (s.unitResult u).length = 64 := by
  have lanes : ((s.unit u).eyes.toList.map Eye.bytes).flatten.length = 32 := by
    rw [List.length_flatten, List.map_map, List.map_congr_left (f := List.length ∘ Eye.bytes) (g := Function.const Eye 8) fun e _ => e.bytes_length, List.map_const,
      List.sum_replicate, Vector.length_toList]
    rfl
  have laid : s.unitResult u = ([BitVec.ofNat 8 (s.unit u).st.code, BitVec.ofNat 8 (s.unit u).result,
      BitVec.ofNat 8 (s.unit u).pattern, BitVec.ofNat 8 ((s.unit u).loop + bitAt 2 (s.unit u).eye + bitAt 3 (s.unit u).inject),
      BitVec.ofNat 8 (s.unit u).lanes, 0, 0, 0] ++ le 8 (s.liveBits u) ++ le 8 (s.liveErrors u) ++ le 4 (s.unitElapsed u) ++ zeros 4) ++
      ((s.unit u).eyes.toList.map Eye.bytes).flatten := rfl
  rw [laid, List.length_append, lanes]
  simp

theorem Accepted.testResult {s : State} {h : Hdr} {ses : Session} (ok : Accepted s h .linkTestResult ses) :
    Completes (.linkTestResult h) s h 0x61 stOk (s.unitResult (testUnit h)) { s with free := s.free + 6 } := by
  have read := ok.reads (fun v => v.unitResult (testUnit h)) fun _ => rfl
  refine completes_then ok (show (0x61 : Nat) ≠ 0x02 by decide) rfl uncounted_ok (fun w => { w with free := w.free + 6 })
    (u := s.accepted h) ?_ rfl (s.accepted_now h) (fun _ => rfl) (fun _ => rfl)
    (ok.acts (fun w => { w with free := w.free + 6 }) fun _ => rfl)
  rw [← read]
  rfl

end Sys2Proof.Machine
end

section
/-! PROOFS. Link test units that lock, count and end (R445, R447, R449, R454). -/

namespace Sys2Proof.Machine

/-! ### The end of a test -/

theorem State.updUnit_id (s : State) (u : Fin 16) : s.updUnit u id = s := by
  rw [State.updUnit, State.updTest, bankUpd_id _ _ _ rfl]

theorem State.updUnit_updUnit (s : State) (u : Fin 16) (f g : Ltu → Ltu) : (s.updUnit u f).updUnit u g = s.updUnit u (g ∘ f) :=
  congrArg (fun v => { s with test := { s.test with units := v } }) (bankUpd_bankUpd s.test.units u f g)

/-- A unit whose test has ended. -/
def Ltu.over (x : Ltu) (result now : Nat) : Ltu := { x with st := .ended, locked := false, result := result, endAt := now }

/-- What the end of a test gives back of the ports (R447): a sensor port is CONFIGURED again, the links of HPA and HPB are down. -/
def GivenBack (s t : State) (u : Fin 16) : Prop :=
  (∀ k, (t.sns k).st = if unitSensor u = some k ∧ (s.sns k).st = .test then .configured else (s.sns k).st) ∧
    (u = 0 → t.hpa.linkUp = false) ∧ (u = 1 → t.net.ethUp = false)

/-- What the end of a test may change beside its unit and the owners' events. -/
theorem State.unitBack_frame (s : State) (u : Fin 16) : ∃ o n h b e, s.unitBack u =
    { s with out := o, sensors := n, hpa := h, boot := b, net := e } ∧ GivenBack s (s.unitBack u) u := by
  have sent : ∃ o, s.unitSends u false = { s with out := o } := by
    unfold State.unitSends
    dsimp only
    split
    · split <;> exact ⟨_, rfl⟩
    · rw [if_neg fun no => by cases no.2]
      split <;> exact ⟨_, rfl⟩
  obtain ⟨o, sent⟩ := sent
  unfold State.unitBack
  rw [sent]
  dsimp only
  cases sensor : unitSensor u with
  | some k =>
    refine ⟨_, _, _, _, _, rfl, fun j => ?_, fun hpa => ?_, fun hpb => ?_⟩
    · show ((bankUpd s.sensors k _).get j).st = _
      rw [bankUpd_get, sensor]
      by_cases own : k = j
      · rw [if_pos own, own]
        by_cases testing : (s.sns j).st = .test
        · exact (if_pos testing).trans (if_pos ⟨rfl, testing⟩).symm
        · exact (if_neg testing).trans (if_neg fun no : some j = some j ∧ _ => testing no.2).symm
      · rw [if_neg own, if_neg fun no => own (Option.some.inj no.1)]
        rfl
    · rw [hpa] at sensor
      cases sensor
    · rw [hpb] at sensor
      cases sensor
  | none =>
    have free (t : State) (same : t.sensors = s.sensors) (k : Fin 6) :
        (t.sns k).st = if unitSensor u = some k ∧ (s.sns k).st = .test then .configured else (s.sns k).st := by
      rw [sensor, if_neg (fun no => nomatch no.1), State.sns, State.sns, same]
    dsimp only
    by_cases hpa : u = 0
    · rw [if_pos hpa]
      obtain ⟨b, eq⟩ := (({ s with out := o } : State).updHpa fun h => { h with linkUp := false }).closeStageOf_boot_only 0
      rw [eq]
      exact ⟨_, _, _, _, _, rfl, free _ rfl, fun _ => rfl, fun hpb => by rw [hpa] at hpb; cases hpb⟩
    · rw [if_neg hpa]
      by_cases hpb : u = 1
      · rw [if_pos hpb]
        obtain ⟨b, eq⟩ := (({ s with out := o } : State).updNet fun n => { n with ethUp := false }).closeStageOf_boot_only 1
        rw [eq]
        exact ⟨_, _, _, _, _, rfl, free _ rfl, fun no => absurd no hpa, fun _ => rfl⟩
      · rw [if_neg hpb]
        exact ⟨_, _, _, _, _, rfl, free _ rfl, fun no => absurd no hpa, fun no => absurd no hpb⟩

/-- The end of a unit's test: of its counts, of what it gives back, and the event for the session that started it. -/
def TestEnds (s : State) (u : Fin 16) (r : Nat) (y : Ltu) (t : State) : Prop :=
  t.unit u = y.over r s.now ∧ (∀ v, v ≠ u → t.unit v = s.unit v) ∧
    (∀ k, (t.sns k).st = if unitSensor u = some k ∧ (s.sns k).st = .test then .configured else (s.sns k).st) ∧
    (u = 0 → t.hpa.linkUp = false) ∧ (u = 1 → t.net.ethUp = false) ∧
    t.axes = s.axes ∧ t.mem = s.mem ∧ t.leases = s.leases ∧ t.jobs = s.jobs ∧
    ∀ ses, (s.owner y.owner).session = some ses → y.serial = some ses.serial → ses.mask.testBit 9 = true →
      t.portDead y.owner = false → (s.owner y.owner).events.length < 256 →
      (t.owner y.owner).events = (s.owner y.owner).events ++
        [⟨0x09, (unitRes u).1, (unitRes u).2, ses.evSeq,
          s.eventBody ([BitVec.ofNat 8 r, 0, 0, 0] ++ le 8 y.bits ++ le 8 y.errors)⟩]

/-- The session that started a unit's test is still open (R121). -/
def State.heardBy (s : State) (x : Ltu) : Bool :=
  match x.serial, (s.owner x.owner).session with
  | some n, some ses => ses.serial == n
  | _, _ => false

theorem State.heardBy_open {s : State} {x : Ltu} {ses : Session} (session : (s.owner x.owner).session = some ses)
    (serial : x.serial = some ses.serial) : s.heardBy x = true := by
  rw [State.heardBy, serial, session]
  exact beq_self_eq_true _

/-- A unit that runs ends, with its event where its session is open. -/
theorem State.unitEnd_running {s : State} {u : Fin 16} (r : Nat) (runs : (s.unit u).st.runs = true) :
    s.unitEnd u r true = if s.heardBy (s.unit u) = true then
        ((s.updUnit u fun x => x.over r s.now).unitBack u).raise 0x09 (unitRes u).1 (unitRes u).2
          ([BitVec.ofNat 8 r, 0, 0, 0] ++ le 8 (s.unit u).bits ++ le 8 (s.unit u).errors) (s.unit u).owner
      else (s.updUnit u fun x => x.over r s.now).unitBack u :=
  (if_pos runs).trans (if_congr ⟨fun told => told.2, fun told => ⟨rfl, told⟩⟩ rfl rfl)

theorem State.unitEnd_acts (s : State) (u : Fin 16) (f : Ltu → Ltu) (r : Nat) (runs : (f (s.unit u)).st.runs = true) :
    TestEnds s u r (f (s.unit u)) ((s.updUnit u f).unitEnd u r true) := by
  have own := s.unit_updUnit u f
  rw [State.unitEnd_running r (by rw [own]; exact runs), own]
  have ended : (s.updUnit u f).updUnit u (fun x => x.over r (s.updUnit u f).now) = s.updUnit u fun x => (f x).over r s.now :=
    s.updUnit_updUnit u f fun x => x.over r s.now
  rw [ended]
  obtain ⟨o, n, h, b, e, frame, back⟩ := (s.updUnit u fun x => (f x).over r s.now).unitBack_frame u
  have here : (s.updUnit u fun x => (f x).over r s.now).unit u = (f (s.unit u)).over r s.now := s.unit_updUnit u _
  have others (v : Fin 16) (other : v ≠ u) : (s.updUnit u fun x => (f x).over r s.now).unit v = s.unit v :=
    (s.updUnit_unit u v _).trans (if_neg fun no => other no.symm)
  rw [frame] at back ⊢
  obtain ⟨sensors, hpa, hpb⟩ := back
  generalize f (s.unit u) = y at *
  by_cases told : (s.updUnit u f).heardBy y = true
  · rw [if_pos told]
    refine ⟨here, others, sensors, hpa, hpb, rfl, rfl, rfl, rfl, fun ses session serial subscribed alive room => ?_⟩
    refine (congrArg OwnerState.events (bankUpd_get_self _ _ _)).trans ?_
    exact State.takes_events session subscribed alive room
  · rw [if_neg told]
    exact ⟨here, others, sensors, hpa, hpb, rfl, rfl, rfl, rfl, fun ses session serial => absurd (State.heardBy_open session serial) told⟩

/-- A row ends the test of a unit. -/
def RowEnds (s : State) (u : Fin 16) (i : Instr) (r : Nat) (y : Ltu) : Prop := ∃ t, exec i s = .next t ∧ TestEnds s u r y t

section
variable {s : State} {u : Fin 16} {i : Instr} {r : Nat}

theorem rowEnds_of {f : Ltu → Ltu} (runs : (f (s.unit u)).st.runs = true) (row : exec i s = .next ((s.updUnit u f).unitEnd u r true)) :
    RowEnds s u i r (f (s.unit u)) := ⟨_, row, s.unitEnd_acts u f r runs⟩

/-- The counts stand as they are. -/
theorem rowEnds_as_is (runs : (s.unit u).st.runs = true) (row : exec i s = .next (s.unitEnd u r true)) : RowEnds s u i r (s.unit u) := by
  refine rowEnds_of (f := id) runs ?_
  rw [s.updUnit_id]
  exact row

end

/-! ### The rows -/

section
variable {s : State} {u : Fin 16} {errs : Vector Nat 4} {bits : Nat}

theorem exec_ltuLock (rx : LockRx) (own : rx.unit = u) : exec (.ltuLock rx) s = .next
    (if (s.unit u).st = .locking ∧ s.now ≤ (s.unit u).startAt + lockTicks u ∧ (s.unit u).gen.locks rx.bits = true then
      s.updUnit u fun x => { x with st := .counting, locked := true } else s) := by
  rw [← own]
  rfl

/-- A checker that has not locked in time. -/
theorem ltuLockLoss_late (locking : (s.unit u).st = .locking) (late : u = 9 ∨ (s.unit u).startAt + lockTicks u ≤ s.now) :
    RowEnds s u (.ltuLockLoss u bits errs) 2 (s.unit u) :=
  rowEnds_as_is (by rw [locking]; rfl) (congrArg Host.Outcome.next ((if_pos locking).trans (if_pos late)))

theorem LtuSt.counting_ne_locking {x : LtuSt} (counting : x = .counting) : x ≠ .locking := by
  rw [counting]
  decide

/-- The loss of lock of a unit that counts. -/
theorem exec_ltuLockLoss_counting (counting : (s.unit u).st = .counting) : exec (.ltuLockLoss u bits errs) s = .next
    (if s.bitsComing u ∨ s.unitLeaseEnds u then s.putOff (.ltuLockLoss u bits errs)
      else if errs.toList.sum < 256 then s
      else
        let s1 := s.updUnit u fun x => x.counted (min bits x.goal) errs
        if bits ≥ (s.unit u).goal then
          if (s.unit u).eye then s1.updUnit u fun x => { x with st := .eye } else s1.unitEnd u 0 true
        else s1.unitEnd u 2 true) :=
  congrArg Host.Outcome.next ((if_neg (LtuSt.counting_ne_locking counting)).trans (if_pos counting))

theorem Ltu.counted_runs (x : Ltu) (bits : Nat) (errs : Vector Nat 4) : (x.counted bits errs).st.runs = x.st.runs := rfl

theorem LtuSt.counting_runs {x : LtuSt} (counting : x = .counting) : x.runs = true := by rw [counting]; rfl

/-- Lock lost before the bits are counted. -/
theorem ltuLockLoss_lost (counting : (s.unit u).st = .counting) (none : ¬ (s.bitsComing u = true ∨ s.unitLeaseEnds u = true))
    (wrong : 256 ≤ errs.toList.sum) (few : bits < (s.unit u).goal) :
    RowEnds s u (.ltuLockLoss u bits errs) 2 ((s.unit u).counted bits errs) := by
  have row := exec_ltuLockLoss_counting (bits := bits) (errs := errs) counting
  rw [if_neg none, if_neg (not_lt.2 wrong)] at row
  dsimp only at row
  rw [if_neg (not_le.2 few)] at row
  have ended := rowEnds_of (f := fun x => x.counted (min bits x.goal) errs) (LtuSt.counting_runs counting) row
  rwa [min_eq_left few.le] at ended

/-- The bits of a unit that counts are all counted. -/
theorem exec_ltuBitsReached_counting (counting : (s.unit u).st = .counting) : exec (.ltuBitsReached u errs) s = .next
    (if s.unitLeaseEnds u = true then s.putOff (.ltuBitsReached u errs)
      else
        let s1 := s.updUnit u fun x => x.counted x.goal errs
        if (s.unit u).eye then s1.updUnit u fun x => { x with st := .eye } else s1.unitEnd u 0 true) := by
  refine congrArg Host.Outcome.next ?_
  by_cases ends : s.unitLeaseEnds u = true
  · rw [if_pos ends]
    exact if_pos ⟨counting, ends⟩
  · rw [if_neg ends]
    exact (if_neg fun no => ends no.2).trans (if_pos counting)

theorem ltuBitsReached_ends (counting : (s.unit u).st = .counting) (leased : ¬ s.unitLeaseEnds u = true) (plain : (s.unit u).eye = false) :
    RowEnds s u (.ltuBitsReached u errs) 0 ((s.unit u).counted (s.unit u).goal errs) := by
  have row := exec_ltuBitsReached_counting (errs := errs) counting
  rw [if_neg leased] at row
  dsimp only at row
  rw [if_neg (by rw [plain]; decide)] at row
  exact rowEnds_of (f := fun x => x.counted x.goal errs) (LtuSt.counting_runs counting) row

theorem ltuBitsReached_scans (counting : (s.unit u).st = .counting) (leased : ¬ s.unitLeaseEnds u = true) (eye : (s.unit u).eye = true) :
    exec (.ltuBitsReached u errs) s = .next (s.updUnit u fun x => { x.counted x.goal errs with st := .eye }) := by
  rw [exec_ltuBitsReached_counting counting, if_neg leased]
  dsimp only
  rw [if_pos eye, State.updUnit_updUnit]
  rfl

/-- The margins of the lanes an eye scan measured (R449). -/
def Ltu.scanned (x : Ltu) (eyes : Vector EyeP 4) : Ltu :=
  { x with eyes := Vector.ofFn fun n : Fin 4 =>
      if x.lanes.testBit n.val then
        ⟨min 32 (eyes.get n).left, min 32 (eyes.get n).right, min 1020 (eyes.get n).top, min 1020 (eyes.get n).bottom⟩
      else Eye.none }

theorem eyeScanDone_ends (eyes : Vector EyeP 4) (scanning : (s.unit u).st = .eye) :
    RowEnds s u (.eyeScanDone u eyes) 0 ((s.unit u).scanned eyes) :=
  rowEnds_of (f := fun x => x.scanned eyes) (show (s.unit u).st.runs = true by rw [scanning]; rfl)
    (congrArg Host.Outcome.next (if_pos scanning))

/-- The time limit of a unit that runs. -/
theorem exec_linkTestTimeLimit (runs : (s.unit u).st.runs = true) (long : (s.unit u).startAt + 3600 * secTicks ≤ s.now) :
    exec (.linkTestTimeLimit u bits errs) s = .next
      ((if (s.unit u).st = .counting then s.updUnit u fun x => x.counted (min bits x.goal) errs else s).unitEnd u 0 true) :=
  congrArg Host.Outcome.next (if_pos ⟨runs, long⟩)

theorem timeLimit_counting (counting : (s.unit u).st = .counting) (long : (s.unit u).startAt + 3600 * secTicks ≤ s.now) :
    RowEnds s u (.linkTestTimeLimit u bits errs) 0 ((s.unit u).counted (min bits (s.unit u).goal) errs) := by
  have row := exec_linkTestTimeLimit (bits := bits) (errs := errs) (LtuSt.counting_runs counting) long
  rw [if_pos counting] at row
  exact rowEnds_of (f := fun x => x.counted (min bits x.goal) errs) (LtuSt.counting_runs counting) row

theorem timeLimit_else (phase : (s.unit u).st = .eye ∨ (s.unit u).st = .locking) (long : (s.unit u).startAt + 3600 * secTicks ≤ s.now) :
    RowEnds s u (.linkTestTimeLimit u bits errs) 0 (s.unit u) := by
  have runs : (s.unit u).st.runs = true := by
    obtain scanning | locking := phase
    · rw [scanning]
      rfl
    · rw [locking]
      rfl
  have row := exec_linkTestTimeLimit (bits := bits) (errs := errs) runs long
  have other : (s.unit u).st ≠ .counting := by
    obtain scanning | locking := phase
    · rw [scanning]
      decide
    · rw [locking]
      decide
  rw [if_neg other] at row
  exact rowEnds_as_is runs row

/-- A unit that does not run takes no notice. -/
theorem ltu_idle (idle : (s.unit u).st.runs = false) : exec (.ltuLockLoss u bits errs) s = .next s ∧
    exec (.ltuBitsReached u errs) s = .next s ∧ exec (.linkTestTimeLimit u bits errs) s = .next s := by
  have unlocked : (s.unit u).st ≠ .locking := fun no => by rw [no] at idle; cases idle
  have uncounted : (s.unit u).st ≠ .counting := fun no => by rw [no] at idle; cases idle
  exact ⟨congrArg Host.Outcome.next ((if_neg unlocked).trans (if_neg uncounted)),
    congrArg Host.Outcome.next ((if_neg fun no => uncounted no.1).trans (if_neg uncounted)),
    congrArg Host.Outcome.next (if_neg fun no => by rw [idle] at no; cases no.1)⟩

end

end Sys2Proof.Machine
end

section
/-! PROOFS. The patterns of a link test (R444, Table 22-2), the axis and sink self-tests, and what link tests do. -/

namespace Sys2Proof.Machine

/-! ### PRBS -/

/-- The bits a shift register of n places holds, the oldest first. -/
def registerBits (n w : Nat) : List Bool := (List.range n).map fun i => w.testBit (n - 1 - i)

@[simp] theorem registerBits_length (n w : Nat) : (registerBits n w).length = n := by simp [registerBits]

@[simp] theorem prbsFrom_length (n m len w : Nat) : (prbsFrom n m len w).length = len := by
  induction len generalizing w with
  | zero => rfl
  | succ len ih => exact congrArg Nat.succ (ih _)

theorem testBit_shifted (n w j : Nat) (b : Bool) :
    ((2 * w + bitAt 0 b) % 2 ^ n).testBit j = (decide (j < n) && if j = 0 then b else w.testBit (j - 1)) := by
  have bit : 2 * w + bitAt 0 b = Nat.bit b w := by cases b <;> rfl
  rw [Nat.testBit_mod_two_pow, bit]
  cases j with
  | zero => rw [Nat.testBit_bit_zero, if_pos rfl]
  | succ j => rw [Nat.testBit_bit_succ, if_neg (Nat.succ_ne_zero j), Nat.add_sub_cancel]

/-- A step of the register drops its oldest bit and takes the new one. -/
theorem registerBits_shift {n : Nat} (some : 0 < n) (w : Nat) (b : Bool) :
    registerBits n w ++ [b] = w.testBit (n - 1) :: registerBits n ((2 * w + bitAt 0 b) % 2 ^ n) := by
  refine List.ext_getElem (by simp) fun i below _ => ?_
  rw [List.length_append, registerBits_length, List.length_singleton] at below
  cases i with
  | zero => simp [registerBits, some]
  | succ i =>
    rw [List.getElem_cons_succ]
    simp only [registerBits, List.getElem_append, List.length_map, List.length_range, List.getElem_map, List.getElem_range,
      List.getElem_singleton, testBit_shifted]
    by_cases last : i + 1 < n
    · rw [dif_pos last, if_neg (by omega), decide_eq_true (by omega), Bool.true_and]
      congr 1
    · rw [dif_neg last, if_pos (by omega), decide_eq_true (by omega), Bool.true_and]

/-- Each bit after the register's is the exclusive or of those n and m places before it. -/
theorem prbsFrom_bit {n m : Nat} (m0 : 0 < m) (le : m ≤ n) (len w i : Nat) (below : i < len) : (prbsFrom n m len w).getD i false =
    xor ((registerBits n w ++ prbsFrom n m len w).getD i false) ((registerBits n w ++ prbsFrom n m len w).getD (i + n - m) false) := by
  induction len generalizing w i with
  | zero => exact absurd below (Nat.not_lt_zero i)
  | succ len ih =>
    have shift := registerBits_shift (lt_of_lt_of_le m0 le) w (xor (w.testBit (n - 1)) (w.testBit (m - 1)))
    have split : registerBits n w ++ prbsFrom n m (len + 1) w =
        w.testBit (n - 1) :: (registerBits n ((2 * w + bitAt 0 (xor (w.testBit (n - 1)) (w.testBit (m - 1)))) % 2 ^ n) ++
          prbsFrom n m len ((2 * w + bitAt 0 (xor (w.testBit (n - 1)) (w.testBit (m - 1)))) % 2 ^ n)) := by
      rw [← List.cons_append, ← shift, List.append_assoc]
      rfl
    cases i with
    | zero =>
      have back : (registerBits n w ++ prbsFrom n m (len + 1) w).getD (0 + n - m) false = w.testBit (m - 1) := by
        rw [List.getD_eq_getElem _ _ (by simp; omega), List.getElem_append_left (by simp; omega)]
        simp only [registerBits, List.getElem_map, List.getElem_range]
        congr 1
        omega
      rw [back, split]
      rfl
    | succ i =>
      have step := ih ((2 * w + bitAt 0 (xor (w.testBit (n - 1)) (w.testBit (m - 1)))) % 2 ^ n) i (Nat.lt_of_succ_lt_succ below)
      rw [split, show i + 1 + n - m = (i + n - m) + 1 by omega, List.getD_cons_succ, List.getD_cons_succ, ← step]
      rfl

theorem prbsFrom_take (n m k len w : Nat) : (prbsFrom n m (k + len) w).take k = prbsFrom n m k w := by
  induction k generalizing w with
  | zero => rfl
  | succ k ih =>
    rw [Nat.add_right_comm]
    exact congrArg (List.cons _) (ih _)

/-- A register of ones. -/
theorem registerBits_ones (n : Nat) : registerBits n (2 ^ n - 1) = List.replicate n true := by
  refine List.ext_getElem (by simp) fun i below _ => ?_
  rw [registerBits_length] at below
  rw [List.getElem_replicate]
  simp only [registerBits, List.getElem_map, List.getElem_range]
  rw [Nat.testBit_two_pow_sub_one]
  exact decide_eq_true (by omega)

/-- The bits of a PRBS before they are cut to length. -/
def prbsRun (n m len : Nat) : List Bool := registerBits n (2 ^ n - 1) ++ prbsFrom n m len (2 ^ n - 1)

section
variable {g : PatGen} {n m : Nat} (taps : prbsTaps g.pattern = some (n, m))
include taps

theorem PatGen.pure_prbs (len : Nat) : g.pure len = (prbsRun n m (len - n)).take len := by
  unfold PatGen.pure
  rw [taps, prbsRun, registerBits_ones]

theorem PatGen.pure_prbs_bit (m0 : 0 < m) (le : m ≤ n) {len i : Nat} (below : i < len) : (g.pure len).getD i false =
    if i < n then true else xor ((g.pure len).getD (i - n) false) ((g.pure len).getD (i - m) false) := by
  have cut (j : Nat) (below : j < len) : (g.pure len).getD j false = (prbsRun n m (len - n)).getD j false := by
    rw [PatGen.pure_prbs taps, List.getD_eq_getElem?_getD, List.getD_eq_getElem?_getD, List.getElem?_take_of_lt below]
  by_cases seed : i < n
  · rw [cut i below, if_pos seed, prbsRun, registerBits_ones, List.getD_eq_getElem _ _ (by simp; omega),
      List.getElem_append_left (by simpa using seed), List.getElem_replicate]
  · rw [cut i below, if_neg seed, cut (i - n) (by omega), cut (i - m) (by omega)]
    have bit := prbsFrom_bit m0 le (len - n) (2 ^ n - 1) (i - n) (by omega)
    rw [show i - n + n - m = i - m by omega] at bit
    unfold prbsRun
    rw [← bit, List.getD_append_right _ _ _ _ (by simpa using not_lt.1 seed), registerBits_length]

theorem PatGen.pure_prbs_length (len : Nat) : (g.pure len).length = len := by
  rw [PatGen.pure_prbs taps, List.length_take, prbsRun, List.length_append, registerBits_length, prbsFrom_length]
  omega

/-- A checker that seeds itself with ones locks on the PRBS. -/
theorem PatGen.locks_pure {len : Nat} (seed : (List.replicate n true).foldl (fun w b => 2 * w + bitAt 0 b) 0 = 2 ^ n - 1)
    (long : n + 64 ≤ len) : g.locks (g.pure len) = true := by
  have parts : len - n = 64 + (len - n - 64) := by omega
  have first : (g.pure len).take n = List.replicate n true := by
    rw [PatGen.pure_prbs taps, List.take_take, min_eq_left (by omega), prbsRun, List.take_left' (by simp), registerBits_ones]
  have rest : ((g.pure len).drop n).take 64 = prbsFrom n m 64 (2 ^ n - 1) := by
    rw [PatGen.pure_prbs taps, List.drop_take, List.take_take, min_eq_left (by omega), prbsRun, List.drop_left' (by simp), parts,
      prbsFrom_take]
  unfold PatGen.locks
  rw [taps]
  dsimp only
  rw [PatGen.pure_prbs_length taps, first, rest, seed, decide_eq_true long, Bool.true_and]
  exact beq_self_eq_true _

end

/-! ### Word patterns and injected errors -/

theorem PatGen.pure_word {g : PatGen} (word : prbsTaps g.pattern = none) (len : Nat) :
    g.pure len = (List.range len).map (wordBit g.pattern g.user) := by
  unfold PatGen.pure
  rw [word]

theorem PatGen.pure_length (g : PatGen) (len : Nat) : (g.pure len).length = len := by
  cases taps : prbsTaps g.pattern with
  | none => rw [PatGen.pure_word taps, List.length_map, List.length_range]
  | some nm => exact PatGen.pure_prbs_length taps len

theorem PatGen.pure_word_bit {g : PatGen} (word : prbsTaps g.pattern = none) {len i : Nat} (below : i < len) :
    (g.pure len).getD i false = wordBit g.pattern g.user i := by
  rw [PatGen.pure_word word, List.getD_eq_getElem _ _ (by simpa using below), List.getElem_map, List.getElem_range]

theorem PatGen.sent_plain {g : PatGen} (plain : g.inject = false) (len : Nat) : g.sent len = g.pure len := by
  unfold PatGen.sent
  rw [plain]
  simp

theorem prbsTaps_listed {p n m : Nat} (listed : (p, n, m) ∈ [(0, 7, 6), (1, 15, 14), (2, 23, 18), (3, 31, 28)]) :
    prbsTaps p = some (n, m) ∧ 0 < m ∧ m ≤ n ∧ (List.replicate n true).foldl (fun w b => 2 * w + bitAt 0 b) 0 = 2 ^ n - 1 := by
  simp only [List.mem_cons, Prod.mk.injEq, List.not_mem_nil, or_false] at listed
  obtain ⟨rfl, rfl, rfl⟩ | ⟨rfl, rfl, rfl⟩ | ⟨rfl, rfl, rfl⟩ | ⟨rfl, rfl, rfl⟩ := listed <;> decide

/-- INJECT inverts exactly one bit of each 2^20. -/
theorem injected_once (k : Nat) : ∃ i, i / 2 ^ 20 = k ∧ injected i = true ∧ ∀ j, j / 2 ^ 20 = k → injected j = true → j = i := by
  have place (i : Nat) (own : i / 2 ^ 20 = k) : injected i = true ↔ i % 2 ^ 20 = Config.freeNat k % 2 ^ 20 := by
    rw [injected, own, beq_iff_eq]
  have small : Config.freeNat k % 2 ^ 20 < 2 ^ 20 := Nat.mod_lt _ (by decide)
  generalize Config.freeNat k % 2 ^ 20 = f at place small
  refine ⟨k * 2 ^ 20 + f, by omega, (place _ (by omega)).2 (by omega), fun j own inverted => ?_⟩
  have at_ := (place j own).1 inverted
  omega

/-! ### Self-tests -/

/-- The sinks of a group that a measurement picks out. -/
def State.sinksWhere (s : State) (g : Fin 8) (f : Nat → Bool) : Nat :=
  maskOf 48 fun i => (match s.illum.sinks[i]? with
    | some x => x.group == some g
    | none => false) && f i

theorem State.sinksWhere_testBit (s : State) (g : Fin 8) (f : Nat → Bool) (n : Fin 48) :
    (s.sinksWhere g f).testBit n.val = ((s.illum.sinks.get n).group == some g && f n.val) := by
  rw [State.sinksWhere, maskOf_testBit, decide_eq_true n.isLt, Bool.true_and, Vector.getElem?_eq_getElem n.isLt]
  rfl

/-- A sink self-test that ends. -/
def SkTest.over (x : SkTest) (opens shorts : Nat) : SkTest := { x with running := false, done := true, opens := opens, shorts := shorts }

theorem Vector.getD_fin (v : Vector Nat 48) (n : Fin 48) : v.getD n.val 0 = v.get n := by
  simp [Vector.getD, Vector.get]

theorem sinkSelfTestDone_acts (s : State) (g : Fin 8) (ua mv : Vector Nat 48) : if (s.test.sink.get g).running = true then
      ∃ t k, exec (.sinkSelfTestDone g ua mv) s = .next t ∧ t.test.sink.get g = k ∧ k.running = false ∧ k.done = true ∧
        (∀ n : Fin 48, k.opens.testBit n.val =
          ((s.illum.sinks.get n).group == some g && decide (ua.get n < 500))) ∧
        (∀ n : Fin 48, k.shorts.testBit n.val =
          ((s.illum.sinks.get n).group == some g && decide (s.illum.shortMv < mv.get n))) ∧
        t.illum.sinks = s.illum.sinks ∧ t.test.units = s.test.units ∧ t.test.axis = s.test.axis ∧ t.axes = s.axes
    else exec (.sinkSelfTestDone g ua mv) s = .next s := by
  by_cases runs : (s.test.sink.get g).running = true
  · rw [if_pos runs]
    have open_ (n : Fin 48) := s.sinksWhere_testBit g (fun i => decide (ua.getD i 0 < 500)) n
    have short (n : Fin 48) := s.sinksWhere_testBit g (fun i => decide (mv.getD i 0 > s.illum.shortMv)) n
    have row : exec (.sinkSelfTestDone g ua mv) s = .next _ := congrArg Host.Outcome.next (if_pos runs)
    refine ⟨_, (s.test.sink.get g).over (s.sinksWhere g fun i => decide (ua.getD i 0 < 500))
      (s.sinksWhere g fun i => decide (mv.getD i 0 > s.illum.shortMv)), row, bankUpd_get_self _ _ _, rfl, rfl, fun n => ?_,
      fun n => ?_, rfl, rfl, rfl, rfl⟩
    · rw [← Vector.getD_fin]
      exact open_ n
    · rw [← Vector.getD_fin]
      exact short n
  · rw [if_neg runs]
    exact congrArg Host.Outcome.next (if_neg runs)

/-! ### What link tests do -/

/-- A start in range of a unit that is free. -/
theorem Accepted.startFree {s : State} {h : Hdr} {p : LinkStartP} {ses : Session} (ok : Accepted s h (.linkTestStart p) ses)
    (ranges : s.linkRanges (testUnit h) p) (idle : ¬ s.testBusy h) (jobs : ¬ s.testJobs (testUnit h))
    (barred : ¬ s.testBarred (testUnit h)) :
    if (testUnit h = 1 ∧ p.loop = 2) ∧ Config.phyAnswers s.free = false then
      CompletesLoud (.linkTestStart h p) s h 0x60 eHwFault [] (s.overMdio (testUnit h) p)
    else CompletesLoud (.linkTestStart h p) s h 0x60 stAccepted []
      ((s.testBegun s.now (testUnit h) p h.port ses.serial).ptpBarred (testUnit h)) := by
  by_cases mute : (testUnit h = 1 ∧ p.loop = 2) ∧ Config.phyAnswers s.free = false
  · rw [if_pos mute, State.overMdio, if_pos mute.1]
    exact ok.startUnanswered ranges idle jobs barred mute.1 mute.2
  · rw [if_neg mute]
    exact ok.startAnswered ranges idle jobs barred mute

/-- What a pattern is (R444, Table 22-2). -/
theorem PatGen.pure_acts (g : PatGen) (len : Nat) :
    (g.pure len).length = len ∧ (g.inject = false → g.sent len = g.pure len) ∧
    (∀ n m, (g.pattern, n, m) ∈ [(0, 7, 6), (1, 15, 14), (2, 23, 18), (3, 31, 28)] →
      (∀ i, i < len → (g.pure len).getD i false =
        if i < n then true else xor ((g.pure len).getD (i - n) false) ((g.pure len).getD (i - m) false)) ∧
      (n + 64 ≤ len → g.locks (g.pure len) = true)) ∧
    ∀ i, i < len → (g.pattern = 4 → ((g.pure len).getD i false = true ↔ i % 64 = i / 64 % 64)) ∧
      (g.pattern = 5 → ((g.pure len).getD i false = true ↔ i % 2 = 0)) ∧
      (g.pattern = 6 → (g.pure len).getD i false = g.user.getLsbD (i % 64)) := by
  refine ⟨g.pure_length len, fun plain => PatGen.sent_plain plain len, fun n m listed => ?_, fun i below => ⟨fun word => ?_,
    fun word => ?_, fun word => ?_⟩⟩
  · obtain ⟨taps, m0, le, seed⟩ := prbsTaps_listed listed
    exact ⟨fun i below => PatGen.pure_prbs_bit taps m0 le below, PatGen.locks_pure taps seed⟩
  · rw [PatGen.pure_word_bit (by rw [word]; rfl) below, word]
    exact beq_iff_eq
  · rw [PatGen.pure_word_bit (by rw [word]; rfl) below, word]
    exact beq_iff_eq
  · rw [PatGen.pure_word_bit (by rw [word]; rfl) below, word]
    rfl

/-- Settles O33: LINK_TEST_START and LINK_TEST_RESULT of an accepted command, each row of a unit by the phase of its test, the
patterns from the shift register that makes them, and the two self-tests. -/
theorem linkTestsAct : Obligations.LinkTestsAct := by
  unfold Obligations.LinkTestsAct
  refine ⟨⟨fun s h ses p ok => ⟨ok.startFree, ok.startCarried, ok.startWhileJobs, ok.startBarred, ok.startOutOfRange⟩,
    fun s h ses ok => ⟨s.unitResult_length _, ok.testResult⟩⟩, fun s u errs bits => ?_, PatGen.pure_acts,
    injected_once, fun s n c g i => rfl, sinkSelfTestDone_acts⟩
  refine ⟨exec_ltuLock, ltuLockLoss_late, fun counting gives => ?_, fun counting none stays => ?_, fun counting gives => ?_,
    ltuBitsReached_ends, ltuBitsReached_scans, eyeScanDone_ends, timeLimit_counting, timeLimit_else, ltu_idle⟩
  · exact (exec_ltuLockLoss_counting counting).trans (congrArg _ (if_pos gives))
  · have stays : ¬ (s.bitsComing u = true ∨ s.unitLeaseEnds u = true) := fun no =>
      no.elim (fun coming => by rw [none] at coming; cases coming) stays
    refine ⟨fun few => ?_, ltuLockLoss_lost counting stays⟩
    exact (exec_ltuLockLoss_counting counting).trans (congrArg _ ((if_neg stays).trans (if_pos few)))
  · exact (exec_ltuBitsReached_counting counting).trans (congrArg _ (if_pos gives))

end Sys2Proof.Machine
end

section
/-! PROOFS. The rows of the start (R60, R66 to R68, R72, R73, R80, R85, R161, R162, R197). -/

namespace Sys2Proof.Machine

/-! ### What each part of the start touches -/

theorem forAll_updTimer (f : Nat → Fin 16 → Timer → Timer) (s : State) : ∃ v, forAll s (fun u n => u.updTimer n (f u.d02 n)) =
    { s with timers := v } ∧ ∀ n, v.get n = f s.d02 n (s.timers.get n) := by
  have walk (l : List (Fin 16)) (u : State) : l.foldl (fun (u : State) n => u.updTimer n (f u.d02 n)) u =
      { u with timers := l.foldl (fun v n => bankUpd v n (f u.d02 n)) u.timers } := by
    induction l generalizing u with
    | nil => rfl
    | cons n l ih => exact ih (u.updTimer n (f u.d02 n))
  refine ⟨_, walk _ s, fun n => ?_⟩
  rw [foldl_bankUpd _ (List.nodup_finRange 16), if_pos (List.mem_finRange n)]

/-- D02 runs: every timer starts at a valley. -/
theorem State.timersStart_frame (s : State) : ∃ v, s.timersStart = { s with timers := v } ∧
    ∀ n, (v.get n).run = true ∧ (v.get n).valleyAt = s.d02 := by
  obtain ⟨v, frame, each⟩ := forAll_updTimer (fun d n t => { t with
    run := true, valleyAt := d, capEdge := if n.val < 8 then 2 else t.capEdge, capFilt := if n.val < 8 then 0 else t.capFilt }) s
  refine ⟨v, frame, fun n => ?_⟩
  rw [each]
  exact ⟨rfl, rfl⟩

theorem State.timeLoad_frame (s : State) : ∃ t o, s.timeLoad = { s with tb := t, owners := o } := by
  unfold State.timeLoad
  split
  · next n _ =>
    obtain ⟨frame, -, -, -⟩ := s.selectRef_keeps n
    rw [frame]
    exact ⟨_, _, rfl⟩
  · exact ⟨s.tb, s.owners, rfl⟩

theorem State.radioStart_frame (s : State) : ∃ q, s.radioStart =
    { s with radio := { s.radio with fc := (s.store.coordFc + 256) % 2 ^ 32 }, store := { s.store with queue := q } } := by
  unfold State.radioStart
  dsimp only
  split
  · exact ⟨_, rfl⟩
  · exact ⟨s.store.queue, rfl⟩

theorem State.repin_frame (s : State) : ∃ c, s.repin = { s with cores := c } := by
  refine forAll_keeps (P := fun t => ∃ c, t = { s with cores := c }) ?_ s ⟨s.cores, rfl⟩
  rintro t c ⟨x, rfl⟩
  dsimp only
  split
  · exact ⟨x, rfl⟩
  · split
    · exact ⟨_, rfl⟩
    · split
      · exact ⟨_, rfl⟩
      · exact ⟨x, rfl⟩

theorem State.gearStart_frame (s : State) : ∃ l, s.gearStart = { s with lbus := l } := by
  unfold State.gearStart
  dsimp only
  have mapped : ∃ l, forAll s (fun (s : State) (n : Fin 16) => s.updLbus fun l =>
      { l with gear := bankSet l.gear n ((s.store.gear.get n).map fun v =>
          { Gear.ofVars v (if v.powerOn = 255 then v.lastActive else v.powerOn) with powerCycle := true, savedAt := s.now }) }) =
      { s with lbus := l } := by
    refine forAll_keeps (P := fun t => ∃ l, t = { s with lbus := l }) ?_ s ⟨s.lbus, rfl⟩
    rintro t n ⟨l, rfl⟩
    exact ⟨_, rfl⟩
  refine forAll_keeps (P := fun t => ∃ l, t = { s with lbus := l }) ?_ _ mapped
  rintro t n ⟨l, rfl⟩
  exact ⟨_, rfl⟩

/-- The domain sets are drawn one after the other, SELF's first. -/
theorem State.fillDomains_drawn (s : State) : s.fillDomains.keys.table.get (slotDomain 0) = s.draws ∧ s.fillDomains.draws = s.draws + 4 := by
  refine ⟨?_, rfl⟩
  have set (v : Vector Nat 74) (i j : Fin 74) (x : Nat) (ne : i ≠ j) : (bankSet v i x).get j = v.get j :=
    (bankSet_get v i j x).trans (if_neg ne)
  refine (set _ _ _ _ (by decide)).trans ((set _ _ _ _ (by decide)).trans ((set _ _ _ _ (by decide)).trans ?_))
  exact bankSet_get_self _ _ _

theorem State.linkErr_frame (s : State) (source snapshot : Nat) : ∃ o, s.linkErr source snapshot = { s with owners := o } :=
  ⟨_, s.raiseAll_onlyOwners _ _ _ _⟩

/-! ### The clocks -/

theorem pllLock_acts (s : State) : if s.boot.step = .pllWait ∧ s.fabric.pllC = false then
      ∃ t, exec .pllLock s = .next t ∧ t.tb.running = true ∧
        t.boot = { s.boot with step :=
          if s.fabric.tcxoOk = true ∧ s.now ≤ s.boot.releasedAt + 10 * msTicks then .readBoot1 else .pllWait } ∧
        t.fabric = { s.fabric with
          pllC := true, pllF := true, d02Run := true, xt32Ok := decide (s.fabric.d00 = .crystal) } ∧
        (∀ n, (t.timers.get n).run = true ∧ (t.timers.get n).valleyAt = s.d02) ∧
        t.axes = s.axes ∧ t.mem = s.mem ∧ t.owners = s.owners
    else exec .pllLock s = .next s := by
  by_cases waits : s.boot.step = .pllWait ∧ s.fabric.pllC = false
  · obtain ⟨step, unlocked⟩ := waits
    rw [if_pos ⟨step, unlocked⟩]
    have row : exec .pllLock s = .next (((s.updFabric fun f =>
        { f with pllC := true, pllF := true, d02Run := true, xt32Ok := f.d00 == .crystal }).timersStart.updTb fun t =>
          { t with running := true, msNext := 1 }).clocksReady) :=
      congrArg Host.Outcome.next (if_neg fun no => no.elim (· step) fun locked => by rw [unlocked] at locked; cases locked)
    obtain ⟨v, frame, started⟩ := (s.updFabric fun f =>
      { f with pllC := true, pllF := true, d02Run := true, xt32Ok := f.d00 == .crystal }).timersStart_frame
    rw [frame] at row
    unfold State.clocksReady at row
    refine ⟨_, row, ?_⟩
    by_cases ready : s.fabric.tcxoOk = true ∧ s.now ≤ s.boot.releasedAt + 10 * msTicks
    · rw [if_pos ready, if_pos ⟨step, rfl, rfl, ready⟩]
      exact ⟨rfl, rfl, rfl, started, rfl, rfl, rfl⟩
    · rw [if_neg ready, if_neg fun no => ready no.2.2.2, ← step]
      exact ⟨rfl, rfl, rfl, started, rfl, rfl, rfl⟩
  · rw [if_neg waits]
    refine congrArg Host.Outcome.next (if_pos ?_)
    by_cases step : s.boot.step = .pllWait
    · exact .inr (Bool.not_eq_false _ ▸ fun no => waits ⟨step, no⟩)
    · exact .inl step

/-! ### The choice of the slot -/

/-- The slot the boot ROM chooses verifies whole. -/
theorem State.chooseSlot_sound {s : State} {x : Fin 2} (chosen : s.chooseSlot.1 = some x) : s.failing x = 0 := by
  unfold State.chooseSlot at chosen
  dsimp only at chosen
  generalize (if s.flash.worn s.flash.recorded = true then otherSlot s.flash.recorded else s.flash.recorded) = first at chosen
  split at chosen
  · cases chosen
  · split at chosen
    · next whole =>
      rw [← Option.some.inj chosen]
      exact whole
    · split at chosen
      · next whole =>
        rw [← Option.some.inj chosen]
        exact whole
      · cases chosen

theorem State.enterRecovery_frame (s : State) : ∃ w t o, s.enterRecovery =
    { s with boot := { s.boot with dev := .recovery, step := .done, slot := s.flash.recorded, wm := w }, tb := t, owners := o } := by
  unfold State.enterRecovery State.extend
  dsimp only
  obtain ⟨t, o, frame⟩ := ((s.updBoot fun b => { b with dev := .recovery, step := .done, slot := s.flash.recorded }).extend 6
    (digest ((s.updBoot fun b => { b with dev := .recovery, step := .done, slot := s.flash.recorded }).configRecord .recovery
      s.flash.recorded))).timeLoad_frame
  exact ⟨_, t, o, frame⟩

/-- BOOT1_VERIFIED with a slot that verifies. -/
def State.slotRuns (s : State) (x : Fin 2) : State :=
  let s1 := s.updBoot fun b => { b with rejected := s.chooseSlot.2, recorded := s.flash.recorded, recordsRead := true }
  let s2 : State := { s1 with
    flash := { s1.flash with marks := bankUpd s1.flash.marks x fun n => min 256 (n + 1) },
    keys := { s1.keys with entOk := !s1.keys.startFail, seededAt := s1.now } }
  s2.updBoot fun b =>
    { b with slot := x, fallback := x != s.flash.recorded, step := .readImages,
             running := Vector.ofFn fun k : Fin 6 => s.verified x k }

theorem exec_boot1Verified {s : State} (reads : s.boot.step = .readBoot1) : exec .boot1Verified s = .next
    (match s.chooseSlot.1 with
      | none => (s.updBoot fun b => { b with rejected := s.chooseSlot.2, recorded := s.flash.recorded, recordsRead := true }).enterRecovery
      | some x =>
        match s.verified x 0 with
        | some i => (s.slotRuns x).extend 0 (fit 48 i.digest)
        | none => s.slotRuns x) :=
  congrArg Host.Outcome.next (if_neg (not_not.2 reads))

theorem boot1Verified_acts (s : State) : if s.boot.step ≠ .readBoot1 then exec .boot1Verified s = .next s
    else ∃ t, exec .boot1Verified s = .next t ∧ t.otp = s.otp ∧ t.flash.cmt = s.flash.cmt ∧ t.boot.recorded = s.flash.recorded ∧
      match s.chooseSlot.1 with
      | some x =>
        t.boot.slot = x ∧ t.boot.step = .readImages ∧ s.failing x = 0 ∧ t.boot.fallback = (x != s.flash.recorded) ∧
          t.flash.marks = bankSet s.flash.marks x (min 256 (s.flash.marks.get x + 1)) ∧
          (∀ k, t.boot.running.get k = s.verified x k) ∧ (∀ i, i ≠ 0 → t.boot.wm.get i = s.boot.wm.get i) ∧
          (∀ i, s.verified x 0 = some i → t.boot.wm.get 0 = digest (s.boot.wm.get 0 ++ fit 48 i.digest))
      | none => t.boot.dev = .recovery ∧ t.boot.step = .done ∧ t.flash = s.flash := by
  by_cases reads : s.boot.step = .readBoot1
  · rw [if_neg (not_not.2 reads)]
    have row := exec_boot1Verified reads
    cases chosen : s.chooseSlot.1 with
    | none =>
      rw [chosen] at row
      obtain ⟨w, t, o, frame⟩ := (s.updBoot fun b =>
        { b with rejected := s.chooseSlot.2, recorded := s.flash.recorded, recordsRead := true }).enterRecovery_frame
      dsimp only at row
      rw [frame] at row
      exact ⟨_, row, rfl, rfl, rfl, rfl, rfl, rfl⟩
    | some x =>
      rw [chosen] at row
      have whole := State.chooseSlot_sound chosen
      have runs (k : Fin 6) : (Vector.ofFn fun k : Fin 6 => s.verified x k).get k = s.verified x k := by
        simp [Vector.get_eq_getElem]
      cases first : s.verified x 0 with
      | none =>
        dsimp only at row
        rw [first] at row
        exact ⟨_, row, rfl, rfl, rfl, rfl, rfl, whole, rfl, rfl, runs, fun _ _ => rfl,
          fun _ no => by rw [first] at no; cases no⟩
      | some i =>
        dsimp only at row
        rw [first] at row
        refine ⟨_, row, rfl, rfl, rfl, rfl, rfl, whole, rfl, rfl, runs, fun j ne => ?_, fun j same => ?_⟩
        · exact (bankUpd_get _ _ _ _).trans (if_neg ne.symm)
        · rw [first] at same
          rw [← Option.some.inj same]
          exact bankUpd_get_self _ _ _
  · rw [if_pos reads]
    exact congrArg Host.Outcome.next (if_pos reads)

/-! ### The images -/

/-- The measurement of an image into its register. -/
def measured (running : Vector (Option ImageInfo) 6) (w : Vector Bytes 8) (k : Fin 5) : Vector Bytes 8 :=
  match running.get k.succ with
  | some i => bankUpd w (Fin.ofNat 8 (k.val + 1)) fun w => digest (w ++ fit 48 i.digest)
  | none => w

theorem measured_other (running : Vector (Option ImageInfo) 6) (w : Vector Bytes 8) (k : Fin 5) (j : Fin 8)
    (ne : j ≠ Fin.ofNat 8 (k.val + 1)) : (measured running w k).get j = w.get j := by
  unfold measured
  split
  · exact (bankUpd_get _ _ _ _).trans (if_neg ne.symm)
  · rfl

theorem measured_all (running : Vector (Option ImageInfo) 6) (w : Vector Bytes 8) (k : Fin 5) {i : ImageInfo}
    (runs : running.get k.succ = some i) : (forAll w (measured running)).get (Fin.ofNat 8 (k.val + 1)) =
      digest (w.get (Fin.ofNat 8 (k.val + 1)) ++ fit 48 i.digest) := by
  have apart (k g : Fin 5) (ne : g ≠ k) : Fin.ofNat 8 (g.val + 1) ≠ Fin.ofNat 8 (k.val + 1) := by
    revert k g
    decide
  have entry := forAll_entry (f := measured running) (fun w (k : Fin 5) => (k, w.get (Fin.ofNat 8 (k.val + 1))))
    (fun w k g ne => congrArg (Prod.mk g) (measured_other running w k _ (apart k g ne)))
    (P := fun x y => ∀ i, running.get x.1.succ = some i → y.2 = digest (x.2 ++ fit 48 i.digest)) (fun w k i runs => ?_) w k
  · exact entry i runs
  · unfold measured
    rw [runs]
    exact bankUpd_get_self _ _ _

/-- WM1 to WM5 measured. -/
def State.imagesMeasured (s : State) : State :=
  forAll s fun s (k : Fin 5) =>
    match s.boot.running.get k.succ with
    | some i => s.extend (Fin.ofNat 8 (k.val + 1)) (fit 48 i.digest)
    | none => s

theorem State.imagesMeasured_frame (s : State) : s.imagesMeasured = { s with boot := { s.boot with wm := forAll s.boot.wm (measured s.boot.running) } } := by
  have walk (l : List (Fin 5)) (u : State) : l.foldl (fun (s : State) (k : Fin 5) =>
      match s.boot.running.get k.succ with
      | some i => s.extend (Fin.ofNat 8 (k.val + 1)) (fit 48 i.digest)
      | none => s) u = { u with boot := { u.boot with wm := l.foldl (measured u.boot.running) u.boot.wm } } := by
    induction l generalizing u with
    | nil => rfl
    | cons k l ih =>
      rw [List.foldl_cons, List.foldl_cons, measured]
      cases runs : u.boot.running.get k.succ with
      | none => exact ih u
      | some i => exact ih (u.extend (Fin.ofNat 8 (k.val + 1)) (fit 48 i.digest))
  exact walk _ s

theorem State.loadKeys_frame (s : State) : ∃ w, s.loadKeys = { s with keys := s.keys.loadAreas, boot := { s.boot with wm := w } } ∧
    ∀ j, j ≠ 7 → w.get j = s.boot.wm.get j := by
  have started : ∃ w, s.updKeys KeyState.loadAreas = { s with keys := s.keys.loadAreas, boot := { s.boot with wm := w } } ∧
      ∀ j, j ≠ 7 → w.get j = s.boot.wm.get j := ⟨s.boot.wm, rfl, fun _ _ => rfl⟩
  unfold State.loadKeys
  refine forAll_keeps (P := fun t => ∃ w, t = { s with keys := s.keys.loadAreas, boot := { s.boot with wm := w } } ∧
    ∀ j, j ≠ 7 → w.get j = s.boot.wm.get j) (fun t p kept => ?_) _ started
  refine forAll_keeps (P := fun t => ∃ w, t = { s with keys := s.keys.loadAreas, boot := { s.boot with wm := w } } ∧
    ∀ j, j ≠ 7 → w.get j = s.boot.wm.get j) (fun t i kept => ?_) _ kept
  obtain ⟨w, rfl, same⟩ := kept
  dsimp only
  split
  · exact ⟨_, rfl, fun j ne => ((bankUpd_get _ _ _ _).trans (if_neg ne.symm)).trans (same j ne)⟩
  · exact ⟨w, rfl, same⟩

theorem KeyState.loadAreas_keeps (k : KeyState) : k.loadAreas.sealKey = true ∧ k.loadAreas.table = k.table ∧
    k.loadAreas.startFail = k.startFail := by
  unfold KeyState.loadAreas KeyState.writeArea
  dsimp only
  split
  · exact ⟨rfl, rfl, rfl⟩
  · split
    · exact ⟨rfl, rfl, rfl⟩
    · split
      · exact ⟨rfl, rfl, rfl⟩
      · exact ⟨rfl, rfl, rfl⟩

/-- The versions compared. -/
def State.imagesPaired (s : State) : State :=
  s.imagesMeasured.updBoot fun b => { b with mismatch := mismatchMap fun k => b.running.getD k none }

/-- The configuration measured and the enrolments read. -/
def State.imagesJudged (s : State) : State :=
  (s.imagesPaired.extend 6 (digest (s.imagesPaired.configRecord s.imagesPaired.targetState s.imagesPaired.boot.slot))).loadKeys

theorem exec_imagesVerified {s : State} (reads : s.boot.step = .readImages) : exec .imagesVerified s = .next
    (s.imagesJudged.updBoot fun b =>
      { b with target := s.imagesPaired.targetState, mboit := true,
               step := if s.imagesJudged.bootHot then .thermalWait else .waitEarly }) :=
  congrArg Host.Outcome.next (if_neg (not_not.2 reads))

/-- The start with a map of mismatches and measurements. -/
def State.paired (s : State) (m : Nat) (w : Vector Bytes 8) : State := { s with boot := { s.boot with mismatch := m, wm := w } }

theorem State.paired_judged (s : State) (m : Nat) (w : Vector Bytes 8) (d : Bytes) : ∃ v, ((s.paired m w).extend 6 d).loadKeys =
    { s.paired m v with keys := s.keys.loadAreas } ∧ ∀ j, j ≠ 6 → j ≠ 7 → v.get j = w.get j := by
  obtain ⟨v, frame, kept⟩ := ((s.paired m w).extend 6 d).loadKeys_frame
  exact ⟨v, frame, fun j six seven => (kept j seven).trans ((bankUpd_get _ _ _ _).trans (if_neg six.symm))⟩

theorem State.imagesPaired_eq (s : State) : s.imagesPaired =
    s.paired (mismatchMap fun k => s.boot.running.getD k none) (forAll s.boot.wm (measured s.boot.running)) := by
  unfold State.imagesPaired
  rw [State.imagesMeasured_frame]
  rfl

theorem State.imagesJudged_frame (s : State) : ∃ v, s.imagesJudged =
      { s.paired (mismatchMap fun k => s.boot.running.getD k none) v with keys := s.keys.loadAreas } ∧
    ∀ j, j ≠ 6 → j ≠ 7 → v.get j = (forAll s.boot.wm (measured s.boot.running)).get j := by
  unfold State.imagesJudged
  rw [State.imagesPaired_eq]
  generalize mismatchMap (fun k => s.boot.running.getD k none) = m
  generalize forAll s.boot.wm (measured s.boot.running) = w
  exact s.paired_judged m w _

/-- DEV_STATE after the check, of the state at the end of the row. -/
theorem State.judged_target (s : State) (m : Nat) (v w : Vector Bytes 8) (k : KeyState) (same : k.startFail = s.keys.startFail)
    (step : BootStep) (d : DevState) :
    ({ { s.paired m v with keys := k } with boot := { (s.paired m v).boot with target := d, mboit := true, step := step } } : State).targetState =
      (s.paired m w).targetState := by
  unfold State.targetState
  dsimp only
  rw [same]
  rfl

theorem imagesVerified_acts (s : State) : if s.boot.step ≠ .readImages then exec .imagesVerified s = .next s
    else ∃ t, exec .imagesVerified s = .next t ∧ t.boot.mismatch = mismatchMap (fun k => s.boot.running.getD k none) ∧
      t.boot.target = t.targetState ∧ t.boot.mboit = true ∧ t.boot.dev = s.boot.dev ∧ t.boot.running = s.boot.running ∧
      t.boot.step = (if s.bootHot = true then .thermalWait else .waitEarly) ∧
      (∀ (k : Fin 5) i, s.boot.running.get k.succ = some i →
        t.boot.wm.get (Fin.ofNat 8 (k.val + 1)) = digest (s.boot.wm.get (Fin.ofNat 8 (k.val + 1)) ++ fit 48 i.digest)) ∧
      t.keys.sealKey = true ∧ t.keys.table = s.keys.table ∧ t.axes = s.axes ∧ t.mem = s.mem ∧ t.otp = s.otp := by
  by_cases reads : s.boot.step = .readImages
  · rw [if_neg (not_not.2 reads)]
    have row := exec_imagesVerified reads
    obtain ⟨v, frame, kept⟩ := s.imagesJudged_frame
    obtain ⟨sealed_, table, failed⟩ := s.keys.loadAreas_keeps
    have target := s.judged_target (mismatchMap fun k => s.boot.running.getD k none) v (forAll s.boot.wm (measured s.boot.running))
      s.keys.loadAreas failed
    have measures (k : Fin 5) (i : ImageInfo) := measured_all s.boot.running s.boot.wm k (i := i)
    rw [frame, State.imagesPaired_eq] at row
    generalize mismatchMap (fun k => s.boot.running.getD k none) = m at row target ⊢
    generalize forAll s.boot.wm (measured s.boot.running) = w at row target kept measures
    generalize s.keys.loadAreas = keys at row target sealed_ table
    refine ⟨_, row, rfl, (target _ _).symm, rfl, rfl, rfl, rfl, fun k i runs => ?_, sealed_, table, rfl, rfl, rfl⟩
    have low : ∀ k : Fin 5, Fin.ofNat 8 (k.val + 1) ≠ 6 ∧ Fin.ofNat 8 (k.val + 1) ≠ 7 := by decide
    exact (kept _ (low k).1 (low k).2).trans (measures k i runs)
  · rw [if_pos reads]
    exact congrArg Host.Outcome.next (if_pos reads)

/-! ### EARLY -/

theorem Timer.writePreload_keeps (t : Timer) (d : Nat) (f : TimSet → TimSet) :
    (t.writePreload d f).preload = f t.preload ∧ (t.writePreload d f).capEdge = t.capEdge := by
  unfold Timer.writePreload
  dsimp only
  split
  · exact ⟨rfl, rfl⟩
  · exact ⟨rfl, rfl⟩

theorem State.coresIdle_core (s : State) (c : Fin 32) : (s.coresIdle.core1 c).st = if (s.core1 c).st = .off then .idle else (s.core1 c).st := by
  have mapped : s.coresIdle.core1 c = if (s.core1 c).st = .off then { s.core1 c with st := .idle, idleAt := s.now } else s.core1 c := by
    simp [State.coresIdle, State.core1, State.updCores, Vector.get_eq_getElem]
    rfl
  rw [mapped]
  split
  · rfl
  · rfl

/-- The start as Mboit answers, before the settings act. -/
def State.early (s : State) : State :=
  (if s.boot.target = .early then ({ s with flash := { s.flash with marks := bankSet s.flash.marks s.boot.slot 0 } } : State).coresIdle
    else { s with flash := { s.flash with marks := bankSet s.flash.marks s.boot.slot 0 } }).updBoot fun b =>
      { b with dev := s.boot.target, step := if s.boot.target = .retired then .done else .training }

/-- The network settings saved act. -/
def State.netLoad (s : State) (saved : Option NetCfg) : State :=
  match saved with
  | some c => s.updNet fun n => { n with written := c, inForce := c }
  | none => s

/-- TIM08 and TIM09 as the device uses them (R369, R417). -/
def State.timersSet (s : State) (d02 dimC : Nat) : State :=
  (s.updTimer 8 fun t => t.writePreload d02 fun x => { x with pre := 0, top := 32768 * dimC }).updTimer 9 fun t =>
    { t with capEdge := 1 }.writePreload d02 fun x => { x with pre := 0, top := 200000 }

theorem exec_earlyReached {s : State} (waits : s.boot.step = .waitEarly) : exec .earlyReached s = .next
    (((s.early.timeLoad.radioStart.updFabric fun f => { f with winStart := s.now }).netLoad s.store.net).timersSet s.d02
      (s.early.timeLoad.radioStart.updFabric fun f => { f with winStart := s.now }).illum.dimC) :=
  congrArg Host.Outcome.next (if_neg (not_not.2 waits))

theorem State.early_frame (s : State) : ∃ c, s.early = { s with
      flash := { s.flash with marks := bankSet s.flash.marks s.boot.slot 0 }, cores := c,
      boot := { s.boot with dev := s.boot.target, step := if s.boot.target = .retired then .done else .training } } ∧
    ∀ k, (c.core.get k).st = if s.boot.target = .early ∧ (s.core1 k).st = .off then .idle else (s.core1 k).st := by
  unfold State.early
  by_cases early : s.boot.target = .early
  · rw [if_pos early]
    refine ⟨_, rfl, fun k => ?_⟩
    refine (State.coresIdle_core _ k).trans (if_congr ⟨fun off => ⟨early, off⟩, fun both => both.2⟩ rfl rfl)
  · rw [if_neg early]
    exact ⟨s.cores, rfl, fun k => (if_neg fun no => early no.1).symm⟩

theorem State.netLoad_frame (s : State) (saved : Option NetCfg) : ∃ n, s.netLoad saved = { s with net := n } ∧
    ∀ c, saved = some c → n.inForce = c ∧ n.written = c := by
  cases saved with
  | none => exact ⟨s.net, rfl, fun _ no => nomatch no⟩
  | some c => exact ⟨_, rfl, fun _ same => Option.some.inj same ▸ ⟨rfl, rfl⟩⟩

theorem State.timersSet_frame (s : State) (d dimC : Nat) : ∃ v, s.timersSet d dimC = { s with timers := v } ∧
    (v.get 8).preload.top = 32768 * dimC ∧ (v.get 9).preload.top = 200000 ∧ (v.get 9).capEdge = 1 := by
  have at8 : (s.timersSet d dimC).timers.get 8 = (s.timers.get 8).writePreload d fun x => { x with pre := 0, top := 32768 * dimC } :=
    (bankUpd_get _ _ _ _).trans ((if_neg (by decide)).trans (bankUpd_get_self _ _ _))
  have at9 : (s.timersSet d dimC).timers.get 9 =
      { s.timers.get 9 with capEdge := 1 }.writePreload d fun x => { x with pre := 0, top := 200000 } :=
    (bankUpd_get_self _ _ _).trans (congrArg (fun t : Timer => { t with capEdge := 1 }.writePreload d fun x =>
      { x with pre := 0, top := 200000 }) ((bankUpd_get _ _ _ _).trans (if_neg (by decide))))
  refine ⟨_, rfl, (congrArg (·.preload.top) at8).trans ?_, (congrArg (·.preload.top) at9).trans ?_,
    (congrArg Timer.capEdge at9).trans ?_⟩
  · rw [(Timer.writePreload_keeps _ _ _).1]
  · rw [(Timer.writePreload_keeps _ _ _).1]
  · rw [(Timer.writePreload_keeps _ _ _).2]

theorem earlyReached_acts (s : State) : if s.boot.step ≠ .waitEarly then exec .earlyReached s = .next s
    else ∃ t, exec .earlyReached s = .next t ∧ t.boot = { s.boot with
        dev := s.boot.target, step := if s.boot.target = .retired then .done else .training } ∧
      (∀ c, (t.core1 c).st = if s.boot.target = .early ∧ (s.core1 c).st = .off then .idle else (s.core1 c).st) ∧
      t.flash.marks = bankSet s.flash.marks s.boot.slot 0 ∧ t.radio.fc = (s.store.coordFc + 256) % 2 ^ 32 ∧
      (∀ c, s.store.net = some c → t.net.inForce = c ∧ t.net.written = c) ∧
      (t.timers.get 8).preload.top = 32768 * s.illum.dimC ∧ (t.timers.get 9).preload.top = 200000 ∧
      (t.timers.get 9).capEdge = 1 ∧ t.otp = s.otp ∧
      t.axes = s.axes ∧ t.mem = s.mem := by
  by_cases waits : s.boot.step = .waitEarly
  · rw [if_neg (not_not.2 waits)]
    have row := exec_earlyReached waits
    obtain ⟨c, early, cores⟩ := s.early_frame
    obtain ⟨tb, o, timed⟩ := s.early.timeLoad_frame
    obtain ⟨q, radio⟩ := s.early.timeLoad.radioStart_frame
    rw [timed] at radio
    rw [timed, radio, early] at row
    obtain ⟨n, net, saved⟩ := State.netLoad_frame (State.updFabric _ _) s.store.net
    rw [net] at row
    obtain ⟨v, timers, t8, t9, edge⟩ := State.timersSet_frame _ _ _
    rw [timers] at row
    exact ⟨_, row, rfl, cores, rfl, rfl, saved, t8, t9, edge, rfl, rfl, rfl⟩
  · rw [if_pos waits]
    exact congrArg Host.Outcome.next (if_pos waits)

/-! ### FULL -/

theorem State.raiseSvn_frame (s : State) : ∃ m, s.raiseSvn = { s with otp := { s.otp with svnMin := m } } ∧
    ∀ k, (m.get k).toNat = max (s.otp.svnMin.get k).toNat (((s.boot.running.get k).map (·.svn.toNat)).getD 0) := by
  refine ⟨_, rfl, fun k => ?_⟩
  have raised : (Vector.ofFn fun k : Fin 6 =>
      let old := s.otp.svnMin.get k
      let new := ((s.boot.running.get k).map (·.svn)).getD 0
      if old < new then new else old).get k = if s.otp.svnMin.get k < ((s.boot.running.get k).map (·.svn)).getD 0 then
        ((s.boot.running.get k).map (·.svn)).getD 0 else s.otp.svnMin.get k := by
    simp [Vector.get_eq_getElem]
  have value : (((s.boot.running.get k).map ImageInfo.svn).getD 0).toNat = ((s.boot.running.get k).map (·.svn.toNat)).getD 0 := by
    cases s.boot.running.get k with
    | none => rfl
    | some i => rfl
  rw [raised, ← value]
  split
  · next below =>
    exact (max_eq_right (BitVec.lt_def.1 below).le).symm
  · next above =>
    exact (max_eq_left (not_lt.1 (mt BitVec.lt_def.2 above))).symm

/-- The start goes on once the stacks are trained, its domain keys made. -/
def State.trained (s : State) : State :=
  (if s.keys.startFail then s else s.makeDomains).updBoot fun b => { b with step := .done }

theorem State.trained_frame (s : State) : ∃ k d m, s.trained =
      { s with keys := k, draws := d, mem := m, boot := { s.boot with step := .done } } ∧
    (if s.keys.startFail = true then m = s.mem
     else m.keysUp = true ∧ m.selfKey = s.mem.nextKey ∧
      m.domKeys = #v[s.mem.nextKey + 1, s.mem.nextKey + 2, 0, s.mem.nextKey + 3] ∧ m.nextKey = s.mem.nextKey + 4 ∧
      k.table.get (slotDomain 0) = s.draws ∧ d = s.draws + 4) := by
  unfold State.trained
  by_cases failed : s.keys.startFail = true
  · rw [if_pos failed]
    exact ⟨s.keys, s.draws, s.mem, rfl, (if_pos failed).mpr rfl⟩
  · rw [if_neg failed]
    obtain ⟨k, d, frame⟩ := s.fillDomains_shape
    have drawn := s.fillDomains_drawn
    unfold State.makeDomains
    rw [frame] at drawn ⊢
    exact ⟨k, d, _, rfl, (if_neg failed).mpr ⟨rfl, rfl, rfl, rfl, drawn⟩⟩

theorem exec_hbmTrained {s : State} (trains : ¬ (s.boot.step ≠ .training ∨ s.boot.hbm0Fail = true ∨ s.boot.hbm1Fail = true)) :
    exec .hbmTrained s = .next (if s.boot.dev ≠ .early then s.trained
      else (((s.trained.updBoot fun b => { b with dev := .full }).raiseSvn.updStage fun x => { x with dis := false }).gearStart).repin) :=
  congrArg Host.Outcome.next (if_neg trains)

theorem hbmTrained_acts (s : State) :
    if s.boot.step ≠ .training ∨ s.boot.hbm0Fail = true ∨ s.boot.hbm1Fail = true then exec .hbmTrained s = .next s
    else ∃ t, exec .hbmTrained s = .next t ∧ t.boot.step = .done ∧ t.axes = s.axes ∧ t.flash = s.flash ∧
      t.otp.lifecycle = s.otp.lifecycle ∧
      (if s.keys.startFail = true then t.mem = s.mem
       else t.mem.keysUp = true ∧ t.mem.selfKey = s.mem.nextKey ∧
        t.mem.domKeys = #v[s.mem.nextKey + 1, s.mem.nextKey + 2, 0, s.mem.nextKey + 3] ∧ t.mem.nextKey = s.mem.nextKey + 4 ∧
        (t.keys.table.get (slotDomain 0)) = s.draws ∧ t.draws = s.draws + 4) ∧
      if s.boot.dev = .early then t.boot.dev = .full ∧ t.illum.stage.dis = false ∧
        ∀ k, let old := (s.otp.svnMin.get k).toNat
          (t.otp.svnMin.get k).toNat = max old (((s.boot.running.get k).map (·.svn.toNat)).getD 0)
      else t.boot.dev = s.boot.dev ∧ t.otp = s.otp := by
  by_cases idle : s.boot.step ≠ .training ∨ s.boot.hbm0Fail = true ∨ s.boot.hbm1Fail = true
  · rw [if_pos idle]
    exact congrArg Host.Outcome.next (if_pos idle)
  · rw [if_neg idle]
    have row := exec_hbmTrained idle
    obtain ⟨k, d, m, trained, made⟩ := s.trained_frame
    by_cases early : s.boot.dev = .early
    · rw [if_neg (not_not.2 early), trained] at row
      obtain ⟨v, raised, svn⟩ := State.raiseSvn_frame (State.updBoot _ _)
      rw [raised] at row
      obtain ⟨l, gear⟩ := State.gearStart_frame (State.updStage _ _)
      rw [gear] at row
      obtain ⟨c, pinned⟩ := State.repin_frame _
      rw [pinned] at row
      refine ⟨_, row, rfl, rfl, rfl, rfl, made, ?_⟩
      rw [if_pos early]
      exact ⟨rfl, rfl, svn⟩
    · rw [if_pos early, trained] at row
      refine ⟨_, row, rfl, rfl, rfl, rfl, made, ?_⟩
      rw [if_neg early]
      exact ⟨rfl, rfl⟩

/-! ### Training that fails -/

/-- What fails in training is shown. -/
def State.failed (s : State) (x : Fin 3) : State :=
  s.updBoot fun b => { b with
    hbm0Fail := b.hbm0Fail || x == 0, hbm1Fail := b.hbm1Fail || x == 1, feltFail := b.feltFail || x == 2 }

/-- A stack that fails: in EARLY the cores are OFF and the device is in HW_FAULT. -/
def State.stackDown (s : State) (x : Fin 3) : State :=
  (if s.boot.dev = .early then (s.failed x).coresOff else s.failed x).updBoot fun b =>
    { b with dev := if b.dev = .early then .hwFault else b.dev }

theorem State.stackDown_frame (s : State) (x : Fin 3) : ∃ c, s.stackDown x = { s with cores := c, boot := { s.boot with
      hbm0Fail := s.boot.hbm0Fail || x == 0, hbm1Fail := s.boot.hbm1Fail || x == 1, feltFail := s.boot.feltFail || x == 2,
      dev := if s.boot.dev = .early then .hwFault else s.boot.dev } } ∧
    (s.boot.dev = .early → ∀ k, (c.core.get k).st = .off) := by
  unfold State.stackDown
  by_cases early : s.boot.dev = .early
  · rw [if_pos early]
    obtain ⟨-, off⟩ := (s.failed x).coresOff_off
    exact ⟨_, rfl, fun _ => off⟩
  · rw [if_neg early]
    exact ⟨s.cores, rfl, fun no => absurd no early⟩

/-- The failure is told. -/
def State.stackFailed (s : State) (x : Fin 3) : State := (s.stackDown x).linkErr (4 + x.val) (s.stackDown x).bootStatus

theorem State.stackFailed_frame (s : State) (x : Fin 3) : ∃ c o, s.stackFailed x = { s with cores := c, owners := o, boot := { s.boot with
      hbm0Fail := s.boot.hbm0Fail || x == 0, hbm1Fail := s.boot.hbm1Fail || x == 1, feltFail := s.boot.feltFail || x == 2,
      dev := if s.boot.dev = .early then .hwFault else s.boot.dev } } ∧
    (s.boot.dev = .early → ∀ k, (c.core.get k).st = .off) := by
  obtain ⟨c, frame, off⟩ := s.stackDown_frame x
  obtain ⟨o, told⟩ := (s.stackDown x).linkErr_frame (4 + x.val) (s.stackDown x).bootStatus
  exact ⟨c, o, told.trans (congrArg (fun w : State => { w with owners := o }) frame), off⟩

theorem hbmTrainingFail_acts (s : State) (x : Fin 3) : if s.boot.step = (if x = 2 then .readImages else .training) ∧
        (if x = 0 then s.boot.hbm0Fail = false else x = 1 → s.boot.hbm1Fail = false) then
      ∃ t, exec (.hbmTrainingFail x) s = .next t ∧ t.axes = s.axes ∧ t.mem = s.mem ∧ t.otp = s.otp ∧
        t.boot = { s.boot with
          hbm0Fail := s.boot.hbm0Fail || x == 0, hbm1Fail := s.boot.hbm1Fail || x == 1, feltFail := s.boot.feltFail || x == 2,
          dev := if x ≠ 2 ∧ s.boot.dev = .early then .hwFault else s.boot.dev } ∧
        (x ≠ 2 ∧ s.boot.dev = .early → ∀ c, (t.core1 c).st = .off)
    else exec (.hbmTrainingFail x) s = .next s := by
  by_cases felt : x = 2
  · rw [felt]
    have row : exec (.hbmTrainingFail 2) s = .next (if s.boot.step = .readImages then
        (s.failed 2).linkErr 6 (s.failed 2).bootStatus else s) := rfl
    by_cases reads : s.boot.step = .readImages
    · rw [if_pos ⟨reads, fun no => nomatch no⟩]
      obtain ⟨o, told⟩ := (s.failed 2).linkErr_frame 6 (s.failed 2).bootStatus
      rw [if_pos reads, told] at row
      exact ⟨_, row, rfl, rfl, rfl, rfl, fun no => absurd rfl no.1⟩
    · rw [if_neg fun no => reads no.1]
      rw [if_neg reads] at row
      exact row
  · have row : exec (.hbmTrainingFail x) s = .next
        (if s.boot.step = .training ∧ ¬ (if x = 0 then s.boot.hbm0Fail else s.boot.hbm1Fail) = true then s.stackFailed x else s) :=
      congrArg Host.Outcome.next (if_neg felt)
    have one : x ≠ 0 → x = 1 := fun ne => by omega
    have fresh : (¬ (if x = 0 then s.boot.hbm0Fail else s.boot.hbm1Fail) = true) ↔
        if x = 0 then s.boot.hbm0Fail = false else x = 1 → s.boot.hbm1Fail = false := by
      by_cases first : x = 0
      · rw [if_pos first, if_pos first, Bool.not_eq_true]
      · rw [if_neg first, if_neg first, Bool.not_eq_true]
        exact ⟨fun clear _ => clear, fun clear => clear (one first)⟩
    rw [if_neg felt]
    by_cases trains : s.boot.step = .training ∧ (if x = 0 then s.boot.hbm0Fail = false else x = 1 → s.boot.hbm1Fail = false)
    · rw [if_pos trains]
      rw [if_pos ⟨trains.1, fresh.2 trains.2⟩] at row
      obtain ⟨c, o, frame, off⟩ := s.stackFailed_frame x
      rw [frame] at row
      have dev : (if s.boot.dev = .early then DevState.hwFault else s.boot.dev) =
        if x ≠ 2 ∧ s.boot.dev = .early then .hwFault else s.boot.dev := if_congr ⟨fun early => ⟨felt, early⟩, fun both => both.2⟩ rfl rfl
      rw [dev] at row
      exact ⟨_, row, rfl, rfl, rfl, rfl, fun both => off both.2⟩
    · rw [if_neg trains]
      exact row.trans (congrArg _ (if_neg fun no => trains ⟨no.1, fresh.1 no.2⟩))

end Sys2Proof.Machine
end

section
/-! PROOFS. FW_STAGE and FW_COMMIT (R69 to R71, R147), and the start and the firmware together. -/

namespace Sys2Proof.Machine

/-! ### A chunk of an image -/

/-- The chunk is the last of what it stages. -/
def lastChunk (p : StageP) : Bool := decide (p.total.toNat ≤ p.offset.toNat + p.data.length)

/-- The bytes of an image once a chunk is in place. -/
def State.chunkBytes (s : State) (k : Fin 6) (p : StageP) : Bytes :=
  (((s.flash.images.get s.idleSlot).get k).take p.offset.toNat ++ p.data).take p.total.toNat

/-- The flash with a chunk in place. -/
def State.chunkIn (s : State) (k : Fin 6) (p : StageP) : State :=
  { s with flash := { s.flash with
    images := bankUpd s.flash.images s.idleSlot fun x => bankSet x k (s.chunkBytes k p),
    torn := bankUpd s.flash.torn s.idleSlot fun x => bankSet x k (!lastChunk p) } }

/-- The image is complete and verifies. -/
def State.chunkOk (s : State) (k : Fin 6) (p : StageP) : Bool := lastChunk p && ((s.chunkIn k p).verified s.idleSlot k).isSome

/-- The images staged so far. -/
def State.stagedMask (s : State) (k : Fin 6) (p : StageP) : Nat :=
  maskOf 6 fun i => if i = k.val then s.chunkOk k p else s.boot.staged.testBit i

/-- The stage's counts with the chunk. -/
def State.chunkCounted (s : State) (k : Fin 6) (p : StageP) : State :=
  (s.chunkIn k p).updBoot fun b =>
    { b with written := bankSet b.written k (min p.total.toNat (p.offset.toNat + p.data.length)), totals := bankSet b.totals k p.total.toNat,
             staged := s.stagedMask k p }

/-- With all six staged the slot is whole again. -/
def State.wholeAgain (s : State) (x : Fin 2) : State :=
  if s.boot.staged = 63 then { s with flash := { s.flash with partial_ := bankSet s.flash.partial_ x false } } else s

theorem State.stageImage_eq (s : State) (k : Fin 6) (p : StageP) :
    s.stageImage k p = ((s.chunkCounted k p).wholeAgain s.idleSlot, if lastChunk p && !s.chunkOk k p then eIntegrity else stOk) := rfl

/-- What a chunk changes beside the marks of a cut short stage. -/
theorem State.wholeAgain_frame (s : State) (x : Fin 2) : s.wholeAgain x = { s with flash := { s.flash with
    partial_ := if s.boot.staged = 63 then bankSet s.flash.partial_ x false else s.flash.partial_ } } := by
  unfold State.wholeAgain
  split
  · rfl
  · rfl

theorem State.verified_of {s t : State} (torn : t.flash.torn = s.flash.torn) (images : t.flash.images = s.flash.images)
    (otp : t.otp = s.otp) (x : Fin 2) (k : Fin 6) : t.verified x k = s.verified x k := by
  unfold State.verified
  rw [torn, images, otp]

/-- What a chunk in place leaves (the free clause of FW_STAGE). -/
structure ChunkIn (s t : State) (k : Fin 6) (p : StageP) : Prop where
  here : (t.flash.images.get s.idleSlot).get k = s.chunkBytes k p
  others : ∀ y j, ¬ (y = s.idleSlot ∧ j = k) → (t.flash.images.get y).get j = (s.flash.images.get y).get j
  cmt : t.flash.cmt = s.flash.cmt
  marks : t.flash.marks = s.flash.marks
  token : t.flash.token = s.flash.token
  cut : t.flash.partial_ = (if t.boot.staged = 63 then bankSet s.flash.partial_ s.idleSlot false else s.flash.partial_)
  torn : (t.flash.torn.get s.idleSlot).get k = !lastChunk p
  staged : ∀ j, j < 6 → t.boot.staged.testBit j =
    if j = k.val then lastChunk p && (t.verified s.idleSlot k).isSome else s.boot.staged.testBit j
  otp : t.otp = s.otp
  mem : t.mem = s.mem
  axes : t.axes = s.axes
  ok : s.chunkOk k p = (lastChunk p && (t.verified s.idleSlot k).isSome)

theorem State.chunkCounted_in (s : State) (k : Fin 6) (p : StageP) : ChunkIn s ((s.chunkCounted k p).wholeAgain s.idleSlot) k p := by
  have verified : ((s.chunkCounted k p).wholeAgain s.idleSlot).verified s.idleSlot k = (s.chunkIn k p).verified s.idleSlot k := by
    rw [State.wholeAgain_frame]
    exact State.verified_of rfl rfl rfl _ _
  have mask (j : Nat) (low : j < 6) : (s.stagedMask k p).testBit j = if j = k.val then s.chunkOk k p else s.boot.staged.testBit j := by
    rw [State.stagedMask, maskOf_testBit, decide_eq_true low, Bool.true_and]
  have ok : s.chunkOk k p = (lastChunk p && (((s.chunkCounted k p).wholeAgain s.idleSlot).verified s.idleSlot k).isSome) := by
    rw [verified]
    rfl
  rw [State.wholeAgain_frame] at ok ⊢
  refine ⟨?_, fun y j other => ?_, rfl, rfl, rfl, rfl, ?_, fun j low => ?_, rfl, rfl, rfl, ok⟩
  · exact (congrArg (fun v : Vector Bytes 6 => v.get k) (bankUpd_get_self _ _ _)).trans (bankSet_get_self _ _ _)
  · show ((bankUpd s.flash.images s.idleSlot _).get y).get j = _
    rw [bankUpd_get]
    split
    · next own =>
      rw [bankSet_get, if_neg fun same => other ⟨own.symm, same.symm⟩]
    · rfl
  · exact (congrArg (fun v : Vector Bool 6 => v.get k) (bankUpd_get_self _ _ _)).trans (bankSet_get_self _ _ _)
  · rw [← ok]
    exact mask j low

/-! ### FW_STAGE -/

/-- The stage an owner's chunk holds open. -/
def State.stageOpened (s : State) (port : Port) (serial : Option Nat) : State :=
  s.updBoot fun b => { b with stage := some ⟨port, serial, s.now⟩ }

/-- Another owner's stage is open. -/
def State.stagedBy (s : State) (port : Port) : Bool :=
  match s.boot.stage with
  | some x => x.port != port
  | none => false

theorem State.stagedBy_iff (s : State) (port : Port) : ¬ s.stagedBy port = true ↔ ∀ g, s.boot.stage = some g → g.port = port := by
  unfold State.stagedBy
  cases s.boot.stage with
  | none => simp
  | some g => simp

/-- The stage closes where the command asks for it. -/
def State.closedAs (s : State) (close : Bool) : State := if close then s.closeStage else s

/-- The state once a chunk is in place. -/
def State.chunkDone (s : State) (k : Fin 6) (p : StageP) : State := (s.chunkCounted k p).wholeAgain s.idleSlot

theorem State.chunkDone_frame (s : State) (k : Fin 6) (p : StageP) : ∃ f b, s.chunkDone k p = { s with flash := f, boot := b } ∧
    b.stage = s.boot.stage ∧ b.written.get k = min p.total.toNat (p.offset.toNat + p.data.length) := by
  unfold State.chunkDone State.chunkCounted
  rw [State.wholeAgain_frame]
  generalize s.stagedMask k p = m
  exact ⟨_, _, rfl, rfl, bankSet_get_self _ _ _⟩

theorem State.closedAs_frame (s : State) (close : Bool) : ∃ w n, s.closedAs close =
    { s with boot := { s.boot with stage := if close = true then none else s.boot.stage, written := w, tokenWritten := n } } := by
  unfold State.closedAs State.closeStage
  split
  · exact ⟨_, _, rfl⟩
  · exact ⟨s.boot.written, s.boot.tokenWritten, rfl⟩

theorem doFwStage_token_elsewhere {t : Ticket} {p : StageP} {s : State} (token : p.image = 0x10) (port : t.hdr.port ≠ 3) :
    doFwStage t p s = s.reply t ePort [] := by
  unfold doFwStage
  dsimp only
  rw [token, if_neg fun no => no (.inl rfl), if_pos ⟨rfl, port⟩]

theorem doFwStage_image {t : Ticket} {p : StageP} {s : State} (image : p.image.toNat ≤ 5) (data : p.data ≠ []) (some_ : p.total.toNat ≠ 0)
    (within : p.offset.toNat + p.data.length ≤ (p.total.toNat + 3) / 4 * 4)
    (room : s.othersBytes (Fin.ofNat 6 p.image.toNat) + p.total.toNat ≤ slotRoom)
    (begun : p.offset.toNat = 0 ∨ (p.offset.toNat = s.boot.written.get (Fin.ofNat 6 p.image.toNat) ∧
      p.total.toNat = s.boot.totals.get (Fin.ofNat 6 p.image.toNat))) :
    doFwStage t p s = if s.stagedBy t.hdr.port = true then s.reply t eBusy []
      else ((((s.stageOpened t.hdr.port t.serial).stageImage (Fin.ofNat 6 p.image.toNat) p).1).closedAs p.close).stageReply t
        ((s.stageOpened t.hdr.port t.serial).stageImage (Fin.ofNat 6 p.image.toNat) p).2
        (((s.stageOpened t.hdr.port t.serial).stageImage (Fin.ofNat 6 p.image.toNat) p).1.boot.written.get (Fin.ofNat 6 p.image.toNat)) := by
  have plain : (p.image == 0x10) = false := by
    rw [beq_eq_false_iff_ne]
    intro token
    rw [token] at image
    exact absurd image (by decide)
  unfold doFwStage
  rw [plain]
  dsimp only
  have fits : ¬ (p.data ≠ [] ∧ (p.total.toNat = 0 ∨
      ¬ (if false = true then decide (p.total.toNat ≤ 4096)
        else decide (s.othersBytes (Fin.ofNat 6 p.image.toNat) + p.total.toNat ≤ slotRoom)) = true ∨
      ¬ (p.offset.toNat == 0 || (p.offset.toNat == (if false = true then s.boot.tokenWritten
        else s.boot.written.get (Fin.ofNat 6 p.image.toNat)) &&
          (false || p.total.toNat == s.boot.totals.get (Fin.ofNat 6 p.image.toNat)))) = true ∨
      (p.total.toNat + 3) / 4 * 4 < p.offset.toNat + p.data.length)) := by
    rintro ⟨-, none | full | broken | long⟩
    · exact some_ none
    · exact full (by simpa using room)
    · exact broken (by simpa using begun)
    · exact absurd long (not_lt.2 within)
  have image_ : ¬ ¬ (false = true ∨ p.image.toNat ≤ 5) := not_not.2 (.inr image)
  have token_ : ¬ (false = true ∧ t.hdr.port ≠ 3) := fun no => by cases no.1
  have data_ : ¬ (p.data = [] ∧ ¬ p.close = true) := fun no => data no.1
  rw [if_neg image_, if_neg token_, if_neg data_, if_neg fits, if_neg data]
  rfl

/-- A refusal of FW_STAGE changes nothing. -/
theorem Accepted.stageRefused {s : State} {h : Hdr} {p : StageP} {ses : Session} (ok : Accepted s h (.fwStage p) ses) {e : Nat}
    (plain : Uncounted e) (answer : doFwStage (s.ticket h (.fwStage p) ses) p (s.accepted h) =
      (s.accepted h).reply (s.ticket h (.fwStage p) ses) e []) : Completes (.fwStage h p) s h 0x78 e [] s :=
  ok.completes_reply rfl (show (0x78 : Nat) ≠ 0x02 by decide) plain answer

theorem State.stageImage_sessions (s : State) (k : Fin 6) (p : StageP) : (s.stageImage k p).1.sessions = s.sessions := by
  rw [State.stageImage_eq]
  dsimp only
  rw [State.wholeAgain_frame]
  rfl

/-- The same of states that agree in the flash, the stage's counts and what a chunk leaves alone. -/
theorem ChunkIn.of {s s' t t' : State} {k : Fin 6} {p : StageP} (chunk : ChunkIn s' t' k p) (flash : s'.flash = s.flash)
    (slot : s'.boot.slot = s.boot.slot) (staged : s'.boot.staged = s.boot.staged) (otp : s'.otp = s.otp) (mem : s'.mem = s.mem)
    (axes : s'.axes = s.axes) (flash' : t.flash = t'.flash) (staged' : t.boot.staged = t'.boot.staged) (otp' : t.otp = t'.otp)
    (mem' : t.mem = t'.mem) (axes' : t.axes = t'.axes) : ChunkIn s t k p := by
  have idle : s'.idleSlot = s.idleSlot := by rw [State.idleSlot, State.idleSlot, slot]
  have bytes : s'.chunkBytes k p = s.chunkBytes k p := by rw [State.chunkBytes, State.chunkBytes, flash, idle]
  have inside (x : Fin 2) : (s'.chunkIn k p).verified x k = (s.chunkIn k p).verified x k := by
    have eq : (s'.chunkIn k p).flash = (s.chunkIn k p).flash := by
      unfold State.chunkIn
      rw [flash, idle, bytes]
    exact State.verified_of (congrArg Flash.torn eq) (congrArg Flash.images eq) otp x k
  have final : t.verified s.idleSlot k = t'.verified s.idleSlot k :=
    State.verified_of (congrArg Flash.torn flash') (congrArg Flash.images flash') otp' _ k
  have ok_ : s'.chunkOk k p = s.chunkOk k p := by rw [State.chunkOk, State.chunkOk, idle, inside]
  obtain ⟨here, others, cmt, marks, token, cut, torn, mask, otp₀, mem₀, axes₀, ok⟩ := chunk
  rw [idle, flash, staged, bytes, ok_] at *
  refine ⟨?_, ?_, ?_, ?_, ?_, ?_, ?_, ?_, ?_, ?_, ?_, ?_⟩
  · rw [flash']
    exact here
  · rw [flash']
    exact others
  · rw [flash']
    exact cmt
  · rw [flash']
    exact marks
  · rw [flash']
    exact token
  · rw [flash', staged']
    exact cut
  · rw [flash']
    exact torn
  · rw [staged', final]
    exact mask
  · exact otp'.trans (otp₀.trans otp)
  · exact mem'.trans (mem₀.trans mem)
  · exact axes'.trans (axes₀.trans axes)
  · rw [final]
    exact ok

/-- What the reply to a chunk leaves. -/
theorem Accepted.chunkReplied {s u : State} {h : Hdr} {p : StageP} {ses : Session} (ok : Accepted s h (.fwStage p) ses) {k : Fin 6}
    (chunk : ChunkIn s u k p) (sessions : u.sessions = (s.accepted h).sessions) (now : u.now = s.now) {e : Nat} {b : Bytes}
    (effect : perform (s.ticket h (.fwStage p) ses) (.fwStage p) (s.accepted h) = u.reply (s.ticket h (.fwStage p) ses) e b) :
    ∃ t, exec (.fwStage h p) s = .next t ∧ ChunkIn s t k p ∧ t.boot = u.boot ∧ (∀ x, t.verified x k = u.verified x k) ∧
      Replied s t h 0x78 e b := by
  obtain ⟨row, replied⟩ := ok.answers (i := .fwStage h p) rfl (show (0x78 : Nat) ≠ 0x02 by decide) effect sessions now
  exact ⟨_, row, chunk.of rfl rfl rfl rfl rfl rfl (u.reply_flash _ _ _) (congrArg Boot.staged (u.reply_boot _ _ _)) (u.reply_otp _ _ _)
    (u.reply_mem _ _ _) (u.reply_axes _ _ _), u.reply_boot _ _ _, fun x => State.verified_of (congrArg Flash.torn (u.reply_flash _ _ _))
      (congrArg Flash.images (u.reply_flash _ _ _)) (u.reply_otp _ _ _) x k, replied⟩

/-- The reply to a chunk that is in place. -/
theorem Accepted.stageReplied {s u : State} {h : Hdr} {p : StageP} {ses : Session} (ok : Accepted s h (.fwStage p) ses) {k : Fin 6}
    (chunk : ChunkIn s u k p) (sessions : u.sessions = (s.accepted h).sessions) (now : u.now = s.now) {x : Option Stage}
    (stage : u.boot.stage = x) {n : Nat} (effect : perform (s.ticket h (.fwStage p) ses) (.fwStage p) (s.accepted h) =
      u.stageReply (s.ticket h (.fwStage p) ses)
        (if lastChunk p && !(lastChunk p && (u.verified s.idleSlot k).isSome) then eIntegrity else stOk) n) :
    ∃ t, exec (.fwStage h p) s = .next t ∧ ChunkIn s t k p ∧ t.boot.stage = x ∧
      if lastChunk p = true ∧ t.verified s.idleSlot k = none then Replied s t h 0x78 eIntegrity []
      else Replied s t h 0x78 stOk (le 4 n ++ le 1 t.boot.staged ++ zeros 3) := by
  have fails : (lastChunk p && !(lastChunk p && (u.verified s.idleSlot k).isSome)) = true ↔
      lastChunk p = true ∧ u.verified s.idleSlot k = none := by
    cases lastChunk p <;> simp
  unfold State.stageReply at effect
  by_cases bad : lastChunk p = true ∧ u.verified s.idleSlot k = none
  · rw [if_pos (fails.2 bad), if_neg (by decide)] at effect
    obtain ⟨t, row, chunk, boot, verify, replied⟩ := ok.chunkReplied chunk sessions now effect
    refine ⟨t, row, chunk, by rw [boot]; exact stage, ?_⟩
    rw [verify, if_pos bad]
    exact replied
  · rw [if_neg (mt fails.1 bad), if_pos rfl] at effect
    obtain ⟨t, row, chunk, boot, verify, replied⟩ := ok.chunkReplied chunk sessions now effect
    refine ⟨t, row, chunk, by rw [boot]; exact stage, ?_⟩
    rw [verify, if_neg bad, boot]
    exact replied

section
variable {s : State} {h : Hdr} {p : StageP} {ses : Session} (ok : Accepted s h (.fwStage p) ses)
  (image : p.image.toNat ≤ 5) (data : p.data ≠ []) (some_ : p.total.toNat ≠ 0)
  (within : p.offset.toNat + p.data.length ≤ (p.total.toNat + 3) / 4 * 4)
  (room : s.othersBytes (Fin.ofNat 6 p.image.toNat) + p.total.toNat ≤ slotRoom)
  (begun : p.offset.toNat = 0 ∨ (p.offset.toNat = s.boot.written.get (Fin.ofNat 6 p.image.toNat) ∧
    p.total.toNat = s.boot.totals.get (Fin.ofNat 6 p.image.toNat)))
include ok image data some_ within room begun

/-- A chunk while another owner's stage is open. -/
theorem Accepted.stageHeldOff (taken : s.stagedBy h.port = true) : Completes (.fwStage h p) s h 0x78 eBusy [] s := by
  refine ok.stageRefused uncounted_busy ?_
  rw [doFwStage_image image data some_ within (by rw [ok.reads (fun v => v.othersBytes _) fun _ => rfl]; exact room)
    (by rw [s.accepted_boot h]; exact begun)]
  exact if_pos ((ok.reads (fun v => v.stagedBy h.port) fun _ => rfl).trans taken)

/-- A chunk in its turn. -/
theorem Accepted.stageTaken (free : ¬ s.stagedBy h.port = true) : ∃ t, exec (.fwStage h p) s = .next t ∧
    ChunkIn s t (Fin.ofNat 6 p.image.toNat) p ∧
    t.boot.stage = (if p.close = true then none else some ⟨h.port, some ses.serial, s.now⟩) ∧
    if lastChunk p = true ∧ t.verified s.idleSlot (Fin.ofNat 6 p.image.toNat) = none then Replied s t h 0x78 eIntegrity []
    else Replied s t h 0x78 stOk (le 4 (min p.total.toNat (p.offset.toNat + p.data.length)) ++ le 1 t.boot.staged ++ zeros 3) := by
  have answer := doFwStage_image (t := s.ticket h (.fwStage p) ses) (s := s.accepted h) image data some_ within
    (by rw [ok.reads (fun v => v.othersBytes _) fun _ => rfl]; exact room) (by rw [s.accepted_boot h]; exact begun)
  have open_ : ¬ (s.accepted h).stagedBy h.port = true := by
    rw [ok.reads (fun v => v.stagedBy h.port) fun _ => rfl]
    exact free
  have answer := answer.trans (if_neg open_)
  generalize Fin.ofNat 6 p.image.toNat = k at *
  have chunk := ((s.accepted h).stageOpened h.port (some ses.serial)).chunkCounted_in k p
  obtain ⟨f, b, done, held, count⟩ := ((s.accepted h).stageOpened h.port (some ses.serial)).chunkDone_frame k p
  have count : (((s.accepted h).stageOpened h.port (some ses.serial)).chunkDone k p).boot.written.get k =
      min p.total.toNat (p.offset.toNat + p.data.length) := by
    rw [done]
    exact count
  have effect : perform (s.ticket h (.fwStage p) ses) (.fwStage p) (s.accepted h) =
      (((s.accepted h).stageOpened h.port (some ses.serial)).chunkDone k p |>.closedAs p.close).stageReply (s.ticket h (.fwStage p) ses)
        (if lastChunk p && !((s.accepted h).stageOpened h.port (some ses.serial)).chunkOk k p then eIntegrity else stOk)
        (min p.total.toNat (p.offset.toNat + p.data.length)) := by
    rw [← count]
    exact answer
  have idle : ((s.accepted h).stageOpened h.port (some ses.serial)).idleSlot = s.idleSlot := ok.reads State.idleSlot fun _ => rfl
  have sessions : (((s.accepted h).stageOpened h.port (some ses.serial)).chunkDone k p).sessions = (s.accepted h).sessions := by
    rw [done]
    rfl
  have now : (((s.accepted h).stageOpened h.port (some ses.serial)).chunkDone k p).now = s.now := by
    rw [done]
    exact s.accepted_now h
  have stage : (((s.accepted h).stageOpened h.port (some ses.serial)).chunkDone k p).boot.stage =
      some ⟨h.port, some ses.serial, s.now⟩ := by
    rw [done, ← s.accepted_now h]
    exact held
  have verdict := chunk.ok
  rw [← State.chunkDone] at chunk verdict
  rw [verdict, idle] at effect
  clear verdict answer count done
  have slot : ((s.accepted h).stageOpened h.port (some ses.serial)).boot.slot = s.boot.slot := ok.reads (fun v => v.boot.slot) fun _ => rfl
  have staged : ((s.accepted h).stageOpened h.port (some ses.serial)).boot.staged = s.boot.staged :=
    ok.reads (fun v => v.boot.staged) fun _ => rfl
  have mine : ChunkIn s (((s.accepted h).stageOpened h.port (some ses.serial)).chunkDone k p) k p :=
    chunk.of (s.accepted_flash h) slot staged (s.accepted_otp h) (s.accepted_mem h) (s.accepted_axes h) rfl rfl rfl rfl rfl
  clear chunk slot staged idle
  generalize ((s.accepted h).stageOpened h.port (some ses.serial)).chunkDone k p = v at *
  obtain ⟨w, n, frame⟩ := v.closedAs_frame p.close
  have closed : ChunkIn s (v.closedAs p.close) k p := by
    rw [frame]
    exact mine.of rfl rfl rfl rfl rfl rfl rfl rfl rfl rfl rfl
  have after : (v.closedAs p.close).boot.stage = if p.close = true then none else some ⟨h.port, some ses.serial, s.now⟩ := by
    rw [frame, ← stage]
  have verify : v.verified s.idleSlot k = (v.closedAs p.close).verified s.idleSlot k := by
    rw [frame]
    exact State.verified_of rfl rfl rfl _ _
  have sessions : (v.closedAs p.close).sessions = (s.accepted h).sessions := by
    rw [frame]
    exact sessions
  have now : (v.closedAs p.close).now = s.now := by
    rw [frame]
    exact now
  rw [verify] at effect
  exact ok.stageReplied closed sessions now after effect

end

/-! ### A lifecycle token -/

theorem doFwStage_token {t : Ticket} {p : StageP} {s : State} (token : p.image = 0x10) (mnt : t.hdr.port = 3) (data : p.data ≠ [])
    (some_ : p.total.toNat ≠ 0) (small : p.total.toNat ≤ 4096)
    (within : p.offset.toNat + p.data.length ≤ (p.total.toNat + 3) / 4 * 4)
    (begun : p.offset.toNat = 0 ∨ p.offset.toNat = s.boot.tokenWritten) (free : ¬ s.stagedBy t.hdr.port = true) :
    doFwStage t p s = (((s.stageOpened t.hdr.port t.serial).stageToken p).1.closedAs p.close).stageReply t
      ((s.stageOpened t.hdr.port t.serial).stageToken p).2 ((s.stageOpened t.hdr.port t.serial).stageToken p).1.boot.tokenWritten := by
  have own : (p.image == 0x10) = true := beq_iff_eq.2 token
  unfold doFwStage
  rw [own]
  dsimp only
  have fits : ¬ (p.data ≠ [] ∧ (p.total.toNat = 0 ∨
      ¬ (if true = true then decide (p.total.toNat ≤ 4096)
        else decide (s.othersBytes (Fin.ofNat 6 p.image.toNat) + p.total.toNat ≤ slotRoom)) = true ∨
      ¬ (p.offset.toNat == 0 || (p.offset.toNat == (if true = true then s.boot.tokenWritten
        else s.boot.written.get (Fin.ofNat 6 p.image.toNat)) &&
          (true || p.total.toNat == s.boot.totals.get (Fin.ofNat 6 p.image.toNat)))) = true ∨
      (p.total.toNat + 3) / 4 * 4 < p.offset.toNat + p.data.length)) := by
    rintro ⟨-, none | full | broken | long⟩
    · exact some_ none
    · exact full (by simpa using small)
    · exact broken (by simpa using begun)
    · exact absurd long (not_lt.2 within)
  have image_ : ¬ ¬ (true = true ∨ p.image.toNat ≤ 5) := not_not.2 (.inl rfl)
  have token_ : ¬ (true = true ∧ t.hdr.port ≠ 3) := fun no => no.2 mnt
  have data_ : ¬ (p.data = [] ∧ ¬ p.close = true) := fun no => data no.1
  rw [if_neg image_, if_neg token_, if_neg data_, if_neg fits, if_neg data]
  exact if_neg free

/-- The token's bytes once a chunk is in place. -/
def State.tokenBytes (s : State) (p : StageP) : Bytes :=
  ((s.flash.token.get s.idleSlot).take p.offset.toNat ++ p.data).take p.total.toNat

theorem State.stageToken_frame (s : State) (p : StageP) : ∃ n, (s.stageToken p).1 = { s with
    flash := { s.flash with token := bankSet s.flash.token s.idleSlot (s.tokenBytes p) },
    boot := { s.boot with tokenWritten := n, tokenStaged := lastChunk p && s.tokenOk (s.tokenBytes p) } } := ⟨_, rfl⟩

theorem Accepted.tokenTaken {s : State} {h : Hdr} {p : StageP} {ses : Session} (ok : Accepted s h (.fwStage p) ses)
    (token : p.image = 0x10) (mnt : h.port = 3) (data : p.data ≠ [])
    (some_ : p.total.toNat ≠ 0) (small : p.total.toNat ≤ 4096)
    (within : p.offset.toNat + p.data.length ≤ (p.total.toNat + 3) / 4 * 4)
    (begun : p.offset.toNat = 0 ∨ p.offset.toNat = s.boot.tokenWritten) (free : ¬ s.stagedBy h.port = true) :
    ∃ t, exec (.fwStage h p) s = .next t ∧
      t.flash = { s.flash with token := bankSet s.flash.token s.idleSlot (s.tokenBytes p) } ∧
      t.boot.tokenStaged = (lastChunk p && s.tokenOk (t.flash.token.get s.idleSlot)) ∧ t.otp = s.otp := by
  have open_ : ¬ (s.accepted h).stagedBy h.port = true := by
    rw [ok.reads (fun v => v.stagedBy h.port) fun _ => rfl]
    exact free
  have effect : perform (s.ticket h (.fwStage p) ses) (.fwStage p) (s.accepted h) = _ := doFwStage_token
    (t := s.ticket h (.fwStage p) ses) (s := s.accepted h) token mnt data some_ small within (by rw [s.accepted_boot h]; exact begun) open_
  have idle : ((s.accepted h).stageOpened h.port (some ses.serial)).idleSlot = s.idleSlot := ok.reads State.idleSlot fun _ => rfl
  have bytes : ((s.accepted h).stageOpened h.port (some ses.serial)).tokenBytes p = s.tokenBytes p :=
    ok.reads (fun v => v.tokenBytes p) fun _ => rfl
  have passes : ((s.accepted h).stageOpened h.port (some ses.serial)).tokenOk (s.tokenBytes p) = s.tokenOk (s.tokenBytes p) :=
    ok.reads (fun v => v.tokenOk _) fun _ => rfl
  obtain ⟨n, staged⟩ := ((s.accepted h).stageOpened h.port (some ses.serial)).stageToken_frame p
  rw [bytes, idle, passes] at staged
  have flash : (((s.accepted h).stageOpened h.port (some ses.serial)).stageToken p).1.flash =
      { s.flash with token := bankSet s.flash.token s.idleSlot (s.tokenBytes p) } := by
    rw [staged, ← s.accepted_flash h]
    rfl
  have judged : (((s.accepted h).stageOpened h.port (some ses.serial)).stageToken p).1.boot.tokenStaged =
      (lastChunk p && s.tokenOk (s.tokenBytes p)) := by rw [staged]
  have otp : (((s.accepted h).stageOpened h.port (some ses.serial)).stageToken p).1.otp = s.otp := by
    rw [staged]
    exact s.accepted_otp h
  have sessions : (((s.accepted h).stageOpened h.port (some ses.serial)).stageToken p).1.sessions = (s.accepted h).sessions := by
    rw [staged]
    rfl
  have now : (((s.accepted h).stageOpened h.port (some ses.serial)).stageToken p).1.now = s.now := by
    rw [staged]
    exact s.accepted_now h
  change _ = ((((s.accepted h).stageOpened h.port (some ses.serial)).stageToken p).1.closedAs p.close).stageReply _
    (((s.accepted h).stageOpened h.port (some ses.serial)).stageToken p).2
    (((s.accepted h).stageOpened h.port (some ses.serial)).stageToken p).1.boot.tokenWritten at effect
  clear staged idle bytes passes
  generalize (((s.accepted h).stageOpened h.port (some ses.serial)).stageToken p).1 = v at *
  generalize (((s.accepted h).stageOpened h.port (some ses.serial)).stageToken p).2 = e at *
  obtain ⟨w, m, frame⟩ := v.closedAs_frame p.close
  rw [frame] at effect
  obtain ⟨row, -⟩ := ok.answers (i := .fwStage h p) rfl (show (0x78 : Nat) ≠ 0x02 by decide) effect sessions now
  refine ⟨_, row, ?_, ?_, ?_⟩
  · rw [State.reply_flash]
    exact flash
  · rw [State.reply_boot, State.reply_flash, flash]
    exact judged.trans (by rw [bankSet_get_self])
  · rw [State.reply_otp]
    exact otp

/-! ### FW_COMMIT -/

theorem doFwCommit_idle {s : State} (none : s.commit = none) (t : Ticket) (slot : Byte) (token : Bool) : doFwCommit t slot token s =
    if 1 < slot.toNat then s.closeStage.reply t eParam []
    else if token = true then
      if Fin.ofNat 2 slot.toNat ≠ s.idleSlot then s.closeStage.reply t eParam []
      else if ¬ s.boot.tokenStaged = true ∨ ¬ s.tokenOk (s.flash.token.get (Fin.ofNat 2 slot.toNat)) = true then
        s.closeStage.reply t eIntegrity []
      else (State.closeStage { s with flash := { s.flash with tokenArmed := some (Fin.ofNat 2 slot.toNat) } }).reply t stOk
        (le 4 s.flash.seqInForce.toNat ++ zeros 4)
    else if ¬ (s.runningSlot == some (Fin.ofNat 2 slot.toNat)) = true ∧ (s.failing (Fin.ofNat 2 slot.toNat) ≠ 0 ∨
        (s.flash.partial_.get (Fin.ofNat 2 slot.toNat) = true ∧ s.boot.staged ≠ 63)) then s.closeStage.reply t eIntegrity []
    else { s with
      commit := some ⟨t, Fin.ofNat 2 slot.toNat, s.flash.seqInForce + 1, s.flash.freeCell,
        if s.runningSlot == some (Fin.ofNat 2 slot.toNat) then 0
        else mismatchMap fun k => s.verified (Fin.ofNat 2 slot.toNat) (Fin.ofNat 6 k)⟩,
      flash := { s.flash with
        marks := bankSet s.flash.marks (Fin.ofNat 2 slot.toNat) 0,
        cmt := bankSet s.flash.cmt s.flash.freeCell (some ⟨s.flash.seqInForce + 1, Fin.ofNat 2 slot.toNat, false⟩) } } := by
  unfold doFwCommit
  rw [State.commitDone_of_none none]
  rfl

section
variable {s : State} {h : Hdr} {slot : Byte} {token : Bool} {ses : Session} (ok : Accepted s h (.fwCommit slot token) ses)
include ok

/-- A reply of FW_COMMIT that closes the stage. -/
theorem Accepted.commitReplied {e : Nat} {b : Bytes} (plain : Uncounted e) (g : State → State)
    (sessions : ∀ w, (g w).sessions = w.sessions) (now : ∀ w, (g w).now = w.now) (blind : ∀ w, (g w).quiet = g w.quiet)
    (answer : doFwCommit (s.ticket h (.fwCommit slot token) ses) slot token (s.accepted h) =
      (g (s.accepted h)).reply (s.ticket h (.fwCommit slot token) ses) e b) :
    Completes (.fwCommit h slot token) s h 0x79 e b (g s) :=
  ok.completes_effect rfl (show (0x79 : Nat) ≠ 0x02 by decide) plain g answer (sessions _) (now _) blind

theorem Accepted.commitRefused {e : Nat} (plain : Uncounted e)
    (answer : doFwCommit (s.ticket h (.fwCommit slot token) ses) slot token (s.accepted h) =
      (s.accepted h).closeStage.reply (s.ticket h (.fwCommit slot token) ses) e []) :
    Completes (.fwCommit h slot token) s h 0x79 e [] s.closeStage :=
  ok.commitReplied plain State.closeStage (fun _ => rfl) (fun _ => rfl) (fun _ => rfl) answer

omit ok in
theorem State.commitIdle (s : State) (h : Hdr) (unwritten : s.commit = none) : (s.accepted h).commit = none :=
  (s.accepted_commit h).trans unwritten

theorem Accepted.commitNoSlot (out : 1 < slot.toNat) (unwritten : s.commit = none) :
    Completes (.fwCommit h slot token) s h 0x79 eParam [] s.closeStage :=
  ok.commitRefused uncounted_param ((doFwCommit_idle (s.commitIdle h unwritten) _ _ _).trans (if_pos out))

end

/-- FW_COMMIT of a lifecycle token. -/
theorem Accepted.commitToken {s : State} {h : Hdr} {slot : Byte} {ses : Session} (ok : Accepted s h (.fwCommit slot true) ses)
    (named : slot.toNat ≤ 1) (unwritten : s.commit = none) :
    if Fin.ofNat 2 slot.toNat ≠ s.idleSlot then Completes (.fwCommit h slot true) s h 0x79 eParam [] s.closeStage
    else if s.boot.tokenStaged = true ∧ s.tokenOk (s.flash.token.get (Fin.ofNat 2 slot.toNat)) = true then
      Completes (.fwCommit h slot true) s h 0x79 stOk (le 4 s.flash.seqInForce.toNat ++ zeros 4)
        (State.closeStage { s with flash := { s.flash with tokenArmed := some (Fin.ofNat 2 slot.toNat) } })
    else Completes (.fwCommit h slot true) s h 0x79 eIntegrity [] s.closeStage := by
  have answer := doFwCommit_idle (s.commitIdle h unwritten) (s.ticket h (.fwCommit slot true) ses) slot true
  rw [if_neg (not_lt.2 named), if_pos rfl] at answer
  generalize Fin.ofNat 2 slot.toNat = x at answer ⊢
  have idle : (s.accepted h).idleSlot = s.idleSlot := ok.reads State.idleSlot fun _ => rfl
  have passes : (s.accepted h).tokenOk (s.flash.token.get x) = s.tokenOk (s.flash.token.get x) := ok.reads (fun v => v.tokenOk _) fun _ => rfl
  rw [idle, s.accepted_flash, s.accepted_boot, passes] at answer
  by_cases other : x ≠ s.idleSlot
  · rw [if_pos other]
    rw [if_pos other] at answer
    exact ok.commitRefused uncounted_param answer
  · rw [if_neg other]
    rw [if_neg other] at answer
    by_cases good : s.boot.tokenStaged = true ∧ s.tokenOk (s.flash.token.get x) = true
    · rw [if_pos good]
      rw [if_neg fun no => no.elim (· good.1) (· good.2), ← s.accepted_flash h, ← s.accepted_boot h] at answer
      have done := ok.commitReplied uncounted_ok (fun w => State.closeStage { w with flash := { w.flash with tokenArmed := some x } })
        (fun _ => rfl) (fun _ => rfl) (fun _ => rfl) answer
      rw [s.accepted_flash h] at done
      exact done
    · rw [if_neg good]
      rw [if_pos (not_and_or.1 good)] at answer
      exact ok.commitRefused (by decide : Uncounted eIntegrity) answer

/-- The valid record of a cell. -/
def Flash.record (f : Flash) (i : Fin 2) : Option CommitRec := (f.cmt.get i).filter (·.crcOk)

theorem Flash.inForce_eq (f : Flash) : f.inForce =
    match f.record 0, f.record 1 with
    | some a, some b => if b.seq ≤ a.seq then some (0, a) else some (1, b)
    | some a, none => some (0, a)
    | none, some b => some (1, b)
    | none, none => none := by
  unfold Flash.inForce Flash.record
  dsimp only
  cases f.cmt.get 0 with
  | none =>
    cases f.cmt.get 1 with
    | none => rfl
    | some b => cases good : b.crcOk <;> simp [Option.filter, good]
  | some a =>
    cases f.cmt.get 1 with
    | none => cases good : a.crcOk <;> simp [Option.filter, good]
    | some b => cases good : a.crcOk <;> cases good' : b.crcOk <;> simp [Option.filter, good, good']

/-- A cell without a valid record. -/
theorem Flash.record_isNone (f : Flash) (i : Fin 2) : ¬ (match f.cmt.get i with
    | some r => r.crcOk
    | none => false) = true ↔ (f.record i).isSome = false := by
  unfold Flash.record
  cases f.cmt.get i with
  | none => simp
  | some r => cases good : r.crcOk <;> simp [Option.filter, good]

/-- A record goes into the first cell that is not valid, else into the one not in force. -/
theorem Flash.freeCell_eq (f : Flash) : f.freeCell = if (f.record 0).isSome = false then 0 else if (f.record 1).isSome = false then 1
    else match f.inForce with
      | some x => x.1 + 1
      | none => 0 := by
  unfold Flash.freeCell
  exact if_congr (f.record_isNone 0) rfl (if_congr (f.record_isNone 1) rfl rfl)

/-- The cell a new record goes into is not the one in force. -/
theorem Flash.freeCell_free (f : Flash) {y : Fin 2 × CommitRec} (inForce : f.inForce = some y) : y.1 ≠ f.freeCell := by
  have shape := f.inForce_eq
  rw [Flash.freeCell_eq]
  rw [inForce] at shape ⊢
  cases zero : f.record 0 with
  | none =>
    rw [zero] at shape
    cases one : f.record 1 with
    | none =>
      rw [one] at shape
      cases shape
    | some b =>
      rw [one] at shape
      rw [Option.some.inj shape]
      show (1 : Fin 2) ≠ 0
      decide
  | some a =>
    rw [zero] at shape
    cases one : f.record 1 with
    | none =>
      rw [one] at shape
      rw [Option.some.inj shape]
      show (0 : Fin 2) ≠ 1
      decide
    | some b =>
      show y.1 ≠ y.1 + 1
      generalize y.1 = i
      revert i
      decide

/-- FW_COMMIT of a slot. -/
theorem Accepted.commitSlot {s : State} {h : Hdr} {slot : Byte} {ses : Session} (ok : Accepted s h (.fwCommit slot false) ses)
    (named : slot.toNat ≤ 1) (unwritten : s.commit = none) :
    if s.runningSlot ≠ some (Fin.ofNat 2 slot.toNat) ∧ (s.failing (Fin.ofNat 2 slot.toNat) ≠ 0 ∨
        (s.flash.partial_.get (Fin.ofNat 2 slot.toNat) = true ∧ s.boot.staged ≠ 63)) then
      Completes (.fwCommit h slot false) s h 0x79 eIntegrity [] s.closeStage
    else ∃ t, exec (.fwCommit h slot false) s = .next t ∧ t.flash = { s.flash with
        marks := bankSet s.flash.marks (Fin.ofNat 2 slot.toNat) 0,
        cmt := bankSet s.flash.cmt s.flash.freeCell (some ⟨s.flash.seqInForce + 1, Fin.ofNat 2 slot.toNat, false⟩) } ∧
      (∃ q, t.commit = some q ∧ q.slot = Fin.ofNat 2 slot.toNat ∧ q.seq = s.flash.seqInForce + 1 ∧ q.cell = s.flash.freeCell ∧
        q.ticket = s.ticket h (.fwCommit slot false) ses) ∧
      (∀ y, s.flash.inForce = some y → y.1 ≠ s.flash.freeCell) ∧ t.boot = s.boot ∧ t.otp = s.otp := by
  have answer := doFwCommit_idle (s.commitIdle h unwritten) (s.ticket h (.fwCommit slot false) ses) slot false
  rw [if_neg (not_lt.2 named), if_neg (by decide)] at answer
  generalize Fin.ofNat 2 slot.toNat = x at answer ⊢
  have runs : (s.accepted h).runningSlot = s.runningSlot := ok.reads State.runningSlot fun _ => rfl
  have fails : (s.accepted h).failing x = s.failing x := ok.reads (fun v => v.failing x) fun _ => rfl
  rw [runs, fails, s.accepted_flash, s.accepted_boot] at answer
  have other : (s.runningSlot ≠ some x) ↔ ¬ (s.runningSlot == some x) = true := by rw [beq_iff_eq]
  by_cases bad : s.runningSlot ≠ some x ∧ (s.failing x ≠ 0 ∨ (s.flash.partial_.get x = true ∧ s.boot.staged ≠ 63))
  · rw [if_pos bad]
    rw [if_pos ⟨other.1 bad.1, bad.2⟩] at answer
    exact ok.commitRefused (by decide : Uncounted eIntegrity) answer
  · rw [if_neg bad]
    rw [if_neg fun no => bad ⟨other.2 no.1, no.2⟩] at answer
    have served : s.serve h (.fwCommit slot false) = _ := (serve_accepted ok).trans ((congrArg State.finish answer).trans
      (State.finish_calm (State.calm_of_sessions rfl ok.calm)))
    exact ⟨_, congrArg Host.Outcome.next served, rfl, ⟨_, rfl, rfl, rfl, rfl, rfl⟩, fun _ inForce => s.flash.freeCell_free inForce, rfl,
      s.accepted_otp h⟩

/-- The newer of two valid records is in force. -/
theorem Flash.inForce_of_newer {f : Flash} {i : Fin 2} {r : CommitRec} (own : f.record i = some r)
    (older : ∀ a, f.record (i + 1) = some a → a.seq < r.seq) : f.inForce = some (i, r) := by
  rw [Flash.inForce_eq]
  obtain rfl | rfl : i = 0 ∨ i = 1 := by omega
  · rw [own]
    cases other : f.record 1 with
    | none => rfl
    | some b => exact if_pos (BitVec.le_of_lt (older b other))
  · rw [own]
    cases other : f.record 0 with
    | none => rfl
    | some a => exact if_neg (BitVec.not_le.2 (older a other))

/-- Where one cell is not valid the other's record gives the SEQ in force. -/
theorem Flash.seqInForce_of_other {f : Flash} {i : Fin 2} {a : CommitRec} (own : f.record i = none) (other : f.record (i + 1) = some a) :
    f.seqInForce = a.seq := by
  rw [Flash.seqInForce, Flash.inForce_eq]
  obtain rfl | rfl : i = 0 ∨ i = 1 := by omega
  · rw [own, show f.record 1 = some a from other]
    rfl
  · rw [own, show f.record 0 = some a from other]
    rfl

/-- A record whose write is complete is in force. -/
theorem State.commitDone_inForce {s : State} {c : CommitOp} (waits : s.commit = some c)
    (written : s.flash.cmt.get c.cell = some ⟨c.seq, c.slot, false⟩) (newer : s.flash.seqInForce < c.seq) :
    s.commitDone.commit = none ∧ s.commitDone.flash.inForce = some (c.cell, ⟨c.seq, c.slot, true⟩) ∧
      s.commitDone.flash.images = s.flash.images := by
  have done : ∃ n, s.commitDone = ({ s with
      commit := none,
      flash := { s.flash with cmt := bankUpd s.flash.cmt c.cell fun r => r.map fun x => { x with crcOk := true } } } : State).closeStage.reply
        c.ticket stOk n := by
    unfold State.commitDone
    rw [waits]
    exact ⟨_, rfl⟩
  obtain ⟨n, done⟩ := done
  rw [done, State.reply_commit, State.reply_flash]
  refine ⟨rfl, ?_, rfl⟩
  have blank : s.flash.record c.cell = none := by
    rw [Flash.record, written]
    rfl
  refine Flash.inForce_of_newer ?_ fun a other => ?_
  · show ((bankUpd s.flash.cmt c.cell _).get c.cell).filter _ = _
    rw [bankUpd_get_self, written]
    rfl
  · have kept : (bankUpd s.flash.cmt c.cell fun r => r.map fun x => { x with crcOk := true }).get (c.cell + 1) =
        s.flash.cmt.get (c.cell + 1) := (bankUpd_get _ _ _ _).trans (if_neg (by omega))
    change Option.filter (·.crcOk) ((bankUpd s.flash.cmt c.cell fun r => r.map fun x => { x with crcOk := true }).get (c.cell + 1)) =
      some a at other
    rw [kept] at other
    rw [← Flash.seqInForce_of_other blank other]
    exact newer

/-! ### The start and the firmware -/

theorem stageTimeout_closes (s : State) : exec .stageTimeout s = .next (match s.boot.stage with
    | some g => if g.lastAt + 60 * secTicks ≤ s.now then s.closeStage else s
    | none => s) := rfl

/-- Settles O32: each row of the start by its step, FW_STAGE and FW_COMMIT of an accepted command, and the record that its completion
puts in force. -/
theorem startAndFirmwareRowsAct : Obligations.StartAndFirmwareRowsAct := by
  unfold Obligations.StartAndFirmwareRowsAct
  refine ⟨⟨pllLock_acts, fun s => rfl, boot1Verified_acts, imagesVerified_acts, fun s => ?_, earlyReached_acts, hbmTrained_acts,
    hbmTrainingFail_acts⟩, fun s h ses p ok => ⟨fun token port => ?_, fun image data some_ within room begun => ⟨fun free => ?_, fun taken => ?_⟩,
      fun token mnt data some_ small within begun free => ?_⟩, fun s h ses slot token ok out unwritten => ok.commitNoSlot out unwritten,
    fun s h ses slot ok named unwritten => ok.commitSlot named unwritten, fun s h ses slot ok named unwritten => ok.commitToken named unwritten,
    fun s c waits written newer => State.commitDone_inForce waits written newer, stageTimeout_closes⟩
  · exact congrArg Host.Outcome.next (if_congr (and_congr_right' (Bool.not_eq_true _).to_iff) rfl rfl)
  · exact ok.stageRefused (by decide : Uncounted ePort) (doFwStage_token_elsewhere token port)
  · obtain ⟨t, row, chunk, stage, replied⟩ := ok.stageTaken image data some_ within room begun ((s.stagedBy_iff h.port).2 free)
    exact ⟨t, row, chunk.here, chunk.others, chunk.cmt, chunk.marks, chunk.token, chunk.cut, chunk.torn, stage, chunk.staged, chunk.otp,
      chunk.mem, chunk.axes, (if_congr (and_congr_left' decide_eq_true_iff) rfl rfl).mp replied⟩
  · exact ok.stageHeldOff image data some_ within room begun (not_not.1 (mt (s.stagedBy_iff h.port).1 taken))
  · exact ok.tokenTaken token mnt data some_ small within begun ((s.stagedBy_iff h.port).2 free)

end Sys2Proof.Machine
end

section
/-! PROOFS. The rows that name one register: a write or a read of that register alone, under the checks of its command (R138,
R139). -/

namespace Sys2Proof.Machine

/-! ### One register -/

theorem word_toNat {n : Nat} (small : n < 2 ^ 32) : (word n).toNat = n := by
  simp only [word, BitVec.toNat_ofNat]
  exact Nat.mod_eq_of_lt small

/-- A write of one register that its own class and index name (R139). -/
theorem State.regWrites_one (w : State) (p : Port) (addr v : Nat) {cls idx : Nat} (own : (cls, idx) = regResource addr) :
    w.regWrites p cls idx [(addr, v)] =
      if w.regStatus p addr v = eParam ∨ (addr / 0x10000 = 9 ∧ timersOk (w.regPut p addr v) = false) then
        (w.noteCam p [(addr, v)] w, eParam)
      else if w.regStatus p addr v = stOk then (w.regPut p addr v, stOk) else (w, w.regStatus p addr v) := by
  by_cases fine : w.regStatus p addr v = stOk <;> simp [State.regWrites, State.tryWrites, own, fine]

theorem perform_writeOne (t : Ticket) (w : State) {addr : Nat} {v : Word} (small : addr < 2 ^ 32) :
    perform t (.regWrite ⟨word addr, 1, [v]⟩) w =
      (w.regWrites t.hdr.port t.hdr.cls.toNat t.hdr.idx.toNat [(addr, v.toNat)]).1.reply t
        (w.regWrites t.hdr.port t.hdr.cls.toNat t.hdr.idx.toNat [(addr, v.toNat)]).2 [] := by
  have one : (regAddrs (word addr).toNat (1 : Word).toNat).zip ([v].map BitVec.toNat) = [(addr, v.toNat)] := by
    rw [word_toNat small]; rfl
  change doRegWrite t ⟨word addr, 1, [v]⟩ w = _
  unfold doRegWrite
  rw [if_neg (show ¬ ((1 : Word).toNat = 0 ∨ 64 < (1 : Word).toNat) by decide)]
  dsimp only
  rw [one]

theorem State.regStatus_quiet (u : State) (p : Port) (addr v : Nat) : u.quiet.regStatus p addr v = u.regStatus p addr v := rfl

/-! ### The ends of a write of one register -/

section
variable {s : State} {h : Hdr} {ses : Session} {addr : Nat} {v : Word} {i : Instr}
variable (ok : WriteOk s h addr v ses) (row : exec i s = .next (s.writeOne h addr v)) (small : addr < 2 ^ 32)
include ok row small

/-- A value that is accepted is put. -/
theorem write_puts (status : s.regStatus h.port addr v.toNat = stOk) (g : State → State)
    (put : ∀ u : State, u.regPut h.port addr v.toNat = g u) (timers : addr / 0x10000 = 9 → timersOk (g s) = true)
    (blind : ∀ u, (g u).quiet = g u.quiet) : Completes i s h 0x11 stOk [] (g s) := by
  obtain ⟨ok, own⟩ := ok
  have fine : (s.accepted h).regStatus h.port addr v.toNat = stOk :=
    (ok.reads (fun u => u.regStatus h.port addr v.toNat) fun u => u.regStatus_quiet _ _ _).trans status
  have sound : addr / 0x10000 = 9 → timersOk ((s.accepted h).regPut h.port addr v.toNat) = true := fun nine => by
    rw [put]
    exact (congrArg timersOk (ok.acts g blind : _)).trans (timers nine)
  refine ok.completes_effect row (show (0x11 : Nat) ≠ 0x02 by decide) uncounted_ok g ?_ ?_ ?_ blind
  · rw [perform_writeOne _ _ small]
    simp only [State.ticket_port, State.ticket_cls, State.ticket_idx]
    rw [State.regWrites_one _ _ _ _ own, fine, if_neg, if_pos rfl, put]
    rintro (bad | ⟨nine, bad⟩)
    · exact absurd bad (by decide)
    · rw [sound nine] at bad; exact absurd bad (by decide)
  · rw [← put]; exact State.regPut_sessions _ _ _ _
  · rw [← put]; exact State.regPut_now _ _ _ _

/-- The same outside the block of the timers, the state after the row written out. -/
theorem write_answers (status : s.regStatus h.port addr v.toNat = stOk) (timers : addr / 0x10000 ≠ 9) :
    let t := ((s.accepted h).regPut h.port addr v.toNat).reply (s.ticket h (.regWrite ⟨word addr, 1, [v]⟩) ses) stOk []
    exec i s = .next t ∧ Replied s t h 0x11 stOk [] := by
  obtain ⟨ok, own⟩ := ok
  have fine : (s.accepted h).regStatus h.port addr v.toNat = stOk :=
    (ok.reads (fun u => u.regStatus h.port addr v.toNat) fun u => u.regStatus_quiet _ _ _).trans status
  refine ok.answers row (show (0x11 : Nat) ≠ 0x02 by decide) ?_ (State.regPut_sessions _ _ _ _)
    ((State.regPut_now _ _ _ _).trans (s.accepted_now h))
  rw [perform_writeOne _ _ small]
  simp only [State.ticket_port, State.ticket_cls, State.ticket_idx]
  rw [State.regWrites_one _ _ _ _ own, fine, if_neg (by simp [timers, stOk, eParam]), if_pos rfl]

/-- A value refused for the state it meets changes nothing. -/
theorem write_refused {e : Nat} (status : s.regStatus h.port addr v.toNat = e) (bad : e ≠ stOk) (state : e ≠ eParam)
    (timers : addr / 0x10000 ≠ 9) : Completes i s h 0x11 e [] s := by
  obtain ⟨ok, own⟩ := ok
  have fails : (s.accepted h).regStatus h.port addr v.toNat = e :=
    (ok.reads (fun u => u.regStatus h.port addr v.toNat) fun u => u.regStatus_quiet _ _ _).trans status
  refine ok.completes_reply row (show (0x11 : Nat) ≠ 0x02 by decide) (status ▸ s.regStatus_uncounted _ _ _) ?_
  rw [perform_writeOne _ _ small]
  simp only [State.ticket_port, State.ticket_cls, State.ticket_idx]
  rw [State.regWrites_one _ _ _ _ own, fails, if_neg (by simp [state, timers]), if_neg bad]

/-- A value out of range changes nothing but a CAM_COMMIT's RESULT. -/
theorem write_outOfRange (status : s.regStatus h.port addr v.toNat = eParam ∨
      (addr / 0x10000 = 9 ∧ timersOk ((s.accepted h).regPut h.port addr v.toNat) = false))
    (g : State → State) (note : ∀ u : State, u.noteCam h.port [(addr, v.toNat)] u = g u)
    (blind : ∀ u, (g u).quiet = g u.quiet) : Completes i s h 0x11 eParam [] (g s) := by
  obtain ⟨ok, own⟩ := ok
  have reads : (s.accepted h).regStatus h.port addr v.toNat = s.regStatus h.port addr v.toNat :=
    ok.reads (fun u => u.regStatus h.port addr v.toNat) fun u => u.regStatus_quiet _ _ _
  have only (u : State) : ∃ x, g u = { u with headbox := x } := note u ▸ u.noteCam_only h.port _ u
  refine ok.completes_effect row (show (0x11 : Nat) ≠ 0x02 by decide) uncounted_param g ?_ ?_ ?_ blind
  · rw [perform_writeOne _ _ small]
    simp only [State.ticket_port, State.ticket_cls, State.ticket_idx]
    rw [State.regWrites_one _ _ _ _ own, reads, if_pos status, note]
  · obtain ⟨x, same⟩ := only (s.accepted h); rw [same]; rfl
  · obtain ⟨x, same⟩ := only (s.accepted h); rw [same]

end

theorem State.noteCam_elsewhere (u : State) (p : Port) (addr v : Nat) (other : addr / 0x10000 ≠ 6) :
    u.noteCam p [(addr, v)] u = u := by
  simp [State.noteCam, other]

end Sys2Proof.Machine
end

section
/-! PROOFS. The counter clears of the register blocks (R39, R56, R171, R194, R215, R234, R266, R286, R320, R321, R341, R366, R388,
R416). -/

namespace Sys2Proof.Machine

/-! ### Registers of a bank, 0x1000 apart -/

theorem stride_div {o : Nat} (low : o < 0x1000) (k : Nat) : (o + 0x1000 * k) / 0x1000 = k := by omega

theorem stride_mod {o : Nat} (low : o < 0x1000) (k : Nat) : (o + 0x1000 * k) % 0x1000 = o := by omega

/-- The block and the offset of a register of a bank. -/
theorem stride_block (b : Nat) {o k : Nat} (low : o + 0x1000 * k < 0x10000) :
    (b * 0x10000 + o + 0x1000 * k) / 0x10000 = b ∧ (b * 0x10000 + o + 0x1000 * k) % 0x10000 = o + 0x1000 * k := by omega

/-! ### A write of 1 zeroes the counters -/

/-- A register whose bit 0 clears, and whose other values do nothing. -/
theorem clear_completes {s : State} {h : Hdr} {ses : Session} {addr : Nat} {v : Word} {i : Instr} {f : State → State}
    (ok : WriteOk s h addr v ses) (row : exec i s = .next (s.writeOne h addr v)) (small : addr < 2 ^ 32)
    (timers : addr / 0x10000 ≠ 9) (status : s.regStatus h.port addr v.toNat = stOk)
    (put : ∀ u : State, u.regPut h.port addr v.toNat = if v.toNat.testBit 0 then f u else u)
    (blind : ∀ u, (f u).quiet = f u.quiet) : Completes i s h 0x11 stOk [] (if v.getLsbD 0 then f s else s) := by
  refine write_puts ok row small status (fun u => if v.getLsbD 0 then f u else u) put (absurd · timers) fun u => ?_
  split
  · exact blind u
  · rfl

/-! ### The counters that a table names, at 0 -/

def State.faultCountsCleared (s : State) : State :=
  s.updFabric fun f => { f with cntHsWdt := 0, cntLate := 0 }

def State.peakCleared (s : State) : State :=
  s.updThermal fun t => { t with peak := none }

def State.eccCountsCleared (s : State) : State :=
  s.updMem fun m => { m with
    cntVatCe := 0, cntVatUe := 0, cntCoreCe := 0, cntCoreUe := 0, cntHbmCe := 0, cntHbmUe := 0, cntInteg := 0 }

def State.numericCountsCleared (s : State) : State :=
  s.updCores fun c => { c with cntSat := 0, cntNonfin := 0, cntRehash := 0 }

def State.jobCountsCleared (s : State) : State :=
  s.updJobs fun j => { j with abandons := 0, cntFailed := 0, cntCancel := 0, tokenOvf := 0 }

def State.headboxCountsCleared (s : State) : State :=
  { s with headbox := { s.headbox with radDrop := 0 } }

def State.timeCountsCleared (s : State) : State :=
  s.updTb fun t => { t with
    steps := 0, holdovers := 0, ptp := { t.ptp with cntSync := 0, cntDelay := 0, cntMissing := 0, cntDiscard := 0 },
    ppsi := { t.ppsi with cntEdges := 0, cntReject := 0 },
    pulses := t.pulses.map fun p => { p with edges := 0, suppr := 0 } }

def State.safetyCountsCleared (s : State) : State :=
  { s with safety := { s.safety with falls := 0, safeStops := 0, stopResp := 0 } }

def State.lightCountsCleared (s : State) : State :=
  s.updIllum fun i => { i with cntOpen := 0, cntShort := 0, cntHarness := 0, cntOvp := 0 }

def State.sensorCountsCleared (s : State) (k : Fin 6) : State :=
  s.updSensor k fun x => { x with
    complete := 0, corr := 0, uncorr := 0, crc := 0, lineLen := 0, trunc := 0, planeMiss := 0, noBuf := 0, untrig := 0,
    sot := 0, clkLost := 0, tokSat := 0, unknownDt := 0 }

def State.axisCountsCleared (s : State) (n : Fin 8) : State :=
  s.updAxis n fun a => { a with
    cntComm := 0, cntLost := 0, cntFault := 0, cntOver := 0, cntRefused := 0 }

def State.observerCountsCleared (s : State) (n : Fin 8) : State :=
  s.updAxis n fun a => { a with
    cntMiss := 0, cntRestore := 0, cntSat := 0, cntObsFault := 0, latMax := 0 }

def State.busCountsCleared (s : State) (b : Fin 2) : State :=
  s.updBus b fun x => { x with frames := 0, frameErr := 0, powerLoss := 0, collided := 0 }

def State.radioCountsCleared (s : State) : State :=
  s.updRadio fun r => { r with
    rxOk := 0, crcErr := 0, evmAborts := 0, micFail := 0, replay := 0, switches := 0, noAck := 0, txDrop := 0,
    slots := r.slots.map fun x => { x with events := 0, discarded := 0 } }

/-! ### What a write of each clear does -/

section
variable (s : State) (v : Nat)

theorem fabricWrite_clear : fabricWrite s 0x214 v = if v.testBit 0 then s.faultCountsCleared else s := by
  cases bit : v.testBit 0 <;> simp [fabricWrite, bit, State.faultCountsCleared]

theorem thermWrite_clear : thermWrite s 0x244 v = if v.testBit 0 then s.peakCleared else s := by
  cases bit : v.testBit 0 <;> simp [thermWrite, bit, State.peakCleared]

theorem memWriteReg_clear : memWriteReg s 0x50 v = if v.testBit 0 then s.eccCountsCleared else s := by
  cases bit : v.testBit 0 <;> simp [memWriteReg, bit, State.eccCountsCleared]

theorem coresWrite_clear : coresWrite s 0x494 v = if v.testBit 0 then s.numericCountsCleared else s := by
  cases bit : v.testBit 0 <;> simp [coresWrite, bit, State.numericCountsCleared]

theorem jobsWrite_clear : jobsWrite s 0x1C v = if v.testBit 0 then s.jobCountsCleared else s := by
  have graph : strideOwner 0x0400 0x20 0x1C = none := rfl
  have token : strideOwner 0x1040 0x10 0x1C = none := rfl
  cases bit : v.testBit 0 <;> simp [jobsWrite, bit, State.jobCountsCleared, graph, token]

theorem headboxWrite_clear : headboxWrite s 0xF004 v = if v.testBit 0 then s.headboxCountsCleared else s := by
  cases bit : v.testBit 0 <;> simp [headboxWrite, bit, State.headboxCountsCleared]

theorem tbWrite_clear : tbWrite s 0x60 v = if v.testBit 0 then s.timeCountsCleared else s := by
  cases bit : v.testBit 0 <;> simp [tbWrite, bit, State.timeCountsCleared]

theorem safetyWrite_clear : safetyWrite s 0x2C v = if v.testBit 0 then s.safetyCountsCleared else s := by
  cases bit : v.testBit 0 <;> simp [safetyWrite, bit, State.safetyCountsCleared]

theorem illumWrite_clear : illumWrite s 0xF608 v = if v.testBit 0 then s.lightCountsCleared else s := by
  cases bit : v.testBit 0 <;> simp [illumWrite, bit, State.lightCountsCleared]

theorem sensorsWrite_clear (k : Fin 6) :
    sensorsWrite s (0x3C + 0x1000 * k.val) v = if v.testBit 0 then s.sensorCountsCleared k else s := by
  have low : 0x3C + 0x1000 * k.val < 0x6000 := by omega
  simp only [sensorsWrite, low, dite_true, stride_mod (show 0x3C < 0x1000 by decide), stride_div (show 0x3C < 0x1000 by decide)]
  cases bit : v.testBit 0 <;> simp [State.sensorCountsCleared]

theorem axesWrite_clear (n : Fin 8) :
    axesWrite s (0x5C + 0x1000 * n.val) v = if v.testBit 0 then s.axisCountsCleared n else s := by
  have low : 0x5C + 0x1000 * n.val < 0x8000 := by omega
  simp only [axesWrite, low, dite_true, stride_mod (show 0x5C < 0x1000 by decide), stride_div (show 0x5C < 0x1000 by decide)]
  cases bit : v.testBit 0 <;> simp [State.axisCountsCleared]

theorem obsWrite_clear (n : Fin 8) :
    obsWrite s (0x2C + 0x1000 * n.val) v = if v.testBit 0 then s.observerCountsCleared n else s := by
  have low : 0x2C + 0x1000 * n.val < 0x8000 := by omega
  simp only [obsWrite, low, dite_true, stride_mod (show 0x2C < 0x1000 by decide), stride_div (show 0x2C < 0x1000 by decide)]
  cases bit : v.testBit 0 <;> simp [State.observerCountsCleared]

theorem lbusWrite_clear (b : Fin 2) : lbusWrite s (0x80C + 0x8000 * b.val) v = if v.testBit 0 then s.busCountsCleared b else s := by
  fin_cases b <;> simp [lbusWrite, State.busCountsCleared]

end

/-- A walk over the slots of the radio changes each by itself. -/
theorem forAll_updSlot (s : State) (f : RSlot → RSlot) :
    forAll s (fun s i => s.updSlot i f) = s.updRadio fun r => { r with slots := r.slots.map f } := by
  have walk : ∀ (l : List (Fin 32)) (u : State), l.foldl (fun u i => u.updSlot i f) u =
      u.updRadio fun r => { r with slots := l.foldl (fun v i => bankUpd v i f) r.slots } := by
    intro l
    induction l with
    | nil => exact fun u => rfl
    | cons i l ih => exact fun u => (ih _).trans rfl
  have slots : (List.finRange 32).foldl (fun v i => bankUpd v i f) s.radio.slots = s.radio.slots.map f := by
    refine Vector.ext fun i low => ?_
    have entry := foldl_bankUpd (fun _ => f) (List.nodup_finRange 32) s.radio.slots ⟨i, low⟩
    rw [if_pos (List.mem_finRange _)] at entry
    rw [Vector.getElem_map]
    exact entry
  refine (walk (List.finRange 32) s).trans ?_
  unfold State.updRadio
  dsimp only
  rw [slots]

theorem radioWrite_clear (s : State) (v : Nat) : radioWrite s 0x30 v = if v.testBit 0 then s.radioCountsCleared else s := by
  unfold radioWrite
  rw [forAll_updSlot]
  cases v.testBit 0 <;> rfl

/-! ### The rows -/

/-- The first part of O28: a write of 1 to a counter clear zeroes the counters its table names, a write of 0 changes nothing. -/
theorem counterClears_act (s : State) (h : Hdr) (ses : Session) (v : Word) :
    let done (i : Instr) (u : State) : Prop := Completes i s h 0x11 stOk [] (if v.getLsbD 0 then u else s)
    (WriteOk s h 0x00010214 v ses → done (.faultCntClr h v) s.faultCountsCleared) ∧
    (WriteOk s h 0x00000244 v ses → done (.tjPeakClr h v) s.peakCleared) ∧
    (WriteOk s h 0x00040050 v ses → done (.eccCntClr h v) s.eccCountsCleared) ∧
    (WriteOk s h 0x00010494 v ses → done (.numCntClr h v) s.numericCountsCleared) ∧
    (WriteOk s h 0x0005001C v ses → done (.jobCntClr h v) s.jobCountsCleared) ∧
    (WriteOk s h 0x0006F004 v ses → done (.hbCntClr h v) s.headboxCountsCleared) ∧
    (∀ k : Fin 6, WriteOk s h (0x0007003C + 0x1000 * k.val) v ses → done (.snsErrClr h k v) (s.sensorCountsCleared k)) ∧
    (WriteOk s h 0x00080060 v ses → done (.tbCntClr h v) s.timeCountsCleared) ∧
    (∀ n : Fin 8, WriteOk s h (0x000A005C + 0x1000 * n.val) v ses → done (.axCntClr h n v) (s.axisCountsCleared n)) ∧
    (WriteOk s h 0x0010002C v ses → done (.safeCntClr h v) s.safetyCountsCleared) ∧
    (∀ n : Fin 8, WriteOk s h (0x000B002C + 0x1000 * n.val) v ses → done (.obsCntClr h n v) (s.observerCountsCleared n)) ∧
    (WriteOk s h 0x000CF608 v ses → done (.illCntClr h v) s.lightCountsCleared) ∧
    (∀ b : Fin 2, WriteOk s h (0x000D080C + 0x8000 * b.val) v ses → done (.lbusCntClr h b v) (s.busCountsCleared b)) ∧
    (WriteOk s h 0x000E0030 v ses → done (.radCntClr h v) s.radioCountsCleared) := by
  refine ⟨?_, ?_, ?_, ?_, ?_, ?_, ?_, ?_, ?_, ?_, ?_, ?_, ?_, ?_⟩
  · exact fun ok => clear_completes (f := State.faultCountsCleared) ok rfl (by decide) (by decide) rfl
      (fun u => fabricWrite_clear u v.toNat) fun _ => rfl
  · exact fun ok => clear_completes (f := State.peakCleared) ok rfl (by decide) (by decide) rfl
      (fun u => thermWrite_clear u v.toNat) fun _ => rfl
  · exact fun ok => clear_completes (f := State.eccCountsCleared) ok rfl (by decide) (by decide) rfl
      (fun u => memWriteReg_clear u v.toNat) fun _ => rfl
  · exact fun ok => clear_completes (f := State.numericCountsCleared) ok rfl (by decide) (by decide) rfl
      (fun u => coresWrite_clear u v.toNat) fun _ => rfl
  · exact fun ok => clear_completes (f := State.jobCountsCleared) ok rfl (by decide) (by decide) rfl
      (fun u => jobsWrite_clear u v.toNat) fun _ => rfl
  · exact fun ok => clear_completes (f := State.headboxCountsCleared) ok rfl (by decide) (by decide) rfl
      (fun u => headboxWrite_clear u v.toNat) fun _ => rfl
  · intro k ok
    obtain ⟨block, off⟩ := stride_block 0x7 (o := 0x3C) (k := k.val) (by omega)
    refine clear_completes (f := (State.sensorCountsCleared · k)) ok rfl (by omega) (by rw [block]; decide) ?_ (fun u => ?_) fun _ => rfl
    · simp only [State.regStatus, block, off]
      simp [sensorsCheck]
    · simp only [State.regPut, block, off, sensorsWrite_clear]
  · exact fun ok => clear_completes (f := State.timeCountsCleared) ok rfl (by decide) (by decide) rfl
      (fun u => tbWrite_clear u v.toNat) fun _ => rfl
  · intro n ok
    obtain ⟨block, off⟩ := stride_block 0xA (o := 0x5C) (k := n.val) (by omega)
    refine clear_completes (f := (State.axisCountsCleared · n)) ok rfl (by omega) (by rw [block]; decide) ?_ (fun u => ?_) fun _ => rfl
    · simp only [State.regStatus, block, off]
      simp [axesCheck]
    · simp only [State.regPut, block, off, axesWrite_clear]
  · exact fun ok => clear_completes (f := State.safetyCountsCleared) ok rfl (by decide) (by decide) rfl
      (fun u => safetyWrite_clear u v.toNat) fun _ => rfl
  · intro n ok
    obtain ⟨block, off⟩ := stride_block 0xB (o := 0x2C) (k := n.val) (by omega)
    refine clear_completes (f := (State.observerCountsCleared · n)) ok rfl (by omega) (by rw [block]; decide) ?_ (fun u => ?_) fun _ => rfl
    · simp only [State.regStatus, block, off]
      simp [obsCheck, inRange]
    · simp only [State.regPut, block, off, obsWrite_clear]
  · exact fun ok => clear_completes (f := State.lightCountsCleared) ok rfl (by decide) (by decide) rfl
      (fun u => illumWrite_clear u v.toNat) fun _ => rfl
  · intro b ok
    have block : (0xD080C + 0x8000 * b.val) / 0x10000 = 0xD := by omega
    have off : (0xD080C + 0x8000 * b.val) % 0x10000 = 0x80C + 0x8000 * b.val := by omega
    refine clear_completes (f := (State.busCountsCleared · b)) ok rfl (by omega) (by rw [block]; decide) ?_ (fun u => ?_) fun _ => rfl
    · simp only [State.regStatus, block]
    · simp only [State.regPut, block, off, lbusWrite_clear]
  · exact fun ok => clear_completes (f := State.radioCountsCleared) ok rfl (by decide) (by decide) rfl
      (fun u => radioWrite_clear u v.toNat) fun _ => rfl

end Sys2Proof.Machine
end

section
/-! PROOFS. The reads of a low word that latch the rest (R266, R286, R294, R453). -/

namespace Sys2Proof.Machine

theorem perform_readOne (t : Ticket) (w : State) {addr : Nat} (small : addr < 2 ^ 32) :
    perform t (.regRead (word addr) 1) w = (w.regLatch addr).reply t stOk (le 4 (w.regWord addr)) := by
  have one : regAddrs (word addr).toNat (1 : Word).toNat = [addr] := by rw [word_toNat small]; rfl
  change doRegRead t (word addr) 1 w = _
  unfold doRegRead
  rw [if_neg (show ¬ ((1 : Word).toNat = 0 ∨ 256 < (1 : Word).toNat) by decide), one]
  simp [State.regReads]

/-- A read of one register returns its word and latches what its table says. -/
theorem read_completes {s : State} {h : Hdr} {ses : Session} {addr : Nat} {i : Instr} {b : Bytes}
    (ok : Accepted s h (.regRead (word addr) 1) ses) (row : exec i s = .next (s.readOne h addr)) (small : addr < 2 ^ 32)
    (g : State → State) (latch : ∀ u : State, u.regLatch addr = g u) (value : le 4 ((s.accepted h).regWord addr) = b)
    (blind : ∀ u, (g u).quiet = g u.quiet) : Completes i s h 0x10 stOk b (g s) := by
  refine ok.completes_effect row (show (0x10 : Nat) ≠ 0x02 by decide) uncounted_ok g ?_ ?_ ?_ blind
  · rw [perform_readOne _ _ small, latch, value]
  · rw [← latch]; exact State.regLatch_sessions _ _
  · rw [← latch]; exact State.regLatch_now _ _

/-- The first word of the 12 bytes of a time. -/
theorem le_ofLe (b : Bytes) : le b.length (ofLe b) = b := by
  induction b with
  | nil => rfl
  | cons x b ih =>
    have byte : BitVec.ofNat 8 (x.toNat + 256 * ofLe b) = x := by bv_omega
    have rest : (x.toNat + 256 * ofLe b) / 256 = ofLe b := by omega
    rw [List.length_cons, ofLe, le, byte, rest, ih]

theorem le_time96Bytes (t : Time96) : le 4 (at_ (time96Bytes t) 0 4) = (time96Bytes t).take 4 := by
  have len : ((time96Bytes t).take 4).length = 4 := by simp [time96Bytes]
  have all := le_ofLe ((time96Bytes t).take 4)
  rwa [len] at all

/-! ### The words and what reading them latches -/

section
variable (s : State)

theorem sensorsRead_lastFs (k : Fin 6) : sensorsRead s (0x40 + 0x1000 * k.val) = at_ (time96Bytes (s.sns k).lastFs) 0 4 := by
  have low : 0x40 + 0x1000 * k.val < 0x6000 := by omega
  simp [sensorsRead, low, stride_div]

theorem sensorsLatch_lastFs (k : Fin 6) :
    sensorsLatch s (0x40 + 0x1000 * k.val) = s.updSensor k fun x => { x with latch := x.lastFs } := by
  have low : 0x40 + 0x1000 * k.val < 0x6000 := by omega
  simp [sensorsLatch, low, stride_div]

theorem timersRead_at (n : Fin 16) {o : Nat} (inside : o < 0x1000) :
    timersRead s (o + 0x1000 * n.val) = (s.timers.get n).read s.d02 o := by
  have low : o + 0x1000 * n.val < 0x10000 := by omega
  simp only [timersRead, low, dite_true, stride_mod inside, stride_div inside]

theorem timersLatch_at (n : Fin 16) {o : Nat} (inside : o < 0x1000) :
    timersLatch s (o + 0x1000 * n.val) = s.updTimer n fun t => t.afterRead s.d02 o := by
  have low : o + 0x1000 * n.val < 0x10000 := by omega
  simp only [timersLatch, low, dite_true, stride_mod inside, stride_div inside]

theorem linkRead_bits (n : Fin 16) : linkRead s (4 + 0x1000 * n.val) = s.liveBits n % 2 ^ 32 := by
  have low : 4 + 0x1000 * n.val < 0x10000 := by omega
  simp [linkRead, low, stride_div]

theorem linkLatch_bits (n : Fin 16) : linkLatch s (4 + 0x1000 * n.val) = s.updUnit n fun x => { x with
    latBitsHi := s.liveBits n / 2 ^ 32, latErrLo := s.liveErrors n % 2 ^ 32, latErrHi := s.liveErrors n / 2 ^ 32 } := by
  have low : 4 + 0x1000 * n.val < 0x10000 := by omega
  simp [linkLatch, low, stride_div]

/-- While a unit counts its figures are free values within what it counts to. -/
theorem State.live_figures (n : Fin 16) : if (s.unit n).st = .counting then s.liveBits n ≤ (s.unit n).goal
    else s.liveBits n = (s.unit n).bits ∧ s.liveErrors n = (s.unit n).errors := by
  unfold State.liveErrors State.liveBits
  split
  · next counts => exact Nat.lt_succ_iff.mp (by simpa [counts] using Nat.mod_lt _ (Nat.succ_pos _))
  · next rests => simp [rests]

end

/-! ### The rows -/

section
variable {s : State} {h : Hdr} {ses : Session}

theorem lastFs0Read_completes (k : Fin 6) (ok : Accepted s h (.regRead (word (0x00070040 + 0x1000 * k.val)) 1) ses) :
    Completes (.lastFs0Read h k) s h 0x10 stOk ((time96Bytes (s.sns k).lastFs).take 4)
      (s.updSensor k fun x => { x with latch := x.lastFs }) := by
  obtain ⟨block, off⟩ := stride_block 7 (o := 0x40) (k := k.val) (by omega)
  refine read_completes ok rfl (by omega) (fun u => u.updSensor k fun x => { x with latch := x.lastFs }) (fun u => ?_) ?_ fun _ => rfl
  · simp only [State.regLatch, block, off, sensorsLatch_lastFs]
  · simp only [State.regWord, block, off, sensorsRead_lastFs, State.accepted_sns, le_time96Bytes]

theorem tbNow0Read_completes (ok : Accepted s h (.regRead (word 0x00080008) 1) ses) :
    Completes (.tbNow0Read h) s h 0x10 stOk ((time96Bytes s.devTime).take 4) (s.updTb fun t => { t with latch := s.devTime }) := by
  have time : (s.accepted h).devTime = s.devTime := ok.reads State.devTime fun _ => rfl
  refine read_completes ok rfl (by decide) (fun u => u.updTb fun t => { t with latch := u.devTime }) (fun u => ?_) ?_ fun _ => rfl
  · simp [State.regLatch, tbLatch]
  · simp [State.regWord, tbRead, time, le_time96Bytes]

theorem timCntLoRead_completes (n : Fin 16) (ok : Accepted s h (.regRead (word (0x00090000 + 0x1000 * n.val)) 1) ses) :
    let c := (s.timers.get n).count s.d02
    Completes (.timCntLoRead h n) s h 0x10 stOk (le 4 (c.1 % 2 ^ 32))
      (s.updTimer n fun t => { t with cntLatch := c.1 / 2 ^ 32 + bitAt 16 c.2 }) := by
  intro c
  obtain ⟨block, off⟩ := stride_block 9 (o := 0) (k := n.val) (by omega)
  refine read_completes ok rfl (by omega) (fun u => u.updTimer n fun t =>
    { t with cntLatch := ((u.timers.get n).count u.d02).1 / 2 ^ 32 + bitAt 16 ((u.timers.get n).count u.d02).2 })
    (fun u => ?_) ?_ fun _ => rfl
  · simp only [State.regLatch, block, off, timersLatch_at u n (show 0 < 0x1000 by decide)]
    rfl
  · simp only [State.regWord, block, off, timersRead_at _ n (show 0 < 0x1000 by decide), State.accepted_timers, State.accepted_d02]
    rfl

theorem timCapLoRead_completes (n : Fin 16) (ok : Accepted s h (.regRead (word (0x00090088 + 0x1000 * n.val)) 1) ses)
    (now : s.readWaits (0x00090088 + 0x1000 * n.val) 1 = false) :
    Completes (.timCapLoRead h n) s h 0x10 stOk (le 4 ((s.timers.get n).capCount % 2 ^ 32))
      (s.updTimer n fun t => { t with capValid := false, capLatch := t.capCount / 2 ^ 32 + bitAt 16 t.capDir }) := by
  obtain ⟨block, off⟩ := stride_block 9 (o := 0x88) (k := n.val) (by omega)
  have row : exec (.timCapLoRead h n) s = .next (s.readOne h (0x00090088 + 0x1000 * n.val)) :=
    congrArg Host.Outcome.next (if_neg (ne_true_of_eq_false now))
  refine read_completes ok row (by omega)
    (fun u => u.updTimer n fun t => { t with capValid := false, capLatch := t.capCount / 2 ^ 32 + bitAt 16 t.capDir })
    (fun u => ?_) ?_ fun _ => rfl
  · simp only [State.regLatch, block, off, timersLatch_at u n (show 0x88 < 0x1000 by decide)]
    rfl
  · simp only [State.regWord, block, off, timersRead_at _ n (show 0x88 < 0x1000 by decide), State.accepted_timers]
    rfl

/-- What a read of LT_BITS_LO latches of a unit: the bits and errors counted so far. -/
theorem ltBitsLoRead_completes (n : Fin 16) (ok : Accepted s h (.regRead (word (0x000F0004 + 0x1000 * n.val)) 1) ses) :
    Completes (.ltBitsLoRead h n) s h 0x10 stOk (le 4 (s.liveBits n % 2 ^ 32))
      { s.updUnit n fun x => { x with
          latBitsHi := s.liveBits n / 2 ^ 32, latErrLo := s.liveErrors n % 2 ^ 32, latErrHi := s.liveErrors n / 2 ^ 32 } with
        free := s.free + 6 } := by
  obtain ⟨block, off⟩ := stride_block 0xF (o := 4) (k := n.val) (by omega)
  have bits : (s.accepted h).liveBits n = s.liveBits n := ok.reads (·.liveBits n) fun _ => rfl
  refine read_completes ok rfl (by omega)
    (fun u => { u.updUnit n fun x => { x with
      latBitsHi := u.liveBits n / 2 ^ 32, latErrLo := u.liveErrors n % 2 ^ 32, latErrHi := u.liveErrors n / 2 ^ 32 } with
        free := u.free + 6 })
    (fun u => ?_) ?_ fun _ => rfl
  · simp only [State.regLatch, block, off, linkLatch_bits]
    rfl
  · simp only [State.regWord, block, off, linkRead_bits, bits]

end

end Sys2Proof.Machine
end

section
/-! PROOFS. Writes of DBG_HALT and CAM_COMMIT (R53 to R55, R218). -/

namespace Sys2Proof.Machine

/-! ### DBG_HALT -/

/-- The lifecycle lets cores be halted, and no core newly named is PINNED for an axis that may move (R53). -/
def State.mayHalt (s : State) (v : Word) : Prop :=
  (s.otp.lifecycle = .blank ∨ s.otp.lifecycle = .service) ∧
    ∀ c : Fin 32, v.getLsbD c.val = true → s.fabric.dbgHalt.get c = false → (s.core1 c).st = .pinned →
      ∀ n ∈ axesOf c, (s.axis n).st = .stoppedSafe ∨ (s.axis n).st = .disabled

theorem State.dbgStatus_of_mayHalt {s : State} {v : Word} (may : s.mayHalt v) : s.dbgStatus v.toNat = stOk := by
  obtain ⟨life, rest⟩ := may
  have open_ : ¬ (s.otp.lifecycle ≠ .blank ∧ s.otp.lifecycle ≠ .service) := by tauto
  unfold State.dbgStatus
  rw [if_neg open_, if_neg]
  simp only [List.any_eq_true, List.mem_finRange, true_and, Bool.and_eq_true, Bool.not_eq_true', beq_iff_eq, bne_iff_ne, not_exists,
    not_and]
  rintro c ⟨⟨named, newly⟩, pinned⟩ n here moves stays
  rcases rest c named newly pinned n here with stopped | off
  · exact moves stopped
  · exact stays off

theorem State.dbgStatus_of_not_mayHalt {s : State} {v : Word} (may : ¬ s.mayHalt v) : s.dbgStatus v.toNat = eState := by
  unfold State.dbgStatus
  split
  · rfl
  · next open_ =>
    rw [if_pos]
    by_contra none
    refine may ⟨by tauto, fun c named newly pinned n here => ?_⟩
    by_contra moves
    refine none (List.any_eq_true.mpr ⟨c, List.mem_finRange c, ?_⟩)
    simp only [Bool.and_eq_true, Bool.not_eq_true', beq_iff_eq, List.any_eq_true, bne_iff_ne]
    exact ⟨⟨⟨named, newly⟩, pinned⟩, n, here, fun stopped => moves (.inl stopped), fun off => moves (.inr off)⟩

/-- A walk whose steps are blind to what the ports hold is blind to it. -/
theorem forAll_quiet {n : Nat} {f : State → Fin n → State} (step : ∀ s k, (f s k).quiet = f s.quiet k) (s : State) :
    (forAll s f).quiet = forAll s.quiet f := by
  have walk : ∀ (l : List (Fin n)) (u : State), (l.foldl f u).quiet = l.foldl f u.quiet := by
    intro l
    induction l with
    | nil => exact fun u => rfl
    | cons k l ih => exact fun u => (ih _).trans (congrArg (List.foldl f · l) (step u k))
  exact walk _ s

/-- What pinning the cores again makes of one. -/
def State.repinCore (s : State) (c : Fin 32) : State :=
  let want := (axesOf c).any fun n => (s.axes.get n).needsCore
  let x := s.core1 c
  if s.fabric.dbgHalt.get c then s
  else if want ∧ s.boot.dev = .full ∧ (x.st = .idle ∨ x.st = .off) ∧ ¬ x.retired ∧ ¬ x.barred then
    s.updCore c fun x => { x with st := .pinned }
  else if ¬ want ∧ x.st = .pinned then s.updCore c fun x => { x with st := .idle, idleAt := s.now }
  else s

theorem State.repinCore_quiet (s : State) (c : Fin 32) : (s.repinCore c).quiet = s.quiet.repinCore c := by
  unfold State.repinCore
  dsimp only
  rw [apply_ite State.quiet, apply_ite State.quiet, apply_ite State.quiet]
  rfl

/-- Pinning cores again is blind to what the ports hold. -/
theorem State.repin_quiet (s : State) : s.repin.quiet = s.quiet.repin := forAll_quiet State.repinCore_quiet s

theorem dbgHaltWrite_completes {s : State} {h : Hdr} {ses : Session} {v : Word} (ok : WriteOk s h 0x00010300 v ses) :
    (s.mayHalt v → Completes (.dbgHaltWrite h v) s h 0x11 stOk [] (s.updFabric fun f => { f with
      dbgHalt := Vector.ofFn fun c : Fin 32 => v.getLsbD c.val,
      halted := Vector.ofFn fun c : Fin 32 => f.halted.get c && v.getLsbD c.val }).repin) ∧
    (¬ s.mayHalt v → Completes (.dbgHaltWrite h v) s h 0x11 eState [] s) := by
  have status : s.regStatus h.port 0x00010300 v.toNat = s.dbgStatus v.toNat := by simp [State.regStatus, fabricCheck]
  refine ⟨fun may => ?_, fun may => ?_⟩
  · refine write_puts ok rfl (by decide) (status.trans (State.dbgStatus_of_mayHalt may)) (fun u => (u.updFabric fun f => { f with
      dbgHalt := Vector.ofFn fun c : Fin 32 => v.getLsbD c.val,
      halted := Vector.ofFn fun c : Fin 32 => f.halted.get c && v.getLsbD c.val }).repin) (fun u => ?_)
      (fun nine => absurd nine (by decide)) fun u => State.repin_quiet _
    simp only [State.regPut, fabricWrite, BitVec.testBit_toNat]
    simp
  · exact write_refused ok rfl (by decide) (status.trans (State.dbgStatus_of_not_mayHalt may)) (by decide) (by decide) (by decide)

/-! ### CAM_COMMIT -/

/-- What a commit makes of a camera: its shadow model active, or the check that it fails (R218). -/
def CamState.committed (x : CamState) : CamState :=
  if camCheck x.shadow = 0 then { x with active := x.shadow, valid := true, result := 0, commits := satInc 65535 x.commits }
  else { x with result := camCheck x.shadow }

theorem headboxWrite_commit (s : State) (k : Fin 6) (v : Nat) :
    headboxWrite s (0xC0 + 0x1000 * k.val) v = if v.testBit 0 then s.updCam k CamState.committed else s := by
  have low : 0xC0 + 0x1000 * k.val < 0x6000 := by omega
  simp only [headboxWrite, low, dite_true, stride_mod (show 0xC0 < 0x1000 by decide), stride_div (show 0xC0 < 0x1000 by decide)]
  cases v.testBit 0 <;> rfl

theorem headboxCheck_commit (s : State) (k : Fin 6) (v : Nat) : headboxCheck s (0xC0 + 0x1000 * k.val) v =
    (!v.testBit 0 || camCheck (s.headbox.cam.get k).shadow == 0) := by
  have low : 0xC0 + 0x1000 * k.val < 0x6000 := by omega
  simp only [headboxCheck, low, dite_true, stride_mod (show 0xC0 < 0x1000 by decide), stride_div (show 0xC0 < 0x1000 by decide)]
  rfl

theorem State.updCam_congr {s : State} {k : Fin 6} {f g : CamState → CamState}
    (same : f (s.headbox.cam.get k) = g (s.headbox.cam.get k)) : s.updCam k f = s.updCam k g := by
  rw [State.updCam, State.updCam, bankUpd, bankUpd, same]

theorem camCommit_completes {s : State} {h : Hdr} {ses : Session} {v : Word} (k : Fin 6)
    (ok : WriteOk s h (0x000600C0 + 0x1000 * k.val) v ses) :
    let r := camCheck (s.headbox.cam.get k).shadow
    if v.getLsbD 0 = false then Completes (.camCommit h k v) s h 0x11 stOk [] s
    else if r = 0 then Completes (.camCommit h k v) s h 0x11 stOk [] (s.updCam k fun x => { x with
      active := x.shadow, valid := true, result := 0, commits := satInc 65535 x.commits })
    else Completes (.camCommit h k v) s h 0x11 eParam [] (s.updCam k fun x => { x with result := r }) := by
  intro r
  obtain ⟨block, off⟩ := stride_block 6 (o := 0xC0) (k := k.val) (by omega)
  have inside : 0xC0 + 0x1000 * k.val < 0x6000 := by omega
  have status : s.regStatus h.port (0x000600C0 + 0x1000 * k.val) v.toNat = inRange (!v.getLsbD 0 || r == 0) := by
    simp only [State.regStatus, block, off, headboxCheck_commit]
    rfl
  have put (u : State) : u.regPut h.port (0x000600C0 + 0x1000 * k.val) v.toNat =
      if v.getLsbD 0 then u.updCam k CamState.committed else u := by
    simp only [State.regPut, block, off, headboxWrite_commit]
    rfl
  split
  · next clear =>
    refine write_puts ok rfl (by omega) (status.trans (by rw [clear]; rfl)) id (fun u => ?_) (by omega) fun _ => rfl
    rw [put, clear]
    rfl
  · next set =>
    have set : v.getLsbD 0 = true := by simpa using set
    have bit : v.toNat.testBit 0 = true := set
    split
    · next good =>
      rw [State.updCam_congr (g := CamState.committed) (if_pos good).symm]
      refine write_puts ok rfl (by omega) (status.trans (by simp [good, inRange])) (State.updCam · k CamState.committed)
        (fun u => ?_) (by omega) fun _ => rfl
      rw [put, set]
      rfl
    · next bad =>
      have fails : camCheck (s.headbox.cam.get k).shadow ≠ 0 := bad
      have note (u : State) : u.noteCam h.port [(0x000600C0 + 0x1000 * k.val, v.toNat)] u =
          if camCheck (u.headbox.cam.get k).shadow = 0 then u
          else u.updCam k fun x => { x with result := camCheck (u.headbox.cam.get k).shadow } := by
        simp only [State.noteCam, block, off, inside, and_self, dite_true, headboxCheck_commit,
          stride_div (show 0xC0 < 0x1000 by decide), bit, Bool.not_true, Bool.false_or]
        by_cases fine : camCheck (u.headbox.cam.get k).shadow = 0 <;> simp [fine]
      have noted := write_outOfRange (i := .camCommit h k v) ok rfl (by omega) (.inl (status.trans (by simp [set, r, fails, inRange])))
        (fun u => if camCheck (u.headbox.cam.get k).shadow = 0 then u
          else u.updCam k fun x => { x with result := camCheck (u.headbox.cam.get k).shadow }) note fun u => ?_
      · rwa [if_neg fails] at noted
      · rw [apply_ite State.quiet]
        rfl

end Sys2Proof.Machine
end

section
/-! PROOFS. Writes of TIM_RST and TIM_GT_FUNC (R295, R297). -/

namespace Sys2Proof.Machine

/-! ### The timers after a write of one -/

theorem timersOk_iff {s : State} : timersOk s = true ↔ ∀ n, (s.timers.get n).gtOk = true := by
  simp [timersOk, bankList]

theorem toList_of_two {α : Type} (v : Vector α 2) : v.toList = [v.get 0, v.get 1] := by
  obtain ⟨⟨l⟩, two⟩ := v
  match l, two with
  | [_, _], _ => rfl

theorem Timer.gtOk_iff {t : Timer} : t.gtOk = true ↔ ¬ (t.gtFunc.get 0 = 5 ∧ t.gtFunc.get 1 = 5) := by
  simp [Timer.gtOk, toList_of_two, not_and_or, -not_and]

theorem State.gtEdges_timers (before after : State) : (before.gtEdges after).timers = after.timers := by
  obtain ⟨v, edges⟩ := State.gtEdges_eq before after
  rw [edges]

/-- With no timer changed there is no edge. -/
theorem State.gtEdges_self (s : State) : s.gtEdges s = s := by
  refine foldl_keeps (P := fun t => t = s) ?_ _ s rfl
  rintro _ k rfl
  exact if_neg fun edge => edge.2 edge.1

theorem State.trigSource_quiet (s : State) (src : Nat) : (s.trigSource src).quiet = s.quiet.trigSource src :=
  forAll_quiet (fun _ _ => rfl) s

theorem State.gtEdges_quiet (before after : State) : (before.gtEdges after).quiet = before.quiet.gtEdges after.quiet := by
  have walk : ∀ (l : List Nat) (u : State),
      (l.foldl (fun s k => if after.gtLevel k = some true ∧ before.gtLevel k ≠ some true then s.trigSource (5 + k) else s) u).quiet =
      l.foldl (fun s k => if after.gtLevel k = some true ∧ before.gtLevel k ≠ some true then s.trigSource (5 + k) else s) u.quiet := by
    intro l
    induction l with
    | nil => exact fun u => rfl
    | cons k l ih =>
      intro u
      rw [List.foldl_cons, List.foldl_cons, ih, apply_ite State.quiet, State.trigSource_quiet]
  exact walk _ after

theorem State.updTimer_id (s : State) (n : Fin 16) : (s.updTimer n fun t => t) = s := by
  have same : bankUpd s.timers n (fun t => t) = s.timers := bankUpd_id _ _ _ rfl
  rw [State.updTimer, same]

/-- What a write of a timer's word makes of the state. -/
def State.timerWritten (s : State) (n : Fin 16) (f : Timer → Timer) : State := s.gtEdges (s.updTimer n f)

theorem State.timerWritten_timer (s : State) (n : Fin 16) (f : Timer → Timer) :
    (s.timerWritten n f).timers.get n = f (s.timers.get n) := by
  rw [State.timerWritten, State.gtEdges_timers]
  exact bankUpd_get_self _ _ _

theorem State.timerWritten_id (s : State) (n : Fin 16) : (s.timerWritten n fun t => t) = s := by
  rw [State.timerWritten, State.updTimer_id, State.gtEdges_self]

theorem timersOk_timerWritten {s : State} {n : Fin 16} {f : Timer → Timer} (fine : timersOk s = true) :
    timersOk (s.timerWritten n f) = (f (s.timers.get n)).gtOk := by
  rw [Bool.eq_iff_iff, timersOk_iff, State.timerWritten, State.gtEdges_timers]
  rw [timersOk_iff] at fine
  refine ⟨fun all => ?_, fun here k => ?_⟩
  · have here := all n
    rwa [show (s.updTimer n f).timers.get n = f (s.timers.get n) from bankUpd_get_self _ _ _] at here
  · rw [show (s.updTimer n f).timers.get k = if n = k then f (s.timers.get k) else s.timers.get k from bankUpd_get _ _ _ _]
    split
    · next same => exact same ▸ here
    · exact fine k

theorem timersWrite_at (s : State) (n : Fin 16) {o : Nat} (inside : o < 0x1000) (v : Nat) :
    timersWrite s (o + 0x1000 * n.val) v = s.timerWritten n fun t => t.write n.val s.now s.d02 o v := by
  have low : o + 0x1000 * n.val < 0x10000 := by omega
  simp only [timersWrite, low, dite_true, stride_mod inside, stride_div inside]
  rfl

/-! ### A write of one timer's word -/

section
variable {s : State} {h : Hdr} {ses : Session} {v : Word} {n : Fin 16} {addr o : Nat} {i : Instr}
variable (ok : WriteOk s h addr v ses) (row : exec i s = .next (s.writeOne h addr v))
variable (block : addr / 0x10000 = 9) (off : addr % 0x10000 = o + 0x1000 * n.val) (inside : o < 0x1000) (fine : timersOk s = true)
include ok row block off inside fine

theorem timerWrite_completes (check : timerCheck n.val o v.toNat = true)
    (sound : ((s.timers.get n).write n.val s.now s.d02 o v.toNat).gtOk = true) :
    Completes i s h 0x11 stOk [] (s.timerWritten n fun t => t.write n.val s.now s.d02 o v.toNat) := by
  refine write_puts ok row (by omega) ?_ (fun u => u.timerWritten n fun t => t.write n.val u.now u.d02 o v.toNat) (fun u => ?_)
    (fun _ => (timersOk_timerWritten fine).trans sound) fun u => ?_
  · simp only [State.regStatus, block, off, timersCheck, stride_mod inside, stride_div inside, check]
    rfl
  · simp only [State.regPut, block, off, timersWrite_at _ n inside]
  · exact State.gtEdges_quiet _ _

theorem timerWrite_refused (bad : timerCheck n.val o v.toNat = false ∨
      ((s.timers.get n).write n.val s.now s.d02 o v.toNat).gtOk = false) : Completes i s h 0x11 eParam [] s := by
  refine write_outOfRange ok row (by omega) ?_ id (fun u => u.noteCam_elsewhere h.port addr v.toNat (by omega)) fun _ => rfl
  rcases bad with check | unsound
  · refine .inl ?_
    simp only [State.regStatus, block, off, timersCheck, stride_mod inside, stride_div inside, check]
    rfl
  · refine .inr ⟨block, ?_⟩
    have other : timersOk (s.accepted h) = true := by rw [timersOk, s.accepted_timers]; exact fine
    simp only [State.regPut, block, off, timersWrite_at _ n inside]
    rw [timersOk_timerWritten other, s.accepted_timers, s.accepted_now, s.accepted_d02]
    exact unsound

end

/-! ### TIM_RST -/

theorem Timer.write_rst (t : Timer) (n now d02 v : Nat) :
    t.write n now d02 0x8 v = if 10 ≤ n ∧ v.testBit 0 = true then t.restart now d02 else t := by
  by_cases low : n < 10
  · simp [Timer.write, low, Nat.not_le.mpr low]
  · simp [Timer.write, low, Nat.not_lt.mp low]

/-- A timer restarted counts up from 0 with its preloads; a capture of its tick holds count 0 (R295, Table 15-4). -/
theorem Timer.restart_count (t : Timer) (now d02 : Nat) : (t.restart now d02).count d02 = (0, true) := by
  have start : (t.restart now d02).phase d02 = 0 := by
    have at_ : (t.restart now d02).valleyAt = d02 := rfl
    simp [Timer.phase, at_]
  unfold Timer.count
  rw [start]
  exact if_pos (Nat.lt_of_lt_of_le Nat.zero_lt_one (Nat.le_max_left _ _))

theorem timRst_completes {s : State} {h : Hdr} {ses : Session} {v : Word} (n : Fin 16) (fine : timersOk s = true)
    (ok : WriteOk s h (0x00090008 + 0x1000 * n.val) v ses) :
    if 10 ≤ n.val ∧ v.getLsbD 0 = true then
      ∃ u, Completes (.timRst h n v) s h 0x11 stOk [] u ∧ u = s.gtEdges (s.updTimer n fun t => t.restart s.now s.d02) ∧
        ((u.timers.get n).count s.d02) = (0, true) ∧ (u.timers.get n).active = (s.timers.get n).preload ∧
        (u.timers.get n).capValid = ((s.timers.get n).capValid && decide ((s.timers.get n).capAt = some s.now)) ∧
        ((s.timers.get n).capAt = some s.now → (u.timers.get n).capCount = 0 ∧ (u.timers.get n).capDir = true)
    else Completes (.timRst h n v) s h 0x11 stOk [] s := by
  obtain ⟨block, off⟩ := stride_block 9 (o := 8) (k := n.val) (by omega)
  have mine := (timersOk_iff.mp fine) n
  have check : timerCheck n.val 0x8 v.toNat = true := by simp [timerCheck]
  have sound : ((s.timers.get n).write n.val s.now s.d02 0x8 v.toNat).gtOk = true := by
    rw [Timer.write_rst]
    split <;> exact mine
  have written := timerWrite_completes (i := .timRst h n v) ok rfl block off (by decide) fine check sound
  simp only [Timer.write_rst] at written
  split
  · next runs =>
    have runs' : 10 ≤ n.val ∧ v.toNat.testBit 0 = true := runs
    simp only [runs', and_self, if_true] at written
    refine ⟨_, written, rfl, ?_⟩
    rw [State.timerWritten_timer]
    refine ⟨Timer.restart_count _ _ _, rfl, congrArg ((s.timers.get n).capValid && ·) (beq_eq_decide _ _), fun caught => ?_⟩
    simp [Timer.restart, caught]
  · next idle =>
    have idle' : ¬ (10 ≤ n.val ∧ v.toNat.testBit 0 = true) := idle
    simp only [idle', if_false, State.timerWritten_id] at written
    exact written

/-! ### TIM_GT_FUNC -/

theorem timerCheck_gtFunc (n : Nat) (a : Fin 2) (v : Nat) :
    timerCheck n (0x90 + 4 * a.val) v = (!gtSlot n a.val || decide (v % 8 ≤ 5)) := by
  by_cases low : n < 10
  · simp [timerCheck, low, gtSlot, Nat.not_le.mpr low]
  · fin_cases a <;> simp [timerCheck, low]

theorem Timer.write_gtFunc (t : Timer) (n now d02 v : Nat) (a : Fin 2) : t.write n now d02 (0x90 + 4 * a.val) v =
    if gtSlot n a.val then
      { t with gtFunc := bankSet t.gtFunc a (v % 8), capLevel := if v % 8 = 5 then none else t.capLevel }.refresh d02
    else t := by
  by_cases low : n < 10
  · fin_cases a <;> simp [Timer.write, low, gtSlot, Nat.not_le.mpr low]
  · fin_cases a <;> simp [Timer.write, low]

theorem timGtFuncWrite_completes {s : State} {h : Hdr} {ses : Session} {v : Word} (n : Fin 16) (a : Fin 2) (fine : timersOk s = true)
    (ok : WriteOk s h (0x00090090 + 0x1000 * n.val + 4 * a.val) v ses) :
    let g := bankSet (s.timers.get n).gtFunc a (v.toNat % 8)
    if gtSlot n.val a.val = false then Completes (.timGtFuncWrite h n a v) s h 0x11 stOk [] s
    else if v.toNat % 8 ≤ 5 ∧ ¬ (g.get 0 = 5 ∧ g.get 1 = 5) then
      Completes (.timGtFuncWrite h n a v) s h 0x11 stOk []
        (s.gtEdges (s.updTimer n fun t =>
          { t with gtFunc := g, capLevel := if v.toNat % 8 = 5 then none else t.capLevel }.refresh s.d02))
    else Completes (.timGtFuncWrite h n a v) s h 0x11 eParam [] s := by
  intro g
  have block : (0x00090090 + 0x1000 * n.val + 4 * a.val) / 0x10000 = 9 := by omega
  have off : (0x00090090 + 0x1000 * n.val + 4 * a.val) % 0x10000 = 0x90 + 4 * a.val + 0x1000 * n.val := by omega
  have inside : 0x90 + 4 * a.val < 0x1000 := by omega
  have mine := (timersOk_iff.mp fine) n
  have check := timerCheck_gtFunc n.val a v.toNat
  have written := timerWrite_completes (i := .timGtFuncWrite h n a v) ok rfl block off inside fine
  have refused := timerWrite_refused (i := .timGtFuncWrite h n a v) ok rfl block off inside fine
  simp only [Timer.write_gtFunc, check] at written refused
  split
  · next none =>
    simp only [none, Bool.not_false, Bool.true_or, Bool.false_eq_true, if_false, State.timerWritten_id] at written
    exact written trivial mine
  · next slot =>
    have slot : gtSlot n.val a.val = true := by simpa using slot
    simp only [slot, Bool.not_true, Bool.false_or, if_true] at written refused
    split
    · next good =>
      obtain ⟨range, one⟩ := good
      have put := written (decide_eq_true range) (Timer.gtOk_iff.mpr one)
      have here : (s.timerWritten n fun t =>
          { t with gtFunc := bankSet t.gtFunc a (v.toNat % 8),
                   capLevel := if v.toNat % 8 = 5 then Option.none else t.capLevel }.refresh s.d02) =
          s.gtEdges (s.updTimer n fun t =>
            { t with gtFunc := g, capLevel := if v.toNat % 8 = 5 then Option.none else t.capLevel }.refresh s.d02) := rfl
      rwa [here] at put
    · next bad =>
      refine refused ?_
      by_cases range : v.toNat % 8 ≤ 5
      · refine .inr (Bool.eq_false_iff.mpr fun sound => bad ⟨range, Timer.gtOk_iff.mp sound⟩)
      · exact .inl (decide_eq_false range)

end Sys2Proof.Machine
end

section
/-! PROOFS. Writes of IG_FAULT, MX_STATUS, DIM_CFG and STAGE_CTRL (R352, R360, R364 to R366). -/

namespace Sys2Proof.Machine

/-! ### IG_FAULT -/

/-- A sink of the group as a clear of its group's faults leaves it (R360). -/
def Sink.faultCleared (g : Fin 8) (latch : Bool) (v : Nat) (x : Sink) : Sink :=
  if x.group = some g then
    let x1 := if latch then { x with apCode := 0, apDuty := 0 } else x
    if v.testBit 1 ∧ x1.fail ≠ 0 then { x1 with fail := 0, shortRun := 0, apCode := 0, apDuty := 0 } else x1
  else x

/-- The group after the clear. -/
def Group.faultCleared (v : Nat) (g : Group) : Group :=
  let g1 := if v.testBit 1 then { g with sinkFail := false } else g
  let g2 := if v.testBit 0 then { g1 with latched := false, cause := 0 } else g1
  { g2 with faultSink := if g2.latched || g2.sinkFail then g2.faultSink else 255 }

theorem State.igFaultClear_eq (s : State) (g : Fin 8) (v : Nat) : s.igFaultClear g v =
    ((forAll s fun u n => u.updSink n (Sink.faultCleared g ((s.group g).latched && v.testBit 0) v)).updGroup g
      (Group.faultCleared v)).lampRefresh := rfl

theorem Sink.faultCleared_fail {x : Sink} {g : Fin 8} {v : Nat} (own : x.group = some g) (bit : v.testBit 1 = true) (latch : Bool) :
    (x.faultCleared g latch v).fail = 0 := by
  unfold Sink.faultCleared
  rw [if_pos own]
  dsimp only
  generalize (if latch = true then { x with apCode := 0, apDuty := 0 } else x) = y
  split
  · rfl
  · next sound =>
    by_contra bad
    exact sound ⟨bit, bad⟩

theorem Group.faultCleared_latched (g : Group) (v : Nat) : (g.faultCleared v).latched = (g.latched && !v.testBit 0) := by
  unfold Group.faultCleared
  cases v.testBit 0 <;> cases v.testBit 1 <;> simp

theorem Group.faultCleared_sinkFail (g : Group) (v : Nat) : (g.faultCleared v).sinkFail = (g.sinkFail && !v.testBit 1) := by
  unfold Group.faultCleared
  cases v.testBit 0 <;> cases v.testBit 1 <;> simp

/-- What a clear of a group's faults does, and what it leaves alone. -/
theorem State.igFaultClear_acts (s : State) (g : Fin 8) (v : Nat) :
    let t := s.igFaultClear g v
    LightMoves s t ∧ t.group g = (s.group g).faultCleared v ∧ (∀ k, k ≠ g → t.group k = s.group k) ∧
      ∀ n, t.illum.sinks.get n = (s.illum.sinks.get n).faultCleared g ((s.group g).latched && v.testBit 0) v := by
  obtain ⟨sinks, all, each⟩ := forAll_updSink s fun _ => Sink.faultCleared g ((s.group g).latched && v.testBit 0) v
  dsimp only
  rw [State.igFaultClear_eq, all]
  have start : LightMoves s ((s.updIllum fun i => { i with sinks := sinks }).updGroup g (Group.faultCleared v)) := rfl
  have moves := start.trans (State.lampRefresh_light _)
  have light := (State.lampRefresh_sameLight ((s.updIllum fun i => { i with sinks := sinks }).updGroup g (Group.faultCleared v))).1
  generalize State.lampRefresh _ = t at moves light
  refine ⟨moves, ?_, fun k other => ?_, fun n => ?_⟩
  · rw [State.group, light]
    exact bankUpd_get_self _ _ _
  · rw [State.group, light]
    exact (bankUpd_get _ _ _ _).trans (if_neg other.symm)
  · rw [light]
    exact each n

section
variable {s : State} {h : Hdr} {ses : Session} {v : Word}

theorem igFaultClear_completes (g : Fin 8) (ok : WriteOk s h (0x000C000C + 0x1000 * g.val) v ses) :
    ∃ t, exec (.igFaultClear h g v) s = .next t ∧ Replied s t h 0x11 stOk [] ∧
      (t.group g).latched = ((s.group g).latched && !v.getLsbD 0) ∧ (t.group g).sinkFail = ((s.group g).sinkFail && !v.getLsbD 1) ∧
      (∀ k, k ≠ g → t.group k = s.group k) ∧
      (∀ n, (s.illum.sinks.get n).group ≠ some g → t.illum.sinks.get n = s.illum.sinks.get n) ∧
      (∀ n, (s.illum.sinks.get n).group = some g → v.getLsbD 1 = true → (t.illum.sinks.get n).fail = 0) ∧
      t.axes = s.axes ∧ t.mem = s.mem ∧ t.leases = s.leases := by
  obtain ⟨block, off⟩ := stride_block 0xC (o := 0xC) (k := g.val) (by omega)
  have low : 0xC + 0x1000 * g.val < 0x8000 := by omega
  have status : s.regStatus h.port (0x000C000C + 0x1000 * g.val) v.toNat = stOk := by
    have fine : illumCheck s (0xC + 0x1000 * g.val) v.toNat = true := by
      unfold illumCheck
      rw [if_neg (by omega), if_neg (by omega), if_neg (by omega), if_neg (by omega), if_neg (by omega)]
    simp only [State.regStatus, block, off, fine]
    rfl
  have put : (s.accepted h).regPut h.port (0x000C000C + 0x1000 * g.val) v.toNat = (s.accepted h).igFaultClear g v.toNat := by
    simp only [State.regPut, block, off, illumWrite, low, dite_true, stride_mod (show 0xC < 0x1000 by decide),
      stride_div (show 0xC < 0x1000 by decide), if_true]
  obtain ⟨row, replied⟩ := write_answers (i := .igFaultClear h g v) ok rfl (by omega) status (by omega)
  obtain ⟨moves, own, others, sinks⟩ := (s.accepted h).igFaultClear_acts g v.toNat
  rw [put] at row replied
  refine ⟨_, row, replied, ?_⟩
  generalize (s.accepted h).igFaultClear g v.toNat = u at moves own others sinks
  unfold LightMoves at moves
  simp only [State.accepted_group, State.accepted_illum] at own others sinks
  have lit (t : Ticket) : (u.reply t stOk []).illum = u.illum := State.reply_illum _ _ _ _
  simp only [State.group, lit, State.reply_axes, State.reply_mem, State.reply_leases] at own others ⊢
  refine ⟨own ▸ Group.faultCleared_latched _ _, own ▸ Group.faultCleared_sinkFail _ _, others,
    fun n other => ?_, fun n mine bit => ?_, ?_, ?_, ?_⟩
  · rw [sinks, Sink.faultCleared, if_neg other]
  · rw [sinks]
    exact Sink.faultCleared_fail mine bit _
  · rw [moves]; exact s.accepted_axes h
  · rw [moves]; exact s.accepted_mem h
  · rw [moves]; exact s.accepted_leases h

/-! ### MX_STATUS and STAGE_CTRL -/

theorem mxFaultClear_completes (ok : WriteOk s h 0x000C8004 v ses) : Completes (.mxFaultClear h v) s h 0x11 stOk []
    (s.updMatrix fun m => { m with fault := m.fault && !v.getLsbD 1 }) :=
  write_puts ok rfl (by decide) (by simp [State.regStatus, illumCheck, inRange])
    (fun u => u.updMatrix fun m => { m with fault := m.fault && !v.toNat.testBit 1 })
    (fun u => by simp [State.regPut, illumWrite]) (fun nine => absurd nine (by decide)) fun _ => rfl

theorem stageCtrlClr_completes (ok : WriteOk s h 0x000CF018 v ses) :
    ∃ t, exec (.stageCtrlClr h v) s = .next t ∧ Replied s t h 0x11 stOk [] ∧
      t.illum.stage = (if v.getLsbD 0 = true ∧ s.illum.stage.st = .fault then
        { s.illum.stage with st := .idle, ovpAt := [] } else s.illum.stage) ∧
      t.illum.sinks = s.illum.sinks ∧ t.axes = s.axes ∧ t.mem = s.mem ∧ t.leases = s.leases := by
  obtain ⟨row, replied⟩ := write_answers (i := .stageCtrlClr h v) ok rfl (by decide)
    (by simp [State.regStatus, illumCheck, inRange]) (by decide)
  have put (u : State) : u.regPut h.port 0x000CF018 v.toNat = if v.getLsbD 0 then
      (u.updStage fun x => if x.st = .fault then { x with st := .idle, ovpAt := [] } else x).lampRefresh else u := by
    have bit : v.getLsbD 0 = v.toNat.testBit 0 := rfl
    rw [bit]
    simp [State.regPut, illumWrite]
  rw [put] at row replied
  refine ⟨_, row, replied, ?_⟩
  simp only [State.reply_illum, State.reply_axes, State.reply_mem, State.reply_leases]
  cases v.getLsbD 0 with
  | false => simp
  | true =>
    have moves := State.lampRefresh_light
      ((s.accepted h).updStage fun x => if x.st = .fault then { x with st := .idle, ovpAt := [] } else x)
    have light := (State.lampRefresh_sameLight
      ((s.accepted h).updStage fun x => if x.st = .fault then { x with st := .idle, ovpAt := [] } else x)).1
    simp only [if_true]
    generalize State.lampRefresh _ = u at moves light
    unfold LightMoves at moves
    rw [light, moves]
    simp [State.updStage, State.updIllum]

/-! ### DIM_CFG -/

theorem dimCfgWrite_completes (ok : WriteOk s h 0x000CF000 v ses) :
    let c := v.toNat % 64
    if 1 ≤ c ∧ s.dimFits c = true then
      Completes (.dimCfgWrite h v) s h 0x11 stOk [] ((s.updIllum fun i =>
          { i with dimC := c, dimUse := if i.valleyTick = s.now ∧ 0 < s.now then c else i.dimUse }).updTimer 8 fun t =>
        t.writePreload s.d02 fun x => { x with pre := 0, top := 32768 * c })
    else Completes (.dimCfgWrite h v) s h 0x11 eParam [] s := by
  intro c
  have status : s.regStatus h.port 0x000CF000 v.toNat = inRange (decide (1 ≤ c) && s.dimFits c) := by
    simp [State.regStatus, illumCheck, c]
  split
  · next fits =>
    refine write_puts ok rfl (by decide) (status.trans (by simp [fits, inRange])) (fun u => (u.updIllum fun i =>
        { i with dimC := c, dimUse := if i.valleyTick = u.now ∧ 0 < u.now then c else i.dimUse }).updTimer 8 fun t =>
        t.writePreload u.d02 fun x => { x with pre := 0, top := 32768 * c }) (fun u => ?_)
      (fun nine => absurd nine (by decide)) fun _ => rfl
    simp [State.regPut, illumWrite, c]
  · next bad =>
    refine write_outOfRange ok rfl (by decide) (.inl (status.trans ?_)) id
      (fun u => u.noteCam_elsewhere h.port _ _ (by decide)) fun _ => rfl
    have fails : (decide (1 ≤ c) && s.dimFits c) = false := by simpa using bad
    rw [fails]
    rfl

end

end Sys2Proof.Machine
end

section
/-! PROOFS. Writes of AXT_CTRL, SKT_CTRL and ENROL_CTRL (R170, R451, R452), and the register blocks together. -/

namespace Sys2Proof.Machine

/-! ### AXT_CTRL and SKT_CTRL -/

section
variable (s : State) (n : Fin 8) (v : Nat)

theorem linkCheck_axis : linkCheck s (0x800 + 0x1000 * n.val) v =
    if v.testBit 0 = true ∧ ¬ ((s.axis n).st = .disabled ∧ (s.axis n).zeroFrom = none) then eState else stOk := by
  have low : 0x800 + 0x1000 * n.val < 0x8000 := by omega
  simp only [linkCheck, low, dite_true, stride_mod (show 0x800 < 0x1000 by decide), stride_div (show 0x800 < 0x1000 by decide)]
  cases v.testBit 0 <;> simp [State.axis, ite_not, -not_and]

theorem linkCheck_group : linkCheck s (0x900 + 0x1000 * n.val) v =
    if v.testBit 0 = true ∧ ¬ (s.drive n = 0 ∧ s.illum.stage.st ≠ .fault) then eState else stOk := by
  have low : 0x900 + 0x1000 * n.val < 0x8000 := by omega
  simp only [linkCheck, low, dite_true, stride_mod (show 0x900 < 0x1000 by decide), stride_div (show 0x900 < 0x1000 by decide)]
  cases v.testBit 0 <;> simp [ite_not, -not_and]

/-- The test of an axis begins. -/
def State.axisTestBegun : State := s.updTest fun t =>
  { t with axis := bankUpd t.axis n fun x => { x with running := true, startAt := s.now } }

/-- The test of a group's sinks begins, the string supply at its least voltage or above. -/
def State.sinkTestBegun : State :=
  (s.updTest fun t =>
    { t with sink := bankUpd t.sink n fun x => { x with running := true, startAt := s.now, opens := 0, shorts := 0 } }).updStage
    fun x => if x.vstr < s.illum.vminDv * 100 then { x with set := s.illum.vminDv * 100 } else x

theorem linkWrite_axis : linkWrite s (0x800 + 0x1000 * n.val) v = if v.testBit 0 then s.axisTestBegun n else s := by
  have low : 0x800 + 0x1000 * n.val < 0x8000 := by omega
  simp only [linkWrite, low, dite_true, stride_mod (show 0x800 < 0x1000 by decide), stride_div (show 0x800 < 0x1000 by decide)]
  cases v.testBit 0 <;> simp [State.axisTestBegun]

theorem linkWrite_group : linkWrite s (0x900 + 0x1000 * n.val) v = if v.testBit 0 then s.sinkTestBegun n else s := by
  have low : 0x900 + 0x1000 * n.val < 0x8000 := by omega
  simp only [linkWrite, low, dite_true, stride_mod (show 0x900 < 0x1000 by decide), stride_div (show 0x900 < 0x1000 by decide)]
  cases v.testBit 0 <;> simp [State.sinkTestBegun]

end

/-- A register whose bit 0 starts a test of an object that must be at rest. -/
theorem testStart_completes {s : State} {h : Hdr} {ses : Session} {v : Word} {addr o : Nat} {i : Instr} {n : Fin 8} {f : State → State}
    {rest : Prop} [Decidable rest] (ok : WriteOk s h addr v ses) (row : exec i s = .next (s.writeOne h addr v))
    (block : addr / 0x10000 = 0xF) (off : addr % 0x10000 = o + 0x1000 * n.val)
    (check : linkCheck s (o + 0x1000 * n.val) v.toNat = if v.toNat.testBit 0 = true ∧ ¬ rest then eState else stOk)
    (put : ∀ u, linkWrite u (o + 0x1000 * n.val) v.toNat = if v.toNat.testBit 0 then f u else u)
    (blind : ∀ u, (f u).quiet = f u.quiet) :
    if v.getLsbD 0 = false then Completes i s h 0x11 stOk [] s
    else if rest then Completes i s h 0x11 stOk [] (f s)
    else Completes i s h 0x11 eState [] s := by
  have bit : v.toNat.testBit 0 = v.getLsbD 0 := rfl
  have status : s.regStatus h.port addr v.toNat = if v.getLsbD 0 = true ∧ ¬ rest then eState else stOk := by
    simp only [State.regStatus, block, off, check, bit]
  have done (u : State) : u.regPut h.port addr v.toNat = if v.getLsbD 0 then f u else u := by
    simp only [State.regPut, block, off, put, bit]
  split
  · next clear =>
    refine write_puts ok row (by omega) (status.trans (if_neg fun both => ne_true_of_eq_false clear both.1)) id (fun u => ?_)
      (by omega) fun _ => rfl
    rw [done, clear]
    rfl
  · next set =>
    have set : v.getLsbD 0 = true := by simpa using set
    split
    · next rests =>
      refine write_puts ok row (by omega) (status.trans (if_neg fun both => both.2 rests)) f (fun u => ?_) (by omega) blind
      rw [done, if_pos set]
    · next moves =>
      exact write_refused ok row (by omega) (status.trans (if_pos ⟨set, moves⟩)) (by decide) (by decide) (by omega)

/-! ### ENROL_CTRL -/

theorem State.readRange_frame (s : State) (p : Port) (r o l : Nat) : ∃ m, (s.readRange p r o l).2.1 = { s with mem := m } := by
  unfold State.readRange
  split
  · exact ⟨s.mem, rfl⟩
  · split
    · exact ⟨s.mem, rfl⟩
    · split
      · exact ⟨_, rfl⟩
      · exact ⟨s.mem, rfl⟩

theorem State.readRange_of_sound {s : State} {p : Port} {r o l : Nat} {x : Region} (here : s.region p r = some x)
    (inside : x.covers o l = true) (sound : s.firstBad x (s.domKey p) (linesOf o l) = none) :
    s.readRange p r o l = (stOk, s, s.rangeBytes x (s.domKey p) o l) := by
  simp only [State.readRange, here, inside, sound]
  rfl

/-- The fields of ENROL_CTRL as written. -/
def State.enrolNamed (s : State) (v : Nat) : State :=
  s.updKeys fun k => { k with enrOwner := bits 2 0 v, enrSlot := bits 5 4 v, enrOp := bits 9 8 v }

/-- An operation is at work, its write in the configuration store's queue. -/
def State.enrolTaken (s : State) (o : EnrolOp) : State := (s.updKeys fun k => { k with busy := some o }).storePush .enrolment none

/-- A write of ENROL_CTRL with GO puts its operation at work and in the configuration store's queue, the key of an enrolment read
at once (R170, R285). -/
theorem State.enrolWrite_acts (s : State) (p : Port) {v : Nat} (go : v.testBit 16 = true) :
    let t := s.enrolWrite p v
    ∃ o, t.keys.busy = some o ∧ o.owner = bits 2 0 v ∧ o.slot = bits 5 4 v ∧ o.op = bits 9 8 v ∧
      t.keys.enrolled = s.keys.enrolled ∧ t.store.queue = s.store.queue ++ [⟨.enrolment, none, s.now, none⟩] ∧
      ∀ r, bits 9 8 v = 1 → s.region p s.keys.enrRegion = some r → r.covers s.keys.enrOffset 97 = true →
        s.firstBad r (s.domKey p) (linesOf s.keys.enrOffset 97) = none →
        o.early = 0 ∧ o.key = s.rangeBytes r (s.domKey p) s.keys.enrOffset 97 := by
  intro t
  by_cases enrol : bits 9 8 v = 1
  · let r := (s.enrolNamed v).readRange p s.keys.enrRegion s.keys.enrOffset 97
    have read : t = r.2.1.enrolTaken ⟨p, bits 2 0 v, bits 5 4 v, bits 9 8 v, s.now,
        if r.1 = stOk then 0 else if r.1 = eIntegrity then 5 else 4, r.2.2⟩ :=
      (if_neg (not_not_intro go)).trans (if_pos enrol)
    obtain ⟨m, frame⟩ := State.readRange_frame (s.enrolNamed v) p s.keys.enrRegion s.keys.enrOffset 97
    change r.2.1 = _ at frame
    rw [frame] at read
    refine ⟨_, by rw [read]; rfl, rfl, rfl, rfl, by rw [read]; rfl, by rw [read]; rfl, fun x _ here inside sound => ?_⟩
    have bytes : r = _ := State.readRange_of_sound (s := s.enrolNamed v) here inside sound
    rw [bytes]
    exact ⟨rfl, rfl⟩
  · have named : t = (s.enrolNamed v).enrolTaken ⟨p, bits 2 0 v, bits 5 4 v, bits 9 8 v, s.now, 0, []⟩ :=
      (if_neg (not_not_intro go)).trans (if_neg enrol)
    rw [named]
    exact ⟨_, rfl, rfl, rfl, rfl, rfl, rfl, fun _ other => absurd other enrol⟩

/-- The fields of the value that ENROL and REVOKE write. -/
theorem enrolValue_fields (v : Word) {op : Nat} (known : op = 1 ∨ op = 2) :
    let w := (enrolValue v op).toNat
    w.testBit 16 = true ∧ bits 2 0 w = bits 2 0 v.toNat ∧ bits 5 4 w = bits 5 4 v.toNat ∧ bits 9 8 w = op := by
  have value : (enrolValue v op).toNat = v.toNat % 256 + op * 256 + 65536 := word_toNat (by omega)
  dsimp only
  rw [value]
  refine ⟨?_, ?_, ?_, ?_⟩
  · rw [Nat.testBit_eq_decide_div_mod_eq]
    exact decide_eq_true (by omega)
  all_goals
    unfold bits
    omega

theorem enrolWrite_completes {s : State} {h : Hdr} {ses : Session} {v : Word} {op : Nat} (known : op = 1 ∨ op = 2)
    (ok : WriteOk s h 0x00040148 (enrolValue v op) ses) :
    let i : Instr := if op = 1 then .enrol h v else .revoke h v
    let owner := bits 2 0 v.toNat
    let slot := bits 5 4 v.toNat
    if owner ≠ Port.id h.port ∧ h.port ≠ 3 then Completes i s h 0x11 ePort [] s
    else if owner = 0 ∨ 4 < owner then Completes i s h 0x11 eParam [] s
    else if s.keys.busy.isSome = true ∨ s.underTest 9 = true then Completes i s h 0x11 eBusy [] s
    else ∃ t o, exec i s = .next t ∧ Replied s t h 0x11 stOk [] ∧ t.keys.busy = some o ∧ o.owner = owner ∧ o.slot = slot ∧
      o.op = op ∧ t.keys.enrolled = s.keys.enrolled ∧
      t.store.queue = s.store.queue ++ [⟨.enrolment, none, s.now, none⟩] ∧
      ∀ r, op = 1 → s.region h.port s.keys.enrRegion = some r → r.covers s.keys.enrOffset 97 = true →
        s.firstBad r (s.domKey h.port) (linesOf s.keys.enrOffset 97) = none →
        o.early = 0 ∧ o.key = s.rangeBytes r (s.domKey h.port) s.keys.enrOffset 97 := by
  intro i owner slot
  have row : exec i s = .next (s.writeOne h 0x00040148 (enrolValue v op)) := by
    rcases known with rfl | rfl <;> rfl
  obtain ⟨go, ownerIs, slotIs, opIs⟩ := enrolValue_fields v known
  have status : s.regStatus h.port 0x00040148 (enrolValue v op).toNat =
      if owner ≠ Port.id h.port ∧ h.port ≠ 3 then ePort else if owner = 0 ∨ 4 < owner then eParam
      else if s.keys.busy.isSome = true ∨ s.underTest 9 = true then eBusy else stOk := by
    have checked : s.regStatus h.port 0x00040148 (enrolValue v op).toNat = s.enrolCheck h.port (enrolValue v op).toNat := by
      simp [State.regStatus, keysCheck]
    rw [checked]
    simp only [State.enrolCheck, go, ownerIs, opIs, known, not_true_eq_false, if_false, false_or]
    rfl
  split
  · next foreign =>
    exact write_refused ok row (by decide) (status.trans (if_pos foreign)) (by decide) (by decide) (by decide)
  · next own =>
    rw [if_neg own] at status
    split
    · next nobody =>
      exact write_outOfRange ok row (by decide) (.inl (status.trans (if_pos nobody))) id
        (fun u => u.noteCam_elsewhere h.port _ _ (by decide)) fun _ => rfl
    · next somebody =>
      rw [if_neg somebody] at status
      split
      · next busy =>
        exact write_refused ok row (by decide) (status.trans (if_pos busy)) (by decide) (by decide) (by decide)
      · next free =>
        obtain ⟨ran, replied⟩ := write_answers ok row (by decide) (status.trans (if_neg free)) (by decide)
        have put : (s.accepted h).regPut h.port 0x00040148 (enrolValue v op).toNat =
            (s.accepted h).enrolWrite h.port (enrolValue v op).toNat := by
          simp [State.regPut, keysWrite]
        rw [put] at ran replied
        obtain ⟨o, busy, ownerO, slotO, opO, enrolled, queue, key⟩ := (s.accepted h).enrolWrite_acts h.port go
        rw [ownerIs] at ownerO
        rw [slotIs] at slotO
        rw [opIs] at opO key
        simp only [State.accepted_keys, State.accepted_store, State.accepted_now] at enrolled queue key
        refine ⟨_, o, ran, replied, ?_, ownerO, slotO, opO, ?_, ?_, fun r enrol => ?_⟩
        · rw [State.reply_keys]; exact busy
        · rw [State.reply_keys]; exact enrolled
        · rw [State.reply_store]; exact queue
        · have mem : (s.accepted h).mem = s.mem := s.accepted_mem h
          have read := key r enrol
          simp only [State.region, State.firstBad, State.domKey, State.rangeBytes, mem] at read ⊢
          exact read

/-! ### The register blocks -/

/-- Settles O28, a register at a time. -/
theorem registerBlocksAct : Obligations.RegisterBlocksAct := by
  refine ⟨counterClears_act, ⟨fun _ _ _ k ok => lastFs0Read_completes k ok, fun _ _ _ ok => tbNow0Read_completes ok,
    fun _ _ _ n ok => timCntLoRead_completes n ok, fun s h n waits => ?gives, fun _ _ _ n ok now => timCapLoRead_completes n ok now,
    fun s h ses n ok => ⟨_, _, s.live_figures n, ltBitsLoRead_completes n ok⟩⟩, fun s h ses v => ⟨fun ok => ?halt,
    fun _ known ok => enrolWrite_completes known ok, fun k ok => camCommit_completes k ok,
    fun fine => ⟨fun n ok => timRst_completes n fine ok, fun n a ok => timGtFuncWrite_completes n a fine ok⟩,
    fun g ok => igFaultClear_completes g ok, mxFaultClear_completes, dimCfgWrite_completes, stageCtrlClr_completes,
    fun n ok => ?axis, fun g ok => ?sinks⟩⟩
  case gives => exact congrArg Host.Outcome.next (if_pos waits)
  case halt =>
    obtain ⟨halts, refused⟩ := dbgHaltWrite_completes ok
    split
    · next may => exact halts may
    · next may => exact refused may
  case axis =>
    obtain ⟨block, off⟩ := stride_block 0xF (o := 0x800) (k := n.val) (by omega)
    exact testStart_completes (i := .axtCtrlGo h n v) (f := (State.axisTestBegun · n)) ok rfl block off (linkCheck_axis s n v.toNat)
      (fun u => linkWrite_axis u n v.toNat) fun _ => rfl
  case sinks =>
    obtain ⟨block, off⟩ := stride_block 0xF (o := 0x900) (k := g.val) (by omega)
    exact testStart_completes (i := .sktCtrlGo h g v) (f := (State.sinkTestBegun · g)) ok rfl block off (linkCheck_group s g v.toNat)
      (fun u => linkWrite_group u g v.toNat) fun _ => rfl

end Sys2Proof.Machine
end
